-- ==== Sys2Proof/Word.lean ====
section
/-! DEFINITION. The word types of the block: the fabric carries 16-bit words (R9, R15) and the serial ports carry
bytes; word addresses are 24 bits wide (R397). -/

namespace Sys2Proof

/-- One fabric word: every address names one of these. -/
abbrev Word := BitVec 16

/-- One byte of a serial transaction. -/
abbrev Byte := BitVec 8

/-- A word address (R397). -/
abbrev Addr := BitVec 24

end Sys2Proof
end

