-- ==== Sys2Proof/Syntax.lean ====
section
/-! DEFINITION. The commands of the block: one constructor per row of spec/opcode_table.json, in the table's order,
with the operands that the surroundings supply (an index, a written value, a measured code, a pin level, the bytes
received on a serial port). An operand that says more of the event than its row names (a voltage, flipped symbols, what a
loss of supply has torn) comes last and has a default; the meanings take it after the state. -/

namespace Sys2Proof

/-- Motor m (R6). -/
abbrev MotorIx := Fin 16
/-- Supply group g, which is also Prism array p (R6). -/
abbrev GroupIx := Fin 4
/-- Half-bridge b (R6). -/
abbrev BridgeIx := Fin 48
/-- Feedback channel f (R6). -/
abbrev ChanIx := Fin 24
/-- Trace channel t (R6). -/
abbrev TraceIx := Fin 128
/-- Host port k (R6). -/
abbrev HostIx := Fin 4
/-- Masters M0 to M6 of R7; M7 has no port logic. -/
abbrev Master := Fin 7
/-- Thermal sensor s (R451). -/
abbrev SensorIx := Fin 5

/-- A finding that declares a device fault (R416). -/
inductive DfFind where
  /-- An uncorrectable word of configuration RAM, named by the register's word address. -/
  | cfgUe (a : Addr)
  /-- An uncorrectable word of state RAM, named by its internal index. -/
  | stateUe (ix : BitVec 24)
  /-- An uncorrectable word at a fabric sink, named by the word address. -/
  | fabricUe (a : Addr)
  /-- Loss of PLL_CORE lock. -/
  | pll
  /-- A loader failure. -/
  | loader
  deriving DecidableEq, Repr

/-- What JESD216 discovery read from the flash (R364): the SFDP signature, the address of the basic parameter table,
its revision and its double words in order. -/
structure Sfdp where
  signature : BitVec 32
  table : BitVec 24
  major : Nat
  minor : Nat
  dwords : List (BitVec 32)
  deriving DecidableEq, Repr

/-- What a reset cuts short in the device log and the trace store (R333, R413, R415): nothing; the commit of the oldest
queued record in its intent copy, in the slot, in the result copy, or between the first two; or a unit of the device log
that was being written: SESSION, the soft-repair table, or a copy of the books. -/
inductive CommitCut where
  | none | intent | slot | result | gap | session | repair | books
  deriving DecidableEq, Repr

/-- A unit of the device log (R413, R415). -/
inductive LogUnit where
  | copyA | copyB | session | repair
  deriving DecidableEq, Repr

/-- A word of the device log that differs from its code word by `err` when it is read: the unit, and the word's internal
index (R407, R408). -/
structure LogFind where
  unit : LogUnit
  index : BitVec 24
  err : BitVec 28
  deriving DecidableEq, Repr

/-- A read by an engine of a word of configuration RAM, at its word address, or of state RAM, at its internal index, with the
bits by which it differs from its code word (R407, R408). -/
structure RamFind where
  state : Bool
  addr : Nat
  err : BitVec 28
  deriving DecidableEq, Repr

/-- Where HCSk_N rose, for the rows of R394 that are marked FRAME. -/
inductive FramePoint where
  /-- Inside the command byte, or inside C1. -/
  | command
  /-- Inside a word of a READ at offset `a`, after `n` whole words, those of `late` among them late (R391). -/
  | readWord (a : BitVec 6) (n : Nat) (late : List Nat := [])
  /-- Inside a CRC byte of a READ, `n` words sent in full. -/
  | readCrc (a : BitVec 6) (n : Nat) (late : List Nat := [])
  /-- Inside a word of a GETPAGE, after `n` whole words. -/
  | getpageWord (n : Nat := 0)
  /-- Inside a word of a WRITE with CRCEN 0, whose words `ws` were complete. -/
  | writeWord (a : BitVec 6) (ws : List Word)
  /-- Inside the first word of a PAGE with CRCEN 0. -/
  | pageWord
  /-- WRITE or PAGE with CRCEN 1 and a data phase that is neither 0 nor 16w + 8 bits. -/
  | crcLength
  deriving DecidableEq, Repr

/-- Bits by which a 28-bit word of a host transaction differs from its code word (R18, R407, R408): word `word` of the
transaction, in the memory it is read from (`ram`) or on the fabric. -/
structure Flip where
  word : Nat
  ram : Bool
  err : BitVec 28
  deriving DecidableEq, Repr

/-- Where HCSk_N rises in a transaction whose data the command gives (R394): where the data end, before the first status
byte is out in full, or after a status byte and before the data. With `clock` the command begins no transaction: the
host clocks one more status byte of the one that waits on its port (R386). -/
inductive HostRise where
  | done | early | status | clock
  deriving DecidableEq, Repr

/-- How the data phase of a host transaction ends (R394): on a word or CRC boundary, inside a word, or inside a CRC byte. -/
inductive DataRise where
  | boundary | inWord | inCrc
  deriving DecidableEq, Repr

/-- The data phase of a host transaction, as the host carries it out: the words that it clocks out of a READ or GETPAGE
and those of them that are late (R391), the words and C2 of a WRITE or PAGE, what its words meet in memory and on the
fabric, a device fault that falls into it, and how it ends. -/
structure HostArgs where
  n : Nat := 0
  late : List Nat := []
  ws : List Word := []
  c2 : Byte := 0
  flips : List Flip := []
  fault : Option (Nat × List DfFind) := none
  rise : DataRise := .boundary
  deriving DecidableEq, Repr

/-- A failing word found by a BIST (R475): internal index, lowest failing bit, march element and background. -/
structure BistFail where
  index : Nat
  bit : Nat
  elem : Nat
  bg : Nat
  deriving DecidableEq, Repr

/-- Which ball of a feedback channel's pair rose (R253, R254). -/
inductive Ball where
  | a | b | both
  deriving DecidableEq, Repr

/-- The balls of the boundary register (R481): the host, memory-port, IRQ, BRK, BRKFB, GLO, DIST_OUT, CMD, FB, ABS, CPL_DET,
MIRROR_ID and RESET_N balls, and the clock inputs, which are observe-only. -/
inductive ScanBall where
  | hclk (k : Fin 4) | hcs (k : Fin 4) | hio (k : Fin 4) (i : Fin 4) | irq (k : Fin 4)
  | mclk | mcs0 | mcs1 | mio (i : Fin 8)
  | brk (g : Fin 4) | brkfb (g : Fin 4) | glo (m : Fin 16) | distOut | cmd (m : Fin 16)
  | fbA (f : Fin 24) | fbB (f : Fin 24) | absclk (m : Fin 16) | absdat (m : Fin 16)
  | cplDet | mirrorId | resetN | ckRef | ckAdc
  deriving DecidableEq, Repr

/-- A trace channel register whose write restarts the channel under CFG (R287). -/
inductive TraceReg where
  | src | tag | rate
  deriving DecidableEq, Repr

/-- The staged key that a write programs (R468). -/
inductive KeyKind where
  | service | image
  deriving DecidableEq, Repr

/-- The commands and events of the block, in the order of spec/opcode_table.json. A command that writes a register
carries the master and the full word written; an event carries what only the surroundings can supply.
[DESIGN CHOICE, log 17] -/
inductive Instr where
  /-- RESET_ASSERT (R332) -/
  | resetAssert (lowNs : Nat) (cut : CommitCut := .none)
  /-- RESET_RELEASE (R334) -/
  | resetRelease (mirrorId : Bool)
  /-- PLL_CORE_LOCK (R34) -/
  | pllCoreLock
  /-- FUSE_READ_COMPLETE (R334) -/
  | fuseReadComplete
  /-- LOG_MIRROR_LOAD_COMPLETE (R335) -/
  | logMirrorLoadComplete (badTrace badSession badRepair : Bool) (finds : List LogFind := []) (slot : List (BitVec 28) := [])
  /-- RETURN_ERASE_COMPLETE (R470) -/
  | returnEraseComplete
  /-- DISCOVERY_COMPLETE (R364) -/
  | discoveryComplete (sf : Sfdp)
  /-- PASS1_COMPLETE (R342) -/
  | pass1Complete (slot : Fin 2) (words : List Word)
  /-- LOADER_WAIT_END (R341) -/
  | loaderWaitEnd (words : List Word) (reached : Bool := false) (errs : List (Addr × BitVec 28) := [])
  /-- PASS2_COMPLETE (R347) -/
  | pass2Complete (words : List Word) (errs errs2 : List (Addr × BitVec 28) := [])
  /-- CONFIG_DONE (R352) -/
  | configDone (k : Master)
  /-- CONFIG_RELOAD (R352) -/
  | configReload (k : Master) (done : Bool)
  /-- PLL_CORE_LOCK_LOSS (R417) -/
  | pllCoreLockLoss (held : Bool)
  /-- PLL_CORE_LOCK_RETURN (R416) -/
  | pllCoreLockReturn (cut : Vector Bool 4)
  /-- DEVICE_FAULT (R418) -/
  | deviceFault (finds : List DfFind) (cut : Vector Bool 4) (fails : List BistFail := [])
  /-- DEVICE_FAULT_HOLD_END (R419) -/
  | deviceFaultHoldEnd (m : MotorIx)
  /-- SCRUB_READ (R410) -/
  | scrubRead (err : BitVec 28) (firsts : List RamFind := []) (cut : Vector Bool 4 := Vector.replicate 4 false)
  /-- CORRECTION_WRITEBACK (R411) -/
  | correctionWriteback
  /-- FRAME_START (R19) -/
  | frameStart (g : GroupIx)
  /-- APPLY_DEADLINE (R28) -/
  | applyDeadline (g : GroupIx)
  /-- GRANT_POINT (R137) -/
  | grantPoint (g : GroupIx)
  /-- LOOP_COMPUTATION (R109) -/
  | loopComputation (m : MotorIx)
  /-- KISS_SEARCH_TIMEOUT (R129) -/
  | kissSearchTimeout (m : MotorIx)
  /-- CARRIER_START (R55) -/
  | carrierStart (m : MotorIx)
  /-- COMMUTATION (R52) -/
  | commutation (m : MotorIx)
  /-- SAMPLE_TICK (R94) -/
  | sampleTick (m : MotorIx) (u v w : Int)
  /-- ZC_WINDOW_CLOSE (R96) -/
  | zcWindowClose (m : MotorIx)
  /-- ALIGN1_END (R88) -/
  | align1End (m : MotorIx)
  /-- ALIGN2_END (R90) -/
  | align2End (m : MotorIx)
  /-- RAMP_TIMEOUT (R92) -/
  | rampTimeout (m : MotorIx)
  /-- STABILITY_WINDOW_END (R92) -/
  | stabilityWindowEnd (m : MotorIx)
  /-- BACKOFF_END (R93) -/
  | backoffEnd (m : MotorIx)
  /-- COAST_END (R103) -/
  | coastEnd (m : MotorIx)
  /-- CATCH_TIMEOUT (R106) -/
  | catchTimeout (m : MotorIx)
  /-- RECCNT_RESET (R103) -/
  | reccntReset (m : MotorIx)
  /-- BRAKE_END (R70) -/
  | brakeEnd (m : MotorIx)
  /-- MOTOR_ENABLE (R48) -/
  | motorEnable (k : Master) (m : MotorIx) (v : Word)
  /-- MOTOR_DISABLE (R80) -/
  | motorDisable (k : Master) (m : MotorIx) (v : Word)
  /-- FLT_CLEAR (R74) -/
  | fltClear (k : Master) (m : MotorIx) (v : Word)
  /-- CMD_EDGE (R76) -/
  | cmdEdge (m : MotorIx) (high : Nat)
  /-- CMD_LOST_TIMEOUT (R78) -/
  | cmdLostTimeout (m : MotorIx)
  /-- HDEM_WRITE (R120) -/
  | hdemWrite (k : Master) (m : MotorIx) (v : Word)
  /-- HOST_DEMAND_TIMEOUT (R120) -/
  | hostDemandTimeout (m : MotorIx)
  /-- HREL (R120) -/
  | hrel (k : Master) (m : MotorIx) (v : Word)
  /-- KISSREF_HI_WRITE (R128) -/
  | kissrefHiWrite (k : Master) (m : MotorIx) (v : Word)
  /-- DEAD_TIME_END (R154) -/
  | deadTimeEnd (b : BridgeIx)
  /-- BLANKING_END (R167) -/
  | blankingEnd (b : BridgeIx) (vds : Int := 0)
  /-- DESAT_DETECT (R167) -/
  | desatDetect (b : BridgeIx) (vds : Int := 0)
  /-- BOOTSTRAP_UV_ASSERT (R164) -/
  | bootstrapUvAssert (b : BridgeIx)
  /-- BOOTSTRAP_UV_RELEASE (R164) -/
  | bootstrapUvRelease (b : BridgeIx)
  /-- GATE_SUPPLY_UV_ASSERT (R161) -/
  | gateSupplyUvAssert (g : GroupIx)
  /-- GATE_SUPPLY_UV_RELEASE (R161) -/
  | gateSupplyUvRelease (g : GroupIx)
  /-- GATE_REPORT_DELIVERY (R177) -/
  | gateReportDelivery
  /-- GATE_SUPPLY_LOSS (R181) -/
  | gateSupplyLoss (g : GroupIx)
  /-- GATE_DIE_READY (R179) -/
  | gateDieReady (g : GroupIx)
  /-- CURRENT_LIMIT_LATCH (R201) -/
  | currentLimitLatch (m : MotorIx) (x : Int := 0)
  /-- LEADING_EDGE_BLANKING_END (R201) -/
  | leadingEdgeBlankingEnd (m : MotorIx)
  /-- HARD_SHORT_LATCH (R204) -/
  | hardShortLatch (m : MotorIx) (x : Int := 0)
  /-- BUS_COMPARATOR_LATCH (R206) -/
  | busComparatorLatch (g : GroupIx) (x : Int := 0)
  /-- GLINT_CHECK_OFF (R209) -/
  | glintCheckOff (k : Master) (v : Word)
  /-- GLINT_DAC_READBACK (R209) -/
  | glintDacReadback (k : Master) (v : Word)
  /-- GLINT_SWAP (R210) -/
  | glintSwap (k : Master) (v : Word)
  /-- GLINT_TIE_LOW (R210) -/
  | glintTieLow (k : Master) (v : Word)
  /-- GLINT_TIE_HIGH (R210) -/
  | glintTieHigh (k : Master) (v : Word)
  /-- CHOPPER_FEEDBACK_TIMEOUT (R193) -/
  | chopperFeedbackTimeout (g : GroupIx) (fb : Bool)
  /-- CHOPPER_TEST_PULSE (R194) -/
  | chopperTestPulse (k : Master) (g : GroupIx) (v : Word)
  /-- CHOPPER_TEST_PULSE_END (R194) -/
  | chopperTestPulseEnd (g : GroupIx)
  /-- CONVERSION_SLOT (R212) -/
  | conversionSlot (p : GroupIx)
  /-- SAMPLE_ENTRY (R213) -/
  | sampleEntry (p : GroupIx) (raw : Word)
  /-- ACCUMULATOR_CLOSE (R236) -/
  | accumulatorClose (p : GroupIx) (a : Fin 64)
  /-- SYNC_TICK (R226) -/
  | syncTick (p : GroupIx)
  /-- IDLE_ENTRY_END (R230) -/
  | idleEntryEnd (p : GroupIx)
  /-- SLICE_WAKE (R230) -/
  | sliceWake (p : GroupIx)
  /-- SEQUENCER_RUN (R228) -/
  | sequencerRun (k : Master) (p : GroupIx) (v : Word)
  /-- SEQUENCER_STOP (R228) -/
  | sequencerStop (k : Master) (p : GroupIx) (v : Word)
  /-- URGENT_REQUEST (R232) -/
  | urgentRequest (k : Master) (p : GroupIx) (v : Word)
  /-- COEFFICIENT_UPDATE (R220) -/
  | coefficientUpdate (p : GroupIx)
  /-- TRACKER_RESTART (R242) -/
  | trackerRestart (k : Master) (p : GroupIx) (t : Fin 32) (v : Word)
  /-- PLL_PRISM_LOCK_LOSS (R245) -/
  | pllPrismLockLoss
  /-- PLL_PRISM_LOCK_RETURN (R245) -/
  | pllPrismLockReturn
  /-- FEEDBACK_EDGE (R253) -/
  | feedbackEdge (f : ChanIx) (ball : Ball) (bHigh : Bool)
  /-- GLITCH (R262) -/
  | glitch (f : ChanIx)
  /-- SPEED_DECAY (R260) -/
  | speedDecay (f : ChanIx)
  /-- ZERO_SPEED_TIMEOUT (R260) -/
  | zeroSpeedTimeout (f : ChanIx)
  /-- POSITION_SEED (R256) -/
  | positionSeed (k : Master) (f : ChanIx) (v : Word)
  /-- ABS_CHECK_REQUEST (R267) -/
  | absCheckRequest (k : Master) (f : ChanIx) (v : Word)
  /-- ABS_CHECK_PERIOD (R267) -/
  | absCheckPeriod (f : ChanIx)
  /-- ABS_TRANSFER_COMPLETE (R264) -/
  | absTransferComplete (f : ChanIx) (ready : Bool) (word : BitVec 32) (parity : Bool)
  /-- LEAVE_FALLBACK (R271) -/
  | leaveFallback (k : Master) (f : ChanIx) (v : Word)
  /-- DIST_OUT_ENABLE (R272) -/
  | distOutEnable (k : Master) (v : Word)
  /-- DIST_PULSE_END (R273) -/
  | distPulseEnd
  /-- DIST_GAP_END (R273) -/
  | distGapEnd
  /-- TRACE_TICK (R277) -/
  | traceTick
  /-- TRACE_RECORD_COMMIT (R290) -/
  | traceRecordCommit
  /-- HOST_FED_WRITE (R280) -/
  | hostFedWrite (k : Master) (t : TraceIx) (v : Word)
  /-- TRACE_CHANNEL_ENABLE (R287) -/
  | traceChannelEnable (k : Master) (t : TraceIx) (v : Word)
  /-- TRACE_CHANNEL_DISABLE (R287) -/
  | traceChannelDisable (k : Master) (t : TraceIx) (v : Word)
  /-- TRACE_CHANNEL_CONFIG (R287) -/
  | traceChannelConfig (k : Master) (t : TraceIx) (reg : TraceReg) (v : Word)
  /-- TRACE_MARK (R283) -/
  | traceMark (k : Master) (v : Word)
  /-- TRACE_STORE_EMPTY (R291) -/
  | traceStoreEmpty (k : Master) (v : Word)
  /-- TRACE_STORE_READ (R289) -/
  | traceStoreRead (k : Master) (a : Addr) (errs : List (BitVec 28))
  /-- WHEEL_PULSE (R307) -/
  | wheelPulse (i : Fin 2)
  /-- UMBRA_CONVERSION (R303) -/
  | umbraConversion (code : Word)
  /-- STILL (R304) -/
  | still
  /-- DISTANCE_RECORD_HOUR (R309) -/
  | distanceRecordHour
  /-- UMBRA_COUPLING_QUALIFY (R310) -/
  | umbraCouplingQualify (level : Bool)
  /-- SEAL_OPEN (R315) -/
  | sealOpen
  /-- SEAL_CLOSE (R317) -/
  | sealClose
  /-- UTIME_SECOND (R322) -/
  | utimeSecond
  /-- RTC_STOP (R302) -/
  | rtcStop
  /-- UMBRA_START (R322) -/
  | umbraStart (bistOk : Bool) (errs : List (Nat × BitVec 28) := [])
  /-- UMBRA_SUPPLY_LOSS (R317) -/
  | umbraSupplyLoss (torn : Bool := false) (set : Option Nat := none)
  /-- STATUS (R326) -/
  | status (crc : Byte) (op : Byte := 1)
  /-- READ_SLOT (R326) -/
  | readSlot (area : Byte) (index : Word) (crc : Byte) (errs : List (BitVec 28) := [])
  /-- READ_PARAM (R326) -/
  | readParam (addr : Word) (count : Byte) (crc : Byte) (errs : List (BitVec 28) := [])
  /-- WRITE_PARAM (R316) -/
  | writeParam (addr : Word) (count : Byte) (ws : List Word) (crc : Byte)
  /-- WEIGH (R304) -/
  | weigh (crc : Byte)
  /-- SET_TIME (R301) -/
  | setTime (t : BitVec 32) (crc : Byte)
  /-- KEY (R321) -/
  | key (ku : BitVec 128) (id : Word) (crc : Byte)
  /-- DIST_REC (R309) -/
  | distRec (crc : Byte)
  /-- MAILBOX_UPDATE (R43) -/
  | mailboxUpdate
  /-- MAILBOX_STALE (R329) -/
  | mailboxStale
  /-- COUPLING_SESSION_OPEN (R354) -/
  | couplingSessionOpen (qualified : Bool := true)
  /-- COUPLING_SESSION_CLOSE (R355) -/
  | couplingSessionClose (qualified : Bool := true)
  /-- PENDING_COUPLING_APPLY (R356) -/
  | pendingCouplingApply
  /-- QUEUE_RUN_START (R368) -/
  | queueRunStart (k : Master) (v : Word)
  /-- QUEUE_ENTRY_COMPLETE (R368) -/
  | queueEntryComplete (bytes : List Byte)
  /-- QUEUE_ABORT (R370) -/
  | queueAbort (k : Master) (v : Word)
  /-- RAW_SELECT (R371) -/
  | rawSelect (k : Master) (v : Word)
  /-- WINDOW_READ (R372) -/
  | windowRead (k : Master) (a : Addr) (err : BitVec 28 := 0)
  /-- LINE_FILL_COMPLETE (R373) -/
  | lineFillComplete (bytes : List Byte)
  /-- WINDOW_TIMEOUT (R375) -/
  | windowTimeout
  /-- FLASH_MASTER_START (R376) -/
  | flashMasterStart (highFor : Nat := 0)
  /-- MULTI_MASTER_FAULT (R377) -/
  | multiMasterFault
  /-- READ (R389) -/
  | read (k : HostIx) (a : BitVec 6) (n : Nat) (late : List Nat) (c1 : Byte) (flips : List Flip := []) (rise : HostRise := .done)
      (fault : Option (Nat × List DfFind) := none)
  /-- WRITE (R392) -/
  | write (k : HostIx) (a : BitVec 6) (ws : List Word) (c1 c2 : Byte) (flips : List Flip := []) (rise : HostRise := .done)
      (fault : Option (Nat × List DfFind) := none)
  /-- PAGE (R384) -/
  | page (k : HostIx) (a : BitVec 6) (w : Word) (c1 c2 : Byte) (more : List Word := []) (rise : HostRise := .done)
      (fault : Option (Nat × List DfFind) := none)
  /-- NOP (R384) -/
  | nop (k : HostIx) (c1 : Byte) (a : BitVec 6 := 0) (rise : HostRise := .done) (more : Nat := 0)
  /-- GETPAGE (R384) -/
  | getpage (k : HostIx) (c1 : Byte) (rise : HostRise := .done)
  /-- LANERESET (R395) -/
  | lanereset (k : HostIx)
  /-- HOST_FRAMING_FAULT (R394) -/
  | hostFramingFault (k : HostIx) (point : FramePoint) (c1Wrong : Bool := false)
  /-- DOORBELL_RING (R403) -/
  | doorbellRing (k : Master) (v : Word)
  /-- MIRROR_FRAME_SEND (R429) -/
  | mirrorFrameSend
  /-- MIRROR_FRAME_RECEIVE (R428) -/
  | mirrorFrameReceive (bytes : List Byte) (codeOk alignOk : Bool) (flips : List Flip := [])
  /-- LINK_DOWN (R432) -/
  | linkDown
  /-- PARTNER_REQUEST (R436) -/
  | partnerRequest (k : Master) (v : Word)
  /-- PARTNER_REQUEST_TIMEOUT (R437) -/
  | partnerRequestTimeout
  /-- RERATE_HOLD_EXPIRY (R434) -/
  | rerateHoldExpiry
  /-- ONE_SECOND_TICK (R442) -/
  | oneSecondTick
  /-- PEND_CLEAR (R448) -/
  | pendClear (k : Master) (host : HostIx) (q : Fin 4) (v : Word)
  /-- REARM_PULSE_END (R448) -/
  | rearmPulseEnd (k : HostIx)
  /-- THERMAL_READING_PERIOD (R453) -/
  | thermalReadingPeriod
  /-- THERMAL_READ_REQUEST (R453) -/
  | thermalReadRequest (k : Master) (v : Word)
  /-- THERMAL_SHUTDOWN_ASSERT (R460) -/
  | thermalShutdownAssert (s : SensorIx)
  /-- THERMAL_SHUTDOWN_RELEASE (R460) -/
  | thermalShutdownRelease (s : SensorIx)
  /-- POWER_REQUEST_WRITE (R461) -/
  | powerRequestWrite (k : Master) (v : Word)
  /-- DOMAIN_SWITCH_ON (R462) -/
  | domainSwitchOn (d : Fin 10)
  /-- DOMAIN_READY (R462) -/
  | domainReady (d : Fin 10)
  /-- LC_MANUFACTURE (R467) -/
  | lcManufacture (k : Master)
  /-- LC_FIELD (R467) -/
  | lcField (k : Master)
  /-- LC_SERVICE (R469) -/
  | lcService (k : Master)
  /-- LC_RETURN (R470) -/
  | lcReturn (k : Master)
  /-- FUSE_PROGRAM_COMPLETE (R467) -/
  | fuseProgramComplete
  /-- KEY_PROGRAM (R468) -/
  | keyProgram (k : Master) (which : KeyKind) (v : Word)
  /-- CHALLENGE_DRAW (R469) -/
  | challengeDraw (k : Master)
  /-- CHALLENGE_LAPSE (R469) -/
  | challengeLapse
  /-- BIST_START (R473) -/
  | bistStart (k : Master) (v : Word)
  /-- BIST_ABORT (R474) -/
  | bistAbort (k : Master) (v : Word) (fails : List BistFail := [])
  /-- BIST_COMPLETE (R474) -/
  | bistComplete (fails : List BistFail) (ended : Bool := true)
  /-- REPAIR (R477) -/
  | repair (k : Master) (v : Word)
  /-- TAP_RESET (R480) -/
  | tapReset
  /-- EXTEST (R481) -/
  | extest (pins : List (ScanBall × Bool) := [])
  /-- SAMPLE_PRELOAD (R480) -/
  | samplePreload (pins : List (ScanBall × Bool) := []) (preload : List (ScanBall × Bool) := [])
  /-- IDCODE (R480) -/
  | idcode
  /-- BYPASS (R480) -/
  | bypass (code : BitVec 4 := 0xF)
  /-- GRPSTART (R33) -/
  | grpstart (k : Master) (v : Word)
  /-- GRP_RUN_SET (R33) -/
  | grpRunSet (k : Master) (g : GroupIx) (v : Word)
  /-- GRP_RUN_CLEAR (R33) -/
  | grpRunClear (k : Master) (g : GroupIx) (v : Word)
  /-- LOW_WORD_LATCH_READ (R41) -/
  | lowWordLatchRead (k : Master) (a : Addr) (err : BitVec 28 := 0)
  /-- READ_CLEAR (R9) -/
  | readClear (k : Master) (a : Addr) (err : BitVec 28 := 0)
  /-- W1C_WRITE (R9) -/
  | w1cWrite (k : Master) (a : Addr) (v : Word) (err : BitVec 28 := 0)
  /-- REGISTER_WRITE (R9) -/
  | registerWrite (k : Master) (a : Addr) (v : Word) (err : BitVec 28 := 0)
  /-- PWM_EDGE (R55) -/
  | pwmEdge (m : MotorIx)
  /-- PHASE_COMPARATOR_LATCH (R205) -/
  | phaseComparatorLatch (m : MotorIx) (ph : Fin 3) (x : Int := 0)
  /-- GATE_SUPPLY_RETURN (R181) -/
  | gateSupplyReturn (g : GroupIx)
  /-- FEEDBACK_COPY_WHILE_STOPPED (R261) -/
  | feedbackCopyWhileStopped (f : ChanIx)
  deriving DecidableEq, Repr

end Sys2Proof
end

