-- ==== Sys2Proof/Decode.lean ====
section
/-! DEFINITION. Commands spelled by a word. spec/opcode_table.json gives none of its 186 rows a bit, so no word spells a
command. -/

namespace Sys2Proof

/-- The command that a word spells by the table's bits: none, since the table gives no row any. -/
def decodeTableWord (_nbits _w : Nat) : Option Instr := none

end Sys2Proof
end

