-- ==== Sys2Proof/Config.lean ====
section
/-! DEFINITION. The free values: what the spec leaves open in a command that still completes. None has a body, so no
proof can see what it is. Each is applied to the count of free values taken so far (`Dev.free`). -/

namespace Sys2Proof

/-- The random challenge of R469 (the spec names no generator). [DESIGN CHOICE, log 9] -/
opaque Config.challenge : Nat → BitVec 64

/-- What the interleaving estimator of an array finds for a slice at a coefficient update: offset, gain and skew
estimates (R220 names the estimates and gives no estimator). [DESIGN CHOICE, log 10] -/
opaque Config.estimate : Nat → Int × Int × Int

/-- A register word whose value the spec does not state: CMDX when the measured frequency does not fit in 16 bits (R75).
[DESIGN CHOICE, log 11] -/
opaque Config.wideCmdx : Nat → BitVec 16

/-- The speed of a motor whose electrical speed does not fit in the signed word SPEED (R65 and R100 state none there).
[DESIGN CHOICE, log 39] -/
opaque Config.wideSpeed : Nat → BitVec 16

/-- The word LOAD[l] of a valid load that does not fit in 16 bits (R306 states no result there). Applied to `Umbra.free`.
[DESIGN CHOICE, log 12] -/
opaque Config.wideLoad : Nat → BitVec 16

/-- Whether something that the spec lets end either way has taken effect: a low level on RESET_N between 100 ns and 10 µs
(R332), and life-cycle fuses whose programming a reset cuts short (R467). [DESIGN CHOICE, log 13, 14, 110] -/
opaque Config.eitherWay : Nat → Bool

/-- The address that an exit frame of the memory port carries (R374 names none). [DESIGN CHOICE, log 112] -/
opaque Config.exitAddr : Nat → BitVec 32

/-- The level of MCS1_N in a ck_core cycle, where the port does not master the shared flash: the partner drives the ball
(R376). [DESIGN CHOICE, log 68] -/
opaque Config.mcs1 : Nat → Bool

/-- The internal index of a word of the device log in which a command finds an error whose place it does not name (R408).
[DESIGN CHOICE, log 117] -/
opaque Config.logIndex : Nat → BitVec 24

/-- Rosxon's JEP106 code, which stands in the BSDL file (R480). [DESIGN CHOICE, log 113] -/
opaque Config.jep106 : BitVec 11

/-- The word that the Mirror transmitter samples from a window whose reads are no register reads (R429 names no value).
[DESIGN CHOICE, log 15] -/
opaque Config.selWord : Nat → BitVec 16

end Sys2Proof
end

