-- ==== Sys2Proof/Machine/RegMap.lean ====
section
/-! DEFINITION. The register map: every register table of the spec as data. A row names the register, its first word
address, how its indices step (count and stride, outermost index first), and its fields from bit 15 down with their access type (R9)
and reset value. Bits that no field covers are reserved and read 0 (R10); addresses that no row covers are unassigned (R11). -/

namespace Sys2Proof.Machine

/-- The access types of R9. -/
inductive Access where
  | rw | ro | wo | w1c | rc | rwl | fuse
  deriving DecidableEq, Repr

/-- One field of a register table. -/
structure RegField where
  hi : Nat
  lo : Nat
  ty : Access
  reset : Nat
  deriving DecidableEq, Repr

/-- One register table, for all its indices. -/
structure RegRow where
  name : String
  base : Nat
  dims : List (Nat × Nat)
  fields : List RegField
  deriving DecidableEq, Repr

/-- An address offset reached by some choice of the indices. -/
def RegRow.reaches : List (Nat × Nat) → Nat → Bool
  | [], off => off == 0
  | (n, s) :: rest, off => off / s < n && RegRow.reaches rest (off % s)

/-- The row covers the word address. -/
def RegRow.covers (r : RegRow) (a : Nat) : Bool := r.base ≤ a && RegRow.reaches r.dims (a - r.base)

/-- The bits of the row's fields of one access type. -/
def RegRow.mask (r : RegRow) (ty : Access) : Nat :=
  r.fields.foldl (fun acc f => if f.ty = ty then acc ||| ((2 ^ (f.hi + 1 - f.lo) - 1) <<< f.lo) else acc) 0

/-- The register's value at reset. -/
def RegRow.resetValue (r : RegRow) : Nat := r.fields.foldl (fun acc f => acc ||| (f.reset <<< f.lo)) 0

/-- Register tables of the SYS block, part 1. -/
def regsSys1 : List RegRow := [
  ⟨"SYS.ID (R3)", 0x0, [],
    [⟨15, 0, .ro, 0⟩]⟩,
  ⟨"SYS.REV (R3)", 0x1, [],
    [⟨15, 0, .ro, 0⟩]⟩,
  ⟨"SYS.TIME_LO (R36)", 0x4, [],
    [⟨15, 0, .ro, 0⟩]⟩,
  ⟨"SYS.TIME_HI (R36)", 0x5, [],
    [⟨15, 0, .ro, 0⟩]⟩,
  ⟨"SYS.TIME_SUB (R36)", 0x6, [],
    [⟨7, 0, .ro, 0⟩]⟩,
  ⟨"SYS.STAT (R35)", 0x7, [],
    [⟨0, 0, .w1c, 0⟩]⟩,
  ⟨"SYS.GRPSTART (R33)", 0xF, [],
    [⟨3, 0, .wo, 0⟩]⟩,
  ⟨"GRP[g].PERIOD (R33)", 0x10, [(4, 8)],
    [⟨15, 0, .rwl, 10000⟩]⟩,
  ⟨"GRP[g].CFG (R33)", 0x11, [(4, 8)],
    [⟨2, 2, .rwl, 0⟩, ⟨0, 0, .rw, 0⟩]⟩,
  ⟨"GRP[g].GRANTPT (R25)", 0x12, [(4, 8)],
    [⟨15, 0, .rw, 3900⟩]⟩,
  ⟨"GRP[g].TICK (R33)", 0x13, [(4, 8)],
    [⟨15, 0, .ro, 0⟩]⟩,
  ⟨"GRP[g].LATE (R26-R29)", 0x14, [(4, 8)],
    [⟨15, 12, .w1c, 0⟩, ⟨11, 8, .w1c, 0⟩, ⟨7, 4, .w1c, 0⟩, ⟨3, 0, .w1c, 0⟩]⟩,
  ⟨"GRP[g].FCNT_LO (R33)", 0x15, [(4, 8)],
    [⟨15, 0, .ro, 0⟩]⟩,
  ⟨"GRP[g].FCNT_HI (R33)", 0x16, [(4, 8)],
    [⟨15, 0, .ro, 0⟩]⟩,
  ⟨"SYS.MICFG (R410)", 0x30, [],
    [⟨13, 8, .rwl, 10⟩, ⟨7, 0, .rwl, 16⟩]⟩,
  ⟨"SYS.MICAUSE (R412)", 0x31, [],
    [⟨0, 0, .w1c, 0⟩]⟩,
  ⟨"SYS.DFCAUSE (R416)", 0x32, [],
    [⟨9, 8, .w1c, 0⟩, ⟨4, 0, .w1c, 0⟩]⟩,
  ⟨"SYS.DFCFG (R419)", 0x33, [],
    [⟨15, 15, .rwl, 1⟩, ⟨7, 0, .rwl, 20⟩]⟩,
  ⟨"SYS.DFPOL_LO (R419)", 0x34, [],
    [⟨15, 0, .rwl, 21845⟩]⟩,
  ⟨"SYS.DFPOL_HI (R419)", 0x35, [],
    [⟨15, 0, .rwl, 21845⟩]⟩,
  ⟨"SYS.DFCNT (R416)", 0x36, [],
    [⟨15, 0, .rc, 0⟩]⟩,
  ⟨"SYS.DFTIME_LO (R416)", 0x37, [],
    [⟨15, 0, .ro, 0⟩]⟩,
  ⟨"SYS.DFTIME_HI (R416)", 0x38, [],
    [⟨15, 0, .ro, 0⟩]⟩,
  ⟨"SYS.DFTIME_SUB (R416)", 0x39, [],
    [⟨7, 0, .ro, 0⟩]⟩,
  ⟨"SYS.CECNT (R408)", 0x3A, [],
    [⟨15, 0, .rc, 0⟩]⟩,
  ⟨"SYS.CEADDR_LO (R408)", 0x3B, [],
    [⟨15, 0, .ro, 0⟩]⟩,
  ⟨"SYS.CEADDR_HI (R408)", 0x3C, [],
    [⟨15, 12, .ro, 0⟩, ⟨7, 0, .ro, 0⟩]⟩,
  ⟨"SYS.UEADDR_LO (R409)", 0x3D, [],
    [⟨15, 0, .ro, 0⟩]⟩,
  ⟨"SYS.UEADDR_HI (R409)", 0x3E, [],
    [⟨15, 12, .ro, 0⟩, ⟨7, 0, .ro, 0⟩]⟩,
  ⟨"SYS.MISTAT (R410,R421)", 0x3F, [],
    [⟨15, 15, .ro, 0⟩, ⟨14, 0, .ro, 0⟩]⟩,
  ⟨"SYS.CFGSTAT (R349)", 0x40, [],
    [⟨15, 15, .ro, 0⟩, ⟨14, 14, .ro, 0⟩, ⟨13, 12, .ro, 0⟩, ⟨11, 11, .ro, 0⟩, ⟨10, 10, .ro, 0⟩, ⟨9, 9, .ro, 0⟩, ⟨8, 8, .ro, 0⟩, ⟨2, 0, .ro, 0⟩]⟩,
  ⟨"SYS.CFGERR[n] (R342)", 0x41, [(2, 1)],
    [⟨15, 12, .ro, 0⟩, ⟨11, 0, .ro, 0⟩]⟩,
  ⟨"SYS.CFGSEQ_LO (R349)", 0x43, [],
    [⟨15, 0, .ro, 0⟩]⟩,
  ⟨"SYS.CFGSEQ_HI (R349)", 0x44, [],
    [⟨15, 0, .ro, 0⟩]⟩,
  ⟨"SYS.CFGTIME_LO (R349)", 0x45, [],
    [⟨15, 0, .ro, 0⟩]⟩,
  ⟨"SYS.CFGTIME_HI (R349)", 0x46, [],
    [⟨15, 0, .ro, 0⟩]⟩,
  ⟨"SYS.CFGBUILD[i] (R349)", 0x47, [(4, 1)],
    [⟨15, 0, .ro, 0⟩]⟩,
  ⟨"SYS.CFGCMD (R352)", 0x4B, [],
    [⟨1, 1, .wo, 0⟩, ⟨0, 0, .wo, 0⟩]⟩,
  ⟨"SYS.CFGFUSE (R343)", 0x4C, [],
    [⟨15, 15, .fuse, 0⟩, ⟨14, 14, .ro, 0⟩, ⟨11, 0, .fuse, 0⟩]⟩,
  ⟨"SYS.CPLCFG (R353)", 0x50, [],
    [⟨7, 0, .rwl, 200⟩]⟩]

/-- Register tables of the SYS block, part 2. -/
def regsSys2 : List RegRow := [
  ⟨"SYS.CPLSTAT (R354)", 0x51, [],
    [⟨3, 3, .w1c, 0⟩, ⟨2, 2, .ro, 0⟩, ⟨1, 1, .ro, 0⟩, ⟨0, 0, .ro, 0⟩]⟩,
  ⟨"SYS.SESSION (R354)", 0x52, [],
    [⟨15, 0, .ro, 0⟩]⟩,
  ⟨"SYS.CPLTIME_LO (R354)", 0x53, [],
    [⟨15, 0, .ro, 0⟩]⟩,
  ⟨"SYS.CPLTIME_HI (R354)", 0x54, [],
    [⟨15, 0, .ro, 0⟩]⟩,
  ⟨"SYS.HP[k].CFG (R382)", 0x60, [(4, 8)],
    [⟨5, 5, .rw, 0⟩, ⟨3, 2, .rw, 0⟩, ⟨1, 0, .rw, 0⟩]⟩,
  ⟨"SYS.HP[k].CAUSE (R391-R394)", 0x61, [(4, 8)],
    [⟨2, 2, .w1c, 0⟩, ⟨1, 1, .w1c, 0⟩, ⟨0, 0, .w1c, 0⟩]⟩,
  ⟨"SYS.HP[k].PAGE_LO (R384)", 0x62, [(4, 8)],
    [⟨15, 0, .ro, 0⟩]⟩,
  ⟨"SYS.HP[k].PAGE_HI (R384)", 0x63, [(4, 8)],
    [⟨1, 0, .ro, 0⟩]⟩,
  ⟨"SYS.HP[k].FRCNT (R394)", 0x64, [(4, 8)],
    [⟨15, 0, .rc, 0⟩]⟩,
  ⟨"SYS.HP[k].CRCCNT (R393)", 0x65, [(4, 8)],
    [⟨15, 0, .rc, 0⟩]⟩,
  ⟨"SYS.HP[k].UNDCNT (R391)", 0x66, [(4, 8)],
    [⟨15, 0, .rc, 0⟩]⟩,
  ⟨"SYS.HP[k].XCNT (R404)", 0x67, [(4, 8)],
    [⟨15, 0, .ro, 0⟩]⟩,
  ⟨"SYS.DBRING (R403)", 0x80, [],
    [⟨1, 0, .wo, 0⟩]⟩,
  ⟨"SYS.DBCAUSE[i] (R403)", 0x81, [(2, 1)],
    [⟨4, 0, .w1c, 0⟩]⟩]

/-- Register tables of the SYS block. -/
def regsSys : List RegRow := regsSys1 ++ regsSys2

/-- Register tables of the ACCESS block. -/
def regsAccess : List RegRow := [
  ⟨"ACCESS.TBL[T].SUB[n] (R398)", 0x400, [(148, 1)],
    [⟨13, 0, .rwl, 0⟩]⟩]

/-- Register tables of the POWER block. -/
def regsPower : List RegRow := [
  ⟨"POWER.REQ (R461)", 0x800, [],
    [⟨9, 3, .rw, 1⟩]⟩,
  ⟨"POWER.STAT (R461)", 0x801, [],
    [⟨9, 3, .ro, 0⟩, ⟨2, 2, .ro, 1⟩, ⟨0, 0, .ro, 1⟩]⟩,
  ⟨"POWER.RDY (R462)", 0x802, [],
    [⟨9, 3, .ro, 0⟩]⟩,
  ⟨"POWER.FORCE (R460)", 0x803, [],
    [⟨9, 3, .ro, 0⟩]⟩,
  ⟨"POWER.CAUSE (R463)", 0x804, [],
    [⟨15, 15, .w1c, 0⟩, ⟨9, 3, .w1c, 0⟩]⟩,
  ⟨"CLOCK.STAT (R462)", 0x810, [],
    [⟨1, 1, .ro, 0⟩, ⟨0, 0, .ro, 0⟩]⟩]

/-- Register tables of the EVENT block. -/
def regsEvent : List RegRow := [
  ⟨"EVENT.SRC[i].CNT_LO (R444)", 0xC00, [(64, 8)],
    [⟨15, 0, .ro, 0⟩]⟩,
  ⟨"EVENT.SRC[i].CNT_HI (R445)", 0xC01, [(64, 8)],
    [⟨15, 0, .ro, 0⟩]⟩,
  ⟨"EVENT.SRC[i].TS_LO (R445)", 0xC02, [(64, 8)],
    [⟨15, 0, .ro, 0⟩]⟩,
  ⟨"EVENT.SRC[i].TS_HI (R445)", 0xC03, [(64, 8)],
    [⟨15, 0, .ro, 0⟩]⟩,
  ⟨"EVENT.SRC[i].TS_SUB (R445)", 0xC04, [(64, 8)],
    [⟨7, 0, .ro, 0⟩]⟩,
  ⟨"EVENT.EN[k][q] (R447)", 0xE00, [(4, 0x10), (4, 1)],
    [⟨15, 0, .rw, 0⟩]⟩,
  ⟨"EVENT.PEND[k][q] (R446)", 0xE04, [(4, 0x10), (4, 1)],
    [⟨15, 0, .w1c, 0⟩]⟩,
  ⟨"EVENT.XEN[k][q] (R447)", 0xE08, [(4, 0x10), (4, 1)],
    [⟨15, 0, .rw, 0⟩]⟩,
  ⟨"EVENT.ICFG[k] (R448)", 0xE0C, [(4, 0x10)],
    [⟨1, 1, .rw, 0⟩, ⟨0, 0, .rw, 0⟩]⟩,
  ⟨"EVENT.VEC[k] (R447)", 0xE0D, [(4, 0x10)],
    [⟨15, 15, .ro, 0⟩, ⟨14, 14, .ro, 0⟩, ⟨5, 0, .ro, 0⟩]⟩,
  ⟨"EVENT.MCAUSE[m] (R443)", 0xF00, [(16, 1)],
    [⟨9, 0, .w1c, 0⟩]⟩,
  ⟨"EVENT.PEN[q] (R449)", 0xF10, [(4, 1)],
    [⟨15, 0, .rw, 0⟩]⟩,
  ⟨"EVENT.PPEND[q] (R444)", 0xF14, [(4, 1)],
    [⟨15, 0, .w1c, 0⟩]⟩]

/-- Register tables of the THERM block. -/
def regsTherm : List RegRow := [
  ⟨"THERM.CFG (R453)", 0x1000, [],
    [⟨7, 0, .rwl, 1⟩]⟩,
  ⟨"THERM.STAT (R458)", 0x1001, [],
    [⟨14, 10, .ro, 31⟩, ⟨9, 5, .ro, 31⟩, ⟨4, 0, .ro, 31⟩]⟩,
  ⟨"THERM.WCAUSE (R456)", 0x1002, [],
    [⟨4, 0, .w1c, 0⟩]⟩,
  ⟨"THERM.TCAUSE (R456)", 0x1003, [],
    [⟨4, 0, .w1c, 0⟩]⟩,
  ⟨"THERM.SCAUSE (R460)", 0x1004, [],
    [⟨4, 0, .w1c, 0⟩]⟩,
  ⟨"THERM.RCAUSE (R456)", 0x1005, [],
    [⟨14, 10, .w1c, 0⟩, ⟨9, 5, .w1c, 0⟩, ⟨4, 0, .w1c, 0⟩]⟩,
  ⟨"THERM.CMD (R453)", 0x1006, [],
    [⟨4, 0, .wo, 0⟩]⟩,
  ⟨"THERM.SEN[s].CFG (s=0) (R452)", 0x1010, [],
    [⟨5, 0, .rwl, 63⟩]⟩,
  ⟨"THERM.SEN[s].CFG (s=1) (R452)", 0x1018, [],
    [⟨5, 0, .rwl, 62⟩]⟩,
  ⟨"THERM.SEN[s].CFG (s=2) (R452)", 0x1020, [],
    [⟨5, 0, .rwl, 61⟩]⟩,
  ⟨"THERM.SEN[s].CFG (s=3) (R452)", 0x1028, [],
    [⟨5, 0, .rwl, 60⟩]⟩,
  ⟨"THERM.SEN[s].CFG (s=4) (R452)", 0x1030, [],
    [⟨5, 0, .rwl, 59⟩]⟩,
  ⟨"THERM.SEN[s].WARN (R454)", 0x1011, [(5, 8)],
    [⟨15, 0, .rwl, 7680⟩]⟩,
  ⟨"THERM.SEN[s].THROT (R454)", 0x1012, [(5, 8)],
    [⟨15, 0, .rwl, 8640⟩]⟩,
  ⟨"THERM.SEN[s].HYS (R454)", 0x1013, [(5, 8)],
    [⟨15, 0, .rwl, 320⟩]⟩,
  ⟨"THERM.SEN[s].TEMP (R452)", 0x1014, [(5, 8)],
    [⟨15, 0, .ro, 0⟩]⟩,
  ⟨"THERM.SEN[s].TTIME_LO (R452)", 0x1015, [(5, 8)],
    [⟨15, 0, .ro, 0⟩]⟩,
  ⟨"THERM.SEN[s].TTIME_HI (R452)", 0x1016, [(5, 8)],
    [⟨15, 0, .ro, 0⟩]⟩,
  ⟨"THERM.SEN[s].STAT (R453)", 0x1017, [(5, 8)],
    [⟨1, 1, .ro, 0⟩, ⟨0, 0, .ro, 0⟩]⟩]

/-- Register tables of the MOT block, part 1. -/
def regsMot1 : List RegRow := [
  ⟨"MOT[m].CTRL (R80)", 0x2000, [(16, 0x400)],
    [⟨6, 6, .rwl, 0⟩, ⟨5, 5, .rwl, 0⟩, ⟨3, 3, .rwl, 0⟩, ⟨2, 1, .rwl, 0⟩, ⟨0, 0, .rw, 0⟩]⟩,
  ⟨"MOT[m].STAT (R48)", 0x2001, [(16, 0x400)],
    [⟨12, 12, .ro, 0⟩, ⟨11, 11, .ro, 0⟩, ⟨10, 10, .ro, 0⟩, ⟨9, 9, .ro, 0⟩, ⟨8, 8, .ro, 0⟩, ⟨6, 4, .ro, 0⟩, ⟨3, 0, .ro, 0⟩]⟩,
  ⟨"MOT[m].FLT (R74)", 0x2002, [(16, 0x400)],
    [⟨6, 0, .w1c, 0⟩]⟩,
  ⟨"MOT[m].FPOL (R72)", 0x2003, [(16, 0x400)],
    [⟨9, 8, .rwl, 1⟩, ⟨7, 6, .rwl, 1⟩, ⟨5, 4, .rwl, 1⟩, ⟨3, 2, .rwl, 0⟩, ⟨1, 0, .rwl, 1⟩]⟩,
  ⟨"MOT[m].DUTY (R54)", 0x2004, [(16, 0x400)],
    [⟨15, 0, .ro, 0⟩]⟩,
  ⟨"MOT[m].CEIL (R59)", 0x2005, [(16, 0x400)],
    [⟨15, 0, .ro, 0⟩]⟩,
  ⟨"MOT[m].SWIN (R58)", 0x2006, [(16, 0x400)],
    [⟨15, 0, .rwl, 400⟩]⟩,
  ⟨"MOT[m].BOOT (R60)", 0x2007, [(16, 0x400)],
    [⟨13, 8, .rwl, 15⟩, ⟨2, 0, .rwl, 1⟩]⟩,
  ⟨"MOT[m].ZERO_LO (R63)", 0x2008, [(16, 0x400)],
    [⟨15, 0, .rwl, 0⟩]⟩,
  ⟨"MOT[m].ZERO_HI (R63)", 0x2009, [(16, 0x400)],
    [⟨15, 0, .rwl, 0⟩]⟩,
  ⟨"MOT[m].CPER (R63)", 0x200A, [(16, 0x400)],
    [⟨15, 0, .rwl, 24⟩]⟩,
  ⟨"MOT[m].SPEED (R65)", 0x200B, [(16, 0x400)],
    [⟨15, 0, .ro, 0⟩]⟩,
  ⟨"MOT[m].ANGLE (R63)", 0x200C, [(16, 0x400)],
    [⟨10, 0, .ro, 0⟩]⟩,
  ⟨"MOT[m].ADV (R66)", 0x200D, [(16, 0x400)],
    [⟨7, 0, .ro, 0⟩]⟩,
  ⟨"MOT[m].REVTHR (R68)", 0x200E, [(16, 0x400)],
    [⟨15, 0, .rwl, 80⟩]⟩,
  ⟨"MOT[m].REVCFG (R70)", 0x200F, [(16, 0x400)],
    [⟨8, 8, .rwl, 0⟩, ⟨7, 0, .rwl, 2⟩]⟩,
  ⟨"MOT[m].OVSPD (R71)", 0x2010, [(16, 0x400)],
    [⟨15, 0, .rwl, 32767⟩]⟩,
  ⟨"MOT[m].ADVSPD[i] (R66)", 0x2020, [(16, 0x400), (16, 1)],
    [⟨15, 0, .rwl, 0⟩]⟩,
  ⟨"MOT[m].ADVVAL[i] (R66)", 0x2030, [(16, 0x400), (16, 1)],
    [⟨7, 0, .rwl, 0⟩]⟩,
  ⟨"MOT[m].CMDCFG (R75)", 0x2040, [(16, 0x400)],
    [⟨15, 8, .rwl, 20⟩, ⟨7, 2, .rwl, 0⟩, ⟨1, 0, .rwl, 0⟩]⟩,
  ⟨"MOT[m].CMDX0..CMDVLO (R77)", 0x2041, [(16, 0x400), (5, 1)],
    [⟨15, 0, .rwl, 0⟩]⟩,
  ⟨"MOT[m].CMDVHI (R75)", 0x2046, [(16, 0x400)],
    [⟨15, 0, .rwl, 65535⟩]⟩,
  ⟨"MOT[m].CMDX (R75)", 0x2047, [(16, 0x400)],
    [⟨15, 0, .ro, 0⟩]⟩,
  ⟨"MOT[m].CMDDEM (R77)", 0x2048, [(16, 0x400)],
    [⟨15, 0, .ro, 0⟩]⟩,
  ⟨"MOT[m].CMDSTAT (R78)", 0x2049, [(16, 0x400)],
    [⟨3, 3, .ro, 0⟩, ⟨2, 2, .ro, 0⟩, ⟨1, 1, .ro, 0⟩, ⟨0, 0, .ro, 0⟩]⟩,
  ⟨"MOT[m].SCFG (R84)", 0x2080, [(16, 0x400)],
    [⟨15, 15, .rwl, 1⟩, ⟨14, 12, .rwl, 0⟩, ⟨11, 8, .rwl, 3⟩, ⟨7, 6, .rwl, 1⟩, ⟨5, 4, .rwl, 1⟩]⟩,
  ⟨"MOT[m].SSTAT (R82)", 0x2081, [(16, 0x400)],
    [⟨15, 15, .ro, 0⟩, ⟨14, 13, .ro, 0⟩, ⟨12, 8, .ro, 0⟩, ⟨7, 4, .ro, 0⟩, ⟨3, 0, .ro, 0⟩]⟩,
  ⟨"MOT[m].ALT (R88)", 0x2082, [(16, 0x400)],
    [⟨15, 8, .rwl, 20⟩, ⟨7, 0, .rwl, 40⟩]⟩,
  ⟨"MOT[m].STCUR (R85)", 0x2083, [(16, 0x400)],
    [⟨15, 0, .rwl, 4096⟩]⟩,
  ⟨"MOT[m].RSPD0 (R90)", 0x2084, [(16, 0x400)],
    [⟨15, 0, .rwl, 40⟩]⟩,
  ⟨"MOT[m].RSPD1 (R90)", 0x2085, [(16, 0x400)],
    [⟨15, 0, .rwl, 400⟩]⟩,
  ⟨"MOT[m].RACC (R90)", 0x2086, [(16, 0x400)],
    [⟨15, 0, .rwl, 500⟩]⟩,
  ⟨"MOT[m].STIME (R92)", 0x2087, [(16, 0x400)],
    [⟨15, 8, .rwl, 100⟩, ⟨7, 0, .rwl, 20⟩]⟩,
  ⟨"MOT[m].RTIME (R92)", 0x2088, [(16, 0x400)],
    [⟨15, 8, .rwl, 100⟩, ⟨7, 0, .rwl, 2⟩]⟩,
  ⟨"MOT[m].SCNT (R91)", 0x2089, [(16, 0x400)],
    [⟨15, 12, .rwl, 6⟩, ⟨11, 8, .rwl, 3⟩, ⟨7, 4, .rwl, 3⟩, ⟨3, 0, .rwl, 6⟩]⟩,
  ⟨"MOT[m].ZCTHR (R95)", 0x208A, [(16, 0x400)],
    [⟨9, 0, .rwl, 12⟩]⟩,
  ⟨"MOT[m].CATHR (R95)", 0x208B, [(16, 0x400)],
    [⟨9, 0, .rwl, 24⟩]⟩,
  ⟨"MOT[m].ZCDLY (R94)", 0x208C, [(16, 0x400)],
    [⟨15, 0, .rwl, 200⟩]⟩,
  ⟨"MOT[m].ZWIN (R96)", 0x208D, [(16, 0x400)],
    [⟨15, 8, .rwl, 32⟩, ⟨7, 0, .rwl, 240⟩]⟩,
  ⟨"MOT[m].IVTOL (R101)", 0x208E, [(16, 0x400)],
    [⟨15, 8, .rwl, 20⟩, ⟨7, 0, .rwl, 64⟩]⟩]

/-- Register tables of the MOT block, part 2. -/
def regsMot2 : List RegRow := [
  ⟨"MOT[m].ACCLIM (R101)", 0x208F, [(16, 0x400)],
    [⟨15, 0, .rwl, 20⟩]⟩,
  ⟨"MOT[m].KE (R101)", 0x2090, [(16, 0x400)],
    [⟨15, 0, .rwl, 0⟩]⟩,
  ⟨"MOT[m].BEMFV (R101)", 0x2091, [(16, 0x400)],
    [⟨15, 0, .rwl, 32767⟩]⟩,
  ⟨"MOT[m].CATMIN (R106)", 0x2092, [(16, 0x400)],
    [⟨15, 0, .rwl, 120⟩]⟩,
  ⟨"MOT[m].OBSTAT (R102)", 0x2093, [(16, 0x400)],
    [⟨15, 12, .ro, 0⟩, ⟨11, 8, .ro, 0⟩, ⟨3, 0, .ro, 0⟩]⟩,
  ⟨"MOT[m].WINCNT..BACKCNT (R101)", 0x2094, [(16, 0x400), (7, 1)],
    [⟨15, 0, .rc, 0⟩]⟩,
  ⟨"MOT[m].LCTRL (R108)", 0x2100, [(16, 0x400)],
    [⟨15, 12, .rwl, 1⟩, ⟨9, 8, .rwl, 1⟩, ⟨6, 6, .rwl, 0⟩, ⟨5, 5, .rwl, 0⟩, ⟨4, 4, .rwl, 1⟩, ⟨2, 0, .rwl, 1⟩]⟩,
  ⟨"MOT[m].LSTAT (R119)", 0x2101, [(16, 0x400)],
    [⟨4, 4, .ro, 0⟩, ⟨3, 3, .ro, 0⟩, ⟨2, 2, .ro, 0⟩, ⟨1, 0, .ro, 0⟩]⟩,
  ⟨"MOT[m].HCTL (R120)", 0x2102, [(16, 0x400)],
    [⟨0, 0, .wo, 0⟩]⟩,
  ⟨"MOT[m].HDEM (R119)", 0x2103, [(16, 0x400)],
    [⟨15, 0, .rw, 0⟩]⟩,
  ⟨"MOT[m].HTO (R120)", 0x2104, [(16, 0x400)],
    [⟨15, 0, .rwl, 100⟩]⟩,
  ⟨"MOT[m].SAFEDEM (R123)", 0x2105, [(16, 0x400)],
    [⟨15, 0, .rwl, 0⟩]⟩,
  ⟨"MOT[m].DSLEW (R124)", 0x2106, [(16, 0x400)],
    [⟨15, 0, .rwl, 0⟩]⟩,
  ⟨"MOT[m].DEMAND (R124)", 0x2107, [(16, 0x400)],
    [⟨15, 0, .ro, 0⟩]⟩,
  ⟨"MOT[m].IFS (R116)", 0x2108, [(16, 0x400)],
    [⟨15, 0, .rwl, 800⟩]⟩,
  ⟨"MOT[m].IACC (R115)", 0x2109, [(16, 0x400)],
    [⟨5, 0, .rwl, 0⟩]⟩,
  ⟨"MOT[m].ILIM (R114)", 0x210A, [(16, 0x400)],
    [⟨15, 0, .rwl, 32767⟩]⟩,
  ⟨"MOT[m].DLIM (R114)", 0x210B, [(16, 0x400)],
    [⟨15, 0, .rwl, 32767⟩]⟩,
  ⟨"MOT[m].VLIM (R114)", 0x210C, [(16, 0x400)],
    [⟨15, 0, .rwl, 32767⟩]⟩,
  ⟨"MOT[m].DIRHYS (R118)", 0x210D, [(16, 0x400)],
    [⟨15, 0, .rwl, 0⟩]⟩,
  ⟨"MOT[m].gains KP,KI (R113)", 0x2110, [(16, 0x400), (3, 4), (2, 1)],
    [⟨15, 0, .rw, 0⟩]⟩,
  ⟨"MOT[m].gains SH (R113)", 0x2112, [(16, 0x400), (3, 4)],
    [⟨2, 0, .rw, 0⟩]⟩,
  ⟨"MOT[m].PDB (R114)", 0x211C, [(16, 0x400)],
    [⟨15, 0, .rwl, 0⟩]⟩,
  ⟨"MOT[m].PBASE (R108)", 0x211D, [(16, 0x400), (2, 1)],
    [⟨15, 0, .rwl, 0⟩]⟩,
  ⟨"MOT[m].PTGT..IINT_HI (R113-R118)", 0x2120, [(16, 0x400), (10, 1)],
    [⟨15, 0, .ro, 0⟩]⟩,
  ⟨"MOT[m].REQ (R117)", 0x212A, [(16, 0x400)],
    [⟨15, 15, .ro, 0⟩, ⟨11, 0, .ro, 0⟩]⟩,
  ⟨"MOT[m].FEST (R126)", 0x212B, [(16, 0x400)],
    [⟨15, 0, .ro, 0⟩]⟩,
  ⟨"MOT[m].MAPX,MAPY (R122)", 0x2130, [(16, 0x400), (16, 1)],
    [⟨15, 0, .rwl, 0⟩]⟩,
  ⟨"MOT[m].MAPCFG (R122)", 0x2140, [(16, 0x400)],
    [⟨5, 0, .rwl, 0⟩]⟩,
  ⟨"MOT[m].MAPVLO (R122)", 0x2141, [(16, 0x400)],
    [⟨15, 0, .rwl, 0⟩]⟩,
  ⟨"MOT[m].MAPVHI (R122)", 0x2142, [(16, 0x400)],
    [⟨15, 0, .rwl, 65535⟩]⟩,
  ⟨"MOT[m].KCFG (R129)", 0x2150, [(16, 0x400)],
    [⟨15, 15, .rwl, 0⟩, ⟨14, 12, .rwl, 3⟩, ⟨11, 8, .rwl, 3⟩, ⟨7, 0, .rwl, 20⟩]⟩,
  ⟨"MOT[m].RELGAP (R127)", 0x2151, [(16, 0x400)],
    [⟨15, 0, .rwl, 40⟩]⟩,
  ⟨"MOT[m].KSPD (R129)", 0x2152, [(16, 0x400)],
    [⟨15, 0, .rwl, 400⟩]⟩,
  ⟨"MOT[m].KTHR (R129)", 0x2153, [(16, 0x400)],
    [⟨15, 0, .rwl, 655⟩]⟩,
  ⟨"MOT[m].KILIM (R129)", 0x2154, [(16, 0x400)],
    [⟨15, 0, .rwl, 8192⟩]⟩,
  ⟨"MOT[m].KJUMP (R130)", 0x2155, [(16, 0x400)],
    [⟨15, 0, .rwl, 24⟩]⟩,
  ⟨"MOT[m].KTMAX (R129)", 0x2156, [(16, 0x400)],
    [⟨15, 0, .rwl, 50⟩]⟩,
  ⟨"MOT[m].KISSREF (R128)", 0x2157, [(16, 0x400), (2, 1)],
    [⟨15, 0, .rwl, 0⟩]⟩,
  ⟨"MOT[m].KISS (R128)", 0x2159, [(16, 0x400), (2, 1)],
    [⟨15, 0, .ro, 0⟩]⟩]

/-- Register tables of the MOT block, part 3. -/
def regsMot3 : List RegRow := [
  ⟨"MOT[m].KSTAT (R129,R130)", 0x215B, [(16, 0x400)],
    [⟨6, 4, .ro, 0⟩, ⟨3, 3, .ro, 0⟩, ⟨2, 2, .ro, 0⟩, ⟨1, 1, .ro, 0⟩, ⟨0, 0, .ro, 0⟩]⟩,
  ⟨"MOT[m].FSTAT (R125-R129)", 0x215C, [(16, 0x400)],
    [⟨2, 2, .ro, 0⟩, ⟨1, 1, .ro, 0⟩, ⟨0, 0, .ro, 0⟩]⟩,
  ⟨"MOT[m].FCX,FCY (R125)", 0x2160, [(16, 0x400), (64, 1)],
    [⟨15, 0, .rwl, 0⟩]⟩]

/-- Register tables of the MOT block. -/
def regsMot : List RegRow := regsMot1 ++ regsMot2 ++ regsMot3

/-- Register tables of the CBA block. -/
def regsCba : List RegRow := [
  ⟨"CBA[g].POOL (R134)", 0x6000, [(4, 0x40)],
    [⟨11, 0, .rwl, 0⟩]⟩,
  ⟨"CBA[g].CFG (R134,R143)", 0x6001, [(4, 0x40)],
    [⟨15, 8, .rwl, 192⟩, ⟨7, 0, .rwl, 32⟩]⟩,
  ⟨"CBA[g].REGCAP (R140)", 0x6002, [(4, 0x40)],
    [⟨11, 0, .rwl, 0⟩]⟩,
  ⟨"CBA[g].CMPMIN (R143)", 0x6003, [(4, 0x40)],
    [⟨9, 0, .rwl, 16⟩]⟩,
  ⟨"CBA[g].STARVN (R150)", 0x6004, [(4, 0x40)],
    [⟨7, 0, .rwl, 20⟩]⟩,
  ⟨"CBA[g].STAT (R139-R142)", 0x6005, [(4, 0x40)],
    [⟨3, 3, .ro, 0⟩, ⟨2, 2, .ro, 0⟩, ⟨1, 1, .ro, 0⟩, ⟨0, 0, .ro, 0⟩]⟩,
  ⟨"CBA[g].RRPTR (R138)", 0x6006, [(4, 0x40)],
    [⟨15, 8, .ro, 255⟩, ⟨7, 0, .ro, 255⟩]⟩,
  ⟨"CBA[g].SCAUSE (R150,R151)", 0x6007, [(4, 0x40)],
    [⟨4, 4, .w1c, 0⟩, ⟨3, 0, .w1c, 0⟩]⟩,
  ⟨"CBA[g].TOTAL,FREE,RTOTAL,RFREE,SNAPF (R147)", 0x6008, [(4, 0x40), (5, 1)],
    [⟨15, 0, .ro, 0⟩]⟩,
  ⟨"CBA[g].SLOT[j].PRIO (R136)", 0x6010, [(4, 0x40), (4, 8)],
    [⟨1, 0, .rwl, 0⟩]⟩,
  ⟨"CBA[g].SLOT[j].FLOOR (R136)", 0x6011, [(4, 0x40), (4, 8)],
    [⟨11, 0, .rwl, 0⟩]⟩,
  ⟨"CBA[g].SLOT[j].CEIL (R136)", 0x6012, [(4, 0x40), (4, 8)],
    [⟨11, 0, .rwl, 4095⟩]⟩,
  ⟨"CBA[g].SLOT[j].GRANT (R147)", 0x6013, [(4, 0x40), (4, 8)],
    [⟨15, 15, .ro, 0⟩, ⟨11, 0, .ro, 0⟩]⟩,
  ⟨"CBA[g].SLOT[j].CMPCODE (R143)", 0x6014, [(4, 0x40), (4, 8)],
    [⟨9, 0, .ro, 16⟩]⟩,
  ⟨"CBA[g].SLOT[j].STARVCNT (R150)", 0x6015, [(4, 0x40), (4, 8)],
    [⟨15, 0, .rc, 0⟩]⟩]

/-- Register tables of the SUP block. -/
def regsSup : List RegRow := [
  ⟨"SUP[g].CFG (R183)", 0x6400, [(4, 0x40)],
    [⟨7, 2, .rwl, 0⟩, ⟨1, 1, .rwl, 1⟩, ⟨0, 0, .rwl, 0⟩]⟩,
  ⟨"SUP[g].OV1 (R186)", 0x6401, [(4, 0x40)],
    [⟨15, 0, .rwl, 27000⟩]⟩,
  ⟨"SUP[g].OV2 (R186)", 0x6402, [(4, 0x40)],
    [⟨15, 0, .rwl, 28500⟩]⟩,
  ⟨"SUP[g].OV3 (R186)", 0x6403, [(4, 0x40)],
    [⟨15, 0, .rwl, 30000⟩]⟩,
  ⟨"SUP[g].HYS (R186)", 0x6404, [(4, 0x40)],
    [⟨15, 0, .rwl, 500⟩]⟩,
  ⟨"SUP[g].UVTHR (R185)", 0x6405, [(4, 0x40)],
    [⟨15, 0, .rwl, 0⟩]⟩,
  ⟨"SUP[g].REGTHR (R190)", 0x6406, [(4, 0x40)],
    [⟨15, 0, .rwl, 328⟩]⟩,
  ⟨"SUP[g].STAT (R184-R193)", 0x6407, [(4, 0x40)],
    [⟨8, 8, .ro, 0⟩, ⟨7, 7, .ro, 0⟩, ⟨6, 6, .ro, 0⟩, ⟨5, 5, .ro, 0⟩, ⟨4, 4, .ro, 0⟩, ⟨3, 3, .ro, 1⟩, ⟨2, 2, .ro, 0⟩, ⟨1, 0, .ro, 0⟩]⟩,
  ⟨"SUP[g].VBUS (R183)", 0x6408, [(4, 0x40)],
    [⟨15, 0, .ro, 0⟩]⟩,
  ⟨"SUP[g].CAUSE (R193)", 0x6409, [(4, 0x40)],
    [⟨7, 0, .w1c, 0⟩]⟩,
  ⟨"SUP[g].OV2CNT,OV3CNT,CHOPCNT (R189,R193)", 0x640A, [(4, 0x40), (3, 1)],
    [⟨15, 0, .rc, 0⟩]⟩,
  ⟨"SUP[g].TEST (R194)", 0x640D, [(4, 0x40)],
    [⟨15, 15, .wo, 0⟩, ⟨7, 0, .wo, 0⟩]⟩]

/-- Register tables of the GD block. -/
def regsGd : List RegRow := [
  ⟨"GD[b].DRV (R158)", 0x6800, [(48, 0x20)],
    [⟨7, 4, .rwl, 7⟩, ⟨3, 0, .rwl, 7⟩]⟩,
  ⟨"GD[b].DSCFG (R166)", 0x6801, [(48, 0x20)],
    [⟨9, 9, .rwl, 1⟩, ⟨8, 8, .rwl, 1⟩, ⟨7, 4, .rwl, 3⟩, ⟨3, 0, .rwl, 7⟩]⟩,
  ⟨"GD[b].STAT (R182)", 0x6802, [(48, 0x20)],
    [⟨4, 4, .ro, 0⟩, ⟨3, 3, .ro, 0⟩, ⟨2, 2, .ro, 0⟩, ⟨1, 1, .ro, 0⟩]⟩,
  ⟨"GD[b].FLT (R171)", 0x6803, [(48, 0x20)],
    [⟨2, 2, .w1c, 0⟩, ⟨1, 1, .w1c, 0⟩, ⟨0, 0, .w1c, 0⟩]⟩,
  ⟨"GD[b].FREC (R172)", 0x6804, [(48, 0x20)],
    [⟨15, 15, .ro, 0⟩, ⟨14, 13, .ro, 0⟩, ⟨11, 0, .ro, 0⟩]⟩,
  ⟨"GD[b].FTIME_LO (R172)", 0x6805, [(48, 0x20)],
    [⟨15, 0, .ro, 0⟩]⟩,
  ⟨"GD[b].FTIME_HI (R172)", 0x6806, [(48, 0x20)],
    [⟨15, 0, .ro, 0⟩]⟩,
  ⟨"GD[b].FTIME_SUB (R172)", 0x6807, [(48, 0x20)],
    [⟨7, 0, .ro, 0⟩]⟩,
  ⟨"GD[b].FCNT (R175)", 0x6808, [(48, 0x20)],
    [⟨15, 8, .rc, 0⟩, ⟨7, 0, .rc, 0⟩]⟩,
  ⟨"GD.GRP[g].STAT (R179)", 0x6E00, [(4, 0x10)],
    [⟨2, 2, .ro, 0⟩, ⟨1, 1, .ro, 0⟩]⟩,
  ⟨"GD.GRP[g].FLT (R174)", 0x6E01, [(4, 0x10)],
    [⟨0, 0, .w1c, 0⟩]⟩,
  ⟨"GD.GRP[g].FIRST (R174)", 0x6E02, [(4, 0x10)],
    [⟨15, 15, .w1c, 0⟩, ⟨5, 0, .ro, 0⟩]⟩,
  ⟨"GD.GRP[g].UVTIME_LO (R174)", 0x6E03, [(4, 0x10)],
    [⟨15, 0, .ro, 0⟩]⟩,
  ⟨"GD.GRP[g].UVTIME_HI (R174)", 0x6E04, [(4, 0x10)],
    [⟨15, 0, .ro, 0⟩]⟩,
  ⟨"GD.GRP[g].UVTIME_SUB (R174)", 0x6E05, [(4, 0x10)],
    [⟨7, 0, .ro, 0⟩]⟩,
  ⟨"GD.SEQ (R173)", 0x6E40, [],
    [⟨11, 0, .ro, 0⟩]⟩]

/-- Register tables of the GLINT block. -/
def regsGlint : List RegRow := [
  ⟨"GLINT.CUR[m].CCFG (R199-R207)", 0x7000, [(16, 8)],
    [⟨4, 4, .rwl, 0⟩, ⟨3, 3, .rwl, 0⟩, ⟨2, 2, .rwl, 0⟩, ⟨1, 1, .rwl, 0⟩, ⟨0, 0, .rwl, 1⟩]⟩,
  ⟨"GLINT.CUR[m].CTHR (R199)", 0x7001, [(16, 8)],
    [⟨9, 0, .rwl, 1023⟩]⟩,
  ⟨"GLINT.CUR[m].SLOPE (R200)", 0x7002, [(16, 8)],
    [⟨11, 8, .rwl, 3⟩, ⟨7, 0, .rwl, 0⟩]⟩,
  ⟨"GLINT.CUR[m].HSTHR (R204)", 0x7003, [(16, 8)],
    [⟨9, 0, .rwl, 1023⟩]⟩,
  ⟨"GLINT.CUR[m].LAT (R201-R205)", 0x7004, [(16, 8)],
    [⟨4, 2, .w1c, 0⟩, ⟨1, 1, .w1c, 0⟩, ⟨0, 0, .w1c, 0⟩]⟩,
  ⟨"GLINT.CUR[m].OUT (R197)", 0x7005, [(16, 8)],
    [⟨4, 2, .ro, 0⟩, ⟨1, 1, .ro, 0⟩, ⟨0, 0, .ro, 0⟩]⟩,
  ⟨"GLINT.CUR[m].ECODE (R200)", 0x7006, [(16, 8)],
    [⟨9, 0, .ro, 16⟩]⟩,
  ⟨"GLINT.CUR[m].CLCNT (R201)", 0x7007, [(16, 8)],
    [⟨15, 0, .rc, 0⟩]⟩,
  ⟨"GLINT.BUS[g].BTHR (R206)", 0x7080, [(4, 4)],
    [⟨9, 0, .rwl, 1023⟩]⟩,
  ⟨"GLINT.BUS[g].BLAT (R206)", 0x7081, [(4, 4)],
    [⟨1, 1, .ro, 0⟩, ⟨0, 0, .w1c, 0⟩]⟩,
  ⟨"GLINT.BUS[g].BCNT (R206)", 0x7082, [(4, 4)],
    [⟨15, 0, .rc, 0⟩]⟩,
  ⟨"GLINT.CHK (R209,R210)", 0x70A0, [],
    [⟨10, 8, .rw, 0⟩, ⟨7, 6, .rw, 0⟩, ⟨5, 0, .rw, 0⟩]⟩,
  ⟨"GLINT.CHKOUT (R210)", 0x70A1, [],
    [⟨0, 0, .ro, 0⟩]⟩]

/-- Register tables of the PRISM block. -/
def regsPrism : List RegRow := [
  ⟨"PRISM[p].CTRL (R228,R244)", 0x8000, [(4, 0x800)],
    [⟨7, 7, .rwl, 1⟩, ⟨6, 6, .rwl, 0⟩, ⟨5, 5, .rw, 0⟩, ⟨4, 4, .rw, 1⟩, ⟨0, 0, .rw, 0⟩]⟩,
  ⟨"PRISM[p].STAT (R230,R245)", 0x8001, [(4, 0x800)],
    [⟨12, 12, .ro, 0⟩, ⟨11, 11, .ro, 0⟩, ⟨10, 10, .ro, 0⟩, ⟨9, 9, .ro, 0⟩, ⟨8, 8, .ro, 0⟩, ⟨6, 0, .ro, 0⟩]⟩,
  ⟨"PRISM[p].CAUSE (R247)", 0x8002, [(4, 0x800)],
    [⟨5, 0, .w1c, 0⟩]⟩,
  ⟨"PRISM[p].OVRCNT (R227)", 0x8003, [(4, 0x800)],
    [⟨15, 0, .rc, 0⟩]⟩,
  ⟨"PRISM[p].MISSCNT (R239)", 0x8004, [(4, 0x800)],
    [⟨15, 0, .rc, 0⟩]⟩,
  ⟨"PRISM[p].URQ (R232)", 0x8005, [(4, 0x800)],
    [⟨15, 10, .wo, 0⟩, ⟨9, 4, .wo, 0⟩, ⟨3, 2, .wo, 0⟩]⟩,
  ⟨"PRISM[p].URQSTAT (R232)", 0x8006, [(4, 0x800)],
    [⟨2, 0, .ro, 0⟩]⟩,
  ⟨"PRISM[p].CALUPD (R220)", 0x8007, [(4, 0x800)],
    [⟨15, 0, .ro, 0⟩]⟩,
  ⟨"PRISM[p].CALSTAT (R220)", 0x8008, [(4, 0x800)],
    [⟨1, 1, .ro, 0⟩, ⟨0, 0, .ro, 0⟩]⟩,
  ⟨"PRISM[p].COEF[s] OFS,GAIN (R218,R222)", 0x8010, [(4, 0x800), (4, 4), (2, 1)],
    [⟨15, 0, .ro, 0⟩]⟩,
  ⟨"PRISM[p].COEF[s] SKEW (R218,R222)", 0x8012, [(4, 0x800), (4, 4)],
    [⟨9, 0, .ro, 0⟩]⟩,
  ⟨"PRISM[p].FCOEF[s] OFS,GAIN (R222)", 0x8020, [(4, 0x800), (4, 4), (2, 1)],
    [⟨15, 0, .fuse, 0⟩]⟩,
  ⟨"PRISM[p].FCOEF[s] SKEW (R222)", 0x8022, [(4, 0x800), (4, 4)],
    [⟨9, 0, .fuse, 0⟩]⟩,
  ⟨"PRISM[p].SEQ[i] (R224)", 0x8100, [(4, 0x800), (128, 1)],
    [⟨15, 10, .rwl, 0⟩, ⟨9, 4, .rwl, 0⟩, ⟨3, 2, .rwl, 0⟩, ⟨1, 0, .rwl, 3⟩]⟩,
  ⟨"PRISM[p].SEQT[i] (R224)", 0x8180, [(4, 0x800), (128, 1)],
    [⟨15, 0, .rwl, 0⟩]⟩,
  ⟨"PRISM[p].ACC[a].CFG (R235)", 0x8200, [(4, 0x800), (64, 4)],
    [⟨15, 15, .rwl, 0⟩, ⟨14, 14, .rwl, 0⟩, ⟨13, 13, .rwl, 0⟩, ⟨11, 8, .rwl, 0⟩, ⟨7, 0, .rwl, 1⟩]⟩,
  ⟨"PRISM[p].ACC[a].CPT (R238)", 0x8201, [(4, 0x800), (64, 4)],
    [⟨15, 0, .rwl, 0⟩]⟩,
  ⟨"PRISM[p].ACC[a].VAL (R236)", 0x8202, [(4, 0x800), (64, 4)],
    [⟨15, 0, .ro, 0⟩]⟩,
  ⟨"PRISM[p].ACC[a].STAT (R240)", 0x8203, [(4, 0x800), (64, 4)],
    [⟨15, 8, .ro, 0⟩, ⟨3, 3, .ro, 0⟩, ⟨2, 2, .ro, 0⟩, ⟨1, 1, .ro, 0⟩, ⟨0, 0, .ro, 0⟩]⟩,
  ⟨"PRISM[p].TRK[k].CFG (R241)", 0x8300, [(4, 0x800), (32, 4)],
    [⟨15, 15, .wo, 0⟩, ⟨7, 7, .rwl, 0⟩, ⟨6, 6, .rwl, 0⟩, ⟨5, 0, .rwl, 0⟩]⟩,
  ⟨"PRISM[p].TRK[k].MIN (R241)", 0x8301, [(4, 0x800), (32, 4)],
    [⟨15, 0, .ro, 0⟩]⟩,
  ⟨"PRISM[p].TRK[k].MAX (R241)", 0x8302, [(4, 0x800), (32, 4)],
    [⟨15, 0, .ro, 0⟩]⟩,
  ⟨"PRISM[p].TRK[k].STAT (R241)", 0x8303, [(4, 0x800), (32, 4)],
    [⟨0, 0, .ro, 0⟩]⟩]

/-- Register tables of the FB block. -/
def regsFb : List RegRow := [
  ⟨"FB[f].CFG (R253)", 0xA000, [(24, 0x20)],
    [⟨15, 8, .rwl, 20⟩, ⟨7, 7, .rwl, 0⟩, ⟨6, 6, .rwl, 0⟩, ⟨5, 4, .rwl, 1⟩, ⟨2, 2, .rwl, 0⟩, ⟨1, 0, .rwl, 0⟩]⟩,
  ⟨"FB[f].LIM (R260,R262)", 0xA001, [(24, 0x20)],
    [⟨15, 8, .rwl, 0⟩, ⟨7, 0, .rwl, 100⟩]⟩,
  ⟨"FB[f].POS,FPOS,SPD (R255,R261)", 0xA002, [(24, 0x20), (6, 1)],
    [⟨15, 0, .ro, 0⟩]⟩,
  ⟨"FB[f].STAT (R259)", 0xA008, [(24, 0x20)],
    [⟨5, 5, .ro, 0⟩, ⟨4, 4, .ro, 0⟩, ⟨3, 3, .ro, 0⟩, ⟨2, 2, .ro, 0⟩, ⟨1, 1, .ro, 0⟩, ⟨0, 0, .ro, 0⟩]⟩,
  ⟨"FB[f].CAUSE (R274)", 0xA009, [(24, 0x20)],
    [⟨6, 0, .w1c, 0⟩]⟩,
  ⟨"FB[f].GLCNT,COINCNT,ABSERRCNT (R262,R254,R264)", 0xA00A, [(24, 0x20), (3, 1)],
    [⟨15, 0, .rc, 0⟩]⟩,
  ⟨"FB[f].CMD (R256)", 0xA00D, [(24, 0x20)],
    [⟨2, 2, .wo, 0⟩, ⟨1, 1, .wo, 0⟩, ⟨0, 0, .wo, 0⟩]⟩,
  ⟨"FB[f].SEED (R256)", 0xA00E, [(24, 0x20), (2, 1)],
    [⟨15, 0, .rw, 0⟩]⟩,
  ⟨"FB[f].ABSCFG (R263)", 0xA010, [(24, 0x20)],
    [⟨14, 14, .rwl, 0⟩, ⟨13, 8, .rwl, 24⟩, ⟨7, 0, .rwl, 0⟩]⟩,
  ⟨"FB[f].ABSDIV (R263)", 0xA011, [(24, 0x20)],
    [⟨15, 0, .rwl, 100⟩]⟩,
  ⟨"FB[f].ABSCHK (R263,R267)", 0xA012, [(24, 0x20)],
    [⟨15, 8, .rwl, 20⟩, ⟨7, 0, .rwl, 0⟩]⟩,
  ⟨"FB[f].ABSTOL (R267)", 0xA013, [(24, 0x20)],
    [⟨15, 0, .rwl, 4⟩]⟩,
  ⟨"FB[f].ABSOFS (R265)", 0xA014, [(24, 0x20), (2, 1)],
    [⟨15, 0, .rwl, 0⟩]⟩,
  ⟨"FB[f].AWORD (R265)", 0xA016, [(24, 0x20), (2, 1)],
    [⟨15, 0, .ro, 0⟩]⟩,
  ⟨"FB[f].ADIFF (R267)", 0xA018, [(24, 0x20)],
    [⟨15, 0, .ro, 0⟩]⟩,
  ⟨"FB[f].FSPD (R261)", 0xA019, [(24, 0x20), (2, 1)],
    [⟨15, 0, .ro, 0⟩]⟩,
  ⟨"FB.GCAUSE[q] (R274)", 0xA300, [(3, 1)],
    [⟨7, 0, .ro, 0⟩]⟩,
  ⟨"FB.DCFG (R272)", 0xA308, [],
    [⟨15, 15, .rwl, 0⟩, ⟨12, 8, .rwl, 0⟩, ⟨7, 0, .rwl, 10⟩]⟩,
  ⟨"FB.DINC (R272)", 0xA309, [(2, 1)],
    [⟨15, 0, .rwl, 0⟩]⟩,
  ⟨"FB.DCNT (R273)", 0xA30B, [(2, 1)],
    [⟨15, 0, .ro, 0⟩]⟩,
  ⟨"FB.DBACK (R273)", 0xA30D, [],
    [⟨7, 0, .ro, 0⟩]⟩,
  ⟨"FB.DLOST (R273)", 0xA30E, [],
    [⟨15, 0, .rc, 0⟩]⟩,
  ⟨"FB.DCAUSE (R273)", 0xA30F, [],
    [⟨0, 0, .w1c, 0⟩]⟩,
  ⟨"FB.DLTOT (R273)", 0xA310, [(2, 1)],
    [⟨15, 0, .ro, 0⟩]⟩]

/-- Register tables of the TRACE block. -/
def regsTrace : List RegRow := [
  ⟨"TRACE.CH[t].SRC (R278)", 0xB000, [(128, 8)],
    [⟨15, 15, .rw, 0⟩, ⟨14, 14, .rwl, 0⟩, ⟨13, 12, .rwl, 0⟩, ⟨11, 8, .rwl, 0⟩, ⟨7, 0, .rwl, 0⟩]⟩,
  ⟨"TRACE.CH[t].TAG (R276)", 0xB001, [(128, 8)],
    [⟨15, 12, .rwl, 15⟩, ⟨11, 9, .rwl, 0⟩, ⟨8, 8, .rwl, 0⟩, ⟨7, 0, .rwl, 0⟩]⟩,
  ⟨"TRACE.CH[t].RATE (R277,R283)", 0xB002, [(128, 8)],
    [⟨15, 8, .rwl, 1⟩, ⟨7, 0, .rwl, 60⟩]⟩,
  ⟨"TRACE.CH[t].HILIM (R295)", 0xB003, [(128, 8)],
    [⟨15, 0, .rwl, 0⟩]⟩,
  ⟨"TRACE.CH[t].LOLIM (R295)", 0xB004, [(128, 8)],
    [⟨15, 0, .rwl, 0⟩]⟩,
  ⟨"TRACE.CH[t].ALCFG (R295)", 0xB005, [(128, 8)],
    [⟨15, 15, .rwl, 0⟩, ⟨14, 14, .rwl, 0⟩, ⟨13, 8, .rwl, 1⟩, ⟨7, 0, .rwl, 0⟩]⟩,
  ⟨"TRACE.CH[t].LAST (R279)", 0xB006, [(128, 8)],
    [⟨15, 0, .ro, 0⟩]⟩,
  ⟨"TRACE.CH[t].STAT (R296)", 0xB007, [(128, 8)],
    [⟨15, 15, .ro, 0⟩, ⟨14, 14, .ro, 0⟩, ⟨13, 13, .ro, 0⟩, ⟨12, 12, .ro, 0⟩, ⟨6, 0, .ro, 0⟩]⟩,
  ⟨"TRACE.HIN[t] (R280)", 0xB400, [(128, 1)],
    [⟨15, 0, .rw, 0⟩]⟩,
  ⟨"TRACE.CTRL (R291)", 0xB480, [],
    [⟨0, 0, .rwl, 0⟩]⟩,
  ⟨"TRACE.HFTO (R280)", 0xB481, [],
    [⟨7, 0, .rwl, 0⟩]⟩,
  ⟨"TRACE.CMD (R283,R291)", 0xB482, [],
    [⟨15, 15, .wo, 0⟩, ⟨14, 14, .wo, 0⟩, ⟨6, 0, .wo, 0⟩]⟩,
  ⟨"TRACE.TTICK (R277)", 0xB483, [(2, 1)],
    [⟨15, 0, .ro, 0⟩]⟩,
  ⟨"TRACE.WPTR_LO (R291)", 0xB486, [],
    [⟨15, 0, .ro, 0⟩]⟩,
  ⟨"TRACE.WPTR_HI (R291)", 0xB487, [],
    [⟨1, 0, .ro, 0⟩]⟩,
  ⟨"TRACE.WRITTEN,READABLE,OVERWR,DISC (R292)", 0xB488, [(8, 1)],
    [⟨15, 0, .ro, 0⟩]⟩,
  ⟨"TRACE.ALCAUSE[i] (R296)", 0xB490, [(8, 1)],
    [⟨15, 0, .w1c, 0⟩]⟩,
  ⟨"TRACE.WALM (R276)", 0xB498, [],
    [⟨11, 0, .ro, 0⟩]⟩,
  ⟨"TRACE.SSTAT (R291)", 0xB499, [],
    [⟨1, 1, .ro, 0⟩, ⟨0, 0, .ro, 0⟩]⟩]

/-- Register tables of the UMBRA block. -/
def regsUmbra : List RegRow := [
  ⟨"UMBRA mailbox (R327,R328)", 0xC000, [(64, 1)],
    [⟨15, 0, .ro, 0⟩]⟩,
  ⟨"UMBRA.CSTAT (R329)", 0xC040, [],
    [⟨2, 2, .w1c, 0⟩, ⟨1, 1, .ro, 0⟩, ⟨0, 0, .ro, 0⟩]⟩]

/-- Register tables of the MEMPORT block. -/
def regsMemport : List RegRow := [
  ⟨"MEMPORT.MCFG (R359,R376)", 0xD000, [],
    [⟨15, 15, .rwl, 1⟩, ⟨12, 9, .rwl, 5⟩, ⟨8, 5, .rwl, 0⟩, ⟨4, 0, .rwl, 4⟩]⟩,
  ⟨"MEMPORT.STAT (R376)", 0xD001, [],
    [⟨4, 4, .ro, 0⟩, ⟨3, 3, .ro, 0⟩, ⟨2, 2, .ro, 1⟩, ⟨1, 1, .ro, 1⟩, ⟨0, 0, .ro, 0⟩]⟩,
  ⟨"MEMPORT.CAUSE (R377)", 0xD002, [],
    [⟨0, 0, .w1c, 0⟩]⟩,
  ⟨"MEMPORT.MMFCNT (R377)", 0xD003, [],
    [⟨15, 0, .rc, 0⟩]⟩,
  ⟨"MEMPORT.RAW (R371)", 0xD004, [],
    [⟨15, 15, .rw, 0⟩, ⟨1, 1, .rw, 1⟩, ⟨0, 0, .rw, 1⟩]⟩,
  ⟨"MEMPORT.QRUN (R368)", 0xD005, [],
    [⟨15, 15, .wo, 0⟩, ⟨14, 14, .wo, 0⟩, ⟨7, 4, .wo, 0⟩, ⟨3, 0, .wo, 0⟩]⟩,
  ⟨"MEMPORT.QSTAT (R370)", 0xD006, [],
    [⟨15, 15, .ro, 0⟩, ⟨3, 0, .ro, 0⟩]⟩,
  ⟨"MEMPORT.WCFG (R372)", 0xD008, [],
    [⟨15, 15, .rwl, 1⟩, ⟨14, 14, .rwl, 0⟩, ⟨13, 13, .rwl, 0⟩, ⟨12, 12, .rwl, 1⟩, ⟨7, 0, .rwl, 20⟩]⟩,
  ⟨"MEMPORT.WFMT (R362)", 0xD009, [],
    [⟨15, 0, .rwl, 10248⟩]⟩,
  ⟨"MEMPORT.WCMD (R366)", 0xD00A, [],
    [⟨15, 0, .rwl, 2816⟩]⟩,
  ⟨"MEMPORT.MODE (R374)", 0xD00B, [],
    [⟨15, 8, .rwl, 255⟩, ⟨7, 0, .rwl, 255⟩]⟩,
  ⟨"MEMPORT.WBASE (R372)", 0xD00C, [(2, 1)],
    [⟨15, 0, .rwl, 0⟩]⟩,
  ⟨"MEMPORT.FLAGS (R369,R375)", 0xD00E, [],
    [⟨1, 1, .w1c, 0⟩, ⟨0, 0, .w1c, 0⟩]⟩,
  ⟨"MEMPORT.DISC (R366)", 0xD010, [],
    [⟨15, 8, .ro, 0⟩, ⟨7, 4, .ro, 0⟩, ⟨3, 3, .ro, 0⟩, ⟨2, 1, .ro, 0⟩, ⟨0, 0, .ro, 0⟩]⟩,
  ⟨"MEMPORT.Q[i] FMT,CMD,ADDR_LO,ADDR_HI (R367)", 0xD040, [(16, 8), (4, 1)],
    [⟨15, 0, .rw, 0⟩]⟩,
  ⟨"MEMPORT.Q[i].CTL (R367)", 0xD044, [(16, 8)],
    [⟨15, 15, .rw, 0⟩, ⟨14, 14, .rw, 0⟩, ⟨7, 0, .rw, 0⟩]⟩,
  ⟨"MEMPORT.Q[i].LEN (R367)", 0xD045, [(16, 8)],
    [⟨15, 0, .rw, 0⟩]⟩,
  ⟨"MEMPORT.Q[i].STAT (R368)", 0xD046, [(16, 8)],
    [⟨15, 15, .ro, 0⟩, ⟨14, 12, .ro, 0⟩]⟩,
  ⟨"MEMPORT.BUF[n] (R367)", 0xD100, [(256, 1)],
    [⟨15, 0, .rw, 0⟩]⟩]

/-- Register tables of the MIRROR block. -/
def regsMirror : List RegRow := [
  ⟨"MIRROR.CFG (R426,R434)", 0xE000, [],
    [⟨15, 15, .rwl, 0⟩, ⟨11, 8, .rwl, 0⟩, ⟨7, 4, .rwl, 0⟩]⟩,
  ⟨"MIRROR.TIM (R432,R434)", 0xE001, [],
    [⟨15, 8, .rwl, 8⟩, ⟨7, 0, .rwl, 100⟩]⟩,
  ⟨"MIRROR.STAT (R432)", 0xE002, [],
    [⟨15, 15, .ro, 0⟩, ⟨14, 14, .ro, 0⟩, ⟨13, 13, .ro, 0⟩, ⟨11, 8, .ro, 0⟩]⟩,
  ⟨"MIRROR.CAUSE (R432,R433)", 0xE003, [],
    [⟨4, 0, .w1c, 0⟩]⟩,
  ⟨"MIRROR.LCAUSE (R428)", 0xE004, [],
    [⟨3, 0, .w1c, 0⟩]⟩,
  ⟨"MIRROR.CRCCNT,CODECNT,SEQCNT,LOSTCNT (R428,R432)", 0xE005, [(4, 1)],
    [⟨15, 0, .rc, 0⟩]⟩,
  ⟨"MIRROR.LPOOL[g] (R435)", 0xE009, [(4, 1)],
    [⟨11, 0, .rwl, 0⟩]⟩,
  ⟨"MIRROR.SEL[i]_LO (R429)", 0xE00D, [(2, 2)],
    [⟨15, 0, .rwl, 0⟩]⟩,
  ⟨"MIRROR.SEL[i]_HI (R429)", 0xE00E, [(2, 2)],
    [⟨7, 0, .rwl, 0⟩]⟩,
  ⟨"MIRROR.PS[i] (R430)", 0xE400, [(32, 1)],
    [⟨15, 0, .ro, 0⟩]⟩,
  ⟨"MIRROR.PSAGE (R430)", 0xE420, [],
    [⟨15, 0, .ro, 65535⟩]⟩,
  ⟨"MIRROR.RQADDR_LO (R436)", 0xE800, [],
    [⟨15, 0, .rw, 0⟩]⟩,
  ⟨"MIRROR.RQADDR_HI (R436)", 0xE801, [],
    [⟨7, 0, .rw, 0⟩]⟩,
  ⟨"MIRROR.RQDATA (R436)", 0xE802, [],
    [⟨15, 0, .rw, 0⟩]⟩,
  ⟨"MIRROR.RQCMD (R436)", 0xE803, [],
    [⟨15, 15, .wo, 0⟩, ⟨14, 14, .wo, 0⟩]⟩,
  ⟨"MIRROR.RQSTAT (R437)", 0xE804, [],
    [⟨15, 15, .ro, 0⟩, ⟨14, 12, .ro, 0⟩, ⟨3, 0, .ro, 0⟩]⟩,
  ⟨"MIRROR.RQRDATA (R437)", 0xE805, [],
    [⟨15, 0, .ro, 0⟩]⟩]

/-- Register tables of the TEST block. -/
def regsTest : List RegRow := [
  ⟨"TEST.LCSTAT (R466)", 0xF000, [],
    [⟨15, 15, .ro, 0⟩, ⟨14, 14, .ro, 0⟩, ⟨13, 13, .ro, 0⟩, ⟨12, 12, .ro, 0⟩, ⟨11, 11, .ro, 0⟩, ⟨5, 4, .ro, 0⟩, ⟨2, 0, .ro, 0⟩]⟩,
  ⟨"TEST.LCCMD (R467)", 0xF001, [],
    [⟨15, 0, .wo, 0⟩]⟩,
  ⟨"TEST.LCCAUSE (R467)", 0xF002, [],
    [⟨2, 2, .w1c, 0⟩, ⟨1, 1, .w1c, 0⟩, ⟨0, 0, .w1c, 0⟩]⟩,
  ⟨"TEST.CHAL[i] (R469)", 0xF004, [(4, 1)],
    [⟨15, 0, .ro, 0⟩]⟩,
  ⟨"TEST.RESP[i] (R469)", 0xF008, [(8, 1)],
    [⟨15, 0, .wo, 0⟩]⟩,
  ⟨"TEST.BCMD (R471)", 0xF400, [],
    [⟨15, 15, .wo, 0⟩, ⟨14, 14, .wo, 0⟩, ⟨3, 0, .wo, 0⟩]⟩,
  ⟨"TEST.BSTAT (R473)", 0xF401, [],
    [⟨15, 15, .ro, 0⟩, ⟨14, 14, .ro, 0⟩, ⟨13, 13, .ro, 0⟩, ⟨3, 0, .ro, 0⟩]⟩,
  ⟨"TEST.BCAUSE (R474)", 0xF402, [],
    [⟨2, 2, .w1c, 0⟩, ⟨1, 1, .w1c, 0⟩, ⟨0, 0, .w1c, 0⟩]⟩,
  ⟨"TEST.FCNT (R475)", 0xF403, [],
    [⟨15, 0, .ro, 0⟩]⟩,
  ⟨"TEST.FADDR_LO (R475)", 0xF404, [],
    [⟨15, 0, .ro, 0⟩]⟩,
  ⟨"TEST.FADDR_HI (R475)", 0xF405, [],
    [⟨3, 0, .ro, 0⟩]⟩,
  ⟨"TEST.FBIT (R475)", 0xF406, [],
    [⟨14, 12, .ro, 0⟩, ⟨11, 8, .ro, 0⟩, ⟨4, 0, .ro, 0⟩]⟩,
  ⟨"TEST.FROW[i] (R475)", 0xF410, [(8, 1)],
    [⟨15, 15, .ro, 0⟩, ⟨14, 14, .ro, 0⟩, ⟨13, 0, .ro, 0⟩]⟩,
  ⟨"TEST.RCMD (R477)", 0xF800, [],
    [⟨15, 15, .wo, 0⟩]⟩,
  ⟨"TEST.RSTAT (R477)", 0xF801, [],
    [⟨15, 15, .ro, 0⟩, ⟨14, 14, .ro, 0⟩, ⟨11, 6, .ro, 0⟩, ⟨5, 0, .ro, 0⟩]⟩,
  ⟨"TEST.SPARE[t] (R476)", 0xF802, [(4, 1)],
    [⟨15, 8, .ro, 0⟩, ⟨7, 0, .ro, 0⟩]⟩,
  ⟨"TEST.DEVID[i] (R482)", 0xFC00, [(4, 1)],
    [⟨15, 0, .ro, 0⟩]⟩,
  ⟨"TEST.SKEY[i] (R468)", 0xFC08, [(8, 1)],
    [⟨15, 0, .wo, 0⟩]⟩,
  ⟨"TEST.IKEY[i] (R468)", 0xFC10, [(8, 1)],
    [⟨15, 0, .wo, 0⟩]⟩]

/-- The blocks of R397 that hold registers: first word, last word, register tables. [DESIGN CHOICE, log 18] -/
def regBlocks : List (Nat × Nat × List RegRow) := [
  (0x0, 0x3FF, regsSys),
  (0x400, 0x7FF, regsAccess),
  (0x800, 0xBFF, regsPower),
  (0xC00, 0xFFF, regsEvent),
  (0x1000, 0x1FFF, regsTherm),
  (0x2000, 0x5FFF, regsMot),
  (0x6000, 0x63FF, regsCba),
  (0x6400, 0x67FF, regsSup),
  (0x6800, 0x6FFF, regsGd),
  (0x7000, 0x7FFF, regsGlint),
  (0x8000, 0x9FFF, regsPrism),
  (0xA000, 0xAFFF, regsFb),
  (0xB000, 0xBFFF, regsTrace),
  (0xC000, 0xCFFF, regsUmbra),
  (0xD000, 0xDFFF, regsMemport),
  (0xE000, 0xEFFF, regsMirror),
  (0xF000, 0xFFFF, regsTest)]

/-- The register table that covers a word address, if the address is assigned. -/
def regRow (a : Nat) : Option RegRow :=
  match regBlocks.find? (fun b => b.1 ≤ a && a ≤ b.2.1) with
  | some b => b.2.2.find? (fun r => r.covers a)
  | none => none

/-- The value of a register word at reset; 0 where no register stands. -/
def resetWord (a : Nat) : Word :=
  match regRow a with
  | some r => BitVec.ofNat 16 r.resetValue
  | none => 0

end Sys2Proof.Machine
end

