-- ==== Sys2Proof/Machine/State.lean ====
section
/-! DEFINITION. The state of the module as plain data, its reasons to stop, and its value right after reset.
Single-word registers live in `Dev.words` (keyed by word address, default the register's reset value); what the spec
gives the machine beyond its registers (engine phases, timers, histories, queues, pins) lives in the records below.
Times are stamps in ck_core cycles (`Dev.cycles`), from which TIME and the sub-count of R34 are computed.
The metrology island is a record of its own, because R300 lets nothing outside it write it. -/

namespace Sys2Proof.Machine

open Sys2Proof

/-- A sparse store of words by key: keys strictly rising, no entry equal to what an unlisted key reads as. -/
abbrev Store := List (Nat × Word)

/-! ### Timers in frames (R81) -/

/-- A time in whole frames: armed by an event, running from the first frame start at or after it, expired at 0.
[DEDUCED, log 32] -/
inductive Timer where
  | off
  | armed (frames : Nat)
  | left (frames : Nat)
  deriving DecidableEq, Repr

/-! ### Commutation engines (02, 03) -/

/-- Engine states of R48, in the order of their codes. -/
inductive MState where
  | idle | start | run | revpend | brake | fault | coast | catching
  deriving DecidableEq, Repr

/-- Phases of R82, in the order of their codes. -/
inductive Phase where
  | none | listen | align1 | align2 | ramp | backoff | coast
  deriving DecidableEq, Repr

/-- The action of a latched fault (R72). -/
inductive FaultAct where
  | float | clamp | floatThenClamp
  deriving DecidableEq, Repr

/-- Which threshold a phase comparator's leg uses for a sample (R95). -/
inductive ThrKind where
  | cathr | zcthr | amp
  deriving DecidableEq, Repr

/-- The carrier period in progress of a motor (R55, R513); ticks `c` count from `start`. -/
structure Carrier where
  start : Nat := 0          -- cycle of the carrier start
  len : Nat := 10000        -- ticks until the next carrier start of the slot
  align : Bool := false     -- true: centre-aligned
  onBeg : Nat := 0          -- first tick of the on-time
  onEnd : Nat := 0          -- first tick after the on-time
  refDue : Bool := false    -- a refresh interval is due in this period (R60)
  refPrev : Bool := false   -- centre alignment: the last period's refresh interval runs into this one
  wrPrev : Nat := 0         -- W_R of that interval
  wr : Nat := 200           -- W_R in force
  ws : Nat := 0             -- W_S in force
  spanDone : Bool := false  -- the refresh counts of this period's span have been judged
  winDone : Bool := false   -- the sampling window has started: its thresholds are set (R95)
  limited : Bool := false   -- the current latch has ended the on-time, or kept it from beginning (R201, R202)
  hit : Bool := false       -- the demanded on-time exceeded ON_MAX (R62)
  drove : Option Bool := none  -- the motor drove its pattern when the period ended, before the frame work of that tick (R62)
  deriving DecidableEq, Repr

/-- What the floating-leg observer holds for the present sector (R96, R101, R102). -/
structure SectorObs where
  began : Nat := 0               -- cycle at which the sector began
  last : Option Bool := none     -- last sample not ignored
  closed : Bool := false         -- early, missing, or a crossing was found: no further crossing
  found : Option Nat := none     -- t_zc of the accepted crossing
  failed : BitVec 4 := 0         -- tests failed, as OBSTAT.LAST
  amp : Option Bool := none      -- the amplitude sample's verdict, when taken
  ampDue : Bool := false         -- an amplitude test applies and its sample is still to come
  deriving DecidableEq, Repr

/-- The observer (R98): the last accepted crossing and the intervals between accepted crossings. -/
structure Observer where
  tPrev : Option Nat := none
  sec : Nat := 0                 -- sector of that crossing
  v : Int := 0                   -- speed of R98, 0.25 Hz
  d1 : Option Nat := none        -- latest interval, ticks
  d2 : Option Nat := none        -- interval before it
  fromIv : Bool := false         -- v came from an interval (R101)
  sectors : Nat := 0             -- sectors since the last accepted crossing
  skip : Nat := 0                -- intervals still to come before interval tests resume (R87)
  deriving DecidableEq, Repr

/-- The catch observation of R104 to R106. -/
structure CatchObs where
  levels : Option (Bool × Bool × Bool) := none  -- last sampled levels U, V, W
  edge : Option Nat := none      -- row of R104's table of the last edge
  time : Nat := 0                -- its edge time
  rev : Option Bool := none      -- direction, once set; true reverse
  count : Nat := 0               -- consecutive consistent edges
  d1 : Option Nat := none
  d2 : Option Nat := none
  speed : Int := 0               -- catch speed, 0.25 Hz, valid when `valid`
  valid : Bool := false
  quiet : Bool := false          -- CATT ms passed with no edge: the catch speed is 0 (R106)
  deriving DecidableEq, Repr

/-- The measurement of a CMD ball (R76, R78). -/
structure CmdIn where
  form : Nat := 0                -- FORM in force at the last frame start
  edgeAt : Option Nat := none    -- cycle of the last filtered rising edge
  done : Bool := false           -- a complete period has ended since power-up or a change of FORM
  doneAt : Nat := 0              -- cycle at which it ended
  x : Nat := 0                   -- the last measured X, exactly
  lost : Bool := false
  deriving DecidableEq, Repr

/-- The kiss search of R129, R130. -/
structure Kiss where
  frames : Nat := 0              -- frame starts since the search began
  ib : Int := 0
  hits : Nat := 0
  xc : Int := 0
  rejected : Option Int := none  -- rejected candidate of the previous search of the session
  timer : Timer := .off
  deriving DecidableEq, Repr

/-- One motor: commutation engine, sensorless observer and loop engine. [DESIGN CHOICE, log 5, 106] -/
structure Motor where
  state : MState := .idle            -- R48
  drvRev : Bool := false             -- drive direction (STAT.DRVDIR)
  demRev : Bool := false             -- demanded direction applied with the last duty (R68)
  duty : Nat := 0                    -- d applied at the last frame start (R54)
  out : Option (Nat × Bool) := none  -- duty and direction delivered, not yet ready for a frame start (R24)
  ready : Option (Nat × Bool) := none -- duty and direction ready by PERIOD - 16 (R24, R28)
  sector : Nat := 0                  -- sector being driven, 0-5 (R50)
  spdv : Bool := false
  refp : Bool := false
  ceilhit : Bool := false
  adverr : Bool := false
  speed : Int := 0                   -- v, 0.25 Hz (SPEED, R64)
  adv : Nat := 0                     -- A in force (R66)
  angS : Int := 0                    -- rotor angle at `angAt`, scaled by 65 536 x 800 000 000 (R64)
  angAt : Nat := 0                   -- cycle of that angle
  v16 : Int := 0                     -- extrapolation speed with 16 fraction bits (R64, R90)
  act : FaultAct := .float           -- latched fault action in force in FAULT (R73)
  clampNow : Bool := false           -- FLOAT then LSCLAMP has changed to low-side clamp (R72)
  devFault : Bool := false           -- FAULT was entered under R419
  devHeld : Option Nat := none       -- frame starts passed since that fault, from the first after it
  phase : Phase := .none             -- R82
  back : Bool := false
  failr : Nat := 0
  attempt : Nat := 0
  reccnt : Nat := 0
  failcnt : Nat := 0
  hovcnt : Nat := 0
  lastFail : BitVec 4 := 0
  timer : Timer := .off              -- ALIGN1, ALIGN2, RHOLD, BACKOFF, COAST or BRAKE time (R70, R81)
  stab : Timer := .off               -- STABT window after a RAMP handover (R92)
  catt : Timer := .off               -- CATT with no catch edge (R106)
  rect : Timer := .off               -- 1 s in RUN without a sync loss (R103)
  alSamp : Option Bool := none       -- ALIGN2: state held before a change (R89)
  alNew : Bool := false              -- ALIGN2: a change was seen once
  alBack : Bool := false             -- a backward swing of this ALIGN2 has been counted (R89)
  sec : SectorObs := {}
  obs : Observer := {}
  cat : CatchObs := {}
  thr : Nat × Nat × Nat := (24, 24, 24)  -- phase thresholds U, V, W (R95)
  thrOld : Nat × Nat × Nat := (24, 24, 24)  -- the thresholds before the last change
  thrAt : Nat := 0                   -- cycle of that change (R198)
  thrK : ThrKind × ThrKind × ThrKind := (.cathr, .cathr, .cathr)  -- which thresholds those are
  car : Carrier := {}
  spanAt : Nat := 0                  -- cycle at which the evaluation span of R60 began
  refc : Vector Nat 3 := Vector.replicate 3 64           -- refresh counts (R60)
  lowAt : Vector (Option Nat) 3 := Vector.replicate 3 none -- cycle since which the low side is commanded on
  lowOk : Vector Bool 3 := Vector.replicate 3 false      -- W_R of unbroken low side seen in the span
  forced : Vector Bool 3 := Vector.replicate 3 false     -- R61 forcing until the carrier period ends
  cmd : CmdIn := {}
  hostOk : Bool := false             -- host source valid (R119, R120)
  hostNew : Bool := false            -- HDEM written, the source becomes valid at the next frame start
  hostRel : Bool := false            -- release pending (R120)
  hostT : Timer := .off              -- host timeout
  hostD : Int := 0                   -- HDEM as sampled at the last frame start
  demSel : Int := 0                  -- demand that a valid source last selected (R123)
  demCmd : Option Int := none        -- CMDDEM as sampled at frame start while VALID (R78)
  posI : Int := 0                    -- position integrator (R113)
  spdI : Int := 0                    -- speed integrator
  odiv : Nat := 0                    -- frame starts since the motor entered RUN (R110)
  lastDir : Bool := false            -- previous demanded direction (R118)
  loopRun : Bool := false            -- the computation of the present frame has been made (R22)
  kiss : Kiss := {}
  req : Option (Nat × Bool) := none  -- request delivered since the last grant point (R27)
  lastReq : Nat × Bool := (0, false) -- request in force at the last grant point, with its regenerating mark
  grant : Nat := 0                   -- grant in force (R133)
  level : BitVec 3 := 0              -- level reports in force: bit 0 BSUV, bit 1 GDUV, bit 2 HSHORT (R177)
  compOn : Option Nat := none        -- cycle at which the comparator on-time began (R200)
  lebDone : Bool := false            -- leading-edge blanking has ended (R201)
  clAt : Nat := 0                    -- cycle at which the current comparator last took its output (R207)
  phAt : Nat := 0                    -- the same for the phase comparators
  deriving DecidableEq, Repr

/-! ### Group timebases and the arbiter (01, 05) -/

/-- The books of one grant point (R145). -/
structure Books where
  total : Nat := 0
  free : Nat := 0
  rtotal : Nat := 0
  rfree : Nat := 0
  grant : Vector Nat 4 := Vector.replicate 4 0
  regen : Vector Bool 4 := Vector.replicate 4 false
  deriving DecidableEq, Repr

/-- One supply group's timebase, arbiter and supply block. [DESIGN CHOICE, log 5; DEDUCED, log 35] -/
structure Group where
  running : Bool := false        -- the timebase runs (R33)
  starting : Bool := false       -- RUN was written 1 in this cycle: the timebase starts in the next (R33)
  granted : Bool := false        -- this frame's grant point has been reached (R19)
  frameAt : Nat := 0             -- cycle of the last frame start
  period : Nat := 10000          -- PERIOD in force
  align : Bool := false          -- ALIGN in force
  grantPt : Nat := 3900          -- GRANTPT in force, before the limits of R25
  fcnt : BitVec 32 := 0
  deadline : Bool := false       -- PERIOD - 16 of the present frame has passed (R24)
  floorsOnly : Bool := true      -- the next grant point grants floors only (R139)
  idleDom : Bool := false        -- motors were sent to IDLE by a domain switched off (R464)
  pend : Option Books := none    -- books computed, in force from the next boundary
  books : Books := {}            -- books in force (R145)
  starv : Vector Nat 4 := Vector.replicate 4 0  -- consecutive starved grant points (R150)
  rrClr : Option Nat := none     -- cycle since which no re-rating condition has held (R434)
  v : Option Nat := none         -- V, once measured since the domain was switched on (R184)
  staleCnt : Nat := 0            -- whole frames since the last close (R184)
  tripped : Bool := false        -- a bus trip has set level 3 since the last measured V (R184, R188)
  gdFirst : Option Nat := none   -- cycle of the record that set FIRST.VALID (R174)
  staleOpen : Bool := true       -- a close fell in the frame in progress, so that it is no whole frame (R184)
  brkAt : Nat := 0               -- cycle of BRKg's last change
  fbAt : Nat := 0                -- cycle of BRKFBg's last change (R193)
  test : Option Nat := none      -- cycle at which the test pulse ends (R194)
  epNf : Bool := false           -- the CHOPNF condition holds and has been declared (R193)
  epStk : Bool := false
  deriving DecidableEq, Repr

/-! ### Gate drivers (06) -/

/-- One half-bridge driver. [DESIGN CHOICE, log 5, 106] -/
structure Bridge where
  en : Bool := false             -- ENABLE
  pulse : Bool := false          -- PULSE
  hs : Bool := false             -- high side on (R154)
  ls : Bool := false
  hsOff : Int := -50             -- cycle at which the high side was last commanded off
  lsOff : Int := -50
  onAt : Nat := 0                -- cycle at which the switch that is on turned on (R167)
  blanked : Bool := false        -- blanking has ended for it
  aboveAt : Option Nat := none   -- cycle since which VDS has been above threshold after blanking (R167)
  detected : Bool := false       -- a desaturation of this on-time was detected
  offAt : Option Nat := none     -- cycle at which the switch last turned off (R168)
  offHs : Bool := false          -- that switch was the high side
  bsuv : Bool := false           -- bootstrap condition asserted (R164)
  relAt : Option Nat := none     -- cycle of its last release in this on-time (R164)
  recAt : Option Nat := none     -- cycle of the last fault record (R172)
  deriving DecidableEq, Repr

/-- A report of a gate-driver die or hard-short latch on its way to an engine (R177). -/
inductive Cause where
  | desat | bsuv | gduv | hshort
  deriving DecidableEq, Repr

/-- A report and the motor it is for. -/
structure Report where
  motor : MotorIx
  phase : Fin 3                  -- half-bridge the report is about
  cause : Cause
  at' : Nat := 0                 -- cycle of the detecting tick
  deriving DecidableEq, Repr

/-- One gate-driver die. -/
structure Die where
  rdy : Bool := false            -- STAT.RDY (R179)
  gduv : Bool := false           -- STAT.GDUV (R161)
  everRdy : Bool := false        -- RDY has set since the switch-on (R181)
  low : Bool := false            -- VGDg below 4.5 V (R181)
  startAt : Nat := 0             -- cycle of the switch-on or supply return the start counts from
  gap : Bool := false            -- ck_core has stood still since then
  deriving DecidableEq, Repr

/-! ### Prism arrays (09) -/

/-- What the sequencer of an array is doing (R225 to R230). -/
inductive SeqPhase where
  | stopped            -- RUN 0
  | waitStart          -- waits for its first frame start (R228)
  | waitFrame          -- waits after END for a frame start (R225)
  | waitSync           -- waits for the SYNC tick of the entry in progress
  | idle (endAt : Nat) -- in an IDLE entry, with the cycle at which it ends
  | entry              -- issuing the entry in progress
  deriving DecidableEq, Repr

/-- A conversion sampled, whose result has not yet entered its accumulator (R213). -/
structure Conv where
  slice : Nat
  ch : Nat
  acc : Nat
  deriving DecidableEq, Repr

/-- An urgent request (R232). -/
structure Urgent where
  ch : Nat
  acc : Nat
  left : Nat
  thermal : Option SensorIx := none
  deriving DecidableEq, Repr

/-- One accumulator's count in progress (R235 to R239). -/
structure Acc where
  frame : Bool := false          -- this count is a FRAME count
  cfg : Word := 0x0001           -- ACC.CFG in force for this count
  cpt : Word := 0                -- CPT in force
  sum : Int := 0
  n : Nat := 0
  closed : Bool := false         -- FRAME: closed in the present frame
  xs : Bool := false             -- samples discarded in the present frame
  waits : Bool := true           -- a FRAME count that has not begun: samples do not count (R29)
  deriving DecidableEq, Repr

/-- A min-max tracker's running extremes (R241). -/
structure Trk where
  cfg : Word := 0                -- CFG in force since the last restart
  lo : Int := 0
  hi : Int := 0
  seen : Bool := false
  deriving DecidableEq, Repr

/-- One converter array. [DESIGN CHOICE, log 5] -/
structure Prism where
  phase : SeqPhase := .stopped
  pos : Nat := 0                 -- entry in progress, or the one that the next slot reaches
  left : Nat := 0                -- samples of it still to issue; 0 before a slot reaches it
  word : Word := 3               -- entry word it started with (R229)
  seqt : Word := 0
  stopReq : Bool := false        -- RUN written 0: stop after the entry in progress (R228)
  firstFrame : Bool := false     -- the next frame start of a frame-locked sequence is no overrun (R227)
  slice : Nat := 0               -- slice of the next slot (R212)
  pwr : Bool := false            -- slices powered
  lpAct : Bool := true           -- low-power mode in effect (R244)
  urg : List Urgent := []        -- master requests, oldest first
  therm : Option Urgent := none  -- the thermal request
  inUrg : Option Urgent := none  -- urgent request whose samples are being issued
  flight : List Conv := []       -- conversions in flight, oldest first
  conv : Nat := 0                -- conversions since the last coefficient update (R220)
  refz : Vector Nat 4 := Vector.replicate 4 0   -- REFZ samples per slice in the interval
  refh : Vector Nat 4 := Vector.replicate 4 0
  skew : Vector Nat 4 := Vector.replicate 4 0   -- skew comparisons per slice
  calHigh : Bool := true         -- the last CAL entry converted REFH (R219)
  acc : Vector Acc 64 := Vector.replicate 64 {}
  trk : Vector Trk 32 := Vector.replicate 32 {}
  deriving DecidableEq, Repr

/-! ### Feedback (10) -/

/-- Why a transfer of the absolute word runs. -/
inductive AbsUse where
  | seed | check | fallback | leave
  deriving DecidableEq, Repr

/-- One feedback channel. [DESIGN CHOICE, log 5] -/
structure Fb where
  hist : List Nat := []          -- cycles of the counted edges held, newest first (R257)
  edges : Nat := 0               -- counted edges since the history was last invalidated, up to 2 (R259)
  lastNeg : Option Bool := none  -- sign of the last counted edge
  lastAt : Option Nat := none    -- cycle of the last counted edge (R260)
  lastIv : Nat := 0              -- the last single interval between counted edges, ticks (R260)
  fspdv : Bool := false          -- SPDV of the frame copy (R261)
  glWin : Nat := 0               -- 10 ms window of the last glitch
  glCnt : Nat := 0               -- glitches in it (R262)
  busy : Option AbsUse := none   -- transfer in progress
  latchAt : Nat := 0             -- cycle of its latch tick
  latchPos : BitVec 32 := 0      -- POS at the latch tick
  moved : BitVec 32 := 0         -- changes of the edges counted since the latch tick (R265)
  stepAt : Nat := 0              -- cycle of the last counted edge, with the changes counted in that cycle (R256)
  step : BitVec 32 := 0
  doneAt : Option Nat := none    -- cycle at which the last transfer completed
  initDue : Bool := false        -- seeding transfer due (R266)
  checkDue : Bool := false       -- check transfer asked for by CMD.CHECK (R267)
  periodDue : Bool := false      -- check transfer due by its period (R267)
  leaveDue : Bool := false       -- leave-fallback transfer due (R271)
  w1 : Option (BitVec 32 × Nat) := none  -- last good word in the fallback, with its latch cycle
  w2 : Option (BitVec 32 × Nat) := none  -- the one before it
  distFrom : Option (BitVec 32) := none  -- count from which the next word difference in the fallback is taken (R272)
  good : Nat := 0                -- good words since entry, or since ABSLOST
  fails : Nat := 0               -- consecutive failed transfers
  lost : Bool := false           -- ABSLOST in force (R270)
  deriving DecidableEq, Repr

/-- The distance output (R272, R273). -/
structure Dist where
  acc : BitVec 32 := 0
  high : Bool := false           -- DIST_OUT
  gap : Bool := false            -- low time after a pulse
  dueAt : Nat := 0               -- cycle at which the pulse or gap may end
  deriving DecidableEq, Repr

/-! ### Traces (11) -/

/-- The open segment of a trace channel (R282). -/
structure Seg where
  y0 : Int
  tick : BitVec 32               -- TTICK of the vertex
  c : Nat
  yc : Int
  ln : Int
  ld : Nat
  un : Int
  ud : Nat
  deriving DecidableEq, Repr

/-- One trace channel. [DESIGN CHOICE, log 5] -/
structure Trace where
  on : Bool := false             -- sampling
  wait : Nat := 0                -- trace ticks until the next sample
  pend : BitVec 8 := 0           -- pending anchor reasons of R283, bit n for code n
  seg : Option Seg := none
  e : Nat := 0                   -- TAG.E in force
  div : Nat := 1                 -- RATE.DIV in force
  anchAt : Nat := 0              -- trace ticks counted at the channel's last anchor
  hiCnt : Nat := 0
  loCnt : Nat := 0
  hinAt : Option Nat := none     -- trace ticks counted at the last HIN write (R280)
  deriving DecidableEq, Repr

/-- A record of four words (R288). -/
structure Rec where
  w0 : Word
  w1 : Word
  w2 : Word
  w3 : Word
  deriving DecidableEq, Repr

/-! ### Ferroelectric memory and fuses: kept across reset -/

/-- A device-log copy of the trace-store mirror (R415). -/
structure MirrorCopy where
  gen : BitVec 16
  pendWr : Bool
  old : Bool
  wptr : Nat
  written : BitVec 32
  readable : BitVec 32
  overwr : BitVec 32
  disc : BitVec 32
  wrap : Bool
  full : Bool
  commit : Word                  -- commit word (R413)
  deriving DecidableEq, Repr

/-- The device log: two alternating copies, SESSION's mirror and the soft-repair table (R415, R354, R478), each with its
commit word (R413). [DESIGN CHOICE, log 3, 6] -/
structure DevLog where
  copyA : Option MirrorCopy := none
  copyB : Option MirrorCopy := none
  session : Option Word := none
  sesMark : Word := 0
  repair : Option (List (Nat × Nat)) := none   -- (target, row)
  repMark : Word := 0
  deriving DecidableEq, Repr

/-- Life-cycle, configuration, key and repair fuses (R466, R343, R468, R477). [DESIGN CHOICE, log 3, 4] -/
structure Fuses where
  mfg : Bool := false
  fld : Bool := false
  ret : Bool := false
  erased : Bool := false
  macReq : Bool := false
  keySet : Bool := false
  keyId : BitVec 12 := 0
  imageKey : BitVec 128 := 0
  keySvc : Bool := false
  svcKey : BitVec 128 := 0
  devId : BitVec 64 := 0
  repairs : List (Nat × Nat) := []
  fcoef : List (BitVec 16 × BitVec 16 × BitVec 10) := List.replicate 16 (0, 0x8000, 0)  -- slice s of array p at 4p + s
  deriving DecidableEq, Repr

/-! ### Umbra (12) -/

/-- A weighing in progress (R305). -/
structure Weigh where
  trig : Nat
  n : Nat := 0                   -- whole cycles converted
  sum : Vector Nat 4 := Vector.replicate 4 0
  lo : Vector Nat 4 := Vector.replicate 4 0xFFFF
  hi : Vector Nat 4 := Vector.replicate 4 0
  deriving DecidableEq, Repr

/-- A two-phase write of the island that a loss of VUMB can tear: the record just made, whether it is an audit record, DWRAP
before it, and the parameter set, digest and PERR that the set committed with it has replaced (R313, R317, R413). -/
structure UWrite where
  audit : Bool
  wrap : Bool := false
  set : Option (Store × BitVec 64 × Bool) := none
  deriving DecidableEq, Repr

/-- The metrology island D1 (R298): nothing outside it can write any of this (R300). [DESIGN CHOICE, log 3, 106] -/
structure Umbra where
  up : Bool := true              -- VUMB in range and the island ready
  utime : BitVec 32 := 0
  alive : BitVec 32 := 0         -- last-alive UTIME (R322)
  rtcx : Bool := false
  rtcLost : Bool := false        -- the RTC was lost since the last start (R302)
  key : Option (BitVec 128) := none
  keyId : Word := 0
  uid : BitVec 64 := 0
  params : Store := []           -- committed parameters, default 0 (R320)
  pdig : BitVec 64 := 0          -- stored digest
  perr : Bool := false
  parMark : Word := 0x8000       -- commit word of the parameter set (R413)
  shadow : Option Store := none  -- while the seal is open (R315)
  closing : List Store := []     -- shadows of closings that wait for the weighing in progress, oldest first (R317)
  sealOpen : Bool := false       -- SO (R315)
  audcnt : Word := 0
  audit : List (List Word) := [] -- audit area in slot order (R313)
  data : List (Nat × List Word) := [] -- data ring by slot
  datNext : Nat := 0
  dwrap : Bool := false
  marks : Store := []            -- commit words (R413): of audit slot i at i, of data slot s at 512 + s
  last : Option UWrite := none   -- the two-phase writes of the command just carried out
  recnum : BitVec 32 := 0        -- RECNUM of the last record
  lastRec : List Word := []
  cplcnt : Word := 0
  cpl : Bool := false
  cplSince : Bool := false       -- coupling since the last weighing record (R304)
  dum0 : Nat := 0
  dum1 : Nat := 0
  still : Bool := false
  moveBase : Nat := 0            -- DIST at the last weighing record
  distBase : Nat := 0            -- DIST at the last distance record
  distSecBase : Nat := 0
  discrep : Bool := false
  input : Nat := 0               -- next UA input to convert
  trig : Option Nat := none      -- a weighing waits for the next conversion cycle (R304)
  weigh : Option Weigh := none
  load : Vector Word 4 := Vector.replicate 4 0
  total : BitVec 32 := 0
  wflags : Word := 0
  updcnt : Word := 0
  out : List (List Word) := []   -- mailbox copies pushed by the command in progress, in order (R43, R327)
  resp : List (BitVec 8) := []   -- last response of the Umbra port (R324)
  bistFail : Bool := false       -- the island's BIST failed (R479)
  free : Nat := 0                -- model's own: how many free values the island has taken
  deriving DecidableEq, Repr

/-! ### Loader, host ports, memory port, Mirror, tests -/

/-- The start sequence and the configuration loader. -/
structure Loader where
  step : Nat := 0                -- start step of R334, 0 while RESET_N is low
  ok0 : Bool := false            -- slot 0 found valid in pass 1
  ok1 : Bool := false
  seq0 : BitVec 32 := 0
  seq1 : BitVec 32 := 0
  crcs0 : List (BitVec 32) := [] -- section CRCs of pass 1
  crcs1 : List (BitVec 32) := []
  mac0 : Option (BitVec 128) := none
  mac1 : Option (BitVec 128) := none
  sel : Nat := 0                 -- slot of pass 2
  sect : Nat := 0                -- sections already loaded in pass 2
  defer : List (Addr × Word) := []
  waitUntil : Option Nat := none -- cycle at which the pause of a WAIT section ends (R341)
  discards : Nat := 0            -- reads discarded by multi-master faults in this pass (R378)
  m5 : Bool := true              -- M5 is still a fabric master (R349)
  deriving DecidableEq, Repr

/-- A READ in progress that waits for word `next` (R386, R390): its offset, how many whole words are still to send from that
one on (0 where HCSk_N rises inside it), and what the command says of its data phase. -/
structure OpenRead where
  a : BitVec 6
  next : Nat
  left : Nat
  args : HostArgs
  deriving DecidableEq, Repr

/-- A transaction that began while ck_core stood still, and waits for RDY (R386, R396): its command byte, whether its C1
was wrong, and its data phase to come. -/
structure HostWait where
  cmd : BitVec 8
  bad : Bool
  args : HostArgs
  deriving DecidableEq, Repr

/-- A word of a CRC-protected write that waits in the port for its commit (R392), with its error on the fabric. -/
structure HeldWord where
  addr : BitVec 24
  v : Word
  err : BitVec 28
  deriving DecidableEq, Repr

/-- One host port. -/
structure HostPort where
  page : BitVec 18 := 0
  faultF : Bool := false         -- pending FAULT
  frameF : Bool := false         -- pending FRAME
  undrF : Bool := false          -- pending UNDR
  dcrceF : Bool := false         -- pending DCRCE
  crcOn : Bool := false          -- CRCEN at the last fall of HCSk_N (R404)
  status : BitVec 8 := 0         -- last status byte sent
  waits : List (BitVec 8) := []  -- the status bytes before it in the same transaction (R386)
  sent : List Word := []         -- data words sent in the last transaction
  crcs : List (BitVec 8) := []   -- the CRC bytes sent after them (R393)
  ahead : List Word := []        -- words fetched, but not sent in full (R390)
  reading : Option OpenRead := none  -- a READ that waits for its next word (R386)
  parked : Option HostWait := none   -- a transaction that waits for ck_core (R386, R396)
  held : List HeldWord := []     -- words of a write whose commits have still to come, oldest first (R392)
  rearm : Option Nat := none     -- cycle at which the rearm pulse may end (R448)
  deriving DecidableEq, Repr

/-- A frame as the memory port sends it (R362, R374): the select, the bytes and lane code of each phase, the mode byte of the
first dummy periods, the dummy periods, and the data phase. -/
structure FlashFrame where
  sel : Bool                     -- true: MCS1_N
  cmd : List (BitVec 8)          -- command bytes, first sent first
  cmdLn : Nat
  addr : List (BitVec 8)         -- address bytes, first sent first
  adrLn : Nat
  mode : Option (BitVec 8)       -- MODEB or MODEX (R374)
  dum : Nat                      -- dummy periods, the mode periods among them
  write : Bool                   -- DIR
  data : List (BitVec 8)         -- bytes sent in a write
  len : Nat                      -- bytes of the data phase
  datLn : Nat
  deriving DecidableEq, Repr

/-- The memory port. [DESIGN CHOICE, log 106] -/
structure MemPort where
  mastering : Bool := false
  relAt : Option Nat := none     -- cycle of the port's own release (R438)
  frame : Bool := false          -- STAT.BUSY
  last : Nat := 0                -- last entry of the run
  chain : Bool := false          -- select held by a CONT entry
  before : List (Master × Addr × Nat) := [] -- the window reads that waited when the entry at POS was requested (R375)
  rawHold : Bool := false        -- RAW.EN waits for the exit frame that goes before it (R374)
  stale : Bool := false          -- the buffers were invalidated during the fill in progress (R375)
  comAct : Bool := false         -- STAT.COMACT
  exitDue : Bool := false        -- the next frame is preceded by an exit frame (R379)
  deSel : Bool := false          -- RAW.EN was written 0 in this frame: its select stays high (R371)
  out : List FlashFrame := []    -- the frames sent under the present or last select, an exit frame among them
  lineA : Option (BitVec 32 × List (BitVec 8)) := none
  lineB : Option (BitVec 32 × List (BitVec 8)) := none
  useB : Bool := false           -- line B is the buffer used less recently
  fill : Option (BitVec 32) := none  -- line being filled
  pre : Bool := false            -- that fill is a next-line prefetch
  intoB : Bool := false          -- it fills line B
  wait : List (Master × Addr × Nat) := [] -- window reads waiting, oldest first: master, word address, request cycle
  errs : List (Master × Addr × BitVec 28) := [] -- what the words of waiting reads will meet on the fabric (R360)
  deriving DecidableEq, Repr

/-- The Mirror link and the partner requests. [DESIGN CHOICE, log 106] -/
structure MirrorSt where
  id : Bool := false             -- MIRROR_ID (R431)
  txSeq : BitVec 8 := 0
  txLast : List (BitVec 8) := [] -- last frame sent
  sentAt : Option Nat := none    -- cycle in which it went out (R440)
  rxSeq : Option (BitVec 8) := none
  good : Nat := 0                -- consecutive good frames
  up : Bool := false
  pres : Bool := false
  presEver : Bool := false       -- PRES has been 1 since READY (R434)
  lastGood : Option Nat := none  -- cycle of the last good frame (PSAGE)
  downAt : Nat := 0              -- cycle since which PRES has been 0
  alone : Bool := false          -- PRES 0 for RETT ms since READY (R434)
  dfGen : BitVec 8 := 0          -- own device faults since RESET_N (PS4)
  rqWr : Bool := false           -- the request in progress, as it stood at GO (R436)
  rqAddr : BitVec 24 := 0
  rqData : Word := 0
  rqFrames : Nat := 0            -- frames since GO
  rqAt : Nat := 0                -- cycle of GO
  exTag : Option (BitVec 4) := none  -- TAG last executed as M4 (R437)
  exRd : Bool := false           -- that request was a read
  rsp : Option (BitVec 4 × Word) := none -- its response, once known
  deriving DecidableEq, Repr

/-- One thermal sensor. -/
structure ThermSen where
  queued : Nat := 0              -- requests accepted, not yet handed to the array (R453)
  sent : Bool := false           -- a request is with the array, its reading not yet closed
  arr : GroupIx := 0             -- the array that accepted the queued requests
  sentArr : GroupIx := 0         -- the array that has the request sent
  acc : Nat := 0                 -- the accumulator that the request sent names (R452)
  warnAt : Option Nat := none    -- micros of the first reading that met the condition for a change of the warning (R455)
  thrAt : Option Nat := none     -- the same for the throttle
  deriving DecidableEq, Repr

/-- The destructive memory test in progress (R471). -/
structure Bist where
  run : Option Nat := none       -- target
  failed : Bool := false         -- the last test ended with FAIL
  lastTgt : Nat := 0
  deriving DecidableEq, Repr

/-- The instruction loaded in the boundary-scan TAP (R480). -/
inductive TapInstr where
  | extest | sample | idcode | bypass
  deriving DecidableEq, Repr

/-- The data registers of the boundary-scan TAP (R480, R481): the boundary register as last captured, its update cells, the
identification register and the bypass register. -/
structure Scan where
  boundary : List (ScanBall × Bool) := []
  update : List (ScanBall × Bool) := []
  ident : BitVec 32 := 0
  bypass : Bool := false
  deriving DecidableEq, Repr

/-- Service state, staged keys and the challenge (R466 to R470). -/
structure LifeCycle where
  service : Bool := false        -- SERVICE flag (D0 AON)
  chal : Option (BitVec 64 × Nat) := none -- live challenge and the cycle it was drawn
  fuse : Option Nat := none      -- life-cycle code being programmed: 1 MFG, 2 FLD, 3 RET
  erasing : Bool := false
  deriving DecidableEq, Repr

/-- One event source (R444). -/
structure EvSrc where
  cnt : BitVec 32 := 0
  ts : BitVec 32 := 0
  sub : BitVec 8 := 0
  deriving DecidableEq, Repr

/-- Power domains D3 to D9 and the thermal shutdown (R459 to R464). -/
structure Power where
  startAt : Vector Nat 10 := Vector.replicate 10 0  -- cycle of the domain's present switch-on
  gap : BitVec 10 := 0           -- domains for which ck_core has stood still since their switch-on
  gapOn : Bool := false          -- ck_core has stood still since the last switch-on
  mustLock : BitVec 10 := 0      -- D4, D5: PLL_PRISM had no lock when the domain was switched on (R462)
  lastOn : Option Nat := none    -- cycle of the last switch-on start (R462)
  thermRet : BitVec 10 := 0      -- domains whose next switch-on follows a thermal release (R463)
  prismLock : Bool := false      -- PLL_PRISM is locked
  prismLost : Bool := false      -- PLL_PRISM has lost lock and not regained it (R245)
  deriving DecidableEq, Repr

/-- The three parts of R1. -/
inductive Part where
  | otl9616 | otl4808 | otl2404
  deriving DecidableEq, Repr

/-- Everything of the module outside the metrology island. [DESIGN CHOICE, log 3, 5] -/
structure Dev where
  part : Part := .otl9616
  rev : Word := 1
  fuses : Fuses := {}
  devLog : DevLog := {}
  store : Store := []            -- the trace store, by word offset in its window (R289), default 0
  marks : Store := []            -- commit words of its slots, by slot (R413), default 0
  tested : Bool := false         -- the trace store holds the patterns of a test that RESET_N cut short (R474)
  logWrote : Option (LogUnit × Nat) := none  -- the unit of the device log last written, and in which cycle
  resetN : Bool := false         -- level of RESET_N
  locked : Bool := false         -- PLL_CORE is locked, so ck_core runs
  everLock : Bool := false       -- PLL_CORE has locked since RESET_N rose
  heldOff : Bool := false        -- every ENABLE is held low after a loss of lock (R417)
  cycles : Nat := 0              -- ck_core cycles since the first lock: TIME is cycles / 200, SUB cycles mod 200
  words : Store := []            -- register words, default `resetWord`
  inForce : Store := []          -- values in force of registers whose writes act later, default `resetWord`
  latches : Store := []          -- words latched for a master (R41), keyed 2 ^ 24 x master + address, default 0
  fab : Vector Word 7 := Vector.replicate 7 0  -- the word the last fabric read returned to each master
  cyc0 : Store := []             -- the register words as the present cycle found them (R9, R148), default `resetWord`
  fresh : Store := []            -- bits the device has set in the present cycle, by word address (R9), default 0
  freshEv : BitVec 64 := 0       -- sources raised in the present cycle (R446)
  evLate : List Nat := []        -- sources raised while ck_core stands still, oldest first (R36, R460)
  closeLate : List (GroupIx × Fin 64) := []  -- accumulators closed while ck_core stands still, not yet read in it (R183, R452)
  motors : Vector Motor 16 := Vector.replicate 16 {}
  groups : Vector Group 4 := Vector.replicate 4 {}
  bridges : Vector Bridge 48 := Vector.replicate 48 {}
  dies : Vector Die 4 := Vector.replicate 4 {}
  reports : List Report := []    -- gate reports on their way, oldest first (R177)
  seqAt : Option Nat := none     -- cycle of the last gate fault record (R173)
  busDue : List GroupIx := []    -- bus latches cleared with their output high: they set again in the next cycle (R206)
  glDue : List MotorIx := []     -- comparator registers written with RUN at 0, in force from the next cycle (R211)
  fbDue : List ChanIx := []      -- channels whose MODE was written in this cycle: it acts in the next (R275)
  prisms : Vector Prism 4 := Vector.replicate 4 {}
  fbs : Vector Fb 24 := Vector.replicate 24 {}
  dist : Dist := {}
  traces : Vector Trace 128 := Vector.replicate 128 {}
  tickAt : Nat := 0              -- cycle of the last trace tick (R277)
  ticks : Nat := 0               -- trace ticks since the first lock, without the wrap of TTICK (R280)
  emptied : Option (Nat × Bool) := none -- cycle of the last CMD.EMPTY, and whether a commit would then have overwritten a record (R291)
  secAt : Nat := 0               -- cycle of the last E61 (R442)
  recq : List Rec := []          -- records queued for the trace store, oldest first (R290)
  mbxIn : List (List Word) := [] -- Umbra mailbox copies whose crossing is not complete (R43)
  mbxAt : Nat := 0               -- cycle of the last mailbox copy (R329)
  cplAt : Nat := 0               -- cycle of the last change of the synchronised CPL_DET level (R353)
  cplQt : Nat := 200             -- QT in force for it, ms (R353)
  cplEdge : Option Bool := none  -- coupling edge held pending (R356)
  cplFrom : Nat := 0             -- first cycle in which it may act (R356)
  cplDone : Option (Nat × Bool) := none -- cycle of the last opening (true) or closing of a session (R356)
  loader : Loader := {}
  ports : Vector HostPort 4 := Vector.replicate 4 {}
  mem : MemPort := {}
  mirror : MirrorSt := {}
  therm : Vector ThermSen 5 := Vector.replicate 5 {}
  thermAt : Nat := 0             -- micros at which the present reading period began (R453)
  power : Power := {}
  bist : Bist := {}
  tap : TapInstr := .idcode
  scan : Scan := {}
  lc : LifeCycle := {}
  ev : Vector EvSrc 64 := Vector.replicate 64 {}
  pend : Vector (BitVec 64) 4 := Vector.replicate 4 0
  ppend : BitVec 64 := 0
  ueAt : Option (Nat × Nat) := none -- cycle of the last uncorrectable word, and the place that UEADDR records for it (R409)
  faultAt : Option Nat := none   -- cycle of the last device fault that is not part of an earlier one (R420)
  scrubPos : Nat := 0            -- next word of the scrub pass (R410)
  scrubCe : Nat := 0             -- words corrected in the present pass (R412)
  scrubRaised : Bool := false    -- CETHR has been raised in the present pass
  backs : List (Nat × Word) := [] -- corrected words waiting for their write-back, by position (R411)
  free : Nat := 0                -- model's own: how many free values have been taken
  deriving DecidableEq, Repr

/-- The machine: the module, its sealed island, and the commands that wait, first in first out. -/
structure State where
  dev : Dev := {}
  umbra : Umbra := {}
  pending : List Instr := []
  deriving DecidableEq, Repr

/-- Reasons for which the machine stops. No meaning raises one: the spec gives every command an effect. -/
inductive Fault where
  /-- A supply outside its range (R331 names no behaviour); no command of the table brings it about. Safe. -/
  | supplyOutOfRange
  deriving DecidableEq, Repr

/-- Reasons for which a command has no meaning in the model. -/
inductive Refusal where
  /-- Raised by an arm of Dispatch.lean whose command has no meaning yet. Safe: no claim is proved through it. -/
  | notModelled (mnemonic : String)
  deriving DecidableEq, Repr

/-- Right after reset: RESET_N is low and holds every domain except Umbra in reset (R332, R333), every register at its
reset value, TIME and the sub-count 0, nothing waiting. [DESIGN CHOICE, log 3] -/
def State.reset : State := {}

end Sys2Proof.Machine
end

