-- ==== Sys2Proof/Machine/Operands.lean ====
section
/-! DEFINITION. How a command's operands name things: bit fields of a word, signed and unsigned readings, the rounding
the spec names, and the word address of every register (the address maps of the chapters). -/

namespace Sys2Proof.Machine

open Sys2Proof

/-! ### Bit fields and numbers -/

/-- Bits `hi` down to `lo` of a word as an unsigned number. -/
def bits (w : Word) (hi lo : Nat) : Nat := (w.toNat >>> lo) % 2 ^ (hi + 1 - lo)

/-- Bit `i` of a word. -/
def bitOf (w : Word) (i : Nat) : Bool := w.getLsbD i

/-- A word with bits `hi` down to `lo` replaced by the low bits of `v`. -/
def withBits (w : Word) (hi lo : Nat) (v : Nat) : Word :=
  BitVec.ofNat 16 (w.toNat - (bits w hi lo) * 2 ^ lo + (v % 2 ^ (hi + 1 - lo)) * 2 ^ lo)

/-- A word with bit `i` set to `b`. -/
def withBit (w : Word) (i : Nat) (b : Bool) : Word := withBits w i i b.toNat

/-- A number as a word, modulo 2^16. -/
def word (n : Nat) : Word := BitVec.ofNat 16 n

/-- An integer as a word in two's complement, modulo 2^16. -/
def iword (n : Int) : Word := BitVec.ofInt 16 n

/-- High and low halves of a 32-bit quantity. -/
def hi16 (v : BitVec 32) : Word := v.extractLsb' 16 16

/-- Low half of a 32-bit quantity. -/
def lo16 (v : BitVec 32) : Word := v.extractLsb' 0 16

/-- `v` limited to the range `lo` to `hi`. -/
def clampInt (lo hi v : Int) : Int := if v < lo then lo else if hi < v then hi else v

/-- `v` limited to the range `lo` to `hi`. -/
def clampNat (lo hi v : Nat) : Nat := if v < lo then lo else if hi < v then hi else v

/-- An integer limited to a signed word. -/
def satWord (v : Int) : Int := clampInt (-32768) 32767 v

/-- Quotient rounded to the nearest integer, halves away from zero; the divisor is positive. -/
def roundDiv (n d : Int) : Int :=
  if 0 ≤ n then (2 * n + d) / (2 * d) else -((2 * (-n) + d) / (2 * d))

/-- Quotient truncated toward zero. -/
def truncDiv (n d : Int) : Int := Int.tdiv n d

/-- Bits set among the 16 of a word. -/
def bitList (w : Word) : List Nat := (List.range 16).filter (fun i => w.getLsbD i)

/-- One entry of a vector changed by a function. -/
def upd {α : Type} {n : Nat} (v : Vector α n) (i : Fin n) (f : α → α) : Vector α n := v.set i.1 (f v[i]) i.2

/-! ### Register addresses (the chapters' register sections, R397) -/

/-- Register of group timebase g (R33). -/
def aGrp (g : GroupIx) (off : Nat) : Nat := 0x10 + 8 * g.1 + off
/-- Register of host port k (R404). -/
def aHp (k : HostIx) (off : Nat) : Nat := 0x60 + 8 * k.1 + off
/-- Access-table word of target t, subregion n (R398). -/
def aTbl (t n : Nat) : Nat := 0x400 + 4 * t + n
/-- Register of thermal sensor s (R465). -/
def aSen (s : SensorIx) (off : Nat) : Nat := 0x1010 + 8 * s.1 + off
/-- Register of motor m (R397, chapters 02 to 04). -/
def aMot (m : MotorIx) (off : Nat) : Nat := 0x2000 + 0x400 * m.1 + off
/-- Register of arbiter g (R148). -/
def aCba (g : GroupIx) (off : Nat) : Nat := 0x6000 + 0x40 * g.1 + off
/-- Register of slot j of arbiter g. -/
def aSlot (g j : Fin 4) (off : Nat) : Nat := 0x6010 + 0x40 * g.1 + 8 * j.1 + off
/-- Register of supply group g (R196). -/
def aSup (g : GroupIx) (off : Nat) : Nat := 0x6400 + 0x40 * g.1 + off
/-- Register of half-bridge b (R182). -/
def aGd (b : BridgeIx) (off : Nat) : Nat := 0x6800 + 0x20 * b.1 + off
/-- Register of gate-driver die g. -/
def aGdg (g : GroupIx) (off : Nat) : Nat := 0x6E00 + 0x10 * g.1 + off
/-- Register of motor m's comparators (R211). -/
def aCur (m : MotorIx) (off : Nat) : Nat := 0x7000 + 8 * m.1 + off
/-- Register of group g's bus comparator. -/
def aBus (g : GroupIx) (off : Nat) : Nat := 0x7080 + 4 * g.1 + off
/-- Register of Prism array p (R248). -/
def aPrm (p : GroupIx) (off : Nat) : Nat := 0x8000 + 0x800 * p.1 + off
/-- Register of accumulator a of array p. -/
def aAcc (p : GroupIx) (a : Nat) (off : Nat) : Nat := aPrm p (0x200 + 4 * a + off)
/-- Register of tracker t of array p. -/
def aTrk (p : GroupIx) (t : Nat) (off : Nat) : Nat := aPrm p (0x300 + 4 * t + off)
/-- Register of feedback channel f (R275). -/
def aFb (f : ChanIx) (off : Nat) : Nat := 0xA000 + 0x20 * f.1 + off
/-- Register of trace channel t (R296). -/
def aTr (t : TraceIx) (off : Nat) : Nat := 0xB000 + 8 * t.1 + off
/-- Mask word q of host k in the EVENT block: 0 EN, 4 PEND, 8 XEN (R450). -/
def aEvh (k : HostIx) (off : Nat) : Nat := 0xE00 + 0x10 * k.1 + off

/-! ### Indices (R6) -/

/-- An index below a bound. -/
def ix (n : Nat) (i : Nat) (h : 0 < n) : Fin n := ⟨i % n, Nat.mod_lt _ h⟩

/-- The group of a motor. -/
def grpOf (m : MotorIx) : GroupIx := ⟨m.1 / 4, by omega⟩
/-- The carrier slot of a motor (R20). -/
def slotOf (m : MotorIx) : Fin 4 := ⟨m.1 % 4, by omega⟩
/-- The motor in slot j of group g. -/
def motAt (g j : Fin 4) : MotorIx := ⟨4 * g.1 + j.1, by omega⟩
/-- The motors of a group, in slot order. -/
def motsOf (g : GroupIx) : List MotorIx := (List.finRange 4).map (motAt g)
/-- Half-bridge of motor m for phase U, V or W. -/
def bridgeOf (m : MotorIx) (ph : Fin 3) : BridgeIx := ⟨3 * m.1 + ph.1, by omega⟩
/-- The motor of a half-bridge. -/
def motOfBridge (b : BridgeIx) : MotorIx := ⟨b.1 / 3, by omega⟩
/-- The phase of a half-bridge. -/
def phaseOf (b : BridgeIx) : Fin 3 := ⟨b.1 % 3, by omega⟩
/-- The group of a half-bridge. -/
def grpOfBridge (b : BridgeIx) : GroupIx := grpOf (motOfBridge b)
/-- The half-bridges of a group. -/
def bridgesOf (g : GroupIx) : List BridgeIx := (motsOf g).flatMap (fun m => (List.finRange 3).map (bridgeOf m))

/-- Motors, groups and half-bridges that a part has (R1). -/
def Part.groups : Part → Nat
  | .otl9616 => 4
  | .otl4808 => 2
  | .otl2404 => 1

/-! ### Two-phase ferroelectric writes (R413) -/

/-- The commit word of a unit of ferroelectric memory: 0x8000 OR bits 14:0 of the exclusive or of its data words (R413).
[DESIGN CHOICE, log 118] -/
def commitWord (ws : List Word) : Word := 0x8000 ||| (ws.foldl (· ^^^ ·) 0 &&& 0x7FFF)

end Sys2Proof.Machine
end

