-- ==== Sys2Proof/Machine/Codes.lean ====
section
/-! DEFINITION. The codes that the spec names: the CRC-8 of SAE J1850 (R324, R383), the CRC-32 of IEEE 802.3 (R338),
the AES-128-CMAC of FIPS 197 and SP 800-38B (R312, R343, R469), and the memory code of R405 to R407. -/

namespace Sys2Proof.Machine

open Sys2Proof

/-! ### CRCs -/

/-- One bit of the CRC-8 with polynomial 0x1D. -/
def crc8Bit (c : Byte) : Byte := if c.msb then (c <<< 1) ^^^ 0x1D else c <<< 1

/-- One byte of the CRC-8. -/
def crc8Byte (c b : Byte) : Byte :=
  let x := c ^^^ b
  crc8Bit (crc8Bit (crc8Bit (crc8Bit (crc8Bit (crc8Bit (crc8Bit (crc8Bit x)))))))

/-- The CRC-8 of SAE J1850: initial value 0xFF, final XOR 0xFF. -/
def crc8 (l : List Byte) : Byte := l.foldl crc8Byte 0xFF ^^^ 0xFF

/-- One bit of the reflected CRC-32. -/
def crc32Bit (c : BitVec 32) : BitVec 32 := if c.getLsbD 0 then (c >>> 1) ^^^ 0xEDB88320 else c >>> 1

/-- One byte of the CRC-32. -/
def crc32Byte (c : BitVec 32) (b : Byte) : BitVec 32 :=
  let x := c ^^^ b.setWidth 32
  crc32Bit (crc32Bit (crc32Bit (crc32Bit (crc32Bit (crc32Bit (crc32Bit (crc32Bit x)))))))

/-- The CRC-32 of IEEE 802.3 with the parameters of R338. [PRESUMED, log 70] -/
def crc32 (l : List Byte) : BitVec 32 := l.foldl crc32Byte 0xFFFFFFFF ^^^ 0xFFFFFFFF

/-- The two bytes of a word, high byte first. -/
def wordBytes (w : Word) : List Byte := [w.extractLsb' 8 8, w.extractLsb' 0 8]

/-- The bytes of a list of words, each high byte first (R337). -/
def bytesOf (l : List Word) : List Byte := l.flatMap wordBytes

/-! ### AES-128 (FIPS 197) and CMAC (SP 800-38B) -/

/-- The substitution table of FIPS 197, entry 0x00 in the top byte. -/
def aesTable : Nat :=
  0x637c777bf26b6fc53001672bfed7ab76ca82c97dfa5947f0add4a2af9ca472c0b7fd9326363ff7cc34a5e5f171d8311504c723c31896059a071280e2eb27b27509832c1a1b6e5aa0523bd6b329e32f8453d100ed20fcb15b6acbbe394a4c58cfd0efaafb434d338545f9027f503c9fa851a3408f929d38f5bcb6da2110fff3d2cd0c13ec5f974417c4a77e3d645d197360814fdc222a908846eeb814de5e0bdbe0323a0a4906245cc2d3ac629195e479e7c8376d8dd54ea96c56f4ea657aae08ba78252e1ca6b4c6e8dd741f4bbd8b8a703eb5664803f60e613557b986c11d9ee1f8981169d98e949b1e87e9ce5528df8ca1890dbfe6426841992d0fb054bb16

/-- SubBytes of one byte. -/
def subByte (b : Byte) : Byte := BitVec.ofNat 8 (aesTable >>> (8 * (255 - b.toNat)))

/-- Byte `i` of a list, 0 past its end. -/
def byteAt (l : List Byte) (i : Nat) : Byte := l.getD i 0

/-- Multiplication by x in GF(2^8). -/
def xtime (b : Byte) : Byte := if b.msb then (b <<< 1) ^^^ 0x1B else b <<< 1

/-- Byte-wise exclusive or. -/
def xorBytes (a b : List Byte) : List Byte := List.zipWith (· ^^^ ·) a b

/-- ShiftRows on the 16 bytes in column order. -/
def shiftRows (s : List Byte) : List Byte :=
  [0, 5, 10, 15, 4, 9, 14, 3, 8, 13, 2, 7, 12, 1, 6, 11].map (byteAt s)

/-- MixColumns on one column. -/
def mixColumn (s : List Byte) (c : Nat) : List Byte :=
  let a := byteAt s (4 * c)
  let b := byteAt s (4 * c + 1)
  let e := byteAt s (4 * c + 2)
  let f := byteAt s (4 * c + 3)
  [xtime a ^^^ (xtime b ^^^ b) ^^^ e ^^^ f, a ^^^ xtime b ^^^ (xtime e ^^^ e) ^^^ f,
   a ^^^ b ^^^ xtime e ^^^ (xtime f ^^^ f), (xtime a ^^^ a) ^^^ b ^^^ e ^^^ xtime f]

/-- MixColumns. -/
def mixColumns (s : List Byte) : List Byte := mixColumn s 0 ++ mixColumn s 1 ++ mixColumn s 2 ++ mixColumn s 3

/-- The next round key. -/
def nextKey (k : List Byte) (rc : Byte) : List Byte :=
  let t := [subByte (byteAt k 13) ^^^ rc, subByte (byteAt k 14), subByte (byteAt k 15), subByte (byteAt k 12)]
  let w0 := xorBytes (k.take 4) t
  let w1 := xorBytes ((k.drop 4).take 4) w0
  let w2 := xorBytes ((k.drop 8).take 4) w1
  let w3 := xorBytes ((k.drop 12).take 4) w2
  w0 ++ w1 ++ w2 ++ w3

/-- Rounds of the cipher after the initial key addition; `n` rounds are left. -/
def aesRounds : Nat → List Byte → List Byte → Byte → List Byte
  | 0, s, _, _ => s
  | n + 1, s, k, rc =>
    let k := nextKey k rc
    let t := shiftRows (s.map subByte)
    aesRounds n (xorBytes (if n = 0 then t else mixColumns t) k) k (xtime rc)

/-- AES-128 of one block of 16 bytes. [PRESUMED, log 70] -/
def aes128 (key block : List Byte) : List Byte := aesRounds 10 (xorBytes block key) key 1

/-- The bytes of a 128-bit number, most significant first. -/
def bytes128 (v : BitVec 128) : List Byte := (List.range 16).map (fun i => v.extractLsb' (120 - 8 * i) 8)

/-- The bytes of a 64-bit number, most significant first. -/
def bytes64 (v : BitVec 64) : List Byte := (List.range 8).map (fun i => v.extractLsb' (56 - 8 * i) 8)

/-- A number from bytes, most significant first. -/
def natOfBytes (l : List Byte) : Nat := l.foldl (fun n b => 256 * n + b.toNat) 0

/-- Doubling in GF(2^128), for the CMAC subkeys. -/
def dbl (v : BitVec 128) : BitVec 128 := if v.msb then (v <<< 1) ^^^ 0x87 else v <<< 1

/-- The CBC chain over the blocks of a message, the last of which is treated with a subkey. -/
def cmacChain (key : List Byte) (k1 k2 : List Byte) : Nat → List Byte → List Byte → List Byte
  | 0, acc, _ => acc
  | n + 1, acc, m =>
    if m.length ≤ 16 then
      let last := if m.length = 16 then xorBytes m k1
        else xorBytes (m ++ [0x80] ++ List.replicate (15 - m.length) 0) k2
      aes128 key (xorBytes acc last)
    else cmacChain key k1 k2 n (aes128 key (xorBytes acc (m.take 16))) (m.drop 16)

/-- The AES-128-CMAC of a message. [PRESUMED, log 70] -/
def cmac (key : BitVec 128) (m : List Byte) : BitVec 128 :=
  let k := bytes128 key
  let l := BitVec.ofNat 128 (natOfBytes (aes128 k (List.replicate 16 0)))
  BitVec.ofNat 128 (natOfBytes
    (cmacChain k (bytes128 (dbl l)) (bytes128 (dbl (dbl l))) (m.length / 16 + 1) (List.replicate 16 0) m))

/-- The leftmost 64 bits of a tag. -/
def cmac64 (key : BitVec 128) (m : List Byte) : BitVec 64 := (cmac key m).extractLsb' 64 64

/-! ### The memory code (R405 to R407) -/

/-- α times an element of GF(2^4). -/
def gfTimes2 (x : BitVec 4) : BitVec 4 := if x.msb then (x <<< 1) ^^^ 0x3 else x <<< 1

/-- Product in GF(2^4) with x^4 + x + 1. -/
def gfMul (a b : BitVec 4) : BitVec 4 :=
  let b1 := gfTimes2 b
  let b2 := gfTimes2 b1
  let b3 := gfTimes2 b2
  (if a.getLsbD 0 then b else 0) ^^^ (if a.getLsbD 1 then b1 else 0) ^^^ (if a.getLsbD 2 then b2 else 0) ^^^
    (if a.getLsbD 3 then b3 else 0)

/-- α to a power. -/
def gfPow : Nat → BitVec 4
  | 0 => 1
  | n + 1 => gfTimes2 (gfPow n)

/-- Nibble `i` of a 28-bit code word taken as the coefficient of x^i: check nibbles 0 to 2, data nibbles 3 to 6. -/
def codeNibble (c : BitVec 28) (i : Nat) : BitVec 4 :=
  if i < 3 then c.extractLsb' (16 + 4 * i) 4 else c.extractLsb' (4 * (i - 3)) 4

/-- The syndrome S_j = c(α^j). -/
def syndrome (c : BitVec 28) (j : Nat) : BitVec 4 :=
  (List.range 7).foldl (fun acc i => acc ^^^ gfMul (codeNibble c i) (gfPow (i * j))) 0

/-- One step of the division of d(x) x^3 by g(x): the remainder with the next data nibble taken in. -/
def checkStep (r : BitVec 4 × BitVec 4 × BitVec 4) (n : BitVec 4) : BitVec 4 × BitVec 4 × BitVec 4 :=
  let q := r.1 ^^^ n
  (r.2.1 ^^^ gfMul q 0x7, r.2.2 ^^^ gfMul q 0xE, gfMul q 0x8)

/-- The 28-bit code word of a data word (R405, R406). -/
def encode28 (w : Word) : BitVec 28 :=
  let r := [w.extractLsb' 12 4, w.extractLsb' 8 4, w.extractLsb' 4 4, w.extractLsb' 0 4].foldl checkStep (0, 0, 0)
  r.1 ++ r.2.1 ++ r.2.2 ++ w

/-- What a read of a code word finds (R407). -/
inductive Decoded where
  | clean (w : Word)
  | corrected (w : Word)
  | bad
  deriving DecidableEq, Repr

/-- Decode a 28-bit word (R407). -/
def decode28 (c : BitVec 28) : Decoded :=
  let s0 := syndrome c 0
  let s1 := syndrome c 1
  let s2 := syndrome c 2
  if s0 = 0 ∧ s1 = 0 ∧ s2 = 0 then .clean (c.extractLsb' 0 16)
  else if s0 ≠ 0 ∧ s1 ≠ 0 ∧ s2 ≠ 0 ∧ gfMul s1 s1 = gfMul s0 s2 then
    match (List.range 7).find? (fun i => gfMul s0 (gfPow i) = s1) with
    | some i => .corrected (c.extractLsb' 0 16 ^^^ (if 3 ≤ i then s0.setWidth 16 <<< (4 * (i - 3)) else 0))
    | none => .bad
  else .bad

/-- The word that a decoding delivers: 0 where it cannot be corrected. -/
def Decoded.value : Decoded → Word
  | .clean v => v
  | .corrected v => v
  | .bad => 0

end Sys2Proof.Machine
end

