-- ==== Sys2Proof/Machine/Ops.lean ====
section
/-! DEFINITION. The named operations over the word stores and the register words of the module. Every read and every
write of a register word in any meaning goes through these. -/

namespace Sys2Proof.Machine

open Sys2Proof

/-! ### Sparse stores in canonical form -/

/-- The word at a key: the entry, or what an unlisted key reads as. -/
def Store.get (dflt : Nat → Word) : Store → Nat → Word
  | [], a => dflt a
  | (k, x) :: t, a => if a = k then x else Store.get dflt t a

/-- Put an entry for a key that is not listed in its place. -/
def Store.insert : Store → Nat → Word → Store
  | [], a, v => [(a, v)]
  | (k, x) :: t, a, v => if a < k then (a, v) :: (k, x) :: t else (k, x) :: Store.insert t a v

/-- Write a word, keeping the canonical form: writing what an unlisted key reads as removes the entry. -/
def Store.set (dflt : Nat → Word) (st : Store) (a : Nat) (v : Word) : Store :=
  let t := st.filter (fun e => e.1 ≠ a)
  if v = dflt a then t else Store.insert t a v

/-- The canonical form: keys above `lo` and strictly rising, no entry equal to what an unlisted key reads as. -/
def Store.wfFrom (dflt : Nat → Word) : Nat → Store → Bool
  | _, [] => true
  | lo, (k, x) :: t => decide (lo ≤ k) && decide (x ≠ dflt k) && Store.wfFrom dflt (k + 1) t

/-- The canonical form of a store. -/
def Store.wf (dflt : Nat → Word) (st : Store) : Bool := Store.wfFrom dflt 0 st

/-- Every key from `lo` up to but not including `hi` returns to its default. -/
def Store.clear (st : Store) (lo hi : Nat) : Store := st.filter (fun e => e.1 < lo || hi ≤ e.1)

/-- The keys from `lo` up to but not including `hi` take the words they have in `src`. -/
def Store.copy (dst src : Store) (lo hi : Nat) : Store :=
  dst.filter (fun e => e.1 < lo) ++ src.filter (fun e => lo ≤ e.1 && e.1 < hi) ++ dst.filter (fun e => hi ≤ e.1)

/-! ### Register words -/

/-- The stored word of a register. -/
def Dev.w (d : Dev) (a : Nat) : Word := d.words.get resetWord a

/-- Bits `hi` to `lo` of a register. -/
def Dev.fld (d : Dev) (a hi lo : Nat) : Nat := bits (d.w a) hi lo

/-- Bit `i` of a register. -/
def Dev.bit (d : Dev) (a i : Nat) : Bool := bitOf (d.w a) i

/-- A register read as a signed word (R8). -/
def Dev.sw (d : Dev) (a : Nat) : Int := (d.w a).toInt

/-- A register read as an unsigned number. -/
def Dev.uw (d : Dev) (a : Nat) : Nat := (d.w a).toNat

/-- Store a register word. -/
def Dev.put (d : Dev) (a : Nat) (v : Word) : Dev := { d with words := d.words.set resetWord a v }

/-- Store a field of a register. -/
def Dev.putF (d : Dev) (a hi lo v : Nat) : Dev := d.put a (withBits (d.w a) hi lo v)

/-- Store one bit of a register. -/
def Dev.putB (d : Dev) (a i : Nat) (b : Bool) : Dev := d.putF a i i b.toNat

/-- The bits of a register that the device has set in the present cycle (R9). -/
def Dev.freshBits (d : Dev) (a : Nat) : Word := d.fresh.get (fun _ => 0) a

/-- The device sets the bits of a mask in a register: they stand against a clearing write of the same cycle (R9). -/
def Dev.orW (d : Dev) (a : Nat) (mask : Word) : Dev :=
  { d.put a (d.w a ||| mask) with fresh := d.fresh.set (fun _ => 0) a (d.freshBits a ||| mask) }

/-- The device sets one bit of a register. -/
def Dev.setB (d : Dev) (a i : Nat) : Dev := d.orW a (1#16 <<< i)

/-- Clear the bits of a mask in a register. -/
def Dev.clrW (d : Dev) (a : Nat) (mask : Word) : Dev := d.put a (d.w a &&& ~~~mask)

/-- Add `n` to a counter of `hi - lo + 1` bits that saturates. -/
def Dev.addSat (d : Dev) (a hi lo n : Nat) : Dev :=
  d.putF a hi lo (min (d.fld a hi lo + n) (2 ^ (hi + 1 - lo) - 1))

/-- Count one in a 16-bit saturating counter. -/
def Dev.inc (d : Dev) (a : Nat) : Dev := d.addSat a 15 0 1

/-- A 32-bit quantity in two words, low word first. -/
def Dev.w32 (d : Dev) (a : Nat) : BitVec 32 := d.w (a + 1) ++ d.w a

/-- Store a 32-bit quantity in two words, low word first. -/
def Dev.put32 (d : Dev) (a : Nat) (v : BitVec 32) : Dev := (d.put a (lo16 v)).put (a + 1) (hi16 v)

/-- A register word as the present cycle found it. -/
def Dev.w0 (d : Dev) (a : Nat) : Word := d.cyc0.get resetWord a

/-- Every register word from `lo` up to but not including `hi` returns to its reset value. -/
def Dev.resetRange (d : Dev) (lo hi : Nat) : Dev := { d with words := d.words.clear lo hi }

/-! ### Values in force -/

/-- The value in force of a register whose writes act later. -/
def Dev.iw (d : Dev) (a : Nat) : Word := d.inForce.get resetWord a

/-- Bits `hi` to `lo` of the value in force. -/
def Dev.ifld (d : Dev) (a hi lo : Nat) : Nat := bits (d.iw a) hi lo

/-- Bit `i` of the value in force. -/
def Dev.ibit (d : Dev) (a i : Nat) : Bool := bitOf (d.iw a) i

/-- The value in force as a signed word. -/
def Dev.isw (d : Dev) (a : Nat) : Int := (d.iw a).toInt

/-- The value in force as an unsigned number. -/
def Dev.iuw (d : Dev) (a : Nat) : Nat := (d.iw a).toNat

/-- The stored words of a range come into force. -/
def Dev.enforce (d : Dev) (lo hi : Nat) : Dev := { d with inForce := d.inForce.copy d.words lo hi }

/-- The words of a range come into force as the present cycle found them: a write of this very cycle acts later (R148). -/
def Dev.enforce0 (d : Dev) (lo hi : Nat) : Dev := { d with inForce := d.inForce.copy d.cyc0 lo hi }

/-! ### Latched words (R41) -/

/-- Key of a latched word: master and word address. -/
def latchKey (k : Master) (a : Nat) : Nat := 2 ^ 24 * k.1 + a

/-- The word latched for a master; 0 before its first latching read. [DESIGN CHOICE, log 6] -/
def Dev.latched (d : Dev) (k : Master) (a : Nat) : Word := d.latches.get (fun _ => 0) (latchKey k a)

/-- Latch a word for a master. -/
def Dev.latch (d : Dev) (k : Master) (a : Nat) (v : Word) : Dev :=
  { d with latches := d.latches.set (fun _ => 0) (latchKey k a) v }

/-! ### Records -/

/-- Motor m. -/
def Dev.mot (d : Dev) (m : MotorIx) : Motor := d.motors[m]
/-- Change motor m. -/
def Dev.onMot (d : Dev) (m : MotorIx) (f : Motor → Motor) : Dev := { d with motors := upd d.motors m f }
/-- Group g. -/
def Dev.grp (d : Dev) (g : GroupIx) : Group := d.groups[g]
/-- Change group g. -/
def Dev.onGrp (d : Dev) (g : GroupIx) (f : Group → Group) : Dev := { d with groups := upd d.groups g f }
/-- Half-bridge b. -/
def Dev.brg (d : Dev) (b : BridgeIx) : Bridge := d.bridges[b]
/-- Change half-bridge b. -/
def Dev.onBrg (d : Dev) (b : BridgeIx) (f : Bridge → Bridge) : Dev := { d with bridges := upd d.bridges b f }
/-- Gate-driver die g. -/
def Dev.die (d : Dev) (g : GroupIx) : Die := d.dies[g]
/-- Change gate-driver die g. -/
def Dev.onDie (d : Dev) (g : GroupIx) (f : Die → Die) : Dev := { d with dies := upd d.dies g f }
/-- Prism array p. -/
def Dev.prm (d : Dev) (p : GroupIx) : Prism := d.prisms[p]
/-- Change array p. -/
def Dev.onPrm (d : Dev) (p : GroupIx) (f : Prism → Prism) : Dev := { d with prisms := upd d.prisms p f }
/-- Feedback channel f. -/
def Dev.fb (d : Dev) (c : ChanIx) : Fb := d.fbs[c]
/-- Change feedback channel f. -/
def Dev.onFb (d : Dev) (c : ChanIx) (f : Fb → Fb) : Dev := { d with fbs := upd d.fbs c f }
/-- Trace channel t. -/
def Dev.trc (d : Dev) (t : TraceIx) : Trace := d.traces[t]
/-- Change trace channel t. -/
def Dev.onTrc (d : Dev) (t : TraceIx) (f : Trace → Trace) : Dev := { d with traces := upd d.traces t f }
/-- Host port k. -/
def Dev.hp (d : Dev) (k : HostIx) : HostPort := d.ports[k]
/-- Change host port k. -/
def Dev.onHp (d : Dev) (k : HostIx) (f : HostPort → HostPort) : Dev := { d with ports := upd d.ports k f }

/-- Run a change for each element of a list in order. -/
def Dev.each {α : Type} (d : Dev) (l : List α) (f : Dev → α → Dev) : Dev := l.foldl f d

/-- A change made only where a condition holds. -/
def Dev.when (d : Dev) (c : Bool) (f : Dev → Dev) : Dev := if c then f d else d

/-! ### Time (R34 to R36) -/

/-- ck_core runs: RESET_N is high and PLL_CORE is locked (R34, R35). -/
def Dev.runs (d : Dev) : Bool := d.resetN && d.locked

/-- READY. -/
def Dev.ready (d : Dev) : Bool := d.bit 0x40 15

/-- A new ck_core cycle begins with the register words as they stand, and nothing yet set in it (R9).
[DESIGN CHOICE, log 7] -/
def Dev.newCycle (d : Dev) : Dev := { d with cyc0 := d.words, fresh := [], freshEv := 0 }

/-- TIME, in microseconds. -/
def Dev.time (d : Dev) : BitVec 32 := BitVec.ofNat 32 (d.cycles / 200)

/-- Microseconds counted since the first lock, without the wrap of TIME. -/
def Dev.micros (d : Dev) : Nat := d.cycles / 200

/-- The 5 ns sub-count. -/
def Dev.sub (d : Dev) : BitVec 8 := BitVec.ofNat 8 (d.cycles % 200)

/-- Stamp TIME and the sub-count into three words, low word first (R36). -/
def Dev.stamp (d : Dev) (a : Nat) : Dev :=
  ((d.put a (lo16 d.time)).put (a + 1) (hi16 d.time)).put (a + 2) (word (d.cycles % 200))

/-- Stamp TIME into two words, low word first. -/
def Dev.stampTime (d : Dev) (a : Nat) : Dev := d.put32 a d.time

/-- Take the next free value. [DESIGN CHOICE, log 16] -/
def Dev.nextFree (d : Dev) : Dev := { d with free := d.free + 1 }

/-! ### What the part has (R1, R4, R5) -/

/-- The part has group g (and Prism array g). -/
def Dev.hasGrp (d : Dev) (g : GroupIx) : Bool := g.1 < d.part.groups
/-- The part has motor m. -/
def Dev.hasMot (d : Dev) (m : MotorIx) : Bool := m.1 < 4 * d.part.groups
/-- The part has half-bridge b. -/
def Dev.hasBrg (d : Dev) (b : BridgeIx) : Bool := b.1 < 12 * d.part.groups
/-- The part has thermal sensor s (R451). -/
def Dev.hasSen (d : Dev) (s : SensorIx) : Bool := s.1 ≤ d.part.groups
/-- The part has power domain n (R5). -/
def Dev.hasDom (d : Dev) (n : Nat) : Bool :=
  if n = 5 then 2 < d.part.groups else if 6 ≤ n then n - 6 < d.part.groups else true
/-- The part has event source i (R5). -/
def Dev.hasSrc (d : Dev) (i : Nat) : Bool :=
  if i < 16 then i < 4 * d.part.groups
  else if i < 20 then i - 16 < d.part.groups
  else if i < 24 then i - 20 < d.part.groups
  else if 32 ≤ i ∧ i < 36 then i - 32 < d.part.groups
  else true

/-- A register that belongs to a motor, half-bridge, group, array or sensor the part lacks (R4, R451). -/
def absentReg (part : Part) (a : Nat) : Bool :=
  let n := part.groups
  if 0x10 ≤ a ∧ a < 0x30 then n ≤ (a - 0x10) / 8
  else if a = 0x35 then n ≤ 2
  else if 0x1010 ≤ a ∧ a < 0x1038 then n < (a - 0x1010) / 8
  else if 0x2000 ≤ a ∧ a < 0x6000 then 4 * n ≤ (a - 0x2000) / 0x400
  else if 0x6000 ≤ a ∧ a < 0x6100 then n ≤ (a - 0x6000) / 0x40
  else if 0x6400 ≤ a ∧ a < 0x6500 then n ≤ (a - 0x6400) / 0x40
  else if 0x6800 ≤ a ∧ a < 0x6E00 then 12 * n ≤ (a - 0x6800) / 0x20
  else if 0x6E00 ≤ a ∧ a < 0x6E40 then n ≤ (a - 0x6E00) / 0x10
  else if 0x7000 ≤ a ∧ a < 0x7080 then 4 * n ≤ (a - 0x7000) / 8
  else if 0x7080 ≤ a ∧ a < 0x7090 then n ≤ (a - 0x7080) / 4
  else if 0x8000 ≤ a ∧ a < 0xA000 then n ≤ (a - 0x8000) / 0x800
  else if 0xC00 ≤ a ∧ a < 0xE00 then
    (let i := (a - 0xC00) / 8
     if i < 16 then 4 * n ≤ i else if i < 20 then n ≤ i - 16 else if i < 24 then n ≤ i - 20
     else if 32 ≤ i ∧ i < 36 then n ≤ i - 32 else false)
  else if 0xF00 ≤ a ∧ a < 0xF10 then 4 * n ≤ a - 0xF00
  else if 0xE009 ≤ a ∧ a < 0xE00D then n ≤ a - 0xE009
  else false

/-- Bits of a present register that belong to absent resources: they read 0 and cannot be set (R5, R450, R461). -/
def absentBits (d : Dev) (a : Nat) : Word :=
  let srcs (q : Nat) : Word :=
    (List.range 16).foldl (fun m j => if d.hasSrc (16 * q + j) then m else m ||| (1#16 <<< j)) 0
  if 0xE00 ≤ a ∧ a < 0xE40 ∧ (a % 16) < 12 then srcs (a % 4)
  else if 0xF10 ≤ a ∧ a < 0xF18 then srcs (a % 4)
  else if a = 0x800 then (List.range 10).foldl (fun m n => if d.hasDom n then m else m ||| (1#16 <<< n)) 0
  else if a = 0x1001 then
    (List.finRange 5).foldl (fun m s => if d.hasSen s then m else m ||| (0x0421#16 <<< s.1)) 0
  else 0

end Sys2Proof.Machine
end

