-- ==== Sys2Proof/Machine/Flags.lean ====
section
/-! DEFINITION. Flags, counts and events: how a cause bit is set, how a source is raised (R441 to R444), and the state
of the interrupt balls (R447, R448). -/

namespace Sys2Proof.Machine

open Sys2Proof

/-- Source i is raised in the present cycle: count, stamp, and set its pending bit for every host and the partner
(R444). A source that the part lacks is never raised (R5). -/
def Dev.raiseNow (d : Dev) (i : Nat) : Dev :=
  if h : i < 64 then
    if d.hasSrc i then
      { d with
        ev := upd d.ev ⟨i, h⟩ (fun e => { cnt := e.cnt + 1, ts := d.time, sub := d.sub })
        pend := d.pend.map (fun p => p ||| (1#64 <<< i))
        ppend := d.ppend ||| (1#64 <<< i)
        freshEv := d.freshEv ||| (1#64 <<< i) }
    else d
  else d

/-- RESET_N is high and ck_core stands still. -/
def Dev.stands (d : Dev) : Bool := d.resetN && !d.locked

/-- Raise source i. While ck_core stands still the raise waits for the first cycle after lock returns, whose stamp it
takes (R36, R444, R460). -/
def Dev.raise (d : Dev) (i : Nat) : Dev :=
  if d.stands then { d with evLate := d.evLate ++ [i] } else d.raiseNow i

/-- Raise source i `n` times in one cycle (R444). -/
def Dev.raiseN (d : Dev) (i n : Nat) : Dev :=
  if n = 0 then d
  else if d.stands then { d with evLate := d.evLate ++ List.replicate n i }
  else
    let d := d.raiseNow i
    if h : i < 64 then
      (if d.hasSrc i then { d with ev := upd d.ev ⟨i, h⟩ (fun e => { e with cnt := e.cnt + BitVec.ofNat 32 (n - 1) }) } else d)
    else d

/-- The raises that waited for ck_core take effect in its first cycle (R36). -/
def Dev.raiseLate (d : Dev) : Dev := { d.evLate.foldl Dev.raiseNow d with evLate := [] }

/-- Set bits of a cause register and raise its source. -/
def Dev.cause (d : Dev) (a : Nat) (mask : Word) (i : Nat) : Dev := (d.orW a mask).raise i

/-- Set cause bit `bit` of motor m and raise E0+m (R443). -/
def Dev.motCause (d : Dev) (m : MotorIx) (bit : Nat) : Dev := d.cause (0xF00 + m.1) (1#16 <<< bit) m.1

/-- Four mask words of the EVENT block as one 64-bit mask. -/
def Dev.mask64 (d : Dev) (a : Nat) : BitVec 64 := d.w (a + 3) ++ d.w (a + 2) ++ d.w (a + 1) ++ d.w a

/-- The partner's event vector, PS[26] to PS[29]; zero while the partner is not present (R447, R449). -/
def Dev.pv (d : Dev) : BitVec 64 := if d.mirror.pres then d.mask64 0xE41A else 0

/-- Four enable words as the present cycle found them: a write of one acts in the cycle after it commits (R447). -/
def Dev.enable64 (d : Dev) (a : Nat) : BitVec 64 := d.w0 (a + 3) ++ d.w0 (a + 2) ++ d.w0 (a + 1) ++ d.w0 a

/-- Pending sources that host k has enabled. -/
def Dev.irqLocal (d : Dev) (k : HostIx) : BitVec 64 := d.pend[k] &&& d.enable64 (aEvh k 0)

/-- Partner events that host k has enabled. -/
def Dev.irqPartner (d : Dev) (k : HostIx) : BitVec 64 := d.pv &&& d.enable64 (aEvh k 8)

/-- The condition of R447. -/
def Dev.irqCond (d : Dev) (k : HostIx) : Bool := (d.irqLocal k ||| d.irqPartner k) != 0

/-- IRQk_N is asserted: the condition holds and no rearm pulse runs (R447, R448). -/
def Dev.irq (d : Dev) (k : HostIx) : Bool := d.resetN && d.irqCond k && (d.hp k).rearm.isNone

/-- The lowest set bit of a mask, 0 for none. -/
def lowestBit (m : BitVec 64) : Nat := ((List.range 64).find? (fun i => m.getLsbD i)).getD 0

/-- The word VEC[k] (R450). -/
def Dev.vec (d : Dev) (k : HostIx) : Word :=
  let l := d.irqLocal k
  word ((if l = 0 then 0 else 0x8000 + lowestBit l) + (if d.irqPartner k = 0 then 0 else 0x4000))

end Sys2Proof.Machine
end

