-- ==== Sys2Proof/Machine/Gate.lean ====
section
/-! DEFINITION. Gate-driver dies and half-bridge drivers (chapter 06): how PULSE and ENABLE command the two switches,
the dead time, and the fault records. -/

namespace Sys2Proof.Machine

open Sys2Proof

/-- Power domain n is on (POWER.STAT). -/
def Dev.domOn (d : Dev) (n : Nat) : Bool := d.bit 0x801 n

/-- Power domain n is ready (POWER.RDY). -/
def Dev.domRdy (d : Dev) (n : Nat) : Bool := d.bit 0x802 n

/-- The GATE domain of group g (R44). -/
def gateDom (g : GroupIx) : Nat := 6 + g.1

/-- The Prism domain of group g (R46). -/
def prismDom (g : GroupIx) : Nat := if g.1 < 2 then 4 else 5

/-- The die of group g drives its outputs: its domain is on, its supply is present and its start is complete (R154,
R179, R181). -/
def Dev.dieDrives (d : Dev) (g : GroupIx) : Bool := d.domOn (gateDom g) && (d.die g).rdy && !(d.die g).low

/-- The dead time of R155, in ticks. -/
def deadTicks : Nat := 50

/-- The high side of half-bridge b may turn on now: it is selected, and its partner has been commanded off for the dead
time (R153, R154). -/
def Dev.hsMay (d : Dev) (b : BridgeIx) : Bool :=
  let x := d.brg b
  x.en && x.pulse && decide (x.lsOff + deadTicks ≤ (d.cycles : Int)) && d.dieDrives (grpOfBridge b)

/-- The low side of half-bridge b may turn on now. -/
def Dev.lsMay (d : Dev) (b : BridgeIx) : Bool :=
  let x := d.brg b
  x.en && !x.pulse && decide (x.hsOff + deadTicks ≤ (d.cycles : Int)) && d.dieDrives (grpOfBridge b)

/-- The BSUV level of a motor follows the conditions asserted on its half-bridges (R177). -/
def Dev.syncBsuv (d : Dev) (m : MotorIx) : Dev :=
  let any := (List.finRange 3).any (fun ph => (d.brg (bridgeOf m ph)).bsuv)
  d.onMot m (fun x => { x with level := (x.level &&& 0b110) ||| (if any then 1 else 0) })

/-- A switch of half-bridge b that is selected and whose dead time has passed turns on: its blanking starts, and DRV
and DSCFG come into force for it (R154, R159, R167, R169). -/
def Dev.turnOn (d : Dev) (b : BridgeIx) : Dev :=
  let x := d.brg b
  let hs := !x.hs && d.hsMay b
  let ls := !x.ls && d.lsMay b
  if hs || ls then
    (d.enforce (aGd b 0) (aGd b 2)).onBrg b (fun x =>
      { x with hs := x.hs || hs, ls := x.ls || ls, onAt := d.cycles, blanked := false, aboveAt := none, detected := false
               offAt := none, relAt := none })
  else d

/-- The switches of half-bridge b that R153 no longer selects turn off. A high side that turns off ends its bootstrap
condition (R164), and DRV comes into force (R159); the filter of R167 may still complete in this tick (R168).
[DEDUCED, log 48] -/
def Dev.turnOff (d : Dev) (b : BridgeIx) : Dev :=
  let x := d.brg b
  let drives := d.dieDrives (grpOfBridge b)
  let hs := x.hs && x.en && x.pulse && drives
  let ls := x.ls && x.en && !x.pulse && drives
  if x.hs = hs ∧ x.ls = ls then d
  else
    let d1 := (d.enforce (aGd b 0) (aGd b 1)).onBrg b (fun x =>
      { x with hs := hs, ls := ls, offAt := some d.cycles, offHs := x.hs, bsuv := x.bsuv && hs })
    if x.bsuv && !hs then d1.syncBsuv (motOfBridge b) else d1

/-- The engine commands half-bridge b with ENABLE and PULSE (R153). A switch that stops being selected counts as
commanded off in this tick, whether or not it had turned on (R154). -/
def Dev.command (d : Dev) (b : BridgeIx) (en pulse : Bool) : Dev :=
  let x := d.brg b
  if x.en = en ∧ x.pulse = pulse then (d.turnOff b).turnOn b
  else
    let d1 := d.onBrg b (fun x => { x with
      en := en, pulse := pulse
      hsOff := if x.en && x.pulse && !(en && pulse) then (d.cycles : Int) else x.hsOff
      lsOff := if x.en && !x.pulse && !(en && !pulse) then (d.cycles : Int) else x.lsOff })
    (d1.turnOff b).turnOn b

/-- Live word GD[b].STAT (R182); it reads 0 while the domain is off (R45). -/
def Dev.gdStat (d : Dev) (b : BridgeIx) : Word :=
  let x := d.brg b
  if d.domOn (gateDom (grpOfBridge b)) then
    word (x.bsuv.toNat * 16 + ((x.hs || x.ls) && x.aboveAt.isSome).toNat * 8 + x.ls.toNat * 4 + x.hs.toNat * 2)
  else 0

/-- Live word GD.GRP[g].STAT (R182). -/
def Dev.gdgStat (d : Dev) (g : GroupIx) : Word :=
  if d.domOn (gateDom g) then word ((d.die g).rdy.toNat * 4 + (d.die g).gduv.toNat * 2) else 0

/-! ### Fault records (R171 to R175) -/

/-- The sequence number that a record made in this tick takes, with the counter advanced if no record has been made in
it yet (R173). -/
def Dev.takeSeq (d : Dev) : Dev :=
  if d.seqAt = some d.cycles then d
  else
    let n := d.fld 0x6E40 11 0
    { d.putF 0x6E40 11 0 (if n = 0xFFF then 1 else n + 1) with seqAt := some d.cycles }

/-- The record of half-bridge b was made in this tick. -/
def Dev.recordedNow (d : Dev) (b : BridgeIx) : Bool := (d.brg b).recAt = some d.cycles

/-- Make the fault record of half-bridge b with its kind: sequence number, SAME marks, stamp, and FIRST of its group
(R172 to R174). -/
def Dev.record (d : Dev) (b : BridgeIx) (kind : Nat) : Dev :=
  let shared := d.seqAt = some d.cycles
  let d := d.takeSeq
  let peers := if shared then (List.finRange 48).filter (fun x => d.recordedNow x && x ≠ b) else []
  let d := (d.each peers (fun d x => d.putB (aGd x 4) 15 true)).onBrg b (fun x => { x with recAt := some d.cycles })
  let seq := d.fld 0x6E40 11 0
  let d := (d.put (aGd b 4) (word ((if peers.isEmpty then 0 else 0x8000) + kind * 0x2000 + seq))).stamp (aGd b 5)
  let g := grpOfBridge b
  let first := aGdg g 2
  if d.bit first 15 then
    if (d.grp g).gdFirst = some d.cycles && decide (b.1 < d.fld first 5 0) then d.putF first 5 0 b.1 else d
  else ((d.putF first 5 0 b.1).setB first 15).onGrp g (fun x => { x with gdFirst := some d.cycles })

/-- A flag of GD[b].FLT sets: it counts, and it makes a record when all three flags were 0 (R171, R172, R175). The flag
is 0 DESATH, 1 DESATL or 2 BSUV. -/
def Dev.gateFlag (d : Dev) (b : BridgeIx) (flag : Nat) : Dev :=
  let clear := d.w (aGd b 3) = 0
  let d := d.orW (aGd b 3) (1#16 <<< flag)
  let d := if flag = 2 then d.addSat (aGd b 8) 15 8 1 else d.addSat (aGd b 8) 7 0 1
  if clear then d.record b flag
  else if d.recordedNow b && flag < d.fld (aGd b 4) 14 13 then d.putF (aGd b 4) 14 13 flag
  else d

/-- Send a report to the engine of a motor (R177). -/
def Dev.report (d : Dev) (m : MotorIx) (ph : Fin 3) (c : Cause) : Dev :=
  { d with reports := d.reports ++ [{ motor := m, phase := ph, cause := c, at' := d.cycles }] }

end Sys2Proof.Machine
end

