-- ==== Sys2Proof/Machine/Drive.lean ====
section
/-! DEFINITION. The outputs of a commutation engine (R49 to R62): the sector patterns, the PWM modes, the carrier
interval, the refresh interval, and the command of the three half-bridges at the present tick. -/

namespace Sys2Proof.Machine

open Sys2Proof

/-- Legs of a sector pattern: the + leg, the − leg and the floating leg for forward drive (R51). -/
def sectorLegs : Nat → Fin 3 × Fin 3 × Fin 3
  | 0 => (0, 1, 2)
  | 1 => (0, 2, 1)
  | 2 => (1, 2, 0)
  | 3 => (1, 0, 2)
  | 4 => (2, 0, 1)
  | _ => (2, 1, 0)

/-- The + leg, the − leg and the floating leg for a drive direction; reverse exchanges + and − (R51). -/
def legs (s : Nat) (rev : Bool) : Fin 3 × Fin 3 × Fin 3 :=
  let (p, n, f) := sectorLegs s
  if rev then (n, p, f) else (p, n, f)

/-- The floating leg's back-EMF rises through its crossing when the rotor turns in the drive direction (R51). -/
def slopeRising (s : Nat) (rev : Bool) : Bool := (s % 2 = 1) != rev

/-- PWM modes of R53. -/
inductive PwmMode where
  | hpwm | lpwm | comp
  deriving DecidableEq, Repr

/-- CTRL.SENS in force: the motor is sensorless. -/
def Dev.sensorless (d : Dev) (m : MotorIx) : Bool := d.ibit (aMot m 0) 3

/-- CTRL.EN; a write of it acts at once (R80). -/
def Dev.enabled (d : Dev) (m : MotorIx) : Bool := d.bit (aMot m 0) 0

/-- The PWM mode in effect; LPWM acts as HPWM on a sensorless motor, and code 3 acts as HPWM (R53, R83). -/
def Dev.pwmMode (d : Dev) (m : MotorIx) : PwmMode :=
  match d.ifld (aMot m 0) 2 1 with
  | 1 => if d.sensorless m then .hpwm else .lpwm
  | 2 => .comp
  | _ => .hpwm

/-- Refresh width W_R of BOOT.REFW, in ticks (R59). -/
def Dev.wrOf (d : Dev) (m : MotorIx) : Nat := 100 * (d.ifld (aMot m 7) 2 0 + 1)

/-- Reserved sampling window W_S, in ticks (R58). -/
def Dev.wsOf (d : Dev) (m : MotorIx) : Nat :=
  if d.ibit (aMot m 0) 5 || d.sensorless m then d.iuw (aMot m 6) else 0

/-- The longest on-time of a carrier period (R59). -/
def onMax (per ws wr : Nat) : Nat := if max ws wr = 0 then per else per - max ws wr - 100

/-- The ceiling code of R59, for a period in which a refresh interval is due. -/
def Dev.ceilCode (d : Dev) (m : MotorIx) : Nat :=
  let per := (d.grp (grpOf m)).period
  onMax per (d.wsOf m) (d.wrOf m) * 32768 / per

/-- Ticks since the carrier start of the motor's slot. -/
def Dev.carTick (d : Dev) (m : MotorIx) : Nat := d.cycles - (d.mot m).car.start

/-- The second part of the last period's refresh interval is running (R60, centre alignment). -/
def Carrier.refTail (x : Carrier) (c : Nat) : Bool := x.refPrev && c < x.wrPrev / 2

/-- A refresh interval is running at tick c of the carrier period (R60). -/
def Carrier.inRefresh (x : Carrier) (c : Nat) : Bool :=
  (x.refDue && decide (x.len ≤ c + (if x.align then (x.wr + 1) / 2 else x.wr))) || x.refTail c

/-- Tick c lies in the on-time interval of the carrier period, after a refresh interval that runs into it (R55, R60,
R201). In the tick in which the next period is due to begin, the last tick of this one stands until CARRIER_START, so that
no switch that is selected on both sides of the boundary is dropped there (R154). -/
def Carrier.inSpan (x : Carrier) (c : Nat) : Bool :=
  x.onBeg ≤ min c (x.len - 1) && min c (x.len - 1) < x.onEnd && !x.limited && !x.refTail c

/-- The PWM leg is in its on-time at tick c of the carrier period: after a refresh interval that runs into the period,
only when the dead time of R154 has passed as well (R55, R60, R201). -/
def Carrier.inOn (x : Carrier) (c : Nat) : Bool := x.inSpan c && !(x.refPrev && c < x.wrPrev / 2 + deadTicks)

/-- The ladder level of group g (R186). -/
def Dev.level (d : Dev) (g : GroupIx) : Nat := d.fld (aSup g 7) 1 0

/-- REVCFG.PACT, taken as 0 for a sensorless motor (R83). -/
def Dev.pact (d : Dev) (m : MotorIx) : Bool := d.ibit (aMot m 0xF) 8 && !d.sensorless m

/-- The motor is regenerating (R190). -/
def Dev.regenerating (d : Dev) (m : MotorIx) : Bool :=
  let x := d.mot m
  let i := d.sw (aMot m 0x125)
  x.lastReq.2 ||
  (x.state = .run && x.spdv && decide ((0 < i ∧ d.sw (aMot m 0xB) < 0) ∨ (i < 0 ∧ 0 < d.sw (aMot m 0xB))) &&
    decide (d.iuw (aSup (grpOf m) 6) ≤ i.natAbs)) ||
  x.state = .coast || (x.state = .revpend && !d.pact m)

/-- Row 1 of R49 does not hold, and nothing else holds every ENABLE low: RESET_N, a loss of lock (R417), EXTEST
(R481). -/
def Dev.mayDrive (d : Dev) (m : MotorIx) : Bool :=
  let g := grpOf m
  d.resetN && !d.heldOff && d.tap ≠ .extest && (d.grp g).running && d.domOn (gateDom g) && d.domOn (prismDom g) &&
  d.enabled m

/-- ENABLE and PULSE of a leg under the sector pattern with PWM (R51, R53, R60); no on-time begins while the current
latch is set (R202). After a refresh interval that runs into the period, PULSE of the COMP leg rises as it ends, and the
driver's own dead time is the one of R60. [DEDUCED, log 28] -/
def Dev.patternLeg (d : Dev) (m : MotorIx) (ph : Fin 3) : Bool × Bool :=
  let x := d.mot m
  let (p, n, _) := legs x.sector x.drvRev
  let c := d.carTick m
  let free := !d.bit (aCur m 4) 0
  let on := x.car.inOn c && free
  let refr := x.car.inRefresh c
  match d.pwmMode m with
  | .hpwm => if ph = p then (if on then (true, true) else if refr then (true, false) else (false, false))
             else if ph = n then (true, false) else (false, false)
  | .lpwm => if ph = n then (if on then (true, false) else (false, false))
             else if ph = p then (true, !refr) else (false, false)
  | .comp => if ph = p then (true, x.car.inSpan c && free) else if ph = n then (true, false) else (false, false)

/-- The motor drives its sector pattern: RUN, or a driving phase of START (rows 6 and 7 of R49, R82). -/
def Motor.drives (x : Motor) : Bool :=
  x.state = .run || (x.state = .start && (x.phase = .align1 || x.phase = .align2 || x.phase = .ramp))

/-- ENABLE and PULSE of a leg at the present tick: the first row of R49 that holds, with the forcing of R61 under
rows 5 to 7. -/
def Dev.legOut (d : Dev) (m : MotorIx) (ph : Fin 3) : Bool × Bool :=
  let x := d.mot m
  let lv := d.level (grpOf m)
  let clamp : Bool × Bool := (true, false)
  let float : Bool × Bool := (false, false)
  if !d.mayDrive m then float
  else if x.state = .fault then
    (match x.act with
     | .float => float
     | .clamp => clamp
     | .floatThenClamp => if x.clampNow then clamp else float)
  else if lv = 3 || (lv = 2 && d.regenerating m) then clamp
  else if x.state = .brake then clamp
  else if x.state = .revpend then (if d.pact m then clamp else float)
  else if x.drives then
    let (en, pu) := d.patternLeg m ph
    (en, pu && !x.forced[ph])
  else float

/-- The half-bridge of the PWM leg. -/
def Dev.pwmBridge (d : Dev) (m : MotorIx) : BridgeIx :=
  let x := d.mot m
  let (p, n, _) := legs x.sector x.drvRev
  match d.pwmMode m with
  | .lpwm => bridgeOf m n
  | _ => bridgeOf m p

/-- The PWM leg's on-time switch is on: the high side of the + leg, or the low side of the − leg in LPWM. -/
def Dev.onSwitch (d : Dev) (m : MotorIx) : Bool :=
  let x := d.brg (d.pwmBridge m)
  match d.pwmMode m with
  | .lpwm => x.ls
  | _ => x.hs

/-- The motor is in an on-time with its switch on: a comparator on-time can run (R200, R201). -/
def Dev.compTime (d : Dev) (m : MotorIx) : Bool :=
  (d.mot m).drives && d.mayDrive m && (d.mot m).car.inOn (d.carTick m) && d.onSwitch m

/-- Follow the low-side command of a leg for the refresh count: an unbroken W_R inside the span is remembered (R60).
[DEDUCED, log 28] -/
def Motor.trackLow (x : Motor) (now : Nat) (ph : Fin 3) (low : Bool) : Motor :=
  match x.lowAt[ph], low with
  | none, true => { x with lowAt := upd x.lowAt ph (fun _ => some now) }
  | some t, false =>
    { x with
      lowAt := upd x.lowAt ph (fun _ => none)
      lowOk := upd x.lowOk ph (fun ok => ok || decide (x.car.wr ≤ now - max t x.spanAt)) }
  | _, _ => x

/-- Set the outputs of one leg; a forced interval counts as low-side conduction (R61). [DEDUCED, log 28] -/
def Dev.driveLeg (d : Dev) (m : MotorIx) (ph : Fin 3) : Dev :=
  let o := d.legOut m ph
  (d.command (bridgeOf m ph) o.1 o.2).onMot m (fun x => x.trackLow d.cycles ph (x.forced[ph] || (o.1 && !o.2)))

/-- Start or end the comparator on-time of motor m with its on-time switch; another PWM leg that has turned on since begins
a new one (R200). [DEDUCED, log 29] -/
def Dev.syncComp (d : Dev) (m : MotorIx) : Dev :=
  let now := d.compTime m
  let onAt := (d.brg (d.pwmBridge m)).onAt
  d.onMot m (fun x =>
    let new := match x.compOn with | some t => decide (t < onAt) | none => true
    if now && new then { x with compOn := some d.cycles, lebDone := d.ifld (aCur m 2) 11 8 = 0 }
    else if now then x
    else { x with compOn := none, lebDone := false })

/-- Set the outputs of motor m at the present tick (R49), and start or end its comparator on-time (R200). -/
def Dev.drive (d : Dev) (m : MotorIx) : Dev := (d.each (List.finRange 3) (fun d ph => d.driveLeg m ph)).syncComp m

/-- Set the outputs of the four motors of a group. -/
def Dev.driveGroup (d : Dev) (g : GroupIx) : Dev := d.each (motsOf g) Dev.drive

/-- Set the outputs of every motor. -/
def Dev.driveAll (d : Dev) : Dev := d.each (List.finRange 16) Dev.drive

/-- Judge the refresh counts at the end of an evaluation span, and begin the next span (R60). -/
def Motor.judgeRefresh (x : Motor) (now : Nat) : Motor :=
  let ok (ph : Fin 3) : Bool :=
    x.lowOk[ph] || (match x.lowAt[ph] with | some t => decide (x.car.wr ≤ now - max t x.spanAt) | none => false)
  { x with
    refc := Vector.ofFn (fun ph => if ok ph then 0 else min 64 (x.refc[ph] + 1))
    lowOk := Vector.replicate 3 false
    spanAt := now
    car := { x.car with spanDone := true } }

end Sys2Proof.Machine
end

