-- ==== Sys2Proof/Machine/Engine.lean ====
section
/-! DEFINITION. Engine state changes (R48, R72 to R74, R84 to R93, R103 to R106): entering a state, the fault policy,
a report reaching an engine, the phases of a sensorless start, and the angle an engine extrapolates. -/

namespace Sys2Proof.Machine

open Sys2Proof

/-- The quotient n / x through the reciprocal of R258, x at least 1. -/
def recip (n x : Nat) : Nat :=
  let b := Nat.log2 x + 1
  let sh := b - 14
  let y := x >>> sh
  let r := (2 * 2 ^ 28 + y) / (2 * y)
  (n * r) >>> (28 + sh)

/-- The reciprocal quotient of a signed dividend, sign applied after (R258). -/
def recipInt (n : Int) (x : Nat) : Int := if 0 ≤ n then (recip n.toNat x : Int) else -(recip n.natAbs x : Int)

/-! ### Timers (R81) -/

/-- Frames in a time of t ms at a period (R81). [DEDUCED, log 32] -/
def framesOf (t per : Nat) : Nat := (t * 200000 + per - 1) / per

/-- This cycle is a frame start of group g. -/
def Dev.atFrame (d : Dev) (g : GroupIx) : Bool := (d.grp g).running && (d.grp g).frameAt = d.cycles

/-- A timer of n frames begun by an event of this cycle: it starts at the first frame start at or after the event.
[DEDUCED, log 32] -/
def Dev.startTimer (d : Dev) (g : GroupIx) (n : Nat) : Timer := if d.atFrame g then .left n else .armed n

/-- A timer of t ms of motor m, where a written 0 acts as 1. -/
def Dev.msTimer (d : Dev) (m : MotorIx) (t : Nat) : Timer :=
  let g := grpOf m
  d.startTimer g (framesOf (max t 1) (d.grp g).period)

/-- One frame start passes: a running timer loses a frame, an armed one starts. -/
def Timer.frame : Timer → Timer
  | .off => .off
  | .armed n => .left n
  | .left n => .left (n - 1)

/-- The timer has ended. -/
def Timer.ended : Timer → Bool
  | .left 0 => true
  | _ => false

/-! ### Angles (R50, R64) -/

/-- One angle unit in the scale of `Motor.angS`. -/
def angUnit : Int := 65536 * 800000000

/-- The extrapolated rotor angle, scaled (R64). -/
def Motor.angNow (x : Motor) (now : Nat) : Int := x.angS + x.v16 * 1536 * ((now : Int) - x.angAt)

/-- The advance that enters the commutation angle: none in START (R88). -/
def Motor.advNow (x : Motor) : Nat := if x.state = .start then 0 else x.adv

/-- The commutation angle in whole units, before the modulus (R50). -/
def Motor.commNow (x : Motor) (now : Nat) : Int :=
  x.angNow now / angUnit + (if x.drvRev then -(x.advNow : Int) else (x.advNow : Int))

/-- The sector of a commutation angle (R50). -/
def sectorOf (a : Int) : Nat := ((a % 1536) / 256).toNat

/-- The rotor angle a at the present, 0 to 1 535. -/
def Motor.rotor (x : Motor) (now : Nat) : Nat := ((x.angNow now / angUnit) % 1536).toNat

/-! ### Status words (R48, R80, R107) -/

/-- Code of a state in STAT.STATE (R48). -/
def MState.code : MState → Nat
  | .idle => 0
  | .start => 1
  | .run => 2
  | .revpend => 3
  | .brake => 4
  | .fault => 5
  | .coast => 6
  | .catching => 7

/-- Code of a phase in SSTAT.PHASE (R82). -/
def Phase.code : Phase → Nat
  | .none => 0
  | .listen => 1
  | .align1 => 2
  | .align2 => 3
  | .ramp => 4
  | .backoff => 5
  | .coast => 6

/-- Word MOT[m].STAT, shown at frame starts (R48, R80). [DEDUCED, log 107] -/
def Dev.motStat (d : Dev) (m : MotorIx) : Word :=
  let x := d.mot m
  word (x.adverr.toNat * 0x1000 + x.ceilhit.toNat * 0x800 + x.refp.toNat * 0x400 + x.spdv.toNat * 0x200 +
    x.drvRev.toNat * 0x100 + x.sector * 0x10 + x.state.code)

/-- Word MOT[m].SSTAT as it stands now (R82); ATTEMPT is 0 outside START. [DEDUCED, log 107] -/
def Dev.motSstat (d : Dev) (m : MotorIx) : Word :=
  let x := d.mot m
  let att := if x.state = .start then x.attempt else 0
  word (x.back.toNat * 0x8000 + x.failr * 0x2000 + att * 0x100 + x.reccnt * 0x10 + x.phase.code)

/-- Word MOT[m].OBSTAT as it stands now (R102). -/
def Dev.motObstat (d : Dev) (m : MotorIx) : Word :=
  let x := d.mot m
  word (x.failcnt * 0x1000 + x.hovcnt * 0x100 + x.lastFail.toNat)

/-- STAT, SSTAT and OBSTAT take their values, as at every frame start (R48, R80, R107). -/
def Dev.showFrame (d : Dev) (m : MotorIx) : Dev :=
  ((d.put (aMot m 1) (d.motStat m)).put (aMot m 0x81) (d.motSstat m)).put (aMot m 0x93) (d.motObstat m)

/-- The status words after a change of state: STATE follows at once (R48), and a change of phase updates SSTAT and OBSTAT
(R107). [DEDUCED, log 107] -/
def Dev.showChange (d : Dev) (m : MotorIx) : Dev :=
  let d := d.putF (aMot m 1) 3 0 (d.mot m).state.code
  if d.fld (aMot m 0x81) 3 0 = (d.mot m).phase.code then d
  else (d.put (aMot m 0x81) (d.motSstat m)).put (aMot m 0x93) (d.motObstat m)

/-! ### Entering a state -/

/-- Entry to IDLE or FAULT clears the phase, the attempt, the failure and handover counts and the observer (R86), and
drops the duty applied or waiting (MOT.DUTY). -/
def Motor.clearStart (x : Motor) : Motor :=
  { x with duty := 0, out := none, ready := none, phase := .none, attempt := 0, failcnt := 0, hovcnt := 0, obs := {}, sec := {}, cat := {},
           timer := .off, stab := .off, catt := .off, rect := .off }

/-- What entry to a state clears: every integrator on a change of state, and the position and speed integrators when START
begins again (R112, R131); DUTY in a state whose loop engine delivers no duty (MOT.DUTY, R111). [DEDUCED, log 25] -/
def Dev.clearInts (d : Dev) (m : MotorIx) (st : MState) : Dev :=
  let again := decide ((d.mot m).state = .start) && decide (st = .start)
  let d := d.onMot m (fun x => { x with posI := 0, spdI := 0 })
  let d := if again then d else d.put32 (aMot m 0x128) 0
  if st = .run || st = .start then d else d.put (aMot m 4) 0

/-- Enter a state other than FAULT, and set the outputs. [DEDUCED, log 25] -/
def Dev.enter (d : Dev) (m : MotorIx) (st : MState) : Dev :=
  let d := (d.clearInts m st).onMot m (fun x =>
    let x := { x with state := st, act := .float, clampNow := false, devFault := false, devHeld := none }
    if st = .idle then x.clearStart else x)
  (d.showChange m).drive m

/-- Enter IDLE; the motor leaves it only at a later frame start (R48, R80). [DEDUCED, log 24] -/
def Dev.toIdle (d : Dev) (m : MotorIx) : Dev := d.enter m .idle

/-- Enter FAULT with an action (R73). -/
def Dev.enterFault (d : Dev) (m : MotorIx) (act : FaultAct) : Dev :=
  let d := (d.clearInts m .fault).onMot m (fun x =>
    { x.clearStart with state := .fault, act := act, clampNow := false, devFault := false, devHeld := none })
  (d.showChange m).drive m

/-- The latched action of a policy code; REPORT has none (R72). -/
def codeAct : Nat → Option FaultAct
  | 1 => some .float
  | 2 => some .clamp
  | 3 => some .floatThenClamp
  | _ => none

/-- Place of an action in the table of R72. -/
def FaultAct.rank : FaultAct → Nat
  | .float => 1
  | .clamp => 2
  | .floatThenClamp => 3

/-- Apply a policy code for a cause whose latch is bit `bit` of FLT: REPORT does nothing; a latched action enters
FAULT, or in FAULT replaces the action only by a later one of the table (R72, R73). -/
def Dev.policy (d : Dev) (m : MotorIx) (bit code : Nat) : Dev :=
  match codeAct code with
  | none => d
  | some a =>
    let d := d.orW (aMot m 2) (1#16 <<< bit)
    let x := d.mot m
    if x.state = .fault then
      if x.act.rank < a.rank then (d.onMot m (fun x => { x with act := a, clampNow := false })).drive m else d
    else d.enterFault m a

/-- Cause bit of a report in EVENT.MCAUSE and MOT.FLT. -/
def Cause.bit : Cause → Nat
  | .desat => 0
  | .bsuv => 1
  | .gduv => 2
  | .hshort => 3

/-- The policy code of a reported cause; for HSHORT, REPORT acts as FLOAT (R72). -/
def Dev.fpol (d : Dev) (m : MotorIx) : Cause → Nat
  | .desat => d.ifld (aMot m 3) 1 0
  | .bsuv => d.ifld (aMot m 3) 3 2
  | .gduv => d.ifld (aMot m 3) 5 4
  | .hshort => max 1 (d.ifld (aMot m 3) 7 6)

/-- Force a leg's PULSE low for the rest of the carrier period (R61). -/
def Dev.force (d : Dev) (m : MotorIx) (ph : Fin 3) : Dev :=
  (d.onMot m (fun x => { x with forced := upd x.forced ph (fun _ => true) })).drive m

/-- A report reaches the engine of its motor: outside IDLE it sets the cause and applies the policy; a bootstrap report
also forces the leg (R61, R177). -/
def Dev.arrive (d : Dev) (r : Report) : Dev :=
  if (d.mot r.motor).state = .idle then d
  else
    let d := d.motCause r.motor r.cause.bit
    let d := if r.cause = .bsuv then d.force r.motor r.phase else d
    d.policy r.motor r.cause.bit (d.fpol r.motor r.cause)

/-- Every level report in force acts as if it arrived now, as at the tick at which a motor leaves IDLE (R177). -/
def Dev.levelReports (d : Dev) (m : MotorIx) : Dev :=
  let lv := (d.mot m).level
  let d := d.each ((List.finRange 3).filter (fun ph => (d.brg (bridgeOf m ph)).bsuv))
    (fun d ph => d.arrive { motor := m, phase := ph, cause := .bsuv })
  let d := d.when (lv.getLsbD 1) (fun d => d.arrive { motor := m, phase := 0, cause := .gduv })
  d.when (lv.getLsbD 2) (fun d => d.arrive { motor := m, phase := 0, cause := .hshort })

/-! ### Sensorless start (R84 to R93) -/

/-- SCFG.ALSEC, where 6 and 7 act as 0. -/
def Dev.alsec (d : Dev) (m : MotorIx) : Nat := let s := d.ifld (aMot m 0x80) 14 12; if 5 < s then 0 else s

/-- Drive a fixed sector with no extrapolation. -/
def Dev.holdSector (d : Dev) (m : MotorIx) (s : Nat) : Dev :=
  d.onMot m (fun x => { x with sector := s, v16 := 0, speed := 0, sec := { began := d.cycles } })

/-- Enter START in ALIGN1 with the demanded direction (R85, R88). -/
def Dev.toAlign1 (d : Dev) (m : MotorIx) : Dev :=
  let d := d.onMot m (fun x => { x with drvRev := x.demRev, phase := .align1, obs := {}, cat := {}, catt := .off,
                                        hovcnt := 0, stab := .off, spdv := false })
  let a := d.alsec m
  let d := d.holdSector m (if (d.mot m).drvRev then (a + 1) % 6 else (a + 5) % 6)
  let d := d.onMot m (fun x => { x with timer := d.msTimer m (d.ifld (aMot m 0x82) 15 8) })
  d.enter m .start

/-- Enter CATCH in LISTEN (R104, R106). -/
def Dev.toCatch (d : Dev) (m : MotorIx) : Dev :=
  let d := d.onMot m (fun x => { x with phase := .listen, cat := {}, obs := {}, spdv := false, speed := 0, v16 := 0,
                                        timer := .off, catt := d.msTimer m (d.ifld (aMot m 0x8E) 15 8) })
  d.enter m .catching

/-- Enter COAST (R103). -/
def Dev.toCoast (d : Dev) (m : MotorIx) : Dev :=
  let d := d.onMot m (fun x => { x with phase := .coast, spdv := false, speed := 0, v16 := 0, rect := .off, stab := .off,
                                        timer := d.msTimer m (d.ifld (aMot m 0x88) 7 0) })
  d.enter m .coast

/-- Start a motor: RUN when sensored, CATCH or ALIGN1 when sensorless (R48, R84). -/
def Dev.startMotor (d : Dev) (m : MotorIx) : Dev :=
  if d.sensorless m then
    let d := d.onMot m (fun x => { x with attempt := 1, back := false })
    if d.ibit (aMot m 0x80) 15 then d.toCatch m else d.toAlign1 m
  else
    (d.onMot m (fun x => { x with
      phase := .none, odiv := 0, loopRun := false, sector := sectorOf (x.commNow d.cycles) })).enter m .run

/-- An attempt fails for a reason: back off and retry, or declare a start failure (R92, R93). HOVCNT clears, as it does
at ALIGN1 and at the start of RAMP (R91). [DEDUCED, log 30] -/
def Dev.attemptFails (d : Dev) (m : MotorIx) (reason : Nat) : Dev :=
  let n := (d.mot m).attempt
  let d := d.onMot m (fun x => { x with failr := reason, hovcnt := 0 })
  if n ≤ d.ifld (aMot m 0x80) 11 8 then
    let t := max 1 (d.ifld (aMot m 0x87) 7 0) * 2 ^ min (n - 1) 3
    let d := d.onMot m (fun x => { x with phase := .backoff, v16 := 0, speed := 0, spdv := false, stab := .off,
                                          rect := .off, timer := d.msTimer m t })
    d.enter m .start
  else
    let d := (d.motCause m 5).inc (aMot m 0x99)
    d.policy m 5 (max 1 (d.ifld (aMot m 0x80) 5 4))

/-- A sync loss (R103), or the early sync loss of R92 inside the stability window. -/
def Dev.syncLoss (d : Dev) (m : MotorIx) : Dev :=
  if (d.mot m).stab ≠ .off ∧ !(d.mot m).stab.ended then d.attemptFails m 2
  else
    let smax := max 1 (d.ifld (aMot m 0x89) 7 4)
    let n := min smax ((d.mot m).reccnt + 1)
    let d := ((d.motCause m 6).inc (aMot m 0x98)).onMot m (fun x => { x with reccnt := n })
    let code := d.ifld (aMot m 0x80) 7 6
    if n < smax || code = 0 then d.toCoast m else d.policy m 6 code

/-! ### Observer and plausibility (R96 to R102) -/

/-- The predicted sector duration D_p of a speed (R97). -/
def predict (v : Int) : Nat := recip 133333333 (max v.natAbs 1)

/-- The speed the observer uses for prediction: v_r in RAMP with its fraction truncated, else its own (R91, R97). -/
def Motor.predSpeed (x : Motor) : Int := if x.phase = .ramp then truncDiv x.v16 65536 else x.obs.v

/-- Speed magnitude from the last two intervals (R98). -/
def intervalSpeed (d1 d2 : Option Nat) : Option Nat :=
  match d1, d2 with
  | some a, some b => some (min 32767 (266666667 / max 1 (a + b)))
  | some a, none => some (min 32767 (133333333 / max 1 a))
  | none, _ => none

/-- A speed magnitude signed by the drive direction. -/
def Motor.signed (x : Motor) (v : Nat) : Int := if x.drvRev then -(v : Int) else (v : Int)

/-- The observer with a crossing of sector s at time t accepted (R98); without an interval the speed is unchanged, in RAMP
v_r, which comes from none (R101). -/
def Motor.accept (x : Motor) (s t : Nat) : Motor :=
  let n := x.obs.sectors
  let (d1, d2) :=
    match x.obs.tPrev with
    | some p => if 1 ≤ n ∧ n ≤ 6 then (some ((t - p) / n), x.obs.d1) else (none, none)
    | none => (none, none)
  let v : Int := match intervalSpeed d1 d2 with
    | some v => x.signed v
    | none => if x.phase = .ramp then truncDiv x.v16 65536 else x.obs.v
  let x := { x with
    obs := { tPrev := some t, sec := s, v := v, d1 := d1, d2 := d2, sectors := 0, fromIv := d1.isSome || (x.obs.fromIv && x.phase ≠ .ramp)
             skip := if d1.isSome then x.obs.skip - 1 else x.obs.skip }
    sec := { x.sec with found := some t, closed := true } }
  if x.state = .run then
    { x with angS := (256 * (s : Int) + 128) * angUnit, angAt := t, v16 := v * 65536, speed := v }
  else x

/-- Judge a crossing of the present sector at time t by the interval and acceleration tests; the failed tests as bits of
OBSTAT.LAST (R101). In RUN the speed held before the crossing keeps its origin over a gap of more than 6 sectors, and
BEMFV is compared, after the crossing is accepted, with the speed that the engine drives with: the observer's in RUN,
v_r in RAMP. [DEDUCED, log 108] -/
def Dev.judge (d : Dev) (m : MotorIx) (t : Nat) : Dev :=
  let x := d.mot m
  let n := x.obs.sectors
  let fails : BitVec 4 :=
    match x.obs.tPrev with
    | some p =>
      if 1 ≤ n ∧ n ≤ 6 ∧ x.obs.skip = 0 then
        let delta := t - p
        let dp := predict x.predSpeed
        let iv := decide (((delta : Int) - n * dp).natAbs * 256 ≤ d.ifld (aMot m 0x8E) 7 0 * n * dp)
        let vnew := (x.accept x.sector t).obs.v
        let acc := !x.obs.fromIv || decide ((vnew - x.obs.v).natAbs * 50000 ≤ d.iuw (aMot m 0x8F) * delta)
        (if iv then 0 else 2) ||| (if acc then 0 else 4)
      else 0
    | none => 0
  let d := if fails.getLsbD 1 then d.inc (aMot m 0x95) else d
  let d := if fails.getLsbD 2 then d.inc (aMot m 0x96) else d
  if fails = 0 then
    d.onMot m (fun x =>
      let x := x.accept x.sector t
      { x with sec := { x.sec with
          ampDue := slopeRising x.sector x.drvRev && d.iuw (aMot m 0x91) ≠ 0x7FFF &&
            decide (d.iuw (aMot m 0x91) ≤ x.predSpeed.natAbs) } })
  else d.onMot m (fun x => { x with sec := { x.sec with closed := true, failed := x.sec.failed ||| fails } })

/-- The crossing of the present sector is early or missing: the window test fails (R96, R101). -/
def Dev.windowFails (d : Dev) (m : MotorIx) : Dev :=
  (d.inc (aMot m 0x94)).onMot m (fun x =>
    { x with sec := { x.sec with closed := true, failed := x.sec.failed ||| 1 } })

/-- ZWIN.ZWHI, where a value not above ZWLO acts as 255. -/
def Dev.zwhi (d : Dev) (m : MotorIx) : Nat :=
  let hi := d.ifld (aMot m 0x8D) 7 0
  if hi ≤ d.ifld (aMot m 0x8D) 15 8 then 255 else hi

/-- ZWHI of D_p has passed since the sector began (R96). -/
def Dev.windowPast (d : Dev) (m : MotorIx) : Bool :=
  let x := d.mot m
  d.zwhi m * predict x.predSpeed ≤ (d.cycles - x.sec.began) * 256

/-- A sample of the floating leg in RAMP or RUN (R96, R101). A sample in the very tick in which the window ends finds no
crossing. [DESIGN CHOICE, log 128] -/
def Dev.zcSample (d : Dev) (m : MotorIx) (lvl : Bool) : Dev :=
  let x := d.mot m
  let s := x.sec
  match s.found with
  | some t =>
    if s.ampDue && s.amp.isNone && decide (64 * 800000000 ≤ x.predSpeed.natAbs * 1536 * (d.cycles - t)) then
      (if lvl then d else d.inc (aMot m 0x97)).onMot m (fun x => { x with sec := { x.sec with amp := some lvl } })
    else d
  | none =>
    if s.closed then d
    else if d.windowPast m then d.windowFails m
    else if (d.cycles - s.began) * 256 < d.ifld (aMot m 0x8D) 15 8 * predict x.predSpeed then d
    else
      let post := lvl == slopeRising x.sector x.drvRev
      match s.last, post with
      | none, true => d.windowFails m
      | some false, true =>
        d.judge m (max s.began (d.cycles - (d.grp (grpOf m)).period / 2))
      | _, p => d.onMot m (fun x => { x with sec := { x.sec with last := some p } })

/-- Hand over from RAMP to RUN with the observer's angle and speed (R91), v_r where no interval has given one (R98). The
frame of the entry counts as the first of RUN, and the loop engine computes again in it (R110). [DEDUCED, log 30] -/
def Dev.handover (d : Dev) (m : MotorIx) : Dev :=
  let x := d.mot m
  let v : Int := if x.obs.fromIv then x.obs.v else truncDiv x.v16 65536
  let d := d.onMot m (fun x => { x with
    phase := .none, spdv := true, speed := v, adv := 0, obs := { x.obs with v := v }
    v16 := if x.obs.fromIv then v * 65536 else x.v16
    angS := (256 * (x.obs.sec : Int) + 128) * angUnit, angAt := x.obs.tPrev.getD d.cycles
    odiv := 0, loopRun := false, timer := .off
    stab := d.startTimer (grpOf m) (framesOf (d.ifld (aMot m 0x88) 15 8) (d.grp (grpOf m)).period)
    rect := d.startTimer (grpOf m) (framesOf 1000 (d.grp (grpOf m)).period) })
  d.enter m .run

/-- The sector of motor m ends: its outcome is decided, and the count of failed sectors moves (R102), in RAMP also the
count of valid ones (R91). A sector that ends before its window closes with no crossing found fails, with no counter of
R101 moved and no bit of LAST set. [DEDUCED, log 30] -/
def Dev.sectorOutcome (d : Dev) (m : MotorIx) : Dev :=
  let s := (d.mot m).sec
  let ampBad := s.amp = some false
  if s.found.isSome && !ampBad then
    d.onMot m (fun x => { x with failcnt := 0, hovcnt := if x.state = .start then min 15 (x.hovcnt + 1) else x.hovcnt })
  else
    d.onMot m (fun x => { x with
      failcnt := min 15 (x.failcnt + 1), hovcnt := if x.state = .start then 0 else x.hovcnt
      lastFail := s.failed ||| (if ampBad then 8 else 0) })

/-! ### Catching (R104 to R106) -/

/-- Row of the edge table of R104 for a phase and the level it changes to. -/
def edgeRow (ph : Fin 3) (rising : Bool) : Nat :=
  match ph.1, rising with
  | 2, false => 0
  | 1, true => 1
  | 0, false => 2
  | 2, true => 3
  | 1, false => 4
  | _, _ => 5

/-- Rotor angle of an edge row for a direction (R104). -/
def edgeAngle (row : Nat) (rev : Bool) : Nat := if rev then (896 + 256 * row) % 1536 else 128 + 256 * row

/-- The catch observation with a new first edge. -/
def CatchObs.first (c : CatchObs) (row t : Nat) : CatchObs :=
  { levels := c.levels, edge := some row, time := t, count := 1, quiet := c.quiet }

/-- One edge enters the catch observation (R105). -/
def CatchObs.push (c : CatchObs) (tol row t : Nat) : CatchObs :=
  match c.edge with
  | none => c.first row t
  | some p =>
    let delta := t - c.time
    if c.count ≤ 1 then
      if row = (p + 1) % 6 ∨ row = (p + 5) % 6 then
        let rev := row = (p + 5) % 6
        let v := (intervalSpeed (some delta) none).getD 0
        { c with edge := some row, time := t, rev := some rev, count := 2, d1 := some delta, d2 := none,
                 speed := if rev then -(v : Int) else v, valid := true }
      else c.first row t
    else
      let rev := c.rev.getD false
      let dp := c.d1.getD 1
      if row = (if rev then (p + 5) % 6 else (p + 1) % 6) ∧ ((delta : Int) - dp).natAbs * 256 ≤ tol * dp then
        let v := (intervalSpeed (some delta) c.d1).getD 0
        { c with edge := some row, time := t, count := c.count + 1, d1 := some delta, d2 := c.d1,
                 speed := if rev then -(v : Int) else v, valid := true }
      else c.first row t

/-- SCNT.CATCHN, where 0 and 1 act as 2. -/
def Dev.catchN (d : Dev) (m : MotorIx) : Nat := max 2 (d.ifld (aMot m 0x89) 3 0)

/-- Enter BRAKE (R68, R70). -/
def Dev.toBrake (d : Dev) (m : MotorIx) : Dev :=
  let d := d.onMot m (fun x => { x with phase := .none, catt := .off
                                        timer := d.startTimer (grpOf m) (d.ifld (aMot m 0xF) 7 0) })
  d.enter m .brake

/-- Sectors from one to another in the drive direction. -/
def sectorsOn (rev : Bool) (s0 s : Nat) : Nat := if rev then (s0 + 6 - s) % 6 else (s + 6 - s0) % 6

/-- The decision at a consistent edge, once CATCHN is reached (R106). The edge that hands over is the crossing of its
sector: when the engine enters RUN in that sector, its crossing has been found, and when it enters RUN further on, the
sectors between count from that crossing. [DEDUCED, log 31] -/
def Dev.catchDecide (d : Dev) (m : MotorIx) : Dev :=
  let x := d.mot m
  let c := x.cat
  let av := c.speed.natAbs
  if x.state ≠ .catching || c.count < d.catchN m then d
  else if c.rev.getD false = x.drvRev then
    if d.iuw (aMot m 0x92) ≤ av then
      let ang := edgeAngle (c.edge.getD 0) x.drvRev
      let d := d.onMot m (fun x =>
        let x := { x with
          phase := .none, spdv := true, speed := c.speed, v16 := c.speed * 65536, angS := (ang : Int) * angUnit
          angAt := c.time, odiv := 0, loopRun := false, catt := .off, stab := .off
          obs := { tPrev := some c.time, sec := (ang - 128) / 256, v := c.speed, d1 := c.d1, d2 := c.d2, fromIv := true }
          sec := { began := d.cycles }
          rect := d.startTimer (grpOf m) (framesOf 1000 (d.grp (grpOf m)).period) }
        let s := sectorOf (x.commNow d.cycles)
        { x with sector := s, obs := { x.obs with sectors := sectorsOn x.drvRev x.obs.sec s }
                 sec := if s = x.obs.sec then { x.sec with found := some c.time, closed := true } else x.sec })
      d.enter m .run
    else d
  else if d.iuw (aMot m 0xE) ≤ av then
    (d.onMot m (fun x => { x with phase := .none, spdv := true, speed := c.speed })).enter m .revpend
  else d.toBrake m

/-- The levels of the three phase comparators are sampled in LISTEN or REVPEND: each change is an edge, and several in
one sample are taken in the order U, V, W with an interval of 0 between them (R104). [DEDUCED, log 31] -/
def Dev.catchSample (d : Dev) (m : MotorIx) (lv : Fin 3 → Bool) : Dev :=
  let now := (lv 0, lv 1, lv 2)
  match (d.mot m).cat.levels with
  | none => d.onMot m (fun x => { x with cat := { x.cat with levels := some now } })
  | some (a, b, c) =>
    let old : Fin 3 → Bool := fun ph => if ph = 0 then a else if ph = 1 then b else c
    let t := d.cycles - (d.grp (grpOf m)).period / 2
    let d := d.onMot m (fun x => { x with cat := { x.cat with levels := some now } })
    d.each ((List.finRange 3).filter (fun ph => old ph != lv ph)) (fun d ph =>
      let d := d.onMot m (fun x => { x with
        cat := x.cat.push (d.ifld (aMot m 0x8E) 7 0) (edgeRow ph (lv ph)) t
        catt := d.msTimer m (d.ifld (aMot m 0x8E) 15 8) })
      d.catchDecide m)

end Sys2Proof.Machine
end

