-- ==== Sys2Proof/Machine/Loop.lean ====
section
/-! DEFINITION. Loop-engine arithmetic (chapter 04): demand selection and slew, the regulators, the force curve, the
kiss search, the current request, and the duty and direction. -/

namespace Sys2Proof.Machine

open Sys2Proof

/-- Feedback channel of a motor (R6). -/
def chanOf (m : MotorIx) : ChanIx := ⟨m.1, by omega⟩

/-- An accumulator of the motor's array has closed since its domain was switched on (R240). -/
def Dev.accValid (d : Dev) (p : GroupIx) (a : Nat) : Bool := d.bit (aAcc p a 3) 0

/-- One run of a PI regulator: the output and the new integrator (R113). -/
def pi (kp ki : Int) (sh : Nat) (e lo hi acc : Int) : Int × Int :=
  let p := (kp * e) / 2 ^ (15 - sh)
  let acc := clampInt (lo * 32768) (hi * 32768 + 32767) (acc + ki * e)
  (clampInt lo hi (p + acc / 32768), acc)

/-- One run of the regulator whose gains lie at an offset of motor m. -/
def Dev.regulator (d : Dev) (m : MotorIx) (off : Nat) (e lo hi acc : Int) : Int × Int :=
  pi (d.isw (aMot m off)) (d.isw (aMot m (off + 1))) (d.ifld (aMot m (off + 2)) 2 0) (satWord e) lo hi acc

/-- A limit register taken within 0 to 32 767: a larger one acts as 32 767 (R114). [DESIGN CHOICE, log 137] -/
def Dev.lim (d : Dev) (m : MotorIx) (off : Nat) : Int := min 32767 (d.iuw (aMot m off))

/-! ### Piecewise-linear tables -/

/-- Largest index below `n` whose point is at most x. -/
def lastAtMost (pt : Nat → Int) (x : Int) (n : Nat) : Nat :=
  (List.range n).foldl (fun best i => if pt i ≤ x then i else best) 0

/-- The points never decrease over `n` entries. -/
def nonDecreasing (pt : Nat → Int) (n : Nat) : Bool := (List.range (n - 1)).all (fun i => pt i ≤ pt (i + 1))

/-- Interpolation of a table at x, truncated toward zero (R77, R122, R126, R127). -/
def interpolate (px py : Nat → Int) (n : Nat) (x : Int) : Int :=
  if x ≤ px 0 then py 0
  else if px (n - 1) ≤ x then py (n - 1)
  else
    let i := lastAtMost px x n
    py i + truncDiv ((py (i + 1) - py i) * (x - px i)) (px (i + 1) - px i)

/-! ### Demand (R119 to R124) -/

/-- The demand map decreases somewhere (R122). -/
def Dev.mapErr (d : Dev) (m : MotorIx) : Bool := !nonDecreasing (fun i => (d.iuw (aMot m (0x130 + i)) : Int)) 8

/-- The map's demand, when the map is valid (R122). -/
def Dev.mapDemand (d : Dev) (m : MotorIx) : Option Int :=
  let a := d.ifld (aMot m 0x140) 5 0
  let x := d.uw (aAcc (grpOf m) a 2)
  if d.ibit (aMot m 0x100) 6 && d.accValid (grpOf m) a && !d.mapErr m &&
      decide (d.iuw (aMot m 0x141) ≤ x ∧ x ≤ d.iuw (aMot m 0x142)) then
    some (interpolate (fun i => (d.iuw (aMot m (0x130 + i)) : Int)) (fun i => d.isw (aMot m (0x138 + i))) 8 x)
  else none

/-- The demand source and its demand: host, CMD ball, map or none (R119, R123). [DEDUCED, log 38] -/
def Dev.selectDemand (d : Dev) (m : MotorIx) : Nat × Int :=
  let x := d.mot m
  if d.ibit (aMot m 0x100) 4 && x.hostOk then (1, x.hostD)
  else if d.ibit (aMot m 0x100) 5 && x.demCmd.isSome then (2, x.demCmd.getD 0)
  else
    match d.mapDemand m with
    | some v => (3, v)
    | none =>
      (0, match d.ifld (aMot m 0x100) 9 8 with
          | 0 => x.demSel
          | 1 => 0
          | 2 => d.isw (aMot m 0x105)
          | _ => x.demSel)

/-- The applied demand moves toward the selected one by at most DSLEW a frame (R124). -/
def slew (step : Nat) (old new : Int) : Int :=
  if step = 0 then new else clampInt (old - step) (old + step) new

/-! ### Position, force and kiss point (R125 to R130) -/

/-- The position count sampled at frame start (R114, R261). -/
def Dev.fpos (d : Dev) (m : MotorIx) : BitVec 32 := d.w32 (aFb (chanOf m) 4)

/-- The kiss point x_k in force (R128). -/
def Dev.kissPt (d : Dev) (m : MotorIx) : BitVec 32 := d.w32 (aMot m 0x159)

/-- Point i of the stiffness curve, offset from x_k. -/
def Dev.fcx (d : Dev) (m : MotorIx) (i : Nat) : Int := d.iuw (aMot m (0x160 + i))

/-- Point i of the stiffness curve, force. -/
def Dev.fcy (d : Dev) (m : MotorIx) (i : Nat) : Int := d.iuw (aMot m (0x180 + i))

/-- The stiffness curve is valid (R125). -/
def Dev.curveOk (d : Dev) (m : MotorIx) : Bool :=
  d.fcx m 0 = 0 && d.fcy m 0 = 0 && nonDecreasing (d.fcx m) 32 && nonDecreasing (d.fcy m) 32 && decide (0 < d.fcy m 31)

/-- The force estimate and whether the curve's end is reached (R126). -/
def Dev.forceEst (d : Dev) (m : MotorIx) : Int × Bool :=
  let dx := (d.fpos m - d.kissPt m).toInt
  if dx ≤ 0 then (0, false)
  else if d.fcx m 31 ≤ dx then (d.fcy m 31, true)
  else (interpolate (d.fcx m) (d.fcy m) 32 dx, false)

/-- The position target of a force demand, and whether the curve's end is reached (R127). -/
def Dev.forceTarget (d : Dev) (m : MotorIx) (dem : Int) : BitVec 32 × Bool :=
  let k := d.kissPt m
  if dem ≤ 0 then (k - BitVec.ofNat 32 (d.iuw (aMot m 0x151)), false)
  else if d.fcy m 31 ≤ dem then (k + BitVec.ofInt 32 (d.fcx m 31), true)
  else
    let i := lastAtMost (d.fcy m) dem 32
    let off := d.fcx m i + truncDiv ((d.fcx m (i + 1) - d.fcx m i) * (dem - d.fcy m i)) (d.fcy m (i + 1) - d.fcy m i)
    (k + BitVec.ofInt 32 off, false)

/-- KSTAT.ACT: a kiss search runs. -/
def Dev.searching (d : Dev) (m : MotorIx) : Bool := d.bit (aMot m 0x15B) 1

/-- A kiss search ends without a candidate, so that the next search has no rejected one to agree with (R129, R130).
[DEDUCED, log 36] -/
def Dev.searchFails (d : Dev) (m : MotorIx) : Dev :=
  ((d.putB (aMot m 0x15B) 1 false).putB (aMot m 0x15C) 2 true).onMot m (fun x =>
    { x with kiss := { x.kiss with timer := .off, rejected := none } })

/-- A kiss candidate is accepted or rejected, and the search ends (R129, R130). -/
def Dev.candidate (d : Dev) (m : MotorIx) (xc : Int) : Dev :=
  let jump : Int := d.iuw (aMot m 0x155)
  let near (ref : Int) : Bool := decide ((BitVec.ofInt 32 (xc - ref)).toInt.natAbs ≤ jump.natAbs)
  let d := ((d.putB (aMot m 0x15B) 1 false).putB (aMot m 0x15C) 2 false).onMot m (fun x =>
    { x with kiss := { x.kiss with timer := .off } })
  let agree := match (d.mot m).kiss.rejected with | some r => near r | none => false
  if near (d.kissPt m).toInt || agree then
    let conf := !near (d.kissPt m).toInt
    let d := d.put32 (aMot m 0x159) (BitVec.ofInt 32 xc)
    let d := ((d.putB (aMot m 0x15B) 0 true).putB (aMot m 0x15B) 2 false).putB (aMot m 0x15B) 3 conf
    d.onMot m (fun x => { x with kiss := { x.kiss with rejected := none } })
  else
    (d.putB (aMot m 0x15B) 2 true).onMot m (fun x => { x with kiss := { x.kiss with rejected := some xc } })

/-- One frame of a running search, with the measured current i (R129); a position past the jump ends it before the current
is evaluated. [DESIGN CHOICE, log 131, 133] -/
def Dev.searchFrame (d : Dev) (m : MotorIx) (i : Int) : Dev :=
  let k := (d.mot m).kiss
  let p := d.fpos m
  let next (k : Kiss) : Dev := d.onMot m (fun x => { x with kiss := k })
  if (d.iuw (aMot m 0x155) : Int) < (p - d.kissPt m).toInt then d.searchFails m
  else if k.frames < d.ifld (aMot m 0x150) 7 0 then next { k with ib := i, hits := 0 }
  else if (d.iuw (aMot m 0x153) : Int) ≤ i - k.ib then
    let k := { k with hits := k.hits + 1, xc := if k.hits = 0 then p.toInt else k.xc }
    if max 1 (d.ifld (aMot m 0x150) 11 8) ≤ k.hits then (next k).candidate m k.xc else next k
  else next { k with hits := 0, ib := k.ib + (i - k.ib) / 8 }

/-- A kiss search starts at this frame start when R129 allows it. The applied demand is the one that the last loop
computation left, and the baseline starts at 0, where it stays with KSETL 0. [DESIGN CHOICE, log 129, 130] -/
def Dev.searchStart (d : Dev) (m : MotorIx) : Dev :=
  let att := d.fld (aMot m 0x15B) 6 4
  if (d.mot m).state = .run && d.ifld (aMot m 0x100) 2 0 = 4 && d.ibit (aMot m 0x150) 15 && !d.bit (aMot m 0x15B) 0 &&
      !d.searching m && !d.sensorless m && d.curveOk m && decide (att < d.ifld (aMot m 0x150) 14 12) &&
      decide (0 < d.sw (aMot m 0x107)) && decide ((d.fpos m - d.kissPt m).toInt ≤ 0) then
    let d := (d.putB (aMot m 0x15B) 1 true).putF (aMot m 0x15B) 6 4 (att + 1)
    d.onMot m (fun x => { x with kiss := { x.kiss with
      frames := 0, ib := 0, hits := 0, xc := 0
      timer := d.startTimer (grpOf m) (framesOf (d.iuw (aMot m 0x156)) (d.grp (grpOf m)).period) } })
  else d

/-! ### The cascade (R109 to R118) -/

/-- The current full scale in credits; 0 acts as 1 (R116). [DEDUCED, log 41] -/
def Dev.ifs (d : Dev) (m : MotorIx) : Nat := max 1 (d.iuw (aMot m 0x108))

/-- Credits of a current magnitude, rounded up (R117). -/
def Dev.credits (d : Dev) (m : MotorIx) (i : Nat) : Nat := (i * d.ifs m + 32767) / 32768

/-- The measured current; the negation of -32 768 saturates (R115). [DEDUCED, log 36] -/
def Dev.measured (d : Dev) (m : MotorIx) : Int :=
  let v := d.sw (aAcc (grpOf m) (d.ifld (aMot m 0x109) 5 0) 2)
  if (d.mot m).drvRev then satWord (-v) else v

/-- The loop mode cannot be used: codes 5 to 7, a mode that needs a position count on a sensorless motor, or force with
an invalid curve (R108, R125). -/
def Dev.modeBad (d : Dev) (m : MotorIx) : Bool :=
  let l := d.ifld (aMot m 0x100) 2 0
  4 < l || (3 ≤ l && d.sensorless m) || (l = 4 && !d.curveOk m)

/-- Deliver the loop's outputs: duty, direction, request and its regenerating mark (R118, R117). -/
def Dev.deliver (d : Dev) (m : MotorIx) (duty : Nat) (rev : Bool) (req : Nat) (regen : Bool) : Dev :=
  let d := d.put (aMot m 0x12A) (word ((if regen then 0x8000 else 0) + min 4095 req))
  d.onMot m (fun x => { x with out := some (duty, rev), lastDir := rev, req := some (min 4095 req, regen), loopRun := true })

/-- Duty and demanded direction from u (R118). -/
def Dev.fromU (d : Dev) (m : MotorIx) (u : Int) : Nat × Bool :=
  let last := (d.mot m).lastDir
  let rev := decide (u < 0)
  if u = 0 || (rev != last && decide (u.natAbs ≤ d.iuw (aMot m 0x10D))) then (0, last) else (u.natAbs, rev)

/-- The current regulator and its outputs, for a current reference i_u (R114 to R116). The result is u. -/
def Dev.currentLoop (d : Dev) (m : MotorIx) (iu : Int) : Dev × Int :=
  let i := d.measured m
  let gc : Int := min 32767 ((d.mot m).grant * 32768 / d.ifs m)
  let ref := clampInt (-gc) gc iu
  let h : Int := min (d.lim m 0x10B) (min (d.uw (aMot m 5)) 32767)
  let (u, acc) := d.regulator m 0x110 (ref - i) (-h) h (d.w32 (aMot m 0x128)).toInt
  let d := ((d.put (aMot m 0x124) (iword ref)).put (aMot m 0x125) (iword i)).put (aMot m 0x126) (iword gc)
  if d.accValid (grpOf m) (d.ifld (aMot m 0x109) 5 0) then
    ((d.put (aMot m 0x127) (iword u)).put32 (aMot m 0x128) (BitVec.ofInt 32 acc), u)
  else (d.put (aMot m 0x127) 0, 0)

/-- The position regulator's input: the target of modes 3 and 4, with the curve-end mark (R108, R127). -/
def Dev.target (d : Dev) (m : MotorIx) (dem : Int) : BitVec 32 × Bool :=
  if d.ifld (aMot m 0x100) 2 0 = 4 then d.forceTarget m dem
  else ((d.iw (aMot m 0x11E) ++ d.iw (aMot m 0x11D)) + BitVec.ofInt 32 dem, false)

/-- LCTRL.ODIV, where a written 0 means 16 (R110). -/
def Dev.odivOf (d : Dev) (m : MotorIx) : Nat := let n := d.ifld (aMot m 0x100) 15 12; if n = 0 then 16 else n

/-- The outer loops: the position target in every frame, and v* and i_u in the frames in which ODIV runs the outer
regulators (R109 steps 2 to 4, R110, R127). The speed is MOT[m].SPEED, and PDB is compared with the whole difference
(R114). A search goes on with KSPD and KILIM until R129 ends it. [DESIGN CHOICE, log 132, 133, 136] -/
def Dev.outer (d : Dev) (m : MotorIx) (dem : Int) : Dev :=
  let mode := d.ifld (aMot m 0x100) 2 0
  let runs := (d.mot m).odiv % d.odivOf m = 0
  let search := d.searching m
  let (tgt, atEnd) := d.target m dem
  let d := if 3 ≤ mode then d.put32 (aMot m 0x120) tgt else d
  let d := if mode = 4 then d.putB (aMot m 0x15C) 1 (atEnd || (d.forceEst m).2) else d
  let d :=
    if 3 ≤ mode && runs then
      if search then d.put (aMot m 0x122) (d.iw (aMot m 0x152))
      else
        let e := (tgt - d.fpos m).toInt
        let e := if e.natAbs ≤ d.iuw (aMot m 0x11C) then 0 else e
        let vl := d.lim m 0x10C
        let (v, acc) := d.regulator m 0x118 e (-vl) vl (d.mot m).posI
        (d.put (aMot m 0x122) (iword v)).onMot m (fun x => { x with posI := acc })
    else if mode = 2 && runs then d.put (aMot m 0x122) (iword dem)
    else d
  if 2 ≤ mode && runs then
    let il := if search then min (d.lim m 0x10A) (d.lim m 0x154) else d.lim m 0x10A
    let y := if (d.mot m).spdv then d.sw (aMot m 0xB) else 0
    let (i, acc) := d.regulator m 0x114 (d.sw (aMot m 0x122) - y) (-il) il (d.mot m).spdI
    (d.put (aMot m 0x123) (iword i)).onMot m (fun x => { x with spdI := acc })
  else if mode = 1 then d.put (aMot m 0x123) (iword dem)
  else d

/-- Select and slew the demand; the result is the applied demand and its source (R119 to R124). FSACT 3 selects no demand,
so the applied one stays; only a valid source moves the demand that FSACT 0 holds (R123). MAPERR is judged here, so in
RUN, REVPEND and BRAKE (R122). [DESIGN CHOICE, log 135; DEDUCED, log 38] -/
def Dev.takeDemand (d : Dev) (m : MotorIx) : Dev × Int × Nat :=
  let (src, sel) := d.selectDemand m
  let old := d.sw (aMot m 0x107)
  let dem := if src = 0 && d.ifld (aMot m 0x100) 9 8 = 3 then old else slew (d.iuw (aMot m 0x106)) old sel
  let d := ((d.put (aMot m 0x107) (iword dem)).putF (aMot m 0x101) 1 0 src).putB (aMot m 0x101) 4 (d.mapErr m)
  (d.onMot m (fun x => { x with demSel := if src = 0 then x.demSel else sel }), dem, src)

/-- FEST and FSTAT.OVR follow the position count (R126); they keep their values where the curve is invalid or the motor
sensorless. [DESIGN CHOICE, log 134] -/
def Dev.showForce (d : Dev) (m : MotorIx) : Dev :=
  if d.curveOk m && !d.sensorless m then
    (d.put (aMot m 0x12B) (iword (d.forceEst m).1)).putB (aMot m 0x15C) 1 (d.forceEst m).2
  else d

/-- The loop computation of motor m in its present engine state (R111). A bad mode delivers the request 0 with its duty
0, and LERR is judged in RUN, REVPEND and BRAKE and keeps its value elsewhere (R108). [DEDUCED, log 36] -/
def Dev.loop (d : Dev) (m : MotorIx) : Dev :=
  let keep := (d.mot m).lastDir
  match (d.mot m).state with
  | .start =>
    let st := d.isw (aMot m 0x83)
    let iu := if (d.mot m).drvRev then -st else st
    let (d, u) := d.currentLoop m iu
    let (duty, rev) := d.fromU m u
    let d := d.put (aMot m 0x123) (iword iu)
    d.deliver m duty rev (d.credits m (min iu.natAbs (d.lim m 0x10A).toNat)) false
  | .run =>
    let (d, dem, src) := d.takeDemand m
    let mode := d.ifld (aMot m 0x100) 2 0
    let bad := d.modeBad m
    let d := (d.putB (aMot m 0x101) 3 bad).showForce m
    if bad then d.deliver m 0 keep 0 false
    else if src = 0 && d.ifld (aMot m 0x100) 9 8 = 3 then d.deliver m 0 keep 0 false
    else if mode = 0 then
      let (duty, rev) := d.fromU m dem
      d.deliver m duty rev (d.credits m (d.lim m 0x10A).toNat) false
    else
      let d := d.outer m dem
      let iu := d.sw (aMot m 0x123)
      let d := if d.searching m then d.searchFrame m (d.measured m) else d
      let sp := d.sw (aMot m 0xB)
      let regen := d.pwmMode m = .comp && (d.mot m).spdv && decide ((0 < iu ∧ sp < 0) ∨ (iu < 0 ∧ 0 < sp))
      let (d, u) := d.currentLoop m iu
      let (duty, rev) := d.fromU m u
      d.deliver m duty rev (d.credits m (min iu.natAbs (d.lim m 0x10A).toNat)) regen
  | .revpend | .brake =>
    let (d, dem, src) := d.takeDemand m
    let bad := d.modeBad m
    let d := (d.putB (aMot m 0x101) 3 bad).showForce m
    if bad || (src = 0 && d.ifld (aMot m 0x100) 9 8 = 3) then d.deliver m 0 keep 0 false
    else
      let mode := d.ifld (aMot m 0x100) 2 0
      let d := if mode = 0 then d else d.outer m dem
      let dir := if mode = 0 then dem else d.sw (aMot m 0x123)
      d.deliver m 0 (if dir = 0 then keep else decide (dir < 0)) 0 false
  | _ => d.deliver m 0 keep 0 false

/-- The loop mode and state of the motor run its current regulator (R22, R108, R111). -/
def Dev.currentRuns (d : Dev) (m : MotorIx) : Bool :=
  (d.mot m).state = .start || ((d.mot m).state = .run && 1 ≤ d.ifld (aMot m 0x100) 2 0 && !d.modeBad m)

/-- Every FRAME accumulator that the engine reads has closed in the present frame (R22). -/
def Dev.inputsClosed (d : Dev) (m : MotorIx) : Bool :=
  let p := grpOf m
  let ok (a : Nat) : Bool :=
    if h : a < 64 then let c := (d.prm p).acc[a]; !c.frame || c.closed else true
  (!d.currentRuns m || ok (d.ifld (aMot m 0x109) 5 0)) &&
  (!d.ibit (aMot m 0x100) 6 || ok (d.ifld (aMot m 0x140) 5 0)) &&
  (!(d.ibit (aMot m 0x100) 5 && d.ifld (aMot m 0x40) 1 0 = 1) || ok (d.ifld (aMot m 0x40) 7 2))

end Sys2Proof.Machine
end

