-- ==== Sys2Proof/Machine/Cba.lean ====
section
/-! DEFINITION. The current budget arbiter (chapter 05): members, the grant procedure of R137, the regeneration pool,
the books, and what comes into force at a frame boundary. -/

namespace Sys2Proof.Machine

open Sys2Proof

/-- One slot as the procedure of R137 sees it. -/
structure Ask where
  mem : Bool
  cls : Nat
  floor : Nat
  ceil : Nat
  req : Nat
  deriving DecidableEq, Repr

/-- Grants and what is left of the pool. -/
abbrev Shares := Vector Nat 4 × Nat

/-- The floors of class c, in slot order (R137). -/
def floorsOf (asks : Vector Ask 4) (c : Nat) (g : Shares) : Shares :=
  (List.finRange 4).foldl (fun (acc : Shares) j =>
    let a := asks[j]
    if a.mem && a.cls = c then
      let n := min a.floor (min a.ceil acc.2)
      (upd acc.1 j (fun _ => n), acc.2 - n)
    else acc) g

/-- The shortfall of a slot of class c. -/
def shortfall (asks : Vector Ask 4) (c : Nat) (g : Vector Nat 4) (j : Fin 4) : Nat :=
  let a := asks[j]
  if a.mem && a.cls = c then min a.req a.ceil - g[j] else 0

/-- Hand out the remainder credits of a class round robin after pointer j; at most `fuel` slots are passed. -/
def remainder (elig : Fin 4 → Bool) : Nat → Fin 4 → Nat → Vector Nat 4 → Vector Nat 4 × Fin 4
  | 0, rr, _, g => (g, rr)
  | fuel + 1, rr, r, g =>
    if r = 0 then (g, rr)
    else
      -- the next eligible slot after rr
      match ([1, 2, 3, 4].map (fun k => (⟨(rr.1 + k) % 4, by omega⟩ : Fin 4))).find? elig with
      | some j => remainder (fun k => elig k && k ≠ j) fuel j (r - 1) (upd g j (· + 1))
      | none => (g, rr)

/-- One class of the second part of R137; the pointer of the class is returned with the shares. -/
def shareClass (asks : Vector Ask 4) (c : Nat) (rr : Fin 4) (g : Shares) : Shares × Fin 4 :=
  let dj := shortfall asks c g.1
  let total := ((List.finRange 4).map dj).sum
  if total ≤ g.2 then ((Vector.ofFn (fun j => g.1[j] + dj j), g.2 - total), rr)
  else
    let s (j : Fin 4) : Nat := g.2 * dj j / total
    let given := ((List.finRange 4).map s).sum
    let g1 := Vector.ofFn (fun j => g.1[j] + s j)
    let (g2, rr) := remainder (fun j => decide (s j < dj j)) 4 rr (g.2 - given) g1
    ((g2, 0), rr)

/-- The procedure of R137 for one pool: the grants, the credits left, and the four round-robin pointers. -/
def grants (asks : Vector Ask 4) (pool : Nat) (floorsOnly : Bool) (rr : Vector (Fin 4) 4) : Shares × Vector (Fin 4) 4 :=
  let start : Shares := (Vector.replicate 4 0, pool)
  let floors := (List.range 4).foldl (fun g c => floorsOf asks c g) start
  if floorsOnly then (floors, rr)
  else
    (List.finRange 4).foldl (fun (acc : Shares × Vector (Fin 4) 4) c =>
      let (g, p) := shareClass asks c.1 acc.2[c] acc.1
      (g, upd acc.2 c (fun _ => p))) (floors, rr)

/-- Four pointers from a byte of RRPTR. -/
def rrOf (b : Nat) : Vector (Fin 4) 4 := Vector.ofFn (fun c => ⟨b / 4 ^ c.1 % 4, Nat.mod_lt _ (by decide)⟩)

/-- Four pointers as a byte of RRPTR. -/
def rrByte (rr : Vector (Fin 4) 4) : Nat := rr[0].1 + 4 * rr[1].1 + 16 * rr[2].1 + 64 * rr[3].1

/-- The thermal throttle is in force for group g (R457). -/
def Dev.throttled (d : Dev) (g : GroupIx) : Bool := d.bit 0x1001 5 || d.bit 0x1001 (6 + g.1)

/-- A chopper fault is set, so the chopper is not usable (R193). -/
def Dev.chopBad (d : Dev) (g : GroupIx) : Bool := d.fld (aSup g 9) 2 0 ≠ 0

/-- Slot j is a member at this grant point (R135). -/
def Dev.member (d : Dev) (m : MotorIx) : Bool :=
  d.hasMot m && (match (d.mot m).state with | .run | .start | .revpend | .brake => true | _ => false)

/-- The motoring pool before the throttle: LPOOL while re-rating is in force, else POOL; a start or end in the cycle of the
grant point takes effect at the next one, so that STAT.RR counts as the cycle found it (R134, R435). -/
def Dev.poolOf (d : Dev) (g : GroupIx) : Nat :=
  if bitOf (d.w0 0xE002) (8 + g.1) then d.ifld (0xE009 + g.1) 11 0 else d.ifld (aCba g 0) 11 0

/-- The supply current a motoring member is estimated to draw, in credits (R140). [DEDUCED, log 41] -/
def Dev.drawn (d : Dev) (m : MotorIx) : Nat :=
  (d.sw (aMot m 0x125)).natAbs * d.ifs m * d.uw (aMot m 4) / 2 ^ 30

/-- Every round-robin pointer of group g takes 3 (R138). -/
def Dev.resetRR (d : Dev) (g : GroupIx) : Dev := d.put (aCba g 6) 0xFFFF

/-- Record the books in force in the snapshot registers (R147). [DEDUCED, log 40] -/
def Dev.snapshot (d : Dev) (g : GroupIx) : Dev :=
  let b := (d.grp g).books
  let d := (((d.put (aCba g 8) (word b.total)).put (aCba g 9) (word b.free)).put (aCba g 0xA) (word b.rtotal)).put
    (aCba g 0xB) (word b.rfree)
  let d := d.put (aCba g 0xC) (lo16 (d.grp g).fcnt)
  d.each (List.finRange 4) (fun d j =>
    d.put (aSlot g j 3) (word ((if b.regen[j] then 0x8000 else 0) + b.grant[j])))

/-- The comparator code of a grant (R143). -/
def Dev.cmpCode (d : Dev) (g j : Fin 4) (grant : Nat) : Nat :=
  let m := motAt g j
  max (d.ifld (aCba g 3) 9 0)
    (min 1023 (grant * (256 + d.ifld (aCba g 1) 7 0) * 4 / d.ifs m))

/-- Grants come into force: loop clamps and comparator codes (R143). [DEDUCED, log 40] -/
def Dev.enforceGrants (d : Dev) (g : GroupIx) (b : Books) : Dev :=
  let d := d.onGrp g (fun x => { x with books := b })
  d.each (List.finRange 4) (fun d j =>
    (d.onMot (motAt g j) (fun x => { x with grant := b.grant[j] })).put (aSlot g j 4) (word (d.cmpCode g j b.grant[j])))

/-- Every grant of group g becomes 0 (R144, R149). -/
def Dev.zeroGrants (d : Dev) (g : GroupIx) : Dev :=
  (d.enforceGrants g {}).onGrp g (fun x => { x with pend := none })

/-- The request of each slot at this grant point: the one delivered since the last grant point, else the previous one;
LATE.REQ is set where this frame's request was not ready (R27, R135). [DEDUCED, log 21] -/
def Dev.takeRequests (d : Dev) (g : GroupIx) : Dev :=
  d.each (List.finRange 4) (fun d j =>
    let m := motAt g j
    let d := if d.member m && !(d.mot m).loopRun then d.setB (aGrp g 4) (4 + j.1) else d
    match (d.mot m).req with
    | some r => d.onMot m (fun x => { x with lastReq := r, req := none })
    | none => d)

/-- Slot j as a claimant of the motoring or the regeneration pool (R135, R136). -/
def Dev.ask (d : Dev) (g : GroupIx) (regen : Bool) (j : Fin 4) : Ask :=
  let m := motAt g j
  { mem := d.member m && (d.mot m).lastReq.2 = regen
    cls := d.ifld (aSlot g j 0) 1 0, floor := d.ifld (aSlot g j 1) 11 0, ceil := d.ifld (aSlot g j 2) 11 0
    req := (d.mot m).lastReq.1 }

/-- The floors of a pool's members cannot all be met (R151). -/
def floorsShort (asks : Vector Ask 4) (pool : Nat) : Bool :=
  decide (pool < ((List.finRange 4).map (fun j => let a := asks[j]; if a.mem then min a.floor a.ceil else 0)).sum)

/-- Starvation of slot j at a grant point that is not floors-only (R150). -/
def Dev.starve (d : Dev) (g j : Fin 4) (a : Ask) (grant : Nat) : Dev :=
  if a.mem && decide (grant < min a.req a.ceil) then
    let n := (d.grp g).starv[j] + 1
    let d := d.inc (aSlot g j 5)
    if max 1 (d.ifld (aCba g 4) 7 0) ≤ n then
      (d.cause (aCba g 7) (1#16 <<< j.1) (32 + g.1)).onGrp g (fun x => { x with starv := upd x.starv j (fun _ => 0) })
    else d.onGrp g (fun x => { x with starv := upd x.starv j (fun _ => n) })
  else d.onGrp g (fun x => { x with starv := upd x.starv j (fun _ => 0) })

/-! ### Re-rating (R434, R435) -/

/-- A condition of R434 holds for group g, apart from RERATE. -/
def Dev.rrHolds (d : Dev) (g : GroupIx) : Bool :=
  let x := d.mirror
  (!x.pres && x.presEver) || x.alone ||
    (d.ibit 0xE000 (4 + g.1) && x.pres && (d.fld 0xE405 (4 * g.1 + 3) (4 * g.1) ≠ 0 || !d.bit 0xE400 (4 + g.1)))

/-- STAT.RR of group g changes. -/
def Dev.setRr (d : Dev) (g : GroupIx) (on : Bool) : Dev :=
  if d.bit 0xE002 (8 + g.1) = on then d else d.putB 0xE002 (8 + g.1) on

/-- The time since which group g has had no condition. -/
def Dev.setRrClr (d : Dev) (g : GroupIx) (t : Option Nat) : Dev := d.onGrp g (fun x => { x with rrClr := t })

/-- Re-rating follows its conditions: it begins with one of them, and ends RETT ms after the last of them. RERATE and RRF are
those in force (R440). [DEDUCED, log 80] -/
def Dev.syncRr (d : Dev) : Dev :=
  d.each (List.finRange 4) (fun d g =>
    if !(d.ibit 0xE000 (8 + g.1)) || !d.ready then (d.setRrClr g none).setRr g false
    else if d.rrHolds g then (d.setRrClr g none).setRr g true
    else if d.bit 0xE002 (8 + g.1) && (d.grp g).rrClr.isNone then d.setRrClr g (some d.cycles)
    else d)

/-- MIRROR.CFG and TIM come into force at a grant point, as the cycle found them (R148, R440), and re-rating follows; where a
frame sent in this very cycle has brought them in force, they stand (R440). [DEDUCED, log 80] -/
def Dev.rerateNow (d : Dev) : Dev :=
  (if d.mirror.sentAt = some d.cycles then d else d.enforce0 0xE000 0xE002).syncRr

/-! ### The grant point -/

/-- The grant point of group g (R133 to R142, R150, R151). The configuration that stood when the cycle of the grant point
began comes into force first (R148). [DEDUCED, log 40, 99] -/
def Dev.grantPoint (d : Dev) (g : GroupIx) : Dev :=
  let d := (d.enforce0 (aCba g 0) (aCba g 0x40)).enforce0 (0xE009 + g.1) (0xE00A + g.1)
  let d := d.rerateNow.takeRequests g
  let fo := (d.grp g).floorsOnly
  let thr := d.throttled g
  let f := if thr then d.ifld (aCba g 1) 15 8 else 256
  let total := d.poolOf g * f / 256
  let ovblk := decide (2 ≤ d.level g)
  let chopx := d.chopBad g || !d.bit (aSup g 0) 0
  let motAsks := Vector.ofFn (d.ask g false)
  let regAsks := Vector.ofFn (d.ask g true)
  let chop := if chopx then 0 else d.ifld (aCba g 2) 11 0
  let drawn := ((List.finRange 4).map (fun j => if motAsks[j].mem then d.drawn (motAt g j) else 0)).sum
  let rtotal := if ovblk then 0 else min 4095 (chop + drawn)
  let rr := d.fld (aCba g 6) 7 0
  let rrr := d.fld (aCba g 6) 15 8
  let (mg, rr') := grants motAsks total fo (rrOf rr)
  let (rg, rrr') := grants regAsks rtotal fo (rrOf rrr)
  let books : Books :=
    { total := total, free := mg.2, rtotal := rtotal, rfree := rg.2
      grant := Vector.ofFn (fun j => mg.1[j] + rg.1[j]), regen := Vector.ofFn (fun j => regAsks[j].mem) }
  let d := d.put (aCba g 6) (word (rrByte rrr' * 256 + rrByte rr'))
  let d := d.put (aCba g 5) (word (fo.toNat * 8 + thr.toNat * 4 + ovblk.toNat * 2 + chopx.toNat))
  let d := d.onGrp g (fun x => { x with pend := some books, floorsOnly := false })
  let d := if floorsShort motAsks total || floorsShort regAsks rtotal then d.cause (aCba g 7) 0x10 (32 + g.1) else d
  if fo then d
  else d.each (List.finRange 4) (fun d j =>
    let a := if regAsks[j].mem then regAsks[j] else motAsks[j]
    d.starve g j a books.grant[j])

/-- The one grant point of this frame (R19); a request taken there may make a motor regenerating, and the outputs follow
(R49, R190). -/
def Dev.grantOnce (d : Dev) (g : GroupIx) : Dev :=
  ((d.onGrp g (fun x => { x with granted := true })).grantPoint g).driveGroup g

end Sys2Proof.Machine
end

