-- ==== Sys2Proof/Machine/Sup.lean ====
section
/-! DEFINITION. The motor supply groups (chapter 07) and the Glint comparators (chapter 08): bus measurement, the
overvoltage ladder, the chopper, the comparator latches and the self-check. -/

namespace Sys2Proof.Machine

open Sys2Proof

/-! ### Chopper (R191 to R194) -/

/-- CHOPEN. -/
def Dev.chopEn (d : Dev) (g : GroupIx) : Bool := d.bit (aSup g 0) 0

/-- BRKg. -/
def Dev.brk (d : Dev) (g : GroupIx) : Bool := d.bit (aSup g 7) 2

/-- Set BRKg from the ladder, the test pulse and CHOPEN (R191); a change of BRKg, or CHOPEN at 0, ends the episodes
whose pair of levels it breaks (R193). While ck_core stands still BRKg holds its level. -/
def Dev.setBrk (d : Dev) (g : GroupIx) : Dev :=
  if d.stands then d else
  let on := d.chopEn g && (decide (0 < d.level g) || (d.grp g).test.isSome)
  let d := if on = d.brk g then d else (d.putB (aSup g 7) 2 on).onGrp g (fun x => { x with brkAt := d.cycles })
  let en := d.chopEn g
  d.onGrp g (fun x => { x with epNf := x.epNf && en && on, epStk := x.epStk && en && !on })

/-- Declare a chopper fault: cause, event and count (R193). -/
def Dev.chopFault (d : Dev) (g : GroupIx) (bit : Nat) : Dev :=
  (d.cause (aSup g 9) (1#16 <<< bit) (16 + g.1)).inc (aSup g 0xC)

/-- BRKg has been high for 400 ticks or more. [DEDUCED, log 43] -/
def Dev.brkLong (d : Dev) (g : GroupIx) : Bool := d.brk g && decide ((d.grp g).brkAt + 400 ≤ d.cycles)

/-- A cleared cause whose condition still holds sets again, with no raise (R193). -/
def Dev.chopHold (d : Dev) (g : GroupIx) : Dev :=
  let x := d.grp g
  d.orW (aSup g 9) (word (x.epNf.toNat + x.epStk.toNat * 4))

/-! ### Ladder (R185 to R189) -/

/-- The ladder takes a level: the events of the levels entered, the chopper, and the outputs of the group
(R189, R193, R194). -/
def Dev.setLevel (d : Dev) (g : GroupIx) (new : Nat) : Dev :=
  let old := d.level g
  if new = old then d
  else
    let enter2 := decide (old < 2 ∧ 2 ≤ new)
    let enter3 := decide (old < 3 ∧ new = 3)
    let chopov := (enter2 || enter3) && d.chopEn g && d.brkLong g
    let d := d.putF (aSup g 7) 1 0 new
    let d := if enter2 then (d.cause (aSup g 9) 8 (16 + g.1)).inc (aSup g 0xA) else d
    let d := if enter3 then (d.cause (aSup g 9) 16 (16 + g.1)).inc (aSup g 0xB) else d
    let d := if chopov then d.chopFault g 1 else d
    let d := d.onGrp g (fun x => { x with test := if old = 0 then none else x.test })
    (d.setBrk g).driveGroup g

/-- The new level of the ladder for a bus value (R186). -/
def ladder (l v ov1 ov2 ov3 hys : Nat) : Nat :=
  if ov3 ≤ v then 3
  else if l ≤ 1 ∧ ov2 ≤ v then 2
  else if l = 0 ∧ ov1 ≤ v then 1
  else if l = 1 ∧ v < ov1 - hys then 0
  else if 2 ≤ l ∧ v < ov2 - hys then (if ov1 - hys ≤ v then 1 else 0)
  else l

/-- The supply block evaluates a new bus value with the thresholds then stored, and REGTHR comes into force (R184 to
R187, R196); the outputs of the group follow at once (R49, R190). A level that a trip set stays a trip's until the
ladder leaves it (R188). [DEDUCED, log 42] -/
def Dev.supEvaluate (d : Dev) (g : GroupIx) (v : Nat) : Dev :=
  let d := d.enforce (aSup g 1) (aSup g 7)
  let ov1 := d.uw (aSup g 1)
  let ov2 := d.uw (aSup g 2)
  let ov3 := d.uw (aSup g 3)
  let hys := d.uw (aSup g 4)
  let uvt := d.uw (aSup g 5)
  let bad := !(decide (ov1 < ov2 ∧ ov2 < ov3 ∧ hys < ov1))
  let least := min ov1 (min ov2 ov3)
  let new := if bad then ladder (d.level g) v least least least hys else ladder (d.level g) v ov1 ov2 ov3 hys
  let d := d.onGrp g (fun x => { x with
    v := some v, staleCnt := 0, staleOpen := true, tripped := x.tripped && decide (new = 3) })
  let uv := d.bit (aSup g 7) 7
  let uv' := if v < uvt then true else if uvt + hys ≤ v then false else uv
  let d := (((d.putB (aSup g 7) 8 bad).putB (aSup g 7) 7 uv').putB (aSup g 7) 6 false).putB (aSup g 7) 5 true
  let d := if uv' && !uv then d.cause (aSup g 9) 0x80 (16 + g.1) else d
  (d.setLevel g new).driveGroup g

/-- A bus trip (R188). [DEDUCED, log 47] -/
def Dev.busTrip (d : Dev) (g : GroupIx) : Dev := ((d.cause (aSup g 9) 0x20 (16 + g.1)).onGrp g (fun x => { x with tripped := true })).setLevel g 3

/-- The supply block at a frame start: VBUS is copied, and a measurement with no close in two whole frames is stale; a start
of the timebase begins the count of frames again (R183, R184). [DEDUCED, log 42] -/
def Dev.supFrame (d : Dev) (g : GroupIx) (whole : Bool) : Dev :=
  let d := d.put (aSup g 8) (word ((d.grp g).v.getD 0))
  if whole then
    let n := if (d.grp g).staleOpen then 0 else (d.grp g).staleCnt + 1
    let d := d.onGrp g (fun x => { x with staleCnt := n, staleOpen := false })
    if 2 ≤ n && !d.bit (aSup g 7) 6 then (d.putB (aSup g 7) 6 true).cause (aSup g 9) 0x40 (16 + g.1) else d
  else d.onGrp g (fun x => { x with staleCnt := 0, staleOpen := false })

/-- The bus measurement becomes invalid, as when the array's domain is switched on: the ladder is at level 0 unless a bus
trip has set level 3 (R184). [DEDUCED, log 42] -/
def Dev.supInvalid (d : Dev) (g : GroupIx) : Dev :=
  let d := ((d.putB (aSup g 7) 5 false).put (aSup g 8) 0).onGrp g (fun x => { x with v := none, staleCnt := 0, staleOpen := true })
  if (d.grp g).tripped then d else d.setLevel g 0

/-! ### Glint comparators (R197 to R210) -/

/-- The comparators of group g work: the domain is on and the die is ready (R204, R206, R208). -/
def Dev.glintOn (d : Dev) (g : GroupIx) : Bool := d.domOn (gateDom g) && (d.die g).rdy && !(d.die g).low

/-- The check of MODE 2 to 4 names this comparator (R210). [DEDUCED, log 45] -/
def Dev.underCheck (d : Dev) (ty sel : Nat) : Bool :=
  let w := d.w 0x70A0
  d.part = .otl9616 && decide (2 ≤ bits w 10 8 ∧ bits w 10 8 ≤ 4) && bits w 7 6 = ty && bits w 5 0 = sel

/-- The motors whose state a check of a comparator type and number concerns (R210). -/
def checkMotors (ty sel : Nat) : List MotorIx :=
  (List.finRange 16).filter (fun m =>
    match ty with
    | 2 => m.1 = sel / 3
    | 3 => m.1 / 4 = sel
    | _ => m.1 = sel)

/-- A write to CHK (R209, R210): MODE 2 to 4 is ignored while a motor it concerns is not in IDLE. [DEDUCED, log 45] -/
def Dev.writeChk (d : Dev) (v : Word) : Dev :=
  let mode := bits v 10 8
  let busy := (checkMotors (bits v 7 6) (bits v 5 0)).any (fun m => (d.mot m).state ≠ .idle)
  if decide (2 ≤ mode ∧ mode ≤ 4) && d.part = .otl9616 && busy then d else d.put 0x70A0 (v &&& 0x07FF)

/-- A motor leaves IDLE: a check that concerns it ends (R210). [DEDUCED, log 45] -/
def Dev.endCheck (d : Dev) (m : MotorIx) : Dev :=
  let w := d.w 0x70A0
  if decide (2 ≤ bits w 10 8 ∧ bits w 10 8 ≤ 4) && d.part = .otl9616 && (checkMotors (bits w 7 6) (bits w 5 0)).contains m
  then d.putF 0x70A0 10 8 0 else d

/-- The group whose comparators and array a type and number name. -/
def checkGroup (ty sel : Nat) : GroupIx :=
  ⟨(match ty with | 2 => sel / 12 | 3 => sel | _ => sel / 4) % 4, by omega⟩

/-- The base code in force of motor m's current comparator (R199). -/
def Dev.baseCode (d : Dev) (m : MotorIx) : Nat :=
  if d.ibit (aCur m 0) 1 then d.ifld (aCur m 1) 9 0 else d.ifld (aSlot (grpOf m) (slotOf m) 4) 9 0

/-- The effective current code at the present tick, from the registers whether the domain is on or off (R200).
[DEDUCED, log 46] -/
def Dev.ecode (d : Dev) (m : MotorIx) : Nat :=
  let k := match (d.mot m).compOn with | some t => (d.cycles - t) / 40 | none => 0
  max (d.ifld (aCba (grpOf m) 3) 9 0) (d.baseCode m - d.ifld (aCur m 2) 7 0 * k / 16)

/-- Carrier tick of the sample tick of motor m, which may fall in the next carrier period (R94). -/
def Dev.sampleTickAt (d : Dev) (m : MotorIx) : Nat :=
  let x := (d.mot m).car
  let sw : Int := d.iuw (aMot m 6)
  let dl := min (d.iuw (aMot m 0x8C) : Int) (sw - 1)
  ((x.len : Int) - (if x.align then (sw + 1) / 2 else sw) + dl).toNat

/-- The carrier tick of the sample tick around which the phase comparators of motor m are powered at the present tick:
from 100 ticks before it up to the tick after it, which is outside (R207). -/
def Dev.nearSample (d : Dev) (m : MotorIx) : Option Nat :=
  let x := (d.mot m).car
  let c := d.carTick m
  let st := d.sampleTickAt m
  [st, if x.len ≤ st then st - x.len else st, st + x.len].find? (fun t => decide (c ≤ t ∧ t ≤ c + 100))

/-- A phase comparator of motor m is powered at the present tick; sample ticks come only while the timebase runs (R94,
R207). -/
def Dev.phasePowered (d : Dev) (m : MotorIx) : Bool :=
  !d.ibit (aCur m 0) 4 || ((d.grp (grpOf m)).running && (d.nearSample m).isSome)

/-- The current comparator of motor m is powered (R207): until the end of the last on-time, or the carrier start of a
period that holds none. -/
def Dev.currentPowered (d : Dev) (m : MotorIx) : Bool :=
  let x := d.mot m
  let c := d.carTick m
  !d.ibit (aCur m 0) 3 ||
    ((x.state = .run || x.state = .start) &&
      (decide (x.car.len ≤ c + 100) || (x.drives && decide (x.car.onBeg < x.car.onEnd) && decide (c < x.car.onEnd) && !x.car.limited)))

/-- First cycle of the present powered interval of the phase comparators of motor m; 0 in continuous operation (R207). -/
def Dev.phaseFrom (d : Dev) (m : MotorIx) : Nat :=
  if d.ibit (aCur m 0) 4 then (d.mot m).car.start + (d.nearSample m).getD 0 - 100 else 0

/-- First cycle of the present powered interval of the current comparator of motor m; 0 in continuous operation (R207). -/
def Dev.currentFrom (d : Dev) (m : MotorIx) : Nat :=
  let x := (d.mot m).car
  if d.ibit (aCur m 0) 3 then (if x.len ≤ d.carTick m + 100 then x.start + x.len - 100 else x.start - 100) else 0

/-- The output of the current comparator of motor m: low outside the powered interval, and low as one begins (R197, R207). -/
def Dev.curHigh (d : Dev) (m : MotorIx) : Bool :=
  d.bit (aCur m 5) 0 && d.currentPowered m && decide (d.currentFrom m ≤ (d.mot m).clAt)

/-- The output of a phase comparator of motor m: low outside the powered interval, and low as one begins (R197, R207). -/
def Dev.phHigh (d : Dev) (m : MotorIx) (ph : Fin 3) : Bool :=
  d.bit (aCur m 5) (2 + ph.1) && d.phasePowered m && decide (d.phaseFrom m ≤ (d.mot m).phAt)

/-- OUT of motor m takes the outputs as they stand (R207). -/
def Dev.settleOut (d : Dev) (m : MotorIx) : Dev :=
  (d.putB (aCur m 5) 0 (d.curHigh m)).each (List.finRange 3) (fun e ph => e.putB (aCur m 5) (2 + ph.1) (d.phHigh m ph))

/-- CCFG, CTHR, SLOPE and CMPCODE come into force for motor m (R199, R211). -/
def Dev.enforceGlint (d : Dev) (m : MotorIx) : Dev :=
  let a := aSlot (grpOf m) (slotOf m) 4
  ((d.settleOut m).enforce (aCur m 0) (aCur m 3)).enforce a (a + 1)

/-- The output of the comparator that CHK names, before any exchange (R197). -/
def Dev.checkedOut (d : Dev) (ty sel : Nat) : Bool :=
  match ty with
  | 0 => d.curHigh (ix 16 sel (by decide))
  | 1 => d.bit (0x7005 + 8 * sel) 1
  | 2 => d.phHigh (ix 16 (sel / 3) (by decide)) (ix 3 sel (by decide))
  | _ => d.bit (0x7081 + 4 * sel) 1

/-- Live word CHKOUT: the output of the named comparator, inverted by MODE 2 and forced by MODE 3 and 4, and low while
the comparators of its group do not work (R208, R210). [DEDUCED, log 45] -/
def Dev.chkOut (d : Dev) : Word :=
  let w := d.w 0x70A0
  let ty := bits w 7 6
  let sel := bits w 5 0
  if d.part = .otl9616 && d.glintOn (checkGroup ty sel) then
    match bits w 10 8 with
    | 2 => word (!(d.checkedOut ty sel)).toNat
    | 3 => 0
    | 4 => 1
    | _ => word (d.checkedOut ty sel).toNat
  else 0

/-- Live word OUT of motor m (R207, R211). -/
def Dev.curOut (d : Dev) (m : MotorIx) : Word :=
  word ((d.curHigh m).toNat + 2 * (d.bit (aCur m 5) 1).toNat + 4 * (d.phHigh m 0).toNat + 8 * (d.phHigh m 1).toNat +
    16 * (d.phHigh m 2).toNat)

/-! ### Inputs and outputs (R197, R198) -/

/-- The output of a comparator whose input stands at x: it rises above the threshold and falls below the threshold less
the hysteresis (R197). -/
def comparator (out : Bool) (thr hyst x : Int) : Bool := if thr < x then true else if x < thr - hyst then false else out

/-- The current comparator for a shunt voltage in 1/1 000 of 1/1 024 of full scale (R197, R200). [DEDUCED, log 109] -/
def Dev.currentOut (d : Dev) (m : MotorIx) (x : Int) : Bool := comparator (d.bit (aCur m 5) 0) (1000 * d.ecode m) 4000 x

/-- The hard-short comparator; a write of HSTHR acts in the cycle after it commits (R197, R211). [DEDUCED, log 109] -/
def Dev.shortOut (d : Dev) (m : MotorIx) (x : Int) : Bool :=
  comparator (d.bit (aCur m 5) 1) (2000 * bits (d.w0 (aCur m 3)) 9 0) 16000 x.natAbs

/-- The bus comparator for a bus voltage in microvolts; a write of BTHR acts in the cycle after it commits (R197, R211).
[DEDUCED, log 109] -/
def Dev.busOut (d : Dev) (g : GroupIx) (x : Int) : Bool :=
  comparator (d.bit (aBus g 1) 1) (80000 * bits (d.w0 (aBus g 0)) 9 0) 320000 x

/-- Thresholds of the phase comparators of motor m are set at cycle `now` (R95, R198). -/
def Motor.newThr (x : Motor) (now : Nat) (t : Nat × Nat × Nat) : Motor :=
  if t = x.thr then x else { x with thr := t, thrOld := x.thr, thrAt := now }

/-- The thresholds of motor m changed less than 40 ticks ago (R198). -/
def Dev.settling (d : Dev) (m : MotorIx) : Bool := (d.mot m).thrOld ≠ (d.mot m).thr && decide (d.cycles < (d.mot m).thrAt + 40)

/-- One of three values, by phase. -/
def ofPhase {α : Type} (t : α × α × α) (ph : Fin 3) : α := if ph = 0 then t.1 else if ph = 1 then t.2.1 else t.2.2

/-- The code a phase comparator compares with: while a new threshold settles, it may be the old one (R198).
[DESIGN CHOICE, log 110] -/
def Dev.phaseCode (d : Dev) (m : MotorIx) (ph : Fin 3) : Nat :=
  if d.settling m && Config.eitherWay d.free then ofPhase (d.mot m).thrOld ph else ofPhase (d.mot m).thr ph

/-- The code of the DAC that CHK names (R209). -/
def Dev.chkCode (d : Dev) : Int :=
  let w := d.w 0x70A0
  let sel := bits w 5 0
  match bits w 7 6 with
  | 0 => d.ecode (ix 16 sel (by decide))
  | 1 => bits (d.w0 (aCur (ix 16 sel (by decide)) 3)) 9 0
  | 2 => (ofPhase (d.mot (ix 16 (sel / 3) (by decide))).thr (ix 3 sel (by decide)) : Nat)
  | _ => bits (d.w0 (0x7080 + 4 * (sel % 4))) 9 0

/-- The phase comparator of a half-bridge for a terminal voltage in microvolts (R197). -/
def Dev.phaseOut (d : Dev) (m : MotorIx) (ph : Fin 3) (x : Int) : Bool :=
  comparator (d.bit (aCur m 5) (2 + ph.1)) (((d.phaseCode m ph : Int) - 8) * 62500) 250000 x

/-- One phase comparator takes its output, and its latch sets with a high one; under a check the latch holds (R205, R210). -/
def Dev.phaseLevel (d : Dev) (m : MotorIx) (ph : Fin 3) (x : Int) : Dev :=
  let d := d.settleOut m
  let out := d.phaseOut m ph x
  let d := (d.putB (aCur m 5) (2 + ph.1) out).onMot m (fun x => { x with phAt := d.cycles })
  d.when (out && !d.underCheck 2 (bridgeOf m ph).1) (fun d => d.setB (aCur m 4) (2 + ph.1))

/-- The three phase comparators at the sample tick, with their terminal voltages (R94, R205). -/
def Dev.phaseSample (d : Dev) (m : MotorIx) (u v w : Int) : Dev :=
  if d.glintOn (grpOf m) then
    let settling := d.settling m
    let d := ((d.phaseLevel m 0 u).phaseLevel m 1 v).phaseLevel m 2 w
    d.when settling Dev.nextFree
  else d

/-- The current latch of motor m is evaluated at this tick: with a high output inside the comparator on-time it sets, ends
the on-time and counts (R201). -/
def Dev.judgeLimit (d : Dev) (m : MotorIx) : Dev :=
  let x := d.mot m
  if d.runs && d.glintOn (grpOf m) && (x.state = .run || x.state = .start) && x.compOn.isSome && x.lebDone &&
      d.ibit (aCur m 0) 0 && d.curHigh m && !d.bit (aCur m 4) 0 && !d.underCheck 0 m.1 then
    (((d.setB (aCur m 4) 0).inc (aCur m 7)).onMot m (fun x => { x with car := { x.car with limited := true } })).drive m
  else d

/-- The level of ball GLOm (R203). -/
def Dev.glo (d : Dev) (m : MotorIx) : Bool := d.resetN && d.hasMot m && d.domOn (gateDom (grpOf m)) && d.bit (aCur m 4) 0

/-- Every latch and output of the group's comparators clears, and the HSHORT reports end (R208). [DEDUCED, log 44] -/
def Dev.clearGlint (d : Dev) (g : GroupIx) : Dev :=
  let d := { d with reports := d.reports.filter (fun r => grpOf r.motor ≠ g || r.cause ≠ Cause.hshort) }
  let d := d.each (motsOf g) (fun d m =>
    ((d.put (aCur m 4) 0).put (aCur m 5) 0).onMot m (fun x => { x with level := x.level &&& 0b011 }))
  d.put (aBus g 1) 0

/-- The hard-short report follows the latch (R177, R204). -/
def Dev.syncHshort (d : Dev) (m : MotorIx) : Dev :=
  let on := d.bit (aCur m 4) 1
  d.onMot m (fun x => { x with level := (x.level &&& 0b011) ||| (if on then 4 else 0) })

end Sys2Proof.Machine
end

