-- ==== Sys2Proof/Machine/PrismOps.lean ====
section
/-! DEFINITION. Prism converter arrays (chapter 09): the sequencer, urgent requests, the interleaving correction, the
accumulators, the trackers and the coefficient update. -/

namespace Sys2Proof.Machine

open Sys2Proof

/-- The array's domain is on. -/
def Dev.prmOn (d : Dev) (p : GroupIx) : Bool := d.domOn (prismDom p)

/-- The array can convert: its domain is ready and PLL_PRISM is locked (R245, R462). -/
def Dev.prmReady (d : Dev) (p : GroupIx) : Bool := d.prmOn p && d.domRdy (prismDom p) && d.power.prismLock && d.hasGrp p

/-- The sequence of array p is frame-locked: FLOCK and GRP[p].CFG.RUN are 1 and the timebase runs (R225). -/
def Dev.frameLocked (d : Dev) (p : GroupIx) : Bool := d.bit (aPrm p 0) 6 && d.bit (aGrp p 1) 0 && (d.grp p).running

/-- The present frame tick of group g. -/
def Dev.frameTick (d : Dev) (g : GroupIx) : Nat := d.cycles - (d.grp g).frameAt

/-- Ticks of one conversion slot: 100 ns, or 2 µs in low-power mode (R212, R243). -/
def Prism.slotTicks (x : Prism) : Nat := if x.lpAct then 400 else 20

/-- An urgent request waits for array p or has samples to issue (R232). -/
def Prism.hasUrgent (x : Prism) : Bool := x.inUrg.isSome || x.therm.isSome || !x.urg.isEmpty

/-- The slices power down at the start of an idle time of at least 1.6 µs when PDIDLE is 1, but for an urgent request,
which is not interrupted (R230, R233). [DEDUCED, log 53] -/
def Dev.powerDown (d : Dev) (p : GroupIx) (ticks : Nat) : Dev :=
  if d.bit (aPrm p 0) 7 && decide (320 ≤ ticks) && !(d.prm p).hasUrgent then d.onPrm p (fun x => { x with pwr := false }) else d

/-- The sequencer reaches entry i (R224, R225). The fuel bounds the passes over END, which takes no slot. -/
def Dev.reach : Nat → Dev → GroupIx → Nat → Dev
  | 0, d, p, _ => d.onPrm p (fun x => { x with phase := .entry, pos := 0, left := 0 })
  | fuel + 1, d, p, i =>
    let w := if i < 128 then d.w (aPrm p (0x100 + i)) else 3
    let t := d.w (aPrm p (0x180 + i))
    let n := 2 ^ bits w 3 2
    let d1 := d.onPrm p (fun x => { x with pos := min i 127, word := w, seqt := t, left := 0 })
    match bits w 1 0 with
    | 0 => d1.onPrm p (fun x => { x with phase := .entry, left := n })
    | 1 =>
      if d.frameLocked p && decide (d.frameTick p < t.toNat) then
        (d1.onPrm p (fun x => { x with phase := .waitSync })).powerDown p (min t.toNat (d.grp p).period - d.frameTick p)
      else d1.onPrm p (fun x => { x with phase := .entry, left := n })
    | 2 =>
      let k := max 1 t.toNat * (d.prm p).slotTicks
      (d1.onPrm p (fun x => { x with phase := .idle (d.cycles + k) })).powerDown p k
    | _ =>
      if d.frameLocked p then
        (d1.onPrm p (fun x => { x with phase := .waitFrame })).powerDown p ((d.grp p).period - d.frameTick p)
      else
        Dev.reach fuel (d.onPrm p (fun x => { x with lpAct := d.bit (aPrm p 0) 4 })) p 0

/-- The sequence restarts at entry 0, which the next slot reaches; a change of LP takes effect (R226, R227, R244). -/
def Dev.restartSeq (d : Dev) (p : GroupIx) : Dev :=
  d.onPrm p (fun x => { x with
    lpAct := d.bit (aPrm p 0) 4, firstFrame := false, pwr := true, phase := .entry, pos := 0, left := 0 })

/-- The entry in progress has issued its samples: stop if RUN was written 0; an END of a frame-locked sequence is reached
at once, since it takes no slot, and its idle time begins when the slot of the last sample is over; else the next slot
reaches the next entry (R225, R227, R228, R230). [DEDUCED, log 52] -/
def Dev.nextEntry (d : Dev) (p : GroupIx) : Dev :=
  let x := d.prm p
  let i := x.pos + 1
  if x.stopReq then d.onPrm p (fun x => { x with phase := .stopped, stopReq := false, left := 0 })
  else if d.frameLocked p && (decide (128 ≤ i) || d.fld (aPrm p (0x100 + i)) 1 0 = 3) then
    (d.onPrm p (fun x => { x with
      pos := min i 127, word := if i < 128 then d.w (aPrm p (0x100 + i)) else 3, seqt := d.w (aPrm p (0x180 + i)), left := 0
      phase := .waitFrame })).powerDown p ((d.grp p).period - (d.frameTick p + x.slotTicks))
  else d.onPrm p (fun x => { x with phase := .entry, pos := i, left := 0 })

/-- The sequence starts, or waits for its first frame start (R228). -/
def Dev.startSeq (d : Dev) (p : GroupIx) : Dev :=
  if d.frameLocked p then
    d.onPrm p (fun x => { x with
      phase := .waitStart, pos := 0, left := 0, firstFrame := true, stopReq := false, pwr := true })
  else d.onPrm p (fun x => { x with stopReq := false }) |>.restartSeq p

/-- A conversion is issued in the present slot: its slice samples, and the interval counts move; only entries of the
sequence feed the estimators (R212, R219, R220). [DEDUCED, log 54] -/
def Dev.issue (d : Dev) (p : GroupIx) (ch acc : Nat) (seqEntry : Bool) (samples : Nat) : Dev :=
  d.onPrm p (fun x =>
    let s : Fin 4 := if x.lpAct then 0 else ⟨x.slice % 4, Nat.mod_lt _ (by decide)⟩
    { x with
      flight := x.flight ++ [{ slice := s.1, ch := ch, acc := acc }]
      conv := x.conv + 1
      refz := if ch = 63 && seqEntry && !x.calHigh then upd x.refz s (· + 1) else x.refz
      refh := if ch = 63 && seqEntry && x.calHigh then upd x.refh s (· + 1) else x.refh
      skew := if seqEntry && ch ≠ 63 && decide (2 ≤ samples) && !x.lpAct then upd x.skew s (· + 1) else x.skew
      slice := (x.slice + 1) % 4 })

/-- An urgent request waits: the thermal one first, then the master requests in order (R232). -/
def Prism.nextUrgent (x : Prism) : Option (Urgent × Prism) :=
  match x.therm, x.urg with
  | some t, _ => some (t, { x with therm := none })
  | none, u :: us => some (u, { x with urg := us })
  | none, [] => none

/-- One conversion slot of array p: an urgent request, else the entry in progress, whose words are taken when a slot first
reaches it (R212, R224, R229, R233). -/
def Dev.slot (d : Dev) (p : GroupIx) : Dev :=
  let x := d.prm p
  if !d.prmReady p || !x.pwr then d
  else
    let d := match x.inUrg, x.nextUrgent with
      | none, some (u, y) => d.onPrm p (fun _ => { y with inUrg := some u })
      | _, _ => d
    match (d.prm p).inUrg with
    | some u =>
      let d := d.issue p u.ch u.acc false 1
      d.onPrm p (fun x => { x with inUrg := if u.left ≤ 1 then none else some { u with left := u.left - 1 } })
    | none =>
      let d := if (d.prm p).phase = .entry && (d.prm p).left = 0 then Dev.reach 2 d p (d.prm p).pos else d
      let x := d.prm p
      if x.phase = .entry && decide (0 < x.left) then
        let ch := bits x.word 15 10
        let n := 2 ^ bits x.word 3 2
        let d := if ch = 63 && x.left = n then d.onPrm p (fun x => { x with calHigh := !x.calHigh }) else d
        let d := d.issue p ch (bits x.word 9 4) true n
        let d := d.onPrm p (fun x => { x with left := x.left - 1 })
        if x.left = 1 then d.nextEntry p else d
      else d.onPrm p (fun x => { x with slice := if x.pwr then (x.slice + 1) % 4 else x.slice })

/-! ### Correction (R215 to R218) -/

/-- Channels whose codes are signed (R215). -/
def signedCh (ch : Nat) : Bool := (16 ≤ ch && ch ≤ 19) || ch = 37 || ch = 38 || ch = 40 || ch = 41

/-- Reserved channels convert as 0 (R215). -/
def reservedCh (ch : Nat) : Bool := (24 ≤ ch && ch ≤ 31) || (42 ≤ ch && ch ≤ 62)

/-- GDAC reads a DAC only while CHK.MODE is 1 and names a comparator of this group (R217). -/
def Dev.gdacLive (d : Dev) (p : GroupIx) : Bool :=
  let w := d.w 0x70A0
  let sel := bits w 5 0
  bits w 10 8 = 1 && (match bits w 7 6 with | 2 => sel / 12 = p.1 | 3 => sel = p.1 | _ => sel / 4 = p.1)

/-- The corrected code of a raw code of slice s on a channel (R218). The board and the DAC keep a readback within 256 of
64 times the code of the DAC that CHK names (R209). -/
def Dev.correct (d : Dev) (p : GroupIx) (s ch : Nat) (raw : Word) : Int :=
  if reservedCh ch || (ch = 39 && !d.gdacLive p) then 0
  else
    let x : Int := if signedCh ch then raw.toInt else raw.toNat
    let y := ((16 * x - d.sw (aPrm p (0x10 + 4 * s))) * d.uw (aPrm p (0x11 + 4 * s))) / 2 ^ 19
    let y := if ch = 39 then clampInt (64 * d.chkCode - 256) (64 * d.chkCode + 256) y else y
    if signedCh ch then clampInt (-32768) 32767 y else clampInt 0 65535 y

/-! ### Accumulators (R235 to R240) -/

/-- Accumulator a of array p. -/
def Dev.acc (d : Dev) (p : GroupIx) (a : Fin 64) : Acc := (d.prm p).acc[a]

/-- Change accumulator a of array p. -/
def Dev.onAcc (d : Dev) (p : GroupIx) (a : Fin 64) (f : Acc → Acc) : Dev :=
  d.onPrm p (fun x => { x with acc := upd x.acc a f })

/-- N of a count (R235). -/
def Acc.total (c : Acc) : Nat := max 1 (bits c.cfg 7 0) + 1

/-- The trackers that watch accumulator a. -/
def Dev.watchers (d : Dev) (p : GroupIx) (a : Fin 64) : List (Fin 32) :=
  (List.finRange 32).filter (fun t => let k := (d.prm p).trk[t]; bitOf k.cfg 7 && bits k.cfg 5 0 = a.1)

/-- A new count begins with the stored CFG and CPT; it is a FRAME count while CFG.FRAME is 1 and the group runs
(R237, R248). The windowed trackers of the accumulator begin with it (R242). -/
def Dev.newCount (d : Dev) (p : GroupIx) (a : Fin 64) : Dev :=
  let cfg := d.w (aAcc p a 0)
  let d := d.onAcc p a (fun c => { c with
    cfg := cfg, cpt := d.w (aAcc p a 1), sum := 0, n := 0, frame := bitOf cfg 15 && (d.grp p).running, waits := false })
  d.each ((d.watchers p a).filter (fun t => bitOf ((d.prm p).trk[t]).cfg 6)) (fun d t =>
    d.onPrm p (fun x => { x with trk := upd x.trk t (fun k => { cfg := k.cfg }) }))

/-- The close point of a FRAME count (R238). -/
def Dev.closePoint (d : Dev) (p : GroupIx) (c : Acc) : Nat := min c.cpt.toNat ((d.grp p).period - 1)

/-- Value of a count at its close, and whether it was limited (R236). -/
def Acc.value (c : Acc) : Int × Bool :=
  let sh := min 8 (bits c.cfg 11 8)
  let v := c.sum / 2 ^ sh
  let w := if bitOf c.cfg 14 then satWord v else clampInt 0 65535 v
  (w, w != v)

/-- The motor reads accumulator a of its array (R22): IACC where its current regulator runs (R108, R111, R125). -/
def Dev.readsAcc (d : Dev) (m : MotorIx) (a : Nat) : Bool :=
  (d.currentRuns m && d.ifld (aMot m 0x109) 5 0 = a) ||
  (d.ibit (aMot m 0x100) 6 && d.ifld (aMot m 0x140) 5 0 = a) ||
  (d.ibit (aMot m 0x100) 5 && d.ifld (aMot m 0x40) 1 0 = 1 && d.ifld (aMot m 0x40) 7 2 = a)

/-- A tracker restarts with its stored configuration (R242). -/
def Dev.restartTrk (d : Dev) (p : GroupIx) (t : Fin 32) : Dev :=
  let cfg := d.w (aTrk p t 0)
  let d := ((d.put (aTrk p t 1) 0).put (aTrk p t 2) 0).put (aTrk p t 3) 0
  d.onPrm p (fun x => { x with trk := upd x.trk t (fun _ => { cfg := cfg }) })

/-- A tracker shows its running extremes. -/
def Dev.showTrk (d : Dev) (p : GroupIx) (t : Fin 32) : Dev :=
  let k := (d.prm p).trk[t]
  ((d.put (aTrk p t 1) (iword k.lo)).put (aTrk p t 2) (iword k.hi)).put (aTrk p t 3) (if k.seen then 1 else 0)

/-- The trackers watch a sample that accumulator a takes into a count (R241). -/
def Dev.watch (d : Dev) (p : GroupIx) (a : Fin 64) (y : Int) : Dev :=
  d.each (d.watchers p a) (fun d t =>
    let d := d.onPrm p (fun x => { x with trk := upd x.trk t (fun k =>
      if k.seen then { k with lo := min k.lo y, hi := max k.hi y } else { k with lo := y, hi := y, seen := true }) })
    if bitOf ((d.prm p).trk[t]).cfg 6 then d else d.showTrk p t)

/-- The count of accumulator a closes: VAL and STAT take it, and windowed trackers take its extremes (R236, R240,
R242). What reads the value is done by `Dev.closed`. -/
def Dev.closeCount (d : Dev) (p : GroupIx) (a : Fin 64) (late : Bool) : Dev :=
  let c := d.acc p a
  let (v, sat) := c.value
  let cnt := (d.fld (aAcc p a 3) 15 8 + 1) % 256
  let d := d.put (aAcc p a 2) (iword v)
  let d := d.put (aAcc p a 3) (word (cnt * 256 + c.xs.toNat * 8 + late.toNat * 4 + sat.toNat * 2 + 1))
  let d := if sat && bitOf c.cfg 13 then d.cause (aPrm p 2) 4 (20 + p.1) else d
  let d := if late then
      d.each (motsOf p) (fun d m => d.when (d.readsAcc m a.1) (fun d => d.setB (aGrp p 4) (slotOf m).1))
    else d
  let d := d.each ((d.watchers p a).filter (fun t => bitOf ((d.prm p).trk[t]).cfg 6)) (fun d t =>
    let d := d.showTrk p t
    d.onPrm p (fun x => { x with trk := upd x.trk t (fun k => { cfg := d.w (aTrk p t 0) }) }))
  let d := d.onAcc p a (fun c => { c with xs := false })
  if c.frame then d.onAcc p a (fun c => { c with closed := true }) else d.newCount p a

/-- How a sample leaves an accumulator. -/
inductive Entered where
  | counted | closeNow | closeLate
  deriving DecidableEq, Repr

/-- A corrected sample reaches accumulator a (R235 to R239): the state, and whether the count closes now. -/
def Dev.accEnter (d : Dev) (p : GroupIx) (a : Fin 64) (y : Int) : Dev × Entered :=
  let c := d.acc p a
  if c.waits && bitOf c.cfg 15 && (d.grp p).running then (d, .counted)
  else if c.frame && (c.closed || c.total ≤ c.n) then
    (if c.closed then d.putB (aAcc p a 3) 3 true else d.onAcc p a (fun c => { c with xs := true }), .counted)
  else
    let y := if bitOf c.cfg 14 then (iword y).toInt else ((iword y).toNat : Int)
    let d := d.onAcc p a (fun c => { c with sum := c.sum + y, n := c.n + 1 })
    let d := d.watch p a y
    if c.n + 1 < c.total then (d, .counted)
    else if c.frame then
      if d.frameTick p < d.closePoint p c then (d, .counted)
      else if d.frameTick p = d.closePoint p c then (d, .closeNow)
      else (d, .closeLate)
    else (d, .closeNow)

/-- Every count with fewer than N samples, and every conversion in flight, is discarded (R245, R246, R514).
[DEDUCED, log 57] -/
def Dev.discardPartial (d : Dev) (p : GroupIx) : Dev :=
  let d := d.onPrm p (fun x => { x with flight := [] })
  d.each (List.finRange 64) (fun d a =>
    let c := d.acc p a
    if c.n < c.total && !c.closed && !(c.waits && bitOf c.cfg 15 && (d.grp p).running) then d.newCount p a else d)

/-- Every tracker of the array restarts. -/
def Dev.restartTrks (d : Dev) (p : GroupIx) : Dev := d.each (List.finRange 32) (fun d t => d.restartTrk p t)

/-- The sequence restarts after a fault or a return of lock: at once, or at the next frame start when frame-locked
(R245, R246); with RUN at 0 it stays stopped. [DEDUCED, log 52] -/
def Dev.resumeSeq (d : Dev) (p : GroupIx) : Dev :=
  if d.bit (aPrm p 0) 0 then d.startSeq p
  else d.onPrm p (fun x => { x with phase := .stopped, stopReq := false, left := 0 })

/-- A FRAME accumulator judged at a frame start (R29, R239): a count that has not closed is a miss for the slots that
read it. [DEDUCED, log 57] -/
def Dev.judgeAcc (d : Dev) (p : GroupIx) (a : Fin 64) : Dev :=
  let c := d.acc p a
  if c.frame && !c.closed && !c.waits then
    let d := (d.cause (aPrm p 2) 1 (20 + p.1)).inc (aPrm p 4)
    d.each (motsOf p) (fun d m => d.when (d.readsAcc m a.1) (fun d => d.setB (aGrp p 4) (12 + (slotOf m).1)))
  else d

/-- The accumulators of array p at a frame start: misses, then new counts of FRAME accumulators (R237 to R239). -/
def Dev.accFrame (d : Dev) (p : GroupIx) (ended : Bool) : Dev :=
  if !(d.prmOn p && d.domRdy (prismDom p)) then d
  else
    d.each (List.finRange 64) (fun d a =>
      let d := d.when ended (fun d => d.judgeAcc p a)
      let c := d.acc p a
      let frameCfg := bitOf (d.w (aAcc p a 0)) 15
      if c.frame || c.waits || (frameCfg && (d.grp p).running && !ended) then
        (d.newCount p a).onAcc p a (fun c => { c with closed := false, xs := false })
      else d)

/-- The sequencer of array p at a frame start of its group (R225, R227). [DEDUCED, log 52] -/
def Dev.seqFrame (d : Dev) (p : GroupIx) : Dev :=
  let x := d.prm p
  if d.prmReady p && d.frameLocked p && d.bit (aPrm p 0) 0 then
    let d := if x.phase = .waitFrame || x.phase = .waitStart || x.phase = .stopped || x.firstFrame then d
      else (d.cause (aPrm p 2) 2 (20 + p.1)).inc (aPrm p 3)
    d.restartSeq p
  else d

/-! ### Coefficients (R219 to R222) -/

/-- The slices in use. -/
def Prism.slices (x : Prism) : List (Fin 4) := if x.lpAct then [0] else List.finRange 4

/-- A coefficient moved and held in its range; the second part says that it was held. -/
def held (lo hi v : Int) : Int × Bool := (clampInt lo hi v, clampInt lo hi v != v)

/-- The coefficients of a slice move toward their estimates (R220). [DESIGN CHOICE, log 10] -/
def Dev.updateSlice (d : Dev) (p : GroupIx) (s : Fin 4) (og : Bool) : Dev × Bool :=
  let x := d.prm p
  let (eo, eg, es) := Config.estimate d.free
  let d := d.nextFree
  let o := held (-32768) 32767 (d.sw (aPrm p (0x10 + 4 * s.1)) + truncDiv eo 4)
  let g := held 0x7800 0x87FF ((d.uw (aPrm p (0x11 + 4 * s.1)) : Int) + truncDiv eg 4)
  let sk0 : Int := (BitVec.ofNat 10 (d.uw (aPrm p (0x12 + 4 * s.1)))).toInt
  let k := held (-512) 511 (if sk0 < es then sk0 + 1 else if es < sk0 then sk0 - 1 else sk0)
  let doSkew := !x.lpAct && decide (256 ≤ x.skew[s])
  let d := if og then (d.put (aPrm p (0x10 + 4 * s.1)) (iword o.1)).put (aPrm p (0x11 + 4 * s.1)) (iword g.1) else d
  let d := if doSkew then d.put (aPrm p (0x12 + 4 * s.1)) (iword k.1 &&& 0x3FF) else d
  (d, (og && (o.2 || g.2)) || (doSkew && k.2))

/-- A working coefficient of array p stands at a limit of its range (R218, R220). -/
def Dev.coefAtLimit (d : Dev) (p : GroupIx) : Bool :=
  (List.range 4).any (fun s =>
    d.w (aPrm p (0x10 + 4 * s)) = 0x8000 || d.w (aPrm p (0x10 + 4 * s)) = 0x7FFF ||
    d.w (aPrm p (0x11 + 4 * s)) = 0x7800 || d.w (aPrm p (0x11 + 4 * s)) = 0x87FF ||
    d.w (aPrm p (0x12 + 4 * s)) = 0x0200 || d.w (aPrm p (0x12 + 4 * s)) = 0x01FF)

/-- The coefficient update of array p after 4 096 conversions (R220, R221). LIMIT stays set while a coefficient stands at
its limit. [DEDUCED, log 54] -/
def Dev.coefUpdate (d : Dev) (p : GroupIx) : Dev :=
  let x := d.prm p
  let enough := x.slices.all (fun s => decide (16 ≤ x.refz[s] ∧ 16 ≤ x.refh[s]))
  let frozen := d.bit (aPrm p 0) 5
  let (d, lim) := if frozen then (d, false)
    else x.slices.foldl (fun (acc : Dev × Bool) s =>
      let (d, l) := acc.1.updateSlice p s enough
      (d, acc.2 || l)) (d, false)
  let d := d.put (aPrm p 7) (d.w (aPrm p 7) + 1)
  let d := d.put (aPrm p 8) (word ((!enough).toNat * 2 + (lim || (d.bit (aPrm p 8) 0 && d.coefAtLimit p)).toNat))
  let d := if lim then d.cause (aPrm p 2) 0x10 (20 + p.1) else d
  d.onPrm p (fun x => { x with
    conv := x.conv - 4096, refz := Vector.replicate 4 0, refh := Vector.replicate 4 0, skew := Vector.replicate 4 0 })

/-- The factory coefficients become the working ones (R222). [DESIGN CHOICE, log 4; DEDUCED, log 54] -/
def Dev.loadCoefs (d : Dev) : Dev :=
  d.each ((List.finRange 4).flatMap (fun p => (List.finRange 4).map (fun s => (p, s)))) (fun d ps =>
    let p : GroupIx := ps.1
    let s : Fin 4 := ps.2
    let (o, g, k) := d.fuses.fcoef.getD (4 * p.1 + s.1) (0, 0x8000, 0)
    if d.hasGrp p then
      ((d.put (aPrm p (0x10 + 4 * s.1)) o).put (aPrm p (0x11 + 4 * s.1)) g).put (aPrm p (0x12 + 4 * s.1)) (k.setWidth 16)
    else d)

/-- Master urgent requests waiting or in progress (R232). -/
def Prism.pendCount (x : Prism) : Nat :=
  x.urg.length + (match x.inUrg with | some u => if u.thermal.isNone then 1 else 0 | none => 0)

/-- A master's urgent request (R232): queued, or refused with UOVF when four are pending. -/
def Dev.urgent (d : Dev) (p : GroupIx) (v : Word) : Dev :=
  if !d.prmOn p then d
  else if 4 ≤ (d.prm p).pendCount then d.cause (aPrm p 2) 8 (20 + p.1)
  else d.onPrm p (fun x => { x with
    urg := x.urg ++ [{ ch := bits v 15 10, acc := bits v 9 4, left := 2 ^ bits v 3 2 }], pwr := true })

/-- Live word PRISM[p].STAT (R248). -/
def Dev.prmStat (d : Dev) (p : GroupIx) : Word :=
  let x := d.prm p
  let idle := match x.phase with | .waitFrame | .waitSync | .idle _ => true | _ => false
  if d.prmOn p then
    word (x.lpAct.toNat * 0x1000 + d.power.prismLock.toNat * 0x800 + x.pwr.toNat * 0x400 + idle.toNat * 0x200 +
      x.inUrg.isSome.toNat * 0x100 + x.pos % 128)
  else 0

/-- Closes of array p that nothing has read yet are gone. -/
def Dev.dropLate (d : Dev) (p : GroupIx) : Dev := { d with closeLate := d.closeLate.filter (fun c => c.1 ≠ p) }

/-- The live state of array p is reinitialised, as when its domain is switched on; a close that nothing has read yet is
gone with it (R45, R222, R240, R242). [DEDUCED, log 55] -/
def Dev.initPrism (d : Dev) (p : GroupIx) : Dev :=
  let d := (d.dropLate p).onPrm p (fun _ => {})
  let d := d.each (List.finRange 64) (fun d a =>
    ((d.put (aAcc p a 2) 0).put (aAcc p a 3) 0).onAcc p a (fun c => { c with
      cfg := d.w (aAcc p a 0), cpt := d.w (aAcc p a 1), waits := bitOf (d.w (aAcc p a 0)) 15 }))
  d.restartTrks p

end Sys2Proof.Machine
end

