-- ==== Sys2Proof/Machine/Feedback.lean ====
section
/-! DEFINITION. Position and speed feedback (chapter 10): counting, the speed from edge intervals, glitches, the
absolute word with its fallback, and the distance output. -/

namespace Sys2Proof.Machine

open Sys2Proof

/-- Set a cause of channel f and raise its source (R274). -/
def Dev.fbCause (d : Dev) (f : ChanIx) (bit : Nat) : Dev := d.cause (aFb f 9) (1#16 <<< bit) (36 + f.1 / 8)

/-- STAT.FALLBK: the channel is in the fallback. -/
def Dev.inFallback (d : Dev) (f : ChanIx) : Bool := d.bit (aFb f 8) 3

/-- POS. -/
def Dev.pos (d : Dev) (f : ChanIx) : BitVec 32 := d.w32 (aFb f 2)

/-- SPD as a signed number. -/
def Dev.spd (d : Dev) (f : ChanIx) : Int := (d.w32 (aFb f 6)).toInt

/-- Store SPD, saturated at plus and minus 2^31 - 1 (R257). -/
def Dev.putSpd (d : Dev) (f : ChanIx) (v : Int) : Dev :=
  d.put32 (aFb f 6) (BitVec.ofInt 32 (clampInt (-2147483647) 2147483647 v))

/-- SPDV. -/
def Dev.putSpdv (d : Dev) (f : ChanIx) (b : Bool) : Dev := d.putB (aFb f 8) 0 b

/-- The history and the validity of the speed are lost (R259). -/
def Dev.dropSpeed (d : Dev) (f : ChanIx) : Dev :=
  ((d.putSpd f 0).putSpdv f false).onFb f (fun x => { x with hist := [], edges := 0, lastIv := 0 })

/-! ### Distance output (R272, R273) -/

/-- Pulse width in cycles; a written 0 acts as 1. -/
def Dev.distWidth (d : Dev) : Nat := 200 * max 1 (d.fld 0xA308 7 0)

/-- A pulse begins: DCNT counts it. [DEDUCED, log 61] -/
def Dev.distPulse (d : Dev) : Dev :=
  let d := d.put32 0xA30B (d.w32 0xA30B + 1)
  { d with dist := { d.dist with high := true, gap := false, dueAt := d.cycles + d.distWidth } }

/-- `n` pulses fall due: each begins, waits in the backlog, or is lost (R273). -/
def Dev.distDue (d : Dev) (n : Nat) : Dev :=
  if n = 0 then d
  else
    let idle := !d.dist.high && !d.dist.gap
    let d := if idle then d.distPulse else d
    let left := if idle then n - 1 else n
    let room := 255 - d.fld 0xA30D 7 0
    let lost := left - room
    let d := d.putF 0xA30D 7 0 (d.fld 0xA30D 7 0 + min left room)
    if lost = 0 then d
    else
      (((d.addSat 0xA30E 15 0 lost).put32 0xA310 (d.w32 0xA310 + BitVec.ofNat 32 lost)).orW 0xA30F 1).raiseN 39 lost

/-- The count of channel f changes by n units, whatever the sign. -/
def Dev.distUnits (d : Dev) (f : ChanIx) (n : Nat) : Dev :=
  let s := d.fld 0xA308 12 8
  if d.bit 0xA308 15 && (if 24 ≤ s then 0 else s) = f.1 then
    let t := d.dist.acc.toNat + n * (d.w32 0xA309).toNat
    let d := { d with dist := { d.dist with acc := BitVec.ofNat 32 t } }
    d.distDue (t / 2 ^ 32)
  else d

/-! ### Counting (R253 to R260) -/

/-- The number of intervals K of KAVG. -/
def Dev.kavg (d : Dev) (f : ChanIx) : Nat := 2 ^ d.fld (aFb f 0) 5 4

/-- The configuration of channel f comes into force at a counted edge; that of the absolute word not during a transfer
(R275). [DEDUCED, log 60] -/
def Dev.enforceFb (d : Dev) (f : ChanIx) : Dev :=
  (d.enforce (aFb f 0) (aFb f 2)).when (d.fb f).busy.isNone (fun d => d.enforce (aFb f 0x10) (aFb f 0x16))

/-- A counted edge of a sign: the count, the distance output and the speed (R253, R255, R257, R259, R260). An edge of the
latch tick itself is not after it (R265). -/
def Dev.countEdge (d : Dev) (f : ChanIx) (neg : Bool) : Dev :=
  let d := d.enforceFb f
  let step : BitVec 32 := if neg then -1 else 1
  let d := (d.put32 (aFb f 2) (d.pos f + step)).onFb f (fun x => { x with
    moved := if x.latchAt = d.cycles then x.moved else x.moved + step
    stepAt := d.cycles, step := (if x.stepAt = d.cycles then x.step else 0) + step })
  let d := d.distUnits f 1
  let x := d.fb f
  let now := d.cycles
  let edges := min 2 (x.edges + 1)
  let iv := match x.hist with | t :: _ => now - t | [] => 0
  let rev := !x.hist.isEmpty && x.lastNeg != some neg
  let hist := if rev then [now] else (now :: x.hist).take (d.kavg f + 1)
  let d := (d.putB (aFb f 8) 1 neg).putB (aFb f 8) 2 false
  let d := d.onFb f (fun x => { x with hist := hist, edges := edges, lastNeg := some neg, lastAt := some now, lastIv := iv })
  if rev then d.putSpd f 0
  else if edges < 2 then d
  else
    let t := now - hist.getLastD now
    let v : Int := recip ((hist.length - 1) * 3200000000) (max 1 t)
    (d.putSpd f (if neg then -v else v)).putSpdv f true

/-- MODE of channel f; a write of it acts in the cycle after it commits (R275). -/
def Dev.fbMode (d : Dev) (f : ChanIx) : Nat := bits (d.w0 (aFb f 0)) 1 0

/-- A filtered rising edge, or a coincident pair, on the pulse balls of channel f (R253, R254). -/
def Dev.feedbackEdge (d : Dev) (f : ChanIx) (ball : Ball) (bHigh : Bool) : Dev :=
  let dir := d.bit (aFb f 0) 2
  if d.inFallback f then d
  else
    match d.fbMode f, ball with
    | 1, .a | 1, .both => d.countEdge f (!bHigh != dir)
    | 2, .a => d.countEdge f dir
    | 2, .b => d.countEdge f (!dir)
    | 2, .both => (d.inc (aFb f 0xB)).fbCause f 1
    | 3, .a | 3, .both => d.countEdge f dir
    | _, _ => d

/-- The decay of SPD at a microsecond of TIME (R260). -/
def Dev.speedDecay (d : Dev) (f : ChanIx) : Dev :=
  let x := d.fb f
  match x.hist with
  | t :: _ =>
    let e := d.cycles - t
    if d.cycles % 200 = 0 && !d.inFallback f && 0 < x.lastIv && x.lastIv < e then
      d.putSpd f (clampInt (-((3200000000 / e : Nat) : Int)) (3200000000 / e : Nat) (d.spd f))
    else d
  | [] => d

/-- The history keeps only its last edge (R260). [DEDUCED, log 59] -/
def Fb.lastEdgeOnly (x : Fb) : Fb := { x with hist := x.hist.take 1 }

/-- ZTO ms pass without a counted edge (R260). [DEDUCED, log 59] -/
def Dev.zeroSpeed (d : Dev) (f : ChanIx) : Dev :=
  match (d.fb f).lastAt with
  | some t =>
    if !d.inFallback f && !d.bit (aFb f 8) 2 && max 1 (d.ifld (aFb f 1) 7 0) * 200000 ≤ d.cycles - t then
      ((d.putSpd f 0).putB (aFb f 8) 2 true).onFb f Fb.lastEdgeOnly
    else d
  | none => d

/-- A host write of CMD.SEED; an edge counted in the same tick is added to the seed (R256). -/
def Dev.seedPos (d : Dev) (f : ChanIx) : Dev :=
  let x := d.fb f
  d.put32 (aFb f 2) (d.w32 (aFb f 0xE) + (if x.stepAt = d.cycles then x.step else 0))

/-! ### Fallback and the absolute word (R262 to R271) -/

/-- The channel enters the fallback, with the word of a check or none (R268). [DEDUCED, log 60] -/
def Dev.enterFallback (d : Dev) (f : ChanIx) (w : Option (BitVec 32)) : Dev :=
  let d := match w with
    | some c => d.put32 (aFb f 2) (c + (d.fb f).moved)
    | none => d
  let d := ((d.dropSpeed f).putB (aFb f 8) 3 true).fbCause f 5
  let d := d.onFb f (fun x => { x with
    w1 := w.map (fun c => (c, x.latchAt)), w2 := none, distFrom := w.map (fun c => c + x.moved)
    good := 0, fails := 0, lost := false, leaveDue := false })
  if h : f.1 < 16 then d.motCause ⟨f.1, h⟩ 7 else d

/-- Fallback is enabled for the channel. -/
def Dev.fbEnabled (d : Dev) (f : ChanIx) : Bool := decide (f.1 < 16) && d.ibit (aFb f 0) 6

/-- A glitch on a ball of channel f, whatever its MODE (R252, R262); in the fallback the balls are ignored (R268).
[DEDUCED, log 58] -/
def Dev.glitch (d : Dev) (f : ChanIx) : Dev :=
  if d.inFallback f then d
  else
    let win := d.time.toNat / 10000
    let x := d.fb f
    let n := if x.glWin = win then x.glCnt + 1 else 1
    let d := (d.inc (aFb f 0xA)).onFb f (fun x => { x with glWin := win, glCnt := n })
    let most := d.ifld (aFb f 1) 15 8
    if most ≠ 0 ∧ n = most then
      let d := d.fbCause f 0
      if d.fbEnabled f then d.enterFallback f none else d
    else d

/-- The frame-start copy of channel f (R261, R269, R270). -/
def Dev.fbCopy (d : Dev) (f : ChanIx) : Dev :=
  let x := d.fb f
  let p : BitVec 32 :=
    if d.inFallback f then
      match x.w1, x.w2 with
      | some (c, t), some (c2, t2) =>
        if x.lost then c
        else c + BitVec.ofInt 32 (recipInt ((c - c2).toInt * (d.cycles - t : Nat)) (max 1 (t - t2)))
      | some (c, _), none => c
      | none, _ => d.pos f
    else d.pos f
  let d := (d.put32 (aFb f 4) p).put32 (aFb f 0x19) (d.w32 (aFb f 6))
  d.onFb f (fun x => { x with fspdv := d.bit (aFb f 8) 0 })

/-- The copy made at a microsecond of TIME while the group's RUN bit is 0 (R261). -/
def Dev.fbCopyStopped (d : Dev) (f : ChanIx) : Dev :=
  let d := (d.put32 (aFb f 4) (d.pos f)).put32 (aFb f 0x19) (d.w32 (aFb f 6))
  d.onFb f (fun x => { x with fspdv := d.bit (aFb f 8) 0 })

/-- A transfer starts with its latch tick now, when one is due and the recovery time has passed (R263, R266 to R271). -/
def Dev.absStart (d : Dev) (f : ChanIx) : Dev :=
  let x := d.fb f
  let use : Option AbsUse :=
    if d.inFallback f then (if x.leaveDue then some .leave else some .fallback)
    else if x.initDue then some .seed
    else if x.checkDue || x.periodDue then some .check
    else none
  let rested := match x.doneAt with
    | some t => decide (t + 200 * d.ifld (aFb f 0x12) 15 8 ≤ d.cycles)
    | none => true
  match use with
  | some u =>
    if x.busy.isNone && rested then
      let d := ((d.enforce (aFb f 0) (aFb f 2)).enforce (aFb f 0x10) (aFb f 0x16)).putB (aFb f 8) 4 true
      d.onFb f (fun x => { x with
        busy := some u, latchAt := d.cycles, latchPos := d.pos f, moved := 0
        checkDue := x.checkDue && u ≠ .check, periodDue := x.periodDue && u ≠ .check, leaveDue := x.leaveDue && u ≠ .leave })
    else d
  | none => d

/-- Data bits of a transfer (R263). -/
def Dev.absLen (d : Dev) (f : ChanIx) : Nat := clampNat 8 32 (d.ifld (aFb f 0x10) 13 8)

/-- Ticks from the latch tick to the end of a transfer (R263). -/
def Dev.absTicks (d : Dev) (f : ChanIx) : Nat :=
  (2 * d.absLen f + 1) * clampNat 25 1000 (d.iuw (aFb f 0x11)) + d.ifld (aFb f 0x10) 7 0

/-- Number of ones among the low `n` bits. -/
def ones (w : BitVec 32) (n : Nat) : Nat := ((List.range n).filter (fun i => w.getLsbD i)).length

/-- A failed transfer of the fallback (R270). -/
def Dev.fallbackFail (d : Dev) (f : ChanIx) : Dev :=
  let n := min 4 ((d.fb f).fails + 1)
  let d := d.onFb f (fun x => { x with fails := n })
  if n = 3 then
    ((d.fbCause f 6).putSpdv f false).onFb f (fun x => { x with lost := true, good := 0 })
  else d

/-- The word difference of a good word in the fallback reaches the distance output (R272). [DEDUCED, log 60] -/
def Dev.wordDiff (d : Dev) (f : ChanIx) (c : BitVec 32) : Dev :=
  let d := match (d.fb f).distFrom with
    | some p => d.distUnits f (c - p).toInt.natAbs
    | none => d
  d.onFb f (fun x => { x with distFrom := some c })

/-- A good word of the fallback (R269, R270). [DEDUCED, log 60] -/
def Dev.fallbackWord (d : Dev) (f : ChanIx) (c : BitVec 32) : Dev :=
  let good := min 2 ((d.fb f).good + 1)
  let d := d.wordDiff f c
  let d := (d.put32 (aFb f 2) c).onFb f (fun x => { x with
    w2 := x.w1, w1 := some (c, x.latchAt), good := good, fails := 0, lost := x.lost && decide (good < 2) })
  let x := d.fb f
  match x.w1, x.w2 with
  | some (c, t), some (p, tp) =>
    if 2 ≤ good then (d.putSpd f (recipInt ((c - p).toInt * 3200000000) (max 1 (t - tp)))).putSpdv f true
    else d
  | _, _ => d

/-- A transfer ends (R263 to R271). -/
def Dev.absComplete (d : Dev) (f : ChanIx) (ready : Bool) (word : BitVec 32) (parity : Bool) : Dev :=
  match (d.fb f).busy with
  | none => d
  | some u0 =>
    let u := if d.inFallback f && u0 ≠ .leave then .fallback else u0
    if ready && decide (d.cycles < (d.fb f).latchAt + d.absTicks f) then d
    else
      let len := d.absLen f
      let w : BitVec 32 := BitVec.ofNat 32 (word.toNat % 2 ^ len)
      let odd : Bool := decide ((ones w len + parity.toNat) % 2 = 1)
      let good := ready && odd == d.ibit (aFb f 0x10) 14
      let d := (d.putB (aFb f 8) 4 false).onFb f (fun x => { x with busy := none, doneAt := some d.cycles })
      if good then
        let c := (d.iw (aFb f 0x15) ++ d.iw (aFb f 0x14) : BitVec 32) + w
        let d := d.put32 (aFb f 0x16) w
        match u with
        | .seed => (d.put32 (aFb f 2) (c + (d.fb f).moved)).onFb f (fun x => { x with initDue := false })
        | .check =>
          let diff := (c - (d.fb f).latchPos).toInt
          let d := d.put (aFb f 0x18) (iword (satWord diff))
          if d.iuw (aFb f 0x13) < diff.natAbs then
            let d := d.fbCause f 4
            if d.fbEnabled f then d.enterFallback f (some c) else d
          else d
        | .fallback => d.fallbackWord f c
        | .leave =>
          let d := d.wordDiff f c
          ((d.put32 (aFb f 2) (c + (d.fb f).moved)).putB (aFb f 8) 3 false |>.dropSpeed f).onFb f (fun x =>
            { x with
              w1 := none, w2 := none, distFrom := none, good := 0, fails := 0, lost := false, lastNeg := none
              leaveDue := false })
      else
        let d := (d.inc (aFb f 0xC)).fbCause f (if ready then 2 else 3)
        match u with
        | .seed | .check => d
        | .fallback | .leave => d.fallbackFail f

/-- A write of FB[f].CFG; MODE acts in the next cycle (R275). -/
def Dev.writeFbCfg (d : Dev) (f : ChanIx) (v : Word) : Dev :=
  let v := if 16 ≤ f.1 then v &&& 0xFF3F else v
  { d.put (aFb f 0) v with fbDue := d.fbDue ++ [f] }

/-- A write of MODE acts, at the end of the cycle that it committed in: a change drops the speed, and one from MODE 0
asks for the seeding transfer (R252, R259, R266, R275). -/
def Dev.modeActs (d : Dev) (f : ChanIx) : Dev :=
  if d.fbMode f = d.fld (aFb f 0) 1 0 then d
  else
    let e := d.dropSpeed f
    if d.fbMode f = 0 && f.1 < 16 then e.onFb f (fun x => { x with initDue := d.bit (aFb f 0) 7 }) else e

/-- The writes of MODE of the cycle that ends act. -/
def Dev.dueFb (d : Dev) : Dev := { d.each d.fbDue Dev.modeActs with fbDue := [] }

/-- A write of DCFG (R272): setting EN clears the accumulator, DCNT, DLTOT and the backlog; EN 0 holds the output
low. [DEDUCED, log 61] -/
def Dev.writeDcfg (d : Dev) (v : Word) : Dev :=
  let was := d.bit 0xA308 15
  let d := d.put 0xA308 v
  if bitOf v 15 && !was then
    { ((d.put32 0xA30B 0).put32 0xA310 0).put 0xA30D 0 with dist := {} }
  else if !bitOf v 15 then { d with dist := { d.dist with high := false, gap := false } }
  else d

/-- A pulse of the distance output ends (R273). [DEDUCED, log 61] -/
def Dev.distPulseEnd (d : Dev) : Dev :=
  if d.dist.high && decide (d.dist.dueAt ≤ d.cycles) then
    { d with dist := { d.dist with high := false, gap := true, dueAt := d.cycles + d.distWidth } }
  else d

/-- The low time after a pulse ends: the next pulse of the backlog begins (R273). -/
def Dev.distGapEnd (d : Dev) : Dev :=
  if d.dist.gap && decide (d.dist.dueAt ≤ d.cycles) then
    let d := { d with dist := { d.dist with gap := false } }
    let n := d.fld 0xA30D 7 0
    if n = 0 then d else (d.putF 0xA30D 7 0 (n - 1)).distPulse
  else d

/-- Live word FB.GCAUSE[q] (R274). -/
def Dev.gcause (d : Dev) (q : Nat) : Word :=
  word ((List.range 8).foldl (fun acc i => if d.w (0xA000 + 0x20 * (8 * q + i) + 9) = 0 then acc else acc + 2 ^ i) 0)

end Sys2Proof.Machine
end

