-- ==== Sys2Proof/Machine/Frame.lean ====
section
/-! DEFINITION. The group frame and the carriers (chapters 01 and 02): command inputs, the work of a frame start, the
start and stop of a timebase, carrier starts, commutations and sample ticks. -/

namespace Sys2Proof.Machine

open Sys2Proof

/-! ### Command inputs (R75 to R78) -/

/-- FORM of CMDm in force. -/
def Dev.cmdForm (d : Dev) (m : MotorIx) : Nat := d.ifld (aMot m 0x40) 1 0

/-- The demand of R77 for a measured X. -/
def Dev.cmdDemand (d : Dev) (m : MotorIx) (x : Int) : Int :=
  let x0 : Int := d.iuw (aMot m 0x41)
  let x1 : Int := d.iuw (aMot m 0x42)
  let y0 := d.isw (aMot m 0x43)
  let y1 := d.isw (aMot m 0x44)
  clampInt (min y0 y1) (max y0 y1) (y0 + truncDiv ((y1 - y0) * (x - x0)) (x1 - x0))

/-- Take a measured X, and show it in CMDX: a free value where X does not fit in 16 bits. [DESIGN CHOICE, log 11] -/
def Dev.putCmdx (d : Dev) (m : MotorIx) (x : Nat) : Dev :=
  let d := d.onMot m (fun y => { y with cmd := { y.cmd with x := x } })
  if x < 65536 then d.put (aMot m 0x47) (word x) else (d.put (aMot m 0x47) (Config.wideCmdx d.free)).nextFree

/-- Judge the command of motor m from its measured X: CMDSTAT (R78), and at a frame start (`frame`) also CMDDEM (R77,
R80). [DEDUCED, log 107] -/
def Dev.judgeCmd (d : Dev) (m : MotorIx) (frame : Bool) : Dev :=
  let c := (d.mot m).cmd
  let x := c.x
  let form := d.cmdForm m
  if form = 0 then ((d.putCmdx m 0).put (aMot m 0x48) 0).put (aMot m 0x49) 0
  else
    let cfgerr := decide (d.iuw (aMot m 0x42) ≤ d.iuw (aMot m 0x41))
    let lost := if form = 1 then !d.accValid (grpOf m) (d.ifld (aMot m 0x40) 7 2) else !c.done || c.lost
    let inRange := match form with
      | 1 => decide (d.iuw (aMot m 0x45) ≤ x ∧ x ≤ d.iuw (aMot m 0x46))
      | 2 => decide (3277 ≤ x ∧ x ≤ 62259)
      | _ => decide (40 ≤ x ∧ x ≤ 40000)
    let valid := !cfgerr && !lost && inRange
    let d := d.put (aMot m 0x49) (word (cfgerr.toNat * 8 + lost.toNat * 4 + (!inRange).toNat * 2 + valid.toNat))
    if frame then d.put (aMot m 0x48) (if valid then iword (d.cmdDemand m x) else 0) else d

/-- A measurement of X ends (R75). -/
def Dev.measureCmd (d : Dev) (m : MotorIx) (x : Nat) (frame : Bool) : Dev := (d.putCmdx m x).judgeCmd m frame

/-- A filtered rising edge of CMDm, with the high time of the period it ends (R75, R76). -/
def Dev.cmdEdge (d : Dev) (m : MotorIx) (high : Nat) : Dev :=
  let form := d.cmdForm m
  if form < 2 then d
  else
    let c := (d.mot m).cmd
    let d := d.onMot m (fun x => { x with cmd := { x.cmd with edgeAt := some d.cycles } })
    match c.edgeAt with
    | none => d
    | some t =>
      let per := max 1 (d.cycles - t)
      let d := d.onMot m (fun x => { x with cmd := { x.cmd with done := true, doneAt := d.cycles, lost := false } })
      d.measureCmd m (if form = 2 then min high (per - 1) * 65536 / per else recip 800000000 per) false

/-- 200 ms have passed since a complete period ended (R78). -/
def Dev.cmdLost (d : Dev) (m : MotorIx) : Dev :=
  let c := (d.mot m).cmd
  if 2 ≤ d.cmdForm m ∧ c.done ∧ c.doneAt + 40000000 ≤ d.cycles then
    (d.onMot m (fun x => { x with cmd := { x.cmd with lost := true } })).judgeCmd m false
  else d

/-- The command input at a frame start: a new FORM begins a new measurement, and the loop engine samples the command.
[DEDUCED, log 34] -/
def Dev.cmdFrame (d : Dev) (m : MotorIx) : Dev :=
  let form := d.cmdForm m
  let d := if (d.mot m).cmd.form = form then d
    else (d.onMot m (fun x => { x with cmd := { form := form } })).putCmdx m 0
  let d := if form = 1 then d.measureCmd m (d.uw (aAcc (grpOf m) (d.ifld (aMot m 0x40) 7 2) 2)) true else d.judgeCmd m true
  let v := if d.bit (aMot m 0x49) 0 then some (d.sw (aMot m 0x48)) else none
  d.onMot m (fun x => { x with demCmd := v })

/-! ### Speed, angle and advance at a frame start (R63 to R67, R90, R99, R100) -/

/-- The advance of R66 for a speed magnitude, and whether the table decreases (R67). -/
def Dev.advance (d : Dev) (m : MotorIx) (v : Nat) : Nat × Bool :=
  let s (i : Nat) : Int := d.iuw (aMot m (0x20 + i))
  let a (i : Nat) : Int := d.ifld (aMot m (0x30 + i)) 7 0
  if !nonDecreasing s 16 then ((a 0).toNat, true)
  else if (v : Int) < s 0 then ((a 0).toNat, false)
  else
    let i := lastAtMost s v 16
    if i = 15 then ((a 15).toNat, false)
    else ((a i + roundDiv ((a (i + 1) - a i) * (v - s i)) (s (i + 1) - s i)).toNat, false)

/-- Counts per electrical revolution. -/
def Dev.cper (d : Dev) (m : MotorIx) : Nat := max 6 (d.iuw (aMot m 0xA))

/-- The speed fits in the signed word SPEED. -/
def speedFits (v : Int) : Bool := decide (-32768 ≤ v ∧ v ≤ 32767)

/-- The sampled angle and speed of a sensored motor (R63, R65); a speed that does not fit is a free value.
[DESIGN CHOICE, log 39] -/
def Dev.sense (d : Dev) (m : MotorIx) : Dev :=
  let c := d.cper m
  let z : BitVec 32 := d.iw (aMot m 9) ++ d.iw (aMot m 8)
  let a := ((d.fpos m - z).toNat % c) * 1536 / c
  let ok := (d.fb (chanOf m)).fspdv
  let q := if ok then recipInt (d.w32 (aFb (chanOf m) 0x19)).toInt (4 * c) else 0
  let v := if speedFits q then q else (Config.wideSpeed d.free).toInt
  (if speedFits q then d else d.nextFree).onMot m (fun x => { x with
    angS := a * angUnit, angAt := d.cycles, v16 := v * 65536, speed := v, spdv := ok })

/-- Show a speed in SPEED: a free value where it does not fit, as a ramp speed may not (R100).
[DESIGN CHOICE, log 39] -/
def Dev.putSpeed (d : Dev) (m : MotorIx) (v : Int) : Dev :=
  if speedFits v then d.put (aMot m 0xB) (iword v) else (d.put (aMot m 0xB) (Config.wideSpeed d.free)).nextFree

/-- The ramp speed's limit with 16 fraction bits. -/
def Dev.rampEnd (d : Dev) (m : MotorIx) : Int := max (d.iuw (aMot m 0x84)) (d.iuw (aMot m 0x85)) * 65536

/-- The ramp speed has reached its end: RHOLD begins (R92). -/
def Dev.rampHold (d : Dev) (m : MotorIx) : Dev :=
  let x := d.mot m
  if x.timer = .off ∧ d.rampEnd m ≤ x.v16.natAbs then
    d.onMot m (fun x => { x with
      timer := d.startTimer (grpOf m) (framesOf (d.ifld (aMot m 0x87) 15 8) (d.grp (grpOf m)).period) })
  else d

/-- The ramp speed increases at a frame start (R90). -/
def Dev.rampStep (d : Dev) (m : MotorIx) : Dev :=
  let x := d.mot m
  let inc := d.iuw (aMot m 0x86) * (d.grp (grpOf m)).period * 65536 / 50000000
  let mag := min (d.rampEnd m) (x.v16.natAbs + inc)
  (d.onMot m (fun x => { x with
    angS := x.angNow d.cycles, angAt := d.cycles, v16 := if x.drvRev then -mag else mag })).rampHold m

/-- The speed of a sensorless motor at a frame start (R100): 0 where R100 has no row (IDLE, BRAKE, FAULT), and in START
outside RAMP. [DEDUCED, log 116] -/
def Dev.senseLess (d : Dev) (m : MotorIx) : Dev :=
  let x := d.mot m
  let d := if x.state = .start ∧ x.phase = .ramp then d.rampStep m else d
  d.onMot m (fun x => match x.state with
    | .start => { x with speed := if x.phase = .ramp then truncDiv x.v16 65536 else 0, spdv := false }
    | .run => { x with speed := x.obs.v, spdv := true }
    | .catching | .revpend => { x with speed := if x.cat.valid then x.cat.speed else 0, spdv := x.cat.valid }
    | _ => { x with speed := 0, spdv := false })

/-- SPEED, ANGLE, ADV and ADVERR at a frame start; a sensored engine takes the sector of the sampled angle (R50, R64). -/
def Dev.angles (d : Dev) (m : MotorIx) : Dev :=
  let sl := d.sensorless m
  let d := if sl then d.senseLess m else d.sense m
  let (a, err) := d.advance m (d.mot m).speed.natAbs
  let a := if (d.mot m).state = .start then 0 else if sl then min a 96 else a
  let d := d.onMot m (fun x =>
    let x := { x with adv := a, adverr := err }
    if sl then x else { x with sector := sectorOf (x.commNow d.cycles) })
  ((d.putSpeed m (d.mot m).speed).put (aMot m 0xC) (word ((d.mot m).rotor d.cycles))).put (aMot m 0xD) (word a)

/-! ### The work of a frame start -/

/-- The duty and direction ready by the deadline are applied (R19, R24, R28). -/
def Dev.applyDuty (d : Dev) (m : MotorIx) (deadline : Bool) : Dev :=
  d.onMot m (fun x =>
    let take := if deadline then x.ready else (match x.out with | some o => some o | none => x.ready)
    let x := { x with ready := none, out := if deadline then x.out else none, loopRun := false }
    match take with
    | some (duty, rev) => { x with duty := min duty 0x8000, demRev := rev }
    | none => x)

/-- Every timer and every count of frames of the motor passes a frame start (R81, R110, R129). -/
def Motor.timers (x : Motor) : Motor :=
  { x with timer := x.timer.frame, stab := x.stab.frame, catt := x.catt.frame, rect := x.rect.frame, odiv := x.odiv + 1,
           hostT := x.hostT.frame
           kiss := { x.kiss with timer := x.kiss.timer.frame, frames := x.kiss.frames + 1 } }

/-- LCTRL.HEN comes into force: a source that was not enabled needs a new host demand (R119). [DEDUCED, log 26] -/
def Dev.henFrame (d : Dev) (m : MotorIx) : Dev :=
  if d.bit (aMot m 0x100) 4 && !d.ibit (aMot m 0x100) 4 then d.onMot m (fun x => { x with hostOk := false }) else d

/-- The host demand is sampled, and a write or a release takes effect (R119, R120). [DEDUCED, log 26] -/
def Dev.hostFrame (d : Dev) (m : MotorIx) : Dev :=
  let v := d.sw (aMot m 0x103)
  d.onMot m (fun x => { x with
    hostD := v, hostOk := if x.hostNew then true else if x.hostRel then false else x.hostOk, hostNew := false, hostRel := false })

/-- |v| is below REVTHR. -/
def Dev.slow (d : Dev) (m : MotorIx) : Bool := decide ((d.mot m).speed.natAbs < d.iuw (aMot m 0xE))

/-- The overspeed test of R71; no speed exceeds an OVSPD of 0x7FFF. [DEDUCED, log 33] -/
def Dev.overspeed (d : Dev) (m : MotorIx) : Dev :=
  let x := d.mot m
  if (x.state = .run || x.state = .revpend || x.state = .brake) && d.iuw (aMot m 0x10) ≠ 0x7FFF &&
      decide (d.iuw (aMot m 0x10) < x.speed.natAbs) then
    (d.motCause m 4).policy m 4 (d.ifld (aMot m 3) 9 8)
  else d

/-- |v| of a motor in REVPEND has fallen below REVTHR. On a sensorless motor |v| is the catch speed: until two edges
have given one it is not known, and CATT ms without an edge make it 0 (R69, R106). [DEDUCED, log 31] -/
def Dev.pendSlow (d : Dev) (m : MotorIx) : Bool :=
  d.slow m && (!d.sensorless m || (d.mot m).cat.valid || (d.mot m).cat.quiet)

/-- The reversal rules at a frame start (R68, R69). [DEDUCED, log 31] -/
def Dev.reversal (d : Dev) (m : MotorIx) : Dev :=
  let x := d.mot m
  match x.state with
  | .run =>
    if x.demRev = x.drvRev then d
    else if d.slow m then d.toBrake m
    else
      let catt := if d.sensorless m then d.msTimer m (d.ifld (aMot m 0x8E) 15 8) else .off
      let d := d.onMot m (fun x => { x with rect := .off, stab := .off, catt := catt, cat := {} })
      (d.motCause m 9).enter m .revpend
  | .revpend =>
    if x.demRev = x.drvRev then
      (if d.sensorless m then d.toCatch m
       else (d.onMot m (fun x => { x with odiv := 0 })).enter m .run)
    else if d.pendSlow m then d.toBrake m
    else d
  | _ => d

/-- A motor in FAULT at a frame start: FLOAT then LSCLAMP, and the frames of the device-fault hold (R72, R419). -/
def Dev.faultFrame (d : Dev) (m : MotorIx) : Dev :=
  let x := d.mot m
  if x.state = .fault then
    let d := d.onMot m (fun x => { x with
      devHeld := if x.devFault then (match x.devHeld with | some n => some (n + 1) | none => some 0) else none })
    if x.act = .floatThenClamp && !x.clampNow && d.slow m then d.onMot m (fun x => { x with clampNow := true }) else d
  else d

/-- Both domains of group g are on and ready. [DEDUCED, log 35] -/
def Dev.domainsReady (d : Dev) (g : GroupIx) : Bool :=
  d.domOn (gateDom g) && d.domRdy (gateDom g) && d.domOn (prismDom g) && d.domRdy (prismDom g)

/-- An enabled motor in IDLE starts, whatever FLT bits an earlier FAULT has left, and level reports in force act on it (R48,
R74, R84, R177, R464). [DEDUCED, log 24, 35] -/
def Dev.idleFrame (d : Dev) (m : MotorIx) : Dev :=
  if (d.mot m).state = .idle && d.enabled m && d.domainsReady (grpOf m) && d.hasMot m then
    ((d.endCheck m).startMotor m).levelReports m
  else d

/-! ### Thresholds of the phase comparators (R95) -/

/-- The threshold that the next sample uses on a leg: ZCTHR on the floating leg, but for the amplitude sample, and CATHR
elsewhere (R95, R101). -/
def Dev.thrKind (d : Dev) (m : MotorIx) (ph : Fin 3) : ThrKind :=
  let x := d.mot m
  let (_, _, f) := legs x.sector x.drvRev
  if d.sensorless m && ph = f && (x.state = .run || (x.state = .start && (x.phase = .align2 || x.phase = .ramp))) then
    match x.sec.found with
    | some t =>
      if x.sec.ampDue && x.sec.amp.isNone &&
          decide (64 * 800000000 ≤ x.predSpeed.natAbs * 1536 * (x.car.start + d.sampleTickAt m - t)) then .amp
      else .zcthr
    | none => .zcthr
  else .cathr

/-- The code of a threshold (R95, R101). -/
def Dev.thrCode (d : Dev) (m : MotorIx) : ThrKind → Nat
  | .cathr => d.ifld (aMot m 0x8B) 9 0
  | .zcthr => d.ifld (aMot m 0x8A) 9 0
  | .amp => min 1023 (d.ifld (aMot m 0x8A) 9 0 + d.iuw (aMot m 0x90) * (d.mot m).predSpeed.natAbs / 65536)

/-- Carrier tick at which the sampling window starts (R58). -/
def Dev.windowAt (d : Dev) (m : MotorIx) : Nat :=
  let x := (d.mot m).car
  let sw := d.iuw (aMot m 6)
  x.len - (if x.align then (sw + 1) / 2 else sw)

/-- The sampling window has started: the thresholds of its sample are set, and a commutation before the sample tick
leaves them as they are for that sample (R95). [DEDUCED, log 123] -/
def Dev.windowStart (d : Dev) (m : MotorIx) : Dev :=
  if !(d.mot m).car.winDone && decide (d.windowAt m ≤ d.carTick m) then
    let k := (d.thrKind m 0, d.thrKind m 1, d.thrKind m 2)
    let t := (d.thrCode m k.1, d.thrCode m k.2.1, d.thrCode m k.2.2)
    d.onMot m (fun x => { x.newThr d.cycles t with thrK := k, car := { x.car with winDone := true } })
  else d

/-- New codes of ZCTHR and CATHR act at a frame start on the legs that use them (R95, R107). -/
def Dev.thrFrame (d : Dev) (m : MotorIx) : Dev :=
  let code (k : ThrKind) (old : Nat) : Nat := if k = .amp then old else d.thrCode m k
  d.onMot m (fun x => x.newThr d.cycles (code x.thrK.1 x.thr.1, code x.thrK.2.1 x.thr.2.1, code x.thrK.2.2 x.thr.2.2))

/-- DUTY and CEIL at a frame start (R54, R59). [DEDUCED, log 20] -/
def Dev.dutyFrame (d : Dev) (m : MotorIx) : Dev :=
  let x := d.mot m
  let ceil := d.ceilCode m
  (d.put (aMot m 5) (word ceil)).put (aMot m 4) (word (if x.drives then min x.duty ceil else 0))

/-- The work of motor m at a frame start. -/
def Dev.motorFrame (d : Dev) (m : MotorIx) (deadline : Bool) : Dev :=
  let wasIdle := (d.mot m).state = .idle
  let d := d.applyDuty m deadline
  let d := (d.onMot m Motor.timers).angles m
  let d := (d.hostFrame m).cmdFrame m
  let d := (d.putB (aMot m 0x15C) 0 (!d.curveOk m))
  let d := if wasIdle then d.idleFrame m else ((d.faultFrame m).overspeed m).reversal m
  let d := (d.searchStart m).dutyFrame m
  (d.thrFrame m).showFrame m

/-! ### Transition of the carriers (R513) -/

/-- The carrier period of slot j = 1 to 3 that runs at a frame start with a new PERIOD (R513). -/
def Carrier.transition (x : Carrier) (now at' : Nat) : Carrier :=
  let len := (now - x.start) + at'
  let refr := if x.refDue then x.wr else 0
  let window := if x.align then max ((x.ws + 1) / 2) ((refr + 1) / 2) else max x.ws refr
  let e := max x.onBeg (min x.onEnd (len - window))
  let n := e - x.onBeg
  if n < 60 then { x with len := len, onEnd := x.onBeg }
  else if len - n < 60 then { x with len := len, onBeg := 0, onEnd := len }
  else { x with len := len, onEnd := e }

/-! ### Frame starts of a group -/

/-- Everything that a frame start of group g does after its timebase has moved to tick 0 (R19). `ended` says that a whole
frame ended here; it is judged with the loop registers that were in force in it (R29, R132).
[DESIGN CHOICE, log 7; DEDUCED, log 22, 99] -/
def Dev.frameWork (d : Dev) (g : GroupIx) (ended : Bool) : Dev :=
  let x := d.grp g
  let per := clampNat 4000 25000 (d.uw (aGrp g 0))
  let d := if per ≠ x.period && ended then
      d.each (motsOf g) (fun d m =>
        if (slotOf m).1 = 0 then d
        else d.onMot m (fun x => { x with car := x.car.transition d.cycles ((slotOf m).1 * per / 4) }))
    else d
  let back := x.idleDom && d.domainsReady g
  let d := d.onGrp g (fun x => { x with
    period := per, align := d.bit (aGrp g 1) 2, grantPt := d.uw (aGrp g 2), fcnt := x.fcnt + 1, deadline := false
    floorsOnly := x.floorsOnly || back, idleDom := x.idleDom && !back, granted := false })
  let d := d.accFrame g ended
  let d := (d.each (motsOf g) Dev.henFrame).enforce (aMot (motAt g 0) 0) (aMot (motAt g 0) 0x1000)
  let d := match x.pend with
    | some b => (d.enforceGrants g b).onGrp g (fun x => { x with pend := none })
    | none => d
  let d := d.snapshot g
  let d := d.each (motsOf g) (fun d m => (d.absStart (chanOf m)).fbCopy (chanOf m))
  let d := (d.supFrame g ended).seqFrame g
  let d := d.each (motsOf g) (fun d m => d.motorFrame m x.deadline)
  d.driveGroup g

/-- Clear the loop state of motor m, as when its group stops (R33). [DEDUCED, log 23] -/
def Dev.clearLoop (d : Dev) (m : MotorIx) : Dev :=
  let d := d.onMot m (fun x => { x with
    posI := 0, spdI := 0, odiv := 0, out := none, ready := none, req := none, lastReq := (0, false), duty := 0
    demSel := 0, loopRun := false
    kiss := { x.kiss with timer := .off, rejected := if d.searching m then none else x.kiss.rejected } })
  (((d.put32 (aMot m 0x128) 0).put (aMot m 0x107) 0).putB (aMot m 0x15B) 1 false).put (aMot m 4) 0

/-- A sequence that waited for a frame goes on freely once its group has stopped, with its slices powered (R225, R230). -/
def Dev.seqStopped (d : Dev) (p : GroupIx) : Dev :=
  match (d.prm p).phase with
  | .waitFrame | .waitStart => d.restartSeq p
  | .waitSync => d.onPrm p (fun x => { x with phase := .entry, left := 2 ^ bits x.word 3 2, pwr := true })
  | _ => d

/-- The timebase of group g stops at this frame start: the frame that ends is judged, V is copied, and the snapshot of this
boundary shows empty books (R33, R144, R147, R183, R237). [DEDUCED, log 23, 24] -/
def Dev.stopGroup (d : Dev) (g : GroupIx) : Dev :=
  let d := d.onGrp g (fun x => { x with running := false, deadline := false })
  let d := ((d.accFrame g true).supFrame g true).seqStopped g
  let d := d.each (motsOf g) (fun d m => ((d.toIdle m).clearLoop m).showFrame m)
  ((d.zeroGrants g).snapshot g).driveGroup g

/-- The carriers and refresh counts of a group whose timebase starts at tick 0 (R20, R60). -/
def Dev.startCarriers (d : Dev) (g : GroupIx) (per : Nat) : Dev :=
  d.each (motsOf g) (fun d m => d.onMot m (fun x => { x with
    car := { start := d.cycles, len := (slotOf m).1 * per / 4, spanDone := true, refDue := false }
    refc := Vector.replicate 3 64, lowOk := Vector.replicate 3 false, spanAt := d.cycles
    forced := Vector.replicate 3 false }))

/-- The timebase of group g starts at frame tick 0 (R31, R33, R138, R139, R60); no starved grant point counts from before
it (R150). [DESIGN CHOICE, log 138; DEDUCED, log 22] -/
def Dev.startGroup (d : Dev) (g : GroupIx) : Dev :=
  if (d.grp g).running || !d.hasGrp g then d
  else
    let per := clampNat 4000 25000 (d.uw (aGrp g 0))
    let d := d.onGrp g (fun x => { x with
      running := true, frameAt := d.cycles, fcnt := 0, floorsOnly := true, pend := none, books := {}
      starv := Vector.replicate 4 0, deadline := false })
    let d := ((d.resetRR g).startCarriers g per).onPrm g (fun x => { x with firstFrame := true })
    d.frameWork g false

/-- A running group restarts from frame tick 0 after a loss of lock (R32): a group whose RUN was written 0 before the
loss runs one more frame, at whose end it stops, and every refresh count is 64 as at a start under R33 (R60).
[DEDUCED, log 93] -/
def Dev.restartGroup (d : Dev) (g : GroupIx) : Dev :=
  if (d.grp g).running then
    let per := clampNat 4000 25000 (d.uw (aGrp g 0))
    let d := d.onGrp g (fun x => { x with frameAt := d.cycles, floorsOnly := true, pend := none, deadline := false })
    let d := (d.startCarriers g per).onPrm g (fun x => { x with firstFrame := true })
    d.frameWork g false
  else d

/-- A started timebase reaches tick 0 in the cycle after the write of RUN, unless RUN has been written 0 meanwhile
(R33). [DEDUCED, log 22] -/
def Dev.startDue (d : Dev) (g : GroupIx) : Dev :=
  if (d.grp g).starting then
    let d := d.onGrp g (fun x => { x with starting := false })
    d.when (d.bit (aGrp g 1) 0) (fun d => d.startGroup g)
  else d

/-- A carrier period that ends in this tick is the last one from now on: CEILHIT and REFP take what it held, and it remembers
whether its motor drove the pattern (R62). -/
def Dev.carrierEnds (d : Dev) (m : MotorIx) : Dev :=
  d.onMot m (fun x =>
    if x.car.start + x.car.len ≤ d.cycles then
      { x with ceilhit := x.car.hit, refp := x.car.refDue && x.drives, car := { x.car with drove := some x.drives } }
    else x)

/-- A frame start of group g (R19). [DESIGN CHOICE, log 2] -/
def Dev.frameStart (d : Dev) (g : GroupIx) : Dev :=
  let x := d.grp g
  if d.runs && x.running && decide (x.frameAt + x.period ≤ d.cycles) then
    let d := (d.each (motsOf g) Dev.carrierEnds).onGrp g (fun x => { x with frameAt := d.cycles })
    if d.bit (aGrp g 1) 0 then d.frameWork g true else d.stopGroup g
  else d

/-- Tick PERIOD - 16 of the frame: outputs ready now are applied at the next frame start, and LATE.APPLY is set where this
frame's duty is not ready (R24, R28). [DEDUCED, log 20] -/
def Dev.applyDeadline (d : Dev) (g : GroupIx) : Dev :=
  let x := d.grp g
  if d.runs && x.running && !x.deadline && decide (x.frameAt + x.period ≤ d.cycles + 16) then
    let d := d.onGrp g (fun x => { x with deadline := true })
    d.each (motsOf g) (fun d m =>
      let d := if d.member m && ((d.mot m).out.isNone || !(d.mot m).loopRun) then
          d.setB (aGrp g 4) (8 + (slotOf m).1) else d
      match (d.mot m).out with
      | some o => d.onMot m (fun x => { x with ready := some o, out := none })
      | none => d)
  else d

/-- The effective grant point (R25). -/
def Dev.grantTick (d : Dev) (g : GroupIx) : Nat := clampNat 256 ((d.grp g).period - 128) (d.grp g).grantPt

/-! ### Carriers (R54 to R62) -/

/-- The current latch keeps the on-time from beginning, or has ended it (R201, R202). -/
def Dev.limitCheck (d : Dev) (m : MotorIx) : Dev :=
  if d.bit (aCur m 4) 0 && decide ((d.mot m).car.onBeg ≤ d.carTick m) then
    d.onMot m (fun x => { x with car := { x.car with limited := true } })
  else d

/-- The evaluation span of the refresh counts that ends by now is judged (R60). -/
def Dev.spanCheck (d : Dev) (m : MotorIx) : Dev :=
  let x := (d.mot m).car
  if x.align && !x.spanDone && decide (x.wr / 2 ≤ d.carTick m) then d.onMot m (fun y => y.judgeRefresh d.cycles) else d

/-- The on-time interval of a period: first tick and first tick after it (R55, R57). -/
def onTime (align : Bool) (per n : Nat) : Nat × Nat :=
  let n := if n < 60 then 0 else if per - n < 60 then per else n
  if align then ((per - n) / 2, (per - n) / 2 + n) else (0, n)

/-- A new carrier period of motor m begins: its on-time, refresh interval and comparators (R54 to R62, R199 to R207).
With centre alignment the evaluation span runs on through the boundary; in the first centre-aligned period a span begins
W_R / 2 after it (R60). [DEDUCED, log 27] -/
def Dev.newPeriod (d : Dev) (m : MotorIx) : Dev :=
  let g := d.grp (grpOf m)
  let x := d.mot m
  let old := x.car
  let (p, _, _) := legs x.sector x.drvRev
  let wr := d.wrOf m
  let ws := d.wsOf m
  let due := !d.ibit (aMot m 0) 6 || decide (d.ifld (aMot m 7) 13 8 + 1 ≤ x.refc[p])
  let want := x.duty * g.period / 32768
  let most := onMax g.period ws (if due then wr else 0)
  let (b, e) := onTime g.align g.period (min want most)
  let goesOn := g.align && old.align
  d.onMot m (fun x => { x with
    ceilhit := old.hit, refp := old.refDue && old.drove.getD x.drives, forced := Vector.replicate 3 false, compOn := none
    spanAt := if goesOn then x.spanAt else if g.align then d.cycles + wr / 2 else d.cycles
    lowOk := if goesOn then x.lowOk else Vector.replicate 3 false
    car := { start := d.cycles, len := g.period, align := g.align, onBeg := b, onEnd := e, refDue := due
             refPrev := old.align && old.refDue, wrPrev := old.wr, wr := wr, ws := ws, spanDone := g.align && !old.align, limited := false
             hit := x.drives && decide (most < want) } })

/-- The comparators of motor m at a carrier start (R199, R202, R205): a latch that sets in this tick, or whose output is
high, stays set, and one under check holds. -/
def Dev.carrierGlint (d : Dev) (m : MotorIx) : Dev :=
  let d := d.enforceGlint m
  let d := if d.ibit (aCur m 0) 2 || d.underCheck 0 m.1 || bitOf (d.freshBits (aCur m 4)) 0 then d
    else d.putB (aCur m 4) 0 false
  d.each ((List.finRange 3).filter (fun ph => !d.underCheck 2 (bridgeOf m ph).1)) (fun d ph =>
    d.putB (aCur m 4) (2 + ph.1) (d.phHigh m ph || bitOf (d.freshBits (aCur m 4)) (2 + ph.1)))

/-- A carrier start of motor m's slot (R55). -/
def Dev.carrierStart (d : Dev) (m : MotorIx) : Dev :=
  let x := (d.mot m).car
  if d.runs && (d.grp (grpOf m)).running && decide (x.start + x.len ≤ d.cycles) then
    let d := if !x.spanDone then d.onMot m (fun y => y.judgeRefresh d.cycles) else d
    let d := (((d.windowStart m).newPeriod m).carrierGlint m).limitCheck m
    (d.drive m).judgeLimit m
  else d

/-- A PWM edge inside a carrier period: the on-time begins or ends, a refresh interval or the sampling window begins (R55,
R58, R60). -/
def Dev.pwmEdge (d : Dev) (m : MotorIx) : Dev :=
  if d.runs && (d.grp (grpOf m)).running then
    ((((d.spanCheck m).limitCheck m).windowStart m).drive m).judgeLimit m
  else d

/-! ### Commutation (R52, R64, R91, R99, R102, R103) -/

/-- The engine changes sector on its extrapolated angle. -/
def Dev.extrapolates (d : Dev) (m : MotorIx) : Bool :=
  let x := d.mot m
  (x.state = .run && x.spdv && x.v16 ≠ 0) || (d.sensorless m && x.state = .start && x.phase = .ramp && x.v16 ≠ 0)

/-- The sector that follows, when the extrapolated commutation angle has left the present one in the direction of v. -/
def Motor.nextSector (x : Motor) (now : Nat) : Option Nat :=
  let s := sectorOf (x.commNow now)
  let ahead := if 0 < x.v16 then (s + 6 - x.sector) % 6 else (x.sector + 6 - s) % 6
  if 1 ≤ ahead ∧ ahead ≤ 3 then some (if 0 < x.v16 then (x.sector + 1) % 6 else (x.sector + 5) % 6) else none

/-- A sensorless sector ends: its outcome, and a handover or a sync loss. [DEDUCED, log 30] -/
def Dev.endSector (d : Dev) (m : MotorIx) : Dev :=
  let d := d.sectorOutcome m
  let x := d.mot m
  if x.state = .start && decide (max 1 (d.ifld (aMot m 0x89) 15 12) ≤ x.hovcnt) then d.handover m
  else if x.state = .run && decide (max 1 (d.ifld (aMot m 0x89) 11 8) ≤ x.failcnt) then d.syncLoss m
  else d

/-- The commutation angle leaves its sector (R52). [DEDUCED, log 30] -/
def Dev.commutation (d : Dev) (m : MotorIx) : Dev :=
  if d.runs && (d.grp (grpOf m)).running && d.extrapolates m then
    match (d.mot m).nextSector d.cycles with
    | none => d
    | some s =>
      if d.sensorless m then
        let d := d.endSector m
        let d := if (d.mot m).drives then
            d.onMot m (fun x => { x with
              sector := s, sec := { began := d.cycles }, obs := { x.obs with sectors := x.obs.sectors + 1 } })
          else d
        d.drive m
      else (d.onMot m (fun x => { x with sector := s })).drive m
  else d

/-! ### Sampling (R89, R94, R104) -/

/-- The present carrier tick is the sample tick of R94. -/
def Dev.atSampleTick (d : Dev) (m : MotorIx) : Bool :=
  let x := (d.mot m).car
  let st := d.sampleTickAt m
  let c := d.carTick m
  c = st || (x.len ≤ st && c = st - x.len)

/-- A sample of ALIGN2: a change that holds for two samples is a backward swing (R89). -/
def Dev.alignSample (d : Dev) (m : MotorIx) (lvl : Bool) : Dev :=
  let x := d.mot m
  match x.alSamp with
  | none => d.onMot m (fun x => { x with alSamp := some lvl, alNew := false })
  | some old =>
    if lvl = old then d.onMot m (fun x => { x with alNew := false })
    else if !x.alNew then d.onMot m (fun x => { x with alNew := true })
    else
      let d := d.onMot m (fun x => { x with alSamp := some lvl, alNew := false })
      if x.alBack then d else (d.onMot m (fun x => { x with back := true, alBack := true })).inc (aMot m 0x9A)

/-- The sample tick of motor m, with its terminal voltages U, V and W in microvolts; the outputs of comparators that do not
work read low (R94, R208). -/
def Dev.sampleTick (d : Dev) (m : MotorIx) (u v w : Int) : Dev :=
  let g := grpOf m
  if d.runs && (d.grp g).running && d.atSampleTick m then
    let d := (d.windowStart m).phaseSample m u v w
    if !d.sensorless m then d
    else
      let x := d.mot m
      let lv : Fin 3 → Bool := fun ph => d.glintOn g && d.bit (aCur m 5) (2 + ph.1)
      let (_, _, f) := legs x.sector x.drvRev
      match x.state with
      | .start =>
        if x.phase = .align2 then d.alignSample m (lv f)
        else if x.phase = .ramp then d.zcSample m (lv f)
        else d
      | .run => d.zcSample m (lv f)
      | .catching | .revpend => d.catchSample m lv
      | _ => d
  else d

/-- ZWHI of the predicted sector has passed with no crossing (R96). -/
def Dev.zcWindowClose (d : Dev) (m : MotorIx) : Dev :=
  let x := d.mot m
  if d.runs && d.sensorless m && (x.state = .run || (x.state = .start && x.phase = .ramp)) && !x.sec.closed && d.windowPast m
  then d.windowFails m
  else d

/-! ### Ends of timers -/

/-- The phase timer of motor m has ended in a state and phase. [DESIGN CHOICE, log 2] -/
def Dev.phaseOver (d : Dev) (m : MotorIx) (st : MState) (ph : Phase) : Bool :=
  let x := d.mot m
  d.runs && x.state = st && x.phase = ph && x.timer.ended

/-- ALIGN1 ends (R88). -/
def Dev.align1End (d : Dev) (m : MotorIx) : Dev :=
  if d.phaseOver m .start .align1 then
    let d := (d.holdSector m (d.alsec m)).onMot m (fun x => { x with
      phase := .align2, alSamp := none, alNew := false, alBack := false, timer := d.msTimer m (d.ifld (aMot m 0x82) 7 0) })
    (d.showChange m).drive m
  else d

/-- ALIGN2 ends and the ramp begins (R90). -/
def Dev.align2End (d : Dev) (m : MotorIx) : Dev :=
  if d.phaseOver m .start .align2 then
    let rev := (d.mot m).drvRev
    let s := if rev then (d.alsec m + 4) % 6 else (d.alsec m + 2) % 6
    let v : Int := d.iuw (aMot m 0x84) * 65536
    let d := d.onMot m (fun x => { x with
      phase := .ramp, sector := s, angS := ((256 * s + (if rev then 255 else 0) : Nat) : Int) * angUnit, angAt := d.cycles
      v16 := if rev then -v else v, speed := if rev then -(d.iuw (aMot m 0x84) : Int) else d.iuw (aMot m 0x84)
      obs := {}, sec := { began := d.cycles }, hovcnt := 0, timer := .off })
    ((d.rampHold m).showChange m).drive m
  else d

/-- RHOLD passes without a handover (R92). -/
def Dev.rampTimeout (d : Dev) (m : MotorIx) : Dev := if d.phaseOver m .start .ramp then d.attemptFails m 1 else d

/-- The back-off ends and the next attempt begins (R93). -/
def Dev.backoffEnd (d : Dev) (m : MotorIx) : Dev :=
  if d.phaseOver m .start .backoff then
    (d.onMot m (fun x => { x with attempt := x.attempt + 1 })).toAlign1 m
  else d

/-- COAST ends (R103). -/
def Dev.coastEnd (d : Dev) (m : MotorIx) : Dev := if d.phaseOver m .coast .coast then d.toCatch m else d

/-- CATT ms pass with no catch edge (R106). -/
def Dev.catchTimeout (d : Dev) (m : MotorIx) : Dev :=
  let x := d.mot m
  if d.runs && x.catt.ended then
    match x.state with
    | .catching => (d.onMot m (fun x => { x with attempt := 1, speed := 0 })).toAlign1 m
    | .revpend => d.onMot m (fun x => { x with catt := .off, cat := { levels := x.cat.levels, quiet := true } })
    | _ => d
  else d

/-- BRAKE ends: the drive direction takes the demanded direction, and the motor runs or starts (R70, R84). -/
def Dev.brakeEnd (d : Dev) (m : MotorIx) : Dev :=
  if d.phaseOver m .brake .none then
    (d.onMot m (fun x => { x with drvRev := x.demRev, timer := .off })).startMotor m
  else d

end Sys2Proof.Machine
end

