-- ==== Sys2Proof/Machine/GateOps.lean ====
section
/-! DEFINITION. What happens at a gate-driver die and at the Glint comparators (chapters 06 and 08): dead time, blanking,
detections, supply conditions, the delivery of reports, and the comparator latches. -/

namespace Sys2Proof.Machine

open Sys2Proof

/-! ### Half-bridges (R154, R164, R167) -/

/-- The dead time of half-bridge b has passed: the selected switch turns on (R154). [DESIGN CHOICE, log 2] -/
def Dev.deadTimeOver (d : Dev) (b : BridgeIx) : Dev :=
  if d.runs then ((d.turnOn b).syncComp (motOfBridge b)).judgeLimit (motOfBridge b) else d

/-- Blanking time of half-bridge b in ticks (R167). -/
def Dev.blankTicks (d : Dev) (b : BridgeIx) : Nat := 100 * (d.ifld (aGd b 1) 7 4 + 1)

/-- A switch of half-bridge b is on. -/
def Bridge.isOn (x : Bridge) : Bool := x.hs || x.ls

/-- The desaturation comparison is enabled for a switch of half-bridge b (R166). -/
def Dev.desatOn (d : Dev) (b : BridgeIx) (hs : Bool) : Bool := if hs then d.ibit (aGd b 1) 8 else d.ibit (aGd b 1) 9

/-- A drain-source voltage in mV is above the threshold of half-bridge b (R166). -/
def Dev.vdsHigh (d : Dev) (b : BridgeIx) (vds : Int) : Bool := decide (125 * ((d.ifld (aGd b 1) 3 0 : Int) + 1) < vds)

/-- VDS of the switch that is on stands at a level after blanking: the filter of 20 ticks starts, runs on, or ends
(R167). -/
def Dev.vdsLevel (d : Dev) (b : BridgeIx) (hs : Bool) (vds : Int) : Dev :=
  let high := d.desatOn b hs && d.vdsHigh b vds
  d.onBrg b (fun x => { x with blanked := true, aboveAt := if high then some (x.aboveAt.getD d.cycles) else none })

/-- The blanking time of half-bridge b ends, with VDS as it stands then (R167). -/
def Dev.blankingOver (d : Dev) (b : BridgeIx) (vds : Int) : Dev :=
  let x := d.brg b
  if d.runs && d.dieDrives (grpOfBridge b) && x.isOn && decide (x.onAt + d.blankTicks b ≤ d.cycles) then d.vdsLevel b x.hs vds
  else d

/-- VDS of the switch that is on, or that turns off in this tick, stands at a level after blanking. When it has been above
threshold for 20 ticks, a desaturation is detected: flag, count, record and report (R167, R168, R171, R177).
[DEDUCED, log 48] -/
def Dev.desat (d : Dev) (b : BridgeIx) (vds : Int) : Dev :=
  let x := d.brg b
  let hs := if x.isOn then x.hs else x.offHs
  if d.runs && d.dieDrives (grpOfBridge b) && (x.isOn || x.offAt = some d.cycles) && decide (x.onAt + d.blankTicks b ≤ d.cycles) then
    let d := d.vdsLevel b hs vds
    match (d.brg b).aboveAt with
    | some t =>
      if !x.detected && decide (t + 20 ≤ d.cycles) then
        ((d.onBrg b (fun x => { x with detected := true })).gateFlag b (if hs then 0 else 1)).report (motOfBridge b) (phaseOf b)
          .desat
      else d
    | none => d
  else d

/-- The bootstrap condition of half-bridge b asserts, 500 ns or more after the turn-on and after its last release (R164,
R177). -/
def Dev.bootLow (d : Dev) (b : BridgeIx) : Dev :=
  let x := d.brg b
  if d.runs && d.dieDrives (grpOfBridge b) && x.hs && !x.bsuv && decide (max x.onAt (x.relAt.getD 0) + 100 ≤ d.cycles) then
    let d := (d.onBrg b (fun x => { x with bsuv := true })).syncBsuv (motOfBridge b)
    (d.gateFlag b 2).report (motOfBridge b) (phaseOf b) .bsuv
  else d

/-- The bootstrap condition of half-bridge b releases (R164). -/
def Dev.bootOk (d : Dev) (b : BridgeIx) : Dev :=
  if (d.brg b).bsuv then
    (d.onBrg b (fun x => { x with bsuv := false, relAt := some d.cycles })).syncBsuv (motOfBridge b)
  else d

/-! ### Dies (R161, R174, R179 to R181, R208) -/

/-- The GDUV level of the group's motors follows the die (R161, R177). -/
def Dev.syncGduv (d : Dev) (g : GroupIx) : Dev :=
  let on := (d.die g).gduv
  d.each (motsOf g) (fun d m => d.onMot m (fun x => { x with level := (x.level &&& 0b101) ||| (if on then 2 else 0) }))

/-- The gate-supply condition asserts (R161, R174, R181). -/
def Dev.supplyLow (d : Dev) (g : GroupIx) : Dev :=
  if d.runs && d.domOn (gateDom g) && (d.die g).everRdy && !(d.die g).gduv then
    let was := d.bit (aGdg g 1) 0
    let d := (d.setB (aGdg g 1) 0).when (!was) (fun d => d.stamp (aGdg g 3))
    let d := (d.onDie g (fun x => { x with gduv := true })).syncGduv g
    d.each (motsOf g) (fun d m => d.report m 0 .gduv)
  else d

/-- The gate-supply condition releases (R161). -/
def Dev.supplyOk (d : Dev) (g : GroupIx) : Dev := (d.onDie g (fun x => { x with gduv := false })).syncGduv g

/-- Every switch of the group's half-bridges is off, and their bootstrap conditions end (R162, R180, R181). -/
def Dev.bridgesOff (d : Dev) (g : GroupIx) : Dev :=
  let d := d.each (bridgesOf g) (fun d b =>
    (d.turnOff b).onBrg b (fun x => { x with hs := false, ls := false, bsuv := false, blanked := false, detected := false, aboveAt := none }))
  d.each (motsOf g) (fun d m => (d.syncBsuv m).syncComp m)

/-- VGDg falls below 4.5 V: RDY of a die whose domain is on falls, its outputs are off, and its comparators clear (R181,
R208); a die that is off finds VGDg low when it is switched on. [DEDUCED, log 49] -/
def Dev.supplyLost (d : Dev) (g : GroupIx) : Dev :=
  if (d.die g).low then d
  else if d.domOn (gateDom g) then ((d.onDie g (fun x => { x with rdy := false, low := true })).bridgesOff g).clearGlint g
  else d.onDie g (fun x => { x with low := true })

/-- VGDg has risen above 4.5 V again: the die repeats its start (R181). -/
def Dev.supplyBack (d : Dev) (g : GroupIx) : Dev :=
  if (d.die g).low then d.onDie g (fun x => { x with low := false, startAt := d.cycles, gap := d.stands }) else d

/-- The start-up time of die g has passed: the start needs no clock, so that part of it may pass while ck_core stands
still (R12, R179, R181). -/
def Dev.dieWaited (d : Dev) (g : GroupIx) : Bool :=
  d.stands || (d.die g).gap || decide ((d.die g).startAt + 40000 ≤ d.cycles)

/-- Die g becomes ready 200 µs after its switch-on or its supply's return (R179, R181, R208). [DEDUCED, log 51] -/
def Dev.dieReady (d : Dev) (g : GroupIx) : Dev :=
  let x := d.die g
  if d.resetN && d.domOn (gateDom g) && !x.low && !x.rdy && d.dieWaited g then
    ((d.onDie g (fun x => { x with rdy := true, everRdy := true })).clearGlint g).when d.runs (fun d => d.driveGroup g)
  else d

/-- The domain of die g is switched on: the die starts, with VGDg as it stands (R179, R181, R208). -/
def Dev.dieStart (d : Dev) (g : GroupIx) : Dev :=
  ((d.onDie g (fun x => { startAt := d.cycles, low := x.low, gap := d.stands })).clearGlint g).syncGduv g

/-- The domain of die g is switched off: its outputs are off and every report ends (R162, R180). [DEDUCED, log 49] -/
def Dev.dieStop (d : Dev) (g : GroupIx) : Dev :=
  let d := { d with reports := d.reports.filter (fun r => grpOf r.motor ≠ g) }
  (((d.onDie g (fun x => { low := x.low })).bridgesOff g).clearGlint g).syncGduv g

/-- The oldest report reaches its engine, 4 ticks after its detecting tick (R177). [DESIGN CHOICE, log 50] -/
def Dev.deliverReport (d : Dev) : Dev :=
  match d.reports with
  | [] => d
  | r :: rest => if d.runs && decide (r.at' + 4 ≤ d.cycles) then { d with reports := rest }.arrive r else d

/-! ### Glint latches (R201 to R207) -/

/-- The shunt voltage of motor m stands at x: a powered current comparator takes its output, and the current latch is
evaluated (R197, R201, R207). -/
def Dev.currentLimit (d : Dev) (m : MotorIx) (x : Int) : Dev :=
  if d.runs && d.glintOn (grpOf m) then
    let d := d.settleOut m
    if d.currentPowered m then
      ((d.putB (aCur m 5) 0 (d.currentOut m x)).onMot m (fun x => { x with clAt := d.cycles })).judgeLimit m
    else d
  else d

/-- Leading-edge blanking of motor m ends (R201). -/
def Dev.lebOver (d : Dev) (m : MotorIx) : Dev :=
  match (d.mot m).compOn with
  | some t =>
    if d.runs && decide (t + 20 * d.ifld (aCur m 2) 11 8 ≤ d.cycles) then
      (d.onMot m (fun x => { x with lebDone := true })).judgeLimit m
    else d
  | none => d

/-- The hard-short latch of motor m sets where the output is high; a setting from 0 reports (R204, R177). -/
def Dev.shortSet (d : Dev) (m : MotorIx) : Dev :=
  if d.glintOn (grpOf m) && d.bit (aCur m 5) 1 && !d.underCheck 1 m.1 then
    let was := d.bit (aCur m 4) 1
    let d := (d.setB (aCur m 4) 1).syncHshort m
    if was then d else d.report m 0 .hshort
  else d

/-- The shunt voltage of motor m stands at x: the hard-short comparator takes its output, and a high one sets the latch
(R197, R204). -/
def Dev.hardShort (d : Dev) (m : MotorIx) (x : Int) : Dev :=
  if d.runs && d.glintOn (grpOf m) then (d.putB (aCur m 5) 1 (d.shortOut m x)).shortSet m else d

/-- The bus latch of group g sets where the output is high: a setting from 0 counts, and trips the ladder when TRIPEN is 1
(R188, R206). [DEDUCED, log 47] -/
def Dev.busSet (d : Dev) (g : GroupIx) : Dev :=
  if d.glintOn g && d.bit (aBus g 1) 1 && !d.underCheck 3 g.1 then
    let was := d.bit (aBus g 1) 0
    let d := d.setB (aBus g 1) 0
    if was then d
    else
      let d := d.inc (aBus g 2)
      if d.bit (aSup g 0) 1 then d.busTrip g else d
  else d

/-- The bus voltage of group g stands at x: the bus comparator takes its output, and a high one sets the latch (R197,
R206). -/
def Dev.busLatch (d : Dev) (g : GroupIx) (x : Int) : Dev :=
  if d.runs && d.glintOn g then (d.putB (aBus g 1) 1 (d.busOut g x)).busSet g else d

/-- The terminal voltage of a phase of motor m stands at x: a powered phase comparator takes its output, and a high one
sets the latch (R197, R205, R207). -/
def Dev.phaseLatch (d : Dev) (m : MotorIx) (ph : Fin 3) (x : Int) : Dev :=
  if d.runs && d.glintOn (grpOf m) && d.phasePowered m then
    let settling := d.settling m
    (d.phaseLevel m ph x).when settling Dev.nextFree
  else d

/-- A host clear of LAT bits of motor m; what the device has set in this cycle stays set (R9). An on-time that the current
latch has kept from beginning stays out of this period, a high phase output sets its latch again, and so does a high
hard-short output, with a new report (R202, R204, R205). [DEDUCED, log 44] -/
def Dev.clearLat (d : Dev) (m : MotorIx) (mask : Word) : Dev :=
  let d := d.limitCheck m
  let d := (d.clrW (aCur m 4) (mask &&& ~~~(d.freshBits (aCur m 4)))).syncHshort m
  let d := d.each ((List.finRange 3).filter (fun ph => d.phHigh m ph && !d.underCheck 2 (bridgeOf m ph).1))
    (fun d ph => d.setB (aCur m 4) (2 + ph.1))
  if d.bit (aCur m 4) 1 then d else d.shortSet m

/-- A host clear of the bus latch of group g; a latch set in this cycle stays set (R9), and one cleared with its output
high sets again in the next cycle (R206). [DEDUCED, log 44] -/
def Dev.clearBlat (d : Dev) (g : GroupIx) (mask : Word) : Dev :=
  if bitOf mask 0 && d.bit (aBus g 1) 0 && !bitOf (d.freshBits (aBus g 1)) 0 then
    let d := d.clrW (aBus g 1) 1
    if d.bit (aBus g 1) 1 then { d with busDue := d.busDue ++ [g] } else d
  else d

/-! ### Chopper (R193, R194) -/

/-- BRKFBg as it is sampled now: STAT.FB shows it (R192). When it has stood together with BRKg for 400 ticks at a pair of
levels that R193 names, a chopper fault is declared. [DEDUCED, log 43] -/
def Dev.chopTimeout (d : Dev) (g : GroupIx) (fb : Bool) : Dev :=
  if d.runs then
    let d := if fb = d.bit (aSup g 7) 3 then d else (d.putB (aSup g 7) 3 fb).onGrp g (fun x => { x with fbAt := d.cycles })
    let x := d.grp g
    let on := d.brk g
    let long := decide (max x.brkAt x.fbAt + 400 ≤ d.cycles)
    let d := d.onGrp g (fun x => { x with epNf := x.epNf && on && fb, epStk := x.epStk && !on && !fb })
    if !d.chopEn g || !long then d
    else if on && fb && !(d.grp g).epNf then (d.onGrp g (fun x => { x with epNf := true })).chopFault g 0
    else if !on && !fb && !(d.grp g).epStk then (d.onGrp g (fun x => { x with epStk := true })).chopFault g 2
    else d
  else d

/-- A write of SUP[g].CFG: CHOPEN acts at once, and its checks begin with it (R191, R193 to R195). -/
def Dev.writeSupCfg (d : Dev) (g : GroupIx) (v : Word) : Dev :=
  let was := d.chopEn g
  let d := d.put (aSup g 0) v
  let on := bitOf v 0
  let d := if on && !was then d.onGrp g (fun x => { x with brkAt := d.cycles }) else d
  let d := if on then d else d.onGrp g (fun x => { x with test := none })
  d.setBrk g

/-- A write of SUP[g].TEST with GO (R194). -/
def Dev.testPulse (d : Dev) (g : GroupIx) (v : Word) : Dev :=
  if bitOf v 15 && d.level g = 0 && (d.grp g).test.isNone && d.chopEn g then
    (d.onGrp g (fun x => { x with test := some (d.cycles + 200 * max 1 (bits v 7 0)) })).setBrk g
  else d

/-- The test pulse of group g ends (R194). -/
def Dev.testPulseOver (d : Dev) (g : GroupIx) : Dev :=
  match (d.grp g).test with
  | some t => if d.runs && decide (t ≤ d.cycles) then (d.onGrp g (fun x => { x with test := none })).setBrk g else d
  | none => d

/-! ### The next ck_core cycle -/

/-- What the comparators do in the cycle after a write: registers written with RUN at 0 come into force (R211), and bus
latches cleared with their output high set again (R206). -/
def Dev.dueGlint (d : Dev) : Dev :=
  let d := { d.each d.glDue Dev.enforceGlint with glDue := [] }
  { d.each d.busDue Dev.busSet with busDue := [] }

/-- ck_core goes on to its next cycle: TIME and the sub-count advance (R34), the comparators do what was due, and a started
timebase reaches tick 0 (R33). [DESIGN CHOICE, log 1] -/
def Dev.nextCycle (d : Dev) : Dev :=
  (let e := d.dueFb
   { e with cycles := e.cycles + 1 }.newCycle.dueGlint).each (List.finRange 4) Dev.startDue

end Sys2Proof.Machine
end

