-- ==== Sys2Proof/Machine/Traces.lean ====
section
/-! DEFINITION. Traces (chapter 11): samples, alarms, the piecewise-linear compressor, anchors, the commit queue, the
trace store with its books, and the device-log mirror of R415. -/

namespace Sys2Proof.Machine

open Sys2Proof

/-! ### The trace store and its books (R289 to R293, R415) -/

/-- Slots of the trace store. -/
def slotCount : Nat := 196608

/-- Word `i` of slot `s`. [DESIGN CHOICE, log 6] -/
def Dev.slotWord (d : Dev) (s i : Nat) : Word := d.store.get (fun _ => 0) (4 * s + i)

/-- Write word `i` of slot `s`. -/
def Dev.putSlotWord (d : Dev) (s i : Nat) (v : Word) : Dev := { d with store := d.store.set (fun _ => 0) (4 * s + i) v }

/-- The commit word of slot `s`. -/
def Dev.slotMark (d : Dev) (s : Nat) : Word := d.marks.get (fun _ => 0) s

/-- Write the commit word of slot `s`. -/
def Dev.markSlot (d : Dev) (s : Nat) (v : Word) : Dev := { d with marks := d.marks.set (fun _ => 0) s v }

/-- The slot holds a record: its commit word is that of its four words (R413). -/
def Dev.slotHolds (d : Dev) (s : Nat) : Bool :=
  d.slotMark s = commitWord [d.slotWord s 0, d.slotWord s 1, d.slotWord s 2, d.slotWord s 3]

/-- Phase 1 of a slot's write: its commit word is 0, and its data words are written (R413). -/
def Dev.prepareSlot (d : Dev) (s : Nat) (w0 w1 w2 w3 : Word) : Dev :=
  ((((d.markSlot s 0).putSlotWord s 0 w0).putSlotWord s 1 w1).putSlotWord s 2 w2).putSlotWord s 3 w3

/-- Both phases: the slot holds the record (R413). -/
def Dev.writeSlot (d : Dev) (s : Nat) (r : Rec) : Dev :=
  (d.prepareSlot s r.w0 r.w1 r.w2 r.w3).markSlot s (commitWord [r.w0, r.w1, r.w2, r.w3])

/-- Make a slot empty: all zero, its commit word too (R413). -/
def Dev.clearSlot (d : Dev) (s : Nat) : Dev := d.prepareSlot s 0 0 0 0

/-- WPTR. -/
def Dev.wptr (d : Dev) : Nat := (d.w32 0xB486).toNat

/-- Add to one of the four counters of R292: offset 0 WRITTEN, 2 READABLE, 4 OVERWR, 6 DISC. -/
def Dev.book (d : Dev) (off : Nat) (v : BitVec 32) : Dev := d.put32 (0xB488 + off) (d.w32 (0xB488 + off) + v)

/-- The data words of a mirror copy. [DESIGN CHOICE, log 118] -/
def MirrorCopy.words (c : MirrorCopy) : List Word :=
  [c.gen, word (c.pendWr.toNat * 8 + c.old.toNat * 4 + c.wrap.toNat * 2 + c.full.toNat), word c.wptr, word (c.wptr / 65536),
   lo16 c.written, hi16 c.written, lo16 c.readable, hi16 c.readable, lo16 c.overwr, hi16 c.overwr, lo16 c.disc, hi16 c.disc]

/-- The copy is committed (R413). -/
def MirrorCopy.committed (c : MirrorCopy) : Bool := c.commit = commitWord c.words

/-- The copy with its commit word as phase 2 writes it. -/
def MirrorCopy.seal (c : MirrorCopy) : MirrorCopy := { c with commit := commitWord c.words }

/-- The copy with its write cut short (R413). -/
def MirrorCopy.tear (c : MirrorCopy) : MirrorCopy := { c with commit := 0 }

/-- A copy of the books for the device log. -/
def Dev.mirrorCopy (d : Dev) (gen : BitVec 16) (pend old : Bool) : MirrorCopy :=
  MirrorCopy.seal { gen := gen, pendWr := pend, old := old, wptr := d.wptr, written := d.w32 0xB488, readable := d.w32 0xB48A
                    overwr := d.w32 0xB48C, disc := d.w32 0xB48E, wrap := d.bit 0xB499 1, full := d.bit 0xB499 0, commit := 0 }

/-- Copy A or copy B of the device log where it is committed. -/
def DevLog.goodA (l : DevLog) : Option MirrorCopy := l.copyA.filter MirrorCopy.committed
/-- The same for copy B. -/
def DevLog.goodB (l : DevLog) : Option MirrorCopy := l.copyB.filter MirrorCopy.committed

/-- The committed copy of higher generation, taken modulo 2^16 (R415). -/
def DevLog.newest (l : DevLog) : Option MirrorCopy :=
  match l.goodA, l.goodB with
  | some a, some b => some (if (a.gen - b.gen).msb then b else a)
  | some a, none => some a
  | none, b => b

/-- The next mirror copy goes over copy B: copy A is the committed copy of higher generation (R415). -/
def DevLog.nextB (l : DevLog) : Bool :=
  match l.goodA, l.goodB with
  | some a, some b => !(a.gen - b.gen).msb
  | some _, none => true
  | none, _ => false

/-- Write a mirror copy over the older of the two, or over one that is not committed, with the next generation (R415). -/
def Dev.writeMirror (d : Dev) (pend old : Bool) : Dev :=
  let l := d.devLog
  let c := d.mirrorCopy (match l.newest with | some x => x.gen + 1 | none => 1) pend old
  if l.nextB then { d with devLog := { l with copyB := some c }, logWrote := some (.copyB, d.cycles) }
  else { d with devLog := { l with copyA := some c }, logWrote := some (.copyA, d.cycles) }

/-- SESSION is written to the device log (R354). -/
def Dev.logSession (d : Dev) : Dev :=
  { d with
    devLog := { d.devLog with session := some (d.w 0x52), sesMark := commitWord [d.w 0x52] }
    logWrote := some (.session, d.cycles) }

/-- D3 LOG is on. -/
def Dev.logOn (d : Dev) : Bool := d.domOn 3

/-- The books change and are mirrored while D3 LOG is on. -/
def Dev.mirrorBooks (d : Dev) : Dev := if d.logOn then d.writeMirror false false else d

/-- A record is discarded (R47, R292). [DESIGN CHOICE, log 64] -/
def Dev.discardRec (d : Dev) : Dev := ((d.book 0 1).book 6 1).mirrorBooks

/-- Records are discarded: D3 is off, the store is full, or its memory is under test (R47, R291, R474). -/
def Dev.noStore (d : Dev) : Bool := !d.logOn || d.bit 0xB499 0 || d.bist.run = some 2

/-- A channel makes a record: it is queued, or discarded (R290 to R292). [DESIGN CHOICE, log 64] -/
def Dev.makeRec (d : Dev) (r : Rec) : Dev :=
  if d.noStore then d.discardRec else { d with recq := d.recq ++ [r] }

/-- The write pointer moves on; the first wrap sets WRAP, and FULL sets at a wrap in stop mode (R291). -/
def Dev.advanceWptr (d : Dev) : Dev :=
  let n := d.wptr + 1
  if n < slotCount then d.put32 0xB486 (BitVec.ofNat 32 n)
  else
    let d := (d.put32 0xB486 0).putB 0xB499 1 true
    if d.bit 0xB480 0 then d.putB 0xB499 0 true else d

/-- A record that commits in the cycle of CMD.EMPTY is committed first and then emptied (R291): its books. It overwrites
a record where `old` says so; else it, or the FULL store that discards it, adds to DISC (R292). -/
def Dev.commitEmptied (d : Dev) (old : Bool) : Dev := ((d.book 0 1).book (if old then 4 else 6) 1).writeMirror false false

/-- The oldest queued record commits, or is discarded (R290 to R292, R414, R415). [DESIGN CHOICE, log 64] -/
def Dev.commitRec (d : Dev) : Dev :=
  match d.recq with
  | [] => d
  | r :: rest =>
    if d.logOn && !d.domRdy 3 then d
    else
      let d := { d with recq := rest }
      if d.noStore then d.discardRec
      else if (d.emptied.map Prod.fst) = some d.cycles then d.commitEmptied ((d.emptied.map Prod.snd).getD false)
      else
        let s := d.wptr
        let old := d.slotHolds s
        let d := (d.writeMirror true old).writeSlot s r
        let d := (d.book 0 1).book (if old then 4 else 2) 1
        d.advanceWptr.writeMirror false false

/-- CMD.EMPTY (R291, R292); while D3 LOG is off the device log takes the books when it is ready again.
[DEDUCED, log 63] -/
def Dev.emptyStore (d : Dev) : Dev :=
  let n := d.w32 0xB48A
  let d := { d with store := [], marks := [], emptied := some (d.cycles, d.slotHolds d.wptr && !d.bit 0xB499 0) }
  (((d.put32 0xB486 0).put 0xB499 0).put32 0xB48A 0 |>.book 6 n).mirrorBooks

/-- An uncorrectable word in a stored record: the slot becomes empty and is counted (R293, R408). [DEDUCED, log 65] -/
def Dev.loseSlot (d : Dev) (s : Nat) : Dev :=
  let d := if d.slotHolds s then (((d.clearSlot s).book 2 (-1)).book 6 1).mirrorBooks else d.clearSlot s
  d.cause 0x32 0x100 54

/-! ### Samples (R277 to R281) -/

/-- This cycle is a trace tick by TIME (R277). [DESIGN CHOICE, log 7] -/
def Dev.tickCycle (d : Dev) : Bool := decide (0 < d.cycles) && d.cycles % 200 = 0 && d.time.toNat % 10000 = 0

/-- TTICK. -/
def Dev.ttick (d : Dev) : BitVec 32 := d.w32 0xB483

/-- The trace tick that a write of this cycle belongs to: a write in a tick's cycle counts as earlier than it (R280). -/
def Dev.hinTick (d : Dev) : Nat := if d.tickCycle && d.tickAt ≠ d.cycles then d.ticks + 1 else d.ticks

/-- The 16-bit source word of a channel as a number under SIGN. -/
def signedBy (sign : Bool) (w : Word) : Int := if sign then w.toInt else w.toNat

/-- The source value x of channel t with its SRC word in force, or none when the sample is absent (R278, R280). -/
def Dev.traceSource (d : Dev) (t : TraceIx) (src : Word) : Option Int :=
  let ix := bits src 7 0
  let sign := bitOf src 14
  match bits src 13 12 with
  | 0 =>
    let p : GroupIx := ⟨ix / 64 % 4, Nat.mod_lt _ (by decide)⟩
    if d.hasGrp p && d.prmOn p && d.accValid p (ix % 64) then some (signedBy sign (d.w (aAcc p (ix % 64) 2))) else none
  | 1 => if h : ix < 24 then some (d.spd ⟨ix, h⟩) else some (d.spd 0)
  | 2 =>
    match (d.trc t).hinAt with
    | none => none
    | some w =>
      let hf := d.fld 0xB481 7 0
      if hf = 0 ∨ d.ticks ≤ w + hf then some (signedBy sign (d.w (0xB400 + t.1))) else none
  | _ => if d.bit 0xC040 0 then some (signedBy sign (d.w (0xC000 + ix % 64))) else none

/-- The sample of a source value (R279). -/
def traceSample (src : Word) (x : Int) : Int :=
  let v := x / 2 ^ bits src 11 8
  if bitOf src 14 then satWord v else clampInt 0 65535 v

/-! ### Alarms (R295, R296) -/

/-- An alarm of channel t changes: its cause and event. -/
def Dev.alarmEvent (d : Dev) (t : TraceIx) : Dev := d.cause (0xB490 + t.1 / 16) (1#16 <<< (t.1 % 16)) (40 + t.1 / 16)

/-- The count and state of one alarm at a sample: counting toward a change, or a change after DWELL samples. -/
def alarmStep (dwell n : Nat) (meets : Bool) : Nat × Bool :=
  if meets then (if dwell ≤ n + 1 then (0, true) else (n + 1, false)) else (0, false)

/-- One alarm of channel t at a present sample: STAT bit `bit`, the assert and the release condition. -/
def Dev.alarm (d : Dev) (t : TraceIx) (bit n : Nat) (assert release : Bool) : Dev × Nat :=
  let on := d.bit (aTr t 7) bit
  let dwell := max 1 (d.ifld (aTr t 5) 13 8)
  let (n, change) := alarmStep dwell n (if on then release else assert)
  let d := if change then d.putB (aTr t 7) bit (!on) else d
  (if change && (!on || d.ibit (aTr t 1) 8) then d.alarmEvent t else d, n)

/-- The alarm rule of channel t at a sample; a disabled alarm is released with its count at 0, at an absent sample too. -/
def Dev.alarms (d : Dev) (t : TraceIx) (y : Option Int) : Dev :=
  match y with
  | none =>
    let d := d.when (!d.ibit (aTr t 5) 15) (fun d => d.putB (aTr t 7) 15 false)
    let d := d.when (!d.ibit (aTr t 5) 14) (fun d => d.putB (aTr t 7) 14 false)
    d.onTrc t (fun x => { x with hiCnt := 0, loCnt := 0 })
  | some y =>
    let sign := d.ibit (aTr t 0) 14
    let hi := signedBy sign (d.iw (aTr t 3))
    let lo := signedBy sign (d.iw (aTr t 4))
    let hys : Int := d.ifld (aTr t 5) 7 0
    let (d, hc) := if d.ibit (aTr t 5) 15 then
        d.alarm t 15 (d.trc t).hiCnt (decide (hi < y)) (decide (y < hi - hys))
      else (d.putB (aTr t 7) 15 false, 0)
    let (d, lc) := if d.ibit (aTr t 5) 14 then
        d.alarm t 14 (d.trc t).loCnt (decide (y < lo)) (decide (lo + hys < y))
      else (d.putB (aTr t 7) 14 false, 0)
    d.onTrc t (fun x => { x with hiCnt := hc, loCnt := lc })

/-- Live word WALM (R276). -/
def Dev.walm (d : Dev) : Word :=
  (List.finRange 128).foldl (fun acc (t : TraceIx) =>
    let wp := d.ifld (aTr t 1) 15 12
    if d.bit (aTr t 0) 15 && wp < 12 && (d.bit (aTr t 7) 15 || d.bit (aTr t 7) 14) then acc ||| (1#16 <<< wp) else acc) 0

/-! ### The compressor (R282 to R287) -/

/-- A segment that begins at a vertex with a first candidate y. -/
def Seg.begin (y0 : Int) (tick : BitVec 32) (e : Nat) (y : Int) : Seg :=
  { y0 := y0, tick := tick, c := 1, yc := y, ln := y - e - y0, ld := 1, un := y + e - y0, ud := 1 }

/-- A vertex with no candidate. -/
def Seg.vertex (y0 : Int) (tick : BitVec 32) : Seg :=
  { y0 := y0, tick := tick, c := 0, yc := y0, ln := 0, ld := 1, un := 0, ud := 1 }

/-- The tick of the candidate, where a closed segment ends. -/
def Seg.endTick (s : Seg) (div : Nat) : BitVec 32 := s.tick + BitVec.ofNat 32 (s.c * div)

/-- The segment takes y as its candidate when the line to it stays within the bounds (R282). -/
def Seg.extend (s : Seg) (e div : Nat) (y : Int) : Option Seg :=
  let n := s.c + 1
  let ok := s.c = 0 || (decide (s.ln * n ≤ (y - s.y0) * s.ld) && decide ((y - s.y0) * s.ud ≤ s.un * n))
  if ok && decide (n * div ≤ 65535) then
    let lo := s.c = 0 || decide (s.ln * n < (y - e - s.y0) * s.ld)
    let hi := s.c = 0 || decide ((y + e - s.y0) * s.ud < s.un * n)
    some { s with
      c := n, yc := y
      ln := if lo then y - e - s.y0 else s.ln, ld := if lo then n else s.ld
      un := if hi then y + e - s.y0 else s.un, ud := if hi then n else s.ud }
  else none

/-- Write a segment record of channel t (R288). -/
def Dev.writeSeg (d : Dev) (t : TraceIx) (s : Seg) : Dev :=
  let x := d.trc t
  let seq := (d.fld (aTr t 7) 6 0 + 1) % 128
  let d := d.putF (aTr t 7) 6 0 seq
  d.makeRec { w0 := word (0x4000 + t.1 * 128 + seq), w1 := iword s.yc, w2 := word (s.c * x.div), w3 := word (x.div * 256 + x.e) }

/-- Write the open segment of channel t when it has a candidate. -/
def Dev.flushSeg (d : Dev) (t : TraceIx) : Dev :=
  match (d.trc t).seg with
  | some s => if 0 < s.c then d.writeSeg t s else d
  | none => d

/-- Write an anchor of channel t (R284, R288). [DEDUCED, log 62] -/
def Dev.writeAnchor (d : Dev) (t : TraceIx) (rsn : Nat) (y : Int) (tick : BitVec 32) : Dev :=
  let d := (d.putF (aTr t 7) 6 0 0).onTrc t (fun x => { x with pend := 0, anchAt := d.ticks })
  d.makeRec { w0 := word (0x8000 + t.1 * 128 + rsn * 16 + d.fld 0x52 3 0), w1 := iword y, w2 := lo16 tick, w3 := hi16 tick }

/-- Set the open segment of channel t and STAT.OPEN. -/
def Dev.setSeg (d : Dev) (t : TraceIx) (s : Option Seg) : Dev :=
  (d.putB (aTr t 7) 12 s.isSome).onTrc t (fun x => { x with seg := s })

/-- Make an anchor reason pending (R283). -/
def Dev.pendAnchor (d : Dev) (t : TraceIx) (code : Nat) : Dev :=
  d.onTrc t (fun x => { x with pend := x.pend ||| (1#8 <<< code) })

/-- Drop the open segment of channel t and make a reason pending (R294). -/
def Dev.dropSeg (d : Dev) (t : TraceIx) (code : Nat) : Dev := (d.setSeg t none).pendAnchor t code

/-- The tolerance and DIV in force for channel t come from its registers. -/
def Dev.newTraceCfg (d : Dev) (t : TraceIx) : Dev :=
  let e := d.fld (aTr t 1) 7 0
  let v := max 1 (d.fld (aTr t 2) 15 8)
  d.onTrc t (fun x => { x with e := e, div := v })

/-- The lowest pending anchor reason. -/
def Trace.reason (x : Trace) : Option Nat := (List.range 8).find? (fun i => x.pend.getLsbD i)

/-- A break anchor at the present sample (R284). -/
def Dev.breakAnchor (d : Dev) (t : TraceIx) (rsn : Nat) (y : Int) : Dev :=
  (d.writeAnchor t rsn y d.ttick).setSeg t (some (Seg.vertex y d.ttick))

/-- A present sample of channel t without a pending reason (R282). -/
def Dev.compress (d : Dev) (t : TraceIx) (s : Seg) (y : Int) : Dev :=
  let x := d.trc t
  match s.extend x.e x.div y with
  | some s => d.setSeg t (some s)
  | none => (d.writeSeg t s).setSeg t (some (Seg.begin s.yc (s.endTick x.div) x.e y))

/-- The compressor at a sample of channel t (R282 to R285, R287). -/
def Dev.compressor (d : Dev) (t : TraceIx) (y : Option Int) : Dev :=
  match y with
  | none => (((d.flushSeg t).setSeg t none).pendAnchor t 5).newTraceCfg t
  | some y =>
    let x := d.trc t
    let ancht := d.fld (aTr t 2) 7 0
    let d := if x.seg.isSome && ancht ≠ 0 && decide (x.anchAt + ancht * 6000 ≤ d.ticks) then d.pendAnchor t 6 else d
    match (d.trc t).seg, (d.trc t).reason with
    | none, r => (d.newTraceCfg t).breakAnchor t (r.getD 5) y
    | some s, none => (d.newTraceCfg t).compress t s y
    | some s, some r =>
      let d := d.flushSeg t
      if r < 6 then (d.newTraceCfg t).breakAnchor t r y
      else
        let v := s.endTick x.div
        let d := (d.newTraceCfg t).writeAnchor t r s.yc v
        d.setSeg t (some (Seg.begin s.yc v (d.trc t).e y))

/-- A sample of channel t at the present trace tick: source, alarms, compressor (R281). -/
def Dev.traceSampleNow (d : Dev) (t : TraceIx) : Dev :=
  let d := d.enforce (aTr t 0) (aTr t 6)
  let src := d.w (aTr t 0)
  let y := (d.traceSource t src).map (traceSample src)
  let d := (d.putB (aTr t 7) 13 y.isNone)
  let d := match y with | some v => d.put (aTr t 6) (iword v) | none => d
  let d := (d.alarms t y).compressor t y
  d.onTrc t (fun x => { x with wait := x.div })

/-- The present cycle is a trace tick that has not been taken (R277). -/
def Dev.tickNow (d : Dev) : Bool := d.runs && d.tickCycle && decide (d.tickAt ≠ d.cycles)

/-- A trace tick: every enabled channel that is due samples, in the order of the channels (R277, R281). -/
def Dev.traceTick (d : Dev) : Dev :=
  if d.tickNow then
    let d := { d.put32 0xB483 (d.ttick + 1) with tickAt := d.cycles, ticks := d.ticks + 1 }
    d.each (List.finRange 128) (fun d t =>
      let x := d.trc t
      if !x.on then d
      else if x.wait ≤ 1 then d.traceSampleNow t
      else d.onTrc t (fun x => { x with wait := x.wait - 1 }))
  else d

/-! ### Channel writes (R287) -/

/-- A write of SRC. [DEDUCED, log 62] -/
def Dev.writeTraceSrc (d : Dev) (t : TraceIx) (v : Word) : Dev :=
  let was := d.bit (aTr t 0) 15
  let d := d.put (aTr t 0) v
  match was, bitOf v 15 with
  | false, true =>
    let d := (d.newTraceCfg t).pendAnchor t 0
    d.onTrc t (fun x => { x with on := true, wait := x.div })
  | true, false => ((d.flushSeg t).setSeg t none).onTrc t (fun x => { x with on := false })
  | _, _ => d.pendAnchor t 3

/-- A write of TAG: a change of E makes CFG pending. [DEDUCED, log 62] -/
def Dev.writeTraceTag (d : Dev) (t : TraceIx) (v : Word) : Dev :=
  let same := d.fld (aTr t 1) 7 0 = bits v 7 0
  let d := d.put (aTr t 1) v
  if same then d else d.pendAnchor t 3

/-- A write of RATE: a change of DIV makes CFG pending. [DEDUCED, log 62] -/
def Dev.writeTraceRate (d : Dev) (t : TraceIx) (v : Word) : Dev :=
  let same := d.fld (aTr t 2) 15 8 = bits v 15 8
  let d := d.put (aTr t 2) v
  if same then d else d.pendAnchor t 3

/-- A write of HIN[t] (R280). -/
def Dev.writeHin (d : Dev) (t : TraceIx) (v : Word) : Dev :=
  (d.put (0xB400 + t.1) v).onTrc t (fun x => { x with hinAt := some d.hinTick })

/-- A write of TRACE.CMD (R283, R291). [DEDUCED, log 63] -/
def Dev.writeTraceCmd (d : Dev) (v : Word) : Dev :=
  let d := if bitOf v 15 then d.pendAnchor ⟨bits v 6 0 % 128, Nat.mod_lt _ (by decide)⟩ 7 else d
  if bitOf v 14 then d.emptyStore else d

/-- Every enabled channel makes a reason pending. -/
def Dev.pendEnabled (d : Dev) (code : Nat) : Dev :=
  d.each (List.finRange 128) (fun d (t : TraceIx) => if d.bit (aTr t 0) 15 then d.pendAnchor t code else d)

end Sys2Proof.Machine
end

