-- ==== Sys2Proof/Machine/PowerOps.lean ====
section
/-! DEFINITION. Thermal readings and the power domains (chapter 19), and what reads an accumulator at its close. -/

namespace Sys2Proof.Machine

open Sys2Proof

/-! ### Thermal requests (R451 to R453) -/

/-- Change sensor s. -/
def Dev.onSen (d : Dev) (s : SensorIx) (f : ThermSen → ThermSen) : Dev := { d with therm := upd d.therm s f }

/-- Sensor s. -/
def Dev.sen (d : Dev) (s : SensorIx) : ThermSen := d.therm[s]

/-- The array that reads sensor s (R451). -/
def Dev.thermArray (d : Dev) (s : SensorIx) : Option GroupIx :=
  if h : 0 < s.1 then some ⟨s.1 - 1, by omega⟩
  else (List.finRange 4).find? (fun p => d.hasGrp p && d.prmOn p && d.power.prismLock)

/-- Channel code of sensor s (R451). -/
def thermCh (s : SensorIx) : Nat := if s.1 = 0 then 38 else 37

/-- A dropped request: NOREAD sets and the qualification restarts (R453). -/
def Dev.thermMissed (d : Dev) (s : SensorIx) : Dev :=
  (d.putB (aSen s 7) 1 true).onSen s (fun x => { x with warnAt := none, thrAt := none })

/-- Hand the next waiting request to array p, in order of the sensors (R453). [DEDUCED, log 56] -/
def Dev.thermFeed (d : Dev) (p : GroupIx) : Dev :=
  if (d.prm p).therm.isSome || (match (d.prm p).inUrg with | some u => u.thermal.isSome | none => false) then d
  else
    match (List.finRange 5).find? (fun s => decide (0 < (d.sen s).queued) && !(d.sen s).sent && (d.sen s).arr = p) with
    | none => d
    | some s =>
      let u : Urgent := { ch := thermCh s, acc := d.fld (aSen s 0) 5 0, left := 4, thermal := some s }
      (d.onSen s (fun x => { x with queued := x.queued - 1, sent := true, sentArr := p, acc := u.acc })).onPrm p (fun x =>
        { x with therm := some u, pwr := true })

/-- The request of sensor s that array p has is over, and one that another array has accepted meanwhile goes to it (R453). -/
def Dev.thermOver (d : Dev) (p : GroupIx) (s : SensorIx) : Dev :=
  let d := d.onSen s (fun x => { x with sent := false })
  let q := (d.sen s).arr
  if q ≠ p && d.prmReady q then d.thermFeed q else d

/-- Request a reading of sensor s (R452, R453). [DEDUCED, log 56] -/
def Dev.thermRequest (d : Dev) (s : SensorIx) : Dev :=
  if !d.hasSen s then d
  else
    match d.thermArray s with
    | some p =>
      if d.prmReady p then (d.onSen s (fun x => { x with queued := x.queued + 1, arr := p })).thermFeed p else d.thermMissed s
    | none => d.thermMissed s

/-- The thermal request that array p has accepted and not served is dropped (R453). -/
def Dev.thermFlush (d : Dev) (p : GroupIx) : Dev :=
  let d := d.onPrm p (fun x => { x with
    therm := none, inUrg := match x.inUrg with | some u => if u.thermal.isSome then none else some u | none => none })
  d.each ((List.finRange 5).filter (fun s => (d.sen s).sentArr = p && (d.sen s).sent)) (fun d s =>
    (d.thermMissed s).thermOver p s)

/-- Array p can serve no request any more: the one that it has accepted is dropped, and so are those that wait for it
(R453). -/
def Dev.thermDrop (d : Dev) (p : GroupIx) : Dev :=
  let d := d.thermFlush p
  d.each ((List.finRange 5).filter (fun s => (d.sen s).arr = p && decide (0 < (d.sen s).queued))) (fun d s =>
    (d.thermMissed s).onSen s (fun x => { x with queued := 0 }))

/-- The reading period ends: a reading of every present sensor is requested (R453). -/
def Dev.thermPeriod (d : Dev) : Dev :=
  let len := 1000 * max 1 (d.ifld 0x1000 7 0)
  if d.runs && decide (d.thermAt + len ≤ d.micros) then
    let d := { d with thermAt := d.thermAt + len }
    (d.each (List.finRange 5) Dev.thermRequest).enforce 0x1000 0x1001
  else d

/-! ### Warning and throttle (R454 to R456) -/

/-- One state of sensor s judged at a reading: `bit` of THERM.STAT, the cause register and source of an assertion, and
the stamp of the first reading that met the condition for a change. -/
def Dev.thermJudge (d : Dev) (s : SensorIx) (bit cause src : Nat) (thr : Int) (first : Option Nat) : Dev × Option Nat :=
  let t := d.sw (aSen s 4)
  let on := d.bit 0x1001 (bit + s.1)
  let met := if on then decide (t < thr - d.uw (aSen s 3)) else decide (thr ≤ t)
  if !met then (d, none)
  else
    let t0 := first.getD d.micros
    if d.micros < t0 + 1000 then (d, some t0)
    else
      let d := d.putB 0x1001 (bit + s.1) (!on)
      if on then (d.cause 0x1005 (1#16 <<< (bit + s.1)) 27, none) else (d.cause cause (1#16 <<< s.1) src, none)

/-- A reading of sensor s (R452, R455, R456). -/
def Dev.thermReading (d : Dev) (s : SensorIx) (v : Word) : Dev :=
  let d := ((d.put (aSen s 4) v).stampTime (aSen s 5)).put (aSen s 7) 1
  let d := d.onSen s (fun x => { x with sent := false })
  let (d, w) := d.thermJudge s 10 0x1002 24 (d.sw (aSen s 1)) (d.sen s).warnAt
  let (d, t) := d.thermJudge s 5 0x1003 25 (d.sw (aSen s 2)) (d.sen s).thrAt
  d.onSen s (fun x => { x with warnAt := w, thrAt := t })

/-! ### A closed accumulator (R78, R183, R236, R452) -/

/-- The supply block, the engines and the thermal system read the value that accumulator a of array p has closed with
(R75, R183, R452). -/
def Dev.closeRead (d : Dev) (p : GroupIx) (a : Fin 64) : Dev :=
  let v := d.w (aAcc p a 2)
  let d := if d.fld (aSup p 0) 7 2 = a.1 then d.supEvaluate p v.toNat else d
  let d := d.each ((motsOf p).filter (fun m => d.cmdForm m = 1 && d.ifld (aMot m 0x40) 7 2 = a.1))
    (fun d m => d.measureCmd m v.toNat false)
  (d.each ((List.finRange 5).filter (fun s => (d.sen s).sent && (d.sen s).sentArr = p && (d.sen s).acc = a.1))
    (fun d s => (d.thermReading s v).thermOver p s)).thermFeed p

/-- Accumulator a of array p closes: its value, then what reads it in ck_core; while ck_core stands still, the value
waits for its return (R12, R21, R35). [DEDUCED, log 57] -/
def Dev.closed (d : Dev) (p : GroupIx) (a : Fin 64) (late : Bool) : Dev :=
  let d := d.closeCount p a late
  if d.stands then
    (if d.closeLate.contains (p, a) then d else { d with closeLate := d.closeLate ++ [(p, a)] })
  else d.closeRead p a

/-- The values that closed while ck_core stood still are read in its first cycle (R21). -/
def Dev.closesLate (d : Dev) : Dev := { d.closeLate.foldl (fun d c => d.closeRead c.1 c.2) d with closeLate := [] }

/-- A FRAME count that is complete closes at its close point (R237, R238). -/
def Dev.closeDue (d : Dev) (p : GroupIx) (a : Fin 64) : Dev :=
  let c := d.acc p a
  if d.runs && d.prmReady p && c.frame && !c.closed && !c.waits && decide (c.total ≤ c.n) &&
      decide (d.closePoint p c ≤ d.frameTick p) then
    d.closed p a false
  else d

/-- The oldest conversion in flight delivers its raw code, while PLL_PRISM has lock (R213 to R219, R235, R245). -/
def Dev.sample (d : Dev) (p : GroupIx) (raw : Word) : Dev :=
  match (d.prm p).flight with
  | [] => d
  | v :: rest =>
    if !d.prmReady p then d
    else
    let d := d.onPrm p (fun x => { x with flight := rest })
    if v.ch = 63 then d
    else if h : v.acc < 64 then
      match d.accEnter p ⟨v.acc, h⟩ (d.correct p v.slice v.ch raw) with
      | (d, .counted) => d
      | (d, .closeNow) => d.closed p ⟨v.acc, h⟩ false
      | (d, .closeLate) => d.closed p ⟨v.acc, h⟩ true
    else d

/-- PLL_PRISM has lock again: partial counts are discarded, trackers and the sequence restart, and a complete count
whose close point has passed closes late (R245, R514). -/
def Dev.prismBack (d : Dev) (p : GroupIx) : Dev :=
  let d := (d.discardPartial p).restartTrks p
  let d := d.each (List.finRange 64) (fun d a =>
    let c := d.acc p a
    if c.frame && !c.closed && !c.waits && decide (c.total ≤ c.n) && decide (d.closePoint p c < d.frameTick p) then
      d.closed p a true
    else d)
  d.resumeSeq p

/-! ### Domains (R460 to R464) -/

/-- Domain n is held off by a thermal shutdown (R460). -/
def Dev.shutOff (d : Dev) (n : Nat) : Bool :=
  (decide (4 ≤ n) && d.bit 0x1001 0) || (decide (6 ≤ n) && n - 6 < d.part.groups && d.bit 0x1001 (n - 5))

/-- Domain n is held off: by a thermal shutdown, or D6 to D9 by a memory test (R460, R473). -/
def Dev.forcedOff (d : Dev) (n : Nat) : Bool := d.shutOff n || (decide (6 ≤ n) && d.bist.run.isSome)

/-- Live word POWER.FORCE. -/
def Dev.forceWord (d : Dev) : Word :=
  word (((List.range 10).filter (fun n => 3 ≤ n && d.hasDom n && d.forcedOff n)).map (fun n => 2 ^ n)).sum

/-- Domain n is to be on: requested, present, and not held off; D3 LOG not before step 3 of the start (R461). -/
def Dev.domWanted (d : Dev) (n : Nat) : Bool :=
  d.resetN && 3 ≤ n && d.hasDom n && d.bit 0x800 n && !d.forcedOff n && (n ≠ 3 || decide (3 ≤ d.loader.step))

/-- Groups whose motors need domain n (R46). -/
def groupsOf (n : Nat) : List GroupIx :=
  (List.finRange 4).filter (fun g => n = gateDom g || n = prismDom g)

/-- The motors of group g go to IDLE because a domain they need is off (R464). -/
def Dev.domainIdle (d : Dev) (g : GroupIx) : Dev :=
  let busy := (motsOf g).any (fun m => (d.mot m).state ≠ .idle)
  let d := d.each ((motsOf g).filter (fun m => (d.mot m).state ≠ .idle)) Dev.toIdle
  (d.onGrp g (fun x => { x with idleDom := x.idleDom || busy })).driveGroup g

/-- A change of domain n: POWER.CAUSE and E58 (R463). -/
def Dev.domChange (d : Dev) (n : Nat) (therm : Bool) : Dev :=
  d.cause 0x804 (word (2 ^ n + (if therm then 0x8000 else 0))) 58

/-- PLL_PRISM runs while D4 or D5 is on; CLOCK.STAT shows it and its lock (R462). -/
def Dev.syncPrismPll (d : Dev) : Dev :=
  let on := d.domOn 4 || d.domOn 5
  let lock := on && d.power.prismLock
  let d := { d with power := { d.power with prismLock := lock, prismLost := on && d.power.prismLost } }
  (d.putB 0x810 1 on).putB 0x810 0 lock

/-- Domain n is switched off (R180, R453, R462 to R464). [DEDUCED, log 55] -/
def Dev.domOff (d : Dev) (n : Nat) (therm : Bool) : Dev :=
  let d := ((d.putB 0x801 n false).putB 0x802 n false).domChange n therm
  let gs := groupsOf n
  let d := if n = 4 ∨ n = 5 then
      (d.each gs (fun d p => (d.thermDrop p).initPrism p)).syncPrismPll
    else if 6 ≤ n then d.each gs Dev.dieStop
    else d
  d.each gs Dev.domainIdle

/-- Domains that are on and are no longer to be on are switched off; D3 stays on while a memory test runs (R461, R473). -/
def Dev.domainsOff (d : Dev) (therm : Bool) : Dev :=
  d.each ((List.range 10).filter (fun n => 3 ≤ n && d.domOn n && !d.domWanted n && !(n = 3 && d.bist.run.isSome)))
    (fun d n => d.domOff n therm)

/-- One bit of ten takes a value. -/
def setBit10 (x : BitVec 10) (n : Fin 10) (b : Bool) : BitVec 10 := if b then x ||| (1#10 <<< n.1) else x &&& ~~~(1#10 <<< n.1)

/-- The switch-on of domain n starts (R462, R463, R179, R184, R240, R242). -/
def Dev.domStart (d : Dev) (n : Fin 10) : Dev :=
  let therm := d.power.thermRet.getLsbD n.1
  let d := (d.putB 0x801 n.1 true).domChange n.1 therm
  let pw := d.power
  let d := { d with power := { pw with
    startAt := upd pw.startAt n (fun _ => d.cycles), lastOn := some d.cycles, thermRet := pw.thermRet &&& ~~~(1#10 <<< n.1)
    gap := setBit10 pw.gap n d.stands, gapOn := d.stands, mustLock := setBit10 pw.mustLock n (!pw.prismLock) } }
  if n.1 = 4 ∨ n.1 = 5 then (d.each (groupsOf n.1) (fun d p => (d.initPrism p).supInvalid p)).syncPrismPll
  else if 6 ≤ n.1 then d.each (groupsOf n.1) Dev.dieStart
  else d

/-- Domain n may start now: it is wanted and off, no lower domain waits, and 10 µs have passed since the last start
(R462); the power control has no clock, so that they may pass while ck_core stands still (R12, R460). -/
def Dev.domMayStart (d : Dev) (n : Fin 10) : Bool :=
  d.domWanted n.1 && !d.domOn n.1 && (List.range n.1).all (fun k => !d.domWanted k || d.domOn k) &&
  (match d.power.lastOn with | some t => d.stands || d.power.gapOn || decide (t + 2000 ≤ d.cycles) | none => true)

/-- Ticks from the start of a domain's switch-on until it is ready: for D4 and D5 by whether PLL_PRISM had lock at that start
(R462). -/
def Dev.domReadyAfter (d : Dev) (n : Fin 10) : Nat :=
  if n.1 = 3 then 4000
  else if 6 ≤ n.1 then 40000
  else if d.power.mustLock.getLsbD n.1 then 30000
  else 10000

/-- The time of a domain's switch-on has passed; part of it may pass while ck_core stands still (R12, R462). -/
def Dev.domWaited (d : Dev) (n : Fin 10) : Bool :=
  d.stands || d.power.gap.getLsbD n.1 || decide (d.power.startAt[n] + d.domReadyAfter n ≤ d.cycles)

/-- Domain n is ready (R228, R294, R462); after the start sequence, the mirrors of the device log are written at the
ready point of D3 (R356, R415). PLL_PRISM has locked by the ready point of D4 or D5, unless it has lost that lock (R245).
[DEDUCED, log 51] -/
def Dev.domReady (d : Dev) (n : Fin 10) : Dev :=
  if d.domOn n.1 && !d.domRdy n.1 && d.domWaited n then
    let d := d.putB 0x802 n.1 true
    if n.1 = 3 then
      let d := d.each ((List.finRange 128).filter (fun (t : TraceIx) => d.bit (aTr t 0) 15)) (fun d t => d.dropSeg t 2)
      if 4 ≤ d.loader.step then (d.writeMirror false false).logSession
      else d
    else if n.1 = 4 ∨ n.1 = 5 then
      let d := { d with power := { d.power with prismLock := !d.power.prismLost } }.syncPrismPll
      d.each (groupsOf n.1) (fun d p => if d.hasGrp p then d.resumeSeq p else d)
    else d.each (groupsOf n.1) Dev.dieReady
  else d

/-- A write of POWER.REQ (R461). -/
def Dev.writeReq (d : Dev) (v : Word) : Dev :=
  let d := d.put 0x800 v
  let d := { d with power := { d.power with thermRet := d.power.thermRet &&& BitVec.ofNat 10 v.toNat } }
  d.domainsOff false

/-- The shutdown of sensor s asserts (R460, R463). -/
def Dev.shutdown (d : Dev) (s : SensorIx) : Dev :=
  if d.resetN && d.hasSen s && !d.bit 0x1001 s.1 then
    ((d.putB 0x1001 s.1 true).cause 0x1004 (1#16 <<< s.1) 26).domainsOff true
  else d

/-- The shutdown of sensor s releases: its domains return to the state in POWER.REQ (R460, R463). -/
def Dev.shutdownOver (d : Dev) (s : SensorIx) : Dev :=
  if d.resetN && d.hasSen s && d.bit 0x1001 s.1 then
    let held := (List.range 10).filter (fun n => 3 ≤ n && d.shutOff n)
    let d := (d.putB 0x1001 s.1 false).cause 0x1005 (1#16 <<< s.1) 27
    let back := held.filter (fun n => !d.shutOff n && d.bit 0x800 n && !d.domOn n)
    { d with power := { d.power with thermRet := d.power.thermRet ||| BitVec.ofNat 10 (back.map (fun n => 2 ^ n)).sum } }
  else d

/-- PLL_PRISM loses lock, whether or not ck_core runs (R12, R245, R453). -/
def Dev.prismLost (d : Dev) : Dev :=
  if d.resetN && d.power.prismLock then
    let d := { d with power := { d.power with prismLock := false, prismLost := true } }.syncPrismPll
    d.each ((List.finRange 4).filter (fun p => d.hasGrp p && d.prmOn p)) (fun d p =>
      (d.cause (aPrm p 2) 0x20 (20 + p.1)).thermDrop p)
  else d

/-- PLL_PRISM regains lock (R245). -/
def Dev.prismReturns (d : Dev) : Dev :=
  if d.resetN && !d.power.prismLock && d.bit 0x810 1 then
    let d := { d with power := { d.power with prismLock := true, prismLost := false } }.syncPrismPll
    d.each ((List.finRange 4).filter (fun p => d.prmReady p)) Dev.prismBack
  else d

/-! ### Sequencer commands (R226 to R232) -/

/-- A write of PRISM[p].CTRL (R225, R227, R228). [DEDUCED, log 52] -/
def Dev.writePrmCtrl (d : Dev) (p : GroupIx) (v : Word) : Dev :=
  let was := d.bit (aPrm p 0) 0
  let lock := d.bit (aPrm p 0) 6
  let d := d.put (aPrm p 0) v
  let run := bitOf v 0
  let new := (bitOf v 6 && !lock) || (run && !was)
  let d := if new && (d.grp p).running then d.onPrm p (fun x => { x with firstFrame := true }) else d
  if run && !was then (if d.prmReady p then d.startSeq p else d)
  else if !run && was then
    (let x := d.prm p
     if x.phase = .waitSync || (x.phase = .entry && decide (0 < x.left)) then
       d.onPrm p (fun x => { x with stopReq := true })
     else d.onPrm p (fun x => { x with phase := .stopped, stopReq := false, left := 0 }))
  else if run && !bitOf v 6 then d.seqStopped p
  else d

/-- The SYNC tick of the entry in progress has come (R226, R230). -/
def Dev.syncCome (d : Dev) (p : GroupIx) : Dev :=
  let x := d.prm p
  if d.runs && x.phase = .waitSync && decide (x.seqt.toNat ≤ d.frameTick p) then
    d.onPrm p (fun x => { x with phase := .entry, left := 2 ^ bits x.word 3 2, pwr := true })
  else d

/-- The IDLE entry in progress ends (R230); while ck_core stands still, its time runs on in ck_prism.
[DEDUCED, log 53] -/
def Dev.idleOver (d : Dev) (p : GroupIx) : Dev :=
  match (d.prm p).phase with
  | .idle t => if d.resetN && (d.stands || decide (t ≤ d.cycles)) then (d.onPrm p (fun x => { x with pwr := true })).nextEntry p else d
  | _ => d

/-- The slices wake 400 ns before the idle time ends, or for an urgent request (R230, R231). [DEDUCED, log 53] -/
def Dev.wake (d : Dev) (p : GroupIx) : Dev :=
  let x := d.prm p
  let due := match x.phase with
    | .idle t => decide (t ≤ d.cycles + 80)
    | .waitSync => decide (min x.seqt.toNat (d.grp p).period ≤ d.frameTick p + 80)
    | .waitFrame => decide ((d.grp p).period ≤ d.frameTick p + 80)
    | _ => true
  if d.resetN && (d.stands || due || x.hasUrgent) then d.onPrm p (fun x => { x with pwr := true }) else d

/-- A write of a tracker's configuration; CLR, and EN set from 0, restart it (R242). -/
def Dev.writeTrk (d : Dev) (p : GroupIx) (t : Fin 32) (v : Word) : Dev :=
  let was := d.bit (aTrk p t 0) 7
  let d := d.put (aTrk p t 0) (v &&& 0x7FFF)
  if bitOf v 15 || (bitOf v 7 && !was) then d.restartTrk p t else d

end Sys2Proof.Machine
end

