-- ==== Sys2Proof/Machine/Sessions.lean ====
section
/-! DEFINITION. Coupling sessions (R353 to R356), the one-second tick, doorbells, and the clearing of pending bits with
the rearm pulse (R442, R403, R446, R448). -/

namespace Sys2Proof.Machine

open Sys2Proof

/-! ### Coupling sessions -/

/-- A session opens for motor m: observer counters and intervals clear, and the kiss search of the session begins
anew (R87, R128). [DEDUCED, log 37] -/
def Dev.sessionMotor (d : Dev) (m : MotorIx) : Dev :=
  (d.onMot m (fun x => { x with
    reccnt := 0, failcnt := 0
    obs := { x.obs with d1 := none, d2 := none, skip := if x.state = .run then 2 else x.obs.skip }
    kiss := { x.kiss with rejected := none } })).clrW (aMot m 0x15B) 0x0071

/-- SESSION reaches the device log, or SESSX sets while D3 LOG is off (R354, R356). -/
def Dev.mirrorSession (d : Dev) : Dev :=
  if d.logOn then d.logSession else d.setB 0x51 3

/-- The session opens in this cycle (R138, R139, R354). -/
def Dev.openSession (d : Dev) : Dev :=
  let d := (d.put 0x52 (d.w 0x52 + 1)).mirrorSession
  let d := (((d.putB 0x51 0 true).stampTime 0x53).raise 56).pendEnabled 4
  let d := d.each (List.finRange 16) Dev.sessionMotor
  let d := d.each (List.finRange 24) (fun d f => d.onFb f Fb.lastEdgeOnly)
  d.each (List.finRange 4) (fun d g =>
    (if (d.grp g).running then d.onGrp g (fun x => { x with floorsOnly := true }) else d).resetRR g)

/-- The session closes in this cycle (R355). -/
def Dev.closeSession (d : Dev) : Dev := ((d.putB 0x51 0 false).stampTime 0x53).raise 57

/-- A session opens, or closes, in this cycle. -/
def Dev.cplAct (d : Dev) (level : Bool) : Dev :=
  { (if level then d.openSession else d.closeSession) with cplDone := some (d.cycles, level) }

/-- A device fault has arisen in this cycle: a session action then follows in the next one (R356). -/
def Dev.faultNow (d : Dev) : Bool := d.faultAt = some d.cycles

/-- The qualified level of CPL_DET: the session's, or the other one while an edge is held pending (R356). -/
def Dev.cplLevel (d : Dev) : Bool := d.cplEdge.getD (d.bit 0x51 0)

/-- PHASE of CFGSTAT. -/
def Dev.cfgPhase (d : Dev) : Nat := d.fld 0x40 2 0

/-- The synchronised level of CPL_DET changes: RAW follows, and the count of QT ms begins anew, with QT as it stands
(R353, R358). [DEDUCED, log 98] -/
def Dev.cplRaw (d : Dev) (level : Bool) : Dev :=
  if !d.resetN || d.bit 0x51 1 = level then d
  else { d.putB 0x51 1 level with cplAt := d.cycles, cplQt := max 1 (d.fld 0x50 7 0) }

/-- The level has held for QT ms of TIME, and it is not the qualified one (R353). -/
def Dev.cplHeld (d : Dev) (level : Bool) : Bool :=
  d.runs && d.bit 0x51 1 = level && d.cplLevel != level && decide (d.cplAt + 200000 * d.cplQt ≤ d.cycles)

/-- A level of CPL_DET qualifies (R353, R356): a second edge cancels a pending one; otherwise the edge acts at once, or is
held pending before READY, or for one cycle where a device fault falls in this one. [DEDUCED, log 98] -/
def Dev.cplQualified (d : Dev) (level : Bool) : Dev :=
  if !d.cplHeld level then d
  else if d.cplEdge.isSome then { d.putB 0x51 2 false with cplEdge := none }
  else if d.ready && !d.faultNow then d.cplAct level
  else { d.putB 0x51 2 true with cplEdge := some level, cplFrom := d.cycles + 1 }

/-- What the receiver of CPL_DET does: its level changes, or the level that it has qualifies (R353). -/
def Dev.cplEvent (d : Dev) (level qualified : Bool) : Dev := if qualified then d.cplQualified level else d.cplRaw level

/-- The cycle after READY, or after a device fault: a pending edge opens or closes the session (R356).
[DEDUCED, log 98] -/
def Dev.applyPending (d : Dev) : Dev :=
  match d.cplEdge with
  | some level =>
    if d.runs && d.ready && decide (d.cplFrom ≤ d.cycles) && !d.faultNow then
      { d.putB 0x51 2 false with cplEdge := none }.cplAct level
    else d
  | none => d

/-- What the receiver of CPL_DET owes to this cycle is done before anything that follows it in the cycle: a trace tick takes
its samples after the opening (R354). [DEDUCED, log 98] -/
def Dev.cplTurn (d : Dev) : Dev := d.applyPending.cplQualified (d.bit 0x51 1)

/-! ### Events -/

/-- TIME reaches a multiple of one second by counting (R442). [DESIGN CHOICE, log 2] -/
def Dev.secondTick (d : Dev) : Dev :=
  if d.runs && decide (0 < d.cycles) && d.cycles % 200 = 0 && d.time.toNat % 1000000 = 0 && d.secAt ≠ d.cycles then
    { d.raise 61 with secAt := d.cycles }
  else d

/-- Master k rings the doorbells of a DBRING word; M5 and M6 cannot (R403). -/
def Dev.ring (d : Dev) (k : Master) (v : Word) : Dev :=
  if k.1 < 5 then
    d.each [0, 1] (fun d i => if bitOf v i then d.cause (0x81 + i) (1#16 <<< k.1) (62 + i) else d)
  else d

/-- A write of ones clears pending bits of host k but for those raised in this cycle (R9, R446), and starts the rearm
pulse when it clears an enabled bit and the condition still holds (R448). -/
def Dev.clearPend (d : Dev) (k : HostIx) (q : Nat) (v : Word) : Dev :=
  let mask : BitVec 64 := (v.setWidth 64 <<< (16 * q)) &&& ~~~d.freshEv
  let cleared := d.irqLocal k &&& mask
  let d := { d with pend := upd d.pend k (fun p => p &&& ~~~mask) }
  if d.bit (aEvh k 12) 0 && cleared != 0 && d.irqCond k then d.onHp k (fun x => { x with rearm := some (d.cycles + 200) })
  else d

/-- The rearm pulse of host k ends (R448). -/
def Dev.rearmOver (d : Dev) (k : HostIx) : Dev :=
  match (d.hp k).rearm with
  | some t => if d.runs && decide (t ≤ d.cycles) then d.onHp k (fun x => { x with rearm := none }) else d
  | none => d

end Sys2Proof.Machine
end

