-- ==== Sys2Proof/Machine/MemOps.lean ====
section
/-! DEFINITION. The memory port (chapter 14): the queue of frames, raw select control, the mapped window with its two
line buffers, mastering of a shared flash, and what ends a frame. -/

namespace Sys2Proof.Machine

open Sys2Proof

/-- Change the memory port. -/
def Dev.onMem (d : Dev) (f : MemPort → MemPort) : Dev := { d with mem := f d.mem }

/-- The configuration loader runs: PHASE 0 to 3 (R346). -/
def Dev.loaderRuns (d : Dev) : Bool := decide (d.cfgPhase ≤ 3)

/-- MCFG.SHARE in force. -/
def Dev.share (d : Dev) : Bool := d.ibit 0xD000 15

/-- MCFG.CSH in MCLK periods; 0 acts as 1 (R363). -/
def Dev.csh (d : Dev) : Nat := max 1 (d.ifld 0xD000 12 9)

/-- One MCLK period in ck_core ticks (R359); discovery runs at CLKDIV 4 (R364). -/
def Dev.mclk (d : Dev) : Nat :=
  if d.loader.step = 4 && d.cfgPhase = 1 then 8 else 2 * max 1 (d.ifld 0xD000 4 0)

/-- RAW.EN, once it has taken effect (R374). -/
def Dev.rawEn (d : Dev) : Bool := d.bit 0xD004 15 && !d.mem.rawHold

/-- QSTAT.RUN. -/
def Dev.qRun (d : Dev) : Bool := d.bit 0xD006 15

/-- QSTAT.POS. -/
def Dev.qPos (d : Dev) : Nat := d.fld 0xD006 3 0

/-- A word of queue entry i (R367). -/
def aQ (i off : Nat) : Nat := 0xD040 + 8 * i + off

/-- CTL.SEL of entry i. -/
def Dev.qSel (d : Dev) (i : Nat) : Bool := d.bit (aQ i 4) 14

/-- Entry i is one of the run in progress. -/
def Dev.inRun (d : Dev) (i : Nat) : Bool :=
  let first := d.fld 0xD005 3 0
  d.qRun && decide ((i + 16 - first) % 16 ≤ (d.mem.last + 16 - first) % 16)

/-- Both line buffers are invalidated, and so is a line that is being filled (R375). -/
def Dev.memInvalid (d : Dev) : Dev := d.onMem (fun x => { x with lineA := none, lineB := none, stale := x.stale || x.fill.isSome })

/-- MCFG and the window registers come into force while no frame is in progress (R380); new window settings invalidate
the buffers (R375). -/
def Dev.memSync (d : Dev) : Dev :=
  if d.mem.frame then d
  else
    let same := (List.range 6).all (fun i => d.w (0xD008 + i) = d.iw (0xD008 + i))
    let d := d.enforce 0xD000 0xD010
    if same then d else d.memInvalid

/-- A write of a window register (R375, R380). -/
def Dev.writeWin (d : Dev) (a : Nat) (v : Word) : Dev := (d.put a v).memInvalid.memSync

/-! ### Frames (R361, R362, R374) -/

/-- The command bytes of a frame format: none, the high byte, or both. -/
def frameCmd (fmt cmd : Word) : List Byte :=
  match bits fmt 14 13 with
  | 0 => []
  | 1 => [cmd.extractLsb' 8 8]
  | _ => wordBytes cmd

/-- The address bytes of a frame format, most significant first: none, three or four; code 3 acts as 2. -/
def frameAddr (fmt : Word) (a : BitVec 32) : List Byte :=
  match bits fmt 12 11 with
  | 0 => []
  | 1 => [a.extractLsb' 16 8, a.extractLsb' 8 8, a.extractLsb' 0 8]
  | _ => [a.extractLsb' 24 8, a.extractLsb' 16 8, a.extractLsb' 8 8, a.extractLsb' 0 8]

/-- The frame that a format word describes (R362). -/
def formFrame (sel : Bool) (fmt cmd : Word) (a : BitVec 32) (len : Nat) (data : List Byte) : FlashFrame :=
  { sel := sel, cmd := frameCmd fmt cmd, cmdLn := bits fmt 10 9, addr := frameAddr fmt a, adrLn := bits fmt 8 7, mode := none
    dum := bits fmt 4 0, write := bitOf fmt 15, data := data, len := len, datLn := bits fmt 6 5 }

/-- MCLK periods of a phase of `n` bytes on the lanes of a lane code (R361). -/
def phasePeriods (n ln : Nat) : Nat := 8 * n / 2 ^ ln

/-- MCLK periods of the phases of a frame. -/
def FlashFrame.periods (f : FlashFrame) : Nat :=
  phasePeriods f.cmd.length f.cmdLn + phasePeriods f.addr.length f.adrLn + f.dum + phasePeriods f.len f.datLn

/-- A line fill: a read of 64 bytes with WFMT and WCMD on the select of WCFG. With COM at 1 it drives MODEB, and it omits its
command once the flash is in continuous read (R372, R374). [DESIGN CHOICE, log 112] -/
def Dev.winFrame (d : Dev) (l : BitVec 32) : FlashFrame :=
  let f := formFrame (d.ibit 0xD008 14) (d.iw 0xD009 &&& 0x7FFF) (d.iw 0xD00A) l 64 []
  if d.ibit 0xD008 13 then
    { f with cmd := if d.mem.comAct then [] else f.cmd, mode := some ((d.iw 0xD00B).extractLsb' 8 8) }
  else f

/-- An exit frame: the address phase and the mode clocks with MODEX (R374). [DESIGN CHOICE, log 112] -/
def Dev.exitFrame (d : Dev) : FlashFrame :=
  let f := formFrame (d.ibit 0xD008 14) (d.iw 0xD009 &&& 0x1FFF) 0 (Config.exitAddr d.free) 0 []
  { f with mode := some ((d.iw 0xD00B).extractLsb' 0 8), dum := phasePeriods 1 f.adrLn }

/-- An exit frame goes before the next frame: it is no command-omitting window frame and the flash is in continuous read
(R374), or a device fault may have left it so (R379). [DESIGN CHOICE, log 112] -/
def Dev.exitNeeded (d : Dev) (window : Bool) : Bool :=
  (d.mem.comAct && !(window && d.ibit 0xD008 13)) || (d.mem.exitDue && d.ibit 0xD008 13)

/-- The port sends an exit frame where one is needed; what it has sent under this select stands in `out`. -/
def Dev.exitFirst (d : Dev) (window : Bool) : Dev :=
  if d.exitNeeded window then
    d.nextFree.onMem (fun x => { x with comAct := false, exitDue := false, out := [d.exitFrame] })
  else d.onMem (fun x => { x with exitDue := false, out := [] })

/-! ### Mastering (R376, R438) -/

/-- The port has a reason to master the flash. -/
def Dev.memWants (d : Dev) : Bool :=
  if d.loaderRuns then d.loader.step = 4
  else !d.mem.wait.isEmpty || d.qRun || d.mem.rawHold || (d.rawEn && !d.bit 0xD004 0)

/-- The port gives the flash back, with an exit frame when the flash is in continuous read (R374, R376). -/
def Dev.memRelease (d : Dev) : Dev :=
  if d.mem.mastering then
    let d := if d.mem.comAct then d.exitFirst false else d
    d.onMem (fun x => { x with mastering := false, relAt := some d.cycles })
  else d

/-- No frame is left in progress: the flash is released unless a raw select holds it. -/
def Dev.memIdle (d : Dev) : Dev :=
  let d := d.onMem (fun x => { x with frame := false, chain := false, deSel := false, fill := none, stale := false, pre := false })
  if d.rawEn && !d.bit 0xD004 0 then d else d.memRelease

/-- The port may drive the flash now. -/
def Dev.memMay (d : Dev) : Bool := !d.share || d.mem.mastering

/-! ### The window (R372 to R375) -/

/-- Flash byte address of a window word. -/
def Dev.winByte (d : Dev) (a : Addr) : BitVec 32 :=
  (d.iw 0xD00D ++ d.iw 0xD00C : BitVec 32) + BitVec.ofNat 32 (2 * (a.toNat - 0x800000))

/-- The line of a flash byte address. -/
def lineOf (b : BitVec 32) : BitVec 32 := b &&& 0xFFFFFFC0

/-- The bytes of a line that a buffer holds. -/
def MemPort.held (x : MemPort) (l : BitVec 32) : Option (List Byte) :=
  match x.lineA, x.lineB with
  | some (a, bs), none => if a = l then some bs else none
  | none, some (b, bs) => if b = l then some bs else none
  | some (a, as), some (b, bs) => if a = l then some as else if b = l then some bs else none
  | none, none => none

/-- The line that has to be read before the word at byte address b can be returned, if any. -/
def MemPort.missing (x : MemPort) (b : BitVec 32) : Option (BitVec 32) :=
  if (x.held (lineOf b)).isNone then some (lineOf b)
  else if (x.held (lineOf (b + 1))).isNone then some (lineOf (b + 1))
  else none

/-- One held byte. -/
def MemPort.byte (x : MemPort) (b : BitVec 32) : Byte := byteAt ((x.held (lineOf b)).getD []) (b.toNat % 64)

/-- The word at byte address b, high byte first. -/
def MemPort.wordAt (x : MemPort) (b : BitVec 32) : Word := x.byte b ++ x.byte (b + 1)

/-- The buffer that holds the line of b has been used: the other is used less recently. -/
def MemPort.use (x : MemPort) (b : BitVec 32) : MemPort :=
  { x with useB := match x.lineA with | some (l, _) => decide (l = lineOf b) | none => false }

/-- The word that a fabric read returns to master k. -/
def Dev.putFab (d : Dev) (k : Master) (v : Word) : Dev := { d with fab := upd d.fab k (fun _ => v) }

/-- Every waiting window read whose word the buffers hold is served, in order. [DEDUCED, log 67] -/
def Dev.winServe (d : Dev) : Dev :=
  let w := d.mem.wait
  let d := d.onMem (fun x => { x with wait := [] })
  d.each w (fun d r =>
    let b := d.winByte r.2.1
    if (d.mem.missing b).isNone then (d.putFab r.1 (d.mem.wordAt b)).onMem (fun x => x.use b)
    else d.onMem (fun x => { x with wait := x.wait ++ [r] }))

/-- A fill of line l begins; the buffer it fills no longer holds its old line (R373, R374). -/
def Dev.fillBegin (d : Dev) (l : BitVec 32) (pre intoB : Bool) : Dev :=
  let d := d.exitFirst true
  let f := d.winFrame l
  d.onMem (fun x => { x with
    frame := true, deSel := false, fill := some l, stale := false, pre := pre, intoB := intoB, comAct := d.ibit 0xD008 13, out := x.out ++ [f]
    lineA := if intoB then x.lineA else none, lineB := if intoB then none else x.lineB })

/-! ### The queue (R367 to R370) -/

/-- An entry ends with a result. -/
def Dev.qDone (d : Dev) (i res : Nat) : Dev := d.put (aQ i 6) (word (0x8000 + res * 0x1000))

/-- The run ends; POS keeps the entry last run. -/
def Dev.qOver (d : Dev) : Dev := d.putB 0xD006 15 false

/-- Entries of the run from POS on, in order. -/
def Dev.qRest (d : Dev) : List Nat :=
  (List.range ((d.mem.last + 16 - d.qPos) % 16 + 1)).map (fun n => (d.qPos + n) % 16)

/-- The entry in progress and the rest of the run end with a result (R368). -/
def Dev.qEnd (d : Dev) (res : Nat) : Dev :=
  if d.qRun then (d.each d.qRest (fun d i => d.qDone i res)).qOver else d

/-- Entries at POS that cannot run because SEL is 1 in share mode end with RES 4 (R368). -/
def Dev.qSkip : Nat → Dev → Dev
  | 0, d => d
  | fuel + 1, d =>
    if d.qRun && d.qSel d.qPos && d.share && !d.rawEn then
      let i := d.qPos
      let d := d.qDone i 4
      if i = d.mem.last then d.qOver else Dev.qSkip fuel (d.putF 0xD006 3 0 ((i + 1) % 16))
    else d

/-- Data bytes of an entry. -/
def Dev.qLen (d : Dev) (i : Nat) : Nat := min 512 (d.uw (aQ i 5))

/-- Byte n of the data of a write entry: from BUF, high byte first, from the entry's offset and wrapping (R367). -/
def Dev.qByte (d : Dev) (i n : Nat) : Byte :=
  let w := d.w (0xD100 + (d.fld (aQ i 4) 7 0 + n / 2) % 256)
  if n % 2 = 0 then w.extractLsb' 8 8 else w.extractLsb' 0 8

/-- The frame of entry i (R362, R367). -/
def Dev.qFrameOf (d : Dev) (i : Nat) : FlashFrame :=
  let write := d.bit (aQ i 0) 15
  formFrame (d.qSel i) (d.w (aQ i 0)) (d.w (aQ i 1)) (d.w32 (aQ i 2)) (d.qLen i)
    (if write then (List.range (d.qLen i)).map (d.qByte i) else [])

/-- The frame of the entry at POS begins; in a chain it goes on under the select of the last one (R367, R369, R374, R375). -/
def Dev.entryBegin (d : Dev) : Dev :=
  let d := if d.mem.chain then d else d.exitFirst false
  let f := d.qFrameOf d.qPos
  let d := d.onMem (fun x => { x with frame := true, deSel := false, fill := none, out := x.out ++ [f] })
  if d.bit (aQ d.qPos 0) 15 then d.memInvalid else d

/-- The entry at POS is requested now: the window reads that wait go before it (R375). [DEDUCED, log 67] -/
def Dev.entryAsked (d : Dev) : Dev := d.onMem (fun x => { x with before := x.wait })

/-- The port takes up its next frame when none is in progress: of the window read that has waited longest and the entry
at POS, the one requested first (R375). [DEDUCED, log 67] -/
def Dev.memNext (d : Dev) : Dev :=
  let d := d.memSync
  if d.mem.frame || d.loaderRuns then d
  else
    let d := (Dev.qSkip 16 d).winServe
    match d.mem.wait with
    | r :: _ =>
      if d.qRun && d.memMay && !d.mem.before.contains r then d.entryBegin
      else
        (match d.memMay, d.mem.missing (d.winByte r.2.1) with
         | true, some l => d.fillBegin l false d.mem.useB
         | _, _ => d)
    | [] => if d.qRun && d.memMay then d.entryBegin else d

/-- A write of QRUN with START at 1 (R368, R370). -/
def Dev.qStart (d : Dev) (v : Word) : Dev :=
  if d.qRun then d
  else
    let d := ((d.put 0xD005 (v &&& 0xC0FF)).put 0xD006 (word (0x8000 + bits v 3 0))).onMem (fun x => { x with last := bits v 7 4 })
    (d.each d.qRest (fun d i => d.put (aQ i 6) 0)).entryAsked.memNext

/-- A frame of the queue is in progress. -/
def Dev.qFrame (d : Dev) : Bool := d.qRun && d.mem.frame && d.mem.fill.isNone

/-- A write of QRUN with ABORT at 1 (R370). [DEDUCED, log 66] -/
def Dev.qAbort (d : Dev) : Dev :=
  if d.qRun then
    let busy := d.qFrame
    let d := d.qEnd 2
    if busy then d.memIdle.memNext else d.memNext
  else d

/-- A write of QRUN: START at 1 starts a run, and is ignored whole during one; ABORT alone stops a run (R368, R370).
[DEDUCED, log 66] -/
def Dev.writeQrun (d : Dev) (v : Word) : Dev :=
  if bitOf v 15 then d.qStart v else if bitOf v 14 then d.qAbort else d

/-- Read bytes enter BUF, high byte first (R367). -/
def Dev.qStore (d : Dev) (i : Nat) (bytes : List Byte) : Dev :=
  d.each (List.range ((bytes.length + 1) / 2)) (fun d n =>
    d.put (0xD100 + (d.fld (aQ i 4) 7 0 + n) % 256) (byteAt bytes (2 * n) ++ byteAt bytes (2 * n + 1)))

/-- The entry at POS has ended: the run ends, the next entry continues the select, or the select is released
(R369, R371). -/
def Dev.qNext (d : Dev) : Dev :=
  let i := d.qPos
  let cont := d.bit (aQ i 4) 15 && !d.rawEn
  if i = d.mem.last then
    let d := if cont then d.setB 0xD00E 0 else d
    d.qOver.memIdle.memNext
  else
    let n := (i + 1) % 16
    let d := (d.putF 0xD006 3 0 n).entryAsked
    if cont && d.qSel n = d.qSel i then (d.onMem (fun x => { x with chain := true })).entryBegin
    else
      let d := if cont then d.setB 0xD00E 0 else d
      d.memIdle.memNext

/-- The frame of the entry at POS ends (R368). A read entry takes exactly its LEN bytes. [DEDUCED, log 66] -/
def Dev.entryComplete (d : Dev) (bytes : List Byte) : Dev :=
  let i := d.qPos
  let reads := !d.bit (aQ i 0) 15
  if d.runs && d.qFrame && (!reads || bytes.length = d.qLen i) then
    let d := if reads then d.qStore i bytes else d
    (d.qDone i 0).qNext
  else d

/-- A write of a word of a queue entry (R367, R370). -/
def Dev.writeQ (d : Dev) (a : Nat) (v : Word) : Dev :=
  let i := (a - 0xD040) / 8
  let off := (a - 0xD040) % 8
  if d.inRun i || 6 ≤ off then d else d.put a (if off = 4 then v &&& 0xC0FF else v)

/-- A write of BUF (R370). -/
def Dev.writeBuf (d : Dev) (a : Nat) (v : Word) : Dev := if d.qRun then d else d.put a v

/-- A write of RAW (R371, R374, R375, R379). Under a window frame after which the flash is in continuous read, EN waits for
that frame and the exit frame after it; where the port may not drive the flash, it waits for the exit frame until the port
masters. [DEDUCED, log 66] -/
def Dev.writeRaw (d : Dev) (v : Word) : Dev :=
  let was := d.bit 0xD004 15
  let d := d.put 0xD004 (v &&& 0x8003)
  let d := if bitOf v 15 = was then d
    else
      let d :=
        if was then d.onMem (fun x => { x with deSel := x.frame && !x.rawHold, rawHold := false })
        else if d.mem.frame then d.onMem (fun x => { x with rawHold := x.fill.isSome && x.comAct })
        else if d.memMay then d.exitFirst false
        else d.onMem (fun x => { x with rawHold := d.exitNeeded false })
      d.memInvalid.onMem (fun x => { x with chain := false })
  if d.mem.frame || (d.rawEn && !d.bit 0xD004 0) then d else d.memRelease.memNext

/-! ### Window reads and line fills -/

/-- A window read that the table allows (R372, R373): at once from a buffer or while WCFG.EN is 0, else it waits. -/
def Dev.winRead (d : Dev) (k : Master) (a : Addr) : Dev :=
  let d := d.memSync
  if !d.ibit 0xD008 15 then d.putFab k 0
  else
    let b := d.winByte a
    if (d.mem.missing b).isNone then (d.putFab k (d.mem.wordAt b)).onMem (fun x => x.use b)
    else (d.onMem (fun x => { x with wait := x.wait ++ [(k, a, d.cycles)] })).memNext

/-- RAW.EN, where it waits, takes effect after an exit frame (R374). -/
def Dev.rawTakes (d : Dev) : Dev :=
  if d.mem.rawHold then (d.exitFirst false).onMem (fun x => { x with rawHold := false }) else d

/-- The line that the oldest waiting read still misses, where the buffers hold the first byte of its word and not the second:
WBASE is odd, and the word crosses a line (R372). -/
def Dev.secondLine (d : Dev) : Option (BitVec 32) :=
  match d.mem.wait with
  | r :: _ => (d.mem.missing (d.winByte r.2.1)).filter (fun l => l ≠ lineOf (d.winByte r.2.1))
  | [] => none

/-- A line fill completes: waiting reads are served, and the next line may be read (R373). A word that crosses into the
next line has that line read into the other buffer before the port goes on, or releases a shared flash (R372). A line
whose buffers were invalidated during the fill is not kept, and the reads that wait for it have it read again (R375).
[DEDUCED, log 67] -/
def Dev.fillComplete (d : Dev) (bytes : List Byte) : Dev :=
  match d.mem.fill with
  | some l =>
    if d.runs && d.mem.frame && bytes.length = 64 then
      let x := d.mem
      let d := d.onMem (fun y => { y with
        frame := false, fill := none, stale := false
        lineA := if x.intoB || x.stale then y.lineA else some (l, bytes)
        lineB := if x.intoB && !x.stale then some (l, bytes) else y.lineB
        useB := !x.intoB })
      let d := d.rawTakes.memSync.winServe
      let next := l + 64
      if !x.pre && d.ibit 0xD008 12 && d.mem.wait.isEmpty && !d.qRun && (d.mem.held next).isNone &&
          (d.mem.held l).isSome && d.memMay then
        d.fillBegin next true (!x.intoB)
      else
        match d.secondLine, d.memMay with
        | some l', true => d.fillBegin l' false (!x.intoB)
        | _, _ => d.memIdle.memNext
    else d
  | none => d

/-- The oldest window read has waited WTO µs (R375). -/
def Dev.winTimeout (d : Dev) : Dev :=
  match d.mem.wait with
  | r :: rest =>
    if d.runs && decide (r.2.2 + 200 * max 1 (d.ifld 0xD008 7 0) ≤ d.cycles) then
      ((d.putFab r.1 0).setB 0xD00E 1).onMem (fun x => { x with wait := rest })
    else d
  | [] => d

/-- The flash byte address at which image slot n starts (R337). -/
def Dev.slotStart (d : Dev) (n : Nat) : BitVec 32 := if n = 0 then 0 else BitVec.ofNat 32 (2 ^ d.fld 0xD010 15 8 / 2)

/-- The frame with which the loader's present work begins: the SFDP header, or the header of the slot that it reads (R337,
R364, R366). [DESIGN CHOICE, log 92] -/
def Dev.loaderFrame (d : Dev) : FlashFrame :=
  if d.cfgPhase = 1 then formFrame false 0x2808 0x5A00 0 16 []
  else formFrame false (d.iw 0xD009 &&& 0x7FFF) (d.iw 0xD00A) (d.slotStart d.loader.sel) 32 []

/-- The loader begins the work of its phase, once the port may drive the flash (R350), after an exit frame where one is
needed (R374, R379). -/
def Dev.loaderReads (d : Dev) : Dev :=
  if d.memMay then
    let d := d.exitFirst false
    d.onMem (fun x => { x with out := x.out ++ [d.loaderFrame] })
  else d

/-- The port begins mastering the shared flash, MCS1_N having been high for `highFor` ticks: CSH periods, four more on
module 1, and its own rest after a release (R375, R376, R438). [DESIGN CHOICE, log 114] -/
def Dev.masterStart (d : Dev) (highFor : Nat) : Dev :=
  let rested := match d.mem.relAt with
    | some t => decide (t + (2 * d.csh + 8) * d.mclk ≤ d.cycles)
    | none => true
  let d := d.memSync
  let high := decide ((d.csh + (if d.mirror.id then 4 else 0)) * d.mclk ≤ highFor)
  if d.runs && d.share && !d.mem.mastering && d.memWants && rested && high then
    let d := d.memInvalid.onMem (fun x => { x with mastering := true })
    if d.loaderRuns then d.loaderReads
    else
      let d := d.rawTakes.memNext
      if d.mem.frame || (d.rawEn && !d.bit 0xD004 0) then d else d.memRelease
  else d

/-- The frame in progress is discarded by a multi-master fault (R377); RAW.EN that waits for an exit frame goes on waiting
(R374). -/
def Dev.mmfDiscard (d : Dev) : Dev :=
  let lost := match d.mem.fill with
    | some l => d.mem.wait.filter (fun r => d.mem.missing (d.winByte r.2.1) = some l)
    | none => []
  let d := ((d.cause 0xD002 1 52).inc 0xD003).memInvalid
  let queue := d.qFrame
  let d := d.each lost (fun d r => d.putFab r.1 0)
  let d := d.onMem (fun x => { x with
    frame := false, chain := false, deSel := false, fill := none, stale := false, pre := false
    mastering := false, relAt := some d.cycles
    wait := x.wait.filter (fun r => !lost.contains r) })
  let d := if queue then d.qEnd 1 else d
  d.memSync

/-- The memory port at a device fault: the window reads that wait receive 0 (R379). [DEDUCED, log 67] -/
def Dev.memFault (d : Dev) : Dev :=
  let d := (d.qEnd 3).putB 0xD004 15 false
  let d := d.each d.mem.wait (fun d r => d.putFab r.1 0)
  let d := d.memInvalid.onMem (fun x => { x with
    frame := false, chain := false, deSel := false, fill := none, stale := false, rawHold := false, pre := false, wait := [], errs := []
    comAct := x.comAct || d.ibit 0xD008 13, exitDue := true, relAt := if x.mastering then some d.cycles else x.relAt, mastering := false })
  d.memSync

/-- A frame of the loader is in progress: it reads in step 4, the port may drive the flash, and no WAIT pauses it (R341,
R350). -/
def Dev.loaderFrames (d : Dev) : Bool :=
  d.loader.step = 4 && decide (1 ≤ d.cfgPhase) && d.loaderRuns && d.memMay && d.loader.waitUntil.isNone

/-- Live word MEMPORT.STAT. In share mode CS1 is the level that the partner drives; a port that masters sees it high, or
leaves the flash (R376, R377). [DESIGN CHOICE, log 68] -/
def Dev.memStat (d : Dev) : Word :=
  let x := d.mem
  let busy := x.frame || d.loaderFrames
  let sel := (x.out.getLast?.map FlashFrame.sel).getD false
  let low := busy && !x.deSel
  let cs0 := if d.rawEn then d.bit 0xD004 0 || !d.memMay else !(low && !sel)
  let cs1 := if d.share then x.mastering || Config.mcs1 d.cycles else if d.rawEn then d.bit 0xD004 1 else !(low && sel)
  word (x.comAct.toNat * 16 + x.mastering.toNat * 8 + cs1.toNat * 4 + cs0.toNat * 2 + busy.toNat)

end Sys2Proof.Machine
end

