-- ==== Sys2Proof/Machine/LifeOps.lean ====
section
/-! DEFINITION. Life cycle, keys and the challenge, the destructive memory test with its repair, and boundary scan
(chapter 20). -/

namespace Sys2Proof.Machine

open Sys2Proof

/-! ### Life cycle (R466 to R470) -/

/-- STATE of R466: 0 BLANK, 1 MANUFACTURE, 2 FIELD, 3 SERVICE, 4 RETURN. -/
def Dev.lcState (d : Dev) : Nat :=
  if !d.fuses.mfg then 0 else if !d.fuses.fld then 1 else if d.fuses.ret then 4 else if d.lc.service then 3 else 2

/-- Live word LCSTAT: its stored bits are LOCKOUT, SRX and FAILS. [DESIGN CHOICE, log 4] -/
def Dev.lcStat (d : Dev) : Word :=
  word (d.lc.fuse.isSome.toNat * 0x8000 + d.fuses.keySvc.toNat * 0x2000 + d.fuses.erased.toNat * 0x1000 + d.lcState) |||
    (d.w 0xF000 &&& 0x4830)

/-- A command acts: CHG and E59 (R467). -/
def Dev.lcActs (d : Dev) : Dev := d.cause 0xF002 1 59

/-- A command is refused: LCERR and E59 (R467). -/
def Dev.lcRefused (d : Dev) : Dev := d.cause 0xF002 2 59

/-- Every motor is in IDLE. -/
def Dev.allIdle (d : Dev) : Bool := d.motors.toList.all (fun x => x.state = .idle)

/-- D6 to D9 are off. -/
def Dev.gatesOff (d : Dev) : Bool := d.fld 0x801 9 6 = 0

/-- Program a life-cycle fuse: 1 MFG, 2 FLD, 3 RET. [DEDUCED, log 81] -/
def Dev.blow (d : Dev) (n : Nat) : Dev := { d with lc := { d.lc with fuse := some n } }.lcActs

/-- LCCMD 0x4D46 (R467). -/
def Dev.toManufacture (d : Dev) : Dev := if d.lcState = 0 then d.blow 1 else d.lcRefused

/-- LCCMD 0x4644 (R467): FLD from MANUFACTURE with both keys programmed, or the SERVICE flag clears. -/
def Dev.toField (d : Dev) : Dev :=
  match d.lcState with
  | 1 => if d.fuses.keySvc && d.bit 0xC000 10 then d.blow 2 else d.lcRefused
  | 3 => { d with lc := { d.lc with service := false } }.lcActs
  | _ => d.lcRefused

/-- Eight staged words as a 128-bit number, bits 127:112 in the first (R468, R469). -/
def Dev.staged (d : Dev) (a : Nat) : BitVec 128 :=
  BitVec.ofNat 128 ((List.range 8).foldl (fun acc i => acc * 65536 + (d.w (a + i)).toNat) 0)

/-- The live challenge: drawn, and not lapsed (R469). -/
def Dev.liveChallenge (d : Dev) : Option (BitVec 64) :=
  match d.lc.chal with
  | some (c, t) => if d.cycles < t + 2000000000 then some c else none
  | none => none

/-- The response is correct: the CMAC under the service key over DEVID and the challenge (R469). -/
def Dev.authOk (d : Dev) : Bool :=
  match d.liveChallenge with
  | some c => d.staged 0xF008 = cmac d.fuses.svcKey (bytes64 d.fuses.devId ++ bytes64 c)
  | none => false

/-- An attempt fails: AUTHF, E59, FAILS, and LOCKOUT at the third (R469). [DEDUCED, log 82] -/
def Dev.authFails (d : Dev) : Dev :=
  let n := min 3 (d.fld 0xF000 5 4 + 1)
  let d := (d.putF 0xF000 5 4 n).cause 0xF002 4 59
  (d.when (n = 3) (fun d => d.putB 0xF000 14 true)).lcRefused

/-- LCCMD 0x5356 (R467, R469). -/
def Dev.toService (d : Dev) : Dev :=
  if d.lcState ≠ 2 || d.bit 0xF000 14 then d.lcRefused
  else
    let ok := d.authOk
    let d := { d with lc := { d.lc with chal := none } }
    if ok then { d with lc := { d.lc with service := true } }.lcActs else d.authFails

/-- LCCMD 0x5254 (R467, R470). -/
def Dev.toReturn (d : Dev) : Dev := if d.lcState = 3 && d.gatesOff && d.allIdle then d.blow 3 else d.lcRefused

/-- A write of LCCMD (R467); ignored while fuses are programmed. Any word outside the table is refused.
[DEDUCED, log 81] -/
def Dev.writeLccmd (d : Dev) (v : Word) : Dev :=
  if d.lc.fuse.isSome then d
  else if v = 0x4D46 then d.toManufacture
  else if v = 0x4644 then d.toField
  else if v = 0x5356 then d.toService
  else if v = 0x5254 then d.toReturn
  else d.lcRefused

/-- Fuse programming ends (R467, R470). [DEDUCED, log 81] -/
def Dev.fuseDone (d : Dev) : Dev :=
  let d0 := { d with lc := { d.lc with fuse := none } }
  match d.lc.fuse with
  | some 1 => { d0 with fuses := { d.fuses with mfg := true } }
  | some 2 => { d0 with fuses := { d.fuses with fld := true } }
  | some _ => { d0 with fuses := { d.fuses with ret := true }, lc := { d0.lc with erasing := true, service := false } }
  | none => d

/-- Both ferroelectric stores are erased (R470). -/
def Dev.erase (d : Dev) : Dev :=
  let d := { d with store := [], marks := [], devLog := {}, recq := [], fuses := { d.fuses with erased := true }, lc := { d.lc with erasing := false } }
  ((d.resetRange 0xB486 0xB490).put 0xB499 0).put 0x52 0

/-- The erasure of R470 commits: after the RET fuse, or at step 3 of a start in RETURN. -/
def Dev.eraseDone (d : Dev) : Dev :=
  if d.runs && (d.lc.erasing || (d.loader.step = 3 && d.lcState = 4 && !d.fuses.erased)) then d.erase else d

/-- A write of a key word: words 0 to 6 are staged, word 7 programs or discards (R468). [DEDUCED, log 83] -/
def Dev.writeKey (d : Dev) (which : KeyKind) (i : Nat) (v : Word) : Dev :=
  let base := match which with | .service => 0xFC08 | .image => 0xFC10
  let d := d.put (base + i) v
  if i ≠ 7 then d
  else
    let key := d.staged base
    let free := match which with | .service => !d.fuses.keySvc | .image => !d.fuses.keySet
    let d := if d.lcState = 1 && free then
        (match which with
         | .service => { d with fuses := { d.fuses with svcKey := key, keySvc := true } }
         | .image => { d with fuses := { d.fuses with imageKey := key, keySet := true } })
      else d
    d.resetRange base (base + 8)

/-- A read of CHAL[0] by master k draws a challenge (R469). [DESIGN CHOICE, log 9] -/
def Dev.drawChallenge (d : Dev) (k : Master) : Dev :=
  let c := Config.challenge d.free
  let d := { d.nextFree with lc := { d.lc with chal := some (c, d.cycles) } }
  ((d.latch k 0xF005 (c.extractLsb' 16 16)).latch k 0xF006 (c.extractLsb' 32 16)).latch k 0xF007 (c.extractLsb' 48 16)

/-- The word CHAL[0] that the next draw shows. -/
def Dev.nextChallengeLow (d : Dev) : Word := (Config.challenge d.free).extractLsb' 0 16

/-- The challenge lapses (R469). -/
def Dev.challengeLapse (d : Dev) : Dev :=
  if d.runs && d.lc.chal.isSome && d.liveChallenge.isNone then { d with lc := { d.lc with chal := none } } else d

/-! ### Memory BIST (R471 to R475) -/

/-- Writes of 1 to RUN bits are ignored: a test runs, or RSTREQ is set (R473, R474). -/
def Dev.runBlocked (d : Dev) : Bool := d.bist.run.isSome || d.bit 0xF401 13

/-- Every PRISM[p].CTRL.RUN is 0. -/
def Dev.seqsStopped (d : Dev) : Bool := (List.finRange 4).all (fun p => !d.bit (aPrm p 0) 0)

/-- The conditions of R473 for a target. -/
def Dev.bistMay (d : Dev) (tgt : Nat) : Bool :=
  (d.lcState = 1 || d.lcState = 3 || d.lcState = 4) && d.bist.run.isNone && d.gatesOff && d.allIdle &&
  (match tgt with
   | 0 => d.seqsStopped && (List.finRange 4).all (fun g => !d.bit (aGrp g 1) 0)
   | 1 => d.seqsStopped
   | 2 | 3 => d.logOn
   | _ => false)

/-- A write of BCMD with GO at 1 (R471, R473, R475). -/
def Dev.bistGo (d : Dev) (v : Word) : Dev :=
  let tgt := bits v 3 0
  if d.bistMay tgt then
    let d := { d.resetRange 0xF403 0xF418 with bist := { run := some tgt, failed := false, lastTgt := tgt } }
    d.put 0xF401 ((d.w 0xF401 &&& 0x2000) ||| 0x8000 ||| word tgt)
  else (d.putB 0xF401 14 true).cause 0xF402 1 60

/-- A commutation engine whose words of state RAM are all 0. -/
def Motor.zero : Motor := { refc := Vector.replicate 3 0, thr := (0, 0, 0), thrOld := (0, 0, 0) }

/-- The bits of a register that show what state RAM holds: the read-only fields of the engines, the arbiters, the
accumulators and trackers, the feedback channels and the trace channels (R408). [DEDUCED, log 84] -/
def stateBits (a : Nat) : Word :=
  if (0x2000 ≤ a ∧ a < 0x6400) ∨ (0x8000 ≤ a ∧ a < 0xA000 ∧ 0x200 ≤ a % 0x800) ∨ (0xA000 ≤ a ∧ a < 0xA300) ∨
    (0xB000 ≤ a ∧ a < 0xB400) then
    match regRow a with
    | some r => BitVec.ofNat 16 (r.mask .ro)
    | none => 0
  else 0

/-- Those registers that do not read 0 at reset: the round-robin pointers and the comparator codes of the arbiters. -/
def stateKeys : List Nat :=
  (List.finRange 4).flatMap (fun g => aCba g 6 :: (List.range 4).map (fun j => aCba g (0x14 + 8 * j)))

/-- Every register that shows state RAM reads 0. -/
def Dev.zeroWords (d : Dev) : Dev :=
  d.each (d.words.map Prod.fst ++ stateKeys) (fun d a => d.put a (d.w a &&& ~~~(stateBits a)))

/-- The live state of engines, queues, histories and buffers is 0, as the test of state RAM leaves it (R408, R474); thermal
requests go with the urgent queues (R453). [DEDUCED, log 84] -/
def Dev.bistState (d : Dev) : Dev :=
  let d := d.each (List.finRange 4) Dev.thermDrop
  let d := { d.zeroWords with
    motors := Vector.replicate 16 Motor.zero, dist := { d.dist with acc := 0 }, fbs := Vector.replicate 24 {}, recq := [], reports := []
    groups := d.groups.map (fun (x : Group) => { x with pend := none, books := {}, starv := Vector.replicate 4 0 })
    mem := { d.mem with lineA := none, lineB := none }
    traces := d.traces.map (fun (x : Trace) => { x with wait := 0, anchAt := 0, seg := none, pend := 0, hiCnt := 0, loCnt := 0, hinAt := none })
    prisms := d.prisms.map (fun (x : Prism) => { x with
      urg := [], therm := none, inUrg := none, flight := [], conv := 0, refz := Vector.replicate 4 0
      refh := Vector.replicate 4 0, skew := Vector.replicate 4 0, acc := Vector.replicate 64 {}, trk := Vector.replicate 32 {} }) }
  (d.each (List.finRange 128) (fun d t => d.putB (aTr t 7) 12 false)).putB 0xF401 13 true

/-- The target is left as R474 tables. [DEDUCED, log 84] -/
def Dev.bistLeave (d : Dev) (tgt : Nat) : Dev :=
  match tgt with
  | 0 => d.bistState
  | 1 =>
    let d := d.each ((List.finRange 4).filter d.hasGrp) (fun d p =>
      d.each (List.range 256) (fun d i => d.put (aPrm p (0x100 + i)) 0))
    d.putB 0xF401 13 true
  | 2 => d.emptyStore
  | _ => ({ d with devLog := { repair := d.devLog.repair, repMark := d.devLog.repMark } }.writeMirror false false).logSession

/-- The test ends with cause bits set (R474): 1 DONE, 2 FAIL, 4 ABORT. What was held for the test follows (R473).
[DEDUCED, log 84] -/
def Dev.bistEnd (d : Dev) (cause : Word) : Dev :=
  match d.bist.run with
  | some tgt =>
    let d := { d with bist := { d.bist with run := none, failed := bitOf cause 1 } }
    (((d.putB 0xF401 15 false).bistLeave tgt).cause 0xF402 cause 60).domainsOff false
  | none => d

/-- Rows in the order in which they first fail. -/
def firstRows : List BistFail → List Nat → List Nat
  | [], acc => acc
  | f :: t, acc => firstRows t (if acc.contains (f.index / 64) then acc else acc ++ [f.index / 64])

/-- Failing words, each once. -/
def failWords : List BistFail → List Nat → List Nat
  | [], acc => acc
  | f :: t, acc => failWords t (if acc.contains f.index then acc else acc ++ [f.index])

/-- Record the failures of a test: count, first failure and row log (R475). [DEDUCED, log 84] -/
def Dev.bistLog (d : Dev) (fails : List BistFail) : Dev :=
  match fails with
  | [] => d
  | f :: _ =>
    let rows := firstRows fails []
    let ovf := if 8 < rows.length then 0x4000 else 0
    let d := d.put 0xF403 (word (min 65535 (failWords fails []).length))
    let d := ((d.put 0xF404 (word f.index)).put 0xF405 (word (f.index / 65536 % 16))).put 0xF406
      (word (f.bg % 8 * 4096 + f.elem % 16 * 256 + f.bit % 32))
    d.each (List.range (min 8 rows.length)) (fun d i => d.put (0xF410 + i) (word (0x8000 + ovf + rows.getD i 0 % 16384)))

/-- Words of a target (R471); of the sequence RAMs, those of the arrays that the part has. -/
def Dev.bistWords (d : Dev) : Nat → Nat
  | 0 => 524288
  | 1 => 256 * d.part.groups
  | 2 => 786432
  | _ => 131072

/-- The last element of a target's march and its number of backgrounds: March C− for SRAM, March X for ferroelectric memory
(R471). -/
def marchShape (tgt : Nat) : Nat × Nat := if tgt ≤ 1 then (5, 5) else (3, 2)

/-- An element of a target's march runs from the highest word down (R471); an element of either direction runs up.
[DESIGN CHOICE, log 122] -/
def marchDown (tgt elem : Nat) : Bool := if tgt ≤ 1 then elem = 3 || elem = 4 else elem = 2

/-- Where in its march a failure falls: by background, then by element, then in the element's direction (R472).
[DESIGN CHOICE, log 122] -/
def marchPlace (tgt : Nat) (f : BistFail) : Nat :=
  (f.bg * 6 + f.elem) * 2 ^ 20 + (if marchDown tgt f.elem then 2 ^ 20 - 1 - f.index else f.index)

/-- A word of the target can fail so: a read of the element finds it, which element 0 does not make (R471, R475). -/
def Dev.marchFits (d : Dev) (tgt : Nat) (f : BistFail) : Bool :=
  decide (f.index < d.bistWords tgt) && decide (f.bit < 28) && decide (1 ≤ f.elem) && decide (f.elem ≤ (marchShape tgt).1) &&
  decide (f.bg < (marchShape tgt).2)

/-- Numbers in strictly rising order. -/
def rising : List Nat → Bool
  | a :: b :: t => decide (a < b) && rising (b :: t)
  | _ => true

/-- The failures that a march of the target can have found, in the order in which it finds them (R472).
[DEDUCED, log 84] -/
def Dev.marchOk (d : Dev) (tgt : Nat) (fails : List BistFail) : Bool :=
  fails.all (d.marchFits tgt) && rising (fails.map (marchPlace tgt))

/-- What the test in progress has found up to now is recorded (R475). -/
def Dev.bistFound (d : Dev) (fails : List BistFail) : Dev :=
  match d.bist.run with
  | some tgt => if d.marchOk tgt fails then d.bistLog fails else d
  | none => d

/-- The march completes; it has failed where it now reports failures, or has recorded any before (R472, R474, R475). -/
def Dev.bistDone (d : Dev) (fails : List BistFail) : Dev :=
  match d.bist.run with
  | some tgt =>
    if d.runs && d.marchOk tgt fails then (d.bistLog fails).bistEnd (if fails.isEmpty && d.w 0xF403 = 0 then 1 else 3)
    else d
  | none => d

/-! ### Repair (R476 to R478) -/

/-- Rows repaired so far, by fuse and by soft entry. -/
def Dev.repaired (d : Dev) : List (Nat × Nat) := d.fuses.repairs ++ d.devLog.repair.getD []

/-- Spare rows in use for a target. -/
def Dev.spareUsed (d : Dev) (tgt : Nat) : Nat := (d.repaired.filter (fun r => r.1 = tgt)).length

/-- Spare rows of a target (R476). -/
def Dev.spareTotal (d : Dev) (tgt : Nat) : Nat :=
  match tgt with
  | 0 => 16
  | 1 => d.part.groups
  | 2 => 32
  | _ => 8

/-- A spare is left for a row; the spares of the sequence RAMs belong to one array each (R476). -/
def Dev.spareLeft (d : Dev) (tgt row : Nat) : Bool :=
  if tgt = 1 then (d.repaired.filter (fun r => r.1 = 1 ∧ r.2 / 4 = row / 4)).isEmpty
  else decide (d.spareUsed tgt < d.spareTotal tgt)

/-- Live word SPARE[t]. -/
def Dev.spareWord (d : Dev) (tgt : Nat) : Word := word (d.spareTotal tgt * 256 + d.spareUsed tgt)

/-- The data words of a soft-repair table. [DESIGN CHOICE, log 118] -/
def repairWords (l : List (Nat × Nat)) : List Word := l.map (fun r => word (r.1 * 16384 + r.2 % 16384))

/-- The soft-repair table is written, as one unit of the device log (R413, R478). -/
def Dev.writeRepair (d : Dev) (l : List (Nat × Nat)) : Dev :=
  { d with
    devLog := { d.devLog with repair := some l, repMark := commitWord (repairWords l) }
    logWrote := some (.repair, d.cycles) }

/-- One row gets a spare, by fuse or by soft entry, or stays unrepaired (R477, R478). [DEDUCED, log 85] -/
def Dev.repairRow (d : Dev) (tgt row : Nat) (soft : Bool) : Dev :=
  let table := d.devLog.repair.getD []
  if !d.spareLeft tgt row || (soft && decide (32 ≤ table.length)) then d.putB 0xF801 14 true
  else if soft then
    (d.addSat 0xF801 5 0 1).writeRepair (table ++ [(tgt, row)])
  else { d.addSat 0xF801 11 6 1 with fuses := { d.fuses with repairs := d.fuses.repairs ++ [(tgt, row)] } }

/-- A write of RCMD with GO at 1 (R477). Soft repair reaches neither the device log's own memory nor a device log
that is off. [DEDUCED, log 85] -/
def Dev.repairGo (d : Dev) : Dev :=
  let st := d.lcState
  let tgt := d.bist.lastTgt
  let entries := (List.range 8).filter (fun i => d.bit (0xF410 + i) 15)
  let ovf := entries.any (fun i => d.bit (0xF410 + i) 14)
  if d.bist.run.isSome || !d.bist.failed || ovf || !(st = 1 || (st = 3 && tgt ≠ 3 && d.logOn)) then d.putB 0xF801 15 true
  else (d.put 0xF801 0).each entries (fun d i => d.repairRow tgt (d.fld (0xF410 + i) 13 0) (st = 3))

/-! ### Boundary scan (R480, R481) -/

/-- The instruction of a 4-bit code; every code that the table does not name acts as BYPASS (R480). -/
def tapOf : BitVec 4 → TapInstr
  | 0 => .extest
  | 1 => .sample
  | 2 => .idcode
  | _ => .bypass

/-- An instruction becomes current in the TAP; in reset it stays in Test-Logic-Reset. [DESIGN CHOICE, log 87] -/
def Dev.tapLoad (d : Dev) (i : TapInstr) : Dev := if d.resetN then { d with tap := i }.driveAll else d

/-- EXTEST clears every RUN bit and holds the half-bridges off while it is current (R481). [DESIGN CHOICE, log 87] -/
def Dev.loadExtest (d : Dev) : Dev :=
  if d.resetN then
    (d.each (List.finRange 4) (fun d g => (d.putB (aGrp g 1) 0 false).seqStopped g)).tapLoad .extest
  else d

/-- The instruction of a code becomes current. -/
def Dev.loadCode (d : Dev) (c : BitVec 4) : Dev :=
  match tapOf c with
  | .extest => d.loadExtest
  | i => d.tapLoad i

end Sys2Proof.Machine
end

