-- ==== Sys2Proof/Machine/HostPort.lean ====
section
/-! DEFINITION. A host port by itself (chapter 15): the command byte, the status byte and its flags, the words that it sends, how
a transaction ends, and what a device fault cuts short in it. -/

namespace Sys2Proof.Machine

open Sys2Proof

/-- HP[k].CFG.CRCEN. -/
def Dev.crcEn (d : Dev) (k : HostIx) : Bool := d.bit (aHp k 0) 5

/-- The command byte (R384). -/
def cmdByte (op : Nat) (a : BitVec 6) : Byte := BitVec.ofNat 8 (op * 64 + a.toNat)

/-- The commands of R384. -/
inductive HostOp where
  | read (a : BitVec 6)
  | write (a : BitVec 6)
  | page (a : BitVec 6)
  | nop | getpage | lanereset
  deriving DecidableEq, Repr

/-- The command of a command byte (R384). -/
def hostDecode (b : Byte) : HostOp :=
  let a : BitVec 6 := b.extractLsb' 0 6
  match b.toNat / 64 with
  | 0 => .read a
  | 1 => .write a
  | 2 => .page a
  | _ => if a = 1 then .getpage else if a = 0x3F then .lanereset else .nop

/-- The status byte (R388). -/
def Dev.hostStatus (d : Dev) (k : HostIx) (cmde : Bool) : Byte :=
  let x := d.hp k
  BitVec.ofNat 8 (d.runs.toNat * 128 + x.faultF.toNat * 64 + d.loaderRuns.toNat * 32 + x.frameF.toNat * 16 +
    x.undrF.toNat * 8 + cmde.toNat * 4 + x.dcrceF.toNat * 2 + (d.irq k).toNat)

/-- The pending flags of a status byte. -/
def pendingFlags (st : Byte) : Byte := st &&& 0x5A

/-- A word goes out in a READ or GETPAGE, and its CRC byte after it (R385, R393). -/
def HostPort.send (x : HostPort) (v : Word) : HostPort :=
  { x with
    sent := x.sent ++ [v]
    crcs := if x.crcOn then x.crcs ++ [crc8 (x.status :: bytesOf (x.sent ++ [v]))] else x.crcs }

/-- A further status byte (R386). -/
def HostPort.again (x : HostPort) (st : BitVec 8) : HostPort := { x with status := st, waits := x.waits ++ [x.status] }

/-- The status byte is sent again, with the live flags as they are now and the pending flags that the first one carried
(R386, R388). -/
def Dev.statusAgain (d : Dev) (k : HostIx) (cmde rdy : Bool) : Dev :=
  let st := (d.hostStatus k cmde &&& 0x25) ||| (if rdy then 0x80 else 0)
  d.onHp k (fun x => x.again (st ||| pendingFlags x.status))

/-- A word goes out to host k. [DEDUCED, log 71] -/
def Dev.hostSend (d : Dev) (k : HostIx) (v : Word) : Dev := d.onHp k (fun x => x.send v)

/-- `n` words go out as 0x0000. -/
def Dev.hostZeros (d : Dev) (k : HostIx) (n : Nat) : Dev := d.each (List.range n) (fun d _ => d.hostSend k 0)

/-- The first `n` words of a GETPAGE. -/
def Dev.pageWords (d : Dev) (k : HostIx) (n : Nat) : Dev :=
  let p := (d.hp k).page
  d.each ([p.extractLsb' 0 16, (p.extractLsb' 16 2).setWidth 16].take n) (fun d v => d.hostSend k v)

/-- The transaction ends (R404). -/
def Dev.hostEnd (d : Dev) (k : HostIx) : Dev := d.put (aHp k 7) (d.w (aHp k 7) + 1)

/-- Set a cause of E28+k and count it in a saturating counter. -/
def Dev.hostCause (d : Dev) (k : HostIx) (bit cnt : Nat) : Dev := (d.cause (aHp k 1) (1#16 <<< bit) (28 + k.1)).inc (aHp k cnt)

/-- A framing fault (R394). -/
def Dev.hostFrame' (d : Dev) (k : HostIx) : Dev := (d.hostCause k 0 4).onHp k (fun x => { x with frameF := true })

/-- C1 is wrong (R393). -/
def Dev.c1Bad (d : Dev) (k : HostIx) (cmd c1 : Byte) : Bool := d.crcEn k && c1 ≠ crc8 [cmd]

/-- The data phase of a transaction ends: a rise of HCSk_N inside a word or a CRC byte is a framing fault (R394). -/
def Dev.riseFrame (d : Dev) (k : HostIx) (x : HostArgs) : Dev := if x.rise = .boundary then d else d.hostFrame' k

/-- A transaction ends where its words end, and not while it waits for one. -/
def Dev.hostFinish (d : Dev) (k : HostIx) (x : HostArgs := {}) : Dev :=
  if (d.hp k).reading.isSome then d else (d.riseFrame k x).hostEnd k

/-- The rest of a transaction that has waited for ck_core, where the device fault of its return has come first: a status
byte with RDY at 1, then READ words as 0x0000, and the page words of a GETPAGE; the words of a WRITE or PAGE are
discarded (R396). [DEDUCED, log 72] -/
def Dev.cutParked (d : Dev) (k : HostIx) (w : HostWait) : Dev :=
  let d := d.statusAgain k w.bad true
  let d :=
    match hostDecode w.cmd with
    | .read _ => d.hostZeros k w.args.n
    | .getpage => if w.bad then d.hostZeros k w.args.n else d.pageWords k w.args.n
    | _ => d
  (d.riseFrame k w.args).hostEnd k

/-- The rest of a READ that waits for a word: where that is its first, a status byte with RDY at 1, then its words as 0x0000
(R396, R420). -/
def Dev.cutReading (d : Dev) (k : HostIx) (r : OpenRead) : Dev :=
  let d := d.when (r.next = 0) (fun d => d.statusAgain k false true)
  ((d.hostZeros k r.left).riseFrame k r.args).hostEnd k

/-- The transaction of host k, if one is in progress, is cut short (R396, R418, R420): the rest of a READ goes out as
0x0000, words not yet committed are discarded, and FAULT is pending. -/
def Dev.cutPort (d : Dev) (k : HostIx) (cut : Bool) : Dev :=
  let x := d.hp k
  let d := d.onHp k (fun x => { x with
    faultF := x.faultF || cut || x.reading.isSome || x.parked.isSome || !x.held.isEmpty
    reading := none, parked := none, held := [] })
  match x.reading, x.parked with
  | some r, _ => d.cutReading k r
  | none, some w => d.cutParked k w
  | none, none => d

end Sys2Proof.Machine
end

