-- ==== Sys2Proof/Machine/FaultOps.lean ====
section
/-! DEFINITION. Memory integrity and device faults (chapter 16): corrected and uncorrectable words, what every block does
at a device fault, the loss and return of PLL_CORE lock, and the scrubber. -/

namespace Sys2Proof.Machine

open Sys2Proof

/-! ### Addresses of errors (R408, R409, R412) -/

/-- Record a class and an address in CEADDR or UEADDR. -/
def Dev.putErr (d : Dev) (a cls addr : Nat) : Dev :=
  (d.put a (word addr)).put (a + 1) (word (cls * 4096 + addr / 65536 % 256))

/-- A corrected word: CECNT, CEADDR, and the threshold of the present scrub pass (R408, R412). -/
def Dev.ceFound (d : Dev) (cls addr : Nat) : Dev :=
  let d := (d.inc 0x3A).putErr 0x3B cls addr
  let n := d.scrubCe + 1
  let d := { d with scrubCe := n }
  let thr := d.fld 0x30 7 0
  if thr ≠ 0 && decide (thr ≤ n) && !d.scrubRaised then { d.cause 0x31 1 53 with scrubRaised := true } else d

/-- An uncorrectable word is recorded in UEADDR; of those of one cycle, the one of lowest class and then lowest address
(R409). -/
def Dev.ueFound (d : Dev) (cls addr : Nat) : Dev :=
  let p := cls * 2 ^ 24 + addr
  let lower := match d.ueAt with | some (t, q) => t = d.cycles && decide (q ≤ p) | none => false
  if lower then d else { d.putErr 0x3D cls addr with ueAt := some (d.cycles, p) }

/-! ### Device faults (R416 to R421) -/

/-- Bit of DFCAUSE. -/
def dfBit : DfFind → Nat
  | .cfgUe _ => 0
  | .stateUe _ => 1
  | .fabricUe _ => 2
  | .pll => 3
  | .loader => 4

/-- Class and address of a finding, joined so that the order of R409 is the order of numbers. -/
def dfPlace : DfFind → Option Nat
  | .cfgUe a => some a.toNat
  | .stateUe i => some (2 ^ 24 + i.toNat)
  | .fabricUe a => some (2 ^ 25 + a.toNat)
  | _ => none

/-- The finding that UEADDR records, with its class and address (R409). -/
def ueOf (finds : List DfFind) : Option Nat := (finds.filterMap dfPlace).min?

/-- Bits of a register that configuration RAM holds (R408); the integrity registers stand outside it (R424). -/
def cfgMask (a : Nat) : Word :=
  match regRow a with
  | some r => if 0x30 ≤ a ∧ a < 0x40 then 0 else BitVec.ofNat 16 (r.mask .rw ||| r.mask .rwl)
  | none => 0

/-- Register `a` takes a value with what the change of its fields does: a RUN, EN or CHOPEN bit that goes to 0 stops what it
stands for, as a write of it would. [DEDUCED, log 94] -/
def Dev.loseWord (d : Dev) (a : Nat) (v : Word) : Dev :=
  if 0x10 ≤ a ∧ a < 0x30 ∧ a % 8 = 1 then (d.put a v).when (!bitOf v 0) (fun d => d.seqStopped (ix 4 ((a - 0x10) / 8) (by decide)))
  else if a = 0x800 then d.writeReq v
  else if 0x2000 ≤ a ∧ a < 0x6000 ∧ a % 0x400 = 0 then
    let m : MotorIx := ix 16 ((a - 0x2000) / 0x400) (by decide)
    let d := d.put a v
    if !bitOf v 0 && (d.mot m).state ≠ .idle then d.toIdle m else d.drive m
  else if 0x6400 ≤ a ∧ a < 0x6800 ∧ a % 0x40 = 0 then d.writeSupCfg (ix 4 ((a - 0x6400) / 0x40) (by decide)) v
  else if 0x7000 ≤ a ∧ a < 0x7080 then
    let m : MotorIx := ix 16 ((a - 0x7000) / 8) (by decide)
    let d := d.put a v
    if d.bit (aGrp (grpOf m) 1) 0 then d else { d with glDue := d.glDue ++ [m] }
  else if 0x8000 ≤ a ∧ a < 0xA000 ∧ a % 0x800 = 0 then d.writePrmCtrl (ix 4 ((a - 0x8000) / 0x800) (by decide)) v
  else if 0xA000 ≤ a ∧ a < 0xA300 ∧ a % 0x20 = 0 then d.writeFbCfg (ix 24 ((a - 0xA000) / 0x20) (by decide)) v
  else if a = 0xA308 then d.writeDcfg v
  else if 0xB000 ≤ a ∧ a < 0xB400 then
    let t : TraceIx := ix 128 ((a - 0xB000) / 8) (by decide)
    match a % 8 with
    | 0 => d.writeTraceSrc t v
    | 1 => d.writeTraceTag t v
    | 2 => d.writeTraceRate t v
    | _ => d.put a v
  else d.put a v

/-- A configuration word takes its reset value (R421). [DEDUCED, log 94] -/
def Dev.loseCfg (d : Dev) (a : Nat) : Dev :=
  let m := cfgMask a
  (d.loseWord a ((d.w a &&& ~~~m) ||| (resetWord a &&& m))).putB 0x3F 15 true

/-- The causes of a fault are set, each with E54 (R416, R420, R444). -/
def Dev.faultCauses (d : Dev) (finds : List DfFind) : Dev :=
  let mask : Word := (finds.map (fun f => 1#16 <<< dfBit f)).foldl (· ||| ·) 0
  let d := (d.orW 0x32 mask).raiseN 54 (bitList mask).length
  let d := match ueOf finds with
    | some n => d.ueFound (n / 2 ^ 24) (n % 2 ^ 24)
    | none => d
  d.each (finds.filterMap (fun f => match f with | .cfgUe a => some a.toNat | _ => none)) Dev.loseCfg

/-- Policy code of motor m in DFPOL. -/
def Dev.dfPol (d : Dev) (m : MotorIx) : Nat := d.fld (0x34 + m.1 / 8) (2 * (m.1 % 8) + 1) (2 * (m.1 % 8))

/-- A motor at a device fault (R419): outside IDLE it enters FAULT; in FAULT a later action of R72 replaces the
present one (R73). [DEDUCED, log 94] -/
def Dev.faultMotor (d : Dev) (m : MotorIx) : Dev :=
  let x := d.mot m
  let a := (codeAct (d.dfPol m)).getD .float
  if x.state = .idle then d
  else
    let a := if x.state = .fault && decide (a.rank ≤ x.act.rank) then x.act else a
    let d := if x.state = .fault && a = x.act then d else d.enterFault m a
    d.onMot m (fun x => { x with devFault := true, devHeld := none })

/-- An array at a device fault: its urgent queue is flushed, and the thermal request that waited outside it follows
(R246, R453). -/
def Dev.faultPrism (d : Dev) (p : GroupIx) : Dev :=
  if d.prmOn p then
    let d := (d.onPrm p (fun x => { x with urg := [], inUrg := none })).thermFlush p
    let d := (d.discardPartial p).restartTrks p
    if d.prmReady p then (d.resumeSeq p).thermFeed p else d
  else d

/-- A request to the partner ends with a result (R437). -/
def Dev.rqEnd (d : Dev) (res : Nat) (data : Word) : Dev :=
  if d.bit 0xE804 15 then ((d.putB 0xE804 15 false).putF 0xE804 14 12 res).put 0xE805 data else d

/-- A load in progress at step 4 ends: the deferred words are discarded, PHASE reads FAILED, and PARTIAL sets when pass 2
had begun (R347). -/
def Dev.loadFails (d : Dev) : Dev :=
  if d.loader.step = 4 then
    let d := d.when (d.cfgPhase = 3) (fun d => d.putB 0x40 11 true)
    { d.putF 0x40 2 0 6 with loader := { d.loader with step := 5, defer := [] } }.memRelease.memNext
  else d

/-- The engines, groups, arrays, feedback, traces and ports at a device fault (R418). -/
def Dev.actBlocks (d : Dev) (cut : Vector Bool 4) : Dev :=
  let d := d.each (List.finRange 16) Dev.faultMotor
  let d := d.each (List.finRange 4) (fun d g =>
    (((d.zeroGrants g).resetRR g).snapshot g).onGrp g (fun x => { x with floorsOnly := true }))
  let d := d.each (List.finRange 4) Dev.faultPrism
  let d := d.each (List.finRange 24) (fun d f => (d.dropSpeed f).onFb f (fun x => { x with
    checkDue := false, leaveDue := false }))
  let d := d.each (List.finRange 128) (fun d t =>
    (d.dropSeg t 1).onTrc t (fun x => { x with pend := x.pend &&& 0x7F }))
  let d := d.each (List.finRange 4) (fun d k => d.cutPort k cut[k])
  d.memFault.rqEnd 3 0

/-- The link at a device fault: the exchange in progress is given up, and a new fault is announced (R418). -/
def Dev.linkFault (d : Dev) : Dev :=
  { d with mirror := { d.mirror with exTag := none, rsp := none, dfGen := d.mirror.dfGen + 1 } }

/-- Every block at a device fault (R418). -/
def Dev.faultBlocks (d : Dev) (cut : Vector Bool 4) : Dev := ((d.actBlocks cut).linkFault.bistEnd 4).loadFails

/-- A session action that this cycle has seen before the fault counts as one of the next cycle: CPLTIME and the event take
that cycle's stamp (R356). [DEDUCED, log 98] -/
def Dev.cplAfter (d : Dev) : Dev :=
  match d.cplDone with
  | some (t, level) =>
    if t = d.cycles then
      let e := { d with cycles := d.cycles + 1 }
      let i : Fin 64 := if level then 56 else 57
      { d.put32 0x53 e.time with ev := upd d.ev i (fun x => { x with ts := e.time, sub := e.sub }) }
    else d
  | none => d

/-- A device fault with its findings; `cut` names the host ports whose transaction in progress it cuts (R416 to
R421). [DESIGN CHOICE, log 19; DEDUCED, log 94] -/
def Dev.fault (d : Dev) (finds : List DfFind) (cut : Vector Bool 4) : Dev :=
  let same := match d.faultAt with | some t => decide (d.cycles ≤ t + 64) | none => false
  let d := d.faultCauses finds
  if same then d
  else
    let d := { (d.inc 0x36).stamp 0x37 with faultAt := some d.cycles }
    (d.faultBlocks cut).cplAfter

/-- No host port has a transaction in progress. -/
def noCut : Vector Bool 4 := Vector.replicate 4 false

/-- The hold of a device fault ends for motor m (R419). -/
def Dev.holdEnd (d : Dev) (m : MotorIx) : Dev :=
  let x := d.mot m
  let ended := match x.devHeld with | some n => decide (max 1 (d.fld 0x33 7 0) ≤ n) | none => false
  if d.runs && x.state = .fault && x.devFault && d.bit 0x33 15 && ended then d.toIdle m else d

/-! ### PLL_CORE (R32, R35, R417) -/

/-- PLL_CORE loses lock; `held` says that the loss lasts until the detector holds every ENABLE low, of a loss that
has begun too. Times that need no clock run on (R12). -/
def Dev.coreLost (d : Dev) (held : Bool) : Dev :=
  if d.runs then
    let d := { d.setB 0x7 0 with
      locked := false, heldOff := held, power := { d.power with gap := 0x3FF, gapOn := true }
      dies := d.dies.map (fun (x : Die) => { x with gap := true }) }
    d.driveAll
  else if d.resetN && d.everLock && !d.locked then { d with heldOff := d.heldOff || held }.driveAll
  else d

/-- PLL_CORE has lock again: in the first cycle the raises that waited take effect, the fault is handled, running groups
restart at frame tick 0, and the choppers follow what changed meanwhile (R32, R36, R191, R416). [DEDUCED, log 93] -/
def Dev.coreBack (d : Dev) (cut : Vector Bool 4) : Dev :=
  if d.resetN && d.everLock && !d.locked then
    let d := { d.dueFb with locked := true, heldOff := false, cycles := d.cycles + 1 }.newCycle.dueGlint.raiseLate.closesLate
    let d := d.fault [.pll] cut
    let d := (d.each (List.finRange 4) Dev.restartGroup).each (List.finRange 4) Dev.startDue
    let d := d.each (List.finRange 4) Dev.setBrk
    let d := d.each (List.finRange 16) (fun d m => d.onMot m (fun x => { x with devHeld := none }))
    d.driveAll
  else d

/-! ### Scrubbing (R410 to R412) -/

/-- First scrub position of state RAM: configuration words take the positions of their addresses. -/
def stateBase : Nat := 0x10000

/-- A word of SEQ or SEQT. -/
def inSeq (a : Nat) : Bool :=
  decide (0x8000 ≤ a) && decide (a < 0xA000) && decide (0x100 ≤ (a - 0x8000) % 0x800) && decide ((a - 0x8000) % 0x800 < 0x200)

/-- Scrub position n belongs to a memory under test, which no read of the code meets (R471). -/
def Dev.underTest (d : Dev) (n : Nat) : Bool :=
  (d.bist.run = some 0 && decide (stateBase ≤ n)) || (d.bist.run = some 1 && inSeq n)

/-- The first position at or after `a`, below the bound that the fuel sets, whose word a scrub reads. -/
def nextRead (ok : Nat → Bool) : Nat → Nat → Nat
  | 0, a => a
  | fuel + 1, a => if ok a then a else nextRead ok fuel (a + 1)

/-- Words of state RAM (R410). -/
def stateWords : Nat := 524288

/-- A scrub pass ends (R410, R412). -/
def Dev.passEnd (d : Dev) : Dev :=
  { d.putF 0x3F 14 0 ((d.fld 0x3F 14 0 + 1) % 32768) with scrubPos := 0, scrubCe := 0, scrubRaised := false }

/-- The position of the next scrub read: a memory under test is skipped (R471). [DEDUCED, log 95] -/
def Dev.scrubNext (d : Dev) : Nat :=
  let ok (a : Nat) : Bool := cfgMask a ≠ 0 && !d.underTest a
  let n := if d.scrubPos < stateBase then nextRead ok (stateBase - d.scrubPos) d.scrubPos else d.scrubPos
  if decide (stateBase ≤ n) && d.underTest n then stateBase + stateWords else n

/-- A word of configuration RAM as its decoder delivers it. -/
def Dev.takeCfg (d : Dev) (n : Nat) (v : Word) : Dev := d.put n ((d.w n &&& ~~~cfgMask n) ||| (v &&& cfgMask n))

/-- The finding that an uncorrectable word at scrub position n is. -/
def ramFault (n : Nat) : DfFind :=
  if n < stateBase then .cfgUe (BitVec.ofNat 24 n) else .stateUe (BitVec.ofNat 24 (n - stateBase))

/-- The word at scrub position n as its decoder delivers it. -/
def Dev.takeRam (d : Dev) (n : Nat) (v : Word) : Dev := if n < stateBase then d.takeCfg n v else d

/-- A read finds the word at scrub position n with its 28 stored bits changed by `err` (R407, R408, R411): it is delivered
corrected and waits for its write-back, or it is lost, with the device fault that this is. The words of state RAM have no
layout, so theirs are taken as 0. -/
def Dev.ramFound (d : Dev) (n : Nat) (err : BitVec 28) (cut : Vector Bool 4) : Dev × Bool :=
  if err = 0 || d.underTest n then (d, false)
  else
    match decode28 (encode28 (if n < stateBase then d.w n else 0) ^^^ err) with
    | .clean v => (d.takeRam n v, false)
    | .corrected v =>
      let d := (d.takeRam n v).ceFound (if n < stateBase then 0 else 1) (if n < stateBase then n else n - stateBase)
      ({ d with backs := d.backs ++ [(n, v)] }, false)
    | .bad => (d.fault [ramFault n] cut, true)

/-- A master's read of word n, where configuration RAM holds it. -/
def Dev.ramRead (d : Dev) (n : Nat) (err : BitVec 28) (cut : Vector Bool 4) : Dev × Bool :=
  if cfgMask n = 0 then (d, false) else d.ramFound n err cut

/-- An engine reads a word of configuration or state RAM (R408, R411). [DESIGN CHOICE, log 19; DEDUCED, log 95] -/
def Dev.engineRead (d : Dev) (cut : Vector Bool 4) (f : RamFind) : Dev :=
  if f.state then (if f.addr < stateWords then (d.ramFound (stateBase + f.addr) f.err cut).1 else d)
  else (d.ramRead f.addr f.err cut).1

/-- A scrub read of the next word, whose 28 bits differ from the code word by `err` (R407, R408, R410, R411).
[DESIGN CHOICE, log 19; DEDUCED, log 95] -/
def Dev.scrub (d : Dev) (err : BitVec 28) (cut : Vector Bool 4) : Dev :=
  let n := d.scrubNext
  if stateBase + stateWords ≤ n then d.passEnd
  else
    let d := ({ d with scrubPos := n + 1 }.ramFound n err cut).1
    if stateBase + stateWords ≤ d.scrubPos then d.passEnd else d

/-- The turn of the scrubber: accesses of engines go first, and then the scrub read waits (R410). [DEDUCED, log 95] -/
def Dev.scrubTurn (d : Dev) (err : BitVec 28) (firsts : List RamFind) (cut : Vector Bool 4) : Dev :=
  if firsts.isEmpty then d.scrub err cut else d.each firsts (fun d f => d.engineRead cut f)

/-- The oldest corrected word is written back as corrected, unless it has been written since (R411).
[DEDUCED, log 95] -/
def Dev.writeBack (d : Dev) : Dev :=
  match d.backs with
  | [] => d
  | (n, v) :: rest =>
    let d := { d with backs := rest }
    if d.w n &&& cfgMask n = v &&& cfgMask n then d.takeRam n v else d

end Sys2Proof.Machine
end

