-- ==== Sys2Proof/Machine/Start.lean ====
section
/-! DEFINITION. Reset, the start sequence and pass 1 of the configuration load (chapter 13): RESET_N, PLL_CORE's first
lock, fuses and device log, flash discovery (R364 to R366), the judgement of a slot (R342), slot selection, and the
common part of completion (R349, R352). -/

namespace Sys2Proof.Machine

open Sys2Proof

/-! ### RESET_N (R332, R333) -/

/-- Fuses whose programming a reset cuts short: either the old state or the new one (R467). [DESIGN CHOICE, log 14] -/
def Dev.cutFuses (d : Dev) : Dev :=
  if d.lc.fuse.isSome then (if Config.eitherWay d.free then d.fuseDone.nextFree else d.nextFree) else d

/-- What a test of a ferroelectric memory leaves when a reset cuts it short: every unit torn (R474).
[DEDUCED, log 86] -/
def Dev.cutTest (d : Dev) : Dev :=
  match d.bist.run with
  | some 2 => { d with store := [], marks := [], tested := true }
  | some 3 => { d with devLog := {} }
  | _ => d

/-- The module as RESET_N low holds it: only what ferroelectric memory, fuses and the part itself keep, and the levels
of the gate supplies, which are outside it (R332, R333). [DEDUCED, log 88] -/
def Dev.inReset (d : Dev) : Dev :=
  let d := d.cutTest.cutFuses
  { part := d.part, rev := d.rev, fuses := d.fuses, devLog := d.devLog, store := d.store, marks := d.marks
    tested := d.tested, free := d.free, dies := d.dies.map (fun x => { low := x.low }) }

/-- A unit of the device log is torn: its commit word is 0 (R413). -/
def DevLog.tear (l : DevLog) : LogUnit → DevLog
  | .copyA => { l with copyA := l.copyA.map MirrorCopy.tear }
  | .copyB => { l with copyB := l.copyB.map MirrorCopy.tear }
  | .session => { l with sesMark := 0 }
  | .repair => { l with repair := some (l.repair.getD []), repMark := 0 }

/-- A unit of the device log is torn. -/
def Dev.tearLog (d : Dev) (u : LogUnit) : Dev := { d with devLog := d.devLog.tear u }

/-- The mirror copy that the next write replaces is torn (R413, R415). -/
def Dev.tearMirror (d : Dev) : Dev := d.tearLog (if d.devLog.nextB then .copyB else .copyA)

/-- The unit of the device log that is being written: the last one written, for 1 µs from its cycle on.
[DESIGN CHOICE, log 117] -/
def Dev.writing (d : Dev) : Option LogUnit :=
  match d.logWrote with
  | some (u, t) => if d.cycles ≤ t + 200 then some u else none
  | none => none

/-- A reset tears the unit that is being written, where it is one of those named. [DEDUCED, log 88] -/
def Dev.cutUnit (d : Dev) (us : List LogUnit) : Dev :=
  match d.writing with
  | some u => if us.contains u then d.tearLog u else d
  | none => d

/-- A reset cuts the commit of the oldest queued record: in its intent copy, after that copy, in the slot, which is torn and
reads as empty, or in its result copy (R333, R413, R415). [DEDUCED, log 88] -/
def Dev.cutRecord (d : Dev) (cut : CommitCut) : Dev :=
  match d.recq with
  | [] => d
  | r :: _ =>
    if !d.domRdy 3 || d.noStore || (d.emptied.map Prod.fst) = some d.cycles then d
    else
      let s := d.wptr
      let intent := d.writeMirror true (d.slotHolds s)
      match cut with
      | .intent => d.tearMirror
      | .gap => intent
      | .slot => intent.clearSlot s
      | .result => (intent.writeSlot s r).tearMirror
      | _ => d

/-- What a reset cuts short (R333, R413). [DEDUCED, log 88] -/
def Dev.cutCommit (d : Dev) (cut : CommitCut) : Dev :=
  match cut with
  | .session => d.cutUnit [.session]
  | .repair => d.cutUnit [.repair]
  | .books => d.cutUnit [.copyA, .copyB]
  | _ => d.cutRecord cut

/-- RESET_N is pulled low for `lowNs` (R332): below 100 ns nothing, from 10 µs a reset, between them either; `cut` says
where a record commit is cut short. [DESIGN CHOICE, log 13] -/
def Dev.resetLow (d : Dev) (lowNs : Nat) (cut : CommitCut) : Dev :=
  if lowNs < 100 then d
  else if lowNs < 10000 then (if Config.eitherWay d.free then (d.nextFree.cutCommit cut).inReset else d.nextFree)
  else (d.cutCommit cut).inReset

/-- RESET_N rises: MIRROR_ID is sampled and step 1 begins (R334, R431). -/
def Dev.resetHigh (d : Dev) (mirrorId : Bool) : Dev :=
  if d.resetN then d
  else { d with resetN := true, loader := { d.loader with step := 1 }, mirror := { d.mirror with id := mirrorId } }

/-- PLL_CORE locks for the first time after RESET_N rose: TIME starts, and step 2 begins (R34, R334). -/
def Dev.firstLock (d : Dev) : Dev :=
  if d.resetN && !d.everLock then
    { d with locked := true, everLock := true, cycles := 0, loader := { d.loader with step := 2 } }.newCycle.raiseLate
  else d

/-- The fuses are read: the factory coefficients load, and D3 LOG is switched on (R222, R334). -/
def Dev.fusesRead (d : Dev) : Dev :=
  if d.runs && d.loader.step = 2 then
    let d := { d with loader := { d.loader with step := 3 } }.loadCoefs
    if d.domMayStart 3 then d.domStart 3 else d
  else d

/-! ### The device log at step 3 (R335, R415, R478) -/

/-- An uncorrectable word at an index of the device log (R408). -/
def Dev.logBad (d : Dev) (ix : BitVec 24) : Dev := (d.ueFound 4 ix.toNat).cause 0x32 0x200 54

/-- What the read of one word of the device log finds (R407, R408): a corrected word is counted; an uncorrectable one,
and one that the code corrects to a wrong word, leave the unit torn (R413). [DESIGN CHOICE, log 19, 117] -/
def Dev.logRead (d : Dev) (f : LogFind) : Dev :=
  match decode28 (encode28 0 ^^^ f.err) with
  | .clean v => if v = 0 then d else d.tearLog f.unit
  | .corrected v =>
    let d := d.ceFound 4 f.index.toNat
    if v = 0 then d else d.tearLog f.unit
  | .bad => (d.logBad f.index).tearLog f.unit

/-- The findings that the three truth values of a load stand for: an uncorrectable word in both mirror copies, in
SESSION's, and in the soft-repair table, at indices that the command does not name. [DESIGN CHOICE, log 117] -/
def badFinds (n : Nat) (trace session repair : Bool) : List LogFind :=
  let f (i : Nat) (u : LogUnit) : LogFind := ⟨u, Config.logIndex (n + i), 0x11⟩
  (if repair then [f 0 .repair] else []) ++ (if trace then [f 1 .copyA, f 2 .copyB] else []) ++
    (if session then [f 3 .session] else [])

/-- A mirror was unreadable or has never been committed (R335). -/
def Dev.logX (d : Dev) : Dev := d.putB 0x40 8 true

/-- The books and the pointer of a mirror copy. -/
def Dev.loadCopy (d : Dev) (c : MirrorCopy) : Dev :=
  let d := ((((d.put32 0xB486 (BitVec.ofNat 32 c.wptr)).put32 0xB488 c.written).put32 0xB48A c.readable).put32 0xB48C
    c.overwr).put32 0xB48E c.disc
  d.put 0xB499 (word (c.wrap.toNat * 2 + c.full.toNat))

/-- The start reads slot s, its four words and then its commit word with their 28 stored bits changed by `errs`: whether
they decode to a record that is committed. A corrected word counts, and one that cannot be corrected is recorded with
TRACEUE (R407, R408, R413). [DEDUCED, log 125] -/
def Dev.slotRead (d : Dev) (s : Nat) (errs : List (BitVec 28)) : Dev × Bool :=
  let ws := ((List.range 4).map (d.slotWord s) ++ [d.slotMark s]).mapIdx (fun i w => decode28 (encode28 w ^^^ errs.getD i 0))
  let vs := ws.map Decoded.value
  let place (i : Nat) : Nat := 0x100000 + 4 * s + i % 4
  let d := d.each ((List.range 5).filter (fun i => ws.getD i .bad = .corrected (vs.getD i 0))) (fun d i => d.ceFound 3 (place i))
  match (List.range 5).filter (fun i => ws.getD i .bad = .bad) with
  | i :: _ => ((d.ueFound 3 (place i)).cause 0x32 0x100 54, false)
  | [] => (d, vs.getD 4 0 = commitWord (vs.take 4))

/-- A copy whose commit was under way is resolved by what slot WPTR holds, as the start reads it (R292, R415). -/
def Dev.resolveCopy (d : Dev) (c : MirrorCopy) (errs : List (BitVec 28)) : Dev :=
  if !c.pendWr then d
  else
    let (d, held) := d.slotRead d.wptr errs
    if held then ((d.book 0 1).book (if c.old then 4 else 2) 1).advanceWptr
    else
      let d := ((d.clearSlot d.wptr).book 0 1).book 6 1
      if c.old then (d.book 2 (-1)).book 4 1 else d

/-- A store whose test RESET_N cut short holds no record: every slot is torn, and its records are counted as lost (R292,
R293, R474). -/
def Dev.loseTested (d : Dev) : Dev :=
  if d.tested then
    let n := d.w32 0xB48A
    (({ d with tested := false }.put32 0xB48A 0).book 6 n).writeMirror false false
  else d

/-- The trace-store mirror loads (R335, R415). [DEDUCED, log 86] -/
def Dev.loadBooks (d : Dev) (errs : List (BitVec 28)) : Dev :=
  match d.devLog.newest with
  | some c => ((d.loadCopy c).resolveCopy c errs).loseTested
  | none => d.logX.loseTested

/-- SESSION loads where its mirror is committed (R335). -/
def Dev.loadSession (d : Dev) : Dev :=
  match d.devLog.session with
  | some n => if d.devLog.sesMark = commitWord [n] then d.put 0x52 n else d.logX
  | none => d.logX

/-- A torn soft-repair table is discarded whole (R478). -/
def Dev.loadRepair (d : Dev) : Dev :=
  match d.devLog.repair with
  | some l =>
    if d.devLog.repMark = commitWord (repairWords l) then d
    else { d.putB 0xF000 11 true with devLog := { d.devLog with repair := none, repMark := 0 } }
  | none => d

/-- Step 3 ends: the device log has been read with what `finds` says, and slot WPTR, where it is read, with what `errs`
says, the soft-repair table is applied before the mirrors load, and step 4 begins with discovery (R334, R335, R346,
R408, R478). [DESIGN CHOICE, log 117] -/
def Dev.logLoaded (d : Dev) (badTrace badSession badRepair : Bool) (finds : List LogFind) (errs : List (BitVec 28)) :
    Dev :=
  if d.runs && d.loader.step = 3 && d.domRdy 3 && !(d.lcState = 4 && !d.fuses.erased) then
    let bad := badFinds d.free badTrace badSession badRepair
    let d := { d with free := d.free + (if bad.isEmpty then 0 else 4) }
    let d := ((d.each (bad ++ finds) Dev.logRead).loadRepair.loadBooks errs).loadSession
    { d.putF 0x40 2 0 1 with loader := { d.loader with step := 4 } }.loaderReads
  else d

/-! ### Completion (R349, R352) -/

/-- KISS loads from KISSREF (R128). -/
def Dev.loadKiss (d : Dev) (m : MotorIx) : Dev := d.put32 (aMot m 0x159) (d.w32 (aMot m 0x157))

/-- Every table locks and READY sets: `src` is CFGSTAT.SRC, and SLOT and MACOK describe a loaded image.
[DEDUCED, log 91] -/
def Dev.complete (d : Dev) (src : Nat) (slot macOk : Bool) : Dev :=
  let d := d.put 0x40 (withBits (((d.w 0x40 &&& 0x09F8) ||| 0xC000) ||| word (src * 0x1000 + slot.toNat * 0x400 +
    macOk.toNat * 0x200)) 2 0 4)
  let d := d.stampTime 0x45
  let d := { d with
    cplFrom := d.cycles + 1
    loader := { d.loader with step := 5, m5 := false, defer := [] }
    mirror := { d.mirror with presEver := d.mirror.pres, alone := false, downAt := d.cycles } }
  ((d.each ((List.finRange 16).filter d.hasMot) Dev.loadKiss).raise 55).syncRr.memRelease.memNext

/-- CFGCMD.DONE (R352). -/
def Dev.cfgDone (d : Dev) : Dev := d.complete 2 (d.bit 0x40 10) false

/-- CFGCMD.RELOAD: every group's RUN becomes 0, and the start sequence goes on at step 4 (R352). -/
def Dev.cfgReload (d : Dev) : Dev :=
  let d := d.each (List.finRange 4) (fun d g => (d.putB (aGrp g 1) 0 false).seqStopped g)
  { d.putF 0x40 2 0 1 with loader := { step := 4, m5 := d.loader.m5 } }.loaderReads

/-- A write of CFGCMD (R346, R352). -/
def Dev.writeCfgcmd (d : Dev) (v : Word) : Dev :=
  if (d.cfgPhase = 5 || d.cfgPhase = 6) && !d.bit 0x40 14 then
    (if bitOf v 1 then d.cfgReload else if bitOf v 0 then d.cfgDone else d)
  else d

/-- The loader ends without completion: WAITHOST (R348). -/
def Dev.waitHost (d : Dev) : Dev :=
  let d := { d.putF 0x40 2 0 5 with loader := { d.loader with step := 5 } }
  ((d.putF 0x40 13 12 0).raise 55).memRelease.memNext

/-! ### Discovery (R364 to R366) -/

/-- Field `hi` to `lo` of double word `i` of the parameter table, counted from 1. [PRESUMED, log 69] -/
def sfField (s : Sfdp) (i hi lo : Nat) : Nat := ((s.dwords.getD (i - 1) 0).toNat >>> lo) % 2 ^ (hi + 1 - lo)

/-- log2 of the density in bytes. -/
def sfDens (s : Sfdp) : Nat :=
  let n := sfField s 2 30 0
  (if sfField s 2 31 31 = 1 then n else Nat.log2 (n + 1)) - 3

/-- The density exceeds 16 MiB. -/
def sfBig (s : Sfdp) : Bool := if sfField s 2 31 31 = 1 then decide (27 < sfField s 2 30 0) else decide (2 ^ 27 ≤ sfField s 2 30 0)

/-- Four-byte addressing is reported. -/
def sfFour (s : Sfdp) : Bool := sfField s 1 18 17 = 1 || sfField s 1 18 17 = 2

/-- Discovery succeeds. -/
def sfOk (s : Sfdp) : Bool :=
  s.signature = 0x50444653 && s.major = 1 && decide (9 ≤ s.dwords.length) && (!sfBig s || sfFour s)

/-- Double word 17 is one of revision C or later. [PRESUMED, log 69] -/
def sfRevC (s : Sfdp) : Bool := decide (7 ≤ s.minor) && decide (17 ≤ s.dwords.length)

/-- No quad-enable bit exists. [PRESUMED, log 69] -/
def sfNoQe (s : Sfdp) : Bool := decide (15 ≤ s.dwords.length) && sfField s 15 22 20 = 0

/-- The read modes of R365 in order: supported, address lanes, data lanes, instruction, dummy periods.
[PRESUMED, log 69] -/
def sfModes (s : Sfdp) : List (Bool × Nat × Nat × Nat × Nat) :=
  let field (i lo : Nat) : Nat × Nat := (sfField s i (lo + 15) (lo + 8), sfField s i (lo + 4) lo + sfField s i (lo + 7) (lo + 5))
  let m188 := field 17 0
  let m118 := field 17 16
  [ (sfRevC s && m188.1 ≠ 0, 3, 3, m188.1, m188.2),
    (sfRevC s && m118.1 ≠ 0, 0, 3, m118.1, m118.2),
    (sfNoQe s && sfField s 1 21 21 = 1, 2, 2, (field 3 0).1, (field 3 0).2),
    (sfNoQe s && sfField s 1 22 22 = 1, 0, 2, (field 3 16).1, (field 3 16).2),
    (sfField s 1 20 20 = 1, 1, 1, (field 4 16).1, (field 4 16).2),
    (sfField s 1 16 16 = 1, 0, 1, (field 4 0).1, (field 4 0).2),
    (true, 0, 0, 0x0B, 8) ]

/-- The widest supported mode. -/
def sfMode (s : Sfdp) : Nat × Nat × Nat × Nat :=
  match (sfModes s).find? (fun m => m.1) with
  | some m => m.2
  | none => (0, 0, 0x0B, 8)

/-- The selected format (R362). [PRESUMED, log 69] -/
def sfFormat (s : Sfdp) : Word :=
  word (0x2000 + (if sfBig s then 0x1000 else 0x800) + (sfMode s).1 * 0x80 + (sfMode s).2.1 * 0x20 + (sfMode s).2.2.2 % 32)

/-- Discovery ends (R344, R348, R364 to R366). [DESIGN CHOICE, log 92] -/
def Dev.discovered (d : Dev) (s : Sfdp) : Dev :=
  if d.runs && d.loader.step = 4 && d.cfgPhase = 1 && d.memMay then
    if sfOk s then
      let d := ((d.put 0xD009 (sfFormat s)).put 0xD00A (word ((sfMode s).2.2.1 * 256))).putF 0xD000 4 0 1
      let d := d.put 0xD010 (word ((sfDens s) * 256 + s.minor % 16 * 16 + (sfBig s).toNat * 8 + (sfMode s).2.1 * 2 + 1))
      { d.putF 0x40 2 0 2 with loader := { d.loader with sel := 0, discards := 0 } }.memInvalid.memSync.loaderReads
    else (((d.put 0x41 0x1000).put 0x42 0x1000).put 0xD010 0).waitHost
  else d

/-! ### The image (R337 to R343) -/

/-- Word `i` of an image; nothing stands past the words read. -/
def img (ws : List Word) (i : Nat) : Word := ws.getD i 0

/-- A 32-bit field of an image, low half first. -/
def img32 (ws : List Word) (i : Nat) : BitVec 32 := img ws (i + 1) ++ img ws i

/-- One section: its header words, its payload, and its stored CRC (R340). -/
structure Section where
  s0 : Word
  base : Nat
  rsvd : Bool               -- a reserved bit of S0 or S2 is not 0
  payload : List Word
  crc : BitVec 32           -- as computed
  crcOk : Bool              -- the section is whole and its stored CRC is right
  deriving DecidableEq, Repr

/-- The first section of a list of words, and the words after it. -/
def readSection (ws : List Word) : Section × List Word :=
  let count := (img ws 3).toNat
  let body := ws.take (4 + count)
  let c := crc32 (bytesOf body)
  ({ s0 := img ws 0, base := (img ws 1).toNat + 65536 * bits (img ws 2) 7 0
     rsvd := bits (img ws 0) 9 0 ≠ 0 || bits (img ws 2) 15 8 ≠ 0
     payload := body.drop 4, crc := c
     crcOk := decide (6 + count ≤ ws.length) && img32 ws (4 + count) = c },
   ws.drop (6 + count))

/-- The first `n` sections of a list of words, and the words after them. -/
def readSections : Nat → List Word → List Section × List Word
  | 0, ws => ([], ws)
  | n + 1, ws =>
    let (s, rest) := readSection ws
    let (l, rest) := readSections n rest
    (s :: l, rest)

/-- TYPE of R341. -/
def Section.ty (s : Section) : Nat := bits s.s0 15 12

/-- MOD of R340. -/
def Section.mod (s : Section) : Nat := bits s.s0 11 10

/-- The section applies to a module (R350). -/
def Section.applies (s : Section) (id : Bool) : Bool := s.mod = 0 || s.mod = (if id then 2 else 1)

/-- COUNT is consistent with TYPE (R341). [DEDUCED, log 90] -/
def Section.countOk (s : Section) : Bool :=
  match s.ty with
  | 1 => !s.payload.isEmpty
  | 2 => s.payload.length = 2 && img s.payload 1 ≠ 0
  | 3 => !s.payload.isEmpty && s.payload.length % 2 = 0
  | 4 => s.payload.length = 1 && img s.payload 0 ≠ 0
  | _ => false

/-- Pairs of offset and value. -/
def pairs : List Word → List (Word × Word)
  | a :: v :: t => (a, v) :: pairs t
  | _ => []

/-- The writes of a section, in order: word address and value (R341). -/
def Section.writes (s : Section) : List (Nat × Word) :=
  match s.ty with
  | 1 => s.payload.mapIdx (fun i v => (s.base + i, v))
  | 2 => (List.range (img s.payload 1).toNat).map (fun i => (s.base + i, img s.payload 0))
  | 3 => (pairs s.payload).map (fun p => (s.base + p.1.toNat, p.2))
  | _ => []

/-- The deferred field of a word address, if it holds one (R345). -/
def deferField (a : Nat) : Option Word :=
  if a = 0xF then some 0x000F
  else if 0x10 ≤ a ∧ a < 0x30 ∧ a % 8 = 1 then some 1
  else if 0x2000 ≤ a ∧ a < 0x6000 ∧ a % 0x400 = 0 then some 1
  else if 0x8000 ≤ a ∧ a < 0xA000 ∧ a % 0x800 = 0 then some 1
  else if 0xB000 ≤ a ∧ a < 0xB400 ∧ a % 8 = 0 then some 0x8000
  else none

/-- The first failure of a section in itself (R342): reason of CFGERR. [DEDUCED, log 89, 90] -/
def Section.failure (s : Section) : Option Nat :=
  if !s.crcOk then some 7
  else if !(decide (1 ≤ s.ty) && decide (s.ty ≤ 4)) || s.mod = 3 || !s.countOk then some 8
  else if s.rsvd then some 15
  else if (s.ty = 4 && s.base ≠ 0) || s.writes.any (fun w => decide (0xFFFFF < w.1) || w.1 = 0x4B) then some 9
  else none

/-- The first failure of the sections, with the writes deferred so far; sections count from 1. [DEDUCED, log 89] -/
def sectionsFail (id : Bool) : Nat → Nat → List Section → Option (Nat × Nat)
  | _, _, [] => none
  | n, defers, s :: t =>
    match s.failure with
    | some r => some (r, n)
    | none =>
      let k := defers + (if s.applies id then (s.writes.filter (fun w => (deferField w.1).isSome)).length else 0)
      if 256 < k then some (10, n) else sectionsFail id (n + 1) k t

/-- The first failure of the header (R339, R342). [DEDUCED, log 89] -/
def headerFail (devId : Word) (ws : List Word) : Option Nat :=
  if img ws 0 ≠ 0x4F54 then some 2
  else if img ws 1 ≠ 1 then some 3
  else if img ws 2 ≠ devId && img ws 2 ≠ 0 then some 4
  else if img32 ws 14 ≠ crc32 (bytesOf (ws.take 14)) then some 5
  else if bits (img ws 3) 15 1 ≠ 0 || bits (img ws 9) 15 12 ≠ 0 then some 15
  else if (img ws 8).toNat = 0 || decide (4095 < (img ws 8).toNat) then some 6
  else none

/-- MACP. -/
def macp (ws : List Word) : Bool := bitOf (img ws 3) 0

/-- The MAC over the words of an image before its trailer. -/
def imageMac (key : BitVec 128) (body : List Word) : BitVec 128 := cmac key (bytesOf body)

/-- The failure of the MAC condition (R343), for an image whose trailer begins after `body`. [DEDUCED, log 90] -/
def macFail (f : Fuses) (ws body trailer : List Word) : Option Nat :=
  if macp ws then
    if !f.keySet then some 11
    else if bits (img ws 9) 11 0 ≠ f.keyId.toNat then some 12
    else if BitVec.ofNat 128 (natOfBytes (bytesOf (trailer.take 8))) ≠ imageMac f.imageKey body || decide (trailer.length < 8)
    then some 11 else none
  else if f.macReq then some 13 else none

/-- SYS.ID of a part (R3). -/
def Part.id : Part → Word
  | .otl9616 => 0x9616
  | .otl4808 => 0x4808
  | .otl2404 => 0x2404

/-- What the IDCODE instruction shifts out: revision, part, maker and a 1 (R480). [DESIGN CHOICE, log 113] -/
def Dev.idcode (d : Dev) : BitVec 32 := d.rev.extractLsb' 0 4 ++ d.part.id ++ Config.jep106 ++ 1#1

/-- The words of an image before its MAC trailer, by its sections. -/
def bodyLen (secs : List Section) : Nat := (secs.map (fun s => s.payload.length + 6)).foldl (· + ·) 16

/-- The first failure of a slot, as reason and section (R342). [DEDUCED, log 89] -/
def slotFail (part : Part) (f : Fuses) (id : Bool) (ws : List Word) : Option (Nat × Nat) :=
  match headerFail part.id ws with
  | some r => some (r, 0)
  | none =>
    let (secs, rest) := readSections (img ws 8).toNat (ws.drop 16)
    match sectionsFail id 1 0 secs with
    | some e => some e
    | none =>
      let n := bodyLen secs
      if (img32 ws 6).toNat ≠ n + (if macp ws then 8 else 0) then some (6, 0)
      else (macFail f ws (ws.take n) rest).map (fun r => (r, 0))

/-- A slot selected for pass 2, or WAITHOST (R344, R348). -/
def Dev.selectSlot (d : Dev) : Dev :=
  let l := d.loader
  if !l.ok0 && !l.ok1 then d.waitHost
  else
    let sel := if l.ok0 && l.ok1 then (if l.seq0.toNat < l.seq1.toNat then 1 else 0) else if l.ok0 then 0 else 1
    { d.putF 0x40 2 0 3 with loader := { l with sel := sel, sect := 0, defer := [], waitUntil := none, discards := 0 } }.loaderReads

/-- Pass 1 over one slot ends (R342 to R344); the slots are read in order. [DESIGN CHOICE, log 92] -/
def Dev.pass1 (d : Dev) (slot : Fin 2) (ws : List Word) : Dev :=
  if d.runs && d.loader.step = 4 && d.cfgPhase = 2 && d.loader.sel = slot.1 && d.memMay then
    let bad := slotFail d.part d.fuses d.mirror.id ws
    let secs := (readSections (img ws 8).toNat (ws.drop 16)).1
    let crcs := if bad.isNone then secs.map (fun s => s.crc) else []
    let mac := if bad.isNone && macp ws then some (imageMac d.fuses.imageKey (ws.take (bodyLen secs))) else none
    let err : Word := match bad with | some (r, s) => word (r * 4096 + s % 4096) | none => 0
    let d := d.put (0x41 + slot.1) err
    if slot.1 = 0 then
      { d with loader := { d.loader with ok0 := bad.isNone, seq0 := img32 ws 4, crcs0 := crcs, mac0 := mac, sel := 1, discards := 0 } }.loaderReads
    else { d with loader := { d.loader with ok1 := bad.isNone, seq1 := img32 ws 4, crcs1 := crcs, mac1 := mac } }.selectSlot
  else d

end Sys2Proof.Machine
end

