-- ==== Sys2Proof/Machine/Fabric.lean ====
section
/-! DEFINITION. The Polop fabric (chapters 01 and 15): the address map and access tables (R397 to R401), what a read of
each word returns and latches (R9 to R11, R41), and what a write of each word does. Every command of a master goes
through `Dev.fabRead` or `Dev.fabWrite`. -/

namespace Sys2Proof.Machine

open Sys2Proof

/-! ### Targets and permissions (R397 to R400) -/

/-- Quarter of a block. -/
def quarter (size off : Nat) : Nat := min 3 (off / size)

/-- Target index and subregion of a word address, if a block holds it (R397). -/
def targetOf (a : Nat) : Option (Nat × Nat) :=
  if a < 0x400 then some (0, if a < 0x40 then 0 else if a < 0x60 then 1 else if a < 0x80 then 2 else 3)
  else if a < 0x800 then some (1, quarter 0x100 (a - 0x400))
  else if a < 0xC00 then some (2, quarter 0x100 (a - 0x800))
  else if a < 0x1000 then some (3, quarter 0x100 (a - 0xC00))
  else if a < 0x2000 then some (4, quarter 0x400 (a - 0x1000))
  else if a < 0x6000 then
    let o := (a - 0x2000) % 0x400
    some (5 + (a - 0x2000) / 0x400, if o < 0x80 then 0 else if o < 0x100 then 1 else if o = 0x102 ∨ o = 0x103 then 3 else 2)
  else if a < 0x6400 then some (21, quarter 0x40 (a - 0x6000))
  else if a < 0x6800 then some (22, quarter 0x40 (a - 0x6400))
  else if a < 0x7000 then
    some (23, if a < 0x6E00 then quarter 0x180 (a - 0x6800) else quarter 0x10 (a - 0x6E00))
  else if a < 0x8000 then
    some (24, if a < 0x7080 then quarter 0x20 (a - 0x7000) else if a < 0x7090 then (a - 0x7080) / 4
      else if a = 0x70A0 ∨ a = 0x70A1 then 0 else 3)
  else if a < 0xA000 then
    let o := (a - 0x8000) % 0x800
    some (25 + (a - 0x8000) / 0x800, quarter 0x100 o)
  else if a < 0xB000 then some (29, quarter 0x100 (a - 0xA000))
  else if a < 0xC000 then
    let o := a - 0xB000
    some (30, if o < 0x200 then 0 else if o < 0x400 then 1 else if o < 0x480 then 2 else 3)
  else if a < 0xD000 then some (31, if a < 0xC040 then 0 else 1)
  else if a < 0xE000 then
    let o := a - 0xD000
    some (32, if o < 8 then 0 else if o < 0x40 then 1 else if o < 0x100 then 2 else 3)
  else if a < 0xF000 then some (33, quarter 0x400 (a - 0xE000))
  else if a < 0x10000 then some (34, quarter 0x400 (a - 0xF000))
  else if 0x100000 ≤ a ∧ a < 0x1C0000 then some (35, quarter 0x30000 (a - 0x100000))
  else if 0x800000 ≤ a then some (36, quarter 0x200000 (a - 0x800000))
  else none

/-- The tables are locked. -/
def Dev.locked' (d : Dev) : Bool := d.bit 0x40 14

/-- Master k has its permission in subregion n of target t; before the lock every master has every permission
(R351, R398, R399). [DEDUCED, log 75] -/
def Dev.granted (d : Dev) (k : Master) (wr : Bool) (t n : Nat) : Bool :=
  !d.locked' || d.bit (aTbl t n) (2 * k.1 + wr.toNat)

/-- Master k is a fabric master now: M5 until configuration completes, M6 while a test runs. [DEDUCED, log 75] -/
def Dev.isMaster (d : Dev) (k : Master) : Bool :=
  if k.1 = 5 then d.loader.m5 else if k.1 = 6 then d.bist.run.isSome else true

/-- The access table lets master k read or write a word (R16, R397 to R401); GD.SEQ is in every subregion of GD.
[DEDUCED, log 75] -/
def Dev.mayAccess (d : Dev) (k : Master) (wr : Bool) (a : Nat) : Bool :=
  d.isMaster k &&
  match targetOf a with
  | some (t, n) =>
    if a = 0x6E40 ∧ !wr then (List.range 4).any (d.granted k wr t) else d.granted k wr t n
  | none => false

/-- During the test of state RAM or of the sequence RAMs, only SYS and TEST answer (R473). -/
def Dev.bistHides (d : Dev) (a : Nat) : Bool :=
  (d.bist.run = some 0 || d.bist.run = some 1) &&
  match targetOf a with
  | some (t, _) => t ≠ 0 && t ≠ 34
  | none => true

/-- A register that the part or the channel lacks (R4, R275). -/
def Dev.absent (d : Dev) (a : Nat) : Bool :=
  absentReg d.part a ||
  (decide (0xA200 ≤ a ∧ a < 0xA300) && (let o := a % 0x20; o = 4 || o = 5 || decide (0x10 ≤ o)))

/-! ### Latched words (R41) -/

/-- The latching reads: first low word, how its indices step, and where the words it latches lie from it. The 32-bit pairs of
RW words (MOT ZERO, PBASE, KISSREF, FB SEED, ABSOFS, DINC) are not among them: R9 returns their stored value.
[DEDUCED, log 115] -/
def latchRows : List (Nat × List (Nat × Nat) × List Int) := [
  (0x4, [], [1, 2]),
  (0x15, [(4, 8)], [1]),
  (0x37, [], [1, 2]),
  (0x3B, [], [1]),
  (0x3D, [], [1]),
  (0x43, [], [1]),
  (0x45, [], [1]),
  (0x47, [], [1, 2, 3]),
  (0x53, [], [1]),
  (0x62, [(4, 8)], [1]),
  (0xC00, [(64, 8)], [1, 2, 3, 4]),
  (0x1014, [(5, 8)], [1, 2, 3]),
  (0x2120, [(16, 0x400)], [1]),
  (0x2128, [(16, 0x400)], [1]),
  (0x2159, [(16, 0x400)], [1]),
  (0x6008, [(4, 0x40)], [1, 2, 3, 4, 11, 19, 27, 35]),
  (0x6805, [(48, 0x20)], [1, 2]),
  (0x6E03, [(4, 0x10)], [1, 2]),
  (0x8301, [(4, 0x800), (32, 4)], [1]),
  (0xA002, [(24, 0x20)], [1]),
  (0xA004, [(24, 0x20)], [1, 21, 22]),
  (0xA006, [(24, 0x20)], [1]),
  (0xA016, [(24, 0x20)], [1]),
  (0xA30B, [], [1]),
  (0xA310, [], [1]),
  (0xB483, [], [1]),
  (0xB488, [], [-2, -1, 1, 2, 3, 4, 5, 6, 7]),
  (0xC000, [], (List.range 63).map (fun i => (i : Int) + 1)),
  (0xE400, [], (List.range 32).map (fun i => (i : Int) + 1)),
  (0xF004, [], [1, 2, 3]),
  (0xF404, [], [1, 2]) ]

/-- A row covers a low word. -/
def latchCovers (r : Nat × List (Nat × Nat) × List Int) (a : Int) : Bool :=
  decide ((r.1 : Int) ≤ a) && RegRow.reaches r.2.1 (a - r.1).toNat

/-- The words that a read of word `a` latches. -/
def latchSet (a : Nat) : List Nat :=
  match latchRows.find? (fun r => latchCovers r a) with
  | some r => r.2.2.map (fun o => ((a : Int) + o).toNat)
  | none => []

/-- A read of word `a` returns a latched word. -/
def isLatched (a : Nat) : Bool := latchRows.any (fun r => r.2.2.any (fun o => latchCovers r ((a : Int) - o)))

/-- FB[f].STAT, whose FSPDV bit is latched with FPOS (R261). -/
def isFbStat (a : Nat) : Bool := decide (0xA000 ≤ a ∧ a < 0xA200) && a % 0x20 = 8

/-! ### The present value of a word -/

/-- The group, motor, port or array that an address names, from its block's first word and stride. -/
def ixGrp (a base stride : Nat) : GroupIx := ix 4 ((a - base) / stride) (by decide)
/-- The motor that an address names. -/
def ixMot (a base stride : Nat) : MotorIx := ix 16 ((a - base) / stride) (by decide)

/-- Live words of SYS (chapters 00, 01, 13, 15). [DESIGN CHOICE, log 4; DEDUCED, log 96] -/
def Dev.liveSys (d : Dev) (a : Nat) : Option Word :=
  if a = 0 then some d.part.id
  else if a = 1 then some d.rev
  else if a = 4 then some (lo16 d.time)
  else if a = 5 then some (hi16 d.time)
  else if a = 6 then some (word (d.cycles % 200))
  else if 0x10 ≤ a ∧ a < 0x30 then
    let g := ixGrp a 0x10 8
    match a % 8 with
    | 3 => some (if d.bit (aGrp g 1) 0 && (d.grp g).running then word (d.cycles - (d.grp g).frameAt) else 0)
    | 5 => some (lo16 (d.grp g).fcnt)
    | 6 => some (hi16 (d.grp g).fcnt)
    | _ => none
  else if a = 0x4C then
    some (word (d.fuses.macReq.toNat * 0x8000 + d.fuses.keySet.toNat * 0x4000 + d.fuses.keyId.toNat))
  else if 0x60 ≤ a ∧ a < 0x80 then
    let p := (d.hp (ix 4 ((a - 0x60) / 8) (by decide))).page
    match a % 8 with
    | 2 => some (p.extractLsb' 0 16)
    | 3 => some ((p.extractLsb' 16 2).setWidth 16)
    | _ => none
  else none

/-- Live words of EVENT (chapter 18). -/
def Dev.liveEvent (d : Dev) (a : Nat) : Option Word :=
  if a < 0xE00 then
    let e := d.ev[(ix 64 ((a - 0xC00) / 8) (by decide)).1]
    match a % 8 with
    | 0 => some (lo16 e.cnt)
    | 1 => some (hi16 e.cnt)
    | 2 => some (lo16 e.ts)
    | 3 => some (hi16 e.ts)
    | 4 => some (e.sub.setWidth 16)
    | _ => none
  else if a < 0xE40 then
    let k : HostIx := ixGrp a 0xE00 0x10
    let o := a % 16
    if 4 ≤ o ∧ o < 8 then some ((d.pend[k]).extractLsb' (16 * (o - 4)) 16) else if o = 13 then some (d.vec k) else none
  else if 0xF14 ≤ a ∧ a < 0xF18 then some (d.ppend.extractLsb' (16 * (a - 0xF14)) 16)
  else none

/-- Live words of GD and GLINT (chapters 06 and 08). -/
def Dev.liveGate (d : Dev) (a : Nat) : Option Word :=
  if a < 0x6E00 then (if a % 0x20 = 2 then some (d.gdStat (ix 48 ((a - 0x6800) / 0x20) (by decide))) else none)
  else if a < 0x6E40 then (if a % 0x10 = 0 then some (d.gdgStat (ixGrp a 0x6E00 0x10)) else none)
  else if a < 0x7000 then none
  else if a < 0x7080 then
    let m := ixMot a 0x7000 8
    match a % 8 with
    | 5 => some (d.curOut m)
    | 6 => some (word (d.ecode m))
    | _ => none
  else if a = 0x70A1 then some d.chkOut
  else none

/-- Live words of PRISM (chapter 09). -/
def Dev.livePrism (d : Dev) (a : Nat) : Option Word :=
  let p := ixGrp a 0x8000 0x800
  let o := (a - 0x8000) % 0x800
  if o = 1 then some (d.prmStat p)
  else if o = 6 then some (word (d.prm p).pendCount)
  else if 0x20 ≤ o ∧ o < 0x30 then
    let c := d.fuses.fcoef.getD (4 * p.1 + (o - 0x20) / 4) (0, 0, 0)
    match o % 4 with
    | 0 => some c.1
    | 1 => some c.2.1
    | 2 => some (c.2.2.setWidth 16)
    | _ => none
  else none

/-- Live words of TEST (chapter 20). [DESIGN CHOICE, log 4] -/
def Dev.liveTest (d : Dev) (a : Nat) : Option Word :=
  if a = 0xF000 then some d.lcStat
  else if a = 0xF004 then some d.nextChallengeLow
  else if 0xF802 ≤ a ∧ a < 0xF806 then some (d.spareWord (a - 0xF802))
  else if 0xFC00 ≤ a ∧ a < 0xFC04 then some (d.fuses.devId.extractLsb' (48 - 16 * (a - 0xFC00)) 16)
  else none

/-- Live words of MIRROR (chapter 17); the stored word of STAT holds RR. -/
def Dev.liveMirror (d : Dev) (a : Nat) : Option Word :=
  let x := d.mirror
  if a = 0xE002 then
    some ((d.w a &&& 0x0F00) ||| word (x.pres.toNat * 0x8000 + x.up.toNat * 0x4000 + x.id.toNat * 0x2000))
  else if a = 0xE420 then
    some (match x.lastGood with | some t => word (min 0xFFFF ((d.cycles - t) / 200)) | none => 0xFFFF)
  else none

/-- The words that are computed when they are read. -/
def Dev.liveWord (d : Dev) (a : Nat) : Option Word :=
  if a < 0x400 then d.liveSys a
  else if a = 0x803 then some d.forceWord
  else if 0xC00 ≤ a ∧ a < 0x1000 then d.liveEvent a
  else if 0x6400 ≤ a ∧ a < 0x6500 ∧ a % 0x40 = 7 then
    some ((d.w a &&& 0xFFEF) ||| word ((d.chopBad (ixGrp a 0x6400 0x40)).toNat * 0x10))
  else if 0x6800 ≤ a ∧ a < 0x8000 then d.liveGate a
  else if 0x8000 ≤ a ∧ a < 0xA000 then d.livePrism a
  else if 0xA300 ≤ a ∧ a < 0xA303 then some (d.gcause (a - 0xA300))
  else if a = 0xB498 then some d.walm
  else if a = 0xD001 then some d.memStat
  else if 0xE000 ≤ a ∧ a < 0xF000 then d.liveMirror a
  else if 0xF000 ≤ a ∧ a < 0x10000 then d.liveTest a
  else none

/-- The value of a register word now: write-only bits and absent resources read 0 (R5, R9, R11). -/
def Dev.live (d : Dev) (a : Nat) : Word :=
  match regRow a with
  | some r =>
    if d.absent a then 0
    else ((d.liveWord a).getD (d.w a)) &&& ~~~(BitVec.ofNat 16 (r.mask .wo)) &&& ~~~(absentBits d a)
  | none => 0

/-! ### Reads -/

/-- A word of the trace-store window: the offset from its first word, and whether D3 LOG lets it be read (R45, R289). -/
def Dev.storeWord (d : Dev) (off : Nat) : Word :=
  if d.logOn && d.bist.run ≠ some 2 then d.store.get (fun _ => 0) off else 0

/-- The word at `a` is in the trace-store window. -/
def inStore (a : Nat) : Bool := decide (0x100000 ≤ a ∧ a < 0x1C0000)

/-- The words that a read of `a` latches, with their values now. -/
def Dev.latchNow (d : Dev) (a : Nat) : List (Nat × Word) :=
  if inStore a then
    (if a % 4 = 0 then [1, 2, 3].map (fun i => (a + i, d.storeWord (a - 0x100000 + i))) else [])
  else
    let l := (latchSet a).map (fun b => (b, d.live b))
    if decide (0xA000 ≤ a ∧ a < 0xA200) && a % 0x20 = 4 then
      l ++ [(a + 4, word ((d.fb (ix 24 ((a - 0xA000) / 0x20) (by decide))).fspdv.toNat * 0x20))]
    else l

/-- The read-and-clear bits of a register. -/
def rcMask (a : Nat) : Word := match regRow a with | some r => BitVec.ofNat 16 (r.mask .rc) | none => 0

/-- Word a belongs to an array whose domain is off, whose latched words read 0 as well (R45, R248). -/
def Dev.prmDark (d : Dev) (a : Nat) : Bool := decide (0x8000 ≤ a ∧ a < 0xA000) && !d.prmOn (ixGrp a 0x8000 0x800)

/-- What a read of `a` by master k returns, without its side effect. Read-and-clear bits read as the present cycle found
them (R9); every word of the trace store reads 0 while D3 LOG is off (R289). -/
def Dev.peek (d : Dev) (k : Master) (a : Nat) : Word :=
  if inStore a then
    (if a % 4 = 0 then d.storeWord (a - 0x100000) else if d.logOn && d.bist.run ≠ some 2 then d.latched k a else 0)
  else if isLatched a then (if (regRow a).isSome && !d.absent a && !d.prmDark a then d.latched k a else 0)
  else if isFbStat a then (d.live a &&& 0xFFDF) ||| d.latched k a
  else if rcMask a = 0 || d.absent a then d.live a
  else (d.live a &&& ~~~(rcMask a)) ||| (d.w0 a &&& rcMask a)

/-- Master k may read word a now. -/
def Dev.readOk (d : Dev) (k : Master) (a : Nat) : Bool := d.runs && d.mayAccess k false a && !d.bistHides a

/-- RC fields are reduced by what a read returned; what the device has added or set in this cycle stays (R9, R389). -/
def Dev.rcTake (d : Dev) (a : Nat) (v : Word) : Dev :=
  let m := rcMask a
  if m = 0 then d
  else
    let left := word ((d.w a &&& m).toNat - (v &&& m).toNat) ||| (d.freshBits a &&& m)
    let d := d.put a ((d.w a &&& ~~~m) ||| left)
    { d with cyc0 := d.cyc0.set resetWord a (d.w0 a &&& ~~~m) }

/-- The side effects of a read of `a` by master k that returned `v` and captured the latched words `l`: RC fields are
reduced by what was returned, latched words are installed, and CHAL[0] draws (R9, R41, R389, R469). -/
def Dev.readEffect (d : Dev) (k : Master) (a : Nat) (v : Word) (l : List (Nat × Word)) : Dev :=
  let d := d.rcTake a v
  if a = 0xF004 then d.drawChallenge k
  else d.each l (fun d p => d.latch k p.1 p.2)

/-- A read by master k: the word it returns stands in `Dev.fab` (R17, R400). A read of the memory-port window may have to
wait (R372). [DESIGN CHOICE, log 8] -/
def Dev.fabRead (d : Dev) (k : Master) (a : Addr) : Dev :=
  let n := a.toNat
  if !d.readOk k n then d.putFab k 0
  else if 0x800000 ≤ n then d.winRead k a
  else
    let v := d.peek k n
    (d.readEffect k n v (d.latchNow n)).putFab k v

/-- What the four words from window address n on decode to, word i with its 28 stored bits changed by `errs[i]`. -/
def Dev.slotDecoded (d : Dev) (n : Nat) (errs : List (BitVec 28)) : List Decoded :=
  (List.range 4).map (fun i => decode28 (encode28 (d.storeWord (n - 0x100000 + i)) ^^^ errs.getD i 0))

/-- What a read of the store word at `a` by master k makes its memory deliver, word i from it on with its 28 stored bits
changed by `errs[i]`: of the first word of a slot all four, of another word that one; nothing where no read reaches the
store (R289). -/
def Dev.storeWords (d : Dev) (k : Master) (a : Addr) (errs : List (BitVec 28)) : List Decoded :=
  let n := a.toNat
  if !d.readOk k n || !inStore n || !d.logOn || d.bist.run = some 2 then []
  else (d.slotDecoded n errs).take (if n % 4 = 0 then 4 else 1)

/-- What was found in those words: each corrected word counts, and a word that cannot be corrected loses the slot (R293,
R408). -/
def Dev.storeFound (d : Dev) (n : Nat) (ws : List Decoded) : Dev :=
  let is := List.range ws.length
  let d := d.each (is.filter (fun i => ws.getD i .bad = .corrected (ws.getD i .bad).value)) (fun d i => d.ceFound 3 (n + i))
  match is.filter (fun i => ws.getD i .bad = .bad) with
  | i :: _ => (d.ueFound 3 (n + i)).loseSlot ((n - 0x100000) / 4)
  | [] => d

/-- A read of a store word: of the first word of a slot, which reads and latches all four, or of another word, which is
returned as latched. Where a word cannot be corrected, the master receives 0 for what it read (R289, R293, R408).
[DESIGN CHOICE, log 19; DEDUCED, log 65] -/
def Dev.storeRead (d : Dev) (k : Master) (a : Addr) (errs : List (BitVec 28)) : Dev :=
  let n := a.toNat
  let ws := d.storeWords k a errs
  if ws.isEmpty then d.fabRead k a
  else
    let v (i : Nat) : Word := if ws.contains .bad then 0 else (ws.getD i .bad).value
    let got := if n % 4 = 0 || ws.contains .bad then v 0 else d.peek k n
    let more := (List.range (ws.length - 1)).map (· + 1)
    ((d.readEffect k n got (more.map (fun i => (n + i, v i)))).storeFound n ws).putFab k got

/-! ### Writes -/

/-- The word that a register holds after a write of `v` (R4, R5, R9): RW and RWL bits take the value, RWL bits only while
the tables are unlocked, and W1C bits clear, but for those that the device has set in this very cycle. -/
def Dev.merged (d : Dev) (r : RegRow) (a : Nat) (v : Word) : Word :=
  let m := BitVec.ofNat 16 (r.mask .rw ||| (if d.locked' then 0 else r.mask .rwl)) &&& ~~~(absentBits d a)
  ((d.w a &&& ~~~m) &&& ~~~(v &&& BitVec.ofNat 16 (r.mask .w1c) &&& ~~~(d.freshBits a))) ||| (v &&& m)

/-- RUN of group g is written (R33): 1 starts a stopped timebase in the next cycle and takes back a stop that waits, 0
stops it at the next frame start, or takes back a start of this cycle, and frees the sequence from the frame (R225).
[DEDUCED, log 22] -/
def Dev.setRun (d : Dev) (g : GroupIx) (run : Bool) : Dev :=
  if run then
    (if d.runBlocked || !d.hasGrp g then d
     else (d.putB (aGrp g 1) 0 true).onGrp g (fun x => { x with starting := !x.running }))
  else (d.putB (aGrp g 1) 0 false).seqStopped g

/-- A write of a SYS word with the stored value `mv` it leads to. [DEDUCED, log 97] -/
def Dev.commitSys (d : Dev) (k : Master) (a : Nat) (v mv : Word) : Dev :=
  if a = 0xF then (List.finRange 4).foldl (fun d g => if bitOf v g.1 then d.setRun g true else d) d
  else if 0x10 ≤ a ∧ a < 0x30 ∧ a % 8 = 0 then
    (if d.locked' then d else d.put a (word (clampNat 4000 25000 v.toNat)))
  else if 0x10 ≤ a ∧ a < 0x30 ∧ a % 8 = 1 then
    (d.put a (withBit mv 0 (d.bit a 0))).setRun (ixGrp a 0x10 8) (bitOf v 0)
  else if a = 0x4B then d.writeCfgcmd v
  else if a = 0x4C then
    (if d.lcState = 1 then { d with fuses := { d.fuses with
        macReq := d.fuses.macReq || bitOf v 15, keyId := d.fuses.keyId ||| v.extractLsb' 0 12 } }
     else d)
  else if a = 0x80 then d.ring k v
  else d.put a mv

/-- A write of an EVENT word. -/
def Dev.commitEvent (d : Dev) (a : Nat) (v mv : Word) : Dev :=
  if 0xE04 ≤ a ∧ a < 0xE40 ∧ 4 ≤ a % 16 ∧ a % 16 < 8 then d.clearPend (ixGrp a 0xE00 0x10) (a % 16 - 4) v
  else if 0xF14 ≤ a ∧ a < 0xF18 then { d with ppend := d.ppend &&& ~~~(v.setWidth 64 <<< (16 * (a - 0xF14)) &&& ~~~d.freshEv) }
  else d.put a mv

/-- A write of FLT (R74): the named bits clear, but for those that the device has set in this very cycle (R9), reports
still in force set their bits again, and FAULT ends when FLT reads 0. -/
def Dev.writeFlt (d : Dev) (m : MotorIx) (v : Word) : Dev :=
  let d := d.clrW (aMot m 2) (v &&& 0x7F &&& ~~~(d.freshBits (aMot m 2)))
  let x := d.mot m
  if x.state ≠ .fault then d
  else
    let d := d.each [(Cause.bsuv, 0), (Cause.gduv, 1), (Cause.hshort, 2)] (fun d c =>
      if x.level.getLsbD c.2 && (codeAct (d.fpol m c.1)).isSome then d.orW (aMot m 2) (1#16 <<< c.1.bit) else d)
    if d.w (aMot m 2) = 0 then d.toIdle m else d

/-- A write of HDEM: its timeout is the HTO in force at the write (R119, R120). [DEDUCED, log 26] -/
def Dev.writeHdem (d : Dev) (m : MotorIx) (v : Word) : Dev :=
  let g := grpOf m
  let hto := d.iuw (aMot m 0x104)
  let t := if hto = 0 then Timer.off else d.msTimer m hto
  let d := ((d.put (aMot m 0x103) v).putB (aMot m 0x101) 2 false).onMot m (fun x => { x with hostNew := true, hostT := t })
  if d.atFrame g then d.onMot m (fun x => { x with hostOk := true, hostD := v.toInt, hostNew := false }) else d

/-- A write of HCTL: HREL releases the host demand at the next frame start (R120). -/
def Dev.writeHctl (d : Dev) (m : MotorIx) (v : Word) : Dev :=
  if bitOf v 0 then d.onMot m (fun x => { x with hostRel := true, hostNew := false, hostT := .off }) else d

/-- A write of LCTRL: where HEN is not in force, HEN set from 0 asks for a host demand written after it (R119, R132). -/
def Dev.writeLctrl (d : Dev) (m : MotorIx) (mv : Word) : Dev :=
  let was := d.bit (aMot m 0x100) 4 || d.ibit (aMot m 0x100) 4
  let d := d.put (aMot m 0x100) mv
  if bitOf mv 4 && !was then d.onMot m (fun x => { x with hostNew := false }) else d

/-- A write of a MOT word. -/
def Dev.commitMot (d : Dev) (a : Nat) (v mv : Word) : Dev :=
  let m := ixMot a 0x2000 0x400
  match (a - 0x2000) % 0x400 with
  | 0 =>
    let d := d.put a mv
    if !bitOf v 0 && (d.mot m).state ≠ .idle then d.toIdle m else d.drive m
  | 2 => d.writeFlt m v
  | 6 => if d.locked' then d else d.put a (word (min 4000 v.toNat))
  | 0xA => if d.locked' then d else d.put a (word (max 6 v.toNat))
  | 0x100 => d.writeLctrl m mv
  | 0x102 => d.writeHctl m v
  | 0x103 => d.writeHdem m v
  | 0x158 => if d.locked' then d else (d.put a v).loadKiss m
  | _ => d.put a mv

/-- A write of a SUP word (R193, R194). -/
def Dev.commitSup (d : Dev) (a : Nat) (v mv : Word) : Dev :=
  let g := ixGrp a 0x6400 0x40
  match (a - 0x6400) % 0x40 with
  | 0 => if d.locked' then d else d.writeSupCfg g mv
  | 9 => (d.put a mv).chopHold g
  | 0xD => d.testPulse g v
  | _ => d.put a mv

/-- A write of a GLINT word. -/
def Dev.commitGlint (d : Dev) (a : Nat) (v mv : Word) : Dev :=
  if a < 0x7080 then
    (let m := ixMot a 0x7000 8
     if a % 8 = 4 then d.clearLat m (v &&& 0x1F)
     else
       let d := d.put a mv
       if d.bit (aGrp (grpOf m) 1) 0 then d else { d with glDue := d.glDue ++ [m] })
  else if a < 0x7090 then (if a % 4 = 1 then d.clearBlat (ixGrp a 0x7080 4) v else d.put a mv)
  else if a = 0x70A0 then d.writeChk v
  else d.put a mv

/-- A write of a PRISM word. [DEDUCED, log 97] -/
def Dev.commitPrism (d : Dev) (a : Nat) (v mv : Word) : Dev :=
  let p := ixGrp a 0x8000 0x800
  let o := (a - 0x8000) % 0x800
  if o = 0 then d.writePrmCtrl p (if d.runBlocked then withBit mv 0 (bitOf mv 0 && d.bit a 0) else mv)
  else if o = 5 then d.urgent p v
  else if 0x20 ≤ o ∧ o < 0x30 then
    (if d.lcState = 1 then
      { d with fuses := { d.fuses with fcoef := d.fuses.fcoef.modify (4 * p.1 + (o - 0x20) / 4) (fun c =>
          match o % 4 with
          | 0 => (v, c.2.1, c.2.2)
          | 1 => (c.1, v, c.2.2)
          | _ => (c.1, c.2.1, v.extractLsb' 0 10)) } }
     else d)
  else if 0x300 ≤ o ∧ o < 0x380 ∧ o % 4 = 0 then
    d.writeTrk p (ix 32 ((o - 0x300) / 4) (by decide)) (mv ||| (v &&& 0x8000))
  else d.put a mv

/-- A write of FB[f].CMD (R256, R267, R271). -/
def Dev.writeFbCmd (d : Dev) (f : ChanIx) (v : Word) : Dev :=
  let d := if bitOf v 0 then d.seedPos f else d
  if 16 ≤ f.1 then d
  else d.onFb f (fun x => { x with
    checkDue := x.checkDue || bitOf v 1
    leaveDue := x.leaveDue || (bitOf v 2 && d.inFallback f) })

/-- A write of an FB word. -/
def Dev.commitFb (d : Dev) (a : Nat) (v mv : Word) : Dev :=
  if a < 0xA300 then
    let f : ChanIx := ix 24 ((a - 0xA000) / 0x20) (by decide)
    match a % 0x20 with
    | 0 => if d.locked' then d else d.writeFbCfg f mv
    | 0xD => d.writeFbCmd f v
    | _ => d.put a mv
  else if a = 0xA308 then (if d.locked' then d else d.writeDcfg mv)
  else d.put a mv

/-- A write of a TRACE word. -/
def Dev.commitTrace (d : Dev) (a : Nat) (v mv : Word) : Dev :=
  if a < 0xB400 then
    let t : TraceIx := ix 128 ((a - 0xB000) / 8) (by decide)
    match a % 8 with
    | 0 => d.writeTraceSrc t mv
    | 1 => if d.locked' then d else d.writeTraceTag t mv
    | 2 => if d.locked' then d else d.writeTraceRate t mv
    | _ => d.put a mv
  else if a < 0xB480 then d.writeHin (ix 128 (a - 0xB400) (by decide)) v
  else if a = 0xB482 then d.writeTraceCmd v
  else d.put a mv

/-- A write of a MEMPORT word. -/
def Dev.commitMem (d : Dev) (a : Nat) (v mv : Word) : Dev :=
  if a = 0xD000 then (if d.locked' then d else (d.put a mv).memSync)
  else if a = 0xD004 then d.writeRaw v
  else if a = 0xD005 then d.writeQrun v
  else if 0xD008 ≤ a ∧ a ≤ 0xD00D then (if d.locked' then d else d.writeWin a mv)
  else if 0xD040 ≤ a ∧ a < 0xD0C0 then d.writeQ a v
  else if 0xD100 ≤ a ∧ a < 0xD200 then d.writeBuf a v
  else d.put a mv

/-- A write of RQCMD with GO at 1 starts a request to the partner (R436). -/
def Dev.rqGo (d : Dev) (v : Word) : Dev :=
  if bitOf v 15 && !d.bit 0xE804 15 then
    let tag := (d.fld 0xE804 3 0 + 1) % 16
    { d.put 0xE804 (word (0x8000 + tag)) with mirror := { d.mirror with
        rqWr := bitOf v 14, rqAddr := (d.w 0xE801).extractLsb' 0 8 ++ d.w 0xE800, rqData := d.w 0xE802, rqFrames := 0
        rqAt := d.cycles } }
  else d

/-- A write of a TEST word. -/
def Dev.commitTest (d : Dev) (a : Nat) (v mv : Word) : Dev :=
  if a = 0xF001 then d.writeLccmd v
  else if 0xF008 ≤ a ∧ a < 0xF010 then d.put a v
  else if a = 0xF400 then
    (if bitOf v 14 && d.bist.run.isSome then d.bistEnd 4 else if bitOf v 15 then d.bistGo v else d)
  else if a = 0xF800 then (if bitOf v 15 then d.repairGo else d)
  else if 0xFC08 ≤ a ∧ a < 0xFC10 then d.writeKey .service (a - 0xFC08) v
  else if 0xFC10 ≤ a ∧ a < 0xFC18 then d.writeKey .image (a - 0xFC10) v
  else d.put a mv

/-- What a committed write of `v` to word `a` by master k does (R9, R17, R42). [DESIGN CHOICE, log 18] -/
def Dev.commit (d : Dev) (k : Master) (a : Nat) (v : Word) : Dev :=
  match regRow a with
  | none => d
  | some r =>
    if d.absent a then d
    else
      let mv := d.merged r a v
      if a < 0x400 then d.commitSys k a v mv
      else if a = 0x800 then d.writeReq mv
      else if 0xC00 ≤ a ∧ a < 0x1000 then d.commitEvent a v mv
      else if a = 0x1006 then
        d.each ((List.finRange 5).filter (fun s => bitOf v s.1)) Dev.thermRequest
      else if 0x2000 ≤ a ∧ a < 0x6000 then d.commitMot a v mv
      else if 0x6400 ≤ a ∧ a < 0x6800 then d.commitSup a v mv
      else if 0x7000 ≤ a ∧ a < 0x8000 then d.commitGlint a v mv
      else if 0x8000 ≤ a ∧ a < 0xA000 then d.commitPrism a v mv
      else if 0xA000 ≤ a ∧ a < 0xB000 then d.commitFb a v mv
      else if 0xB000 ≤ a ∧ a < 0xC000 then d.commitTrace a v mv
      else if 0xD000 ≤ a ∧ a < 0xE000 then d.commitMem a v mv
      else if a = 0xE803 then d.rqGo v
      else if 0xF000 ≤ a ∧ a < 0x10000 then d.commitTest a v mv
      else d.put a mv

/-- A write by master k to word a is acted on (R346, R400, R437, R473). -/
def Dev.writeOk (d : Dev) (k : Master) (a : Nat) : Bool :=
  d.runs && !(d.loaderRuns && decide (k.1 ≤ 4)) && d.mayAccess k true a && !d.bistHides a &&
  !(k.1 = 4 && decide (0xE800 ≤ a ∧ a < 0xEC00))

/-- A write by master k (R16, R42). [DESIGN CHOICE, log 8] -/
def Dev.fabWrite (d : Dev) (k : Master) (a : Nat) (v : Word) : Dev := if d.writeOk k a then d.commit k a v else d

/-! ### Words and their check symbols on the fabric (R18, R407, R408) -/

/-- The host ports whose transaction in progress a fault of master k's own transfer cuts: port k, where the master is one
(R7, R396, R418). -/
def cutAt (k : Master) : Vector Bool 4 := Vector.ofFn (fun p : Fin 4 => decide (p.1 = k.1))

/-- A write of word a by master k whose 28 bits reach the sink changed by `err` (R18): it commits as the decoder delivers it,
or is a device fault. -/
def Dev.writeWord (d : Dev) (k : Master) (a : Nat) (v : Word) (err : BitVec 28) (cut : Vector Bool 4) : Dev :=
  if err = 0 then d.fabWrite k a v
  else
    match decode28 (encode28 v ^^^ err) with
    | .clean v => d.fabWrite k a v
    | .corrected v => (d.fabWrite k a v).ceFound 2 a
    | .bad => d.fault [.fabricUe (BitVec.ofNat 24 a)] cut

/-- How the fetch of a word ends: it arrives, the flash has still to deliver it, or an uncorrectable error has made it a
device fault. -/
inductive Fetched where
  | arrived | waits | lost
  deriving DecidableEq, Repr

/-- The error that word i of a transaction carries, in its memory or on the fabric; 0 for none. -/
def flipOf (fl : List Flip) (ram : Bool) (i : Nat) : BitVec 28 :=
  ((fl.find? (fun f => f.word = i && f.ram = ram)).map Flip.err).getD 0

/-- The errors that the read of word i, a store word at w, finds in its memory; those of a slot whose first word this
transaction has read were found there. -/
def slotErrs (fl : List Flip) (w : Addr) (i : Nat) : List (BitVec 28) :=
  if 1 ≤ w.toNat % 4 ∧ w.toNat % 4 ≤ i then [] else (List.range 4).map (fun j => flipOf fl true (i + j))

/-- The word that a read of `a` has returned to master k reaches its sink with its 28 bits changed by `err` (R18).
[DESIGN CHOICE, log 19] -/
def Dev.takeFab (d : Dev) (k : Master) (a : Addr) (err : BitVec 28) (cut : Vector Bool 4) : Dev × Fetched :=
  if err = 0 then (d, .arrived)
  else
    match decode28 (encode28 d.fab[k] ^^^ err) with
    | .clean v => (d.putFab k v, .arrived)
    | .corrected v => ((d.putFab k v).ceFound 2 a.toNat, .arrived)
    | .bad => (d.fault [.fabricUe a] cut, .lost)

/-- A window read of master k is waiting for the flash. -/
def Dev.winWaits (d : Dev) (k : Master) : Bool := d.mem.wait.any (fun r => r.1 = k)

/-- The window reads of master k that wait are dropped (R391). -/
def Dev.winDrop (d : Dev) (k : Master) : Dev := d.onMem (fun x => { x with
  wait := x.wait.filter (fun r => r.1 ≠ k), errs := x.errs.filter (fun e => e.1 ≠ k) })

/-- The word at `a` for which master k's window read waits will meet `err` on the fabric (R18, R360). -/
def Dev.winErr (d : Dev) (k : Master) (a : Addr) (err : BitVec 28) : Dev :=
  if err = 0 then d else d.onMem (fun x => { x with errs := x.errs ++ [(k, a, err)] })

/-- Master k fetches word i of a transaction, at `w`, with what the word meets in its memory and on the fabric (R18, R389,
R408); an earlier window read of the same master is dropped. Of a word lost on the fabric no side effect remains but what its
memory found. -/
def Dev.fetchWord (d : Dev) (k : Master) (w : Addr) (fl : List Flip) (i : Nat) (cut : Vector Bool 4) : Dev × Fetched :=
  let n := w.toNat
  let (d, lost) := d.ramRead n (if d.readOk k n then flipOf fl true i else 0) cut
  if lost then (d, .lost)
  else if 0x800000 ≤ n then
    let e := (d.winDrop k).fabRead k w
    if e.winWaits k then (e, .waits) else e.takeFab k w (flipOf fl false i) cut
  else
    let e := if inStore n then d.storeRead k w (slotErrs fl w i) else d.fabRead k w
    match e.takeFab k w (flipOf fl false i) cut with
    | (_, .lost) => ((d.storeFound n (d.storeWords k w (slotErrs fl w i))).fault [.fabricUe w] cut, .lost)
    | r => r

/-- A read of word a by master k whose 28 bits reach the master changed by `err` (R18, R408). -/
def Dev.readWord (d : Dev) (k : Master) (a : Addr) (err : BitVec 28) : Dev :=
  if err = 0 then d.fabRead k a
  else
    match d.fetchWord k a [⟨0, false, err⟩] 0 (cutAt k) with
    | (e, .lost) => e.putFab k 0
    | (e, .waits) => e.winErr k a err
    | (e, .arrived) => e

/-- Window reads that have waited and whose word has arrived take it with what it meets on the fabric (R18, R360). -/
def Dev.takeWaited (d : Dev) : Dev :=
  let due := d.mem.errs.filter (fun e => !d.mem.wait.any (fun r => r.1 = e.1 && r.2.1 = e.2.1))
  let d := d.onMem (fun x => { x with errs := x.errs.filter (fun e => !due.contains e) })
  d.each due (fun d e =>
    match d.takeFab e.1 e.2.1 e.2.2 (cutAt e.1) with
    | (d, .lost) => d.putFab e.1 0
    | (d, _) => d)

end Sys2Proof.Machine
end

