-- ==== Sys2Proof/Machine/Loader.lean ====
section
/-! DEFINITION. Pass 2 of the configuration load (R345, R347, R349, R350): the words of the selected slot are written as
M5, deferred fields wait for completion, and a difference from pass 1 is a loader failure. -/

namespace Sys2Proof.Machine

open Sys2Proof

/-- The error of the word at address `a` on the fabric, in a list by address. -/
def errAt (errs : List (Addr × BitVec 28)) (a : Nat) : BitVec 28 :=
  ((errs.find? (fun e => e.1.toNat = a)).map Prod.snd).getD 0

/-- The loader writes one word, with what it meets on the fabric (R18): the error that `errs` gives for its address. A
word with a deferred field is written with that field at 0 and recorded (R345). A device fault ends the load (R347,
R418). -/
def Dev.loadWord (errs : List (Addr × BitVec 28)) (d : Dev) (w : Nat × Word) : Dev :=
  let err := errAt errs w.1
  if d.loader.step ≠ 4 then d
  else
    match deferField w.1 with
    | some m =>
      let d := d.writeWord 5 w.1 (w.2 &&& ~~~m) err noCut
      if d.loader.step ≠ 4 then d
      else { d with loader := { d.loader with defer := d.loader.defer ++ [(BitVec.ofNat 24 w.1, w.2)] } }
    | none => d.writeWord 5 w.1 w.2 err noCut

/-- The loader writes a section that applies to this module (R350). -/
def Dev.loadSection (d : Dev) (errs : List (Addr × BitVec 28)) (s : Section) : Dev :=
  if s.applies d.mirror.id then d.each s.writes (Dev.loadWord errs) else d

/-- The section CRCs and the MAC that pass 1 found for the slot of pass 2. -/
def Dev.pass1Crcs (d : Dev) : List (BitVec 32) := if d.loader.sel = 0 then d.loader.crcs0 else d.loader.crcs1

/-- The MAC that pass 1 found. -/
def Dev.pass1Mac (d : Dev) : Option (BitVec 128) := if d.loader.sel = 0 then d.loader.mac0 else d.loader.mac1

/-- A loader failure ends the load: a device fault, and no completion (R347, R378, R416). -/
def Dev.loaderFault (d : Dev) : Dev := (d.loadFails).fault [.loader] noCut

/-- A section differs from pass 1: its number is recorded, and the load fails (R347). [DEDUCED, log 91] -/
def Dev.pass2Fails (d : Dev) (n : Nat) : Dev :=
  (d.put (0x41 + d.loader.sel) (word (14 * 4096 + n % 4096))).loaderFault

/-- Sections are written from the next one on, up to the first WAIT that applies when `stop` is set. The answer is whether
the load goes on. [DEDUCED, log 91] -/
def Dev.loadSections (stop : Bool) (errs : List (Addr × BitVec 28)) : List Section → Dev → Dev × Bool
  | [], d => (d, true)
  | s :: t, d =>
    let n := d.loader.sect
    let d := d.loadSection errs s
    let d := { d with loader := { d.loader with sect := n + 1 } }
    if d.loader.step ≠ 4 then (d, false)
    else if d.pass1Crcs.getD n 0 ≠ s.crc || !s.crcOk then (d.pass2Fails (n + 1), false)
    else if stop && s.ty = 4 && s.applies d.mirror.id then (d, true)
    else Dev.loadSections stop errs t d

/-- Pass 2 is running. -/
def Dev.inPass2 (d : Dev) : Bool := d.runs && d.loader.step = 4 && d.cfgPhase = 3

/-- The sections of an image that pass 2 has still to load. -/
def Dev.restSections (d : Dev) (ws : List Word) : List Section :=
  ((readSections d.pass1Crcs.length (ws.drop 16)).1).drop d.loader.sect

/-- A WAIT that applies is among the sections. -/
def hasWait (id : Bool) (l : List Section) : Bool := l.any (fun s => s.ty = 4 && s.applies id)

/-- Pass 2 reads on: the port may drive the flash, and no WAIT pauses it (R341, R350). -/
def Dev.pass2Reads (d : Dev) : Bool := d.inPass2 && d.memMay && d.loader.waitUntil.isNone

/-- Pass 2 reaches the next WAIT that applies: the sections before it have been written, and the pause of its payload in µs
begins (R341). -/
def Dev.waitReached (d : Dev) (ws : List Word) (errs : List (Addr × BitVec 28)) : Dev :=
  let l := d.restSections ws
  if d.pass2Reads && hasWait d.mirror.id l then
    match Dev.loadSections true errs l d with
    | (d, false) => d
    | (d, true) =>
      match ((readSections d.pass1Crcs.length (ws.drop 16)).1)[d.loader.sect - 1]? with
      | some s => { d with loader := { d.loader with waitUntil := some (d.cycles + 200 * (img s.payload 0).toNat) } }
      | none => d
  else d

/-- The pause of a WAIT ends (R341). -/
def Dev.waitOver (d : Dev) : Dev :=
  match d.loader.waitUntil with
  | some t => if d.inPass2 && decide (t ≤ d.cycles) then { d with loader := { d.loader with waitUntil := none } } else d
  | none => d

/-- The recorded words are written again in full, in image order, with what they meet on the fabric, which `errs` gives by
address (R18, R345); a device fault ends the load (R347). -/
def Dev.applyDeferred (d : Dev) (errs : List (Addr × BitVec 28)) : Dev :=
  d.each d.loader.defer (fun d w =>
    if d.loader.step ≠ 4 then d else d.writeWord 5 w.1.toNat w.2 (errAt errs w.1.toNat) noCut)

/-- Completion after a good pass 2 (R349), unless a recorded word has ended the load. -/
def Dev.loadComplete (d : Dev) (ws : List Word) (errs : List (Addr × BitVec 28)) : Dev :=
  let d := d.applyDeferred errs
  if d.loader.step ≠ 4 then d
  else
    let d := d.each (List.range 6) (fun d i => d.put (if i < 2 then 0x43 + i else 0x45 + i) (img ws (if i < 2 then 4 + i else 8 + i)))
    d.complete 1 (d.loader.sel = 1) d.pass1Mac.isSome

/-- Pass 2 ends (R347, R349); it cannot end while a WAIT is still to come. `errs` gives what the words of its sections meet
on the fabric, and `errs2` what the recorded words meet when they are written again. -/
def Dev.pass2 (d : Dev) (ws : List Word) (errs errs2 : List (Addr × BitVec 28)) : Dev :=
  let l := d.restSections ws
  if d.pass2Reads && !hasWait d.mirror.id l then
    let secs := (readSections d.pass1Crcs.length (ws.drop 16)).1
    match Dev.loadSections false errs l d with
    | (d, false) => d
    | (d, true) =>
      match d.pass1Mac with
      | some t => if imageMac d.fuses.imageKey (ws.take (bodyLen secs)) = t then d.loadComplete ws errs2 else d.pass2Fails 0
      | none => d.loadComplete ws errs2
  else d

/-- The flash is taken while the port masters it (R377, R378): during a load, the second discard of a pass fails it. -/
def Dev.multiMaster (d : Dev) : Dev :=
  if d.runs && d.share && d.mem.mastering then
    let d := d.mmfDiscard
    if d.loaderRuns && d.loader.step = 4 then
      let n := d.loader.discards + 1
      let d := { d with loader := { d.loader with discards := n } }
      if 2 ≤ n then d.loaderFault else d
    else d
  else d

end Sys2Proof.Machine
end

