-- ==== Sys2Proof/Machine/Mirror.lean ====
section
/-! DEFINITION. The Mirror pair (chapter 17): link frames sent and received, presence, partner requests, and the ends of
the re-rating times. -/

namespace Sys2Proof.Machine

open Sys2Proof

/-- Change the Mirror link. -/
def Dev.onMir (d : Dev) (f : MirrorSt → MirrorSt) : Dev := { d with mirror := f d.mirror }

/-! ### The state block (R429) -/

/-- A number whose bit i is the truth of a condition. -/
def flags (n : Nat) (f : Nat → Bool) : Nat := ((List.range n).map (fun i => (f i).toNat * 2 ^ i)).sum

/-- PS0. -/
def Dev.ps0 (d : Dev) : Word :=
  let th := d.live 0x1001
  word (d.ready.toNat * 0x8000 + (d.bit 0x40 14).toNat * 0x4000 + d.mirror.id.toNat * 0x2000 +
    flags 4 (fun g => d.bit (0x11 + 8 * g) 0) * 256 + flags 4 (fun g => d.domOn (6 + g)) * 16 +
    (decide (bits th 14 10 ≠ 0)).toNat * 8 + (decide (bits th 9 5 ≠ 0)).toNat * 4 + (decide (bits th 4 0 ≠ 0)).toNat * 2)

/-- The word at SEL[i]: a register without a read side effect, a trace-store word, or a free value (R429).
[DESIGN CHOICE, log 15] -/
def Dev.selWord (d : Dev) (i : Nat) : Word :=
  let a := (d.iuw (0xE00D + 2 * i)) + 65536 * d.ifld (0xE00E + 2 * i) 7 0
  if inStore a then d.storeWord (a - 0x100000)
  else if 0x800000 ≤ a ∧ d.ibit 0xD008 15 = false then 0
  else if 0x800000 ≤ a ∨ a = 0xF004 then Config.selWord (d.free + i)
  else d.live a

/-- The 32 words of the state block, all of one cycle. -/
def Dev.stateBlock (d : Dev) : List Word :=
  [d.ps0, d.w 0x52, lo16 d.time, hi16 d.time, word (d.mirror.dfGen.toNat * 256),
    word (flags 16 (fun m => (d.mot (ix 16 m (by decide))).state = .fault))] ++
  (List.finRange 16).map (fun m => word ((d.mot m).state.code * 4096 + (d.mot m).grant % 4096)) ++
  (List.finRange 4).map (fun g => word (d.level g * 0x4000 + (d.chopBad g).toNat * 0x2000 +
    (d.bit (aSup g 7) 6).toNat * 0x1000 + d.fld (aSup g 8) 15 4)) ++
  (List.range 4).map (fun q => d.ppend.extractLsb' (16 * q) 16 &&& d.w (0xF10 + q)) ++
  [d.selWord 0, d.selWord 1]

/-! ### Sending (R426, R427, R436) -/

/-- The response to the last request is known once its window read has been served. -/
def Dev.settle (d : Dev) : Dev :=
  match d.mirror.exTag, d.mirror.rsp with
  | some t, none =>
    if d.mem.wait.any (fun r => r.1 = 4) then d
    else d.onMir (fun x => { x with rsp := some (t, if x.exRd then d.fab[4] else 0) })
  | _, _ => d

/-- The request bytes of a frame. -/
def Dev.rqBytes (d : Dev) : List Byte :=
  if d.bit 0xE804 15 then
    let x := d.mirror
    [BitVec.ofNat 8 (0x80 + x.rqWr.toNat * 0x40 + d.fld 0xE804 3 0),
      x.rqAddr.extractLsb' 16 8, x.rqAddr.extractLsb' 8 8, x.rqAddr.extractLsb' 0 8] ++
      wordBytes (if x.rqWr then x.rqData else 0)
  else List.replicate 6 0

/-- The response bytes of a frame. [DEDUCED, log 78] -/
def Dev.rspBytes (d : Dev) : List Byte :=
  match d.mirror.rsp with
  | some (t, v) => BitVec.ofNat 8 (0x80 + t.toNat) :: wordBytes v
  | none => [0, 0, 0]

/-- The CRC of a frame, low byte first. -/
def crcBytes (c : BitVec 32) : List Byte := [c.extractLsb' 0 8, c.extractLsb' 8 8, c.extractLsb' 16 8, c.extractLsb' 24 8]

/-- The 78 bytes of the frame sent now (R427). -/
def Dev.frameBytes (d : Dev) : List Byte :=
  let body := [d.mirror.txSeq] ++ bytesOf d.stateBlock ++ d.rqBytes ++ d.rspBytes
  body ++ crcBytes (crc32 body)

/-- The transmitter's next frame time: configuration comes into force, and while EN is 1 a frame is sent (R426, R440).
[DEDUCED, log 77] -/
def Dev.mirrorSend (d : Dev) : Dev :=
  if d.runs then
    let d := ((d.enforce 0xE000 0xE002).enforce 0xE00D 0xE011).syncRr.settle
    if d.ibit 0xE000 15 then
      let f := d.frameBytes
      (d.onMir (fun x => { x with
        txLast := f, sentAt := some d.cycles, txSeq := x.txSeq + 1, rqFrames := if d.bit 0xE804 15 then x.rqFrames + 1 else x.rqFrames })).nextFree.nextFree
    else d
  else d

/-! ### Receiving (R428 to R433, R436, R437) -/

/-- Set causes of E50, each a raise (R444). -/
def Dev.partnerCause (d : Dev) (bit n : Nat) : Dev :=
  if n = 0 then d else (d.orW 0xE003 (1#16 <<< bit)).raiseN 50 n

/-- Set a cause of E51. -/
def Dev.linkCause (d : Dev) (bit : Nat) : Dev := d.cause 0xE004 (1#16 <<< bit) 51

/-- A frame that is not good is discarded whole (R428). -/
def Dev.frameBad (d : Dev) (codeOk alignOk : Bool) : Dev :=
  let d := d.onMir (fun x => { x with good := 0 })
  let d := d.when (!codeOk) (fun d => d.linkCause 1)
  let d := d.when (!alignOk) (fun d => d.linkCause 2)
  if codeOk && alignOk then (d.linkCause 0).inc 0xE005 else d.inc 0xE006

/-- Bytes `i` and `i + 1` of a frame as a word. -/
def frameWord (l : List Byte) (i : Nat) : Word := byteAt l i ++ byteAt l (i + 1)

/-- SEQ against the previous good frame (R428). -/
def Dev.judgeSeq (d : Dev) (seq : Byte) : Dev :=
  let d := match d.mirror.rxSeq with
    | some p => if seq = p + 1 then d else (d.linkCause 3).addSat 0xE007 15 0 (seq - p - 1).toNat
    | none => d
  d.onMir (fun x => { x with rxSeq := some seq })

/-- PRES falls or rises (R432, R434, R437). -/
def Dev.setPres (d : Dev) (on : Bool) : Dev :=
  if d.mirror.pres = on then d
  else if on then
    (d.onMir (fun x => { x with pres := true, presEver := x.presEver || d.ready, alone := false })).partnerCause 1 1
  else
    (((d.onMir (fun x => { x with pres := false, downAt := d.cycles })).partnerCause 0 1).inc 0xE008).rqEnd 2 0

/-- Ones of a word. -/
def countBits (w : Word) : Nat := (bitList w).length

/-- The partner is UP and reports the module's own MIRROR_ID. [DEDUCED, log 79] -/
def Dev.idClash (d : Dev) : Bool := d.mirror.up && d.bit 0xE400 13 = d.mirror.id

/-- The state block of a good frame, and what it changes (R430, R432, R433). [DEDUCED, log 77] -/
def Dev.takeBlock (d : Dev) (l : List Byte) : Dev :=
  let was := d.mirror.pres
  let clash := d.idClash
  let (p0, p4, p5) := (d.w 0xE400, d.w 0xE404, d.w 0xE405)
  let d := d.each (List.range 32) (fun d i => d.put (0xE400 + i) (frameWord l (1 + 2 * i)))
  let d := d.onMir (fun x => { x with
    lastGood := some d.cycles, good := min 16 (x.good + 1), up := x.up || decide (15 ≤ x.good) })
  let pdf := was && bits p4 15 8 ≠ d.fld 0xE404 15 8
  let pmf := if was then countBits (d.w 0xE405 &&& ~~~p5) + countBits (p0 &&& ~~~(d.w 0xE400) &&& 0x00F0) else 0
  let d := (d.partnerCause 2 pdf.toNat).partnerCause 3 pmf
  let d := d.partnerCause 4 (d.idClash && !clash).toNat
  let d := d.setPres (d.mirror.up && d.bit 0xE400 15 && d.bit 0xE400 13 != d.mirror.id)
  -- a matching response ends the request before a partner fault in the same frame would
  let tag := byteAt l 71
  let d := if tag.getLsbD 7 && tag.toNat % 16 = d.fld 0xE804 3 0 then d.rqEnd 0 (frameWord l 72) else d
  if pdf then d.rqEnd 3 0 else d

/-- The partner's request is executed once, as M4 (R436, R437), with what its word meets on the fabric (R18).
[DEDUCED, log 78] -/
def Dev.takeRequest (d : Dev) (l : List Byte) (fl : List Flip) : Dev :=
  let b := byteAt l 65
  let tag : BitVec 4 := b.extractLsb' 0 4
  if !b.getLsbD 7 || d.mirror.exTag = some tag then d.settle
  else
    let a : Addr := byteAt l 66 ++ byteAt l 67 ++ byteAt l 68
    let wr := b.getLsbD 6
    let d := d.onMir (fun x => { x with exTag := some tag, exRd := !wr, rsp := none })
    (if wr then d.writeWord 4 a.toNat (frameWord l 69) (flipOf fl false 0) noCut
     else
       match d.fetchWord 4 a fl 0 noCut with
       | (e, .lost) => e.putFab 4 0
       | (e, .waits) => e.winErr 4 a (flipOf fl false 0)
       | (e, .arrived) => e).settle

/-- A frame ends at the receiver (R426, R428). [DEDUCED, log 77] -/
def Dev.mirrorReceive (d : Dev) (l : List Byte) (codeOk alignOk : Bool) (fl : List Flip) : Dev :=
  if d.runs && d.ibit 0xE000 15 then
    if codeOk && alignOk && l.length = 78 && crcBytes (crc32 (l.take 74)) = l.drop 74 then
      (((d.judgeSeq (byteAt l 0)).takeBlock l).takeRequest l fl).syncRr
    else d.frameBad codeOk alignOk
  else d

/-- LOSTN windows pass without a good frame: the link falls from UP (R432). -/
def Dev.linkFalls (d : Dev) : Dev :=
  match d.mirror.lastGood with
  | some t =>
    if d.runs && d.mirror.up && decide (t + 400 * max 1 (d.ifld 0xE001 15 8) ≤ d.cycles) then
      ((d.onMir (fun x => { x with up := false, good := 0 })).setPres false).syncRr
    else d
  | none => d

/-- 64 frames, or the 128 µs that they take, have passed after GO without a matching response (R437). -/
def Dev.rqTimeout (d : Dev) : Dev :=
  if d.runs && d.bit 0xE804 15 && (decide (64 ≤ d.mirror.rqFrames) || decide (d.mirror.rqAt + 25600 ≤ d.cycles)) then
    d.rqEnd 1 0
  else d

/-- RETT in ticks; 0 acts as 1 ms (R434). -/
def Dev.rett (d : Dev) : Nat := 200000 * max 1 (d.ifld 0xE001 7 0)

/-- A time of RETT ms ends: PRES has been 0 since READY, or no condition has held (R434). [DEDUCED, log 80] -/
def Dev.rrExpiry (d : Dev) : Dev :=
  if d.runs then
    let x := d.mirror
    let alone := d.ready && !x.pres && !x.presEver && decide (x.downAt + d.rett ≤ d.cycles)
    let d := (d.onMir (fun y => { y with alone := y.alone || alone })).syncRr
    d.each (List.finRange 4) (fun d g =>
      match (d.grp g).rrClr with
      | some t => if t + d.rett ≤ d.cycles then (d.setRrClr g none).setRr g false else d
      | none => d)
  else d

end Sys2Proof.Machine
end

