-- ==== Sys2Proof/Machine/HostOps.lean ====
section
/-! DEFINITION. The transactions of the host ports (chapter 15), from the fall of HCSk_N to its rise: one definition for the
phases that all share, and one per command for its data phase. -/

namespace Sys2Proof.Machine

open Sys2Proof

/-- The master of host port k (R7). -/
def hostMaster (k : HostIx) : Master := ⟨k.1, by omega⟩

/-! ### The end of the last transaction -/

/-- HCSk_N has risen under a transaction that still waited: it ends there, and its read is dropped (R394). -/
def Dev.hostClose (d : Dev) (k : HostIx) : Dev :=
  let x := d.hp k
  if x.reading.isSome || x.parked.isSome then
    (((if x.reading.isSome then d.winDrop (hostMaster k) else d).onHp k (fun x => { x with reading := none, parked := none }))).hostEnd k
  else d

/-- The rest of the words that port k holds is discarded, and FAULT is pending (R396, R420).
[DESIGN CHOICE, log 119] -/
def Dev.hostStop (d : Dev) (k : HostIx) : Dev := d.onHp k (fun x => { x with held := [], faultF := true })

/-- The transaction of host k is in progress, and no other. -/
def cutOf (k : HostIx) : Vector Bool 4 := upd noCut k (fun _ => true)

/-- A word that a write carries reaches its sink as no code word that can be repaired. -/
def HeldWord.bad (h : HeldWord) : Bool := h.err ≠ 0 && decode28 (encode28 h.v ^^^ h.err) = .bad

/-- A word of a write of host k commits (R392); an uncorrectable one is a device fault, and the rest of the transaction is
discarded (R18, R420). -/
def Dev.hostCommit (d : Dev) (k : HostIx) (h : HeldWord) : Dev :=
  let d := d.writeWord (hostMaster k) h.addr.toNat h.v h.err (cutOf k)
  if h.bad then d.hostStop k else d

/-- One word that port k holds commits (R392). [DESIGN CHOICE, log 119] -/
def Dev.commitHeld (d : Dev) (k : HostIx) : Dev :=
  match (d.hp k).held with
  | [] => d
  | h :: rest => (d.onHp k (fun x => { x with held := rest })).hostCommit k h

/-- HCSk_N falls: what the last transaction has left is finished, and CRCEN is taken (R392, R394, R404).
[DESIGN CHOICE, log 119] -/
def Dev.hostStart (d : Dev) (k : HostIx) : Dev :=
  let d := d.hostClose k
  let d := d.when d.runs (fun d => d.each (d.hp k).held (fun d _ => d.commitHeld k))
  d.onHp k (fun x => { x with crcOn := d.crcEn k })

/-- The first status byte goes out and takes the pending flags with it (R388). [DEDUCED, log 71] -/
def Dev.hostBegin (d : Dev) (k : HostIx) (cmde : Bool) : Dev :=
  let st := d.hostStatus k cmde
  d.onHp k (fun x => { x with
    status := st, waits := [], sent := [], crcs := [], ahead := []
    faultF := false, frameF := false, undrF := false, dcrceF := false })

/-- The status byte sent last had RDY at 0: the first word had not been fetched (R386). [DEDUCED, log 120] -/
def Dev.hostNotReady (d : Dev) (k : HostIx) : Dev := d.onHp k (fun x => { x with status := x.status &&& 0x7F })

/-- Word address of word i of a READ or WRITE (R384, R387). -/
def Dev.hostAddr (d : Dev) (k : HostIx) (a : BitVec 6) (i : Nat) : Addr :=
  BitVec.ofNat 24 ((d.hp k).page.toNat * 64 + a.toNat + i)

/-! ### READ (R386, R389 to R391) -/

/-- A word of a READ was not ready when its first bit was due (R391). -/
def Dev.hostUndr (d : Dev) (k : HostIx) : Dev := (d.hostCause k 2 6).onHp k (fun x => { x with undrF := true })

/-- A late word goes out as 0x0000 (R391). [DEDUCED, log 73] -/
def Dev.hostLate (d : Dev) (k : HostIx) : Dev := (d.hostUndr k).hostSend k 0

/-- A word reaches the port as `v`, with its 28 bits changed by `err` on the fabric; what the last read returned stands. -/
def Dev.takeAhead (d : Dev) (k : HostIx) (a : Addr) (v : Word) (err : BitVec 28) : Dev × Fetched × Word :=
  let m := hostMaster k
  let was := d.fab[m]
  match (d.putFab m v).takeFab m a err (cutOf k) with
  | (e, .arrived) => (e.putFab m was, .arrived, e.fab[m])
  | (e, f) => (e.putFab m was, f, 0)

/-- The word at `a` as the port fetches it ahead of its turn, as word i of its transaction: with what it meets in its
memory and on the fabric, and with no side effect; where the flash has still to deliver it, the fetch has asked for its
line (R389, R390, R407, R408). -/
def Dev.aheadWord (d : Dev) (k : HostIx) (a : Addr) (fl : List Flip) (i : Nat) : Dev × Fetched × Word :=
  let m := hostMaster k
  let n := a.toNat
  let (d, lost) := d.ramRead n (if d.readOk m n then flipOf fl true i else 0) (cutOf k)
  if lost then (d, .lost, 0)
  else if n < 0x800000 then
    let ws := d.storeWords m a (slotErrs fl a i)
    let v := if !d.readOk m n || ws.contains .bad then 0
      else if ws.isEmpty || n % 4 ≠ 0 then d.peek m n else (ws.getD 0 .bad).value
    (d.storeFound n ws).takeAhead k a v (flipOf fl false i)
  else
    let e := (d.winDrop m).fabRead m a
    if e.winWaits m then (e.winDrop m, .waits, 0) else (e.putFab m d.fab[m]).takeAhead k a e.fab[m] (flipOf fl false i)

/-- The findings of the device fault that arises before word i of a transaction, if one does there. -/
def breakAt (fault : Option (Nat × List DfFind)) (i : Nat) : Option (List DfFind) :=
  match fault with
  | some (n, f :: fs) => if n = i then some (f :: fs) else none
  | _ => none

/-- A device fault that the transaction did not cause, or a loss of PLL_CORE lock, falls into it (R396, R416, R417).
[DEDUCED, log 71, 72] -/
def Dev.hostBreak (d : Dev) (k : HostIx) (finds : List DfFind) : Dev :=
  if finds.contains .pll then d.coreLost false else d.fault finds (cutOf k)

/-- The rest of a READ is discarded: `n` words go out as 0x0000, and FAULT is pending (R396, R420). -/
def Dev.hostCut (d : Dev) (k : HostIx) (n : Nat) : Dev := (d.hostZeros k n).onHp k (fun x => { x with faultF := true })

/-- The port fetches up to `m` words from word i on, each once the one before it has returned (R390); they go with the
transaction. [DEDUCED, log 111] -/
def Dev.fetchAhead (k : HostIx) (a : BitVec 6) (fl : List Flip) : Nat → Nat → Dev → Dev
  | 0, _, d => d
  | m + 1, i, d =>
    match d.aheadWord k (d.hostAddr k a i) fl i with
    | (e, .arrived, v) => Dev.fetchAhead k a fl m (i + 1) (e.onHp k (fun x => { x with ahead := x.ahead ++ [v] }))
    | (e, .waits, _) => e
    | (e, .lost, _) => e.hostCut k 0

/-- A READ waits for its word i, with n whole words to send from there on, and before the first word with RDY at 0 (R386). -/
def Dev.hostAwait (d : Dev) (k : HostIx) (a : BitVec 6) (x : HostArgs) (i n : Nat) : Dev :=
  (if i = 0 then d.hostNotReady k else d).onHp k (fun y => { y with reading := some ⟨a, i, n, x⟩ })

/-- HCSk_N rises inside word i of a READ: the word has been fetched, and has no side effect (R389, R394). One that is
not ready when its first bit is due is late, or, where it is the first, is waited for (R386, R391). -/
def Dev.hostPartial (d : Dev) (k : HostIx) (a : BitVec 6) (x : HostArgs) (i : Nat) : Dev :=
  let m := hostMaster k
  let w := d.hostAddr k a i
  if 0 < i ∧ i ∈ x.late then (d.aheadWord k w [] i).1.hostUndr k
  else
    match d.aheadWord k w x.flips i with
    | (e, .arrived, v) => Dev.fetchAhead k a x.flips 2 (i + 1) (e.onHp k (fun y => { y with ahead := y.ahead ++ [v] }))
    | (e, .lost, _) => e.hostCut k 0
    | (_, .waits, _) => ((d.winDrop m).fabRead m w).hostAwait k a x i 0

/-- `n` whole words of a READ from word i on, and then its end (R387, R389 to R391). [DEDUCED, log 73, 120] -/
def Dev.hostWords (k : HostIx) (a : BitVec 6) (x : HostArgs) : Nat → Nat → Dev → Dev
  | 0, i, d =>
    match breakAt x.fault i with
    | some finds => (d.hostBreak k finds).hostCut k 0
    | none => if x.rise = .inWord then d.hostPartial k a x i else Dev.fetchAhead k a x.flips 2 i d
  | n + 1, i, d =>
    match breakAt x.fault i with
    | some finds => (d.hostBreak k finds).hostCut k (n + 1)
    | none =>
      if 0 < i ∧ i ∈ x.late then Dev.hostWords k a x n (i + 1) ((d.aheadWord k (d.hostAddr k a i) [] i).1.hostLate k)
      else
        match d.fetchWord (hostMaster k) (d.hostAddr k a i) x.flips i (cutOf k) with
        | (e, .arrived) => Dev.hostWords k a x n (i + 1) (e.hostSend k e.fab[hostMaster k])
        | (e, .waits) => e.hostAwait k a x i (n + 1)
        | (e, .lost) => e.hostCut k (n + 1)

/-- The data phase of a READ. With no word to send it ends on its status byte, which has RDY at 1 once the first word
has been fetched (R386). [DEDUCED, log 120] -/
def Dev.readData (d : Dev) (k : HostIx) (a : BitVec 6) (x : HostArgs) : Dev :=
  if x.n = 0 ∧ x.rise ≠ .inWord then
    let e := Dev.fetchAhead k a x.flips 2 0 d
    if (e.hp k).ahead.isEmpty then e.hostNotReady k else e
  else Dev.hostWords k a x x.n 0 d

/-! ### WRITE and PAGE (R392 to R394) -/

/-- The words of a WRITE, as they commit. -/
def Dev.hostHeld (d : Dev) (k : HostIx) (a : BitVec 6) (fl : List Flip) (ws : List Word) : List HeldWord :=
  ws.mapIdx (fun i v => ⟨d.hostAddr k a i, v, flipOf fl false i⟩)

/-- The words of a WRITE commit as they arrive (R387, R392), up to a device fault that falls into it. -/
def Dev.hostArrive (k : HostIx) (fault : Option (Nat × List DfFind)) : Nat → List HeldWord → Dev → Dev
  | i, [], d => (match breakAt fault i with | some finds => (d.hostBreak k finds).hostStop k | none => d)
  | i, h :: t, d =>
    match breakAt fault i with
    | some finds => (d.hostBreak k finds).hostStop k
    | none => if h.bad then d.hostCommit k h else Dev.hostArrive k fault (i + 1) t (d.hostCommit k h)

/-- C2 of a write was wrong: nothing commits (R393). -/
def Dev.hostDcrce (d : Dev) (k : HostIx) : Dev := (d.hostCause k 1 5).onHp k (fun x => { x with dcrceF := true })

/-- The data phase of a WRITE or PAGE with CRCEN at 1: nothing acts before C2, and a device fault before it discards all
(R392 to R394, R396); `f` is what the words do after a correct C2. -/
def Dev.hostProtected (d : Dev) (k : HostIx) (cmd : Byte) (ws : List Word) (c2 : Byte) (fault : Option (Nat × List DfFind))
    (f : Dev → Dev) : Dev :=
  match (List.range (ws.length + 1)).findSome? (breakAt fault) with
  | some finds => (d.hostBreak k finds).hostStop k
  | none =>
    if ws.isEmpty then d
    else if 64 < ws.length then d.hostFrame' k
    else if c2 = crc8 (cmd :: bytesOf ws) then f d
    else d.hostDcrce k

/-- The data phase of a WRITE (R384, R392). Of the words of a CRC-protected write the first commits at once, and the
others in the cycles that follow; one whose length is not 16w + 8 bits commits nothing (R394). [DEDUCED, log 72] -/
def Dev.writeData (d : Dev) (k : HostIx) (cmd : Byte) (a : BitVec 6) (x : HostArgs) : Dev :=
  let hs := d.hostHeld k a x.flips x.ws
  if !d.crcEn k then Dev.hostArrive k x.fault 0 hs d
  else if x.rise ≠ .boundary then d
  else d.hostProtected k cmd x.ws x.c2 x.fault (fun d => (d.onHp k (fun x => { x with held := hs })).commitHeld k)

/-- The page register takes the first word of a PAGE; A bits 5:2 must be 0 (R384). -/
def Dev.setPage (d : Dev) (k : HostIx) (a : BitVec 6) (w : Word) : Dev :=
  if a.extractLsb' 2 4 = 0 then d.onHp k (fun x => { x with page := a.extractLsb' 0 2 ++ w }) else d

/-- The data phase of a PAGE: its first word counts, where it is complete (R384, R392, R394). -/
def Dev.pageData (d : Dev) (k : HostIx) (cmd : Byte) (a : BitVec 6) (x : HostArgs) : Dev :=
  match x.ws with
  | [] => d
  | w :: more =>
    if d.crcEn k then
      (if x.rise ≠ .boundary then d else d.hostProtected k cmd x.ws x.c2 x.fault (fun d => d.setPage k a w))
    else
      match breakAt x.fault 0 with
      | some finds => (d.hostBreak k finds).hostStop k
      | none =>
        match (List.range (more.length + 2)).findSome? (breakAt x.fault) with
        | some finds => ((d.setPage k a w).hostBreak k finds).hostStop k
        | none => d.setPage k a w

/-! ### A transaction (R385, R386, R393, R394) -/

/-- The data phase of a transaction, which follows a status byte with RDY at 1, and its end. After a wrong C1 nothing
acts and the words sent are 0x0000 (R393); a NOP sends status bytes as long as it is clocked (R385). -/
def Dev.hostData (d : Dev) (k : HostIx) (cmd : Byte) (bad : Bool) (x : HostArgs) : Dev :=
  let d :=
    match hostDecode cmd with
    | .read a => if bad then d.hostZeros k x.n else d.readData k a x
    | .write a => if bad then d else d.writeData k cmd a x
    | .page a => if bad then d else d.pageData k cmd a x
    | .getpage => if bad then d.hostZeros k x.n else d.pageWords k x.n
    | .nop | .lanereset => d.each (List.range x.n) (fun d _ => d.statusAgain k bad d.runs)
  d.hostFinish k x

/-- A transaction that began while ck_core stands still has something to do once it runs again. -/
def hostParks (cmd : Byte) (bad : Bool) : Bool :=
  match hostDecode cmd with
  | .read _ | .getpage => true
  | .write _ | .page _ => !bad
  | .nop | .lanereset => false

/-- The host clocks one more status byte of the transaction that waits on port k for its first word, or for ck_core
(R386). -/
def Dev.hostClock (d : Dev) (k : HostIx) : Dev :=
  match (d.hp k).reading, (d.hp k).parked with
  | some r, _ => if r.next = 0 then d.statusAgain k false false else d
  | none, some w => d.statusAgain k w.bad false
  | none, none => d

/-- A transaction of the command byte `cmd`, whose C1 is `wrong` or not, up to its status byte, and from there its data
phase; it waits with RDY at 0 while ck_core stands still (R385, R386, R393, R394, R396). [DEDUCED, log 71, 72, 120] -/
def Dev.hostOpen (d : Dev) (k : HostIx) (cmd : Byte) (wrong : Bool) (rise : HostRise) (x : HostArgs) : Dev :=
  if !d.resetN then d
  else if rise = .clock then d.hostClock k
  else
    let d := d.hostStart k
    let bad := d.crcEn k && wrong
    let d := if rise = .early then d else d.hostBegin k bad
    let d := if bad then d.hostCause k 1 5 else d
    match rise with
    | .early | .clock => d.hostEnd k
    | .status => if d.runs then d.hostData k cmd bad {} else d.hostEnd k
    | .done =>
      if d.runs || hostDecode cmd = .nop then d.hostData k cmd bad x
      else if hostParks cmd bad then d.onHp k (fun y => { y with parked := some ⟨cmd, bad, x⟩ })
      else d.hostEnd k

/-- The word for which a READ of host k waits has arrived, or ck_core runs again under a transaction that waits for it:
a status byte with RDY at 1 goes before the first word, and the transaction goes on (R386). [DEDUCED, log 120] -/
def Dev.hostResume (d : Dev) (k : HostIx) : Dev :=
  let m := hostMaster k
  match (d.hp k).reading, (d.hp k).parked with
  | some r, _ =>
    if !d.runs || d.winWaits m then d
    else
      let d := d.onHp k (fun x => { x with reading := none })
      let d := d.when (r.next = 0) (fun d => d.statusAgain k false true)
      match d.takeFab m (d.hostAddr k r.a r.next) (flipOf r.args.flips false r.next) (cutOf k) with
      | (e, .lost) => (e.hostCut k r.left).hostFinish k r.args
      | (e, _) =>
        if r.left = 0 then
          (Dev.fetchAhead k r.a r.args.flips 2 (r.next + 1) (e.onHp k (fun x => { x with ahead := x.ahead ++ [e.fab[m]] }))).hostFinish
            k r.args
        else (Dev.hostWords k r.a r.args (r.left - 1) (r.next + 1) (e.hostSend k e.fab[m])).hostFinish k r.args
  | none, some w =>
    if d.runs then ((d.onHp k (fun x => { x with parked := none })).statusAgain k w.bad true).hostData k w.cmd w.bad w.args else d
  | none, none => d

/-- Every transaction that can go on does. -/
def Dev.hostsResume (d : Dev) : Dev := d.each (List.finRange 4) Dev.hostResume

/-- Window reads have been served: each master takes its word, and the READs that waited go on (R360, R386). -/
def Dev.winReturned (d : Dev) : Dev := d.takeWaited.hostsResume

/-! ### The commands -/

/-- A transaction of a command byte, with the C1 that the host sent. -/
def Dev.hostCmd (d : Dev) (k : HostIx) (cmd c1 : Byte) (rise : HostRise) (x : HostArgs) : Dev :=
  d.hostOpen k cmd (c1 ≠ crc8 [cmd]) rise x

/-- READ (R384, R389). -/
def Dev.hostRead (d : Dev) (k : HostIx) (a : BitVec 6) (n : Nat) (late : List Nat) (fl : List Flip) (c1 : Byte)
    (rise : HostRise) (fault : Option (Nat × List DfFind)) : Dev :=
  d.hostCmd k (cmdByte 0 a) c1 rise { n := n, late := late, flips := fl, fault := fault }

/-- WRITE (R384, R392). -/
def Dev.hostWrite (d : Dev) (k : HostIx) (a : BitVec 6) (ws : List Word) (fl : List Flip) (c1 c2 : Byte)
    (rise : HostRise) (fault : Option (Nat × List DfFind)) : Dev :=
  d.hostCmd k (cmdByte 1 a) c1 rise { ws := ws, c2 := c2, flips := fl, fault := fault }

/-- PAGE (R384, R392, R394). -/
def Dev.hostPage (d : Dev) (k : HostIx) (a : BitVec 6) (w : Word) (more : List Word) (c1 c2 : Byte)
    (rise : HostRise) (fault : Option (Nat × List DfFind)) : Dev :=
  d.hostCmd k (cmdByte 2 a) c1 rise { ws := w :: more, c2 := c2, fault := fault }

/-- GETPAGE (R384). -/
def Dev.hostGetpage (d : Dev) (k : HostIx) (c1 : Byte) (rise : HostRise) : Dev := d.hostCmd k (cmdByte 3 1) c1 rise { n := 2 }

/-- LANERESET (R395). [DEDUCED, log 74] -/
def Dev.hostLanes (d : Dev) (k : HostIx) : Dev := if d.resetN then ((d.hostStart k).put (aHp k 0) 0).hostEnd k else d

/-- A SPECIAL command byte (R384): offset 0x01 is GETPAGE, 0x3F LANERESET, and every other acts as NOP, whose status byte is
clocked `more` times again (R385). -/
def Dev.hostSpecial (d : Dev) (k : HostIx) (a : BitVec 6) (c1 : Byte) (rise : HostRise) (more : Nat) : Dev :=
  match hostDecode (cmdByte 3 a) with
  | .getpage => d.hostGetpage k c1 rise
  | .lanereset => d.hostLanes k
  | _ => d.hostCmd k (cmdByte 3 a) c1 rise { n := more }

/-- HCSk_N rises at a point of R394 that is marked FRAME. The points of a CRC phase exist only with CRCEN at 1. -/
def Dev.hostFraming (d : Dev) (k : HostIx) (p : FramePoint) (c1Wrong : Bool) : Dev :=
  if !d.resetN then d
  else
    match p with
    | .command => ((d.hostStart k).hostFrame' k).hostEnd k
    | .readWord a n late => d.hostOpen k (cmdByte 0 a) c1Wrong .done { n := n, late := late, rise := .inWord }
    | .readCrc a n late =>
      if d.crcEn k && n ≠ 0 then d.hostOpen k (cmdByte 0 a) c1Wrong .done { n := n, late := late, rise := .inCrc } else d
    | .getpageWord n => d.hostOpen k (cmdByte 3 1) c1Wrong .done { n := min 1 n, rise := .inWord }
    | .writeWord a ws => d.hostOpen k (cmdByte 1 a) c1Wrong .done { ws := ws, rise := .inWord }
    | .pageWord => d.hostOpen k (cmdByte 2 0) c1Wrong .done { rise := .inWord }
    | .crcLength => if d.crcEn k then d.hostOpen k (cmdByte 1 0) c1Wrong .done { rise := .inWord } else d

end Sys2Proof.Machine
end

