-- ==== Sys2Proof/Machine/Balls.lean ====
section
/-! DEFINITION. The digital balls (R492): what drives each of them and at which level, the pull resistors, and the
boundary-scan registers that the TAP's instructions connect (R480, R481). -/

namespace Sys2Proof.Machine

open Sys2Proof

/-- The balls of the boundary register, in the order in which R481 names them. [DESIGN CHOICE, log 87] -/
def scanBalls : List ScanBall :=
  List.flatten
    [(List.finRange 4).flatMap (fun k => ScanBall.hclk k :: ScanBall.hcs k :: (List.finRange 4).map (ScanBall.hio k)),
     [ScanBall.mclk, ScanBall.mcs0, ScanBall.mcs1], (List.finRange 8).map ScanBall.mio, (List.finRange 4).map ScanBall.irq,
     (List.finRange 4).map ScanBall.brk, (List.finRange 4).map ScanBall.brkfb, (List.finRange 16).map ScanBall.glo,
     [ScanBall.distOut], (List.finRange 16).map ScanBall.cmd,
     (List.finRange 24).flatMap (fun f => [ScanBall.fbA f, ScanBall.fbB f]),
     (List.finRange 16).flatMap (fun m => [ScanBall.absclk m, ScanBall.absdat m]),
     [ScanBall.cplDet, ScanBall.mirrorId, ScanBall.resetN, ScanBall.ckRef, ScanBall.ckAdc]]

/-- The ball is connected inside the package of this part (R5, R493): the gate-edge balls of absent groups and the CMD balls
of absent motors are not. -/
def Dev.hasBall (d : Dev) : ScanBall → Bool
  | .brk g | .brkfb g => d.hasGrp g
  | .cmd m => d.hasMot m
  | _ => true

/-- The module can drive the ball: an output, or a bidirectional ball (R492). -/
def ballDrives : ScanBall → Bool
  | .hio .. | .irq .. | .mclk | .mcs0 | .mcs1 | .mio .. | .brk .. | .glo .. | .distOut | .absclk .. => true
  | .hclk .. | .hcs .. | .brkfb .. | .cmd .. | .fbA .. | .fbB .. | .absdat .. | .cplDet | .mirrorId | .resetN | .ckRef
  | .ckAdc => false

/-- The level to which the ball's own resistor pulls it: true VIO, false GND (R492). -/
def ballPull : ScanBall → Option Bool
  | .absclk .. | .absdat .. | .hcs .. => some true
  | .hclk .. => some false
  | _ => none

/-- The port drives the flash: a select is low, in share mode while it is mastering (R363, R376). -/
def Dev.flashDriven (d : Dev) : Bool := d.memMay && (d.memStat &&& 6 ≠ 6)

/-- What the module's own logic drives on a ball between two commands; none is high-impedance, or not connected (R492,
R493). IRQk_N follows
R447 and R448. MCLK rests low while a select is asserted; HIO and MIO are driven only in the phases of a transaction or
a frame, which a command carries whole; ABSCLK rests high. -/
def Dev.ballOut (d : Dev) (b : ScanBall) : Option Bool :=
  if !d.hasBall b then none
  else if !d.resetN then
    (match b with
     | .brk .. | .glo .. | .distOut => some false
     | _ => none)
  else
    match b with
    | .irq k => if d.irq k then some false else if d.bit (aEvh k 12) 1 then none else some true
    | .mclk => if d.flashDriven then some false else none
    | .mcs0 => if d.memMay then some (bitOf d.memStat 1) else none
    | .mcs1 => if d.share then none else some (bitOf d.memStat 2)
    | .brk g => some (d.brk g)
    | .glo m => some (d.glo m)
    | .distOut => some d.dist.high
    | .absclk .. => some true
    | _ => none

/-- A cell of a boundary register. -/
def cellOf (l : List (ScanBall × Bool)) (b : ScanBall) : Option Bool := (l.find? (fun e => e.1 = b)).map Prod.snd

/-- What drives a ball: the boundary register while EXTEST is current (R480), else the module's own logic.
[DESIGN CHOICE, log 87] -/
def Dev.ballDriven (d : Dev) (b : ScanBall) : Option Bool :=
  if d.tap = .extest && ballDrives b && d.hasBall b then some ((cellOf d.scan.update b).getD false) else d.ballOut b

/-- The level of a ball as the module sees it: what the module drives, else what the surroundings do, else its own resistor;
a floating ball, and one that is not connected inside the package, reads low. [DESIGN CHOICE, log 87] -/
def Dev.ballLevel (d : Dev) (pins : List (ScanBall × Bool)) (b : ScanBall) : Bool :=
  match b with
  | .resetN => d.resetN
  | .mirrorId => d.mirror.id
  | .cplDet => d.bit 0x51 1
  | _ => if d.hasBall b then (d.ballDriven b).getD ((cellOf pins b).getD ((ballPull b).getD false)) else false

/-- The two lanes of the Mirror transmitter. -/
inductive LinkOut where
  | highZ | low | frames
  | stopped            -- EN is 1, and the transmitter stands with ck_core: no frame, and no level that the spec states
  deriving DecidableEq, Repr

/-- MLTX0 and MLTX1: high-impedance in reset, at a static differential low while EN is 0, else carrying frames while ck_core
runs (R426, R492). [DEDUCED, log 127] -/
def Dev.mltx (d : Dev) : LinkOut :=
  if !d.resetN then .highZ else if !d.ibit 0xE000 15 then .low else if d.runs then .frames else .stopped

/-- The digital balls outside the boundary register that hold a level or a pull of the module's: those of the TAP and of the
Umbra port, and SEAL_N (R492). -/
inductive OwnBall where
  | tck | tms | tdi | tdo | ucsN | umiso | sealN
  deriving DecidableEq, Repr

/-- What pulls a ball, through its 50 kΩ resistor (R492). -/
inductive Rail where
  | gnd | vio | vumb
  deriving DecidableEq, Repr

/-- The rail to which the module pulls one of those balls, during reset and after it (R492). -/
def ownPull : OwnBall → Option Rail
  | .tck => some .gnd
  | .tms | .tdi => some .vio
  | .ucsN | .sealN => some .vumb
  | .tdo | .umiso => none

/-- TDO: high-impedance in reset, else driven with the bit shifted out in Shift-IR and Shift-DR, and only there; `shift` is
that bit in one of those two states (R492). -/
def Dev.tdo (d : Dev) (shift : Option Bool) : Option Bool := if d.resetN then shift else none

/-- UMISO: high-impedance while UCS_N is high, else the bit that goes out (R492). -/
def umiso (ucsN bit : Bool) : Option Bool := if ucsN then none else some bit

/-- What the module drives on one of those balls between two commands: each command of the TAP or of the Umbra port carries a
whole scan or transaction, so neither output drives (R492). -/
def Dev.ownOut (d : Dev) : OwnBall → Option Bool
  | .tdo => d.tdo none
  | .umiso => umiso true false
  | _ => none

/-! ### Boundary scan (R480, R481) -/

/-- The cells of the boundary register, with the levels that they capture now. [DESIGN CHOICE, log 87] -/
def Dev.captured (d : Dev) (pins : List (ScanBall × Bool)) : List (ScanBall × Bool) :=
  scanBalls.map (fun b => (b, d.ballLevel pins b))

/-- Cells are shifted in and updated; a cell that is not named keeps its value. -/
def putCells (l new : List (ScanBall × Bool)) : List (ScanBall × Bool) :=
  scanBalls.map (fun b => (b, (cellOf new b).getD ((cellOf l b).getD false)))

/-- The instruction of a code is loaded, and its data register captures what R480 and R481 give it: the boundary
register the levels of its balls, as the surroundings give those of `pins`; the identification register its 32 bits; the
bypass register a 0. `preload` holds the cells that SAMPLE/PRELOAD updates. In reset the TAP stays in Test-Logic-Reset.
[DESIGN CHOICE, log 87] -/
def Dev.loadScan (d : Dev) (code : BitVec 4) (pins preload : List (ScanBall × Bool)) : Dev :=
  if !d.resetN then d
  else
    let lv := d.captured pins
    let d := d.loadCode code
    match tapOf code with
    | .idcode => { d with scan := { d.scan with ident := d.idcode } }
    | .bypass => { d with scan := { d.scan with bypass := false } }
    | .sample => { d with scan := { d.scan with boundary := lv, update := putCells d.scan.update preload } }
    | .extest => { d with scan := { d.scan with boundary := lv } }

end Sys2Proof.Machine
end

