-- ==== Sys2Proof/Machine/UmbraOps.lean ====
section
/-! DEFINITION. The metrology island (chapter 12): records and their two areas, weighing, distance, coupling, the seal
and its parameters, the mailbox copy, and the responses of the Umbra port. Every operation here reads and changes the
island alone (R298, R300). -/

namespace Sys2Proof.Machine

open Sys2Proof

/-! ### Parameters (R318, R320) -/

/-- A word of a parameter set; words that were never written read 0. -/
def param (p : Store) (a : Nat) : Word := p.get (fun _ => 0) a

/-- A parameter as a number. -/
def paramN (p : Store) (a : Nat) : Nat := (param p a).toNat

/-- The table of R320 lists the address. -/
def paramListed (a : Nat) : Bool := decide (a ≤ 0x00A) || decide (0x100 ≤ a ∧ a < 0x180)

/-- Kk in micrometres per pulse. -/
def paramK (p : Store) (k : Nat) : Nat := paramN p (6 + 2 * k) + 65536 * paramN p (7 + 2 * k)

/-- UW input k is enabled. -/
def inputOn (p : Store) (k : Nat) : Bool := bitOf (param p 5) k

/-- Load channel l is enabled. -/
def loadOn (p : Store) (l : Nat) : Bool := bitOf (param p 0) l

/-- Curve input code X[l][i]. -/
def curveX (p : Store) (l i : Nat) : Nat := paramN p (0x100 + 32 * l + i)

/-- Curve load Y[l][i]. -/
def curveY (p : Store) (l i : Nat) : Nat := paramN p (0x110 + 32 * l + i)

/-- The scale interval of a d code (R320). -/
def interval : Nat → Nat
  | 0 => 1
  | 1 => 2
  | 2 => 5
  | 3 => 10
  | 4 => 20
  | _ => 50

/-- The parameter at an address breaks R318. -/
def paramBad (p : Store) (a : Nat) : Bool :=
  if a = 0 then decide (5 < bits (param p 0) 6 4)
  else if a = 1 then decide (paramN p 1 < 8 ∨ 250 < paramN p 1)
  else if a = 3 then decide (paramN p 3 < 1 ∨ 60 < paramN p 3)
  else if a = 6 then inputOn p 0 && paramK p 0 = 0
  else if a = 8 then inputOn p 1 && paramK p 1 = 0
  else if 0x100 ≤ a ∧ a < 0x180 then
    let l := (a - 0x100) / 32
    let i := a % 16
    loadOn p l && 0 < i &&
      (if (a / 16) % 2 = 0 then decide (curveX p l i ≤ curveX p l (i - 1)) else decide (curveY p l i < curveY p l (i - 1)))
  else false

/-- The lowest address whose parameter breaks R318. -/
def firstBad (p : Store) : Option Nat := (List.range 0x180).find? (paramBad p)

/-- The words in which two parameter sets differ. -/
def wordsChanged (p q : Store) : Nat := ((List.range 0x180).filter (fun a => param p a ≠ param q a)).length

/-- The digest of a parameter set under a key (R318). -/
def digest (key : BitVec 128) (p : Store) : BitVec 64 := cmac64 key (bytesOf ((List.range 0x180).map (param p)))

/-- The four words of a 64-bit number, most significant first. -/
def words64 (v : BitVec 64) : List Word :=
  [v.extractLsb' 48 16, v.extractLsb' 32 16, v.extractLsb' 16 16, v.extractLsb' 0 16]

/-! ### Distance (R307, R308) -/

/-- Metres of an accumulator in micrometres, rounded half away from zero and saturating. -/
def metres (dum : Nat) : Nat := min 0xFFFFFFFF ((2 * dum + 1000000) / 2000000)

/-- The accumulator of input k. -/
def Umbra.dum (u : Umbra) (k : Nat) : Nat := if k = 0 then u.dum0 else u.dum1

/-- The primary input. -/
def Umbra.psel (u : Umbra) : Nat := bits (param u.params 5) 2 2

/-- DIST. -/
def Umbra.dist (u : Umbra) : BitVec 32 := BitVec.ofNat 32 (metres (u.dum u.psel))

/-- DIST_SEC. -/
def Umbra.distSec (u : Umbra) : BitVec 32 := BitVec.ofNat 32 (metres (u.dum (1 - u.psel)))

/-! ### The mailbox copy (R327, R328) -/

/-- AFULL: the audit area is full (R313). -/
def Umbra.afull (u : Umbra) : Bool := decide (512 ≤ u.audit.length)

/-- Metrology runs: a key is programmed and the parameters are sound (MBSTAT.RUN). -/
def Umbra.runs (u : Umbra) : Bool := u.key.isSome && !u.perr

/-- MBSTAT. -/
def Umbra.mbstat (u : Umbra) : Word :=
  word (u.runs.toNat * 0x8000 + u.sealOpen.toNat * 0x4000 + u.afull.toNat * 0x2000 + u.perr.toNat * 0x1000 +
    u.rtcx.toNat * 0x800 + u.key.isSome.toNat * 0x400 + u.weigh.isSome.toNat * 0x200 + u.still.toNat * 0x100 +
    u.cpl.toNat * 0x80 + u.discrep.toNat * 0x40 + u.dwrap.toNat * 0x20)

/-- The 48 mailbox words 0x00 to 0x2F. -/
def Umbra.mailbox (u : Umbra) : List Word :=
  [u.mbstat, u.updcnt, lo16 u.utime, hi16 u.utime, lo16 u.dist, hi16 u.dist, u.load[0], u.load[1], u.load[2], u.load[3],
   lo16 u.total, hi16 u.total, u.wflags, u.audcnt, u.cplcnt, u.keyId] ++ words64 u.uid ++ words64 u.pdig ++
  [1, word u.audit.length, word u.datNext, lo16 u.distSec, hi16 u.distSec, 0, 0, 0] ++
  (if u.lastRec.length = 16 then u.lastRec else List.replicate 16 0)

/-- Push a copy through the crossing (R327). -/
def Umbra.push (u : Umbra) : Umbra :=
  let u := { u with updcnt := u.updcnt + 1 }
  { u with out := u.out ++ [u.mailbox] }

/-! ### Records (R311 to R314) -/

/-- W0 to W11 of a record made now, with its seven payload words. -/
def Umbra.recordBody (u : Umbra) (ty : Nat) (payload : List Word) : List Word :=
  [word (ty * 0x1000 + u.sealOpen.toNat * 0x800 + u.rtcx.toNat * 0x400 + 0x100), lo16 u.recnum, hi16 u.recnum,
   lo16 u.utime, hi16 u.utime] ++ payload

/-- A whole record: W0 to W11 and the MAC over the UID and these words (R312). -/
def Umbra.sign (u : Umbra) (key : BitVec 128) (body : List Word) : List Word :=
  body ++ words64 (cmac64 key (bytes64 u.uid ++ bytesOf body))

/-- Write a slot of the data ring. -/
def putRing : List (Nat × List Word) → Nat → List Word → List (Nat × List Word)
  | [], s, r => [(s, r)]
  | (k, x) :: t, s, r => if s < k then (s, r) :: (k, x) :: t else if s = k then (s, r) :: t else (k, x) :: putRing t s r

/-- Where the commit word of an audit slot stands among the marks. -/
def auditMark (ix : Nat) : Nat := ix

/-- Where the commit word of a data slot stands among the marks. -/
def dataMark (s : Nat) : Nat := 512 + s

/-- The commit word of a record slot, 0x0000 where none was written (R413). -/
def Umbra.mark (u : Umbra) (a : Nat) : Word := u.marks.get (fun _ => 0) a

/-- Write the commit word of a record slot (R413). -/
def Umbra.setMark (u : Umbra) (a : Nat) (v : Word) : Umbra := { u with marks := u.marks.set (fun _ => 0) a v }

/-- The words of a parameter set, in address order. [DESIGN CHOICE, log 118] -/
def paramWords (p : Store) : List Word := (List.range 0x180).map (param p)

/-- Make a data record: it takes the next slot of the ring (R313, R413). Without a key there is none (R321). -/
def Umbra.dataRec (u : Umbra) (ty : Nat) (payload : List Word) : Umbra :=
  match u.key with
  | none => u
  | some k =>
    let u := { u with recnum := u.recnum + 1 }
    let r := u.sign k (u.recordBody ty payload)
    let wrap := u.datNext + 1 = 7424
    ({ u with
      lastRec := r, data := putRing u.data u.datNext r, datNext := if wrap then 0 else u.datNext + 1
      dwrap := u.dwrap || wrap, last := some { audit := false, wrap := u.dwrap } }.setMark (dataMark u.datNext)
        (commitWord r)).push

/-- Make an audit record in the next audit slot, while one is left (R313, R314, R321, R413). -/
def Umbra.auditRec (u : Umbra) (payload : List Word) : Umbra :=
  match u.key with
  | none => u
  | some k =>
    if u.afull then u
    else
      let u := { u with recnum := u.recnum + 1 }
      let r := u.sign k (u.recordBody 4 payload)
      ({ u with lastRec := r, audit := u.audit ++ [r], last := some { audit := true } }.setMark (auditMark u.audit.length)
        (commitWord r)).push

/-- An audit record of a kind that carries PDIG (R311, R319). -/
def Umbra.auditPdig (u : Umbra) (kind : Nat) (w11 : Nat) : Umbra :=
  u.auditRec ([word kind, u.audcnt] ++ words64 u.pdig ++ [word w11])

/-- A power record (R311, R322). -/
def Umbra.powerRec (u : Umbra) (first rtcLost : Bool) (alive : BitVec 32) : Umbra :=
  u.dataRec 5 [word (u.perr.toNat * 4 + rtcLost.toNat * 2 + first.toNat), lo16 alive, hi16 alive, lo16 u.dist, hi16 u.dist, 0, 0]

/-- A coupling record (R310, R311). -/
def Umbra.couplingRec (u : Umbra) (close : Bool) : Umbra :=
  u.dataRec 3 [word close.toNat, u.cplcnt, lo16 u.dist, hi16 u.dist, 0, 0, 0]

/-- A distance record, with DISCREP when both inputs are enabled and disagree (R309). -/
def Umbra.distanceRec (u : Umbra) : Umbra :=
  let dp := u.dist.toNat - u.distBase
  let ds := u.distSec.toNat - u.distSecBase
  let bad := inputOn u.params 0 && inputOn u.params 1 &&
    decide (paramN u.params 0xA * dp < ((dp : Int) - ds).natAbs * 1000)
  let u := { u with discrep := bad, distBase := u.dist.toNat, distSecBase := u.distSec.toNat }
  u.dataRec 2 [lo16 u.dist, hi16 u.dist, lo16 u.distSec, hi16 u.distSec, word (u.psel * 2 + bad.toNat), u.cplcnt, 0]

/-! ### Weighing (R303 to R306) -/

/-- A trigger of a weighing; it is ignored while a weighing is in progress or already triggered (R304). -/
def Umbra.trigger (u : Umbra) (t : Nat) : Umbra :=
  if u.runs && u.weigh.isNone && u.trig.isNone then { u with trig := some t } else u

/-- Metres advanced since the last weighing record. -/
def Umbra.moved (u : Umbra) : Nat := u.dist.toNat - u.moveBase

/-- NW, at least one cycle. [DEDUCED, log 102] -/
def Umbra.nw (u : Umbra) : Nat := max 1 (paramN u.params 1)

/-- The largest index i from 0 to 14 with NW × X[l][i] at most s. -/
def curveSeg (p : Store) (nw l s : Nat) : Nat :=
  ((List.range 15).reverse.find? (fun i => decide (nw * curveX p l i ≤ s))).getD 0

/-- The load of a channel from its sum, in kg (R306). -/
def loadOf (p : Store) (nw l s : Nat) : Nat :=
  let i := curveSeg p nw l s
  let dx := curveX p l (i + 1) - curveX p l i
  let dy := curveY p l (i + 1) - curveY p l i
  let d := interval (bits (param p 0) 6 4)
  let den := nw * dx * d
  d * ((2 * (curveY p l i * nw * dx + dy * (s - nw * curveX p l i)) + den) / (2 * den))

/-- UNST: the codes of channel l spread too far. -/
def Weigh.unst (w : Weigh) (p : Store) (l : Fin 4) : Bool := decide (paramN p 2 < w.hi[l] - w.lo[l])

/-- RANGE: the sum of channel l lies outside its curve. -/
def Weigh.range (w : Weigh) (p : Store) (nw : Nat) (l : Fin 4) : Bool :=
  decide (w.sum[l] < nw * curveX p l 0) || decide (nw * curveX p l 15 < w.sum[l])

/-- Store the load of channel l; a load that does not fit in its word is a free value. [DESIGN CHOICE, log 12, 16] -/
def Umbra.putLoad (u : Umbra) (l : Fin 4) (v : Option Nat) : Umbra :=
  match v with
  | none => { u with load := upd u.load l (fun _ => 0xFFFF) }
  | some n =>
    if n < 65536 then { u with load := upd u.load l (fun _ => word n) }
    else { u with load := upd u.load l (fun _ => Config.wideLoad u.free), free := u.free + 1 }

/-- The weighing ends with its record (R306, R311). -/
def Umbra.weighed (u : Umbra) (w : Weigh) : Umbra :=
  let p := u.params
  let nw := u.nw
  let on := (List.finRange 4).filter (fun l => loadOn p l.1)
  let valid (l : Fin 4) : Bool := loadOn p l.1 && !w.unst p l && !w.range p nw l
  let u := (List.finRange 4).foldl (fun (u : Umbra) l => u.putLoad l (if valid l then some (loadOf p nw l.1 w.sum[l]) else none)) u
  let total := if on.all valid then (on.map (fun l => loadOf p nw l.1 w.sum[l])).sum else 0xFFFFFFFF
  let flags := (on.map (fun l => (w.range p nw l).toNat * 2 ^ l.1 + (w.unst p l).toNat * 2 ^ (4 + l.1))).sum + w.trig * 256
  let u := { u with total := BitVec.ofNat 32 total, wflags := word flags, weigh := none,
                    moveBase := u.dist.toNat, cplSince := false }
  u.dataRec 1 [u.load[0], u.load[1], u.load[2], u.load[3], lo16 u.total, hi16 u.total, u.wflags]

/-- The highest enabled channel, whose conversion ends a cycle of the weighing; UA3 when none is enabled.
[DEDUCED, log 102] -/
def lastChannel (p : Store) : Nat := ((List.range 4).reverse.find? (loadOn p)).getD 3

/-- One code of input l enters the weighing. -/
def Weigh.take (w : Weigh) (l : Fin 4) (code : Nat) : Weigh :=
  { w with sum := upd w.sum l (· + code), lo := upd w.lo l (min · code), hi := upd w.hi l (max · code) }

/-! ### Seal (R315 to R318) -/

/-- The parameter set that a commitment replaces goes with its audit record into what a loss of VUMB can still tear. -/
def Umbra.overSet (u : Umbra) (old : Umbra) : Umbra :=
  { u with last := u.last.map (fun w => { w with set := some (old.params, old.pdig, old.perr) }) }

/-- The closing of the seal over a shadow is carried out: compare, audit, and commit or discard, the set being one unit of
R413 (R317). [DEDUCED, log 101] -/
def Umbra.finishClose (u : Umbra) (sh : Store) : Umbra :=
  if u.afull then u
  else
    let n := wordsChanged sh u.params
    if n = 0 then u.auditPdig 2 0
    else
      match firstBad sh with
      | some a => u.auditPdig 4 a
      | none =>
        (({ u with
          params := sh, parMark := commitWord (paramWords sh)
          pdig := (match u.key with | some k => digest k sh | none => u.pdig), perr := false } : Umbra).auditPdig 3 n).overSet u

/-- The closings that waited are carried out, oldest first, once no weighing is in progress (R317). -/
def Umbra.closeWaiting (u : Umbra) : Umbra :=
  if u.weigh.isNone then u.closing.foldl Umbra.finishClose { u with closing := [] } else u

/-- The seal is found open (R315). [DEDUCED, log 101] -/
def Umbra.open (u : Umbra) : Umbra :=
  if u.up && !u.sealOpen then
    let u := { u with sealOpen := true, audcnt := if u.audcnt = 0xFFFF then 0xFFFF else u.audcnt + 1 }
    { u.auditPdig 1 0 with shadow := some u.params }
  else u

/-- The seal is found closed (R317). [DEDUCED, log 101] -/
def Umbra.close (u : Umbra) : Umbra :=
  if u.up && u.sealOpen then
    { u with sealOpen := false, shadow := none, closing := u.closing ++ u.shadow.toList }.closeWaiting
  else u

/-! ### Pulses, conversions and time -/

/-- A filtered wheel pulse on input k (R305, R307). [DEDUCED, log 103] -/
def Umbra.pulse (u : Umbra) (k : Fin 2) : Umbra :=
  if u.up && inputOn u.params k.1 && u.runs then
    let add := paramK u.params k.1
    let top := 0xFFFFFFFFFFFFFFFF
    let u := if k = 0 then { u with dum0 := min top (u.dum0 + add) } else { u with dum1 := min top (u.dum1 + add) }
    { u with still := false, weigh := none }.closeWaiting
  else u

/-- A conversion cycle has ended: a waiting trigger begins its weighing with the next one (R304). [DEDUCED, log 102] -/
def Umbra.takeUp (u : Umbra) : Umbra :=
  match u.trig with
  | none => u
  | some t => if u.runs then { u with weigh := some { trig := t }, trig := none } else { u with trig := none }

/-- A conversion of input l enters the weighing in progress, which ends with the last channel of its NW-th cycle
(R305). [DEDUCED, log 102] -/
def Umbra.weighCode (u : Umbra) (l : Fin 4) (code : Nat) : Umbra :=
  match u.weigh with
  | none => u
  | some w =>
    if l.1 = lastChannel u.params then
      if u.nw ≤ w.n + 1 then (u.weighed (w.take l code)).closeWaiting
      else { u with weigh := some { w.take l code with n := w.n + 1 } }
    else { u with weigh := some (w.take l code) }

/-- One conversion of the input in turn (R303 to R305). -/
def Umbra.convert (u : Umbra) (code : Nat) : Umbra :=
  if !u.up then u
  else
    let l : Fin 4 := ⟨u.input % 4, Nat.mod_lt _ (by decide)⟩
    let u := { u with input := (l.1 + 1) % 4 }.weighCode l code
    if l = 3 && u.weigh.isNone then u.takeUp else u

/-- Umbra becomes still (R304). -/
def Umbra.becomeStill (u : Umbra) : Umbra :=
  if u.up && !u.still then
    let u := { u with still := true }
    if paramN u.params 4 ≤ u.moved then u.trigger 0 else if u.cplSince then u.trigger 1 else u
  else u

/-- A coupling has been made or parted, and it is recorded (R310). [DEDUCED, log 103] -/
def Umbra.coupled (u : Umbra) (level : Bool) : Umbra :=
  if level then { u with cpl := true, cplcnt := u.cplcnt + 1, cplSince := true }.couplingRec false
  else { u with cpl := false }.couplingRec true

/-- A qualified edge of CPL_DET (R304, R310). -/
def Umbra.coupling (u : Umbra) (level : Bool) : Umbra :=
  if u.up && level != u.cpl then
    (if level && u.still then (u.coupled level).trigger 1 else u.coupled level)
  else u

/-- A second of UTIME passes (R301, R322, R327). [DEDUCED, log 100] -/
def Umbra.second (u : Umbra) : Umbra :=
  let u := { u with utime := u.utime + 1 }
  if u.up then { u with alive := u.utime }.push else u

/-- The hourly distance record (R309, R321). PERR does not withhold it: DIST may have advanced before (R323).
[DEDUCED, log 103] -/
def Umbra.hour (u : Umbra) : Umbra :=
  if u.up && u.key.isSome && u.utime.toNat % 3600 = 0 && decide (u.distBase < u.dist.toNat) then u.distanceRec else u

/-- The RTC has stopped (R302). -/
def Umbra.stopRtc (u : Umbra) : Umbra := { u with rtcx := true, rtcLost := true }

/-- The word of the parameter set at address `a`, or its commit word at 0x180, with its 28 stored bits changed by `err`:
what its decoder delivers (R407). -/
def Umbra.setWord (u : Umbra) (a : Nat) (err : BitVec 28) : Word × Decoded :=
  let w := if a < 0x180 then param u.params a else u.parMark
  (w, decode28 (encode28 w ^^^ err))

/-- The start reads the parameter set with its words changed as `errs` says, by address: one that cannot be corrected,
or that is corrected to another word, leaves the set torn (R323, R413). -/
def Umbra.setBroken (u : Umbra) (errs : List (Nat × BitVec 28)) : Bool :=
  errs.any (fun e => (u.setWord e.1 e.2).2.value ≠ (u.setWord e.1 e.2).1 || (u.setWord e.1 e.2).2 = .bad)

/-- The island starts, and reads its parameter set as `errs` says (R302, R322, R323, R413, R479).
[DESIGN CHOICE, log 19; DEDUCED, log 100] -/
def Umbra.start (u : Umbra) (bistOk : Bool) (errs : List (Nat × BitVec 28)) : Umbra :=
  if u.up || u.bistFail then u
  else if u.key.isNone && !bistOk then { u with bistFail := true }
  else
    let lost := u.rtcLost
    let u := { u with
      up := true, utime := if lost then u.alive else u.utime, rtcLost := false, sealOpen := false, shadow := none
      closing := [], cpl := false, still := false, weigh := none, trig := none, input := 0, updcnt := 0 }
    match u.key with
    | none => u
    | some k =>
      let bad := digest k u.params != u.pdig || u.parMark != commitWord (paramWords u.params) || u.setBroken errs
      let u := { u with perr := bad }.powerRec false lost u.alive
      if bad then u.auditPdig 7 0 else u

/-- The write of the record that the last command made was torn: its commit word stays 0x0000 and its slot, the next to be
written, reads as empty (R314, R413). [DESIGN CHOICE, log 121] -/
def Umbra.tearLast (u : Umbra) : Umbra :=
  match u.last with
  | none => u
  | some w =>
    if w.audit then { u with audit := u.audit.dropLast, last := none }.setMark (auditMark (u.audit.length - 1)) 0
    else
      let s := if u.datNext = 0 then 7423 else u.datNext - 1
      { u with data := u.data.filter (fun e => e.1 ≠ s), datNext := s, dwrap := w.wrap, last := none }.setMark (dataMark s) 0

/-- A parameter set of which the words below `n` were written and the others not. -/
def mixSet (new old : Store) (n : Nat) : Store :=
  (List.range 0x180).foldl (fun p a => p.set (fun _ => 0) a (param (if a < n then new else old) a)) []

/-- The write of the parameter set that the last command committed was torn after `n` of its words: its commit word stays
0x0000, its digest is the old one, and its audit record was not yet begun (R317, R413). [DESIGN CHOICE, log 121] -/
def Umbra.tearSet (u : Umbra) (n : Nat) : Umbra :=
  match u.last with
  | some { set := some (p, pd, pe), .. } =>
    { u.tearLast with params := mixSet u.params p n, pdig := pd, perr := pe, parMark := 0 }
  | _ => u

/-- What a command has written is complete once a later command makes no record: nothing is left to tear.
[DESIGN CHOICE, log 121] -/
def Umbra.settled (u v : Umbra) : Umbra := { v with out := [], last := if v.recnum = u.recnum then none else v.last }

/-- VUMB fails; `torn` says that the write of the last record was interrupted, `set` that of the parameter set committed with
it, after so many words (R314, R317, R322). [DESIGN CHOICE, log 121; DEDUCED, log 100] -/
def Umbra.loseSupply (u : Umbra) (torn : Bool) (set : Option Nat := none) : Umbra :=
  let u := if !u.up then u else match set with
    | some n => u.tearSet n
    | none => if torn then u.tearLast else u
  { u with up := false, bistFail := false, shadow := none, closing := [], sealOpen := false, weigh := none, trig := none,
           still := false, cpl := false }

/-! ### The Umbra port (R324 to R326) -/

/-- The status byte with its error bits (R325). [DEDUCED, log 104] -/
def Umbra.portStatus (u : Umbra) (crce ref bada busy : Bool) : Byte :=
  BitVec.ofNat 8 (u.sealOpen.toNat * 64 + crce.toNat * 32 + ref.toNat * 16 + bada.toNat * 8 + (busy || u.weigh.isSome).toNat * 4)

/-- Answer a request: the status byte, the data, and their CRC (R324). -/
def Umbra.answer (u : Umbra) (st : Byte) (data : List Byte) : Umbra :=
  { u with resp := st :: data ++ [crc8 (st :: data)] }

/-- A request of the port: its bytes, the CRC received, and what a request with a good CRC does. [DEDUCED, log 104] -/
def Umbra.request (u : Umbra) (req : List Byte) (crc : Byte) (f : Umbra → Umbra) : Umbra :=
  if !u.up then { u with resp := [] }
  else if crc8 req = crc then f u else u.answer (u.portStatus true false false false) []

/-- Accept a request: act, then answer with no data. -/
def Umbra.accept (u : Umbra) (f : Umbra → Umbra) : Umbra :=
  let u := f u
  u.answer (u.portStatus false false false false) []

/-- Refuse a request with its error bits. [DEDUCED, log 104] -/
def Umbra.refuse (u : Umbra) (ref bada busy : Bool) : Umbra := u.answer (u.portStatus false ref bada busy) []

/-- The parameter set that READ_PARAM shows: the shadow while the seal is open (R316). -/
def Umbra.shown (u : Umbra) : Store := match u.sealOpen, u.shadow with | true, some s => s | _, _ => u.params

/-- Sealed commands are accepted: the seal is open and the audit area is not full (R314, R326). -/
def Umbra.sealed (u : Umbra) : Bool := !u.sealOpen || u.afull

/-- STATUS. -/
def Umbra.cmdStatus (u : Umbra) : Umbra := u.answer (u.portStatus false false false false) (bytesOf (u.mailbox.take 32))

/-- A record slot as it is read: all zero when it is empty or torn (R314, R413). -/
def Umbra.slotRec (u : Umbra) (area : Nat) (ix : Nat) : List Word :=
  let r := if area = 0 then u.audit[ix]? else (u.data.find? (fun e => e.1 = ix)).map (·.2)
  let m := u.mark (if area = 0 then auditMark ix else dataMark ix)
  (r.filter (fun ws => m = commitWord ws)).getD (List.replicate 16 0)

/-- The words of a slot as their decoder delivers them, word i with its 28 stored bits changed by `errs[i]`; one word that
cannot be corrected makes the whole slot read as zeros (R314). -/
def slotShown (ws : List Word) (errs : List (BitVec 28)) : List Word :=
  let ds := ws.mapIdx (fun i w => decode28 (encode28 w ^^^ errs.getD i 0))
  if ds.any (fun x => x = .bad) then List.replicate ws.length 0 else ds.map Decoded.value

/-- READ_SLOT (R314, R326). [DESIGN CHOICE, log 19] -/
def Umbra.cmdReadSlot (u : Umbra) (area ix : Nat) (errs : List (BitVec 28)) : Umbra :=
  if (area = 0 ∧ ix < 512) ∨ (area = 1 ∧ ix < 7424) then
    u.answer (u.portStatus false false false false) (bytesOf (slotShown (u.slotRec area ix) errs))
  else u.refuse false true false

/-- A parameter as READ_PARAM returns it: a word of the committed set as its decoder delivers it, with its 28 stored
bits changed by `err`, 0 where that cannot be corrected; a word of the shadow as it stands (R316, R408). -/
def Umbra.paramShown (u : Umbra) (a : Nat) (err : BitVec 28) : Word :=
  if !paramListed a then 0
  else if (u.sealOpen && u.shadow.isSome) || err = 0 then param u.shown a
  else (u.setWord a err).2.value

/-- READ_PARAM; word i of the answer is read with `errs[i]`. [DESIGN CHOICE, log 19] -/
def Umbra.cmdReadParam (u : Umbra) (a n : Nat) (errs : List (BitVec 28)) : Umbra :=
  if 1 ≤ n ∧ n ≤ 64 then
    u.answer (u.portStatus false false false false)
      (bytesOf ((List.range n).map (fun i => u.paramShown (a + i) (errs.getD i 0))))
  else u.refuse false true false

/-- Write words into a parameter set. -/
def putParams (p : Store) : Nat → List Word → Store
  | _, [] => p
  | a, w :: ws => putParams (p.set (fun _ => 0) a w) (a + 1) ws

/-- A WRITE_PARAM request of COUNT words, of which the host sent `ws` and then `crc`: with fewer words it is never
complete and has no effect, and with more the byte after the COUNT words is its CRC (R324). -/
def Umbra.requestWrite (u : Umbra) (addr : Word) (count : Byte) (ws : List Word) (crc : Byte) (f : List Word → Umbra → Umbra) :
    Umbra :=
  let n := count.toNat
  if ws.length < n then { u with resp := [] }
  else
    let sent := bytesOf ws ++ [crc]
    u.request ([4] ++ wordBytes addr ++ [count] ++ bytesOf (ws.take n)) (sent.getD (2 * n) crc) (f (ws.take n))

/-- WRITE_PARAM (R316, R320). -/
def Umbra.cmdWriteParam (u : Umbra) (a : Nat) (ws : List Word) : Umbra :=
  let bad := !(decide (1 ≤ ws.length ∧ ws.length ≤ 64) && (List.range ws.length).all (fun i => paramListed (a + i)))
  if u.sealed || bad then u.refuse u.sealed bad false
  else u.accept (fun u => { u with shadow := some (putParams (u.shadow.getD u.params) a ws) })

/-- WEIGH (R304). -/
def Umbra.cmdWeigh (u : Umbra) : Umbra :=
  if !u.runs || u.weigh.isSome then u.refuse (!u.runs) false u.weigh.isSome else u.accept (fun u => u.trigger 2)

/-- SET_TIME (R301, R302, R311). -/
def Umbra.cmdSetTime (u : Umbra) (t : BitVec 32) : Umbra :=
  if u.sealed then u.refuse true false false
  else
    u.accept (fun u =>
      let old := u.utime
      let u := { u with utime := t, rtcx := false }
      u.auditRec ([5, u.audcnt, lo16 old, hi16 old] ++ (words64 u.pdig).drop 2 ++ [0]))

/-- KEY (R321, R322). -/
def Umbra.cmdKey (u : Umbra) (ku : BitVec 128) (id : Word) : Umbra :=
  if u.sealed || u.key.isSome then u.refuse true false false
  else
    u.accept (fun u =>
      let u := { u with key := some ku, keyId := id, pdig := digest ku u.params }
      (u.powerRec true false u.utime).auditPdig 6 0)

/-- DIST_REC (R309). -/
def Umbra.cmdDistRec (u : Umbra) : Umbra := if u.runs then u.accept Umbra.distanceRec else u.refuse true false false

/-- A request of one command byte and its CRC (R324 to R326). The codes 0x02 to 0x04, 0x06 and 0x07 take arguments,
without which their request is never complete; an unknown code is answered BADA.
[DESIGN CHOICE, log 126; DEDUCED, log 104] -/
def Umbra.requestByte (u : Umbra) (op crc : Byte) : Umbra :=
  if op = 2 || op = 3 || op = 4 || op = 6 || op = 7 then { u with resp := [] }
  else
    u.request [op] crc (fun u =>
      if op = 1 then u.cmdStatus
      else if op = 5 then u.cmdWeigh
      else if op = 8 then u.cmdDistRec
      else u.refuse false true false)

end Sys2Proof.Machine
end

