-- ==== Sys2Proof/Machine/Lift.lean ====
section
/-! DEFINITION. How the meaning of a command acts on the state: on the module, on the module while ck_core runs, through a
register write of a master, or on the metrology island, whose only way out is the mailbox copy (R14, R43, R300). -/

namespace Sys2Proof.Machine

open Sys2Proof

/-- A change of the module outside the island. -/
def State.onDev (s : State) (f : Dev → Dev) : Host.Outcome State Fault Refusal := .next { s with dev := f s.dev }

/-- A change of the module that falls in a ck_core cycle: nothing while ck_core stands still (R35). -/
def State.onCore (s : State) (f : Dev → Dev) : Host.Outcome State Fault Refusal :=
  .next { s with dev := if s.dev.runs then f s.dev else s.dev }

/-- A register write by master k. -/
def State.write (s : State) (k : Master) (a : Nat) (v : Word) : Host.Outcome State Fault Refusal :=
  .next { s with dev := s.dev.fabWrite k a v }

/-- A change of the island. Its mailbox copies leave through the crossing; those pushed while RESET_N is low are lost.
[DEDUCED, log 105] -/
def State.onUmbra (s : State) (f : Umbra → Umbra) : Host.Outcome State Fault Refusal :=
  let u := f { s.umbra with out := [] }
  .next { s with
    umbra := s.umbra.settled u
    dev := if s.dev.resetN then { s.dev with mbxIn := s.dev.mbxIn ++ u.out } else s.dev }

/-- The copy of the record that the last command of the island has made still waits in the crossing. -/
def State.copyWaits (s : State) : Bool :=
  match s.dev.mbxIn.getLast? with
  | some c => s.umbra.last.isSome && c.getD 1 0 = s.umbra.updcnt
  | none => false

/-- That record can still turn out torn: no copy of it has reached the core. [DESIGN CHOICE, log 121] -/
def State.mayTear (s : State) : Bool := !s.dev.resetN || s.copyWaits

/-- The copy of a record that turns out torn was never pushed (R327, R413). -/
def State.withdrawn (s : State) : State :=
  if s.copyWaits then { s with dev := { s.dev with mbxIn := s.dev.mbxIn.dropLast } } else s

/-- VUMB fails, and a write that can be torn is, where the command says so (R314, R317, R322).
[DESIGN CHOICE, log 121] -/
def State.umbraLoss (s : State) (torn : Bool) (set : Option Nat) : Host.Outcome State Fault Refusal :=
  if (torn || set.isSome) && s.mayTear then s.withdrawn.onUmbra (fun u => u.loseSupply torn set)
  else s.onUmbra (fun u => u.loseSupply false)

end Sys2Proof.Machine
end

