-- ==== Sys2Proof/Machine/StartCmds.lean ====
section
/-! DEFINITION. The meanings of the commands of one part of the table: the start sequence, the configuration load and device faults (chapters 13 and 16). One definition per command; what each
does stands in the operations it calls. -/

namespace Sys2Proof.Machine

open Sys2Proof

/-- RESET_ASSERT: A low level on RESET_N for 10 µs or more holds every domain except Umbra in reset, switches D3–D9
off and holds TIME at 0 (R332) -/
def execResetAssert (lowNs : Nat) (s : State) (cut : CommitCut := .none) : Host.Outcome State Fault Refusal :=
  s.onDev (fun d => d.resetLow lowNs cut)

/-- RESET_RELEASE: The rise of RESET_N samples MIRROR_ID and begins the start sequence with the lock of PLL_CORE
(R334) -/
def execResetRelease (mirrorId : Bool) (s : State) : Host.Outcome State Fault Refusal :=
  s.onDev (fun d => d.resetHigh mirrorId)

/-- PLL_CORE_LOCK: The first lock of PLL_CORE after RESET_N starts TIME, the sub-count and TTICK, which ends start
step 1 (R34) -/
def execPllCoreLock (s : State) : Host.Outcome State Fault Refusal := s.onDev (fun d => d.firstLock.hostsResume)

/-- FUSE_READ_COMPLETE: Step 2 ends when the life-cycle, CFGFUSE, Prism factory and repair fuses have been read, and
D3 LOG begins its switch-on (R334) -/
def execFuseReadComplete (s : State) : Host.Outcome State Fault Refusal := s.onDev (fun d => d.fusesRead)

/-- LOG_MIRROR_LOAD_COMPLETE: Step 3 ends once the soft-repair table is applied and the trace-store and SESSION
mirrors are loaded; unreadable mirrors start at 0 and set LOGX (R335) -/
def execLogMirrorLoadComplete (badTrace badSession badRepair : Bool) (s : State) (finds : List LogFind := [])
    (slot : List (BitVec 28) := []) : Host.Outcome State Fault Refusal :=
  s.onDev (fun d => d.logLoaded badTrace badSession badRepair finds slot)

/-- RETURN_ERASE_COMPLETE: The erasure of both ferroelectric stores commits and sets LCSTAT.ERASED (R470) -/
def execReturnEraseComplete (s : State) : Host.Outcome State Fault Refusal := s.onDev (fun d => d.eraseDone)

/-- DISCOVERY_COMPLETE: JESD216 discovery ends and selects the read format, density and address width, or fails with
NOSFDP (R364) -/
def execDiscoveryComplete (sf : Sfdp) (s : State) : Host.Outcome State Fault Refusal :=
  s.onDev (fun d => d.discovered sf)

/-- PASS1_COMPLETE: Pass 1 over one slot ends with that slot judged valid or recorded in CFGERR (R342) -/
def execPass1Complete (slot : Fin 2) (words : List Word) (s : State) : Host.Outcome State Fault Refusal :=
  s.onDev (fun d => d.pass1 slot words)

/-- LOADER_WAIT_END: The pause of a WAIT section in pass 2 expires and loading continues (R341) -/
def execLoaderWaitEnd (words : List Word) (s : State) (reached : Bool := false) (errs : List (Addr × BitVec 28) := []) :
    Host.Outcome State Fault Refusal :=
  s.onDev (fun d => if reached then d.waitReached words errs else d.waitOver)

/-- PASS2_COMPLETE: Pass 2 ends; if the section CRCs or the MAC differ from pass 1, the loader stops with PARTIAL set
and declares a loader failure (R347) -/
def execPass2Complete (words : List Word) (s : State) (errs errs2 : List (Addr × BitVec 28) := []) :
    Host.Outcome State Fault Refusal :=
  s.onDev (fun d => d.pass2 words errs errs2)

/-- CONFIG_DONE: A CFGCMD write with DONE in WAITHOST or FAILED locks every table, sets READY, LOCK and SRC = 2, and
raises E55 (R352) -/
def execConfigDone (k : Master) (s : State) : Host.Outcome State Fault Refusal := s.write k (0x4B) (1)

/-- CONFIG_RELOAD: A CFGCMD write with RELOAD in WAITHOST or FAILED clears every RUN bit and restarts the start
sequence at step 4 (R352) -/
def execConfigReload (k : Master) (done : Bool) (s : State) : Host.Outcome State Fault Refusal :=
  s.write k (0x4B) (if done then 3 else 2)

/-- PLL_CORE_LOCK_LOSS: Loss of PLL_CORE lock stops ck_core and TIME, sets TGAP, and after 200 ns holds every ENABLE
low (R417) -/
def execPllCoreLockLoss (held : Bool) (s : State) : Host.Outcome State Fault Refusal :=
  s.onDev (fun d => d.coreLost held)

/-- PLL_CORE_LOCK_RETURN: When lock returns, the latched loss is handled as a PLL device fault at the first tick, and
running group timebases restart at frame tick 0 (R416) -/
def execPllCoreLockReturn (cut : Vector Bool 4) (s : State) : Host.Outcome State Fault Refusal :=
  s.onDev (fun d => (d.coreBack cut).hostsResume)

/-- DEVICE_FAULT: A device fault sets its DFCAUSE bit, stamps DFTIME, raises E54 and reaches every block within 4
ticks, each block acting as tabled (R418) -/
def execDeviceFault (finds : List DfFind) (cut : Vector Bool 4) (s : State) (fails : List BistFail := []) :
    Host.Outcome State Fault Refusal :=
  s.onCore (fun d => if finds = [] then d else (d.bistFound fails).fault finds cut)

/-- DEVICE_FAULT_HOLD_END: With AUTO at 1, motors held in FAULT by a device fault leave it once HOLD frames have
passed (R419) -/
def execDeviceFaultHoldEnd (m : MotorIx) (s : State) : Host.Outcome State Fault Refusal :=
  s.onDev (fun d => d.holdEnd m)

/-- SCRUB_READ: The scrubber reads the next word of configuration or state RAM in a free cycle, correcting, counting
or faulting on the result (R410) -/
def execScrubRead (err : BitVec 28) (s : State) (firsts : List RamFind := []) (cut : Vector Bool 4 := noCut) :
    Host.Outcome State Fault Refusal :=
  s.onCore (fun d => d.scrubTurn err firsts cut)

/-- CORRECTION_WRITEBACK: A corrected word is written back in the next free RAM cycle unless a newer write has
replaced it (R411) -/
def execCorrectionWriteback (s : State) : Host.Outcome State Fault Refusal := s.onCore (fun d => d.writeBack)

end Sys2Proof.Machine
end

