-- ==== Sys2Proof/Machine/MotorCmds.lean ====
section
/-! DEFINITION. The meanings of the commands of one part of the table: the group frame, the motors, the loops and the budget (chapters 01 to 05). One definition per command; what each
does stands in the operations it calls. -/

namespace Sys2Proof.Machine

open Sys2Proof

/-! ### The ends of times that are judged here -/

/-- The stability window after a RAMP handover ends (R92). -/
def Dev.stabilityOver (d : Dev) (m : MotorIx) : Dev :=
  if (d.mot m).stab.ended then d.onMot m (fun x => { x with stab := .off }) else d

/-- One second in RUN without a sync loss (R103). -/
def Dev.reccntOver (d : Dev) (m : MotorIx) : Dev :=
  let x := d.mot m
  if x.state = .run && x.rect.ended then d.onMot m (fun x => { x with reccnt := 0, rect := .off }) else d

/-- The host timeout ends: the host source becomes invalid, and the demand-timeout cause sets (R120). -/
def Dev.hostTimeout (d : Dev) (m : MotorIx) : Dev :=
  if (d.mot m).hostT.ended then
    ((d.onMot m (fun x => { x with hostT := .off, hostOk := false, hostNew := false })).putB (aMot m 0x101) 2 true).motCause m 8
  else d

/-! ### Meanings -/

/-- FRAME_START: The frame tick counter of a group wraps: duties, directions and grants are applied, feedback is
sampled and the per-frame checks run (R19) -/
def execFrameStart (g : GroupIx) (s : State) : Host.Outcome State Fault Refusal := s.onDev (fun d => d.frameStart g)

/-- APPLY_DEADLINE: At tick PERIOD − 16, a duty not yet ready leaves the old duty in force and sets LATE.APPLY (R28)
-/
def execApplyDeadline (g : GroupIx) (s : State) : Host.Outcome State Fault Refusal :=
  s.onDev (fun d => d.applyDeadline g)

/-- GRANT_POINT: The arbiter takes each slot's request and computes the grants of the motoring and regeneration pools
(R137) -/
def execGrantPoint (g : GroupIx) (s : State) : Host.Outcome State Fault Refusal :=
  s.onCore (fun d => if (d.grp g).running && !(d.grp g).granted && decide (d.grantTick g ≤ d.frameTick g) then d.grantOnce g else d)

/-- LOOP_COMPUTATION: A loop engine starts its frame computation once its FRAME inputs are visible, or at tick 0, and
delivers a request, duty and direction (R109) -/
def execLoopComputation (m : MotorIx) (s : State) : Host.Outcome State Fault Refusal :=
  s.onCore (fun d =>
    if (d.grp (grpOf m)).running && !(d.mot m).loopRun && d.inputsClosed m then (d.loop m).drive m else d)

/-- KISS_SEARCH_TIMEOUT: A kiss search that runs KTMAX ms without a candidate ends with KFAIL set (R129)
[DEDUCED, log 36] -/
def execKissSearchTimeout (m : MotorIx) (s : State) : Host.Outcome State Fault Refusal :=
  s.onCore (fun d => if d.searching m && (d.mot m).kiss.timer.ended then d.searchFails m else d)

/-- CARRIER_START: A slot's carrier period begins; the new duty, base code and CCFG settings take effect, refresh
counts update, and current and phase latches clear (R55) -/
def execCarrierStart (m : MotorIx) (s : State) : Host.Outcome State Fault Refusal :=
  s.onCore (fun d => d.carrierStart m)

/-- COMMUTATION: The commutation angle leaves its sector, and the new sector's pattern is applied within 2 ticks (R52)
-/
def execCommutation (m : MotorIx) (s : State) : Host.Outcome State Fault Refusal := s.onCore (fun d => d.commutation m)

/-- SAMPLE_TICK: At the sample tick of each carrier period, a sensorless engine samples its phase comparators (R94) -/
def execSampleTick (m : MotorIx) (u v w : Int) (s : State) : Host.Outcome State Fault Refusal :=
  s.onCore (fun d => d.sampleTick m u v w)

/-- ZC_WINDOW_CLOSE: ZWHI of D_p passes with no crossing found, so the crossing is missing and the sector fails (R96)
-/
def execZcWindowClose (m : MotorIx) (s : State) : Host.Outcome State Fault Refusal :=
  s.onCore (fun d => d.zcWindowClose m)

/-- ALIGN1_END: The ALIGN1 time expires and the engine drives sector ALSEC in ALIGN2 (R88) -/
def execAlign1End (m : MotorIx) (s : State) : Host.Outcome State Fault Refusal := s.onCore (fun d => d.align1End m)

/-- ALIGN2_END: The ALIGN2 time expires and RAMP starts at its initial forced angle (R90) -/
def execAlign2End (m : MotorIx) (s : State) : Host.Outcome State Fault Refusal := s.onCore (fun d => d.align2End m)

/-- RAMP_TIMEOUT: RHOLD ms at RSPD1 pass without handover, and the attempt fails with FAILR 1 (R92) -/
def execRampTimeout (m : MotorIx) (s : State) : Host.Outcome State Fault Refusal := s.onCore (fun d => d.rampTimeout m)

/-- STABILITY_WINDOW_END: STABT ms after a RAMP handover pass, after which a sync loss counts normally (R92) -/
def execStabilityWindowEnd (m : MotorIx) (s : State) : Host.Outcome State Fault Refusal :=
  s.onCore (fun d => d.stabilityOver m)

/-- BACKOFF_END: The back-off time expires and the next attempt begins in ALIGN1 (R93) -/
def execBackoffEnd (m : MotorIx) (s : State) : Host.Outcome State Fault Refusal := s.onCore (fun d => d.backoffEnd m)

/-- COAST_END: COASTT expires and the motor enters CATCH in LISTEN (R103) -/
def execCoastEnd (m : MotorIx) (s : State) : Host.Outcome State Fault Refusal := s.onCore (fun d => d.coastEnd m)

/-- CATCH_TIMEOUT: No catch edge arrives for CATT ms, so the catch speed is 0 and the motor starts from ALIGN1 or
brakes from REVPEND (R106) -/
def execCatchTimeout (m : MotorIx) (s : State) : Host.Outcome State Fault Refusal :=
  s.onCore (fun d => d.catchTimeout m)

/-- RECCNT_RESET: One second in RUN without a sync loss resets RECCNT to 0 (R103) -/
def execReccntReset (m : MotorIx) (s : State) : Host.Outcome State Fault Refusal := s.onCore (fun d => d.reccntOver m)

/-- BRAKE_END: BRKT frames of BRAKE pass; the drive direction takes the demanded one and the motor enters RUN or START
(R70) -/
def execBrakeEnd (m : MotorIx) (s : State) : Host.Outcome State Fault Refusal := s.onCore (fun d => d.brakeEnd m)

/-- MOTOR_ENABLE: A write of CTRL.EN = 1 enables the motor, which leaves IDLE at the next frame start (R48) -/
def execMotorEnable (k : Master) (m : MotorIx) (v : Word) (s : State) : Host.Outcome State Fault Refusal :=
  s.write k (aMot m 0) (withBit v 0 true)

/-- MOTOR_DISABLE: A write of CTRL.EN = 0 sends the motor to IDLE with FLOAT within 2 ticks and ends FAULT (R80) -/
def execMotorDisable (k : Master) (m : MotorIx) (v : Word) (s : State) : Host.Outcome State Fault Refusal :=
  s.write k (aMot m 0) (withBit v 0 false)

/-- FLT_CLEAR: A host write to MOT[m].FLT that leaves it at 0 ends FAULT; the motor resumes, unless a level report
sets the cause again (R74) -/
def execFltClear (k : Master) (m : MotorIx) (v : Word) (s : State) : Host.Outcome State Fault Refusal :=
  s.write k (aMot m 2) (v)

/-- CMD_EDGE: A filtered rising edge on CMDm completes a period, giving a new X and command validity (R76) -/
def execCmdEdge (m : MotorIx) (high : Nat) (s : State) : Host.Outcome State Fault Refusal :=
  s.onCore (fun d => d.cmdEdge m high)

/-- CMD_LOST_TIMEOUT: 200 ms pass without a complete period, so LOST is set and the command becomes invalid (R78) -/
def execCmdLostTimeout (m : MotorIx) (s : State) : Host.Outcome State Fault Refusal := s.onCore (fun d => d.cmdLost m)

/-- HDEM_WRITE: A committed write to HDEM makes the host source valid and restarts the host timeout (R120) -/
def execHdemWrite (k : Master) (m : MotorIx) (v : Word) (s : State) : Host.Outcome State Fault Refusal :=
  s.write k (aMot m 0x103) (v)

/-- HOST_DEMAND_TIMEOUT: HTO expires with no further HDEM write, so the host source becomes invalid and the demand-
timeout cause is set (R120) -/
def execHostDemandTimeout (m : MotorIx) (s : State) : Host.Outcome State Fault Refusal :=
  s.onCore (fun d => d.hostTimeout m)

/-- HREL: A write of 1 to HCTL.HREL makes the host source invalid at the next frame start, without the cause (R120) -/
def execHrel (k : Master) (m : MotorIx) (v : Word) (s : State) : Host.Outcome State Fault Refusal :=
  s.write k (aMot m 0x102) (withBit v 0 true)

/-- KISSREF_HI_WRITE: A committed write to KISSREF_HI loads KISS from KISSREF_HI and the stored KISSREF_LO (R128) -/
def execKissrefHiWrite (k : Master) (m : MotorIx) (v : Word) (s : State) : Host.Outcome State Fault Refusal :=
  s.write k (aMot m 0x158) (v)

end Sys2Proof.Machine
end

