-- ==== Sys2Proof/Machine/GateCmds.lean ====
section
/-! DEFINITION. The meanings of the commands of one part of the table: gate drivers, comparators and the chopper (chapters 06 to 08). One definition per command; what each
does stands in the operations it calls. -/

namespace Sys2Proof.Machine

open Sys2Proof

/-- DEAD_TIME_END: The dead time of 50 ticks since the partner switch was commanded off ends, and the selected switch
turns on (R154) -/
def execDeadTimeEnd (b : BridgeIx) (s : State) : Host.Outcome State Fault Refusal :=
  s.onCore (fun d => d.deadTimeOver b)

/-- BLANKING_END: The desaturation blanking of a switch ends, and its VDS comparison and filter start (R167) -/
def execBlankingEnd (b : BridgeIx) (s : State) (vds : Int := 0) : Host.Outcome State Fault Refusal :=
  s.onCore (fun d => d.blankingOver b vds)

/-- DESAT_DETECT: VDS has stayed above threshold for 20 ticks after blanking, so the DESATH or DESATL flag sets and
the count increments (R167) -/
def execDesatDetect (b : BridgeIx) (s : State) (vds : Int := 0) : Host.Outcome State Fault Refusal :=
  s.onCore (fun d => d.desat b vds)

/-- BOOTSTRAP_UV_ASSERT: BSTb − SWb has stayed below 7.5 V for 500 ns with the high side on, so BSUV asserts, the flag
sets and BSCNT counts (R164) -/
def execBootstrapUvAssert (b : BridgeIx) (s : State) : Host.Outcome State Fault Refusal :=
  s.onCore (fun d => d.bootLow b)

/-- BOOTSTRAP_UV_RELEASE: The bootstrap condition releases when the difference rises above 8.0 V or the high side
turns off, ending the BSUV report (R164) -/
def execBootstrapUvRelease (b : BridgeIx) (s : State) : Host.Outcome State Fault Refusal :=
  s.onCore (fun d => d.bootOk b)

/-- GATE_SUPPLY_UV_ASSERT: VGDg has stayed below 8.5 V for 1 µs, so GDUV asserts, FLT.GDUV and UVTIME are set, and all
four motors receive the report (R161) -/
def execGateSupplyUvAssert (g : GroupIx) (s : State) : Host.Outcome State Fault Refusal :=
  s.onCore (fun d => d.supplyLow g)

/-- GATE_SUPPLY_UV_RELEASE: VGDg has stayed above 9.0 V for 1 µs, so the GDUV condition and report end (R161) -/
def execGateSupplyUvRelease (g : GroupIx) (s : State) : Host.Outcome State Fault Refusal :=
  s.onCore (fun d => d.supplyOk g)

/-- GATE_REPORT_DELIVERY: A die report reaches the commutation engine, which sets the cause of E0+m and applies the
FPOL code (R177) -/
def execGateReportDelivery (s : State) : Host.Outcome State Fault Refusal := s.onCore (fun d => d.deliverReport)

/-- GATE_SUPPLY_LOSS: VGDg falling below 4.5 V clears RDY; the die holds its gates off and masks reports, and the
Glint latches clear (R181) -/
def execGateSupplyLoss (g : GroupIx) (s : State) : Host.Outcome State Fault Refusal := s.onDev (fun d => d.supplyLost g)

/-- GATE_DIE_READY: The die completes its start 200 µs after switch-on or supply return, and sets GD.GRP[g].STAT.RDY
(R179) -/
def execGateDieReady (g : GroupIx) (s : State) : Host.Outcome State Fault Refusal := s.onCore (fun d => d.dieReady g)

/-- CURRENT_LIMIT_LATCH: The current comparator output rises after LEB, so the current latch sets, the on-time ends,
CLCNT counts and GLOm rises (R201) -/
def execCurrentLimitLatch (m : MotorIx) (s : State) (x : Int := 0) : Host.Outcome State Fault Refusal :=
  s.onCore (fun d => d.currentLimit m x)

/-- LEADING_EDGE_BLANKING_END: LEB × 100 ns after a comparator on-time starts, the current latch begins to be
evaluated (R201) -/
def execLeadingEdgeBlankingEnd (m : MotorIx) (s : State) : Host.Outcome State Fault Refusal :=
  s.onCore (fun d => d.lebOver m)

/-- HARD_SHORT_LATCH: The hard-short comparator output rises, so its latch sets and becomes the HSHORT report (R204)
-/
def execHardShortLatch (m : MotorIx) (s : State) (x : Int := 0) : Host.Outcome State Fault Refusal :=
  s.onCore (fun d => d.hardShort m x)

/-- BUS_COMPARATOR_LATCH: The bus comparator output rises, so the latch sets and BCNT increments (R206) -/
def execBusComparatorLatch (g : GroupIx) (s : State) (x : Int := 0) : Host.Outcome State Fault Refusal :=
  s.onCore (fun d => d.busLatch g x)

/-- GLINT_CHECK_OFF: A write of CHK.MODE 0 ends any comparator self-check (R209) -/
def execGlintCheckOff (k : Master) (v : Word) (s : State) : Host.Outcome State Fault Refusal :=
  s.write k (0x70A0) (withBits v 10 8 0)

/-- GLINT_DAC_READBACK: A write of CHK.MODE 1 routes the named threshold DAC to the GDAC channel of its array (R209)
-/
def execGlintDacReadback (k : Master) (v : Word) (s : State) : Host.Outcome State Fault Refusal :=
  s.write k (0x70A0) (withBits v 10 8 1)

/-- GLINT_SWAP: A write of CHK.MODE 2 exchanges the named comparator's inputs, on the OTL-9616 with the motor in IDLE
(R210) -/
def execGlintSwap (k : Master) (v : Word) (s : State) : Host.Outcome State Fault Refusal :=
  s.write k (0x70A0) (withBits v 10 8 2)

/-- GLINT_TIE_LOW: A write of CHK.MODE 3 ties the named comparator's input below code 0 (R210) -/
def execGlintTieLow (k : Master) (v : Word) (s : State) : Host.Outcome State Fault Refusal :=
  s.write k (0x70A0) (withBits v 10 8 3)

/-- GLINT_TIE_HIGH: A write of CHK.MODE 4 ties the named comparator's input above code 1 023 (R210) -/
def execGlintTieHigh (k : Master) (v : Word) (s : State) : Host.Outcome State Fault Refusal :=
  s.write k (0x70A0) (withBits v 10 8 4)

/-- CHOPPER_FEEDBACK_TIMEOUT: BRKg and BRKFBg agree for 400 ticks, which declares CHOPNF or CHOPSTK, raises E16+g and
counts CHOPCNT (R193) -/
def execChopperFeedbackTimeout (g : GroupIx) (fb : Bool) (s : State) : Host.Outcome State Fault Refusal :=
  s.onCore (fun d => d.chopTimeout g fb)

/-- CHOPPER_TEST_PULSE: A write of TEST.GO at level 0 with CHOPEN at 1 drives BRKg high for TW µs (R194) -/
def execChopperTestPulse (k : Master) (g : GroupIx) (v : Word) (s : State) : Host.Outcome State Fault Refusal :=
  s.write k (aSup g 0xD) (withBit v 15 true)

/-- CHOPPER_TEST_PULSE_END: TW µs of TIME pass and the test pulse ends (R194) -/
def execChopperTestPulseEnd (g : GroupIx) (s : State) : Host.Outcome State Fault Refusal :=
  s.onCore (fun d => d.testPulseOver g)

end Sys2Proof.Machine
end

