-- ==== Sys2Proof/Machine/PrismCmds.lean ====
section
/-! DEFINITION. The meanings of the commands of one part of the table: the converter arrays (chapter 09). One definition per command; what each
does stands in the operations it calls. -/

namespace Sys2Proof.Machine

open Sys2Proof

/-- CONVERSION_SLOT: A conversion slot starts and its slice samples the next sequence, urgent or CAL sample (R212) -/
def execConversionSlot (p : GroupIx) (s : State) : Host.Outcome State Fault Refusal :=
  s.onDev (fun d => if d.prmReady p then (d.slot p).thermFeed p else d)

/-- SAMPLE_ENTRY: A corrected conversion result enters its accumulator 450 ns after its slot start, and trackers watch
it (R213) -/
def execSampleEntry (p : GroupIx) (raw : Word) (s : State) : Host.Outcome State Fault Refusal :=
  s.onDev (fun d => d.sample p raw)

/-- ACCUMULATOR_CLOSE: A count completes (FREE) or reaches its close point (FRAME); VAL, STAT and CNT update and a new
count begins (R236) -/
def execAccumulatorClose (p : GroupIx) (a : Fin 64) (s : State) : Host.Outcome State Fault Refusal :=
  s.onCore (fun d => d.closeDue p a)

/-- SYNC_TICK: The frame tick of a SYNC entry is reached, and the entry starts in the first slot at least 3 ck_prism
clocks later (R226) -/
def execSyncTick (p : GroupIx) (s : State) : Host.Outcome State Fault Refusal := s.onCore (fun d => d.syncCome p)

/-- IDLE_ENTRY_END: The idle time of an IDLE entry expires and the sequencer continues with the next entry (R230) -/
def execIdleEntryEnd (p : GroupIx) (s : State) : Host.Outcome State Fault Refusal := s.onDev (fun d => d.idleOver p)

/-- SLICE_WAKE: Powered-down slices are woken 400 ns before an idle time ends, or at once for an urgent request (R230)
-/
def execSliceWake (p : GroupIx) (s : State) : Host.Outcome State Fault Refusal := s.onDev (fun d => d.wake p)

/-- SEQUENCER_RUN: A write of CTRL.RUN = 1 starts the sequence at entry 0, waiting for the next frame start when
frame-locked (R228) -/
def execSequencerRun (k : Master) (p : GroupIx) (v : Word) (s : State) : Host.Outcome State Fault Refusal :=
  s.write k (aPrm p 0) (withBit v 0 true)

/-- SEQUENCER_STOP: A write of CTRL.RUN = 0 stops the sequencer once the entry in progress has issued its samples
(R228) -/
def execSequencerStop (k : Master) (p : GroupIx) (v : Word) (s : State) : Host.Outcome State Fault Refusal :=
  s.write k (aPrm p 0) (withBit v 0 false)

/-- URGENT_REQUEST: A write to URQ queues a master urgent request, or sets UOVF when four are pending (R232) -/
def execUrgentRequest (k : Master) (p : GroupIx) (v : Word) (s : State) : Host.Outcome State Fault Refusal :=
  s.write k (aPrm p 5) (v)

/-- COEFFICIENT_UPDATE: Every 4 096 conversions, the interleaving coefficients move toward their estimates, or SKIP or
LIMIT is set (R220) -/
def execCoefficientUpdate (p : GroupIx) (s : State) : Host.Outcome State Fault Refusal :=
  s.onDev (fun d => if decide (4096 ≤ (d.prm p).conv) then d.coefUpdate p else d)

/-- TRACKER_RESTART: A write of TRK CFG.CLR = 1 restarts the min-max tracker (R242) -/
def execTrackerRestart (k : Master) (p : GroupIx) (t : Fin 32) (v : Word) (s : State) : Host.Outcome State Fault Refusal :=
  s.write k (aTrk p t 0) (withBit v 15 true)

/-- PLL_PRISM_LOCK_LOSS: PLL_PRISM loses lock, so the array issues no slots, PLLOK reads 0 and the PLL cause is raised
(R245) -/
def execPllPrismLockLoss (s : State) : Host.Outcome State Fault Refusal := s.onDev (fun d => d.prismLost)

/-- PLL_PRISM_LOCK_RETURN: On lock return the array discards partial counts, restarts its trackers and restarts the
sequence at entry 0 (R245) -/
def execPllPrismLockReturn (s : State) : Host.Outcome State Fault Refusal := s.onDev (fun d => d.prismReturns)

end Sys2Proof.Machine
end

