-- ==== Sys2Proof/Machine/FeedbackCmds.lean ====
section
/-! DEFINITION. The meanings of the commands of one part of the table: position feedback and the distance output (chapter 10). One definition per command; what each
does stands in the operations it calls. -/

namespace Sys2Proof.Machine

open Sys2Proof

/-- A period of ABSCHK ms of TIME ends: a check transfer is due. The transfer is the one with which a written ABSCHK takes
effect (R267, R275). [DEDUCED, log 60] -/
def Dev.absPeriod (d : Dev) (f : ChanIx) : Dev :=
  let ms := d.fld (aFb f 0x12) 7 0
  if decide (0 < d.cycles) && d.cycles % 200 = 0 && decide (0 < ms) && d.time.toNat % (1000 * ms) = 0 && decide (f.1 < 16) then
    d.onFb f (fun x => { x with periodDue := true })
  else d

/-- FEEDBACK_EDGE: A filtered rising edge on a feedback ball changes the count by its mode and updates the speed
(R253) -/
def execFeedbackEdge (f : ChanIx) (ball : Ball) (bHigh : Bool) (s : State) : Host.Outcome State Fault Refusal :=
  s.onCore (fun d => d.feedbackEdge f ball bHigh)

/-- GLITCH: A synchronised level reverts before passing the filter, so GLCNT counts it and the GLITCH cause sets at
GLMAX per 10 ms (R262) -/
def execGlitch (f : ChanIx) (s : State) : Host.Outcome State Fault Refusal := s.onCore (fun d => d.glitch f)

/-- SPEED_DECAY: At each µs with no edge beyond the last interval, the speed magnitude is limited to 3.2e9 / e (R260)
-/
def execSpeedDecay (f : ChanIx) (s : State) : Host.Outcome State Fault Refusal := s.onCore (fun d => d.speedDecay f)

/-- ZERO_SPEED_TIMEOUT: ZTO ms without an edge sets SPD to 0 and STAT.ZERO (R260) -/
def execZeroSpeedTimeout (f : ChanIx) (s : State) : Host.Outcome State Fault Refusal :=
  s.onCore (fun d => d.zeroSpeed f)

/-- POSITION_SEED: A write of CMD.SEED = 1 sets POS to the SEED value (R256) -/
def execPositionSeed (k : Master) (f : ChanIx) (v : Word) (s : State) : Host.Outcome State Fault Refusal :=
  s.write k (aFb f 0xD) (withBit v 0 true)

/-- ABS_CHECK_REQUEST: A write of CMD.CHECK = 1 starts one absolute check transfer at the next frame start (R267) -/
def execAbsCheckRequest (k : Master) (f : ChanIx) (v : Word) (s : State) : Host.Outcome State Fault Refusal :=
  s.write k (aFb f 0xD) (withBit v 1 true)

/-- ABS_CHECK_PERIOD: An ABSCHK period of TIME elapses and a check transfer is due at the next frame start (R267) -/
def execAbsCheckPeriod (f : ChanIx) (s : State) : Host.Outcome State Fault Refusal := s.onCore (fun d => d.absPeriod f)

/-- ABS_TRANSFER_COMPLETE: A transfer ends; a good word seeds, checks or predicts the count, and a bad one counts in
ABSERRCNT (R264) -/
def execAbsTransferComplete (f : ChanIx) (ready : Bool) (word : BitVec 32) (parity : Bool) (s : State) : Host.Outcome State Fault Refusal :=
  s.onCore (fun d => d.absComplete f ready word parity)

/-- LEAVE_FALLBACK: A write of CMD.PULSE = 1 requests one transfer whose good word returns the channel to pulse
counting (R271) -/
def execLeaveFallback (k : Master) (f : ChanIx) (v : Word) (s : State) : Host.Outcome State Fault Refusal :=
  s.write k (aFb f 0xD) (withBit v 2 true)

/-- DIST_OUT_ENABLE: Setting DCFG.EN clears the phase accumulator, DCNT and DLTOT and starts the distance output
(R272) -/
def execDistOutEnable (k : Master) (v : Word) (s : State) : Host.Outcome State Fault Refusal :=
  s.write k (0xA308) (withBit v 15 true)

/-- DIST_PULSE_END: PW µs after its start, the DIST_OUT pulse ends and the output goes low (R273) -/
def execDistPulseEnd (s : State) : Host.Outcome State Fault Refusal := s.onCore (fun d => d.distPulseEnd)

/-- DIST_GAP_END: After PW µs low, the next backlogged pulse may start (R273) -/
def execDistGapEnd (s : State) : Host.Outcome State Fault Refusal := s.onCore (fun d => d.distGapEnd)

end Sys2Proof.Machine
end

