-- ==== Sys2Proof/Machine/TraceCmds.lean ====
section
/-! DEFINITION. The meanings of the commands of one part of the table: traces and the trace store (chapter 11). One definition per command; what each
does stands in the operations it calls. -/

namespace Sys2Proof.Machine

open Sys2Proof

/-- Offset of the register that a channel configuration write names. -/
def traceRegOff : TraceReg → Nat
  | .src => 0
  | .tag => 1
  | .rate => 2

/-- TRACE_TICK: TIME reaches a multiple of 10 000 µs; due channels sample, check alarms and run the compressor (R277),
after a session that opens in the same cycle (R354) -/
def execTraceTick (s : State) : Host.Outcome State Fault Refusal :=
  s.onCore (fun d => if d.tickNow then d.cplTurn.traceTick else d)

/-- TRACE_RECORD_COMMIT: The next queued record commits to slot WPTR, or is discarded, and the store counters update
(R290) -/
def execTraceRecordCommit (s : State) : Host.Outcome State Fault Refusal := s.onCore (fun d => d.commitRec)

/-- HOST_FED_WRITE: A committed write to HIN[t] makes the host-fed sample present and restarts its HFTO timeout (R280)
-/
def execHostFedWrite (k : Master) (t : TraceIx) (v : Word) (s : State) : Host.Outcome State Fault Refusal :=
  s.write k (0xB400 + t.1) (v)

/-- TRACE_CHANNEL_ENABLE: Setting SRC.EN starts the channel at the next trace tick with START pending (R287) -/
def execTraceChannelEnable (k : Master) (t : TraceIx) (v : Word) (s : State) : Host.Outcome State Fault Refusal :=
  s.write k (aTr t 0) (withBit v 15 true)

/-- TRACE_CHANNEL_DISABLE: Clearing SRC.EN writes the open segment and stops the channel (R287) -/
def execTraceChannelDisable (k : Master) (t : TraceIx) (v : Word) (s : State) : Host.Outcome State Fault Refusal :=
  s.write k (aTr t 0) (withBit v 15 false)

/-- TRACE_CHANNEL_CONFIG: A write to SRC, TAG.E or RATE.DIV takes effect at the next sample with CFG pending (R287) -/
def execTraceChannelConfig (k : Master) (t : TraceIx) (reg : TraceReg) (v : Word) (s : State) : Host.Outcome State Fault Refusal :=
  s.write k (aTr t (traceRegOff reg)) (if reg = .src then withBit v 15 (s.dev.bit (aTr t 0) 15) else v)

/-- TRACE_MARK: A CMD write with MARK at 1 makes a MARK continuity anchor pending on the channel (R283) -/
def execTraceMark (k : Master) (v : Word) (s : State) : Host.Outcome State Fault Refusal :=
  s.write k (0xB482) (withBit v 15 true)

/-- TRACE_STORE_EMPTY: A CMD write with EMPTY at 1 empties every slot, resets WPTR, WRAP and FULL and moves READABLE
to DISC (R291) -/
def execTraceStoreEmpty (k : Master) (v : Word) (s : State) : Host.Outcome State Fault Refusal :=
  s.write k (0xB482) (withBit v 14 true)

/-- TRACE_STORE_READ: A read of a store word returns it, latching W1–W3 on a W0 read; an uncorrectable word empties
the slot (R289) -/
def execTraceStoreRead (k : Master) (a : Addr) (errs : List (BitVec 28)) (s : State) : Host.Outcome State Fault Refusal :=
  s.onDev (fun d => d.storeRead k a errs)

end Sys2Proof.Machine
end

