-- ==== Sys2Proof/Machine/UmbraCmds.lean ====
section
/-! DEFINITION. The meanings of the commands of one part of the table: the metrology island and its mailbox (chapter 12). One definition per command; what each
does stands in the operations it calls. -/

namespace Sys2Proof.Machine

open Sys2Proof

/-! ### The mailbox copy on the core side (R43, R327 to R329) -/

/-- The oldest mailbox copy completes its crossing (R43, R329). [DEDUCED, log 105] -/
def Dev.mailboxTake (d : Dev) : Dev :=
  match d.mbxIn with
  | [] => d
  | c :: rest =>
    let first := !d.bit 0xC040 0
    let (so, aud) := (d.bit 0xC000 14, d.w 0xC00D)
    let d := { d with mbxIn := rest, mbxAt := d.cycles }
    let d := (d.each (List.range 48) (fun d i => d.put (0xC000 + i) (c.getD i 0))).raise 48
    let chg := if first then d.bit 0xC000 14 else (d.bit 0xC000 14 != so || d.w 0xC00D != aud)
    let d := (d.putB 0xC040 0 true).putB 0xC040 1 false
    if chg then d.cause 0xC040 4 49 else d

/-- No copy has come for two seconds of TIME (R329). [DEDUCED, log 105] -/
def Dev.mailboxOld (d : Dev) : Dev := if d.mbxAt + 400000000 ≤ d.cycles then d.putB 0xC040 1 true else d

/-- The bytes of SET_TIME, most significant first (R324). -/
def timeBytes (t : BitVec 32) : List Byte := [t.extractLsb' 24 8, t.extractLsb' 16 8, t.extractLsb' 8 8, t.extractLsb' 0 8]

/-! ### Meanings -/

/-- WHEEL_PULSE: A filtered rising edge on UW0 or UW1 adds Kk to DUMk by a two-phase write (R307) -/
def execWheelPulse (i : Fin 2) (s : State) : Host.Outcome State Fault Refusal := s.onUmbra (fun u => u.pulse i)

/-- UMBRA_CONVERSION: A 5 ms sigma-delta conversion of the next UA input ends (R303) -/
def execUmbraConversion (code : Word) (s : State) : Host.Outcome State Fault Refusal :=
  s.onUmbra (fun u => u.convert code.toNat)

/-- STILL: STILLT s pass without a counted pulse, so Umbra is still and may start an automatic weighing (R304) -/
def execStill (s : State) : Host.Outcome State Fault Refusal := s.onUmbra (fun u => u.becomeStill)

/-- DISTANCE_RECORD_HOUR: At a whole hour of UTIME with DIST advanced, a distance record is written, with DISCREP when
the inputs disagree (R309) -/
def execDistanceRecordHour (s : State) : Host.Outcome State Fault Refusal := s.onUmbra (fun u => u.hour)

/-- UMBRA_COUPLING_QUALIFY: A CPL_DET level held 200 ms writes a coupling record OPEN, incrementing CPLCNT, or CLOSE
(R310) -/
def execUmbraCouplingQualify (level : Bool) (s : State) : Host.Outcome State Fault Refusal :=
  s.onUmbra (fun u => u.coupling level)

/-- SEAL_OPEN: SEAL_N held low 100 ms increments AUDCNT, writes an OPEN audit record, copies the shadow and enables
writes (R315) -/
def execSealOpen (s : State) : Host.Outcome State Fault Refusal := s.onUmbra (fun u => u.open)

/-- SEAL_CLOSE: A qualified closing compares the shadow and writes a CLOSE, COMMIT or REJECT audit record (R317) -/
def execSealClose (s : State) : Host.Outcome State Fault Refusal := s.onUmbra (fun u => u.close)

/-- UTIME_SECOND: UTIME counts one second; the last-alive time is written and the mailbox is pushed (R322) -/
def execUtimeSecond (s : State) : Host.Outcome State Fault Refusal := s.onUmbra (fun u => u.second)

/-- RTC_STOP: The oscillator-stop detector finds ck_rtc stopped or VRTC low, which sets RTCX (R302) -/
def execRtcStop (s : State) : Host.Outcome State Fault Refusal := s.onUmbra (fun u => u.stopRtc)

/-- UMBRA_START: VUMB enters range; Umbra reads its parameters, checks PDIG, resumes UTIME and writes a power record
(R322) -/
def execUmbraStart (bistOk : Bool) (s : State) (errs : List (Nat × BitVec 28) := []) : Host.Outcome State Fault Refusal :=
  s.onUmbra (fun u => u.start bistOk errs)

/-- UMBRA_SUPPLY_LOSS: VUMB falls out of range; counting stops and an open shadow is lost (R317) -/
def execUmbraSupplyLoss (s : State) (torn : Bool := false) (set : Option Nat := none) : Host.Outcome State Fault Refusal :=
  s.umbraLoss torn set

/-- STATUS: Umbra port command 0x01 returns mailbox words 0x00–0x1F (R326); `op` is the command byte that the host sends, so
that an unknown one is carried too (R325) [DESIGN CHOICE, log 126] -/
def execStatus (crc : Byte) (s : State) (op : Byte := 1) : Host.Outcome State Fault Refusal :=
  s.onUmbra (fun u => u.requestByte op crc)

/-- READ_SLOT: Umbra port command 0x02 returns one audit or data record slot (R326) -/
def execReadSlot (area : Byte) (index : Word) (crc : Byte) (s : State) (errs : List (BitVec 28) := []) :
    Host.Outcome State Fault Refusal :=
  s.onUmbra (fun u => u.request ([2, area] ++ wordBytes index) crc (fun u => u.cmdReadSlot area.toNat index.toNat errs))

/-- READ_PARAM: Umbra port command 0x03 returns parameter words, from the shadow while the seal is open (R326) -/
def execReadParam (addr : Word) (count : Byte) (crc : Byte) (s : State) (errs : List (BitVec 28) := []) :
    Host.Outcome State Fault Refusal :=
  s.onUmbra (fun u => u.request ([3] ++ wordBytes addr ++ [count]) crc (fun u => u.cmdReadParam addr.toNat count.toNat errs))

/-- WRITE_PARAM: Umbra port command 0x04 changes shadow parameter words while the seal is open and AFULL is 0 (R316)
-/
def execWriteParam (addr : Word) (count : Byte) (ws : List Word) (crc : Byte) (s : State) : Host.Outcome State Fault Refusal :=
  s.onUmbra (fun u => u.requestWrite addr count ws crc (fun ws u => u.cmdWriteParam addr.toNat ws))

/-- WEIGH: Umbra port command 0x05 starts a weighing, or is answered BUSY or refused (R304) -/
def execWeigh (crc : Byte) (s : State) : Host.Outcome State Fault Refusal :=
  s.onUmbra (fun u => u.request [5] crc Umbra.cmdWeigh)

/-- SET_TIME: Umbra port command 0x06 sets UTIME under an open seal, writes a TIME audit record and clears RTCX (R301)
-/
def execSetTime (t : BitVec 32) (crc : Byte) (s : State) : Host.Outcome State Fault Refusal :=
  s.onUmbra (fun u => u.request (6 :: timeBytes t) crc (fun u => u.cmdSetTime t))

/-- KEY: Umbra port command 0x07 programs K_U and KEYID once, blows the key fuse and writes the first power and KEY
audit records (R321) -/
def execKey (ku : BitVec 128) (id : Word) (crc : Byte) (s : State) : Host.Outcome State Fault Refusal :=
  s.onUmbra (fun u => u.request (7 :: bytes128 ku ++ wordBytes id) crc (fun u => u.cmdKey ku id))

/-- DIST_REC: Umbra port command 0x08 writes a distance record (R309) -/
def execDistRec (crc : Byte) (s : State) : Host.Outcome State Fault Refusal :=
  s.onUmbra (fun u => u.request [8] crc Umbra.cmdDistRec)

/-- MAILBOX_UPDATE: An Umbra mailbox update completes its crossing into the core copy and raises E48, with SEALCHG and
E49 on a seal change (R43) -/
def execMailboxUpdate (s : State) : Host.Outcome State Fault Refusal := s.onCore (fun d => d.mailboxTake)

/-- MAILBOX_STALE: No mailbox copy arrives for 2 000 000 µs, so CSTAT.STALE reads 1 (R329) -/
def execMailboxStale (s : State) : Host.Outcome State Fault Refusal := s.onCore (fun d => d.mailboxOld)

end Sys2Proof.Machine
end

