-- ==== Sys2Proof/Machine/PortCmds.lean ====
section
/-! DEFINITION. The meanings of the commands of one part of the table: coupling sessions, the memory port, the host ports and the Mirror link (chapters 13 to 17). One definition per command; what each
does stands in the operations it calls. -/

namespace Sys2Proof.Machine

open Sys2Proof

/-- COUPLING_SESSION_OPEN: A qualified CPL_DET rise increments SESSION, sets CPL and CPLTIME, raises E56 and resets
the session-bound state (R354) -/
def execCouplingSessionOpen (s : State) (qualified : Bool := true) : Host.Outcome State Fault Refusal :=
  s.onDev (fun d => d.cplEvent true qualified)

/-- COUPLING_SESSION_CLOSE: A qualified CPL_DET fall clears CPL, records CPLTIME and raises E57 (R355) -/
def execCouplingSessionClose (s : State) (qualified : Bool := true) : Host.Outcome State Fault Refusal :=
  s.onDev (fun d => d.cplEvent false qualified)

/-- PENDING_COUPLING_APPLY: A coupling edge held pending before READY opens or closes the session in the cycle after
READY (R356) -/
def execPendingCouplingApply (s : State) : Host.Outcome State Fault Refusal := s.onCore (fun d => d.applyPending)

/-- QUEUE_RUN_START: A write of QRUN with START at 1 runs queue entries FIRST to LAST in order (R368) -/
def execQueueRunStart (k : Master) (v : Word) (s : State) : Host.Outcome State Fault Refusal :=
  s.write k (0xD005) (withBit v 15 true)

/-- QUEUE_ENTRY_COMPLETE: A queue entry's frame ends, DONE sets with RES, and the next entry begins (R368) -/
def execQueueEntryComplete (bytes : List Byte) (s : State) : Host.Outcome State Fault Refusal :=
  s.onCore (fun d => d.entryComplete bytes)

/-- QUEUE_ABORT: A write of QRUN.ABORT stops the run at the next falling MCLK edge and releases the select (R370) -/
def execQueueAbort (k : Master) (v : Word) (s : State) : Host.Outcome State Fault Refusal :=
  s.write k (0xD005) (withBit v 14 true)

/-- RAW_SELECT: A write to RAW sets or releases raw control of MCS0_N and MCS1_N (R371) -/
def execRawSelect (k : Master) (v : Word) (s : State) : Host.Outcome State Fault Refusal := s.write k (0xD004) (v)

/-- WINDOW_READ: A read of the memory-port window returns from a prefetch buffer, or starts a line fill on a miss
(R372) -/
def execWindowRead (k : Master) (a : Addr) (s : State) (err : BitVec 28 := 0) : Host.Outcome State Fault Refusal :=
  s.onDev (fun d => d.readWord k (0x800000 ||| a) err)

/-- LINE_FILL_COMPLETE: A 64-byte line fill completes and may start a next-line prefetch (R373) -/
def execLineFillComplete (bytes : List Byte) (s : State) : Host.Outcome State Fault Refusal :=
  s.onCore (fun d => (d.fillComplete bytes).winReturned)

/-- WINDOW_TIMEOUT: A window read not served within WTO µs returns 0x0000 and sets FLAGS.WTOUT (R375) -/
def execWindowTimeout (s : State) : Host.Outcome State Fault Refusal := s.onCore (fun d => d.winTimeout.winReturned)

/-- FLASH_MASTER_START: After MCS1_N has been high for the arbitration time, the port begins mastering the shared
flash (R376) -/
def execFlashMasterStart (s : State) (highFor : Nat := 0) : Host.Outcome State Fault Refusal :=
  s.onCore (fun d => d.masterStart highFor)

/-- MULTI_MASTER_FAULT: MCS1_N falls while the port masters, so the port leaves the flash, sets MMF, counts MMFCNT,
raises E52 and discards the frame (R377) -/
def execMultiMasterFault (s : State) : Host.Outcome State Fault Refusal := s.onCore (fun d => d.multiMaster.winReturned)

/-- READ: A host READ transaction returns consecutive words and applies each fully sent word's side effect (R389) -/
def execRead (k : HostIx) (a : BitVec 6) (n : Nat) (late : List Nat) (c1 : Byte) (s : State) (flips : List Flip := [])
    (rise : HostRise := .done) (fault : Option (Nat × List DfFind) := none) : Host.Outcome State Fault Refusal :=
  s.onDev (fun d => d.hostRead k a n late flips c1 rise fault)

/-- WRITE: A host WRITE transaction commits its words, at once or after a correct C2 (R392) -/
def execWrite (k : HostIx) (a : BitVec 6) (ws : List Word) (c1 c2 : Byte) (s : State) (flips : List Flip := [])
    (rise : HostRise := .done) (fault : Option (Nat × List DfFind) := none) : Host.Outcome State Fault Refusal :=
  s.onDev (fun d => d.hostWrite k a ws flips c1 c2 rise fault)

/-- PAGE: A host PAGE transaction sets the port's 18-bit page register (R384) -/
def execPage (k : HostIx) (a : BitVec 6) (w : Word) (c1 c2 : Byte) (s : State) (more : List Word := [])
    (rise : HostRise := .done) (fault : Option (Nat × List DfFind) := none) : Host.Outcome State Fault Refusal :=
  s.onDev (fun d => d.hostPage k a w more c1 c2 rise fault)

/-- NOP: A host NOP transaction returns status bytes and does nothing else (R384); `a` is the offset of its SPECIAL byte,
and `more` says how many status bytes the host clocks after the first (R385) -/
def execNop (k : HostIx) (c1 : Byte) (s : State) (a : BitVec 6 := 0) (rise : HostRise := .done) (more : Nat := 0) :
    Host.Outcome State Fault Refusal :=
  s.onDev (fun d => d.hostSpecial k a c1 rise more)

/-- GETPAGE: A host GETPAGE transaction returns the page register in two words (R384) -/
def execGetpage (k : HostIx) (c1 : Byte) (s : State) (rise : HostRise := .done) : Host.Outcome State Fault Refusal :=
  s.onDev (fun d => d.hostGetpage k c1 rise)

/-- LANERESET: A command byte 0xFF sets CL and DL to one lane and CRCEN to 0 at the rise of HCSk_N (R395) -/
def execLanereset (k : HostIx) (s : State) : Host.Outcome State Fault Refusal := s.onDev (fun d => d.hostLanes k)

/-- HOST_FRAMING_FAULT: HCSk_N rises at a point that breaks the transaction, which sets FRAME, raises E28+k and counts
FRCNT (R394) -/
def execHostFramingFault (k : HostIx) (point : FramePoint) (s : State) (c1Wrong : Bool := false) :
    Host.Outcome State Fault Refusal :=
  s.onDev (fun d => d.hostFraming k point c1Wrong)

/-- DOORBELL_RING: A write to DBRING sets the writer's bit in DBCAUSE[i] and raises E62+i (R403) -/
def execDoorbellRing (k : Master) (v : Word) (s : State) : Host.Outcome State Fault Refusal := s.write k (0x80) (v)

/-- MIRROR_FRAME_SEND: Every 2 µs the transmitter samples the state block and sends a link frame with any request or
response (R429) -/
def execMirrorFrameSend (s : State) : Host.Outcome State Fault Refusal := s.onCore (fun d => d.mirrorSend)

/-- MIRROR_FRAME_RECEIVE: A received frame is checked; a good one replaces PS[0]–PS[31] and clears PSAGE, a bad one
sets an LCAUSE (R428) -/
def execMirrorFrameReceive (bytes : List Byte) (codeOk alignOk : Bool) (s : State) (flips : List Flip := []) :
    Host.Outcome State Fault Refusal :=
  s.onCore (fun d => d.mirrorReceive bytes codeOk alignOk flips)

/-- LINK_DOWN: LOSTN windows without a good frame take the link down; a fall of PRES sets LOST, raises E50 and counts
LOSTCNT (R432) -/
def execLinkDown (s : State) : Host.Outcome State Fault Refusal := s.onCore (fun d => d.linkFalls)

/-- PARTNER_REQUEST: A write of RQCMD.GO starts a partner request with the next TAG (R436) -/
def execPartnerRequest (k : Master) (v : Word) (s : State) : Host.Outcome State Fault Refusal :=
  s.write k (0xE803) (withBit v 15 true)

/-- PARTNER_REQUEST_TIMEOUT: 64 frames pass without a matching response, so the request ends with RES TIMEOUT (R437)
-/
def execPartnerRequestTimeout (s : State) : Host.Outcome State Fault Refusal := s.onCore (fun d => d.rqTimeout)

/-- RERATE_HOLD_EXPIRY: RETT ms pass, which starts re-rating of a lone module or ends re-rating once no condition has
held (R434) -/
def execRerateHoldExpiry (s : State) : Host.Outcome State Fault Refusal := s.onCore (fun d => d.rrExpiry)

end Sys2Proof.Machine
end

