-- ==== Sys2Proof/Machine/SystemCmds.lean ====
section
/-! DEFINITION. The meanings of the commands of one part of the table: events, thermal protection and power domains (chapters 18 and 19). One definition per command; what each
does stands in the operations it calls. -/

namespace Sys2Proof.Machine

open Sys2Proof

/-- ONE_SECOND_TICK: TIME reaches a multiple of 1 000 000 µs by counting, and E61 is raised (R442) -/
def execOneSecondTick (s : State) : Host.Outcome State Fault Refusal := s.onCore (fun d => d.secondTick)

/-- PEND_CLEAR: A W1C write to PEND[k] clears pending bits and, with REARM, pulses IRQk_N high for 1 µs (R448) -/
def execPendClear (k : Master) (host : HostIx) (q : Fin 4) (v : Word) (s : State) : Host.Outcome State Fault Refusal :=
  s.write k (aEvh host (4 + q.1)) (v)

/-- REARM_PULSE_END: The 1 µs rearm pulse ends and IRQk_N is asserted again (R448) -/
def execRearmPulseEnd (k : HostIx) (s : State) : Host.Outcome State Fault Refusal := s.onCore (fun d => d.rearmOver k)

/-- THERMAL_READING_PERIOD: A reading period of PER ms ends, and a thermal urgent request is made for each present
sensor (R453) -/
def execThermalReadingPeriod (s : State) : Host.Outcome State Fault Refusal := s.onCore (fun d => d.thermPeriod)

/-- THERMAL_READ_REQUEST: A write of CMD.READ requests one extra reading of each named sensor (R453) -/
def execThermalReadRequest (k : Master) (v : Word) (s : State) : Host.Outcome State Fault Refusal :=
  s.write k (0x1006) (v)

/-- THERMAL_SHUTDOWN_ASSERT: The qualified shutdown comparator holds its domains off within 1 µs, sets SCAUSE and
raises E26 (R460) -/
def execThermalShutdownAssert (sen : SensorIx) (s : State) : Host.Outcome State Fault Refusal :=
  s.onDev (fun d => d.shutdown sen)

/-- THERMAL_SHUTDOWN_RELEASE: A qualified release sets RCAUSE, raises E27 and returns the domains to POWER.REQ (R460)
-/
def execThermalShutdownRelease (sen : SensorIx) (s : State) : Host.Outcome State Fault Refusal :=
  s.onDev (fun d => d.shutdownOver sen)

/-- POWER_REQUEST_WRITE: A write to POWER.REQ switches domains off at once and queues switch-ons (R461) -/
def execPowerRequestWrite (k : Master) (v : Word) (s : State) : Host.Outcome State Fault Refusal :=
  s.write k (0x800) (v)

/-- DOMAIN_SWITCH_ON: The next requested domain starts its switch-on, at least 10 µs after the previous one, setting
POWER.CAUSE and raising E58 (R462) -/
def execDomainSwitchOn (n : Fin 10) (s : State) : Host.Outcome State Fault Refusal :=
  s.onDev (fun d => if d.domMayStart n then d.domStart n else d)

/-- DOMAIN_READY: A domain becomes ready after its start-up time and sets its POWER.RDY bit (R462) -/
def execDomainReady (n : Fin 10) (s : State) : Host.Outcome State Fault Refusal := s.onDev (fun d => d.domReady n)

end Sys2Proof.Machine
end

