-- ==== Sys2Proof/Machine/LifeCmds.lean ====
section
/-! DEFINITION. The meanings of the commands of one part of the table: life cycle, self-test and boundary scan (chapter 20). One definition per command; what each
does stands in the operations it calls. -/

namespace Sys2Proof.Machine

open Sys2Proof

/-- LC_MANUFACTURE: LCCMD 0x4D46 in BLANK blows the MFG fuse (R467) -/
def execLcManufacture (k : Master) (s : State) : Host.Outcome State Fault Refusal := s.write k (0xF001) (0x4D46)

/-- LC_FIELD: LCCMD 0x4644 blows FLD from MANUFACTURE when keyed, or clears the SERVICE flag (R467) -/
def execLcField (k : Master) (s : State) : Host.Outcome State Fault Refusal := s.write k (0xF001) (0x4644)

/-- LC_SERVICE: LCCMD 0x5356 with a correct response to a live challenge sets the SERVICE flag (R469) -/
def execLcService (k : Master) (s : State) : Host.Outcome State Fault Refusal := s.write k (0xF001) (0x5356)

/-- LC_RETURN: LCCMD 0x5254 in SERVICE blows RET and erases both ferroelectric stores (R470) -/
def execLcReturn (k : Master) (s : State) : Host.Outcome State Fault Refusal := s.write k (0xF001) (0x5254)

/-- FUSE_PROGRAM_COMPLETE: Fuse programming ends and LCSTAT.BUSY clears (R467) -/
def execFuseProgramComplete (s : State) : Host.Outcome State Fault Refusal := s.onCore (fun d => d.fuseDone)

/-- KEY_PROGRAM: A write of SKEY[7] or IKEY[7] in MANUFACTURE blows the staged key fuses (R468) -/
def execKeyProgram (k : Master) (which : KeyKind) (v : Word) (s : State) : Host.Outcome State Fault Refusal :=
  s.write k (match which with | .service => 0xFC0F | .image => 0xFC17) (v)

/-- CHALLENGE_DRAW: A read of CHAL[0] draws a new 64-bit challenge and latches CHAL[1]–CHAL[3] (R469) -/
def execChallengeDraw (k : Master) (s : State) : Host.Outcome State Fault Refusal :=
  s.onDev (fun d => d.fabRead k 0xF004)

/-- CHALLENGE_LAPSE: 10 000 000 µs after it is drawn, a challenge lapses (R469) -/
def execChallengeLapse (s : State) : Host.Outcome State Fault Refusal := s.onCore (fun d => d.challengeLapse)

/-- BIST_START: A write of BCMD.GO starts a march BIST on the target, or is refused (R473) [DEDUCED, log 76] -/
def execBistStart (k : Master) (v : Word) (s : State) : Host.Outcome State Fault Refusal :=
  s.write k (0xF400) (withBits v 15 14 2)

/-- BIST_ABORT: A write of BCMD.ABORT ends the BIST with ABORT (R474) [DEDUCED, log 76] -/
def execBistAbort (k : Master) (v : Word) (s : State) (fails : List BistFail := []) : Host.Outcome State Fault Refusal :=
  s.onDev (fun d => (d.when (d.writeOk k 0xF400) (fun d => d.bistFound fails)).fabWrite k 0xF400 (withBits v 15 14 1))

/-- BIST_COMPLETE: The march completes, which sets DONE and FAIL, raises E60 and leaves the target as tabled (R474); or,
with `ended` false, it has come as far as the failures named, which are recorded as it finds them (R475)
[DESIGN CHOICE, log 124] -/
def execBistComplete (fails : List BistFail) (s : State) (ended : Bool := true) : Host.Outcome State Fault Refusal :=
  s.onCore (fun d => if ended then d.bistDone fails else d.bistFound fails)

/-- REPAIR: A write of RCMD.GO assigns spare rows to the failing rows by fuse or soft entry (R477) -/
def execRepair (k : Master) (v : Word) (s : State) : Host.Outcome State Fault Refusal :=
  s.write k (0xF800) (withBit v 15 true)

/-- TAP_RESET: Five TCK rises with TMS high put the TAP into Test-Logic-Reset and load IDCODE (R480) -/
def execTapReset (s : State) : Host.Outcome State Fault Refusal := s.onDev (fun d => d.loadScan 2 [] [])

/-- EXTEST: Loading EXTEST clears every RUN bit and holds every half-bridge at ENABLE low (R481) -/
def execExtest (s : State) (pins : List (ScanBall × Bool) := []) : Host.Outcome State Fault Refusal :=
  s.onDev (fun d => d.loadScan 0 pins [])

/-- SAMPLE_PRELOAD: The SAMPLE/PRELOAD instruction connects the boundary register (R480) -/
def execSamplePreload (s : State) (pins : List (ScanBall × Bool) := []) (preload : List (ScanBall × Bool) := []) :
    Host.Outcome State Fault Refusal :=
  s.onDev (fun d => d.loadScan 1 pins preload)

/-- IDCODE: The IDCODE instruction selects the 32-bit identification register (R480) -/
def execIdcode (s : State) : Host.Outcome State Fault Refusal := s.onDev (fun d => d.loadScan 2 [] [])

/-- BYPASS: BYPASS, and every unused code, selects the 1-bit bypass register (R480) -/
def execBypass (s : State) (code : BitVec 4 := 0xF) : Host.Outcome State Fault Refusal :=
  s.onDev (fun d => if tapOf code = .bypass then d.loadScan code [] [] else d)

end Sys2Proof.Machine
end

