-- ==== Sys2Proof/Machine/FabricCmds.lean ====
section
/-! DEFINITION. The meanings of the commands of one part of the table: plain register accesses, timebase starts, and the events the table adds at its end (chapters 01, 02, 06, 08, 10). One definition per command; what each
does stands in the operations it calls. -/

namespace Sys2Proof.Machine

open Sys2Proof

/-- Channel f copies its count now: a microsecond of TIME with the RUN bit of its group at 0 (R261). -/
def Dev.copyDue (d : Dev) (f : ChanIx) : Bool :=
  decide (f.1 < 16) && d.cycles % 200 = 0 && !d.bit (0x11 + 8 * (f.1 / 4)) 0

/-- GRPSTART: A write to SYS.GRPSTART sets RUN of the named groups in one cycle (R33) -/
def execGrpstart (k : Master) (v : Word) (s : State) : Host.Outcome State Fault Refusal := s.write k (0xF) (v)

/-- GRP_RUN_SET: A write of GRP[g].CFG.RUN = 1 starts a stopped timebase at tick 0, or cancels a pending stop (R33) -/
def execGrpRunSet (k : Master) (g : GroupIx) (v : Word) (s : State) : Host.Outcome State Fault Refusal :=
  s.write k (aGrp g 1) (withBit v 0 true)

/-- GRP_RUN_CLEAR: A write of RUN = 0 stops the timebase at the next frame start, floating the group and clearing its
loops (R33) -/
def execGrpRunClear (k : Master) (g : GroupIx) (v : Word) (s : State) : Host.Outcome State Fault Refusal :=
  s.write k (aGrp g 1) (withBit v 0 false)

/-- LOW_WORD_LATCH_READ: A read of the low word of a latched quantity latches its other words for the reading master
(R41) -/
def execLowWordLatchRead (k : Master) (a : Addr) (s : State) (err : BitVec 28 := 0) : Host.Outcome State Fault Refusal :=
  s.onDev (fun d => d.readWord k a err)

/-- READ_CLEAR: A read of an RC register returns its value and clears it (R9) -/
def execReadClear (k : Master) (a : Addr) (s : State) (err : BitVec 28 := 0) : Host.Outcome State Fault Refusal :=
  s.onDev (fun d => d.readWord k a err)

/-- W1C_WRITE: A write to a W1C register clears each flag written 1, unless it sets again in the same cycle (R9) -/
def execW1cWrite (k : Master) (a : Addr) (v : Word) (s : State) (err : BitVec 28 := 0) : Host.Outcome State Fault Refusal :=
  s.onDev (fun d => d.writeWord k a.toNat v err (cutAt k))

/-- REGISTER_WRITE: A write to any other register stores or ignores the value by its type and access table (R9) -/
def execRegisterWrite (k : Master) (a : Addr) (v : Word) (s : State) (err : BitVec 28 := 0) :
    Host.Outcome State Fault Refusal :=
  s.onDev (fun d => d.writeWord k a.toNat v err (cutAt k))

/-- PWM_EDGE: Within a carrier period, the tick count reaches the start or end of the PWM leg's on-time, or the start
of a refresh interval or sampling window, and the PWM leg changes state (R55) -/
def execPwmEdge (m : MotorIx) (s : State) : Host.Outcome State Fault Refusal := s.onCore (fun d => d.pwmEdge m)

/-- PHASE_COMPARATOR_LATCH: A phase comparator's output rises with SWb above its threshold, and its diagnostic latch
LAT.PH sets (R205) -/
def execPhaseComparatorLatch (m : MotorIx) (ph : Fin 3) (s : State) (x : Int := 0) : Host.Outcome State Fault Refusal :=
  s.onCore (fun d => d.phaseLatch m ph x)

/-- GATE_SUPPLY_RETURN: VGDg rises above 4.5 V while D6+g is on, and the die repeats its start so that RDY returns 200
µs later (R181) -/
def execGateSupplyReturn (g : GroupIx) (s : State) : Host.Outcome State Fault Refusal :=
  s.onDev (fun d => d.supplyBack g)

/-- FEEDBACK_COPY_WHILE_STOPPED: While a group's RUN bit is 0, the feedback channel copies POS into FPOS and SPD into
FSPD at each microsecond of TIME (R261) -/
def execFeedbackCopyWhileStopped (f : ChanIx) (s : State) : Host.Outcome State Fault Refusal :=
  s.onCore (fun d => if d.copyDue f then d.fbCopyStopped f else d)

end Sys2Proof.Machine
end

