-- ==== Sys2Proof/Machine/Dispatch.lean ====
section
/-! DEFINITION. The dispatch of the commands: one arm per constructor, each one direct call of its meaning. -/

namespace Sys2Proof.Machine

open Sys2Proof

/-- The effect of a command on everything but the queue. -/
def exec (i : Instr) (s : State) : Host.Outcome State Fault Refusal :=
  match i with
  | .resetAssert lowNs cut => Sys2Proof.Machine.execResetAssert lowNs s cut
  | .resetRelease mirrorId => Sys2Proof.Machine.execResetRelease mirrorId s
  | .pllCoreLock => Sys2Proof.Machine.execPllCoreLock s
  | .fuseReadComplete => Sys2Proof.Machine.execFuseReadComplete s
  | .logMirrorLoadComplete badTrace badSession badRepair finds slot => Sys2Proof.Machine.execLogMirrorLoadComplete badTrace badSession badRepair s finds slot
  | .returnEraseComplete => Sys2Proof.Machine.execReturnEraseComplete s
  | .discoveryComplete sf => Sys2Proof.Machine.execDiscoveryComplete sf s
  | .pass1Complete slot words => Sys2Proof.Machine.execPass1Complete slot words s
  | .loaderWaitEnd words reached errs => Sys2Proof.Machine.execLoaderWaitEnd words s reached errs
  | .pass2Complete words errs errs2 => Sys2Proof.Machine.execPass2Complete words s errs errs2
  | .configDone k => Sys2Proof.Machine.execConfigDone k s
  | .configReload k done => Sys2Proof.Machine.execConfigReload k done s
  | .pllCoreLockLoss held => Sys2Proof.Machine.execPllCoreLockLoss held s
  | .pllCoreLockReturn cut => Sys2Proof.Machine.execPllCoreLockReturn cut s
  | .deviceFault finds cut fails => Sys2Proof.Machine.execDeviceFault finds cut s fails
  | .deviceFaultHoldEnd m => Sys2Proof.Machine.execDeviceFaultHoldEnd m s
  | .scrubRead err firsts cut => Sys2Proof.Machine.execScrubRead err s firsts cut
  | .correctionWriteback => Sys2Proof.Machine.execCorrectionWriteback s
  | .frameStart g => Sys2Proof.Machine.execFrameStart g s
  | .applyDeadline g => Sys2Proof.Machine.execApplyDeadline g s
  | .grantPoint g => Sys2Proof.Machine.execGrantPoint g s
  | .loopComputation m => Sys2Proof.Machine.execLoopComputation m s
  | .kissSearchTimeout m => Sys2Proof.Machine.execKissSearchTimeout m s
  | .carrierStart m => Sys2Proof.Machine.execCarrierStart m s
  | .commutation m => Sys2Proof.Machine.execCommutation m s
  | .sampleTick m u v w => Sys2Proof.Machine.execSampleTick m u v w s
  | .zcWindowClose m => Sys2Proof.Machine.execZcWindowClose m s
  | .align1End m => Sys2Proof.Machine.execAlign1End m s
  | .align2End m => Sys2Proof.Machine.execAlign2End m s
  | .rampTimeout m => Sys2Proof.Machine.execRampTimeout m s
  | .stabilityWindowEnd m => Sys2Proof.Machine.execStabilityWindowEnd m s
  | .backoffEnd m => Sys2Proof.Machine.execBackoffEnd m s
  | .coastEnd m => Sys2Proof.Machine.execCoastEnd m s
  | .catchTimeout m => Sys2Proof.Machine.execCatchTimeout m s
  | .reccntReset m => Sys2Proof.Machine.execReccntReset m s
  | .brakeEnd m => Sys2Proof.Machine.execBrakeEnd m s
  | .motorEnable k m v => Sys2Proof.Machine.execMotorEnable k m v s
  | .motorDisable k m v => Sys2Proof.Machine.execMotorDisable k m v s
  | .fltClear k m v => Sys2Proof.Machine.execFltClear k m v s
  | .cmdEdge m high => Sys2Proof.Machine.execCmdEdge m high s
  | .cmdLostTimeout m => Sys2Proof.Machine.execCmdLostTimeout m s
  | .hdemWrite k m v => Sys2Proof.Machine.execHdemWrite k m v s
  | .hostDemandTimeout m => Sys2Proof.Machine.execHostDemandTimeout m s
  | .hrel k m v => Sys2Proof.Machine.execHrel k m v s
  | .kissrefHiWrite k m v => Sys2Proof.Machine.execKissrefHiWrite k m v s
  | .deadTimeEnd b => Sys2Proof.Machine.execDeadTimeEnd b s
  | .blankingEnd b vds => Sys2Proof.Machine.execBlankingEnd b s vds
  | .desatDetect b vds => Sys2Proof.Machine.execDesatDetect b s vds
  | .bootstrapUvAssert b => Sys2Proof.Machine.execBootstrapUvAssert b s
  | .bootstrapUvRelease b => Sys2Proof.Machine.execBootstrapUvRelease b s
  | .gateSupplyUvAssert g => Sys2Proof.Machine.execGateSupplyUvAssert g s
  | .gateSupplyUvRelease g => Sys2Proof.Machine.execGateSupplyUvRelease g s
  | .gateReportDelivery => Sys2Proof.Machine.execGateReportDelivery s
  | .gateSupplyLoss g => Sys2Proof.Machine.execGateSupplyLoss g s
  | .gateDieReady g => Sys2Proof.Machine.execGateDieReady g s
  | .currentLimitLatch m x => Sys2Proof.Machine.execCurrentLimitLatch m s x
  | .leadingEdgeBlankingEnd m => Sys2Proof.Machine.execLeadingEdgeBlankingEnd m s
  | .hardShortLatch m x => Sys2Proof.Machine.execHardShortLatch m s x
  | .busComparatorLatch g x => Sys2Proof.Machine.execBusComparatorLatch g s x
  | .glintCheckOff k v => Sys2Proof.Machine.execGlintCheckOff k v s
  | .glintDacReadback k v => Sys2Proof.Machine.execGlintDacReadback k v s
  | .glintSwap k v => Sys2Proof.Machine.execGlintSwap k v s
  | .glintTieLow k v => Sys2Proof.Machine.execGlintTieLow k v s
  | .glintTieHigh k v => Sys2Proof.Machine.execGlintTieHigh k v s
  | .chopperFeedbackTimeout g fb => Sys2Proof.Machine.execChopperFeedbackTimeout g fb s
  | .chopperTestPulse k g v => Sys2Proof.Machine.execChopperTestPulse k g v s
  | .chopperTestPulseEnd g => Sys2Proof.Machine.execChopperTestPulseEnd g s
  | .conversionSlot p => Sys2Proof.Machine.execConversionSlot p s
  | .sampleEntry p raw => Sys2Proof.Machine.execSampleEntry p raw s
  | .accumulatorClose p a => Sys2Proof.Machine.execAccumulatorClose p a s
  | .syncTick p => Sys2Proof.Machine.execSyncTick p s
  | .idleEntryEnd p => Sys2Proof.Machine.execIdleEntryEnd p s
  | .sliceWake p => Sys2Proof.Machine.execSliceWake p s
  | .sequencerRun k p v => Sys2Proof.Machine.execSequencerRun k p v s
  | .sequencerStop k p v => Sys2Proof.Machine.execSequencerStop k p v s
  | .urgentRequest k p v => Sys2Proof.Machine.execUrgentRequest k p v s
  | .coefficientUpdate p => Sys2Proof.Machine.execCoefficientUpdate p s
  | .trackerRestart k p t v => Sys2Proof.Machine.execTrackerRestart k p t v s
  | .pllPrismLockLoss => Sys2Proof.Machine.execPllPrismLockLoss s
  | .pllPrismLockReturn => Sys2Proof.Machine.execPllPrismLockReturn s
  | .feedbackEdge f ball bHigh => Sys2Proof.Machine.execFeedbackEdge f ball bHigh s
  | .glitch f => Sys2Proof.Machine.execGlitch f s
  | .speedDecay f => Sys2Proof.Machine.execSpeedDecay f s
  | .zeroSpeedTimeout f => Sys2Proof.Machine.execZeroSpeedTimeout f s
  | .positionSeed k f v => Sys2Proof.Machine.execPositionSeed k f v s
  | .absCheckRequest k f v => Sys2Proof.Machine.execAbsCheckRequest k f v s
  | .absCheckPeriod f => Sys2Proof.Machine.execAbsCheckPeriod f s
  | .absTransferComplete f ready word parity => Sys2Proof.Machine.execAbsTransferComplete f ready word parity s
  | .leaveFallback k f v => Sys2Proof.Machine.execLeaveFallback k f v s
  | .distOutEnable k v => Sys2Proof.Machine.execDistOutEnable k v s
  | .distPulseEnd => Sys2Proof.Machine.execDistPulseEnd s
  | .distGapEnd => Sys2Proof.Machine.execDistGapEnd s
  | .traceTick => Sys2Proof.Machine.execTraceTick s
  | .traceRecordCommit => Sys2Proof.Machine.execTraceRecordCommit s
  | .hostFedWrite k t v => Sys2Proof.Machine.execHostFedWrite k t v s
  | .traceChannelEnable k t v => Sys2Proof.Machine.execTraceChannelEnable k t v s
  | .traceChannelDisable k t v => Sys2Proof.Machine.execTraceChannelDisable k t v s
  | .traceChannelConfig k t reg v => Sys2Proof.Machine.execTraceChannelConfig k t reg v s
  | .traceMark k v => Sys2Proof.Machine.execTraceMark k v s
  | .traceStoreEmpty k v => Sys2Proof.Machine.execTraceStoreEmpty k v s
  | .traceStoreRead k a errs => Sys2Proof.Machine.execTraceStoreRead k a errs s
  | .wheelPulse k => Sys2Proof.Machine.execWheelPulse k s
  | .umbraConversion code => Sys2Proof.Machine.execUmbraConversion code s
  | .still => Sys2Proof.Machine.execStill s
  | .distanceRecordHour => Sys2Proof.Machine.execDistanceRecordHour s
  | .umbraCouplingQualify level => Sys2Proof.Machine.execUmbraCouplingQualify level s
  | .sealOpen => Sys2Proof.Machine.execSealOpen s
  | .sealClose => Sys2Proof.Machine.execSealClose s
  | .utimeSecond => Sys2Proof.Machine.execUtimeSecond s
  | .rtcStop => Sys2Proof.Machine.execRtcStop s
  | .umbraStart bistOk errs => Sys2Proof.Machine.execUmbraStart bistOk s errs
  | .umbraSupplyLoss torn set => Sys2Proof.Machine.execUmbraSupplyLoss s torn set
  | .status crc op => Sys2Proof.Machine.execStatus crc s op
  | .readSlot area index crc errs => Sys2Proof.Machine.execReadSlot area index crc s errs
  | .readParam addr count crc errs => Sys2Proof.Machine.execReadParam addr count crc s errs
  | .writeParam addr count ws crc => Sys2Proof.Machine.execWriteParam addr count ws crc s
  | .weigh crc => Sys2Proof.Machine.execWeigh crc s
  | .setTime t crc => Sys2Proof.Machine.execSetTime t crc s
  | .key ku id crc => Sys2Proof.Machine.execKey ku id crc s
  | .distRec crc => Sys2Proof.Machine.execDistRec crc s
  | .mailboxUpdate => Sys2Proof.Machine.execMailboxUpdate s
  | .mailboxStale => Sys2Proof.Machine.execMailboxStale s
  | .couplingSessionOpen qualified => Sys2Proof.Machine.execCouplingSessionOpen s qualified
  | .couplingSessionClose qualified => Sys2Proof.Machine.execCouplingSessionClose s qualified
  | .pendingCouplingApply => Sys2Proof.Machine.execPendingCouplingApply s
  | .queueRunStart k v => Sys2Proof.Machine.execQueueRunStart k v s
  | .queueEntryComplete bytes => Sys2Proof.Machine.execQueueEntryComplete bytes s
  | .queueAbort k v => Sys2Proof.Machine.execQueueAbort k v s
  | .rawSelect k v => Sys2Proof.Machine.execRawSelect k v s
  | .windowRead k a err => Sys2Proof.Machine.execWindowRead k a s err
  | .lineFillComplete bytes => Sys2Proof.Machine.execLineFillComplete bytes s
  | .windowTimeout => Sys2Proof.Machine.execWindowTimeout s
  | .flashMasterStart highFor => Sys2Proof.Machine.execFlashMasterStart s highFor
  | .multiMasterFault => Sys2Proof.Machine.execMultiMasterFault s
  | .read k a n late c1 flips rise fault => Sys2Proof.Machine.execRead k a n late c1 s flips rise fault
  | .write k a ws c1 c2 flips rise fault => Sys2Proof.Machine.execWrite k a ws c1 c2 s flips rise fault
  | .page k a w c1 c2 more rise fault => Sys2Proof.Machine.execPage k a w c1 c2 s more rise fault
  | .nop k c1 a rise more => Sys2Proof.Machine.execNop k c1 s a rise more
  | .getpage k c1 rise => Sys2Proof.Machine.execGetpage k c1 s rise
  | .lanereset k => Sys2Proof.Machine.execLanereset k s
  | .hostFramingFault k point c1Wrong => Sys2Proof.Machine.execHostFramingFault k point s c1Wrong
  | .doorbellRing k v => Sys2Proof.Machine.execDoorbellRing k v s
  | .mirrorFrameSend => Sys2Proof.Machine.execMirrorFrameSend s
  | .mirrorFrameReceive bytes codeOk alignOk flips => Sys2Proof.Machine.execMirrorFrameReceive bytes codeOk alignOk s flips
  | .linkDown => Sys2Proof.Machine.execLinkDown s
  | .partnerRequest k v => Sys2Proof.Machine.execPartnerRequest k v s
  | .partnerRequestTimeout => Sys2Proof.Machine.execPartnerRequestTimeout s
  | .rerateHoldExpiry => Sys2Proof.Machine.execRerateHoldExpiry s
  | .oneSecondTick => Sys2Proof.Machine.execOneSecondTick s
  | .pendClear k host q v => Sys2Proof.Machine.execPendClear k host q v s
  | .rearmPulseEnd k => Sys2Proof.Machine.execRearmPulseEnd k s
  | .thermalReadingPeriod => Sys2Proof.Machine.execThermalReadingPeriod s
  | .thermalReadRequest k v => Sys2Proof.Machine.execThermalReadRequest k v s
  | .thermalShutdownAssert sen => Sys2Proof.Machine.execThermalShutdownAssert sen s
  | .thermalShutdownRelease sen => Sys2Proof.Machine.execThermalShutdownRelease sen s
  | .powerRequestWrite k v => Sys2Proof.Machine.execPowerRequestWrite k v s
  | .domainSwitchOn n => Sys2Proof.Machine.execDomainSwitchOn n s
  | .domainReady n => Sys2Proof.Machine.execDomainReady n s
  | .lcManufacture k => Sys2Proof.Machine.execLcManufacture k s
  | .lcField k => Sys2Proof.Machine.execLcField k s
  | .lcService k => Sys2Proof.Machine.execLcService k s
  | .lcReturn k => Sys2Proof.Machine.execLcReturn k s
  | .fuseProgramComplete => Sys2Proof.Machine.execFuseProgramComplete s
  | .keyProgram k which v => Sys2Proof.Machine.execKeyProgram k which v s
  | .challengeDraw k => Sys2Proof.Machine.execChallengeDraw k s
  | .challengeLapse => Sys2Proof.Machine.execChallengeLapse s
  | .bistStart k v => Sys2Proof.Machine.execBistStart k v s
  | .bistAbort k v fails => Sys2Proof.Machine.execBistAbort k v s fails
  | .bistComplete fails ended => Sys2Proof.Machine.execBistComplete fails s ended
  | .repair k v => Sys2Proof.Machine.execRepair k v s
  | .tapReset => Sys2Proof.Machine.execTapReset s
  | .extest pins => Sys2Proof.Machine.execExtest s pins
  | .samplePreload pins preload => Sys2Proof.Machine.execSamplePreload s pins preload
  | .idcode => Sys2Proof.Machine.execIdcode s
  | .bypass code => Sys2Proof.Machine.execBypass s code
  | .grpstart k v => Sys2Proof.Machine.execGrpstart k v s
  | .grpRunSet k g v => Sys2Proof.Machine.execGrpRunSet k g v s
  | .grpRunClear k g v => Sys2Proof.Machine.execGrpRunClear k g v s
  | .lowWordLatchRead k a err => Sys2Proof.Machine.execLowWordLatchRead k a s err
  | .readClear k a err => Sys2Proof.Machine.execReadClear k a s err
  | .w1cWrite k a v err => Sys2Proof.Machine.execW1cWrite k a v s err
  | .registerWrite k a v err => Sys2Proof.Machine.execRegisterWrite k a v s err
  | .pwmEdge m => Sys2Proof.Machine.execPwmEdge m s
  | .phaseComparatorLatch m ph x => Sys2Proof.Machine.execPhaseComparatorLatch m ph s x
  | .gateSupplyReturn g => Sys2Proof.Machine.execGateSupplyReturn g s
  | .feedbackCopyWhileStopped f => Sys2Proof.Machine.execFeedbackCopyWhileStopped f s

end Sys2Proof.Machine
end

