-- ==== Sys2Proof/Machine/Step.lean ====
section
/-! DEFINITION. One step of the machine: the command at the front of the queue takes effect; on an empty queue one ck_core
cycle passes. -/

namespace Sys2Proof.Machine

open Sys2Proof

/-- One ck_core cycle of the module with no command: TIME and the sub-count advance, and each host port commits one of
the words it holds (R34, R392). [DESIGN CHOICE, log 1, 119] -/
def Dev.idleCycle (d : Dev) : Dev := d.nextCycle.each (List.finRange 4) Dev.commitHeld

/-- One ck_core cycle with no command while ck_core runs; nothing while it stands still (R34, R35).
[DESIGN CHOICE, log 1] -/
def State.tick (s : State) : State :=
  if s.dev.runs then { s with dev := s.dev.idleCycle } else s

/-- One step. [DESIGN CHOICE, log 1, 7] -/
def step (s : State) : Host.Outcome State Fault Refusal :=
  match s.pending with
  | [] => .next s.tick
  | c :: rest => exec c { s with pending := rest }

/-- The command that a word spells, put at the front of the queue. -/
def State.withFetchWord (s : State) (nbits w : Nat) : State :=
  match decodeTableWord nbits w with
  | some c => { s with pending := c :: s.pending }
  | none => s

end Sys2Proof.Machine
end

