-- ==== Sys2Proof/Safety.lean ====
section
/-! DEFINITION. What counts as a safe run, in the terms the statements use: the sealed island and its trail, the canonical
form of the stores, the switches of a half-bridge, and the parts of the module that a command leaves alone. -/

namespace Sys2Proof.Machine

open Sys2Proof

/-! ### The sealed island (R300, R313) -/

/-- The commands that act on the metrology island: its wheel inputs, converter, coupling and seal detectors, clock,
supply and port. -/
def forUmbra : Instr → Bool
  | .wheelPulse .. | .umbraConversion .. | .still | .distanceRecordHour | .umbraCouplingQualify .. | .sealOpen
  | .sealClose | .utimeSecond | .rtcStop | .umbraStart .. | .umbraSupplyLoss .. | .status .. | .readSlot .. | .readParam ..
  | .writeParam .. | .weigh .. | .setTime .. | .key .. | .distRec .. => true
  | _ => false

/-- The parameter sets that are not committed: those of the closings that wait, and the shadow of an open seal. -/
def Umbra.sets (u : Umbra) : List Store := u.closing ++ u.shadow.toList

/-- The island is well formed: every parameter set canonical, at most 512 audit records and every record of 16 words,
data slots within the ring, the next input one of four, the accumulators of 64 bits, and no record without a key. -/
def Umbra.Sound (u : Umbra) : Prop :=
  Store.wf (fun _ => 0) u.params = true ∧ (∀ sh ∈ u.sets, Store.wf (fun _ => 0) sh = true) ∧
  u.audit.length ≤ 512 ∧ (∀ r ∈ u.audit, r.length = 16) ∧ (∀ e ∈ u.data, e.1 < 7424 ∧ e.2.length = 16) ∧
  u.datNext < 7424 ∧ u.input < 4 ∧ u.dum0 < 2 ^ 64 ∧ u.dum1 < 2 ^ 64 ∧ (u.key = none → u.audit = [] ∧ u.data = [])

/-- What no step can take back: audit records stay in their slots, AUDCNT and both distance accumulators never fall, the
UID never changes, and a programmed key and its KEYID stay. -/
def Umbra.Keeps (u v : Umbra) : Prop :=
  u.audit <+: v.audit ∧ u.audcnt ≤ v.audcnt ∧ u.dum0 ≤ v.dum0 ∧ u.dum1 ≤ v.dum1 ∧ v.uid = u.uid ∧
  (u.key.isSome = true → v.key = u.key ∧ v.keyId = u.keyId)

/-- What a loss of VUMB that tears the last record's write still keeps (R314): every audit record but the last, and all else
that no step takes back. -/
def Umbra.KeepsButLast (u v : Umbra) : Prop :=
  u.audit.dropLast <+: v.audit ∧ v.audit <+: u.audit ∧ v.audcnt = u.audcnt ∧ v.dum0 = u.dum0 ∧
  v.dum1 = u.dum1 ∧ v.uid = u.uid ∧ v.key = u.key ∧ v.keyId = u.keyId

/-- The island after a command, with its mailbox copies on their way while RESET_N is high (R43, R327). -/
def State.withUmbra (s : State) (u : Umbra) (copies : List (List Word)) : State :=
  { s with
    umbra := s.umbra.settled u
    dev := if s.dev.resetN then { s.dev with mbxIn := s.dev.mbxIn ++ copies } else s.dev }

/-! ### Accesses over the fabric (R16) -/

/-- The master and the word of a command that is one write over the fabric. -/
def writesAt : Instr → Option (Master × Nat)
  | .configDone k => some (k, 0x4B)
  | .configReload k _ => some (k, 0x4B)
  | .motorEnable k m _ => some (k, aMot m 0)
  | .motorDisable k m _ => some (k, aMot m 0)
  | .fltClear k m _ => some (k, aMot m 2)
  | .hdemWrite k m _ => some (k, aMot m 0x103)
  | .hrel k m _ => some (k, aMot m 0x102)
  | .kissrefHiWrite k m _ => some (k, aMot m 0x158)
  | .glintCheckOff k _ => some (k, 0x70A0)
  | .glintDacReadback k _ => some (k, 0x70A0)
  | .glintSwap k _ => some (k, 0x70A0)
  | .glintTieLow k _ => some (k, 0x70A0)
  | .glintTieHigh k _ => some (k, 0x70A0)
  | .chopperTestPulse k g _ => some (k, aSup g 0xD)
  | .sequencerRun k p _ => some (k, aPrm p 0)
  | .sequencerStop k p _ => some (k, aPrm p 0)
  | .urgentRequest k p _ => some (k, aPrm p 5)
  | .trackerRestart k p t _ => some (k, aTrk p t.1 0)
  | .positionSeed k f _ => some (k, aFb f 0xD)
  | .absCheckRequest k f _ => some (k, aFb f 0xD)
  | .leaveFallback k f _ => some (k, aFb f 0xD)
  | .distOutEnable k _ => some (k, 0xA308)
  | .hostFedWrite k t _ => some (k, 0xB400 + t.1)
  | .traceChannelEnable k t _ => some (k, aTr t 0)
  | .traceChannelDisable k t _ => some (k, aTr t 0)
  | .traceChannelConfig k t reg _ => some (k, aTr t (traceRegOff reg))
  | .traceMark k _ => some (k, 0xB482)
  | .traceStoreEmpty k _ => some (k, 0xB482)
  | .queueRunStart k _ => some (k, 0xD005)
  | .queueAbort k _ => some (k, 0xD005)
  | .rawSelect k _ => some (k, 0xD004)
  | .doorbellRing k _ => some (k, 0x80)
  | .partnerRequest k _ => some (k, 0xE803)
  | .pendClear k h q _ => some (k, aEvh h (4 + q.1))
  | .thermalReadRequest k _ => some (k, 0x1006)
  | .powerRequestWrite k _ => some (k, 0x800)
  | .lcManufacture k => some (k, 0xF001)
  | .lcField k => some (k, 0xF001)
  | .lcService k => some (k, 0xF001)
  | .lcReturn k => some (k, 0xF001)
  | .keyProgram k .service _ => some (k, 0xFC0F)
  | .keyProgram k .image _ => some (k, 0xFC17)
  | .bistStart k _ => some (k, 0xF400)
  | .bistAbort k _ _ => some (k, 0xF400)
  | .repair k _ => some (k, 0xF800)
  | .grpstart k _ => some (k, 0xF)
  | .grpRunSet k g _ => some (k, aGrp g 1)
  | .grpRunClear k g _ => some (k, aGrp g 1)
  | .w1cWrite k a _ err => if err = 0 then some (k, a.toNat) else none
  | .registerWrite k a _ err => if err = 0 then some (k, a.toNat) else none
  | _ => none

/-- The master and the word of a command that is one read over the fabric. -/
def readsAt : Instr → Option (Master × Nat)
  | .lowWordLatchRead k a err => if err = 0 then some (k, a.toNat) else none
  | .readClear k a err => if err = 0 then some (k, a.toNat) else none
  | .windowRead k a err => if err = 0 then some (k, (0x800000 ||| a).toNat) else none
  | .traceStoreRead k a _ => some (k, a.toNat)
  | .challengeDraw k => some (k, 0xF004)
  | _ => none

/-! ### Frames -/

/-- Every register word outside `l` reads as before. -/
def Dev.SameWords (d d' : Dev) (l : List Nat) : Prop := ∀ a, a ∉ l → d'.w a = d.w a

/-- Motor m goes on as it was, apart from the levels of its reports. -/
def Dev.SameMotors (d d' : Dev) (m : MotorIx) : Prop := ∀ n, n ≠ m → d'.mot n = d.mot n

/-- A word whose write does nothing but store what R9 lets it store: no command bit, no clamp, no latch behind it. -/
def plainWord (a : Nat) : Bool :=
  if a < 0x400 then
    a ≠ 0xF && !(decide (0x10 ≤ a ∧ a < 0x30) && decide (a % 8 < 2)) && a ≠ 0x4B && a ≠ 0x4C && a ≠ 0x80
  else if a < 0xC00 then a ≠ 0x800
  else if a < 0x1000 then
    !(decide (0xE04 ≤ a ∧ a < 0xE40) && decide (4 ≤ a % 16 ∧ a % 16 < 8)) && !decide (0xF14 ≤ a ∧ a < 0xF18)
  else if a < 0x2000 then a ≠ 0x1006
  else if a < 0x6000 then !([0, 2, 6, 0xA, 0x100, 0x102, 0x103, 0x158].contains ((a - 0x2000) % 0x400))
  else if a < 0x6400 then true
  else if a < 0x6800 then !([0, 9, 0xD].contains ((a - 0x6400) % 0x40))
  else if a < 0x7000 then true
  else if a < 0x8000 then (if a < 0x7080 then a % 8 ≠ 4 else if a < 0x7090 then a % 4 ≠ 1 else a ≠ 0x70A0)
  else if a < 0xA000 then
    let o := (a - 0x8000) % 0x800
    o ≠ 0 && o ≠ 5 && !decide (0x20 ≤ o ∧ o < 0x30) && !(decide (0x300 ≤ o ∧ o < 0x380) && o % 4 = 0)
  else if a < 0xB000 then (if a < 0xA300 then a % 0x20 ≠ 0 && a % 0x20 ≠ 0xD else a ≠ 0xA308)
  else if a < 0xC000 then
    !(decide (a < 0xB400) && decide (a % 8 < 3)) && !decide (0xB400 ≤ a ∧ a < 0xB480) && a ≠ 0xB482
  else if a < 0xD000 then true
  else if a < 0xE000 then
    a ≠ 0xD000 && a ≠ 0xD004 && a ≠ 0xD005 && !decide (0xD008 ≤ a ∧ a ≤ 0xD00D) && !decide (0xD040 ≤ a ∧ a < 0xD0C0) &&
      !decide (0xD100 ≤ a ∧ a < 0xD200)
  else if a < 0xF000 then a ≠ 0xE803
  else a ≠ 0xF001 && !decide (0xF008 ≤ a ∧ a < 0xF010) && a ≠ 0xF400 && a ≠ 0xF800 && !decide (0xFC08 ≤ a ∧ a < 0xFC18)

/-- The words of SYS other than the timebases of the groups. -/
def systemWord (a : Nat) : Bool := decide (a < 0x10) || decide (0x30 ≤ a ∧ a < 0x400)

/-- What of the module outside the drive stays as it was. -/
def Dev.SameSystem (d d' : Dev) : Prop :=
  (∀ a, systemWord a = true → d'.w a = d.w a) ∧ d'.part = d.part ∧ d'.rev = d.rev ∧ d'.fuses = d.fuses ∧
  d'.resetN = d.resetN ∧ d'.locked = d.locked ∧ d'.everLock = d.everLock ∧ d'.heldOff = d.heldOff ∧
  d'.cycles = d.cycles ∧ d'.loader = d.loader ∧ d'.mirror = d.mirror ∧ d'.tap = d.tap ∧ d'.lc = d.lc ∧ d'.bist = d.bist ∧
  d'.mbxIn = d.mbxIn ∧ d'.cplEdge = d.cplEdge ∧ d'.faultAt = d.faultAt

/-- The events of the drive: frames, loops, engines, gate drivers, comparators, converters, feedback and trace ticks. -/
def ofDrive : Instr → Bool
  | .frameStart .. | .applyDeadline .. | .grantPoint .. | .loopComputation .. | .kissSearchTimeout .. | .carrierStart ..
  | .commutation .. | .sampleTick .. | .zcWindowClose .. | .align1End .. | .align2End .. | .rampTimeout ..
  | .stabilityWindowEnd .. | .backoffEnd .. | .coastEnd .. | .catchTimeout .. | .reccntReset .. | .brakeEnd .. | .cmdEdge ..
  | .cmdLostTimeout .. | .hostDemandTimeout .. | .deadTimeEnd .. | .blankingEnd .. | .desatDetect ..
  | .bootstrapUvAssert .. | .bootstrapUvRelease .. | .gateSupplyUvAssert .. | .gateSupplyUvRelease .. | .gateReportDelivery
  | .gateSupplyLoss .. | .gateDieReady .. | .currentLimitLatch .. | .leadingEdgeBlankingEnd .. | .hardShortLatch ..
  | .busComparatorLatch .. | .chopperFeedbackTimeout .. | .chopperTestPulseEnd .. | .conversionSlot .. | .sampleEntry ..
  | .accumulatorClose .. | .syncTick .. | .idleEntryEnd .. | .sliceWake .. | .coefficientUpdate .. | .pllPrismLockLoss
  | .pllPrismLockReturn | .feedbackEdge .. | .glitch .. | .speedDecay .. | .zeroSpeedTimeout .. | .absCheckPeriod ..
  | .absTransferComplete .. | .distPulseEnd | .distGapEnd | .traceTick | .pwmEdge .. | .phaseComparatorLatch ..
  | .gateSupplyReturn .. | .feedbackCopyWhileStopped .. => true
  | _ => false

/-! ### Motors (R19, R24, R74) -/

/-- The output that a frame start applies: one that was ready by the deadline, where the frame had one (R24). -/
def Motor.toApply (x : Motor) (deadline : Bool) : Option (Nat × Bool) :=
  if deadline then x.ready else match x.out with | some o => some o | none => x.ready

/-- The bits of FLT that reports still in force set again in FAULT: those with a latched action (R74). -/
def Dev.stillReported (d : Dev) (m : MotorIx) : Word :=
  let bit (c : Cause) (i : Nat) : Word := if (d.mot m).level.getLsbD i = true ∧ d.fpol m c ≠ 0 then 1 <<< c.bit else 0
  bit .bsuv 0 ||| bit .gduv 1 ||| bit .hshort 2

/-! ### Traces (R278 to R296) -/

/-- The sample of channel t at the trace tick of this cycle: its source value under SRC, and none where it is absent
(R278 to R280). -/
def Dev.sampleOf (d : Dev) (t : TraceIx) : Option Int :=
  (({ d with ticks := d.ticks + 1 } : Dev).traceSource t (d.w (aTr t 0))).map (traceSample (d.w (aTr t 0)))

/-- The record of a segment of channel t that closes next (R288). -/
def Dev.segRec (d : Dev) (t : TraceIx) (g : Seg) : Rec :=
  ⟨word (0x4000 + t.1 * 128 + (d.fld (aTr t 7) 6 0 + 1) % 128), iword g.yc, word (g.c * (d.trc t).div),
    word ((d.trc t).div * 256 + (d.trc t).e)⟩

/-- A record is made on the way from d to d': it waits behind those that waited, where the store takes records (R290 to
R292). -/
def Dev.Made (d d' : Dev) (r : Rec) : Prop := d.noStore = false → ∃ pre post, d'.recq = d.recq ++ (pre ++ r :: post)

/-- What a present sample does to one alarm of channel t, which the bit `i` of its words enables and shows, with `n`
samples in a row before it and `n'` after: released while disabled; else it counts where its condition is met, changes
at the DWELL-th in a row, and sets the cause of the channel at an assertion, and at a release where TAG asks for it
(R295, R296). -/
def Dev.AlarmStep (d d' : Dev) (t : TraceIx) (i n n' : Nat) (rise fall : Bool) : Prop :=
  let on := d.bit (aTr t 7) i
  let meets := if on then fall else rise
  let dwell := max 1 (d.fld (aTr t 5) 13 8)
  (d.bit (aTr t 5) i = false → d'.bit (aTr t 7) i = false ∧ n' = 0) ∧
  (d.bit (aTr t 5) i = true →
    (meets = false → d'.bit (aTr t 7) i = on ∧ n' = 0) ∧
    (meets = true → n + 1 < dwell → d'.bit (aTr t 7) i = on ∧ n' = n + 1) ∧
    (meets = true → dwell ≤ n + 1 → d'.bit (aTr t 7) i = !on ∧ n' = 0 ∧
      (on = false ∨ d.bit (aTr t 1) 8 = true → d'.bit (0xB490 + t.1 / 16) (t.1 % 16) = true)))

/-! ### Host ports (R386) -/

/-- No host port has a transaction that waits for a word or for ck_core. -/
def Dev.portsIdle (d : Dev) : Bool := (List.finRange 4).all (fun k => (d.hp k).reading.isNone && (d.hp k).parked.isNone)

/-! ### Half-bridges (R153, R154) -/

/-- A half-bridge whose switches follow its command: never both on. -/
def Bridge.Safe (x : Bridge) : Prop := (x.hs = true → x.en = true ∧ x.pulse = true) ∧ (x.ls = true → x.en = true ∧ x.pulse = false)

/-- Every half-bridge is safe. -/
def Dev.BridgesSafe (d : Dev) : Prop := ∀ b, (d.brg b).Safe

end Sys2Proof.Machine
end

