-- ==== Sys2Proof/Certificates/Slice0/Obligations.lean ====
section
/-! DEFINITION. The statements for the provers: one obligation for each group of commands and each kind of state. -/

open Sys2Proof Sys2Proof.Machine

/-! ### The machine as a whole -/

/-- The command at the front of the queue takes effect, with the rest of the queue left to wait. With no command waiting,
one ck_core cycle passes while ck_core runs: a microsecond of TIME is 200 cycles, and a host port that holds words commits
one of them; while ck_core stands still nothing happens.
The model's choices that it rests on, no rules of the spec: notes/assumptions 1, 7, 119. -/
def Obligations.StepRunsFront : Prop :=
  (∀ (c : Instr) (rest : List Instr) (s : State),
    step { s with pending := c :: rest } = exec c { s with pending := rest }) ∧
  ∀ s : State, s.pending = [] →
    (s.dev.runs = false → step s = .next s) ∧
    (s.dev.runs = true →
      step s = .next { s with dev := s.dev.idleCycle } ∧ s.dev.idleCycle.cycles = s.dev.cycles + 1 ∧
      (s.dev.sub + 1 < 200 → s.dev.idleCycle.sub = s.dev.sub + 1 ∧ s.dev.idleCycle.time = s.dev.time) ∧
      (200 ≤ s.dev.sub + 1 → s.dev.idleCycle.sub = 0 ∧ s.dev.idleCycle.time = s.dev.time + 1) ∧
      ((∀ k, (s.dev.hp k).held = []) → s.dev.idleCycle = s.dev.nextCycle) ∧
      ∀ k h rest, (s.dev.nextCycle.hp k).held = h :: rest → (∀ j, j ≠ k → (s.dev.nextCycle.hp j).held = []) →
        s.dev.idleCycle = (s.dev.nextCycle.onHp k (fun x => { x with held := rest })).hostCommit k h)

/-- Right after reset: RESET_N is low, every register word outside the live ones stands at its reset value, TIME and the
sub-count are 0, every motor is in IDLE with every switch off, nothing waits, the island is well formed and no half-bridge
has both switches on.
The model's choices that it rests on, no rules of the spec: notes/assumptions 3, 4, 5. -/
def Obligations.ResetState : Prop :=
  State.reset.pending = [] ∧ State.reset.dev.resetN = false ∧ State.reset.dev.runs = false ∧
  (∀ a, State.reset.dev.w a = resetWord a) ∧
  State.reset.dev.time = 0 ∧ State.reset.dev.sub = 0 ∧
  (∀ m, (State.reset.dev.mot m).state = .idle) ∧
  (∀ b, (State.reset.dev.brg b).hs = false ∧ (State.reset.dev.brg b).ls = false) ∧
  State.reset.dev.store = [] ∧ State.reset.umbra.audit = [] ∧ State.reset.umbra.key = none ∧
  State.reset.umbra.Sound ∧ State.reset.dev.BridgesSafe

/-- Every command completes and leaves the commands that wait as they stand.
The model's choices that it rests on, no rules of the spec: notes/assumptions 2. -/
def Obligations.EveryCommandCompletes : Prop :=
  ∀ (c : Instr) (s : State), ∃ t, exec c s = .next t ∧ t.pending = s.pending

/-- A command that is not one of the island's leaves the whole island as it stands, and a command of the island changes
nothing outside it but the mailbox copies on their way, of which there are none while RESET_N is low: it adds to them,
or, where VUMB fails and tears the write of a record, withdraws the last of them, the copy of that record.
The model's choices that it rests on, no rules of the spec: notes/assumptions 105, 121. -/
def Obligations.SealedIsland : Prop :=
  ∀ (c : Instr) (s t : State), exec c s = .next t →
    (forUmbra c = false → t.umbra = s.umbra) ∧
    (forUmbra c = true → (∀ torn set, c ≠ .umbraSupplyLoss torn set) →
      ∃ copies, t.dev = { s.dev with mbxIn := s.dev.mbxIn ++ copies } ∧ (s.dev.resetN = false → copies = [])) ∧
    (∀ torn set, c = .umbraSupplyLoss torn set → t.dev = s.dev ∨
      (torn = true ∨ set.isSome = true) ∧ t.dev = { s.dev with mbxIn := s.dev.mbxIn.dropLast })

/-- A target checks the master of every request against its access table before it acts: a write that the table refuses is
ignored, and a read that it refuses returns 0 and changes nothing else. This holds of the writes and reads of the fabric
themselves, and so of every command that makes one. -/
def Obligations.AccessTables : Prop :=
  (∀ (d : Dev) (k : Master) (a : Addr) (v : Word),
    (d.mayAccess k true a.toNat = false → d.fabWrite k a.toNat v = d) ∧
    (d.mayAccess k false a.toNat = false → d.fabRead k a = d.putFab k 0)) ∧
  ∀ (c : Instr) (s : State) (k : Master) (a : Nat),
    (writesAt c = some (k, a) → s.dev.mayAccess k true a = false → exec c s = .next s) ∧
    (readsAt c = some (k, a) → s.dev.mayAccess k false a = false →
      exec c s = .next { s with dev := s.dev.putFab k 0 })

/-- Every step keeps the island well formed: canonical parameters, at most 512 audit records, slots and accumulators in
their ranges, and no record without a key. And no step takes back what the island has recorded: audit records keep their
slots and their words, AUDCNT and both distance accumulators never fall, the UID never changes, and a programmed key and
its KEYID stay; a loss of VUMB that tears the write of the command just made takes back at most that record.
The model's choices that it rests on, no rules of the spec: notes/assumptions 100, 101, 102, 103, 121. -/
def Obligations.SoundStep : Prop :=
  ∀ s t : State, s.umbra.Sound → step s = .next t →
    t.umbra.Sound ∧
    ((∀ torn set, s.pending.head? = some (.umbraSupplyLoss torn set) → torn = false ∧ set = none) →
      s.umbra.Keeps t.umbra) ∧
    (∀ torn set, s.pending.head? = some (.umbraSupplyLoss torn set) → s.umbra.KeepsButLast t.umbra)

/-- No step turns both switches of a half-bridge on: a switch that is on is the one its half-bridge is commanded to, in
every state that has it so. -/
def Obligations.HalfBridgesSafe : Prop :=
  ∀ s t : State, s.dev.BridgesSafe → step s = .next t → t.dev.BridgesSafe

/-! ### The metrology island (chapter 12) -/

/-- A second of UTIME, the stop of the RTC, the loss of VUMB (an open shadow and closings that wait are lost), and the
start of the island: with a key it resumes UTIME (the last-alive time when the RTC was lost), checks the digest and the
commit word of the parameters and makes a power record, and on a bad one, or a word of the set that cannot be corrected,
sets PERR with an audit record; without a key a failed self-test keeps it down. A loss that tears the record that the
command before it made leaves its slot to be written next, with no commit word and no mailbox copy; it tears nothing
where nothing is being written or the core has its copy; one that tears a parameter set leaves a mixture of the two
sets, with no commit word.
The model's choices that it rests on, no rules of the spec: notes/assumptions 19, 100, 118, 121. -/
def Obligations.UmbraSupply : Prop :=
  (∀ s : State,
     (s.umbra.up = true → exec .utimeSecond s =
       .next (s.withUmbra { s.umbra with utime := s.umbra.utime + 1, alive := s.umbra.utime + 1, updcnt := s.umbra.updcnt + 1 }
         [({ s.umbra with utime := s.umbra.utime + 1, alive := s.umbra.utime + 1, updcnt := s.umbra.updcnt + 1 } :
           Umbra).mailbox])) ∧
     (s.umbra.up = false → exec .utimeSecond s = .next (s.withUmbra { s.umbra with utime := s.umbra.utime + 1 } [])) ∧
     exec .rtcStop s = .next (s.withUmbra { s.umbra with rtcx := true, rtcLost := true } []) ∧
     (∀ torn, torn = false ∨ s.umbra.last = none → exec (.umbraSupplyLoss torn) s = .next (s.withUmbra { s.umbra with
       up := false, bistFail := false, shadow := none, closing := [], sealOpen := false, weigh := none, trig := none
       still := false, cpl := false } [])) ∧
     (s.mayTear = false → ∀ torn set, exec (.umbraSupplyLoss torn set) s = exec (.umbraSupplyLoss false) s) ∧
     (∀ w, s.umbra.up = true → s.umbra.last = some w → s.mayTear = true →
       ∃ u, exec (.umbraSupplyLoss true) s = .next (s.withdrawn.withUmbra u []) ∧ u.up = false ∧ u.recnum = s.umbra.recnum ∧
         u.params = s.umbra.params ∧ u.dum0 = s.umbra.dum0 ∧ u.dum1 = s.umbra.dum1 ∧
         (∀ init r, s.umbra.audit = init ++ [r] → w.audit = true →
           u.audit = init ∧ u.mark init.length = 0 ∧ u.data = s.umbra.data ∧
           u.slotRec 0 init.length = List.replicate 16 0) ∧
         (∀ n, s.umbra.datNext = n + 1 → w.audit = false →
           u.audit = s.umbra.audit ∧ u.datNext = n ∧ u.mark (512 + n) = 0 ∧ (∀ e ∈ u.data, e.1 ≠ n) ∧
           (∀ e ∈ s.umbra.data, e.1 ≠ n → e ∈ u.data) ∧ u.slotRec 1 n = List.replicate 16 0)) ∧
     (∀ w n p pd pe, s.umbra.up = true → s.umbra.last = some w → w.set = some (p, pd, pe) → s.mayTear = true →
       ∃ u, exec (.umbraSupplyLoss true (some n)) s = .next (s.withdrawn.withUmbra u []) ∧ u.up = false ∧ u.parMark = 0 ∧ u.pdig = pd ∧
         ∀ a, a < 0x180 → param u.params a = (if a < n then param s.umbra.params a else param p a))) ∧
  (∀ (s : State) (ok : Bool) (errs : List (Nat × BitVec 28)), s.umbra.up = false → s.umbra.bistFail = false →
     (∀ k, s.umbra.key = some k → digest k s.umbra.params = s.umbra.pdig →
       s.umbra.parMark = commitWord (paramWords s.umbra.params) → s.umbra.setBroken errs = false →
       ∃ u copies, exec (.umbraStart ok errs) s = .next (s.withUmbra u copies) ∧ u.up = true ∧ u.perr = false ∧
         u.utime = (if s.umbra.rtcLost then s.umbra.alive else s.umbra.utime) ∧ u.sealOpen = false ∧ u.shadow = none ∧
         u.audit = s.umbra.audit ∧ u.recnum = s.umbra.recnum + 1 ∧ u.params = s.umbra.params ∧
         (u.lastRec.drop 5).take 3 = [word (s.umbra.rtcLost.toNat * 2), lo16 s.umbra.alive, hi16 s.umbra.alive] ∧
         u.dum0 = s.umbra.dum0 ∧ u.dum1 = s.umbra.dum1) ∧
     (∀ k, s.umbra.key = some k →
       digest k s.umbra.params ≠ s.umbra.pdig ∨ s.umbra.parMark ≠ commitWord (paramWords s.umbra.params) ∨
         (∃ e ∈ errs, (s.umbra.setWord e.1 e.2).2 = .bad) →
       s.umbra.audit.length < 512 →
       ∃ u copies r, exec (.umbraStart ok errs) s = .next (s.withUmbra u copies) ∧ u.up = true ∧ u.perr = true ∧
         u.runs = false ∧ u.audit = s.umbra.audit ++ [r] ∧ (r.drop 5).take 1 = [7] ∧ u.params = s.umbra.params) ∧
     (s.umbra.key = none → ok = false → exec (.umbraStart ok errs) s = .next (s.withUmbra { s.umbra with bistFail := true } [])))

/-- The opening and the closing of the seal. The opening counts in AUDCNT (saturating), makes an OPEN audit record with
the count and the stored digest, and copies the parameters into the shadow. The closing makes a CLOSE record where
nothing changed, a REJECT record with the lowest bad address where the set breaks R318 and is discarded, and else
commits the set with its digest under a COMMIT record with the number of words changed. While a weighing is in progress
the closing waits, with nothing compared yet.
The model's choices that it rests on, no rules of the spec: notes/assumptions 101. -/
def Obligations.SealCycle : Prop :=
  (∀ (s : State) (k : BitVec 128), s.umbra.up = true → s.umbra.sealOpen = false →
     s.umbra.key = some k → s.umbra.audit.length < 512 →
     ∃ (u : Umbra) (copies : List (List Word)) (r : List Word), exec .sealOpen s = .next (s.withUmbra u copies) ∧
       u.sealOpen = true ∧ u.shadow = some s.umbra.params ∧ u.params = s.umbra.params ∧
       u.audcnt.toNat = min 0xFFFF (s.umbra.audcnt.toNat + 1) ∧ u.audit = s.umbra.audit ++ [r] ∧
       u.recnum = s.umbra.recnum + 1 ∧ u.lastRec = r ∧ r.length = 16 ∧
       r.take 3 = [word (0x4000 + 0x800 + s.umbra.rtcx.toNat * 0x400 + 0x100), lo16 u.recnum, hi16 u.recnum] ∧
       (r.drop 5).take 7 = [1, u.audcnt] ++ words64 s.umbra.pdig ++ [0] ∧
       r.drop 12 = words64 (cmac64 k (bytes64 s.umbra.uid ++ bytesOf (r.take 12))) ∧
       u.data = s.umbra.data ∧ u.dum0 = s.umbra.dum0 ∧ u.dum1 = s.umbra.dum1 ∧ copies.length = 1) ∧
  (∀ (s : State) (k : BitVec 128) (sh : Store), s.umbra.up = true → s.umbra.sealOpen = true → s.umbra.weigh = none →
     s.umbra.shadow = some sh → s.umbra.closing = [] → s.umbra.key = some k → s.umbra.audit.length < 512 →
     ∃ (u : Umbra) (copies : List (List Word)) (r : List Word), exec .sealClose s = .next (s.withUmbra u copies) ∧
       u.sealOpen = false ∧ u.shadow = none ∧ u.closing = [] ∧ u.audit = s.umbra.audit ++ [r] ∧ u.audcnt = s.umbra.audcnt ∧
       (r.drop 6).take 1 = [s.umbra.audcnt] ∧
       (wordsChanged sh s.umbra.params = 0 → u.params = s.umbra.params ∧ (r.drop 5).take 1 = [2] ∧ (r.drop 11).take 1 = [0]) ∧
       (∀ a, wordsChanged sh s.umbra.params ≠ 0 → firstBad sh = some a →
         u.params = s.umbra.params ∧ u.pdig = s.umbra.pdig ∧ (r.drop 5).take 1 = [4] ∧ (r.drop 11).take 1 = [word a]) ∧
       (wordsChanged sh s.umbra.params ≠ 0 → firstBad sh = none →
         u.params = sh ∧ u.pdig = digest k sh ∧ u.perr = false ∧ (r.drop 5).take 1 = [3] ∧
         (r.drop 11).take 1 = [word (wordsChanged sh s.umbra.params)])) ∧
  (∀ (s : State) (w : Weigh) (sh : Store), s.umbra.up = true → s.umbra.sealOpen = true → s.umbra.weigh = some w →
     s.umbra.shadow = some sh → exec .sealClose s = .next (s.withUmbra { s.umbra with
       sealOpen := false, shadow := none, closing := s.umbra.closing ++ [sh] } []))

/-- The reads of the Umbra port: with a right CRC the status byte, the data and their CRC are answered and nothing else
of the island changes; a slot with a word that cannot be corrected reads as zeros, and a committed parameter as its decoder
delivers it; a slot that does not exist, a number of parameters out of range and an unknown command are answered BADA, and
with a wrong CRC each is answered the CRC error alone.
The model's choices that it rests on, no rules of the spec: notes/assumptions 19, 104, 121, 126. -/
def Obligations.UmbraPortReads : Prop :=
  ∀ (s : State) (crc area : Byte) (ix : Word), s.umbra.up = true →
    (crc = crc8 [1] → exec (.status crc) s =
      .next (s.withUmbra (s.umbra.answer (s.umbra.portStatus false false false false) (bytesOf (s.umbra.mailbox.take 32))) [])) ∧
    (crc = crc8 ([2, area] ++ wordBytes ix) → (area = 0 ∧ ix.toNat < 512) ∨ (area = 1 ∧ ix.toNat < 7424) →
      exec (.readSlot area ix crc []) s =
        .next (s.withUmbra (s.umbra.answer (s.umbra.portStatus false false false false)
          (bytesOf (s.umbra.slotRec area.toNat ix.toNat))) []) ∧
      (∀ (errs : List (BitVec 28)) (i : Nat), i < (s.umbra.slotRec area.toNat ix.toNat).length →
        decode28 (encode28 ((s.umbra.slotRec area.toNat ix.toNat).getD i 0) ^^^ errs.getD i 0) = .bad →
        exec (.readSlot area ix crc errs) s =
          .next (s.withUmbra (s.umbra.answer (s.umbra.portStatus false false false false)
            (bytesOf (List.replicate (s.umbra.slotRec area.toNat ix.toNat).length 0))) []))) ∧
    (∀ errs, crc = crc8 ([2, area] ++ wordBytes ix) → ¬ ((area = 0 ∧ ix.toNat < 512) ∨ (area = 1 ∧ ix.toNat < 7424)) →
      exec (.readSlot area ix crc errs) s =
        .next (s.withUmbra (s.umbra.answer (s.umbra.portStatus false false true false) []) [])) ∧
    (∀ (n : Byte), crc = crc8 ([3] ++ wordBytes ix ++ [n]) → 1 ≤ n.toNat → n.toNat ≤ 64 →
      exec (.readParam ix n crc) s =
        .next (s.withUmbra (s.umbra.answer (s.umbra.portStatus false false false false)
          (bytesOf ((List.range n.toNat).map (fun i =>
            if paramListed (ix.toNat + i) then param s.umbra.shown (ix.toNat + i) else 0)))) []) ∧
      ∀ errs : List (BitVec 28), s.umbra.sealOpen = false →
        exec (.readParam ix n crc errs) s =
          .next (s.withUmbra (s.umbra.answer (s.umbra.portStatus false false false false)
            (bytesOf ((List.range n.toNat).map (fun i =>
              if paramListed (ix.toNat + i) then
                (decode28 (encode28 (param s.umbra.params (ix.toNat + i)) ^^^ errs.getD i 0)).value else 0)))) [])) ∧
    (∀ (n : Byte) errs, crc = crc8 ([3] ++ wordBytes ix ++ [n]) → n = 0 ∨ 64 < n.toNat →
      exec (.readParam ix n crc errs) s =
        .next (s.withUmbra (s.umbra.answer (s.umbra.portStatus false false true false) []) [])) ∧
    (∀ op : Byte, op = 0 ∨ 8 < op.toNat →
      (crc = crc8 [op] → exec (.status crc op) s =
        .next (s.withUmbra (s.umbra.answer (s.umbra.portStatus false false true false) []) [])) ∧
      (crc ≠ crc8 [op] → exec (.status crc op) s =
        .next (s.withUmbra (s.umbra.answer (s.umbra.portStatus true false false false) []) []))) ∧
    (crc ≠ crc8 [1] → exec (.status crc) s =
      .next (s.withUmbra (s.umbra.answer (s.umbra.portStatus true false false false) []) [])) ∧
    (∀ errs, crc ≠ crc8 ([2, area] ++ wordBytes ix) → exec (.readSlot area ix crc errs) s =
      .next (s.withUmbra (s.umbra.answer (s.umbra.portStatus true false false false) []) [])) ∧
    ∀ n : Byte, crc ≠ crc8 ([3] ++ wordBytes ix ++ [n]) → exec (.readParam ix n crc) s =
      .next (s.withUmbra (s.umbra.answer (s.umbra.portStatus true false false false) []) [])

/-- The accepted writes of the Umbra port: a parameter write changes the shadow and not the committed set, WEIGH sets a
trigger, SET_TIME sets UTIME and ends RTCX under a TIME record, and DIST_REC makes a distance record. A parameter write
with fewer words than its count is never complete and changes nothing of the parameters.
The model's choices that it rests on, no rules of the spec: notes/assumptions 104. -/
def Obligations.UmbraPortWrites : Prop :=
  ∀ (s : State) (k : BitVec 128) (crc : Byte), s.umbra.up = true → s.umbra.key = some k →
    (∀ (a : Word) (n : Byte) (ws : List Word) (sh : Store), crc = crc8 ([4] ++ wordBytes a ++ [n] ++ bytesOf ws) →
      s.umbra.sealOpen = true → s.umbra.audit.length < 512 → s.umbra.shadow = some sh →
      n.toNat = ws.length → 1 ≤ ws.length → ws.length ≤ 64 → (∀ i, i < ws.length → paramListed (a.toNat + i) = true) →
      ∃ u, exec (.writeParam a n ws crc) s = .next (s.withUmbra u []) ∧ u.params = s.umbra.params ∧
        (∃ p, u.shadow = some p ∧
          ∀ b, param p b = if a.toNat ≤ b ∧ b < a.toNat + ws.length then ws.getD (b - a.toNat) 0 else param sh b) ∧
        u.audit = s.umbra.audit ∧ u.data = s.umbra.data ∧ u.pdig = s.umbra.pdig) ∧
    (∀ (a : Word) (n : Byte) (ws : List Word), ws.length < n.toNat →
      exec (.writeParam a n ws crc) s = .next (s.withUmbra { s.umbra with resp := [] } [])) ∧
    (crc = crc8 [5] → s.umbra.perr = false → s.umbra.weigh = none → s.umbra.trig = none →
      ∃ u, exec (.weigh crc) s = .next (s.withUmbra u []) ∧ u.trig = some 2 ∧ u.weigh = none ∧
        u.audit = s.umbra.audit ∧ u.data = s.umbra.data ∧ u.params = s.umbra.params) ∧
    (∀ t : BitVec 32, crc = crc8 (6 :: timeBytes t) → s.umbra.sealOpen = true → s.umbra.audit.length < 512 →
      ∃ u copies r, exec (.setTime t crc) s = .next (s.withUmbra u copies) ∧ u.utime = t ∧ u.rtcx = false ∧
        u.rtcLost = s.umbra.rtcLost ∧
        u.audit = s.umbra.audit ++ [r] ∧ (r.drop 5).take 4 = [5, s.umbra.audcnt, lo16 s.umbra.utime, hi16 s.umbra.utime] ∧
        u.params = s.umbra.params ∧ u.data = s.umbra.data) ∧
    (crc = crc8 [8] → s.umbra.perr = false → s.umbra.datNext < 7424 →
      ∃ u copies, exec (.distRec crc) s = .next (s.withUmbra u copies) ∧ u.recnum = s.umbra.recnum + 1 ∧
        u.distBase = s.umbra.dist.toNat ∧ u.distSecBase = s.umbra.distSec.toNat ∧ u.audit = s.umbra.audit ∧
        u.lastRec.take 1 = [word (0x2000 + s.umbra.sealOpen.toNat * 0x800 + s.umbra.rtcx.toNat * 0x400 + 0x100)] ∧
        (u.lastRec.drop 5).take 4 = [lo16 s.umbra.dist, hi16 s.umbra.dist, lo16 s.umbra.distSec, hi16 s.umbra.distSec] ∧
        u.datNext = (s.umbra.datNext + 1) % 7424)

/-- The key is programmed once, under an open seal, with the first power record and a KEY audit record; a second KEY
changes nothing and is answered REF, and so are WRITE_PARAM, SET_TIME and KEY while the seal is closed or the audit area
is full.
The model's choices that it rests on, no rules of the spec: notes/assumptions 104. -/
def Obligations.UmbraKeyAndRefusals : Prop :=
  (∀ (s : State) (ku : BitVec 128) (id : Word) (crc : Byte), s.umbra.up = true →
     crc = crc8 (7 :: bytes128 ku ++ wordBytes id) →
     (s.umbra.key = none → s.umbra.sealOpen = true → s.umbra.audit.length < 512 →
       ∃ u copies r, exec (.key ku id crc) s = .next (s.withUmbra u copies) ∧ u.key = some ku ∧ u.keyId = id ∧
         u.pdig = digest ku s.umbra.params ∧ u.recnum = s.umbra.recnum + 2 ∧ u.audit = s.umbra.audit ++ [r] ∧
         (r.drop 5).take 1 = [6] ∧ u.params = s.umbra.params ∧ copies.length = 2) ∧
     (s.umbra.key.isSome = true → exec (.key ku id crc) s =
       .next (s.withUmbra (s.umbra.answer (s.umbra.portStatus false true false false) []) []))) ∧
  (∀ (s : State) (a : Word) (n : Byte) (ws : List Word) (t : BitVec 32) (ku : BitVec 128) (id : Word),
     s.umbra.up = true → (s.umbra.sealOpen = false ∨ s.umbra.audit.length = 512) →
     n.toNat = ws.length → 1 ≤ ws.length → ws.length ≤ 64 → (∀ i, i < ws.length → paramListed (a.toNat + i) = true) →
     exec (.writeParam a n ws (crc8 ([4] ++ wordBytes a ++ [n] ++ bytesOf ws))) s =
       .next (s.withUmbra (s.umbra.answer (s.umbra.portStatus false true false false) []) []) ∧
     exec (.setTime t (crc8 (6 :: timeBytes t))) s =
       .next (s.withUmbra (s.umbra.answer (s.umbra.portStatus false true false false) []) []) ∧
     exec (.key ku id (crc8 (7 :: bytes128 ku ++ wordBytes id))) s =
       .next (s.withUmbra (s.umbra.answer (s.umbra.portStatus false true false false) []) []))

/-- A wheel pulse adds Kk to its accumulator alone, ends the still time and a weighing in progress, and does nothing on
an input that is not enabled. At a whole hour with DIST advanced a distance record is made; a qualified rise of CPL_DET
counts and is recorded, a fall is recorded alone, and a level already in force changes nothing.
The model's choices that it rests on, no rules of the spec: notes/assumptions 2, 103. -/
def Obligations.UmbraDistance : Prop :=
  (∀ (s : State) (k : Fin 2), s.umbra.up = true → s.umbra.runs = true → s.umbra.closing = [] →
     (inputOn s.umbra.params k.1 = true →
       exec (.wheelPulse k) s = .next (s.withUmbra { s.umbra with
         dum0 := if k = 0 then min (2 ^ 64 - 1) (s.umbra.dum0 + paramK s.umbra.params 0) else s.umbra.dum0
         dum1 := if k = 1 then min (2 ^ 64 - 1) (s.umbra.dum1 + paramK s.umbra.params 1) else s.umbra.dum1
         still := false, weigh := none } [])) ∧
     (inputOn s.umbra.params k.1 = false → exec (.wheelPulse k) s = .next (s.withUmbra s.umbra []))) ∧
  (∀ (s : State) (k : BitVec 128) (level : Bool), s.umbra.up = true → s.umbra.key = some k →
     (s.umbra.utime.toNat % 3600 = 0 → s.umbra.distBase < s.umbra.dist.toNat →
       ∃ u copies, exec .distanceRecordHour s = .next (s.withUmbra u copies) ∧ u.recnum = s.umbra.recnum + 1 ∧
         u.distBase = s.umbra.dist.toNat ∧ (u.lastRec.drop 5).take 2 = [lo16 s.umbra.dist, hi16 s.umbra.dist] ∧
         (inputOn s.umbra.params 1 = false → u.discrep = false) ∧ u.audit = s.umbra.audit) ∧
     (s.umbra.dist.toNat ≤ s.umbra.distBase → exec .distanceRecordHour s = .next (s.withUmbra s.umbra [])) ∧
     (level ≠ s.umbra.cpl →
       ∃ u copies, exec (.umbraCouplingQualify level) s = .next (s.withUmbra u copies) ∧ u.cpl = level ∧
         u.cplcnt = (if level then s.umbra.cplcnt + 1 else s.umbra.cplcnt) ∧ u.recnum = s.umbra.recnum + 1 ∧
         (u.lastRec.drop 5).take 4 = [if level then 0 else 1, u.cplcnt, lo16 s.umbra.dist, hi16 s.umbra.dist] ∧
         u.audit = s.umbra.audit) ∧
     exec (.umbraCouplingQualify s.umbra.cpl) s = .next (s.withUmbra s.umbra []))

/-- Conversions go round the four inputs; a waiting trigger begins its weighing as UA3's conversion ends, so with the
first cycle after it; a conversion of an input that does not end a cycle adds its code to that channel's sum and spread
alone; and the last conversion of the NW-th cycle ends the weighing with a weighing record of the four loads. Becoming
still triggers a weighing when MOVE metres have passed since the last one.
The model's choices that it rests on, no rules of the spec: notes/assumptions 102. -/
def Obligations.Weighing : Prop :=
  ∀ (s : State) (code : Word) (w : Weigh) (k : BitVec 128) (t : Nat) (l : Fin 4), s.umbra.up = true → s.umbra.runs = true →
    s.umbra.key = some k → s.umbra.closing = [] → s.umbra.input = l.1 →
    (s.umbra.weigh = none → s.umbra.trig = none →
      exec (.umbraConversion code) s = .next (s.withUmbra { s.umbra with input := (l.1 + 1) % 4 } [])) ∧
    (s.umbra.weigh = none → s.umbra.trig = some t → exec (.umbraConversion code) s =
      .next (s.withUmbra (if l = 3 then { s.umbra with input := 0, trig := none, weigh := some { trig := t } }
        else { s.umbra with input := (l.1 + 1) % 4 }) [])) ∧
    (s.umbra.weigh = some w → l.1 ≠ lastChannel s.umbra.params →
      exec (.umbraConversion code) s = .next (s.withUmbra { s.umbra with
        input := (l.1 + 1) % 4, weigh := some (w.take l code.toNat) } [])) ∧
    (s.umbra.weigh = some w → l.1 = lastChannel s.umbra.params → max 1 (paramN s.umbra.params 1) ≤ w.n + 1 →
      s.umbra.trig = none →
      ∃ u copies, exec (.umbraConversion code) s = .next (s.withUmbra u copies) ∧ u.weigh = none ∧
        u.recnum = s.umbra.recnum + 1 ∧ u.lastRec.take 1 =
          [word (0x1000 + s.umbra.sealOpen.toNat * 0x800 + s.umbra.rtcx.toNat * 0x400 + 0x100)] ∧
        (u.lastRec.drop 5).take 6 = [u.load[0], u.load[1], u.load[2], u.load[3], lo16 u.total, hi16 u.total] ∧
        (∀ j : Fin 4, loadOn s.umbra.params j.1 = false → u.load[j] = 0xFFFF) ∧
        u.audit = s.umbra.audit ∧ u.dum0 = s.umbra.dum0 ∧ u.dum1 = s.umbra.dum1) ∧
    (s.umbra.still = false → s.umbra.weigh = none → s.umbra.trig = none →
      paramN s.umbra.params 4 ≤ s.umbra.dist.toNat - s.umbra.moveBase →
      exec .still s = .next (s.withUmbra { s.umbra with still := true, trig := some 0 } [])) ∧
    (s.umbra.still = false → s.umbra.dist.toNat - s.umbra.moveBase < paramN s.umbra.params 4 → s.umbra.cplSince = false →
      exec .still s = .next (s.withUmbra { s.umbra with still := true } []))

/-- The oldest mailbox copy completes its crossing: the 48 core words take it, E48 is raised, CSTAT.FILLED reads 1 and
STALE 0, and SEALCHG sets with E49 where the seal bit or AUDCNT of a later copy differs, or the first copy shows the
seal open. Two seconds without a copy set STALE and leave the words as they are.
The model's choices that it rests on, no rules of the spec: notes/assumptions 2, 105. -/
def Obligations.MailboxCopies : Prop :=
  ∀ (s : State) (c : List Word) (rest : List (List Word)), s.dev.runs = true → s.dev.mbxIn = c :: rest →
    (∃ d, exec .mailboxUpdate s = .next { s with dev := d } ∧ d.mbxIn = rest ∧ d.mbxAt = s.dev.cycles ∧
      (∀ i, i < 48 → d.w (0xC000 + i) = c.getD i 0) ∧ d.bit 0xC040 0 = true ∧ d.bit 0xC040 1 = false ∧
      d.ev[48].cnt = s.dev.ev[48].cnt + 1 ∧
      (∀ chg : Bool, chg = (if s.dev.bit 0xC040 0 then
          (bitOf (c.getD 0 0) 14 != s.dev.bit 0xC000 14) || decide (c.getD 13 0 ≠ s.dev.w 0xC00D) else bitOf (c.getD 0 0) 14) →
        d.bit 0xC040 2 = (s.dev.bit 0xC040 2 || chg) ∧ d.ev[49].cnt = s.dev.ev[49].cnt + (if chg then 1 else 0)) ∧
      s.dev.SameWords d ([0xC040] ++ (List.range 48).map (0xC000 + ·))) ∧
    (s.dev.mbxAt + 400000000 ≤ s.dev.cycles → exec .mailboxStale s = .next { s with dev := s.dev.putB 0xC040 1 true }) ∧
    (s.dev.cycles < s.dev.mbxAt + 400000000 → exec .mailboxStale s = .next s)

/-! ### Reset, start and configuration (chapter 13) -/

/-- A low level on RESET_N of 10 µs or more resets the module: every register word, engine, switch, domain and output
returns to reset, TIME is 0, and ferroelectric memory and fuses keep what they hold unless a test or a programming was
under way; below 100 ns nothing happens, and between the two either nothing but the model's own choice count changes or
the full reset takes place. A record commit that a reset cuts short touches no slot of the store but the one it was
writing, nor SESSION or the soft-repair table; a reset touches these only where it cuts their own write. The metrology
island is not touched.
The model's choices that it rests on, no rules of the spec: notes/assumptions 13, 14, 86, 88, 117, 118. -/
def Obligations.ResetAsserted : Prop :=
  ∀ (s : State) (ns : Nat) (cut : CommitCut),
    (10000 ≤ ns → ∃ d, exec (.resetAssert ns cut) s = .next { s with dev := d } ∧ d.resetN = false ∧ d.runs = false ∧
      (∀ a, d.w a = resetWord a) ∧ d.time = 0 ∧ d.sub = 0 ∧ (∀ m, (d.mot m).state = .idle) ∧
      (∀ b, (d.brg b).en = false ∧ (d.brg b).hs = false ∧ (d.brg b).ls = false) ∧
      (∀ n, 3 ≤ n → n ≤ 9 → d.domOn n = false) ∧ d.dist.high = false ∧ d.part = s.dev.part ∧
      (s.dev.bist.run = none → cut = .none →
        d.store = s.dev.store ∧ d.marks = s.dev.marks ∧ d.devLog = s.dev.devLog) ∧
      (s.dev.bist.run = none → d.devLog.session = s.dev.devLog.session ∧
        (cut ≠ .session ∨ s.dev.writing ≠ some .session → d.devLog.sesMark = s.dev.devLog.sesMark) ∧
        (cut ≠ .repair ∨ s.dev.writing ≠ some .repair →
          d.devLog.repair = s.dev.devLog.repair ∧ d.devLog.repMark = s.dev.devLog.repMark) ∧
        (cut = .session → s.dev.writing = some .session → d.devLog.sesMark = 0) ∧
        (cut = .repair → s.dev.writing = some .repair → d.devLog.repMark = 0) ∧
        ∀ n, n ≠ s.dev.wptr → d.slotMark n = s.dev.slotMark n ∧
          ∀ i, i < 4 → d.store.get (fun _ => 0) (4 * n + i) = s.dev.store.get (fun _ => 0) (4 * n + i)) ∧
      (s.dev.lc.fuse = none → d.fuses = s.dev.fuses)) ∧
    (ns < 100 → exec (.resetAssert ns cut) s = .next s) ∧
    (100 ≤ ns → ns < 10000 →
      exec (.resetAssert ns cut) s = .next { s with dev := s.dev.nextFree } ∨
      exec (.resetAssert ns cut) s = exec (.resetAssert 10000 cut) { s with dev := s.dev.nextFree })

/-- The start sequence up to step 4: the rise of RESET_N samples MIRROR_ID and begins step 1, the first lock starts TIME
at 0 and begins step 2, the fuse read begins step 3 with the switch-on of D3 LOG (POWER.CAUSE and E58), and the end of
the log load begins step 4 with SESSION and the store pointer as their committed mirrors hold them; a mirror that is not
committed sets LOGX, and an uncorrectable word sets LOGUE.
The model's choices that it rests on, no rules of the spec: notes/assumptions 2, 117, 118. -/
def Obligations.StartSteps : Prop :=
  ∀ (s : State) (id : Bool),
    (s.dev.resetN = false → exec (.resetRelease id) s = .next { s with dev := { s.dev with
      resetN := true, loader := { s.dev.loader with step := 1 }, mirror := { s.dev.mirror with id := id } } }) ∧
    (s.dev.resetN = true → s.dev.everLock = false → s.dev.portsIdle = true →
      ∃ d, exec .pllCoreLock s = .next { s with dev := d } ∧ d.runs = true ∧ d.time = 0 ∧ d.sub = 0 ∧
        d.loader.step = 2 ∧ (∀ a, d.w a = s.dev.w a) ∧ d.motors = s.dev.motors) ∧
    (s.dev.runs = true → s.dev.loader.step = 2 → s.dev.bit 0x800 3 = true → s.dev.bit 0x801 3 = false →
      s.dev.power.lastOn = none →
      ∃ d, exec .fuseReadComplete s = .next { s with dev := d } ∧ d.loader.step = 3 ∧ d.bit 0x801 3 = true ∧
        d.bit 0x804 3 = true ∧ d.ev[58].cnt = s.dev.ev[58].cnt + 1 ∧ d.power.startAt[3] = s.dev.cycles ∧
        d.motors = s.dev.motors ∧ d.bridges = s.dev.bridges) ∧
    (∀ bt bs br : Bool, s.dev.runs = true → s.dev.loader.step = 3 → s.dev.domRdy 3 = true →
      (s.dev.lcState = 4 → s.dev.fuses.erased = true) →
      ∃ d, exec (.logMirrorLoadComplete bt bs br) s = .next { s with dev := d } ∧ d.loader.step = 4 ∧ d.cfgPhase = 1 ∧
        (∀ n, bs = false → s.dev.devLog.session = some n → s.dev.devLog.sesMark = commitWord [n] → d.w 0x52 = n) ∧
        (bs = true ∨ s.dev.devLog.session = none ∨ s.dev.devLog.sesMark = 0 →
          d.bit 0x40 8 = true ∧ d.w 0x52 = s.dev.w 0x52) ∧
        (bt = true → d.bit 0x40 8 = true) ∧
        (bt = true ∨ bs = true ∨ br = true → d.bit 0x32 9 = true) ∧
        (∀ c, bt = false → s.dev.devLog.newest = some c → c.pendWr = false →
          d.w32 0xB486 = BitVec.ofNat 32 c.wptr ∧ d.w32 0xB488 = c.written ∧
          (s.dev.tested = false → d.w32 0xB48A = c.readable)))

/-- Once the port may drive the flash, discovery either selects the read format of the flash and begins pass 1, or
records reason 1 for both slots and waits for a host with SRC 0 and E55.
The model's choices that it rests on, no rules of the spec: notes/assumptions 69, 92. -/
def Obligations.FlashDiscovery : Prop :=
  ∀ (s : State) (f : Sfdp), s.dev.runs = true → s.dev.loader.step = 4 → s.dev.cfgPhase = 1 →
    s.dev.memMay = true →
    ∃ d, exec (.discoveryComplete f) s = .next { s with dev := d } ∧
      (sfOk f = true → d.cfgPhase = 2 ∧ d.w 0xD009 = sfFormat f ∧ d.loader.sel = 0 ∧ d.ev = s.dev.ev ∧
        d.w 0x41 = s.dev.w 0x41 ∧ d.w 0x42 = s.dev.w 0x42) ∧
      (sfOk f = false → d.cfgPhase = 5 ∧ d.w 0x41 = 0x1000 ∧ d.w 0x42 = 0x1000 ∧ d.fld 0x40 13 12 = 0 ∧
        d.loader.step = 5 ∧ d.ev[55].cnt = s.dev.ev[55].cnt + 1) ∧
      d.motors = s.dev.motors ∧ d.bridges = s.dev.bridges

/-- Pass 1 judges slot 0 and then slot 1: a bad slot leaves its reason and section in CFGERR, a good one leaves 0; after
slot 1 the good slot with the higher SEQNUM (slot 0 on a tie) begins pass 2, and with none the module waits for a host
with SRC 0 and E55.
The model's choices that it rests on, no rules of the spec: notes/assumptions 89, 90, 92. -/
def Obligations.PassOne : Prop :=
  ∀ (s : State) (slot : Fin 2) (ws : List Word), s.dev.runs = true → s.dev.loader.step = 4 → s.dev.cfgPhase = 2 →
    s.dev.loader.sel = slot.1 → s.dev.memMay = true →
    ∃ d, exec (.pass1Complete slot ws) s = .next { s with dev := d } ∧
      (∀ r n, slotFail s.dev.part s.dev.fuses s.dev.mirror.id ws = some (r, n) →
        d.w (0x41 + slot.1) = word (r * 4096 + n % 4096)) ∧
      (slotFail s.dev.part s.dev.fuses s.dev.mirror.id ws = none → d.w (0x41 + slot.1) = 0) ∧
      (slot = 0 → d.cfgPhase = 2 ∧ d.loader.sel = 1 ∧ d.ev = s.dev.ev) ∧
      (slot = 1 → slotFail s.dev.part s.dev.fuses s.dev.mirror.id ws = none → d.cfgPhase = 3 ∧
        d.loader.sel = (if s.dev.loader.ok0 = true ∧ (img32 ws 4).toNat ≤ s.dev.loader.seq0.toNat then 0 else 1)) ∧
      (slot = 1 → slotFail s.dev.part s.dev.fuses s.dev.mirror.id ws ≠ none → s.dev.loader.ok0 = true →
        d.cfgPhase = 3 ∧ d.loader.sel = 0) ∧
      (slot = 1 → slotFail s.dev.part s.dev.fuses s.dev.mirror.id ws ≠ none → s.dev.loader.ok0 = false →
        d.cfgPhase = 5 ∧ d.fld 0x40 13 12 = 0 ∧ d.ev[55].cnt = s.dev.ev[55].cnt + 1)

/-- Pass 2: a WAIT section that is reached with its CRC that of pass 1 is counted and pauses the load for its payload in
microseconds of TIME, and the pause ends then and not before; once every section is loaded and no MAC differs, the load
completes with READY, LOCK, SRC 1, PHASE 4, the image's SEQNUM and E55, and M5 leaves the fabric. The last section's one word
is written as M5: a plain register keeps it, and a RUN bit is written 0, recorded, and written again at completion, as a
recorded GRPSTART or EN is. A section whose CRC differs from pass 1 and which writes nothing here leaves reason 14 with its
number, and a MAC that differs leaves it with 0: PHASE 6, PARTIAL set, no READY, and nothing recorded starts.
The model's choices that it rests on, no rules of the spec: notes/assumptions 2, 91. -/
def Obligations.PassTwo : Prop :=
  ∀ (s : State) (ws : List Word), s.dev.runs = true → s.dev.loader.step = 4 → s.dev.cfgPhase = 3 →
    s.dev.loader.sel ≤ 1 → s.dev.bist.run = none →
    (∀ x t, s.dev.restSections ws = x :: t → x.ty = 4 → x.applies s.dev.mirror.id = true → x.crcOk = true →
      s.dev.pass1Crcs.getD s.dev.loader.sect 0 = x.crc → s.dev.memMay = true → s.dev.loader.waitUntil = none →
      exec (.loaderWaitEnd ws true) s = .next { s with dev := { s.dev with
        loader := { s.dev.loader with
          sect := s.dev.loader.sect + 1, waitUntil := some (s.dev.cycles + 200 * (img x.payload 0).toNat) } } }) ∧
    (∀ t, s.dev.loader.waitUntil = some t → exec (.loaderWaitEnd ws false) s = .next (if t ≤ s.dev.cycles then
      { s with dev := { s.dev with loader := { s.dev.loader with waitUntil := none } } } else s)) ∧
    (s.dev.memMay = true → s.dev.loader.waitUntil = none → s.dev.restSections ws = [] → s.dev.pass1Mac = none → s.dev.loader.defer = [] →
      ∃ d, exec (.pass2Complete ws) s = .next { s with dev := d } ∧ d.bit 0x40 15 = true ∧ d.bit 0x40 14 = true ∧
        d.fld 0x40 13 12 = 1 ∧ d.cfgPhase = 4 ∧ d.w 0x43 = img ws 4 ∧ d.w 0x44 = img ws 5 ∧
        d.ev[55].cnt = s.dev.ev[55].cnt + 1 ∧ d.loader.m5 = false ∧ d.motors = s.dev.motors) ∧
    (∀ x, s.dev.memMay = true → s.dev.loader.waitUntil = none → s.dev.restSections ws = [x] → x.applies s.dev.mirror.id = false →
      s.dev.pass1Crcs.getD s.dev.loader.sect 0 ≠ x.crc →
      ∃ d, exec (.pass2Complete ws) s = .next { s with dev := d } ∧ d.cfgPhase = 6 ∧ d.bit 0x40 11 = true ∧
        d.bit 0x40 15 = s.dev.bit 0x40 15 ∧ d.bit 0x32 4 = true ∧
        d.w (0x41 + s.dev.loader.sel) = word (14 * 4096 + (s.dev.loader.sect + 1) % 4096)) ∧
    (∀ t, s.dev.memMay = true → s.dev.loader.waitUntil = none → s.dev.restSections ws = [] → s.dev.pass1Mac = some t →
      let mac := imageMac s.dev.fuses.imageKey (ws.take (bodyLen (readSections s.dev.pass1Crcs.length (ws.drop 16)).1))
      (mac = t → s.dev.loader.defer = [] → ∃ d, exec (.pass2Complete ws) s = .next { s with dev := d } ∧ d.cfgPhase = 4 ∧
        d.bit 0x40 15 = true ∧ d.bit 0x40 9 = true) ∧
      (mac ≠ t → ∃ d, exec (.pass2Complete ws) s = .next { s with dev := d } ∧ d.cfgPhase = 6 ∧ d.bit 0x40 11 = true ∧
        d.bit 0x40 15 = s.dev.bit 0x40 15 ∧ d.bit 0x32 4 = true ∧ d.loader.defer = [] ∧
        d.w (0x41 + s.dev.loader.sel) = 0xE000 ∧ ∀ g, (d.grp g).starting = (s.dev.grp g).starting)) ∧
    (∀ x a v, s.dev.memMay = true → s.dev.loader.waitUntil = none → s.dev.restSections ws = [x] →
      x.applies s.dev.mirror.id = true → x.ty ≠ 4 → x.crcOk = true → s.dev.pass1Crcs.getD s.dev.loader.sect 0 = x.crc →
      s.dev.pass1Mac = none → s.dev.loader.defer = [] → x.writes = [(a, v)] →
      (∀ r, deferField a = none → s.dev.writeOk 5 a = true → regRow a = some r → s.dev.absent a = false →
        plainWord a = true → s.dev.locked' = false →
        ∃ d, exec (.pass2Complete ws) s = .next { s with dev := d } ∧ d.cfgPhase = 4 ∧ d.bit 0x40 15 = true ∧
          ∀ i, i < 16 → (absentBits s.dev a).getLsbD i = false →
            (r.mask .rw).testBit i = true ∨ (r.mask .rwl).testBit i = true → d.bit a i = bitOf v i) ∧
      (∀ g, a = aGrp g 1 → s.dev.hasGrp g = true → s.dev.writeOk 5 a = true → s.dev.runBlocked = false →
        ∃ d, exec (.pass2Complete ws) s = .next { s with dev := d } ∧ d.cfgPhase = 4 ∧ d.bit 0x40 15 = true ∧
          d.bit a 0 = bitOf v 0 ∧ (d.grp g).running = (s.dev.grp g).running ∧
          (d.grp g).starting = (if bitOf v 0 then !(s.dev.grp g).running else (s.dev.grp g).starting))) ∧
    (∀ x y t v g, s.dev.memMay = true → s.dev.loader.waitUntil = none → s.dev.restSections ws = x :: y :: t →
      x.applies s.dev.mirror.id = true → x.ty ≠ 4 → x.crcOk = true → s.dev.pass1Crcs.getD s.dev.loader.sect 0 = x.crc →
      x.writes = [(aGrp g 1, v)] → s.dev.hasGrp g = true → s.dev.writeOk 5 (aGrp g 1) = true →
      y.applies s.dev.mirror.id = true → y.ty = 4 → y.crcOk = true →
      s.dev.pass1Crcs.getD (s.dev.loader.sect + 1) 0 = y.crc →
      ∃ d, exec (.loaderWaitEnd ws true) s = .next { s with dev := d } ∧ d.bit (aGrp g 1) 0 = false ∧
        d.loader.defer = s.dev.loader.defer ++ [(BitVec.ofNat 24 (aGrp g 1), v)] ∧ d.loader.sect = s.dev.loader.sect + 2 ∧
        d.cfgPhase = 3 ∧ (d.grp g).running = (s.dev.grp g).running) ∧
    (∀ v, s.dev.memMay = true → s.dev.loader.waitUntil = none → s.dev.restSections ws = [] → s.dev.pass1Mac = none →
      (s.dev.loader.defer = [(0xF, v)] → s.dev.writeOk 5 0xF = true → s.dev.runBlocked = false →
        ∃ d, exec (.pass2Complete ws) s = .next { s with dev := d } ∧ d.cfgPhase = 4 ∧ d.loader.defer = [] ∧
          ∀ g, s.dev.hasGrp g = true → bitOf v g.1 = true →
            d.bit (aGrp g 1) 0 = true ∧ (d.grp g).starting = !(s.dev.grp g).running) ∧
      (∀ m, s.dev.loader.defer = [(BitVec.ofNat 24 (aMot m 0), v)] → s.dev.writeOk 5 (aMot m 0) = true →
        s.dev.hasMot m = true →
        ∃ d, exec (.pass2Complete ws) s = .next { s with dev := d } ∧ d.cfgPhase = 4 ∧ d.enabled m = bitOf v 0))

/-- CFGCMD in WAITHOST or FAILED: DONE completes by hand with READY, LOCK, SRC 2, PHASE 4, CFGTIME and E55; RELOAD,
which wins over DONE, clears every RUN bit and goes back to step 4.
The model's choices that it rests on, no rules of the spec: notes/assumptions 91. -/
def Obligations.ConfigurationCommands : Prop :=
  ∀ (s : State) (k : Master), s.dev.writeOk k 0x4B = true → (s.dev.cfgPhase = 5 ∨ s.dev.cfgPhase = 6) →
    s.dev.bit 0x40 14 = false →
    (∃ d, exec (.configDone k) s = .next { s with dev := d } ∧ d.bit 0x40 15 = true ∧ d.bit 0x40 14 = true ∧
      d.fld 0x40 13 12 = 2 ∧ d.cfgPhase = 4 ∧ d.w32 0x45 = s.dev.time ∧ d.ev[55].cnt = s.dev.ev[55].cnt + 1 ∧
      d.loader.m5 = false ∧ d.motors = s.dev.motors ∧ d.bridges = s.dev.bridges) ∧
    (∀ done, ∃ d, exec (.configReload k done) s = .next { s with dev := d } ∧ d.cfgPhase = 1 ∧ d.loader.step = 4 ∧
      (∀ g, d.bit (aGrp g 1) 0 = false) ∧ d.bit 0x40 15 = s.dev.bit 0x40 15 ∧ d.ev = s.dev.ev ∧
      d.motors = s.dev.motors)

/-! ### Clocks, device faults and memory integrity (chapters 01 and 16) -/

/-- A loss of lock stops ck_core with TIME as it stands and sets TGAP; one that lasts until the detector acts holds
every ENABLE low. When lock returns, a cycle begins, the loss is a device fault with cause bit 3, and no hold remains.
The model's choices that it rests on, no rules of the spec: notes/assumptions 93. -/
def Obligations.CoreClockLossAndReturn : Prop :=
  ∀ (s : State),
    (s.dev.runs = true → ∀ held, ∃ d, exec (.pllCoreLockLoss held) s = .next { s with dev := d } ∧ d.runs = false ∧
      d.cycles = s.dev.cycles ∧ d.bit 0x7 0 = true ∧ (∀ a, a ≠ 0x7 → d.w a = s.dev.w a) ∧
      (∀ m, (d.mot m).state = (s.dev.mot m).state) ∧
      (held = true → ∀ b, (d.brg b).en = false ∧ (d.brg b).hs = false ∧ (d.brg b).ls = false)) ∧
    (s.dev.resetN = true → s.dev.everLock = true → s.dev.locked = false → s.dev.bist.run = none → ∀ cut,
      ∃ d, exec (.pllCoreLockReturn cut) s = .next { s with dev := d } ∧ d.runs = true ∧ d.heldOff = false ∧
        d.cycles = s.dev.cycles + 1 ∧ d.bit 0x32 3 = true ∧ (∀ m, (d.mot m).devHeld = none))

/-- A device fault sets the cause bit of its finding, counts in E54 and, unless it falls within 64 ticks of an earlier
one, counts in DFCNT, stamps DFTIME and sends every motor outside IDLE to FAULT. With AUTO at 1 a motor held so goes to
IDLE once HOLD frames (at least one) have passed, and stays before that.
The model's choices that it rests on, no rules of the spec: notes/assumptions 2, 32, 94. -/
def Obligations.DeviceFaults : Prop :=
  (∀ (s : State) (f : DfFind) (cut : Vector Bool 4), s.dev.runs = true → s.dev.bist.run = none →
     (∀ a, f ≠ .cfgUe a) →
     ∃ d, exec (.deviceFault [f] cut) s = .next { s with dev := d } ∧ d.bit 0x32 (dfBit f) = true ∧
       d.ev[54].cnt = s.dev.ev[54].cnt + 1 ∧
       (∀ t, s.dev.faultAt = some t → s.dev.cycles ≤ t + 64 → d.motors = s.dev.motors ∧ d.faultAt = s.dev.faultAt ∧
         d.w 0x36 = s.dev.w 0x36 ∧ d.groups = s.dev.groups ∧ d.ports = s.dev.ports) ∧
       ((∀ t, s.dev.faultAt = some t → t + 64 < s.dev.cycles) → d.faultAt = some s.dev.cycles ∧
         d.fld 0x36 15 0 = min 65535 (s.dev.fld 0x36 15 0 + 1) ∧ d.w32 0x37 = s.dev.time ∧
         (∀ m, (d.mot m).state = if (s.dev.mot m).state = .idle then .idle else .fault))) ∧
  (∀ (s : State) (m : MotorIx) (n : Nat), s.dev.runs = true → (s.dev.mot m).state = .fault →
     (s.dev.mot m).devFault = true → s.dev.bit 0x33 15 = true → (s.dev.mot m).devHeld = some n →
     (max 1 (s.dev.fld 0x33 7 0) ≤ n → ∃ d, exec (.deviceFaultHoldEnd m) s = .next { s with dev := d } ∧
       (d.mot m).state = .idle ∧ (∀ o, o ≠ m → (d.mot o).state = (s.dev.mot o).state)) ∧
     (n < max 1 (s.dev.fld 0x33 7 0) → exec (.deviceFaultHoldEnd m) s = .next s))

/-- The memory code of R407: the decoder's three results by the syndromes, the correction of every error confined to one
nibble of a code word, and the detection of every error in two nibbles. -/
def Obligations.CodeWords : Prop :=
  (∀ c : BitVec 28, syndrome c 0 = 0 → syndrome c 1 = 0 → syndrome c 2 = 0 → decode28 c = .clean (c.extractLsb' 0 16)) ∧
  (∀ (c : BitVec 28) (i : Fin 7), syndrome c 0 ≠ 0 → syndrome c 1 ≠ 0 → syndrome c 2 ≠ 0 →
    gfMul (syndrome c 1) (syndrome c 1) = gfMul (syndrome c 0) (syndrome c 2) →
    syndrome c 1 = gfMul (syndrome c 0) (gfPow i.1) →
    decode28 c = .corrected ((c ^^^ ((syndrome c 0).setWidth 28 <<<
      (if i.1 < 3 then 16 + 4 * i.1 else 4 * (i.1 - 3)))).extractLsb' 0 16)) ∧
  (∀ c : BitVec 28, ¬ (syndrome c 0 = 0 ∧ syndrome c 1 = 0 ∧ syndrome c 2 = 0) →
    ¬ (syndrome c 0 ≠ 0 ∧ syndrome c 1 ≠ 0 ∧ syndrome c 2 ≠ 0 ∧
      gfMul (syndrome c 1) (syndrome c 1) = gfMul (syndrome c 0) (syndrome c 2) ∧
      ∃ i : Fin 7, syndrome c 1 = gfMul (syndrome c 0) (gfPow i.1)) → decode28 c = .bad) ∧
  (∀ w : Word, decode28 (encode28 w) = .clean w) ∧
  (∀ (w : Word) (k : Fin 7) (e : BitVec 4), e ≠ 0 →
    decode28 (encode28 w ^^^ (e.setWidth 28 <<< (4 * k.1))) = .corrected w) ∧
  (∀ (w : Word) (k l : Fin 7) (e f : BitVec 4), k ≠ l → e ≠ 0 → f ≠ 0 →
    decode28 (encode28 w ^^^ (e.setWidth 28 <<< (4 * k.1)) ^^^ (f.setWidth 28 <<< (4 * l.1))) = .bad)

/-- A scrub read of a configuration word: with no error only the position of the pass changes; a corrected word takes
its corrected value in its configuration bits, counts in CECNT, names the word in CEADDR and queues a write-back; an
uncorrectable word is a device fault of configuration RAM. While accesses of engines go first the pass waits. The oldest
write-back ends without a change of any register.
The model's choices that it rests on, no rules of the spec: notes/assumptions 19, 95. -/
def Obligations.Scrubbing : Prop :=
  ∀ (s : State), s.dev.runs = true →
    (∀ err n, s.dev.scrubNext = n → n < 0x10000 →
      (err = 0 → ∃ d, exec (.scrubRead err) s = .next { s with dev := d } ∧ (∀ a, d.w a = s.dev.w a) ∧
        d = { s.dev with scrubPos := n + 1, words := d.words }) ∧
      (∀ v, decode28 (encode28 (s.dev.w n) ^^^ err) = .corrected v →
        ∃ d, exec (.scrubRead err) s = .next { s with dev := d } ∧
          d.w n = (s.dev.w n &&& ~~~cfgMask n) ||| (v &&& cfgMask n) ∧
          d.fld 0x3A 15 0 = min 65535 (s.dev.fld 0x3A 15 0 + 1) ∧ d.w 0x3B = word n ∧ d.w 0x3C = word (n / 65536 % 256) ∧
          d.backs = s.dev.backs ++ [(n, v)] ∧ d.scrubPos = n + 1 ∧ d.motors = s.dev.motors ∧
          s.dev.SameWords d [n, 0x31, 0x3A, 0x3B, 0x3C]) ∧
      (decode28 (encode28 (s.dev.w n) ^^^ err) = .bad → ∃ d, exec (.scrubRead err) s = .next { s with dev := d } ∧
        d.bit 0x32 0 = true ∧ d.ev[54].cnt = s.dev.ev[54].cnt + 1)) ∧
    (∀ err f firsts cut, ∃ d, exec (.scrubRead err (f :: firsts) cut) s = .next { s with dev := d } ∧
      d.scrubPos = s.dev.scrubPos) ∧
    (∀ n v rest, s.dev.backs = (n, v) :: rest →
      ∃ d, exec .correctionWriteback s = .next { s with dev := d } ∧ (∀ a, d.w a = s.dev.w a) ∧
        d = { s.dev with backs := rest, words := d.words })

/-! ### Frames, loops and engines (chapters 01 to 05) -/

/-- A group's frames: a frame start moves the timebase to tick 0 with the written PERIOD and counts the frame, or stops
the group with its four motors in IDLE when RUN is 0; before the frame has passed nothing happens. It applies the duties
that were ready, where the motor stays in RUN, brings the waiting grants in force with their comparator codes, and marks
LATE.MISS for the slots that read a FRAME count that has not closed. At tick PERIOD - 16 the delivered duties are ready,
and a duty missing or left from an earlier frame is marked late. The one grant point of a frame takes each slot's
request, or, marking LATE.REQ, its previous one, and leaves new books that wait for the frame start, over the pool that
stood when its cycle began, reduced by the throttle; a second one in the frame does nothing.
The model's choices that it rests on, no rules of the spec: notes/assumptions 2, 20, 22, 23, 24, 40, 80. -/
def Obligations.GroupFrames : Prop :=
  ∀ (s : State) (g : GroupIx), s.dev.runs = true → (s.dev.grp g).running = true →
    ((s.dev.grp g).frameAt + (s.dev.grp g).period ≤ s.dev.cycles → s.dev.bit (aGrp g 1) 0 = true →
      ∃ d, exec (.frameStart g) s = .next { s with dev := d } ∧ (d.grp g).running = true ∧
        (d.grp g).frameAt = s.dev.cycles ∧ (d.grp g).fcnt = (s.dev.grp g).fcnt + 1 ∧
        (d.grp g).period = clampNat 4000 25000 (s.dev.uw (aGrp g 0)) ∧ d.cycles = s.dev.cycles ∧
        (∀ o, o ≠ g → (d.grp o).running = (s.dev.grp o).running ∧ (d.grp o).frameAt = (s.dev.grp o).frameAt ∧
          (d.grp o).fcnt = (s.dev.grp o).fcnt) ∧
        (∀ m, grpOf m = g → (s.dev.mot m).state = .run → (d.mot m).state = .run →
          (d.mot m).ready = none ∧ (d.mot m).loopRun = false ∧
          (d.mot m).out = (if (s.dev.grp g).deadline then (s.dev.mot m).out else none) ∧
          (∀ x, (s.dev.mot m).toApply (s.dev.grp g).deadline = some x →
            (d.mot m).duty = min x.1 32768 ∧ (d.mot m).demRev = x.2) ∧
          ((s.dev.mot m).toApply (s.dev.grp g).deadline = none → (d.mot m).duty = (s.dev.mot m).duty ∧ (d.mot m).demRev = (s.dev.mot m).demRev)) ∧
        (∀ bk, (s.dev.grp g).pend = some bk →
          (d.grp g).books = bk ∧ (d.grp g).pend = none ∧ d.w (aCba g 8) = word bk.total ∧ d.w (aCba g 9) = word bk.free ∧
          ∀ j : Fin 4, (d.mot (motAt g j)).grant = bk.grant[j] ∧ d.w (aSlot g j 4) = word (d.cmpCode g j bk.grant[j])) ∧
        ((s.dev.grp g).pend = none → (d.grp g).books = (s.dev.grp g).books) ∧
        (s.dev.prmOn g = true → s.dev.domRdy (prismDom g) = true → ∀ a,
          (s.dev.acc g a).frame = true → (s.dev.acc g a).closed = false → (s.dev.acc g a).waits = false →
            d.bit (aPrm g 2) 0 = true ∧ (d.acc g a).n = 0 ∧
            ∀ m, grpOf m = g → s.dev.readsAcc m a.1 = true → d.bit (aGrp g 4) (12 + (slotOf m).1) = true)) ∧
    ((s.dev.grp g).frameAt + (s.dev.grp g).period ≤ s.dev.cycles → s.dev.bit (aGrp g 1) 0 = false →
      ∃ d, exec (.frameStart g) s = .next { s with dev := d } ∧ (d.grp g).running = false ∧
        (∀ m, grpOf m = g → (d.mot m).state = .idle) ∧ (∀ m, grpOf m ≠ g → (d.mot m).state = (s.dev.mot m).state)) ∧
    (s.dev.cycles < (s.dev.grp g).frameAt + (s.dev.grp g).period → exec (.frameStart g) s = .next s) ∧
    ((s.dev.grp g).deadline = false → (s.dev.grp g).frameAt + (s.dev.grp g).period ≤ s.dev.cycles + 16 →
      ∃ d, exec (.applyDeadline g) s = .next { s with dev := d } ∧ (d.grp g).deadline = true ∧
        ∀ m, (grpOf m = g → (∀ o, (s.dev.mot m).out = some o →
            d.mot m = { s.dev.mot m with ready := some o, out := none }) ∧
          ((s.dev.mot m).out = none → d.mot m = s.dev.mot m) ∧
          (s.dev.member m = true → (s.dev.mot m).out = none ∨ (s.dev.mot m).loopRun = false →
            d.bit (aGrp g 4) (8 + (slotOf m).1) = true)) ∧
          (grpOf m ≠ g → d.mot m = s.dev.mot m)) ∧
    ((s.dev.grp g).granted = false → s.dev.grantTick g ≤ s.dev.frameTick g →
      bitOf (s.dev.w0 0xE002) (8 + g.1) = false →
      ∃ d b, exec (.grantPoint g) s = .next { s with dev := d } ∧ (d.grp g).pend = some b ∧ (d.grp g).granted = true ∧
        (d.grp g).floorsOnly = false ∧
        b.total = (if s.dev.throttled g then
          bits (s.dev.w0 (aCba g 0)) 11 0 * bits (s.dev.w0 (aCba g 1)) 15 8 / 256 else bits (s.dev.w0 (aCba g 0)) 11 0) ∧
        (∀ m, grpOf m = g → (s.dev.member m = true → (s.dev.mot m).loopRun = false →
            d.bit (aGrp g 4) (4 + (slotOf m).1) = true) ∧
          (∀ q, (s.dev.mot m).req = some q → (d.mot m).lastReq = q ∧ (d.mot m).req = none) ∧
          ((s.dev.mot m).req = none → (d.mot m).lastReq = (s.dev.mot m).lastReq)) ∧
        (d.grp g).books = (s.dev.grp g).books ∧ ∀ m, (d.mot m).state = (s.dev.mot m).state) ∧
    ((s.dev.grp g).granted = true → exec (.grantPoint g) s = .next s)

/-- The grant procedure of R137. For any four claimants, pool and pointers, the grants and the credits left make up the
pool, a grant never exceeds its slot's ceiling, and a slot that is no member gets nothing. Each floor, no higher than
its ceiling, is met from what the floors of lower classes, and of lower slots of its class, leave of the pool; a
floors-only grant point gives no more. Then each class in turn gets its wants in full while they do not exceed what is
left; the class whose wants do exceed it shares what is left in proportion, each slot with at most one credit of the
remainder; and no later class gets more than its floors. -/
def Obligations.CreditsConserved : Prop :=
  ∀ (asks : Vector Ask 4) (pool : Nat) (floorsOnly : Bool) (rr : Vector (Fin 4) 4),
    let r := grants asks pool floorsOnly rr
    let floors := grants asks pool true rr
    let least (j : Fin 4) : Nat := min asks[j].floor asks[j].ceil
    let want (j : Fin 4) : Nat := min asks[j].req asks[j].ceil - floors.1.1[j]
    let below (n : Nat) : Nat :=
      ((List.finRange 4).map (fun j => if asks[j].mem ∧ asks[j].cls < n then want j else 0)).sum
    r.1.1[0] + r.1.1[1] + r.1.1[2] + r.1.1[3] + r.1.2 = pool ∧
    (∀ j : Fin 4, (asks[j].mem = false → r.1.1[j] = 0) ∧ r.1.1[j] ≤ asks[j].ceil ∧ floors.1.1[j] ≤ r.1.1[j]) ∧
    ((∀ j : Fin 4, asks[j].cls < 4) → ∀ j : Fin 4, asks[j].mem = true →
      floors.1.1[j] = min (least j) (pool - ((List.finRange 4).map (fun i =>
        if asks[i].mem ∧ (asks[i].cls < asks[j].cls ∨ asks[i].cls = asks[j].cls ∧ i < j) then least i else 0)).sum) ∧
      (floorsOnly = true → r = floors) ∧
      (floorsOnly = false → (∀ i : Fin 4, asks[i].ceil ≤ 4095) →
        let c := asks[j].cls
        (below (c + 1) ≤ floors.1.2 → r.1.1[j] = floors.1.1[j] + want j) ∧
        (floors.1.2 < below c → r.1.1[j] = floors.1.1[j]) ∧
        (below c ≤ floors.1.2 → floors.1.2 < below (c + 1) →
          let share := (floors.1.2 - below c) * want j / (below (c + 1) - below c)
          floors.1.1[j] + share ≤ r.1.1[j] ∧ r.1.1[j] ≤ floors.1.1[j] + share + 1)))

/-- A regulator's output stays within its limits and its integrator within theirs. A loop computation delivers one duty, one
direction and one request of at most 4 095 credits, in every engine state: none is asked and the duty is 0 where the engine
drives nothing. A kiss search whose time has passed ends with KFAIL and leaves the kiss point.
The model's choices that it rests on, no rules of the spec: notes/assumptions 2, 36, 132. -/
def Obligations.LoopComputations : Prop :=
  (∀ (kp ki e lo hi acc : Int) (sh : Nat), lo ≤ hi →
    lo ≤ (pi kp ki sh e lo hi acc).1 ∧ (pi kp ki sh e lo hi acc).1 ≤ hi ∧
    lo * 32768 ≤ (pi kp ki sh e lo hi acc).2 ∧ (pi kp ki sh e lo hi acc).2 ≤ hi * 32768 + 32767) ∧
  ∀ (s : State) (m : MotorIx), s.dev.runs = true →
    ((s.dev.grp (grpOf m)).running = true → (s.dev.mot m).loopRun = false → s.dev.inputsClosed m = true →
      ∃ d duty rev r, exec (.loopComputation m) s = .next { s with dev := d } ∧ (d.mot m).loopRun = true ∧
        (d.mot m).out = some (duty, rev) ∧ (d.mot m).req = some r ∧ r.1 ≤ 4095 ∧
        ((s.dev.mot m).state = .idle ∨ (s.dev.mot m).state = .fault ∨ (s.dev.mot m).state = .coast ∨
          (s.dev.mot m).state = .catching → duty = 0 ∧ rev = (s.dev.mot m).lastDir ∧ r = (0, false)) ∧
        ((s.dev.mot m).state = .revpend ∨ (s.dev.mot m).state = .brake → duty = 0 ∧ r = (0, false)) ∧
        ∀ n, (d.mot n).state = (s.dev.mot n).state) ∧
    ((s.dev.mot m).loopRun = true → exec (.loopComputation m) s = .next s) ∧
    (s.dev.searching m = true → (s.dev.mot m).kiss.timer.ended = true →
      ∃ d, exec (.kissSearchTimeout m) s = .next { s with dev := d } ∧ d.searching m = false ∧
        d.bit (aMot m 0x15C) 2 = true ∧ (d.mot m).kiss.timer = .off ∧ (d.mot m).kiss.rejected = none ∧
        d.kissPt m = s.dev.kissPt m ∧ s.dev.SameMotors d m ∧ s.dev.SameWords d [aMot m 0x15B, aMot m 0x15C])

/-- The applied demand, which MOT[m].DEMAND shows. With DSLEW not 0 a loop computation that drives by demand moves it
from its previous value toward the selected one by at most DSLEW: all the way where that is no further, and else by all
of DSLEW in its direction. With DSLEW 0 it takes the selected one at once. -/
def Obligations.DemandSlew : Prop :=
  (∀ (step : Nat) (old new : Int),
    (step ≠ 0 → (slew step old new - old).natAbs ≤ step) ∧ (step = 0 → slew step old new = new) ∧
    ((new - old).natAbs ≤ step → slew step old new = new) ∧
    (step ≠ 0 → step < (new - old).natAbs → slew step old new = if old < new then old + step else old - step)) ∧
  ∀ (s : State) (m : MotorIx), s.dev.runs = true → (s.dev.grp (grpOf m)).running = true →
    (s.dev.mot m).loopRun = false → s.dev.inputsClosed m = true →
    (s.dev.mot m).state = .run ∨ (s.dev.mot m).state = .revpend ∨ (s.dev.mot m).state = .brake →
    (s.dev.selectDemand m).1 ≠ 0 ∨ s.dev.ifld (aMot m 0x100) 9 8 ≠ 3 →
    ∃ d, exec (.loopComputation m) s = .next { s with dev := d } ∧
      d.w (aMot m 0x107) =
        iword (slew (s.dev.iuw (aMot m 0x106)) (s.dev.sw (aMot m 0x107)) (s.dev.selectDemand m).2)

/-- A carrier start begins a period of the group's length at the present cycle, with an on-time inside it that, like the
gap around it, is never shorter than 60 ticks; the marks of the old period are shown and no leg stays forced. Before the
period has passed nothing happens. At a PWM edge the legs follow R49: off without the right to drive; by the policy in FAULT;
low side on at OV3, and at OV2 for a regenerating motor; low side on in BRAKE; off or low side on in REVPEND by PACT; off in
COAST, CATCH and the phases of START that do not drive; and else the pattern of the sector (R51) with the PWM mode (R53), its
high sides held low while they are forced (R61).
The model's choices that it rests on, no rules of the spec: notes/assumptions 2, 27, 28. -/
def Obligations.CarriersAndOutputs : Prop :=
  ∀ (s : State) (m : MotorIx), s.dev.runs = true → (s.dev.grp (grpOf m)).running = true →
    60 ≤ (s.dev.grp (grpOf m)).period →
    ((s.dev.mot m).car.start + (s.dev.mot m).car.len ≤ s.dev.cycles →
      ∃ d, exec (.carrierStart m) s = .next { s with dev := d } ∧ (d.mot m).car.start = s.dev.cycles ∧
        (d.mot m).car.len = (s.dev.grp (grpOf m)).period ∧ (d.mot m).car.onBeg ≤ (d.mot m).car.onEnd ∧
        (d.mot m).car.onEnd ≤ (d.mot m).car.len ∧
        ((d.mot m).car.onEnd = (d.mot m).car.onBeg ∨ (d.mot m).car.onBeg + 60 ≤ (d.mot m).car.onEnd) ∧
        ((d.mot m).car.onEnd - (d.mot m).car.onBeg = (d.mot m).car.len ∨
          (d.mot m).car.onEnd - (d.mot m).car.onBeg + 60 ≤ (d.mot m).car.len) ∧
        (d.mot m).forced = Vector.replicate 3 false ∧ (d.mot m).ceilhit = (s.dev.mot m).car.hit ∧
        (d.mot m).refp = ((s.dev.mot m).car.refDue && (s.dev.mot m).car.drove.getD (s.dev.mot m).drives) ∧
        (∀ n, (d.mot n).state = (s.dev.mot n).state)) ∧
    (s.dev.cycles < (s.dev.mot m).car.start + (s.dev.mot m).car.len → exec (.carrierStart m) s = .next s) ∧
    ∃ d, exec (.pwmEdge m) s = .next { s with dev := d } ∧ (∀ n, (d.mot n).state = (s.dev.mot n).state) ∧
      s.dev.SameWords d [aCur m 4, aCur m 7] ∧ (s.dev.bit (aCur m 5) 0 = false → ∀ a, d.w a = s.dev.w a) ∧
      ∀ ph, (s.dev.mayDrive m = false → (d.brg (bridgeOf m ph)).en = false) ∧
        ((s.dev.mot m).state = .fault → (s.dev.mot m).act = .float → (d.brg (bridgeOf m ph)).en = false) ∧
        (s.dev.mayDrive m = true → (s.dev.mot m).state = .fault → (s.dev.mot m).act = .floatThenClamp →
          (d.brg (bridgeOf m ph)).en = (s.dev.mot m).clampNow ∧ (d.brg (bridgeOf m ph)).pulse = false) ∧
        (s.dev.mayDrive m = true → ((s.dev.mot m).state = .fault ∧ (s.dev.mot m).act = .clamp) ∨ (s.dev.mot m).state = .brake →
          (d.brg (bridgeOf m ph)).en = true ∧ (d.brg (bridgeOf m ph)).pulse = false) ∧
        (s.dev.mayDrive m = true → (s.dev.mot m).state ≠ .fault →
          s.dev.level (grpOf m) = 3 ∨ s.dev.level (grpOf m) = 2 ∧ s.dev.regenerating m = true →
          (d.brg (bridgeOf m ph)).en = true ∧ (d.brg (bridgeOf m ph)).pulse = false) ∧
        (s.dev.mayDrive m = true → s.dev.level (grpOf m) ≤ 1 ∨ s.dev.level (grpOf m) = 2 ∧ s.dev.regenerating m = false →
          ((s.dev.mot m).state = .revpend →
            (d.brg (bridgeOf m ph)).en = s.dev.pact m ∧ (d.brg (bridgeOf m ph)).pulse = false) ∧
          ((s.dev.mot m).state = .coast ∨ (s.dev.mot m).state = .catching ∨ (s.dev.mot m).state = .start ∧
              (s.dev.mot m).phase ≠ .align1 ∧ (s.dev.mot m).phase ≠ .align2 ∧ (s.dev.mot m).phase ≠ .ramp →
            (d.brg (bridgeOf m ph)).en = false) ∧
          ((s.dev.mot m).drives = true → s.dev.bit (aCur m 5) 0 = false →
            let leg := legs (s.dev.mot m).sector (s.dev.mot m).drvRev
            let free := !s.dev.bit (aCur m 4) 0 && !(s.dev.mot m).forced[ph]
            let car := (d.mot m).car
            let on := car.inOn (s.dev.carTick m) && !s.dev.bit (aCur m 4) 0
            let x := d.brg (bridgeOf m ph)
            (ph ≠ leg.1 → ph ≠ leg.2.1 → x.en = false) ∧
            (s.dev.pwmMode m = .hpwm →
              (ph = leg.1 → x.en = (on || car.inRefresh (s.dev.carTick m)) ∧
                x.pulse = (car.inOn (s.dev.carTick m) && free)) ∧
              (ph = leg.2.1 → x.en = true ∧ x.pulse = false)) ∧
            (s.dev.pwmMode m = .lpwm →
              (ph = leg.1 → x.en = true ∧
                x.pulse = (!car.inRefresh (s.dev.carTick m) && !(s.dev.mot m).forced[ph])) ∧
              (ph = leg.2.1 → x.en = on ∧ x.pulse = false)) ∧
            (s.dev.pwmMode m = .comp →
              (ph = leg.1 → x.en = true ∧ x.pulse = (car.inSpan (s.dev.carTick m) && free)) ∧
              (ph = leg.2.1 → x.en = true ∧ x.pulse = false))))

/-- Commutation: a sensored engine whose angle has left its sector drives the next one; a sensorless engine does so too,
in RUN with no failed sector in a row where it found its crossing and with one more where it did not, and in RAMP with
one more valid sector or none; an angle still inside leaves the module as it stands. The end of the window with no
crossing counts in the window count and fails the sector, in RUN and in RAMP. A sample tick takes the three outputs from
the three terminal voltages and sets the latches of the high ones; in a sensorless engine that looks for its crossing a
level before it is remembered, and a first level after it is an early crossing. No other tick samples.
The model's choices that it rests on, no rules of the spec: notes/assumptions 2, 30, 110, 123, 128. -/
def Obligations.CommutationAndSampling : Prop :=
  ∀ (s : State) (m : MotorIx), s.dev.runs = true → (s.dev.grp (grpOf m)).running = true →
    (∀ n, s.dev.extrapolates m = true → s.dev.sensorless m = false → (s.dev.mot m).nextSector s.dev.cycles = some n →
      ∃ d, exec (.commutation m) s = .next { s with dev := d } ∧ (d.mot m).sector = n ∧
        (∀ o, (d.mot o).state = (s.dev.mot o).state) ∧ (∀ a, d.w a = s.dev.w a)) ∧
    (∀ n, s.dev.extrapolates m = true → s.dev.sensorless m = true →
      (s.dev.mot m).nextSector s.dev.cycles = some n →
      ((s.dev.mot m).state = .run → (s.dev.mot m).sec.found.isSome = true → (s.dev.mot m).sec.amp ≠ some false →
        ∃ d, exec (.commutation m) s = .next { s with dev := d } ∧ (d.mot m).sector = n ∧ (d.mot m).failcnt = 0 ∧
          (d.mot m).hovcnt = (s.dev.mot m).hovcnt ∧ (d.mot m).sec = { began := s.dev.cycles } ∧
          (d.mot m).obs.sectors = (s.dev.mot m).obs.sectors + 1 ∧ (∀ o, (d.mot o).state = (s.dev.mot o).state) ∧
          (∀ a, d.w a = s.dev.w a)) ∧
      ((s.dev.mot m).state = .run → (s.dev.mot m).sec.found = none →
        min 15 ((s.dev.mot m).failcnt + 1) < max 1 (s.dev.ifld (aMot m 0x89) 11 8) →
        ∃ d, exec (.commutation m) s = .next { s with dev := d } ∧ (d.mot m).sector = n ∧
          (d.mot m).failcnt = min 15 ((s.dev.mot m).failcnt + 1) ∧ (d.mot m).sec = { began := s.dev.cycles } ∧
          (∀ o, (d.mot o).state = (s.dev.mot o).state) ∧ (∀ a, d.w a = s.dev.w a)) ∧
      ((s.dev.mot m).state = .start → (s.dev.mot m).phase = .ramp →
        (s.dev.mot m).hovcnt + 1 < max 1 (s.dev.ifld (aMot m 0x89) 15 12) →
        ∃ d, exec (.commutation m) s = .next { s with dev := d } ∧ (d.mot m).sector = n ∧
          (d.mot m).hovcnt = (if (s.dev.mot m).sec.found.isSome && (s.dev.mot m).sec.amp ≠ some false then
            min 15 ((s.dev.mot m).hovcnt + 1) else 0) ∧ (d.mot m).sec = { began := s.dev.cycles } ∧
          (∀ o, (d.mot o).state = (s.dev.mot o).state) ∧ (∀ a, d.w a = s.dev.w a))) ∧
    (s.dev.extrapolates m = false ∨ (s.dev.mot m).nextSector s.dev.cycles = none → exec (.commutation m) s = .next s) ∧
    (s.dev.sensorless m = true →
      (s.dev.mot m).state = .run ∨ (s.dev.mot m).state = .start ∧ (s.dev.mot m).phase = .ramp →
      (s.dev.mot m).sec.closed = false → s.dev.windowPast m = true →
      ∃ d, exec (.zcWindowClose m) s = .next { s with dev := d } ∧
        d.fld (aMot m 0x94) 15 0 = min 65535 (s.dev.fld (aMot m 0x94) 15 0 + 1) ∧ (d.mot m).sec.closed = true ∧
        (d.mot m).sec.failed = (s.dev.mot m).sec.failed ||| 1 ∧ s.dev.SameMotors d m ∧
        s.dev.SameWords d [aMot m 0x94]) ∧
    ((s.dev.mot m).sec.closed = true ∨ s.dev.windowPast m = false → exec (.zcWindowClose m) s = .next s) ∧
    ∀ u v w : Int,
      (s.dev.atSampleTick m = false → exec (.sampleTick m u v w) s = .next s) ∧
      (s.dev.glintOn (grpOf m) = true → s.dev.atSampleTick m = true →
        (s.dev.sensorless m = false →
          ∃ d, exec (.sampleTick m u v w) s = .next { s with dev := d } ∧
            (∀ ph : Fin 3, d.bit (aCur m 5) (2 + ph.1) = (s.dev.windowStart m).phaseOut m ph (ofPhase (u, v, w) ph) ∧
              d.bit (aCur m 4) (2 + ph.1) = (s.dev.bit (aCur m 4) (2 + ph.1) ||
                (d.bit (aCur m 5) (2 + ph.1) && !s.dev.underCheck 2 (bridgeOf m ph).1))) ∧
            s.dev.SameMotors d m ∧ s.dev.SameWords d [aCur m 4, aCur m 5]) ∧
        (∀ lvl, s.dev.sensorless m = true → (s.dev.mot m).state = .run →
          lvl = (s.dev.windowStart m).phaseOut m (legs (s.dev.mot m).sector (s.dev.mot m).drvRev).2.2
            (ofPhase (u, v, w) (legs (s.dev.mot m).sector (s.dev.mot m).drvRev).2.2) →
          (s.dev.mot m).sec.found = none → (s.dev.mot m).sec.closed = false → s.dev.windowPast m = false →
          s.dev.ifld (aMot m 0x8D) 15 8 * predict (s.dev.mot m).predSpeed ≤
            (s.dev.cycles - (s.dev.mot m).sec.began) * 256 →
          (lvl ≠ slopeRising (s.dev.mot m).sector (s.dev.mot m).drvRev →
            ∃ d, exec (.sampleTick m u v w) s = .next { s with dev := d } ∧
              (d.mot m).sec = { (s.dev.mot m).sec with last := some false } ∧ s.dev.SameMotors d m ∧
              s.dev.SameWords d [aCur m 4, aCur m 5]) ∧
          (lvl = slopeRising (s.dev.mot m).sector (s.dev.mot m).drvRev → (s.dev.mot m).sec.last = none →
            ∃ d, exec (.sampleTick m u v w) s = .next { s with dev := d } ∧ (d.mot m).sec.closed = true ∧
              (d.mot m).sec.failed = (s.dev.mot m).sec.failed ||| 1 ∧
              d.fld (aMot m 0x94) 15 0 = min 65535 (s.dev.fld (aMot m 0x94) 15 0 + 1) ∧ s.dev.SameMotors d m ∧
              s.dev.SameWords d [aMot m 0x94, aCur m 4, aCur m 5])))

/-- The phases of a sensorless start and what follows RUN, each at the end of its time: ALIGN1 to ALIGN2 in sector
ALSEC, ALIGN2 to RAMP, a ramp without handover to the next attempt or to a start failure, BACKOFF to the next ALIGN1,
COAST to LISTEN, CATCH without an edge to ALIGN1, and BRAKE to RUN with the demanded direction; the stability window and
the second without a sync loss end with their counts.
The model's choices that it rests on, no rules of the spec: notes/assumptions 2, 30, 31, 32, 107. -/
def Obligations.EnginePhases : Prop :=
  ∀ (s : State) (m : MotorIx), s.dev.runs = true →
    ((s.dev.mot m).timer.ended = true → (s.dev.mot m).state = .start →
      ((s.dev.mot m).phase = .align1 → ∃ d, exec (.align1End m) s = .next { s with dev := d } ∧
        (d.mot m).state = .start ∧ (d.mot m).phase = .align2 ∧ (d.mot m).sector = s.dev.alsec m) ∧
      ((s.dev.mot m).phase = .align2 → ∃ d, exec (.align2End m) s = .next { s with dev := d } ∧
        (d.mot m).state = .start ∧ (d.mot m).phase = .ramp ∧
        (d.mot m).sector = (if (s.dev.mot m).drvRev then (s.dev.alsec m + 4) % 6 else (s.dev.alsec m + 2) % 6) ∧
        (d.mot m).v16.natAbs = s.dev.iuw (aMot m 0x84) * 65536) ∧
      ((s.dev.mot m).phase = .ramp → (s.dev.mot m).attempt ≤ s.dev.ifld (aMot m 0x80) 11 8 →
        ∃ d, exec (.rampTimeout m) s = .next { s with dev := d } ∧ (d.mot m).state = .start ∧
          (d.mot m).phase = .backoff ∧ (d.mot m).failr = 1 ∧ (d.mot m).attempt = (s.dev.mot m).attempt) ∧
      ((s.dev.mot m).phase = .ramp → s.dev.ifld (aMot m 0x80) 11 8 < (s.dev.mot m).attempt →
        ∃ d, exec (.rampTimeout m) s = .next { s with dev := d } ∧ (d.mot m).state = .fault ∧
          d.bit (aMot m 2) 5 = true) ∧
      ((s.dev.mot m).phase = .backoff → ∃ d, exec (.backoffEnd m) s = .next { s with dev := d } ∧
        (d.mot m).state = .start ∧ (d.mot m).phase = .align1 ∧ (d.mot m).attempt = (s.dev.mot m).attempt + 1 ∧
        (d.mot m).drvRev = (s.dev.mot m).demRev)) ∧
    ((s.dev.mot m).timer.ended = true → (s.dev.mot m).state = .coast → (s.dev.mot m).phase = .coast →
      ∃ d, exec (.coastEnd m) s = .next { s with dev := d } ∧ (d.mot m).state = .catching ∧ (d.mot m).phase = .listen ∧
        (d.mot m).spdv = false) ∧
    ((s.dev.mot m).catt.ended = true → (s.dev.mot m).state = .catching →
      ∃ d, exec (.catchTimeout m) s = .next { s with dev := d } ∧ (d.mot m).state = .start ∧
        (d.mot m).phase = .align1 ∧ (d.mot m).attempt = 1) ∧
    ((s.dev.mot m).timer.ended = true → (s.dev.mot m).state = .brake → (s.dev.mot m).phase = .none →
      s.dev.sensorless m = false → ∃ d, exec (.brakeEnd m) s = .next { s with dev := d } ∧ (d.mot m).state = .run ∧
        (d.mot m).drvRev = (s.dev.mot m).demRev) ∧
    ((s.dev.mot m).stab.ended = true → exec (.stabilityWindowEnd m) s =
      .next { s with dev := s.dev.onMot m (fun x => { x with stab := .off }) }) ∧
    ((s.dev.mot m).state = .run → (s.dev.mot m).rect.ended = true → exec (.reccntReset m) s =
      .next { s with dev := s.dev.onMot m (fun x => { x with reccnt := 0, rect := .off }) }) ∧
    ((s.dev.mot m).timer.ended = false → exec (.align1End m) s = .next s ∧ exec (.align2End m) s = .next s ∧
      exec (.rampTimeout m) s = .next s ∧ exec (.backoffEnd m) s = .next s ∧ exec (.coastEnd m) s = .next s ∧
      exec (.brakeEnd m) s = .next s)

/-- The commands of a motor: EN written 1 enables and leaves the state, EN written 0 sends it to IDLE; a write of FLT
clears the bits that it names, but for those that the device has set in the same cycle, in FAULT a report still in force
with a latched action sets its bit again, and FAULT ends where FLT then reads 0; a command edge ends a period and a lost
command is marked; HDEM becomes the host demand with a restarted timeout, which ends with the cause of a lost demand;
HREL asks for a release; KISSREF_HI loads KISS.
The model's choices that it rests on, no rules of the spec: notes/assumptions 26, 107. -/
def Obligations.MotorCommands : Prop :=
  ∀ (s : State) (k : Master) (m : MotorIx) (v : Word), s.dev.hasMot m = true →
    (s.dev.writeOk k (aMot m 0) = true →
      (∃ d, exec (.motorEnable k m v) s = .next { s with dev := d } ∧ d.enabled m = true ∧
        (d.mot m).state = (s.dev.mot m).state ∧ s.dev.SameMotors d m ∧ s.dev.SameWords d [aMot m 0]) ∧
      (∃ d, exec (.motorDisable k m v) s = .next { s with dev := d } ∧ d.enabled m = false ∧ (d.mot m).state = .idle ∧
        (∀ n, n ≠ m → (d.mot n).state = (s.dev.mot n).state))) ∧
    (s.dev.writeOk k (aMot m 2) = true →
      let w := s.dev.w (aMot m 2) &&& ~~~(v &&& 0x7F &&& ~~~(s.dev.freshBits (aMot m 2)))
      ∃ d, exec (.fltClear k m v) s = .next { s with dev := d } ∧
        ((s.dev.mot m).state ≠ .fault → d.w (aMot m 2) = w ∧ d.motors = s.dev.motors ∧ s.dev.SameWords d [aMot m 2]) ∧
        ((s.dev.mot m).state = .fault → d.w (aMot m 2) = w ||| s.dev.stillReported m ∧
          (d.mot m).state = (if d.w (aMot m 2) = 0 then .idle else .fault)) ∧
        ∀ n, n ≠ m → (d.mot n).state = (s.dev.mot n).state) ∧
    (s.dev.writeOk k (aMot m 0x103) = true →
      ∃ d, exec (.hdemWrite k m v) s = .next { s with dev := d } ∧ d.w (aMot m 0x103) = v ∧
        d.bit (aMot m 0x101) 2 = false ∧
        ((d.mot m).hostNew = true ∨ ((d.mot m).hostOk = true ∧ (d.mot m).hostD = v.toInt)) ∧
        ((d.mot m).hostT = .off ↔ s.dev.iuw (aMot m 0x104) = 0) ∧ s.dev.SameMotors d m ∧
        s.dev.SameWords d [aMot m 0x101, aMot m 0x103]) ∧
    (s.dev.writeOk k (aMot m 0x102) = true → exec (.hrel k m v) s =
      .next { s with dev := s.dev.onMot m (fun x => { x with hostRel := true, hostNew := false, hostT := .off }) }) ∧
    (s.dev.writeOk k (aMot m 0x158) = true → s.dev.locked' = false →
      ∃ d, exec (.kissrefHiWrite k m v) s = .next { s with dev := d } ∧ d.w (aMot m 0x158) = v ∧
        d.kissPt m = v ++ s.dev.w (aMot m 0x157) ∧ d.motors = s.dev.motors ∧
        s.dev.SameWords d [aMot m 0x158, aMot m 0x159, aMot m 0x15A]) ∧
    (s.dev.runs = true → (s.dev.mot m).hostT.ended = true →
      ∃ d, exec (.hostDemandTimeout m) s = .next { s with dev := d } ∧ (d.mot m).hostOk = false ∧
        (d.mot m).hostT = .off ∧ d.bit (aMot m 0x101) 2 = true ∧ d.bit (0xF00 + m.1) 8 = true ∧
        (d.ev[m.1]'(by have := m.2; omega)).cnt = (s.dev.ev[m.1]'(by have := m.2; omega)).cnt + 1 ∧ s.dev.SameMotors d m) ∧
    (∀ high t, s.dev.runs = true → 2 ≤ s.dev.cmdForm m → (s.dev.mot m).cmd.edgeAt = some t →
      ∃ d, exec (.cmdEdge m high) s = .next { s with dev := d } ∧ (d.mot m).cmd.edgeAt = some s.dev.cycles ∧
        (d.mot m).cmd.done = true ∧ (d.mot m).cmd.doneAt = s.dev.cycles ∧ (d.mot m).cmd.lost = false ∧
        (d.mot m).cmd.x = (if s.dev.cmdForm m = 2 then
          min high (max 1 (s.dev.cycles - t) - 1) * 65536 / max 1 (s.dev.cycles - t)
          else recip 800000000 (max 1 (s.dev.cycles - t))) ∧ s.dev.SameMotors d m) ∧
    (s.dev.runs = true → 2 ≤ s.dev.cmdForm m → (s.dev.mot m).cmd.done = true →
      (s.dev.mot m).cmd.doneAt + 40000000 ≤ s.dev.cycles →
      ∃ d, exec (.cmdLostTimeout m) s = .next { s with dev := d } ∧ (d.mot m).cmd.lost = true ∧
        d.bit (aMot m 0x49) 2 = true ∧ d.bit (aMot m 0x49) 0 = false ∧ d.w (aMot m 0x48) = s.dev.w (aMot m 0x48) ∧
        s.dev.SameMotors d m)

/-! ### Gate drivers, comparators and the chopper (chapters 06 to 08) -/

/-- Half-bridges. After the dead time the selected switch turns on, and DRV and DSCFG come into force for it (with a
high current output the current latch may then set and turn it off again). Blanking ends for the switch that is on, and
VDS above its threshold starts the filter. VDS that has been above it for 20 ticks is a desaturation: it, and a
bootstrap condition, set their flag, count, stamp a first record and report; VDS below it is none; the bootstrap
condition's end takes back its level.
The model's choices that it rests on, no rules of the spec: notes/assumptions 2, 48. -/
def Obligations.HalfBridges : Prop :=
  ∀ (s : State) (b : BridgeIx), s.dev.runs = true →
    (∃ d, exec (.deadTimeEnd b) s = .next { s with dev := d } ∧
      s.dev.SameWords d [aCur (motOfBridge b) 4, aCur (motOfBridge b) 7] ∧
      (∀ c, motOfBridge c ≠ motOfBridge b → d.brg c = s.dev.brg c) ∧
      (s.dev.bit (aCur (motOfBridge b) 5) 0 = false → (∀ a, d.w a = s.dev.w a) ∧
        (d.brg b).hs = ((s.dev.brg b).hs || s.dev.hsMay b) ∧ (d.brg b).ls = ((s.dev.brg b).ls || s.dev.lsMay b) ∧
        ((s.dev.brg b).hs = false → s.dev.hsMay b = true → (d.brg b).onAt = s.dev.cycles ∧
          d.iw (aGd b 0) = s.dev.w (aGd b 0) ∧ d.iw (aGd b 1) = s.dev.w (aGd b 1)) ∧
        ∀ c, c ≠ b → d.brg c = s.dev.brg c)) ∧
    (∀ vds, s.dev.dieDrives (grpOfBridge b) = true → (s.dev.brg b).isOn = true →
      (s.dev.brg b).onAt + s.dev.blankTicks b ≤ s.dev.cycles →
      (s.dev.desatOn b (s.dev.brg b).hs = true → s.dev.vdsHigh b vds = true →
        exec (.blankingEnd b vds) s = .next { s with dev := s.dev.onBrg b (fun x =>
          { x with blanked := true, aboveAt := some (x.aboveAt.getD s.dev.cycles) }) }) ∧
      (s.dev.desatOn b (s.dev.brg b).hs = false ∨ s.dev.vdsHigh b vds = false →
        exec (.blankingEnd b vds) s = .next { s with dev := s.dev.onBrg b (fun x =>
          { x with blanked := true, aboveAt := none }) } ∧
        exec (.desatDetect b vds) s = .next { s with dev := s.dev.onBrg b (fun x =>
          { x with blanked := true, aboveAt := none }) })) ∧
    (∀ vds t, s.dev.dieDrives (grpOfBridge b) = true → (s.dev.brg b).isOn = true → (s.dev.brg b).detected = false →
      s.dev.desatOn b (s.dev.brg b).hs = true → s.dev.vdsHigh b vds = true → (s.dev.brg b).aboveAt = some t →
      t + 20 ≤ s.dev.cycles → (s.dev.brg b).onAt + s.dev.blankTicks b ≤ s.dev.cycles →
      ∃ d, exec (.desatDetect b vds) s = .next { s with dev := d } ∧
        d.bit (aGd b 3) (if (s.dev.brg b).hs then 0 else 1) = true ∧
        d.fld (aGd b 8) 7 0 = min 255 (s.dev.fld (aGd b 8) 7 0 + 1) ∧ (d.brg b).detected = true ∧
        (s.dev.w (aGd b 3) = 0 → d.w (aGd b 5) = lo16 s.dev.time ∧ d.w (aGd b 6) = hi16 s.dev.time) ∧
        d.reports = s.dev.reports ++ [{ motor := motOfBridge b, phase := phaseOf b, cause := .desat, at' := s.dev.cycles }] ∧
        d.motors = s.dev.motors) ∧
    (s.dev.dieDrives (grpOfBridge b) = true → (s.dev.brg b).hs = true → (s.dev.brg b).bsuv = false →
      max (s.dev.brg b).onAt ((s.dev.brg b).relAt.getD 0) + 100 ≤ s.dev.cycles →
      ∃ d, exec (.bootstrapUvAssert b) s = .next { s with dev := d } ∧ d.bit (aGd b 3) 2 = true ∧
        d.fld (aGd b 8) 15 8 = min 255 (s.dev.fld (aGd b 8) 15 8 + 1) ∧ (d.brg b).bsuv = true ∧
        (d.mot (motOfBridge b)).level.getLsbD 0 = true ∧
        d.reports = s.dev.reports ++ [{ motor := motOfBridge b, phase := phaseOf b, cause := .bsuv, at' := s.dev.cycles }] ∧
        s.dev.SameMotors d (motOfBridge b)) ∧
    ((s.dev.brg b).bsuv = true →
      ∃ d, exec (.bootstrapUvRelease b) s = .next { s with dev := d } ∧ (d.brg b).bsuv = false ∧
        (d.mot (motOfBridge b)).level.getLsbD 0 =
          (List.finRange 3).any (fun ph => (d.brg (bridgeOf (motOfBridge b) ph)).bsuv) ∧
        (∀ a, d.w a = s.dev.w a) ∧ d.reports = s.dev.reports ∧ s.dev.SameMotors d (motOfBridge b) ∧
        ∀ c, c ≠ b → d.brg c = s.dev.brg c)

/-- Gate-driver dies. An undervoltage sets GDUV and its level and reports to the four motors; its end takes the level
back. A report reaches its engine 4 ticks after its detection, and unless the motor is in IDLE sets the cause and takes
the policy code of FPOL: REPORT leaves the state, and any other latches FLT and enters FAULT with its action, or in
FAULT takes its action only where that is the later one of R72; it leaves the other motors. A lost supply turns every
switch of the group off, clears its comparators and ends their reports; a returned supply starts the die anew, and a
start ends with RDY.
The model's choices that it rests on, no rules of the spec: notes/assumptions 49, 50, 51. -/
def Obligations.GateDies : Prop :=
  ∀ (s : State) (g : GroupIx), s.dev.runs = true →
    (s.dev.domOn (gateDom g) = true → (s.dev.die g).everRdy = true → (s.dev.die g).gduv = false →
      ∃ d, exec (.gateSupplyUvAssert g) s = .next { s with dev := d } ∧ (d.die g).gduv = true ∧
        d.bit (aGdg g 1) 0 = true ∧ (s.dev.bit (aGdg g 1) 0 = false → d.w (aGdg g 3) = lo16 s.dev.time) ∧
        d.reports = s.dev.reports ++
          (motsOf g).map (fun m => { motor := m, phase := 0, cause := .gduv, at' := s.dev.cycles }) ∧
        ∀ m, (grpOf m = g → (d.mot m).level.getLsbD 1 = true) ∧ (grpOf m ≠ g → d.mot m = s.dev.mot m)) ∧
    (∃ d, exec (.gateSupplyUvRelease g) s = .next { s with dev := d } ∧ (d.die g).gduv = false ∧
      (∀ a, d.w a = s.dev.w a) ∧ d.reports = s.dev.reports ∧
      ∀ m, (grpOf m = g → (d.mot m).level.getLsbD 1 = false) ∧ (grpOf m ≠ g → d.mot m = s.dev.mot m)) ∧
    (∀ r rest, s.dev.reports = r :: rest → r.at' + 4 ≤ s.dev.cycles →
      ((s.dev.mot r.motor).state = .idle →
        exec .gateReportDelivery s = .next { s with dev := { s.dev with reports := rest } }) ∧
      ((s.dev.mot r.motor).state ≠ .idle →
        ∃ d, exec .gateReportDelivery s = .next { s with dev := d } ∧ d.reports = rest ∧
          d.bit (0xF00 + r.motor.1) r.cause.bit = true ∧
          (s.dev.fpol r.motor r.cause = 0 → (d.mot r.motor).state = (s.dev.mot r.motor).state ∧
            d.w (aMot r.motor 2) = s.dev.w (aMot r.motor 2)) ∧
          (∀ a, codeAct (s.dev.fpol r.motor r.cause) = some a →
            (d.mot r.motor).state = .fault ∧ d.bit (aMot r.motor 2) r.cause.bit = true ∧
            ((s.dev.mot r.motor).state ≠ .fault → (d.mot r.motor).act = a ∧ (d.mot r.motor).devFault = false ∧
              (a ≠ .clamp → ∀ ph, (d.brg (bridgeOf r.motor ph)).en = false)) ∧
            ((s.dev.mot r.motor).state = .fault →
              (d.mot r.motor).act = if (s.dev.mot r.motor).act.rank < a.rank then a else (s.dev.mot r.motor).act)) ∧
          ∀ n, n ≠ r.motor → (d.mot n).state = (s.dev.mot n).state)) ∧
    (s.dev.domOn (gateDom g) = true → (s.dev.die g).low = false →
      ∃ d, exec (.gateSupplyLoss g) s = .next { s with dev := d } ∧ (d.die g).rdy = false ∧ (d.die g).low = true ∧
        (∀ b, grpOfBridge b = g → (d.brg b).hs = false ∧ (d.brg b).ls = false ∧ (d.brg b).bsuv = false) ∧
        (∀ m, grpOf m = g → d.w (aCur m 4) = 0 ∧ d.w (aCur m 5) = 0) ∧ d.w (aBus g 1) = 0 ∧
        (∀ r ∈ d.reports, grpOf r.motor = g → r.cause ≠ .hshort) ∧
        ∀ m, (d.mot m).state = (s.dev.mot m).state) ∧
    (s.dev.domOn (gateDom g) = true → (s.dev.die g).low = false → (s.dev.die g).rdy = false →
      (s.dev.die g).startAt + 40000 ≤ s.dev.cycles →
      ∃ d, exec (.gateDieReady g) s = .next { s with dev := d } ∧ (d.die g).rdy = true ∧ (d.die g).everRdy = true ∧
        (∀ m, grpOf m = g → d.w (aCur m 4) = 0) ∧ ∀ m, (d.mot m).state = (s.dev.mot m).state) ∧
    (s.dev.domOn (gateDom g) = true → (s.dev.die g).low = true → exec (.gateSupplyReturn g) s =
      .next { s with dev := s.dev.onDie g (fun x => { x with low := false, startAt := s.dev.cycles }) })

/-- Comparators. Each takes its output from its input and its threshold; a low output sets nothing. A high current
output in an on-time latches, ends the on-time and counts, also one that is high when leading-edge blanking ends; a hard
short reports once; a phase comparator sets its latch; the bus latch counts once and trips the ladder to level 3 when
TRIPEN is 1. A self-check write stores the mode, but an exchange or a tie named for a motor outside IDLE is ignored.
The model's choices that it rests on, no rules of the spec: notes/assumptions 2, 44, 45, 47, 109. -/
def Obligations.Comparators : Prop :=
  ∀ (s : State),
    (∀ m, s.dev.runs = true → s.dev.glintOn (grpOf m) = true →
      ((s.dev.mot m).state = .run → (s.dev.mot m).compOn.isSome = true → (s.dev.mot m).lebDone = true →
        s.dev.ibit (aCur m 0) 0 = true → s.dev.bit (aCur m 4) 0 = false → s.dev.underCheck 0 m.1 = false →
        s.dev.currentPowered m = true → ∀ x, s.dev.currentOut m x = true →
        ∃ d, exec (.currentLimitLatch m x) s = .next { s with dev := d } ∧ d.bit (aCur m 4) 0 = true ∧
          d.bit (aCur m 5) 0 = true ∧ d.fld (aCur m 7) 15 0 = min 65535 (s.dev.fld (aCur m 7) 15 0 + 1) ∧
          (d.mot m).car.limited = true ∧ (∀ n, (d.mot n).state = (s.dev.mot n).state) ∧
          s.dev.SameWords d [aCur m 4, aCur m 5, aCur m 7]) ∧
      (∀ x, s.dev.currentOut m x = false →
        exec (.currentLimitLatch m x) s = .next { s with dev := s.dev.putB (aCur m 5) 0 false }) ∧
      (∀ t, (s.dev.mot m).compOn = some t → t + 20 * s.dev.ifld (aCur m 2) 11 8 ≤ s.dev.cycles →
        (s.dev.bit (aCur m 5) 0 = false → exec (.leadingEdgeBlankingEnd m) s =
          .next { s with dev := s.dev.onMot m (fun x => { x with lebDone := true }) }) ∧
        (s.dev.bit (aCur m 5) 0 = true → (s.dev.mot m).state = .run → s.dev.ibit (aCur m 0) 0 = true →
          s.dev.currentPowered m = true → s.dev.bit (aCur m 4) 0 = false → s.dev.underCheck 0 m.1 = false →
          ∃ d, exec (.leadingEdgeBlankingEnd m) s = .next { s with dev := d } ∧ d.bit (aCur m 4) 0 = true ∧
            d.fld (aCur m 7) 15 0 = min 65535 (s.dev.fld (aCur m 7) 15 0 + 1) ∧ (d.mot m).car.limited = true ∧
            s.dev.SameWords d [aCur m 4, aCur m 7])) ∧
      (∀ x, s.dev.shortOut m x = false →
        exec (.hardShortLatch m x) s = .next { s with dev := s.dev.putB (aCur m 5) 1 false }) ∧
      (∀ x, s.dev.underCheck 1 m.1 = false → s.dev.shortOut m x = true →
        ∃ d, exec (.hardShortLatch m x) s = .next { s with dev := d } ∧ d.bit (aCur m 4) 1 = true ∧
          d.bit (aCur m 5) 1 = true ∧ (d.mot m).level.getLsbD 2 = true ∧
          d.reports = (if s.dev.bit (aCur m 4) 1 then s.dev.reports
            else s.dev.reports ++ [{ motor := m, phase := 0, cause := .hshort, at' := s.dev.cycles }]) ∧
          s.dev.SameMotors d m ∧ s.dev.SameWords d [aCur m 4, aCur m 5]) ∧
      (∀ ph x, s.dev.phasePowered m = true →
        (s.dev.phaseOut m ph x = true → s.dev.underCheck 2 (bridgeOf m ph).1 = false →
          ∃ d, exec (.phaseComparatorLatch m ph x) s = .next { s with dev := d } ∧ d.bit (aCur m 4) (2 + ph.1) = true ∧
            d.bit (aCur m 5) (2 + ph.1) = true ∧ d.motors = s.dev.motors ∧ s.dev.SameWords d [aCur m 4, aCur m 5]) ∧
        (s.dev.phaseOut m ph x = false →
          ∃ d, exec (.phaseComparatorLatch m ph x) s = .next { s with dev := d } ∧
            d.bit (aCur m 5) (2 + ph.1) = false ∧ d.motors = s.dev.motors ∧ s.dev.SameWords d [aCur m 5]))) ∧
    (∀ g x, s.dev.runs = true → s.dev.glintOn g = true → s.dev.busOut g x = false →
      exec (.busComparatorLatch g x) s = .next { s with dev := s.dev.putB (aBus g 1) 1 false }) ∧
    (∀ g x, s.dev.runs = true → s.dev.glintOn g = true → s.dev.underCheck 3 g.1 = false → s.dev.bit (aBus g 1) 0 = false →
      s.dev.busOut g x = true →
      ∃ d, exec (.busComparatorLatch g x) s = .next { s with dev := d } ∧ d.bit (aBus g 1) 0 = true ∧
        d.fld (aBus g 2) 15 0 = min 65535 (s.dev.fld (aBus g 2) 15 0 + 1) ∧
        (s.dev.bit (aSup g 0) 1 = true → d.level g = 3 ∧ d.bit (aSup g 9) 5 = true) ∧
        (s.dev.bit (aSup g 0) 1 = false → d.motors = s.dev.motors ∧ s.dev.SameWords d [aBus g 1, aBus g 2])) ∧
    ∀ (k : Master) (v : Word), s.dev.writeOk k 0x70A0 = true →
      exec (.glintCheckOff k v) s = .next { s with dev := s.dev.put 0x70A0 (withBits v 10 8 0 &&& 0x07FF) } ∧
      exec (.glintDacReadback k v) s = .next { s with dev := s.dev.put 0x70A0 (withBits v 10 8 1 &&& 0x07FF) } ∧
      ((s.dev.part ≠ .otl9616 ∨ ∀ m ∈ checkMotors (bits v 7 6) (bits v 5 0), (s.dev.mot m).state = .idle) →
        exec (.glintSwap k v) s = .next { s with dev := s.dev.put 0x70A0 (withBits v 10 8 2 &&& 0x07FF) } ∧
        exec (.glintTieLow k v) s = .next { s with dev := s.dev.put 0x70A0 (withBits v 10 8 3 &&& 0x07FF) } ∧
        exec (.glintTieHigh k v) s = .next { s with dev := s.dev.put 0x70A0 (withBits v 10 8 4 &&& 0x07FF) }) ∧
      (s.dev.part = .otl9616 → (∃ m ∈ checkMotors (bits v 7 6) (bits v 5 0), (s.dev.mot m).state ≠ .idle) →
        exec (.glintSwap k v) s = .next s ∧ exec (.glintTieLow k v) s = .next s ∧ exec (.glintTieHigh k v) s = .next s)

/-- The chopper. STAT.FB follows the sampled feedback, and a change begins its time anew. Feedback that has agreed with
the output for 400 ticks declares CHOPNF (both high) or CHOPSTK (both low) once, with its count. A test pulse at level 0
drives BRK for TW µs, and is refused at any other level; at its end BRK follows the ladder again.
The model's choices that it rests on, no rules of the spec: notes/assumptions 43. -/
def Obligations.Chopper : Prop :=
  ∀ (s : State) (g : GroupIx),
    (∀ fb, s.dev.runs = true → s.dev.bit (aSup g 7) 3 ≠ fb →
      ∃ d, exec (.chopperFeedbackTimeout g fb) s = .next { s with dev := d } ∧ d.bit (aSup g 7) 3 = fb ∧
        (d.grp g).fbAt = s.dev.cycles ∧ d.motors = s.dev.motors ∧ s.dev.SameWords d [aSup g 7]) ∧
    (∀ fb, s.dev.runs = true → s.dev.chopEn g = true → s.dev.bit (aSup g 7) 3 = fb →
      max (s.dev.grp g).brkAt (s.dev.grp g).fbAt + 400 ≤ s.dev.cycles → s.dev.brk g = fb →
      (s.dev.grp g).epNf = false → (s.dev.grp g).epStk = false →
      ∃ d, exec (.chopperFeedbackTimeout g fb) s = .next { s with dev := d } ∧ d.bit (aSup g 7) 3 = fb ∧
        d.bit (aSup g 9) (if fb then 0 else 2) = true ∧
        d.fld (aSup g 0xC) 15 0 = min 65535 (s.dev.fld (aSup g 0xC) 15 0 + 1) ∧ (d.grp g).epNf = fb ∧
        (d.grp g).epStk = !fb ∧ d.motors = s.dev.motors ∧ s.dev.SameWords d [aSup g 7, aSup g 9, aSup g 0xC]) ∧
    (∀ k v, s.dev.hasGrp g = true → s.dev.writeOk k (aSup g 0xD) = true → s.dev.chopEn g = true →
      (s.dev.level g = 0 → (s.dev.grp g).test = none →
        ∃ d, exec (.chopperTestPulse k g v) s = .next { s with dev := d } ∧ d.brk g = true ∧
          (d.grp g).test = some (s.dev.cycles + 200 * max 1 (bits v 7 0)) ∧ d.motors = s.dev.motors ∧
          s.dev.SameWords d [aSup g 7]) ∧
      (s.dev.level g ≠ 0 → exec (.chopperTestPulse k g v) s = .next s)) ∧
    (∀ t, s.dev.runs = true → (s.dev.grp g).test = some t → t ≤ s.dev.cycles →
      ∃ d, exec (.chopperTestPulseEnd g) s = .next { s with dev := d } ∧ (d.grp g).test = none ∧
        d.brk g = (s.dev.chopEn g && decide (0 < s.dev.level g)) ∧ d.motors = s.dev.motors ∧
        s.dev.SameWords d [aSup g 7])

/-! ### Converters and feedback (chapters 09 and 10) -/

/-- Conversions. A slot samples the entry in progress, or the first urgent request, and nothing while the array cannot
convert. A result of CAL is dropped; any other is corrected (R218) and joins its accumulator's count. The last sample of
a FREE count closes it, and that of a FRAME count where its close point has come, late where that has passed: VAL is the
sum shifted and limited (R236), with VALID, SAT, XS, LATE and the next CNT; a sample after a complete FRAME count is
discarded with XS. A complete FRAME count closes at its close point with its value, VALID and the next CNT. Where it is
the accumulator of the group's supply, the overvoltage ladder takes the level of R186 for that value, with the causes
and counts of the levels that it enters (R189), or, where the thresholds are not in order, sets CFGERR and takes the
least of them for all three (R187).
The model's choices that it rests on, no rules of the spec: notes/assumptions 55, 57. -/
def Obligations.Conversions : Prop :=
  ∀ (s : State) (p : GroupIx), s.dev.runs = true →
    (s.dev.prmReady p = false → exec (.conversionSlot p) s = .next s) ∧
    (s.dev.prmReady p = true → (s.dev.prm p).pwr = true → (s.dev.prm p).inUrg = none →
      ((s.dev.prm p).nextUrgent = none → (s.dev.prm p).phase = .entry → 0 < (s.dev.prm p).left →
        ∃ d sl, exec (.conversionSlot p) s = .next { s with dev := d } ∧ (d.prm p).conv = (s.dev.prm p).conv + 1 ∧
          (d.prm p).flight = (s.dev.prm p).flight ++
            [{ slice := sl, ch := bits (s.dev.prm p).word 15 10, acc := bits (s.dev.prm p).word 9 4 }] ∧ sl < 4 ∧
          (∀ a, d.w a = s.dev.w a) ∧ d.motors = s.dev.motors) ∧
      (∀ u y, (s.dev.prm p).nextUrgent = some (u, y) →
        ∃ d sl, exec (.conversionSlot p) s = .next { s with dev := d } ∧ (d.prm p).conv = (s.dev.prm p).conv + 1 ∧
          (d.prm p).flight = (s.dev.prm p).flight ++ [{ slice := sl, ch := u.ch, acc := u.acc }] ∧ sl < 4 ∧
          (d.prm p).inUrg = (if u.left ≤ 1 then none else some { u with left := u.left - 1 }) ∧
          (∀ a, d.w a = s.dev.w a) ∧ d.motors = s.dev.motors)) ∧
    (∀ raw : Word, s.dev.prmReady p = false → exec (.sampleEntry p raw) s = .next s) ∧
    (∀ v rest (raw : Word), s.dev.prmReady p = true → (s.dev.prm p).flight = v :: rest →
      (v.ch = 63 → exec (.sampleEntry p raw) s = .next { s with dev := s.dev.onPrm p (fun x => { x with flight := rest }) }) ∧
      (∀ h : v.acc < 64, v.ch ≠ 63 → (s.dev.acc p ⟨v.acc, h⟩).waits = false → (s.dev.acc p ⟨v.acc, h⟩).closed = false →
        (s.dev.acc p ⟨v.acc, h⟩).n + 1 < (s.dev.acc p ⟨v.acc, h⟩).total →
        ∃ d, exec (.sampleEntry p raw) s = .next { s with dev := d } ∧ (d.prm p).flight = rest ∧
          (d.acc p ⟨v.acc, h⟩).n = (s.dev.acc p ⟨v.acc, h⟩).n + 1 ∧
          d.w (aAcc p v.acc 2) = s.dev.w (aAcc p v.acc 2) ∧ d.motors = s.dev.motors)) ∧
    (∀ (sl ch : Nat) (raw : Word), reservedCh ch = false → ch ≠ 39 →
      s.dev.correct p sl ch raw =
        (if signedCh ch then clampInt (-32768) 32767
          ((16 * raw.toInt - s.dev.sw (aPrm p (0x10 + 4 * sl))) * s.dev.uw (aPrm p (0x11 + 4 * sl)) / 2 ^ 19)
        else clampInt 0 65535
          ((16 * (raw.toNat : Int) - s.dev.sw (aPrm p (0x10 + 4 * sl))) * s.dev.uw (aPrm p (0x11 + 4 * sl)) / 2 ^ 19))) ∧
    (∀ c : Acc,
      c.value.1 = (if bitOf c.cfg 14 then clampInt (-32768) 32767 (c.sum / 2 ^ min 8 (bits c.cfg 11 8))
        else clampInt 0 65535 (c.sum / 2 ^ min 8 (bits c.cfg 11 8))) ∧
      c.value.2 = decide (c.value.1 ≠ c.sum / 2 ^ min 8 (bits c.cfg 11 8))) ∧
    (∀ v rest (raw : Word) (h : v.acc < 64), s.dev.prmReady p = true → (s.dev.prm p).flight = v :: rest → v.ch ≠ 63 →
      (s.dev.acc p ⟨v.acc, h⟩).waits = false →
      let c := s.dev.acc p ⟨v.acc, h⟩
      let y := iword (s.dev.correct p v.slice v.ch raw)
      let e : Acc := { c with sum := c.sum + (if bitOf c.cfg 14 then y.toInt else y.toNat), n := c.n + 1 }
      ∃ d, exec (.sampleEntry p raw) s = .next { s with dev := d } ∧ (d.prm p).flight = rest ∧
        (c.frame = true → c.closed = true → d.bit (aAcc p v.acc 3) 3 = true ∧ d.acc p ⟨v.acc, h⟩ = c ∧
          d.w (aAcc p v.acc 2) = s.dev.w (aAcc p v.acc 2)) ∧
        (c.frame = true → c.closed = false → c.total ≤ c.n → d.acc p ⟨v.acc, h⟩ = { c with xs := true }) ∧
        (c.frame = false ∨ c.closed = false ∧ c.n < c.total →
          (c.n + 1 < c.total ∨ c.frame = true ∧ s.dev.frameTick p < s.dev.closePoint p c →
            d.acc p ⟨v.acc, h⟩ = e ∧ d.w (aAcc p v.acc 2) = s.dev.w (aAcc p v.acc 2)) ∧
          (c.total ≤ c.n + 1 →
            (c.frame = false ∨ s.dev.closePoint p c ≤ s.dev.frameTick p →
              d.w (aAcc p v.acc 2) = iword e.value.1 ∧ d.bit (aAcc p v.acc 3) 0 = true ∧
              d.bit (aAcc p v.acc 3) 1 = e.value.2 ∧ d.bit (aAcc p v.acc 3) 3 = c.xs ∧
              d.bit (aAcc p v.acc 3) 2 = (c.frame && decide (s.dev.closePoint p c < s.dev.frameTick p)) ∧
              d.fld (aAcc p v.acc 3) 15 8 = (s.dev.fld (aAcc p v.acc 3) 15 8 + 1) % 256 ∧
              (e.value.2 = true → bitOf c.cfg 13 = true → d.bit (aPrm p 2) 2 = true) ∧
              (c.frame = true → (d.acc p ⟨v.acc, h⟩).closed = true) ∧
              (c.frame = false → (d.acc p ⟨v.acc, h⟩).n = 0 ∧ (d.acc p ⟨v.acc, h⟩).sum = 0))))) ∧
    (∀ a, s.dev.prmReady p = true → (s.dev.acc p a).frame = true → (s.dev.acc p a).closed = false →
      (s.dev.acc p a).waits = false → (s.dev.acc p a).total ≤ (s.dev.acc p a).n →
      s.dev.closePoint p (s.dev.acc p a) ≤ s.dev.frameTick p →
      ∃ d, exec (.accumulatorClose p a) s = .next { s with dev := d } ∧ (d.acc p a).closed = true ∧
        d.w (aAcc p a.1 2) = iword (s.dev.acc p a).value.1 ∧ d.bit (aAcc p a.1 3) 0 = true ∧
        d.fld (aAcc p a.1 3) 15 8 = (s.dev.fld (aAcc p a.1 3) 15 8 + 1) % 256 ∧
        (∀ m, (d.mot m).state = (s.dev.mot m).state) ∧
        (s.dev.fld (aSup p 0) 7 2 = a.1 →
          let v := (iword (s.dev.acc p a).value.1).toNat
          let l := s.dev.level p
          let ov1 := s.dev.uw (aSup p 1)
          let ov2 := s.dev.uw (aSup p 2)
          let ov3 := s.dev.uw (aSup p 3)
          let hys := s.dev.uw (aSup p 4)
          (d.grp p).v = some v ∧ d.bit (aSup p 7) 5 = true ∧ d.bit (aSup p 7) 6 = false ∧
          (ov1 < ov2 → ov2 < ov3 → hys < ov1 → d.bit (aSup p 7) 8 = false ∧
            (ov3 ≤ v → d.level p = 3) ∧ (l ≤ 1 → ov2 ≤ v → v < ov3 → d.level p = 2) ∧
            (l = 0 → ov1 ≤ v → v < ov2 → d.level p = 1) ∧ (l = 0 → v < ov1 → d.level p = 0) ∧
            (l = 1 → v + hys < ov1 → d.level p = 0) ∧ (l = 1 → ov1 ≤ v + hys → v < ov2 → d.level p = 1) ∧
            (2 ≤ l → v + hys < ov1 → d.level p = 0) ∧ (2 ≤ l → ov1 ≤ v + hys → v + hys < ov2 → d.level p = 1) ∧
            (2 ≤ l → ov2 ≤ v + hys → v < ov3 → d.level p = l)) ∧
          (¬ (ov1 < ov2 ∧ ov2 < ov3 ∧ hys < ov1) → d.bit (aSup p 7) 8 = true ∧
            (min ov1 (min ov2 ov3) ≤ v → d.level p = 3) ∧
            (l = 0 → v < min ov1 (min ov2 ov3) → d.level p = 0) ∧
            (v < min ov1 (min ov2 ov3) - hys → d.level p = 0)) ∧
          (l < 2 → 2 ≤ d.level p →
            d.bit (aSup p 9) 3 = true ∧ d.fld (aSup p 0xA) 15 0 = min 65535 (s.dev.fld (aSup p 0xA) 15 0 + 1)) ∧
          (l < 3 → d.level p = 3 →
            d.bit (aSup p 9) 4 = true ∧ d.fld (aSup p 0xB) 15 0 = min 65535 (s.dev.fld (aSup p 0xB) 15 0 + 1))))

/-- The sequencer. SYNC releases its entry; the end of an IDLE entry goes on, at once to END where a frame-locked
sequence ends there, or stops when RUN was written 0; a slot that reaches a CONV entry takes its stored word and samples
its channel; slices wake for an urgent request. RUN written 1 waits for the frame start when frame-locked and otherwise
leaves STOPPED; RUN written 0 lets the entry in progress finish. An urgent request queues, and the fifth sets UOVF
instead.
The model's choices that it rests on, no rules of the spec: notes/assumptions 52, 53. -/
def Obligations.Sequencer : Prop :=
  ∀ (s : State) (p : GroupIx),
    (s.dev.runs = true → (s.dev.prm p).phase = .waitSync → (s.dev.prm p).seqt.toNat ≤ s.dev.frameTick p →
      exec (.syncTick p) s = .next { s with
        dev := s.dev.onPrm p (fun x => { x with phase := .entry, left := 2 ^ bits x.word 3 2, pwr := true }) }) ∧
    (∀ t, s.dev.runs = true → (s.dev.prm p).phase = .idle t → t ≤ s.dev.cycles →
      ((s.dev.prm p).stopReq = true → exec (.idleEntryEnd p) s = .next { s with
        dev := s.dev.onPrm p (fun x => { x with pwr := true, phase := .stopped, stopReq := false, left := 0 }) }) ∧
      ((s.dev.prm p).stopReq = false →
        s.dev.frameLocked p = false ∨
          (s.dev.prm p).pos + 1 < 128 ∧ s.dev.fld (aPrm p (0x100 + ((s.dev.prm p).pos + 1))) 1 0 ≠ 3 →
        exec (.idleEntryEnd p) s = .next { s with
          dev := s.dev.onPrm p (fun x => { x with pwr := true, phase := .entry, pos := x.pos + 1, left := 0 }) }) ∧
      ((s.dev.prm p).stopReq = false → s.dev.frameLocked p = true →
        128 ≤ (s.dev.prm p).pos + 1 ∨ s.dev.fld (aPrm p (0x100 + ((s.dev.prm p).pos + 1))) 1 0 = 3 →
        ∃ d, exec (.idleEntryEnd p) s = .next { s with dev := d } ∧ (d.prm p).phase = .waitFrame ∧
          (∀ a, d.w a = s.dev.w a) ∧ d.motors = s.dev.motors)) ∧
    (∀ w, s.dev.runs = true → s.dev.prmReady p = true → (s.dev.prm p).pwr = true → (s.dev.prm p).inUrg = none →
      (s.dev.prm p).nextUrgent = none → (s.dev.prm p).phase = .entry → (s.dev.prm p).left = 0 →
      (s.dev.prm p).pos < 128 → w = s.dev.w (aPrm p (0x100 + (s.dev.prm p).pos)) → bits w 1 0 = 0 →
      ∃ d sl, exec (.conversionSlot p) s = .next { s with dev := d } ∧ (0 < bits w 3 2 → (d.prm p).word = w) ∧ sl < 4 ∧
        (d.prm p).flight = (s.dev.prm p).flight ++ [{ slice := sl, ch := bits w 15 10, acc := bits w 9 4 }] ∧
        ∀ a, d.w a = s.dev.w a) ∧
    (s.dev.runs = true → (s.dev.prm p).nextUrgent.isSome = true →
      exec (.sliceWake p) s = .next { s with dev := s.dev.onPrm p (fun x => { x with pwr := true }) }) ∧
    (∀ k v, s.dev.hasGrp p = true → s.dev.writeOk k (aPrm p 0) = true → s.dev.locked' = false →
      (s.dev.runBlocked = false → s.dev.prmReady p = true → s.dev.bit (aPrm p 0) 0 = false →
        ∃ d, exec (.sequencerRun k p v) s = .next { s with dev := d } ∧ d.bit (aPrm p 0) 0 = true ∧
          (d.prm p).phase ≠ .stopped ∧
          (bitOf v 6 = true → s.dev.bit (aGrp p 1) 0 = true → (s.dev.grp p).running = true →
            (d.prm p).phase = .waitStart) ∧
          s.dev.SameWords d [aPrm p 0] ∧ d.motors = s.dev.motors) ∧
      (s.dev.bit (aPrm p 0) 0 = true →
        ∃ d, exec (.sequencerStop k p v) s = .next { s with dev := d } ∧ d.bit (aPrm p 0) 0 = false ∧
          ((s.dev.prm p).phase = .entry ∧ 0 < (s.dev.prm p).left ∨ (s.dev.prm p).phase = .waitSync →
            (d.prm p).stopReq = true ∧ (d.prm p).phase = (s.dev.prm p).phase) ∧
          ((s.dev.prm p).phase = .waitFrame ∨ (s.dev.prm p).phase = .waitStart → (d.prm p).phase = .stopped) ∧
          s.dev.SameWords d [aPrm p 0] ∧ d.motors = s.dev.motors)) ∧
    (∀ k v, s.dev.hasGrp p = true → s.dev.writeOk k (aPrm p 5) = true → s.dev.prmOn p = true →
      ((s.dev.prm p).pendCount < 4 → exec (.urgentRequest k p v) s = .next { s with
        dev := s.dev.onPrm p (fun x => { x with
          urg := x.urg ++ [{ ch := bits v 15 10, acc := bits v 9 4, left := 2 ^ bits v 3 2 }], pwr := true }) }) ∧
      (4 ≤ (s.dev.prm p).pendCount → ∃ d, exec (.urgentRequest k p v) s = .next { s with dev := d } ∧
        d.bit (aPrm p 2) 3 = true ∧ d.prisms = s.dev.prisms ∧ s.dev.SameWords d [aPrm p 2]))

/-- Coefficients, trackers and PLL_PRISM. An update counts, begins a new interval and, frozen, leaves the twelve
coefficients. Not frozen, in full mode, it moves offset and gain of each slice by a quarter of the estimated error, held
in their ranges with LIMIT and the CAL cause, or with too few samples leaves them with SKIP, and moves each skew by one
step. The estimates are free values. CLR restarts its tracker. A loss of PLL_PRISM raises the cause of every powered
array; its return shows the lock again.
The model's choices that it rests on, no rules of the spec: notes/assumptions 10, 54. -/
def Obligations.CoefficientsAndPrismClock : Prop :=
  ∀ (s : State),
    (∀ p, s.dev.runs = true → 4096 ≤ (s.dev.prm p).conv →
      ∃ d, exec (.coefficientUpdate p) s = .next { s with dev := d } ∧ d.w (aPrm p 7) = s.dev.w (aPrm p 7) + 1 ∧
        (d.prm p).conv = (s.dev.prm p).conv - 4096 ∧ (∀ i : Fin 4, (d.prm p).refz[i] = 0 ∧ (d.prm p).refh[i] = 0) ∧
        (s.dev.bit (aPrm p 0) 5 = true → s.dev.SameWords d [aPrm p 7, aPrm p 8]) ∧ d.motors = s.dev.motors ∧
        (s.dev.bit (aPrm p 0) 5 = false → (s.dev.prm p).lpAct = false →
          ((∀ i : Fin 4, 16 ≤ (s.dev.prm p).refz[i] ∧ 16 ≤ (s.dev.prm p).refh[i]) → d.bit (aPrm p 8) 1 = false ∧
            ∀ i : Fin 4,
              let ofs := s.dev.sw (aPrm p (0x10 + 4 * i.1)) + truncDiv (Config.estimate (s.dev.free + i.1)).1 4
              let gain := s.dev.uw (aPrm p (0x11 + 4 * i.1)) + truncDiv (Config.estimate (s.dev.free + i.1)).2.1 4
              d.w (aPrm p (0x10 + 4 * i.1)) = iword (clampInt (-32768) 32767 ofs) ∧
              d.w (aPrm p (0x11 + 4 * i.1)) = iword (clampInt 0x7800 0x87FF gain) ∧
              (clampInt (-32768) 32767 ofs ≠ ofs ∨ clampInt 0x7800 0x87FF gain ≠ gain →
                d.bit (aPrm p 8) 0 = true ∧ d.bit (aPrm p 2) 4 = true)) ∧
          ((∃ i : Fin 4, (s.dev.prm p).refz[i] < 16 ∨ (s.dev.prm p).refh[i] < 16) → d.bit (aPrm p 8) 1 = true ∧
            ∀ i : Fin 4, d.w (aPrm p (0x10 + 4 * i.1)) = s.dev.w (aPrm p (0x10 + 4 * i.1)) ∧
              d.w (aPrm p (0x11 + 4 * i.1)) = s.dev.w (aPrm p (0x11 + 4 * i.1))) ∧
          ∀ i : Fin 4,
            let est := (Config.estimate (s.dev.free + i.1)).2.2
            let sk := (BitVec.ofNat 10 (s.dev.uw (aPrm p (0x12 + 4 * i.1)))).toInt
            ((s.dev.prm p).skew[i] < 256 → d.w (aPrm p (0x12 + 4 * i.1)) = s.dev.w (aPrm p (0x12 + 4 * i.1))) ∧
            (256 ≤ (s.dev.prm p).skew[i] → (BitVec.ofNat 10 (d.uw (aPrm p (0x12 + 4 * i.1)))).toInt =
              clampInt (-512) 511 (if sk < est then sk + 1 else if est < sk then sk - 1 else sk)))) ∧
    (∀ k (p : GroupIx) (t : Fin 32) v, s.dev.hasGrp p = true → s.dev.writeOk k (aTrk p t.1 0) = true →
      ∃ d, exec (.trackerRestart k p t v) s = .next { s with dev := d } ∧ d.w (aTrk p t.1 1) = 0 ∧
        d.w (aTrk p t.1 2) = 0 ∧ d.w (aTrk p t.1 3) = 0 ∧ (d.prm p).trk[t] = { cfg := d.w (aTrk p t.1 0) } ∧
        d.bit (aTrk p t.1 0) 15 = false ∧ d.motors = s.dev.motors ∧
        s.dev.SameWords d [aTrk p t.1 0, aTrk p t.1 1, aTrk p t.1 2, aTrk p t.1 3]) ∧
    (s.dev.runs = true → s.dev.power.prismLock = true →
      ∃ d, exec .pllPrismLockLoss s = .next { s with dev := d } ∧ d.power.prismLock = false ∧ d.bit 0x810 0 = false ∧
        (∀ p, s.dev.hasGrp p = true → s.dev.prmOn p = true → d.bit (aPrm p 2) 5 = true ∧ (d.prm p).therm = none) ∧
        d.motors = s.dev.motors) ∧
    (s.dev.runs = true → s.dev.power.prismLock = false → s.dev.bit 0x810 1 = true → s.dev.domOn 4 = true →
      ∃ d, exec .pllPrismLockReturn s = .next { s with dev := d } ∧ d.power.prismLock = true ∧ d.bit 0x810 0 = true ∧
        (∀ m, (d.mot m).state = (s.dev.mot m).state) ∧
        ∀ p, s.dev.hasGrp p = true → s.dev.prmOn p = true → s.dev.domRdy (prismDom p) = true → (d.prm p).flight = [])

/-- Counting. An edge moves POS by one in the direction of the mode that stood when its cycle began and ends ZERO, and a
coincident pair in MODE 2 counts in COINCNT only; none counts in the fallback. A counted edge after another of its sign
sets SPD from the intervals held, through the reciprocal of R258, with SPDV; after one of the opposite sign SPD is 0. A
glitch counts in every mode, and at GLMAX sets its cause. SPD decays to 3.2e9 / e in magnitude and keeps its sign, and
becomes 0 with ZERO after ZTO; SEED sets POS, with the edges counted in the same cycle on top, and while the group's RUN
bit is 0 the copies follow each microsecond.
The model's choices that it rests on, no rules of the spec: notes/assumptions 58, 59. -/
def Obligations.Counting : Prop :=
  ∀ (s : State) (f : ChanIx),
    (s.dev.runs = true → ∀ ball bHigh,
      (s.dev.inFallback f = true → exec (.feedbackEdge f ball bHigh) s = .next s) ∧
      (s.dev.inFallback f = false → ∀ neg,
        ((bits (s.dev.w0 (aFb f 0)) 1 0 = 1 ∧ ball ≠ .b ∧ neg = (!bHigh != s.dev.bit (aFb f 0) 2)) ∨
         (bits (s.dev.w0 (aFb f 0)) 1 0 = 2 ∧ ball = .a ∧ neg = s.dev.bit (aFb f 0) 2) ∨
         (bits (s.dev.w0 (aFb f 0)) 1 0 = 2 ∧ ball = .b ∧ neg = !s.dev.bit (aFb f 0) 2) ∨
         (bits (s.dev.w0 (aFb f 0)) 1 0 = 3 ∧ ball ≠ .b ∧ neg = s.dev.bit (aFb f 0) 2)) →
        ∃ d, exec (.feedbackEdge f ball bHigh) s = .next { s with dev := d } ∧
          d.pos f = s.dev.pos f + (if neg then -1 else 1) ∧ d.bit (aFb f 8) 1 = neg ∧ d.bit (aFb f 8) 2 = false ∧
          ((s.dev.fb f).hist = [] → (d.fb f).hist = [s.dev.cycles]) ∧
          ((s.dev.fb f).hist ≠ [] → (s.dev.fb f).lastNeg ≠ some neg →
            d.spd f = 0 ∧ d.bit (aFb f 8) 0 = s.dev.bit (aFb f 8) 0 ∧ (d.fb f).hist = [s.dev.cycles]) ∧
          ((s.dev.fb f).hist ≠ [] → (s.dev.fb f).lastNeg = some neg → 1 ≤ (s.dev.fb f).edges →
            let hs := (s.dev.cycles :: (s.dev.fb f).hist).take (2 ^ s.dev.fld (aFb f 0) 5 4 + 1)
            let q : Int := recip ((hs.length - 1) * 3200000000) (max 1 (s.dev.cycles - hs.getLastD s.dev.cycles))
            d.spd f = clampInt (-2147483647) 2147483647 (if neg then -q else q) ∧ d.bit (aFb f 8) 0 = true ∧
              (d.fb f).hist = hs) ∧
          (∀ c, c ≠ f → d.fb c = s.dev.fb c) ∧ d.motors = s.dev.motors) ∧
      (s.dev.inFallback f = false → bits (s.dev.w0 (aFb f 0)) 1 0 = 2 → ball = .both →
        ∃ d, exec (.feedbackEdge f ball bHigh) s = .next { s with dev := d } ∧
          d.fld (aFb f 0xB) 15 0 = min 65535 (s.dev.fld (aFb f 0xB) 15 0 + 1) ∧ d.bit (aFb f 9) 1 = true ∧
          d.pos f = s.dev.pos f ∧ s.dev.SameWords d [aFb f 9, aFb f 0xB])) ∧
    (s.dev.runs = true → s.dev.inFallback f = false → s.dev.fbEnabled f = false →
      ∃ d, exec (.glitch f) s = .next { s with dev := d } ∧
        d.fld (aFb f 0xA) 15 0 = min 65535 (s.dev.fld (aFb f 0xA) 15 0 + 1) ∧
        (s.dev.ifld (aFb f 1) 15 8 = 1 → (s.dev.fb f).glWin ≠ s.dev.time.toNat / 10000 → d.bit (aFb f 9) 0 = true) ∧
        d.pos f = s.dev.pos f ∧ s.dev.SameWords d [aFb f 9, aFb f 0xA]) ∧
    (∀ t rest, s.dev.runs = true → (s.dev.fb f).hist = t :: rest → s.dev.inFallback f = false →
      (s.dev.cycles % 200 = 0 → 0 < (s.dev.fb f).lastIv → (s.dev.fb f).lastIv < s.dev.cycles - t →
        ∃ d, exec (.speedDecay f) s = .next { s with dev := d } ∧
          (d.spd f).natAbs = min 2147483647 (min (s.dev.spd f).natAbs (3200000000 / (s.dev.cycles - t))) ∧
          (0 ≤ s.dev.spd f → 0 ≤ d.spd f) ∧ (s.dev.spd f ≤ 0 → d.spd f ≤ 0) ∧
          s.dev.SameWords d [aFb f 6, aFb f 7])) ∧
    (∀ n x : Nat, 1 ≤ x → let sh := Nat.log2 x + 1 - 14
      recip n x = n * ((2 ^ 29 + x / 2 ^ sh) / (2 * (x / 2 ^ sh))) / 2 ^ (28 + sh)) ∧
    (∀ t, s.dev.runs = true → (s.dev.fb f).lastAt = some t → s.dev.inFallback f = false → s.dev.bit (aFb f 8) 2 = false →
      max 1 (s.dev.ifld (aFb f 1) 7 0) * 200000 ≤ s.dev.cycles - t →
      ∃ d, exec (.zeroSpeedTimeout f) s = .next { s with dev := d } ∧ d.spd f = 0 ∧ d.bit (aFb f 8) 2 = true ∧
        (d.fb f).hist = (s.dev.fb f).hist.take 1 ∧ s.dev.SameWords d [aFb f 6, aFb f 7, aFb f 8]) ∧
    (∀ k v, s.dev.writeOk k (aFb f 0xD) = true →
      ∃ d, exec (.positionSeed k f v) s = .next { s with dev := d } ∧
        ((s.dev.fb f).stepAt ≠ s.dev.cycles → d.pos f = s.dev.w32 (aFb f 0xE)) ∧
        ((s.dev.fb f).stepAt = s.dev.cycles → d.pos f = s.dev.w32 (aFb f 0xE) + (s.dev.fb f).step) ∧
        s.dev.SameWords d [aFb f 2, aFb f 3] ∧ d.motors = s.dev.motors) ∧
    (s.dev.runs = true → s.dev.copyDue f = true →
      ∃ d, exec (.feedbackCopyWhileStopped f) s = .next { s with dev := d } ∧ d.w32 (aFb f 4) = s.dev.pos f ∧
        d.w32 (aFb f 0x19) = s.dev.w32 (aFb f 6) ∧ (d.fb f).fspdv = s.dev.bit (aFb f 8) 0 ∧
        s.dev.SameWords d [aFb f 4, aFb f 5, aFb f 0x19, aFb f 0x1A])

/-- The absolute word of channels 0 to 15. CHECK, and each period of ABSCHK, make a check transfer due; PULSE asks to
leave the fallback. A transfer ends no earlier than its clocks allow; a good word of the seeding transfer sets POS to
the offset, the word and the edges counted since its latch tick, and a word that never came counts in ABSERRCNT.
The model's choices that it rests on, no rules of the spec: notes/assumptions 2, 60. -/
def Obligations.AbsoluteWord : Prop :=
  ∀ (s : State) (f : ChanIx), f.1 < 16 →
    (∀ k v, s.dev.writeOk k (aFb f 0xD) = true →
      (∃ d, exec (.absCheckRequest k f v) s = .next { s with dev := d } ∧ (d.fb f).checkDue = true ∧
        s.dev.SameWords d [aFb f 2, aFb f 3]) ∧
      (s.dev.inFallback f = true → ∃ d, exec (.leaveFallback k f v) s = .next { s with dev := d } ∧
        (d.fb f).leaveDue = true ∧ s.dev.SameWords d [aFb f 2, aFb f 3])) ∧
    (s.dev.runs = true → 0 < s.dev.cycles → s.dev.cycles % 200 = 0 → 0 < s.dev.fld (aFb f 0x12) 7 0 →
      s.dev.time.toNat % (1000 * s.dev.fld (aFb f 0x12) 7 0) = 0 →
      exec (.absCheckPeriod f) s = .next { s with dev := s.dev.onFb f (fun x => { x with periodDue := true }) }) ∧
    (s.dev.runs = true → (s.dev.fb f).busy = some .seed → s.dev.inFallback f = false → ∀ (word : BitVec 32) parity,
      (s.dev.cycles < (s.dev.fb f).latchAt + s.dev.absTicks f →
        exec (.absTransferComplete f true word parity) s = .next s) ∧
      ((s.dev.fb f).latchAt + s.dev.absTicks f ≤ s.dev.cycles →
        let w : BitVec 32 := BitVec.ofNat 32 (word.toNat % 2 ^ s.dev.absLen f)
        decide ((ones w (s.dev.absLen f) + parity.toNat) % 2 = 1) = s.dev.ibit (aFb f 0x10) 14 →
        ∃ d, exec (.absTransferComplete f true word parity) s = .next { s with dev := d } ∧
          d.pos f = (s.dev.iw (aFb f 0x15) ++ s.dev.iw (aFb f 0x14) : BitVec 32) + w + (s.dev.fb f).moved ∧
          d.w32 (aFb f 0x16) = w ∧ (d.fb f).initDue = false ∧ (d.fb f).busy = none ∧ d.bit (aFb f 8) 4 = false ∧
          d.motors = s.dev.motors) ∧
      ∃ d, exec (.absTransferComplete f false word parity) s = .next { s with dev := d } ∧ (d.fb f).busy = none ∧
        d.fld (aFb f 0xC) 15 0 = min 65535 (s.dev.fld (aFb f 0xC) 15 0 + 1) ∧ d.bit (aFb f 9) 3 = true ∧
        d.pos f = s.dev.pos f ∧ (d.fb f).initDue = (s.dev.fb f).initDue)

/-- The distance output. Setting EN clears the accumulator, DCNT, DLTOT and the backlog. A pulse ends after PW µs into
its gap; at the end of the gap the next pulse of the backlog begins and counts, and with none waiting the output rests.
The model's choices that it rests on, no rules of the spec: notes/assumptions 61. -/
def Obligations.DistanceOutput : Prop :=
  ∀ (s : State),
    (∀ k v, s.dev.writeOk k 0xA308 = true → s.dev.locked' = false → s.dev.bit 0xA308 15 = false →
      ∃ d, exec (.distOutEnable k v) s = .next { s with dev := d } ∧ d.bit 0xA308 15 = true ∧ d.dist = {} ∧
        d.w32 0xA30B = 0 ∧ d.w32 0xA310 = 0 ∧ d.w 0xA30D = 0 ∧ d.motors = s.dev.motors ∧
        s.dev.SameWords d [0xA308, 0xA30B, 0xA30C, 0xA30D, 0xA310, 0xA311]) ∧
    (s.dev.runs = true → s.dev.dist.high = true → s.dev.dist.dueAt ≤ s.dev.cycles →
      exec .distPulseEnd s = .next { s with dev := { s.dev with dist := { s.dev.dist with
        high := false, gap := true, dueAt := s.dev.cycles + 200 * max 1 (s.dev.fld 0xA308 7 0) } } }) ∧
    (s.dev.runs = true → s.dev.dist.gap = true → s.dev.dist.dueAt ≤ s.dev.cycles →
      (s.dev.fld 0xA30D 7 0 = 0 →
        exec .distGapEnd s = .next { s with dev := { s.dev with dist := { s.dev.dist with gap := false } } }) ∧
      (0 < s.dev.fld 0xA30D 7 0 →
        ∃ d, exec .distGapEnd s = .next { s with dev := d } ∧ d.dist.high = true ∧ d.dist.gap = false ∧
          d.w32 0xA30B = s.dev.w32 0xA30B + 1 ∧ d.fld 0xA30D 7 0 = s.dev.fld 0xA30D 7 0 - 1 ∧
          s.dev.SameWords d [0xA30B, 0xA30C, 0xA30D]))

/-! ### Traces, sessions and events (chapters 11, 13 and 18) -/

/-- Trace ticks. At a multiple of 10 000 µs TTICK counts, a channel that is not yet due waits one tick less, and a due
channel samples its source and waits its DIV again; no other cycle is a tick, and a session whose level has qualified
opens first. A present sample becomes LAST; with no open segment it makes a break anchor, one within the bounds of the
open segment extends it, and one outside them closes it with a record and begins the next at its end; an absent sample
closes it. Each enabled alarm counts the samples in a row that meet its condition and changes at the DWELL-th, with its
cause at an assertion, and at a release where that is asked for. A write of HIN makes the value present; setting EN arms
START and the first sample, clearing it closes the segment, and a change of the configuration arms CFG, as CMD.MARK arms
MARK.
The model's choices that it rests on, no rules of the spec: notes/assumptions 2, 62, 98. -/
def Obligations.TraceChannels : Prop :=
  ∀ (s : State),
    (∀ t, s.dev.runs = true → s.dev.tickCycle = true → s.dev.tickAt ≠ s.dev.cycles → s.dev.cplEdge = none →
      s.dev.cplHeld true = true → exec (.couplingSessionOpen true) s = .next t → exec .traceTick s = exec .traceTick t) ∧
    (s.dev.runs = true → s.dev.tickCycle = true → s.dev.tickAt ≠ s.dev.cycles → s.dev.cplTurn = s.dev →
      ∃ d, exec .traceTick s = .next { s with dev := d } ∧ d.ttick = s.dev.ttick + 1 ∧ d.tickAt = s.dev.cycles ∧
        d.motors = s.dev.motors ∧
        ∀ t, ((s.dev.trc t).on = false → d.trc t = s.dev.trc t) ∧
          ((s.dev.trc t).on = true → 1 < (s.dev.trc t).wait →
            d.trc t = { s.dev.trc t with wait := (s.dev.trc t).wait - 1 }) ∧
          ((s.dev.trc t).on = true → (s.dev.trc t).wait ≤ 1 → (d.trc t).wait = (d.trc t).div ∧
            (s.dev.sampleOf t = none → d.bit (aTr t 7) 13 = true ∧ d.w (aTr t 6) = s.dev.w (aTr t 6) ∧ (d.trc t).seg = none ∧
              (d.trc t).pend.getLsbD 5 = true ∧ (d.trc t).hiCnt = 0 ∧ (d.trc t).loCnt = 0 ∧
              ∀ g, (s.dev.trc t).seg = some g → 0 < g.c → s.dev.Made d (s.dev.segRec t g)) ∧
            ∀ v, s.dev.sampleOf t = some v →
              d.bit (aTr t 7) 13 = false ∧ d.w (aTr t 6) = iword v ∧
              ((s.dev.trc t).seg = none → (d.trc t).seg = some (Seg.vertex v d.ttick) ∧ (d.trc t).pend = 0 ∧
                s.dev.Made d ⟨word (0x8000 + t.1 * 128 + (s.dev.trc t).reason.getD 5 * 16 + s.dev.fld 0x52 3 0), iword v,
                  lo16 d.ttick, hi16 d.ttick⟩) ∧
              (∀ g, (s.dev.trc t).seg = some g → (s.dev.trc t).pend = 0 → s.dev.fld (aTr t 2) 7 0 = 0 →
                (∀ g', g.extend (d.trc t).e (d.trc t).div v = some g' → (d.trc t).seg = some g') ∧
                (g.extend (d.trc t).e (d.trc t).div v = none →
                  (d.trc t).seg = some (Seg.begin g.yc (g.endTick (d.trc t).div) (d.trc t).e v) ∧
                  ((d.trc t).div = (s.dev.trc t).div → (d.trc t).e = (s.dev.trc t).e → s.dev.Made d (s.dev.segRec t g)))) ∧
              (let hi := signedBy (bitOf (s.dev.w (aTr t 0)) 14) (s.dev.w (aTr t 3))
               let lo := signedBy (bitOf (s.dev.w (aTr t 0)) 14) (s.dev.w (aTr t 4))
               let hys : Int := s.dev.fld (aTr t 5) 7 0
               s.dev.AlarmStep d t 15 (s.dev.trc t).hiCnt (d.trc t).hiCnt (decide (hi < v)) (decide (v < hi - hys)) ∧
               s.dev.AlarmStep d t 14 (s.dev.trc t).loCnt (d.trc t).loCnt (decide (v < lo)) (decide (lo + hys < v))))) ∧
    (s.dev.tickCycle = false → exec .traceTick s = .next s) ∧
    ∀ (k : Master) (t : TraceIx) (v : Word),
      (s.dev.writeOk k (0xB400 + t.1) = true →
        ∃ d, exec (.hostFedWrite k t v) s = .next { s with dev := d } ∧ d.w (0xB400 + t.1) = v ∧
          (d.trc t).hinAt = some s.dev.hinTick ∧ (∀ u, u ≠ t → d.trc u = s.dev.trc u) ∧
          s.dev.SameWords d [0xB400 + t.1]) ∧
      (s.dev.writeOk k (aTr t 0) = true →
        (s.dev.bit (aTr t 0) 15 = false →
          ∃ d, exec (.traceChannelEnable k t v) s = .next { s with dev := d } ∧ d.bit (aTr t 0) 15 = true ∧
            (d.trc t).on = true ∧ (d.trc t).pend.getLsbD 0 = true ∧ (d.trc t).wait = (d.trc t).div ∧
            (d.trc t).div = max 1 (s.dev.fld (aTr t 2) 15 8) ∧ (∀ u, u ≠ t → d.trc u = s.dev.trc u) ∧
            s.dev.SameWords d [aTr t 0]) ∧
        (s.dev.bit (aTr t 0) 15 = true →
          (∃ d, exec (.traceChannelDisable k t v) s = .next { s with dev := d } ∧ d.bit (aTr t 0) 15 = false ∧
            (d.trc t).on = false ∧ (d.trc t).seg = none ∧ ∀ u, u ≠ t → d.trc u = s.dev.trc u) ∧
          ∃ d, exec (.traceChannelConfig k t .src v) s = .next { s with dev := d } ∧
            (d.trc t).pend.getLsbD 3 = true ∧ d.bit (aTr t 0) 15 = true ∧ (∀ u, u ≠ t → d.trc u = s.dev.trc u) ∧
            s.dev.SameWords d [aTr t 0])) ∧
      (s.dev.writeOk k (aTr t 1) = true → s.dev.locked' = false → s.dev.fld (aTr t 1) 7 0 ≠ bits v 7 0 →
        ∃ d, exec (.traceChannelConfig k t .tag v) s = .next { s with dev := d } ∧ d.w (aTr t 1) = v ∧
          (d.trc t).pend.getLsbD 3 = true ∧ (∀ u, u ≠ t → d.trc u = s.dev.trc u) ∧ s.dev.SameWords d [aTr t 1]) ∧
      (s.dev.writeOk k (aTr t 2) = true → s.dev.locked' = false → s.dev.fld (aTr t 2) 15 8 ≠ bits v 15 8 →
        ∃ d, exec (.traceChannelConfig k t .rate v) s = .next { s with dev := d } ∧ d.w (aTr t 2) = v ∧
          (d.trc t).pend.getLsbD 3 = true ∧ (∀ u, u ≠ t → d.trc u = s.dev.trc u) ∧ s.dev.SameWords d [aTr t 2]) ∧
      (s.dev.writeOk k 0xB482 = true → bits v 6 0 = t.1 → bitOf v 14 = false →
        exec (.traceMark k v) s = .next { s with dev := s.dev.onTrc t (fun x => { x with pend := x.pend ||| 0x80 }) })

/-- The trace store. A record commits to slot WPTR, is counted in WRITTEN and moves WPTR on; in a full store it is
discarded and the store stays, and one that commits in the cycle of CMD.EMPTY is emptied with it. A read of a W0 returns
the four words as they decode, and returns zeros with the slot emptied where one of them cannot be corrected; a read of
another word of a slot returns it as latched, or 0 with the slot emptied where it cannot be corrected. CMD.EMPTY
empties the store and moves READABLE to DISC, with D3 LOG on or off.
The model's choices that it rests on, no rules of the spec: notes/assumptions 6, 19, 63, 64, 65. -/
def Obligations.TraceStore : Prop :=
  ∀ (s : State),
    (∀ r rest, s.dev.runs = true → s.dev.recq = r :: rest → s.dev.logOn = true → s.dev.domRdy 3 = true →
      (s.dev.noStore = false → s.dev.emptied.map Prod.fst ≠ some s.dev.cycles → s.dev.wptr + 1 < slotCount →
        ∃ d, exec .traceRecordCommit s = .next { s with dev := d } ∧ d.recq = rest ∧ d.wptr = s.dev.wptr + 1 ∧
          d.slotWord s.dev.wptr 0 = r.w0 ∧ d.slotWord s.dev.wptr 1 = r.w1 ∧ d.slotWord s.dev.wptr 2 = r.w2 ∧
          d.slotWord s.dev.wptr 3 = r.w3 ∧ d.w32 0xB488 = s.dev.w32 0xB488 + 1 ∧
          (∀ n i, n ≠ s.dev.wptr → i < 4 → d.slotWord n i = s.dev.slotWord n i) ∧ d.motors = s.dev.motors) ∧
      (s.dev.noStore = false → s.dev.emptied = some (s.dev.cycles, false) →
        ∃ d, exec .traceRecordCommit s = .next { s with dev := d } ∧ d.recq = rest ∧ d.store = s.dev.store ∧
          d.w32 0xB488 = s.dev.w32 0xB488 + 1 ∧ d.w32 0xB48E = s.dev.w32 0xB48E + 1 ∧ d.wptr = s.dev.wptr) ∧
      (s.dev.noStore = true →
        ∃ d, exec .traceRecordCommit s = .next { s with dev := d } ∧ d.recq = rest ∧ d.store = s.dev.store ∧
          d.w32 0xB488 = s.dev.w32 0xB488 + 1 ∧ d.w32 0xB48E = s.dev.w32 0xB48E + 1 ∧ d.wptr = s.dev.wptr)) ∧
    (∀ (k : Master) (a : Addr) (errs : List (BitVec 28)), inStore a.toNat = true → a.toNat % 4 = 0 →
      s.dev.readOk k a.toNat = true → s.dev.logOn = true → s.dev.bist.run ≠ some 2 →
      let ws := s.dev.slotDecoded a.toNat errs
      (.bad ∉ ws →
        ∃ d, exec (.traceStoreRead k a errs) s = .next { s with dev := d } ∧ d.fab[k] = (ws.getD 0 .bad).value ∧
          (∀ i, 0 < i → i < 4 → d.latched k (a.toNat + i) = (ws.getD i .bad).value) ∧ d.store = s.dev.store ∧
          ((∀ i, i < 4 → ws.getD i .bad = .clean (s.dev.storeWord (a.toNat - 0x100000 + i))) →
            ∀ b, d.w b = s.dev.w b) ∧ d.motors = s.dev.motors) ∧
      (.bad ∈ ws →
        ∃ d, exec (.traceStoreRead k a errs) s = .next { s with dev := d } ∧ d.fab[k] = 0 ∧
          (∀ i, 0 < i → i < 4 → d.latched k (a.toNat + i) = 0) ∧
          (∀ i, i < 4 → d.slotWord ((a.toNat - 0x100000) / 4) i = 0) ∧ d.motors = s.dev.motors)) ∧
    (∀ (k : Master) (a : Addr) (errs : List (BitVec 28)), inStore a.toNat = true → a.toNat % 4 ≠ 0 →
      s.dev.readOk k a.toNat = true → s.dev.logOn = true → s.dev.bist.run ≠ some 2 →
      let w := (s.dev.slotDecoded a.toNat errs).getD 0 .bad
      (w ≠ .bad →
        ∃ d, exec (.traceStoreRead k a errs) s = .next { s with dev := d } ∧ d.fab[k] = s.dev.latched k a.toNat ∧
          d.store = s.dev.store ∧ d.motors = s.dev.motors) ∧
      (w = .bad →
        ∃ d, exec (.traceStoreRead k a errs) s = .next { s with dev := d } ∧ d.fab[k] = 0 ∧
          (∀ i, i < 4 → d.slotWord ((a.toNat - 0x100000) / 4) i = 0) ∧ d.motors = s.dev.motors)) ∧
    ∀ (k : Master) (v : Word), s.dev.writeOk k 0xB482 = true →
      ∃ d, exec (.traceStoreEmpty k v) s = .next { s with dev := d } ∧ d.store = [] ∧ d.wptr = 0 ∧ d.w 0xB499 = 0 ∧
        d.w32 0xB48A = 0 ∧ d.w32 0xB48E = s.dev.w32 0xB48E + s.dev.w32 0xB48A ∧ d.motors = s.dev.motors

/-- Coupling sessions. A change of the synchronised CPL_DET shows in RAW and begins the count of QT ms anew; a level
that does not stand, or has not stood so long, qualifies nothing. After READY a qualified rise opens a session (SESSION
counts, CPL and CPLTIME are set, E56 is raised) and a qualified fall closes it and changes nothing else; before READY
the edge waits, a second edge cancels it, and the cycle after READY applies one that still waits.
The model's choices that it rests on, no rules of the spec: notes/assumptions 98. -/
def Obligations.CouplingSessions : Prop :=
  ∀ (s : State), s.dev.runs = true →
    (s.dev.bit 0x51 1 = false → ∃ d, exec (.couplingSessionOpen false) s = .next { s with dev := d } ∧
      d.bit 0x51 1 = true ∧ d.cplAt = s.dev.cycles ∧ d.cplQt = max 1 (s.dev.fld 0x50 7 0) ∧ s.dev.SameWords d [0x51]) ∧
    (s.dev.bit 0x51 1 = true → ∃ d, exec (.couplingSessionClose false) s = .next { s with dev := d } ∧
      d.bit 0x51 1 = false ∧ d.cplAt = s.dev.cycles ∧ d.cplQt = max 1 (s.dev.fld 0x50 7 0) ∧ s.dev.SameWords d [0x51]) ∧
    (s.dev.bit 0x51 1 = false ∨ s.dev.cycles < s.dev.cplAt + 200000 * s.dev.cplQt →
      exec (.couplingSessionOpen true) s = .next s) ∧
    (s.dev.bit 0x51 1 = true ∨ s.dev.cycles < s.dev.cplAt + 200000 * s.dev.cplQt →
      exec (.couplingSessionClose true) s = .next s) ∧
    (s.dev.ready = true → s.dev.faultAt ≠ some s.dev.cycles → s.dev.cplEdge = none →
      (s.dev.cplHeld true = true →
        ∃ d, exec (.couplingSessionOpen true) s = .next { s with dev := d } ∧ d.w 0x52 = s.dev.w 0x52 + 1 ∧
          d.bit 0x51 0 = true ∧ d.w32 0x53 = s.dev.time ∧ d.ev[56].cnt = s.dev.ev[56].cnt + 1 ∧
          ∀ m, (d.mot m).state = (s.dev.mot m).state) ∧
      (s.dev.cplHeld false = true →
        ∃ d, exec (.couplingSessionClose true) s = .next { s with dev := d } ∧ d.bit 0x51 0 = false ∧
          d.w32 0x53 = s.dev.time ∧ d.ev[57].cnt = s.dev.ev[57].cnt + 1 ∧
          (∀ i : Fin 64, i ≠ 57 → d.ev[i] = s.dev.ev[i]) ∧ s.dev.SameWords d [0x51, 0x53, 0x54] ∧
          d = { s.dev with words := d.words, ev := d.ev, pend := d.pend, ppend := d.ppend, freshEv := d.freshEv, cplDone := d.cplDone })) ∧
    (s.dev.ready = false → s.dev.cplEdge = none →
      (s.dev.cplHeld true = true → ∃ d, exec (.couplingSessionOpen true) s = .next { s with dev := d } ∧
        d.cplEdge = some true ∧ d.bit 0x51 2 = true ∧ s.dev.SameWords d [0x51]) ∧
      (s.dev.cplHeld false = true → ∃ d, exec (.couplingSessionClose true) s = .next { s with dev := d } ∧
        d.cplEdge = some false ∧ d.bit 0x51 2 = true ∧ s.dev.SameWords d [0x51])) ∧
    (s.dev.cplEdge = some true → s.dev.cplHeld false = true →
      ∃ d, exec (.couplingSessionClose true) s = .next { s with dev := d } ∧ d.cplEdge = none ∧ d.bit 0x51 2 = false ∧
        s.dev.SameWords d [0x51]) ∧
    (s.dev.ready = true → s.dev.cplFrom ≤ s.dev.cycles →
      (s.dev.cplEdge = some true →
        ∃ d, exec .pendingCouplingApply s = .next { s with dev := d } ∧ d.cplEdge = none ∧
          d.w 0x52 = s.dev.w 0x52 + 1 ∧ d.bit 0x51 0 = true ∧ d.bit 0x51 2 = false) ∧
      (s.dev.cplEdge = some false →
        ∃ d, exec .pendingCouplingApply s = .next { s with dev := d } ∧ d.cplEdge = none ∧
          d.w 0x52 = s.dev.w 0x52 ∧ d.bit 0x51 0 = false ∧ d.bit 0x51 2 = false))

/-- Events. E61 is raised once in the cycle in which TIME reaches a multiple of 1 000 000 µs by counting, and in no
other cycle: not while TIME stands still, and not at the value 0 at which it starts. A doorbell sets the writer's bit
and raises its source. A write of ones to PEND clears those bits of that host alone, but for bits raised in the same
cycle, and with REARM set begins the 1 µs pulse while the condition still holds; the pulse ends after its time.
The model's choices that it rests on, no rules of the spec: notes/assumptions 2, 7. -/
def Obligations.EventsAndDoorbells : Prop :=
  ∀ (s : State),
    (s.dev.runs = true → 0 < s.dev.cycles → s.dev.cycles % 200 = 0 → s.dev.time.toNat % 1000000 = 0 →
      s.dev.secAt ≠ s.dev.cycles →
      ∃ d, exec .oneSecondTick s = .next { s with dev := d } ∧ d.ev[61].cnt = s.dev.ev[61].cnt + 1 ∧
        d.ev[61].ts = s.dev.time ∧ (∀ k : HostIx, d.pend[k] = s.dev.pend[k] ||| (1#64 <<< 61)) ∧
        d.secAt = s.dev.cycles ∧ (∀ a, d.w a = s.dev.w a) ∧ d.motors = s.dev.motors) ∧
    (s.dev.runs = false ∨ s.dev.cycles = 0 ∨ s.dev.cycles % 200 ≠ 0 ∨ s.dev.time.toNat % 1000000 ≠ 0 ∨
      s.dev.secAt = s.dev.cycles → exec .oneSecondTick s = .next s) ∧
    (∀ (k : Master) (v : Word), k.1 < 5 → s.dev.writeOk k 0x80 = true →
      ∃ d, exec (.doorbellRing k v) s = .next { s with dev := d } ∧
        d.bit 0x81 k.1 = (s.dev.bit 0x81 k.1 || bitOf v 0) ∧ d.bit 0x82 k.1 = (s.dev.bit 0x82 k.1 || bitOf v 1) ∧
        d.ev[62].cnt = s.dev.ev[62].cnt + (if bitOf v 0 then 1 else 0) ∧
        d.ev[63].cnt = s.dev.ev[63].cnt + (if bitOf v 1 then 1 else 0) ∧ d.motors = s.dev.motors ∧
        s.dev.SameWords d [0x81, 0x82]) ∧
    (∀ (k : Master) (h : HostIx) (q : Fin 4) (v : Word), s.dev.writeOk k (aEvh h (4 + q.1)) = true →
      ∃ d, exec (.pendClear k h q v) s = .next { s with dev := d } ∧
        d.pend[h] = s.dev.pend[h] &&& ~~~((v.setWidth 64 <<< (16 * q.1)) &&& ~~~s.dev.freshEv) ∧
        (∀ j : HostIx, j ≠ h → d.pend[j] = s.dev.pend[j]) ∧
        ((d.hp h).rearm = some (s.dev.cycles + 200) ∨ (d.hp h).rearm = (s.dev.hp h).rearm) ∧
        (s.dev.bit (aEvh h 12) 0 = true →
          s.dev.irqLocal h &&& ((v.setWidth 64 <<< (16 * q.1)) &&& ~~~s.dev.freshEv) ≠ 0 → d.irqCond h = true →
          (d.hp h).rearm = some (s.dev.cycles + 200)) ∧ (∀ a, d.w a = s.dev.w a)) ∧
    ∀ (h : HostIx) (t : Nat), s.dev.runs = true → (s.dev.hp h).rearm = some t → t ≤ s.dev.cycles →
      exec (.rearmPulseEnd h) s = .next { s with dev := s.dev.onHp h (fun x => { x with rearm := none }) }

/-! ### Ports and the Mirror link (chapters 14, 15 and 17) -/

/-- The queue. START clears the results of the run and begins its first frame; START during a run does nothing. The
frame of the last entry ends the run with DONE and RES 0, and a read entry's bytes enter BUF high byte first. ABORT
without START ends every entry that is left with RES 2. A write of RAW keeps its three bits, and a change of EN
invalidates both buffers.
The model's choices that it rests on, no rules of the spec: notes/assumptions 66, 112. -/
def Obligations.MemoryQueue : Prop :=
  ∀ (s : State),
    (∀ (k : Master) (v : Word), s.dev.writeOk k 0xD005 = true →
      (s.dev.qRun = false → s.dev.loaderRuns = false → s.dev.mem.frame = false → s.dev.mem.wait = [] →
        s.dev.bit 0xD000 15 = false →
        ∃ d, exec (.queueRunStart k v) s = .next { s with dev := d } ∧ d.qRun = true ∧ d.mem.frame = true ∧
          d.qPos = bits v 3 0 ∧ d.mem.last = bits v 7 4 ∧ d.w (aQ (bits v 3 0) 6) = 0 ∧
          d.mem.out.getLast? = some (d.qFrameOf (bits v 3 0)) ∧ d.motors = s.dev.motors) ∧
      (s.dev.qRun = true → exec (.queueRunStart k v) s = .next s) ∧
      (s.dev.qRun = true → bitOf v 15 = true → exec (.queueAbort k v) s = .next s) ∧
      (s.dev.qRun = true → bitOf v 15 = false → ∃ d, exec (.queueAbort k v) s = .next { s with dev := d } ∧ d.qRun = false ∧
        (∀ i ∈ s.dev.qRest, d.w (aQ i 6) = 0xA000) ∧ d.motors = s.dev.motors)) ∧
    (∀ bytes, s.dev.runs = true → s.dev.qFrame = true → s.dev.qPos = s.dev.mem.last → s.dev.mem.wait = [] →
      (s.dev.bit (aQ s.dev.qPos 0) 15 = true ∨ bytes.length = s.dev.qLen s.dev.qPos) →
      ∃ d, exec (.queueEntryComplete bytes) s = .next { s with dev := d } ∧ d.qRun = false ∧ d.mem.frame = false ∧
        d.w (aQ s.dev.qPos 6) = 0x8000 ∧
        (s.dev.bit (aQ s.dev.qPos 0) 15 = false → 0 < bytes.length →
          d.w (0xD100 + s.dev.fld (aQ s.dev.qPos 4) 7 0) = byteAt bytes 0 ++ byteAt bytes 1) ∧
        d.motors = s.dev.motors) ∧
    ∀ (k : Master) (v : Word), s.dev.writeOk k 0xD004 = true →
      ∃ d, exec (.rawSelect k v) s = .next { s with dev := d } ∧ d.w 0xD004 = v &&& 0x8003 ∧
        (bitOf v 15 ≠ s.dev.rawEn → d.mem.lineA = none ∧ d.mem.lineB = none) ∧
        (s.dev.qRun = false → s.dev.SameWords d [0xD004]) ∧ d.motors = s.dev.motors

/-- The window and the shared flash. With EN 0 a window read returns 0; a word in the buffers returns at once, and any
other waits behind a frame in progress. A completed fill takes its buffer. A read that waited WTO µs returns 0 with
WTOUT. In share mode the port begins mastering when it has a reason, has rested and has found MCS1_N high for its time;
MCS1_N low while it masters counts a fault and discards the frame and both buffers.
The model's choices that it rests on, no rules of the spec: notes/assumptions 67, 68, 112, 114. -/
def Obligations.MemoryWindow : Prop :=
  ∀ (s : State),
    (∀ (k : Master) (a : Addr), s.dev.readOk k (0x800000 ||| a).toNat = true → s.dev.mem.frame = true →
      (s.dev.ibit 0xD008 15 = false →
        exec (.windowRead k a) s = .next { s with dev := s.dev.putFab k 0 }) ∧
      (s.dev.ibit 0xD008 15 = true → (s.dev.mem.missing (s.dev.winByte (0x800000 ||| a))).isNone = true →
        ∃ d, exec (.windowRead k a) s = .next { s with dev := d } ∧
          d.fab[k] = s.dev.mem.wordAt (s.dev.winByte (0x800000 ||| a)) ∧ d.mem.wait = s.dev.mem.wait ∧
          d.mem.lineA = s.dev.mem.lineA ∧ d.mem.lineB = s.dev.mem.lineB ∧ (∀ b, d.w b = s.dev.w b)) ∧
      (s.dev.ibit 0xD008 15 = true → (s.dev.mem.missing (s.dev.winByte (0x800000 ||| a))).isNone = false →
        exec (.windowRead k a) s = .next { s with
          dev := s.dev.onMem (fun x => { x with wait := x.wait ++ [(k, 0x800000 ||| a, s.dev.cycles)] }) })) ∧
    (∀ l bytes, s.dev.runs = true → s.dev.portsIdle = true → s.dev.mem.errs = [] →
      s.dev.mem.fill = some l → s.dev.mem.frame = true → bytes.length = 64 →
      s.dev.mem.wait = [] → s.dev.qRun = false → s.dev.loaderRuns = false →
      (∀ i, i < 6 → s.dev.w (0xD008 + i) = s.dev.iw (0xD008 + i)) →
      ∃ d, exec (.lineFillComplete bytes) s = .next { s with dev := d } ∧
        (s.dev.mem.intoB = false → d.mem.lineA = some (l, bytes)) ∧
        (s.dev.mem.intoB = true → d.mem.lineB = some (l, bytes)) ∧ (∀ b, d.w b = s.dev.w b) ∧
        d.motors = s.dev.motors) ∧
    (∀ r rest, s.dev.runs = true → s.dev.portsIdle = true → s.dev.mem.errs = [] → s.dev.mem.wait = r :: rest →
      r.2.2 + 200 * max 1 (s.dev.ifld 0xD008 7 0) ≤ s.dev.cycles →
      ∃ d, exec .windowTimeout s = .next { s with dev := d } ∧ d.fab[r.1] = 0 ∧ d.bit 0xD00E 1 = true ∧
        d.mem.wait = rest ∧ s.dev.SameWords d [0xD00E] ∧ d.motors = s.dev.motors) ∧
    (s.dev.runs = true → s.dev.mem.frame = false → s.dev.bit 0xD000 15 = true → s.dev.mem.mastering = false →
      s.dev.mem.wait ≠ [] → s.dev.loaderRuns = false → s.dev.mem.relAt = none → ∀ highFor,
      ((max 1 (s.dev.fld 0xD000 12 9) + if s.dev.mirror.id then 4 else 0) * (2 * max 1 (s.dev.fld 0xD000 4 0)) ≤ highFor →
        ∃ d, exec (.flashMasterStart highFor) s = .next { s with dev := d } ∧ d.mem.mastering = true ∧
          bitOf d.memStat 3 = true ∧ bitOf d.memStat 2 = true ∧ d.motors = s.dev.motors) ∧
      (highFor < (max 1 (s.dev.fld 0xD000 12 9) + if s.dev.mirror.id then 4 else 0) * (2 * max 1 (s.dev.fld 0xD000 4 0)) →
        ∃ d, exec (.flashMasterStart highFor) s = .next { s with dev := d } ∧ d.mem.mastering = false ∧
          d.mem.wait = s.dev.mem.wait ∧ (∀ a, d.w a = s.dev.w a) ∧ d.motors = s.dev.motors)) ∧
    (s.dev.runs = true → s.dev.share = true → s.dev.mem.mastering = true → s.dev.loaderRuns = false →
      ∃ d, exec .multiMasterFault s = .next { s with dev := d } ∧ d.mem.mastering = false ∧ d.mem.frame = false ∧
        d.mem.lineA = none ∧ d.mem.lineB = none ∧ bitOf d.memStat 3 = false ∧ bitOf d.memStat 2 = Config.mcs1 s.dev.cycles ∧
        d.bit 0xD002 0 = true ∧
        d.fld 0xD003 15 0 = min 65535 (s.dev.fld 0xD003 15 0 + 1) ∧ d.ev[52].cnt = s.dev.ev[52].cnt + 1 ∧
        d.motors = s.dev.motors)

/-- Host transactions. At the fall of HCSk_N a port finishes what its last transaction has left, which is nothing where it
waits for no word and holds none. Each transaction counts in XCNT and sends the status that takes the pending flags. NOP
does nothing else, and every SPECIAL byte that the table does not name acts as NOP; GETPAGE returns the page in two words,
each with its CRC when CRCEN is 1; PAGE sets it from A bits 1:0 and its first word unless A bits 5:2 are not 0; READ
returns as many words as were asked for outside the window, each as it decodes, and zeros from an uncorrectable one on;
WRITE commits its words in order as they arrive, or, CRC-protected, the first at once with the others held; LANERESET clears
CFG. A wrong C1 counts and has no other effect, a wrong C2 discards the write, and a rise of HCSk_N inside the command byte
is FRAME.
The model's choices that it rests on, no rules of the spec: notes/assumptions 19, 71, 72, 73, 74, 111, 119, 120. -/
def Obligations.HostTransactions : Prop :=
  (∀ (s : State) (k : HostIx), s.dev.resetN = true →
     let d0 := s.dev.hostStart k
     let d1 := d0.hostBegin k false
     ((s.dev.hp k).reading = none → (s.dev.hp k).parked = none → (s.dev.hp k).held = [] →
       d0 = s.dev.onHp k (fun x => { x with crcOn := s.dev.crcEn k })) ∧
     (∀ (a : BitVec 6) c1, a ≠ 1 → a ≠ 0x3F → d0.c1Bad k (cmdByte 3 a) c1 = false →
       exec (.nop k c1 a) s = .next { s with dev := d1.hostEnd k }) ∧
     (∀ c1, exec (.nop k c1 1) s = exec (.getpage k c1) s ∧ exec (.nop k c1 0x3F) s = exec (.lanereset k) s) ∧
     (∀ c1, d0.c1Bad k (cmdByte 3 1) c1 = false → d0.runs = true →
       ∃ d, exec (.getpage k c1) s = .next { s with dev := d } ∧
         (d.hp k).sent = [(d0.hp k).page.extractLsb' 0 16, ((d0.hp k).page.extractLsb' 16 2).setWidth 16] ∧
         (d0.crcEn k = true → (d.hp k).crcs =
           [crc8 ((d.hp k).status :: bytesOf ((d.hp k).sent.take 1)), crc8 ((d.hp k).status :: bytesOf (d.hp k).sent)]) ∧
         (d.hp k).status = d0.hostStatus k false ∧ (d.hp k).page = (d0.hp k).page ∧
         d.w (aHp k 7) = d0.w (aHp k 7) + 1 ∧ d0.SameWords d [aHp k 7] ∧ d.motors = d0.motors) ∧
     (∀ (a : BitVec 6) (w : Word) c1 c2 more, d0.c1Bad k (cmdByte 2 a) c1 = false → d0.runs = true →
       (d0.crcEn k = true → more.length < 64 ∧ c2 = crc8 (cmdByte 2 a :: bytesOf (w :: more))) →
       ∃ d, exec (.page k a w c1 c2 more) s = .next { s with dev := d } ∧
         (d.hp k).page = (if a.extractLsb' 2 4 = 0 then a.extractLsb' 0 2 ++ w else (d0.hp k).page) ∧
         (∀ j, j ≠ k → d.hp j = d0.hp j) ∧ d0.SameWords d [aHp k 7] ∧ d.motors = d0.motors) ∧
     (∀ (a : BitVec 6) n late c1, d0.c1Bad k (cmdByte 0 a) c1 = false → d0.runs = true →
       (∀ i, i < n → (d0.hostAddr k a i).toNat < 0x800000) →
       (∃ d, exec (.read k a n late c1 []) s = .next { s with dev := d } ∧ (d.hp k).sent.length = n ∧
         (n = 1 → d0.readOk (hostMaster k) (d0.hostAddr k a 0).toNat = false → (d.hp k).sent = [0]) ∧
         (n = 1 → d0.readOk (hostMaster k) (d0.hostAddr k a 0).toNat = true → (d0.hostAddr k a 0).toNat < 0x100000 →
           (d.hp k).sent = [d1.peek (hostMaster k) (d0.hostAddr k a 0).toNat]) ∧
         (d.hp k).page = (d0.hp k).page) ∧
       (∀ err : BitVec 28, n = 1 → d0.readOk (hostMaster k) (d0.hostAddr k a 0).toNat = false →
         (∀ v, decode28 (encode28 0 ^^^ err) = .corrected v →
           ∃ d, exec (.read k a n late c1 [{ word := 0, ram := false, err := err }]) s = .next { s with dev := d } ∧
             (d.hp k).sent = [v]) ∧
         (decode28 (encode28 0 ^^^ err) = .bad →
           ∃ d, exec (.read k a n late c1 [{ word := 0, ram := false, err := err }]) s = .next { s with dev := d } ∧
             (d.hp k).sent = [0] ∧ (d.hp k).faultF = true ∧ d.bit 0x32 2 = true))) ∧
     (∀ (a : BitVec 6) ws c1 c2, d0.c1Bad k (cmdByte 1 a) c1 = false → d0.runs = true →
       (d0.crcEn k = false → exec (.write k a ws c1 c2 []) s = .next { s with
         dev := (d1.each (d1.hostHeld k a [] ws) (fun d h => d.fabWrite (hostMaster k) h.addr.toNat h.v)).hostFinish k }) ∧
       (∀ v vs, d0.crcEn k = true → ws = v :: vs → ws.length ≤ 64 → c2 = crc8 (cmdByte 1 a :: bytesOf ws) →
         exec (.write k a ws c1 c2 []) s = .next { s with
           dev := ((d1.onHp k (fun x => { x with held := (d1.hostHeld k a [] ws).tail })).fabWrite (hostMaster k)
             (d1.hostAddr k a 0).toNat v).hostFinish k })) ∧
     ∃ d, exec (.lanereset k) s = .next { s with dev := d } ∧ d.w (aHp k 0) = 0 ∧
       d.w (aHp k 7) = d0.w (aHp k 7) + 1 ∧ d.ports = d0.ports ∧
       d0.SameWords d [aHp k 0, aHp k 7]) ∧
  (∀ (s : State) (k : HostIx), s.dev.resetN = true →
     let d0 := s.dev.hostStart k
     (∀ (a : BitVec 6) ws fl c1 c2, d0.c1Bad k (cmdByte 1 a) c1 = true →
       ∃ d, exec (.write k a ws c1 c2 fl) s = .next { s with dev := d } ∧ d.bit (aHp k 1) 1 = true ∧
         d.fld (aHp k 5) 15 0 = min 65535 (d0.fld (aHp k 5) 15 0 + 1) ∧
         (d.hp k).status = d0.hostStatus k true ∧ d.w (aHp k 7) = d0.w (aHp k 7) + 1 ∧
         d.motors = d0.motors ∧ d0.SameWords d [aHp k 1, aHp k 5, aHp k 7]) ∧
     (∀ (a : BitVec 6) ws fl c1 c2, d0.c1Bad k (cmdByte 1 a) c1 = false → d0.runs = true → ws ≠ [] →
       d0.crcEn k = true → ws.length ≤ 64 → c2 ≠ crc8 (cmdByte 1 a :: bytesOf ws) →
       ∃ d, exec (.write k a ws c1 c2 fl) s = .next { s with dev := d } ∧ (d.hp k).dcrceF = true ∧
         d.bit (aHp k 1) 1 = true ∧ d.motors = d0.motors ∧ d0.SameWords d [aHp k 1, aHp k 5, aHp k 7]) ∧
     ∃ d, exec (.hostFramingFault k .command) s = .next { s with dev := d } ∧ d.bit (aHp k 1) 0 = true ∧
       d.fld (aHp k 4) 15 0 = min 65535 (d0.fld (aHp k 4) 15 0 + 1) ∧ (d.hp k).frameF = true ∧
       d.w (aHp k 7) = d0.w (aHp k 7) + 1 ∧ d.motors = d0.motors ∧ d0.SameWords d [aHp k 1, aHp k 4, aHp k 7])

/-- The Mirror link. A sent frame has 78 bytes, its SEQ first and its CRC last, and SEQ counts. A good frame without a
request replaces the partner's state block; a bad CRC counts and leaves the block; LOSTN windows without a good frame
take the link down with LOST. A partner request takes the next TAG unless one is in progress, ends after 64 frames, or
their 128 µs, with TIMEOUT, and re-rating of a lone module begins after RETT.
The model's choices that it rests on, no rules of the spec: notes/assumptions 77, 78, 80. -/
def Obligations.MirrorLink : Prop :=
  ∀ (s : State),
    (s.dev.runs = true → s.dev.bit 0xE000 15 = true →
      ∃ d, exec .mirrorFrameSend s = .next { s with dev := d } ∧ d.mirror.txLast.length = 78 ∧
        d.mirror.txLast.head? = some s.dev.mirror.txSeq ∧
        d.mirror.txLast.drop 74 = crcBytes (crc32 (d.mirror.txLast.take 74)) ∧ d.mirror.txSeq = s.dev.mirror.txSeq + 1 ∧
        (∀ a, d.w a = s.dev.w a) ∧ d.motors = s.dev.motors) ∧
    (∀ l, s.dev.runs = true → s.dev.ibit 0xE000 15 = true → l.length = 78 →
      (crcBytes (crc32 (l.take 74)) = l.drop 74 → (byteAt l 65).getLsbD 7 = false →
        ∃ d, exec (.mirrorFrameReceive l true true) s = .next { s with dev := d } ∧
          (∀ i, i < 32 → d.w (0xE400 + i) = frameWord l (1 + 2 * i)) ∧ d.mirror.lastGood = some s.dev.cycles ∧
          d.mirror.rxSeq = some (byteAt l 0) ∧ d.motors = s.dev.motors) ∧
      (crcBytes (crc32 (l.take 74)) ≠ l.drop 74 →
        ∃ d, exec (.mirrorFrameReceive l true true) s = .next { s with dev := d } ∧ d.bit 0xE004 0 = true ∧
          d.fld 0xE005 15 0 = min 65535 (s.dev.fld 0xE005 15 0 + 1) ∧ d.mirror = { s.dev.mirror with good := 0 } ∧
          d.motors = s.dev.motors ∧ s.dev.SameWords d [0xE004, 0xE005])) ∧
    (∀ t, s.dev.runs = true → s.dev.mirror.up = true → s.dev.mirror.pres = true → s.dev.mirror.lastGood = some t →
      t + 400 * max 1 (s.dev.ifld 0xE001 15 8) ≤ s.dev.cycles →
      ∃ d, exec .linkDown s = .next { s with dev := d } ∧ d.mirror.up = false ∧ d.mirror.pres = false ∧
        d.mirror.downAt = s.dev.cycles ∧ d.bit 0xE003 0 = true ∧
        d.fld 0xE008 15 0 = min 65535 (s.dev.fld 0xE008 15 0 + 1) ∧ d.ev[50].cnt = s.dev.ev[50].cnt + 1 ∧
        d.motors = s.dev.motors) ∧
    (∀ (k : Master) (v : Word), s.dev.writeOk k 0xE803 = true →
      (s.dev.bit 0xE804 15 = false →
        ∃ d, exec (.partnerRequest k v) s = .next { s with dev := d } ∧ d.bit 0xE804 15 = true ∧
          d.fld 0xE804 3 0 = (s.dev.fld 0xE804 3 0 + 1) % 16 ∧ d.mirror.rqWr = bitOf v 14 ∧
          d.mirror.rqAddr = (s.dev.w 0xE801).extractLsb' 0 8 ++ s.dev.w 0xE800 ∧ d.mirror.rqData = s.dev.w 0xE802 ∧
          d.mirror.rqFrames = 0 ∧ d.mirror.rqAt = s.dev.cycles ∧ d.motors = s.dev.motors ∧ s.dev.SameWords d [0xE804]) ∧
      (s.dev.bit 0xE804 15 = true → exec (.partnerRequest k v) s = .next s)) ∧
    (s.dev.runs = true → s.dev.bit 0xE804 15 = true →
      64 ≤ s.dev.mirror.rqFrames ∨ s.dev.mirror.rqAt + 25600 ≤ s.dev.cycles →
      ∃ d, exec .partnerRequestTimeout s = .next { s with dev := d } ∧ d.bit 0xE804 15 = false ∧
        d.fld 0xE804 14 12 = 1 ∧ d.w 0xE805 = 0 ∧ d.motors = s.dev.motors ∧ s.dev.SameWords d [0xE804, 0xE805]) ∧
    (s.dev.runs = true → s.dev.ready = true → s.dev.mirror.pres = false → s.dev.mirror.presEver = false →
      s.dev.mirror.downAt + s.dev.rett ≤ s.dev.cycles →
      ∃ d, exec .rerateHoldExpiry s = .next { s with dev := d } ∧ d.mirror.alone = true ∧
        (∀ g : GroupIx, s.dev.ibit 0xE000 (8 + g.1) = true → d.bit 0xE002 (8 + g.1) = true) ∧
        d.motors = s.dev.motors ∧ s.dev.SameWords d [0xE002])

/-! ### Power, life cycle, tests and the fabric (chapters 01, 13, 15, 19 and 20) -/

/-- Thermal requests and shutdowns. A period ends with its length taken anew and a reading asked of every sensor of the
part, as CMD asks one of each named sensor and of no other: an array that can convert takes it, else NOREAD sets. Before
its end a period does nothing. A reading shows in TEMP and judges the warning and the throttle: a crossing whose condition
every reading of a millisecond has met changes the state, with its cause and its event (R454 to R456); one that has not
lasted so long only keeps its first time, and a reading that does not meet the condition forgets it. A shutdown shows, and
switches off the domains of its sensor; its release shows too, and switches on nothing itself. Both raise their event at
once, or while ck_core stands still in its next cycle.
The model's choices that it rests on, no rules of the spec: notes/assumptions 2, 56. -/
def Obligations.ThermalProtection : Prop :=
  ∀ (s : State),
    (s.dev.runs = true → s.dev.thermAt + 1000 * max 1 (s.dev.ifld 0x1000 7 0) ≤ s.dev.micros →
      ∃ d, exec .thermalReadingPeriod s = .next { s with dev := d } ∧
        d.thermAt = s.dev.thermAt + 1000 * max 1 (s.dev.ifld 0x1000 7 0) ∧ d.iw 0x1000 = s.dev.w 0x1000 ∧
        (∀ sen : SensorIx, s.dev.hasSen sen = true →
          (s.dev.thermArray sen = none → d.bit (aSen sen 7) 1 = true) ∧
          ∀ p, s.dev.thermArray sen = some p →
            (s.dev.prmReady p = false → d.bit (aSen sen 7) 1 = true) ∧
            (s.dev.prmReady p = true → (d.sen sen).arr = p ∧ ((d.sen sen).sent = true ∨ 0 < (d.sen sen).queued) ∧
              d.bit (aSen sen 7) 1 = s.dev.bit (aSen sen 7) 1)) ∧
        d.motors = s.dev.motors ∧ s.dev.SameWords d [aSen 0 7, aSen 1 7, aSen 2 7, aSen 3 7, aSen 4 7]) ∧
    (s.dev.micros < s.dev.thermAt + 1000 * max 1 (s.dev.ifld 0x1000 7 0) → exec .thermalReadingPeriod s = .next s) ∧
    (∀ (k : Master) (v : Word), s.dev.writeOk k 0x1006 = true →
      ∃ d, exec (.thermalReadRequest k v) s = .next { s with dev := d } ∧
        (∀ sen : SensorIx, s.dev.hasSen sen = true → bitOf v sen.1 = true →
          (s.dev.thermArray sen = none → d.bit (aSen sen 7) 1 = true) ∧
          ∀ p, s.dev.thermArray sen = some p →
            (s.dev.prmReady p = false → d.bit (aSen sen 7) 1 = true) ∧
            (s.dev.prmReady p = true → (d.sen sen).arr = p ∧ ((d.sen sen).sent = true ∨ 0 < (d.sen sen).queued) ∧
              d.bit (aSen sen 7) 1 = s.dev.bit (aSen sen 7) 1)) ∧
        (∀ sen : SensorIx, bitOf v sen.1 = false → d.w (aSen sen 7) = s.dev.w (aSen sen 7)) ∧
        d.motors = s.dev.motors ∧ s.dev.SameWords d [aSen 0 7, aSen 1 7, aSen 2 7, aSen 3 7, aSen 4 7]) ∧
    (∀ (sen : SensorIx) (p : GroupIx) (a : Fin 64), s.dev.runs = true → s.dev.prmReady p = true →
      (s.dev.acc p a).frame = true → (s.dev.acc p a).closed = false → (s.dev.acc p a).waits = false →
      (s.dev.acc p a).total ≤ (s.dev.acc p a).n → s.dev.closePoint p (s.dev.acc p a) ≤ s.dev.frameTick p →
      (s.dev.sen sen).sent = true → (s.dev.sen sen).sentArr = p → (s.dev.sen sen).arr = p → (s.dev.sen sen).acc = a.1 →
      (∀ o, o ≠ sen → (s.dev.sen o).sent = false) →
      ∃ d, exec (.accumulatorClose p a) s = .next { s with dev := d } ∧ d.w (aSen sen 4) = iword (s.dev.acc p a).value.1 ∧
        (s.dev.bit 0x1001 (10 + sen.1) = false →
          ((iword (s.dev.acc p a).value.1).toInt < s.dev.sw (aSen sen 1) →
            (d.sen sen).warnAt = none ∧ d.bit 0x1001 (10 + sen.1) = false) ∧
          (s.dev.sw (aSen sen 1) ≤ (iword (s.dev.acc p a).value.1).toInt → (s.dev.sen sen).warnAt = none →
            (d.sen sen).warnAt = some s.dev.micros ∧ d.bit 0x1001 (10 + sen.1) = false) ∧
          (∀ t, s.dev.sw (aSen sen 1) ≤ (iword (s.dev.acc p a).value.1).toInt → (s.dev.sen sen).warnAt = some t →
            (s.dev.micros < t + 1000 → (d.sen sen).warnAt = some t ∧ d.bit 0x1001 (10 + sen.1) = false) ∧
            (t + 1000 ≤ s.dev.micros → d.bit 0x1001 (10 + sen.1) = true ∧ d.bit 0x1002 sen.1 = true ∧
              d.ev[24].cnt = s.dev.ev[24].cnt + 1))) ∧
        (∀ t, s.dev.bit 0x1001 (10 + sen.1) = true → (s.dev.sen sen).warnAt = some t → t + 1000 ≤ s.dev.micros →
          (iword (s.dev.acc p a).value.1).toInt < s.dev.sw (aSen sen 1) - s.dev.uw (aSen sen 3) →
          d.bit 0x1001 (10 + sen.1) = false ∧ d.bit 0x1005 (10 + sen.1) = true) ∧
        (∀ t, s.dev.bit 0x1001 (5 + sen.1) = false → (s.dev.sen sen).thrAt = some t → t + 1000 ≤ s.dev.micros →
          s.dev.sw (aSen sen 2) ≤ (iword (s.dev.acc p a).value.1).toInt →
          d.bit 0x1001 (5 + sen.1) = true ∧ d.bit 0x1003 sen.1 = true ∧ d.ev[25].cnt = s.dev.ev[25].cnt + 1) ∧
        (∀ t, s.dev.bit 0x1001 (5 + sen.1) = true → (s.dev.sen sen).thrAt = some t → t + 1000 ≤ s.dev.micros →
          (iword (s.dev.acc p a).value.1).toInt < s.dev.sw (aSen sen 2) - s.dev.uw (aSen sen 3) →
          d.bit 0x1001 (5 + sen.1) = false ∧ d.bit 0x1005 (5 + sen.1) = true)) ∧
    (∀ sen : SensorIx, s.dev.resetN = true → s.dev.hasSen sen = true →
      (s.dev.bit 0x1001 sen.1 = false →
        ∃ d, exec (.thermalShutdownAssert sen) s = .next { s with dev := d } ∧ d.bit 0x1001 sen.1 = true ∧
          d.bit 0x1004 sen.1 = true ∧ (s.dev.locked = true → d.ev[26].cnt = s.dev.ev[26].cnt + 1) ∧
          (s.dev.locked = false → s.dev.evLate ++ [26] <+: d.evLate ∧ d.ev[26] = s.dev.ev[26]) ∧
          (∀ n, 4 ≤ n → n ≤ 9 → sen.1 = 0 ∨ n = 5 + sen.1 → d.domOn n = false)) ∧
      (s.dev.bit 0x1001 sen.1 = true →
        exec (.thermalShutdownAssert sen) s = .next s ∧
        ∃ d, exec (.thermalShutdownRelease sen) s = .next { s with dev := d } ∧ d.bit 0x1001 sen.1 = false ∧
          d.bit 0x1005 sen.1 = true ∧ (s.dev.locked = true → d.ev[27].cnt = s.dev.ev[27].cnt + 1) ∧
          (s.dev.locked = false → d.evLate = s.dev.evLate ++ [27] ∧ d.ev = s.dev.ev) ∧ d.motors = s.dev.motors ∧
          s.dev.SameWords d [0x1001, 0x1005]))

/-- Power domains. A write of REQ stores the bits of the domains that the part has and switches off every domain whose
bit is 0, D3 LOG too while no memory test runs, each with its bit of CAUSE and one E58; a wanted domain starts with its cause
and E58, in order and 10 µs after the last, and no other domain changes; it is ready after its time, and not before.
The model's choices that it rests on, no rules of the spec: notes/assumptions 2, 51. -/
def Obligations.PowerDomains : Prop :=
  ∀ (s : State),
    (∀ (k : Master) (v : Word), s.dev.writeOk k 0x800 = true →
      ∃ d, exec (.powerRequestWrite k v) s = .next { s with dev := d } ∧
        (∀ n, 3 ≤ n → n ≤ 9 → s.dev.hasDom n = true → d.bit 0x800 n = bitOf v n) ∧
        (∀ n, 3 ≤ n → n ≤ 9 → bitOf v n = false → n ≠ 3 ∨ s.dev.bist.run = none →
          d.domOn n = false ∧ (s.dev.domOn n = true → d.bit 0x804 n = true)) ∧
        d.ev[58].cnt = s.dev.ev[58].cnt + BitVec.ofNat 32 ((List.range 10).filter (fun n =>
          3 ≤ n && s.dev.domOn n && !d.domOn n)).length ∧
        ∀ n, s.dev.domOn n = false → d.domOn n = false) ∧
    (∀ n : Fin 10, s.dev.domMayStart n = true →
      ∃ d, exec (.domainSwitchOn n) s = .next { s with dev := d } ∧ d.domOn n.1 = true ∧ d.bit 0x804 n.1 = true ∧
        d.power.startAt[n] = s.dev.cycles ∧ d.power.lastOn = some s.dev.cycles ∧
        d.power.mustLock.getLsbD n.1 = !s.dev.power.prismLock ∧
        (s.dev.locked = true → d.ev[58].cnt = s.dev.ev[58].cnt + 1) ∧ (∀ o, o ≠ n.1 → d.domOn o = s.dev.domOn o) ∧
        ∀ m, (d.mot m).state = (s.dev.mot m).state) ∧
    (∀ n : Fin 10, s.dev.domMayStart n = false → exec (.domainSwitchOn n) s = .next s) ∧
    ∀ n : Fin 10,
      let after := if n.1 = 3 then 4000 else if 6 ≤ n.1 then 40000 else if s.dev.power.mustLock.getLsbD n.1 then 30000 else 10000
      (s.dev.runs = true → s.dev.power.gap.getLsbD n.1 = false → s.dev.cycles < s.dev.power.startAt[n] + after →
        exec (.domainReady n) s = .next s) ∧
      (s.dev.domOn n.1 = true → s.dev.domRdy n.1 = false → s.dev.power.startAt[n] + after ≤ s.dev.cycles →
        ∃ d, exec (.domainReady n) s = .next { s with dev := d } ∧ d.domRdy n.1 = true ∧
          (n.1 = 4 ∨ n.1 = 5 → d.power.prismLock = !s.dev.power.prismLost) ∧ ∀ m, (d.mot m).state = (s.dev.mot m).state)

/-- The life cycle. From BLANK, MANUFACTURE (with both keys) and SERVICE (with the gates off and every motor in IDLE) a
command starts its fuse; SERVICE ends with the word of FIELD and begins with a right response, and a wrong one counts
and at the third locks out. A command refused changes no fuse, and while a fuse is programmed every command is ignored.
The fuse blows when programming completes; the erasure of RETURN leaves both stores empty.
The model's choices that it rests on, no rules of the spec: notes/assumptions 81, 82. -/
def Obligations.LifeCycle : Prop :=
  ∀ (s : State) (k : Master),
    (s.dev.writeOk k 0xF001 = true → s.dev.lc.fuse = none →
      (s.dev.lcState = 0 → ∃ d, exec (.lcManufacture k) s = .next { s with dev := d } ∧ d.lc.fuse = some 1 ∧
        d.bit 0xF002 0 = true ∧ d.fuses = s.dev.fuses ∧ s.dev.SameWords d [0xF002]) ∧
      (s.dev.lcState ≠ 0 → ∃ d, exec (.lcManufacture k) s = .next { s with dev := d } ∧ d.lc = s.dev.lc ∧
        d.bit 0xF002 1 = true ∧ d.fuses = s.dev.fuses ∧ s.dev.SameWords d [0xF002]) ∧
      (s.dev.lcState ≠ 3 → ¬ (s.dev.lcState = 1 ∧ s.dev.fuses.keySvc = true ∧ s.dev.bit 0xC000 10 = true) →
        ∃ d, exec (.lcField k) s = .next { s with dev := d } ∧ d.lc = s.dev.lc ∧
          d.bit 0xF002 1 = true ∧ d.fuses = s.dev.fuses ∧ s.dev.SameWords d [0xF002]) ∧
      (s.dev.lcState ≠ 2 ∨ s.dev.bit 0xF000 14 = true →
        ∃ d, exec (.lcService k) s = .next { s with dev := d } ∧ d.lc = s.dev.lc ∧
          d.bit 0xF002 1 = true ∧ d.fuses = s.dev.fuses ∧ s.dev.SameWords d [0xF002]) ∧
      (¬ (s.dev.lcState = 3 ∧ s.dev.gatesOff = true ∧ s.dev.allIdle = true) →
        ∃ d, exec (.lcReturn k) s = .next { s with dev := d } ∧ d.lc = s.dev.lc ∧
          d.bit 0xF002 1 = true ∧ d.fuses = s.dev.fuses ∧ s.dev.SameWords d [0xF002]) ∧
      (s.dev.lcState = 1 → s.dev.fuses.keySvc = true → s.dev.bit 0xC000 10 = true →
        ∃ d, exec (.lcField k) s = .next { s with dev := d } ∧ d.lc.fuse = some 2 ∧ d.bit 0xF002 0 = true ∧
          d.fuses = s.dev.fuses ∧ s.dev.SameWords d [0xF002]) ∧
      (s.dev.lcState = 3 → ∃ d, exec (.lcField k) s = .next { s with dev := d } ∧ d.lc.service = false ∧
        d.lcState = 2 ∧ d.bit 0xF002 0 = true ∧ s.dev.SameWords d [0xF002]) ∧
      (s.dev.lcState = 2 → s.dev.bit 0xF000 14 = false →
        (s.dev.authOk = true → ∃ d, exec (.lcService k) s = .next { s with dev := d } ∧ d.lcState = 3 ∧
          d.lc.chal = none ∧ d.bit 0xF002 0 = true ∧ s.dev.SameWords d [0xF002]) ∧
        (s.dev.authOk = false → ∃ d, exec (.lcService k) s = .next { s with dev := d } ∧ d.lcState = 2 ∧
          d.lc.chal = none ∧ d.bit 0xF002 2 = true ∧ d.fld 0xF000 5 4 = min 3 (s.dev.fld 0xF000 5 4 + 1) ∧
          (s.dev.fld 0xF000 5 4 = 2 → d.bit 0xF000 14 = true) ∧ s.dev.SameWords d [0xF000, 0xF002])) ∧
      (s.dev.lcState = 3 → s.dev.gatesOff = true → s.dev.allIdle = true →
        ∃ d, exec (.lcReturn k) s = .next { s with dev := d } ∧ d.lc.fuse = some 3 ∧ d.bit 0xF002 0 = true ∧
          d.fuses = s.dev.fuses ∧ s.dev.SameWords d [0xF002])) ∧
    (s.dev.lc.fuse.isSome = true → ∀ c ∈ [Instr.lcManufacture k, .lcField k, .lcService k, .lcReturn k], exec c s = .next s) ∧
    (s.dev.runs = true →
      (s.dev.lc.fuse = some 1 → ∃ d, exec .fuseProgramComplete s = .next { s with dev := d } ∧
        d.fuses = { s.dev.fuses with mfg := true } ∧ d.lc.fuse = none ∧ d.words = s.dev.words) ∧
      (s.dev.lc.fuse = some 2 → ∃ d, exec .fuseProgramComplete s = .next { s with dev := d } ∧
        d.fuses = { s.dev.fuses with fld := true } ∧ d.lc.fuse = none ∧ d.words = s.dev.words) ∧
      (s.dev.lc.fuse = some 3 → ∃ d, exec .fuseProgramComplete s = .next { s with dev := d } ∧
        d.fuses = { s.dev.fuses with ret := true } ∧ d.lc.fuse = none ∧ d.lc.erasing = true ∧
        d.words = s.dev.words) ∧
      (s.dev.lc.erasing = true → ∃ d, exec .returnEraseComplete s = .next { s with dev := d } ∧ d.store = [] ∧
        d.devLog = {} ∧ d.fuses.erased = true ∧ d.lc.erasing = false ∧ d.w 0x52 = 0 ∧ d.wptr = 0 ∧
        d.motors = s.dev.motors))

/-- Keys and the challenge. The last word of a key programs it in MANUFACTURE when the key is not yet programmed, and
the staged words are gone; a key once programmed stays. A read of CHAL[0] draws a challenge, returns its low word and
latches the rest; it lapses after its time.
The model's choices that it rests on, no rules of the spec: notes/assumptions 9, 83. -/
def Obligations.KeysAndChallenge : Prop :=
  ∀ (s : State) (k : Master),
    (∀ v, s.dev.writeOk k 0xFC0F = true →
      (s.dev.lcState = 1 → s.dev.fuses.keySvc = false →
        ∃ d, exec (.keyProgram k .service v) s = .next { s with dev := d } ∧ d.fuses.keySvc = true ∧
          d.fuses.svcKey = (s.dev.put 0xFC0F v).staged 0xFC08 ∧ (∀ i, i < 8 → d.w (0xFC08 + i) = 0) ∧
          d.motors = s.dev.motors) ∧
      (s.dev.fuses.keySvc = true →
        ∃ d, exec (.keyProgram k .service v) s = .next { s with dev := d } ∧ d.fuses = s.dev.fuses)) ∧
    (∀ v, s.dev.writeOk k 0xFC17 = true → s.dev.lcState = 1 → s.dev.fuses.keySet = false →
      ∃ d, exec (.keyProgram k .image v) s = .next { s with dev := d } ∧ d.fuses.keySet = true ∧
        d.fuses.imageKey = (s.dev.put 0xFC17 v).staged 0xFC10 ∧ (∀ i, i < 8 → d.w (0xFC10 + i) = 0)) ∧
    (s.dev.readOk k 0xF004 = true →
      ∃ d c, exec (.challengeDraw k) s = .next { s with dev := d } ∧ d.lc.chal = some (c, s.dev.cycles) ∧
        d.fab[k] = c.extractLsb' 0 16 ∧ d.latched k 0xF005 = c.extractLsb' 16 16 ∧
        d.latched k 0xF006 = c.extractLsb' 32 16 ∧ d.latched k 0xF007 = c.extractLsb' 48 16 ∧
        (∀ a, d.w a = s.dev.w a) ∧ d.motors = s.dev.motors) ∧
    ∀ c t, s.dev.runs = true → s.dev.lc.chal = some (c, t) → t + 2000000000 ≤ s.dev.cycles →
      exec .challengeLapse s = .next { s with dev := { s.dev with lc := { s.dev.lc with chal := none } } }

/-- The memory test, repair and boundary scan. A test starts under its conditions and otherwise sets REFUSED; ABORT and
the end of the march stop it with their causes, the first failure and its count recorded. Repair by fuse takes the one
failing row, and without a failed test is refused. The TAP takes the instruction named, and EXTEST clears every RUN bit
and holds every half-bridge off.
The model's choices that it rests on, no rules of the spec: notes/assumptions 76, 84, 85, 87, 122, 124. -/
def Obligations.TestsAndScan : Prop :=
  ∀ (s : State),
    (∀ (k : Master) (v : Word), s.dev.writeOk k 0xF400 = true →
      (s.dev.bistMay (bits v 3 0) = true →
        ∃ d, exec (.bistStart k v) s = .next { s with dev := d } ∧ d.bist.run = some (bits v 3 0) ∧
          d.bit 0xF401 15 = true ∧ d.w 0xF403 = 0 ∧ d.w 0xF410 = 0 ∧ d.motors = s.dev.motors) ∧
      (s.dev.bistMay (bits v 3 0) = false →
        ∃ d, exec (.bistStart k v) s = .next { s with dev := d } ∧ d.bist = s.dev.bist ∧ d.bit 0xF401 14 = true ∧
          d.bit 0xF402 0 = true ∧ d.motors = s.dev.motors ∧ s.dev.SameWords d [0xF401, 0xF402]) ∧
      (∀ t, s.dev.bist.run = some t →
        ∃ d, exec (.bistAbort k v) s = .next { s with dev := d } ∧ d.bist.run = none ∧ d.bit 0xF401 15 = false ∧
          d.bit 0xF402 2 = true)) ∧
    (∀ t, s.dev.runs = true → s.dev.bist.run = some t →
      (s.dev.w 0xF403 = 0 →
        ∃ d, exec (.bistComplete []) s = .next { s with dev := d } ∧ d.bist.run = none ∧ d.bist.failed = false ∧
          d.bit 0xF401 15 = false ∧ d.bit 0xF402 0 = true) ∧
      (s.dev.w 0xF403 ≠ 0 →
        ∃ d, exec (.bistComplete []) s = .next { s with dev := d } ∧ d.bist.run = none ∧ d.bist.failed = true ∧
          d.bit 0xF401 15 = false ∧ d.bit 0xF402 1 = true) ∧
      ∀ f, s.dev.w 0xF403 = 0 → s.dev.marchFits t f = true →
        ∃ d, exec (.bistComplete [f]) s = .next { s with dev := d } ∧ d.bist.run = none ∧ d.bist.failed = true ∧
        d.bit 0xF402 1 = true ∧ d.w 0xF403 = 1 ∧ d.w 0xF404 = word f.index) ∧
    (∀ (k : Master) (v : Word), s.dev.writeOk k 0xF800 = true →
      (s.dev.bist.run = none → s.dev.bist.failed = true → s.dev.lcState = 1 → s.dev.bit 0xF410 15 = true →
        s.dev.bit 0xF410 14 = false → (∀ i, 0 < i → i < 8 → s.dev.bit (0xF410 + i) 15 = false) →
        s.dev.spareLeft s.dev.bist.lastTgt (s.dev.fld 0xF410 13 0) = true →
        ∃ d, exec (.repair k v) s = .next { s with dev := d } ∧
          d.fuses.repairs = s.dev.fuses.repairs ++ [(s.dev.bist.lastTgt, s.dev.fld 0xF410 13 0)] ∧
          d.fld 0xF801 11 6 = 1 ∧ d.bit 0xF801 15 = false ∧ d.motors = s.dev.motors ∧ s.dev.SameWords d [0xF801]) ∧
      (s.dev.bist.failed = false →
        exec (.repair k v) s = .next { s with dev := s.dev.putB 0xF801 15 true })) ∧
    (s.dev.resetN = true →
      (∃ d, exec .tapReset s = .next { s with dev := d } ∧ d.tap = .idcode ∧ ∀ a, d.w a = s.dev.w a) ∧
      (∃ d, exec .idcode s = .next { s with dev := d } ∧ d.tap = .idcode ∧ ∀ a, d.w a = s.dev.w a) ∧
      (∃ d, exec .samplePreload s = .next { s with dev := d } ∧ d.tap = .sample ∧ ∀ a, d.w a = s.dev.w a) ∧
      (∃ d, exec .bypass s = .next { s with dev := d } ∧ d.tap = .bypass ∧ ∀ a, d.w a = s.dev.w a) ∧
      ∃ d, exec .extest s = .next { s with dev := d } ∧ d.tap = .extest ∧
        (∀ g, d.bit (aGrp g 1) 0 = false) ∧ (∀ b, (d.brg b).en = false) ∧
        ∀ m, (d.mot m).state = (s.dev.mot m).state)

/-- Writes of a register that does no more than store (R9): an RW bit takes the value, an RWL bit only while the tables
are unlocked, a W1C bit written 1 clears unless the device has set it in the same cycle, and any other bit stays. A
write that the fabric refuses does nothing.
The model's choices that it rests on, no rules of the spec: notes/assumptions 75. -/
def Obligations.RegisterWrites : Prop :=
  ∀ (s : State) (k : Master) (a : Addr) (v : Word),
    (s.dev.writeOk k a.toNat = false →
      exec (.registerWrite k a v) s = .next s ∧ exec (.w1cWrite k a v) s = .next s) ∧
    ∀ r, s.dev.writeOk k a.toNat = true → regRow a.toNat = some r → s.dev.absent a.toNat = false →
      plainWord a.toNat = true →
      ∃ d, exec (.registerWrite k a v) s = .next { s with dev := d } ∧
        exec (.w1cWrite k a v) s = .next { s with dev := d } ∧ s.dev.SameWords d [a.toNat] ∧ d.motors = s.dev.motors ∧
        ∀ i, i < 16 → (absentBits s.dev a.toNat).getLsbD i = false →
          ((r.mask .rw).testBit i = true → d.bit a.toNat i = bitOf v i) ∧
          ((r.mask .rwl).testBit i = true → (r.mask .rw).testBit i = false → (r.mask .w1c).testBit i = false →
            d.bit a.toNat i = (if s.dev.locked' then s.dev.bit a.toNat i else bitOf v i)) ∧
          ((r.mask .w1c).testBit i = true → (r.mask .rw).testBit i = false → (r.mask .rwl).testBit i = false →
            d.bit a.toNat i = (s.dev.bit a.toNat i && (!bitOf v i || bitOf (s.dev.freshBits a.toNat) i))) ∧
          ((r.mask .w1c).testBit i = false → (r.mask .rw).testBit i = false → (r.mask .rwl).testBit i = false →
            d.bit a.toNat i = s.dev.bit a.toNat i)

/-- Reads. A read that latches returns the low word and latches the others for its own master alone; a read of an RC
register returns its bits as the cycle found them and clears them, but for those that the device has set in that cycle;
a read that the fabric refuses returns 0 and changes nothing else.
The model's choices that it rests on, no rules of the spec: notes/assumptions 6, 75, 115. -/
def Obligations.RegisterReads : Prop :=
  ∀ (s : State) (k : Master) (a : Addr),
    (s.dev.readOk k a.toNat = false →
      exec (.lowWordLatchRead k a) s = .next { s with dev := s.dev.putFab k 0 } ∧
      exec (.readClear k a) s = .next { s with dev := s.dev.putFab k 0 }) ∧
    (s.dev.readOk k a.toNat = true → a.toNat < 0x100000 → a.toNat ≠ 0xF004 → latchSet a.toNat ≠ [] →
      isLatched a.toNat = false →
      ∃ d, exec (.lowWordLatchRead k a) s = .next { s with dev := d } ∧
        (isFbStat a.toNat = false → rcMask a.toNat = 0 → d.fab[k] = s.dev.live a.toNat) ∧
        (∀ b ∈ latchSet a.toNat, d.latched k b = s.dev.live b) ∧
        (∀ (j : Master) b, j ≠ k → b < 2 ^ 24 → d.latched j b = s.dev.latched j b) ∧ d.motors = s.dev.motors) ∧
    ∀ r, s.dev.readOk k a.toNat = true → a.toNat < 0x100000 → regRow a.toNat = some r → r.mask .rc ≠ 0 →
      isLatched a.toNat = false → isFbStat a.toNat = false → s.dev.liveWord a.toNat = none →
      s.dev.absent a.toNat = false → absentBits s.dev a.toNat = 0 → r.mask .wo = 0 →
      let m := BitVec.ofNat 16 (r.mask .rc)
      ∃ d, exec (.readClear k a) s = .next { s with dev := d } ∧
        d.fab[k] = (s.dev.w a.toNat &&& ~~~m) ||| (s.dev.w0 a.toNat &&& m) ∧
        s.dev.freshBits a.toNat &&& m &&& ~~~(d.w a.toNat) = 0 ∧
        (s.dev.w a.toNat &&& m = s.dev.w0 a.toNat &&& m → s.dev.freshBits a.toNat &&& m = 0 →
          d.fab[k] = s.dev.w a.toNat ∧ d.w a.toNat = s.dev.w a.toNat &&& ~~~m) ∧
        s.dev.SameWords d [a.toNat] ∧ d.motors = s.dev.motors

/-- Starting and stopping timebases (R33). GRPSTART, or RUN written 1, sets RUN, and a stopped group then reaches tick 0
of its first frame in the next ck_core cycle, with the written PERIOD; a running group runs on, also where RUN had been
written 0. RUN written 0 clears the bit and leaves the group as it is until its frame ends, and takes back a start of
the same cycle.
The model's choices that it rests on, no rules of the spec: notes/assumptions 1, 22, 23. -/
def Obligations.TimebaseRuns : Prop :=
  ∀ (s : State) (k : Master) (v : Word),
    (s.dev.writeOk k 0xF = true → s.dev.runBlocked = false →
      ∃ d, exec (.grpstart k v) s = .next { s with dev := d } ∧
        ∀ g, s.dev.hasGrp g = true →
          (d.grp g).running = (s.dev.grp g).running ∧ (d.grp g).frameAt = (s.dev.grp g).frameAt ∧
          (bitOf v g.1 = true → d.bit (aGrp g 1) 0 = true ∧ (d.grp g).starting = !(s.dev.grp g).running) ∧
          (bitOf v g.1 = false → d.bit (aGrp g 1) 0 = s.dev.bit (aGrp g 1) 0 ∧
            (d.grp g).starting = (s.dev.grp g).starting)) ∧
    (∀ g, s.dev.hasGrp g = true → s.dev.runs = true → s.pending = [] → (s.dev.grp g).starting = true →
      (s.dev.grp g).running = false →
      (s.dev.bit (aGrp g 1) 0 = true → ∃ d, step s = .next { s with dev := d } ∧ (d.grp g).running = true ∧
        (d.grp g).starting = false ∧ (d.grp g).frameAt = s.dev.cycles + 1 ∧ (d.grp g).fcnt = 1 ∧
        (d.grp g).period = clampNat 4000 25000 (s.dev.uw (aGrp g 0)) ∧ d.cycles = s.dev.cycles + 1) ∧
      (s.dev.bit (aGrp g 1) 0 = false → ∃ d, step s = .next { s with dev := d } ∧ (d.grp g).running = false ∧
        (d.grp g).starting = false)) ∧
    ∀ g, s.dev.hasGrp g = true → s.dev.writeOk k (aGrp g 1) = true →
      (s.dev.runBlocked = false →
        ∃ d, exec (.grpRunSet k g v) s = .next { s with dev := d } ∧ d.bit (aGrp g 1) 0 = true ∧
          (d.grp g).running = (s.dev.grp g).running ∧ (d.grp g).starting = (!(s.dev.grp g).running) ∧
          (∀ o, o ≠ g → d.grp o = s.dev.grp o) ∧ d.motors = s.dev.motors ∧ s.dev.SameWords d [aGrp g 1]) ∧
      ∃ d, exec (.grpRunClear k g v) s = .next { s with dev := d } ∧ d.bit (aGrp g 1) 0 = false ∧
        d.groups = s.dev.groups ∧ d.motors = s.dev.motors ∧ s.dev.SameWords d [aGrp g 1]

/-! ### Frames over the whole module -/

/-- An event of the drive leaves these parts of the module as they stand: the SYS words 0x0 to 0xF and 0x30 to 0x3FF,
the part and its fuses, reset and the locks, the loader, the state of the Mirror link, the life cycle, the tests, the
TAP, the mailbox copies on their way, a coupling edge that waits, the time of the last device fault, and the sealed
island. -/
def Obligations.SystemUntouched : Prop :=
  ∀ (s : State) (c : Instr), ofDrive c = true →
    ∃ d, exec c s = .next { s with dev := d } ∧ s.dev.SameSystem d
end

