-- ==== Sys2Proof/Laws/Store.lean ====
section
/-! SUPPORT. The laws of the sparse stores: a read after a write, and the canonical form kept by every operation. -/

namespace Sys2Proof.Machine

set_option Elab.async false

open Sys2Proof

variable {dflt : Nat → Word}

/-! ### Reads after writes -/

theorem Store.get_insert (st : Store) (a b : Nat) (v : Word) (h : ∀ e ∈ st, e.1 ≠ a) :
    Store.get dflt (st.insert a v) b = if b = a then v else Store.get dflt st b := by
  induction st with
  | nil => rfl
  | cons e t ih =>
    obtain ⟨k, x⟩ := e
    have hk : k ≠ a := h (k, x) (by simp)
    have ht := ih (fun e he => h e (by simp [he]))
    by_cases hlt : a < k
    · simp [Store.insert, hlt, Store.get]
    · by_cases hb : b = k
      · simp [Store.insert, hlt, Store.get, hb, hk]
      · simp [Store.insert, hlt, Store.get, hb, ht]

theorem Store.get_filter (st : Store) (p : Nat → Bool) (b : Nat) :
    Store.get dflt (st.filter (fun e => p e.1)) b = if p b then Store.get dflt st b else dflt b := by
  induction st with
  | nil => simp [Store.get]
  | cons e t ih =>
    obtain ⟨k, x⟩ := e
    by_cases hb : b = k
    · subst hb
      cases hp : p b <;> simp [hp, Store.get, ih]
    · cases hk : p k <;> simp [hk, Store.get, hb, ih]

theorem Store.get_append (s t : Store) (b : Nat) :
    Store.get dflt (s ++ t) b = if ∃ e ∈ s, e.1 = b then Store.get dflt s b else Store.get dflt t b := by
  induction s with
  | nil => simp
  | cons e s ih =>
    obtain ⟨k, x⟩ := e
    by_cases hb : b = k
    · simp [Store.get, hb]
    · have : ¬ k = b := fun h => hb h.symm
      simp [Store.get, hb, ih, this]

/-- A key that no entry names reads as its default. -/
theorem Store.get_of_not_mem (st : Store) (b : Nat) (h : ∀ e ∈ st, e.1 ≠ b) : Store.get dflt st b = dflt b := by
  induction st with
  | nil => rfl
  | cons e t ih =>
    obtain ⟨k, x⟩ := e
    have hk : b ≠ k := fun hb => h (k, x) (by simp) hb.symm
    simp [Store.get, hk, ih (fun e he => h e (by simp [he]))]

/-- A read after a write gives the value written, and every other key reads as before. -/
theorem Store.get_set (st : Store) (a b : Nat) (v : Word) :
    Store.get dflt (Store.set dflt st a v) b = if b = a then v else Store.get dflt st b := by
  have hf := Store.get_filter (dflt := dflt) st (fun k => k ≠ a) b
  unfold Store.set
  by_cases hv : v = dflt a
  · by_cases hb : b = a
    · subst hb; simpa [hv] using hf
    · simpa [hv, hb] using hf
  · have hi := Store.get_insert (dflt := dflt) (st.filter (fun e => e.1 ≠ a)) a b v (by simp)
    simp only [hv, if_false]
    rw [hi]
    by_cases hb : b = a
    · simp [hb]
    · simpa [hb] using hf

@[simp] theorem Store.get_set_self (st : Store) (a : Nat) (v : Word) :
    Store.get dflt (Store.set dflt st a v) a = v := by simp [Store.get_set]

theorem Store.get_set_ne (st : Store) {a b : Nat} (v : Word) (h : b ≠ a) :
    Store.get dflt (Store.set dflt st a v) b = Store.get dflt st b := by simp [Store.get_set, h]

/-- A range that is cleared reads as its defaults, and every other key as before. -/
theorem Store.get_clear (st : Store) (lo hi b : Nat) :
    Store.get dflt (st.clear lo hi) b = if lo ≤ b ∧ b < hi then dflt b else Store.get dflt st b := by
  have h := Store.get_filter (dflt := dflt) st (fun k => decide (k < lo) || decide (hi ≤ k)) b
  unfold Store.clear
  rw [h]
  by_cases h1 : lo ≤ b ∧ b < hi
  · have : ¬ b < lo := by omega
    have : ¬ hi ≤ b := by omega
    simp [*]
  · have : b < lo ∨ hi ≤ b := by omega
    simp [h1, this]

/-! ### The canonical form -/

theorem Store.wfFrom_mono {st : Store} {lo hi : Nat} (h : Store.wfFrom dflt hi st = true) (hle : lo ≤ hi) :
    Store.wfFrom dflt lo st = true := by
  cases st with
  | nil => rfl
  | cons e t =>
    obtain ⟨k, x⟩ := e
    simp only [Store.wfFrom, Bool.and_eq_true, decide_eq_true_eq] at h ⊢
    exact ⟨⟨by omega, h.1.2⟩, h.2⟩

theorem Store.wfFrom_filter (p : Nat → Bool) (st : Store) :
    ∀ lo, Store.wfFrom dflt lo st = true → Store.wfFrom dflt lo (st.filter (fun e => p e.1)) = true := by
  induction st with
  | nil => intro lo h; exact h
  | cons e t ih =>
    intro lo h
    obtain ⟨k, x⟩ := e
    simp only [Store.wfFrom, Bool.and_eq_true, decide_eq_true_eq] at h
    cases hp : p k
    · simp only [List.filter_cons, hp]
      exact Store.wfFrom_mono (ih (k + 1) h.2) (by omega)
    · simp only [List.filter_cons, hp, if_true, Store.wfFrom, Bool.and_eq_true, decide_eq_true_eq]
      exact ⟨h.1, ih (k + 1) h.2⟩

theorem Store.wfFrom_insert (a : Nat) (v : Word) (hv : v ≠ dflt a) (st : Store) :
    ∀ lo, lo ≤ a → (∀ e ∈ st, e.1 ≠ a) → Store.wfFrom dflt lo st = true →
      Store.wfFrom dflt lo (st.insert a v) = true := by
  induction st with
  | nil => intro lo hlo _ _; simp [Store.insert, Store.wfFrom, hlo, hv]
  | cons e t ih =>
    intro lo hlo hne h
    obtain ⟨k, x⟩ := e
    have hk : k ≠ a := hne (k, x) (by simp)
    simp only [Store.wfFrom, Bool.and_eq_true, decide_eq_true_eq] at h
    by_cases hlt : a < k
    · simp only [Store.insert, hlt, if_true, Store.wfFrom, Bool.and_eq_true, decide_eq_true_eq]
      exact ⟨⟨hlo, hv⟩, ⟨by omega, h.1.2⟩, h.2⟩
    · simp only [Store.insert, hlt, if_false, Store.wfFrom, Bool.and_eq_true, decide_eq_true_eq]
      exact ⟨h.1, ih (k + 1) (by omega) (fun e he => hne e (by simp [he])) h.2⟩

/-- A write keeps the canonical form. -/
theorem Store.wf_set (st : Store) (a : Nat) (v : Word) (h : Store.wf dflt st = true) :
    Store.wf dflt (Store.set dflt st a v) = true := by
  have hf := Store.wfFrom_filter (dflt := dflt) (fun k => k ≠ a) st 0 h
  unfold Store.set Store.wf
  by_cases hv : v = dflt a
  · simpa [hv] using hf
  · simp only [hv, if_false]
    exact Store.wfFrom_insert a v hv _ 0 (Nat.zero_le a) (by simp) (by simpa using hf)

/-- Clearing a range keeps the canonical form. -/
theorem Store.wf_clear (st : Store) (lo hi : Nat) (h : Store.wf dflt st = true) : Store.wf dflt (st.clear lo hi) = true :=
  Store.wfFrom_filter (fun k => decide (k < lo) || decide (hi ≤ k)) st 0 h

theorem Store.wfFrom_append (s t : Store) (m : Nat) (hs : ∀ e ∈ s, e.1 < m) (ht : Store.wfFrom dflt m t = true) :
    ∀ lo, lo ≤ m → Store.wfFrom dflt lo s = true → Store.wfFrom dflt lo (s ++ t) = true := by
  induction s with
  | nil => intro lo hlo _; exact Store.wfFrom_mono ht hlo
  | cons e s ih =>
    intro lo hlo h
    obtain ⟨k, x⟩ := e
    have hk : k < m := hs (k, x) (by simp)
    simp only [List.cons_append, Store.wfFrom, Bool.and_eq_true, decide_eq_true_eq] at h ⊢
    exact ⟨h.1, ih (fun e he => hs e (by simp [he])) (k + 1) (by omega) h.2⟩

theorem Store.wfFrom_raise (st : Store) (m : Nat) (hm : ∀ e ∈ st, m ≤ e.1) :
    ∀ lo, Store.wfFrom dflt lo st = true → Store.wfFrom dflt m st = true := by
  cases st with
  | nil => intro _ _; rfl
  | cons e t =>
    intro lo h
    obtain ⟨k, x⟩ := e
    simp only [Store.wfFrom, Bool.and_eq_true, decide_eq_true_eq] at h ⊢
    exact ⟨⟨hm (k, x) (by simp), h.1.2⟩, h.2⟩

/-- Copying a range keeps the canonical form. -/
theorem Store.wf_copy (dst src : Store) (lo hi : Nat) (hle : lo ≤ hi) (hd : Store.wf dflt dst = true)
    (hs : Store.wf dflt src = true) : Store.wf dflt (dst.copy src lo hi) = true := by
  have h1 := Store.wfFrom_filter (dflt := dflt) (fun k => decide (k < lo)) dst 0 hd
  have h2 := Store.wfFrom_filter (dflt := dflt) (fun k => decide (lo ≤ k) && decide (k < hi)) src 0 hs
  have h3 := Store.wfFrom_filter (dflt := dflt) (fun k => decide (hi ≤ k)) dst 0 hd
  have h3' := Store.wfFrom_raise _ hi (by simp) 0 h3
  have h2' := Store.wfFrom_raise _ lo (by simp; omega) 0 h2
  unfold Store.copy Store.wf
  rw [List.append_assoc]
  refine Store.wfFrom_append _ _ lo (by simp) ?_ 0 (Nat.zero_le _) (by simpa using h1)
  exact Store.wfFrom_append _ _ hi (by simp) (by simpa using h3') lo hle (by simpa using h2')

/-- After a copy, the keys of the range read as in the source and every other key as before. -/
theorem Store.get_copy (dst src : Store) (lo hi b : Nat) :
    Store.get dflt (dst.copy src lo hi) b =
      if lo ≤ b ∧ b < hi then Store.get dflt src b else if b < lo ∨ hi ≤ b then Store.get dflt dst b else dflt b := by
  have h1 := Store.get_filter (dflt := dflt) dst (fun k => decide (k < lo)) b
  have h2 := Store.get_filter (dflt := dflt) src (fun k => decide (lo ≤ k) && decide (k < hi)) b
  have h3 := Store.get_filter (dflt := dflt) dst (fun k => decide (hi ≤ k)) b
  unfold Store.copy
  rw [List.append_assoc, Store.get_append, Store.get_append, h1, h2, h3]
  by_cases ha : b < lo
  · have n1 : ¬ lo ≤ b := by omega
    by_cases hm : ∃ e ∈ dst.filter (fun e => decide (e.1 < lo)), e.1 = b
    · rw [if_pos hm]; simp [ha, n1]
    · have hd : Store.get dflt dst b = dflt b := by
        refine Store.get_of_not_mem dst b (fun e he heq => hm ⟨e, ?_, heq⟩)
        simp [he]; omega
      rw [if_neg hm]
      by_cases hh : hi ≤ b <;> simp [ha, n1, hh, hd]
  · have n0 : ¬ (∃ e ∈ dst.filter (fun e => decide (e.1 < lo)), e.1 = b) := by
      rintro ⟨e, he, rfl⟩; simp at he; omega
    rw [if_neg n0]
    have l1 : lo ≤ b := by omega
    by_cases hh : b < hi
    · have n2 : ¬ hi ≤ b := by omega
      by_cases hm : ∃ e ∈ src.filter (fun e => decide (lo ≤ e.1) && decide (e.1 < hi)), e.1 = b
      · rw [if_pos hm]; simp [l1, hh]
      · have hd : Store.get dflt src b = dflt b := by
          refine Store.get_of_not_mem src b (fun e he heq => hm ⟨e, ?_, heq⟩)
          simp [he]; omega
        rw [if_neg hm]; simp [l1, hh, n2, hd]
    · have g1 : hi ≤ b := by omega
      have n2 : ¬ (∃ e ∈ src.filter (fun e => decide (lo ≤ e.1) && decide (e.1 < hi)), e.1 = b) := by
        rintro ⟨e, he, rfl⟩; simp at he; omega
      rw [if_neg n2]; simp [hh, g1]

end Sys2Proof.Machine
end

