-- ==== Sys2Proof/Laws/State.lean ====
section
/-! SUPPORT. What each named update of the module leaves in each of its parts: one lemma for each update and part, true by
definition, so that no later proof unfolds an update. -/

namespace Sys2Proof.Machine

set_option Elab.async false

open Sys2Proof

variable (d : Dev)

/-! ### Updates of register words -/

@[simp] theorem Dev.put_part (a : Nat) (v : Word) : (d.put a v).part = d.part := rfl
@[simp] theorem Dev.put_rev (a : Nat) (v : Word) : (d.put a v).rev = d.rev := rfl
@[simp] theorem Dev.put_fuses (a : Nat) (v : Word) : (d.put a v).fuses = d.fuses := rfl
@[simp] theorem Dev.put_devLog (a : Nat) (v : Word) : (d.put a v).devLog = d.devLog := rfl
@[simp] theorem Dev.put_store (a : Nat) (v : Word) : (d.put a v).store = d.store := rfl
@[simp] theorem Dev.put_marks (a : Nat) (v : Word) : (d.put a v).marks = d.marks := rfl
@[simp] theorem Dev.put_tested (a : Nat) (v : Word) : (d.put a v).tested = d.tested := rfl
@[simp] theorem Dev.put_logWrote (a : Nat) (v : Word) : (d.put a v).logWrote = d.logWrote := rfl
@[simp] theorem Dev.put_resetN (a : Nat) (v : Word) : (d.put a v).resetN = d.resetN := rfl
@[simp] theorem Dev.put_locked (a : Nat) (v : Word) : (d.put a v).locked = d.locked := rfl
@[simp] theorem Dev.put_everLock (a : Nat) (v : Word) : (d.put a v).everLock = d.everLock := rfl
@[simp] theorem Dev.put_heldOff (a : Nat) (v : Word) : (d.put a v).heldOff = d.heldOff := rfl
@[simp] theorem Dev.put_cycles (a : Nat) (v : Word) : (d.put a v).cycles = d.cycles := rfl
@[simp] theorem Dev.put_inForce (a : Nat) (v : Word) : (d.put a v).inForce = d.inForce := rfl
@[simp] theorem Dev.put_latches (a : Nat) (v : Word) : (d.put a v).latches = d.latches := rfl
@[simp] theorem Dev.put_fab (a : Nat) (v : Word) : (d.put a v).fab = d.fab := rfl
@[simp] theorem Dev.put_cyc0 (a : Nat) (v : Word) : (d.put a v).cyc0 = d.cyc0 := rfl
@[simp] theorem Dev.put_fresh (a : Nat) (v : Word) : (d.put a v).fresh = d.fresh := rfl
@[simp] theorem Dev.put_freshEv (a : Nat) (v : Word) : (d.put a v).freshEv = d.freshEv := rfl
@[simp] theorem Dev.put_evLate (a : Nat) (v : Word) : (d.put a v).evLate = d.evLate := rfl
@[simp] theorem Dev.put_closeLate (a : Nat) (v : Word) : (d.put a v).closeLate = d.closeLate := rfl
@[simp] theorem Dev.put_motors (a : Nat) (v : Word) : (d.put a v).motors = d.motors := rfl
@[simp] theorem Dev.put_groups (a : Nat) (v : Word) : (d.put a v).groups = d.groups := rfl
@[simp] theorem Dev.put_bridges (a : Nat) (v : Word) : (d.put a v).bridges = d.bridges := rfl
@[simp] theorem Dev.put_dies (a : Nat) (v : Word) : (d.put a v).dies = d.dies := rfl
@[simp] theorem Dev.put_reports (a : Nat) (v : Word) : (d.put a v).reports = d.reports := rfl
@[simp] theorem Dev.put_seqAt (a : Nat) (v : Word) : (d.put a v).seqAt = d.seqAt := rfl
@[simp] theorem Dev.put_busDue (a : Nat) (v : Word) : (d.put a v).busDue = d.busDue := rfl
@[simp] theorem Dev.put_glDue (a : Nat) (v : Word) : (d.put a v).glDue = d.glDue := rfl
@[simp] theorem Dev.put_fbDue (a : Nat) (v : Word) : (d.put a v).fbDue = d.fbDue := rfl
@[simp] theorem Dev.put_prisms (a : Nat) (v : Word) : (d.put a v).prisms = d.prisms := rfl
@[simp] theorem Dev.put_fbs (a : Nat) (v : Word) : (d.put a v).fbs = d.fbs := rfl
@[simp] theorem Dev.put_dist (a : Nat) (v : Word) : (d.put a v).dist = d.dist := rfl
@[simp] theorem Dev.put_traces (a : Nat) (v : Word) : (d.put a v).traces = d.traces := rfl
@[simp] theorem Dev.put_tickAt (a : Nat) (v : Word) : (d.put a v).tickAt = d.tickAt := rfl
@[simp] theorem Dev.put_ticks (a : Nat) (v : Word) : (d.put a v).ticks = d.ticks := rfl
@[simp] theorem Dev.put_emptied (a : Nat) (v : Word) : (d.put a v).emptied = d.emptied := rfl
@[simp] theorem Dev.put_secAt (a : Nat) (v : Word) : (d.put a v).secAt = d.secAt := rfl
@[simp] theorem Dev.put_recq (a : Nat) (v : Word) : (d.put a v).recq = d.recq := rfl
@[simp] theorem Dev.put_mbxIn (a : Nat) (v : Word) : (d.put a v).mbxIn = d.mbxIn := rfl
@[simp] theorem Dev.put_mbxAt (a : Nat) (v : Word) : (d.put a v).mbxAt = d.mbxAt := rfl
@[simp] theorem Dev.put_cplAt (a : Nat) (v : Word) : (d.put a v).cplAt = d.cplAt := rfl
@[simp] theorem Dev.put_cplQt (a : Nat) (v : Word) : (d.put a v).cplQt = d.cplQt := rfl
@[simp] theorem Dev.put_cplEdge (a : Nat) (v : Word) : (d.put a v).cplEdge = d.cplEdge := rfl
@[simp] theorem Dev.put_cplFrom (a : Nat) (v : Word) : (d.put a v).cplFrom = d.cplFrom := rfl
@[simp] theorem Dev.put_cplDone (a : Nat) (v : Word) : (d.put a v).cplDone = d.cplDone := rfl
@[simp] theorem Dev.put_loader (a : Nat) (v : Word) : (d.put a v).loader = d.loader := rfl
@[simp] theorem Dev.put_ports (a : Nat) (v : Word) : (d.put a v).ports = d.ports := rfl
@[simp] theorem Dev.put_mem (a : Nat) (v : Word) : (d.put a v).mem = d.mem := rfl
@[simp] theorem Dev.put_mirror (a : Nat) (v : Word) : (d.put a v).mirror = d.mirror := rfl
@[simp] theorem Dev.put_therm (a : Nat) (v : Word) : (d.put a v).therm = d.therm := rfl
@[simp] theorem Dev.put_thermAt (a : Nat) (v : Word) : (d.put a v).thermAt = d.thermAt := rfl
@[simp] theorem Dev.put_power (a : Nat) (v : Word) : (d.put a v).power = d.power := rfl
@[simp] theorem Dev.put_bist (a : Nat) (v : Word) : (d.put a v).bist = d.bist := rfl
@[simp] theorem Dev.put_tap (a : Nat) (v : Word) : (d.put a v).tap = d.tap := rfl
@[simp] theorem Dev.put_scan (a : Nat) (v : Word) : (d.put a v).scan = d.scan := rfl
@[simp] theorem Dev.put_lc (a : Nat) (v : Word) : (d.put a v).lc = d.lc := rfl
@[simp] theorem Dev.put_ev (a : Nat) (v : Word) : (d.put a v).ev = d.ev := rfl
@[simp] theorem Dev.put_pend (a : Nat) (v : Word) : (d.put a v).pend = d.pend := rfl
@[simp] theorem Dev.put_ppend (a : Nat) (v : Word) : (d.put a v).ppend = d.ppend := rfl
@[simp] theorem Dev.put_ueAt (a : Nat) (v : Word) : (d.put a v).ueAt = d.ueAt := rfl
@[simp] theorem Dev.put_faultAt (a : Nat) (v : Word) : (d.put a v).faultAt = d.faultAt := rfl
@[simp] theorem Dev.put_scrubPos (a : Nat) (v : Word) : (d.put a v).scrubPos = d.scrubPos := rfl
@[simp] theorem Dev.put_scrubCe (a : Nat) (v : Word) : (d.put a v).scrubCe = d.scrubCe := rfl
@[simp] theorem Dev.put_scrubRaised (a : Nat) (v : Word) : (d.put a v).scrubRaised = d.scrubRaised := rfl
@[simp] theorem Dev.put_backs (a : Nat) (v : Word) : (d.put a v).backs = d.backs := rfl
@[simp] theorem Dev.put_free (a : Nat) (v : Word) : (d.put a v).free = d.free := rfl
@[simp] theorem Dev.put_runs (a : Nat) (v : Word) : (d.put a v).runs = d.runs := rfl
@[simp] theorem Dev.put_time (a : Nat) (v : Word) : (d.put a v).time = d.time := rfl
@[simp] theorem Dev.put_sub (a : Nat) (v : Word) : (d.put a v).sub = d.sub := rfl
@[simp] theorem Dev.put_micros (a : Nat) (v : Word) : (d.put a v).micros = d.micros := rfl
@[simp] theorem Dev.put_mot (a : Nat) (v : Word) (x : MotorIx) : (d.put a v).mot x = d.mot x := rfl
@[simp] theorem Dev.put_grp (a : Nat) (v : Word) (x : GroupIx) : (d.put a v).grp x = d.grp x := rfl
@[simp] theorem Dev.put_brg (a : Nat) (v : Word) (x : BridgeIx) : (d.put a v).brg x = d.brg x := rfl
@[simp] theorem Dev.put_die (a : Nat) (v : Word) (x : GroupIx) : (d.put a v).die x = d.die x := rfl
@[simp] theorem Dev.put_prm (a : Nat) (v : Word) (x : GroupIx) : (d.put a v).prm x = d.prm x := rfl
@[simp] theorem Dev.put_fb (a : Nat) (v : Word) (x : ChanIx) : (d.put a v).fb x = d.fb x := rfl
@[simp] theorem Dev.put_trc (a : Nat) (v : Word) (x : TraceIx) : (d.put a v).trc x = d.trc x := rfl
@[simp] theorem Dev.put_hp (a : Nat) (v : Word) (x : HostIx) : (d.put a v).hp x = d.hp x := rfl
@[simp] theorem Dev.put_sen (a : Nat) (v : Word) (x : SensorIx) : (d.put a v).sen x = d.sen x := rfl
@[simp] theorem Dev.put_iw (a : Nat) (v : Word) (y : Nat) : (d.put a v).iw y = d.iw y := rfl
@[simp] theorem Dev.put_ibit (a : Nat) (v : Word) (y j : Nat) : (d.put a v).ibit y j = d.ibit y j := rfl
@[simp] theorem Dev.put_ifld (a : Nat) (v : Word) (y h l : Nat) : (d.put a v).ifld y h l = d.ifld y h l := rfl
@[simp] theorem Dev.put_iuw (a : Nat) (v : Word) (y : Nat) : (d.put a v).iuw y = d.iuw y := rfl
@[simp] theorem Dev.put_isw (a : Nat) (v : Word) (y : Nat) : (d.put a v).isw y = d.isw y := rfl

@[simp] theorem Dev.putF_part (a hi lo v : Nat) : (d.putF a hi lo v).part = d.part := Dev.put_part d _ _
@[simp] theorem Dev.putF_rev (a hi lo v : Nat) : (d.putF a hi lo v).rev = d.rev := Dev.put_rev d _ _
@[simp] theorem Dev.putF_fuses (a hi lo v : Nat) : (d.putF a hi lo v).fuses = d.fuses := Dev.put_fuses d _ _
@[simp] theorem Dev.putF_devLog (a hi lo v : Nat) : (d.putF a hi lo v).devLog = d.devLog := Dev.put_devLog d _ _
@[simp] theorem Dev.putF_store (a hi lo v : Nat) : (d.putF a hi lo v).store = d.store := Dev.put_store d _ _
@[simp] theorem Dev.putF_marks (a hi lo v : Nat) : (d.putF a hi lo v).marks = d.marks := Dev.put_marks d _ _
@[simp] theorem Dev.putF_tested (a hi lo v : Nat) : (d.putF a hi lo v).tested = d.tested := Dev.put_tested d _ _
@[simp] theorem Dev.putF_logWrote (a hi lo v : Nat) : (d.putF a hi lo v).logWrote = d.logWrote := Dev.put_logWrote d _ _
@[simp] theorem Dev.putF_resetN (a hi lo v : Nat) : (d.putF a hi lo v).resetN = d.resetN := Dev.put_resetN d _ _
@[simp] theorem Dev.putF_locked (a hi lo v : Nat) : (d.putF a hi lo v).locked = d.locked := Dev.put_locked d _ _
@[simp] theorem Dev.putF_everLock (a hi lo v : Nat) : (d.putF a hi lo v).everLock = d.everLock := Dev.put_everLock d _ _
@[simp] theorem Dev.putF_heldOff (a hi lo v : Nat) : (d.putF a hi lo v).heldOff = d.heldOff := Dev.put_heldOff d _ _
@[simp] theorem Dev.putF_cycles (a hi lo v : Nat) : (d.putF a hi lo v).cycles = d.cycles := Dev.put_cycles d _ _
@[simp] theorem Dev.putF_inForce (a hi lo v : Nat) : (d.putF a hi lo v).inForce = d.inForce := Dev.put_inForce d _ _
@[simp] theorem Dev.putF_latches (a hi lo v : Nat) : (d.putF a hi lo v).latches = d.latches := Dev.put_latches d _ _
@[simp] theorem Dev.putF_fab (a hi lo v : Nat) : (d.putF a hi lo v).fab = d.fab := Dev.put_fab d _ _
@[simp] theorem Dev.putF_cyc0 (a hi lo v : Nat) : (d.putF a hi lo v).cyc0 = d.cyc0 := Dev.put_cyc0 d _ _
@[simp] theorem Dev.putF_fresh (a hi lo v : Nat) : (d.putF a hi lo v).fresh = d.fresh := Dev.put_fresh d _ _
@[simp] theorem Dev.putF_freshEv (a hi lo v : Nat) : (d.putF a hi lo v).freshEv = d.freshEv := Dev.put_freshEv d _ _
@[simp] theorem Dev.putF_evLate (a hi lo v : Nat) : (d.putF a hi lo v).evLate = d.evLate := Dev.put_evLate d _ _
@[simp] theorem Dev.putF_closeLate (a hi lo v : Nat) : (d.putF a hi lo v).closeLate = d.closeLate := Dev.put_closeLate d _ _
@[simp] theorem Dev.putF_motors (a hi lo v : Nat) : (d.putF a hi lo v).motors = d.motors := Dev.put_motors d _ _
@[simp] theorem Dev.putF_groups (a hi lo v : Nat) : (d.putF a hi lo v).groups = d.groups := Dev.put_groups d _ _
@[simp] theorem Dev.putF_bridges (a hi lo v : Nat) : (d.putF a hi lo v).bridges = d.bridges := Dev.put_bridges d _ _
@[simp] theorem Dev.putF_dies (a hi lo v : Nat) : (d.putF a hi lo v).dies = d.dies := Dev.put_dies d _ _
@[simp] theorem Dev.putF_reports (a hi lo v : Nat) : (d.putF a hi lo v).reports = d.reports := Dev.put_reports d _ _
@[simp] theorem Dev.putF_seqAt (a hi lo v : Nat) : (d.putF a hi lo v).seqAt = d.seqAt := Dev.put_seqAt d _ _
@[simp] theorem Dev.putF_busDue (a hi lo v : Nat) : (d.putF a hi lo v).busDue = d.busDue := Dev.put_busDue d _ _
@[simp] theorem Dev.putF_glDue (a hi lo v : Nat) : (d.putF a hi lo v).glDue = d.glDue := Dev.put_glDue d _ _
@[simp] theorem Dev.putF_fbDue (a hi lo v : Nat) : (d.putF a hi lo v).fbDue = d.fbDue := Dev.put_fbDue d _ _
@[simp] theorem Dev.putF_prisms (a hi lo v : Nat) : (d.putF a hi lo v).prisms = d.prisms := Dev.put_prisms d _ _
@[simp] theorem Dev.putF_fbs (a hi lo v : Nat) : (d.putF a hi lo v).fbs = d.fbs := Dev.put_fbs d _ _
@[simp] theorem Dev.putF_dist (a hi lo v : Nat) : (d.putF a hi lo v).dist = d.dist := Dev.put_dist d _ _
@[simp] theorem Dev.putF_traces (a hi lo v : Nat) : (d.putF a hi lo v).traces = d.traces := Dev.put_traces d _ _
@[simp] theorem Dev.putF_tickAt (a hi lo v : Nat) : (d.putF a hi lo v).tickAt = d.tickAt := Dev.put_tickAt d _ _
@[simp] theorem Dev.putF_ticks (a hi lo v : Nat) : (d.putF a hi lo v).ticks = d.ticks := Dev.put_ticks d _ _
@[simp] theorem Dev.putF_emptied (a hi lo v : Nat) : (d.putF a hi lo v).emptied = d.emptied := Dev.put_emptied d _ _
@[simp] theorem Dev.putF_secAt (a hi lo v : Nat) : (d.putF a hi lo v).secAt = d.secAt := Dev.put_secAt d _ _
@[simp] theorem Dev.putF_recq (a hi lo v : Nat) : (d.putF a hi lo v).recq = d.recq := Dev.put_recq d _ _
@[simp] theorem Dev.putF_mbxIn (a hi lo v : Nat) : (d.putF a hi lo v).mbxIn = d.mbxIn := Dev.put_mbxIn d _ _
@[simp] theorem Dev.putF_mbxAt (a hi lo v : Nat) : (d.putF a hi lo v).mbxAt = d.mbxAt := Dev.put_mbxAt d _ _
@[simp] theorem Dev.putF_cplAt (a hi lo v : Nat) : (d.putF a hi lo v).cplAt = d.cplAt := Dev.put_cplAt d _ _
@[simp] theorem Dev.putF_cplQt (a hi lo v : Nat) : (d.putF a hi lo v).cplQt = d.cplQt := Dev.put_cplQt d _ _
@[simp] theorem Dev.putF_cplEdge (a hi lo v : Nat) : (d.putF a hi lo v).cplEdge = d.cplEdge := Dev.put_cplEdge d _ _
@[simp] theorem Dev.putF_cplFrom (a hi lo v : Nat) : (d.putF a hi lo v).cplFrom = d.cplFrom := Dev.put_cplFrom d _ _
@[simp] theorem Dev.putF_cplDone (a hi lo v : Nat) : (d.putF a hi lo v).cplDone = d.cplDone := Dev.put_cplDone d _ _
@[simp] theorem Dev.putF_loader (a hi lo v : Nat) : (d.putF a hi lo v).loader = d.loader := Dev.put_loader d _ _
@[simp] theorem Dev.putF_ports (a hi lo v : Nat) : (d.putF a hi lo v).ports = d.ports := Dev.put_ports d _ _
@[simp] theorem Dev.putF_mem (a hi lo v : Nat) : (d.putF a hi lo v).mem = d.mem := Dev.put_mem d _ _
@[simp] theorem Dev.putF_mirror (a hi lo v : Nat) : (d.putF a hi lo v).mirror = d.mirror := Dev.put_mirror d _ _
@[simp] theorem Dev.putF_therm (a hi lo v : Nat) : (d.putF a hi lo v).therm = d.therm := Dev.put_therm d _ _
@[simp] theorem Dev.putF_thermAt (a hi lo v : Nat) : (d.putF a hi lo v).thermAt = d.thermAt := Dev.put_thermAt d _ _
@[simp] theorem Dev.putF_power (a hi lo v : Nat) : (d.putF a hi lo v).power = d.power := Dev.put_power d _ _
@[simp] theorem Dev.putF_bist (a hi lo v : Nat) : (d.putF a hi lo v).bist = d.bist := Dev.put_bist d _ _
@[simp] theorem Dev.putF_tap (a hi lo v : Nat) : (d.putF a hi lo v).tap = d.tap := Dev.put_tap d _ _
@[simp] theorem Dev.putF_scan (a hi lo v : Nat) : (d.putF a hi lo v).scan = d.scan := Dev.put_scan d _ _
@[simp] theorem Dev.putF_lc (a hi lo v : Nat) : (d.putF a hi lo v).lc = d.lc := Dev.put_lc d _ _
@[simp] theorem Dev.putF_ev (a hi lo v : Nat) : (d.putF a hi lo v).ev = d.ev := Dev.put_ev d _ _
@[simp] theorem Dev.putF_pend (a hi lo v : Nat) : (d.putF a hi lo v).pend = d.pend := Dev.put_pend d _ _
@[simp] theorem Dev.putF_ppend (a hi lo v : Nat) : (d.putF a hi lo v).ppend = d.ppend := Dev.put_ppend d _ _
@[simp] theorem Dev.putF_ueAt (a hi lo v : Nat) : (d.putF a hi lo v).ueAt = d.ueAt := Dev.put_ueAt d _ _
@[simp] theorem Dev.putF_faultAt (a hi lo v : Nat) : (d.putF a hi lo v).faultAt = d.faultAt := Dev.put_faultAt d _ _
@[simp] theorem Dev.putF_scrubPos (a hi lo v : Nat) : (d.putF a hi lo v).scrubPos = d.scrubPos := Dev.put_scrubPos d _ _
@[simp] theorem Dev.putF_scrubCe (a hi lo v : Nat) : (d.putF a hi lo v).scrubCe = d.scrubCe := Dev.put_scrubCe d _ _
@[simp] theorem Dev.putF_scrubRaised (a hi lo v : Nat) : (d.putF a hi lo v).scrubRaised = d.scrubRaised := Dev.put_scrubRaised d _ _
@[simp] theorem Dev.putF_backs (a hi lo v : Nat) : (d.putF a hi lo v).backs = d.backs := Dev.put_backs d _ _
@[simp] theorem Dev.putF_free (a hi lo v : Nat) : (d.putF a hi lo v).free = d.free := Dev.put_free d _ _
@[simp] theorem Dev.putF_runs (a hi lo v : Nat) : (d.putF a hi lo v).runs = d.runs := Dev.put_runs d _ _
@[simp] theorem Dev.putF_time (a hi lo v : Nat) : (d.putF a hi lo v).time = d.time := Dev.put_time d _ _
@[simp] theorem Dev.putF_sub (a hi lo v : Nat) : (d.putF a hi lo v).sub = d.sub := Dev.put_sub d _ _
@[simp] theorem Dev.putF_micros (a hi lo v : Nat) : (d.putF a hi lo v).micros = d.micros := Dev.put_micros d _ _
@[simp] theorem Dev.putF_mot (a hi lo v : Nat) (x : MotorIx) : (d.putF a hi lo v).mot x = d.mot x := Dev.put_mot d _ _ x
@[simp] theorem Dev.putF_grp (a hi lo v : Nat) (x : GroupIx) : (d.putF a hi lo v).grp x = d.grp x := Dev.put_grp d _ _ x
@[simp] theorem Dev.putF_brg (a hi lo v : Nat) (x : BridgeIx) : (d.putF a hi lo v).brg x = d.brg x := Dev.put_brg d _ _ x
@[simp] theorem Dev.putF_die (a hi lo v : Nat) (x : GroupIx) : (d.putF a hi lo v).die x = d.die x := Dev.put_die d _ _ x
@[simp] theorem Dev.putF_prm (a hi lo v : Nat) (x : GroupIx) : (d.putF a hi lo v).prm x = d.prm x := Dev.put_prm d _ _ x
@[simp] theorem Dev.putF_fb (a hi lo v : Nat) (x : ChanIx) : (d.putF a hi lo v).fb x = d.fb x := Dev.put_fb d _ _ x
@[simp] theorem Dev.putF_trc (a hi lo v : Nat) (x : TraceIx) : (d.putF a hi lo v).trc x = d.trc x := Dev.put_trc d _ _ x
@[simp] theorem Dev.putF_hp (a hi lo v : Nat) (x : HostIx) : (d.putF a hi lo v).hp x = d.hp x := Dev.put_hp d _ _ x
@[simp] theorem Dev.putF_sen (a hi lo v : Nat) (x : SensorIx) : (d.putF a hi lo v).sen x = d.sen x := Dev.put_sen d _ _ x
@[simp] theorem Dev.putF_iw (a hi lo v : Nat) (y : Nat) : (d.putF a hi lo v).iw y = d.iw y := Dev.put_iw d _ _ y
@[simp] theorem Dev.putF_ibit (a hi lo v : Nat) (y j : Nat) : (d.putF a hi lo v).ibit y j = d.ibit y j := Dev.put_ibit d _ _ y j
@[simp] theorem Dev.putF_ifld (a hi lo v : Nat) (y h l : Nat) : (d.putF a hi lo v).ifld y h l = d.ifld y h l := Dev.put_ifld d _ _ y h l
@[simp] theorem Dev.putF_iuw (a hi lo v : Nat) (y : Nat) : (d.putF a hi lo v).iuw y = d.iuw y := Dev.put_iuw d _ _ y
@[simp] theorem Dev.putF_isw (a hi lo v : Nat) (y : Nat) : (d.putF a hi lo v).isw y = d.isw y := Dev.put_isw d _ _ y

@[simp] theorem Dev.putB_part (a i : Nat) (b : Bool) : (d.putB a i b).part = d.part := Dev.putF_part d _ _ _ _
@[simp] theorem Dev.putB_rev (a i : Nat) (b : Bool) : (d.putB a i b).rev = d.rev := Dev.putF_rev d _ _ _ _
@[simp] theorem Dev.putB_fuses (a i : Nat) (b : Bool) : (d.putB a i b).fuses = d.fuses := Dev.putF_fuses d _ _ _ _
@[simp] theorem Dev.putB_devLog (a i : Nat) (b : Bool) : (d.putB a i b).devLog = d.devLog := Dev.putF_devLog d _ _ _ _
@[simp] theorem Dev.putB_store (a i : Nat) (b : Bool) : (d.putB a i b).store = d.store := Dev.putF_store d _ _ _ _
@[simp] theorem Dev.putB_marks (a i : Nat) (b : Bool) : (d.putB a i b).marks = d.marks := Dev.putF_marks d _ _ _ _
@[simp] theorem Dev.putB_tested (a i : Nat) (b : Bool) : (d.putB a i b).tested = d.tested := Dev.putF_tested d _ _ _ _
@[simp] theorem Dev.putB_logWrote (a i : Nat) (b : Bool) : (d.putB a i b).logWrote = d.logWrote := Dev.putF_logWrote d _ _ _ _
@[simp] theorem Dev.putB_resetN (a i : Nat) (b : Bool) : (d.putB a i b).resetN = d.resetN := Dev.putF_resetN d _ _ _ _
@[simp] theorem Dev.putB_locked (a i : Nat) (b : Bool) : (d.putB a i b).locked = d.locked := Dev.putF_locked d _ _ _ _
@[simp] theorem Dev.putB_everLock (a i : Nat) (b : Bool) : (d.putB a i b).everLock = d.everLock := Dev.putF_everLock d _ _ _ _
@[simp] theorem Dev.putB_heldOff (a i : Nat) (b : Bool) : (d.putB a i b).heldOff = d.heldOff := Dev.putF_heldOff d _ _ _ _
@[simp] theorem Dev.putB_cycles (a i : Nat) (b : Bool) : (d.putB a i b).cycles = d.cycles := Dev.putF_cycles d _ _ _ _
@[simp] theorem Dev.putB_inForce (a i : Nat) (b : Bool) : (d.putB a i b).inForce = d.inForce := Dev.putF_inForce d _ _ _ _
@[simp] theorem Dev.putB_latches (a i : Nat) (b : Bool) : (d.putB a i b).latches = d.latches := Dev.putF_latches d _ _ _ _
@[simp] theorem Dev.putB_fab (a i : Nat) (b : Bool) : (d.putB a i b).fab = d.fab := Dev.putF_fab d _ _ _ _
@[simp] theorem Dev.putB_cyc0 (a i : Nat) (b : Bool) : (d.putB a i b).cyc0 = d.cyc0 := Dev.putF_cyc0 d _ _ _ _
@[simp] theorem Dev.putB_fresh (a i : Nat) (b : Bool) : (d.putB a i b).fresh = d.fresh := Dev.putF_fresh d _ _ _ _
@[simp] theorem Dev.putB_freshEv (a i : Nat) (b : Bool) : (d.putB a i b).freshEv = d.freshEv := Dev.putF_freshEv d _ _ _ _
@[simp] theorem Dev.putB_evLate (a i : Nat) (b : Bool) : (d.putB a i b).evLate = d.evLate := Dev.putF_evLate d _ _ _ _
@[simp] theorem Dev.putB_closeLate (a i : Nat) (b : Bool) : (d.putB a i b).closeLate = d.closeLate := Dev.putF_closeLate d _ _ _ _
@[simp] theorem Dev.putB_motors (a i : Nat) (b : Bool) : (d.putB a i b).motors = d.motors := Dev.putF_motors d _ _ _ _
@[simp] theorem Dev.putB_groups (a i : Nat) (b : Bool) : (d.putB a i b).groups = d.groups := Dev.putF_groups d _ _ _ _
@[simp] theorem Dev.putB_bridges (a i : Nat) (b : Bool) : (d.putB a i b).bridges = d.bridges := Dev.putF_bridges d _ _ _ _
@[simp] theorem Dev.putB_dies (a i : Nat) (b : Bool) : (d.putB a i b).dies = d.dies := Dev.putF_dies d _ _ _ _
@[simp] theorem Dev.putB_reports (a i : Nat) (b : Bool) : (d.putB a i b).reports = d.reports := Dev.putF_reports d _ _ _ _
@[simp] theorem Dev.putB_seqAt (a i : Nat) (b : Bool) : (d.putB a i b).seqAt = d.seqAt := Dev.putF_seqAt d _ _ _ _
@[simp] theorem Dev.putB_busDue (a i : Nat) (b : Bool) : (d.putB a i b).busDue = d.busDue := Dev.putF_busDue d _ _ _ _
@[simp] theorem Dev.putB_glDue (a i : Nat) (b : Bool) : (d.putB a i b).glDue = d.glDue := Dev.putF_glDue d _ _ _ _
@[simp] theorem Dev.putB_fbDue (a i : Nat) (b : Bool) : (d.putB a i b).fbDue = d.fbDue := Dev.putF_fbDue d _ _ _ _
@[simp] theorem Dev.putB_prisms (a i : Nat) (b : Bool) : (d.putB a i b).prisms = d.prisms := Dev.putF_prisms d _ _ _ _
@[simp] theorem Dev.putB_fbs (a i : Nat) (b : Bool) : (d.putB a i b).fbs = d.fbs := Dev.putF_fbs d _ _ _ _
@[simp] theorem Dev.putB_dist (a i : Nat) (b : Bool) : (d.putB a i b).dist = d.dist := Dev.putF_dist d _ _ _ _
@[simp] theorem Dev.putB_traces (a i : Nat) (b : Bool) : (d.putB a i b).traces = d.traces := Dev.putF_traces d _ _ _ _
@[simp] theorem Dev.putB_tickAt (a i : Nat) (b : Bool) : (d.putB a i b).tickAt = d.tickAt := Dev.putF_tickAt d _ _ _ _
@[simp] theorem Dev.putB_ticks (a i : Nat) (b : Bool) : (d.putB a i b).ticks = d.ticks := Dev.putF_ticks d _ _ _ _
@[simp] theorem Dev.putB_emptied (a i : Nat) (b : Bool) : (d.putB a i b).emptied = d.emptied := Dev.putF_emptied d _ _ _ _
@[simp] theorem Dev.putB_secAt (a i : Nat) (b : Bool) : (d.putB a i b).secAt = d.secAt := Dev.putF_secAt d _ _ _ _
@[simp] theorem Dev.putB_recq (a i : Nat) (b : Bool) : (d.putB a i b).recq = d.recq := Dev.putF_recq d _ _ _ _
@[simp] theorem Dev.putB_mbxIn (a i : Nat) (b : Bool) : (d.putB a i b).mbxIn = d.mbxIn := Dev.putF_mbxIn d _ _ _ _
@[simp] theorem Dev.putB_mbxAt (a i : Nat) (b : Bool) : (d.putB a i b).mbxAt = d.mbxAt := Dev.putF_mbxAt d _ _ _ _
@[simp] theorem Dev.putB_cplAt (a i : Nat) (b : Bool) : (d.putB a i b).cplAt = d.cplAt := Dev.putF_cplAt d _ _ _ _
@[simp] theorem Dev.putB_cplQt (a i : Nat) (b : Bool) : (d.putB a i b).cplQt = d.cplQt := Dev.putF_cplQt d _ _ _ _
@[simp] theorem Dev.putB_cplEdge (a i : Nat) (b : Bool) : (d.putB a i b).cplEdge = d.cplEdge := Dev.putF_cplEdge d _ _ _ _
@[simp] theorem Dev.putB_cplFrom (a i : Nat) (b : Bool) : (d.putB a i b).cplFrom = d.cplFrom := Dev.putF_cplFrom d _ _ _ _
@[simp] theorem Dev.putB_cplDone (a i : Nat) (b : Bool) : (d.putB a i b).cplDone = d.cplDone := Dev.putF_cplDone d _ _ _ _
@[simp] theorem Dev.putB_loader (a i : Nat) (b : Bool) : (d.putB a i b).loader = d.loader := Dev.putF_loader d _ _ _ _
@[simp] theorem Dev.putB_ports (a i : Nat) (b : Bool) : (d.putB a i b).ports = d.ports := Dev.putF_ports d _ _ _ _
@[simp] theorem Dev.putB_mem (a i : Nat) (b : Bool) : (d.putB a i b).mem = d.mem := Dev.putF_mem d _ _ _ _
@[simp] theorem Dev.putB_mirror (a i : Nat) (b : Bool) : (d.putB a i b).mirror = d.mirror := Dev.putF_mirror d _ _ _ _
@[simp] theorem Dev.putB_therm (a i : Nat) (b : Bool) : (d.putB a i b).therm = d.therm := Dev.putF_therm d _ _ _ _
@[simp] theorem Dev.putB_thermAt (a i : Nat) (b : Bool) : (d.putB a i b).thermAt = d.thermAt := Dev.putF_thermAt d _ _ _ _
@[simp] theorem Dev.putB_power (a i : Nat) (b : Bool) : (d.putB a i b).power = d.power := Dev.putF_power d _ _ _ _
@[simp] theorem Dev.putB_bist (a i : Nat) (b : Bool) : (d.putB a i b).bist = d.bist := Dev.putF_bist d _ _ _ _
@[simp] theorem Dev.putB_tap (a i : Nat) (b : Bool) : (d.putB a i b).tap = d.tap := Dev.putF_tap d _ _ _ _
@[simp] theorem Dev.putB_scan (a i : Nat) (b : Bool) : (d.putB a i b).scan = d.scan := Dev.putF_scan d _ _ _ _
@[simp] theorem Dev.putB_lc (a i : Nat) (b : Bool) : (d.putB a i b).lc = d.lc := Dev.putF_lc d _ _ _ _
@[simp] theorem Dev.putB_ev (a i : Nat) (b : Bool) : (d.putB a i b).ev = d.ev := Dev.putF_ev d _ _ _ _
@[simp] theorem Dev.putB_pend (a i : Nat) (b : Bool) : (d.putB a i b).pend = d.pend := Dev.putF_pend d _ _ _ _
@[simp] theorem Dev.putB_ppend (a i : Nat) (b : Bool) : (d.putB a i b).ppend = d.ppend := Dev.putF_ppend d _ _ _ _
@[simp] theorem Dev.putB_ueAt (a i : Nat) (b : Bool) : (d.putB a i b).ueAt = d.ueAt := Dev.putF_ueAt d _ _ _ _
@[simp] theorem Dev.putB_faultAt (a i : Nat) (b : Bool) : (d.putB a i b).faultAt = d.faultAt := Dev.putF_faultAt d _ _ _ _
@[simp] theorem Dev.putB_scrubPos (a i : Nat) (b : Bool) : (d.putB a i b).scrubPos = d.scrubPos := Dev.putF_scrubPos d _ _ _ _
@[simp] theorem Dev.putB_scrubCe (a i : Nat) (b : Bool) : (d.putB a i b).scrubCe = d.scrubCe := Dev.putF_scrubCe d _ _ _ _
@[simp] theorem Dev.putB_scrubRaised (a i : Nat) (b : Bool) : (d.putB a i b).scrubRaised = d.scrubRaised := Dev.putF_scrubRaised d _ _ _ _
@[simp] theorem Dev.putB_backs (a i : Nat) (b : Bool) : (d.putB a i b).backs = d.backs := Dev.putF_backs d _ _ _ _
@[simp] theorem Dev.putB_free (a i : Nat) (b : Bool) : (d.putB a i b).free = d.free := Dev.putF_free d _ _ _ _
@[simp] theorem Dev.putB_runs (a i : Nat) (b : Bool) : (d.putB a i b).runs = d.runs := Dev.putF_runs d _ _ _ _
@[simp] theorem Dev.putB_time (a i : Nat) (b : Bool) : (d.putB a i b).time = d.time := Dev.putF_time d _ _ _ _
@[simp] theorem Dev.putB_sub (a i : Nat) (b : Bool) : (d.putB a i b).sub = d.sub := Dev.putF_sub d _ _ _ _
@[simp] theorem Dev.putB_micros (a i : Nat) (b : Bool) : (d.putB a i b).micros = d.micros := Dev.putF_micros d _ _ _ _
@[simp] theorem Dev.putB_mot (a i : Nat) (b : Bool) (x : MotorIx) : (d.putB a i b).mot x = d.mot x := Dev.putF_mot d _ _ _ _ x
@[simp] theorem Dev.putB_grp (a i : Nat) (b : Bool) (x : GroupIx) : (d.putB a i b).grp x = d.grp x := Dev.putF_grp d _ _ _ _ x
@[simp] theorem Dev.putB_brg (a i : Nat) (b : Bool) (x : BridgeIx) : (d.putB a i b).brg x = d.brg x := Dev.putF_brg d _ _ _ _ x
@[simp] theorem Dev.putB_die (a i : Nat) (b : Bool) (x : GroupIx) : (d.putB a i b).die x = d.die x := Dev.putF_die d _ _ _ _ x
@[simp] theorem Dev.putB_prm (a i : Nat) (b : Bool) (x : GroupIx) : (d.putB a i b).prm x = d.prm x := Dev.putF_prm d _ _ _ _ x
@[simp] theorem Dev.putB_fb (a i : Nat) (b : Bool) (x : ChanIx) : (d.putB a i b).fb x = d.fb x := Dev.putF_fb d _ _ _ _ x
@[simp] theorem Dev.putB_trc (a i : Nat) (b : Bool) (x : TraceIx) : (d.putB a i b).trc x = d.trc x := Dev.putF_trc d _ _ _ _ x
@[simp] theorem Dev.putB_hp (a i : Nat) (b : Bool) (x : HostIx) : (d.putB a i b).hp x = d.hp x := Dev.putF_hp d _ _ _ _ x
@[simp] theorem Dev.putB_sen (a i : Nat) (b : Bool) (x : SensorIx) : (d.putB a i b).sen x = d.sen x := Dev.putF_sen d _ _ _ _ x
@[simp] theorem Dev.putB_iw (a i : Nat) (b : Bool) (y : Nat) : (d.putB a i b).iw y = d.iw y := Dev.putF_iw d _ _ _ _ y
@[simp] theorem Dev.putB_ibit (a i : Nat) (b : Bool) (y j : Nat) : (d.putB a i b).ibit y j = d.ibit y j := Dev.putF_ibit d _ _ _ _ y j
@[simp] theorem Dev.putB_ifld (a i : Nat) (b : Bool) (y h l : Nat) : (d.putB a i b).ifld y h l = d.ifld y h l := Dev.putF_ifld d _ _ _ _ y h l
@[simp] theorem Dev.putB_iuw (a i : Nat) (b : Bool) (y : Nat) : (d.putB a i b).iuw y = d.iuw y := Dev.putF_iuw d _ _ _ _ y
@[simp] theorem Dev.putB_isw (a i : Nat) (b : Bool) (y : Nat) : (d.putB a i b).isw y = d.isw y := Dev.putF_isw d _ _ _ _ y

@[simp] theorem Dev.orW_part (a : Nat) (m : Word) : (d.orW a m).part = d.part := Dev.put_part d a (d.w a ||| m)
@[simp] theorem Dev.orW_rev (a : Nat) (m : Word) : (d.orW a m).rev = d.rev := Dev.put_rev d a (d.w a ||| m)
@[simp] theorem Dev.orW_fuses (a : Nat) (m : Word) : (d.orW a m).fuses = d.fuses := Dev.put_fuses d a (d.w a ||| m)
@[simp] theorem Dev.orW_devLog (a : Nat) (m : Word) : (d.orW a m).devLog = d.devLog := Dev.put_devLog d a (d.w a ||| m)
@[simp] theorem Dev.orW_store (a : Nat) (m : Word) : (d.orW a m).store = d.store := Dev.put_store d a (d.w a ||| m)
@[simp] theorem Dev.orW_marks (a : Nat) (m : Word) : (d.orW a m).marks = d.marks := Dev.put_marks d a (d.w a ||| m)
@[simp] theorem Dev.orW_tested (a : Nat) (m : Word) : (d.orW a m).tested = d.tested := Dev.put_tested d a (d.w a ||| m)
@[simp] theorem Dev.orW_logWrote (a : Nat) (m : Word) : (d.orW a m).logWrote = d.logWrote := Dev.put_logWrote d a (d.w a ||| m)
@[simp] theorem Dev.orW_resetN (a : Nat) (m : Word) : (d.orW a m).resetN = d.resetN := Dev.put_resetN d a (d.w a ||| m)
@[simp] theorem Dev.orW_locked (a : Nat) (m : Word) : (d.orW a m).locked = d.locked := Dev.put_locked d a (d.w a ||| m)
@[simp] theorem Dev.orW_everLock (a : Nat) (m : Word) : (d.orW a m).everLock = d.everLock := Dev.put_everLock d a (d.w a ||| m)
@[simp] theorem Dev.orW_heldOff (a : Nat) (m : Word) : (d.orW a m).heldOff = d.heldOff := Dev.put_heldOff d a (d.w a ||| m)
@[simp] theorem Dev.orW_cycles (a : Nat) (m : Word) : (d.orW a m).cycles = d.cycles := Dev.put_cycles d a (d.w a ||| m)
@[simp] theorem Dev.orW_inForce (a : Nat) (m : Word) : (d.orW a m).inForce = d.inForce := Dev.put_inForce d a (d.w a ||| m)
@[simp] theorem Dev.orW_latches (a : Nat) (m : Word) : (d.orW a m).latches = d.latches := Dev.put_latches d a (d.w a ||| m)
@[simp] theorem Dev.orW_fab (a : Nat) (m : Word) : (d.orW a m).fab = d.fab := Dev.put_fab d a (d.w a ||| m)
@[simp] theorem Dev.orW_cyc0 (a : Nat) (m : Word) : (d.orW a m).cyc0 = d.cyc0 := Dev.put_cyc0 d a (d.w a ||| m)
@[simp] theorem Dev.orW_freshEv (a : Nat) (m : Word) : (d.orW a m).freshEv = d.freshEv := Dev.put_freshEv d a (d.w a ||| m)
@[simp] theorem Dev.orW_evLate (a : Nat) (m : Word) : (d.orW a m).evLate = d.evLate := Dev.put_evLate d a (d.w a ||| m)
@[simp] theorem Dev.orW_closeLate (a : Nat) (m : Word) : (d.orW a m).closeLate = d.closeLate := Dev.put_closeLate d a (d.w a ||| m)
@[simp] theorem Dev.orW_motors (a : Nat) (m : Word) : (d.orW a m).motors = d.motors := Dev.put_motors d a (d.w a ||| m)
@[simp] theorem Dev.orW_groups (a : Nat) (m : Word) : (d.orW a m).groups = d.groups := Dev.put_groups d a (d.w a ||| m)
@[simp] theorem Dev.orW_bridges (a : Nat) (m : Word) : (d.orW a m).bridges = d.bridges := Dev.put_bridges d a (d.w a ||| m)
@[simp] theorem Dev.orW_dies (a : Nat) (m : Word) : (d.orW a m).dies = d.dies := Dev.put_dies d a (d.w a ||| m)
@[simp] theorem Dev.orW_reports (a : Nat) (m : Word) : (d.orW a m).reports = d.reports := Dev.put_reports d a (d.w a ||| m)
@[simp] theorem Dev.orW_seqAt (a : Nat) (m : Word) : (d.orW a m).seqAt = d.seqAt := Dev.put_seqAt d a (d.w a ||| m)
@[simp] theorem Dev.orW_busDue (a : Nat) (m : Word) : (d.orW a m).busDue = d.busDue := Dev.put_busDue d a (d.w a ||| m)
@[simp] theorem Dev.orW_glDue (a : Nat) (m : Word) : (d.orW a m).glDue = d.glDue := Dev.put_glDue d a (d.w a ||| m)
@[simp] theorem Dev.orW_fbDue (a : Nat) (m : Word) : (d.orW a m).fbDue = d.fbDue := Dev.put_fbDue d a (d.w a ||| m)
@[simp] theorem Dev.orW_prisms (a : Nat) (m : Word) : (d.orW a m).prisms = d.prisms := Dev.put_prisms d a (d.w a ||| m)
@[simp] theorem Dev.orW_fbs (a : Nat) (m : Word) : (d.orW a m).fbs = d.fbs := Dev.put_fbs d a (d.w a ||| m)
@[simp] theorem Dev.orW_dist (a : Nat) (m : Word) : (d.orW a m).dist = d.dist := Dev.put_dist d a (d.w a ||| m)
@[simp] theorem Dev.orW_traces (a : Nat) (m : Word) : (d.orW a m).traces = d.traces := Dev.put_traces d a (d.w a ||| m)
@[simp] theorem Dev.orW_tickAt (a : Nat) (m : Word) : (d.orW a m).tickAt = d.tickAt := Dev.put_tickAt d a (d.w a ||| m)
@[simp] theorem Dev.orW_ticks (a : Nat) (m : Word) : (d.orW a m).ticks = d.ticks := Dev.put_ticks d a (d.w a ||| m)
@[simp] theorem Dev.orW_emptied (a : Nat) (m : Word) : (d.orW a m).emptied = d.emptied := Dev.put_emptied d a (d.w a ||| m)
@[simp] theorem Dev.orW_secAt (a : Nat) (m : Word) : (d.orW a m).secAt = d.secAt := Dev.put_secAt d a (d.w a ||| m)
@[simp] theorem Dev.orW_recq (a : Nat) (m : Word) : (d.orW a m).recq = d.recq := Dev.put_recq d a (d.w a ||| m)
@[simp] theorem Dev.orW_mbxIn (a : Nat) (m : Word) : (d.orW a m).mbxIn = d.mbxIn := Dev.put_mbxIn d a (d.w a ||| m)
@[simp] theorem Dev.orW_mbxAt (a : Nat) (m : Word) : (d.orW a m).mbxAt = d.mbxAt := Dev.put_mbxAt d a (d.w a ||| m)
@[simp] theorem Dev.orW_cplAt (a : Nat) (m : Word) : (d.orW a m).cplAt = d.cplAt := Dev.put_cplAt d a (d.w a ||| m)
@[simp] theorem Dev.orW_cplQt (a : Nat) (m : Word) : (d.orW a m).cplQt = d.cplQt := Dev.put_cplQt d a (d.w a ||| m)
@[simp] theorem Dev.orW_cplEdge (a : Nat) (m : Word) : (d.orW a m).cplEdge = d.cplEdge := Dev.put_cplEdge d a (d.w a ||| m)
@[simp] theorem Dev.orW_cplFrom (a : Nat) (m : Word) : (d.orW a m).cplFrom = d.cplFrom := Dev.put_cplFrom d a (d.w a ||| m)
@[simp] theorem Dev.orW_cplDone (a : Nat) (m : Word) : (d.orW a m).cplDone = d.cplDone := Dev.put_cplDone d a (d.w a ||| m)
@[simp] theorem Dev.orW_loader (a : Nat) (m : Word) : (d.orW a m).loader = d.loader := Dev.put_loader d a (d.w a ||| m)
@[simp] theorem Dev.orW_ports (a : Nat) (m : Word) : (d.orW a m).ports = d.ports := Dev.put_ports d a (d.w a ||| m)
@[simp] theorem Dev.orW_mem (a : Nat) (m : Word) : (d.orW a m).mem = d.mem := Dev.put_mem d a (d.w a ||| m)
@[simp] theorem Dev.orW_mirror (a : Nat) (m : Word) : (d.orW a m).mirror = d.mirror := Dev.put_mirror d a (d.w a ||| m)
@[simp] theorem Dev.orW_therm (a : Nat) (m : Word) : (d.orW a m).therm = d.therm := Dev.put_therm d a (d.w a ||| m)
@[simp] theorem Dev.orW_thermAt (a : Nat) (m : Word) : (d.orW a m).thermAt = d.thermAt := Dev.put_thermAt d a (d.w a ||| m)
@[simp] theorem Dev.orW_power (a : Nat) (m : Word) : (d.orW a m).power = d.power := Dev.put_power d a (d.w a ||| m)
@[simp] theorem Dev.orW_bist (a : Nat) (m : Word) : (d.orW a m).bist = d.bist := Dev.put_bist d a (d.w a ||| m)
@[simp] theorem Dev.orW_tap (a : Nat) (m : Word) : (d.orW a m).tap = d.tap := Dev.put_tap d a (d.w a ||| m)
@[simp] theorem Dev.orW_scan (a : Nat) (m : Word) : (d.orW a m).scan = d.scan := Dev.put_scan d a (d.w a ||| m)
@[simp] theorem Dev.orW_lc (a : Nat) (m : Word) : (d.orW a m).lc = d.lc := Dev.put_lc d a (d.w a ||| m)
@[simp] theorem Dev.orW_ev (a : Nat) (m : Word) : (d.orW a m).ev = d.ev := Dev.put_ev d a (d.w a ||| m)
@[simp] theorem Dev.orW_pend (a : Nat) (m : Word) : (d.orW a m).pend = d.pend := Dev.put_pend d a (d.w a ||| m)
@[simp] theorem Dev.orW_ppend (a : Nat) (m : Word) : (d.orW a m).ppend = d.ppend := Dev.put_ppend d a (d.w a ||| m)
@[simp] theorem Dev.orW_ueAt (a : Nat) (m : Word) : (d.orW a m).ueAt = d.ueAt := Dev.put_ueAt d a (d.w a ||| m)
@[simp] theorem Dev.orW_faultAt (a : Nat) (m : Word) : (d.orW a m).faultAt = d.faultAt := Dev.put_faultAt d a (d.w a ||| m)
@[simp] theorem Dev.orW_scrubPos (a : Nat) (m : Word) : (d.orW a m).scrubPos = d.scrubPos := Dev.put_scrubPos d a (d.w a ||| m)
@[simp] theorem Dev.orW_scrubCe (a : Nat) (m : Word) : (d.orW a m).scrubCe = d.scrubCe := Dev.put_scrubCe d a (d.w a ||| m)
@[simp] theorem Dev.orW_scrubRaised (a : Nat) (m : Word) : (d.orW a m).scrubRaised = d.scrubRaised := Dev.put_scrubRaised d a (d.w a ||| m)
@[simp] theorem Dev.orW_backs (a : Nat) (m : Word) : (d.orW a m).backs = d.backs := Dev.put_backs d a (d.w a ||| m)
@[simp] theorem Dev.orW_free (a : Nat) (m : Word) : (d.orW a m).free = d.free := Dev.put_free d a (d.w a ||| m)
@[simp] theorem Dev.orW_runs (a : Nat) (m : Word) : (d.orW a m).runs = d.runs := Dev.put_runs d a (d.w a ||| m)
@[simp] theorem Dev.orW_time (a : Nat) (m : Word) : (d.orW a m).time = d.time := Dev.put_time d a (d.w a ||| m)
@[simp] theorem Dev.orW_sub (a : Nat) (m : Word) : (d.orW a m).sub = d.sub := Dev.put_sub d a (d.w a ||| m)
@[simp] theorem Dev.orW_micros (a : Nat) (m : Word) : (d.orW a m).micros = d.micros := Dev.put_micros d a (d.w a ||| m)
@[simp] theorem Dev.orW_mot (a : Nat) (m : Word) (x : MotorIx) : (d.orW a m).mot x = d.mot x := Dev.put_mot d a (d.w a ||| m) x
@[simp] theorem Dev.orW_grp (a : Nat) (m : Word) (x : GroupIx) : (d.orW a m).grp x = d.grp x := Dev.put_grp d a (d.w a ||| m) x
@[simp] theorem Dev.orW_brg (a : Nat) (m : Word) (x : BridgeIx) : (d.orW a m).brg x = d.brg x := Dev.put_brg d a (d.w a ||| m) x
@[simp] theorem Dev.orW_die (a : Nat) (m : Word) (x : GroupIx) : (d.orW a m).die x = d.die x := Dev.put_die d a (d.w a ||| m) x
@[simp] theorem Dev.orW_prm (a : Nat) (m : Word) (x : GroupIx) : (d.orW a m).prm x = d.prm x := Dev.put_prm d a (d.w a ||| m) x
@[simp] theorem Dev.orW_fb (a : Nat) (m : Word) (x : ChanIx) : (d.orW a m).fb x = d.fb x := Dev.put_fb d a (d.w a ||| m) x
@[simp] theorem Dev.orW_trc (a : Nat) (m : Word) (x : TraceIx) : (d.orW a m).trc x = d.trc x := Dev.put_trc d a (d.w a ||| m) x
@[simp] theorem Dev.orW_hp (a : Nat) (m : Word) (x : HostIx) : (d.orW a m).hp x = d.hp x := Dev.put_hp d a (d.w a ||| m) x
@[simp] theorem Dev.orW_sen (a : Nat) (m : Word) (x : SensorIx) : (d.orW a m).sen x = d.sen x := Dev.put_sen d a (d.w a ||| m) x
@[simp] theorem Dev.orW_iw (a : Nat) (m : Word) (y : Nat) : (d.orW a m).iw y = d.iw y := Dev.put_iw d a (d.w a ||| m) y
@[simp] theorem Dev.orW_ibit (a : Nat) (m : Word) (y j : Nat) : (d.orW a m).ibit y j = d.ibit y j := Dev.put_ibit d a (d.w a ||| m) y j
@[simp] theorem Dev.orW_ifld (a : Nat) (m : Word) (y h l : Nat) : (d.orW a m).ifld y h l = d.ifld y h l := Dev.put_ifld d a (d.w a ||| m) y h l
@[simp] theorem Dev.orW_iuw (a : Nat) (m : Word) (y : Nat) : (d.orW a m).iuw y = d.iuw y := Dev.put_iuw d a (d.w a ||| m) y
@[simp] theorem Dev.orW_isw (a : Nat) (m : Word) (y : Nat) : (d.orW a m).isw y = d.isw y := Dev.put_isw d a (d.w a ||| m) y

@[simp] theorem Dev.setB_part (a i : Nat) : (d.setB a i).part = d.part := Dev.orW_part d _ _
@[simp] theorem Dev.setB_rev (a i : Nat) : (d.setB a i).rev = d.rev := Dev.orW_rev d _ _
@[simp] theorem Dev.setB_fuses (a i : Nat) : (d.setB a i).fuses = d.fuses := Dev.orW_fuses d _ _
@[simp] theorem Dev.setB_devLog (a i : Nat) : (d.setB a i).devLog = d.devLog := Dev.orW_devLog d _ _
@[simp] theorem Dev.setB_store (a i : Nat) : (d.setB a i).store = d.store := Dev.orW_store d _ _
@[simp] theorem Dev.setB_marks (a i : Nat) : (d.setB a i).marks = d.marks := Dev.orW_marks d _ _
@[simp] theorem Dev.setB_tested (a i : Nat) : (d.setB a i).tested = d.tested := Dev.orW_tested d _ _
@[simp] theorem Dev.setB_logWrote (a i : Nat) : (d.setB a i).logWrote = d.logWrote := Dev.orW_logWrote d _ _
@[simp] theorem Dev.setB_resetN (a i : Nat) : (d.setB a i).resetN = d.resetN := Dev.orW_resetN d _ _
@[simp] theorem Dev.setB_locked (a i : Nat) : (d.setB a i).locked = d.locked := Dev.orW_locked d _ _
@[simp] theorem Dev.setB_everLock (a i : Nat) : (d.setB a i).everLock = d.everLock := Dev.orW_everLock d _ _
@[simp] theorem Dev.setB_heldOff (a i : Nat) : (d.setB a i).heldOff = d.heldOff := Dev.orW_heldOff d _ _
@[simp] theorem Dev.setB_cycles (a i : Nat) : (d.setB a i).cycles = d.cycles := Dev.orW_cycles d _ _
@[simp] theorem Dev.setB_inForce (a i : Nat) : (d.setB a i).inForce = d.inForce := Dev.orW_inForce d _ _
@[simp] theorem Dev.setB_latches (a i : Nat) : (d.setB a i).latches = d.latches := Dev.orW_latches d _ _
@[simp] theorem Dev.setB_fab (a i : Nat) : (d.setB a i).fab = d.fab := Dev.orW_fab d _ _
@[simp] theorem Dev.setB_cyc0 (a i : Nat) : (d.setB a i).cyc0 = d.cyc0 := Dev.orW_cyc0 d _ _
@[simp] theorem Dev.setB_freshEv (a i : Nat) : (d.setB a i).freshEv = d.freshEv := Dev.orW_freshEv d _ _
@[simp] theorem Dev.setB_evLate (a i : Nat) : (d.setB a i).evLate = d.evLate := Dev.orW_evLate d _ _
@[simp] theorem Dev.setB_closeLate (a i : Nat) : (d.setB a i).closeLate = d.closeLate := Dev.orW_closeLate d _ _
@[simp] theorem Dev.setB_motors (a i : Nat) : (d.setB a i).motors = d.motors := Dev.orW_motors d _ _
@[simp] theorem Dev.setB_groups (a i : Nat) : (d.setB a i).groups = d.groups := Dev.orW_groups d _ _
@[simp] theorem Dev.setB_bridges (a i : Nat) : (d.setB a i).bridges = d.bridges := Dev.orW_bridges d _ _
@[simp] theorem Dev.setB_dies (a i : Nat) : (d.setB a i).dies = d.dies := Dev.orW_dies d _ _
@[simp] theorem Dev.setB_reports (a i : Nat) : (d.setB a i).reports = d.reports := Dev.orW_reports d _ _
@[simp] theorem Dev.setB_seqAt (a i : Nat) : (d.setB a i).seqAt = d.seqAt := Dev.orW_seqAt d _ _
@[simp] theorem Dev.setB_busDue (a i : Nat) : (d.setB a i).busDue = d.busDue := Dev.orW_busDue d _ _
@[simp] theorem Dev.setB_glDue (a i : Nat) : (d.setB a i).glDue = d.glDue := Dev.orW_glDue d _ _
@[simp] theorem Dev.setB_fbDue (a i : Nat) : (d.setB a i).fbDue = d.fbDue := Dev.orW_fbDue d _ _
@[simp] theorem Dev.setB_prisms (a i : Nat) : (d.setB a i).prisms = d.prisms := Dev.orW_prisms d _ _
@[simp] theorem Dev.setB_fbs (a i : Nat) : (d.setB a i).fbs = d.fbs := Dev.orW_fbs d _ _
@[simp] theorem Dev.setB_dist (a i : Nat) : (d.setB a i).dist = d.dist := Dev.orW_dist d _ _
@[simp] theorem Dev.setB_traces (a i : Nat) : (d.setB a i).traces = d.traces := Dev.orW_traces d _ _
@[simp] theorem Dev.setB_tickAt (a i : Nat) : (d.setB a i).tickAt = d.tickAt := Dev.orW_tickAt d _ _
@[simp] theorem Dev.setB_ticks (a i : Nat) : (d.setB a i).ticks = d.ticks := Dev.orW_ticks d _ _
@[simp] theorem Dev.setB_emptied (a i : Nat) : (d.setB a i).emptied = d.emptied := Dev.orW_emptied d _ _
@[simp] theorem Dev.setB_secAt (a i : Nat) : (d.setB a i).secAt = d.secAt := Dev.orW_secAt d _ _
@[simp] theorem Dev.setB_recq (a i : Nat) : (d.setB a i).recq = d.recq := Dev.orW_recq d _ _
@[simp] theorem Dev.setB_mbxIn (a i : Nat) : (d.setB a i).mbxIn = d.mbxIn := Dev.orW_mbxIn d _ _
@[simp] theorem Dev.setB_mbxAt (a i : Nat) : (d.setB a i).mbxAt = d.mbxAt := Dev.orW_mbxAt d _ _
@[simp] theorem Dev.setB_cplAt (a i : Nat) : (d.setB a i).cplAt = d.cplAt := Dev.orW_cplAt d _ _
@[simp] theorem Dev.setB_cplQt (a i : Nat) : (d.setB a i).cplQt = d.cplQt := Dev.orW_cplQt d _ _
@[simp] theorem Dev.setB_cplEdge (a i : Nat) : (d.setB a i).cplEdge = d.cplEdge := Dev.orW_cplEdge d _ _
@[simp] theorem Dev.setB_cplFrom (a i : Nat) : (d.setB a i).cplFrom = d.cplFrom := Dev.orW_cplFrom d _ _
@[simp] theorem Dev.setB_cplDone (a i : Nat) : (d.setB a i).cplDone = d.cplDone := Dev.orW_cplDone d _ _
@[simp] theorem Dev.setB_loader (a i : Nat) : (d.setB a i).loader = d.loader := Dev.orW_loader d _ _
@[simp] theorem Dev.setB_ports (a i : Nat) : (d.setB a i).ports = d.ports := Dev.orW_ports d _ _
@[simp] theorem Dev.setB_mem (a i : Nat) : (d.setB a i).mem = d.mem := Dev.orW_mem d _ _
@[simp] theorem Dev.setB_mirror (a i : Nat) : (d.setB a i).mirror = d.mirror := Dev.orW_mirror d _ _
@[simp] theorem Dev.setB_therm (a i : Nat) : (d.setB a i).therm = d.therm := Dev.orW_therm d _ _
@[simp] theorem Dev.setB_thermAt (a i : Nat) : (d.setB a i).thermAt = d.thermAt := Dev.orW_thermAt d _ _
@[simp] theorem Dev.setB_power (a i : Nat) : (d.setB a i).power = d.power := Dev.orW_power d _ _
@[simp] theorem Dev.setB_bist (a i : Nat) : (d.setB a i).bist = d.bist := Dev.orW_bist d _ _
@[simp] theorem Dev.setB_tap (a i : Nat) : (d.setB a i).tap = d.tap := Dev.orW_tap d _ _
@[simp] theorem Dev.setB_scan (a i : Nat) : (d.setB a i).scan = d.scan := Dev.orW_scan d _ _
@[simp] theorem Dev.setB_lc (a i : Nat) : (d.setB a i).lc = d.lc := Dev.orW_lc d _ _
@[simp] theorem Dev.setB_ev (a i : Nat) : (d.setB a i).ev = d.ev := Dev.orW_ev d _ _
@[simp] theorem Dev.setB_pend (a i : Nat) : (d.setB a i).pend = d.pend := Dev.orW_pend d _ _
@[simp] theorem Dev.setB_ppend (a i : Nat) : (d.setB a i).ppend = d.ppend := Dev.orW_ppend d _ _
@[simp] theorem Dev.setB_ueAt (a i : Nat) : (d.setB a i).ueAt = d.ueAt := Dev.orW_ueAt d _ _
@[simp] theorem Dev.setB_faultAt (a i : Nat) : (d.setB a i).faultAt = d.faultAt := Dev.orW_faultAt d _ _
@[simp] theorem Dev.setB_scrubPos (a i : Nat) : (d.setB a i).scrubPos = d.scrubPos := Dev.orW_scrubPos d _ _
@[simp] theorem Dev.setB_scrubCe (a i : Nat) : (d.setB a i).scrubCe = d.scrubCe := Dev.orW_scrubCe d _ _
@[simp] theorem Dev.setB_scrubRaised (a i : Nat) : (d.setB a i).scrubRaised = d.scrubRaised := Dev.orW_scrubRaised d _ _
@[simp] theorem Dev.setB_backs (a i : Nat) : (d.setB a i).backs = d.backs := Dev.orW_backs d _ _
@[simp] theorem Dev.setB_free (a i : Nat) : (d.setB a i).free = d.free := Dev.orW_free d _ _
@[simp] theorem Dev.setB_runs (a i : Nat) : (d.setB a i).runs = d.runs := Dev.orW_runs d _ _
@[simp] theorem Dev.setB_time (a i : Nat) : (d.setB a i).time = d.time := Dev.orW_time d _ _
@[simp] theorem Dev.setB_sub (a i : Nat) : (d.setB a i).sub = d.sub := Dev.orW_sub d _ _
@[simp] theorem Dev.setB_micros (a i : Nat) : (d.setB a i).micros = d.micros := Dev.orW_micros d _ _
@[simp] theorem Dev.setB_mot (a i : Nat) (x : MotorIx) : (d.setB a i).mot x = d.mot x := Dev.orW_mot d _ _ x
@[simp] theorem Dev.setB_grp (a i : Nat) (x : GroupIx) : (d.setB a i).grp x = d.grp x := Dev.orW_grp d _ _ x
@[simp] theorem Dev.setB_brg (a i : Nat) (x : BridgeIx) : (d.setB a i).brg x = d.brg x := Dev.orW_brg d _ _ x
@[simp] theorem Dev.setB_die (a i : Nat) (x : GroupIx) : (d.setB a i).die x = d.die x := Dev.orW_die d _ _ x
@[simp] theorem Dev.setB_prm (a i : Nat) (x : GroupIx) : (d.setB a i).prm x = d.prm x := Dev.orW_prm d _ _ x
@[simp] theorem Dev.setB_fb (a i : Nat) (x : ChanIx) : (d.setB a i).fb x = d.fb x := Dev.orW_fb d _ _ x
@[simp] theorem Dev.setB_trc (a i : Nat) (x : TraceIx) : (d.setB a i).trc x = d.trc x := Dev.orW_trc d _ _ x
@[simp] theorem Dev.setB_hp (a i : Nat) (x : HostIx) : (d.setB a i).hp x = d.hp x := Dev.orW_hp d _ _ x
@[simp] theorem Dev.setB_sen (a i : Nat) (x : SensorIx) : (d.setB a i).sen x = d.sen x := Dev.orW_sen d _ _ x
@[simp] theorem Dev.setB_iw (a i : Nat) (y : Nat) : (d.setB a i).iw y = d.iw y := Dev.orW_iw d _ _ y
@[simp] theorem Dev.setB_ibit (a i : Nat) (y j : Nat) : (d.setB a i).ibit y j = d.ibit y j := Dev.orW_ibit d _ _ y j
@[simp] theorem Dev.setB_ifld (a i : Nat) (y h l : Nat) : (d.setB a i).ifld y h l = d.ifld y h l := Dev.orW_ifld d _ _ y h l
@[simp] theorem Dev.setB_iuw (a i : Nat) (y : Nat) : (d.setB a i).iuw y = d.iuw y := Dev.orW_iuw d _ _ y
@[simp] theorem Dev.setB_isw (a i : Nat) (y : Nat) : (d.setB a i).isw y = d.isw y := Dev.orW_isw d _ _ y

@[simp] theorem Dev.clrW_part (a : Nat) (m : Word) : (d.clrW a m).part = d.part := Dev.put_part d _ _
@[simp] theorem Dev.clrW_rev (a : Nat) (m : Word) : (d.clrW a m).rev = d.rev := Dev.put_rev d _ _
@[simp] theorem Dev.clrW_fuses (a : Nat) (m : Word) : (d.clrW a m).fuses = d.fuses := Dev.put_fuses d _ _
@[simp] theorem Dev.clrW_devLog (a : Nat) (m : Word) : (d.clrW a m).devLog = d.devLog := Dev.put_devLog d _ _
@[simp] theorem Dev.clrW_store (a : Nat) (m : Word) : (d.clrW a m).store = d.store := Dev.put_store d _ _
@[simp] theorem Dev.clrW_marks (a : Nat) (m : Word) : (d.clrW a m).marks = d.marks := Dev.put_marks d _ _
@[simp] theorem Dev.clrW_tested (a : Nat) (m : Word) : (d.clrW a m).tested = d.tested := Dev.put_tested d _ _
@[simp] theorem Dev.clrW_logWrote (a : Nat) (m : Word) : (d.clrW a m).logWrote = d.logWrote := Dev.put_logWrote d _ _
@[simp] theorem Dev.clrW_resetN (a : Nat) (m : Word) : (d.clrW a m).resetN = d.resetN := Dev.put_resetN d _ _
@[simp] theorem Dev.clrW_locked (a : Nat) (m : Word) : (d.clrW a m).locked = d.locked := Dev.put_locked d _ _
@[simp] theorem Dev.clrW_everLock (a : Nat) (m : Word) : (d.clrW a m).everLock = d.everLock := Dev.put_everLock d _ _
@[simp] theorem Dev.clrW_heldOff (a : Nat) (m : Word) : (d.clrW a m).heldOff = d.heldOff := Dev.put_heldOff d _ _
@[simp] theorem Dev.clrW_cycles (a : Nat) (m : Word) : (d.clrW a m).cycles = d.cycles := Dev.put_cycles d _ _
@[simp] theorem Dev.clrW_inForce (a : Nat) (m : Word) : (d.clrW a m).inForce = d.inForce := Dev.put_inForce d _ _
@[simp] theorem Dev.clrW_latches (a : Nat) (m : Word) : (d.clrW a m).latches = d.latches := Dev.put_latches d _ _
@[simp] theorem Dev.clrW_fab (a : Nat) (m : Word) : (d.clrW a m).fab = d.fab := Dev.put_fab d _ _
@[simp] theorem Dev.clrW_cyc0 (a : Nat) (m : Word) : (d.clrW a m).cyc0 = d.cyc0 := Dev.put_cyc0 d _ _
@[simp] theorem Dev.clrW_fresh (a : Nat) (m : Word) : (d.clrW a m).fresh = d.fresh := Dev.put_fresh d _ _
@[simp] theorem Dev.clrW_freshEv (a : Nat) (m : Word) : (d.clrW a m).freshEv = d.freshEv := Dev.put_freshEv d _ _
@[simp] theorem Dev.clrW_evLate (a : Nat) (m : Word) : (d.clrW a m).evLate = d.evLate := Dev.put_evLate d _ _
@[simp] theorem Dev.clrW_closeLate (a : Nat) (m : Word) : (d.clrW a m).closeLate = d.closeLate := Dev.put_closeLate d _ _
@[simp] theorem Dev.clrW_motors (a : Nat) (m : Word) : (d.clrW a m).motors = d.motors := Dev.put_motors d _ _
@[simp] theorem Dev.clrW_groups (a : Nat) (m : Word) : (d.clrW a m).groups = d.groups := Dev.put_groups d _ _
@[simp] theorem Dev.clrW_bridges (a : Nat) (m : Word) : (d.clrW a m).bridges = d.bridges := Dev.put_bridges d _ _
@[simp] theorem Dev.clrW_dies (a : Nat) (m : Word) : (d.clrW a m).dies = d.dies := Dev.put_dies d _ _
@[simp] theorem Dev.clrW_reports (a : Nat) (m : Word) : (d.clrW a m).reports = d.reports := Dev.put_reports d _ _
@[simp] theorem Dev.clrW_seqAt (a : Nat) (m : Word) : (d.clrW a m).seqAt = d.seqAt := Dev.put_seqAt d _ _
@[simp] theorem Dev.clrW_busDue (a : Nat) (m : Word) : (d.clrW a m).busDue = d.busDue := Dev.put_busDue d _ _
@[simp] theorem Dev.clrW_glDue (a : Nat) (m : Word) : (d.clrW a m).glDue = d.glDue := Dev.put_glDue d _ _
@[simp] theorem Dev.clrW_fbDue (a : Nat) (m : Word) : (d.clrW a m).fbDue = d.fbDue := Dev.put_fbDue d _ _
@[simp] theorem Dev.clrW_prisms (a : Nat) (m : Word) : (d.clrW a m).prisms = d.prisms := Dev.put_prisms d _ _
@[simp] theorem Dev.clrW_fbs (a : Nat) (m : Word) : (d.clrW a m).fbs = d.fbs := Dev.put_fbs d _ _
@[simp] theorem Dev.clrW_dist (a : Nat) (m : Word) : (d.clrW a m).dist = d.dist := Dev.put_dist d _ _
@[simp] theorem Dev.clrW_traces (a : Nat) (m : Word) : (d.clrW a m).traces = d.traces := Dev.put_traces d _ _
@[simp] theorem Dev.clrW_tickAt (a : Nat) (m : Word) : (d.clrW a m).tickAt = d.tickAt := Dev.put_tickAt d _ _
@[simp] theorem Dev.clrW_ticks (a : Nat) (m : Word) : (d.clrW a m).ticks = d.ticks := Dev.put_ticks d _ _
@[simp] theorem Dev.clrW_emptied (a : Nat) (m : Word) : (d.clrW a m).emptied = d.emptied := Dev.put_emptied d _ _
@[simp] theorem Dev.clrW_secAt (a : Nat) (m : Word) : (d.clrW a m).secAt = d.secAt := Dev.put_secAt d _ _
@[simp] theorem Dev.clrW_recq (a : Nat) (m : Word) : (d.clrW a m).recq = d.recq := Dev.put_recq d _ _
@[simp] theorem Dev.clrW_mbxIn (a : Nat) (m : Word) : (d.clrW a m).mbxIn = d.mbxIn := Dev.put_mbxIn d _ _
@[simp] theorem Dev.clrW_mbxAt (a : Nat) (m : Word) : (d.clrW a m).mbxAt = d.mbxAt := Dev.put_mbxAt d _ _
@[simp] theorem Dev.clrW_cplAt (a : Nat) (m : Word) : (d.clrW a m).cplAt = d.cplAt := Dev.put_cplAt d _ _
@[simp] theorem Dev.clrW_cplQt (a : Nat) (m : Word) : (d.clrW a m).cplQt = d.cplQt := Dev.put_cplQt d _ _
@[simp] theorem Dev.clrW_cplEdge (a : Nat) (m : Word) : (d.clrW a m).cplEdge = d.cplEdge := Dev.put_cplEdge d _ _
@[simp] theorem Dev.clrW_cplFrom (a : Nat) (m : Word) : (d.clrW a m).cplFrom = d.cplFrom := Dev.put_cplFrom d _ _
@[simp] theorem Dev.clrW_cplDone (a : Nat) (m : Word) : (d.clrW a m).cplDone = d.cplDone := Dev.put_cplDone d _ _
@[simp] theorem Dev.clrW_loader (a : Nat) (m : Word) : (d.clrW a m).loader = d.loader := Dev.put_loader d _ _
@[simp] theorem Dev.clrW_ports (a : Nat) (m : Word) : (d.clrW a m).ports = d.ports := Dev.put_ports d _ _
@[simp] theorem Dev.clrW_mem (a : Nat) (m : Word) : (d.clrW a m).mem = d.mem := Dev.put_mem d _ _
@[simp] theorem Dev.clrW_mirror (a : Nat) (m : Word) : (d.clrW a m).mirror = d.mirror := Dev.put_mirror d _ _
@[simp] theorem Dev.clrW_therm (a : Nat) (m : Word) : (d.clrW a m).therm = d.therm := Dev.put_therm d _ _
@[simp] theorem Dev.clrW_thermAt (a : Nat) (m : Word) : (d.clrW a m).thermAt = d.thermAt := Dev.put_thermAt d _ _
@[simp] theorem Dev.clrW_power (a : Nat) (m : Word) : (d.clrW a m).power = d.power := Dev.put_power d _ _
@[simp] theorem Dev.clrW_bist (a : Nat) (m : Word) : (d.clrW a m).bist = d.bist := Dev.put_bist d _ _
@[simp] theorem Dev.clrW_tap (a : Nat) (m : Word) : (d.clrW a m).tap = d.tap := Dev.put_tap d _ _
@[simp] theorem Dev.clrW_scan (a : Nat) (m : Word) : (d.clrW a m).scan = d.scan := Dev.put_scan d _ _
@[simp] theorem Dev.clrW_lc (a : Nat) (m : Word) : (d.clrW a m).lc = d.lc := Dev.put_lc d _ _
@[simp] theorem Dev.clrW_ev (a : Nat) (m : Word) : (d.clrW a m).ev = d.ev := Dev.put_ev d _ _
@[simp] theorem Dev.clrW_pend (a : Nat) (m : Word) : (d.clrW a m).pend = d.pend := Dev.put_pend d _ _
@[simp] theorem Dev.clrW_ppend (a : Nat) (m : Word) : (d.clrW a m).ppend = d.ppend := Dev.put_ppend d _ _
@[simp] theorem Dev.clrW_ueAt (a : Nat) (m : Word) : (d.clrW a m).ueAt = d.ueAt := Dev.put_ueAt d _ _
@[simp] theorem Dev.clrW_faultAt (a : Nat) (m : Word) : (d.clrW a m).faultAt = d.faultAt := Dev.put_faultAt d _ _
@[simp] theorem Dev.clrW_scrubPos (a : Nat) (m : Word) : (d.clrW a m).scrubPos = d.scrubPos := Dev.put_scrubPos d _ _
@[simp] theorem Dev.clrW_scrubCe (a : Nat) (m : Word) : (d.clrW a m).scrubCe = d.scrubCe := Dev.put_scrubCe d _ _
@[simp] theorem Dev.clrW_scrubRaised (a : Nat) (m : Word) : (d.clrW a m).scrubRaised = d.scrubRaised := Dev.put_scrubRaised d _ _
@[simp] theorem Dev.clrW_backs (a : Nat) (m : Word) : (d.clrW a m).backs = d.backs := Dev.put_backs d _ _
@[simp] theorem Dev.clrW_free (a : Nat) (m : Word) : (d.clrW a m).free = d.free := Dev.put_free d _ _
@[simp] theorem Dev.clrW_runs (a : Nat) (m : Word) : (d.clrW a m).runs = d.runs := Dev.put_runs d _ _
@[simp] theorem Dev.clrW_time (a : Nat) (m : Word) : (d.clrW a m).time = d.time := Dev.put_time d _ _
@[simp] theorem Dev.clrW_sub (a : Nat) (m : Word) : (d.clrW a m).sub = d.sub := Dev.put_sub d _ _
@[simp] theorem Dev.clrW_micros (a : Nat) (m : Word) : (d.clrW a m).micros = d.micros := Dev.put_micros d _ _
@[simp] theorem Dev.clrW_mot (a : Nat) (m : Word) (x : MotorIx) : (d.clrW a m).mot x = d.mot x := Dev.put_mot d _ _ x
@[simp] theorem Dev.clrW_grp (a : Nat) (m : Word) (x : GroupIx) : (d.clrW a m).grp x = d.grp x := Dev.put_grp d _ _ x
@[simp] theorem Dev.clrW_brg (a : Nat) (m : Word) (x : BridgeIx) : (d.clrW a m).brg x = d.brg x := Dev.put_brg d _ _ x
@[simp] theorem Dev.clrW_die (a : Nat) (m : Word) (x : GroupIx) : (d.clrW a m).die x = d.die x := Dev.put_die d _ _ x
@[simp] theorem Dev.clrW_prm (a : Nat) (m : Word) (x : GroupIx) : (d.clrW a m).prm x = d.prm x := Dev.put_prm d _ _ x
@[simp] theorem Dev.clrW_fb (a : Nat) (m : Word) (x : ChanIx) : (d.clrW a m).fb x = d.fb x := Dev.put_fb d _ _ x
@[simp] theorem Dev.clrW_trc (a : Nat) (m : Word) (x : TraceIx) : (d.clrW a m).trc x = d.trc x := Dev.put_trc d _ _ x
@[simp] theorem Dev.clrW_hp (a : Nat) (m : Word) (x : HostIx) : (d.clrW a m).hp x = d.hp x := Dev.put_hp d _ _ x
@[simp] theorem Dev.clrW_sen (a : Nat) (m : Word) (x : SensorIx) : (d.clrW a m).sen x = d.sen x := Dev.put_sen d _ _ x
@[simp] theorem Dev.clrW_iw (a : Nat) (m : Word) (y : Nat) : (d.clrW a m).iw y = d.iw y := Dev.put_iw d _ _ y
@[simp] theorem Dev.clrW_ibit (a : Nat) (m : Word) (y j : Nat) : (d.clrW a m).ibit y j = d.ibit y j := Dev.put_ibit d _ _ y j
@[simp] theorem Dev.clrW_ifld (a : Nat) (m : Word) (y h l : Nat) : (d.clrW a m).ifld y h l = d.ifld y h l := Dev.put_ifld d _ _ y h l
@[simp] theorem Dev.clrW_iuw (a : Nat) (m : Word) (y : Nat) : (d.clrW a m).iuw y = d.iuw y := Dev.put_iuw d _ _ y
@[simp] theorem Dev.clrW_isw (a : Nat) (m : Word) (y : Nat) : (d.clrW a m).isw y = d.isw y := Dev.put_isw d _ _ y

@[simp] theorem Dev.addSat_part (a hi lo n : Nat) : (d.addSat a hi lo n).part = d.part := Dev.putF_part d _ _ _ _
@[simp] theorem Dev.addSat_rev (a hi lo n : Nat) : (d.addSat a hi lo n).rev = d.rev := Dev.putF_rev d _ _ _ _
@[simp] theorem Dev.addSat_fuses (a hi lo n : Nat) : (d.addSat a hi lo n).fuses = d.fuses := Dev.putF_fuses d _ _ _ _
@[simp] theorem Dev.addSat_devLog (a hi lo n : Nat) : (d.addSat a hi lo n).devLog = d.devLog := Dev.putF_devLog d _ _ _ _
@[simp] theorem Dev.addSat_store (a hi lo n : Nat) : (d.addSat a hi lo n).store = d.store := Dev.putF_store d _ _ _ _
@[simp] theorem Dev.addSat_marks (a hi lo n : Nat) : (d.addSat a hi lo n).marks = d.marks := Dev.putF_marks d _ _ _ _
@[simp] theorem Dev.addSat_tested (a hi lo n : Nat) : (d.addSat a hi lo n).tested = d.tested := Dev.putF_tested d _ _ _ _
@[simp] theorem Dev.addSat_logWrote (a hi lo n : Nat) : (d.addSat a hi lo n).logWrote = d.logWrote := Dev.putF_logWrote d _ _ _ _
@[simp] theorem Dev.addSat_resetN (a hi lo n : Nat) : (d.addSat a hi lo n).resetN = d.resetN := Dev.putF_resetN d _ _ _ _
@[simp] theorem Dev.addSat_locked (a hi lo n : Nat) : (d.addSat a hi lo n).locked = d.locked := Dev.putF_locked d _ _ _ _
@[simp] theorem Dev.addSat_everLock (a hi lo n : Nat) : (d.addSat a hi lo n).everLock = d.everLock := Dev.putF_everLock d _ _ _ _
@[simp] theorem Dev.addSat_heldOff (a hi lo n : Nat) : (d.addSat a hi lo n).heldOff = d.heldOff := Dev.putF_heldOff d _ _ _ _
@[simp] theorem Dev.addSat_cycles (a hi lo n : Nat) : (d.addSat a hi lo n).cycles = d.cycles := Dev.putF_cycles d _ _ _ _
@[simp] theorem Dev.addSat_inForce (a hi lo n : Nat) : (d.addSat a hi lo n).inForce = d.inForce := Dev.putF_inForce d _ _ _ _
@[simp] theorem Dev.addSat_latches (a hi lo n : Nat) : (d.addSat a hi lo n).latches = d.latches := Dev.putF_latches d _ _ _ _
@[simp] theorem Dev.addSat_fab (a hi lo n : Nat) : (d.addSat a hi lo n).fab = d.fab := Dev.putF_fab d _ _ _ _
@[simp] theorem Dev.addSat_cyc0 (a hi lo n : Nat) : (d.addSat a hi lo n).cyc0 = d.cyc0 := Dev.putF_cyc0 d _ _ _ _
@[simp] theorem Dev.addSat_fresh (a hi lo n : Nat) : (d.addSat a hi lo n).fresh = d.fresh := Dev.putF_fresh d _ _ _ _
@[simp] theorem Dev.addSat_freshEv (a hi lo n : Nat) : (d.addSat a hi lo n).freshEv = d.freshEv := Dev.putF_freshEv d _ _ _ _
@[simp] theorem Dev.addSat_evLate (a hi lo n : Nat) : (d.addSat a hi lo n).evLate = d.evLate := Dev.putF_evLate d _ _ _ _
@[simp] theorem Dev.addSat_closeLate (a hi lo n : Nat) : (d.addSat a hi lo n).closeLate = d.closeLate := Dev.putF_closeLate d _ _ _ _
@[simp] theorem Dev.addSat_motors (a hi lo n : Nat) : (d.addSat a hi lo n).motors = d.motors := Dev.putF_motors d _ _ _ _
@[simp] theorem Dev.addSat_groups (a hi lo n : Nat) : (d.addSat a hi lo n).groups = d.groups := Dev.putF_groups d _ _ _ _
@[simp] theorem Dev.addSat_bridges (a hi lo n : Nat) : (d.addSat a hi lo n).bridges = d.bridges := Dev.putF_bridges d _ _ _ _
@[simp] theorem Dev.addSat_dies (a hi lo n : Nat) : (d.addSat a hi lo n).dies = d.dies := Dev.putF_dies d _ _ _ _
@[simp] theorem Dev.addSat_reports (a hi lo n : Nat) : (d.addSat a hi lo n).reports = d.reports := Dev.putF_reports d _ _ _ _
@[simp] theorem Dev.addSat_seqAt (a hi lo n : Nat) : (d.addSat a hi lo n).seqAt = d.seqAt := Dev.putF_seqAt d _ _ _ _
@[simp] theorem Dev.addSat_busDue (a hi lo n : Nat) : (d.addSat a hi lo n).busDue = d.busDue := Dev.putF_busDue d _ _ _ _
@[simp] theorem Dev.addSat_glDue (a hi lo n : Nat) : (d.addSat a hi lo n).glDue = d.glDue := Dev.putF_glDue d _ _ _ _
@[simp] theorem Dev.addSat_fbDue (a hi lo n : Nat) : (d.addSat a hi lo n).fbDue = d.fbDue := Dev.putF_fbDue d _ _ _ _
@[simp] theorem Dev.addSat_prisms (a hi lo n : Nat) : (d.addSat a hi lo n).prisms = d.prisms := Dev.putF_prisms d _ _ _ _
@[simp] theorem Dev.addSat_fbs (a hi lo n : Nat) : (d.addSat a hi lo n).fbs = d.fbs := Dev.putF_fbs d _ _ _ _
@[simp] theorem Dev.addSat_dist (a hi lo n : Nat) : (d.addSat a hi lo n).dist = d.dist := Dev.putF_dist d _ _ _ _
@[simp] theorem Dev.addSat_traces (a hi lo n : Nat) : (d.addSat a hi lo n).traces = d.traces := Dev.putF_traces d _ _ _ _
@[simp] theorem Dev.addSat_tickAt (a hi lo n : Nat) : (d.addSat a hi lo n).tickAt = d.tickAt := Dev.putF_tickAt d _ _ _ _
@[simp] theorem Dev.addSat_ticks (a hi lo n : Nat) : (d.addSat a hi lo n).ticks = d.ticks := Dev.putF_ticks d _ _ _ _
@[simp] theorem Dev.addSat_emptied (a hi lo n : Nat) : (d.addSat a hi lo n).emptied = d.emptied := Dev.putF_emptied d _ _ _ _
@[simp] theorem Dev.addSat_secAt (a hi lo n : Nat) : (d.addSat a hi lo n).secAt = d.secAt := Dev.putF_secAt d _ _ _ _
@[simp] theorem Dev.addSat_recq (a hi lo n : Nat) : (d.addSat a hi lo n).recq = d.recq := Dev.putF_recq d _ _ _ _
@[simp] theorem Dev.addSat_mbxIn (a hi lo n : Nat) : (d.addSat a hi lo n).mbxIn = d.mbxIn := Dev.putF_mbxIn d _ _ _ _
@[simp] theorem Dev.addSat_mbxAt (a hi lo n : Nat) : (d.addSat a hi lo n).mbxAt = d.mbxAt := Dev.putF_mbxAt d _ _ _ _
@[simp] theorem Dev.addSat_cplAt (a hi lo n : Nat) : (d.addSat a hi lo n).cplAt = d.cplAt := Dev.putF_cplAt d _ _ _ _
@[simp] theorem Dev.addSat_cplQt (a hi lo n : Nat) : (d.addSat a hi lo n).cplQt = d.cplQt := Dev.putF_cplQt d _ _ _ _
@[simp] theorem Dev.addSat_cplEdge (a hi lo n : Nat) : (d.addSat a hi lo n).cplEdge = d.cplEdge := Dev.putF_cplEdge d _ _ _ _
@[simp] theorem Dev.addSat_cplFrom (a hi lo n : Nat) : (d.addSat a hi lo n).cplFrom = d.cplFrom := Dev.putF_cplFrom d _ _ _ _
@[simp] theorem Dev.addSat_cplDone (a hi lo n : Nat) : (d.addSat a hi lo n).cplDone = d.cplDone := Dev.putF_cplDone d _ _ _ _
@[simp] theorem Dev.addSat_loader (a hi lo n : Nat) : (d.addSat a hi lo n).loader = d.loader := Dev.putF_loader d _ _ _ _
@[simp] theorem Dev.addSat_ports (a hi lo n : Nat) : (d.addSat a hi lo n).ports = d.ports := Dev.putF_ports d _ _ _ _
@[simp] theorem Dev.addSat_mem (a hi lo n : Nat) : (d.addSat a hi lo n).mem = d.mem := Dev.putF_mem d _ _ _ _
@[simp] theorem Dev.addSat_mirror (a hi lo n : Nat) : (d.addSat a hi lo n).mirror = d.mirror := Dev.putF_mirror d _ _ _ _
@[simp] theorem Dev.addSat_therm (a hi lo n : Nat) : (d.addSat a hi lo n).therm = d.therm := Dev.putF_therm d _ _ _ _
@[simp] theorem Dev.addSat_thermAt (a hi lo n : Nat) : (d.addSat a hi lo n).thermAt = d.thermAt := Dev.putF_thermAt d _ _ _ _
@[simp] theorem Dev.addSat_power (a hi lo n : Nat) : (d.addSat a hi lo n).power = d.power := Dev.putF_power d _ _ _ _
@[simp] theorem Dev.addSat_bist (a hi lo n : Nat) : (d.addSat a hi lo n).bist = d.bist := Dev.putF_bist d _ _ _ _
@[simp] theorem Dev.addSat_tap (a hi lo n : Nat) : (d.addSat a hi lo n).tap = d.tap := Dev.putF_tap d _ _ _ _
@[simp] theorem Dev.addSat_scan (a hi lo n : Nat) : (d.addSat a hi lo n).scan = d.scan := Dev.putF_scan d _ _ _ _
@[simp] theorem Dev.addSat_lc (a hi lo n : Nat) : (d.addSat a hi lo n).lc = d.lc := Dev.putF_lc d _ _ _ _
@[simp] theorem Dev.addSat_ev (a hi lo n : Nat) : (d.addSat a hi lo n).ev = d.ev := Dev.putF_ev d _ _ _ _
@[simp] theorem Dev.addSat_pend (a hi lo n : Nat) : (d.addSat a hi lo n).pend = d.pend := Dev.putF_pend d _ _ _ _
@[simp] theorem Dev.addSat_ppend (a hi lo n : Nat) : (d.addSat a hi lo n).ppend = d.ppend := Dev.putF_ppend d _ _ _ _
@[simp] theorem Dev.addSat_ueAt (a hi lo n : Nat) : (d.addSat a hi lo n).ueAt = d.ueAt := Dev.putF_ueAt d _ _ _ _
@[simp] theorem Dev.addSat_faultAt (a hi lo n : Nat) : (d.addSat a hi lo n).faultAt = d.faultAt := Dev.putF_faultAt d _ _ _ _
@[simp] theorem Dev.addSat_scrubPos (a hi lo n : Nat) : (d.addSat a hi lo n).scrubPos = d.scrubPos := Dev.putF_scrubPos d _ _ _ _
@[simp] theorem Dev.addSat_scrubCe (a hi lo n : Nat) : (d.addSat a hi lo n).scrubCe = d.scrubCe := Dev.putF_scrubCe d _ _ _ _
@[simp] theorem Dev.addSat_scrubRaised (a hi lo n : Nat) : (d.addSat a hi lo n).scrubRaised = d.scrubRaised := Dev.putF_scrubRaised d _ _ _ _
@[simp] theorem Dev.addSat_backs (a hi lo n : Nat) : (d.addSat a hi lo n).backs = d.backs := Dev.putF_backs d _ _ _ _
@[simp] theorem Dev.addSat_free (a hi lo n : Nat) : (d.addSat a hi lo n).free = d.free := Dev.putF_free d _ _ _ _
@[simp] theorem Dev.addSat_runs (a hi lo n : Nat) : (d.addSat a hi lo n).runs = d.runs := Dev.putF_runs d _ _ _ _
@[simp] theorem Dev.addSat_time (a hi lo n : Nat) : (d.addSat a hi lo n).time = d.time := Dev.putF_time d _ _ _ _
@[simp] theorem Dev.addSat_sub (a hi lo n : Nat) : (d.addSat a hi lo n).sub = d.sub := Dev.putF_sub d _ _ _ _
@[simp] theorem Dev.addSat_micros (a hi lo n : Nat) : (d.addSat a hi lo n).micros = d.micros := Dev.putF_micros d _ _ _ _
@[simp] theorem Dev.addSat_mot (a hi lo n : Nat) (x : MotorIx) : (d.addSat a hi lo n).mot x = d.mot x := Dev.putF_mot d _ _ _ _ x
@[simp] theorem Dev.addSat_grp (a hi lo n : Nat) (x : GroupIx) : (d.addSat a hi lo n).grp x = d.grp x := Dev.putF_grp d _ _ _ _ x
@[simp] theorem Dev.addSat_brg (a hi lo n : Nat) (x : BridgeIx) : (d.addSat a hi lo n).brg x = d.brg x := Dev.putF_brg d _ _ _ _ x
@[simp] theorem Dev.addSat_die (a hi lo n : Nat) (x : GroupIx) : (d.addSat a hi lo n).die x = d.die x := Dev.putF_die d _ _ _ _ x
@[simp] theorem Dev.addSat_prm (a hi lo n : Nat) (x : GroupIx) : (d.addSat a hi lo n).prm x = d.prm x := Dev.putF_prm d _ _ _ _ x
@[simp] theorem Dev.addSat_fb (a hi lo n : Nat) (x : ChanIx) : (d.addSat a hi lo n).fb x = d.fb x := Dev.putF_fb d _ _ _ _ x
@[simp] theorem Dev.addSat_trc (a hi lo n : Nat) (x : TraceIx) : (d.addSat a hi lo n).trc x = d.trc x := Dev.putF_trc d _ _ _ _ x
@[simp] theorem Dev.addSat_hp (a hi lo n : Nat) (x : HostIx) : (d.addSat a hi lo n).hp x = d.hp x := Dev.putF_hp d _ _ _ _ x
@[simp] theorem Dev.addSat_sen (a hi lo n : Nat) (x : SensorIx) : (d.addSat a hi lo n).sen x = d.sen x := Dev.putF_sen d _ _ _ _ x
@[simp] theorem Dev.addSat_iw (a hi lo n : Nat) (y : Nat) : (d.addSat a hi lo n).iw y = d.iw y := Dev.putF_iw d _ _ _ _ y
@[simp] theorem Dev.addSat_ibit (a hi lo n : Nat) (y j : Nat) : (d.addSat a hi lo n).ibit y j = d.ibit y j := Dev.putF_ibit d _ _ _ _ y j
@[simp] theorem Dev.addSat_ifld (a hi lo n : Nat) (y h l : Nat) : (d.addSat a hi lo n).ifld y h l = d.ifld y h l := Dev.putF_ifld d _ _ _ _ y h l
@[simp] theorem Dev.addSat_iuw (a hi lo n : Nat) (y : Nat) : (d.addSat a hi lo n).iuw y = d.iuw y := Dev.putF_iuw d _ _ _ _ y
@[simp] theorem Dev.addSat_isw (a hi lo n : Nat) (y : Nat) : (d.addSat a hi lo n).isw y = d.isw y := Dev.putF_isw d _ _ _ _ y

@[simp] theorem Dev.inc_part (a : Nat) : (d.inc a).part = d.part := Dev.addSat_part d _ _ _ _
@[simp] theorem Dev.inc_rev (a : Nat) : (d.inc a).rev = d.rev := Dev.addSat_rev d _ _ _ _
@[simp] theorem Dev.inc_fuses (a : Nat) : (d.inc a).fuses = d.fuses := Dev.addSat_fuses d _ _ _ _
@[simp] theorem Dev.inc_devLog (a : Nat) : (d.inc a).devLog = d.devLog := Dev.addSat_devLog d _ _ _ _
@[simp] theorem Dev.inc_store (a : Nat) : (d.inc a).store = d.store := Dev.addSat_store d _ _ _ _
@[simp] theorem Dev.inc_marks (a : Nat) : (d.inc a).marks = d.marks := Dev.addSat_marks d _ _ _ _
@[simp] theorem Dev.inc_tested (a : Nat) : (d.inc a).tested = d.tested := Dev.addSat_tested d _ _ _ _
@[simp] theorem Dev.inc_logWrote (a : Nat) : (d.inc a).logWrote = d.logWrote := Dev.addSat_logWrote d _ _ _ _
@[simp] theorem Dev.inc_resetN (a : Nat) : (d.inc a).resetN = d.resetN := Dev.addSat_resetN d _ _ _ _
@[simp] theorem Dev.inc_locked (a : Nat) : (d.inc a).locked = d.locked := Dev.addSat_locked d _ _ _ _
@[simp] theorem Dev.inc_everLock (a : Nat) : (d.inc a).everLock = d.everLock := Dev.addSat_everLock d _ _ _ _
@[simp] theorem Dev.inc_heldOff (a : Nat) : (d.inc a).heldOff = d.heldOff := Dev.addSat_heldOff d _ _ _ _
@[simp] theorem Dev.inc_cycles (a : Nat) : (d.inc a).cycles = d.cycles := Dev.addSat_cycles d _ _ _ _
@[simp] theorem Dev.inc_inForce (a : Nat) : (d.inc a).inForce = d.inForce := Dev.addSat_inForce d _ _ _ _
@[simp] theorem Dev.inc_latches (a : Nat) : (d.inc a).latches = d.latches := Dev.addSat_latches d _ _ _ _
@[simp] theorem Dev.inc_fab (a : Nat) : (d.inc a).fab = d.fab := Dev.addSat_fab d _ _ _ _
@[simp] theorem Dev.inc_cyc0 (a : Nat) : (d.inc a).cyc0 = d.cyc0 := Dev.addSat_cyc0 d _ _ _ _
@[simp] theorem Dev.inc_fresh (a : Nat) : (d.inc a).fresh = d.fresh := Dev.addSat_fresh d _ _ _ _
@[simp] theorem Dev.inc_freshEv (a : Nat) : (d.inc a).freshEv = d.freshEv := Dev.addSat_freshEv d _ _ _ _
@[simp] theorem Dev.inc_evLate (a : Nat) : (d.inc a).evLate = d.evLate := Dev.addSat_evLate d _ _ _ _
@[simp] theorem Dev.inc_closeLate (a : Nat) : (d.inc a).closeLate = d.closeLate := Dev.addSat_closeLate d _ _ _ _
@[simp] theorem Dev.inc_motors (a : Nat) : (d.inc a).motors = d.motors := Dev.addSat_motors d _ _ _ _
@[simp] theorem Dev.inc_groups (a : Nat) : (d.inc a).groups = d.groups := Dev.addSat_groups d _ _ _ _
@[simp] theorem Dev.inc_bridges (a : Nat) : (d.inc a).bridges = d.bridges := Dev.addSat_bridges d _ _ _ _
@[simp] theorem Dev.inc_dies (a : Nat) : (d.inc a).dies = d.dies := Dev.addSat_dies d _ _ _ _
@[simp] theorem Dev.inc_reports (a : Nat) : (d.inc a).reports = d.reports := Dev.addSat_reports d _ _ _ _
@[simp] theorem Dev.inc_seqAt (a : Nat) : (d.inc a).seqAt = d.seqAt := Dev.addSat_seqAt d _ _ _ _
@[simp] theorem Dev.inc_busDue (a : Nat) : (d.inc a).busDue = d.busDue := Dev.addSat_busDue d _ _ _ _
@[simp] theorem Dev.inc_glDue (a : Nat) : (d.inc a).glDue = d.glDue := Dev.addSat_glDue d _ _ _ _
@[simp] theorem Dev.inc_fbDue (a : Nat) : (d.inc a).fbDue = d.fbDue := Dev.addSat_fbDue d _ _ _ _
@[simp] theorem Dev.inc_prisms (a : Nat) : (d.inc a).prisms = d.prisms := Dev.addSat_prisms d _ _ _ _
@[simp] theorem Dev.inc_fbs (a : Nat) : (d.inc a).fbs = d.fbs := Dev.addSat_fbs d _ _ _ _
@[simp] theorem Dev.inc_dist (a : Nat) : (d.inc a).dist = d.dist := Dev.addSat_dist d _ _ _ _
@[simp] theorem Dev.inc_traces (a : Nat) : (d.inc a).traces = d.traces := Dev.addSat_traces d _ _ _ _
@[simp] theorem Dev.inc_tickAt (a : Nat) : (d.inc a).tickAt = d.tickAt := Dev.addSat_tickAt d _ _ _ _
@[simp] theorem Dev.inc_ticks (a : Nat) : (d.inc a).ticks = d.ticks := Dev.addSat_ticks d _ _ _ _
@[simp] theorem Dev.inc_emptied (a : Nat) : (d.inc a).emptied = d.emptied := Dev.addSat_emptied d _ _ _ _
@[simp] theorem Dev.inc_secAt (a : Nat) : (d.inc a).secAt = d.secAt := Dev.addSat_secAt d _ _ _ _
@[simp] theorem Dev.inc_recq (a : Nat) : (d.inc a).recq = d.recq := Dev.addSat_recq d _ _ _ _
@[simp] theorem Dev.inc_mbxIn (a : Nat) : (d.inc a).mbxIn = d.mbxIn := Dev.addSat_mbxIn d _ _ _ _
@[simp] theorem Dev.inc_mbxAt (a : Nat) : (d.inc a).mbxAt = d.mbxAt := Dev.addSat_mbxAt d _ _ _ _
@[simp] theorem Dev.inc_cplAt (a : Nat) : (d.inc a).cplAt = d.cplAt := Dev.addSat_cplAt d _ _ _ _
@[simp] theorem Dev.inc_cplQt (a : Nat) : (d.inc a).cplQt = d.cplQt := Dev.addSat_cplQt d _ _ _ _
@[simp] theorem Dev.inc_cplEdge (a : Nat) : (d.inc a).cplEdge = d.cplEdge := Dev.addSat_cplEdge d _ _ _ _
@[simp] theorem Dev.inc_cplFrom (a : Nat) : (d.inc a).cplFrom = d.cplFrom := Dev.addSat_cplFrom d _ _ _ _
@[simp] theorem Dev.inc_cplDone (a : Nat) : (d.inc a).cplDone = d.cplDone := Dev.addSat_cplDone d _ _ _ _
@[simp] theorem Dev.inc_loader (a : Nat) : (d.inc a).loader = d.loader := Dev.addSat_loader d _ _ _ _
@[simp] theorem Dev.inc_ports (a : Nat) : (d.inc a).ports = d.ports := Dev.addSat_ports d _ _ _ _
@[simp] theorem Dev.inc_mem (a : Nat) : (d.inc a).mem = d.mem := Dev.addSat_mem d _ _ _ _
@[simp] theorem Dev.inc_mirror (a : Nat) : (d.inc a).mirror = d.mirror := Dev.addSat_mirror d _ _ _ _
@[simp] theorem Dev.inc_therm (a : Nat) : (d.inc a).therm = d.therm := Dev.addSat_therm d _ _ _ _
@[simp] theorem Dev.inc_thermAt (a : Nat) : (d.inc a).thermAt = d.thermAt := Dev.addSat_thermAt d _ _ _ _
@[simp] theorem Dev.inc_power (a : Nat) : (d.inc a).power = d.power := Dev.addSat_power d _ _ _ _
@[simp] theorem Dev.inc_bist (a : Nat) : (d.inc a).bist = d.bist := Dev.addSat_bist d _ _ _ _
@[simp] theorem Dev.inc_tap (a : Nat) : (d.inc a).tap = d.tap := Dev.addSat_tap d _ _ _ _
@[simp] theorem Dev.inc_scan (a : Nat) : (d.inc a).scan = d.scan := Dev.addSat_scan d _ _ _ _
@[simp] theorem Dev.inc_lc (a : Nat) : (d.inc a).lc = d.lc := Dev.addSat_lc d _ _ _ _
@[simp] theorem Dev.inc_ev (a : Nat) : (d.inc a).ev = d.ev := Dev.addSat_ev d _ _ _ _
@[simp] theorem Dev.inc_pend (a : Nat) : (d.inc a).pend = d.pend := Dev.addSat_pend d _ _ _ _
@[simp] theorem Dev.inc_ppend (a : Nat) : (d.inc a).ppend = d.ppend := Dev.addSat_ppend d _ _ _ _
@[simp] theorem Dev.inc_ueAt (a : Nat) : (d.inc a).ueAt = d.ueAt := Dev.addSat_ueAt d _ _ _ _
@[simp] theorem Dev.inc_faultAt (a : Nat) : (d.inc a).faultAt = d.faultAt := Dev.addSat_faultAt d _ _ _ _
@[simp] theorem Dev.inc_scrubPos (a : Nat) : (d.inc a).scrubPos = d.scrubPos := Dev.addSat_scrubPos d _ _ _ _
@[simp] theorem Dev.inc_scrubCe (a : Nat) : (d.inc a).scrubCe = d.scrubCe := Dev.addSat_scrubCe d _ _ _ _
@[simp] theorem Dev.inc_scrubRaised (a : Nat) : (d.inc a).scrubRaised = d.scrubRaised := Dev.addSat_scrubRaised d _ _ _ _
@[simp] theorem Dev.inc_backs (a : Nat) : (d.inc a).backs = d.backs := Dev.addSat_backs d _ _ _ _
@[simp] theorem Dev.inc_free (a : Nat) : (d.inc a).free = d.free := Dev.addSat_free d _ _ _ _
@[simp] theorem Dev.inc_runs (a : Nat) : (d.inc a).runs = d.runs := Dev.addSat_runs d _ _ _ _
@[simp] theorem Dev.inc_time (a : Nat) : (d.inc a).time = d.time := Dev.addSat_time d _ _ _ _
@[simp] theorem Dev.inc_sub (a : Nat) : (d.inc a).sub = d.sub := Dev.addSat_sub d _ _ _ _
@[simp] theorem Dev.inc_micros (a : Nat) : (d.inc a).micros = d.micros := Dev.addSat_micros d _ _ _ _
@[simp] theorem Dev.inc_mot (a : Nat) (x : MotorIx) : (d.inc a).mot x = d.mot x := Dev.addSat_mot d _ _ _ _ x
@[simp] theorem Dev.inc_grp (a : Nat) (x : GroupIx) : (d.inc a).grp x = d.grp x := Dev.addSat_grp d _ _ _ _ x
@[simp] theorem Dev.inc_brg (a : Nat) (x : BridgeIx) : (d.inc a).brg x = d.brg x := Dev.addSat_brg d _ _ _ _ x
@[simp] theorem Dev.inc_die (a : Nat) (x : GroupIx) : (d.inc a).die x = d.die x := Dev.addSat_die d _ _ _ _ x
@[simp] theorem Dev.inc_prm (a : Nat) (x : GroupIx) : (d.inc a).prm x = d.prm x := Dev.addSat_prm d _ _ _ _ x
@[simp] theorem Dev.inc_fb (a : Nat) (x : ChanIx) : (d.inc a).fb x = d.fb x := Dev.addSat_fb d _ _ _ _ x
@[simp] theorem Dev.inc_trc (a : Nat) (x : TraceIx) : (d.inc a).trc x = d.trc x := Dev.addSat_trc d _ _ _ _ x
@[simp] theorem Dev.inc_hp (a : Nat) (x : HostIx) : (d.inc a).hp x = d.hp x := Dev.addSat_hp d _ _ _ _ x
@[simp] theorem Dev.inc_sen (a : Nat) (x : SensorIx) : (d.inc a).sen x = d.sen x := Dev.addSat_sen d _ _ _ _ x
@[simp] theorem Dev.inc_iw (a : Nat) (y : Nat) : (d.inc a).iw y = d.iw y := Dev.addSat_iw d _ _ _ _ y
@[simp] theorem Dev.inc_ibit (a : Nat) (y j : Nat) : (d.inc a).ibit y j = d.ibit y j := Dev.addSat_ibit d _ _ _ _ y j
@[simp] theorem Dev.inc_ifld (a : Nat) (y h l : Nat) : (d.inc a).ifld y h l = d.ifld y h l := Dev.addSat_ifld d _ _ _ _ y h l
@[simp] theorem Dev.inc_iuw (a : Nat) (y : Nat) : (d.inc a).iuw y = d.iuw y := Dev.addSat_iuw d _ _ _ _ y
@[simp] theorem Dev.inc_isw (a : Nat) (y : Nat) : (d.inc a).isw y = d.isw y := Dev.addSat_isw d _ _ _ _ y

@[simp] theorem Dev.put32_part (a : Nat) (v : BitVec 32) : (d.put32 a v).part = d.part := (Dev.put_part _ _ _).trans (Dev.put_part d _ _)
@[simp] theorem Dev.put32_rev (a : Nat) (v : BitVec 32) : (d.put32 a v).rev = d.rev := (Dev.put_rev _ _ _).trans (Dev.put_rev d _ _)
@[simp] theorem Dev.put32_fuses (a : Nat) (v : BitVec 32) : (d.put32 a v).fuses = d.fuses := (Dev.put_fuses _ _ _).trans (Dev.put_fuses d _ _)
@[simp] theorem Dev.put32_devLog (a : Nat) (v : BitVec 32) : (d.put32 a v).devLog = d.devLog := (Dev.put_devLog _ _ _).trans (Dev.put_devLog d _ _)
@[simp] theorem Dev.put32_store (a : Nat) (v : BitVec 32) : (d.put32 a v).store = d.store := (Dev.put_store _ _ _).trans (Dev.put_store d _ _)
@[simp] theorem Dev.put32_marks (a : Nat) (v : BitVec 32) : (d.put32 a v).marks = d.marks := (Dev.put_marks _ _ _).trans (Dev.put_marks d _ _)
@[simp] theorem Dev.put32_tested (a : Nat) (v : BitVec 32) : (d.put32 a v).tested = d.tested := (Dev.put_tested _ _ _).trans (Dev.put_tested d _ _)
@[simp] theorem Dev.put32_logWrote (a : Nat) (v : BitVec 32) : (d.put32 a v).logWrote = d.logWrote := (Dev.put_logWrote _ _ _).trans (Dev.put_logWrote d _ _)
@[simp] theorem Dev.put32_resetN (a : Nat) (v : BitVec 32) : (d.put32 a v).resetN = d.resetN := (Dev.put_resetN _ _ _).trans (Dev.put_resetN d _ _)
@[simp] theorem Dev.put32_locked (a : Nat) (v : BitVec 32) : (d.put32 a v).locked = d.locked := (Dev.put_locked _ _ _).trans (Dev.put_locked d _ _)
@[simp] theorem Dev.put32_everLock (a : Nat) (v : BitVec 32) : (d.put32 a v).everLock = d.everLock := (Dev.put_everLock _ _ _).trans (Dev.put_everLock d _ _)
@[simp] theorem Dev.put32_heldOff (a : Nat) (v : BitVec 32) : (d.put32 a v).heldOff = d.heldOff := (Dev.put_heldOff _ _ _).trans (Dev.put_heldOff d _ _)
@[simp] theorem Dev.put32_cycles (a : Nat) (v : BitVec 32) : (d.put32 a v).cycles = d.cycles := (Dev.put_cycles _ _ _).trans (Dev.put_cycles d _ _)
@[simp] theorem Dev.put32_inForce (a : Nat) (v : BitVec 32) : (d.put32 a v).inForce = d.inForce := (Dev.put_inForce _ _ _).trans (Dev.put_inForce d _ _)
@[simp] theorem Dev.put32_latches (a : Nat) (v : BitVec 32) : (d.put32 a v).latches = d.latches := (Dev.put_latches _ _ _).trans (Dev.put_latches d _ _)
@[simp] theorem Dev.put32_fab (a : Nat) (v : BitVec 32) : (d.put32 a v).fab = d.fab := (Dev.put_fab _ _ _).trans (Dev.put_fab d _ _)
@[simp] theorem Dev.put32_cyc0 (a : Nat) (v : BitVec 32) : (d.put32 a v).cyc0 = d.cyc0 := (Dev.put_cyc0 _ _ _).trans (Dev.put_cyc0 d _ _)
@[simp] theorem Dev.put32_fresh (a : Nat) (v : BitVec 32) : (d.put32 a v).fresh = d.fresh := (Dev.put_fresh _ _ _).trans (Dev.put_fresh d _ _)
@[simp] theorem Dev.put32_freshEv (a : Nat) (v : BitVec 32) : (d.put32 a v).freshEv = d.freshEv := (Dev.put_freshEv _ _ _).trans (Dev.put_freshEv d _ _)
@[simp] theorem Dev.put32_evLate (a : Nat) (v : BitVec 32) : (d.put32 a v).evLate = d.evLate := (Dev.put_evLate _ _ _).trans (Dev.put_evLate d _ _)
@[simp] theorem Dev.put32_closeLate (a : Nat) (v : BitVec 32) : (d.put32 a v).closeLate = d.closeLate := (Dev.put_closeLate _ _ _).trans (Dev.put_closeLate d _ _)
@[simp] theorem Dev.put32_motors (a : Nat) (v : BitVec 32) : (d.put32 a v).motors = d.motors := (Dev.put_motors _ _ _).trans (Dev.put_motors d _ _)
@[simp] theorem Dev.put32_groups (a : Nat) (v : BitVec 32) : (d.put32 a v).groups = d.groups := (Dev.put_groups _ _ _).trans (Dev.put_groups d _ _)
@[simp] theorem Dev.put32_bridges (a : Nat) (v : BitVec 32) : (d.put32 a v).bridges = d.bridges := (Dev.put_bridges _ _ _).trans (Dev.put_bridges d _ _)
@[simp] theorem Dev.put32_dies (a : Nat) (v : BitVec 32) : (d.put32 a v).dies = d.dies := (Dev.put_dies _ _ _).trans (Dev.put_dies d _ _)
@[simp] theorem Dev.put32_reports (a : Nat) (v : BitVec 32) : (d.put32 a v).reports = d.reports := (Dev.put_reports _ _ _).trans (Dev.put_reports d _ _)
@[simp] theorem Dev.put32_seqAt (a : Nat) (v : BitVec 32) : (d.put32 a v).seqAt = d.seqAt := (Dev.put_seqAt _ _ _).trans (Dev.put_seqAt d _ _)
@[simp] theorem Dev.put32_busDue (a : Nat) (v : BitVec 32) : (d.put32 a v).busDue = d.busDue := (Dev.put_busDue _ _ _).trans (Dev.put_busDue d _ _)
@[simp] theorem Dev.put32_glDue (a : Nat) (v : BitVec 32) : (d.put32 a v).glDue = d.glDue := (Dev.put_glDue _ _ _).trans (Dev.put_glDue d _ _)
@[simp] theorem Dev.put32_fbDue (a : Nat) (v : BitVec 32) : (d.put32 a v).fbDue = d.fbDue := (Dev.put_fbDue _ _ _).trans (Dev.put_fbDue d _ _)
@[simp] theorem Dev.put32_prisms (a : Nat) (v : BitVec 32) : (d.put32 a v).prisms = d.prisms := (Dev.put_prisms _ _ _).trans (Dev.put_prisms d _ _)
@[simp] theorem Dev.put32_fbs (a : Nat) (v : BitVec 32) : (d.put32 a v).fbs = d.fbs := (Dev.put_fbs _ _ _).trans (Dev.put_fbs d _ _)
@[simp] theorem Dev.put32_dist (a : Nat) (v : BitVec 32) : (d.put32 a v).dist = d.dist := (Dev.put_dist _ _ _).trans (Dev.put_dist d _ _)
@[simp] theorem Dev.put32_traces (a : Nat) (v : BitVec 32) : (d.put32 a v).traces = d.traces := (Dev.put_traces _ _ _).trans (Dev.put_traces d _ _)
@[simp] theorem Dev.put32_tickAt (a : Nat) (v : BitVec 32) : (d.put32 a v).tickAt = d.tickAt := (Dev.put_tickAt _ _ _).trans (Dev.put_tickAt d _ _)
@[simp] theorem Dev.put32_ticks (a : Nat) (v : BitVec 32) : (d.put32 a v).ticks = d.ticks := (Dev.put_ticks _ _ _).trans (Dev.put_ticks d _ _)
@[simp] theorem Dev.put32_emptied (a : Nat) (v : BitVec 32) : (d.put32 a v).emptied = d.emptied := (Dev.put_emptied _ _ _).trans (Dev.put_emptied d _ _)
@[simp] theorem Dev.put32_secAt (a : Nat) (v : BitVec 32) : (d.put32 a v).secAt = d.secAt := (Dev.put_secAt _ _ _).trans (Dev.put_secAt d _ _)
@[simp] theorem Dev.put32_recq (a : Nat) (v : BitVec 32) : (d.put32 a v).recq = d.recq := (Dev.put_recq _ _ _).trans (Dev.put_recq d _ _)
@[simp] theorem Dev.put32_mbxIn (a : Nat) (v : BitVec 32) : (d.put32 a v).mbxIn = d.mbxIn := (Dev.put_mbxIn _ _ _).trans (Dev.put_mbxIn d _ _)
@[simp] theorem Dev.put32_mbxAt (a : Nat) (v : BitVec 32) : (d.put32 a v).mbxAt = d.mbxAt := (Dev.put_mbxAt _ _ _).trans (Dev.put_mbxAt d _ _)
@[simp] theorem Dev.put32_cplAt (a : Nat) (v : BitVec 32) : (d.put32 a v).cplAt = d.cplAt := (Dev.put_cplAt _ _ _).trans (Dev.put_cplAt d _ _)
@[simp] theorem Dev.put32_cplQt (a : Nat) (v : BitVec 32) : (d.put32 a v).cplQt = d.cplQt := (Dev.put_cplQt _ _ _).trans (Dev.put_cplQt d _ _)
@[simp] theorem Dev.put32_cplEdge (a : Nat) (v : BitVec 32) : (d.put32 a v).cplEdge = d.cplEdge := (Dev.put_cplEdge _ _ _).trans (Dev.put_cplEdge d _ _)
@[simp] theorem Dev.put32_cplFrom (a : Nat) (v : BitVec 32) : (d.put32 a v).cplFrom = d.cplFrom := (Dev.put_cplFrom _ _ _).trans (Dev.put_cplFrom d _ _)
@[simp] theorem Dev.put32_cplDone (a : Nat) (v : BitVec 32) : (d.put32 a v).cplDone = d.cplDone := (Dev.put_cplDone _ _ _).trans (Dev.put_cplDone d _ _)
@[simp] theorem Dev.put32_loader (a : Nat) (v : BitVec 32) : (d.put32 a v).loader = d.loader := (Dev.put_loader _ _ _).trans (Dev.put_loader d _ _)
@[simp] theorem Dev.put32_ports (a : Nat) (v : BitVec 32) : (d.put32 a v).ports = d.ports := (Dev.put_ports _ _ _).trans (Dev.put_ports d _ _)
@[simp] theorem Dev.put32_mem (a : Nat) (v : BitVec 32) : (d.put32 a v).mem = d.mem := (Dev.put_mem _ _ _).trans (Dev.put_mem d _ _)
@[simp] theorem Dev.put32_mirror (a : Nat) (v : BitVec 32) : (d.put32 a v).mirror = d.mirror := (Dev.put_mirror _ _ _).trans (Dev.put_mirror d _ _)
@[simp] theorem Dev.put32_therm (a : Nat) (v : BitVec 32) : (d.put32 a v).therm = d.therm := (Dev.put_therm _ _ _).trans (Dev.put_therm d _ _)
@[simp] theorem Dev.put32_thermAt (a : Nat) (v : BitVec 32) : (d.put32 a v).thermAt = d.thermAt := (Dev.put_thermAt _ _ _).trans (Dev.put_thermAt d _ _)
@[simp] theorem Dev.put32_power (a : Nat) (v : BitVec 32) : (d.put32 a v).power = d.power := (Dev.put_power _ _ _).trans (Dev.put_power d _ _)
@[simp] theorem Dev.put32_bist (a : Nat) (v : BitVec 32) : (d.put32 a v).bist = d.bist := (Dev.put_bist _ _ _).trans (Dev.put_bist d _ _)
@[simp] theorem Dev.put32_tap (a : Nat) (v : BitVec 32) : (d.put32 a v).tap = d.tap := (Dev.put_tap _ _ _).trans (Dev.put_tap d _ _)
@[simp] theorem Dev.put32_scan (a : Nat) (v : BitVec 32) : (d.put32 a v).scan = d.scan := (Dev.put_scan _ _ _).trans (Dev.put_scan d _ _)
@[simp] theorem Dev.put32_lc (a : Nat) (v : BitVec 32) : (d.put32 a v).lc = d.lc := (Dev.put_lc _ _ _).trans (Dev.put_lc d _ _)
@[simp] theorem Dev.put32_ev (a : Nat) (v : BitVec 32) : (d.put32 a v).ev = d.ev := (Dev.put_ev _ _ _).trans (Dev.put_ev d _ _)
@[simp] theorem Dev.put32_pend (a : Nat) (v : BitVec 32) : (d.put32 a v).pend = d.pend := (Dev.put_pend _ _ _).trans (Dev.put_pend d _ _)
@[simp] theorem Dev.put32_ppend (a : Nat) (v : BitVec 32) : (d.put32 a v).ppend = d.ppend := (Dev.put_ppend _ _ _).trans (Dev.put_ppend d _ _)
@[simp] theorem Dev.put32_ueAt (a : Nat) (v : BitVec 32) : (d.put32 a v).ueAt = d.ueAt := (Dev.put_ueAt _ _ _).trans (Dev.put_ueAt d _ _)
@[simp] theorem Dev.put32_faultAt (a : Nat) (v : BitVec 32) : (d.put32 a v).faultAt = d.faultAt := (Dev.put_faultAt _ _ _).trans (Dev.put_faultAt d _ _)
@[simp] theorem Dev.put32_scrubPos (a : Nat) (v : BitVec 32) : (d.put32 a v).scrubPos = d.scrubPos := (Dev.put_scrubPos _ _ _).trans (Dev.put_scrubPos d _ _)
@[simp] theorem Dev.put32_scrubCe (a : Nat) (v : BitVec 32) : (d.put32 a v).scrubCe = d.scrubCe := (Dev.put_scrubCe _ _ _).trans (Dev.put_scrubCe d _ _)
@[simp] theorem Dev.put32_scrubRaised (a : Nat) (v : BitVec 32) : (d.put32 a v).scrubRaised = d.scrubRaised := (Dev.put_scrubRaised _ _ _).trans (Dev.put_scrubRaised d _ _)
@[simp] theorem Dev.put32_backs (a : Nat) (v : BitVec 32) : (d.put32 a v).backs = d.backs := (Dev.put_backs _ _ _).trans (Dev.put_backs d _ _)
@[simp] theorem Dev.put32_free (a : Nat) (v : BitVec 32) : (d.put32 a v).free = d.free := (Dev.put_free _ _ _).trans (Dev.put_free d _ _)
@[simp] theorem Dev.put32_runs (a : Nat) (v : BitVec 32) : (d.put32 a v).runs = d.runs := (Dev.put_runs _ _ _).trans (Dev.put_runs d _ _)
@[simp] theorem Dev.put32_time (a : Nat) (v : BitVec 32) : (d.put32 a v).time = d.time := (Dev.put_time _ _ _).trans (Dev.put_time d _ _)
@[simp] theorem Dev.put32_sub (a : Nat) (v : BitVec 32) : (d.put32 a v).sub = d.sub := (Dev.put_sub _ _ _).trans (Dev.put_sub d _ _)
@[simp] theorem Dev.put32_micros (a : Nat) (v : BitVec 32) : (d.put32 a v).micros = d.micros := (Dev.put_micros _ _ _).trans (Dev.put_micros d _ _)
@[simp] theorem Dev.put32_mot (a : Nat) (v : BitVec 32) (x : MotorIx) : (d.put32 a v).mot x = d.mot x := (Dev.put_mot _ _ _ x).trans (Dev.put_mot d _ _ x)
@[simp] theorem Dev.put32_grp (a : Nat) (v : BitVec 32) (x : GroupIx) : (d.put32 a v).grp x = d.grp x := (Dev.put_grp _ _ _ x).trans (Dev.put_grp d _ _ x)
@[simp] theorem Dev.put32_brg (a : Nat) (v : BitVec 32) (x : BridgeIx) : (d.put32 a v).brg x = d.brg x := (Dev.put_brg _ _ _ x).trans (Dev.put_brg d _ _ x)
@[simp] theorem Dev.put32_die (a : Nat) (v : BitVec 32) (x : GroupIx) : (d.put32 a v).die x = d.die x := (Dev.put_die _ _ _ x).trans (Dev.put_die d _ _ x)
@[simp] theorem Dev.put32_prm (a : Nat) (v : BitVec 32) (x : GroupIx) : (d.put32 a v).prm x = d.prm x := (Dev.put_prm _ _ _ x).trans (Dev.put_prm d _ _ x)
@[simp] theorem Dev.put32_fb (a : Nat) (v : BitVec 32) (x : ChanIx) : (d.put32 a v).fb x = d.fb x := (Dev.put_fb _ _ _ x).trans (Dev.put_fb d _ _ x)
@[simp] theorem Dev.put32_trc (a : Nat) (v : BitVec 32) (x : TraceIx) : (d.put32 a v).trc x = d.trc x := (Dev.put_trc _ _ _ x).trans (Dev.put_trc d _ _ x)
@[simp] theorem Dev.put32_hp (a : Nat) (v : BitVec 32) (x : HostIx) : (d.put32 a v).hp x = d.hp x := (Dev.put_hp _ _ _ x).trans (Dev.put_hp d _ _ x)
@[simp] theorem Dev.put32_sen (a : Nat) (v : BitVec 32) (x : SensorIx) : (d.put32 a v).sen x = d.sen x := (Dev.put_sen _ _ _ x).trans (Dev.put_sen d _ _ x)
@[simp] theorem Dev.put32_iw (a : Nat) (v : BitVec 32) (y : Nat) : (d.put32 a v).iw y = d.iw y := (Dev.put_iw _ _ _ y).trans (Dev.put_iw d _ _ y)
@[simp] theorem Dev.put32_ibit (a : Nat) (v : BitVec 32) (y j : Nat) : (d.put32 a v).ibit y j = d.ibit y j := (Dev.put_ibit _ _ _ y j).trans (Dev.put_ibit d _ _ y j)
@[simp] theorem Dev.put32_ifld (a : Nat) (v : BitVec 32) (y h l : Nat) : (d.put32 a v).ifld y h l = d.ifld y h l := (Dev.put_ifld _ _ _ y h l).trans (Dev.put_ifld d _ _ y h l)
@[simp] theorem Dev.put32_iuw (a : Nat) (v : BitVec 32) (y : Nat) : (d.put32 a v).iuw y = d.iuw y := (Dev.put_iuw _ _ _ y).trans (Dev.put_iuw d _ _ y)
@[simp] theorem Dev.put32_isw (a : Nat) (v : BitVec 32) (y : Nat) : (d.put32 a v).isw y = d.isw y := (Dev.put_isw _ _ _ y).trans (Dev.put_isw d _ _ y)

@[simp] theorem Dev.stamp_part (a : Nat) : (d.stamp a).part = d.part := ((Dev.put_part _ _ _).trans (Dev.put_part _ _ _)).trans (Dev.put_part d _ _)
@[simp] theorem Dev.stamp_rev (a : Nat) : (d.stamp a).rev = d.rev := ((Dev.put_rev _ _ _).trans (Dev.put_rev _ _ _)).trans (Dev.put_rev d _ _)
@[simp] theorem Dev.stamp_fuses (a : Nat) : (d.stamp a).fuses = d.fuses := ((Dev.put_fuses _ _ _).trans (Dev.put_fuses _ _ _)).trans (Dev.put_fuses d _ _)
@[simp] theorem Dev.stamp_devLog (a : Nat) : (d.stamp a).devLog = d.devLog := ((Dev.put_devLog _ _ _).trans (Dev.put_devLog _ _ _)).trans (Dev.put_devLog d _ _)
@[simp] theorem Dev.stamp_store (a : Nat) : (d.stamp a).store = d.store := ((Dev.put_store _ _ _).trans (Dev.put_store _ _ _)).trans (Dev.put_store d _ _)
@[simp] theorem Dev.stamp_marks (a : Nat) : (d.stamp a).marks = d.marks := ((Dev.put_marks _ _ _).trans (Dev.put_marks _ _ _)).trans (Dev.put_marks d _ _)
@[simp] theorem Dev.stamp_tested (a : Nat) : (d.stamp a).tested = d.tested := ((Dev.put_tested _ _ _).trans (Dev.put_tested _ _ _)).trans (Dev.put_tested d _ _)
@[simp] theorem Dev.stamp_logWrote (a : Nat) : (d.stamp a).logWrote = d.logWrote := ((Dev.put_logWrote _ _ _).trans (Dev.put_logWrote _ _ _)).trans (Dev.put_logWrote d _ _)
@[simp] theorem Dev.stamp_resetN (a : Nat) : (d.stamp a).resetN = d.resetN := ((Dev.put_resetN _ _ _).trans (Dev.put_resetN _ _ _)).trans (Dev.put_resetN d _ _)
@[simp] theorem Dev.stamp_locked (a : Nat) : (d.stamp a).locked = d.locked := ((Dev.put_locked _ _ _).trans (Dev.put_locked _ _ _)).trans (Dev.put_locked d _ _)
@[simp] theorem Dev.stamp_everLock (a : Nat) : (d.stamp a).everLock = d.everLock := ((Dev.put_everLock _ _ _).trans (Dev.put_everLock _ _ _)).trans (Dev.put_everLock d _ _)
@[simp] theorem Dev.stamp_heldOff (a : Nat) : (d.stamp a).heldOff = d.heldOff := ((Dev.put_heldOff _ _ _).trans (Dev.put_heldOff _ _ _)).trans (Dev.put_heldOff d _ _)
@[simp] theorem Dev.stamp_cycles (a : Nat) : (d.stamp a).cycles = d.cycles := ((Dev.put_cycles _ _ _).trans (Dev.put_cycles _ _ _)).trans (Dev.put_cycles d _ _)
@[simp] theorem Dev.stamp_inForce (a : Nat) : (d.stamp a).inForce = d.inForce := ((Dev.put_inForce _ _ _).trans (Dev.put_inForce _ _ _)).trans (Dev.put_inForce d _ _)
@[simp] theorem Dev.stamp_latches (a : Nat) : (d.stamp a).latches = d.latches := ((Dev.put_latches _ _ _).trans (Dev.put_latches _ _ _)).trans (Dev.put_latches d _ _)
@[simp] theorem Dev.stamp_fab (a : Nat) : (d.stamp a).fab = d.fab := ((Dev.put_fab _ _ _).trans (Dev.put_fab _ _ _)).trans (Dev.put_fab d _ _)
@[simp] theorem Dev.stamp_cyc0 (a : Nat) : (d.stamp a).cyc0 = d.cyc0 := ((Dev.put_cyc0 _ _ _).trans (Dev.put_cyc0 _ _ _)).trans (Dev.put_cyc0 d _ _)
@[simp] theorem Dev.stamp_fresh (a : Nat) : (d.stamp a).fresh = d.fresh := ((Dev.put_fresh _ _ _).trans (Dev.put_fresh _ _ _)).trans (Dev.put_fresh d _ _)
@[simp] theorem Dev.stamp_freshEv (a : Nat) : (d.stamp a).freshEv = d.freshEv := ((Dev.put_freshEv _ _ _).trans (Dev.put_freshEv _ _ _)).trans (Dev.put_freshEv d _ _)
@[simp] theorem Dev.stamp_evLate (a : Nat) : (d.stamp a).evLate = d.evLate := ((Dev.put_evLate _ _ _).trans (Dev.put_evLate _ _ _)).trans (Dev.put_evLate d _ _)
@[simp] theorem Dev.stamp_closeLate (a : Nat) : (d.stamp a).closeLate = d.closeLate := ((Dev.put_closeLate _ _ _).trans (Dev.put_closeLate _ _ _)).trans (Dev.put_closeLate d _ _)
@[simp] theorem Dev.stamp_motors (a : Nat) : (d.stamp a).motors = d.motors := ((Dev.put_motors _ _ _).trans (Dev.put_motors _ _ _)).trans (Dev.put_motors d _ _)
@[simp] theorem Dev.stamp_groups (a : Nat) : (d.stamp a).groups = d.groups := ((Dev.put_groups _ _ _).trans (Dev.put_groups _ _ _)).trans (Dev.put_groups d _ _)
@[simp] theorem Dev.stamp_bridges (a : Nat) : (d.stamp a).bridges = d.bridges := ((Dev.put_bridges _ _ _).trans (Dev.put_bridges _ _ _)).trans (Dev.put_bridges d _ _)
@[simp] theorem Dev.stamp_dies (a : Nat) : (d.stamp a).dies = d.dies := ((Dev.put_dies _ _ _).trans (Dev.put_dies _ _ _)).trans (Dev.put_dies d _ _)
@[simp] theorem Dev.stamp_reports (a : Nat) : (d.stamp a).reports = d.reports := ((Dev.put_reports _ _ _).trans (Dev.put_reports _ _ _)).trans (Dev.put_reports d _ _)
@[simp] theorem Dev.stamp_seqAt (a : Nat) : (d.stamp a).seqAt = d.seqAt := ((Dev.put_seqAt _ _ _).trans (Dev.put_seqAt _ _ _)).trans (Dev.put_seqAt d _ _)
@[simp] theorem Dev.stamp_busDue (a : Nat) : (d.stamp a).busDue = d.busDue := ((Dev.put_busDue _ _ _).trans (Dev.put_busDue _ _ _)).trans (Dev.put_busDue d _ _)
@[simp] theorem Dev.stamp_glDue (a : Nat) : (d.stamp a).glDue = d.glDue := ((Dev.put_glDue _ _ _).trans (Dev.put_glDue _ _ _)).trans (Dev.put_glDue d _ _)
@[simp] theorem Dev.stamp_fbDue (a : Nat) : (d.stamp a).fbDue = d.fbDue := ((Dev.put_fbDue _ _ _).trans (Dev.put_fbDue _ _ _)).trans (Dev.put_fbDue d _ _)
@[simp] theorem Dev.stamp_prisms (a : Nat) : (d.stamp a).prisms = d.prisms := ((Dev.put_prisms _ _ _).trans (Dev.put_prisms _ _ _)).trans (Dev.put_prisms d _ _)
@[simp] theorem Dev.stamp_fbs (a : Nat) : (d.stamp a).fbs = d.fbs := ((Dev.put_fbs _ _ _).trans (Dev.put_fbs _ _ _)).trans (Dev.put_fbs d _ _)
@[simp] theorem Dev.stamp_dist (a : Nat) : (d.stamp a).dist = d.dist := ((Dev.put_dist _ _ _).trans (Dev.put_dist _ _ _)).trans (Dev.put_dist d _ _)
@[simp] theorem Dev.stamp_traces (a : Nat) : (d.stamp a).traces = d.traces := ((Dev.put_traces _ _ _).trans (Dev.put_traces _ _ _)).trans (Dev.put_traces d _ _)
@[simp] theorem Dev.stamp_tickAt (a : Nat) : (d.stamp a).tickAt = d.tickAt := ((Dev.put_tickAt _ _ _).trans (Dev.put_tickAt _ _ _)).trans (Dev.put_tickAt d _ _)
@[simp] theorem Dev.stamp_ticks (a : Nat) : (d.stamp a).ticks = d.ticks := ((Dev.put_ticks _ _ _).trans (Dev.put_ticks _ _ _)).trans (Dev.put_ticks d _ _)
@[simp] theorem Dev.stamp_emptied (a : Nat) : (d.stamp a).emptied = d.emptied := ((Dev.put_emptied _ _ _).trans (Dev.put_emptied _ _ _)).trans (Dev.put_emptied d _ _)
@[simp] theorem Dev.stamp_secAt (a : Nat) : (d.stamp a).secAt = d.secAt := ((Dev.put_secAt _ _ _).trans (Dev.put_secAt _ _ _)).trans (Dev.put_secAt d _ _)
@[simp] theorem Dev.stamp_recq (a : Nat) : (d.stamp a).recq = d.recq := ((Dev.put_recq _ _ _).trans (Dev.put_recq _ _ _)).trans (Dev.put_recq d _ _)
@[simp] theorem Dev.stamp_mbxIn (a : Nat) : (d.stamp a).mbxIn = d.mbxIn := ((Dev.put_mbxIn _ _ _).trans (Dev.put_mbxIn _ _ _)).trans (Dev.put_mbxIn d _ _)
@[simp] theorem Dev.stamp_mbxAt (a : Nat) : (d.stamp a).mbxAt = d.mbxAt := ((Dev.put_mbxAt _ _ _).trans (Dev.put_mbxAt _ _ _)).trans (Dev.put_mbxAt d _ _)
@[simp] theorem Dev.stamp_cplAt (a : Nat) : (d.stamp a).cplAt = d.cplAt := ((Dev.put_cplAt _ _ _).trans (Dev.put_cplAt _ _ _)).trans (Dev.put_cplAt d _ _)
@[simp] theorem Dev.stamp_cplQt (a : Nat) : (d.stamp a).cplQt = d.cplQt := ((Dev.put_cplQt _ _ _).trans (Dev.put_cplQt _ _ _)).trans (Dev.put_cplQt d _ _)
@[simp] theorem Dev.stamp_cplEdge (a : Nat) : (d.stamp a).cplEdge = d.cplEdge := ((Dev.put_cplEdge _ _ _).trans (Dev.put_cplEdge _ _ _)).trans (Dev.put_cplEdge d _ _)
@[simp] theorem Dev.stamp_cplFrom (a : Nat) : (d.stamp a).cplFrom = d.cplFrom := ((Dev.put_cplFrom _ _ _).trans (Dev.put_cplFrom _ _ _)).trans (Dev.put_cplFrom d _ _)
@[simp] theorem Dev.stamp_cplDone (a : Nat) : (d.stamp a).cplDone = d.cplDone := ((Dev.put_cplDone _ _ _).trans (Dev.put_cplDone _ _ _)).trans (Dev.put_cplDone d _ _)
@[simp] theorem Dev.stamp_loader (a : Nat) : (d.stamp a).loader = d.loader := ((Dev.put_loader _ _ _).trans (Dev.put_loader _ _ _)).trans (Dev.put_loader d _ _)
@[simp] theorem Dev.stamp_ports (a : Nat) : (d.stamp a).ports = d.ports := ((Dev.put_ports _ _ _).trans (Dev.put_ports _ _ _)).trans (Dev.put_ports d _ _)
@[simp] theorem Dev.stamp_mem (a : Nat) : (d.stamp a).mem = d.mem := ((Dev.put_mem _ _ _).trans (Dev.put_mem _ _ _)).trans (Dev.put_mem d _ _)
@[simp] theorem Dev.stamp_mirror (a : Nat) : (d.stamp a).mirror = d.mirror := ((Dev.put_mirror _ _ _).trans (Dev.put_mirror _ _ _)).trans (Dev.put_mirror d _ _)
@[simp] theorem Dev.stamp_therm (a : Nat) : (d.stamp a).therm = d.therm := ((Dev.put_therm _ _ _).trans (Dev.put_therm _ _ _)).trans (Dev.put_therm d _ _)
@[simp] theorem Dev.stamp_thermAt (a : Nat) : (d.stamp a).thermAt = d.thermAt := ((Dev.put_thermAt _ _ _).trans (Dev.put_thermAt _ _ _)).trans (Dev.put_thermAt d _ _)
@[simp] theorem Dev.stamp_power (a : Nat) : (d.stamp a).power = d.power := ((Dev.put_power _ _ _).trans (Dev.put_power _ _ _)).trans (Dev.put_power d _ _)
@[simp] theorem Dev.stamp_bist (a : Nat) : (d.stamp a).bist = d.bist := ((Dev.put_bist _ _ _).trans (Dev.put_bist _ _ _)).trans (Dev.put_bist d _ _)
@[simp] theorem Dev.stamp_tap (a : Nat) : (d.stamp a).tap = d.tap := ((Dev.put_tap _ _ _).trans (Dev.put_tap _ _ _)).trans (Dev.put_tap d _ _)
@[simp] theorem Dev.stamp_scan (a : Nat) : (d.stamp a).scan = d.scan := ((Dev.put_scan _ _ _).trans (Dev.put_scan _ _ _)).trans (Dev.put_scan d _ _)
@[simp] theorem Dev.stamp_lc (a : Nat) : (d.stamp a).lc = d.lc := ((Dev.put_lc _ _ _).trans (Dev.put_lc _ _ _)).trans (Dev.put_lc d _ _)
@[simp] theorem Dev.stamp_ev (a : Nat) : (d.stamp a).ev = d.ev := ((Dev.put_ev _ _ _).trans (Dev.put_ev _ _ _)).trans (Dev.put_ev d _ _)
@[simp] theorem Dev.stamp_pend (a : Nat) : (d.stamp a).pend = d.pend := ((Dev.put_pend _ _ _).trans (Dev.put_pend _ _ _)).trans (Dev.put_pend d _ _)
@[simp] theorem Dev.stamp_ppend (a : Nat) : (d.stamp a).ppend = d.ppend := ((Dev.put_ppend _ _ _).trans (Dev.put_ppend _ _ _)).trans (Dev.put_ppend d _ _)
@[simp] theorem Dev.stamp_ueAt (a : Nat) : (d.stamp a).ueAt = d.ueAt := ((Dev.put_ueAt _ _ _).trans (Dev.put_ueAt _ _ _)).trans (Dev.put_ueAt d _ _)
@[simp] theorem Dev.stamp_faultAt (a : Nat) : (d.stamp a).faultAt = d.faultAt := ((Dev.put_faultAt _ _ _).trans (Dev.put_faultAt _ _ _)).trans (Dev.put_faultAt d _ _)
@[simp] theorem Dev.stamp_scrubPos (a : Nat) : (d.stamp a).scrubPos = d.scrubPos := ((Dev.put_scrubPos _ _ _).trans (Dev.put_scrubPos _ _ _)).trans (Dev.put_scrubPos d _ _)
@[simp] theorem Dev.stamp_scrubCe (a : Nat) : (d.stamp a).scrubCe = d.scrubCe := ((Dev.put_scrubCe _ _ _).trans (Dev.put_scrubCe _ _ _)).trans (Dev.put_scrubCe d _ _)
@[simp] theorem Dev.stamp_scrubRaised (a : Nat) : (d.stamp a).scrubRaised = d.scrubRaised := ((Dev.put_scrubRaised _ _ _).trans (Dev.put_scrubRaised _ _ _)).trans (Dev.put_scrubRaised d _ _)
@[simp] theorem Dev.stamp_backs (a : Nat) : (d.stamp a).backs = d.backs := ((Dev.put_backs _ _ _).trans (Dev.put_backs _ _ _)).trans (Dev.put_backs d _ _)
@[simp] theorem Dev.stamp_free (a : Nat) : (d.stamp a).free = d.free := ((Dev.put_free _ _ _).trans (Dev.put_free _ _ _)).trans (Dev.put_free d _ _)
@[simp] theorem Dev.stamp_runs (a : Nat) : (d.stamp a).runs = d.runs := ((Dev.put_runs _ _ _).trans (Dev.put_runs _ _ _)).trans (Dev.put_runs d _ _)
@[simp] theorem Dev.stamp_time (a : Nat) : (d.stamp a).time = d.time := ((Dev.put_time _ _ _).trans (Dev.put_time _ _ _)).trans (Dev.put_time d _ _)
@[simp] theorem Dev.stamp_sub (a : Nat) : (d.stamp a).sub = d.sub := ((Dev.put_sub _ _ _).trans (Dev.put_sub _ _ _)).trans (Dev.put_sub d _ _)
@[simp] theorem Dev.stamp_micros (a : Nat) : (d.stamp a).micros = d.micros := ((Dev.put_micros _ _ _).trans (Dev.put_micros _ _ _)).trans (Dev.put_micros d _ _)
@[simp] theorem Dev.stamp_mot (a : Nat) (x : MotorIx) : (d.stamp a).mot x = d.mot x := ((Dev.put_mot _ _ _ x).trans (Dev.put_mot _ _ _ x)).trans (Dev.put_mot d _ _ x)
@[simp] theorem Dev.stamp_grp (a : Nat) (x : GroupIx) : (d.stamp a).grp x = d.grp x := ((Dev.put_grp _ _ _ x).trans (Dev.put_grp _ _ _ x)).trans (Dev.put_grp d _ _ x)
@[simp] theorem Dev.stamp_brg (a : Nat) (x : BridgeIx) : (d.stamp a).brg x = d.brg x := ((Dev.put_brg _ _ _ x).trans (Dev.put_brg _ _ _ x)).trans (Dev.put_brg d _ _ x)
@[simp] theorem Dev.stamp_die (a : Nat) (x : GroupIx) : (d.stamp a).die x = d.die x := ((Dev.put_die _ _ _ x).trans (Dev.put_die _ _ _ x)).trans (Dev.put_die d _ _ x)
@[simp] theorem Dev.stamp_prm (a : Nat) (x : GroupIx) : (d.stamp a).prm x = d.prm x := ((Dev.put_prm _ _ _ x).trans (Dev.put_prm _ _ _ x)).trans (Dev.put_prm d _ _ x)
@[simp] theorem Dev.stamp_fb (a : Nat) (x : ChanIx) : (d.stamp a).fb x = d.fb x := ((Dev.put_fb _ _ _ x).trans (Dev.put_fb _ _ _ x)).trans (Dev.put_fb d _ _ x)
@[simp] theorem Dev.stamp_trc (a : Nat) (x : TraceIx) : (d.stamp a).trc x = d.trc x := ((Dev.put_trc _ _ _ x).trans (Dev.put_trc _ _ _ x)).trans (Dev.put_trc d _ _ x)
@[simp] theorem Dev.stamp_hp (a : Nat) (x : HostIx) : (d.stamp a).hp x = d.hp x := ((Dev.put_hp _ _ _ x).trans (Dev.put_hp _ _ _ x)).trans (Dev.put_hp d _ _ x)
@[simp] theorem Dev.stamp_sen (a : Nat) (x : SensorIx) : (d.stamp a).sen x = d.sen x := ((Dev.put_sen _ _ _ x).trans (Dev.put_sen _ _ _ x)).trans (Dev.put_sen d _ _ x)
@[simp] theorem Dev.stamp_iw (a : Nat) (y : Nat) : (d.stamp a).iw y = d.iw y := ((Dev.put_iw _ _ _ y).trans (Dev.put_iw _ _ _ y)).trans (Dev.put_iw d _ _ y)
@[simp] theorem Dev.stamp_ibit (a : Nat) (y j : Nat) : (d.stamp a).ibit y j = d.ibit y j := ((Dev.put_ibit _ _ _ y j).trans (Dev.put_ibit _ _ _ y j)).trans (Dev.put_ibit d _ _ y j)
@[simp] theorem Dev.stamp_ifld (a : Nat) (y h l : Nat) : (d.stamp a).ifld y h l = d.ifld y h l := ((Dev.put_ifld _ _ _ y h l).trans (Dev.put_ifld _ _ _ y h l)).trans (Dev.put_ifld d _ _ y h l)
@[simp] theorem Dev.stamp_iuw (a : Nat) (y : Nat) : (d.stamp a).iuw y = d.iuw y := ((Dev.put_iuw _ _ _ y).trans (Dev.put_iuw _ _ _ y)).trans (Dev.put_iuw d _ _ y)
@[simp] theorem Dev.stamp_isw (a : Nat) (y : Nat) : (d.stamp a).isw y = d.isw y := ((Dev.put_isw _ _ _ y).trans (Dev.put_isw _ _ _ y)).trans (Dev.put_isw d _ _ y)

@[simp] theorem Dev.stampTime_part (a : Nat) : (d.stampTime a).part = d.part := Dev.put32_part d _ _
@[simp] theorem Dev.stampTime_rev (a : Nat) : (d.stampTime a).rev = d.rev := Dev.put32_rev d _ _
@[simp] theorem Dev.stampTime_fuses (a : Nat) : (d.stampTime a).fuses = d.fuses := Dev.put32_fuses d _ _
@[simp] theorem Dev.stampTime_devLog (a : Nat) : (d.stampTime a).devLog = d.devLog := Dev.put32_devLog d _ _
@[simp] theorem Dev.stampTime_store (a : Nat) : (d.stampTime a).store = d.store := Dev.put32_store d _ _
@[simp] theorem Dev.stampTime_marks (a : Nat) : (d.stampTime a).marks = d.marks := Dev.put32_marks d _ _
@[simp] theorem Dev.stampTime_tested (a : Nat) : (d.stampTime a).tested = d.tested := Dev.put32_tested d _ _
@[simp] theorem Dev.stampTime_logWrote (a : Nat) : (d.stampTime a).logWrote = d.logWrote := Dev.put32_logWrote d _ _
@[simp] theorem Dev.stampTime_resetN (a : Nat) : (d.stampTime a).resetN = d.resetN := Dev.put32_resetN d _ _
@[simp] theorem Dev.stampTime_locked (a : Nat) : (d.stampTime a).locked = d.locked := Dev.put32_locked d _ _
@[simp] theorem Dev.stampTime_everLock (a : Nat) : (d.stampTime a).everLock = d.everLock := Dev.put32_everLock d _ _
@[simp] theorem Dev.stampTime_heldOff (a : Nat) : (d.stampTime a).heldOff = d.heldOff := Dev.put32_heldOff d _ _
@[simp] theorem Dev.stampTime_cycles (a : Nat) : (d.stampTime a).cycles = d.cycles := Dev.put32_cycles d _ _
@[simp] theorem Dev.stampTime_inForce (a : Nat) : (d.stampTime a).inForce = d.inForce := Dev.put32_inForce d _ _
@[simp] theorem Dev.stampTime_latches (a : Nat) : (d.stampTime a).latches = d.latches := Dev.put32_latches d _ _
@[simp] theorem Dev.stampTime_fab (a : Nat) : (d.stampTime a).fab = d.fab := Dev.put32_fab d _ _
@[simp] theorem Dev.stampTime_cyc0 (a : Nat) : (d.stampTime a).cyc0 = d.cyc0 := Dev.put32_cyc0 d _ _
@[simp] theorem Dev.stampTime_fresh (a : Nat) : (d.stampTime a).fresh = d.fresh := Dev.put32_fresh d _ _
@[simp] theorem Dev.stampTime_freshEv (a : Nat) : (d.stampTime a).freshEv = d.freshEv := Dev.put32_freshEv d _ _
@[simp] theorem Dev.stampTime_evLate (a : Nat) : (d.stampTime a).evLate = d.evLate := Dev.put32_evLate d _ _
@[simp] theorem Dev.stampTime_closeLate (a : Nat) : (d.stampTime a).closeLate = d.closeLate := Dev.put32_closeLate d _ _
@[simp] theorem Dev.stampTime_motors (a : Nat) : (d.stampTime a).motors = d.motors := Dev.put32_motors d _ _
@[simp] theorem Dev.stampTime_groups (a : Nat) : (d.stampTime a).groups = d.groups := Dev.put32_groups d _ _
@[simp] theorem Dev.stampTime_bridges (a : Nat) : (d.stampTime a).bridges = d.bridges := Dev.put32_bridges d _ _
@[simp] theorem Dev.stampTime_dies (a : Nat) : (d.stampTime a).dies = d.dies := Dev.put32_dies d _ _
@[simp] theorem Dev.stampTime_reports (a : Nat) : (d.stampTime a).reports = d.reports := Dev.put32_reports d _ _
@[simp] theorem Dev.stampTime_seqAt (a : Nat) : (d.stampTime a).seqAt = d.seqAt := Dev.put32_seqAt d _ _
@[simp] theorem Dev.stampTime_busDue (a : Nat) : (d.stampTime a).busDue = d.busDue := Dev.put32_busDue d _ _
@[simp] theorem Dev.stampTime_glDue (a : Nat) : (d.stampTime a).glDue = d.glDue := Dev.put32_glDue d _ _
@[simp] theorem Dev.stampTime_fbDue (a : Nat) : (d.stampTime a).fbDue = d.fbDue := Dev.put32_fbDue d _ _
@[simp] theorem Dev.stampTime_prisms (a : Nat) : (d.stampTime a).prisms = d.prisms := Dev.put32_prisms d _ _
@[simp] theorem Dev.stampTime_fbs (a : Nat) : (d.stampTime a).fbs = d.fbs := Dev.put32_fbs d _ _
@[simp] theorem Dev.stampTime_dist (a : Nat) : (d.stampTime a).dist = d.dist := Dev.put32_dist d _ _
@[simp] theorem Dev.stampTime_traces (a : Nat) : (d.stampTime a).traces = d.traces := Dev.put32_traces d _ _
@[simp] theorem Dev.stampTime_tickAt (a : Nat) : (d.stampTime a).tickAt = d.tickAt := Dev.put32_tickAt d _ _
@[simp] theorem Dev.stampTime_ticks (a : Nat) : (d.stampTime a).ticks = d.ticks := Dev.put32_ticks d _ _
@[simp] theorem Dev.stampTime_emptied (a : Nat) : (d.stampTime a).emptied = d.emptied := Dev.put32_emptied d _ _
@[simp] theorem Dev.stampTime_secAt (a : Nat) : (d.stampTime a).secAt = d.secAt := Dev.put32_secAt d _ _
@[simp] theorem Dev.stampTime_recq (a : Nat) : (d.stampTime a).recq = d.recq := Dev.put32_recq d _ _
@[simp] theorem Dev.stampTime_mbxIn (a : Nat) : (d.stampTime a).mbxIn = d.mbxIn := Dev.put32_mbxIn d _ _
@[simp] theorem Dev.stampTime_mbxAt (a : Nat) : (d.stampTime a).mbxAt = d.mbxAt := Dev.put32_mbxAt d _ _
@[simp] theorem Dev.stampTime_cplAt (a : Nat) : (d.stampTime a).cplAt = d.cplAt := Dev.put32_cplAt d _ _
@[simp] theorem Dev.stampTime_cplQt (a : Nat) : (d.stampTime a).cplQt = d.cplQt := Dev.put32_cplQt d _ _
@[simp] theorem Dev.stampTime_cplEdge (a : Nat) : (d.stampTime a).cplEdge = d.cplEdge := Dev.put32_cplEdge d _ _
@[simp] theorem Dev.stampTime_cplFrom (a : Nat) : (d.stampTime a).cplFrom = d.cplFrom := Dev.put32_cplFrom d _ _
@[simp] theorem Dev.stampTime_cplDone (a : Nat) : (d.stampTime a).cplDone = d.cplDone := Dev.put32_cplDone d _ _
@[simp] theorem Dev.stampTime_loader (a : Nat) : (d.stampTime a).loader = d.loader := Dev.put32_loader d _ _
@[simp] theorem Dev.stampTime_ports (a : Nat) : (d.stampTime a).ports = d.ports := Dev.put32_ports d _ _
@[simp] theorem Dev.stampTime_mem (a : Nat) : (d.stampTime a).mem = d.mem := Dev.put32_mem d _ _
@[simp] theorem Dev.stampTime_mirror (a : Nat) : (d.stampTime a).mirror = d.mirror := Dev.put32_mirror d _ _
@[simp] theorem Dev.stampTime_therm (a : Nat) : (d.stampTime a).therm = d.therm := Dev.put32_therm d _ _
@[simp] theorem Dev.stampTime_thermAt (a : Nat) : (d.stampTime a).thermAt = d.thermAt := Dev.put32_thermAt d _ _
@[simp] theorem Dev.stampTime_power (a : Nat) : (d.stampTime a).power = d.power := Dev.put32_power d _ _
@[simp] theorem Dev.stampTime_bist (a : Nat) : (d.stampTime a).bist = d.bist := Dev.put32_bist d _ _
@[simp] theorem Dev.stampTime_tap (a : Nat) : (d.stampTime a).tap = d.tap := Dev.put32_tap d _ _
@[simp] theorem Dev.stampTime_scan (a : Nat) : (d.stampTime a).scan = d.scan := Dev.put32_scan d _ _
@[simp] theorem Dev.stampTime_lc (a : Nat) : (d.stampTime a).lc = d.lc := Dev.put32_lc d _ _
@[simp] theorem Dev.stampTime_ev (a : Nat) : (d.stampTime a).ev = d.ev := Dev.put32_ev d _ _
@[simp] theorem Dev.stampTime_pend (a : Nat) : (d.stampTime a).pend = d.pend := Dev.put32_pend d _ _
@[simp] theorem Dev.stampTime_ppend (a : Nat) : (d.stampTime a).ppend = d.ppend := Dev.put32_ppend d _ _
@[simp] theorem Dev.stampTime_ueAt (a : Nat) : (d.stampTime a).ueAt = d.ueAt := Dev.put32_ueAt d _ _
@[simp] theorem Dev.stampTime_faultAt (a : Nat) : (d.stampTime a).faultAt = d.faultAt := Dev.put32_faultAt d _ _
@[simp] theorem Dev.stampTime_scrubPos (a : Nat) : (d.stampTime a).scrubPos = d.scrubPos := Dev.put32_scrubPos d _ _
@[simp] theorem Dev.stampTime_scrubCe (a : Nat) : (d.stampTime a).scrubCe = d.scrubCe := Dev.put32_scrubCe d _ _
@[simp] theorem Dev.stampTime_scrubRaised (a : Nat) : (d.stampTime a).scrubRaised = d.scrubRaised := Dev.put32_scrubRaised d _ _
@[simp] theorem Dev.stampTime_backs (a : Nat) : (d.stampTime a).backs = d.backs := Dev.put32_backs d _ _
@[simp] theorem Dev.stampTime_free (a : Nat) : (d.stampTime a).free = d.free := Dev.put32_free d _ _
@[simp] theorem Dev.stampTime_runs (a : Nat) : (d.stampTime a).runs = d.runs := Dev.put32_runs d _ _
@[simp] theorem Dev.stampTime_time (a : Nat) : (d.stampTime a).time = d.time := Dev.put32_time d _ _
@[simp] theorem Dev.stampTime_sub (a : Nat) : (d.stampTime a).sub = d.sub := Dev.put32_sub d _ _
@[simp] theorem Dev.stampTime_micros (a : Nat) : (d.stampTime a).micros = d.micros := Dev.put32_micros d _ _
@[simp] theorem Dev.stampTime_mot (a : Nat) (x : MotorIx) : (d.stampTime a).mot x = d.mot x := Dev.put32_mot d _ _ x
@[simp] theorem Dev.stampTime_grp (a : Nat) (x : GroupIx) : (d.stampTime a).grp x = d.grp x := Dev.put32_grp d _ _ x
@[simp] theorem Dev.stampTime_brg (a : Nat) (x : BridgeIx) : (d.stampTime a).brg x = d.brg x := Dev.put32_brg d _ _ x
@[simp] theorem Dev.stampTime_die (a : Nat) (x : GroupIx) : (d.stampTime a).die x = d.die x := Dev.put32_die d _ _ x
@[simp] theorem Dev.stampTime_prm (a : Nat) (x : GroupIx) : (d.stampTime a).prm x = d.prm x := Dev.put32_prm d _ _ x
@[simp] theorem Dev.stampTime_fb (a : Nat) (x : ChanIx) : (d.stampTime a).fb x = d.fb x := Dev.put32_fb d _ _ x
@[simp] theorem Dev.stampTime_trc (a : Nat) (x : TraceIx) : (d.stampTime a).trc x = d.trc x := Dev.put32_trc d _ _ x
@[simp] theorem Dev.stampTime_hp (a : Nat) (x : HostIx) : (d.stampTime a).hp x = d.hp x := Dev.put32_hp d _ _ x
@[simp] theorem Dev.stampTime_sen (a : Nat) (x : SensorIx) : (d.stampTime a).sen x = d.sen x := Dev.put32_sen d _ _ x
@[simp] theorem Dev.stampTime_iw (a : Nat) (y : Nat) : (d.stampTime a).iw y = d.iw y := Dev.put32_iw d _ _ y
@[simp] theorem Dev.stampTime_ibit (a : Nat) (y j : Nat) : (d.stampTime a).ibit y j = d.ibit y j := Dev.put32_ibit d _ _ y j
@[simp] theorem Dev.stampTime_ifld (a : Nat) (y h l : Nat) : (d.stampTime a).ifld y h l = d.ifld y h l := Dev.put32_ifld d _ _ y h l
@[simp] theorem Dev.stampTime_iuw (a : Nat) (y : Nat) : (d.stampTime a).iuw y = d.iuw y := Dev.put32_iuw d _ _ y
@[simp] theorem Dev.stampTime_isw (a : Nat) (y : Nat) : (d.stampTime a).isw y = d.isw y := Dev.put32_isw d _ _ y

@[simp] theorem Dev.resetRange_part (lo hi : Nat) : (d.resetRange lo hi).part = d.part := rfl
@[simp] theorem Dev.resetRange_rev (lo hi : Nat) : (d.resetRange lo hi).rev = d.rev := rfl
@[simp] theorem Dev.resetRange_fuses (lo hi : Nat) : (d.resetRange lo hi).fuses = d.fuses := rfl
@[simp] theorem Dev.resetRange_devLog (lo hi : Nat) : (d.resetRange lo hi).devLog = d.devLog := rfl
@[simp] theorem Dev.resetRange_store (lo hi : Nat) : (d.resetRange lo hi).store = d.store := rfl
@[simp] theorem Dev.resetRange_marks (lo hi : Nat) : (d.resetRange lo hi).marks = d.marks := rfl
@[simp] theorem Dev.resetRange_tested (lo hi : Nat) : (d.resetRange lo hi).tested = d.tested := rfl
@[simp] theorem Dev.resetRange_logWrote (lo hi : Nat) : (d.resetRange lo hi).logWrote = d.logWrote := rfl
@[simp] theorem Dev.resetRange_resetN (lo hi : Nat) : (d.resetRange lo hi).resetN = d.resetN := rfl
@[simp] theorem Dev.resetRange_locked (lo hi : Nat) : (d.resetRange lo hi).locked = d.locked := rfl
@[simp] theorem Dev.resetRange_everLock (lo hi : Nat) : (d.resetRange lo hi).everLock = d.everLock := rfl
@[simp] theorem Dev.resetRange_heldOff (lo hi : Nat) : (d.resetRange lo hi).heldOff = d.heldOff := rfl
@[simp] theorem Dev.resetRange_cycles (lo hi : Nat) : (d.resetRange lo hi).cycles = d.cycles := rfl
@[simp] theorem Dev.resetRange_inForce (lo hi : Nat) : (d.resetRange lo hi).inForce = d.inForce := rfl
@[simp] theorem Dev.resetRange_latches (lo hi : Nat) : (d.resetRange lo hi).latches = d.latches := rfl
@[simp] theorem Dev.resetRange_fab (lo hi : Nat) : (d.resetRange lo hi).fab = d.fab := rfl
@[simp] theorem Dev.resetRange_cyc0 (lo hi : Nat) : (d.resetRange lo hi).cyc0 = d.cyc0 := rfl
@[simp] theorem Dev.resetRange_fresh (lo hi : Nat) : (d.resetRange lo hi).fresh = d.fresh := rfl
@[simp] theorem Dev.resetRange_freshEv (lo hi : Nat) : (d.resetRange lo hi).freshEv = d.freshEv := rfl
@[simp] theorem Dev.resetRange_evLate (lo hi : Nat) : (d.resetRange lo hi).evLate = d.evLate := rfl
@[simp] theorem Dev.resetRange_closeLate (lo hi : Nat) : (d.resetRange lo hi).closeLate = d.closeLate := rfl
@[simp] theorem Dev.resetRange_motors (lo hi : Nat) : (d.resetRange lo hi).motors = d.motors := rfl
@[simp] theorem Dev.resetRange_groups (lo hi : Nat) : (d.resetRange lo hi).groups = d.groups := rfl
@[simp] theorem Dev.resetRange_bridges (lo hi : Nat) : (d.resetRange lo hi).bridges = d.bridges := rfl
@[simp] theorem Dev.resetRange_dies (lo hi : Nat) : (d.resetRange lo hi).dies = d.dies := rfl
@[simp] theorem Dev.resetRange_reports (lo hi : Nat) : (d.resetRange lo hi).reports = d.reports := rfl
@[simp] theorem Dev.resetRange_seqAt (lo hi : Nat) : (d.resetRange lo hi).seqAt = d.seqAt := rfl
@[simp] theorem Dev.resetRange_busDue (lo hi : Nat) : (d.resetRange lo hi).busDue = d.busDue := rfl
@[simp] theorem Dev.resetRange_glDue (lo hi : Nat) : (d.resetRange lo hi).glDue = d.glDue := rfl
@[simp] theorem Dev.resetRange_fbDue (lo hi : Nat) : (d.resetRange lo hi).fbDue = d.fbDue := rfl
@[simp] theorem Dev.resetRange_prisms (lo hi : Nat) : (d.resetRange lo hi).prisms = d.prisms := rfl
@[simp] theorem Dev.resetRange_fbs (lo hi : Nat) : (d.resetRange lo hi).fbs = d.fbs := rfl
@[simp] theorem Dev.resetRange_dist (lo hi : Nat) : (d.resetRange lo hi).dist = d.dist := rfl
@[simp] theorem Dev.resetRange_traces (lo hi : Nat) : (d.resetRange lo hi).traces = d.traces := rfl
@[simp] theorem Dev.resetRange_tickAt (lo hi : Nat) : (d.resetRange lo hi).tickAt = d.tickAt := rfl
@[simp] theorem Dev.resetRange_ticks (lo hi : Nat) : (d.resetRange lo hi).ticks = d.ticks := rfl
@[simp] theorem Dev.resetRange_emptied (lo hi : Nat) : (d.resetRange lo hi).emptied = d.emptied := rfl
@[simp] theorem Dev.resetRange_secAt (lo hi : Nat) : (d.resetRange lo hi).secAt = d.secAt := rfl
@[simp] theorem Dev.resetRange_recq (lo hi : Nat) : (d.resetRange lo hi).recq = d.recq := rfl
@[simp] theorem Dev.resetRange_mbxIn (lo hi : Nat) : (d.resetRange lo hi).mbxIn = d.mbxIn := rfl
@[simp] theorem Dev.resetRange_mbxAt (lo hi : Nat) : (d.resetRange lo hi).mbxAt = d.mbxAt := rfl
@[simp] theorem Dev.resetRange_cplAt (lo hi : Nat) : (d.resetRange lo hi).cplAt = d.cplAt := rfl
@[simp] theorem Dev.resetRange_cplQt (lo hi : Nat) : (d.resetRange lo hi).cplQt = d.cplQt := rfl
@[simp] theorem Dev.resetRange_cplEdge (lo hi : Nat) : (d.resetRange lo hi).cplEdge = d.cplEdge := rfl
@[simp] theorem Dev.resetRange_cplFrom (lo hi : Nat) : (d.resetRange lo hi).cplFrom = d.cplFrom := rfl
@[simp] theorem Dev.resetRange_cplDone (lo hi : Nat) : (d.resetRange lo hi).cplDone = d.cplDone := rfl
@[simp] theorem Dev.resetRange_loader (lo hi : Nat) : (d.resetRange lo hi).loader = d.loader := rfl
@[simp] theorem Dev.resetRange_ports (lo hi : Nat) : (d.resetRange lo hi).ports = d.ports := rfl
@[simp] theorem Dev.resetRange_mem (lo hi : Nat) : (d.resetRange lo hi).mem = d.mem := rfl
@[simp] theorem Dev.resetRange_mirror (lo hi : Nat) : (d.resetRange lo hi).mirror = d.mirror := rfl
@[simp] theorem Dev.resetRange_therm (lo hi : Nat) : (d.resetRange lo hi).therm = d.therm := rfl
@[simp] theorem Dev.resetRange_thermAt (lo hi : Nat) : (d.resetRange lo hi).thermAt = d.thermAt := rfl
@[simp] theorem Dev.resetRange_power (lo hi : Nat) : (d.resetRange lo hi).power = d.power := rfl
@[simp] theorem Dev.resetRange_bist (lo hi : Nat) : (d.resetRange lo hi).bist = d.bist := rfl
@[simp] theorem Dev.resetRange_tap (lo hi : Nat) : (d.resetRange lo hi).tap = d.tap := rfl
@[simp] theorem Dev.resetRange_scan (lo hi : Nat) : (d.resetRange lo hi).scan = d.scan := rfl
@[simp] theorem Dev.resetRange_lc (lo hi : Nat) : (d.resetRange lo hi).lc = d.lc := rfl
@[simp] theorem Dev.resetRange_ev (lo hi : Nat) : (d.resetRange lo hi).ev = d.ev := rfl
@[simp] theorem Dev.resetRange_pend (lo hi : Nat) : (d.resetRange lo hi).pend = d.pend := rfl
@[simp] theorem Dev.resetRange_ppend (lo hi : Nat) : (d.resetRange lo hi).ppend = d.ppend := rfl
@[simp] theorem Dev.resetRange_ueAt (lo hi : Nat) : (d.resetRange lo hi).ueAt = d.ueAt := rfl
@[simp] theorem Dev.resetRange_faultAt (lo hi : Nat) : (d.resetRange lo hi).faultAt = d.faultAt := rfl
@[simp] theorem Dev.resetRange_scrubPos (lo hi : Nat) : (d.resetRange lo hi).scrubPos = d.scrubPos := rfl
@[simp] theorem Dev.resetRange_scrubCe (lo hi : Nat) : (d.resetRange lo hi).scrubCe = d.scrubCe := rfl
@[simp] theorem Dev.resetRange_scrubRaised (lo hi : Nat) : (d.resetRange lo hi).scrubRaised = d.scrubRaised := rfl
@[simp] theorem Dev.resetRange_backs (lo hi : Nat) : (d.resetRange lo hi).backs = d.backs := rfl
@[simp] theorem Dev.resetRange_free (lo hi : Nat) : (d.resetRange lo hi).free = d.free := rfl
@[simp] theorem Dev.resetRange_runs (lo hi : Nat) : (d.resetRange lo hi).runs = d.runs := rfl
@[simp] theorem Dev.resetRange_time (lo hi : Nat) : (d.resetRange lo hi).time = d.time := rfl
@[simp] theorem Dev.resetRange_sub (lo hi : Nat) : (d.resetRange lo hi).sub = d.sub := rfl
@[simp] theorem Dev.resetRange_micros (lo hi : Nat) : (d.resetRange lo hi).micros = d.micros := rfl
@[simp] theorem Dev.resetRange_mot (lo hi : Nat) (x : MotorIx) : (d.resetRange lo hi).mot x = d.mot x := rfl
@[simp] theorem Dev.resetRange_grp (lo hi : Nat) (x : GroupIx) : (d.resetRange lo hi).grp x = d.grp x := rfl
@[simp] theorem Dev.resetRange_brg (lo hi : Nat) (x : BridgeIx) : (d.resetRange lo hi).brg x = d.brg x := rfl
@[simp] theorem Dev.resetRange_die (lo hi : Nat) (x : GroupIx) : (d.resetRange lo hi).die x = d.die x := rfl
@[simp] theorem Dev.resetRange_prm (lo hi : Nat) (x : GroupIx) : (d.resetRange lo hi).prm x = d.prm x := rfl
@[simp] theorem Dev.resetRange_fb (lo hi : Nat) (x : ChanIx) : (d.resetRange lo hi).fb x = d.fb x := rfl
@[simp] theorem Dev.resetRange_trc (lo hi : Nat) (x : TraceIx) : (d.resetRange lo hi).trc x = d.trc x := rfl
@[simp] theorem Dev.resetRange_hp (lo hi : Nat) (x : HostIx) : (d.resetRange lo hi).hp x = d.hp x := rfl
@[simp] theorem Dev.resetRange_sen (lo hi : Nat) (x : SensorIx) : (d.resetRange lo hi).sen x = d.sen x := rfl
@[simp] theorem Dev.resetRange_iw (lo hi : Nat) (y : Nat) : (d.resetRange lo hi).iw y = d.iw y := rfl
@[simp] theorem Dev.resetRange_ibit (lo hi : Nat) (y j : Nat) : (d.resetRange lo hi).ibit y j = d.ibit y j := rfl
@[simp] theorem Dev.resetRange_ifld (lo hi : Nat) (y h l : Nat) : (d.resetRange lo hi).ifld y h l = d.ifld y h l := rfl
@[simp] theorem Dev.resetRange_iuw (lo hi : Nat) (y : Nat) : (d.resetRange lo hi).iuw y = d.iuw y := rfl
@[simp] theorem Dev.resetRange_isw (lo hi : Nat) (y : Nat) : (d.resetRange lo hi).isw y = d.isw y := rfl

/-! ### Updates of one record -/

@[simp] theorem Dev.onMot_part (m : MotorIx) (f : Motor → Motor) : (d.onMot m f).part = d.part := rfl
@[simp] theorem Dev.onMot_rev (m : MotorIx) (f : Motor → Motor) : (d.onMot m f).rev = d.rev := rfl
@[simp] theorem Dev.onMot_fuses (m : MotorIx) (f : Motor → Motor) : (d.onMot m f).fuses = d.fuses := rfl
@[simp] theorem Dev.onMot_devLog (m : MotorIx) (f : Motor → Motor) : (d.onMot m f).devLog = d.devLog := rfl
@[simp] theorem Dev.onMot_store (m : MotorIx) (f : Motor → Motor) : (d.onMot m f).store = d.store := rfl
@[simp] theorem Dev.onMot_marks (m : MotorIx) (f : Motor → Motor) : (d.onMot m f).marks = d.marks := rfl
@[simp] theorem Dev.onMot_tested (m : MotorIx) (f : Motor → Motor) : (d.onMot m f).tested = d.tested := rfl
@[simp] theorem Dev.onMot_logWrote (m : MotorIx) (f : Motor → Motor) : (d.onMot m f).logWrote = d.logWrote := rfl
@[simp] theorem Dev.onMot_resetN (m : MotorIx) (f : Motor → Motor) : (d.onMot m f).resetN = d.resetN := rfl
@[simp] theorem Dev.onMot_locked (m : MotorIx) (f : Motor → Motor) : (d.onMot m f).locked = d.locked := rfl
@[simp] theorem Dev.onMot_everLock (m : MotorIx) (f : Motor → Motor) : (d.onMot m f).everLock = d.everLock := rfl
@[simp] theorem Dev.onMot_heldOff (m : MotorIx) (f : Motor → Motor) : (d.onMot m f).heldOff = d.heldOff := rfl
@[simp] theorem Dev.onMot_cycles (m : MotorIx) (f : Motor → Motor) : (d.onMot m f).cycles = d.cycles := rfl
@[simp] theorem Dev.onMot_words (m : MotorIx) (f : Motor → Motor) : (d.onMot m f).words = d.words := rfl
@[simp] theorem Dev.onMot_inForce (m : MotorIx) (f : Motor → Motor) : (d.onMot m f).inForce = d.inForce := rfl
@[simp] theorem Dev.onMot_latches (m : MotorIx) (f : Motor → Motor) : (d.onMot m f).latches = d.latches := rfl
@[simp] theorem Dev.onMot_fab (m : MotorIx) (f : Motor → Motor) : (d.onMot m f).fab = d.fab := rfl
@[simp] theorem Dev.onMot_cyc0 (m : MotorIx) (f : Motor → Motor) : (d.onMot m f).cyc0 = d.cyc0 := rfl
@[simp] theorem Dev.onMot_fresh (m : MotorIx) (f : Motor → Motor) : (d.onMot m f).fresh = d.fresh := rfl
@[simp] theorem Dev.onMot_freshEv (m : MotorIx) (f : Motor → Motor) : (d.onMot m f).freshEv = d.freshEv := rfl
@[simp] theorem Dev.onMot_evLate (m : MotorIx) (f : Motor → Motor) : (d.onMot m f).evLate = d.evLate := rfl
@[simp] theorem Dev.onMot_closeLate (m : MotorIx) (f : Motor → Motor) : (d.onMot m f).closeLate = d.closeLate := rfl
@[simp] theorem Dev.onMot_groups (m : MotorIx) (f : Motor → Motor) : (d.onMot m f).groups = d.groups := rfl
@[simp] theorem Dev.onMot_bridges (m : MotorIx) (f : Motor → Motor) : (d.onMot m f).bridges = d.bridges := rfl
@[simp] theorem Dev.onMot_dies (m : MotorIx) (f : Motor → Motor) : (d.onMot m f).dies = d.dies := rfl
@[simp] theorem Dev.onMot_reports (m : MotorIx) (f : Motor → Motor) : (d.onMot m f).reports = d.reports := rfl
@[simp] theorem Dev.onMot_seqAt (m : MotorIx) (f : Motor → Motor) : (d.onMot m f).seqAt = d.seqAt := rfl
@[simp] theorem Dev.onMot_busDue (m : MotorIx) (f : Motor → Motor) : (d.onMot m f).busDue = d.busDue := rfl
@[simp] theorem Dev.onMot_glDue (m : MotorIx) (f : Motor → Motor) : (d.onMot m f).glDue = d.glDue := rfl
@[simp] theorem Dev.onMot_fbDue (m : MotorIx) (f : Motor → Motor) : (d.onMot m f).fbDue = d.fbDue := rfl
@[simp] theorem Dev.onMot_prisms (m : MotorIx) (f : Motor → Motor) : (d.onMot m f).prisms = d.prisms := rfl
@[simp] theorem Dev.onMot_fbs (m : MotorIx) (f : Motor → Motor) : (d.onMot m f).fbs = d.fbs := rfl
@[simp] theorem Dev.onMot_dist (m : MotorIx) (f : Motor → Motor) : (d.onMot m f).dist = d.dist := rfl
@[simp] theorem Dev.onMot_traces (m : MotorIx) (f : Motor → Motor) : (d.onMot m f).traces = d.traces := rfl
@[simp] theorem Dev.onMot_tickAt (m : MotorIx) (f : Motor → Motor) : (d.onMot m f).tickAt = d.tickAt := rfl
@[simp] theorem Dev.onMot_ticks (m : MotorIx) (f : Motor → Motor) : (d.onMot m f).ticks = d.ticks := rfl
@[simp] theorem Dev.onMot_emptied (m : MotorIx) (f : Motor → Motor) : (d.onMot m f).emptied = d.emptied := rfl
@[simp] theorem Dev.onMot_secAt (m : MotorIx) (f : Motor → Motor) : (d.onMot m f).secAt = d.secAt := rfl
@[simp] theorem Dev.onMot_recq (m : MotorIx) (f : Motor → Motor) : (d.onMot m f).recq = d.recq := rfl
@[simp] theorem Dev.onMot_mbxIn (m : MotorIx) (f : Motor → Motor) : (d.onMot m f).mbxIn = d.mbxIn := rfl
@[simp] theorem Dev.onMot_mbxAt (m : MotorIx) (f : Motor → Motor) : (d.onMot m f).mbxAt = d.mbxAt := rfl
@[simp] theorem Dev.onMot_cplAt (m : MotorIx) (f : Motor → Motor) : (d.onMot m f).cplAt = d.cplAt := rfl
@[simp] theorem Dev.onMot_cplQt (m : MotorIx) (f : Motor → Motor) : (d.onMot m f).cplQt = d.cplQt := rfl
@[simp] theorem Dev.onMot_cplEdge (m : MotorIx) (f : Motor → Motor) : (d.onMot m f).cplEdge = d.cplEdge := rfl
@[simp] theorem Dev.onMot_cplFrom (m : MotorIx) (f : Motor → Motor) : (d.onMot m f).cplFrom = d.cplFrom := rfl
@[simp] theorem Dev.onMot_cplDone (m : MotorIx) (f : Motor → Motor) : (d.onMot m f).cplDone = d.cplDone := rfl
@[simp] theorem Dev.onMot_loader (m : MotorIx) (f : Motor → Motor) : (d.onMot m f).loader = d.loader := rfl
@[simp] theorem Dev.onMot_ports (m : MotorIx) (f : Motor → Motor) : (d.onMot m f).ports = d.ports := rfl
@[simp] theorem Dev.onMot_mem (m : MotorIx) (f : Motor → Motor) : (d.onMot m f).mem = d.mem := rfl
@[simp] theorem Dev.onMot_mirror (m : MotorIx) (f : Motor → Motor) : (d.onMot m f).mirror = d.mirror := rfl
@[simp] theorem Dev.onMot_therm (m : MotorIx) (f : Motor → Motor) : (d.onMot m f).therm = d.therm := rfl
@[simp] theorem Dev.onMot_thermAt (m : MotorIx) (f : Motor → Motor) : (d.onMot m f).thermAt = d.thermAt := rfl
@[simp] theorem Dev.onMot_power (m : MotorIx) (f : Motor → Motor) : (d.onMot m f).power = d.power := rfl
@[simp] theorem Dev.onMot_bist (m : MotorIx) (f : Motor → Motor) : (d.onMot m f).bist = d.bist := rfl
@[simp] theorem Dev.onMot_tap (m : MotorIx) (f : Motor → Motor) : (d.onMot m f).tap = d.tap := rfl
@[simp] theorem Dev.onMot_scan (m : MotorIx) (f : Motor → Motor) : (d.onMot m f).scan = d.scan := rfl
@[simp] theorem Dev.onMot_lc (m : MotorIx) (f : Motor → Motor) : (d.onMot m f).lc = d.lc := rfl
@[simp] theorem Dev.onMot_ev (m : MotorIx) (f : Motor → Motor) : (d.onMot m f).ev = d.ev := rfl
@[simp] theorem Dev.onMot_pend (m : MotorIx) (f : Motor → Motor) : (d.onMot m f).pend = d.pend := rfl
@[simp] theorem Dev.onMot_ppend (m : MotorIx) (f : Motor → Motor) : (d.onMot m f).ppend = d.ppend := rfl
@[simp] theorem Dev.onMot_ueAt (m : MotorIx) (f : Motor → Motor) : (d.onMot m f).ueAt = d.ueAt := rfl
@[simp] theorem Dev.onMot_faultAt (m : MotorIx) (f : Motor → Motor) : (d.onMot m f).faultAt = d.faultAt := rfl
@[simp] theorem Dev.onMot_scrubPos (m : MotorIx) (f : Motor → Motor) : (d.onMot m f).scrubPos = d.scrubPos := rfl
@[simp] theorem Dev.onMot_scrubCe (m : MotorIx) (f : Motor → Motor) : (d.onMot m f).scrubCe = d.scrubCe := rfl
@[simp] theorem Dev.onMot_scrubRaised (m : MotorIx) (f : Motor → Motor) : (d.onMot m f).scrubRaised = d.scrubRaised := rfl
@[simp] theorem Dev.onMot_backs (m : MotorIx) (f : Motor → Motor) : (d.onMot m f).backs = d.backs := rfl
@[simp] theorem Dev.onMot_free (m : MotorIx) (f : Motor → Motor) : (d.onMot m f).free = d.free := rfl
@[simp] theorem Dev.onMot_runs (m : MotorIx) (f : Motor → Motor) : (d.onMot m f).runs = d.runs := rfl
@[simp] theorem Dev.onMot_time (m : MotorIx) (f : Motor → Motor) : (d.onMot m f).time = d.time := rfl
@[simp] theorem Dev.onMot_sub (m : MotorIx) (f : Motor → Motor) : (d.onMot m f).sub = d.sub := rfl
@[simp] theorem Dev.onMot_micros (m : MotorIx) (f : Motor → Motor) : (d.onMot m f).micros = d.micros := rfl
@[simp] theorem Dev.onMot_grp (m : MotorIx) (f : Motor → Motor) (x : GroupIx) : (d.onMot m f).grp x = d.grp x := rfl
@[simp] theorem Dev.onMot_brg (m : MotorIx) (f : Motor → Motor) (x : BridgeIx) : (d.onMot m f).brg x = d.brg x := rfl
@[simp] theorem Dev.onMot_die (m : MotorIx) (f : Motor → Motor) (x : GroupIx) : (d.onMot m f).die x = d.die x := rfl
@[simp] theorem Dev.onMot_prm (m : MotorIx) (f : Motor → Motor) (x : GroupIx) : (d.onMot m f).prm x = d.prm x := rfl
@[simp] theorem Dev.onMot_fb (m : MotorIx) (f : Motor → Motor) (x : ChanIx) : (d.onMot m f).fb x = d.fb x := rfl
@[simp] theorem Dev.onMot_trc (m : MotorIx) (f : Motor → Motor) (x : TraceIx) : (d.onMot m f).trc x = d.trc x := rfl
@[simp] theorem Dev.onMot_hp (m : MotorIx) (f : Motor → Motor) (x : HostIx) : (d.onMot m f).hp x = d.hp x := rfl
@[simp] theorem Dev.onMot_sen (m : MotorIx) (f : Motor → Motor) (x : SensorIx) : (d.onMot m f).sen x = d.sen x := rfl
@[simp] theorem Dev.onMot_w (m : MotorIx) (f : Motor → Motor) (y : Nat) : (d.onMot m f).w y = d.w y := rfl
@[simp] theorem Dev.onMot_bit (m : MotorIx) (f : Motor → Motor) (y j : Nat) : (d.onMot m f).bit y j = d.bit y j := rfl
@[simp] theorem Dev.onMot_fld (m : MotorIx) (f : Motor → Motor) (y h l : Nat) : (d.onMot m f).fld y h l = d.fld y h l := rfl
@[simp] theorem Dev.onMot_uw (m : MotorIx) (f : Motor → Motor) (y : Nat) : (d.onMot m f).uw y = d.uw y := rfl
@[simp] theorem Dev.onMot_sw (m : MotorIx) (f : Motor → Motor) (y : Nat) : (d.onMot m f).sw y = d.sw y := rfl
@[simp] theorem Dev.onMot_w32 (m : MotorIx) (f : Motor → Motor) (y : Nat) : (d.onMot m f).w32 y = d.w32 y := rfl
@[simp] theorem Dev.onMot_iw (m : MotorIx) (f : Motor → Motor) (y : Nat) : (d.onMot m f).iw y = d.iw y := rfl
@[simp] theorem Dev.onMot_ibit (m : MotorIx) (f : Motor → Motor) (y j : Nat) : (d.onMot m f).ibit y j = d.ibit y j := rfl
@[simp] theorem Dev.onMot_ifld (m : MotorIx) (f : Motor → Motor) (y h l : Nat) : (d.onMot m f).ifld y h l = d.ifld y h l := rfl
@[simp] theorem Dev.onMot_iuw (m : MotorIx) (f : Motor → Motor) (y : Nat) : (d.onMot m f).iuw y = d.iuw y := rfl
@[simp] theorem Dev.onMot_isw (m : MotorIx) (f : Motor → Motor) (y : Nat) : (d.onMot m f).isw y = d.isw y := rfl

@[simp] theorem Dev.onGrp_part (g : GroupIx) (f : Group → Group) : (d.onGrp g f).part = d.part := rfl
@[simp] theorem Dev.onGrp_rev (g : GroupIx) (f : Group → Group) : (d.onGrp g f).rev = d.rev := rfl
@[simp] theorem Dev.onGrp_fuses (g : GroupIx) (f : Group → Group) : (d.onGrp g f).fuses = d.fuses := rfl
@[simp] theorem Dev.onGrp_devLog (g : GroupIx) (f : Group → Group) : (d.onGrp g f).devLog = d.devLog := rfl
@[simp] theorem Dev.onGrp_store (g : GroupIx) (f : Group → Group) : (d.onGrp g f).store = d.store := rfl
@[simp] theorem Dev.onGrp_marks (g : GroupIx) (f : Group → Group) : (d.onGrp g f).marks = d.marks := rfl
@[simp] theorem Dev.onGrp_tested (g : GroupIx) (f : Group → Group) : (d.onGrp g f).tested = d.tested := rfl
@[simp] theorem Dev.onGrp_logWrote (g : GroupIx) (f : Group → Group) : (d.onGrp g f).logWrote = d.logWrote := rfl
@[simp] theorem Dev.onGrp_resetN (g : GroupIx) (f : Group → Group) : (d.onGrp g f).resetN = d.resetN := rfl
@[simp] theorem Dev.onGrp_locked (g : GroupIx) (f : Group → Group) : (d.onGrp g f).locked = d.locked := rfl
@[simp] theorem Dev.onGrp_everLock (g : GroupIx) (f : Group → Group) : (d.onGrp g f).everLock = d.everLock := rfl
@[simp] theorem Dev.onGrp_heldOff (g : GroupIx) (f : Group → Group) : (d.onGrp g f).heldOff = d.heldOff := rfl
@[simp] theorem Dev.onGrp_cycles (g : GroupIx) (f : Group → Group) : (d.onGrp g f).cycles = d.cycles := rfl
@[simp] theorem Dev.onGrp_words (g : GroupIx) (f : Group → Group) : (d.onGrp g f).words = d.words := rfl
@[simp] theorem Dev.onGrp_inForce (g : GroupIx) (f : Group → Group) : (d.onGrp g f).inForce = d.inForce := rfl
@[simp] theorem Dev.onGrp_latches (g : GroupIx) (f : Group → Group) : (d.onGrp g f).latches = d.latches := rfl
@[simp] theorem Dev.onGrp_fab (g : GroupIx) (f : Group → Group) : (d.onGrp g f).fab = d.fab := rfl
@[simp] theorem Dev.onGrp_cyc0 (g : GroupIx) (f : Group → Group) : (d.onGrp g f).cyc0 = d.cyc0 := rfl
@[simp] theorem Dev.onGrp_fresh (g : GroupIx) (f : Group → Group) : (d.onGrp g f).fresh = d.fresh := rfl
@[simp] theorem Dev.onGrp_freshEv (g : GroupIx) (f : Group → Group) : (d.onGrp g f).freshEv = d.freshEv := rfl
@[simp] theorem Dev.onGrp_evLate (g : GroupIx) (f : Group → Group) : (d.onGrp g f).evLate = d.evLate := rfl
@[simp] theorem Dev.onGrp_closeLate (g : GroupIx) (f : Group → Group) : (d.onGrp g f).closeLate = d.closeLate := rfl
@[simp] theorem Dev.onGrp_motors (g : GroupIx) (f : Group → Group) : (d.onGrp g f).motors = d.motors := rfl
@[simp] theorem Dev.onGrp_bridges (g : GroupIx) (f : Group → Group) : (d.onGrp g f).bridges = d.bridges := rfl
@[simp] theorem Dev.onGrp_dies (g : GroupIx) (f : Group → Group) : (d.onGrp g f).dies = d.dies := rfl
@[simp] theorem Dev.onGrp_reports (g : GroupIx) (f : Group → Group) : (d.onGrp g f).reports = d.reports := rfl
@[simp] theorem Dev.onGrp_seqAt (g : GroupIx) (f : Group → Group) : (d.onGrp g f).seqAt = d.seqAt := rfl
@[simp] theorem Dev.onGrp_busDue (g : GroupIx) (f : Group → Group) : (d.onGrp g f).busDue = d.busDue := rfl
@[simp] theorem Dev.onGrp_glDue (g : GroupIx) (f : Group → Group) : (d.onGrp g f).glDue = d.glDue := rfl
@[simp] theorem Dev.onGrp_fbDue (g : GroupIx) (f : Group → Group) : (d.onGrp g f).fbDue = d.fbDue := rfl
@[simp] theorem Dev.onGrp_prisms (g : GroupIx) (f : Group → Group) : (d.onGrp g f).prisms = d.prisms := rfl
@[simp] theorem Dev.onGrp_fbs (g : GroupIx) (f : Group → Group) : (d.onGrp g f).fbs = d.fbs := rfl
@[simp] theorem Dev.onGrp_dist (g : GroupIx) (f : Group → Group) : (d.onGrp g f).dist = d.dist := rfl
@[simp] theorem Dev.onGrp_traces (g : GroupIx) (f : Group → Group) : (d.onGrp g f).traces = d.traces := rfl
@[simp] theorem Dev.onGrp_tickAt (g : GroupIx) (f : Group → Group) : (d.onGrp g f).tickAt = d.tickAt := rfl
@[simp] theorem Dev.onGrp_ticks (g : GroupIx) (f : Group → Group) : (d.onGrp g f).ticks = d.ticks := rfl
@[simp] theorem Dev.onGrp_emptied (g : GroupIx) (f : Group → Group) : (d.onGrp g f).emptied = d.emptied := rfl
@[simp] theorem Dev.onGrp_secAt (g : GroupIx) (f : Group → Group) : (d.onGrp g f).secAt = d.secAt := rfl
@[simp] theorem Dev.onGrp_recq (g : GroupIx) (f : Group → Group) : (d.onGrp g f).recq = d.recq := rfl
@[simp] theorem Dev.onGrp_mbxIn (g : GroupIx) (f : Group → Group) : (d.onGrp g f).mbxIn = d.mbxIn := rfl
@[simp] theorem Dev.onGrp_mbxAt (g : GroupIx) (f : Group → Group) : (d.onGrp g f).mbxAt = d.mbxAt := rfl
@[simp] theorem Dev.onGrp_cplAt (g : GroupIx) (f : Group → Group) : (d.onGrp g f).cplAt = d.cplAt := rfl
@[simp] theorem Dev.onGrp_cplQt (g : GroupIx) (f : Group → Group) : (d.onGrp g f).cplQt = d.cplQt := rfl
@[simp] theorem Dev.onGrp_cplEdge (g : GroupIx) (f : Group → Group) : (d.onGrp g f).cplEdge = d.cplEdge := rfl
@[simp] theorem Dev.onGrp_cplFrom (g : GroupIx) (f : Group → Group) : (d.onGrp g f).cplFrom = d.cplFrom := rfl
@[simp] theorem Dev.onGrp_cplDone (g : GroupIx) (f : Group → Group) : (d.onGrp g f).cplDone = d.cplDone := rfl
@[simp] theorem Dev.onGrp_loader (g : GroupIx) (f : Group → Group) : (d.onGrp g f).loader = d.loader := rfl
@[simp] theorem Dev.onGrp_ports (g : GroupIx) (f : Group → Group) : (d.onGrp g f).ports = d.ports := rfl
@[simp] theorem Dev.onGrp_mem (g : GroupIx) (f : Group → Group) : (d.onGrp g f).mem = d.mem := rfl
@[simp] theorem Dev.onGrp_mirror (g : GroupIx) (f : Group → Group) : (d.onGrp g f).mirror = d.mirror := rfl
@[simp] theorem Dev.onGrp_therm (g : GroupIx) (f : Group → Group) : (d.onGrp g f).therm = d.therm := rfl
@[simp] theorem Dev.onGrp_thermAt (g : GroupIx) (f : Group → Group) : (d.onGrp g f).thermAt = d.thermAt := rfl
@[simp] theorem Dev.onGrp_power (g : GroupIx) (f : Group → Group) : (d.onGrp g f).power = d.power := rfl
@[simp] theorem Dev.onGrp_bist (g : GroupIx) (f : Group → Group) : (d.onGrp g f).bist = d.bist := rfl
@[simp] theorem Dev.onGrp_tap (g : GroupIx) (f : Group → Group) : (d.onGrp g f).tap = d.tap := rfl
@[simp] theorem Dev.onGrp_scan (g : GroupIx) (f : Group → Group) : (d.onGrp g f).scan = d.scan := rfl
@[simp] theorem Dev.onGrp_lc (g : GroupIx) (f : Group → Group) : (d.onGrp g f).lc = d.lc := rfl
@[simp] theorem Dev.onGrp_ev (g : GroupIx) (f : Group → Group) : (d.onGrp g f).ev = d.ev := rfl
@[simp] theorem Dev.onGrp_pend (g : GroupIx) (f : Group → Group) : (d.onGrp g f).pend = d.pend := rfl
@[simp] theorem Dev.onGrp_ppend (g : GroupIx) (f : Group → Group) : (d.onGrp g f).ppend = d.ppend := rfl
@[simp] theorem Dev.onGrp_ueAt (g : GroupIx) (f : Group → Group) : (d.onGrp g f).ueAt = d.ueAt := rfl
@[simp] theorem Dev.onGrp_faultAt (g : GroupIx) (f : Group → Group) : (d.onGrp g f).faultAt = d.faultAt := rfl
@[simp] theorem Dev.onGrp_scrubPos (g : GroupIx) (f : Group → Group) : (d.onGrp g f).scrubPos = d.scrubPos := rfl
@[simp] theorem Dev.onGrp_scrubCe (g : GroupIx) (f : Group → Group) : (d.onGrp g f).scrubCe = d.scrubCe := rfl
@[simp] theorem Dev.onGrp_scrubRaised (g : GroupIx) (f : Group → Group) : (d.onGrp g f).scrubRaised = d.scrubRaised := rfl
@[simp] theorem Dev.onGrp_backs (g : GroupIx) (f : Group → Group) : (d.onGrp g f).backs = d.backs := rfl
@[simp] theorem Dev.onGrp_free (g : GroupIx) (f : Group → Group) : (d.onGrp g f).free = d.free := rfl
@[simp] theorem Dev.onGrp_runs (g : GroupIx) (f : Group → Group) : (d.onGrp g f).runs = d.runs := rfl
@[simp] theorem Dev.onGrp_time (g : GroupIx) (f : Group → Group) : (d.onGrp g f).time = d.time := rfl
@[simp] theorem Dev.onGrp_sub (g : GroupIx) (f : Group → Group) : (d.onGrp g f).sub = d.sub := rfl
@[simp] theorem Dev.onGrp_micros (g : GroupIx) (f : Group → Group) : (d.onGrp g f).micros = d.micros := rfl
@[simp] theorem Dev.onGrp_mot (g : GroupIx) (f : Group → Group) (x : MotorIx) : (d.onGrp g f).mot x = d.mot x := rfl
@[simp] theorem Dev.onGrp_brg (g : GroupIx) (f : Group → Group) (x : BridgeIx) : (d.onGrp g f).brg x = d.brg x := rfl
@[simp] theorem Dev.onGrp_die (g : GroupIx) (f : Group → Group) (x : GroupIx) : (d.onGrp g f).die x = d.die x := rfl
@[simp] theorem Dev.onGrp_prm (g : GroupIx) (f : Group → Group) (x : GroupIx) : (d.onGrp g f).prm x = d.prm x := rfl
@[simp] theorem Dev.onGrp_fb (g : GroupIx) (f : Group → Group) (x : ChanIx) : (d.onGrp g f).fb x = d.fb x := rfl
@[simp] theorem Dev.onGrp_trc (g : GroupIx) (f : Group → Group) (x : TraceIx) : (d.onGrp g f).trc x = d.trc x := rfl
@[simp] theorem Dev.onGrp_hp (g : GroupIx) (f : Group → Group) (x : HostIx) : (d.onGrp g f).hp x = d.hp x := rfl
@[simp] theorem Dev.onGrp_sen (g : GroupIx) (f : Group → Group) (x : SensorIx) : (d.onGrp g f).sen x = d.sen x := rfl
@[simp] theorem Dev.onGrp_w (g : GroupIx) (f : Group → Group) (y : Nat) : (d.onGrp g f).w y = d.w y := rfl
@[simp] theorem Dev.onGrp_bit (g : GroupIx) (f : Group → Group) (y j : Nat) : (d.onGrp g f).bit y j = d.bit y j := rfl
@[simp] theorem Dev.onGrp_fld (g : GroupIx) (f : Group → Group) (y h l : Nat) : (d.onGrp g f).fld y h l = d.fld y h l := rfl
@[simp] theorem Dev.onGrp_uw (g : GroupIx) (f : Group → Group) (y : Nat) : (d.onGrp g f).uw y = d.uw y := rfl
@[simp] theorem Dev.onGrp_sw (g : GroupIx) (f : Group → Group) (y : Nat) : (d.onGrp g f).sw y = d.sw y := rfl
@[simp] theorem Dev.onGrp_w32 (g : GroupIx) (f : Group → Group) (y : Nat) : (d.onGrp g f).w32 y = d.w32 y := rfl
@[simp] theorem Dev.onGrp_iw (g : GroupIx) (f : Group → Group) (y : Nat) : (d.onGrp g f).iw y = d.iw y := rfl
@[simp] theorem Dev.onGrp_ibit (g : GroupIx) (f : Group → Group) (y j : Nat) : (d.onGrp g f).ibit y j = d.ibit y j := rfl
@[simp] theorem Dev.onGrp_ifld (g : GroupIx) (f : Group → Group) (y h l : Nat) : (d.onGrp g f).ifld y h l = d.ifld y h l := rfl
@[simp] theorem Dev.onGrp_iuw (g : GroupIx) (f : Group → Group) (y : Nat) : (d.onGrp g f).iuw y = d.iuw y := rfl
@[simp] theorem Dev.onGrp_isw (g : GroupIx) (f : Group → Group) (y : Nat) : (d.onGrp g f).isw y = d.isw y := rfl

@[simp] theorem Dev.onBrg_part (b : BridgeIx) (f : Bridge → Bridge) : (d.onBrg b f).part = d.part := rfl
@[simp] theorem Dev.onBrg_rev (b : BridgeIx) (f : Bridge → Bridge) : (d.onBrg b f).rev = d.rev := rfl
@[simp] theorem Dev.onBrg_fuses (b : BridgeIx) (f : Bridge → Bridge) : (d.onBrg b f).fuses = d.fuses := rfl
@[simp] theorem Dev.onBrg_devLog (b : BridgeIx) (f : Bridge → Bridge) : (d.onBrg b f).devLog = d.devLog := rfl
@[simp] theorem Dev.onBrg_store (b : BridgeIx) (f : Bridge → Bridge) : (d.onBrg b f).store = d.store := rfl
@[simp] theorem Dev.onBrg_marks (b : BridgeIx) (f : Bridge → Bridge) : (d.onBrg b f).marks = d.marks := rfl
@[simp] theorem Dev.onBrg_tested (b : BridgeIx) (f : Bridge → Bridge) : (d.onBrg b f).tested = d.tested := rfl
@[simp] theorem Dev.onBrg_logWrote (b : BridgeIx) (f : Bridge → Bridge) : (d.onBrg b f).logWrote = d.logWrote := rfl
@[simp] theorem Dev.onBrg_resetN (b : BridgeIx) (f : Bridge → Bridge) : (d.onBrg b f).resetN = d.resetN := rfl
@[simp] theorem Dev.onBrg_locked (b : BridgeIx) (f : Bridge → Bridge) : (d.onBrg b f).locked = d.locked := rfl
@[simp] theorem Dev.onBrg_everLock (b : BridgeIx) (f : Bridge → Bridge) : (d.onBrg b f).everLock = d.everLock := rfl
@[simp] theorem Dev.onBrg_heldOff (b : BridgeIx) (f : Bridge → Bridge) : (d.onBrg b f).heldOff = d.heldOff := rfl
@[simp] theorem Dev.onBrg_cycles (b : BridgeIx) (f : Bridge → Bridge) : (d.onBrg b f).cycles = d.cycles := rfl
@[simp] theorem Dev.onBrg_words (b : BridgeIx) (f : Bridge → Bridge) : (d.onBrg b f).words = d.words := rfl
@[simp] theorem Dev.onBrg_inForce (b : BridgeIx) (f : Bridge → Bridge) : (d.onBrg b f).inForce = d.inForce := rfl
@[simp] theorem Dev.onBrg_latches (b : BridgeIx) (f : Bridge → Bridge) : (d.onBrg b f).latches = d.latches := rfl
@[simp] theorem Dev.onBrg_fab (b : BridgeIx) (f : Bridge → Bridge) : (d.onBrg b f).fab = d.fab := rfl
@[simp] theorem Dev.onBrg_cyc0 (b : BridgeIx) (f : Bridge → Bridge) : (d.onBrg b f).cyc0 = d.cyc0 := rfl
@[simp] theorem Dev.onBrg_fresh (b : BridgeIx) (f : Bridge → Bridge) : (d.onBrg b f).fresh = d.fresh := rfl
@[simp] theorem Dev.onBrg_freshEv (b : BridgeIx) (f : Bridge → Bridge) : (d.onBrg b f).freshEv = d.freshEv := rfl
@[simp] theorem Dev.onBrg_evLate (b : BridgeIx) (f : Bridge → Bridge) : (d.onBrg b f).evLate = d.evLate := rfl
@[simp] theorem Dev.onBrg_closeLate (b : BridgeIx) (f : Bridge → Bridge) : (d.onBrg b f).closeLate = d.closeLate := rfl
@[simp] theorem Dev.onBrg_motors (b : BridgeIx) (f : Bridge → Bridge) : (d.onBrg b f).motors = d.motors := rfl
@[simp] theorem Dev.onBrg_groups (b : BridgeIx) (f : Bridge → Bridge) : (d.onBrg b f).groups = d.groups := rfl
@[simp] theorem Dev.onBrg_dies (b : BridgeIx) (f : Bridge → Bridge) : (d.onBrg b f).dies = d.dies := rfl
@[simp] theorem Dev.onBrg_reports (b : BridgeIx) (f : Bridge → Bridge) : (d.onBrg b f).reports = d.reports := rfl
@[simp] theorem Dev.onBrg_seqAt (b : BridgeIx) (f : Bridge → Bridge) : (d.onBrg b f).seqAt = d.seqAt := rfl
@[simp] theorem Dev.onBrg_busDue (b : BridgeIx) (f : Bridge → Bridge) : (d.onBrg b f).busDue = d.busDue := rfl
@[simp] theorem Dev.onBrg_glDue (b : BridgeIx) (f : Bridge → Bridge) : (d.onBrg b f).glDue = d.glDue := rfl
@[simp] theorem Dev.onBrg_fbDue (b : BridgeIx) (f : Bridge → Bridge) : (d.onBrg b f).fbDue = d.fbDue := rfl
@[simp] theorem Dev.onBrg_prisms (b : BridgeIx) (f : Bridge → Bridge) : (d.onBrg b f).prisms = d.prisms := rfl
@[simp] theorem Dev.onBrg_fbs (b : BridgeIx) (f : Bridge → Bridge) : (d.onBrg b f).fbs = d.fbs := rfl
@[simp] theorem Dev.onBrg_dist (b : BridgeIx) (f : Bridge → Bridge) : (d.onBrg b f).dist = d.dist := rfl
@[simp] theorem Dev.onBrg_traces (b : BridgeIx) (f : Bridge → Bridge) : (d.onBrg b f).traces = d.traces := rfl
@[simp] theorem Dev.onBrg_tickAt (b : BridgeIx) (f : Bridge → Bridge) : (d.onBrg b f).tickAt = d.tickAt := rfl
@[simp] theorem Dev.onBrg_ticks (b : BridgeIx) (f : Bridge → Bridge) : (d.onBrg b f).ticks = d.ticks := rfl
@[simp] theorem Dev.onBrg_emptied (b : BridgeIx) (f : Bridge → Bridge) : (d.onBrg b f).emptied = d.emptied := rfl
@[simp] theorem Dev.onBrg_secAt (b : BridgeIx) (f : Bridge → Bridge) : (d.onBrg b f).secAt = d.secAt := rfl
@[simp] theorem Dev.onBrg_recq (b : BridgeIx) (f : Bridge → Bridge) : (d.onBrg b f).recq = d.recq := rfl
@[simp] theorem Dev.onBrg_mbxIn (b : BridgeIx) (f : Bridge → Bridge) : (d.onBrg b f).mbxIn = d.mbxIn := rfl
@[simp] theorem Dev.onBrg_mbxAt (b : BridgeIx) (f : Bridge → Bridge) : (d.onBrg b f).mbxAt = d.mbxAt := rfl
@[simp] theorem Dev.onBrg_cplAt (b : BridgeIx) (f : Bridge → Bridge) : (d.onBrg b f).cplAt = d.cplAt := rfl
@[simp] theorem Dev.onBrg_cplQt (b : BridgeIx) (f : Bridge → Bridge) : (d.onBrg b f).cplQt = d.cplQt := rfl
@[simp] theorem Dev.onBrg_cplEdge (b : BridgeIx) (f : Bridge → Bridge) : (d.onBrg b f).cplEdge = d.cplEdge := rfl
@[simp] theorem Dev.onBrg_cplFrom (b : BridgeIx) (f : Bridge → Bridge) : (d.onBrg b f).cplFrom = d.cplFrom := rfl
@[simp] theorem Dev.onBrg_cplDone (b : BridgeIx) (f : Bridge → Bridge) : (d.onBrg b f).cplDone = d.cplDone := rfl
@[simp] theorem Dev.onBrg_loader (b : BridgeIx) (f : Bridge → Bridge) : (d.onBrg b f).loader = d.loader := rfl
@[simp] theorem Dev.onBrg_ports (b : BridgeIx) (f : Bridge → Bridge) : (d.onBrg b f).ports = d.ports := rfl
@[simp] theorem Dev.onBrg_mem (b : BridgeIx) (f : Bridge → Bridge) : (d.onBrg b f).mem = d.mem := rfl
@[simp] theorem Dev.onBrg_mirror (b : BridgeIx) (f : Bridge → Bridge) : (d.onBrg b f).mirror = d.mirror := rfl
@[simp] theorem Dev.onBrg_therm (b : BridgeIx) (f : Bridge → Bridge) : (d.onBrg b f).therm = d.therm := rfl
@[simp] theorem Dev.onBrg_thermAt (b : BridgeIx) (f : Bridge → Bridge) : (d.onBrg b f).thermAt = d.thermAt := rfl
@[simp] theorem Dev.onBrg_power (b : BridgeIx) (f : Bridge → Bridge) : (d.onBrg b f).power = d.power := rfl
@[simp] theorem Dev.onBrg_bist (b : BridgeIx) (f : Bridge → Bridge) : (d.onBrg b f).bist = d.bist := rfl
@[simp] theorem Dev.onBrg_tap (b : BridgeIx) (f : Bridge → Bridge) : (d.onBrg b f).tap = d.tap := rfl
@[simp] theorem Dev.onBrg_scan (b : BridgeIx) (f : Bridge → Bridge) : (d.onBrg b f).scan = d.scan := rfl
@[simp] theorem Dev.onBrg_lc (b : BridgeIx) (f : Bridge → Bridge) : (d.onBrg b f).lc = d.lc := rfl
@[simp] theorem Dev.onBrg_ev (b : BridgeIx) (f : Bridge → Bridge) : (d.onBrg b f).ev = d.ev := rfl
@[simp] theorem Dev.onBrg_pend (b : BridgeIx) (f : Bridge → Bridge) : (d.onBrg b f).pend = d.pend := rfl
@[simp] theorem Dev.onBrg_ppend (b : BridgeIx) (f : Bridge → Bridge) : (d.onBrg b f).ppend = d.ppend := rfl
@[simp] theorem Dev.onBrg_ueAt (b : BridgeIx) (f : Bridge → Bridge) : (d.onBrg b f).ueAt = d.ueAt := rfl
@[simp] theorem Dev.onBrg_faultAt (b : BridgeIx) (f : Bridge → Bridge) : (d.onBrg b f).faultAt = d.faultAt := rfl
@[simp] theorem Dev.onBrg_scrubPos (b : BridgeIx) (f : Bridge → Bridge) : (d.onBrg b f).scrubPos = d.scrubPos := rfl
@[simp] theorem Dev.onBrg_scrubCe (b : BridgeIx) (f : Bridge → Bridge) : (d.onBrg b f).scrubCe = d.scrubCe := rfl
@[simp] theorem Dev.onBrg_scrubRaised (b : BridgeIx) (f : Bridge → Bridge) : (d.onBrg b f).scrubRaised = d.scrubRaised := rfl
@[simp] theorem Dev.onBrg_backs (b : BridgeIx) (f : Bridge → Bridge) : (d.onBrg b f).backs = d.backs := rfl
@[simp] theorem Dev.onBrg_free (b : BridgeIx) (f : Bridge → Bridge) : (d.onBrg b f).free = d.free := rfl
@[simp] theorem Dev.onBrg_runs (b : BridgeIx) (f : Bridge → Bridge) : (d.onBrg b f).runs = d.runs := rfl
@[simp] theorem Dev.onBrg_time (b : BridgeIx) (f : Bridge → Bridge) : (d.onBrg b f).time = d.time := rfl
@[simp] theorem Dev.onBrg_sub (b : BridgeIx) (f : Bridge → Bridge) : (d.onBrg b f).sub = d.sub := rfl
@[simp] theorem Dev.onBrg_micros (b : BridgeIx) (f : Bridge → Bridge) : (d.onBrg b f).micros = d.micros := rfl
@[simp] theorem Dev.onBrg_mot (b : BridgeIx) (f : Bridge → Bridge) (x : MotorIx) : (d.onBrg b f).mot x = d.mot x := rfl
@[simp] theorem Dev.onBrg_grp (b : BridgeIx) (f : Bridge → Bridge) (x : GroupIx) : (d.onBrg b f).grp x = d.grp x := rfl
@[simp] theorem Dev.onBrg_die (b : BridgeIx) (f : Bridge → Bridge) (x : GroupIx) : (d.onBrg b f).die x = d.die x := rfl
@[simp] theorem Dev.onBrg_prm (b : BridgeIx) (f : Bridge → Bridge) (x : GroupIx) : (d.onBrg b f).prm x = d.prm x := rfl
@[simp] theorem Dev.onBrg_fb (b : BridgeIx) (f : Bridge → Bridge) (x : ChanIx) : (d.onBrg b f).fb x = d.fb x := rfl
@[simp] theorem Dev.onBrg_trc (b : BridgeIx) (f : Bridge → Bridge) (x : TraceIx) : (d.onBrg b f).trc x = d.trc x := rfl
@[simp] theorem Dev.onBrg_hp (b : BridgeIx) (f : Bridge → Bridge) (x : HostIx) : (d.onBrg b f).hp x = d.hp x := rfl
@[simp] theorem Dev.onBrg_sen (b : BridgeIx) (f : Bridge → Bridge) (x : SensorIx) : (d.onBrg b f).sen x = d.sen x := rfl
@[simp] theorem Dev.onBrg_w (b : BridgeIx) (f : Bridge → Bridge) (y : Nat) : (d.onBrg b f).w y = d.w y := rfl
@[simp] theorem Dev.onBrg_bit (b : BridgeIx) (f : Bridge → Bridge) (y j : Nat) : (d.onBrg b f).bit y j = d.bit y j := rfl
@[simp] theorem Dev.onBrg_fld (b : BridgeIx) (f : Bridge → Bridge) (y h l : Nat) : (d.onBrg b f).fld y h l = d.fld y h l := rfl
@[simp] theorem Dev.onBrg_uw (b : BridgeIx) (f : Bridge → Bridge) (y : Nat) : (d.onBrg b f).uw y = d.uw y := rfl
@[simp] theorem Dev.onBrg_sw (b : BridgeIx) (f : Bridge → Bridge) (y : Nat) : (d.onBrg b f).sw y = d.sw y := rfl
@[simp] theorem Dev.onBrg_w32 (b : BridgeIx) (f : Bridge → Bridge) (y : Nat) : (d.onBrg b f).w32 y = d.w32 y := rfl
@[simp] theorem Dev.onBrg_iw (b : BridgeIx) (f : Bridge → Bridge) (y : Nat) : (d.onBrg b f).iw y = d.iw y := rfl
@[simp] theorem Dev.onBrg_ibit (b : BridgeIx) (f : Bridge → Bridge) (y j : Nat) : (d.onBrg b f).ibit y j = d.ibit y j := rfl
@[simp] theorem Dev.onBrg_ifld (b : BridgeIx) (f : Bridge → Bridge) (y h l : Nat) : (d.onBrg b f).ifld y h l = d.ifld y h l := rfl
@[simp] theorem Dev.onBrg_iuw (b : BridgeIx) (f : Bridge → Bridge) (y : Nat) : (d.onBrg b f).iuw y = d.iuw y := rfl
@[simp] theorem Dev.onBrg_isw (b : BridgeIx) (f : Bridge → Bridge) (y : Nat) : (d.onBrg b f).isw y = d.isw y := rfl

@[simp] theorem Dev.onDie_part (g : GroupIx) (f : Die → Die) : (d.onDie g f).part = d.part := rfl
@[simp] theorem Dev.onDie_rev (g : GroupIx) (f : Die → Die) : (d.onDie g f).rev = d.rev := rfl
@[simp] theorem Dev.onDie_fuses (g : GroupIx) (f : Die → Die) : (d.onDie g f).fuses = d.fuses := rfl
@[simp] theorem Dev.onDie_devLog (g : GroupIx) (f : Die → Die) : (d.onDie g f).devLog = d.devLog := rfl
@[simp] theorem Dev.onDie_store (g : GroupIx) (f : Die → Die) : (d.onDie g f).store = d.store := rfl
@[simp] theorem Dev.onDie_marks (g : GroupIx) (f : Die → Die) : (d.onDie g f).marks = d.marks := rfl
@[simp] theorem Dev.onDie_tested (g : GroupIx) (f : Die → Die) : (d.onDie g f).tested = d.tested := rfl
@[simp] theorem Dev.onDie_logWrote (g : GroupIx) (f : Die → Die) : (d.onDie g f).logWrote = d.logWrote := rfl
@[simp] theorem Dev.onDie_resetN (g : GroupIx) (f : Die → Die) : (d.onDie g f).resetN = d.resetN := rfl
@[simp] theorem Dev.onDie_locked (g : GroupIx) (f : Die → Die) : (d.onDie g f).locked = d.locked := rfl
@[simp] theorem Dev.onDie_everLock (g : GroupIx) (f : Die → Die) : (d.onDie g f).everLock = d.everLock := rfl
@[simp] theorem Dev.onDie_heldOff (g : GroupIx) (f : Die → Die) : (d.onDie g f).heldOff = d.heldOff := rfl
@[simp] theorem Dev.onDie_cycles (g : GroupIx) (f : Die → Die) : (d.onDie g f).cycles = d.cycles := rfl
@[simp] theorem Dev.onDie_words (g : GroupIx) (f : Die → Die) : (d.onDie g f).words = d.words := rfl
@[simp] theorem Dev.onDie_inForce (g : GroupIx) (f : Die → Die) : (d.onDie g f).inForce = d.inForce := rfl
@[simp] theorem Dev.onDie_latches (g : GroupIx) (f : Die → Die) : (d.onDie g f).latches = d.latches := rfl
@[simp] theorem Dev.onDie_fab (g : GroupIx) (f : Die → Die) : (d.onDie g f).fab = d.fab := rfl
@[simp] theorem Dev.onDie_cyc0 (g : GroupIx) (f : Die → Die) : (d.onDie g f).cyc0 = d.cyc0 := rfl
@[simp] theorem Dev.onDie_fresh (g : GroupIx) (f : Die → Die) : (d.onDie g f).fresh = d.fresh := rfl
@[simp] theorem Dev.onDie_freshEv (g : GroupIx) (f : Die → Die) : (d.onDie g f).freshEv = d.freshEv := rfl
@[simp] theorem Dev.onDie_evLate (g : GroupIx) (f : Die → Die) : (d.onDie g f).evLate = d.evLate := rfl
@[simp] theorem Dev.onDie_closeLate (g : GroupIx) (f : Die → Die) : (d.onDie g f).closeLate = d.closeLate := rfl
@[simp] theorem Dev.onDie_motors (g : GroupIx) (f : Die → Die) : (d.onDie g f).motors = d.motors := rfl
@[simp] theorem Dev.onDie_groups (g : GroupIx) (f : Die → Die) : (d.onDie g f).groups = d.groups := rfl
@[simp] theorem Dev.onDie_bridges (g : GroupIx) (f : Die → Die) : (d.onDie g f).bridges = d.bridges := rfl
@[simp] theorem Dev.onDie_reports (g : GroupIx) (f : Die → Die) : (d.onDie g f).reports = d.reports := rfl
@[simp] theorem Dev.onDie_seqAt (g : GroupIx) (f : Die → Die) : (d.onDie g f).seqAt = d.seqAt := rfl
@[simp] theorem Dev.onDie_busDue (g : GroupIx) (f : Die → Die) : (d.onDie g f).busDue = d.busDue := rfl
@[simp] theorem Dev.onDie_glDue (g : GroupIx) (f : Die → Die) : (d.onDie g f).glDue = d.glDue := rfl
@[simp] theorem Dev.onDie_fbDue (g : GroupIx) (f : Die → Die) : (d.onDie g f).fbDue = d.fbDue := rfl
@[simp] theorem Dev.onDie_prisms (g : GroupIx) (f : Die → Die) : (d.onDie g f).prisms = d.prisms := rfl
@[simp] theorem Dev.onDie_fbs (g : GroupIx) (f : Die → Die) : (d.onDie g f).fbs = d.fbs := rfl
@[simp] theorem Dev.onDie_dist (g : GroupIx) (f : Die → Die) : (d.onDie g f).dist = d.dist := rfl
@[simp] theorem Dev.onDie_traces (g : GroupIx) (f : Die → Die) : (d.onDie g f).traces = d.traces := rfl
@[simp] theorem Dev.onDie_tickAt (g : GroupIx) (f : Die → Die) : (d.onDie g f).tickAt = d.tickAt := rfl
@[simp] theorem Dev.onDie_ticks (g : GroupIx) (f : Die → Die) : (d.onDie g f).ticks = d.ticks := rfl
@[simp] theorem Dev.onDie_emptied (g : GroupIx) (f : Die → Die) : (d.onDie g f).emptied = d.emptied := rfl
@[simp] theorem Dev.onDie_secAt (g : GroupIx) (f : Die → Die) : (d.onDie g f).secAt = d.secAt := rfl
@[simp] theorem Dev.onDie_recq (g : GroupIx) (f : Die → Die) : (d.onDie g f).recq = d.recq := rfl
@[simp] theorem Dev.onDie_mbxIn (g : GroupIx) (f : Die → Die) : (d.onDie g f).mbxIn = d.mbxIn := rfl
@[simp] theorem Dev.onDie_mbxAt (g : GroupIx) (f : Die → Die) : (d.onDie g f).mbxAt = d.mbxAt := rfl
@[simp] theorem Dev.onDie_cplAt (g : GroupIx) (f : Die → Die) : (d.onDie g f).cplAt = d.cplAt := rfl
@[simp] theorem Dev.onDie_cplQt (g : GroupIx) (f : Die → Die) : (d.onDie g f).cplQt = d.cplQt := rfl
@[simp] theorem Dev.onDie_cplEdge (g : GroupIx) (f : Die → Die) : (d.onDie g f).cplEdge = d.cplEdge := rfl
@[simp] theorem Dev.onDie_cplFrom (g : GroupIx) (f : Die → Die) : (d.onDie g f).cplFrom = d.cplFrom := rfl
@[simp] theorem Dev.onDie_cplDone (g : GroupIx) (f : Die → Die) : (d.onDie g f).cplDone = d.cplDone := rfl
@[simp] theorem Dev.onDie_loader (g : GroupIx) (f : Die → Die) : (d.onDie g f).loader = d.loader := rfl
@[simp] theorem Dev.onDie_ports (g : GroupIx) (f : Die → Die) : (d.onDie g f).ports = d.ports := rfl
@[simp] theorem Dev.onDie_mem (g : GroupIx) (f : Die → Die) : (d.onDie g f).mem = d.mem := rfl
@[simp] theorem Dev.onDie_mirror (g : GroupIx) (f : Die → Die) : (d.onDie g f).mirror = d.mirror := rfl
@[simp] theorem Dev.onDie_therm (g : GroupIx) (f : Die → Die) : (d.onDie g f).therm = d.therm := rfl
@[simp] theorem Dev.onDie_thermAt (g : GroupIx) (f : Die → Die) : (d.onDie g f).thermAt = d.thermAt := rfl
@[simp] theorem Dev.onDie_power (g : GroupIx) (f : Die → Die) : (d.onDie g f).power = d.power := rfl
@[simp] theorem Dev.onDie_bist (g : GroupIx) (f : Die → Die) : (d.onDie g f).bist = d.bist := rfl
@[simp] theorem Dev.onDie_tap (g : GroupIx) (f : Die → Die) : (d.onDie g f).tap = d.tap := rfl
@[simp] theorem Dev.onDie_scan (g : GroupIx) (f : Die → Die) : (d.onDie g f).scan = d.scan := rfl
@[simp] theorem Dev.onDie_lc (g : GroupIx) (f : Die → Die) : (d.onDie g f).lc = d.lc := rfl
@[simp] theorem Dev.onDie_ev (g : GroupIx) (f : Die → Die) : (d.onDie g f).ev = d.ev := rfl
@[simp] theorem Dev.onDie_pend (g : GroupIx) (f : Die → Die) : (d.onDie g f).pend = d.pend := rfl
@[simp] theorem Dev.onDie_ppend (g : GroupIx) (f : Die → Die) : (d.onDie g f).ppend = d.ppend := rfl
@[simp] theorem Dev.onDie_ueAt (g : GroupIx) (f : Die → Die) : (d.onDie g f).ueAt = d.ueAt := rfl
@[simp] theorem Dev.onDie_faultAt (g : GroupIx) (f : Die → Die) : (d.onDie g f).faultAt = d.faultAt := rfl
@[simp] theorem Dev.onDie_scrubPos (g : GroupIx) (f : Die → Die) : (d.onDie g f).scrubPos = d.scrubPos := rfl
@[simp] theorem Dev.onDie_scrubCe (g : GroupIx) (f : Die → Die) : (d.onDie g f).scrubCe = d.scrubCe := rfl
@[simp] theorem Dev.onDie_scrubRaised (g : GroupIx) (f : Die → Die) : (d.onDie g f).scrubRaised = d.scrubRaised := rfl
@[simp] theorem Dev.onDie_backs (g : GroupIx) (f : Die → Die) : (d.onDie g f).backs = d.backs := rfl
@[simp] theorem Dev.onDie_free (g : GroupIx) (f : Die → Die) : (d.onDie g f).free = d.free := rfl
@[simp] theorem Dev.onDie_runs (g : GroupIx) (f : Die → Die) : (d.onDie g f).runs = d.runs := rfl
@[simp] theorem Dev.onDie_time (g : GroupIx) (f : Die → Die) : (d.onDie g f).time = d.time := rfl
@[simp] theorem Dev.onDie_sub (g : GroupIx) (f : Die → Die) : (d.onDie g f).sub = d.sub := rfl
@[simp] theorem Dev.onDie_micros (g : GroupIx) (f : Die → Die) : (d.onDie g f).micros = d.micros := rfl
@[simp] theorem Dev.onDie_mot (g : GroupIx) (f : Die → Die) (x : MotorIx) : (d.onDie g f).mot x = d.mot x := rfl
@[simp] theorem Dev.onDie_grp (g : GroupIx) (f : Die → Die) (x : GroupIx) : (d.onDie g f).grp x = d.grp x := rfl
@[simp] theorem Dev.onDie_brg (g : GroupIx) (f : Die → Die) (x : BridgeIx) : (d.onDie g f).brg x = d.brg x := rfl
@[simp] theorem Dev.onDie_prm (g : GroupIx) (f : Die → Die) (x : GroupIx) : (d.onDie g f).prm x = d.prm x := rfl
@[simp] theorem Dev.onDie_fb (g : GroupIx) (f : Die → Die) (x : ChanIx) : (d.onDie g f).fb x = d.fb x := rfl
@[simp] theorem Dev.onDie_trc (g : GroupIx) (f : Die → Die) (x : TraceIx) : (d.onDie g f).trc x = d.trc x := rfl
@[simp] theorem Dev.onDie_hp (g : GroupIx) (f : Die → Die) (x : HostIx) : (d.onDie g f).hp x = d.hp x := rfl
@[simp] theorem Dev.onDie_sen (g : GroupIx) (f : Die → Die) (x : SensorIx) : (d.onDie g f).sen x = d.sen x := rfl
@[simp] theorem Dev.onDie_w (g : GroupIx) (f : Die → Die) (y : Nat) : (d.onDie g f).w y = d.w y := rfl
@[simp] theorem Dev.onDie_bit (g : GroupIx) (f : Die → Die) (y j : Nat) : (d.onDie g f).bit y j = d.bit y j := rfl
@[simp] theorem Dev.onDie_fld (g : GroupIx) (f : Die → Die) (y h l : Nat) : (d.onDie g f).fld y h l = d.fld y h l := rfl
@[simp] theorem Dev.onDie_uw (g : GroupIx) (f : Die → Die) (y : Nat) : (d.onDie g f).uw y = d.uw y := rfl
@[simp] theorem Dev.onDie_sw (g : GroupIx) (f : Die → Die) (y : Nat) : (d.onDie g f).sw y = d.sw y := rfl
@[simp] theorem Dev.onDie_w32 (g : GroupIx) (f : Die → Die) (y : Nat) : (d.onDie g f).w32 y = d.w32 y := rfl
@[simp] theorem Dev.onDie_iw (g : GroupIx) (f : Die → Die) (y : Nat) : (d.onDie g f).iw y = d.iw y := rfl
@[simp] theorem Dev.onDie_ibit (g : GroupIx) (f : Die → Die) (y j : Nat) : (d.onDie g f).ibit y j = d.ibit y j := rfl
@[simp] theorem Dev.onDie_ifld (g : GroupIx) (f : Die → Die) (y h l : Nat) : (d.onDie g f).ifld y h l = d.ifld y h l := rfl
@[simp] theorem Dev.onDie_iuw (g : GroupIx) (f : Die → Die) (y : Nat) : (d.onDie g f).iuw y = d.iuw y := rfl
@[simp] theorem Dev.onDie_isw (g : GroupIx) (f : Die → Die) (y : Nat) : (d.onDie g f).isw y = d.isw y := rfl

@[simp] theorem Dev.onPrm_part (p : GroupIx) (f : Prism → Prism) : (d.onPrm p f).part = d.part := rfl
@[simp] theorem Dev.onPrm_rev (p : GroupIx) (f : Prism → Prism) : (d.onPrm p f).rev = d.rev := rfl
@[simp] theorem Dev.onPrm_fuses (p : GroupIx) (f : Prism → Prism) : (d.onPrm p f).fuses = d.fuses := rfl
@[simp] theorem Dev.onPrm_devLog (p : GroupIx) (f : Prism → Prism) : (d.onPrm p f).devLog = d.devLog := rfl
@[simp] theorem Dev.onPrm_store (p : GroupIx) (f : Prism → Prism) : (d.onPrm p f).store = d.store := rfl
@[simp] theorem Dev.onPrm_marks (p : GroupIx) (f : Prism → Prism) : (d.onPrm p f).marks = d.marks := rfl
@[simp] theorem Dev.onPrm_tested (p : GroupIx) (f : Prism → Prism) : (d.onPrm p f).tested = d.tested := rfl
@[simp] theorem Dev.onPrm_logWrote (p : GroupIx) (f : Prism → Prism) : (d.onPrm p f).logWrote = d.logWrote := rfl
@[simp] theorem Dev.onPrm_resetN (p : GroupIx) (f : Prism → Prism) : (d.onPrm p f).resetN = d.resetN := rfl
@[simp] theorem Dev.onPrm_locked (p : GroupIx) (f : Prism → Prism) : (d.onPrm p f).locked = d.locked := rfl
@[simp] theorem Dev.onPrm_everLock (p : GroupIx) (f : Prism → Prism) : (d.onPrm p f).everLock = d.everLock := rfl
@[simp] theorem Dev.onPrm_heldOff (p : GroupIx) (f : Prism → Prism) : (d.onPrm p f).heldOff = d.heldOff := rfl
@[simp] theorem Dev.onPrm_cycles (p : GroupIx) (f : Prism → Prism) : (d.onPrm p f).cycles = d.cycles := rfl
@[simp] theorem Dev.onPrm_words (p : GroupIx) (f : Prism → Prism) : (d.onPrm p f).words = d.words := rfl
@[simp] theorem Dev.onPrm_inForce (p : GroupIx) (f : Prism → Prism) : (d.onPrm p f).inForce = d.inForce := rfl
@[simp] theorem Dev.onPrm_latches (p : GroupIx) (f : Prism → Prism) : (d.onPrm p f).latches = d.latches := rfl
@[simp] theorem Dev.onPrm_fab (p : GroupIx) (f : Prism → Prism) : (d.onPrm p f).fab = d.fab := rfl
@[simp] theorem Dev.onPrm_cyc0 (p : GroupIx) (f : Prism → Prism) : (d.onPrm p f).cyc0 = d.cyc0 := rfl
@[simp] theorem Dev.onPrm_fresh (p : GroupIx) (f : Prism → Prism) : (d.onPrm p f).fresh = d.fresh := rfl
@[simp] theorem Dev.onPrm_freshEv (p : GroupIx) (f : Prism → Prism) : (d.onPrm p f).freshEv = d.freshEv := rfl
@[simp] theorem Dev.onPrm_evLate (p : GroupIx) (f : Prism → Prism) : (d.onPrm p f).evLate = d.evLate := rfl
@[simp] theorem Dev.onPrm_closeLate (p : GroupIx) (f : Prism → Prism) : (d.onPrm p f).closeLate = d.closeLate := rfl
@[simp] theorem Dev.onPrm_motors (p : GroupIx) (f : Prism → Prism) : (d.onPrm p f).motors = d.motors := rfl
@[simp] theorem Dev.onPrm_groups (p : GroupIx) (f : Prism → Prism) : (d.onPrm p f).groups = d.groups := rfl
@[simp] theorem Dev.onPrm_bridges (p : GroupIx) (f : Prism → Prism) : (d.onPrm p f).bridges = d.bridges := rfl
@[simp] theorem Dev.onPrm_dies (p : GroupIx) (f : Prism → Prism) : (d.onPrm p f).dies = d.dies := rfl
@[simp] theorem Dev.onPrm_reports (p : GroupIx) (f : Prism → Prism) : (d.onPrm p f).reports = d.reports := rfl
@[simp] theorem Dev.onPrm_seqAt (p : GroupIx) (f : Prism → Prism) : (d.onPrm p f).seqAt = d.seqAt := rfl
@[simp] theorem Dev.onPrm_busDue (p : GroupIx) (f : Prism → Prism) : (d.onPrm p f).busDue = d.busDue := rfl
@[simp] theorem Dev.onPrm_glDue (p : GroupIx) (f : Prism → Prism) : (d.onPrm p f).glDue = d.glDue := rfl
@[simp] theorem Dev.onPrm_fbDue (p : GroupIx) (f : Prism → Prism) : (d.onPrm p f).fbDue = d.fbDue := rfl
@[simp] theorem Dev.onPrm_fbs (p : GroupIx) (f : Prism → Prism) : (d.onPrm p f).fbs = d.fbs := rfl
@[simp] theorem Dev.onPrm_dist (p : GroupIx) (f : Prism → Prism) : (d.onPrm p f).dist = d.dist := rfl
@[simp] theorem Dev.onPrm_traces (p : GroupIx) (f : Prism → Prism) : (d.onPrm p f).traces = d.traces := rfl
@[simp] theorem Dev.onPrm_tickAt (p : GroupIx) (f : Prism → Prism) : (d.onPrm p f).tickAt = d.tickAt := rfl
@[simp] theorem Dev.onPrm_ticks (p : GroupIx) (f : Prism → Prism) : (d.onPrm p f).ticks = d.ticks := rfl
@[simp] theorem Dev.onPrm_emptied (p : GroupIx) (f : Prism → Prism) : (d.onPrm p f).emptied = d.emptied := rfl
@[simp] theorem Dev.onPrm_secAt (p : GroupIx) (f : Prism → Prism) : (d.onPrm p f).secAt = d.secAt := rfl
@[simp] theorem Dev.onPrm_recq (p : GroupIx) (f : Prism → Prism) : (d.onPrm p f).recq = d.recq := rfl
@[simp] theorem Dev.onPrm_mbxIn (p : GroupIx) (f : Prism → Prism) : (d.onPrm p f).mbxIn = d.mbxIn := rfl
@[simp] theorem Dev.onPrm_mbxAt (p : GroupIx) (f : Prism → Prism) : (d.onPrm p f).mbxAt = d.mbxAt := rfl
@[simp] theorem Dev.onPrm_cplAt (p : GroupIx) (f : Prism → Prism) : (d.onPrm p f).cplAt = d.cplAt := rfl
@[simp] theorem Dev.onPrm_cplQt (p : GroupIx) (f : Prism → Prism) : (d.onPrm p f).cplQt = d.cplQt := rfl
@[simp] theorem Dev.onPrm_cplEdge (p : GroupIx) (f : Prism → Prism) : (d.onPrm p f).cplEdge = d.cplEdge := rfl
@[simp] theorem Dev.onPrm_cplFrom (p : GroupIx) (f : Prism → Prism) : (d.onPrm p f).cplFrom = d.cplFrom := rfl
@[simp] theorem Dev.onPrm_cplDone (p : GroupIx) (f : Prism → Prism) : (d.onPrm p f).cplDone = d.cplDone := rfl
@[simp] theorem Dev.onPrm_loader (p : GroupIx) (f : Prism → Prism) : (d.onPrm p f).loader = d.loader := rfl
@[simp] theorem Dev.onPrm_ports (p : GroupIx) (f : Prism → Prism) : (d.onPrm p f).ports = d.ports := rfl
@[simp] theorem Dev.onPrm_mem (p : GroupIx) (f : Prism → Prism) : (d.onPrm p f).mem = d.mem := rfl
@[simp] theorem Dev.onPrm_mirror (p : GroupIx) (f : Prism → Prism) : (d.onPrm p f).mirror = d.mirror := rfl
@[simp] theorem Dev.onPrm_therm (p : GroupIx) (f : Prism → Prism) : (d.onPrm p f).therm = d.therm := rfl
@[simp] theorem Dev.onPrm_thermAt (p : GroupIx) (f : Prism → Prism) : (d.onPrm p f).thermAt = d.thermAt := rfl
@[simp] theorem Dev.onPrm_power (p : GroupIx) (f : Prism → Prism) : (d.onPrm p f).power = d.power := rfl
@[simp] theorem Dev.onPrm_bist (p : GroupIx) (f : Prism → Prism) : (d.onPrm p f).bist = d.bist := rfl
@[simp] theorem Dev.onPrm_tap (p : GroupIx) (f : Prism → Prism) : (d.onPrm p f).tap = d.tap := rfl
@[simp] theorem Dev.onPrm_scan (p : GroupIx) (f : Prism → Prism) : (d.onPrm p f).scan = d.scan := rfl
@[simp] theorem Dev.onPrm_lc (p : GroupIx) (f : Prism → Prism) : (d.onPrm p f).lc = d.lc := rfl
@[simp] theorem Dev.onPrm_ev (p : GroupIx) (f : Prism → Prism) : (d.onPrm p f).ev = d.ev := rfl
@[simp] theorem Dev.onPrm_pend (p : GroupIx) (f : Prism → Prism) : (d.onPrm p f).pend = d.pend := rfl
@[simp] theorem Dev.onPrm_ppend (p : GroupIx) (f : Prism → Prism) : (d.onPrm p f).ppend = d.ppend := rfl
@[simp] theorem Dev.onPrm_ueAt (p : GroupIx) (f : Prism → Prism) : (d.onPrm p f).ueAt = d.ueAt := rfl
@[simp] theorem Dev.onPrm_faultAt (p : GroupIx) (f : Prism → Prism) : (d.onPrm p f).faultAt = d.faultAt := rfl
@[simp] theorem Dev.onPrm_scrubPos (p : GroupIx) (f : Prism → Prism) : (d.onPrm p f).scrubPos = d.scrubPos := rfl
@[simp] theorem Dev.onPrm_scrubCe (p : GroupIx) (f : Prism → Prism) : (d.onPrm p f).scrubCe = d.scrubCe := rfl
@[simp] theorem Dev.onPrm_scrubRaised (p : GroupIx) (f : Prism → Prism) : (d.onPrm p f).scrubRaised = d.scrubRaised := rfl
@[simp] theorem Dev.onPrm_backs (p : GroupIx) (f : Prism → Prism) : (d.onPrm p f).backs = d.backs := rfl
@[simp] theorem Dev.onPrm_free (p : GroupIx) (f : Prism → Prism) : (d.onPrm p f).free = d.free := rfl
@[simp] theorem Dev.onPrm_runs (p : GroupIx) (f : Prism → Prism) : (d.onPrm p f).runs = d.runs := rfl
@[simp] theorem Dev.onPrm_time (p : GroupIx) (f : Prism → Prism) : (d.onPrm p f).time = d.time := rfl
@[simp] theorem Dev.onPrm_sub (p : GroupIx) (f : Prism → Prism) : (d.onPrm p f).sub = d.sub := rfl
@[simp] theorem Dev.onPrm_micros (p : GroupIx) (f : Prism → Prism) : (d.onPrm p f).micros = d.micros := rfl
@[simp] theorem Dev.onPrm_mot (p : GroupIx) (f : Prism → Prism) (x : MotorIx) : (d.onPrm p f).mot x = d.mot x := rfl
@[simp] theorem Dev.onPrm_grp (p : GroupIx) (f : Prism → Prism) (x : GroupIx) : (d.onPrm p f).grp x = d.grp x := rfl
@[simp] theorem Dev.onPrm_brg (p : GroupIx) (f : Prism → Prism) (x : BridgeIx) : (d.onPrm p f).brg x = d.brg x := rfl
@[simp] theorem Dev.onPrm_die (p : GroupIx) (f : Prism → Prism) (x : GroupIx) : (d.onPrm p f).die x = d.die x := rfl
@[simp] theorem Dev.onPrm_fb (p : GroupIx) (f : Prism → Prism) (x : ChanIx) : (d.onPrm p f).fb x = d.fb x := rfl
@[simp] theorem Dev.onPrm_trc (p : GroupIx) (f : Prism → Prism) (x : TraceIx) : (d.onPrm p f).trc x = d.trc x := rfl
@[simp] theorem Dev.onPrm_hp (p : GroupIx) (f : Prism → Prism) (x : HostIx) : (d.onPrm p f).hp x = d.hp x := rfl
@[simp] theorem Dev.onPrm_sen (p : GroupIx) (f : Prism → Prism) (x : SensorIx) : (d.onPrm p f).sen x = d.sen x := rfl
@[simp] theorem Dev.onPrm_w (p : GroupIx) (f : Prism → Prism) (y : Nat) : (d.onPrm p f).w y = d.w y := rfl
@[simp] theorem Dev.onPrm_bit (p : GroupIx) (f : Prism → Prism) (y j : Nat) : (d.onPrm p f).bit y j = d.bit y j := rfl
@[simp] theorem Dev.onPrm_fld (p : GroupIx) (f : Prism → Prism) (y h l : Nat) : (d.onPrm p f).fld y h l = d.fld y h l := rfl
@[simp] theorem Dev.onPrm_uw (p : GroupIx) (f : Prism → Prism) (y : Nat) : (d.onPrm p f).uw y = d.uw y := rfl
@[simp] theorem Dev.onPrm_sw (p : GroupIx) (f : Prism → Prism) (y : Nat) : (d.onPrm p f).sw y = d.sw y := rfl
@[simp] theorem Dev.onPrm_w32 (p : GroupIx) (f : Prism → Prism) (y : Nat) : (d.onPrm p f).w32 y = d.w32 y := rfl
@[simp] theorem Dev.onPrm_iw (p : GroupIx) (f : Prism → Prism) (y : Nat) : (d.onPrm p f).iw y = d.iw y := rfl
@[simp] theorem Dev.onPrm_ibit (p : GroupIx) (f : Prism → Prism) (y j : Nat) : (d.onPrm p f).ibit y j = d.ibit y j := rfl
@[simp] theorem Dev.onPrm_ifld (p : GroupIx) (f : Prism → Prism) (y h l : Nat) : (d.onPrm p f).ifld y h l = d.ifld y h l := rfl
@[simp] theorem Dev.onPrm_iuw (p : GroupIx) (f : Prism → Prism) (y : Nat) : (d.onPrm p f).iuw y = d.iuw y := rfl
@[simp] theorem Dev.onPrm_isw (p : GroupIx) (f : Prism → Prism) (y : Nat) : (d.onPrm p f).isw y = d.isw y := rfl

@[simp] theorem Dev.onFb_part (c : ChanIx) (f : Fb → Fb) : (d.onFb c f).part = d.part := rfl
@[simp] theorem Dev.onFb_rev (c : ChanIx) (f : Fb → Fb) : (d.onFb c f).rev = d.rev := rfl
@[simp] theorem Dev.onFb_fuses (c : ChanIx) (f : Fb → Fb) : (d.onFb c f).fuses = d.fuses := rfl
@[simp] theorem Dev.onFb_devLog (c : ChanIx) (f : Fb → Fb) : (d.onFb c f).devLog = d.devLog := rfl
@[simp] theorem Dev.onFb_store (c : ChanIx) (f : Fb → Fb) : (d.onFb c f).store = d.store := rfl
@[simp] theorem Dev.onFb_marks (c : ChanIx) (f : Fb → Fb) : (d.onFb c f).marks = d.marks := rfl
@[simp] theorem Dev.onFb_tested (c : ChanIx) (f : Fb → Fb) : (d.onFb c f).tested = d.tested := rfl
@[simp] theorem Dev.onFb_logWrote (c : ChanIx) (f : Fb → Fb) : (d.onFb c f).logWrote = d.logWrote := rfl
@[simp] theorem Dev.onFb_resetN (c : ChanIx) (f : Fb → Fb) : (d.onFb c f).resetN = d.resetN := rfl
@[simp] theorem Dev.onFb_locked (c : ChanIx) (f : Fb → Fb) : (d.onFb c f).locked = d.locked := rfl
@[simp] theorem Dev.onFb_everLock (c : ChanIx) (f : Fb → Fb) : (d.onFb c f).everLock = d.everLock := rfl
@[simp] theorem Dev.onFb_heldOff (c : ChanIx) (f : Fb → Fb) : (d.onFb c f).heldOff = d.heldOff := rfl
@[simp] theorem Dev.onFb_cycles (c : ChanIx) (f : Fb → Fb) : (d.onFb c f).cycles = d.cycles := rfl
@[simp] theorem Dev.onFb_words (c : ChanIx) (f : Fb → Fb) : (d.onFb c f).words = d.words := rfl
@[simp] theorem Dev.onFb_inForce (c : ChanIx) (f : Fb → Fb) : (d.onFb c f).inForce = d.inForce := rfl
@[simp] theorem Dev.onFb_latches (c : ChanIx) (f : Fb → Fb) : (d.onFb c f).latches = d.latches := rfl
@[simp] theorem Dev.onFb_fab (c : ChanIx) (f : Fb → Fb) : (d.onFb c f).fab = d.fab := rfl
@[simp] theorem Dev.onFb_cyc0 (c : ChanIx) (f : Fb → Fb) : (d.onFb c f).cyc0 = d.cyc0 := rfl
@[simp] theorem Dev.onFb_fresh (c : ChanIx) (f : Fb → Fb) : (d.onFb c f).fresh = d.fresh := rfl
@[simp] theorem Dev.onFb_freshEv (c : ChanIx) (f : Fb → Fb) : (d.onFb c f).freshEv = d.freshEv := rfl
@[simp] theorem Dev.onFb_evLate (c : ChanIx) (f : Fb → Fb) : (d.onFb c f).evLate = d.evLate := rfl
@[simp] theorem Dev.onFb_closeLate (c : ChanIx) (f : Fb → Fb) : (d.onFb c f).closeLate = d.closeLate := rfl
@[simp] theorem Dev.onFb_motors (c : ChanIx) (f : Fb → Fb) : (d.onFb c f).motors = d.motors := rfl
@[simp] theorem Dev.onFb_groups (c : ChanIx) (f : Fb → Fb) : (d.onFb c f).groups = d.groups := rfl
@[simp] theorem Dev.onFb_bridges (c : ChanIx) (f : Fb → Fb) : (d.onFb c f).bridges = d.bridges := rfl
@[simp] theorem Dev.onFb_dies (c : ChanIx) (f : Fb → Fb) : (d.onFb c f).dies = d.dies := rfl
@[simp] theorem Dev.onFb_reports (c : ChanIx) (f : Fb → Fb) : (d.onFb c f).reports = d.reports := rfl
@[simp] theorem Dev.onFb_seqAt (c : ChanIx) (f : Fb → Fb) : (d.onFb c f).seqAt = d.seqAt := rfl
@[simp] theorem Dev.onFb_busDue (c : ChanIx) (f : Fb → Fb) : (d.onFb c f).busDue = d.busDue := rfl
@[simp] theorem Dev.onFb_glDue (c : ChanIx) (f : Fb → Fb) : (d.onFb c f).glDue = d.glDue := rfl
@[simp] theorem Dev.onFb_fbDue (c : ChanIx) (f : Fb → Fb) : (d.onFb c f).fbDue = d.fbDue := rfl
@[simp] theorem Dev.onFb_prisms (c : ChanIx) (f : Fb → Fb) : (d.onFb c f).prisms = d.prisms := rfl
@[simp] theorem Dev.onFb_dist (c : ChanIx) (f : Fb → Fb) : (d.onFb c f).dist = d.dist := rfl
@[simp] theorem Dev.onFb_traces (c : ChanIx) (f : Fb → Fb) : (d.onFb c f).traces = d.traces := rfl
@[simp] theorem Dev.onFb_tickAt (c : ChanIx) (f : Fb → Fb) : (d.onFb c f).tickAt = d.tickAt := rfl
@[simp] theorem Dev.onFb_ticks (c : ChanIx) (f : Fb → Fb) : (d.onFb c f).ticks = d.ticks := rfl
@[simp] theorem Dev.onFb_emptied (c : ChanIx) (f : Fb → Fb) : (d.onFb c f).emptied = d.emptied := rfl
@[simp] theorem Dev.onFb_secAt (c : ChanIx) (f : Fb → Fb) : (d.onFb c f).secAt = d.secAt := rfl
@[simp] theorem Dev.onFb_recq (c : ChanIx) (f : Fb → Fb) : (d.onFb c f).recq = d.recq := rfl
@[simp] theorem Dev.onFb_mbxIn (c : ChanIx) (f : Fb → Fb) : (d.onFb c f).mbxIn = d.mbxIn := rfl
@[simp] theorem Dev.onFb_mbxAt (c : ChanIx) (f : Fb → Fb) : (d.onFb c f).mbxAt = d.mbxAt := rfl
@[simp] theorem Dev.onFb_cplAt (c : ChanIx) (f : Fb → Fb) : (d.onFb c f).cplAt = d.cplAt := rfl
@[simp] theorem Dev.onFb_cplQt (c : ChanIx) (f : Fb → Fb) : (d.onFb c f).cplQt = d.cplQt := rfl
@[simp] theorem Dev.onFb_cplEdge (c : ChanIx) (f : Fb → Fb) : (d.onFb c f).cplEdge = d.cplEdge := rfl
@[simp] theorem Dev.onFb_cplFrom (c : ChanIx) (f : Fb → Fb) : (d.onFb c f).cplFrom = d.cplFrom := rfl
@[simp] theorem Dev.onFb_cplDone (c : ChanIx) (f : Fb → Fb) : (d.onFb c f).cplDone = d.cplDone := rfl
@[simp] theorem Dev.onFb_loader (c : ChanIx) (f : Fb → Fb) : (d.onFb c f).loader = d.loader := rfl
@[simp] theorem Dev.onFb_ports (c : ChanIx) (f : Fb → Fb) : (d.onFb c f).ports = d.ports := rfl
@[simp] theorem Dev.onFb_mem (c : ChanIx) (f : Fb → Fb) : (d.onFb c f).mem = d.mem := rfl
@[simp] theorem Dev.onFb_mirror (c : ChanIx) (f : Fb → Fb) : (d.onFb c f).mirror = d.mirror := rfl
@[simp] theorem Dev.onFb_therm (c : ChanIx) (f : Fb → Fb) : (d.onFb c f).therm = d.therm := rfl
@[simp] theorem Dev.onFb_thermAt (c : ChanIx) (f : Fb → Fb) : (d.onFb c f).thermAt = d.thermAt := rfl
@[simp] theorem Dev.onFb_power (c : ChanIx) (f : Fb → Fb) : (d.onFb c f).power = d.power := rfl
@[simp] theorem Dev.onFb_bist (c : ChanIx) (f : Fb → Fb) : (d.onFb c f).bist = d.bist := rfl
@[simp] theorem Dev.onFb_tap (c : ChanIx) (f : Fb → Fb) : (d.onFb c f).tap = d.tap := rfl
@[simp] theorem Dev.onFb_scan (c : ChanIx) (f : Fb → Fb) : (d.onFb c f).scan = d.scan := rfl
@[simp] theorem Dev.onFb_lc (c : ChanIx) (f : Fb → Fb) : (d.onFb c f).lc = d.lc := rfl
@[simp] theorem Dev.onFb_ev (c : ChanIx) (f : Fb → Fb) : (d.onFb c f).ev = d.ev := rfl
@[simp] theorem Dev.onFb_pend (c : ChanIx) (f : Fb → Fb) : (d.onFb c f).pend = d.pend := rfl
@[simp] theorem Dev.onFb_ppend (c : ChanIx) (f : Fb → Fb) : (d.onFb c f).ppend = d.ppend := rfl
@[simp] theorem Dev.onFb_ueAt (c : ChanIx) (f : Fb → Fb) : (d.onFb c f).ueAt = d.ueAt := rfl
@[simp] theorem Dev.onFb_faultAt (c : ChanIx) (f : Fb → Fb) : (d.onFb c f).faultAt = d.faultAt := rfl
@[simp] theorem Dev.onFb_scrubPos (c : ChanIx) (f : Fb → Fb) : (d.onFb c f).scrubPos = d.scrubPos := rfl
@[simp] theorem Dev.onFb_scrubCe (c : ChanIx) (f : Fb → Fb) : (d.onFb c f).scrubCe = d.scrubCe := rfl
@[simp] theorem Dev.onFb_scrubRaised (c : ChanIx) (f : Fb → Fb) : (d.onFb c f).scrubRaised = d.scrubRaised := rfl
@[simp] theorem Dev.onFb_backs (c : ChanIx) (f : Fb → Fb) : (d.onFb c f).backs = d.backs := rfl
@[simp] theorem Dev.onFb_free (c : ChanIx) (f : Fb → Fb) : (d.onFb c f).free = d.free := rfl
@[simp] theorem Dev.onFb_runs (c : ChanIx) (f : Fb → Fb) : (d.onFb c f).runs = d.runs := rfl
@[simp] theorem Dev.onFb_time (c : ChanIx) (f : Fb → Fb) : (d.onFb c f).time = d.time := rfl
@[simp] theorem Dev.onFb_sub (c : ChanIx) (f : Fb → Fb) : (d.onFb c f).sub = d.sub := rfl
@[simp] theorem Dev.onFb_micros (c : ChanIx) (f : Fb → Fb) : (d.onFb c f).micros = d.micros := rfl
@[simp] theorem Dev.onFb_mot (c : ChanIx) (f : Fb → Fb) (x : MotorIx) : (d.onFb c f).mot x = d.mot x := rfl
@[simp] theorem Dev.onFb_grp (c : ChanIx) (f : Fb → Fb) (x : GroupIx) : (d.onFb c f).grp x = d.grp x := rfl
@[simp] theorem Dev.onFb_brg (c : ChanIx) (f : Fb → Fb) (x : BridgeIx) : (d.onFb c f).brg x = d.brg x := rfl
@[simp] theorem Dev.onFb_die (c : ChanIx) (f : Fb → Fb) (x : GroupIx) : (d.onFb c f).die x = d.die x := rfl
@[simp] theorem Dev.onFb_prm (c : ChanIx) (f : Fb → Fb) (x : GroupIx) : (d.onFb c f).prm x = d.prm x := rfl
@[simp] theorem Dev.onFb_trc (c : ChanIx) (f : Fb → Fb) (x : TraceIx) : (d.onFb c f).trc x = d.trc x := rfl
@[simp] theorem Dev.onFb_hp (c : ChanIx) (f : Fb → Fb) (x : HostIx) : (d.onFb c f).hp x = d.hp x := rfl
@[simp] theorem Dev.onFb_sen (c : ChanIx) (f : Fb → Fb) (x : SensorIx) : (d.onFb c f).sen x = d.sen x := rfl
@[simp] theorem Dev.onFb_w (c : ChanIx) (f : Fb → Fb) (y : Nat) : (d.onFb c f).w y = d.w y := rfl
@[simp] theorem Dev.onFb_bit (c : ChanIx) (f : Fb → Fb) (y j : Nat) : (d.onFb c f).bit y j = d.bit y j := rfl
@[simp] theorem Dev.onFb_fld (c : ChanIx) (f : Fb → Fb) (y h l : Nat) : (d.onFb c f).fld y h l = d.fld y h l := rfl
@[simp] theorem Dev.onFb_uw (c : ChanIx) (f : Fb → Fb) (y : Nat) : (d.onFb c f).uw y = d.uw y := rfl
@[simp] theorem Dev.onFb_sw (c : ChanIx) (f : Fb → Fb) (y : Nat) : (d.onFb c f).sw y = d.sw y := rfl
@[simp] theorem Dev.onFb_w32 (c : ChanIx) (f : Fb → Fb) (y : Nat) : (d.onFb c f).w32 y = d.w32 y := rfl
@[simp] theorem Dev.onFb_iw (c : ChanIx) (f : Fb → Fb) (y : Nat) : (d.onFb c f).iw y = d.iw y := rfl
@[simp] theorem Dev.onFb_ibit (c : ChanIx) (f : Fb → Fb) (y j : Nat) : (d.onFb c f).ibit y j = d.ibit y j := rfl
@[simp] theorem Dev.onFb_ifld (c : ChanIx) (f : Fb → Fb) (y h l : Nat) : (d.onFb c f).ifld y h l = d.ifld y h l := rfl
@[simp] theorem Dev.onFb_iuw (c : ChanIx) (f : Fb → Fb) (y : Nat) : (d.onFb c f).iuw y = d.iuw y := rfl
@[simp] theorem Dev.onFb_isw (c : ChanIx) (f : Fb → Fb) (y : Nat) : (d.onFb c f).isw y = d.isw y := rfl

@[simp] theorem Dev.onTrc_part (t : TraceIx) (f : Trace → Trace) : (d.onTrc t f).part = d.part := rfl
@[simp] theorem Dev.onTrc_rev (t : TraceIx) (f : Trace → Trace) : (d.onTrc t f).rev = d.rev := rfl
@[simp] theorem Dev.onTrc_fuses (t : TraceIx) (f : Trace → Trace) : (d.onTrc t f).fuses = d.fuses := rfl
@[simp] theorem Dev.onTrc_devLog (t : TraceIx) (f : Trace → Trace) : (d.onTrc t f).devLog = d.devLog := rfl
@[simp] theorem Dev.onTrc_store (t : TraceIx) (f : Trace → Trace) : (d.onTrc t f).store = d.store := rfl
@[simp] theorem Dev.onTrc_marks (t : TraceIx) (f : Trace → Trace) : (d.onTrc t f).marks = d.marks := rfl
@[simp] theorem Dev.onTrc_tested (t : TraceIx) (f : Trace → Trace) : (d.onTrc t f).tested = d.tested := rfl
@[simp] theorem Dev.onTrc_logWrote (t : TraceIx) (f : Trace → Trace) : (d.onTrc t f).logWrote = d.logWrote := rfl
@[simp] theorem Dev.onTrc_resetN (t : TraceIx) (f : Trace → Trace) : (d.onTrc t f).resetN = d.resetN := rfl
@[simp] theorem Dev.onTrc_locked (t : TraceIx) (f : Trace → Trace) : (d.onTrc t f).locked = d.locked := rfl
@[simp] theorem Dev.onTrc_everLock (t : TraceIx) (f : Trace → Trace) : (d.onTrc t f).everLock = d.everLock := rfl
@[simp] theorem Dev.onTrc_heldOff (t : TraceIx) (f : Trace → Trace) : (d.onTrc t f).heldOff = d.heldOff := rfl
@[simp] theorem Dev.onTrc_cycles (t : TraceIx) (f : Trace → Trace) : (d.onTrc t f).cycles = d.cycles := rfl
@[simp] theorem Dev.onTrc_words (t : TraceIx) (f : Trace → Trace) : (d.onTrc t f).words = d.words := rfl
@[simp] theorem Dev.onTrc_inForce (t : TraceIx) (f : Trace → Trace) : (d.onTrc t f).inForce = d.inForce := rfl
@[simp] theorem Dev.onTrc_latches (t : TraceIx) (f : Trace → Trace) : (d.onTrc t f).latches = d.latches := rfl
@[simp] theorem Dev.onTrc_fab (t : TraceIx) (f : Trace → Trace) : (d.onTrc t f).fab = d.fab := rfl
@[simp] theorem Dev.onTrc_cyc0 (t : TraceIx) (f : Trace → Trace) : (d.onTrc t f).cyc0 = d.cyc0 := rfl
@[simp] theorem Dev.onTrc_fresh (t : TraceIx) (f : Trace → Trace) : (d.onTrc t f).fresh = d.fresh := rfl
@[simp] theorem Dev.onTrc_freshEv (t : TraceIx) (f : Trace → Trace) : (d.onTrc t f).freshEv = d.freshEv := rfl
@[simp] theorem Dev.onTrc_evLate (t : TraceIx) (f : Trace → Trace) : (d.onTrc t f).evLate = d.evLate := rfl
@[simp] theorem Dev.onTrc_closeLate (t : TraceIx) (f : Trace → Trace) : (d.onTrc t f).closeLate = d.closeLate := rfl
@[simp] theorem Dev.onTrc_motors (t : TraceIx) (f : Trace → Trace) : (d.onTrc t f).motors = d.motors := rfl
@[simp] theorem Dev.onTrc_groups (t : TraceIx) (f : Trace → Trace) : (d.onTrc t f).groups = d.groups := rfl
@[simp] theorem Dev.onTrc_bridges (t : TraceIx) (f : Trace → Trace) : (d.onTrc t f).bridges = d.bridges := rfl
@[simp] theorem Dev.onTrc_dies (t : TraceIx) (f : Trace → Trace) : (d.onTrc t f).dies = d.dies := rfl
@[simp] theorem Dev.onTrc_reports (t : TraceIx) (f : Trace → Trace) : (d.onTrc t f).reports = d.reports := rfl
@[simp] theorem Dev.onTrc_seqAt (t : TraceIx) (f : Trace → Trace) : (d.onTrc t f).seqAt = d.seqAt := rfl
@[simp] theorem Dev.onTrc_busDue (t : TraceIx) (f : Trace → Trace) : (d.onTrc t f).busDue = d.busDue := rfl
@[simp] theorem Dev.onTrc_glDue (t : TraceIx) (f : Trace → Trace) : (d.onTrc t f).glDue = d.glDue := rfl
@[simp] theorem Dev.onTrc_fbDue (t : TraceIx) (f : Trace → Trace) : (d.onTrc t f).fbDue = d.fbDue := rfl
@[simp] theorem Dev.onTrc_prisms (t : TraceIx) (f : Trace → Trace) : (d.onTrc t f).prisms = d.prisms := rfl
@[simp] theorem Dev.onTrc_fbs (t : TraceIx) (f : Trace → Trace) : (d.onTrc t f).fbs = d.fbs := rfl
@[simp] theorem Dev.onTrc_dist (t : TraceIx) (f : Trace → Trace) : (d.onTrc t f).dist = d.dist := rfl
@[simp] theorem Dev.onTrc_tickAt (t : TraceIx) (f : Trace → Trace) : (d.onTrc t f).tickAt = d.tickAt := rfl
@[simp] theorem Dev.onTrc_ticks (t : TraceIx) (f : Trace → Trace) : (d.onTrc t f).ticks = d.ticks := rfl
@[simp] theorem Dev.onTrc_emptied (t : TraceIx) (f : Trace → Trace) : (d.onTrc t f).emptied = d.emptied := rfl
@[simp] theorem Dev.onTrc_secAt (t : TraceIx) (f : Trace → Trace) : (d.onTrc t f).secAt = d.secAt := rfl
@[simp] theorem Dev.onTrc_recq (t : TraceIx) (f : Trace → Trace) : (d.onTrc t f).recq = d.recq := rfl
@[simp] theorem Dev.onTrc_mbxIn (t : TraceIx) (f : Trace → Trace) : (d.onTrc t f).mbxIn = d.mbxIn := rfl
@[simp] theorem Dev.onTrc_mbxAt (t : TraceIx) (f : Trace → Trace) : (d.onTrc t f).mbxAt = d.mbxAt := rfl
@[simp] theorem Dev.onTrc_cplAt (t : TraceIx) (f : Trace → Trace) : (d.onTrc t f).cplAt = d.cplAt := rfl
@[simp] theorem Dev.onTrc_cplQt (t : TraceIx) (f : Trace → Trace) : (d.onTrc t f).cplQt = d.cplQt := rfl
@[simp] theorem Dev.onTrc_cplEdge (t : TraceIx) (f : Trace → Trace) : (d.onTrc t f).cplEdge = d.cplEdge := rfl
@[simp] theorem Dev.onTrc_cplFrom (t : TraceIx) (f : Trace → Trace) : (d.onTrc t f).cplFrom = d.cplFrom := rfl
@[simp] theorem Dev.onTrc_cplDone (t : TraceIx) (f : Trace → Trace) : (d.onTrc t f).cplDone = d.cplDone := rfl
@[simp] theorem Dev.onTrc_loader (t : TraceIx) (f : Trace → Trace) : (d.onTrc t f).loader = d.loader := rfl
@[simp] theorem Dev.onTrc_ports (t : TraceIx) (f : Trace → Trace) : (d.onTrc t f).ports = d.ports := rfl
@[simp] theorem Dev.onTrc_mem (t : TraceIx) (f : Trace → Trace) : (d.onTrc t f).mem = d.mem := rfl
@[simp] theorem Dev.onTrc_mirror (t : TraceIx) (f : Trace → Trace) : (d.onTrc t f).mirror = d.mirror := rfl
@[simp] theorem Dev.onTrc_therm (t : TraceIx) (f : Trace → Trace) : (d.onTrc t f).therm = d.therm := rfl
@[simp] theorem Dev.onTrc_thermAt (t : TraceIx) (f : Trace → Trace) : (d.onTrc t f).thermAt = d.thermAt := rfl
@[simp] theorem Dev.onTrc_power (t : TraceIx) (f : Trace → Trace) : (d.onTrc t f).power = d.power := rfl
@[simp] theorem Dev.onTrc_bist (t : TraceIx) (f : Trace → Trace) : (d.onTrc t f).bist = d.bist := rfl
@[simp] theorem Dev.onTrc_tap (t : TraceIx) (f : Trace → Trace) : (d.onTrc t f).tap = d.tap := rfl
@[simp] theorem Dev.onTrc_scan (t : TraceIx) (f : Trace → Trace) : (d.onTrc t f).scan = d.scan := rfl
@[simp] theorem Dev.onTrc_lc (t : TraceIx) (f : Trace → Trace) : (d.onTrc t f).lc = d.lc := rfl
@[simp] theorem Dev.onTrc_ev (t : TraceIx) (f : Trace → Trace) : (d.onTrc t f).ev = d.ev := rfl
@[simp] theorem Dev.onTrc_pend (t : TraceIx) (f : Trace → Trace) : (d.onTrc t f).pend = d.pend := rfl
@[simp] theorem Dev.onTrc_ppend (t : TraceIx) (f : Trace → Trace) : (d.onTrc t f).ppend = d.ppend := rfl
@[simp] theorem Dev.onTrc_ueAt (t : TraceIx) (f : Trace → Trace) : (d.onTrc t f).ueAt = d.ueAt := rfl
@[simp] theorem Dev.onTrc_faultAt (t : TraceIx) (f : Trace → Trace) : (d.onTrc t f).faultAt = d.faultAt := rfl
@[simp] theorem Dev.onTrc_scrubPos (t : TraceIx) (f : Trace → Trace) : (d.onTrc t f).scrubPos = d.scrubPos := rfl
@[simp] theorem Dev.onTrc_scrubCe (t : TraceIx) (f : Trace → Trace) : (d.onTrc t f).scrubCe = d.scrubCe := rfl
@[simp] theorem Dev.onTrc_scrubRaised (t : TraceIx) (f : Trace → Trace) : (d.onTrc t f).scrubRaised = d.scrubRaised := rfl
@[simp] theorem Dev.onTrc_backs (t : TraceIx) (f : Trace → Trace) : (d.onTrc t f).backs = d.backs := rfl
@[simp] theorem Dev.onTrc_free (t : TraceIx) (f : Trace → Trace) : (d.onTrc t f).free = d.free := rfl
@[simp] theorem Dev.onTrc_runs (t : TraceIx) (f : Trace → Trace) : (d.onTrc t f).runs = d.runs := rfl
@[simp] theorem Dev.onTrc_time (t : TraceIx) (f : Trace → Trace) : (d.onTrc t f).time = d.time := rfl
@[simp] theorem Dev.onTrc_sub (t : TraceIx) (f : Trace → Trace) : (d.onTrc t f).sub = d.sub := rfl
@[simp] theorem Dev.onTrc_micros (t : TraceIx) (f : Trace → Trace) : (d.onTrc t f).micros = d.micros := rfl
@[simp] theorem Dev.onTrc_mot (t : TraceIx) (f : Trace → Trace) (x : MotorIx) : (d.onTrc t f).mot x = d.mot x := rfl
@[simp] theorem Dev.onTrc_grp (t : TraceIx) (f : Trace → Trace) (x : GroupIx) : (d.onTrc t f).grp x = d.grp x := rfl
@[simp] theorem Dev.onTrc_brg (t : TraceIx) (f : Trace → Trace) (x : BridgeIx) : (d.onTrc t f).brg x = d.brg x := rfl
@[simp] theorem Dev.onTrc_die (t : TraceIx) (f : Trace → Trace) (x : GroupIx) : (d.onTrc t f).die x = d.die x := rfl
@[simp] theorem Dev.onTrc_prm (t : TraceIx) (f : Trace → Trace) (x : GroupIx) : (d.onTrc t f).prm x = d.prm x := rfl
@[simp] theorem Dev.onTrc_fb (t : TraceIx) (f : Trace → Trace) (x : ChanIx) : (d.onTrc t f).fb x = d.fb x := rfl
@[simp] theorem Dev.onTrc_hp (t : TraceIx) (f : Trace → Trace) (x : HostIx) : (d.onTrc t f).hp x = d.hp x := rfl
@[simp] theorem Dev.onTrc_sen (t : TraceIx) (f : Trace → Trace) (x : SensorIx) : (d.onTrc t f).sen x = d.sen x := rfl
@[simp] theorem Dev.onTrc_w (t : TraceIx) (f : Trace → Trace) (y : Nat) : (d.onTrc t f).w y = d.w y := rfl
@[simp] theorem Dev.onTrc_bit (t : TraceIx) (f : Trace → Trace) (y j : Nat) : (d.onTrc t f).bit y j = d.bit y j := rfl
@[simp] theorem Dev.onTrc_fld (t : TraceIx) (f : Trace → Trace) (y h l : Nat) : (d.onTrc t f).fld y h l = d.fld y h l := rfl
@[simp] theorem Dev.onTrc_uw (t : TraceIx) (f : Trace → Trace) (y : Nat) : (d.onTrc t f).uw y = d.uw y := rfl
@[simp] theorem Dev.onTrc_sw (t : TraceIx) (f : Trace → Trace) (y : Nat) : (d.onTrc t f).sw y = d.sw y := rfl
@[simp] theorem Dev.onTrc_w32 (t : TraceIx) (f : Trace → Trace) (y : Nat) : (d.onTrc t f).w32 y = d.w32 y := rfl
@[simp] theorem Dev.onTrc_iw (t : TraceIx) (f : Trace → Trace) (y : Nat) : (d.onTrc t f).iw y = d.iw y := rfl
@[simp] theorem Dev.onTrc_ibit (t : TraceIx) (f : Trace → Trace) (y j : Nat) : (d.onTrc t f).ibit y j = d.ibit y j := rfl
@[simp] theorem Dev.onTrc_ifld (t : TraceIx) (f : Trace → Trace) (y h l : Nat) : (d.onTrc t f).ifld y h l = d.ifld y h l := rfl
@[simp] theorem Dev.onTrc_iuw (t : TraceIx) (f : Trace → Trace) (y : Nat) : (d.onTrc t f).iuw y = d.iuw y := rfl
@[simp] theorem Dev.onTrc_isw (t : TraceIx) (f : Trace → Trace) (y : Nat) : (d.onTrc t f).isw y = d.isw y := rfl

@[simp] theorem Dev.onHp_part (k : HostIx) (f : HostPort → HostPort) : (d.onHp k f).part = d.part := rfl
@[simp] theorem Dev.onHp_rev (k : HostIx) (f : HostPort → HostPort) : (d.onHp k f).rev = d.rev := rfl
@[simp] theorem Dev.onHp_fuses (k : HostIx) (f : HostPort → HostPort) : (d.onHp k f).fuses = d.fuses := rfl
@[simp] theorem Dev.onHp_devLog (k : HostIx) (f : HostPort → HostPort) : (d.onHp k f).devLog = d.devLog := rfl
@[simp] theorem Dev.onHp_store (k : HostIx) (f : HostPort → HostPort) : (d.onHp k f).store = d.store := rfl
@[simp] theorem Dev.onHp_marks (k : HostIx) (f : HostPort → HostPort) : (d.onHp k f).marks = d.marks := rfl
@[simp] theorem Dev.onHp_tested (k : HostIx) (f : HostPort → HostPort) : (d.onHp k f).tested = d.tested := rfl
@[simp] theorem Dev.onHp_logWrote (k : HostIx) (f : HostPort → HostPort) : (d.onHp k f).logWrote = d.logWrote := rfl
@[simp] theorem Dev.onHp_resetN (k : HostIx) (f : HostPort → HostPort) : (d.onHp k f).resetN = d.resetN := rfl
@[simp] theorem Dev.onHp_locked (k : HostIx) (f : HostPort → HostPort) : (d.onHp k f).locked = d.locked := rfl
@[simp] theorem Dev.onHp_everLock (k : HostIx) (f : HostPort → HostPort) : (d.onHp k f).everLock = d.everLock := rfl
@[simp] theorem Dev.onHp_heldOff (k : HostIx) (f : HostPort → HostPort) : (d.onHp k f).heldOff = d.heldOff := rfl
@[simp] theorem Dev.onHp_cycles (k : HostIx) (f : HostPort → HostPort) : (d.onHp k f).cycles = d.cycles := rfl
@[simp] theorem Dev.onHp_words (k : HostIx) (f : HostPort → HostPort) : (d.onHp k f).words = d.words := rfl
@[simp] theorem Dev.onHp_inForce (k : HostIx) (f : HostPort → HostPort) : (d.onHp k f).inForce = d.inForce := rfl
@[simp] theorem Dev.onHp_latches (k : HostIx) (f : HostPort → HostPort) : (d.onHp k f).latches = d.latches := rfl
@[simp] theorem Dev.onHp_fab (k : HostIx) (f : HostPort → HostPort) : (d.onHp k f).fab = d.fab := rfl
@[simp] theorem Dev.onHp_cyc0 (k : HostIx) (f : HostPort → HostPort) : (d.onHp k f).cyc0 = d.cyc0 := rfl
@[simp] theorem Dev.onHp_fresh (k : HostIx) (f : HostPort → HostPort) : (d.onHp k f).fresh = d.fresh := rfl
@[simp] theorem Dev.onHp_freshEv (k : HostIx) (f : HostPort → HostPort) : (d.onHp k f).freshEv = d.freshEv := rfl
@[simp] theorem Dev.onHp_evLate (k : HostIx) (f : HostPort → HostPort) : (d.onHp k f).evLate = d.evLate := rfl
@[simp] theorem Dev.onHp_closeLate (k : HostIx) (f : HostPort → HostPort) : (d.onHp k f).closeLate = d.closeLate := rfl
@[simp] theorem Dev.onHp_motors (k : HostIx) (f : HostPort → HostPort) : (d.onHp k f).motors = d.motors := rfl
@[simp] theorem Dev.onHp_groups (k : HostIx) (f : HostPort → HostPort) : (d.onHp k f).groups = d.groups := rfl
@[simp] theorem Dev.onHp_bridges (k : HostIx) (f : HostPort → HostPort) : (d.onHp k f).bridges = d.bridges := rfl
@[simp] theorem Dev.onHp_dies (k : HostIx) (f : HostPort → HostPort) : (d.onHp k f).dies = d.dies := rfl
@[simp] theorem Dev.onHp_reports (k : HostIx) (f : HostPort → HostPort) : (d.onHp k f).reports = d.reports := rfl
@[simp] theorem Dev.onHp_seqAt (k : HostIx) (f : HostPort → HostPort) : (d.onHp k f).seqAt = d.seqAt := rfl
@[simp] theorem Dev.onHp_busDue (k : HostIx) (f : HostPort → HostPort) : (d.onHp k f).busDue = d.busDue := rfl
@[simp] theorem Dev.onHp_glDue (k : HostIx) (f : HostPort → HostPort) : (d.onHp k f).glDue = d.glDue := rfl
@[simp] theorem Dev.onHp_fbDue (k : HostIx) (f : HostPort → HostPort) : (d.onHp k f).fbDue = d.fbDue := rfl
@[simp] theorem Dev.onHp_prisms (k : HostIx) (f : HostPort → HostPort) : (d.onHp k f).prisms = d.prisms := rfl
@[simp] theorem Dev.onHp_fbs (k : HostIx) (f : HostPort → HostPort) : (d.onHp k f).fbs = d.fbs := rfl
@[simp] theorem Dev.onHp_dist (k : HostIx) (f : HostPort → HostPort) : (d.onHp k f).dist = d.dist := rfl
@[simp] theorem Dev.onHp_traces (k : HostIx) (f : HostPort → HostPort) : (d.onHp k f).traces = d.traces := rfl
@[simp] theorem Dev.onHp_tickAt (k : HostIx) (f : HostPort → HostPort) : (d.onHp k f).tickAt = d.tickAt := rfl
@[simp] theorem Dev.onHp_ticks (k : HostIx) (f : HostPort → HostPort) : (d.onHp k f).ticks = d.ticks := rfl
@[simp] theorem Dev.onHp_emptied (k : HostIx) (f : HostPort → HostPort) : (d.onHp k f).emptied = d.emptied := rfl
@[simp] theorem Dev.onHp_secAt (k : HostIx) (f : HostPort → HostPort) : (d.onHp k f).secAt = d.secAt := rfl
@[simp] theorem Dev.onHp_recq (k : HostIx) (f : HostPort → HostPort) : (d.onHp k f).recq = d.recq := rfl
@[simp] theorem Dev.onHp_mbxIn (k : HostIx) (f : HostPort → HostPort) : (d.onHp k f).mbxIn = d.mbxIn := rfl
@[simp] theorem Dev.onHp_mbxAt (k : HostIx) (f : HostPort → HostPort) : (d.onHp k f).mbxAt = d.mbxAt := rfl
@[simp] theorem Dev.onHp_cplAt (k : HostIx) (f : HostPort → HostPort) : (d.onHp k f).cplAt = d.cplAt := rfl
@[simp] theorem Dev.onHp_cplQt (k : HostIx) (f : HostPort → HostPort) : (d.onHp k f).cplQt = d.cplQt := rfl
@[simp] theorem Dev.onHp_cplEdge (k : HostIx) (f : HostPort → HostPort) : (d.onHp k f).cplEdge = d.cplEdge := rfl
@[simp] theorem Dev.onHp_cplFrom (k : HostIx) (f : HostPort → HostPort) : (d.onHp k f).cplFrom = d.cplFrom := rfl
@[simp] theorem Dev.onHp_cplDone (k : HostIx) (f : HostPort → HostPort) : (d.onHp k f).cplDone = d.cplDone := rfl
@[simp] theorem Dev.onHp_loader (k : HostIx) (f : HostPort → HostPort) : (d.onHp k f).loader = d.loader := rfl
@[simp] theorem Dev.onHp_mem (k : HostIx) (f : HostPort → HostPort) : (d.onHp k f).mem = d.mem := rfl
@[simp] theorem Dev.onHp_mirror (k : HostIx) (f : HostPort → HostPort) : (d.onHp k f).mirror = d.mirror := rfl
@[simp] theorem Dev.onHp_therm (k : HostIx) (f : HostPort → HostPort) : (d.onHp k f).therm = d.therm := rfl
@[simp] theorem Dev.onHp_thermAt (k : HostIx) (f : HostPort → HostPort) : (d.onHp k f).thermAt = d.thermAt := rfl
@[simp] theorem Dev.onHp_power (k : HostIx) (f : HostPort → HostPort) : (d.onHp k f).power = d.power := rfl
@[simp] theorem Dev.onHp_bist (k : HostIx) (f : HostPort → HostPort) : (d.onHp k f).bist = d.bist := rfl
@[simp] theorem Dev.onHp_tap (k : HostIx) (f : HostPort → HostPort) : (d.onHp k f).tap = d.tap := rfl
@[simp] theorem Dev.onHp_scan (k : HostIx) (f : HostPort → HostPort) : (d.onHp k f).scan = d.scan := rfl
@[simp] theorem Dev.onHp_lc (k : HostIx) (f : HostPort → HostPort) : (d.onHp k f).lc = d.lc := rfl
@[simp] theorem Dev.onHp_ev (k : HostIx) (f : HostPort → HostPort) : (d.onHp k f).ev = d.ev := rfl
@[simp] theorem Dev.onHp_pend (k : HostIx) (f : HostPort → HostPort) : (d.onHp k f).pend = d.pend := rfl
@[simp] theorem Dev.onHp_ppend (k : HostIx) (f : HostPort → HostPort) : (d.onHp k f).ppend = d.ppend := rfl
@[simp] theorem Dev.onHp_ueAt (k : HostIx) (f : HostPort → HostPort) : (d.onHp k f).ueAt = d.ueAt := rfl
@[simp] theorem Dev.onHp_faultAt (k : HostIx) (f : HostPort → HostPort) : (d.onHp k f).faultAt = d.faultAt := rfl
@[simp] theorem Dev.onHp_scrubPos (k : HostIx) (f : HostPort → HostPort) : (d.onHp k f).scrubPos = d.scrubPos := rfl
@[simp] theorem Dev.onHp_scrubCe (k : HostIx) (f : HostPort → HostPort) : (d.onHp k f).scrubCe = d.scrubCe := rfl
@[simp] theorem Dev.onHp_scrubRaised (k : HostIx) (f : HostPort → HostPort) : (d.onHp k f).scrubRaised = d.scrubRaised := rfl
@[simp] theorem Dev.onHp_backs (k : HostIx) (f : HostPort → HostPort) : (d.onHp k f).backs = d.backs := rfl
@[simp] theorem Dev.onHp_free (k : HostIx) (f : HostPort → HostPort) : (d.onHp k f).free = d.free := rfl
@[simp] theorem Dev.onHp_runs (k : HostIx) (f : HostPort → HostPort) : (d.onHp k f).runs = d.runs := rfl
@[simp] theorem Dev.onHp_time (k : HostIx) (f : HostPort → HostPort) : (d.onHp k f).time = d.time := rfl
@[simp] theorem Dev.onHp_sub (k : HostIx) (f : HostPort → HostPort) : (d.onHp k f).sub = d.sub := rfl
@[simp] theorem Dev.onHp_micros (k : HostIx) (f : HostPort → HostPort) : (d.onHp k f).micros = d.micros := rfl
@[simp] theorem Dev.onHp_mot (k : HostIx) (f : HostPort → HostPort) (x : MotorIx) : (d.onHp k f).mot x = d.mot x := rfl
@[simp] theorem Dev.onHp_grp (k : HostIx) (f : HostPort → HostPort) (x : GroupIx) : (d.onHp k f).grp x = d.grp x := rfl
@[simp] theorem Dev.onHp_brg (k : HostIx) (f : HostPort → HostPort) (x : BridgeIx) : (d.onHp k f).brg x = d.brg x := rfl
@[simp] theorem Dev.onHp_die (k : HostIx) (f : HostPort → HostPort) (x : GroupIx) : (d.onHp k f).die x = d.die x := rfl
@[simp] theorem Dev.onHp_prm (k : HostIx) (f : HostPort → HostPort) (x : GroupIx) : (d.onHp k f).prm x = d.prm x := rfl
@[simp] theorem Dev.onHp_fb (k : HostIx) (f : HostPort → HostPort) (x : ChanIx) : (d.onHp k f).fb x = d.fb x := rfl
@[simp] theorem Dev.onHp_trc (k : HostIx) (f : HostPort → HostPort) (x : TraceIx) : (d.onHp k f).trc x = d.trc x := rfl
@[simp] theorem Dev.onHp_sen (k : HostIx) (f : HostPort → HostPort) (x : SensorIx) : (d.onHp k f).sen x = d.sen x := rfl
@[simp] theorem Dev.onHp_w (k : HostIx) (f : HostPort → HostPort) (y : Nat) : (d.onHp k f).w y = d.w y := rfl
@[simp] theorem Dev.onHp_bit (k : HostIx) (f : HostPort → HostPort) (y j : Nat) : (d.onHp k f).bit y j = d.bit y j := rfl
@[simp] theorem Dev.onHp_fld (k : HostIx) (f : HostPort → HostPort) (y h l : Nat) : (d.onHp k f).fld y h l = d.fld y h l := rfl
@[simp] theorem Dev.onHp_uw (k : HostIx) (f : HostPort → HostPort) (y : Nat) : (d.onHp k f).uw y = d.uw y := rfl
@[simp] theorem Dev.onHp_sw (k : HostIx) (f : HostPort → HostPort) (y : Nat) : (d.onHp k f).sw y = d.sw y := rfl
@[simp] theorem Dev.onHp_w32 (k : HostIx) (f : HostPort → HostPort) (y : Nat) : (d.onHp k f).w32 y = d.w32 y := rfl
@[simp] theorem Dev.onHp_iw (k : HostIx) (f : HostPort → HostPort) (y : Nat) : (d.onHp k f).iw y = d.iw y := rfl
@[simp] theorem Dev.onHp_ibit (k : HostIx) (f : HostPort → HostPort) (y j : Nat) : (d.onHp k f).ibit y j = d.ibit y j := rfl
@[simp] theorem Dev.onHp_ifld (k : HostIx) (f : HostPort → HostPort) (y h l : Nat) : (d.onHp k f).ifld y h l = d.ifld y h l := rfl
@[simp] theorem Dev.onHp_iuw (k : HostIx) (f : HostPort → HostPort) (y : Nat) : (d.onHp k f).iuw y = d.iuw y := rfl
@[simp] theorem Dev.onHp_isw (k : HostIx) (f : HostPort → HostPort) (y : Nat) : (d.onHp k f).isw y = d.isw y := rfl

@[simp] theorem Dev.onSen_part (s : SensorIx) (f : ThermSen → ThermSen) : (d.onSen s f).part = d.part := rfl
@[simp] theorem Dev.onSen_rev (s : SensorIx) (f : ThermSen → ThermSen) : (d.onSen s f).rev = d.rev := rfl
@[simp] theorem Dev.onSen_fuses (s : SensorIx) (f : ThermSen → ThermSen) : (d.onSen s f).fuses = d.fuses := rfl
@[simp] theorem Dev.onSen_devLog (s : SensorIx) (f : ThermSen → ThermSen) : (d.onSen s f).devLog = d.devLog := rfl
@[simp] theorem Dev.onSen_store (s : SensorIx) (f : ThermSen → ThermSen) : (d.onSen s f).store = d.store := rfl
@[simp] theorem Dev.onSen_marks (s : SensorIx) (f : ThermSen → ThermSen) : (d.onSen s f).marks = d.marks := rfl
@[simp] theorem Dev.onSen_tested (s : SensorIx) (f : ThermSen → ThermSen) : (d.onSen s f).tested = d.tested := rfl
@[simp] theorem Dev.onSen_logWrote (s : SensorIx) (f : ThermSen → ThermSen) : (d.onSen s f).logWrote = d.logWrote := rfl
@[simp] theorem Dev.onSen_resetN (s : SensorIx) (f : ThermSen → ThermSen) : (d.onSen s f).resetN = d.resetN := rfl
@[simp] theorem Dev.onSen_locked (s : SensorIx) (f : ThermSen → ThermSen) : (d.onSen s f).locked = d.locked := rfl
@[simp] theorem Dev.onSen_everLock (s : SensorIx) (f : ThermSen → ThermSen) : (d.onSen s f).everLock = d.everLock := rfl
@[simp] theorem Dev.onSen_heldOff (s : SensorIx) (f : ThermSen → ThermSen) : (d.onSen s f).heldOff = d.heldOff := rfl
@[simp] theorem Dev.onSen_cycles (s : SensorIx) (f : ThermSen → ThermSen) : (d.onSen s f).cycles = d.cycles := rfl
@[simp] theorem Dev.onSen_words (s : SensorIx) (f : ThermSen → ThermSen) : (d.onSen s f).words = d.words := rfl
@[simp] theorem Dev.onSen_inForce (s : SensorIx) (f : ThermSen → ThermSen) : (d.onSen s f).inForce = d.inForce := rfl
@[simp] theorem Dev.onSen_latches (s : SensorIx) (f : ThermSen → ThermSen) : (d.onSen s f).latches = d.latches := rfl
@[simp] theorem Dev.onSen_fab (s : SensorIx) (f : ThermSen → ThermSen) : (d.onSen s f).fab = d.fab := rfl
@[simp] theorem Dev.onSen_cyc0 (s : SensorIx) (f : ThermSen → ThermSen) : (d.onSen s f).cyc0 = d.cyc0 := rfl
@[simp] theorem Dev.onSen_fresh (s : SensorIx) (f : ThermSen → ThermSen) : (d.onSen s f).fresh = d.fresh := rfl
@[simp] theorem Dev.onSen_freshEv (s : SensorIx) (f : ThermSen → ThermSen) : (d.onSen s f).freshEv = d.freshEv := rfl
@[simp] theorem Dev.onSen_evLate (s : SensorIx) (f : ThermSen → ThermSen) : (d.onSen s f).evLate = d.evLate := rfl
@[simp] theorem Dev.onSen_closeLate (s : SensorIx) (f : ThermSen → ThermSen) : (d.onSen s f).closeLate = d.closeLate := rfl
@[simp] theorem Dev.onSen_motors (s : SensorIx) (f : ThermSen → ThermSen) : (d.onSen s f).motors = d.motors := rfl
@[simp] theorem Dev.onSen_groups (s : SensorIx) (f : ThermSen → ThermSen) : (d.onSen s f).groups = d.groups := rfl
@[simp] theorem Dev.onSen_bridges (s : SensorIx) (f : ThermSen → ThermSen) : (d.onSen s f).bridges = d.bridges := rfl
@[simp] theorem Dev.onSen_dies (s : SensorIx) (f : ThermSen → ThermSen) : (d.onSen s f).dies = d.dies := rfl
@[simp] theorem Dev.onSen_reports (s : SensorIx) (f : ThermSen → ThermSen) : (d.onSen s f).reports = d.reports := rfl
@[simp] theorem Dev.onSen_seqAt (s : SensorIx) (f : ThermSen → ThermSen) : (d.onSen s f).seqAt = d.seqAt := rfl
@[simp] theorem Dev.onSen_busDue (s : SensorIx) (f : ThermSen → ThermSen) : (d.onSen s f).busDue = d.busDue := rfl
@[simp] theorem Dev.onSen_glDue (s : SensorIx) (f : ThermSen → ThermSen) : (d.onSen s f).glDue = d.glDue := rfl
@[simp] theorem Dev.onSen_fbDue (s : SensorIx) (f : ThermSen → ThermSen) : (d.onSen s f).fbDue = d.fbDue := rfl
@[simp] theorem Dev.onSen_prisms (s : SensorIx) (f : ThermSen → ThermSen) : (d.onSen s f).prisms = d.prisms := rfl
@[simp] theorem Dev.onSen_fbs (s : SensorIx) (f : ThermSen → ThermSen) : (d.onSen s f).fbs = d.fbs := rfl
@[simp] theorem Dev.onSen_dist (s : SensorIx) (f : ThermSen → ThermSen) : (d.onSen s f).dist = d.dist := rfl
@[simp] theorem Dev.onSen_traces (s : SensorIx) (f : ThermSen → ThermSen) : (d.onSen s f).traces = d.traces := rfl
@[simp] theorem Dev.onSen_tickAt (s : SensorIx) (f : ThermSen → ThermSen) : (d.onSen s f).tickAt = d.tickAt := rfl
@[simp] theorem Dev.onSen_ticks (s : SensorIx) (f : ThermSen → ThermSen) : (d.onSen s f).ticks = d.ticks := rfl
@[simp] theorem Dev.onSen_emptied (s : SensorIx) (f : ThermSen → ThermSen) : (d.onSen s f).emptied = d.emptied := rfl
@[simp] theorem Dev.onSen_secAt (s : SensorIx) (f : ThermSen → ThermSen) : (d.onSen s f).secAt = d.secAt := rfl
@[simp] theorem Dev.onSen_recq (s : SensorIx) (f : ThermSen → ThermSen) : (d.onSen s f).recq = d.recq := rfl
@[simp] theorem Dev.onSen_mbxIn (s : SensorIx) (f : ThermSen → ThermSen) : (d.onSen s f).mbxIn = d.mbxIn := rfl
@[simp] theorem Dev.onSen_mbxAt (s : SensorIx) (f : ThermSen → ThermSen) : (d.onSen s f).mbxAt = d.mbxAt := rfl
@[simp] theorem Dev.onSen_cplAt (s : SensorIx) (f : ThermSen → ThermSen) : (d.onSen s f).cplAt = d.cplAt := rfl
@[simp] theorem Dev.onSen_cplQt (s : SensorIx) (f : ThermSen → ThermSen) : (d.onSen s f).cplQt = d.cplQt := rfl
@[simp] theorem Dev.onSen_cplEdge (s : SensorIx) (f : ThermSen → ThermSen) : (d.onSen s f).cplEdge = d.cplEdge := rfl
@[simp] theorem Dev.onSen_cplFrom (s : SensorIx) (f : ThermSen → ThermSen) : (d.onSen s f).cplFrom = d.cplFrom := rfl
@[simp] theorem Dev.onSen_cplDone (s : SensorIx) (f : ThermSen → ThermSen) : (d.onSen s f).cplDone = d.cplDone := rfl
@[simp] theorem Dev.onSen_loader (s : SensorIx) (f : ThermSen → ThermSen) : (d.onSen s f).loader = d.loader := rfl
@[simp] theorem Dev.onSen_ports (s : SensorIx) (f : ThermSen → ThermSen) : (d.onSen s f).ports = d.ports := rfl
@[simp] theorem Dev.onSen_mem (s : SensorIx) (f : ThermSen → ThermSen) : (d.onSen s f).mem = d.mem := rfl
@[simp] theorem Dev.onSen_mirror (s : SensorIx) (f : ThermSen → ThermSen) : (d.onSen s f).mirror = d.mirror := rfl
@[simp] theorem Dev.onSen_thermAt (s : SensorIx) (f : ThermSen → ThermSen) : (d.onSen s f).thermAt = d.thermAt := rfl
@[simp] theorem Dev.onSen_power (s : SensorIx) (f : ThermSen → ThermSen) : (d.onSen s f).power = d.power := rfl
@[simp] theorem Dev.onSen_bist (s : SensorIx) (f : ThermSen → ThermSen) : (d.onSen s f).bist = d.bist := rfl
@[simp] theorem Dev.onSen_tap (s : SensorIx) (f : ThermSen → ThermSen) : (d.onSen s f).tap = d.tap := rfl
@[simp] theorem Dev.onSen_scan (s : SensorIx) (f : ThermSen → ThermSen) : (d.onSen s f).scan = d.scan := rfl
@[simp] theorem Dev.onSen_lc (s : SensorIx) (f : ThermSen → ThermSen) : (d.onSen s f).lc = d.lc := rfl
@[simp] theorem Dev.onSen_ev (s : SensorIx) (f : ThermSen → ThermSen) : (d.onSen s f).ev = d.ev := rfl
@[simp] theorem Dev.onSen_pend (s : SensorIx) (f : ThermSen → ThermSen) : (d.onSen s f).pend = d.pend := rfl
@[simp] theorem Dev.onSen_ppend (s : SensorIx) (f : ThermSen → ThermSen) : (d.onSen s f).ppend = d.ppend := rfl
@[simp] theorem Dev.onSen_ueAt (s : SensorIx) (f : ThermSen → ThermSen) : (d.onSen s f).ueAt = d.ueAt := rfl
@[simp] theorem Dev.onSen_faultAt (s : SensorIx) (f : ThermSen → ThermSen) : (d.onSen s f).faultAt = d.faultAt := rfl
@[simp] theorem Dev.onSen_scrubPos (s : SensorIx) (f : ThermSen → ThermSen) : (d.onSen s f).scrubPos = d.scrubPos := rfl
@[simp] theorem Dev.onSen_scrubCe (s : SensorIx) (f : ThermSen → ThermSen) : (d.onSen s f).scrubCe = d.scrubCe := rfl
@[simp] theorem Dev.onSen_scrubRaised (s : SensorIx) (f : ThermSen → ThermSen) : (d.onSen s f).scrubRaised = d.scrubRaised := rfl
@[simp] theorem Dev.onSen_backs (s : SensorIx) (f : ThermSen → ThermSen) : (d.onSen s f).backs = d.backs := rfl
@[simp] theorem Dev.onSen_free (s : SensorIx) (f : ThermSen → ThermSen) : (d.onSen s f).free = d.free := rfl
@[simp] theorem Dev.onSen_runs (s : SensorIx) (f : ThermSen → ThermSen) : (d.onSen s f).runs = d.runs := rfl
@[simp] theorem Dev.onSen_time (s : SensorIx) (f : ThermSen → ThermSen) : (d.onSen s f).time = d.time := rfl
@[simp] theorem Dev.onSen_sub (s : SensorIx) (f : ThermSen → ThermSen) : (d.onSen s f).sub = d.sub := rfl
@[simp] theorem Dev.onSen_micros (s : SensorIx) (f : ThermSen → ThermSen) : (d.onSen s f).micros = d.micros := rfl
@[simp] theorem Dev.onSen_mot (s : SensorIx) (f : ThermSen → ThermSen) (x : MotorIx) : (d.onSen s f).mot x = d.mot x := rfl
@[simp] theorem Dev.onSen_grp (s : SensorIx) (f : ThermSen → ThermSen) (x : GroupIx) : (d.onSen s f).grp x = d.grp x := rfl
@[simp] theorem Dev.onSen_brg (s : SensorIx) (f : ThermSen → ThermSen) (x : BridgeIx) : (d.onSen s f).brg x = d.brg x := rfl
@[simp] theorem Dev.onSen_die (s : SensorIx) (f : ThermSen → ThermSen) (x : GroupIx) : (d.onSen s f).die x = d.die x := rfl
@[simp] theorem Dev.onSen_prm (s : SensorIx) (f : ThermSen → ThermSen) (x : GroupIx) : (d.onSen s f).prm x = d.prm x := rfl
@[simp] theorem Dev.onSen_fb (s : SensorIx) (f : ThermSen → ThermSen) (x : ChanIx) : (d.onSen s f).fb x = d.fb x := rfl
@[simp] theorem Dev.onSen_trc (s : SensorIx) (f : ThermSen → ThermSen) (x : TraceIx) : (d.onSen s f).trc x = d.trc x := rfl
@[simp] theorem Dev.onSen_hp (s : SensorIx) (f : ThermSen → ThermSen) (x : HostIx) : (d.onSen s f).hp x = d.hp x := rfl
@[simp] theorem Dev.onSen_w (s : SensorIx) (f : ThermSen → ThermSen) (y : Nat) : (d.onSen s f).w y = d.w y := rfl
@[simp] theorem Dev.onSen_bit (s : SensorIx) (f : ThermSen → ThermSen) (y j : Nat) : (d.onSen s f).bit y j = d.bit y j := rfl
@[simp] theorem Dev.onSen_fld (s : SensorIx) (f : ThermSen → ThermSen) (y h l : Nat) : (d.onSen s f).fld y h l = d.fld y h l := rfl
@[simp] theorem Dev.onSen_uw (s : SensorIx) (f : ThermSen → ThermSen) (y : Nat) : (d.onSen s f).uw y = d.uw y := rfl
@[simp] theorem Dev.onSen_sw (s : SensorIx) (f : ThermSen → ThermSen) (y : Nat) : (d.onSen s f).sw y = d.sw y := rfl
@[simp] theorem Dev.onSen_w32 (s : SensorIx) (f : ThermSen → ThermSen) (y : Nat) : (d.onSen s f).w32 y = d.w32 y := rfl
@[simp] theorem Dev.onSen_iw (s : SensorIx) (f : ThermSen → ThermSen) (y : Nat) : (d.onSen s f).iw y = d.iw y := rfl
@[simp] theorem Dev.onSen_ibit (s : SensorIx) (f : ThermSen → ThermSen) (y j : Nat) : (d.onSen s f).ibit y j = d.ibit y j := rfl
@[simp] theorem Dev.onSen_ifld (s : SensorIx) (f : ThermSen → ThermSen) (y h l : Nat) : (d.onSen s f).ifld y h l = d.ifld y h l := rfl
@[simp] theorem Dev.onSen_iuw (s : SensorIx) (f : ThermSen → ThermSen) (y : Nat) : (d.onSen s f).iuw y = d.iuw y := rfl
@[simp] theorem Dev.onSen_isw (s : SensorIx) (f : ThermSen → ThermSen) (y : Nat) : (d.onSen s f).isw y = d.isw y := rfl

/-! ### Other updates -/

@[simp] theorem Dev.enforce_part (lo hi : Nat) : (d.enforce lo hi).part = d.part := rfl
@[simp] theorem Dev.enforce_rev (lo hi : Nat) : (d.enforce lo hi).rev = d.rev := rfl
@[simp] theorem Dev.enforce_fuses (lo hi : Nat) : (d.enforce lo hi).fuses = d.fuses := rfl
@[simp] theorem Dev.enforce_devLog (lo hi : Nat) : (d.enforce lo hi).devLog = d.devLog := rfl
@[simp] theorem Dev.enforce_store (lo hi : Nat) : (d.enforce lo hi).store = d.store := rfl
@[simp] theorem Dev.enforce_marks (lo hi : Nat) : (d.enforce lo hi).marks = d.marks := rfl
@[simp] theorem Dev.enforce_tested (lo hi : Nat) : (d.enforce lo hi).tested = d.tested := rfl
@[simp] theorem Dev.enforce_logWrote (lo hi : Nat) : (d.enforce lo hi).logWrote = d.logWrote := rfl
@[simp] theorem Dev.enforce_resetN (lo hi : Nat) : (d.enforce lo hi).resetN = d.resetN := rfl
@[simp] theorem Dev.enforce_locked (lo hi : Nat) : (d.enforce lo hi).locked = d.locked := rfl
@[simp] theorem Dev.enforce_everLock (lo hi : Nat) : (d.enforce lo hi).everLock = d.everLock := rfl
@[simp] theorem Dev.enforce_heldOff (lo hi : Nat) : (d.enforce lo hi).heldOff = d.heldOff := rfl
@[simp] theorem Dev.enforce_cycles (lo hi : Nat) : (d.enforce lo hi).cycles = d.cycles := rfl
@[simp] theorem Dev.enforce_words (lo hi : Nat) : (d.enforce lo hi).words = d.words := rfl
@[simp] theorem Dev.enforce_latches (lo hi : Nat) : (d.enforce lo hi).latches = d.latches := rfl
@[simp] theorem Dev.enforce_fab (lo hi : Nat) : (d.enforce lo hi).fab = d.fab := rfl
@[simp] theorem Dev.enforce_cyc0 (lo hi : Nat) : (d.enforce lo hi).cyc0 = d.cyc0 := rfl
@[simp] theorem Dev.enforce_fresh (lo hi : Nat) : (d.enforce lo hi).fresh = d.fresh := rfl
@[simp] theorem Dev.enforce_freshEv (lo hi : Nat) : (d.enforce lo hi).freshEv = d.freshEv := rfl
@[simp] theorem Dev.enforce_evLate (lo hi : Nat) : (d.enforce lo hi).evLate = d.evLate := rfl
@[simp] theorem Dev.enforce_closeLate (lo hi : Nat) : (d.enforce lo hi).closeLate = d.closeLate := rfl
@[simp] theorem Dev.enforce_motors (lo hi : Nat) : (d.enforce lo hi).motors = d.motors := rfl
@[simp] theorem Dev.enforce_groups (lo hi : Nat) : (d.enforce lo hi).groups = d.groups := rfl
@[simp] theorem Dev.enforce_bridges (lo hi : Nat) : (d.enforce lo hi).bridges = d.bridges := rfl
@[simp] theorem Dev.enforce_dies (lo hi : Nat) : (d.enforce lo hi).dies = d.dies := rfl
@[simp] theorem Dev.enforce_reports (lo hi : Nat) : (d.enforce lo hi).reports = d.reports := rfl
@[simp] theorem Dev.enforce_seqAt (lo hi : Nat) : (d.enforce lo hi).seqAt = d.seqAt := rfl
@[simp] theorem Dev.enforce_busDue (lo hi : Nat) : (d.enforce lo hi).busDue = d.busDue := rfl
@[simp] theorem Dev.enforce_glDue (lo hi : Nat) : (d.enforce lo hi).glDue = d.glDue := rfl
@[simp] theorem Dev.enforce_fbDue (lo hi : Nat) : (d.enforce lo hi).fbDue = d.fbDue := rfl
@[simp] theorem Dev.enforce_prisms (lo hi : Nat) : (d.enforce lo hi).prisms = d.prisms := rfl
@[simp] theorem Dev.enforce_fbs (lo hi : Nat) : (d.enforce lo hi).fbs = d.fbs := rfl
@[simp] theorem Dev.enforce_dist (lo hi : Nat) : (d.enforce lo hi).dist = d.dist := rfl
@[simp] theorem Dev.enforce_traces (lo hi : Nat) : (d.enforce lo hi).traces = d.traces := rfl
@[simp] theorem Dev.enforce_tickAt (lo hi : Nat) : (d.enforce lo hi).tickAt = d.tickAt := rfl
@[simp] theorem Dev.enforce_ticks (lo hi : Nat) : (d.enforce lo hi).ticks = d.ticks := rfl
@[simp] theorem Dev.enforce_emptied (lo hi : Nat) : (d.enforce lo hi).emptied = d.emptied := rfl
@[simp] theorem Dev.enforce_secAt (lo hi : Nat) : (d.enforce lo hi).secAt = d.secAt := rfl
@[simp] theorem Dev.enforce_recq (lo hi : Nat) : (d.enforce lo hi).recq = d.recq := rfl
@[simp] theorem Dev.enforce_mbxIn (lo hi : Nat) : (d.enforce lo hi).mbxIn = d.mbxIn := rfl
@[simp] theorem Dev.enforce_mbxAt (lo hi : Nat) : (d.enforce lo hi).mbxAt = d.mbxAt := rfl
@[simp] theorem Dev.enforce_cplAt (lo hi : Nat) : (d.enforce lo hi).cplAt = d.cplAt := rfl
@[simp] theorem Dev.enforce_cplQt (lo hi : Nat) : (d.enforce lo hi).cplQt = d.cplQt := rfl
@[simp] theorem Dev.enforce_cplEdge (lo hi : Nat) : (d.enforce lo hi).cplEdge = d.cplEdge := rfl
@[simp] theorem Dev.enforce_cplFrom (lo hi : Nat) : (d.enforce lo hi).cplFrom = d.cplFrom := rfl
@[simp] theorem Dev.enforce_cplDone (lo hi : Nat) : (d.enforce lo hi).cplDone = d.cplDone := rfl
@[simp] theorem Dev.enforce_loader (lo hi : Nat) : (d.enforce lo hi).loader = d.loader := rfl
@[simp] theorem Dev.enforce_ports (lo hi : Nat) : (d.enforce lo hi).ports = d.ports := rfl
@[simp] theorem Dev.enforce_mem (lo hi : Nat) : (d.enforce lo hi).mem = d.mem := rfl
@[simp] theorem Dev.enforce_mirror (lo hi : Nat) : (d.enforce lo hi).mirror = d.mirror := rfl
@[simp] theorem Dev.enforce_therm (lo hi : Nat) : (d.enforce lo hi).therm = d.therm := rfl
@[simp] theorem Dev.enforce_thermAt (lo hi : Nat) : (d.enforce lo hi).thermAt = d.thermAt := rfl
@[simp] theorem Dev.enforce_power (lo hi : Nat) : (d.enforce lo hi).power = d.power := rfl
@[simp] theorem Dev.enforce_bist (lo hi : Nat) : (d.enforce lo hi).bist = d.bist := rfl
@[simp] theorem Dev.enforce_tap (lo hi : Nat) : (d.enforce lo hi).tap = d.tap := rfl
@[simp] theorem Dev.enforce_scan (lo hi : Nat) : (d.enforce lo hi).scan = d.scan := rfl
@[simp] theorem Dev.enforce_lc (lo hi : Nat) : (d.enforce lo hi).lc = d.lc := rfl
@[simp] theorem Dev.enforce_ev (lo hi : Nat) : (d.enforce lo hi).ev = d.ev := rfl
@[simp] theorem Dev.enforce_pend (lo hi : Nat) : (d.enforce lo hi).pend = d.pend := rfl
@[simp] theorem Dev.enforce_ppend (lo hi : Nat) : (d.enforce lo hi).ppend = d.ppend := rfl
@[simp] theorem Dev.enforce_ueAt (lo hi : Nat) : (d.enforce lo hi).ueAt = d.ueAt := rfl
@[simp] theorem Dev.enforce_faultAt (lo hi : Nat) : (d.enforce lo hi).faultAt = d.faultAt := rfl
@[simp] theorem Dev.enforce_scrubPos (lo hi : Nat) : (d.enforce lo hi).scrubPos = d.scrubPos := rfl
@[simp] theorem Dev.enforce_scrubCe (lo hi : Nat) : (d.enforce lo hi).scrubCe = d.scrubCe := rfl
@[simp] theorem Dev.enforce_scrubRaised (lo hi : Nat) : (d.enforce lo hi).scrubRaised = d.scrubRaised := rfl
@[simp] theorem Dev.enforce_backs (lo hi : Nat) : (d.enforce lo hi).backs = d.backs := rfl
@[simp] theorem Dev.enforce_free (lo hi : Nat) : (d.enforce lo hi).free = d.free := rfl
@[simp] theorem Dev.enforce_runs (lo hi : Nat) : (d.enforce lo hi).runs = d.runs := rfl
@[simp] theorem Dev.enforce_time (lo hi : Nat) : (d.enforce lo hi).time = d.time := rfl
@[simp] theorem Dev.enforce_sub (lo hi : Nat) : (d.enforce lo hi).sub = d.sub := rfl
@[simp] theorem Dev.enforce_micros (lo hi : Nat) : (d.enforce lo hi).micros = d.micros := rfl
@[simp] theorem Dev.enforce_mot (lo hi : Nat) (x : MotorIx) : (d.enforce lo hi).mot x = d.mot x := rfl
@[simp] theorem Dev.enforce_grp (lo hi : Nat) (x : GroupIx) : (d.enforce lo hi).grp x = d.grp x := rfl
@[simp] theorem Dev.enforce_brg (lo hi : Nat) (x : BridgeIx) : (d.enforce lo hi).brg x = d.brg x := rfl
@[simp] theorem Dev.enforce_die (lo hi : Nat) (x : GroupIx) : (d.enforce lo hi).die x = d.die x := rfl
@[simp] theorem Dev.enforce_prm (lo hi : Nat) (x : GroupIx) : (d.enforce lo hi).prm x = d.prm x := rfl
@[simp] theorem Dev.enforce_fb (lo hi : Nat) (x : ChanIx) : (d.enforce lo hi).fb x = d.fb x := rfl
@[simp] theorem Dev.enforce_trc (lo hi : Nat) (x : TraceIx) : (d.enforce lo hi).trc x = d.trc x := rfl
@[simp] theorem Dev.enforce_hp (lo hi : Nat) (x : HostIx) : (d.enforce lo hi).hp x = d.hp x := rfl
@[simp] theorem Dev.enforce_sen (lo hi : Nat) (x : SensorIx) : (d.enforce lo hi).sen x = d.sen x := rfl
@[simp] theorem Dev.enforce_w (lo hi : Nat) (y : Nat) : (d.enforce lo hi).w y = d.w y := rfl
@[simp] theorem Dev.enforce_bit (lo hi : Nat) (y j : Nat) : (d.enforce lo hi).bit y j = d.bit y j := rfl
@[simp] theorem Dev.enforce_fld (lo hi : Nat) (y h l : Nat) : (d.enforce lo hi).fld y h l = d.fld y h l := rfl
@[simp] theorem Dev.enforce_uw (lo hi : Nat) (y : Nat) : (d.enforce lo hi).uw y = d.uw y := rfl
@[simp] theorem Dev.enforce_sw (lo hi : Nat) (y : Nat) : (d.enforce lo hi).sw y = d.sw y := rfl
@[simp] theorem Dev.enforce_w32 (lo hi : Nat) (y : Nat) : (d.enforce lo hi).w32 y = d.w32 y := rfl

@[simp] theorem Dev.latch_part (k : Master) (a : Nat) (v : Word) : (d.latch k a v).part = d.part := rfl
@[simp] theorem Dev.latch_rev (k : Master) (a : Nat) (v : Word) : (d.latch k a v).rev = d.rev := rfl
@[simp] theorem Dev.latch_fuses (k : Master) (a : Nat) (v : Word) : (d.latch k a v).fuses = d.fuses := rfl
@[simp] theorem Dev.latch_devLog (k : Master) (a : Nat) (v : Word) : (d.latch k a v).devLog = d.devLog := rfl
@[simp] theorem Dev.latch_store (k : Master) (a : Nat) (v : Word) : (d.latch k a v).store = d.store := rfl
@[simp] theorem Dev.latch_marks (k : Master) (a : Nat) (v : Word) : (d.latch k a v).marks = d.marks := rfl
@[simp] theorem Dev.latch_tested (k : Master) (a : Nat) (v : Word) : (d.latch k a v).tested = d.tested := rfl
@[simp] theorem Dev.latch_logWrote (k : Master) (a : Nat) (v : Word) : (d.latch k a v).logWrote = d.logWrote := rfl
@[simp] theorem Dev.latch_resetN (k : Master) (a : Nat) (v : Word) : (d.latch k a v).resetN = d.resetN := rfl
@[simp] theorem Dev.latch_locked (k : Master) (a : Nat) (v : Word) : (d.latch k a v).locked = d.locked := rfl
@[simp] theorem Dev.latch_everLock (k : Master) (a : Nat) (v : Word) : (d.latch k a v).everLock = d.everLock := rfl
@[simp] theorem Dev.latch_heldOff (k : Master) (a : Nat) (v : Word) : (d.latch k a v).heldOff = d.heldOff := rfl
@[simp] theorem Dev.latch_cycles (k : Master) (a : Nat) (v : Word) : (d.latch k a v).cycles = d.cycles := rfl
@[simp] theorem Dev.latch_words (k : Master) (a : Nat) (v : Word) : (d.latch k a v).words = d.words := rfl
@[simp] theorem Dev.latch_inForce (k : Master) (a : Nat) (v : Word) : (d.latch k a v).inForce = d.inForce := rfl
@[simp] theorem Dev.latch_fab (k : Master) (a : Nat) (v : Word) : (d.latch k a v).fab = d.fab := rfl
@[simp] theorem Dev.latch_cyc0 (k : Master) (a : Nat) (v : Word) : (d.latch k a v).cyc0 = d.cyc0 := rfl
@[simp] theorem Dev.latch_fresh (k : Master) (a : Nat) (v : Word) : (d.latch k a v).fresh = d.fresh := rfl
@[simp] theorem Dev.latch_freshEv (k : Master) (a : Nat) (v : Word) : (d.latch k a v).freshEv = d.freshEv := rfl
@[simp] theorem Dev.latch_evLate (k : Master) (a : Nat) (v : Word) : (d.latch k a v).evLate = d.evLate := rfl
@[simp] theorem Dev.latch_closeLate (k : Master) (a : Nat) (v : Word) : (d.latch k a v).closeLate = d.closeLate := rfl
@[simp] theorem Dev.latch_motors (k : Master) (a : Nat) (v : Word) : (d.latch k a v).motors = d.motors := rfl
@[simp] theorem Dev.latch_groups (k : Master) (a : Nat) (v : Word) : (d.latch k a v).groups = d.groups := rfl
@[simp] theorem Dev.latch_bridges (k : Master) (a : Nat) (v : Word) : (d.latch k a v).bridges = d.bridges := rfl
@[simp] theorem Dev.latch_dies (k : Master) (a : Nat) (v : Word) : (d.latch k a v).dies = d.dies := rfl
@[simp] theorem Dev.latch_reports (k : Master) (a : Nat) (v : Word) : (d.latch k a v).reports = d.reports := rfl
@[simp] theorem Dev.latch_seqAt (k : Master) (a : Nat) (v : Word) : (d.latch k a v).seqAt = d.seqAt := rfl
@[simp] theorem Dev.latch_busDue (k : Master) (a : Nat) (v : Word) : (d.latch k a v).busDue = d.busDue := rfl
@[simp] theorem Dev.latch_glDue (k : Master) (a : Nat) (v : Word) : (d.latch k a v).glDue = d.glDue := rfl
@[simp] theorem Dev.latch_fbDue (k : Master) (a : Nat) (v : Word) : (d.latch k a v).fbDue = d.fbDue := rfl
@[simp] theorem Dev.latch_prisms (k : Master) (a : Nat) (v : Word) : (d.latch k a v).prisms = d.prisms := rfl
@[simp] theorem Dev.latch_fbs (k : Master) (a : Nat) (v : Word) : (d.latch k a v).fbs = d.fbs := rfl
@[simp] theorem Dev.latch_dist (k : Master) (a : Nat) (v : Word) : (d.latch k a v).dist = d.dist := rfl
@[simp] theorem Dev.latch_traces (k : Master) (a : Nat) (v : Word) : (d.latch k a v).traces = d.traces := rfl
@[simp] theorem Dev.latch_tickAt (k : Master) (a : Nat) (v : Word) : (d.latch k a v).tickAt = d.tickAt := rfl
@[simp] theorem Dev.latch_ticks (k : Master) (a : Nat) (v : Word) : (d.latch k a v).ticks = d.ticks := rfl
@[simp] theorem Dev.latch_emptied (k : Master) (a : Nat) (v : Word) : (d.latch k a v).emptied = d.emptied := rfl
@[simp] theorem Dev.latch_secAt (k : Master) (a : Nat) (v : Word) : (d.latch k a v).secAt = d.secAt := rfl
@[simp] theorem Dev.latch_recq (k : Master) (a : Nat) (v : Word) : (d.latch k a v).recq = d.recq := rfl
@[simp] theorem Dev.latch_mbxIn (k : Master) (a : Nat) (v : Word) : (d.latch k a v).mbxIn = d.mbxIn := rfl
@[simp] theorem Dev.latch_mbxAt (k : Master) (a : Nat) (v : Word) : (d.latch k a v).mbxAt = d.mbxAt := rfl
@[simp] theorem Dev.latch_cplAt (k : Master) (a : Nat) (v : Word) : (d.latch k a v).cplAt = d.cplAt := rfl
@[simp] theorem Dev.latch_cplQt (k : Master) (a : Nat) (v : Word) : (d.latch k a v).cplQt = d.cplQt := rfl
@[simp] theorem Dev.latch_cplEdge (k : Master) (a : Nat) (v : Word) : (d.latch k a v).cplEdge = d.cplEdge := rfl
@[simp] theorem Dev.latch_cplFrom (k : Master) (a : Nat) (v : Word) : (d.latch k a v).cplFrom = d.cplFrom := rfl
@[simp] theorem Dev.latch_cplDone (k : Master) (a : Nat) (v : Word) : (d.latch k a v).cplDone = d.cplDone := rfl
@[simp] theorem Dev.latch_loader (k : Master) (a : Nat) (v : Word) : (d.latch k a v).loader = d.loader := rfl
@[simp] theorem Dev.latch_ports (k : Master) (a : Nat) (v : Word) : (d.latch k a v).ports = d.ports := rfl
@[simp] theorem Dev.latch_mem (k : Master) (a : Nat) (v : Word) : (d.latch k a v).mem = d.mem := rfl
@[simp] theorem Dev.latch_mirror (k : Master) (a : Nat) (v : Word) : (d.latch k a v).mirror = d.mirror := rfl
@[simp] theorem Dev.latch_therm (k : Master) (a : Nat) (v : Word) : (d.latch k a v).therm = d.therm := rfl
@[simp] theorem Dev.latch_thermAt (k : Master) (a : Nat) (v : Word) : (d.latch k a v).thermAt = d.thermAt := rfl
@[simp] theorem Dev.latch_power (k : Master) (a : Nat) (v : Word) : (d.latch k a v).power = d.power := rfl
@[simp] theorem Dev.latch_bist (k : Master) (a : Nat) (v : Word) : (d.latch k a v).bist = d.bist := rfl
@[simp] theorem Dev.latch_tap (k : Master) (a : Nat) (v : Word) : (d.latch k a v).tap = d.tap := rfl
@[simp] theorem Dev.latch_scan (k : Master) (a : Nat) (v : Word) : (d.latch k a v).scan = d.scan := rfl
@[simp] theorem Dev.latch_lc (k : Master) (a : Nat) (v : Word) : (d.latch k a v).lc = d.lc := rfl
@[simp] theorem Dev.latch_ev (k : Master) (a : Nat) (v : Word) : (d.latch k a v).ev = d.ev := rfl
@[simp] theorem Dev.latch_pend (k : Master) (a : Nat) (v : Word) : (d.latch k a v).pend = d.pend := rfl
@[simp] theorem Dev.latch_ppend (k : Master) (a : Nat) (v : Word) : (d.latch k a v).ppend = d.ppend := rfl
@[simp] theorem Dev.latch_ueAt (k : Master) (a : Nat) (v : Word) : (d.latch k a v).ueAt = d.ueAt := rfl
@[simp] theorem Dev.latch_faultAt (k : Master) (a : Nat) (v : Word) : (d.latch k a v).faultAt = d.faultAt := rfl
@[simp] theorem Dev.latch_scrubPos (k : Master) (a : Nat) (v : Word) : (d.latch k a v).scrubPos = d.scrubPos := rfl
@[simp] theorem Dev.latch_scrubCe (k : Master) (a : Nat) (v : Word) : (d.latch k a v).scrubCe = d.scrubCe := rfl
@[simp] theorem Dev.latch_scrubRaised (k : Master) (a : Nat) (v : Word) : (d.latch k a v).scrubRaised = d.scrubRaised := rfl
@[simp] theorem Dev.latch_backs (k : Master) (a : Nat) (v : Word) : (d.latch k a v).backs = d.backs := rfl
@[simp] theorem Dev.latch_free (k : Master) (a : Nat) (v : Word) : (d.latch k a v).free = d.free := rfl
@[simp] theorem Dev.latch_runs (k : Master) (a : Nat) (v : Word) : (d.latch k a v).runs = d.runs := rfl
@[simp] theorem Dev.latch_time (k : Master) (a : Nat) (v : Word) : (d.latch k a v).time = d.time := rfl
@[simp] theorem Dev.latch_sub (k : Master) (a : Nat) (v : Word) : (d.latch k a v).sub = d.sub := rfl
@[simp] theorem Dev.latch_micros (k : Master) (a : Nat) (v : Word) : (d.latch k a v).micros = d.micros := rfl
@[simp] theorem Dev.latch_mot (k : Master) (a : Nat) (v : Word) (x : MotorIx) : (d.latch k a v).mot x = d.mot x := rfl
@[simp] theorem Dev.latch_grp (k : Master) (a : Nat) (v : Word) (x : GroupIx) : (d.latch k a v).grp x = d.grp x := rfl
@[simp] theorem Dev.latch_brg (k : Master) (a : Nat) (v : Word) (x : BridgeIx) : (d.latch k a v).brg x = d.brg x := rfl
@[simp] theorem Dev.latch_die (k : Master) (a : Nat) (v : Word) (x : GroupIx) : (d.latch k a v).die x = d.die x := rfl
@[simp] theorem Dev.latch_prm (k : Master) (a : Nat) (v : Word) (x : GroupIx) : (d.latch k a v).prm x = d.prm x := rfl
@[simp] theorem Dev.latch_fb (k : Master) (a : Nat) (v : Word) (x : ChanIx) : (d.latch k a v).fb x = d.fb x := rfl
@[simp] theorem Dev.latch_trc (k : Master) (a : Nat) (v : Word) (x : TraceIx) : (d.latch k a v).trc x = d.trc x := rfl
@[simp] theorem Dev.latch_hp (k : Master) (a : Nat) (v : Word) (x : HostIx) : (d.latch k a v).hp x = d.hp x := rfl
@[simp] theorem Dev.latch_sen (k : Master) (a : Nat) (v : Word) (x : SensorIx) : (d.latch k a v).sen x = d.sen x := rfl
@[simp] theorem Dev.latch_w (k : Master) (a : Nat) (v : Word) (y : Nat) : (d.latch k a v).w y = d.w y := rfl
@[simp] theorem Dev.latch_bit (k : Master) (a : Nat) (v : Word) (y j : Nat) : (d.latch k a v).bit y j = d.bit y j := rfl
@[simp] theorem Dev.latch_fld (k : Master) (a : Nat) (v : Word) (y h l : Nat) : (d.latch k a v).fld y h l = d.fld y h l := rfl
@[simp] theorem Dev.latch_uw (k : Master) (a : Nat) (v : Word) (y : Nat) : (d.latch k a v).uw y = d.uw y := rfl
@[simp] theorem Dev.latch_sw (k : Master) (a : Nat) (v : Word) (y : Nat) : (d.latch k a v).sw y = d.sw y := rfl
@[simp] theorem Dev.latch_w32 (k : Master) (a : Nat) (v : Word) (y : Nat) : (d.latch k a v).w32 y = d.w32 y := rfl
@[simp] theorem Dev.latch_iw (k : Master) (a : Nat) (v : Word) (y : Nat) : (d.latch k a v).iw y = d.iw y := rfl
@[simp] theorem Dev.latch_ibit (k : Master) (a : Nat) (v : Word) (y j : Nat) : (d.latch k a v).ibit y j = d.ibit y j := rfl
@[simp] theorem Dev.latch_ifld (k : Master) (a : Nat) (v : Word) (y h l : Nat) : (d.latch k a v).ifld y h l = d.ifld y h l := rfl
@[simp] theorem Dev.latch_iuw (k : Master) (a : Nat) (v : Word) (y : Nat) : (d.latch k a v).iuw y = d.iuw y := rfl
@[simp] theorem Dev.latch_isw (k : Master) (a : Nat) (v : Word) (y : Nat) : (d.latch k a v).isw y = d.isw y := rfl

@[simp] theorem Dev.nextFree_part  : (d.nextFree).part = d.part := rfl
@[simp] theorem Dev.nextFree_rev  : (d.nextFree).rev = d.rev := rfl
@[simp] theorem Dev.nextFree_fuses  : (d.nextFree).fuses = d.fuses := rfl
@[simp] theorem Dev.nextFree_devLog  : (d.nextFree).devLog = d.devLog := rfl
@[simp] theorem Dev.nextFree_store  : (d.nextFree).store = d.store := rfl
@[simp] theorem Dev.nextFree_marks  : (d.nextFree).marks = d.marks := rfl
@[simp] theorem Dev.nextFree_tested  : (d.nextFree).tested = d.tested := rfl
@[simp] theorem Dev.nextFree_logWrote  : (d.nextFree).logWrote = d.logWrote := rfl
@[simp] theorem Dev.nextFree_resetN  : (d.nextFree).resetN = d.resetN := rfl
@[simp] theorem Dev.nextFree_locked  : (d.nextFree).locked = d.locked := rfl
@[simp] theorem Dev.nextFree_everLock  : (d.nextFree).everLock = d.everLock := rfl
@[simp] theorem Dev.nextFree_heldOff  : (d.nextFree).heldOff = d.heldOff := rfl
@[simp] theorem Dev.nextFree_cycles  : (d.nextFree).cycles = d.cycles := rfl
@[simp] theorem Dev.nextFree_words  : (d.nextFree).words = d.words := rfl
@[simp] theorem Dev.nextFree_inForce  : (d.nextFree).inForce = d.inForce := rfl
@[simp] theorem Dev.nextFree_latches  : (d.nextFree).latches = d.latches := rfl
@[simp] theorem Dev.nextFree_fab  : (d.nextFree).fab = d.fab := rfl
@[simp] theorem Dev.nextFree_cyc0  : (d.nextFree).cyc0 = d.cyc0 := rfl
@[simp] theorem Dev.nextFree_fresh  : (d.nextFree).fresh = d.fresh := rfl
@[simp] theorem Dev.nextFree_freshEv  : (d.nextFree).freshEv = d.freshEv := rfl
@[simp] theorem Dev.nextFree_evLate  : (d.nextFree).evLate = d.evLate := rfl
@[simp] theorem Dev.nextFree_closeLate  : (d.nextFree).closeLate = d.closeLate := rfl
@[simp] theorem Dev.nextFree_motors  : (d.nextFree).motors = d.motors := rfl
@[simp] theorem Dev.nextFree_groups  : (d.nextFree).groups = d.groups := rfl
@[simp] theorem Dev.nextFree_bridges  : (d.nextFree).bridges = d.bridges := rfl
@[simp] theorem Dev.nextFree_dies  : (d.nextFree).dies = d.dies := rfl
@[simp] theorem Dev.nextFree_reports  : (d.nextFree).reports = d.reports := rfl
@[simp] theorem Dev.nextFree_seqAt  : (d.nextFree).seqAt = d.seqAt := rfl
@[simp] theorem Dev.nextFree_busDue  : (d.nextFree).busDue = d.busDue := rfl
@[simp] theorem Dev.nextFree_glDue  : (d.nextFree).glDue = d.glDue := rfl
@[simp] theorem Dev.nextFree_fbDue  : (d.nextFree).fbDue = d.fbDue := rfl
@[simp] theorem Dev.nextFree_prisms  : (d.nextFree).prisms = d.prisms := rfl
@[simp] theorem Dev.nextFree_fbs  : (d.nextFree).fbs = d.fbs := rfl
@[simp] theorem Dev.nextFree_dist  : (d.nextFree).dist = d.dist := rfl
@[simp] theorem Dev.nextFree_traces  : (d.nextFree).traces = d.traces := rfl
@[simp] theorem Dev.nextFree_tickAt  : (d.nextFree).tickAt = d.tickAt := rfl
@[simp] theorem Dev.nextFree_ticks  : (d.nextFree).ticks = d.ticks := rfl
@[simp] theorem Dev.nextFree_emptied  : (d.nextFree).emptied = d.emptied := rfl
@[simp] theorem Dev.nextFree_secAt  : (d.nextFree).secAt = d.secAt := rfl
@[simp] theorem Dev.nextFree_recq  : (d.nextFree).recq = d.recq := rfl
@[simp] theorem Dev.nextFree_mbxIn  : (d.nextFree).mbxIn = d.mbxIn := rfl
@[simp] theorem Dev.nextFree_mbxAt  : (d.nextFree).mbxAt = d.mbxAt := rfl
@[simp] theorem Dev.nextFree_cplAt  : (d.nextFree).cplAt = d.cplAt := rfl
@[simp] theorem Dev.nextFree_cplQt  : (d.nextFree).cplQt = d.cplQt := rfl
@[simp] theorem Dev.nextFree_cplEdge  : (d.nextFree).cplEdge = d.cplEdge := rfl
@[simp] theorem Dev.nextFree_cplFrom  : (d.nextFree).cplFrom = d.cplFrom := rfl
@[simp] theorem Dev.nextFree_cplDone  : (d.nextFree).cplDone = d.cplDone := rfl
@[simp] theorem Dev.nextFree_loader  : (d.nextFree).loader = d.loader := rfl
@[simp] theorem Dev.nextFree_ports  : (d.nextFree).ports = d.ports := rfl
@[simp] theorem Dev.nextFree_mem  : (d.nextFree).mem = d.mem := rfl
@[simp] theorem Dev.nextFree_mirror  : (d.nextFree).mirror = d.mirror := rfl
@[simp] theorem Dev.nextFree_therm  : (d.nextFree).therm = d.therm := rfl
@[simp] theorem Dev.nextFree_thermAt  : (d.nextFree).thermAt = d.thermAt := rfl
@[simp] theorem Dev.nextFree_power  : (d.nextFree).power = d.power := rfl
@[simp] theorem Dev.nextFree_bist  : (d.nextFree).bist = d.bist := rfl
@[simp] theorem Dev.nextFree_tap  : (d.nextFree).tap = d.tap := rfl
@[simp] theorem Dev.nextFree_scan  : (d.nextFree).scan = d.scan := rfl
@[simp] theorem Dev.nextFree_lc  : (d.nextFree).lc = d.lc := rfl
@[simp] theorem Dev.nextFree_ev  : (d.nextFree).ev = d.ev := rfl
@[simp] theorem Dev.nextFree_pend  : (d.nextFree).pend = d.pend := rfl
@[simp] theorem Dev.nextFree_ppend  : (d.nextFree).ppend = d.ppend := rfl
@[simp] theorem Dev.nextFree_ueAt  : (d.nextFree).ueAt = d.ueAt := rfl
@[simp] theorem Dev.nextFree_faultAt  : (d.nextFree).faultAt = d.faultAt := rfl
@[simp] theorem Dev.nextFree_scrubPos  : (d.nextFree).scrubPos = d.scrubPos := rfl
@[simp] theorem Dev.nextFree_scrubCe  : (d.nextFree).scrubCe = d.scrubCe := rfl
@[simp] theorem Dev.nextFree_scrubRaised  : (d.nextFree).scrubRaised = d.scrubRaised := rfl
@[simp] theorem Dev.nextFree_backs  : (d.nextFree).backs = d.backs := rfl
@[simp] theorem Dev.nextFree_runs  : (d.nextFree).runs = d.runs := rfl
@[simp] theorem Dev.nextFree_time  : (d.nextFree).time = d.time := rfl
@[simp] theorem Dev.nextFree_sub  : (d.nextFree).sub = d.sub := rfl
@[simp] theorem Dev.nextFree_micros  : (d.nextFree).micros = d.micros := rfl
@[simp] theorem Dev.nextFree_mot  (x : MotorIx) : (d.nextFree).mot x = d.mot x := rfl
@[simp] theorem Dev.nextFree_grp  (x : GroupIx) : (d.nextFree).grp x = d.grp x := rfl
@[simp] theorem Dev.nextFree_brg  (x : BridgeIx) : (d.nextFree).brg x = d.brg x := rfl
@[simp] theorem Dev.nextFree_die  (x : GroupIx) : (d.nextFree).die x = d.die x := rfl
@[simp] theorem Dev.nextFree_prm  (x : GroupIx) : (d.nextFree).prm x = d.prm x := rfl
@[simp] theorem Dev.nextFree_fb  (x : ChanIx) : (d.nextFree).fb x = d.fb x := rfl
@[simp] theorem Dev.nextFree_trc  (x : TraceIx) : (d.nextFree).trc x = d.trc x := rfl
@[simp] theorem Dev.nextFree_hp  (x : HostIx) : (d.nextFree).hp x = d.hp x := rfl
@[simp] theorem Dev.nextFree_sen  (x : SensorIx) : (d.nextFree).sen x = d.sen x := rfl
@[simp] theorem Dev.nextFree_w  (y : Nat) : (d.nextFree).w y = d.w y := rfl
@[simp] theorem Dev.nextFree_bit  (y j : Nat) : (d.nextFree).bit y j = d.bit y j := rfl
@[simp] theorem Dev.nextFree_fld  (y h l : Nat) : (d.nextFree).fld y h l = d.fld y h l := rfl
@[simp] theorem Dev.nextFree_uw  (y : Nat) : (d.nextFree).uw y = d.uw y := rfl
@[simp] theorem Dev.nextFree_sw  (y : Nat) : (d.nextFree).sw y = d.sw y := rfl
@[simp] theorem Dev.nextFree_w32  (y : Nat) : (d.nextFree).w32 y = d.w32 y := rfl
@[simp] theorem Dev.nextFree_iw  (y : Nat) : (d.nextFree).iw y = d.iw y := rfl
@[simp] theorem Dev.nextFree_ibit  (y j : Nat) : (d.nextFree).ibit y j = d.ibit y j := rfl
@[simp] theorem Dev.nextFree_ifld  (y h l : Nat) : (d.nextFree).ifld y h l = d.ifld y h l := rfl
@[simp] theorem Dev.nextFree_iuw  (y : Nat) : (d.nextFree).iuw y = d.iuw y := rfl
@[simp] theorem Dev.nextFree_isw  (y : Nat) : (d.nextFree).isw y = d.isw y := rfl

@[simp] theorem Dev.putFab_part (k : Master) (v : Word) : (d.putFab k v).part = d.part := rfl
@[simp] theorem Dev.putFab_rev (k : Master) (v : Word) : (d.putFab k v).rev = d.rev := rfl
@[simp] theorem Dev.putFab_fuses (k : Master) (v : Word) : (d.putFab k v).fuses = d.fuses := rfl
@[simp] theorem Dev.putFab_devLog (k : Master) (v : Word) : (d.putFab k v).devLog = d.devLog := rfl
@[simp] theorem Dev.putFab_store (k : Master) (v : Word) : (d.putFab k v).store = d.store := rfl
@[simp] theorem Dev.putFab_marks (k : Master) (v : Word) : (d.putFab k v).marks = d.marks := rfl
@[simp] theorem Dev.putFab_tested (k : Master) (v : Word) : (d.putFab k v).tested = d.tested := rfl
@[simp] theorem Dev.putFab_logWrote (k : Master) (v : Word) : (d.putFab k v).logWrote = d.logWrote := rfl
@[simp] theorem Dev.putFab_resetN (k : Master) (v : Word) : (d.putFab k v).resetN = d.resetN := rfl
@[simp] theorem Dev.putFab_locked (k : Master) (v : Word) : (d.putFab k v).locked = d.locked := rfl
@[simp] theorem Dev.putFab_everLock (k : Master) (v : Word) : (d.putFab k v).everLock = d.everLock := rfl
@[simp] theorem Dev.putFab_heldOff (k : Master) (v : Word) : (d.putFab k v).heldOff = d.heldOff := rfl
@[simp] theorem Dev.putFab_cycles (k : Master) (v : Word) : (d.putFab k v).cycles = d.cycles := rfl
@[simp] theorem Dev.putFab_words (k : Master) (v : Word) : (d.putFab k v).words = d.words := rfl
@[simp] theorem Dev.putFab_inForce (k : Master) (v : Word) : (d.putFab k v).inForce = d.inForce := rfl
@[simp] theorem Dev.putFab_latches (k : Master) (v : Word) : (d.putFab k v).latches = d.latches := rfl
@[simp] theorem Dev.putFab_cyc0 (k : Master) (v : Word) : (d.putFab k v).cyc0 = d.cyc0 := rfl
@[simp] theorem Dev.putFab_fresh (k : Master) (v : Word) : (d.putFab k v).fresh = d.fresh := rfl
@[simp] theorem Dev.putFab_freshEv (k : Master) (v : Word) : (d.putFab k v).freshEv = d.freshEv := rfl
@[simp] theorem Dev.putFab_evLate (k : Master) (v : Word) : (d.putFab k v).evLate = d.evLate := rfl
@[simp] theorem Dev.putFab_closeLate (k : Master) (v : Word) : (d.putFab k v).closeLate = d.closeLate := rfl
@[simp] theorem Dev.putFab_motors (k : Master) (v : Word) : (d.putFab k v).motors = d.motors := rfl
@[simp] theorem Dev.putFab_groups (k : Master) (v : Word) : (d.putFab k v).groups = d.groups := rfl
@[simp] theorem Dev.putFab_bridges (k : Master) (v : Word) : (d.putFab k v).bridges = d.bridges := rfl
@[simp] theorem Dev.putFab_dies (k : Master) (v : Word) : (d.putFab k v).dies = d.dies := rfl
@[simp] theorem Dev.putFab_reports (k : Master) (v : Word) : (d.putFab k v).reports = d.reports := rfl
@[simp] theorem Dev.putFab_seqAt (k : Master) (v : Word) : (d.putFab k v).seqAt = d.seqAt := rfl
@[simp] theorem Dev.putFab_busDue (k : Master) (v : Word) : (d.putFab k v).busDue = d.busDue := rfl
@[simp] theorem Dev.putFab_glDue (k : Master) (v : Word) : (d.putFab k v).glDue = d.glDue := rfl
@[simp] theorem Dev.putFab_fbDue (k : Master) (v : Word) : (d.putFab k v).fbDue = d.fbDue := rfl
@[simp] theorem Dev.putFab_prisms (k : Master) (v : Word) : (d.putFab k v).prisms = d.prisms := rfl
@[simp] theorem Dev.putFab_fbs (k : Master) (v : Word) : (d.putFab k v).fbs = d.fbs := rfl
@[simp] theorem Dev.putFab_dist (k : Master) (v : Word) : (d.putFab k v).dist = d.dist := rfl
@[simp] theorem Dev.putFab_traces (k : Master) (v : Word) : (d.putFab k v).traces = d.traces := rfl
@[simp] theorem Dev.putFab_tickAt (k : Master) (v : Word) : (d.putFab k v).tickAt = d.tickAt := rfl
@[simp] theorem Dev.putFab_ticks (k : Master) (v : Word) : (d.putFab k v).ticks = d.ticks := rfl
@[simp] theorem Dev.putFab_emptied (k : Master) (v : Word) : (d.putFab k v).emptied = d.emptied := rfl
@[simp] theorem Dev.putFab_secAt (k : Master) (v : Word) : (d.putFab k v).secAt = d.secAt := rfl
@[simp] theorem Dev.putFab_recq (k : Master) (v : Word) : (d.putFab k v).recq = d.recq := rfl
@[simp] theorem Dev.putFab_mbxIn (k : Master) (v : Word) : (d.putFab k v).mbxIn = d.mbxIn := rfl
@[simp] theorem Dev.putFab_mbxAt (k : Master) (v : Word) : (d.putFab k v).mbxAt = d.mbxAt := rfl
@[simp] theorem Dev.putFab_cplAt (k : Master) (v : Word) : (d.putFab k v).cplAt = d.cplAt := rfl
@[simp] theorem Dev.putFab_cplQt (k : Master) (v : Word) : (d.putFab k v).cplQt = d.cplQt := rfl
@[simp] theorem Dev.putFab_cplEdge (k : Master) (v : Word) : (d.putFab k v).cplEdge = d.cplEdge := rfl
@[simp] theorem Dev.putFab_cplFrom (k : Master) (v : Word) : (d.putFab k v).cplFrom = d.cplFrom := rfl
@[simp] theorem Dev.putFab_cplDone (k : Master) (v : Word) : (d.putFab k v).cplDone = d.cplDone := rfl
@[simp] theorem Dev.putFab_loader (k : Master) (v : Word) : (d.putFab k v).loader = d.loader := rfl
@[simp] theorem Dev.putFab_ports (k : Master) (v : Word) : (d.putFab k v).ports = d.ports := rfl
@[simp] theorem Dev.putFab_mem (k : Master) (v : Word) : (d.putFab k v).mem = d.mem := rfl
@[simp] theorem Dev.putFab_mirror (k : Master) (v : Word) : (d.putFab k v).mirror = d.mirror := rfl
@[simp] theorem Dev.putFab_therm (k : Master) (v : Word) : (d.putFab k v).therm = d.therm := rfl
@[simp] theorem Dev.putFab_thermAt (k : Master) (v : Word) : (d.putFab k v).thermAt = d.thermAt := rfl
@[simp] theorem Dev.putFab_power (k : Master) (v : Word) : (d.putFab k v).power = d.power := rfl
@[simp] theorem Dev.putFab_bist (k : Master) (v : Word) : (d.putFab k v).bist = d.bist := rfl
@[simp] theorem Dev.putFab_tap (k : Master) (v : Word) : (d.putFab k v).tap = d.tap := rfl
@[simp] theorem Dev.putFab_scan (k : Master) (v : Word) : (d.putFab k v).scan = d.scan := rfl
@[simp] theorem Dev.putFab_lc (k : Master) (v : Word) : (d.putFab k v).lc = d.lc := rfl
@[simp] theorem Dev.putFab_ev (k : Master) (v : Word) : (d.putFab k v).ev = d.ev := rfl
@[simp] theorem Dev.putFab_pend (k : Master) (v : Word) : (d.putFab k v).pend = d.pend := rfl
@[simp] theorem Dev.putFab_ppend (k : Master) (v : Word) : (d.putFab k v).ppend = d.ppend := rfl
@[simp] theorem Dev.putFab_ueAt (k : Master) (v : Word) : (d.putFab k v).ueAt = d.ueAt := rfl
@[simp] theorem Dev.putFab_faultAt (k : Master) (v : Word) : (d.putFab k v).faultAt = d.faultAt := rfl
@[simp] theorem Dev.putFab_scrubPos (k : Master) (v : Word) : (d.putFab k v).scrubPos = d.scrubPos := rfl
@[simp] theorem Dev.putFab_scrubCe (k : Master) (v : Word) : (d.putFab k v).scrubCe = d.scrubCe := rfl
@[simp] theorem Dev.putFab_scrubRaised (k : Master) (v : Word) : (d.putFab k v).scrubRaised = d.scrubRaised := rfl
@[simp] theorem Dev.putFab_backs (k : Master) (v : Word) : (d.putFab k v).backs = d.backs := rfl
@[simp] theorem Dev.putFab_free (k : Master) (v : Word) : (d.putFab k v).free = d.free := rfl
@[simp] theorem Dev.putFab_runs (k : Master) (v : Word) : (d.putFab k v).runs = d.runs := rfl
@[simp] theorem Dev.putFab_time (k : Master) (v : Word) : (d.putFab k v).time = d.time := rfl
@[simp] theorem Dev.putFab_sub (k : Master) (v : Word) : (d.putFab k v).sub = d.sub := rfl
@[simp] theorem Dev.putFab_micros (k : Master) (v : Word) : (d.putFab k v).micros = d.micros := rfl
@[simp] theorem Dev.putFab_mot (k : Master) (v : Word) (x : MotorIx) : (d.putFab k v).mot x = d.mot x := rfl
@[simp] theorem Dev.putFab_grp (k : Master) (v : Word) (x : GroupIx) : (d.putFab k v).grp x = d.grp x := rfl
@[simp] theorem Dev.putFab_brg (k : Master) (v : Word) (x : BridgeIx) : (d.putFab k v).brg x = d.brg x := rfl
@[simp] theorem Dev.putFab_die (k : Master) (v : Word) (x : GroupIx) : (d.putFab k v).die x = d.die x := rfl
@[simp] theorem Dev.putFab_prm (k : Master) (v : Word) (x : GroupIx) : (d.putFab k v).prm x = d.prm x := rfl
@[simp] theorem Dev.putFab_fb (k : Master) (v : Word) (x : ChanIx) : (d.putFab k v).fb x = d.fb x := rfl
@[simp] theorem Dev.putFab_trc (k : Master) (v : Word) (x : TraceIx) : (d.putFab k v).trc x = d.trc x := rfl
@[simp] theorem Dev.putFab_hp (k : Master) (v : Word) (x : HostIx) : (d.putFab k v).hp x = d.hp x := rfl
@[simp] theorem Dev.putFab_sen (k : Master) (v : Word) (x : SensorIx) : (d.putFab k v).sen x = d.sen x := rfl
@[simp] theorem Dev.putFab_w (k : Master) (v : Word) (y : Nat) : (d.putFab k v).w y = d.w y := rfl
@[simp] theorem Dev.putFab_bit (k : Master) (v : Word) (y j : Nat) : (d.putFab k v).bit y j = d.bit y j := rfl
@[simp] theorem Dev.putFab_fld (k : Master) (v : Word) (y h l : Nat) : (d.putFab k v).fld y h l = d.fld y h l := rfl
@[simp] theorem Dev.putFab_uw (k : Master) (v : Word) (y : Nat) : (d.putFab k v).uw y = d.uw y := rfl
@[simp] theorem Dev.putFab_sw (k : Master) (v : Word) (y : Nat) : (d.putFab k v).sw y = d.sw y := rfl
@[simp] theorem Dev.putFab_w32 (k : Master) (v : Word) (y : Nat) : (d.putFab k v).w32 y = d.w32 y := rfl
@[simp] theorem Dev.putFab_iw (k : Master) (v : Word) (y : Nat) : (d.putFab k v).iw y = d.iw y := rfl
@[simp] theorem Dev.putFab_ibit (k : Master) (v : Word) (y j : Nat) : (d.putFab k v).ibit y j = d.ibit y j := rfl
@[simp] theorem Dev.putFab_ifld (k : Master) (v : Word) (y h l : Nat) : (d.putFab k v).ifld y h l = d.ifld y h l := rfl
@[simp] theorem Dev.putFab_iuw (k : Master) (v : Word) (y : Nat) : (d.putFab k v).iuw y = d.iuw y := rfl
@[simp] theorem Dev.putFab_isw (k : Master) (v : Word) (y : Nat) : (d.putFab k v).isw y = d.isw y := rfl

@[simp] theorem Dev.onMem_part (f : MemPort → MemPort) : (d.onMem f).part = d.part := rfl
@[simp] theorem Dev.onMem_rev (f : MemPort → MemPort) : (d.onMem f).rev = d.rev := rfl
@[simp] theorem Dev.onMem_fuses (f : MemPort → MemPort) : (d.onMem f).fuses = d.fuses := rfl
@[simp] theorem Dev.onMem_devLog (f : MemPort → MemPort) : (d.onMem f).devLog = d.devLog := rfl
@[simp] theorem Dev.onMem_store (f : MemPort → MemPort) : (d.onMem f).store = d.store := rfl
@[simp] theorem Dev.onMem_marks (f : MemPort → MemPort) : (d.onMem f).marks = d.marks := rfl
@[simp] theorem Dev.onMem_tested (f : MemPort → MemPort) : (d.onMem f).tested = d.tested := rfl
@[simp] theorem Dev.onMem_logWrote (f : MemPort → MemPort) : (d.onMem f).logWrote = d.logWrote := rfl
@[simp] theorem Dev.onMem_resetN (f : MemPort → MemPort) : (d.onMem f).resetN = d.resetN := rfl
@[simp] theorem Dev.onMem_locked (f : MemPort → MemPort) : (d.onMem f).locked = d.locked := rfl
@[simp] theorem Dev.onMem_everLock (f : MemPort → MemPort) : (d.onMem f).everLock = d.everLock := rfl
@[simp] theorem Dev.onMem_heldOff (f : MemPort → MemPort) : (d.onMem f).heldOff = d.heldOff := rfl
@[simp] theorem Dev.onMem_cycles (f : MemPort → MemPort) : (d.onMem f).cycles = d.cycles := rfl
@[simp] theorem Dev.onMem_words (f : MemPort → MemPort) : (d.onMem f).words = d.words := rfl
@[simp] theorem Dev.onMem_inForce (f : MemPort → MemPort) : (d.onMem f).inForce = d.inForce := rfl
@[simp] theorem Dev.onMem_latches (f : MemPort → MemPort) : (d.onMem f).latches = d.latches := rfl
@[simp] theorem Dev.onMem_fab (f : MemPort → MemPort) : (d.onMem f).fab = d.fab := rfl
@[simp] theorem Dev.onMem_cyc0 (f : MemPort → MemPort) : (d.onMem f).cyc0 = d.cyc0 := rfl
@[simp] theorem Dev.onMem_fresh (f : MemPort → MemPort) : (d.onMem f).fresh = d.fresh := rfl
@[simp] theorem Dev.onMem_freshEv (f : MemPort → MemPort) : (d.onMem f).freshEv = d.freshEv := rfl
@[simp] theorem Dev.onMem_evLate (f : MemPort → MemPort) : (d.onMem f).evLate = d.evLate := rfl
@[simp] theorem Dev.onMem_closeLate (f : MemPort → MemPort) : (d.onMem f).closeLate = d.closeLate := rfl
@[simp] theorem Dev.onMem_motors (f : MemPort → MemPort) : (d.onMem f).motors = d.motors := rfl
@[simp] theorem Dev.onMem_groups (f : MemPort → MemPort) : (d.onMem f).groups = d.groups := rfl
@[simp] theorem Dev.onMem_bridges (f : MemPort → MemPort) : (d.onMem f).bridges = d.bridges := rfl
@[simp] theorem Dev.onMem_dies (f : MemPort → MemPort) : (d.onMem f).dies = d.dies := rfl
@[simp] theorem Dev.onMem_reports (f : MemPort → MemPort) : (d.onMem f).reports = d.reports := rfl
@[simp] theorem Dev.onMem_seqAt (f : MemPort → MemPort) : (d.onMem f).seqAt = d.seqAt := rfl
@[simp] theorem Dev.onMem_busDue (f : MemPort → MemPort) : (d.onMem f).busDue = d.busDue := rfl
@[simp] theorem Dev.onMem_glDue (f : MemPort → MemPort) : (d.onMem f).glDue = d.glDue := rfl
@[simp] theorem Dev.onMem_fbDue (f : MemPort → MemPort) : (d.onMem f).fbDue = d.fbDue := rfl
@[simp] theorem Dev.onMem_prisms (f : MemPort → MemPort) : (d.onMem f).prisms = d.prisms := rfl
@[simp] theorem Dev.onMem_fbs (f : MemPort → MemPort) : (d.onMem f).fbs = d.fbs := rfl
@[simp] theorem Dev.onMem_dist (f : MemPort → MemPort) : (d.onMem f).dist = d.dist := rfl
@[simp] theorem Dev.onMem_traces (f : MemPort → MemPort) : (d.onMem f).traces = d.traces := rfl
@[simp] theorem Dev.onMem_tickAt (f : MemPort → MemPort) : (d.onMem f).tickAt = d.tickAt := rfl
@[simp] theorem Dev.onMem_ticks (f : MemPort → MemPort) : (d.onMem f).ticks = d.ticks := rfl
@[simp] theorem Dev.onMem_emptied (f : MemPort → MemPort) : (d.onMem f).emptied = d.emptied := rfl
@[simp] theorem Dev.onMem_secAt (f : MemPort → MemPort) : (d.onMem f).secAt = d.secAt := rfl
@[simp] theorem Dev.onMem_recq (f : MemPort → MemPort) : (d.onMem f).recq = d.recq := rfl
@[simp] theorem Dev.onMem_mbxIn (f : MemPort → MemPort) : (d.onMem f).mbxIn = d.mbxIn := rfl
@[simp] theorem Dev.onMem_mbxAt (f : MemPort → MemPort) : (d.onMem f).mbxAt = d.mbxAt := rfl
@[simp] theorem Dev.onMem_cplAt (f : MemPort → MemPort) : (d.onMem f).cplAt = d.cplAt := rfl
@[simp] theorem Dev.onMem_cplQt (f : MemPort → MemPort) : (d.onMem f).cplQt = d.cplQt := rfl
@[simp] theorem Dev.onMem_cplEdge (f : MemPort → MemPort) : (d.onMem f).cplEdge = d.cplEdge := rfl
@[simp] theorem Dev.onMem_cplFrom (f : MemPort → MemPort) : (d.onMem f).cplFrom = d.cplFrom := rfl
@[simp] theorem Dev.onMem_cplDone (f : MemPort → MemPort) : (d.onMem f).cplDone = d.cplDone := rfl
@[simp] theorem Dev.onMem_loader (f : MemPort → MemPort) : (d.onMem f).loader = d.loader := rfl
@[simp] theorem Dev.onMem_ports (f : MemPort → MemPort) : (d.onMem f).ports = d.ports := rfl
@[simp] theorem Dev.onMem_mirror (f : MemPort → MemPort) : (d.onMem f).mirror = d.mirror := rfl
@[simp] theorem Dev.onMem_therm (f : MemPort → MemPort) : (d.onMem f).therm = d.therm := rfl
@[simp] theorem Dev.onMem_thermAt (f : MemPort → MemPort) : (d.onMem f).thermAt = d.thermAt := rfl
@[simp] theorem Dev.onMem_power (f : MemPort → MemPort) : (d.onMem f).power = d.power := rfl
@[simp] theorem Dev.onMem_bist (f : MemPort → MemPort) : (d.onMem f).bist = d.bist := rfl
@[simp] theorem Dev.onMem_tap (f : MemPort → MemPort) : (d.onMem f).tap = d.tap := rfl
@[simp] theorem Dev.onMem_scan (f : MemPort → MemPort) : (d.onMem f).scan = d.scan := rfl
@[simp] theorem Dev.onMem_lc (f : MemPort → MemPort) : (d.onMem f).lc = d.lc := rfl
@[simp] theorem Dev.onMem_ev (f : MemPort → MemPort) : (d.onMem f).ev = d.ev := rfl
@[simp] theorem Dev.onMem_pend (f : MemPort → MemPort) : (d.onMem f).pend = d.pend := rfl
@[simp] theorem Dev.onMem_ppend (f : MemPort → MemPort) : (d.onMem f).ppend = d.ppend := rfl
@[simp] theorem Dev.onMem_ueAt (f : MemPort → MemPort) : (d.onMem f).ueAt = d.ueAt := rfl
@[simp] theorem Dev.onMem_faultAt (f : MemPort → MemPort) : (d.onMem f).faultAt = d.faultAt := rfl
@[simp] theorem Dev.onMem_scrubPos (f : MemPort → MemPort) : (d.onMem f).scrubPos = d.scrubPos := rfl
@[simp] theorem Dev.onMem_scrubCe (f : MemPort → MemPort) : (d.onMem f).scrubCe = d.scrubCe := rfl
@[simp] theorem Dev.onMem_scrubRaised (f : MemPort → MemPort) : (d.onMem f).scrubRaised = d.scrubRaised := rfl
@[simp] theorem Dev.onMem_backs (f : MemPort → MemPort) : (d.onMem f).backs = d.backs := rfl
@[simp] theorem Dev.onMem_free (f : MemPort → MemPort) : (d.onMem f).free = d.free := rfl
@[simp] theorem Dev.onMem_runs (f : MemPort → MemPort) : (d.onMem f).runs = d.runs := rfl
@[simp] theorem Dev.onMem_time (f : MemPort → MemPort) : (d.onMem f).time = d.time := rfl
@[simp] theorem Dev.onMem_sub (f : MemPort → MemPort) : (d.onMem f).sub = d.sub := rfl
@[simp] theorem Dev.onMem_micros (f : MemPort → MemPort) : (d.onMem f).micros = d.micros := rfl
@[simp] theorem Dev.onMem_mot (f : MemPort → MemPort) (x : MotorIx) : (d.onMem f).mot x = d.mot x := rfl
@[simp] theorem Dev.onMem_grp (f : MemPort → MemPort) (x : GroupIx) : (d.onMem f).grp x = d.grp x := rfl
@[simp] theorem Dev.onMem_brg (f : MemPort → MemPort) (x : BridgeIx) : (d.onMem f).brg x = d.brg x := rfl
@[simp] theorem Dev.onMem_die (f : MemPort → MemPort) (x : GroupIx) : (d.onMem f).die x = d.die x := rfl
@[simp] theorem Dev.onMem_prm (f : MemPort → MemPort) (x : GroupIx) : (d.onMem f).prm x = d.prm x := rfl
@[simp] theorem Dev.onMem_fb (f : MemPort → MemPort) (x : ChanIx) : (d.onMem f).fb x = d.fb x := rfl
@[simp] theorem Dev.onMem_trc (f : MemPort → MemPort) (x : TraceIx) : (d.onMem f).trc x = d.trc x := rfl
@[simp] theorem Dev.onMem_hp (f : MemPort → MemPort) (x : HostIx) : (d.onMem f).hp x = d.hp x := rfl
@[simp] theorem Dev.onMem_sen (f : MemPort → MemPort) (x : SensorIx) : (d.onMem f).sen x = d.sen x := rfl
@[simp] theorem Dev.onMem_w (f : MemPort → MemPort) (y : Nat) : (d.onMem f).w y = d.w y := rfl
@[simp] theorem Dev.onMem_bit (f : MemPort → MemPort) (y j : Nat) : (d.onMem f).bit y j = d.bit y j := rfl
@[simp] theorem Dev.onMem_fld (f : MemPort → MemPort) (y h l : Nat) : (d.onMem f).fld y h l = d.fld y h l := rfl
@[simp] theorem Dev.onMem_uw (f : MemPort → MemPort) (y : Nat) : (d.onMem f).uw y = d.uw y := rfl
@[simp] theorem Dev.onMem_sw (f : MemPort → MemPort) (y : Nat) : (d.onMem f).sw y = d.sw y := rfl
@[simp] theorem Dev.onMem_w32 (f : MemPort → MemPort) (y : Nat) : (d.onMem f).w32 y = d.w32 y := rfl
@[simp] theorem Dev.onMem_iw (f : MemPort → MemPort) (y : Nat) : (d.onMem f).iw y = d.iw y := rfl
@[simp] theorem Dev.onMem_ibit (f : MemPort → MemPort) (y j : Nat) : (d.onMem f).ibit y j = d.ibit y j := rfl
@[simp] theorem Dev.onMem_ifld (f : MemPort → MemPort) (y h l : Nat) : (d.onMem f).ifld y h l = d.ifld y h l := rfl
@[simp] theorem Dev.onMem_iuw (f : MemPort → MemPort) (y : Nat) : (d.onMem f).iuw y = d.iuw y := rfl
@[simp] theorem Dev.onMem_isw (f : MemPort → MemPort) (y : Nat) : (d.onMem f).isw y = d.isw y := rfl

@[simp] theorem Dev.onMir_part (f : MirrorSt → MirrorSt) : (d.onMir f).part = d.part := rfl
@[simp] theorem Dev.onMir_rev (f : MirrorSt → MirrorSt) : (d.onMir f).rev = d.rev := rfl
@[simp] theorem Dev.onMir_fuses (f : MirrorSt → MirrorSt) : (d.onMir f).fuses = d.fuses := rfl
@[simp] theorem Dev.onMir_devLog (f : MirrorSt → MirrorSt) : (d.onMir f).devLog = d.devLog := rfl
@[simp] theorem Dev.onMir_store (f : MirrorSt → MirrorSt) : (d.onMir f).store = d.store := rfl
@[simp] theorem Dev.onMir_marks (f : MirrorSt → MirrorSt) : (d.onMir f).marks = d.marks := rfl
@[simp] theorem Dev.onMir_tested (f : MirrorSt → MirrorSt) : (d.onMir f).tested = d.tested := rfl
@[simp] theorem Dev.onMir_logWrote (f : MirrorSt → MirrorSt) : (d.onMir f).logWrote = d.logWrote := rfl
@[simp] theorem Dev.onMir_resetN (f : MirrorSt → MirrorSt) : (d.onMir f).resetN = d.resetN := rfl
@[simp] theorem Dev.onMir_locked (f : MirrorSt → MirrorSt) : (d.onMir f).locked = d.locked := rfl
@[simp] theorem Dev.onMir_everLock (f : MirrorSt → MirrorSt) : (d.onMir f).everLock = d.everLock := rfl
@[simp] theorem Dev.onMir_heldOff (f : MirrorSt → MirrorSt) : (d.onMir f).heldOff = d.heldOff := rfl
@[simp] theorem Dev.onMir_cycles (f : MirrorSt → MirrorSt) : (d.onMir f).cycles = d.cycles := rfl
@[simp] theorem Dev.onMir_words (f : MirrorSt → MirrorSt) : (d.onMir f).words = d.words := rfl
@[simp] theorem Dev.onMir_inForce (f : MirrorSt → MirrorSt) : (d.onMir f).inForce = d.inForce := rfl
@[simp] theorem Dev.onMir_latches (f : MirrorSt → MirrorSt) : (d.onMir f).latches = d.latches := rfl
@[simp] theorem Dev.onMir_fab (f : MirrorSt → MirrorSt) : (d.onMir f).fab = d.fab := rfl
@[simp] theorem Dev.onMir_cyc0 (f : MirrorSt → MirrorSt) : (d.onMir f).cyc0 = d.cyc0 := rfl
@[simp] theorem Dev.onMir_fresh (f : MirrorSt → MirrorSt) : (d.onMir f).fresh = d.fresh := rfl
@[simp] theorem Dev.onMir_freshEv (f : MirrorSt → MirrorSt) : (d.onMir f).freshEv = d.freshEv := rfl
@[simp] theorem Dev.onMir_evLate (f : MirrorSt → MirrorSt) : (d.onMir f).evLate = d.evLate := rfl
@[simp] theorem Dev.onMir_closeLate (f : MirrorSt → MirrorSt) : (d.onMir f).closeLate = d.closeLate := rfl
@[simp] theorem Dev.onMir_motors (f : MirrorSt → MirrorSt) : (d.onMir f).motors = d.motors := rfl
@[simp] theorem Dev.onMir_groups (f : MirrorSt → MirrorSt) : (d.onMir f).groups = d.groups := rfl
@[simp] theorem Dev.onMir_bridges (f : MirrorSt → MirrorSt) : (d.onMir f).bridges = d.bridges := rfl
@[simp] theorem Dev.onMir_dies (f : MirrorSt → MirrorSt) : (d.onMir f).dies = d.dies := rfl
@[simp] theorem Dev.onMir_reports (f : MirrorSt → MirrorSt) : (d.onMir f).reports = d.reports := rfl
@[simp] theorem Dev.onMir_seqAt (f : MirrorSt → MirrorSt) : (d.onMir f).seqAt = d.seqAt := rfl
@[simp] theorem Dev.onMir_busDue (f : MirrorSt → MirrorSt) : (d.onMir f).busDue = d.busDue := rfl
@[simp] theorem Dev.onMir_glDue (f : MirrorSt → MirrorSt) : (d.onMir f).glDue = d.glDue := rfl
@[simp] theorem Dev.onMir_fbDue (f : MirrorSt → MirrorSt) : (d.onMir f).fbDue = d.fbDue := rfl
@[simp] theorem Dev.onMir_prisms (f : MirrorSt → MirrorSt) : (d.onMir f).prisms = d.prisms := rfl
@[simp] theorem Dev.onMir_fbs (f : MirrorSt → MirrorSt) : (d.onMir f).fbs = d.fbs := rfl
@[simp] theorem Dev.onMir_dist (f : MirrorSt → MirrorSt) : (d.onMir f).dist = d.dist := rfl
@[simp] theorem Dev.onMir_traces (f : MirrorSt → MirrorSt) : (d.onMir f).traces = d.traces := rfl
@[simp] theorem Dev.onMir_tickAt (f : MirrorSt → MirrorSt) : (d.onMir f).tickAt = d.tickAt := rfl
@[simp] theorem Dev.onMir_ticks (f : MirrorSt → MirrorSt) : (d.onMir f).ticks = d.ticks := rfl
@[simp] theorem Dev.onMir_emptied (f : MirrorSt → MirrorSt) : (d.onMir f).emptied = d.emptied := rfl
@[simp] theorem Dev.onMir_secAt (f : MirrorSt → MirrorSt) : (d.onMir f).secAt = d.secAt := rfl
@[simp] theorem Dev.onMir_recq (f : MirrorSt → MirrorSt) : (d.onMir f).recq = d.recq := rfl
@[simp] theorem Dev.onMir_mbxIn (f : MirrorSt → MirrorSt) : (d.onMir f).mbxIn = d.mbxIn := rfl
@[simp] theorem Dev.onMir_mbxAt (f : MirrorSt → MirrorSt) : (d.onMir f).mbxAt = d.mbxAt := rfl
@[simp] theorem Dev.onMir_cplAt (f : MirrorSt → MirrorSt) : (d.onMir f).cplAt = d.cplAt := rfl
@[simp] theorem Dev.onMir_cplQt (f : MirrorSt → MirrorSt) : (d.onMir f).cplQt = d.cplQt := rfl
@[simp] theorem Dev.onMir_cplEdge (f : MirrorSt → MirrorSt) : (d.onMir f).cplEdge = d.cplEdge := rfl
@[simp] theorem Dev.onMir_cplFrom (f : MirrorSt → MirrorSt) : (d.onMir f).cplFrom = d.cplFrom := rfl
@[simp] theorem Dev.onMir_cplDone (f : MirrorSt → MirrorSt) : (d.onMir f).cplDone = d.cplDone := rfl
@[simp] theorem Dev.onMir_loader (f : MirrorSt → MirrorSt) : (d.onMir f).loader = d.loader := rfl
@[simp] theorem Dev.onMir_ports (f : MirrorSt → MirrorSt) : (d.onMir f).ports = d.ports := rfl
@[simp] theorem Dev.onMir_mem (f : MirrorSt → MirrorSt) : (d.onMir f).mem = d.mem := rfl
@[simp] theorem Dev.onMir_therm (f : MirrorSt → MirrorSt) : (d.onMir f).therm = d.therm := rfl
@[simp] theorem Dev.onMir_thermAt (f : MirrorSt → MirrorSt) : (d.onMir f).thermAt = d.thermAt := rfl
@[simp] theorem Dev.onMir_power (f : MirrorSt → MirrorSt) : (d.onMir f).power = d.power := rfl
@[simp] theorem Dev.onMir_bist (f : MirrorSt → MirrorSt) : (d.onMir f).bist = d.bist := rfl
@[simp] theorem Dev.onMir_tap (f : MirrorSt → MirrorSt) : (d.onMir f).tap = d.tap := rfl
@[simp] theorem Dev.onMir_scan (f : MirrorSt → MirrorSt) : (d.onMir f).scan = d.scan := rfl
@[simp] theorem Dev.onMir_lc (f : MirrorSt → MirrorSt) : (d.onMir f).lc = d.lc := rfl
@[simp] theorem Dev.onMir_ev (f : MirrorSt → MirrorSt) : (d.onMir f).ev = d.ev := rfl
@[simp] theorem Dev.onMir_pend (f : MirrorSt → MirrorSt) : (d.onMir f).pend = d.pend := rfl
@[simp] theorem Dev.onMir_ppend (f : MirrorSt → MirrorSt) : (d.onMir f).ppend = d.ppend := rfl
@[simp] theorem Dev.onMir_ueAt (f : MirrorSt → MirrorSt) : (d.onMir f).ueAt = d.ueAt := rfl
@[simp] theorem Dev.onMir_faultAt (f : MirrorSt → MirrorSt) : (d.onMir f).faultAt = d.faultAt := rfl
@[simp] theorem Dev.onMir_scrubPos (f : MirrorSt → MirrorSt) : (d.onMir f).scrubPos = d.scrubPos := rfl
@[simp] theorem Dev.onMir_scrubCe (f : MirrorSt → MirrorSt) : (d.onMir f).scrubCe = d.scrubCe := rfl
@[simp] theorem Dev.onMir_scrubRaised (f : MirrorSt → MirrorSt) : (d.onMir f).scrubRaised = d.scrubRaised := rfl
@[simp] theorem Dev.onMir_backs (f : MirrorSt → MirrorSt) : (d.onMir f).backs = d.backs := rfl
@[simp] theorem Dev.onMir_free (f : MirrorSt → MirrorSt) : (d.onMir f).free = d.free := rfl
@[simp] theorem Dev.onMir_runs (f : MirrorSt → MirrorSt) : (d.onMir f).runs = d.runs := rfl
@[simp] theorem Dev.onMir_time (f : MirrorSt → MirrorSt) : (d.onMir f).time = d.time := rfl
@[simp] theorem Dev.onMir_sub (f : MirrorSt → MirrorSt) : (d.onMir f).sub = d.sub := rfl
@[simp] theorem Dev.onMir_micros (f : MirrorSt → MirrorSt) : (d.onMir f).micros = d.micros := rfl
@[simp] theorem Dev.onMir_mot (f : MirrorSt → MirrorSt) (x : MotorIx) : (d.onMir f).mot x = d.mot x := rfl
@[simp] theorem Dev.onMir_grp (f : MirrorSt → MirrorSt) (x : GroupIx) : (d.onMir f).grp x = d.grp x := rfl
@[simp] theorem Dev.onMir_brg (f : MirrorSt → MirrorSt) (x : BridgeIx) : (d.onMir f).brg x = d.brg x := rfl
@[simp] theorem Dev.onMir_die (f : MirrorSt → MirrorSt) (x : GroupIx) : (d.onMir f).die x = d.die x := rfl
@[simp] theorem Dev.onMir_prm (f : MirrorSt → MirrorSt) (x : GroupIx) : (d.onMir f).prm x = d.prm x := rfl
@[simp] theorem Dev.onMir_fb (f : MirrorSt → MirrorSt) (x : ChanIx) : (d.onMir f).fb x = d.fb x := rfl
@[simp] theorem Dev.onMir_trc (f : MirrorSt → MirrorSt) (x : TraceIx) : (d.onMir f).trc x = d.trc x := rfl
@[simp] theorem Dev.onMir_hp (f : MirrorSt → MirrorSt) (x : HostIx) : (d.onMir f).hp x = d.hp x := rfl
@[simp] theorem Dev.onMir_sen (f : MirrorSt → MirrorSt) (x : SensorIx) : (d.onMir f).sen x = d.sen x := rfl
@[simp] theorem Dev.onMir_w (f : MirrorSt → MirrorSt) (y : Nat) : (d.onMir f).w y = d.w y := rfl
@[simp] theorem Dev.onMir_bit (f : MirrorSt → MirrorSt) (y j : Nat) : (d.onMir f).bit y j = d.bit y j := rfl
@[simp] theorem Dev.onMir_fld (f : MirrorSt → MirrorSt) (y h l : Nat) : (d.onMir f).fld y h l = d.fld y h l := rfl
@[simp] theorem Dev.onMir_uw (f : MirrorSt → MirrorSt) (y : Nat) : (d.onMir f).uw y = d.uw y := rfl
@[simp] theorem Dev.onMir_sw (f : MirrorSt → MirrorSt) (y : Nat) : (d.onMir f).sw y = d.sw y := rfl
@[simp] theorem Dev.onMir_w32 (f : MirrorSt → MirrorSt) (y : Nat) : (d.onMir f).w32 y = d.w32 y := rfl
@[simp] theorem Dev.onMir_iw (f : MirrorSt → MirrorSt) (y : Nat) : (d.onMir f).iw y = d.iw y := rfl
@[simp] theorem Dev.onMir_ibit (f : MirrorSt → MirrorSt) (y j : Nat) : (d.onMir f).ibit y j = d.ibit y j := rfl
@[simp] theorem Dev.onMir_ifld (f : MirrorSt → MirrorSt) (y h l : Nat) : (d.onMir f).ifld y h l = d.ifld y h l := rfl
@[simp] theorem Dev.onMir_iuw (f : MirrorSt → MirrorSt) (y : Nat) : (d.onMir f).iuw y = d.iuw y := rfl
@[simp] theorem Dev.onMir_isw (f : MirrorSt → MirrorSt) (y : Nat) : (d.onMir f).isw y = d.isw y := rfl

/-! ### Raising a source changes the events alone -/

@[simp] theorem Dev.raise_part (i : Nat) : (d.raise i).part = d.part := by
  unfold Dev.raise Dev.raiseNow; split <;> (try split) <;> (try split) <;> rfl
@[simp] theorem Dev.raise_rev (i : Nat) : (d.raise i).rev = d.rev := by
  unfold Dev.raise Dev.raiseNow; split <;> (try split) <;> (try split) <;> rfl
@[simp] theorem Dev.raise_fuses (i : Nat) : (d.raise i).fuses = d.fuses := by
  unfold Dev.raise Dev.raiseNow; split <;> (try split) <;> (try split) <;> rfl
@[simp] theorem Dev.raise_devLog (i : Nat) : (d.raise i).devLog = d.devLog := by
  unfold Dev.raise Dev.raiseNow; split <;> (try split) <;> (try split) <;> rfl
@[simp] theorem Dev.raise_store (i : Nat) : (d.raise i).store = d.store := by
  unfold Dev.raise Dev.raiseNow; split <;> (try split) <;> (try split) <;> rfl
@[simp] theorem Dev.raise_marks (i : Nat) : (d.raise i).marks = d.marks := by
  unfold Dev.raise Dev.raiseNow; split <;> (try split) <;> (try split) <;> rfl
@[simp] theorem Dev.raise_tested (i : Nat) : (d.raise i).tested = d.tested := by
  unfold Dev.raise Dev.raiseNow; split <;> (try split) <;> (try split) <;> rfl
@[simp] theorem Dev.raise_logWrote (i : Nat) : (d.raise i).logWrote = d.logWrote := by
  unfold Dev.raise Dev.raiseNow; split <;> (try split) <;> (try split) <;> rfl
@[simp] theorem Dev.raise_resetN (i : Nat) : (d.raise i).resetN = d.resetN := by
  unfold Dev.raise Dev.raiseNow; split <;> (try split) <;> (try split) <;> rfl
@[simp] theorem Dev.raise_locked (i : Nat) : (d.raise i).locked = d.locked := by
  unfold Dev.raise Dev.raiseNow; split <;> (try split) <;> (try split) <;> rfl
@[simp] theorem Dev.raise_everLock (i : Nat) : (d.raise i).everLock = d.everLock := by
  unfold Dev.raise Dev.raiseNow; split <;> (try split) <;> (try split) <;> rfl
@[simp] theorem Dev.raise_heldOff (i : Nat) : (d.raise i).heldOff = d.heldOff := by
  unfold Dev.raise Dev.raiseNow; split <;> (try split) <;> (try split) <;> rfl
@[simp] theorem Dev.raise_cycles (i : Nat) : (d.raise i).cycles = d.cycles := by
  unfold Dev.raise Dev.raiseNow; split <;> (try split) <;> (try split) <;> rfl
@[simp] theorem Dev.raise_words (i : Nat) : (d.raise i).words = d.words := by
  unfold Dev.raise Dev.raiseNow; split <;> (try split) <;> (try split) <;> rfl
@[simp] theorem Dev.raise_inForce (i : Nat) : (d.raise i).inForce = d.inForce := by
  unfold Dev.raise Dev.raiseNow; split <;> (try split) <;> (try split) <;> rfl
@[simp] theorem Dev.raise_latches (i : Nat) : (d.raise i).latches = d.latches := by
  unfold Dev.raise Dev.raiseNow; split <;> (try split) <;> (try split) <;> rfl
@[simp] theorem Dev.raise_fab (i : Nat) : (d.raise i).fab = d.fab := by
  unfold Dev.raise Dev.raiseNow; split <;> (try split) <;> (try split) <;> rfl
@[simp] theorem Dev.raise_cyc0 (i : Nat) : (d.raise i).cyc0 = d.cyc0 := by
  unfold Dev.raise Dev.raiseNow; split <;> (try split) <;> (try split) <;> rfl
@[simp] theorem Dev.raise_fresh (i : Nat) : (d.raise i).fresh = d.fresh := by
  unfold Dev.raise Dev.raiseNow; split <;> (try split) <;> (try split) <;> rfl
@[simp] theorem Dev.raise_closeLate (i : Nat) : (d.raise i).closeLate = d.closeLate := by
  unfold Dev.raise Dev.raiseNow; split <;> (try split) <;> (try split) <;> rfl
@[simp] theorem Dev.raise_motors (i : Nat) : (d.raise i).motors = d.motors := by
  unfold Dev.raise Dev.raiseNow; split <;> (try split) <;> (try split) <;> rfl
@[simp] theorem Dev.raise_groups (i : Nat) : (d.raise i).groups = d.groups := by
  unfold Dev.raise Dev.raiseNow; split <;> (try split) <;> (try split) <;> rfl
@[simp] theorem Dev.raise_bridges (i : Nat) : (d.raise i).bridges = d.bridges := by
  unfold Dev.raise Dev.raiseNow; split <;> (try split) <;> (try split) <;> rfl
@[simp] theorem Dev.raise_dies (i : Nat) : (d.raise i).dies = d.dies := by
  unfold Dev.raise Dev.raiseNow; split <;> (try split) <;> (try split) <;> rfl
@[simp] theorem Dev.raise_reports (i : Nat) : (d.raise i).reports = d.reports := by
  unfold Dev.raise Dev.raiseNow; split <;> (try split) <;> (try split) <;> rfl
@[simp] theorem Dev.raise_seqAt (i : Nat) : (d.raise i).seqAt = d.seqAt := by
  unfold Dev.raise Dev.raiseNow; split <;> (try split) <;> (try split) <;> rfl
@[simp] theorem Dev.raise_busDue (i : Nat) : (d.raise i).busDue = d.busDue := by
  unfold Dev.raise Dev.raiseNow; split <;> (try split) <;> (try split) <;> rfl
@[simp] theorem Dev.raise_glDue (i : Nat) : (d.raise i).glDue = d.glDue := by
  unfold Dev.raise Dev.raiseNow; split <;> (try split) <;> (try split) <;> rfl
@[simp] theorem Dev.raise_fbDue (i : Nat) : (d.raise i).fbDue = d.fbDue := by
  unfold Dev.raise Dev.raiseNow; split <;> (try split) <;> (try split) <;> rfl
@[simp] theorem Dev.raise_prisms (i : Nat) : (d.raise i).prisms = d.prisms := by
  unfold Dev.raise Dev.raiseNow; split <;> (try split) <;> (try split) <;> rfl
@[simp] theorem Dev.raise_fbs (i : Nat) : (d.raise i).fbs = d.fbs := by
  unfold Dev.raise Dev.raiseNow; split <;> (try split) <;> (try split) <;> rfl
@[simp] theorem Dev.raise_dist (i : Nat) : (d.raise i).dist = d.dist := by
  unfold Dev.raise Dev.raiseNow; split <;> (try split) <;> (try split) <;> rfl
@[simp] theorem Dev.raise_traces (i : Nat) : (d.raise i).traces = d.traces := by
  unfold Dev.raise Dev.raiseNow; split <;> (try split) <;> (try split) <;> rfl
@[simp] theorem Dev.raise_tickAt (i : Nat) : (d.raise i).tickAt = d.tickAt := by
  unfold Dev.raise Dev.raiseNow; split <;> (try split) <;> (try split) <;> rfl
@[simp] theorem Dev.raise_ticks (i : Nat) : (d.raise i).ticks = d.ticks := by
  unfold Dev.raise Dev.raiseNow; split <;> (try split) <;> (try split) <;> rfl
@[simp] theorem Dev.raise_emptied (i : Nat) : (d.raise i).emptied = d.emptied := by
  unfold Dev.raise Dev.raiseNow; split <;> (try split) <;> (try split) <;> rfl
@[simp] theorem Dev.raise_secAt (i : Nat) : (d.raise i).secAt = d.secAt := by
  unfold Dev.raise Dev.raiseNow; split <;> (try split) <;> (try split) <;> rfl
@[simp] theorem Dev.raise_recq (i : Nat) : (d.raise i).recq = d.recq := by
  unfold Dev.raise Dev.raiseNow; split <;> (try split) <;> (try split) <;> rfl
@[simp] theorem Dev.raise_mbxIn (i : Nat) : (d.raise i).mbxIn = d.mbxIn := by
  unfold Dev.raise Dev.raiseNow; split <;> (try split) <;> (try split) <;> rfl
@[simp] theorem Dev.raise_mbxAt (i : Nat) : (d.raise i).mbxAt = d.mbxAt := by
  unfold Dev.raise Dev.raiseNow; split <;> (try split) <;> (try split) <;> rfl
@[simp] theorem Dev.raise_cplAt (i : Nat) : (d.raise i).cplAt = d.cplAt := by
  unfold Dev.raise Dev.raiseNow; split <;> (try split) <;> (try split) <;> rfl
@[simp] theorem Dev.raise_cplQt (i : Nat) : (d.raise i).cplQt = d.cplQt := by
  unfold Dev.raise Dev.raiseNow; split <;> (try split) <;> (try split) <;> rfl
@[simp] theorem Dev.raise_cplEdge (i : Nat) : (d.raise i).cplEdge = d.cplEdge := by
  unfold Dev.raise Dev.raiseNow; split <;> (try split) <;> (try split) <;> rfl
@[simp] theorem Dev.raise_cplFrom (i : Nat) : (d.raise i).cplFrom = d.cplFrom := by
  unfold Dev.raise Dev.raiseNow; split <;> (try split) <;> (try split) <;> rfl
@[simp] theorem Dev.raise_cplDone (i : Nat) : (d.raise i).cplDone = d.cplDone := by
  unfold Dev.raise Dev.raiseNow; split <;> (try split) <;> (try split) <;> rfl
@[simp] theorem Dev.raise_loader (i : Nat) : (d.raise i).loader = d.loader := by
  unfold Dev.raise Dev.raiseNow; split <;> (try split) <;> (try split) <;> rfl
@[simp] theorem Dev.raise_ports (i : Nat) : (d.raise i).ports = d.ports := by
  unfold Dev.raise Dev.raiseNow; split <;> (try split) <;> (try split) <;> rfl
@[simp] theorem Dev.raise_mem (i : Nat) : (d.raise i).mem = d.mem := by
  unfold Dev.raise Dev.raiseNow; split <;> (try split) <;> (try split) <;> rfl
@[simp] theorem Dev.raise_mirror (i : Nat) : (d.raise i).mirror = d.mirror := by
  unfold Dev.raise Dev.raiseNow; split <;> (try split) <;> (try split) <;> rfl
@[simp] theorem Dev.raise_therm (i : Nat) : (d.raise i).therm = d.therm := by
  unfold Dev.raise Dev.raiseNow; split <;> (try split) <;> (try split) <;> rfl
@[simp] theorem Dev.raise_thermAt (i : Nat) : (d.raise i).thermAt = d.thermAt := by
  unfold Dev.raise Dev.raiseNow; split <;> (try split) <;> (try split) <;> rfl
@[simp] theorem Dev.raise_power (i : Nat) : (d.raise i).power = d.power := by
  unfold Dev.raise Dev.raiseNow; split <;> (try split) <;> (try split) <;> rfl
@[simp] theorem Dev.raise_bist (i : Nat) : (d.raise i).bist = d.bist := by
  unfold Dev.raise Dev.raiseNow; split <;> (try split) <;> (try split) <;> rfl
@[simp] theorem Dev.raise_tap (i : Nat) : (d.raise i).tap = d.tap := by
  unfold Dev.raise Dev.raiseNow; split <;> (try split) <;> (try split) <;> rfl
@[simp] theorem Dev.raise_scan (i : Nat) : (d.raise i).scan = d.scan := by
  unfold Dev.raise Dev.raiseNow; split <;> (try split) <;> (try split) <;> rfl
@[simp] theorem Dev.raise_lc (i : Nat) : (d.raise i).lc = d.lc := by
  unfold Dev.raise Dev.raiseNow; split <;> (try split) <;> (try split) <;> rfl
@[simp] theorem Dev.raise_ueAt (i : Nat) : (d.raise i).ueAt = d.ueAt := by
  unfold Dev.raise Dev.raiseNow; split <;> (try split) <;> (try split) <;> rfl
@[simp] theorem Dev.raise_faultAt (i : Nat) : (d.raise i).faultAt = d.faultAt := by
  unfold Dev.raise Dev.raiseNow; split <;> (try split) <;> (try split) <;> rfl
@[simp] theorem Dev.raise_scrubPos (i : Nat) : (d.raise i).scrubPos = d.scrubPos := by
  unfold Dev.raise Dev.raiseNow; split <;> (try split) <;> (try split) <;> rfl
@[simp] theorem Dev.raise_scrubCe (i : Nat) : (d.raise i).scrubCe = d.scrubCe := by
  unfold Dev.raise Dev.raiseNow; split <;> (try split) <;> (try split) <;> rfl
@[simp] theorem Dev.raise_scrubRaised (i : Nat) : (d.raise i).scrubRaised = d.scrubRaised := by
  unfold Dev.raise Dev.raiseNow; split <;> (try split) <;> (try split) <;> rfl
@[simp] theorem Dev.raise_backs (i : Nat) : (d.raise i).backs = d.backs := by
  unfold Dev.raise Dev.raiseNow; split <;> (try split) <;> (try split) <;> rfl
@[simp] theorem Dev.raise_free (i : Nat) : (d.raise i).free = d.free := by
  unfold Dev.raise Dev.raiseNow; split <;> (try split) <;> (try split) <;> rfl
@[simp] theorem Dev.raise_w (i a : Nat) : (d.raise i).w a = d.w a := by simp [Dev.w]
@[simp] theorem Dev.raise_iw (i a : Nat) : (d.raise i).iw a = d.iw a := by simp [Dev.iw]
@[simp] theorem Dev.raise_runs (i : Nat) : (d.raise i).runs = d.runs := by simp [Dev.runs]
@[simp] theorem Dev.raise_time (i : Nat) : (d.raise i).time = d.time := by simp [Dev.time]
@[simp] theorem Dev.raise_sub (i : Nat) : (d.raise i).sub = d.sub := by simp [Dev.sub]
@[simp] theorem Dev.raise_micros (i : Nat) : (d.raise i).micros = d.micros := by simp [Dev.micros]
@[simp] theorem Dev.raise_mot (i : Nat) (x : MotorIx) : (d.raise i).mot x = d.mot x := by simp [Dev.mot]
@[simp] theorem Dev.raise_grp (i : Nat) (x : GroupIx) : (d.raise i).grp x = d.grp x := by simp [Dev.grp]
@[simp] theorem Dev.raise_brg (i : Nat) (x : BridgeIx) : (d.raise i).brg x = d.brg x := by simp [Dev.brg]
@[simp] theorem Dev.raise_die (i : Nat) (x : GroupIx) : (d.raise i).die x = d.die x := by simp [Dev.die]
@[simp] theorem Dev.raise_prm (i : Nat) (x : GroupIx) : (d.raise i).prm x = d.prm x := by simp [Dev.prm]
@[simp] theorem Dev.raise_fb (i : Nat) (x : ChanIx) : (d.raise i).fb x = d.fb x := by simp [Dev.fb]
@[simp] theorem Dev.raise_trc (i : Nat) (x : TraceIx) : (d.raise i).trc x = d.trc x := by simp [Dev.trc]
@[simp] theorem Dev.raise_hp (i : Nat) (x : HostIx) : (d.raise i).hp x = d.hp x := by simp [Dev.hp]
@[simp] theorem Dev.raise_sen (i : Nat) (x : SensorIx) : (d.raise i).sen x = d.sen x := by simp [Dev.sen]

end Sys2Proof.Machine
end

