-- ==== Sys2Proof/Laws/Bits.lean ====
section
/-! SUPPORT. Reads of a field, a bit or a word after a write of a field, a bit or a word. -/

namespace Sys2Proof.Machine

set_option Elab.async false

open Sys2Proof

/-! ### Fields of a word -/

/-- A word is its part above a field, the field, and its part below. -/
theorem split_field (n hi lo : Nat) (h : lo ≤ hi + 1) :
    n = n / 2 ^ (hi + 1) * 2 ^ (hi + 1) + (n >>> lo) % 2 ^ (hi + 1 - lo) * 2 ^ lo + n % 2 ^ lo := by
  have e : (2 : Nat) ^ (hi + 1) = 2 ^ lo * 2 ^ (hi + 1 - lo) := by rw [← Nat.pow_add]; congr 1; omega
  rw [Nat.shiftRight_eq_div_pow]
  have h1 := Nat.div_add_mod n (2 ^ lo)
  have h2 := Nat.div_add_mod (n / 2 ^ lo) (2 ^ (hi + 1 - lo))
  rw [Nat.div_div_eq_div_mul, ← e] at h2
  calc n = 2 ^ lo * (n / 2 ^ lo) + n % 2 ^ lo := h1.symm
    _ = 2 ^ lo * (2 ^ (hi + 1 - lo) * (n / 2 ^ (hi + 1)) + n / 2 ^ lo % 2 ^ (hi + 1 - lo)) + n % 2 ^ lo := by rw [h2]
    _ = _ := by rw [e]; ring

/-- The word that `withBits` makes, as a number. -/
theorem toNat_withBits (w : Word) (hi lo v : Nat) (hh : hi < 16) (hl : lo ≤ hi) :
    (withBits w hi lo v).toNat =
      w.toNat / 2 ^ (hi + 1) * 2 ^ (hi + 1) + v % 2 ^ (hi + 1 - lo) * 2 ^ lo + w.toNat % 2 ^ lo := by
  have hs := split_field w.toNat hi lo (by omega)
  have e : (2 : Nat) ^ (hi + 1) = 2 ^ (hi + 1 - lo) * 2 ^ lo := by rw [← Nat.pow_add]; congr 1; omega
  have e16 : (2 : Nat) ^ 16 = 2 ^ (15 - hi) * 2 ^ (hi + 1) := by rw [← Nat.pow_add]; congr 1; omega
  have hw : w.toNat < 2 ^ 16 := w.isLt
  have hq : w.toNat / 2 ^ (hi + 1) < 2 ^ (15 - hi) := by
    rw [Nat.div_lt_iff_lt_mul (by positivity)]; omega
  have hv : v % 2 ^ (hi + 1 - lo) < 2 ^ (hi + 1 - lo) := Nat.mod_lt _ (by positivity)
  have hm : w.toNat % 2 ^ lo < 2 ^ lo := Nat.mod_lt _ (by positivity)
  unfold withBits bits
  rw [BitVec.toNat_ofNat]
  set q := w.toNat / 2 ^ (hi + 1)
  set f := (w.toNat >>> lo) % 2 ^ (hi + 1 - lo)
  set m := w.toNat % 2 ^ lo
  set v' := v % 2 ^ (hi + 1 - lo)
  have hfit : v' * 2 ^ lo + m < 2 ^ (hi + 1) := by
    rw [e]
    calc v' * 2 ^ lo + m < v' * 2 ^ lo + 2 ^ lo := by omega
      _ = (v' + 1) * 2 ^ lo := by ring
      _ ≤ 2 ^ (hi + 1 - lo) * 2 ^ lo := Nat.mul_le_mul_right _ (by omega)
  have hlt : q * 2 ^ (hi + 1) + (v' * 2 ^ lo + m) < 2 ^ 16 := by
    rw [e16]
    calc q * 2 ^ (hi + 1) + (v' * 2 ^ lo + m) < q * 2 ^ (hi + 1) + 2 ^ (hi + 1) := by omega
      _ = (q + 1) * 2 ^ (hi + 1) := by ring
      _ ≤ 2 ^ (15 - hi) * 2 ^ (hi + 1) := Nat.mul_le_mul_right _ (by omega)
  have : w.toNat - f * 2 ^ lo + v' * 2 ^ lo = q * 2 ^ (hi + 1) + v' * 2 ^ lo + m := by omega
  rw [this, Nat.mod_eq_of_lt (by omega)]

/-- The field that was written reads as the value written. -/
theorem bits_withBits (w : Word) (hi lo v : Nat) (hh : hi < 16) (hl : lo ≤ hi) :
    bits (withBits w hi lo v) hi lo = v % 2 ^ (hi + 1 - lo) := by
  have e : (2 : Nat) ^ (hi + 1) = 2 ^ (hi + 1 - lo) * 2 ^ lo := by rw [← Nat.pow_add]; congr 1; omega
  have hm : w.toNat % 2 ^ lo < 2 ^ lo := Nat.mod_lt _ (by positivity)
  unfold bits
  rw [toNat_withBits w hi lo v hh hl, Nat.shiftRight_eq_div_pow]
  have : w.toNat / 2 ^ (hi + 1) * 2 ^ (hi + 1) + v % 2 ^ (hi + 1 - lo) * 2 ^ lo + w.toNat % 2 ^ lo =
      w.toNat % 2 ^ lo + (w.toNat / 2 ^ (hi + 1) * 2 ^ (hi + 1 - lo) + v % 2 ^ (hi + 1 - lo)) * 2 ^ lo := by
    rw [e]; ring
  rw [this, Nat.add_mul_div_right _ _ (by positivity), Nat.div_eq_of_lt hm, Nat.zero_add, Nat.mul_comm,
    Nat.add_comm, Nat.add_mul_mod_self_left, Nat.mod_mod]

/-- A bit of a word after a write of a field: the value's bit inside the field, the old bit outside it. -/
theorem bitOf_withBits (w : Word) (hi lo v i : Nat) (hh : hi < 16) (hl : lo ≤ hi) (_ : i < 16) :
    bitOf (withBits w hi lo v) i = if lo ≤ i ∧ i ≤ hi then v.testBit (i - lo) else bitOf w i := by
  have e : (2 : Nat) ^ (hi + 1) = 2 ^ (hi + 1 - lo) * 2 ^ lo := by rw [← Nat.pow_add]; congr 1; omega
  have hm : w.toNat % 2 ^ lo < 2 ^ lo := Nat.mod_lt _ (by positivity)
  have hv : v % 2 ^ (hi + 1 - lo) < 2 ^ (hi + 1 - lo) := Nat.mod_lt _ (by positivity)
  unfold bitOf
  rw [← BitVec.testBit_toNat, ← BitVec.testBit_toNat, toNat_withBits w hi lo v hh hl]
  have r : w.toNat / 2 ^ (hi + 1) * 2 ^ (hi + 1) + v % 2 ^ (hi + 1 - lo) * 2 ^ lo + w.toNat % 2 ^ lo =
      2 ^ lo * (2 ^ (hi + 1 - lo) * (w.toNat / 2 ^ (hi + 1)) + v % 2 ^ (hi + 1 - lo)) + w.toNat % 2 ^ lo := by
    rw [e]; ring
  rw [r, Nat.testBit_two_pow_mul_add _ hm]
  by_cases h1 : i < lo
  · have : ¬ (lo ≤ i ∧ i ≤ hi) := by omega
    simp [h1, this, Nat.testBit_mod_two_pow]
  · simp only [h1, if_false]
    rw [Nat.testBit_two_pow_mul_add _ hv]
    by_cases h2 : i ≤ hi
    · have : i - lo < hi + 1 - lo := by omega
      have h3 : lo ≤ i ∧ i ≤ hi := by omega
      simp [this, h3, Nat.testBit_mod_two_pow]
    · have n1 : ¬ i - lo < hi + 1 - lo := by omega
      have h3 : ¬ (lo ≤ i ∧ i ≤ hi) := by omega
      simp only [n1, h3, if_false]
      rw [Nat.testBit_div_two_pow]
      congr 1; omega

/-- A bit of a word after one bit was set to `b`. -/
theorem bitOf_withBit (w : Word) (i j : Nat) (b : Bool) (hi : i < 16) (hj : j < 16) :
    bitOf (withBit w i b) j = if j = i then b else bitOf w j := by
  unfold withBit
  rw [bitOf_withBits w i i _ j hi (Nat.le_refl _) hj]
  by_cases h : j = i
  · subst h; cases b <;> simp
  · have : ¬ (i ≤ j ∧ j ≤ i) := by omega
    simp [h, this]

/-- A field that lies apart from the one written reads as before. -/
theorem bits_withBits_ne (w : Word) (hi lo v hi' lo' : Nat) (hh : hi < 16) (hl : lo ≤ hi) (h' : hi' < 16)
    (hd : hi' < lo ∨ hi < lo') : bits (withBits w hi lo v) hi' lo' = bits w hi' lo' := by
  apply Nat.eq_of_testBit_eq
  intro i
  unfold bits
  simp only [Nat.testBit_mod_two_pow, Nat.testBit_shiftRight]
  by_cases hlt : i < hi' + 1 - lo'
  · have b := bitOf_withBits w hi lo v (lo' + i) hh hl (by omega)
    have hn : ¬ (lo ≤ lo' + i ∧ lo' + i ≤ hi) := by omega
    simp only [hn, if_false] at b
    unfold bitOf at b
    rw [← BitVec.testBit_toNat, ← BitVec.testBit_toNat] at b
    simp [hlt, b]
  · simp [hlt]

/-! ### Registers -/

variable (d : Dev)

/-- A register word after a write: the value written at its address, every other word as before. -/
theorem Dev.w_put (a b : Nat) (v : Word) : (d.put a v).w b = if b = a then v else d.w b :=
  Store.get_set d.words a b v

@[simp] theorem Dev.w_put_self (a : Nat) (v : Word) : (d.put a v).w a = v := by simp [Dev.w_put]

theorem Dev.w_put_ne {a b : Nat} (v : Word) (h : b ≠ a) : (d.put a v).w b = d.w b := by simp [Dev.w_put, h]

theorem Dev.w_putF (a hi lo v b : Nat) :
    (d.putF a hi lo v).w b = if b = a then withBits (d.w a) hi lo v else d.w b := Dev.w_put d a b _

theorem Dev.w_putB (a i : Nat) (x : Bool) (b : Nat) :
    (d.putB a i x).w b = if b = a then withBit (d.w a) i x else d.w b := Dev.w_put d a b _

theorem Dev.w_orW (a : Nat) (m : Word) (b : Nat) : (d.orW a m).w b = if b = a then d.w a ||| m else d.w b :=
  Dev.w_put d a b _

theorem Dev.w_clrW (a : Nat) (m : Word) (b : Nat) : (d.clrW a m).w b = if b = a then d.w a &&& ~~~m else d.w b :=
  Dev.w_put d a b _

theorem Dev.w_put32 (a b : Nat) (v : BitVec 32) :
    (d.put32 a v).w b = if b = a + 1 then hi16 v else if b = a then lo16 v else d.w b := by
  unfold Dev.put32; rw [Dev.w_put, Dev.w_put]

/-- A two-word quantity reads as it was written. -/
@[simp] theorem Dev.w32_put32 (a : Nat) (v : BitVec 32) : (d.put32 a v).w32 a = v := by
  unfold Dev.w32
  rw [Dev.w_put32, Dev.w_put32]
  simp only [if_true]
  have h : ¬ a = a + 1 := by omega
  simp only [h, if_false]
  unfold hi16 lo16
  apply BitVec.eq_of_getElem_eq
  intro i hi
  rw [BitVec.getElem_append]
  split
  · simp [BitVec.getLsbD_eq_getElem hi]
  · rename_i hlt
    simp [show 16 + (i - 16) = i by omega, BitVec.getLsbD_eq_getElem hi]

/-- A bit after a write of one bit of a register. -/
theorem Dev.bit_putB (a i : Nat) (x : Bool) (b j : Nat) (hi : i < 16) (hj : j < 16) :
    (d.putB a i x).bit b j = if b = a ∧ j = i then x else d.bit b j := by
  unfold Dev.bit
  rw [Dev.w_putB]
  by_cases h : b = a
  · subst h; simp [bitOf_withBit _ _ _ _ hi hj]
  · simp [h]

@[simp] theorem Dev.bit_putB_self (a i : Nat) (x : Bool) (hi : i < 16) : (d.putB a i x).bit a i = x := by
  simp [Dev.bit_putB d a i x a i hi hi]

/-- A field after a write of the same field. -/
theorem Dev.fld_putF_self (a hi lo v : Nat) (hh : hi < 16) (hl : lo ≤ hi) :
    (d.putF a hi lo v).fld a hi lo = v % 2 ^ (hi + 1 - lo) := by
  unfold Dev.fld; rw [Dev.w_putF]; simp [bits_withBits _ _ _ _ hh hl]

/-- Words that an update leaves alone keep their bits and fields. -/
theorem Dev.bit_congr {d d' : Dev} {a : Nat} (h : d'.w a = d.w a) (i : Nat) : d'.bit a i = d.bit a i := by
  unfold Dev.bit; rw [h]

theorem Dev.fld_congr {d d' : Dev} {a : Nat} (h : d'.w a = d.w a) (hi lo : Nat) : d'.fld a hi lo = d.fld a hi lo := by
  unfold Dev.fld; rw [h]

/-- A range of registers that returns to reset. -/
theorem Dev.w_resetRange (lo hi a : Nat) :
    (d.resetRange lo hi).w a = if lo ≤ a ∧ a < hi then resetWord a else d.w a := Store.get_clear d.words lo hi a

/-- The value in force after the stored words of a range came into force. -/
theorem Dev.iw_enforce (lo hi a : Nat) (h : lo ≤ a) (h' : a < hi) : (d.enforce lo hi).iw a = d.w a := by
  show Store.get resetWord (d.inForce.copy d.words lo hi) a = _
  rw [Store.get_copy]; simp [h, h']; rfl

/-- A word latched for a master. -/
theorem Dev.latched_latch (k k' : Master) (a b : Nat) (v : Word) :
    (d.latch k a v).latched k' b = if latchKey k' b = latchKey k a then v else d.latched k' b :=
  Store.get_set d.latches _ _ v

/-! ### Records -/

theorem upd_self {α : Type} {n : Nat} (v : Vector α n) (i : Fin n) (f : α → α) : (upd v i f)[i] = f v[i] := by
  simp [upd]

theorem upd_ne {α : Type} {n : Nat} (v : Vector α n) (i j : Fin n) (f : α → α) (h : j ≠ i) : (upd v i f)[j] = v[j] := by
  have : i.1 ≠ j.1 := fun e => h (Fin.ext e.symm)
  simp [upd, this]

@[simp] theorem Dev.onMot_mot (m : MotorIx) (f : Motor → Motor) : (d.onMot m f).mot m = f (d.mot m) := upd_self _ _ _
theorem Dev.onMot_mot_ne {m n : MotorIx} (f : Motor → Motor) (h : n ≠ m) : (d.onMot m f).mot n = d.mot n := upd_ne _ _ _ _ h
@[simp] theorem Dev.onGrp_grp (g : GroupIx) (f : Group → Group) : (d.onGrp g f).grp g = f (d.grp g) := upd_self _ _ _
theorem Dev.onGrp_grp_ne {g h : GroupIx} (f : Group → Group) (hn : h ≠ g) : (d.onGrp g f).grp h = d.grp h := upd_ne _ _ _ _ hn
@[simp] theorem Dev.onBrg_brg (b : BridgeIx) (f : Bridge → Bridge) : (d.onBrg b f).brg b = f (d.brg b) := upd_self _ _ _
theorem Dev.onBrg_brg_ne {b c : BridgeIx} (f : Bridge → Bridge) (h : c ≠ b) : (d.onBrg b f).brg c = d.brg c := upd_ne _ _ _ _ h
@[simp] theorem Dev.onDie_die (g : GroupIx) (f : Die → Die) : (d.onDie g f).die g = f (d.die g) := upd_self _ _ _
theorem Dev.onDie_die_ne {g h : GroupIx} (f : Die → Die) (hn : h ≠ g) : (d.onDie g f).die h = d.die h := upd_ne _ _ _ _ hn
@[simp] theorem Dev.onPrm_prm (p : GroupIx) (f : Prism → Prism) : (d.onPrm p f).prm p = f (d.prm p) := upd_self _ _ _
theorem Dev.onPrm_prm_ne {p q : GroupIx} (f : Prism → Prism) (h : q ≠ p) : (d.onPrm p f).prm q = d.prm q := upd_ne _ _ _ _ h
@[simp] theorem Dev.onFb_fb (c : ChanIx) (f : Fb → Fb) : (d.onFb c f).fb c = f (d.fb c) := upd_self _ _ _
theorem Dev.onFb_fb_ne {c e : ChanIx} (f : Fb → Fb) (h : e ≠ c) : (d.onFb c f).fb e = d.fb e := upd_ne _ _ _ _ h
@[simp] theorem Dev.onTrc_trc (t : TraceIx) (f : Trace → Trace) : (d.onTrc t f).trc t = f (d.trc t) := upd_self _ _ _
theorem Dev.onTrc_trc_ne {t u : TraceIx} (f : Trace → Trace) (h : u ≠ t) : (d.onTrc t f).trc u = d.trc u := upd_ne _ _ _ _ h
@[simp] theorem Dev.onHp_hp (k : HostIx) (f : HostPort → HostPort) : (d.onHp k f).hp k = f (d.hp k) := upd_self _ _ _
theorem Dev.onHp_hp_ne {k l : HostIx} (f : HostPort → HostPort) (h : l ≠ k) : (d.onHp k f).hp l = d.hp l := upd_ne _ _ _ _ h
@[simp] theorem Dev.onSen_sen (s : SensorIx) (f : ThermSen → ThermSen) : (d.onSen s f).sen s = f (d.sen s) := upd_self _ _ _
@[simp] theorem Dev.onMem_mem (f : MemPort → MemPort) : (d.onMem f).mem = f d.mem := rfl
@[simp] theorem Dev.onMir_mirror (f : MirrorSt → MirrorSt) : (d.onMir f).mirror = f d.mirror := rfl

/-! ### Events -/

/-- What raising a present source does while ck_core runs (R444). -/
theorem Dev.raise_spec (i : Nat) (h : i < 64) (hs : d.hasSrc i = true) (hr : d.stands = false) :
    d.raise i = { d with
      ev := upd d.ev ⟨i, h⟩ (fun e => { cnt := e.cnt + 1, ts := d.time, sub := d.sub })
      pend := d.pend.map (fun p => p ||| (1#64 <<< i))
      ppend := d.ppend ||| (1#64 <<< i)
      freshEv := d.freshEv ||| (1#64 <<< i) } := by
  simp [Dev.raise, Dev.raiseNow, h, hs, hr]

/-- What raising a source does while ck_core stands still (R36): it waits. -/
theorem Dev.raise_stands (i : Nat) (hr : d.stands = true) : d.raise i = { d with evLate := d.evLate ++ [i] } := by
  simp [Dev.raise, hr]

end Sys2Proof.Machine
end

