-- ==== Sys2Proof/Laws/Drive.lean ====
section
/-! SUPPORT. What setting the outputs of a motor can change: its three half-bridges, the values in force of their drive
settings, and the motor's own marks of its low sides and of its comparator on-time. Everything else stays. -/

namespace Sys2Proof.Machine

set_option Elab.async false

open Sys2Proof

/-- A motor without the marks that follow its outputs. -/
def Motor.sansDrive (x : Motor) : Motor :=
  { x with lowAt := Vector.replicate 3 none, lowOk := Vector.replicate 3 false, compOn := none, lebDone := false, level := 0 }

/-- The module without what setting outputs can change. -/
def Dev.sansDrive (d : Dev) : Dev :=
  { d with motors := d.motors.map Motor.sansDrive, bridges := Vector.replicate 48 {}, inForce := [] }

/-- `d'` differs from `d` in nothing but what setting outputs can change. -/
def Dev.Drives (d d' : Dev) : Prop := d'.sansDrive = d.sansDrive

theorem Dev.Drives.eq {d d' : Dev} (h : d.Drives d') : d'.sansDrive = d.sansDrive := h

theorem Dev.Drives.refl (d : Dev) : d.Drives d := rfl

theorem Dev.Drives.trans {a b c : Dev} (h : a.Drives b) (h' : b.Drives c) : a.Drives c := Eq.trans h' h

theorem Dev.Drives.mot {d d' : Dev} (h : d.Drives d') (n : MotorIx) : (d'.mot n).sansDrive = (d.mot n).sansDrive := by
  have e : d'.motors.map Motor.sansDrive = d.motors.map Motor.sansDrive := (congrArg Dev.motors h.eq :)
  have := congrArg (fun v => v[n]) e
  simpa [Dev.mot] using this

theorem upd_map_same {α β : Type} {n : Nat} (v : Vector α n) (i : Fin n) (f : α → α) (g : α → β) (h : ∀ x, g (f x) = g x) :
    (upd v i f).map g = v.map g := by
  apply Vector.ext
  intro j hj
  simp only [upd, Vector.getElem_map, Vector.getElem_set]
  split
  · rename_i e; subst e; exact h _
  · rfl

/-- A change of the marks of a motor. -/
theorem Dev.drives_onMot (d : Dev) (m : MotorIx) (f : Motor → Motor) (h : ∀ x, (f x).sansDrive = x.sansDrive) :
    d.Drives (d.onMot m f) := by
  unfold Dev.Drives Dev.sansDrive Dev.onMot
  simp only [upd_map_same _ _ _ _ h]

theorem Dev.drives_onBrg (d : Dev) (b : BridgeIx) (f : Bridge → Bridge) : d.Drives (d.onBrg b f) := rfl

theorem Dev.drives_enforce (d : Dev) (lo hi : Nat) : d.Drives (d.enforce lo hi) := rfl

theorem Dev.drives_each {α : Type} (l : List α) (f : Dev → α → Dev) (h : ∀ (d : Dev) a, d.Drives (f d a)) (d : Dev) :
    d.Drives (d.each l f) := by
  induction l generalizing d with
  | nil => exact Dev.Drives.refl d
  | cons a t ih => exact (h d a).trans (ih (f d a))

theorem Dev.drives_syncBsuv (d : Dev) (m : MotorIx) : d.Drives (d.syncBsuv m) :=
  Dev.drives_onMot d m _ (fun _ => rfl)

theorem Dev.drives_turnOn (d : Dev) (b : BridgeIx) : d.Drives (d.turnOn b) := by
  unfold Dev.turnOn
  simp only
  split
  · exact (Dev.drives_enforce d _ _).trans (Dev.drives_onBrg _ _ _)
  · exact Dev.Drives.refl d

theorem Dev.drives_turnOff (d : Dev) (b : BridgeIx) : d.Drives (d.turnOff b) := by
  unfold Dev.turnOff
  simp only
  split
  · exact Dev.Drives.refl d
  · split
    · exact ((Dev.drives_enforce d _ _).trans (Dev.drives_onBrg _ _ _)).trans (Dev.drives_syncBsuv _ _)
    · exact (Dev.drives_enforce d _ _).trans (Dev.drives_onBrg _ _ _)

theorem Dev.drives_command (d : Dev) (b : BridgeIx) (en pulse : Bool) : d.Drives (d.command b en pulse) := by
  unfold Dev.command
  simp only
  split
  · exact (Dev.drives_turnOff d b).trans (Dev.drives_turnOn _ b)
  · exact ((Dev.drives_onBrg d b _).trans (Dev.drives_turnOff _ b)).trans (Dev.drives_turnOn _ b)

theorem Motor.trackLow_sansDrive (x : Motor) (now : Nat) (ph : Fin 3) (low : Bool) :
    (x.trackLow now ph low).sansDrive = x.sansDrive := by
  unfold Motor.trackLow
  split <;> rfl

theorem Dev.drives_driveLeg (d : Dev) (m : MotorIx) (ph : Fin 3) : d.Drives (d.driveLeg m ph) := by
  unfold Dev.driveLeg
  exact (Dev.drives_command d _ _ _).trans (Dev.drives_onMot _ m _ (fun x => x.trackLow_sansDrive _ _ _))

theorem Dev.drives_syncComp (d : Dev) (m : MotorIx) : d.Drives (d.syncComp m) := by
  unfold Dev.syncComp
  refine Dev.drives_onMot d m _ (fun x => ?_)
  have hif : ∀ (c : Prop) [Decidable c] (a b : Motor), a.sansDrive = x.sansDrive → b.sansDrive = x.sansDrive →
      (if c then a else b).sansDrive = x.sansDrive := by
    intro c _ a b ha hb; split <;> assumption
  exact hif _ _ _ rfl (hif _ _ _ rfl rfl)

theorem Dev.drives_drive (d : Dev) (m : MotorIx) : d.Drives (d.drive m) :=
  (Dev.drives_each _ _ (fun d ph => Dev.drives_driveLeg d m ph) d).trans (Dev.drives_syncComp _ m)

theorem Dev.drives_driveGroup (d : Dev) (g : GroupIx) : d.Drives (d.driveGroup g) :=
  Dev.drives_each _ _ Dev.drives_drive d

theorem Dev.drives_driveAll (d : Dev) : d.Drives d.driveAll := Dev.drives_each _ _ Dev.drives_drive d

/-! ### What stays, part by part -/

theorem Dev.Drives.part {d d' : Dev} (h : d.Drives d') : d'.part = d.part := (congrArg Dev.part h.eq :)
theorem Dev.Drives.rev {d d' : Dev} (h : d.Drives d') : d'.rev = d.rev := (congrArg Dev.rev h.eq :)
theorem Dev.Drives.fuses {d d' : Dev} (h : d.Drives d') : d'.fuses = d.fuses := (congrArg Dev.fuses h.eq :)
theorem Dev.Drives.devLog {d d' : Dev} (h : d.Drives d') : d'.devLog = d.devLog := (congrArg Dev.devLog h.eq :)
theorem Dev.Drives.store {d d' : Dev} (h : d.Drives d') : d'.store = d.store := (congrArg Dev.store h.eq :)
theorem Dev.Drives.resetN {d d' : Dev} (h : d.Drives d') : d'.resetN = d.resetN := (congrArg Dev.resetN h.eq :)
theorem Dev.Drives.locked {d d' : Dev} (h : d.Drives d') : d'.locked = d.locked := (congrArg Dev.locked h.eq :)
theorem Dev.Drives.everLock {d d' : Dev} (h : d.Drives d') : d'.everLock = d.everLock := (congrArg Dev.everLock h.eq :)
theorem Dev.Drives.heldOff {d d' : Dev} (h : d.Drives d') : d'.heldOff = d.heldOff := (congrArg Dev.heldOff h.eq :)
theorem Dev.Drives.cycles {d d' : Dev} (h : d.Drives d') : d'.cycles = d.cycles := (congrArg Dev.cycles h.eq :)
theorem Dev.Drives.words {d d' : Dev} (h : d.Drives d') : d'.words = d.words := (congrArg Dev.words h.eq :)
theorem Dev.Drives.latches {d d' : Dev} (h : d.Drives d') : d'.latches = d.latches := (congrArg Dev.latches h.eq :)
theorem Dev.Drives.fab {d d' : Dev} (h : d.Drives d') : d'.fab = d.fab := (congrArg Dev.fab h.eq :)
theorem Dev.Drives.groups {d d' : Dev} (h : d.Drives d') : d'.groups = d.groups := (congrArg Dev.groups h.eq :)
theorem Dev.Drives.dies {d d' : Dev} (h : d.Drives d') : d'.dies = d.dies := (congrArg Dev.dies h.eq :)
theorem Dev.Drives.reports {d d' : Dev} (h : d.Drives d') : d'.reports = d.reports := (congrArg Dev.reports h.eq :)
theorem Dev.Drives.seqAt {d d' : Dev} (h : d.Drives d') : d'.seqAt = d.seqAt := (congrArg Dev.seqAt h.eq :)
theorem Dev.Drives.prisms {d d' : Dev} (h : d.Drives d') : d'.prisms = d.prisms := (congrArg Dev.prisms h.eq :)
theorem Dev.Drives.fbs {d d' : Dev} (h : d.Drives d') : d'.fbs = d.fbs := (congrArg Dev.fbs h.eq :)
theorem Dev.Drives.dist {d d' : Dev} (h : d.Drives d') : d'.dist = d.dist := (congrArg Dev.dist h.eq :)
theorem Dev.Drives.traces {d d' : Dev} (h : d.Drives d') : d'.traces = d.traces := (congrArg Dev.traces h.eq :)
theorem Dev.Drives.tickAt {d d' : Dev} (h : d.Drives d') : d'.tickAt = d.tickAt := (congrArg Dev.tickAt h.eq :)
theorem Dev.Drives.secAt {d d' : Dev} (h : d.Drives d') : d'.secAt = d.secAt := (congrArg Dev.secAt h.eq :)
theorem Dev.Drives.recq {d d' : Dev} (h : d.Drives d') : d'.recq = d.recq := (congrArg Dev.recq h.eq :)
theorem Dev.Drives.mbxIn {d d' : Dev} (h : d.Drives d') : d'.mbxIn = d.mbxIn := (congrArg Dev.mbxIn h.eq :)
theorem Dev.Drives.mbxAt {d d' : Dev} (h : d.Drives d') : d'.mbxAt = d.mbxAt := (congrArg Dev.mbxAt h.eq :)
theorem Dev.Drives.cplEdge {d d' : Dev} (h : d.Drives d') : d'.cplEdge = d.cplEdge := (congrArg Dev.cplEdge h.eq :)
theorem Dev.Drives.loader {d d' : Dev} (h : d.Drives d') : d'.loader = d.loader := (congrArg Dev.loader h.eq :)
theorem Dev.Drives.ports {d d' : Dev} (h : d.Drives d') : d'.ports = d.ports := (congrArg Dev.ports h.eq :)
theorem Dev.Drives.mem {d d' : Dev} (h : d.Drives d') : d'.mem = d.mem := (congrArg Dev.mem h.eq :)
theorem Dev.Drives.mirror {d d' : Dev} (h : d.Drives d') : d'.mirror = d.mirror := (congrArg Dev.mirror h.eq :)
theorem Dev.Drives.therm {d d' : Dev} (h : d.Drives d') : d'.therm = d.therm := (congrArg Dev.therm h.eq :)
theorem Dev.Drives.thermAt {d d' : Dev} (h : d.Drives d') : d'.thermAt = d.thermAt := (congrArg Dev.thermAt h.eq :)
theorem Dev.Drives.power {d d' : Dev} (h : d.Drives d') : d'.power = d.power := (congrArg Dev.power h.eq :)
theorem Dev.Drives.bist {d d' : Dev} (h : d.Drives d') : d'.bist = d.bist := (congrArg Dev.bist h.eq :)
theorem Dev.Drives.tap {d d' : Dev} (h : d.Drives d') : d'.tap = d.tap := (congrArg Dev.tap h.eq :)
theorem Dev.Drives.lc {d d' : Dev} (h : d.Drives d') : d'.lc = d.lc := (congrArg Dev.lc h.eq :)
theorem Dev.Drives.ev {d d' : Dev} (h : d.Drives d') : d'.ev = d.ev := (congrArg Dev.ev h.eq :)
theorem Dev.Drives.pend {d d' : Dev} (h : d.Drives d') : d'.pend = d.pend := (congrArg Dev.pend h.eq :)
theorem Dev.Drives.ppend {d d' : Dev} (h : d.Drives d') : d'.ppend = d.ppend := (congrArg Dev.ppend h.eq :)
theorem Dev.Drives.faultAt {d d' : Dev} (h : d.Drives d') : d'.faultAt = d.faultAt := (congrArg Dev.faultAt h.eq :)
theorem Dev.Drives.scrubPos {d d' : Dev} (h : d.Drives d') : d'.scrubPos = d.scrubPos := (congrArg Dev.scrubPos h.eq :)
theorem Dev.Drives.scrubCe {d d' : Dev} (h : d.Drives d') : d'.scrubCe = d.scrubCe := (congrArg Dev.scrubCe h.eq :)
theorem Dev.Drives.scrubRaised {d d' : Dev} (h : d.Drives d') : d'.scrubRaised = d.scrubRaised := (congrArg Dev.scrubRaised h.eq :)
theorem Dev.Drives.backs {d d' : Dev} (h : d.Drives d') : d'.backs = d.backs := (congrArg Dev.backs h.eq :)
theorem Dev.Drives.free {d d' : Dev} (h : d.Drives d') : d'.free = d.free := (congrArg Dev.free h.eq :)
theorem Dev.Drives.runs {d d' : Dev} (h : d.Drives d') : d'.runs = d.runs := by unfold Dev.runs; rw [h.resetN, h.locked]
theorem Dev.Drives.w {d d' : Dev} (h : d.Drives d') (a : Nat) : d'.w a = d.w a := by unfold Dev.w; rw [h.words]
theorem Dev.Drives.bit {d d' : Dev} (h : d.Drives d') (a i : Nat) : d'.bit a i = d.bit a i := by unfold Dev.bit; rw [h.w]
theorem Dev.Drives.fld {d d' : Dev} (h : d.Drives d') (a x y : Nat) : d'.fld a x y = d.fld a x y := by unfold Dev.fld; rw [h.w]
theorem Dev.Drives.grp {d d' : Dev} (h : d.Drives d') (g : GroupIx) : d'.grp g = d.grp g := by unfold Dev.grp; rw [h.groups]
theorem Dev.Drives.mot_state {d d' : Dev} (h : d.Drives d') (n : MotorIx) : (d'.mot n).state = (d.mot n).state :=
  (congrArg Motor.state (h.mot n) :)
theorem Dev.Drives.mot_drvRev {d d' : Dev} (h : d.Drives d') (n : MotorIx) : (d'.mot n).drvRev = (d.mot n).drvRev :=
  (congrArg Motor.drvRev (h.mot n) :)
theorem Dev.Drives.mot_demRev {d d' : Dev} (h : d.Drives d') (n : MotorIx) : (d'.mot n).demRev = (d.mot n).demRev :=
  (congrArg Motor.demRev (h.mot n) :)
theorem Dev.Drives.mot_duty {d d' : Dev} (h : d.Drives d') (n : MotorIx) : (d'.mot n).duty = (d.mot n).duty :=
  (congrArg Motor.duty (h.mot n) :)
theorem Dev.Drives.mot_out {d d' : Dev} (h : d.Drives d') (n : MotorIx) : (d'.mot n).out = (d.mot n).out :=
  (congrArg Motor.out (h.mot n) :)
theorem Dev.Drives.mot_ready {d d' : Dev} (h : d.Drives d') (n : MotorIx) : (d'.mot n).ready = (d.mot n).ready :=
  (congrArg Motor.ready (h.mot n) :)
theorem Dev.Drives.mot_sector {d d' : Dev} (h : d.Drives d') (n : MotorIx) : (d'.mot n).sector = (d.mot n).sector :=
  (congrArg Motor.sector (h.mot n) :)
theorem Dev.Drives.mot_spdv {d d' : Dev} (h : d.Drives d') (n : MotorIx) : (d'.mot n).spdv = (d.mot n).spdv :=
  (congrArg Motor.spdv (h.mot n) :)
theorem Dev.Drives.mot_refp {d d' : Dev} (h : d.Drives d') (n : MotorIx) : (d'.mot n).refp = (d.mot n).refp :=
  (congrArg Motor.refp (h.mot n) :)
theorem Dev.Drives.mot_ceilhit {d d' : Dev} (h : d.Drives d') (n : MotorIx) : (d'.mot n).ceilhit = (d.mot n).ceilhit :=
  (congrArg Motor.ceilhit (h.mot n) :)
theorem Dev.Drives.mot_adverr {d d' : Dev} (h : d.Drives d') (n : MotorIx) : (d'.mot n).adverr = (d.mot n).adverr :=
  (congrArg Motor.adverr (h.mot n) :)
theorem Dev.Drives.mot_speed {d d' : Dev} (h : d.Drives d') (n : MotorIx) : (d'.mot n).speed = (d.mot n).speed :=
  (congrArg Motor.speed (h.mot n) :)
theorem Dev.Drives.mot_adv {d d' : Dev} (h : d.Drives d') (n : MotorIx) : (d'.mot n).adv = (d.mot n).adv :=
  (congrArg Motor.adv (h.mot n) :)
theorem Dev.Drives.mot_angS {d d' : Dev} (h : d.Drives d') (n : MotorIx) : (d'.mot n).angS = (d.mot n).angS :=
  (congrArg Motor.angS (h.mot n) :)
theorem Dev.Drives.mot_angAt {d d' : Dev} (h : d.Drives d') (n : MotorIx) : (d'.mot n).angAt = (d.mot n).angAt :=
  (congrArg Motor.angAt (h.mot n) :)
theorem Dev.Drives.mot_v16 {d d' : Dev} (h : d.Drives d') (n : MotorIx) : (d'.mot n).v16 = (d.mot n).v16 :=
  (congrArg Motor.v16 (h.mot n) :)
theorem Dev.Drives.mot_act {d d' : Dev} (h : d.Drives d') (n : MotorIx) : (d'.mot n).act = (d.mot n).act :=
  (congrArg Motor.act (h.mot n) :)
theorem Dev.Drives.mot_clampNow {d d' : Dev} (h : d.Drives d') (n : MotorIx) : (d'.mot n).clampNow = (d.mot n).clampNow :=
  (congrArg Motor.clampNow (h.mot n) :)
theorem Dev.Drives.mot_devFault {d d' : Dev} (h : d.Drives d') (n : MotorIx) : (d'.mot n).devFault = (d.mot n).devFault :=
  (congrArg Motor.devFault (h.mot n) :)
theorem Dev.Drives.mot_devHeld {d d' : Dev} (h : d.Drives d') (n : MotorIx) : (d'.mot n).devHeld = (d.mot n).devHeld :=
  (congrArg Motor.devHeld (h.mot n) :)
theorem Dev.Drives.mot_phase {d d' : Dev} (h : d.Drives d') (n : MotorIx) : (d'.mot n).phase = (d.mot n).phase :=
  (congrArg Motor.phase (h.mot n) :)
theorem Dev.Drives.mot_back {d d' : Dev} (h : d.Drives d') (n : MotorIx) : (d'.mot n).back = (d.mot n).back :=
  (congrArg Motor.back (h.mot n) :)
theorem Dev.Drives.mot_failr {d d' : Dev} (h : d.Drives d') (n : MotorIx) : (d'.mot n).failr = (d.mot n).failr :=
  (congrArg Motor.failr (h.mot n) :)
theorem Dev.Drives.mot_attempt {d d' : Dev} (h : d.Drives d') (n : MotorIx) : (d'.mot n).attempt = (d.mot n).attempt :=
  (congrArg Motor.attempt (h.mot n) :)
theorem Dev.Drives.mot_reccnt {d d' : Dev} (h : d.Drives d') (n : MotorIx) : (d'.mot n).reccnt = (d.mot n).reccnt :=
  (congrArg Motor.reccnt (h.mot n) :)
theorem Dev.Drives.mot_failcnt {d d' : Dev} (h : d.Drives d') (n : MotorIx) : (d'.mot n).failcnt = (d.mot n).failcnt :=
  (congrArg Motor.failcnt (h.mot n) :)
theorem Dev.Drives.mot_hovcnt {d d' : Dev} (h : d.Drives d') (n : MotorIx) : (d'.mot n).hovcnt = (d.mot n).hovcnt :=
  (congrArg Motor.hovcnt (h.mot n) :)
theorem Dev.Drives.mot_lastFail {d d' : Dev} (h : d.Drives d') (n : MotorIx) : (d'.mot n).lastFail = (d.mot n).lastFail :=
  (congrArg Motor.lastFail (h.mot n) :)
theorem Dev.Drives.mot_timer {d d' : Dev} (h : d.Drives d') (n : MotorIx) : (d'.mot n).timer = (d.mot n).timer :=
  (congrArg Motor.timer (h.mot n) :)
theorem Dev.Drives.mot_stab {d d' : Dev} (h : d.Drives d') (n : MotorIx) : (d'.mot n).stab = (d.mot n).stab :=
  (congrArg Motor.stab (h.mot n) :)
theorem Dev.Drives.mot_catt {d d' : Dev} (h : d.Drives d') (n : MotorIx) : (d'.mot n).catt = (d.mot n).catt :=
  (congrArg Motor.catt (h.mot n) :)
theorem Dev.Drives.mot_rect {d d' : Dev} (h : d.Drives d') (n : MotorIx) : (d'.mot n).rect = (d.mot n).rect :=
  (congrArg Motor.rect (h.mot n) :)
theorem Dev.Drives.mot_alSamp {d d' : Dev} (h : d.Drives d') (n : MotorIx) : (d'.mot n).alSamp = (d.mot n).alSamp :=
  (congrArg Motor.alSamp (h.mot n) :)
theorem Dev.Drives.mot_alNew {d d' : Dev} (h : d.Drives d') (n : MotorIx) : (d'.mot n).alNew = (d.mot n).alNew :=
  (congrArg Motor.alNew (h.mot n) :)
theorem Dev.Drives.mot_sec {d d' : Dev} (h : d.Drives d') (n : MotorIx) : (d'.mot n).sec = (d.mot n).sec :=
  (congrArg Motor.sec (h.mot n) :)
theorem Dev.Drives.mot_obs {d d' : Dev} (h : d.Drives d') (n : MotorIx) : (d'.mot n).obs = (d.mot n).obs :=
  (congrArg Motor.obs (h.mot n) :)
theorem Dev.Drives.mot_cat {d d' : Dev} (h : d.Drives d') (n : MotorIx) : (d'.mot n).cat = (d.mot n).cat :=
  (congrArg Motor.cat (h.mot n) :)
theorem Dev.Drives.mot_thr {d d' : Dev} (h : d.Drives d') (n : MotorIx) : (d'.mot n).thr = (d.mot n).thr :=
  (congrArg Motor.thr (h.mot n) :)
theorem Dev.Drives.mot_car {d d' : Dev} (h : d.Drives d') (n : MotorIx) : (d'.mot n).car = (d.mot n).car :=
  (congrArg Motor.car (h.mot n) :)
theorem Dev.Drives.mot_spanAt {d d' : Dev} (h : d.Drives d') (n : MotorIx) : (d'.mot n).spanAt = (d.mot n).spanAt :=
  (congrArg Motor.spanAt (h.mot n) :)
theorem Dev.Drives.mot_refc {d d' : Dev} (h : d.Drives d') (n : MotorIx) : (d'.mot n).refc = (d.mot n).refc :=
  (congrArg Motor.refc (h.mot n) :)
theorem Dev.Drives.mot_forced {d d' : Dev} (h : d.Drives d') (n : MotorIx) : (d'.mot n).forced = (d.mot n).forced :=
  (congrArg Motor.forced (h.mot n) :)
theorem Dev.Drives.mot_cmd {d d' : Dev} (h : d.Drives d') (n : MotorIx) : (d'.mot n).cmd = (d.mot n).cmd :=
  (congrArg Motor.cmd (h.mot n) :)
theorem Dev.Drives.mot_hostOk {d d' : Dev} (h : d.Drives d') (n : MotorIx) : (d'.mot n).hostOk = (d.mot n).hostOk :=
  (congrArg Motor.hostOk (h.mot n) :)
theorem Dev.Drives.mot_hostNew {d d' : Dev} (h : d.Drives d') (n : MotorIx) : (d'.mot n).hostNew = (d.mot n).hostNew :=
  (congrArg Motor.hostNew (h.mot n) :)
theorem Dev.Drives.mot_hostRel {d d' : Dev} (h : d.Drives d') (n : MotorIx) : (d'.mot n).hostRel = (d.mot n).hostRel :=
  (congrArg Motor.hostRel (h.mot n) :)
theorem Dev.Drives.mot_hostT {d d' : Dev} (h : d.Drives d') (n : MotorIx) : (d'.mot n).hostT = (d.mot n).hostT :=
  (congrArg Motor.hostT (h.mot n) :)
theorem Dev.Drives.mot_hostD {d d' : Dev} (h : d.Drives d') (n : MotorIx) : (d'.mot n).hostD = (d.mot n).hostD :=
  (congrArg Motor.hostD (h.mot n) :)
theorem Dev.Drives.mot_demSel {d d' : Dev} (h : d.Drives d') (n : MotorIx) : (d'.mot n).demSel = (d.mot n).demSel :=
  (congrArg Motor.demSel (h.mot n) :)
theorem Dev.Drives.mot_demCmd {d d' : Dev} (h : d.Drives d') (n : MotorIx) : (d'.mot n).demCmd = (d.mot n).demCmd :=
  (congrArg Motor.demCmd (h.mot n) :)
theorem Dev.Drives.mot_posI {d d' : Dev} (h : d.Drives d') (n : MotorIx) : (d'.mot n).posI = (d.mot n).posI :=
  (congrArg Motor.posI (h.mot n) :)
theorem Dev.Drives.mot_spdI {d d' : Dev} (h : d.Drives d') (n : MotorIx) : (d'.mot n).spdI = (d.mot n).spdI :=
  (congrArg Motor.spdI (h.mot n) :)
theorem Dev.Drives.mot_odiv {d d' : Dev} (h : d.Drives d') (n : MotorIx) : (d'.mot n).odiv = (d.mot n).odiv :=
  (congrArg Motor.odiv (h.mot n) :)
theorem Dev.Drives.mot_lastDir {d d' : Dev} (h : d.Drives d') (n : MotorIx) : (d'.mot n).lastDir = (d.mot n).lastDir :=
  (congrArg Motor.lastDir (h.mot n) :)
theorem Dev.Drives.mot_loopRun {d d' : Dev} (h : d.Drives d') (n : MotorIx) : (d'.mot n).loopRun = (d.mot n).loopRun :=
  (congrArg Motor.loopRun (h.mot n) :)
theorem Dev.Drives.mot_kiss {d d' : Dev} (h : d.Drives d') (n : MotorIx) : (d'.mot n).kiss = (d.mot n).kiss :=
  (congrArg Motor.kiss (h.mot n) :)
theorem Dev.Drives.mot_req {d d' : Dev} (h : d.Drives d') (n : MotorIx) : (d'.mot n).req = (d.mot n).req :=
  (congrArg Motor.req (h.mot n) :)
theorem Dev.Drives.mot_lastReq {d d' : Dev} (h : d.Drives d') (n : MotorIx) : (d'.mot n).lastReq = (d.mot n).lastReq :=
  (congrArg Motor.lastReq (h.mot n) :)
theorem Dev.Drives.mot_grant {d d' : Dev} (h : d.Drives d') (n : MotorIx) : (d'.mot n).grant = (d.mot n).grant :=
  (congrArg Motor.grant (h.mot n) :)

/-! ### The outputs set -/

@[simp] theorem Dev.drive_part (d : Dev) (m : MotorIx) : (d.drive m).part = d.part := (Dev.drives_drive d m).part
@[simp] theorem Dev.drive_rev (d : Dev) (m : MotorIx) : (d.drive m).rev = d.rev := (Dev.drives_drive d m).rev
@[simp] theorem Dev.drive_fuses (d : Dev) (m : MotorIx) : (d.drive m).fuses = d.fuses := (Dev.drives_drive d m).fuses
@[simp] theorem Dev.drive_devLog (d : Dev) (m : MotorIx) : (d.drive m).devLog = d.devLog := (Dev.drives_drive d m).devLog
@[simp] theorem Dev.drive_store (d : Dev) (m : MotorIx) : (d.drive m).store = d.store := (Dev.drives_drive d m).store
@[simp] theorem Dev.drive_resetN (d : Dev) (m : MotorIx) : (d.drive m).resetN = d.resetN := (Dev.drives_drive d m).resetN
@[simp] theorem Dev.drive_locked (d : Dev) (m : MotorIx) : (d.drive m).locked = d.locked := (Dev.drives_drive d m).locked
@[simp] theorem Dev.drive_everLock (d : Dev) (m : MotorIx) : (d.drive m).everLock = d.everLock := (Dev.drives_drive d m).everLock
@[simp] theorem Dev.drive_heldOff (d : Dev) (m : MotorIx) : (d.drive m).heldOff = d.heldOff := (Dev.drives_drive d m).heldOff
@[simp] theorem Dev.drive_cycles (d : Dev) (m : MotorIx) : (d.drive m).cycles = d.cycles := (Dev.drives_drive d m).cycles
@[simp] theorem Dev.drive_words (d : Dev) (m : MotorIx) : (d.drive m).words = d.words := (Dev.drives_drive d m).words
@[simp] theorem Dev.drive_latches (d : Dev) (m : MotorIx) : (d.drive m).latches = d.latches := (Dev.drives_drive d m).latches
@[simp] theorem Dev.drive_fab (d : Dev) (m : MotorIx) : (d.drive m).fab = d.fab := (Dev.drives_drive d m).fab
@[simp] theorem Dev.drive_groups (d : Dev) (m : MotorIx) : (d.drive m).groups = d.groups := (Dev.drives_drive d m).groups
@[simp] theorem Dev.drive_dies (d : Dev) (m : MotorIx) : (d.drive m).dies = d.dies := (Dev.drives_drive d m).dies
@[simp] theorem Dev.drive_reports (d : Dev) (m : MotorIx) : (d.drive m).reports = d.reports := (Dev.drives_drive d m).reports
@[simp] theorem Dev.drive_seqAt (d : Dev) (m : MotorIx) : (d.drive m).seqAt = d.seqAt := (Dev.drives_drive d m).seqAt
@[simp] theorem Dev.drive_prisms (d : Dev) (m : MotorIx) : (d.drive m).prisms = d.prisms := (Dev.drives_drive d m).prisms
@[simp] theorem Dev.drive_fbs (d : Dev) (m : MotorIx) : (d.drive m).fbs = d.fbs := (Dev.drives_drive d m).fbs
@[simp] theorem Dev.drive_dist (d : Dev) (m : MotorIx) : (d.drive m).dist = d.dist := (Dev.drives_drive d m).dist
@[simp] theorem Dev.drive_traces (d : Dev) (m : MotorIx) : (d.drive m).traces = d.traces := (Dev.drives_drive d m).traces
@[simp] theorem Dev.drive_tickAt (d : Dev) (m : MotorIx) : (d.drive m).tickAt = d.tickAt := (Dev.drives_drive d m).tickAt
@[simp] theorem Dev.drive_secAt (d : Dev) (m : MotorIx) : (d.drive m).secAt = d.secAt := (Dev.drives_drive d m).secAt
@[simp] theorem Dev.drive_recq (d : Dev) (m : MotorIx) : (d.drive m).recq = d.recq := (Dev.drives_drive d m).recq
@[simp] theorem Dev.drive_mbxIn (d : Dev) (m : MotorIx) : (d.drive m).mbxIn = d.mbxIn := (Dev.drives_drive d m).mbxIn
@[simp] theorem Dev.drive_mbxAt (d : Dev) (m : MotorIx) : (d.drive m).mbxAt = d.mbxAt := (Dev.drives_drive d m).mbxAt
@[simp] theorem Dev.drive_cplEdge (d : Dev) (m : MotorIx) : (d.drive m).cplEdge = d.cplEdge := (Dev.drives_drive d m).cplEdge
@[simp] theorem Dev.drive_loader (d : Dev) (m : MotorIx) : (d.drive m).loader = d.loader := (Dev.drives_drive d m).loader
@[simp] theorem Dev.drive_ports (d : Dev) (m : MotorIx) : (d.drive m).ports = d.ports := (Dev.drives_drive d m).ports
@[simp] theorem Dev.drive_mem (d : Dev) (m : MotorIx) : (d.drive m).mem = d.mem := (Dev.drives_drive d m).mem
@[simp] theorem Dev.drive_mirror (d : Dev) (m : MotorIx) : (d.drive m).mirror = d.mirror := (Dev.drives_drive d m).mirror
@[simp] theorem Dev.drive_therm (d : Dev) (m : MotorIx) : (d.drive m).therm = d.therm := (Dev.drives_drive d m).therm
@[simp] theorem Dev.drive_thermAt (d : Dev) (m : MotorIx) : (d.drive m).thermAt = d.thermAt := (Dev.drives_drive d m).thermAt
@[simp] theorem Dev.drive_power (d : Dev) (m : MotorIx) : (d.drive m).power = d.power := (Dev.drives_drive d m).power
@[simp] theorem Dev.drive_bist (d : Dev) (m : MotorIx) : (d.drive m).bist = d.bist := (Dev.drives_drive d m).bist
@[simp] theorem Dev.drive_tap (d : Dev) (m : MotorIx) : (d.drive m).tap = d.tap := (Dev.drives_drive d m).tap
@[simp] theorem Dev.drive_lc (d : Dev) (m : MotorIx) : (d.drive m).lc = d.lc := (Dev.drives_drive d m).lc
@[simp] theorem Dev.drive_ev (d : Dev) (m : MotorIx) : (d.drive m).ev = d.ev := (Dev.drives_drive d m).ev
@[simp] theorem Dev.drive_pend (d : Dev) (m : MotorIx) : (d.drive m).pend = d.pend := (Dev.drives_drive d m).pend
@[simp] theorem Dev.drive_ppend (d : Dev) (m : MotorIx) : (d.drive m).ppend = d.ppend := (Dev.drives_drive d m).ppend
@[simp] theorem Dev.drive_faultAt (d : Dev) (m : MotorIx) : (d.drive m).faultAt = d.faultAt := (Dev.drives_drive d m).faultAt
@[simp] theorem Dev.drive_scrubPos (d : Dev) (m : MotorIx) : (d.drive m).scrubPos = d.scrubPos := (Dev.drives_drive d m).scrubPos
@[simp] theorem Dev.drive_scrubCe (d : Dev) (m : MotorIx) : (d.drive m).scrubCe = d.scrubCe := (Dev.drives_drive d m).scrubCe
@[simp] theorem Dev.drive_scrubRaised (d : Dev) (m : MotorIx) : (d.drive m).scrubRaised = d.scrubRaised := (Dev.drives_drive d m).scrubRaised
@[simp] theorem Dev.drive_backs (d : Dev) (m : MotorIx) : (d.drive m).backs = d.backs := (Dev.drives_drive d m).backs
@[simp] theorem Dev.drive_free (d : Dev) (m : MotorIx) : (d.drive m).free = d.free := (Dev.drives_drive d m).free
@[simp] theorem Dev.drive_runs (d : Dev) (m : MotorIx) : (d.drive m).runs = d.runs := (Dev.drives_drive d m).runs 
@[simp] theorem Dev.drive_w (d : Dev) (m : MotorIx) (a : Nat) : (d.drive m).w a = d.w a := (Dev.drives_drive d m).w a
@[simp] theorem Dev.drive_bit (d : Dev) (m : MotorIx) (a i : Nat) : (d.drive m).bit a i = d.bit a i := (Dev.drives_drive d m).bit a i
@[simp] theorem Dev.drive_fld (d : Dev) (m : MotorIx) (a x y : Nat) : (d.drive m).fld a x y = d.fld a x y := (Dev.drives_drive d m).fld a x y
@[simp] theorem Dev.drive_grp (d : Dev) (m : MotorIx) (g : GroupIx) : (d.drive m).grp g = d.grp g := (Dev.drives_drive d m).grp g
@[simp] theorem Dev.drive_mot_state (d : Dev) (m n : MotorIx) : ((d.drive m).mot n).state = (d.mot n).state :=
  (Dev.drives_drive d m).mot_state n
@[simp] theorem Dev.drive_mot_drvRev (d : Dev) (m n : MotorIx) : ((d.drive m).mot n).drvRev = (d.mot n).drvRev :=
  (Dev.drives_drive d m).mot_drvRev n
@[simp] theorem Dev.drive_mot_demRev (d : Dev) (m n : MotorIx) : ((d.drive m).mot n).demRev = (d.mot n).demRev :=
  (Dev.drives_drive d m).mot_demRev n
@[simp] theorem Dev.drive_mot_duty (d : Dev) (m n : MotorIx) : ((d.drive m).mot n).duty = (d.mot n).duty :=
  (Dev.drives_drive d m).mot_duty n
@[simp] theorem Dev.drive_mot_out (d : Dev) (m n : MotorIx) : ((d.drive m).mot n).out = (d.mot n).out :=
  (Dev.drives_drive d m).mot_out n
@[simp] theorem Dev.drive_mot_ready (d : Dev) (m n : MotorIx) : ((d.drive m).mot n).ready = (d.mot n).ready :=
  (Dev.drives_drive d m).mot_ready n
@[simp] theorem Dev.drive_mot_sector (d : Dev) (m n : MotorIx) : ((d.drive m).mot n).sector = (d.mot n).sector :=
  (Dev.drives_drive d m).mot_sector n
@[simp] theorem Dev.drive_mot_spdv (d : Dev) (m n : MotorIx) : ((d.drive m).mot n).spdv = (d.mot n).spdv :=
  (Dev.drives_drive d m).mot_spdv n
@[simp] theorem Dev.drive_mot_refp (d : Dev) (m n : MotorIx) : ((d.drive m).mot n).refp = (d.mot n).refp :=
  (Dev.drives_drive d m).mot_refp n
@[simp] theorem Dev.drive_mot_ceilhit (d : Dev) (m n : MotorIx) : ((d.drive m).mot n).ceilhit = (d.mot n).ceilhit :=
  (Dev.drives_drive d m).mot_ceilhit n
@[simp] theorem Dev.drive_mot_adverr (d : Dev) (m n : MotorIx) : ((d.drive m).mot n).adverr = (d.mot n).adverr :=
  (Dev.drives_drive d m).mot_adverr n
@[simp] theorem Dev.drive_mot_speed (d : Dev) (m n : MotorIx) : ((d.drive m).mot n).speed = (d.mot n).speed :=
  (Dev.drives_drive d m).mot_speed n
@[simp] theorem Dev.drive_mot_adv (d : Dev) (m n : MotorIx) : ((d.drive m).mot n).adv = (d.mot n).adv :=
  (Dev.drives_drive d m).mot_adv n
@[simp] theorem Dev.drive_mot_angS (d : Dev) (m n : MotorIx) : ((d.drive m).mot n).angS = (d.mot n).angS :=
  (Dev.drives_drive d m).mot_angS n
@[simp] theorem Dev.drive_mot_angAt (d : Dev) (m n : MotorIx) : ((d.drive m).mot n).angAt = (d.mot n).angAt :=
  (Dev.drives_drive d m).mot_angAt n
@[simp] theorem Dev.drive_mot_v16 (d : Dev) (m n : MotorIx) : ((d.drive m).mot n).v16 = (d.mot n).v16 :=
  (Dev.drives_drive d m).mot_v16 n
@[simp] theorem Dev.drive_mot_act (d : Dev) (m n : MotorIx) : ((d.drive m).mot n).act = (d.mot n).act :=
  (Dev.drives_drive d m).mot_act n
@[simp] theorem Dev.drive_mot_clampNow (d : Dev) (m n : MotorIx) : ((d.drive m).mot n).clampNow = (d.mot n).clampNow :=
  (Dev.drives_drive d m).mot_clampNow n
@[simp] theorem Dev.drive_mot_devFault (d : Dev) (m n : MotorIx) : ((d.drive m).mot n).devFault = (d.mot n).devFault :=
  (Dev.drives_drive d m).mot_devFault n
@[simp] theorem Dev.drive_mot_devHeld (d : Dev) (m n : MotorIx) : ((d.drive m).mot n).devHeld = (d.mot n).devHeld :=
  (Dev.drives_drive d m).mot_devHeld n
@[simp] theorem Dev.drive_mot_phase (d : Dev) (m n : MotorIx) : ((d.drive m).mot n).phase = (d.mot n).phase :=
  (Dev.drives_drive d m).mot_phase n
@[simp] theorem Dev.drive_mot_back (d : Dev) (m n : MotorIx) : ((d.drive m).mot n).back = (d.mot n).back :=
  (Dev.drives_drive d m).mot_back n
@[simp] theorem Dev.drive_mot_failr (d : Dev) (m n : MotorIx) : ((d.drive m).mot n).failr = (d.mot n).failr :=
  (Dev.drives_drive d m).mot_failr n
@[simp] theorem Dev.drive_mot_attempt (d : Dev) (m n : MotorIx) : ((d.drive m).mot n).attempt = (d.mot n).attempt :=
  (Dev.drives_drive d m).mot_attempt n
@[simp] theorem Dev.drive_mot_reccnt (d : Dev) (m n : MotorIx) : ((d.drive m).mot n).reccnt = (d.mot n).reccnt :=
  (Dev.drives_drive d m).mot_reccnt n
@[simp] theorem Dev.drive_mot_failcnt (d : Dev) (m n : MotorIx) : ((d.drive m).mot n).failcnt = (d.mot n).failcnt :=
  (Dev.drives_drive d m).mot_failcnt n
@[simp] theorem Dev.drive_mot_hovcnt (d : Dev) (m n : MotorIx) : ((d.drive m).mot n).hovcnt = (d.mot n).hovcnt :=
  (Dev.drives_drive d m).mot_hovcnt n
@[simp] theorem Dev.drive_mot_lastFail (d : Dev) (m n : MotorIx) : ((d.drive m).mot n).lastFail = (d.mot n).lastFail :=
  (Dev.drives_drive d m).mot_lastFail n
@[simp] theorem Dev.drive_mot_timer (d : Dev) (m n : MotorIx) : ((d.drive m).mot n).timer = (d.mot n).timer :=
  (Dev.drives_drive d m).mot_timer n
@[simp] theorem Dev.drive_mot_stab (d : Dev) (m n : MotorIx) : ((d.drive m).mot n).stab = (d.mot n).stab :=
  (Dev.drives_drive d m).mot_stab n
@[simp] theorem Dev.drive_mot_catt (d : Dev) (m n : MotorIx) : ((d.drive m).mot n).catt = (d.mot n).catt :=
  (Dev.drives_drive d m).mot_catt n
@[simp] theorem Dev.drive_mot_rect (d : Dev) (m n : MotorIx) : ((d.drive m).mot n).rect = (d.mot n).rect :=
  (Dev.drives_drive d m).mot_rect n
@[simp] theorem Dev.drive_mot_alSamp (d : Dev) (m n : MotorIx) : ((d.drive m).mot n).alSamp = (d.mot n).alSamp :=
  (Dev.drives_drive d m).mot_alSamp n
@[simp] theorem Dev.drive_mot_alNew (d : Dev) (m n : MotorIx) : ((d.drive m).mot n).alNew = (d.mot n).alNew :=
  (Dev.drives_drive d m).mot_alNew n
@[simp] theorem Dev.drive_mot_sec (d : Dev) (m n : MotorIx) : ((d.drive m).mot n).sec = (d.mot n).sec :=
  (Dev.drives_drive d m).mot_sec n
@[simp] theorem Dev.drive_mot_obs (d : Dev) (m n : MotorIx) : ((d.drive m).mot n).obs = (d.mot n).obs :=
  (Dev.drives_drive d m).mot_obs n
@[simp] theorem Dev.drive_mot_cat (d : Dev) (m n : MotorIx) : ((d.drive m).mot n).cat = (d.mot n).cat :=
  (Dev.drives_drive d m).mot_cat n
@[simp] theorem Dev.drive_mot_thr (d : Dev) (m n : MotorIx) : ((d.drive m).mot n).thr = (d.mot n).thr :=
  (Dev.drives_drive d m).mot_thr n
@[simp] theorem Dev.drive_mot_car (d : Dev) (m n : MotorIx) : ((d.drive m).mot n).car = (d.mot n).car :=
  (Dev.drives_drive d m).mot_car n
@[simp] theorem Dev.drive_mot_spanAt (d : Dev) (m n : MotorIx) : ((d.drive m).mot n).spanAt = (d.mot n).spanAt :=
  (Dev.drives_drive d m).mot_spanAt n
@[simp] theorem Dev.drive_mot_refc (d : Dev) (m n : MotorIx) : ((d.drive m).mot n).refc = (d.mot n).refc :=
  (Dev.drives_drive d m).mot_refc n
@[simp] theorem Dev.drive_mot_forced (d : Dev) (m n : MotorIx) : ((d.drive m).mot n).forced = (d.mot n).forced :=
  (Dev.drives_drive d m).mot_forced n
@[simp] theorem Dev.drive_mot_cmd (d : Dev) (m n : MotorIx) : ((d.drive m).mot n).cmd = (d.mot n).cmd :=
  (Dev.drives_drive d m).mot_cmd n
@[simp] theorem Dev.drive_mot_hostOk (d : Dev) (m n : MotorIx) : ((d.drive m).mot n).hostOk = (d.mot n).hostOk :=
  (Dev.drives_drive d m).mot_hostOk n
@[simp] theorem Dev.drive_mot_hostNew (d : Dev) (m n : MotorIx) : ((d.drive m).mot n).hostNew = (d.mot n).hostNew :=
  (Dev.drives_drive d m).mot_hostNew n
@[simp] theorem Dev.drive_mot_hostRel (d : Dev) (m n : MotorIx) : ((d.drive m).mot n).hostRel = (d.mot n).hostRel :=
  (Dev.drives_drive d m).mot_hostRel n
@[simp] theorem Dev.drive_mot_hostT (d : Dev) (m n : MotorIx) : ((d.drive m).mot n).hostT = (d.mot n).hostT :=
  (Dev.drives_drive d m).mot_hostT n
@[simp] theorem Dev.drive_mot_hostD (d : Dev) (m n : MotorIx) : ((d.drive m).mot n).hostD = (d.mot n).hostD :=
  (Dev.drives_drive d m).mot_hostD n
@[simp] theorem Dev.drive_mot_demSel (d : Dev) (m n : MotorIx) : ((d.drive m).mot n).demSel = (d.mot n).demSel :=
  (Dev.drives_drive d m).mot_demSel n
@[simp] theorem Dev.drive_mot_demCmd (d : Dev) (m n : MotorIx) : ((d.drive m).mot n).demCmd = (d.mot n).demCmd :=
  (Dev.drives_drive d m).mot_demCmd n
@[simp] theorem Dev.drive_mot_posI (d : Dev) (m n : MotorIx) : ((d.drive m).mot n).posI = (d.mot n).posI :=
  (Dev.drives_drive d m).mot_posI n
@[simp] theorem Dev.drive_mot_spdI (d : Dev) (m n : MotorIx) : ((d.drive m).mot n).spdI = (d.mot n).spdI :=
  (Dev.drives_drive d m).mot_spdI n
@[simp] theorem Dev.drive_mot_odiv (d : Dev) (m n : MotorIx) : ((d.drive m).mot n).odiv = (d.mot n).odiv :=
  (Dev.drives_drive d m).mot_odiv n
@[simp] theorem Dev.drive_mot_lastDir (d : Dev) (m n : MotorIx) : ((d.drive m).mot n).lastDir = (d.mot n).lastDir :=
  (Dev.drives_drive d m).mot_lastDir n
@[simp] theorem Dev.drive_mot_loopRun (d : Dev) (m n : MotorIx) : ((d.drive m).mot n).loopRun = (d.mot n).loopRun :=
  (Dev.drives_drive d m).mot_loopRun n
@[simp] theorem Dev.drive_mot_kiss (d : Dev) (m n : MotorIx) : ((d.drive m).mot n).kiss = (d.mot n).kiss :=
  (Dev.drives_drive d m).mot_kiss n
@[simp] theorem Dev.drive_mot_req (d : Dev) (m n : MotorIx) : ((d.drive m).mot n).req = (d.mot n).req :=
  (Dev.drives_drive d m).mot_req n
@[simp] theorem Dev.drive_mot_lastReq (d : Dev) (m n : MotorIx) : ((d.drive m).mot n).lastReq = (d.mot n).lastReq :=
  (Dev.drives_drive d m).mot_lastReq n
@[simp] theorem Dev.drive_mot_grant (d : Dev) (m n : MotorIx) : ((d.drive m).mot n).grant = (d.mot n).grant :=
  (Dev.drives_drive d m).mot_grant n

end Sys2Proof.Machine
end

