-- ==== Sys2Proof/Laws/Fabric.lean ====
section
/-! SUPPORT. What a write of each register that a command names does, once the access table lets it through: the address
map is walked here, so that no later proof unfolds it. -/

namespace Sys2Proof.Machine

set_option Elab.async false

open Sys2Proof

/-- The word that a register holds after a write of `v` (R9). -/
def Dev.merge (d : Dev) (a : Nat) (v : Word) : Word :=
  match regRow a with
  | some r => d.merged r a v
  | none => d.w a

/-- A register stands at the address. -/
def isReg (a : Nat) : Bool := (regRow a).isSome

/-! ### Registers that are present -/

/-- A word below the comparators that no row of absent registers covers. -/
theorem Dev.absent_of (d : Dev) (a : Nat) (h : absentReg d.part a = false) (h' : ¬ (0xA200 ≤ a ∧ a < 0xA300)) :
    d.absent a = false := by
  unfold Dev.absent
  rw [h, decide_eq_false h']
  rfl

theorem Dev.absent_mot (d : Dev) (m : MotorIx) (o : Nat) (ho : o < 0x400) (h : d.hasMot m = true) :
    d.absent (aMot m o) = false := by
  have hb : m.1 < 4 * d.part.groups := by simpa [Dev.hasMot] using h
  have ha : 0x2000 ≤ aMot m o := by unfold aMot; omega
  have ha' : aMot m o < 0x6000 := by unfold aMot; omega
  have hi : (aMot m o - 0x2000) / 0x400 = m.1 := by unfold aMot; omega
  refine d.absent_of _ ?_ (by omega)
  generalize aMot m o = a at *
  have n1 : ¬ (0x10 ≤ a ∧ a < 0x30) := by omega
  have n0 : ¬ (a = 0x35) := by omega
  have n2 : ¬ (0x1010 ≤ a ∧ a < 0x1038) := by omega
  have n3 : 0x2000 ≤ a ∧ a < 0x6000 := by omega
  unfold absentReg
  simp only [n0, n1, n2, n3, if_false, if_true, and_self, hi]
  exact decide_eq_false (by omega)

theorem Dev.absent_grp (d : Dev) (g : GroupIx) (o : Nat) (ho : o < 8) (h : d.hasGrp g = true) :
    d.absent (aGrp g o) = false := by
  have hb : g.1 < d.part.groups := by simpa [Dev.hasGrp] using h
  have ha : 0x10 ≤ aGrp g o := by unfold aGrp; omega
  have ha' : aGrp g o < 0x30 := by unfold aGrp; omega
  have hi : (aGrp g o - 0x10) / 8 = g.1 := by unfold aGrp; omega
  refine d.absent_of _ ?_ (by omega)
  generalize aGrp g o = a at *
  have n1 : 0x10 ≤ a ∧ a < 0x30 := by omega
  unfold absentReg
  simp only [n1, if_true, and_self, hi]
  exact decide_eq_false (by omega)

theorem Dev.absent_sup (d : Dev) (g : GroupIx) (o : Nat) (ho : o < 0x40) (h : d.hasGrp g = true) :
    d.absent (aSup g o) = false := by
  have hb : g.1 < d.part.groups := by simpa [Dev.hasGrp] using h
  have ha : 0x6400 ≤ aSup g o := by unfold aSup; omega
  have ha' : aSup g o < 0x6500 := by unfold aSup; omega
  have hi : (aSup g o - 0x6400) / 0x40 = g.1 := by unfold aSup; omega
  refine d.absent_of _ ?_ (by omega)
  generalize aSup g o = a at *
  have n1 : ¬ (0x10 ≤ a ∧ a < 0x30) := by omega
  have n0 : ¬ (a = 0x35) := by omega
  have n2 : ¬ (0x1010 ≤ a ∧ a < 0x1038) := by omega
  have n3 : ¬ (0x2000 ≤ a ∧ a < 0x6000) := by omega
  have n4 : ¬ (0x6000 ≤ a ∧ a < 0x6100) := by omega
  have n5 : 0x6400 ≤ a ∧ a < 0x6500 := by omega
  unfold absentReg
  simp only [n0, n1, n2, n3, n4, n5, if_false, if_true, and_self, hi]
  exact decide_eq_false (by omega)

theorem Dev.absent_prm (d : Dev) (p : GroupIx) (o : Nat) (ho : o < 0x800) (h : d.hasGrp p = true) :
    d.absent (aPrm p o) = false := by
  have hb : p.1 < d.part.groups := by simpa [Dev.hasGrp] using h
  have ha : 0x8000 ≤ aPrm p o := by unfold aPrm; omega
  have ha' : aPrm p o < 0xA000 := by unfold aPrm; omega
  have hi : (aPrm p o - 0x8000) / 0x800 = p.1 := by unfold aPrm; omega
  refine d.absent_of _ ?_ (by omega)
  generalize aPrm p o = a at *
  have n1 : ¬ (0x10 ≤ a ∧ a < 0x30) := by omega
  have n0 : ¬ (a = 0x35) := by omega
  have n2 : ¬ (0x1010 ≤ a ∧ a < 0x1038) := by omega
  have n3 : ¬ (0x2000 ≤ a ∧ a < 0x6000) := by omega
  have n4 : ¬ (0x6000 ≤ a ∧ a < 0x6100) := by omega
  have n5 : ¬ (0x6400 ≤ a ∧ a < 0x6500) := by omega
  have n6 : ¬ (0x6800 ≤ a ∧ a < 0x6E00) := by omega
  have n7 : ¬ (0x6E00 ≤ a ∧ a < 0x6E40) := by omega
  have n8 : ¬ (0x7000 ≤ a ∧ a < 0x7080) := by omega
  have n9 : ¬ (0x7080 ≤ a ∧ a < 0x7090) := by omega
  have na : 0x8000 ≤ a ∧ a < 0xA000 := by omega
  unfold absentReg
  simp only [n0, n1, n2, n3, n4, n5, n6, n7, n8, n9, na, if_false, if_true, and_self, hi]
  exact decide_eq_false (by omega)

/-- The registers of blocks that every part has whole. -/
theorem Dev.absent_common (d : Dev) (a : Nat)
    (h : (0x30 ≤ a ∧ a < 0x35) ∨ (0x36 ≤ a ∧ a < 0xC00) ∨ (0xE00 ≤ a ∧ a < 0xF00) ∨ (0x1000 ≤ a ∧ a < 0x1010) ∨ (0x7090 ≤ a ∧ a < 0x8000) ∨
      (0xA000 ≤ a ∧ a < 0xA200) ∨ (0xA300 ≤ a ∧ a < 0xE009) ∨ (0xE00D ≤ a)) : d.absent a = false := by
  refine d.absent_of _ ?_ (by omega)
  have n1 : ¬ (0x10 ≤ a ∧ a < 0x30) := by omega
  have n0 : ¬ (a = 0x35) := by omega
  have n2 : ¬ (0x1010 ≤ a ∧ a < 0x1038) := by omega
  have n3 : ¬ (0x2000 ≤ a ∧ a < 0x6000) := by omega
  have n4 : ¬ (0x6000 ≤ a ∧ a < 0x6100) := by omega
  have n5 : ¬ (0x6400 ≤ a ∧ a < 0x6500) := by omega
  have n6 : ¬ (0x6800 ≤ a ∧ a < 0x6E00) := by omega
  have n7 : ¬ (0x6E00 ≤ a ∧ a < 0x6E40) := by omega
  have n8 : ¬ (0x7000 ≤ a ∧ a < 0x7080) := by omega
  have n9 : ¬ (0x7080 ≤ a ∧ a < 0x7090) := by omega
  have na : ¬ (0x8000 ≤ a ∧ a < 0xA000) := by omega
  have nb : ¬ (0xC00 ≤ a ∧ a < 0xE00) := by omega
  have nc : ¬ (0xF00 ≤ a ∧ a < 0xF10) := by omega
  have nd : ¬ (0xE009 ≤ a ∧ a < 0xE00D) := by omega
  unfold absentReg
  simp only [n0, n1, n2, n3, n4, n5, n6, n7, n8, n9, na, nb, nc, nd, if_false]

theorem Dev.absent_seed (d : Dev) (f : ChanIx) : d.absent (aFb f 0xD) = false := by
  by_cases h : f.1 < 16
  · exact d.absent_common _ (by unfold aFb; omega)
  · have h1 : absentReg d.part (aFb f 0xD) = false := by
      have := d.absent_common 0xA300 (by omega)
      have n1 : ¬ (0x10 ≤ aFb f 0xD ∧ aFb f 0xD < 0x30) := by unfold aFb; omega
      have n0 : ¬ (aFb f 0xD = 0x35) := by unfold aFb; omega
      have n2 : ¬ (0x1010 ≤ aFb f 0xD ∧ aFb f 0xD < 0x1038) := by unfold aFb; omega
      have n3 : ¬ (0x2000 ≤ aFb f 0xD ∧ aFb f 0xD < 0x6000) := by unfold aFb; omega
      have n4 : ¬ (0x6000 ≤ aFb f 0xD ∧ aFb f 0xD < 0x6100) := by unfold aFb; omega
      have n5 : ¬ (0x6400 ≤ aFb f 0xD ∧ aFb f 0xD < 0x6500) := by unfold aFb; omega
      have n6 : ¬ (0x6800 ≤ aFb f 0xD ∧ aFb f 0xD < 0x6E00) := by unfold aFb; omega
      have n7 : ¬ (0x6E00 ≤ aFb f 0xD ∧ aFb f 0xD < 0x6E40) := by unfold aFb; omega
      have n8 : ¬ (0x7000 ≤ aFb f 0xD ∧ aFb f 0xD < 0x7080) := by unfold aFb; omega
      have n9 : ¬ (0x7080 ≤ aFb f 0xD ∧ aFb f 0xD < 0x7090) := by unfold aFb; omega
      have na : ¬ (0x8000 ≤ aFb f 0xD ∧ aFb f 0xD < 0xA000) := by unfold aFb; omega
      have nb : ¬ (0xC00 ≤ aFb f 0xD ∧ aFb f 0xD < 0xE00) := by unfold aFb; omega
      have nc : ¬ (0xF00 ≤ aFb f 0xD ∧ aFb f 0xD < 0xF10) := by unfold aFb; omega
      have nd : ¬ (0xE009 ≤ aFb f 0xD ∧ aFb f 0xD < 0xE00D) := by unfold aFb; omega
      unfold absentReg
      simp only [n0, n1, n2, n3, n4, n5, n6, n7, n8, n9, na, nb, nc, nd, if_false]
    have e : aFb f 0xD % 0x20 = 13 := by unfold aFb; omega
    unfold Dev.absent
    rw [h1, e]
    simp

/-! ### The blocks of the address map (R397) -/

theorem Dev.commit_sys (d : Dev) (k : Master) (a : Nat) (v : Word) (hr : isReg a = true) (ha : d.absent a = false)
    (h : a < 0x400) : d.commit k a v = d.commitSys k a v (d.merge a v) := by
  obtain ⟨r, e⟩ := Option.isSome_iff_exists.mp hr
  unfold Dev.commit Dev.merge
  rw [e]
  simp only [h, ha, if_false, if_true, Bool.false_eq_true]

theorem Dev.commit_event (d : Dev) (k : Master) (a : Nat) (v : Word) (hr : isReg a = true) (ha : d.absent a = false)
    (h : 0xC00 ≤ a ∧ a < 0x1000) : d.commit k a v = d.commitEvent a v (d.merge a v) := by
  obtain ⟨r, e⟩ := Option.isSome_iff_exists.mp hr
  have n0 : ¬ (a < 0x400) := by omega
  have n1 : ¬ (a = 0x800) := by omega
  unfold Dev.commit Dev.merge
  rw [e]
  simp only [n0, n1, h, ha, if_false, if_true, and_self, Bool.false_eq_true]

theorem Dev.commit_mot (d : Dev) (k : Master) (a : Nat) (v : Word) (hr : isReg a = true) (ha : d.absent a = false)
    (h : 0x2000 ≤ a ∧ a < 0x6000) : d.commit k a v = d.commitMot a v (d.merge a v) := by
  obtain ⟨r, e⟩ := Option.isSome_iff_exists.mp hr
  have n0 : ¬ (a < 0x400) := by omega
  have n1 : ¬ (a = 0x800) := by omega
  have n2 : ¬ (0xC00 ≤ a ∧ a < 0x1000) := by omega
  have n3 : ¬ (a = 0x1006) := by omega
  unfold Dev.commit Dev.merge
  rw [e]
  simp only [n0, n1, n2, n3, h, ha, if_false, if_true, and_self, Bool.false_eq_true]

theorem Dev.commit_sup (d : Dev) (k : Master) (a : Nat) (v : Word) (hr : isReg a = true) (ha : d.absent a = false)
    (h : 0x6400 ≤ a ∧ a < 0x6800) : d.commit k a v = d.commitSup a v (d.merge a v) := by
  obtain ⟨r, e⟩ := Option.isSome_iff_exists.mp hr
  have n0 : ¬ (a < 0x400) := by omega
  have n1 : ¬ (a = 0x800) := by omega
  have n2 : ¬ (0xC00 ≤ a ∧ a < 0x1000) := by omega
  have n3 : ¬ (a = 0x1006) := by omega
  have n4 : ¬ (0x2000 ≤ a ∧ a < 0x6000) := by omega
  unfold Dev.commit Dev.merge
  rw [e]
  simp only [n0, n1, n2, n3, n4, h, ha, if_false, if_true, and_self, Bool.false_eq_true]

theorem Dev.commit_glint (d : Dev) (k : Master) (a : Nat) (v : Word) (hr : isReg a = true) (ha : d.absent a = false)
    (h : 0x7000 ≤ a ∧ a < 0x8000) : d.commit k a v = d.commitGlint a v (d.merge a v) := by
  obtain ⟨r, e⟩ := Option.isSome_iff_exists.mp hr
  have n0 : ¬ (a < 0x400) := by omega
  have n1 : ¬ (a = 0x800) := by omega
  have n2 : ¬ (0xC00 ≤ a ∧ a < 0x1000) := by omega
  have n3 : ¬ (a = 0x1006) := by omega
  have n4 : ¬ (0x2000 ≤ a ∧ a < 0x6000) := by omega
  have n5 : ¬ (0x6400 ≤ a ∧ a < 0x6800) := by omega
  unfold Dev.commit Dev.merge
  rw [e]
  simp only [n0, n1, n2, n3, n4, n5, h, ha, if_false, if_true, and_self, Bool.false_eq_true]

theorem Dev.commit_prism (d : Dev) (k : Master) (a : Nat) (v : Word) (hr : isReg a = true) (ha : d.absent a = false)
    (h : 0x8000 ≤ a ∧ a < 0xA000) : d.commit k a v = d.commitPrism a v (d.merge a v) := by
  obtain ⟨r, e⟩ := Option.isSome_iff_exists.mp hr
  have n0 : ¬ (a < 0x400) := by omega
  have n1 : ¬ (a = 0x800) := by omega
  have n2 : ¬ (0xC00 ≤ a ∧ a < 0x1000) := by omega
  have n3 : ¬ (a = 0x1006) := by omega
  have n4 : ¬ (0x2000 ≤ a ∧ a < 0x6000) := by omega
  have n5 : ¬ (0x6400 ≤ a ∧ a < 0x6800) := by omega
  have n6 : ¬ (0x7000 ≤ a ∧ a < 0x8000) := by omega
  unfold Dev.commit Dev.merge
  rw [e]
  simp only [n0, n1, n2, n3, n4, n5, n6, h, ha, if_false, if_true, and_self, Bool.false_eq_true]

theorem Dev.commit_fb (d : Dev) (k : Master) (a : Nat) (v : Word) (hr : isReg a = true) (ha : d.absent a = false)
    (h : 0xA000 ≤ a ∧ a < 0xB000) : d.commit k a v = d.commitFb a v (d.merge a v) := by
  obtain ⟨r, e⟩ := Option.isSome_iff_exists.mp hr
  have n0 : ¬ (a < 0x400) := by omega
  have n1 : ¬ (a = 0x800) := by omega
  have n2 : ¬ (0xC00 ≤ a ∧ a < 0x1000) := by omega
  have n3 : ¬ (a = 0x1006) := by omega
  have n4 : ¬ (0x2000 ≤ a ∧ a < 0x6000) := by omega
  have n5 : ¬ (0x6400 ≤ a ∧ a < 0x6800) := by omega
  have n6 : ¬ (0x7000 ≤ a ∧ a < 0x8000) := by omega
  have n7 : ¬ (0x8000 ≤ a ∧ a < 0xA000) := by omega
  unfold Dev.commit Dev.merge
  rw [e]
  simp only [n0, n1, n2, n3, n4, n5, n6, n7, h, ha, if_false, if_true, and_self, Bool.false_eq_true]

theorem Dev.commit_trace (d : Dev) (k : Master) (a : Nat) (v : Word) (hr : isReg a = true) (ha : d.absent a = false)
    (h : 0xB000 ≤ a ∧ a < 0xC000) : d.commit k a v = d.commitTrace a v (d.merge a v) := by
  obtain ⟨r, e⟩ := Option.isSome_iff_exists.mp hr
  have n0 : ¬ (a < 0x400) := by omega
  have n1 : ¬ (a = 0x800) := by omega
  have n2 : ¬ (0xC00 ≤ a ∧ a < 0x1000) := by omega
  have n3 : ¬ (a = 0x1006) := by omega
  have n4 : ¬ (0x2000 ≤ a ∧ a < 0x6000) := by omega
  have n5 : ¬ (0x6400 ≤ a ∧ a < 0x6800) := by omega
  have n6 : ¬ (0x7000 ≤ a ∧ a < 0x8000) := by omega
  have n7 : ¬ (0x8000 ≤ a ∧ a < 0xA000) := by omega
  have n8 : ¬ (0xA000 ≤ a ∧ a < 0xB000) := by omega
  unfold Dev.commit Dev.merge
  rw [e]
  simp only [n0, n1, n2, n3, n4, n5, n6, n7, n8, h, ha, if_false, if_true, and_self, Bool.false_eq_true]

theorem Dev.commit_mem (d : Dev) (k : Master) (a : Nat) (v : Word) (hr : isReg a = true) (ha : d.absent a = false)
    (h : 0xD000 ≤ a ∧ a < 0xE000) : d.commit k a v = d.commitMem a v (d.merge a v) := by
  obtain ⟨r, e⟩ := Option.isSome_iff_exists.mp hr
  have n0 : ¬ (a < 0x400) := by omega
  have n1 : ¬ (a = 0x800) := by omega
  have n2 : ¬ (0xC00 ≤ a ∧ a < 0x1000) := by omega
  have n3 : ¬ (a = 0x1006) := by omega
  have n4 : ¬ (0x2000 ≤ a ∧ a < 0x6000) := by omega
  have n5 : ¬ (0x6400 ≤ a ∧ a < 0x6800) := by omega
  have n6 : ¬ (0x7000 ≤ a ∧ a < 0x8000) := by omega
  have n7 : ¬ (0x8000 ≤ a ∧ a < 0xA000) := by omega
  have n8 : ¬ (0xA000 ≤ a ∧ a < 0xB000) := by omega
  have n9 : ¬ (0xB000 ≤ a ∧ a < 0xC000) := by omega
  unfold Dev.commit Dev.merge
  rw [e]
  simp only [n0, n1, n2, n3, n4, n5, n6, n7, n8, n9, h, ha, if_false, if_true, and_self, Bool.false_eq_true]

theorem Dev.commit_test (d : Dev) (k : Master) (a : Nat) (v : Word) (hr : isReg a = true) (ha : d.absent a = false)
    (h : 0xF000 ≤ a ∧ a < 0x10000) : d.commit k a v = d.commitTest a v (d.merge a v) := by
  obtain ⟨r, e⟩ := Option.isSome_iff_exists.mp hr
  have n0 : ¬ (a < 0x400) := by omega
  have n1 : ¬ (a = 0x800) := by omega
  have n2 : ¬ (0xC00 ≤ a ∧ a < 0x1000) := by omega
  have n3 : ¬ (a = 0x1006) := by omega
  have n4 : ¬ (0x2000 ≤ a ∧ a < 0x6000) := by omega
  have n5 : ¬ (0x6400 ≤ a ∧ a < 0x6800) := by omega
  have n6 : ¬ (0x7000 ≤ a ∧ a < 0x8000) := by omega
  have n7 : ¬ (0x8000 ≤ a ∧ a < 0xA000) := by omega
  have n8 : ¬ (0xA000 ≤ a ∧ a < 0xB000) := by omega
  have n9 : ¬ (0xB000 ≤ a ∧ a < 0xC000) := by omega
  have n10 : ¬ (0xD000 ≤ a ∧ a < 0xE000) := by omega
  have n11 : ¬ (a = 0xE803) := by omega
  unfold Dev.commit Dev.merge
  rw [e]
  simp only [n0, n1, n2, n3, n4, n5, n6, n7, n8, n9, n10, n11, h, ha, if_false, if_true, and_self, Bool.false_eq_true]

theorem Dev.commit_req (d : Dev) (k : Master) (v : Word) : d.commit k 0x800 v = d.writeReq (d.merge 0x800 v) := by
  have ha : d.absent 0x800 = false := d.absent_common _ (by omega)
  obtain ⟨r, e⟩ := Option.isSome_iff_exists.mp (by decide +kernel : (regRow 0x800).isSome = true)
  unfold Dev.commit Dev.merge
  rw [e]
  simp [ha]

theorem Dev.commit_therm (d : Dev) (k : Master) (v : Word) : d.commit k 0x1006 v = d.each ((List.finRange 5).filter (fun s => bitOf v s.1)) Dev.thermRequest := by
  have ha : d.absent 0x1006 = false := d.absent_common _ (by omega)
  obtain ⟨r, e⟩ := Option.isSome_iff_exists.mp (by decide +kernel : (regRow 0x1006).isSome = true)
  unfold Dev.commit
  rw [e]
  simp [ha]

theorem Dev.commit_rq (d : Dev) (k : Master) (v : Word) : d.commit k 0xE803 v = d.rqGo v := by
  have ha : d.absent 0xE803 = false := d.absent_common _ (by omega)
  obtain ⟨r, e⟩ := Option.isSome_iff_exists.mp (by decide +kernel : (regRow 0xE803).isSome = true)
  unfold Dev.commit
  rw [e]
  simp [ha]

/-! ### Places inside a block -/

theorem ixMot_aMot (m : MotorIx) (o : Nat) (h : o < 0x400) : ixMot (aMot m o) 0x2000 0x400 = m := by
  apply Fin.ext; show (0x2000 + 0x400 * m.1 + o - 0x2000) / 0x400 % 16 = m.1; omega

theorem off_aMot (m : MotorIx) (o : Nat) (h : o < 0x400) : (aMot m o - 0x2000) % 0x400 = o := by unfold aMot; omega

theorem ixGrp_aGrp (g : GroupIx) (o : Nat) (h : o < 8) : ixGrp (aGrp g o) 0x10 8 = g := by
  apply Fin.ext; show (0x10 + 8 * g.1 + o - 0x10) / 8 % 4 = g.1; omega

theorem ixGrp_aSup (g : GroupIx) (o : Nat) (h : o < 0x40) : ixGrp (aSup g o) 0x6400 0x40 = g := by
  apply Fin.ext; show (0x6400 + 0x40 * g.1 + o - 0x6400) / 0x40 % 4 = g.1; omega

theorem off_aSup (g : GroupIx) (o : Nat) (h : o < 0x40) : (aSup g o - 0x6400) % 0x40 = o := by unfold aSup; omega

theorem ixGrp_aPrm (p : GroupIx) (o : Nat) (h : o < 0x800) : ixGrp (aPrm p o) 0x8000 0x800 = p := by
  apply Fin.ext; show (0x8000 + 0x800 * p.1 + o - 0x8000) / 0x800 % 4 = p.1; omega

theorem off_aPrm (p : GroupIx) (o : Nat) (h : o < 0x800) : (aPrm p o - 0x8000) % 0x800 = o := by unfold aPrm; omega

/-! ### The registers that commands name -/

/-- A write that is acted on. -/
theorem Dev.fabWrite_ok (d : Dev) (k : Master) (a : Nat) (v : Word) (h : d.writeOk k a = true) :
    d.fabWrite k a v = d.commit k a v := by unfold Dev.fabWrite; rw [h]; rfl

variable (d : Dev) (k : Master) (v : Word)

theorem Dev.fabWrite_motCtrl (m : MotorIx) (h : d.writeOk k (aMot m 0) = true) (hm : d.hasMot m = true) :
    d.fabWrite k (aMot m 0) v = (let e := d.put (aMot m 0) (d.merge (aMot m 0) v)
      if !bitOf v 0 && (e.mot m).state ≠ .idle then e.toIdle m else e.drive m) := by
  rw [d.fabWrite_ok k _ v h, d.commit_mot k _ v ((by decide +kernel : ∀ m : MotorIx, isReg (aMot m 0) = true) m) (d.absent_mot m 0 (by decide) hm) (by unfold aMot; omega)]
  unfold Dev.commitMot
  rw [ixMot_aMot m 0 (by decide), off_aMot m 0 (by decide)]
  rfl

theorem Dev.fabWrite_flt (m : MotorIx) (h : d.writeOk k (aMot m 2) = true) (hm : d.hasMot m = true) :
    d.fabWrite k (aMot m 2) v = d.writeFlt m v := by
  rw [d.fabWrite_ok k _ v h, d.commit_mot k _ v ((by decide +kernel : ∀ m : MotorIx, isReg (aMot m 2) = true) m) (d.absent_mot m 2 (by decide) hm) (by unfold aMot; omega)]
  unfold Dev.commitMot
  rw [ixMot_aMot m 2 (by decide), off_aMot m 2 (by decide)]
  rfl

theorem Dev.fabWrite_hctl (m : MotorIx) (h : d.writeOk k (aMot m 0x102) = true) (hm : d.hasMot m = true) :
    d.fabWrite k (aMot m 0x102) v = d.writeHctl m v := by
  rw [d.fabWrite_ok k _ v h, d.commit_mot k _ v ((by decide +kernel : ∀ m : MotorIx, isReg (aMot m 0x102) = true) m) (d.absent_mot m 0x102 (by decide) hm) (by unfold aMot; omega)]
  unfold Dev.commitMot
  rw [ixMot_aMot m 0x102 (by decide), off_aMot m 0x102 (by decide)]
  rfl

theorem Dev.fabWrite_hdem (m : MotorIx) (h : d.writeOk k (aMot m 0x103) = true) (hm : d.hasMot m = true) :
    d.fabWrite k (aMot m 0x103) v = d.writeHdem m v := by
  rw [d.fabWrite_ok k _ v h, d.commit_mot k _ v ((by decide +kernel : ∀ m : MotorIx, isReg (aMot m 0x103) = true) m) (d.absent_mot m 0x103 (by decide) hm) (by unfold aMot; omega)]
  unfold Dev.commitMot
  rw [ixMot_aMot m 0x103 (by decide), off_aMot m 0x103 (by decide)]
  rfl

theorem Dev.fabWrite_kissref (m : MotorIx) (h : d.writeOk k (aMot m 0x158) = true) (hm : d.hasMot m = true) :
    d.fabWrite k (aMot m 0x158) v = (if d.locked' then d else (d.put (aMot m 0x158) v).loadKiss m) := by
  rw [d.fabWrite_ok k _ v h, d.commit_mot k _ v ((by decide +kernel : ∀ m : MotorIx, isReg (aMot m 0x158) = true) m) (d.absent_mot m 0x158 (by decide) hm) (by unfold aMot; omega)]
  unfold Dev.commitMot
  rw [ixMot_aMot m 0x158 (by decide), off_aMot m 0x158 (by decide)]
  rfl

theorem Dev.fabWrite_grpCfg (g : GroupIx) (h : d.writeOk k (aGrp g 1) = true) (hg : d.hasGrp g = true) :
    d.fabWrite k (aGrp g 1) v = (d.put (aGrp g 1) (withBit (d.merge (aGrp g 1) v) 0 (d.bit (aGrp g 1) 0))).setRun g (bitOf v 0) := by
  rw [d.fabWrite_ok k _ v h, d.commit_sys k _ v ((by decide +kernel : ∀ g : GroupIx, isReg (aGrp g 1) = true) g) (d.absent_grp g 1 (by decide) hg) (by unfold aGrp; omega)]
  have n1 : ¬ aGrp g 1 = 0xF := by unfold aGrp; omega
  have n2 : ¬ (0x10 ≤ aGrp g 1 ∧ aGrp g 1 < 0x30 ∧ aGrp g 1 % 8 = 0) := by unfold aGrp; omega
  have n3 : 0x10 ≤ aGrp g 1 ∧ aGrp g 1 < 0x30 ∧ aGrp g 1 % 8 = 1 := by unfold aGrp; omega
  have e := ixGrp_aGrp g 1 (by decide)
  unfold Dev.commitSys
  rw [if_neg n1, if_neg n2, if_pos n3, e]

theorem Dev.fabWrite_supTest (g : GroupIx) (h : d.writeOk k (aSup g 0xD) = true) (hg : d.hasGrp g = true) :
    d.fabWrite k (aSup g 0xD) v = d.testPulse g v := by
  rw [d.fabWrite_ok k _ v h, d.commit_sup k _ v ((by decide +kernel : ∀ g : GroupIx, isReg (aSup g 0xD) = true) g) (d.absent_sup g 0xD (by decide) hg) (by unfold aSup; omega)]
  unfold Dev.commitSup
  rw [ixGrp_aSup g 0xD (by decide), off_aSup g 0xD (by decide)]
  rfl

theorem Dev.fabWrite_prmCtrl (p : GroupIx) (h : d.writeOk k (aPrm p 0) = true) (hp : d.hasGrp p = true) :
    d.fabWrite k (aPrm p 0) v = d.writePrmCtrl p (if d.runBlocked then withBit (d.merge (aPrm p 0) v) 0 (bitOf (d.merge (aPrm p 0) v) 0 && d.bit (aPrm p 0) 0) else
      d.merge (aPrm p 0) v) := by
  rw [d.fabWrite_ok k _ v h, d.commit_prism k _ v ((by decide +kernel : ∀ p : GroupIx, isReg (aPrm p 0) = true) p) (d.absent_prm p 0 (by decide) hp) (by unfold aPrm; omega)]
  unfold Dev.commitPrism
  rw [ixGrp_aPrm p 0 (by decide), off_aPrm p 0 (by decide)]
  rfl

theorem Dev.fabWrite_urq (p : GroupIx) (h : d.writeOk k (aPrm p 5) = true) (hp : d.hasGrp p = true) :
    d.fabWrite k (aPrm p 5) v = d.urgent p v := by
  rw [d.fabWrite_ok k _ v h, d.commit_prism k _ v ((by decide +kernel : ∀ p : GroupIx, isReg (aPrm p 5) = true) p) (d.absent_prm p 5 (by decide) hp) (by unfold aPrm; omega)]
  unfold Dev.commitPrism
  rw [ixGrp_aPrm p 5 (by decide), off_aPrm p 5 (by decide)]
  rfl

theorem Dev.fabWrite_trk (p : GroupIx) (t : Fin 32) (h : d.writeOk k (aTrk p t 0) = true) (hp : d.hasGrp p = true) :
    d.fabWrite k (aTrk p t 0) v = d.writeTrk p t (d.merge (aTrk p t 0) v ||| (v &&& 0x8000)) := by
  rw [d.fabWrite_ok k _ v h, d.commit_prism k _ v ((by decide +kernel : ∀ (p : GroupIx) (t : Fin 32), isReg (aTrk p t 0) = true) p t) (d.absent_prm p _ (by omega) hp) (by unfold aTrk aPrm; omega)]
  have e : ixGrp (aTrk p t 0) 0x8000 0x800 = p := ixGrp_aPrm p _ (by omega)
  have o : (aTrk p t 0 - 0x8000) % 0x800 = 0x300 + 4 * t.1 := off_aPrm p _ (by omega)
  have n1 : ¬ (0x300 + 4 * t.1 = 0) := by omega
  have n2 : ¬ (0x300 + 4 * t.1 = 5) := by omega
  have n3 : ¬ (0x20 ≤ 0x300 + 4 * t.1 ∧ 0x300 + 4 * t.1 < 0x30) := by omega
  have n4 : 0x300 ≤ 0x300 + 4 * t.1 ∧ 0x300 + 4 * t.1 < 0x380 ∧ (0x300 + 4 * t.1) % 4 = 0 := by omega
  have i : ix 32 ((0x300 + 4 * t.1 - 0x300) / 4) (by decide) = t := by
    apply Fin.ext; show (0x300 + 4 * t.1 - 0x300) / 4 % 32 = t.1; omega
  unfold Dev.commitPrism
  rw [e, o]
  simp only [n1, n2, n3, n4, if_false, if_true, and_self, i]

theorem Dev.fabWrite_fbCmd (f : ChanIx) (h : d.writeOk k (aFb f 0xD) = true) :
    d.fabWrite k (aFb f 0xD) v = d.writeFbCmd f v := by
  rw [d.fabWrite_ok k _ v h, d.commit_fb k _ v ((by decide +kernel : ∀ f : ChanIx, isReg (aFb f 0xD) = true) f) (d.absent_seed f) (by unfold aFb; omega)]
  have n1 : aFb f 0xD < 0xA300 := by unfold aFb; omega
  have i : ix 24 ((aFb f 0xD - 0xA000) / 0x20) (by decide) = f := by
    apply Fin.ext; show (0xA000 + 0x20 * f.1 + 0xD - 0xA000) / 0x20 % 24 = f.1; omega
  have o : aFb f 0xD % 0x20 = 0xD := by unfold aFb; omega
  unfold Dev.commitFb
  rw [if_pos n1, i, o]
  rfl

theorem Dev.fabWrite_hin (t : TraceIx) (h : d.writeOk k (0xB400 + t.1) = true) :
    d.fabWrite k (0xB400 + t.1) v = d.writeHin t v := by
  rw [d.fabWrite_ok k _ v h, d.commit_trace k _ v ((by decide +kernel : ∀ t : TraceIx, isReg (0xB400 + t.1) = true) t) (d.absent_common _ (by omega)) (by omega)]
  have n1 : ¬ 0xB400 + t.1 < 0xB400 := by omega
  have n2 : 0xB400 + t.1 < 0xB480 := by omega
  have i : ix 128 (0xB400 + t.1 - 0xB400) (by decide) = t := by
    apply Fin.ext; show (0xB400 + t.1 - 0xB400) % 128 = t.1; omega
  unfold Dev.commitTrace
  rw [if_neg n1, if_pos n2, i]

theorem Dev.fabWrite_traceSrc (t : TraceIx) (h : d.writeOk k (aTr t 0) = true) :
    d.fabWrite k (aTr t 0) v = d.writeTraceSrc t (d.merge (aTr t 0) v) := by
  rw [d.fabWrite_ok k _ v h, d.commit_trace k _ v ((by decide +kernel : ∀ t : TraceIx, isReg (aTr t 0) = true) t) (d.absent_common _ (by unfold aTr; omega)) (by unfold aTr; omega)]
  have n1 : aTr t 0 < 0xB400 := by unfold aTr; omega
  have i : ix 128 ((aTr t 0 - 0xB000) / 8) (by decide) = t := by
    apply Fin.ext; show (0xB000 + 8 * t.1 + 0 - 0xB000) / 8 % 128 = t.1; omega
  have o : aTr t 0 % 8 = 0 := by unfold aTr; omega
  unfold Dev.commitTrace
  rw [if_pos n1, i, o]
  rfl

theorem Dev.fabWrite_traceTag (t : TraceIx) (h : d.writeOk k (aTr t 1) = true) :
    d.fabWrite k (aTr t 1) v = (if d.locked' then d else d.writeTraceTag t (d.merge (aTr t 1) v)) := by
  rw [d.fabWrite_ok k _ v h, d.commit_trace k _ v ((by decide +kernel : ∀ t : TraceIx, isReg (aTr t 1) = true) t) (d.absent_common _ (by unfold aTr; omega)) (by unfold aTr; omega)]
  have n1 : aTr t 1 < 0xB400 := by unfold aTr; omega
  have i : ix 128 ((aTr t 1 - 0xB000) / 8) (by decide) = t := by
    apply Fin.ext; show (0xB000 + 8 * t.1 + 1 - 0xB000) / 8 % 128 = t.1; omega
  have o : aTr t 1 % 8 = 1 := by unfold aTr; omega
  unfold Dev.commitTrace
  rw [if_pos n1, i, o]
  rfl

theorem Dev.fabWrite_traceRate (t : TraceIx) (h : d.writeOk k (aTr t 2) = true) :
    d.fabWrite k (aTr t 2) v = (if d.locked' then d else d.writeTraceRate t (d.merge (aTr t 2) v)) := by
  rw [d.fabWrite_ok k _ v h, d.commit_trace k _ v ((by decide +kernel : ∀ t : TraceIx, isReg (aTr t 2) = true) t) (d.absent_common _ (by unfold aTr; omega)) (by unfold aTr; omega)]
  have n1 : aTr t 2 < 0xB400 := by unfold aTr; omega
  have i : ix 128 ((aTr t 2 - 0xB000) / 8) (by decide) = t := by
    apply Fin.ext; show (0xB000 + 8 * t.1 + 2 - 0xB000) / 8 % 128 = t.1; omega
  have o : aTr t 2 % 8 = 2 := by unfold aTr; omega
  unfold Dev.commitTrace
  rw [if_pos n1, i, o]
  rfl

theorem Dev.fabWrite_pend (h : HostIx) (q : Fin 4) (hw : d.writeOk k (aEvh h (4 + q.1)) = true) :
    d.fabWrite k (aEvh h (4 + q.1)) v = d.clearPend h q.1 v := by
  rw [d.fabWrite_ok k _ v hw, d.commit_event k _ v ((by decide +kernel : ∀ (h : HostIx) (q : Fin 4), isReg (aEvh h (4 + q.1)) = true) h q) (d.absent_common _ (by unfold aEvh; omega)) (by unfold aEvh; omega)]
  have n1 : 0xE04 ≤ aEvh h (4 + q.1) ∧ aEvh h (4 + q.1) < 0xE40 ∧ 4 ≤ aEvh h (4 + q.1) % 16 ∧ aEvh h (4 + q.1) % 16 < 8 := by
    unfold aEvh; omega
  have i : ixGrp (aEvh h (4 + q.1)) 0xE00 0x10 = h := by
    apply Fin.ext; show (0xE00 + 0x10 * h.1 + (4 + q.1) - 0xE00) / 0x10 % 4 = h.1; omega
  have o : aEvh h (4 + q.1) % 16 - 4 = q.1 := by unfold aEvh; omega
  unfold Dev.commitEvent
  rw [if_pos n1, i, o]

theorem Dev.fabWrite_grpstart (h : d.writeOk k (0xF) = true) :
    d.fabWrite k (0xF) v = (List.finRange 4).foldl (fun d g => if bitOf v g.1 then d.setRun g true else d) d := by
  rw [d.fabWrite_ok k _ v h, d.commit_sys k _ v (by decide +kernel) (d.absent_of _ (by unfold absentReg; simp) (by omega)) (by omega)]
  rfl

theorem Dev.fabWrite_cfgcmd (h : d.writeOk k (0x4B) = true) :
    d.fabWrite k (0x4B) v = d.writeCfgcmd v := by
  rw [d.fabWrite_ok k _ v h, d.commit_sys k _ v (by decide +kernel) (d.absent_common _ (by omega)) (by omega)]
  rfl

theorem Dev.fabWrite_dbring (h : d.writeOk k (0x80) = true) :
    d.fabWrite k (0x80) v = d.ring k v := by
  rw [d.fabWrite_ok k _ v h, d.commit_sys k _ v (by decide +kernel) (d.absent_common _ (by omega)) (by omega)]
  rfl

theorem Dev.fabWrite_chk (h : d.writeOk k (0x70A0) = true) :
    d.fabWrite k (0x70A0) v = d.writeChk v := by
  rw [d.fabWrite_ok k _ v h, d.commit_glint k _ v (by decide +kernel) (d.absent_common _ (by omega)) (by omega)]
  rfl

theorem Dev.fabWrite_dcfg (h : d.writeOk k (0xA308) = true) :
    d.fabWrite k (0xA308) v = (if d.locked' then d else d.writeDcfg (d.merge 0xA308 v)) := by
  rw [d.fabWrite_ok k _ v h, d.commit_fb k _ v (by decide +kernel) (d.absent_common _ (by omega)) (by omega)]
  rfl

theorem Dev.fabWrite_traceCmd (h : d.writeOk k (0xB482) = true) :
    d.fabWrite k (0xB482) v = d.writeTraceCmd v := by
  rw [d.fabWrite_ok k _ v h, d.commit_trace k _ v (by decide +kernel) (d.absent_common _ (by omega)) (by omega)]
  rfl

theorem Dev.fabWrite_qrun (h : d.writeOk k (0xD005) = true) :
    d.fabWrite k (0xD005) v = d.writeQrun v := by
  rw [d.fabWrite_ok k _ v h, d.commit_mem k _ v (by decide +kernel) (d.absent_common _ (by omega)) (by omega)]
  rfl

theorem Dev.fabWrite_raw (h : d.writeOk k (0xD004) = true) :
    d.fabWrite k (0xD004) v = d.writeRaw v := by
  rw [d.fabWrite_ok k _ v h, d.commit_mem k _ v (by decide +kernel) (d.absent_common _ (by omega)) (by omega)]
  rfl

theorem Dev.fabWrite_lccmd (h : d.writeOk k (0xF001) = true) :
    d.fabWrite k (0xF001) v = d.writeLccmd v := by
  rw [d.fabWrite_ok k _ v h, d.commit_test k _ v (by decide +kernel) (d.absent_common _ (by omega)) (by omega)]
  rfl

theorem Dev.fabWrite_skey7 (h : d.writeOk k (0xFC0F) = true) :
    d.fabWrite k (0xFC0F) v = d.writeKey .service 7 v := by
  rw [d.fabWrite_ok k _ v h, d.commit_test k _ v (by decide +kernel) (d.absent_common _ (by omega)) (by omega)]
  rfl

theorem Dev.fabWrite_ikey7 (h : d.writeOk k (0xFC17) = true) :
    d.fabWrite k (0xFC17) v = d.writeKey .image 7 v := by
  rw [d.fabWrite_ok k _ v h, d.commit_test k _ v (by decide +kernel) (d.absent_common _ (by omega)) (by omega)]
  rfl

theorem Dev.fabWrite_bcmd (h : d.writeOk k (0xF400) = true) :
    d.fabWrite k (0xF400) v = (if bitOf v 14 && d.bist.run.isSome then d.bistEnd 4 else if bitOf v 15 then d.bistGo v else d) := by
  rw [d.fabWrite_ok k _ v h, d.commit_test k _ v (by decide +kernel) (d.absent_common _ (by omega)) (by omega)]
  rfl

theorem Dev.fabWrite_rcmd (h : d.writeOk k (0xF800) = true) :
    d.fabWrite k (0xF800) v = (if bitOf v 15 then d.repairGo else d) := by
  rw [d.fabWrite_ok k _ v h, d.commit_test k _ v (by decide +kernel) (d.absent_common _ (by omega)) (by omega)]
  rfl

theorem Dev.fabWrite_req (h : d.writeOk k 0x800 = true) : d.fabWrite k 0x800 v = d.writeReq (d.merge 0x800 v) := by
  rw [d.fabWrite_ok k _ v h, d.commit_req k v]

theorem Dev.fabWrite_therm (h : d.writeOk k 0x1006 = true) : d.fabWrite k 0x1006 v = d.each ((List.finRange 5).filter (fun s => bitOf v s.1)) Dev.thermRequest := by
  rw [d.fabWrite_ok k _ v h, d.commit_therm k v]

theorem Dev.fabWrite_rq (h : d.writeOk k 0xE803 = true) : d.fabWrite k 0xE803 v = d.rqGo v := by
  rw [d.fabWrite_ok k _ v h, d.commit_rq k v]

end Sys2Proof.Machine
end

