-- ==== Sys2Proof/Laws/Sys.lean ====
section
/-! SUPPORT. What the operations of engines, groups, gate drivers, arrays, feedback, traces and power leave alone: the part,
the clock, the fuses, the start sequence, the link, the self-test, the system registers outside the group timebases, and the events of
the system. One equation for each operation. -/

namespace Sys2Proof.Machine

set_option Elab.async false

open Sys2Proof

/-- System registers outside the group timebases. -/
def isSys (a : Nat) : Bool := decide (a < 0x10) || (decide (0x30 ≤ a) && decide (a < 0x400))

/-- Event sources of the system: integrity and faults, configuration, sessions, seconds and doorbells. -/
def isSysSrc (i : Nat) : Bool := (decide (53 ≤ i) && decide (i ≤ 57)) || decide (61 ≤ i)

/-- The view of the module that the operations of one block leave alone. -/
structure SysView where
  part : Part
  rev : Word
  fuses : Fuses
  resetN : Bool
  locked : Bool
  everLock : Bool
  heldOff : Bool
  cycles : Nat
  secAt : Nat
  mbxIn : List (List Word)
  mbxAt : Nat
  cplEdge : Option Bool
  loader : Loader
  mirror : MirrorSt
  tap : TapInstr
  lc : LifeCycle
  faultAt : Option Nat
  bist : Bist
  scrubPos : Nat
  scrubCe : Nat
  scrubRaised : Bool
  backs : List (Nat × Word)
  words : Nat → Word
  ev : Fin 64 → EvSrc

/-- That view of a state. -/
def Dev.sys (d : Dev) : SysView where
  part := d.part
  rev := d.rev
  fuses := d.fuses
  resetN := d.resetN
  locked := d.locked
  everLock := d.everLock
  heldOff := d.heldOff
  cycles := d.cycles
  secAt := d.secAt
  mbxIn := d.mbxIn
  mbxAt := d.mbxAt
  cplEdge := d.cplEdge
  loader := d.loader
  mirror := d.mirror
  tap := d.tap
  lc := d.lc
  faultAt := d.faultAt
  bist := d.bist
  scrubPos := d.scrubPos
  scrubCe := d.scrubCe
  scrubRaised := d.scrubRaised
  backs := d.backs
  words := fun a => if isSys a then d.w a else 0
  ev := fun i => if isSysSrc i.1 then d.ev[i] else {}

/-! ### Reading the view -/

theorem Dev.sys_w {d d' : Dev} (h : d'.sys = d.sys) (a : Nat) (ha : isSys a = true) : d'.w a = d.w a := by
  have e : (if isSys a then d'.w a else 0) = (if isSys a then d.w a else 0) := congrFun (congrArg SysView.words h) a
  simpa [ha] using e

theorem Dev.sys_ev {d d' : Dev} (h : d'.sys = d.sys) (i : Fin 64) (hi : isSysSrc i.1 = true) : d'.ev[i] = d.ev[i] := by
  have e : (if isSysSrc i.1 then d'.ev[i] else {}) = (if isSysSrc i.1 then d.ev[i] else {}) := congrFun (congrArg SysView.ev h) i
  simpa [hi] using e

/-! ### Updates -/

theorem Dev.sys_put (d : Dev) (a : Nat) (v : Word) (h : isSys a = false) : (d.put a v).sys = d.sys := by
  unfold Dev.sys
  congr 1
  funext b
  by_cases hb : b = a
  · subst hb; simp [h]
  · rw [Dev.w_put_ne d v hb]

theorem Dev.sys_putF (d : Dev) (a hi lo v : Nat) (h : isSys a = false) : (d.putF a hi lo v).sys = d.sys := Dev.sys_put d a _ h
theorem Dev.sys_putB (d : Dev) (a i : Nat) (b : Bool) (h : isSys a = false) : (d.putB a i b).sys = d.sys := Dev.sys_put d a _ h
theorem Dev.sys_orW (d : Dev) (a : Nat) (m : Word) (h : isSys a = false) : (d.orW a m).sys = d.sys := Dev.sys_put d a _ h
theorem Dev.sys_setB (d : Dev) (a i : Nat) (h : isSys a = false) : (d.setB a i).sys = d.sys := Dev.sys_orW d a _ h
theorem Dev.sys_clrW (d : Dev) (a : Nat) (m : Word) (h : isSys a = false) : (d.clrW a m).sys = d.sys := Dev.sys_put d a _ h
theorem Dev.sys_addSat (d : Dev) (a hi lo n : Nat) (h : isSys a = false) : (d.addSat a hi lo n).sys = d.sys := Dev.sys_put d a _ h
theorem Dev.sys_inc (d : Dev) (a : Nat) (h : isSys a = false) : (d.inc a).sys = d.sys := Dev.sys_put d a _ h
theorem Dev.sys_put32 (d : Dev) (a : Nat) (v : BitVec 32) (h : isSys a = false) (h' : isSys (a + 1) = false) :
    (d.put32 a v).sys = d.sys := by unfold Dev.put32; rw [Dev.sys_put _ _ _ h', Dev.sys_put _ _ _ h]
theorem Dev.sys_stampTime (d : Dev) (a : Nat) (h : isSys a = false) (h' : isSys (a + 1) = false) :
    (d.stampTime a).sys = d.sys := Dev.sys_put32 d a _ h h'
theorem Dev.sys_stamp (d : Dev) (a : Nat) (h : isSys a = false) (h' : isSys (a + 1) = false) (h2 : isSys (a + 2) = false) :
    (d.stamp a).sys = d.sys := by
  unfold Dev.stamp; rw [Dev.sys_put _ _ _ h2, Dev.sys_put _ _ _ h', Dev.sys_put _ _ _ h]

theorem Dev.sys_raiseNow (d : Dev) (i : Nat) (h : isSysSrc i = false) : (d.raiseNow i).sys = d.sys := by
  unfold Dev.raiseNow
  split
  · rename_i hi
    split
    · unfold Dev.sys
      congr 1
      funext j
      by_cases hj : j = ⟨i, hi⟩
      · subst hj; simp [h]
      · show (if isSysSrc j.1 then (upd d.ev ⟨i, hi⟩ _)[j] else {}) = _
        rw [upd_ne _ _ _ _ hj]
    · rfl
  · rfl

theorem Dev.sys_raise (d : Dev) (i : Nat) (h : isSysSrc i = false) : (d.raise i).sys = d.sys := by
  unfold Dev.raise
  split
  · rfl
  · exact Dev.sys_raiseNow d i h

theorem Dev.sys_raiseN (d : Dev) (i n : Nat) (h : isSysSrc i = false) : (d.raiseN i n).sys = d.sys := by
  unfold Dev.raiseN
  split
  · rfl
  · split
    · rfl
    · refine Eq.trans ?_ (Dev.sys_raiseNow d i h)
      dsimp only
      split
      · rename_i hi
        split
        · generalize d.raiseNow i = e
          unfold Dev.sys
          congr 1
          funext j
          by_cases hj : j = ⟨i, hi⟩
          · subst hj; simp [h]
          · show (if isSysSrc j.1 then (upd e.ev ⟨i, hi⟩ _)[j] else {}) = _
            rw [upd_ne _ _ _ _ hj]
        · rfl
      · rfl

theorem Dev.sys_cause (d : Dev) (a : Nat) (m : Word) (i : Nat) (h : isSys a = false) (hi : isSysSrc i = false) :
    (d.cause a m i).sys = d.sys := by unfold Dev.cause; rw [Dev.sys_raise _ _ hi, Dev.sys_orW _ _ _ h]

theorem Dev.sys_each {α : Type} (l : List α) (f : Dev → α → Dev) (h : ∀ (d : Dev) a, (f d a).sys = d.sys) (d : Dev) :
    (d.each l f).sys = d.sys := by
  unfold Dev.each
  induction l generalizing d with
  | nil => rfl
  | cons a t ih => exact (ih (f d a)).trans (h d a)

theorem Dev.sys_ite {p : Prop} [Decidable p] (x y : Dev) : (if p then x else y).sys = if p then x.sys else y.sys := by
  split <;> rfl

theorem Dev.sys_when (d : Dev) (c : Bool) (f : Dev → Dev) (h : ∀ d : Dev, (f d).sys = d.sys) : (d.when c f).sys = d.sys := by
  unfold Dev.when; split
  · exact h d
  · rfl

theorem Dev.sys_drives {d d' : Dev} (h : d.Drives d') : d'.sys = d.sys := by
  unfold Dev.sys
  simp only [h.part, h.rev, h.fuses, h.resetN, h.locked, h.everLock, h.heldOff, h.cycles, h.secAt, h.mbxIn, h.mbxAt,
    h.cplEdge, h.loader, h.mirror, h.tap, h.lc, h.faultAt, h.bist, h.scrubPos, h.scrubCe, h.scrubRaised, h.backs, h.w, h.ev]

theorem Dev.sys_onMot (d : Dev) (m : MotorIx) (f : Motor → Motor) : (d.onMot m f).sys = d.sys := rfl
theorem Dev.sys_onGrp (d : Dev) (g : GroupIx) (f : Group → Group) : (d.onGrp g f).sys = d.sys := rfl
theorem Dev.sys_onBrg (d : Dev) (b : BridgeIx) (f : Bridge → Bridge) : (d.onBrg b f).sys = d.sys := rfl
theorem Dev.sys_onDie (d : Dev) (g : GroupIx) (f : Die → Die) : (d.onDie g f).sys = d.sys := rfl
theorem Dev.sys_onPrm (d : Dev) (g : GroupIx) (f : Prism → Prism) : (d.onPrm g f).sys = d.sys := rfl
theorem Dev.sys_onFb (d : Dev) (c : ChanIx) (f : Fb → Fb) : (d.onFb c f).sys = d.sys := rfl
theorem Dev.sys_onTrc (d : Dev) (t : TraceIx) (f : Trace → Trace) : (d.onTrc t f).sys = d.sys := rfl
theorem Dev.sys_onHp (d : Dev) (k : HostIx) (f : HostPort → HostPort) : (d.onHp k f).sys = d.sys := rfl
theorem Dev.sys_onSen (d : Dev) (s : SensorIx) (f : ThermSen → ThermSen) : (d.onSen s f).sys = d.sys := rfl
theorem Dev.sys_onMem (d : Dev) (f : MemPort → MemPort) : (d.onMem f).sys = d.sys := rfl
theorem Dev.sys_onAcc (d : Dev) (p : GroupIx) (a : Fin 64) (f : Acc → Acc) : (d.onAcc p a f).sys = d.sys := rfl
theorem Dev.sys_enforce (d : Dev) (lo hi : Nat) : (d.enforce lo hi).sys = d.sys := rfl
theorem Dev.sys_enforce0 (d : Dev) (lo hi : Nat) : (d.enforce0 lo hi).sys = d.sys := rfl
theorem Dev.sys_nextFree (d : Dev) : d.nextFree.sys = d.sys := rfl
theorem Dev.sys_latch (d : Dev) (k : Master) (a : Nat) (v : Word) : (d.latch k a v).sys = d.sys := rfl
theorem Dev.sys_putFab (d : Dev) (k : Master) (v : Word) : (d.putFab k v).sys = d.sys := rfl

/-! ### Records that the view does not show -/

theorem Dev.sys_with_reports (d : Dev) (x : List Report) : ({ d with reports := x } : Dev).sys = d.sys := rfl
theorem Dev.sys_with_seqAt (d : Dev) (x : Option Nat) : ({ d with seqAt := x } : Dev).sys = d.sys := rfl
theorem Dev.sys_with_busDue (d : Dev) (x : List GroupIx) : ({ d with busDue := x } : Dev).sys = d.sys := rfl
theorem Dev.sys_with_glDue (d : Dev) (x : List MotorIx) : ({ d with glDue := x } : Dev).sys = d.sys := rfl
theorem Dev.sys_with_ticks (d : Dev) (x : Nat) : ({ d with ticks := x } : Dev).sys = d.sys := rfl
theorem Dev.sys_with_emptied (d : Dev) (x : Option (Nat × Bool)) : ({ d with emptied := x } : Dev).sys = d.sys := rfl
theorem Dev.sys_with_dist (d : Dev) (x : Dist) : ({ d with dist := x } : Dev).sys = d.sys := rfl
theorem Dev.sys_with_tickAt (d : Dev) (x : Nat) : ({ d with tickAt := x } : Dev).sys = d.sys := rfl
theorem Dev.sys_with_recq (d : Dev) (x : List Rec) : ({ d with recq := x } : Dev).sys = d.sys := rfl
theorem Dev.sys_with_mem (d : Dev) (x : MemPort) : ({ d with mem := x } : Dev).sys = d.sys := rfl
theorem Dev.sys_with_thermAt (d : Dev) (x : Nat) : ({ d with thermAt := x } : Dev).sys = d.sys := rfl
theorem Dev.sys_with_power (d : Dev) (x : Power) : ({ d with power := x } : Dev).sys = d.sys := rfl
theorem Dev.sys_with_devLog (d : Dev) (x : DevLog) : ({ d with devLog := x } : Dev).sys = d.sys := rfl
theorem Dev.sys_with_marks (d : Dev) (x : Store) : ({ d with marks := x } : Dev).sys = d.sys := rfl
theorem Dev.sys_with_logWrote (d : Dev) (x : Option (LogUnit × Nat)) : ({ d with logWrote := x } : Dev).sys = d.sys := rfl
theorem Dev.sys_with_closeLate (d : Dev) (x : List (GroupIx × Fin 64)) : ({ d with closeLate := x } : Dev).sys = d.sys := rfl
theorem Dev.sys_with_fbDue (d : Dev) (x : List ChanIx) : ({ d with fbDue := x } : Dev).sys = d.sys := rfl
theorem Dev.sys_with_store (d : Dev) (x : Store) : ({ d with store := x } : Dev).sys = d.sys := rfl

theorem isSys_of_le {a : Nat} (h : 0x400 ≤ a) : isSys a = false := by
  unfold isSys; simp; omega
theorem isSys_aGrp (g : GroupIx) (o : Nat) (h : o < 8) : isSys (aGrp g o) = false := by
  have := g.2; unfold isSys aGrp; simp; omega
theorem isSysSrc_of_lt {i : Nat} (h : i < 53) : isSysSrc i = false := by
  unfold isSysSrc; simp; omega

theorem Dev.sys_motCause (d : Dev) (m : MotorIx) (bit : Nat) : (d.motCause m bit).sys = d.sys := by
  unfold Dev.motCause
  repeat' (first
    | with_reducible rfl
    | with_reducible exact isSys_of_le (by first | omega | decide)
    | with_reducible exact isSysSrc_of_lt (by omega)
    | (show isSysSrc _ = false; decide)
    | split
    | with_reducible refine (Dev.sys_cause _ _ _ _ ?_ ?_).trans ?_)

theorem Dev.sys_syncBsuv (d : Dev) (m : MotorIx) : (d.syncBsuv m).sys = d.sys :=
  Dev.sys_drives (Dev.drives_syncBsuv d m)

theorem Dev.sys_turnOn (d : Dev) (b : BridgeIx) : (d.turnOn b).sys = d.sys :=
  Dev.sys_drives (Dev.drives_turnOn d b)

theorem Dev.sys_turnOff (d : Dev) (b : BridgeIx) : (d.turnOff b).sys = d.sys :=
  Dev.sys_drives (Dev.drives_turnOff d b)

theorem Dev.sys_command (d : Dev) (b : BridgeIx) (en pulse : Bool) : (d.command b en pulse).sys = d.sys :=
  Dev.sys_drives (Dev.drives_command d b en pulse)

theorem Dev.sys_takeSeq (d : Dev) : (d.takeSeq).sys = d.sys := by
  unfold Dev.takeSeq
  try dsimp only
  repeat' (first
    | with_reducible rfl
    | with_reducible exact isSys_of_le (by first | omega | decide)
    | with_reducible exact isSysSrc_of_lt (by omega)
    | (show isSysSrc _ = false; decide)
    | split
    | with_reducible refine (Dev.sys_putF _ _ _ _ _ ?_).trans ?_
    | with_reducible refine (Dev.sys_with_seqAt _ _).trans ?_)

theorem Dev.sys_record (d : Dev) (b : BridgeIx) (kind : Nat) : (d.record b kind).sys = d.sys := by
  unfold Dev.record
  try dsimp only
  repeat' (first
    | with_reducible rfl
    | with_reducible exact isSys_of_le (by first | omega | decide | (simp only [aGd, aGdg]; omega))
    | with_reducible exact isSysSrc_of_lt (by omega)
    | (show isSysSrc _ = false; decide)
    | split
    | with_reducible refine (Dev.sys_put _ _ _ ?_).trans ?_
    | with_reducible refine (Dev.sys_putF _ _ _ _ _ ?_).trans ?_
    | with_reducible refine (Dev.sys_putB _ _ _ _ ?_).trans ?_
    | with_reducible refine (Dev.sys_setB _ _ _ ?_).trans ?_
    | with_reducible refine (Dev.sys_stamp _ _ ?_ ?_ ?_).trans ?_
    | with_reducible refine (Dev.sys_onGrp _ _ _).trans ?_
    | with_reducible refine (Dev.sys_onBrg _ _ _).trans ?_
    | with_reducible refine (Dev.sys_each _ _ (fun d x => ?_) _).trans ?_
    | with_reducible refine (Dev.sys_takeSeq _).trans ?_)

theorem Dev.sys_gateFlag (d : Dev) (b : BridgeIx) (flag : Nat) : (d.gateFlag b flag).sys = d.sys := by
  unfold Dev.gateFlag
  try dsimp only
  repeat' (first
    | with_reducible rfl
    | with_reducible exact isSys_of_le (by first | omega | decide | (simp only [aGd]; omega))
    | with_reducible exact isSysSrc_of_lt (by omega)
    | (show isSysSrc _ = false; decide)
    | split
    | with_reducible refine (Dev.sys_putF _ _ _ _ _ ?_).trans ?_
    | with_reducible refine (Dev.sys_orW _ _ _ ?_).trans ?_
    | with_reducible refine (Dev.sys_addSat _ _ _ _ _ ?_).trans ?_
    | with_reducible refine (Dev.sys_record _ _ _).trans ?_)

theorem Dev.sys_report (d : Dev) (m : MotorIx) (ph : Fin 3) (c : Cause) : (d.report m ph c).sys = d.sys := by
  unfold Dev.report
  repeat' (first
    | with_reducible rfl
    | with_reducible exact isSys_of_le (by first | omega | decide)
    | with_reducible exact isSysSrc_of_lt (by omega)
    | (show isSysSrc _ = false; decide)
    | split
    | with_reducible refine (Dev.sys_cause _ _ _ _ ?_ ?_).trans ?_
    | with_reducible refine (Dev.sys_with_reports _ _).trans ?_)

theorem Dev.sys_driveLeg (d : Dev) (m : MotorIx) (ph : Fin 3) : (d.driveLeg m ph).sys = d.sys :=
  Dev.sys_drives (Dev.drives_driveLeg d m ph)

theorem Dev.sys_syncComp (d : Dev) (m : MotorIx) : (d.syncComp m).sys = d.sys :=
  Dev.sys_drives (Dev.drives_syncComp d m)

theorem Dev.sys_drive (d : Dev) (m : MotorIx) : (d.drive m).sys = d.sys :=
  Dev.sys_drives (Dev.drives_drive d m)

theorem Dev.sys_driveGroup (d : Dev) (g : GroupIx) : (d.driveGroup g).sys = d.sys :=
  Dev.sys_drives (Dev.drives_driveGroup d g)

theorem Dev.sys_driveAll (d : Dev) : (d.driveAll).sys = d.sys :=
  Dev.sys_drives (Dev.drives_driveAll d)

theorem Dev.sys_showFrame (d : Dev) (m : MotorIx) : (d.showFrame m).sys = d.sys := by
  unfold Dev.showFrame
  repeat' (first
    | with_reducible rfl
    | with_reducible exact isSys_of_le (by first | omega | decide | (simp only [aMot]; omega))
    | with_reducible exact isSysSrc_of_lt (by omega)
    | (show isSysSrc _ = false; decide)
    | split
    | with_reducible refine (Dev.sys_put _ _ _ ?_).trans ?_)

theorem Dev.sys_showChange (d : Dev) (m : MotorIx) : (d.showChange m).sys = d.sys := by
  unfold Dev.showChange
  try dsimp only
  repeat' (first
    | with_reducible rfl
    | with_reducible exact isSys_of_le (by first | omega | decide | (simp only [aMot]; omega))
    | with_reducible exact isSysSrc_of_lt (by omega)
    | (show isSysSrc _ = false; decide)
    | split
    | with_reducible refine (Dev.sys_put _ _ _ ?_).trans ?_
    | with_reducible refine (Dev.sys_putF _ _ _ _ _ ?_).trans ?_)

theorem Dev.sys_clearInts (d : Dev) (m : MotorIx) (st : MState) : (d.clearInts m st).sys = d.sys := by
  unfold Dev.clearInts
  try dsimp only
  repeat' (first
    | with_reducible rfl
    | with_reducible exact isSys_of_le (by first | omega | decide | (simp only [aMot]; omega))
    | with_reducible exact isSysSrc_of_lt (by omega)
    | (show isSysSrc _ = false; decide)
    | split
    | with_reducible refine (Dev.sys_put _ _ _ ?_).trans ?_
    | with_reducible refine (Dev.sys_put32 _ _ _ ?_ ?_).trans ?_
    | with_reducible refine (Dev.sys_onMot _ _ _).trans ?_)

theorem Dev.sys_enter (d : Dev) (m : MotorIx) (st : MState) : (d.enter m st).sys = d.sys := by
  unfold Dev.enter
  try dsimp only
  repeat' (first
    | with_reducible rfl
    | with_reducible exact isSys_of_le (by first | omega | decide)
    | with_reducible exact isSysSrc_of_lt (by omega)
    | (show isSysSrc _ = false; decide)
    | split
    | with_reducible refine (Dev.sys_onMot _ _ _).trans ?_
    | with_reducible refine (Dev.sys_drive _ _).trans ?_
    | with_reducible refine (Dev.sys_showChange _ _).trans ?_
    | with_reducible refine (Dev.sys_clearInts _ _ _).trans ?_)

theorem Dev.sys_toIdle (d : Dev) (m : MotorIx) : (d.toIdle m).sys = d.sys := by
  unfold Dev.toIdle
  repeat' (first
    | with_reducible rfl
    | with_reducible exact isSys_of_le (by first | omega | decide)
    | with_reducible exact isSysSrc_of_lt (by omega)
    | (show isSysSrc _ = false; decide)
    | split
    | with_reducible refine (Dev.sys_enter _ _ _).trans ?_)

theorem Dev.sys_enterFault (d : Dev) (m : MotorIx) (act : FaultAct) : (d.enterFault m act).sys = d.sys := by
  unfold Dev.enterFault
  try dsimp only
  repeat' (first
    | with_reducible rfl
    | with_reducible exact isSys_of_le (by first | omega | decide)
    | with_reducible exact isSysSrc_of_lt (by omega)
    | (show isSysSrc _ = false; decide)
    | split
    | with_reducible refine (Dev.sys_onMot _ _ _).trans ?_
    | with_reducible refine (Dev.sys_drive _ _).trans ?_
    | with_reducible refine (Dev.sys_showChange _ _).trans ?_
    | with_reducible refine (Dev.sys_clearInts _ _ _).trans ?_)

theorem Dev.sys_policy (d : Dev) (m : MotorIx) (bit code : Nat) : (d.policy m bit code).sys = d.sys := by
  unfold Dev.policy
  try dsimp only
  repeat' (first
    | with_reducible rfl
    | with_reducible exact isSys_of_le (by first | omega | decide | (simp only [aMot]; omega))
    | with_reducible exact isSysSrc_of_lt (by omega)
    | (show isSysSrc _ = false; decide)
    | split
    | with_reducible refine (Dev.sys_orW _ _ _ ?_).trans ?_
    | with_reducible refine (Dev.sys_onMot _ _ _).trans ?_
    | with_reducible refine (Dev.sys_drive _ _).trans ?_
    | with_reducible refine (Dev.sys_enterFault _ _ _).trans ?_)

theorem Dev.sys_force (d : Dev) (m : MotorIx) (ph : Fin 3) : (d.force m ph).sys = d.sys := by
  unfold Dev.force
  repeat' (first
    | with_reducible rfl
    | with_reducible exact isSys_of_le (by first | omega | decide)
    | with_reducible exact isSysSrc_of_lt (by omega)
    | (show isSysSrc _ = false; decide)
    | split
    | with_reducible refine (Dev.sys_onMot _ _ _).trans ?_
    | with_reducible refine (Dev.sys_drive _ _).trans ?_)

theorem Dev.sys_arrive (d : Dev) (r : Report) : (d.arrive r).sys = d.sys := by
  unfold Dev.arrive
  try dsimp only
  repeat' (first
    | with_reducible rfl
    | with_reducible exact isSys_of_le (by first | omega | decide)
    | with_reducible exact isSysSrc_of_lt (by omega)
    | (show isSysSrc _ = false; decide)
    | split
    | with_reducible refine (Dev.sys_cause _ _ _ _ ?_ ?_).trans ?_
    | with_reducible refine (Dev.sys_motCause _ _ _).trans ?_
    | with_reducible refine (Dev.sys_policy _ _ _ _).trans ?_
    | with_reducible refine (Dev.sys_force _ _ _).trans ?_)

theorem Dev.sys_levelReports (d : Dev) (m : MotorIx) : (d.levelReports m).sys = d.sys := by
  unfold Dev.levelReports
  try dsimp only
  repeat' (first
    | with_reducible rfl
    | with_reducible exact isSys_of_le (by first | omega | decide)
    | with_reducible exact isSysSrc_of_lt (by omega)
    | (show isSysSrc _ = false; decide)
    | split
    | with_reducible refine (Dev.sys_cause _ _ _ _ ?_ ?_).trans ?_
    | with_reducible refine (Dev.sys_each _ _ (fun d x => ?_) _).trans ?_
    | with_reducible refine (Dev.sys_when _ _ _ (fun d => ?_)).trans ?_
    | with_reducible refine (Dev.sys_arrive _ _).trans ?_)

theorem Dev.sys_holdSector (d : Dev) (m : MotorIx) (s : Nat) : (d.holdSector m s).sys = d.sys := by
  unfold Dev.holdSector
  repeat' (first
    | with_reducible rfl
    | with_reducible exact isSys_of_le (by first | omega | decide)
    | with_reducible exact isSysSrc_of_lt (by omega)
    | (show isSysSrc _ = false; decide)
    | split
    | with_reducible refine (Dev.sys_onMot _ _ _).trans ?_)

theorem Dev.sys_toAlign1 (d : Dev) (m : MotorIx) : (d.toAlign1 m).sys = d.sys := by
  unfold Dev.toAlign1
  try dsimp only
  repeat' (first
    | with_reducible rfl
    | with_reducible exact isSys_of_le (by first | omega | decide | (simp only [aMot]; omega))
    | with_reducible exact isSysSrc_of_lt (by omega)
    | (show isSysSrc _ = false; decide)
    | split
    | with_reducible refine (Dev.sys_onMot _ _ _).trans ?_
    | with_reducible refine (Dev.sys_enter _ _ _).trans ?_
    | with_reducible refine (Dev.sys_holdSector _ _ _).trans ?_)

theorem Dev.sys_toCatch (d : Dev) (m : MotorIx) : (d.toCatch m).sys = d.sys := by
  unfold Dev.toCatch
  try dsimp only
  repeat' (first
    | with_reducible rfl
    | with_reducible exact isSys_of_le (by first | omega | decide | (simp only [aMot]; omega))
    | with_reducible exact isSysSrc_of_lt (by omega)
    | (show isSysSrc _ = false; decide)
    | split
    | with_reducible refine (Dev.sys_onMot _ _ _).trans ?_
    | with_reducible refine (Dev.sys_enter _ _ _).trans ?_)

theorem Dev.sys_toCoast (d : Dev) (m : MotorIx) : (d.toCoast m).sys = d.sys := by
  unfold Dev.toCoast
  try dsimp only
  repeat' (first
    | with_reducible rfl
    | with_reducible exact isSys_of_le (by first | omega | decide | (simp only [aMot]; omega))
    | with_reducible exact isSysSrc_of_lt (by omega)
    | (show isSysSrc _ = false; decide)
    | split
    | with_reducible refine (Dev.sys_onMot _ _ _).trans ?_
    | with_reducible refine (Dev.sys_enter _ _ _).trans ?_)

theorem Dev.sys_startMotor (d : Dev) (m : MotorIx) : (d.startMotor m).sys = d.sys := by
  unfold Dev.startMotor
  try dsimp only
  repeat' (first
    | with_reducible rfl
    | with_reducible exact isSys_of_le (by first | omega | decide | (simp only [aMot]; omega))
    | with_reducible exact isSysSrc_of_lt (by omega)
    | (show isSysSrc _ = false; decide)
    | split
    | with_reducible refine (Dev.sys_onMot _ _ _).trans ?_
    | with_reducible refine (Dev.sys_enter _ _ _).trans ?_
    | with_reducible refine (Dev.sys_toAlign1 _ _).trans ?_
    | with_reducible refine (Dev.sys_toCatch _ _).trans ?_)

theorem Dev.sys_attemptFails (d : Dev) (m : MotorIx) (reason : Nat) : (d.attemptFails m reason).sys = d.sys := by
  unfold Dev.attemptFails
  try dsimp only
  repeat' (first
    | with_reducible rfl
    | with_reducible exact isSys_of_le (by first | omega | decide | (simp only [aMot]; omega))
    | with_reducible exact isSysSrc_of_lt (by omega)
    | (show isSysSrc _ = false; decide)
    | split
    | with_reducible refine (Dev.sys_inc _ _ ?_).trans ?_
    | with_reducible refine (Dev.sys_onMot _ _ _).trans ?_
    | with_reducible refine (Dev.sys_motCause _ _ _).trans ?_
    | with_reducible refine (Dev.sys_enter _ _ _).trans ?_
    | with_reducible refine (Dev.sys_policy _ _ _ _).trans ?_)

theorem Dev.sys_syncLoss (d : Dev) (m : MotorIx) : (d.syncLoss m).sys = d.sys := by
  unfold Dev.syncLoss
  try dsimp only
  repeat' (first
    | with_reducible rfl
    | with_reducible exact isSys_of_le (by first | omega | decide | (simp only [aMot]; omega))
    | with_reducible exact isSysSrc_of_lt (by omega)
    | (show isSysSrc _ = false; decide)
    | split
    | with_reducible refine (Dev.sys_inc _ _ ?_).trans ?_
    | with_reducible refine (Dev.sys_onMot _ _ _).trans ?_
    | with_reducible refine (Dev.sys_motCause _ _ _).trans ?_
    | with_reducible refine (Dev.sys_policy _ _ _ _).trans ?_
    | with_reducible refine (Dev.sys_toCoast _ _).trans ?_
    | with_reducible refine (Dev.sys_attemptFails _ _ _).trans ?_)

theorem Dev.sys_judge (d : Dev) (m : MotorIx) (t : Nat) : (d.judge m t).sys = d.sys := by
  unfold Dev.judge
  try dsimp only
  repeat' (first
    | with_reducible rfl
    | with_reducible exact isSys_of_le (by first | omega | decide | (simp only [aMot]; omega))
    | with_reducible exact isSysSrc_of_lt (by omega)
    | (show isSysSrc _ = false; decide)
    | split
    | with_reducible refine (Dev.sys_inc _ _ ?_).trans ?_
    | with_reducible refine (Dev.sys_onMot _ _ _).trans ?_)

theorem Dev.sys_windowFails (d : Dev) (m : MotorIx) : (d.windowFails m).sys = d.sys := by
  unfold Dev.windowFails
  repeat' (first
    | with_reducible rfl
    | with_reducible exact isSys_of_le (by first | omega | decide | (simp only [aMot]; omega))
    | with_reducible exact isSysSrc_of_lt (by omega)
    | (show isSysSrc _ = false; decide)
    | split
    | with_reducible refine (Dev.sys_inc _ _ ?_).trans ?_
    | with_reducible refine (Dev.sys_onMot _ _ _).trans ?_)

theorem Dev.sys_zcSample (d : Dev) (m : MotorIx) (lvl : Bool) : (d.zcSample m lvl).sys = d.sys := by
  unfold Dev.zcSample
  try dsimp only
  repeat' (first
    | with_reducible rfl
    | with_reducible exact isSys_of_le (by first | omega | decide | (simp only [aMot]; omega))
    | with_reducible exact isSysSrc_of_lt (by omega)
    | (show isSysSrc _ = false; decide)
    | split
    | with_reducible refine (Dev.sys_inc _ _ ?_).trans ?_
    | with_reducible refine (Dev.sys_onMot _ _ _).trans ?_
    | with_reducible refine (Dev.sys_judge _ _ _).trans ?_
    | with_reducible refine (Dev.sys_windowFails _ _).trans ?_)

theorem Dev.sys_handover (d : Dev) (m : MotorIx) : (d.handover m).sys = d.sys := by
  unfold Dev.handover
  try dsimp only
  repeat' (first
    | with_reducible rfl
    | with_reducible exact isSys_of_le (by first | omega | decide | (simp only [aMot]; omega))
    | with_reducible exact isSysSrc_of_lt (by omega)
    | (show isSysSrc _ = false; decide)
    | split
    | with_reducible refine (Dev.sys_onMot _ _ _).trans ?_
    | with_reducible refine (Dev.sys_enter _ _ _).trans ?_)

theorem Dev.sys_sectorOutcome (d : Dev) (m : MotorIx) : (d.sectorOutcome m).sys = d.sys := by
  unfold Dev.sectorOutcome
  try dsimp only
  repeat' (first
    | with_reducible rfl
    | with_reducible exact isSys_of_le (by first | omega | decide)
    | with_reducible exact isSysSrc_of_lt (by omega)
    | (show isSysSrc _ = false; decide)
    | split
    | with_reducible refine (Dev.sys_onMot _ _ _).trans ?_)

theorem Dev.sys_toBrake (d : Dev) (m : MotorIx) : (d.toBrake m).sys = d.sys := by
  unfold Dev.toBrake
  try dsimp only
  repeat' (first
    | with_reducible rfl
    | with_reducible exact isSys_of_le (by first | omega | decide | (simp only [aMot]; omega))
    | with_reducible exact isSysSrc_of_lt (by omega)
    | (show isSysSrc _ = false; decide)
    | split
    | with_reducible refine (Dev.sys_onMot _ _ _).trans ?_
    | with_reducible refine (Dev.sys_enter _ _ _).trans ?_)

theorem Dev.sys_catchDecide (d : Dev) (m : MotorIx) : (d.catchDecide m).sys = d.sys := by
  unfold Dev.catchDecide
  try dsimp only
  repeat' (first
    | with_reducible rfl
    | with_reducible exact isSys_of_le (by first | omega | decide | (simp only [aMot]; omega))
    | with_reducible exact isSysSrc_of_lt (by omega)
    | (show isSysSrc _ = false; decide)
    | split
    | with_reducible refine (Dev.sys_onMot _ _ _).trans ?_
    | with_reducible refine (Dev.sys_enter _ _ _).trans ?_
    | with_reducible refine (Dev.sys_toBrake _ _).trans ?_)

theorem Dev.sys_catchSample (d : Dev) (m : MotorIx) (lv : Fin 3 → Bool) : (d.catchSample m lv).sys = d.sys := by
  unfold Dev.catchSample
  try dsimp only
  repeat' (first
    | with_reducible rfl
    | with_reducible exact isSys_of_le (by first | omega | decide | (simp only [aMot]; omega))
    | with_reducible exact isSysSrc_of_lt (by omega)
    | (show isSysSrc _ = false; decide)
    | split
    | with_reducible refine (Dev.sys_onMot _ _ _).trans ?_
    | with_reducible refine (Dev.sys_each _ _ (fun d x => ?_) _).trans ?_
    | with_reducible refine (Dev.sys_catchDecide _ _).trans ?_)

theorem Dev.sys_searchFails (d : Dev) (m : MotorIx) : (d.searchFails m).sys = d.sys := by
  unfold Dev.searchFails
  repeat' (first
    | with_reducible rfl
    | with_reducible exact isSys_of_le (by first | omega | decide | (simp only [aMot]; omega))
    | with_reducible exact isSysSrc_of_lt (by omega)
    | (show isSysSrc _ = false; decide)
    | split
    | with_reducible refine (Dev.sys_putB _ _ _ _ ?_).trans ?_
    | with_reducible refine (Dev.sys_onMot _ _ _).trans ?_)

theorem Dev.sys_candidate (d : Dev) (m : MotorIx) (xc : Int) : (d.candidate m xc).sys = d.sys := by
  unfold Dev.candidate
  try dsimp only
  repeat' (first
    | with_reducible rfl
    | with_reducible exact isSys_of_le (by first | omega | decide | (simp only [aMot]; omega))
    | with_reducible exact isSysSrc_of_lt (by omega)
    | (show isSysSrc _ = false; decide)
    | split
    | with_reducible refine (Dev.sys_putB _ _ _ _ ?_).trans ?_
    | with_reducible refine (Dev.sys_put32 _ _ _ ?_ ?_).trans ?_
    | with_reducible refine (Dev.sys_onMot _ _ _).trans ?_)

theorem Dev.sys_searchFrame (d : Dev) (m : MotorIx) (i : Int) : (d.searchFrame m i).sys = d.sys := by
  unfold Dev.searchFrame
  try dsimp only
  repeat' (first
    | with_reducible rfl
    | with_reducible exact isSys_of_le (by first | omega | decide | (simp only [aMot]; omega))
    | with_reducible exact isSysSrc_of_lt (by omega)
    | (show isSysSrc _ = false; decide)
    | split
    | with_reducible refine (Dev.sys_onMot _ _ _).trans ?_
    | with_reducible refine (Dev.sys_searchFails _ _).trans ?_
    | with_reducible refine (Dev.sys_candidate _ _ _).trans ?_)

theorem Dev.sys_searchStart (d : Dev) (m : MotorIx) : (d.searchStart m).sys = d.sys := by
  unfold Dev.searchStart
  try dsimp only
  repeat' (first
    | with_reducible rfl
    | with_reducible exact isSys_of_le (by first | omega | decide | (simp only [aMot]; omega))
    | with_reducible exact isSysSrc_of_lt (by omega)
    | (show isSysSrc _ = false; decide)
    | split
    | with_reducible refine (Dev.sys_putF _ _ _ _ _ ?_).trans ?_
    | with_reducible refine (Dev.sys_putB _ _ _ _ ?_).trans ?_
    | with_reducible refine (Dev.sys_onMot _ _ _).trans ?_)

theorem Dev.sys_deliver (d : Dev) (m : MotorIx) (duty : Nat) (rev : Bool) (req : Nat) (regen : Bool) : (d.deliver m duty rev req regen).sys = d.sys := by
  unfold Dev.deliver
  try dsimp only
  repeat' (first
    | with_reducible rfl
    | with_reducible exact isSys_of_le (by first | omega | decide | (simp only [aMot]; omega))
    | with_reducible exact isSysSrc_of_lt (by omega)
    | (show isSysSrc _ = false; decide)
    | split
    | with_reducible refine (Dev.sys_put _ _ _ ?_).trans ?_
    | with_reducible refine (Dev.sys_onMot _ _ _).trans ?_)

theorem Dev.sys_measures (d : Dev) (m : MotorIx) (iu : Int) : (d.currentLoop m iu).1.sys = d.sys := by
  have ha : ∀ o, isSys (aMot m o) = false := fun o => isSys_of_le (by simp only [aMot]; omega)
  have ha' : ∀ o, isSys (aMot m o + 1) = false := fun o => isSys_of_le (by simp only [aMot]; omega)
  unfold Dev.currentLoop
  dsimp only
  split
  · exact (Dev.sys_put32 _ _ _ (ha _) (ha' _)).trans ((Dev.sys_put _ _ _ (ha _)).trans ((Dev.sys_put _ _ _ (ha _)).trans
      ((Dev.sys_put _ _ _ (ha _)).trans (Dev.sys_put _ _ _ (ha _)))))
  · exact (Dev.sys_put _ _ _ (ha _)).trans ((Dev.sys_put _ _ _ (ha _)).trans
      ((Dev.sys_put _ _ _ (ha _)).trans (Dev.sys_put _ _ _ (ha _))))

theorem Dev.sys_takeDemand (d : Dev) (m : MotorIx) : (d.takeDemand m).1.sys = d.sys := by
  have ha : ∀ o, isSys (aMot m o) = false := fun o => isSys_of_le (by simp only [aMot]; omega)
  unfold Dev.takeDemand
  refine (Dev.sys_onMot _ _ _).trans ?_
  exact (Dev.sys_putB _ _ _ _ (ha _)).trans ((Dev.sys_putF _ _ _ _ _ (ha _)).trans (Dev.sys_put _ _ _ (ha _)))

theorem Dev.sys_outer (d : Dev) (m : MotorIx) (dem : Int) : (d.outer m dem).sys = d.sys := by
  have ha : ∀ o, isSys (aMot m o) = false := fun o => isSys_of_le (by simp only [aMot]; omega)
  have ha' : ∀ o, isSys (aMot m o + 1) = false := fun o => isSys_of_le (by simp only [aMot]; omega)
  unfold Dev.outer
  dsimp only
  have hif : ∀ (c : Prop) [Decidable c] (x y : Dev), x.sys = d.sys → y.sys = d.sys → (if c then x else y).sys = d.sys := by
    intro c _ x y hx hy; split <;> assumption
  have hp : ∀ (x : Dev) o v, x.sys = d.sys → (x.put (aMot m o) v).sys = d.sys := fun x o v h => (Dev.sys_put _ _ _ (ha o)).trans h
  have hb : ∀ (x : Dev) o i v, x.sys = d.sys → (x.putB (aMot m o) i v).sys = d.sys :=
    fun x o i v h => (Dev.sys_putB _ _ _ _ (ha o)).trans h
  have h3 : ∀ (x : Dev) o v, x.sys = d.sys → (x.put32 (aMot m o) v).sys = d.sys :=
    fun x o v h => (Dev.sys_put32 _ _ _ (ha o) (ha' o)).trans h
  have hm : ∀ (x : Dev) f, x.sys = d.sys → (x.onMot m f).sys = d.sys := fun x f h => h
  have h0 : d.sys = d.sys := rfl
  repeat' (first
    | with_reducible exact h0
    | with_reducible apply hif
    | with_reducible apply hm
    | with_reducible apply hp
    | with_reducible apply hb
    | with_reducible apply h3)


theorem Dev.sys_showForce (d : Dev) (m : MotorIx) : (d.showForce m).sys = d.sys := by
  unfold Dev.showForce
  try dsimp only
  repeat' (first
    | with_reducible rfl
    | with_reducible exact isSys_of_le (by first | omega | decide | (simp only [aMot]; omega))
    | with_reducible exact isSysSrc_of_lt (by omega)
    | (show isSysSrc _ = false; decide)
    | (show isSys _ = false; decide)
    | split
    | with_reducible refine (Dev.sys_put _ _ _ ?_).trans ?_
    | with_reducible refine (Dev.sys_putB _ _ _ _ ?_).trans ?_)

theorem Dev.sys_loop (d : Dev) (m : MotorIx) : (d.loop m).sys = d.sys := by
  have ha : ∀ o, isSys (aMot m o) = false := fun o => isSys_of_le (by simp only [aMot]; omega)
  have hp : ∀ (x : Dev) o v, (x.put (aMot m o) v).sys = x.sys := fun x o v => Dev.sys_put _ _ _ (ha o)
  have hb : ∀ (x : Dev) o i v, (x.putB (aMot m o) i v).sys = x.sys := fun x o i v => Dev.sys_putB _ _ _ _ (ha o)
  unfold Dev.loop
  dsimp only
  repeat' (first
    | with_reducible rfl
    | with_reducible exact hp _ _ _
    | split
    | with_reducible refine (Dev.sys_deliver _ _ _ _ _ _).trans ?_
    | with_reducible refine (hp _ _ _).trans ?_
    | with_reducible refine (hb _ _ _ _).trans ?_
    | with_reducible refine (Dev.sys_measures _ _ _).trans ?_
    | with_reducible refine (Dev.sys_takeDemand _ _).trans ?_
    | with_reducible refine (Dev.sys_outer _ _ _).trans ?_
    | with_reducible refine (Dev.sys_showForce _ _).trans ?_
    | with_reducible refine (Dev.sys_searchFrame _ _ _).trans ?_)


theorem Dev.sys_resetRR (d : Dev) (g : GroupIx) : (d.resetRR g).sys = d.sys := by
  unfold Dev.resetRR
  repeat' (first
    | with_reducible rfl
    | with_reducible exact isSys_of_le (by first | omega | decide | (simp only [aCba]; omega))
    | with_reducible exact isSysSrc_of_lt (by omega)
    | (show isSysSrc _ = false; decide)
    | split
    | with_reducible refine (Dev.sys_put _ _ _ ?_).trans ?_)

theorem Dev.sys_snapshot (d : Dev) (g : GroupIx) : (d.snapshot g).sys = d.sys := by
  unfold Dev.snapshot
  try dsimp only
  repeat' (first
    | with_reducible rfl
    | with_reducible exact isSys_of_le (by first | omega | decide | (simp only [aCba, aSlot]; omega))
    | with_reducible exact isSysSrc_of_lt (by omega)
    | (show isSysSrc _ = false; decide)
    | split
    | with_reducible refine (Dev.sys_put _ _ _ ?_).trans ?_
    | with_reducible refine (Dev.sys_each _ _ (fun d x => ?_) _).trans ?_)

theorem Dev.sys_enforceGrants (d : Dev) (g : GroupIx) (b : Books) : (d.enforceGrants g b).sys = d.sys := by
  unfold Dev.enforceGrants
  try dsimp only
  repeat' (first
    | with_reducible rfl
    | with_reducible exact isSys_of_le (by first | omega | decide | (simp only [aSlot]; omega))
    | with_reducible exact isSysSrc_of_lt (by omega)
    | (show isSysSrc _ = false; decide)
    | split
    | with_reducible refine (Dev.sys_put _ _ _ ?_).trans ?_
    | with_reducible refine (Dev.sys_onMot _ _ _).trans ?_
    | with_reducible refine (Dev.sys_onGrp _ _ _).trans ?_
    | with_reducible refine (Dev.sys_each _ _ (fun d x => ?_) _).trans ?_)

theorem Dev.sys_zeroGrants (d : Dev) (g : GroupIx) : (d.zeroGrants g).sys = d.sys := by
  unfold Dev.zeroGrants
  repeat' (first
    | with_reducible rfl
    | with_reducible exact isSys_of_le (by first | omega | decide)
    | with_reducible exact isSysSrc_of_lt (by omega)
    | (show isSysSrc _ = false; decide)
    | split
    | with_reducible refine (Dev.sys_onGrp _ _ _).trans ?_
    | with_reducible refine (Dev.sys_enforceGrants _ _ _).trans ?_)

theorem Dev.sys_takeRequests (d : Dev) (g : GroupIx) : (d.takeRequests g).sys = d.sys := by
  unfold Dev.takeRequests
  try dsimp only
  repeat' (first
    | with_reducible rfl
    | with_reducible exact isSys_aGrp _ _ (by decide)
    | with_reducible exact isSys_of_le (by first | omega | decide)
    | with_reducible exact isSysSrc_of_lt (by omega)
    | (show isSysSrc _ = false; decide)
    | split
    | with_reducible refine (Dev.sys_setB _ _ _ ?_).trans ?_
    | with_reducible refine (Dev.sys_onMot _ _ _).trans ?_
    | with_reducible refine (Dev.sys_each _ _ (fun d x => ?_) _).trans ?_)

theorem Dev.sys_starve (d : Dev) (g j : Fin 4) (a : Ask) (grant : Nat) : (d.starve g j a grant).sys = d.sys := by
  unfold Dev.starve
  try dsimp only
  repeat' (first
    | with_reducible rfl
    | with_reducible exact isSys_of_le (by first | omega | decide | (simp only [aCba, aSlot]; omega))
    | with_reducible exact isSysSrc_of_lt (by omega)
    | (show isSysSrc _ = false; decide)
    | split
    | with_reducible refine (Dev.sys_inc _ _ ?_).trans ?_
    | with_reducible refine (Dev.sys_cause _ _ _ _ ?_ ?_).trans ?_
    | with_reducible refine (Dev.sys_onGrp _ _ _).trans ?_)

theorem Dev.sys_setRr (d : Dev) (g : GroupIx) (on : Bool) : (d.setRr g on).sys = d.sys := by
  unfold Dev.setRr
  try dsimp only
  repeat' (first
    | with_reducible rfl
    | with_reducible exact isSys_of_le (by first | omega | decide | (simp only [aMot]; omega))
    | with_reducible exact isSysSrc_of_lt (by omega)
    | (show isSysSrc _ = false; decide)
    | (show isSys _ = false; decide)
    | split
    | with_reducible refine (Dev.sys_putB _ _ _ _ ?_).trans ?_
    | with_reducible refine (Dev.sys_onGrp _ _ _).trans ?_)

theorem Dev.sys_setRrClr (d : Dev) (g : GroupIx) (t : Option Nat) : (d.setRrClr g t).sys = d.sys := by
  unfold Dev.setRrClr
  try dsimp only
  repeat' (first
    | with_reducible rfl
    | with_reducible exact isSys_of_le (by first | omega | decide | (simp only [aMot]; omega))
    | with_reducible exact isSysSrc_of_lt (by omega)
    | (show isSysSrc _ = false; decide)
    | (show isSys _ = false; decide)
    | split
    | with_reducible refine (Dev.sys_onGrp _ _ _).trans ?_)

theorem Dev.sys_syncRr (d : Dev) : (d.syncRr).sys = d.sys := by
  unfold Dev.syncRr
  try dsimp only
  repeat' (first
    | with_reducible rfl
    | with_reducible exact isSys_of_le (by first | omega | decide | (simp only [aMot]; omega))
    | with_reducible exact isSysSrc_of_lt (by omega)
    | (show isSysSrc _ = false; decide)
    | (show isSys _ = false; decide)
    | split
    | with_reducible refine (Dev.sys_each _ _ (fun x y => ?_) _).trans ?_
    | with_reducible refine (Dev.sys_setRrClr _ _ _).trans ?_
    | with_reducible refine (Dev.sys_setRr _ _ _).trans ?_)

theorem Dev.sys_rerateNow (d : Dev) : (d.rerateNow).sys = d.sys := by
  unfold Dev.rerateNow
  try dsimp only
  repeat' (first
    | with_reducible rfl
    | with_reducible exact isSys_of_le (by first | omega | decide | (simp only [aMot]; omega))
    | with_reducible exact isSysSrc_of_lt (by omega)
    | (show isSysSrc _ = false; decide)
    | (show isSys _ = false; decide)
    | split
    | with_reducible refine (Dev.sys_enforce0 _ _ _).trans ?_
    | with_reducible refine (Dev.sys_syncRr _).trans ?_)

theorem Dev.sys_grantPoint (d : Dev) (g : GroupIx) : (d.grantPoint g).sys = d.sys := by
  unfold Dev.grantPoint
  try dsimp only
  repeat' (first
    | with_reducible rfl
    | with_reducible exact isSys_of_le (by first | omega | decide | (simp only [aCba, aMot, aSup]; omega))
    | with_reducible exact isSysSrc_of_lt (by omega)
    | (show isSysSrc _ = false; decide)
    | (show isSys _ = false; decide)
    | split
    | with_reducible refine (Dev.sys_enforce0 _ _ _).trans ?_
    | with_reducible refine (Dev.sys_rerateNow _).trans ?_
    | with_reducible refine (Dev.sys_takeRequests _ _).trans ?_
    | with_reducible refine (Dev.sys_put _ _ _ ?_).trans ?_
    | with_reducible refine (Dev.sys_onGrp _ _ _).trans ?_
    | with_reducible refine (Dev.sys_cause _ _ _ _ ?_ ?_).trans ?_
    | with_reducible refine (Dev.sys_each _ _ (fun x y => ?_) _).trans ?_
    | with_reducible refine (Dev.sys_starve _ _ _ _ _).trans ?_)

theorem Dev.sys_grantOnce (d : Dev) (g : GroupIx) : (d.grantOnce g).sys = d.sys := by
  unfold Dev.grantOnce
  repeat' (first
    | with_reducible rfl
    | with_reducible exact isSys_of_le (by first | omega | decide)
    | with_reducible exact isSysSrc_of_lt (by omega)
    | (show isSysSrc _ = false; decide)
    | split
    | with_reducible refine (Dev.sys_onGrp _ _ _).trans ?_
    | with_reducible refine (Dev.sys_driveGroup _ _).trans ?_
    | with_reducible refine (Dev.sys_grantPoint _ _).trans ?_)

theorem Dev.sys_setBrk (d : Dev) (g : GroupIx) : (d.setBrk g).sys = d.sys := by
  unfold Dev.setBrk
  try dsimp only
  repeat' (first
    | with_reducible rfl
    | with_reducible exact isSys_of_le (by first | omega | decide | (simp only [aSup]; omega))
    | with_reducible exact isSysSrc_of_lt (by omega)
    | (show isSysSrc _ = false; decide)
    | split
    | with_reducible refine (Dev.sys_putB _ _ _ _ ?_).trans ?_
    | with_reducible refine (Dev.sys_onGrp _ _ _).trans ?_)

theorem Dev.sys_chopFault (d : Dev) (g : GroupIx) (bit : Nat) : (d.chopFault g bit).sys = d.sys := by
  unfold Dev.chopFault
  repeat' (first
    | with_reducible rfl
    | with_reducible exact isSys_of_le (by first | omega | decide | (simp only [aSup]; omega))
    | with_reducible exact isSysSrc_of_lt (by omega)
    | (show isSysSrc _ = false; decide)
    | split
    | with_reducible refine (Dev.sys_inc _ _ ?_).trans ?_
    | with_reducible refine (Dev.sys_cause _ _ _ _ ?_ ?_).trans ?_)

theorem Dev.sys_chopHold (d : Dev) (g : GroupIx) : (d.chopHold g).sys = d.sys := by
  unfold Dev.chopHold
  try dsimp only
  repeat' (first
    | with_reducible rfl
    | with_reducible exact isSys_of_le (by first | omega | decide | (simp only [aSup]; omega))
    | with_reducible exact isSysSrc_of_lt (by omega)
    | (show isSysSrc _ = false; decide)
    | split
    | with_reducible refine (Dev.sys_orW _ _ _ ?_).trans ?_)

theorem Dev.sys_setLevel (d : Dev) (g : GroupIx) (new : Nat) : (d.setLevel g new).sys = d.sys := by
  unfold Dev.setLevel
  try dsimp only
  repeat' (first
    | with_reducible rfl
    | with_reducible exact isSys_of_le (by first | omega | decide | (simp only [aSup]; omega))
    | with_reducible exact isSysSrc_of_lt (by omega)
    | (show isSysSrc _ = false; decide)
    | split
    | with_reducible refine (Dev.sys_putF _ _ _ _ _ ?_).trans ?_
    | with_reducible refine (Dev.sys_inc _ _ ?_).trans ?_
    | with_reducible refine (Dev.sys_cause _ _ _ _ ?_ ?_).trans ?_
    | with_reducible refine (Dev.sys_onGrp _ _ _).trans ?_
    | with_reducible refine (Dev.sys_driveGroup _ _).trans ?_
    | with_reducible refine (Dev.sys_setBrk _ _).trans ?_
    | with_reducible refine (Dev.sys_chopFault _ _ _).trans ?_)

theorem Dev.sys_supEvaluate (d : Dev) (g : GroupIx) (v : Nat) : (d.supEvaluate g v).sys = d.sys := by
  unfold Dev.supEvaluate
  try dsimp only
  repeat' (first
    | with_reducible rfl
    | with_reducible exact isSys_of_le (by first | omega | decide | (simp only [aMot, aSup]; omega))
    | with_reducible exact isSysSrc_of_lt (by omega)
    | (show isSysSrc _ = false; decide)
    | (show isSys _ = false; decide)
    | split
    | with_reducible refine (Dev.sys_enforce _ _ _).trans ?_
    | with_reducible refine (Dev.sys_onGrp _ _ _).trans ?_
    | with_reducible refine (Dev.sys_putB _ _ _ _ ?_).trans ?_
    | with_reducible refine (Dev.sys_cause _ _ _ _ ?_ ?_).trans ?_
    | with_reducible refine (Dev.sys_setLevel _ _ _).trans ?_
    | with_reducible refine (Dev.sys_driveGroup _ _).trans ?_)

theorem Dev.sys_busTrip (d : Dev) (g : GroupIx) : (d.busTrip g).sys = d.sys := by
  unfold Dev.busTrip
  repeat' (first
    | with_reducible rfl
    | with_reducible exact isSys_of_le (by first | omega | decide | (simp only [aSup]; omega))
    | with_reducible exact isSysSrc_of_lt (by omega)
    | (show isSysSrc _ = false; decide)
    | split
    | with_reducible refine (Dev.sys_cause _ _ _ _ ?_ ?_).trans ?_
    | with_reducible refine (Dev.sys_onGrp _ _ _).trans ?_
    | with_reducible refine (Dev.sys_setLevel _ _ _).trans ?_)

theorem Dev.sys_supFrame (d : Dev) (g : GroupIx) (whole : Bool) : (d.supFrame g whole).sys = d.sys := by
  unfold Dev.supFrame
  try dsimp only
  repeat' (first
    | with_reducible rfl
    | with_reducible exact isSys_of_le (by first | omega | decide | (simp only [aSup]; omega))
    | with_reducible exact isSysSrc_of_lt (by omega)
    | (show isSysSrc _ = false; decide)
    | split
    | with_reducible refine (Dev.sys_put _ _ _ ?_).trans ?_
    | with_reducible refine (Dev.sys_putB _ _ _ _ ?_).trans ?_
    | with_reducible refine (Dev.sys_cause _ _ _ _ ?_ ?_).trans ?_
    | with_reducible refine (Dev.sys_onGrp _ _ _).trans ?_)

theorem Dev.sys_supInvalid (d : Dev) (g : GroupIx) : (d.supInvalid g).sys = d.sys := by
  unfold Dev.supInvalid
  try dsimp only
  repeat' (first
    | with_reducible rfl
    | with_reducible exact isSys_of_le (by first | omega | decide | (simp only [aSup]; omega))
    | with_reducible exact isSysSrc_of_lt (by omega)
    | (show isSysSrc _ = false; decide)
    | split
    | with_reducible refine (Dev.sys_put _ _ _ ?_).trans ?_
    | with_reducible refine (Dev.sys_putB _ _ _ _ ?_).trans ?_
    | with_reducible refine (Dev.sys_onGrp _ _ _).trans ?_
    | with_reducible refine (Dev.sys_setLevel _ _ _).trans ?_)

theorem Dev.sys_writeChk (d : Dev) (v : Word) : (d.writeChk v).sys = d.sys := by
  unfold Dev.writeChk
  try dsimp only
  repeat' (first
    | with_reducible rfl
    | with_reducible exact isSys_of_le (by first | omega | decide)
    | with_reducible exact isSysSrc_of_lt (by omega)
    | (show isSysSrc _ = false; decide)
    | split
    | with_reducible refine (Dev.sys_put _ _ _ ?_).trans ?_)

theorem Dev.sys_endCheck (d : Dev) (m : MotorIx) : (d.endCheck m).sys = d.sys := by
  unfold Dev.endCheck
  try dsimp only
  repeat' (first
    | with_reducible rfl
    | with_reducible exact isSys_of_le (by first | omega | decide)
    | with_reducible exact isSysSrc_of_lt (by omega)
    | (show isSysSrc _ = false; decide)
    | split
    | with_reducible refine (Dev.sys_putF _ _ _ _ _ ?_).trans ?_)

theorem Dev.sys_settleOut (d : Dev) (m : MotorIx) : (d.settleOut m).sys = d.sys := by
  unfold Dev.settleOut
  try dsimp only
  repeat' (first
    | with_reducible rfl
    | with_reducible exact isSys_of_le (by first | omega | decide | (simp only [aCur, aMot]; omega))
    | with_reducible exact isSysSrc_of_lt (by omega)
    | (show isSysSrc _ = false; decide)
    | (show isSys _ = false; decide)
    | split
    | with_reducible refine (Dev.sys_putB _ _ _ _ ?_).trans ?_
    | with_reducible refine (Dev.sys_each _ _ (fun x y => ?_) _).trans ?_)

theorem Dev.sys_enforceGlint (d : Dev) (m : MotorIx) : (d.enforceGlint m).sys = d.sys := by
  unfold Dev.enforceGlint
  try dsimp only
  repeat' (first
    | with_reducible rfl
    | with_reducible exact isSys_of_le (by first | omega | decide | (simp only [aCur, aMot, aSlot]; omega))
    | with_reducible exact isSysSrc_of_lt (by omega)
    | (show isSysSrc _ = false; decide)
    | (show isSys _ = false; decide)
    | split
    | with_reducible refine (Dev.sys_settleOut _ _).trans ?_
    | with_reducible refine (Dev.sys_enforce _ _ _).trans ?_)

theorem Dev.sys_phaseLevel (d : Dev) (m : MotorIx) (ph : Fin 3) (x : Int) : (d.phaseLevel m ph x).sys = d.sys := by
  unfold Dev.phaseLevel
  try dsimp only
  repeat' (first
    | with_reducible rfl
    | with_reducible exact isSys_of_le (by first | omega | decide | (simp only [aCur, aMot]; omega))
    | with_reducible exact isSysSrc_of_lt (by omega)
    | (show isSysSrc _ = false; decide)
    | (show isSys _ = false; decide)
    | split
    | with_reducible refine (Dev.sys_settleOut _ _).trans ?_
    | with_reducible refine (Dev.sys_putB _ _ _ _ ?_).trans ?_
    | with_reducible refine (Dev.sys_onMot _ _ _).trans ?_
    | with_reducible refine (Dev.sys_when _ _ _ (fun x => ?_)).trans ?_
    | with_reducible refine (Dev.sys_setB _ _ _ ?_).trans ?_)

theorem Dev.sys_phaseSample (d : Dev) (m : MotorIx) (u v w : Int) : (d.phaseSample m u v w).sys = d.sys := by
  unfold Dev.phaseSample
  try dsimp only
  repeat' (first
    | with_reducible rfl
    | with_reducible exact isSys_of_le (by first | omega | decide)
    | with_reducible exact isSysSrc_of_lt (by omega)
    | (show isSysSrc _ = false; decide)
    | split
    | with_reducible refine (Dev.sys_nextFree _).trans ?_
    | with_reducible refine (Dev.sys_when _ _ _ (fun d => ?_)).trans ?_
    | with_reducible refine (Dev.sys_phaseLevel _ _ _ _).trans ?_)

theorem Dev.sys_judgeLimit (d : Dev) (m : MotorIx) : (d.judgeLimit m).sys = d.sys := by
  unfold Dev.judgeLimit
  try dsimp only
  repeat' (first
    | with_reducible rfl
    | with_reducible exact isSys_of_le (by first | omega | decide | (simp only [aCur]; omega))
    | with_reducible exact isSysSrc_of_lt (by omega)
    | (show isSysSrc _ = false; decide)
    | split
    | with_reducible refine (Dev.sys_setB _ _ _ ?_).trans ?_
    | with_reducible refine (Dev.sys_inc _ _ ?_).trans ?_
    | with_reducible refine (Dev.sys_onMot _ _ _).trans ?_
    | with_reducible refine (Dev.sys_drive _ _).trans ?_)

theorem Dev.sys_clearGlint (d : Dev) (g : GroupIx) : (d.clearGlint g).sys = d.sys := by
  unfold Dev.clearGlint
  try dsimp only
  repeat' (first
    | with_reducible rfl
    | with_reducible exact isSys_of_le (by first | omega | decide | (simp only [aCur, aBus]; omega))
    | with_reducible exact isSysSrc_of_lt (by omega)
    | (show isSysSrc _ = false; decide)
    | split
    | with_reducible refine (Dev.sys_put _ _ _ ?_).trans ?_
    | with_reducible refine (Dev.sys_cause _ _ _ _ ?_ ?_).trans ?_
    | with_reducible refine (Dev.sys_onMot _ _ _).trans ?_
    | with_reducible refine (Dev.sys_each _ _ (fun d x => ?_) _).trans ?_
    | with_reducible refine (Dev.sys_with_reports _ _).trans ?_)

theorem Dev.sys_syncHshort (d : Dev) (m : MotorIx) : (d.syncHshort m).sys = d.sys := by
  unfold Dev.syncHshort
  try dsimp only
  repeat' (first
    | with_reducible rfl
    | with_reducible exact isSys_of_le (by first | omega | decide | (simp only [aCur]; omega))
    | with_reducible exact isSysSrc_of_lt (by omega)
    | (show isSysSrc _ = false; decide)
    | split
    | with_reducible refine (Dev.sys_onMot _ _ _).trans ?_)

theorem Dev.sys_powerDown (d : Dev) (p : GroupIx) (ticks : Nat) : (d.powerDown p ticks).sys = d.sys := by
  unfold Dev.powerDown
  repeat' (first
    | with_reducible rfl
    | with_reducible exact isSys_of_le (by first | omega | decide | (simp only [aPrm]; omega))
    | with_reducible exact isSysSrc_of_lt (by omega)
    | (show isSysSrc _ = false; decide)
    | split
    | with_reducible refine (Dev.sys_onPrm _ _ _).trans ?_)

theorem Dev.sys_reach (n : Nat) (d : Dev) (p : GroupIx) (i : Nat) : (Dev.reach n d p i).sys = d.sys := by
  induction n generalizing d i with
  | zero => rfl
  | succ n ih =>
    unfold Dev.reach
    dsimp only
    split
    · rfl
    · split
      · exact (Dev.sys_powerDown _ _ _).trans rfl
      · rfl
    · exact (Dev.sys_powerDown _ _ _).trans rfl
    · split
      · exact (Dev.sys_powerDown _ _ _).trans rfl
      · exact (ih _ _).trans rfl


theorem Dev.sys_restartSeq (d : Dev) (p : GroupIx) : (d.restartSeq p).sys = d.sys := rfl


theorem Dev.sys_nextEntry (d : Dev) (p : GroupIx) : (d.nextEntry p).sys = d.sys := by
  unfold Dev.nextEntry
  dsimp only
  split
  · rfl
  · split
    · exact (Dev.sys_powerDown _ _ _).trans rfl
    · rfl


theorem Dev.sys_startSeq (d : Dev) (p : GroupIx) : (d.startSeq p).sys = d.sys := by
  unfold Dev.startSeq
  repeat' (first
    | with_reducible rfl
    | with_reducible exact isSys_of_le (by first | omega | decide)
    | with_reducible exact isSysSrc_of_lt (by omega)
    | (show isSysSrc _ = false; decide)
    | split
    | with_reducible refine (Dev.sys_onPrm _ _ _).trans ?_
    | with_reducible refine (Dev.sys_restartSeq _ _).trans ?_)

theorem Dev.sys_issue (d : Dev) (p : GroupIx) (ch acc : Nat) (seqEntry : Bool) (samples : Nat) : (d.issue p ch acc seqEntry samples).sys = d.sys := by
  unfold Dev.issue
  try dsimp only
  repeat' (first
    | with_reducible rfl
    | with_reducible exact isSys_of_le (by first | omega | decide)
    | with_reducible exact isSysSrc_of_lt (by omega)
    | (show isSysSrc _ = false; decide)
    | split
    | with_reducible refine (Dev.sys_onPrm _ _ _).trans ?_)

theorem Dev.sys_slot (d : Dev) (p : GroupIx) : (d.slot p).sys = d.sys := by
  unfold Dev.slot
  dsimp only
  repeat' (first
    | with_reducible rfl
    | split
    | with_reducible refine (Dev.sys_onPrm _ _ _).trans ?_
    | with_reducible refine (Dev.sys_nextEntry _ _).trans ?_
    | with_reducible refine (Dev.sys_issue _ _ _ _ _ _).trans ?_
    | with_reducible refine (Dev.sys_reach _ _ _ _).trans ?_)


theorem Dev.sys_newCount (d : Dev) (p : GroupIx) (a : Fin 64) : (d.newCount p a).sys = d.sys := by
  unfold Dev.newCount
  try dsimp only
  repeat' (first
    | with_reducible rfl
    | with_reducible exact isSys_of_le (by first | omega | decide | (simp only [aAcc, aPrm]; omega))
    | with_reducible exact isSysSrc_of_lt (by omega)
    | (show isSysSrc _ = false; decide)
    | split
    | with_reducible refine (Dev.sys_onPrm _ _ _).trans ?_
    | with_reducible refine (Dev.sys_onAcc _ _ _ _).trans ?_
    | with_reducible refine (Dev.sys_each _ _ (fun d x => ?_) _).trans ?_)

theorem Dev.sys_restartTrk (d : Dev) (p : GroupIx) (t : Fin 32) : (d.restartTrk p t).sys = d.sys := by
  unfold Dev.restartTrk
  try dsimp only
  repeat' (first
    | with_reducible rfl
    | with_reducible exact isSys_of_le (by first | omega | decide | (simp only [aTrk, aPrm]; omega))
    | with_reducible exact isSysSrc_of_lt (by omega)
    | (show isSysSrc _ = false; decide)
    | split
    | with_reducible refine (Dev.sys_put _ _ _ ?_).trans ?_
    | with_reducible refine (Dev.sys_onPrm _ _ _).trans ?_)

theorem Dev.sys_showTrk (d : Dev) (p : GroupIx) (t : Fin 32) : (d.showTrk p t).sys = d.sys := by
  unfold Dev.showTrk
  try dsimp only
  repeat' (first
    | with_reducible rfl
    | with_reducible exact isSys_of_le (by first | omega | decide | (simp only [aTrk, aPrm]; omega))
    | with_reducible exact isSysSrc_of_lt (by omega)
    | (show isSysSrc _ = false; decide)
    | split
    | with_reducible refine (Dev.sys_put _ _ _ ?_).trans ?_)

theorem Dev.sys_watch (d : Dev) (p : GroupIx) (a : Fin 64) (y : Int) : (d.watch p a y).sys = d.sys := by
  unfold Dev.watch
  try dsimp only
  repeat' (first
    | with_reducible rfl
    | with_reducible exact isSys_of_le (by first | omega | decide)
    | with_reducible exact isSysSrc_of_lt (by omega)
    | (show isSysSrc _ = false; decide)
    | split
    | with_reducible refine (Dev.sys_onPrm _ _ _).trans ?_
    | with_reducible refine (Dev.sys_each _ _ (fun d x => ?_) _).trans ?_
    | with_reducible refine (Dev.sys_showTrk _ _ _).trans ?_)

theorem Dev.sys_closeCount (d : Dev) (p : GroupIx) (a : Fin 64) (late : Bool) : (d.closeCount p a late).sys = d.sys := by
  unfold Dev.closeCount
  try dsimp only
  repeat' (first
    | with_reducible rfl
    | with_reducible exact isSys_aGrp _ _ (by decide)
    | with_reducible exact isSys_of_le (by first | omega | decide | (simp only [aPrm, aAcc, aTrk]; omega))
    | with_reducible exact isSysSrc_of_lt (by omega)
    | (show isSysSrc _ = false; decide)
    | split
    | with_reducible refine (Dev.sys_put _ _ _ ?_).trans ?_
    | with_reducible refine (Dev.sys_setB _ _ _ ?_).trans ?_
    | with_reducible refine (Dev.sys_cause _ _ _ _ ?_ ?_).trans ?_
    | with_reducible refine (Dev.sys_onPrm _ _ _).trans ?_
    | with_reducible refine (Dev.sys_onAcc _ _ _ _).trans ?_
    | with_reducible refine (Dev.sys_each _ _ (fun d x => ?_) _).trans ?_
    | with_reducible refine (Dev.sys_when _ _ _ (fun d => ?_)).trans ?_
    | with_reducible refine (Dev.sys_newCount _ _ _).trans ?_
    | with_reducible refine (Dev.sys_showTrk _ _ _).trans ?_)

theorem Dev.sys_discardPartial (d : Dev) (p : GroupIx) : (d.discardPartial p).sys = d.sys := by
  unfold Dev.discardPartial
  try dsimp only
  repeat' (first
    | with_reducible rfl
    | with_reducible exact isSys_of_le (by first | omega | decide)
    | with_reducible exact isSysSrc_of_lt (by omega)
    | (show isSysSrc _ = false; decide)
    | split
    | with_reducible refine (Dev.sys_onPrm _ _ _).trans ?_
    | with_reducible refine (Dev.sys_each _ _ (fun d x => ?_) _).trans ?_
    | with_reducible refine (Dev.sys_newCount _ _ _).trans ?_)

theorem Dev.sys_restartTrks (d : Dev) (p : GroupIx) : (d.restartTrks p).sys = d.sys := by
  unfold Dev.restartTrks
  repeat' (first
    | with_reducible rfl
    | with_reducible exact isSys_of_le (by first | omega | decide)
    | with_reducible exact isSysSrc_of_lt (by omega)
    | (show isSysSrc _ = false; decide)
    | split
    | with_reducible refine (Dev.sys_each _ _ (fun d x => ?_) _).trans ?_
    | with_reducible refine (Dev.sys_restartTrk _ _ _).trans ?_)

theorem Dev.sys_resumeSeq (d : Dev) (p : GroupIx) : (d.resumeSeq p).sys = d.sys := by
  unfold Dev.resumeSeq
  repeat' (first
    | with_reducible rfl
    | with_reducible exact isSys_of_le (by first | omega | decide | (simp only [aPrm]; omega))
    | with_reducible exact isSysSrc_of_lt (by omega)
    | (show isSysSrc _ = false; decide)
    | split
    | with_reducible refine (Dev.sys_onPrm _ _ _).trans ?_
    | with_reducible refine (Dev.sys_startSeq _ _).trans ?_)

theorem Dev.sys_judgeAcc (d : Dev) (p : GroupIx) (a : Fin 64) : (d.judgeAcc p a).sys = d.sys := by
  unfold Dev.judgeAcc
  try dsimp only
  repeat' (first
    | with_reducible rfl
    | with_reducible exact isSys_aGrp _ _ (by decide)
    | with_reducible exact isSys_of_le (by first | omega | decide | (simp only [aPrm]; omega))
    | with_reducible exact isSysSrc_of_lt (by omega)
    | (show isSysSrc _ = false; decide)
    | split
    | with_reducible refine (Dev.sys_setB _ _ _ ?_).trans ?_
    | with_reducible refine (Dev.sys_inc _ _ ?_).trans ?_
    | with_reducible refine (Dev.sys_cause _ _ _ _ ?_ ?_).trans ?_
    | with_reducible refine (Dev.sys_each _ _ (fun d x => ?_) _).trans ?_
    | with_reducible refine (Dev.sys_when _ _ _ (fun d => ?_)).trans ?_)

theorem Dev.sys_accFrame (d : Dev) (p : GroupIx) (ended : Bool) : (d.accFrame p ended).sys = d.sys := by
  unfold Dev.accFrame
  try dsimp only
  repeat' (first
    | with_reducible rfl
    | with_reducible exact isSys_of_le (by first | omega | decide | (simp only [aAcc, aPrm]; omega))
    | with_reducible exact isSysSrc_of_lt (by omega)
    | (show isSysSrc _ = false; decide)
    | split
    | with_reducible refine (Dev.sys_onAcc _ _ _ _).trans ?_
    | with_reducible refine (Dev.sys_each _ _ (fun d x => ?_) _).trans ?_
    | with_reducible refine (Dev.sys_when _ _ _ (fun d => ?_)).trans ?_
    | with_reducible refine (Dev.sys_newCount _ _ _).trans ?_
    | with_reducible refine (Dev.sys_judgeAcc _ _ _).trans ?_)

theorem Dev.sys_seqFrame (d : Dev) (p : GroupIx) : (d.seqFrame p).sys = d.sys := by
  unfold Dev.seqFrame
  try dsimp only
  repeat' (first
    | with_reducible rfl
    | with_reducible exact isSys_of_le (by first | omega | decide | (simp only [aPrm]; omega))
    | with_reducible exact isSysSrc_of_lt (by omega)
    | (show isSysSrc _ = false; decide)
    | split
    | with_reducible refine (Dev.sys_inc _ _ ?_).trans ?_
    | with_reducible refine (Dev.sys_cause _ _ _ _ ?_ ?_).trans ?_
    | with_reducible refine (Dev.sys_restartSeq _ _).trans ?_)

theorem Dev.sys_updateSlice (d : Dev) (p : GroupIx) (s : Fin 4) (og : Bool) : (d.updateSlice p s og).1.sys = d.sys := by
  have ha : ∀ o, isSys (aPrm p o) = false := fun o => isSys_of_le (by simp only [aPrm]; omega)
  have hp : ∀ (x : Dev) o v, (x.put (aPrm p o) v).sys = x.sys := fun x o v => Dev.sys_put _ _ _ (ha o)
  unfold Dev.updateSlice
  dsimp only
  repeat' (first
    | with_reducible rfl
    | with_reducible exact Dev.sys_nextFree _
    | split
    | with_reducible refine (hp _ _ _).trans ?_)

theorem Dev.sys_coefUpdate (d : Dev) (p : GroupIx) : (d.coefUpdate p).sys = d.sys := by
  have ha : ∀ o, isSys (aPrm p o) = false := fun o => isSys_of_le (by simp only [aPrm]; omega)
  have hp : ∀ (x : Dev) o v, (x.put (aPrm p o) v).sys = x.sys := fun x o v => Dev.sys_put _ _ _ (ha o)
  have hf : ∀ (l : List (Fin 4)) (og : Bool) (x : Dev) (b : Bool),
      (l.foldl (fun (acc : Dev × Bool) s => ((acc.1.updateSlice p s og).1, acc.2 || (acc.1.updateSlice p s og).2)) (x, b)).1.sys
        = x.sys := by
    intro l og
    induction l with
    | nil => intro x b; rfl
    | cons a t ih => intro x b; exact (ih _ _).trans (Dev.sys_updateSlice _ _ _ _)
  unfold Dev.coefUpdate
  dsimp only
  generalize hq : (if d.bit (aPrm p 0) 5 then (d, false) else _ : Dev × Bool) = q
  have e : q.1.sys = d.sys := by
    rw [← hq]; split
    · rfl
    · exact hf _ _ _ _
  refine (Dev.sys_onPrm _ _ _).trans ?_
  split
  · exact (Dev.sys_cause _ _ _ _ (ha _) (isSysSrc_of_lt (by have := p.2; omega))).trans ((hp _ _ _).trans ((hp _ _ _).trans e))
  · exact (hp _ _ _).trans ((hp _ _ _).trans e)


theorem Dev.sys_loadCoefs (d : Dev) : (d.loadCoefs).sys = d.sys := by
  unfold Dev.loadCoefs
  try dsimp only
  repeat' (first
    | with_reducible rfl
    | with_reducible exact isSys_of_le (by first | omega | decide | (simp only [aPrm]; omega))
    | with_reducible exact isSysSrc_of_lt (by omega)
    | (show isSysSrc _ = false; decide)
    | split
    | with_reducible refine (Dev.sys_put _ _ _ ?_).trans ?_
    | with_reducible refine (Dev.sys_each _ _ (fun d x => ?_) _).trans ?_)

theorem Dev.sys_urgent (d : Dev) (p : GroupIx) (v : Word) : (d.urgent p v).sys = d.sys := by
  unfold Dev.urgent
  repeat' (first
    | with_reducible rfl
    | with_reducible exact isSys_of_le (by first | omega | decide | (simp only [aPrm]; omega))
    | with_reducible exact isSysSrc_of_lt (by omega)
    | (show isSysSrc _ = false; decide)
    | split
    | with_reducible refine (Dev.sys_cause _ _ _ _ ?_ ?_).trans ?_
    | with_reducible refine (Dev.sys_onPrm _ _ _).trans ?_)

theorem Dev.sys_dropLate (d : Dev) (p : GroupIx) : (d.dropLate p).sys = d.sys := rfl

theorem Dev.sys_initPrism (d : Dev) (p : GroupIx) : (d.initPrism p).sys = d.sys := by
  unfold Dev.initPrism
  try dsimp only
  repeat' (first
    | with_reducible rfl
    | with_reducible exact isSys_of_le (by first | omega | decide | (simp only [aAcc, aPrm]; omega))
    | with_reducible exact isSysSrc_of_lt (by omega)
    | (show isSysSrc _ = false; decide)
    | split
    | with_reducible refine (Dev.sys_put _ _ _ ?_).trans ?_
    | with_reducible refine (Dev.sys_onPrm _ _ _).trans ?_
    | with_reducible refine (Dev.sys_dropLate _ _).trans ?_
    | with_reducible refine (Dev.sys_onAcc _ _ _ _).trans ?_
    | with_reducible refine (Dev.sys_each _ _ (fun d x => ?_) _).trans ?_
    | with_reducible refine (Dev.sys_restartTrks _ _).trans ?_)

theorem Dev.sys_fbCause (d : Dev) (f : ChanIx) (bit : Nat) : (d.fbCause f bit).sys = d.sys := by
  unfold Dev.fbCause
  repeat' (first
    | with_reducible rfl
    | with_reducible exact isSys_of_le (by first | omega | decide | (simp only [aFb]; omega))
    | with_reducible exact isSysSrc_of_lt (by omega)
    | (show isSysSrc _ = false; decide)
    | split
    | with_reducible refine (Dev.sys_cause _ _ _ _ ?_ ?_).trans ?_)

theorem Dev.sys_putSpd (d : Dev) (f : ChanIx) (v : Int) : (d.putSpd f v).sys = d.sys := by
  unfold Dev.putSpd
  repeat' (first
    | with_reducible rfl
    | with_reducible exact isSys_of_le (by first | omega | decide | (simp only [aFb]; omega))
    | with_reducible exact isSysSrc_of_lt (by omega)
    | (show isSysSrc _ = false; decide)
    | split
    | with_reducible refine (Dev.sys_put32 _ _ _ ?_ ?_).trans ?_)

theorem Dev.sys_putSpdv (d : Dev) (f : ChanIx) (b : Bool) : (d.putSpdv f b).sys = d.sys := by
  unfold Dev.putSpdv
  repeat' (first
    | with_reducible rfl
    | with_reducible exact isSys_of_le (by first | omega | decide | (simp only [aFb]; omega))
    | with_reducible exact isSysSrc_of_lt (by omega)
    | (show isSysSrc _ = false; decide)
    | split
    | with_reducible refine (Dev.sys_putB _ _ _ _ ?_).trans ?_)

theorem Dev.sys_dropSpeed (d : Dev) (f : ChanIx) : (d.dropSpeed f).sys = d.sys := by
  unfold Dev.dropSpeed
  repeat' (first
    | with_reducible rfl
    | with_reducible exact isSys_of_le (by first | omega | decide)
    | with_reducible exact isSysSrc_of_lt (by omega)
    | (show isSysSrc _ = false; decide)
    | split
    | with_reducible refine (Dev.sys_onFb _ _ _).trans ?_
    | with_reducible refine (Dev.sys_putSpd _ _ _).trans ?_
    | with_reducible refine (Dev.sys_putSpdv _ _ _).trans ?_)

theorem Dev.sys_distPulse (d : Dev) : (d.distPulse).sys = d.sys := by
  unfold Dev.distPulse
  try dsimp only
  repeat' (first
    | with_reducible rfl
    | with_reducible exact isSys_of_le (by first | omega | decide)
    | with_reducible exact isSysSrc_of_lt (by omega)
    | (show isSysSrc _ = false; decide)
    | split
    | with_reducible refine (Dev.sys_put32 _ _ _ ?_ ?_).trans ?_
    | with_reducible refine (Dev.sys_with_dist _ _).trans ?_)

theorem Dev.sys_distDue (d : Dev) (n : Nat) : (d.distDue n).sys = d.sys := by
  unfold Dev.distDue
  try dsimp only
  repeat' (first
    | with_reducible rfl
    | with_reducible exact isSys_of_le (by first | omega | decide)
    | with_reducible exact isSysSrc_of_lt (by omega)
    | (show isSysSrc _ = false; decide)
    | split
    | with_reducible refine (Dev.sys_putF _ _ _ _ _ ?_).trans ?_
    | with_reducible refine (Dev.sys_orW _ _ _ ?_).trans ?_
    | with_reducible refine (Dev.sys_addSat _ _ _ _ _ ?_).trans ?_
    | with_reducible refine (Dev.sys_put32 _ _ _ ?_ ?_).trans ?_
    | with_reducible refine (Dev.sys_raiseN _ _ _ ?_).trans ?_
    | with_reducible refine (Dev.sys_distPulse _).trans ?_)

theorem Dev.sys_distUnits (d : Dev) (f : ChanIx) (n : Nat) : (d.distUnits f n).sys = d.sys := by
  unfold Dev.distUnits
  dsimp only
  generalize (if 24 ≤ d.fld 0xA308 12 8 then 0 else d.fld 0xA308 12 8) = s
  split
  · exact (Dev.sys_distDue _ _).trans rfl
  · rfl


theorem Dev.sys_enforceFb (d : Dev) (f : ChanIx) : (d.enforceFb f).sys = d.sys := by
  unfold Dev.enforceFb
  repeat' (first
    | with_reducible rfl
    | with_reducible exact isSys_of_le (by first | omega | decide | (simp only [aFb]; omega))
    | with_reducible exact isSysSrc_of_lt (by omega)
    | (show isSysSrc _ = false; decide)
    | split
    | with_reducible refine (Dev.sys_enforce _ _ _).trans ?_
    | with_reducible refine (Dev.sys_when _ _ _ (fun d => ?_)).trans ?_)

theorem Dev.sys_countEdge (d : Dev) (f : ChanIx) (neg : Bool) : (d.countEdge f neg).sys = d.sys := by
  unfold Dev.countEdge
  try dsimp only
  repeat' (first
    | with_reducible rfl
    | with_reducible exact isSys_of_le (by first | omega | decide | (simp only [aFb]; omega))
    | with_reducible exact isSysSrc_of_lt (by omega)
    | (show isSysSrc _ = false; decide)
    | split
    | with_reducible refine (Dev.sys_putB _ _ _ _ ?_).trans ?_
    | with_reducible refine (Dev.sys_put32 _ _ _ ?_ ?_).trans ?_
    | with_reducible refine (Dev.sys_onFb _ _ _).trans ?_
    | with_reducible refine (Dev.sys_putSpd _ _ _).trans ?_
    | with_reducible refine (Dev.sys_putSpdv _ _ _).trans ?_
    | with_reducible refine (Dev.sys_distUnits _ _ _).trans ?_
    | with_reducible refine (Dev.sys_enforceFb _ _).trans ?_)

theorem Dev.sys_feedbackEdge (d : Dev) (f : ChanIx) (ball : Ball) (bHigh : Bool) : (d.feedbackEdge f ball bHigh).sys = d.sys := by
  unfold Dev.feedbackEdge
  try dsimp only
  repeat' (first
    | with_reducible rfl
    | with_reducible exact isSys_of_le (by first | omega | decide | (simp only [aFb]; omega))
    | with_reducible exact isSysSrc_of_lt (by omega)
    | (show isSysSrc _ = false; decide)
    | split
    | with_reducible refine (Dev.sys_inc _ _ ?_).trans ?_
    | with_reducible refine (Dev.sys_fbCause _ _ _).trans ?_
    | with_reducible refine (Dev.sys_countEdge _ _ _).trans ?_)

theorem Dev.sys_speedDecay (d : Dev) (f : ChanIx) : (d.speedDecay f).sys = d.sys := by
  unfold Dev.speedDecay
  try dsimp only
  repeat' (first
    | with_reducible rfl
    | with_reducible exact isSys_of_le (by first | omega | decide)
    | with_reducible exact isSysSrc_of_lt (by omega)
    | (show isSysSrc _ = false; decide)
    | split
    | with_reducible refine (Dev.sys_putSpd _ _ _).trans ?_)

theorem Dev.sys_zeroSpeed (d : Dev) (f : ChanIx) : (d.zeroSpeed f).sys = d.sys := by
  unfold Dev.zeroSpeed
  try dsimp only
  repeat' (first
    | with_reducible rfl
    | with_reducible exact isSys_of_le (by first | omega | decide | (simp only [aFb]; omega))
    | with_reducible exact isSysSrc_of_lt (by omega)
    | (show isSysSrc _ = false; decide)
    | split
    | with_reducible refine (Dev.sys_putB _ _ _ _ ?_).trans ?_
    | with_reducible refine (Dev.sys_onFb _ _ _).trans ?_
    | with_reducible refine (Dev.sys_putSpd _ _ _).trans ?_)

theorem Dev.sys_seedPos (d : Dev) (f : ChanIx) : (d.seedPos f).sys = d.sys := by
  unfold Dev.seedPos
  try dsimp only
  repeat' (first
    | with_reducible rfl
    | with_reducible exact isSys_of_le (by first | omega | decide | (simp only [aFb]; omega))
    | with_reducible exact isSysSrc_of_lt (by omega)
    | (show isSysSrc _ = false; decide)
    | split
    | with_reducible refine (Dev.sys_put32 _ _ _ ?_ ?_).trans ?_)

theorem Dev.sys_enterFallback (d : Dev) (f : ChanIx) (w : Option (BitVec 32)) : (d.enterFallback f w).sys = d.sys := by
  unfold Dev.enterFallback
  try dsimp only
  repeat' (first
    | with_reducible rfl
    | with_reducible exact isSys_of_le (by first | omega | decide | (simp only [aFb]; omega))
    | with_reducible exact isSysSrc_of_lt (by omega)
    | (show isSysSrc _ = false; decide)
    | split
    | with_reducible refine (Dev.sys_putB _ _ _ _ ?_).trans ?_
    | with_reducible refine (Dev.sys_put32 _ _ _ ?_ ?_).trans ?_
    | with_reducible refine (Dev.sys_onFb _ _ _).trans ?_
    | with_reducible refine (Dev.sys_motCause _ _ _).trans ?_
    | with_reducible refine (Dev.sys_fbCause _ _ _).trans ?_
    | with_reducible refine (Dev.sys_dropSpeed _ _).trans ?_)

theorem Dev.sys_glitch (d : Dev) (f : ChanIx) : (d.glitch f).sys = d.sys := by
  unfold Dev.glitch
  try dsimp only
  repeat' (first
    | with_reducible rfl
    | with_reducible exact isSys_of_le (by first | omega | decide | (simp only [aFb]; omega))
    | with_reducible exact isSysSrc_of_lt (by omega)
    | (show isSysSrc _ = false; decide)
    | split
    | with_reducible refine (Dev.sys_inc _ _ ?_).trans ?_
    | with_reducible refine (Dev.sys_onFb _ _ _).trans ?_
    | with_reducible refine (Dev.sys_fbCause _ _ _).trans ?_
    | with_reducible refine (Dev.sys_enterFallback _ _ _).trans ?_)

theorem Dev.sys_fbCopy (d : Dev) (f : ChanIx) : (d.fbCopy f).sys = d.sys := by
  unfold Dev.fbCopy
  try dsimp only
  repeat' (first
    | with_reducible rfl
    | with_reducible exact isSys_of_le (by first | omega | decide | (simp only [aFb]; omega))
    | with_reducible exact isSysSrc_of_lt (by omega)
    | (show isSysSrc _ = false; decide)
    | split
    | with_reducible refine (Dev.sys_put32 _ _ _ ?_ ?_).trans ?_
    | with_reducible refine (Dev.sys_onFb _ _ _).trans ?_)

theorem Dev.sys_fbCopyStopped (d : Dev) (f : ChanIx) : (d.fbCopyStopped f).sys = d.sys := by
  unfold Dev.fbCopyStopped
  try dsimp only
  repeat' (first
    | with_reducible rfl
    | with_reducible exact isSys_of_le (by first | omega | decide | (simp only [aFb]; omega))
    | with_reducible exact isSysSrc_of_lt (by omega)
    | (show isSysSrc _ = false; decide)
    | split
    | with_reducible refine (Dev.sys_put32 _ _ _ ?_ ?_).trans ?_
    | with_reducible refine (Dev.sys_onFb _ _ _).trans ?_)

theorem Dev.sys_absStart (d : Dev) (f : ChanIx) : (d.absStart f).sys = d.sys := by
  unfold Dev.absStart
  try dsimp only
  repeat' (first
    | with_reducible rfl
    | with_reducible exact isSys_of_le (by first | omega | decide | (simp only [aFb]; omega))
    | with_reducible exact isSysSrc_of_lt (by omega)
    | (show isSysSrc _ = false; decide)
    | split
    | with_reducible refine (Dev.sys_putB _ _ _ _ ?_).trans ?_
    | with_reducible refine (Dev.sys_onFb _ _ _).trans ?_
    | with_reducible refine (Dev.sys_enforce _ _ _).trans ?_)

theorem Dev.sys_fallbackFail (d : Dev) (f : ChanIx) : (d.fallbackFail f).sys = d.sys := by
  unfold Dev.fallbackFail
  try dsimp only
  repeat' (first
    | with_reducible rfl
    | with_reducible exact isSys_of_le (by first | omega | decide)
    | with_reducible exact isSysSrc_of_lt (by omega)
    | (show isSysSrc _ = false; decide)
    | split
    | with_reducible refine (Dev.sys_onFb _ _ _).trans ?_
    | with_reducible refine (Dev.sys_fbCause _ _ _).trans ?_
    | with_reducible refine (Dev.sys_putSpdv _ _ _).trans ?_)

theorem Dev.sys_wordDiff (d : Dev) (f : ChanIx) (c : BitVec 32) : (d.wordDiff f c).sys = d.sys := by
  unfold Dev.wordDiff
  try dsimp only
  repeat' (first
    | with_reducible rfl
    | with_reducible exact isSys_of_le (by first | omega | decide)
    | with_reducible exact isSysSrc_of_lt (by omega)
    | (show isSysSrc _ = false; decide)
    | split
    | with_reducible refine (Dev.sys_onFb _ _ _).trans ?_
    | with_reducible refine (Dev.sys_distUnits _ _ _).trans ?_)

theorem Dev.sys_fallbackWord (d : Dev) (f : ChanIx) (c : BitVec 32) : (d.fallbackWord f c).sys = d.sys := by
  unfold Dev.fallbackWord
  try dsimp only
  repeat' (first
    | with_reducible rfl
    | with_reducible exact isSys_of_le (by first | omega | decide | (simp only [aFb]; omega))
    | with_reducible exact isSysSrc_of_lt (by omega)
    | (show isSysSrc _ = false; decide)
    | split
    | with_reducible refine (Dev.sys_put32 _ _ _ ?_ ?_).trans ?_
    | with_reducible refine (Dev.sys_onFb _ _ _).trans ?_
    | with_reducible refine (Dev.sys_putSpd _ _ _).trans ?_
    | with_reducible refine (Dev.sys_putSpdv _ _ _).trans ?_
    | with_reducible refine (Dev.sys_wordDiff _ _ _).trans ?_)

theorem Dev.sys_absComplete (d : Dev) (f : ChanIx) (ready : Bool) (word : BitVec 32) (parity : Bool) : (d.absComplete f ready word parity).sys = d.sys := by
  unfold Dev.absComplete
  try dsimp only
  repeat' (first
    | with_reducible rfl
    | with_reducible exact isSys_of_le (by first | omega | decide | (simp only [aFb]; omega))
    | with_reducible exact isSysSrc_of_lt (by omega)
    | (show isSysSrc _ = false; decide)
    | split
    | with_reducible refine (Dev.sys_put _ _ _ ?_).trans ?_
    | with_reducible refine (Dev.sys_putB _ _ _ _ ?_).trans ?_
    | with_reducible refine (Dev.sys_inc _ _ ?_).trans ?_
    | with_reducible refine (Dev.sys_put32 _ _ _ ?_ ?_).trans ?_
    | with_reducible refine (Dev.sys_onFb _ _ _).trans ?_
    | with_reducible refine (Dev.sys_fbCause _ _ _).trans ?_
    | with_reducible refine (Dev.sys_dropSpeed _ _).trans ?_
    | with_reducible refine (Dev.sys_enterFallback _ _ _).trans ?_
    | with_reducible refine (Dev.sys_fallbackFail _ _).trans ?_
    | with_reducible refine (Dev.sys_wordDiff _ _ _).trans ?_
    | with_reducible refine (Dev.sys_fallbackWord _ _ _).trans ?_)

theorem Dev.sys_writeFbCfg (d : Dev) (f : ChanIx) (v : Word) : (d.writeFbCfg f v).sys = d.sys := by
  unfold Dev.writeFbCfg
  try dsimp only
  repeat' (first
    | with_reducible rfl
    | with_reducible exact isSys_of_le (by first | omega | decide | (simp only [aFb, aMot]; omega))
    | with_reducible exact isSysSrc_of_lt (by omega)
    | (show isSysSrc _ = false; decide)
    | (show isSys _ = false; decide)
    | split
    | with_reducible refine (Dev.sys_put _ _ _ ?_).trans ?_
    | with_reducible refine (Dev.sys_with_fbDue _ _).trans ?_)

theorem Dev.sys_writeDcfg (d : Dev) (v : Word) : (d.writeDcfg v).sys = d.sys := by
  unfold Dev.writeDcfg
  try dsimp only
  repeat' (first
    | with_reducible rfl
    | with_reducible exact isSys_of_le (by first | omega | decide)
    | with_reducible exact isSysSrc_of_lt (by omega)
    | (show isSysSrc _ = false; decide)
    | split
    | with_reducible refine (Dev.sys_put _ _ _ ?_).trans ?_
    | with_reducible refine (Dev.sys_put32 _ _ _ ?_ ?_).trans ?_
    | with_reducible refine (Dev.sys_with_dist _ _).trans ?_)

theorem Dev.sys_distPulseEnd (d : Dev) : (d.distPulseEnd).sys = d.sys := by
  unfold Dev.distPulseEnd
  repeat' (first
    | with_reducible rfl
    | with_reducible exact isSys_of_le (by first | omega | decide)
    | with_reducible exact isSysSrc_of_lt (by omega)
    | (show isSysSrc _ = false; decide)
    | split
    | with_reducible refine (Dev.sys_with_dist _ _).trans ?_)

theorem Dev.sys_distGapEnd (d : Dev) : (d.distGapEnd).sys = d.sys := by
  unfold Dev.distGapEnd
  dsimp only
  split
  · split
    · rfl
    · refine (Dev.sys_distPulse _).trans ?_
      refine (Dev.sys_putF _ _ _ _ _ (by decide)).trans rfl
  · rfl


theorem Dev.sys_putCmdx (d : Dev) (m : MotorIx) (x : Nat) : (d.putCmdx m x).sys = d.sys := by
  unfold Dev.putCmdx
  try dsimp only
  repeat' (first
    | with_reducible rfl
    | with_reducible exact isSys_of_le (by first | omega | decide | (simp only [aMot]; omega))
    | with_reducible exact isSysSrc_of_lt (by omega)
    | (show isSysSrc _ = false; decide)
    | split
    | with_reducible refine (Dev.sys_put _ _ _ ?_).trans ?_
    | with_reducible refine (Dev.sys_onMot _ _ _).trans ?_
    | with_reducible refine (Dev.sys_nextFree _).trans ?_)

theorem Dev.sys_judgeCmd (d : Dev) (m : MotorIx) (frame : Bool) : (d.judgeCmd m frame).sys = d.sys := by
  unfold Dev.judgeCmd
  try dsimp only
  repeat' (first
    | with_reducible rfl
    | with_reducible exact isSys_of_le (by first | omega | decide | (simp only [aMot]; omega))
    | with_reducible exact isSysSrc_of_lt (by omega)
    | (show isSysSrc _ = false; decide)
    | split
    | with_reducible refine (Dev.sys_put _ _ _ ?_).trans ?_
    | with_reducible refine (Dev.sys_putCmdx _ _ _).trans ?_)

theorem Dev.sys_measureCmd (d : Dev) (m : MotorIx) (x : Nat) (frame : Bool) : (d.measureCmd m x frame).sys = d.sys := by
  unfold Dev.measureCmd
  repeat' (first
    | with_reducible rfl
    | with_reducible exact isSys_of_le (by first | omega | decide)
    | with_reducible exact isSysSrc_of_lt (by omega)
    | (show isSysSrc _ = false; decide)
    | split
    | with_reducible refine (Dev.sys_putCmdx _ _ _).trans ?_
    | with_reducible refine (Dev.sys_judgeCmd _ _ _).trans ?_)

theorem Dev.sys_cmdEdge (d : Dev) (m : MotorIx) (high : Nat) : (d.cmdEdge m high).sys = d.sys := by
  unfold Dev.cmdEdge
  try dsimp only
  repeat' (first
    | with_reducible rfl
    | with_reducible exact isSys_of_le (by first | omega | decide)
    | with_reducible exact isSysSrc_of_lt (by omega)
    | (show isSysSrc _ = false; decide)
    | split
    | with_reducible refine (Dev.sys_onMot _ _ _).trans ?_
    | with_reducible refine (Dev.sys_measureCmd _ _ _ _).trans ?_)

theorem Dev.sys_cmdLost (d : Dev) (m : MotorIx) : (d.cmdLost m).sys = d.sys := by
  unfold Dev.cmdLost
  try dsimp only
  repeat' (first
    | with_reducible rfl
    | with_reducible exact isSys_of_le (by first | omega | decide)
    | with_reducible exact isSysSrc_of_lt (by omega)
    | (show isSysSrc _ = false; decide)
    | split
    | with_reducible refine (Dev.sys_onMot _ _ _).trans ?_
    | with_reducible refine (Dev.sys_judgeCmd _ _ _).trans ?_)

theorem Dev.sys_cmdFrame (d : Dev) (m : MotorIx) : (d.cmdFrame m).sys = d.sys := by
  unfold Dev.cmdFrame
  try dsimp only
  repeat' (first
    | with_reducible rfl
    | with_reducible exact isSys_of_le (by first | omega | decide | (simp only [aMot, aAcc, aPrm]; omega))
    | with_reducible exact isSysSrc_of_lt (by omega)
    | (show isSysSrc _ = false; decide)
    | split
    | with_reducible refine (Dev.sys_onMot _ _ _).trans ?_
    | with_reducible refine (Dev.sys_putCmdx _ _ _).trans ?_
    | with_reducible refine (Dev.sys_judgeCmd _ _ _).trans ?_
    | with_reducible refine (Dev.sys_measureCmd _ _ _ _).trans ?_)

theorem Dev.sys_sense (d : Dev) (m : MotorIx) : (d.sense m).sys = d.sys := by
  unfold Dev.sense
  try dsimp only
  repeat' (first
    | with_reducible rfl
    | with_reducible exact isSys_of_le (by first | omega | decide | (simp only [aMot, aFb]; omega))
    | with_reducible exact isSysSrc_of_lt (by omega)
    | (show isSysSrc _ = false; decide)
    | split
    | with_reducible refine (Dev.sys_onMot _ _ _).trans ?_
    | with_reducible refine (Dev.sys_nextFree _).trans ?_)

theorem Dev.sys_putSpeed (d : Dev) (m : MotorIx) (v : Int) : (d.putSpeed m v).sys = d.sys := by
  unfold Dev.putSpeed
  repeat' (first
    | with_reducible rfl
    | with_reducible exact isSys_of_le (by first | omega | decide | (simp only [aMot]; omega))
    | with_reducible exact isSysSrc_of_lt (by omega)
    | (show isSysSrc _ = false; decide)
    | split
    | with_reducible refine (Dev.sys_put _ _ _ ?_).trans ?_
    | with_reducible refine (Dev.sys_nextFree _).trans ?_)

theorem Dev.sys_rampHold (d : Dev) (m : MotorIx) : (d.rampHold m).sys = d.sys := by
  unfold Dev.rampHold
  try dsimp only
  repeat' (first
    | with_reducible rfl
    | with_reducible exact isSys_of_le (by first | omega | decide | (simp only [aMot]; omega))
    | with_reducible exact isSysSrc_of_lt (by omega)
    | (show isSysSrc _ = false; decide)
    | split
    | with_reducible refine (Dev.sys_onMot _ _ _).trans ?_)

theorem Dev.sys_rampStep (d : Dev) (m : MotorIx) : (d.rampStep m).sys = d.sys := by
  unfold Dev.rampStep
  try dsimp only
  repeat' (first
    | with_reducible rfl
    | with_reducible exact isSys_of_le (by first | omega | decide | (simp only [aMot]; omega))
    | with_reducible exact isSysSrc_of_lt (by omega)
    | (show isSysSrc _ = false; decide)
    | split
    | with_reducible refine (Dev.sys_inc _ _ ?_).trans ?_
    | with_reducible refine (Dev.sys_onMot _ _ _).trans ?_
    | with_reducible refine (Dev.sys_rampHold _ _).trans ?_)

theorem Dev.sys_senseLess (d : Dev) (m : MotorIx) : (d.senseLess m).sys = d.sys := by
  unfold Dev.senseLess
  try dsimp only
  repeat' (first
    | with_reducible rfl
    | with_reducible exact isSys_of_le (by first | omega | decide)
    | with_reducible exact isSysSrc_of_lt (by omega)
    | (show isSysSrc _ = false; decide)
    | split
    | with_reducible refine (Dev.sys_onMot _ _ _).trans ?_
    | with_reducible refine (Dev.sys_rampStep _ _).trans ?_)

theorem Dev.sys_angles (d : Dev) (m : MotorIx) : (d.angles m).sys = d.sys := by
  unfold Dev.angles
  try dsimp only
  repeat' (first
    | with_reducible rfl
    | with_reducible exact isSys_of_le (by first | omega | decide | (simp only [aMot]; omega))
    | with_reducible exact isSysSrc_of_lt (by omega)
    | (show isSysSrc _ = false; decide)
    | split
    | with_reducible refine (Dev.sys_put _ _ _ ?_).trans ?_
    | with_reducible refine (Dev.sys_onMot _ _ _).trans ?_
    | with_reducible refine (Dev.sys_sense _ _).trans ?_
    | with_reducible refine (Dev.sys_putSpeed _ _ _).trans ?_
    | with_reducible refine (Dev.sys_senseLess _ _).trans ?_)

theorem Dev.sys_applyDuty (d : Dev) (m : MotorIx) (deadline : Bool) : (d.applyDuty m deadline).sys = d.sys := by
  unfold Dev.applyDuty
  try dsimp only
  repeat' (first
    | with_reducible rfl
    | with_reducible exact isSys_of_le (by first | omega | decide)
    | with_reducible exact isSysSrc_of_lt (by omega)
    | (show isSysSrc _ = false; decide)
    | split
    | with_reducible refine (Dev.sys_onMot _ _ _).trans ?_)

theorem Dev.sys_henFrame (d : Dev) (m : MotorIx) : (d.henFrame m).sys = d.sys := by
  unfold Dev.henFrame
  repeat' (first
    | with_reducible rfl
    | with_reducible exact isSys_of_le (by first | omega | decide | (simp only [aMot]; omega))
    | with_reducible exact isSysSrc_of_lt (by omega)
    | (show isSysSrc _ = false; decide)
    | split
    | with_reducible refine (Dev.sys_onMot _ _ _).trans ?_)

theorem Dev.sys_hostFrame (d : Dev) (m : MotorIx) : (d.hostFrame m).sys = d.sys := by
  unfold Dev.hostFrame
  try dsimp only
  repeat' (first
    | with_reducible rfl
    | with_reducible exact isSys_of_le (by first | omega | decide | (simp only [aMot]; omega))
    | with_reducible exact isSysSrc_of_lt (by omega)
    | (show isSysSrc _ = false; decide)
    | split
    | with_reducible refine (Dev.sys_onMot _ _ _).trans ?_)

theorem Dev.sys_overspeed (d : Dev) (m : MotorIx) : (d.overspeed m).sys = d.sys := by
  unfold Dev.overspeed
  try dsimp only
  repeat' (first
    | with_reducible rfl
    | with_reducible exact isSys_of_le (by first | omega | decide | (simp only [aMot]; omega))
    | with_reducible exact isSysSrc_of_lt (by omega)
    | (show isSysSrc _ = false; decide)
    | split
    | with_reducible refine (Dev.sys_motCause _ _ _).trans ?_
    | with_reducible refine (Dev.sys_policy _ _ _ _).trans ?_)

theorem Dev.sys_reversal (d : Dev) (m : MotorIx) : (d.reversal m).sys = d.sys := by
  unfold Dev.reversal
  try dsimp only
  repeat' (first
    | with_reducible rfl
    | with_reducible exact isSys_of_le (by first | omega | decide | (simp only [aMot]; omega))
    | with_reducible exact isSysSrc_of_lt (by omega)
    | (show isSysSrc _ = false; decide)
    | split
    | with_reducible refine (Dev.sys_onMot _ _ _).trans ?_
    | with_reducible refine (Dev.sys_motCause _ _ _).trans ?_
    | with_reducible refine (Dev.sys_enter _ _ _).trans ?_
    | with_reducible refine (Dev.sys_toCatch _ _).trans ?_
    | with_reducible refine (Dev.sys_toBrake _ _).trans ?_)

theorem Dev.sys_faultFrame (d : Dev) (m : MotorIx) : (d.faultFrame m).sys = d.sys := by
  unfold Dev.faultFrame
  try dsimp only
  repeat' (first
    | with_reducible rfl
    | with_reducible exact isSys_of_le (by first | omega | decide)
    | with_reducible exact isSysSrc_of_lt (by omega)
    | (show isSysSrc _ = false; decide)
    | split
    | with_reducible refine (Dev.sys_onMot _ _ _).trans ?_)

theorem Dev.sys_idleFrame (d : Dev) (m : MotorIx) : (d.idleFrame m).sys = d.sys := by
  unfold Dev.idleFrame
  repeat' (first
    | with_reducible rfl
    | with_reducible exact isSys_of_le (by first | omega | decide)
    | with_reducible exact isSysSrc_of_lt (by omega)
    | (show isSysSrc _ = false; decide)
    | split
    | with_reducible refine (Dev.sys_levelReports _ _).trans ?_
    | with_reducible refine (Dev.sys_startMotor _ _).trans ?_
    | with_reducible refine (Dev.sys_endCheck _ _).trans ?_)

theorem Dev.sys_windowStart (d : Dev) (m : MotorIx) : (d.windowStart m).sys = d.sys := by
  unfold Dev.windowStart
  try dsimp only
  repeat' (first
    | with_reducible rfl
    | with_reducible exact isSys_of_le (by first | omega | decide)
    | with_reducible exact isSysSrc_of_lt (by omega)
    | (show isSysSrc _ = false; decide)
    | split
    | with_reducible refine (Dev.sys_onMot _ _ _).trans ?_)

theorem Dev.sys_thrFrame (d : Dev) (m : MotorIx) : (d.thrFrame m).sys = d.sys := by
  unfold Dev.thrFrame
  try dsimp only
  repeat' (first
    | with_reducible rfl
    | with_reducible exact isSys_of_le (by first | omega | decide)
    | with_reducible exact isSysSrc_of_lt (by omega)
    | (show isSysSrc _ = false; decide)
    | split
    | with_reducible refine (Dev.sys_onMot _ _ _).trans ?_)

theorem Dev.sys_dutyFrame (d : Dev) (m : MotorIx) : (d.dutyFrame m).sys = d.sys := by
  unfold Dev.dutyFrame
  try dsimp only
  repeat' (first
    | with_reducible rfl
    | with_reducible exact isSys_of_le (by first | omega | decide | (simp only [aMot]; omega))
    | with_reducible exact isSysSrc_of_lt (by omega)
    | (show isSysSrc _ = false; decide)
    | split
    | with_reducible refine (Dev.sys_put _ _ _ ?_).trans ?_)

theorem Dev.sys_motorFrame (d : Dev) (m : MotorIx) (deadline : Bool) : (d.motorFrame m deadline).sys = d.sys := by
  unfold Dev.motorFrame
  try dsimp only
  repeat' (first
    | with_reducible rfl
    | with_reducible exact isSys_of_le (by first | omega | decide | (simp only [aMot]; omega))
    | with_reducible exact isSysSrc_of_lt (by omega)
    | (show isSysSrc _ = false; decide)
    | split
    | with_reducible refine (Dev.sys_putB _ _ _ _ ?_).trans ?_
    | with_reducible refine (Dev.sys_onMot _ _ _).trans ?_
    | with_reducible refine (Dev.sys_showFrame _ _).trans ?_
    | with_reducible refine (Dev.sys_searchStart _ _).trans ?_
    | with_reducible refine (Dev.sys_cmdFrame _ _).trans ?_
    | with_reducible refine (Dev.sys_angles _ _).trans ?_
    | with_reducible refine (Dev.sys_applyDuty _ _ _).trans ?_
    | with_reducible refine (Dev.sys_hostFrame _ _).trans ?_
    | with_reducible refine (Dev.sys_overspeed _ _).trans ?_
    | with_reducible refine (Dev.sys_reversal _ _).trans ?_
    | with_reducible refine (Dev.sys_faultFrame _ _).trans ?_
    | with_reducible refine (Dev.sys_idleFrame _ _).trans ?_
    | with_reducible refine (Dev.sys_thrFrame _ _).trans ?_
    | with_reducible refine (Dev.sys_dutyFrame _ _).trans ?_)

theorem Dev.sys_frameWork (d : Dev) (g : GroupIx) (ended : Bool) : (d.frameWork g ended).sys = d.sys := by
  unfold Dev.frameWork
  try dsimp only
  repeat' (first
    | with_reducible rfl
    | with_reducible exact isSys_aGrp _ _ (by decide)
    | with_reducible exact isSys_of_le (by first | omega | decide | (simp only [aMot]; omega))
    | with_reducible exact isSysSrc_of_lt (by omega)
    | (show isSysSrc _ = false; decide)
    | split
    | with_reducible refine (Dev.sys_onMot _ _ _).trans ?_
    | with_reducible refine (Dev.sys_onGrp _ _ _).trans ?_
    | with_reducible refine (Dev.sys_enforce _ _ _).trans ?_
    | with_reducible refine (Dev.sys_each _ _ (fun d x => ?_) _).trans ?_
    | with_reducible refine (Dev.sys_driveGroup _ _).trans ?_
    | with_reducible refine (Dev.sys_snapshot _ _).trans ?_
    | with_reducible refine (Dev.sys_enforceGrants _ _ _).trans ?_
    | with_reducible refine (Dev.sys_supFrame _ _ _).trans ?_
    | with_reducible refine (Dev.sys_accFrame _ _ _).trans ?_
    | with_reducible refine (Dev.sys_seqFrame _ _).trans ?_
    | with_reducible refine (Dev.sys_fbCopy _ _).trans ?_
    | with_reducible refine (Dev.sys_absStart _ _).trans ?_
    | with_reducible refine (Dev.sys_henFrame _ _).trans ?_
    | with_reducible refine (Dev.sys_motorFrame _ _ _).trans ?_)

theorem Dev.sys_clearLoop (d : Dev) (m : MotorIx) : (d.clearLoop m).sys = d.sys := by
  unfold Dev.clearLoop
  try dsimp only
  repeat' (first
    | with_reducible rfl
    | with_reducible exact isSys_of_le (by first | omega | decide | (simp only [aMot]; omega))
    | with_reducible exact isSysSrc_of_lt (by omega)
    | (show isSysSrc _ = false; decide)
    | split
    | with_reducible refine (Dev.sys_put _ _ _ ?_).trans ?_
    | with_reducible refine (Dev.sys_putB _ _ _ _ ?_).trans ?_
    | with_reducible refine (Dev.sys_put32 _ _ _ ?_ ?_).trans ?_
    | with_reducible refine (Dev.sys_onMot _ _ _).trans ?_)

theorem Dev.sys_seqStopped (d : Dev) (p : GroupIx) : (d.seqStopped p).sys = d.sys := by
  unfold Dev.seqStopped
  try dsimp only
  repeat' (first
    | with_reducible rfl
    | with_reducible exact isSys_of_le (by first | omega | decide)
    | with_reducible exact isSysSrc_of_lt (by omega)
    | (show isSysSrc _ = false; decide)
    | split
    | with_reducible refine (Dev.sys_onPrm _ _ _).trans ?_
    | with_reducible refine (Dev.sys_restartSeq _ _).trans ?_)

theorem Dev.sys_stopGroup (d : Dev) (g : GroupIx) : (d.stopGroup g).sys = d.sys := by
  unfold Dev.stopGroup
  try dsimp only
  repeat' (first
    | with_reducible rfl
    | with_reducible exact isSys_of_le (by first | omega | decide | (simp only [aMot]; omega))
    | with_reducible exact isSysSrc_of_lt (by omega)
    | (show isSysSrc _ = false; decide)
    | (show isSys _ = false; decide)
    | split
    | with_reducible refine (Dev.sys_onGrp _ _ _).trans ?_
    | with_reducible refine (Dev.sys_accFrame _ _ _).trans ?_
    | with_reducible refine (Dev.sys_supFrame _ _ _).trans ?_
    | with_reducible refine (Dev.sys_seqStopped _ _).trans ?_
    | with_reducible refine (Dev.sys_each _ _ (fun x y => ?_) _).trans ?_
    | with_reducible refine (Dev.sys_toIdle _ _).trans ?_
    | with_reducible refine (Dev.sys_clearLoop _ _).trans ?_
    | with_reducible refine (Dev.sys_showFrame _ _).trans ?_
    | with_reducible refine (Dev.sys_zeroGrants _ _).trans ?_
    | with_reducible refine (Dev.sys_snapshot _ _).trans ?_
    | with_reducible refine (Dev.sys_driveGroup _ _).trans ?_)

theorem Dev.sys_startCarriers (d : Dev) (g : GroupIx) (per : Nat) : (d.startCarriers g per).sys = d.sys := by
  unfold Dev.startCarriers
  repeat' (first
    | with_reducible rfl
    | with_reducible exact isSys_of_le (by first | omega | decide)
    | with_reducible exact isSysSrc_of_lt (by omega)
    | (show isSysSrc _ = false; decide)
    | split
    | with_reducible refine (Dev.sys_onMot _ _ _).trans ?_
    | with_reducible refine (Dev.sys_each _ _ (fun d x => ?_) _).trans ?_)

theorem Dev.sys_startGroup (d : Dev) (g : GroupIx) : (d.startGroup g).sys = d.sys := by
  unfold Dev.startGroup
  try dsimp only
  repeat' (first
    | with_reducible rfl
    | with_reducible exact isSys_aGrp _ _ (by decide)
    | with_reducible exact isSys_of_le (by first | omega | decide)
    | with_reducible exact isSysSrc_of_lt (by omega)
    | (show isSysSrc _ = false; decide)
    | split
    | with_reducible refine (Dev.sys_onGrp _ _ _).trans ?_
    | with_reducible refine (Dev.sys_onPrm _ _ _).trans ?_
    | with_reducible refine (Dev.sys_resetRR _ _).trans ?_
    | with_reducible refine (Dev.sys_frameWork _ _ _).trans ?_
    | with_reducible refine (Dev.sys_startCarriers _ _ _).trans ?_)

theorem Dev.sys_restartGroup (d : Dev) (g : GroupIx) : (d.restartGroup g).sys = d.sys := by
  unfold Dev.restartGroup
  try dsimp only
  repeat' (first
    | with_reducible rfl
    | with_reducible exact isSys_aGrp _ _ (by decide)
    | with_reducible exact isSys_of_le (by first | omega | decide)
    | with_reducible exact isSysSrc_of_lt (by omega)
    | (show isSysSrc _ = false; decide)
    | split
    | with_reducible refine (Dev.sys_onGrp _ _ _).trans ?_
    | with_reducible refine (Dev.sys_onPrm _ _ _).trans ?_
    | with_reducible refine (Dev.sys_frameWork _ _ _).trans ?_
    | with_reducible refine (Dev.sys_startCarriers _ _ _).trans ?_)

theorem Dev.sys_startDue (d : Dev) (g : GroupIx) : (d.startDue g).sys = d.sys := by
  unfold Dev.startDue
  try dsimp only
  repeat' (first
    | with_reducible rfl
    | with_reducible exact isSys_aGrp _ _ (by decide)
    | with_reducible exact isSys_of_le (by first | omega | decide)
    | with_reducible exact isSysSrc_of_lt (by omega)
    | (show isSysSrc _ = false; decide)
    | split
    | with_reducible refine (Dev.sys_onGrp _ _ _).trans ?_
    | with_reducible refine (Dev.sys_when _ _ _ (fun d => ?_)).trans ?_
    | with_reducible refine (Dev.sys_startGroup _ _).trans ?_)

theorem Dev.sys_carrierEnds (d : Dev) (m : MotorIx) : (d.carrierEnds m).sys = d.sys := by
  unfold Dev.carrierEnds
  repeat' (first
    | with_reducible rfl
    | with_reducible exact isSys_of_le (by first | omega | decide)
    | with_reducible exact isSysSrc_of_lt (by omega)
    | (show isSysSrc _ = false; decide)
    | split
    | with_reducible refine (Dev.sys_onMot _ _ _).trans ?_)

theorem Dev.sys_frameStart (d : Dev) (g : GroupIx) : (d.frameStart g).sys = d.sys := by
  unfold Dev.frameStart
  try dsimp only
  repeat' (first
    | with_reducible rfl
    | with_reducible exact isSys_aGrp _ _ (by decide)
    | with_reducible exact isSys_of_le (by first | omega | decide)
    | with_reducible exact isSysSrc_of_lt (by omega)
    | (show isSysSrc _ = false; decide)
    | split
    | with_reducible refine (Dev.sys_onGrp _ _ _).trans ?_
    | with_reducible refine (Dev.sys_each _ _ (fun d x => ?_) _).trans ?_
    | with_reducible refine (Dev.sys_frameWork _ _ _).trans ?_
    | with_reducible refine (Dev.sys_stopGroup _ _).trans ?_
    | with_reducible refine (Dev.sys_carrierEnds _ _).trans ?_)

theorem Dev.sys_applyDeadline (d : Dev) (g : GroupIx) : (d.applyDeadline g).sys = d.sys := by
  unfold Dev.applyDeadline
  try dsimp only
  repeat' (first
    | with_reducible rfl
    | with_reducible exact isSys_aGrp _ _ (by decide)
    | with_reducible exact isSys_of_le (by first | omega | decide)
    | with_reducible exact isSysSrc_of_lt (by omega)
    | (show isSysSrc _ = false; decide)
    | split
    | with_reducible refine (Dev.sys_setB _ _ _ ?_).trans ?_
    | with_reducible refine (Dev.sys_onMot _ _ _).trans ?_
    | with_reducible refine (Dev.sys_onGrp _ _ _).trans ?_
    | with_reducible refine (Dev.sys_each _ _ (fun d x => ?_) _).trans ?_)

theorem Dev.sys_limitCheck (d : Dev) (m : MotorIx) : (d.limitCheck m).sys = d.sys := by
  unfold Dev.limitCheck
  repeat' (first
    | with_reducible rfl
    | with_reducible exact isSys_of_le (by first | omega | decide | (simp only [aCur]; omega))
    | with_reducible exact isSysSrc_of_lt (by omega)
    | (show isSysSrc _ = false; decide)
    | split
    | with_reducible refine (Dev.sys_onMot _ _ _).trans ?_)

theorem Dev.sys_spanCheck (d : Dev) (m : MotorIx) : (d.spanCheck m).sys = d.sys := by
  unfold Dev.spanCheck
  try dsimp only
  repeat' (first
    | with_reducible rfl
    | with_reducible exact isSys_of_le (by first | omega | decide)
    | with_reducible exact isSysSrc_of_lt (by omega)
    | (show isSysSrc _ = false; decide)
    | split
    | with_reducible refine (Dev.sys_onMot _ _ _).trans ?_)

theorem Dev.sys_newPeriod (d : Dev) (m : MotorIx) : (d.newPeriod m).sys = d.sys := by
  unfold Dev.newPeriod
  try dsimp only
  repeat' (first
    | with_reducible rfl
    | with_reducible exact isSys_of_le (by first | omega | decide | (simp only [aMot]; omega))
    | with_reducible exact isSysSrc_of_lt (by omega)
    | (show isSysSrc _ = false; decide)
    | split
    | with_reducible refine (Dev.sys_onMot _ _ _).trans ?_)

theorem Dev.sys_carrierGlint (d : Dev) (m : MotorIx) : (d.carrierGlint m).sys = d.sys := by
  unfold Dev.carrierGlint
  try dsimp only
  repeat' (first
    | with_reducible rfl
    | with_reducible exact isSys_of_le (by first | omega | decide | (simp only [aCur]; omega))
    | with_reducible exact isSysSrc_of_lt (by omega)
    | (show isSysSrc _ = false; decide)
    | split
    | with_reducible refine (Dev.sys_putB _ _ _ _ ?_).trans ?_
    | with_reducible refine (Dev.sys_each _ _ (fun d x => ?_) _).trans ?_
    | with_reducible refine (Dev.sys_enforceGlint _ _).trans ?_)

theorem Dev.sys_carrierStart (d : Dev) (m : MotorIx) : (d.carrierStart m).sys = d.sys := by
  unfold Dev.carrierStart
  try dsimp only
  repeat' (first
    | with_reducible rfl
    | with_reducible exact isSys_of_le (by first | omega | decide)
    | with_reducible exact isSysSrc_of_lt (by omega)
    | (show isSysSrc _ = false; decide)
    | split
    | with_reducible refine (Dev.sys_onMot _ _ _).trans ?_
    | with_reducible refine (Dev.sys_drive _ _).trans ?_
    | with_reducible refine (Dev.sys_judgeLimit _ _).trans ?_
    | with_reducible refine (Dev.sys_windowStart _ _).trans ?_
    | with_reducible refine (Dev.sys_limitCheck _ _).trans ?_
    | with_reducible refine (Dev.sys_newPeriod _ _).trans ?_
    | with_reducible refine (Dev.sys_carrierGlint _ _).trans ?_)

theorem Dev.sys_pwmEdge (d : Dev) (m : MotorIx) : (d.pwmEdge m).sys = d.sys := by
  unfold Dev.pwmEdge
  repeat' (first
    | with_reducible rfl
    | with_reducible exact isSys_of_le (by first | omega | decide)
    | with_reducible exact isSysSrc_of_lt (by omega)
    | (show isSysSrc _ = false; decide)
    | split
    | with_reducible refine (Dev.sys_drive _ _).trans ?_
    | with_reducible refine (Dev.sys_judgeLimit _ _).trans ?_
    | with_reducible refine (Dev.sys_windowStart _ _).trans ?_
    | with_reducible refine (Dev.sys_limitCheck _ _).trans ?_
    | with_reducible refine (Dev.sys_spanCheck _ _).trans ?_)

theorem Dev.sys_endSector (d : Dev) (m : MotorIx) : (d.endSector m).sys = d.sys := by
  unfold Dev.endSector
  try dsimp only
  repeat' (first
    | with_reducible rfl
    | with_reducible exact isSys_of_le (by first | omega | decide | (simp only [aMot]; omega))
    | with_reducible exact isSysSrc_of_lt (by omega)
    | (show isSysSrc _ = false; decide)
    | split
    | with_reducible refine (Dev.sys_syncLoss _ _).trans ?_
    | with_reducible refine (Dev.sys_handover _ _).trans ?_
    | with_reducible refine (Dev.sys_sectorOutcome _ _).trans ?_)

theorem Dev.sys_commutation (d : Dev) (m : MotorIx) : (d.commutation m).sys = d.sys := by
  unfold Dev.commutation
  try dsimp only
  repeat' (first
    | with_reducible rfl
    | with_reducible exact isSys_of_le (by first | omega | decide)
    | with_reducible exact isSysSrc_of_lt (by omega)
    | (show isSysSrc _ = false; decide)
    | split
    | with_reducible refine (Dev.sys_onMot _ _ _).trans ?_
    | with_reducible refine (Dev.sys_drive _ _).trans ?_
    | with_reducible refine (Dev.sys_endSector _ _).trans ?_)

theorem Dev.sys_alignSample (d : Dev) (m : MotorIx) (lvl : Bool) : (d.alignSample m lvl).sys = d.sys := by
  unfold Dev.alignSample
  try dsimp only
  repeat' (first
    | with_reducible rfl
    | with_reducible exact isSys_of_le (by first | omega | decide | (simp only [aMot]; omega))
    | with_reducible exact isSysSrc_of_lt (by omega)
    | (show isSysSrc _ = false; decide)
    | split
    | with_reducible refine (Dev.sys_inc _ _ ?_).trans ?_
    | with_reducible refine (Dev.sys_onMot _ _ _).trans ?_)

theorem Dev.sys_sampleTick (d : Dev) (m : MotorIx) (u v w : Int) : (d.sampleTick m u v w).sys = d.sys := by
  unfold Dev.sampleTick
  try dsimp only
  repeat' (first
    | with_reducible rfl
    | with_reducible exact isSys_of_le (by first | omega | decide | (simp only [aCur]; omega))
    | with_reducible exact isSysSrc_of_lt (by omega)
    | (show isSysSrc _ = false; decide)
    | split
    | with_reducible refine (Dev.sys_zcSample _ _ _).trans ?_
    | with_reducible refine (Dev.sys_catchSample _ _ _).trans ?_
    | with_reducible refine (Dev.sys_phaseSample _ _ _ _ _).trans ?_
    | with_reducible refine (Dev.sys_windowStart _ _).trans ?_
    | with_reducible refine (Dev.sys_alignSample _ _ _).trans ?_)

theorem Dev.sys_zcWindowClose (d : Dev) (m : MotorIx) : (d.zcWindowClose m).sys = d.sys := by
  unfold Dev.zcWindowClose
  try dsimp only
  repeat' (first
    | with_reducible rfl
    | with_reducible exact isSys_of_le (by first | omega | decide)
    | with_reducible exact isSysSrc_of_lt (by omega)
    | (show isSysSrc _ = false; decide)
    | split
    | with_reducible refine (Dev.sys_windowFails _ _).trans ?_)

theorem Dev.sys_align1End (d : Dev) (m : MotorIx) : (d.align1End m).sys = d.sys := by
  unfold Dev.align1End
  try dsimp only
  repeat' (first
    | with_reducible rfl
    | with_reducible exact isSys_of_le (by first | omega | decide | (simp only [aMot]; omega))
    | with_reducible exact isSysSrc_of_lt (by omega)
    | (show isSysSrc _ = false; decide)
    | split
    | with_reducible refine (Dev.sys_onMot _ _ _).trans ?_
    | with_reducible refine (Dev.sys_drive _ _).trans ?_
    | with_reducible refine (Dev.sys_showChange _ _).trans ?_
    | with_reducible refine (Dev.sys_holdSector _ _ _).trans ?_)

theorem Dev.sys_align2End (d : Dev) (m : MotorIx) : (d.align2End m).sys = d.sys := by
  unfold Dev.align2End
  try dsimp only
  repeat' (first
    | with_reducible rfl
    | with_reducible exact isSys_of_le (by first | omega | decide | (simp only [aMot]; omega))
    | with_reducible exact isSysSrc_of_lt (by omega)
    | (show isSysSrc _ = false; decide)
    | split
    | with_reducible refine (Dev.sys_onMot _ _ _).trans ?_
    | with_reducible refine (Dev.sys_drive _ _).trans ?_
    | with_reducible refine (Dev.sys_showChange _ _).trans ?_
    | with_reducible refine (Dev.sys_rampHold _ _).trans ?_)

theorem Dev.sys_rampTimeout (d : Dev) (m : MotorIx) : (d.rampTimeout m).sys = d.sys := by
  unfold Dev.rampTimeout
  repeat' (first
    | with_reducible rfl
    | with_reducible exact isSys_of_le (by first | omega | decide)
    | with_reducible exact isSysSrc_of_lt (by omega)
    | (show isSysSrc _ = false; decide)
    | split
    | with_reducible refine (Dev.sys_attemptFails _ _ _).trans ?_)

theorem Dev.sys_backoffEnd (d : Dev) (m : MotorIx) : (d.backoffEnd m).sys = d.sys := by
  unfold Dev.backoffEnd
  repeat' (first
    | with_reducible rfl
    | with_reducible exact isSys_of_le (by first | omega | decide)
    | with_reducible exact isSysSrc_of_lt (by omega)
    | (show isSysSrc _ = false; decide)
    | split
    | with_reducible refine (Dev.sys_onMot _ _ _).trans ?_
    | with_reducible refine (Dev.sys_toAlign1 _ _).trans ?_)

theorem Dev.sys_coastEnd (d : Dev) (m : MotorIx) : (d.coastEnd m).sys = d.sys := by
  unfold Dev.coastEnd
  repeat' (first
    | with_reducible rfl
    | with_reducible exact isSys_of_le (by first | omega | decide)
    | with_reducible exact isSysSrc_of_lt (by omega)
    | (show isSysSrc _ = false; decide)
    | split
    | with_reducible refine (Dev.sys_toCatch _ _).trans ?_)

theorem Dev.sys_catchTimeout (d : Dev) (m : MotorIx) : (d.catchTimeout m).sys = d.sys := by
  unfold Dev.catchTimeout
  try dsimp only
  repeat' (first
    | with_reducible rfl
    | with_reducible exact isSys_of_le (by first | omega | decide)
    | with_reducible exact isSysSrc_of_lt (by omega)
    | (show isSysSrc _ = false; decide)
    | split
    | with_reducible refine (Dev.sys_onMot _ _ _).trans ?_
    | with_reducible refine (Dev.sys_toAlign1 _ _).trans ?_)

theorem Dev.sys_brakeEnd (d : Dev) (m : MotorIx) : (d.brakeEnd m).sys = d.sys := by
  unfold Dev.brakeEnd
  repeat' (first
    | with_reducible rfl
    | with_reducible exact isSys_of_le (by first | omega | decide)
    | with_reducible exact isSysSrc_of_lt (by omega)
    | (show isSysSrc _ = false; decide)
    | split
    | with_reducible refine (Dev.sys_onMot _ _ _).trans ?_
    | with_reducible refine (Dev.sys_startMotor _ _).trans ?_)

theorem Dev.sys_deadTimeOver (d : Dev) (b : BridgeIx) : (d.deadTimeOver b).sys = d.sys := by
  unfold Dev.deadTimeOver
  repeat' (first
    | with_reducible rfl
    | with_reducible exact isSys_of_le (by first | omega | decide)
    | with_reducible exact isSysSrc_of_lt (by omega)
    | (show isSysSrc _ = false; decide)
    | split
    | with_reducible refine (Dev.sys_turnOn _ _).trans ?_
    | with_reducible refine (Dev.sys_syncComp _ _).trans ?_
    | with_reducible refine (Dev.sys_judgeLimit _ _).trans ?_)

theorem Dev.sys_vdsLevel (d : Dev) (b : BridgeIx) (hs : Bool) (vds : Int) : (d.vdsLevel b hs vds).sys = d.sys := by
  unfold Dev.vdsLevel
  try dsimp only
  repeat' (first
    | with_reducible rfl
    | with_reducible exact isSys_of_le (by first | omega | decide)
    | with_reducible exact isSysSrc_of_lt (by omega)
    | (show isSysSrc _ = false; decide)
    | split
    | with_reducible refine (Dev.sys_onBrg _ _ _).trans ?_)

theorem Dev.sys_blankingOver (d : Dev) (b : BridgeIx) (vds : Int) : (d.blankingOver b vds).sys = d.sys := by
  unfold Dev.blankingOver
  try dsimp only
  repeat' (first
    | with_reducible rfl
    | with_reducible exact isSys_of_le (by first | omega | decide)
    | with_reducible exact isSysSrc_of_lt (by omega)
    | (show isSysSrc _ = false; decide)
    | split
    | with_reducible refine (Dev.sys_vdsLevel _ _ _ _).trans ?_)

theorem Dev.sys_desat (d : Dev) (b : BridgeIx) (vds : Int) : (d.desat b vds).sys = d.sys := by
  unfold Dev.desat
  try dsimp only
  repeat' (first
    | with_reducible rfl
    | with_reducible exact isSys_of_le (by first | omega | decide)
    | with_reducible exact isSysSrc_of_lt (by omega)
    | (show isSysSrc _ = false; decide)
    | split
    | with_reducible refine (Dev.sys_onBrg _ _ _).trans ?_
    | with_reducible refine (Dev.sys_gateFlag _ _ _).trans ?_
    | with_reducible refine (Dev.sys_report _ _ _ _).trans ?_
    | with_reducible refine (Dev.sys_vdsLevel _ _ _ _).trans ?_)

theorem Dev.sys_bootLow (d : Dev) (b : BridgeIx) : (d.bootLow b).sys = d.sys := by
  unfold Dev.bootLow
  try dsimp only
  repeat' (first
    | with_reducible rfl
    | with_reducible exact isSys_of_le (by first | omega | decide)
    | with_reducible exact isSysSrc_of_lt (by omega)
    | (show isSysSrc _ = false; decide)
    | split
    | with_reducible refine (Dev.sys_onBrg _ _ _).trans ?_
    | with_reducible refine (Dev.sys_syncBsuv _ _).trans ?_
    | with_reducible refine (Dev.sys_gateFlag _ _ _).trans ?_
    | with_reducible refine (Dev.sys_report _ _ _ _).trans ?_)

theorem Dev.sys_bootOk (d : Dev) (b : BridgeIx) : (d.bootOk b).sys = d.sys := by
  unfold Dev.bootOk
  repeat' (first
    | with_reducible rfl
    | with_reducible exact isSys_of_le (by first | omega | decide)
    | with_reducible exact isSysSrc_of_lt (by omega)
    | (show isSysSrc _ = false; decide)
    | split
    | with_reducible refine (Dev.sys_onBrg _ _ _).trans ?_
    | with_reducible refine (Dev.sys_syncBsuv _ _).trans ?_)

theorem Dev.sys_syncGduv (d : Dev) (g : GroupIx) : (d.syncGduv g).sys = d.sys := by
  unfold Dev.syncGduv
  try dsimp only
  repeat' (first
    | with_reducible rfl
    | with_reducible exact isSys_of_le (by first | omega | decide)
    | with_reducible exact isSysSrc_of_lt (by omega)
    | (show isSysSrc _ = false; decide)
    | split
    | with_reducible refine (Dev.sys_onMot _ _ _).trans ?_
    | with_reducible refine (Dev.sys_each _ _ (fun d x => ?_) _).trans ?_)

theorem Dev.sys_supplyLow (d : Dev) (g : GroupIx) : (d.supplyLow g).sys = d.sys := by
  unfold Dev.supplyLow
  try dsimp only
  repeat' (first
    | with_reducible rfl
    | with_reducible exact isSys_of_le (by first | omega | decide | (simp only [aGd, aGdg, aMot]; omega))
    | with_reducible exact isSysSrc_of_lt (by omega)
    | (show isSysSrc _ = false; decide)
    | (show isSys _ = false; decide)
    | split
    | with_reducible refine (Dev.sys_setB _ _ _ ?_).trans ?_
    | with_reducible refine (Dev.sys_when _ _ _ (fun x => ?_)).trans ?_
    | with_reducible refine (Dev.sys_stamp _ _ ?_ ?_ ?_).trans ?_
    | with_reducible refine (Dev.sys_onDie _ _ _).trans ?_
    | with_reducible refine (Dev.sys_syncGduv _ _).trans ?_
    | with_reducible refine (Dev.sys_each _ _ (fun x y => ?_) _).trans ?_
    | with_reducible refine (Dev.sys_report _ _ _ _).trans ?_)

theorem Dev.sys_supplyOk (d : Dev) (g : GroupIx) : (d.supplyOk g).sys = d.sys := by
  unfold Dev.supplyOk
  repeat' (first
    | with_reducible rfl
    | with_reducible exact isSys_of_le (by first | omega | decide)
    | with_reducible exact isSysSrc_of_lt (by omega)
    | (show isSysSrc _ = false; decide)
    | split
    | with_reducible refine (Dev.sys_onDie _ _ _).trans ?_
    | with_reducible refine (Dev.sys_syncGduv _ _).trans ?_)

theorem Dev.sys_bridgesOff (d : Dev) (g : GroupIx) : (d.bridgesOff g).sys = d.sys := by
  unfold Dev.bridgesOff
  try dsimp only
  repeat' (first
    | with_reducible rfl
    | with_reducible exact isSys_of_le (by first | omega | decide)
    | with_reducible exact isSysSrc_of_lt (by omega)
    | (show isSysSrc _ = false; decide)
    | split
    | with_reducible refine (Dev.sys_onBrg _ _ _).trans ?_
    | with_reducible refine (Dev.sys_each _ _ (fun d x => ?_) _).trans ?_
    | with_reducible refine (Dev.sys_syncBsuv _ _).trans ?_
    | with_reducible refine (Dev.sys_turnOff _ _).trans ?_
    | with_reducible refine (Dev.sys_syncComp _ _).trans ?_)

theorem Dev.sys_supplyLost (d : Dev) (g : GroupIx) : (d.supplyLost g).sys = d.sys := by
  unfold Dev.supplyLost
  repeat' (first
    | with_reducible rfl
    | with_reducible exact isSys_of_le (by first | omega | decide)
    | with_reducible exact isSysSrc_of_lt (by omega)
    | (show isSysSrc _ = false; decide)
    | split
    | with_reducible refine (Dev.sys_onDie _ _ _).trans ?_
    | with_reducible refine (Dev.sys_clearGlint _ _).trans ?_
    | with_reducible refine (Dev.sys_bridgesOff _ _).trans ?_)

theorem Dev.sys_supplyBack (d : Dev) (g : GroupIx) : (d.supplyBack g).sys = d.sys := by
  unfold Dev.supplyBack
  repeat' (first
    | with_reducible rfl
    | with_reducible exact isSys_of_le (by first | omega | decide)
    | with_reducible exact isSysSrc_of_lt (by omega)
    | (show isSysSrc _ = false; decide)
    | split
    | with_reducible refine (Dev.sys_onDie _ _ _).trans ?_)

theorem Dev.sys_dieReady (d : Dev) (g : GroupIx) : (d.dieReady g).sys = d.sys := by
  unfold Dev.dieReady
  try dsimp only
  repeat' (first
    | with_reducible rfl
    | with_reducible exact isSys_of_le (by first | omega | decide | (simp only [aMot]; omega))
    | with_reducible exact isSysSrc_of_lt (by omega)
    | (show isSysSrc _ = false; decide)
    | (show isSys _ = false; decide)
    | split
    | with_reducible refine (Dev.sys_onDie _ _ _).trans ?_
    | with_reducible refine (Dev.sys_clearGlint _ _).trans ?_
    | with_reducible refine (Dev.sys_when _ _ _ (fun x => ?_)).trans ?_
    | with_reducible refine (Dev.sys_driveGroup _ _).trans ?_)

theorem Dev.sys_dieStart (d : Dev) (g : GroupIx) : (d.dieStart g).sys = d.sys := by
  unfold Dev.dieStart
  repeat' (first
    | with_reducible rfl
    | with_reducible exact isSys_of_le (by first | omega | decide)
    | with_reducible exact isSysSrc_of_lt (by omega)
    | (show isSysSrc _ = false; decide)
    | split
    | with_reducible refine (Dev.sys_onDie _ _ _).trans ?_
    | with_reducible refine (Dev.sys_clearGlint _ _).trans ?_
    | with_reducible refine (Dev.sys_syncGduv _ _).trans ?_)

theorem Dev.sys_dieStop (d : Dev) (g : GroupIx) : (d.dieStop g).sys = d.sys := by
  unfold Dev.dieStop
  dsimp only
  exact (Dev.sys_syncGduv _ _).trans ((Dev.sys_clearGlint _ _).trans ((Dev.sys_bridgesOff _ _).trans rfl))


theorem Dev.sys_deliverReport (d : Dev) : (d.deliverReport).sys = d.sys := by
  unfold Dev.deliverReport
  split
  · rfl
  · split
    · exact (Dev.sys_arrive _ _).trans rfl
    · rfl


theorem Dev.sys_currentLimit (d : Dev) (m : MotorIx) (x : Int) : (d.currentLimit m x).sys = d.sys := by
  unfold Dev.currentLimit
  try dsimp only
  repeat' (first
    | with_reducible rfl
    | with_reducible exact isSys_of_le (by first | omega | decide | (simp only [aCur, aMot]; omega))
    | with_reducible exact isSysSrc_of_lt (by omega)
    | (show isSysSrc _ = false; decide)
    | (show isSys _ = false; decide)
    | split
    | with_reducible refine (Dev.sys_settleOut _ _).trans ?_
    | with_reducible refine (Dev.sys_putB _ _ _ _ ?_).trans ?_
    | with_reducible refine (Dev.sys_onMot _ _ _).trans ?_
    | with_reducible refine (Dev.sys_judgeLimit _ _).trans ?_)

theorem Dev.sys_lebOver (d : Dev) (m : MotorIx) : (d.lebOver m).sys = d.sys := by
  unfold Dev.lebOver
  try dsimp only
  repeat' (first
    | with_reducible rfl
    | with_reducible exact isSys_of_le (by first | omega | decide | (simp only [aCur]; omega))
    | with_reducible exact isSysSrc_of_lt (by omega)
    | (show isSysSrc _ = false; decide)
    | split
    | with_reducible refine (Dev.sys_onMot _ _ _).trans ?_
    | with_reducible refine (Dev.sys_judgeLimit _ _).trans ?_)

theorem Dev.sys_shortSet (d : Dev) (m : MotorIx) : (d.shortSet m).sys = d.sys := by
  unfold Dev.shortSet
  try dsimp only
  repeat' (first
    | with_reducible rfl
    | with_reducible exact isSys_of_le (by first | omega | decide | (simp only [aCur]; omega))
    | with_reducible exact isSysSrc_of_lt (by omega)
    | (show isSysSrc _ = false; decide)
    | split
    | with_reducible refine (Dev.sys_setB _ _ _ ?_).trans ?_
    | with_reducible refine (Dev.sys_report _ _ _ _).trans ?_
    | with_reducible refine (Dev.sys_syncHshort _ _).trans ?_)

theorem Dev.sys_hardShort (d : Dev) (m : MotorIx) (x : Int) : (d.hardShort m x).sys = d.sys := by
  unfold Dev.hardShort
  repeat' (first
    | with_reducible rfl
    | with_reducible exact isSys_of_le (by first | omega | decide | (simp only [aCur]; omega))
    | with_reducible exact isSysSrc_of_lt (by omega)
    | (show isSysSrc _ = false; decide)
    | split
    | with_reducible refine (Dev.sys_putB _ _ _ _ ?_).trans ?_
    | with_reducible refine (Dev.sys_shortSet _ _).trans ?_)

theorem Dev.sys_busSet (d : Dev) (g : GroupIx) : (d.busSet g).sys = d.sys := by
  unfold Dev.busSet
  try dsimp only
  repeat' (first
    | with_reducible rfl
    | with_reducible exact isSys_of_le (by first | omega | decide | (simp only [aSup, aBus]; omega))
    | with_reducible exact isSysSrc_of_lt (by omega)
    | (show isSysSrc _ = false; decide)
    | split
    | with_reducible refine (Dev.sys_setB _ _ _ ?_).trans ?_
    | with_reducible refine (Dev.sys_inc _ _ ?_).trans ?_
    | with_reducible refine (Dev.sys_busTrip _ _).trans ?_)

theorem Dev.sys_busLatch (d : Dev) (g : GroupIx) (x : Int) : (d.busLatch g x).sys = d.sys := by
  unfold Dev.busLatch
  repeat' (first
    | with_reducible rfl
    | with_reducible exact isSys_of_le (by first | omega | decide | (simp only [aBus]; omega))
    | with_reducible exact isSysSrc_of_lt (by omega)
    | (show isSysSrc _ = false; decide)
    | split
    | with_reducible refine (Dev.sys_putB _ _ _ _ ?_).trans ?_
    | with_reducible refine (Dev.sys_busSet _ _).trans ?_)

theorem Dev.sys_phaseLatch (d : Dev) (m : MotorIx) (ph : Fin 3) (x : Int) : (d.phaseLatch m ph x).sys = d.sys := by
  unfold Dev.phaseLatch
  try dsimp only
  repeat' (first
    | with_reducible rfl
    | with_reducible exact isSys_of_le (by first | omega | decide)
    | with_reducible exact isSysSrc_of_lt (by omega)
    | (show isSysSrc _ = false; decide)
    | split
    | with_reducible refine (Dev.sys_nextFree _).trans ?_
    | with_reducible refine (Dev.sys_when _ _ _ (fun d => ?_)).trans ?_
    | with_reducible refine (Dev.sys_phaseLevel _ _ _ _).trans ?_)

theorem Dev.sys_clearLat (d : Dev) (m : MotorIx) (mask : Word) : (d.clearLat m mask).sys = d.sys := by
  unfold Dev.clearLat
  try dsimp only
  repeat' (first
    | with_reducible rfl
    | with_reducible exact isSys_of_le (by first | omega | decide | (simp only [aCur]; omega))
    | with_reducible exact isSysSrc_of_lt (by omega)
    | (show isSysSrc _ = false; decide)
    | split
    | with_reducible refine (Dev.sys_setB _ _ _ ?_).trans ?_
    | with_reducible refine (Dev.sys_clrW _ _ _ ?_).trans ?_
    | with_reducible refine (Dev.sys_each _ _ (fun d x => ?_) _).trans ?_
    | with_reducible refine (Dev.sys_when _ _ _ (fun d => ?_)).trans ?_
    | with_reducible refine (Dev.sys_syncHshort _ _).trans ?_
    | with_reducible refine (Dev.sys_limitCheck _ _).trans ?_
    | with_reducible refine (Dev.sys_shortSet _ _).trans ?_)

theorem Dev.sys_clearBlat (d : Dev) (g : GroupIx) (mask : Word) : (d.clearBlat g mask).sys = d.sys := by
  unfold Dev.clearBlat
  try dsimp only
  repeat' (first
    | with_reducible rfl
    | with_reducible exact isSys_of_le (by first | omega | decide | (simp only [aBus]; omega))
    | with_reducible exact isSysSrc_of_lt (by omega)
    | (show isSysSrc _ = false; decide)
    | split
    | with_reducible refine (Dev.sys_clrW _ _ _ ?_).trans ?_
    | with_reducible refine (Dev.sys_with_busDue _ _).trans ?_)

theorem Dev.sys_chopTimeout (d : Dev) (g : GroupIx) (fb : Bool) : (d.chopTimeout g fb).sys = d.sys := by
  unfold Dev.chopTimeout
  try dsimp only
  repeat' (first
    | with_reducible rfl
    | with_reducible exact isSys_of_le (by first | omega | decide | (simp only [aSup]; omega))
    | with_reducible exact isSysSrc_of_lt (by omega)
    | (show isSysSrc _ = false; decide)
    | split
    | with_reducible refine (Dev.sys_putB _ _ _ _ ?_).trans ?_
    | with_reducible refine (Dev.sys_onGrp _ _ _).trans ?_
    | with_reducible refine (Dev.sys_chopFault _ _ _).trans ?_)

theorem Dev.sys_writeSupCfg (d : Dev) (g : GroupIx) (v : Word) : (d.writeSupCfg g v).sys = d.sys := by
  unfold Dev.writeSupCfg
  try dsimp only
  repeat' (first
    | with_reducible rfl
    | with_reducible exact isSys_of_le (by first | omega | decide | (simp only [aSup]; omega))
    | with_reducible exact isSysSrc_of_lt (by omega)
    | (show isSysSrc _ = false; decide)
    | split
    | with_reducible refine (Dev.sys_put _ _ _ ?_).trans ?_
    | with_reducible refine (Dev.sys_onGrp _ _ _).trans ?_
    | with_reducible refine (Dev.sys_setBrk _ _).trans ?_)

theorem Dev.sys_testPulse (d : Dev) (g : GroupIx) (v : Word) : (d.testPulse g v).sys = d.sys := by
  unfold Dev.testPulse
  repeat' (first
    | with_reducible rfl
    | with_reducible exact isSys_of_le (by first | omega | decide)
    | with_reducible exact isSysSrc_of_lt (by omega)
    | (show isSysSrc _ = false; decide)
    | split
    | with_reducible refine (Dev.sys_onGrp _ _ _).trans ?_
    | with_reducible refine (Dev.sys_setBrk _ _).trans ?_)

theorem Dev.sys_testPulseOver (d : Dev) (g : GroupIx) : (d.testPulseOver g).sys = d.sys := by
  unfold Dev.testPulseOver
  try dsimp only
  repeat' (first
    | with_reducible rfl
    | with_reducible exact isSys_of_le (by first | omega | decide)
    | with_reducible exact isSysSrc_of_lt (by omega)
    | (show isSysSrc _ = false; decide)
    | split
    | with_reducible refine (Dev.sys_onGrp _ _ _).trans ?_
    | with_reducible refine (Dev.sys_setBrk _ _).trans ?_)

theorem Dev.sys_dueGlint (d : Dev) : d.dueGlint.sys = d.sys :=
  (Dev.sys_with_busDue _ _).trans ((Dev.sys_each _ _ (fun d g => Dev.sys_busSet d g) _).trans
    ((Dev.sys_with_glDue _ _).trans (Dev.sys_each _ _ (fun d m => Dev.sys_enforceGlint d m) _)))



theorem Dev.sys_putSlotWord (d : Dev) (s i : Nat) (v : Word) : (d.putSlotWord s i v).sys = d.sys := by
  unfold Dev.putSlotWord
  repeat' (first
    | with_reducible rfl
    | with_reducible exact isSys_of_le (by first | omega | decide)
    | with_reducible exact isSysSrc_of_lt (by omega)
    | (show isSysSrc _ = false; decide)
    | split
    | with_reducible refine (Dev.sys_with_store _ _).trans ?_)

theorem Dev.sys_markSlot (d : Dev) (s : Nat) (v : Word) : (d.markSlot s v).sys = d.sys := by
  unfold Dev.markSlot
  try dsimp only
  repeat' (first
    | with_reducible rfl
    | with_reducible exact isSys_of_le (by first | omega | decide | (simp only [aMot]; omega))
    | with_reducible exact isSysSrc_of_lt (by omega)
    | (show isSysSrc _ = false; decide)
    | (show isSys _ = false; decide)
    | split
    | with_reducible refine (Dev.sys_with_marks _ _).trans ?_)

theorem Dev.sys_prepareSlot (d : Dev) (s : Nat) (w0 w1 w2 w3 : Word) : (d.prepareSlot s w0 w1 w2 w3).sys = d.sys := by
  unfold Dev.prepareSlot
  try dsimp only
  repeat' (first
    | with_reducible rfl
    | with_reducible exact isSys_of_le (by first | omega | decide | (simp only [aMot]; omega))
    | with_reducible exact isSysSrc_of_lt (by omega)
    | (show isSysSrc _ = false; decide)
    | (show isSys _ = false; decide)
    | split
    | with_reducible refine (Dev.sys_markSlot _ _ _).trans ?_
    | with_reducible refine (Dev.sys_putSlotWord _ _ _ _).trans ?_)

theorem Dev.sys_writeSlot (d : Dev) (s : Nat) (r : Rec) : (d.writeSlot s r).sys = d.sys := by
  unfold Dev.writeSlot
  try dsimp only
  repeat' (first
    | with_reducible rfl
    | with_reducible exact isSys_of_le (by first | omega | decide | (simp only [aMot]; omega))
    | with_reducible exact isSysSrc_of_lt (by omega)
    | (show isSysSrc _ = false; decide)
    | (show isSys _ = false; decide)
    | split
    | with_reducible refine (Dev.sys_prepareSlot _ _ _ _ _ _).trans ?_
    | with_reducible refine (Dev.sys_markSlot _ _ _).trans ?_)

theorem Dev.sys_clearSlot (d : Dev) (s : Nat) : (d.clearSlot s).sys = d.sys := by
  unfold Dev.clearSlot
  try dsimp only
  repeat' (first
    | with_reducible rfl
    | with_reducible exact isSys_of_le (by first | omega | decide | (simp only [aMot]; omega))
    | with_reducible exact isSysSrc_of_lt (by omega)
    | (show isSysSrc _ = false; decide)
    | (show isSys _ = false; decide)
    | split
    | with_reducible refine (Dev.sys_prepareSlot _ _ _ _ _ _).trans ?_)

theorem Dev.sys_book (d : Dev) (off : Nat) (v : BitVec 32) : (d.book off v).sys = d.sys := by
  unfold Dev.book
  repeat' (first
    | with_reducible rfl
    | with_reducible exact isSys_of_le (by first | omega | decide)
    | with_reducible exact isSysSrc_of_lt (by omega)
    | (show isSysSrc _ = false; decide)
    | split
    | with_reducible refine (Dev.sys_put32 _ _ _ ?_ ?_).trans ?_)

theorem Dev.sys_writeMirror (d : Dev) (pend old : Bool) : (d.writeMirror pend old).sys = d.sys := by
  unfold Dev.writeMirror
  try dsimp only
  repeat' (first
    | with_reducible rfl
    | with_reducible exact isSys_of_le (by first | omega | decide | (simp only [aMot]; omega))
    | with_reducible exact isSysSrc_of_lt (by omega)
    | (show isSysSrc _ = false; decide)
    | (show isSys _ = false; decide)
    | split
    | with_reducible refine (Dev.sys_with_devLog _ _).trans ?_
    | with_reducible refine (Dev.sys_with_logWrote _ _).trans ?_
    | rfl)

theorem Dev.sys_mirrorBooks (d : Dev) : (d.mirrorBooks).sys = d.sys := by
  unfold Dev.mirrorBooks
  repeat' (first
    | with_reducible rfl
    | with_reducible exact isSys_of_le (by first | omega | decide)
    | with_reducible exact isSysSrc_of_lt (by omega)
    | (show isSysSrc _ = false; decide)
    | split
    | with_reducible refine (Dev.sys_writeMirror _ _ _).trans ?_)

theorem Dev.sys_discardRec (d : Dev) : (d.discardRec).sys = d.sys := by
  unfold Dev.discardRec
  repeat' (first
    | with_reducible rfl
    | with_reducible exact isSys_of_le (by first | omega | decide)
    | with_reducible exact isSysSrc_of_lt (by omega)
    | (show isSysSrc _ = false; decide)
    | split
    | with_reducible refine (Dev.sys_book _ _ _).trans ?_
    | with_reducible refine (Dev.sys_mirrorBooks _).trans ?_)

theorem Dev.sys_makeRec (d : Dev) (r : Rec) : (d.makeRec r).sys = d.sys := by
  unfold Dev.makeRec
  split
  · exact Dev.sys_discardRec d
  · rfl


theorem Dev.sys_advanceWptr (d : Dev) : (d.advanceWptr).sys = d.sys := by
  unfold Dev.advanceWptr
  try dsimp only
  repeat' (first
    | with_reducible rfl
    | with_reducible exact isSys_of_le (by first | omega | decide)
    | with_reducible exact isSysSrc_of_lt (by omega)
    | (show isSysSrc _ = false; decide)
    | split
    | with_reducible refine (Dev.sys_putB _ _ _ _ ?_).trans ?_
    | with_reducible refine (Dev.sys_put32 _ _ _ ?_ ?_).trans ?_)

theorem Dev.sys_commitEmptied (d : Dev) (old : Bool) : (d.commitEmptied old).sys = d.sys := by
  unfold Dev.commitEmptied
  repeat' (first
    | with_reducible rfl
    | with_reducible exact isSys_of_le (by first | omega | decide)
    | with_reducible exact isSysSrc_of_lt (by omega)
    | (show isSysSrc _ = false; decide)
    | split
    | with_reducible refine (Dev.sys_book _ _ _).trans ?_
    | with_reducible refine (Dev.sys_writeMirror _ _ _).trans ?_)

theorem Dev.sys_commitRec (d : Dev) : (d.commitRec).sys = d.sys := by
  unfold Dev.commitRec
  split
  · rfl
  · dsimp only
    split
    · rfl
    · split
      · exact (Dev.sys_discardRec _).trans (Dev.sys_with_recq _ _)
      · split
        · exact (Dev.sys_commitEmptied _ _).trans (Dev.sys_with_recq _ _)
        · exact (Dev.sys_writeMirror _ _ _).trans ((Dev.sys_advanceWptr _).trans ((Dev.sys_book _ _ _).trans
            ((Dev.sys_book _ _ _).trans ((Dev.sys_writeSlot _ _ _).trans ((Dev.sys_writeMirror _ _ _).trans
              (Dev.sys_with_recq _ _))))))


theorem Dev.sys_emptyStore (d : Dev) : (d.emptyStore).sys = d.sys := by
  unfold Dev.emptyStore
  dsimp only
  generalize hd0 : ({ d with store := _, marks := _, emptied := _ } : Dev) = d0
  have e0 : d0.sys = d.sys := hd0 ▸ rfl
  clear hd0
  exact (Dev.sys_mirrorBooks _).trans ((Dev.sys_book _ _ _).trans ((Dev.sys_put32 _ _ _ (by decide) (by decide)).trans
    ((Dev.sys_put _ _ _ (by decide)).trans ((Dev.sys_put32 _ _ _ (by decide) (by decide)).trans e0))))


theorem Dev.sys_alarmEvent (d : Dev) (t : TraceIx) : (d.alarmEvent t).sys = d.sys := by
  unfold Dev.alarmEvent
  repeat' (first
    | with_reducible rfl
    | with_reducible exact isSys_of_le (by first | omega | decide)
    | with_reducible exact isSysSrc_of_lt (by omega)
    | (show isSysSrc _ = false; decide)
    | split
    | with_reducible refine (Dev.sys_cause _ _ _ _ ?_ ?_).trans ?_)

theorem Dev.sys_alarm (d : Dev) (t : TraceIx) (bit n : Nat) (a r : Bool) : (d.alarm t bit n a r).1.sys = d.sys := by
  have ha : ∀ o, isSys (aTr t o) = false := fun o => isSys_of_le (by simp only [aTr]; omega)
  unfold Dev.alarm
  dsimp only
  repeat' (first
    | with_reducible rfl
    | split
    | with_reducible exact Dev.sys_putB _ _ _ _ (ha _)
    | with_reducible refine (Dev.sys_alarmEvent _ _).trans ?_)

theorem Dev.sys_alarms (d : Dev) (t : TraceIx) (y : Option Int) : (d.alarms t y).sys = d.sys := by
  have ha : ∀ o, isSys (aTr t o) = false := fun o => isSys_of_le (by simp only [aTr]; omega)
  unfold Dev.alarms
  dsimp only
  repeat' (first
    | with_reducible rfl
    | split
    | with_reducible refine (Dev.sys_onTrc _ _ _).trans ?_
    | with_reducible refine (Dev.sys_when _ _ _ (fun d => Dev.sys_putB _ _ _ _ (ha _))).trans ?_
    | with_reducible refine (Dev.sys_putB _ _ _ _ (ha _)).trans ?_
    | with_reducible refine (Dev.sys_alarm _ _ _ _ _ _).trans ?_)


theorem Dev.sys_writeSeg (d : Dev) (t : TraceIx) (s : Seg) : (d.writeSeg t s).sys = d.sys := by
  unfold Dev.writeSeg
  try dsimp only
  repeat' (first
    | with_reducible rfl
    | with_reducible exact isSys_of_le (by first | omega | decide | (simp only [aTr]; omega))
    | with_reducible exact isSysSrc_of_lt (by omega)
    | (show isSysSrc _ = false; decide)
    | split
    | with_reducible refine (Dev.sys_putF _ _ _ _ _ ?_).trans ?_
    | with_reducible refine (Dev.sys_makeRec _ _).trans ?_)

theorem Dev.sys_flushSeg (d : Dev) (t : TraceIx) : (d.flushSeg t).sys = d.sys := by
  unfold Dev.flushSeg
  try dsimp only
  repeat' (first
    | with_reducible rfl
    | with_reducible exact isSys_of_le (by first | omega | decide)
    | with_reducible exact isSysSrc_of_lt (by omega)
    | (show isSysSrc _ = false; decide)
    | split
    | with_reducible refine (Dev.sys_writeSeg _ _ _).trans ?_)

theorem Dev.sys_writeAnchor (d : Dev) (t : TraceIx) (rsn : Nat) (y : Int) (tick : BitVec 32) : (d.writeAnchor t rsn y tick).sys = d.sys := by
  unfold Dev.writeAnchor
  try dsimp only
  repeat' (first
    | with_reducible rfl
    | with_reducible exact isSys_of_le (by first | omega | decide | (simp only [aTr]; omega))
    | with_reducible exact isSysSrc_of_lt (by omega)
    | (show isSysSrc _ = false; decide)
    | split
    | with_reducible refine (Dev.sys_putF _ _ _ _ _ ?_).trans ?_
    | with_reducible refine (Dev.sys_onTrc _ _ _).trans ?_
    | with_reducible refine (Dev.sys_makeRec _ _).trans ?_)

theorem Dev.sys_setSeg (d : Dev) (t : TraceIx) (s : Option Seg) : (d.setSeg t s).sys = d.sys := by
  unfold Dev.setSeg
  repeat' (first
    | with_reducible rfl
    | with_reducible exact isSys_of_le (by first | omega | decide | (simp only [aTr]; omega))
    | with_reducible exact isSysSrc_of_lt (by omega)
    | (show isSysSrc _ = false; decide)
    | split
    | with_reducible refine (Dev.sys_putB _ _ _ _ ?_).trans ?_
    | with_reducible refine (Dev.sys_onTrc _ _ _).trans ?_)

theorem Dev.sys_pendAnchor (d : Dev) (t : TraceIx) (code : Nat) : (d.pendAnchor t code).sys = d.sys := by
  unfold Dev.pendAnchor
  repeat' (first
    | with_reducible rfl
    | with_reducible exact isSys_of_le (by first | omega | decide)
    | with_reducible exact isSysSrc_of_lt (by omega)
    | (show isSysSrc _ = false; decide)
    | split
    | with_reducible refine (Dev.sys_onTrc _ _ _).trans ?_)

theorem Dev.sys_dropSeg (d : Dev) (t : TraceIx) (code : Nat) : (d.dropSeg t code).sys = d.sys := by
  unfold Dev.dropSeg
  repeat' (first
    | with_reducible rfl
    | with_reducible exact isSys_of_le (by first | omega | decide)
    | with_reducible exact isSysSrc_of_lt (by omega)
    | (show isSysSrc _ = false; decide)
    | split
    | with_reducible refine (Dev.sys_setSeg _ _ _).trans ?_
    | with_reducible refine (Dev.sys_pendAnchor _ _ _).trans ?_)

theorem Dev.sys_newTraceCfg (d : Dev) (t : TraceIx) : (d.newTraceCfg t).sys = d.sys := by
  unfold Dev.newTraceCfg
  try dsimp only
  repeat' (first
    | with_reducible rfl
    | with_reducible exact isSys_of_le (by first | omega | decide | (simp only [aTr]; omega))
    | with_reducible exact isSysSrc_of_lt (by omega)
    | (show isSysSrc _ = false; decide)
    | split
    | with_reducible refine (Dev.sys_onTrc _ _ _).trans ?_)

theorem Dev.sys_breakAnchor (d : Dev) (t : TraceIx) (rsn : Nat) (y : Int) : (d.breakAnchor t rsn y).sys = d.sys := by
  unfold Dev.breakAnchor
  repeat' (first
    | with_reducible rfl
    | with_reducible exact isSys_of_le (by first | omega | decide)
    | with_reducible exact isSysSrc_of_lt (by omega)
    | (show isSysSrc _ = false; decide)
    | split
    | with_reducible refine (Dev.sys_writeAnchor _ _ _ _ _).trans ?_
    | with_reducible refine (Dev.sys_setSeg _ _ _).trans ?_)

theorem Dev.sys_compress (d : Dev) (t : TraceIx) (s : Seg) (y : Int) : (d.compress t s y).sys = d.sys := by
  unfold Dev.compress
  try dsimp only
  repeat' (first
    | with_reducible rfl
    | with_reducible exact isSys_of_le (by first | omega | decide)
    | with_reducible exact isSysSrc_of_lt (by omega)
    | (show isSysSrc _ = false; decide)
    | split
    | with_reducible refine (Dev.sys_writeSeg _ _ _).trans ?_
    | with_reducible refine (Dev.sys_setSeg _ _ _).trans ?_)

theorem Dev.sys_compressor (d : Dev) (t : TraceIx) (y : Option Int) : (d.compressor t y).sys = d.sys := by
  unfold Dev.compressor
  try dsimp only
  repeat' (first
    | with_reducible rfl
    | with_reducible exact isSys_of_le (by first | omega | decide | (simp only [aTr]; omega))
    | with_reducible exact isSysSrc_of_lt (by omega)
    | (show isSysSrc _ = false; decide)
    | split
    | with_reducible refine (Dev.sys_flushSeg _ _).trans ?_
    | with_reducible refine (Dev.sys_writeAnchor _ _ _ _ _).trans ?_
    | with_reducible refine (Dev.sys_setSeg _ _ _).trans ?_
    | with_reducible refine (Dev.sys_pendAnchor _ _ _).trans ?_
    | with_reducible refine (Dev.sys_newTraceCfg _ _).trans ?_
    | with_reducible refine (Dev.sys_breakAnchor _ _ _ _).trans ?_
    | with_reducible refine (Dev.sys_compress _ _ _ _).trans ?_)

theorem Dev.sys_traceSampleNow (d : Dev) (t : TraceIx) : (d.traceSampleNow t).sys = d.sys := by
  unfold Dev.traceSampleNow
  try dsimp only
  repeat' (first
    | with_reducible rfl
    | with_reducible exact isSys_of_le (by first | omega | decide | (simp only [aTr]; omega))
    | with_reducible exact isSysSrc_of_lt (by omega)
    | (show isSysSrc _ = false; decide)
    | split
    | with_reducible refine (Dev.sys_put _ _ _ ?_).trans ?_
    | with_reducible refine (Dev.sys_putB _ _ _ _ ?_).trans ?_
    | with_reducible refine (Dev.sys_onTrc _ _ _).trans ?_
    | with_reducible refine (Dev.sys_enforce _ _ _).trans ?_
    | with_reducible refine (Dev.sys_alarms _ _ _).trans ?_
    | with_reducible refine (Dev.sys_compressor _ _ _).trans ?_)

theorem Dev.sys_traceTick (d : Dev) : (d.traceTick).sys = d.sys := by
  unfold Dev.traceTick
  dsimp only
  split
  · refine (Dev.sys_each _ _ (fun d t => ?_) _).trans ?_
    · split
      · rfl
      · split
        · exact Dev.sys_traceSampleNow _ _
        · rfl
    · generalize hd0 : ({ d.put32 0xB483 _ with tickAt := _, ticks := _ } : Dev) = d0
      have e0 : d0.sys = (d.put32 0xB483 (d.ttick + 1)).sys := hd0 ▸ rfl
      exact e0.trans (Dev.sys_put32 _ _ _ (by decide) (by decide))
  · rfl


theorem Dev.sys_writeTraceSrc (d : Dev) (t : TraceIx) (v : Word) : (d.writeTraceSrc t v).sys = d.sys := by
  unfold Dev.writeTraceSrc
  try dsimp only
  repeat' (first
    | with_reducible rfl
    | with_reducible exact isSys_of_le (by first | omega | decide | (simp only [aTr]; omega))
    | with_reducible exact isSysSrc_of_lt (by omega)
    | (show isSysSrc _ = false; decide)
    | split
    | with_reducible refine (Dev.sys_put _ _ _ ?_).trans ?_
    | with_reducible refine (Dev.sys_onTrc _ _ _).trans ?_
    | with_reducible refine (Dev.sys_flushSeg _ _).trans ?_
    | with_reducible refine (Dev.sys_setSeg _ _ _).trans ?_
    | with_reducible refine (Dev.sys_pendAnchor _ _ _).trans ?_
    | with_reducible refine (Dev.sys_newTraceCfg _ _).trans ?_)

theorem Dev.sys_writeTraceTag (d : Dev) (t : TraceIx) (v : Word) : (d.writeTraceTag t v).sys = d.sys := by
  unfold Dev.writeTraceTag
  try dsimp only
  repeat' (first
    | with_reducible rfl
    | with_reducible exact isSys_of_le (by first | omega | decide | (simp only [aTr]; omega))
    | with_reducible exact isSysSrc_of_lt (by omega)
    | (show isSysSrc _ = false; decide)
    | split
    | with_reducible refine (Dev.sys_put _ _ _ ?_).trans ?_
    | with_reducible refine (Dev.sys_pendAnchor _ _ _).trans ?_)

theorem Dev.sys_writeTraceRate (d : Dev) (t : TraceIx) (v : Word) : (d.writeTraceRate t v).sys = d.sys := by
  unfold Dev.writeTraceRate
  try dsimp only
  repeat' (first
    | with_reducible rfl
    | with_reducible exact isSys_of_le (by first | omega | decide | (simp only [aTr]; omega))
    | with_reducible exact isSysSrc_of_lt (by omega)
    | (show isSysSrc _ = false; decide)
    | split
    | with_reducible refine (Dev.sys_put _ _ _ ?_).trans ?_
    | with_reducible refine (Dev.sys_pendAnchor _ _ _).trans ?_)

theorem Dev.sys_writeHin (d : Dev) (t : TraceIx) (v : Word) : (d.writeHin t v).sys = d.sys := by
  unfold Dev.writeHin
  repeat' (first
    | with_reducible rfl
    | with_reducible exact isSys_of_le (by first | omega | decide)
    | with_reducible exact isSysSrc_of_lt (by omega)
    | (show isSysSrc _ = false; decide)
    | split
    | with_reducible refine (Dev.sys_put _ _ _ ?_).trans ?_
    | with_reducible refine (Dev.sys_onTrc _ _ _).trans ?_)

theorem Dev.sys_writeTraceCmd (d : Dev) (v : Word) : (d.writeTraceCmd v).sys = d.sys := by
  unfold Dev.writeTraceCmd
  try dsimp only
  repeat' (first
    | with_reducible rfl
    | with_reducible exact isSys_of_le (by first | omega | decide)
    | with_reducible exact isSysSrc_of_lt (by omega)
    | (show isSysSrc _ = false; decide)
    | split
    | with_reducible refine (Dev.sys_emptyStore _).trans ?_
    | with_reducible refine (Dev.sys_pendAnchor _ _ _).trans ?_)

theorem Dev.sys_pendEnabled (d : Dev) (code : Nat) : (d.pendEnabled code).sys = d.sys := by
  unfold Dev.pendEnabled
  repeat' (first
    | with_reducible rfl
    | with_reducible exact isSys_of_le (by first | omega | decide | (simp only [aTr]; omega))
    | with_reducible exact isSysSrc_of_lt (by omega)
    | (show isSysSrc _ = false; decide)
    | split
    | with_reducible refine (Dev.sys_each _ _ (fun d x => ?_) _).trans ?_
    | with_reducible refine (Dev.sys_pendAnchor _ _ _).trans ?_)

theorem Dev.sys_thermMissed (d : Dev) (s : SensorIx) : (d.thermMissed s).sys = d.sys := by
  unfold Dev.thermMissed
  repeat' (first
    | with_reducible rfl
    | with_reducible exact isSys_of_le (by first | omega | decide | (simp only [aSen]; omega))
    | with_reducible exact isSysSrc_of_lt (by omega)
    | (show isSysSrc _ = false; decide)
    | split
    | with_reducible refine (Dev.sys_putB _ _ _ _ ?_).trans ?_
    | with_reducible refine (Dev.sys_onSen _ _ _).trans ?_)

theorem Dev.sys_thermFeed (d : Dev) (p : GroupIx) : (d.thermFeed p).sys = d.sys := by
  unfold Dev.thermFeed
  try dsimp only
  repeat' (first
    | with_reducible rfl
    | with_reducible exact isSys_of_le (by first | omega | decide | (simp only [aSen]; omega))
    | with_reducible exact isSysSrc_of_lt (by omega)
    | (show isSysSrc _ = false; decide)
    | split
    | with_reducible refine (Dev.sys_onPrm _ _ _).trans ?_
    | with_reducible refine (Dev.sys_onSen _ _ _).trans ?_)

theorem Dev.sys_thermOver (d : Dev) (p : GroupIx) (s : SensorIx) : (d.thermOver p s).sys = d.sys := by
  unfold Dev.thermOver
  dsimp only
  split
  · exact (Dev.sys_thermFeed _ _).trans rfl
  · rfl

theorem Dev.sys_thermRequest (d : Dev) (s : SensorIx) : (d.thermRequest s).sys = d.sys := by
  unfold Dev.thermRequest
  try dsimp only
  repeat' (first
    | with_reducible rfl
    | with_reducible exact isSys_of_le (by first | omega | decide)
    | with_reducible exact isSysSrc_of_lt (by omega)
    | (show isSysSrc _ = false; decide)
    | split
    | with_reducible refine (Dev.sys_onSen _ _ _).trans ?_
    | with_reducible refine (Dev.sys_thermMissed _ _).trans ?_
    | with_reducible refine (Dev.sys_thermFeed _ _).trans ?_)

theorem Dev.sys_thermFlush (d : Dev) (p : GroupIx) : (d.thermFlush p).sys = d.sys := by
  unfold Dev.thermFlush
  try dsimp only
  repeat' (first
    | with_reducible rfl
    | with_reducible exact isSys_of_le (by first | omega | decide | (simp only [aMot]; omega))
    | with_reducible exact isSysSrc_of_lt (by omega)
    | (show isSysSrc _ = false; decide)
    | (show isSys _ = false; decide)
    | split
    | with_reducible refine (Dev.sys_onPrm _ _ _).trans ?_
    | with_reducible refine (Dev.sys_each _ _ (fun x y => ?_) _).trans ?_
    | with_reducible refine (Dev.sys_thermOver _ _ _).trans ?_
    | with_reducible refine (Dev.sys_thermMissed _ _).trans ?_
    | with_reducible refine (Dev.sys_onSen _ _ _).trans ?_)

theorem Dev.sys_thermDrop (d : Dev) (p : GroupIx) : (d.thermDrop p).sys = d.sys := by
  unfold Dev.thermDrop
  try dsimp only
  repeat' (first
    | with_reducible rfl
    | with_reducible exact isSys_of_le (by first | omega | decide | (simp only [aMot]; omega))
    | with_reducible exact isSysSrc_of_lt (by omega)
    | (show isSysSrc _ = false; decide)
    | (show isSys _ = false; decide)
    | split
    | with_reducible refine (Dev.sys_thermFlush _ _).trans ?_
    | with_reducible refine (Dev.sys_each _ _ (fun x y => ?_) _).trans ?_
    | with_reducible refine (Dev.sys_thermMissed _ _).trans ?_
    | with_reducible refine (Dev.sys_onSen _ _ _).trans ?_)

theorem Dev.sys_thermPeriod (d : Dev) : (d.thermPeriod).sys = d.sys := by
  unfold Dev.thermPeriod
  dsimp only
  split
  · exact (Dev.sys_enforce _ _ _).trans ((Dev.sys_each _ _ (fun d s => Dev.sys_thermRequest d s) _).trans rfl)
  · rfl


theorem Dev.sys_thermJudge (d : Dev) (s : SensorIx) (bit cause src : Nat) (thr : Int) (first : Option Nat)
    (hc : isSys cause = false) (hs : isSysSrc src = false) : (d.thermJudge s bit cause src thr first).1.sys = d.sys := by
  unfold Dev.thermJudge
  dsimp only
  generalize (if d.bit 0x1001 (bit + s.1) = true then _ else _ : Bool) = met
  split
  · rfl
  · split
    · rfl
    · split
      · exact (Dev.sys_cause _ _ _ _ (by decide) (by decide)).trans (Dev.sys_putB _ _ _ _ (by decide))
      · exact (Dev.sys_cause _ _ _ _ hc hs).trans (Dev.sys_putB _ _ _ _ (by decide))

theorem Dev.sys_thermReading (d : Dev) (s : SensorIx) (v : Word) : (d.thermReading s v).sys = d.sys := by
  have ha : ∀ o, isSys (aSen s o) = false := fun o => isSys_of_le (by simp only [aSen]; omega)
  have ha' : ∀ o, isSys (aSen s o + 1) = false := fun o => isSys_of_le (by simp only [aSen]; omega)
  unfold Dev.thermReading
  dsimp only
  exact (Dev.sys_onSen _ _ _).trans ((Dev.sys_thermJudge _ _ _ _ _ _ _ (by decide) (by decide)).trans
    ((Dev.sys_thermJudge _ _ _ _ _ _ _ (by decide) (by decide)).trans ((Dev.sys_onSen _ _ _).trans
    ((Dev.sys_put _ _ _ (ha _)).trans ((Dev.sys_stampTime _ _ (ha _) (ha' _)).trans (Dev.sys_put _ _ _ (ha _)))))))


theorem Dev.sys_closeRead (d : Dev) (p : GroupIx) (a : Fin 64) : (d.closeRead p a).sys = d.sys := by
  unfold Dev.closeRead
  try dsimp only
  repeat' (first
    | with_reducible rfl
    | with_reducible exact isSys_of_le (by first | omega | decide | (simp only [aAcc, aMot, aSup]; omega))
    | with_reducible exact isSysSrc_of_lt (by omega)
    | (show isSysSrc _ = false; decide)
    | (show isSys _ = false; decide)
    | split
    | with_reducible refine (Dev.sys_supEvaluate _ _ _).trans ?_
    | with_reducible refine (Dev.sys_each _ _ (fun x y => ?_) _).trans ?_
    | with_reducible refine (Dev.sys_measureCmd _ _ _ _).trans ?_
    | with_reducible refine (Dev.sys_thermOver _ _ _).trans ?_
    | with_reducible refine (Dev.sys_thermReading _ _ _).trans ?_
    | with_reducible refine (Dev.sys_thermFeed _ _).trans ?_)

theorem Dev.sys_closed (d : Dev) (p : GroupIx) (a : Fin 64) (late : Bool) : (d.closed p a late).sys = d.sys := by
  unfold Dev.closed
  try dsimp only
  repeat' (first
    | with_reducible rfl
    | with_reducible exact isSys_of_le (by first | omega | decide | (simp only [aMot]; omega))
    | with_reducible exact isSysSrc_of_lt (by omega)
    | (show isSysSrc _ = false; decide)
    | (show isSys _ = false; decide)
    | split
    | with_reducible refine (Dev.sys_closeCount _ _ _ _).trans ?_
    | with_reducible refine (Dev.sys_closeRead _ _ _).trans ?_
    | with_reducible refine (Dev.sys_with_closeLate _ _).trans ?_)

theorem Dev.sys_closeDue (d : Dev) (p : GroupIx) (a : Fin 64) : (d.closeDue p a).sys = d.sys := by
  unfold Dev.closeDue
  try dsimp only
  repeat' (first
    | with_reducible rfl
    | with_reducible exact isSys_of_le (by first | omega | decide)
    | with_reducible exact isSysSrc_of_lt (by omega)
    | (show isSysSrc _ = false; decide)
    | split
    | with_reducible refine (Dev.sys_closed _ _ _ _).trans ?_)

theorem Dev.sys_accEnter (d : Dev) (p : GroupIx) (a : Fin 64) (y : Int) : (d.accEnter p a y).1.sys = d.sys := by
  unfold Dev.accEnter
  dsimp only
  repeat' (first
    | with_reducible rfl
    | with_reducible exact Dev.sys_putB _ _ _ _ (isSys_of_le (by simp only [aAcc, aPrm]; omega))
    | with_reducible refine (Dev.sys_watch _ _ _ _).trans ?_
    | with_reducible exact Dev.sys_onAcc _ _ _ _
    | split)

theorem Dev.sys_sample (d : Dev) (p : GroupIx) (raw : Word) : (d.sample p raw).sys = d.sys := by
  unfold Dev.sample
  split
  · rfl
  · rename_i v rest hv
    split
    · rfl
    · have e0 : (d.onPrm p (fun x => { x with flight := rest })).sys = d.sys := rfl
      generalize d.onPrm p (fun x => { x with flight := rest }) = d0 at e0
      dsimp only
      split
      · exact e0
      · split
        · generalize hq : d0.accEnter p _ _ = q
          have e1 : q.1.sys = d.sys := hq ▸ (Dev.sys_accEnter _ _ _ _).trans e0
          obtain ⟨q1, q2⟩ := q
          cases q2
          · exact e1
          · exact (Dev.sys_closed _ _ _ _).trans e1
          · exact (Dev.sys_closed _ _ _ _).trans e1
        · exact e0



theorem Dev.sys_prismBack (d : Dev) (p : GroupIx) : (d.prismBack p).sys = d.sys := by
  unfold Dev.prismBack
  try dsimp only
  repeat' (first
    | with_reducible rfl
    | with_reducible exact isSys_of_le (by first | omega | decide)
    | with_reducible exact isSysSrc_of_lt (by omega)
    | (show isSysSrc _ = false; decide)
    | split
    | with_reducible refine (Dev.sys_each _ _ (fun d x => ?_) _).trans ?_
    | with_reducible refine (Dev.sys_discardPartial _ _).trans ?_
    | with_reducible refine (Dev.sys_restartTrks _ _).trans ?_
    | with_reducible refine (Dev.sys_resumeSeq _ _).trans ?_
    | with_reducible refine (Dev.sys_closed _ _ _ _).trans ?_)

theorem Dev.sys_domainIdle (d : Dev) (g : GroupIx) : (d.domainIdle g).sys = d.sys := by
  unfold Dev.domainIdle
  try dsimp only
  repeat' (first
    | with_reducible rfl
    | with_reducible exact isSys_of_le (by first | omega | decide)
    | with_reducible exact isSysSrc_of_lt (by omega)
    | (show isSysSrc _ = false; decide)
    | split
    | with_reducible refine (Dev.sys_onGrp _ _ _).trans ?_
    | with_reducible refine (Dev.sys_each _ _ (fun d x => ?_) _).trans ?_
    | with_reducible refine (Dev.sys_driveGroup _ _).trans ?_
    | with_reducible refine (Dev.sys_toIdle _ _).trans ?_)

theorem Dev.sys_domChange (d : Dev) (n : Nat) (therm : Bool) : (d.domChange n therm).sys = d.sys := by
  unfold Dev.domChange
  repeat' (first
    | with_reducible rfl
    | with_reducible exact isSys_of_le (by first | omega | decide)
    | with_reducible exact isSysSrc_of_lt (by omega)
    | (show isSysSrc _ = false; decide)
    | split
    | with_reducible refine (Dev.sys_cause _ _ _ _ ?_ ?_).trans ?_)

theorem Dev.sys_syncPrismPll (d : Dev) : (d.syncPrismPll).sys = d.sys := by
  unfold Dev.syncPrismPll
  try dsimp only
  repeat' (first
    | with_reducible rfl
    | with_reducible exact isSys_of_le (by first | omega | decide)
    | with_reducible exact isSysSrc_of_lt (by omega)
    | (show isSysSrc _ = false; decide)
    | split
    | with_reducible refine (Dev.sys_putB _ _ _ _ ?_).trans ?_
    | with_reducible refine (Dev.sys_with_power _ _).trans ?_)

theorem Dev.sys_domOff (d : Dev) (n : Nat) (therm : Bool) : (d.domOff n therm).sys = d.sys := by
  unfold Dev.domOff
  try dsimp only
  repeat' (first
    | with_reducible rfl
    | with_reducible exact isSys_of_le (by first | omega | decide)
    | with_reducible exact isSysSrc_of_lt (by omega)
    | (show isSysSrc _ = false; decide)
    | split
    | with_reducible refine (Dev.sys_putB _ _ _ _ ?_).trans ?_
    | with_reducible refine (Dev.sys_each _ _ (fun d x => ?_) _).trans ?_
    | with_reducible refine (Dev.sys_initPrism _ _).trans ?_
    | with_reducible refine (Dev.sys_dieStop _ _).trans ?_
    | with_reducible refine (Dev.sys_thermDrop _ _).trans ?_
    | with_reducible refine (Dev.sys_domainIdle _ _).trans ?_
    | with_reducible refine (Dev.sys_domChange _ _ _).trans ?_
    | with_reducible refine (Dev.sys_syncPrismPll _).trans ?_)

theorem Dev.sys_domainsOff (d : Dev) (therm : Bool) : (d.domainsOff therm).sys = d.sys := by
  unfold Dev.domainsOff
  repeat' (first
    | with_reducible rfl
    | with_reducible exact isSys_of_le (by first | omega | decide)
    | with_reducible exact isSysSrc_of_lt (by omega)
    | (show isSysSrc _ = false; decide)
    | split
    | with_reducible refine (Dev.sys_each _ _ (fun d x => ?_) _).trans ?_
    | with_reducible refine (Dev.sys_domOff _ _ _).trans ?_)

theorem Dev.sys_domStart (d : Dev) (n : Fin 10) : (d.domStart n).sys = d.sys := by
  unfold Dev.domStart
  dsimp only
  generalize hd0 : (d.putB 0x801 n.1 true).domChange n.1 _ = d0
  have e0 : d0.sys = d.sys := hd0 ▸ (Dev.sys_domChange _ _ _).trans (Dev.sys_putB _ _ _ _ (by decide))
  clear hd0
  generalize hd1 : ({ d0 with power := _ } : Dev) = d1
  have e1 : d1.sys = d.sys := by rw [← hd1]; exact e0
  clear hd1
  split
  · exact (Dev.sys_syncPrismPll _).trans ((Dev.sys_each _ _ (fun d p => (Dev.sys_supInvalid _ _).trans (Dev.sys_initPrism _ _)) _).trans e1)
  · split
    · exact (Dev.sys_each _ _ (fun d p => Dev.sys_dieStart _ _) _).trans e1
    · exact e1


theorem Dev.sys_logSession (d : Dev) : d.logSession.sys = d.sys := rfl

theorem Dev.sys_domReady (d : Dev) (n : Fin 10) : (d.domReady n).sys = d.sys := by
  unfold Dev.domReady
  dsimp only
  split
  · generalize hd0 : d.putB 0x802 n.1 true = d0
    have e0 : d0.sys = d.sys := hd0 ▸ Dev.sys_putB _ _ _ _ (by decide)
    clear hd0
    split
    · generalize hd1 : Dev.each d0 _ _ = d1
      have e1 : d1.sys = d.sys := hd1 ▸ (Dev.sys_each _ _ (fun d t => Dev.sys_dropSeg _ _ _) _).trans e0
      clear hd1
      split
      · generalize hd2 : d1.writeMirror false false = d2
        have e2 : d2.sys = d.sys := hd2 ▸ (Dev.sys_writeMirror _ _ _).trans e1
        exact (Dev.sys_logSession _).trans e2
      · exact e1
    · split
      · refine (Dev.sys_each _ _ (fun d p => ?_) _).trans ?_
        · split
          · exact Dev.sys_resumeSeq _ _
          · rfl
        · exact (Dev.sys_syncPrismPll _).trans ((Dev.sys_with_power d0 _).trans e0)
      · exact (Dev.sys_each _ _ (fun d p => Dev.sys_dieReady _ _) _).trans e0
  · rfl


theorem Dev.sys_writeReq (d : Dev) (v : Word) : (d.writeReq v).sys = d.sys := by
  unfold Dev.writeReq
  dsimp only
  generalize hd0 : d.put 0x800 v = d0
  have e0 : d0.sys = d.sys := hd0 ▸ Dev.sys_put _ _ _ (by decide)
  clear hd0
  exact (Dev.sys_domainsOff _ _).trans ((Dev.sys_with_power d0 _).trans e0)


theorem Dev.sys_shutdown (d : Dev) (s : SensorIx) : (d.shutdown s).sys = d.sys := by
  unfold Dev.shutdown
  repeat' (first
    | with_reducible rfl
    | with_reducible exact isSys_of_le (by first | omega | decide)
    | with_reducible exact isSysSrc_of_lt (by omega)
    | (show isSysSrc _ = false; decide)
    | split
    | with_reducible refine (Dev.sys_putB _ _ _ _ ?_).trans ?_
    | with_reducible refine (Dev.sys_cause _ _ _ _ ?_ ?_).trans ?_
    | with_reducible refine (Dev.sys_domainsOff _ _).trans ?_)

theorem Dev.sys_shutdownOver (d : Dev) (s : SensorIx) : (d.shutdownOver s).sys = d.sys := by
  unfold Dev.shutdownOver
  try dsimp only
  repeat' (first
    | with_reducible rfl
    | with_reducible exact isSys_of_le (by first | omega | decide)
    | with_reducible exact isSysSrc_of_lt (by omega)
    | (show isSysSrc _ = false; decide)
    | split
    | with_reducible refine (Dev.sys_putB _ _ _ _ ?_).trans ?_
    | with_reducible refine (Dev.sys_cause _ _ _ _ ?_ ?_).trans ?_
    | with_reducible refine (Dev.sys_with_power _ _).trans ?_)

theorem Dev.sys_prismLost (d : Dev) : (d.prismLost).sys = d.sys := by
  unfold Dev.prismLost
  dsimp only
  split
  · refine (Dev.sys_each _ _ (fun d p => ?_) _).trans ?_
    · exact (Dev.sys_thermDrop _ _).trans (Dev.sys_cause _ _ _ _ (isSys_of_le (by simp only [aPrm]; omega))
        (isSysSrc_of_lt (by have := p.2; omega)))
    · exact (Dev.sys_syncPrismPll _).trans (Dev.sys_with_power d _)
  · rfl


theorem Dev.sys_prismReturns (d : Dev) : (d.prismReturns).sys = d.sys := by
  unfold Dev.prismReturns
  dsimp only
  split
  · exact (Dev.sys_each _ _ (fun d p => Dev.sys_prismBack _ _) _).trans ((Dev.sys_syncPrismPll _).trans (Dev.sys_with_power d _))
  · rfl


theorem Dev.sys_writePrmCtrl (d : Dev) (p : GroupIx) (v : Word) : (d.writePrmCtrl p v).sys = d.sys := by
  unfold Dev.writePrmCtrl
  try dsimp only
  repeat' (first
    | with_reducible rfl
    | with_reducible exact isSys_of_le (by first | omega | decide | (simp only [aPrm]; omega))
    | with_reducible exact isSysSrc_of_lt (by omega)
    | (show isSysSrc _ = false; decide)
    | split
    | with_reducible refine (Dev.sys_put _ _ _ ?_).trans ?_
    | with_reducible refine (Dev.sys_onPrm _ _ _).trans ?_
    | with_reducible refine (Dev.sys_startSeq _ _).trans ?_
    | with_reducible refine (Dev.sys_seqStopped _ _).trans ?_)

theorem Dev.sys_syncCome (d : Dev) (p : GroupIx) : (d.syncCome p).sys = d.sys := by
  unfold Dev.syncCome
  try dsimp only
  repeat' (first
    | with_reducible rfl
    | with_reducible exact isSys_of_le (by first | omega | decide)
    | with_reducible exact isSysSrc_of_lt (by omega)
    | (show isSysSrc _ = false; decide)
    | split
    | with_reducible refine (Dev.sys_onPrm _ _ _).trans ?_)

theorem Dev.sys_idleOver (d : Dev) (p : GroupIx) : (d.idleOver p).sys = d.sys := by
  unfold Dev.idleOver
  try dsimp only
  repeat' (first
    | with_reducible rfl
    | with_reducible exact isSys_of_le (by first | omega | decide)
    | with_reducible exact isSysSrc_of_lt (by omega)
    | (show isSysSrc _ = false; decide)
    | split
    | with_reducible refine (Dev.sys_onPrm _ _ _).trans ?_
    | with_reducible refine (Dev.sys_nextEntry _ _).trans ?_)

theorem Dev.sys_wake (d : Dev) (p : GroupIx) : (d.wake p).sys = d.sys := by
  unfold Dev.wake
  try dsimp only
  repeat' (first
    | with_reducible rfl
    | with_reducible exact isSys_of_le (by first | omega | decide)
    | with_reducible exact isSysSrc_of_lt (by omega)
    | (show isSysSrc _ = false; decide)
    | split
    | with_reducible refine (Dev.sys_onPrm _ _ _).trans ?_)

theorem Dev.sys_writeTrk (d : Dev) (p : GroupIx) (t : Fin 32) (v : Word) : (d.writeTrk p t v).sys = d.sys := by
  unfold Dev.writeTrk
  try dsimp only
  repeat' (first
    | with_reducible rfl
    | with_reducible exact isSys_of_le (by first | omega | decide | (simp only [aTrk, aPrm]; omega))
    | with_reducible exact isSysSrc_of_lt (by omega)
    | (show isSysSrc _ = false; decide)
    | split
    | with_reducible refine (Dev.sys_put _ _ _ ?_).trans ?_
    | with_reducible refine (Dev.sys_restartTrk _ _ _).trans ?_)

theorem Dev.sys_memInvalid (d : Dev) : (d.memInvalid).sys = d.sys := by
  unfold Dev.memInvalid
  repeat' (first
    | with_reducible rfl
    | with_reducible exact isSys_of_le (by first | omega | decide)
    | with_reducible exact isSysSrc_of_lt (by omega)
    | (show isSysSrc _ = false; decide)
    | split
    | with_reducible refine (Dev.sys_onMem _ _).trans ?_)

theorem Dev.sys_memSync (d : Dev) : (d.memSync).sys = d.sys := by
  unfold Dev.memSync
  try dsimp only
  repeat' (first
    | with_reducible rfl
    | with_reducible exact isSys_of_le (by first | omega | decide)
    | with_reducible exact isSysSrc_of_lt (by omega)
    | (show isSysSrc _ = false; decide)
    | split
    | with_reducible refine (Dev.sys_enforce _ _ _).trans ?_
    | with_reducible refine (Dev.sys_memInvalid _).trans ?_)

theorem Dev.sys_writeWin (d : Dev) (a : Nat) (v : Word) (h : isSys a = false) : (d.writeWin a v).sys = d.sys :=
  (Dev.sys_memSync _).trans ((Dev.sys_memInvalid _).trans (Dev.sys_put _ _ _ h))


theorem Dev.sys_exitFirst (d : Dev) (window : Bool) : (d.exitFirst window).sys = d.sys := by
  unfold Dev.exitFirst
  repeat' (first
    | with_reducible rfl
    | with_reducible exact isSys_of_le (by first | omega | decide)
    | with_reducible exact isSysSrc_of_lt (by omega)
    | (show isSysSrc _ = false; decide)
    | split
    | with_reducible refine (Dev.sys_onMem _ _).trans ?_
    | with_reducible refine (Dev.sys_nextFree _).trans ?_)

theorem Dev.sys_memRelease (d : Dev) : (d.memRelease).sys = d.sys := by
  unfold Dev.memRelease
  try dsimp only
  repeat' (first
    | with_reducible rfl
    | with_reducible exact isSys_of_le (by first | omega | decide)
    | with_reducible exact isSysSrc_of_lt (by omega)
    | (show isSysSrc _ = false; decide)
    | split
    | with_reducible refine (Dev.sys_onMem _ _).trans ?_
    | with_reducible refine (Dev.sys_exitFirst _ _).trans ?_)

theorem Dev.sys_memIdle (d : Dev) : (d.memIdle).sys = d.sys := by
  unfold Dev.memIdle
  try dsimp only
  repeat' (first
    | with_reducible rfl
    | with_reducible exact isSys_of_le (by first | omega | decide)
    | with_reducible exact isSysSrc_of_lt (by omega)
    | (show isSysSrc _ = false; decide)
    | split
    | with_reducible refine (Dev.sys_onMem _ _).trans ?_
    | with_reducible refine (Dev.sys_memRelease _).trans ?_)

theorem Dev.sys_winServe (d : Dev) : (d.winServe).sys = d.sys := by
  unfold Dev.winServe
  try dsimp only
  repeat' (first
    | with_reducible rfl
    | with_reducible exact isSys_of_le (by first | omega | decide)
    | with_reducible exact isSysSrc_of_lt (by omega)
    | (show isSysSrc _ = false; decide)
    | split
    | with_reducible refine (Dev.sys_onMem _ _).trans ?_
    | with_reducible refine (Dev.sys_putFab _ _ _).trans ?_
    | with_reducible refine (Dev.sys_each _ _ (fun d x => ?_) _).trans ?_)

theorem Dev.sys_fillBegin (d : Dev) (l : BitVec 32) (pre intoB : Bool) : (d.fillBegin l pre intoB).sys = d.sys := by
  unfold Dev.fillBegin
  try dsimp only
  repeat' (first
    | with_reducible rfl
    | with_reducible exact isSys_of_le (by first | omega | decide)
    | with_reducible exact isSysSrc_of_lt (by omega)
    | (show isSysSrc _ = false; decide)
    | split
    | with_reducible refine (Dev.sys_onMem _ _).trans ?_
    | with_reducible refine (Dev.sys_exitFirst _ _).trans ?_)

theorem Dev.sys_qDone (d : Dev) (i res : Nat) : (d.qDone i res).sys = d.sys := by
  unfold Dev.qDone
  repeat' (first
    | with_reducible rfl
    | with_reducible exact isSys_of_le (by first | omega | decide | (simp only [aQ]; omega))
    | with_reducible exact isSysSrc_of_lt (by omega)
    | (show isSysSrc _ = false; decide)
    | split
    | with_reducible refine (Dev.sys_put _ _ _ ?_).trans ?_)

theorem Dev.sys_qOver (d : Dev) : (d.qOver).sys = d.sys := by
  unfold Dev.qOver
  repeat' (first
    | with_reducible rfl
    | with_reducible exact isSys_of_le (by first | omega | decide)
    | with_reducible exact isSysSrc_of_lt (by omega)
    | (show isSysSrc _ = false; decide)
    | split
    | with_reducible refine (Dev.sys_putB _ _ _ _ ?_).trans ?_)

theorem Dev.sys_qEnd (d : Dev) (res : Nat) : (d.qEnd res).sys = d.sys := by
  unfold Dev.qEnd
  repeat' (first
    | with_reducible rfl
    | with_reducible exact isSys_of_le (by first | omega | decide)
    | with_reducible exact isSysSrc_of_lt (by omega)
    | (show isSysSrc _ = false; decide)
    | split
    | with_reducible refine (Dev.sys_each _ _ (fun d x => ?_) _).trans ?_
    | with_reducible refine (Dev.sys_qDone _ _ _).trans ?_
    | with_reducible refine (Dev.sys_qOver _).trans ?_)

theorem Dev.sys_entryBegin (d : Dev) : (d.entryBegin).sys = d.sys := by
  unfold Dev.entryBegin
  try dsimp only
  repeat' (first
    | with_reducible rfl
    | with_reducible exact isSys_of_le (by first | omega | decide | (simp only [aQ]; omega))
    | with_reducible exact isSysSrc_of_lt (by omega)
    | (show isSysSrc _ = false; decide)
    | split
    | with_reducible refine (Dev.sys_onMem _ _).trans ?_
    | with_reducible refine (Dev.sys_memInvalid _).trans ?_
    | with_reducible refine (Dev.sys_exitFirst _ _).trans ?_)

theorem Dev.sys_qSkip (n : Nat) (d : Dev) : (Dev.qSkip n d).sys = d.sys := by
  induction n generalizing d with
  | zero => rfl
  | succ n ih =>
    unfold Dev.qSkip
    dsimp only
    split
    · split
      · exact (Dev.sys_qOver _).trans (Dev.sys_qDone _ _ _)
      · exact (ih _).trans ((Dev.sys_putF _ _ _ _ _ (by decide)).trans (Dev.sys_qDone _ _ _))
    · rfl


theorem Dev.sys_entryAsked (d : Dev) : (d.entryAsked).sys = d.sys := by
  unfold Dev.entryAsked
  try dsimp only
  repeat' (first
    | with_reducible rfl
    | with_reducible exact isSys_of_le (by first | omega | decide | (simp only [aMot]; omega))
    | with_reducible exact isSysSrc_of_lt (by omega)
    | (show isSysSrc _ = false; decide)
    | (show isSys _ = false; decide)
    | split
    | with_reducible refine (Dev.sys_onMem _ _).trans ?_)

theorem Dev.sys_memNext (d : Dev) : (d.memNext).sys = d.sys := by
  unfold Dev.memNext
  dsimp only
  split
  · exact Dev.sys_memSync d
  · have e : ((Dev.qSkip 16 d.memSync).winServe).sys = d.sys :=
      (Dev.sys_winServe _).trans ((Dev.sys_qSkip _ _).trans (Dev.sys_memSync _))
    split
    · split
      · exact (Dev.sys_entryBegin _).trans e
      · split
        · exact (Dev.sys_fillBegin _ _ _ _).trans e
        · exact e
    · split
      · exact (Dev.sys_entryBegin _).trans e
      · exact e


theorem Dev.sys_qStart (d : Dev) (v : Word) : (d.qStart v).sys = d.sys := by
  unfold Dev.qStart
  try dsimp only
  repeat' (first
    | with_reducible rfl
    | with_reducible exact isSys_of_le (by first | omega | decide | (simp only [aMot, aQ]; omega))
    | with_reducible exact isSysSrc_of_lt (by omega)
    | (show isSysSrc _ = false; decide)
    | (show isSys _ = false; decide)
    | split
    | with_reducible refine (Dev.sys_put _ _ _ ?_).trans ?_
    | with_reducible refine (Dev.sys_onMem _ _).trans ?_
    | with_reducible refine (Dev.sys_each _ _ (fun x y => ?_) _).trans ?_
    | with_reducible refine (Dev.sys_entryAsked _).trans ?_
    | with_reducible refine (Dev.sys_memNext _).trans ?_)

theorem Dev.sys_qAbort (d : Dev) : (d.qAbort).sys = d.sys := by
  unfold Dev.qAbort
  try dsimp only
  repeat' (first
    | with_reducible rfl
    | with_reducible exact isSys_of_le (by first | omega | decide)
    | with_reducible exact isSysSrc_of_lt (by omega)
    | (show isSysSrc _ = false; decide)
    | split
    | with_reducible refine (Dev.sys_memIdle _).trans ?_
    | with_reducible refine (Dev.sys_qEnd _ _).trans ?_
    | with_reducible refine (Dev.sys_memNext _).trans ?_)

theorem Dev.sys_writeQrun (d : Dev) (v : Word) : (d.writeQrun v).sys = d.sys := by
  unfold Dev.writeQrun
  repeat' (first
    | with_reducible rfl
    | with_reducible exact isSys_of_le (by first | omega | decide)
    | with_reducible exact isSysSrc_of_lt (by omega)
    | (show isSysSrc _ = false; decide)
    | split
    | with_reducible refine (Dev.sys_qStart _ _).trans ?_
    | with_reducible refine (Dev.sys_qAbort _).trans ?_)

theorem Dev.sys_qStore (d : Dev) (i : Nat) (bytes : List Byte) : (d.qStore i bytes).sys = d.sys := by
  unfold Dev.qStore
  repeat' (first
    | with_reducible rfl
    | with_reducible exact isSys_of_le (by first | omega | decide | (simp only [aQ]; omega))
    | with_reducible exact isSysSrc_of_lt (by omega)
    | (show isSysSrc _ = false; decide)
    | split
    | with_reducible refine (Dev.sys_put _ _ _ ?_).trans ?_
    | with_reducible refine (Dev.sys_each _ _ (fun d x => ?_) _).trans ?_)

theorem Dev.sys_qNext (d : Dev) : (d.qNext).sys = d.sys := by
  unfold Dev.qNext
  try dsimp only
  repeat' (first
    | with_reducible rfl
    | with_reducible exact isSys_of_le (by first | omega | decide | (simp only [aMot, aQ]; omega))
    | with_reducible exact isSysSrc_of_lt (by omega)
    | (show isSysSrc _ = false; decide)
    | (show isSys _ = false; decide)
    | split
    | with_reducible refine (Dev.sys_setB _ _ _ ?_).trans ?_
    | with_reducible refine (Dev.sys_qOver _).trans ?_
    | with_reducible refine (Dev.sys_memIdle _).trans ?_
    | with_reducible refine (Dev.sys_memNext _).trans ?_
    | with_reducible refine (Dev.sys_putF _ _ _ _ _ ?_).trans ?_
    | with_reducible refine (Dev.sys_entryAsked _).trans ?_
    | with_reducible refine (Dev.sys_onMem _ _).trans ?_
    | with_reducible refine (Dev.sys_entryBegin _).trans ?_)

theorem Dev.sys_entryComplete (d : Dev) (bytes : List Byte) : (d.entryComplete bytes).sys = d.sys := by
  unfold Dev.entryComplete
  try dsimp only
  repeat' (first
    | with_reducible rfl
    | with_reducible exact isSys_of_le (by first | omega | decide | (simp only [aQ]; omega))
    | with_reducible exact isSysSrc_of_lt (by omega)
    | (show isSysSrc _ = false; decide)
    | split
    | with_reducible refine (Dev.sys_qDone _ _ _).trans ?_
    | with_reducible refine (Dev.sys_qStore _ _ _).trans ?_
    | with_reducible refine (Dev.sys_qNext _).trans ?_)

theorem Dev.sys_writeQ (d : Dev) (a : Nat) (v : Word) (h : isSys a = false) : (d.writeQ a v).sys = d.sys := by
  unfold Dev.writeQ
  dsimp only
  split
  · rfl
  · exact Dev.sys_put _ _ _ h


theorem Dev.sys_writeBuf (d : Dev) (a : Nat) (v : Word) (h : isSys a = false) : (d.writeBuf a v).sys = d.sys := by
  unfold Dev.writeBuf
  split
  · rfl
  · exact Dev.sys_put _ _ _ h


theorem Dev.sys_writeRaw (d : Dev) (v : Word) : (d.writeRaw v).sys = d.sys := by
  unfold Dev.writeRaw
  try dsimp only
  repeat' (first
    | with_reducible rfl
    | with_reducible exact isSys_of_le (by first | omega | decide)
    | with_reducible exact isSysSrc_of_lt (by omega)
    | (show isSysSrc _ = false; decide)
    | split
    | with_reducible refine (Dev.sys_put _ _ _ ?_).trans ?_
    | with_reducible refine (Dev.sys_onMem _ _).trans ?_
    | with_reducible refine (Dev.sys_memInvalid _).trans ?_
    | with_reducible refine (Dev.sys_exitFirst _ _).trans ?_
    | with_reducible refine (Dev.sys_memRelease _).trans ?_
    | with_reducible refine (Dev.sys_memNext _).trans ?_)

theorem Dev.sys_winRead (d : Dev) (k : Master) (a : Addr) : (d.winRead k a).sys = d.sys := by
  unfold Dev.winRead
  try dsimp only
  repeat' (first
    | with_reducible rfl
    | with_reducible exact isSys_of_le (by first | omega | decide)
    | with_reducible exact isSysSrc_of_lt (by omega)
    | (show isSysSrc _ = false; decide)
    | split
    | with_reducible refine (Dev.sys_onMem _ _).trans ?_
    | with_reducible refine (Dev.sys_putFab _ _ _).trans ?_
    | with_reducible refine (Dev.sys_memSync _).trans ?_
    | with_reducible refine (Dev.sys_memNext _).trans ?_)

theorem Dev.sys_rawTakes (d : Dev) : (d.rawTakes).sys = d.sys := by
  unfold Dev.rawTakes
  try dsimp only
  repeat' (first
    | with_reducible rfl
    | with_reducible exact isSys_of_le (by first | omega | decide | (simp only [aMot]; omega))
    | with_reducible exact isSysSrc_of_lt (by omega)
    | (show isSysSrc _ = false; decide)
    | (show isSys _ = false; decide)
    | split
    | with_reducible refine (Dev.sys_exitFirst _ _).trans ?_
    | with_reducible refine (Dev.sys_onMem _ _).trans ?_)

theorem Dev.sys_fillComplete (d : Dev) (bytes : List Byte) : (d.fillComplete bytes).sys = d.sys := by
  unfold Dev.fillComplete
  try dsimp only
  repeat' (first
    | with_reducible rfl
    | with_reducible exact isSys_of_le (by first | omega | decide | (simp only [aMot]; omega))
    | with_reducible exact isSysSrc_of_lt (by omega)
    | (show isSysSrc _ = false; decide)
    | (show isSys _ = false; decide)
    | split
    | with_reducible refine (Dev.sys_onMem _ _).trans ?_
    | with_reducible refine (Dev.sys_rawTakes _).trans ?_
    | with_reducible refine (Dev.sys_memSync _).trans ?_
    | with_reducible refine (Dev.sys_winServe _).trans ?_
    | with_reducible refine (Dev.sys_fillBegin _ _ _ _).trans ?_
    | with_reducible refine (Dev.sys_memIdle _).trans ?_
    | with_reducible refine (Dev.sys_memNext _).trans ?_)

theorem Dev.sys_winTimeout (d : Dev) : (d.winTimeout).sys = d.sys := by
  unfold Dev.winTimeout
  try dsimp only
  repeat' (first
    | with_reducible rfl
    | with_reducible exact isSys_of_le (by first | omega | decide)
    | with_reducible exact isSysSrc_of_lt (by omega)
    | (show isSysSrc _ = false; decide)
    | split
    | with_reducible refine (Dev.sys_setB _ _ _ ?_).trans ?_
    | with_reducible refine (Dev.sys_onMem _ _).trans ?_
    | with_reducible refine (Dev.sys_putFab _ _ _).trans ?_)

theorem Dev.sys_loaderReads (d : Dev) : (d.loaderReads).sys = d.sys := by
  unfold Dev.loaderReads
  try dsimp only
  repeat' (first
    | with_reducible rfl
    | with_reducible exact isSys_of_le (by first | omega | decide | (simp only [aMot]; omega))
    | with_reducible exact isSysSrc_of_lt (by omega)
    | (show isSysSrc _ = false; decide)
    | (show isSys _ = false; decide)
    | split
    | with_reducible refine (Dev.sys_exitFirst _ _).trans ?_
    | with_reducible refine (Dev.sys_onMem _ _).trans ?_)

theorem Dev.sys_masterStart (d : Dev) (highFor : Nat) : (d.masterStart highFor).sys = d.sys := by
  unfold Dev.masterStart
  try dsimp only
  repeat' (first
    | with_reducible rfl
    | with_reducible exact isSys_of_le (by first | omega | decide)
    | with_reducible exact isSysSrc_of_lt (by omega)
    | (show isSysSrc _ = false; decide)
    | split
    | with_reducible refine (Dev.sys_putB _ _ _ _ ?_).trans ?_
    | with_reducible refine (Dev.sys_onMem _ _).trans ?_
    | with_reducible refine (Dev.sys_memInvalid _).trans ?_
    | with_reducible refine (Dev.sys_memSync _).trans ?_
    | with_reducible refine (Dev.sys_memNext _).trans ?_
    | with_reducible refine (Dev.sys_memRelease _).trans ?_
    | with_reducible refine (Dev.sys_rawTakes _).trans ?_
    | with_reducible refine (Dev.sys_loaderReads _).trans ?_)

theorem Dev.sys_mmfDiscard (d : Dev) : (d.mmfDiscard).sys = d.sys := by
  unfold Dev.mmfDiscard
  try dsimp only
  repeat' (first
    | with_reducible rfl
    | with_reducible exact isSys_of_le (by first | omega | decide)
    | with_reducible exact isSysSrc_of_lt (by omega)
    | (show isSysSrc _ = false; decide)
    | split
    | with_reducible refine (Dev.sys_putB _ _ _ _ ?_).trans ?_
    | with_reducible refine (Dev.sys_inc _ _ ?_).trans ?_
    | with_reducible refine (Dev.sys_cause _ _ _ _ ?_ ?_).trans ?_
    | with_reducible refine (Dev.sys_onMem _ _).trans ?_
    | with_reducible refine (Dev.sys_putFab _ _ _).trans ?_
    | with_reducible refine (Dev.sys_each _ _ (fun d x => ?_) _).trans ?_
    | with_reducible refine (Dev.sys_memInvalid _).trans ?_
    | with_reducible refine (Dev.sys_memSync _).trans ?_
    | with_reducible refine (Dev.sys_qEnd _ _).trans ?_)

theorem Dev.sys_memFault (d : Dev) : (d.memFault).sys = d.sys := by
  unfold Dev.memFault
  try dsimp only
  repeat' (first
    | with_reducible rfl
    | with_reducible exact isSys_of_le (by first | omega | decide)
    | with_reducible exact isSysSrc_of_lt (by omega)
    | (show isSysSrc _ = false; decide)
    | split
    | with_reducible refine (Dev.sys_putB _ _ _ _ ?_).trans ?_
    | with_reducible refine (Dev.sys_onMem _ _).trans ?_
    | with_reducible refine (Dev.sys_putFab _ _ _).trans ?_
    | with_reducible refine (Dev.sys_each _ _ (fun d x => ?_) _).trans ?_
    | with_reducible refine (Dev.sys_memInvalid _).trans ?_
    | with_reducible refine (Dev.sys_memSync _).trans ?_
    | with_reducible refine (Dev.sys_qEnd _ _).trans ?_)

theorem Dev.sys_faultMotor (d : Dev) (m : MotorIx) : (d.faultMotor m).sys = d.sys := by
  unfold Dev.faultMotor
  try dsimp only
  repeat' (first
    | with_reducible rfl
    | with_reducible exact isSys_of_le (by first | omega | decide)
    | with_reducible exact isSysSrc_of_lt (by omega)
    | (show isSysSrc _ = false; decide)
    | split
    | with_reducible refine (Dev.sys_onMot _ _ _).trans ?_
    | with_reducible refine (Dev.sys_enterFault _ _ _).trans ?_)

theorem Dev.sys_faultPrism (d : Dev) (p : GroupIx) : (d.faultPrism p).sys = d.sys := by
  unfold Dev.faultPrism
  try dsimp only
  repeat' (first
    | with_reducible rfl
    | with_reducible exact isSys_of_le (by first | omega | decide | (simp only [aMot]; omega))
    | with_reducible exact isSysSrc_of_lt (by omega)
    | (show isSysSrc _ = false; decide)
    | (show isSys _ = false; decide)
    | split
    | with_reducible refine (Dev.sys_onPrm _ _ _).trans ?_
    | with_reducible refine (Dev.sys_thermFlush _ _).trans ?_
    | with_reducible refine (Dev.sys_discardPartial _ _).trans ?_
    | with_reducible refine (Dev.sys_restartTrks _ _).trans ?_
    | with_reducible refine (Dev.sys_resumeSeq _ _).trans ?_
    | with_reducible refine (Dev.sys_thermFeed _ _).trans ?_)

theorem Dev.sys_rqEnd (d : Dev) (res : Nat) (data : Word) : (d.rqEnd res data).sys = d.sys := by
  unfold Dev.rqEnd
  repeat' (first
    | with_reducible rfl
    | with_reducible exact isSys_of_le (by first | omega | decide)
    | with_reducible exact isSysSrc_of_lt (by omega)
    | (show isSysSrc _ = false; decide)
    | split
    | with_reducible refine (Dev.sys_put _ _ _ ?_).trans ?_
    | with_reducible refine (Dev.sys_putF _ _ _ _ _ ?_).trans ?_
    | with_reducible refine (Dev.sys_putB _ _ _ _ ?_).trans ?_)

theorem Dev.bist_of_sys {d e : Dev} (h : e.sys = d.sys) : e.bist = d.bist := congrArg SysView.bist h

theorem Dev.bist_each {α : Type} (l : List α) (f : Dev → α → Dev) (h : ∀ (d : Dev) a, (f d a).bist = d.bist) (d : Dev) :
    (d.each l f).bist = d.bist := by
  unfold Dev.each
  induction l generalizing d with
  | nil => rfl
  | cons a t ih => exact (ih (f d a)).trans (h d a)

/-- A raised source leaves the self-test alone. -/
theorem Dev.bist_raise (d : Dev) (i : Nat) : (d.raise i).bist = d.bist := by
  unfold Dev.raise Dev.raiseNow
  repeat' (first | rfl | split)

/-- The end of a data phase leaves the self-test alone. -/
theorem Dev.bist_riseFrame (d : Dev) (k : HostIx) (x : HostArgs) : (d.riseFrame k x).bist = d.bist := by
  unfold Dev.riseFrame
  split
  · rfl
  · exact (rfl : _ = _).trans (Dev.bist_raise (d.orW (aHp k 1) (1#16 <<< 0)) (28 + k.1))

/-- Words sent leave the self-test alone. -/
theorem Dev.bist_hostZeros (d : Dev) (k : HostIx) (n : Nat) : (d.hostZeros k n).bist = d.bist := by
  unfold Dev.hostZeros
  exact Dev.bist_each _ _ (fun d _ => (rfl : (d.hostSend k 0).bist = d.bist)) _

/-- Page words leave the self-test alone. -/
theorem Dev.bist_pageWords (d : Dev) (k : HostIx) (n : Nat) : (d.pageWords k n).bist = d.bist := by
  unfold Dev.pageWords
  exact Dev.bist_each _ _ (fun d v => (rfl : (d.hostSend k v).bist = d.bist)) _

/-- A cut of a transaction leaves the self-test alone. -/
theorem Dev.bist_cutPort (d : Dev) (k : HostIx) (cut : Bool) : (d.cutPort k cut).bist = d.bist := by
  unfold Dev.cutPort
  dsimp only
  split
  · unfold Dev.cutReading Dev.when
    dsimp only
    refine (Dev.bist_riseFrame _ _ _).trans ((Dev.bist_hostZeros _ _ _).trans ?_)
    split <;> rfl
  · unfold Dev.cutParked
    dsimp only
    refine (Dev.bist_riseFrame _ _ _).trans ?_
    split
    · exact Dev.bist_hostZeros _ _ _
    · split
      · exact Dev.bist_hostZeros _ _ _
      · exact Dev.bist_pageWords _ _ _
    · rfl
  · rfl

/-- The blocks at a device fault leave the self-test alone. -/
theorem Dev.bist_actBlocks (d : Dev) (cut : Vector Bool 4) : (d.actBlocks cut).bist = d.bist := by
  unfold Dev.actBlocks
  try dsimp only
  refine (Dev.bist_of_sys ((Dev.sys_rqEnd _ _ _).trans (Dev.sys_memFault _))).trans ?_
  refine (Dev.bist_each _ _ (fun d k => Dev.bist_cutPort d k _) _).trans ?_
  refine Dev.bist_of_sys ?_
  repeat' (first
    | with_reducible rfl
    | with_reducible exact isSys_of_le (by first | omega | decide | (simp only [aMot]; omega))
    | with_reducible exact isSysSrc_of_lt (by omega)
    | (show isSysSrc _ = false; decide)
    | (show isSys _ = false; decide)
    | split
    | with_reducible refine (Dev.sys_each _ _ (fun x y => ?_) _).trans ?_
    | with_reducible refine (Dev.sys_faultMotor _ _).trans ?_
    | with_reducible refine (Dev.sys_zeroGrants _ _).trans ?_
    | with_reducible refine (Dev.sys_resetRR _ _).trans ?_
    | with_reducible refine (Dev.sys_snapshot _ _).trans ?_
    | with_reducible refine (Dev.sys_onGrp _ _ _).trans ?_
    | with_reducible refine (Dev.sys_faultPrism _ _).trans ?_
    | with_reducible refine (Dev.sys_dropSpeed _ _).trans ?_
    | with_reducible refine (Dev.sys_onFb _ _ _).trans ?_
    | with_reducible refine (Dev.sys_dropSeg _ _ _).trans ?_
    | with_reducible refine (Dev.sys_onTrc _ _ _).trans ?_
    | with_reducible refine (Dev.sys_memFault _).trans ?_
    | with_reducible refine (Dev.sys_rqEnd _ _ _).trans ?_)

theorem Dev.sys_holdEnd (d : Dev) (m : MotorIx) : (d.holdEnd m).sys = d.sys := by
  unfold Dev.holdEnd
  try dsimp only
  repeat' (first
    | with_reducible rfl
    | with_reducible exact isSys_of_le (by first | omega | decide | (simp only [aMot]; omega))
    | with_reducible exact isSysSrc_of_lt (by omega)
    | (show isSysSrc _ = false; decide)
    | split
    | with_reducible refine (Dev.sys_toIdle _ _).trans ?_)

theorem Dev.sys_tearLog (d : Dev) (u : LogUnit) : (d.tearLog u).sys = d.sys := by
  unfold Dev.tearLog
  try dsimp only
  repeat' (first
    | with_reducible rfl
    | with_reducible exact isSys_of_le (by first | omega | decide | (simp only [aMot]; omega))
    | with_reducible exact isSysSrc_of_lt (by omega)
    | (show isSysSrc _ = false; decide)
    | (show isSys _ = false; decide)
    | split
    | with_reducible refine (Dev.sys_with_devLog _ _).trans ?_)

theorem Dev.sys_tearMirror (d : Dev) : (d.tearMirror).sys = d.sys := by
  unfold Dev.tearMirror
  try dsimp only
  repeat' (first
    | with_reducible rfl
    | with_reducible exact isSys_of_le (by first | omega | decide | (simp only [aMot]; omega))
    | with_reducible exact isSysSrc_of_lt (by omega)
    | (show isSysSrc _ = false; decide)
    | (show isSys _ = false; decide)
    | split
    | with_reducible refine (Dev.sys_tearLog _ _).trans ?_)

theorem Dev.sys_cutRecord (d : Dev) (cut : CommitCut) : (d.cutRecord cut).sys = d.sys := by
  unfold Dev.cutRecord
  try dsimp only
  repeat' (first
    | with_reducible rfl
    | with_reducible exact isSys_of_le (by first | omega | decide | (simp only [aMot]; omega))
    | with_reducible exact isSysSrc_of_lt (by omega)
    | (show isSysSrc _ = false; decide)
    | (show isSys _ = false; decide)
    | split
    | with_reducible refine (Dev.sys_writeMirror _ _ _).trans ?_
    | with_reducible refine (Dev.sys_tearMirror _).trans ?_
    | with_reducible refine (Dev.sys_slot _ _).trans ?_
    | with_reducible refine (Dev.sys_clearSlot _ _).trans ?_
    | with_reducible refine (Dev.sys_writeSlot _ _ _).trans ?_)

theorem Dev.sys_cutUnit (d : Dev) (us : List LogUnit) : (d.cutUnit us).sys = d.sys := by
  unfold Dev.cutUnit
  try dsimp only
  repeat' (first
    | with_reducible rfl
    | with_reducible exact isSys_of_le (by first | omega | decide | (simp only [aMot]; omega))
    | with_reducible exact isSysSrc_of_lt (by omega)
    | (show isSysSrc _ = false; decide)
    | (show isSys _ = false; decide)
    | split
    | with_reducible refine (Dev.sys_tearLog _ _).trans ?_)

theorem Dev.sys_cutCommit (d : Dev) (cut : CommitCut) : (d.cutCommit cut).sys = d.sys := by
  unfold Dev.cutCommit
  try dsimp only
  repeat' (first
    | with_reducible rfl
    | with_reducible exact isSys_of_le (by first | omega | decide | (simp only [aMot]; omega))
    | with_reducible exact isSysSrc_of_lt (by omega)
    | (show isSysSrc _ = false; decide)
    | (show isSys _ = false; decide)
    | split
    | with_reducible refine (Dev.sys_cutUnit _ _).trans ?_
    | with_reducible refine (Dev.sys_cutRecord _ _).trans ?_)

theorem Dev.sys_loadKiss (d : Dev) (m : MotorIx) : (d.loadKiss m).sys = d.sys := by
  unfold Dev.loadKiss
  repeat' (first
    | with_reducible rfl
    | with_reducible exact isSys_of_le (by first | omega | decide | (simp only [aMot]; omega))
    | with_reducible exact isSysSrc_of_lt (by omega)
    | (show isSysSrc _ = false; decide)
    | split
    | with_reducible refine (Dev.sys_put32 _ _ _ ?_ ?_).trans ?_)

end Sys2Proof.Machine
end

