-- ==== Sys2Proof/Laws/Motors.lean ====
section
/-! SUPPORT. What the operations of the other blocks leave alone in the engines: the state of every motor. One equation for
each operation. -/

namespace Sys2Proof.Machine

set_option Elab.async false

open Sys2Proof

/-- The state of every motor. -/
def Dev.mst (d : Dev) : MotorIx → MState := fun m => (d.mot m).state

theorem Dev.mst_onMot (d : Dev) (m : MotorIx) (f : Motor → Motor) (h : ∀ x, (f x).state = x.state) :
    (d.onMot m f).mst = d.mst := by
  funext n
  by_cases e : n = m
  · subst e; unfold Dev.mst; rw [Dev.onMot_mot, h]
  · unfold Dev.mst; rw [Dev.onMot_mot_ne _ _ e]

theorem Dev.mst_each {α : Type} (l : List α) (f : Dev → α → Dev) (h : ∀ (d : Dev) a, (f d a).mst = d.mst) (d : Dev) :
    (d.each l f).mst = d.mst := by
  unfold Dev.each
  induction l generalizing d with
  | nil => rfl
  | cons a t ih => exact (ih (f d a)).trans (h d a)

theorem Dev.mst_when (d : Dev) (c : Bool) (f : Dev → Dev) (h : ∀ d : Dev, (f d).mst = d.mst) : (d.when c f).mst = d.mst := by
  unfold Dev.when; split
  · exact h d
  · rfl

theorem Dev.mst_of_motors {d e : Dev} (h : e.motors = d.motors) : e.mst = d.mst := by unfold Dev.mst Dev.mot; rw [h]

theorem Dev.mst_drives {d e : Dev} (h : d.Drives e) : e.mst = d.mst := funext fun n => h.mot_state n

theorem Dev.mst_raiseNow (d : Dev) (i : Nat) : (d.raiseNow i).mst = d.mst := by
  unfold Dev.raiseNow
  split
  · split <;> rfl
  · rfl

theorem Dev.mst_raise (d : Dev) (i : Nat) : (d.raise i).mst = d.mst := Dev.mst_of_motors (Dev.raise_motors d i)

theorem Dev.mst_raiseN (d : Dev) (i n : Nat) : (d.raiseN i n).mst = d.mst := by
  unfold Dev.raiseN
  split
  · rfl
  · split
    · rfl
    · refine Eq.trans ?_ (Dev.mst_raiseNow d i)
      dsimp only
      split
      · split <;> rfl
      · rfl

theorem Dev.mst_cause (d : Dev) (a : Nat) (m : Word) (i : Nat) : (d.cause a m i).mst = d.mst := Dev.mst_raise _ i

theorem Dev.mst_put (d : Dev) (a : Nat) (v : Word) : (d.put a v).mst = d.mst := rfl
theorem Dev.mst_putF (d : Dev) (a hi lo v : Nat) : (d.putF a hi lo v).mst = d.mst := rfl
theorem Dev.mst_putB (d : Dev) (a i : Nat) (b : Bool) : (d.putB a i b).mst = d.mst := rfl
theorem Dev.mst_orW (d : Dev) (a : Nat) (m : Word) : (d.orW a m).mst = d.mst := rfl
theorem Dev.mst_setB (d : Dev) (a i : Nat) : (d.setB a i).mst = d.mst := rfl
theorem Dev.mst_clrW (d : Dev) (a : Nat) (m : Word) : (d.clrW a m).mst = d.mst := rfl
theorem Dev.mst_addSat (d : Dev) (a hi lo n : Nat) : (d.addSat a hi lo n).mst = d.mst := rfl
theorem Dev.mst_inc (d : Dev) (a : Nat) : (d.inc a).mst = d.mst := rfl
theorem Dev.mst_put32 (d : Dev) (a : Nat) (v : BitVec 32) : (d.put32 a v).mst = d.mst := rfl
theorem Dev.mst_stampTime (d : Dev) (a : Nat) : (d.stampTime a).mst = d.mst := rfl
theorem Dev.mst_stamp (d : Dev) (a : Nat) : (d.stamp a).mst = d.mst := rfl
theorem Dev.mst_onGrp (d : Dev) (g : GroupIx) (f : Group → Group) : (d.onGrp g f).mst = d.mst := rfl
theorem Dev.mst_onBrg (d : Dev) (b : BridgeIx) (f : Bridge → Bridge) : (d.onBrg b f).mst = d.mst := rfl
theorem Dev.mst_onDie (d : Dev) (g : GroupIx) (f : Die → Die) : (d.onDie g f).mst = d.mst := rfl
theorem Dev.mst_onPrm (d : Dev) (g : GroupIx) (f : Prism → Prism) : (d.onPrm g f).mst = d.mst := rfl
theorem Dev.mst_onFb (d : Dev) (c : ChanIx) (f : Fb → Fb) : (d.onFb c f).mst = d.mst := rfl
theorem Dev.mst_onTrc (d : Dev) (t : TraceIx) (f : Trace → Trace) : (d.onTrc t f).mst = d.mst := rfl
theorem Dev.mst_onHp (d : Dev) (k : HostIx) (f : HostPort → HostPort) : (d.onHp k f).mst = d.mst := rfl
theorem Dev.mst_onSen (d : Dev) (s : SensorIx) (f : ThermSen → ThermSen) : (d.onSen s f).mst = d.mst := rfl
theorem Dev.mst_onMem (d : Dev) (f : MemPort → MemPort) : (d.onMem f).mst = d.mst := rfl
theorem Dev.mst_with_closeLate (d : Dev) (x : List (GroupIx × Fin 64)) : ({ d with closeLate := x } : Dev).mst = d.mst := rfl
theorem Dev.mst_onAcc (d : Dev) (p : GroupIx) (a : Fin 64) (f : Acc → Acc) : (d.onAcc p a f).mst = d.mst := rfl
theorem Dev.mst_enforce (d : Dev) (lo hi : Nat) : (d.enforce lo hi).mst = d.mst := rfl
theorem Dev.mst_enforce0 (d : Dev) (lo hi : Nat) : (d.enforce0 lo hi).mst = d.mst := rfl
theorem Dev.mst_nextFree (d : Dev) : d.nextFree.mst = d.mst := rfl
theorem Dev.mst_latch (d : Dev) (k : Master) (a : Nat) (v : Word) : (d.latch k a v).mst = d.mst := rfl
theorem Dev.mst_putFab (d : Dev) (k : Master) (v : Word) : (d.putFab k v).mst = d.mst := rfl
theorem Dev.mst_with_reports (d : Dev) (x : List Report) : ({ d with reports := x } : Dev).mst = d.mst := rfl
theorem Dev.mst_with_seqAt (d : Dev) (x : Option Nat) : ({ d with seqAt := x } : Dev).mst = d.mst := rfl
theorem Dev.mst_with_busDue (d : Dev) (x : List GroupIx) : ({ d with busDue := x } : Dev).mst = d.mst := rfl
theorem Dev.mst_with_glDue (d : Dev) (x : List MotorIx) : ({ d with glDue := x } : Dev).mst = d.mst := rfl
theorem Dev.mst_with_ticks (d : Dev) (x : Nat) : ({ d with ticks := x } : Dev).mst = d.mst := rfl
theorem Dev.mst_with_emptied (d : Dev) (x : Option (Nat × Bool)) : ({ d with emptied := x } : Dev).mst = d.mst := rfl
theorem Dev.mst_with_dist (d : Dev) (x : Dist) : ({ d with dist := x } : Dev).mst = d.mst := rfl
theorem Dev.mst_with_tickAt (d : Dev) (x : Nat) : ({ d with tickAt := x } : Dev).mst = d.mst := rfl
theorem Dev.mst_with_recq (d : Dev) (x : List Rec) : ({ d with recq := x } : Dev).mst = d.mst := rfl
theorem Dev.mst_with_mem (d : Dev) (x : MemPort) : ({ d with mem := x } : Dev).mst = d.mst := rfl
theorem Dev.mst_with_thermAt (d : Dev) (x : Nat) : ({ d with thermAt := x } : Dev).mst = d.mst := rfl
theorem Dev.mst_with_power (d : Dev) (x : Power) : ({ d with power := x } : Dev).mst = d.mst := rfl
theorem Dev.mst_with_devLog (d : Dev) (x : DevLog) : ({ d with devLog := x } : Dev).mst = d.mst := rfl
theorem Dev.mst_with_store (d : Dev) (x : Store) : ({ d with store := x } : Dev).mst = d.mst := rfl
theorem Dev.mst_with_loader (d : Dev) (x : Loader) : ({ d with loader := x } : Dev).mst = d.mst := rfl
theorem Dev.mst_with_mirror (d : Dev) (x : MirrorSt) : ({ d with mirror := x } : Dev).mst = d.mst := rfl
theorem Dev.mst_with_bist (d : Dev) (x : Bist) : ({ d with bist := x } : Dev).mst = d.mst := rfl

theorem Dev.mst_syncBsuv (d : Dev) (m : MotorIx) : (d.syncBsuv m).mst = d.mst :=
  Dev.mst_drives (Dev.drives_syncBsuv d m)

theorem Dev.mst_turnOn (d : Dev) (b : BridgeIx) : (d.turnOn b).mst = d.mst :=
  Dev.mst_drives (Dev.drives_turnOn d b)

theorem Dev.mst_turnOff (d : Dev) (b : BridgeIx) : (d.turnOff b).mst = d.mst :=
  Dev.mst_drives (Dev.drives_turnOff d b)

theorem Dev.mst_command (d : Dev) (b : BridgeIx) (en pulse : Bool) : (d.command b en pulse).mst = d.mst :=
  Dev.mst_drives (Dev.drives_command d b en pulse)

theorem Dev.mst_driveLeg (d : Dev) (m : MotorIx) (ph : Fin 3) : (d.driveLeg m ph).mst = d.mst :=
  Dev.mst_drives (Dev.drives_driveLeg d m ph)

theorem Dev.mst_syncComp (d : Dev) (m : MotorIx) : (d.syncComp m).mst = d.mst :=
  Dev.mst_drives (Dev.drives_syncComp d m)

theorem Dev.mst_drive (d : Dev) (m : MotorIx) : (d.drive m).mst = d.mst :=
  Dev.mst_drives (Dev.drives_drive d m)

theorem Dev.mst_driveGroup (d : Dev) (g : GroupIx) : (d.driveGroup g).mst = d.mst :=
  Dev.mst_drives (Dev.drives_driveGroup d g)

theorem Dev.mst_resetRR (d : Dev) (g : GroupIx) : (d.resetRR g).mst = d.mst := by
  unfold Dev.resetRR
  try dsimp only
  repeat' (first
    | with_reducible rfl
    | (intro x; rfl)
    | split
    | with_reducible refine (Dev.mst_put _ _ _).trans ?_)

theorem Dev.mst_snapshot (d : Dev) (g : GroupIx) : (d.snapshot g).mst = d.mst := by
  unfold Dev.snapshot
  try dsimp only
  repeat' (first
    | with_reducible rfl
    | (intro x; rfl)
    | split
    | with_reducible refine (Dev.mst_put _ _ _).trans ?_
    | with_reducible refine (Dev.mst_each _ _ (fun d x => ?_) _).trans ?_)

theorem Dev.mst_enforceGrants (d : Dev) (g : GroupIx) (b : Books) : (d.enforceGrants g b).mst = d.mst := by
  unfold Dev.enforceGrants
  try dsimp only
  repeat' (first
    | with_reducible rfl
    | (intro x; rfl)
    | split
    | with_reducible refine (Dev.mst_put _ _ _).trans ?_
    | with_reducible refine (Dev.mst_onGrp _ _ _).trans ?_
    | with_reducible refine (Dev.mst_onMot _ _ _ ?_).trans ?_
    | with_reducible refine (Dev.mst_each _ _ (fun d x => ?_) _).trans ?_)

theorem Dev.mst_zeroGrants (d : Dev) (g : GroupIx) : (d.zeroGrants g).mst = d.mst := by
  unfold Dev.zeroGrants
  try dsimp only
  repeat' (first
    | with_reducible rfl
    | (intro x; rfl)
    | split
    | with_reducible refine (Dev.mst_onGrp _ _ _).trans ?_
    | with_reducible refine (Dev.mst_enforceGrants _ _ _).trans ?_)

theorem Dev.mst_setBrk (d : Dev) (g : GroupIx) : (d.setBrk g).mst = d.mst := by
  unfold Dev.setBrk
  try dsimp only
  repeat' (first
    | with_reducible rfl
    | (intro x; rfl)
    | split
    | with_reducible refine (Dev.mst_putB _ _ _ _).trans ?_
    | with_reducible refine (Dev.mst_onGrp _ _ _).trans ?_)

theorem Dev.mst_chopFault (d : Dev) (g : GroupIx) (bit : Nat) : (d.chopFault g bit).mst = d.mst := by
  unfold Dev.chopFault
  try dsimp only
  repeat' (first
    | with_reducible rfl
    | (intro x; rfl)
    | split
    | with_reducible refine (Dev.mst_inc _ _).trans ?_
    | with_reducible refine (Dev.mst_cause _ _ _ _).trans ?_)

theorem Dev.mst_setLevel (d : Dev) (g : GroupIx) (new : Nat) : (d.setLevel g new).mst = d.mst := by
  unfold Dev.setLevel
  try dsimp only
  repeat' (first
    | with_reducible rfl
    | (intro x; rfl)
    | split
    | with_reducible refine (Dev.mst_putF _ _ _ _ _).trans ?_
    | with_reducible refine (Dev.mst_inc _ _).trans ?_
    | with_reducible refine (Dev.mst_cause _ _ _ _).trans ?_
    | with_reducible refine (Dev.mst_onGrp _ _ _).trans ?_
    | with_reducible refine (Dev.mst_driveGroup _ _).trans ?_
    | with_reducible refine (Dev.mst_setBrk _ _).trans ?_
    | with_reducible refine (Dev.mst_chopFault _ _ _).trans ?_)

theorem Dev.mst_supEvaluate (d : Dev) (g : GroupIx) (v : Nat) : (d.supEvaluate g v).mst = d.mst := by
  unfold Dev.supEvaluate
  try dsimp only
  repeat' (first
    | with_reducible rfl
    | (intro x; rfl)
    | split
    | with_reducible refine (Dev.mst_enforce _ _ _).trans ?_
    | with_reducible refine (Dev.mst_onGrp _ _ _).trans ?_
    | with_reducible refine (Dev.mst_putB _ _ _ _).trans ?_
    | with_reducible refine (Dev.mst_cause _ _ _ _).trans ?_
    | with_reducible refine (Dev.mst_setLevel _ _ _).trans ?_
    | with_reducible refine (Dev.mst_driveGroup _ _).trans ?_)

theorem Dev.mst_restartSeq (d : Dev) (p : GroupIx) : (d.restartSeq p).mst = d.mst := rfl


theorem Dev.mst_startSeq (d : Dev) (p : GroupIx) : (d.startSeq p).mst = d.mst := by
  unfold Dev.startSeq
  try dsimp only
  repeat' (first
    | with_reducible rfl
    | (intro x; rfl)
    | split
    | with_reducible refine (Dev.mst_onPrm _ _ _).trans ?_
    | with_reducible refine (Dev.mst_restartSeq _ _).trans ?_)

theorem Dev.mst_newCount (d : Dev) (p : GroupIx) (a : Fin 64) : (d.newCount p a).mst = d.mst := by
  unfold Dev.newCount
  try dsimp only
  repeat' (first
    | with_reducible rfl
    | (intro x; rfl)
    | split
    | with_reducible refine (Dev.mst_onPrm _ _ _).trans ?_
    | with_reducible refine (Dev.mst_onAcc _ _ _ _).trans ?_
    | with_reducible refine (Dev.mst_each _ _ (fun d x => ?_) _).trans ?_)

theorem Dev.mst_restartTrk (d : Dev) (p : GroupIx) (t : Fin 32) : (d.restartTrk p t).mst = d.mst := by
  unfold Dev.restartTrk
  try dsimp only
  repeat' (first
    | with_reducible rfl
    | (intro x; rfl)
    | split
    | with_reducible refine (Dev.mst_put _ _ _).trans ?_
    | with_reducible refine (Dev.mst_onPrm _ _ _).trans ?_)

theorem Dev.mst_showTrk (d : Dev) (p : GroupIx) (t : Fin 32) : (d.showTrk p t).mst = d.mst := by
  unfold Dev.showTrk
  try dsimp only
  repeat' (first
    | with_reducible rfl
    | (intro x; rfl)
    | split
    | with_reducible refine (Dev.mst_put _ _ _).trans ?_)

theorem Dev.mst_closeCount (d : Dev) (p : GroupIx) (a : Fin 64) (late : Bool) : (d.closeCount p a late).mst = d.mst := by
  unfold Dev.closeCount
  try dsimp only
  repeat' (first
    | with_reducible rfl
    | (intro x; rfl)
    | split
    | with_reducible refine (Dev.mst_put _ _ _).trans ?_
    | with_reducible refine (Dev.mst_setB _ _ _).trans ?_
    | with_reducible refine (Dev.mst_cause _ _ _ _).trans ?_
    | with_reducible refine (Dev.mst_onPrm _ _ _).trans ?_
    | with_reducible refine (Dev.mst_onAcc _ _ _ _).trans ?_
    | with_reducible refine (Dev.mst_each _ _ (fun d x => ?_) _).trans ?_
    | with_reducible refine (Dev.mst_when _ _ _ (fun d => ?_)).trans ?_
    | with_reducible refine (Dev.mst_newCount _ _ _).trans ?_
    | with_reducible refine (Dev.mst_showTrk _ _ _).trans ?_)

theorem Dev.mst_discardPartial (d : Dev) (p : GroupIx) : (d.discardPartial p).mst = d.mst := by
  unfold Dev.discardPartial
  try dsimp only
  repeat' (first
    | with_reducible rfl
    | (intro x; rfl)
    | split
    | with_reducible refine (Dev.mst_onPrm _ _ _).trans ?_
    | with_reducible refine (Dev.mst_each _ _ (fun d x => ?_) _).trans ?_
    | with_reducible refine (Dev.mst_newCount _ _ _).trans ?_)

theorem Dev.mst_restartTrks (d : Dev) (p : GroupIx) : (d.restartTrks p).mst = d.mst := by
  unfold Dev.restartTrks
  try dsimp only
  repeat' (first
    | with_reducible rfl
    | (intro x; rfl)
    | split
    | with_reducible refine (Dev.mst_each _ _ (fun d x => ?_) _).trans ?_
    | with_reducible refine (Dev.mst_restartTrk _ _ _).trans ?_)

theorem Dev.mst_resumeSeq (d : Dev) (p : GroupIx) : (d.resumeSeq p).mst = d.mst := by
  unfold Dev.resumeSeq
  try dsimp only
  repeat' (first
    | with_reducible rfl
    | (intro x; rfl)
    | split
    | with_reducible refine (Dev.mst_onPrm _ _ _).trans ?_
    | with_reducible refine (Dev.mst_startSeq _ _).trans ?_)

theorem Dev.mst_putSpd (d : Dev) (f : ChanIx) (v : Int) : (d.putSpd f v).mst = d.mst := by
  unfold Dev.putSpd
  try dsimp only
  repeat' (first
    | with_reducible rfl
    | (intro x; rfl)
    | split
    | with_reducible refine (Dev.mst_put32 _ _ _).trans ?_)

theorem Dev.mst_putSpdv (d : Dev) (f : ChanIx) (b : Bool) : (d.putSpdv f b).mst = d.mst := by
  unfold Dev.putSpdv
  try dsimp only
  repeat' (first
    | with_reducible rfl
    | (intro x; rfl)
    | split
    | with_reducible refine (Dev.mst_putB _ _ _ _).trans ?_)

theorem Dev.mst_dropSpeed (d : Dev) (f : ChanIx) : (d.dropSpeed f).mst = d.mst := by
  unfold Dev.dropSpeed
  try dsimp only
  repeat' (first
    | with_reducible rfl
    | (intro x; rfl)
    | split
    | with_reducible refine (Dev.mst_onFb _ _ _).trans ?_
    | with_reducible refine (Dev.mst_putSpd _ _ _).trans ?_
    | with_reducible refine (Dev.mst_putSpdv _ _ _).trans ?_)

theorem Dev.mst_putCmdx (d : Dev) (m : MotorIx) (x : Nat) : (d.putCmdx m x).mst = d.mst := by
  unfold Dev.putCmdx
  try dsimp only
  repeat' (first
    | with_reducible rfl
    | (intro x; rfl)
    | split
    | with_reducible refine (Dev.mst_put _ _ _).trans ?_
    | with_reducible refine (Dev.mst_nextFree _).trans ?_
    | with_reducible refine (Dev.mst_onMot _ _ _ ?_).trans ?_)

theorem Dev.mst_judgeCmd (d : Dev) (m : MotorIx) (frame : Bool) : (d.judgeCmd m frame).mst = d.mst := by
  unfold Dev.judgeCmd
  try dsimp only
  repeat' (first
    | with_reducible rfl
    | (intro x; rfl)
    | split
    | with_reducible refine (Dev.mst_put _ _ _).trans ?_
    | with_reducible refine (Dev.mst_putCmdx _ _ _).trans ?_)

theorem Dev.mst_measureCmd (d : Dev) (m : MotorIx) (x : Nat) (frame : Bool) : (d.measureCmd m x frame).mst = d.mst := by
  unfold Dev.measureCmd
  try dsimp only
  repeat' (first
    | with_reducible rfl
    | (intro x; rfl)
    | split
    | with_reducible refine (Dev.mst_putCmdx _ _ _).trans ?_
    | with_reducible refine (Dev.mst_judgeCmd _ _ _).trans ?_)

theorem Dev.mst_setSeg (d : Dev) (t : TraceIx) (s : Option Seg) : (d.setSeg t s).mst = d.mst := by
  unfold Dev.setSeg
  try dsimp only
  repeat' (first
    | with_reducible rfl
    | (intro x; rfl)
    | split
    | with_reducible refine (Dev.mst_putB _ _ _ _).trans ?_
    | with_reducible refine (Dev.mst_onTrc _ _ _).trans ?_)

theorem Dev.mst_pendAnchor (d : Dev) (t : TraceIx) (code : Nat) : (d.pendAnchor t code).mst = d.mst := by
  unfold Dev.pendAnchor
  try dsimp only
  repeat' (first
    | with_reducible rfl
    | (intro x; rfl)
    | split
    | with_reducible refine (Dev.mst_onTrc _ _ _).trans ?_)

theorem Dev.mst_dropSeg (d : Dev) (t : TraceIx) (code : Nat) : (d.dropSeg t code).mst = d.mst := by
  unfold Dev.dropSeg
  try dsimp only
  repeat' (first
    | with_reducible rfl
    | (intro x; rfl)
    | split
    | with_reducible refine (Dev.mst_setSeg _ _ _).trans ?_
    | with_reducible refine (Dev.mst_pendAnchor _ _ _).trans ?_)

theorem Dev.mst_thermMissed (d : Dev) (s : SensorIx) : (d.thermMissed s).mst = d.mst := by
  unfold Dev.thermMissed
  try dsimp only
  repeat' (first
    | with_reducible rfl
    | (intro x; rfl)
    | split
    | with_reducible refine (Dev.mst_putB _ _ _ _).trans ?_
    | with_reducible refine (Dev.mst_onSen _ _ _).trans ?_)

theorem Dev.mst_thermFeed (d : Dev) (p : GroupIx) : (d.thermFeed p).mst = d.mst := by
  unfold Dev.thermFeed
  try dsimp only
  repeat' (first
    | with_reducible rfl
    | (intro x; rfl)
    | split
    | with_reducible refine (Dev.mst_onPrm _ _ _).trans ?_
    | with_reducible refine (Dev.mst_onSen _ _ _).trans ?_)

theorem Dev.mst_thermOver (d : Dev) (q : GroupIx) (s : SensorIx) : (d.thermOver q s).mst = d.mst := by
  unfold Dev.thermOver
  dsimp only
  split
  · exact (Dev.mst_thermFeed _ _).trans (Dev.mst_onSen _ _ _)
  · exact Dev.mst_onSen _ _ _

theorem Dev.mst_thermFlush (d : Dev) (p : GroupIx) : (d.thermFlush p).mst = d.mst := by
  unfold Dev.thermFlush
  try dsimp only
  repeat' (first
    | with_reducible rfl
    | (intro x; rfl)
    | split
    | with_reducible refine (Dev.mst_onPrm _ _ _).trans ?_
    | with_reducible refine (Dev.mst_thermOver _ _ _).trans ?_
    | with_reducible refine (Dev.mst_each _ _ (fun x y => ?_) _).trans ?_
    | with_reducible refine (Dev.mst_thermMissed _ _).trans ?_
    | with_reducible refine (Dev.mst_onSen _ _ _).trans ?_)

theorem Dev.mst_thermDrop (d : Dev) (p : GroupIx) : (d.thermDrop p).mst = d.mst := by
  unfold Dev.thermDrop
  try dsimp only
  repeat' (first
    | with_reducible rfl
    | (intro x; rfl)
    | split
    | with_reducible refine (Dev.mst_thermFlush _ _).trans ?_
    | with_reducible refine (Dev.mst_each _ _ (fun x y => ?_) _).trans ?_
    | with_reducible refine (Dev.mst_thermMissed _ _).trans ?_
    | with_reducible refine (Dev.mst_onSen _ _ _).trans ?_)

theorem Dev.mst_thermJudge (d : Dev) (s : SensorIx) (bit cause src : Nat) (thr : Int) (first : Option Nat) :
    (d.thermJudge s bit cause src thr first).1.mst = d.mst := by
  unfold Dev.thermJudge
  dsimp only
  generalize (if d.bit 0x1001 (bit + s.1) = true then _ else _ : Bool) = met
  split
  · rfl
  · split
    · rfl
    · split
      · exact (Dev.mst_cause _ _ _ _).trans (Dev.mst_putB _ _ _ _)
      · exact (Dev.mst_cause _ _ _ _).trans (Dev.mst_putB _ _ _ _)

theorem Dev.mst_thermReading (d : Dev) (s : SensorIx) (v : Word) : (d.thermReading s v).mst = d.mst := by
  unfold Dev.thermReading
  dsimp only
  exact (Dev.mst_onSen _ _ _).trans ((Dev.mst_thermJudge _ _ _ _ _ _ _).trans ((Dev.mst_thermJudge _ _ _ _ _ _ _).trans
    ((Dev.mst_onSen _ _ _).trans ((Dev.mst_put _ _ _).trans ((Dev.mst_stampTime _ _).trans (Dev.mst_put _ _ _))))))



theorem Dev.mst_closeRead (d : Dev) (p : GroupIx) (a : Fin 64) : (d.closeRead p a).mst = d.mst := by
  unfold Dev.closeRead
  try dsimp only
  repeat' (first
    | with_reducible rfl
    | (intro x; rfl)
    | split
    | with_reducible refine (Dev.mst_supEvaluate _ _ _).trans ?_
    | with_reducible refine (Dev.mst_each _ _ (fun x y => ?_) _).trans ?_
    | with_reducible refine (Dev.mst_measureCmd _ _ _ _).trans ?_
    | with_reducible refine (Dev.mst_thermOver _ _ _).trans ?_
    | with_reducible refine (Dev.mst_thermReading _ _ _).trans ?_
    | with_reducible refine (Dev.mst_thermFeed _ _).trans ?_)

theorem Dev.mst_closed (d : Dev) (p : GroupIx) (a : Fin 64) (late : Bool) : (d.closed p a late).mst = d.mst := by
  unfold Dev.closed
  try dsimp only
  repeat' (first
    | with_reducible rfl
    | (intro x; rfl)
    | split
    | with_reducible refine (Dev.mst_closeCount _ _ _ _).trans ?_
    | with_reducible refine (Dev.mst_closeRead _ _ _).trans ?_
    | with_reducible refine (Dev.mst_with_closeLate _ _).trans ?_)

theorem Dev.mst_memInvalid (d : Dev) : (d.memInvalid).mst = d.mst := by
  unfold Dev.memInvalid
  try dsimp only
  repeat' (first
    | with_reducible rfl
    | (intro x; rfl)
    | split
    | with_reducible refine (Dev.mst_onMem _ _).trans ?_)

theorem Dev.mst_memSync (d : Dev) : (d.memSync).mst = d.mst := by
  unfold Dev.memSync
  try dsimp only
  repeat' (first
    | with_reducible rfl
    | (intro x; rfl)
    | split
    | with_reducible refine (Dev.mst_enforce _ _ _).trans ?_
    | with_reducible refine (Dev.mst_memInvalid _).trans ?_)

theorem Dev.mst_exitFirst (d : Dev) (window : Bool) : (d.exitFirst window).mst = d.mst := by
  unfold Dev.exitFirst
  try dsimp only
  repeat' (first
    | with_reducible rfl
    | (intro x; rfl)
    | split
    | with_reducible refine (Dev.mst_onMem _ _).trans ?_
    | with_reducible refine (Dev.mst_nextFree _).trans ?_)

theorem Dev.mst_memRelease (d : Dev) : (d.memRelease).mst = d.mst := by
  unfold Dev.memRelease
  try dsimp only
  repeat' (first
    | with_reducible rfl
    | (intro x; rfl)
    | split
    | with_reducible refine (Dev.mst_onMem _ _).trans ?_
    | with_reducible refine (Dev.mst_exitFirst _ _).trans ?_)

theorem Dev.mst_winServe (d : Dev) : (d.winServe).mst = d.mst := by
  unfold Dev.winServe
  try dsimp only
  repeat' (first
    | with_reducible rfl
    | (intro x; rfl)
    | split
    | with_reducible refine (Dev.mst_onMem _ _).trans ?_
    | with_reducible refine (Dev.mst_putFab _ _ _).trans ?_
    | with_reducible refine (Dev.mst_each _ _ (fun d x => ?_) _).trans ?_)

theorem Dev.mst_fillBegin (d : Dev) (l : BitVec 32) (pre intoB : Bool) : (d.fillBegin l pre intoB).mst = d.mst := by
  unfold Dev.fillBegin
  try dsimp only
  repeat' (first
    | with_reducible rfl
    | (intro x; rfl)
    | split
    | with_reducible refine (Dev.mst_onMem _ _).trans ?_
    | with_reducible refine (Dev.mst_exitFirst _ _).trans ?_)

theorem Dev.mst_qDone (d : Dev) (i res : Nat) : (d.qDone i res).mst = d.mst := by
  unfold Dev.qDone
  try dsimp only
  repeat' (first
    | with_reducible rfl
    | (intro x; rfl)
    | split
    | with_reducible refine (Dev.mst_put _ _ _).trans ?_)

theorem Dev.mst_qOver (d : Dev) : (d.qOver).mst = d.mst := by
  unfold Dev.qOver
  try dsimp only
  repeat' (first
    | with_reducible rfl
    | (intro x; rfl)
    | split
    | with_reducible refine (Dev.mst_putB _ _ _ _).trans ?_)

theorem Dev.mst_qEnd (d : Dev) (res : Nat) : (d.qEnd res).mst = d.mst := by
  unfold Dev.qEnd
  try dsimp only
  repeat' (first
    | with_reducible rfl
    | (intro x; rfl)
    | split
    | with_reducible refine (Dev.mst_each _ _ (fun d x => ?_) _).trans ?_
    | with_reducible refine (Dev.mst_qDone _ _ _).trans ?_
    | with_reducible refine (Dev.mst_qOver _).trans ?_)

theorem Dev.mst_entryBegin (d : Dev) : (d.entryBegin).mst = d.mst := by
  unfold Dev.entryBegin
  try dsimp only
  repeat' (first
    | with_reducible rfl
    | (intro x; rfl)
    | split
    | with_reducible refine (Dev.mst_onMem _ _).trans ?_
    | with_reducible refine (Dev.mst_memInvalid _).trans ?_
    | with_reducible refine (Dev.mst_exitFirst _ _).trans ?_)

theorem Dev.mst_qSkip (n : Nat) (d : Dev) : (Dev.qSkip n d).mst = d.mst := by
  induction n generalizing d with
  | zero => rfl
  | succ n ih =>
    unfold Dev.qSkip
    dsimp only
    split
    · split
      · exact (Dev.mst_qOver _).trans (Dev.mst_qDone _ _ _)
      · exact (ih _).trans ((Dev.mst_putF _ _ _ _ _).trans (Dev.mst_qDone _ _ _))
    · rfl


theorem Dev.mst_memNext (d : Dev) : (d.memNext).mst = d.mst := by
  unfold Dev.memNext
  dsimp only
  split
  · exact Dev.mst_memSync d
  · have e : ((Dev.qSkip 16 d.memSync).winServe).mst = d.mst :=
      (Dev.mst_winServe _).trans ((Dev.mst_qSkip _ _).trans (Dev.mst_memSync _))
    split
    · split
      · exact (Dev.mst_entryBegin _).trans e
      · split
        · exact (Dev.mst_fillBegin _ _ _ _).trans e
        · exact e
    · split
      · exact (Dev.mst_entryBegin _).trans e
      · exact e


theorem Dev.mst_memFault (d : Dev) : (d.memFault).mst = d.mst := by
  unfold Dev.memFault
  try dsimp only
  repeat' (first
    | with_reducible rfl
    | (intro x; rfl)
    | split
    | with_reducible refine (Dev.mst_putB _ _ _ _).trans ?_
    | with_reducible refine (Dev.mst_onMem _ _).trans ?_
    | with_reducible refine (Dev.mst_putFab _ _ _).trans ?_
    | with_reducible refine (Dev.mst_each _ _ (fun d x => ?_) _).trans ?_
    | with_reducible refine (Dev.mst_memInvalid _).trans ?_
    | with_reducible refine (Dev.mst_memSync _).trans ?_
    | with_reducible refine (Dev.mst_qEnd _ _).trans ?_)

theorem Dev.mst_faultPrism (d : Dev) (p : GroupIx) : (d.faultPrism p).mst = d.mst := by
  unfold Dev.faultPrism
  try dsimp only
  repeat' (first
    | with_reducible rfl
    | (intro x; rfl)
    | split
    | with_reducible refine (Dev.mst_onPrm _ _ _).trans ?_
    | with_reducible refine (Dev.mst_thermFlush _ _).trans ?_
    | with_reducible refine (Dev.mst_discardPartial _ _).trans ?_
    | with_reducible refine (Dev.mst_restartTrks _ _).trans ?_
    | with_reducible refine (Dev.mst_resumeSeq _ _).trans ?_
    | with_reducible refine (Dev.mst_thermFeed _ _).trans ?_)

theorem Dev.mst_rqEnd (d : Dev) (res : Nat) (data : Word) : (d.rqEnd res data).mst = d.mst := by
  unfold Dev.rqEnd
  try dsimp only
  repeat' (first
    | with_reducible rfl
    | (intro x; rfl)
    | split
    | with_reducible refine (Dev.mst_put _ _ _).trans ?_
    | with_reducible refine (Dev.mst_putF _ _ _ _ _).trans ?_
    | with_reducible refine (Dev.mst_putB _ _ _ _).trans ?_)

theorem Dev.mst_loadFails (d : Dev) : (d.loadFails).mst = d.mst := by
  unfold Dev.loadFails
  dsimp only
  split
  · generalize hd0 : d.when _ _ = d0
    have e0 : d0.mst = d.mst := hd0 ▸ Dev.mst_when _ _ _ (fun d => Dev.mst_putB d _ _ _)
    clear hd0
    exact (Dev.mst_memNext _).trans ((Dev.mst_memRelease _).trans ((Dev.mst_with_loader (d0.putF 0x40 2 0 6) _).trans e0))
  · rfl


/-- The end of a data phase moves no motor. -/
theorem Dev.mst_riseFrame (d : Dev) (k : HostIx) (x : HostArgs) : (d.riseFrame k x).mst = d.mst := by
  unfold Dev.riseFrame
  split
  · rfl
  · exact (Dev.mst_onHp _ _ _).trans ((Dev.mst_inc _ _).trans (Dev.mst_cause _ _ _ _))

/-- Words sent move no motor. -/
theorem Dev.mst_hostZeros (d : Dev) (k : HostIx) (n : Nat) : (d.hostZeros k n).mst = d.mst := by
  unfold Dev.hostZeros
  exact Dev.mst_each _ _ (fun d _ => (rfl : (d.hostSend k 0).mst = d.mst)) _

/-- Page words move no motor. -/
theorem Dev.mst_pageWords (d : Dev) (k : HostIx) (n : Nat) : (d.pageWords k n).mst = d.mst := by
  unfold Dev.pageWords
  exact Dev.mst_each _ _ (fun d v => (rfl : (d.hostSend k v).mst = d.mst)) _

/-- A cut of a transaction moves no motor. -/
theorem Dev.mst_cutPort (d : Dev) (k : HostIx) (cut : Bool) : (d.cutPort k cut).mst = d.mst := by
  unfold Dev.cutPort
  dsimp only
  split
  · unfold Dev.cutReading Dev.when
    dsimp only
    refine (Dev.mst_put _ _ _).trans ((Dev.mst_riseFrame _ _ _).trans ((Dev.mst_hostZeros _ _ _).trans ?_))
    split <;> rfl
  · unfold Dev.cutParked
    dsimp only
    refine (Dev.mst_put _ _ _).trans ((Dev.mst_riseFrame _ _ _).trans ?_)
    split
    · exact Dev.mst_hostZeros _ _ _
    · split
      · exact Dev.mst_hostZeros _ _ _
      · exact Dev.mst_pageWords _ _ _
    · rfl
  · rfl

theorem Dev.mst_setRr (d : Dev) (g : GroupIx) (on : Bool) : (d.setRr g on).mst = d.mst := by
  unfold Dev.setRr
  try dsimp only
  repeat' (first
    | with_reducible rfl
    | (intro x; rfl)
    | split
    | with_reducible refine (Dev.mst_putB _ _ _ _).trans ?_
    | with_reducible refine (Dev.mst_onGrp _ _ _).trans ?_)

theorem Dev.mst_syncRr (d : Dev) : (d.syncRr).mst = d.mst := by
  unfold Dev.syncRr
  refine Dev.mst_each _ _ (fun d g => ?_) _
  split
  · exact (Dev.mst_setRr _ _ _).trans rfl
  · split
    · exact (Dev.mst_setRr _ _ _).trans rfl
    · split <;> rfl


theorem Dev.mst_loadKiss (d : Dev) (m : MotorIx) : (d.loadKiss m).mst = d.mst := by
  unfold Dev.loadKiss
  try dsimp only
  repeat' (first
    | with_reducible rfl
    | (intro x; rfl)
    | split
    | with_reducible refine (Dev.mst_put32 _ _ _).trans ?_)

end Sys2Proof.Machine
end

