-- ==== Sys2Proof/Laws/Faults.lean ====
section
/-! SUPPORT. What a device fault does to the system registers and to the states of the motors (R418, R419). -/

namespace Sys2Proof.Machine

set_option Elab.async false

open Sys2Proof

/-- Nothing is under test: there is no test to end. -/
theorem Dev.bistEnd_none (d : Dev) (c : Word) (h : d.bist.run = none) : d.bistEnd c = d := by
  unfold Dev.bistEnd; rw [h]

/-- Words of two equal views. -/
theorem Dev.words_of_sys {d d' : Dev} (h : d'.sys.words = d.sys.words) (a : Nat) (ha : isSys a = true) : d'.w a = d.w a := by
  have e : (if isSys a then d'.w a else 0) = (if isSys a then d.w a else 0) := congrFun h a
  simpa [ha] using e

/-- Event sources of two equal views. -/
theorem Dev.ev_of_sys {d d' : Dev} (h : d'.sys.ev = d.sys.ev) (i : Fin 64) (hi : isSysSrc i.1 = true) : d'.ev[i] = d.ev[i] := by
  have e : (if isSysSrc i.1 then d'.ev[i] else {}) = (if isSysSrc i.1 then d.ev[i] else {}) := congrFun h i
  simpa [hi] using e

/-- A written word leaves the rest. -/
theorem Dev.put_sys (d : Dev) (a : Nat) (v : Word) : (d.put a v).sys.ev = d.sys.ev ∧ (d.put a v).faultAt = d.faultAt ∧ (d.put a v).cycles = d.cycles ∧ (d.put a v).locked = d.locked ∧
    (d.put a v).heldOff = d.heldOff ∧ (d.put a v).resetN = d.resetN :=
  ⟨rfl, rfl, rfl, rfl, rfl, rfl⟩

theorem Dev.putF_sys (d : Dev) (a hi lo v : Nat) : (d.putF a hi lo v).sys.ev = d.sys.ev ∧ (d.putF a hi lo v).faultAt = d.faultAt ∧ (d.putF a hi lo v).cycles = d.cycles ∧ (d.putF a hi lo v).locked = d.locked ∧
    (d.putF a hi lo v).heldOff = d.heldOff ∧ (d.putF a hi lo v).resetN = d.resetN := Dev.put_sys d a _

theorem Dev.putB_sys (d : Dev) (a i : Nat) (b : Bool) : (d.putB a i b).sys.ev = d.sys.ev ∧ (d.putB a i b).faultAt = d.faultAt ∧ (d.putB a i b).cycles = d.cycles ∧ (d.putB a i b).locked = d.locked ∧
    (d.putB a i b).heldOff = d.heldOff ∧ (d.putB a i b).resetN = d.resetN := Dev.put_sys d a _

/-- A load that fails leaves every word but CFGSTAT. -/
theorem Dev.sys_loadFails (d : Dev) : (∀ a, a ≠ 0x40 → isSys a = true → d.loadFails.w a = d.w a) ∧ d.loadFails.sys.ev = d.sys.ev ∧
   d.loadFails.faultAt = d.faultAt ∧ d.loadFails.cycles = d.cycles ∧ d.loadFails.sys.locked = d.locked ∧ d.loadFails.sys.heldOff = d.heldOff ∧ d.loadFails.sys.resetN = d.resetN := by
  unfold Dev.loadFails
  split
  · dsimp only
    generalize hd0 : d.when _ _ = d0
    have e0 : (∀ a, a ≠ 0x40 → d0.w a = d.w a) ∧ d0.sys.ev = d.sys.ev ∧ d0.faultAt = d.faultAt ∧ d0.cycles = d.cycles ∧ d0.locked = d.locked ∧ d0.heldOff = d.heldOff ∧ d0.resetN = d.resetN := by
      rw [← hd0]; unfold Dev.when; split
      · exact ⟨fun a h => Dev.w_put_ne d _ h, Dev.putB_sys d 0x40 11 true⟩
      · exact ⟨fun _ _ => rfl, rfl, rfl, rfl, rfl, rfl, rfl⟩
    clear hd0
    have e2 := Dev.putF_sys d0 0x40 2 0 6
    have w2 : ∀ a, a ≠ 0x40 → (d0.putF 0x40 2 0 6).w a = d0.w a := fun a h => Dev.w_put_ne d0 _ h
    generalize d0.putF 0x40 2 0 6 = d2 at e2 w2
    generalize hd1 : ({ d2 with loader := _ } : Dev) = d1
    have h1 := (Dev.sys_memNext d1.memRelease).trans (Dev.sys_memRelease d1)
    have e1 : (∀ a, a ≠ 0x40 → d1.w a = d0.w a) ∧ d1.sys.ev = d0.sys.ev ∧ d1.faultAt = d0.faultAt ∧ d1.cycles = d0.cycles ∧ d1.locked = d0.locked ∧ d1.heldOff = d0.heldOff ∧ d1.resetN = d0.resetN := by
      rw [← hd1]
      exact ⟨w2, e2⟩
    clear hd1
    refine ⟨fun a h hs => (Dev.sys_w h1 a hs).trans ((e1.1 a h).trans (e0.1 a h)), (congrArg SysView.ev h1).trans (e1.2.1.trans e0.2.1), 
     (congrArg SysView.faultAt h1).trans (e1.2.2.1.trans e0.2.2.1), (congrArg SysView.cycles h1).trans (e1.2.2.2.1.trans e0.2.2.2.1),
     (congrArg SysView.locked h1).trans (e1.2.2.2.2.1.trans e0.2.2.2.2.1),
     (congrArg SysView.heldOff h1).trans (e1.2.2.2.2.2.1.trans e0.2.2.2.2.2.1),(congrArg SysView.resetN h1).trans (e1.2.2.2.2.2.2.trans e0.2.2.2.2.2.2)⟩
  · exact ⟨fun _ _ _ => rfl, rfl, rfl, rfl, rfl, rfl, rfl⟩

/-- After the engines have acted, no other block moves a motor to another state. -/
theorem Dev.mst_actBlocks (d : Dev) (cut : Vector Bool 4) :
    (d.actBlocks cut).mst = (d.each (List.finRange 16) Dev.faultMotor).mst := by
  unfold Dev.actBlocks
  dsimp only
  refine (Dev.mst_rqEnd _ _ _).trans ((Dev.mst_memFault _).trans ?_)
  refine (Dev.mst_each _ _ (fun d k => Dev.mst_cutPort _ _ _) _).trans ?_
  refine (Dev.mst_each _ _ (fun d k => (Dev.mst_onTrc _ _ _).trans (Dev.mst_dropSeg _ _ _)) _).trans ?_
  refine (Dev.mst_each _ _ (fun d k => (Dev.mst_onFb _ _ _).trans (Dev.mst_dropSpeed _ _)) _).trans ?_
  refine (Dev.mst_each _ _ (fun d k => Dev.mst_faultPrism _ _) _).trans ?_
  exact Dev.mst_each _ _ (fun d g => (Dev.mst_onGrp _ _ _).trans
    ((Dev.mst_snapshot _ _).trans ((Dev.mst_resetRR _ _).trans (Dev.mst_zeroGrants _ _)))) _

/-- With nothing under test: every block acts, the link gives up its exchange, and a load in progress ends. -/
theorem Dev.faultBlocks_eq (d : Dev) (cut : Vector Bool 4) (hb : d.bist.run = none) :
    d.faultBlocks cut = (d.actBlocks cut).linkFault.loadFails := by
  have hbi : (d.actBlocks cut).linkFault.bist = d.bist := Dev.bist_actBlocks d cut
  unfold Dev.faultBlocks
  rw [Dev.bistEnd_none _ _ (by rw [hbi]; exact hb)]

theorem Dev.mst_linkFault (d : Dev) : d.linkFault.mst = d.mst := rfl

theorem Dev.put32_mot' (d : Dev) (a : Nat) (v : BitVec 32) (k : MotorIx) : (d.put32 a v).mot k = d.mot k := rfl

/-- Clearing a motor's integrators leaves the other motors. -/
theorem Dev.clearInts_mot_ne (d : Dev) (m k : MotorIx) (st : MState) (hk : k ≠ m) :
    (d.clearInts m st).mot k = d.mot k := by
  have h : ∀ f, (d.onMot m f).mot k = d.mot k := fun f => Dev.onMot_mot_ne d f hk
  have hp : ∀ (e : Dev) a v, (e.put a v).mot k = e.mot k := fun _ _ _ => rfl
  simp only [Dev.clearInts]
  split <;> split <;> simp only [hp, Dev.put32_mot', h]

/-- Showing a change of state leaves every motor. -/
theorem Dev.showChange_mot (d : Dev) (m k : MotorIx) : (d.showChange m).mot k = d.mot k := by
  unfold Dev.showChange
  dsimp only
  split <;> rfl

theorem Dev.enterFault_state (d : Dev) (m n : MotorIx) (a : FaultAct) :
   ((d.enterFault m a).mot n).state = if n = m then .fault else (d.mot n).state := by
  unfold Dev.enterFault
  dsimp only
  rw [(Dev.drives_drive _ m).mot_state n]
  have hc : ∀ k, k ≠ m → ((d.clearInts m .fault).mot k) = d.mot k := fun k hk => by
    exact Dev.clearInts_mot_ne d m k .fault hk
  generalize d.clearInts m .fault = e at hc
  rw [Dev.showChange_mot]
  by_cases h : n = m
  · subst h; rw [Dev.onMot_mot, if_pos rfl]
  · rw [Dev.onMot_mot_ne _ _ h, if_neg h, hc _ h]

theorem Dev.faultMotor_state (d : Dev) (m n : MotorIx) :
   ((d.faultMotor m).mot n).state = if n = m ∧ (d.mot n).state ≠ .idle then .fault else (d.mot n).state := by
  unfold Dev.faultMotor
  dsimp only
  split
  · rename_i h
    split
    · rename_i h2; rw [h2.1] at h2; exact absurd h h2.2
    · rfl
  · rename_i h
    by_cases e : n = m
    · subst e
      simp [h]
      split
      · rename_i h2; exact h2.1
      · rw [Dev.enterFault_state]; simp
    · rw [Dev.onMot_mot_ne _ _ e]
      simp [e]
      split
      · rfl
      · rw [Dev.enterFault_state, if_neg e]

theorem Dev.each_states (l : List MotorIx) (hl : l.Nodup) (d : Dev) (n : MotorIx) :
    ((d.each l Dev.faultMotor).mot n).state = if n ∈ l ∧ (d.mot n).state ≠ .idle then .fault else (d.mot n).state := by
  unfold Dev.each
  induction l generalizing d with
  | nil => simp
  | cons a t ih =>
    rw [List.foldl_cons, ih (List.nodup_cons.1 hl).2, Dev.faultMotor_state]
    by_cases h : n = a
    · subst h
      have := (List.nodup_cons.1 hl).1
      simp [this]
    · simp [h]

/-- A device fault sends every motor outside IDLE to FAULT (R419). -/
theorem Dev.faultBlocks_states (d : Dev) (cut : Vector Bool 4) (hb : d.bist.run = none) (n : MotorIx) :
    ((d.faultBlocks cut).mot n).state = if (d.mot n).state = .idle then .idle else .fault := by
  have e1 : (d.faultBlocks cut).mst = (d.each (List.finRange 16) Dev.faultMotor).mst := by
    rw [Dev.faultBlocks_eq d cut hb, ← Dev.mst_actBlocks d cut]
    exact (Dev.mst_loadFails _).trans (Dev.mst_linkFault _)
  have := congrFun e1 n
  unfold Dev.mst at this
  rw [this, Dev.each_states _ (List.nodup_finRange 16)]
  by_cases h : (d.mot n).state = .idle <;> simp [h]

end Sys2Proof.Machine
end

