-- ==== Sys2Proof/Laws/Groups.lean ====
section
/-! SUPPORT. What the work of a frame leaves alone: the timebase of every group. One equation for each operation. -/

namespace Sys2Proof.Machine

set_option Elab.async false

open Sys2Proof

/-- The timebase of every group: running, its frame start, its period and its frame count. -/
def Dev.tb (d : Dev) : GroupIx → Bool × Nat × Nat × BitVec 32 :=
  fun g => ((d.grp g).running, (d.grp g).frameAt, (d.grp g).period, (d.grp g).fcnt)

theorem Dev.tb_onGrp (d : Dev) (g : GroupIx) (f : Group → Group)
    (h : ∀ x, ((f x).running, (f x).frameAt, (f x).period, (f x).fcnt) = (x.running, x.frameAt, x.period, x.fcnt)) :
    (d.onGrp g f).tb = d.tb := by
  funext n
  by_cases e : n = g
  · subst e; unfold Dev.tb; rw [Dev.onGrp_grp]; exact h _
  · unfold Dev.tb; rw [Dev.onGrp_grp_ne _ _ e]

theorem Dev.tb_each {α : Type} (l : List α) (f : Dev → α → Dev) (h : ∀ (d : Dev) a, (f d a).tb = d.tb) (d : Dev) :
    (d.each l f).tb = d.tb := by
  unfold Dev.each
  induction l generalizing d with
  | nil => rfl
  | cons a t ih => exact (ih (f d a)).trans (h d a)

theorem Dev.tb_when (d : Dev) (c : Bool) (f : Dev → Dev) (h : ∀ d : Dev, (f d).tb = d.tb) : (d.when c f).tb = d.tb := by
  unfold Dev.when; split
  · exact h d
  · rfl

theorem Dev.tb_of_groups {d e : Dev} (h : e.groups = d.groups) : e.tb = d.tb := by unfold Dev.tb Dev.grp; rw [h]

theorem Dev.tb_drives {d e : Dev} (h : d.Drives e) : e.tb = d.tb := Dev.tb_of_groups h.groups

theorem Dev.tb_raiseNow (d : Dev) (i : Nat) : (d.raiseNow i).tb = d.tb := by
  unfold Dev.raiseNow
  split
  · split <;> rfl
  · rfl

theorem Dev.tb_raise (d : Dev) (i : Nat) : (d.raise i).tb = d.tb := Dev.tb_of_groups (Dev.raise_groups d i)

theorem Dev.tb_raiseN (d : Dev) (i n : Nat) : (d.raiseN i n).tb = d.tb := by
  unfold Dev.raiseN
  split
  · rfl
  · split
    · rfl
    · refine Eq.trans ?_ (Dev.tb_raiseNow d i)
      dsimp only
      split
      · split <;> rfl
      · rfl

theorem Dev.tb_cause (d : Dev) (a : Nat) (m : Word) (i : Nat) : (d.cause a m i).tb = d.tb := Dev.tb_raise _ i

theorem Dev.tb_put (d : Dev) (a : Nat) (v : Word) : (d.put a v).tb = d.tb := rfl
theorem Dev.tb_putF (d : Dev) (a hi lo v : Nat) : (d.putF a hi lo v).tb = d.tb := rfl
theorem Dev.tb_putB (d : Dev) (a i : Nat) (b : Bool) : (d.putB a i b).tb = d.tb := rfl
theorem Dev.tb_orW (d : Dev) (a : Nat) (m : Word) : (d.orW a m).tb = d.tb := rfl
theorem Dev.tb_setB (d : Dev) (a i : Nat) : (d.setB a i).tb = d.tb := rfl
theorem Dev.tb_clrW (d : Dev) (a : Nat) (m : Word) : (d.clrW a m).tb = d.tb := rfl
theorem Dev.tb_addSat (d : Dev) (a hi lo n : Nat) : (d.addSat a hi lo n).tb = d.tb := rfl
theorem Dev.tb_inc (d : Dev) (a : Nat) : (d.inc a).tb = d.tb := rfl
theorem Dev.tb_put32 (d : Dev) (a : Nat) (v : BitVec 32) : (d.put32 a v).tb = d.tb := rfl
theorem Dev.tb_stampTime (d : Dev) (a : Nat) : (d.stampTime a).tb = d.tb := rfl
theorem Dev.tb_stamp (d : Dev) (a : Nat) : (d.stamp a).tb = d.tb := rfl
theorem Dev.tb_onMot (d : Dev) (m : MotorIx) (f : Motor → Motor) : (d.onMot m f).tb = d.tb := rfl
theorem Dev.tb_onBrg (d : Dev) (b : BridgeIx) (f : Bridge → Bridge) : (d.onBrg b f).tb = d.tb := rfl
theorem Dev.tb_onDie (d : Dev) (g : GroupIx) (f : Die → Die) : (d.onDie g f).tb = d.tb := rfl
theorem Dev.tb_onPrm (d : Dev) (g : GroupIx) (f : Prism → Prism) : (d.onPrm g f).tb = d.tb := rfl
theorem Dev.tb_onFb (d : Dev) (c : ChanIx) (f : Fb → Fb) : (d.onFb c f).tb = d.tb := rfl
theorem Dev.tb_onTrc (d : Dev) (t : TraceIx) (f : Trace → Trace) : (d.onTrc t f).tb = d.tb := rfl
theorem Dev.tb_onHp (d : Dev) (k : HostIx) (f : HostPort → HostPort) : (d.onHp k f).tb = d.tb := rfl
theorem Dev.tb_onSen (d : Dev) (s : SensorIx) (f : ThermSen → ThermSen) : (d.onSen s f).tb = d.tb := rfl
theorem Dev.tb_with_closeLate (d : Dev) (x : List (GroupIx × Fin 64)) : ({ d with closeLate := x } : Dev).tb = d.tb := rfl
theorem Dev.tb_onMem (d : Dev) (f : MemPort → MemPort) : (d.onMem f).tb = d.tb := rfl
theorem Dev.tb_onAcc (d : Dev) (p : GroupIx) (a : Fin 64) (f : Acc → Acc) : (d.onAcc p a f).tb = d.tb := rfl
theorem Dev.tb_enforce (d : Dev) (lo hi : Nat) : (d.enforce lo hi).tb = d.tb := rfl
theorem Dev.tb_enforce0 (d : Dev) (lo hi : Nat) : (d.enforce0 lo hi).tb = d.tb := rfl
theorem Dev.tb_nextFree (d : Dev) : d.nextFree.tb = d.tb := rfl
theorem Dev.tb_latch (d : Dev) (k : Master) (a : Nat) (v : Word) : (d.latch k a v).tb = d.tb := rfl
theorem Dev.tb_putFab (d : Dev) (k : Master) (v : Word) : (d.putFab k v).tb = d.tb := rfl
theorem Dev.tb_with_reports (d : Dev) (x : List Report) : ({ d with reports := x } : Dev).tb = d.tb := rfl
theorem Dev.tb_with_seqAt (d : Dev) (x : Option Nat) : ({ d with seqAt := x } : Dev).tb = d.tb := rfl
theorem Dev.tb_with_busDue (d : Dev) (x : List GroupIx) : ({ d with busDue := x } : Dev).tb = d.tb := rfl
theorem Dev.tb_with_glDue (d : Dev) (x : List MotorIx) : ({ d with glDue := x } : Dev).tb = d.tb := rfl
theorem Dev.tb_with_ticks (d : Dev) (x : Nat) : ({ d with ticks := x } : Dev).tb = d.tb := rfl
theorem Dev.tb_with_emptied (d : Dev) (x : Option (Nat × Bool)) : ({ d with emptied := x } : Dev).tb = d.tb := rfl
theorem Dev.tb_with_dist (d : Dev) (x : Dist) : ({ d with dist := x } : Dev).tb = d.tb := rfl
theorem Dev.tb_with_tickAt (d : Dev) (x : Nat) : ({ d with tickAt := x } : Dev).tb = d.tb := rfl
theorem Dev.tb_with_recq (d : Dev) (x : List Rec) : ({ d with recq := x } : Dev).tb = d.tb := rfl
theorem Dev.tb_with_mem (d : Dev) (x : MemPort) : ({ d with mem := x } : Dev).tb = d.tb := rfl
theorem Dev.tb_with_thermAt (d : Dev) (x : Nat) : ({ d with thermAt := x } : Dev).tb = d.tb := rfl
theorem Dev.tb_with_power (d : Dev) (x : Power) : ({ d with power := x } : Dev).tb = d.tb := rfl
theorem Dev.tb_with_devLog (d : Dev) (x : DevLog) : ({ d with devLog := x } : Dev).tb = d.tb := rfl
theorem Dev.tb_with_store (d : Dev) (x : Store) : ({ d with store := x } : Dev).tb = d.tb := rfl
theorem Dev.tb_with_loader (d : Dev) (x : Loader) : ({ d with loader := x } : Dev).tb = d.tb := rfl
theorem Dev.tb_with_mirror (d : Dev) (x : MirrorSt) : ({ d with mirror := x } : Dev).tb = d.tb := rfl
theorem Dev.tb_with_bist (d : Dev) (x : Bist) : ({ d with bist := x } : Dev).tb = d.tb := rfl

theorem Dev.tb_motCause (d : Dev) (m : MotorIx) (bit : Nat) : (d.motCause m bit).tb = d.tb := by
  unfold Dev.motCause
  try dsimp only
  repeat' (first
    | with_reducible rfl
    | (intro x; rfl)
    | split
    | with_reducible refine (Dev.tb_cause _ _ _ _).trans ?_)

theorem Dev.tb_syncBsuv (d : Dev) (m : MotorIx) : (d.syncBsuv m).tb = d.tb :=
  Dev.tb_drives (Dev.drives_syncBsuv d m)

theorem Dev.tb_turnOn (d : Dev) (b : BridgeIx) : (d.turnOn b).tb = d.tb :=
  Dev.tb_drives (Dev.drives_turnOn d b)

theorem Dev.tb_turnOff (d : Dev) (b : BridgeIx) : (d.turnOff b).tb = d.tb :=
  Dev.tb_drives (Dev.drives_turnOff d b)

theorem Dev.tb_command (d : Dev) (b : BridgeIx) (en pulse : Bool) : (d.command b en pulse).tb = d.tb :=
  Dev.tb_drives (Dev.drives_command d b en pulse)

theorem Dev.tb_driveLeg (d : Dev) (m : MotorIx) (ph : Fin 3) : (d.driveLeg m ph).tb = d.tb :=
  Dev.tb_drives (Dev.drives_driveLeg d m ph)

theorem Dev.tb_syncComp (d : Dev) (m : MotorIx) : (d.syncComp m).tb = d.tb :=
  Dev.tb_drives (Dev.drives_syncComp d m)

theorem Dev.tb_drive (d : Dev) (m : MotorIx) : (d.drive m).tb = d.tb :=
  Dev.tb_drives (Dev.drives_drive d m)

theorem Dev.tb_driveGroup (d : Dev) (g : GroupIx) : (d.driveGroup g).tb = d.tb :=
  Dev.tb_drives (Dev.drives_driveGroup d g)

theorem Dev.tb_showFrame (d : Dev) (m : MotorIx) : (d.showFrame m).tb = d.tb := by
  unfold Dev.showFrame
  try dsimp only
  repeat' (first
    | with_reducible rfl
    | (intro x; rfl)
    | split
    | with_reducible refine (Dev.tb_put _ _ _).trans ?_)

theorem Dev.tb_showChange (d : Dev) (m : MotorIx) : (d.showChange m).tb = d.tb := by
  unfold Dev.showChange
  try dsimp only
  repeat' (first
    | with_reducible rfl
    | (intro x; rfl)
    | split
    | with_reducible refine (Dev.tb_put _ _ _).trans ?_
    | with_reducible refine (Dev.tb_putF _ _ _ _ _).trans ?_)

theorem Dev.tb_clearInts (d : Dev) (m : MotorIx) (st : MState) : (d.clearInts m st).tb = d.tb := by
  unfold Dev.clearInts
  try dsimp only
  repeat' (first
    | with_reducible rfl
    | (intro x; rfl)
    | split
    | with_reducible refine (Dev.tb_put _ _ _).trans ?_
    | with_reducible refine (Dev.tb_put32 _ _ _).trans ?_
    | with_reducible refine (Dev.tb_onMot _ _ _).trans ?_)

theorem Dev.tb_enter (d : Dev) (m : MotorIx) (st : MState) : (d.enter m st).tb = d.tb := by
  unfold Dev.enter
  try dsimp only
  repeat' (first
    | with_reducible rfl
    | (intro x; rfl)
    | split
    | with_reducible refine (Dev.tb_onMot _ _ _).trans ?_
    | with_reducible refine (Dev.tb_drive _ _).trans ?_
    | with_reducible refine (Dev.tb_showChange _ _).trans ?_
    | with_reducible refine (Dev.tb_clearInts _ _ _).trans ?_)

theorem Dev.tb_toIdle (d : Dev) (m : MotorIx) : (d.toIdle m).tb = d.tb := by
  unfold Dev.toIdle
  try dsimp only
  repeat' (first
    | with_reducible rfl
    | (intro x; rfl)
    | split
    | with_reducible refine (Dev.tb_enter _ _ _).trans ?_)

theorem Dev.tb_enterFault (d : Dev) (m : MotorIx) (act : FaultAct) : (d.enterFault m act).tb = d.tb := by
  unfold Dev.enterFault
  try dsimp only
  repeat' (first
    | with_reducible rfl
    | (intro x; rfl)
    | split
    | with_reducible refine (Dev.tb_onMot _ _ _).trans ?_
    | with_reducible refine (Dev.tb_drive _ _).trans ?_
    | with_reducible refine (Dev.tb_showChange _ _).trans ?_
    | with_reducible refine (Dev.tb_clearInts _ _ _).trans ?_)

theorem Dev.tb_policy (d : Dev) (m : MotorIx) (bit code : Nat) : (d.policy m bit code).tb = d.tb := by
  unfold Dev.policy
  try dsimp only
  repeat' (first
    | with_reducible rfl
    | (intro x; rfl)
    | split
    | with_reducible refine (Dev.tb_orW _ _ _).trans ?_
    | with_reducible refine (Dev.tb_onMot _ _ _).trans ?_
    | with_reducible refine (Dev.tb_drive _ _).trans ?_
    | with_reducible refine (Dev.tb_enterFault _ _ _).trans ?_)

theorem Dev.tb_force (d : Dev) (m : MotorIx) (ph : Fin 3) : (d.force m ph).tb = d.tb := by
  unfold Dev.force
  try dsimp only
  repeat' (first
    | with_reducible rfl
    | (intro x; rfl)
    | split
    | with_reducible refine (Dev.tb_onMot _ _ _).trans ?_
    | with_reducible refine (Dev.tb_drive _ _).trans ?_)

theorem Dev.tb_arrive (d : Dev) (r : Report) : (d.arrive r).tb = d.tb := by
  unfold Dev.arrive
  try dsimp only
  repeat' (first
    | with_reducible rfl
    | (intro x; rfl)
    | split
    | with_reducible refine (Dev.tb_cause _ _ _ _).trans ?_
    | with_reducible refine (Dev.tb_motCause _ _ _).trans ?_
    | with_reducible refine (Dev.tb_policy _ _ _ _).trans ?_
    | with_reducible refine (Dev.tb_force _ _ _).trans ?_)

theorem Dev.tb_levelReports (d : Dev) (m : MotorIx) : (d.levelReports m).tb = d.tb := by
  unfold Dev.levelReports
  try dsimp only
  repeat' (first
    | with_reducible rfl
    | (intro x; rfl)
    | split
    | with_reducible refine (Dev.tb_cause _ _ _ _).trans ?_
    | with_reducible refine (Dev.tb_each _ _ (fun d x => ?_) _).trans ?_
    | with_reducible refine (Dev.tb_when _ _ _ (fun d => ?_)).trans ?_
    | with_reducible refine (Dev.tb_arrive _ _).trans ?_)

theorem Dev.tb_holdSector (d : Dev) (m : MotorIx) (s : Nat) : (d.holdSector m s).tb = d.tb := by
  unfold Dev.holdSector
  try dsimp only
  repeat' (first
    | with_reducible rfl
    | (intro x; rfl)
    | split
    | with_reducible refine (Dev.tb_onMot _ _ _).trans ?_)

theorem Dev.tb_toAlign1 (d : Dev) (m : MotorIx) : (d.toAlign1 m).tb = d.tb := by
  unfold Dev.toAlign1
  try dsimp only
  repeat' (first
    | with_reducible rfl
    | (intro x; rfl)
    | split
    | with_reducible refine (Dev.tb_onMot _ _ _).trans ?_
    | with_reducible refine (Dev.tb_enter _ _ _).trans ?_
    | with_reducible refine (Dev.tb_holdSector _ _ _).trans ?_)

theorem Dev.tb_toCatch (d : Dev) (m : MotorIx) : (d.toCatch m).tb = d.tb := by
  unfold Dev.toCatch
  try dsimp only
  repeat' (first
    | with_reducible rfl
    | (intro x; rfl)
    | split
    | with_reducible refine (Dev.tb_onMot _ _ _).trans ?_
    | with_reducible refine (Dev.tb_enter _ _ _).trans ?_)

theorem Dev.tb_startMotor (d : Dev) (m : MotorIx) : (d.startMotor m).tb = d.tb := by
  unfold Dev.startMotor
  try dsimp only
  repeat' (first
    | with_reducible rfl
    | (intro x; rfl)
    | split
    | with_reducible refine (Dev.tb_onMot _ _ _).trans ?_
    | with_reducible refine (Dev.tb_enter _ _ _).trans ?_
    | with_reducible refine (Dev.tb_toAlign1 _ _).trans ?_
    | with_reducible refine (Dev.tb_toCatch _ _).trans ?_)

theorem Dev.tb_toBrake (d : Dev) (m : MotorIx) : (d.toBrake m).tb = d.tb := by
  unfold Dev.toBrake
  try dsimp only
  repeat' (first
    | with_reducible rfl
    | (intro x; rfl)
    | split
    | with_reducible refine (Dev.tb_onMot _ _ _).trans ?_
    | with_reducible refine (Dev.tb_enter _ _ _).trans ?_)

theorem Dev.tb_searchStart (d : Dev) (m : MotorIx) : (d.searchStart m).tb = d.tb := by
  unfold Dev.searchStart
  try dsimp only
  repeat' (first
    | with_reducible rfl
    | (intro x; rfl)
    | split
    | with_reducible refine (Dev.tb_putF _ _ _ _ _).trans ?_
    | with_reducible refine (Dev.tb_putB _ _ _ _).trans ?_
    | with_reducible refine (Dev.tb_onMot _ _ _).trans ?_)

theorem Dev.tb_snapshot (d : Dev) (g : GroupIx) : (d.snapshot g).tb = d.tb := by
  unfold Dev.snapshot
  try dsimp only
  repeat' (first
    | with_reducible rfl
    | (intro x; rfl)
    | split
    | with_reducible refine (Dev.tb_put _ _ _).trans ?_
    | with_reducible refine (Dev.tb_each _ _ (fun d x => ?_) _).trans ?_)

theorem Dev.tb_enforceGrants (d : Dev) (g : GroupIx) (b : Books) : (d.enforceGrants g b).tb = d.tb := by
  unfold Dev.enforceGrants
  try dsimp only
  repeat' (first
    | with_reducible rfl
    | (intro x; rfl)
    | split
    | with_reducible refine (Dev.tb_put _ _ _).trans ?_
    | with_reducible refine (Dev.tb_onMot _ _ _).trans ?_
    | with_reducible refine (Dev.tb_onGrp _ _ _ ?_).trans ?_
    | with_reducible refine (Dev.tb_each _ _ (fun d x => ?_) _).trans ?_)

theorem Dev.tb_zeroGrants (d : Dev) (g : GroupIx) : (d.zeroGrants g).tb = d.tb := by
  unfold Dev.zeroGrants
  try dsimp only
  repeat' (first
    | with_reducible rfl
    | (intro x; rfl)
    | split
    | with_reducible refine (Dev.tb_onGrp _ _ _ ?_).trans ?_
    | with_reducible refine (Dev.tb_enforceGrants _ _ _).trans ?_)

theorem Dev.tb_setBrk (d : Dev) (g : GroupIx) : (d.setBrk g).tb = d.tb := by
  unfold Dev.setBrk
  try dsimp only
  repeat' (first
    | with_reducible rfl
    | (intro x; rfl)
    | split
    | with_reducible refine (Dev.tb_putB _ _ _ _).trans ?_
    | with_reducible refine (Dev.tb_onGrp _ _ _ ?_).trans ?_)

theorem Dev.tb_chopFault (d : Dev) (g : GroupIx) (bit : Nat) : (d.chopFault g bit).tb = d.tb := by
  unfold Dev.chopFault
  try dsimp only
  repeat' (first
    | with_reducible rfl
    | (intro x; rfl)
    | split
    | with_reducible refine (Dev.tb_inc _ _).trans ?_
    | with_reducible refine (Dev.tb_cause _ _ _ _).trans ?_)

theorem Dev.tb_setLevel (d : Dev) (g : GroupIx) (new : Nat) : (d.setLevel g new).tb = d.tb := by
  unfold Dev.setLevel
  try dsimp only
  repeat' (first
    | with_reducible rfl
    | (intro x; rfl)
    | split
    | with_reducible refine (Dev.tb_putF _ _ _ _ _).trans ?_
    | with_reducible refine (Dev.tb_inc _ _).trans ?_
    | with_reducible refine (Dev.tb_cause _ _ _ _).trans ?_
    | with_reducible refine (Dev.tb_onGrp _ _ _ ?_).trans ?_
    | with_reducible refine (Dev.tb_driveGroup _ _).trans ?_
    | with_reducible refine (Dev.tb_setBrk _ _).trans ?_
    | with_reducible refine (Dev.tb_chopFault _ _ _).trans ?_)

theorem Dev.tb_supEvaluate (d : Dev) (g : GroupIx) (v : Nat) : (d.supEvaluate g v).tb = d.tb := by
  unfold Dev.supEvaluate
  try dsimp only
  repeat' (first
    | with_reducible rfl
    | (intro x; rfl)
    | split
    | with_reducible refine (Dev.tb_enforce _ _ _).trans ?_
    | with_reducible refine (Dev.tb_onGrp _ _ _ ?_).trans ?_
    | with_reducible refine (Dev.tb_putB _ _ _ _).trans ?_
    | with_reducible refine (Dev.tb_cause _ _ _ _).trans ?_
    | with_reducible refine (Dev.tb_setLevel _ _ _).trans ?_
    | with_reducible refine (Dev.tb_driveGroup _ _).trans ?_)

theorem Dev.tb_supFrame (d : Dev) (g : GroupIx) (whole : Bool) : (d.supFrame g whole).tb = d.tb := by
  unfold Dev.supFrame
  try dsimp only
  repeat' (first
    | with_reducible rfl
    | (intro x; rfl)
    | split
    | with_reducible refine (Dev.tb_put _ _ _).trans ?_
    | with_reducible refine (Dev.tb_putB _ _ _ _).trans ?_
    | with_reducible refine (Dev.tb_cause _ _ _ _).trans ?_
    | with_reducible refine (Dev.tb_onGrp _ _ _ ?_).trans ?_)

theorem Dev.tb_endCheck (d : Dev) (m : MotorIx) : (d.endCheck m).tb = d.tb := by
  unfold Dev.endCheck
  try dsimp only
  repeat' (first
    | with_reducible rfl
    | (intro x; rfl)
    | split
    | with_reducible refine (Dev.tb_putF _ _ _ _ _).trans ?_)

theorem Dev.tb_restartSeq (d : Dev) (p : GroupIx) : (d.restartSeq p).tb = d.tb := rfl


theorem Dev.tb_newCount (d : Dev) (p : GroupIx) (a : Fin 64) : (d.newCount p a).tb = d.tb := by
  unfold Dev.newCount
  try dsimp only
  repeat' (first
    | with_reducible rfl
    | (intro x; rfl)
    | split
    | with_reducible refine (Dev.tb_onPrm _ _ _).trans ?_
    | with_reducible refine (Dev.tb_onAcc _ _ _ _).trans ?_
    | with_reducible refine (Dev.tb_each _ _ (fun d x => ?_) _).trans ?_)

theorem Dev.tb_showTrk (d : Dev) (p : GroupIx) (t : Fin 32) : (d.showTrk p t).tb = d.tb := by
  unfold Dev.showTrk
  try dsimp only
  repeat' (first
    | with_reducible rfl
    | (intro x; rfl)
    | split
    | with_reducible refine (Dev.tb_put _ _ _).trans ?_)

theorem Dev.tb_closeCount (d : Dev) (p : GroupIx) (a : Fin 64) (late : Bool) : (d.closeCount p a late).tb = d.tb := by
  unfold Dev.closeCount
  try dsimp only
  repeat' (first
    | with_reducible rfl
    | (intro x; rfl)
    | split
    | with_reducible refine (Dev.tb_put _ _ _).trans ?_
    | with_reducible refine (Dev.tb_setB _ _ _).trans ?_
    | with_reducible refine (Dev.tb_cause _ _ _ _).trans ?_
    | with_reducible refine (Dev.tb_onPrm _ _ _).trans ?_
    | with_reducible refine (Dev.tb_onAcc _ _ _ _).trans ?_
    | with_reducible refine (Dev.tb_each _ _ (fun d x => ?_) _).trans ?_
    | with_reducible refine (Dev.tb_when _ _ _ (fun d => ?_)).trans ?_
    | with_reducible refine (Dev.tb_newCount _ _ _).trans ?_
    | with_reducible refine (Dev.tb_showTrk _ _ _).trans ?_)

theorem Dev.tb_judgeAcc (d : Dev) (p : GroupIx) (a : Fin 64) : (d.judgeAcc p a).tb = d.tb := by
  unfold Dev.judgeAcc
  try dsimp only
  repeat' (first
    | with_reducible rfl
    | (intro x; rfl)
    | split
    | with_reducible refine (Dev.tb_setB _ _ _).trans ?_
    | with_reducible refine (Dev.tb_inc _ _).trans ?_
    | with_reducible refine (Dev.tb_cause _ _ _ _).trans ?_
    | with_reducible refine (Dev.tb_each _ _ (fun d x => ?_) _).trans ?_
    | with_reducible refine (Dev.tb_when _ _ _ (fun d => ?_)).trans ?_)

theorem Dev.tb_accFrame (d : Dev) (p : GroupIx) (ended : Bool) : (d.accFrame p ended).tb = d.tb := by
  unfold Dev.accFrame
  try dsimp only
  repeat' (first
    | with_reducible rfl
    | (intro x; rfl)
    | split
    | with_reducible refine (Dev.tb_onAcc _ _ _ _).trans ?_
    | with_reducible refine (Dev.tb_each _ _ (fun d x => ?_) _).trans ?_
    | with_reducible refine (Dev.tb_when _ _ _ (fun d => ?_)).trans ?_
    | with_reducible refine (Dev.tb_newCount _ _ _).trans ?_
    | with_reducible refine (Dev.tb_judgeAcc _ _ _).trans ?_)

theorem Dev.tb_seqFrame (d : Dev) (p : GroupIx) : (d.seqFrame p).tb = d.tb := by
  unfold Dev.seqFrame
  try dsimp only
  repeat' (first
    | with_reducible rfl
    | (intro x; rfl)
    | split
    | with_reducible refine (Dev.tb_inc _ _).trans ?_
    | with_reducible refine (Dev.tb_cause _ _ _ _).trans ?_
    | with_reducible refine (Dev.tb_restartSeq _ _).trans ?_)

theorem Dev.tb_fbCopy (d : Dev) (f : ChanIx) : (d.fbCopy f).tb = d.tb := by
  unfold Dev.fbCopy
  try dsimp only
  repeat' (first
    | with_reducible rfl
    | (intro x; rfl)
    | split
    | with_reducible refine (Dev.tb_put32 _ _ _).trans ?_
    | with_reducible refine (Dev.tb_onFb _ _ _).trans ?_)

theorem Dev.tb_absStart (d : Dev) (f : ChanIx) : (d.absStart f).tb = d.tb := by
  unfold Dev.absStart
  try dsimp only
  repeat' (first
    | with_reducible rfl
    | (intro x; rfl)
    | split
    | with_reducible refine (Dev.tb_putB _ _ _ _).trans ?_
    | with_reducible refine (Dev.tb_onFb _ _ _).trans ?_
    | with_reducible refine (Dev.tb_enforce _ _ _).trans ?_)

theorem Dev.tb_putCmdx (d : Dev) (m : MotorIx) (x : Nat) : (d.putCmdx m x).tb = d.tb := by
  unfold Dev.putCmdx
  try dsimp only
  repeat' (first
    | with_reducible rfl
    | (intro x; rfl)
    | split
    | with_reducible refine (Dev.tb_put _ _ _).trans ?_
    | with_reducible refine (Dev.tb_onMot _ _ _).trans ?_
    | with_reducible refine (Dev.tb_nextFree _).trans ?_)

theorem Dev.tb_judgeCmd (d : Dev) (m : MotorIx) (frame : Bool) : (d.judgeCmd m frame).tb = d.tb := by
  unfold Dev.judgeCmd
  try dsimp only
  repeat' (first
    | with_reducible rfl
    | (intro x; rfl)
    | split
    | with_reducible refine (Dev.tb_put _ _ _).trans ?_
    | with_reducible refine (Dev.tb_putCmdx _ _ _).trans ?_)

theorem Dev.tb_measureCmd (d : Dev) (m : MotorIx) (x : Nat) (frame : Bool) : (d.measureCmd m x frame).tb = d.tb := by
  unfold Dev.measureCmd
  try dsimp only
  repeat' (first
    | with_reducible rfl
    | (intro x; rfl)
    | split
    | with_reducible refine (Dev.tb_putCmdx _ _ _).trans ?_
    | with_reducible refine (Dev.tb_judgeCmd _ _ _).trans ?_)

theorem Dev.tb_cmdFrame (d : Dev) (m : MotorIx) : (d.cmdFrame m).tb = d.tb := by
  unfold Dev.cmdFrame
  try dsimp only
  repeat' (first
    | with_reducible rfl
    | (intro x; rfl)
    | split
    | with_reducible refine (Dev.tb_onMot _ _ _).trans ?_
    | with_reducible refine (Dev.tb_putCmdx _ _ _).trans ?_
    | with_reducible refine (Dev.tb_judgeCmd _ _ _).trans ?_
    | with_reducible refine (Dev.tb_measureCmd _ _ _ _).trans ?_)

theorem Dev.tb_sense (d : Dev) (m : MotorIx) : (d.sense m).tb = d.tb := by
  unfold Dev.sense
  try dsimp only
  repeat' (first
    | with_reducible rfl
    | (intro x; rfl)
    | split
    | with_reducible refine (Dev.tb_onMot _ _ _).trans ?_
    | with_reducible refine (Dev.tb_nextFree _).trans ?_)

theorem Dev.tb_putSpeed (d : Dev) (m : MotorIx) (v : Int) : (d.putSpeed m v).tb = d.tb := by
  unfold Dev.putSpeed
  try dsimp only
  repeat' (first
    | with_reducible rfl
    | (intro x; rfl)
    | split
    | with_reducible refine (Dev.tb_put _ _ _).trans ?_
    | with_reducible refine (Dev.tb_nextFree _).trans ?_)

theorem Dev.tb_rampHold (d : Dev) (m : MotorIx) : (d.rampHold m).tb = d.tb := by
  unfold Dev.rampHold
  try dsimp only
  repeat' (first
    | with_reducible rfl
    | (intro x; rfl)
    | split
    | with_reducible refine (Dev.tb_onMot _ _ _).trans ?_)

theorem Dev.tb_rampStep (d : Dev) (m : MotorIx) : (d.rampStep m).tb = d.tb := by
  unfold Dev.rampStep
  try dsimp only
  repeat' (first
    | with_reducible rfl
    | (intro x; rfl)
    | split
    | with_reducible refine (Dev.tb_inc _ _).trans ?_
    | with_reducible refine (Dev.tb_onMot _ _ _).trans ?_
    | with_reducible refine (Dev.tb_rampHold _ _).trans ?_)

theorem Dev.tb_senseLess (d : Dev) (m : MotorIx) : (d.senseLess m).tb = d.tb := by
  unfold Dev.senseLess
  try dsimp only
  repeat' (first
    | with_reducible rfl
    | (intro x; rfl)
    | split
    | with_reducible refine (Dev.tb_onMot _ _ _).trans ?_
    | with_reducible refine (Dev.tb_rampStep _ _).trans ?_)

theorem Dev.tb_angles (d : Dev) (m : MotorIx) : (d.angles m).tb = d.tb := by
  unfold Dev.angles
  try dsimp only
  repeat' (first
    | with_reducible rfl
    | (intro x; rfl)
    | split
    | with_reducible refine (Dev.tb_put _ _ _).trans ?_
    | with_reducible refine (Dev.tb_onMot _ _ _).trans ?_
    | with_reducible refine (Dev.tb_sense _ _).trans ?_
    | with_reducible refine (Dev.tb_putSpeed _ _ _).trans ?_
    | with_reducible refine (Dev.tb_senseLess _ _).trans ?_)

theorem Dev.tb_applyDuty (d : Dev) (m : MotorIx) (deadline : Bool) : (d.applyDuty m deadline).tb = d.tb := by
  unfold Dev.applyDuty
  try dsimp only
  repeat' (first
    | with_reducible rfl
    | (intro x; rfl)
    | split
    | with_reducible refine (Dev.tb_onMot _ _ _).trans ?_)

theorem Dev.tb_hostFrame (d : Dev) (m : MotorIx) : (d.hostFrame m).tb = d.tb := by
  unfold Dev.hostFrame
  try dsimp only
  repeat' (first
    | with_reducible rfl
    | (intro x; rfl)
    | split
    | with_reducible refine (Dev.tb_onMot _ _ _).trans ?_)

theorem Dev.tb_overspeed (d : Dev) (m : MotorIx) : (d.overspeed m).tb = d.tb := by
  unfold Dev.overspeed
  try dsimp only
  repeat' (first
    | with_reducible rfl
    | (intro x; rfl)
    | split
    | with_reducible refine (Dev.tb_motCause _ _ _).trans ?_
    | with_reducible refine (Dev.tb_policy _ _ _ _).trans ?_)

theorem Dev.tb_reversal (d : Dev) (m : MotorIx) : (d.reversal m).tb = d.tb := by
  unfold Dev.reversal
  try dsimp only
  repeat' (first
    | with_reducible rfl
    | (intro x; rfl)
    | split
    | with_reducible refine (Dev.tb_onMot _ _ _).trans ?_
    | with_reducible refine (Dev.tb_motCause _ _ _).trans ?_
    | with_reducible refine (Dev.tb_enter _ _ _).trans ?_
    | with_reducible refine (Dev.tb_toCatch _ _).trans ?_
    | with_reducible refine (Dev.tb_toBrake _ _).trans ?_)

theorem Dev.tb_faultFrame (d : Dev) (m : MotorIx) : (d.faultFrame m).tb = d.tb := by
  unfold Dev.faultFrame
  try dsimp only
  repeat' (first
    | with_reducible rfl
    | (intro x; rfl)
    | split
    | with_reducible refine (Dev.tb_onMot _ _ _).trans ?_)

theorem Dev.tb_idleFrame (d : Dev) (m : MotorIx) : (d.idleFrame m).tb = d.tb := by
  unfold Dev.idleFrame
  try dsimp only
  repeat' (first
    | with_reducible rfl
    | (intro x; rfl)
    | split
    | with_reducible refine (Dev.tb_levelReports _ _).trans ?_
    | with_reducible refine (Dev.tb_startMotor _ _).trans ?_
    | with_reducible refine (Dev.tb_endCheck _ _).trans ?_)

theorem Dev.tb_thrFrame (d : Dev) (m : MotorIx) : (d.thrFrame m).tb = d.tb := by
  unfold Dev.thrFrame
  try dsimp only
  repeat' (first
    | with_reducible rfl
    | (intro x; rfl)
    | split
    | with_reducible refine (Dev.tb_onMot _ _ _).trans ?_)

theorem Dev.tb_dutyFrame (d : Dev) (m : MotorIx) : (d.dutyFrame m).tb = d.tb := by
  unfold Dev.dutyFrame
  try dsimp only
  repeat' (first
    | with_reducible rfl
    | (intro x; rfl)
    | split
    | with_reducible refine (Dev.tb_put _ _ _).trans ?_)

theorem Dev.tb_motorFrame (d : Dev) (m : MotorIx) (deadline : Bool) : (d.motorFrame m deadline).tb = d.tb := by
  unfold Dev.motorFrame
  try dsimp only
  repeat' (first
    | with_reducible rfl
    | (intro x; rfl)
    | split
    | with_reducible refine (Dev.tb_putB _ _ _ _).trans ?_
    | with_reducible refine (Dev.tb_onMot _ _ _).trans ?_
    | with_reducible refine (Dev.tb_showFrame _ _).trans ?_
    | with_reducible refine (Dev.tb_searchStart _ _).trans ?_
    | with_reducible refine (Dev.tb_cmdFrame _ _).trans ?_
    | with_reducible refine (Dev.tb_angles _ _).trans ?_
    | with_reducible refine (Dev.tb_applyDuty _ _ _).trans ?_
    | with_reducible refine (Dev.tb_hostFrame _ _).trans ?_
    | with_reducible refine (Dev.tb_overspeed _ _).trans ?_
    | with_reducible refine (Dev.tb_reversal _ _).trans ?_
    | with_reducible refine (Dev.tb_faultFrame _ _).trans ?_
    | with_reducible refine (Dev.tb_idleFrame _ _).trans ?_
    | with_reducible refine (Dev.tb_thrFrame _ _).trans ?_
    | with_reducible refine (Dev.tb_dutyFrame _ _).trans ?_)

theorem Dev.tb_clearLoop (d : Dev) (m : MotorIx) : (d.clearLoop m).tb = d.tb := by
  unfold Dev.clearLoop
  try dsimp only
  repeat' (first
    | with_reducible rfl
    | (intro x; rfl)
    | split
    | with_reducible refine (Dev.tb_put _ _ _).trans ?_
    | with_reducible refine (Dev.tb_putB _ _ _ _).trans ?_
    | with_reducible refine (Dev.tb_put32 _ _ _).trans ?_
    | with_reducible refine (Dev.tb_onMot _ _ _).trans ?_)

theorem Dev.tb_seqStopped (d : Dev) (p : GroupIx) : (d.seqStopped p).tb = d.tb := by
  unfold Dev.seqStopped
  try dsimp only
  repeat' (first
    | with_reducible rfl
    | (intro x; rfl)
    | split
    | with_reducible refine (Dev.tb_onPrm _ _ _).trans ?_
    | with_reducible refine (Dev.tb_restartSeq _ _).trans ?_)

theorem Dev.tb_startCarriers (d : Dev) (g : GroupIx) (per : Nat) : (d.startCarriers g per).tb = d.tb := by
  unfold Dev.startCarriers
  try dsimp only
  repeat' (first
    | with_reducible rfl
    | (intro x; rfl)
    | split
    | with_reducible refine (Dev.tb_onMot _ _ _).trans ?_
    | with_reducible refine (Dev.tb_each _ _ (fun d x => ?_) _).trans ?_)

theorem Dev.tb_thermFeed (d : Dev) (p : GroupIx) : (d.thermFeed p).tb = d.tb := by
  unfold Dev.thermFeed
  try dsimp only
  repeat' (first
    | with_reducible rfl
    | (intro x; rfl)
    | split
    | with_reducible refine (Dev.tb_onPrm _ _ _).trans ?_
    | with_reducible refine (Dev.tb_onSen _ _ _).trans ?_)

theorem Dev.tb_thermOver (d : Dev) (q : GroupIx) (s : SensorIx) : (d.thermOver q s).tb = d.tb := by
  unfold Dev.thermOver
  dsimp only
  split
  · exact (Dev.tb_thermFeed _ _).trans (Dev.tb_onSen _ _ _)
  · exact Dev.tb_onSen _ _ _

theorem Dev.tb_thermJudge (d : Dev) (s : SensorIx) (bit cause src : Nat) (thr : Int) (first : Option Nat) :
    (d.thermJudge s bit cause src thr first).1.tb = d.tb := by
  unfold Dev.thermJudge
  dsimp only
  generalize (if d.bit 0x1001 (bit + s.1) = true then _ else _ : Bool) = met
  split
  · rfl
  · split
    · rfl
    · split
      · exact (Dev.tb_cause _ _ _ _).trans (Dev.tb_putB _ _ _ _)
      · exact (Dev.tb_cause _ _ _ _).trans (Dev.tb_putB _ _ _ _)

theorem Dev.tb_thermReading (d : Dev) (s : SensorIx) (v : Word) : (d.thermReading s v).tb = d.tb := by
  unfold Dev.thermReading
  dsimp only
  exact (Dev.tb_onSen _ _ _).trans ((Dev.tb_thermJudge _ _ _ _ _ _ _).trans ((Dev.tb_thermJudge _ _ _ _ _ _ _).trans
    ((Dev.tb_onSen _ _ _).trans ((Dev.tb_put _ _ _).trans ((Dev.tb_stampTime _ _).trans (Dev.tb_put _ _ _))))))


theorem Dev.tb_closeRead (d : Dev) (p : GroupIx) (a : Fin 64) : (d.closeRead p a).tb = d.tb := by
  unfold Dev.closeRead
  try dsimp only
  repeat' (first
    | with_reducible rfl
    | (intro x; rfl)
    | split
    | with_reducible refine (Dev.tb_supEvaluate _ _ _).trans ?_
    | with_reducible refine (Dev.tb_each _ _ (fun x y => ?_) _).trans ?_
    | with_reducible refine (Dev.tb_measureCmd _ _ _ _).trans ?_
    | with_reducible refine (Dev.tb_thermOver _ _ _).trans ?_
    | with_reducible refine (Dev.tb_thermReading _ _ _).trans ?_
    | with_reducible refine (Dev.tb_thermFeed _ _).trans ?_)

theorem Dev.tb_closed (d : Dev) (p : GroupIx) (a : Fin 64) (late : Bool) : (d.closed p a late).tb = d.tb := by
  unfold Dev.closed
  try dsimp only
  repeat' (first
    | with_reducible rfl
    | (intro x; rfl)
    | split
    | with_reducible refine (Dev.tb_closeCount _ _ _ _).trans ?_
    | with_reducible refine (Dev.tb_closeRead _ _ _).trans ?_
    | with_reducible refine (Dev.tb_with_closeLate _ _).trans ?_)

end Sys2Proof.Machine
end

