-- ==== Sys2Proof/Laws/Umbra.lean ====
section
/-! SUPPORT. What each operation of the metrology island keeps: one lemma for each, saying that it keeps the island well
formed and that it takes nothing back. -/

namespace Sys2Proof.Machine

set_option Elab.async false

open Sys2Proof

/-- An operation of the island is good: from a well-formed island it makes a well-formed one, and it takes nothing back. -/
def Umbra.Good (f : Umbra → Umbra) : Prop := ∀ u, u.Sound → (f u).Sound ∧ u.Keeps (f u)

theorem Umbra.Keeps.refl (u : Umbra) : u.Keeps u :=
  ⟨List.prefix_refl _, BitVec.le_refl _, Nat.le_refl _, Nat.le_refl _, rfl, fun _ => ⟨rfl, rfl⟩⟩

theorem Umbra.Keeps.trans {u v w : Umbra} (h : u.Keeps v) (k : v.Keeps w) : u.Keeps w := by
  obtain ⟨h1, h2, h3, h4, h5, h6⟩ := h
  obtain ⟨k1, k2, k3, k4, k5, k6⟩ := k
  refine ⟨h1.trans k1, BitVec.le_trans h2 k2, h3.trans k3, h4.trans k4, k5.trans h5, fun hs => ?_⟩
  have := h6 hs
  have hv : v.key.isSome = true := by rw [this.1]; exact hs
  exact ⟨(k6 hv).1.trans this.1, (k6 hv).2.trans this.2⟩

theorem Umbra.Good.comp {f g : Umbra → Umbra} (hf : Umbra.Good f) (hg : Umbra.Good g) : Umbra.Good (fun u => g (f u)) := by
  intro u hu
  obtain ⟨a, b⟩ := hf u hu
  obtain ⟨c, e⟩ := hg _ a
  exact ⟨c, b.trans e⟩

theorem Umbra.Good.id : Umbra.Good (fun u => u) := fun u h => ⟨h, Umbra.Keeps.refl u⟩

theorem Umbra.good_ite (b : Umbra → Bool) {f g : Umbra → Umbra} (hf : Umbra.Good f) (hg : Umbra.Good g) :
    Umbra.Good (fun u => if b u then f u else g u) := by
  intro u hu
  by_cases h : b u
  · simpa [h] using hf u hu
  · simpa [h] using hg u hu

/-- Pushing a copy is good. -/
theorem Umbra.good_push : Umbra.Good Umbra.push := by
  intro u h
  exact ⟨h, List.prefix_refl _, BitVec.le_refl _, Nat.le_refl _, Nat.le_refl _, rfl, fun _ => ⟨rfl, rfl⟩⟩

/-- A record of seven payload words has 16 words. -/
theorem Umbra.sign_length (u : Umbra) (k : BitVec 128) (ty : Nat) (p : List Word) (h : p.length = 7) :
    (u.sign k (u.recordBody ty p)).length = 16 := by
  simp [Umbra.sign, Umbra.recordBody, words64, h]

/-- A record written into the ring keeps slots and lengths. -/
theorem putRing_mem (l : List (Nat × List Word)) (s : Nat) (r : List Word) (e : Nat × List Word) (h : e ∈ putRing l s r) :
    e = (s, r) ∨ e ∈ l := by
  induction l with
  | nil => simpa [putRing] using h
  | cons a t ih =>
    obtain ⟨k, x⟩ := a
    unfold putRing at h
    split at h
    · simpa using h
    · split at h
      · rcases List.mem_cons.1 h with h | h
        · exact .inl h
        · exact .inr (List.mem_cons_of_mem _ h)
      · rcases List.mem_cons.1 h with h | h
        · exact .inr (h ▸ List.mem_cons_self)
        · rcases ih h with h | h
          · exact .inl h
          · exact .inr (List.mem_cons_of_mem _ h)

/-- A data record is good. -/
theorem Umbra.good_dataRec (ty : Nat) (p : List Word) (hp : p.length = 7) : Umbra.Good (fun u => u.dataRec ty p) := by
  intro u h
  obtain ⟨h1, h2, h3, h4, h5, h6, h7, h8, h9, h10⟩ := h
  cases hk : u.key with
  | none =>
    simp only [Umbra.dataRec, hk]
    exact ⟨⟨h1, h2, h3, h4, h5, h6, h7, h8, h9, h10⟩, Umbra.Keeps.refl u⟩
  | some k =>
    simp only [Umbra.dataRec, hk]
    refine ⟨⟨h1, h2, h3, h4, ?_, ?_, h7, h8, h9, ?_⟩, List.prefix_refl _, BitVec.le_refl _, Nat.le_refl _, Nat.le_refl _, rfl,
      fun _ => ⟨hk.symm, rfl⟩⟩
    · intro e he
      rcases putRing_mem _ _ _ e he with he | he
      · subst he; exact ⟨h6, Umbra.sign_length _ _ _ _ hp⟩
      · exact h5 e he
    · show (if u.datNext + 1 = 7424 then 0 else u.datNext + 1) < 7424
      split <;> omega
    · intro hn
      exact nomatch (show (some k : Option (BitVec 128)) = none from hn)

/-- An audit record is good. -/
theorem Umbra.good_auditRec (p : List Word) (hp : p.length = 7) : Umbra.Good (fun u => u.auditRec p) := by
  intro u h
  obtain ⟨h1, h2, h3, h4, h5, h6, h7, h8, h9, h10⟩ := h
  have same : u.Sound ∧ u.Keeps u := ⟨⟨h1, h2, h3, h4, h5, h6, h7, h8, h9, h10⟩, Umbra.Keeps.refl u⟩
  cases hk : u.key with
  | none => simpa only [Umbra.auditRec, hk] using same
  | some k =>
    cases ha : u.afull with
    | true => simpa only [Umbra.auditRec, hk, ha, if_true] using same
    | false =>
      simp only [Umbra.auditRec, hk, ha, Bool.false_eq_true, if_false]
      have hl : u.audit.length < 512 := by simpa [Umbra.afull] using ha
      refine ⟨⟨h1, h2, ?_, ?_, h5, h6, h7, h8, h9, ?_⟩, List.prefix_append _ _, BitVec.le_refl _, Nat.le_refl _,
        Nat.le_refl _, rfl, fun _ => ⟨hk.symm, rfl⟩⟩
      · show (u.audit ++ [_]).length ≤ 512
        simp; omega
      · intro r hr
        have hr : r ∈ u.audit ++ [_] := hr
        rcases List.mem_append.1 hr with hr | hr
        · exact h4 r hr
        · rw [List.mem_singleton.1 hr]; exact Umbra.sign_length _ _ _ _ hp
      · intro hn
        exact nomatch (show (some k : Option (BitVec 128)) = none from hn)

theorem Umbra.good_auditPdig (kind w11 : Nat) : Umbra.Good (fun u => u.auditPdig kind w11) := by
  intro u h
  exact Umbra.good_auditRec ([word kind, u.audcnt] ++ words64 u.pdig ++ [word w11]) (by simp [words64]) u h

theorem Umbra.good_powerRec (first lost : Bool) (alive : BitVec 32) : Umbra.Good (fun u => u.powerRec first lost alive) := by
  intro u h
  exact Umbra.good_dataRec 5 _ (by simp) u h

theorem Umbra.good_couplingRec (close : Bool) : Umbra.Good (fun u => u.couplingRec close) := by
  intro u h
  exact Umbra.good_dataRec 3 _ (by simp) u h

/-- A change that leaves alone everything the two conditions speak of is good. -/
theorem Umbra.good_of_frame (f : Umbra → Umbra)
    (hf : ∀ u, (f u).params = u.params ∧ (∀ sh ∈ (f u).sets, sh ∈ u.sets) ∧ (f u).audit = u.audit ∧
      (f u).data = u.data ∧ (f u).datNext = u.datNext ∧ (f u).key = u.key ∧ (f u).keyId = u.keyId ∧
      (f u).uid = u.uid ∧ u.audcnt ≤ (f u).audcnt)
    (hd : ∀ u, u.Sound → (f u).input < 4 ∧ u.dum0 ≤ (f u).dum0 ∧ (f u).dum0 < 2 ^ 64 ∧ u.dum1 ≤ (f u).dum1 ∧ (f u).dum1 < 2 ^ 64) :
    Umbra.Good f := by
  intro u h
  obtain ⟨i1, i2, i3, i4, i5⟩ := hd u h
  obtain ⟨h1, h2, h3, h4, h5, h6, h7, h8, h9, h10⟩ := h
  obtain ⟨p, s, a, dt, dn, k, kid, ui, ac⟩ := hf u
  refine ⟨⟨?_, ?_, ?_, ?_, ?_, ?_, i1, i3, i5, ?_⟩, ?_, ac, i2, i4, ui, fun _ => ⟨k, kid⟩⟩
  · rw [p]; exact h1
  · exact fun sh hs => h2 sh (s sh hs)
  · rw [a]; exact h3
  · rw [a]; exact h4
  · rw [dt]; exact h5
  · rw [dn]; exact h6
  · rw [k, a, dt]; exact h10
  · rw [a]

theorem Umbra.good_distanceRec : Umbra.Good Umbra.distanceRec := by
  intro u h
  have key : ∀ (b : Bool) (x y : Nat) (p : List Word), p.length = 7 →
      (({ u with discrep := b, distBase := x, distSecBase := y } : Umbra).dataRec 2 p).Sound ∧
        u.Keeps (({ u with discrep := b, distBase := x, distSecBase := y } : Umbra).dataRec 2 p) := by
    intro b x y p hp
    have step : Umbra.Good (fun v : Umbra => { v with discrep := b, distBase := x, distSecBase := y }) :=
      Umbra.good_of_frame _ (fun _ => ⟨rfl, fun _ x => x, rfl, rfl, rfl, rfl, rfl, rfl, BitVec.le_refl _⟩)
        (fun v hv => ⟨hv.2.2.2.2.2.2.1, Nat.le_refl _, hv.2.2.2.2.2.2.2.1, Nat.le_refl _, hv.2.2.2.2.2.2.2.2.1⟩)
    exact (step.comp (Umbra.good_dataRec 2 p hp)) u h
  unfold Umbra.distanceRec
  exact key _ _ _ _ rfl

/-- The parts of the island that the two conditions speak of. -/
theorem Umbra.good_small (f : Umbra → Umbra)
    (hf : ∀ u, (f u).params = u.params ∧ (∀ sh ∈ (f u).sets, sh ∈ u.sets) ∧ (f u).audit = u.audit ∧
      (f u).data = u.data ∧ (f u).datNext = u.datNext ∧ (f u).key = u.key ∧ (f u).keyId = u.keyId ∧
      (f u).uid = u.uid ∧ u.audcnt ≤ (f u).audcnt ∧ (f u).input = u.input ∧ (f u).dum0 = u.dum0 ∧ (f u).dum1 = u.dum1) :
    Umbra.Good f := by
  refine Umbra.good_of_frame f (fun u => ?_) (fun u hu => ?_)
  · obtain ⟨a, b, c, d, e, g, h, i, j, _⟩ := hf u
    exact ⟨a, b, c, d, e, g, h, i, j⟩
  · obtain ⟨_, _, _, _, _, _, _, _, _, k, l, m⟩ := hf u
    rw [k, l, m]
    exact ⟨hu.2.2.2.2.2.2.1, Nat.le_refl _, hu.2.2.2.2.2.2.2.1, Nat.le_refl _, hu.2.2.2.2.2.2.2.2.1⟩

theorem Umbra.good_answer (st : Byte) (data : List Byte) : Umbra.Good (fun u => u.answer st data) :=
  Umbra.good_small _ (fun _ => ⟨rfl, fun _ x => x, rfl, rfl, rfl, rfl, rfl, rfl, BitVec.le_refl _, rfl, rfl, rfl⟩)

theorem Umbra.good_putLoad (l : Fin 4) (v : Option Nat) : Umbra.Good (fun u => u.putLoad l v) := by
  refine Umbra.good_small _ (fun _ => ?_)
  unfold Umbra.putLoad
  cases v with
  | none => exact ⟨rfl, fun _ x => x, rfl, rfl, rfl, rfl, rfl, rfl, BitVec.le_refl _, rfl, rfl, rfl⟩
  | some n =>
    by_cases h : n < 65536 <;> simp [h, Umbra.sets]

theorem Umbra.good_fold {α : Type} (l : List α) (f : Umbra → α → Umbra) (h : ∀ a, Umbra.Good (fun u => f u a)) :
    Umbra.Good (fun u => l.foldl f u) := by
  induction l with
  | nil => exact Umbra.Good.id
  | cons a t ih => exact (h a).comp ih

theorem Umbra.good_weighed (w : Weigh) : Umbra.Good (fun u => u.weighed w) := by
  intro u h
  unfold Umbra.weighed
  obtain ⟨a, b⟩ := Umbra.good_fold (List.finRange 4)
    (fun (u' : Umbra) l => u'.putLoad l (if loadOn u.params l.1 && !w.unst u.params l && !w.range u.params u.nw l then
      some (loadOf u.params u.nw l.1 w.sum[l]) else none)) (fun l => Umbra.good_putLoad l _) u h
  have step : ∀ (t : BitVec 32) (fl : Word) (mb : Nat), Umbra.Good (fun v : Umbra =>
      { v with total := t, wflags := fl, weigh := none, moveBase := mb, cplSince := false }) := fun _ _ _ =>
    Umbra.good_small _ (fun _ => ⟨rfl, fun _ x => x, rfl, rfl, rfl, rfl, rfl, rfl, BitVec.le_refl _, rfl, rfl, rfl⟩)
  refine ⟨(Umbra.good_dataRec 1 _ ?_ _ (step _ _ _ _ a).1).1,
    b.trans ((step _ _ _ _ a).2.trans (Umbra.good_dataRec 1 _ ?_ _ (step _ _ _ _ a).1).2)⟩ <;> rfl

/-- What a loss of VUMB could still tear is no part of what the island keeps. -/
theorem Umbra.good_overSet (old u v : Umbra) (_ : u.Sound) (hv : v.Sound ∧ u.Keeps v) :
    (v.overSet old).Sound ∧ u.Keeps (v.overSet old) := hv

/-- A sealed change of the parameters: a canonical set becomes the committed one. -/
theorem Umbra.good_finishClose (sh : Store) (hsh : Store.wf (fun _ => 0) sh = true) :
    Umbra.Good (fun u => u.finishClose sh) := by
  intro u h
  show (u.finishClose sh).Sound ∧ u.Keeps (u.finishClose sh)
  unfold Umbra.finishClose
  split
  · exact ⟨h, Umbra.Keeps.refl u⟩
  · simp only
    split
    · exact Umbra.good_auditPdig 2 0 u h
    · split
      · rename_i ad _
        exact Umbra.good_auditPdig 4 ad u h
      · have put : ∀ (pm : Word) (pd : BitVec 64), ({ u with params := sh, parMark := pm, pdig := pd, perr := false } : Umbra).Sound ∧
            u.Keeps { u with params := sh, parMark := pm, pdig := pd, perr := false } := by
          intro pm pd
          obtain ⟨_, h2, h3, h4, h5, h6, h7, h8, h9, h10⟩ := h
          exact ⟨⟨hsh, h2, h3, h4, h5, h6, h7, h8, h9, h10⟩,
            List.prefix_refl _, BitVec.le_refl _, Nat.le_refl _, Nat.le_refl _, rfl, fun _ => ⟨rfl, rfl⟩⟩
        obtain ⟨p, q⟩ := put (commitWord (paramWords sh)) (match u.key with | some k => digest k sh | none => u.pdig)
        obtain ⟨c, e⟩ := Umbra.good_auditPdig 3 (wordsChanged sh u.params) _ p
        refine Umbra.good_overSet u u _ h ?_
        exact ⟨c, q.trans e⟩

/-- Closings of canonical sets, one after another. -/
theorem Umbra.good_closings (l : List Store) (hl : ∀ sh ∈ l, Store.wf (fun _ => 0) sh = true) :
    Umbra.Good (fun u => l.foldl Umbra.finishClose u) := by
  induction l with
  | nil => exact Umbra.Good.id
  | cons a t ih =>
    exact (Umbra.good_finishClose a (hl a List.mem_cons_self)).comp (ih fun sh h => hl sh (List.mem_cons_of_mem _ h))

theorem Umbra.good_closeWaiting : Umbra.Good Umbra.closeWaiting := by
  have drop : Umbra.Good (fun v : Umbra => { v with closing := [] }) :=
    Umbra.good_small _ (fun _ => ⟨rfl, fun _ x => List.mem_append_right _ (by simpa [Umbra.sets] using x), rfl, rfl, rfl, rfl, rfl,
      rfl, BitVec.le_refl _, rfl, rfl, rfl⟩)
  intro u h
  unfold Umbra.closeWaiting
  split
  · exact (drop.comp (Umbra.good_closings u.closing fun sh hs => h.2.1 sh (List.mem_append_left _ hs))) u h
  · exact ⟨h, Umbra.Keeps.refl u⟩

/-- The opening audit record is made and the shadow is taken. -/
theorem Umbra.good_open : Umbra.Good Umbra.open := by
  intro u h
  unfold Umbra.open
  split
  · have inc : Umbra.Good (fun v : Umbra => { v with
        sealOpen := true, audcnt := if v.audcnt = 0xFFFF then 0xFFFF else v.audcnt + 1 }) :=
      Umbra.good_small _ (fun v => by
        refine ⟨rfl, fun _ x => x, rfl, rfl, rfl, rfl, rfl, rfl, ?_, rfl, rfl, rfl⟩
        show v.audcnt ≤ if v.audcnt = 0xFFFF then 0xFFFF else v.audcnt + 1
        split
        · rename_i e; rw [e]; exact BitVec.le_refl _
        · rename_i e
          have hne : v.audcnt.toNat ≠ 65535 := fun k => e (BitVec.eq_of_toNat_eq k)
          have hlt := v.audcnt.isLt
          rw [BitVec.le_def, BitVec.toNat_add]
          show v.audcnt.toNat ≤ (v.audcnt.toNat + 1) % 65536
          omega)
    obtain ⟨c, e⟩ := inc _ h
    obtain ⟨p, q⟩ := Umbra.good_auditPdig 1 0 _ c
    have shad : ∀ (v : Umbra) (p : Store), v.Sound → Store.wf (fun _ => 0) p = true →
        ({ v with shadow := some p } : Umbra).Sound ∧ v.Keeps { v with shadow := some p } := by
      intro v p hv hp
      obtain ⟨h1, h2, h3, h4, h5, h6, h7, h8, h9, h10⟩ := hv
      refine ⟨⟨h1, ?_, h3, h4, h5, h6, h7, h8, h9, h10⟩, List.prefix_refl _, BitVec.le_refl _, Nat.le_refl _,
        Nat.le_refl _, rfl, fun _ => ⟨rfl, rfl⟩⟩
      intro sh hsh
      rcases List.mem_append.1 hsh with hsh | hsh
      · exact h2 sh (List.mem_append_left _ hsh)
      · rw [List.mem_singleton.1 hsh]; exact hp
    obtain ⟨x, y⟩ := shad _ _ p c.1
    exact ⟨x, e.trans (q.trans y)⟩
  · exact ⟨h, Umbra.Keeps.refl u⟩

theorem Umbra.good_close : Umbra.Good Umbra.close :=
  Umbra.good_ite (fun u => u.up && u.sealOpen)
    ((Umbra.good_small (fun u => { u with sealOpen := false, shadow := none, closing := u.closing ++ u.shadow.toList })
      (fun _ => ⟨rfl, fun _ x => by simpa [Umbra.sets] using x, rfl, rfl, rfl, rfl, rfl, rfl, BitVec.le_refl _, rfl, rfl,
        rfl⟩)).comp Umbra.good_closeWaiting) Umbra.Good.id

theorem Umbra.good_dum0 (n : Nat) : Umbra.Good (fun v => { v with dum0 := min 0xFFFFFFFFFFFFFFFF (v.dum0 + n) }) := by
  refine Umbra.good_of_frame _ (fun _ => ⟨rfl, fun _ x => x, rfl, rfl, rfl, rfl, rfl, rfl, BitVec.le_refl _⟩) (fun v hv => ?_)
  have i1 := hv.2.2.2.2.2.2.2.1
  refine ⟨hv.2.2.2.2.2.2.1, ?_, ?_, Nat.le_refl _, hv.2.2.2.2.2.2.2.2.1⟩
  · show v.dum0 ≤ min 0xFFFFFFFFFFFFFFFF (v.dum0 + n); omega
  · show min 0xFFFFFFFFFFFFFFFF (v.dum0 + n) < 2 ^ 64; omega

theorem Umbra.good_dum1 (n : Nat) : Umbra.Good (fun v => { v with dum1 := min 0xFFFFFFFFFFFFFFFF (v.dum1 + n) }) := by
  refine Umbra.good_of_frame _ (fun _ => ⟨rfl, fun _ x => x, rfl, rfl, rfl, rfl, rfl, rfl, BitVec.le_refl _⟩) (fun v hv => ?_)
  have i2 := hv.2.2.2.2.2.2.2.2.1
  refine ⟨hv.2.2.2.2.2.2.1, Nat.le_refl _, hv.2.2.2.2.2.2.2.1, ?_, ?_⟩
  · show v.dum1 ≤ min 0xFFFFFFFFFFFFFFFF (v.dum1 + n); omega
  · show min 0xFFFFFFFFFFFFFFFF (v.dum1 + n) < 2 ^ 64; omega

theorem Umbra.good_pulse (k : Fin 2) : Umbra.Good (fun u => u.pulse k) := by
  have stop : Umbra.Good (fun v : Umbra => { v with still := false, weigh := none }) :=
    Umbra.good_small _ (fun _ => ⟨rfl, fun _ x => x, rfl, rfl, rfl, rfl, rfl, rfl, BitVec.le_refl _, rfl, rfl, rfl⟩)
  intro u h
  by_cases hk : k = 0
  · have e : u.pulse k = if (u.up && inputOn u.params k.1 && u.runs) = true then
        ({ ({ u with dum0 := min 0xFFFFFFFFFFFFFFFF (u.dum0 + paramK u.params k.1) } : Umbra) with
          still := false, weigh := none } : Umbra).closeWaiting else u := by
      simp [Umbra.pulse, hk]
    show (u.pulse k).Sound ∧ u.Keeps (u.pulse k)
    rw [e]
    split
    · exact (((Umbra.good_dum0 _).comp stop).comp Umbra.good_closeWaiting) u h
    · exact ⟨h, Umbra.Keeps.refl u⟩
  · have e : u.pulse k = if (u.up && inputOn u.params k.1 && u.runs) = true then
        ({ ({ u with dum1 := min 0xFFFFFFFFFFFFFFFF (u.dum1 + paramK u.params k.1) } : Umbra) with
          still := false, weigh := none } : Umbra).closeWaiting else u := by
      simp [Umbra.pulse, hk]
    show (u.pulse k).Sound ∧ u.Keeps (u.pulse k)
    rw [e]
    split
    · exact (((Umbra.good_dum1 _).comp stop).comp Umbra.good_closeWaiting) u h
    · exact ⟨h, Umbra.Keeps.refl u⟩

theorem Umbra.good_weighTrig (w : Option Weigh) (t : Umbra → Option Nat) :
    Umbra.Good (fun v => { v with weigh := w, trig := t v }) :=
  Umbra.good_small _ (fun _ => ⟨rfl, fun _ x => x, rfl, rfl, rfl, rfl, rfl, rfl, BitVec.le_refl _, rfl, rfl, rfl⟩)

theorem Umbra.good_takeUp : Umbra.Good Umbra.takeUp := by
  intro u h
  unfold Umbra.takeUp
  cases u.trig with
  | none => exact ⟨h, Umbra.Keeps.refl u⟩
  | some t =>
    cases u.runs with
    | true => exact Umbra.good_weighTrig (some { trig := t }) (fun _ => none) u h
    | false => exact Umbra.good_weighTrig u.weigh (fun _ => none) u h

theorem Umbra.good_weighCode (l : Fin 4) (code : Nat) : Umbra.Good (fun u => u.weighCode l code) := by
  intro u h
  show (u.weighCode l code).Sound ∧ u.Keeps (u.weighCode l code)
  unfold Umbra.weighCode
  cases u.weigh with
  | none => exact ⟨h, Umbra.Keeps.refl u⟩
  | some w =>
    simp only
    by_cases hl : l.1 = lastChannel u.params
    · by_cases hn : u.nw ≤ w.n + 1
      · simp only [hl, hn, if_true]
        exact ((Umbra.good_weighed (w.take l code)).comp Umbra.good_closeWaiting) u h
      · simp only [hl, hn, if_true, if_false]
        exact Umbra.good_weighTrig _ Umbra.trig u h
    · simp only [hl, if_false]
      exact Umbra.good_weighTrig _ Umbra.trig u h

theorem Umbra.good_convert (code : Nat) : Umbra.Good (fun u => u.convert code) := by
  intro u h
  show (u.convert code).Sound ∧ u.Keeps (u.convert code)
  have next : Umbra.Good (fun v : Umbra => { v with input := (u.input % 4 + 1) % 4 }) :=
    Umbra.good_of_frame _ (fun _ => ⟨rfl, fun _ x => x, rfl, rfl, rfl, rfl, rfl, rfl, BitVec.le_refl _⟩)
      (fun v hv => ⟨Nat.mod_lt _ (by decide), Nat.le_refl _, hv.2.2.2.2.2.2.2.1, Nat.le_refl _, hv.2.2.2.2.2.2.2.2.1⟩)
  cases hu : u.up with
  | false =>
    have e : u.convert code = u := by simp [Umbra.convert, hu]
    rw [e]; exact ⟨h, Umbra.Keeps.refl u⟩
  | true =>
    have e : u.convert code = (fun v : Umbra => if (decide ((⟨u.input % 4, Nat.mod_lt _ (by decide)⟩ : Fin 4) = 3) &&
        v.weigh.isNone) = true then v.takeUp else v)
        (({ u with input := (u.input % 4 + 1) % 4 } : Umbra).weighCode ⟨u.input % 4, Nat.mod_lt _ (by decide)⟩ code) := by
      simp [Umbra.convert, hu]
    rw [e]
    exact ((next.comp (Umbra.good_weighCode ⟨u.input % 4, Nat.mod_lt _ (by decide)⟩ code)).comp
      (Umbra.good_ite (fun v => decide ((⟨u.input % 4, Nat.mod_lt _ (by decide)⟩ : Fin 4) = 3) && v.weigh.isNone)
        Umbra.good_takeUp Umbra.Good.id)) u h

theorem Umbra.good_trigger (t : Nat) : Umbra.Good (fun u => u.trigger t) :=
  Umbra.good_ite (fun u => u.runs && u.weigh.isNone && u.trig.isNone) (f := fun u => { u with trig := some t })
    (Umbra.good_small _ (fun _ => ⟨rfl, fun _ x => x, rfl, rfl, rfl, rfl, rfl, rfl, BitVec.le_refl _, rfl, rfl, rfl⟩)) Umbra.Good.id

theorem Umbra.good_becomeStill : Umbra.Good Umbra.becomeStill := by
  refine Umbra.good_ite (fun u => u.up && !u.still) (f := fun u =>
    let u := { u with still := true }
    if paramN u.params 4 ≤ u.moved then u.trigger 0 else if u.cplSince then u.trigger 1 else u) ?_ Umbra.Good.id
  refine Umbra.Good.comp (f := fun u => { u with still := true })
    (g := fun u => if paramN u.params 4 ≤ u.moved then u.trigger 0 else if u.cplSince then u.trigger 1 else u) ?_ ?_
  · exact Umbra.good_small _ (fun _ => ⟨rfl, fun _ x => x, rfl, rfl, rfl, rfl, rfl, rfl, BitVec.le_refl _, rfl, rfl, rfl⟩)
  · intro u h
    show (if _ then _ else _ : Umbra).Sound ∧ u.Keeps (if _ then _ else _)
    split
    · exact Umbra.good_trigger 0 u h
    · split
      · exact Umbra.good_trigger 1 u h
      · exact ⟨h, Umbra.Keeps.refl u⟩

theorem Umbra.good_coupled (level : Bool) : Umbra.Good (fun u => u.coupled level) := by
  have up : Umbra.Good (fun v : Umbra => { v with cpl := true, cplcnt := v.cplcnt + 1, cplSince := true }) :=
    Umbra.good_small _ (fun _ => ⟨rfl, fun _ x => x, rfl, rfl, rfl, rfl, rfl, rfl, BitVec.le_refl _, rfl, rfl, rfl⟩)
  have down : Umbra.Good (fun v : Umbra => { v with cpl := false }) :=
    Umbra.good_small _ (fun _ => ⟨rfl, fun _ x => x, rfl, rfl, rfl, rfl, rfl, rfl, BitVec.le_refl _, rfl, rfl, rfl⟩)
  cases level with
  | true => exact up.comp (Umbra.good_couplingRec false)
  | false => exact down.comp (Umbra.good_couplingRec true)

theorem Umbra.good_coupling (level : Bool) : Umbra.Good (fun u => u.coupling level) :=
  Umbra.good_ite (fun u => u.up && level != u.cpl)
    (f := fun u => if (level && u.still) = true then (u.coupled level).trigger 1 else u.coupled level)
    (Umbra.good_ite (fun u => level && u.still) ((Umbra.good_coupled level).comp (Umbra.good_trigger 1))
      (Umbra.good_coupled level)) Umbra.Good.id

theorem Umbra.good_second : Umbra.Good Umbra.second := by
  have tick : Umbra.Good (fun v : Umbra => { v with utime := v.utime + 1 }) :=
    Umbra.good_small _ (fun _ => ⟨rfl, fun _ x => x, rfl, rfl, rfl, rfl, rfl, rfl, BitVec.le_refl _, rfl, rfl, rfl⟩)
  have live : Umbra.Good (fun v : Umbra => { v with alive := v.utime }) :=
    Umbra.good_small _ (fun _ => ⟨rfl, fun _ x => x, rfl, rfl, rfl, rfl, rfl, rfl, BitVec.le_refl _, rfl, rfl, rfl⟩)
  exact tick.comp (Umbra.good_ite (fun v => v.up) (live.comp Umbra.good_push) Umbra.Good.id)

theorem Umbra.good_hour : Umbra.Good Umbra.hour :=
  Umbra.good_ite (fun u => u.up && u.key.isSome && u.utime.toNat % 3600 = 0 && decide (u.distBase < u.dist.toNat))
    Umbra.good_distanceRec Umbra.Good.id

theorem Umbra.good_stopRtc : Umbra.Good Umbra.stopRtc :=
  Umbra.good_small _ (fun _ => ⟨rfl, fun _ x => x, rfl, rfl, rfl, rfl, rfl, rfl, BitVec.le_refl _, rfl, rfl, rfl⟩)

/-- Without its last audit record, and without some of its data records, the island is well formed. -/
theorem Umbra.sound_tearLast (u : Umbra) (h : u.Sound) : u.tearLast.Sound := by
  obtain ⟨h1, h2, h3, h4, h5, h6, h7, h8, h9, h10⟩ := h
  unfold Umbra.tearLast
  split
  · exact ⟨h1, h2, h3, h4, h5, h6, h7, h8, h9, h10⟩
  · split
    · refine ⟨h1, h2, ?_, fun r hr => h4 r (List.dropLast_subset _ hr), h5, h6, h7, h8, h9, fun hn => ⟨?_, (h10 hn).2⟩⟩
      · exact Nat.le_trans (List.dropLast_prefix u.audit).length_le h3
      · show u.audit.dropLast = []
        simp [(h10 hn).1]
    · refine ⟨h1, h2, h3, h4, fun e he => h5 e (List.mem_filter.1 he).1, ?_, h7, h8, h9, fun hn => ⟨(h10 hn).1, ?_⟩⟩
      · show (if u.datNext = 0 then 7423 else u.datNext - 1) < 7424
        split <;> omega
      · show u.data.filter _ = []
        simp [(h10 hn).2]

/-- A torn write touches at most the last audit record. -/
theorem Umbra.keeps_tearLast (u : Umbra) : u.KeepsButLast u.tearLast := by
  unfold Umbra.tearLast
  split
  · exact ⟨List.dropLast_prefix _, List.prefix_refl _, rfl, rfl, rfl, rfl, rfl, rfl⟩
  · split
    · exact ⟨List.prefix_refl _, List.dropLast_prefix _, rfl, rfl, rfl, rfl, rfl, rfl⟩
    · exact ⟨List.dropLast_prefix _, List.prefix_refl _, rfl, rfl, rfl, rfl, rfl, rfl⟩

/-- A set of which only some words were written is canonical. -/
theorem mixSet_wf (new old : Store) (n : Nat) : Store.wf (fun _ => 0) (mixSet new old n) = true := by
  have go : ∀ (l : List Nat) (p : Store), Store.wf (fun _ => 0) p = true →
      Store.wf (fun _ => 0) (l.foldl (fun p a => p.set (fun _ => 0) a (param (if a < n then new else old) a)) p) = true := by
    intro l
    induction l with
    | nil => exact fun _ h => h
    | cons a t ih => exact fun p h => ih _ (Store.wf_set p a _ h)
  unfold mixSet
  exact go (List.range 0x180) [] (by decide)

/-- A torn parameter set leaves the island well formed and touches at most the last audit record. -/
theorem Umbra.tearSet_keeps (u : Umbra) (n : Nat) (h : u.Sound) : (u.tearSet n).Sound ∧ u.KeepsButLast (u.tearSet n) := by
  unfold Umbra.tearSet
  split
  · rename_i _ _ p pd pe _
    have hp := mixSet_wf u.params p n
    generalize mixSet u.params p n = q at hp ⊢
    obtain ⟨_, h2, h3, h4, h5, h6, h7, h8, h9, h10⟩ := Umbra.sound_tearLast u h
    exact ⟨⟨hp, h2, h3, h4, h5, h6, h7, h8, h9, h10⟩, Umbra.keeps_tearLast u⟩
  · exact ⟨h, List.dropLast_prefix _, List.prefix_refl _, rfl, rfl, rfl, rfl, rfl, rfl⟩

/-- A loss of VUMB that tears nothing is good. -/
theorem Umbra.good_loseSupply : Umbra.Good (fun u => u.loseSupply false) := by
  intro u h
  have e : u.loseSupply false = { u with
      up := false, bistFail := false, shadow := none, closing := [], sealOpen := false, weigh := none, trig := none
      still := false, cpl := false } := by
    cases hu : u.up <;> simp [Umbra.loseSupply, hu]
  show (u.loseSupply false).Sound ∧ u.Keeps (u.loseSupply false)
  rw [e]
  exact Umbra.good_small (fun u => { u with
      up := false, bistFail := false, shadow := none, closing := [], sealOpen := false, weigh := none, trig := none
      still := false, cpl := false })
    (fun _ => ⟨rfl, nofun, rfl, rfl, rfl, rfl, rfl, rfl, BitVec.le_refl _, rfl, rfl, rfl⟩) u h

/-- A loss of VUMB keeps the island well formed, and takes back at most the last record. -/
theorem Umbra.loseSupply_keeps (u : Umbra) (torn : Bool) (set : Option Nat) (h : u.Sound) :
    (u.loseSupply torn set).Sound ∧ u.KeepsButLast (u.loseSupply torn set) := by
  have off : ∀ v : Umbra, v.Sound ∧ u.KeepsButLast v → ({ v with
      up := false, bistFail := false, shadow := none, closing := [], sealOpen := false, weigh := none, trig := none
      still := false, cpl := false } : Umbra).Sound ∧ u.KeepsButLast { v with
      up := false, bistFail := false, shadow := none, closing := [], sealOpen := false, weigh := none, trig := none
      still := false, cpl := false } := fun v hv =>
    ⟨(Umbra.good_small (fun u => { u with
      up := false, bistFail := false, shadow := none, closing := [], sealOpen := false, weigh := none, trig := none
      still := false, cpl := false })
      (fun _ => ⟨rfl, nofun, rfl, rfl, rfl, rfl, rfl, rfl, BitVec.le_refl _, rfl, rfl, rfl⟩) v hv.1).1, hv.2⟩
  have same : u.Sound ∧ u.KeepsButLast u := ⟨h, List.dropLast_prefix _, List.prefix_refl _, rfl, rfl, rfl, rfl, rfl, rfl⟩
  unfold Umbra.loseSupply
  simp only
  apply off
  split
  · exact same
  · split
    · exact Umbra.tearSet_keeps u _ h
    · split
      · exact ⟨Umbra.sound_tearLast u h, Umbra.keeps_tearLast u⟩
      · exact same

theorem Umbra.good_start (bistOk : Bool) (errs : List (Nat × BitVec 28)) : Umbra.Good (fun u => u.start bistOk errs) := by
  intro u h
  unfold Umbra.start
  beta_reduce
  split
  · exact ⟨h, Umbra.Keeps.refl u⟩
  · split
    · exact Umbra.good_small (fun v => { v with bistFail := true })
        (fun _ => ⟨rfl, fun _ x => x, rfl, rfl, rfl, rfl, rfl, rfl, BitVec.le_refl _, rfl, rfl, rfl⟩) u h
    · have init : Umbra.Good (fun v : Umbra => { v with
          up := true, utime := if v.rtcLost then v.alive else v.utime, rtcLost := false, sealOpen := false, shadow := none
          closing := [], cpl := false, still := false, weigh := none, trig := none, input := 0, updcnt := 0 }) :=
        Umbra.good_of_frame _ (fun _ => ⟨rfl, nofun, rfl, rfl, rfl, rfl, rfl, rfl, BitVec.le_refl _⟩)
          (fun v hv => ⟨Nat.zero_lt_succ 3, Nat.le_refl _, hv.2.2.2.2.2.2.2.1, Nat.le_refl _, hv.2.2.2.2.2.2.2.2.1⟩)
      obtain ⟨a, b⟩ := init u h
      simp only
      split
      · exact ⟨a, b⟩
      · rename_i k _
        have pe : ∀ bad : Bool, Umbra.Good (fun v : Umbra => { v with perr := bad }) := fun _ =>
          Umbra.good_small _ (fun _ => ⟨rfl, fun _ x => x, rfl, rfl, rfl, rfl, rfl, rfl, BitVec.le_refl _, rfl, rfl, rfl⟩)
        generalize (_ || Umbra.setBroken _ errs) = bad
        obtain ⟨c, e⟩ := (pe bad).comp (Umbra.good_powerRec false u.rtcLost u.alive) _ a
        split
        · obtain ⟨p, q⟩ := Umbra.good_auditPdig 7 0 _ c
          exact ⟨p, b.trans (e.trans q)⟩
        · exact ⟨c, b.trans e⟩

/-! ### The Umbra port -/

theorem Umbra.good_refuse (ref bada busy : Bool) : Umbra.Good (fun u => u.refuse ref bada busy) := by
  intro u h; exact Umbra.good_answer _ _ u h

theorem Umbra.good_accept {f : Umbra → Umbra} (hf : Umbra.Good f) : Umbra.Good (fun u => u.accept f) := by
  intro u h
  obtain ⟨a, b⟩ := hf u h
  obtain ⟨c, e⟩ := Umbra.good_answer ((f u).portStatus false false false false) [] _ a
  exact ⟨c, b.trans e⟩

theorem Umbra.good_request (req : List Byte) (crc : Byte) {f : Umbra → Umbra} (hf : Umbra.Good f) :
    Umbra.Good (fun u => u.request req crc f) := by
  intro u h
  unfold Umbra.request
  beta_reduce
  split
  · exact Umbra.good_small (fun v => { v with resp := [] })
      (fun _ => ⟨rfl, fun _ x => x, rfl, rfl, rfl, rfl, rfl, rfl, BitVec.le_refl _, rfl, rfl, rfl⟩) u h
  · split
    · exact hf u h
    · exact Umbra.good_answer _ _ u h

theorem Umbra.good_cmdStatus : Umbra.Good Umbra.cmdStatus := by intro u h; exact Umbra.good_answer _ _ u h

theorem Umbra.good_requestWrite (addr : Word) (count : Byte) (ws : List Word) (crc : Byte) {f : List Word → Umbra → Umbra}
    (hf : ∀ l, Umbra.Good (f l)) : Umbra.Good (fun u => u.requestWrite addr count ws crc f) := by
  intro u h
  unfold Umbra.requestWrite
  simp only
  split
  · exact Umbra.good_small (fun v => { v with resp := [] })
      (fun _ => ⟨rfl, fun _ x => x, rfl, rfl, rfl, rfl, rfl, rfl, BitVec.le_refl _, rfl, rfl, rfl⟩) u h
  · exact Umbra.good_request _ _ (hf _) u h

theorem Umbra.good_cmdReadSlot (area ix : Nat) (errs : List (BitVec 28)) : Umbra.Good (fun u => u.cmdReadSlot area ix errs) := by
  intro u h
  unfold Umbra.cmdReadSlot
  beta_reduce
  split
  · exact Umbra.good_answer _ _ u h
  · exact Umbra.good_refuse _ _ _ u h

theorem Umbra.good_cmdReadParam (a n : Nat) (errs : List (BitVec 28)) : Umbra.Good (fun u => u.cmdReadParam a n errs) := by
  intro u h
  unfold Umbra.cmdReadParam
  beta_reduce
  split
  · exact Umbra.good_answer _ _ u h
  · exact Umbra.good_refuse _ _ _ u h

theorem putParams_wf (ws : List Word) : ∀ (p : Store) (a : Nat), Store.wf (fun _ => 0) p = true →
    Store.wf (fun _ => 0) (putParams p a ws) = true := by
  induction ws with
  | nil => intro p a h; exact h
  | cons w t ih => intro p a h; exact ih _ _ (Store.wf_set p a w h)

theorem Umbra.good_cmdWriteParam (a : Nat) (ws : List Word) : Umbra.Good (fun u => u.cmdWriteParam a ws) := by
  intro u h
  unfold Umbra.cmdWriteParam
  beta_reduce
  simp only
  split
  · exact Umbra.good_refuse _ _ _ u h
  · refine Umbra.good_accept (fun v hv => ?_) u h
    obtain ⟨h1, h2, h3, h4, h5, h6, h7, h8, h9, h10⟩ := hv
    refine ⟨⟨h1, ?_, h3, h4, h5, h6, h7, h8, h9, h10⟩, List.prefix_refl _, BitVec.le_refl _, Nat.le_refl _,
      Nat.le_refl _, rfl, fun _ => ⟨rfl, rfl⟩⟩
    intro sh hsh
    rcases List.mem_append.1 hsh with hsh | hsh
    · exact h2 sh (List.mem_append_left _ hsh)
    · rw [List.mem_singleton.1 hsh]
      apply putParams_wf
      cases hs : v.shadow with
      | none => exact h1
      | some x => exact h2 x (List.mem_append_right _ (by simp [hs]))

theorem Umbra.good_cmdWeigh : Umbra.Good Umbra.cmdWeigh := by
  intro u h
  unfold Umbra.cmdWeigh
  split
  · exact Umbra.good_refuse _ _ _ u h
  · exact Umbra.good_accept (Umbra.good_trigger 2) u h

theorem Umbra.good_cmdSetTime (t : BitVec 32) : Umbra.Good (fun u => u.cmdSetTime t) := by
  intro u h
  unfold Umbra.cmdSetTime
  beta_reduce
  split
  · exact Umbra.good_refuse _ _ _ u h
  · refine Umbra.good_accept (fun v hv => ?_) u h
    have set : Umbra.Good (fun v : Umbra => { v with utime := t, rtcx := false }) :=
      Umbra.good_small _ (fun _ => ⟨rfl, fun _ x => x, rfl, rfl, rfl, rfl, rfl, rfl, BitVec.le_refl _, rfl, rfl, rfl⟩)
    obtain ⟨a, b⟩ := set v hv
    refine ⟨(Umbra.good_auditRec _ ?_ _ a).1, b.trans (Umbra.good_auditRec _ ?_ _ a).2⟩ <;> rfl

/-- A programmed key is good where none was before. -/
theorem Umbra.good_cmdKey (ku : BitVec 128) (id : Word) : Umbra.Good (fun u => u.cmdKey ku id) := by
  intro u h
  unfold Umbra.cmdKey
  beta_reduce
  split
  · exact Umbra.good_refuse _ _ _ u h
  · rename_i hc
    have hn : u.key = none := by
      cases hk : u.key with
      | none => rfl
      | some _ => simp [hk] at hc
    have set : ({ u with key := some ku, keyId := id, pdig := digest ku u.params } : Umbra).Sound ∧
        u.Keeps { u with key := some ku, keyId := id, pdig := digest ku u.params } := by
      obtain ⟨h1, h2, h3, h4, h5, h6, h7, h8, h9, h10⟩ := h
      exact ⟨⟨h1, h2, h3, h4, h5, h6, h7, h8, h9, nofun⟩, List.prefix_refl _, BitVec.le_refl _, Nat.le_refl _,
        Nat.le_refl _, rfl, fun hs => by simp [hn] at hs⟩
    obtain ⟨a, b⟩ := set
    obtain ⟨c, e⟩ := (Umbra.good_powerRec true false u.utime).comp (Umbra.good_auditPdig 6 0) _ a
    obtain ⟨p, q⟩ := Umbra.good_answer _ [] _ c
    exact ⟨p, b.trans (e.trans q)⟩

theorem Umbra.good_cmdDistRec : Umbra.Good Umbra.cmdDistRec := by
  intro u h
  unfold Umbra.cmdDistRec
  split
  · exact Umbra.good_accept Umbra.good_distanceRec u h
  · exact Umbra.good_refuse _ _ _ u h

theorem Umbra.good_requestByte (op crc : Byte) (hw : Umbra.Good Umbra.cmdWeigh) (hd : Umbra.Good Umbra.cmdDistRec) :
    Umbra.Good (fun u => u.requestByte op crc) := by
  intro u h
  unfold Umbra.requestByte
  beta_reduce
  split
  · exact Umbra.good_small (fun v => { v with resp := [] })
      (fun _ => ⟨rfl, fun _ x => x, rfl, rfl, rfl, rfl, rfl, rfl, BitVec.le_refl _, rfl, rfl, rfl⟩) u h
  · refine Umbra.good_request _ _ (fun v hv => ?_) u h
    split
    · exact Umbra.good_cmdStatus v hv
    · split
      · exact hw v hv
      · split
        · exact hd v hv
        · exact Umbra.good_refuse _ _ _ v hv

end Sys2Proof.Machine
end

