-- ==== Sys2Proof/Laws/Lift.lean ====
section
/-! SUPPORT. How commands act on the state: every command is a change of the module or a change of the island, and what
each of the two leaves alone. -/

namespace Sys2Proof.Machine

set_option Elab.async false

open Sys2Proof

/-- A command of the module changes the module alone. -/
theorem exec_module (c : Instr) (s : State) (h : forUmbra c = false) : ∃ d, exec c s = .next { s with dev := d } := by
  cases c <;> first | exact ⟨_, rfl⟩ | exact absurd h (by decide) | exact Bool.noConfusion h

/-- A command of the island other than the loss of VUMB is a change of the island. -/
theorem exec_island (c : Instr) (s : State) (h : forUmbra c = true) (hl : ∀ torn set, c ≠ .umbraSupplyLoss torn set) :
    ∃ f, exec c s = s.onUmbra f := by
  cases c
  case umbraConversion x => exact ⟨fun u => u.convert x.toNat, rfl⟩
  case umbraStart b es => exact ⟨fun u => u.start b es, rfl⟩
  case status x op => exact ⟨fun u => u.requestByte op x, rfl⟩
  case readSlot a i x es =>
    exact ⟨fun u => u.request ([2, a] ++ wordBytes i) x (fun u => u.cmdReadSlot a.toNat i.toNat es), rfl⟩
  case readParam a n x es =>
    exact ⟨fun u => u.request ([3] ++ wordBytes a ++ [n]) x (fun u => u.cmdReadParam a.toNat n.toNat es), rfl⟩
  case writeParam a n ws x =>
    exact ⟨fun u => u.requestWrite a n ws x (fun ws u => u.cmdWriteParam a.toNat ws), rfl⟩
  case weigh x => exact ⟨fun u => u.request [5] x Umbra.cmdWeigh, rfl⟩
  case setTime t x => exact ⟨fun u => u.request (6 :: timeBytes t) x (fun u => u.cmdSetTime t), rfl⟩
  case key k i x => exact ⟨fun u => u.request (7 :: bytes128 k ++ wordBytes i) x (fun u => u.cmdKey k i), rfl⟩
  case distRec x => exact ⟨fun u => u.request [8] x Umbra.cmdDistRec, rfl⟩
  case wheelPulse i => exact ⟨fun u => u.pulse i, rfl⟩
  case still => exact ⟨fun u => u.becomeStill, rfl⟩
  case distanceRecordHour => exact ⟨fun u => u.hour, rfl⟩
  case umbraCouplingQualify l => exact ⟨fun u => u.coupling l, rfl⟩
  case sealOpen => exact ⟨fun u => u.open, rfl⟩
  case sealClose => exact ⟨fun u => u.close, rfl⟩
  case utimeSecond => exact ⟨fun u => u.second, rfl⟩
  case rtcStop => exact ⟨fun u => u.stopRtc, rfl⟩
  case umbraSupplyLoss b n => exact absurd rfl (hl b n)
  all_goals exact Bool.noConfusion h

/-- The loss of VUMB is a change of the island, from the state as it stands or with the copy of a torn record withdrawn. -/
theorem exec_loss (s : State) (torn : Bool) (set : Option Nat) :
    (exec (.umbraSupplyLoss torn set) s = s.onUmbra (fun u => u.loseSupply false) ∧
      ((torn = false ∧ set = none) ∨ s.mayTear = false)) ∨
    (exec (.umbraSupplyLoss torn set) s = s.withdrawn.onUmbra (fun u => u.loseSupply torn set) ∧ s.mayTear = true) := by
  show (s.umbraLoss torn set = _ ∧ _) ∨ (s.umbraLoss torn set = _ ∧ _)
  unfold State.umbraLoss
  cases torn <;> cases set <;> cases h : s.mayTear <;> simp

/-- The withdrawal of a copy changes the crossing alone. -/
theorem State.withdrawn_eq (s : State) :
    s.withdrawn = { s with dev := { s.dev with mbxIn := if s.copyWaits then s.dev.mbxIn.dropLast else s.dev.mbxIn } } := by
  unfold State.withdrawn
  cases s.copyWaits <;> rfl

/-- A change of the island, as one state. -/
theorem State.onUmbra_eq (s : State) (f : Umbra → Umbra) :
    s.onUmbra f = .next (s.withUmbra (f { s.umbra with out := [] }) (f { s.umbra with out := [] }).out) := rfl

/-- A change of the island that keeps to R300 and R313 does so through its lift. -/
theorem State.onUmbra_good {s t : State} {f : Umbra → Umbra} (hf : Umbra.Good f) (hs : s.umbra.Sound)
    (h : s.onUmbra f = .next t) : t.umbra.Sound ∧ s.umbra.Keeps t.umbra := by
  have out : Umbra.Good (fun v : Umbra => { v with out := [] }) :=
    Umbra.good_small _ (fun _ => ⟨rfl, fun _ x => x, rfl, rfl, rfl, rfl, rfl, rfl, BitVec.le_refl _, rfl, rfl, rfl⟩)
  cases h
  exact ((out.comp hf).comp out) s.umbra hs

/-- A write that the access table lets through. -/
theorem State.write_ok (s : State) (k : Master) (a : Nat) (v : Word) (h : s.dev.writeOk k a = true) :
    s.write k a v = .next { s with dev := s.dev.commit k a v } := by
  unfold State.write Dev.fabWrite
  rw [h]
  rfl

/-- A write that the access table stops changes nothing (R16). -/
theorem State.write_refused (s : State) (k : Master) (a : Nat) (v : Word) (h : s.dev.writeOk k a = false) :
    s.write k a v = .next s := by
  unfold State.write Dev.fabWrite
  rw [h]
  rfl

/-- An event while ck_core runs. -/
theorem State.onCore_runs (s : State) (f : Dev → Dev) (h : s.dev.runs = true) :
    s.onCore f = .next { s with dev := f s.dev } := by
  unfold State.onCore
  rw [h]
  rfl

/-- An event while ck_core stands still changes nothing (R35). -/
theorem State.onCore_stopped (s : State) (f : Dev → Dev) (h : s.dev.runs = false) : s.onCore f = .next s := by
  unfold State.onCore
  rw [h]
  rfl

end Sys2Proof.Machine
end

