-- ==== Sys2Proof/WellFormed.lean ====
section
/-! DEFINITION. Well-formed commands: what the surroundings can supply as an operand, where a rule bounds it beyond the
operand's type. Every other command is well formed whatever its operands. No meaning relies on it. -/

namespace Sys2Proof

/-- The register at word address `a` has a field of the given access type (R9). -/
def Instr.hasType (t : Machine.Access) (a : Nat) : Bool :=
  match Machine.regRow a with
  | some r => r.mask t != 0
  | none => false

/-- A read of word `a` latches other words (R41, R261, R289). -/
def Instr.latches (a : Nat) : Bool :=
  !(Machine.latchSet a).isEmpty || (Machine.inStore a && a % 4 = 0)

/-- A command whose operands the surroundings can supply: a device fault has a finding (R416), WRITE_PARAM carries COUNT
words (R326), a frame of the memory port at most 512 bytes and a line 64 (R367, R373), only later words of a READ can be
late (R391), a frame with valid characters and commas has 78 bytes (R427), only D3 to D9 are switched (R461), a failing
word is named within the largest target, its 28 bits, 6 elements and 5 backgrounds (R471, R475), and the commands that
name a register by its kind name one of that kind. [DESIGN CHOICE, log 17] -/
def Instr.wf : Instr → Bool
  | .deviceFault finds .. => !finds.isEmpty
  | .traceStoreRead _ a errs => Machine.inStore a.toNat && decide (errs.length ≤ 4)
  | .writeParam _ count ws _ => decide (ws.length = count.toNat)
  | .queueEntryComplete bytes => decide (bytes.length ≤ 512)
  | .windowRead _ a _ => decide (0x800000 ≤ a.toNat)
  | .lineFillComplete bytes => decide (bytes.length = 64)
  | .read _ _ n late .. => late.all (fun i => decide (0 < i) && decide (i < n))
  | .mirrorFrameReceive bytes codeOk alignOk _ => !codeOk || !alignOk || decide (bytes.length = 78)
  | .domainSwitchOn d => decide (3 ≤ d.1)
  | .domainReady d => decide (3 ≤ d.1)
  | .bistComplete fails _ => fails.all (fun f => decide (f.index < 786432) && decide (f.bit < 28) && decide (f.elem < 6) && decide (f.bg < 5))
  | .lowWordLatchRead _ a _ => Instr.latches a.toNat
  | .readClear _ a _ => Instr.hasType .rc a.toNat
  | .w1cWrite _ a .. => Instr.hasType .w1c a.toNat
  | .resetAssert .. | .resetRelease .. | .pllCoreLock .. | .fuseReadComplete .. | .logMirrorLoadComplete ..
  | .returnEraseComplete .. | .discoveryComplete .. | .pass1Complete .. | .loaderWaitEnd .. | .pass2Complete ..
  | .configDone .. | .configReload .. | .pllCoreLockLoss .. | .pllCoreLockReturn .. | .deviceFaultHoldEnd ..
  | .scrubRead .. | .correctionWriteback .. | .frameStart .. | .applyDeadline .. | .grantPoint ..
  | .loopComputation .. | .kissSearchTimeout .. | .carrierStart .. | .commutation .. | .sampleTick ..
  | .zcWindowClose .. | .align1End .. | .align2End .. | .rampTimeout .. | .stabilityWindowEnd ..
  | .backoffEnd .. | .coastEnd .. | .catchTimeout .. | .reccntReset .. | .brakeEnd .. | .motorEnable ..
  | .motorDisable .. | .fltClear .. | .cmdEdge .. | .cmdLostTimeout .. | .hdemWrite .. | .hostDemandTimeout ..
  | .hrel .. | .kissrefHiWrite .. | .deadTimeEnd .. | .blankingEnd .. | .desatDetect .. | .bootstrapUvAssert ..
  | .bootstrapUvRelease .. | .gateSupplyUvAssert .. | .gateSupplyUvRelease .. | .gateReportDelivery ..
  | .gateSupplyLoss .. | .gateDieReady .. | .currentLimitLatch .. | .leadingEdgeBlankingEnd ..
  | .hardShortLatch .. | .busComparatorLatch .. | .glintCheckOff .. | .glintDacReadback .. | .glintSwap ..
  | .glintTieLow .. | .glintTieHigh .. | .chopperFeedbackTimeout .. | .chopperTestPulse ..
  | .chopperTestPulseEnd .. | .conversionSlot .. | .sampleEntry .. | .accumulatorClose .. | .syncTick ..
  | .idleEntryEnd .. | .sliceWake .. | .sequencerRun .. | .sequencerStop .. | .urgentRequest ..
  | .coefficientUpdate .. | .trackerRestart .. | .pllPrismLockLoss .. | .pllPrismLockReturn ..
  | .feedbackEdge .. | .glitch .. | .speedDecay .. | .zeroSpeedTimeout .. | .positionSeed ..
  | .absCheckRequest .. | .absCheckPeriod .. | .absTransferComplete .. | .leaveFallback .. | .distOutEnable ..
  | .distPulseEnd .. | .distGapEnd .. | .traceTick .. | .traceRecordCommit .. | .hostFedWrite ..
  | .traceChannelEnable .. | .traceChannelDisable .. | .traceChannelConfig .. | .traceMark ..
  | .traceStoreEmpty .. | .wheelPulse .. | .umbraConversion .. | .still .. | .distanceRecordHour ..
  | .umbraCouplingQualify .. | .sealOpen .. | .sealClose .. | .utimeSecond .. | .rtcStop .. | .umbraStart ..
  | .umbraSupplyLoss .. | .status .. | .readSlot .. | .readParam .. | .weigh .. | .setTime .. | .key ..
  | .distRec .. | .mailboxUpdate .. | .mailboxStale .. | .couplingSessionOpen .. | .couplingSessionClose ..
  | .pendingCouplingApply .. | .queueRunStart .. | .queueAbort .. | .rawSelect .. | .windowTimeout ..
  | .flashMasterStart .. | .multiMasterFault .. | .write .. | .page .. | .nop .. | .getpage .. | .lanereset ..
  | .hostFramingFault .. | .doorbellRing .. | .mirrorFrameSend .. | .linkDown .. | .partnerRequest ..
  | .partnerRequestTimeout .. | .rerateHoldExpiry .. | .oneSecondTick .. | .pendClear .. | .rearmPulseEnd ..
  | .thermalReadingPeriod .. | .thermalReadRequest .. | .thermalShutdownAssert .. | .thermalShutdownRelease ..
  | .powerRequestWrite .. | .lcManufacture .. | .lcField .. | .lcService .. | .lcReturn ..
  | .fuseProgramComplete .. | .keyProgram .. | .challengeDraw .. | .challengeLapse .. | .bistStart ..
  | .bistAbort .. | .repair .. | .tapReset .. | .extest .. | .samplePreload .. | .idcode .. | .bypass ..
  | .grpstart .. | .grpRunSet .. | .grpRunClear .. | .registerWrite .. | .pwmEdge .. | .phaseComparatorLatch ..
  | .gateSupplyReturn .. | .feedbackCopyWhileStopped .. => true

end Sys2Proof
end

