-- ==== Sys2Proof/Tests/Slice0.lean ====
section
/-! SUPPORT. Tests: ill-formed commands that `wf` refuses, the spec's worked examples and check values, and for every
statement with hypotheses a state and operands that meet them, clause by clause. Expected results are the spec's or the
named standard's, not the model's. -/

namespace Sys2Proof.Tests

set_option maxRecDepth 20000
set_option Elab.async false

open Sys2Proof Sys2Proof.Machine

/-- A module with lock, out of reset, 20 s after the first lock, its start sequence over. -/
def tdev : Dev :=
  ({ resetN := true, locked := true, everLock := true, cycles := 4000000000, loader := { step := 5 } } : Dev).put 0x40 4

/-- A state around a changed module. -/
def on (f : Dev → Dev) : State := { dev := f tdev }

/-- A state around an island. -/
def isl (u : Umbra) : State := { dev := tdev, umbra := u }

/-- The module after a command. -/
def after (c : Instr) (s : State) : Dev := match exec c s with | .next t => t.dev | _ => {}

/-- Write consecutive words, the same in both stores. -/
def setup (a : Nat) (l : List Word) (d : Dev) : Dev :=
  let d := d.each (l.zip (List.range l.length)) (fun d p => d.put (a + p.2) p.1)
  { d with inForce := d.words }

/-- Words with their CRC, low half first. -/
def withCrc (ws : List Word) : List Word :=
  ws ++ [(crc32 (bytesOf ws)).extractLsb' 0 16, (crc32 (bytesOf ws)).extractLsb' 16 16]

/-- A WAIT section of 5 ms. -/
def waitSec : List Word := [0x4000, 0, 0, 1, 5]

/-- An image of one section. -/
def image : List Word := withCrc [0x4F54, 1, 0x9616, 0, 7, 0, 23, 0, 1, 0, 0, 0, 0, 0] ++ withCrc waitSec

/-- An image whose one section is for module 0 of a pair. -/
def mod1Image : List Word := withCrc [0x4F54, 1, 0x9616, 0, 7, 0, 23, 0, 1, 0, 0, 0, 0, 0] ++ withCrc [0x4400, 0, 0, 1, 5]

/-- An image with no section. -/
def hdrOnly : List Word := withCrc [0x4F54, 1, 0x9616, 0, 7, 0, 16, 0, 0, 0, 0, 0, 0, 0]

/-- A section that writes one word below 64 Ki. -/
def oneWord (a v : Word) : List Word := [0x1000, a, 0, 1, v]

/-! ### Ill-formed commands -/

theorem test_wf_deviceFault : Instr.wf (.deviceFault [] (Vector.replicate 4 false)) = false := by decide
theorem test_wf_writeParam : Instr.wf (.writeParam 0 2 [1] 0) = false := by decide
theorem test_wf_queueEntryComplete : Instr.wf (.queueEntryComplete (List.replicate 513 0)) = false := by decide +kernel
theorem test_wf_lineFillComplete : Instr.wf (.lineFillComplete [0]) = false := by decide
theorem test_wf_read_first : Instr.wf (.read 0 0 2 [0] 0) = false := by decide
theorem test_wf_read_past : Instr.wf (.read 0 0 2 [2] 0) = false := by decide
theorem test_wf_mirrorFrame : Instr.wf (.mirrorFrameReceive [0] true true) = false := by decide
theorem test_wf_domainSwitchOn : Instr.wf (.domainSwitchOn 2) = false := by decide
theorem test_wf_domainReady : Instr.wf (.domainReady 2) = false := by decide
theorem test_wf_bist_index : Instr.wf (.bistComplete [⟨786432, 0, 0, 0⟩]) = false := by decide
theorem test_wf_bist_bit : Instr.wf (.bistComplete [⟨0, 28, 0, 0⟩]) = false := by decide
theorem test_wf_bist_elem : Instr.wf (.bistComplete [⟨0, 0, 6, 0⟩]) = false := by decide
theorem test_wf_bist_bg : Instr.wf (.bistComplete [⟨0, 0, 0, 5⟩]) = false := by decide
theorem test_wf_traceStoreRead : Instr.wf (.traceStoreRead 0 0x0FFFFC []) = false := by decide
theorem test_wf_traceStoreRead_errs : Instr.wf (.traceStoreRead 0 0x100000 (List.replicate 5 0)) = false := by decide
theorem test_wf_windowRead : Instr.wf (.windowRead 0 0x7FFFFF) = false := by decide
theorem test_wf_lowWordLatchRead : Instr.wf (.lowWordLatchRead 0 0x31) = false := by decide +kernel
theorem test_wf_readClear : Instr.wf (.readClear 0 0x31) = false := by decide +kernel
theorem test_wf_w1cWrite : Instr.wf (.w1cWrite 0 0x40 0) = false := by decide +kernel

/-- The table gives no command bits, so no word spells one. -/
theorem test_no_word_decodes : decodeTableWord 16 0x43 = none := rfl

/-! ### Codes -/

/-- IEEE 802.3 check value. -/
theorem test_crc32 : crc32 [0x31, 0x32, 0x33, 0x34, 0x35, 0x36, 0x37, 0x38, 0x39] = 0xCBF43926 := by decide +kernel

/-- Chapter 15, worked transaction: C1 over 0x43. -/
theorem test_c1 : crc8 [0x43] = 0x0F := by decide +kernel

/-- Chapter 15, worked transaction: C2 over 0x43, 0x05, 0xDC. -/
theorem test_c2 : crc8 [0x43, 0x05, 0xDC] = 0x18 := by decide +kernel

/-- FIPS 197, appendix C.1. -/
theorem test_aes : natOfBytes (aes128 (bytes128 0x000102030405060708090a0b0c0d0e0f) (bytes128 0x00112233445566778899aabbccddeeff)) =
    0x69c4e0d86a7b0430d8cdb78070b4c55a := by decide +kernel

/-- SP 800-38B, AES-128 example of an empty message. -/
theorem test_cmac : cmac 0x2b7e151628aed2a6abf7158809cf4f3c [] = 0xbb1d6929e95937287fa37d129b756746 := by decide +kernel

/-- Chapter 16, worked example: 0x05DC becomes 0xB2D_05DC. -/
theorem test_encode : encode28 0x05DC = 0xB2D05DC := by decide +kernel

/-- Chapter 16, worked example: bits 6 and 4 flip together and are corrected. -/
theorem test_decode_nibble : decode28 (0xB2D05DC ^^^ 0x50) = .corrected 0x05DC := by decide +kernel

/-! ### Commutation and loops -/

/-- Chapter 02, motor 0: ADVSPD and ADVVAL give 18 units at 1 900. -/
theorem test_advance : (setup 0x2020 ([0, 400, 800, 1200, 1600, 2400] ++ List.replicate 10 4000)
    (setup 0x2030 ([0, 3, 6, 9, 12, 27] ++ List.replicate 10 40) tdev)).advance 0 1900 = (18, false) := by decide +kernel

/-- Chapter 02, motor 0: position 1 000 259 with CPER 96 and ZERO 37 is angle 1 504, at 1 900 by FSPD 729 600. -/
theorem test_sense : (let x := ((((setup 0x2008 [37, 0, 96] tdev).put32 0xA004 1000259).put32 0xA019 729600).onFb 0
    (fun x => { x with fspdv := true })).sense 0 |>.mot 0; (x.angS / angUnit, x.speed)) = (1504, 1900) := by decide +kernel

/-- A motor at angle 1 504, advance 18, speed 1 900, at its frame start. -/
def atAngle : Motor :=
  { state := .run, angS := 1504 * angUnit, angAt := 1000, v16 := 1900 * 65536, adv := 18, sector := 5 }

/-- Chapter 02: tick 3 837 has not reached the boundary, tick 3 838 has. -/
theorem test_crossing_before : atAngle.nextSector (1000 + 3837) = none := by decide +kernel
theorem test_crossing_at : atAngle.nextSector (1000 + 3838) = some 0 := by decide +kernel

/-- Chapter 02, worked figure: CEIL 31 129, and duty 0x8000 gives 9 500 ticks of 10 000 with CEILHIT. -/
theorem test_ceiling : (((setup 0x2006 [400, 1] (setup 0x2000 [0x0020] tdev)).onGrp 0 (fun x => { x with period := 10000 })).ceilCode 0)
    = 31129 := by decide +kernel

/-- Chapter 02, CMD6: X 26 214 gives 7 777. -/
theorem test_cmd_demand : (setup 0x3841 [3277, 62259, 0, 20000] tdev).cmdDemand 6 26214 = 7777 := by decide +kernel

/-- Chapter 10: a span of 17 544 ticks for four counts gives 729 584. -/
theorem test_reciprocal : recip 12800000000 17544 = 729584 := by decide +kernel

/-- Chapter 04: the map gives 2 250 at 20 000. -/
theorem test_map : interpolate (fun i => [4000, 8000, 40000, 40000, 40000, 40000, 40000, 40000].getD i 0)
    (fun i => [0, 0, 6000, 6000, 6000, 6000, 6000, 6000].getD i 0) 8 20000 = 2250 := by decide +kernel

/-- Chapter 04: DSLEW 50 takes 1 500 to 1 550 in the first frame. -/
theorem test_slew : slew 50 1500 2250 = 1550 := by decide

/-- A force curve with the example's two points. -/
def curve (d : Dev) : Dev :=
  setup 0x2160 ([0, 40, 80, 120] ++ List.replicate 28 200) (setup 0x2180 ([0, 400, 900, 2000] ++ List.replicate 28 4000)
    (d.put32 0x2159 1000182))

/-- Chapter 04: the target of 1 500. -/
theorem test_force_target : (curve tdev).forceTarget 0 1500 = (1000283, false) := by decide +kernel

/-- Chapter 04: the estimate at 1 000 279. -/
theorem test_force_estimate : ((curve tdev).put32 0xA004 1000279).forceEst 0 = (1367, false) := by decide +kernel

/-! ### Budget, supply and comparators -/

/-- The claimants of chapter 05's worked frame. -/
def brakes : Vector Ask 4 :=
  #v[⟨true, 0, 40, 400, 300⟩, ⟨true, 0, 40, 400, 280⟩, ⟨true, 1, 40, 400, 220⟩, ⟨true, 1, 40, 400, 190⟩]

/-- Chapter 05: 289, 271, 40 and 40 of 640, and RR[0] becomes 1. -/
theorem test_grants : (let r := grants brakes 640 false #v[0, 0, 0, 0]; (r.1.1, r.1.2, r.2[0])) = (#v[289, 271, 40, 40], 0, 1) := by decide +kernel

/-- Chapter 05: the throttled pool of 480 gives 207, 193, 40 and 40, and RR[0] becomes 0. -/
theorem test_grants_throttled : (let r := grants brakes 480 false #v[1, 0, 0, 0]; (r.1.1, r.1.2, r.2[0])) =
    (#v[207, 193, 40, 40], 0, 0) := by decide +kernel

/-- Chapter 17: with 1 280 credits every request is met and 290 stay. -/
theorem test_grants_rerated : (grants brakes 1280 false #v[0, 0, 0, 0]).1 = (#v[300, 280, 220, 190], 290) := by decide +kernel

/-- Chapter 05: comparator codes of 289 and 40 credits. -/
theorem test_cmpcode : (let d := setup 0x6000 [640, 0xC020, 80, 16] (setup 0x2108 [800] tdev); (d.cmpCode 0 0 289, d.cmpCode 0 0 40)) =
    (416, 57) := by decide +kernel

/-- Chapter 07: the ladder at 27 050, 28 550 and 27 950. -/
theorem test_ladder : (ladder 0 27050 27000 28500 30000 500, ladder 1 28550 27000 28500 30000 500,
    ladder 2 27950 27000 28500 30000 500) = (1, 2, 1) := by decide +kernel

/-- Chapter 08: step 85 of slope 8 below code 416. -/
theorem test_ecode : (let d := setup 0x6014 [416] (setup 0x7002 [0x0308] (setup 0x6003 [16] tdev));
    ((d.onMot 0 (fun x => { x with compOn := some (4000000000 - 3400) })).ecode 0)) = 374 := by decide +kernel

/-- Chapter 09: eight samples of sum 62 916 close as 7 864, and negated as −7 865. -/
theorem test_accumulator : ((({ cfg := 0x4307, sum := 62916, n := 8 } : Acc).value).1, (({ cfg := 0x4307, sum := -62916, n := 8 } : Acc).value).1)
    = (7864, -7865) := by decide +kernel

/-- Chapter 06: the desaturation of b = 6 at TIME 1 204 305, sub-count 100, with SEQ 0x02A and FIRST 6. -/
theorem test_desat_record :
    (let d := after (.desatDetect 6 3000) (on (fun d => { ((((setup 0x68C1 [0x0330] d).put 0x801 0x3FD).put 0x802 0x3F8).put 0x6E40 0x029) with
        cycles := 1204305 * 200 + 100 } |>.onDie 0 (fun x => { x with rdy := true, everRdy := true }) |>.onBrg 6 (fun x =>
        { x with hs := true, onAt := 1204258 * 200, aboveAt := some (1204305 * 200 + 80) })));
      (d.w 0x68C3, d.w32 0x68C5)) = (1, 1204305) := by decide +kernel

/-! ### Traces, weighing and distance -/

/-- The compressor of channel 24 after an anchor of 100, over the given samples: the records it made. -/
def records (l : List Int) : List Rec :=
  let d := (tdev.onTrc 24 (fun x => { x with on := true, e := 2, div := 1 })).setSeg 24 (some (Seg.vertex 100 1000))
  let d := (d.put 0xB0C1 2).put 0xB0C2 0x0100
  (l.foldl (fun (d : Dev) y => d.compressor 24 (some y)) ((d.put 0x801 0x3FD).put 0x802 0x3F8)).recq

/-- Chapter 11: no segment up to T + 4; the sample of T + 5 writes end 112 and duration 4. -/
theorem test_compressor : ((records [103, 107, 110, 112]).length, (records [103, 107, 110, 112, 113, 113]).map (fun r => (r.w1, r.w2)))
    = (0, [(112, 4)]) := by decide +kernel

/-- Chapter 12: the sum 1 105 870 of channel 0 weighs 4 640 kg. -/
theorem test_load : loadOf [(0, 0x31), (1, 50), (0x100, 1000), (0x101, 2000), (0x102, 3000), (0x103, 4000), (0x104, 20000),
    (0x105, 24000), (0x106, 65000), (0x107, 65000), (0x108, 65000), (0x109, 65000), (0x10A, 65000), (0x10B, 65000), (0x10C, 65000), (0x10D, 65000),
    (0x10E, 65000), (0x10F, 65000), (0x114, 4000), (0x115, 5200)] 50 0 1105870 = 4640 := by decide +kernel

/-! ### Hosts, tests and power -/

/-- Chapter 15, worked transaction: HDEM of motor 0 takes 0x05DC. -/
theorem test_host_write : ((after (.write 0 3 [0x05DC] 0x0F 0x18) (on (fun d => (d.put 0x60 0x0028).onHp 0 (fun x => { x with page := 0x84 })))).w 0x2103)
    = 0x05DC := by decide +kernel

/-- Chapter 15: table word 0x0057 of MOT[0], 3 lets M0 write HDEM, and M2 not. -/
theorem test_access : (let d := (tdev.put 0x417 0x0057).putB 0x40 14 true; (d.writeOk 0 0x2103, d.writeOk 2 0x2103, d.readOk 3 0x2103))
    = (true, false, true) := by decide +kernel

/-- Chapter 20: the failing word of state RAM names row 0xC69, element 2, background 0, bit 9. -/
theorem test_bist : (let d := after (.bistComplete [⟨0x31A47, 9, 2, 0⟩]) (on (fun d => { d with bist := { run := some 0 } }));
    (d.w 0xF403, d.w 0xF404, d.w 0xF405, d.w 0xF406, d.w 0xF410)) = (1, 0x1A47, 0x0003, 0x0209, 0x8C69) := by decide +kernel

/-- Sensor 1 with THROT 8 320 and HYS 192, its condition first met 1 000 µs ago. -/
def gateA (stat : Word) : Dev :=
  ((setup 0x1018 [0, 0x7FFF, 8320, 192] tdev).put 0x1001 stat).onSen 1 (fun x => { x with thrAt := some (20000000 - 1000) })

/-- Chapter 19: a reading of 8 339 held for 1 000 µs asserts the throttle of gate die A with TCAUSE bit 1. -/
theorem test_throttle : (((gateA 0).thermReading 1 8339).bit 0x1001 6, ((gateA 0).thermReading 1 8339).w 0x1003) = (true, 2) := by
  decide +kernel

/-- Chapter 19: a reading of 8 122 held for 1 000 µs releases it with RCAUSE bit 6. -/
theorem test_throttle_release :
    (((gateA 0x40).thermReading 1 8122).bit 0x1001 6, ((gateA 0x40).thermReading 1 8122).w 0x1005) = (false, 0x40) := by decide +kernel

/-- Chapter 14: the run of QRUN 0x8030 goes through entries 0 to 3. -/
theorem test_queue_run : (let d := after (.queueRunStart 3 0x8030) (on id); (d.qPos, d.mem.last, d.qRun)) = (0, 3, true) := by decide +kernel

/-- Chapter 14: a line fill in 1-8-8 with three address bytes and 16 dummy periods takes 91 MCLK periods, and 83 when it omits
its command. -/
theorem test_fill_periods : (let d := { tdev with inForce := ((tdev.put 0xD008 0xA000).put 0xD009 0x29F0).words };
    ((d.winFrame 0).periods, ((d.onMem (fun x => { x with comAct := true })).winFrame 0).periods)) = (91, 83) := by decide +kernel

/-- Chapter 18: at tick 9 506 the DESAT cause raises E2 with TS 1 204 305. -/
theorem test_event : (let d := after .gateReportDelivery (on (fun d => { (d.onMot 2 (fun x => { x with state := MState.run })) with
      cycles := 1204258 * 200 + 9506, reports := [{ motor := 2, phase := 0, cause := .desat, at' := 1204258 * 200 + 9500 }] }));
    (d.w 0xF02, d.ev[2].cnt, d.ev[2].ts, d.pend[0])) = (1, 1, 1204305, 4) := by decide +kernel

/-! ### What meets the hypotheses of each statement -/

theorem met_StepRunsFront_1 :
    (∃ (s : State), s.pending = [] ∧ s.dev.runs = false) ∧
    (∃ (s : State), s.pending = [] ∧ s.dev.runs = true ∧ 200 ≤ s.dev.sub + 1) ∧
    (∃ (s : State), s.pending = [] ∧ s.dev.runs = true ∧ s.dev.sub + 1 < 200 ∧ (∀ k, (s.dev.hp k).held = [])) :=
  ⟨⟨on (fun d => { d with locked := false }), by decide +kernel⟩,
   ⟨on (fun d => { d with cycles := 199 }), by decide +kernel⟩,
   ⟨on (fun d => { d with cycles := 198 }), by decide +kernel⟩⟩

theorem met_StepRunsFront_2 :
    ∃ (s : State), s.pending = [] ∧ s.dev.runs = true ∧ (s.dev.nextCycle.hp 2).held = [⟨0x2103, 7, 0⟩] ∧ (∀ j, j ≠ 2 → (s.dev.nextCycle.hp j).held = []) :=
  ⟨on (fun d => d.onHp 2 (fun x => { x with held := [⟨0x2103, 7, 0⟩] })), by decide +kernel⟩

theorem met_SealedIsland :
    (∃ (c : Instr) (s t : State), exec c s = .next t ∧ forUmbra c = false) ∧
    (∃ (c : Instr) (s t : State), exec c s = .next t ∧ forUmbra c = true ∧ s.dev.resetN = false) ∧
    (∃ (c : Instr) (s t : State), exec c s = .next t ∧ forUmbra c = true ∧ s.dev.resetN = true) :=
  ⟨⟨.oneSecondTick, State.reset, State.reset, by rfl, by rfl⟩,
   ⟨.rtcStop, State.reset, _, by rfl, by rfl, by rfl⟩,
   ⟨.rtcStop, on id, _, by rfl, by rfl, by rfl⟩⟩

theorem met_AccessTables :
    (∃ (c : Instr) (s : State) (k : Master) (a : Nat), writesAt c = some (k, a) ∧ s.dev.mayAccess k true a = false) ∧
    (∃ (c : Instr) (s : State) (k : Master) (a : Nat), readsAt c = some (k, a) ∧ s.dev.mayAccess k false a = false) :=
  ⟨⟨.fltClear 6 3 1, on id, 6, 0x2C02, by decide +kernel⟩,
   ⟨.challengeDraw 6, on id, 6, 0xF004, by decide +kernel⟩⟩

theorem met_SoundStep_1 :
    (∃ (s t : State), s.umbra.Sound ∧ step s = .next t) ∧
    (∃ (s t : State), s.umbra.Sound ∧ step s = .next t ∧ s.pending.head? = some (.umbraSupplyLoss true none)) ∧
    (∃ (s t : State), s.umbra.Sound ∧ step s = .next t ∧ s.pending.head? = some (.umbraSupplyLoss true (some 3))) :=
  ⟨⟨{ (isl { key := some 7, dum0 := 2 ^ 64 - 1 }) with pending := [.wheelPulse 0] }, _, by simp [Umbra.Sound, Umbra.sets, isl, Store.wf]; decide, by rfl⟩,
   ⟨{ (isl { key := some 7, last := some { audit := true }, audit := [List.replicate 16 3] }) with pending := [.umbraSupplyLoss true none] }, _, by simp [Umbra.Sound, Umbra.sets, isl, Store.wf]; decide, by rfl, by rfl⟩,
   ⟨{ (isl { key := some 7, last := some { audit := true }, audit := [List.replicate 16 3] }) with pending := [.umbraSupplyLoss true (some 3)] }, _, by simp [Umbra.Sound, Umbra.sets, isl, Store.wf]; decide, by rfl, by rfl⟩⟩

theorem met_SoundStep_2 :
    ∃ (s t : State), s.umbra.Sound ∧ step s = .next t ∧ s.pending.head? = some (.umbraSupplyLoss false (some 3)) :=
  ⟨{ (isl { key := some 7, last := some { audit := true }, audit := [List.replicate 16 3] }) with pending := [.umbraSupplyLoss false (some 3)] }, _, by simp [Umbra.Sound, Umbra.sets, isl, Store.wf]; decide, by rfl, by rfl⟩

theorem met_HalfBridgesSafe :
    ∃ (s t : State), (∀ b, (s.dev.brg b).Safe) ∧ step s = .next t :=
  ⟨{ (on (fun d => d.onBrg 4 (fun x => { x with en := true, pulse := true, hs := true }))) with pending := [.bootstrapUvAssert 4] }, _, by unfold Bridge.Safe; decide +kernel, by rfl⟩

theorem met_UmbraSupply_1 :
    (∃ (s : State), s.umbra.up = true) ∧
    (∃ (s : State), s.umbra.up = false) ∧
    (∃ (s : State), s.umbra.up = false ∧ s.umbra.bistFail = false ∧ s.umbra.key = some 5 ∧ digest 5 s.umbra.params = s.umbra.pdig ∧ s.umbra.parMark = commitWord (paramWords s.umbra.params)) :=
  ⟨⟨isl { up := true }, by decide +kernel⟩,
   ⟨isl { up := false }, by decide +kernel⟩,
   ⟨isl { up := false, key := some 5, pdig := digest 5 [], parMark := commitWord (paramWords []) }, by simp [isl]⟩⟩

theorem met_UmbraSupply_2 :
    (∃ (s : State), s.umbra.up = false ∧ s.umbra.bistFail = false ∧ s.umbra.key = some 5 ∧ s.umbra.parMark ≠ commitWord (paramWords s.umbra.params) ∧ s.umbra.audit.length < 512) ∧
    (∃ (s : State), s.umbra.up = false ∧ s.umbra.bistFail = false ∧ s.umbra.key = some 5 ∧ digest 5 s.umbra.params ≠ s.umbra.pdig ∧ s.umbra.audit.length < 512) ∧
    (∃ (s : State) (ok : Bool), s.umbra.up = false ∧ s.umbra.bistFail = false ∧ s.umbra.key = none ∧ ok = false) :=
  ⟨⟨isl { up := false, key := some 5, parMark := 0 }, by decide +kernel⟩,
   ⟨isl { up := false, key := some 5, audit := List.replicate 511 [], pdig := digest 5 [] + 1 }, by simp [isl]⟩,
   ⟨isl { up := false }, false, by decide +kernel⟩⟩

theorem met_UmbraSupply_3 :
    (∃ (s : State) (torn : Bool), torn = false ∨ s.umbra.last = none) ∧
    (∃ (s : State), s.umbra.up = true ∧ s.umbra.last = some { audit := true } ∧ s.mayTear = true ∧ s.umbra.audit = [List.replicate 16 3] ++ [List.replicate 16 9]) ∧
    (∃ (s : State), s.umbra.up = true ∧ s.umbra.last = some { audit := false } ∧ s.mayTear = true ∧ s.umbra.datNext = 6 + 1) :=
  ⟨⟨isl { last := none }, true, by decide +kernel⟩,
   ⟨{ isl { last := some { audit := true }, audit := [List.replicate 16 3, List.replicate 16 9], out := [[0x4100]] } with dev := { tdev with mbxIn := [[0x4100]] } }, by decide +kernel⟩,
   ⟨{ isl { last := some { audit := false }, datNext := 7, data := [(6, List.replicate 16 9)], out := [[0x4100]] } with dev := { tdev with mbxIn := [[0x4100]] } }, by decide +kernel⟩⟩

theorem met_UmbraSupply_4 :
    (∃ (s : State), s.umbra.up = true ∧ s.umbra.last = some { audit := true, set := some ([(1, 5)], 7, false) } ∧ s.mayTear = true) ∧
    (∃ (s : State), s.mayTear = false ∧ s.umbra.last = some { audit := true }) ∧
    (∃ (s : State), s.umbra.up = false ∧ s.umbra.bistFail = false ∧ s.umbra.key = some 5 ∧ (∃ e ∈ ([(3, 0x11)] : List (Nat × BitVec 28)), (s.umbra.setWord e.1 e.2).2 = .bad) ∧ s.umbra.audit.length < 512) :=
  ⟨⟨{ isl { last := some { audit := true, set := some ([(1, 5)], 7, false) }, out := [[0x4100]] } with dev := { tdev with mbxIn := [[0x4100]] } }, by decide +kernel⟩,
   ⟨isl { last := some { audit := true }, out := [] }, by decide +kernel⟩,
   ⟨isl { up := false, key := some 5 }, by decide +kernel⟩⟩

theorem met_UmbraSupply_5 :
    ∃ (s : State), s.umbra.up = false ∧ s.umbra.key = some 5 ∧ s.umbra.setBroken [(3, 0x1)] = false :=
  ⟨isl { up := false, key := some 5 }, by decide +kernel⟩

theorem met_SealCycle_1 :
    (∃ (s : State), s.umbra.up = true ∧ s.umbra.sealOpen = false ∧ s.umbra.shadow = none ∧ s.umbra.key = some 5 ∧ s.umbra.audit.length < 512) ∧
    (∃ (s : State), s.umbra.up = true ∧ s.umbra.sealOpen = true ∧ s.umbra.weigh = none ∧ s.umbra.shadow = some [(1, 8), (3, 60)] ∧ s.umbra.closing = [] ∧ s.umbra.key = some 5 ∧ s.umbra.audit.length < 512 ∧ wordsChanged [(1, 8), (3, 60)] s.umbra.params = 0) ∧
    (∃ (s : State), s.umbra.up = true ∧ s.umbra.sealOpen = true ∧ s.umbra.weigh = none ∧ s.umbra.shadow = some [(1, 7), (3, 1)] ∧ s.umbra.closing = [] ∧ s.umbra.key = some 5 ∧ s.umbra.audit.length < 512 ∧ wordsChanged [(1, 7), (3, 1)] s.umbra.params ≠ 0 ∧ firstBad [(1, 7), (3, 1)] = some 1) :=
  ⟨⟨isl { key := some 5, audit := List.replicate 511 [] }, by decide +kernel⟩,
   ⟨isl { key := some 5, sealOpen := true, shadow := some [(1, 8), (3, 60)], params := [(1, 8), (3, 60)] }, by decide +kernel⟩,
   ⟨isl { key := some 5, sealOpen := true, shadow := some [(1, 7), (3, 1)], params := [(1, 8), (3, 60)] }, by decide +kernel⟩⟩

theorem met_SealCycle_2 :
    (∃ (s : State), s.umbra.up = true ∧ s.umbra.sealOpen = true ∧ s.umbra.weigh = none ∧ s.umbra.shadow = some [(1, 250), (3, 1)] ∧ s.umbra.closing = [] ∧ s.umbra.key = some 5 ∧ s.umbra.audit.length < 512 ∧ wordsChanged [(1, 250), (3, 1)] s.umbra.params ≠ 0 ∧ firstBad [(1, 250), (3, 1)] = none) ∧
    (∃ (s : State), s.umbra.up = true ∧ s.umbra.sealOpen = true ∧ s.umbra.weigh = some { trig := 1 } ∧ s.umbra.shadow = some [(1, 7)]) :=
  ⟨⟨isl { key := some 5, sealOpen := true, shadow := some [(1, 250), (3, 1)], params := [(1, 8), (3, 60)] }, by decide +kernel⟩,
   ⟨isl { sealOpen := true, weigh := some { trig := 1 }, shadow := some [(1, 7)] }, by decide +kernel⟩⟩

theorem met_UmbraPortReads_1 :
    (∃ (s : State), s.umbra.up = true ∧ 5 < (s.umbra.slotRec 0 0).length ∧ decode28 (encode28 ((s.umbra.slotRec 0 0).getD 5 0) ^^^ ([0, 0, 0, 0, 0, 0x11] : List (BitVec 28)).getD 5 0) = .bad) ∧
    (∃ (s : State) (crc : Byte), s.umbra.up = true ∧ crc = crc8 [1]) ∧
    (∃ (s : State) (crc area : Byte) (ix : Word), s.umbra.up = true ∧ crc = crc8 ([2, area] ++ wordBytes ix) ∧ area = 0 ∧ ix.toNat < 512) :=
  ⟨⟨isl { audit := [List.replicate 16 9] }, by decide +kernel⟩,
   ⟨isl { key := some 5 }, _, by decide, by rfl⟩,
   ⟨isl { key := some 5 }, _, 0, 511, by decide, by rfl, by decide⟩⟩

theorem met_UmbraPortReads_2 :
    (∃ (s : State) (crc area : Byte) (ix : Word), s.umbra.up = true ∧ crc = crc8 ([2, area] ++ wordBytes ix) ∧ area = 1 ∧ ix.toNat < 7424) ∧
    (∃ (s : State) (crc area : Byte) (ix : Word), s.umbra.up = true ∧ crc = crc8 ([2, area] ++ wordBytes ix) ∧ 1 < area.toNat) ∧
    (∃ (s : State) (crc n : Byte) (ix : Word), s.umbra.up = true ∧ crc = crc8 ([3] ++ wordBytes ix ++ [n]) ∧ 1 ≤ n.toNat ∧ n.toNat ≤ 64) :=
  ⟨⟨isl { key := some 5 }, _, 1, 7423, by decide, by rfl, by decide⟩,
   ⟨isl { key := some 5 }, _, 2, 0, by decide, by rfl, by decide⟩,
   ⟨isl { key := some 5 }, _, 1, 0x17F, by decide, by rfl, by decide⟩⟩

theorem met_UmbraPortReads_3 :
    (∃ (s : State) (crc n : Byte) (ix : Word), s.umbra.up = true ∧ crc = crc8 ([3] ++ wordBytes ix ++ [n]) ∧ 1 ≤ n.toNat ∧ n.toNat ≤ 64) ∧
    (∃ (s : State) (crc area n : Byte) (ix : Word), s.umbra.up = true ∧ crc ≠ crc8 [1] ∧ crc ≠ crc8 ([2, area] ++ wordBytes ix) ∧ crc ≠ crc8 ([3] ++ wordBytes ix ++ [n])) ∧
    (∃ (s : State) (crc n : Byte) (ix : Word), s.umbra.up = true ∧ crc = crc8 ([3] ++ wordBytes ix ++ [n]) ∧ (n = 0 ∨ 64 < n.toNat)) :=
  ⟨⟨isl { key := some 5 }, _, 64, 0x17F, by decide, by rfl, by decide⟩,
   ⟨isl { key := some 5 }, 0, 0, 1, 5, by decide +kernel⟩,
   ⟨isl { key := some 5 }, _, 0, 0x17F, by decide, by rfl, by decide⟩⟩

theorem met_UmbraPortReads_4 :
    (∃ (s : State) (crc n : Byte) (ix : Word), s.umbra.up = true ∧ crc = crc8 ([3] ++ wordBytes ix ++ [n]) ∧ (n = 0 ∨ 64 < n.toNat)) ∧
    (∃ (s : State) (crc n : Byte) (ix : Word), s.umbra.up = true ∧ crc = crc8 ([3] ++ wordBytes ix ++ [n]) ∧ 1 ≤ n.toNat ∧ n.toNat ≤ 64 ∧ s.umbra.sealOpen = false) ∧
    (∃ (s : State) (crc op : Byte), s.umbra.up = true ∧ crc = crc8 [op] ∧ op = 0) :=
  ⟨⟨isl { key := some 5 }, _, 65, 0x17F, by decide, by rfl, by decide⟩,
   ⟨isl { key := some 5 }, _, 2, 0x17F, by decide, by rfl, by decide⟩,
   ⟨isl { key := some 5 }, _, 0, by decide, by rfl, by decide⟩⟩

theorem met_UmbraPortReads_5 :
    (∃ (s : State) (crc op : Byte), s.umbra.up = true ∧ crc = crc8 [op] ∧ 8 < op.toNat) ∧
    (∃ (s : State) (crc op : Byte), s.umbra.up = true ∧ crc ≠ crc8 [op] ∧ 8 < op.toNat) :=
  ⟨⟨isl { key := some 5 }, _, 9, by decide, by rfl, by decide⟩,
   ⟨isl { key := some 5 }, 0, 9, by decide +kernel⟩⟩

theorem met_UmbraPortWrites_1 :
    (∃ (s : State) (ws : List Word), s.umbra.up = true ∧ s.umbra.key = some 5 ∧ s.umbra.sealOpen = true ∧ s.umbra.audit.length < 512 ∧ s.umbra.shadow = some [] ∧ 1 ≤ ws.length ∧ ws.length ≤ 64 ∧ (∀ i, i < ws.length → paramListed (0x180 - ws.length + i) = true)) ∧
    (∃ (s : State) (ws : List Word), s.umbra.up = true ∧ s.umbra.key = some 5 ∧ s.umbra.sealOpen = true ∧ s.umbra.audit.length < 512 ∧ s.umbra.shadow = some [] ∧ 1 ≤ ws.length ∧ ws.length ≤ 64 ∧ (∀ i, i < ws.length → paramListed (0x180 - ws.length + i) = true)) ∧
    (∃ (s : State), s.umbra.up = true ∧ s.umbra.key = some 5 ∧ s.umbra.perr = false ∧ s.umbra.weigh = none ∧ s.umbra.trig = none) :=
  ⟨⟨isl { key := some 5, sealOpen := true, shadow := some [], audit := List.replicate 511 [] }, List.replicate 1 3, by decide +kernel⟩,
   ⟨isl { key := some 5, sealOpen := true, shadow := some [], audit := List.replicate 511 [] }, List.replicate 64 3, by decide +kernel⟩,
   ⟨isl { key := some 5 }, by decide +kernel⟩⟩

theorem met_UmbraPortWrites_2 :
    (∃ (s : State), s.umbra.up = true ∧ s.umbra.key = some 5 ∧ s.umbra.perr = false ∧ s.umbra.datNext < 7424) ∧
    (∃ (s : State), s.umbra.up = true ∧ s.umbra.key = some 5 ∧ ([1] : List Word).length < (2 : Byte).toNat) :=
  ⟨⟨isl { key := some 5, datNext := 7423 }, by decide +kernel⟩,
   ⟨isl { key := some 5 }, by decide +kernel⟩⟩

theorem met_UmbraKeyAndRefusals_1 :
    (∃ (s : State), s.umbra.up = true ∧ s.umbra.key = none ∧ s.umbra.sealOpen = true ∧ s.umbra.audit.length < 512) ∧
    (∃ (s : State), s.umbra.up = true ∧ s.umbra.key.isSome = true) ∧
    (∃ (s : State) (ws : List Word), s.umbra.up = true ∧ (s.umbra.sealOpen = false ∨ s.umbra.audit.length = 512) ∧ 1 ≤ ws.length ∧ ws.length ≤ 64 ∧ (∀ i, i < ws.length → paramListed (0xA + i) = true)) :=
  ⟨⟨isl { sealOpen := true }, by decide +kernel⟩,
   ⟨isl { key := some 5 }, by decide +kernel⟩,
   ⟨isl { key := some 5, sealOpen := false, audit := List.replicate 511 [] }, [1], by decide +kernel⟩⟩

theorem met_UmbraKeyAndRefusals_2 :
    ∃ (s : State) (ws : List Word), s.umbra.up = true ∧ (s.umbra.sealOpen = false ∨ s.umbra.audit.length = 512) ∧ 1 ≤ ws.length ∧ ws.length ≤ 64 ∧ (∀ i, i < ws.length → paramListed (0xA + i) = true) :=
  ⟨isl { key := some 5, sealOpen := true, audit := List.replicate 512 [] }, [1], by decide +kernel⟩

theorem met_UmbraDistance_1 :
    (∃ (s : State), s.umbra.up = true ∧ s.umbra.runs = true ∧ s.umbra.closing = [] ∧ inputOn s.umbra.params 0 = true) ∧
    (∃ (s : State), s.umbra.up = true ∧ s.umbra.runs = true ∧ s.umbra.closing = [] ∧ inputOn s.umbra.params 1 = true) ∧
    (∃ (s : State), s.umbra.up = true ∧ s.umbra.runs = true ∧ s.umbra.closing = [] ∧ inputOn s.umbra.params 0 = false) :=
  ⟨⟨isl { key := some 5, params := [(5, 3), (6, 9), (8, 9)] }, by decide +kernel⟩,
   ⟨isl { key := some 5, params := [(5, 3), (6, 9), (8, 9)] }, by decide +kernel⟩,
   ⟨isl { key := some 5, params := [(5, 0), (6, 9), (8, 9)] }, by decide +kernel⟩⟩

theorem met_UmbraDistance_2 :
    (∃ (s : State), s.umbra.up = true ∧ s.umbra.runs = true ∧ s.umbra.closing = [] ∧ inputOn s.umbra.params 1 = false) ∧
    (∃ (s : State), s.umbra.up = true ∧ s.umbra.key = some 5 ∧ s.umbra.utime.toNat % 3600 = 0 ∧ s.umbra.distBase < s.umbra.dist.toNat ∧ inputOn s.umbra.params 1 = false) ∧
    (∃ (s : State), s.umbra.up = true ∧ s.umbra.runs = true ∧ s.umbra.key = some 5 ∧ s.umbra.dist.toNat ≤ s.umbra.distBase) :=
  ⟨⟨isl { key := some 5, params := [(5, 0), (6, 9), (8, 9)] }, by decide +kernel⟩,
   ⟨isl { key := some 5, params := [(5, 1)], utime := 7200, dum0 := 2000000, distBase := 1 }, by decide +kernel⟩,
   ⟨isl { key := some 5, params := [(5, 1)], utime := 7200, dum0 := 2000000, distBase := 2 }, by decide +kernel⟩⟩

theorem met_UmbraDistance_3 :
    (∃ (s : State), s.umbra.up = true ∧ s.umbra.runs = true ∧ s.umbra.key = some 5 ∧ true ≠ s.umbra.cpl) ∧
    (∃ (s : State), s.umbra.up = true ∧ s.umbra.runs = true ∧ s.umbra.key = some 5 ∧ false ≠ s.umbra.cpl) :=
  ⟨⟨isl { key := some 5, cpl := false }, by decide +kernel⟩,
   ⟨isl { key := some 5, cpl := true }, by decide +kernel⟩⟩

theorem met_Weighing_1 :
    (∃ (s : State), s.umbra.up = true ∧ s.umbra.runs = true ∧ s.umbra.key = some 5 ∧ s.umbra.closing = [] ∧ s.umbra.input = 3 ∧ s.umbra.weigh = none ∧ s.umbra.trig = none) ∧
    (∃ (s : State), s.umbra.up = true ∧ s.umbra.runs = true ∧ s.umbra.key = some 5 ∧ s.umbra.closing = [] ∧ s.umbra.input = 0 ∧ s.umbra.weigh = none ∧ s.umbra.trig = some 2 ∧ lastChannel s.umbra.params ≠ 0) ∧
    (∃ (s : State), s.umbra.up = true ∧ s.umbra.runs = true ∧ s.umbra.key = some 5 ∧ s.umbra.closing = [] ∧ s.umbra.input = 2 ∧ s.umbra.weigh = some { trig := 1 } ∧ 2 ≠ lastChannel s.umbra.params) :=
  ⟨⟨isl { key := some 5, input := 3 }, by decide +kernel⟩,
   ⟨isl { key := some 5, trig := some 2, params := [(0, 3)] }, by decide +kernel⟩,
   ⟨isl { key := some 5, input := 2, weigh := some { trig := 1 }, params := [(0, 3)] }, by decide +kernel⟩⟩

theorem met_Weighing_2 :
    (∃ (s : State), s.umbra.up = true ∧ s.umbra.runs = true ∧ s.umbra.key = some 5 ∧ s.umbra.closing = [] ∧ s.umbra.input = 1 ∧ s.umbra.weigh = some { trig := 1, n := 7 } ∧ 1 = lastChannel s.umbra.params ∧ max 1 (paramN s.umbra.params 1) ≤ 7 + 1 ∧ loadOn s.umbra.params 2 = false) ∧
    (∃ (s : State), s.umbra.up = true ∧ s.umbra.runs = true ∧ s.umbra.key = some 5 ∧ s.umbra.closing = [] ∧ s.umbra.still = false ∧ s.umbra.weigh = none ∧ s.umbra.trig = none ∧ paramN s.umbra.params 4 ≤ s.umbra.dist.toNat - s.umbra.moveBase) ∧
    (∃ (s : State), s.umbra.up = true ∧ s.umbra.runs = true ∧ s.umbra.key = some 5 ∧ s.umbra.closing = [] ∧ s.umbra.still = false ∧ s.umbra.dist.toNat - s.umbra.moveBase < paramN s.umbra.params 4 ∧ s.umbra.cplSince = false) :=
  ⟨⟨isl { key := some 5, input := 1, weigh := some { trig := 1, n := 7 }, params := [(0, 3), (1, 8)] }, by decide +kernel⟩,
   ⟨isl { key := some 5, params := [(4, 2), (5, 1)], dum0 := 2000000 }, by decide +kernel⟩,
   ⟨isl { key := some 5, params := [(4, 3), (5, 1)], dum0 := 2000000 }, by decide +kernel⟩⟩

theorem met_MailboxCopies :
    (∃ (s : State), s.dev.runs = true ∧ s.dev.mbxIn = [[0x4100], []] ∧ s.dev.bit 0xC040 0 = true ∧ s.dev.mbxAt + 400000000 ≤ s.dev.cycles) ∧
    (∃ (s : State), s.dev.runs = true ∧ s.dev.mbxIn = [[]] ∧ s.dev.cycles < s.dev.mbxAt + 400000000) :=
  ⟨⟨on (fun d => ({ d with mbxIn := [[0x4100], []], mbxAt := 3600000000 }).put 0xC040 1), by decide +kernel⟩,
   ⟨on (fun d => { d with mbxIn := [[]], mbxAt := 3600000001 }), by decide +kernel⟩⟩

theorem met_ResetAsserted_1 :
    (∃ (s : State) (ns : Nat) (cut : CommitCut), 10000 ≤ ns ∧ s.dev.bist.run = none ∧ s.dev.lc.fuse = none ∧ cut = .none) ∧
    (∃ (s : State) (ns : Nat) (cut : CommitCut), 10000 ≤ ns ∧ s.dev.bist.run = none ∧ cut = .slot) ∧
    (∃ (s : State) (ns : Nat) (cut : CommitCut), ns < 100) :=
  ⟨⟨on id, 10000, .none, by decide +kernel⟩,
   ⟨on id, 10000, .slot, by decide +kernel⟩,
   ⟨on id, 99, .none, by decide +kernel⟩⟩

theorem met_ResetAsserted_2 :
    (∃ (s : State) (ns : Nat) (cut : CommitCut), 100 ≤ ns ∧ ns < 10000) ∧
    (∃ (s : State) (ns : Nat) (cut : CommitCut), 100 ≤ ns ∧ ns < 10000) ∧
    (∃ (s : State) (ns : Nat) (cut : CommitCut), 10000 ≤ ns ∧ s.dev.bist.run = none ∧ cut = .session ∧ s.dev.writing = some .session) :=
  ⟨⟨on id, 100, .none, by decide +kernel⟩,
   ⟨on id, 9999, .none, by decide +kernel⟩,
   ⟨on (fun d => { d with logWrote := some (.session, 4000000000) }), 10000, .session, by decide +kernel⟩⟩

theorem met_ResetAsserted_3 :
    ∃ (s : State) (ns : Nat) (cut : CommitCut), 10000 ≤ ns ∧ s.dev.bist.run = none ∧ cut = .repair ∧ s.dev.writing = some .repair :=
  ⟨on (fun d => { d with logWrote := some (.repair, 4000000000) }), 10000, .repair, by decide +kernel⟩

theorem met_StartSteps_1 :
    (∃ (s : State), s.dev.resetN = false) ∧
    (∃ (s : State), s.dev.resetN = true ∧ s.dev.everLock = false ∧ s.dev.portsIdle = true) ∧
    (∃ (s : State), s.dev.runs = true ∧ s.dev.loader.step = 2 ∧ s.dev.bit 0x800 3 = true ∧ s.dev.bit 0x801 3 = false ∧ s.dev.power.lastOn = none) :=
  ⟨⟨on (fun d => { d with resetN := false, locked := false }), by decide +kernel⟩,
   ⟨on (fun d => { d with locked := false, everLock := false }), by decide +kernel⟩,
   ⟨on (fun d => { d with loader := { step := 2 } }), by decide +kernel⟩⟩

theorem met_StartSteps_2 :
    (∃ (s : State), s.dev.runs = true ∧ s.dev.loader.step = 3 ∧ s.dev.domRdy 3 = true ∧ (s.dev.lcState = 4 → s.dev.fuses.erased = true) ∧ s.dev.devLog.session = some 3 ∧ s.dev.devLog.sesMark = commitWord [3] ∧ s.dev.tested = false ∧ s.dev.devLog.newest = some { gen := 1, pendWr := false, old := false, wptr := 9, written := 9, readable := 9, overwr := 0, disc := 0, wrap := false, full := false, commit := commitWord [1, 0, 9, 0, 9, 0, 9, 0, 0, 0, 0, 0] }) ∧
    (∃ (s : State), s.dev.runs = true ∧ s.dev.loader.step = 3 ∧ s.dev.domRdy 3 = true ∧ (s.dev.lcState = 4 → s.dev.fuses.erased = true) ∧ s.dev.devLog.session = none) :=
  ⟨⟨on (fun d => ({ d with loader := { step := 3 }, devLog := { d.devLog with session := some 3, sesMark := commitWord [3], copyA := some { gen := 1, pendWr := false, old := false, wptr := 9, written := 9, readable := 9, overwr := 0, disc := 0, wrap := false, full := false, commit := commitWord [1, 0, 9, 0, 9, 0, 9, 0, 0, 0, 0, 0] } } }).put 0x802 8), by decide +kernel⟩,
   ⟨on (fun d => ({ d with loader := { step := 3 } }).put 0x802 8), by decide +kernel⟩⟩

theorem met_FlashDiscovery :
    (∃ (s : State) (f : Sfdp), s.dev.runs = true ∧ s.dev.loader.step = 4 ∧ s.dev.cfgPhase = 1 ∧ s.dev.memMay = true ∧ sfOk f = true) ∧
    (∃ (s : State) (f : Sfdp), s.dev.runs = true ∧ s.dev.loader.step = 4 ∧ s.dev.cfgPhase = 1 ∧ s.dev.memMay = true ∧ sfOk f = false) :=
  ⟨⟨on (fun d => ({ d with loader := { step := 4 }, mem := { mastering := true } }).put 0x40 1), { signature := 0x50444653, table := 0, major := 1, minor := 7, dwords := List.replicate 9 0 }, by decide +kernel⟩,
   ⟨on (fun d => ({ d with loader := { step := 4 }, mem := { mastering := true } }).put 0x40 1), { signature := 0x50444652, table := 0, major := 1, minor := 7, dwords := List.replicate 9 0 }, by decide +kernel⟩⟩

theorem met_PassOne_1 :
    (∃ (s : State) (ws : List Word), s.dev.runs = true ∧ s.dev.loader.step = 4 ∧ s.dev.cfgPhase = 2 ∧ s.dev.loader.sel = 0 ∧ s.dev.memMay = true ∧ slotFail s.dev.part s.dev.fuses s.dev.mirror.id ws = none) ∧
    (∃ (s : State) (ws : List Word), s.dev.runs = true ∧ s.dev.loader.step = 4 ∧ s.dev.cfgPhase = 2 ∧ s.dev.loader.sel = 0 ∧ s.dev.memMay = true ∧ slotFail s.dev.part s.dev.fuses s.dev.mirror.id ws = some (5, 0)) ∧
    (∃ (s : State) (ws : List Word), s.dev.runs = true ∧ s.dev.loader.step = 4 ∧ s.dev.cfgPhase = 2 ∧ s.dev.loader.sel = 1 ∧ s.dev.memMay = true ∧ slotFail s.dev.part s.dev.fuses s.dev.mirror.id ws = none ∧ s.dev.loader.ok0 = true ∧ (img32 ws 4).toNat ≤ s.dev.loader.seq0.toNat) :=
  ⟨⟨on (fun d => ({ d with loader := { step := 4, sel := 0, ok0 := false, seq0 := 7 }, mem := { mastering := true } }).put 0x40 2), image, by decide +kernel⟩,
   ⟨on (fun d => ({ d with loader := { step := 4, sel := 0, ok0 := false, seq0 := 7 }, mem := { mastering := true } }).put 0x40 2), [0x4F54, 1], by decide +kernel⟩,
   ⟨on (fun d => ({ d with loader := { step := 4, sel := 1, ok0 := true, seq0 := 7 }, mem := { mastering := true } }).put 0x40 2), image, by decide +kernel⟩⟩

theorem met_PassOne_2 :
    (∃ (s : State) (ws : List Word), s.dev.runs = true ∧ s.dev.loader.step = 4 ∧ s.dev.cfgPhase = 2 ∧ s.dev.loader.sel = 1 ∧ s.dev.memMay = true ∧ slotFail s.dev.part s.dev.fuses s.dev.mirror.id ws = none ∧ s.dev.loader.ok0 = false) ∧
    (∃ (s : State) (ws : List Word), s.dev.runs = true ∧ s.dev.loader.step = 4 ∧ s.dev.cfgPhase = 2 ∧ s.dev.loader.sel = 1 ∧ s.dev.memMay = true ∧ slotFail s.dev.part s.dev.fuses s.dev.mirror.id ws = some (5, 0) ∧ s.dev.loader.ok0 = true) ∧
    (∃ (s : State) (ws : List Word), s.dev.runs = true ∧ s.dev.loader.step = 4 ∧ s.dev.cfgPhase = 2 ∧ s.dev.loader.sel = 1 ∧ s.dev.memMay = true ∧ slotFail s.dev.part s.dev.fuses s.dev.mirror.id ws = some (5, 0) ∧ s.dev.loader.ok0 = false) :=
  ⟨⟨on (fun d => ({ d with loader := { step := 4, sel := 1, ok0 := false, seq0 := 7 }, mem := { mastering := true } }).put 0x40 2), image, by decide +kernel⟩,
   ⟨on (fun d => ({ d with loader := { step := 4, sel := 1, ok0 := true, seq0 := 7 }, mem := { mastering := true } }).put 0x40 2), [0x4F54, 1], by decide +kernel⟩,
   ⟨on (fun d => ({ d with loader := { step := 4, sel := 1, ok0 := false, seq0 := 7 }, mem := { mastering := true } }).put 0x40 2), [0x4F54, 1], by decide +kernel⟩⟩

theorem met_PassTwo_1 :
    (∃ (s : State), s.dev.runs = true ∧ s.dev.loader.step = 4 ∧ s.dev.cfgPhase = 3 ∧ s.dev.loader.sel ≤ 1 ∧ s.dev.bist.run = none ∧ s.dev.memMay = true ∧ s.dev.loader.waitUntil = none ∧ (s.dev.restSections image).map (fun x => (x.ty, x.applies s.dev.mirror.id, x.crcOk, x.crc)) = [(4, true, true, s.dev.pass1Crcs.getD s.dev.loader.sect 0)]) ∧
    (∃ (s : State), s.dev.runs = true ∧ s.dev.loader.step = 4 ∧ s.dev.cfgPhase = 3 ∧ s.dev.loader.sel ≤ 1 ∧ s.dev.bist.run = none ∧ s.dev.memMay = true ∧ s.dev.loader.waitUntil = none ∧ s.dev.restSections image = [] ∧ s.dev.pass1Mac = none ∧ s.dev.loader.defer = []) ∧
    (∃ (s : State), s.dev.runs = true ∧ s.dev.loader.step = 4 ∧ s.dev.cfgPhase = 3 ∧ s.dev.loader.sel ≤ 1 ∧ s.dev.bist.run = none ∧ s.dev.memMay = true ∧ s.dev.loader.waitUntil = none ∧ (s.dev.restSections mod1Image).map (fun x => x.applies s.dev.mirror.id) = [false] ∧ (s.dev.restSections mod1Image).map (fun x => decide (s.dev.pass1Crcs.getD s.dev.loader.sect 0 = x.crc)) = [false]) :=
  ⟨⟨on (fun d => ({ d with loader := { step := 4, crcs0 := [crc32 (bytesOf waitSec)] }, mem := { mastering := true } }).put 0x40 3), by decide +kernel⟩,
   ⟨on (fun d => ({ d with loader := { step := 4, crcs0 := [crc32 (bytesOf waitSec)], sect := 1 }, mem := { mastering := true } }).put 0x40 3), by decide +kernel⟩,
   ⟨on (fun d => ({ d with loader := { step := 4, sel := 1, crcs1 := [0] }, mirror := { d.mirror with id := true }, mem := { mastering := true } }).put 0x40 3), by decide +kernel⟩⟩

theorem met_PassTwo_2 :
    (∃ (s : State), s.dev.runs = true ∧ s.dev.loader.step = 4 ∧ s.dev.cfgPhase = 3 ∧ s.dev.loader.sel ≤ 1 ∧ s.dev.bist.run = none ∧ s.dev.loader.waitUntil = some 4000000000) ∧
    (∃ (s : State), s.dev.runs = true ∧ s.dev.loader.step = 4 ∧ s.dev.cfgPhase = 3 ∧ s.dev.loader.sel ≤ 1 ∧ s.dev.bist.run = none ∧ s.dev.loader.waitUntil = some 4000000001) ∧
    (∃ (s : State) (t : BitVec 128), s.dev.runs = true ∧ s.dev.loader.step = 4 ∧ s.dev.cfgPhase = 3 ∧ s.dev.loader.sel ≤ 1 ∧ s.dev.bist.run = none ∧ s.dev.memMay = true ∧ s.dev.loader.waitUntil = none ∧ s.dev.restSections hdrOnly = [] ∧ s.dev.pass1Mac = some t ∧ imageMac s.dev.fuses.imageKey (hdrOnly.take (bodyLen (readSections s.dev.pass1Crcs.length (hdrOnly.drop 16)).1)) = t ∧ s.dev.loader.defer = []) :=
  ⟨⟨on (fun d => ({ d with loader := { step := 4, waitUntil := some 4000000000 } }).put 0x40 3), by decide +kernel⟩,
   ⟨on (fun d => ({ d with loader := { step := 4, waitUntil := some 4000000001 } }).put 0x40 3), by decide +kernel⟩,
   ⟨on (fun d => ({ d with loader := { step := 4, crcs0 := [], sect := 0, defer := [], mac0 := some (imageMac 0 (hdrOnly.take (bodyLen (readSections 0 (hdrOnly.drop 16)).1))) }, mem := { mastering := true } }).put 0x40 3), _, by decide +kernel, by decide +kernel, by decide +kernel, by decide +kernel, by decide +kernel, by decide +kernel, by decide +kernel, by decide +kernel, by rfl, by decide +kernel, by decide +kernel⟩⟩

theorem met_PassTwo_3 :
    (∃ (s : State) (t : BitVec 128), s.dev.runs = true ∧ s.dev.loader.step = 4 ∧ s.dev.cfgPhase = 3 ∧ s.dev.loader.sel ≤ 1 ∧ s.dev.bist.run = none ∧ s.dev.memMay = true ∧ s.dev.loader.waitUntil = none ∧ s.dev.restSections hdrOnly = [] ∧ s.dev.pass1Mac = some t ∧ imageMac s.dev.fuses.imageKey (hdrOnly.take (bodyLen (readSections s.dev.pass1Crcs.length (hdrOnly.drop 16)).1)) ≠ t) ∧
    (∃ (s : State), s.dev.runs = true ∧ s.dev.loader.step = 4 ∧ s.dev.cfgPhase = 3 ∧ s.dev.loader.sel ≤ 1 ∧ s.dev.bist.run = none ∧ s.dev.memMay = true ∧ s.dev.loader.waitUntil = none ∧ (s.dev.restSections (hdrOnly ++ withCrc (oneWord 0x2408 7))).map (fun x => (x.applies s.dev.mirror.id && x.ty != 4 && x.crcOk && s.dev.pass1Crcs.getD s.dev.loader.sect 0 == x.crc, x.writes)) = [(true, [(0x2408, 7)])] ∧ s.dev.pass1Mac = none ∧ s.dev.loader.defer = [] ∧ deferField 0x2408 = none ∧ s.dev.writeOk 5 0x2408 = true ∧ (regRow 0x2408).isSome = true ∧ s.dev.absent 0x2408 = false ∧ plainWord 0x2408 = true ∧ s.dev.locked' = false) ∧
    (∃ (s : State), s.dev.runs = true ∧ s.dev.loader.step = 4 ∧ s.dev.cfgPhase = 3 ∧ s.dev.loader.sel ≤ 1 ∧ s.dev.bist.run = none ∧ s.dev.memMay = true ∧ s.dev.loader.waitUntil = none ∧ (s.dev.restSections (hdrOnly ++ withCrc (oneWord 0x19 1))).map (fun x => (x.applies s.dev.mirror.id && x.ty != 4 && x.crcOk && s.dev.pass1Crcs.getD s.dev.loader.sect 0 == x.crc, x.writes)) = [(true, [(aGrp 1 1, 1)])] ∧ s.dev.pass1Mac = none ∧ s.dev.loader.defer = [] ∧ s.dev.hasGrp 1 = true ∧ s.dev.writeOk 5 0x19 = true ∧ s.dev.runBlocked = false) :=
  ⟨⟨on (fun d => ({ d with loader := { step := 4, crcs0 := [], sect := 0, defer := [], mac0 := some 5 }, mem := { mastering := true } }).put 0x40 3), 5, by decide +kernel⟩,
   ⟨on (fun d => ({ d with loader := { step := 4, crcs0 := [crc32 (bytesOf (oneWord 0x2408 7))], sect := 0, defer := [], mac0 := none }, mem := { mastering := true } }).put 0x40 3), by decide +kernel⟩,
   ⟨on (fun d => ({ d with loader := { step := 4, crcs0 := [crc32 (bytesOf (oneWord 0x19 1))], sect := 0, defer := [], mac0 := none }, mem := { mastering := true } }).put 0x40 3), by decide +kernel⟩⟩

theorem met_PassTwo_4 :
    (∃ (s : State), s.dev.runs = true ∧ s.dev.loader.step = 4 ∧ s.dev.cfgPhase = 3 ∧ s.dev.loader.sel ≤ 1 ∧ s.dev.bist.run = none ∧ s.dev.memMay = true ∧ s.dev.loader.waitUntil = none ∧ (s.dev.restSections (hdrOnly ++ withCrc (oneWord 0x19 1) ++ withCrc waitSec)).map (fun x => (x.applies s.dev.mirror.id && x.crcOk && s.dev.pass1Crcs.contains x.crc, x.ty == 4, x.writes)) = [(true, false, [(aGrp 1 1, 1)]), (true, true, [])] ∧ s.dev.hasGrp 1 = true ∧ s.dev.writeOk 5 (aGrp 1 1) = true) ∧
    (∃ (s : State), s.dev.runs = true ∧ s.dev.loader.step = 4 ∧ s.dev.cfgPhase = 3 ∧ s.dev.loader.sel ≤ 1 ∧ s.dev.bist.run = none ∧ s.dev.memMay = true ∧ s.dev.loader.waitUntil = none ∧ s.dev.restSections hdrOnly = [] ∧ s.dev.pass1Mac = none ∧ s.dev.loader.defer = [(0xF, 5)] ∧ s.dev.writeOk 5 0xF = true ∧ s.dev.runBlocked = false) ∧
    (∃ (s : State), s.dev.runs = true ∧ s.dev.loader.step = 4 ∧ s.dev.cfgPhase = 3 ∧ s.dev.loader.sel ≤ 1 ∧ s.dev.bist.run = none ∧ s.dev.memMay = true ∧ s.dev.loader.waitUntil = none ∧ s.dev.restSections hdrOnly = [] ∧ s.dev.pass1Mac = none ∧ s.dev.loader.defer = [(BitVec.ofNat 24 (aMot 3 0), 1)] ∧ s.dev.writeOk 5 (aMot 3 0) = true ∧ s.dev.hasMot 3 = true) :=
  ⟨⟨on (fun d => ({ d with loader := { step := 4, crcs0 := [crc32 (bytesOf (oneWord 0x19 1)), crc32 (bytesOf waitSec)], sect := 0, defer := [], mac0 := none }, mem := { mastering := true } }).put 0x40 3), by decide +kernel⟩,
   ⟨on (fun d => ({ d with loader := { step := 4, crcs0 := [], sect := 0, defer := [(0xF, 5)], mac0 := none }, mem := { mastering := true } }).put 0x40 3), by decide +kernel⟩,
   ⟨on (fun d => ({ d with loader := { step := 4, crcs0 := [], sect := 0, defer := [(BitVec.ofNat 24 (aMot 3 0), 1)], mac0 := none }, mem := { mastering := true } }).put 0x40 3), by decide +kernel⟩⟩

theorem met_ConfigurationCommands :
    (∃ (s : State), s.dev.writeOk 0 0x4B = true ∧ s.dev.cfgPhase = 5 ∧ s.dev.bit 0x40 14 = false) ∧
    (∃ (s : State), s.dev.writeOk 0 0x4B = true ∧ s.dev.cfgPhase = 6 ∧ s.dev.bit 0x40 14 = false) :=
  ⟨⟨on (fun d => d.put 0x40 5), by decide +kernel⟩,
   ⟨on (fun d => d.put 0x40 6), by decide +kernel⟩⟩

theorem met_CoreClockLossAndReturn :
    (∃ (s : State), s.dev.runs = true) ∧
    (∃ (s : State), s.dev.resetN = true ∧ s.dev.everLock = true ∧ s.dev.locked = false ∧ s.dev.bist.run = none) :=
  ⟨⟨on (fun d => d), by decide +kernel⟩,
   ⟨on (fun d => { d with locked := false, heldOff := true }), by decide +kernel⟩⟩

theorem met_DeviceFaults_1 :
    (∃ (s : State), s.dev.runs = true ∧ s.dev.bist.run = none ∧ s.dev.faultAt = some 3999999936 ∧ s.dev.cycles ≤ 3999999936 + 64) ∧
    (∃ (s : State), s.dev.runs = true ∧ s.dev.bist.run = none ∧ s.dev.faultAt = some 3999999935 ∧ 3999999935 + 64 < s.dev.cycles) ∧
    (∃ (s : State), s.dev.runs = true ∧ (s.dev.mot 15).state = .fault ∧ (s.dev.mot 15).devFault = true ∧ s.dev.bit 0x33 15 = true ∧ (s.dev.mot 15).devHeld = some 1 ∧ max 1 (s.dev.fld 0x33 7 0) ≤ 1) :=
  ⟨⟨on (fun d => { d with faultAt := some 3999999936 }), by decide +kernel⟩,
   ⟨on (fun d => { d with faultAt := some 3999999935 }), by decide +kernel⟩,
   ⟨on (fun d => (d.put 0x33 0x8000).onMot 15 (fun x => { x with state := MState.fault, devFault := true, devHeld := some 1 })), by decide +kernel⟩⟩

theorem met_DeviceFaults_2 :
    ∃ (s : State), s.dev.runs = true ∧ (s.dev.mot 15).state = .fault ∧ (s.dev.mot 15).devFault = true ∧ s.dev.bit 0x33 15 = true ∧ (s.dev.mot 15).devHeld = some 0 ∧ 0 < max 1 (s.dev.fld 0x33 7 0) :=
  ⟨on (fun d => (d.put 0x33 0x8000).onMot 15 (fun x => { x with state := MState.fault, devFault := true, devHeld := some 0 })), by decide +kernel⟩

theorem met_CodeWords_1 :
    (∃ (c : BitVec 28), syndrome c 0 = 0 ∧ syndrome c 1 = 0 ∧ syndrome c 2 = 0) ∧
    (∃ (c : BitVec 28) (i : Fin 7), syndrome c 0 ≠ 0 ∧ syndrome c 1 ≠ 0 ∧ syndrome c 2 ≠ 0 ∧ gfMul (syndrome c 1) (syndrome c 1) = gfMul (syndrome c 0) (syndrome c 2) ∧ syndrome c 1 = gfMul (syndrome c 0) (gfPow i.1)) ∧
    (∃ (c : BitVec 28), ¬ (syndrome c 0 = 0 ∧ syndrome c 1 = 0 ∧ syndrome c 2 = 0) ∧ ¬ (syndrome c 0 ≠ 0 ∧ syndrome c 1 ≠ 0 ∧ syndrome c 2 ≠ 0 ∧ gfMul (syndrome c 1) (syndrome c 1) = gfMul (syndrome c 0) (syndrome c 2) ∧ ∃ i : Fin 7, syndrome c 1 = gfMul (syndrome c 0) (gfPow i.1))) :=
  ⟨⟨0xB2D05DC, by decide +kernel⟩,
   ⟨0xB2D05DF, 3, by decide +kernel⟩,
   ⟨0xB2D05FF, by decide +kernel⟩⟩

theorem met_CodeWords_2 :
    ∃ (k l : Fin 7) (e f : BitVec 4), k ≠ l ∧ e ≠ 0 ∧ f ≠ 0 :=
  ⟨0, 6, 1, 15, by decide +kernel⟩

theorem met_Scrubbing_1 :
    (∃ (s : State), s.dev.runs = true ∧ s.dev.scrubNext < 0x10000 ∧ decode28 (encode28 (s.dev.w s.dev.scrubNext) ^^^ 0) = .clean 10000) ∧
    (∃ (s : State), s.dev.runs = true ∧ s.dev.scrubNext < 0x10000 ∧ decode28 (encode28 (s.dev.w s.dev.scrubNext) ^^^ 0x5) = .corrected 10000) ∧
    (∃ (s : State), s.dev.runs = true ∧ s.dev.scrubNext < 0x10000 ∧ decode28 (encode28 (s.dev.w s.dev.scrubNext) ^^^ 0x11) = .bad) :=
  ⟨⟨on (fun d => { d with scrubPos := 0x18 }), by decide +kernel⟩,
   ⟨on (fun d => { d with scrubPos := 0x18 }), by decide +kernel⟩,
   ⟨on (fun d => { d with scrubPos := 0x18 }), by decide +kernel⟩⟩

theorem met_Scrubbing_2 :
    ∃ (s : State), s.dev.runs = true ∧ s.dev.backs = [(0x11, 7)] :=
  ⟨on (fun d => { d with backs := [(0x11, 7)] }), by decide +kernel⟩

theorem met_GroupFrames_1 :
    (∃ s : State, s.dev.runs = true ∧ (s.dev.grp 0).running = true ∧ (s.dev.grp 0).frameAt + (s.dev.grp 0).period ≤ s.dev.cycles ∧ s.dev.bit (aGrp 0 1) 0 = true) ∧
    (∃ s : State, s.dev.runs = true ∧ (s.dev.grp 0).running = true ∧ (s.dev.grp 0).frameAt + (s.dev.grp 0).period ≤ s.dev.cycles ∧ s.dev.bit (aGrp 0 1) 0 = false) ∧
    (∃ s : State, s.dev.runs = true ∧ (s.dev.grp 0).running = true ∧ s.dev.cycles < (s.dev.grp 0).frameAt + (s.dev.grp 0).period) :=
  ⟨⟨on (fun d => ((d).onGrp 0 (fun x => { x with running := true, frameAt := 3999990000, period := 10000 })).putB 0x11 0 true), by decide +kernel⟩,
   ⟨on (fun d => ((d).onGrp 0 (fun x => { x with running := true, frameAt := 3999990000, period := 10000 })).putB 0x11 0 false), by decide +kernel⟩,
   ⟨on (fun d => (d).onGrp 0 (fun x => { x with running := true, frameAt := 3999990017, period := 10000 })), by decide +kernel⟩⟩

theorem met_GroupFrames_2 :
    (∃ s : State, s.dev.runs = true ∧ (s.dev.grp 0).running = true ∧ (s.dev.grp 0).deadline = false ∧ (s.dev.grp 0).frameAt + (s.dev.grp 0).period ≤ s.dev.cycles + 16) ∧
    (∃ s : State, s.dev.runs = true ∧ (s.dev.grp 0).running = true ∧ (s.dev.grp 0).deadline = false ∧ (s.dev.grp 0).frameAt + (s.dev.grp 0).period ≤ s.dev.cycles + 16) ∧
    (∃ s : State, s.dev.runs = true ∧ (s.dev.grp 0).running = true ∧ (s.dev.grp 0).granted = false ∧ s.dev.grantTick 0 ≤ s.dev.frameTick 0 ∧ s.dev.throttled 0 = false ∧ s.dev.bit 0xE002 8 = false) :=
  ⟨⟨on (fun d => ((((d).onGrp 0 (fun x => { x with running := true, frameAt := 3999990000, period := 10000 })).onGrp 0 (fun x => { x with deadline := false, frameAt := 3999990016 })).onMot 1 (fun x => { x with out := some (5, true) })).onMot 2 (fun x => { x with out := none })), by decide +kernel⟩,
   ⟨on (fun d => ((((d).onGrp 0 (fun x => { x with running := true, frameAt := 3999990000, period := 10000 })).onGrp 0 (fun x => { x with deadline := false, frameAt := 3999990016 })).onMot 1 (fun x => { x with out := some (5, true), loopRun := false })).onMot 2 (fun x => { x with out := none })), by decide +kernel⟩,
   ⟨on (fun d => (((((d).onGrp 0 (fun x => { x with running := true, frameAt := 3999990016, period := 10000, granted := false })).put 0x12 3900).putB 0xE002 8 false).put 0x1001 0).onGrp 0 (fun x => { x with grantPt := 3900 })), by decide +kernel⟩⟩

theorem met_GroupFrames_3 :
    (∃ s : State, s.dev.runs = true ∧ (s.dev.grp 0).running = true ∧ (s.dev.grp 0).granted = true) ∧
    (∃ s : State, s.dev.runs = true ∧ (s.dev.grp 0).running = true ∧ (s.dev.grp 0).granted = true) ∧
    (∃ s : State, s.dev.runs = true ∧ (s.dev.grp 0).running = true ∧ (s.dev.grp 0).frameAt + (s.dev.grp 0).period ≤ s.dev.cycles ∧ s.dev.bit (aGrp 0 1) 0 = true ∧ s.dev.prmOn 0 = true ∧ s.dev.domRdy (prismDom 0) = true ∧ (s.dev.grp 0).pend.isSome = true ∧ (s.dev.mot 1).state = .run ∧ (s.dev.mot 1).toApply (s.dev.grp 0).deadline = some (5, true) ∧ (s.dev.acc 0 3).frame = true ∧ (s.dev.acc 0 3).closed = false ∧ (s.dev.acc 0 3).waits = false ∧ s.dev.readsAcc 1 3 = true) :=
  ⟨⟨on (fun d => ((d).onGrp 0 (fun x => { x with running := true, frameAt := 3999990000, period := 10000 })).onGrp 0 (fun x => { x with granted := true })), by decide +kernel⟩,
   ⟨on (fun d => ({ d with power := { d.power with prismLock := true } }).onGrp 0 (fun x => { x with running := true, granted := true })), by decide +kernel⟩,
   ⟨on (fun d => ((((((({ ({ d with inForce := ((d.put 0x2500 0x40).put 0x2540 3).words } : Dev) with power := { d.power with prismLock := true } }).put 0x801 0x3FD).put 0x802 0x3F8).onGrp 0 (fun x => { x with running := true, frameAt := 3999990000, period := 10000 })).putB 0x11 0 true).onAcc 0 3 (fun x => { x with waits := false, frame := true })).onGrp 0 (fun x => { x with deadline := true, pend := some { total := 700, free := 9, grant := #v[1, 20, 300, 4000] } })).onMot 1 (fun x => { x with state := MState.run, ready := some (5, true) })), by decide +kernel⟩⟩

theorem met_GroupFrames_4 :
    (∃ s : State, s.dev.runs = true ∧ (s.dev.grp 0).running = true ∧ (s.dev.grp 0).frameAt + (s.dev.grp 0).period ≤ s.dev.cycles ∧ s.dev.bit (aGrp 0 1) 0 = true ∧ (s.dev.grp 0).pend = none ∧ (s.dev.grp 0).deadline = true ∧ (s.dev.mot 1).state = .run ∧ (s.dev.mot 1).toApply (s.dev.grp 0).deadline = none) ∧
    (∃ s : State, s.dev.runs = true ∧ (s.dev.grp 0).running = true ∧ (s.dev.grp 0).deadline = false ∧ (s.dev.grp 0).frameAt + (s.dev.grp 0).period ≤ s.dev.cycles + 16 ∧ s.dev.member 1 = true ∧ (s.dev.mot 1).out = some (5, true) ∧ (s.dev.mot 1).loopRun = false) ∧
    (∃ s : State, s.dev.runs = true ∧ (s.dev.grp 0).running = true ∧ (s.dev.grp 0).granted = false ∧ s.dev.grantTick 0 ≤ s.dev.frameTick 0 ∧ bitOf (s.dev.w0 0xE002) (8 + (0 : GroupIx).1) = false ∧ s.dev.throttled 0 = true ∧ (s.dev.mot 1).req = some (77, true)) :=
  ⟨⟨on (fun d => (((({ d with power := { d.power with prismLock := true } }).onGrp 0 (fun x => { x with running := true, frameAt := 3999990000, period := 10000 })).putB 0x11 0 true).onGrp 0 (fun x => { x with deadline := true })).onMot 1 (fun x => { x with state := MState.run })), by decide +kernel⟩,
   ⟨on (fun d => (((((({ d with power := { d.power with prismLock := true } }).onGrp 0 (fun x => { x with running := true, frameAt := 3999990000, period := 10000 })).onGrp 0 (fun x => { x with frameAt := 3999990016 })).put 0x6000 0x8000).putF 0x6008 9 8 1).putB 0x2400 0 true).onMot 1 (fun x => { x with state := MState.run, out := some (5, true) })), by decide +kernel⟩,
   ⟨on (fun d => let d := (((({ d with power := { d.power with prismLock := true } }).onGrp 0 (fun x => { x with running := true, frameAt := 3999990016, period := 10000, grantPt := 3900 })).put 0x12 3900).put 0x1001 0x20).onMot 1 (fun x => { x with state := MState.run, req := some (77, true) }); { d with cyc0 := d.words }), by decide +kernel⟩⟩

theorem met_GroupFrames_5 :
    ∃ s : State, s.dev.runs = true ∧ (s.dev.grp 0).running = true ∧ (s.dev.grp 0).granted = false ∧ s.dev.grantTick 0 ≤ s.dev.frameTick 0 ∧ bitOf (s.dev.w0 0xE002) (8 + (0 : GroupIx).1) = false ∧ s.dev.throttled 0 = false ∧ (s.dev.mot 1).req = some (77, true) :=
  ⟨on (fun d => let d := (((({ d with power := { d.power with prismLock := true } }).onGrp 0 (fun x => { x with running := true, frameAt := 3999990016, period := 10000, grantPt := 3900 })).put 0x12 3900).put 0x1001 0).onMot 1 (fun x => { x with state := MState.run, req := some (77, true) }); { d with cyc0 := d.words }), by decide +kernel⟩

theorem met_CreditsConserved_1 :
    (∃ (asks : Vector Ask 4) (pool : Nat) (j : Fin 4), asks[j].mem = false) ∧
    (∃ (asks : Vector Ask 4) (pool : Nat) (j : Fin 4), (∀ i : Fin 4, asks[i].cls < 4 ∧ asks[i].ceil ≤ 4095) ∧ asks[j].mem = true ∧ ((List.finRange 4).map (fun i => if asks[i].mem ∧ asks[i].cls < asks[j].cls + 1 then min asks[i].req asks[i].ceil - (grants asks pool true (Vector.replicate 4 0)).1.1[i] else 0)).sum = (grants asks pool true (Vector.replicate 4 0)).1.2) ∧
    (∃ (asks : Vector Ask 4) (pool : Nat) (j : Fin 4), (∀ i : Fin 4, asks[i].cls < 4 ∧ asks[i].ceil ≤ 4095) ∧ asks[j].mem = true ∧ (grants asks pool true (Vector.replicate 4 0)).1.2 < ((List.finRange 4).map (fun i => if asks[i].mem ∧ asks[i].cls < asks[j].cls then min asks[i].req asks[i].ceil - (grants asks pool true (Vector.replicate 4 0)).1.1[i] else 0)).sum) :=
  ⟨⟨Vector.replicate 4 { mem := false, cls := 0, floor := 0, ceil := 0, req := 0 }, 0, 3, by decide +kernel⟩,
   ⟨#v[⟨true, 1, 10, 40, 60⟩, ⟨true, 1, 10, 20, 20⟩, ⟨false, 0, 9, 9, 9⟩, ⟨true, 2, 0, 30, 30⟩], 60, 0, by decide +kernel⟩,
   ⟨#v[⟨true, 1, 10, 40, 60⟩, ⟨true, 1, 10, 20, 20⟩, ⟨false, 0, 9, 9, 9⟩, ⟨true, 2, 0, 30, 30⟩], 59, 3, by decide +kernel⟩⟩

theorem met_CreditsConserved_2 :
    ∃ (asks : Vector Ask 4) (pool : Nat) (j : Fin 4), (∀ i : Fin 4, asks[i].cls < 4 ∧ asks[i].ceil ≤ 4095) ∧ asks[j].mem = true ∧ ((List.finRange 4).map (fun i => if asks[i].mem ∧ asks[i].cls < asks[j].cls then min asks[i].req asks[i].ceil - (grants asks pool true (Vector.replicate 4 0)).1.1[i] else 0)).sum ≤ (grants asks pool true (Vector.replicate 4 0)).1.2 ∧ (grants asks pool true (Vector.replicate 4 0)).1.2 + 1 = ((List.finRange 4).map (fun i => if asks[i].mem ∧ asks[i].cls < asks[j].cls + 1 then min asks[i].req asks[i].ceil - (grants asks pool true (Vector.replicate 4 0)).1.1[i] else 0)).sum :=
  ⟨#v[⟨true, 1, 10, 40, 60⟩, ⟨true, 1, 10, 20, 20⟩, ⟨false, 0, 9, 9, 9⟩, ⟨true, 2, 0, 30, 30⟩], 59, 0, by decide +kernel⟩

theorem met_LoopComputations_1 :
    (∃ (lo hi : Int), lo ≤ hi) ∧
    (∃ s : State, s.dev.runs = true ∧ (s.dev.grp (grpOf 1)).running = true ∧ (s.dev.mot 1).loopRun = false ∧ s.dev.inputsClosed 1 = true ∧ (s.dev.mot 1).state = .idle) ∧
    (∃ s : State, s.dev.runs = true ∧ (s.dev.grp (grpOf 1)).running = true ∧ (s.dev.mot 1).loopRun = false ∧ s.dev.inputsClosed 1 = true ∧ (s.dev.mot 1).state = .catching) :=
  ⟨⟨0, 0, by decide +kernel⟩,
   ⟨on (fun d => ((({ d with inForce := (d.put 0x2500 0).words }).onGrp 0 (fun x => { x with running := true, frameAt := 3999990000, period := 10000 })).put 0x2500 0).onMot 1 (fun x => { x with loopRun := false, state := MState.idle, kiss := { x.kiss with timer := .left 0 } })), by decide +kernel⟩,
   ⟨on (fun d => ((({ d with inForce := (d.put 0x2500 0).words }).onGrp 0 (fun x => { x with running := true, frameAt := 3999990000, period := 10000 })).put 0x2500 0).onMot 1 (fun x => { x with loopRun := false, state := MState.catching, kiss := { x.kiss with timer := .left 0 } })), by decide +kernel⟩⟩

theorem met_LoopComputations_2 :
    (∃ s : State, s.dev.runs = true ∧ (s.dev.mot 1).loopRun = true) ∧
    (∃ s : State, s.dev.runs = true ∧ s.dev.searching 1 = true ∧ (s.dev.mot 1).kiss.timer.ended = true) :=
  ⟨⟨on (fun d => (d).onMot 1 (fun x => { x with loopRun := true })), by decide +kernel⟩,
   ⟨on (fun d => ((d).onMot 1 (fun x => { x with kiss := { x.kiss with timer := .left 0 } })).putB 0x255B 1 true), by decide +kernel⟩⟩

theorem met_DemandSlew_1 :
    (∃ (step : Nat) (old new : Int), step ≠ 0 ∧ (new - old).natAbs ≤ step) ∧
    (∃ (step : Nat) (old new : Int), step ≠ 0 ∧ step < (new - old).natAbs) ∧
    (∃ s : State, s.dev.runs = true ∧ (s.dev.grp (grpOf 1)).running = true ∧ (s.dev.mot 1).loopRun = false ∧ s.dev.inputsClosed 1 = true ∧ (s.dev.mot 1).state = .run) :=
  ⟨⟨32767, 0, 32767, by decide +kernel⟩,
   ⟨32766, 0, 32767, by decide +kernel⟩,
   ⟨on (fun d => (((({ d with inForce := ((d.put 0x2500 16).put 0x2506 0).words }).onGrp 0 (fun x => { x with running := true, frameAt := 3999990000, period := 10000 })).put 0x2500 0).put 0x2507 0x1000).onMot 1 (fun x => { x with loopRun := false, state := MState.run, hostOk := true, hostD := -1200, demSel := 99999 })), by decide +kernel⟩⟩

theorem met_DemandSlew_2 :
    ∃ s : State, s.dev.runs = true ∧ (s.dev.grp (grpOf 1)).running = true ∧ (s.dev.mot 1).loopRun = false ∧ s.dev.inputsClosed 1 = true ∧ (s.dev.mot 1).state = .brake :=
  ⟨on (fun d => (((({ d with inForce := ((d.put 0x2500 518).put 0x2506 3000).words }).onGrp 0 (fun x => { x with running := true, frameAt := 3999990000, period := 10000 })).put 0x2500 0).put 0x2507 0x1000).onMot 1 (fun x => { x with loopRun := false, state := MState.brake, hostOk := false, demSel := 99999 })), by decide +kernel⟩

theorem met_CarriersAndOutputs_1 :
    (∃ s : State, s.dev.runs = true ∧ (s.dev.grp (grpOf 1)).running = true ∧ 60 ≤ (s.dev.grp (grpOf 1)).period ∧ (s.dev.mot 1).car.start + (s.dev.mot 1).car.len ≤ s.dev.cycles) ∧
    (∃ s : State, s.dev.runs = true ∧ (s.dev.grp (grpOf 1)).running = true ∧ 60 ≤ (s.dev.grp (grpOf 1)).period ∧ s.dev.cycles < (s.dev.mot 1).car.start + (s.dev.mot 1).car.len) ∧
    (∃ s : State, s.dev.runs = true ∧ (s.dev.grp (grpOf 1)).running = true ∧ 60 ≤ (s.dev.grp (grpOf 1)).period ∧ s.dev.mayDrive 1 = true ∧ (s.dev.mot 1).state = .fault ∧ (s.dev.mot 1).act = .float) :=
  ⟨⟨on (fun d => ((d).onGrp 0 (fun x => { x with running := true, frameAt := 3999990000, period := 10000 })).onMot 1 (fun x => { x with car := { x.car with start := 3999990000, len := 10000 } })), by decide +kernel⟩,
   ⟨on (fun d => ((d).onGrp 0 (fun x => { x with running := true, frameAt := 3999990000, period := 10000 })).onMot 1 (fun x => { x with car := { x.car with start := 3999990001, len := 10000 } })), by decide +kernel⟩,
   ⟨on (fun d => ((((d).onGrp 0 (fun x => { x with running := true, frameAt := 3999990000, period := 10000 })).put 0x801 0x3FD).putB 0x2400 0 true).onMot 1 (fun x => { x with state := MState.fault, act := .float, phase := .align1 })), by decide +kernel⟩⟩

theorem met_CarriersAndOutputs_2 :
    (∃ s : State, s.dev.runs = true ∧ (s.dev.grp (grpOf 1)).running = true ∧ 60 ≤ (s.dev.grp (grpOf 1)).period ∧ s.dev.mayDrive 1 = true ∧ (s.dev.mot 1).state = .start ∧ (s.dev.mot 1).act = .float) ∧
    (∃ s : State, s.dev.runs = true ∧ (s.dev.grp (grpOf 1)).running = true ∧ 60 ≤ (s.dev.grp (grpOf 1)).period ∧ (s.dev.mot 1).car.start + (s.dev.mot 1).car.len ≤ s.dev.cycles ∧ (s.dev.mot 1).drives = true) ∧
    (∃ s : State, s.dev.runs = true ∧ (s.dev.grp (grpOf 1)).running = true ∧ 60 ≤ (s.dev.grp (grpOf 1)).period ∧ s.dev.mayDrive 1 = true ∧ (s.dev.mot 1).state = .idle ∧ s.dev.level 0 = 1) :=
  ⟨⟨on (fun d => ((((d).onGrp 0 (fun x => { x with running := true, frameAt := 3999990000, period := 10000 })).put 0x801 0x3FD).putB 0x2400 0 true).onMot 1 (fun x => { x with state := MState.start, act := .float, phase := .align1 })), by decide +kernel⟩,
   ⟨on (fun d => ((((d).onGrp 0 (fun x => { x with running := true, frameAt := 3999990000, period := 10000 })).put 0x801 0x3FD).putB 0x2400 0 true).onMot 1 (fun x => { x with state := MState.run, car := { x.car with start := 3999990000, len := 10000, refDue := true, hit := true } })), by decide +kernel⟩,
   ⟨on (fun d => (((((({ d with inForce := ((d.put 0x2400 0).putB 0x240F 8 true).words }).onGrp 0 (fun x => { x with running := true, frameAt := 3999990000, period := 10000 })).put 0x801 0x3FD).putB 0x2400 0 true).putF 0x6407 1 0 1).putB 0x700D 0 false).onMot 1 (fun x => { x with state := MState.idle, act := .floatThenClamp, phase := .ramp, car := { x.car with start := 3999998000 } })), by decide +kernel⟩⟩

theorem met_CarriersAndOutputs_3 :
    (∃ s : State, s.dev.runs = true ∧ (s.dev.grp (grpOf 1)).running = true ∧ 60 ≤ (s.dev.grp (grpOf 1)).period ∧ s.dev.mayDrive 1 = true ∧ (s.dev.mot 1).state = .fault ∧ s.dev.level 0 = 3) ∧
    (∃ s : State, s.dev.runs = true ∧ (s.dev.grp (grpOf 1)).running = true ∧ 60 ≤ (s.dev.grp (grpOf 1)).period ∧ s.dev.mayDrive 1 = false) :=
  ⟨⟨on (fun d => (((((({ d with inForce := ((d.put 0x2400 4).putB 0x240F 8 true).words }).onGrp 0 (fun x => { x with running := true, frameAt := 3999990000, period := 10000 })).put 0x801 0x3FD).putB 0x2400 0 true).putF 0x6407 1 0 3).putB 0x700D 0 false).onMot 1 (fun x => { x with state := MState.fault, act := .floatThenClamp, phase := .ramp, car := { x.car with start := 3999998000 } })), by decide +kernel⟩,
   ⟨on (fun d => ((d).onGrp 0 (fun x => { x with running := true, frameAt := 3999990000, period := 10000 })).putB 0x2400 0 false), by decide +kernel⟩⟩

theorem met_CommutationAndSampling_1 :
    (∃ s : State, s.dev.runs = true ∧ (s.dev.grp (grpOf 1)).running = true ∧ s.dev.extrapolates 1 = true ∧ s.dev.sensorless 1 = false ∧ (s.dev.mot 1).nextSector s.dev.cycles ≠ none) ∧
    (∃ s : State, s.dev.runs = true ∧ (s.dev.grp (grpOf 1)).running = true ∧ s.dev.extrapolates 1 = true ∧ s.dev.sensorless 1 = true ∧ (s.dev.mot 1).nextSector s.dev.cycles ≠ none ∧ (s.dev.mot 1).state = .run ∧ (s.dev.mot 1).sec.found.isSome = true ∧ (s.dev.mot 1).sec.amp ≠ some false) ∧
    (∃ s : State, s.dev.runs = true ∧ (s.dev.grp (grpOf 1)).running = true ∧ s.dev.extrapolates 1 = true ∧ s.dev.sensorless 1 = true ∧ (s.dev.mot 1).nextSector s.dev.cycles ≠ none ∧ (s.dev.mot 1).state = .run ∧ (s.dev.mot 1).sec.found = none ∧ min 15 ((s.dev.mot 1).failcnt + 1) < max 1 (s.dev.ifld (aMot 1 0x89) 11 8)) :=
  ⟨⟨on (fun d => (({ d with inForce := (d.put 0x2400 0).words }).onGrp 0 (fun x => { x with running := true, frameAt := 3999990000, period := 10000 })).onMot 1 (fun x => { x with state := MState.run, speed := 8000, v16 := 524288000, angAt := 3999980000, angS := 0, adv := 0, sector := 0, drvRev := false, spdv := true })), by decide +kernel⟩,
   ⟨on (fun d => (({ d with inForce := (d.put 0x2400 8).words }).onGrp 0 (fun x => { x with running := true, frameAt := 3999990000, period := 10000 })).onMot 1 (fun x => { x with state := MState.run, phase := .none, sec := { x.sec with found := some 3999990000, amp := none }, speed := 8000, v16 := 524288000, angAt := 3999980000, angS := 0, adv := 0, sector := 0, drvRev := false, spdv := true })), by decide +kernel⟩,
   ⟨on (fun d => (({ d with inForce := ((d.put 0x2400 8).put 0x2489 0x0300).words }).onGrp 0 (fun x => { x with running := true, frameAt := 3999990000, period := 10000 })).onMot 1 (fun x => { x with state := MState.run, phase := .none, failcnt := 1, sec := { x.sec with found := none }, speed := 8000, v16 := 524288000, angAt := 3999980000, angS := 0, adv := 0, sector := 0, drvRev := false, spdv := true })), by decide +kernel⟩⟩

theorem met_CommutationAndSampling_2 :
    (∃ s : State, s.dev.runs = true ∧ (s.dev.grp (grpOf 1)).running = true ∧ s.dev.extrapolates 1 = true ∧ s.dev.sensorless 1 = true ∧ (s.dev.mot 1).nextSector s.dev.cycles ≠ none ∧ (s.dev.mot 1).state = .start ∧ (s.dev.mot 1).phase = .ramp ∧ (s.dev.mot 1).hovcnt + 1 < max 1 (s.dev.ifld (aMot 1 0x89) 15 12)) ∧
    (∃ s : State, s.dev.runs = true ∧ (s.dev.grp (grpOf 1)).running = true ∧ s.dev.extrapolates 1 = true ∧ s.dev.sensorless 1 = true ∧ (s.dev.mot 1).nextSector s.dev.cycles ≠ none ∧ (s.dev.mot 1).state = .start ∧ (s.dev.mot 1).phase = .ramp ∧ (s.dev.mot 1).hovcnt + 1 < max 1 (s.dev.ifld (aMot 1 0x89) 15 12) ∧ (s.dev.mot 1).sec.found.isSome = true) ∧
    (∃ s : State, s.dev.runs = true ∧ (s.dev.grp (grpOf 1)).running = true ∧ (s.dev.mot 1).nextSector s.dev.cycles = none) :=
  ⟨⟨on (fun d => (({ d with inForce := ((d.put 0x2400 8).put 0x2489 0x5300).words }).onGrp 0 (fun x => { x with running := true, frameAt := 3999990000, period := 10000 })).onMot 1 (fun x => { x with state := MState.start, phase := .ramp, hovcnt := 2, sec := { x.sec with found := none, amp := none }, speed := 8000, v16 := 524288000, angAt := 3999980000, angS := 0, adv := 0, sector := 0, drvRev := false, spdv := true })), by decide +kernel⟩,
   ⟨on (fun d => (({ d with inForce := ((d.put 0x2400 8).put 0x2489 0x5300).words }).onGrp 0 (fun x => { x with running := true, frameAt := 3999990000, period := 10000 })).onMot 1 (fun x => { x with state := MState.start, phase := .ramp, hovcnt := 2, sec := { x.sec with found := some 3999990000, amp := none }, speed := 8000, v16 := 524288000, angAt := 3999980000, angS := 0, adv := 0, sector := 0, drvRev := false, spdv := true })), by decide +kernel⟩,
   ⟨on (fun d => ((d).onGrp 0 (fun x => { x with running := true, frameAt := 3999990000, period := 10000 })).onMot 1 (fun x => { x with v16 := 0, angS := 0, sector := 0, angAt := 3999999999 })), by decide +kernel⟩⟩

theorem met_CommutationAndSampling_3 :
    (∃ s : State, s.dev.runs = true ∧ (s.dev.grp (grpOf 1)).running = true ∧ s.dev.extrapolates 1 = false) ∧
    (∃ s : State, s.dev.runs = true ∧ (s.dev.grp (grpOf 1)).running = true ∧ s.dev.sensorless 1 = true ∧ (s.dev.mot 1).state = .run ∧ (s.dev.mot 1).phase = .none ∧ (s.dev.mot 1).sec.closed = false ∧ s.dev.windowPast 1 = true) ∧
    (∃ s : State, s.dev.runs = true ∧ (s.dev.grp (grpOf 1)).running = true ∧ s.dev.sensorless 1 = true ∧ (s.dev.mot 1).state = .start ∧ (s.dev.mot 1).phase = .ramp ∧ (s.dev.mot 1).sec.closed = false ∧ s.dev.windowPast 1 = true) :=
  ⟨⟨on (fun d => ((d).onGrp 0 (fun x => { x with running := true, frameAt := 3999990000, period := 10000 })).onMot 1 (fun x => { x with state := MState.idle })), by decide +kernel⟩,
   ⟨on (fun d => (({ d with inForce := (d.put 0x2400 8).words }).onGrp 0 (fun x => { x with running := true, frameAt := 3999990000, period := 10000 })).onMot 1 (fun x => { x with state := MState.run, phase := .none, sec := { x.sec with closed := false, began := 0 }, obs := { x.obs with tPrev := some 3000000000, v := 4000, d1 := some 100, d2 := some 100 }, v16 := 6553600, angAt := 3000000000, angS := 0, sector := 0 })), by decide +kernel⟩,
   ⟨on (fun d => (({ d with inForce := (d.put 0x2400 8).words }).onGrp 0 (fun x => { x with running := true, frameAt := 3999990000, period := 10000 })).onMot 1 (fun x => { x with state := MState.start, phase := .ramp, sec := { x.sec with closed := false, began := 0 }, obs := { x.obs with tPrev := some 3000000000, v := 4000, d1 := some 100, d2 := some 100 }, v16 := 6553600, angAt := 3000000000, angS := 0, sector := 0 })), by decide +kernel⟩⟩

theorem met_CommutationAndSampling_4 :
    (∃ s : State, s.dev.runs = true ∧ (s.dev.grp (grpOf 1)).running = true ∧ (s.dev.mot 1).sec.closed = true) ∧
    (∃ s : State, s.dev.runs = true ∧ (s.dev.grp (grpOf 1)).running = true ∧ s.dev.atSampleTick 1 = false) ∧
    (∃ s : State, s.dev.runs = true ∧ (s.dev.grp (grpOf 1)).running = true ∧ s.dev.glintOn (grpOf 1) = true ∧ s.dev.atSampleTick 1 = true ∧ s.dev.sensorless 1 = false) :=
  ⟨⟨on (fun d => ((d).onGrp 0 (fun x => { x with running := true, frameAt := 3999990000, period := 10000 })).onMot 1 (fun x => { x with sec := { x.sec with closed := true } })), by decide +kernel⟩,
   ⟨on (fun d => ((d).onGrp 0 (fun x => { x with running := true, frameAt := 3999990000, period := 10000 })).onMot 1 (fun x => { x with car := { x.car with start := 4000000000 }})), by decide +kernel⟩,
   ⟨on (fun d => ((((({ d with inForce := ((d.put 0x2400 0).put 0x2406 200).words }).onGrp 0 (fun x => { x with running := true })).put 0x801 0x3FD).put 0x802 0x3F8).onDie 0 (fun x => { x with rdy := true, low := false })).onMot 1 (fun x => { x with car := { x.car with len := 10000, align := false, start := 3999990200 - min (d.iuw 0x248C) 199 } })), by decide +kernel⟩⟩

theorem met_CommutationAndSampling_5 :
    (∃ s : State, s.dev.runs = true ∧ (s.dev.grp (grpOf 1)).running = true ∧ s.dev.glintOn (grpOf 1) = true ∧ s.dev.atSampleTick 1 = true ∧ s.dev.sensorless 1 = true ∧ (s.dev.mot 1).state = .run ∧ (s.dev.mot 1).sec.found = none ∧ (s.dev.mot 1).sec.closed = false ∧ s.dev.windowPast 1 = false ∧ s.dev.ifld (aMot 1 0x8D) 15 8 * predict (s.dev.mot 1).predSpeed ≤ (s.dev.cycles - (s.dev.mot 1).sec.began) * 256) ∧
    (∃ s : State, s.dev.runs = true ∧ (s.dev.grp (grpOf 1)).running = true ∧ s.dev.glintOn (grpOf 1) = true ∧ s.dev.atSampleTick 1 = true ∧ s.dev.sensorless 1 = true ∧ (s.dev.mot 1).state = .run ∧ (s.dev.mot 1).sec.found = none ∧ (s.dev.mot 1).sec.closed = false ∧ s.dev.windowPast 1 = false ∧ s.dev.ifld (aMot 1 0x8D) 15 8 * predict (s.dev.mot 1).predSpeed ≤ (s.dev.cycles - (s.dev.mot 1).sec.began) * 256) :=
  ⟨⟨on (fun d => ((((({ d with inForce := (((d.put 0x2400 8).put 0x2406 200).put 0x248D 0xFF00 |>.put 0x248D 0x0100 |>.put 0x248E 0xFFFF).words }).onGrp 0 (fun x => { x with running := true })).put 0x801 0x3FD).put 0x802 0x3F8).onDie 0 (fun x => { x with rdy := true, low := false })).onMot 1 (fun x => { x with car := { x.car with len := 10000, align := false, start := 3999990200 - min (d.iuw 0x248C) 199 }, state := MState.run, phase := .none, sector := 0, drvRev := true, sec := { x.sec with found := none, closed := false, last := none, began := 3999900000 }, obs := { x.obs with v := 50, d1 := some 100, d2 := some 100 } })), by decide +kernel⟩,
   ⟨on (fun d => ((((({ d with inForce := (((d.put 0x2400 8).put 0x2406 200).put 0x248D 0xFF00 |>.put 0x248D 0x0100 |>.put 0x248E 0xFFFF).words }).onGrp 0 (fun x => { x with running := true })).put 0x801 0x3FD).put 0x802 0x3F8).onDie 0 (fun x => { x with rdy := true, low := false })).onMot 1 (fun x => { x with car := { x.car with len := 10000, align := false, start := 3999990200 - min (d.iuw 0x248C) 199 }, state := MState.run, phase := .none, sector := 1, drvRev := false, sec := { x.sec with found := none, closed := false, last := some true, began := 3999900000 }, obs := { x.obs with v := 50, d1 := some 100, d2 := some 100 } })), by decide +kernel⟩⟩

theorem met_EnginePhases_1 :
    (∃ s : State, s.dev.runs = true ∧ (s.dev.mot 1).timer.ended = true ∧ (s.dev.mot 1).state = .start ∧ (s.dev.mot 1).phase = .align1) ∧
    (∃ s : State, s.dev.runs = true ∧ (s.dev.mot 1).timer.ended = true ∧ (s.dev.mot 1).state = .start ∧ (s.dev.mot 1).phase = .align2) ∧
    (∃ s : State, s.dev.runs = true ∧ (s.dev.mot 1).timer.ended = true ∧ (s.dev.mot 1).state = .start ∧ (s.dev.mot 1).phase = .backoff) :=
  ⟨⟨on (fun d => (d).onMot 1 (fun x => { x with state := MState.start, phase := .align1, timer := .left 0 })), by decide +kernel⟩,
   ⟨on (fun d => (d).onMot 1 (fun x => { x with state := MState.start, phase := .align2, timer := .left 0 })), by decide +kernel⟩,
   ⟨on (fun d => (d).onMot 1 (fun x => { x with state := MState.start, phase := .backoff, timer := .left 0 })), by decide +kernel⟩⟩

theorem met_EnginePhases_2 :
    (∃ s : State, s.dev.runs = true ∧ (s.dev.mot 1).timer.ended = true ∧ (s.dev.mot 1).state = .coast ∧ (s.dev.mot 1).phase = .coast) ∧
    (∃ s : State, s.dev.runs = true ∧ (s.dev.mot 1).timer.ended = true ∧ (s.dev.mot 1).state = .start ∧ (s.dev.mot 1).phase = .ramp ∧ (s.dev.mot 1).attempt ≤ s.dev.ifld (aMot 1 0x80) 11 8) ∧
    (∃ s : State, s.dev.runs = true ∧ (s.dev.mot 1).timer.ended = true ∧ (s.dev.mot 1).state = .start ∧ (s.dev.mot 1).phase = .ramp ∧ s.dev.ifld (aMot 1 0x80) 11 8 < (s.dev.mot 1).attempt) :=
  ⟨⟨on (fun d => (d).onMot 1 (fun x => { x with state := MState.coast, phase := .coast, timer := .left 0 })), by decide +kernel⟩,
   ⟨on (fun d => ({ d with inForce := (d.put 0x2480 0x0F00).words }).onMot 1 (fun x => { x with state := MState.start, phase := .ramp, timer := .left 0, attempt := 1 })), by decide +kernel⟩,
   ⟨on (fun d => (d).onMot 1 (fun x => { x with state := MState.start, phase := .ramp, timer := .left 0, attempt := 17 })), by decide +kernel⟩⟩

theorem met_EnginePhases_3 :
    (∃ s : State, s.dev.runs = true ∧ (s.dev.mot 1).catt.ended = true ∧ (s.dev.mot 1).state = .catching) ∧
    (∃ s : State, s.dev.runs = true ∧ (s.dev.mot 1).timer.ended = true ∧ (s.dev.mot 1).state = .brake ∧ (s.dev.mot 1).phase = .none ∧ s.dev.sensorless 1 = false) ∧
    (∃ s : State, s.dev.runs = true ∧ (s.dev.mot 1).stab.ended = true) :=
  ⟨⟨on (fun d => (d).onMot 1 (fun x => { x with state := MState.catching, catt := .left 0 })), by decide +kernel⟩,
   ⟨on (fun d => ({ d with inForce := (d.put 0x2400 0).words }).onMot 1 (fun x => { x with state := MState.brake, phase := .none, timer := .left 0 })), by decide +kernel⟩,
   ⟨on (fun d => (d).onMot 1 (fun x => { x with stab := .left 0 })), by decide +kernel⟩⟩

theorem met_EnginePhases_4 :
    (∃ s : State, s.dev.runs = true ∧ (s.dev.mot 1).state = .run ∧ (s.dev.mot 1).rect.ended = true) ∧
    (∃ s : State, s.dev.runs = true ∧ (s.dev.mot 1).timer.ended = false) :=
  ⟨⟨on (fun d => (d).onMot 1 (fun x => { x with state := MState.run, rect := .left 0 })), by decide +kernel⟩,
   ⟨on (fun d => (d).onMot 1 (fun x => { x with timer := .left 1 })), by decide +kernel⟩⟩

theorem met_MotorCommands_1 :
    (∃ s : State, s.dev.hasMot 1 = true ∧ s.dev.writeOk 0 (aMot 1 0) = true) ∧
    (∃ s : State, s.dev.hasMot 1 = true ∧ s.dev.writeOk 0 (aMot 1 2) = true ∧ (s.dev.mot 1).level = 0) ∧
    (∃ s : State, s.dev.hasMot 1 = true ∧ s.dev.writeOk 0 (aMot 1 0x103) = true ∧ s.dev.writeOk 0 (aMot 1 0x102) = true ∧ s.dev.writeOk 0 (aMot 1 0x158) = true ∧ s.dev.locked' = false) :=
  ⟨⟨on (fun d => d), by decide +kernel⟩,
   ⟨on (fun d => ((d).onMot 1 (fun x => { x with level := 0, state := MState.fault })).put 0x2402 0x15), by decide +kernel⟩,
   ⟨on (fun d => d), by decide +kernel⟩⟩

theorem met_MotorCommands_2 :
    (∃ s : State, s.dev.hasMot 1 = true ∧ s.dev.runs = true ∧ (s.dev.mot 1).hostT.ended = true) ∧
    (∃ s : State, s.dev.hasMot 1 = true ∧ s.dev.runs = true ∧ 2 ≤ s.dev.cmdForm 1 ∧ (s.dev.mot 1).cmd.edgeAt = some 3999999000) ∧
    (∃ s : State, s.dev.hasMot 1 = true ∧ s.dev.runs = true ∧ 2 ≤ s.dev.cmdForm 1 ∧ (s.dev.mot 1).cmd.edgeAt = some 3999999000) :=
  ⟨⟨on (fun d => (d).onMot 1 (fun x => { x with hostT := .left 0 })), by decide +kernel⟩,
   ⟨on (fun d => (({ d with inForce := (d.put 0x2440 2).words }).put 0x2440 2).onMot 1 (fun x => { x with cmd := { x.cmd with edgeAt := some 3999999000, form := 2 } })), by decide +kernel⟩,
   ⟨on (fun d => (({ d with inForce := (d.put 0x2440 3).words }).put 0x2440 3).onMot 1 (fun x => { x with cmd := { x.cmd with edgeAt := some 3999999000, form := 3 } })), by decide +kernel⟩⟩

theorem met_MotorCommands_3 :
    (∃ s : State, s.dev.hasMot 1 = true ∧ s.dev.runs = true ∧ 2 ≤ s.dev.cmdForm 1 ∧ (s.dev.mot 1).cmd.done = true ∧ (s.dev.mot 1).cmd.doneAt + 40000000 ≤ s.dev.cycles) ∧
    (∃ s : State, s.dev.hasMot 1 = true ∧ s.dev.writeOk 0 (aMot 1 2) = true ∧ (s.dev.mot 1).state = .fault ∧ s.dev.w (aMot 1 2) = 0x1F ∧ s.dev.stillReported 1 = 4 ∧ s.dev.freshBits (aMot 1 2) = 8) ∧
    (∃ s : State, s.dev.hasMot 1 = true ∧ s.dev.writeOk 0 (aMot 1 2) = true ∧ (s.dev.mot 1).state = .run ∧ s.dev.freshBits (aMot 1 2) = 8) :=
  ⟨⟨on (fun d => (({ d with inForce := (d.put 0x2440 3).words }).put 0x2440 3).onMot 1 (fun x => { x with cmd := { x.cmd with done := true, doneAt := 3960000000, form := 3 } })), by decide +kernel⟩,
   ⟨on (fun d => let d := ((({ d with power := { d.power with prismLock := true } }).put 0x2402 0x1F).onMot 1 (fun x => { x with state := MState.fault, level := 2 })).put 0x2403 0xFFFF; { d with inForce := d.words, fresh := d.fresh.set (fun _ => 0) 0x2402 8 }), by decide +kernel⟩,
   ⟨on (fun d => { d with fresh := d.fresh.set (fun _ => 0) 0x2402 8 } |>.onMot 1 (fun x => { x with state := MState.run })), by decide +kernel⟩⟩

theorem met_HalfBridges_1 :
    (∃ s : State, s.dev.runs = true ∧ (s.dev.brg 4).hs = false ∧ s.dev.hsMay 4 = true ∧ s.dev.bit (aCur (motOfBridge 4) 5) 0 = false) ∧
    (∃ s : State, s.dev.runs = true ∧ (s.dev.brg 4).hs = false ∧ s.dev.hsMay 4 = true ∧ s.dev.bit (aCur (motOfBridge 4) 5) 0 = true) ∧
    (∃ s : State, s.dev.runs = true ∧ (s.dev.brg 4).ls = false ∧ s.dev.lsMay 4 = true ∧ s.dev.bit (aCur (motOfBridge 4) 5) 0 = false) :=
  ⟨⟨on (fun d => (((((d).put 0x801 0x3FD).put 0x802 0x3F8).onDie 0 (fun x => { x with rdy := true, low := false, everRdy := true, gduv := false })).onBrg 4 (fun x => { x with en := true, pulse := true, hs := false, ls := false, lsOff := 3999999950 })).putB 0x700D 0 false), by decide +kernel⟩,
   ⟨on (fun d => (((((d).put 0x801 0x3FD).put 0x802 0x3F8).onDie 0 (fun x => { x with rdy := true, low := false, everRdy := true, gduv := false })).onBrg 4 (fun x => { x with en := true, pulse := true, hs := false, ls := false, lsOff := 3999999950 })).putB 0x700D 0 true), by decide +kernel⟩,
   ⟨on (fun d => (((((d).put 0x801 0x3FD).put 0x802 0x3F8).onDie 0 (fun x => { x with rdy := true, low := false, everRdy := true, gduv := false })).onBrg 4 (fun x => { x with en := true, pulse := false, hs := false, ls := false, hsOff := 3999999950 })).putB 0x700D 0 false), by decide +kernel⟩⟩

theorem met_HalfBridges_2 :
    (∃ s : State, s.dev.runs = true ∧ s.dev.dieDrives (grpOfBridge 4) = true ∧ (s.dev.brg 4).isOn = true ∧ (s.dev.brg 4).onAt + s.dev.blankTicks 4 ≤ s.dev.cycles ∧ s.dev.desatOn 4 (s.dev.brg 4).hs = true ∧ s.dev.vdsHigh 4 (3000) = true) ∧
    (∃ s : State, s.dev.runs = true ∧ s.dev.dieDrives (grpOfBridge 4) = true ∧ (s.dev.brg 4).isOn = true ∧ (s.dev.brg 4).onAt + s.dev.blankTicks 4 ≤ s.dev.cycles ∧ s.dev.desatOn 4 (s.dev.brg 4).hs = true ∧ s.dev.vdsHigh 4 (625) = false) ∧
    (∃ s : State, s.dev.runs = true ∧ s.dev.dieDrives (grpOfBridge 4) = true ∧ (s.dev.brg 4).isOn = true ∧ (s.dev.brg 4).onAt + s.dev.blankTicks 4 ≤ s.dev.cycles ∧ s.dev.desatOn 4 (s.dev.brg 4).hs = true ∧ s.dev.vdsHigh 4 (3000) = true ∧ (s.dev.brg 4).aboveAt = some 3999999970 ∧ 3999999970 + 20 ≤ s.dev.cycles ∧ (s.dev.brg 4).detected = false) :=
  ⟨⟨on (fun d => ((((({ d with inForce := (d.put 0x6881 0x334).words }).put 0x801 0x3FD).put 0x802 0x3F8).onDie 0 (fun x => { x with rdy := true, low := false, everRdy := true, gduv := false })).onBrg 4 (fun x => { x with hs := true, ls := !true, onAt := 3999990000, detected := false, aboveAt := none })).put 0x6883 0), by decide +kernel⟩,
   ⟨on (fun d => ((((({ d with inForce := (d.put 0x6881 0x334).words }).put 0x801 0x3FD).put 0x802 0x3F8).onDie 0 (fun x => { x with rdy := true, low := false, everRdy := true, gduv := false })).onBrg 4 (fun x => { x with hs := false, ls := !false, onAt := 3999990000, detected := false, aboveAt := none })).put 0x6883 0), by decide +kernel⟩,
   ⟨on (fun d => ((((({ d with inForce := (d.put 0x6881 0x334).words }).put 0x801 0x3FD).put 0x802 0x3F8).onDie 0 (fun x => { x with rdy := true, low := false, everRdy := true, gduv := false })).onBrg 4 (fun x => { x with hs := true, ls := !true, onAt := 3999990000, detected := false, aboveAt := some 3999999970 })).put 0x6883 0), by decide +kernel⟩⟩

theorem met_HalfBridges_3 :
    (∃ s : State, s.dev.runs = true ∧ s.dev.dieDrives (grpOfBridge 4) = true ∧ (s.dev.brg 4).isOn = true ∧ (s.dev.brg 4).onAt + s.dev.blankTicks 4 ≤ s.dev.cycles ∧ s.dev.desatOn 4 (s.dev.brg 4).hs = true ∧ s.dev.vdsHigh 4 (625) = false ∧ (s.dev.brg 4).aboveAt = some 3999999970 ∧ 3999999970 + 20 ≤ s.dev.cycles ∧ (s.dev.brg 4).detected = false) ∧
    (∃ s : State, s.dev.runs = true ∧ s.dev.dieDrives (grpOfBridge 4) = true ∧ (s.dev.brg 4).isOn = true ∧ (s.dev.brg 4).onAt + s.dev.blankTicks 4 ≤ s.dev.cycles ∧ s.dev.desatOn 4 (s.dev.brg 4).hs = true ∧ s.dev.vdsHigh 4 (-5) = false) ∧
    (∃ s : State, s.dev.runs = true ∧ s.dev.dieDrives (grpOfBridge 4) = true ∧ (s.dev.brg 4).isOn = true ∧ (s.dev.brg 4).onAt + s.dev.blankTicks 4 ≤ s.dev.cycles ∧ s.dev.desatOn 4 (s.dev.brg 4).hs = true ∧ s.dev.vdsHigh 4 (-5) = false) :=
  ⟨⟨on (fun d => ((((({ d with inForce := (d.put 0x6881 0x334).words }).put 0x801 0x3FD).put 0x802 0x3F8).onDie 0 (fun x => { x with rdy := true, low := false, everRdy := true, gduv := false })).onBrg 4 (fun x => { x with hs := false, ls := !false, onAt := 3999990000, detected := false, aboveAt := some 3999999970 })).put 0x6883 0), by decide +kernel⟩,
   ⟨on (fun d => ((((({ d with inForce := (d.put 0x6881 0x334).words }).put 0x801 0x3FD).put 0x802 0x3F8).onDie 0 (fun x => { x with rdy := true, low := false, everRdy := true, gduv := false })).onBrg 4 (fun x => { x with hs := true, ls := !true, onAt := 3999990000, detected := false, aboveAt := none })).put 0x6883 0), by decide +kernel⟩,
   ⟨on (fun d => ((((({ d with inForce := (d.put 0x6881 0x334).words }).put 0x801 0x3FD).put 0x802 0x3F8).onDie 0 (fun x => { x with rdy := true, low := false, everRdy := true, gduv := false })).onBrg 4 (fun x => { x with hs := false, ls := !false, onAt := 3999990000, detected := false, aboveAt := none })).put 0x6883 0), by decide +kernel⟩⟩

theorem met_HalfBridges_4 :
    (∃ s : State, s.dev.runs = true ∧ s.dev.dieDrives (grpOfBridge 4) = true ∧ (s.dev.brg 4).isOn = true ∧ (s.dev.brg 4).onAt + s.dev.blankTicks 4 ≤ s.dev.cycles ∧ s.dev.desatOn 4 (s.dev.brg 4).hs = true ∧ s.dev.vdsHigh 4 (-5) = false ∧ (s.dev.brg 4).aboveAt = some 3999999970 ∧ 3999999970 + 20 ≤ s.dev.cycles ∧ (s.dev.brg 4).detected = false) ∧
    (∃ s : State, s.dev.runs = true ∧ s.dev.dieDrives (grpOfBridge 4) = true ∧ (s.dev.brg 4).isOn = true ∧ (s.dev.brg 4).onAt + s.dev.blankTicks 4 ≤ s.dev.cycles ∧ s.dev.desatOn 4 (s.dev.brg 4).hs = true ∧ s.dev.vdsHigh 4 (-5) = false ∧ (s.dev.brg 4).aboveAt = some 3999999970 ∧ 3999999970 + 20 ≤ s.dev.cycles ∧ (s.dev.brg 4).detected = false) ∧
    (∃ s : State, s.dev.runs = true ∧ s.dev.dieDrives (grpOfBridge 4) = true ∧ (s.dev.brg 4).hs = true ∧ (s.dev.brg 4).bsuv = false ∧ max (s.dev.brg 4).onAt ((s.dev.brg 4).relAt.getD 0) + 100 ≤ s.dev.cycles) :=
  ⟨⟨on (fun d => ((((({ d with inForce := (d.put 0x6881 0x334).words }).put 0x801 0x3FD).put 0x802 0x3F8).onDie 0 (fun x => { x with rdy := true, low := false, everRdy := true, gduv := false })).onBrg 4 (fun x => { x with hs := true, ls := !true, onAt := 3999990000, detected := false, aboveAt := some 3999999970 })).put 0x6883 0), by decide +kernel⟩,
   ⟨on (fun d => ((((({ d with inForce := (d.put 0x6881 0x334).words }).put 0x801 0x3FD).put 0x802 0x3F8).onDie 0 (fun x => { x with rdy := true, low := false, everRdy := true, gduv := false })).onBrg 4 (fun x => { x with hs := false, ls := !false, onAt := 3999990000, detected := false, aboveAt := some 3999999970 })).put 0x6883 0), by decide +kernel⟩,
   ⟨on (fun d => ((((d).put 0x801 0x3FD).put 0x802 0x3F8).onDie 0 (fun x => { x with rdy := true, low := false, everRdy := true, gduv := false })).onBrg 4 (fun x => { x with hs := true, bsuv := false, onAt := 3999999900, relAt := some 3999999900 })), by decide +kernel⟩⟩

theorem met_HalfBridges_5 :
    ∃ s : State, s.dev.runs = true ∧ (s.dev.brg 4).bsuv = true :=
  ⟨on (fun d => (d).onBrg 4 (fun x => { x with bsuv := true })), by decide +kernel⟩

theorem met_GateDies_1 :
    (∃ s : State, s.dev.runs = true ∧ s.dev.domOn (gateDom 0) = true ∧ (s.dev.die 0).everRdy = true ∧ (s.dev.die 0).gduv = false) ∧
    (∃ s : State, s.dev.runs = true ∧ s.dev.reports = [{ motor := 5, phase := 1, cause := .desat, at' := 3999999996 }] ∧ 3999999996 + 4 ≤ s.dev.cycles ∧ (s.dev.mot 5).state = .idle) ∧
    (∃ s : State, s.dev.runs = true ∧ s.dev.reports = [{ motor := 5, phase := 1, cause := .hshort, at' := 3999999996 }] ∧ 3999999996 + 4 ≤ s.dev.cycles ∧ (s.dev.mot 5).state = .start) :=
  ⟨⟨on (fun d => (((d).put 0x801 0x3FD).put 0x802 0x3F8).onDie 0 (fun x => { x with rdy := true, low := false, everRdy := true, gduv := false })), by decide +kernel⟩,
   ⟨on (fun d => { (d.onMot 5 (fun x => { x with state := MState.idle })) with reports := [{ motor := 5, phase := 1, cause := .desat, at' := 3999999996 }] }), by decide +kernel⟩,
   ⟨on (fun d => { (d.onMot 5 (fun x => { x with state := MState.start })) with reports := [{ motor := 5, phase := 1, cause := .hshort, at' := 3999999996 }] }), by decide +kernel⟩⟩

theorem met_GateDies_2 :
    (∃ s : State, s.dev.runs = true ∧ s.dev.domOn (gateDom 0) = true ∧ (s.dev.die 0).low = false) ∧
    (∃ s : State, s.dev.runs = true ∧ s.dev.domOn (gateDom 0) = true ∧ (s.dev.die 0).low = false ∧ (s.dev.die 0).rdy = false ∧ (s.dev.die 0).startAt + 40000 ≤ s.dev.cycles) ∧
    (∃ s : State, s.dev.runs = true ∧ s.dev.domOn (gateDom 0) = true ∧ (s.dev.die 0).low = true) :=
  ⟨⟨on (fun d => (((d).put 0x801 0x3FD).put 0x802 0x3F8).onDie 0 (fun x => { x with rdy := true, low := false, everRdy := true, gduv := false })), by decide +kernel⟩,
   ⟨on (fun d => ((((d).put 0x801 0x3FD).put 0x802 0x3F8).onDie 0 (fun x => { x with rdy := true, low := false, everRdy := true, gduv := false })).onDie 0 (fun x => { x with rdy := false, startAt := 3999960000 })), by decide +kernel⟩,
   ⟨on (fun d => ((((d).put 0x801 0x3FD).put 0x802 0x3F8).onDie 0 (fun x => { x with rdy := true, low := false, everRdy := true, gduv := false })).onDie 0 (fun x => { x with low := true })), by decide +kernel⟩⟩

theorem met_GateDies_3 :
    (∃ s : State, s.dev.runs = true ∧ s.dev.reports = [⟨5, 1, .desat, 3999999996⟩] ∧ 3999999996 + 4 ≤ s.dev.cycles ∧ (s.dev.mot 5).state = .run ∧ s.dev.fpol 5 .desat = 0) ∧
    (∃ s : State, s.dev.runs = true ∧ s.dev.reports = [⟨5, 1, .desat, 3999999996⟩] ∧ 3999999996 + 4 ≤ s.dev.cycles ∧ (s.dev.mot 5).state = .run ∧ codeAct (s.dev.fpol 5 .desat) = some .float) ∧
    (∃ s : State, s.dev.runs = true ∧ s.dev.reports = [⟨5, 1, .desat, 3999999996⟩] ∧ 3999999996 + 4 ≤ s.dev.cycles ∧ (s.dev.mot 5).state = .run ∧ codeAct (s.dev.fpol 5 .desat) = some .clamp) :=
  ⟨⟨on (fun d => { ({ d with inForce := (d.put 0x3403 0).words } : Dev).onMot 5 (fun x => { x with state := MState.run }) with reports := [⟨5, 1, .desat, 3999999996⟩] }), by decide +kernel⟩,
   ⟨on (fun d => { ({ d with inForce := (d.put 0x3403 1).words } : Dev).onMot 5 (fun x => { x with state := MState.run }) with reports := [⟨5, 1, .desat, 3999999996⟩] }), by decide +kernel⟩,
   ⟨on (fun d => { ({ d with inForce := (d.put 0x3403 2).words } : Dev).onMot 5 (fun x => { x with state := MState.run }) with reports := [⟨5, 1, .desat, 3999999996⟩] }), by decide +kernel⟩⟩

theorem met_GateDies_4 :
    (∃ s : State, s.dev.runs = true ∧ s.dev.reports = [⟨5, 1, .desat, 3999999996⟩] ∧ 3999999996 + 4 ≤ s.dev.cycles ∧ (s.dev.mot 5).state = .run ∧ codeAct (s.dev.fpol 5 .desat) = some .floatThenClamp) ∧
    (∃ s : State, s.dev.runs = true ∧ s.dev.reports = [⟨5, 1, .desat, 3999999996⟩] ∧ 3999999996 + 4 ≤ s.dev.cycles ∧ (s.dev.mot 5).state = .fault ∧ codeAct (s.dev.fpol 5 .desat) = some .floatThenClamp) :=
  ⟨⟨on (fun d => { ({ d with inForce := (d.put 0x3403 3).words } : Dev).onMot 5 (fun x => { x with state := MState.run }) with reports := [⟨5, 1, .desat, 3999999996⟩] }), by decide +kernel⟩,
   ⟨on (fun d => { ({ d with inForce := (d.put 0x3403 3).words } : Dev).onMot 5 (fun x => { x with state := MState.fault }) with reports := [⟨5, 1, .desat, 3999999996⟩] }), by decide +kernel⟩⟩

theorem met_Comparators_1 :
    (∃ s : State, s.dev.runs = true ∧ s.dev.glintOn (grpOf 1) = true ∧ (s.dev.mot 1).state = .run ∧ (s.dev.mot 1).compOn.isSome = true ∧ (s.dev.mot 1).lebDone = true ∧ s.dev.ibit (aCur 1 0) 0 = true ∧ s.dev.bit (aCur 1 4) 0 = false ∧ s.dev.underCheck 0 1 = false ∧ s.dev.currentPowered 1 = true ∧ s.dev.currentOut 1 3000000 = true) ∧
    (∃ s : State, s.dev.runs = true ∧ s.dev.glintOn (grpOf 1) = true ∧ (s.dev.mot 1).state = .run ∧ (s.dev.mot 1).compOn.isSome = true ∧ (s.dev.mot 1).lebDone = true ∧ s.dev.ibit (aCur 1 0) 0 = true ∧ s.dev.bit (aCur 1 4) 0 = false ∧ s.dev.underCheck 0 1 = false ∧ s.dev.currentPowered 1 = true ∧ s.dev.currentOut 1 0 = false) ∧
    (∃ s : State, s.dev.runs = true ∧ s.dev.glintOn (grpOf 1) = true ∧ (s.dev.mot 1).compOn = some 3999999000 ∧ 3999999000 + 20 * s.dev.ifld (aCur 1 2) 11 8 ≤ s.dev.cycles ∧ s.dev.bit (aCur 1 5) 0 = false) :=
  ⟨⟨on (fun d => (((((({ d with inForce := (d.put 0x7008 0x1).words }).put 0x801 0x3FD).put 0x802 0x3F8).onDie 0 (fun x => { x with rdy := true, low := false, everRdy := true, gduv := false })).onMot 1 (fun x => { x with state := MState.run, compOn := some 3999999000, lebDone := true })).put 0x700C 0).put 0x70A0 0), by decide +kernel⟩,
   ⟨on (fun d => (((((({ d with inForce := (d.put 0x7008 0x1).words }).put 0x801 0x3FD).put 0x802 0x3F8).onDie 0 (fun x => { x with rdy := true, low := false, everRdy := true, gduv := false })).onMot 1 (fun x => { x with state := MState.run, compOn := some 3999999000, lebDone := true })).put 0x700C 0).put 0x70A0 0), by decide +kernel⟩,
   ⟨on (fun d => (((((d).put 0x801 0x3FD).put 0x802 0x3F8).onDie 0 (fun x => { x with rdy := true, low := false, everRdy := true, gduv := false })).onMot 1 (fun x => { x with compOn := some 3999999000 })).put 0x700D 0), by decide +kernel⟩⟩

theorem met_Comparators_2 :
    (∃ s : State, s.dev.runs = true ∧ s.dev.glintOn (grpOf 1) = true ∧ (s.dev.mot 1).compOn = some 3999999000 ∧ 3999999000 + 20 * s.dev.ifld (aCur 1 2) 11 8 ≤ s.dev.cycles ∧ s.dev.bit (aCur 1 5) 0 = true ∧ (s.dev.mot 1).state = .run ∧ s.dev.ibit (aCur 1 0) 0 = true ∧ s.dev.currentPowered 1 = true ∧ s.dev.bit (aCur 1 4) 0 = false ∧ s.dev.underCheck 0 1 = false) ∧
    (∃ s : State, s.dev.runs = true ∧ s.dev.glintOn (grpOf 1) = true ∧ s.dev.underCheck 1 1 = false ∧ s.dev.shortOut 1 (9000000) = true) ∧
    (∃ s : State, s.dev.runs = true ∧ s.dev.glintOn (grpOf 1) = true ∧ s.dev.underCheck 1 1 = false ∧ s.dev.shortOut 1 (-9000000) = true) :=
  ⟨⟨on (fun d => ((((((({ d with inForce := (d.put 0x7008 0x1).words }).put 0x801 0x3FD).put 0x802 0x3F8).onDie 0 (fun x => { x with rdy := true, low := false, everRdy := true, gduv := false })).onMot 1 (fun x => { x with state := MState.run, compOn := some 3999999000 })).put 0x700D 1).put 0x700C 0).put 0x70A0 0), by decide +kernel⟩,
   ⟨on (fun d => ((((d).put 0x801 0x3FD).put 0x802 0x3F8).onDie 0 (fun x => { x with rdy := true, low := false, everRdy := true, gduv := false })).put 0x70A0 0), by decide +kernel⟩,
   ⟨on (fun d => ((((d).put 0x801 0x3FD).put 0x802 0x3F8).onDie 0 (fun x => { x with rdy := true, low := false, everRdy := true, gduv := false })).put 0x70A0 0), by decide +kernel⟩⟩

theorem met_Comparators_3 :
    (∃ s : State, s.dev.runs = true ∧ s.dev.glintOn (grpOf 1) = true ∧ s.dev.underCheck 1 1 = false ∧ s.dev.shortOut 1 (0) = false) ∧
    (∃ s : State, s.dev.runs = true ∧ s.dev.glintOn (grpOf 1) = true ∧ s.dev.phasePowered 1 = true ∧ s.dev.underCheck 2 (bridgeOf 1 2).1 = false ∧ s.dev.phaseOut 1 2 (9000000) = true) ∧
    (∃ s : State, s.dev.runs = true ∧ s.dev.glintOn (grpOf 1) = true ∧ s.dev.phasePowered 1 = true ∧ s.dev.underCheck 2 (bridgeOf 1 2).1 = false ∧ s.dev.phaseOut 1 2 (-9000000) = false) :=
  ⟨⟨on (fun d => ((((d).put 0x801 0x3FD).put 0x802 0x3F8).onDie 0 (fun x => { x with rdy := true, low := false, everRdy := true, gduv := false })).put 0x70A0 0), by decide +kernel⟩,
   ⟨on (fun d => (((({ d with inForce := (d.put 0x7008 0).words }).put 0x801 0x3FD).put 0x802 0x3F8).onDie 0 (fun x => { x with rdy := true, low := false, everRdy := true, gduv := false })).put 0x70A0 0), by decide +kernel⟩,
   ⟨on (fun d => (((({ d with inForce := (d.put 0x7008 0).words }).put 0x801 0x3FD).put 0x802 0x3F8).onDie 0 (fun x => { x with rdy := true, low := false, everRdy := true, gduv := false })).put 0x70A0 0), by decide +kernel⟩⟩

theorem met_Comparators_4 :
    (∃ s : State, s.dev.runs = true ∧ s.dev.glintOn 0 = true ∧ s.dev.underCheck 3 0 = false ∧ s.dev.bit (aBus 0 1) 0 = false ∧ s.dev.bit (aSup 0 0) 1 = true ∧ s.dev.busOut 0 900000000 = true) ∧
    (∃ s : State, s.dev.runs = true ∧ s.dev.glintOn 0 = true ∧ s.dev.underCheck 3 0 = false ∧ s.dev.bit (aBus 0 1) 0 = false ∧ s.dev.bit (aSup 0 0) 1 = false ∧ s.dev.busOut 0 900000000 = true) ∧
    (∃ s : State, s.dev.runs = true ∧ s.dev.glintOn 0 = true ∧ s.dev.busOut 0 0 = false) :=
  ⟨⟨on (fun d => ((((((d).put 0x801 0x3FD).put 0x802 0x3F8).onDie 0 (fun x => { x with rdy := true, low := false, everRdy := true, gduv := false })).put 0x70A0 0).put 0x7081 0).putB 0x6400 1 true), by decide +kernel⟩,
   ⟨on (fun d => ((((((d).put 0x801 0x3FD).put 0x802 0x3F8).onDie 0 (fun x => { x with rdy := true, low := false, everRdy := true, gduv := false })).put 0x70A0 0).put 0x7081 0).putB 0x6400 1 false), by decide +kernel⟩,
   ⟨on (fun d => (((d).put 0x801 0x3FD).put 0x802 0x3F8).onDie 0 (fun x => { x with rdy := true, low := false, everRdy := true, gduv := false })), by decide +kernel⟩⟩

theorem met_Comparators_5 :
    (∃ s : State, s.dev.writeOk 0 0x70A0 = true ∧ ∀ m ∈ checkMotors (bits 0x35 7 6) (bits 0x35 5 0), (s.dev.mot m).state = .idle) ∧
    (∃ s : State, s.dev.writeOk 0 0x70A0 = true ∧ s.dev.part = .otl9616 ∧ ∃ m ∈ checkMotors (bits 0x05 7 6) (bits 0x05 5 0), (s.dev.mot m).state ≠ .idle) :=
  ⟨⟨on (fun d => { d with motors := Vector.replicate 16 {} }), by decide +kernel⟩,
   ⟨on (fun d => ({ d with part := .otl9616 }).onMot 5 (fun x => { x with state := MState.run })), by decide +kernel⟩⟩

theorem met_Chopper_1 :
    (∃ s : State, s.dev.runs = true ∧ s.dev.bit (aSup 0 7) 3 ≠ true) ∧
    (∃ s : State, s.dev.runs = true ∧ s.dev.chopEn 0 = true ∧ s.dev.bit (aSup 0 7) 3 = true ∧ max (s.dev.grp 0).brkAt (s.dev.grp 0).fbAt + 400 ≤ s.dev.cycles ∧ s.dev.brk 0 = true ∧ (s.dev.grp 0).epNf = false ∧ (s.dev.grp 0).epStk = false) ∧
    (∃ s : State, s.dev.runs = true ∧ s.dev.bit (aSup 0 7) 3 ≠ false) :=
  ⟨⟨on (fun d => ((d).putB 0x6400 0 true).putB 0x6407 3 false), by decide +kernel⟩,
   ⟨on (fun d => ((((d).putB 0x6400 0 true).onGrp 0 (fun x => { x with brkAt := 3999999600, fbAt := 3999999500, epNf := false, epStk := false })).putB 0x6407 3 true).putB 0x6407 2 true), by decide +kernel⟩,
   ⟨on (fun d => ((d).putB 0x6400 0 true).putB 0x6407 3 true), by decide +kernel⟩⟩

theorem met_Chopper_2 :
    (∃ s : State, s.dev.runs = true ∧ s.dev.chopEn 0 = true ∧ s.dev.bit (aSup 0 7) 3 = false ∧ max (s.dev.grp 0).brkAt (s.dev.grp 0).fbAt + 400 ≤ s.dev.cycles ∧ s.dev.brk 0 = false ∧ (s.dev.grp 0).epNf = false ∧ (s.dev.grp 0).epStk = false) ∧
    (∃ s : State, s.dev.hasGrp 0 = true ∧ s.dev.writeOk 0 (aSup 0 0xD) = true ∧ s.dev.chopEn 0 = true ∧ s.dev.level 0 = 0 ∧ (s.dev.grp 0).test = none) ∧
    (∃ s : State, s.dev.hasGrp 0 = true ∧ s.dev.writeOk 0 (aSup 0 0xD) = true ∧ s.dev.chopEn 0 = true ∧ s.dev.level 0 ≠ 0) :=
  ⟨⟨on (fun d => ((((d).putB 0x6400 0 true).onGrp 0 (fun x => { x with brkAt := 3999999600, fbAt := 3999999500, epNf := false, epStk := false })).putB 0x6407 3 false).putB 0x6407 2 false), by decide +kernel⟩,
   ⟨on (fun d => (((d).putB 0x6400 0 true).putF 0x6407 1 0 0).onGrp 0 (fun x => { x with test := none })), by decide +kernel⟩,
   ⟨on (fun d => ((d).putB 0x6400 0 true).putF 0x6407 1 0 1), by decide +kernel⟩⟩

theorem met_Chopper_3 :
    ∃ s : State, s.dev.runs = true ∧ (s.dev.grp 0).test = some 3999999000 ∧ 3999999000 ≤ s.dev.cycles :=
  ⟨on (fun d => (d).onGrp 0 (fun x => { x with test := some 3999999000 })), by decide +kernel⟩

theorem met_Conversions_1 :
    (∃ s : State, s.dev.runs = true ∧ s.dev.prmReady 0 = false) ∧
    (∃ s : State, s.dev.runs = true ∧ s.dev.prmReady 0 = true ∧ (s.dev.prm 0).pwr = true ∧ (s.dev.prm 0).inUrg = none ∧ (s.dev.prm 0).nextUrgent = none ∧ (s.dev.prm 0).phase = .entry ∧ 0 < (s.dev.prm 0).left) ∧
    (∃ s : State, s.dev.runs = true ∧ s.dev.prmReady 0 = true ∧ (s.dev.prm 0).pwr = true ∧ (s.dev.prm 0).inUrg = none ∧ (s.dev.prm 0).nextUrgent = none ∧ (s.dev.prm 0).phase = .entry ∧ 0 < (s.dev.prm 0).left) :=
  ⟨⟨on (fun d => { d with power := { d.power with prismLock := false } }), by decide +kernel⟩,
   ⟨on (fun d => ((({ d with power := { d.power with prismLock := true } }).put 0x801 0x3FD).put 0x802 0x3F8).onPrm 0 (fun x => { x with pwr := true, inUrg := none, therm := none, urg := [], phase := .entry, left := 1, pos := x.pos % 127 })), by decide +kernel⟩,
   ⟨on (fun d => ((({ d with power := { d.power with prismLock := true } }).put 0x801 0x3FD).put 0x802 0x3F8).onPrm 0 (fun x => { x with pwr := true, inUrg := none, therm := none, urg := [], phase := .entry, left := 3, pos := x.pos % 127 })), by decide +kernel⟩⟩

theorem met_Conversions_2 :
    (∃ s : State, s.dev.runs = true ∧ s.dev.prmReady 0 = true ∧ (s.dev.prm 0).pwr = true ∧ (s.dev.prm 0).inUrg = none ∧ ((s.dev.prm 0).nextUrgent.map (·.1)) = some ⟨7, 9, 2, none⟩) ∧
    (∃ s : State, s.dev.runs = true ∧ s.dev.prmReady 0 = true ∧ (s.dev.prm 0).flight = [⟨1, 63, 3⟩]) ∧
    (∃ s : State, s.dev.runs = true ∧ s.dev.prmReady 0 = true ∧ (s.dev.prm 0).flight = [⟨1, 5, 3⟩] ∧ (s.dev.acc 0 3).waits = false ∧ (s.dev.acc 0 3).closed = false ∧ (s.dev.acc 0 3).n + 1 < (s.dev.acc 0 3).total) :=
  ⟨⟨on (fun d => ((({ d with power := { d.power with prismLock := true } }).put 0x801 0x3FD).put 0x802 0x3F8).onPrm 0 (fun x => { x with pwr := true, inUrg := none, therm := none, urg := [⟨7, 9, 2, none⟩] })), by decide +kernel⟩,
   ⟨on (fun d => ((({ d with power := { d.power with prismLock := true } }).put 0x801 0x3FD).put 0x802 0x3F8).onPrm 0 (fun x => { x with flight := [⟨1, 63, 3⟩] })), by decide +kernel⟩,
   ⟨on (fun d => (((({ d with power := { d.power with prismLock := true } }).put 0x801 0x3FD).put 0x802 0x3F8).onPrm 0 (fun x => { x with flight := [⟨1, 5, 3⟩] })).onAcc 0 3 (fun x => { x with waits := false, closed := false, n := 2, cfg := 0x0005 })), by decide +kernel⟩⟩

theorem met_Conversions_3 :
    (∃ s : State, s.dev.runs = true ∧ s.dev.prmReady 0 = true ∧ (s.dev.acc 0 3).frame = true ∧ (s.dev.acc 0 3).closed = false ∧ (s.dev.acc 0 3).waits = false ∧ (s.dev.acc 0 3).total ≤ (s.dev.acc 0 3).n ∧ s.dev.closePoint 0 (s.dev.acc 0 3) ≤ s.dev.frameTick 0) ∧
    (∃ s : State, (s.dev.acc 0 5).frame = true ∧ (s.dev.acc 0 5).closed = false ∧ (s.dev.acc 0 5).waits = false ∧ (s.dev.acc 0 5).total ≤ (s.dev.acc 0 5).n ∧ s.dev.closePoint 0 (s.dev.acc 0 5) ≤ s.dev.frameTick 0 ∧ s.dev.prmReady 0 = true ∧ s.dev.runs = true ∧ s.dev.fld (aSup 0 0) 7 2 = 5) ∧
    (∃ s : State, (s.dev.acc 0 5).frame = true ∧ (s.dev.acc 0 5).closed = false ∧ (s.dev.acc 0 5).waits = false ∧ (s.dev.acc 0 5).total ≤ (s.dev.acc 0 5).n ∧ s.dev.closePoint 0 (s.dev.acc 0 5) ≤ s.dev.frameTick 0 ∧ s.dev.prmReady 0 = true ∧ s.dev.runs = true ∧ s.dev.fld (aSup 0 0) 7 2 = 5) :=
  ⟨⟨on (fun d => (((({ d with power := { d.power with prismLock := true } }).put 0x801 0x3FD).put 0x802 0x3F8).onGrp 0 (fun x => { x with running := true, frameAt := 3999995000, period := 10000 })).onAcc 0 3 (fun x => { x with waits := false, closed := false, frame := true, n := 20, cfg := 0x8005, cpt := 4000 })), by decide +kernel⟩,
   ⟨on (fun d => (((((((((({ d with power := { d.power with prismLock := true } }).put 0x801 0x3FD).put 0x802 0x3F8).onGrp 0 (fun x => { x with running := true, frameAt := 3999990000, period := 10000 })).onPrm 0 (fun x => { x with acc := upd x.acc 5 (fun _ => { frame := true, cfg := 0x4000, cpt := 0, sum := 100, n := 2, waits := false }) })).putF 0x6400 7 2 5).putF 0x6407 1 0 0).put 0x6401 1000).put 0x6402 2000).put 0x6403 3000).put 0x6404 50), by decide +kernel⟩,
   ⟨on (fun d => (((((((((({ d with power := { d.power with prismLock := true } }).put 0x801 0x3FD).put 0x802 0x3F8).onGrp 0 (fun x => { x with running := true, frameAt := 3999990000, period := 10000 })).onPrm 0 (fun x => { x with acc := upd x.acc 5 (fun _ => { frame := true, cfg := 0x4000, cpt := 0, sum := 4100, n := 2, waits := false }) })).putF 0x6400 7 2 5).putF 0x6407 1 0 3).put 0x6401 1000).put 0x6402 2000).put 0x6403 3000).put 0x6404 1000), by decide +kernel⟩⟩

theorem met_Conversions_4 :
    (∃ s : State, s.dev.runs = true ∧ s.dev.prmReady 0 = true ∧ (s.dev.prm 0).flight = [⟨1, 5, 3⟩] ∧ (s.dev.acc 0 3).waits = false ∧ (s.dev.acc 0 3).frame = true ∧ (s.dev.acc 0 3).closed = true) ∧
    (∃ s : State, s.dev.runs = true ∧ s.dev.prmReady 0 = true ∧ (s.dev.prm 0).flight = [⟨1, 5, 3⟩] ∧ (s.dev.acc 0 3).waits = false ∧ (s.dev.acc 0 3).frame = true ∧ (s.dev.acc 0 3).closed = false ∧ (s.dev.acc 0 3).total ≤ (s.dev.acc 0 3).n) ∧
    (∃ s : State, s.dev.runs = true ∧ s.dev.prmReady 0 = true ∧ (s.dev.prm 0).flight = [⟨1, 5, 3⟩] ∧ (s.dev.acc 0 3).waits = false ∧ (s.dev.acc 0 3).frame = true ∧ (s.dev.acc 0 3).closed = false ∧ (s.dev.acc 0 3).n + 1 = (s.dev.acc 0 3).total ∧ s.dev.frameTick 0 < s.dev.closePoint 0 (s.dev.acc 0 3)) :=
  ⟨⟨on (fun d => ((((({ d with power := { d.power with prismLock := true } }).put 0x801 0x3FD).put 0x802 0x3F8).onPrm 0 (fun x => { x with flight := [⟨1, 5, 3⟩] })).onGrp 0 (fun x => { x with running := true, frameAt := 3999995000, period := 10000 })).onAcc 0 3 (fun x => { x with waits := false, frame := true, closed := true })), by decide +kernel⟩,
   ⟨on (fun d => ((((({ d with power := { d.power with prismLock := true } }).put 0x801 0x3FD).put 0x802 0x3F8).onPrm 0 (fun x => { x with flight := [⟨1, 5, 3⟩] })).onGrp 0 (fun x => { x with running := true, frameAt := 3999995000, period := 10000 })).onAcc 0 3 (fun x => { x with waits := false, frame := true, closed := false, cfg := 0x8005, n := 6 })), by decide +kernel⟩,
   ⟨on (fun d => ((((({ d with power := { d.power with prismLock := true } }).put 0x801 0x3FD).put 0x802 0x3F8).onPrm 0 (fun x => { x with flight := [⟨1, 5, 3⟩] })).onGrp 0 (fun x => { x with running := true, frameAt := 3999995000, period := 10000 })).onAcc 0 3 (fun x => { x with waits := false, frame := true, closed := false, cfg := 0x8005, n := 5, cpt := 20000 })), by decide +kernel⟩⟩

theorem met_Conversions_5 :
    (∃ s : State, s.dev.runs = true ∧ s.dev.prmReady 0 = true ∧ (s.dev.prm 0).flight = [⟨1, 5, 3⟩] ∧ (s.dev.acc 0 3).waits = false ∧ (s.dev.acc 0 3).frame = true ∧ (s.dev.acc 0 3).closed = false ∧ (s.dev.acc 0 3).n + 1 = (s.dev.acc 0 3).total ∧ s.dev.closePoint 0 (s.dev.acc 0 3) < s.dev.frameTick 0) ∧
    (∃ s : State, s.dev.runs = true ∧ s.dev.prmReady 0 = true ∧ (s.dev.prm 0).flight = [⟨1, 5, 3⟩] ∧ (s.dev.acc 0 3).waits = false ∧ (s.dev.acc 0 3).frame = false ∧ (s.dev.acc 0 3).n + 1 = (s.dev.acc 0 3).total) ∧
    (∃ s : State, s.dev.runs = true ∧ s.dev.prmReady 0 = true ∧ (s.dev.prm 0).flight = [⟨1, 5, 3⟩] ∧ (s.dev.acc 0 3).waits = false ∧ (s.dev.acc 0 3).frame = false ∧ (s.dev.acc 0 3).n + 1 < (s.dev.acc 0 3).total) :=
  ⟨⟨on (fun d => ((((({ d with power := { d.power with prismLock := true } }).put 0x801 0x3FD).put 0x802 0x3F8).onPrm 0 (fun x => { x with flight := [⟨1, 5, 3⟩] })).onGrp 0 (fun x => { x with running := true, frameAt := 3999995000, period := 10000 })).onAcc 0 3 (fun x => { x with waits := false, frame := true, closed := false, cfg := 0x8005, n := 5, cpt := 4000 })), by decide +kernel⟩,
   ⟨on (fun d => ((((({ d with power := { d.power with prismLock := true } }).put 0x801 0x3FD).put 0x802 0x3F8).onPrm 0 (fun x => { x with flight := [⟨1, 5, 3⟩] })).onGrp 0 (fun x => { x with running := true, frameAt := 3999995000, period := 10000 })).onAcc 0 3 (fun x => { x with waits := false, frame := false, cfg := 0x2005, n := 5, sum := 400000 })), by decide +kernel⟩,
   ⟨on (fun d => ((((({ d with power := { d.power with prismLock := true } }).put 0x801 0x3FD).put 0x802 0x3F8).onPrm 0 (fun x => { x with flight := [⟨1, 5, 3⟩] })).onGrp 0 (fun x => { x with running := true, frameAt := 3999995000, period := 10000 })).onAcc 0 3 (fun x => { x with waits := false, frame := false, cfg := 0x2005, n := 3 })), by decide +kernel⟩⟩

theorem met_Sequencer_1 :
    (∃ s : State, s.dev.runs = true ∧ (s.dev.prm 0).phase = .waitSync ∧ (s.dev.prm 0).seqt.toNat ≤ s.dev.frameTick 0) ∧
    (∃ s : State, s.dev.runs = true ∧ (s.dev.prm 0).phase = .idle 3999999000 ∧ 3999999000 ≤ s.dev.cycles ∧ (s.dev.prm 0).stopReq = true) ∧
    (∃ s : State, s.dev.runs = true ∧ (s.dev.prm 0).phase = .idle 3999999000 ∧ 3999999000 ≤ s.dev.cycles ∧ (s.dev.prm 0).stopReq = false) :=
  ⟨⟨on (fun d => ((d).onPrm 0 (fun x => { x with phase := .waitSync, seqt := 1000 })).onGrp 0 (fun x => { x with frameAt := 3999990000 })), by decide +kernel⟩,
   ⟨on (fun d => (d).onPrm 0 (fun x => { x with phase := .idle 3999999000, stopReq := true })), by decide +kernel⟩,
   ⟨on (fun d => ((d).onPrm 0 (fun x => { x with phase := .idle 3999999000, stopReq := false, pos := 4 })).put 0x8105 0x1234), by decide +kernel⟩⟩

theorem met_Sequencer_2 :
    (∃ s : State, s.dev.runs = true ∧ (s.dev.prm 0).nextUrgent.isSome = true) ∧
    (∃ s : State, s.dev.hasGrp 0 = true ∧ s.dev.writeOk 0 (aPrm 0 0) = true ∧ s.dev.locked' = false ∧ s.dev.runBlocked = false ∧ s.dev.prmReady 0 = true ∧ s.dev.bit (aPrm 0 0) 0 = false) ∧
    (∃ s : State, s.dev.hasGrp 0 = true ∧ s.dev.writeOk 0 (aPrm 0 0) = true ∧ s.dev.locked' = false ∧ s.dev.runBlocked = false ∧ s.dev.prmReady 0 = true ∧ s.dev.bit (aPrm 0 0) 0 = false) :=
  ⟨⟨on (fun d => (d).onPrm 0 (fun x => { x with urg := [⟨1, 2, 3, none⟩] })), by decide +kernel⟩,
   ⟨on (fun d => ((((({ d with power := { d.power with prismLock := true } }).put 0x801 0x3FD).put 0x802 0x3F8).putB 0x8000 0 false).putB 0xF401 13 false).onGrp 0 (fun x => { x with running := true })), by decide +kernel⟩,
   ⟨on (fun d => (((((({ d with power := { d.power with prismLock := true } }).put 0x801 0x3FD).put 0x802 0x3F8).putB 0x8000 0 false).putB 0xF401 13 false).onGrp 0 (fun x => { x with running := false })).putB 0x11 0 false), by decide +kernel⟩⟩

theorem met_Sequencer_3 :
    (∃ s : State, s.dev.hasGrp 0 = true ∧ s.dev.writeOk 0 (aPrm 0 0) = true ∧ s.dev.locked' = false ∧ s.dev.bit (aPrm 0 0) 0 = true ∧ (s.dev.prm 0).phase = .entry) ∧
    (∃ s : State, s.dev.hasGrp 0 = true ∧ s.dev.writeOk 0 (aPrm 0 0) = true ∧ s.dev.locked' = false ∧ s.dev.bit (aPrm 0 0) 0 = true ∧ (s.dev.prm 0).phase = .waitStart) ∧
    (∃ s : State, s.dev.hasGrp 0 = true ∧ s.dev.writeOk 0 (aPrm 0 5) = true ∧ s.dev.prmOn 0 = true ∧ (s.dev.prm 0).pendCount = 3) :=
  ⟨⟨on (fun d => ((d).putB 0x8000 0 true).onPrm 0 (fun x => { x with phase := .entry })), by decide +kernel⟩,
   ⟨on (fun d => ((d).putB 0x8000 0 true).onPrm 0 (fun x => { x with phase := .waitStart })), by decide +kernel⟩,
   ⟨on (fun d => (((d).put 0x801 0x3FD).put 0x802 0x3F8).onPrm 0 (fun x => { x with urg := List.replicate 3 ⟨1, 2, 3, none⟩, inUrg := none })), by decide +kernel⟩⟩

theorem met_Sequencer_4 :
    (∃ s : State, s.dev.hasGrp 0 = true ∧ s.dev.writeOk 0 (aPrm 0 5) = true ∧ s.dev.prmOn 0 = true ∧ (s.dev.prm 0).pendCount = 4) ∧
    (∃ s : State, s.dev.runs = true ∧ s.dev.prmReady 0 = true ∧ (s.dev.prm 0).pwr = true ∧ (s.dev.prm 0).inUrg = none ∧ (s.dev.prm 0).nextUrgent = none ∧ (s.dev.prm 0).phase = .entry ∧ (s.dev.prm 0).left = 0 ∧ (s.dev.prm 0).pos < 128 ∧ bits (s.dev.w (aPrm 0 (0x100 + (s.dev.prm 0).pos))) 1 0 = 0) ∧
    (∃ s : State, s.dev.runs = true ∧ s.dev.prmReady 0 = true ∧ (s.dev.prm 0).pwr = true ∧ (s.dev.prm 0).inUrg = none ∧ (s.dev.prm 0).nextUrgent = none ∧ (s.dev.prm 0).phase = .entry ∧ (s.dev.prm 0).left = 0 ∧ (s.dev.prm 0).pos < 128 ∧ bits (s.dev.w (aPrm 0 (0x100 + (s.dev.prm 0).pos))) 1 0 = 0) :=
  ⟨⟨on (fun d => (((d).put 0x801 0x3FD).put 0x802 0x3F8).onPrm 0 (fun x => { x with urg := List.replicate 4 ⟨1, 2, 3, none⟩, inUrg := none })), by decide +kernel⟩,
   ⟨on (fun d => ((((({ d with power := { d.power with prismLock := true } }).put 0x801 0x3FD).put 0x802 0x3F8).put 0x8103 0x0C14).onSen 1 (fun x => { x with queued := 0, sent := false, arr := 0, sentArr := 0 })).onPrm 0 (fun x => { x with pwr := true, inUrg := none, therm := none, urg := [], phase := .entry, left := 0, pos := 3, stopReq := true, lpAct := false })), by decide +kernel⟩,
   ⟨on (fun d => ((((({ d with power := { d.power with prismLock := true } }).put 0x801 0x3FD).put 0x802 0x3F8).put 0x8109 0x000C).onSen 1 (fun x => { x with queued := 1, sent := false, arr := 0, sentArr := 0 })).onPrm 0 (fun x => { x with pwr := true, inUrg := none, therm := none, urg := [], phase := .entry, left := 0, pos := 9, stopReq := false, lpAct := false })), by decide +kernel⟩⟩

theorem met_Sequencer_5 :
    (∃ s : State, s.dev.hasGrp 0 = true ∧ s.dev.writeOk 0 (aPrm 0 0) = true ∧ s.dev.locked' = false ∧ s.dev.bit (aPrm 0 0) 0 = true) ∧
    (∃ s : State, s.dev.hasGrp 0 = true ∧ s.dev.writeOk 0 (aPrm 0 0) = true ∧ s.dev.locked' = false ∧ s.dev.bit (aPrm 0 0) 0 = true) ∧
    (∃ s : State, s.dev.runs = true ∧ (s.dev.prm 0).phase = .idle 3999999000 ∧ 3999999000 ≤ s.dev.cycles ∧ (s.dev.prm 0).stopReq = false ∧ s.dev.frameLocked 0 = true) :=
  ⟨⟨on (fun d => ((d).putB 0x8000 0 true).onPrm 0 (fun x => { x with phase := .entry, left := 0 })), by decide +kernel⟩,
   ⟨on (fun d => ((d).putB 0x8000 0 true).onPrm 0 (fun x => { x with phase := .entry, left := 5 })), by decide +kernel⟩,
   ⟨on (fun d => (((((d).onGrp 0 (fun x => { x with running := true, frameAt := 3999990000, period := 10000 })).putB 0x8000 6 true).putB 0x11 0 true).onPrm 0 (fun x => { x with phase := .idle 3999999000, stopReq := false, pos := 4 })).put 0x8105 0x1237), by decide +kernel⟩⟩

theorem met_Sequencer_6 :
    ∃ s : State, s.dev.runs = true ∧ (s.dev.prm 0).phase = .idle 3999999000 ∧ 3999999000 ≤ s.dev.cycles ∧ (s.dev.prm 0).stopReq = false ∧ s.dev.frameLocked 0 = false :=
  ⟨on (fun d => (((((d).onGrp 0 (fun x => { x with running := true, frameAt := 3999990000, period := 10000 })).putB 0x8000 6 false).putB 0x11 0 true).onPrm 0 (fun x => { x with phase := .idle 3999999000, stopReq := false, pos := 4 })).put 0x8105 0x1234), by decide +kernel⟩

theorem met_CoefficientsAndPrismClock_1 :
    (∃ s : State, s.dev.runs = true ∧ 4096 ≤ (s.dev.prm 0).conv ∧ s.dev.bit (aPrm 0 0) 5 = true) ∧
    (∃ s : State, s.dev.runs = true ∧ 4096 ≤ (s.dev.prm 0).conv ∧ s.dev.bit (aPrm 0 0) 5 = false) ∧
    (∃ s : State, s.dev.hasGrp 1 = true ∧ s.dev.writeOk 0 (aTrk 1 7 0) = true) :=
  ⟨⟨on (fun d => ((d).onPrm 0 (fun x => { x with conv := 4100 })).putB 0x8000 5 true), by decide +kernel⟩,
   ⟨on (fun d => ((d).onPrm 0 (fun x => { x with conv := 4100 })).putB 0x8000 5 false), by decide +kernel⟩,
   ⟨on (fun d => d), by decide +kernel⟩⟩

theorem met_CoefficientsAndPrismClock_2 :
    (∃ s : State, s.dev.runs = true ∧ s.dev.power.prismLock = true ∧ s.dev.hasGrp 0 = true ∧ s.dev.prmOn 0 = true) ∧
    (∃ s : State, s.dev.runs = true ∧ s.dev.power.prismLock = false ∧ s.dev.bit 0x810 1 = true ∧ s.dev.domOn 4 = true ∧ s.dev.hasGrp 0 = true ∧ s.dev.prmOn 0 = true ∧ s.dev.domRdy (prismDom 0) = true) ∧
    (∃ s : State, s.dev.runs = true ∧ 4096 ≤ (s.dev.prm 0).conv ∧ s.dev.bit (aPrm 0 0) 5 = false ∧ (s.dev.prm 0).lpAct = false ∧ (∀ i : Fin 4, 16 ≤ (s.dev.prm 0).refz[i] ∧ 16 ≤ (s.dev.prm 0).refh[i])) :=
  ⟨⟨on (fun d => (({ d with power := { d.power with prismLock := true } }).put 0x801 0x3FD).put 0x802 0x3F8), by decide +kernel⟩,
   ⟨on (fun d => (({ d with power := { d.power with prismLock := false } }).put 0x801 0x3FD).put 0x802 0x3F8 |>.putB 0x810 1 true), by decide +kernel⟩,
   ⟨on (fun d => (({ d with power := { d.power with prismLock := true } }).putB 0x8000 5 false).onPrm 0 (fun x => { x with conv := 4096, lpAct := false, refz := Vector.replicate 4 16, refh := Vector.replicate 4 16, skew := #v[255, 256, 2, 256] })), by decide +kernel⟩⟩

theorem met_CoefficientsAndPrismClock_3 :
    ∃ s : State, s.dev.runs = true ∧ 4096 ≤ (s.dev.prm 0).conv ∧ s.dev.bit (aPrm 0 0) 5 = false ∧ (s.dev.prm 0).lpAct = false ∧ (∃ i : Fin 4, (s.dev.prm 0).refz[i] < 16 ∨ (s.dev.prm 0).refh[i] < 16) ∧ (s.dev.prm 0).skew[0] < 256 ∧ 256 ≤ (s.dev.prm 0).skew[1] :=
  ⟨on (fun d => (({ d with power := { d.power with prismLock := true } }).putB 0x8000 5 false).onPrm 0 (fun x => { x with conv := 4096, lpAct := false, refz := Vector.replicate 4 15, refh := Vector.replicate 4 16, skew := #v[255, 256, 2, 256] })), by decide +kernel⟩

theorem met_Counting_1 :
    (∃ s : State, s.dev.runs = true ∧ s.dev.inFallback 3 = false ∧ s.dev.fld (aFb 3 0) 1 0 = 1) ∧
    (∃ s : State, s.dev.runs = true ∧ s.dev.inFallback 3 = false ∧ s.dev.fld (aFb 3 0) 1 0 = 3) ∧
    (∃ s : State, s.dev.runs = true ∧ s.dev.inFallback 3 = true) :=
  ⟨⟨on (fun d => let d := ((d).putF 0xA060 1 0 1).putB 0xA068 3 false; { d with cyc0 := d.words }), by decide +kernel⟩,
   ⟨on (fun d => let d := ((d).putF 0xA060 1 0 3).putB 0xA068 3 false; { d with cyc0 := d.words }), by decide +kernel⟩,
   ⟨on (fun d => let d := (d).putB 0xA068 3 true; { d with cyc0 := d.words }), by decide +kernel⟩⟩

theorem met_Counting_2 :
    (∃ s : State, s.dev.runs = true ∧ s.dev.inFallback 3 = false ∧ s.dev.fbEnabled 3 = false ∧ s.dev.ifld (aFb 3 1) 15 8 = 1 ∧ (s.dev.fb 3).glWin ≠ s.dev.time.toNat / 10000) ∧
    (∃ s : State, s.dev.runs = true ∧ (s.dev.fb 3).hist = [3999990000, 3999980000] ∧ s.dev.inFallback 3 = false ∧ s.dev.cycles % 200 = 0 ∧ 0 < (s.dev.fb 3).lastIv ∧ (s.dev.fb 3).lastIv < s.dev.cycles - 3999990000) ∧
    (∃ s : State, s.dev.runs = true ∧ (s.dev.fb 3).lastAt = some 3000000000 ∧ s.dev.inFallback 3 = false ∧ s.dev.bit (aFb 3 8) 2 = false ∧ max 1 (s.dev.ifld (aFb 3 1) 7 0) * 200000 ≤ s.dev.cycles - 3000000000) :=
  ⟨⟨on (fun d => let d := ((({ d with inForce := ((d.put 0xA060 0).put 0xA061 0x0100).words }).putF 0xA060 1 0 1).putB 0xA068 3 false).onFb 3 (fun x => { x with glWin := 1 }); { d with cyc0 := d.words }), by decide +kernel⟩,
   ⟨on (fun d => let d := ((d).putB 0xA068 3 false).onFb 3 (fun x => { x with hist := [3999990000, 3999980000], lastIv := 500 }); { d with cyc0 := d.words }), by decide +kernel⟩,
   ⟨on (fun d => let d := (((d).putB 0xA068 3 false).putB 0xA068 2 false).onFb 3 (fun x => { x with hist := [3000000000, 2999980000], lastAt := some 3000000000 }); { d with cyc0 := d.words }), by decide +kernel⟩⟩

theorem met_Counting_3 :
    (∃ s : State, s.dev.writeOk 0 (aFb 3 0xD) = true) ∧
    (∃ s : State, s.dev.writeOk 0 (aFb 20 0xD) = true) ∧
    (∃ s : State, s.dev.runs = true ∧ s.dev.copyDue 3 = true) :=
  ⟨⟨on (fun d => let d := d; { d with cyc0 := d.words }), by decide +kernel⟩,
   ⟨on (fun d => let d := d; { d with cyc0 := d.words }), by decide +kernel⟩,
   ⟨on (fun d => let d := (d).putB 0x11 0 false; { d with cyc0 := d.words }), by decide +kernel⟩⟩

theorem met_Counting_4 :
    (∃ s : State, s.dev.writeOk 0 (aFb 3 0xD) = true ∧ (s.dev.fb 3).stepAt = 4000000000) ∧
    (∃ s : State, s.dev.writeOk 0 (aFb 3 0xD) = true ∧ (s.dev.fb 3).stepAt = 3999999999) ∧
    (∃ s : State, s.dev.runs = true ∧ s.dev.inFallback 3 = false ∧ bits (s.dev.w0 (aFb 3 0)) 1 0 = 2 ∧ (s.dev.fb 3).hist = []) :=
  ⟨⟨on (fun d => let d := d.onFb 3 (fun x => { x with stepAt := 4000000000, step := 3 }); { d with cyc0 := d.words }), by decide +kernel⟩,
   ⟨on (fun d => let d := d.onFb 3 (fun x => { x with stepAt := 3999999999, step := 3 }); { d with cyc0 := d.words }), by decide +kernel⟩,
   ⟨on (fun d => let d := ((({ d with power := { d.power with prismLock := true } }).putF 0xA060 1 0 2).putB 0xA068 3 false).onFb 3 (fun x => { x with hist := [] }); { d with cyc0 := d.words }), by decide +kernel⟩⟩

theorem met_Counting_5 :
    (∃ s : State, s.dev.runs = true ∧ s.dev.inFallback 3 = false ∧ bits (s.dev.w0 (aFb 3 0)) 1 0 = 2 ∧ (s.dev.fb 3).hist ≠ [] ∧ (s.dev.fb 3).lastNeg ≠ some false) ∧
    (∃ s : State, s.dev.runs = true ∧ s.dev.inFallback 3 = false ∧ bits (s.dev.w0 (aFb 3 0)) 1 0 = 2 ∧ (s.dev.fb 3).hist ≠ [] ∧ (s.dev.fb 3).lastNeg = some true ∧ 1 ≤ (s.dev.fb 3).edges) ∧
    (∃ s : State, s.dev.runs = true ∧ (s.dev.fb 3).hist = [3999990000] ∧ s.dev.inFallback 3 = false ∧ s.dev.cycles % 200 = 0 ∧ 0 < (s.dev.fb 3).lastIv ∧ (s.dev.fb 3).lastIv < s.dev.cycles - 3999990000 ∧ s.dev.spd 3 < 0) :=
  ⟨⟨on (fun d => let d := ((({ d with power := { d.power with prismLock := true } }).putF 0xA060 1 0 2).putB 0xA068 3 false).onFb 3 (fun x => { x with hist := [3999990000], lastNeg := some true }); { d with cyc0 := d.words }), by decide +kernel⟩,
   ⟨on (fun d => let d := ((({ d with power := { d.power with prismLock := true } }).putF 0xA060 1 0 2).putB 0xA068 3 false).onFb 3 (fun x => { x with hist := [3999990000], lastNeg := some true, edges := 1 }); { d with cyc0 := d.words }), by decide +kernel⟩,
   ⟨on (fun d => (({ d with power := { d.power with prismLock := true } }).onFb 3 (fun x => { x with hist := [3999990000], lastIv := 9999 })).put32 0xA066 (BitVec.ofInt 32 (-1000000))), by decide +kernel⟩⟩

theorem met_AbsoluteWord_1 :
    (∃ s : State, s.dev.writeOk 0 (aFb 3 0xD) = true ∧ s.dev.inFallback 3 = true) ∧
    (∃ s : State, s.dev.runs = true ∧ 0 < s.dev.cycles ∧ s.dev.cycles % 200 = 0 ∧ 0 < s.dev.fld (aFb 3 0x12) 7 0 ∧ s.dev.time.toNat % (1000 * s.dev.fld (aFb 3 0x12) 7 0) = 0) ∧
    (∃ s : State, s.dev.runs = true ∧ (s.dev.fb 3).busy = some .seed ∧ s.dev.inFallback 3 = false ∧ (s.dev.fb 3).latchAt + s.dev.absTicks 3 ≤ s.dev.cycles) :=
  ⟨⟨on (fun d => (d).putB 0xA068 3 true), by decide +kernel⟩,
   ⟨on (fun d => d.put 0xA072 0x0101), by decide +kernel⟩,
   ⟨on (fun d => (({ d with inForce := (d.put 0xA070 0x1400).words }).putB 0xA068 3 false).onFb 3 (fun x => { x with busy := some .seed, latchAt := 3000000000 })), by decide +kernel⟩⟩

theorem met_AbsoluteWord_2 :
    (∃ s : State, s.dev.runs = true ∧ (s.dev.fb 3).busy = some .seed ∧ s.dev.inFallback 3 = false ∧ (s.dev.fb 3).latchAt + s.dev.absTicks 3 ≤ s.dev.cycles ∧ decide ((ones (BitVec.ofNat 32 (0x1234567 % 2 ^ s.dev.absLen 3)) (s.dev.absLen 3) + true.toNat) % 2 = 1) = s.dev.ibit (aFb 3 0x10) 14) ∧
    (∃ s : State, s.dev.runs = true ∧ (s.dev.fb 3).busy = some .seed ∧ s.dev.inFallback 3 = false ∧ s.dev.cycles < (s.dev.fb 3).latchAt + s.dev.absTicks 3) :=
  ⟨⟨on (fun d => (({ d with inForce := (d.put 0xA070 0x5400).words }).putB 0xA068 3 false).onFb 3 (fun x => { x with busy := some .seed, latchAt := 3000000000 })), by decide +kernel⟩,
   ⟨on (fun d => (({ d with inForce := (d.put 0xA070 0x1400).words }).putB 0xA068 3 false).onFb 3 (fun x => { x with busy := some .seed, latchAt := 3999999999 })), by decide +kernel⟩⟩

theorem met_DistanceOutput_1 :
    (∃ s : State, s.dev.writeOk 0 0xA308 = true ∧ s.dev.locked' = false ∧ s.dev.bit 0xA308 15 = false) ∧
    (∃ s : State, s.dev.runs = true ∧ s.dev.dist.high = true ∧ s.dev.dist.dueAt ≤ s.dev.cycles) ∧
    (∃ s : State, s.dev.runs = true ∧ s.dev.dist.gap = true ∧ s.dev.dist.dueAt ≤ s.dev.cycles ∧ s.dev.fld 0xA30D 7 0 = 0) :=
  ⟨⟨on (fun d => (d).putB 0xA308 15 false), by decide +kernel⟩,
   ⟨on (fun d => { d with dist := { d.dist with high := true, gap := false, dueAt := 4000000000 } }), by decide +kernel⟩,
   ⟨on (fun d => ({ d with dist := { d.dist with high := false, gap := true, dueAt := 4000000000 } }).putF 0xA30D 7 0 0), by decide +kernel⟩⟩

theorem met_DistanceOutput_2 :
    ∃ s : State, s.dev.runs = true ∧ s.dev.dist.gap = true ∧ s.dev.dist.dueAt ≤ s.dev.cycles ∧ s.dev.fld 0xA30D 7 0 = 5 :=
  ⟨on (fun d => ({ d with dist := { d.dist with high := false, gap := true, dueAt := 4000000000 } }).putF 0xA30D 7 0 5), by decide +kernel⟩

theorem met_TraceChannels_1 :
    (∃ s : State, s.dev.runs = true ∧ s.dev.tickCycle = true ∧ s.dev.tickAt ≠ s.dev.cycles ∧ (s.dev.trc 9).on = false ∧ (s.dev.trc 9).wait = 0) ∧
    (∃ s : State, s.dev.runs = true ∧ s.dev.tickCycle = true ∧ s.dev.tickAt ≠ s.dev.cycles ∧ (s.dev.trc 9).on = true ∧ (s.dev.trc 9).wait = 3) ∧
    (∃ s : State, s.dev.runs = true ∧ s.dev.tickCycle = true ∧ s.dev.tickAt ≠ s.dev.cycles ∧ (s.dev.trc 9).on = true ∧ (s.dev.trc 9).wait = 1) :=
  ⟨⟨on (fun d => ({ d with tickAt := 0 }).onTrc 9 (fun x => { x with on := false, wait := 0 })), by decide +kernel⟩,
   ⟨on (fun d => ({ d with tickAt := 0 }).onTrc 9 (fun x => { x with on := true, wait := 3 })), by decide +kernel⟩,
   ⟨on (fun d => ({ d with tickAt := 0 }).onTrc 9 (fun x => { x with on := true, wait := 1 })), by decide +kernel⟩⟩

theorem met_TraceChannels_2 :
    (∃ s : State, s.dev.tickCycle = false) ∧
    (∃ s : State, s.dev.writeOk 0 (aTr 9 0) = true ∧ s.dev.bit (aTr 9 0) 15 = true ∧ s.dev.writeOk 0 (0xB400 + 9) = true) ∧
    (∃ s : State, s.dev.writeOk 0 (aTr 9 0) = true ∧ s.dev.bit (aTr 9 0) 15 = false ∧ s.dev.writeOk 0 (0xB400 + 9) = true) :=
  ⟨⟨on (fun d => { d with cycles := 3999999999 }), by decide +kernel⟩,
   ⟨on (fun d => (d).putB 0xB048 15 true), by decide +kernel⟩,
   ⟨on (fun d => (d).putB 0xB048 15 false), by decide +kernel⟩⟩

theorem met_TraceChannels_3 :
    (∃ s : State, s.dev.writeOk 0 (aTr 9 1) = true ∧ s.dev.writeOk 0 (aTr 9 2) = true ∧ s.dev.locked' = false ∧ s.dev.fld (aTr 9 1) 7 0 ≠ bits 0x5A09 7 0 ∧ s.dev.fld (aTr 9 2) 15 8 ≠ bits 0x5A09 15 8) ∧
    (∃ s : State, s.dev.writeOk 0 0xB482 = true ∧ bits 0x1A09 6 0 = 9 ∧ bitOf 0x1A09 14 = false) ∧
    (∃ s : State, s.dev.runs = true ∧ s.dev.tickCycle = true ∧ s.dev.tickAt ≠ s.dev.cycles ∧ s.dev.cplEdge = none ∧ s.dev.cplDone = none ∧ s.dev.cplHeld true = false ∧ s.dev.cplHeld false = false ∧ (s.dev.trc 9).on = false) :=
  ⟨⟨on (fun d => ((d).put 0xB049 0x1234).put 0xB04A 0x1234), by decide +kernel⟩,
   ⟨on (fun d => d), by decide +kernel⟩,
   ⟨on (fun d => { d with tickAt := 0, cplAt := 4000000000 }), by decide +kernel⟩⟩

theorem met_TraceChannels_4 :
    (∃ s : State, s.dev.runs = true ∧ s.dev.tickCycle = true ∧ s.dev.tickAt ≠ s.dev.cycles ∧ s.dev.cplEdge = none ∧ s.dev.cplDone = none ∧ s.dev.cplHeld true = false ∧ s.dev.cplHeld false = false ∧ (s.dev.trc 9).on = true ∧ 1 < (s.dev.trc 9).wait) ∧
    (∃ s : State, s.dev.runs = true ∧ s.dev.tickCycle = true ∧ s.dev.tickAt ≠ s.dev.cycles ∧ s.dev.cplEdge = none ∧ s.dev.cplDone = none ∧ s.dev.cplHeld true = false ∧ s.dev.cplHeld false = false ∧ (s.dev.trc 9).on = true ∧ (s.dev.trc 9).wait ≤ 1 ∧ s.dev.sampleOf 9 = none ∧ (s.dev.trc 9).seg = some { y0 := 10, tick := 7, c := 3, yc := 40, ln := 5, ld := 1, un := 15, ud := 1 }) ∧
    (∃ s : State, s.dev.runs = true ∧ s.dev.tickCycle = true ∧ s.dev.tickAt ≠ s.dev.cycles ∧ s.dev.cplEdge = none ∧ s.dev.cplDone = none ∧ s.dev.cplHeld true = false ∧ s.dev.cplHeld false = false ∧ (s.dev.trc 9).on = true ∧ (s.dev.trc 9).wait ≤ 1 ∧ s.dev.sampleOf 9 = some 7 ∧ (s.dev.trc 9).seg = none) :=
  ⟨⟨on (fun d => ({ d with tickAt := 0, cplAt := 4000000000 })|>.onTrc 9 (fun x => { x with on := true, wait := 2 })), by decide +kernel⟩,
   ⟨on (fun d => ({ d with tickAt := 0, cplAt := 4000000000 })|>.put 0xB048 0x2000|>.onTrc 9 (fun x => { x with on := true, wait := 1, seg := some { y0 := 10, tick := 7, c := 3, yc := 40, ln := 5, ld := 1, un := 15, ud := 1 } })), by decide +kernel⟩,
   ⟨on (fun d => ({ d with tickAt := 0, cplAt := 4000000000 })|>.put 0xB048 0x2000|>.put 0xB409 7|>.onTrc 9 (fun x => { x with on := true, wait := 1, hinAt := some 0 })), by decide +kernel⟩⟩

theorem met_TraceChannels_5 :
    (∃ s : State, s.dev.runs = true ∧ s.dev.tickCycle = true ∧ s.dev.tickAt ≠ s.dev.cycles ∧ s.dev.cplEdge = none ∧ s.dev.cplDone = none ∧ s.dev.cplHeld true = false ∧ s.dev.cplHeld false = false ∧ (s.dev.trc 9).on = true ∧ (s.dev.trc 9).wait ≤ 1 ∧ s.dev.sampleOf 9 = some 7 ∧ (s.dev.trc 9).pend = 0 ∧ s.dev.fld (aTr 9 2) 7 0 = 0 ∧ (s.dev.trc 9).seg = some { Seg.vertex 7 7 with c := 1, yc := 7, ln := -1, un := 1 } ∧ ({ Seg.vertex 7 7 with c := 1, yc := 7, ln := -1, un := 1 } : Seg).extend (s.dev.trc 9).e (s.dev.trc 9).div 7 ≠ none) ∧
    (∃ s : State, s.dev.runs = true ∧ s.dev.tickCycle = true ∧ s.dev.tickAt ≠ s.dev.cycles ∧ s.dev.cplEdge = none ∧ s.dev.cplDone = none ∧ s.dev.cplHeld true = false ∧ s.dev.cplHeld false = false ∧ (s.dev.trc 9).on = true ∧ (s.dev.trc 9).wait ≤ 1 ∧ s.dev.sampleOf 9 = some 7 ∧ (s.dev.trc 9).pend = 0 ∧ s.dev.fld (aTr 9 2) 7 0 = 0 ∧ (s.dev.trc 9).seg = some { Seg.vertex 7 7 with c := 1, yc := 30000, ln := 29992, un := 29994 } ∧ ({ Seg.vertex 7 7 with c := 1, yc := 30000, ln := 29992, un := 29994 } : Seg).extend (s.dev.trc 9).e (s.dev.trc 9).div 7 = none) ∧
    (∃ s : State, s.dev.runs = true ∧ s.dev.tickCycle = true ∧ s.dev.tickAt ≠ s.dev.cycles ∧ s.dev.cplEdge = none ∧ s.dev.cplHeld true = true) :=
  ⟨⟨on (fun d => ({ d with tickAt := 0, cplAt := 4000000000 })|>.put 0xB048 0x2000|>.put 0xB04A 0|>.put 0xB409 7|>.onTrc 9 (fun x => { x with on := true, wait := 1, e := 1, div := 1, hinAt := some 0, seg := some { Seg.vertex 7 7 with c := 1, yc := 7, ln := -1, un := 1 } })), by decide +kernel⟩,
   ⟨on (fun d => ({ d with tickAt := 0, cplAt := 4000000000 })|>.put 0xB048 0x2000|>.put 0xB04A 0|>.put 0xB409 7|>.onTrc 9 (fun x => { x with on := true, wait := 1, e := 1, div := 1, hinAt := some 0, seg := some { Seg.vertex 7 7 with c := 1, yc := 30000, ln := 29992, un := 29994 } })), by decide +kernel⟩,
   ⟨on (fun d => ({ d with tickAt := 0, cplEdge := none, cplAt := 3000000000, cplQt := 200 }).putB 0x51 1 true), by decide +kernel⟩⟩

theorem met_TraceStore_1 :
    (∃ s : State, s.dev.runs = true ∧ s.dev.recq = [⟨0x4001, 2, 3, 4⟩] ∧ s.dev.logOn = true ∧ s.dev.domRdy 3 = true ∧ s.dev.noStore = false ∧ s.dev.emptied.map Prod.fst ≠ some s.dev.cycles ∧ s.dev.wptr + 1 < slotCount) ∧
    (∃ s : State, s.dev.runs = true ∧ s.dev.recq = [⟨0x4001, 2, 3, 4⟩] ∧ s.dev.logOn = true ∧ s.dev.domRdy 3 = true ∧ s.dev.noStore = false ∧ s.dev.emptied = some (s.dev.cycles, false)) ∧
    (∃ s : State, s.dev.runs = true ∧ s.dev.recq = [⟨0x4001, 2, 3, 4⟩] ∧ s.dev.logOn = true ∧ s.dev.domRdy 3 = true ∧ s.dev.noStore = true) :=
  ⟨⟨on (fun d => (((({ d with emptied := some (3999999999, true), recq := [⟨0x4001, 2, 3, 4⟩], store := [(20, 0x4005), (21, 7), (23, 9)] }).put 0x801 0x3FD).put 0x802 0x3F8).putB 0xB499 0 false).put32 0xB486 5), by decide +kernel⟩,
   ⟨on (fun d => (((({ d with emptied := some (4000000000, false), recq := [⟨0x4001, 2, 3, 4⟩], store := [(20, 0x4005), (21, 7), (23, 9)] }).put 0x801 0x3FD).put 0x802 0x3F8).putB 0xB499 0 false).put32 0xB486 5), by decide +kernel⟩,
   ⟨on (fun d => ((((({ d with recq := [⟨0x4001, 2, 3, 4⟩], store := [(20, 0x4005), (21, 7), (23, 9)] }).put 0x801 0x3FD).put 0x802 0x3F8).putB 0xB499 0 false).put32 0xB486 5).putB 0xB499 0 true), by decide +kernel⟩⟩

theorem met_TraceStore_2 :
    (∃ s : State, inStore 0x100014 = true ∧ 0x100014 % 4 = 0 ∧ s.dev.readOk 0 0x100014 = true ∧ s.dev.logOn = true ∧ s.dev.bist.run ≠ some 2 ∧ .bad ∉ s.dev.slotDecoded 0x100014 []) ∧
    (∃ s : State, inStore 0x100014 = true ∧ 0x100014 % 4 = 0 ∧ s.dev.readOk 0 0x100014 = true ∧ s.dev.logOn = true ∧ s.dev.bist.run ≠ some 2 ∧ .bad ∈ s.dev.slotDecoded 0x100014 [0, 0x11]) ∧
    (∃ s : State, inStore 0x100014 = true ∧ 0x100014 % 4 = 0 ∧ s.dev.readOk 0 0x100014 = true ∧ s.dev.logOn = true ∧ s.dev.bist.run ≠ some 2 ∧ .bad ∉ s.dev.slotDecoded 0x100014 [0x5, 0, 0x3]) :=
  ⟨⟨on (fun d => ((({ d with emptied := some (3999999999, true), recq := [⟨0x4001, 2, 3, 4⟩], store := [(20, 0x4005), (21, 7), (23, 9)] }).put 0x801 0x3FD).put 0x802 0x3F8).putB 0xB499 0 false), by decide +kernel⟩,
   ⟨on (fun d => ((({ d with emptied := some (3999999999, true), recq := [⟨0x4001, 2, 3, 4⟩], store := [(20, 0x4005), (21, 7), (23, 9)] }).put 0x801 0x3FD).put 0x802 0x3F8).putB 0xB499 0 false), by decide +kernel⟩,
   ⟨on (fun d => ((({ d with emptied := some (3999999999, true), recq := [⟨0x4001, 2, 3, 4⟩], store := [(20, 0x4005), (21, 7), (23, 9)] }).put 0x801 0x3FD).put 0x802 0x3F8).putB 0xB499 0 false), by decide +kernel⟩⟩

theorem met_TraceStore_3 :
    (∃ s : State, inStore 0x100014 = true ∧ 0x100014 % 4 = 0 ∧ s.dev.readOk 0 0x100014 = true ∧ s.dev.logOn = true ∧ s.dev.bist.run ≠ some 2 ∧ .bad ∈ s.dev.slotDecoded 0x100014 [0x11]) ∧
    (∃ s : State, inStore 0x100014 = true ∧ 0x100014 % 4 = 0 ∧ s.dev.readOk 0 0x100014 = true ∧ s.dev.logOn = true ∧ s.dev.bist.run ≠ some 2 ∧ .bad ∈ s.dev.slotDecoded 0x100014 [0,0,0,0x11]) ∧
    (∃ s : State, s.dev.writeOk 0 0xB482 = true ∧ s.dev.logOn = true) :=
  ⟨⟨on (fun d => ((({ d with emptied := some (3999999999, true), recq := [⟨0x4001, 2, 3, 4⟩], store := [(20, 0x4005), (21, 7), (23, 9)] }).put 0x801 0x3FD).put 0x802 0x3F8).putB 0xB499 0 false), by decide +kernel⟩,
   ⟨on (fun d => ((({ d with emptied := some (3999999999, true), recq := [⟨0x4001, 2, 3, 4⟩], store := [(20, 0x4005), (21, 7), (23, 9)] }).put 0x801 0x3FD).put 0x802 0x3F8).putB 0xB499 0 false), by decide +kernel⟩,
   ⟨on (fun d => (((({ d with recq := [⟨0x4001, 2, 3, 4⟩], store := [(20, 0x4005), (21, 7), (23, 9)] }).put 0x801 0x3FD).put 0x802 0x3F8).putB 0xB499 0 false).putB 0x801 3 true), by decide +kernel⟩⟩

theorem met_TraceStore_4 :
    ∃ s : State, s.dev.writeOk 0 0xB482 = true ∧ s.dev.logOn = false :=
  ⟨on (fun d => (((({ d with recq := [⟨0x4001, 2, 3, 4⟩], store := [(20, 0x4005), (21, 7), (23, 9)] }).put 0x801 0x3FD).put 0x802 0x3F8).putB 0xB499 0 false).putB 0x801 3 false), by decide +kernel⟩

theorem met_CouplingSessions_1 :
    (∃ s : State, s.dev.runs = true ∧ s.dev.bit 0x51 1 = true ∧ s.dev.cycles < s.dev.cplAt + 200000 * max 1 s.dev.cplQt) ∧
    (∃ s : State, s.dev.runs = true ∧ s.dev.ready = true ∧ s.dev.faultAt ≠ some s.dev.cycles ∧ s.dev.cplEdge = none ∧ s.dev.cplHeld true = true) ∧
    (∃ s : State, s.dev.runs = true ∧ s.dev.ready = false ∧ s.dev.faultAt ≠ some s.dev.cycles ∧ s.dev.cplEdge = none ∧ s.dev.cplHeld true = true) :=
  ⟨⟨on (fun d => ((({ d with cplAt := 3999999999 }).putB 0x40 15 true).putB 0x51 1 true).putB 0x51 0 true), by decide +kernel⟩,
   ⟨on (fun d => ((({ d with cplEdge := none, cplAt := 3000000000, cplQt := 200, faultAt := none, cplFrom := 3999999999 }).putB 0x40 15 true).putB 0x51 1 true).putB 0x51 0 false), by decide +kernel⟩,
   ⟨on (fun d => ((({ d with cplEdge := none, cplAt := 3000000000, cplQt := 200, faultAt := none, cplFrom := 3999999999 }).putB 0x40 15 false).putB 0x51 1 true).putB 0x51 0 false), by decide +kernel⟩⟩

theorem met_CouplingSessions_2 :
    (∃ s : State, s.dev.runs = true ∧ s.dev.bit 0x51 1 = false ∧ s.dev.cycles < s.dev.cplAt + 200000 * max 1 s.dev.cplQt) ∧
    (∃ s : State, s.dev.runs = true ∧ s.dev.ready = true ∧ s.dev.faultAt ≠ some s.dev.cycles ∧ s.dev.cplEdge = none ∧ s.dev.cplHeld false = true) ∧
    (∃ s : State, s.dev.runs = true ∧ s.dev.ready = false ∧ s.dev.faultAt ≠ some s.dev.cycles ∧ s.dev.cplEdge = none ∧ s.dev.cplHeld false = true) :=
  ⟨⟨on (fun d => ((({ d with cplAt := 3999999999 }).putB 0x40 15 true).putB 0x51 1 false).putB 0x51 0 true), by decide +kernel⟩,
   ⟨on (fun d => ((({ d with cplEdge := none, cplAt := 3000000000, cplQt := 200, faultAt := none, cplFrom := 3999999999 }).putB 0x40 15 true).putB 0x51 1 false).putB 0x51 0 true), by decide +kernel⟩,
   ⟨on (fun d => ((({ d with cplEdge := none, cplAt := 3000000000, cplQt := 200, faultAt := none, cplFrom := 3999999999 }).putB 0x40 15 false).putB 0x51 1 false).putB 0x51 0 true), by decide +kernel⟩⟩

theorem met_CouplingSessions_3 :
    (∃ s : State, s.dev.runs = true ∧ s.dev.cplEdge = some true ∧ s.dev.cplHeld false = true) ∧
    (∃ s : State, s.dev.runs = true ∧ s.dev.ready = true ∧ s.dev.cplFrom ≤ s.dev.cycles ∧ s.dev.cplEdge = some true) ∧
    (∃ s : State, s.dev.runs = true ∧ s.dev.ready = true ∧ s.dev.cplFrom ≤ s.dev.cycles ∧ s.dev.cplEdge = some false) :=
  ⟨⟨on (fun d => ((({ d with cplEdge := some true, cplAt := 3000000000, cplQt := 200 }).putB 0x40 15 false).putB 0x51 1 false).putB 0x51 0 true), by decide +kernel⟩,
   ⟨on (fun d => ((({ d with cplEdge := some true, cplFrom := 4000000000 }).putB 0x40 15 true).putB 0x51 1 false).putB 0x51 0 true), by decide +kernel⟩,
   ⟨on (fun d => ((({ d with cplEdge := some false, cplFrom := 4000000000 }).putB 0x40 15 true).putB 0x51 1 false).putB 0x51 0 true), by decide +kernel⟩⟩

theorem met_EventsAndDoorbells_1 :
    (∃ s : State, s.dev.runs = true ∧ 0 < s.dev.cycles ∧ s.dev.cycles % 200 = 0 ∧ s.dev.time.toNat % 1000000 = 0 ∧ s.dev.secAt ≠ s.dev.cycles) ∧
    (∃ s : State, s.dev.secAt = s.dev.cycles) ∧
    (∃ s : State, s.dev.writeOk 4 0x80 = true) :=
  ⟨⟨on (fun d => let d := { d with secAt := 0 }; { d with cyc0 := d.words }), by decide +kernel⟩,
   ⟨on (fun d => let d := { d with secAt := 4000000000 }; { d with cyc0 := d.words }), by decide +kernel⟩,
   ⟨on (fun d => let d := d; { d with cyc0 := d.words }), by decide +kernel⟩⟩

theorem met_EventsAndDoorbells_2 :
    (∃ s : State, s.dev.writeOk 4 0x80 = true) ∧
    (∃ s : State, s.dev.writeOk 0 (aEvh 2 (4 + 1)) = true ∧ s.dev.bit (aEvh 2 12) 0 = true ∧ s.dev.irqLocal 2 &&& ((0xFFFF : Word).setWidth 64 <<< (16 * 1)) ≠ 0) ∧
    (∃ s : State, s.dev.writeOk 0 (aEvh 2 (4 + 1)) = true ∧ s.dev.bit (aEvh 2 12) 0 = true ∧ s.dev.irqLocal 2 &&& ((0x0021 : Word).setWidth 64 <<< (16 * 1)) ≠ 0) :=
  ⟨⟨on (fun d => let d := d; { d with cyc0 := d.words }), by decide +kernel⟩,
   ⟨on (fun d => let d := ((({ d with pend := Vector.replicate 4 0x00FF00FF00330011 }).put 0xE2C 1).put 0xE20 0xFF).put 0xE21 0xFF; { d with cyc0 := d.words }), by decide +kernel⟩,
   ⟨on (fun d => let d := ((({ d with pend := Vector.replicate 4 0x00FF00FF00330011 }).put 0xE2C 1).put 0xE20 0xFF).put 0xE21 0xFF; { d with cyc0 := d.words }), by decide +kernel⟩⟩

theorem met_EventsAndDoorbells_3 :
    (∃ s : State, s.dev.runs = true ∧ (s.dev.hp 2).rearm = some 3999999000 ∧ 3999999000 ≤ s.dev.cycles) ∧
    (∃ s : State, s.dev.runs = true ∧ s.dev.cycles % 200 ≠ 0) :=
  ⟨⟨on (fun d => let d := (d).onHp 2 (fun x => { x with rearm := some 3999999000 }); { d with cyc0 := d.words }), by decide +kernel⟩,
   ⟨on (fun d => let d := { d with cycles := 4000000001 }; { d with cyc0 := d.words }), by decide +kernel⟩⟩

theorem met_MemoryQueue_1 :
    (∃ s : State, s.dev.writeOk 0 0xD005 = true ∧ s.dev.qRun = false ∧ s.dev.loaderRuns = false ∧ s.dev.mem.frame = false ∧ s.dev.mem.wait = [] ∧ s.dev.bit 0xD000 15 = false) ∧
    (∃ s : State, s.dev.writeOk 0 0xD005 = true ∧ s.dev.qRun = true ∧ bitOf 0x8031 15 = true) ∧
    (∃ s : State, s.dev.writeOk 0 0xD005 = true ∧ s.dev.qRun = true ∧ bitOf 0xC031 15 = true) :=
  ⟨⟨on (fun d => (({ d with mem := {} }).putB 0xD006 15 false).putB 0xD000 15 false), by decide +kernel⟩,
   ⟨on (fun d => ({ d with mem := { last := 4, frame := true } }).put 0xD006 0x8002), by decide +kernel⟩,
   ⟨on (fun d => ({ d with mem := { last := 4, frame := true } }).put 0xD006 0x8002), by decide +kernel⟩⟩

theorem met_MemoryQueue_2 :
    (∃ s : State, s.dev.writeOk 0 0xD005 = true ∧ s.dev.qRun = true ∧ bitOf 0x4031 15 = false) ∧
    (∃ s : State, s.dev.runs = true ∧ s.dev.qFrame = true ∧ s.dev.qPos = s.dev.mem.last ∧ s.dev.mem.wait = [] ∧ s.dev.bit (aQ s.dev.qPos 0) 15 = true ∧ [0x12, 0x34, 0x56].length = s.dev.qLen s.dev.qPos) ∧
    (∃ s : State, s.dev.runs = true ∧ s.dev.qFrame = true ∧ s.dev.qPos = s.dev.mem.last ∧ s.dev.mem.wait = [] ∧ s.dev.bit (aQ s.dev.qPos 0) 15 = false ∧ [0x12, 0x34, 0x56].length = s.dev.qLen s.dev.qPos) :=
  ⟨⟨on (fun d => ({ d with mem := { last := 4, frame := true } }).put 0xD006 0x8002), by decide +kernel⟩,
   ⟨on (fun d => ((({ d with mem := { last := 2, frame := true } }).put 0xD006 0x8002).putB 0xD050 15 true).put 0xD055 3), by decide +kernel⟩,
   ⟨on (fun d => ((({ d with mem := { last := 2, frame := true } }).put 0xD006 0x8002).putB 0xD050 15 false).put 0xD055 3), by decide +kernel⟩⟩

theorem met_MemoryQueue_3 :
    (∃ s : State, s.dev.writeOk 0 0xD004 = true ∧ s.dev.qRun = false) ∧
    (∃ s : State, s.dev.writeOk 0 0xD004 = true ∧ s.dev.qRun = false) ∧
    (∃ s : State, s.dev.writeOk 0 0xD004 = true ∧ s.dev.qRun = true) :=
  ⟨⟨on (fun d => ({ d with mem := {} }).putB 0xD006 15 false), by decide +kernel⟩,
   ⟨on (fun d => ({ d with mem := {} }).putB 0xD006 15 false), by decide +kernel⟩,
   ⟨on (fun d => ({ d with mem := { last := 4, frame := true, lineA := some (0x40, []) } }).put 0xD006 0x8002), by decide +kernel⟩⟩

theorem met_MemoryQueue_4 :
    ∃ s : State, s.dev.writeOk 0 0xD004 = true ∧ s.dev.qRun = true :=
  ⟨on (fun d => ({ d with mem := { last := 4, frame := true, lineA := some (0x40, []) } }).put 0xD006 0x8002), by decide +kernel⟩

theorem met_MemoryWindow_1 :
    (∃ s : State, s.dev.readOk 0 0x800010 = true ∧ s.dev.mem.frame = true ∧ s.dev.ibit 0xD008 15 = false) ∧
    (∃ s : State, s.dev.readOk 0 0x800010 = true ∧ s.dev.mem.frame = true ∧ s.dev.ibit 0xD008 15 = true ∧ (s.dev.mem.missing (s.dev.winByte 0x800010)).isNone = true) ∧
    (∃ s : State, s.dev.readOk 0 0x800010 = true ∧ s.dev.mem.frame = true ∧ s.dev.ibit 0xD008 15 = true ∧ (s.dev.mem.missing (s.dev.winByte 0x800010)).isNone = false) :=
  ⟨⟨on (fun d => { d with mem := { frame := true }, inForce := (d.put 0xD008 0).words }), by decide +kernel⟩,
   ⟨on (fun d => { d with mem := { frame := true, lineA := some (0x40, List.range 64 |>.map (BitVec.ofNat 8)) }, inForce := (((d.put 0xD008 0x8000).put 0xD00C 0x20).put 0xD00D 0).words }), by decide +kernel⟩,
   ⟨on (fun d => { d with mem := { frame := true }, inForce := (((d.put 0xD008 0x8000).put 0xD00C 0x20).put 0xD00D 0).words }), by decide +kernel⟩⟩

theorem met_MemoryWindow_2 :
    (∃ s : State, s.dev.runs = true ∧ s.dev.mem.fill = some 0x40 ∧ s.dev.mem.frame = true ∧ s.dev.mem.wait = [] ∧ s.dev.qRun = false ∧ s.dev.loaderRuns = false ∧ s.dev.mem.intoB = true) ∧
    (∃ s : State, s.dev.runs = true ∧ s.dev.mem.fill = some 0x40 ∧ s.dev.mem.frame = true ∧ s.dev.mem.wait = [] ∧ s.dev.qRun = false ∧ s.dev.loaderRuns = false ∧ s.dev.mem.intoB = false) ∧
    (∃ s : State, s.dev.runs = true ∧ s.dev.mem.wait = [(3, 0x800005, 3999000000)] ∧ 3999000000 + 200 * max 1 (s.dev.ifld 0xD008 7 0) ≤ s.dev.cycles) :=
  ⟨⟨on (fun d => let d := d.putB 0xD006 15 false; { d with mem := { frame := true, fill := some 0x40, intoB := true, lineA := some (0x80, []), lineB := some (0xC0, []) }, inForce := d.words }), by decide +kernel⟩,
   ⟨on (fun d => let d := d.putB 0xD006 15 false; { d with mem := { frame := true, fill := some 0x40, intoB := false, lineA := some (0x80, []), lineB := some (0xC0, []) }, inForce := d.words }), by decide +kernel⟩,
   ⟨on (fun d => { d with mem := { frame := true, wait := [(3, 0x800005, 3999000000)] } }), by decide +kernel⟩⟩

theorem met_MemoryWindow_3 :
    (∃ s : State, s.dev.runs = true ∧ s.dev.share = true ∧ s.dev.mem.mastering = true ∧ s.dev.loaderRuns = false) ∧
    (∃ s : State, s.dev.runs = true ∧ s.dev.mem.frame = false ∧ s.dev.bit 0xD000 15 = true ∧ s.dev.mem.mastering = false ∧ s.dev.mem.wait ≠ [] ∧ s.dev.loaderRuns = false ∧ s.dev.mem.relAt = none ∧ (max 1 (s.dev.fld 0xD000 12 9) + if s.dev.mirror.id then 4 else 0) * (2 * max 1 (s.dev.fld 0xD000 4 0)) ≤ 100000) ∧
    (∃ s : State, s.dev.runs = true ∧ s.dev.mem.frame = false ∧ s.dev.bit 0xD000 15 = true ∧ s.dev.mem.mastering = false ∧ s.dev.mem.wait ≠ [] ∧ s.dev.loaderRuns = false ∧ s.dev.mem.relAt = none ∧ (max 1 (s.dev.fld 0xD000 12 9) + if s.dev.mirror.id then 4 else 0) * (2 * max 1 (s.dev.fld 0xD000 4 0)) ≤ 100000) :=
  ⟨⟨on (fun d => { d with mem := { frame := true, mastering := true, fill := some 0x40, wait := [(3, 0x800005, 3999000000)] }, inForce := (d.put 0xD000 0x8000).words }), by decide +kernel⟩,
   ⟨on (fun d => ({ d with mem := { wait := [(3, 0x800005, 3999000000)] }, mirror := { d.mirror with id := true } }).putB 0xD000 15 true), by decide +kernel⟩,
   ⟨on (fun d => ({ d with mem := { wait := [(3, 0x800005, 3999000000)] }, mirror := { d.mirror with id := false } }).putB 0xD000 15 true), by decide +kernel⟩⟩

theorem met_MemoryWindow_4 :
    (∃ s : State, s.dev.runs = true ∧ s.dev.mem.frame = false ∧ s.dev.bit 0xD000 15 = true ∧ s.dev.mem.mastering = false ∧ s.dev.mem.wait ≠ [] ∧ s.dev.loaderRuns = false ∧ s.dev.mem.relAt = none ∧ 0 < (max 1 (s.dev.fld 0xD000 12 9) + if s.dev.mirror.id then 4 else 0) * (2 * max 1 (s.dev.fld 0xD000 4 0))) ∧
    (∃ s : State, s.dev.runs = true ∧ s.dev.mem.frame = false ∧ s.dev.bit 0xD000 15 = true ∧ s.dev.mem.mastering = false ∧ s.dev.mem.wait ≠ [] ∧ s.dev.loaderRuns = false ∧ s.dev.mem.relAt = none ∧ 0 < (max 1 (s.dev.fld 0xD000 12 9) + if s.dev.mirror.id then 4 else 0) * (2 * max 1 (s.dev.fld 0xD000 4 0))) :=
  ⟨⟨on (fun d => ({ d with mem := { wait := [(3, 0x800005, 3999000000)] }, mirror := { d.mirror with id := true } }).putB 0xD000 15 true), by decide +kernel⟩,
   ⟨on (fun d => ({ d with mem := { wait := [(3, 0x800005, 3999000000)] }, mirror := { d.mirror with id := false } }).putB 0xD000 15 true), by decide +kernel⟩⟩

theorem met_HostTransactions_1 :
    (∃ s : State, s.dev.resetN = true ∧ (s.dev.hostStart 2).runs = true ∧ (s.dev.hostStart 2).c1Bad 2 (cmdByte 3 0) 0 = false ∧ (s.dev.hostStart 2).c1Bad 2 (cmdByte 3 1) 0 = false ∧ (s.dev.hostStart 2).c1Bad 2 (cmdByte 2 2) 0 = false ∧ (s.dev.hostStart 2).c1Bad 2 (cmdByte 0 2) 0 = false ∧ (s.dev.hostStart 2).c1Bad 2 (cmdByte 1 2) 0 = false ∧ (s.dev.hostStart 2).crcEn 2 = false) ∧
    (∃ s : State, s.dev.resetN = true ∧ (s.dev.hostStart 2).runs = true ∧ (s.dev.hostStart 2).c1Bad 2 (cmdByte 3 0) (crc8 [cmdByte 3 0]) = false ∧ (s.dev.hostStart 2).crcEn 2 = true) ∧
    (∃ s : State, s.dev.resetN = true ∧ (s.dev.hostStart 2).runs = true ∧ (s.dev.hostStart 2).c1Bad 2 (cmdByte 1 2) (crc8 [cmdByte 1 2]) = false ∧ (s.dev.hostStart 2).crcEn 2 = true) :=
  ⟨⟨on (fun d => (d).putB 0x70 5 false), by decide +kernel⟩,
   ⟨on (fun d => ((d).putB 0x70 5 true).onHp 2 (fun x => { x with page := 0x80 })), by decide +kernel⟩,
   ⟨on (fun d => ((d).putB 0x70 5 true).onHp 2 (fun x => { x with page := 0x80 })), by decide +kernel⟩⟩

theorem met_HostTransactions_2 :
    (∃ s : State, s.dev.resetN = true ∧ (s.dev.hostStart 2).c1Bad 2 (cmdByte 1 2) (crc8 [cmdByte 1 2] ^^^ 1) = true) ∧
    (∃ s : State, s.dev.resetN = true ∧ (s.dev.hostStart 2).runs = true ∧ (s.dev.hostStart 2).c1Bad 2 (cmdByte 1 2) (crc8 [cmdByte 1 2]) = false ∧ (s.dev.hostStart 2).crcEn 2 = true ∧ [0x1111, 0x2222].length ≤ 64) ∧
    (∃ s : State, s.dev.resetN = true ∧ (s.dev.hostStart 2).c1Bad 2 (cmdByte 0 2) 0 = false ∧ (s.dev.hostStart 2).readOk (hostMaster 2) ((s.dev.hostStart 2).hostAddr 2 2 0).toNat = false) :=
  ⟨⟨on (fun d => (d).putB 0x70 5 true), by decide +kernel⟩,
   ⟨on (fun d => (d).putB 0x70 5 true), by decide +kernel⟩,
   ⟨on (fun d => (((d).putB 0x70 5 false).onHp 2 (fun x => { x with page := 0x5F })).put 0x40 0x4004), by decide +kernel⟩⟩

theorem met_HostTransactions_3 :
    (∃ s : State, s.dev.resetN = true ∧ (s.dev.hostStart 2).c1Bad 2 (cmdByte 0 2) 0 = false ∧ (s.dev.hostStart 2).readOk (hostMaster 2) ((s.dev.hostStart 2).hostAddr 2 2 0).toNat = false ∧ (s.dev.hostStart 2).runs = true ∧ decode28 (encode28 0 ^^^ 0x5) = .corrected 0) ∧
    (∃ s : State, s.dev.resetN = true ∧ (s.dev.hostStart 2).c1Bad 2 (cmdByte 0 2) 0 = false ∧ (s.dev.hostStart 2).readOk (hostMaster 2) ((s.dev.hostStart 2).hostAddr 2 2 0).toNat = false ∧ (s.dev.hostStart 2).runs = true ∧ decode28 (encode28 0 ^^^ 0x11) = .bad) :=
  ⟨⟨on (fun d => (((d).putB 0x70 5 false).onHp 2 (fun x => { x with page := 0x5F })).put 0x40 0x4004), by decide +kernel⟩,
   ⟨on (fun d => (((d).putB 0x70 5 false).onHp 2 (fun x => { x with page := 0x5F })).put 0x40 0x4004), by decide +kernel⟩⟩

theorem met_MirrorLink_1 :
    (∃ s : State, s.dev.runs = true ∧ s.dev.bit 0xE000 15 = true) ∧
    (∃ s : State, s.dev.runs = true ∧ s.dev.ibit 0xE000 15 = true ∧ ((let b : List Byte := [5] ++ bytesOf ((List.range 32).map (fun i => BitVec.ofNat 16 (i * 2049))) ++ List.replicate 9 0; b ++ crcBytes (crc32 b))).length = 78 ∧ crcBytes (crc32 (((let b : List Byte := [5] ++ bytesOf ((List.range 32).map (fun i => BitVec.ofNat 16 (i * 2049))) ++ List.replicate 9 0; b ++ crcBytes (crc32 b))).take 74)) = ((let b : List Byte := [5] ++ bytesOf ((List.range 32).map (fun i => BitVec.ofNat 16 (i * 2049))) ++ List.replicate 9 0; b ++ crcBytes (crc32 b))).drop 74 ∧ (byteAt ((let b : List Byte := [5] ++ bytesOf ((List.range 32).map (fun i => BitVec.ofNat 16 (i * 2049))) ++ List.replicate 9 0; b ++ crcBytes (crc32 b))) 65).getLsbD 7 = false) ∧
    (∃ s : State, s.dev.runs = true ∧ s.dev.ibit 0xE000 15 = true ∧ (List.replicate 78 (1 : Byte)).length = 78 ∧ crcBytes (crc32 ((List.replicate 78 (1 : Byte)).take 74)) ≠ (List.replicate 78 (1 : Byte)).drop 74) :=
  ⟨⟨on (fun d => (d).putB 0xE000 15 true), by decide +kernel⟩,
   ⟨on (fun d => { d with inForce := (d.put 0xE000 0x8000).words }), by decide +kernel⟩,
   ⟨on (fun d => { d with inForce := (d.put 0xE000 0x8000).words }), by decide +kernel⟩⟩

theorem met_MirrorLink_2 :
    (∃ s : State, s.dev.runs = true ∧ s.dev.mirror.up = true ∧ s.dev.mirror.pres = true ∧ s.dev.mirror.lastGood = some 3999000000 ∧ 3999000000 + 400 * max 1 (s.dev.ifld 0xE001 15 8) ≤ s.dev.cycles) ∧
    (∃ s : State, s.dev.writeOk 0 0xE803 = true ∧ s.dev.bit 0xE804 15 = true ∧ 64 ≤ s.dev.mirror.rqFrames ∧ s.dev.runs = true) ∧
    (∃ s : State, s.dev.writeOk 0 0xE803 = true ∧ s.dev.bit 0xE804 15 = false ∧ 64 ≤ s.dev.mirror.rqFrames ∧ s.dev.runs = true) :=
  ⟨⟨on (fun d => { d with mirror := { d.mirror with up := true, pres := true, lastGood := some 3999000000 } }), by decide +kernel⟩,
   ⟨on (fun d => ({ d with mirror := { d.mirror with rqFrames := 64 } }).putB 0xE804 15 true), by decide +kernel⟩,
   ⟨on (fun d => ({ d with mirror := { d.mirror with rqFrames := 64 } }).putB 0xE804 15 false), by decide +kernel⟩⟩

theorem met_MirrorLink_3 :
    (∃ s : State, s.dev.runs = true ∧ s.dev.ready = true ∧ s.dev.mirror.pres = false ∧ s.dev.mirror.presEver = false ∧ s.dev.mirror.downAt + s.dev.rett ≤ s.dev.cycles) ∧
    (∃ s : State, s.dev.writeOk 0 0xE803 = true ∧ s.dev.bit 0xE804 15 = true ∧ s.dev.mirror.rqAt + 25600 ≤ s.dev.cycles ∧ s.dev.runs = true) :=
  ⟨⟨on (fun d => ((({ d with mirror := { d.mirror with pres := false, presEver := false, downAt := 3000000000 } }).putB 0x40 15 true).put 0xE000 0x0300).put 0xE001 1), by decide +kernel⟩,
   ⟨on (fun d => ({ d with mirror := { d.mirror with rqFrames := 0, rqAt := 3999974400 } }).putB 0xE804 15 true), by decide +kernel⟩⟩

theorem met_ThermalProtection_1 :
    (∃ s : State, s.dev.runs = true ∧ s.dev.thermAt + 1000 * max 1 (s.dev.ifld 0x1000 7 0) ≤ s.dev.micros) ∧
    (∃ s : State, s.dev.runs = true ∧ s.dev.thermAt + 1000 * max 1 (s.dev.ifld 0x1000 7 0) ≤ s.dev.micros) ∧
    (∃ s : State, s.dev.writeOk 0 0x1006 = true ∧ s.dev.hasSen 0 = true ∧ bitOf 0x0015 0 = true ∧ bitOf 0x0015 1 = false) :=
  ⟨⟨on (fun d => (({ d with thermAt := 0, power := { d.power with prismLock := true } }).put 0x801 0x3FD).put 0x802 0x3F8), by decide +kernel⟩,
   ⟨on (fun d => (({ d with thermAt := 0, power := { d.power with prismLock := false } }).put 0x801 0x3FD).put 0x802 0x3F8), by decide +kernel⟩,
   ⟨on (fun d => (({ d with power := { d.power with prismLock := true } }).put 0x801 0x3FD).put 0x802 0x3F8), by decide +kernel⟩⟩

theorem met_ThermalProtection_2 :
    (∃ s : State, s.dev.writeOk 0 0x1006 = true ∧ s.dev.hasSen 0 = true ∧ bitOf 0x0015 0 = true ∧ bitOf 0x0015 1 = false) ∧
    (∃ s : State, s.dev.writeOk 0 0x1006 = true) ∧
    (∃ s : State, s.dev.micros < s.dev.thermAt + 1000 * max 1 (s.dev.ifld 0x1000 7 0)) :=
  ⟨⟨on (fun d => (({ d with power := { d.power with prismLock := false } }).put 0x801 0x3FD).put 0x802 0x3F8), by decide +kernel⟩,
   ⟨on (fun d => d), by decide +kernel⟩,
   ⟨on (fun d => { d with thermAt := 20000000 }), by decide +kernel⟩⟩

theorem met_ThermalProtection_3 :
    (∃ s : State, s.dev.resetN = true ∧ s.dev.hasSen 0 = true ∧ s.dev.bit 0x1001 0 = true ∧ s.dev.locked = true) ∧
    (∃ s : State, s.dev.resetN = true ∧ s.dev.hasSen 1 = true ∧ s.dev.bit 0x1001 1 = false ∧ s.dev.locked = false) ∧
    (∃ s : State, (s.dev.acc 0 5).frame = true ∧ (s.dev.acc 0 5).closed = false ∧ (s.dev.acc 0 5).waits = false ∧ (s.dev.acc 0 5).total ≤ (s.dev.acc 0 5).n ∧ s.dev.closePoint 0 (s.dev.acc 0 5) ≤ s.dev.frameTick 0 ∧ s.dev.prmReady 0 = true ∧ s.dev.runs = true ∧ (s.dev.sen 0).sent = true) :=
  ⟨⟨on (fun d => ({ d with locked := true }).putB 0x1001 0 true), by decide +kernel⟩,
   ⟨on (fun d => ({ d with locked := false }).putB 0x1001 1 false), by decide +kernel⟩,
   ⟨on (fun d => ((((((((((((((((({ d with power := { d.power with prismLock := true } }).put 0x801 0x3FD).put 0x802 0x3F8).onGrp 0 (fun x => { x with running := true, frameAt := 3999990000, period := 10000 })).onPrm 0 (fun x => { x with acc := upd x.acc 5 (fun _ => { frame := true, cfg := 0x4000, cpt := 0, sum := 100, n := 2, waits := false }) })).putF 0x1001 15 10 0).putF 0x1001 9 5 0).put 0x1011 500).put 0x1012 600).put 0x1013 50).put 0x1019 500).put 0x101a 700).put 0x101b 50).onSen 0 (fun x => { x with sent := true, arr := 0, sentArr := 0, acc := 5, warnAt := none, thrAt := none })).onSen 1 (fun x => { x with sent := false })).onSen 2 (fun x => { x with sent := false })).onSen 3 (fun x => { x with sent := false })).onSen 4 (fun x => { x with sent := false })), by decide +kernel⟩⟩

theorem met_ThermalProtection_4 :
    ∃ s : State, (s.dev.acc 0 5).frame = true ∧ (s.dev.acc 0 5).closed = false ∧ (s.dev.acc 0 5).waits = false ∧ (s.dev.acc 0 5).total ≤ (s.dev.acc 0 5).n ∧ s.dev.closePoint 0 (s.dev.acc 0 5) ≤ s.dev.frameTick 0 ∧ s.dev.prmReady 0 = true ∧ s.dev.runs = true ∧ (s.dev.sen 1).sent = true :=
  ⟨on (fun d => ((((((((((((((((({ d with power := { d.power with prismLock := true } }).put 0x801 0x3FD).put 0x802 0x3F8).onGrp 0 (fun x => { x with running := true, frameAt := 3999990000, period := 10000 })).onPrm 0 (fun x => { x with acc := upd x.acc 5 (fun _ => { frame := true, cfg := 0x4000, cpt := 0, sum := -300, n := 2, waits := false }) })).putF 0x1001 15 10 511).putF 0x1001 9 5 511).put 0x1011 500).put 0x1012 600).put 0x1013 50).put 0x1019 500).put 0x101a 700).put 0x101b 50).onSen 1 (fun x => { x with sent := true, arr := 0, sentArr := 0, acc := 5, warnAt := some 19999001, thrAt := some 19999001 })).onSen 0 (fun x => { x with sent := false })).onSen 2 (fun x => { x with sent := false })).onSen 3 (fun x => { x with sent := false })).onSen 4 (fun x => { x with sent := false })), by decide +kernel⟩

theorem met_PowerDomains_1 :
    (∃ s : State, s.dev.writeOk 0 0x800 = true) ∧
    (∃ s : State, s.dev.writeOk 0 0x800 = true) ∧
    (∃ s : State, s.dev.domMayStart 3 = true ∧ s.dev.locked = true) :=
  ⟨⟨on (fun d => ((d).put 0x800 0x3F8).put 0x801 0x3FD), by decide +kernel⟩,
   ⟨on (fun d => d), by decide +kernel⟩,
   ⟨on (fun d => (((({ d with locked := true, power := { d.power with lastOn := none } }).put 0x800 0x8).put 0x801 0x005).put 0x1001 0).putF 0x40 2 0 4), by decide +kernel⟩⟩

theorem met_PowerDomains_2 :
    (∃ s : State, s.dev.domMayStart 6 = true ∧ s.dev.locked = false) ∧
    (∃ s : State, s.dev.domOn 3 = true ∧ s.dev.domRdy 3 = false ∧ s.dev.power.startAt[3] + s.dev.domReadyAfter 3 ≤ s.dev.cycles) ∧
    (∃ s : State, s.dev.domOn 6 = true ∧ s.dev.domRdy 6 = false ∧ s.dev.power.startAt[6] + s.dev.domReadyAfter 6 ≤ s.dev.cycles) :=
  ⟨⟨on (fun d => (((({ d with locked := false, power := { d.power with lastOn := none } }).put 0x800 0x40).put 0x801 0x005).put 0x1001 0).putF 0x40 2 0 4), by decide +kernel⟩,
   ⟨on (fun d => (({ d with locked := true, power := {} }).put 0x801 0x3FD).put 0x802 0), by decide +kernel⟩,
   ⟨on (fun d => (({ d with locked := false, power := {} }).put 0x801 0x3FD).put 0x802 0), by decide +kernel⟩⟩

theorem met_PowerDomains_3 :
    (∃ s : State, s.dev.cycles < s.dev.power.startAt[6] + s.dev.domReadyAfter 6) ∧
    (∃ s : State, s.dev.domMayStart 6 = false) :=
  ⟨⟨on (fun d => { d with power := { d.power with startAt := Vector.replicate 10 4000000000 } }), by decide +kernel⟩,
   ⟨on (fun d => d.put 0x800 0), by decide +kernel⟩⟩

theorem met_LifeCycle_1 :
    (∃ s : State, s.dev.writeOk 0 0xF001 = true ∧ s.dev.lc.fuse = none ∧ s.dev.lcState = 0) ∧
    (∃ s : State, s.dev.writeOk 0 0xF001 = true ∧ s.dev.lc.fuse = none ∧ s.dev.lcState = 1 ∧ s.dev.fuses.keySvc = true ∧ s.dev.bit 0xC000 10 = true) ∧
    (∃ s : State, s.dev.writeOk 0 0xF001 = true ∧ s.dev.lc.fuse = none ∧ s.dev.lcState = 3 ∧ s.dev.gatesOff = true ∧ s.dev.allIdle = true) :=
  ⟨⟨on (fun d => { d with fuses := { d.fuses with mfg := false, fld := false, ret := false }, lc := {} }), by decide +kernel⟩,
   ⟨on (fun d => ({ d with fuses := { d.fuses with mfg := true, fld := false, ret := false, keySvc := true }, lc := {} }).put 0xC000 0x0400), by decide +kernel⟩,
   ⟨on (fun d => ({ d with motors := Vector.replicate 16 {}, fuses := { d.fuses with mfg := true, fld := true, ret := false }, lc := { service := true } }).put 0x801 0x5), by decide +kernel⟩⟩

theorem met_LifeCycle_2 :
    (∃ s : State, s.dev.writeOk 0 0xF001 = true ∧ s.dev.lc.fuse = none ∧ s.dev.lcState = 2 ∧ s.dev.bit 0xF000 14 = false ∧ s.dev.authOk = false ∧ s.dev.fld 0xF000 5 4 = 0) ∧
    (∃ s : State, s.dev.writeOk 0 0xF001 = true ∧ s.dev.lc.fuse = none ∧ s.dev.lcState = 2 ∧ s.dev.bit 0xF000 14 = false ∧ s.dev.authOk = false ∧ s.dev.fld 0xF000 5 4 = 3) ∧
    (∃ s : State, s.dev.writeOk 0 0xF001 = true ∧ s.dev.lc.fuse = none ∧ s.dev.lcState = 2 ∧ s.dev.bit 0xF000 14 = false ∧ s.dev.authOk = true) :=
  ⟨⟨on (fun d => ({ d with fuses := { d.fuses with mfg := true, fld := true, ret := false }, lc := {} }).put 0xF000 0x0), by decide +kernel⟩,
   ⟨on (fun d => ({ d with fuses := { d.fuses with mfg := true, fld := true, ret := false }, lc := {} }).put 0xF000 0x30), by decide +kernel⟩,
   ⟨on (fun d => let d := { d with fuses := { d.fuses with mfg := true, fld := true, ret := false }, lc := { chal := some (0x123456789ABCDEF0, 3999999000) } }; (List.range 8).foldl (fun d i => d.put (0xF008 + i) ((cmac d.fuses.svcKey (bytes64 d.fuses.devId ++ bytes64 0x123456789ABCDEF0)).extractLsb' (112 - 16 * i) 16)) (d.put 0xF000 0)), by decide +kernel⟩⟩

theorem met_LifeCycle_3 :
    (∃ s : State, s.dev.runs = true ∧ s.dev.lc.fuse = some 1) ∧
    (∃ s : State, s.dev.runs = true ∧ s.dev.lc.fuse = some 2) ∧
    (∃ s : State, s.dev.runs = true ∧ s.dev.lc.fuse = some 3 ∧ s.dev.lc.erasing = true) :=
  ⟨⟨on (fun d => { d with lc := { d.lc with fuse := some 1, erasing := false } }), by decide +kernel⟩,
   ⟨on (fun d => { d with lc := { d.lc with fuse := some 2, erasing := false } }), by decide +kernel⟩,
   ⟨on (fun d => { d with lc := { d.lc with fuse := some 3, erasing := true } }), by decide +kernel⟩⟩

theorem met_LifeCycle_4 :
    (∃ s : State, s.dev.writeOk 0 0xF001 = true ∧ s.dev.lc.fuse = none ∧ s.dev.lcState ≠ 0 ∧ s.dev.lcState ≠ 3 ∧ ¬ (s.dev.lcState = 1 ∧ s.dev.fuses.keySvc = true ∧ s.dev.bit 0xC000 10 = true)) ∧
    (∃ s : State, s.dev.writeOk 0 0xF001 = true ∧ s.dev.lc.fuse = none ∧ (s.dev.lcState ≠ 2 ∨ s.dev.bit 0xF000 14 = true)) ∧
    (∃ s : State, s.dev.writeOk 0 0xF001 = true ∧ s.dev.lc.fuse = none ∧ s.dev.lcState = 2 ∧ s.dev.bit 0xF000 14 = true) :=
  ⟨⟨on (fun d => ({ d with fuses := { d.fuses with mfg := true, fld := false, ret := false, keySvc := true }, lc := {} }).put 0xC000 0), by decide +kernel⟩,
   ⟨on (fun d => { d with fuses := { d.fuses with mfg := false, fld := false, ret := false }, lc := {} }), by decide +kernel⟩,
   ⟨on (fun d => ({ d with fuses := { d.fuses with mfg := true, fld := true, ret := false }, lc := {} }).put 0xF000 0x4000), by decide +kernel⟩⟩

theorem met_LifeCycle_5 :
    (∃ s : State, s.dev.writeOk 0 0xF001 = true ∧ s.dev.lc.fuse = none ∧ ¬ (s.dev.lcState = 3 ∧ s.dev.gatesOff = true ∧ s.dev.allIdle = true)) ∧
    (∃ s : State, s.dev.lc.fuse.isSome = true) :=
  ⟨⟨on (fun d => ({ d with fuses := { d.fuses with mfg := true, fld := true, ret := false }, lc := { service := true } }).put 0x801 0x45), by decide +kernel⟩,
   ⟨on (fun d => { d with lc := { d.lc with fuse := some 2 } }), by decide +kernel⟩⟩

theorem met_KeysAndChallenge_1 :
    (∃ s : State, s.dev.writeOk 0 0xFC0F = true ∧ s.dev.writeOk 0 0xFC17 = true ∧ s.dev.lcState = 1 ∧ s.dev.fuses.keySvc = false ∧ s.dev.fuses.keySet = false) ∧
    (∃ s : State, s.dev.writeOk 0 0xFC0F = true ∧ s.dev.fuses.keySvc = true) ∧
    (∃ s : State, s.dev.readOk 0 0xF004 = true) :=
  ⟨⟨on (fun d => { d with fuses := { d.fuses with mfg := true, fld := false, ret := false, keySvc := false, keySet := false }, lc := {} }), by decide +kernel⟩,
   ⟨on (fun d => { d with fuses := { d.fuses with mfg := true, fld := false, ret := false, keySvc := true }, lc := {} }), by decide +kernel⟩,
   ⟨on (fun d => d), by decide +kernel⟩⟩

theorem met_KeysAndChallenge_2 :
    ∃ s : State, s.dev.runs = true ∧ s.dev.lc.chal = some (77, 1000) ∧ 1000 + 2000000000 ≤ s.dev.cycles :=
  ⟨on (fun d => { d with lc := { d.lc with chal := some (77, 1000) } }), by decide +kernel⟩

theorem met_TestsAndScan_1 :
    (∃ s : State, s.dev.writeOk 0 0xF400 = true ∧ s.dev.bistMay (bits 0 3 0) = true) ∧
    (∃ s : State, s.dev.writeOk 0 0xF400 = true ∧ s.dev.bistMay (bits 3 3 0) = true) ∧
    (∃ s : State, s.dev.writeOk 0 0xF400 = true ∧ s.dev.bist.run = some 0 ∧ s.dev.runs = true) :=
  ⟨⟨on (fun d => ((((((((({ d with motors := Vector.replicate 16 {}, fuses := { d.fuses with mfg := true, fld := false, ret := false }, lc := {} }).put 0x801 0xD).putB 0x11 0 false).putB 0x19 0 false).putB 0x21 0 false).putB 0x29 0 false).putB 0x8000 0 false).putB 0x8800 0 false).putB 0x9000 0 false).putB 0x9800 0 false), by decide +kernel⟩,
   ⟨on (fun d => ((((((((({ d with motors := Vector.replicate 16 {}, fuses := { d.fuses with mfg := true, fld := false, ret := false }, lc := {} }).put 0x801 0xD).putB 0x11 0 false).putB 0x19 0 false).putB 0x21 0 false).putB 0x29 0 false).putB 0x8000 0 false).putB 0x8800 0 false).putB 0x9000 0 false).putB 0x9800 0 false), by decide +kernel⟩,
   ⟨on (fun d => { d with bist := { run := some 0, lastTgt := 0 } }), by decide +kernel⟩⟩

theorem met_TestsAndScan_2 :
    (∃ s : State, s.dev.writeOk 0 0xF400 = true ∧ s.dev.bist.run = some 3 ∧ s.dev.runs = true) ∧
    (∃ s : State, s.dev.writeOk 0 0xF400 = true ∧ s.dev.bistMay (bits 9 3 0) = false) ∧
    (∃ s : State, s.dev.writeOk 0 0xF800 = true ∧ s.dev.bist.run = none ∧ s.dev.bist.failed = true ∧ s.dev.lcState = 1 ∧ s.dev.bit 0xF410 15 = true ∧ s.dev.bit 0xF410 14 = false ∧ (∀ i ∈ List.range 8, 0 < i → s.dev.bit (0xF410 + i) 15 = false) ∧ s.dev.spareLeft s.dev.bist.lastTgt (s.dev.fld 0xF410 13 0) = true) :=
  ⟨⟨on (fun d => { d with bist := { run := some 3, lastTgt := 3 } }), by decide +kernel⟩,
   ⟨on (fun d => d), by decide +kernel⟩,
   ⟨on (fun d => (((((((({ d with bist := { failed := true, lastTgt := 2 }, devLog := {}, fuses := { d.fuses with mfg := true, fld := false, ret := false, repairs := [] }, lc := {} }).put 0xF410 0x8005).put 0xf411 0).put 0xf412 0).put 0xf413 0).put 0xf414 0).put 0xf415 0).put 0xf416 0).put 0xf417 0), by decide +kernel⟩⟩

theorem met_TestsAndScan_3 :
    (∃ s : State, s.dev.writeOk 0 0xF800 = true ∧ s.dev.bist.failed = false ∧ s.dev.resetN = true) ∧
    (∃ s : State, s.dev.bist.run = some 1 ∧ s.dev.runs = true ∧ s.dev.w 0xF403 = 0) ∧
    (∃ s : State, s.dev.bist.run = some 1 ∧ s.dev.runs = true ∧ s.dev.w 0xF403 = 2) :=
  ⟨⟨on (fun d => { d with bist := { failed := false } }), by decide +kernel⟩,
   ⟨on (fun d => ({ d with bist := { run := some 1, lastTgt := 1 } }).put 0xF403 0), by decide +kernel⟩,
   ⟨on (fun d => ({ d with bist := { run := some 1, lastTgt := 1 } }).put 0xF403 2), by decide +kernel⟩⟩

theorem met_RegisterWrites :
    (∃ s : State, s.dev.writeOk 0 0x31 = true ∧ (regRow 0x31).isSome = true ∧ s.dev.absent 0x31 = false ∧ plainWord 0x31 = true) ∧
    (∃ s : State, s.dev.writeOk 0 0x2080 = true ∧ (regRow 0x2080).isSome = true ∧ s.dev.absent 0x2080 = false ∧ plainWord 0x2080 = true) ∧
    (∃ s : State, s.dev.writeOk 0 0x31 = false) :=
  ⟨⟨on (fun d => ((d).putB 0x40 14 true).put (0x400 + 4 * ((targetOf 49).getD (0,0)).1 + ((targetOf 49).getD (0,0)).2) 0xFFFF), by decide +kernel⟩,
   ⟨on (fun d => ((d).putB 0x40 14 false).put (0x400 + 4 * ((targetOf 8320).getD (0,0)).1 + ((targetOf 8320).getD (0,0)).2) 0xFFFF), by decide +kernel⟩,
   ⟨on (fun d => { d with locked := false }), by decide +kernel⟩⟩

theorem met_RegisterReads_1 :
    (∃ s : State, s.dev.readOk 0 0x4 = true ∧ latchSet 0x4 ≠ [] ∧ isLatched 0x4 = false) ∧
    (∃ s : State, s.dev.readOk 0 0xf404 = true ∧ latchSet 0xf404 ≠ [] ∧ isLatched 0xf404 = false) ∧
    (∃ s : State, s.dev.readOk 0 0x36 = true ∧ (regRow 0x36).isSome = true ∧ ((regRow 0x36).getD ⟨"", 0, [], []⟩).mask .rc ≠ 0 ∧ isLatched 0x36 = false ∧ isFbStat 0x36 = false ∧ s.dev.liveWord 0x36 = none ∧ s.dev.absent 0x36 = false ∧ absentBits s.dev 0x36 = 0 ∧ ((regRow 0x36).getD ⟨"", 0, [], []⟩).mask .wo = 0) :=
  ⟨⟨on (fun d => d), by decide +kernel⟩,
   ⟨on (fun d => d), by decide +kernel⟩,
   ⟨on (fun d => (d).put 0x36 0x1234), by decide +kernel⟩⟩

theorem met_RegisterReads_2 :
    (∃ s : State, s.dev.readOk 0 0xd003 = true ∧ (regRow 0xd003).isSome = true ∧ ((regRow 0xd003).getD ⟨"", 0, [], []⟩).mask .rc ≠ 0 ∧ isLatched 0xd003 = false ∧ isFbStat 0xd003 = false ∧ s.dev.liveWord 0xd003 = none ∧ s.dev.absent 0xd003 = false ∧ absentBits s.dev 0xd003 = 0 ∧ ((regRow 0xd003).getD ⟨"", 0, [], []⟩).mask .wo = 0) ∧
    (∃ s : State, s.dev.readOk 0 0x36 = false) :=
  ⟨⟨on (fun d => (d).put 0xd003 0x1234), by decide +kernel⟩,
   ⟨on (fun d => { d with locked := false }), by decide +kernel⟩⟩

theorem met_TimebaseRuns_1 :
    (∃ s : State, s.dev.writeOk 0 0xF = true ∧ s.dev.runBlocked = false ∧ s.dev.hasGrp 0 = true ∧ s.dev.writeOk 0 (aGrp 0 1) = true ∧ (s.dev.grp 0).running = true ∧ (s.dev.grp 0).starting = !true ∧ s.dev.bit (aGrp 0 1) 0 = true ∧ s.dev.runs = true ∧ s.pending = []) ∧
    (∃ s : State, s.dev.writeOk 0 0xF = true ∧ s.dev.runBlocked = false ∧ s.dev.hasGrp 0 = true ∧ s.dev.writeOk 0 (aGrp 0 1) = true ∧ (s.dev.grp 0).running = true ∧ (s.dev.grp 0).starting = !true ∧ s.dev.bit (aGrp 0 1) 0 = false ∧ s.dev.runs = true ∧ s.pending = []) ∧
    (∃ s : State, s.dev.writeOk 0 0xF = true ∧ s.dev.runBlocked = false ∧ s.dev.hasGrp 0 = true ∧ s.dev.writeOk 0 (aGrp 0 1) = true ∧ (s.dev.grp 0).running = false ∧ (s.dev.grp 0).starting = !false ∧ s.dev.bit (aGrp 0 1) 0 = true ∧ s.dev.runs = true ∧ s.pending = []) :=
  ⟨⟨on (fun d => (((d).onGrp 0 (fun x => { x with running := true, starting := !true })).putB 0xF401 13 false).putB 0x11 0 true), by decide +kernel⟩,
   ⟨on (fun d => (((d).onGrp 0 (fun x => { x with running := true, starting := !true })).putB 0xF401 13 false).putB 0x11 0 false), by decide +kernel⟩,
   ⟨on (fun d => (((d).onGrp 0 (fun x => { x with running := false, starting := !false })).putB 0xF401 13 false).putB 0x11 0 true), by decide +kernel⟩⟩

theorem met_TimebaseRuns_2 :
    ∃ s : State, s.dev.writeOk 0 0xF = true ∧ s.dev.runBlocked = false ∧ s.dev.hasGrp 0 = true ∧ s.dev.writeOk 0 (aGrp 0 1) = true ∧ (s.dev.grp 0).running = false ∧ (s.dev.grp 0).starting = !false ∧ s.dev.bit (aGrp 0 1) 0 = false ∧ s.dev.runs = true ∧ s.pending = [] :=
  ⟨on (fun d => (((d).onGrp 0 (fun x => { x with running := false, starting := !false })).putB 0xF401 13 false).putB 0x11 0 false), by decide +kernel⟩

theorem met_SystemUntouched :
    ∃ (c : Instr), ofDrive c = true :=
  ⟨.pwmEdge 3, by decide +kernel⟩

theorem met_CarriersAndOutputs_rows1 :
    (∃ s : State, s.dev.runs = true ∧ (s.dev.grp (grpOf 1)).running = true ∧ 60 ≤ (s.dev.grp (grpOf 1)).period ∧ s.dev.mayDrive 1 = false) ∧
    (∃ s : State, s.dev.runs = true ∧ (s.dev.grp (grpOf 1)).running = true ∧ 60 ≤ (s.dev.grp (grpOf 1)).period ∧ s.dev.mayDrive 1 = true ∧ (s.dev.mot 1).state = .fault ∧ (s.dev.mot 1).act = .floatThenClamp) ∧
    (∃ s : State, s.dev.runs = true ∧ (s.dev.grp (grpOf 1)).running = true ∧ 60 ≤ (s.dev.grp (grpOf 1)).period ∧ s.dev.mayDrive 1 = true ∧ (s.dev.mot 1).state = .fault ∧ (s.dev.mot 1).act = .clamp) ∧
    (∃ s : State, s.dev.runs = true ∧ (s.dev.grp (grpOf 1)).running = true ∧ 60 ≤ (s.dev.grp (grpOf 1)).period ∧ s.dev.mayDrive 1 = true ∧ (s.dev.mot 1).state = .brake) ∧
    (∃ s : State, s.dev.runs = true ∧ (s.dev.grp (grpOf 1)).running = true ∧ 60 ≤ (s.dev.grp (grpOf 1)).period ∧ s.dev.mayDrive 1 = true ∧ (s.dev.mot 1).state ≠ .fault ∧ s.dev.level (grpOf 1) = 3) ∧
    (∃ s : State, s.dev.runs = true ∧ (s.dev.grp (grpOf 1)).running = true ∧ 60 ≤ (s.dev.grp (grpOf 1)).period ∧ s.dev.mayDrive 1 = true ∧ (s.dev.mot 1).state ≠ .fault ∧ s.dev.level (grpOf 1) = 2 ∧ s.dev.regenerating 1 = true) :=
  ⟨⟨on (fun d => (((((({ d with inForce := ((d.put 0x2400 0).putB 0x240F 8 true).words }).onGrp 0 (fun x => { x with running := true, frameAt := 3999990000, period := 10000 })).put 0x801 0x3FD).putB 0x2400 0 false).putF 0x6407 1 0 0).putB 0x700D 0 false).onMot 1 (fun x => { x with state := MState.run })), by decide +kernel⟩,
   ⟨on (fun d => (((((({ d with inForce := ((d.put 0x2400 0).putB 0x240F 8 true).words }).onGrp 0 (fun x => { x with running := true, frameAt := 3999990000, period := 10000 })).put 0x801 0x3FD).putB 0x2400 0 true).putF 0x6407 1 0 0).putB 0x700D 0 false).onMot 1 (fun x => { x with state := MState.fault, act := .floatThenClamp })), by decide +kernel⟩,
   ⟨on (fun d => (((((({ d with inForce := ((d.put 0x2400 0).putB 0x240F 8 true).words }).onGrp 0 (fun x => { x with running := true, frameAt := 3999990000, period := 10000 })).put 0x801 0x3FD).putB 0x2400 0 true).putF 0x6407 1 0 3).putB 0x700D 0 false).onMot 1 (fun x => { x with state := MState.fault, act := .clamp })), by decide +kernel⟩,
   ⟨on (fun d => (((((({ d with inForce := ((d.put 0x2400 0).putB 0x240F 8 true).words }).onGrp 0 (fun x => { x with running := true, frameAt := 3999990000, period := 10000 })).put 0x801 0x3FD).putB 0x2400 0 true).putF 0x6407 1 0 0).putB 0x700D 0 false).onMot 1 (fun x => { x with state := MState.brake })), by decide +kernel⟩,
   ⟨on (fun d => (((((({ d with inForce := ((d.put 0x2400 0).putB 0x240F 8 true).words }).onGrp 0 (fun x => { x with running := true, frameAt := 3999990000, period := 10000 })).put 0x801 0x3FD).putB 0x2400 0 true).putF 0x6407 1 0 3).putB 0x700D 0 false).onMot 1 (fun x => { x with state := MState.run })), by decide +kernel⟩,
   ⟨on (fun d => (((((({ d with inForce := ((d.put 0x2400 0).putB 0x240F 8 true).words }).onGrp 0 (fun x => { x with running := true, frameAt := 3999990000, period := 10000 })).put 0x801 0x3FD).putB 0x2400 0 true).putF 0x6407 1 0 2).putB 0x700D 0 false).onMot 1 (fun x => { x with state := MState.coast })), by decide +kernel⟩⟩

theorem met_CarriersAndOutputs_rows2 :
    (∃ s : State, s.dev.runs = true ∧ (s.dev.grp (grpOf 1)).running = true ∧ 60 ≤ (s.dev.grp (grpOf 1)).period ∧ s.dev.mayDrive 1 = true ∧ s.dev.level (grpOf 1) = 1 ∧ (s.dev.mot 1).state = .revpend) ∧
    (∃ s : State, s.dev.runs = true ∧ (s.dev.grp (grpOf 1)).running = true ∧ 60 ≤ (s.dev.grp (grpOf 1)).period ∧ s.dev.mayDrive 1 = true ∧ s.dev.level (grpOf 1) = 2 ∧ s.dev.regenerating 1 = false ∧ (s.dev.mot 1).state = .revpend ∧ s.dev.pact 1 = true) ∧
    (∃ s : State, s.dev.runs = true ∧ (s.dev.grp (grpOf 1)).running = true ∧ 60 ≤ (s.dev.grp (grpOf 1)).period ∧ s.dev.mayDrive 1 = true ∧ s.dev.level (grpOf 1) ≤ 1 ∧ (s.dev.mot 1).state = .coast) ∧
    (∃ s : State, s.dev.runs = true ∧ (s.dev.grp (grpOf 1)).running = true ∧ 60 ≤ (s.dev.grp (grpOf 1)).period ∧ s.dev.mayDrive 1 = true ∧ s.dev.level (grpOf 1) ≤ 1 ∧ (s.dev.mot 1).state = .start ∧ (s.dev.mot 1).phase = .backoff) ∧
    (∃ s : State, s.dev.runs = true ∧ (s.dev.grp (grpOf 1)).running = true ∧ 60 ≤ (s.dev.grp (grpOf 1)).period ∧ s.dev.mayDrive 1 = true ∧ s.dev.level (grpOf 1) ≤ 1 ∧ (s.dev.mot 1).drives = true ∧ s.dev.bit (aCur 1 5) 0 = false ∧ s.dev.pwmMode 1 = .hpwm) ∧
    (∃ s : State, s.dev.runs = true ∧ (s.dev.grp (grpOf 1)).running = true ∧ 60 ≤ (s.dev.grp (grpOf 1)).period ∧ s.dev.mayDrive 1 = true ∧ s.dev.level (grpOf 1) = 2 ∧ s.dev.regenerating 1 = false ∧ (s.dev.mot 1).drives = true ∧ s.dev.bit (aCur 1 5) 0 = false ∧ s.dev.pwmMode 1 = .lpwm) ∧
    (∃ s : State, s.dev.runs = true ∧ (s.dev.grp (grpOf 1)).running = true ∧ 60 ≤ (s.dev.grp (grpOf 1)).period ∧ s.dev.mayDrive 1 = true ∧ s.dev.level (grpOf 1) ≤ 1 ∧ (s.dev.mot 1).drives = true ∧ s.dev.bit (aCur 1 5) 0 = false ∧ s.dev.pwmMode 1 = .comp) :=
  ⟨⟨on (fun d => (((((({ d with inForce := ((d.put 0x2400 0).putB 0x240F 8 true).words }).onGrp 0 (fun x => { x with running := true, frameAt := 3999990000, period := 10000 })).put 0x801 0x3FD).putB 0x2400 0 true).putF 0x6407 1 0 1).putB 0x700D 0 false).onMot 1 (fun x => { x with state := MState.revpend })), by decide +kernel⟩,
   ⟨on (fun d => (((((({ d with inForce := ((d.put 0x2400 0).putB 0x240F 8 true).words }).onGrp 0 (fun x => { x with running := true, frameAt := 3999990000, period := 10000 })).put 0x801 0x3FD).putB 0x2400 0 true).putF 0x6407 1 0 2).putB 0x700D 0 false).onMot 1 (fun x => { x with state := MState.revpend, lastReq := (0, false) })), by decide +kernel⟩,
   ⟨on (fun d => (((((({ d with inForce := ((d.put 0x2400 0).putB 0x240F 8 true).words }).onGrp 0 (fun x => { x with running := true, frameAt := 3999990000, period := 10000 })).put 0x801 0x3FD).putB 0x2400 0 true).putF 0x6407 1 0 1).putB 0x700D 0 false).onMot 1 (fun x => { x with state := MState.coast })), by decide +kernel⟩,
   ⟨on (fun d => (((((({ d with inForce := ((d.put 0x2400 0).putB 0x240F 8 true).words }).onGrp 0 (fun x => { x with running := true, frameAt := 3999990000, period := 10000 })).put 0x801 0x3FD).putB 0x2400 0 true).putF 0x6407 1 0 1).putB 0x700D 0 false).onMot 1 (fun x => { x with state := MState.start, phase := .backoff })), by decide +kernel⟩,
   ⟨on (fun d => (((((({ d with inForce := ((d.put 0x2400 0).putB 0x240F 8 true).words }).onGrp 0 (fun x => { x with running := true, frameAt := 3999990000, period := 10000 })).put 0x801 0x3FD).putB 0x2400 0 true).putF 0x6407 1 0 1).putB 0x700D 0 false).onMot 1 (fun x => { x with state := MState.run })), by decide +kernel⟩,
   ⟨on (fun d => (((((({ d with inForce := ((d.put 0x2400 2).putB 0x240F 8 true).words }).onGrp 0 (fun x => { x with running := true, frameAt := 3999990000, period := 10000 })).put 0x801 0x3FD).putB 0x2400 0 true).putF 0x6407 1 0 2).putB 0x700D 0 false).onMot 1 (fun x => { x with state := MState.run, spdv := false, lastReq := (0, false) })), by decide +kernel⟩,
   ⟨on (fun d => (((((({ d with inForce := ((d.put 0x2400 4).putB 0x240F 8 true).words }).onGrp 0 (fun x => { x with running := true, frameAt := 3999990000, period := 10000 })).put 0x801 0x3FD).putB 0x2400 0 true).putF 0x6407 1 0 0).putB 0x700D 0 false).onMot 1 (fun x => { x with state := MState.start, phase := .align2 })), by decide +kernel⟩⟩

/-- Group A as the count of its bus reading closes at v, at level l of the ladder. -/
def ladder (l v : Nat) (o1 o2 o3 hys : Word) : State :=
  on (fun d => (((((((((({ d with power := { d.power with prismLock := true } }).put 0x801 0x3FD).put 0x802 0x3F8).onGrp 0 (fun x => { x with running := true, frameAt := 3999990000, period := 10000 })).onPrm 0 (fun x => { x with acc := upd x.acc 5 (fun _ => { frame := true, cfg := 0x4000, cpt := 0, sum := (v : Int), n := 2, waits := false }) })).putF 0x6400 7 2 5).putF 0x6407 1 0 l).put 0x6401 o1).put 0x6402 o2).put 0x6403 o3).put 0x6404 hys)

/-- The ladder of a reading at each boundary of O38, with thresholds in their order. -/
theorem met_Conversions_ladder : ∀ e ∈ [(0, 3000), (1, 2000), (1, 2999), (0, 1000), (0, 1999), (0, 999), (1, 949), (1, 950), (1, 1999), (2, 949), (2, 950), (3, 1949), (3, 1950), (2, 2999)],
    let s := ladder e.1 e.2 1000 2000 3000 50
    s.dev.runs = true ∧ s.dev.prmReady 0 = true ∧ (s.dev.acc 0 5).frame = true ∧ (s.dev.acc 0 5).closed = false ∧ (s.dev.acc 0 5).waits = false ∧ (s.dev.acc 0 5).total ≤ (s.dev.acc 0 5).n ∧ s.dev.closePoint 0 (s.dev.acc 0 5) ≤ s.dev.frameTick 0 ∧ s.dev.fld (aSup 0 0) 7 2 = 5 ∧
    s.dev.level 0 = e.1 ∧ (iword (s.dev.acc 0 5).value.1).toNat = e.2 ∧ s.dev.uw (aSup 0 1) < s.dev.uw (aSup 0 2) ∧
    s.dev.uw (aSup 0 2) < s.dev.uw (aSup 0 3) ∧ s.dev.uw (aSup 0 4) < s.dev.uw (aSup 0 1) := by decide +kernel

/-- And with thresholds out of their order. -/
theorem met_Conversions_badLadder : ∀ e ∈ [(0, 1000), (0, 999), (2, 949)],
    let s := ladder e.1 e.2 3000 2000 1000 50
    s.dev.runs = true ∧ s.dev.prmReady 0 = true ∧ (s.dev.acc 0 5).frame = true ∧ (s.dev.acc 0 5).closed = false ∧ (s.dev.acc 0 5).waits = false ∧ (s.dev.acc 0 5).total ≤ (s.dev.acc 0 5).n ∧ s.dev.closePoint 0 (s.dev.acc 0 5) ≤ s.dev.frameTick 0 ∧ s.dev.fld (aSup 0 0) 7 2 = 5 ∧
    s.dev.level 0 = e.1 ∧ (iword (s.dev.acc 0 5).value.1).toNat = e.2 ∧
    ¬ (s.dev.uw (aSup 0 1) < s.dev.uw (aSup 0 2)) := by decide +kernel

/-- Sensor 1 as the count of its reading closes at t: both states up or down, both qualifications as given. -/
def reading (t : Int) (up : Bool) (at_ : Option Nat) : State :=
  on (fun d => (((((((((((((({ d with power := { d.power with prismLock := true } }).put 0x801 0x3FD).put 0x802 0x3F8).onGrp 0 (fun x => { x with running := true, frameAt := 3999990000, period := 10000 })).onPrm 0 (fun x => { x with acc := upd x.acc 5 (fun _ => { frame := true, cfg := 0x4000, cpt := 0, sum := t, n := 2, waits := false }) })).putB 0x1001 11 up).putB 0x1001 6 up).put 0x1019 500).put 0x101A 700).put 0x101B 50).onSen 1 (fun x => { x with sent := true, arr := 0, sentArr := 0, acc := 5, warnAt := at_, thrAt := at_ })).onSen 0 (fun x => { x with sent := false })).onSen 2 (fun x => { x with sent := false })).onSen 3 (fun x => { x with sent := false })).onSen 4 (fun x => { x with sent := false }))

/-- A reading below and at the warning threshold, with no time, too short a time and the time that qualifies; at the throttle
threshold; and below both releases. -/
theorem met_ThermalProtection_readings :
    (∀ e ∈ [((499 : Int), (none : Option Nat)), (500, none), (500, some 19999001), (500, some 19999000), (700, some 19999000)],
      let s := reading e.1 false e.2
      s.dev.runs = true ∧ s.dev.prmReady 0 = true ∧ (s.dev.acc 0 5).frame = true ∧ (s.dev.acc 0 5).closed = false ∧ (s.dev.acc 0 5).waits = false ∧ (s.dev.acc 0 5).total ≤ (s.dev.acc 0 5).n ∧ s.dev.closePoint 0 (s.dev.acc 0 5) ≤ s.dev.frameTick 0 ∧ (s.dev.sen 1).sent = true ∧ (s.dev.sen 1).sentArr = 0 ∧ (s.dev.sen 1).arr = 0 ∧ (s.dev.sen 1).acc = 5 ∧ (∀ o, o ≠ 1 → (s.dev.sen o).sent = false) ∧
      s.dev.bit 0x1001 11 = false ∧ s.dev.bit 0x1001 6 = false ∧ (iword (s.dev.acc 0 5).value.1).toInt = e.1 ∧
      (s.dev.sen 1).warnAt = e.2 ∧ s.dev.sw (aSen 1 1) = 500 ∧ s.dev.sw (aSen 1 2) = 700 ∧ s.dev.micros = 20000000) ∧
    (let s := reading 449 true (some 19999000)
     s.dev.runs = true ∧ s.dev.prmReady 0 = true ∧ (s.dev.acc 0 5).frame = true ∧ (s.dev.acc 0 5).closed = false ∧ (s.dev.acc 0 5).waits = false ∧ (s.dev.acc 0 5).total ≤ (s.dev.acc 0 5).n ∧ s.dev.closePoint 0 (s.dev.acc 0 5) ≤ s.dev.frameTick 0 ∧ (s.dev.sen 1).sent = true ∧ (s.dev.sen 1).sentArr = 0 ∧ (s.dev.sen 1).arr = 0 ∧ (s.dev.sen 1).acc = 5 ∧ (∀ o, o ≠ 1 → (s.dev.sen o).sent = false) ∧
     s.dev.bit 0x1001 11 = true ∧ s.dev.bit 0x1001 6 = true ∧ (s.dev.sen 1).warnAt = some 19999000 ∧ s.dev.uw (aSen 1 3) = 50) := by
  decide +kernel

/-- The front command of two runs, and the second waits. -/
theorem test_step_front : (match step { State.reset with pending := [.rtcStop, .pwmEdge 3] } with
    | .next t => t.umbra.rtcx && t.pending == [.pwmEdge 3]
    | _ => false) = true := by decide +kernel

/-- On an empty queue a running module counts one cycle, and a module in reset idles. -/
theorem test_step_idle : (match step (on id) with | .next t => t.dev.cycles == (on id).dev.cycles + 1 | _ => false) = true ∧
    step State.reset = .next State.reset := ⟨by decide +kernel, rfl⟩

end Sys2Proof.Tests
end

section
/-! Proofs of the statements of chapter 00: what a plain register stores, what a read returns and leaves, and what an event
of the drive does to the system. -/

namespace Sys2Proof.Machine

open Sys2Proof

/-! ### Plain words of each block (R9) -/

section
variable (d : Dev) (k : Master) (a : Nat) (v mv : Word)

theorem Dev.commitSys_plain (hp : plainWord a = true) (h : a < 0x400) : d.commitSys k a v mv = d.put a mv := by
  rw [plainWord, if_pos h] at hp
  simp only [Bool.and_eq_true, Bool.not_eq_true', Bool.and_eq_false_imp, decide_eq_true_eq,
    decide_eq_false_iff_not] at hp
  obtain ⟨⟨⟨⟨hF, hg⟩, hC⟩, hM⟩, hD⟩ := hp
  have h0 : ¬ (0x10 ≤ a ∧ a < 0x30 ∧ a % 8 = 0) := by rintro ⟨h1, h2, h3⟩; exact hg ⟨h1, h2⟩ (by omega)
  have h1 : ¬ (0x10 ≤ a ∧ a < 0x30 ∧ a % 8 = 1) := by rintro ⟨h1, h2, h3⟩; exact hg ⟨h1, h2⟩ (by omega)
  rw [Dev.commitSys, if_neg hF, if_neg h0, if_neg h1, if_neg hC, if_neg hM, if_neg hD]

theorem Dev.commitEvent_plain (hp : plainWord a = true) (h : 0xC00 ≤ a ∧ a < 0x1000) :
    d.commitEvent a v mv = d.put a mv := by
  rw [plainWord, if_neg (by omega), if_neg (by omega), if_pos h.2] at hp
  simp only [Bool.and_eq_true, Bool.not_eq_true', Bool.and_eq_false_imp, decide_eq_true_eq,
    decide_eq_false_iff_not] at hp
  obtain ⟨hpend, hp⟩ := hp
  have h0 : ¬ (0xE04 ≤ a ∧ a < 0xE40 ∧ 4 ≤ a % 16 ∧ a % 16 < 8) := by
    rintro ⟨h1, h2, h3⟩; exact hpend ⟨h1, h2⟩ h3
  rw [Dev.commitEvent, if_neg h0, if_neg hp]

theorem Dev.commitMot_plain (hp : plainWord a = true) (h : 0x2000 ≤ a ∧ a < 0x6000) :
    d.commitMot a v mv = d.put a mv := by
  rw [plainWord, if_neg (by omega), if_neg (by omega), if_neg (by omega), if_neg (by omega), if_pos h.2] at hp
  unfold Dev.commitMot
  generalize (a - 0x2000) % 0x400 = o at hp ⊢
  split
  case h_9 => rfl
  all_goals exact absurd hp (by decide)

theorem Dev.commitSup_plain (hp : plainWord a = true) (h : 0x6400 ≤ a ∧ a < 0x6800) :
    d.commitSup a v mv = d.put a mv := by
  rw [plainWord, if_neg (by omega), if_neg (by omega), if_neg (by omega), if_neg (by omega), if_neg (by omega),
    if_neg (by omega), if_pos h.2] at hp
  unfold Dev.commitSup
  generalize (a - 0x6400) % 0x40 = o at hp ⊢
  split
  case h_4 => rfl
  all_goals exact absurd hp (by decide)

/-- A plain comparator word is stored, and comes into force in the next cycle where the group stands still (R211). -/
theorem Dev.commitGlint_plain (hp : plainWord a = true) (h : 0x7000 ≤ a ∧ a < 0x8000) :
    ∃ l, d.commitGlint a v mv = { d.put a mv with glDue := l } := by
  rw [plainWord, if_neg (by omega), if_neg (by omega), if_neg (by omega), if_neg (by omega), if_neg (by omega),
    if_neg (by omega), if_neg (by omega), if_neg (by omega), if_pos h.2] at hp
  unfold Dev.commitGlint
  by_cases h0 : a < 0x7080
  · rw [if_pos h0] at hp ⊢
    dsimp only
    rw [if_neg (of_decide_eq_true hp)]
    split
    · exact ⟨d.glDue, rfl⟩
    · exact ⟨_, rfl⟩
  · rw [if_neg h0] at hp ⊢
    by_cases h1 : a < 0x7090
    · rw [if_pos h1] at hp ⊢
      rw [if_neg (of_decide_eq_true hp)]
      exact ⟨d.glDue, rfl⟩
    · rw [if_neg h1] at hp ⊢
      rw [if_neg (of_decide_eq_true hp)]
      exact ⟨d.glDue, rfl⟩

theorem Dev.commitPrism_plain (hp : plainWord a = true) (h : 0x8000 ≤ a ∧ a < 0xA000) :
    d.commitPrism a v mv = d.put a mv := by
  rw [plainWord, if_neg (by omega), if_neg (by omega), if_neg (by omega), if_neg (by omega), if_neg (by omega),
    if_neg (by omega), if_neg (by omega), if_neg (by omega), if_neg (by omega), if_pos h.2] at hp
  unfold Dev.commitPrism
  dsimp only at hp ⊢
  generalize (a - 0x8000) % 0x800 = o at hp ⊢
  simp only [Bool.and_eq_true, Bool.not_eq_true', Bool.and_eq_false_imp, decide_eq_true_eq,
    decide_eq_false_iff_not] at hp
  obtain ⟨⟨⟨hC, hU⟩, hF⟩, hT⟩ := hp
  have h0 : ¬ (0x300 ≤ o ∧ o < 0x380 ∧ o % 4 = 0) := by rintro ⟨h1, h2, h3⟩; exact hT ⟨h1, h2⟩ h3
  rw [if_neg hC, if_neg hU, if_neg hF, if_neg h0]

theorem Dev.commitFb_plain (hp : plainWord a = true) (h : 0xA000 ≤ a ∧ a < 0xB000) :
    d.commitFb a v mv = d.put a mv := by
  rw [plainWord, if_neg (by omega), if_neg (by omega), if_neg (by omega), if_neg (by omega), if_neg (by omega),
    if_neg (by omega), if_neg (by omega), if_neg (by omega), if_neg (by omega), if_neg (by omega), if_pos h.2] at hp
  unfold Dev.commitFb
  by_cases h0 : a < 0xA300
  · rw [if_pos h0] at hp ⊢
    dsimp only
    generalize a % 0x20 = o at hp ⊢
    split
    case h_3 => rfl
    all_goals exact absurd hp (by decide)
  · rw [if_neg h0] at hp ⊢
    rw [if_neg (of_decide_eq_true hp)]

theorem Dev.commitTrace_plain (hp : plainWord a = true) (h : 0xB000 ≤ a ∧ a < 0xC000) :
    d.commitTrace a v mv = d.put a mv := by
  rw [plainWord, if_neg (by omega), if_neg (by omega), if_neg (by omega), if_neg (by omega), if_neg (by omega),
    if_neg (by omega), if_neg (by omega), if_neg (by omega), if_neg (by omega), if_neg (by omega),
    if_neg (by omega), if_pos h.2] at hp
  simp only [Bool.and_eq_true, Bool.not_eq_true', Bool.and_eq_false_imp, decide_eq_true_eq,
    decide_eq_false_iff_not] at hp
  obtain ⟨⟨hcfg, hin⟩, hcmd⟩ := hp
  unfold Dev.commitTrace
  by_cases h0 : a < 0xB400
  · rw [if_pos h0]
    have ho := hcfg h0
    dsimp only
    generalize a % 8 = o at ho ⊢
    split
    case h_4 => rfl
    all_goals exact absurd (by decide) ho
  · rw [if_neg h0, if_neg (by omega), if_neg hcmd]

theorem Dev.commitMem_plain (hp : plainWord a = true) (h : 0xD000 ≤ a ∧ a < 0xE000) :
    d.commitMem a v mv = d.put a mv := by
  rw [plainWord, if_neg (by omega), if_neg (by omega), if_neg (by omega), if_neg (by omega), if_neg (by omega),
    if_neg (by omega), if_neg (by omega), if_neg (by omega), if_neg (by omega), if_neg (by omega),
    if_neg (by omega), if_neg (by omega), if_neg (by omega), if_pos h.2] at hp
  simp only [Bool.and_eq_true, Bool.not_eq_true', decide_eq_true_eq, decide_eq_false_iff_not] at hp
  obtain ⟨⟨⟨⟨⟨hcfg, hraw⟩, hrun⟩, hwin⟩, hq⟩, hbuf⟩ := hp
  rw [Dev.commitMem, if_neg hcfg, if_neg hraw, if_neg hrun, if_neg hwin, if_neg hq, if_neg hbuf]

theorem Dev.commitTest_plain (hp : plainWord a = true) (h : 0xF000 ≤ a ∧ a < 0x10000) :
    d.commitTest a v mv = d.put a mv := by
  rw [plainWord, if_neg (by omega), if_neg (by omega), if_neg (by omega), if_neg (by omega), if_neg (by omega),
    if_neg (by omega), if_neg (by omega), if_neg (by omega), if_neg (by omega), if_neg (by omega),
    if_neg (by omega), if_neg (by omega), if_neg (by omega), if_neg (by omega), if_neg (by omega)] at hp
  simp only [Bool.and_eq_true, Bool.not_eq_true', decide_eq_true_eq, decide_eq_false_iff_not] at hp
  obtain ⟨⟨⟨⟨hlc, hchal⟩, hbist⟩, hrep⟩, hkey⟩ := hp
  rw [Dev.commitTest, if_neg hlc, if_neg hchal, if_neg hbist, if_neg hrep, if_neg (by omega), if_neg (by omega)]

/-- A write outside the blocks whose words have effects of their own is stored. -/
theorem Dev.commit_stored (hr : isReg a = true) (ha : d.absent a = false) (hreq : a ≠ 0x800) (hth : a ≠ 0x1006)
    (hrq : a ≠ 0xE803) (h : (0x400 ≤ a ∧ a < 0xC00) ∨ (0x1000 ≤ a ∧ a < 0x2000) ∨ (0x6000 ≤ a ∧ a < 0x6400) ∨
      (0x6800 ≤ a ∧ a < 0x7000) ∨ (0xC000 ≤ a ∧ a < 0xD000) ∨ (0xE000 ≤ a ∧ a < 0xF000) ∨ 0x10000 ≤ a) :
    d.commit k a v = d.put a (d.merge a v) := by
  obtain ⟨r, e⟩ := Option.isSome_iff_exists.mp hr
  unfold Dev.commit Dev.merge
  rw [e]
  dsimp only
  rw [ha, if_neg Bool.false_ne_true, if_neg (by omega), if_neg hreq, if_neg (by omega), if_neg hth, if_neg (by omega),
    if_neg (by omega), if_neg (by omega), if_neg (by omega), if_neg (by omega), if_neg (by omega), if_neg (by omega),
    if_neg hrq, if_neg (by omega)]

/-- A write of a plain word stores the merged value; a comparator word of a group that stands still is also noted to come
into force in the next cycle (R9, R211). -/
theorem Dev.commit_plain (hr : isReg a = true) (ha : d.absent a = false) (hp : plainWord a = true) :
    ∃ l, d.commit k a v = { d.put a (d.merge a v) with glDue := l } := by
  have stored (e : d.commit k a v = d.put a (d.merge a v)) :
      ∃ l, d.commit k a v = { d.put a (d.merge a v) with glDue := l } := ⟨d.glDue, e⟩
  by_cases hsys : a < 0x400
  · exact stored ((d.commit_sys k a v hr ha hsys).trans (d.commitSys_plain k a v _ hp hsys))
  by_cases hev : 0xC00 ≤ a ∧ a < 0x1000
  · exact stored ((d.commit_event k a v hr ha hev).trans (d.commitEvent_plain a v _ hp hev))
  by_cases hmot : 0x2000 ≤ a ∧ a < 0x6000
  · exact stored ((d.commit_mot k a v hr ha hmot).trans (d.commitMot_plain a v _ hp hmot))
  by_cases hsup : 0x6400 ≤ a ∧ a < 0x6800
  · exact stored ((d.commit_sup k a v hr ha hsup).trans (d.commitSup_plain a v _ hp hsup))
  by_cases hgl : 0x7000 ≤ a ∧ a < 0x8000
  · rw [d.commit_glint k a v hr ha hgl]
    exact d.commitGlint_plain a v _ hp hgl
  by_cases hprm : 0x8000 ≤ a ∧ a < 0xA000
  · exact stored ((d.commit_prism k a v hr ha hprm).trans (d.commitPrism_plain a v _ hp hprm))
  by_cases hfb : 0xA000 ≤ a ∧ a < 0xB000
  · exact stored ((d.commit_fb k a v hr ha hfb).trans (d.commitFb_plain a v _ hp hfb))
  by_cases htr : 0xB000 ≤ a ∧ a < 0xC000
  · exact stored ((d.commit_trace k a v hr ha htr).trans (d.commitTrace_plain a v _ hp htr))
  by_cases hmem : 0xD000 ≤ a ∧ a < 0xE000
  · exact stored ((d.commit_mem k a v hr ha hmem).trans (d.commitMem_plain a v _ hp hmem))
  by_cases htst : 0xF000 ≤ a ∧ a < 0x10000
  · exact stored ((d.commit_test k a v hr ha htst).trans (d.commitTest_plain a v _ hp htst))
  have hne (b : Nat) (hb : plainWord b = false) : a ≠ b := by rintro rfl; rw [hp] at hb; exact Bool.noConfusion hb
  exact stored (d.commit_stored k a v hr ha (hne _ (by decide)) (hne _ (by decide)) (hne _ (by decide)) (by omega))

/-! ### The bits of a merged word (R9) -/

/-- Bit i of a register takes what is written to it: RW, or RWL while the tables are unlocked. -/
def Dev.takes (r : RegRow) (i : Nat) : Bool := (r.mask .rw).testBit i || (!d.locked' && (r.mask .rwl).testBit i)

theorem Dev.testBit_writeMask (r : RegRow) (i : Nat) :
    (r.mask .rw ||| (if d.locked' then 0 else r.mask .rwl)).testBit i = d.takes r i := by
  unfold Dev.takes
  cases d.locked' <;> simp

/-- A bit after a write: one that takes writes is the written bit, and elsewhere a flag written 1 clears unless the device
has set it in this cycle. -/
theorem Dev.bitOf_merged (r : RegRow) {i : Nat} (hi : i < 16) (hb : (absentBits d a).getLsbD i = false) :
    bitOf (d.merged r a v) i =
      if d.takes r i then bitOf v i
      else d.bit a i && (!(bitOf v i && (r.mask .w1c).testBit i) || bitOf (d.freshBits a) i) := by
  unfold Dev.merged bitOf Dev.bit bitOf
  simp only [BitVec.getLsbD_or, BitVec.getLsbD_and, BitVec.getLsbD_not, BitVec.getLsbD_ofNat, Dev.testBit_writeMask,
    hi, hb, decide_true, Bool.true_and, Bool.not_false, Bool.and_true]
  cases d.takes r i <;> simp

/-- What a plain word and the other words read as after a write, and that no motor notices it. -/
theorem Dev.commit_plain_frame (r : RegRow) (hr : regRow a = some r) (ha : d.absent a = false)
    (hp : plainWord a = true) : (d.commit k a v).w a = d.merged r a v ∧ d.SameWords (d.commit k a v) [a] ∧
      (d.commit k a v).motors = d.motors := by
  have hreg : isReg a = true := by unfold isReg; rw [hr]; rfl
  have hm : d.merge a v = d.merged r a v := by unfold Dev.merge; rw [hr]
  obtain ⟨l, hl⟩ := d.commit_plain k a v hreg ha hp
  rw [hl, hm]
  exact ⟨d.w_put_self a _, fun b hb => d.w_put_ne _ (List.ne_of_not_mem_cons hb), rfl⟩

end

/-! ### The write commands -/

theorem exec_registerWrite (k : Master) (a : Addr) (v : Word) (s : State) :
    exec (.registerWrite k a v) s = s.write k a.toNat v := rfl

theorem exec_w1cWrite (k : Master) (a : Addr) (v : Word) (s : State) :
    exec (.w1cWrite k a v) s = s.write k a.toNat v := rfl

/-- Settles O57: a plain word stores its merged value, which is read bit by bit. -/
theorem registerWrites : Obligations.RegisterWrites := by
  intro s k a v
  rw [exec_registerWrite, exec_w1cWrite]
  refine ⟨fun h => ⟨s.write_refused k _ v h, s.write_refused k _ v h⟩, fun r hw hr ha hp => ?_⟩
  obtain ⟨hv, hsame, hmot⟩ := s.dev.commit_plain_frame k a.toNat v r hr ha hp
  refine ⟨_, s.write_ok k _ v hw, s.write_ok k _ v hw, hsame, hmot, fun i hi hb => ?_⟩
  have hbit : (s.dev.commit k a.toNat v).bit a.toNat i = bitOf (s.dev.merged r a.toNat v) i := congrArg (bitOf · i) hv
  rw [hbit, s.dev.bitOf_merged a.toNat v r hi hb]
  unfold Dev.takes
  refine ⟨fun h => ?_, fun h h1 h2 => ?_, fun h h1 h2 => ?_, fun h h1 h2 => ?_⟩
  · simp [h]
  · cases s.dev.locked' <;> simp [h, h1, h2]
  · simp [h, h1, h2]
  · simp [h, h1, h2]

/-! ### Latching a list of words for a master (R41) -/

theorem latchKey_ne_of_ne (k : Master) {a b : Nat} (h : b ≠ a) : latchKey k b ≠ latchKey k a :=
  fun e => h (Nat.add_left_cancel e)

/-- Keys of two masters differ (R41). -/
theorem latchKey_ne {j k : Master} {a b : Nat} (hjk : j ≠ k) (ha : a < 2 ^ 24) (hb : b < 2 ^ 24) :
    latchKey j b ≠ latchKey k a := by
  have : j.1 ≠ k.1 := fun e => hjk (Fin.ext e)
  unfold latchKey; omega

section
variable (d : Dev) (k : Master)

/-- The words of a list are latched for master k. -/
def Dev.latchAll (l : List (Nat × Word)) : Dev := d.each l (fun d p => d.latch k p.1 p.2)

theorem Dev.latchAll_cons (p : Nat × Word) (l : List (Nat × Word)) :
    d.latchAll k (p :: l) = (d.latch k p.1 p.2).latchAll k l := rfl

/-- A latching read touches the latched words alone. -/
theorem Dev.latchAll_eq (l : List (Nat × Word)) : ∃ st, d.latchAll k l = { d with latches := st } := by
  induction l generalizing d with
  | nil => exact ⟨d.latches, rfl⟩
  | cons p l ih => exact ih (d.latch k p.1 p.2)

/-- A word that the list gives one value stands latched with it, where it is in the list or stood so before. -/
theorem Dev.latched_latchAll {l : List (Nat × Word)} {b : Nat} {v : Word} (hv : ∀ p ∈ l, p.1 = b → p.2 = v)
    (hb : d.latched k b = v ∨ ∃ p ∈ l, p.1 = b) : (d.latchAll k l).latched k b = v := by
  induction l generalizing d with
  | nil => exact hb.resolve_right (by simp)
  | cons p l ih =>
    rw [Dev.latchAll_cons]
    refine ih _ (fun q hq => hv q (List.mem_cons_of_mem p hq)) ?_
    rw [Dev.latched_latch]
    by_cases hpb : b = p.1
    · exact .inl ((if_pos (congrArg _ hpb)).trans (hv p List.mem_cons_self hpb.symm))
    · rw [if_neg (latchKey_ne_of_ne k hpb)]
      refine hb.imp_right fun ⟨q, hq, e⟩ => ⟨q, (List.mem_cons.mp hq).resolve_left ?_, e⟩
      rintro rfl
      exact hpb e.symm

/-- Words latched for another master stay. -/
theorem Dev.latched_latchAll_other {j : Master} {l : List (Nat × Word)} {b : Nat} (hjk : j ≠ k)
    (hl : ∀ p ∈ l, p.1 < 2 ^ 24) (hb : b < 2 ^ 24) : (d.latchAll k l).latched j b = d.latched j b := by
  induction l generalizing d with
  | nil => rfl
  | cons p l ih =>
    rw [Dev.latchAll_cons, ih _ (fun q hq => hl q (List.mem_cons_of_mem p hq)), Dev.latched_latch,
      if_neg (latchKey_ne hjk (hl p List.mem_cons_self) hb)]

end

theorem word_and_not_zero (w : Word) : w &&& ~~~0 = w := BitVec.and_allOnes

/-! ### The words that a read latches (R41, R261) -/

/-- No read latches a word that lies further than 63 words behind it. -/
theorem latchRows_le : ∀ r ∈ latchRows, ∀ o ∈ r.2.2, o ≤ 63 := by decide +kernel

theorem le_of_mem_latchSet {a b : Nat} (h : b ∈ latchSet a) : b ≤ a + 63 := by
  unfold latchSet at h
  split at h
  case h_1 r hr =>
    obtain ⟨o, ho, rfl⟩ := List.mem_map.mp h
    have := latchRows_le r (List.mem_of_find?_eq_some hr) o ho
    omega
  case h_2 => cases h

/-- The STAT word of a feedback channel is not among those that FPOS latches whole: of it only FSPDV is latched (R261). -/
theorem fbStat_not_mem_latchSet {a : Nat} (h : 0xA000 ≤ a ∧ a < 0xA200) (h4 : a % 0x20 = 4) : a + 4 ∉ latchSet a := by
  have all : ∀ f : Fin 16, 0xA004 + 0x20 * f.1 + 4 ∉ latchSet (0xA004 + 0x20 * f.1) := by decide +kernel
  have e : a = 0xA004 + 0x20 * ((a - 0xA004) / 0x20) := by omega
  rw [e]
  exact all ⟨(a - 0xA004) / 0x20, by omega⟩

theorem inStore_eq_false {n : Nat} (h : n < 0x100000) : inStore n = false := decide_eq_false (by omega)

section
variable (d : Dev) (a : Nat)

/-- Outside the trace store a read latches the words of its set with their values now, and with FPOS the FSPDV bit of the
channel's STAT word (R41, R261). -/
theorem Dev.mem_latchNow (ha : a < 0x100000) {p : Nat × Word} (hp : p ∈ d.latchNow a) :
    (p.1 ∈ latchSet a ∧ p.2 = d.live p.1) ∨ (p.1 = a + 4 ∧ (0xA000 ≤ a ∧ a < 0xA200) ∧ a % 0x20 = 4) := by
  unfold Dev.latchNow at hp
  rw [inStore_eq_false ha, if_neg Bool.false_ne_true] at hp
  dsimp only at hp
  split at hp
  case isTrue h =>
    simp only [Bool.and_eq_true, decide_eq_true_eq] at h
    rcases List.mem_append.mp hp with hp | hp
    · obtain ⟨b, hb, rfl⟩ := List.mem_map.mp hp
      exact .inl ⟨hb, rfl⟩
    · rw [List.mem_singleton.mp hp]
      exact .inr ⟨rfl, h⟩
  case isFalse =>
    obtain ⟨b, hb, rfl⟩ := List.mem_map.mp hp
    exact .inl ⟨hb, rfl⟩

theorem Dev.latchNow_of_mem (ha : a < 0x100000) {b : Nat} (hb : b ∈ latchSet a) : (b, d.live b) ∈ d.latchNow a := by
  have hm : (b, d.live b) ∈ (latchSet a).map (fun b => (b, d.live b)) := List.mem_map_of_mem hb
  unfold Dev.latchNow
  rw [inStore_eq_false ha, if_neg Bool.false_ne_true]
  dsimp only
  split
  · exact List.mem_append_left _ hm
  · exact hm

theorem Dev.latchNow_lt (ha : a < 0x100000) {p : Nat × Word} (hp : p ∈ d.latchNow a) : p.1 < 2 ^ 24 := by
  rcases d.mem_latchNow a ha hp with ⟨hb, -⟩ | ⟨hb, -⟩
  · have := le_of_mem_latchSet hb; omega
  · omega

/-- A word of the latched set is latched with its value now, and with no other. -/
theorem Dev.latchNow_value (ha : a < 0x100000) {b : Nat} (hb : b ∈ latchSet a) {p : Nat × Word}
    (hp : p ∈ d.latchNow a) (e : p.1 = b) : p.2 = d.live b := by
  rcases d.mem_latchNow a ha hp with ⟨-, hv⟩ | ⟨h, hr, h4⟩
  · rw [hv, e]
  · exact absurd (h ▸ e ▸ hb) (fbStat_not_mem_latchSet hr h4)

/-! ### Read-and-clear bits (R9, R389) -/

/-- A read takes what it returned off the RC field; bits that the device has set in this cycle stay. -/
theorem Dev.rcTake_w (v : Word) : (d.rcTake a v).w a = (d.w a &&& ~~~(rcMask a)) |||
    (word ((d.w a &&& rcMask a).toNat - (v &&& rcMask a).toNat) ||| (d.freshBits a &&& rcMask a)) := by
  unfold Dev.rcTake
  dsimp only
  split
  case isTrue h =>
    rw [h, word_and_not_zero]
    simp [word]
  case isFalse => exact d.w_put_self a _

theorem Dev.rcTake_w_ne (v : Word) {b : Nat} (h : b ≠ a) : (d.rcTake a v).w b = d.w b := by
  unfold Dev.rcTake
  dsimp only
  split
  · rfl
  · exact d.w_put_ne _ h

theorem Dev.rcTake_latched (v : Word) (k : Master) (b : Nat) : (d.rcTake a v).latched k b = d.latched k b := by
  unfold Dev.rcTake
  dsimp only
  split <;> rfl

theorem Dev.rcTake_motors (v : Word) : (d.rcTake a v).motors = d.motors := by
  unfold Dev.rcTake
  dsimp only
  split <;> rfl

end

/-! ### Reads over the fabric (R9, R16, R41) -/

section
variable (d : Dev) (k : Master) (a : Addr)

/-- A read that the access table stops returns 0 and changes nothing else (R16). -/
theorem Dev.fabRead_refused (h : d.readOk k a.toNat = false) : d.fabRead k a = d.putFab k 0 := by
  unfold Dev.fabRead
  dsimp only
  rw [h]
  rfl

/-- A read of a register word other than CHAL[0] takes off its RC field, latches its words, and returns them as they
stood. -/
theorem Dev.fabRead_ok (h : d.readOk k a.toNat = true) (ha : a.toNat < 0x100000) (hc : a.toNat ≠ 0xF004) :
    d.fabRead k a = ((d.rcTake a.toNat (d.peek k a.toNat)).latchAll k (d.latchNow a.toNat)).putFab k
      (d.peek k a.toNat) := by
  have he (l : List (Nat × Word)) (v : Word) : d.readEffect k a.toNat v l = (d.rcTake a.toNat v).latchAll k l :=
    if_neg hc
  unfold Dev.fabRead
  dsimp only
  rw [h, if_neg (by decide), if_neg (by omega), he]

theorem Dev.putFab_fab_self (v : Word) : (d.putFab k v).fab[k] = v := upd_self d.fab k _

theorem Dev.fabRead_w (h : d.readOk k a.toNat = true) (ha : a.toNat < 0x100000) (hc : a.toNat ≠ 0xF004) (b : Nat) :
    (d.fabRead k a).w b = (d.rcTake a.toNat (d.peek k a.toNat)).w b := by
  obtain ⟨st, e⟩ := (d.rcTake a.toNat (d.peek k a.toNat)).latchAll_eq k (d.latchNow a.toNat)
  rw [d.fabRead_ok k a h ha hc, e]
  rfl

theorem Dev.fabRead_motors (h : d.readOk k a.toNat = true) (ha : a.toNat < 0x100000) (hc : a.toNat ≠ 0xF004) :
    (d.fabRead k a).motors = d.motors := by
  obtain ⟨st, e⟩ := (d.rcTake a.toNat (d.peek k a.toNat)).latchAll_eq k (d.latchNow a.toNat)
  rw [d.fabRead_ok k a h ha hc, e]
  exact d.rcTake_motors _ _

theorem Dev.fabRead_fab (h : d.readOk k a.toNat = true) (ha : a.toNat < 0x100000) (hc : a.toNat ≠ 0xF004) :
    (d.fabRead k a).fab[k] = d.peek k a.toNat := by
  rw [d.fabRead_ok k a h ha hc]
  exact Dev.putFab_fab_self _ _ _

/-- The reading master has the words of the set latched with the values of the moment of the read (R41). -/
theorem Dev.fabRead_latched (h : d.readOk k a.toNat = true) (ha : a.toNat < 0x100000) (hc : a.toNat ≠ 0xF004)
    {b : Nat} (hb : b ∈ latchSet a.toNat) : (d.fabRead k a).latched k b = d.live b := by
  rw [d.fabRead_ok k a h ha hc]
  exact Dev.latched_latchAll _ k (fun p hp e => d.latchNow_value _ ha hb hp e)
    (.inr ⟨_, d.latchNow_of_mem _ ha hb, rfl⟩)

/-- What other masters have latched stays (R41). -/
theorem Dev.fabRead_latched_other (h : d.readOk k a.toNat = true) (ha : a.toNat < 0x100000) (hc : a.toNat ≠ 0xF004)
    {j : Master} {b : Nat} (hjk : j ≠ k) (hb : b < 2 ^ 24) : (d.fabRead k a).latched j b = d.latched j b := by
  rw [d.fabRead_ok k a h ha hc]
  exact (Dev.latched_latchAll_other _ k hjk (fun p hp => d.latchNow_lt _ ha hp) hb).trans (d.rcTake_latched _ _ _ _)

/-! ### What a read returns -/

/-- A word that no read latches and that has no RC field reads as its value now. -/
theorem Dev.peek_live {n : Nat} (hn : n < 0x100000) (hl : isLatched n = false) (hf : isFbStat n = false)
    (hm : rcMask n = 0) : d.peek k n = d.live n := by
  unfold Dev.peek
  rw [inStore_eq_false hn, hl, hf, hm]
  rfl

/-- A stored word reads with its RC bits as the cycle found them (R9). -/
theorem Dev.peek_rc {n : Nat} (hn : n < 0x100000) (hl : isLatched n = false) (hf : isFbStat n = false)
    (hs : d.live n = d.w n) (ha : d.absent n = false) :
    d.peek k n = (d.w n &&& ~~~(rcMask n)) ||| (d.w0 n &&& rcMask n) := by
  by_cases hm : rcMask n = 0
  · rw [d.peek_live k hn hl hf hm, hs, hm, word_and_not_zero]
    simp
  · unfold Dev.peek
    rw [inStore_eq_false hn, hl, hf, ha, hs, decide_eq_false hm]
    rfl

/-- A register that holds what it reads, with no bit absent or write-only, reads its stored word. -/
theorem Dev.live_stored {n : Nat} {r : RegRow} (hr : regRow n = some r) (hw : d.liveWord n = none)
    (ha : d.absent n = false) (hb : absentBits d n = 0) (hwo : r.mask .wo = 0) : d.live n = d.w n := by
  unfold Dev.live
  rw [hr, hw, hb]
  dsimp only
  rw [if_neg (Bool.eq_false_iff.mp ha), hwo, word_and_not_zero]
  exact word_and_not_zero _

theorem rcMask_of_regRow {n : Nat} {r : RegRow} (hr : regRow n = some r) : rcMask n = BitVec.ofNat 16 (r.mask .rc) := by
  unfold rcMask; rw [hr]

/-- CHAL[0] is no stored word: its reads draw a challenge (R469). -/
theorem Dev.liveWord_chal : d.liveWord 0xF004 = some d.nextChallengeLow := rfl

end

/-! ### What a clearing read leaves -/

/-- What the device has set in this cycle is set after a clearing read. -/
theorem fresh_kept (w m l f : Word) : f &&& m &&& ~~~((w &&& ~~~m) ||| (l ||| (f &&& m))) = 0 := by
  ext i hi
  grind

/-- The RC bits of what a clearing read returns are those that the cycle found. -/
theorem rc_returned (w w0 m : Word) : ((w &&& ~~~m) ||| (w0 &&& m)) &&& m = w0 &&& m := by
  ext i hi
  grind

/-- A word is its bits outside a mask and those under it. -/
theorem rc_joined (w m : Word) : (w &&& ~~~m) ||| (w &&& m) = w := by
  ext i hi
  grind

/-! ### The read commands -/

theorem exec_lowWordLatchRead (k : Master) (a : Addr) (s : State) :
    exec (.lowWordLatchRead k a) s = .next { s with dev := s.dev.fabRead k a } := rfl

theorem exec_readClear (k : Master) (a : Addr) (s : State) :
    exec (.readClear k a) s = .next { s with dev := s.dev.fabRead k a } := rfl

/-- Settles O58: a read returns and latches the words as they stood, then takes off the RC field what it returned. -/
theorem registerReads : Obligations.RegisterReads := by
  intro s k a
  rw [exec_lowWordLatchRead, exec_readClear]
  refine ⟨fun h => ?_, fun h ha hc _ hl => ?_, fun r h ha hr _ hl hf hw hp hb hwo => ?_⟩
  · rw [s.dev.fabRead_refused k a h]
    exact ⟨rfl, rfl⟩
  · exact ⟨_, rfl, fun hf hm => (s.dev.fabRead_fab k a h ha hc).trans (s.dev.peek_live k ha hl hf hm),
      fun b hb => s.dev.fabRead_latched k a h ha hc hb,
      fun j b hjk hb => s.dev.fabRead_latched_other k a h ha hc hjk hb, s.dev.fabRead_motors k a h ha hc⟩
  · have hc : a.toNat ≠ 0xF004 := fun e => by
      rw [e, Dev.liveWord_chal] at hw
      exact Option.some_ne_none _ hw
    intro m
    have hm : rcMask a.toNat = m := rcMask_of_regRow hr
    have hv := s.dev.peek_rc k ha hl hf (s.dev.live_stored hr hw hp hb hwo) hp
    rw [hm] at hv
    have hx := s.dev.fabRead_w k a h ha hc a.toNat
    rw [s.dev.rcTake_w, hm, hv, rc_returned] at hx
    refine ⟨_, rfl, (s.dev.fabRead_fab k a h ha hc).trans hv, ?_, fun he h0 => ⟨?_, ?_⟩, fun b hb => ?_,
      s.dev.fabRead_motors k a h ha hc⟩
    · rw [hx]
      exact fresh_kept _ _ _ _
    · rw [s.dev.fabRead_fab k a h ha hc, hv, ← he, rc_joined]
    · rw [hx, he, h0, Nat.sub_self]
      simp [word]
    · rw [s.dev.fabRead_w k a h ha hc]
      exact s.dev.rcTake_w_ne _ _ (List.ne_of_not_mem_cons hb)

/-! ### Coupling edges at a trace tick (R354, R356) -/

/-- A trace tick leaves a coupling edge that waits as the receiver's turn has left it. -/
theorem Dev.cplEdge_traceTick (d : Dev) : d.traceTick.cplEdge = d.cplEdge :=
  congrArg SysView.cplEdge d.sys_traceTick

/-- A trace tick that is due does the turn of the coupling receiver before its samples (R354). -/
theorem exec_traceTick (s : State) (hr : s.dev.runs = true) (ht : s.dev.tickNow = true) :
    exec .traceTick s = .next { s with dev := s.dev.cplTurn.traceTick } :=
  (s.onCore_runs _ hr).trans (by rw [ht]; rfl)

/-- With no edge pending, the receiver's turn before READY holds a level that qualifies as a pending edge (R356). -/
theorem Dev.cplEdge_cplTurn_unready (d : Dev) (he : d.cplEdge = none) (hh : d.cplHeld (d.bit 0x51 1) = true)
    (hr : d.ready = false) : d.cplTurn.cplEdge = some (d.bit 0x51 1) := by
  have hp : d.applyPending = d := by unfold Dev.applyPending; rw [he]
  unfold Dev.cplTurn Dev.cplQualified
  rw [hp, hh, he, hr]
  rfl

theorem Dev.SameSystem.cplEdge_eq {d d' : Dev} (h : d.SameSystem d') : d'.cplEdge = d.cplEdge := by
  obtain ⟨-, -, -, -, -, -, -, -, -, -, -, -, -, -, -, hedge, -⟩ := h
  exact hedge

/-- Where the level of CPL_DET qualifies before READY in the cycle of a trace tick, the tick leaves an edge pending, so it
does not leave the coupling edge that waits as it stood. -/
theorem traceTick_not_sameSystem (s : State) (hr : s.dev.runs = true) (ht : s.dev.tickNow = true)
    (he : s.dev.cplEdge = none) (hh : s.dev.cplHeld (s.dev.bit 0x51 1) = true) (hn : s.dev.ready = false) :
    ¬ ∃ d, exec .traceTick s = .next { s with dev := d } ∧ s.dev.SameSystem d := by
  rintro ⟨d, hx, hsame⟩
  rw [exec_traceTick s hr ht] at hx
  obtain rfl : s.dev.cplTurn.traceTick = d := congrArg State.dev (Host.Outcome.next.inj hx)
  have hedge := hsame.cplEdge_eq
  rw [Dev.cplEdge_traceTick, s.dev.cplEdge_cplTurn_unready he hh hn, he] at hedge
  exact Option.some_ne_none _ hedge

/-- A module before READY at a trace tick, 210 ms after the first lock: CPL_DET rose 200 ms ago, so that it qualifies in
this cycle. -/
def State.couplingAtTick : State :=
  { dev := ({ resetN := true, locked := true, everLock := true, cycles := 42000000, tickAt := 40000000,
              cplAt := 2000000 } : Dev).putB 0x51 1 true }

/-- Refutes O60: a trace tick first does the turn of the coupling receiver (R354), so that an edge of CPL_DET that
qualifies in the cycle of the tick waits from then on. -/
theorem not_systemUntouched : ¬ Obligations.SystemUntouched := by
  intro h
  exact traceTick_not_sameSystem State.couplingAtTick (by decide +kernel) (by decide +kernel) (by decide +kernel)
    (by decide +kernel) (by decide +kernel) (h State.couplingAtTick .traceTick rfl)

end Sys2Proof.Machine
end

section
/-! Proofs of the statements of chapter 01: the access check, the step, the loss of PLL_CORE lock, and the timebases. -/

namespace Sys2Proof.Machine

open Sys2Proof

/-! ### Accesses that the table refuses (R16) -/

theorem Dev.writeOk_of_mayAccess {d : Dev} {k : Master} {a : Nat} (h : d.mayAccess k true a = false) :
    d.writeOk k a = false := by
  unfold Dev.writeOk
  simp [h]

theorem Dev.readOk_of_mayAccess {d : Dev} {k : Master} {a : Nat} (h : d.mayAccess k false a = false) :
    d.readOk k a = false := by
  unfold Dev.readOk
  simp [h]

theorem Dev.fabWrite_refused {d : Dev} {k : Master} {a : Nat} (v : Word) (h : d.writeOk k a = false) :
    d.fabWrite k a v = d := by
  unfold Dev.fabWrite
  simp [h]

/-- A store word that the master may not read is a plain refused read: its memory delivers nothing. -/
theorem Dev.storeRead_refused {d : Dev} {k : Master} {a : Addr} (errs : List (BitVec 28))
    (h : d.readOk k a.toNat = false) : d.storeRead k a errs = d.putFab k 0 := by
  unfold Dev.storeRead Dev.storeWords
  simp [h, Dev.fabRead_refused]

/-- A command that is one write makes it with some value; the abort of a test first records what the test has found. -/
theorem exec_of_writesAt (c : Instr) (s : State) {k : Master} {a : Nat} (h : writesAt c = some (k, a)) :
    (∃ v, exec c s = s.write k a v) ∨ ∃ v fails, a = 0xF400 ∧ c = .bistAbort k v fails := by
  cases c
  case keyProgram k' which v => cases which <;> cases h <;> exact .inl ⟨v, rfl⟩
  case bistAbort k' v fails => cases h; exact .inr ⟨v, fails, rfl, rfl⟩
  case w1cWrite k' b v err =>
    obtain ⟨rfl, h⟩ := Option.ite_none_right_eq_some.mp h
    cases h; exact .inl ⟨v, rfl⟩
  case registerWrite k' b v err =>
    obtain ⟨rfl, h⟩ := Option.ite_none_right_eq_some.mp h
    cases h; exact .inl ⟨v, rfl⟩
  all_goals cases h
  all_goals exact .inl ⟨_, rfl⟩

theorem exec_bistAbort_refused (s : State) (k : Master) (v : Word) (fails : List BistFail)
    (h : s.dev.writeOk k 0xF400 = false) : exec (.bistAbort k v fails) s = .next s := by
  show s.onDev (fun d => (d.when (d.writeOk k 0xF400) (fun d => d.bistFound fails)).fabWrite k 0xF400
    (withBits v 15 14 1)) = .next s
  unfold State.onDev Dev.when
  simp [h, Dev.fabWrite_refused]

/-- A command that is one read: of a word of the trace store, or of any word with its bits as they stood. -/
theorem exec_of_readsAt (c : Instr) (s : State) {k : Master} {a : Nat} (h : readsAt c = some (k, a)) :
    ∃ b : Addr, a = b.toNat ∧ (exec c s = s.onDev (fun d => d.fabRead k b) ∨
      ∃ errs, exec c s = s.onDev (fun d => d.storeRead k b errs)) := by
  cases c
  case lowWordLatchRead k' b err =>
    obtain ⟨rfl, h⟩ := Option.ite_none_right_eq_some.mp h
    cases h; exact ⟨b, rfl, .inl rfl⟩
  case readClear k' b err =>
    obtain ⟨rfl, h⟩ := Option.ite_none_right_eq_some.mp h
    cases h; exact ⟨b, rfl, .inl rfl⟩
  case windowRead k' b err =>
    obtain ⟨rfl, h⟩ := Option.ite_none_right_eq_some.mp h
    cases h; exact ⟨0x800000 ||| b, rfl, .inl rfl⟩
  case traceStoreRead k' b errs => cases h; exact ⟨b, rfl, .inr ⟨errs, rfl⟩⟩
  case challengeDraw k' => cases h; exact ⟨0xF004, rfl, .inl rfl⟩
  all_goals cases h

theorem exec_write_refused (c : Instr) (s : State) {k : Master} {a : Nat} (hc : writesAt c = some (k, a))
    (h : s.dev.writeOk k a = false) : exec c s = .next s := by
  obtain ⟨v, hx⟩ | ⟨v, fails, rfl, rfl⟩ := exec_of_writesAt c s hc
  · exact hx.trans (s.write_refused k a v h)
  · exact exec_bistAbort_refused s k v fails h

theorem exec_read_refused (c : Instr) (s : State) {k : Master} {a : Nat} (hc : readsAt c = some (k, a))
    (h : s.dev.readOk k a = false) : exec c s = .next { s with dev := s.dev.putFab k 0 } := by
  obtain ⟨b, rfl, hx | ⟨errs, hx⟩⟩ := exec_of_readsAt c s hc
  · rw [hx, State.onDev, s.dev.fabRead_refused k b h]
  · rw [hx, State.onDev, Dev.storeRead_refused errs h]

/-- Settles O5: what the table refuses is not acted on, and every command that is one access goes through that check. -/
theorem accessTables : Obligations.AccessTables :=
  ⟨fun d k a v => ⟨fun h => Dev.fabWrite_refused v (Dev.writeOk_of_mayAccess h),
      fun h => d.fabRead_refused k a (Dev.readOk_of_mayAccess h)⟩,
    fun c s _ _ => ⟨fun hc h => exec_write_refused c s hc (Dev.writeOk_of_mayAccess h),
      fun hc h => exec_read_refused c s hc (Dev.readOk_of_mayAccess h)⟩⟩

/-! ### A step with no command waiting (R34, R35) -/

theorem step_stopped {s : State} (hp : s.pending = []) (hr : s.dev.runs = false) : step s = .next s := by
  unfold step State.tick
  simp [hp, hr]

theorem step_idle {s : State} (hp : s.pending = []) (hr : s.dev.runs = true) :
    step s = .next { s with dev := s.dev.idleCycle } := by
  unfold step State.tick
  simp [hp, hr]

/-! ### A write of RUN that a host port holds (R33, R392) -/

/-- Group 0 stands still with RUN at 0 and a start that waits, which this cycle drops; host 0 holds a write of its RUN,
which commits in the same cycle. The load has completed with the tables unlocked. -/
def State.startHeld : State :=
  { dev := ((({ resetN := true, locked := true, everLock := true, loader := { step := 5 } } : Dev).put 0x40 4).onGrp 0
      (fun x => { x with starting := true })).onHp 0 (fun x => { x with held := [⟨0x11, 1, 0⟩] }) }

/-- Refutes O59: the write of RUN that host 0 holds commits in the cycle in which the dropped start ends, and leaves a new
start waiting. -/
theorem not_timebaseRuns : ¬ Obligations.TimebaseRuns := by
  intro h
  have hruns : State.startHeld.dev.runs = true := by decide +kernel
  obtain ⟨-, hidle, -⟩ := h State.startHeld 0 0
  obtain ⟨-, hdrop⟩ := hidle 0 (by decide +kernel) hruns rfl (by decide +kernel) (by decide +kernel)
  obtain ⟨d, hstep, -, hstart⟩ := hdrop (by decide +kernel)
  rw [step_idle rfl hruns] at hstep
  obtain rfl : State.startHeld.dev.idleCycle = d := congrArg State.dev (Host.Outcome.next.inj hstep)
  have hwaits : (State.startHeld.dev.idleCycle.grp 0).starting = true := by decide +kernel
  rw [hstart] at hwaits
  exact Bool.noConfusion hwaits

end Sys2Proof.Machine
end

section
/-! The return of PLL_CORE lock under a host transaction that has waited for it (R386, R396, R416). -/

namespace Sys2Proof.Machine

open Sys2Proof

/-- ck_core stands still within 64 ticks of a device fault, and a WRITE of host 0 waits for it, into whose data phase a
second loss of lock will fall, before its first word. -/
def State.lossInWaitingWrite : State :=
  { dev := ({ resetN := true, everLock := true, faultAt := some 0, loader := { step := 5 } } : Dev).onHp 0 (fun x =>
      { x with parked := some ⟨0x40, false, { ws := [1], fault := some (0, [.pll]) }⟩ }) }

theorem exec_pllCoreLockReturn_dev {s : State} {cut : Vector Bool 4} {d : Dev}
    (h : exec (.pllCoreLockReturn cut) s = .next { s with dev := d }) : d = (s.dev.coreBack cut).hostsResume :=
  (congrArg State.dev (Host.Outcome.next.inj h)).symm

/-- Refutes O22: the return of lock falls within 64 ticks of an earlier device fault, so it does not cut the WRITE that waits
on host 0; the WRITE goes on, lock is lost again in its data phase, and ck_core stands still when the command has ended. -/
theorem not_coreClockLossAndReturn : ¬ Obligations.CoreClockLossAndReturn := by
  intro h
  obtain ⟨-, hreturn⟩ := h State.lossInWaitingWrite
  obtain ⟨d, hexec, hruns, -⟩ := hreturn (by decide +kernel) (by decide +kernel) (by decide +kernel) (by decide +kernel) noCut
  rw [exec_pllCoreLockReturn_dev hexec] at hruns
  have hstands : (State.lossInWaitingWrite.dev.coreBack noCut).hostsResume.runs = false := by decide +kernel
  rw [hstands] at hruns
  exact Bool.noConfusion hruns

end Sys2Proof.Machine
end

section
/-! What the work of a frame, and the writes of the fabric, leave as it stands. -/

namespace Sys2Proof.Machine

open Sys2Proof

/-- What an argument watches of the module, beside the clock and the host ports: the words of the group timebases and of
the arbiters with the books in force, and the engine of one motor. -/
structure Watch where
  books : Bool
  motor : Option MotorIx

/-- The clock and the host ports alone. -/
def Watch.clock : Watch := ⟨false, none⟩

@[simp] theorem Watch.clock_books : Watch.clock.books = false := rfl
@[simp] theorem Watch.clock_motor : Watch.clock.motor = none := rfl

/-- A word of the group timebases (R19, R28) or of the arbiters (R148). -/
def isBooks (a : Nat) : Bool := decide (0x10 ≤ a ∧ a < 0x30) || decide (0x6000 ≤ a ∧ a < 0x6400)

/-- Such a word, or the causes of a converter array (R248), whose bit 0 shows a missed count. -/
def isFrameWord (a : Nat) : Bool :=
  isBooks a || decide (a = 0x8002 ∨ a = 0x8802 ∨ a = 0x9002 ∨ a = 0x9802)

/-- The values in force that a grant's comparator code is computed from: those of the engines and of the arbiters (R143). -/
def isFrameForce (a : Nat) : Bool := decide (0x2000 ≤ a ∧ a < 0x6400)

/-- What a frame start applies of a motor, or clears, and its state (R19, R24, R28). -/
def Motor.core (x : Motor) : MState × Option (Nat × Bool) × Option (Nat × Bool) × Bool × Nat × Bool :=
  (x.state, x.out, x.ready, x.loopRun, x.duty, x.demRev)

/-- The parts of the module that are watched. -/
structure Watched where
  cycles : Nat
  ports : Vector HostPort 4
  words : Nat → Word
  force : Nat → Word
  missed : GroupIx → Bool
  counts : GroupIx → Vector Acc 64
  books : GroupIx → Option Books × Books
  grants : MotorIx → Nat
  motor : Option (MState × Option (Nat × Bool) × Option (Nat × Bool) × Bool × Nat × Bool)

/-- The watched parts as they stand. -/
def Dev.watched (w : Watch) (d : Dev) : Watched where
  cycles := d.cycles
  ports := d.ports
  words := fun a => if w.books && isBooks a then d.w a else 0
  force := fun a => if w.books && isFrameForce a then d.iw a else 0
  missed := fun g => w.books && d.bit (aPrm g 2) 0
  counts := fun g => if w.books then (d.prm g).acc else Vector.replicate 64 {}
  books := fun g => if w.books then ((d.grp g).pend, (d.grp g).books) else (none, {})
  grants := fun m => if w.books then (d.mot m).grant else 0
  motor := w.motor.map (fun n => (d.mot n).core)

variable {w : Watch} (d : Dev)

/-! ### The updates of Machine/Ops.lean -/

theorem not_isFrameWord {a : Nat} (h : isFrameWord a = false) : isBooks a = false ∧ ∀ g : GroupIx, aPrm g 2 ≠ a := by
  obtain ⟨h1, h2⟩ := (Bool.or_eq_false_iff).mp h
  refine ⟨h1, fun g e => of_decide_eq_false h2 ?_⟩
  unfold aPrm at e
  omega

@[simp] theorem Dev.watched_put (a : Nat) (v : Word) (h : w.books = true → isFrameWord a = false) :
    (d.put a v).watched w = d.watched w := by
  unfold Dev.watched
  cases hw : w.books
  · rfl
  · obtain ⟨hb, hp⟩ := not_isFrameWord (h hw)
    congr 1
    · funext b
      by_cases e : b = a
      · subst e; simp [hb]
      · rw [Dev.w_put_ne d v e]
    · funext g
      unfold Dev.bit
      rw [Dev.w_put_ne d v (hp g)]

@[simp] theorem Dev.watched_putF (a hi lo v : Nat) (h : w.books = true → isFrameWord a = false) :
    (d.putF a hi lo v).watched w = d.watched w := d.watched_put a _ h

@[simp] theorem Dev.watched_putB (a i : Nat) (b : Bool) (h : w.books = true → isFrameWord a = false) :
    (d.putB a i b).watched w = d.watched w := d.watched_put a _ h

@[simp] theorem Dev.watched_clrW (a : Nat) (m : Word) (h : w.books = true → isFrameWord a = false) :
    (d.clrW a m).watched w = d.watched w := d.watched_put a _ h

@[simp] theorem Dev.watched_orW (a : Nat) (m : Word) (h : w.books = true → isFrameWord a = false) :
    (d.orW a m).watched w = d.watched w := d.watched_put a _ h

@[simp] theorem Dev.watched_setB (a i : Nat) (h : w.books = true → isFrameWord a = false) :
    (d.setB a i).watched w = d.watched w := d.watched_put a _ h

@[simp] theorem Dev.watched_addSat (a hi lo n : Nat) (h : w.books = true → isFrameWord a = false) :
    (d.addSat a hi lo n).watched w = d.watched w := d.watched_put a _ h

@[simp] theorem Dev.watched_inc (a : Nat) (h : w.books = true → isFrameWord a = false) :
    (d.inc a).watched w = d.watched w := d.watched_put a _ h

@[simp] theorem Dev.watched_put32 (a : Nat) (v : BitVec 32) (h : w.books = true → isFrameWord a = false)
    (h' : w.books = true → isFrameWord (a + 1) = false) : (d.put32 a v).watched w = d.watched w := by
  unfold Dev.put32
  rw [Dev.watched_put _ _ _ h', Dev.watched_put _ _ _ h]

@[simp] theorem Dev.watched_stampTime (a : Nat) (h : w.books = true → isFrameWord a = false)
    (h' : w.books = true → isFrameWord (a + 1) = false) : (d.stampTime a).watched w = d.watched w :=
  d.watched_put32 a _ h h'

@[simp] theorem Dev.watched_enforce (lo hi : Nat) (h : w.books = true → hi ≤ 0x2000 ∨ 0x6400 ≤ lo) :
    (d.enforce lo hi).watched w = d.watched w := by
  unfold Dev.watched
  cases hw : w.books
  · rfl
  · congr 1
    funext a
    cases ha : isFrameForce a
    · rfl
    · have ha := of_decide_eq_true ha
      have hout : ¬ (lo ≤ a ∧ a < hi) := by have := h hw; omega
      show Store.get resetWord (d.inForce.copy d.words lo hi) a = d.iw a
      rw [Store.get_copy, if_neg hout, if_pos (by omega)]
      rfl

@[simp] theorem Dev.watched_onMot (m : MotorIx) (f : Motor → Motor) (h : w.motor = some m → ∀ x, (f x).core = x.core)
    (hg : w.books = true → ∀ x, (f x).grant = x.grant) : (d.onMot m f).watched w = d.watched w := by
  unfold Dev.watched
  congr 1
  · funext n
    split
    · rename_i hw
      by_cases e : n = m
      · subst e; rw [Dev.onMot_mot, hg hw]
      · rw [Dev.onMot_mot_ne d f e]
    · rfl
  · cases hm : w.motor with
    | none => rfl
    | some n =>
      by_cases e : n = m
      · subst e; simp [h hm]
      · simp [Dev.onMot_mot_ne d f e]

theorem Dev.watched_enforce_aGd (b : BridgeIx) (i j : Nat) : (d.enforce (aGd b i) (aGd b j)).watched w = d.watched w :=
  d.watched_enforce _ _ (fun _ => .inr (by unfold aGd; omega))

@[simp] theorem Dev.watched_enforce_aFb (f : ChanIx) (i j : Nat) : (d.enforce (aFb f i) (aFb f j)).watched w = d.watched w :=
  d.watched_enforce _ _ (fun _ => .inr (by unfold aFb; omega))

/-- What a watch can see of a motor. -/
def Motor.seen (x : Motor) := (x.core, x.grant)

theorem Dev.watched_onMot_of_seen (m : MotorIx) (f : Motor → Motor) (h : ∀ x, (f x).seen = x.seen := by intro x; rfl) :
    (d.onMot m f).watched w = d.watched w :=
  d.watched_onMot m f (fun _ x => congrArg Prod.fst (h x)) (fun _ x => congrArg Prod.snd (h x))

theorem Motor.seen_ite {c : Prop} [Decidable c] {x y z : Motor} (hx : x.seen = z.seen) (hy : y.seen = z.seen) :
    (if c then x else y).seen = z.seen := by split <;> assumption

@[simp] theorem Dev.watched_onGrp (g : GroupIx) (f : Group → Group)
    (h : w.books = true → ∀ x, ((f x).pend, (f x).books) = (x.pend, x.books)) : (d.onGrp g f).watched w = d.watched w := by
  unfold Dev.watched
  congr 1
  funext k
  split
  · rename_i hw
    by_cases e : k = g
    · subst e; rw [Dev.onGrp_grp, h hw]
    · rw [Dev.onGrp_grp_ne d f e]
  · rfl

@[simp] theorem Dev.watched_onPrm (p : GroupIx) (f : Prism → Prism) (h : w.books = true → ∀ x, (f x).acc = x.acc) :
    (d.onPrm p f).watched w = d.watched w := by
  unfold Dev.watched
  congr 1
  funext k
  split
  · rename_i hw
    by_cases e : k = p
    · subst e; rw [Dev.onPrm_prm, h hw]
    · rw [Dev.onPrm_prm_ne d f e]
  · rfl

@[simp] theorem Dev.watched_onBrg (b : BridgeIx) (f : Bridge → Bridge) : (d.onBrg b f).watched w = d.watched w := rfl
@[simp] theorem Dev.watched_onDie (g : GroupIx) (f : Die → Die) : (d.onDie g f).watched w = d.watched w := rfl
@[simp] theorem Dev.watched_onFb (c : ChanIx) (f : Fb → Fb) : (d.onFb c f).watched w = d.watched w := rfl
@[simp] theorem Dev.watched_onTrc (t : TraceIx) (f : Trace → Trace) : (d.onTrc t f).watched w = d.watched w := rfl
@[simp] theorem Dev.watched_onSen (s : SensorIx) (f : ThermSen → ThermSen) : (d.onSen s f).watched w = d.watched w := rfl
@[simp] theorem Dev.watched_onMem (f : MemPort → MemPort) : (d.onMem f).watched w = d.watched w := rfl
@[simp] theorem Dev.watched_nextFree : d.nextFree.watched w = d.watched w := rfl
@[simp] theorem Dev.watched_putFab (k : Master) (v : Word) : (d.putFab k v).watched w = d.watched w := rfl
@[simp] theorem Dev.watched_newCycle : d.newCycle.watched w = d.watched w := rfl

/-! ### Branches and repetitions -/

@[simp] theorem Dev.watched_ite (c : Prop) [Decidable c] (x y : Dev) :
    (if c then x else y).watched w = if c then x.watched w else y.watched w := apply_ite _ _ _ _

theorem Dev.watched_ite_of {c : Prop} [Decidable c] {x y : Dev} (hx : x.watched w = d.watched w) (hy : y.watched w = d.watched w) :
    (if c then x else y).watched w = d.watched w := by split <;> assumption

@[simp] theorem Dev.watched_when (c : Bool) (f : Dev → Dev) (h : ∀ e : Dev, (f e).watched w = e.watched w) :
    (d.when c f).watched w = d.watched w := by
  unfold Dev.when
  simp [h]

@[simp] theorem Dev.watched_each {α : Type} (l : List α) (f : Dev → α → Dev)
    (h : ∀ (e : Dev) (a : α), (f e a).watched w = e.watched w) : (d.each l f).watched w = d.watched w := by
  unfold Dev.each
  induction l generalizing d with
  | nil => rfl
  | cons a t ih => exact (ih (f d a)).trans (h d a)

/-! ### Events (R444) -/

@[simp] theorem Dev.watched_raiseNow (i : Nat) : (d.raiseNow i).watched w = d.watched w := by
  unfold Dev.raiseNow
  split
  · split <;> rfl
  · rfl

@[simp] theorem Dev.watched_raise (i : Nat) : (d.raise i).watched w = d.watched w := by
  unfold Dev.raise
  split
  · rfl
  · exact d.watched_raiseNow i

@[simp] theorem Dev.watched_cause (a : Nat) (m : Word) (i : Nat) (h : w.books = true → isFrameWord a = false) :
    (d.cause a m i).watched w = d.watched w := by
  unfold Dev.cause
  rw [Dev.watched_raise, Dev.watched_orW d a m h]

/-- The sequencer's cause (R248) leaves the one that shows a missed count. -/
@[simp] theorem Dev.watched_seqLost (p : GroupIx) : (d.cause (aPrm p 2) 2 (20 + p.1)).watched w = d.watched w := by
  unfold Dev.cause
  rw [Dev.watched_raise]
  unfold Dev.watched
  congr 1
  · funext a
    split
    · rename_i h
      rw [Dev.w_orW, if_neg]
      rintro rfl
      simp [isBooks, aPrm] at h
      omega
    · rfl
  · funext g
    by_cases e : g = p
    · subst e
      simp [Dev.bit, Dev.w_orW, bitOf]
    · unfold Dev.bit
      rw [Dev.w_orW, if_neg (fun h => e (Fin.ext (by unfold aPrm at h; omega)))]

/-! ### Words outside the watched ones -/

theorem isFrameWord_eq_false {a : Nat} (h : a < 0x10 ∨ (0x30 ≤ a ∧ a < 0x6000) ∨ 0x6400 ≤ a)
    (h' : a ≠ 0x8002 ∧ a ≠ 0x8802 ∧ a ≠ 0x9002 ∧ a ≠ 0x9802) : isFrameWord a = false := by
  unfold isFrameWord isBooks
  rw [decide_eq_false (by omega), decide_eq_false (by omega), decide_eq_false (by omega)]
  rfl

@[simp] theorem isFrameWord_aMot (m : MotorIx) {o : Nat} (h : o < 0x400) : isFrameWord (aMot m o) = false :=
  isFrameWord_eq_false (by unfold aMot; omega) (by unfold aMot; omega)

@[simp] theorem isFrameWord_mcause (m : MotorIx) : isFrameWord (0xF00 + m.1) = false :=
  isFrameWord_eq_false (by omega) (by omega)

@[simp] theorem isFrameWord_aSup (g : GroupIx) (o : Nat) (h : o < 0x40) : isFrameWord (aSup g o) = false :=
  isFrameWord_eq_false (by unfold aSup; omega) (by unfold aSup; omega)

@[simp] theorem isFrameWord_aFb (f : ChanIx) (o : Nat) : isFrameWord (aFb f o) = false :=
  isFrameWord_eq_false (by unfold aFb; omega) (by unfold aFb; omega)

@[simp] theorem isFrameWord_aFb_succ (f : ChanIx) (o : Nat) : isFrameWord (aFb f o + 1) = false :=
  isFrameWord_aFb f (o + 1)

@[simp] theorem isFrameWord_aMot_succ (m : MotorIx) {o : Nat} (h : o + 1 < 0x400) : isFrameWord (aMot m o + 1) = false :=
  isFrameWord_aMot m h

@[simp] theorem isFrameWord_aPrm (p : GroupIx) {o : Nat} (h : o < 0x800) (h2 : o ≠ 2) : isFrameWord (aPrm p o) = false :=
  isFrameWord_eq_false (by unfold aPrm; omega) (by unfold aPrm; omega)

@[simp] theorem isFrameWord_aCur (m : MotorIx) {o : Nat} (h : o < 8) : isFrameWord (aCur m o) = false :=
  isFrameWord_eq_false (by unfold aCur; omega) (by unfold aCur; omega)

@[simp] theorem isFrameWord_aBus (g : GroupIx) {o : Nat} (h : o < 4) : isFrameWord (aBus g o) = false :=
  isFrameWord_eq_false (by unfold aBus; omega) (by unfold aBus; omega)

end Sys2Proof.Machine
end

section
/-! What each operation of a frame leaves, one equation each, in the order in which the operations use one another. -/

namespace Sys2Proof.Machine

open Sys2Proof

variable {w : Watch} (d : Dev)

@[simp] theorem Dev.watched_putSpdv (f : ChanIx) (b : Bool) : (d.putSpdv f b).watched w = d.watched w := by
  simp [Dev.putSpdv]

@[simp] theorem Dev.watched_putSpd (f : ChanIx) (v : Int) : (d.putSpd f v).watched w = d.watched w := by
  simp [Dev.putSpd]

@[simp] theorem Dev.watched_dropSpeed (f : ChanIx) : (d.dropSpeed f).watched w = d.watched w := by
  simp [Dev.dropSpeed]

@[simp] theorem Dev.watched_modeActs (f : ChanIx) : (d.modeActs f).watched w = d.watched w := by
  simp [Dev.modeActs]

@[simp] theorem Dev.watched_dueFb : d.dueFb.watched w = d.watched w := d.watched_each d.fbDue Dev.modeActs (fun e f => e.watched_modeActs f)

@[simp] theorem Dev.watched_settleOut (m : MotorIx) : (d.settleOut m).watched w = d.watched w := by
  unfold Dev.settleOut
  rw [Dev.watched_each _ _ _ (fun e ph => e.watched_putB _ _ _ (fun _ => isFrameWord_aCur m (by decide))),
    Dev.watched_putB _ _ _ _ (fun _ => isFrameWord_aCur m (by decide))]

@[simp] theorem Dev.watched_enforceGlint (m : MotorIx) (h : w.books = false) : (d.enforceGlint m).watched w = d.watched w := by
  simp [Dev.enforceGlint, h]

@[simp] theorem Dev.watched_chopFault (g : GroupIx) (bit : Nat) : (d.chopFault g bit).watched w = d.watched w := by
  simp [Dev.chopFault]

@[simp] theorem Dev.watched_syncComp (m : MotorIx) : (d.syncComp m).watched w = d.watched w := by
  refine d.watched_onMot_of_seen m _ (fun x => ?_)
  exact Motor.seen_ite rfl (Motor.seen_ite rfl rfl)

@[simp] theorem Dev.watched_turnOn (b : BridgeIx) : (d.turnOn b).watched w = d.watched w := by
  unfold Dev.turnOn
  dsimp only
  split
  · exact d.watched_enforce_aGd b 0 2
  · rfl

@[simp] theorem Dev.watched_syncBsuv (m : MotorIx) : (d.syncBsuv m).watched w = d.watched w := d.watched_onMot_of_seen m _

@[simp] theorem Dev.watched_turnOff (b : BridgeIx) : (d.turnOff b).watched w = d.watched w := by
  unfold Dev.turnOff
  dsimp only
  split
  · rfl
  · split
    · exact (Dev.watched_syncBsuv _ _).trans (d.watched_enforce_aGd b 0 1)
    · exact d.watched_enforce_aGd b 0 1

@[simp] theorem Dev.watched_command (b : BridgeIx) (en : Bool) (pulse : Bool) : (d.command b en pulse).watched w = d.watched w := by
  simp [Dev.command]

@[simp] theorem Dev.watched_driveLeg (m : MotorIx) (ph : Fin 3) : (d.driveLeg m ph).watched w = d.watched w := by
  unfold Dev.driveLeg
  refine (Dev.watched_onMot_of_seen _ m _ (fun x => ?_)).trans (Dev.watched_command d _ _ _)
  unfold Motor.trackLow
  split <;> rfl

@[simp] theorem Dev.watched_drive (m : MotorIx) : (d.drive m).watched w = d.watched w := by
  simp [Dev.drive]

@[simp] theorem Dev.watched_driveGroup (g : GroupIx) : (d.driveGroup g).watched w = d.watched w := by
  simp [Dev.driveGroup]

@[simp] theorem Dev.watched_setBrk (g : GroupIx) : (d.setBrk g).watched w = d.watched w := by
  simp [Dev.setBrk]

@[simp] theorem Dev.watched_setLevel (g : GroupIx) (new : Nat) : (d.setLevel g new).watched w = d.watched w := by
  simp [Dev.setLevel]

@[simp] theorem Dev.watched_busTrip (g : GroupIx) : (d.busTrip g).watched w = d.watched w := by
  simp [Dev.busTrip]

@[simp] theorem Dev.watched_busSet (g : GroupIx) : (d.busSet g).watched w = d.watched w := by
  simp [Dev.busSet]

@[simp] theorem Dev.watched_dueGlint (h : w.books = false) : d.dueGlint.watched w = d.watched w := (Dev.watched_each _ _ _ (fun e g => e.watched_busSet g)).trans
    (d.watched_each d.glDue Dev.enforceGlint (fun e m => e.watched_enforceGlint m h))

@[simp] theorem Dev.watched_startCarriers (g : GroupIx) (per : Nat) : (d.startCarriers g per).watched w = d.watched w := d.watched_each _ _ (fun e m => e.watched_onMot_of_seen m _)

@[simp] theorem Dev.watched_resetRR (g : GroupIx) (h : w.books = false) : (d.resetRR g).watched w = d.watched w := by
  simp [Dev.resetRR, h]

@[simp] theorem Dev.watched_onAcc (p : GroupIx) (a : Fin 64) (f : Acc → Acc) (h : w.books = false) : (d.onAcc p a f).watched w = d.watched w := by
  simp [Dev.onAcc, h]

@[simp] theorem Dev.watched_judgeAcc (p : GroupIx) (a : Fin 64) (h : w.books = false) : (d.judgeAcc p a).watched w = d.watched w := by
  unfold Dev.judgeAcc
  dsimp only
  split
  · rw [Dev.watched_each _ _ _ (fun e m => e.watched_when _ _ (fun e => e.watched_setB _ _ (by simp [h])))]
    simp [h]
  · rfl

@[simp] theorem Dev.watched_newCount (p : GroupIx) (a : Fin 64) (h : w.books = false) : (d.newCount p a).watched w = d.watched w := by
  simp [Dev.newCount, h]

@[simp] theorem Dev.watched_accFrame (p : GroupIx) (ended : Bool) (h : w.books = false) : (d.accFrame p ended).watched w = d.watched w := by
  unfold Dev.accFrame
  split
  · rfl
  · refine d.watched_each _ _ (fun e a => ?_)
    have hj : (e.when ended (fun e => e.judgeAcc p a)).watched w = e.watched w :=
      e.watched_when _ _ (fun e => e.watched_judgeAcc p a h)
    dsimp only
    split
    · exact (Dev.watched_onAcc _ p a _ h).trans ((Dev.watched_newCount _ p a h).trans hj)
    · exact hj

@[simp] theorem Dev.watched_henFrame (m : MotorIx) : (d.henFrame m).watched w = d.watched w := by
  unfold Dev.henFrame
  split
  · exact d.watched_onMot_of_seen m _
  · rfl

@[simp] theorem Dev.watched_enforceGrants (g : GroupIx) (b : Books) (h : w.books = false) : (d.enforceGrants g b).watched w = d.watched w := by
  unfold Dev.enforceGrants
  refine (Dev.watched_each _ _ _ (fun e j => ?_)).trans (d.watched_onGrp g _ (by simp [h]))
  exact (Dev.watched_put _ _ _ (by simp [h])).trans (e.watched_onMot _ _ (fun _ _ => rfl) (by simp [h]))

@[simp] theorem Dev.watched_snapshot (g : GroupIx) (h : w.books = false) : (d.snapshot g).watched w = d.watched w := by
  simp [Dev.snapshot, h]

@[simp] theorem Dev.watched_fbCopy (f : ChanIx) : (d.fbCopy f).watched w = d.watched w := by
  simp [Dev.fbCopy]

@[simp] theorem Dev.watched_absStart (f : ChanIx) : (d.absStart f).watched w = d.watched w := by
  have henf : (((d.enforce (aFb f 0) (aFb f 2)).enforce (aFb f 0x10) (aFb f 0x16)).putB (aFb f 8) 4 true).watched w = d.watched w := by
    rw [Dev.watched_putB _ _ _ _ (by simp), Dev.watched_enforce_aFb, Dev.watched_enforce_aFb]
  unfold Dev.absStart
  dsimp only
  split
  · exact d.watched_ite_of henf rfl
  · rfl

@[simp] theorem Dev.watched_restartSeq (p : GroupIx) : (d.restartSeq p).watched w = d.watched w := by
  simp [Dev.restartSeq]

@[simp] theorem Dev.watched_seqFrame (p : GroupIx) : (d.seqFrame p).watched w = d.watched w := by
  unfold Dev.seqFrame
  dsimp only
  split
  · rw [Dev.watched_restartSeq]
    split
    · rfl
    · rw [Dev.watched_inc _ _ (by simp), Dev.watched_seqLost]
  · rfl

@[simp] theorem Dev.watched_supFrame (g : GroupIx) (whole : Bool) : (d.supFrame g whole).watched w = d.watched w := by
  simp [Dev.supFrame]

@[simp] theorem Dev.watched_applyDuty (m : MotorIx) (deadline : Bool) (h : w.motor ≠ some m) : (d.applyDuty m deadline).watched w = d.watched w := by
  refine d.watched_onMot m _ (fun e => absurd e h) (fun _ x => ?_)
  dsimp only
  split <;> rfl

@[simp] theorem Dev.watched_rampHold (m : MotorIx) : (d.rampHold m).watched w = d.watched w := by
  unfold Dev.rampHold
  dsimp only
  split
  · exact d.watched_onMot_of_seen m _
  · rfl

@[simp] theorem Dev.watched_rampStep (m : MotorIx) : (d.rampStep m).watched w = d.watched w := (Dev.watched_rampHold _ m).trans (d.watched_onMot_of_seen m _)

@[simp] theorem Dev.watched_senseLess (m : MotorIx) : (d.senseLess m).watched w = d.watched w := by
  unfold Dev.senseLess
  refine (Dev.watched_onMot_of_seen _ m _ (fun x => ?_)).trans ?_
  · split <;> rfl
  · split
    · exact d.watched_rampStep m
    · rfl

@[simp] theorem Dev.watched_sense (m : MotorIx) : (d.sense m).watched w = d.watched w := by
  unfold Dev.sense
  refine (Dev.watched_onMot_of_seen _ m _).trans ?_
  exact d.watched_ite_of rfl d.watched_nextFree

@[simp] theorem Dev.watched_putSpeed (m : MotorIx) (v : Int) : (d.putSpeed m v).watched w = d.watched w := by
  simp [Dev.putSpeed]

@[simp] theorem Dev.watched_angles (m : MotorIx) : (d.angles m).watched w = d.watched w := by
  have hsense : (if d.sensorless m then d.senseLess m else d.sense m).watched w = d.watched w := by simp
  unfold Dev.angles
  rw [Dev.watched_put _ _ _ (by simp), Dev.watched_put _ _ _ (by simp), Dev.watched_putSpeed]
  refine (Dev.watched_onMot_of_seen _ m _ (fun x => ?_)).trans hsense
  dsimp only
  split <;> rfl

@[simp] theorem Dev.watched_putCmdx (m : MotorIx) (x : Nat) : (d.putCmdx m x).watched w = d.watched w := by
  have hcmd := d.watched_onMot_of_seen (w := w) m (fun y => { y with cmd := { y.cmd with x := x } }) (fun _ => rfl)
  unfold Dev.putCmdx
  dsimp only
  split
  · exact (Dev.watched_put _ _ _ (by simp)).trans hcmd
  · exact (Dev.watched_put _ _ _ (by simp)).trans hcmd

@[simp] theorem Dev.watched_judgeCmd (m : MotorIx) (frame : Bool) : (d.judgeCmd m frame).watched w = d.watched w := by
  simp [Dev.judgeCmd]

@[simp] theorem Dev.watched_measureCmd (m : MotorIx) (x : Nat) (frame : Bool) : (d.measureCmd m x frame).watched w = d.watched w := by
  simp [Dev.measureCmd]

@[simp] theorem Dev.watched_cmdFrame (m : MotorIx) : (d.cmdFrame m).watched w = d.watched w := by
  unfold Dev.cmdFrame
  dsimp only
  refine (Dev.watched_onMot_of_seen _ m _).trans ?_
  have hform : (if (d.mot m).cmd.form = d.cmdForm m then d
      else (d.onMot m (fun x => { x with cmd := { form := d.cmdForm m } })).putCmdx m 0).watched w = d.watched w := by
    split
    · rfl
    · exact (Dev.watched_putCmdx _ _ _).trans (d.watched_onMot_of_seen m _)
  split
  · exact (Dev.watched_measureCmd _ _ _ _).trans hform
  · exact (Dev.watched_judgeCmd _ _ _).trans hform

@[simp] theorem Dev.watched_hostFrame (m : MotorIx) : (d.hostFrame m).watched w = d.watched w := d.watched_onMot_of_seen m _

@[simp] theorem Dev.watched_motCause (m : MotorIx) (bit : Nat) : (d.motCause m bit).watched w = d.watched w := by
  simp [Dev.motCause]

@[simp] theorem Dev.watched_force (m : MotorIx) (ph : Fin 3) : (d.force m ph).watched w = d.watched w := (Dev.watched_drive _ m).trans (d.watched_onMot_of_seen m _)

@[simp] theorem Dev.watched_clearInts (m : MotorIx) (st : MState) : (d.clearInts m st).watched w = d.watched w := by
  have hint := d.watched_onMot_of_seen (w := w) m (fun x => { x with posI := 0, spdI := 0 }) (fun _ => rfl)
  unfold Dev.clearInts
  dsimp only
  split <;> split <;> simp [hint]

@[simp] theorem Dev.watched_showChange (m : MotorIx) : (d.showChange m).watched w = d.watched w := by
  simp [Dev.showChange]

@[simp] theorem Dev.watched_enterFault (m : MotorIx) (act : FaultAct) (h : w.motor ≠ some m) : (d.enterFault m act).watched w = d.watched w := (Dev.watched_drive _ m).trans ((Dev.watched_showChange _ m).trans
    ((Dev.watched_onMot _ m _ (fun e => absurd e h) (by intro _ x; rfl)).trans (d.watched_clearInts m .fault)))

@[simp] theorem Dev.watched_policy (m : MotorIx) (bit : Nat) (code : Nat) (h : w.motor ≠ some m) : (d.policy m bit code).watched w = d.watched w := by
  have hmark := d.watched_orW (w := w) (aMot m 2) (1#16 <<< bit) (by simp)
  unfold Dev.policy
  split
  · rfl
  · dsimp only
    split
    · split
      · exact (Dev.watched_drive _ m).trans ((Dev.watched_onMot_of_seen _ m _).trans hmark)
      · exact hmark
    · exact (Dev.watched_enterFault _ m _ h).trans hmark

@[simp] theorem Dev.watched_arrive (r : Report) (h : w.motor ≠ some r.motor) : (d.arrive r).watched w = d.watched w := by
  simp [Dev.arrive, h]

@[simp] theorem Dev.watched_enter (m : MotorIx) (st : MState) (h : w.motor ≠ some m) : (d.enter m st).watched w = d.watched w := by
  refine (Dev.watched_drive _ m).trans ((Dev.watched_showChange _ m).trans
    ((Dev.watched_onMot _ m _ (fun e => absurd e h) (fun _ x => ?_)).trans (d.watched_clearInts m st)))
  dsimp only
  split <;> rfl

@[simp] theorem Dev.watched_toCatch (m : MotorIx) (h : w.motor ≠ some m) : (d.toCatch m).watched w = d.watched w := (Dev.watched_enter _ m _ h).trans (d.watched_onMot_of_seen m _)

@[simp] theorem Dev.watched_holdSector (m : MotorIx) (s : Nat) : (d.holdSector m s).watched w = d.watched w := d.watched_onMot_of_seen m _

@[simp] theorem Dev.watched_toAlign1 (m : MotorIx) (h : w.motor ≠ some m) : (d.toAlign1 m).watched w = d.watched w := (Dev.watched_enter _ m _ h).trans ((Dev.watched_onMot_of_seen _ m _).trans
    ((Dev.watched_holdSector _ m _).trans (d.watched_onMot_of_seen m _)))

@[simp] theorem Dev.watched_startMotor (m : MotorIx) (h : w.motor ≠ some m) : (d.startMotor m).watched w = d.watched w := by
  unfold Dev.startMotor
  dsimp only
  split
  · split
    · exact (Dev.watched_toCatch _ m h).trans (d.watched_onMot_of_seen m _)
    · exact (Dev.watched_toAlign1 _ m h).trans (d.watched_onMot_of_seen m _)
  · exact (Dev.watched_enter _ m _ h).trans (d.watched_onMot m _ (fun e => absurd e h) (fun _ _ => rfl))

@[simp] theorem Dev.watched_levelReports (m : MotorIx) (h : w.motor ≠ some m) : (d.levelReports m).watched w = d.watched w := by
  simp [Dev.levelReports, h]

@[simp] theorem Dev.watched_endCheck (m : MotorIx) : (d.endCheck m).watched w = d.watched w := by
  unfold Dev.endCheck
  dsimp only
  split
  · exact d.watched_putF _ _ _ _ (fun _ => by decide)
  · rfl

@[simp] theorem Dev.watched_idleFrame (m : MotorIx) (h : w.motor ≠ some m) : (d.idleFrame m).watched w = d.watched w := by
  simp [Dev.idleFrame, h]

@[simp] theorem Dev.watched_toBrake (m : MotorIx) (h : w.motor ≠ some m) : (d.toBrake m).watched w = d.watched w := (Dev.watched_enter _ m _ h).trans (d.watched_onMot_of_seen m _)

@[simp] theorem Dev.watched_reversal (m : MotorIx) (h : w.motor ≠ some m) : (d.reversal m).watched w = d.watched w := by
  unfold Dev.reversal
  dsimp only
  split
  · split
    · rfl
    · split
      · exact d.watched_toBrake m h
      · exact (Dev.watched_enter _ m _ h).trans ((Dev.watched_motCause _ m 9).trans (d.watched_onMot_of_seen m _))
  · split
    · split
      · exact d.watched_toCatch m h
      · exact (Dev.watched_enter _ m _ h).trans (d.watched_onMot_of_seen m _)
    · split
      · exact d.watched_toBrake m h
      · rfl
  · rfl

@[simp] theorem Dev.watched_overspeed (m : MotorIx) (h : w.motor ≠ some m) : (d.overspeed m).watched w = d.watched w := by
  simp [Dev.overspeed, h]

@[simp] theorem Dev.watched_faultFrame (m : MotorIx) : (d.faultFrame m).watched w = d.watched w := by
  have hheld := d.watched_onMot_of_seen (w := w) m (fun x => { x with
    devHeld := if x.devFault then (match x.devHeld with | some n => some (n + 1) | none => some 0) else none }) (fun _ => rfl)
  unfold Dev.faultFrame
  dsimp only
  split
  · split
    · exact (Dev.watched_onMot_of_seen _ m _).trans hheld
    · exact hheld
  · rfl

@[simp] theorem Dev.watched_dutyFrame (m : MotorIx) : (d.dutyFrame m).watched w = d.watched w := by
  simp [Dev.dutyFrame]

@[simp] theorem Dev.watched_searchStart (m : MotorIx) : (d.searchStart m).watched w = d.watched w := by
  unfold Dev.searchStart
  dsimp only
  split
  · refine (Dev.watched_onMot_of_seen _ m _).trans ?_
    rw [Dev.watched_putF _ _ _ _ _ (by simp), Dev.watched_putB _ _ _ _ (by simp)]
  · rfl

@[simp] theorem Dev.watched_showFrame (m : MotorIx) : (d.showFrame m).watched w = d.watched w := by
  simp [Dev.showFrame]

@[simp] theorem Dev.watched_thrFrame (m : MotorIx) : (d.thrFrame m).watched w = d.watched w := by
  refine d.watched_onMot_of_seen m _ (fun x => ?_)
  unfold Motor.newThr
  split <;> rfl

@[simp] theorem Dev.watched_motorFrame (m : MotorIx) (deadline : Bool) (h : w.motor ≠ some m) : (d.motorFrame m deadline).watched w = d.watched w := by
  unfold Dev.motorFrame
  dsimp only
  rw [Dev.watched_showFrame, Dev.watched_thrFrame, Dev.watched_dutyFrame, Dev.watched_searchStart]
  have hbegin (e : Dev) : ((((e.onMot m Motor.timers).angles m).hostFrame m).cmdFrame m).watched w = e.watched w := by
    rw [Dev.watched_cmdFrame, Dev.watched_hostFrame, Dev.watched_angles]
    exact e.watched_onMot_of_seen m _
  split <;> simp [h, hbegin]

end Sys2Proof.Machine
end

section
/-! The work of a frame in its steps, and what it leaves as it stands. -/

namespace Sys2Proof.Machine

open Sys2Proof

variable {w : Watch} (d : Dev)

/-! ### The steps of a frame's work -/

/-- The carriers of group g go over to a new period. -/
def Dev.newCarriers (g : GroupIx) (per : Nat) : Dev :=
  d.each (motsOf g) (fun d m =>
    if (slotOf m).1 = 0 then d
    else d.onMot m (fun x => { x with car := x.car.transition d.cycles ((slotOf m).1 * per / 4) }))

/-- The frame opens: its period, its number, and what counts from its start. -/
def Dev.openFrame (g : GroupIx) (ended : Bool) : Dev :=
  let x := d.grp g
  let per := clampNat 4000 25000 (d.uw (aGrp g 0))
  let d := if per ≠ x.period && ended then d.newCarriers g per else d
  let back := x.idleDom && d.domainsReady g
  d.onGrp g (fun x => { x with
    period := per, align := d.bit (aGrp g 1) 2, grantPt := d.uw (aGrp g 2), fcnt := x.fcnt + 1, deadline := false
    floorsOnly := x.floorsOnly || back, idleDom := x.idleDom && !back, granted := false })

/-- The written words of the group's engines come in force. -/
def Dev.frameForce (g : GroupIx) : Dev :=
  (d.each (motsOf g) Dev.henFrame).enforce (aMot (motAt g 0) 0) (aMot (motAt g 0) 0x1000)

/-- The books that wait come in force. -/
def Dev.frameGrants (g : GroupIx) (pend : Option Books) : Dev :=
  match pend with
  | some b => (d.enforceGrants g b).onGrp g (fun x => { x with pend := none })
  | none => d

/-- Feedback, supply and sequencer of the frame. -/
def Dev.frameScan (g : GroupIx) (ended : Bool) : Dev :=
  ((d.each (motsOf g) (fun d m => (d.absStart (chanOf m)).fbCopy (chanOf m))).supFrame g ended).seqFrame g

theorem Dev.frameWork_eq (g : GroupIx) (ended : Bool) :
    d.frameWork g ended = ((((((d.openFrame g ended).accFrame g ended).frameForce g).frameGrants g (d.grp g).pend).snapshot g).frameScan
      g ended |>.each (motsOf g) (fun e m => e.motorFrame m (d.grp g).deadline)).driveGroup g := rfl

/-! ### What each step leaves -/

@[simp] theorem Dev.watched_newCarriers (g : GroupIx) (per : Nat) : (d.newCarriers g per).watched w = d.watched w :=
  d.watched_each _ _ (fun e m => e.watched_ite_of rfl (e.watched_onMot_of_seen m _))

@[simp] theorem Dev.watched_openFrame (g : GroupIx) (ended : Bool) : (d.openFrame g ended).watched w = d.watched w :=
  (Dev.watched_onGrp _ g _ (by intro _ x; rfl)).trans (d.watched_ite_of (d.watched_newCarriers g _) rfl)

@[simp] theorem Dev.watched_frameForce (g : GroupIx) (h : w.books = false) : (d.frameForce g).watched w = d.watched w := by
  simp [Dev.frameForce, h]

@[simp] theorem Dev.watched_frameGrants (g : GroupIx) (pend : Option Books) (h : w.books = false) :
    (d.frameGrants g pend).watched w = d.watched w := by
  unfold Dev.frameGrants
  split
  · exact (Dev.watched_onGrp _ g _ (by simp [h])).trans (d.watched_enforceGrants g _ h)
  · rfl

@[simp] theorem Dev.watched_frameScan (g : GroupIx) (ended : Bool) : (d.frameScan g ended).watched w = d.watched w := by
  simp [Dev.frameScan]

/-- The work of a frame leaves the clock and the host ports. -/
@[simp] theorem Dev.watched_frameWork (g : GroupIx) (ended : Bool) :
    (d.frameWork g ended).watched .clock = d.watched .clock := by
  rw [Dev.frameWork_eq, Dev.watched_driveGroup, Dev.watched_each _ _ _ (fun e m => e.watched_motorFrame m _ (by simp)),
    Dev.watched_frameScan, Dev.watched_snapshot _ g rfl, Dev.watched_frameGrants _ g _ rfl, Dev.watched_frameForce _ g rfl,
    Dev.watched_accFrame _ g _ rfl, Dev.watched_openFrame]

@[simp] theorem Dev.watched_startGroup (g : GroupIx) : (d.startGroup g).watched .clock = d.watched .clock := by
  unfold Dev.startGroup
  split
  · rfl
  · refine (Dev.watched_frameWork _ g false).trans ((Dev.watched_onPrm _ g _ (by simp)).trans ?_)
    rw [Dev.watched_startCarriers, Dev.watched_resetRR _ g rfl]
    exact d.watched_onGrp g _ (by simp)

@[simp] theorem Dev.watched_startDue (g : GroupIx) : (d.startDue g).watched .clock = d.watched .clock := by
  unfold Dev.startDue
  split
  · exact (Dev.watched_when _ _ _ (fun e => e.watched_startGroup g)).trans (d.watched_onGrp g _ (by simp))
  · rfl

/-! ### The next cycle (R33, R34) -/

/-- The clock and the host ports of the next cycle: TIME has gone on, the ports stand as they stood. -/
theorem Dev.watched_nextCycle : d.nextCycle.watched .clock = ({ d with cycles := d.cycles + 1 } : Dev).watched .clock := by
  have hdue : d.dueFb.watched .clock = d.watched .clock := d.watched_dueFb
  have hc : d.dueFb.cycles = d.cycles := congrArg Watched.cycles hdue
  have hp : d.dueFb.ports = d.ports := congrArg Watched.ports hdue
  unfold Dev.nextCycle
  dsimp only
  rw [Dev.watched_each _ _ _ (fun e g => e.watched_startDue g), Dev.watched_dueGlint _ rfl, Dev.watched_newCycle]
  simp [Dev.watched, hc, hp]

theorem Dev.nextCycle_cycles : d.nextCycle.cycles = d.cycles + 1 := congrArg Watched.cycles d.watched_nextCycle

theorem Dev.nextCycle_hp (k : HostIx) : d.nextCycle.hp k = d.hp k :=
  congrArg (fun v : Vector HostPort 4 => v[k]) (congrArg Watched.ports d.watched_nextCycle)

end Sys2Proof.Machine
end

section
/-! What a frame start applies of a motor that stays in RUN (R19, R24). -/

namespace Sys2Proof.Machine

open Sys2Proof

/-- The engine of motor m, beside the clock and the host ports. -/
def Watch.engine (m : MotorIx) : Watch := ⟨false, some m⟩

@[simp] theorem Watch.engine_books (m : MotorIx) : (Watch.engine m).books = false := rfl
@[simp] theorem Watch.engine_motor (m : MotorIx) : (Watch.engine m).motor = some m := rfl

theorem Dev.core_of_watched {d e : Dev} {m : MotorIx} (h : e.watched (.engine m) = d.watched (.engine m)) :
    (e.mot m).core = (d.mot m).core :=
  Option.some.inj (congrArg Watched.motor h)

theorem Motor.state_of_core {x y : Motor} (h : y.core = x.core) : y.state = x.state := congrArg Prod.fst h

/-- `y` is what a frame start makes of the duty of `x` (R24, R28). -/
def Motor.Applied (x y : Motor) (deadline : Bool) : Prop :=
  y.ready = none ∧ y.loopRun = false ∧ y.out = (if deadline then x.out else none) ∧
    (∀ q, x.toApply deadline = some q → y.duty = min q.1 32768 ∧ y.demRev = q.2) ∧
    (x.toApply deadline = none → y.duty = x.duty ∧ y.demRev = x.demRev)

theorem Motor.Applied.congr {x x' y y' : Motor} {deadline : Bool} (h : x.Applied y deadline) (hx : x'.core = x.core)
    (hy : y'.core = y.core) : x'.Applied y' deadline := by
  simp only [Motor.core, Prod.mk.injEq] at hx hy
  obtain ⟨-, hxo, hxr, -, hxd, hxv⟩ := hx
  obtain ⟨-, hyo, hyr, hyl, hyd, hyv⟩ := hy
  unfold Motor.Applied Motor.toApply at h ⊢
  rw [hxo, hxr, hxd, hxv, hyo, hyr, hyl, hyd, hyv]
  exact h

theorem Dev.applyDuty_applied (d : Dev) (m : MotorIx) (deadline : Bool) :
    (d.mot m).Applied ((d.applyDuty m deadline).mot m) deadline ∧
      ((d.applyDuty m deadline).mot m).state = (d.mot m).state := by
  unfold Dev.applyDuty
  rw [Dev.onMot_mot]
  change Motor.Applied _ (match (d.mot m).toApply deadline with
    | some (duty, rev) => _
    | none => _) _ ∧ Motor.state (match (d.mot m).toApply deadline with
    | some (duty, rev) => _
    | none => _) = _
  unfold Motor.Applied
  cases (d.mot m).toApply deadline <;> simp

/-! ### Changes of state -/

theorem Dev.enter_state (d : Dev) (m : MotorIx) (st : MState) : ((d.enter m st).mot m).state = st := by
  unfold Dev.enter
  dsimp only
  rw [(Dev.drives_drive _ m).mot_state, Dev.showChange_mot, Dev.onMot_mot]
  split <;> rfl

theorem Dev.toBrake_state (d : Dev) (m : MotorIx) : ((d.toBrake m).mot m).state = .brake := Dev.enter_state _ m .brake

theorem Dev.toIdle_state (d : Dev) (m : MotorIx) : ((d.toIdle m).mot m).state = .idle := d.enter_state m .idle

/-- A policy sends the motor to FAULT, or leaves its engine. -/
theorem Dev.policy_cases (d : Dev) (m : MotorIx) (bit code : Nat) :
    (d.policy m bit code).watched (.engine m) = d.watched (.engine m) ∨ ((d.policy m bit code).mot m).state = .fault := by
  have hmark : (d.orW (aMot m 2) (1#16 <<< bit)).watched (.engine m) = d.watched (.engine m) :=
    d.watched_orW _ _ (fun h => Bool.noConfusion h)
  unfold Dev.policy
  split
  · exact .inl rfl
  · dsimp only
    split
    · refine .inl ?_
      split
      · exact (Dev.watched_drive _ m).trans ((Dev.watched_onMot_of_seen _ m _).trans hmark)
      · exact hmark
    · rw [Dev.enterFault_state]
      exact .inr (if_pos rfl)

theorem Dev.overspeed_cases (d : Dev) (m : MotorIx) :
    (d.overspeed m).watched (.engine m) = d.watched (.engine m) ∨ ((d.overspeed m).mot m).state = .fault := by
  unfold Dev.overspeed
  dsimp only
  split
  · obtain h | h := (d.motCause m 4).policy_cases m 4 (d.ifld (aMot m 3) 9 8)
    · exact .inl (h.trans (d.watched_motCause m 4))
    · exact .inr h
  · exact .inl rfl

/-- A reversal takes a motor out of RUN, or leaves its engine; it does not bring one to RUN that was at fault. -/
theorem Dev.reversal_cases (d : Dev) (m : MotorIx) (h : (d.mot m).state = .run ∨ (d.mot m).state = .fault) :
    (d.reversal m).watched (.engine m) = d.watched (.engine m) ∨ ((d.reversal m).mot m).state ≠ .run := by
  unfold Dev.reversal
  dsimp only
  split
  · split
    · exact .inl rfl
    · split
      · rw [Dev.toBrake_state]
        exact .inr (by decide)
      · rw [Dev.enter_state]
        exact .inr (by decide)
  · rename_i hs
    rw [hs] at h
    exact absurd h (by decide)
  · exact .inl rfl

/-! ### The engines' part of a frame -/

/-- A motor in RUN before and after its part of the frame took its duty, and nothing else has changed it since (R24). -/
theorem Dev.motorFrame_applied (d : Dev) (m : MotorIx) (deadline : Bool) (h : (d.mot m).state = .run)
    (h' : ((d.motorFrame m deadline).mot m).state = .run) : (d.mot m).Applied ((d.motorFrame m deadline).mot m) deadline := by
  obtain ⟨happ, hst⟩ := d.applyDuty_applied m deadline
  generalize hb : (((((d.applyDuty m deadline).onMot m Motor.timers).angles m).hostFrame m).cmdFrame m) = b
  have hbegin : b.watched (.engine m) = (d.applyDuty m deadline).watched (.engine m) := by
    rw [← hb, Dev.watched_cmdFrame, Dev.watched_hostFrame, Dev.watched_angles]
    exact Dev.watched_onMot_of_seen _ m _
  have hmode := (Dev.watched_faultFrame (b.putB (aMot m 0x15C) 0 (!b.curveOk m)) m).trans
    ((b.watched_putB (w := .engine m) _ _ _ (by simp)).trans hbegin)
  generalize hf : (b.putB (aMot m 0x15C) 0 (!b.curveOk m)).faultFrame m = f at hmode
  have hend : (d.motorFrame m deadline).watched (.engine m) = ((f.overspeed m).reversal m).watched (.engine m) := by
    unfold Dev.motorFrame
    dsimp only
    rw [Dev.watched_showFrame, Dev.watched_thrFrame, Dev.watched_dutyFrame, Dev.watched_searchStart,
      if_neg (by rw [h]; decide), hb, hf]
  have hrun : (f.mot m).state = .run := (Motor.state_of_core (Dev.core_of_watched hmode)).trans (hst.trans h)
  have hlast := Dev.core_of_watched hend
  rw [Motor.state_of_core hlast] at h'
  have hrev : ((f.overspeed m).mot m).state = .run ∨ ((f.overspeed m).mot m).state = .fault :=
    (f.overspeed_cases m).imp (fun e => (Motor.state_of_core (Dev.core_of_watched e)).trans hrun) id
  have hkeep := ((f.overspeed m).reversal_cases m hrev).resolve_right (not_not_intro h')
  rw [Motor.state_of_core (Dev.core_of_watched hkeep)] at h'
  have hover := (f.overspeed_cases m).resolve_right (by rw [h']; decide)
  exact happ.congr rfl (hlast.trans (Dev.core_of_watched (hkeep.trans (hover.trans hmode))))

/-- The parts of other motors leave an engine. -/
theorem Dev.watched_motorFrames_ne (d : Dev) (l : List MotorIx) {m : MotorIx} (deadline : Bool) (h : m ∉ l) :
    (d.each l (fun e n => e.motorFrame n deadline)).watched (.engine m) = d.watched (.engine m) := by
  unfold Dev.each
  induction l generalizing d with
  | nil => rfl
  | cons a t ih =>
    obtain ⟨ha, ht⟩ := List.ne_and_not_mem_of_not_mem_cons h
    exact (ih (d.motorFrame a deadline) ht).trans (d.watched_motorFrame a deadline (fun e => ha (Option.some.inj e)))

theorem Dev.motorFrames_applied (l : List MotorIx) (hl : l.Nodup) (d : Dev) {m : MotorIx} (deadline : Bool) (hm : m ∈ l)
    (h : (d.mot m).state = .run) (h' : ((d.each l (fun e n => e.motorFrame n deadline)).mot m).state = .run) :
    (d.mot m).Applied ((d.each l (fun e n => e.motorFrame n deadline)).mot m) deadline := by
  induction l generalizing d with
  | nil => cases hm
  | cons a t ih =>
    obtain ⟨hat, ht⟩ := List.nodup_cons.mp hl
    by_cases e : m = a
    · subst e
      have hrest := Dev.core_of_watched ((d.motorFrame m deadline).watched_motorFrames_ne t deadline hat)
      exact (d.motorFrame_applied m deadline h ((Motor.state_of_core hrest).symm.trans h')).congr rfl hrest
    · have hfirst := Dev.core_of_watched (d.watched_motorFrame (w := .engine m) a deadline (fun x => e (Option.some.inj x)))
      exact (ih ht (d.motorFrame a deadline) ((List.mem_cons.mp hm).resolve_left e)
        ((Motor.state_of_core hfirst).trans h) h').congr hfirst.symm rfl

end Sys2Proof.Machine
end

section
/-! The FRAME counts that have not closed at a frame start (R28, R234). -/

namespace Sys2Proof.Machine

open Sys2Proof

/-! ### Repetitions -/

/-- What every step of a repetition keeps. -/
theorem Dev.each_inv {α : Type} {P : Dev → Prop} {f : Dev → α → Dev} (l : List α) (d : Dev) (h : P d)
    (hf : ∀ e a, P e → P (f e a)) : P (d.each l f) := by
  unfold Dev.each
  induction l generalizing d with
  | nil => exact h
  | cons a t ih => exact ih (f d a) (hf d a h)

theorem Dev.each_inv_of_ne {α : Type} {P : Dev → Prop} {f : Dev → α → Dev} {a : α} (l : List α) (d : Dev) (h : P d)
    (ha : a ∉ l) (hf : ∀ e c, c ≠ a → P e → P (f e c)) : P (d.each l f) := by
  unfold Dev.each
  induction l generalizing d with
  | nil => exact h
  | cons c t ih =>
    obtain ⟨hc, ht⟩ := List.ne_and_not_mem_of_not_mem_cons ha
    exact ih (f d c) (hf d c hc.symm h) ht

/-- The one step of a repetition that does something: the others keep what holds before it, and what holds after it. -/
theorem Dev.each_once {α : Type} {I P : Dev → Prop} {f : Dev → α → Dev} {a : α} (l : List α) (hl : l.Nodup) (ha : a ∈ l) (d : Dev)
    (h : I d) (hI : ∀ e c, c ≠ a → I e → I (f e c)) (hat : ∀ e, I e → P (f e a)) (hP : ∀ e c, c ≠ a → P e → P (f e c)) :
    P (d.each l f) := by
  induction l generalizing d with
  | nil => cases ha
  | cons c t ih =>
    obtain ⟨hct, ht⟩ := List.nodup_cons.mp hl
    by_cases e : c = a
    · subst e
      exact Dev.each_inv_of_ne t (f d c) (hat d h) hct hP
    · exact ih ht ((List.mem_cons.mp ha).resolve_left (Ne.symm e)) (f d c) (hI d c e h)

/-! ### Motors of a group -/

theorem mem_motsOf {m : MotorIx} {g : GroupIx} : m ∈ motsOf g ↔ grpOf m = g := by
  unfold motsOf
  rw [List.mem_map]
  constructor
  · rintro ⟨j, -, rfl⟩
    exact Fin.ext (by simp only [grpOf, motAt]; omega)
  · rintro rfl
    exact ⟨slotOf m, List.mem_finRange _, Fin.ext (by simp only [grpOf, motAt, slotOf]; omega)⟩

theorem motAt_injective (g : GroupIx) : Function.Injective (motAt g) := fun i j h =>
  Fin.ext (by have := congrArg Fin.val h; simp only [motAt] at this; omega)

theorem motsOf_nodup (g : GroupIx) : (motsOf g).Nodup := (List.nodup_finRange 4).map (motAt_injective g)

theorem grpOf_motAt (g j : Fin 4) : grpOf (motAt g j) = g := Fin.ext (by simp only [grpOf, motAt]; omega)

theorem slotOf_motAt (g j : Fin 4) : slotOf (motAt g j) = j := Fin.ext (by simp only [slotOf, motAt]; omega)

theorem motAt_slotOf (m : MotorIx) : motAt (grpOf m) (slotOf m) = m := Fin.ext (by simp only [motAt, slotOf, grpOf]; omega)

/-! ### Bits that are set -/

theorem Dev.bit_orW (d : Dev) (a : Nat) (m : Word) (b i : Nat) :
    (d.orW a m).bit b i = (d.bit b i || (decide (b = a) && m.getLsbD i)) := by
  unfold Dev.bit bitOf
  rw [Dev.w_orW]
  by_cases h : b = a
  · subst h
    simp
  · simp [h]

theorem Dev.bit_setB (d : Dev) (a i b j : Nat) (h : d.bit b j = true) : (d.setB a i).bit b j = true := by
  unfold Dev.setB
  rw [Dev.bit_orW, h, Bool.true_or]

theorem Dev.bit_setB_self (d : Dev) (a : Nat) {i : Nat} (h : i < 16) : (d.setB a i).bit a i = true := by
  unfold Dev.setB
  rw [Dev.bit_orW]
  simp [h]

theorem Dev.bit_cause (d : Dev) (a : Nat) (m : Word) (i b j : Nat) :
    (d.cause a m i).bit b j = (d.bit b j || (decide (b = a) && m.getLsbD j)) := by
  unfold Dev.cause
  rw [← Dev.bit_orW]
  exact Dev.bit_congr (by simp) j

theorem Dev.bit_inc_ne (d : Dev) {a b : Nat} (j : Nat) (h : b ≠ a) : (d.inc a).bit b j = d.bit b j :=
  Dev.bit_congr (d.w_put_ne _ h) j

theorem Dev.w_of_words {d e : Dev} (h : e.words = d.words) (a : Nat) : e.w a = d.w a := by
  unfold Dev.w
  rw [h]

/-! ### One accumulator at a frame's end -/

/-- The motors, the values in force and the groups are the same: what an engine reads of an accumulator is (R22). -/
def Dev.SameReads (d e : Dev) : Prop := e.motors = d.motors ∧ e.inForce = d.inForce ∧ e.groups = d.groups

theorem Dev.SameReads.refl (d : Dev) : d.SameReads d := ⟨rfl, rfl, rfl⟩

theorem Dev.SameReads.trans {c d e : Dev} (h : c.SameReads d) (h' : d.SameReads e) : c.SameReads e :=
  ⟨h'.1.trans h.1, h'.2.1.trans h.2.1, h'.2.2.trans h.2.2⟩

theorem Dev.readsAcc_congr {d e : Dev} {m : MotorIx} (a : Nat) (hs : (e.mot m).state = (d.mot m).state)
    (hi : e.inForce = d.inForce) : e.readsAcc m a = d.readsAcc m a := by
  have hiw : e.iw = d.iw := by unfold Dev.iw; rw [hi]
  unfold Dev.readsAcc Dev.currentRuns Dev.modeBad Dev.sensorless Dev.curveOk Dev.fcx Dev.fcy Dev.iuw Dev.ifld Dev.ibit
  rw [hs, hiw]

theorem Dev.SameReads.readsAcc {d e : Dev} (h : d.SameReads e) (m : MotorIx) (a : Nat) : e.readsAcc m a = d.readsAcc m a :=
  Dev.readsAcc_congr a (by unfold Dev.mot; rw [h.1]) h.2.1

/-- What the end of a frame does with one accumulator. -/
def Dev.accStep (d : Dev) (p : GroupIx) (ended : Bool) (a : Fin 64) : Dev :=
  let d := d.when ended (fun d => d.judgeAcc p a)
  let c := d.acc p a
  let frameCfg := bitOf (d.w (aAcc p a 0)) 15
  if c.frame || c.waits || (frameCfg && (d.grp p).running && !ended) then
    (d.newCount p a).onAcc p a (fun c => { c with closed := false, xs := false })
  else d

theorem Dev.accFrame_eq {d : Dev} {p : GroupIx} (h : d.prmOn p = true) (h' : d.domRdy (prismDom p) = true) (ended : Bool) :
    d.accFrame p ended = d.each (List.finRange 64) (fun e a => e.accStep p ended a) := by
  unfold Dev.accFrame
  rw [if_neg (by rw [h, h']; decide)]
  rfl

theorem Dev.judgeAcc_keeps (d : Dev) (p : GroupIx) (a : Fin 64) :
    d.SameReads (d.judgeAcc p a) ∧ (d.judgeAcc p a).prisms = d.prisms := by
  unfold Dev.judgeAcc
  dsimp only
  split
  · refine Dev.each_inv (P := fun e => d.SameReads e ∧ e.prisms = d.prisms) _ _ ?_ (fun e m h => ?_)
    · simp [Dev.SameReads, Dev.cause]
    · unfold Dev.when
      split
      · exact ⟨⟨h.1.1, h.1.2.1, h.1.2.2⟩, h.2⟩
      · exact h
  · exact ⟨.refl d, rfl⟩

/-- A bit that is set stays set, beside the counter of missed counts. -/
theorem Dev.judgeAcc_bit (d : Dev) (p : GroupIx) (a : Fin 64) {b i : Nat} (hb : b ≠ aPrm p 4) (h : d.bit b i = true) :
    (d.judgeAcc p a).bit b i = true := by
  unfold Dev.judgeAcc
  dsimp only
  split
  · refine Dev.each_inv (P := fun e => e.bit b i = true) _ _ ?_ (fun e m he => ?_)
    · rw [Dev.bit_inc_ne _ _ hb, Dev.bit_cause, h, Bool.true_or]
    · unfold Dev.when
      split
      · exact Dev.bit_setB _ _ _ _ _ he
      · exact he
  · exact h

/-- A count that has not closed shows, and marks the slots that read it (R28, R248). -/
theorem Dev.judgeAcc_marks {d : Dev} {p : GroupIx} {a : Fin 64} (hf : (d.acc p a).frame = true)
    (hc : (d.acc p a).closed = false) (hw : (d.acc p a).waits = false) :
    (d.judgeAcc p a).bit (aPrm p 2) 0 = true ∧
      ∀ m, grpOf m = p → d.readsAcc m a.1 = true → (d.judgeAcc p a).bit (aGrp p 4) (12 + (slotOf m).1) = true := by
  unfold Dev.judgeAcc
  dsimp only
  rw [if_pos (by rw [hf, hc, hw]; decide)]
  have hkeep : ∀ b i (e : Dev) (n : MotorIx), e.bit b i = true →
      (e.when (e.readsAcc n a.1) (fun d => d.setB (aGrp p 4) (12 + (slotOf n).1))).bit b i = true := fun b i e n he => by
    unfold Dev.when
    split
    · exact Dev.bit_setB _ _ _ _ _ he
    · exact he
  constructor
  · refine Dev.each_inv (P := fun e => e.bit (aPrm p 2) 0 = true) _ _ ?_ (fun e n => hkeep _ _ e n)
    rw [Dev.bit_inc_ne _ _ (by simp [aPrm]), Dev.bit_cause]
    simp
  · intro m hm hr
    refine Dev.each_once (I := fun e => d.SameReads e) (P := fun e => e.bit (aGrp p 4) (12 + (slotOf m).1) = true) _
      (motsOf_nodup p) (mem_motsOf.mpr hm) _ ?_ (fun e n _ he => ?_) (fun e he => ?_) (fun e n _ => hkeep _ _ e n)
    · simp [Dev.SameReads, Dev.cause]
    · unfold Dev.when
      split
      · exact ⟨he.1, he.2.1, he.2.2⟩
      · exact he
    · unfold Dev.when
      rw [he.readsAcc, hr]
      exact Dev.bit_setB_self _ _ (by omega)

theorem Dev.newCount_words (d : Dev) (p : GroupIx) (a : Fin 64) :
    (d.newCount p a).words = d.words ∧ d.SameReads (d.newCount p a) :=
  Dev.each_inv (P := fun e => e.words = d.words ∧ d.SameReads e) _ _ ⟨rfl, rfl, rfl, rfl⟩ (fun _ _ h => h)

theorem Dev.newCount_acc (d : Dev) (p : GroupIx) (a : Fin 64) :
    ((d.newCount p a).acc p a).n = 0 ∧ ∀ c, c ≠ a → (d.newCount p a).acc p c = d.acc p c := by
  refine Dev.each_inv (P := fun e => (e.acc p a).n = 0 ∧ ∀ c, c ≠ a → e.acc p c = d.acc p c) _ _ ?_ (fun e t h => ?_)
  · unfold Dev.acc Dev.onAcc
    rw [Dev.onPrm_prm]
    exact ⟨by rw [upd_self], fun c hc => upd_ne _ _ _ _ hc⟩
  · unfold Dev.acc at h ⊢
    rw [Dev.onPrm_prm]
    exact h

/-- One accumulator's step leaves what the engines read, the other accumulators, and every bit that is set. -/
theorem Dev.accStep_keeps (d : Dev) (p : GroupIx) (ended : Bool) (a : Fin 64) :
    d.SameReads (d.accStep p ended a) ∧ (∀ c, c ≠ a → (d.accStep p ended a).acc p c = d.acc p c) ∧
      ∀ b i, b ≠ aPrm p 4 → d.bit b i = true → (d.accStep p ended a).bit b i = true := by
  have hj : d.SameReads (d.when ended (fun d => d.judgeAcc p a)) ∧
      (∀ c, (d.when ended (fun d => d.judgeAcc p a)).acc p c = d.acc p c) ∧
      ∀ b i, b ≠ aPrm p 4 → d.bit b i = true → (d.when ended (fun d => d.judgeAcc p a)).bit b i = true := by
    unfold Dev.when
    split
    · obtain ⟨hs, hp⟩ := d.judgeAcc_keeps p a
      exact ⟨hs, fun c => by unfold Dev.acc Dev.prm; rw [hp], fun b i hb => d.judgeAcc_bit p a hb⟩
    · exact ⟨.refl d, fun _ => rfl, fun _ _ _ => id⟩
  unfold Dev.accStep
  dsimp only
  generalize d.when ended (fun d => d.judgeAcc p a) = e at hj
  obtain ⟨hs, hacc, hbit⟩ := hj
  split
  · obtain ⟨hw, hn⟩ := e.newCount_words p a
    obtain ⟨-, hc⟩ := e.newCount_acc p a
    refine ⟨hs.trans hn, fun c h => ?_, fun b i hb h => ?_⟩
    · unfold Dev.onAcc
      rw [← hacc c, ← hc c h]
      unfold Dev.acc
      rw [Dev.onPrm_prm]
      exact upd_ne _ _ _ _ h
    · rw [← hbit b i hb h]
      exact Dev.bit_congr (Dev.w_of_words hw b) i
  · exact ⟨hs, fun c _ => hacc c, hbit⟩

/-- An open count at the end of a frame shows, marks its readers, and starts anew. -/
theorem Dev.accStep_marks {d : Dev} {p : GroupIx} {a : Fin 64} (hf : (d.acc p a).frame = true)
    (hc : (d.acc p a).closed = false) (hw : (d.acc p a).waits = false) :
    (d.accStep p true a).bit (aPrm p 2) 0 = true ∧ ((d.accStep p true a).acc p a).n = 0 ∧
      ∀ m, grpOf m = p → d.readsAcc m a.1 = true → (d.accStep p true a).bit (aGrp p 4) (12 + (slotOf m).1) = true := by
  obtain ⟨hbit, hlate⟩ := Dev.judgeAcc_marks hf hc hw
  obtain ⟨-, hp⟩ := d.judgeAcc_keeps p a
  have hacc : (d.judgeAcc p a).acc p a = d.acc p a := by unfold Dev.acc Dev.prm; rw [hp]
  obtain ⟨hwords, -⟩ := (d.judgeAcc p a).newCount_words p a
  obtain ⟨hn, -⟩ := (d.judgeAcc p a).newCount_acc p a
  have hstep : d.accStep p true a = ((d.judgeAcc p a).newCount p a).onAcc p a (fun c => { c with closed := false, xs := false }) := by
    unfold Dev.accStep
    dsimp only
    rw [show d.when true (fun d => d.judgeAcc p a) = d.judgeAcc p a from rfl, hacc, hf]
    rfl
  have hsame : ∀ b i, (d.accStep p true a).bit b i = (d.judgeAcc p a).bit b i := fun b i => by
    rw [hstep]
    exact Dev.bit_congr (Dev.w_of_words hwords b) i
  refine ⟨(hsame _ _).trans hbit, ?_, fun m hm hr => (hsame _ _).trans (hlate m hm hr)⟩
  rw [hstep]
  unfold Dev.onAcc
  unfold Dev.acc at hn ⊢
  rw [Dev.onPrm_prm, upd_self]
  exact hn

theorem Dev.accFrame_sameReads (d : Dev) (p : GroupIx) (ended : Bool) : d.SameReads (d.accFrame p ended) := by
  unfold Dev.accFrame
  split
  · exact .refl d
  · exact Dev.each_inv (P := fun e => d.SameReads e) _ _ (.refl d) (fun e a h => h.trans (e.accStep_keeps p ended a).1)

/-- Every open FRAME count of the array at the end of a frame (R28, R234). -/
theorem Dev.accFrame_marks {d : Dev} {p : GroupIx} (hon : d.prmOn p = true) (hrdy : d.domRdy (prismDom p) = true) {a : Fin 64}
    (hf : (d.acc p a).frame = true) (hc : (d.acc p a).closed = false) (hw : (d.acc p a).waits = false) :
    (d.accFrame p true).bit (aPrm p 2) 0 = true ∧ ((d.accFrame p true).acc p a).n = 0 ∧
      ∀ m, grpOf m = p → d.readsAcc m a.1 = true → (d.accFrame p true).bit (aGrp p 4) (12 + (slotOf m).1) = true := by
  rw [Dev.accFrame_eq hon hrdy]
  refine Dev.each_once (a := a) (I := fun e => d.SameReads e ∧ e.acc p a = d.acc p a)
    (P := fun e => e.bit (aPrm p 2) 0 = true ∧ (e.acc p a).n = 0 ∧
      ∀ m, grpOf m = p → d.readsAcc m a.1 = true → e.bit (aGrp p 4) (12 + (slotOf m).1) = true)
    _ (List.nodup_finRange 64) (List.mem_finRange a) d ⟨.refl d, rfl⟩ (fun e c hne ⟨hs, hacc⟩ => ?_) (fun e ⟨hs, hacc⟩ => ?_)
    (fun e c hne ⟨hb, hn, hl⟩ => ?_)
  · obtain ⟨hs', hacc', -⟩ := e.accStep_keeps p true c
    exact ⟨hs.trans hs', (hacc' a (Ne.symm hne)).trans hacc⟩
  · obtain ⟨hb, hn, hl⟩ := Dev.accStep_marks (d := e) (p := p) (a := a) (by rw [hacc, hf]) (by rw [hacc, hc]) (by rw [hacc, hw])
    exact ⟨hb, hn, fun m hm hr => hl m hm ((hs.readsAcc m a.1).trans hr)⟩
  · obtain ⟨-, hacc', hbit⟩ := e.accStep_keeps p true c
    exact ⟨hbit _ _ (by unfold aPrm; omega) hb, by rw [hacc' a (Ne.symm hne)]; exact hn,
      fun m hm hr => hbit _ _ (by unfold aGrp aPrm; omega) (hl m hm hr)⟩

end Sys2Proof.Machine
end

section
/-! A frame start (R22 to R29, R143). -/

namespace Sys2Proof.Machine

open Sys2Proof

/-- The timebases, the arbiters and the counts, beside the clock and the host ports. -/
def Watch.frames : Watch := ⟨true, none⟩

@[simp] theorem Watch.frames_books : Watch.frames.books = true := rfl
@[simp] theorem Watch.frames_motor : Watch.frames.motor = none := rfl

/-! ### Reading the view -/

section Reading

variable {d e : Dev} (h : e.watched .frames = d.watched .frames)
include h

theorem Dev.w_of_frames {a : Nat} (ha : isBooks a = true) : e.w a = d.w a := by
  have := congrFun (congrArg Watched.words h) a
  simpa [Dev.watched, ha] using this

theorem Dev.iw_of_frames {a : Nat} (ha : isFrameForce a = true) : e.iw a = d.iw a := by
  have := congrFun (congrArg Watched.force h) a
  simpa [Dev.watched, ha] using this

theorem Dev.missed_of_frames (g : GroupIx) : e.bit (aPrm g 2) 0 = d.bit (aPrm g 2) 0 := by
  have := congrFun (congrArg Watched.missed h) g
  simpa [Dev.watched] using this

theorem Dev.acc_of_frames (g : GroupIx) (a : Fin 64) : e.acc g a = d.acc g a := by
  have : (e.prm g).acc = (d.prm g).acc := congrFun (congrArg Watched.counts h) g
  unfold Dev.acc
  rw [this]

theorem Dev.books_of_frames (g : GroupIx) : (e.grp g).pend = (d.grp g).pend ∧ (e.grp g).books = (d.grp g).books := by
  have := congrFun (congrArg Watched.books h) g
  simpa [Dev.watched] using this

theorem Dev.grant_of_frames (m : MotorIx) : (e.mot m).grant = (d.mot m).grant :=
  congrFun (congrArg Watched.grants h) m

theorem Dev.cmpCode_of_frames (g j : Fin 4) (grant : Nat) : e.cmpCode g j grant = d.cmpCode g j grant := by
  unfold Dev.cmpCode Dev.ifs Dev.iuw Dev.ifld
  dsimp only
  rw [Dev.iw_of_frames h (a := aCba g 3) (decide_eq_true (by unfold aCba; omega)),
    Dev.iw_of_frames h (a := aCba g 1) (decide_eq_true (by unfold aCba; omega)),
    Dev.iw_of_frames h (a := aMot (motAt g j) 0x108) (decide_eq_true (by unfold aMot motAt; dsimp only; omega))]

end Reading

theorem isBooks_aGrp (g : GroupIx) {o : Nat} (h : o < 8) : isBooks (aGrp g o) = true := by
  unfold isBooks
  rw [decide_eq_true (by unfold aGrp; omega)]
  rfl

theorem isBooks_aCba (g : GroupIx) {o : Nat} (h : o < 0x40) : isBooks (aCba g o) = true := by
  unfold isBooks
  rw [Bool.or_eq_true]
  exact .inr (decide_eq_true (by unfold aCba; omega))

theorem isBooks_aSlot (g j : Fin 4) {o : Nat} (h : o < 8) : isBooks (aSlot g j o) = true := by
  unfold isBooks
  rw [Bool.or_eq_true]
  exact .inr (decide_eq_true (by unfold aSlot; omega))

/-! ### Grants that come in force (R143) -/

/-- The books `b` of group g are in force and shown, and no others wait. -/
def Dev.GrantsInForce (d : Dev) (g : GroupIx) (b : Books) : Prop :=
  (d.grp g).books = b ∧ (d.grp g).pend = none ∧ d.w (aCba g 8) = word b.total ∧ d.w (aCba g 9) = word b.free ∧
    ∀ j : Fin 4, (d.mot (motAt g j)).grant = b.grant[j] ∧ d.w (aSlot g j 4) = word (d.cmpCode g j b.grant[j])

theorem Dev.GrantsInForce.congr {d e : Dev} {g : GroupIx} {b : Books} (hb : d.GrantsInForce g b)
    (h : e.watched .frames = d.watched .frames) : e.GrantsInForce g b := by
  obtain ⟨hbooks, hpend, htotal, hfree, hgrant⟩ := hb
  obtain ⟨hp, hk⟩ := Dev.books_of_frames h g
  refine ⟨hk.trans hbooks, hp.trans hpend, (Dev.w_of_frames h (isBooks_aCba g (by decide))).trans htotal,
    (Dev.w_of_frames h (isBooks_aCba g (by decide))).trans hfree, fun j => ?_⟩
  obtain ⟨hj, hc⟩ := hgrant j
  rw [Dev.grant_of_frames h, Dev.w_of_frames h (isBooks_aSlot g j (by decide)), Dev.cmpCode_of_frames h]
  exact ⟨hj, hc⟩

theorem Dev.cmpCode_congr {d e : Dev} (h : e.inForce = d.inForce) (g j : Fin 4) (grant : Nat) :
    e.cmpCode g j grant = d.cmpCode g j grant := by
  have hiw : e.iw = d.iw := by unfold Dev.iw; rw [h]
  unfold Dev.cmpCode Dev.ifs Dev.iuw Dev.ifld
  rw [hiw]

/-- What bringing grants in force leaves: the values in force, the arrays, and the words outside the arbiters. -/
theorem Dev.enforceGrants_keeps (d : Dev) (g : GroupIx) (b : Books) :
    (d.enforceGrants g b).inForce = d.inForce ∧ (d.enforceGrants g b).prisms = d.prisms ∧
      ((d.enforceGrants g b).grp g).books = b ∧ ∀ a, ¬ (0x6000 ≤ a ∧ a < 0x6400) → (d.enforceGrants g b).w a = d.w a := by
  unfold Dev.enforceGrants
  refine Dev.each_inv (P := fun e => e.inForce = d.inForce ∧ e.prisms = d.prisms ∧ (e.grp g).books = b ∧
    ∀ a, ¬ (0x6000 ≤ a ∧ a < 0x6400) → e.w a = d.w a) _ _ ?_ (fun e j ⟨hi, hp, hb, hw⟩ => ?_)
  · exact ⟨rfl, rfl, by simp, fun _ _ => rfl⟩
  · exact ⟨hi, hp, hb, fun a ha => (Dev.w_put_ne _ _ (by unfold aSlot; omega)).trans (hw a ha)⟩

theorem Dev.enforceGrants_slot (d : Dev) (g : GroupIx) (b : Books) (j : Fin 4) :
    ((d.enforceGrants g b).mot (motAt g j)).grant = b.grant[j] ∧
      (d.enforceGrants g b).w (aSlot g j 4) = word (d.cmpCode g j b.grant[j]) := by
  unfold Dev.enforceGrants
  refine Dev.each_once (I := fun e => e.inForce = d.inForce)
    (P := fun e => (e.mot (motAt g j)).grant = b.grant[j] ∧ e.w (aSlot g j 4) = word (d.cmpCode g j b.grant[j]))
    _ (List.nodup_finRange 4) (List.mem_finRange j) _ rfl (fun e c _ he => he) (fun e he => ?_) (fun e c hc ⟨hg, hw⟩ => ?_)
  · simp [Dev.cmpCode_congr he]
  · have hslot : aSlot g j 4 ≠ aSlot g c 4 := fun h => hc (Fin.ext (by unfold aSlot at h; omega))
    have hmot : motAt g j ≠ motAt g c := fun h => hc (motAt_injective g h).symm
    constructor
    · show ((e.onMot (motAt g c) _).mot (motAt g j)).grant = _
      rw [Dev.onMot_mot_ne _ _ hmot, hg]
    · rw [Dev.w_put_ne _ _ hslot]
      exact hw

/-- What a snapshot of the books leaves (R148). -/
theorem Dev.snapshot_keeps (d : Dev) (g : GroupIx) :
    (d.snapshot g).inForce = d.inForce ∧ (d.snapshot g).prisms = d.prisms ∧ (d.snapshot g).groups = d.groups ∧
      (d.snapshot g).motors = d.motors ∧ (∀ j, (d.snapshot g).w (aSlot g j 4) = d.w (aSlot g j 4)) ∧
      ∀ a, ¬ (0x6000 ≤ a ∧ a < 0x6400) → (d.snapshot g).w a = d.w a := by
  unfold Dev.snapshot
  refine Dev.each_inv (P := fun e => e.inForce = d.inForce ∧ e.prisms = d.prisms ∧ e.groups = d.groups ∧ e.motors = d.motors ∧
    (∀ j, e.w (aSlot g j 4) = d.w (aSlot g j 4)) ∧ ∀ a, ¬ (0x6000 ≤ a ∧ a < 0x6400) → e.w a = d.w a)
    _ _ ?_ (fun e j ⟨hi, hp, hg, hm, hs, hw⟩ => ?_)
  · refine ⟨by simp, by simp, by simp, by simp, fun j => ?_, fun a ha => ?_⟩
    · iterate 5 rw [Dev.w_put_ne _ _ (by unfold aSlot aCba; omega)]
    · iterate 5 rw [Dev.w_put_ne _ _ (by unfold aCba; omega)]
  · refine ⟨hi, hp, hg, hm, fun i => ?_, fun a ha => ?_⟩
    · exact (Dev.w_put_ne _ _ (by unfold aSlot; omega)).trans (hs i)
    · exact (Dev.w_put_ne _ _ (by unfold aSlot; omega)).trans (hw a ha)

theorem Dev.snapshot_shows (d : Dev) (g : GroupIx) :
    (d.snapshot g).w (aCba g 8) = word (d.grp g).books.total ∧ (d.snapshot g).w (aCba g 9) = word (d.grp g).books.free := by
  unfold Dev.snapshot
  refine Dev.each_inv (P := fun e => e.w (aCba g 8) = word (d.grp g).books.total ∧ e.w (aCba g 9) = word (d.grp g).books.free)
    _ _ ?_ (fun e j ⟨ht, hf⟩ => ?_)
  · constructor
    · iterate 4 rw [Dev.w_put_ne _ _ (by unfold aCba; omega)]
      exact Dev.w_put_self _ _ _
    · iterate 3 rw [Dev.w_put_ne _ _ (by unfold aCba; omega)]
      exact Dev.w_put_self _ _ _
  · exact ⟨(Dev.w_put_ne _ _ (by unfold aSlot aCba; omega)).trans ht, (Dev.w_put_ne _ _ (by unfold aSlot aCba; omega)).trans hf⟩

/-- Books that wait no more: the rest of the module stands. -/
theorem Dev.clearPend_keeps (d : Dev) (g : GroupIx) :
    let e := d.onGrp g (fun x => { x with pend := none })
    e.inForce = d.inForce ∧ e.prisms = d.prisms ∧ (∀ m, e.mot m = d.mot m) ∧ (∀ a, e.w a = d.w a) ∧
      (e.grp g).books = (d.grp g).books ∧ (e.grp g).pend = none := by
  simp

theorem Dev.frameGrants_some (d : Dev) (g : GroupIx) (b : Books) :
    d.frameGrants g (some b) = (d.enforceGrants g b).onGrp g (fun x => { x with pend := none }) := rfl

/-- Waiting books come in force and are shown (R143). -/
theorem Dev.grantsInForce_snapshot (d : Dev) (g : GroupIx) (b : Books) :
    ((d.frameGrants g (some b)).snapshot g).GrantsInForce g b := by
  obtain ⟨hinf, -, hbooks, -⟩ := d.enforceGrants_keeps g b
  obtain ⟨hi, -, hm, hw, hb, hp⟩ := (d.enforceGrants g b).clearPend_keeps g
  rw [← Dev.frameGrants_some] at hi hm hw hb hp
  rw [hbooks] at hb
  generalize d.frameGrants g (some b) = e at hi hm hw hb hp
  obtain ⟨hi', -, hgrp, hmot, hslot, -⟩ := e.snapshot_keeps g
  obtain ⟨ht, hf⟩ := e.snapshot_shows g
  have hg : (e.snapshot g).grp g = e.grp g := by unfold Dev.grp; rw [hgrp]
  rw [hb] at ht hf
  refine ⟨by rw [hg]; exact hb, by rw [hg]; exact hp, ht, hf, fun j => ?_⟩
  obtain ⟨hgr, hs⟩ := d.enforceGrants_slot g b j
  have hcode : (e.snapshot g).cmpCode g j b.grant[j] = d.cmpCode g j b.grant[j] :=
    Dev.cmpCode_congr (hi'.trans (hi.trans hinf)) g j _
  rw [hslot, hcode, show (e.snapshot g).mot (motAt g j) = e.mot (motAt g j) by unfold Dev.mot; rw [hmot], hm, hw]
  exact ⟨hgr, hs⟩

/-! ### The steps of a frame's work, once more -/

theorem Dev.frameForce_keeps (d : Dev) (g : GroupIx) :
    (d.frameForce g).words = d.words ∧ (d.frameForce g).groups = d.groups ∧ (d.frameForce g).prisms = d.prisms := by
  have hen : ∀ l : List MotorIx, (d.each l Dev.henFrame).words = d.words ∧ (d.each l Dev.henFrame).groups = d.groups ∧
      (d.each l Dev.henFrame).prisms = d.prisms := fun l =>
    Dev.each_inv (P := fun e => e.words = d.words ∧ e.groups = d.groups ∧ e.prisms = d.prisms) l d ⟨rfl, rfl, rfl⟩
      (fun e m h => by unfold Dev.henFrame; split <;> exact h)
  exact hen (motsOf g)

/-- Books that come in force leave the arrays, and the words outside the arbiters. -/
theorem Dev.frameGrants_keeps (d : Dev) (g : GroupIx) (pend : Option Books) :
    (d.frameGrants g pend).prisms = d.prisms ∧
      ∀ a, ¬ (0x6000 ≤ a ∧ a < 0x6400) → (d.frameGrants g pend).w a = d.w a := by
  cases pend with
  | none => exact ⟨rfl, fun _ _ => rfl⟩
  | some b =>
    obtain ⟨-, hp, -, hw⟩ := d.enforceGrants_keeps g b
    obtain ⟨-, hp', -, hw', -⟩ := (d.enforceGrants g b).clearPend_keeps g
    rw [← Dev.frameGrants_some] at hp' hw'
    exact ⟨hp'.trans hp, fun a ha => (hw' a).trans (hw a ha)⟩

theorem Dev.newCarriers_groups (d : Dev) (g : GroupIx) (per : Nat) : (d.newCarriers g per).groups = d.groups :=
  Dev.each_inv (P := fun e => e.groups = d.groups) _ _ rfl (fun e m h => by split <;> exact h)

/-- A frame opens: what changes of the group, and that the other groups stand. -/
theorem Dev.openFrame_grp (d : Dev) (g : GroupIx) (ended : Bool) :
    ((d.openFrame g ended).grp g).running = (d.grp g).running ∧ ((d.openFrame g ended).grp g).frameAt = (d.grp g).frameAt ∧
      ((d.openFrame g ended).grp g).fcnt = (d.grp g).fcnt + 1 ∧
      ((d.openFrame g ended).grp g).period = clampNat 4000 25000 (d.uw (aGrp g 0)) ∧
      ((d.openFrame g ended).grp g).books = (d.grp g).books ∧ ∀ o, o ≠ g → (d.openFrame g ended).grp o = d.grp o := by
  have hc : ∀ o, (if clampNat 4000 25000 (d.uw (aGrp g 0)) ≠ (d.grp g).period && ended then
      d.newCarriers g (clampNat 4000 25000 (d.uw (aGrp g 0))) else d).grp o = d.grp o := fun o => by
    split
    · unfold Dev.grp
      rw [Dev.newCarriers_groups]
    · rfl
  unfold Dev.openFrame
  dsimp only
  rw [Dev.onGrp_grp, hc g]
  exact ⟨rfl, rfl, rfl, rfl, rfl, fun o ho => (Dev.onGrp_grp_ne _ _ ho).trans (hc o)⟩

theorem Dev.openFrame_reads (d : Dev) (g : GroupIx) (ended : Bool) :
    (d.openFrame g ended).words = d.words ∧ (d.openFrame g ended).inForce = d.inForce ∧ (d.openFrame g ended).prisms = d.prisms := by
  unfold Dev.openFrame
  dsimp only
  split
  · exact Dev.each_inv (P := fun e => e.words = d.words ∧ e.inForce = d.inForce ∧ e.prisms = d.prisms) _ _ ⟨rfl, rfl, rfl⟩
      (fun e m h => by split <;> exact h)
  · exact ⟨rfl, rfl, rfl⟩

/-- After the grants of a frame are shown, the rest of its work leaves the timebases, the arbiters and the counts. -/
theorem Dev.frameWork_frames (d : Dev) (g : GroupIx) (ended : Bool) :
    (d.frameWork g ended).watched .frames =
      (((((d.openFrame g ended).accFrame g ended).frameForce g).frameGrants g (d.grp g).pend).snapshot g).watched .frames := by
  rw [Dev.frameWork_eq, Dev.watched_driveGroup, Dev.watched_each _ _ _ (fun e m => e.watched_motorFrame m _ (by simp)),
    Dev.watched_frameScan]

theorem Dev.tb_frameWork (d : Dev) (g : GroupIx) (ended : Bool) : (d.frameWork g ended).tb = (d.openFrame g ended).tb := by
  rw [Dev.frameWork_eq]
  refine (Dev.tb_driveGroup _ g).trans ((Dev.tb_each _ _ (fun e m => e.tb_motorFrame m _) _).trans ?_)
  refine ((Dev.tb_seqFrame _ g).trans (Dev.tb_supFrame _ g ended)).trans ?_
  refine (Dev.tb_each _ _ (fun e m => (Dev.tb_fbCopy _ _).trans (e.tb_absStart _)) _).trans ((Dev.tb_snapshot _ g).trans ?_)
  refine Eq.trans ?_ ((Dev.tb_of_groups (Dev.frameForce_keeps _ g).2.1).trans (Dev.tb_accFrame _ g ended))
  unfold Dev.frameGrants
  split
  · exact (Dev.tb_onGrp _ g _ (by intro x; rfl)).trans (Dev.tb_enforceGrants _ g _)
  · rfl

end Sys2Proof.Machine
end

section
/-! The end of a frame and the frame start (R19, R22 to R29). -/

namespace Sys2Proof.Machine

open Sys2Proof

/-- The running frame of group g ends: its carriers do, and the timebase is at tick 0. -/
def Dev.endFrame (d : Dev) (g : GroupIx) : Dev :=
  (d.each (motsOf g) Dev.carrierEnds).onGrp g (fun x => { x with frameAt := d.cycles })

theorem Dev.watched_carrierEnds {w : Watch} (d : Dev) (m : MotorIx) : (d.carrierEnds m).watched w = d.watched w :=
  d.watched_onMot_of_seen m _ (fun _ => Motor.seen_ite rfl rfl)

theorem Dev.watched_endFrame {w : Watch} (d : Dev) (g : GroupIx) : (d.endFrame g).watched w = d.watched w :=
  (Dev.watched_onGrp _ g _ (by intro _ x; rfl)).trans (d.watched_each _ _ (fun e m => e.watched_carrierEnds m))

theorem Dev.endFrame_core (d : Dev) (g : GroupIx) (m : MotorIx) : ((d.endFrame g).mot m).core = (d.mot m).core :=
  Dev.core_of_watched (d.watched_endFrame g)

theorem Dev.carriersEnd_keeps (d : Dev) (l : List MotorIx) :
    (d.each l Dev.carrierEnds).words = d.words ∧ (d.each l Dev.carrierEnds).inForce = d.inForce ∧
      (d.each l Dev.carrierEnds).prisms = d.prisms ∧ (d.each l Dev.carrierEnds).groups = d.groups :=
  Dev.each_inv (P := fun e => e.words = d.words ∧ e.inForce = d.inForce ∧ e.prisms = d.prisms ∧ e.groups = d.groups) l d
    ⟨rfl, rfl, rfl, rfl⟩ (fun _ _ h => h)

theorem Dev.endFrame_reads (d : Dev) (g : GroupIx) :
    (d.endFrame g).words = d.words ∧ (d.endFrame g).inForce = d.inForce ∧ (d.endFrame g).prisms = d.prisms := by
  obtain ⟨hw, hi, hp, -⟩ := d.carriersEnd_keeps (motsOf g)
  exact ⟨hw, hi, hp⟩

theorem Dev.endFrame_grp (d : Dev) (g : GroupIx) :
    (d.endFrame g).grp g = { d.grp g with frameAt := d.cycles } ∧ ∀ o, o ≠ g → (d.endFrame g).grp o = d.grp o := by
  obtain ⟨-, -, -, hg⟩ := d.carriersEnd_keeps (motsOf g)
  have hgrp : ∀ o, (d.each (motsOf g) Dev.carrierEnds).grp o = d.grp o := fun o => by unfold Dev.grp; rw [hg]
  unfold Dev.endFrame
  rw [Dev.onGrp_grp, hgrp]
  exact ⟨rfl, fun o ho => (Dev.onGrp_grp_ne _ _ ho).trans (hgrp o)⟩

theorem Dev.frameStart_eq {d : Dev} {g : GroupIx} (hr : d.runs = true) (hg : (d.grp g).running = true)
    (ht : (d.grp g).frameAt + (d.grp g).period ≤ d.cycles) :
    d.frameStart g = if d.bit (aGrp g 1) 0 then (d.endFrame g).frameWork g true else (d.endFrame g).stopGroup g := by
  have hbit : (d.endFrame g).bit (aGrp g 1) 0 = d.bit (aGrp g 1) 0 :=
    Dev.bit_congr (Dev.w_of_words (d.endFrame_reads g).1 _) 0
  rw [← hbit]
  unfold Dev.frameStart
  dsimp only
  rw [if_pos (by rw [hr, hg, decide_eq_true ht]; rfl)]
  rfl

theorem Dev.frameStart_early {d : Dev} {g : GroupIx} (ht : d.cycles < (d.grp g).frameAt + (d.grp g).period) :
    d.frameStart g = d := by
  unfold Dev.frameStart
  dsimp only
  rw [decide_eq_false (by omega), Bool.and_false]
  rfl

/-! ### A frame start with RUN at 1 -/

/-- The group after the work of a frame, and the other groups' timebases (R22). -/
theorem Dev.frameWork_timebase (d : Dev) (g : GroupIx) (ended : Bool) :
    (((d.frameWork g ended).grp g).running = (d.grp g).running ∧ ((d.frameWork g ended).grp g).frameAt = (d.grp g).frameAt ∧
      ((d.frameWork g ended).grp g).fcnt = (d.grp g).fcnt + 1 ∧
      ((d.frameWork g ended).grp g).period = clampNat 4000 25000 (d.uw (aGrp g 0))) ∧
    ∀ o, o ≠ g → ((d.frameWork g ended).grp o).running = (d.grp o).running ∧
      ((d.frameWork g ended).grp o).frameAt = (d.grp o).frameAt ∧ ((d.frameWork g ended).grp o).fcnt = (d.grp o).fcnt := by
  obtain ⟨hrun, hat, hcnt, hper, -, hne⟩ := d.openFrame_grp g ended
  have htb : ∀ o, (d.frameWork g ended).tb o = (d.openFrame g ended).tb o := congrFun (d.tb_frameWork g ended)
  simp only [Dev.tb, Prod.mk.injEq] at htb
  obtain ⟨hr, ha, hp, hc⟩ := htb g
  refine ⟨⟨hr.trans hrun, ha.trans hat, hc.trans hcnt, hp.trans hper⟩, fun o ho => ?_⟩
  obtain ⟨hr, ha, -, hc⟩ := htb o
  rw [hne o ho] at hr ha hc
  exact ⟨hr, ha, hc⟩

/-- A motor in RUN before and after the work of a frame took its duty (R24). -/
theorem Dev.frameWork_applied (d : Dev) (g : GroupIx) (ended : Bool) {m : MotorIx} (hm : grpOf m = g)
    (h : (d.mot m).state = .run) (h' : ((d.frameWork g ended).mot m).state = .run) :
    (d.mot m).Applied ((d.frameWork g ended).mot m) (d.grp g).deadline := by
  rw [Dev.frameWork_eq] at h' ⊢
  generalize hb : ((((((d.openFrame g ended).accFrame g ended).frameForce g).frameGrants g (d.grp g).pend).snapshot g).frameScan
    g ended) = b at h' ⊢
  have hbegin : b.watched (.engine m) = d.watched (.engine m) := by
    rw [← hb, Dev.watched_frameScan, Dev.watched_snapshot _ g rfl, Dev.watched_frameGrants _ g _ rfl, Dev.watched_frameForce _ g rfl,
      Dev.watched_accFrame _ g _ rfl, Dev.watched_openFrame]
  have hcore := Dev.core_of_watched hbegin
  have hdrive := Dev.core_of_watched (Dev.watched_driveGroup (w := .engine m)
    (b.each (motsOf g) (fun e n => e.motorFrame n (d.grp g).deadline)) g)
  rw [Motor.state_of_core hdrive] at h'
  exact (Dev.motorFrames_applied _ (motsOf_nodup g) b _ (mem_motsOf.mpr hm) ((Motor.state_of_core hcore).trans h) h').congr
    hcore.symm hdrive

/-- Books that wait at a frame start are in force after it (R143). -/
theorem Dev.frameWork_grants (d : Dev) (g : GroupIx) (ended : Bool) {b : Books} (h : (d.grp g).pend = some b) :
    (d.frameWork g ended).GrantsInForce g b := by
  have hframes := d.frameWork_frames g ended
  rw [h] at hframes
  exact (Dev.grantsInForce_snapshot _ g b).congr hframes

theorem Dev.frameWork_books (d : Dev) (g : GroupIx) (ended : Bool) (h : (d.grp g).pend = none) :
    ((d.frameWork g ended).grp g).books = (d.grp g).books := by
  obtain ⟨-, hbooks⟩ := Dev.books_of_frames (d.frameWork_frames g ended) g
  obtain ⟨-, -, -, -, hopen, -⟩ := d.openFrame_grp g ended
  obtain ⟨-, -, hacc⟩ := (d.openFrame g ended).accFrame_sameReads g ended
  obtain ⟨-, hforce, -⟩ := ((d.openFrame g ended).accFrame g ended).frameForce_keeps g
  obtain ⟨-, -, hsnap, -⟩ := (((d.openFrame g ended).accFrame g ended).frameForce g).snapshot_keeps g
  rw [hbooks, h, ← hopen]
  unfold Dev.grp
  rw [← hacc, ← hforce, ← hsnap]
  rfl

/-- Counts that have not closed when a frame ends show, mark their readers, and start anew (R28). -/
theorem Dev.frameWork_missed (d : Dev) (g : GroupIx) (hon : d.prmOn g = true) (hrdy : d.domRdy (prismDom g) = true) {a : Fin 64}
    (hf : (d.acc g a).frame = true) (hc : (d.acc g a).closed = false) (hw : (d.acc g a).waits = false) :
    (d.frameWork g true).bit (aPrm g 2) 0 = true ∧ ((d.frameWork g true).acc g a).n = 0 ∧
      ∀ m, grpOf m = g → d.readsAcc m a.1 = true → (d.frameWork g true).bit (aGrp g 4) (12 + (slotOf m).1) = true := by
  obtain ⟨hwords, hforce, hprisms⟩ := d.openFrame_reads g true
  have hacc : (d.openFrame g true).acc g a = d.acc g a := by unfold Dev.acc Dev.prm; rw [hprisms]
  have hbit : ∀ b i, (d.openFrame g true).bit b i = d.bit b i := fun b i =>
    Dev.bit_congr (Dev.w_of_words hwords b) i
  obtain ⟨hshow, hn, hlate⟩ := Dev.accFrame_marks (d := d.openFrame g true) (p := g) (a := a) ((hbit _ _).trans hon)
    ((hbit _ _).trans hrdy) (by rw [hacc, hf]) (by rw [hacc, hc]) (by rw [hacc, hw])
  have hreads : ∀ m, (d.openFrame g true).readsAcc m a.1 = d.readsAcc m a.1 := fun m =>
    Dev.readsAcc_congr a.1 (Motor.state_of_core (Dev.core_of_watched (d.watched_openFrame g true))) hforce
  have hframes := d.frameWork_frames g true
  generalize (d.openFrame g true).accFrame g true = e at hshow hn hlate hframes
  obtain ⟨hw1, -, hp1⟩ := e.frameForce_keeps g
  obtain ⟨hp2, hw2⟩ := (e.frameForce g).frameGrants_keeps g (d.grp g).pend
  obtain ⟨-, hp3, -, -, -, hw3⟩ := ((e.frameForce g).frameGrants g (d.grp g).pend).snapshot_keeps g
  have hw : ∀ b, ¬ (0x6000 ≤ b ∧ b < 0x6400) →
      (((e.frameForce g).frameGrants g (d.grp g).pend).snapshot g).w b = e.w b := fun b hb =>
    (hw3 b hb).trans ((hw2 b hb).trans (Dev.w_of_words hw1 b))
  refine ⟨?_, ?_, fun m hm hr => ?_⟩
  · rw [Dev.missed_of_frames hframes, Dev.bit_congr (hw _ (by unfold aPrm; omega))]
    exact hshow
  · rw [Dev.acc_of_frames hframes]
    unfold Dev.acc Dev.prm
    rw [hp3, hp2, hp1]
    exact hn
  · rw [Dev.bit_congr ((Dev.w_of_frames hframes (isBooks_aGrp g (by decide))).trans (hw _ (by unfold aGrp; omega)))]
    exact hlate m hm ((hreads m).trans hr)

end Sys2Proof.Machine
end

section
/-! A frame start with RUN at 0, and the apply deadline (R26, R28, R33). -/

namespace Sys2Proof.Machine

open Sys2Proof

/-! ### The group stops (R33) -/

/-- A motor of a group that stops (R33, R111). -/
def Dev.stopMotor (d : Dev) (m : MotorIx) : Dev := ((d.toIdle m).clearLoop m).showFrame m

theorem Dev.stopGroup_eq (d : Dev) (g : GroupIx) :
    d.stopGroup g = ((((((((d.onGrp g (fun x => { x with running := false, deadline := false })).accFrame g true).supFrame g true).seqStopped
      g).each (motsOf g) Dev.stopMotor)).zeroGrants g).snapshot g).driveGroup g := rfl

theorem Dev.stopMotor_state (d : Dev) (m n : MotorIx) :
    ((d.stopMotor m).mot n).state = if n = m then .idle else (d.mot n).state := by
  have hshow : (((d.toIdle m).clearLoop m).showFrame m).watched (.engine n) = ((d.toIdle m).clearLoop m).watched (.engine n) :=
    Dev.watched_showFrame _ m
  have hclear : (((d.toIdle m).clearLoop m).mot n).state = ((d.toIdle m).mot n).state := by
    unfold Dev.clearLoop
    dsimp only
    by_cases h : n = m
    · subst h
      simp
    · simp [Dev.onMot_mot_ne _ _ h]
  unfold Dev.stopMotor
  rw [Motor.state_of_core (Dev.core_of_watched hshow), hclear]
  split
  · rename_i h
    subst h
    exact d.toIdle_state n
  · rename_i h
    exact Motor.state_of_core (Dev.core_of_watched (d.watched_enter m .idle (fun e => h (Option.some.inj e))))

theorem Dev.stopMotors_state (d : Dev) (g : GroupIx) (n : MotorIx) :
    ((d.each (motsOf g) Dev.stopMotor).mot n).state = if grpOf n = g then .idle else (d.mot n).state := by
  split
  · rename_i h
    refine Dev.each_once (a := n) (I := fun _ => True) (P := fun e => (e.mot n).state = .idle) _ (motsOf_nodup g) (mem_motsOf.mpr h) d
      trivial (fun _ _ _ _ => trivial) (fun e _ => ?_) (fun e c hc he => ?_)
    · rw [Dev.stopMotor_state, if_pos rfl]
    · rw [Dev.stopMotor_state, if_neg (Ne.symm hc), he]
  · rename_i h
    refine Dev.each_inv_of_ne (a := n) (P := fun e => (e.mot n).state = (d.mot n).state) _ d rfl (fun hn => h (mem_motsOf.mp hn))
      (fun e c hc he => ?_)
    rw [Dev.stopMotor_state, if_neg (Ne.symm hc), he]

theorem Dev.seqStopped_motors (d : Dev) (p : GroupIx) : (d.seqStopped p).motors = d.motors := by
  unfold Dev.seqStopped
  split <;> rfl

/-- A group that stops does not run, its motors are in IDLE, and the others stand (R33). -/
theorem Dev.stopGroup_stops (d : Dev) (g : GroupIx) :
    ((d.stopGroup g).grp g).running = false ∧
      ∀ n, ((d.stopGroup g).mot n).state = if grpOf n = g then .idle else (d.mot n).state := by
  rw [Dev.stopGroup_eq]
  generalize hd : d.onGrp g (fun x => { x with running := false, deadline := false }) = e
  constructor
  · have htb : ∀ f : Dev, f.tb = e.tb → (f.grp g).running = false := fun f hf => by
      have hrun : (f.tb g).1 = (e.tb g).1 := by rw [hf]
      refine hrun.trans ?_
      rw [← hd]
      simp [Dev.tb]
    refine htb _ ((Dev.tb_driveGroup _ g).trans ((Dev.tb_snapshot _ g).trans ((Dev.tb_zeroGrants _ g).trans ?_)))
    refine (Dev.tb_each _ _ (fun e m => (Dev.tb_showFrame _ m).trans ((Dev.tb_clearLoop _ m).trans (e.tb_toIdle m))) _).trans ?_
    exact (Dev.tb_seqStopped _ g).trans ((Dev.tb_supFrame _ g true).trans (e.tb_accFrame g true))
  · intro n
    have hbegin : ((((e.accFrame g true).supFrame g true).seqStopped g).mot n).state = (d.mot n).state := by
      obtain ⟨hm, -⟩ := e.accFrame_sameReads g true
      have hsup := Motor.state_of_core (Dev.core_of_watched (Dev.watched_supFrame (w := .engine n) (e.accFrame g true) g true))
      have hseq := Dev.seqStopped_motors ((e.accFrame g true).supFrame g true) g
      unfold Dev.mot at hsup ⊢
      rw [hseq, hsup, hm, ← hd]
      rfl
    generalize (((e.accFrame g true).supFrame g true).seqStopped g) = f at hbegin
    have hend : ((((f.each (motsOf g) Dev.stopMotor).zeroGrants g).snapshot g).driveGroup g).mst = (f.each (motsOf g) Dev.stopMotor).mst :=
      (Dev.mst_driveGroup _ g).trans ((Dev.mst_snapshot _ g).trans (Dev.mst_zeroGrants _ g))
    refine (congrFun hend n).trans ?_
    rw [← hbegin]
    exact f.stopMotors_state g n

/-! ### The apply deadline (R26, R28) -/

/-- The apply deadline of one motor. -/
def Dev.deadlineMotor (d : Dev) (g : GroupIx) (m : MotorIx) : Dev :=
  let d := if d.member m && ((d.mot m).out.isNone || !(d.mot m).loopRun) then
      d.setB (aGrp g 4) (8 + (slotOf m).1) else d
  match (d.mot m).out with
  | some o => d.onMot m (fun x => { x with ready := some o, out := none })
  | none => d

theorem Dev.applyDeadline_eq {d : Dev} {g : GroupIx} (hr : d.runs = true) (hg : (d.grp g).running = true)
    (hd : (d.grp g).deadline = false) (ht : (d.grp g).frameAt + (d.grp g).period ≤ d.cycles + 16) :
    d.applyDeadline g = (d.onGrp g (fun x => { x with deadline := true })).each (motsOf g) (fun e m => e.deadlineMotor g m) := by
  unfold Dev.applyDeadline
  dsimp only
  rw [if_pos (by rw [hr, hg, hd, decide_eq_true ht]; rfl)]
  rfl

/-- What the apply deadline makes of a motor: a duty that has been delivered is ready (R26). -/
def Motor.delivered (x : Motor) : Motor :=
  match x.out with
  | some o => { x with ready := some o, out := none }
  | none => x

theorem Dev.deadlineMotor_mark (d : Dev) (g : GroupIx) (m : MotorIx) :
    let e := if d.member m && ((d.mot m).out.isNone || !(d.mot m).loopRun) then d.setB (aGrp g 4) (8 + (slotOf m).1) else d
    e.motors = d.motors ∧ e.groups = d.groups ∧ e.part = d.part ∧ (∀ b i, d.bit b i = true → e.bit b i = true) ∧
      (d.member m = true → (d.mot m).out = none ∨ (d.mot m).loopRun = false → e.bit (aGrp g 4) (8 + (slotOf m).1) = true) := by
  dsimp only
  split
  · exact ⟨rfl, rfl, rfl, fun b i h => Dev.bit_setB _ _ _ _ _ h, fun _ _ => Dev.bit_setB_self _ _ (by omega)⟩
  · rename_i h
    refine ⟨rfl, rfl, rfl, fun _ _ => id, fun hm ho => absurd ?_ h⟩
    rw [hm]
    obtain ho | ho := ho <;> simp [ho]

theorem Dev.deadlineMotor_spec (d : Dev) (g : GroupIx) (m : MotorIx) :
    (d.deadlineMotor g m).mot m = (d.mot m).delivered ∧ (∀ n, n ≠ m → (d.deadlineMotor g m).mot n = d.mot n) ∧
      (d.deadlineMotor g m).groups = d.groups ∧ (d.deadlineMotor g m).part = d.part ∧
      (∀ b i, d.bit b i = true → (d.deadlineMotor g m).bit b i = true) ∧
      (d.member m = true → (d.mot m).out = none ∨ (d.mot m).loopRun = false →
        (d.deadlineMotor g m).bit (aGrp g 4) (8 + (slotOf m).1) = true) := by
  obtain ⟨hm, hg, hp, hb, hl⟩ := d.deadlineMotor_mark g m
  unfold Dev.deadlineMotor
  dsimp only at hm hg hp hb hl ⊢
  generalize (if d.member m && ((d.mot m).out.isNone || !(d.mot m).loopRun) then d.setB (aGrp g 4) (8 + (slotOf m).1) else d) = e
    at hm hg hp hb hl ⊢
  have hmot : ∀ n, e.mot n = d.mot n := fun n => by unfold Dev.mot; rw [hm]
  rw [hmot]
  unfold Motor.delivered
  cases ho : (d.mot m).out <;> rw [ho] at hl
  case none => exact ⟨hmot m, fun n _ => hmot n, hg, hp, hb, hl⟩
  case some o =>
    refine ⟨?_, fun n hn => ?_, hg, hp, hb, hl⟩
    · rw [Dev.onMot_mot, hmot]
    · rw [Dev.onMot_mot_ne _ _ hn, hmot]

theorem Dev.member_congr {d e : Dev} {m : MotorIx} (hp : e.part = d.part) (hm : (e.mot m).state = (d.mot m).state) :
    e.member m = d.member m := by
  unfold Dev.member Dev.hasMot
  rw [hp, hm]

theorem Dev.deadlineMotors_spec (d : Dev) (g : GroupIx) :
    let e := d.each (motsOf g) (fun e m => e.deadlineMotor g m)
    e.groups = d.groups ∧ (∀ m, grpOf m ≠ g → e.mot m = d.mot m) ∧
      ∀ m, grpOf m = g → e.mot m = (d.mot m).delivered ∧
        (d.member m = true → (d.mot m).out = none ∨ (d.mot m).loopRun = false → e.bit (aGrp g 4) (8 + (slotOf m).1) = true) := by
  refine ⟨?_, fun m hm => ?_, fun m hm => ?_⟩
  · exact Dev.each_inv (P := fun e => e.groups = d.groups) _ d rfl (fun e m h => (e.deadlineMotor_spec g m).2.2.1.trans h)
  · exact Dev.each_inv_of_ne (a := m) (P := fun e => e.mot m = d.mot m) _ d rfl (fun h => hm (mem_motsOf.mp h))
      (fun e c hc h => ((e.deadlineMotor_spec g c).2.1 m hc.symm).trans h)
  · refine Dev.each_once (a := m) (I := fun e => e.mot m = d.mot m ∧ e.part = d.part)
      (P := fun e => e.mot m = (d.mot m).delivered ∧
        (d.member m = true → (d.mot m).out = none ∨ (d.mot m).loopRun = false → e.bit (aGrp g 4) (8 + (slotOf m).1) = true))
      _ (motsOf_nodup g) (mem_motsOf.mpr hm) d ⟨rfl, rfl⟩ (fun e c hc ⟨h, hp⟩ => ?_) (fun e ⟨h, hp⟩ => ?_) (fun e c hc ⟨h, hb⟩ => ?_)
    · obtain ⟨-, hne, -, hpart, -⟩ := e.deadlineMotor_spec g c
      exact ⟨(hne m hc.symm).trans h, hpart.trans hp⟩
    · obtain ⟨hself, -, -, -, -, hlate⟩ := e.deadlineMotor_spec g m
      rw [h] at hself hlate
      exact ⟨hself, fun hmem => hlate ((Dev.member_congr hp (by rw [h])).trans hmem)⟩
    · obtain ⟨-, hne, -, -, hbits, -⟩ := e.deadlineMotor_spec g c
      exact ⟨(hne m hc.symm).trans h, fun hmem ho => hbits _ _ (hb hmem ho)⟩

end Sys2Proof.Machine
end

section
/-! The grant point of a frame (R27, R134, R135). -/

namespace Sys2Proof.Machine

open Sys2Proof

/-! ### What leads to the requests: the pool of the cycle, and re-rating (R133, R440) -/

theorem Dev.iw_enforce0 (d : Dev) (lo hi a : Nat) : (d.enforce0 lo hi).iw a = if lo ≤ a ∧ a < hi then d.w0 a else d.iw a := by
  show Store.get resetWord (d.inForce.copy d.cyc0 lo hi) a = _
  rw [Store.get_copy]
  split
  · rfl
  · rw [if_pos (by omega)]
    rfl

/-- `e` has the motors of `d`, the words but RRF, the values of the cycle's begin, and those in force of the arbiters; its groups
differ at most in when re-rating ends. -/
structure Dev.SameDemand (d e : Dev) : Prop where
  motors : e.motors = d.motors
  part : e.part = d.part
  cyc0 : e.cyc0 = d.cyc0
  words : ∀ a, a ≠ 0xE002 → e.w a = d.w a
  force : ∀ a, a < 0xE000 → e.iw a = d.iw a
  groups : ∀ o, ∃ t, e.grp o = { d.grp o with rrClr := t }

theorem Dev.SameDemand.refl (d : Dev) : d.SameDemand d :=
  ⟨rfl, rfl, rfl, fun _ _ => rfl, fun _ _ => rfl, fun o => ⟨(d.grp o).rrClr, rfl⟩⟩

theorem Dev.SameDemand.trans {c d e : Dev} (h : c.SameDemand d) (h' : d.SameDemand e) : c.SameDemand e where
  motors := h'.motors.trans h.motors
  part := h'.part.trans h.part
  cyc0 := h'.cyc0.trans h.cyc0
  words a ha := (h'.words a ha).trans (h.words a ha)
  force a ha := (h'.force a ha).trans (h.force a ha)
  groups o := by
    obtain ⟨t, ht⟩ := h.groups o
    obtain ⟨t', ht'⟩ := h'.groups o
    exact ⟨t', by rw [ht', ht]⟩

theorem Dev.sameDemand_setRr (d : Dev) (g : GroupIx) (on : Bool) : d.SameDemand (d.setRr g on) := by
  unfold Dev.setRr
  split
  · exact .refl d
  · exact { Dev.SameDemand.refl d with words := fun a ha => d.w_put_ne _ ha }

theorem Dev.sameDemand_setRrClr (d : Dev) (g : GroupIx) (t : Option Nat) : d.SameDemand (d.setRrClr g t) := by
  refine { Dev.SameDemand.refl d with groups := fun o => ?_ }
  unfold Dev.setRrClr
  by_cases h : o = g
  · subst h
    exact ⟨t, Dev.onGrp_grp _ _ _⟩
  · exact ⟨(d.grp o).rrClr, Dev.onGrp_grp_ne _ _ h⟩

theorem Dev.sameDemand_syncRr (d : Dev) : d.SameDemand d.syncRr :=
  Dev.each_inv (P := fun e => d.SameDemand e) _ _ (.refl d) (fun e g h => h.trans (by
    split
    · exact (e.sameDemand_setRrClr g _).trans (Dev.sameDemand_setRr _ g _)
    · split
      · exact (e.sameDemand_setRrClr g _).trans (Dev.sameDemand_setRr _ g _)
      · split
        · exact e.sameDemand_setRrClr g _
        · exact .refl e))

theorem Dev.sameDemand_enforce0 (d : Dev) {lo : Nat} (hi : Nat) (h : 0xE000 ≤ lo) : d.SameDemand (d.enforce0 lo hi) :=
  { Dev.SameDemand.refl d with force := fun a ha => by rw [Dev.iw_enforce0, if_neg (by omega)] }

theorem Dev.sameDemand_rerateNow (d : Dev) : d.SameDemand d.rerateNow := by
  unfold Dev.rerateNow
  refine Dev.SameDemand.trans ?_ (Dev.sameDemand_syncRr _)
  split
  · exact .refl d
  · exact d.sameDemand_enforce0 _ (by decide)

/-! ### The requests (R27, R135) -/

/-- What the grant point takes of a motor: its request, where it has delivered one (R135). -/
def Motor.asked (x : Motor) : Motor :=
  match x.req with
  | some r => { x with lastReq := r, req := none }
  | none => x

/-- The request of one slot. -/
def Dev.takeSlot (d : Dev) (g j : Fin 4) : Dev :=
  let m := motAt g j
  let d := if d.member m && !(d.mot m).loopRun then d.setB (aGrp g 4) (4 + j.1) else d
  match (d.mot m).req with
  | some r => d.onMot m (fun x => { x with lastReq := r, req := none })
  | none => d

theorem Dev.takeRequests_eq (d : Dev) (g : GroupIx) : d.takeRequests g = d.each (List.finRange 4) (fun e j => e.takeSlot g j) := rfl

theorem Dev.takeSlot_mark (d : Dev) (g j : Fin 4) :
    let e := if d.member (motAt g j) && !(d.mot (motAt g j)).loopRun then d.setB (aGrp g 4) (4 + j.1) else d
    e.motors = d.motors ∧ e.groups = d.groups ∧ e.part = d.part ∧ e.cyc0 = d.cyc0 ∧ e.inForce = d.inForce ∧
      (∀ a, a ≠ aGrp g 4 → e.w a = d.w a) ∧ (∀ b i, d.bit b i = true → e.bit b i = true) ∧
      (d.member (motAt g j) = true → (d.mot (motAt g j)).loopRun = false → e.bit (aGrp g 4) (4 + j.1) = true) := by
  dsimp only
  split
  · exact ⟨rfl, rfl, rfl, rfl, rfl, fun a ha => d.w_put_ne _ ha, fun b i h => Dev.bit_setB _ _ _ _ _ h,
      fun _ _ => Dev.bit_setB_self _ _ (by omega)⟩
  · rename_i h
    refine ⟨rfl, rfl, rfl, rfl, rfl, fun _ _ => rfl, fun _ _ => id, fun hm ho => absurd ?_ h⟩
    rw [hm, ho]
    rfl

theorem Dev.takeSlot_spec (d : Dev) (g j : Fin 4) :
    (d.takeSlot g j).mot (motAt g j) = (d.mot (motAt g j)).asked ∧
      (∀ n, n ≠ motAt g j → (d.takeSlot g j).mot n = d.mot n) ∧
      ((d.takeSlot g j).groups = d.groups ∧ (d.takeSlot g j).part = d.part ∧ (d.takeSlot g j).cyc0 = d.cyc0 ∧
        (d.takeSlot g j).inForce = d.inForce ∧ ∀ a, a ≠ aGrp g 4 → (d.takeSlot g j).w a = d.w a) ∧
      (∀ b i, d.bit b i = true → (d.takeSlot g j).bit b i = true) ∧
      (d.member (motAt g j) = true → (d.mot (motAt g j)).loopRun = false →
        (d.takeSlot g j).bit (aGrp g 4) (4 + j.1) = true) := by
  obtain ⟨hm, hg, hp, hc, hi, hw, hb, hl⟩ := d.takeSlot_mark g j
  unfold Dev.takeSlot
  dsimp only at hm hg hp hc hi hw hb hl ⊢
  generalize (if d.member (motAt g j) && !(d.mot (motAt g j)).loopRun then d.setB (aGrp g 4) (4 + j.1) else d) = e
    at hm hg hp hc hi hw hb hl ⊢
  have hmot : ∀ n, e.mot n = d.mot n := fun n => by unfold Dev.mot; rw [hm]
  rw [hmot]
  unfold Motor.asked
  cases (d.mot (motAt g j)).req
  case none => exact ⟨hmot _, fun n _ => hmot n, ⟨hg, hp, hc, hi, hw⟩, hb, hl⟩
  case some r =>
    refine ⟨?_, fun n hn => ?_, ⟨hg, hp, hc, hi, hw⟩, hb, hl⟩
    · rw [Dev.onMot_mot, hmot]
    · rw [Dev.onMot_mot_ne _ _ hn, hmot]

theorem Dev.takeRequests_keeps (d : Dev) (g : GroupIx) :
    (d.takeRequests g).groups = d.groups ∧ (d.takeRequests g).part = d.part ∧ (d.takeRequests g).cyc0 = d.cyc0 ∧
      (d.takeRequests g).inForce = d.inForce ∧ ∀ a, a ≠ aGrp g 4 → (d.takeRequests g).w a = d.w a := by
  rw [Dev.takeRequests_eq]
  refine Dev.each_inv (P := fun e => e.groups = d.groups ∧ e.part = d.part ∧ e.cyc0 = d.cyc0 ∧ e.inForce = d.inForce ∧
    ∀ a, a ≠ aGrp g 4 → e.w a = d.w a) _ d ⟨rfl, rfl, rfl, rfl, fun _ _ => rfl⟩ (fun e j ⟨h1, h2, h3, h4, h5⟩ => ?_)
  obtain ⟨-, -, ⟨hg, hp, hc, hi, hw⟩, -⟩ := e.takeSlot_spec g j
  exact ⟨hg.trans h1, hp.trans h2, hc.trans h3, hi.trans h4, fun a ha => (hw a ha).trans (h5 a ha)⟩

/-- Every slot's request is taken, and marked where it is not of this frame; the other groups stand. -/
theorem Dev.takeRequests_spec (d : Dev) (g : GroupIx) :
    (∀ m, grpOf m ≠ g → (d.takeRequests g).mot m = d.mot m) ∧
      ∀ j : Fin 4, (d.takeRequests g).mot (motAt g j) = (d.mot (motAt g j)).asked ∧
        (d.member (motAt g j) = true → (d.mot (motAt g j)).loopRun = false →
          (d.takeRequests g).bit (aGrp g 4) (4 + j.1) = true) := by
  rw [Dev.takeRequests_eq]
  constructor
  · intro m hm
    refine Dev.each_inv (P := fun e => e.mot m = d.mot m) _ d rfl (fun e j h => ?_)
    obtain ⟨-, hne, -⟩ := e.takeSlot_spec g j
    exact (hne m (fun hj => hm (by rw [hj, grpOf_motAt]))).trans h
  · intro j
    refine Dev.each_once (a := j) (I := fun e => e.mot (motAt g j) = d.mot (motAt g j) ∧ e.part = d.part)
      (P := fun e => e.mot (motAt g j) = (d.mot (motAt g j)).asked ∧
        (d.member (motAt g j) = true → (d.mot (motAt g j)).loopRun = false → e.bit (aGrp g 4) (4 + j.1) = true))
      _ (List.nodup_finRange 4) (List.mem_finRange j) d ⟨rfl, rfl⟩ (fun e c hc ⟨h, hp⟩ => ?_) (fun e ⟨h, hp⟩ => ?_)
      (fun e c hc ⟨h, hb⟩ => ?_)
    · obtain ⟨-, hne, ⟨-, hpart, -⟩, -⟩ := e.takeSlot_spec g c
      exact ⟨(hne _ (fun hj => hc (motAt_injective g hj).symm)).trans h, hpart.trans hp⟩
    · obtain ⟨hself, -, -, -, hlate⟩ := e.takeSlot_spec g j
      rw [h] at hself hlate
      exact ⟨hself, fun hmem => hlate ((Dev.member_congr hp (by rw [h])).trans hmem)⟩
    · obtain ⟨-, hne, -, hbits, -⟩ := e.takeSlot_spec g c
      exact ⟨(hne _ (fun hj => hc (motAt_injective g hj).symm)).trans h, fun hmem ho => hbits _ _ (hb hmem ho)⟩

theorem Motor.asked_state (x : Motor) : x.asked.state = x.state := by
  unfold Motor.asked
  split <;> rfl

/-! ### The books (R134, R136) -/

/-- `b` waits as the books of group g, over `d`: the motors, the group's other books and its late marks stand. -/
def Dev.BooksWait (d : Dev) (g : GroupIx) (b : Books) (e : Dev) : Prop :=
  e.motors = d.motors ∧ ((e.grp g).pend = some b ∧ (e.grp g).granted = (d.grp g).granted ∧ (e.grp g).floorsOnly = false ∧
    (e.grp g).books = (d.grp g).books) ∧ e.w (aGrp g 4) = d.w (aGrp g 4)

/-- Starvation of a slot leaves the books that wait (R149). -/
theorem Dev.BooksWait.starve {d e : Dev} {g : GroupIx} {b : Books} (h : d.BooksWait g b e) (j : Fin 4) (a : Ask) (grant : Nat) :
    d.BooksWait g b (e.starve g j a grant) := by
  obtain ⟨hm, ⟨hp, hg, hf, hb⟩, hw⟩ := h
  have hcnt : ∀ v, (e.inc (aSlot g j 5)).w (aGrp g v) = e.w (aGrp g v) ∨ ¬ v < 8 := fun v => by
    by_cases hv : v < 8
    · exact .inl (e.w_put_ne _ (by unfold aSlot aGrp; omega))
    · exact .inr hv
  have hslot := (hcnt 4).resolve_right (by decide)
  unfold Dev.starve
  dsimp only
  split
  · split
    · refine ⟨by simp [Dev.cause, hm], by simp [Dev.cause, hp, hg, hf, hb], ?_⟩
      rw [Dev.onGrp_w]
      unfold Dev.cause
      rw [Dev.raise_w, Dev.w_orW, if_neg (by unfold aCba aGrp; omega), hslot, hw]
    · exact ⟨by simp [hm], by simp [hp, hg, hf, hb], by rw [Dev.onGrp_w, hslot, hw]⟩
  · exact ⟨hm, by simp [hp, hg, hf, hb], hw⟩

/-- The module at the grant point of group g, as the arbiter has taken the requests (R135, R137). -/
def Dev.asking (d : Dev) (g : GroupIx) : Dev :=
  ((d.enforce0 (aCba g 0) (aCba g 0x40)).enforce0 (0xE009 + g.1) (0xE00A + g.1)).rerateNow.takeRequests g

theorem Dev.booksWait_put (d : Dev) (g : GroupIx) (b : Books) (rr flags : Word) :
    d.BooksWait g b (((d.put (aCba g 6) rr).put (aCba g 5) flags).onGrp g (fun x => { x with pend := some b, floorsOnly := false })) := by
  refine ⟨by simp, by simp, ?_⟩
  rw [Dev.onGrp_w, Dev.w_put_ne _ _ (by unfold aCba aGrp; omega), Dev.w_put_ne _ _ (by unfold aCba aGrp; omega)]

theorem Dev.BooksWait.cause {d e : Dev} {g : GroupIx} {b : Books} (h : d.BooksWait g b e) (m : Word) (i : Nat) :
    d.BooksWait g b (e.cause (aCba g 7) m i) := by
  obtain ⟨hm, hg, hw⟩ := h
  refine ⟨by simp [Dev.cause, hm], by simpa [Dev.cause] using hg, ?_⟩
  unfold Dev.cause
  rw [Dev.raise_w, Dev.w_orW, if_neg (by unfold aCba aGrp; omega), hw]

theorem Dev.BooksWait.ite {d x y : Dev} {g : GroupIx} {b : Books} {c : Prop} [Decidable c] (hx : d.BooksWait g b x)
    (hy : d.BooksWait g b y) : d.BooksWait g b (if c then x else y) := by split <;> assumption

/-- The arbiter leaves new books that wait, over the pool, reduced by the throttle (R134, R137, R147). -/
theorem Dev.grantPoint_books (d : Dev) (g : GroupIx) :
    ∃ b, b.total = (d.asking g).poolOf g * (if (d.asking g).throttled g then (d.asking g).ifld (aCba g 1) 15 8 else 256) / 256 ∧
      (d.asking g).BooksWait g b (d.grantPoint g) := by
  unfold Dev.grantPoint Dev.asking
  dsimp only
  generalize ((d.enforce0 (aCba g 0) (aCba g 0x40)).enforce0 (0xE009 + g.1) (0xE00A + g.1)).rerateNow.takeRequests g = e
  have hput := fun b rr flags => e.booksWait_put g b rr flags
  refine ⟨_, ?_, .ite (.ite ((hput _ _ _).cause _ _) (hput _ _ _))
    (Dev.each_inv (P := fun f => e.BooksWait g _ f) _ _ (.ite ((hput _ _ _).cause _ _) (hput _ _ _)) (fun f j h => h.starve j _ _))⟩
  rfl

end Sys2Proof.Machine
end

section
/-! The statement on the frames of a group (R19 to R29, R133 to R147). -/

namespace Sys2Proof.Machine

open Sys2Proof

/-! ### The grant point (R133 to R137) -/

/-- What the arbiter asks over: the pool of the cycle, and the module but for the requests taken. -/
theorem Dev.asking_spec (d : Dev) (g : GroupIx) :
    ∃ e : Dev, d.asking g = e.takeRequests g ∧ e.motors = d.motors ∧ e.part = d.part ∧ e.cyc0 = d.cyc0 ∧
      (∀ a, a ≠ 0xE002 → e.w a = d.w a) ∧ (∀ o, o < 0x40 → e.iw (aCba g o) = d.w0 (aCba g o)) ∧
      ∃ t, e.grp g = { d.grp g with rrClr := t } := by
  have hpool := (d.enforce0 (aCba g 0) (aCba g 0x40)).sameDemand_enforce0 (lo := 0xE009 + g.1) (0xE00A + g.1) (by omega)
  have hall := hpool.trans (Dev.sameDemand_rerateNow _)
  refine ⟨_, rfl, hall.motors, hall.part, hall.cyc0, hall.words, fun o ho => ?_, hall.groups g⟩
  rw [hall.force _ (by unfold aCba; omega), Dev.iw_enforce0, if_pos (by unfold aCba; omega)]

theorem Dev.asking_pool (d : Dev) (g : GroupIx) (h : bitOf (d.w0 0xE002) (8 + g.1) = false) :
    (d.asking g).poolOf g = bits (d.w0 (aCba g 0)) 11 0 ∧ (d.asking g).ifld (aCba g 1) 15 8 = bits (d.w0 (aCba g 1)) 15 8 ∧
      (d.asking g).throttled g = d.throttled g := by
  obtain ⟨e, he, -, -, hcyc, hw, hiw, -⟩ := d.asking_spec g
  obtain ⟨-, -, hc, hf, hwords⟩ := e.takeRequests_keeps g
  have hforce : ∀ a, (e.takeRequests g).iw a = e.iw a := fun a => by unfold Dev.iw; rw [hf]
  have hcycle : (e.takeRequests g).w0 0xE002 = d.w0 0xE002 := by unfold Dev.w0; rw [hc, hcyc]
  have htherm : ∀ i, (e.takeRequests g).bit 0x1001 i = d.bit 0x1001 i := fun i =>
    Dev.bit_congr ((hwords _ (by unfold aGrp; omega)).trans (hw _ (by decide))) i
  rw [he]
  unfold Dev.poolOf Dev.throttled Dev.ifld
  rw [hcycle, h, if_neg Bool.false_ne_true, hforce (aCba g 0), hforce (aCba g 1), hiw 0 (by decide), hiw 1 (by decide), htherm, htherm]
  exact ⟨rfl, rfl, rfl⟩

/-- The motors after the requests are taken, and the marks of the late ones (R27, R135). -/
theorem Dev.asking_motors (d : Dev) (g : GroupIx) :
    (∀ m, ((d.asking g).mot m).state = (d.mot m).state) ∧
      ∀ m, grpOf m = g → (d.asking g).mot m = (d.mot m).asked ∧
        (d.member m = true → (d.mot m).loopRun = false → (d.asking g).bit (aGrp g 4) (4 + (slotOf m).1) = true) := by
  obtain ⟨e, he, hm, hp, -⟩ := d.asking_spec g
  have hmot : ∀ m, e.mot m = d.mot m := fun m => by unfold Dev.mot; rw [hm]
  obtain ⟨hother, hslot⟩ := e.takeRequests_spec g
  rw [he]
  refine ⟨fun m => ?_, fun m hg => ?_⟩
  · by_cases hg : grpOf m = g
    · obtain ⟨hself, -⟩ := hslot (slotOf m)
      rw [← hg, motAt_slotOf] at hself
      rw [← hg, hself, Motor.asked_state, hmot]
    · rw [hother m hg, hmot]
  · obtain ⟨hself, hlate⟩ := hslot (slotOf m)
    rw [← hg, motAt_slotOf, hmot] at hself hlate
    rw [← hg]
    exact ⟨hself, fun hmem => hlate ((Dev.member_congr hp (by rw [hmot])).trans hmem)⟩

/-- The grant point leaves its mark and new books that wait; it changes of the motors only the requests taken (R135, R137). -/
theorem Dev.grantOnce_spec (d : Dev) (g : GroupIx) (h : bitOf (d.w0 0xE002) (8 + g.1) = false) :
    ∃ b, (((d.grantOnce g).grp g).pend = some b ∧ ((d.grantOnce g).grp g).granted = true ∧
        ((d.grantOnce g).grp g).floorsOnly = false ∧ ((d.grantOnce g).grp g).books = (d.grp g).books) ∧
      b.total = (if d.throttled g then bits (d.w0 (aCba g 0)) 11 0 * bits (d.w0 (aCba g 1)) 15 8 / 256
        else bits (d.w0 (aCba g 0)) 11 0) ∧
      (∀ m, ((d.grantOnce g).mot m).state = (d.mot m).state) ∧
      ∀ m, grpOf m = g →
        (d.member m = true → (d.mot m).loopRun = false → (d.grantOnce g).bit (aGrp g 4) (4 + (slotOf m).1) = true) ∧
        ((d.grantOnce g).mot m).lastReq = (d.mot m).asked.lastReq ∧ ((d.grantOnce g).mot m).req = (d.mot m).asked.req := by
  generalize he : d.onGrp g (fun x => { x with granted := true }) = e
  have hgrp : (e.grp g).granted = true ∧ (e.grp g).books = (d.grp g).books := by rw [← he, Dev.onGrp_grp]; exact ⟨rfl, rfl⟩
  have hmot : ∀ m, e.mot m = d.mot m := fun m => by rw [← he]; rfl
  have hmember : ∀ m, e.member m = d.member m := fun m => Dev.member_congr (by rw [← he]; rfl) (by rw [hmot])
  have hw0 : ∀ a, e.w0 a = d.w0 a := fun a => by rw [← he]; rfl
  have hthr : e.throttled g = d.throttled g := by rw [← he]; rfl
  obtain ⟨b, htotal, hm, hbooks, hlate⟩ := e.grantPoint_books g
  obtain ⟨hpool, hfac, hasked⟩ := e.asking_pool g (by rw [hw0, h])
  obtain ⟨hstate, hslots⟩ := e.asking_motors g
  obtain ⟨e', he', -, -, -, -, -, t, ht⟩ := e.asking_spec g
  have hkeep : ((e.asking g).grp g).granted = true ∧ ((e.asking g).grp g).books = (d.grp g).books := by
    obtain ⟨hg, -⟩ := e'.takeRequests_keeps g
    rw [he', show (e'.takeRequests g).grp g = e'.grp g by unfold Dev.grp; rw [hg], ht]
    exact hgrp
  have hdrive := Dev.drives_driveGroup (e.grantPoint g) g
  have hout : d.grantOnce g = (e.grantPoint g).driveGroup g := by rw [← he]; rfl
  have hmots : ∀ m, (e.grantPoint g).mot m = (e.asking g).mot m := fun m => by unfold Dev.mot; rw [hm]
  obtain ⟨hp, hgr, hfl, hbk⟩ := hbooks
  rw [hout]
  refine ⟨b, ?_, ?_, fun m => ?_, fun m hg => ?_⟩
  · rw [hdrive.grp]
    exact ⟨hp, hgr.trans hkeep.1, hfl, hbk.trans hkeep.2⟩
  · rw [htotal, hpool, hfac, hasked, hthr, hw0, hw0]
    split
    · rfl
    · exact Nat.mul_div_cancel _ (by omega)
  · rw [hdrive.mot_state, hmots, hstate, hmot]
  · obtain ⟨hself, hmark⟩ := hslots m hg
    rw [hmot] at hself hmark
    refine ⟨fun hmem hrun => ?_, by rw [hdrive.mot_lastReq, hmots, hself], by rw [hdrive.mot_req, hmots, hself]⟩
    rw [hdrive.bit, Dev.bit_congr hlate]
    exact hmark ((hmember m).trans hmem) hrun

theorem exec_grantPoint {s : State} {g : GroupIx} (hr : s.dev.runs = true) :
    exec (.grantPoint g) s = .next { s with dev :=
      if (s.dev.grp g).running && !(s.dev.grp g).granted && decide (s.dev.grantTick g ≤ s.dev.frameTick g) then s.dev.grantOnce g
      else s.dev } := by
  show State.onCore s _ = _
  unfold State.onCore
  rw [if_pos hr]

/-! ### The statement -/

/-- A frame start with RUN at 1. -/
theorem Dev.frameStart_runs {d : Dev} {g : GroupIx} (hr : d.runs = true) (hg : (d.grp g).running = true)
    (ht : (d.grp g).frameAt + (d.grp g).period ≤ d.cycles) (hrun : d.bit (aGrp g 1) 0 = true) :
    d.frameStart g = (d.endFrame g).frameWork g true := by
  rw [Dev.frameStart_eq hr hg ht, if_pos hrun]

/-- A frame start moves the timebase to tick 0 with the written PERIOD, and leaves the other groups' (R22, R23). -/
theorem Dev.frameStart_timebase {d : Dev} {g : GroupIx} (hr : d.runs = true) (hg : (d.grp g).running = true)
    (ht : (d.grp g).frameAt + (d.grp g).period ≤ d.cycles) (hrun : d.bit (aGrp g 1) 0 = true) :
    (((d.frameStart g).grp g).running = true ∧ ((d.frameStart g).grp g).frameAt = d.cycles ∧
      ((d.frameStart g).grp g).fcnt = (d.grp g).fcnt + 1 ∧
      ((d.frameStart g).grp g).period = clampNat 4000 25000 (d.uw (aGrp g 0))) ∧
    ∀ o, o ≠ g → ((d.frameStart g).grp o).running = (d.grp o).running ∧ ((d.frameStart g).grp o).frameAt = (d.grp o).frameAt ∧
      ((d.frameStart g).grp o).fcnt = (d.grp o).fcnt := by
  obtain ⟨⟨hr', ha, hc, hp⟩, hne⟩ := (d.endFrame g).frameWork_timebase g true
  obtain ⟨hgrp, hother⟩ := d.endFrame_grp g
  have huw : (d.endFrame g).uw (aGrp g 0) = d.uw (aGrp g 0) := by
    unfold Dev.uw
    rw [Dev.w_of_words (d.endFrame_reads g).1]
  rw [hgrp] at hr' ha hc
  rw [Dev.frameStart_runs hr hg ht hrun]
  refine ⟨⟨hr'.trans hg, ha, hc, hp.trans (by rw [huw])⟩, fun o ho => ?_⟩
  rw [← hother o ho]
  exact hne o ho

/-- Settles O26, clause by clause: the frame start, the apply deadline, and the grant point. -/
theorem groupFrames : Obligations.GroupFrames := by
  intro s g hr hg
  generalize hd : s.dev = d at hr hg ⊢
  refine ⟨fun ht hrun => ?_, fun ht hrun => ?_, fun ht => ?_, fun hdl ht => ?_, fun hgr ht hrr => ?_, fun hgr => ?_⟩
  · obtain ⟨⟨hr', ha, hc, hp⟩, hne⟩ := Dev.frameStart_timebase hr hg ht hrun
    obtain ⟨hgrp, -⟩ := d.endFrame_grp g
    obtain ⟨hwords, hforce, hprisms⟩ := d.endFrame_reads g
    have hstart := Dev.frameStart_runs hr hg ht hrun
    refine ⟨d.frameStart g, by rw [← hd]; rfl, hr', ha, hc, hp, congrArg SysView.cycles (d.sys_frameStart g), hne,
      fun m hm hst hst' => ?_, fun b hb => ?_, fun hb => ?_, fun hon hrdy a hf hcl hw => ?_⟩
    · have hcore := d.endFrame_core g m
      rw [hstart] at hst' ⊢
      have happ := (d.endFrame g).frameWork_applied g true hm ((Motor.state_of_core hcore).trans hst) hst'
      rw [hgrp] at happ
      obtain ⟨h1, h2, h3, h4, h5⟩ := happ.congr hcore.symm rfl
      exact ⟨h1, h2, h3, h4, h5⟩
    · rw [hstart]
      exact (d.endFrame g).frameWork_grants g true (by rw [hgrp]; exact hb)
    · rw [hstart, (d.endFrame g).frameWork_books g true (by rw [hgrp]; exact hb), hgrp]
    · have hacc : (d.endFrame g).acc g a = d.acc g a := by unfold Dev.acc Dev.prm; rw [hprisms]
      have hbit : ∀ b i, (d.endFrame g).bit b i = d.bit b i := fun b i => Dev.bit_congr (Dev.w_of_words hwords b) i
      have hreads : ∀ m, (d.endFrame g).readsAcc m a.1 = d.readsAcc m a.1 := fun m =>
        Dev.readsAcc_congr a.1 (Motor.state_of_core (d.endFrame_core g m)) hforce
      obtain ⟨hshow, hn, hlate⟩ := (d.endFrame g).frameWork_missed g ((hbit _ _).trans hon) ((hbit _ _).trans hrdy)
        (by rw [hacc, hf]) (by rw [hacc, hcl]) (by rw [hacc, hw])
      rw [hstart]
      exact ⟨hshow, hn, fun m hm hrd => hlate m hm ((hreads m).trans hrd)⟩
  · obtain ⟨hstop, hmots⟩ := (d.endFrame g).stopGroup_stops g
    have hstart : d.frameStart g = (d.endFrame g).stopGroup g := by
      rw [Dev.frameStart_eq hr hg ht, if_neg (by rw [hrun]; decide)]
    refine ⟨d.frameStart g, by rw [← hd]; rfl, ?_, fun m hm => ?_, fun m hm => ?_⟩
    · rw [hstart, hstop]
    · rw [hstart, hmots, if_pos hm]
    · rw [hstart, hmots, if_neg hm, Motor.state_of_core (d.endFrame_core g m)]
  · show Host.Outcome.next { s with dev := s.dev.frameStart g } = _
    rw [hd, Dev.frameStart_early ht, ← hd]
  · obtain ⟨hgrps, hother, hself⟩ := (d.onGrp g (fun x => { x with deadline := true })).deadlineMotors_spec g
    rw [← Dev.applyDeadline_eq hr hg hdl ht] at hgrps hother hself
    refine ⟨d.applyDeadline g, by rw [← hd]; rfl, ?_, fun m => ⟨fun hm => ?_, hother m⟩⟩
    · unfold Dev.grp
      rw [hgrps]
      exact congrArg Group.deadline (d.onGrp_grp g _)
    · obtain ⟨hdel, hlate⟩ := hself m hm
      refine ⟨fun o ho => ?_, fun ho => ?_, hlate⟩
      · rw [hdel]
        unfold Motor.delivered
        rw [Dev.onGrp_mot, ho]
      · rw [hdel]
        unfold Motor.delivered
        rw [Dev.onGrp_mot, ho]
  · obtain ⟨b, ⟨hp, hgr', hfl, hbk⟩, htotal, hstate, hslots⟩ := d.grantOnce_spec g hrr
    refine ⟨d.grantOnce g, b, ?_, hp, hgr', hfl, htotal, fun m hm => ?_, hbk, hstate⟩
    · rw [exec_grantPoint (by rw [hd]; exact hr), hd, hg, hgr, decide_eq_true ht]
      rfl
    · obtain ⟨hlate, hlast, hreq⟩ := hslots m hm
      unfold Motor.asked at hlast hreq
      refine ⟨hlate, fun q hq => ?_, fun hq => ?_⟩
      · rw [hq] at hlast hreq
        exact ⟨hlast, hreq⟩
      · rw [hq] at hlast
        exact hlast
  · rw [exec_grantPoint (by rw [hd]; exact hr), hd, hgr, Bool.not_true, Bool.and_false, Bool.false_and, ← hd]
    rfl

end Sys2Proof.Machine
end

section
/-! What the commit of a write, and a device fault, leave of TIME and of the host ports: one equation for each operation. -/

namespace Sys2Proof.Machine

open Sys2Proof

/-- TIME and the host ports are the same. -/
abbrev Dev.SameClock (d e : Dev) : Prop := e.cycles = d.cycles ∧ e.ports = d.ports

theorem Dev.SameClock.of_watched {d e : Dev} (h : e.watched .clock = d.watched .clock) : d.SameClock e :=
  ⟨congrArg Watched.cycles h, congrArg Watched.ports h⟩

theorem Dev.SameClock.refl (d : Dev) : d.SameClock d := ⟨rfl, rfl⟩

theorem Dev.SameClock.trans {c d e : Dev} (h : c.SameClock d) (h' : d.SameClock e) : c.SameClock e :=
  ⟨h'.1.trans h.1, h'.2.trans h.2⟩

theorem Dev.SameClock.ite {c : Prop} [Decidable c] {d x y : Dev} (hx : d.SameClock x) (hy : d.SameClock y) :
    d.SameClock (if c then x else y) := by split <;> assumption

@[simp] theorem Dev.cycles_ite (c : Prop) [Decidable c] (x y : Dev) : (if c then x else y).cycles = if c then x.cycles else y.cycles :=
  apply_ite _ _ _ _

@[simp] theorem Dev.ports_ite (c : Prop) [Decidable c] (x y : Dev) : (if c then x else y).ports = if c then x.ports else y.ports :=
  apply_ite _ _ _ _

@[simp] theorem Dev.clock_each {α : Type} (d : Dev) (l : List α) (f : Dev → α → Dev) (h : ∀ (e : Dev) (a : α), Dev.SameClock e (f e a)) :
    d.SameClock (d.each l f) :=
  Dev.each_inv (P := fun e => d.SameClock e) l d ⟨rfl, rfl⟩ (fun e a he => he.trans (h e a))

@[simp] theorem Dev.clock_when (d : Dev) (c : Bool) (f : Dev → Dev) (h : ∀ e : Dev, Dev.SameClock e (f e)) : d.SameClock (d.when c f) := by
  unfold Dev.when
  exact .ite (h d) ⟨rfl, rfl⟩

variable (d : Dev)

@[simp] theorem Dev.clock_foldl {α : Type} (l : List α) (f : Dev → α → Dev) (h : ∀ (e : Dev) (a : α), Dev.SameClock e (f e a)) :
    d.SameClock (l.foldl f d) := d.clock_each l f h

theorem Dev.clock_put (a : Nat) (v : Word) : d.SameClock (d.put a v) := ⟨rfl, rfl⟩

theorem Dev.clock_onGrp (g : GroupIx) (f : Group → Group) : d.SameClock (d.onGrp g f) := ⟨rfl, rfl⟩

theorem Dev.clock_drive (m : MotorIx) : d.SameClock (d.drive m) := ⟨d.drive_cycles m, d.drive_ports m⟩

theorem Dev.clock_raiseNow (i : Nat) : d.SameClock (d.raiseNow i) := .of_watched (d.watched_raiseNow i)

theorem Dev.clock_resetRange (lo hi : Nat) : d.SameClock (d.resetRange lo hi) := ⟨rfl, rfl⟩

@[simp] theorem Dev.clock_cause (a : Nat) (m : Word) (i : Nat) : d.SameClock (d.cause a m i) := by
  simp [Dev.SameClock, Dev.cause]

/-! ### The operations of a frame -/

@[simp] theorem Dev.clock_dropSpeed (f : ChanIx) : d.SameClock (d.dropSpeed f) :=
  .of_watched (d.watched_dropSpeed f)

@[simp] theorem Dev.clock_syncComp (m : MotorIx) : d.SameClock (d.syncComp m) :=
  .of_watched (d.watched_syncComp m)

@[simp] theorem Dev.clock_syncBsuv (m : MotorIx) : d.SameClock (d.syncBsuv m) :=
  .of_watched (d.watched_syncBsuv m)

@[simp] theorem Dev.clock_turnOff (b : BridgeIx) : d.SameClock (d.turnOff b) :=
  .of_watched (d.watched_turnOff b)

@[simp] theorem Dev.clock_driveGroup (g : GroupIx) : d.SameClock (d.driveGroup g) :=
  .of_watched (d.watched_driveGroup g)

@[simp] theorem Dev.clock_setBrk (g : GroupIx) : d.SameClock (d.setBrk g) :=
  .of_watched (d.watched_setBrk g)

@[simp] theorem Dev.clock_resetRR (g : GroupIx) : d.SameClock (d.resetRR g) :=
  .of_watched (d.watched_resetRR g rfl)

@[simp] theorem Dev.clock_onAcc (p : GroupIx) (a : Fin 64) (f : Acc → Acc) : d.SameClock (d.onAcc p a f) :=
  .of_watched (d.watched_onAcc p a f rfl)

@[simp] theorem Dev.clock_newCount (p : GroupIx) (a : Fin 64) : d.SameClock (d.newCount p a) :=
  .of_watched (d.watched_newCount p a rfl)

@[simp] theorem Dev.clock_enforceGrants (g : GroupIx) (b : Books) : d.SameClock (d.enforceGrants g b) :=
  .of_watched (d.watched_enforceGrants g b rfl)

@[simp] theorem Dev.clock_snapshot (g : GroupIx) : d.SameClock (d.snapshot g) :=
  .of_watched (d.watched_snapshot g rfl)

@[simp] theorem Dev.clock_restartSeq (p : GroupIx) : d.SameClock (d.restartSeq p) :=
  .of_watched (d.watched_restartSeq p)

@[simp] theorem Dev.clock_enterFault (m : MotorIx) (act : FaultAct) : d.SameClock (d.enterFault m act) :=
  .of_watched (d.watched_enterFault m act (by simp))

@[simp] theorem Dev.clock_enter (m : MotorIx) (st : MState) : d.SameClock (d.enter m st) :=
  .of_watched (d.watched_enter m st (by simp))

/-! ### The operations of a commit -/

@[simp] theorem Dev.clock_seqStopped (p : GroupIx) : d.SameClock (d.seqStopped p) := by
  unfold Dev.seqStopped
  split <;> simp [Dev.SameClock]

@[simp] theorem Dev.clock_setRun (g : GroupIx) (run : Bool) : d.SameClock (d.setRun g run) := by
  simp [Dev.SameClock, Dev.setRun]

@[simp] theorem Dev.clock_exitFirst (window : Bool) : d.SameClock (d.exitFirst window) := by
  simp [Dev.SameClock, Dev.exitFirst]

@[simp] theorem Dev.clock_loaderReads : d.SameClock d.loaderReads := by
  simp [Dev.SameClock, Dev.loaderReads]

@[simp] theorem Dev.clock_cfgReload : d.SameClock d.cfgReload := by
  simp [Dev.SameClock, Dev.cfgReload]

@[simp] theorem Dev.clock_memInvalid : d.SameClock d.memInvalid := by
  simp [Dev.SameClock, Dev.memInvalid]

@[simp] theorem Dev.clock_memSync : d.SameClock d.memSync := by
  simp [Dev.SameClock, Dev.memSync]

@[simp] theorem Dev.clock_winServe : d.SameClock d.winServe := by
  simp [Dev.SameClock, Dev.winServe]

@[simp] theorem Dev.clock_qDone (i : Nat) (res : Nat) : d.SameClock (d.qDone i res) := by
  simp [Dev.SameClock, Dev.qDone]

@[simp] theorem Dev.clock_qOver : d.SameClock d.qOver := by
  simp [Dev.SameClock, Dev.qOver]

@[simp] theorem Dev.clock_qSkip (n : Nat) : d.SameClock (Dev.qSkip n d) := by
  induction n generalizing d with
  | zero => exact .refl d
  | succ n ih =>
    have hstep : d.SameClock (d.qDone d.qPos 4) := d.clock_qDone d.qPos 4
    unfold Dev.qSkip
    dsimp only
    refine .ite (.ite (hstep.trans (Dev.clock_qOver _)) (hstep.trans ?_)) (.refl d)
    exact Dev.SameClock.trans ⟨rfl, rfl⟩ (ih _)

@[simp] theorem Dev.clock_entryBegin : d.SameClock d.entryBegin := by
  have hexit : d.SameClock (if d.mem.chain then d else d.exitFirst false) := .ite (.refl d) (d.clock_exitFirst false)
  unfold Dev.entryBegin
  dsimp only
  refine hexit.trans (.ite (.trans ⟨rfl, rfl⟩ (Dev.clock_memInvalid _)) ⟨rfl, rfl⟩)

@[simp] theorem Dev.clock_fillBegin (l : BitVec 32) (pre : Bool) (intoB : Bool) : d.SameClock (d.fillBegin l pre intoB) := by
  simp [Dev.SameClock, Dev.fillBegin]

@[simp] theorem Dev.clock_memNext : d.SameClock d.memNext := by
  have hserve : d.memSync.SameClock (Dev.qSkip 16 d.memSync).winServe := (Dev.clock_qSkip _ 16).trans (Dev.clock_winServe _)
  unfold Dev.memNext
  dsimp only
  refine (d.clock_memSync).trans (.ite (.refl _) (hserve.trans ?_))
  split
  · refine .ite (Dev.clock_entryBegin _) ?_
    split
    · exact Dev.clock_fillBegin _ _ _ _
    · exact .refl _
  · exact .ite (Dev.clock_entryBegin _) (.refl _)

@[simp] theorem Dev.clock_memRelease : d.SameClock d.memRelease := by
  simp [Dev.SameClock, Dev.memRelease]

@[simp] theorem Dev.clock_setRr (g : GroupIx) (on : Bool) : d.SameClock (d.setRr g on) := by
  simp [Dev.SameClock, Dev.setRr]

@[simp] theorem Dev.clock_setRrClr (g : GroupIx) (t : Option Nat) : d.SameClock (d.setRrClr g t) := by
  simp [Dev.SameClock, Dev.setRrClr]

@[simp] theorem Dev.clock_syncRr : d.SameClock d.syncRr := by
  simp [Dev.SameClock, Dev.syncRr]

@[simp] theorem Dev.clock_loadKiss (m : MotorIx) : d.SameClock (d.loadKiss m) := by
  simp [Dev.SameClock, Dev.loadKiss]

@[simp] theorem Dev.clock_complete (src : Nat) (slot : Bool) (macOk : Bool) : d.SameClock (d.complete src slot macOk) := by
  simp [Dev.SameClock, Dev.complete]

@[simp] theorem Dev.clock_cfgDone : d.SameClock d.cfgDone := by
  simp [Dev.SameClock, Dev.cfgDone]

@[simp] theorem Dev.clock_writeCfgcmd (v : Word) : d.SameClock (d.writeCfgcmd v) := by
  simp [Dev.SameClock, Dev.writeCfgcmd]

@[simp] theorem Dev.clock_ring (k : Master) (v : Word) : d.SameClock (d.ring k v) := by
  simp [Dev.SameClock, Dev.ring]

@[simp] theorem Dev.clock_commitSys (k : Master) (a : Nat) (v : Word) (mv : Word) : d.SameClock (d.commitSys k a v mv) := by
  simp [Dev.SameClock, Dev.commitSys]

@[simp] theorem Dev.clock_domChange (n : Nat) (therm : Bool) : d.SameClock (d.domChange n therm) := by
  simp [Dev.SameClock, Dev.domChange]

@[simp] theorem Dev.clock_syncPrismPll : d.SameClock d.syncPrismPll := by
  simp [Dev.SameClock, Dev.syncPrismPll]

@[simp] theorem Dev.clock_dropLate (p : GroupIx) : d.SameClock (d.dropLate p) := by
  simp [Dev.SameClock, Dev.dropLate]

@[simp] theorem Dev.clock_restartTrk (p : GroupIx) (t : Fin 32) : d.SameClock (d.restartTrk p t) := by
  simp [Dev.SameClock, Dev.restartTrk]

@[simp] theorem Dev.clock_restartTrks (p : GroupIx) : d.SameClock (d.restartTrks p) := by
  simp [Dev.SameClock, Dev.restartTrks]

@[simp] theorem Dev.clock_initPrism (p : GroupIx) : d.SameClock (d.initPrism p) := by
  simp [Dev.SameClock, Dev.initPrism]

@[simp] theorem Dev.clock_thermFeed (p : GroupIx) : d.SameClock (d.thermFeed p) := by
  unfold Dev.thermFeed
  refine .ite (.refl d) ?_
  split <;> exact ⟨rfl, rfl⟩

@[simp] theorem Dev.clock_thermOver (p : GroupIx) (s : SensorIx) : d.SameClock (d.thermOver p s) := by
  simp [Dev.SameClock, Dev.thermOver]

@[simp] theorem Dev.clock_thermMissed (s : SensorIx) : d.SameClock (d.thermMissed s) := by
  simp [Dev.SameClock, Dev.thermMissed]

@[simp] theorem Dev.clock_thermFlush (p : GroupIx) : d.SameClock (d.thermFlush p) := by
  simp [Dev.SameClock, Dev.thermFlush]

@[simp] theorem Dev.clock_thermDrop (p : GroupIx) : d.SameClock (d.thermDrop p) := by
  simp [Dev.SameClock, Dev.thermDrop]

@[simp] theorem Dev.clock_syncGduv (g : GroupIx) : d.SameClock (d.syncGduv g) := by
  simp [Dev.SameClock, Dev.syncGduv]

@[simp] theorem Dev.clock_clearGlint (g : GroupIx) : d.SameClock (d.clearGlint g) := by
  simp [Dev.SameClock, Dev.clearGlint]

@[simp] theorem Dev.clock_bridgesOff (g : GroupIx) : d.SameClock (d.bridgesOff g) := by
  simp [Dev.SameClock, Dev.bridgesOff]

@[simp] theorem Dev.clock_dieStop (g : GroupIx) : d.SameClock (d.dieStop g) := by
  simp [Dev.SameClock, Dev.dieStop]

@[simp] theorem Dev.clock_toIdle (m : MotorIx) : d.SameClock (d.toIdle m) := by
  simp [Dev.SameClock, Dev.toIdle]

@[simp] theorem Dev.clock_domainIdle (g : GroupIx) : d.SameClock (d.domainIdle g) := by
  simp [Dev.SameClock, Dev.domainIdle]

@[simp] theorem Dev.clock_domOff (n : Nat) (therm : Bool) : d.SameClock (d.domOff n therm) := by
  simp [Dev.SameClock, Dev.domOff]

@[simp] theorem Dev.clock_domainsOff (therm : Bool) : d.SameClock (d.domainsOff therm) := by
  simp [Dev.SameClock, Dev.domainsOff]

@[simp] theorem Dev.clock_writeReq (v : Word) : d.SameClock (d.writeReq v) := by
  simp [Dev.SameClock, Dev.writeReq]

@[simp] theorem Dev.clock_thermRequest (s : SensorIx) : d.SameClock (d.thermRequest s) := by
  unfold Dev.thermRequest
  refine .ite (.refl d) ?_
  split
  · exact .ite (.trans ⟨rfl, rfl⟩ (Dev.clock_thermFeed _ _)) (d.clock_thermMissed s)
  · exact d.clock_thermMissed s

@[simp] theorem Dev.clock_writeFlt (m : MotorIx) (v : Word) : d.SameClock (d.writeFlt m v) := by
  simp [Dev.SameClock, Dev.writeFlt]

@[simp] theorem Dev.clock_writeLctrl (m : MotorIx) (mv : Word) : d.SameClock (d.writeLctrl m mv) := by
  simp [Dev.SameClock, Dev.writeLctrl]

@[simp] theorem Dev.clock_writeHctl (m : MotorIx) (v : Word) : d.SameClock (d.writeHctl m v) := by
  simp [Dev.SameClock, Dev.writeHctl]

@[simp] theorem Dev.clock_writeHdem (m : MotorIx) (v : Word) : d.SameClock (d.writeHdem m v) := by
  simp [Dev.SameClock, Dev.writeHdem]

/-- What a write of a motor's word ends in, by its offset. -/
theorem Dev.commitMot_cases (a : Nat) (v mv : Word) {P : Dev → Prop} (hidle : ∀ m, P ((d.put a mv).toIdle m))
    (hdrive : ∀ m, P ((d.put a mv).drive m)) (hflt : ∀ m, P (d.writeFlt m v)) (hput : ∀ u, P (d.put a u)) (hd : P d)
    (hl : ∀ m, P (d.writeLctrl m mv)) (hctl : ∀ m, P (d.writeHctl m v)) (hdem : ∀ m, P (d.writeHdem m v))
    (hkiss : ∀ m, P ((d.put a v).loadKiss m)) : P (d.commitMot a v mv) := by
  unfold Dev.commitMot
  generalize (a - 0x2000) % 0x400 = o
  generalize ixMot a 0x2000 0x400 = m
  split
  · dsimp only
    split
    · exact hidle m
    · exact hdrive m
  · exact hflt m
  · split
    · exact hd
    · exact hput _
  · split
    · exact hd
    · exact hput _
  · exact hl m
  · exact hctl m
  · exact hdem m
  · split
    · exact hd
    · exact hkiss m
  · exact hput mv

@[simp] theorem Dev.clock_commitMot (a : Nat) (v mv : Word) : d.SameClock (d.commitMot a v mv) :=
  d.commitMot_cases a v mv (P := d.SameClock) (fun _ => (d.clock_put a mv).trans (Dev.clock_toIdle _ _))
    (fun _ => (d.clock_put a mv).trans (Dev.clock_drive _ _)) (fun m => d.clock_writeFlt m v) (d.clock_put a) (.refl d)
    (fun m => d.clock_writeLctrl m mv) (fun m => d.clock_writeHctl m v) (fun m => d.clock_writeHdem m v)
    (fun _ => (d.clock_put a v).trans (Dev.clock_loadKiss _ _))

@[simp] theorem Dev.clock_writeSupCfg (g : GroupIx) (v : Word) : d.SameClock (d.writeSupCfg g v) := by
  simp [Dev.SameClock, Dev.writeSupCfg]

@[simp] theorem Dev.clock_chopHold (g : GroupIx) : d.SameClock (d.chopHold g) := by
  simp [Dev.SameClock, Dev.chopHold]

@[simp] theorem Dev.clock_testPulse (g : GroupIx) (v : Word) : d.SameClock (d.testPulse g v) := by
  simp [Dev.SameClock, Dev.testPulse]

/-- What a write of a supply word ends in, by its offset. -/
theorem Dev.commitSup_cases (a : Nat) (v mv : Word) {P : Dev → Prop} (hcfg : ∀ g, P (d.writeSupCfg g mv))
    (hhold : ∀ g, P ((d.put a mv).chopHold g)) (htest : ∀ g, P (d.testPulse g v)) (hput : P (d.put a mv)) (hd : P d) :
    P (d.commitSup a v mv) := by
  unfold Dev.commitSup
  generalize (a - 0x6400) % 0x40 = o
  generalize ixGrp a 0x6400 0x40 = g
  split
  · split
    · exact hd
    · exact hcfg g
  · exact hhold g
  · exact htest g
  · exact hput

@[simp] theorem Dev.clock_commitSup (a : Nat) (v mv : Word) : d.SameClock (d.commitSup a v mv) :=
  d.commitSup_cases a v mv (P := d.SameClock) (fun g => d.clock_writeSupCfg g mv)
    (fun _ => (d.clock_put a mv).trans (Dev.clock_chopHold _ _)) (fun g => d.clock_testPulse g v) (d.clock_put a mv) (.refl d)

@[simp] theorem Dev.clock_limitCheck (m : MotorIx) : d.SameClock (d.limitCheck m) := by
  simp [Dev.SameClock, Dev.limitCheck]

@[simp] theorem Dev.clock_syncHshort (m : MotorIx) : d.SameClock (d.syncHshort m) := by
  simp [Dev.SameClock, Dev.syncHshort]

@[simp] theorem Dev.clock_report (m : MotorIx) (ph : Fin 3) (c : Cause) : d.SameClock (d.report m ph c) := by
  simp [Dev.SameClock, Dev.report]

@[simp] theorem Dev.clock_shortSet (m : MotorIx) : d.SameClock (d.shortSet m) := by
  simp [Dev.SameClock, Dev.shortSet]

@[simp] theorem Dev.clock_clearLat (m : MotorIx) (mask : Word) : d.SameClock (d.clearLat m mask) := by
  simp [Dev.SameClock, Dev.clearLat]

@[simp] theorem Dev.clock_clearBlat (g : GroupIx) (mask : Word) : d.SameClock (d.clearBlat g mask) := by
  simp [Dev.SameClock, Dev.clearBlat]

@[simp] theorem Dev.clock_writeChk (v : Word) : d.SameClock (d.writeChk v) := by
  simp [Dev.SameClock, Dev.writeChk]

@[simp] theorem Dev.clock_commitGlint (a : Nat) (v : Word) (mv : Word) : d.SameClock (d.commitGlint a v mv) := by
  simp [Dev.SameClock, Dev.commitGlint]

@[simp] theorem Dev.clock_startSeq (p : GroupIx) : d.SameClock (d.startSeq p) := by
  simp [Dev.SameClock, Dev.startSeq]

@[simp] theorem Dev.clock_writePrmCtrl (p : GroupIx) (v : Word) : d.SameClock (d.writePrmCtrl p v) := by
  simp [Dev.SameClock, Dev.writePrmCtrl]

@[simp] theorem Dev.clock_urgent (p : GroupIx) (v : Word) : d.SameClock (d.urgent p v) := by
  simp [Dev.SameClock, Dev.urgent]

@[simp] theorem Dev.clock_writeTrk (p : GroupIx) (t : Fin 32) (v : Word) : d.SameClock (d.writeTrk p t v) := by
  simp [Dev.SameClock, Dev.writeTrk]

@[simp] theorem Dev.clock_commitPrism (a : Nat) (v : Word) (mv : Word) : d.SameClock (d.commitPrism a v mv) := by
  simp [Dev.SameClock, Dev.commitPrism]

@[simp] theorem Dev.clock_writeFbCfg (f : ChanIx) (v : Word) : d.SameClock (d.writeFbCfg f v) := by
  simp [Dev.SameClock, Dev.writeFbCfg]

@[simp] theorem Dev.clock_seedPos (f : ChanIx) : d.SameClock (d.seedPos f) := by
  simp [Dev.SameClock, Dev.seedPos]

@[simp] theorem Dev.clock_writeFbCmd (f : ChanIx) (v : Word) : d.SameClock (d.writeFbCmd f v) := by
  simp [Dev.SameClock, Dev.writeFbCmd]

@[simp] theorem Dev.clock_writeDcfg (v : Word) : d.SameClock (d.writeDcfg v) := by
  simp [Dev.SameClock, Dev.writeDcfg]

@[simp] theorem Dev.clock_commitFb (a : Nat) (v : Word) (mv : Word) : d.SameClock (d.commitFb a v mv) := by
  unfold Dev.commitFb
  refine .ite ?_ (.ite (.ite (.refl d) (d.clock_writeDcfg mv)) ⟨rfl, rfl⟩)
  dsimp only
  split
  · exact .ite (.refl d) (d.clock_writeFbCfg _ mv)
  · exact d.clock_writeFbCmd _ v
  · exact ⟨rfl, rfl⟩

@[simp] theorem Dev.clock_pendAnchor (t : TraceIx) (code : Nat) : d.SameClock (d.pendAnchor t code) := by
  simp [Dev.SameClock, Dev.pendAnchor]

@[simp] theorem Dev.clock_newTraceCfg (t : TraceIx) : d.SameClock (d.newTraceCfg t) := by
  simp [Dev.SameClock, Dev.newTraceCfg]

@[simp] theorem Dev.clock_setSeg (t : TraceIx) (s : Option Seg) : d.SameClock (d.setSeg t s) := by
  simp [Dev.SameClock, Dev.setSeg]

@[simp] theorem Dev.clock_writeMirror (pend : Bool) (old : Bool) : d.SameClock (d.writeMirror pend old) := by
  simp [Dev.SameClock, Dev.writeMirror]

@[simp] theorem Dev.clock_mirrorBooks : d.SameClock d.mirrorBooks := by
  simp [Dev.SameClock, Dev.mirrorBooks]

@[simp] theorem Dev.clock_book (off : Nat) (v : BitVec 32) : d.SameClock (d.book off v) := by
  simp [Dev.SameClock, Dev.book]

@[simp] theorem Dev.clock_discardRec : d.SameClock d.discardRec := by
  simp [Dev.SameClock, Dev.discardRec]

@[simp] theorem Dev.clock_makeRec (r : Rec) : d.SameClock (d.makeRec r) := by
  simp [Dev.SameClock, Dev.makeRec]

@[simp] theorem Dev.clock_writeSeg (t : TraceIx) (s : Seg) : d.SameClock (d.writeSeg t s) := by
  simp [Dev.SameClock, Dev.writeSeg]

@[simp] theorem Dev.clock_flushSeg (t : TraceIx) : d.SameClock (d.flushSeg t) := by
  unfold Dev.flushSeg
  split <;> simp [Dev.SameClock]

@[simp] theorem Dev.clock_writeTraceSrc (t : TraceIx) (v : Word) : d.SameClock (d.writeTraceSrc t v) := by
  unfold Dev.writeTraceSrc
  dsimp only
  split <;> simp [Dev.SameClock]

@[simp] theorem Dev.clock_writeTraceTag (t : TraceIx) (v : Word) : d.SameClock (d.writeTraceTag t v) := by
  simp [Dev.SameClock, Dev.writeTraceTag]

@[simp] theorem Dev.clock_writeTraceRate (t : TraceIx) (v : Word) : d.SameClock (d.writeTraceRate t v) := by
  simp [Dev.SameClock, Dev.writeTraceRate]

@[simp] theorem Dev.clock_writeHin (t : TraceIx) (v : Word) : d.SameClock (d.writeHin t v) := by
  simp [Dev.SameClock, Dev.writeHin]

@[simp] theorem Dev.clock_emptyStore : d.SameClock d.emptyStore := by
  simp [Dev.SameClock, Dev.emptyStore]

@[simp] theorem Dev.clock_writeTraceCmd (v : Word) : d.SameClock (d.writeTraceCmd v) := by
  simp [Dev.SameClock, Dev.writeTraceCmd]

@[simp] theorem Dev.clock_commitTrace (a : Nat) (v : Word) (mv : Word) : d.SameClock (d.commitTrace a v mv) := by
  unfold Dev.commitTrace
  refine .ite ?_ (.ite (d.clock_writeHin _ v) (.ite (d.clock_writeTraceCmd v) ⟨rfl, rfl⟩))
  dsimp only
  split
  · exact d.clock_writeTraceSrc _ mv
  · exact .ite (.refl d) (d.clock_writeTraceTag _ mv)
  · exact .ite (.refl d) (d.clock_writeTraceRate _ mv)
  · exact ⟨rfl, rfl⟩

@[simp] theorem Dev.clock_writeRaw (v : Word) : d.SameClock (d.writeRaw v) := by
  simp [Dev.SameClock, Dev.writeRaw]

@[simp] theorem Dev.clock_entryAsked : d.SameClock d.entryAsked := by
  simp [Dev.SameClock, Dev.entryAsked]

@[simp] theorem Dev.clock_qStart (v : Word) : d.SameClock (d.qStart v) := by
  simp [Dev.SameClock, Dev.qStart]

@[simp] theorem Dev.clock_qEnd (res : Nat) : d.SameClock (d.qEnd res) := by
  simp [Dev.SameClock, Dev.qEnd]

@[simp] theorem Dev.clock_memIdle : d.SameClock d.memIdle := by
  simp [Dev.SameClock, Dev.memIdle]

@[simp] theorem Dev.clock_qAbort : d.SameClock d.qAbort := by
  simp [Dev.SameClock, Dev.qAbort]

@[simp] theorem Dev.clock_writeQrun (v : Word) : d.SameClock (d.writeQrun v) := by
  simp [Dev.SameClock, Dev.writeQrun]

@[simp] theorem Dev.clock_writeWin (a : Nat) (v : Word) : d.SameClock (d.writeWin a v) := by
  simp [Dev.SameClock, Dev.writeWin]

@[simp] theorem Dev.clock_writeQ (a : Nat) (v : Word) : d.SameClock (d.writeQ a v) := by
  unfold Dev.writeQ
  exact .ite (.refl d) (d.clock_put a _)

@[simp] theorem Dev.clock_writeBuf (a : Nat) (v : Word) : d.SameClock (d.writeBuf a v) := by
  simp [Dev.SameClock, Dev.writeBuf]

@[simp] theorem Dev.clock_commitMem (a : Nat) (v : Word) (mv : Word) : d.SameClock (d.commitMem a v mv) := by
  simp [Dev.SameClock, Dev.commitMem]

@[simp] theorem Dev.clock_rqGo (v : Word) : d.SameClock (d.rqGo v) := by
  simp [Dev.SameClock, Dev.rqGo]

@[simp] theorem Dev.clock_lcActs : d.SameClock d.lcActs := by
  simp [Dev.SameClock, Dev.lcActs]

@[simp] theorem Dev.clock_blow (n : Nat) : d.SameClock (d.blow n) := by
  simp [Dev.SameClock, Dev.blow]

@[simp] theorem Dev.clock_lcRefused : d.SameClock d.lcRefused := by
  simp [Dev.SameClock, Dev.lcRefused]

@[simp] theorem Dev.clock_toManufacture : d.SameClock d.toManufacture := by
  simp [Dev.SameClock, Dev.toManufacture]

@[simp] theorem Dev.clock_toField : d.SameClock d.toField := by
  unfold Dev.toField
  split <;> simp [Dev.SameClock]

@[simp] theorem Dev.clock_authFails : d.SameClock d.authFails := by
  simp [Dev.SameClock, Dev.authFails]

@[simp] theorem Dev.clock_toService : d.SameClock d.toService := by
  simp [Dev.SameClock, Dev.toService]

@[simp] theorem Dev.clock_toReturn : d.SameClock d.toReturn := by
  simp [Dev.SameClock, Dev.toReturn]

@[simp] theorem Dev.clock_writeLccmd (v : Word) : d.SameClock (d.writeLccmd v) := by
  simp [Dev.SameClock, Dev.writeLccmd]

@[simp] theorem Dev.clock_zeroWords : d.SameClock d.zeroWords := by
  simp [Dev.SameClock, Dev.zeroWords]

@[simp] theorem Dev.clock_bistState : d.SameClock d.bistState := by
  simp [Dev.SameClock, Dev.bistState]

@[simp] theorem Dev.clock_logSession : d.SameClock d.logSession := by
  simp [Dev.SameClock, Dev.logSession]

@[simp] theorem Dev.clock_bistLeave (tgt : Nat) : d.SameClock (d.bistLeave tgt) := by
  unfold Dev.bistLeave
  split <;> simp [Dev.SameClock]

@[simp] theorem Dev.clock_bistEnd (cause : Word) : d.SameClock (d.bistEnd cause) := by
  unfold Dev.bistEnd
  split <;> simp [Dev.SameClock]

@[simp] theorem Dev.clock_bistGo (v : Word) : d.SameClock (d.bistGo v) := by
  simp [Dev.SameClock, Dev.bistGo]

@[simp] theorem Dev.clock_writeRepair (l : List (Nat × Nat)) : d.SameClock (d.writeRepair l) := by
  simp [Dev.SameClock, Dev.writeRepair]

@[simp] theorem Dev.clock_repairRow (tgt : Nat) (row : Nat) (soft : Bool) : d.SameClock (d.repairRow tgt row soft) := by
  simp [Dev.SameClock, Dev.repairRow]

@[simp] theorem Dev.clock_repairGo : d.SameClock d.repairGo := by
  simp [Dev.SameClock, Dev.repairGo]

@[simp] theorem Dev.clock_writeKey (which : KeyKind) (i : Nat) (v : Word) : d.SameClock (d.writeKey which i v) := by
  unfold Dev.writeKey
  dsimp only
  refine .ite ⟨rfl, rfl⟩ ?_
  refine Dev.SameClock.trans ?_ (Dev.clock_resetRange _ _ _)
  cases which <;> exact .ite ⟨rfl, rfl⟩ ⟨rfl, rfl⟩

@[simp] theorem Dev.clock_commitTest (a : Nat) (v : Word) (mv : Word) : d.SameClock (d.commitTest a v mv) := by
  simp [Dev.SameClock, Dev.commitTest]

@[simp] theorem Dev.clock_putErr (a : Nat) (cls : Nat) (addr : Nat) : d.SameClock (d.putErr a cls addr) := by
  simp [Dev.SameClock, Dev.putErr]

@[simp] theorem Dev.clock_ceFound (cls : Nat) (addr : Nat) : d.SameClock (d.ceFound cls addr) := by
  simp [Dev.SameClock, Dev.ceFound]

@[simp] theorem Dev.clock_raiseN (i : Nat) (n : Nat) : d.SameClock (d.raiseN i n) := by
  have hnow : d.SameClock (d.raiseNow i) := d.clock_raiseNow i
  unfold Dev.raiseN
  refine .ite (.refl d) (.ite ⟨rfl, rfl⟩ (hnow.trans ?_))
  dsimp only
  split
  · exact .ite ⟨rfl, rfl⟩ (.refl _)
  · exact .refl _

@[simp] theorem Dev.clock_ueFound (cls : Nat) (addr : Nat) : d.SameClock (d.ueFound cls addr) := by
  simp [Dev.SameClock, Dev.ueFound]

@[simp] theorem Dev.clock_loseWord (a : Nat) (v : Word) : d.SameClock (d.loseWord a v) := by
  unfold Dev.loseWord
  have hput := d.clock_put a v
  refine .ite (hput.trans (Dev.clock_when _ _ _ (fun e => e.clock_seqStopped _))) (.ite (d.clock_writeReq v) ?_)
  refine .ite (.ite (hput.trans (Dev.clock_toIdle _ _)) (hput.trans (Dev.clock_drive _ _))) ?_
  refine .ite (d.clock_writeSupCfg _ v) (.ite (.ite hput ⟨rfl, rfl⟩) ?_)
  refine .ite (d.clock_writePrmCtrl _ v) (.ite (d.clock_writeFbCfg _ v) (.ite (d.clock_writeDcfg v) (.ite ?_ hput)))
  dsimp only
  split
  · exact d.clock_writeTraceSrc _ v
  · exact d.clock_writeTraceTag _ v
  · exact d.clock_writeTraceRate _ v
  · exact hput

@[simp] theorem Dev.clock_loseCfg (a : Nat) : d.SameClock (d.loseCfg a) := by
  simp [Dev.SameClock, Dev.loseCfg]

@[simp] theorem Dev.clock_faultCauses (finds : List DfFind) : d.SameClock (d.faultCauses finds) := by
  unfold Dev.faultCauses
  dsimp only
  refine Dev.SameClock.trans ?_ (Dev.clock_each _ _ _ (fun e a => e.clock_loseCfg a))
  have hraise : d.SameClock ((d.orW 0x32 ((finds.map (fun f => 1#16 <<< dfBit f)).foldl (· ||| ·) 0)).raiseN 54
      (bitList ((finds.map (fun f => 1#16 <<< dfBit f)).foldl (· ||| ·) 0)).length) := Dev.SameClock.trans ⟨rfl, rfl⟩ (Dev.clock_raiseN _ _ _)
  split
  · exact hraise.trans (Dev.clock_ueFound _ _ _)
  · exact hraise

@[simp] theorem Dev.clock_cplAfter : d.SameClock d.cplAfter := by
  unfold Dev.cplAfter
  split <;> simp [Dev.SameClock]

@[simp] theorem Dev.clock_loadFails : d.SameClock d.loadFails := by
  simp [Dev.SameClock, Dev.loadFails]

@[simp] theorem Dev.clock_linkFault : d.SameClock d.linkFault := by
  simp [Dev.SameClock, Dev.linkFault]

@[simp] theorem Dev.clock_faultMotor (m : MotorIx) : d.SameClock (d.faultMotor m) := by
  simp [Dev.SameClock, Dev.faultMotor]

@[simp] theorem Dev.clock_zeroGrants (g : GroupIx) : d.SameClock (d.zeroGrants g) :=
  (d.clock_enforceGrants g {}).trans (Dev.clock_onGrp _ g _)

@[simp] theorem Dev.clock_discardPartial (p : GroupIx) : d.SameClock (d.discardPartial p) := by
  simp [Dev.SameClock, Dev.discardPartial]

@[simp] theorem Dev.clock_resumeSeq (p : GroupIx) : d.SameClock (d.resumeSeq p) := by
  simp [Dev.SameClock, Dev.resumeSeq]

@[simp] theorem Dev.clock_faultPrism (p : GroupIx) : d.SameClock (d.faultPrism p) := by
  simp [Dev.SameClock, Dev.faultPrism]

@[simp] theorem Dev.clock_dropSeg (t : TraceIx) (code : Nat) : d.SameClock (d.dropSeg t code) := by
  simp [Dev.SameClock, Dev.dropSeg]

@[simp] theorem Dev.clock_rqEnd (res : Nat) (data : Word) : d.SameClock (d.rqEnd res data) := by
  unfold Dev.rqEnd
  exact .ite ((Dev.clock_put d _ _).trans ((Dev.clock_put _ _ _).trans (Dev.clock_put _ _ _))) (.refl d)

@[simp] theorem Dev.clock_memFault : d.SameClock d.memFault := by
  simp [Dev.SameClock, Dev.memFault]

end Sys2Proof.Machine
end

section
/-! O1: the commit of a held word, a device fault that it may find included, leaves TIME and gives no host port a word to
write; so a cycle commits what the one port that holds words holds, and nothing where none does. -/

namespace Sys2Proof.Machine

open Sys2Proof

/-- TIME is the same, and a host port that holds no word holds none after. -/
def Dev.KeepsIdle (d e : Dev) : Prop := e.cycles = d.cycles ∧ ∀ j, (d.hp j).held = [] → (e.hp j).held = []

theorem Dev.KeepsIdle.refl (d : Dev) : d.KeepsIdle d := ⟨rfl, fun _ h => h⟩

theorem Dev.KeepsIdle.trans {c d e : Dev} (h : c.KeepsIdle d) (h' : d.KeepsIdle e) : c.KeepsIdle e :=
  ⟨h'.1.trans h.1, fun j hj => h'.2 j (h.2 j hj)⟩

theorem Dev.KeepsIdle.ite {c : Prop} [Decidable c] {d x y : Dev} (hx : d.KeepsIdle x) (hy : d.KeepsIdle y) :
    d.KeepsIdle (if c then x else y) := by split <;> assumption

theorem Dev.SameClock.keepsIdle {d e : Dev} (h : d.SameClock e) : d.KeepsIdle e :=
  ⟨h.1, fun j hj => by unfold Dev.hp at hj ⊢; rw [h.2, hj]⟩

variable (d : Dev)

theorem Dev.keepsIdle_each {α : Type} (l : List α) (f : Dev → α → Dev) (h : ∀ (e : Dev) (a : α), e.KeepsIdle (f e a)) :
    d.KeepsIdle (d.each l f) :=
  Dev.each_inv (P := fun e => d.KeepsIdle e) l d (.refl d) (fun e a he => he.trans (h e a))

theorem Dev.keepsIdle_onHp (k : HostIx) (f : HostPort → HostPort) (hf : ∀ x : HostPort, x.held = [] → (f x).held = []) :
    d.KeepsIdle (d.onHp k f) := by
  refine ⟨rfl, fun j hj => ?_⟩
  by_cases h : j = k
  · subst h
    rw [d.onHp_hp]
    exact hf _ hj
  · rwa [d.onHp_hp_ne f h]

/-! ### A write over the fabric -/

theorem Dev.keepsIdle_clearPend (k : HostIx) (q : Nat) (v : Word) : d.KeepsIdle (d.clearPend k q v) := by
  unfold Dev.clearPend
  dsimp only
  refine .ite (.trans ?_ (Dev.keepsIdle_onHp _ k _ fun _ h => h)) ?_
  all_goals exact Dev.SameClock.keepsIdle ⟨rfl, rfl⟩

theorem Dev.keepsIdle_commitEvent (a : Nat) (v mv : Word) : d.KeepsIdle (d.commitEvent a v mv) := by
  unfold Dev.commitEvent
  exact .ite (d.keepsIdle_clearPend _ _ v) (.ite (Dev.SameClock.keepsIdle ⟨rfl, rfl⟩) (d.clock_put a mv).keepsIdle)

theorem Dev.keepsIdle_commit (k : Master) (a : Nat) (v : Word) : d.KeepsIdle (d.commit k a v) := by
  unfold Dev.commit
  split
  · exact .refl d
  · dsimp only
    refine .ite (.refl d) (.ite (d.clock_commitSys k a v _).keepsIdle (.ite (d.clock_writeReq _).keepsIdle ?_))
    refine .ite (d.keepsIdle_commitEvent a v _) (.ite (d.clock_each _ _ Dev.clock_thermRequest).keepsIdle ?_)
    refine .ite (d.clock_commitMot a v _).keepsIdle (.ite (d.clock_commitSup a v _).keepsIdle ?_)
    refine .ite (d.clock_commitGlint a v _).keepsIdle (.ite (d.clock_commitPrism a v _).keepsIdle ?_)
    refine .ite (d.clock_commitFb a v _).keepsIdle (.ite (d.clock_commitTrace a v _).keepsIdle ?_)
    refine .ite (d.clock_commitMem a v _).keepsIdle (.ite (d.clock_rqGo v).keepsIdle ?_)
    exact .ite (d.clock_commitTest a v _).keepsIdle (d.clock_put a _).keepsIdle

theorem Dev.keepsIdle_fabWrite (k : Master) (a : Nat) (v : Word) : d.KeepsIdle (d.fabWrite k a v) := by
  unfold Dev.fabWrite
  exact .ite (d.keepsIdle_commit k a v) (.refl d)

/-! ### A device fault that cuts the host ports -/

theorem Dev.keepsIdle_statusAgain (k : HostIx) (cmde rdy : Bool) : d.KeepsIdle (d.statusAgain k cmde rdy) :=
  d.keepsIdle_onHp k _ fun _ h => h

theorem Dev.keepsIdle_hostSend (k : HostIx) (v : Word) : d.KeepsIdle (d.hostSend k v) := d.keepsIdle_onHp k _ fun _ h => h

theorem Dev.keepsIdle_hostZeros (k : HostIx) (n : Nat) : d.KeepsIdle (d.hostZeros k n) :=
  d.keepsIdle_each _ _ fun e _ => e.keepsIdle_hostSend k 0

theorem Dev.keepsIdle_pageWords (k : HostIx) (n : Nat) : d.KeepsIdle (d.pageWords k n) :=
  d.keepsIdle_each _ _ fun e v => e.keepsIdle_hostSend k v

theorem Dev.keepsIdle_hostEnd (k : HostIx) : d.KeepsIdle (d.hostEnd k) := (d.clock_put _ _).keepsIdle

theorem Dev.keepsIdle_riseFrame (k : HostIx) (x : HostArgs) : d.KeepsIdle (d.riseFrame k x) := by
  have hcause : d.SameClock (d.hostCause k 0 4) := (d.clock_cause _ _ _).trans ⟨rfl, rfl⟩
  exact .ite (.refl d) (hcause.keepsIdle.trans (Dev.keepsIdle_onHp _ k _ fun _ h => h))

theorem Dev.keepsIdle_cutReading (k : HostIx) (r : OpenRead) : d.KeepsIdle (d.cutReading k r) := by
  have hstatus : d.KeepsIdle (d.when (r.next = 0) (fun d => d.statusAgain k false true)) :=
    .ite (d.keepsIdle_statusAgain k false true) (.refl d)
  exact ((hstatus.trans (Dev.keepsIdle_hostZeros _ k _)).trans (Dev.keepsIdle_riseFrame _ k _)).trans (Dev.keepsIdle_hostEnd _ k)

theorem Dev.keepsIdle_cutParked (k : HostIx) (w : HostWait) : d.KeepsIdle (d.cutParked k w) := by
  have hstatus := d.keepsIdle_statusAgain k w.bad true
  unfold Dev.cutParked
  refine .trans (.trans ?_ (Dev.keepsIdle_riseFrame _ k _)) (Dev.keepsIdle_hostEnd _ k)
  split
  · exact hstatus.trans (Dev.keepsIdle_hostZeros _ k _)
  · exact .ite (hstatus.trans (Dev.keepsIdle_hostZeros _ k _)) (hstatus.trans (Dev.keepsIdle_pageWords _ k _))
  · exact hstatus

theorem Dev.keepsIdle_cutPort (k : HostIx) (cut : Bool) : d.KeepsIdle (d.cutPort k cut) := by
  unfold Dev.cutPort
  dsimp only
  split
  · exact (d.keepsIdle_onHp k _ fun _ _ => rfl).trans (Dev.keepsIdle_cutReading _ k _)
  · exact (d.keepsIdle_onHp k _ fun _ _ => rfl).trans (Dev.keepsIdle_cutParked _ k _)
  · exact d.keepsIdle_onHp k _ fun _ _ => rfl

theorem Dev.clock_faultGrants (g : GroupIx) :
    d.SameClock ((((d.zeroGrants g).resetRR g).snapshot g).onGrp g (fun x => { x with floorsOnly := true })) :=
  ((d.clock_zeroGrants g).trans (Dev.clock_resetRR _ g)).trans ((Dev.clock_snapshot _ g).trans (Dev.clock_onGrp _ g _))

theorem Dev.clock_faultFb (f : ChanIx) :
    d.SameClock ((d.dropSpeed f).onFb f (fun x => { x with checkDue := false, leaveDue := false })) :=
  (d.clock_dropSpeed f).trans ⟨Dev.onFb_cycles _ f _, Dev.onFb_ports _ f _⟩

theorem Dev.clock_faultTrace (t : TraceIx) :
    d.SameClock ((d.dropSeg t 1).onTrc t (fun x => { x with pend := x.pend &&& 0x7F })) :=
  (d.clock_dropSeg t 1).trans ⟨rfl, rfl⟩

theorem Dev.keepsIdle_actBlocks (cut : Vector Bool 4) : d.KeepsIdle (d.actBlocks cut) := by
  unfold Dev.actBlocks
  refine Dev.KeepsIdle.trans ?_ (Dev.clock_rqEnd _ 3 0).keepsIdle
  refine Dev.KeepsIdle.trans ?_ (Dev.clock_memFault _).keepsIdle
  refine Dev.KeepsIdle.trans ?_ (Dev.keepsIdle_each _ _ _ fun e k => e.keepsIdle_cutPort k _)
  refine Dev.SameClock.keepsIdle ?_
  refine Dev.SameClock.trans ?_ (Dev.clock_each _ _ _ Dev.clock_faultTrace)
  refine Dev.SameClock.trans ?_ (Dev.clock_each _ _ _ Dev.clock_faultFb)
  refine Dev.SameClock.trans ?_ (Dev.clock_each _ _ _ Dev.clock_faultPrism)
  refine Dev.SameClock.trans ?_ (Dev.clock_each _ _ _ Dev.clock_faultGrants)
  exact d.clock_each _ _ Dev.clock_faultMotor

theorem Dev.keepsIdle_faultBlocks (cut : Vector Bool 4) : d.KeepsIdle (d.faultBlocks cut) := by
  unfold Dev.faultBlocks
  refine Dev.KeepsIdle.trans ?_ (Dev.clock_loadFails _).keepsIdle
  refine Dev.KeepsIdle.trans ?_ (Dev.clock_bistEnd _ 4).keepsIdle
  exact (d.keepsIdle_actBlocks cut).trans (Dev.clock_linkFault _).keepsIdle

theorem Dev.clock_faultStamp (t : Option Nat) : d.SameClock { (d.inc 0x36).stamp 0x37 with faultAt := t } :=
  ⟨(Dev.stamp_cycles (d.inc 0x36) 0x37).trans (d.inc_cycles 0x36), (Dev.stamp_ports (d.inc 0x36) 0x37).trans (d.inc_ports 0x36)⟩

theorem Dev.keepsIdle_fault (finds : List DfFind) (cut : Vector Bool 4) : d.KeepsIdle (d.fault finds cut) := by
  have hcauses := (d.clock_faultCauses finds).keepsIdle
  unfold Dev.fault
  dsimp only
  generalize d.faultCauses finds = e at hcauses ⊢
  refine .ite hcauses (hcauses.trans ?_)
  refine Dev.KeepsIdle.trans ?_ (Dev.clock_cplAfter _).keepsIdle
  exact (e.clock_faultStamp _).keepsIdle.trans (Dev.keepsIdle_faultBlocks _ cut)

/-! ### The commit of a held word (R392) -/

theorem Dev.keepsIdle_writeWord (k : Master) (a : Nat) (v : Word) (err : BitVec 28) (cut : Vector Bool 4) :
    d.KeepsIdle (d.writeWord k a v err cut) := by
  unfold Dev.writeWord
  refine .ite (d.keepsIdle_fabWrite k a v) ?_
  split
  · exact d.keepsIdle_fabWrite k a _
  · exact (d.keepsIdle_fabWrite k a _).trans (Dev.clock_ceFound _ 2 a).keepsIdle
  · exact d.keepsIdle_fault _ cut

theorem Dev.keepsIdle_hostCommit (k : HostIx) (h : HeldWord) : d.KeepsIdle (d.hostCommit k h) := by
  have hwrite := d.keepsIdle_writeWord (hostMaster k) h.addr.toNat h.v h.err (cutOf k)
  exact .ite (hwrite.trans (Dev.keepsIdle_onHp _ k _ fun _ _ => rfl)) hwrite

theorem Dev.commitHeld_idle {k : HostIx} (h : (d.hp k).held = []) : d.commitHeld k = d := by
  unfold Dev.commitHeld
  rw [h]

theorem Dev.commitHeld_held {k : HostIx} {h : HeldWord} {rest : List HeldWord} (hk : (d.hp k).held = h :: rest) :
    d.commitHeld k = (d.onHp k (fun x => { x with held := rest })).hostCommit k h := by
  unfold Dev.commitHeld
  rw [hk]

theorem Dev.commitHeld_cycles (k : HostIx) : (d.commitHeld k).cycles = d.cycles := by
  cases hk : (d.hp k).held with
  | nil => rw [d.commitHeld_idle hk]
  | cons h rest => rw [d.commitHeld_held hk]; exact (Dev.keepsIdle_hostCommit _ k h).1

/-- A pass over ports that hold no words changes nothing. -/
theorem Dev.each_commitHeld_idle (l : List HostIx) (h : ∀ j ∈ l, (d.hp j).held = []) : d.each l Dev.commitHeld = d := by
  induction l with
  | nil => rfl
  | cons j l ih =>
    rw [Dev.each, List.foldl_cons, d.commitHeld_idle (h j (by simp))]
    exact ih fun i hi => h i (List.mem_cons_of_mem j hi)

/-- A pass over the ports, of which only k holds words, is the commit of port k. -/
theorem Dev.each_commitHeld_one {k : HostIx} (l : List HostIx) (hl : l.Nodup) (hk : k ∈ l)
    (hidle : ∀ j, j ≠ k → (d.hp j).held = []) (hstays : ∀ j, j ≠ k → ((d.commitHeld k).hp j).held = []) :
    d.each l Dev.commitHeld = d.commitHeld k := by
  obtain ⟨l₁, l₂, rfl⟩ := List.append_of_mem hk
  obtain ⟨hk₁, hk₂⟩ : k ∉ l₁ ∧ k ∉ l₂ := by
    rw [List.nodup_middle, List.nodup_cons, List.mem_append, not_or] at hl
    exact hl.1
  have hbefore : d.each l₁ Dev.commitHeld = d := d.each_commitHeld_idle l₁ fun j hj => hidle j (ne_of_mem_of_not_mem hj hk₁)
  have hafter : (d.commitHeld k).each l₂ Dev.commitHeld = d.commitHeld k :=
    Dev.each_commitHeld_idle _ l₂ fun j hj => hstays j (ne_of_mem_of_not_mem hj hk₂)
  unfold Dev.each at hbefore hafter ⊢
  rw [List.foldl_append, List.foldl_cons, hbefore, hafter]

/-! ### One idle cycle (R31, R392) -/

theorem Dev.idleCycle_cycles : d.idleCycle.cycles = d.cycles + 1 := by
  have hports : d.idleCycle.cycles = d.nextCycle.cycles :=
    Dev.each_inv (P := fun e => e.cycles = d.nextCycle.cycles) _ _ rfl fun e k he => (e.commitHeld_cycles k).trans he
  rw [hports, d.nextCycle_cycles]

theorem Dev.idleCycle_of_idle (h : ∀ k, (d.hp k).held = []) : d.idleCycle = d.nextCycle :=
  Dev.each_commitHeld_idle _ _ fun j _ => by rw [d.nextCycle_hp]; exact h j

theorem Dev.idleCycle_of_held {k : HostIx} {h : HeldWord} {rest : List HeldWord} (hk : (d.nextCycle.hp k).held = h :: rest)
    (hidle : ∀ j, j ≠ k → (d.nextCycle.hp j).held = []) :
    d.idleCycle = (d.nextCycle.onHp k (fun x => { x with held := rest })).hostCommit k h := by
  have hcommit := d.nextCycle.commitHeld_held hk
  rw [← hcommit]
  refine Dev.each_commitHeld_one _ _ (List.nodup_finRange 4) (List.mem_finRange k) hidle fun j hj => ?_
  rw [hcommit]
  refine (Dev.keepsIdle_hostCommit _ k h).2 j ?_
  rw [Dev.onHp_hp_ne _ _ hj]
  exact hidle j hj

theorem Dev.sub_toNat : d.sub.toNat = d.cycles % 200 := by
  unfold Dev.sub
  rw [BitVec.toNat_ofNat]
  omega

theorem Dev.time_eq : d.time = BitVec.ofNat 32 (d.cycles / 200) := rfl

theorem Dev.sub_time_succ {d e : Dev} (h : e.cycles = d.cycles + 1) (hlt : d.sub + 1 < 200) :
    e.sub = d.sub + 1 ∧ e.time = d.time := by
  have hd := d.sub_toNat
  have he := e.sub_toNat
  have hsub : d.cycles % 200 + 1 < 200 := by bv_omega
  have hdiv : (d.cycles + 1) / 200 = d.cycles / 200 := by omega
  rw [h] at he
  exact ⟨by bv_omega, by rw [e.time_eq, d.time_eq, h, hdiv]⟩

theorem Dev.sub_time_wrap {d e : Dev} (h : e.cycles = d.cycles + 1) (hge : 200 ≤ d.sub + 1) :
    e.sub = 0 ∧ e.time = d.time + 1 := by
  have hd := d.sub_toNat
  have he := e.sub_toNat
  have hsub : d.cycles % 200 = 199 := by bv_omega
  have hdiv : (d.cycles + 1) / 200 = d.cycles / 200 + 1 := by omega
  rw [h] at he
  exact ⟨by bv_omega, by rw [e.time_eq, d.time_eq, h, hdiv, BitVec.ofNat_add]; rfl⟩

/-- Settles O1: with a command in front, by the definition of a step; an idle cycle is the next cycle with one pass over the
host ports, of which the idle ones do nothing and stay idle. -/
theorem stepRunsFront : Obligations.StepRunsFront := by
  unfold Obligations.StepRunsFront
  refine ⟨fun c rest s => rfl, fun s hp => ⟨step_stopped hp, fun hr => ⟨step_idle hp hr, s.dev.idleCycle_cycles, ?_⟩⟩⟩
  exact ⟨Dev.sub_time_succ s.dev.idleCycle_cycles, Dev.sub_time_wrap s.dev.idleCycle_cycles, s.dev.idleCycle_of_idle,
    fun _ _ _ hk hidle => s.dev.idleCycle_of_held hk hidle⟩

end Sys2Proof.Machine
end

section
/-! A sample tick of phase comparators in sampled operation (R94, R197, R207). -/

namespace Sys2Proof.Machine

open Sys2Proof

theorem exec_sampleTick {s : State} (hr : s.dev.runs = true) (m : MotorIx) (u v w : Int) :
    exec (.sampleTick m u v w) s = .next { s with dev := s.dev.sampleTick m u v w } :=
  s.onCore_runs (fun d => d.sampleTick m u v w) hr

/-- The sample tick of motor 0 in a carrier period, with its phase comparators in sampled operation (PSAMP): the output of
phase U has been high since before its powered interval, which began 100 ticks ago. -/
def State.sampleAfterPowerUp : State :=
  { dev := ((((({ resetN := true, locked := true, cycles := 9800, inForce := [(aCur 0 0, 0x11)] } : Dev).onGrp 0
      (fun x => { x with running := true })).onDie 0 (fun x => { x with rdy := true })).put 0x801 0x40).put (aCur 0 5) 4) }

/-- Refutes O31: an output of sampled operation is low as its powered interval begins (R207), so a terminal voltage inside
the hysteresis, 0.9 V under a threshold of 1 V, leaves it low at the sample tick; the statement takes the output of before
the interval, which is high, and keeps it high. -/
theorem not_commutationAndSampling : ¬ Obligations.CommutationAndSampling := by
  intro h
  have hruns : State.sampleAfterPowerUp.dev.runs = true := by decide +kernel
  obtain ⟨-, -, -, -, -, hsample⟩ := h State.sampleAfterPowerUp 0 hruns (by decide +kernel)
  obtain ⟨-, hworks⟩ := hsample 900000 0 0
  obtain ⟨hsensored, -⟩ := hworks (by decide +kernel) (by decide +kernel)
  obtain ⟨d, hexec, houts, -⟩ := hsensored (by decide +kernel)
  rw [exec_sampleTick hruns] at hexec
  obtain rfl : State.sampleAfterPowerUp.dev.sampleTick 0 900000 0 0 = d :=
    congrArg State.dev (Host.Outcome.next.inj hexec)
  obtain ⟨hout, -⟩ := houts 0
  have hlow : (State.sampleAfterPowerUp.dev.sampleTick 0 900000 0 0).bit (aCur 0 5) (2 + (0 : Fin 3).1) = false := by
    decide +kernel
  have hhigh : (State.sampleAfterPowerUp.dev.windowStart 0).phaseOut 0 0 (ofPhase (900000, 0, 0) 0) = true := by
    decide +kernel
  rw [hlow, hhigh] at hout
  exact Bool.noConfusion hout

end Sys2Proof.Machine
end

section
/-! Setting the outputs of one motor: what it leaves of the other motors and of the values in force, and that the three
half-bridges then show the row of R49 that holds. -/

namespace Sys2Proof.Machine

open Sys2Proof

/-! ### What setting the outputs of one motor leaves -/

/-- `e` differs from `d` in nothing but what setting the outputs of motor m can change: no other motor, and of the values
in force only those of the gate drivers. -/
structure Dev.DrivesOf (d e : Dev) (m : MotorIx) : Prop where
  drives : d.Drives e
  others : d.SameMotors e m
  force : ∀ a, a < 0x6800 → e.iw a = d.iw a

theorem Dev.SameMotors.refl (d : Dev) (m : MotorIx) : d.SameMotors d m := fun _ _ => rfl

theorem Dev.SameMotors.trans {c d e : Dev} {m : MotorIx} (h : c.SameMotors d m) (h' : d.SameMotors e m) : c.SameMotors e m :=
  fun n hn => (h' n hn).trans (h n hn)

theorem Dev.sameMotors_onMot (d : Dev) (m : MotorIx) (f : Motor → Motor) : d.SameMotors (d.onMot m f) m :=
  fun _ hn => Dev.onMot_mot_ne d f hn

theorem Dev.sameMotors_of_motors {d e : Dev} (h : e.motors = d.motors) (m : MotorIx) : d.SameMotors e m :=
  fun n _ => by unfold Dev.mot; rw [h]

theorem Dev.DrivesOf.refl (d : Dev) (m : MotorIx) : d.DrivesOf d m := ⟨.refl d, .refl d m, fun _ _ => rfl⟩

theorem Dev.DrivesOf.trans {c d e : Dev} {m : MotorIx} (h : c.DrivesOf d m) (h' : d.DrivesOf e m) : c.DrivesOf e m :=
  ⟨h.drives.trans h'.drives, h.others.trans h'.others, fun a ha => (h'.force a ha).trans (h.force a ha)⟩

variable (d : Dev) (m : MotorIx)

theorem Dev.drivesOf_onBrg (b : BridgeIx) (f : Bridge → Bridge) : d.DrivesOf (d.onBrg b f) m :=
  ⟨d.drives_onBrg b f, .refl d m, fun _ _ => rfl⟩

theorem Dev.drivesOf_onMot (f : Motor → Motor) (h : ∀ x, (f x).sansDrive = x.sansDrive) : d.DrivesOf (d.onMot m f) m :=
  ⟨d.drives_onMot m f h, d.sameMotors_onMot m f, fun _ _ => rfl⟩

theorem Dev.iw_enforce_ne (lo hi a : Nat) (h : a < lo ∨ hi ≤ a) : (d.enforce lo hi).iw a = d.iw a := by
  show Store.get resetWord (d.inForce.copy d.words lo hi) a = d.iw a
  rw [Store.get_copy, if_neg (by omega), if_pos h]
  rfl

theorem Dev.drivesOf_enforce_aGd (b : BridgeIx) (i j : Nat) : d.DrivesOf (d.enforce (aGd b i) (aGd b j)) m :=
  ⟨d.drives_enforce _ _, .refl d m, fun a ha => d.iw_enforce_ne _ _ a (.inl (by unfold aGd; omega))⟩

theorem Dev.drivesOf_turnOn (b : BridgeIx) : d.DrivesOf (d.turnOn b) m := by
  unfold Dev.turnOn
  dsimp only
  split
  · exact (d.drivesOf_enforce_aGd m b 0 2).trans (Dev.drivesOf_onBrg _ m b _)
  · exact .refl d m

theorem Dev.drivesOf_turnOff (b : BridgeIx) (hb : motOfBridge b = m) : d.DrivesOf (d.turnOff b) m := by
  have hbrg (f : Bridge → Bridge) : d.DrivesOf ((d.enforce (aGd b 0) (aGd b 1)).onBrg b f) m :=
    (d.drivesOf_enforce_aGd m b 0 1).trans (Dev.drivesOf_onBrg _ m b f)
  unfold Dev.turnOff
  dsimp only
  split
  · exact .refl d m
  · split
    · rw [hb]
      exact (hbrg _).trans (Dev.drivesOf_onMot _ m _ fun _ => rfl)
    · exact hbrg _

theorem Dev.drivesOf_command (b : BridgeIx) (en pulse : Bool) (hb : motOfBridge b = m) :
    d.DrivesOf (d.command b en pulse) m := by
  unfold Dev.command
  dsimp only
  split
  · exact (d.drivesOf_turnOff m b hb).trans (Dev.drivesOf_turnOn _ m b)
  · exact ((d.drivesOf_onBrg m b _).trans (Dev.drivesOf_turnOff _ m b hb)).trans (Dev.drivesOf_turnOn _ m b)

theorem motOfBridge_bridgeOf (ph : Fin 3) : motOfBridge (bridgeOf m ph) = m :=
  Fin.ext (by simp only [motOfBridge, bridgeOf]; omega)

theorem bridgeOf_injective : Function.Injective (bridgeOf m) := fun i j h =>
  Fin.ext (by have := congrArg Fin.val h; simp only [bridgeOf] at this; omega)

theorem Dev.drivesOf_driveLeg (ph : Fin 3) : d.DrivesOf (d.driveLeg m ph) m :=
  (d.drivesOf_command m _ _ _ (motOfBridge_bridgeOf m ph)).trans
    (Dev.drivesOf_onMot _ m _ fun x => x.trackLow_sansDrive _ _ _)

theorem Dev.drivesOf_syncComp : d.DrivesOf (d.syncComp m) m :=
  ⟨d.drives_syncComp m, d.sameMotors_onMot m _, fun _ _ => rfl⟩

theorem Dev.drivesOf_drive : d.DrivesOf (d.drive m) m :=
  (Dev.each_inv (P := fun e => d.DrivesOf e m) _ d (.refl d m) fun e ph h => h.trans (e.drivesOf_driveLeg m ph)).trans
    (Dev.drivesOf_syncComp _ m)

theorem Dev.sameMotors_drive : d.SameMotors (d.drive m) m := (d.drivesOf_drive m).others

/-! ### What chooses the row of R49 -/

/-- A motor without the marks of its outputs and of its carrier's edges: those of the refresh counts, of the thresholds,
and of an on-time that the current latch has ended (R60, R95, R201). -/
def Motor.sansMarks (x : Motor) : Motor :=
  { x.sansDrive with
    refc := Vector.replicate 3 64, spanAt := 0, thr := (24, 24, 24), thrOld := (24, 24, 24), thrAt := 0
    thrK := (.cathr, .cathr, .cathr), car := { x.car with spanDone := false, winDone := false, limited := false } }

theorem Motor.sansMarks_of_sansDrive {x y : Motor} (h : y.sansDrive = x.sansDrive) : y.sansMarks = x.sansMarks := by
  have hcar : y.car = x.car := (congrArg Motor.car h :)
  unfold Motor.sansMarks
  rw [h, hcar]

/-- `e` differs from `d` in nothing that chooses the row of R49 for motor m or its PWM mode, and in no engine but for those
marks. -/
structure Dev.SameRows (d e : Dev) (m : MotorIx) : Prop where
  motors : ∀ n, (e.mot n).sansMarks = (d.mot n).sansMarks
  words : d.SameWords e [aCur m 4, aCur m 7]
  force : ∀ a, a < 0x6800 → e.iw a = d.iw a
  groups : e.groups = d.groups
  cycles : e.cycles = d.cycles
  resetN : e.resetN = d.resetN
  heldOff : e.heldOff = d.heldOff
  tap : e.tap = d.tap

theorem Dev.SameRows.trans {c d e : Dev} {m : MotorIx} (h : c.SameRows d m) (h' : d.SameRows e m) : c.SameRows e m :=
  ⟨fun n => (h'.motors n).trans (h.motors n), fun a ha => (h'.words a ha).trans (h.words a ha),
    fun a ha => (h'.force a ha).trans (h.force a ha), h'.groups.trans h.groups, h'.cycles.trans h.cycles,
    h'.resetN.trans h.resetN, h'.heldOff.trans h.heldOff, h'.tap.trans h.tap⟩

theorem Dev.DrivesOf.rows {d e : Dev} {m : MotorIx} (h : d.DrivesOf e m) : d.SameRows e m :=
  ⟨fun n => Motor.sansMarks_of_sansDrive (h.drives.mot n), fun a _ => h.drives.w a, h.force, h.drives.groups,
    h.drives.cycles, h.drives.resetN, h.drives.heldOff, h.drives.tap⟩

section
variable {d e : Dev} {m : MotorIx} (h : d.SameRows e m)
include h

/-- What a motor shows without its marks stays. -/
theorem Dev.SameRows.field {α : Type} (f : Motor → α) (hf : ∀ x : Motor, f x.sansMarks = f x) (n : MotorIx) :
    f (e.mot n) = f (d.mot n) := by
  rw [← hf (e.mot n), h.motors n, hf]

theorem Dev.SameRows.state (n : MotorIx) : (e.mot n).state = (d.mot n).state := h.field Motor.state (fun _ => rfl) n

theorem Dev.SameRows.drives : (e.mot m).drives = (d.mot m).drives := h.field Motor.drives (fun _ => rfl) m

/-- Outside the comparators no word has changed. -/
theorem Dev.SameRows.w {a : Nat} (ha : a < 0x7000) : e.w a = d.w a :=
  h.words a (by simp only [List.mem_cons, List.not_mem_nil, or_false, aCur]; omega)

theorem Dev.SameRows.ibit {a : Nat} (ha : a < 0x6800) (i : Nat) : e.ibit a i = d.ibit a i := by
  unfold Dev.ibit; rw [h.force a ha]

theorem Dev.SameRows.sensorless : e.sensorless m = d.sensorless m := h.ibit (by unfold aMot; omega) 3

theorem Dev.SameRows.pact : e.pact m = d.pact m := by
  unfold Dev.pact
  rw [h.sensorless, h.ibit (by unfold aMot; omega)]

theorem Dev.SameRows.pwmMode : e.pwmMode m = d.pwmMode m := by
  unfold Dev.pwmMode Dev.ifld
  rw [h.sensorless, h.force _ (by unfold aMot; omega)]

theorem Dev.SameRows.mayDrive : e.mayDrive m = d.mayDrive m := by
  have hbit {a : Nat} (ha : a < 0x7000) (i : Nat) : e.bit a i = d.bit a i := Dev.bit_congr (h.w ha) i
  unfold Dev.mayDrive Dev.domOn Dev.enabled Dev.grp
  dsimp only
  rw [h.resetN, h.heldOff, h.tap, h.groups, hbit (by decide), hbit (by decide), hbit (by unfold aMot; omega)]

theorem Dev.SameRows.level : e.level (grpOf m) = d.level (grpOf m) := Dev.fld_congr (h.w (by unfold aSup; omega)) 1 0

theorem Dev.SameRows.regenerating : e.regenerating m = d.regenerating m := by
  have hreq : (e.mot m).lastReq = (d.mot m).lastReq := h.field Motor.lastReq (fun _ => rfl) m
  have hspdv : (e.mot m).spdv = (d.mot m).spdv := h.field Motor.spdv (fun _ => rfl) m
  unfold Dev.regenerating Dev.sw Dev.iuw
  dsimp only
  rw [h.pact, h.w (by unfold aMot; omega), h.w (by unfold aMot; omega), h.force _ (by unfold aSup; omega), hreq, hspdv,
    h.state]

theorem Dev.SameRows.carTick : e.carTick m = d.carTick m := by
  unfold Dev.carTick
  rw [h.cycles, h.field (fun x => x.car.start) (fun _ => rfl) m]

end

/-! ### The outputs that a motor shows (R49, R153) -/

/-- What an engine commands a half-bridge with: ENABLE and PULSE (R153). -/
def Bridge.cmd (x : Bridge) : Bool × Bool := (x.en, x.pulse)

theorem Dev.turnOn_cmd (b c : BridgeIx) : ((d.turnOn b).brg c).cmd = (d.brg c).cmd := by
  unfold Dev.turnOn
  dsimp only
  split
  · by_cases h : c = b
    · subst h
      rw [Dev.onBrg_brg]
      rfl
    · rw [Dev.onBrg_brg_ne _ _ h]
      rfl
  · rfl

theorem Dev.turnOff_cmd (b c : BridgeIx) : ((d.turnOff b).brg c).cmd = (d.brg c).cmd := by
  have hbrg (hs ls : Bool) : (((d.enforce (aGd b 0) (aGd b 1)).onBrg b (fun x =>
      { x with hs := hs, ls := ls, offAt := some d.cycles, offHs := x.hs, bsuv := x.bsuv && hs })).brg c).cmd =
        (d.brg c).cmd := by
    by_cases h : c = b
    · subst h
      rw [Dev.onBrg_brg]
      rfl
    · rw [Dev.onBrg_brg_ne _ _ h]
      rfl
  unfold Dev.turnOff
  dsimp only
  split
  · rfl
  · split
    · exact hbrg _ _
    · exact hbrg _ _

theorem Dev.command_cmd (b c : BridgeIx) (en pulse : Bool) :
    ((d.command b en pulse).brg c).cmd = if c = b then (en, pulse) else (d.brg c).cmd := by
  unfold Dev.command
  dsimp only
  split
  case isTrue h =>
    rw [Dev.turnOn_cmd, Dev.turnOff_cmd]
    split
    · rename_i hc
      rw [hc]
      exact Prod.ext h.1 h.2
    · rfl
  case isFalse =>
    rw [Dev.turnOn_cmd, Dev.turnOff_cmd]
    split
    · rename_i hc
      rw [hc, Dev.onBrg_brg]
      rfl
    · rename_i hc
      rw [Dev.onBrg_brg_ne _ _ hc]

theorem Dev.driveLeg_cmd (ph : Fin 3) (c : BridgeIx) :
    ((d.driveLeg m ph).brg c).cmd = if c = bridgeOf m ph then d.legOut m ph else (d.brg c).cmd := by
  unfold Dev.driveLeg
  rw [Dev.onMot_brg, Dev.command_cmd]

/-- The row of R49 that holds does not depend on what setting the outputs changes. -/
theorem Dev.DrivesOf.legOut {d e : Dev} {m : MotorIx} (h : d.DrivesOf e m) (ph : Fin 3) :
    e.legOut m ph = d.legOut m ph := by
  have hpat : e.patternLeg m ph = d.patternLeg m ph := by
    unfold Dev.patternLeg
    dsimp only
    rw [h.rows.pwmMode, h.rows.carTick, h.drives.bit, h.drives.mot_sector, h.drives.mot_drvRev, h.drives.mot_car]
  unfold Dev.legOut
  dsimp only
  rw [h.rows.mayDrive, h.rows.level, h.rows.regenerating, h.rows.pact, hpat, h.rows.drives, h.drives.mot_state,
    h.drives.mot_act, h.drives.mot_clampNow, h.drives.mot_forced]

/-- The half-bridges of motor m are commanded with the row of R49 that holds. -/
def Dev.Shows : Prop := ∀ ph, (d.brg (bridgeOf m ph)).cmd = d.legOut m ph

theorem Dev.drive_shows : (d.drive m).Shows m := by
  intro ph
  rw [(d.drivesOf_drive m).legOut ph]
  refine Dev.each_once (I := fun e => e.legOut m ph = d.legOut m ph)
    (P := fun e => (e.brg (bridgeOf m ph)).cmd = d.legOut m ph) _ (List.nodup_finRange 3) (List.mem_finRange ph) d rfl
    (fun e c _ he => ((e.drivesOf_driveLeg m c).legOut ph).trans he) (fun e he => ?_) (fun e c hc he => ?_)
  · rw [Dev.driveLeg_cmd, if_pos rfl, he]
  · rw [Dev.driveLeg_cmd, if_neg fun h => hc (bridgeOf_injective m h).symm, he]

end Sys2Proof.Machine
end

section
/-! The PWM edges and the outputs of R49, row by row (R49, R51, R53, R55 to R61). -/

namespace Sys2Proof.Machine

open Sys2Proof

/-! ### The marks of an edge (R60, R95, R201) -/

/-- `e` differs from `d` in the outputs of motor m and in the marks of its carrier's edges alone, and in no word. -/
structure Dev.MarksOnly (d e : Dev) (m : MotorIx) : Prop where
  rows : d.SameRows e m
  words : e.words = d.words

theorem Dev.MarksOnly.trans {c d e : Dev} {m : MotorIx} (h : c.MarksOnly d m) (h' : d.MarksOnly e m) : c.MarksOnly e m :=
  ⟨h.rows.trans h'.rows, h'.words.trans h.words⟩

variable (d : Dev) (m : MotorIx)

theorem Dev.marksOnly_onMot (f : Motor → Motor) (hf : ∀ x, (f x).sansMarks = x.sansMarks) : d.MarksOnly (d.onMot m f) m := by
  refine ⟨⟨fun n => ?_, fun _ _ => rfl, fun _ _ => rfl, rfl, rfl, rfl, rfl, rfl⟩, rfl⟩
  by_cases hn : n = m
  · subst hn
    rw [Dev.onMot_mot, hf]
  · rw [Dev.onMot_mot_ne _ _ hn]

theorem Dev.marksOnly_refl : d.MarksOnly d m := ⟨(Dev.DrivesOf.refl d m).rows, rfl⟩

theorem Dev.marksOnly_drive : d.MarksOnly (d.drive m) m := ⟨(d.drivesOf_drive m).rows, d.drive_words m⟩

theorem Motor.judgeRefresh_sansMarks (x : Motor) (now : Nat) : (x.judgeRefresh now).sansMarks = x.sansMarks := rfl

theorem Motor.newThr_sansMarks (x : Motor) (now : Nat) (t : Nat × Nat × Nat) : (x.newThr now t).sansMarks = x.sansMarks := by
  unfold Motor.newThr
  split <;> rfl

theorem Dev.marksOnly_spanCheck : d.MarksOnly (d.spanCheck m) m := by
  unfold Dev.spanCheck
  dsimp only
  split
  · exact d.marksOnly_onMot m _ fun x => x.judgeRefresh_sansMarks _
  · exact d.marksOnly_refl m

theorem Dev.marksOnly_limitCheck : d.MarksOnly (d.limitCheck m) m := by
  unfold Dev.limitCheck
  split
  · exact d.marksOnly_onMot m _ fun _ => rfl
  · exact d.marksOnly_refl m

theorem Dev.marksOnly_windowStart : d.MarksOnly (d.windowStart m) m := by
  unfold Dev.windowStart
  dsimp only
  split
  · refine d.marksOnly_onMot m _ fun x => ?_
    unfold Motor.newThr
    split <;> rfl
  · exact d.marksOnly_refl m

/-! ### The current latch (R201) -/

theorem Dev.sameRows_put {a : Nat} (ha : a ∈ [aCur m 4, aCur m 7]) (v : Word) : d.SameRows (d.put a v) m :=
  ⟨fun _ => rfl, fun _ hb => d.w_put_ne v fun e => hb (e ▸ ha), fun _ _ => rfl, rfl, rfl, rfl, rfl, rfl⟩

theorem Dev.sameRows_setB {a : Nat} (ha : a ∈ [aCur m 4, aCur m 7]) (i : Nat) : d.SameRows (d.setB a i) m :=
  ⟨fun _ => rfl, (d.sameRows_put m ha _).words, fun _ _ => rfl, rfl, rfl, rfl, rfl, rfl⟩

theorem Dev.sameRows_inc {a : Nat} (ha : a ∈ [aCur m 4, aCur m 7]) : d.SameRows (d.inc a) m := d.sameRows_put m ha _

theorem Dev.sameRows_judgeLimit : d.SameRows (d.judgeLimit m) m := by
  unfold Dev.judgeLimit
  dsimp only
  split
  · have hlatch : d.SameRows ((d.setB (aCur m 4) 0).inc (aCur m 7)) m :=
      (d.sameRows_setB m (by simp) 0).trans (Dev.sameRows_inc _ m (by simp))
    refine Dev.SameRows.trans (hlatch.trans ?_) (Dev.marksOnly_drive _ m).rows
    refine (Dev.marksOnly_onMot _ m _ ?_).rows
    exact fun _ => rfl
  · exact (d.marksOnly_refl m).rows

/-- A low output of the current comparator sets no latch. -/
theorem Dev.judgeLimit_of_low (h : d.bit (aCur m 5) 0 = false) : d.judgeLimit m = d := by
  unfold Dev.judgeLimit Dev.curHigh
  simp [h]

theorem Dev.judgeLimit_shows (h : d.Shows m) : (d.judgeLimit m).Shows m := by
  unfold Dev.judgeLimit
  dsimp only
  split
  · exact Dev.drive_shows _ m
  · exact h

/-! ### A PWM edge -/

variable {d m}

theorem Dev.pwmEdge_eq (hr : d.runs = true) (hg : (d.grp (grpOf m)).running = true) :
    d.pwmEdge m = ((((d.spanCheck m).limitCheck m).windowStart m).drive m).judgeLimit m := by
  unfold Dev.pwmEdge
  rw [hr, hg]
  rfl

theorem Dev.pwmEdge_marks (d : Dev) (m : MotorIx) :
    d.MarksOnly ((((d.spanCheck m).limitCheck m).windowStart m).drive m) m :=
  (((d.marksOnly_spanCheck m).trans (Dev.marksOnly_limitCheck _ m)).trans (Dev.marksOnly_windowStart _ m)).trans
    (Dev.marksOnly_drive _ m)

theorem Dev.pwmEdge_rows (hr : d.runs = true) (hg : (d.grp (grpOf m)).running = true) : d.SameRows (d.pwmEdge m) m := by
  rw [Dev.pwmEdge_eq hr hg]
  exact (d.pwmEdge_marks m).rows.trans (Dev.sameRows_judgeLimit _ m)

theorem Dev.pwmEdge_shows (hr : d.runs = true) (hg : (d.grp (grpOf m)).running = true) : (d.pwmEdge m).Shows m := by
  rw [Dev.pwmEdge_eq hr hg]
  exact Dev.judgeLimit_shows _ m (Dev.drive_shows _ m)

theorem Dev.pwmEdge_words (hr : d.runs = true) (hg : (d.grp (grpOf m)).running = true)
    (hlow : d.bit (aCur m 5) 0 = false) : (d.pwmEdge m).words = d.words := by
  have hwords := (d.pwmEdge_marks m).words
  rw [Dev.pwmEdge_eq hr hg, Dev.judgeLimit_of_low _ m ((Dev.bit_congr (Dev.w_of_words hwords _) 0).trans hlow)]
  exact hwords

/-! ### The rows of R49 -/

theorem Dev.legOut_off (h : d.mayDrive m = false) (ph : Fin 3) : d.legOut m ph = (false, false) := by
  unfold Dev.legOut
  simp [h]

theorem Dev.legOut_fault (h : d.mayDrive m = true) (hs : (d.mot m).state = .fault) (ph : Fin 3) :
    d.legOut m ph = match (d.mot m).act with
      | .float => (false, false)
      | .clamp => (true, false)
      | .floatThenClamp => ((d.mot m).clampNow, false) := by
  unfold Dev.legOut
  simp only [h, hs, if_true, Bool.not_true, Bool.false_eq_true, if_false]
  cases (d.mot m).act
  · rfl
  · rfl
  · cases (d.mot m).clampNow <;> rfl

/-- The ladder takes the outputs from the engine: OV3, or OV2 for a motor that regenerates (R49, R190). -/
def Dev.Clamped (d : Dev) (m : MotorIx) : Prop :=
  d.level (grpOf m) = 3 ∨ d.level (grpOf m) = 2 ∧ d.regenerating m = true

theorem Dev.legOut_clamped (h : d.mayDrive m = true) (hs : (d.mot m).state ≠ .fault) (hc : d.Clamped m) (ph : Fin 3) :
    d.legOut m ph = (true, false) := by
  have hrow : (decide (d.level (grpOf m) = 3) || (decide (d.level (grpOf m) = 2) && d.regenerating m)) = true := by
    obtain h3 | ⟨h2, hg⟩ := hc
    · simp [h3]
    · simp [h2, hg]
  unfold Dev.legOut
  simp [h, hs, hrow]

theorem Dev.legOut_brake (h : d.mayDrive m = true) (hs : (d.mot m).state = .brake) (ph : Fin 3) :
    d.legOut m ph = (true, false) := by
  unfold Dev.legOut
  simp [h, hs]

theorem Dev.not_clamped (h : d.level (grpOf m) ≤ 1 ∨ d.level (grpOf m) = 2 ∧ d.regenerating m = false) :
    (decide (d.level (grpOf m) = 3) || (decide (d.level (grpOf m) = 2) && d.regenerating m)) = false := by
  obtain h | ⟨h2, hg⟩ := h
  · simp only [Bool.or_eq_false_iff, Bool.and_eq_false_iff, decide_eq_false_iff_not]
    omega
  · simp [h2, hg]

/-- Below the ladder's clamp, a motor in REVPEND floats or clamps by PACT; one that does not drive floats, and one that
drives shows its pattern, with the high sides that are forced held low. -/
theorem Dev.legOut_unclamped (h : d.mayDrive m = true)
    (hl : d.level (grpOf m) ≤ 1 ∨ d.level (grpOf m) = 2 ∧ d.regenerating m = false) (hf : (d.mot m).state ≠ .fault)
    (hb : (d.mot m).state ≠ .brake) (ph : Fin 3) :
    d.legOut m ph =
      if (d.mot m).state = .revpend then (d.pact m, false)
      else if (d.mot m).drives then ((d.patternLeg m ph).1, (d.patternLeg m ph).2 && !(d.mot m).forced[ph])
      else (false, false) := by
  unfold Dev.legOut
  simp only [h, hf, hb, Dev.not_clamped hl, if_false, Bool.not_true, Bool.false_eq_true]
  cases d.pact m <;> rfl

/-! ### The pattern of a sector with the PWM modes (R51, R53) -/

theorem legs_ne (s : Nat) (rev : Bool) : (legs s rev).1 ≠ (legs s rev).2.1 := by
  unfold legs
  have hpos : (sectorLegs s).1 ≠ (sectorLegs s).2.1 := by
    unfold sectorLegs
    split <;> decide
  cases rev
  · exact hpos
  · exact hpos.symm

/-- The + and the − leg of the present sector. -/
def Motor.plus (x : Motor) : Fin 3 := (legs x.sector x.drvRev).1

def Motor.minus (x : Motor) : Fin 3 := (legs x.sector x.drvRev).2.1

theorem Motor.minus_ne_plus (x : Motor) : x.minus ≠ x.plus := (legs_ne x.sector x.drvRev).symm

/-- The PWM leg is in an on-time that may run: no on-time begins while the current latch is set (R202). -/
def Dev.onNow (d : Dev) (m : MotorIx) : Bool := (d.mot m).car.inOn (d.carTick m) && !d.bit (aCur m 4) 0

theorem Dev.patternLeg_float {ph : Fin 3} (hp : ph ≠ (d.mot m).plus) (hn : ph ≠ (d.mot m).minus) :
    d.patternLeg m ph = (false, false) := by
  unfold Motor.plus at hp
  unfold Motor.minus at hn
  unfold Dev.patternLeg
  dsimp only
  split <;> simp [hp, hn]

theorem Dev.patternLeg_hpwm (h : d.pwmMode m = .hpwm) :
    d.patternLeg m (d.mot m).plus = (d.onNow m || (d.mot m).car.inRefresh (d.carTick m), d.onNow m) ∧
    d.patternLeg m (d.mot m).minus = (true, false) := by
  have hne := (d.mot m).minus_ne_plus
  unfold Motor.minus Motor.plus at *
  unfold Dev.patternLeg Dev.onNow
  simp only [h, if_true, hne, if_false, and_true]
  cases (d.mot m).car.inOn (d.carTick m) && !d.bit (aCur m 4) 0 <;>
    cases (d.mot m).car.inRefresh (d.carTick m) <;> rfl

theorem Dev.patternLeg_lpwm (h : d.pwmMode m = .lpwm) :
    d.patternLeg m (d.mot m).plus = (true, !(d.mot m).car.inRefresh (d.carTick m)) ∧
    d.patternLeg m (d.mot m).minus = (d.onNow m, false) := by
  have hne := (d.mot m).minus_ne_plus.symm
  unfold Motor.minus Motor.plus at *
  unfold Dev.patternLeg Dev.onNow
  simp only [h, if_true, hne, if_false, true_and]
  cases (d.mot m).car.inOn (d.carTick m) && !d.bit (aCur m 4) 0 <;> rfl

theorem Dev.patternLeg_comp (h : d.pwmMode m = .comp) :
    d.patternLeg m (d.mot m).plus = (true, (d.mot m).car.inSpan (d.carTick m) && !d.bit (aCur m 4) 0) ∧
    d.patternLeg m (d.mot m).minus = (true, false) := by
  have hne := (d.mot m).minus_ne_plus
  unfold Motor.minus Motor.plus at *
  unfold Dev.patternLeg
  simp only [h, if_true, hne, if_false, and_self]

end Sys2Proof.Machine
end

section
/-! Carrier starts, and the statement on carriers and outputs (R49, R54 to R62). -/

namespace Sys2Proof.Machine

open Sys2Proof

/-! ### The on-time of a period (R55, R57, R59) -/

theorem onMax_le (per ws wr : Nat) : onMax per ws wr ≤ per := by
  unfold onMax
  split <;> omega

/-- An interval of a period of `per` ticks, in which neither it nor the gap around it is shorter than 60 ticks (R57). -/
def OnTimeFits (per b e : Nat) : Prop :=
  b ≤ e ∧ e ≤ per ∧ (e = b ∨ b + 60 ≤ e) ∧ (e - b = per ∨ e - b + 60 ≤ per)

theorem onTime_fits (align : Bool) {per n : Nat} (hn : n ≤ per) (hper : 60 ≤ per) :
    OnTimeFits per (onTime align per n).1 (onTime align per n).2 := by
  unfold OnTimeFits onTime
  dsimp only
  cases align <;> simp only [if_true, Bool.false_eq_true, if_false] <;> split <;> (try split) <;> omega

/-! ### A carrier start (R55) -/

variable (d : Dev) (m : MotorIx)

/-- The refresh counts of a period that has not judged its span are judged at its end (R60). -/
def Dev.closeSpan : Dev := if !(d.mot m).car.spanDone then d.onMot m (fun y => y.judgeRefresh d.cycles) else d

theorem Dev.marksOnly_closeSpan : d.MarksOnly (d.closeSpan m) m := by
  unfold Dev.closeSpan
  split
  · exact d.marksOnly_onMot m _ fun x => x.judgeRefresh_sansMarks _
  · exact d.marksOnly_refl m

theorem Dev.each_motors {α : Type} (l : List α) (f : Dev → α → Dev) (h : ∀ (e : Dev) (a : α), (f e a).motors = e.motors) :
    (d.each l f).motors = d.motors :=
  Dev.each_inv (P := fun e => e.motors = d.motors) l d rfl fun e a he => (h e a).trans he

theorem Dev.carrierGlint_motors : (d.carrierGlint m).motors = d.motors := by
  have hglint : (d.enforceGlint m).motors = d.motors :=
    (Dev.each_motors _ _ _ fun e ph => e.putB_motors _ _ _).trans (d.putB_motors _ _ _)
  unfold Dev.carrierGlint
  dsimp only
  rw [Dev.each_motors _ _ _ fun e ph => e.putB_motors _ _ _]
  split
  · exact hglint
  · exact (Dev.putB_motors _ _ _ _).trans hglint

/-- What a new period begins with: the present cycle, the group's length, an on-time that fits, no leg forced, and the
marks of the period before it (R54 to R62). -/
structure Motor.Begins (y x : Motor) (now per : Nat) : Prop where
  start : y.car.start = now
  len : y.car.len = per
  onTime : OnTimeFits y.car.len y.car.onBeg y.car.onEnd
  forced : y.forced = Vector.replicate 3 false
  ceilhit : y.ceilhit = x.car.hit
  refp : y.refp = (x.car.refDue && x.car.drove.getD x.drives)

theorem Dev.newPeriod_begins (hper : 60 ≤ (d.grp (grpOf m)).period) :
    ((d.newPeriod m).mot m).Begins (d.mot m) d.cycles (d.grp (grpOf m)).period := by
  unfold Dev.newPeriod
  dsimp only
  rw [Dev.onMot_mot]
  exact ⟨rfl, rfl, onTime_fits _ ((min_le_right _ _).trans (onMax_le _ _ _)) hper, rfl, rfl, rfl⟩

theorem Dev.newPeriod_state (n : MotorIx) : ((d.newPeriod m).mot n).state = (d.mot n).state := by
  unfold Dev.newPeriod
  refine congrFun (d.mst_onMot m _ ?_) n
  exact fun _ => rfl

variable {d m}

/-- The beginning of a period does not see the marks of its edges. -/
theorem Motor.Begins.congr {x x' y y' : Motor} {now per : Nat} (h : y.Begins x now per)
    (hy : y'.sansMarks = y.sansMarks) (hx : x'.sansMarks = x.sansMarks) : y'.Begins x' now per := by
  have field {α : Type} {a b : Motor} (hab : a.sansMarks = b.sansMarks) (f : Motor → α)
      (hf : ∀ z : Motor, f z.sansMarks = f z) : f a = f b := by rw [← hf a, hab, hf]
  have hbeg : y'.car.onBeg = y.car.onBeg := field hy (fun z => z.car.onBeg) fun _ => rfl
  have hend : y'.car.onEnd = y.car.onEnd := field hy (fun z => z.car.onEnd) fun _ => rfl
  have hlen : y'.car.len = y.car.len := field hy (fun z => z.car.len) fun _ => rfl
  refine ⟨?_, ?_, ?_, ?_, ?_, ?_⟩
  · exact (field hy (fun z => z.car.start) fun _ => rfl).trans h.start
  · exact hlen.trans h.len
  · rw [hlen, hbeg, hend]
    exact h.onTime
  · exact (field hy Motor.forced fun _ => rfl).trans h.forced
  · exact ((field hy Motor.ceilhit fun _ => rfl).trans h.ceilhit).trans (field hx (fun z => z.car.hit) fun _ => rfl).symm
  · exact ((field hy Motor.refp fun _ => rfl).trans h.refp).trans
      (field hx (fun z => z.car.refDue && z.car.drove.getD z.drives) fun _ => rfl).symm

theorem Dev.carrierStart_eq (hr : d.runs = true) (hg : (d.grp (grpOf m)).running = true)
    (ht : (d.mot m).car.start + (d.mot m).car.len ≤ d.cycles) :
    d.carrierStart m = (((((d.closeSpan m).windowStart m).newPeriod m).carrierGlint m).limitCheck m |>.drive m).judgeLimit m := by
  unfold Dev.carrierStart
  dsimp only
  rw [hr, hg, decide_eq_true ht]
  rfl

theorem Dev.carrierStart_early (ht : d.cycles < (d.mot m).car.start + (d.mot m).car.len) : d.carrierStart m = d := by
  unfold Dev.carrierStart
  dsimp only
  rw [decide_eq_false (by omega), Bool.and_false]
  rfl

/-- A carrier start begins a period, and leaves every engine in its state. -/
theorem Dev.carrierStart_begins (hr : d.runs = true) (hg : (d.grp (grpOf m)).running = true)
    (hper : 60 ≤ (d.grp (grpOf m)).period) (ht : (d.mot m).car.start + (d.mot m).car.len ≤ d.cycles) :
    ((d.carrierStart m).mot m).Begins (d.mot m) d.cycles (d.grp (grpOf m)).period ∧
      ∀ n, ((d.carrierStart m).mot n).state = (d.mot n).state := by
  have hpre : d.SameRows ((d.closeSpan m).windowStart m) m :=
    ((d.marksOnly_closeSpan m).trans (Dev.marksOnly_windowStart _ m)).rows
  rw [Dev.carrierStart_eq hr hg ht]
  generalize (d.closeSpan m).windowStart m = p at hpre ⊢
  have hglint (n : MotorIx) : (((p.newPeriod m).carrierGlint m).mot n) = (p.newPeriod m).mot n := by
    unfold Dev.mot
    rw [Dev.carrierGlint_motors]
  have hpost := ((Dev.marksOnly_limitCheck ((p.newPeriod m).carrierGlint m) m).trans (Dev.marksOnly_drive _ m)).rows.trans
    (Dev.sameRows_judgeLimit _ m)
  have hgrp : p.grp (grpOf m) = d.grp (grpOf m) := by unfold Dev.grp; rw [hpre.groups]
  have hbegins := p.newPeriod_begins m (by rw [hgrp]; exact hper)
  rw [hgrp, hpre.cycles] at hbegins
  refine ⟨hbegins.congr ?_ (hpre.motors m).symm, fun n => ?_⟩
  · rw [hpost.motors m, hglint]
  · rw [hpost.state, hglint, Dev.newPeriod_state, hpre.state]

/-! ### The statement -/

theorem exec_carrierStart {s : State} (hr : s.dev.runs = true) (m : MotorIx) :
    exec (.carrierStart m) s = .next { s with dev := s.dev.carrierStart m } := s.onCore_runs (fun d => d.carrierStart m) hr

theorem exec_pwmEdge {s : State} (hr : s.dev.runs = true) (m : MotorIx) :
    exec (.pwmEdge m) s = .next { s with dev := s.dev.pwmEdge m } := s.onCore_runs (fun d => d.pwmEdge m) hr

/-- ENABLE and PULSE of a leg that the outputs show. -/
theorem Dev.Shows.leg {e : Dev} (h : e.Shows m) {ph : Fin 3} {o : Bool × Bool} (ho : e.legOut m ph = o) :
    (e.brg (bridgeOf m ph)).en = o.1 ∧ (e.brg (bridgeOf m ph)).pulse = o.2 :=
  ⟨congrArg Prod.fst ((h ph).trans ho), congrArg Prod.snd ((h ph).trans ho)⟩

theorem Dev.Shows.pattern {e : Dev} (h : e.Shows m) {ph : Fin 3} {o : Bool × Bool} {forced : Bool}
    (hleg : e.legOut m ph = ((e.patternLeg m ph).1, (e.patternLeg m ph).2 && !forced)) (ho : e.patternLeg m ph = o) :
    (e.brg (bridgeOf m ph)).en = o.1 ∧ (e.brg (bridgeOf m ph)).pulse = (o.2 && !forced) :=
  h.leg (hleg.trans (by rw [ho]))

/-- A motor that coasts, catches, or starts without driving is in no state with a row of its own (R49). -/
theorem Motor.floats {x : Motor} (h : x.state = .coast ∨ x.state = .catching ∨ x.state = .start ∧
    x.phase ≠ .align1 ∧ x.phase ≠ .align2 ∧ x.phase ≠ .ramp) :
    x.drives = false ∧ x.state ≠ .fault ∧ x.state ≠ .brake ∧ x.state ≠ .revpend := by
  obtain h | h | ⟨h, h1, h2, h3⟩ := h
  · simp [Motor.drives, h]
  · simp [Motor.drives, h]
  · simp [Motor.drives, h, h1, h2, h3]

/-- A motor that drives shows the pattern of its sector with the PWM mode, where the current comparator is low. -/
theorem Dev.pwmEdge_pattern (hr : d.runs = true) (hg : (d.grp (grpOf m)).running = true) (hmay : d.mayDrive m = true)
    (hl : d.level (grpOf m) ≤ 1 ∨ d.level (grpOf m) = 2 ∧ d.regenerating m = false) (hdrv : (d.mot m).drives = true)
    (ph : Fin 3) :
    (d.pwmEdge m).legOut m ph =
      (((d.pwmEdge m).patternLeg m ph).1, ((d.pwmEdge m).patternLeg m ph).2 && !(d.mot m).forced[ph]) := by
  have rows := Dev.pwmEdge_rows hr hg
  have hforced : ((d.pwmEdge m).mot m).forced = (d.mot m).forced := rows.field Motor.forced (fun _ => rfl) m
  have hne (st : MState) (h : st ≠ .run) (h' : st ≠ .start) : ((d.pwmEdge m).mot m).state ≠ st := by
    rw [rows.state]
    rintro rfl
    simp [Motor.drives, h, h'] at hdrv
  rw [Dev.legOut_unclamped (rows.mayDrive.trans hmay) (by rw [rows.level, rows.regenerating]; exact hl)
    (hne _ (by decide) (by decide)) (hne _ (by decide) (by decide)), if_neg (hne _ (by decide) (by decide)),
    if_pos (rows.drives.trans hdrv), hforced]

/-- Settles O30: a carrier start by what a new period begins with; a PWM edge by the row of R49 that its outputs show. -/
theorem carriersAndOutputs : Obligations.CarriersAndOutputs := by
  intro s m hr hg hper
  refine ⟨fun ht => ?_, fun ht => ?_, _, exec_pwmEdge hr m, ?_⟩
  · obtain ⟨hbegins, hstate⟩ := Dev.carrierStart_begins hr hg hper ht
    obtain ⟨hle, hlen, hon, hoff⟩ := hbegins.onTime
    exact ⟨_, exec_carrierStart hr m, hbegins.start, hbegins.len, hle, hlen, hon, hoff, hbegins.forced, hbegins.ceilhit,
      hbegins.refp, hstate⟩
  · rw [exec_carrierStart hr, Dev.carrierStart_early ht]
  have rows := Dev.pwmEdge_rows hr hg
  have shows := Dev.pwmEdge_shows hr hg
  have hpattern := Dev.pwmEdge_pattern hr hg
  have hwords := Dev.pwmEdge_words hr hg
  generalize s.dev.pwmEdge m = e at rows shows hpattern hwords ⊢
  refine ⟨rows.state, rows.words, fun hlow a => Dev.w_of_words (hwords hlow) a, fun ph => ?_⟩
  have hact : (e.mot m).act = (s.dev.mot m).act := rows.field Motor.act (fun _ => rfl) m
  have hclamp : (e.mot m).clampNow = (s.dev.mot m).clampNow := rows.field Motor.clampNow (fun _ => rfl) m
  refine ⟨fun hoff => ?_, fun hs ha => ?_, fun hmay hs ha => ?_, fun hmay hs => ?_, fun hmay hs hov => ?_,
    fun hmay hl => ⟨fun hs => ?_, fun hs => ?_, fun hdrv hlow => ?_⟩⟩
  · exact (shows.leg (Dev.legOut_off (rows.mayDrive.trans hoff) ph)).1
  · cases hmay : e.mayDrive m
    · exact (shows.leg (Dev.legOut_off hmay ph)).1
    · have hleg := Dev.legOut_fault hmay ((rows.state m).trans hs) ph
      rw [hact, ha] at hleg
      exact (shows.leg hleg).1
  · have hleg := Dev.legOut_fault (rows.mayDrive.trans hmay) ((rows.state m).trans hs) ph
    rw [hact, ha, hclamp] at hleg
    exact shows.leg hleg
  · obtain ⟨hs, ha⟩ | hs := hs
    · have hleg := Dev.legOut_fault (rows.mayDrive.trans hmay) ((rows.state m).trans hs) ph
      rw [hact, ha] at hleg
      exact shows.leg hleg
    · exact shows.leg (Dev.legOut_brake (rows.mayDrive.trans hmay) ((rows.state m).trans hs) ph)
  · refine shows.leg (Dev.legOut_clamped (rows.mayDrive.trans hmay) (by rwa [rows.state]) ?_ ph)
    rwa [Dev.Clamped, rows.level, rows.regenerating]
  · have hleg := Dev.legOut_unclamped (rows.mayDrive.trans hmay) (by rwa [rows.level, rows.regenerating])
      (by rw [rows.state, hs]; decide) (by rw [rows.state, hs]; decide) ph
    rw [if_pos ((rows.state m).trans hs), rows.pact] at hleg
    exact shows.leg hleg
  · obtain ⟨hdrv, hfault, hbrake, hrevpend⟩ := Motor.floats hs
    have hleg := Dev.legOut_unclamped (rows.mayDrive.trans hmay) (by rwa [rows.level, rows.regenerating])
      (by rwa [rows.state]) (by rwa [rows.state]) ph
    rw [if_neg (by rwa [rows.state]), rows.drives, hdrv, if_neg Bool.false_ne_true] at hleg
    exact (shows.leg hleg).1
  intro leg free car on x
  have hleg := hpattern hmay hl hdrv ph
  have hplus : (e.mot m).plus = leg.1 := rows.field Motor.plus (fun _ => rfl) m
  have hminus : (e.mot m).minus = leg.2.1 := rows.field Motor.minus (fun _ => rfl) m
  have hlatch : e.bit (aCur m 4) 0 = s.dev.bit (aCur m 4) 0 := Dev.bit_congr (Dev.w_of_words (hwords hlow) _) 0
  have hon : e.onNow m = on := by rw [Dev.onNow, rows.carTick, hlatch]
  refine ⟨fun hp hn => ?_, fun hmode => ⟨fun hp => ?_, fun hn => ?_⟩, fun hmode => ⟨fun hp => ?_, fun hn => ?_⟩,
    fun hmode => ⟨fun hp => ?_, fun hn => ?_⟩⟩
  · exact (shows.pattern hleg (Dev.patternLeg_float (hplus ▸ hp) (hminus ▸ hn))).1
  · obtain ⟨hout, -⟩ := Dev.patternLeg_hpwm (rows.pwmMode.trans hmode)
    rw [hplus, ← hp, hon, rows.carTick] at hout
    obtain ⟨hen, hpulse⟩ := shows.pattern hleg hout
    exact ⟨hen, hpulse.trans (Bool.and_assoc _ _ _)⟩
  · obtain ⟨-, hout⟩ := Dev.patternLeg_hpwm (rows.pwmMode.trans hmode)
    rw [hminus, ← hn] at hout
    exact shows.pattern hleg hout
  · obtain ⟨hout, -⟩ := Dev.patternLeg_lpwm (rows.pwmMode.trans hmode)
    rw [hplus, ← hp, rows.carTick] at hout
    exact shows.pattern hleg hout
  · obtain ⟨-, hout⟩ := Dev.patternLeg_lpwm (rows.pwmMode.trans hmode)
    rw [hminus, ← hn, hon] at hout
    exact shows.pattern hleg hout
  · obtain ⟨hout, -⟩ := Dev.patternLeg_comp (rows.pwmMode.trans hmode)
    rw [hplus, ← hp, rows.carTick, hlatch] at hout
    obtain ⟨hen, hpulse⟩ := shows.pattern hleg hout
    exact ⟨hen, hpulse.trans (Bool.and_assoc _ _ _)⟩
  · obtain ⟨-, hout⟩ := Dev.patternLeg_comp (rows.pwmMode.trans hmode)
    rw [hminus, ← hn] at hout
    exact shows.pattern hleg hout

end Sys2Proof.Machine
end

section
/-! Rules of the commands of a motor: what a change of state shows, and the writes of CTRL, FLT and HDEM. -/

namespace Sys2Proof.Machine

open Sys2Proof

/-! ### Words that stay -/

theorem Dev.SameWords.trans {c d e : Dev} {l : List Nat} (h : c.SameWords d l) (h' : d.SameWords e l) : c.SameWords e l :=
  fun a ha => (h' a ha).trans (h a ha)

theorem Dev.sameWords_of_words {d e : Dev} (h : e.words = d.words) (l : List Nat) : d.SameWords e l :=
  fun a _ => Dev.w_of_words h a

theorem Dev.sameWords_put (d : Dev) {a : Nat} {l : List Nat} (v : Word) (h : a ∈ l) : d.SameWords (d.put a v) l :=
  fun _ hb => d.w_put_ne v (fun e => hb (e ▸ h))

theorem Dev.sameWords_put32 (d : Dev) {a : Nat} {l : List Nat} (v : BitVec 32) (h : a ∈ l) (h' : a + 1 ∈ l) :
    d.SameWords (d.put32 a v) l := (d.sameWords_put _ h).trans (Dev.sameWords_put _ _ h')

/-! ### Changes of state -/

/-- The words that a change of state shows: STATE, DUTY, SSTAT, OBSTAT and the integrator. -/
def shownWords (m : MotorIx) : List Nat :=
  [aMot m 1, aMot m 4, aMot m 0x81, aMot m 0x93, aMot m 0x128, aMot m 0x129]

variable (d : Dev) (m : MotorIx)

theorem Dev.sameWords_clearInts (st : MState) : d.SameWords (d.clearInts m st) (shownWords m) := by
  have hmot : ∀ (e : Dev) f, e.SameWords (e.onMot m f) (shownWords m) := fun _ _ _ _ => rfl
  have hint : ∀ e : Dev, e.SameWords (e.put32 (aMot m 0x128) 0) (shownWords m) := fun e =>
    e.sameWords_put32 0 (by simp [shownWords]) (by simp [shownWords, aMot, Nat.add_assoc])
  have hduty : ∀ e : Dev, e.SameWords (e.put (aMot m 4) 0) (shownWords m) := fun e =>
    e.sameWords_put 0 (by simp [shownWords])
  unfold Dev.clearInts
  dsimp only
  split <;> split
  · exact hmot _ _
  · exact (hmot _ _).trans (hint _)
  · exact (hmot _ _).trans (hduty _)
  · exact ((hmot _ _).trans (hint _)).trans (hduty _)

theorem Dev.sameWords_showChange : d.SameWords (d.showChange m) (shownWords m) := by
  have hstate : d.SameWords (d.putF (aMot m 1) 3 0 (d.mot m).state.code) (shownWords m) :=
    d.sameWords_put _ (by simp [shownWords])
  unfold Dev.showChange
  dsimp only
  split
  · exact hstate
  · exact hstate.trans ((Dev.sameWords_put _ _ (by simp [shownWords])).trans (Dev.sameWords_put _ _ (by simp [shownWords])))

theorem Dev.sameWords_enter (st : MState) : d.SameWords (d.enter m st) (shownWords m) := by
  unfold Dev.enter
  dsimp only
  exact (d.sameWords_clearInts m st).trans ((Dev.sameWords_of_words (Dev.onMot_words _ m _) _).trans
    ((Dev.sameWords_showChange _ m).trans (Dev.sameWords_of_words (Dev.drive_words _ m) _)))

theorem Dev.toIdle_w {off : Nat} (h : aMot m off ∉ shownWords m) : (d.toIdle m).w (aMot m off) = d.w (aMot m off) :=
  d.sameWords_enter m .idle _ h

theorem Dev.toIdle_state_ne {n : MotorIx} (h : n ≠ m) : ((d.toIdle m).mot n).state = (d.mot n).state :=
  Motor.state_of_core (Dev.core_of_watched (d.watched_enter m .idle (fun e => h (Option.some.inj e))))

/-! ### CTRL (R80) -/

/-- EN holds what is written to it. -/
theorem Dev.bitOf_merge_en (v : Word) : bitOf (d.merge (aMot m 0) v) 0 = bitOf v 0 := by
  obtain ⟨r, hr, hen⟩ : ∃ r, regRow (aMot m 0) = some r ∧ (r.mask .rw).testBit 0 = true :=
    (Option.any_eq_true _ _).1 ((by decide +kernel :
      ∀ m : MotorIx, ((regRow (aMot m 0)).any fun r => (r.mask .rw).testBit 0) = true) m)
  have habs : absentBits d (aMot m 0) = 0 := by
    unfold absentBits aMot
    have hm := m.2
    rw [if_neg (by omega), if_neg (by omega), if_neg (by omega), if_neg (by omega)]
  have htakes : d.takes r 0 = true := by unfold Dev.takes; rw [hen, Bool.true_or]
  unfold Dev.merge
  rw [hr]
  dsimp only
  rw [d.bitOf_merged _ _ r (by decide) (by rw [habs]; rfl), if_pos htakes]

/-- A write of CTRL that sets EN. -/
theorem Dev.enable_write (k : Master) (v : Word) (h : d.writeOk k (aMot m 0) = true) (hm : d.hasMot m = true) :
    d.fabWrite k (aMot m 0) (withBit v 0 true) = (d.put (aMot m 0) (d.merge (aMot m 0) (withBit v 0 true))).drive m := by
  rw [d.fabWrite_motCtrl k _ m h hm, bitOf_withBit v 0 0 true (by decide) (by decide)]
  rfl

/-- A write of CTRL that clears EN. -/
theorem Dev.disable_write (k : Master) (v : Word) (h : d.writeOk k (aMot m 0) = true) (hm : d.hasMot m = true) :
    d.fabWrite k (aMot m 0) (withBit v 0 false) =
      (let e := d.put (aMot m 0) (d.merge (aMot m 0) (withBit v 0 false))
       if (d.mot m).state = .idle then e.drive m else e.toIdle m) := by
  rw [d.fabWrite_motCtrl k _ m h hm, bitOf_withBit v 0 0 false (by decide) (by decide)]
  dsimp only
  rw [Dev.put_mot]
  by_cases hi : (d.mot m).state = .idle <;> simp [hi]

/-! ### FLT (R74) -/

/-- A report still in force, with a latched action, sets its bit of FLT again. -/
def Dev.setStill (m : MotorIx) (x : Motor) (d : Dev) (c : Cause × Nat) : Dev :=
  if x.level.getLsbD c.2 && (codeAct (d.fpol m c.1)).isSome then d.orW (aMot m 2) (1#16 <<< c.1.bit) else d

/-- FLT after the clearing part of a write. -/
def Dev.fltCleared (d : Dev) (m : MotorIx) (v : Word) : Dev :=
  d.clrW (aMot m 2) (v &&& 0x7F &&& ~~~(d.freshBits (aMot m 2)))

/-- FLT with the reports still in force. -/
def Dev.fltAgain (d : Dev) (m : MotorIx) : Dev :=
  d.each [(Cause.bsuv, 0), (Cause.gduv, 1), (Cause.hshort, 2)] (Dev.setStill m (d.mot m))

theorem Dev.writeFlt_eq (v : Word) : d.writeFlt m v =
    if (d.mot m).state ≠ .fault then d.fltCleared m v
    else if ((d.fltCleared m v).fltAgain m).w (aMot m 2) = 0 then ((d.fltCleared m v).fltAgain m).toIdle m
    else (d.fltCleared m v).fltAgain m := rfl

/-- REPORT, code 0, is the only policy without an action (R72). -/
theorem Dev.codeAct_isSome (c : Cause) : (codeAct (d.fpol m c)).isSome = decide (d.fpol m c ≠ 0) := by
  have hcode : ∀ n < 4, (codeAct n).isSome = decide (n ≠ 0) := by decide
  refine hcode _ ?_
  have hfld : ∀ hi lo, hi + 1 - lo = 2 → d.ifld (aMot m 3) hi lo < 4 := fun hi lo h => by
    unfold Dev.ifld bits
    rw [h]
    exact Nat.mod_lt _ (by decide)
  cases c with
  | desat => exact hfld 1 0 rfl
  | bsuv => exact hfld 3 2 rfl
  | gduv => exact hfld 5 4 rfl
  | hshort => exact Nat.max_lt.2 ⟨by decide, hfld 7 6 rfl⟩

/-- What a report of level i adds to FLT in FAULT. -/
def Dev.stillBit (d : Dev) (m : MotorIx) (x : Motor) (c : Cause × Nat) : Word :=
  if x.level.getLsbD c.2 = true ∧ d.fpol m c.1 ≠ 0 then 1#16 <<< c.1.bit else 0

theorem Dev.setStill_eq (x : Motor) (c : Cause × Nat) :
    Dev.setStill m x d c = if x.level.getLsbD c.2 = true ∧ d.fpol m c.1 ≠ 0 then d.orW (aMot m 2) (1#16 <<< c.1.bit) else d := by
  unfold Dev.setStill
  rw [Dev.codeAct_isSome]
  simp only [Bool.and_eq_true, decide_eq_true_eq]

theorem Dev.setStill_w (x : Motor) (c : Cause × Nat) :
    (Dev.setStill m x d c).w (aMot m 2) = d.w (aMot m 2) ||| d.stillBit m x c := by
  rw [Dev.setStill_eq]
  unfold Dev.stillBit
  split
  · rw [Dev.w_orW, if_pos rfl]
  · exact BitVec.or_zero.symm

theorem Dev.setStill_stillBit (x y : Motor) (c b : Cause × Nat) :
    (Dev.setStill m x d c).stillBit m y b = d.stillBit m y b := by
  rw [Dev.setStill_eq]
  split <;> rfl

theorem Dev.setStill_motors (x : Motor) (c : Cause × Nat) : (Dev.setStill m x d c).motors = d.motors := by
  rw [Dev.setStill_eq]
  split <;> rfl

theorem Dev.fltAgain_w : (d.fltAgain m).w (aMot m 2) = d.w (aMot m 2) ||| d.stillReported m := by
  unfold Dev.fltAgain Dev.each
  simp only [List.foldl_cons, List.foldl_nil, Dev.setStill_w, Dev.setStill_stillBit]
  rw [BitVec.or_assoc, BitVec.or_assoc, ← BitVec.or_assoc (d.stillBit m _ _)]
  rfl

theorem Dev.fltAgain_motors : (d.fltAgain m).motors = d.motors := by
  unfold Dev.fltAgain Dev.each
  simp only [List.foldl_cons, List.foldl_nil, Dev.setStill_motors]

/-! ### The command input (R75 to R78) -/

/-- Away from a frame start, judging a command that is measured by its edges writes CMDSTAT alone, with LOST as it stands,
and a lost command is not valid. -/
theorem Dev.judgeCmd_edge (h : 2 ≤ d.cmdForm m) : ∃ w, d.judgeCmd m false = d.put (aMot m 0x49) w ∧
    ((d.mot m).cmd.lost = true → bitOf w 2 = true ∧ bitOf w 0 = false) := by
  have hword : ∀ a b : Bool, let w := word (a.toNat * 8 + true.toNat * 4 + (!b).toNat * 2 + (!a && !true && b).toNat)
      bitOf w 2 = true ∧ bitOf w 0 = false := by decide
  unfold Dev.judgeCmd
  dsimp only
  rw [if_neg (by omega), if_neg Bool.false_ne_true]
  refine ⟨_, rfl, fun hl => ?_⟩
  rw [if_neg (by omega), hl, Bool.or_true]
  exact hword _ _

theorem Dev.putCmdx_motors (x : Nat) :
    (d.putCmdx m x).motors = (d.onMot m (fun y => { y with cmd := { y.cmd with x := x } })).motors := by
  unfold Dev.putCmdx
  dsimp only
  split <;> rfl

theorem Dev.putCmdx_cmdForm (x : Nat) : (d.putCmdx m x).cmdForm m = d.cmdForm m := by
  unfold Dev.putCmdx
  dsimp only
  split <;> rfl

/-- What a measurement of X away from a frame start does to the motors (R75). -/
theorem Dev.measureCmd_motors (x : Nat) (h : 2 ≤ d.cmdForm m) : (d.measureCmd m x false).motors =
    (d.onMot m (fun y => { y with cmd := { y.cmd with x := x } })).motors := by
  obtain ⟨w, hw, -⟩ := (d.putCmdx m x).judgeCmd_edge m (by rwa [Dev.putCmdx_cmdForm])
  unfold Dev.measureCmd
  rw [hw, Dev.put_motors, Dev.putCmdx_motors]

end Sys2Proof.Machine
end

section
/-! The statement on the commands of a motor (R73 to R78, R80, R119, R120, R128). -/

namespace Sys2Proof.Machine

open Sys2Proof

/-- The outcome of a write is the state with what the write makes of the device. -/
theorem State.write_eq {s : State} {k : Master} {a : Nat} {v : Word} {d : Dev} (h : s.dev.fabWrite k a v = d) :
    s.write k a v = .next { s with dev := d } := h ▸ rfl

/-- The outcome of an event while ck_core runs. -/
theorem State.onCore_eq {s : State} {f : Dev → Dev} {d : Dev} (hr : s.dev.runs = true) (h : f s.dev = d) :
    s.onCore f = .next { s with dev := d } := h ▸ s.onCore_runs f hr

variable (s : State) (k : Master) (m : MotorIx) (v : Word)

/-! ### Enable and disable (R80) -/

theorem exec_motorEnable (hm : s.dev.hasMot m = true) (hw : s.dev.writeOk k (aMot m 0) = true) :
    ∃ d, exec (.motorEnable k m v) s = .next { s with dev := d } ∧ d.enabled m = true ∧
      (d.mot m).state = (s.dev.mot m).state ∧ s.dev.SameMotors d m ∧ s.dev.SameWords d [aMot m 0] := by
  let e := s.dev.put (aMot m 0) (s.dev.merge (aMot m 0) (withBit v 0 true))
  refine ⟨e.drive m, State.write_eq (s.dev.enable_write m k v hw hm), ?_,
    e.drive_mot_state m m, e.sameMotors_drive m, (s.dev.sameWords_put _ List.mem_cons_self).trans
      (Dev.sameWords_of_words (e.drive_words m) _)⟩
  rw [Dev.enabled, Dev.drive_bit, Dev.bit, Dev.w_put_self, Dev.bitOf_merge_en, bitOf_withBit v 0 0 true (by decide) (by decide),
    if_pos rfl]

theorem exec_motorDisable (hm : s.dev.hasMot m = true) (hw : s.dev.writeOk k (aMot m 0) = true) :
    ∃ d, exec (.motorDisable k m v) s = .next { s with dev := d } ∧ d.enabled m = false ∧ (d.mot m).state = .idle ∧
      ∀ n, n ≠ m → (d.mot n).state = (s.dev.mot n).state := by
  let e := s.dev.put (aMot m 0) (s.dev.merge (aMot m 0) (withBit v 0 false))
  have hen : e.enabled m = false := by
    rw [Dev.enabled, Dev.bit, Dev.w_put_self, Dev.bitOf_merge_en, bitOf_withBit v 0 0 false (by decide) (by decide), if_pos rfl]
  refine ⟨_, State.write_eq (s.dev.disable_write m k v hw hm), ?_⟩
  dsimp only
  split
  case isTrue hidle =>
    exact ⟨(e.drive_bit m _ _).trans hen, (e.drive_mot_state m m).trans hidle, fun n _ => e.drive_mot_state m n⟩
  case isFalse =>
    exact ⟨(Dev.bit_congr (e.toIdle_w m (by simp [shownWords, aMot])) 0).trans hen, e.toIdle_state m,
      fun n hn => e.toIdle_state_ne m hn⟩

/-! ### A write of FLT (R74) -/

theorem exec_fltClear (hm : s.dev.hasMot m = true) (hw : s.dev.writeOk k (aMot m 2) = true) :
    let w := s.dev.w (aMot m 2) &&& ~~~(v &&& 0x7F &&& ~~~(s.dev.freshBits (aMot m 2)))
    ∃ d, exec (.fltClear k m v) s = .next { s with dev := d } ∧
      ((s.dev.mot m).state ≠ .fault → d.w (aMot m 2) = w ∧ d.motors = s.dev.motors ∧ s.dev.SameWords d [aMot m 2]) ∧
      ((s.dev.mot m).state = .fault → d.w (aMot m 2) = w ||| s.dev.stillReported m ∧
        (d.mot m).state = (if d.w (aMot m 2) = 0 then .idle else .fault)) ∧
      ∀ n, n ≠ m → (d.mot n).state = (s.dev.mot n).state := by
  intro w
  let e := s.dev.fltCleared m v
  have hcleared : e.w (aMot m 2) = w := s.dev.w_put_self _ _
  refine ⟨_, State.write_eq
    ((s.dev.fabWrite_flt k v m hw hm).trans (s.dev.writeFlt_eq m v)), ?_⟩
  by_cases hf : (s.dev.mot m).state = .fault
  · have hagain : (e.fltAgain m).w (aMot m 2) = w ||| s.dev.stillReported m :=
      (e.fltAgain_w m).trans (congrArg (· ||| s.dev.stillReported m) hcleared)
    have hmot : ∀ n, (e.fltAgain m).mot n = s.dev.mot n := fun n => congrArg (·[n]) (e.fltAgain_motors m)
    rw [if_neg (not_not.2 hf)]
    refine ⟨fun h => absurd hf h, fun _ => ?_, ?_⟩
    · split
      case isTrue hz =>
        have hword := (e.fltAgain m).toIdle_w m (off := 2) (by simp [shownWords, aMot])
        rw [hword, if_pos hz]
        exact ⟨hagain, Dev.toIdle_state _ m⟩
      case isFalse =>
        exact ⟨hagain, (congrArg Motor.state (hmot m)).trans hf⟩
    · intro n hn
      split
      · exact ((e.fltAgain m).toIdle_state_ne m hn).trans (congrArg Motor.state (hmot n))
      · rw [hmot]
  · rw [if_pos hf]
    exact ⟨fun _ => ⟨hcleared, rfl, s.dev.sameWords_put _ List.mem_cons_self⟩, fun h => absurd h hf, fun _ _ => rfl⟩

/-! ### The host demand (R119, R120) -/

/-- A motor whose host demand is written, with its timeout. -/
def Motor.hostWritten (x : Motor) (t : Timer) : Motor := { x with hostNew := true, hostT := t }

/-- A motor that takes a host demand in its frame start. -/
def Motor.hostTaken (x : Motor) (q : Int) : Motor := { x with hostOk := true, hostD := q, hostNew := false }

/-- The timeout that a write of HDEM begins: HTO in force, and none where it is 0. -/
def Dev.hostTimer (d : Dev) (m : MotorIx) : Timer :=
  if d.iuw (aMot m 0x104) = 0 then .off else d.msTimer m (d.iuw (aMot m 0x104))

/-- The words of a write of HDEM. -/
def Dev.hdemWords (d : Dev) (m : MotorIx) (v : Word) : Dev := (d.put (aMot m 0x103) v).putB (aMot m 0x101) 2 false

theorem Dev.writeHdem_eq (d : Dev) : d.writeHdem m v =
    (let e := (d.hdemWords m v).onMot m (·.hostWritten (d.hostTimer m))
     if e.atFrame (grpOf m) then e.onMot m (·.hostTaken v.toInt) else e) := rfl

theorem Dev.msTimer_ne_off (d : Dev) (t : Nat) : d.msTimer m t ≠ .off := by
  unfold Dev.msTimer Dev.startTimer
  dsimp only
  split <;> exact Timer.noConfusion

theorem Dev.hostTimer_off (d : Dev) : d.hostTimer m = .off ↔ d.iuw (aMot m 0x104) = 0 := by
  unfold Dev.hostTimer
  split
  case isTrue h => exact iff_of_true rfl h
  case isFalse h => exact iff_of_false (d.msTimer_ne_off m _) h

theorem exec_hdemWrite (hm : s.dev.hasMot m = true) (hw : s.dev.writeOk k (aMot m 0x103) = true) :
    ∃ d, exec (.hdemWrite k m v) s = .next { s with dev := d } ∧ d.w (aMot m 0x103) = v ∧
      d.bit (aMot m 0x101) 2 = false ∧
      ((d.mot m).hostNew = true ∨ ((d.mot m).hostOk = true ∧ (d.mot m).hostD = v.toInt)) ∧
      ((d.mot m).hostT = .off ↔ s.dev.iuw (aMot m 0x104) = 0) ∧ s.dev.SameMotors d m ∧
      s.dev.SameWords d [aMot m 0x101, aMot m 0x103] := by
  let e := s.dev.hdemWords m v
  have hdem : e.w (aMot m 0x103) = v := (Dev.w_putB _ _ _ _ _).trans ((if_neg (by simp [aMot])).trans (s.dev.w_put_self _ v))
  have hlost : e.bit (aMot m 0x101) 2 = false := Dev.bit_putB_self _ _ _ _ (by decide)
  have hkeep : s.dev.SameWords e [aMot m 0x101, aMot m 0x103] :=
    (s.dev.sameWords_put v (by simp)).trans (Dev.sameWords_put _ _ (by simp))
  have hothers : s.dev.SameMotors (e.onMot m (·.hostWritten (s.dev.hostTimer m))) m := e.sameMotors_onMot m _
  refine ⟨_, State.write_eq ((s.dev.fabWrite_hdem k v m hw hm).trans (s.dev.writeHdem_eq m v)), ?_⟩
  dsimp only
  split
  · refine ⟨?_, ?_, .inr ?_, ?_, hothers.trans (Dev.sameMotors_onMot _ m _), hkeep.trans (Dev.sameWords_of_words ?_ _)⟩
    · rw [Dev.onMot_w, Dev.onMot_w, hdem]
    · rw [Dev.onMot_bit, Dev.onMot_bit, hlost]
    · rw [Dev.onMot_mot]
      exact ⟨rfl, rfl⟩
    · rw [Dev.onMot_mot, Dev.onMot_mot]
      exact s.dev.hostTimer_off m
    · rw [Dev.onMot_words, Dev.onMot_words]
  · refine ⟨?_, ?_, .inl ?_, ?_, hothers, hkeep.trans (Dev.sameWords_of_words (e.onMot_words m _) _)⟩
    · rw [Dev.onMot_w, hdem]
    · rw [Dev.onMot_bit, hlost]
    · rw [Dev.onMot_mot]
      rfl
    · rw [Dev.onMot_mot]
      exact s.dev.hostTimer_off m

theorem exec_hrel (hm : s.dev.hasMot m = true) (hw : s.dev.writeOk k (aMot m 0x102) = true) :
    exec (.hrel k m v) s =
      .next { s with dev := s.dev.onMot m (fun x => { x with hostRel := true, hostNew := false, hostT := .off }) } := by
  refine State.write_eq ((s.dev.fabWrite_hctl k _ m hw hm).trans ?_)
  rw [Dev.writeHctl, bitOf_withBit v 0 0 true (by decide) (by decide)]
  rfl

theorem Dev.stands_of_runs {d : Dev} (h : d.runs = true) : d.stands = false := by
  obtain ⟨-, hlock⟩ := Bool.and_eq_true_iff.1 h
  rw [Dev.stands, hlock, Bool.not_true, Bool.and_false]

/-- A cause of a motor counts once in its source (R443). -/
theorem Dev.motCause_cnt (d : Dev) (bit : Nat) (hm : d.hasMot m = true) (hr : d.runs = true) :
    ((d.motCause m bit).ev[m.1]'(by have := m.2; omega)).cnt = (d.ev[m.1]'(by have := m.2; omega)).cnt + 1 := by
  have hlt : m.1 < 64 := Nat.lt_trans m.2 (by decide)
  have hsrc : d.hasSrc m.1 = true := by
    rw [Dev.hasSrc, if_pos m.2]
    exact hm
  have hraise := Dev.raise_spec (d.orW (0xF00 + m.1) (1#16 <<< bit)) m.1 hlt hsrc (Dev.stands_of_runs hr)
  have hev := upd_self d.ev ⟨m.1, hlt⟩ (fun x => { cnt := x.cnt + 1, ts := d.time, sub := d.sub })
  simp only [Dev.motCause, Dev.cause, hraise]
  exact congrArg EvSrc.cnt hev

theorem Dev.motCause_mot (d : Dev) (bit : Nat) (n : MotorIx) : (d.motCause m bit).mot n = d.mot n := by
  rw [Dev.motCause, Dev.cause, Dev.raise_mot, Dev.orW_mot]

theorem Dev.motCause_bit (d : Dev) (bit a j : Nat) :
    (d.motCause m bit).bit a j = (d.bit a j || (decide (a = 0xF00 + m.1) && (1#16 <<< bit).getLsbD j)) :=
  d.bit_cause _ _ _ a j

/-- The end of the host timeout, as an update of the host demand, its status bit and a cause (R120). -/
theorem Dev.hostTimeout_eq (d : Dev) (ht : (d.mot m).hostT.ended = true) : d.hostTimeout m =
    ((d.onMot m (fun x => { x with hostT := .off, hostOk := false, hostNew := false })).putB (aMot m 0x101) 2 true).motCause m 8 := by
  unfold Dev.hostTimeout
  rw [if_pos ht]

theorem exec_hostDemandTimeout (hm : s.dev.hasMot m = true) (hr : s.dev.runs = true) (ht : (s.dev.mot m).hostT.ended = true) :
    ∃ d, exec (.hostDemandTimeout m) s = .next { s with dev := d } ∧ (d.mot m).hostOk = false ∧
      (d.mot m).hostT = .off ∧ d.bit (aMot m 0x101) 2 = true ∧ d.bit (0xF00 + m.1) 8 = true ∧
      (d.ev[m.1]'(by have := m.2; omega)).cnt = (s.dev.ev[m.1]'(by have := m.2; omega)).cnt + 1 ∧ s.dev.SameMotors d m := by
  refine ⟨_, State.onCore_eq (f := fun d => d.hostTimeout m) hr (s.dev.hostTimeout_eq m ht), ?_, ?_, ?_, ?_, ?_, fun n hn => ?_⟩
  · rw [Dev.motCause_mot, Dev.putB_mot, Dev.onMot_mot]
  · rw [Dev.motCause_mot, Dev.putB_mot, Dev.onMot_mot]
  · rw [Dev.motCause_bit, Dev.bit_putB_self _ _ _ _ (by decide), Bool.true_or]
  · rw [Dev.motCause_bit, decide_eq_true rfl, Bool.true_and]
    exact Bool.or_true _
  · exact Dev.motCause_cnt m ((s.dev.onMot m _).putB (aMot m 0x101) 2 true) 8 hm hr
  · rw [Dev.motCause_mot, Dev.putB_mot, Dev.onMot_mot_ne _ _ hn]

/-! ### The kiss point (R128) -/

theorem exec_kissrefHiWrite (hm : s.dev.hasMot m = true) (hw : s.dev.writeOk k (aMot m 0x158) = true)
    (hl : s.dev.locked' = false) :
    ∃ d, exec (.kissrefHiWrite k m v) s = .next { s with dev := d } ∧ d.w (aMot m 0x158) = v ∧
      d.kissPt m = v ++ s.dev.w (aMot m 0x157) ∧ d.motors = s.dev.motors ∧
      s.dev.SameWords d [aMot m 0x158, aMot m 0x159, aMot m 0x15A] := by
  let e := s.dev.put (aMot m 0x158) v
  have hwrite : s.dev.fabWrite k (aMot m 0x158) v = e.loadKiss m := by
    rw [s.dev.fabWrite_kissref k v m hw hm, hl, if_neg Bool.false_ne_true]
  have hlo : e.w (aMot m 0x157) = s.dev.w (aMot m 0x157) := s.dev.w_put_ne v (by simp [aMot])
  have hhi : e.w (aMot m 0x157 + 1) = v := s.dev.w_put_self (aMot m 0x158) v
  refine ⟨_, State.write_eq hwrite, ?_, ?_, e.put32_motors _ _,
    (s.dev.sameWords_put v (by simp)).trans (e.sameWords_put32 _ (by simp) (by simp [aMot, Nat.add_assoc]))⟩
  · rw [Dev.loadKiss, Dev.w_put32, if_neg (by simp [aMot]), if_neg (by simp [aMot])]
    exact hhi
  · rw [Dev.kissPt, Dev.loadKiss, Dev.w32_put32, Dev.w32, hlo, hhi]

/-! ### The command input (R75 to R78) -/

/-- X of the period between an edge at t and one in the present cycle (R76). -/
def Dev.edgeX (d : Dev) (m : MotorIx) (high t : Nat) : Nat :=
  if d.cmdForm m = 2 then min high (max 1 (d.cycles - t) - 1) * 65536 / max 1 (d.cycles - t)
  else recip 800000000 (max 1 (d.cycles - t))

/-- A motor whose command input ends a period and begins another, in cycle c. -/
def Motor.cmdPeriod (x : Motor) (c : Nat) : Motor :=
  { x with cmd := { x.cmd with edgeAt := some c, done := true, doneAt := c, lost := false } }

theorem Dev.cmdEdge_period (d : Dev) (high t : Nat) (hform : 2 ≤ d.cmdForm m) (ht : (d.mot m).cmd.edgeAt = some t) :
    ∃ e, d.cmdEdge m high = e.measureCmd m (d.edgeX m high t) false ∧ e.cmdForm m = d.cmdForm m ∧
      e.mot m = (d.mot m).cmdPeriod d.cycles ∧ d.SameMotors e m := by
  unfold Dev.cmdEdge
  dsimp only
  rw [if_neg (by omega), ht]
  refine ⟨_, rfl, rfl, ?_, (d.sameMotors_onMot m _).trans (Dev.sameMotors_onMot _ m _)⟩
  rw [Dev.onMot_mot, Dev.onMot_mot]
  rfl

theorem exec_cmdEdge (high t : Nat) (hr : s.dev.runs = true) (hform : 2 ≤ s.dev.cmdForm m)
    (ht : (s.dev.mot m).cmd.edgeAt = some t) :
    ∃ d, exec (.cmdEdge m high) s = .next { s with dev := d } ∧ (d.mot m).cmd.edgeAt = some s.dev.cycles ∧
      (d.mot m).cmd.done = true ∧ (d.mot m).cmd.doneAt = s.dev.cycles ∧ (d.mot m).cmd.lost = false ∧
      (d.mot m).cmd.x = (if s.dev.cmdForm m = 2 then
        min high (max 1 (s.dev.cycles - t) - 1) * 65536 / max 1 (s.dev.cycles - t)
        else recip 800000000 (max 1 (s.dev.cycles - t))) ∧ s.dev.SameMotors d m := by
  obtain ⟨e, hedge, heform, hself, hothers⟩ := s.dev.cmdEdge_period m high t hform ht
  have hmotors := e.measureCmd_motors m (s.dev.edgeX m high t) (heform ▸ hform)
  refine ⟨_, State.onCore_eq (f := fun d => d.cmdEdge m high) hr hedge, ?_⟩
  rw [show (e.measureCmd m _ false).mot m = _ from (congrArg (·[m]) hmotors).trans (e.onMot_mot m _), hself]
  exact ⟨rfl, rfl, rfl, rfl, rfl, hothers.trans ((e.sameMotors_onMot m _).trans (Dev.sameMotors_of_motors hmotors m))⟩

/-- A motor whose command is lost. -/
def Motor.cmdGone (x : Motor) : Motor := { x with cmd := { x.cmd with lost := true } }

theorem exec_cmdLostTimeout (hr : s.dev.runs = true) (hform : 2 ≤ s.dev.cmdForm m) (hdone : (s.dev.mot m).cmd.done = true)
    (hlate : (s.dev.mot m).cmd.doneAt + 40000000 ≤ s.dev.cycles) :
    ∃ d, exec (.cmdLostTimeout m) s = .next { s with dev := d } ∧ (d.mot m).cmd.lost = true ∧
      d.bit (aMot m 0x49) 2 = true ∧ d.bit (aMot m 0x49) 0 = false ∧ d.w (aMot m 0x48) = s.dev.w (aMot m 0x48) ∧
      s.dev.SameMotors d m := by
  let e := s.dev.onMot m Motor.cmdGone
  have hcmd : (e.mot m).cmd.lost = true := congrArg (·.cmd.lost) (s.dev.onMot_mot m Motor.cmdGone)
  obtain ⟨w, hjudge, hstat⟩ := e.judgeCmd_edge m hform
  obtain ⟨hlost, hvalid⟩ := hstat hcmd
  have hput : s.dev.cmdLost m = e.put (aMot m 0x49) w := (if_pos ⟨hform, hdone, hlate⟩).trans hjudge
  refine ⟨_, State.onCore_eq (f := fun d => d.cmdLost m) hr hput, hcmd, ?_, ?_,
    (e.w_put_ne w (by simp [aMot])).trans (s.dev.onMot_w m _ _), s.dev.sameMotors_onMot m _⟩
  · rw [Dev.bit, Dev.w_put_self, hlost]
  · rw [Dev.bit, Dev.w_put_self, hvalid]

/-! ### The statement -/

/-- Settles O33: each command is a rule of its own above, over the writes of CTRL, FLT, HCTL, HDEM and KISSREF_HI and the
ends of a command period, of the wait for one, and of the host timeout. -/
theorem motorCommands : Obligations.MotorCommands := by
  intro s k m v hm
  exact ⟨fun hw => ⟨exec_motorEnable s k m v hm hw, exec_motorDisable s k m v hm hw⟩, exec_fltClear s k m v hm,
    exec_hdemWrite s k m v hm, exec_hrel s k m v hm, exec_kissrefHiWrite s k m v hm, exec_hostDemandTimeout s m hm,
    exec_cmdEdge s m, exec_cmdLostTimeout s m⟩

end Sys2Proof.Machine
end

section
/-! What an engine shows after a change of state: the phases of a sensorless start, a failed attempt, and the latched
fault of a start failure (R72, R73, R84 to R93, R103 to R106). -/

namespace Sys2Proof.Machine

open Sys2Proof

variable (d : Dev) (m : MotorIx)

/-! ### Entering a state -/

/-- A motor without what every change of state sets: its state, its fault action, its integrators and the marks of its
outputs. -/
def Motor.sansEntry (x : Motor) : Motor :=
  { x.sansDrive with state := .idle, act := .float, clampNow := false, devFault := false, devHeld := none, posI := 0, spdI := 0 }

theorem Motor.sansEntry_of_sansDrive {x y : Motor} (h : y.sansDrive = x.sansDrive) : y.sansEntry = x.sansEntry := by
  unfold Motor.sansEntry
  rw [h]

theorem Dev.clearInts_mot (st : MState) : (d.clearInts m st).mot m = { d.mot m with posI := 0, spdI := 0 } := by
  unfold Dev.clearInts
  dsimp only
  split <;> split <;> simp only [Dev.put_mot, Dev.put32_mot', Dev.onMot_mot]

/-- Entry to a state other than IDLE and FAULT keeps the engine's phase, direction, counts and observer. -/
theorem Dev.enter_sansEntry {st : MState} (h : st ≠ .idle) : ((d.enter m st).mot m).sansEntry = (d.mot m).sansEntry := by
  unfold Dev.enter
  dsimp only
  rw [Motor.sansEntry_of_sansDrive ((Dev.drives_drive _ m).mot m), Dev.showChange_mot, Dev.onMot_mot, if_neg h,
    Dev.clearInts_mot]
  rfl

/-- What of a motor a change of state does not set, it keeps. -/
theorem Dev.enter_keeps {α : Type} (f : Motor → α) (hf : ∀ x : Motor, f x.sansEntry = f x) {st : MState} (h : st ≠ .idle) :
    f ((d.enter m st).mot m) = f (d.mot m) := by
  rw [← hf, d.enter_sansEntry m h, hf]

/-! ### The starts of a motor (R84, R88, R104) -/

theorem Dev.toAlign1_spec : ((d.toAlign1 m).mot m).state = .start ∧ ((d.toAlign1 m).mot m).phase = .align1 ∧
    ((d.toAlign1 m).mot m).drvRev = (d.mot m).demRev ∧ ((d.toAlign1 m).mot m).attempt = (d.mot m).attempt := by
  have hne : MState.start ≠ .idle := by decide
  unfold Dev.toAlign1 Dev.holdSector
  dsimp only
  refine ⟨Dev.enter_state _ m _, ?_, ?_, ?_⟩
  · rw [Dev.enter_keeps _ m Motor.phase (fun _ => rfl) hne, Dev.onMot_mot, Dev.onMot_mot, Dev.onMot_mot]
  · rw [Dev.enter_keeps _ m Motor.drvRev (fun _ => rfl) hne, Dev.onMot_mot, Dev.onMot_mot, Dev.onMot_mot]
  · rw [Dev.enter_keeps _ m Motor.attempt (fun _ => rfl) hne, Dev.onMot_mot, Dev.onMot_mot, Dev.onMot_mot]

theorem Dev.toCatch_spec : ((d.toCatch m).mot m).state = .catching ∧ ((d.toCatch m).mot m).phase = .listen ∧
    ((d.toCatch m).mot m).spdv = false := by
  have hne : MState.catching ≠ .idle := by decide
  unfold Dev.toCatch
  dsimp only
  refine ⟨Dev.enter_state _ m _, ?_, ?_⟩
  · rw [Dev.enter_keeps _ m Motor.phase (fun _ => rfl) hne, Dev.onMot_mot]
  · rw [Dev.enter_keeps _ m Motor.spdv (fun _ => rfl) hne, Dev.onMot_mot]

/-- A sensored motor starts in RUN, with its drive direction. -/
theorem Dev.startMotor_sensored (h : d.sensorless m = false) :
    ((d.startMotor m).mot m).state = .run ∧ ((d.startMotor m).mot m).drvRev = (d.mot m).drvRev := by
  unfold Dev.startMotor
  rw [if_neg (by rw [h]; decide)]
  refine ⟨Dev.enter_state _ m _, ?_⟩
  rw [Dev.enter_keeps _ m Motor.drvRev (fun _ => rfl) (by decide), Dev.onMot_mot]

/-! ### The hold of the ramp (R92) -/

/-- RHOLD begins, or not: nothing of the motor but its timer changes. -/
theorem Dev.rampHold_mot : ∃ t, (d.rampHold m).mot m = { d.mot m with timer := t } := by
  unfold Dev.rampHold
  dsimp only
  split
  · exact ⟨_, d.onMot_mot m _⟩
  · exact ⟨(d.mot m).timer, rfl⟩

/-! ### A latched fault (R72, R73) -/

/-- Every policy code of two bits but REPORT has a latched action (R72). -/
theorem codeAct_latched {n : Nat} (hpos : n ≠ 0) (hlt : n < 4) : ∃ a, codeAct n = some a :=
  Option.isSome_iff_exists.1 ((by decide : ∀ n < 4, n ≠ 0 → (codeAct n).isSome = true) n hlt hpos)

theorem Dev.ifld_lt (a hi lo : Nat) : d.ifld a hi lo < 2 ^ (hi + 1 - lo) := Nat.mod_lt _ (Nat.two_pow_pos _)

theorem Dev.sameWords_enterFault (act : FaultAct) : d.SameWords (d.enterFault m act) (shownWords m) := by
  unfold Dev.enterFault
  dsimp only
  exact (d.sameWords_clearInts m .fault).trans ((Dev.sameWords_of_words (Dev.onMot_words _ m _) _).trans
    ((Dev.sameWords_showChange _ m).trans (Dev.sameWords_of_words (Dev.drive_words _ m) _)))

/-- A latched action sends a motor outside FAULT to FAULT and leaves its cause in FLT (R72, R73). -/
theorem Dev.policy_latches {i code : Nat} {a : FaultAct} (hi : i < 16) (hact : codeAct code = some a)
    (hs : (d.mot m).state ≠ .fault) :
    ((d.policy m i code).mot m).state = .fault ∧ (d.policy m i code).bit (aMot m 2) i = true := by
  have hpol : d.policy m i code = (d.orW (aMot m 2) (1#16 <<< i)).enterFault m a := by
    unfold Dev.policy
    rw [hact]
    exact if_neg hs
  have hflt : (aMot m 2) ∉ shownWords m := by simp [shownWords, aMot]
  rw [hpol, Dev.enterFault_state, if_pos rfl, Dev.bit_congr (Dev.sameWords_enterFault _ m a _ hflt)]
  exact ⟨rfl, d.bit_setB_self (aMot m 2) hi⟩

/-! ### A failed attempt (R92, R93) -/

/-- An attempt fails with retries left: the motor backs off for the next attempt. -/
theorem Dev.attemptFails_retries (reason : Nat) (h : (d.mot m).attempt ≤ d.ifld (aMot m 0x80) 11 8) :
    let e := d.attemptFails m reason
    (e.mot m).state = .start ∧ (e.mot m).phase = .backoff ∧ (e.mot m).failr = reason ∧
      (e.mot m).attempt = (d.mot m).attempt := by
  have hne : MState.start ≠ .idle := by decide
  unfold Dev.attemptFails
  dsimp only
  rw [Dev.onMot_ifld, if_pos h]
  refine ⟨Dev.enter_state _ m _, ?_, ?_, ?_⟩
  · rw [Dev.enter_keeps _ m Motor.phase (fun _ => rfl) hne, Dev.onMot_mot]
  · rw [Dev.enter_keeps _ m Motor.failr (fun _ => rfl) hne, Dev.onMot_mot, Dev.onMot_mot]
  · rw [Dev.enter_keeps _ m Motor.attempt (fun _ => rfl) hne, Dev.onMot_mot, Dev.onMot_mot]

/-- An attempt fails with no retry left: the start failure latches in FLT, where REPORT acts as FLOAT. -/
theorem Dev.attemptFails_last (reason : Nat) (h : d.ifld (aMot m 0x80) 11 8 < (d.mot m).attempt)
    (hs : (d.mot m).state ≠ .fault) :
    ((d.attemptFails m reason).mot m).state = .fault ∧ (d.attemptFails m reason).bit (aMot m 2) 5 = true := by
  unfold Dev.attemptFails
  dsimp only
  rw [Dev.onMot_ifld, if_neg (Nat.not_le.2 h)]
  obtain ⟨a, ha⟩ := codeAct_latched (n := max 1 _) (Nat.ne_of_gt (Nat.le_max_left 1 _))
    (Nat.max_lt.2 ⟨by decide, Dev.ifld_lt _ (aMot m 0x80) 5 4⟩)
  refine Dev.policy_latches _ m (by decide) ha ?_
  rw [Dev.inc_mot, Dev.motCause_mot, Dev.onMot_mot]
  exact hs

end Sys2Proof.Machine
end

section
/-! The statement on the ends of an engine's timers (R70, R81, R84, R88 to R93, R103, R106). -/

namespace Sys2Proof.Machine

open Sys2Proof

variable (s : State) (m : MotorIx)

/-! ### The end of a phase's time (R81) -/

theorem Dev.phaseOver_of_ended {d : Dev} {st : MState} {ph : Phase} (hr : d.runs = true) (hs : (d.mot m).state = st)
    (hp : (d.mot m).phase = ph) (ht : (d.mot m).timer.ended = true) : d.phaseOver m st ph = true := by
  simp [Dev.phaseOver, hr, hs, hp, ht]

theorem Dev.phaseOver_of_waits {d : Dev} (st : MState) (ph : Phase) (ht : (d.mot m).timer.ended = false) :
    ¬ d.phaseOver m st ph = true := by
  simp [Dev.phaseOver, ht]

/-- An event that leaves the device leaves the state. -/
theorem State.onCore_same {f : Dev → Dev} (h : f s.dev = s.dev) : s.onCore f = .next s := by
  unfold State.onCore
  rw [h, ite_self]

/-- Before the time of a phase ends, none of the events at its end does anything. -/
theorem exec_phaseEnds_wait (ht : (s.dev.mot m).timer.ended = false) :
    exec (.align1End m) s = .next s ∧ exec (.align2End m) s = .next s ∧ exec (.rampTimeout m) s = .next s ∧
      exec (.backoffEnd m) s = .next s ∧ exec (.coastEnd m) s = .next s ∧ exec (.brakeEnd m) s = .next s := by
  have hwait (st : MState) (ph : Phase) := Dev.phaseOver_of_waits m st ph ht
  exact ⟨s.onCore_same (f := (·.align1End m)) (if_neg (hwait _ _)), s.onCore_same (f := (·.align2End m)) (if_neg (hwait _ _)),
    s.onCore_same (f := (·.rampTimeout m)) (if_neg (hwait _ _)), s.onCore_same (f := (·.backoffEnd m)) (if_neg (hwait _ _)),
    s.onCore_same (f := (·.coastEnd m)) (if_neg (hwait _ _)), s.onCore_same (f := (·.brakeEnd m)) (if_neg (hwait _ _))⟩

/-- CATT passes in CATCH with no catch edge (R106). -/
theorem Dev.catchTimeout_catching {d : Dev} (hr : d.runs = true) (ht : (d.mot m).catt.ended = true)
    (hs : (d.mot m).state = .catching) :
    d.catchTimeout m = (d.onMot m (fun x => { x with attempt := 1, speed := 0 })).toAlign1 m := by
  unfold Dev.catchTimeout
  dsimp only
  rw [if_pos (by rw [hr, ht]; rfl), hs]

section
variable (hr : s.dev.runs = true)
include hr

/-! ### The phases of START (R88 to R93) -/

section
variable (ht : (s.dev.mot m).timer.ended = true) (hs : (s.dev.mot m).state = .start)
include ht hs

theorem exec_align1End (hp : (s.dev.mot m).phase = .align1) :
    ∃ d, exec (.align1End m) s = .next { s with dev := d } ∧ (d.mot m).state = .start ∧ (d.mot m).phase = .align2 ∧
      (d.mot m).sector = s.dev.alsec m := by
  refine ⟨_, State.onCore_eq (f := (·.align1End m)) hr (if_pos (Dev.phaseOver_of_ended m hr hs hp ht)), ?_, ?_, ?_⟩
  · rw [Dev.drive_mot_state, Dev.showChange_mot, Dev.onMot_mot, Dev.holdSector, Dev.onMot_mot]
    exact hs
  · rw [Dev.drive_mot_phase, Dev.showChange_mot, Dev.onMot_mot]
  · rw [Dev.drive_mot_sector, Dev.showChange_mot, Dev.onMot_mot, Dev.holdSector, Dev.onMot_mot]

theorem exec_align2End (hp : (s.dev.mot m).phase = .align2) :
    ∃ d, exec (.align2End m) s = .next { s with dev := d } ∧ (d.mot m).state = .start ∧ (d.mot m).phase = .ramp ∧
      (d.mot m).sector = (if (s.dev.mot m).drvRev then (s.dev.alsec m + 4) % 6 else (s.dev.alsec m + 2) % 6) ∧
      (d.mot m).v16.natAbs = s.dev.iuw (aMot m 0x84) * 65536 := by
  refine ⟨_, State.onCore_eq (f := (·.align2End m)) hr (if_pos (Dev.phaseOver_of_ended m hr hs hp ht)), ?_⟩
  dsimp only
  rw [Dev.drive_mot_state, Dev.drive_mot_phase, Dev.drive_mot_sector, Dev.drive_mot_v16, Dev.showChange_mot]
  generalize hramp : s.dev.onMot m _ = e
  obtain ⟨t, htimer⟩ := e.rampHold_mot m
  rw [htimer, ← hramp, Dev.onMot_mot]
  refine ⟨hs, rfl, rfl, ?_⟩
  cases (s.dev.mot m).drvRev with
  | false => exact Int.natAbs_natCast _
  | true => exact (Int.natAbs_neg _).trans (Int.natAbs_natCast _)

theorem exec_rampTimeout_retries (hp : (s.dev.mot m).phase = .ramp)
    (hn : (s.dev.mot m).attempt ≤ s.dev.ifld (aMot m 0x80) 11 8) :
    ∃ d, exec (.rampTimeout m) s = .next { s with dev := d } ∧ (d.mot m).state = .start ∧ (d.mot m).phase = .backoff ∧
      (d.mot m).failr = 1 ∧ (d.mot m).attempt = (s.dev.mot m).attempt :=
  ⟨_, State.onCore_eq (f := (·.rampTimeout m)) hr (if_pos (Dev.phaseOver_of_ended m hr hs hp ht)),
    s.dev.attemptFails_retries m 1 hn⟩

theorem exec_rampTimeout_last (hp : (s.dev.mot m).phase = .ramp)
    (hn : s.dev.ifld (aMot m 0x80) 11 8 < (s.dev.mot m).attempt) :
    ∃ d, exec (.rampTimeout m) s = .next { s with dev := d } ∧ (d.mot m).state = .fault ∧ d.bit (aMot m 2) 5 = true :=
  ⟨_, State.onCore_eq (f := (·.rampTimeout m)) hr (if_pos (Dev.phaseOver_of_ended m hr hs hp ht)),
    s.dev.attemptFails_last m 1 hn (by rw [hs]; decide)⟩

theorem exec_backoffEnd (hp : (s.dev.mot m).phase = .backoff) :
    ∃ d, exec (.backoffEnd m) s = .next { s with dev := d } ∧ (d.mot m).state = .start ∧ (d.mot m).phase = .align1 ∧
      (d.mot m).attempt = (s.dev.mot m).attempt + 1 ∧ (d.mot m).drvRev = (s.dev.mot m).demRev := by
  obtain ⟨hstate, hphase, hrev, hattempt⟩ :=
    (s.dev.onMot m (fun x => { x with attempt := x.attempt + 1 })).toAlign1_spec m
  rw [Dev.onMot_mot] at hrev hattempt
  exact ⟨_, State.onCore_eq (f := (·.backoffEnd m)) hr (if_pos (Dev.phaseOver_of_ended m hr hs hp ht)), hstate, hphase,
    hattempt, hrev⟩

end

/-! ### COAST, CATCH and BRAKE (R70, R103, R106) -/

theorem exec_coastEnd (ht : (s.dev.mot m).timer.ended = true) (hs : (s.dev.mot m).state = .coast)
    (hp : (s.dev.mot m).phase = .coast) :
    ∃ d, exec (.coastEnd m) s = .next { s with dev := d } ∧ (d.mot m).state = .catching ∧ (d.mot m).phase = .listen ∧
      (d.mot m).spdv = false :=
  ⟨_, State.onCore_eq (f := (·.coastEnd m)) hr (if_pos (Dev.phaseOver_of_ended m hr hs hp ht)), s.dev.toCatch_spec m⟩

theorem exec_catchTimeout (ht : (s.dev.mot m).catt.ended = true) (hs : (s.dev.mot m).state = .catching) :
    ∃ d, exec (.catchTimeout m) s = .next { s with dev := d } ∧ (d.mot m).state = .start ∧ (d.mot m).phase = .align1 ∧
      (d.mot m).attempt = 1 := by
  obtain ⟨hstate, hphase, -, hattempt⟩ :=
    (s.dev.onMot m (fun x => { x with attempt := 1, speed := 0 })).toAlign1_spec m
  rw [Dev.onMot_mot] at hattempt
  exact ⟨_, State.onCore_eq (f := (·.catchTimeout m)) hr (Dev.catchTimeout_catching m hr ht hs), hstate, hphase, hattempt⟩

theorem exec_brakeEnd_sensored (ht : (s.dev.mot m).timer.ended = true) (hs : (s.dev.mot m).state = .brake)
    (hp : (s.dev.mot m).phase = .none) (hl : s.dev.sensorless m = false) :
    ∃ d, exec (.brakeEnd m) s = .next { s with dev := d } ∧ (d.mot m).state = .run ∧
      (d.mot m).drvRev = (s.dev.mot m).demRev := by
  obtain ⟨hstate, hrev⟩ :=
    (s.dev.onMot m (fun x => { x with drvRev := x.demRev, timer := .off })).startMotor_sensored m hl
  rw [Dev.onMot_mot] at hrev
  exact ⟨_, State.onCore_eq (f := (·.brakeEnd m)) hr (if_pos (Dev.phaseOver_of_ended m hr hs hp ht)), hstate, hrev⟩

/-! ### The times of RUN (R92, R103) -/

theorem exec_stabilityWindowEnd (ht : (s.dev.mot m).stab.ended = true) : exec (.stabilityWindowEnd m) s =
    .next { s with dev := s.dev.onMot m (fun x => { x with stab := .off }) } :=
  State.onCore_eq (f := (·.stabilityOver m)) hr (if_pos ht)

theorem exec_reccntReset (hs : (s.dev.mot m).state = .run) (ht : (s.dev.mot m).rect.ended = true) :
    exec (.reccntReset m) s = .next { s with dev := s.dev.onMot m (fun x => { x with reccnt := 0, rect := .off }) } :=
  State.onCore_eq (f := (·.reccntOver m)) hr (if_pos (by simp [hs, ht]))

end

/-! ### The statement -/

/-- Settles O32: each end of a time is a rule of its own above, over what an engine shows after it has entered a state. -/
theorem enginePhases : Obligations.EnginePhases := by
  intro s m hr
  exact ⟨fun ht hs => ⟨exec_align1End s m hr ht hs, exec_align2End s m hr ht hs, exec_rampTimeout_retries s m hr ht hs,
      exec_rampTimeout_last s m hr ht hs, exec_backoffEnd s m hr ht hs⟩, exec_coastEnd s m hr, exec_catchTimeout s m hr,
    exec_brakeEnd_sensored s m hr, exec_stabilityWindowEnd s m hr, exec_reccntReset s m hr, exec_phaseEnds_wait s m⟩

end Sys2Proof.Machine
end

section
/-! Rules of the loop arithmetic: a limited value, a regulator, the slewed demand, and the end of a kiss search with no
candidate (R113, R124, R129). -/

namespace Sys2Proof.Machine

open Sys2Proof

/-! ### Limited values (R113) -/

theorem clampInt_mem {lo hi : Int} (h : lo ≤ hi) (v : Int) : lo ≤ clampInt lo hi v ∧ clampInt lo hi v ≤ hi := by
  unfold clampInt
  split_ifs <;> omega

theorem pi_output_mem {lo hi : Int} (h : lo ≤ hi) (kp ki e acc : Int) (sh : Nat) :
    lo ≤ (pi kp ki sh e lo hi acc).1 ∧ (pi kp ki sh e lo hi acc).1 ≤ hi := clampInt_mem h _

theorem pi_integrator_mem {lo hi : Int} (h : lo ≤ hi) (kp ki e acc : Int) (sh : Nat) :
    lo * 32768 ≤ (pi kp ki sh e lo hi acc).2 ∧ (pi kp ki sh e lo hi acc).2 ≤ hi * 32768 + 32767 :=
  clampInt_mem (by omega) _

/-! ### The slew of the demand (R124) -/

theorem slew_zero (old new : Int) : slew 0 old new = new := rfl

variable {step : Nat} {old new : Int}

theorem slew_of_ne_zero (h : step ≠ 0) : slew step old new = clampInt (old - step) (old + step) new := if_neg h

theorem slew_within (h : step ≠ 0) : (slew step old new - old).natAbs ≤ step := by
  obtain ⟨hlo, hhi⟩ := clampInt_mem (lo := old - step) (hi := old + step) (by omega) new
  rw [slew_of_ne_zero h]
  omega

theorem slew_reaches (h : (new - old).natAbs ≤ step) : slew step old new = new := by
  by_cases hs : step = 0
  · rw [hs, slew_zero]
  · rw [slew_of_ne_zero hs, clampInt, if_neg (by omega), if_neg (by omega)]

theorem slew_moves (hs : step ≠ 0) (h : step < (new - old).natAbs) :
    slew step old new = if old < new then old + step else old - step := by
  rw [slew_of_ne_zero hs, clampInt]
  split_ifs <;> omega

/-! ### A kiss search that fails (R129) -/

variable (d : Dev) (m : MotorIx)

theorem Dev.sameWords_searchFails : d.SameWords (d.searchFails m) [aMot m 0x15B, aMot m 0x15C] := by
  unfold Dev.searchFails Dev.putB Dev.putF
  exact ((d.sameWords_put _ (by simp)).trans (Dev.sameWords_put _ _ (by simp))).trans
    (Dev.sameWords_of_words (Dev.onMot_words _ m _) _)

theorem Dev.sameMotors_searchFails : d.SameMotors (d.searchFails m) m := by
  unfold Dev.searchFails
  exact (Dev.sameMotors_of_motors (Dev.putB_motors _ _ _ _) m).trans
    ((Dev.sameMotors_of_motors (Dev.putB_motors _ _ _ _) m).trans (Dev.sameMotors_onMot _ m _))

theorem Dev.searchFails_kiss :
    ((d.searchFails m).mot m).kiss = { (d.mot m).kiss with timer := .off, rejected := none } := by
  rw [Dev.searchFails, Dev.onMot_mot, Dev.putB_mot, Dev.putB_mot]

theorem Dev.searchFails_act : (d.searchFails m).searching m = false := by
  have hne : ¬ (aMot m 0x15B = aMot m 0x15C ∧ 1 = 2) := by simp
  show ((d.putB (aMot m 0x15B) 1 false).putB (aMot m 0x15C) 2 true).bit (aMot m 0x15B) 1 = false
  rw [Dev.bit_putB _ _ _ _ _ _ (by decide) (by decide), if_neg hne, Dev.bit_putB_self _ _ _ _ (by decide)]

theorem Dev.searchFails_kfail : (d.searchFails m).bit (aMot m 0x15C) 2 = true :=
  Dev.bit_putB_self (d.putB (aMot m 0x15B) 1 false) (aMot m 0x15C) 2 true (by decide)

theorem Dev.searchFails_kissPt : (d.searchFails m).kissPt m = d.kissPt m := by
  have hkeep := d.sameWords_searchFails m
  rw [Dev.kissPt, Dev.w32, hkeep _ (by simp [aMot, Nat.add_assoc]), hkeep _ (by simp [aMot])]
  rfl

end Sys2Proof.Machine
end

section
/-! What the steps of a loop computation leave alone up to its delivery: the state of every motor and the applied demand
(R109, R111, R124). -/

namespace Sys2Proof.Machine

open Sys2Proof

/-- The state of every motor, and the applied demand that MOT[m].DEMAND shows. -/
def Dev.loopView (d : Dev) (m : MotorIx) : (MotorIx → MState) × Word := (d.mst, d.w (aMot m 0x107))

variable (d : Dev) (m : MotorIx)

/-! ### Updates -/

@[simp] theorem Dev.loopView_put {off : Nat} (v : Word) (h : off ≠ 0x107) :
    (d.put (aMot m off) v).loopView m = d.loopView m :=
  Prod.ext rfl (d.w_put_ne v (by unfold aMot; omega))

@[simp] theorem Dev.loopView_putF {off : Nat} (hi lo v : Nat) (h : off ≠ 0x107) :
    (d.putF (aMot m off) hi lo v).loopView m = d.loopView m := d.loopView_put m _ h

@[simp] theorem Dev.loopView_putB {off : Nat} (i : Nat) (b : Bool) (h : off ≠ 0x107) :
    (d.putB (aMot m off) i b).loopView m = d.loopView m := d.loopView_put m _ h

@[simp] theorem Dev.loopView_put32 {off : Nat} (v : BitVec 32) (h : off ≠ 0x107) (h' : off + 1 ≠ 0x107) :
    (d.put32 (aMot m off) v).loopView m = d.loopView m :=
  (Dev.loopView_put _ m (off := off + 1) _ h').trans (d.loopView_put m _ h)

@[simp] theorem Dev.loopView_onMot (f : Motor → Motor) (h : ∀ x, (f x).state = x.state) :
    (d.onMot m f).loopView m = d.loopView m := Prod.ext (d.mst_onMot m f h) rfl

@[simp] theorem Dev.loopView_ite (c : Prop) [Decidable c] (x y : Dev) :
    (if c then x else y).loopView m = if c then x.loopView m else y.loopView m := apply_ite (Dev.loopView · m) _ _ _

/-! ### The steps of the cascade (R109) -/

@[simp] theorem Dev.loopView_searchFails : (d.searchFails m).loopView m = d.loopView m := by
  simp [Dev.searchFails]

@[simp] theorem Dev.loopView_candidate (xc : Int) : (d.candidate m xc).loopView m = d.loopView m := by
  simp [Dev.candidate]

@[simp] theorem Dev.loopView_searchFrame (i : Int) : (d.searchFrame m i).loopView m = d.loopView m := by
  simp [Dev.searchFrame]

@[simp] theorem Dev.loopView_showForce : (d.showForce m).loopView m = d.loopView m := by
  simp [Dev.showForce]

@[simp] theorem Dev.loopView_outer (dem : Int) : (d.outer m dem).loopView m = d.loopView m := by
  simp [Dev.outer]

@[simp] theorem Dev.loopView_currentLoop (iu : Int) : (d.currentLoop m iu).1.loopView m = d.loopView m := by
  unfold Dev.currentLoop
  dsimp only
  split <;> simp

/-- A taken demand is the applied one, and DEMAND shows it (R124). -/
theorem Dev.loopView_takeDemand : (d.takeDemand m).1.loopView m = (d.mst, iword (d.takeDemand m).2.1) := by
  have hput (v : Word) : (d.put (aMot m 0x107) v).loopView m = (d.mst, v) := Prod.ext rfl (d.w_put_self _ v)
  simp [Dev.takeDemand, hput]

/-- Where a source is valid, or FSACT is not 3, the demand moves toward the selected one (R123, R124). -/
theorem Dev.takeDemand_slews (h : (d.selectDemand m).1 ≠ 0 ∨ d.ifld (aMot m 0x100) 9 8 ≠ 3) :
    (d.takeDemand m).2.1 = slew (d.iuw (aMot m 0x106)) (d.sw (aMot m 0x107)) (d.selectDemand m).2 :=
  have hmoves : ¬ ((decide ((d.selectDemand m).1 = 0) && decide (d.ifld (aMot m 0x100) 9 8 = 3)) = true) := by
    simpa [imp_iff_not_or] using h
  if_neg hmoves

end Sys2Proof.Machine
end

section
/-! A loop computation in each engine state (R111): what it delivers, and the demand that it applies. -/

namespace Sys2Proof.Machine

open Sys2Proof

variable (d : Dev) (m : MotorIx)

/-! ### Deliveries (R117, R118) -/

/-- Motor m has delivered its duty with its direction, and its request of at most 4 095 credits. -/
structure Dev.Delivers (d : Dev) (m : MotorIx) (duty : Nat) (rev : Bool) (r : Nat × Bool) : Prop where
  ran : (d.mot m).loopRun = true
  out : (d.mot m).out = some (duty, rev)
  req : (d.mot m).req = some r
  bound : r.1 ≤ 4095

theorem Dev.delivers_deliver (duty : Nat) (rev : Bool) (req : Nat) (regen : Bool) :
    (d.deliver m duty rev req regen).Delivers m duty rev (min 4095 req, regen) := by
  have hmot : (d.deliver m duty rev req regen).mot m = { d.mot m with
      out := some (duty, rev), lastDir := rev, req := some (min 4095 req, regen), loopRun := true } := Dev.onMot_mot _ m _
  exact ⟨by rw [hmot], by rw [hmot], by rw [hmot], Nat.min_le_left _ _⟩

theorem Dev.loopView_deliver (duty : Nat) (rev : Bool) (req : Nat) (regen : Bool) :
    (d.deliver m duty rev req regen).loopView m = d.loopView m := by
  simp [Dev.deliver]

variable {d m} in
theorem Dev.Delivers.drive {duty : Nat} {rev : Bool} {r : Nat × Bool} (h : d.Delivers m duty rev r) :
    (d.drive m).Delivers m duty rev r :=
  ⟨(d.drive_mot_loopRun m m).trans h.ran, (d.drive_mot_out m m).trans h.out, (d.drive_mot_req m m).trans h.req, h.bound⟩

theorem Dev.loopView_drive : (d.drive m).loopView m = d.loopView m :=
  Prod.ext (d.mst_drive m) (Dev.w_of_words (d.drive_words m) _)

/-! ### The states of the engine (R111) -/

/-- The engine drives nothing: no regulator runs and nothing is asked. -/
def MState.rests (st : MState) : Prop := st = .idle ∨ st = .fault ∨ st = .coast ∨ st = .catching

/-- The engine takes a demand. -/
def MState.takesDemand (st : MState) : Prop := st = .run ∨ st = .revpend ∨ st = .brake

theorem Dev.loop_rests (h : (d.mot m).state.rests) : d.loop m = d.deliver m 0 (d.mot m).lastDir 0 false := by
  unfold Dev.loop
  obtain h | h | h | h := h <;> rw [h]

/-- In START the current regulator alone decides the duty, from STCUR. -/
theorem Dev.loop_start (h : (d.mot m).state = .start) : ∃ (e : Dev) (duty : Nat) (rev : Bool) (req : Nat),
    d.loop m = e.deliver m duty rev req false ∧ e.loopView m = d.loopView m := by
  unfold Dev.loop
  rw [h]
  dsimp only
  exact ⟨_, _, _, _, rfl, by simp⟩

/-- In RUN each branch ends with its delivery: an unusable mode, FSACT 3, duty mode, and the cascade. -/
theorem Dev.loop_run (h : (d.mot m).state = .run) : ∃ (e : Dev) (duty : Nat) (rev : Bool) (req : Nat) (regen : Bool),
    d.loop m = e.deliver m duty rev req regen ∧ e.loopView m = (d.takeDemand m).1.loopView m := by
  unfold Dev.loop
  rw [h]
  dsimp only
  split
  · exact ⟨_, _, _, _, _, rfl, by simp⟩
  · split
    · exact ⟨_, _, _, _, _, rfl, by simp⟩
    · split
      · exact ⟨_, _, _, _, _, rfl, by simp⟩
      · exact ⟨_, _, _, _, _, rfl, by simp⟩

/-- In REVPEND and BRAKE the cascade gives the demanded direction alone. -/
theorem Dev.loop_revpend_brake (h : (d.mot m).state = .revpend ∨ (d.mot m).state = .brake) : ∃ (e : Dev) (rev : Bool),
    d.loop m = e.deliver m 0 rev 0 false ∧ e.loopView m = (d.takeDemand m).1.loopView m := by
  unfold Dev.loop
  obtain h | h := h
  all_goals
    rw [h]
    dsimp only
    split
    · exact ⟨_, _, rfl, by simp⟩
    · exact ⟨_, _, rfl, by simp⟩

/-! ### The loop computation -/

theorem Dev.loopView_loop_taken (h : (d.mot m).state.takesDemand) :
    (d.loop m).loopView m = (d.mst, iword (d.takeDemand m).2.1) := by
  rw [← Dev.loopView_takeDemand]
  obtain h | h := h
  · obtain ⟨e, duty, rev, req, regen, hloop, hview⟩ := d.loop_run m h
    rw [hloop, Dev.loopView_deliver, hview]
  · obtain ⟨e, rev, hloop, hview⟩ := d.loop_revpend_brake m h
    rw [hloop, Dev.loopView_deliver, hview]

/-- A loop computation ends with one delivery, of a duty or a request only where the engine drives, and on the way there
no engine state changes (R111). -/
theorem Dev.loop_delivers : ∃ (e : Dev) (duty : Nat) (rev : Bool) (req : Nat) (regen : Bool),
    d.loop m = e.deliver m duty rev req regen ∧ e.mst = d.mst ∧
    ((d.mot m).state.rests → duty = 0 ∧ rev = (d.mot m).lastDir ∧ req = 0 ∧ regen = false) ∧
    ((d.mot m).state = .revpend ∨ (d.mot m).state = .brake → duty = 0 ∧ req = 0 ∧ regen = false) := by
  have hrests : ∀ st : MState, st.rests → ¬ (st = .revpend ∨ st = .brake) := by
    rintro st (rfl | rfl | rfl | rfl) <;> simp
  have hcases : (d.mot m).state.rests ∨ (d.mot m).state = .start ∨ (d.mot m).state = .run ∨
      (d.mot m).state = .revpend ∨ (d.mot m).state = .brake := by
    unfold MState.rests
    cases (d.mot m).state <;> simp
  have htaken := congrArg Prod.fst (d.loopView_takeDemand m)
  obtain h | h | h | h := hcases
  · exact ⟨d, 0, _, 0, false, d.loop_rests m h, rfl, fun _ => ⟨rfl, rfl, rfl, rfl⟩, fun hd => absurd hd (hrests _ h)⟩
  · obtain ⟨e, duty, rev, req, hloop, hview⟩ := d.loop_start m h
    exact ⟨e, duty, rev, req, false, hloop, congrArg Prod.fst hview, by simp [h, MState.rests], by simp [h]⟩
  · obtain ⟨e, duty, rev, req, regen, hloop, hview⟩ := d.loop_run m h
    exact ⟨e, duty, rev, req, regen, hloop, (congrArg Prod.fst hview).trans htaken, by simp [h, MState.rests], by simp [h]⟩
  · obtain ⟨e, rev, hloop, hview⟩ := d.loop_revpend_brake m h
    exact ⟨e, 0, rev, 0, false, hloop, (congrArg Prod.fst hview).trans htaken, fun hr => absurd h (hrests _ hr),
      fun _ => ⟨rfl, rfl, rfl⟩⟩

end Sys2Proof.Machine
end

section
/-! The statements on loop computations and on the slew of the demand (R111, R113, R116 to R118, R124, R129). -/

namespace Sys2Proof.Machine

open Sys2Proof

variable (s : State) (m : MotorIx)

/-! ### The commands -/

theorem exec_loopComputation_due (hr : s.dev.runs = true) (hg : (s.dev.grp (grpOf m)).running = true)
    (hl : (s.dev.mot m).loopRun = false) (hi : s.dev.inputsClosed m = true) :
    exec (.loopComputation m) s = .next { s with dev := (s.dev.loop m).drive m } :=
  State.onCore_eq hr (if_pos (by simp [hg, hl, hi]))

theorem exec_loopComputation_done (hl : (s.dev.mot m).loopRun = true) : exec (.loopComputation m) s = .next s :=
  s.onCore_same (if_neg (by simp [hl]))

theorem exec_kissSearchTimeout (hr : s.dev.runs = true) (hs : s.dev.searching m = true)
    (ht : (s.dev.mot m).kiss.timer.ended = true) :
    exec (.kissSearchTimeout m) s = .next { s with dev := s.dev.searchFails m } :=
  State.onCore_eq hr (if_pos (by simp [hs, ht]))

/-! ### The statements -/

/-- Settles O28: the limits of a regulator are those of its clamps; a loop computation ends with one delivery, and setting
the outputs leaves what has been delivered; a search that times out fails. -/
theorem loopComputations : Obligations.LoopComputations := by
  refine ⟨fun kp ki e lo hi acc sh h => ?_, fun s m hr => ⟨fun hg hl hi => ?_, exec_loopComputation_done s m, fun hs ht => ?_⟩⟩
  · obtain ⟨hlo, hhi⟩ := pi_output_mem h kp ki e acc sh
    exact ⟨hlo, hhi, pi_integrator_mem h kp ki e acc sh⟩
  · obtain ⟨e, duty, rev, req, regen, hloop, hmst, hrests, hdir⟩ := s.dev.loop_delivers m
    obtain ⟨hran, hout, hreq, hbound⟩ := (e.delivers_deliver m duty rev req regen).drive
    refine ⟨_, duty, rev, (min 4095 req, regen), exec_loopComputation_due s m hr hg hl hi, ?_⟩
    rw [hloop]
    refine ⟨hran, hout, hreq, hbound, fun h => ?_, fun h => ?_, fun n => ?_⟩
    · obtain ⟨rfl, rfl, rfl, rfl⟩ := hrests h
      exact ⟨rfl, rfl, rfl⟩
    · obtain ⟨rfl, rfl, rfl⟩ := hdir h
      exact ⟨rfl, rfl⟩
    · have hview := (Dev.loopView_drive _ m).trans (e.loopView_deliver m duty rev req regen)
      exact congrFun ((congrArg Prod.fst hview).trans hmst) n
  · have hkiss := s.dev.searchFails_kiss m
    exact ⟨_, exec_kissSearchTimeout s m hr hs ht, s.dev.searchFails_act m, s.dev.searchFails_kfail m, by rw [hkiss],
      by rw [hkiss], s.dev.searchFails_kissPt m, s.dev.sameMotors_searchFails m, s.dev.sameWords_searchFails m⟩

/-- Settles O29: the slew by its two cases, and DEMAND by what the steps of a loop computation leave of it. -/
theorem demandSlew : Obligations.DemandSlew := by
  refine ⟨fun step old new => ⟨slew_within, ?_, slew_reaches, slew_moves⟩, fun s m hr hg hl hi hst hsrc =>
    ⟨_, exec_loopComputation_due s m hr hg hl hi, ?_⟩⟩
  · rintro rfl
    exact slew_zero old new
  · rw [← s.dev.takeDemand_slews m hsrc]
    exact congrArg Prod.snd ((Dev.loopView_drive _ m).trans (s.dev.loopView_loop_taken m hst))

end Sys2Proof.Machine
end

section
/-! The parts of the grant procedure of R137: what a walk over the slots keeps, where the remainder credits of a class go,
and what one class gets when the pool holds its wants and when it does not. -/

namespace Sys2Proof.Machine

open Sys2Proof

/-- What each step of a walk over the n indices carries on from k to k + 1 holds at n after the walk. -/
theorem foldl_finRange_carries {β : Type} : ∀ {n : Nat} (P : Nat → β → Prop) (f : β → Fin n → β) (b : β), P 0 b →
    (∀ (k : Fin n) (x : β), P k x → P (k + 1) (f x k)) → P n ((List.finRange n).foldl f b)
  | 0, _, _, _, h0, _ => h0
  | n + 1, P, f, b, h0, hstep => by
    rw [List.finRange_succ, List.foldl_cons, List.foldl_map]
    exact foldl_finRange_carries (fun k => P (k + 1)) (fun x k => f x k.succ) (f b 0) (hstep 0 b h0)
      (fun k x => hstep k.succ x)

/-! ### The remainder of a class -/

/-- The slots that the round robin passes after a pointer are all four. -/
theorem mem_slotsAfter : ∀ rr j : Fin 4, j ∈ [1, 2, 3, 4].map (fun k => (⟨(rr.1 + k) % 4, by omega⟩ : Fin 4)) := by
  decide

/-- While as many slots are eligible as credits remain, the round robin gives one credit each to that many of them. -/
theorem remainder_gives (fuel : Nat) (elig : Fin 4 → Bool) (rr : Fin 4) (r : Nat) (g : Vector Nat 4) (hf : r ≤ fuel)
    (hr : r ≤ (Finset.univ.filter (fun j => elig j = true)).card) :
    ∃ S ⊆ Finset.univ.filter (fun j => elig j = true), S.card = r ∧
      ∀ j : Fin 4, (remainder elig fuel rr r g).1[j] = g[j] + if j ∈ S then 1 else 0 := by
  induction fuel generalizing elig rr r g with
  | zero =>
    obtain rfl : r = 0 := by omega
    exact ⟨∅, by simp, rfl, by simp [remainder]⟩
  | succ fuel ih =>
    rw [remainder]
    split_ifs with h0
    · exact ⟨∅, by simp, h0.symm, by simp⟩
    split
    next j hj =>
      have hej : elig j = true := List.find?_some hj
      have hrest : Finset.univ.filter (fun k => (elig k && decide (k ≠ j)) = true) =
          (Finset.univ.filter (fun k => elig k = true)).erase j := by
        ext k
        simp [and_comm]
      obtain ⟨S, hS, hcard, hg⟩ := ih (fun k => elig k && decide (k ≠ j)) j (r - 1) (upd g j (· + 1)) (by omega) (by
        rw [hrest, Finset.card_erase_of_mem (by simpa using hej)]
        omega)
      rw [hrest] at hS
      have hjS : j ∉ S := fun h => Finset.notMem_erase j _ (hS h)
      refine ⟨insert j S, Finset.insert_subset (by simpa using hej) (hS.trans (Finset.erase_subset _ _)), ?_, fun k => ?_⟩
      · rw [Finset.card_insert_of_notMem hjS]
        omega
      · rw [hg k]
        obtain rfl | hk := eq_or_ne k j
        · rw [upd_self, if_neg hjS, if_pos (Finset.mem_insert_self k S)]
        · rw [upd_ne g j k _ hk]
          simp [hk]
    next hnone =>
      obtain ⟨j, hj⟩ := Finset.card_pos.mp ((Nat.pos_of_ne_zero h0).trans_le hr)
      exact absurd (by simpa using hj) (List.find?_eq_none.mp hnone j (mem_slotsAfter rr j))

/-! ### Shares in proportion -/

/-- The share of slot j, truncated, when A credits are split in proportion to the shortfalls d. -/
def share (A : Nat) (d : Fin 4 → Nat) (j : Fin 4) : Nat := A * d j / ∑ i, d i

section
variable {A : Nat} {d : Fin 4 → Nat} (h : A < ∑ i, d i)

include h

theorem share_le (j : Fin 4) : share A d j ≤ d j :=
  Nat.div_le_of_le_mul (Nat.mul_le_mul_right _ h.le)

theorem sum_share_le : ∑ j, share A d j ≤ A := by
  refine Nat.le_of_mul_le_mul_right ?_ (Nat.zero_lt_of_lt h)
  rw [Finset.sum_mul, Finset.mul_sum]
  exact Finset.sum_le_sum fun j _ => Nat.div_mul_le_self _ _

/-- Truncation leaves at most one credit of A for each slot whose share is below its shortfall. -/
theorem le_sum_share_add_card :
    A ≤ ∑ j, share A d j + (Finset.univ.filter (fun j => share A d j < d j)).card := by
  refine Nat.le_of_mul_le_mul_right ?_ (Nat.zero_lt_of_lt h)
  rw [Finset.card_filter, ← Finset.sum_add_distrib, Finset.sum_mul, Finset.mul_sum]
  refine Finset.sum_le_sum fun j _ => ?_
  split_ifs with hs
  · exact ((Nat.div_lt_iff_lt_mul (Nat.zero_lt_of_lt h)).mp (Nat.lt_succ_self (share A d j))).le
  · rw [Nat.mul_comm]
    exact Nat.mul_le_mul (Nat.not_lt.mp hs) h.le

end

/-! ### One class -/

section
variable {asks : Vector Ask 4} {c : Nat} {rr : Fin 4} {g : Shares}

/-- A class whose wants the pool holds gets them in full. -/
theorem shareClass_plenty (h : ∑ j, shortfall asks c g.1 j ≤ g.2) :
    (shareClass asks c rr g).1.2 = g.2 - ∑ j, shortfall asks c g.1 j ∧
      ∀ j : Fin 4, (shareClass asks c rr g).1.1[j] = g.1[j] + shortfall asks c g.1 j := by
  have heq : (shareClass asks c rr g).1 =
      (Vector.ofFn (fun j => g.1[j] + shortfall asks c g.1 j), g.2 - ∑ j, shortfall asks c g.1 j) := by
    rw [Fin.sum_univ_def] at h ⊢
    exact congrArg Prod.fst (if_pos h)
  simp [heq]

/-- A class whose wants exceed the pool takes all of it: its truncated shares, and one credit more for some slots whose
share is below their shortfall. -/
theorem shareClass_short (h : g.2 < ∑ j, shortfall asks c g.1 j) :
    (shareClass asks c rr g).1.2 = 0 ∧ ∃ S : Finset (Fin 4),
      ∑ j, share g.2 (shortfall asks c g.1) j + S.card = g.2 ∧
      (∀ j ∈ S, share g.2 (shortfall asks c g.1) j < shortfall asks c g.1 j) ∧
      ∀ j : Fin 4, (shareClass asks c rr g).1.1[j] =
        g.1[j] + share g.2 (shortfall asks c g.1) j + if j ∈ S then 1 else 0 := by
  have hle := sum_share_le h
  have hcard := le_sum_share_add_card h
  have hfour := Finset.card_le_univ (Finset.univ.filter
    (fun j => share g.2 (shortfall asks c g.1) j < shortfall asks c g.1 j))
  rw [Fintype.card_fin] at hfour
  obtain ⟨S, hS, hSc, hg⟩ := remainder_gives 4
    (fun j => decide (share g.2 (shortfall asks c g.1) j < shortfall asks c g.1 j)) rr
    (g.2 - ∑ j, share g.2 (shortfall asks c g.1) j)
    (Vector.ofFn (fun j => g.1[j] + share g.2 (shortfall asks c g.1) j))
    (by omega) (by simp only [decide_eq_true_eq]; omega)
  have heq : (shareClass asks c rr g).1 =
      ((remainder (fun j => decide (share g.2 (shortfall asks c g.1) j < shortfall asks c g.1 j)) 4 rr
        (g.2 - ∑ j, share g.2 (shortfall asks c g.1) j)
        (Vector.ofFn (fun j => g.1[j] + share g.2 (shortfall asks c g.1) j))).1, 0) := by
    unfold share
    simp only [Fin.sum_univ_def] at h ⊢
    exact congrArg Prod.fst (if_neg (Nat.not_le.mpr h))
  rw [heq]
  exact ⟨rfl, S, by omega, fun j hj => by simpa using hS hj, fun j => (hg j).trans (by simp)⟩

/-- The credits that shares hold in all: the grants and what is left. -/
def credits (g : Shares) : Nat := ∑ j : Fin 4, g.1[j] + g.2

theorem credits_eq_slot_add_rest (g : Shares) (j : Fin 4) :
    credits g = g.1[j] + ∑ i ∈ Finset.univ.erase j, g.1[i] + g.2 := by
  rw [credits, Finset.add_sum_erase _ (fun i => g.1[i]) (Finset.mem_univ j)]

variable (asks c rr g)

theorem shareClass_left : (shareClass asks c rr g).1.2 = g.2 - ∑ j, shortfall asks c g.1 j := by
  obtain h | h := le_or_gt (∑ j, shortfall asks c g.1 j) g.2
  · exact (shareClass_plenty h).1
  · rw [(shareClass_short h).1, Nat.sub_eq_zero_of_le h.le]

theorem shareClass_between (j : Fin 4) :
    g.1[j] ≤ (shareClass asks c rr g).1.1[j] ∧ (shareClass asks c rr g).1.1[j] ≤ g.1[j] + shortfall asks c g.1 j := by
  obtain h | h := le_or_gt (∑ j, shortfall asks c g.1 j) g.2
  · rw [(shareClass_plenty h).2 j]
    omega
  · obtain ⟨-, S, -, hS, hg⟩ := shareClass_short (rr := rr) h
    have := share_le h j
    rw [hg j]
    split_ifs with hj
    · have := hS j hj
      omega
    · omega

theorem credits_shareClass : credits (shareClass asks c rr g).1 = credits g := by
  unfold credits
  obtain h | h := le_or_gt (∑ j, shortfall asks c g.1 j) g.2
  · obtain ⟨hleft, hg⟩ := shareClass_plenty (rr := rr) h
    simp only [hleft, hg, Finset.sum_add_distrib]
    omega
  · obtain ⟨h0, S, hsum, -, hg⟩ := shareClass_short (rr := rr) h
    have hone : ∑ j, (if j ∈ S then 1 else 0) = S.card := by simp
    simp only [h0, hg, Finset.sum_add_distrib, hone]
    omega

/-- No slot gains more than the class found in the pool. -/
theorem shareClass_le_add_left (j : Fin 4) : (shareClass asks c rr g).1.1[j] ≤ g.1[j] + g.2 := by
  have hcredits := credits_shareClass asks c rr g
  have hrest : ∑ i ∈ Finset.univ.erase j, g.1[i] ≤ ∑ i ∈ Finset.univ.erase j, (shareClass asks c rr g).1.1[i] :=
    Finset.sum_le_sum fun i _ => (shareClass_between asks c rr g i).1
  rw [credits_eq_slot_add_rest _ j, credits_eq_slot_add_rest g j] at hcredits
  omega

end

end Sys2Proof.Machine
end

section
/-! The two passes of the grant procedure (R137): what the shares hold after each slot's floor and after each class's wants,
and the statement on them. -/

namespace Sys2Proof.Machine

open Sys2Proof

/-! ### The floors -/

section
variable (asks : Vector Ask 4) (pool : Nat)

/-- The floor of slot j, no higher than its ceiling (R136). -/
def effectiveFloor (j : Fin 4) : Nat := min asks[j].floor asks[j].ceil

/-- Slot i is a member whose floor comes before that of slot k of class c. -/
abbrev ComesBefore (c k : Nat) (i : Fin 4) : Prop := asks[i].mem ∧ (asks[i].cls < c ∨ asks[i].cls = c ∧ i.1 < k)

/-- What the floors that come before that of slot k of class c ask for. -/
def floorsBefore (c k : Nat) : Nat :=
  ((List.finRange 4).map (fun i => if ComesBefore asks c k i then effectiveFloor asks i else 0)).sum

/-- What slot j is given of the pool for its floor. -/
def floorGrant (j : Fin 4) : Nat := min (effectiveFloor asks j) (pool - floorsBefore asks asks[j].cls j)

/-- The shares after the floors that come before that of slot k of class c. -/
structure FlooredBefore (c k : Nat) (g : Shares) : Prop where
  granted (j : Fin 4) : g.1[j] = if ComesBefore asks c k j then floorGrant asks pool j else 0
  left : g.2 = pool - floorsBefore asks c k
  conserved : credits g = pool

/-- Slot j's turn among the floors of class c. -/
def floorTurn (c : Nat) (g : Shares) (j : Fin 4) : Shares :=
  if asks[j].mem ∧ asks[j].cls = c then
    (upd g.1 j (fun _ => min (effectiveFloor asks j) g.2), g.2 - min (effectiveFloor asks j) g.2)
  else g

variable {asks pool} {c : Nat} {g : Shares}

theorem floorsOf_eq_turns : floorsOf asks c g = (List.finRange 4).foldl (floorTurn asks c) g := by
  refine congrArg (fun turn => (List.finRange 4).foldl turn g) (funext₂ fun x j => ?_)
  simp only [floorTurn, effectiveFloor, min_assoc, Bool.and_eq_true, decide_eq_true_eq]

theorem comesBefore_nextSlot (k i : Fin 4) :
    ComesBefore asks c (k + 1) i ↔ ComesBefore asks c k i ∨ i = k ∧ asks[i].mem ∧ asks[i].cls = c := by
  rw [Fin.ext_iff]
  grind

theorem not_comesBefore_self {k : Fin 4} (h : asks[k].cls = c) : ¬ ComesBefore asks c k k := by
  grind

/-- After the last slot of a class comes the first of the next. -/
theorem comesBefore_nextClass (i : Fin 4) : ComesBefore asks c 4 i ↔ ComesBefore asks (c + 1) 0 i := by
  have := i.2
  grind

theorem floorsBefore_nextClass : floorsBefore asks c 4 = floorsBefore asks (c + 1) 0 := by
  simp only [floorsBefore, comesBefore_nextClass]

theorem floorsBefore_nextSlot (k : Fin 4) : floorsBefore asks c (k + 1) =
    floorsBefore asks c k + if asks[k].mem ∧ asks[k].cls = c then effectiveFloor asks k else 0 := by
  have hturn (i : Fin 4) : (if ComesBefore asks c (k + 1) i then effectiveFloor asks i else 0) =
      (if ComesBefore asks c k i then effectiveFloor asks i else 0) +
        if i = k then (if asks[k].mem ∧ asks[k].cls = c then effectiveFloor asks k else 0) else 0 := by
    simp only [comesBefore_nextSlot]
    obtain rfl | hne := eq_or_ne i k
    · grind
    · simp [hne]
  simp only [floorsBefore, ← Fin.sum_univ_def, hturn, Finset.sum_add_distrib, Finset.sum_ite_eq', Finset.mem_univ, if_true]

theorem FlooredBefore.start : FlooredBefore asks pool 0 0 (Vector.replicate 4 0, pool) where
  granted j := by simp
  left := by simp [floorsBefore, ComesBefore]
  conserved := by simp [credits]

theorem FlooredBefore.nextClass (h : FlooredBefore asks pool c 4 g) : FlooredBefore asks pool (c + 1) 0 g where
  granted j := by simpa only [comesBefore_nextClass] using h.granted j
  left := floorsBefore_nextClass ▸ h.left
  conserved := h.conserved

/-- Credits that move from the pool to a slot without a grant are conserved. -/
theorem credits_upd_zero {j : Fin 4} {n : Nat} (h0 : g.1[j] = 0) (hn : n ≤ g.2) :
    credits (upd g.1 j (fun _ => n), g.2 - n) = credits g := by
  have hrest : ∑ i ∈ Finset.univ.erase j, (upd g.1 j (fun _ => n))[i] = ∑ i ∈ Finset.univ.erase j, g.1[i] :=
    Finset.sum_congr rfl fun i hi => upd_ne _ _ _ _ (Finset.ne_of_mem_erase hi)
  rw [credits_eq_slot_add_rest _ j, credits_eq_slot_add_rest g j, hrest, upd_self, h0]
  omega

theorem FlooredBefore.turn {k : Fin 4} (h : FlooredBefore asks pool c k g) :
    FlooredBefore asks pool c (k + 1) (floorTurn asks c g k) := by
  obtain ⟨hgranted, hleft, hconserved⟩ := h
  have hnext := floorsBefore_nextSlot (asks := asks) (c := c) k
  rw [floorTurn]
  split_ifs at hnext ⊢ with hk
  · have h0 : g.1[k] = 0 := (hgranted k).trans (if_neg (not_comesBefore_self hk.2))
    refine ⟨fun j => ?_, by simp only [hleft]; omega, (credits_upd_zero h0 (min_le_right _ _)).trans hconserved⟩
    obtain rfl | hne := eq_or_ne j k
    · rw [upd_self, if_pos ((comesBefore_nextSlot j j).mpr (.inr ⟨rfl, hk⟩)), hleft, floorGrant, hk.2]
    · simpa [comesBefore_nextSlot, upd_ne _ _ _ _ hne, hne] using hgranted j
  · refine ⟨fun j => ?_, by omega, hconserved⟩
    have hj : ¬ (j = k ∧ asks[j].mem ∧ asks[j].cls = c) := by rintro ⟨rfl, h⟩; exact hk h
    simpa only [comesBefore_nextSlot, hj, or_false] using hgranted j

theorem FlooredBefore.afterClass (h : FlooredBefore asks pool c 0 g) :
    FlooredBefore asks pool (c + 1) 0 (floorsOf asks c g) := by
  rw [floorsOf_eq_turns]
  exact (foldl_finRange_carries (FlooredBefore asks pool c) _ g h fun _ _ => FlooredBefore.turn).nextClass

variable (asks pool)

/-- The shares after the floors of all classes. -/
def floorPass : Shares := (List.finRange 4).foldl (fun g (c : Fin 4) => floorsOf asks c g) (Vector.replicate 4 0, pool)

theorem floorPass_floored : FlooredBefore asks pool 4 0 (floorPass asks pool) :=
  foldl_finRange_carries (fun c => FlooredBefore asks pool c 0) _ _ .start fun _ _ => FlooredBefore.afterClass

theorem floorPass_le_ceil (j : Fin 4) : (floorPass asks pool).1[j] ≤ asks[j].ceil := by
  rw [(floorPass_floored asks pool).granted j, floorGrant, effectiveFloor]
  split_ifs <;> omega

theorem floorPass_nonmember {j : Fin 4} (h : asks[j].mem = false) : (floorPass asks pool).1[j] = 0 := by
  rw [(floorPass_floored asks pool).granted j, if_neg fun hj => Bool.false_ne_true (h.symm.trans hj.1)]

theorem floorPass_member {j : Fin 4} (h : asks[j].mem = true) (hc : asks[j].cls < 4) :
    (floorPass asks pool).1[j] = floorGrant asks pool j :=
  ((floorPass_floored asks pool).granted j).trans (if_pos ⟨h, .inl hc⟩)

end

/-! ### The wants -/

section
variable (asks : Vector Ask 4) (F : Shares)

/-- What slot j wants beyond its floor, up to its ceiling. -/
def want (j : Fin 4) : Nat := min asks[j].req asks[j].ceil - F.1[j]

/-- What the members of the classes below c want beyond their floors. -/
def wantedBelow (c : Nat) : Nat :=
  ((List.finRange 4).map (fun j => if asks[j].mem ∧ asks[j].cls < c then want asks F j else 0)).sum

/-- What R137 gives a member of class c for its want, beyond its floor: all of it, none, or a share in proportion. -/
structure FairGrant (c : Nat) (j : Fin 4) (n : Nat) : Prop where
  full : wantedBelow asks F (c + 1) ≤ F.2 → n = F.1[j] + want asks F j
  none : F.2 < wantedBelow asks F c → n = F.1[j]
  part : wantedBelow asks F c ≤ F.2 → F.2 < wantedBelow asks F (c + 1) →
    F.1[j] + (F.2 - wantedBelow asks F c) * want asks F j / (wantedBelow asks F (c + 1) - wantedBelow asks F c) ≤ n ∧
    n ≤ F.1[j] + (F.2 - wantedBelow asks F c) * want asks F j / (wantedBelow asks F (c + 1) - wantedBelow asks F c) + 1

/-- The shares once the wants of the classes below c have been served over the floors F. -/
structure ServedBelow (c : Nat) (g : Shares) : Prop where
  left : g.2 = F.2 - wantedBelow asks F c
  conserved : credits g = credits F
  between (j : Fin 4) : F.1[j] ≤ g.1[j] ∧ g.1[j] ≤ F.1[j] + if asks[j].mem ∧ asks[j].cls < c then want asks F j else 0
  fair (j : Fin 4) : asks[j].mem ∧ asks[j].cls < c → FairGrant asks F asks[j].cls j g.1[j]

variable {asks F} {c : Nat} {g : Shares}

theorem wantedBelow_succ : wantedBelow asks F (c + 1) = wantedBelow asks F c + ∑ j, shortfall asks c F.1 j := by
  simp only [wantedBelow, ← Fin.sum_univ_def, ← Finset.sum_add_distrib]
  refine Finset.sum_congr rfl fun j _ => ?_
  simp only [shortfall, want, Bool.and_eq_true, decide_eq_true_eq]
  grind

theorem shortfall_eq_want {j : Fin 4} (h : asks[j].mem ∧ asks[j].cls = c) : shortfall asks c F.1 j = want asks F j :=
  if_pos (by simpa using h)

theorem shortfall_eq_zero {j : Fin 4} (h : ¬ (asks[j].mem ∧ asks[j].cls = c)) : shortfall asks c g.1 j = 0 :=
  if_neg (by simpa using h)

/-- A slot whose class has not been served holds its floor. -/
theorem ServedBelow.unserved (h : ServedBelow asks F c g) {j : Fin 4} (hj : ¬ (asks[j].mem ∧ asks[j].cls < c)) :
    g.1[j] = F.1[j] := by
  have := h.between j
  rw [if_neg hj] at this
  omega

/-- What a class that has not been served falls short of is what it wanted over its floors. -/
theorem ServedBelow.shortfall_eq (h : ServedBelow asks F c g) : shortfall asks c g.1 = shortfall asks c F.1 := by
  funext j
  by_cases hj : asks[j].mem ∧ asks[j].cls = c
  · rw [shortfall_eq_want hj, shortfall_eq_want hj, want, want, h.unserved (by omega)]
  · rw [shortfall_eq_zero hj, shortfall_eq_zero hj]

theorem ServedBelow.start : ServedBelow asks F 0 F where
  left := by simp [wantedBelow]
  conserved := rfl
  between j := by simp
  fair j hj := absurd hj.2 (Nat.not_lt_zero _)

/-- A slot is served fairly in its own class's turn. -/
theorem ServedBelow.fairGrant_shareClass (h : ServedBelow asks F c g) (rr : Fin 4) {j : Fin 4}
    (hj : asks[j].mem ∧ asks[j].cls = c) : FairGrant asks F c j (shareClass asks c rr g).1.1[j] := by
  have hsucc := wantedBelow_succ (asks := asks) (F := F) (c := c)
  have hF : g.1[j] = F.1[j] := h.unserved (by omega)
  have hleft := h.left
  refine ⟨fun hfull => ?_, fun hnone => ?_, fun hlo hhi => ?_⟩
  · rw [(shareClass_plenty (by rw [h.shortfall_eq]; omega)).2 j, h.shortfall_eq, shortfall_eq_want hj, hF]
  · have := shareClass_between asks c rr g j
    have := shareClass_le_add_left asks c rr g j
    omega
  · obtain ⟨-, S, -, -, hg⟩ := shareClass_short (rr := rr) (show g.2 < ∑ j, shortfall asks c g.1 j by
      rw [h.shortfall_eq]
      omega)
    have hshare : share g.2 (shortfall asks c g.1) j = (F.2 - wantedBelow asks F c) * want asks F j /
        (wantedBelow asks F (c + 1) - wantedBelow asks F c) := by
      rw [share, h.shortfall_eq, shortfall_eq_want hj, hleft, hsucc, Nat.add_sub_cancel_left]
    rw [hg j, hF, hshare]
    split_ifs <;> omega

theorem ServedBelow.afterClass (h : ServedBelow asks F c g) (rr : Fin 4) :
    ServedBelow asks F (c + 1) (shareClass asks c rr g).1 where
  left := by
    rw [shareClass_left, h.shortfall_eq, h.left, wantedBelow_succ]
    omega
  conserved := (credits_shareClass asks c rr g).trans h.conserved
  between j := by
    have hturn := shareClass_between asks c rr g j
    have hbefore := h.between j
    rw [h.shortfall_eq] at hturn
    by_cases hj : asks[j].mem ∧ asks[j].cls = c
    · rw [shortfall_eq_want hj, h.unserved (by omega)] at hturn
      rwa [if_pos ⟨hj.1, by omega⟩]
    · have hserved : asks[j].mem ∧ asks[j].cls < c + 1 ↔ asks[j].mem ∧ asks[j].cls < c := by grind
      rw [shortfall_eq_zero hj] at hturn
      simp only [hserved]
      omega
  fair j hj := by
    obtain hc | hc := Nat.lt_succ_iff_lt_or_eq.mp hj.2
    · have hturn := shareClass_between asks c rr g j
      rw [shortfall_eq_zero (by omega)] at hturn
      rw [show (shareClass asks c rr g).1.1[j] = g.1[j] by omega]
      exact h.fair j ⟨hj.1, hc⟩
    · rw [hc]
      exact h.fairGrant_shareClass rr ⟨hj.1, hc⟩

end

/-! ### The procedure -/

section
variable (asks : Vector Ask 4) (pool : Nat) (rr : Vector (Fin 4) 4)

theorem grants_floorsOnly : grants asks pool true rr = (floorPass asks pool, rr) := rfl

theorem grants_served : ServedBelow asks (floorPass asks pool) 4 (grants asks pool false rr).1 :=
  foldl_finRange_carries (fun c (x : Shares × Vector (Fin 4) 4) => ServedBelow asks (floorPass asks pool) c x.1) _
    (floorPass asks pool, rr) .start fun c x h => h.afterClass x.2[c]

/-- A grant lies between the floor and the ceiling, and all credits of the pool are accounted for. -/
theorem grants_bounds (floorsOnly : Bool) : credits (grants asks pool floorsOnly rr).1 = pool ∧ ∀ j : Fin 4,
    (asks[j].mem = false → (grants asks pool floorsOnly rr).1.1[j] = 0) ∧
    (grants asks pool floorsOnly rr).1.1[j] ≤ asks[j].ceil ∧
    (floorPass asks pool).1[j] ≤ (grants asks pool floorsOnly rr).1.1[j] := by
  have hfloors := floorPass_floored asks pool
  cases floorsOnly with
  | true =>
    rw [grants_floorsOnly]
    exact ⟨hfloors.conserved, fun j => ⟨floorPass_nonmember asks pool, floorPass_le_ceil asks pool j, le_rfl⟩⟩
  | false =>
    have hserved := grants_served asks pool rr
    refine ⟨hserved.conserved.trans hfloors.conserved, fun j => ⟨fun hm => ?_, ?_, (hserved.between j).1⟩⟩
    · rw [hserved.unserved fun hj => Bool.false_ne_true (hm.symm.trans hj.1), floorPass_nonmember asks pool hm]
    · have hceil := floorPass_le_ceil asks pool j
      have hbetween := hserved.between j
      rw [want] at hbetween
      split_ifs at hbetween <;> omega

end

/-! ### The statement -/

/-- Settles O27: each turn of a slot or of a class conserves the credits; a floor takes what the floors before it leave, and
a class is served by what the wants of lower classes leave. -/
theorem creditsConserved : Obligations.CreditsConserved := by
  intro asks pool floorsOnly rr
  obtain ⟨hcredits, hbounds⟩ := grants_bounds asks pool rr floorsOnly
  rw [credits, Fin.sum_univ_four] at hcredits
  refine ⟨hcredits, hbounds, fun hcls j hj => ⟨floorPass_member asks pool hj (hcls j), ?_, ?_⟩⟩
  · rintro rfl
    rfl
  · rintro rfl -
    obtain ⟨hfull, hnone, hpart⟩ := (grants_served asks pool rr).fair j ⟨hj, hcls j⟩
    exact ⟨hfull, hnone, hpart⟩

end Sys2Proof.Machine
end

section
/-! Half-bridges: what turning a switch on, setting the outputs of a motor, and a flag with its fault record change, and
what they leave (R154, R171 to R175). -/

namespace Sys2Proof.Machine

open Sys2Proof

variable (d : Dev)

/-! ### The switches of one half-bridge (R153, R154) -/

theorem Dev.turnOn_brg_ne {b c : BridgeIx} (h : c ≠ b) : (d.turnOn b).brg c = d.brg c := by
  unfold Dev.turnOn
  dsimp only
  split
  · exact Dev.onBrg_brg_ne _ _ h
  · rfl

theorem Dev.turnOff_brg_ne {b c : BridgeIx} (h : c ≠ b) : (d.turnOff b).brg c = d.brg c := by
  unfold Dev.turnOff
  dsimp only
  split
  · rfl
  · split
    · exact Dev.onBrg_brg_ne _ _ h
    · exact Dev.onBrg_brg_ne _ _ h

theorem Dev.turnOn_hs (b : BridgeIx) : ((d.turnOn b).brg b).hs = ((d.brg b).hs || d.hsMay b) := by
  unfold Dev.turnOn
  dsimp only
  split
  · rw [Dev.onBrg_brg]
    cases h : (d.brg b).hs <;> simp [h]
  · cases h : (d.brg b).hs <;> simp_all

theorem Dev.turnOn_ls (b : BridgeIx) : ((d.turnOn b).brg b).ls = ((d.brg b).ls || d.lsMay b) := by
  unfold Dev.turnOn
  dsimp only
  split
  · rw [Dev.onBrg_brg]
    cases h : (d.brg b).ls <;> simp [h]
  · cases h : (d.brg b).ls <;> simp_all

/-- A high side that turns on does so in this cycle, with DRV and DSCFG as they stand (R159, R167, R169). -/
theorem Dev.turnOn_of_hsMay {b : BridgeIx} (hoff : (d.brg b).hs = false) (hmay : d.hsMay b = true) :
    ((d.turnOn b).brg b).onAt = d.cycles ∧
    ∀ a, aGd b 0 ≤ a → a < aGd b 2 → (d.turnOn b).iw a = d.w a := by
  unfold Dev.turnOn
  dsimp only
  rw [hoff, hmay, if_pos (by rfl)]
  exact ⟨congrArg Bridge.onAt (Dev.onBrg_brg _ b _), fun a h0 h2 => d.iw_enforce _ _ a h0 h2⟩

/-! ### The half-bridges of other motors -/

theorem Dev.command_brg_ne {b c : BridgeIx} (en pulse : Bool) (h : c ≠ b) : (d.command b en pulse).brg c = d.brg c := by
  unfold Dev.command
  dsimp only
  split
  · rw [Dev.turnOn_brg_ne _ h, Dev.turnOff_brg_ne _ h]
  · rw [Dev.turnOn_brg_ne _ h, Dev.turnOff_brg_ne _ h, Dev.onBrg_brg_ne _ _ h]

theorem Dev.drive_brg_of_ne {m : MotorIx} {c : BridgeIx} (h : motOfBridge c ≠ m) : (d.drive m).brg c = d.brg c :=
  Dev.each_inv (P := fun e => e.brg c = d.brg c) _ d rfl fun e ph he =>
    (e.command_brg_ne _ _ fun hc => h ((congrArg motOfBridge hc).trans (motOfBridge_bridgeOf m ph))).trans he

theorem Dev.judgeLimit_brg_of_ne {m : MotorIx} {c : BridgeIx} (h : motOfBridge c ≠ m) :
    (d.judgeLimit m).brg c = d.brg c := by
  unfold Dev.judgeLimit
  dsimp only
  split
  · rw [Dev.drive_brg_of_ne _ h, Dev.onMot_brg, Dev.inc_brg, Dev.setB_brg]
  · rfl

/-! ### Stamps and saturating counts (R36, R175) -/

theorem Dev.stamp_w_ne {a b : Nat} (h : b < a ∨ a + 2 < b) : (d.stamp a).w b = d.w b := by
  unfold Dev.stamp
  rw [Dev.w_put_ne _ _ (by omega), Dev.w_put_ne _ _ (by omega), Dev.w_put_ne _ _ (by omega)]

theorem Dev.stamp_w_lo (a : Nat) : (d.stamp a).w a = lo16 d.time := by
  unfold Dev.stamp
  rw [Dev.w_put_ne _ _ (by omega), Dev.w_put_ne _ _ (by omega), Dev.w_put_self]

theorem Dev.stamp_w_hi (a : Nat) : (d.stamp a).w (a + 1) = hi16 d.time := by
  unfold Dev.stamp
  rw [Dev.w_put_ne _ _ (by omega), Dev.w_put_self]

theorem Dev.addSat_w_ne {a b : Nat} (hi lo n : Nat) (h : b ≠ a) : (d.addSat a hi lo n).w b = d.w b := d.w_put_ne _ h

theorem Dev.fld_addSat_self (a : Nat) {hi lo : Nat} (n : Nat) (hh : hi < 16) (hl : lo ≤ hi) :
    (d.addSat a hi lo n).fld a hi lo = min (d.fld a hi lo + n) (2 ^ (hi + 1 - lo) - 1) := by
  have hpos := Nat.two_pow_pos (hi + 1 - lo)
  unfold Dev.addSat
  rw [Dev.fld_putF_self d a hi lo _ hh hl, Nat.mod_eq_of_lt (by omega)]

theorem Dev.setB_w_ne {a b : Nat} (i : Nat) (h : b ≠ a) : (d.setB a i).w b = d.w b := d.w_put_ne _ h

/-! ### Fault records (R171 to R175) -/

/-- A half-bridge without the mark of its last record. -/
def Bridge.sansRec (x : Bridge) : Bridge := { x with recAt := none }

theorem Dev.takeSeq_w_ne {a : Nat} (h : a ≠ 0x6E40) : d.takeSeq.w a = d.w a := by
  unfold Dev.takeSeq
  dsimp only
  split
  · rfl
  · exact d.w_put_ne _ h

/-- FIRST of the group takes a record of half-bridge b (R174). -/
def Dev.showFirst (d : Dev) (b : BridgeIx) : Dev :=
  let g := grpOfBridge b
  let first := aGdg g 2
  if d.bit first 15 then
    if (d.grp g).gdFirst = some d.cycles && decide (b.1 < d.fld first 5 0) then d.putF first 5 0 b.1 else d
  else ((d.putF first 5 0 b.1).setB first 15).onGrp g (fun x => { x with gdFirst := some d.cycles })

/-- A record marks its peers with SAME, writes its own words with its stamp, and then FIRST (R172 to R174). -/
theorem Dev.record_eq (b : BridgeIx) (kind : Nat) : ∃ (peers : List BridgeIx) (v : Word),
    d.record b kind = (((((d.takeSeq.each peers (fun e x => e.putB (aGd x 4) 15 true)).onBrg b
      (fun x => { x with recAt := some d.takeSeq.cycles })).put (aGd b 4) v).stamp (aGd b 5)).showFirst b) := ⟨_, _, rfl⟩

theorem Dev.showFirst_w_ne {b : BridgeIx} {a : Nat} (h : a ≠ aGdg (grpOfBridge b) 2) : (d.showFirst b).w a = d.w a := by
  have hput : (d.putF (aGdg (grpOfBridge b) 2) 5 0 b.1).w a = d.w a := d.w_put_ne _ h
  unfold Dev.showFirst
  dsimp only
  split
  · split
    · exact hput
    · rfl
  · exact (Dev.setB_w_ne _ 15 h).trans hput

/-- The words of a half-bridge before its record and after it stay, for every half-bridge. -/
theorem Dev.record_w (b : BridgeIx) (kind : Nat) (c : BridgeIx) {o : Nat} (h : o < 4 ∨ 7 < o ∧ o < 0x20) :
    (d.record b kind).w (aGd c o) = d.w (aGd c o) := by
  obtain ⟨peers, v, e⟩ := d.record_eq b kind
  have hpeers := Dev.each_inv (P := fun e => e.w (aGd c o) = d.w (aGd c o)) (f := fun e x => e.putB (aGd x 4) 15 true)
    peers d.takeSeq (d.takeSeq_w_ne (by unfold aGd; omega))
    fun e x he => (e.w_put_ne _ (by unfold aGd; omega)).trans he
  rw [e, Dev.showFirst_w_ne _ (by unfold aGd aGdg; omega), Dev.stamp_w_ne _ (by unfold aGd; omega),
    Dev.w_put_ne _ _ (by unfold aGd; omega), Dev.onBrg_w, hpeers]

/-- What a record of half-bridge b leaves of the module: the engines, the reports on their way, and of the half-bridges all
but the mark of the record. -/
structure Dev.RecordOnly (d e : Dev) : Prop where
  motors : e.motors = d.motors
  reports : e.reports = d.reports
  cycles : e.cycles = d.cycles
  brg : ∀ c, (e.brg c).sansRec = (d.brg c).sansRec

theorem Dev.RecordOnly.trans {c d e : Dev} (h : c.RecordOnly d) (h' : d.RecordOnly e) : c.RecordOnly e :=
  ⟨h'.motors.trans h.motors, h'.reports.trans h.reports, h'.cycles.trans h.cycles, fun x => (h'.brg x).trans (h.brg x)⟩

theorem Dev.RecordOnly.mot {d e : Dev} (h : d.RecordOnly e) (n : MotorIx) : e.mot n = d.mot n := by
  unfold Dev.mot
  rw [h.motors]

theorem Dev.RecordOnly.time {d e : Dev} (h : d.RecordOnly e) : e.time = d.time := by
  unfold Dev.time
  rw [h.cycles]

theorem Dev.recordOnly_put (a : Nat) (v : Word) : d.RecordOnly (d.put a v) := ⟨rfl, rfl, rfl, fun _ => rfl⟩

theorem Dev.recordOnly_setB (a i : Nat) : d.RecordOnly (d.setB a i) := ⟨rfl, rfl, rfl, fun _ => rfl⟩

theorem Dev.recordOnly_onGrp (g : GroupIx) (f : Group → Group) : d.RecordOnly (d.onGrp g f) :=
  ⟨rfl, rfl, rfl, fun _ => rfl⟩

theorem Dev.recordOnly_stamp (a : Nat) : d.RecordOnly (d.stamp a) :=
  ((d.recordOnly_put _ _).trans (Dev.recordOnly_put _ _ _)).trans (Dev.recordOnly_put _ _ _)

theorem Dev.recordOnly_takeSeq : d.RecordOnly d.takeSeq := by
  have hseq (e : Dev) (t : Option Nat) : e.RecordOnly { e with seqAt := t } := ⟨rfl, rfl, rfl, fun _ => rfl⟩
  unfold Dev.takeSeq
  dsimp only
  split
  · exact ⟨rfl, rfl, rfl, fun _ => rfl⟩
  · exact (d.recordOnly_put _ _).trans (hseq _ _)

theorem Dev.recordOnly_peers (peers : List BridgeIx) :
    d.RecordOnly (d.takeSeq.each peers (fun e x => e.putB (aGd x 4) 15 true)) :=
  Dev.each_inv (P := d.RecordOnly) peers d.takeSeq d.recordOnly_takeSeq fun e _ he => he.trans (e.recordOnly_put _ _)

theorem Dev.recordOnly_showFirst (b : BridgeIx) : d.RecordOnly (d.showFirst b) := by
  unfold Dev.showFirst
  dsimp only
  split
  · split
    · exact d.recordOnly_put _ _
    · exact ⟨rfl, rfl, rfl, fun _ => rfl⟩
  · exact ((d.recordOnly_put _ _).trans (Dev.recordOnly_setB _ _ _)).trans (Dev.recordOnly_onGrp _ _ _)

theorem Dev.recordOnly_mark (b : BridgeIx) (t : Option Nat) : d.RecordOnly (d.onBrg b (fun x => { x with recAt := t })) := by
  refine ⟨rfl, rfl, rfl, fun c => ?_⟩
  by_cases hc : c = b
  · rw [hc, Dev.onBrg_brg]
    rfl
  · rw [Dev.onBrg_brg_ne _ _ hc]

theorem Dev.recordOnly_record (b : BridgeIx) (kind : Nat) : d.RecordOnly (d.record b kind) := by
  obtain ⟨peers, v, e⟩ := d.record_eq b kind
  rw [e]
  exact ((((d.recordOnly_peers peers).trans (Dev.recordOnly_mark _ b _)).trans (Dev.recordOnly_put _ _ _)).trans
    (Dev.recordOnly_stamp _ _)).trans (Dev.recordOnly_showFirst _ b)

/-- The record of half-bridge b is stamped with TIME (R172). -/
theorem Dev.record_stamp (b : BridgeIx) (kind : Nat) :
    (d.record b kind).w (aGd b 5) = lo16 d.time ∧ (d.record b kind).w (aGd b 6) = hi16 d.time := by
  obtain ⟨peers, v, e⟩ := d.record_eq b kind
  rw [e, Dev.showFirst_w_ne _ (by unfold aGd aGdg; omega), Dev.showFirst_w_ne _ (by unfold aGd aGdg; omega),
    Dev.stamp_w_lo, show aGd b 6 = aGd b 5 + 1 from rfl, Dev.stamp_w_hi, Dev.put_time, Dev.onBrg_time,
    (d.recordOnly_peers peers).time]
  exact ⟨rfl, rfl⟩

/-! ### Flags (R171, R175) -/

/-- The counts of half-bridge b, with the flag (R175): BSCNT for BSUV, DSCNT for a desaturation. -/
def Dev.countFlag (d : Dev) (b : BridgeIx) (flag : Nat) : Dev :=
  if flag = 2 then d.addSat (aGd b 8) 15 8 1 else d.addSat (aGd b 8) 7 0 1

/-- What a flag does once it has set and counted: a record where all flags were 0, or a kind that goes before the one of
this tick's record, or nothing (R171, R172). -/
theorem Dev.gateFlag_cases (b : BridgeIx) (flag : Nat) {P : Dev → Prop}
    (hrecord : d.w (aGd b 3) = 0 → P (((d.orW (aGd b 3) (1#16 <<< flag)).countFlag b flag).record b flag))
    (hkind : d.w (aGd b 3) ≠ 0 → P (((d.orW (aGd b 3) (1#16 <<< flag)).countFlag b flag).putF (aGd b 4) 14 13 flag))
    (hnone : d.w (aGd b 3) ≠ 0 → P ((d.orW (aGd b 3) (1#16 <<< flag)).countFlag b flag)) : P (d.gateFlag b flag) := by
  show P (if d.w (aGd b 3) = 0 then ((d.orW (aGd b 3) (1#16 <<< flag)).countFlag b flag).record b flag
    else if ((d.orW (aGd b 3) (1#16 <<< flag)).countFlag b flag).recordedNow b &&
      decide (flag < ((d.orW (aGd b 3) (1#16 <<< flag)).countFlag b flag).fld (aGd b 4) 14 13)
    then ((d.orW (aGd b 3) (1#16 <<< flag)).countFlag b flag).putF (aGd b 4) 14 13 flag
    else (d.orW (aGd b 3) (1#16 <<< flag)).countFlag b flag)
  split
  case isTrue h => exact hrecord h
  case isFalse h =>
    split
    · exact hkind h
    · exact hnone h

theorem Dev.countFlag_w_ne {b : BridgeIx} (flag : Nat) {a : Nat} (h : a ≠ aGd b 8) : (d.countFlag b flag).w a = d.w a := by
  unfold Dev.countFlag
  split
  · exact d.addSat_w_ne _ _ _ h
  · exact d.addSat_w_ne _ _ _ h

theorem Dev.recordOnly_orW (a : Nat) (v : Word) : d.RecordOnly (d.orW a v) := ⟨rfl, rfl, rfl, fun _ => rfl⟩

theorem Dev.recordOnly_countFlag (b : BridgeIx) (flag : Nat) : d.RecordOnly (d.countFlag b flag) := by
  unfold Dev.countFlag
  split
  · exact d.recordOnly_put _ _
  · exact d.recordOnly_put _ _

theorem Dev.recordOnly_gateFlag (b : BridgeIx) (flag : Nat) : d.RecordOnly (d.gateFlag b flag) := by
  have hflag := (d.recordOnly_orW (aGd b 3) (1#16 <<< flag)).trans (Dev.recordOnly_countFlag _ b flag)
  exact d.gateFlag_cases b flag (P := d.RecordOnly) (fun _ => hflag.trans (Dev.recordOnly_record _ b flag))
    (fun _ => hflag.trans (Dev.recordOnly_put _ _ _)) (fun _ => hflag)

theorem Dev.gateFlag_w (b : BridgeIx) (flag : Nat) {o : Nat} (h : o < 4 ∨ 7 < o ∧ o < 0x20) :
    (d.gateFlag b flag).w (aGd b o) = ((d.orW (aGd b 3) (1#16 <<< flag)).countFlag b flag).w (aGd b o) :=
  d.gateFlag_cases b flag (P := fun e => e.w (aGd b o) = _) (fun _ => Dev.record_w _ b flag b h)
    (fun _ => Dev.w_put_ne _ _ (by unfold aGd; omega)) (fun _ => rfl)

/-- A flag that sets reads 1 (R171). -/
theorem Dev.gateFlag_bit (b : BridgeIx) {flag : Nat} (h : flag < 16) : (d.gateFlag b flag).bit (aGd b 3) flag = true := by
  have hw : (d.gateFlag b flag).w (aGd b 3) = (d.orW (aGd b 3) (1#16 <<< flag)).w (aGd b 3) :=
    (d.gateFlag_w b flag (by decide)).trans (Dev.countFlag_w_ne _ flag (by unfold aGd; omega))
  exact (Dev.bit_congr hw flag).trans (d.bit_setB_self (aGd b 3) h)

/-- A desaturation counts in DSCNT (R175). -/
theorem Dev.gateFlag_dscnt (b : BridgeIx) {flag : Nat} (h : flag ≠ 2) :
    (d.gateFlag b flag).fld (aGd b 8) 7 0 = min 255 (d.fld (aGd b 8) 7 0 + 1) := by
  have hold : (d.orW (aGd b 3) (1#16 <<< flag)).fld (aGd b 8) 7 0 = d.fld (aGd b 8) 7 0 :=
    Dev.fld_congr (d.w_put_ne _ (by unfold aGd; omega)) 7 0
  rw [Dev.fld_congr (d.gateFlag_w b flag (by decide)), Dev.countFlag, if_neg h,
    Dev.fld_addSat_self _ _ _ (by decide) (by decide), hold, min_comm]
  rfl

/-- An assertion of the bootstrap condition counts in BSCNT (R175). -/
theorem Dev.gateFlag_bscnt (b : BridgeIx) :
    (d.gateFlag b 2).fld (aGd b 8) 15 8 = min 255 (d.fld (aGd b 8) 15 8 + 1) := by
  have hold : (d.orW (aGd b 3) (1#16 <<< 2)).fld (aGd b 8) 15 8 = d.fld (aGd b 8) 15 8 :=
    Dev.fld_congr (d.w_put_ne _ (by unfold aGd; omega)) 15 8
  rw [Dev.fld_congr (d.gateFlag_w b 2 (by decide)), Dev.countFlag, if_pos rfl,
    Dev.fld_addSat_self _ _ _ (by decide) (by decide), hold, min_comm]
  rfl

/-- The first flag of a half-bridge makes its record (R172). -/
theorem Dev.gateFlag_stamp (b : BridgeIx) (flag : Nat) (h : d.w (aGd b 3) = 0) :
    (d.gateFlag b flag).w (aGd b 5) = lo16 d.time ∧ (d.gateFlag b flag).w (aGd b 6) = hi16 d.time := by
  refine d.gateFlag_cases b flag (P := fun e => e.w (aGd b 5) = lo16 d.time ∧ e.w (aGd b 6) = hi16 d.time) (fun _ => ?_)
    (fun hn => absurd h hn) (fun hn => absurd h hn)
  rw [← ((d.recordOnly_orW (aGd b 3) (1#16 <<< flag)).trans (Dev.recordOnly_countFlag _ b flag)).time]
  exact Dev.record_stamp _ b flag

end Sys2Proof.Machine
end

section
/-! The commands of a half-bridge: the end of a dead time, of blanking, a desaturation, and the bootstrap condition. -/

namespace Sys2Proof.Machine

open Sys2Proof

/-! ### A report on its way (R177) -/

@[simp] theorem Dev.report_w (d : Dev) (m : MotorIx) (ph : Fin 3) (c : Cause) (a : Nat) : (d.report m ph c).w a = d.w a := rfl
@[simp] theorem Dev.report_bit (d : Dev) (m : MotorIx) (ph : Fin 3) (c : Cause) (a i : Nat) :
    (d.report m ph c).bit a i = d.bit a i := rfl
@[simp] theorem Dev.report_fld (d : Dev) (m : MotorIx) (ph : Fin 3) (c : Cause) (a hi lo : Nat) :
    (d.report m ph c).fld a hi lo = d.fld a hi lo := rfl
@[simp] theorem Dev.report_brg (d : Dev) (m : MotorIx) (ph : Fin 3) (c : Cause) (b : BridgeIx) :
    (d.report m ph c).brg b = d.brg b := rfl
@[simp] theorem Dev.report_motors (d : Dev) (m : MotorIx) (ph : Fin 3) (c : Cause) : (d.report m ph c).motors = d.motors := rfl
@[simp] theorem Dev.report_mot (d : Dev) (m : MotorIx) (ph : Fin 3) (c : Cause) (n : MotorIx) :
    (d.report m ph c).mot n = d.mot n := rfl
@[simp] theorem Dev.report_reports (d : Dev) (m : MotorIx) (ph : Fin 3) (c : Cause) : (d.report m ph c).reports =
    d.reports ++ [{ motor := m, phase := ph, cause := c, at' := d.cycles }] := rfl

/-! ### The end of a dead time (R154) -/

theorem Dev.deadTimeOver_eq {d : Dev} (hr : d.runs = true) (b : BridgeIx) :
    d.deadTimeOver b = ((d.turnOn b).syncComp (motOfBridge b)).judgeLimit (motOfBridge b) := if_pos hr

/-- Before the current latch is judged, an end of a dead time has changed no word, and no half-bridge but its own. -/
theorem Dev.turnOn_syncComp (d : Dev) (b : BridgeIx) :
    ((d.turnOn b).syncComp (motOfBridge b)).words = d.words ∧
    ∀ c, c ≠ b → ((d.turnOn b).syncComp (motOfBridge b)).brg c = d.brg c :=
  ⟨(d.drives_turnOn b).words, fun _ hc => d.turnOn_brg_ne hc⟩

theorem Dev.deadTimeOver_words {d : Dev} (hr : d.runs = true) (b : BridgeIx) :
    d.SameWords (d.deadTimeOver b) [aCur (motOfBridge b) 4, aCur (motOfBridge b) 7] := by
  rw [Dev.deadTimeOver_eq hr b]
  exact (Dev.sameWords_of_words (d.turnOn_syncComp b).1 _).trans (Dev.sameRows_judgeLimit _ _).words

theorem Dev.deadTimeOver_brg_ne {d : Dev} (hr : d.runs = true) {b c : BridgeIx} (h : motOfBridge c ≠ motOfBridge b) :
    (d.deadTimeOver b).brg c = d.brg c := by
  rw [Dev.deadTimeOver_eq hr b, Dev.judgeLimit_brg_of_ne _ h]
  exact (d.turnOn_syncComp b).2 c fun e => h (congrArg motOfBridge e)

/-- With the current output low, the switch that is selected turns on and nothing else follows. -/
theorem Dev.deadTimeOver_of_low {d : Dev} (hr : d.runs = true) {b : BridgeIx} (h : d.bit (aCur (motOfBridge b) 5) 0 = false) :
    d.deadTimeOver b = (d.turnOn b).syncComp (motOfBridge b) := by
  rw [Dev.deadTimeOver_eq hr b]
  exact Dev.judgeLimit_of_low _ _ ((Dev.bit_congr (Dev.w_of_words (d.turnOn_syncComp b).1 _) 0).trans h)

/-! ### Blanking and desaturation (R166, R167) -/

theorem Dev.blankingOver_eq {d : Dev} {b : BridgeIx} (hr : d.runs = true) (hd : d.dieDrives (grpOfBridge b) = true)
    (hon : (d.brg b).isOn = true) (hbl : (d.brg b).onAt + d.blankTicks b ≤ d.cycles) (vds : Int) :
    d.blankingOver b vds = d.vdsLevel b (d.brg b).hs vds := by
  unfold Dev.blankingOver
  simp [hr, hd, hon, hbl]

/-- A VDS above the threshold of an enabled comparison starts the filter, or lets it run on. -/
theorem Dev.vdsLevel_high {d : Dev} {b : BridgeIx} {hs : Bool} {vds : Int} (hen : d.desatOn b hs = true)
    (hv : d.vdsHigh b vds = true) : d.vdsLevel b hs vds =
      d.onBrg b (fun x => { x with blanked := true, aboveAt := some (x.aboveAt.getD d.cycles) }) := by
  unfold Dev.vdsLevel
  rw [hen, hv]
  rfl

/-- A VDS below it, or a comparison that is not enabled, ends the filter. -/
theorem Dev.vdsLevel_low {d : Dev} {b : BridgeIx} {hs : Bool} {vds : Int}
    (h : d.desatOn b hs = false ∨ d.vdsHigh b vds = false) :
    d.vdsLevel b hs vds = d.onBrg b (fun x => { x with blanked := true, aboveAt := none }) := by
  unfold Dev.vdsLevel
  rw [Bool.and_eq_false_iff.mpr h]
  rfl

theorem Dev.vdsLevel_cycles (d : Dev) (b : BridgeIx) (hs : Bool) (vds : Int) : (d.vdsLevel b hs vds).cycles = d.cycles := rfl

section
variable {d : Dev} {b : BridgeIx} (hr : d.runs = true) (hd : d.dieDrives (grpOfBridge b) = true)
  (hon : (d.brg b).isOn = true) (hbl : (d.brg b).onAt + d.blankTicks b ≤ d.cycles)
include hr hd hon hbl

/-- A filter that has ended finds no desaturation. -/
theorem Dev.desat_of_ended {vds : Int} (h : ((d.vdsLevel b (d.brg b).hs vds).brg b).aboveAt = none) :
    d.desat b vds = d.vdsLevel b (d.brg b).hs vds := by
  unfold Dev.desat
  simp [hr, hd, hon, hbl, h]

/-- A filter that has run for 20 ticks finds a desaturation, once in an on-time (R167). -/
theorem Dev.desat_of_filtered {vds : Int} {t : Nat} (h : ((d.vdsLevel b (d.brg b).hs vds).brg b).aboveAt = some t)
    (ht : t + 20 ≤ d.cycles) (hdet : (d.brg b).detected = false) :
    d.desat b vds = (((d.vdsLevel b (d.brg b).hs vds).onBrg b (fun x => { x with detected := true })).gateFlag b
      (if (d.brg b).hs then 0 else 1)).report (motOfBridge b) (phaseOf b) .desat := by
  unfold Dev.desat
  simp [hr, hd, hon, hbl, h, hdet, ht, Dev.vdsLevel_cycles]

/-- A desaturation, whichever the switch: its flag, its count, its record, its mark and its report. -/
theorem Dev.desat_spec {vds : Int} {t : Nat} (hdet : (d.brg b).detected = false) (hen : d.desatOn b (d.brg b).hs = true)
    (hv : d.vdsHigh b vds = true) (habove : (d.brg b).aboveAt = some t) (ht : t + 20 ≤ d.cycles) :
    ((d.desat b vds).bit (aGd b 3) (if (d.brg b).hs then 0 else 1) = true ∧
      (d.desat b vds).fld (aGd b 8) 7 0 = min 255 (d.fld (aGd b 8) 7 0 + 1) ∧ ((d.desat b vds).brg b).detected = true ∧
      (d.w (aGd b 3) = 0 → (d.desat b vds).w (aGd b 5) = lo16 d.time ∧ (d.desat b vds).w (aGd b 6) = hi16 d.time)) ∧
    (d.desat b vds).reports =
      d.reports ++ [{ motor := motOfBridge b, phase := phaseOf b, cause := .desat, at' := d.cycles }] ∧
    (d.desat b vds).motors = d.motors := by
  have hlevel := Dev.vdsLevel_high hen hv
  have hsome : ((d.vdsLevel b (d.brg b).hs vds).brg b).aboveAt = some t := by
    rw [hlevel, Dev.onBrg_brg]
    exact congrArg (fun o : Option Nat => some (o.getD d.cycles)) habove
  have hflag : (if (d.brg b).hs then 0 else 1) < 16 ∧ (if (d.brg b).hs then 0 else 1) ≠ 2 := by
    cases (d.brg b).hs <;> decide
  rw [Dev.desat_of_filtered hr hd hon hbl hsome ht hdet, hlevel]
  generalize (if (d.brg b).hs then 0 else 1) = flag at hflag
  generalize he : Dev.onBrg (Dev.onBrg d b _) b _ = e
  have honly := e.recordOnly_gateFlag b flag
  have hmark : (e.brg b).detected = true := by rw [← he, Dev.onBrg_brg]
  simp only [Dev.report_bit, Dev.report_fld, Dev.report_w, Dev.report_brg, Dev.report_motors, Dev.report_reports,
    honly.reports, honly.motors, honly.cycles]
  refine ⟨⟨e.gateFlag_bit b hflag.1, ?_, (congrArg Bridge.detected (honly.brg b)).trans hmark, ?_⟩, ?_, ?_⟩
  · rw [e.gateFlag_dscnt b hflag.2, ← he, Dev.onBrg_fld, Dev.onBrg_fld]
  · have htime : e.time = d.time := by rw [← he, Dev.onBrg_time, Dev.onBrg_time]
    have hflt : e.w (aGd b 3) = d.w (aGd b 3) := by rw [← he, Dev.onBrg_w, Dev.onBrg_w]
    rw [← htime, ← hflt]
    exact e.gateFlag_stamp b flag
  · rw [← he, Dev.onBrg_reports, Dev.onBrg_reports, Dev.onBrg_cycles, Dev.onBrg_cycles]
  · rw [← he, Dev.onBrg_motors, Dev.onBrg_motors]

end

/-! ### The bootstrap condition (R164, R177) -/

theorem bridgeOf_motOfBridge (b : BridgeIx) : bridgeOf (motOfBridge b) (phaseOf b) = b :=
  Fin.ext (by simp only [bridgeOf, motOfBridge, phaseOf]; omega)

/-- The level of a motor's bootstrap reports is the one of its three half-bridges. -/
theorem Dev.syncBsuv_level (d : Dev) (m : MotorIx) : ((d.syncBsuv m).mot m).level.getLsbD 0 =
    (List.finRange 3).any (fun ph => (d.brg (bridgeOf m ph)).bsuv) := by
  unfold Dev.syncBsuv
  dsimp only
  rw [Dev.onMot_mot]
  cases (List.finRange 3).any (fun ph => (d.brg (bridgeOf m ph)).bsuv) <;> simp

theorem Dev.bootLow_eq {d : Dev} {b : BridgeIx} (hr : d.runs = true) (hd : d.dieDrives (grpOfBridge b) = true)
    (hhs : (d.brg b).hs = true) (hno : (d.brg b).bsuv = false)
    (ht : max (d.brg b).onAt ((d.brg b).relAt.getD 0) + 100 ≤ d.cycles) :
    d.bootLow b = (((d.onBrg b (fun x => { x with bsuv := true })).syncBsuv (motOfBridge b)).gateFlag b 2).report
      (motOfBridge b) (phaseOf b) .bsuv := by
  unfold Dev.bootLow
  simp [hr, hd, hhs, hno, ht]

/-- An assertion of the bootstrap condition: its flag, its count, its level, and its report. -/
theorem Dev.bootLow_spec {d : Dev} {b : BridgeIx} (hr : d.runs = true) (hd : d.dieDrives (grpOfBridge b) = true)
    (hhs : (d.brg b).hs = true) (hno : (d.brg b).bsuv = false)
    (ht : max (d.brg b).onAt ((d.brg b).relAt.getD 0) + 100 ≤ d.cycles) :
    (d.bootLow b).bit (aGd b 3) 2 = true ∧
    (d.bootLow b).fld (aGd b 8) 15 8 = min 255 (d.fld (aGd b 8) 15 8 + 1) ∧ ((d.bootLow b).brg b).bsuv = true ∧
    ((d.bootLow b).mot (motOfBridge b)).level.getLsbD 0 = true ∧
    (d.bootLow b).reports =
      d.reports ++ [{ motor := motOfBridge b, phase := phaseOf b, cause := .bsuv, at' := d.cycles }] ∧
    d.SameMotors (d.bootLow b) (motOfBridge b) := by
  rw [Dev.bootLow_eq hr hd hhs hno ht]
  have hmark : ((d.onBrg b (fun x => { x with bsuv := true })).brg b).bsuv = true := by rw [Dev.onBrg_brg]
  generalize hf : d.onBrg b _ = f at hmark
  generalize he : f.syncBsuv (motOfBridge b) = e
  have hlevel : (e.mot (motOfBridge b)).level.getLsbD 0 = true := by
    rw [← he, Dev.syncBsuv_level, List.any_eq_true]
    exact ⟨phaseOf b, List.mem_finRange _, by rw [bridgeOf_motOfBridge, hmark]⟩
  have hset : (e.brg b).bsuv = true := by rw [← he, Dev.syncBsuv, Dev.onMot_brg, hmark]
  have hothers : d.SameMotors e (motOfBridge b) := by
    rw [← he, ← hf]
    exact Dev.sameMotors_onMot _ _ _
  have honly := e.recordOnly_gateFlag b 2
  simp only [Dev.report_bit, Dev.report_fld, Dev.report_brg, Dev.report_mot, Dev.report_reports, honly.reports, honly.mot,
    honly.cycles]
  refine ⟨e.gateFlag_bit b (by decide), ?_, (congrArg Bridge.bsuv (honly.brg b)).trans hset, hlevel, ?_, ?_⟩
  · rw [e.gateFlag_bscnt b, ← he, Dev.syncBsuv, Dev.onMot_fld, ← hf, Dev.onBrg_fld]
  · rw [← he, Dev.syncBsuv, Dev.onMot_reports, Dev.onMot_cycles, ← hf, Dev.onBrg_reports, Dev.onBrg_cycles]
  · exact fun n hn => (honly.mot n).trans (hothers n hn)

/-- A release of the bootstrap condition: its level is the one of the motor's half-bridges, and no report follows. -/
theorem Dev.bootOk_eq {d : Dev} {b : BridgeIx} (h : (d.brg b).bsuv = true) : d.bootOk b =
    (d.onBrg b (fun x => { x with bsuv := false, relAt := some d.cycles })).syncBsuv (motOfBridge b) := if_pos h

/-! ### The commands -/

theorem exec_deadTimeEnd {s : State} (hr : s.dev.runs = true) (b : BridgeIx) :
    exec (.deadTimeEnd b) s = .next { s with dev := s.dev.deadTimeOver b } :=
  s.onCore_runs (fun d => d.deadTimeOver b) hr

theorem exec_blankingEnd {s : State} (hr : s.dev.runs = true) (b : BridgeIx) (vds : Int) :
    exec (.blankingEnd b vds) s = .next { s with dev := s.dev.blankingOver b vds } :=
  s.onCore_runs (fun d => d.blankingOver b vds) hr

theorem exec_desatDetect {s : State} (hr : s.dev.runs = true) (b : BridgeIx) (vds : Int) :
    exec (.desatDetect b vds) s = .next { s with dev := s.dev.desat b vds } :=
  s.onCore_runs (fun d => d.desat b vds) hr

theorem exec_bootstrapUvAssert {s : State} (hr : s.dev.runs = true) (b : BridgeIx) :
    exec (.bootstrapUvAssert b) s = .next { s with dev := s.dev.bootLow b } :=
  s.onCore_runs (fun d => d.bootLow b) hr

theorem exec_bootstrapUvRelease {s : State} (hr : s.dev.runs = true) (b : BridgeIx) :
    exec (.bootstrapUvRelease b) s = .next { s with dev := s.dev.bootOk b } :=
  s.onCore_runs (fun d => d.bootOk b) hr

/-- Settles O34: an end of a dead time is `turnOn` and then the current latch, which a low output leaves alone; a
desaturation and a bootstrap condition are a flag with its record and count (`gateFlag`), and then a report. -/
theorem halfBridges : Obligations.HalfBridges := by
  intro s b hr
  refine ⟨⟨s.dev.deadTimeOver b, exec_deadTimeEnd hr b, Dev.deadTimeOver_words hr b,
      fun c hc => Dev.deadTimeOver_brg_ne hr hc, fun hlow => ?_⟩, fun vds hd hon hbl => ⟨fun hen hv => ?_, fun hlow => ?_⟩,
    fun vds t hd hon hdet hen hv habove ht hbl => ?_, fun hd hhs hno ht => ?_, fun hset => ?_⟩
  · obtain ⟨hwords, hothers⟩ := s.dev.turnOn_syncComp b
    rw [Dev.deadTimeOver_of_low hr hlow]
    refine ⟨Dev.w_of_words hwords, s.dev.turnOn_hs b, s.dev.turnOn_ls b, fun hoff hmay => ?_, hothers⟩
    obtain ⟨hat, hforce⟩ := s.dev.turnOn_of_hsMay hoff hmay
    exact ⟨hat, hforce _ (by unfold aGd; omega) (by unfold aGd; omega), hforce _ (by unfold aGd; omega) (by unfold aGd; omega)⟩
  · rw [exec_blankingEnd hr, Dev.blankingOver_eq hr hd hon hbl, Dev.vdsLevel_high hen hv]
  · have hlevel := Dev.vdsLevel_low (hs := (s.dev.brg b).hs) hlow
    have hended : ((s.dev.vdsLevel b (s.dev.brg b).hs vds).brg b).aboveAt = none := by rw [hlevel, Dev.onBrg_brg]
    rw [exec_blankingEnd hr, exec_desatDetect hr, Dev.blankingOver_eq hr hd hon hbl,
      Dev.desat_of_ended hr hd hon hbl hended, hlevel]
    exact ⟨rfl, rfl⟩
  · obtain ⟨⟨hbit, hcnt, hmark, hstamp⟩, hreports, hmotors⟩ := Dev.desat_spec hr hd hon hbl hdet hen hv habove ht
    exact ⟨s.dev.desat b vds, exec_desatDetect hr b vds, hbit, hcnt, hmark, hstamp, hreports, hmotors⟩
  · exact ⟨s.dev.bootLow b, exec_bootstrapUvAssert hr b, Dev.bootLow_spec hr hd hhs hno ht⟩
  · refine ⟨s.dev.bootOk b, exec_bootstrapUvRelease hr b, ?_⟩
    rw [Dev.bootOk_eq hset]
    exact ⟨by rw [Dev.syncBsuv, Dev.onMot_brg, Dev.onBrg_brg], Dev.syncBsuv_level _ _, fun _ => rfl, rfl,
      Dev.sameMotors_onMot _ _ _, fun _ hc => Dev.onBrg_brg_ne _ _ hc⟩

end Sys2Proof.Machine
end

section
/-! The return of a gate supply that was lost before ck_core last stood still (R179, R181). -/

namespace Sys2Proof.Machine

open Sys2Proof

/-- While ck_core runs, a supply that returns starts the die anew: the start counts from this cycle, and the die no longer
holds that ck_core has stood still (R12, R181). -/
theorem Dev.supplyBack_of_runs {d : Dev} {g : GroupIx} (hr : d.runs = true) (hl : (d.die g).low = true) :
    d.supplyBack g = d.onDie g (fun x => { x with low := false, startAt := d.cycles, gap := false }) := by
  unfold Dev.supplyBack
  rw [if_pos hl, Dev.stands_of_runs hr]

theorem exec_gateSupplyReturn (s : State) (g : GroupIx) :
    exec (.gateSupplyReturn g) s = .next { s with dev := s.dev.supplyBack g } := rfl

/-- The supply of gate die 0 fell below 4.5 V, and ck_core has stood still since then and runs again. -/
def State.supplyLowOverGap : State :=
  { dev := ({ resetN := true, locked := true, everLock := true, cycles := 1000 } : Dev).put 0x801 0x40 |>.onDie 0
      (fun x => { x with low := true, gap := true }) }

/-- Refutes O35: ck_core has stood still since the supply of die 0 fell, and the die keeps a mark of that (R12). The return
of the supply starts the die anew and clears the mark, and the statement has the return leave it as it stands. -/
theorem not_gateDies : ¬ Obligations.GateDies := by
  intro h
  have hruns : State.supplyLowOverGap.dev.runs = true := by decide +kernel
  have hlow : (State.supplyLowOverGap.dev.die 0).low = true := by decide +kernel
  have hgap : (State.supplyLowOverGap.dev.die 0).gap = true := by decide +kernel
  obtain ⟨-, -, -, -, -, hreturn⟩ := h State.supplyLowOverGap 0 hruns
  have hexec := (exec_gateSupplyReturn _ _).symm.trans (hreturn (by decide +kernel) hlow)
  have hdev := congrArg State.dev (Host.Outcome.next.inj hexec)
  have hmark := congrArg (fun d => (Dev.die d 0).gap) hdev
  rw [Dev.supplyBack_of_runs hruns hlow] at hmark
  simp only [Dev.onDie_die, hgap] at hmark
  exact Bool.noConfusion hmark

end Sys2Proof.Machine
end

section
/-! Half-bridges that are safe: every operation of the drivers themselves keeps them so (R153, R154). -/

namespace Sys2Proof.Machine

open Sys2Proof

/-- The half-bridges of a module, each of them safe. -/
def AllSafe (v : Vector Bridge 48) : Prop := ∀ b : BridgeIx, v[b].Safe

theorem Dev.bridgesSafe_iff (d : Dev) : d.BridgesSafe ↔ AllSafe d.bridges := Iff.rfl

theorem Dev.BridgesSafe.of_brg {d : Dev} (h : ∀ b, (d.brg b).Safe) : AllSafe d.bridges := h

theorem AllSafe.brg {d : Dev} (h : AllSafe d.bridges) (b : BridgeIx) : (d.brg b).Safe := h b

/-! ### Branches and repetitions -/

@[simp] theorem Dev.bridges_ite (c : Prop) [Decidable c] (x y : Dev) :
    (if c then x else y).bridges = if c then x.bridges else y.bridges := apply_ite _ _ _ _

@[simp] theorem AllSafe.ite {c : Prop} [Decidable c] {x y : Vector Bridge 48} (hx : AllSafe x) (hy : AllSafe y) :
    AllSafe (if c then x else y) := by split <;> assumption

theorem AllSafe.branch {c : Prop} [Decidable c] {x y : Dev} (hx : AllSafe x.bridges) (hy : AllSafe y.bridges) :
    AllSafe (if c then x else y).bridges := by split <;> assumption

/-- The half-bridges are the same. `simp` meets a step of a repetition as this proposition, which it rewrites to the equation: it
cannot discharge the bare equation where the step leaves the half-bridges by definition. -/
def Dev.SameBridges (d e : Dev) : Prop := e.bridges = d.bridges

@[simp] theorem Dev.sameBridges_iff {d e : Dev} : d.SameBridges e ↔ e.bridges = d.bridges := ⟨id, id⟩

theorem AllSafe.same {d e : Dev} (h : AllSafe d.bridges) (he : e.bridges = d.bridges) : AllSafe e.bridges := he ▸ h

theorem AllSafe.of_fst {β : Type} {p : Dev × β} {e : Dev} {x : β} (h : AllSafe p.1.bridges) (hx : p = (e, x)) :
    AllSafe e.bridges := by
  rw [hx] at h
  exact h

@[simp] theorem Dev.each_bridges {α : Type} (d : Dev) (l : List α) (f : Dev → α → Dev)
    (h : ∀ (e : Dev) (a : α), e.SameBridges (f e a)) : (d.each l f).bridges = d.bridges :=
  Dev.each_inv (P := fun e => e.bridges = d.bridges) l d rfl fun e a he => (h e a).trans he

@[simp] theorem Dev.when_bridges (d : Dev) (c : Bool) (f : Dev → Dev) (h : ∀ e : Dev, e.SameBridges (f e)) :
    (d.when c f).bridges = d.bridges := by
  unfold Dev.when
  split
  · exact h d
  · rfl

theorem Dev.each_safe {α : Type} {d : Dev} (l : List α) {f : Dev → α → Dev}
    (hf : ∀ (e : Dev) (a : α), AllSafe e.bridges → AllSafe (f e a).bridges) (h : AllSafe d.bridges) :
    AllSafe (d.each l f).bridges :=
  Dev.each_inv (P := fun e => AllSafe e.bridges) l d h hf

theorem Dev.when_safe {d : Dev} (c : Bool) {f : Dev → Dev} (hf : ∀ e : Dev, AllSafe e.bridges → AllSafe (f e).bridges)
    (h : AllSafe d.bridges) : AllSafe (d.when c f).bridges := by
  unfold Dev.when
  split
  · exact hf d h
  · exact h

/-! ### A change of one half-bridge -/

theorem Dev.onBrg_safe {d : Dev} {b : BridgeIx} {f : Bridge → Bridge} (hf : (f (d.brg b)).Safe)
    (h : ∀ c, c ≠ b → (d.brg c).Safe) : AllSafe (d.onBrg b f).bridges := by
  refine Dev.BridgesSafe.of_brg fun c => ?_
  by_cases hc : c = b
  · rw [hc, Dev.onBrg_brg]
    exact hf
  · rw [Dev.onBrg_brg_ne _ _ hc]
    exact h c hc

/-- A change of one half-bridge that leaves its command and its switches. -/
theorem Dev.onBrg_safe_of_same {d : Dev} (b : BridgeIx) {f : Bridge → Bridge}
    (hf : ∀ x, (f x).en = x.en ∧ (f x).pulse = x.pulse ∧ (f x).hs = x.hs ∧ (f x).ls = x.ls) (h : AllSafe d.bridges) :
    AllSafe (d.onBrg b f).bridges := by
  refine Dev.onBrg_safe ?_ fun c _ => h.brg c
  obtain ⟨hen, hpulse, hhs, hls⟩ := hf (d.brg b)
  unfold Bridge.Safe
  rw [hen, hpulse, hhs, hls]
  exact h.brg b

/-! ### The two switches (R153, R154) -/

/-- Switches that stay on only where the command selects them. -/
theorem Bridge.Safe.of_selected {x y : Bridge} {drives : Bool} (hen : y.en = x.en) (hpulse : y.pulse = x.pulse)
    (hhs : y.hs = (x.hs && x.en && x.pulse && drives)) (hls : y.ls = (x.ls && x.en && !x.pulse && drives)) : y.Safe := by
  unfold Bridge.Safe
  rw [hen, hpulse, hhs, hls]
  cases x.en <;> cases x.pulse <;> simp

theorem Dev.turnOff_safe_self (d : Dev) (b : BridgeIx) : ((d.turnOff b).brg b).Safe := by
  unfold Dev.turnOff
  dsimp only
  split
  case isTrue h => exact .of_selected rfl rfl h.1 h.2
  case isFalse =>
    split
    · rw [Dev.syncBsuv, Dev.onMot_brg, Dev.onBrg_brg]
      exact .of_selected (x := d.brg b) rfl rfl rfl rfl
    · rw [Dev.onBrg_brg]
      exact .of_selected (x := d.brg b) rfl rfl rfl rfl

/-- Turning off makes a half-bridge safe whatever its command has become. -/
theorem Dev.turnOff_safe {d : Dev} {b : BridgeIx} (h : ∀ c, c ≠ b → (d.brg c).Safe) : AllSafe (d.turnOff b).bridges := by
  refine Dev.BridgesSafe.of_brg fun c => ?_
  by_cases hc : c = b
  · rw [hc]
    exact d.turnOff_safe_self b
  · rw [Dev.turnOff_brg_ne _ hc]
    exact h c hc

theorem Dev.hsMay_cmd {d : Dev} {b : BridgeIx} (h : d.hsMay b = true) : (d.brg b).en = true ∧ (d.brg b).pulse = true := by
  unfold Dev.hsMay at h
  simp only [Bool.and_eq_true] at h
  obtain ⟨⟨hcmd, -⟩, -⟩ := h
  exact hcmd

theorem Dev.lsMay_cmd {d : Dev} {b : BridgeIx} (h : d.lsMay b = true) : (d.brg b).en = true ∧ (d.brg b).pulse = false := by
  unfold Dev.lsMay at h
  simp only [Bool.and_eq_true, Bool.not_eq_true'] at h
  obtain ⟨⟨hcmd, -⟩, -⟩ := h
  exact hcmd

/-- A switch that turns on is the one that the command selects (R153). -/
theorem Dev.turnOn_safe {d : Dev} (b : BridgeIx) (h : AllSafe d.bridges) : AllSafe (d.turnOn b).bridges := by
  refine Dev.BridgesSafe.of_brg fun c => ?_
  by_cases hc : c = b
  · obtain ⟨hen, hpulse⟩ := Prod.ext_iff.mp (d.turnOn_cmd b b)
    obtain ⟨hhs, hls⟩ := h.brg b
    have hen : ((d.turnOn b).brg b).en = (d.brg b).en := hen
    have hpulse : ((d.turnOn b).brg b).pulse = (d.brg b).pulse := hpulse
    rw [hc]
    unfold Bridge.Safe
    rw [hen, hpulse, Dev.turnOn_hs, Dev.turnOn_ls]
    exact ⟨fun ho => (Bool.or_eq_true_iff.mp ho).elim hhs Dev.hsMay_cmd,
      fun ho => (Bool.or_eq_true_iff.mp ho).elim hls Dev.lsMay_cmd⟩
  · rw [Dev.turnOn_brg_ne _ hc]
    exact h.brg c

theorem Dev.command_safe {d : Dev} (b : BridgeIx) (en pulse : Bool) (h : AllSafe d.bridges) :
    AllSafe (d.command b en pulse).bridges := by
  unfold Dev.command
  dsimp only
  split
  · exact Dev.turnOn_safe b (Dev.turnOff_safe fun c _ => h.brg c)
  · refine Dev.turnOn_safe b (Dev.turnOff_safe fun c hc => ?_)
    rw [Dev.onBrg_brg_ne _ _ hc]
    exact h.brg c

/-! ### The outputs of a motor (R49) -/

@[simp] theorem Dev.syncComp_bridges (d : Dev) (m : MotorIx) : (d.syncComp m).bridges = d.bridges := rfl

@[simp] theorem Dev.syncBsuv_bridges (d : Dev) (m : MotorIx) : (d.syncBsuv m).bridges = d.bridges := rfl

theorem Dev.driveLeg_safe {d : Dev} (m : MotorIx) (ph : Fin 3) (h : AllSafe d.bridges) : AllSafe (d.driveLeg m ph).bridges :=
  Dev.command_safe (d := d) _ _ _ h

@[simp] theorem Dev.drive_safe {d : Dev} (m : MotorIx) (h : AllSafe d.bridges) : AllSafe (d.drive m).bridges :=
  Dev.each_safe _ (fun _ ph he => Dev.driveLeg_safe m ph he) h

@[simp] theorem Dev.driveGroup_safe {d : Dev} (g : GroupIx) (h : AllSafe d.bridges) : AllSafe (d.driveGroup g).bridges :=
  Dev.each_safe _ (fun _ m he => Dev.drive_safe m he) h

@[simp] theorem Dev.driveAll_safe {d : Dev} (h : AllSafe d.bridges) : AllSafe d.driveAll.bridges :=
  Dev.each_safe _ (fun _ m he => Dev.drive_safe m he) h

/-! ### Flags and records (R171, R172) -/

theorem Bridge.safe_sansRec (x : Bridge) : x.sansRec.Safe ↔ x.Safe := Iff.rfl

theorem Dev.RecordOnly.safe {d e : Dev} (h : d.RecordOnly e) (hd : AllSafe d.bridges) : AllSafe e.bridges :=
  Dev.BridgesSafe.of_brg fun c => by
    rw [← Bridge.safe_sansRec, h.brg c, Bridge.safe_sansRec]
    exact hd.brg c

@[simp] theorem Dev.gateFlag_safe {d : Dev} (b : BridgeIx) (flag : Nat) (h : AllSafe d.bridges) :
    AllSafe (d.gateFlag b flag).bridges := (d.recordOnly_gateFlag b flag).safe h

@[simp] theorem Dev.report_bridges (d : Dev) (m : MotorIx) (ph : Fin 3) (c : Cause) : (d.report m ph c).bridges = d.bridges := rfl

@[simp] theorem Dev.vdsLevel_safe {d : Dev} (b : BridgeIx) (hs : Bool) (vds : Int) (h : AllSafe d.bridges) :
    AllSafe (d.vdsLevel b hs vds).bridges := Dev.onBrg_safe_of_same b (fun _ => ⟨rfl, rfl, rfl, rfl⟩) h

@[simp] theorem Dev.blankingOver_safe {d : Dev} (b : BridgeIx) (vds : Int) (h : AllSafe d.bridges) :
    AllSafe (d.blankingOver b vds).bridges := by
  unfold Dev.blankingOver
  dsimp only
  split
  · exact Dev.vdsLevel_safe b _ vds h
  · exact h

@[simp] theorem Dev.desat_safe {d : Dev} (b : BridgeIx) (vds : Int) (h : AllSafe d.bridges) :
    AllSafe (d.desat b vds).bridges := by
  have hlevel (hs : Bool) := Dev.vdsLevel_safe b hs vds h
  unfold Dev.desat
  dsimp only
  generalize (if (d.brg b).isOn then (d.brg b).hs else (d.brg b).offHs) = hs
  split
  · split
    · split
      · exact Dev.gateFlag_safe b _ (Dev.onBrg_safe_of_same b (fun _ => ⟨rfl, rfl, rfl, rfl⟩) (hlevel _))
      · exact hlevel _
    · exact hlevel _
  · exact h

@[simp] theorem Dev.bootLow_safe {d : Dev} (b : BridgeIx) (h : AllSafe d.bridges) : AllSafe (d.bootLow b).bridges := by
  unfold Dev.bootLow
  dsimp only
  split
  · exact Dev.gateFlag_safe b 2 (Dev.onBrg_safe_of_same b (fun _ => ⟨rfl, rfl, rfl, rfl⟩) h)
  · exact h

@[simp] theorem Dev.bootOk_safe {d : Dev} (b : BridgeIx) (h : AllSafe d.bridges) : AllSafe (d.bootOk b).bridges := by
  unfold Dev.bootOk
  split
  · exact Dev.onBrg_safe_of_same b (fun _ => ⟨rfl, rfl, rfl, rfl⟩) h
  · exact h

/-- The switches of a die that no longer drives are off (R162, R180, R181). -/
@[simp] theorem Dev.bridgesOff_safe {d : Dev} (g : GroupIx) (h : AllSafe d.bridges) : AllSafe (d.bridgesOff g).bridges := by
  unfold Dev.bridgesOff
  dsimp only
  refine Dev.each_safe _ (fun _ _ he => he) (Dev.each_safe _ (fun e b he => Dev.onBrg_safe ?_ fun c hc => ?_) h)
  · exact ⟨fun hon => Bool.noConfusion hon, fun hon => Bool.noConfusion hon⟩
  · rw [Dev.turnOff_brg_ne _ hc]
    exact he.brg c

end Sys2Proof.Machine
end

section
/-! What the operations of engines, groups, arrays, feedback and gate drivers leave of the half-bridges: all of them as they
stand, or every one safe. One lemma for each operation, in the order in which the operations use one another. -/

namespace Sys2Proof.Machine

open Sys2Proof

/-! ### Words of the module -/

@[simp] theorem Dev.enforce0_bridges (d : Dev) (lo hi : Nat) : (d.enforce0 lo hi).bridges = d.bridges := by simp [Dev.enforce0]

@[simp] theorem Dev.newCycle_bridges (d : Dev) : d.newCycle.bridges = d.bridges := by simp [Dev.newCycle]

/-! ### Events (R441 to R444) -/

@[simp] theorem Dev.raiseNow_bridges (d : Dev) (i : Nat) : (d.raiseNow i).bridges = d.bridges := by
  unfold Dev.raiseNow
  split <;> simp

@[simp] theorem Dev.raiseN_bridges (d : Dev) (i n : Nat) : (d.raiseN i n).bridges = d.bridges := by
  unfold Dev.raiseN
  (repeat' split) <;> simp

@[simp] theorem Dev.raiseLate_bridges (d : Dev) : d.raiseLate.bridges = d.bridges :=
  Dev.each_bridges d d.evLate Dev.raiseNow Dev.raiseNow_bridges

@[simp] theorem Dev.cause_bridges (d : Dev) (a : Nat) (mask : Word) (i : Nat) :
    (d.cause a mask i).bridges = d.bridges := by simp [Dev.cause]

@[simp] theorem Dev.motCause_bridges (d : Dev) (m : MotorIx) (bit : Nat) :
    (d.motCause m bit).bridges = d.bridges := by simp [Dev.motCause]

/-! ### Engines (R48, R72 to R106) -/

@[simp] theorem Dev.showFrame_bridges (d : Dev) (m : MotorIx) : (d.showFrame m).bridges = d.bridges := by simp [Dev.showFrame]

@[simp] theorem Dev.showChange_bridges (d : Dev) (m : MotorIx) : (d.showChange m).bridges = d.bridges := by simp [Dev.showChange]

@[simp] theorem Dev.clearInts_bridges (d : Dev) (m : MotorIx) (st : MState) :
    (d.clearInts m st).bridges = d.bridges := by simp [Dev.clearInts]

@[simp] theorem Dev.enter_safe {d : Dev} (m : MotorIx) (st : MState) (h : AllSafe d.bridges) :
    AllSafe (d.enter m st).bridges := by simp [Dev.enter, h]

@[simp] theorem Dev.toIdle_safe {d : Dev} (m : MotorIx) (h : AllSafe d.bridges) :
    AllSafe (d.toIdle m).bridges := by simp [Dev.toIdle, h]

@[simp] theorem Dev.enterFault_safe {d : Dev} (m : MotorIx) (act : FaultAct) (h : AllSafe d.bridges) :
    AllSafe (d.enterFault m act).bridges := by simp [Dev.enterFault, h]

@[simp] theorem Dev.policy_safe {d : Dev} (m : MotorIx) (bit code : Nat) (h : AllSafe d.bridges) :
    AllSafe (d.policy m bit code).bridges := by
  unfold Dev.policy
  dsimp only
  (repeat' split) <;> simp [h]

@[simp] theorem Dev.force_safe {d : Dev} (m : MotorIx) (ph : Fin 3) (h : AllSafe d.bridges) : AllSafe (d.force m ph).bridges :=
  Dev.drive_safe m h

@[simp] theorem Dev.arrive_safe {d : Dev} (r : Report) (h : AllSafe d.bridges) : AllSafe (d.arrive r).bridges := by
  unfold Dev.arrive
  (repeat' split) <;> simp [h]

@[simp] theorem Dev.levelReports_safe {d : Dev} (m : MotorIx) (h : AllSafe d.bridges) : AllSafe (d.levelReports m).bridges :=
  Dev.when_safe _ (fun _ he => Dev.arrive_safe _ he) (Dev.when_safe _ (fun _ he => Dev.arrive_safe _ he)
    (Dev.each_safe _ (fun _ _ he => Dev.arrive_safe _ he) h))

@[simp] theorem Dev.holdSector_bridges (d : Dev) (m : MotorIx) (s : Nat) :
    (d.holdSector m s).bridges = d.bridges := by simp [Dev.holdSector]

@[simp] theorem Dev.toAlign1_safe {d : Dev} (m : MotorIx) (h : AllSafe d.bridges) :
    AllSafe (d.toAlign1 m).bridges := by simp [Dev.toAlign1, h]

@[simp] theorem Dev.toCatch_safe {d : Dev} (m : MotorIx) (h : AllSafe d.bridges) : AllSafe (d.toCatch m).bridges :=
  Dev.enter_safe m .catching h

@[simp] theorem Dev.toCoast_safe {d : Dev} (m : MotorIx) (h : AllSafe d.bridges) : AllSafe (d.toCoast m).bridges :=
  Dev.enter_safe m .coast h

@[simp] theorem Dev.startMotor_safe {d : Dev} (m : MotorIx) (h : AllSafe d.bridges) : AllSafe (d.startMotor m).bridges := by
  unfold Dev.startMotor
  dsimp only
  split
  · split
    · exact Dev.toCatch_safe m h
    · exact Dev.toAlign1_safe m h
  · exact Dev.enter_safe m .run h

@[simp] theorem Dev.attemptFails_safe {d : Dev} (m : MotorIx) (reason : Nat) (h : AllSafe d.bridges) :
    AllSafe (d.attemptFails m reason).bridges := by
  unfold Dev.attemptFails
  dsimp only
  split
  · exact Dev.enter_safe m .start h
  · exact Dev.policy_safe m 5 _ (by simpa using h)

@[simp] theorem Dev.syncLoss_safe {d : Dev} (m : MotorIx) (h : AllSafe d.bridges) : AllSafe (d.syncLoss m).bridges := by
  unfold Dev.syncLoss
  split <;> simp [h]

@[simp] theorem Dev.judge_bridges (d : Dev) (m : MotorIx) (t : Nat) : (d.judge m t).bridges = d.bridges := by simp [Dev.judge]

@[simp] theorem Dev.windowFails_bridges (d : Dev) (m : MotorIx) :
    (d.windowFails m).bridges = d.bridges := by simp [Dev.windowFails]

@[simp] theorem Dev.zcSample_bridges (d : Dev) (m : MotorIx) (lvl : Bool) : (d.zcSample m lvl).bridges = d.bridges := by
  unfold Dev.zcSample
  dsimp only
  (repeat' split) <;> simp

@[simp] theorem Dev.handover_safe {d : Dev} (m : MotorIx) (h : AllSafe d.bridges) : AllSafe (d.handover m).bridges :=
  Dev.enter_safe m .run h

@[simp] theorem Dev.sectorOutcome_bridges (d : Dev) (m : MotorIx) :
    (d.sectorOutcome m).bridges = d.bridges := by simp [Dev.sectorOutcome]

@[simp] theorem Dev.toBrake_safe {d : Dev} (m : MotorIx) (h : AllSafe d.bridges) : AllSafe (d.toBrake m).bridges :=
  Dev.enter_safe m .brake h

@[simp] theorem Dev.catchDecide_safe {d : Dev} (m : MotorIx) (h : AllSafe d.bridges) : AllSafe (d.catchDecide m).bridges := by
  unfold Dev.catchDecide
  dsimp only
  refine .branch h (.branch (.branch ?_ h) (.branch ?_ (Dev.toBrake_safe m h)))
  · exact Dev.enter_safe m .run h
  · exact Dev.enter_safe m .revpend h

@[simp] theorem Dev.catchSample_safe {d : Dev} (m : MotorIx) (lv : Fin 3 → Bool) (h : AllSafe d.bridges) :
    AllSafe (d.catchSample m lv).bridges := by
  unfold Dev.catchSample
  dsimp only
  split
  · exact h
  · exact Dev.each_safe _ (fun _ _ he => Dev.catchDecide_safe m he) h

/-! ### Loop engines (chapter 04) -/

@[simp] theorem Dev.searchFails_bridges (d : Dev) (m : MotorIx) :
    (d.searchFails m).bridges = d.bridges := by simp [Dev.searchFails]

@[simp] theorem Dev.candidate_bridges (d : Dev) (m : MotorIx) (xc : Int) :
    (d.candidate m xc).bridges = d.bridges := by simp [Dev.candidate]

@[simp] theorem Dev.searchFrame_bridges (d : Dev) (m : MotorIx) (i : Int) :
    (d.searchFrame m i).bridges = d.bridges := by simp [Dev.searchFrame]

@[simp] theorem Dev.searchStart_bridges (d : Dev) (m : MotorIx) :
    (d.searchStart m).bridges = d.bridges := by simp [Dev.searchStart]

@[simp] theorem Dev.deliver_bridges (d : Dev) (m : MotorIx) (duty : Nat) (rev : Bool) (req : Nat) (regen : Bool) :
    (d.deliver m duty rev req regen).bridges = d.bridges := by simp [Dev.deliver]

@[simp] theorem Dev.currentLoop_bridges (d : Dev) (m : MotorIx) (iu : Int) : (d.currentLoop m iu).1.bridges = d.bridges := by
  unfold Dev.currentLoop
  dsimp only
  (repeat' split) <;> simp

@[simp] theorem Dev.outer_bridges (d : Dev) (m : MotorIx) (dem : Int) : (d.outer m dem).bridges = d.bridges := by simp [Dev.outer]

@[simp] theorem Dev.takeDemand_bridges (d : Dev) (m : MotorIx) :
    (d.takeDemand m).1.bridges = d.bridges := by simp [Dev.takeDemand]

@[simp] theorem Dev.showForce_bridges (d : Dev) (m : MotorIx) : (d.showForce m).bridges = d.bridges := by simp [Dev.showForce]

@[simp] theorem Dev.loop_bridges (d : Dev) (m : MotorIx) : (d.loop m).bridges = d.bridges := by
  unfold Dev.loop
  split <;> simp

/-! ### The current budget arbiter (chapter 05) -/

@[simp] theorem Dev.resetRR_bridges (d : Dev) (g : GroupIx) : (d.resetRR g).bridges = d.bridges := by simp [Dev.resetRR]

@[simp] theorem Dev.snapshot_bridges (d : Dev) (g : GroupIx) : (d.snapshot g).bridges = d.bridges := by simp [Dev.snapshot]

@[simp] theorem Dev.enforceGrants_bridges (d : Dev) (g : GroupIx) (b : Books) :
    (d.enforceGrants g b).bridges = d.bridges := by simp [Dev.enforceGrants]

@[simp] theorem Dev.zeroGrants_bridges (d : Dev) (g : GroupIx) : (d.zeroGrants g).bridges = d.bridges := by simp [Dev.zeroGrants]

@[simp] theorem Dev.takeRequests_bridges (d : Dev) (g : GroupIx) : (d.takeRequests g).bridges = d.bridges :=
  Dev.each_bridges d _ _ fun e j => by
  dsimp only
  split
  · exact (Dev.onMot_bridges _ _ _).trans (by simp)
  · simp

@[simp] theorem Dev.starve_bridges (d : Dev) (g j : Fin 4) (a : Ask) (grant : Nat) :
    (d.starve g j a grant).bridges = d.bridges := by simp [Dev.starve]

@[simp] theorem Dev.setRr_bridges (d : Dev) (g : GroupIx) (on : Bool) : (d.setRr g on).bridges = d.bridges := by simp [Dev.setRr]

@[simp] theorem Dev.setRrClr_bridges (d : Dev) (g : GroupIx) (t : Option Nat) :
    (d.setRrClr g t).bridges = d.bridges := by simp [Dev.setRrClr]

@[simp] theorem Dev.syncRr_bridges (d : Dev) : d.syncRr.bridges = d.bridges := by simp [Dev.syncRr]

@[simp] theorem Dev.rerateNow_bridges (d : Dev) : d.rerateNow.bridges = d.bridges := by simp [Dev.rerateNow]

@[simp] theorem Dev.grantPoint_bridges (d : Dev) (g : GroupIx) : (d.grantPoint g).bridges = d.bridges := by simp [Dev.grantPoint]

@[simp] theorem Dev.grantOnce_safe {d : Dev} (g : GroupIx) (h : AllSafe d.bridges) :
    AllSafe (d.grantOnce g).bridges := by simp [Dev.grantOnce, h]

/-! ### Supply groups and comparators (chapters 07 and 08) -/

@[simp] theorem Dev.setBrk_bridges (d : Dev) (g : GroupIx) : (d.setBrk g).bridges = d.bridges := by simp [Dev.setBrk]

@[simp] theorem Dev.chopFault_bridges (d : Dev) (g : GroupIx) (bit : Nat) :
    (d.chopFault g bit).bridges = d.bridges := by simp [Dev.chopFault]

@[simp] theorem Dev.chopHold_bridges (d : Dev) (g : GroupIx) : (d.chopHold g).bridges = d.bridges := by simp [Dev.chopHold]

@[simp] theorem Dev.setLevel_safe {d : Dev} (g : GroupIx) (new : Nat) (h : AllSafe d.bridges) :
    AllSafe (d.setLevel g new).bridges := by simp [Dev.setLevel, h]

@[simp] theorem Dev.supEvaluate_safe {d : Dev} (g : GroupIx) (v : Nat) (h : AllSafe d.bridges) :
    AllSafe (d.supEvaluate g v).bridges := by simp [Dev.supEvaluate, h]

@[simp] theorem Dev.busTrip_safe {d : Dev} (g : GroupIx) (h : AllSafe d.bridges) :
    AllSafe (d.busTrip g).bridges := by simp [Dev.busTrip, h]

@[simp] theorem Dev.supFrame_bridges (d : Dev) (g : GroupIx) (whole : Bool) :
    (d.supFrame g whole).bridges = d.bridges := by simp [Dev.supFrame]

@[simp] theorem Dev.supInvalid_safe {d : Dev} (g : GroupIx) (h : AllSafe d.bridges) :
    AllSafe (d.supInvalid g).bridges := by simp [Dev.supInvalid, h]

@[simp] theorem Dev.writeChk_bridges (d : Dev) (v : Word) : (d.writeChk v).bridges = d.bridges := by simp [Dev.writeChk]

@[simp] theorem Dev.endCheck_bridges (d : Dev) (m : MotorIx) : (d.endCheck m).bridges = d.bridges := by simp [Dev.endCheck]

@[simp] theorem Dev.settleOut_bridges (d : Dev) (m : MotorIx) : (d.settleOut m).bridges = d.bridges := by simp [Dev.settleOut]

@[simp] theorem Dev.enforceGlint_bridges (d : Dev) (m : MotorIx) :
    (d.enforceGlint m).bridges = d.bridges := by simp [Dev.enforceGlint]

@[simp] theorem Dev.phaseLevel_bridges (d : Dev) (m : MotorIx) (ph : Fin 3) (x : Int) :
    (d.phaseLevel m ph x).bridges = d.bridges := by simp [Dev.phaseLevel]

@[simp] theorem Dev.phaseSample_bridges (d : Dev) (m : MotorIx) (u v w : Int) : (d.phaseSample m u v w).bridges = d.bridges := by
  unfold Dev.phaseSample
  split
  · exact (Dev.when_bridges _ _ _ Dev.nextFree_bridges).trans (by simp)
  · rfl

@[simp] theorem Dev.judgeLimit_safe {d : Dev} (m : MotorIx) (h : AllSafe d.bridges) :
    AllSafe (d.judgeLimit m).bridges := by simp [Dev.judgeLimit, h]

@[simp] theorem Dev.clearGlint_bridges (d : Dev) (g : GroupIx) : (d.clearGlint g).bridges = d.bridges := by simp [Dev.clearGlint]

@[simp] theorem Dev.syncHshort_bridges (d : Dev) (m : MotorIx) : (d.syncHshort m).bridges = d.bridges := by simp [Dev.syncHshort]

/-! ### Converter arrays (chapter 09) -/

@[simp] theorem Dev.powerDown_bridges (d : Dev) (p : GroupIx) (ticks : Nat) :
    (d.powerDown p ticks).bridges = d.bridges := by simp [Dev.powerDown]

@[simp] theorem Dev.reach_bridges (n : Nat) (d : Dev) (p : GroupIx) (i : Nat) : (Dev.reach n d p i).bridges = d.bridges := by
  induction n generalizing d i with
  | zero => rfl
  | succ n ih =>
    unfold Dev.reach
    dsimp only
    split
    · rfl
    · split <;> simp
    · simp
    · split <;> simp [ih]

@[simp] theorem Dev.restartSeq_bridges (d : Dev) (p : GroupIx) : (d.restartSeq p).bridges = d.bridges := by simp [Dev.restartSeq]

@[simp] theorem Dev.nextEntry_bridges (d : Dev) (p : GroupIx) : (d.nextEntry p).bridges = d.bridges := by simp [Dev.nextEntry]

@[simp] theorem Dev.startSeq_bridges (d : Dev) (p : GroupIx) : (d.startSeq p).bridges = d.bridges := by simp [Dev.startSeq]

@[simp] theorem Dev.issue_bridges (d : Dev) (p : GroupIx) (ch acc : Nat) (seqEntry : Bool) (samples : Nat) :
    (d.issue p ch acc seqEntry samples).bridges = d.bridges := by simp [Dev.issue]

@[simp] theorem Dev.slot_bridges (d : Dev) (p : GroupIx) : (d.slot p).bridges = d.bridges := by
  unfold Dev.slot
  dsimp only
  split
  · rfl
  · split
    · refine (Dev.onPrm_bridges _ _ _).trans ((Dev.issue_bridges _ _ _ _ _ _).trans ?_)
      split <;> rfl
    · generalize hx : (match (d.prm p).inUrg, (d.prm p).nextUrgent with | none, some (u, y) => _ | _, _ => d) = x
      have hd : x.bridges = d.bridges := by
        rw [← hx]
        split <;> rfl
      split <;> simp [hd]

@[simp] theorem Dev.onAcc_bridges (d : Dev) (p : GroupIx) (a : Fin 64) (f : Acc → Acc) :
    (d.onAcc p a f).bridges = d.bridges := by simp [Dev.onAcc]

@[simp] theorem Dev.newCount_bridges (d : Dev) (p : GroupIx) (a : Fin 64) :
    (d.newCount p a).bridges = d.bridges := by simp [Dev.newCount]

@[simp] theorem Dev.restartTrk_bridges (d : Dev) (p : GroupIx) (t : Fin 32) :
    (d.restartTrk p t).bridges = d.bridges := by simp [Dev.restartTrk]

@[simp] theorem Dev.showTrk_bridges (d : Dev) (p : GroupIx) (t : Fin 32) :
    (d.showTrk p t).bridges = d.bridges := by simp [Dev.showTrk]

@[simp] theorem Dev.watch_bridges (d : Dev) (p : GroupIx) (a : Fin 64) (y : Int) :
    (d.watch p a y).bridges = d.bridges := by simp [Dev.watch]

@[simp] theorem Dev.closeCount_bridges (d : Dev) (p : GroupIx) (a : Fin 64) (late : Bool) :
    (d.closeCount p a late).bridges = d.bridges := by simp [Dev.closeCount]

@[simp] theorem Dev.accEnter_bridges (d : Dev) (p : GroupIx) (a : Fin 64) (y : Int) :
    (d.accEnter p a y).1.bridges = d.bridges := by
  unfold Dev.accEnter
  dsimp only
  (repeat' split) <;> simp

@[simp] theorem Dev.discardPartial_bridges (d : Dev) (p : GroupIx) :
    (d.discardPartial p).bridges = d.bridges := by simp [Dev.discardPartial]

@[simp] theorem Dev.restartTrks_bridges (d : Dev) (p : GroupIx) :
    (d.restartTrks p).bridges = d.bridges := by simp [Dev.restartTrks]

@[simp] theorem Dev.resumeSeq_bridges (d : Dev) (p : GroupIx) : (d.resumeSeq p).bridges = d.bridges := by simp [Dev.resumeSeq]

@[simp] theorem Dev.judgeAcc_bridges (d : Dev) (p : GroupIx) (a : Fin 64) :
    (d.judgeAcc p a).bridges = d.bridges := by simp [Dev.judgeAcc]

@[simp] theorem Dev.accFrame_bridges (d : Dev) (p : GroupIx) (ended : Bool) :
    (d.accFrame p ended).bridges = d.bridges := by simp [Dev.accFrame]

@[simp] theorem Dev.seqFrame_bridges (d : Dev) (p : GroupIx) : (d.seqFrame p).bridges = d.bridges := by simp [Dev.seqFrame]

@[simp] theorem Dev.updateSlice_bridges (d : Dev) (p : GroupIx) (s : Fin 4) (og : Bool) :
    (d.updateSlice p s og).1.bridges = d.bridges := by simp [Dev.updateSlice]

theorem Dev.foldl_fst_bridges {α β : Type} (l : List α) (f : Dev × β → α → Dev × β) (h : ∀ x a, (f x a).1.bridges = x.1.bridges)
    (x : Dev × β) : (l.foldl f x).1.bridges = x.1.bridges := by
  induction l generalizing x with
  | nil => rfl
  | cons a l ih => exact (ih (f x a)).trans (h x a)

@[simp] theorem Dev.coefUpdate_bridges (d : Dev) (p : GroupIx) : (d.coefUpdate p).bridges = d.bridges := by
  unfold Dev.coefUpdate
  dsimp only
  generalize hx : (if d.bit (aPrm p 0) 5 then (d, false) else _ : Dev × Bool) = x
  have hd : x.1.bridges = d.bridges := by
    rw [← hx]
    split
    · rfl
    · refine Dev.foldl_fst_bridges _ _ (fun y s => ?_) (d, false)
      exact Dev.updateSlice_bridges y.1 p s _
  split <;> simp [hd]

@[simp] theorem Dev.loadCoefs_bridges (d : Dev) : d.loadCoefs.bridges = d.bridges := by simp [Dev.loadCoefs]

@[simp] theorem Dev.urgent_bridges (d : Dev) (p : GroupIx) (v : Word) : (d.urgent p v).bridges = d.bridges := by simp [Dev.urgent]

@[simp] theorem Dev.dropLate_bridges (d : Dev) (p : GroupIx) : (d.dropLate p).bridges = d.bridges := by simp [Dev.dropLate]

@[simp] theorem Dev.initPrism_bridges (d : Dev) (p : GroupIx) : (d.initPrism p).bridges = d.bridges := by simp [Dev.initPrism]

/-! ### Feedback (chapter 10) -/

@[simp] theorem Dev.fbCause_bridges (d : Dev) (f : ChanIx) (bit : Nat) :
    (d.fbCause f bit).bridges = d.bridges := by simp [Dev.fbCause]

@[simp] theorem Dev.putSpd_bridges (d : Dev) (f : ChanIx) (v : Int) : (d.putSpd f v).bridges = d.bridges := by simp [Dev.putSpd]

@[simp] theorem Dev.putSpdv_bridges (d : Dev) (f : ChanIx) (b : Bool) :
    (d.putSpdv f b).bridges = d.bridges := by simp [Dev.putSpdv]

@[simp] theorem Dev.dropSpeed_bridges (d : Dev) (f : ChanIx) : (d.dropSpeed f).bridges = d.bridges := by simp [Dev.dropSpeed]

@[simp] theorem Dev.distPulse_bridges (d : Dev) : d.distPulse.bridges = d.bridges := by simp [Dev.distPulse]

@[simp] theorem Dev.distDue_bridges (d : Dev) (n : Nat) : (d.distDue n).bridges = d.bridges := by simp [Dev.distDue]

@[simp] theorem Dev.distUnits_bridges (d : Dev) (f : ChanIx) (n : Nat) :
    (d.distUnits f n).bridges = d.bridges := by simp [Dev.distUnits]

@[simp] theorem Dev.enforceFb_bridges (d : Dev) (f : ChanIx) : (d.enforceFb f).bridges = d.bridges := by simp [Dev.enforceFb]

@[simp] theorem Dev.countEdge_bridges (d : Dev) (f : ChanIx) (neg : Bool) :
    (d.countEdge f neg).bridges = d.bridges := by simp [Dev.countEdge]

@[simp] theorem Dev.feedbackEdge_bridges (d : Dev) (f : ChanIx) (ball : Ball) (bHigh : Bool) :
    (d.feedbackEdge f ball bHigh).bridges = d.bridges := by
  unfold Dev.feedbackEdge
  (repeat' split) <;> simp

@[simp] theorem Dev.speedDecay_bridges (d : Dev) (f : ChanIx) : (d.speedDecay f).bridges = d.bridges := by
  unfold Dev.speedDecay
  dsimp only
  (repeat' split) <;> simp

@[simp] theorem Dev.zeroSpeed_bridges (d : Dev) (f : ChanIx) : (d.zeroSpeed f).bridges = d.bridges := by
  unfold Dev.zeroSpeed
  split <;> simp

@[simp] theorem Dev.seedPos_bridges (d : Dev) (f : ChanIx) : (d.seedPos f).bridges = d.bridges := by simp [Dev.seedPos]

@[simp] theorem Dev.enterFallback_bridges (d : Dev) (f : ChanIx) (w : Option (BitVec 32)) :
    (d.enterFallback f w).bridges = d.bridges := by
  unfold Dev.enterFallback
  (repeat' split) <;> simp

@[simp] theorem Dev.glitch_bridges (d : Dev) (f : ChanIx) : (d.glitch f).bridges = d.bridges := by simp [Dev.glitch]

@[simp] theorem Dev.fbCopy_bridges (d : Dev) (f : ChanIx) : (d.fbCopy f).bridges = d.bridges := by simp [Dev.fbCopy]

@[simp] theorem Dev.fbCopyStopped_bridges (d : Dev) (f : ChanIx) :
    (d.fbCopyStopped f).bridges = d.bridges := by simp [Dev.fbCopyStopped]

@[simp] theorem Dev.absStart_bridges (d : Dev) (f : ChanIx) : (d.absStart f).bridges = d.bridges := by
  unfold Dev.absStart
  dsimp only
  (repeat' split) <;> simp

@[simp] theorem Dev.fallbackFail_bridges (d : Dev) (f : ChanIx) :
    (d.fallbackFail f).bridges = d.bridges := by simp [Dev.fallbackFail]

@[simp] theorem Dev.wordDiff_bridges (d : Dev) (f : ChanIx) (c : BitVec 32) : (d.wordDiff f c).bridges = d.bridges := by
  unfold Dev.wordDiff
  split <;> simp

@[simp] theorem Dev.fallbackWord_bridges (d : Dev) (f : ChanIx) (c : BitVec 32) : (d.fallbackWord f c).bridges = d.bridges := by
  unfold Dev.fallbackWord
  dsimp only
  (repeat' split) <;> simp

@[simp] theorem Dev.absComplete_bridges (d : Dev) (f : ChanIx) (ready : Bool) (word : BitVec 32) (parity : Bool) :
    (d.absComplete f ready word parity).bridges = d.bridges := by
  unfold Dev.absComplete
  dsimp only
  (repeat' split) <;> simp

@[simp] theorem Dev.writeFbCfg_bridges (d : Dev) (f : ChanIx) (v : Word) :
    (d.writeFbCfg f v).bridges = d.bridges := by simp [Dev.writeFbCfg]

@[simp] theorem Dev.modeActs_bridges (d : Dev) (f : ChanIx) : (d.modeActs f).bridges = d.bridges := by simp [Dev.modeActs]

@[simp] theorem Dev.dueFb_bridges (d : Dev) : d.dueFb.bridges = d.bridges := by simp [Dev.dueFb]

@[simp] theorem Dev.writeDcfg_bridges (d : Dev) (v : Word) : (d.writeDcfg v).bridges = d.bridges := by simp [Dev.writeDcfg]

@[simp] theorem Dev.distPulseEnd_bridges (d : Dev) : d.distPulseEnd.bridges = d.bridges := by simp [Dev.distPulseEnd]

@[simp] theorem Dev.distGapEnd_bridges (d : Dev) : d.distGapEnd.bridges = d.bridges := by simp [Dev.distGapEnd]

/-! ### The group frame and the carriers (chapters 01 and 02) -/

@[simp] theorem Dev.putCmdx_bridges (d : Dev) (m : MotorIx) (x : Nat) :
    (d.putCmdx m x).bridges = d.bridges := by simp [Dev.putCmdx]

@[simp] theorem Dev.judgeCmd_bridges (d : Dev) (m : MotorIx) (frame : Bool) :
    (d.judgeCmd m frame).bridges = d.bridges := by simp [Dev.judgeCmd]

@[simp] theorem Dev.measureCmd_bridges (d : Dev) (m : MotorIx) (x : Nat) (frame : Bool) :
    (d.measureCmd m x frame).bridges = d.bridges := by simp [Dev.measureCmd]

@[simp] theorem Dev.cmdEdge_bridges (d : Dev) (m : MotorIx) (high : Nat) : (d.cmdEdge m high).bridges = d.bridges := by
  unfold Dev.cmdEdge
  dsimp only
  split
  · rfl
  · split
    · rfl
    · simp only [Dev.measureCmd_bridges, Dev.onMot_bridges]

@[simp] theorem Dev.cmdLost_bridges (d : Dev) (m : MotorIx) : (d.cmdLost m).bridges = d.bridges := by simp [Dev.cmdLost]

@[simp] theorem Dev.cmdFrame_bridges (d : Dev) (m : MotorIx) : (d.cmdFrame m).bridges = d.bridges := by simp [Dev.cmdFrame]

@[simp] theorem Dev.sense_bridges (d : Dev) (m : MotorIx) : (d.sense m).bridges = d.bridges := by simp [Dev.sense]

@[simp] theorem Dev.putSpeed_bridges (d : Dev) (m : MotorIx) (v : Int) :
    (d.putSpeed m v).bridges = d.bridges := by simp [Dev.putSpeed]

@[simp] theorem Dev.rampHold_bridges (d : Dev) (m : MotorIx) : (d.rampHold m).bridges = d.bridges := by simp [Dev.rampHold]

@[simp] theorem Dev.rampStep_bridges (d : Dev) (m : MotorIx) : (d.rampStep m).bridges = d.bridges := by simp [Dev.rampStep]

@[simp] theorem Dev.senseLess_bridges (d : Dev) (m : MotorIx) : (d.senseLess m).bridges = d.bridges := by simp [Dev.senseLess]

@[simp] theorem Dev.angles_bridges (d : Dev) (m : MotorIx) : (d.angles m).bridges = d.bridges := by simp [Dev.angles]

@[simp] theorem Dev.applyDuty_bridges (d : Dev) (m : MotorIx) (deadline : Bool) :
    (d.applyDuty m deadline).bridges = d.bridges := by simp [Dev.applyDuty]

@[simp] theorem Dev.henFrame_bridges (d : Dev) (m : MotorIx) : (d.henFrame m).bridges = d.bridges := by simp [Dev.henFrame]

@[simp] theorem Dev.hostFrame_bridges (d : Dev) (m : MotorIx) : (d.hostFrame m).bridges = d.bridges := by simp [Dev.hostFrame]

@[simp] theorem Dev.overspeed_safe {d : Dev} (m : MotorIx) (h : AllSafe d.bridges) :
    AllSafe (d.overspeed m).bridges := by simp [Dev.overspeed, h]

@[simp] theorem Dev.reversal_safe {d : Dev} (m : MotorIx) (h : AllSafe d.bridges) : AllSafe (d.reversal m).bridges := by
  unfold Dev.reversal
  dsimp only
  split
  · split
    · exact h
    · split
      · exact Dev.toBrake_safe m h
      · exact Dev.enter_safe m .revpend (by simpa using h)
  · split
    · split
      · exact Dev.toCatch_safe m h
      · exact Dev.enter_safe m .run h
    · split
      · exact Dev.toBrake_safe m h
      · exact h
  · exact h

@[simp] theorem Dev.faultFrame_bridges (d : Dev) (m : MotorIx) : (d.faultFrame m).bridges = d.bridges := by simp [Dev.faultFrame]

@[simp] theorem Dev.idleFrame_safe {d : Dev} (m : MotorIx) (h : AllSafe d.bridges) : AllSafe (d.idleFrame m).bridges := by
  unfold Dev.idleFrame
  split <;> simp [h]

@[simp] theorem Dev.windowStart_bridges (d : Dev) (m : MotorIx) :
    (d.windowStart m).bridges = d.bridges := by simp [Dev.windowStart]

@[simp] theorem Dev.thrFrame_bridges (d : Dev) (m : MotorIx) : (d.thrFrame m).bridges = d.bridges := by simp [Dev.thrFrame]

@[simp] theorem Dev.dutyFrame_bridges (d : Dev) (m : MotorIx) : (d.dutyFrame m).bridges = d.bridges := by simp [Dev.dutyFrame]

@[simp] theorem Dev.motorFrame_safe {d : Dev} (m : MotorIx) (deadline : Bool) (h : AllSafe d.bridges) :
    AllSafe (d.motorFrame m deadline).bridges := by
  unfold Dev.motorFrame
  dsimp only
  (repeat' split) <;> simp [h]

@[simp] theorem Dev.openFrame_bridges (d : Dev) (g : GroupIx) (ended : Bool) : (d.openFrame g ended).bridges = d.bridges := by
  simp [Dev.openFrame, Dev.newCarriers]

@[simp] theorem Dev.frameGrants_bridges (d : Dev) (g : GroupIx) (pend : Option Books) :
    (d.frameGrants g pend).bridges = d.bridges := by
  unfold Dev.frameGrants
  split <;> simp

@[simp] theorem Dev.frameWork_safe {d : Dev} (g : GroupIx) (ended : Bool) (h : AllSafe d.bridges) :
    AllSafe (d.frameWork g ended).bridges := by
  rw [Dev.frameWork_eq]
  refine Dev.driveGroup_safe g (Dev.each_safe _ (fun _ m he => Dev.motorFrame_safe m _ he) ?_)
  simpa [Dev.frameScan, Dev.frameForce] using h

@[simp] theorem Dev.clearLoop_bridges (d : Dev) (m : MotorIx) : (d.clearLoop m).bridges = d.bridges := by simp [Dev.clearLoop]

@[simp] theorem Dev.seqStopped_bridges (d : Dev) (p : GroupIx) : (d.seqStopped p).bridges = d.bridges := by
  unfold Dev.seqStopped
  split <;> simp

@[simp] theorem Dev.stopGroup_safe {d : Dev} (g : GroupIx) (h : AllSafe d.bridges) : AllSafe (d.stopGroup g).bridges :=
  Dev.driveGroup_safe g (by
    rw [Dev.snapshot_bridges, Dev.zeroGrants_bridges]
    exact Dev.each_safe _ (fun _ m he => by simpa using Dev.toIdle_safe m he) (by simpa using h))

@[simp] theorem Dev.startCarriers_bridges (d : Dev) (g : GroupIx) (per : Nat) :
    (d.startCarriers g per).bridges = d.bridges := by simp [Dev.startCarriers]

@[simp] theorem Dev.startGroup_safe {d : Dev} (g : GroupIx) (h : AllSafe d.bridges) :
    AllSafe (d.startGroup g).bridges := by simp [Dev.startGroup, h]

@[simp] theorem Dev.restartGroup_safe {d : Dev} (g : GroupIx) (h : AllSafe d.bridges) :
    AllSafe (d.restartGroup g).bridges := by simp [Dev.restartGroup, h]

@[simp] theorem Dev.startDue_safe {d : Dev} (g : GroupIx) (h : AllSafe d.bridges) : AllSafe (d.startDue g).bridges := by
  unfold Dev.startDue
  split
  · exact Dev.when_safe _ (fun _ he => Dev.startGroup_safe g he) h
  · exact h

@[simp] theorem Dev.carrierEnds_bridges (d : Dev) (m : MotorIx) :
    (d.carrierEnds m).bridges = d.bridges := by simp [Dev.carrierEnds]

@[simp] theorem Dev.frameStart_safe {d : Dev} (g : GroupIx) (h : AllSafe d.bridges) : AllSafe (d.frameStart g).bridges := by
  unfold Dev.frameStart
  dsimp only
  (repeat' split) <;> simp [h]

@[simp] theorem Dev.applyDeadline_bridges (d : Dev) (g : GroupIx) : (d.applyDeadline g).bridges = d.bridges := by
  unfold Dev.applyDeadline
  dsimp only
  split
  · refine Dev.each_bridges (d.onGrp g _) _ _ fun e m => ?_
    split
    · exact (Dev.onMot_bridges _ _ _).trans (by simp)
    · simp
  · rfl

@[simp] theorem Dev.limitCheck_bridges (d : Dev) (m : MotorIx) : (d.limitCheck m).bridges = d.bridges := by simp [Dev.limitCheck]

@[simp] theorem Dev.spanCheck_bridges (d : Dev) (m : MotorIx) : (d.spanCheck m).bridges = d.bridges := by simp [Dev.spanCheck]

@[simp] theorem Dev.newPeriod_bridges (d : Dev) (m : MotorIx) : (d.newPeriod m).bridges = d.bridges := by simp [Dev.newPeriod]

@[simp] theorem Dev.carrierGlint_bridges (d : Dev) (m : MotorIx) :
    (d.carrierGlint m).bridges = d.bridges := by simp [Dev.carrierGlint]

@[simp] theorem Dev.carrierStart_safe {d : Dev} (m : MotorIx) (h : AllSafe d.bridges) : AllSafe (d.carrierStart m).bridges := by
  unfold Dev.carrierStart
  dsimp only
  (repeat' split) <;> simp [h]

@[simp] theorem Dev.pwmEdge_safe {d : Dev} (m : MotorIx) (h : AllSafe d.bridges) : AllSafe (d.pwmEdge m).bridges := by
  unfold Dev.pwmEdge
  split <;> simp [h]

@[simp] theorem Dev.endSector_safe {d : Dev} (m : MotorIx) (h : AllSafe d.bridges) : AllSafe (d.endSector m).bridges := by
  unfold Dev.endSector
  dsimp only
  (repeat' split) <;> simp [h]

@[simp] theorem Dev.commutation_safe {d : Dev} (m : MotorIx) (h : AllSafe d.bridges) : AllSafe (d.commutation m).bridges := by
  unfold Dev.commutation
  split
  · split
    · exact h
    · split
      · refine Dev.drive_safe m ?_
        dsimp only
        split <;> exact Dev.endSector_safe m h
      · exact Dev.drive_safe m h
  · exact h

@[simp] theorem Dev.alignSample_bridges (d : Dev) (m : MotorIx) (lvl : Bool) : (d.alignSample m lvl).bridges = d.bridges := by
  unfold Dev.alignSample
  dsimp only
  (repeat' split) <;> simp

@[simp] theorem Dev.sampleTick_safe {d : Dev} (m : MotorIx) (u v w : Int) (h : AllSafe d.bridges) :
    AllSafe (d.sampleTick m u v w).bridges := by
  unfold Dev.sampleTick
  dsimp only
  (repeat' split) <;> simp [h]

@[simp] theorem Dev.zcWindowClose_bridges (d : Dev) (m : MotorIx) :
    (d.zcWindowClose m).bridges = d.bridges := by simp [Dev.zcWindowClose]

@[simp] theorem Dev.align1End_safe {d : Dev} (m : MotorIx) (h : AllSafe d.bridges) :
    AllSafe (d.align1End m).bridges := by simp [Dev.align1End, h]

@[simp] theorem Dev.align2End_safe {d : Dev} (m : MotorIx) (h : AllSafe d.bridges) :
    AllSafe (d.align2End m).bridges := by simp [Dev.align2End, h]

@[simp] theorem Dev.rampTimeout_safe {d : Dev} (m : MotorIx) (h : AllSafe d.bridges) :
    AllSafe (d.rampTimeout m).bridges := by simp [Dev.rampTimeout, h]

@[simp] theorem Dev.backoffEnd_safe {d : Dev} (m : MotorIx) (h : AllSafe d.bridges) : AllSafe (d.backoffEnd m).bridges := by
  unfold Dev.backoffEnd
  split
  · exact Dev.toAlign1_safe m h
  · exact h

@[simp] theorem Dev.coastEnd_safe {d : Dev} (m : MotorIx) (h : AllSafe d.bridges) :
    AllSafe (d.coastEnd m).bridges := by simp [Dev.coastEnd, h]

@[simp] theorem Dev.catchTimeout_safe {d : Dev} (m : MotorIx) (h : AllSafe d.bridges) : AllSafe (d.catchTimeout m).bridges := by
  unfold Dev.catchTimeout
  dsimp only
  split
  · split
    · exact Dev.toAlign1_safe m h
    · exact h
    · exact h
  · exact h

@[simp] theorem Dev.brakeEnd_safe {d : Dev} (m : MotorIx) (h : AllSafe d.bridges) : AllSafe (d.brakeEnd m).bridges := by
  unfold Dev.brakeEnd
  split
  · exact Dev.startMotor_safe m h
  · exact h

/-! ### Gate-driver dies and comparators (chapters 06 and 08) -/

@[simp] theorem Dev.deadTimeOver_safe {d : Dev} (b : BridgeIx) (h : AllSafe d.bridges) : AllSafe (d.deadTimeOver b).bridges := by
  unfold Dev.deadTimeOver
  split
  · exact Dev.judgeLimit_safe _ (by simpa using Dev.turnOn_safe b h)
  · exact h

@[simp] theorem Dev.syncGduv_bridges (d : Dev) (g : GroupIx) : (d.syncGduv g).bridges = d.bridges := by simp [Dev.syncGduv]

@[simp] theorem Dev.supplyLow_bridges (d : Dev) (g : GroupIx) : (d.supplyLow g).bridges = d.bridges := by simp [Dev.supplyLow]

@[simp] theorem Dev.supplyOk_bridges (d : Dev) (g : GroupIx) : (d.supplyOk g).bridges = d.bridges := by simp [Dev.supplyOk]

@[simp] theorem Dev.supplyLost_safe {d : Dev} (g : GroupIx) (h : AllSafe d.bridges) : AllSafe (d.supplyLost g).bridges := by
  unfold Dev.supplyLost
  split
  · exact h
  · split
    · rw [Dev.clearGlint_bridges]
      exact Dev.bridgesOff_safe g h
    · exact h

@[simp] theorem Dev.supplyBack_bridges (d : Dev) (g : GroupIx) : (d.supplyBack g).bridges = d.bridges := by simp [Dev.supplyBack]

@[simp] theorem Dev.dieReady_safe {d : Dev} (g : GroupIx) (h : AllSafe d.bridges) : AllSafe (d.dieReady g).bridges := by
  unfold Dev.dieReady
  dsimp only
  split
  · exact Dev.when_safe _ (fun _ he => Dev.driveGroup_safe g he) (by simpa using h)
  · exact h

@[simp] theorem Dev.dieStart_bridges (d : Dev) (g : GroupIx) : (d.dieStart g).bridges = d.bridges := by simp [Dev.dieStart]

@[simp] theorem Dev.dieStop_safe {d : Dev} (g : GroupIx) (h : AllSafe d.bridges) : AllSafe (d.dieStop g).bridges := by
  unfold Dev.dieStop
  rw [Dev.syncGduv_bridges, Dev.clearGlint_bridges]
  exact Dev.bridgesOff_safe g h

@[simp] theorem Dev.deliverReport_safe {d : Dev} (h : AllSafe d.bridges) : AllSafe d.deliverReport.bridges := by
  unfold Dev.deliverReport
  split <;> simp [h]

@[simp] theorem Dev.currentLimit_safe {d : Dev} (m : MotorIx) (x : Int) (h : AllSafe d.bridges) :
    AllSafe (d.currentLimit m x).bridges := by
  unfold Dev.currentLimit
  split <;> simp [h]

@[simp] theorem Dev.lebOver_safe {d : Dev} (m : MotorIx) (h : AllSafe d.bridges) : AllSafe (d.lebOver m).bridges := by
  unfold Dev.lebOver
  split
  · split
    · exact Dev.judgeLimit_safe m h
    · exact h
  · exact h

@[simp] theorem Dev.shortSet_bridges (d : Dev) (m : MotorIx) : (d.shortSet m).bridges = d.bridges := by simp [Dev.shortSet]

@[simp] theorem Dev.hardShort_bridges (d : Dev) (m : MotorIx) (x : Int) :
    (d.hardShort m x).bridges = d.bridges := by simp [Dev.hardShort]

@[simp] theorem Dev.busSet_safe {d : Dev} (g : GroupIx) (h : AllSafe d.bridges) : AllSafe (d.busSet g).bridges := by
  unfold Dev.busSet
  dsimp only
  (repeat' split) <;> simp [h]

@[simp] theorem Dev.busLatch_safe {d : Dev} (g : GroupIx) (x : Int) (h : AllSafe d.bridges) :
    AllSafe (d.busLatch g x).bridges := by simp [Dev.busLatch, h]

@[simp] theorem Dev.phaseLatch_bridges (d : Dev) (m : MotorIx) (ph : Fin 3) (x : Int) :
    (d.phaseLatch m ph x).bridges = d.bridges := by simp [Dev.phaseLatch]

@[simp] theorem Dev.clearLat_bridges (d : Dev) (m : MotorIx) (mask : Word) :
    (d.clearLat m mask).bridges = d.bridges := by simp [Dev.clearLat]

@[simp] theorem Dev.clearBlat_bridges (d : Dev) (g : GroupIx) (mask : Word) :
    (d.clearBlat g mask).bridges = d.bridges := by simp [Dev.clearBlat]

@[simp] theorem Dev.chopTimeout_bridges (d : Dev) (g : GroupIx) (fb : Bool) :
    (d.chopTimeout g fb).bridges = d.bridges := by simp [Dev.chopTimeout]

@[simp] theorem Dev.writeSupCfg_bridges (d : Dev) (g : GroupIx) (v : Word) :
    (d.writeSupCfg g v).bridges = d.bridges := by simp [Dev.writeSupCfg]

@[simp] theorem Dev.testPulse_bridges (d : Dev) (g : GroupIx) (v : Word) :
    (d.testPulse g v).bridges = d.bridges := by simp [Dev.testPulse]

@[simp] theorem Dev.testPulseOver_bridges (d : Dev) (g : GroupIx) : (d.testPulseOver g).bridges = d.bridges := by
  unfold Dev.testPulseOver
  split <;> simp

@[simp] theorem Dev.dueGlint_safe {d : Dev} (h : AllSafe d.bridges) : AllSafe d.dueGlint.bridges :=
  Dev.each_safe _ (fun _ g he => Dev.busSet_safe g he) (by simpa using h)

@[simp] theorem Dev.nextCycle_safe {d : Dev} (h : AllSafe d.bridges) : AllSafe d.nextCycle.bridges :=
  Dev.each_safe _ (fun _ g he => Dev.startDue_safe g he) (Dev.dueGlint_safe (by simpa using h))

end Sys2Proof.Machine
end

section
/-! What the operations of traces, power, sessions, the memory port and the tests leave of the half-bridges: all of them as they
stand, or every one safe. -/

namespace Sys2Proof.Machine

open Sys2Proof

/-! ### Traces (chapter 11) -/

@[simp] theorem Dev.putSlotWord_bridges (d : Dev) (s i : Nat) (v : Word) :
    (d.putSlotWord s i v).bridges = d.bridges := by simp [Dev.putSlotWord]

@[simp] theorem Dev.markSlot_bridges (d : Dev) (s : Nat) (v : Word) :
    (d.markSlot s v).bridges = d.bridges := by simp [Dev.markSlot]

@[simp] theorem Dev.prepareSlot_bridges (d : Dev) (s : Nat) (w0 w1 w2 w3 : Word) :
    (d.prepareSlot s w0 w1 w2 w3).bridges = d.bridges := by simp [Dev.prepareSlot]

@[simp] theorem Dev.writeSlot_bridges (d : Dev) (s : Nat) (r : Rec) :
    (d.writeSlot s r).bridges = d.bridges := by simp [Dev.writeSlot]

@[simp] theorem Dev.clearSlot_bridges (d : Dev) (s : Nat) : (d.clearSlot s).bridges = d.bridges := by simp [Dev.clearSlot]

@[simp] theorem Dev.book_bridges (d : Dev) (off : Nat) (v : BitVec 32) : (d.book off v).bridges = d.bridges := by simp [Dev.book]

@[simp] theorem Dev.writeMirror_bridges (d : Dev) (pend old : Bool) :
    (d.writeMirror pend old).bridges = d.bridges := by simp [Dev.writeMirror]

@[simp] theorem Dev.logSession_bridges (d : Dev) : d.logSession.bridges = d.bridges := by simp [Dev.logSession]

@[simp] theorem Dev.mirrorBooks_bridges (d : Dev) : d.mirrorBooks.bridges = d.bridges := by simp [Dev.mirrorBooks]

@[simp] theorem Dev.discardRec_bridges (d : Dev) : d.discardRec.bridges = d.bridges := by simp [Dev.discardRec]

@[simp] theorem Dev.makeRec_bridges (d : Dev) (r : Rec) : (d.makeRec r).bridges = d.bridges := by simp [Dev.makeRec]

@[simp] theorem Dev.advanceWptr_bridges (d : Dev) : d.advanceWptr.bridges = d.bridges := by simp [Dev.advanceWptr]

@[simp] theorem Dev.commitEmptied_bridges (d : Dev) (old : Bool) :
    (d.commitEmptied old).bridges = d.bridges := by simp [Dev.commitEmptied]

@[simp] theorem Dev.commitRec_bridges (d : Dev) : d.commitRec.bridges = d.bridges := by
  unfold Dev.commitRec
  split <;> simp

@[simp] theorem Dev.emptyStore_bridges (d : Dev) : d.emptyStore.bridges = d.bridges := by simp [Dev.emptyStore]

@[simp] theorem Dev.loseSlot_bridges (d : Dev) (s : Nat) : (d.loseSlot s).bridges = d.bridges := by simp [Dev.loseSlot]

@[simp] theorem Dev.alarmEvent_bridges (d : Dev) (t : TraceIx) : (d.alarmEvent t).bridges = d.bridges := by simp [Dev.alarmEvent]

@[simp] theorem Dev.alarm_bridges (d : Dev) (t : TraceIx) (bit n : Nat) (assert release : Bool) :
    (d.alarm t bit n assert release).1.bridges = d.bridges := by simp [Dev.alarm]

@[simp] theorem Dev.alarms_bridges (d : Dev) (t : TraceIx) (y : Option Int) : (d.alarms t y).bridges = d.bridges := by
  unfold Dev.alarms
  dsimp only
  (repeat' split) <;> simp

@[simp] theorem Dev.writeSeg_bridges (d : Dev) (t : TraceIx) (s : Seg) :
    (d.writeSeg t s).bridges = d.bridges := by simp [Dev.writeSeg]

@[simp] theorem Dev.flushSeg_bridges (d : Dev) (t : TraceIx) : (d.flushSeg t).bridges = d.bridges := by
  unfold Dev.flushSeg
  split <;> simp

@[simp] theorem Dev.writeAnchor_bridges (d : Dev) (t : TraceIx) (rsn : Nat) (y : Int) (tick : BitVec 32) :
    (d.writeAnchor t rsn y tick).bridges = d.bridges := by simp [Dev.writeAnchor]

@[simp] theorem Dev.setSeg_bridges (d : Dev) (t : TraceIx) (s : Option Seg) :
    (d.setSeg t s).bridges = d.bridges := by simp [Dev.setSeg]

@[simp] theorem Dev.pendAnchor_bridges (d : Dev) (t : TraceIx) (code : Nat) :
    (d.pendAnchor t code).bridges = d.bridges := by simp [Dev.pendAnchor]

@[simp] theorem Dev.dropSeg_bridges (d : Dev) (t : TraceIx) (code : Nat) :
    (d.dropSeg t code).bridges = d.bridges := by simp [Dev.dropSeg]

@[simp] theorem Dev.newTraceCfg_bridges (d : Dev) (t : TraceIx) :
    (d.newTraceCfg t).bridges = d.bridges := by simp [Dev.newTraceCfg]

@[simp] theorem Dev.breakAnchor_bridges (d : Dev) (t : TraceIx) (rsn : Nat) (y : Int) :
    (d.breakAnchor t rsn y).bridges = d.bridges := by simp [Dev.breakAnchor]

@[simp] theorem Dev.compress_bridges (d : Dev) (t : TraceIx) (s : Seg) (y : Int) : (d.compress t s y).bridges = d.bridges := by
  unfold Dev.compress
  dsimp only
  (repeat' split) <;> simp

@[simp] theorem Dev.compressor_bridges (d : Dev) (t : TraceIx) (y : Option Int) : (d.compressor t y).bridges = d.bridges := by
  unfold Dev.compressor
  dsimp only
  (repeat' split) <;> simp

@[simp] theorem Dev.traceSampleNow_bridges (d : Dev) (t : TraceIx) : (d.traceSampleNow t).bridges = d.bridges := by
  unfold Dev.traceSampleNow
  dsimp only
  (repeat' split) <;> simp

@[simp] theorem Dev.traceTick_bridges (d : Dev) : d.traceTick.bridges = d.bridges := by simp [Dev.traceTick]

@[simp] theorem Dev.writeTraceSrc_bridges (d : Dev) (t : TraceIx) (v : Word) : (d.writeTraceSrc t v).bridges = d.bridges := by
  unfold Dev.writeTraceSrc
  dsimp only
  (repeat' split) <;> simp

@[simp] theorem Dev.writeTraceTag_bridges (d : Dev) (t : TraceIx) (v : Word) :
    (d.writeTraceTag t v).bridges = d.bridges := by simp [Dev.writeTraceTag]

@[simp] theorem Dev.writeTraceRate_bridges (d : Dev) (t : TraceIx) (v : Word) :
    (d.writeTraceRate t v).bridges = d.bridges := by simp [Dev.writeTraceRate]

@[simp] theorem Dev.writeHin_bridges (d : Dev) (t : TraceIx) (v : Word) :
    (d.writeHin t v).bridges = d.bridges := by simp [Dev.writeHin]

@[simp] theorem Dev.writeTraceCmd_bridges (d : Dev) (v : Word) :
    (d.writeTraceCmd v).bridges = d.bridges := by simp [Dev.writeTraceCmd]

@[simp] theorem Dev.pendEnabled_bridges (d : Dev) (code : Nat) :
    (d.pendEnabled code).bridges = d.bridges := by simp [Dev.pendEnabled]

/-! ### Thermal readings and power domains (chapter 19) -/

@[simp] theorem Dev.thermMissed_bridges (d : Dev) (s : SensorIx) :
    (d.thermMissed s).bridges = d.bridges := by simp [Dev.thermMissed]

@[simp] theorem Dev.thermFeed_bridges (d : Dev) (p : GroupIx) : (d.thermFeed p).bridges = d.bridges := by
  unfold Dev.thermFeed
  (repeat' split) <;> simp

@[simp] theorem Dev.thermOver_bridges (d : Dev) (p : GroupIx) (s : SensorIx) :
    (d.thermOver p s).bridges = d.bridges := by simp [Dev.thermOver]

@[simp] theorem Dev.thermRequest_bridges (d : Dev) (s : SensorIx) : (d.thermRequest s).bridges = d.bridges := by
  unfold Dev.thermRequest
  split
  · rfl
  · split
    · split <;> simp
    · simp

@[simp] theorem Dev.thermFlush_bridges (d : Dev) (p : GroupIx) : (d.thermFlush p).bridges = d.bridges := by simp [Dev.thermFlush]

@[simp] theorem Dev.thermDrop_bridges (d : Dev) (p : GroupIx) : (d.thermDrop p).bridges = d.bridges := by simp [Dev.thermDrop]

@[simp] theorem Dev.thermPeriod_bridges (d : Dev) : d.thermPeriod.bridges = d.bridges := by simp [Dev.thermPeriod]

@[simp] theorem Dev.thermJudge_bridges (d : Dev) (s : SensorIx) (bit cause src : Nat) (thr : Int) (first : Option Nat) :
    (d.thermJudge s bit cause src thr first).1.bridges = d.bridges := by
  unfold Dev.thermJudge
  dsimp only
  (repeat' split) <;> simp

@[simp] theorem Dev.thermReading_bridges (d : Dev) (s : SensorIx) (v : Word) :
    (d.thermReading s v).bridges = d.bridges := by simp [Dev.thermReading]

@[simp] theorem Dev.closeRead_safe {d : Dev} (p : GroupIx) (a : Fin 64) (h : AllSafe d.bridges) :
    AllSafe (d.closeRead p a).bridges := by simp [Dev.closeRead, h]

@[simp] theorem Dev.closed_safe {d : Dev} (p : GroupIx) (a : Fin 64) (late : Bool) (h : AllSafe d.bridges) :
    AllSafe (d.closed p a late).bridges := by simp [Dev.closed, h]

@[simp] theorem Dev.closesLate_safe {d : Dev} (h : AllSafe d.bridges) : AllSafe d.closesLate.bridges :=
  Dev.each_safe d.closeLate (fun _ c he => Dev.closeRead_safe c.1 c.2 he) h

@[simp] theorem Dev.closeDue_safe {d : Dev} (p : GroupIx) (a : Fin 64) (h : AllSafe d.bridges) :
    AllSafe (d.closeDue p a).bridges := by simp [Dev.closeDue, h]

@[simp] theorem Dev.sample_safe {d : Dev} (p : GroupIx) (raw : Word) (h : AllSafe d.bridges) :
    AllSafe (d.sample p raw).bridges := by
  unfold Dev.sample
  split
  · exact h
  · dsimp only
    split
    · exact h
    · split
      · exact h
      · split
        · split
          next hx => exact .of_fst (by simpa using h) hx
          next hx => exact Dev.closed_safe p _ _ (.of_fst (by simpa using h) hx)
          next hx => exact Dev.closed_safe p _ _ (.of_fst (by simpa using h) hx)
        · exact h

@[simp] theorem Dev.prismBack_safe {d : Dev} (p : GroupIx) (h : AllSafe d.bridges) : AllSafe (d.prismBack p).bridges := by
  unfold Dev.prismBack
  rw [Dev.resumeSeq_bridges]
  refine Dev.each_safe _ (fun e a he => ?_) (by simpa using h)
  dsimp only
  split
  · exact Dev.closed_safe p a true he
  · exact he

@[simp] theorem Dev.domainIdle_safe {d : Dev} (g : GroupIx) (h : AllSafe d.bridges) : AllSafe (d.domainIdle g).bridges :=
  Dev.driveGroup_safe g (Dev.each_safe _ (fun _ m he => Dev.toIdle_safe m he) h)

@[simp] theorem Dev.domChange_bridges (d : Dev) (n : Nat) (therm : Bool) :
    (d.domChange n therm).bridges = d.bridges := by simp [Dev.domChange]

@[simp] theorem Dev.syncPrismPll_bridges (d : Dev) : d.syncPrismPll.bridges = d.bridges := by simp [Dev.syncPrismPll]

@[simp] theorem Dev.domOff_safe {d : Dev} (n : Nat) (therm : Bool) (h : AllSafe d.bridges) :
    AllSafe (d.domOff n therm).bridges := by
  unfold Dev.domOff
  refine Dev.each_safe _ (fun _ g he => Dev.domainIdle_safe g he) ?_
  split
  · simpa using h
  · split
    · exact Dev.each_safe _ (fun _ g he => Dev.dieStop_safe g he) (by simpa using h)
    · simpa using h

@[simp] theorem Dev.domainsOff_safe {d : Dev} (therm : Bool) (h : AllSafe d.bridges) : AllSafe (d.domainsOff therm).bridges :=
  Dev.each_safe _ (fun _ n he => Dev.domOff_safe n therm he) h

@[simp] theorem Dev.domStart_safe {d : Dev} (n : Fin 10) (h : AllSafe d.bridges) : AllSafe (d.domStart n).bridges := by
  unfold Dev.domStart
  dsimp only
  split
  · rw [Dev.syncPrismPll_bridges]
    exact Dev.each_safe _ (fun _ p he => Dev.supInvalid_safe p (by simpa using he)) (by simpa using h)
  · split <;> simpa using h

@[simp] theorem Dev.domReady_safe {d : Dev} (n : Fin 10) (h : AllSafe d.bridges) : AllSafe (d.domReady n).bridges := by
  unfold Dev.domReady
  split
  · dsimp only
    split
    · split <;> simpa using h
    · split
      · rw [Dev.each_bridges _ _ _ fun e p => by split <;> simp]
        simpa using h
      · exact Dev.each_safe _ (fun _ g he => Dev.dieReady_safe g he) (by simpa using h)
  · exact h

@[simp] theorem Dev.writeReq_safe {d : Dev} (v : Word) (h : AllSafe d.bridges) :
    AllSafe (d.writeReq v).bridges := by simp [Dev.writeReq, h]

@[simp] theorem Dev.shutdown_safe {d : Dev} (s : SensorIx) (h : AllSafe d.bridges) :
    AllSafe (d.shutdown s).bridges := by simp [Dev.shutdown, h]

@[simp] theorem Dev.shutdownOver_bridges (d : Dev) (s : SensorIx) :
    (d.shutdownOver s).bridges = d.bridges := by simp [Dev.shutdownOver]

@[simp] theorem Dev.prismLost_bridges (d : Dev) : d.prismLost.bridges = d.bridges := by simp [Dev.prismLost]

@[simp] theorem Dev.prismReturns_safe {d : Dev} (h : AllSafe d.bridges) : AllSafe d.prismReturns.bridges := by
  unfold Dev.prismReturns
  split
  · exact Dev.each_safe _ (fun _ p he => Dev.prismBack_safe p he) (by simpa using h)
  · exact h

@[simp] theorem Dev.writePrmCtrl_bridges (d : Dev) (p : GroupIx) (v : Word) :
    (d.writePrmCtrl p v).bridges = d.bridges := by simp [Dev.writePrmCtrl]

@[simp] theorem Dev.syncCome_bridges (d : Dev) (p : GroupIx) : (d.syncCome p).bridges = d.bridges := by simp [Dev.syncCome]

@[simp] theorem Dev.idleOver_bridges (d : Dev) (p : GroupIx) : (d.idleOver p).bridges = d.bridges := by
  unfold Dev.idleOver
  split <;> simp

@[simp] theorem Dev.wake_bridges (d : Dev) (p : GroupIx) : (d.wake p).bridges = d.bridges := by simp [Dev.wake]

@[simp] theorem Dev.writeTrk_bridges (d : Dev) (p : GroupIx) (t : Fin 32) (v : Word) :
    (d.writeTrk p t v).bridges = d.bridges := by simp [Dev.writeTrk]

/-! ### Coupling sessions, doorbells and pending bits -/

@[simp] theorem Dev.sessionMotor_bridges (d : Dev) (m : MotorIx) :
    (d.sessionMotor m).bridges = d.bridges := by simp [Dev.sessionMotor]

@[simp] theorem Dev.mirrorSession_bridges (d : Dev) : d.mirrorSession.bridges = d.bridges := by simp [Dev.mirrorSession]

@[simp] theorem Dev.openSession_bridges (d : Dev) : d.openSession.bridges = d.bridges := by simp [Dev.openSession]

@[simp] theorem Dev.closeSession_bridges (d : Dev) : d.closeSession.bridges = d.bridges := by simp [Dev.closeSession]

@[simp] theorem Dev.cplAct_bridges (d : Dev) (level : Bool) : (d.cplAct level).bridges = d.bridges := by simp [Dev.cplAct]

@[simp] theorem Dev.cplRaw_bridges (d : Dev) (level : Bool) : (d.cplRaw level).bridges = d.bridges := by simp [Dev.cplRaw]

@[simp] theorem Dev.cplQualified_bridges (d : Dev) (level : Bool) :
    (d.cplQualified level).bridges = d.bridges := by simp [Dev.cplQualified]

@[simp] theorem Dev.cplEvent_bridges (d : Dev) (level qualified : Bool) :
    (d.cplEvent level qualified).bridges = d.bridges := by simp [Dev.cplEvent]

@[simp] theorem Dev.applyPending_bridges (d : Dev) : d.applyPending.bridges = d.bridges := by
  unfold Dev.applyPending
  split <;> simp

@[simp] theorem Dev.cplTurn_bridges (d : Dev) : d.cplTurn.bridges = d.bridges := by simp [Dev.cplTurn]

@[simp] theorem Dev.secondTick_bridges (d : Dev) : d.secondTick.bridges = d.bridges := by simp [Dev.secondTick]

@[simp] theorem Dev.ring_bridges (d : Dev) (k : Master) (v : Word) : (d.ring k v).bridges = d.bridges := by simp [Dev.ring]

@[simp] theorem Dev.clearPend_bridges (d : Dev) (k : HostIx) (q : Nat) (v : Word) :
    (d.clearPend k q v).bridges = d.bridges := by simp [Dev.clearPend]

@[simp] theorem Dev.rearmOver_bridges (d : Dev) (k : HostIx) : (d.rearmOver k).bridges = d.bridges := by
  unfold Dev.rearmOver
  split <;> simp

/-! ### The memory port (chapter 14) -/

@[simp] theorem Dev.memInvalid_bridges (d : Dev) : d.memInvalid.bridges = d.bridges := by simp [Dev.memInvalid]

@[simp] theorem Dev.memSync_bridges (d : Dev) : d.memSync.bridges = d.bridges := by simp [Dev.memSync]

@[simp] theorem Dev.writeWin_bridges (d : Dev) (a : Nat) (v : Word) :
    (d.writeWin a v).bridges = d.bridges := by simp [Dev.writeWin]

@[simp] theorem Dev.exitFirst_bridges (d : Dev) (window : Bool) :
    (d.exitFirst window).bridges = d.bridges := by simp [Dev.exitFirst]

@[simp] theorem Dev.memRelease_bridges (d : Dev) : d.memRelease.bridges = d.bridges := by simp [Dev.memRelease]

@[simp] theorem Dev.memIdle_bridges (d : Dev) : d.memIdle.bridges = d.bridges := by simp [Dev.memIdle]

@[simp] theorem Dev.winServe_bridges (d : Dev) : d.winServe.bridges = d.bridges := by simp [Dev.winServe]

@[simp] theorem Dev.fillBegin_bridges (d : Dev) (l : BitVec 32) (pre intoB : Bool) :
    (d.fillBegin l pre intoB).bridges = d.bridges := by simp [Dev.fillBegin]

@[simp] theorem Dev.qDone_bridges (d : Dev) (i res : Nat) : (d.qDone i res).bridges = d.bridges := by simp [Dev.qDone]

@[simp] theorem Dev.qOver_bridges (d : Dev) : d.qOver.bridges = d.bridges := by simp [Dev.qOver]

@[simp] theorem Dev.qEnd_bridges (d : Dev) (res : Nat) : (d.qEnd res).bridges = d.bridges := by simp [Dev.qEnd]

@[simp] theorem Dev.qSkip_bridges (n : Nat) (d : Dev) : (Dev.qSkip n d).bridges = d.bridges := by
  induction n generalizing d with
  | zero => rfl
  | succ n ih =>
    unfold Dev.qSkip
    dsimp only
    split
    · split <;> simp [ih]
    · rfl

@[simp] theorem Dev.entryBegin_bridges (d : Dev) : d.entryBegin.bridges = d.bridges := by
  unfold Dev.entryBegin
  dsimp only
  (repeat' split) <;> simp

@[simp] theorem Dev.entryAsked_bridges (d : Dev) : d.entryAsked.bridges = d.bridges := by simp [Dev.entryAsked]

@[simp] theorem Dev.memNext_bridges (d : Dev) : d.memNext.bridges = d.bridges := by
  have hserve : (Dev.qSkip 16 d.memSync).winServe.bridges = d.bridges := by simp
  unfold Dev.memNext
  dsimp only
  generalize (Dev.qSkip 16 d.memSync).winServe = e at hserve
  split
  · simp
  · split
    · split
      · simp [hserve]
      · split <;> simp [hserve]
    · split <;> simp [hserve]

@[simp] theorem Dev.qStart_bridges (d : Dev) (v : Word) : (d.qStart v).bridges = d.bridges := by simp [Dev.qStart]

@[simp] theorem Dev.qAbort_bridges (d : Dev) : d.qAbort.bridges = d.bridges := by simp [Dev.qAbort]

@[simp] theorem Dev.writeQrun_bridges (d : Dev) (v : Word) : (d.writeQrun v).bridges = d.bridges := by simp [Dev.writeQrun]

@[simp] theorem Dev.qStore_bridges (d : Dev) (i : Nat) (bytes : List Byte) :
    (d.qStore i bytes).bridges = d.bridges := by simp [Dev.qStore]

@[simp] theorem Dev.qNext_bridges (d : Dev) : d.qNext.bridges = d.bridges := by simp [Dev.qNext]

@[simp] theorem Dev.entryComplete_bridges (d : Dev) (bytes : List Byte) :
    (d.entryComplete bytes).bridges = d.bridges := by simp [Dev.entryComplete]

@[simp] theorem Dev.writeQ_bridges (d : Dev) (a : Nat) (v : Word) : (d.writeQ a v).bridges = d.bridges := by
  unfold Dev.writeQ
  dsimp only
  split
  · rfl
  · exact Dev.put_bridges d a _

@[simp] theorem Dev.writeBuf_bridges (d : Dev) (a : Nat) (v : Word) :
    (d.writeBuf a v).bridges = d.bridges := by simp [Dev.writeBuf]

@[simp] theorem Dev.writeRaw_bridges (d : Dev) (v : Word) : (d.writeRaw v).bridges = d.bridges := by simp [Dev.writeRaw]

@[simp] theorem Dev.winRead_bridges (d : Dev) (k : Master) (a : Addr) :
    (d.winRead k a).bridges = d.bridges := by simp [Dev.winRead]

@[simp] theorem Dev.rawTakes_bridges (d : Dev) : d.rawTakes.bridges = d.bridges := by simp [Dev.rawTakes]

@[simp] theorem Dev.fillComplete_bridges (d : Dev) (bytes : List Byte) : (d.fillComplete bytes).bridges = d.bridges := by
  unfold Dev.fillComplete
  dsimp only
  (repeat' split) <;> simp

@[simp] theorem Dev.winTimeout_bridges (d : Dev) : d.winTimeout.bridges = d.bridges := by
  unfold Dev.winTimeout
  split <;> simp

@[simp] theorem Dev.loaderReads_bridges (d : Dev) : d.loaderReads.bridges = d.bridges := by simp [Dev.loaderReads]

@[simp] theorem Dev.masterStart_bridges (d : Dev) (highFor : Nat) :
    (d.masterStart highFor).bridges = d.bridges := by simp [Dev.masterStart]

@[simp] theorem Dev.mmfDiscard_bridges (d : Dev) : d.mmfDiscard.bridges = d.bridges := by simp [Dev.mmfDiscard]

@[simp] theorem Dev.memFault_bridges (d : Dev) : d.memFault.bridges = d.bridges := by simp [Dev.memFault]

/-! ### Life cycle, memory test and boundary scan (chapter 20) -/

@[simp] theorem Dev.lcActs_bridges (d : Dev) : d.lcActs.bridges = d.bridges := by simp [Dev.lcActs]

@[simp] theorem Dev.lcRefused_bridges (d : Dev) : d.lcRefused.bridges = d.bridges := by simp [Dev.lcRefused]

@[simp] theorem Dev.blow_bridges (d : Dev) (n : Nat) : (d.blow n).bridges = d.bridges := by simp [Dev.blow]

@[simp] theorem Dev.toManufacture_bridges (d : Dev) : d.toManufacture.bridges = d.bridges := by simp [Dev.toManufacture]

@[simp] theorem Dev.toField_bridges (d : Dev) : d.toField.bridges = d.bridges := by
  unfold Dev.toField
  split <;> simp

@[simp] theorem Dev.authFails_bridges (d : Dev) : d.authFails.bridges = d.bridges := by simp [Dev.authFails]

@[simp] theorem Dev.toService_bridges (d : Dev) : d.toService.bridges = d.bridges := by simp [Dev.toService]

@[simp] theorem Dev.toReturn_bridges (d : Dev) : d.toReturn.bridges = d.bridges := by simp [Dev.toReturn]

@[simp] theorem Dev.writeLccmd_bridges (d : Dev) (v : Word) : (d.writeLccmd v).bridges = d.bridges := by simp [Dev.writeLccmd]

@[simp] theorem Dev.fuseDone_bridges (d : Dev) : d.fuseDone.bridges = d.bridges := by
  unfold Dev.fuseDone
  split <;> simp

@[simp] theorem Dev.erase_bridges (d : Dev) : d.erase.bridges = d.bridges := by simp [Dev.erase]

@[simp] theorem Dev.eraseDone_bridges (d : Dev) : d.eraseDone.bridges = d.bridges := by simp [Dev.eraseDone]

@[simp] theorem Dev.writeKey_bridges (d : Dev) (which : KeyKind) (i : Nat) (v : Word) :
    (d.writeKey which i v).bridges = d.bridges := by
  unfold Dev.writeKey
  split <;> simp

@[simp] theorem Dev.drawChallenge_bridges (d : Dev) (k : Master) :
    (d.drawChallenge k).bridges = d.bridges := by simp [Dev.drawChallenge]

@[simp] theorem Dev.challengeLapse_bridges (d : Dev) : d.challengeLapse.bridges = d.bridges := by simp [Dev.challengeLapse]

@[simp] theorem Dev.bistGo_bridges (d : Dev) (v : Word) : (d.bistGo v).bridges = d.bridges := by simp [Dev.bistGo]

@[simp] theorem Dev.zeroWords_bridges (d : Dev) : d.zeroWords.bridges = d.bridges := by simp [Dev.zeroWords]

@[simp] theorem Dev.bistState_bridges (d : Dev) : d.bistState.bridges = d.bridges := by simp [Dev.bistState]

@[simp] theorem Dev.bistLeave_bridges (d : Dev) (tgt : Nat) : (d.bistLeave tgt).bridges = d.bridges := by
  unfold Dev.bistLeave
  split <;> simp

@[simp] theorem Dev.bistEnd_safe {d : Dev} (cause : Word) (h : AllSafe d.bridges) : AllSafe (d.bistEnd cause).bridges := by
  unfold Dev.bistEnd
  split <;> simp [h]

@[simp] theorem Dev.bistLog_bridges (d : Dev) (fails : List BistFail) : (d.bistLog fails).bridges = d.bridges := by
  unfold Dev.bistLog
  split <;> simp

@[simp] theorem Dev.bistFound_bridges (d : Dev) (fails : List BistFail) : (d.bistFound fails).bridges = d.bridges := by
  unfold Dev.bistFound
  split <;> simp

@[simp] theorem Dev.bistDone_safe {d : Dev} (fails : List BistFail) (h : AllSafe d.bridges) :
    AllSafe (d.bistDone fails).bridges := by
  unfold Dev.bistDone
  split <;> simp [h]

@[simp] theorem Dev.writeRepair_bridges (d : Dev) (l : List (Nat × Nat)) :
    (d.writeRepair l).bridges = d.bridges := by simp [Dev.writeRepair]

@[simp] theorem Dev.repairRow_bridges (d : Dev) (tgt row : Nat) (soft : Bool) :
    (d.repairRow tgt row soft).bridges = d.bridges := by simp [Dev.repairRow]

@[simp] theorem Dev.repairGo_bridges (d : Dev) : d.repairGo.bridges = d.bridges := by simp [Dev.repairGo]

@[simp] theorem Dev.tapLoad_safe {d : Dev} (i : TapInstr) (h : AllSafe d.bridges) :
    AllSafe (d.tapLoad i).bridges := by simp [Dev.tapLoad, h]

@[simp] theorem Dev.loadExtest_safe {d : Dev} (h : AllSafe d.bridges) : AllSafe d.loadExtest.bridges := by
  unfold Dev.loadExtest
  split <;> simp [h]

@[simp] theorem Dev.loadCode_safe {d : Dev} (c : BitVec 4) (h : AllSafe d.bridges) : AllSafe (d.loadCode c).bridges := by
  unfold Dev.loadCode
  split <;> simp [h]

end Sys2Proof.Machine
end

section
/-! What device faults, reset, the fabric, the loader, the Mirror link and the host ports leave of the half-bridges: all of
them as they stand, or every one safe. -/

namespace Sys2Proof.Machine

open Sys2Proof

/-! ### A host port by itself (chapter 15) -/

@[simp] theorem Dev.statusAgain_bridges (d : Dev) (k : HostIx) (cmde rdy : Bool) :
    (d.statusAgain k cmde rdy).bridges = d.bridges := by simp [Dev.statusAgain]

@[simp] theorem Dev.hostSend_bridges (d : Dev) (k : HostIx) (v : Word) :
    (d.hostSend k v).bridges = d.bridges := by simp [Dev.hostSend]

@[simp] theorem Dev.hostZeros_bridges (d : Dev) (k : HostIx) (n : Nat) :
    (d.hostZeros k n).bridges = d.bridges := by simp [Dev.hostZeros]

@[simp] theorem Dev.pageWords_bridges (d : Dev) (k : HostIx) (n : Nat) :
    (d.pageWords k n).bridges = d.bridges := by simp [Dev.pageWords]

@[simp] theorem Dev.hostEnd_bridges (d : Dev) (k : HostIx) : (d.hostEnd k).bridges = d.bridges := by simp [Dev.hostEnd]

@[simp] theorem Dev.hostCause_bridges (d : Dev) (k : HostIx) (bit cnt : Nat) :
    (d.hostCause k bit cnt).bridges = d.bridges := by simp [Dev.hostCause]

@[simp] theorem Dev.hostFrame'_bridges (d : Dev) (k : HostIx) : (d.hostFrame' k).bridges = d.bridges := by simp [Dev.hostFrame']

@[simp] theorem Dev.riseFrame_bridges (d : Dev) (k : HostIx) (x : HostArgs) :
    (d.riseFrame k x).bridges = d.bridges := by simp [Dev.riseFrame]

@[simp] theorem Dev.hostFinish_bridges (d : Dev) (k : HostIx) (x : HostArgs) :
    (d.hostFinish k x).bridges = d.bridges := by simp [Dev.hostFinish]

@[simp] theorem Dev.cutParked_bridges (d : Dev) (k : HostIx) (w : HostWait) : (d.cutParked k w).bridges = d.bridges := by
  unfold Dev.cutParked
  split <;> simp

@[simp] theorem Dev.cutReading_bridges (d : Dev) (k : HostIx) (r : OpenRead) :
    (d.cutReading k r).bridges = d.bridges := by simp [Dev.cutReading]

@[simp] theorem Dev.cutPort_bridges (d : Dev) (k : HostIx) (cut : Bool) : (d.cutPort k cut).bridges = d.bridges := by
  unfold Dev.cutPort
  dsimp only
  (repeat' split) <;> simp

/-! ### Memory integrity and device faults (chapter 16) -/

@[simp] theorem Dev.putErr_bridges (d : Dev) (a cls addr : Nat) :
    (d.putErr a cls addr).bridges = d.bridges := by simp [Dev.putErr]

@[simp] theorem Dev.ceFound_bridges (d : Dev) (cls addr : Nat) : (d.ceFound cls addr).bridges = d.bridges := by simp [Dev.ceFound]

@[simp] theorem Dev.ueFound_bridges (d : Dev) (cls addr : Nat) : (d.ueFound cls addr).bridges = d.bridges := by simp [Dev.ueFound]

@[simp] theorem Dev.loseWord_safe {d : Dev} (a : Nat) (v : Word) (h : AllSafe d.bridges) : AllSafe (d.loseWord a v).bridges := by
  unfold Dev.loseWord
  dsimp only
  refine .branch (by simpa using h) (.branch (Dev.writeReq_safe v h) ?_)
  refine .branch (.branch (Dev.toIdle_safe _ h) (Dev.drive_safe _ h)) (.branch (by simpa using h) ?_)
  refine .branch (.branch h h) (.branch (by simpa using h) (.branch (by simpa using h) ?_))
  refine .branch (by simpa using h) (.branch ?_ h)
  split <;> simpa using h

@[simp] theorem Dev.loseCfg_safe {d : Dev} (a : Nat) (h : AllSafe d.bridges) :
    AllSafe (d.loseCfg a).bridges := by simp [Dev.loseCfg, h]

@[simp] theorem Dev.faultCauses_safe {d : Dev} (finds : List DfFind) (h : AllSafe d.bridges) :
    AllSafe (d.faultCauses finds).bridges := by
  unfold Dev.faultCauses
  refine Dev.each_safe _ (fun _ a he => Dev.loseCfg_safe a he) ?_
  split <;> simpa using h

@[simp] theorem Dev.faultMotor_safe {d : Dev} (m : MotorIx) (h : AllSafe d.bridges) : AllSafe (d.faultMotor m).bridges := by
  unfold Dev.faultMotor
  dsimp only
  (repeat' split) <;> simp [h]

@[simp] theorem Dev.faultPrism_bridges (d : Dev) (p : GroupIx) : (d.faultPrism p).bridges = d.bridges := by simp [Dev.faultPrism]

@[simp] theorem Dev.rqEnd_bridges (d : Dev) (res : Nat) (data : Word) :
    (d.rqEnd res data).bridges = d.bridges := by simp [Dev.rqEnd]

@[simp] theorem Dev.loadFails_bridges (d : Dev) : d.loadFails.bridges = d.bridges := by simp [Dev.loadFails]

@[simp] theorem Dev.actBlocks_safe {d : Dev} (cut : Vector Bool 4) (h : AllSafe d.bridges) :
    AllSafe (d.actBlocks cut).bridges := by
  unfold Dev.actBlocks
  have hmots := Dev.each_safe (List.finRange 16) (fun _ m he => Dev.faultMotor_safe m he) h
  simpa using hmots

@[simp] theorem Dev.linkFault_bridges (d : Dev) : d.linkFault.bridges = d.bridges := by simp [Dev.linkFault]

@[simp] theorem Dev.faultBlocks_safe {d : Dev} (cut : Vector Bool 4) (h : AllSafe d.bridges) :
    AllSafe (d.faultBlocks cut).bridges := by simp [Dev.faultBlocks, h]

@[simp] theorem Dev.cplAfter_bridges (d : Dev) : d.cplAfter.bridges = d.bridges := by
  unfold Dev.cplAfter
  split <;> simp

@[simp] theorem Dev.fault_safe {d : Dev} (finds : List DfFind) (cut : Vector Bool 4) (h : AllSafe d.bridges) :
    AllSafe (d.fault finds cut).bridges := by
  unfold Dev.fault
  dsimp only
  (repeat' split) <;> simp [h]

@[simp] theorem Dev.holdEnd_safe {d : Dev} (m : MotorIx) (h : AllSafe d.bridges) :
    AllSafe (d.holdEnd m).bridges := by simp [Dev.holdEnd, h]

@[simp] theorem Dev.coreLost_safe {d : Dev} (held : Bool) (h : AllSafe d.bridges) : AllSafe (d.coreLost held).bridges := by
  unfold Dev.coreLost
  split <;> simp [h]

@[simp] theorem Dev.coreBack_safe {d : Dev} (cut : Vector Bool 4) (h : AllSafe d.bridges) : AllSafe (d.coreBack cut).bridges := by
  unfold Dev.coreBack
  split
  · refine Dev.driveAll_safe ?_
    rw [Dev.each_bridges _ _ _ fun _ _ => by simp, Dev.each_bridges _ _ Dev.setBrk fun e g => by simp]
    refine Dev.each_safe _ (fun _ g he => Dev.startDue_safe g he) (Dev.each_safe _ (fun _ g he => Dev.restartGroup_safe g he) ?_)
    refine Dev.fault_safe [.pll] cut (Dev.closesLate_safe ?_)
    rw [Dev.raiseLate_bridges]
    exact Dev.dueGlint_safe (by simpa using h)
  · exact h

@[simp] theorem Dev.passEnd_bridges (d : Dev) : d.passEnd.bridges = d.bridges := by simp [Dev.passEnd]

@[simp] theorem Dev.takeCfg_bridges (d : Dev) (n : Nat) (v : Word) : (d.takeCfg n v).bridges = d.bridges := by simp [Dev.takeCfg]

@[simp] theorem Dev.takeRam_bridges (d : Dev) (n : Nat) (v : Word) : (d.takeRam n v).bridges = d.bridges := by simp [Dev.takeRam]

@[simp] theorem Dev.ramFound_safe {d : Dev} (n : Nat) (err : BitVec 28) (cut : Vector Bool 4) (h : AllSafe d.bridges) :
    AllSafe (d.ramFound n err cut).1.bridges := by
  unfold Dev.ramFound
  split
  · exact h
  · split
    · simpa using h
    · simpa using h
    · exact Dev.fault_safe _ cut h

@[simp] theorem Dev.ramRead_safe {d : Dev} (n : Nat) (err : BitVec 28) (cut : Vector Bool 4) (h : AllSafe d.bridges) :
    AllSafe (d.ramRead n err cut).1.bridges := by
  unfold Dev.ramRead
  split <;> simp [h]

@[simp] theorem Dev.engineRead_safe {d : Dev} (cut : Vector Bool 4) (f : RamFind) (h : AllSafe d.bridges) :
    AllSafe (d.engineRead cut f).bridges := by
  unfold Dev.engineRead
  split <;> simp [h]

@[simp] theorem Dev.scrub_safe {d : Dev} (err : BitVec 28) (cut : Vector Bool 4) (h : AllSafe d.bridges) :
    AllSafe (d.scrub err cut).bridges := by simp [Dev.scrub, h]

@[simp] theorem Dev.scrubTurn_safe {d : Dev} (err : BitVec 28) (firsts : List RamFind) (cut : Vector Bool 4)
    (h : AllSafe d.bridges) : AllSafe (d.scrubTurn err firsts cut).bridges := by
  unfold Dev.scrubTurn
  split
  · exact Dev.scrub_safe err cut h
  · exact Dev.each_safe _ (fun _ f he => Dev.engineRead_safe cut f he) h

@[simp] theorem Dev.writeBack_bridges (d : Dev) : d.writeBack.bridges = d.bridges := by
  unfold Dev.writeBack
  split <;> simp

/-! ### Reset and the start sequence (chapter 13) -/

theorem AllSafe.replicate : AllSafe (Vector.replicate 48 {}) := fun b => by
  simp [Bridge.Safe]

@[simp] theorem Dev.inReset_safe (d : Dev) : AllSafe d.inReset.bridges := AllSafe.replicate

@[simp] theorem Dev.tearLog_bridges (d : Dev) (u : LogUnit) : (d.tearLog u).bridges = d.bridges := by simp [Dev.tearLog]

@[simp] theorem Dev.resetLow_safe {d : Dev} (lowNs : Nat) (cut : CommitCut) (h : AllSafe d.bridges) :
    AllSafe (d.resetLow lowNs cut).bridges := by
  unfold Dev.resetLow
  split
  · exact h
  · split
    · split
      · exact Dev.inReset_safe _
      · exact h
    · exact Dev.inReset_safe _

@[simp] theorem Dev.resetHigh_bridges (d : Dev) (mirrorId : Bool) :
    (d.resetHigh mirrorId).bridges = d.bridges := by simp [Dev.resetHigh]

@[simp] theorem Dev.firstLock_bridges (d : Dev) : d.firstLock.bridges = d.bridges := by simp [Dev.firstLock]

@[simp] theorem Dev.fusesRead_safe {d : Dev} (h : AllSafe d.bridges) : AllSafe d.fusesRead.bridges := by
  unfold Dev.fusesRead
  split <;> simp [h]

@[simp] theorem Dev.logBad_bridges (d : Dev) (ix : BitVec 24) : (d.logBad ix).bridges = d.bridges := by simp [Dev.logBad]

@[simp] theorem Dev.logRead_bridges (d : Dev) (f : LogFind) : (d.logRead f).bridges = d.bridges := by
  unfold Dev.logRead
  split <;> simp

@[simp] theorem Dev.logX_bridges (d : Dev) : d.logX.bridges = d.bridges := by simp [Dev.logX]

@[simp] theorem Dev.loadCopy_bridges (d : Dev) (c : MirrorCopy) : (d.loadCopy c).bridges = d.bridges := by simp [Dev.loadCopy]

@[simp] theorem Dev.slotRead_bridges (d : Dev) (s : Nat) (errs : List (BitVec 28)) :
    (d.slotRead s errs).1.bridges = d.bridges := by
  unfold Dev.slotRead
  dsimp only
  (repeat' split) <;> simp

@[simp] theorem Dev.resolveCopy_bridges (d : Dev) (c : MirrorCopy) (errs : List (BitVec 28)) :
    (d.resolveCopy c errs).bridges = d.bridges := by simp [Dev.resolveCopy]

@[simp] theorem Dev.loseTested_bridges (d : Dev) : d.loseTested.bridges = d.bridges := by simp [Dev.loseTested]

@[simp] theorem Dev.loadBooks_bridges (d : Dev) (errs : List (BitVec 28)) : (d.loadBooks errs).bridges = d.bridges := by
  unfold Dev.loadBooks
  split <;> simp

@[simp] theorem Dev.loadSession_bridges (d : Dev) : d.loadSession.bridges = d.bridges := by
  unfold Dev.loadSession
  split <;> simp

@[simp] theorem Dev.loadRepair_bridges (d : Dev) : d.loadRepair.bridges = d.bridges := by
  unfold Dev.loadRepair
  split <;> simp

@[simp] theorem Dev.logLoaded_bridges (d : Dev) (badTrace badSession badRepair : Bool) (finds : List LogFind) (errs : List
    (BitVec 28)) : (d.logLoaded badTrace badSession badRepair finds errs).bridges = d.bridges := by
  simp [Dev.logLoaded]

@[simp] theorem Dev.loadKiss_bridges (d : Dev) (m : MotorIx) : (d.loadKiss m).bridges = d.bridges := by simp [Dev.loadKiss]

@[simp] theorem Dev.complete_bridges (d : Dev) (src : Nat) (slot macOk : Bool) :
    (d.complete src slot macOk).bridges = d.bridges := by simp [Dev.complete]

@[simp] theorem Dev.cfgDone_bridges (d : Dev) : d.cfgDone.bridges = d.bridges := by simp [Dev.cfgDone]

@[simp] theorem Dev.cfgReload_bridges (d : Dev) : d.cfgReload.bridges = d.bridges := by simp [Dev.cfgReload]

@[simp] theorem Dev.writeCfgcmd_bridges (d : Dev) (v : Word) : (d.writeCfgcmd v).bridges = d.bridges := by simp [Dev.writeCfgcmd]

@[simp] theorem Dev.waitHost_bridges (d : Dev) : d.waitHost.bridges = d.bridges := by simp [Dev.waitHost]

@[simp] theorem Dev.discovered_bridges (d : Dev) (s : Sfdp) : (d.discovered s).bridges = d.bridges := by simp [Dev.discovered]

@[simp] theorem Dev.selectSlot_bridges (d : Dev) : d.selectSlot.bridges = d.bridges := by simp [Dev.selectSlot]

@[simp] theorem Dev.pass1_bridges (d : Dev) (slot : Fin 2) (ws : List Word) :
    (d.pass1 slot ws).bridges = d.bridges := by simp [Dev.pass1]

/-! ### The fabric (chapters 01 and 15) -/

@[simp] theorem Dev.rcTake_bridges (d : Dev) (a : Nat) (v : Word) : (d.rcTake a v).bridges = d.bridges := by simp [Dev.rcTake]

@[simp] theorem Dev.readEffect_bridges (d : Dev) (k : Master) (a : Nat) (v : Word) (l : List (Nat × Word)) :
    (d.readEffect k a v l).bridges = d.bridges := by simp [Dev.readEffect]

@[simp] theorem Dev.fabRead_bridges (d : Dev) (k : Master) (a : Addr) :
    (d.fabRead k a).bridges = d.bridges := by simp [Dev.fabRead]

@[simp] theorem Dev.storeFound_bridges (d : Dev) (n : Nat) (ws : List Decoded) : (d.storeFound n ws).bridges = d.bridges := by
  unfold Dev.storeFound
  dsimp only
  (repeat' split) <;> simp

@[simp] theorem Dev.storeRead_bridges (d : Dev) (k : Master) (a : Addr) (errs : List (BitVec 28)) :
    (d.storeRead k a errs).bridges = d.bridges := by simp [Dev.storeRead]

@[simp] theorem Dev.setRun_bridges (d : Dev) (g : GroupIx) (run : Bool) :
    (d.setRun g run).bridges = d.bridges := by simp [Dev.setRun]

@[simp] theorem Dev.commitSys_bridges (d : Dev) (k : Master) (a : Nat) (v mv : Word) :
    (d.commitSys k a v mv).bridges = d.bridges := by
  unfold Dev.commitSys
  split
  · exact d.each_bridges (List.finRange 4) _ fun e g => by split <;> simp
  · simp [Dev.bridges_ite]

@[simp] theorem Dev.commitEvent_bridges (d : Dev) (a : Nat) (v mv : Word) :
    (d.commitEvent a v mv).bridges = d.bridges := by simp [Dev.commitEvent]

@[simp] theorem Dev.writeFlt_safe {d : Dev} (m : MotorIx) (v : Word) (h : AllSafe d.bridges) :
    AllSafe (d.writeFlt m v).bridges := by
  unfold Dev.writeFlt
  dsimp only
  (repeat' split) <;> simp [h]

@[simp] theorem Dev.writeHdem_bridges (d : Dev) (m : MotorIx) (v : Word) :
    (d.writeHdem m v).bridges = d.bridges := by simp [Dev.writeHdem]

@[simp] theorem Dev.writeHctl_bridges (d : Dev) (m : MotorIx) (v : Word) :
    (d.writeHctl m v).bridges = d.bridges := by simp [Dev.writeHctl]

@[simp] theorem Dev.writeLctrl_bridges (d : Dev) (m : MotorIx) (mv : Word) :
    (d.writeLctrl m mv).bridges = d.bridges := by simp [Dev.writeLctrl]

@[simp] theorem Dev.commitMot_safe {d : Dev} (a : Nat) (v mv : Word) (h : AllSafe d.bridges) :
    AllSafe (d.commitMot a v mv).bridges :=
  d.commitMot_cases a v mv (P := fun e => AllSafe e.bridges) (fun m => Dev.toIdle_safe m h) (fun m => Dev.drive_safe m h)
    (fun m => Dev.writeFlt_safe m v h) (fun _ => h) h (by simpa using h) (by simpa using h) (by simpa using h) (by simpa using h)

@[simp] theorem Dev.commitSup_bridges (d : Dev) (a : Nat) (v mv : Word) : (d.commitSup a v mv).bridges = d.bridges :=
  d.commitSup_cases a v mv (P := fun e => e.bridges = d.bridges) (by simp) (by simp) (by simp) rfl rfl

@[simp] theorem Dev.commitGlint_bridges (d : Dev) (a : Nat) (v mv : Word) :
    (d.commitGlint a v mv).bridges = d.bridges := by simp [Dev.commitGlint]

@[simp] theorem Dev.commitPrism_bridges (d : Dev) (a : Nat) (v mv : Word) :
    (d.commitPrism a v mv).bridges = d.bridges := by simp [Dev.commitPrism]

@[simp] theorem Dev.writeFbCmd_bridges (d : Dev) (f : ChanIx) (v : Word) :
    (d.writeFbCmd f v).bridges = d.bridges := by simp [Dev.writeFbCmd]

@[simp] theorem Dev.commitFb_bridges (d : Dev) (a : Nat) (v mv : Word) : (d.commitFb a v mv).bridges = d.bridges := by
  unfold Dev.commitFb
  dsimp only
  (repeat' split) <;> simp

@[simp] theorem Dev.commitTrace_bridges (d : Dev) (a : Nat) (v mv : Word) : (d.commitTrace a v mv).bridges = d.bridges := by
  unfold Dev.commitTrace
  dsimp only
  (repeat' split) <;> simp

@[simp] theorem Dev.commitMem_bridges (d : Dev) (a : Nat) (v mv : Word) :
    (d.commitMem a v mv).bridges = d.bridges := by simp [Dev.commitMem]

@[simp] theorem Dev.rqGo_bridges (d : Dev) (v : Word) : (d.rqGo v).bridges = d.bridges := by simp [Dev.rqGo]

@[simp] theorem Dev.commitTest_safe {d : Dev} (a : Nat) (v mv : Word) (h : AllSafe d.bridges) :
    AllSafe (d.commitTest a v mv).bridges := by
  unfold Dev.commitTest
  refine .branch (by simpa using h) (.branch h (.branch (.branch (Dev.bistEnd_safe 4 h) ?_) ?_)) <;> simp [Dev.bridges_ite, h]

@[simp] theorem Dev.commit_safe {d : Dev} (k : Master) (a : Nat) (v : Word) (h : AllSafe d.bridges) :
    AllSafe (d.commit k a v).bridges := by
  unfold Dev.commit
  split
  · exact h
  · dsimp only
    refine .branch h (.branch (h.same (d.commitSys_bridges k a v _)) (.branch (Dev.writeReq_safe _ h) ?_))
    refine .branch (h.same (d.commitEvent_bridges a v _)) ?_
    refine .branch (h.same (d.each_bridges _ _ fun e s => e.thermRequest_bridges s)) ?_
    refine .branch (Dev.commitMot_safe a v _ h) (.branch (h.same (d.commitSup_bridges a v _)) ?_)
    refine .branch (h.same (d.commitGlint_bridges a v _)) (.branch (h.same (d.commitPrism_bridges a v _)) ?_)
    refine .branch (h.same (d.commitFb_bridges a v _)) (.branch (h.same (d.commitTrace_bridges a v _)) ?_)
    refine .branch (h.same (d.commitMem_bridges a v _)) (.branch (h.same (d.rqGo_bridges v)) ?_)
    exact .branch (Dev.commitTest_safe a v _ h) h

@[simp] theorem Dev.fabWrite_safe {d : Dev} (k : Master) (a : Nat) (v : Word) (h : AllSafe d.bridges) :
    AllSafe (d.fabWrite k a v).bridges := by simp [Dev.fabWrite, h]

@[simp] theorem Dev.writeWord_safe {d : Dev} (k : Master) (a : Nat) (v : Word) (err : BitVec 28) (cut : Vector Bool 4)
    (h : AllSafe d.bridges) : AllSafe (d.writeWord k a v err cut).bridges := by
  unfold Dev.writeWord
  split
  · exact Dev.fabWrite_safe k a v h
  · split
    · exact Dev.fabWrite_safe k a _ h
    · simpa using Dev.fabWrite_safe k a _ h
    · exact Dev.fault_safe _ cut h

@[simp] theorem Dev.takeFab_safe {d : Dev} (k : Master) (a : Addr) (err : BitVec 28) (cut : Vector Bool 4)
    (h : AllSafe d.bridges) : AllSafe (d.takeFab k a err cut).1.bridges := by
  unfold Dev.takeFab
  split
  · exact h
  · split
    · exact h
    · simpa using h
    · exact Dev.fault_safe _ cut h

@[simp] theorem Dev.winDrop_bridges (d : Dev) (k : Master) : (d.winDrop k).bridges = d.bridges := by simp [Dev.winDrop]

@[simp] theorem Dev.winErr_bridges (d : Dev) (k : Master) (a : Addr) (err : BitVec 28) :
    (d.winErr k a err).bridges = d.bridges := by simp [Dev.winErr]

@[simp] theorem Dev.fetchWord_safe {d : Dev} (k : Master) (w : Addr) (fl : List Flip) (i : Nat) (cut : Vector Bool 4)
    (h : AllSafe d.bridges) : AllSafe (d.fetchWord k w fl i cut).1.bridges := by
  unfold Dev.fetchWord
  dsimp only
  (repeat' split) <;> simp [h]

@[simp] theorem Dev.readWord_safe {d : Dev} (k : Master) (a : Addr) (err : BitVec 28) (h : AllSafe d.bridges) :
    AllSafe (d.readWord k a err).bridges := by
  have hfetch := Dev.fetchWord_safe k a [⟨0, false, err⟩] 0 (cutAt k) h
  unfold Dev.readWord
  split
  · simpa using h
  · split
    next hx => exact (hfetch.of_fst hx :)
    next hx => simpa using hfetch.of_fst hx
    next hx => exact hfetch.of_fst hx

@[simp] theorem Dev.takeWaited_safe {d : Dev} (h : AllSafe d.bridges) : AllSafe d.takeWaited.bridges := by
  unfold Dev.takeWaited
  refine Dev.each_safe _ (fun e w he => ?_) h
  have hfab := Dev.takeFab_safe w.1 w.2.1 w.2.2 (cutAt w.1) he
  split
  next hx => exact (hfab.of_fst hx :)
  next hx => exact hfab.of_fst hx

/-! ### Pass 2 of the configuration load (R345 to R350) -/

@[simp] theorem Dev.loadWord_safe {d : Dev} (errs : List (Addr × BitVec 28)) (w : Nat × Word) (h : AllSafe d.bridges) :
    AllSafe (Dev.loadWord errs d w).bridges := by
  unfold Dev.loadWord
  (repeat' split) <;> simp [h]

@[simp] theorem Dev.loadSection_safe {d : Dev} (errs : List (Addr × BitVec 28)) (s : Section) (h : AllSafe d.bridges) :
    AllSafe (d.loadSection errs s).bridges := by
  unfold Dev.loadSection
  split
  · exact Dev.each_safe _ (fun _ w he => Dev.loadWord_safe errs w he) h
  · exact h

@[simp] theorem Dev.loaderFault_safe {d : Dev} (h : AllSafe d.bridges) :
    AllSafe d.loaderFault.bridges := by simp [Dev.loaderFault, h]

@[simp] theorem Dev.pass2Fails_safe {d : Dev} (n : Nat) (h : AllSafe d.bridges) : AllSafe (d.pass2Fails n).bridges :=
  Dev.loaderFault_safe h

/-- By the recursion as it stands: the definition's equation for a section to load is too large to be unfolded to. -/
@[simp] theorem Dev.loadSections_safe {d : Dev} (stop : Bool) (errs : List (Addr × BitVec 28)) (l : List Section)
    (h : AllSafe d.bridges) : AllSafe (Dev.loadSections stop errs l d).1.bridges := by
  delta Dev.loadSections
  induction l generalizing d with
  | nil => exact h
  | cons s t ih =>
    have hsec := Dev.loadSection_safe errs s h
    dsimp only [List.brecOn, List.brecOn.go, Dev.loadSections._f]
    split
    · exact hsec
    · split
      · exact Dev.pass2Fails_safe _ hsec
      · split
        · exact hsec
        · exact ih hsec

@[simp] theorem Dev.waitReached_safe {d : Dev} (ws : List Word) (errs : List (Addr × BitVec 28)) (h : AllSafe d.bridges) :
    AllSafe (d.waitReached ws errs).bridges := by
  have hload := Dev.loadSections_safe true errs (d.restSections ws) h
  unfold Dev.waitReached
  dsimp only
  split
  · split
    next hx => exact (hload.of_fst hx :)
    next hx => split <;> exact (hload.of_fst hx :)
  · exact h

@[simp] theorem Dev.waitOver_bridges (d : Dev) : d.waitOver.bridges = d.bridges := by
  unfold Dev.waitOver
  split <;> simp

@[simp] theorem Dev.applyDeferred_safe {d : Dev} (errs : List (Addr × BitVec 28)) (h : AllSafe d.bridges) :
    AllSafe (d.applyDeferred errs).bridges := by
  unfold Dev.applyDeferred
  refine Dev.each_safe _ (fun e w he => ?_) h
  split
  · exact he
  · exact Dev.writeWord_safe 5 _ _ _ noCut he

@[simp] theorem Dev.loadComplete_safe {d : Dev} (ws : List Word) (errs : List (Addr × BitVec 28)) (h : AllSafe d.bridges) :
    AllSafe (d.loadComplete ws errs).bridges := by simp [Dev.loadComplete, h]

@[simp] theorem Dev.pass2_safe {d : Dev} (ws : List Word) (errs errs2 : List (Addr × BitVec 28)) (h : AllSafe d.bridges) :
    AllSafe (d.pass2 ws errs errs2).bridges := by
  have hload := Dev.loadSections_safe false errs (d.restSections ws) h
  unfold Dev.pass2
  dsimp only
  split
  · split
    next hx => exact (hload.of_fst hx :)
    next hx =>
      have he := hload.of_fst hx
      split
      · split
        · exact Dev.loadComplete_safe ws errs2 he
        · exact Dev.pass2Fails_safe 0 he
      · exact Dev.loadComplete_safe ws errs2 he
  · exact h

@[simp] theorem Dev.multiMaster_safe {d : Dev} (h : AllSafe d.bridges) : AllSafe d.multiMaster.bridges := by
  unfold Dev.multiMaster
  dsimp only
  (repeat' split) <;> simp [h]

/-! ### The Mirror pair (chapter 17) -/

@[simp] theorem Dev.settle_bridges (d : Dev) : d.settle.bridges = d.bridges := by
  unfold Dev.settle
  split <;> simp

@[simp] theorem Dev.mirrorSend_bridges (d : Dev) : d.mirrorSend.bridges = d.bridges := by simp [Dev.mirrorSend]

@[simp] theorem Dev.partnerCause_bridges (d : Dev) (bit n : Nat) :
    (d.partnerCause bit n).bridges = d.bridges := by simp [Dev.partnerCause]

@[simp] theorem Dev.linkCause_bridges (d : Dev) (bit : Nat) : (d.linkCause bit).bridges = d.bridges := by simp [Dev.linkCause]

@[simp] theorem Dev.frameBad_bridges (d : Dev) (codeOk alignOk : Bool) :
    (d.frameBad codeOk alignOk).bridges = d.bridges := by simp [Dev.frameBad]

@[simp] theorem Dev.judgeSeq_bridges (d : Dev) (seq : Byte) : (d.judgeSeq seq).bridges = d.bridges := by
  unfold Dev.judgeSeq
  split <;> simp

@[simp] theorem Dev.setPres_bridges (d : Dev) (on : Bool) : (d.setPres on).bridges = d.bridges := by simp [Dev.setPres]

@[simp] theorem Dev.takeBlock_bridges (d : Dev) (l : List Byte) : (d.takeBlock l).bridges = d.bridges := by simp [Dev.takeBlock]

@[simp] theorem Dev.takeRequest_safe {d : Dev} (l : List Byte) (fl : List Flip) (h : AllSafe d.bridges) :
    AllSafe (d.takeRequest l fl).bridges := by
  unfold Dev.takeRequest
  dsimp only
  split
  · simpa using h
  · rw [Dev.settle_bridges]
    split
    · exact Dev.writeWord_safe 4 _ _ _ noCut h
    · generalize hd : d.onMir _ = e
      have hfetch := Dev.fetchWord_safe 4 (byteAt l 66 ++ byteAt l 67 ++ byteAt l 68) fl 0 noCut (d := e) (by rw [← hd]; exact h)
      split
      next hx => exact (hfetch.of_fst hx :)
      next hx => simpa using hfetch.of_fst hx
      next hx => exact hfetch.of_fst hx

@[simp] theorem Dev.mirrorReceive_safe {d : Dev} (l : List Byte) (codeOk alignOk : Bool) (fl : List Flip)
    (h : AllSafe d.bridges) : AllSafe (d.mirrorReceive l codeOk alignOk fl).bridges := by
  unfold Dev.mirrorReceive
  split <;> simp [h]

@[simp] theorem Dev.linkFalls_bridges (d : Dev) : d.linkFalls.bridges = d.bridges := by
  unfold Dev.linkFalls
  split <;> simp

@[simp] theorem Dev.rqTimeout_bridges (d : Dev) : d.rqTimeout.bridges = d.bridges := by simp [Dev.rqTimeout]

@[simp] theorem Dev.rrExpiry_bridges (d : Dev) : d.rrExpiry.bridges = d.bridges := by
  unfold Dev.rrExpiry
  dsimp only
  split
  · rw [Dev.each_bridges _ _ _ fun e g => by
      split
      · split <;> simp
      · simp]
    simp
  · rfl

/-! ### Transactions of the host ports (chapter 15) -/

@[simp] theorem Dev.hostClose_bridges (d : Dev) (k : HostIx) : (d.hostClose k).bridges = d.bridges := by simp [Dev.hostClose]

@[simp] theorem Dev.hostStop_bridges (d : Dev) (k : HostIx) : (d.hostStop k).bridges = d.bridges := by simp [Dev.hostStop]

@[simp] theorem Dev.hostCommit_safe {d : Dev} (k : HostIx) (w : HeldWord) (h : AllSafe d.bridges) :
    AllSafe (d.hostCommit k w).bridges := by
  have hw := Dev.writeWord_safe (hostMaster k) w.addr.toNat w.v w.err (cutOf k) h
  unfold Dev.hostCommit
  dsimp only
  split
  · simpa using hw
  · exact hw

@[simp] theorem Dev.commitHeld_safe {d : Dev} (k : HostIx) (h : AllSafe d.bridges) : AllSafe (d.commitHeld k).bridges := by
  unfold Dev.commitHeld
  split
  · exact h
  · exact Dev.hostCommit_safe k _ h

@[simp] theorem Dev.hostStart_safe {d : Dev} (k : HostIx) (h : AllSafe d.bridges) : AllSafe (d.hostStart k).bridges := by
  refine Dev.when_safe _ (fun e he => Dev.each_safe _ (fun _ _ he => Dev.commitHeld_safe k he) he) ?_
  simpa using h

@[simp] theorem Dev.hostBegin_bridges (d : Dev) (k : HostIx) (cmde : Bool) :
    (d.hostBegin k cmde).bridges = d.bridges := by simp [Dev.hostBegin]

@[simp] theorem Dev.hostNotReady_bridges (d : Dev) (k : HostIx) :
    (d.hostNotReady k).bridges = d.bridges := by simp [Dev.hostNotReady]

@[simp] theorem Dev.hostUndr_bridges (d : Dev) (k : HostIx) : (d.hostUndr k).bridges = d.bridges := by simp [Dev.hostUndr]

@[simp] theorem Dev.hostLate_bridges (d : Dev) (k : HostIx) : (d.hostLate k).bridges = d.bridges := by simp [Dev.hostLate]

@[simp] theorem Dev.takeAhead_safe {d : Dev} (k : HostIx) (a : Addr) (v : Word) (err : BitVec 28) (h : AllSafe d.bridges) :
    AllSafe (d.takeAhead k a v err).1.bridges := by
  unfold Dev.takeAhead
  dsimp only
  have hfab := Dev.takeFab_safe (d := d.putFab (hostMaster k) v) (hostMaster k) a err (cutOf k) h
  split
  next hx => exact (hfab.of_fst hx :)
  next hx => exact (hfab.of_fst hx :)

@[simp] theorem Dev.aheadWord_safe {d : Dev} (k : HostIx) (a : Addr) (fl : List Flip) (i : Nat) (h : AllSafe d.bridges) :
    AllSafe (d.aheadWord k a fl i).1.bridges := by
  unfold Dev.aheadWord
  dsimp only
  (repeat' split) <;> simp [h]

@[simp] theorem Dev.hostBreak_safe {d : Dev} (k : HostIx) (finds : List DfFind) (h : AllSafe d.bridges) :
    AllSafe (d.hostBreak k finds).bridges := by simp [Dev.hostBreak, h]

@[simp] theorem Dev.hostCut_bridges (d : Dev) (k : HostIx) (n : Nat) :
    (d.hostCut k n).bridges = d.bridges := by simp [Dev.hostCut]

@[simp] theorem Dev.fetchAhead_safe {d : Dev} (k : HostIx) (a : BitVec 6) (fl : List Flip) (n i : Nat) (h : AllSafe d.bridges) :
    AllSafe (Dev.fetchAhead k a fl n i d).bridges := by
  induction n generalizing d i with
  | zero => exact h
  | succ n ih =>
    have hahead := Dev.aheadWord_safe k (d.hostAddr k a i) fl i h
    unfold Dev.fetchAhead
    split
    next hx => exact ih (i + 1) (hahead.of_fst hx :)
    next hx => exact (hahead.of_fst hx :)
    next hx => simpa using hahead.of_fst hx

@[simp] theorem Dev.hostAwait_bridges (d : Dev) (k : HostIx) (a : BitVec 6) (x : HostArgs) (i n : Nat) :
    (d.hostAwait k a x i n).bridges = d.bridges := by simp [Dev.hostAwait]

@[simp] theorem Dev.hostPartial_safe {d : Dev} (k : HostIx) (a : BitVec 6) (x : HostArgs) (i : Nat) (h : AllSafe d.bridges) :
    AllSafe (d.hostPartial k a x i).bridges := by
  have hahead (fl : List Flip) := Dev.aheadWord_safe k (d.hostAddr k a i) fl i h
  unfold Dev.hostPartial
  dsimp only
  split
  · simpa using hahead []
  · split
    next hx => exact Dev.fetchAhead_safe k a x.flips 2 (i + 1) ((hahead x.flips).of_fst hx :)
    next hx => simpa using (hahead x.flips).of_fst hx
    · simpa using h

@[simp] theorem Dev.hostWords_safe {d : Dev} (k : HostIx) (a : BitVec 6) (x : HostArgs) (n i : Nat) (h : AllSafe d.bridges) :
    AllSafe (Dev.hostWords k a x n i d).bridges := by
  induction n generalizing d i with
  | zero =>
    unfold Dev.hostWords
    split
    · simpa using Dev.hostBreak_safe k _ h
    · split
      · exact Dev.hostPartial_safe k a x i h
      · exact Dev.fetchAhead_safe k a x.flips 2 i h
  | succ n ih =>
    have hfetch := Dev.fetchWord_safe (hostMaster k) (d.hostAddr k a i) x.flips i (cutOf k) h
    unfold Dev.hostWords
    split
    · simpa using Dev.hostBreak_safe k _ h
    · split
      · exact ih (i + 1) (by simpa using Dev.aheadWord_safe k (d.hostAddr k a i) [] i h)
      · split
        next hx => exact ih (i + 1) (by simpa using hfetch.of_fst hx)
        next hx => simpa using hfetch.of_fst hx
        next hx => simpa using hfetch.of_fst hx

@[simp] theorem Dev.readData_safe {d : Dev} (k : HostIx) (a : BitVec 6) (x : HostArgs) (h : AllSafe d.bridges) :
    AllSafe (d.readData k a x).bridges := by
  unfold Dev.readData
  dsimp only
  split
  · have hfetch := Dev.fetchAhead_safe k a x.flips 2 0 h
    split
    · simpa using hfetch
    · exact hfetch
  · exact Dev.hostWords_safe k a x x.n 0 h

@[simp] theorem Dev.hostArrive_safe {d : Dev} (k : HostIx) (fault : Option (Nat × List DfFind)) (i : Nat) (l : List HeldWord)
    (h : AllSafe d.bridges) : AllSafe (Dev.hostArrive k fault i l d).bridges := by
  induction l generalizing d i with
  | nil =>
    unfold Dev.hostArrive
    split
    · simpa using Dev.hostBreak_safe k _ h
    · exact h
  | cons w t ih =>
    unfold Dev.hostArrive
    split
    · simpa using Dev.hostBreak_safe k _ h
    · split
      · exact Dev.hostCommit_safe k w h
      · exact ih (i + 1) (Dev.hostCommit_safe k w h)

@[simp] theorem Dev.hostDcrce_bridges (d : Dev) (k : HostIx) : (d.hostDcrce k).bridges = d.bridges := by simp [Dev.hostDcrce]

@[simp] theorem Dev.hostProtected_safe {d : Dev} (k : HostIx) (cmd : Byte) (ws : List Word) (c2 : Byte)
    (fault : Option (Nat × List DfFind)) {f : Dev → Dev} (hf : ∀ e : Dev, AllSafe e.bridges → AllSafe (f e).bridges)
    (h : AllSafe d.bridges) : AllSafe (d.hostProtected k cmd ws c2 fault f).bridges := by
  unfold Dev.hostProtected
  split
  · simpa using Dev.hostBreak_safe k _ h
  · split
    · exact h
    · split
      · simpa using h
      · split
        · exact hf d h
        · simpa using h

@[simp] theorem Dev.writeData_safe {d : Dev} (k : HostIx) (cmd : Byte) (a : BitVec 6) (x : HostArgs) (h : AllSafe d.bridges) :
    AllSafe (d.writeData k cmd a x).bridges := by
  unfold Dev.writeData
  dsimp only
  split
  · exact Dev.hostArrive_safe k x.fault 0 _ h
  · split
    · exact h
    · exact Dev.hostProtected_safe k cmd x.ws x.c2 x.fault (fun _ he => Dev.commitHeld_safe k he) h

@[simp] theorem Dev.setPage_bridges (d : Dev) (k : HostIx) (a : BitVec 6) (w : Word) :
    (d.setPage k a w).bridges = d.bridges := by simp [Dev.setPage]

@[simp] theorem Dev.pageData_safe {d : Dev} (k : HostIx) (cmd : Byte) (a : BitVec 6) (x : HostArgs) (h : AllSafe d.bridges) :
    AllSafe (d.pageData k cmd a x).bridges := by
  unfold Dev.pageData
  split
  · exact h
  · split
    · split
      · exact h
      · exact Dev.hostProtected_safe k cmd x.ws x.c2 x.fault (fun _ he => by simpa using he) h
    · split
      · simpa using Dev.hostBreak_safe k _ h
      · split
        · simpa using Dev.hostBreak_safe (d := d.setPage k a _) k _ (by simpa using h)
        · simpa using h

@[simp] theorem Dev.hostData_safe {d : Dev} (k : HostIx) (cmd : Byte) (bad : Bool) (x : HostArgs) (h : AllSafe d.bridges) :
    AllSafe (d.hostData k cmd bad x).bridges := by
  unfold Dev.hostData
  split <;> simp [h]

@[simp] theorem Dev.hostClock_bridges (d : Dev) (k : HostIx) : (d.hostClock k).bridges = d.bridges := by
  unfold Dev.hostClock
  split <;> simp

@[simp] theorem Dev.hostOpen_safe {d : Dev} (k : HostIx) (cmd : Byte) (wrong : Bool) (rise : HostRise) (x : HostArgs)
    (h : AllSafe d.bridges) : AllSafe (d.hostOpen k cmd wrong rise x).bridges := by
  unfold Dev.hostOpen
  dsimp only
  (repeat' split) <;> simp [h]

@[simp] theorem Dev.hostResume_safe {d : Dev} (k : HostIx) (h : AllSafe d.bridges) : AllSafe (d.hostResume k).bridges := by
  unfold Dev.hostResume
  dsimp only
  split
  · split
    · exact h
    · generalize hd : Dev.when _ _ _ = e
      have hagain : AllSafe e.bridges := by
        rw [← hd]
        simpa using h
      split
      next hx =>
        have he := (Dev.takeFab_safe _ _ _ _ hagain).of_fst hx
        simpa using he
      next hx =>
        have he := (Dev.takeFab_safe _ _ _ _ hagain).of_fst hx
        split
        · rw [Dev.hostFinish_bridges]
          exact Dev.fetchAhead_safe _ _ _ _ _ he
        · rw [Dev.hostFinish_bridges]
          exact Dev.hostWords_safe _ _ _ _ _ (by simpa using he)
  · split
    · exact Dev.hostData_safe k _ _ _ (by simpa using h)
    · exact h
  · exact h

@[simp] theorem Dev.hostsResume_safe {d : Dev} (h : AllSafe d.bridges) : AllSafe d.hostsResume.bridges :=
  Dev.each_safe _ (fun _ k he => Dev.hostResume_safe k he) h

@[simp] theorem Dev.winReturned_safe {d : Dev} (h : AllSafe d.bridges) :
    AllSafe d.winReturned.bridges := by simp [Dev.winReturned, h]

@[simp] theorem Dev.hostCmd_safe {d : Dev} (k : HostIx) (cmd c1 : Byte) (rise : HostRise) (x : HostArgs) (h : AllSafe d.bridges) :
    AllSafe (d.hostCmd k cmd c1 rise x).bridges := by simp [Dev.hostCmd, h]

@[simp] theorem Dev.hostRead_safe {d : Dev} (k : HostIx) (a : BitVec 6) (n : Nat) (late : List Nat) (fl : List Flip) (c1 : Byte)
    (rise : HostRise) (fault : Option (Nat × List DfFind)) (h : AllSafe d.bridges) :
    AllSafe (d.hostRead k a n late fl c1 rise fault).bridges := by
  simp [Dev.hostRead, h]

@[simp] theorem Dev.hostWrite_safe {d : Dev} (k : HostIx) (a : BitVec 6) (ws : List Word) (fl : List Flip) (c1 c2 : Byte)
    (rise : HostRise) (fault : Option (Nat × List DfFind)) (h : AllSafe d.bridges) :
    AllSafe (d.hostWrite k a ws fl c1 c2 rise fault).bridges := by
  simp [Dev.hostWrite, h]

@[simp] theorem Dev.hostPage_safe {d : Dev} (k : HostIx) (a : BitVec 6) (w : Word) (more : List Word) (c1 c2 : Byte)
    (rise : HostRise) (fault : Option (Nat × List DfFind)) (h : AllSafe d.bridges) :
    AllSafe (d.hostPage k a w more c1 c2 rise fault).bridges := by
  simp [Dev.hostPage, h]

@[simp] theorem Dev.hostGetpage_safe {d : Dev} (k : HostIx) (c1 : Byte) (rise : HostRise) (h : AllSafe d.bridges) :
    AllSafe (d.hostGetpage k c1 rise).bridges := by simp [Dev.hostGetpage, h]

@[simp] theorem Dev.hostLanes_safe {d : Dev} (k : HostIx) (h : AllSafe d.bridges) :
    AllSafe (d.hostLanes k).bridges := by simp [Dev.hostLanes, h]

@[simp] theorem Dev.hostSpecial_safe {d : Dev} (k : HostIx) (a : BitVec 6) (c1 : Byte) (rise : HostRise) (more : Nat)
    (h : AllSafe d.bridges) : AllSafe (d.hostSpecial k a c1 rise more).bridges := by
  unfold Dev.hostSpecial
  split <;> simp [h]

@[simp] theorem Dev.hostFraming_safe {d : Dev} (k : HostIx) (p : FramePoint) (c1Wrong : Bool) (h : AllSafe d.bridges) :
    AllSafe (d.hostFraming k p c1Wrong).bridges := by
  unfold Dev.hostFraming
  split
  · exact h
  · split
    · simpa using Dev.hostStart_safe k h
    · exact Dev.hostOpen_safe k _ _ _ _ h
    · split
      · exact Dev.hostOpen_safe k _ _ _ _ h
      · exact h
    · exact Dev.hostOpen_safe k _ _ _ _ h
    · exact Dev.hostOpen_safe k _ _ _ _ h
    · exact Dev.hostOpen_safe k _ _ _ _ h
    · split
      · exact Dev.hostOpen_safe k _ _ _ _ h
      · exact h

/-! ### Boundary scan (R480, R481) -/

@[simp] theorem Dev.loadScan_safe {d : Dev} (code : BitVec 4) (pins preload : List (ScanBall × Bool)) (h : AllSafe d.bridges) :
    AllSafe (d.loadScan code pins preload).bridges := by
  unfold Dev.loadScan
  (repeat' split) <;> simp [h]

/-! ### Ends of times, the mailbox, and the cycle with no command -/

@[simp] theorem Dev.stabilityOver_bridges (d : Dev) (m : MotorIx) :
    (d.stabilityOver m).bridges = d.bridges := by simp [Dev.stabilityOver]

@[simp] theorem Dev.reccntOver_bridges (d : Dev) (m : MotorIx) : (d.reccntOver m).bridges = d.bridges := by simp [Dev.reccntOver]

@[simp] theorem Dev.hostTimeout_bridges (d : Dev) (m : MotorIx) :
    (d.hostTimeout m).bridges = d.bridges := by simp [Dev.hostTimeout]

@[simp] theorem Dev.absPeriod_bridges (d : Dev) (f : ChanIx) : (d.absPeriod f).bridges = d.bridges := by simp [Dev.absPeriod]

@[simp] theorem Dev.mailboxTake_bridges (d : Dev) : d.mailboxTake.bridges = d.bridges := by
  unfold Dev.mailboxTake
  split
  · rfl
  · dsimp only
    split <;> simp

@[simp] theorem Dev.mailboxOld_bridges (d : Dev) : d.mailboxOld.bridges = d.bridges := by simp [Dev.mailboxOld]

@[simp] theorem Dev.idleCycle_safe {d : Dev} (h : AllSafe d.bridges) : AllSafe d.idleCycle.bridges :=
  Dev.each_safe _ (fun _ k he => Dev.commitHeld_safe k he) (Dev.nextCycle_safe h)

end Sys2Proof.Machine
end

section
/-! A step keeps every half-bridge safe: the ways in which commands act on the state, every command, and the cycle with no
command. -/

namespace Sys2Proof.Machine

open Sys2Proof

/-- Where an outcome is a next state, its half-bridges are safe. -/
def OutcomeSafe (o : Host.Outcome State Fault Refusal) : Prop := ∀ t, o = .next t → AllSafe t.dev.bridges

theorem OutcomeSafe.next {t : State} (h : AllSafe t.dev.bridges) : OutcomeSafe (.next t) := by
  rintro _ ⟨rfl⟩
  exact h

section
variable {s : State}

theorem State.write_safe (k : Master) (a : Nat) (v : Word) (hs : AllSafe s.dev.bridges) : OutcomeSafe (s.write k a v) :=
  .next (Dev.fabWrite_safe k a v hs)

theorem State.onUmbra_safe (f : Umbra → Umbra) (hs : AllSafe s.dev.bridges) : OutcomeSafe (s.onUmbra f) :=
  .next (.branch hs hs)

theorem State.withdrawn_bridges (s : State) : s.withdrawn.dev.bridges = s.dev.bridges := by
  rw [s.withdrawn_eq]

end

/-- A command of the metrology island. -/
theorem exec_island_safe {c : Instr} {s : State} (hc : forUmbra c = true) (hs : AllSafe s.dev.bridges) :
    OutcomeSafe (exec c s) := by
  by_cases hl : ∃ torn set, c = .umbraSupplyLoss torn set
  · obtain ⟨torn, set, rfl⟩ := hl
    obtain ⟨he, -⟩ | ⟨he, -⟩ := exec_loss s torn set
    · rw [he]
      exact State.onUmbra_safe _ hs
    · rw [he]
      exact State.onUmbra_safe _ (hs.same s.withdrawn_bridges)
  · obtain ⟨f, hf⟩ := exec_island c s hc fun torn set h => hl ⟨torn, set, h⟩
    rw [hf]
    exact State.onUmbra_safe f hs

/-- A command of the module: a write, an event of a ck_core cycle, or an event outside it. -/
theorem exec_module_safe {c : Instr} {s : State} (hc : forUmbra c = false) (hs : AllSafe s.dev.bridges) :
    OutcomeSafe (exec c s) := by
  cases c
  case configDone | configReload | motorEnable | motorDisable | fltClear | hdemWrite | hrel | kissrefHiWrite | glintCheckOff
      | glintDacReadback | glintSwap | glintTieLow | glintTieHigh | chopperTestPulse | sequencerRun | sequencerStop |
      urgentRequest | trackerRestart | positionSeed | absCheckRequest | leaveFallback | distOutEnable | hostFedWrite |
      traceChannelEnable | traceChannelDisable | traceChannelConfig | traceMark | traceStoreEmpty | queueRunStart |
      queueAbort | rawSelect | doorbellRing | partnerRequest | pendClear | thermalReadRequest | powerRequestWrite |
      lcManufacture | lcField | lcService | lcReturn | keyProgram | bistStart | repair | grpstart | grpRunSet | grpRunClear =>
    exact State.write_safe _ _ _ hs
  case resetAssert | resetRelease | fuseReadComplete | logMirrorLoadComplete | returnEraseComplete | discoveryComplete |
      pass1Complete | pass2Complete | pllCoreLockLoss | deviceFaultHoldEnd | scrubRead | correctionWriteback | frameStart |
      applyDeadline | kissSearchTimeout | carrierStart | commutation | sampleTick | zcWindowClose | align1End | align2End |
      rampTimeout | stabilityWindowEnd | backoffEnd | coastEnd | catchTimeout | reccntReset | brakeEnd | cmdEdge |
      cmdLostTimeout | hostDemandTimeout | deadTimeEnd | blankingEnd | desatDetect | bootstrapUvAssert | bootstrapUvRelease
      | gateSupplyUvAssert | gateSupplyUvRelease | gateReportDelivery | gateSupplyLoss | gateDieReady | currentLimitLatch |
      leadingEdgeBlankingEnd | hardShortLatch | busComparatorLatch | chopperFeedbackTimeout | chopperTestPulseEnd |
      conversionSlot | sampleEntry | accumulatorClose | syncTick | idleEntryEnd | sliceWake | coefficientUpdate |
      pllPrismLockLoss | pllPrismLockReturn | feedbackEdge | glitch | speedDecay | zeroSpeedTimeout | absCheckPeriod |
      absTransferComplete | distPulseEnd | distGapEnd | traceTick | traceRecordCommit | traceStoreRead | mailboxUpdate |
      mailboxStale | couplingSessionOpen | couplingSessionClose | pendingCouplingApply | queueEntryComplete | windowRead |
      flashMasterStart | read | write | page | nop | getpage | lanereset | hostFramingFault | mirrorFrameSend |
      mirrorFrameReceive | linkDown | partnerRequestTimeout | rerateHoldExpiry | oneSecondTick | rearmPulseEnd |
      thermalReadingPeriod | thermalShutdownAssert | thermalShutdownRelease | domainReady | fuseProgramComplete |
      challengeDraw | challengeLapse | tapReset | extest | samplePreload | idcode | lowWordLatchRead | readClear | w1cWrite
      | registerWrite | pwmEdge | phaseComparatorLatch | gateSupplyReturn | feedbackCopyWhileStopped =>
    exact .next (by simp [hs])
  case pllCoreLock => exact .next (Dev.hostsResume_safe (by simpa using hs))
  case loaderWaitEnd words reached errs => exact .next (.branch (Dev.waitReached_safe words errs hs) (by simpa using hs))
  case pllCoreLockReturn cut => exact .next (Dev.hostsResume_safe (Dev.coreBack_safe cut hs))
  case deviceFault finds cut fails =>
    exact .next (.branch (.branch hs (Dev.fault_safe finds cut (by simpa using hs))) hs)
  case grantPoint g => exact .next (.branch (.branch (Dev.grantOnce_safe g hs) hs) hs)
  case loopComputation m => exact .next (.branch (.branch (Dev.drive_safe m (by simpa using hs)) hs) hs)
  case lineFillComplete bytes => exact .next (.branch (Dev.winReturned_safe (by simpa using hs)) hs)
  case windowTimeout => exact .next (.branch (Dev.winReturned_safe (by simpa using hs)) hs)
  case multiMasterFault => exact .next (.branch (Dev.winReturned_safe (Dev.multiMaster_safe hs)) hs)
  case domainSwitchOn n => exact .next (.branch (Dev.domStart_safe n hs) hs)
  case bistAbort k v fails =>
    exact .next (Dev.fabWrite_safe k _ _ (Dev.when_safe _ (fun _ he => by simpa using he) hs))
  case bistComplete fails ended => exact .next (.branch (.branch (Dev.bistDone_safe fails hs) (by simpa using hs)) hs)
  case bypass code => exact .next (.branch (Dev.loadScan_safe code [] [] hs) hs)
  all_goals exact Bool.noConfusion hc

theorem exec_safe (c : Instr) {s : State} (hs : AllSafe s.dev.bridges) : OutcomeSafe (exec c s) :=
  match hc : forUmbra c with
  | true => exec_island_safe hc hs
  | false => exec_module_safe hc hs

theorem State.tick_safe {s : State} (hs : AllSafe s.dev.bridges) : AllSafe s.tick.dev.bridges := by
  unfold State.tick
  split
  · simp [hs]
  · exact hs

/-- A step is a cycle with no command, or the front of the queue. -/
theorem step_safe {s : State} (hs : AllSafe s.dev.bridges) : OutcomeSafe (step s) := by
  unfold step
  split
  · exact .next (State.tick_safe hs)
  · exact exec_safe _ hs

/-- Settles O7: a half-bridge's switch turns on only where the command selects it, a new command turns the other one off at
once, and no other operation touches a switch or a command. -/
theorem halfBridgesSafe : Obligations.HalfBridgesSafe := fun s t hs ht =>
  t.dev.bridgesSafe_iff.mpr (step_safe (s.dev.bridgesSafe_iff.mp hs) t ht)

end Sys2Proof.Machine
end

section
/-! What setting BRKg, sampling its feedback, and declaring a chopper fault change, and what they leave (R191 to R194). -/

namespace Sys2Proof.Machine

open Sys2Proof

variable (d : Dev) (g : GroupIx)

theorem Dev.SameWords.mono {d e : Dev} {l l' : List Nat} (h : d.SameWords e l) (hl : l ⊆ l') : d.SameWords e l' :=
  fun a ha => h a (fun hm => ha (hl hm))

/-! ### BRKg (R191) -/

/-- The level that CHOPEN, the ladder and the test pulse give BRKg (R191). -/
def Dev.brkOn (d : Dev) (g : GroupIx) : Bool := d.chopEn g && (decide (0 < d.level g) || (d.grp g).test.isSome)

/-- BRKg takes a level, and a change of it begins its time. -/
def Dev.showBrk (d : Dev) (g : GroupIx) (on : Bool) : Dev :=
  if on = d.brk g then d else (d.putB (aSup g 7) 2 on).onGrp g (fun x => { x with brkAt := d.cycles })

theorem Dev.showBrk_brk (on : Bool) : (d.showBrk g on).brk g = on := by
  unfold Dev.showBrk
  split
  case isTrue h => exact h.symm
  case isFalse => exact d.bit_putB_self _ 2 on (by decide)

theorem Dev.showBrk_test (on : Bool) : ((d.showBrk g on).grp g).test = (d.grp g).test := by
  unfold Dev.showBrk
  split
  · rfl
  · rw [Dev.onGrp_grp, Dev.putB_grp]

theorem Dev.showBrk_motors (on : Bool) : (d.showBrk g on).motors = d.motors := by
  unfold Dev.showBrk
  split <;> rfl

theorem Dev.sameWords_showBrk (on : Bool) : d.SameWords (d.showBrk g on) [aSup g 7] := by
  unfold Dev.showBrk
  split
  · exact fun _ _ => rfl
  · exact d.sameWords_put _ (by simp)

/-- The episodes that a level of BRKg breaks end, and with CHOPEN at 0 every episode (R193). -/
def Dev.breakEpisodes (d : Dev) (g : GroupIx) (on : Bool) : Dev :=
  d.onGrp g (fun x => { x with epNf := x.epNf && d.chopEn g && on, epStk := x.epStk && d.chopEn g && !on })

/-- While ck_core runs, BRKg takes its level, and the episodes that it breaks end. -/
theorem Dev.setBrk_of_runs {d : Dev} {g : GroupIx} (hr : d.runs = true) :
    d.setBrk g = (d.showBrk g (d.brkOn g)).breakEpisodes g (d.brkOn g) := by
  unfold Dev.setBrk
  rw [Dev.stands_of_runs hr]
  rfl

/-- What setting BRKg shows and leaves while ck_core runs. -/
theorem Dev.setBrk_spec {d : Dev} {g : GroupIx} (hr : d.runs = true) :
    (d.setBrk g).brk g = d.brkOn g ∧ ((d.setBrk g).grp g).test = (d.grp g).test ∧
    (d.setBrk g).motors = d.motors ∧ d.SameWords (d.setBrk g) [aSup g 7] := by
  rw [Dev.setBrk_of_runs hr, Dev.breakEpisodes, Dev.onGrp_grp]
  exact ⟨d.showBrk_brk g _, d.showBrk_test g _, d.showBrk_motors g _, d.sameWords_showBrk g _⟩

/-! ### The test pulse (R194) -/

/-- While a test pulse runs, a fitted chopper is on. -/
theorem Dev.brkOn_of_test {d : Dev} {g : GroupIx} (hen : d.chopEn g = true) (ht : (d.grp g).test.isSome = true) :
    d.brkOn g = true := by
  rw [Dev.brkOn, hen, ht, Bool.or_true, Bool.and_true]

/-- With no test pulse the ladder alone gives BRKg its level. -/
theorem Dev.brkOn_of_no_test {d : Dev} {g : GroupIx} (ht : (d.grp g).test = none) :
    d.brkOn g = (d.chopEn g && decide (0 < d.level g)) := by
  rw [Dev.brkOn, ht, Option.isSome_none, Bool.or_false]

/-- The end of the test pulse of the group is set. -/
def Dev.withTest (d : Dev) (g : GroupIx) (t : Option Nat) : Dev := d.onGrp g (fun x => { x with test := t })

theorem Dev.withTest_test (t : Option Nat) : ((d.withTest g t).grp g).test = t := by
  rw [Dev.withTest, Dev.onGrp_grp]

/-- A write of GO at level 0, with the chopper fitted and no pulse in progress, starts a pulse. -/
theorem Dev.testPulse_of_go {d : Dev} {g : GroupIx} {v : Word} (hgo : bitOf v 15 = true) (hl : d.level g = 0)
    (ht : (d.grp g).test = none) (hen : d.chopEn g = true) :
    d.testPulse g v = (d.withTest g (some (d.cycles + 200 * max 1 (bits v 7 0)))).setBrk g := by
  unfold Dev.testPulse
  rw [hgo, hl, ht, hen]
  rfl

theorem Dev.testPulse_of_level {d : Dev} {g : GroupIx} (v : Word) (hl : d.level g ≠ 0) : d.testPulse g v = d := by
  unfold Dev.testPulse
  rw [decide_eq_false hl, Bool.and_false]
  rfl

theorem Dev.testPulseOver_of_due {d : Dev} {g : GroupIx} {t : Nat} (hr : d.runs = true) (ht : (d.grp g).test = some t)
    (hdue : t ≤ d.cycles) : d.testPulseOver g = (d.withTest g none).setBrk g := by
  unfold Dev.testPulseOver
  rw [ht]
  dsimp only
  rw [hr, decide_eq_true hdue]
  rfl

/-! ### Chopper faults (R193) -/

theorem Dev.chopFault_motors (bit : Nat) : (d.chopFault g bit).motors = d.motors := by
  rw [Dev.chopFault, Dev.inc_motors, Dev.cause, Dev.raise_motors, Dev.orW_motors]

theorem Dev.chopFault_grp (bit : Nat) (h : GroupIx) : (d.chopFault g bit).grp h = d.grp h := by
  rw [Dev.chopFault, Dev.inc_grp, Dev.cause, Dev.raise_grp, Dev.orW_grp]

theorem Dev.cause_w_ne {a b : Nat} (m : Word) (i : Nat) (h : b ≠ a) : (d.cause a m i).w b = d.w b := by
  rw [Dev.cause, Dev.raise_w]
  exact d.w_put_ne _ h

theorem Dev.sameWords_chopFault (bit : Nat) : d.SameWords (d.chopFault g bit) [aSup g 9, aSup g 0xC] := by
  intro a ha
  obtain ⟨hcause, hcount⟩ : a ≠ aSup g 9 ∧ a ≠ aSup g 0xC := by simpa using ha
  exact (Dev.addSat_w_ne _ _ _ _ hcount).trans (d.cause_w_ne _ _ hcause)

/-- A chopper fault sets its cause. -/
theorem Dev.chopFault_bit {bit : Nat} (h : bit < 16) : (d.chopFault g bit).bit (aSup g 9) bit = true := by
  rw [Dev.chopFault, Dev.bit_inc_ne _ _ (by unfold aSup; omega), Dev.bit_cause]
  simp [h]

/-- A chopper fault counts in CHOPCNT. -/
theorem Dev.chopFault_cnt (bit : Nat) :
    (d.chopFault g bit).fld (aSup g 0xC) 15 0 = min 65535 (d.fld (aSup g 0xC) 15 0 + 1) := by
  rw [Dev.chopFault, Dev.inc, Dev.fld_addSat_self _ _ _ (by decide) (by decide),
    Dev.fld_congr (d.cause_w_ne _ _ (by unfold aSup; omega)), min_comm]
  rfl

/-! ### The sampled feedback (R192, R193) -/

/-- STAT.FB takes the sampled level, and a change of it begins its time. -/
def Dev.sampleFb (d : Dev) (g : GroupIx) (fb : Bool) : Dev :=
  if fb = d.bit (aSup g 7) 3 then d else (d.putB (aSup g 7) 3 fb).onGrp g (fun x => { x with fbAt := d.cycles })

/-- The episodes that the levels of BRKg and its feedback break end. -/
def Dev.endEpisodes (d : Dev) (g : GroupIx) (fb : Bool) : Dev :=
  d.onGrp g (fun x => { x with epNf := x.epNf && d.brk g && fb, epStk := x.epStk && !d.brk g && !fb })

/-- BRKg and its feedback have stood for 400 ticks. -/
def Dev.chopLong (d : Dev) (g : GroupIx) : Bool := decide (max (d.grp g).brkAt (d.grp g).fbAt + 400 ≤ d.cycles)

/-- A declared fault opens its episode: CHOPNF with high feedback, CHOPSTK with low. -/
def Group.declare (fb : Bool) (x : Group) : Group := if fb then { x with epNf := true } else { x with epStk := true }

/-- The fault of a level of the feedback is declared: CHOPNF for high, CHOPSTK for low. -/
def Dev.declareFb (d : Dev) (g : GroupIx) (fb : Bool) : Dev :=
  (d.onGrp g (Group.declare fb)).chopFault g (if fb then 0 else 2)

/-- A level of the feedback that agrees with BRKg declares its fault, once in an episode. -/
def Dev.judgeFb (d : Dev) (g : GroupIx) (fb : Bool) : Dev :=
  if d.brk g && fb && !(d.grp g).epNf then d.declareFb g true
  else if !d.brk g && !fb && !(d.grp g).epStk then d.declareFb g false
  else d

theorem Dev.judgeFb_of_agreement {d : Dev} {g : GroupIx} {fb : Bool} (hbrk : d.brk g = fb)
    (hnf : (d.grp g).epNf = false) (hstk : (d.grp g).epStk = false) : d.judgeFb g fb = d.declareFb g fb := by
  unfold Dev.judgeFb
  rw [hbrk, hnf, hstk]
  cases fb <;> rfl

/-- A sample of the feedback while the chopper is not fitted, or before 400 ticks have passed, declares nothing. -/
theorem Dev.chopTimeout_of_quiet {d : Dev} {g : GroupIx} {fb : Bool} (hr : d.runs = true)
    (hq : (!(d.sampleFb g fb).chopEn g || !(d.sampleFb g fb).chopLong g) = true) :
    d.chopTimeout g fb = (d.sampleFb g fb).endEpisodes g fb :=
  (if_pos hr).trans (if_pos hq)

/-- A sample of the feedback of a fitted chopper once 400 ticks have passed is judged. -/
theorem Dev.chopTimeout_of_long {d : Dev} {g : GroupIx} {fb : Bool} (hr : d.runs = true)
    (hgo : ¬ (!(d.sampleFb g fb).chopEn g || !(d.sampleFb g fb).chopLong g) = true) :
    d.chopTimeout g fb = ((d.sampleFb g fb).endEpisodes g fb).judgeFb g fb :=
  (if_pos hr).trans (if_neg hgo)

/-- A changed feedback begins its time anew. -/
theorem Dev.chopTimeout_of_change {d : Dev} {g : GroupIx} {fb : Bool} (hr : d.runs = true)
    (hfb : d.bit (aSup g 7) 3 ≠ fb) : d.chopTimeout g fb =
      ((d.putB (aSup g 7) 3 fb).onGrp g (fun x => { x with fbAt := d.cycles })).endEpisodes g fb := by
  have hs : d.sampleFb g fb = (d.putB (aSup g 7) 3 fb).onGrp g (fun x => { x with fbAt := d.cycles }) :=
    if_neg (Ne.symm hfb)
  have hshort : (d.sampleFb g fb).chopLong g = false := by
    rw [hs, Dev.chopLong, Dev.onGrp_grp, Dev.onGrp_cycles, Dev.putB_cycles]
    exact decide_eq_false (by dsimp only; omega)
  rw [Dev.chopTimeout_of_quiet hr (by rw [hshort]; exact Bool.or_true _), hs]

/-- Feedback that agrees with BRKg for 400 ticks, with neither episode declared, declares the fault of its level. -/
theorem Dev.chopTimeout_of_agreement {d : Dev} {g : GroupIx} {fb : Bool} (hr : d.runs = true) (hen : d.chopEn g = true)
    (hfb : d.bit (aSup g 7) 3 = fb) (hlong : d.chopLong g = true) (hbrk : d.brk g = fb)
    (hnf : (d.grp g).epNf = false) (hstk : (d.grp g).epStk = false) :
    d.chopTimeout g fb = (d.endEpisodes g fb).declareFb g fb := by
  have hs : d.sampleFb g fb = d := if_pos hfb.symm
  have hgo : ¬ (!d.chopEn g || !d.chopLong g) = true := by rw [hen, hlong]; decide
  have hnf' : ((d.endEpisodes g fb).grp g).epNf = false := by rw [Dev.endEpisodes, Dev.onGrp_grp, hnf]; rfl
  have hstk' : ((d.endEpisodes g fb).grp g).epStk = false := by rw [Dev.endEpisodes, Dev.onGrp_grp, hstk]; rfl
  rw [Dev.chopTimeout_of_long hr (by rw [hs]; exact hgo), hs]
  exact Dev.judgeFb_of_agreement (d := d.endEpisodes g fb) hbrk hnf' hstk'

/-- What declaring a fault shows and leaves. -/
theorem Dev.declareFb_spec (fb : Bool) : (d.declareFb g fb).bit (aSup g 9) (if fb then 0 else 2) = true ∧
    (d.declareFb g fb).fld (aSup g 0xC) 15 0 = min 65535 (d.fld (aSup g 0xC) 15 0 + 1) ∧
    (d.declareFb g fb).motors = d.motors ∧ d.SameWords (d.declareFb g fb) [aSup g 9, aSup g 0xC] :=
  ⟨Dev.chopFault_bit _ g (by cases fb <;> decide), Dev.chopFault_cnt _ g _, Dev.chopFault_motors _ g _,
    Dev.sameWords_chopFault _ g _⟩

/-- The episode of a declared fault is open, and the other one ended with the levels of the sample. -/
theorem Dev.declareFb_episodes (fb : Bool) (hnf : (d.grp g).epNf = false) (hstk : (d.grp g).epStk = false) :
    (((d.endEpisodes g fb).declareFb g fb).grp g).epNf = fb ∧
    (((d.endEpisodes g fb).declareFb g fb).grp g).epStk = !fb := by
  rw [Dev.declareFb, Dev.chopFault_grp, Dev.onGrp_grp, Dev.endEpisodes, Dev.onGrp_grp, hnf, hstk]
  cases fb <;> exact ⟨rfl, rfl⟩

end Sys2Proof.Machine
end

section
/-! The statement on the chopper (R191 to R194). -/

namespace Sys2Proof.Machine

open Sys2Proof

/-! ### The commands -/

theorem exec_chopperFeedbackTimeout {s : State} (hr : s.dev.runs = true) (g : GroupIx) (fb : Bool) :
    exec (.chopperFeedbackTimeout g fb) s = .next { s with dev := s.dev.chopTimeout g fb } :=
  s.onCore_runs (fun d => d.chopTimeout g fb) hr

theorem Dev.runs_of_writeOk {d : Dev} {k : Master} {a : Nat} (h : d.writeOk k a = true) : d.runs = true := by
  simp only [Dev.writeOk, Bool.and_eq_true] at h
  obtain ⟨⟨⟨⟨hr, -⟩, -⟩, -⟩, -⟩ := h
  exact hr

theorem exec_chopperTestPulse {s : State} {k : Master} {g : GroupIx} (hg : s.dev.hasGrp g = true)
    (hw : s.dev.writeOk k (aSup g 0xD) = true) (v : Word) :
    exec (.chopperTestPulse k g v) s = .next { s with dev := s.dev.testPulse g (withBit v 15 true) } :=
  State.write_eq (s.dev.fabWrite_supTest k _ g hw hg)

theorem exec_chopperTestPulseEnd {s : State} (hr : s.dev.runs = true) (g : GroupIx) :
    exec (.chopperTestPulseEnd g) s = .next { s with dev := s.dev.testPulseOver g } :=
  s.onCore_runs (fun d => d.testPulseOver g) hr

/-! ### What each command does -/

section

variable (s : State) (g : GroupIx)

/-- A changed feedback (R192, R193). -/
theorem exec_chopperFeedbackTimeout_of_change (fb : Bool) (hr : s.dev.runs = true) (hfb : s.dev.bit (aSup g 7) 3 ≠ fb) :
    ∃ d, exec (.chopperFeedbackTimeout g fb) s = .next { s with dev := d } ∧ d.bit (aSup g 7) 3 = fb ∧
      (d.grp g).fbAt = s.dev.cycles ∧ d.motors = s.dev.motors ∧ s.dev.SameWords d [aSup g 7] := by
  refine ⟨_, exec_chopperFeedbackTimeout hr g fb, ?_⟩
  rw [Dev.chopTimeout_of_change hr hfb, Dev.endEpisodes, Dev.onGrp_bit, Dev.onGrp_bit, Dev.bit_putB_self _ _ _ _ (by decide),
    Dev.onGrp_motors, Dev.onGrp_motors, Dev.putB_motors, Dev.onGrp_grp, Dev.onGrp_grp]
  have hput : s.dev.SameWords (s.dev.putB (aSup g 7) 3 fb) [aSup g 7] := s.dev.sameWords_put _ (by simp)
  exact ⟨rfl, rfl, rfl, hput.trans (Dev.sameWords_of_words ((Dev.onGrp_words _ g _).trans (Dev.onGrp_words _ g _)) _)⟩

/-- Feedback that agrees with BRKg (R193). -/
theorem exec_chopperFeedbackTimeout_of_agreement (fb : Bool) (hr : s.dev.runs = true) (hen : s.dev.chopEn g = true)
    (hfb : s.dev.bit (aSup g 7) 3 = fb) (hlong : max (s.dev.grp g).brkAt (s.dev.grp g).fbAt + 400 ≤ s.dev.cycles)
    (hbrk : s.dev.brk g = fb) (hnf : (s.dev.grp g).epNf = false) (hstk : (s.dev.grp g).epStk = false) :
    ∃ d, exec (.chopperFeedbackTimeout g fb) s = .next { s with dev := d } ∧ d.bit (aSup g 7) 3 = fb ∧
      d.bit (aSup g 9) (if fb then 0 else 2) = true ∧
      d.fld (aSup g 0xC) 15 0 = min 65535 (s.dev.fld (aSup g 0xC) 15 0 + 1) ∧ (d.grp g).epNf = fb ∧
      (d.grp g).epStk = !fb ∧ d.motors = s.dev.motors ∧ s.dev.SameWords d [aSup g 7, aSup g 9, aSup g 0xC] := by
  refine ⟨_, exec_chopperFeedbackTimeout hr g fb, ?_⟩
  rw [Dev.chopTimeout_of_agreement hr hen hfb (decide_eq_true hlong) hbrk hnf hstk]
  obtain ⟨hopen, hended⟩ := s.dev.declareFb_episodes g fb hnf hstk
  obtain ⟨hcause, hcnt, hmotors, hsame⟩ := (s.dev.endEpisodes g fb).declareFb_spec g fb
  have hstat : ((s.dev.endEpisodes g fb).declareFb g fb).w (aSup g 7) = s.dev.w (aSup g 7) := hsame _ (by simp [aSup])
  exact ⟨(Dev.bit_congr hstat 3).trans hfb, hcause, hcnt, hopen, hended, hmotors, hsame.mono (by simp)⟩

/-- A write of GO at level 0 (R194). -/
theorem exec_chopperTestPulse_of_level_zero (k : Master) (v : Word) (hg : s.dev.hasGrp g = true)
    (hw : s.dev.writeOk k (aSup g 0xD) = true) (hen : s.dev.chopEn g = true) (hl : s.dev.level g = 0)
    (ht : (s.dev.grp g).test = none) :
    ∃ d, exec (.chopperTestPulse k g v) s = .next { s with dev := d } ∧ d.brk g = true ∧
      (d.grp g).test = some (s.dev.cycles + 200 * max 1 (bits v 7 0)) ∧ d.motors = s.dev.motors ∧
      s.dev.SameWords d [aSup g 7] := by
  refine ⟨_, exec_chopperTestPulse hg hw v, ?_⟩
  have hgo : bitOf (withBit v 15 true) 15 = true := bitOf_withBit v 15 15 true (by decide) (by decide)
  have htw : bits (withBit v 15 true) 7 0 = bits v 7 0 :=
    bits_withBits_ne v 15 15 _ 7 0 (by decide) (by decide) (by decide) (by decide)
  rw [Dev.testPulse_of_go hgo hl ht hen, htw]
  generalize s.dev.cycles + 200 * max 1 (bits v 7 0) = t
  have htest := s.dev.withTest_test g (some t)
  obtain ⟨hbrk, htest', hmotors, hsame⟩ := Dev.setBrk_spec (d := s.dev.withTest g (some t)) (g := g) (Dev.runs_of_writeOk hw)
  exact ⟨hbrk.trans (Dev.brkOn_of_test hen (by rw [htest]; rfl)), htest'.trans htest, hmotors, hsame⟩

/-- The end of a test pulse (R194). -/
theorem exec_chopperTestPulseEnd_of_due (t : Nat) (hr : s.dev.runs = true) (ht : (s.dev.grp g).test = some t)
    (hdue : t ≤ s.dev.cycles) :
    ∃ d, exec (.chopperTestPulseEnd g) s = .next { s with dev := d } ∧ (d.grp g).test = none ∧
      d.brk g = (s.dev.chopEn g && decide (0 < s.dev.level g)) ∧ d.motors = s.dev.motors ∧
      s.dev.SameWords d [aSup g 7] := by
  refine ⟨_, exec_chopperTestPulseEnd hr g, ?_⟩
  rw [Dev.testPulseOver_of_due hr ht hdue]
  have htest := s.dev.withTest_test g none
  obtain ⟨hbrk, htest', hmotors, hsame⟩ := Dev.setBrk_spec (d := s.dev.withTest g none) (g := g) hr
  exact ⟨htest'.trans htest, hbrk.trans (Dev.brkOn_of_no_test htest), hmotors, hsame⟩

end

/-! ### The statement -/

/-- Settles O37: a sample of the feedback by whether it changed; a test pulse and its end by the level that CHOPEN, the ladder
and the pulse give BRKg. -/
theorem chopper : Obligations.Chopper := by
  intro s g
  refine ⟨exec_chopperFeedbackTimeout_of_change s g, exec_chopperFeedbackTimeout_of_agreement s g,
    fun k v hg hw hen => ⟨?_, fun hl => ?_⟩, exec_chopperTestPulseEnd_of_due s g⟩
  · exact exec_chopperTestPulse_of_level_zero s g k v hg hw hen
  · rw [exec_chopperTestPulse hg hw, Dev.testPulse_of_level _ hl]

end Sys2Proof.Machine
end

section
/-! A current comparator in sampled operation whose powered interval has begun since it last took its output (R197, R201,
R207). -/

namespace Sys2Proof.Machine

open Sys2Proof

variable (d : Dev) (m : MotorIx)

/-! ### The outputs as they stand (R207) -/

/-- What holds with OUT.CL as it stands, and what a change of OUT.PH keeps, holds once OUT takes the outputs as they stand. -/
theorem Dev.settleOut_inv {P : Dev → Prop} (h : P (d.putB (aCur m 5) 0 (d.curHigh m)))
    (hph : ∀ (e : Dev) (ph : Fin 3) (out : Bool), P e → P (e.putB (aCur m 5) (2 + ph.1) out)) : P (d.settleOut m) := by
  unfold Dev.settleOut
  exact Dev.each_inv _ _ h fun e ph he => hph e ph _ he

theorem Dev.settleOut_ecode : (d.settleOut m).ecode m = d.ecode m :=
  d.settleOut_inv m (P := fun e => e.ecode m = d.ecode m) rfl fun _ _ _ he => he

theorem Dev.settleOut_w_ne {a : Nat} (ha : a ≠ aCur m 5) : (d.settleOut m).w a = d.w a :=
  d.settleOut_inv m (P := fun e => e.w a = d.w a) (d.w_put_ne _ ha) fun e _ _ he => (e.w_put_ne _ ha).trans he

/-- OUT.CL shows the output of the current comparator as it stands. -/
theorem Dev.settleOut_bit_current : (d.settleOut m).bit (aCur m 5) 0 = d.curHigh m := by
  refine d.settleOut_inv m (P := fun e => e.bit (aCur m 5) 0 = d.curHigh m) (d.bit_putB_self _ _ _ (by decide)) ?_
  intro e ph out he
  rw [Dev.bit_putB _ _ _ _ _ _ (by omega) (by decide), if_neg (by omega)]
  exact he

/-- An output that was taken before the present powered interval is low as the interval begins (R207). -/
theorem Dev.curHigh_of_stale {d : Dev} {m : MotorIx} (h : (d.mot m).clAt < d.currentFrom m) : d.curHigh m = false := by
  rw [Dev.curHigh, decide_eq_false (Nat.not_le.2 h), Bool.and_false]

/-! ### The current comparator (R197, R201) -/

/-- A low output stays low up to the threshold (R197). -/
theorem comparator_low_of_le {thr hyst x : Int} (h : x ≤ thr) : comparator false thr hyst x = false := by
  rw [comparator, if_neg (not_lt.2 h), ite_self]

/-- A current comparator whose output stands low, and whose input does not exceed the threshold, sets no latch. -/
theorem Dev.currentLimit_latch_of_low {d : Dev} {m : MotorIx} {x : Int} (hlow : d.curHigh m = false)
    (hx : x ≤ 1000 * d.ecode m) : (d.currentLimit m x).w (aCur m 4) = d.w (aCur m 4) := by
  have hlat : aCur m 4 ≠ aCur m 5 := by unfold aCur; omega
  have hout : (d.settleOut m).currentOut m x = false := by
    rw [Dev.currentOut, Dev.settleOut_bit_current, hlow, Dev.settleOut_ecode]
    exact comparator_low_of_le hx
  unfold Dev.currentLimit
  dsimp only
  split
  · split
    · rw [Dev.judgeLimit_of_low _ _ ((Dev.onMot_bit _ _ _ _ _).trans ((Dev.bit_putB_self _ _ _ _ (by decide)).trans hout)),
        Dev.onMot_w]
      exact (Dev.w_put_ne _ _ hlat).trans (d.settleOut_w_ne m hlat)
    · exact d.settleOut_w_ne m hlat
  · rfl

theorem exec_currentLimitLatch {s : State} (hr : s.dev.runs = true) (m : MotorIx) (x : Int) :
    exec (.currentLimitLatch m x) s = .next { s with dev := s.dev.currentLimit m x } :=
  s.onCore_runs (fun d => d.currentLimit m x) hr

/-! ### The statement -/

/-- Motor 0 in RUN, in an on-time past its blanking, with its current comparator in sampled operation (CSAMP) at the base
code 400 of CTHR: the output was last taken in the on-time before, and was high then. -/
def State.limitAfterPowerUp : State :=
  { dev := (((({ resetN := true, locked := true, cycles := 20800, inForce := [(aCur 0 0, 0xB), (aCur 0 1, 400)] } : Dev).onMot 0
      (fun x => { x with state := .run, clAt := 12000, compOn := some 20050, lebDone := true,
                         car := { start := 20000, onEnd := 4000 } })).onDie 0
      (fun x => { x with rdy := true })).put 0x801 0x40).put (aCur 0 5) 1 }

/-- Refutes O36: an output of sampled operation is low as its powered interval begins (R207), so a shunt voltage inside the
hysteresis, two codes under the threshold of code 400, leaves it low and sets no latch; the statement takes the output of
before the interval, which is high, and has the latch set. -/
theorem not_comparators : ¬ Obligations.Comparators := by
  intro h
  have hruns : State.limitAfterPowerUp.dev.runs = true := by decide +kernel
  have hfree : State.limitAfterPowerUp.dev.bit (aCur 0 4) 0 = false := by decide +kernel
  obtain ⟨hmotors, -⟩ := h State.limitAfterPowerUp
  obtain ⟨hhigh, -⟩ := hmotors 0 hruns (by decide +kernel)
  obtain ⟨d, hexec, hset, -⟩ := hhigh (by decide +kernel) (by decide +kernel) (by decide +kernel) (by decide +kernel) hfree
    (by decide +kernel) (by decide +kernel) 398000 (by decide +kernel)
  rw [exec_currentLimitLatch hruns] at hexec
  obtain rfl : State.limitAfterPowerUp.dev.currentLimit 0 398000 = d := congrArg State.dev (Host.Outcome.next.inj hexec)
  have hlow : State.limitAfterPowerUp.dev.curHigh 0 = false := Dev.curHigh_of_stale (by decide +kernel)
  rw [Dev.bit_congr (Dev.currentLimit_latch_of_low hlow (by decide +kernel)), hfree] at hset
  exact Bool.noConfusion hset

end Sys2Proof.Machine
end

section
/-! Slots of a converter array and its sequencer: what a slot samples, and what the steps after it leave (R212, R224 to
R234). -/

namespace Sys2Proof.Machine

open Sys2Proof

variable (d : Dev) (p : GroupIx)

/-! ### Changes of one array -/

/-- Two changes of one array are one. -/
theorem Dev.onPrm_onPrm (f g : Prism → Prism) : (d.onPrm p f).onPrm p g = d.onPrm p (fun x => g (f x)) := by
  unfold Dev.onPrm
  congr 1
  unfold upd
  rw [Vector.set_set]
  congr 2
  exact Vector.getElem_set_self p.2

/-- A change of an array is what it makes of the array as it stands. -/
theorem Dev.onPrm_congr {d : Dev} {p : GroupIx} {f g : Prism → Prism} (h : f (d.prm p) = g (d.prm p)) :
    d.onPrm p f = d.onPrm p g :=
  congrArg (fun x => ({ d with prisms := d.prisms.set p.1 x p.2 } : Dev)) h

theorem Dev.prm_of_prisms {d e : Dev} (h : e.prisms = d.prisms) (q : GroupIx) : e.prm q = d.prm q := by
  unfold Dev.prm
  rw [h]

/-- What a slot issues: the count of conversions, those in flight, and the urgent request in progress. -/
def Prism.issued (x : Prism) : Nat × List Conv × Option Urgent := (x.conv, x.flight, x.inUrg)

/-- What an array has issued, every register word and every motor stand as they stood. -/
structure Dev.SlotKept (p : GroupIx) (d e : Dev) : Prop where
  issued : (e.prm p).issued = (d.prm p).issued
  words : e.words = d.words
  motors : e.motors = d.motors

theorem Dev.SlotKept.refl : d.SlotKept p d := ⟨rfl, rfl, rfl⟩

theorem Dev.SlotKept.trans {p : GroupIx} {c d e : Dev} (h : c.SlotKept p d) (h' : d.SlotKept p e) : c.SlotKept p e :=
  ⟨h'.issued.trans h.issued, h'.words.trans h.words, h'.motors.trans h.motors⟩

theorem Dev.SlotKept.conv {p : GroupIx} {d e : Dev} (h : d.SlotKept p e) : (e.prm p).conv = (d.prm p).conv :=
  congrArg (·.1) h.issued

theorem Dev.SlotKept.flight {p : GroupIx} {d e : Dev} (h : d.SlotKept p e) : (e.prm p).flight = (d.prm p).flight :=
  congrArg (·.2.1) h.issued

theorem Dev.SlotKept.inUrg {p : GroupIx} {d e : Dev} (h : d.SlotKept p e) : (e.prm p).inUrg = (d.prm p).inUrg :=
  congrArg (·.2.2) h.issued

theorem Dev.slotKept_onPrm {p : GroupIx} {f : Prism → Prism} (h : ∀ x, (f x).issued = x.issued) : d.SlotKept p (d.onPrm p f) :=
  ⟨(congrArg Prism.issued (d.onPrm_prm p f)).trans (h _), rfl, rfl⟩

/-- The slices power down or stay (R230). -/
theorem Dev.powerDown_cases (ticks : Nat) :
    d.powerDown p ticks = d ∨ d.powerDown p ticks = d.onPrm p (fun x => { x with pwr := false }) := by
  unfold Dev.powerDown
  split
  · exact .inr rfl
  · exact .inl rfl

/-- Handing on a thermal request leaves the module, or gives the array a request of one sensor and wakes its slices (R453). -/
theorem Dev.thermFeed_cases : d.thermFeed p = d ∨ ∃ s f u,
    d.thermFeed p = (d.onSen s f).onPrm p (fun x => { x with therm := some u, pwr := true }) := by
  unfold Dev.thermFeed
  refine iteInduction (motive := fun e => e = d ∨ ∃ s f u, e = (d.onSen s f).onPrm p (fun x => { x with therm := some u, pwr := true }))
    (fun _ => .inl rfl) (fun _ => ?_)
  split
  · exact .inl rfl
  · exact .inr ⟨_, _, _, rfl⟩

theorem Dev.slotKept_powerDown (ticks : Nat) : d.SlotKept p (d.powerDown p ticks) := by
  obtain h | h := d.powerDown_cases p ticks <;> rw [h]
  · exact .refl d p
  · exact d.slotKept_onPrm fun _ => rfl

theorem Dev.powerDown_phase (ticks : Nat) : ((d.powerDown p ticks).prm p).phase = (d.prm p).phase := by
  obtain h | h := d.powerDown_cases p ticks <;> rw [h]
  rw [Dev.onPrm_prm]

theorem Dev.slotKept_thermFeed : d.SlotKept p (d.thermFeed p) := by
  obtain h | ⟨s, f, u, h⟩ := d.thermFeed_cases p <;> rw [h]
  · exact .refl d p
  · exact (show d.SlotKept p (d.onSen s f) from ⟨rfl, rfl, rfl⟩).trans (Dev.slotKept_onPrm _ fun _ => rfl)

theorem Dev.thermFeed_word : ((d.thermFeed p).prm p).word = (d.prm p).word := by
  obtain h | ⟨s, f, u, h⟩ := d.thermFeed_cases p <;> rw [h]
  rw [Dev.onPrm_prm]
  rfl

/-! ### The end of an entry (R225, R228) -/

theorem Dev.nextEntry_of_stop {d : Dev} {p : GroupIx} (h : (d.prm p).stopReq = true) :
    d.nextEntry p = d.onPrm p (fun x => { x with phase := .stopped, stopReq := false, left := 0 }) := by
  unfold Dev.nextEntry
  rw [if_pos h]

/-- The next entry is the END of a frame-locked sequence, or none is left in it. -/
def Dev.endsHere (d : Dev) (p : GroupIx) : Bool :=
  d.frameLocked p && (decide (128 ≤ (d.prm p).pos + 1) || d.fld (aPrm p (0x100 + ((d.prm p).pos + 1))) 1 0 = 3)

theorem Dev.nextEntry_of_next {d : Dev} {p : GroupIx} (h : (d.prm p).stopReq = false) (hend : d.endsHere p = false) :
    d.nextEntry p = d.onPrm p (fun x => { x with phase := .entry, pos := x.pos + 1, left := 0 }) := by
  unfold Dev.nextEntry
  rw [if_neg (by rw [h]; decide)]
  exact (if_neg (Bool.eq_false_iff.1 hend)).trans (Dev.onPrm_congr rfl)

theorem Dev.nextEntry_of_end {d : Dev} {p : GroupIx} (h : (d.prm p).stopReq = false) (hend : d.endsHere p = true) :
    ((d.nextEntry p).prm p).phase = .waitFrame ∧ d.SlotKept p (d.nextEntry p) := by
  unfold Dev.nextEntry
  unfold Dev.endsHere at hend
  rw [if_neg (by rw [h]; decide), if_pos hend]
  refine ⟨(Dev.powerDown_phase _ p _).trans (by rw [Dev.onPrm_prm]), .trans ?_ (Dev.slotKept_powerDown _ p _)⟩
  exact d.slotKept_onPrm fun _ => rfl

theorem Dev.slotKept_nextEntry : d.SlotKept p (d.nextEntry p) := by
  cases hstop : (d.prm p).stopReq
  case true => rw [Dev.nextEntry_of_stop hstop]; exact d.slotKept_onPrm fun _ => rfl
  case false =>
    cases hend : d.endsHere p
    case true => exact (Dev.nextEntry_of_end hstop hend).2
    case false => rw [Dev.nextEntry_of_next hstop hend]; exact d.slotKept_onPrm fun _ => rfl

/-! ### A slot (R212, R233) -/

/-- A conversion of the channel is in flight to the accumulator, from one of the four slices, and counted. -/
def Prism.Sampled (x y : Prism) (ch acc : Nat) : Prop :=
  ∃ sl, sl < 4 ∧ y.flight = x.flight ++ [{ slice := sl, ch := ch, acc := acc }] ∧ y.conv = x.conv + 1

/-- Issuing a conversion puts it in flight and leaves the entry and the urgent request in progress. -/
theorem Dev.issue_spec (ch acc : Nat) (seqEntry : Bool) (samples : Nat) :
    (d.prm p).Sampled ((d.issue p ch acc seqEntry samples).prm p) ch acc ∧
    ((d.issue p ch acc seqEntry samples).prm p).inUrg = (d.prm p).inUrg ∧
    ((d.issue p ch acc seqEntry samples).prm p).word = (d.prm p).word := by
  rw [Dev.issue, Dev.onPrm_prm]
  refine ⟨⟨_, ?_, rfl, rfl⟩, rfl, rfl⟩
  split <;> omega

/-- The first sample of a CAL entry turns to the other reference (R219). -/
def Dev.beginCal (d : Dev) (p : GroupIx) : Dev :=
  if bits (d.prm p).word 15 10 = 63 && (d.prm p).left = 2 ^ bits (d.prm p).word 3 2 then
    d.onPrm p (fun x => { x with calHigh := !x.calHigh })
  else d

theorem Dev.slotKept_beginCal : d.SlotKept p (d.beginCal p) := by
  unfold Dev.beginCal
  split
  · exact d.slotKept_onPrm fun _ => rfl
  · exact .refl d p

theorem Dev.beginCal_word : ((d.beginCal p).prm p).word = (d.prm p).word := by
  unfold Dev.beginCal
  split
  · rw [Dev.onPrm_prm]
  · rfl

/-- The entry in progress samples its channel, and with its last sample it is over. -/
def Dev.issueEntry (d : Dev) (p : GroupIx) : Dev :=
  let x := d.prm p
  let d := (d.beginCal p).issue p (bits x.word 15 10) (bits x.word 9 4) true (2 ^ bits x.word 3 2)
  let d := d.onPrm p (fun x => { x with left := x.left - 1 })
  if x.left = 1 then d.nextEntry p else d

/-- What the entry in progress samples: its channel for its accumulator. -/
theorem Dev.issueEntry_spec :
    (d.prm p).Sampled ((d.issueEntry p).prm p) (bits (d.prm p).word 15 10) (bits (d.prm p).word 9 4) ∧
    (d.issueEntry p).words = d.words ∧ (d.issueEntry p).motors = d.motors ∧
    ((d.prm p).left ≠ 1 → ((d.issueEntry p).prm p).word = (d.prm p).word) := by
  obtain ⟨⟨sl, hsl, hf, hn⟩, -, hw⟩ := (d.beginCal p).issue_spec p (bits (d.prm p).word 15 10) (bits (d.prm p).word 9 4) true
    (2 ^ bits (d.prm p).word 3 2)
  have hcal := d.slotKept_beginCal p
  rw [hcal.flight] at hf
  rw [hcal.conv] at hn
  unfold Dev.issueEntry
  dsimp only
  generalize he : (d.beginCal p).issue p _ _ _ _ = e at hf hn hw
  have hissue : e.words = d.words ∧ e.motors = d.motors := by rw [← he]; exact ⟨hcal.words, hcal.motors⟩
  have hleft : e.SlotKept p (e.onPrm p (fun x => { x with left := x.left - 1 })) := e.slotKept_onPrm fun _ => rfl
  have hend : e.SlotKept p (if (d.prm p).left = 1 then (e.onPrm p (fun x => { x with left := x.left - 1 })).nextEntry p
      else e.onPrm p (fun x => { x with left := x.left - 1 })) := by
    split
    · exact hleft.trans (Dev.slotKept_nextEntry _ p)
    · exact hleft
  refine ⟨⟨sl, hsl, hend.flight.trans hf, hend.conv.trans hn⟩, hend.words.trans hissue.1, hend.motors.trans hissue.2,
    fun h1 => ?_⟩
  rw [if_neg h1, Dev.onPrm_prm]
  exact hw.trans (d.beginCal_word p)

section

variable {d : Dev} {p : GroupIx} (hr : d.prmReady p = true) (hp : (d.prm p).pwr = true) (hu : (d.prm p).inUrg = none)
include hr hp hu

/-- A slot with no urgent request: the entry that it has reached samples. -/
theorem Dev.slot_of_entry (hn : (d.prm p).nextUrgent = none) {e : Dev}
    (he : (if (d.prm p).phase = .entry && (d.prm p).left = 0 then Dev.reach 2 d p (d.prm p).pos else d) = e)
    (hph : (e.prm p).phase = .entry) (hl : 0 < (e.prm p).left) : d.slot p = e.issueEntry p := by
  unfold Dev.slot
  rw [if_neg (by rw [hr, hp]; decide), hu, hn]
  dsimp only
  rw [hu]
  dsimp only
  rw [he, if_pos (by simp [hph, hl])]
  rfl

/-- A slot with an urgent request that waits: the request samples, and it is over with its last sample. -/
theorem Dev.slot_of_urgent {u : Urgent} {y : Prism} (hn : (d.prm p).nextUrgent = some (u, y)) :
    d.slot p = ((d.onPrm p (fun _ => { y with inUrg := some u })).issue p u.ch u.acc false 1).onPrm p
      (fun x => { x with inUrg := if u.left ≤ 1 then none else some { u with left := u.left - 1 } }) := by
  unfold Dev.slot
  rw [if_neg (by rw [hr, hp]; decide), hu, hn]
  dsimp only
  rw [Dev.onPrm_prm]

end

/-- Taking the next urgent request leaves what the array has issued. -/
theorem Prism.nextUrgent_keeps {x y : Prism} {u : Urgent} (h : x.nextUrgent = some (u, y)) :
    y.flight = x.flight ∧ y.conv = x.conv := by
  unfold Prism.nextUrgent at h
  split at h <;> cases h <;> exact ⟨rfl, rfl⟩

/-- An array with an urgent request that waits has one. -/
theorem Prism.hasUrgent_of_next {x : Prism} (h : x.nextUrgent.isSome = true) : x.hasUrgent = true := by
  unfold Prism.nextUrgent at h
  unfold Prism.hasUrgent
  split at h <;> simp_all

/-- What a slot with no urgent request samples, in the state that it has reached its entry in. -/
theorem Dev.slot_samples {d e : Dev} {p : GroupIx} (hs : d.slot p = e.issueEntry p)
    (hflight : (e.prm p).flight = (d.prm p).flight) (hconv : (e.prm p).conv = (d.prm p).conv) (hwords : e.words = d.words)
    (hmotors : e.motors = d.motors) :
    (d.prm p).Sampled (((d.slot p).thermFeed p).prm p) (bits (e.prm p).word 15 10) (bits (e.prm p).word 9 4) ∧
    ((d.slot p).thermFeed p).words = d.words ∧ ((d.slot p).thermFeed p).motors = d.motors ∧
    ((e.prm p).left ≠ 1 → (((d.slot p).thermFeed p).prm p).word = (e.prm p).word) := by
  rw [hs]
  obtain ⟨⟨sl, hsl, hf, hc⟩, hw, hm, hword⟩ := e.issueEntry_spec p
  have hfeed := (e.issueEntry p).slotKept_thermFeed p
  exact ⟨⟨sl, hsl, hfeed.flight.trans (hf.trans (by rw [hflight])), hfeed.conv.trans (hc.trans (by rw [hconv]))⟩,
    hfeed.words.trans (hw.trans hwords), hfeed.motors.trans (hm.trans hmotors),
    fun h => ((e.issueEntry p).thermFeed_word p).trans (hword h)⟩

end Sys2Proof.Machine
end

section
/-! The statement on the sequencer (R224 to R234). -/

namespace Sys2Proof.Machine

open Sys2Proof

variable (s : State) (p : GroupIx)

/-! ### SYNC, IDLE and the wake of the slices (R226, R230, R231) -/

/-- The outcome of an event whether or not ck_core runs. -/
theorem State.onDev_eq {s : State} {f : Dev → Dev} {d : Dev} (h : f s.dev = d) : s.onDev f = .next { s with dev := d } := h ▸ rfl

theorem Dev.resetN_of_runs {d : Dev} (h : d.runs = true) : d.resetN = true := (Bool.and_eq_true_iff.1 h).1

/-- The end of an IDLE entry whose time has passed. -/
theorem Dev.idleOver_of_due {d : Dev} {p : GroupIx} {t : Nat} (hr : d.runs = true) (hph : (d.prm p).phase = .idle t)
    (ht : t ≤ d.cycles) : d.idleOver p = (d.onPrm p (fun x => { x with pwr := true })).nextEntry p := by
  unfold Dev.idleOver
  rw [hph]
  dsimp only
  rw [if_pos (by simp [Dev.resetN_of_runs hr, ht])]

theorem exec_syncTick_of_due (hr : s.dev.runs = true) (hph : (s.dev.prm p).phase = .waitSync)
    (ht : (s.dev.prm p).seqt.toNat ≤ s.dev.frameTick p) : exec (.syncTick p) s = .next { s with
      dev := s.dev.onPrm p (fun x => { x with phase := .entry, left := 2 ^ bits x.word 3 2, pwr := true }) } := by
  refine State.onCore_eq (f := fun d => d.syncCome p) hr ?_
  unfold Dev.syncCome
  rw [if_pos (by simp [hr, hph, ht])]

section

variable {s p} {t : Nat} (hr : s.dev.runs = true) (hph : (s.dev.prm p).phase = .idle t) (ht : t ≤ s.dev.cycles)
include hr hph ht

theorem exec_idleEntryEnd_of_due : exec (.idleEntryEnd p) s =
    .next { s with dev := (s.dev.onPrm p (fun x => { x with pwr := true })).nextEntry p } :=
  State.onDev_eq (f := fun d => d.idleOver p) (Dev.idleOver_of_due hr hph ht)

theorem exec_idleEntryEnd_of_stop (hstop : (s.dev.prm p).stopReq = true) : exec (.idleEntryEnd p) s = .next { s with
    dev := s.dev.onPrm p (fun x => { x with pwr := true, phase := .stopped, stopReq := false, left := 0 }) } := by
  rw [exec_idleEntryEnd_of_due hr hph ht, Dev.nextEntry_of_stop (by rw [Dev.onPrm_prm]; exact hstop), Dev.onPrm_onPrm]

theorem exec_idleEntryEnd_of_next (hstop : (s.dev.prm p).stopReq = false) (hend : s.dev.endsHere p = false) :
    exec (.idleEntryEnd p) s = .next { s with
      dev := s.dev.onPrm p (fun x => { x with pwr := true, phase := .entry, pos := x.pos + 1, left := 0 }) } := by
  have hpos : ((s.dev.onPrm p (fun x => { x with pwr := true })).prm p).pos = (s.dev.prm p).pos := by rw [Dev.onPrm_prm]
  have hends : (s.dev.onPrm p (fun x => { x with pwr := true })).endsHere p = false := by
    unfold Dev.endsHere
    rw [hpos]
    exact hend
  rw [exec_idleEntryEnd_of_due hr hph ht, Dev.nextEntry_of_next (by rw [Dev.onPrm_prm]; exact hstop) hends, Dev.onPrm_onPrm]

theorem exec_idleEntryEnd_of_end (hstop : (s.dev.prm p).stopReq = false) (hend : s.dev.endsHere p = true) :
    ∃ d, exec (.idleEntryEnd p) s = .next { s with dev := d } ∧ (d.prm p).phase = .waitFrame ∧
      (∀ a, d.w a = s.dev.w a) ∧ d.motors = s.dev.motors := by
  refine ⟨_, exec_idleEntryEnd_of_due hr hph ht, ?_⟩
  have hends : (s.dev.onPrm p (fun x => { x with pwr := true })).endsHere p = true := by
    unfold Dev.endsHere
    rw [show ((s.dev.onPrm p (fun x => { x with pwr := true })).prm p).pos = (s.dev.prm p).pos by rw [Dev.onPrm_prm]]
    exact hend
  obtain ⟨hphase, hkept⟩ := Dev.nextEntry_of_end (by rw [Dev.onPrm_prm]; exact hstop) hends
  exact ⟨hphase, fun a => Dev.w_of_words hkept.words a, hkept.motors⟩

end

theorem exec_sliceWake_of_urgent (hr : s.dev.runs = true) (hu : (s.dev.prm p).nextUrgent.isSome = true) :
    exec (.sliceWake p) s = .next { s with dev := s.dev.onPrm p (fun x => { x with pwr := true }) } := by
  refine State.onDev_eq (f := fun d => d.wake p) ?_
  unfold Dev.wake
  exact if_pos (by rw [Dev.resetN_of_runs hr, Prism.hasUrgent_of_next hu, Bool.or_true]; rfl)

/-! ### A slot that reaches a CONV entry (R224, R229) -/

theorem exec_conversionSlot_of_ready (hr : s.dev.prmReady p = true) :
    exec (.conversionSlot p) s = .next { s with dev := (s.dev.slot p).thermFeed p } :=
  State.onDev_eq (f := fun d => if d.prmReady p then (d.slot p).thermFeed p else d) (if_pos hr)

/-- A CONV entry that the sequencer reaches takes its stored words. -/
theorem Dev.reach_of_conv {d : Dev} {p : GroupIx} {i fuel : Nat} (hi : i < 128) (hk : bits (d.w (aPrm p (0x100 + i))) 1 0 = 0) :
    Dev.reach (fuel + 1) d p i = d.onPrm p (fun x => { x with
      pos := min i 127, word := d.w (aPrm p (0x100 + i)), seqt := d.w (aPrm p (0x180 + i))
      phase := .entry, left := 2 ^ bits (d.w (aPrm p (0x100 + i))) 3 2 }) := by
  unfold Dev.reach
  rw [if_pos hi]
  dsimp only
  rw [hk]
  exact Dev.onPrm_onPrm _ _ _ _

theorem exec_conversionSlot_of_conv {s p} (w : Word) (hr : s.dev.prmReady p = true) (hp : (s.dev.prm p).pwr = true)
    (hu : (s.dev.prm p).inUrg = none) (hn : (s.dev.prm p).nextUrgent = none) (hph : (s.dev.prm p).phase = .entry)
    (hl : (s.dev.prm p).left = 0) (hpos : (s.dev.prm p).pos < 128)
    (hw : w = s.dev.w (aPrm p (0x100 + (s.dev.prm p).pos))) (hk : bits w 1 0 = 0) :
    ∃ d sl, exec (.conversionSlot p) s = .next { s with dev := d } ∧ (0 < bits w 3 2 → (d.prm p).word = w) ∧ sl < 4 ∧
      (d.prm p).flight = (s.dev.prm p).flight ++ [{ slice := sl, ch := bits w 15 10, acc := bits w 9 4 }] ∧
      ∀ a, d.w a = s.dev.w a := by
  generalize he : Dev.reach 2 s.dev p (s.dev.prm p).pos = e
  have hreach := he.symm.trans (Dev.reach_of_conv hpos (hw ▸ hk))
  rw [← hw] at hreach
  have hprm : e.prm p = { s.dev.prm p with
      pos := min (s.dev.prm p).pos 127, word := w, seqt := s.dev.w (aPrm p (0x180 + (s.dev.prm p).pos))
      phase := .entry, left := 2 ^ bits w 3 2 } := by rw [hreach, Dev.onPrm_prm]
  have hslot : s.dev.slot p = e.issueEntry p :=
    Dev.slot_of_entry hr hp hu hn ((if_pos (by simp [hph, hl])).trans he) (by rw [hprm]) (by rw [hprm]; exact Nat.two_pow_pos _)
  obtain ⟨⟨sl, hsl, hf, -⟩, hwords, -, hword⟩ := Dev.slot_samples hslot (by rw [hprm]) (by rw [hprm]) (by rw [hreach]; rfl)
    (by rw [hreach]; rfl)
  rw [hprm] at hf hword
  refine ⟨_, sl, exec_conversionSlot_of_ready s p hr, fun hrep => hword ?_, hsl, hf, fun a => Dev.w_of_words hwords a⟩
  exact (Nat.one_lt_two_pow hrep.ne').ne'

/-! ### CTRL (R225, R228) -/

/-- RUN and FLOCK hold what is written to them while the tables are unlocked. -/
theorem Dev.bitOf_merge_ctrl (d : Dev) (p : GroupIx) (v : Word) (hl : d.locked' = false) :
    bitOf (d.merge (aPrm p 0) v) 0 = bitOf v 0 ∧ bitOf (d.merge (aPrm p 0) v) 6 = bitOf v 6 := by
  obtain ⟨r, hr, hbits⟩ : ∃ r, regRow (aPrm p 0) = some r ∧ ((r.mask .rw).testBit 0 && (r.mask .rwl).testBit 6) = true :=
    (Option.any_eq_true _ _).1 ((by decide +kernel : ∀ p : GroupIx,
      ((regRow (aPrm p 0)).any fun r => (r.mask .rw).testBit 0 && (r.mask .rwl).testBit 6) = true) p)
  obtain ⟨hrun, hflock⟩ := Bool.and_eq_true_iff.1 hbits
  have habs : absentBits d (aPrm p 0) = 0 := by
    unfold absentBits aPrm
    have hp := p.2
    rw [if_neg (by omega), if_neg (by omega), if_neg (by omega), if_neg (by omega)]
  unfold Dev.merge
  rw [hr]
  dsimp only
  constructor
  · rw [d.bitOf_merged _ _ r (by decide) (by rw [habs]; rfl), if_pos (by unfold Dev.takes; rw [hrun, Bool.true_or])]
  · rw [d.bitOf_merged _ _ r (by decide) (by rw [habs]; rfl), if_pos (by unfold Dev.takes; rw [hflock, hl, Bool.or_comm]; rfl)]

/-- The sequence starts, or waits for its first frame start where it is frame-locked (R228). -/
theorem Dev.startSeq_spec (d : Dev) (p : GroupIx) :
    ((d.startSeq p).prm p).phase = (if d.frameLocked p then .waitStart else .entry) ∧ (d.startSeq p).words = d.words ∧
    (d.startSeq p).motors = d.motors := by
  unfold Dev.startSeq
  split
  · rw [Dev.onPrm_prm]
    exact ⟨rfl, rfl, rfl⟩
  · rw [Dev.restartSeq, Dev.onPrm_prm]
    exact ⟨rfl, rfl, rfl⟩

/-- The next frame start of a frame-locked sequence is no overrun, where RUN or FLOCK is set while the group runs (R227). -/
def Dev.markFirst (d : Dev) (p : GroupIx) (new : Bool) : Dev :=
  if new && (d.grp p).running then d.onPrm p (fun x => { x with firstFrame := true }) else d

/-- Marking the first frame leaves all but that mark. -/
theorem Dev.markFirst_cases (d : Dev) (p : GroupIx) (new : Bool) :
    d.markFirst p new = d ∨ d.markFirst p new = d.onPrm p (fun x => { x with firstFrame := true }) := by
  unfold Dev.markFirst
  split
  · exact .inr rfl
  · exact .inl rfl

/-- RUN is written 1 where it was 0. -/
theorem Dev.writePrmCtrl_of_run {d : Dev} {p : GroupIx} {v : Word} (hv : bitOf v 0 = true) (hd : d.bit (aPrm p 0) 0 = false) :
    d.writePrmCtrl p v = (let e := (d.put (aPrm p 0) v).markFirst p ((bitOf v 6 && !d.bit (aPrm p 0) 6) || true)
      if e.prmReady p then e.startSeq p else e) := by
  unfold Dev.writePrmCtrl
  rw [hv, hd]
  rfl

/-- RUN is written 0 where it was 1: an entry in progress finishes (R228). -/
theorem Dev.writePrmCtrl_of_stop {d : Dev} {p : GroupIx} {v : Word} (hv : bitOf v 0 = false) (hd : d.bit (aPrm p 0) 0 = true) :
    d.writePrmCtrl p v = (let e := (d.put (aPrm p 0) v).markFirst p ((bitOf v 6 && !d.bit (aPrm p 0) 6) || false)
      if (e.prm p).phase = .waitSync || ((e.prm p).phase = .entry && decide (0 < (e.prm p).left)) then
        e.onPrm p (fun x => { x with stopReq := true })
      else e.onPrm p (fun x => { x with phase := .stopped, stopReq := false, left := 0 })) := by
  unfold Dev.writePrmCtrl
  rw [hv, hd]
  rfl

/-- Marking the first frame leaves the words, the engines, and what the sequencer is doing. -/
theorem Dev.markFirst_spec (d : Dev) (p : GroupIx) (new : Bool) :
    (d.markFirst p new).words = d.words ∧ (d.markFirst p new).motors = d.motors ∧
    (d.markFirst p new).prmReady p = d.prmReady p ∧ (d.markFirst p new).frameLocked p = d.frameLocked p ∧
    ((d.markFirst p new).prm p).phase = (d.prm p).phase ∧ ((d.markFirst p new).prm p).left = (d.prm p).left := by
  obtain h | h := d.markFirst_cases p new <;> rw [h]
  · exact ⟨rfl, rfl, rfl, rfl, rfl, rfl⟩
  · rw [Dev.onPrm_prm]
    exact ⟨rfl, rfl, rfl, rfl, rfl, rfl⟩

/-- CTRL is no word that says whether the array can convert. -/
theorem Dev.put_ctrl_prmReady (d : Dev) (p : GroupIx) (v : Word) : (d.put (aPrm p 0) v).prmReady p = d.prmReady p := by
  have hon : (d.put (aPrm p 0) v).w 0x801 = d.w 0x801 := d.w_put_ne v (by unfold aPrm; omega)
  have hrdy : (d.put (aPrm p 0) v).w 0x802 = d.w 0x802 := d.w_put_ne v (by unfold aPrm; omega)
  unfold Dev.prmReady Dev.prmOn Dev.domOn Dev.domRdy
  rw [Dev.bit_congr hon, Dev.bit_congr hrdy]
  rfl

/-- With FLOCK written 1 the sequence is frame-locked while the group runs. -/
theorem Dev.put_ctrl_frameLocked {d : Dev} {p : GroupIx} {v : Word} (hv : bitOf v 6 = true) (hrun : d.bit (aGrp p 1) 0 = true)
    (hg : (d.grp p).running = true) : (d.put (aPrm p 0) v).frameLocked p = true := by
  have hcfg : (d.put (aPrm p 0) v).w (aGrp p 1) = d.w (aGrp p 1) := d.w_put_ne v (by unfold aGrp aPrm; omega)
  unfold Dev.frameLocked
  rw [Dev.bit_congr hcfg, hrun, Dev.put_grp, hg, Dev.bit, Dev.w_put_self, hv]
  rfl

section

variable {s p} {k : Master} {v : Word} (hg : s.dev.hasGrp p = true) (hw : s.dev.writeOk k (aPrm p 0) = true)
  (hl : s.dev.locked' = false)
include hg hw hl

theorem exec_sequencerRun_of_ready (hb : s.dev.runBlocked = false) (hr : s.dev.prmReady p = true)
    (hrun : s.dev.bit (aPrm p 0) 0 = false) :
    ∃ d, exec (.sequencerRun k p v) s = .next { s with dev := d } ∧ d.bit (aPrm p 0) 0 = true ∧
      (d.prm p).phase ≠ .stopped ∧
      (bitOf v 6 = true → s.dev.bit (aGrp p 1) 0 = true → (s.dev.grp p).running = true →
        (d.prm p).phase = .waitStart) ∧
      s.dev.SameWords d [aPrm p 0] ∧ d.motors = s.dev.motors := by
  generalize hmv : s.dev.merge (aPrm p 0) (withBit v 0 true) = mv
  have hmerge := s.dev.bitOf_merge_ctrl p (withBit v 0 true) hl
  rw [hmv, bitOf_withBit _ _ _ _ (by decide) (by decide), bitOf_withBit _ _ _ _ (by decide) (by decide)] at hmerge
  obtain ⟨hv0, hv6⟩ : bitOf mv 0 = true ∧ bitOf mv 6 = bitOf v 6 := hmerge
  have hwrite : s.dev.fabWrite k (aPrm p 0) (withBit v 0 true) = s.dev.writePrmCtrl p mv := by
    rw [s.dev.fabWrite_prmCtrl k _ p hw hg, hb, hmv]
    rfl
  refine ⟨_, State.write_eq hwrite, ?_⟩
  rw [Dev.writePrmCtrl_of_run hv0 hrun]
  dsimp only
  generalize (bitOf mv 6 && !s.dev.bit (aPrm p 0) 6 || true) = new
  obtain ⟨hwords, hmotors, hready, hflock, -, -⟩ := (s.dev.put (aPrm p 0) mv).markFirst_spec p new
  rw [if_pos (hready.trans ((s.dev.put_ctrl_prmReady p mv).trans hr))]
  obtain ⟨hphase, hwords', hmotors'⟩ := ((s.dev.put (aPrm p 0) mv).markFirst p new).startSeq_spec p
  have hput := hwords'.trans hwords
  refine ⟨?_, ?_, fun h6 hc hrg => ?_, ?_, hmotors'.trans hmotors⟩
  · rw [Dev.bit_congr (Dev.w_of_words hput _), Dev.bit, Dev.w_put_self, hv0]
  · rw [hphase]
    split <;> exact SeqPhase.noConfusion
  · rw [hphase, hflock, Dev.put_ctrl_frameLocked (hv6.trans h6) hc hrg]
    rfl
  · exact (s.dev.sameWords_put mv (by simp)).trans (Dev.sameWords_of_words hput _)

theorem exec_sequencerStop_of_running (hrun : s.dev.bit (aPrm p 0) 0 = true) :
    ∃ d, exec (.sequencerStop k p v) s = .next { s with dev := d } ∧ d.bit (aPrm p 0) 0 = false ∧
      ((s.dev.prm p).phase = .entry ∧ 0 < (s.dev.prm p).left ∨ (s.dev.prm p).phase = .waitSync →
        (d.prm p).stopReq = true ∧ (d.prm p).phase = (s.dev.prm p).phase) ∧
      ((s.dev.prm p).phase = .waitFrame ∨ (s.dev.prm p).phase = .waitStart → (d.prm p).phase = .stopped) ∧
      s.dev.SameWords d [aPrm p 0] ∧ d.motors = s.dev.motors := by
  have hwrite := s.dev.fabWrite_prmCtrl k (withBit v 0 false) p hw hg
  generalize hmv : (if s.dev.runBlocked then _ else _ : Word) = mv at hwrite
  have hv0 : bitOf mv 0 = false := by
    have hmerge : bitOf (s.dev.merge (aPrm p 0) (withBit v 0 false)) 0 = false :=
      (s.dev.bitOf_merge_ctrl p _ hl).1.trans (bitOf_withBit v 0 0 false (by decide) (by decide))
    rw [← hmv]
    split
    · rw [bitOf_withBit _ _ _ _ (by decide) (by decide), hmerge]
      rfl
    · exact hmerge
  refine ⟨_, State.write_eq hwrite, ?_⟩
  rw [Dev.writePrmCtrl_of_stop hv0 hrun]
  dsimp only
  generalize (bitOf mv 6 && !s.dev.bit (aPrm p 0) 6 || false) = new
  obtain ⟨hwords, hmotors, -, -, hphase, hleft⟩ := (s.dev.put (aPrm p 0) mv).markFirst_spec p new
  generalize (s.dev.put (aPrm p 0) mv).markFirst p new = e at hwords hmotors hphase hleft
  rw [Dev.put_prm] at hphase hleft
  have hput : s.dev.SameWords e [aPrm p 0] := (s.dev.sameWords_put mv (by simp)).trans (Dev.sameWords_of_words hwords _)
  have hbit : e.bit (aPrm p 0) 0 = false := by rw [Dev.bit_congr (Dev.w_of_words hwords _), Dev.bit, Dev.w_put_self, hv0]
  split
  case isTrue hbusy =>
    rw [hphase, hleft] at hbusy
    rw [Dev.onPrm_prm, Dev.onPrm_bit]
    refine ⟨hbit, fun _ => ⟨rfl, hphase⟩, fun h => ?_, hput, hmotors⟩
    obtain h | h := h <;> simp [h] at hbusy
  case isFalse hidle =>
    rw [hphase, hleft] at hidle
    rw [Dev.onPrm_prm, Dev.onPrm_bit]
    refine ⟨hbit, fun h => absurd ?_ hidle, fun _ => rfl, hput, hmotors⟩
    obtain ⟨h, hl⟩ | h := h
    · simp [h, hl]
    · simp [h]

end

/-! ### Urgent requests (R232) -/

theorem exec_urgentRequest {s p} {k : Master} (v : Word) (hg : s.dev.hasGrp p = true) (hw : s.dev.writeOk k (aPrm p 5) = true) :
    exec (.urgentRequest k p v) s = .next { s with dev := s.dev.urgent p v } :=
  State.write_eq (s.dev.fabWrite_urq k v p hw hg)

theorem Dev.urgent_of_room {d : Dev} {p : GroupIx} (v : Word) (hon : d.prmOn p = true) (h : (d.prm p).pendCount < 4) :
    d.urgent p v = d.onPrm p (fun x => { x with
      urg := x.urg ++ [{ ch := bits v 15 10, acc := bits v 9 4, left := 2 ^ bits v 3 2 }], pwr := true }) := by
  unfold Dev.urgent
  rw [if_neg (by rw [hon]; decide), if_neg (Nat.not_le.2 h)]

theorem Dev.urgent_of_full {d : Dev} {p : GroupIx} (v : Word) (hon : d.prmOn p = true) (h : 4 ≤ (d.prm p).pendCount) :
    d.urgent p v = d.cause (aPrm p 2) 8 (20 + p.1) := by
  unfold Dev.urgent
  rw [if_neg (by rw [hon]; decide), if_pos h]

theorem Dev.sameWords_cause (d : Dev) (a : Nat) (m : Word) (i : Nat) : d.SameWords (d.cause a m i) [a] :=
  fun _ hb => d.cause_w_ne m i (by simpa using hb)

theorem Dev.cause_prisms (d : Dev) (a : Nat) (m : Word) (i : Nat) : (d.cause a m i).prisms = d.prisms :=
  Dev.raise_prisms _ i

/-! ### The statement -/

/-- Settles O39: SYNC, IDLE and the wake by the phase of the sequencer; a slot that reaches a CONV entry by the words it
takes; CTRL by RUN as it stood; an urgent request by whether four are pending. -/
theorem sequencer : Obligations.Sequencer := by
  intro s p
  refine ⟨exec_syncTick_of_due s p, fun t hr hph ht => ⟨exec_idleEntryEnd_of_stop hr hph ht, fun hstop hend => ?_,
      fun hstop hlock hend => ?_⟩, fun w _ hr hp hu hn hph hl hpos hw hk => exec_conversionSlot_of_conv w hr hp hu hn hph hl hpos hw hk,
    exec_sliceWake_of_urgent s p, fun k v hg hw hl => ⟨exec_sequencerRun_of_ready hg hw hl, exec_sequencerStop_of_running hg hw hl⟩,
    fun k v hg hw hon => ⟨fun hroom => ?_, fun hfull => ?_⟩⟩
  · refine exec_idleEntryEnd_of_next hr hph ht hstop ?_
    unfold Dev.endsHere
    obtain h | ⟨hpos, hkind⟩ := hend
    · rw [h, Bool.false_and]
    · simp [Nat.not_le.2 hpos, hkind]
  · refine exec_idleEntryEnd_of_end hr hph ht hstop ?_
    unfold Dev.endsHere
    simpa [hlock] using hend
  · rw [exec_urgentRequest v hg hw, Dev.urgent_of_room v hon hroom]
  · refine ⟨_, exec_urgentRequest v hg hw, ?_⟩
    rw [Dev.urgent_of_full v hon hfull, Dev.bit_cause, Dev.cause_prisms]
    exact ⟨by simp, rfl, s.dev.sameWords_cause _ _ _⟩

end Sys2Proof.Machine
end

section
/-! The coefficient update of a converter array: what the update of one slice moves, and what an update leaves (R219 to
R222). -/

namespace Sys2Proof.Machine

open Sys2Proof

variable (d : Dev) (p : GroupIx)

/-! ### One slice (R220) -/

/-- The coefficient words of a slice: offset, gain and skew. -/
def coefWords (p : GroupIx) (i : Fin 4) : List Nat := [aPrm p (0x10 + 4 * i.1), aPrm p (0x11 + 4 * i.1), aPrm p (0x12 + 4 * i.1)]

theorem mem_coefWords {p : GroupIx} {i : Fin 4} {a : Nat} :
    a ∈ coefWords p i ↔ a = aPrm p (0x10 + 4 * i.1) ∨ a = aPrm p (0x11 + 4 * i.1) ∨ a = aPrm p (0x12 + 4 * i.1) := by
  simp [coefWords]

/-- No word is a coefficient of two slices. -/
theorem not_mem_coefWords {p : GroupIx} {i j : Fin 4} {a : Nat} (h : a ∈ coefWords p i) (hij : i ≠ j) : a ∉ coefWords p j := by
  have hne : i.1 ≠ j.1 := fun e => hij (Fin.ext e)
  rw [mem_coefWords] at h ⊢
  unfold aPrm at *
  omega

/-- The offset of a slice moved by a quarter of the estimate that free value n gives, and whether it was held. -/
def Dev.ofsMove (d : Dev) (p : GroupIx) (i : Fin 4) (n : Nat) : Int × Bool :=
  held (-32768) 32767 (d.sw (aPrm p (0x10 + 4 * i.1)) + truncDiv (Config.estimate n).1 4)

/-- The gain of a slice moved so. -/
def Dev.gainMove (d : Dev) (p : GroupIx) (i : Fin 4) (n : Nat) : Int × Bool :=
  held 0x7800 0x87FF ((d.uw (aPrm p (0x11 + 4 * i.1)) : Int) + truncDiv (Config.estimate n).2.1 4)

/-- The skew of a slice, which is ten bits wide. -/
def Dev.skewOf (d : Dev) (p : GroupIx) (i : Fin 4) : Int := (BitVec.ofNat 10 (d.uw (aPrm p (0x12 + 4 * i.1)))).toInt

/-- The skew of a slice moved one step toward its estimate. -/
def Dev.skewMove (d : Dev) (p : GroupIx) (i : Fin 4) (n : Nat) : Int × Bool :=
  held (-512) 511 (if d.skewOf p i < (Config.estimate n).2.2 then d.skewOf p i + 1
    else if (Config.estimate n).2.2 < d.skewOf p i then d.skewOf p i - 1 else d.skewOf p i)

/-- The skew of a slice moves: in full mode, with enough comparisons in the interval. -/
def Dev.skewMoves (d : Dev) (p : GroupIx) (i : Fin 4) : Bool := !(d.prm p).lpAct && decide (256 ≤ (d.prm p).skew[i])

/-- What the update of a slice with the estimates of free value n leaves in its words, and whether it held one of them. -/
structure Dev.SliceMoved (p : GroupIx) (i : Fin 4) (n : Nat) (og : Bool) (d e : Dev) (lim : Bool) : Prop where
  ofs : e.w (aPrm p (0x10 + 4 * i.1)) = if og then iword (d.ofsMove p i n).1 else d.w (aPrm p (0x10 + 4 * i.1))
  gain : e.w (aPrm p (0x11 + 4 * i.1)) = if og then iword (d.gainMove p i n).1 else d.w (aPrm p (0x11 + 4 * i.1))
  skew : e.w (aPrm p (0x12 + 4 * i.1)) =
    if d.skewMoves p i then iword (d.skewMove p i n).1 &&& 0x3FF else d.w (aPrm p (0x12 + 4 * i.1))
  lim : og = true → ((d.ofsMove p i n).2 || (d.gainMove p i n).2) = true → lim = true

/-- Offset and gain of a slice are written. -/
def Dev.moveGains (d : Dev) (p : GroupIx) (i : Fin 4) (n : Nat) : Dev :=
  (d.put (aPrm p (0x10 + 4 * i.1)) (iword (d.ofsMove p i n).1)).put (aPrm p (0x11 + 4 * i.1)) (iword (d.gainMove p i n).1)

/-- The update of a slice in its steps. -/
theorem Dev.updateSlice_eq (i : Fin 4) (og : Bool) :
    d.updateSlice p i og =
      (let e := if og then d.nextFree.moveGains p i d.free else d.nextFree
       if d.skewMoves p i then e.put (aPrm p (0x12 + 4 * i.1)) (iword (d.skewMove p i d.free).1 &&& 0x3FF) else e,
       (og && ((d.ofsMove p i d.free).2 || (d.gainMove p i d.free).2)) || (d.skewMoves p i && (d.skewMove p i d.free).2)) := rfl

theorem Dev.updateSlice_moved (i : Fin 4) (og : Bool) :
    d.SliceMoved p i d.free og (d.updateSlice p i og).1 (d.updateSlice p i og).2 := by
  have hog : aPrm p (0x10 + 4 * i.1) ≠ aPrm p (0x11 + 4 * i.1) := by unfold aPrm; omega
  have hos : aPrm p (0x10 + 4 * i.1) ≠ aPrm p (0x12 + 4 * i.1) := by unfold aPrm; omega
  have hgs : aPrm p (0x11 + 4 * i.1) ≠ aPrm p (0x12 + 4 * i.1) := by unfold aPrm; omega
  have hskew (e : Dev) (v : Word) : (if d.skewMoves p i then e.put (aPrm p (0x12 + 4 * i.1)) v else e).w (aPrm p (0x12 + 4 * i.1)) =
      if d.skewMoves p i then v else e.w (aPrm p (0x12 + 4 * i.1)) := by
    split
    · exact e.w_put_self _ v
    · rfl
  have hkeep (e : Dev) (v : Word) {a : Nat} (ha : a ≠ aPrm p (0x12 + 4 * i.1)) :
      (if d.skewMoves p i then e.put (aPrm p (0x12 + 4 * i.1)) v else e).w a = e.w a := by
    split
    · exact e.w_put_ne v ha
    · rfl
  rw [Dev.updateSlice_eq]
  constructor
  case ofs =>
    refine (hkeep _ _ hos).trans ?_
    split
    · exact (Dev.w_put_ne _ _ hog).trans (Dev.w_put_self _ _ _)
    · rfl
  case gain =>
    refine (hkeep _ _ hgs).trans ?_
    split
    · exact Dev.w_put_self _ _ _
    · rfl
  case skew =>
    refine (hskew _ _).trans (if_congr Iff.rfl rfl ?_)
    split
    · exact (Dev.w_put_ne _ _ hgs.symm).trans (Dev.w_put_ne _ _ hos.symm)
    · rfl
  case lim =>
    intro h1 h2
    dsimp only
    rw [h1, h2]
    rfl

/-- What moving slices leaves: the estimates are taken one after another, and no word outside `l` and no record changes. -/
structure Dev.SlicesKept (n : Nat) (l : List Nat) (d e : Dev) : Prop where
  free : e.free = d.free + n
  prisms : e.prisms = d.prisms
  motors : e.motors = d.motors
  words : d.SameWords e l

theorem Dev.updateSlice_kept (i : Fin 4) (og : Bool) : d.SlicesKept 1 (coefWords p i) (d.updateSlice p i og).1 := by
  have hput {n : Nat} {e : Dev} {a : Nat} (v : Word) (h : d.SlicesKept n (coefWords p i) e) (ha : a ∈ coefWords p i) :
      d.SlicesKept n (coefWords p i) (e.put a v) :=
    ⟨h.free, h.prisms, h.motors, h.words.trans (e.sameWords_put v ha)⟩
  have hgains : d.SlicesKept 1 (coefWords p i) (if og then d.nextFree.moveGains p i d.free else d.nextFree) := by
    have hfree : d.SlicesKept 1 (coefWords p i) d.nextFree := ⟨rfl, rfl, rfl, fun _ _ => rfl⟩
    split
    · exact hput _ (hput _ hfree (by simp [coefWords])) (by simp [coefWords])
    · exact hfree
  rw [Dev.updateSlice_eq]
  dsimp only
  split
  · exact hput _ hgains (by simp [coefWords])
  · exact hgains

/-! ### The slices one after another (R220) -/

/-- The slices of a list are moved, and the flag says whether a coefficient was held. -/
def Dev.moveSlices (p : GroupIx) (og : Bool) (l : List (Fin 4)) (x : Dev × Bool) : Dev × Bool :=
  l.foldl (fun acc s => ((acc.1.updateSlice p s og).1, acc.2 || (acc.1.updateSlice p s og).2)) x

theorem Dev.moveSlices_kept (og : Bool) (l : List (Fin 4)) (x : Dev × Bool) :
    x.1.SlicesKept l.length (l.flatMap (coefWords p)) (Dev.moveSlices p og l x).1 ∧
    (x.2 = true → (Dev.moveSlices p og l x).2 = true) := by
  induction l generalizing x with
  | nil => exact ⟨⟨rfl, rfl, rfl, fun _ _ => rfl⟩, id⟩
  | cons s t ih =>
    obtain ⟨⟨hfree, hprisms, hmotors, hwords⟩, hlim⟩ := ih ((x.1.updateSlice p s og).1, x.2 || (x.1.updateSlice p s og).2)
    obtain ⟨hfree', hprisms', hmotors', hwords'⟩ := x.1.updateSlice_kept p s og
    refine ⟨⟨?_, hprisms.trans hprisms', hmotors.trans hmotors', fun a ha => ?_⟩, fun h => hlim (by rw [h]; rfl)⟩
    · rw [List.length_cons, Nat.add_comm t.length, ← Nat.add_assoc, ← hfree']
      exact hfree
    · rw [List.flatMap_cons, List.mem_append, not_or] at ha
      exact (hwords a ha.2).trans (hwords' a ha.1)

/-- The words of a slice, as another state that has them shows its moves. -/
theorem Dev.SliceMoved.congr {p : GroupIx} {i : Fin 4} {n : Nat} {og lim lim' : Bool} {c d e f : Dev}
    (h : d.SliceMoved p i n og e lim) (hw : ∀ a ∈ coefWords p i, d.w a = c.w a) (hp : d.prisms = c.prisms)
    (hw' : ∀ a ∈ coefWords p i, f.w a = e.w a) (hl : lim = true → lim' = true) : c.SliceMoved p i n og f lim' := by
  have ho : aPrm p (0x10 + 4 * i.1) ∈ coefWords p i := by simp [coefWords]
  have hg : aPrm p (0x11 + 4 * i.1) ∈ coefWords p i := by simp [coefWords]
  have hs : aPrm p (0x12 + 4 * i.1) ∈ coefWords p i := by simp [coefWords]
  have hofs : d.ofsMove p i n = c.ofsMove p i n := by unfold Dev.ofsMove Dev.sw; rw [hw _ ho]
  have hgain : d.gainMove p i n = c.gainMove p i n := by unfold Dev.gainMove Dev.uw; rw [hw _ hg]
  have hskew : d.skewMove p i n = c.skewMove p i n := by unfold Dev.skewMove Dev.skewOf Dev.uw; rw [hw _ hs]
  have hmoves : d.skewMoves p i = c.skewMoves p i := by unfold Dev.skewMoves; rw [Dev.prm_of_prisms hp]
  constructor
  case ofs => rw [hw' _ ho, h.ofs, hofs, hw _ ho]
  case gain => rw [hw' _ hg, h.gain, hgain, hw _ hg]
  case skew => rw [hw' _ hs, h.skew, hskew, hmoves, hw _ hs]
  case lim => intro h1 h2; exact hl (h.lim h1 (by rw [hofs, hgain]; exact h2))

/-- Each slice of full mode is moved with the free value of its place. -/
theorem Dev.moveSlices_moved (og : Bool) (i : Fin 4) : d.SliceMoved p i (d.free + i.1) og
    (Dev.moveSlices p og (List.finRange 4) (d, false)).1 (Dev.moveSlices p og (List.finRange 4) (d, false)).2 := by
  obtain ⟨before, after, hl, hlen, hb, ha⟩ : ∃ before after : List (Fin 4), List.finRange 4 = before ++ i :: after ∧
      before.length = i.1 ∧ i ∉ before ∧ i ∉ after :=
    ⟨(List.finRange 4).take i.1, (List.finRange 4).drop (i.1 + 1), by revert i; decide⟩
  have hout {l : List (Fin 4)} (h : i ∉ l) : ∀ a ∈ coefWords p i, a ∉ l.flatMap (coefWords p) := by
    intro a hm hc
    obtain ⟨j, hj, haj⟩ := List.mem_flatMap.1 hc
    exact not_mem_coefWords hm (fun e => h (e ▸ hj)) haj
  obtain ⟨⟨hfree, hprisms, -, hwords⟩, -⟩ := Dev.moveSlices_kept p og before (d, false)
  generalize hx : Dev.moveSlices p og before (d, false) = x at hfree hprisms hwords
  have hfold : Dev.moveSlices p og (List.finRange 4) (d, false) =
      Dev.moveSlices p og after ((x.1.updateSlice p i og).1, x.2 || (x.1.updateSlice p i og).2) := by
    rw [hl, ← hx]
    exact List.foldl_append
  obtain ⟨⟨-, -, -, hwords'⟩, hlim⟩ := Dev.moveSlices_kept p og after
    ((x.1.updateSlice p i og).1, x.2 || (x.1.updateSlice p i og).2)
  have hmoved := x.1.updateSlice_moved p i og
  rw [hfree, hlen] at hmoved
  rw [hfold]
  exact hmoved.congr (fun a hm => hwords a (hout hb a hm)) hprisms (fun a hm => hwords' a (hout ha a hm))
    (fun h => hlim (by rw [h, Bool.or_true]))

/-! ### The update (R220, R221) -/

/-- The interval held enough REFZ and REFH samples on every slice in use. -/
def Prism.enough (x : Prism) : Bool := x.slices.all (fun s => decide (16 ≤ x.refz[s] ∧ 16 ≤ x.refh[s]))

/-- The coefficients at an update: frozen, or moved slice by slice. -/
def Dev.coefMoves (d : Dev) (p : GroupIx) : Dev × Bool :=
  if d.bit (aPrm p 0) 5 then (d, false) else Dev.moveSlices p (d.prm p).enough (d.prm p).slices (d, false)

/-- What an update shows of moved coefficients: CALUPD, CALSTAT, the CAL cause, and a new interval. -/
def Dev.showCoefs (e : Dev) (p : GroupIx) (skip lim : Bool) : Dev :=
  let d := e.put (aPrm p 7) (e.w (aPrm p 7) + 1)
  let d := d.put (aPrm p 8) (word (skip.toNat * 2 + (lim || (d.bit (aPrm p 8) 0 && d.coefAtLimit p)).toNat))
  let d := if lim then d.cause (aPrm p 2) 0x10 (20 + p.1) else d
  d.onPrm p (fun x => { x with
    conv := x.conv - 4096, refz := Vector.replicate 4 0, refh := Vector.replicate 4 0, skew := Vector.replicate 4 0 })

theorem Dev.coefUpdate_eq : d.coefUpdate p = (d.coefMoves p).1.showCoefs p (!(d.prm p).enough) (d.coefMoves p).2 := rfl

theorem bitOf_calstat (skip lim : Bool) : bitOf (word (skip.toNat * 2 + lim.toNat)) 1 = skip ∧
    bitOf (word (skip.toNat * 2 + lim.toNat)) 0 = lim := by
  cases skip <;> cases lim <;> decide

/-- What an update shows. -/
theorem Dev.showCoefs_spec (skip lim : Bool) :
    (d.showCoefs p skip lim).w (aPrm p 7) = d.w (aPrm p 7) + 1 ∧ (d.showCoefs p skip lim).bit (aPrm p 8) 1 = skip ∧
    (lim = true → (d.showCoefs p skip lim).bit (aPrm p 8) 0 = true ∧ (d.showCoefs p skip lim).bit (aPrm p 2) 4 = true) ∧
    d.SameWords (d.showCoefs p skip lim) (if lim then [aPrm p 7, aPrm p 8, aPrm p 2] else [aPrm p 7, aPrm p 8]) ∧
    (d.showCoefs p skip lim).motors = d.motors ∧ ((d.showCoefs p skip lim).prm p).conv = (d.prm p).conv - 4096 ∧
    ∀ i : Fin 4, ((d.showCoefs p skip lim).prm p).refz[i] = 0 ∧ ((d.showCoefs p skip lim).prm p).refh[i] = 0 := by
  have h78 : aPrm p 7 ≠ aPrm p 8 := by unfold aPrm; omega
  have h72 : aPrm p 7 ≠ aPrm p 2 := by unfold aPrm; omega
  have h82 : aPrm p 8 ≠ aPrm p 2 := by unfold aPrm; omega
  unfold Dev.showCoefs
  dsimp only
  generalize hc : d.put (aPrm p 7) (d.w (aPrm p 7) + 1) = c
  generalize hs : (lim || (c.bit (aPrm p 8) 0 && c.coefAtLimit p)) = stat
  have hstat : lim = true → stat = true := by rw [← hs]; intro h; rw [h]; rfl
  obtain ⟨hskip, hlimit⟩ := bitOf_calstat skip stat
  have hcal (i : Nat) : (c.put (aPrm p 8) (word (skip.toNat * 2 + stat.toNat))).bit (aPrm p 8) i =
      bitOf (word (skip.toNat * 2 + stat.toNat)) i := by rw [Dev.bit, Dev.w_put_self]
  have h7 : (c.put (aPrm p 8) (word (skip.toNat * 2 + stat.toNat))).w (aPrm p 7) = d.w (aPrm p 7) + 1 := by
    rw [Dev.w_put_ne _ _ h78, ← hc, Dev.w_put_self]
  have hsame : d.SameWords (c.put (aPrm p 8) (word (skip.toNat * 2 + stat.toNat))) [aPrm p 7, aPrm p 8] := by
    rw [← hc]
    exact (d.sameWords_put _ (by simp)).trans (Dev.sameWords_put _ _ (by simp))
  have hrest : (c.put (aPrm p 8) (word (skip.toNat * 2 + stat.toNat))).motors = d.motors ∧
      (c.put (aPrm p 8) (word (skip.toNat * 2 + stat.toNat))).prm p = d.prm p := by rw [← hc]; exact ⟨rfl, rfl⟩
  generalize c.put (aPrm p 8) (word (skip.toNat * 2 + stat.toNat)) = e at hcal h7 hsame hrest
  obtain ⟨hmotors, hprm⟩ := hrest
  have hzero (i : Fin 4) : (Vector.replicate 4 0 : Vector Nat 4)[i] = 0 := Vector.getElem_replicate i.2
  cases lim
  case false =>
    rw [if_neg Bool.false_ne_true, if_neg Bool.false_ne_true, Dev.onPrm_prm, Dev.onPrm_bit, hprm]
    exact ⟨h7, (hcal 1).trans hskip, fun h => absurd h Bool.false_ne_true, hsame, hmotors, rfl, fun i => ⟨hzero i, hzero i⟩⟩
  case true =>
    rw [if_pos rfl, if_pos rfl, Dev.onPrm_prm, Dev.prm_of_prisms (e.cause_prisms _ _ _), hprm]
    rw [Dev.onPrm_w, Dev.onPrm_bit, Dev.onPrm_bit, Dev.onPrm_bit, Dev.bit_cause, Dev.bit_cause, Dev.bit_cause]
    refine ⟨(e.cause_w_ne _ _ h72).trans h7, ?_, fun _ => ⟨?_, by simp⟩, ?_, (Dev.raise_motors _ _).trans hmotors, rfl,
      fun i => ⟨hzero i, hzero i⟩⟩
    · rw [decide_eq_false h82, Bool.false_and, Bool.or_false]
      exact (hcal 1).trans hskip
    · rw [decide_eq_false h82, Bool.false_and, Bool.or_false, hcal 0, hlimit]
      exact hstat rfl
    · exact (hsame.mono (by simp)).trans ((e.sameWords_cause _ _ _).mono (by simp))

end Sys2Proof.Machine
end

section
/-! What reading a closed value leaves of the converter arrays, of the supply groups and of PLL_PRISM: one equation for each
operation. -/

namespace Sys2Proof.Machine

open Sys2Proof

/-- What an argument watches beside the clock, the power control, CLOCK.STAT and the conversions in flight: the counts of
the arrays with their words, and the supply groups with theirs. -/
structure ArrWatch where
  counts : Bool
  supply : Bool

/-- A word of an array outside its trackers (R248). -/
def isCountWord (a : Nat) : Bool := decide (0x8000 ≤ a ∧ a < 0xA000 ∧ (a - 0x8000) % 0x800 < 0x300)

/-- A word of a supply group (R196). -/
def isSupplyWord (a : Nat) : Bool := decide (0x6400 ≤ a ∧ a < 0x6800)

/-- The watched words. -/
def ArrWatch.word (w : ArrWatch) (a : Nat) : Bool :=
  a == 0x810 || (w.counts && isCountWord a) || (w.supply && isSupplyWord a)

/-- The watched parts of the module. -/
structure ArrView where
  resetN : Bool
  locked : Bool
  cycles : Nat
  power : Power
  words : Nat → Word
  flight : GroupIx → List Conv
  counts : GroupIx → Vector Acc 64
  groups : Option (Vector Group 4)

/-- The watched parts as they stand. -/
def Dev.arr (w : ArrWatch) (d : Dev) : ArrView where
  resetN := d.resetN
  locked := d.locked
  cycles := d.cycles
  power := d.power
  words := fun a => if w.word a then d.w a else 0
  flight := fun p => (d.prm p).flight
  counts := fun p => if w.counts then (d.prm p).acc else Vector.replicate 64 {}
  groups := if w.supply then some d.groups else none

variable {w : ArrWatch}

/-! ### Reading the view -/

section

variable {d e : Dev} (h : e.arr w = d.arr w)
include h

theorem Dev.arr_w {a : Nat} (ha : w.word a = true) : e.w a = d.w a := by
  have hw : (if w.word a then e.w a else 0) = (if w.word a then d.w a else 0) := congrFun (congrArg ArrView.words h) a
  rwa [if_pos ha, if_pos ha] at hw

theorem Dev.arr_flight (p : GroupIx) : (e.prm p).flight = (d.prm p).flight := congrFun (congrArg ArrView.flight h) p

theorem Dev.arr_power : e.power = d.power := congrArg ArrView.power h

theorem Dev.arr_stands : e.stands = d.stands := by
  unfold Dev.stands
  rw [show e.resetN = d.resetN from congrArg ArrView.resetN h, show e.locked = d.locked from congrArg ArrView.locked h]

theorem Dev.arr_runs : e.runs = d.runs := by
  unfold Dev.runs
  rw [show e.resetN = d.resetN from congrArg ArrView.resetN h, show e.locked = d.locked from congrArg ArrView.locked h]

theorem Dev.arr_acc (hc : w.counts = true) (p : GroupIx) (a : Fin 64) : e.acc p a = d.acc p a := by
  have hv := congrFun (congrArg ArrView.counts h) p
  unfold Dev.acc
  dsimp only [Dev.arr] at hv
  rw [hc] at hv
  exact congrArg (fun v : Vector Acc 64 => v[a]) hv

theorem Dev.arr_grp (hs : w.supply = true) (g : GroupIx) : e.grp g = d.grp g := by
  have hv := congrArg ArrView.groups h
  dsimp only [Dev.arr] at hv
  rw [hs] at hv
  exact congrArg (fun v : Vector Group 4 => v[g]) (Option.some.inj hv)

end

/-! ### Words outside the watched ones -/

theorem ArrWatch.word_eq_false {a : Nat} (h : a ≠ 0x810) (h' : a < 0x6400 ∨ 0x6800 ≤ a ∧ a < 0x8000) : w.word a = false := by
  unfold ArrWatch.word isCountWord isSupplyWord
  rw [decide_eq_false (by omega), decide_eq_false (by omega), Bool.and_false, Bool.and_false, beq_eq_false_iff_ne.2 h]
  rfl

theorem ArrWatch.word_stat : w.word 0x810 = true := by unfold ArrWatch.word; simp

@[simp] theorem ArrWatch.word_aMot (m : MotorIx) {o : Nat} (h : o < 0x400) : w.word (aMot m o) = false :=
  ArrWatch.word_eq_false (by unfold aMot; omega) (by unfold aMot; omega)

@[simp] theorem ArrWatch.word_aGrp (g : GroupIx) {o : Nat} (h : o < 8) : w.word (aGrp g o) = false :=
  ArrWatch.word_eq_false (by unfold aGrp; omega) (by unfold aGrp; omega)

@[simp] theorem ArrWatch.word_aSen (s : SensorIx) {o : Nat} (h : o < 8) : w.word (aSen s o) = false :=
  ArrWatch.word_eq_false (by unfold aSen; omega) (by unfold aSen; omega)

@[simp] theorem ArrWatch.word_aSen_succ (s : SensorIx) {o : Nat} (h : o + 1 < 8) : w.word (aSen s o + 1) = false :=
  ArrWatch.word_aSen s h

theorem ArrWatch.word_aSup (g : GroupIx) {o : Nat} (h : o < 0x40) (hs : w.supply = false) : w.word (aSup g o) = false := by
  unfold ArrWatch.word isCountWord
  rw [hs, decide_eq_false (by unfold aSup; omega), beq_eq_false_iff_ne.2 (by unfold aSup; omega), Bool.and_false]
  rfl

theorem ArrWatch.word_aSup_of_supply (g : GroupIx) {o : Nat} (h : o < 0x40) (hs : w.supply = true) : w.word (aSup g o) = true := by
  unfold ArrWatch.word isSupplyWord
  rw [hs, decide_eq_true (by unfold aSup; omega), Bool.true_and, Bool.or_true]

theorem ArrWatch.word_aPrm (p : GroupIx) {o : Nat} (h : o < 0x800) (hc : w.counts = false) : w.word (aPrm p o) = false := by
  unfold ArrWatch.word isSupplyWord
  rw [hc, decide_eq_false (by unfold aPrm; omega), beq_eq_false_iff_ne.2 (by unfold aPrm; omega), Bool.and_false]
  rfl

theorem ArrWatch.word_aPrm_of_counts (p : GroupIx) {o : Nat} (h : o < 0x300) (hc : w.counts = true) : w.word (aPrm p o) = true := by
  unfold ArrWatch.word isCountWord
  rw [hc, decide_eq_true (by unfold aPrm; omega), Bool.true_and, Bool.or_true, Bool.true_or]

@[simp] theorem ArrWatch.word_aTrk (p : GroupIx) (t : Fin 32) {o : Nat} (h : o < 4) : w.word (aTrk p t.1 o) = false := by
  unfold ArrWatch.word isCountWord isSupplyWord
  rw [decide_eq_false (by unfold aTrk aPrm; omega), decide_eq_false (by unfold aTrk aPrm; omega),
    beq_eq_false_iff_ne.2 (by unfold aTrk aPrm; omega), Bool.and_false, Bool.and_false]
  rfl

variable (d : Dev)

/-! ### Updates -/

@[simp] theorem Dev.arr_put (a : Nat) (v : Word) (h : w.word a = false) : (d.put a v).arr w = d.arr w := by
  unfold Dev.arr
  congr 1
  funext b
  by_cases e : b = a
  · subst e; rw [h]; rfl
  · rw [d.w_put_ne v e]

@[simp] theorem Dev.arr_putB (a i : Nat) (b : Bool) (h : w.word a = false) : (d.putB a i b).arr w = d.arr w := d.arr_put a _ h

@[simp] theorem Dev.arr_putF (a hi lo v : Nat) (h : w.word a = false) : (d.putF a hi lo v).arr w = d.arr w := d.arr_put a _ h

@[simp] theorem Dev.arr_orW (a : Nat) (m : Word) (h : w.word a = false) : (d.orW a m).arr w = d.arr w := d.arr_put a _ h

@[simp] theorem Dev.arr_setB (a i : Nat) (h : w.word a = false) : (d.setB a i).arr w = d.arr w := d.arr_put a _ h

@[simp] theorem Dev.arr_inc (a : Nat) (h : w.word a = false) : (d.inc a).arr w = d.arr w := d.arr_put a _ h

@[simp] theorem Dev.arr_stampTime (a : Nat) (h : w.word a = false) (h' : w.word (a + 1) = false) :
    (d.stampTime a).arr w = d.arr w := by
  unfold Dev.stampTime Dev.put32
  rw [Dev.arr_put _ _ _ h', Dev.arr_put _ _ _ h]

@[simp] theorem Dev.arr_onMot (m : MotorIx) (f : Motor → Motor) : (d.onMot m f).arr w = d.arr w := rfl
@[simp] theorem Dev.arr_onSen (s : SensorIx) (f : ThermSen → ThermSen) : (d.onSen s f).arr w = d.arr w := rfl
@[simp] theorem Dev.arr_enforce (lo hi : Nat) : (d.enforce lo hi).arr w = d.arr w := rfl
@[simp] theorem Dev.arr_nextFree : d.nextFree.arr w = d.arr w := rfl
theorem Dev.arr_with_closeLate (x : List (GroupIx × Fin 64)) : ({ d with closeLate := x } : Dev).arr w = d.arr w := rfl

theorem Dev.arr_onGrp (g : GroupIx) (f : Group → Group) (h : w.supply = false) : (d.onGrp g f).arr w = d.arr w := by
  unfold Dev.arr
  rw [h]
  rfl

/-- A change of an array that leaves its conversions in flight and, where they are watched, its counts. -/
theorem Dev.arr_onPrm (p : GroupIx) (f : Prism → Prism) (h : ∀ x, (f x).flight = x.flight)
    (h' : w.counts = true → ∀ x, (f x).acc = x.acc) : (d.onPrm p f).arr w = d.arr w := by
  unfold Dev.arr
  congr 1
  · funext q
    by_cases e : q = p
    · subst e; rw [Dev.onPrm_prm, h]
    · rw [Dev.onPrm_prm_ne d f e]
  · funext q
    split
    case isTrue hc =>
      by_cases e : q = p
      · subst e; rw [Dev.onPrm_prm, h' hc]
      · rw [Dev.onPrm_prm_ne d f e]
    case isFalse => rfl

@[simp] theorem Dev.arr_raise (i : Nat) : (d.raise i).arr w = d.arr w := by simp [Dev.arr]

@[simp] theorem Dev.arr_cause (a : Nat) (m : Word) (i : Nat) (h : w.word a = false) : (d.cause a m i).arr w = d.arr w := by
  simp [Dev.cause, h]

theorem Dev.arr_drives {d e : Dev} (h : d.Drives e) : e.arr w = d.arr w := by
  unfold Dev.arr Dev.prm
  simp only [h.resetN, h.locked, h.cycles, h.power, h.w, h.prisms, h.groups]

@[simp] theorem Dev.arr_driveGroup (g : GroupIx) : (d.driveGroup g).arr w = d.arr w := Dev.arr_drives (d.drives_driveGroup g)

/-! ### Branches and repetitions -/

@[simp] theorem Dev.arr_ite (c : Prop) [Decidable c] (x y : Dev) : (if c then x else y).arr w = if c then x.arr w else y.arr w :=
  apply_ite _ _ _ _

theorem Dev.arr_each {α : Type} (l : List α) (f : Dev → α → Dev) (h : ∀ (e : Dev) (a : α), (f e a).arr w = e.arr w) :
    (d.each l f).arr w = d.arr w :=
  Dev.each_inv (P := fun e => e.arr w = d.arr w) l d rfl (fun e a he => (h e a).trans he)

/-! ### Command inputs (R75) -/

@[simp] theorem Dev.arr_putCmdx (m : MotorIx) (x : Nat) : (d.putCmdx m x).arr w = d.arr w := by
  unfold Dev.putCmdx
  dsimp only
  split <;> simp

@[simp] theorem Dev.arr_judgeCmd (m : MotorIx) : (d.judgeCmd m false).arr w = d.arr w := by
  unfold Dev.judgeCmd
  dsimp only
  split <;> simp

@[simp] theorem Dev.arr_measureCmd (m : MotorIx) (x : Nat) : (d.measureCmd m x false).arr w = d.arr w := by
  simp [Dev.measureCmd]

/-! ### Thermal requests and readings (R452 to R456) -/

@[simp] theorem Dev.arr_thermFeed (p : GroupIx) : (d.thermFeed p).arr w = d.arr w := by
  obtain h | ⟨s, f, u, h⟩ := d.thermFeed_cases p <;> rw [h]
  exact Dev.arr_onPrm _ p _ (fun _ => rfl) (fun _ _ => rfl)

@[simp] theorem Dev.arr_thermOver (p : GroupIx) (s : SensorIx) : (d.thermOver p s).arr w = d.arr w := by
  unfold Dev.thermOver
  simp

theorem Dev.arr_thermJudge (s : SensorIx) (bit cause src : Nat) (thr : Int) (first : Option Nat) (h : w.word cause = false) :
    (d.thermJudge s bit cause src thr first).1.arr w = d.arr w := by
  have h1 : w.word 0x1001 = false := ArrWatch.word_eq_false (by omega) (by omega)
  have h5 : w.word 0x1005 = false := ArrWatch.word_eq_false (by omega) (by omega)
  unfold Dev.thermJudge
  dsimp only
  generalize (if d.bit 0x1001 (bit + s.1) then decide (d.sw (aSen s 4) < thr - d.uw (aSen s 3))
    else decide (thr ≤ d.sw (aSen s 4))) = met
  split
  · rfl
  · split
    · rfl
    · split <;> simp [h, h1, h5]

@[simp] theorem Dev.arr_thermReading (s : SensorIx) (v : Word) : (d.thermReading s v).arr w = d.arr w := by
  unfold Dev.thermReading
  dsimp only
  rw [Dev.arr_onSen, Dev.arr_thermJudge _ _ _ _ _ _ _ (ArrWatch.word_eq_false (by omega) (by omega)),
    Dev.arr_thermJudge _ _ _ _ _ _ _ (ArrWatch.word_eq_false (by omega) (by omega))]
  simp

/-! ### The supply block (R186 to R189, R193) -/

theorem Dev.arr_setBrk (g : GroupIx) (h : w.supply = false) : (d.setBrk g).arr w = d.arr w := by
  have hw : w.word (aSup g 7) = false := ArrWatch.word_aSup g (by omega) h
  simp [Dev.setBrk, Dev.arr_onGrp _ _ _ h, hw]

theorem Dev.arr_setLevel (g : GroupIx) (new : Nat) (h : w.supply = false) : (d.setLevel g new).arr w = d.arr w := by
  have hw {o : Nat} (ho : o < 0x40) : w.word (aSup g o) = false := ArrWatch.word_aSup g ho h
  simp [Dev.setLevel, Dev.chopFault, Dev.arr_setBrk _ _ h, Dev.arr_onGrp _ _ _ h, hw]

theorem Dev.arr_supEvaluate (g : GroupIx) (v : Nat) (h : w.supply = false) : (d.supEvaluate g v).arr w = d.arr w := by
  have hw {o : Nat} (ho : o < 0x40) : w.word (aSup g o) = false := ArrWatch.word_aSup g ho h
  simp [Dev.supEvaluate, Dev.arr_setLevel _ _ _ h, Dev.arr_onGrp _ _ _ h, hw]

/-! ### Reading a closed value (R75, R183, R452) -/

/-- The engines and the thermal system read a closed value. -/
def Dev.readRest (d : Dev) (p : GroupIx) (a : Fin 64) (v : Word) : Dev :=
  let d := d.each ((motsOf p).filter (fun m => d.cmdForm m = 1 && d.ifld (aMot m 0x40) 7 2 = a.1))
    (fun d m => d.measureCmd m v.toNat false)
  (d.each ((List.finRange 5).filter (fun s => (d.sen s).sent && (d.sen s).sentArr = p && (d.sen s).acc = a.1))
    (fun d s => (d.thermReading s v).thermOver p s)).thermFeed p

theorem Dev.closeRead_eq (p : GroupIx) (a : Fin 64) : d.closeRead p a =
    (if d.fld (aSup p 0) 7 2 = a.1 then d.supEvaluate p (d.w (aAcc p a 2)).toNat else d).readRest p a (d.w (aAcc p a 2)) := rfl

@[simp] theorem Dev.arr_readRest (p : GroupIx) (a : Fin 64) (v : Word) : (d.readRest p a v).arr w = d.arr w := by
  unfold Dev.readRest
  dsimp only
  rw [Dev.arr_thermFeed, Dev.arr_each _ _ _ (fun e s => by simp), Dev.arr_each _ _ _ (fun e m => by simp)]

theorem Dev.arr_closeRead (p : GroupIx) (a : Fin 64) (h : w.supply = false) : (d.closeRead p a).arr w = d.arr w := by
  rw [Dev.closeRead_eq, Dev.arr_readRest]
  split
  · exact d.arr_supEvaluate p _ h
  · rfl

end Sys2Proof.Machine
end

section
/-! A count that closes, in its steps, and what the operations on counts and trackers leave (R236 to R245). -/

namespace Sys2Proof.Machine

open Sys2Proof

variable {w : ArrWatch} (d : Dev) (p : GroupIx) (a : Fin 64)

/-! ### Trackers (R241, R242) -/

theorem Dev.arr_onTrk (f : Vector Trk 32 → Vector Trk 32) : (d.onPrm p (fun x => { x with trk := f x.trk })).arr w = d.arr w :=
  d.arr_onPrm p _ (fun _ => rfl) (fun _ _ => rfl)

theorem Dev.arr_restartTrk (t : Fin 32) : (d.restartTrk p t).arr w = d.arr w := by
  unfold Dev.restartTrk
  dsimp only
  rw [Dev.arr_onTrk _ p (fun x => upd x t _), Dev.arr_put _ _ _ (by simp), Dev.arr_put _ _ _ (by simp), Dev.arr_put _ _ _ (by simp)]

theorem Dev.arr_restartTrks : (d.restartTrks p).arr w = d.arr w := d.arr_each _ _ fun e t => e.arr_restartTrk p t

theorem Dev.arr_showTrk (t : Fin 32) : (d.showTrk p t).arr w = d.arr w := by
  unfold Dev.showTrk
  dsimp only
  rw [Dev.arr_put _ _ _ (by simp), Dev.arr_put _ _ _ (by simp), Dev.arr_put _ _ _ (by simp)]

/-- The trackers that watch a sample leave everything but themselves. -/
theorem Dev.arr_watch (y : Int) : (d.watch p a y).arr w = d.arr w := by
  refine d.arr_each _ _ fun e t => ?_
  have htrk := fun f => e.arr_onTrk (w := w) p (fun x => upd x t f)
  dsimp only
  split
  · exact htrk _
  · exact (Dev.arr_showTrk _ p t).trans (htrk _)

/-! ### Counts (R235 to R240) -/

theorem Dev.arr_onAcc (f : Acc → Acc) (h : w.counts = false) : (d.onAcc p a f).arr w = d.arr w :=
  d.arr_onPrm p _ (fun _ => rfl) (fun hc => absurd hc (by rw [h]; decide))

theorem Dev.onAcc_acc (f : Acc → Acc) : (d.onAcc p a f).acc p a = f (d.acc p a) := by
  unfold Dev.acc Dev.onAcc
  rw [Dev.onPrm_prm]
  exact upd_self _ _ _

theorem Dev.arr_newCount (h : w.counts = false) : (d.newCount p a).arr w = d.arr w := by
  unfold Dev.newCount
  dsimp only
  rw [Dev.arr_each _ _ _ (fun e t => e.arr_onTrk p (fun x => upd x t _)), Dev.arr_onAcc _ p a _ h]

/-- A new count has no samples. -/
theorem Dev.newCount_empty : ((d.newCount p a).acc p a).n = 0 ∧ ((d.newCount p a).acc p a).sum = 0 := by
  refine Dev.each_inv (P := fun e => (e.acc p a).n = 0 ∧ (e.acc p a).sum = 0) _ _ ?_ (fun e t h => ?_)
  · rw [Dev.onAcc_acc]
    exact ⟨rfl, rfl⟩
  · unfold Dev.acc at h ⊢
    rw [Dev.onPrm_prm]
    exact h

/-! ### A count that closes (R236, R240, R242) -/

/-- The word STAT of a closed count. -/
def closeStat (cnt : Nat) (xs late sat : Bool) : Word := word (cnt * 256 + xs.toNat * 8 + late.toNat * 4 + sat.toNat * 2 + 1)

theorem bits_closeStat {cnt : Nat} (h : cnt < 256) (xs late sat : Bool) : bits (closeStat cnt xs late sat) 15 8 = cnt := by
  have hxs := xs.toNat_le
  have hlate := late.toNat_le
  have hsat := sat.toNat_le
  unfold closeStat word bits
  rw [BitVec.toNat_ofNat, Nat.shiftRight_eq_div_pow]
  omega

theorem bitOf_closeStat {cnt : Nat} (xs late sat : Bool) :
    bitOf (closeStat cnt xs late sat) 0 = true ∧ bitOf (closeStat cnt xs late sat) 1 = sat ∧
    bitOf (closeStat cnt xs late sat) 2 = late ∧ bitOf (closeStat cnt xs late sat) 3 = xs := by
  have hbit (i : Nat) (hi : i < 16) (b : Bool)
      (h : (cnt * 256 + xs.toNat * 8 + late.toNat * 4 + sat.toNat * 2 + 1) / 2 ^ i % 2 = b.toNat) :
      bitOf (closeStat cnt xs late sat) i = b := by
    unfold closeStat word bitOf
    rw [BitVec.getLsbD_ofNat, decide_eq_true hi, Bool.true_and, Nat.testBit_eq_decide_div_mod_eq, h]
    cases b <;> rfl
  have hxs := xs.toNat_le
  have hlate := late.toNat_le
  have hsat := sat.toNat_le
  exact ⟨hbit 0 (by decide) true (by rw [Bool.toNat_true]; omega), hbit 1 (by decide) sat (by omega),
    hbit 2 (by decide) late (by omega), hbit 3 (by decide) xs (by omega)⟩

/-- VAL and STAT show the count, and a limited value its cause where SATEV is set. -/
def Dev.showClose (d : Dev) (p : GroupIx) (a : Fin 64) (late : Bool) : Dev :=
  let c := d.acc p a
  let d := (d.put (aAcc p a 2) (iword c.value.1)).put (aAcc p a 3)
    (closeStat ((d.fld (aAcc p a 3) 15 8 + 1) % 256) c.xs late c.value.2)
  if c.value.2 && bitOf c.cfg 13 then d.cause (aPrm p 2) 4 (20 + p.1) else d

/-- A late close shows in LATE of the slots that read the count (R26). -/
def Dev.lateReads (d : Dev) (p : GroupIx) (a : Fin 64) : Dev :=
  d.each (motsOf p) (fun d m => d.when (d.readsAcc m a.1) (fun d => d.setB (aGrp p 4) (slotOf m).1))

/-- The windowed trackers of the count take its extremes. -/
def Dev.closeTrks (d : Dev) (p : GroupIx) (a : Fin 64) : Dev :=
  d.each ((d.watchers p a).filter (fun t => bitOf ((d.prm p).trk[t]).cfg 6)) (fun d t =>
    let d := d.showTrk p t
    d.onPrm p (fun x => { x with trk := upd x.trk t (fun k => { cfg := d.w (aTrk p t 0) }) }))

/-- The count is over: a FRAME count stays closed, a FREE one begins again. -/
def Dev.endCount (d : Dev) (p : GroupIx) (a : Fin 64) (frame : Bool) : Dev :=
  if frame then d.onAcc p a (fun c => { c with closed := true }) else d.newCount p a

theorem Dev.closeCount_eq (late : Bool) : d.closeCount p a late =
    ((((if late then (d.showClose p a late).lateReads p a else d.showClose p a late).closeTrks p a).onAcc p a
      (fun c => { c with xs := false })).endCount p a (d.acc p a).frame) := rfl

theorem Dev.arr_lateReads : (d.lateReads p a).arr w = d.arr w := by
  refine d.arr_each _ _ fun e m => ?_
  unfold Dev.when
  split
  · exact e.arr_setB _ _ (by simp)
  · rfl

theorem Dev.arr_closeTrks : (d.closeTrks p a).arr w = d.arr w :=
  d.arr_each _ _ fun e t => (Dev.arr_onTrk _ p (fun x => upd x t _)).trans (e.arr_showTrk p t)

/-- After VAL and STAT show a closed count, everything but the count itself and its trackers is as they left it. -/
theorem Dev.arr_afterShow (late : Bool) :
    ((if late then (d.showClose p a late).lateReads p a else d.showClose p a late).closeTrks p a).arr w =
      (d.showClose p a late).arr w := by
  rw [Dev.arr_closeTrks]
  split
  · exact Dev.arr_lateReads _ p a
  · rfl

theorem Dev.arr_showClose (late : Bool) (h : w.counts = false) : (d.showClose p a late).arr w = d.arr w := by
  have hword {o : Nat} (ho : o < 0x800) : w.word (aPrm p o) = false := ArrWatch.word_aPrm p ho h
  have hacc {o : Nat} (ho : o < 4) : w.word (aAcc p a o) = false := hword (by omega)
  unfold Dev.showClose
  dsimp only
  rw [Dev.arr_ite, Dev.arr_cause _ _ _ _ (hword (by decide)), ite_self, Dev.arr_put _ _ _ (hacc (by decide)),
    Dev.arr_put _ _ _ (hacc (by decide))]

theorem Dev.arr_closeCount (late : Bool) (h : w.counts = false) : (d.closeCount p a late).arr w = d.arr w := by
  have hend (e : Dev) (frame : Bool) : (e.endCount p a frame).arr w = e.arr w := by
    unfold Dev.endCount
    split
    · exact e.arr_onAcc p a _ h
    · exact e.arr_newCount p a h
  rw [Dev.closeCount_eq, hend, Dev.arr_onAcc _ p a _ h, Dev.arr_afterShow, Dev.arr_showClose d p a late h]

theorem Dev.arr_closed (late : Bool) (hc : w.counts = false) (hs : w.supply = false) : (d.closed p a late).arr w = d.arr w := by
  have hclose := d.arr_closeCount p a late hc
  unfold Dev.closed
  dsimp only
  split
  · split
    · exact hclose
    · exact (Dev.arr_with_closeLate _ _).trans hclose
  · exact (Dev.arr_closeRead _ p a hs).trans hclose

/-! ### PLL_PRISM has lock again (R245, R514) -/

theorem Dev.arr_restartSeq : (d.restartSeq p).arr w = d.arr w := d.arr_onPrm p _ (fun _ => rfl) (fun _ _ => rfl)

theorem Dev.arr_resumeSeq : (d.resumeSeq p).arr w = d.arr w := by
  have hkeep {f : Prism → Prism} (h : ∀ x, ((f x).flight, (f x).acc) = (x.flight, x.acc)) : (d.onPrm p f).arr w = d.arr w :=
    d.arr_onPrm p f (fun x => congrArg (·.1) (h x)) (fun _ x => congrArg (·.2) (h x))
  unfold Dev.resumeSeq Dev.startSeq
  split
  · split
    · exact hkeep fun _ => rfl
    · exact (Dev.arr_restartSeq _ p).trans (hkeep fun _ => rfl)
  · exact hkeep fun _ => rfl

/-- The conversions in flight are discarded. -/
def Dev.dropFlight (d : Dev) (p : GroupIx) : Dev := d.onPrm p (fun x => { x with flight := [] })

theorem Dev.arr_discardPartial (h : w.counts = false) : (d.discardPartial p).arr w = (d.dropFlight p).arr w :=
  Dev.arr_each _ _ _ fun e c => by
    dsimp only
    split
    · exact e.arr_newCount p c h
    · rfl

/-- What the return of lock leaves beside the counts and the supply groups: all but the conversions in flight. -/
theorem Dev.arr_prismBack (hc : w.counts = false) (hs : w.supply = false) : (d.prismBack p).arr w = (d.dropFlight p).arr w := by
  unfold Dev.prismBack
  rw [Dev.arr_resumeSeq, Dev.arr_each _ _ _ (fun e c => ?_), Dev.arr_restartTrks, Dev.arr_discardPartial d p hc]
  dsimp only
  split
  · exact e.arr_closed p c true hc hs
  · rfl

theorem Dev.mst_prismBack : (d.prismBack p).mst = d.mst := by
  unfold Dev.prismBack
  rw [Dev.mst_resumeSeq, Dev.mst_each _ _ (fun e c => ?_), Dev.mst_restartTrks, Dev.mst_discardPartial]
  dsimp only
  split
  · exact e.mst_closed p c true
  · rfl

end Sys2Proof.Machine
end

section
/-! The statement on coefficients, trackers and PLL_PRISM (R219 to R222, R242, R245). -/

namespace Sys2Proof.Machine

open Sys2Proof

/-! ### The coefficient update (R220, R221) -/

/-- The ten bits of a written skew. -/
theorem toInt_skewWord {k : Int} (h : -512 ≤ k) (h' : k ≤ 511) : (BitVec.ofNat 10 (iword k &&& 0x3FF).toNat).toInt = k := by
  have hmask : (0x3FF : Word).toNat = 2 ^ 10 - 1 := rfl
  have hlow : (iword k &&& 0x3FF).toNat = (k % 1024).toNat := by
    unfold iword
    rw [BitVec.toNat_and, BitVec.toNat_ofInt, hmask, Nat.and_two_pow_sub_one_eq_mod]
    omega
  have hten : BitVec.ofNat 10 (k % 1024).toNat = BitVec.ofInt 10 k := by
    apply BitVec.eq_of_toNat_eq
    rw [BitVec.toNat_ofNat, BitVec.toNat_ofInt]
    omega
  rw [hlow, hten, BitVec.toInt_ofInt, Int.bmod_eq_of_le (by omega) (by omega)]

theorem held_of_ne {lo hi v : Int} (h : clampInt lo hi v ≠ v) : (held lo hi v).2 = true := bne_iff_ne.2 h

/-- The interval held enough samples in full mode. -/
theorem Prism.enough_iff {x : Prism} (h : x.lpAct = false) :
    x.enough = true ↔ ∀ i : Fin 4, 16 ≤ x.refz[i] ∧ 16 ≤ x.refh[i] := by
  unfold Prism.enough Prism.slices
  rw [h, if_neg Bool.false_ne_true, List.all_eq_true]
  exact ⟨fun hl i => of_decide_eq_true (hl i (List.mem_finRange i)), fun hl i _ => decide_eq_true (hl i)⟩

section

variable {s : State} {p : GroupIx}

theorem exec_coefficientUpdate_of_due (hc : 4096 ≤ (s.dev.prm p).conv) :
    exec (.coefficientUpdate p) s = .next { s with dev := s.dev.coefUpdate p } :=
  State.onDev_eq (f := fun d => if decide (4096 ≤ (d.prm p).conv) then d.coefUpdate p else d) (if_pos (decide_eq_true hc))

/-- What an update leaves of the coefficients, frozen or moved, is what it shows them from. -/
theorem Dev.coefMoves_kept (d : Dev) (p : GroupIx) : ∃ n, d.SlicesKept n ((List.finRange 4).flatMap (coefWords p)) (d.coefMoves p).1 := by
  unfold Dev.coefMoves
  split
  · exact ⟨0, rfl, rfl, rfl, fun _ _ => rfl⟩
  · obtain ⟨⟨hfree, hprisms, hmotors, hwords⟩, -⟩ := Dev.moveSlices_kept p (d.prm p).enough (d.prm p).slices (d, false)
    refine ⟨_, hfree, hprisms, hmotors, fun a ha => hwords a fun hm => ha ?_⟩
    obtain ⟨i, -, hi⟩ := List.mem_flatMap.1 hm
    exact List.mem_flatMap.2 ⟨i, List.mem_finRange i, hi⟩

theorem not_mem_coefWords_low {p : GroupIx} {o : Nat} (h : o < 0x10) : aPrm p o ∉ (List.finRange 4).flatMap (coefWords p) := by
  intro hm
  obtain ⟨i, -, hi⟩ := List.mem_flatMap.1 hm
  rw [mem_coefWords] at hi
  unfold aPrm at hi
  omega

/-- The coefficients of a slice after an update in full mode that is not frozen. -/
theorem Dev.coefUpdate_moved {d : Dev} {p : GroupIx} (hf : d.bit (aPrm p 0) 5 = false) (hlp : (d.prm p).lpAct = false)
    (i : Fin 4) : d.SliceMoved p i (d.free + i.1) (d.prm p).enough (d.coefUpdate p) (d.coefMoves p).2 := by
  have hmoves : d.coefMoves p = Dev.moveSlices p (d.prm p).enough (List.finRange 4) (d, false) := by
    unfold Dev.coefMoves Prism.slices
    rw [hf, hlp]
    rfl
  have hmoved := d.moveSlices_moved p (d.prm p).enough i
  rw [← hmoves] at hmoved
  refine hmoved.congr (fun _ _ => rfl) rfl (fun a ha => ?_) id
  obtain ⟨-, -, -, hsame, -⟩ := (d.coefMoves p).1.showCoefs_spec p (!(d.prm p).enough) (d.coefMoves p).2
  rw [d.coefUpdate_eq]
  rw [mem_coefWords] at ha
  exact hsame a (by split <;> simp [aPrm] at ha ⊢ <;> omega)

theorem coefficientUpdate_spec (hc : 4096 ≤ (s.dev.prm p).conv) :
    ∃ d, exec (.coefficientUpdate p) s = .next { s with dev := d } ∧ d.w (aPrm p 7) = s.dev.w (aPrm p 7) + 1 ∧
      (d.prm p).conv = (s.dev.prm p).conv - 4096 ∧ (∀ i : Fin 4, (d.prm p).refz[i] = 0 ∧ (d.prm p).refh[i] = 0) ∧
      (s.dev.bit (aPrm p 0) 5 = true → s.dev.SameWords d [aPrm p 7, aPrm p 8]) ∧ d.motors = s.dev.motors ∧
      (s.dev.bit (aPrm p 0) 5 = false → (s.dev.prm p).lpAct = false →
        ((∀ i : Fin 4, 16 ≤ (s.dev.prm p).refz[i] ∧ 16 ≤ (s.dev.prm p).refh[i]) → d.bit (aPrm p 8) 1 = false ∧
          ∀ i : Fin 4,
            let ofs := s.dev.sw (aPrm p (0x10 + 4 * i.1)) + truncDiv (Config.estimate (s.dev.free + i.1)).1 4
            let gain := s.dev.uw (aPrm p (0x11 + 4 * i.1)) + truncDiv (Config.estimate (s.dev.free + i.1)).2.1 4
            d.w (aPrm p (0x10 + 4 * i.1)) = iword (clampInt (-32768) 32767 ofs) ∧
            d.w (aPrm p (0x11 + 4 * i.1)) = iword (clampInt 0x7800 0x87FF gain) ∧
            (clampInt (-32768) 32767 ofs ≠ ofs ∨ clampInt 0x7800 0x87FF gain ≠ gain →
              d.bit (aPrm p 8) 0 = true ∧ d.bit (aPrm p 2) 4 = true)) ∧
        ((∃ i : Fin 4, (s.dev.prm p).refz[i] < 16 ∨ (s.dev.prm p).refh[i] < 16) → d.bit (aPrm p 8) 1 = true ∧
          ∀ i : Fin 4, d.w (aPrm p (0x10 + 4 * i.1)) = s.dev.w (aPrm p (0x10 + 4 * i.1)) ∧
            d.w (aPrm p (0x11 + 4 * i.1)) = s.dev.w (aPrm p (0x11 + 4 * i.1))) ∧
        ∀ i : Fin 4,
          let est := (Config.estimate (s.dev.free + i.1)).2.2
          let sk := (BitVec.ofNat 10 (s.dev.uw (aPrm p (0x12 + 4 * i.1)))).toInt
          ((s.dev.prm p).skew[i] < 256 → d.w (aPrm p (0x12 + 4 * i.1)) = s.dev.w (aPrm p (0x12 + 4 * i.1))) ∧
          (256 ≤ (s.dev.prm p).skew[i] → (BitVec.ofNat 10 (d.uw (aPrm p (0x12 + 4 * i.1)))).toInt =
            clampInt (-512) 511 (if sk < est then sk + 1 else if est < sk then sk - 1 else sk))) := by
  refine ⟨_, exec_coefficientUpdate_of_due hc, ?_⟩
  have hmoved (i : Fin 4) := fun hf hlp => Dev.coefUpdate_moved (d := s.dev) (p := p) hf hlp i
  obtain ⟨n, -, hprisms, hmotors, hwords⟩ := s.dev.coefMoves_kept p
  obtain ⟨hupd, hskip, hlim, hsame, hmotors', hconv, hzero⟩ :=
    (s.dev.coefMoves p).1.showCoefs_spec p (!(s.dev.prm p).enough) (s.dev.coefMoves p).2
  rw [← Dev.coefUpdate_eq] at hupd hskip hlim hsame hmotors' hconv hzero
  rw [Dev.prm_of_prisms hprisms] at hconv
  refine ⟨hupd.trans (by rw [hwords _ (not_mem_coefWords_low (by decide))]), hconv, hzero, fun hf => ?_, hmotors'.trans hmotors,
    fun hf hlp => ⟨fun hen => ?_, fun hfew => ?_, fun i => ?_⟩⟩
  · have hfrozen : s.dev.coefMoves p = (s.dev, false) := if_pos hf
    rw [hfrozen] at hsame
    exact hsame
  · have hen := (Prism.enough_iff hlp).2 hen
    rw [hen] at hskip
    refine ⟨hskip, fun i => ?_⟩
    obtain ⟨hofs, hgain, -, hl⟩ := hmoved i hf hlp
    rw [hen, if_pos rfl] at hofs hgain
    refine ⟨hofs, hgain, fun h => hlim (hl hen (Bool.or_eq_true_iff.2 ?_))⟩
    exact h.imp held_of_ne held_of_ne
  · have hen : (s.dev.prm p).enough = false := by
      rw [Bool.eq_false_iff, Ne, Prism.enough_iff hlp]
      obtain ⟨i, hi⟩ := hfew
      intro h
      have := h i
      omega
    rw [hen] at hskip
    refine ⟨hskip, fun i => ?_⟩
    obtain ⟨hofs, hgain, -, -⟩ := hmoved i hf hlp
    rw [hen, if_neg Bool.false_ne_true] at hofs hgain
    exact ⟨hofs, hgain⟩
  · obtain ⟨-, -, hskew, -⟩ := hmoved i hf hlp
    refine ⟨fun hfew => ?_, fun hmany => ?_⟩
    · rwa [Dev.skewMoves, decide_eq_false (Nat.not_le.2 hfew), Bool.and_false, if_neg Bool.false_ne_true] at hskew
    · rw [Dev.skewMoves, hlp, decide_eq_true hmany, if_pos (by rfl)] at hskew
      obtain ⟨hlo, hhi⟩ := clampInt_mem (lo := -512) (hi := 511) (by decide) _
      rw [Dev.uw, hskew]
      exact toInt_skewWord hlo hhi

/-! ### Trackers (R242) -/

/-- A write with CLR at 1 restarts its tracker. -/
theorem Dev.writeTrk_of_clear {d : Dev} {p : GroupIx} {t : Fin 32} {v : Word} (h : bitOf v 15 = true) :
    d.writeTrk p t v = (d.put (aTrk p t 0) (v &&& 0x7FFF)).restartTrk p t := by
  unfold Dev.writeTrk
  rw [h]
  rfl

/-- The words of a tracker that show its extremes read 0. -/
def Dev.clearTrk (d : Dev) (p : GroupIx) (t : Fin 32) : Dev := ((d.put (aTrk p t 1) 0).put (aTrk p t 2) 0).put (aTrk p t 3) 0

theorem Dev.restartTrk_eq (d : Dev) (p : GroupIx) (t : Fin 32) : d.restartTrk p t =
    (d.clearTrk p t).onPrm p (fun x => { x with trk := upd x.trk t (fun _ => { cfg := d.w (aTrk p t 0) }) }) := rfl

/-- The extremes of a cleared tracker read 0. -/
theorem Dev.clearTrk_spec (d : Dev) (p : GroupIx) (t : Fin 32) :
    (d.clearTrk p t).w (aTrk p t.1 1) = 0 ∧ (d.clearTrk p t).w (aTrk p t.1 2) = 0 ∧ (d.clearTrk p t).w (aTrk p t.1 3) = 0 ∧
    d.SameWords (d.clearTrk p t) [aTrk p t.1 1, aTrk p t.1 2, aTrk p t.1 3] := by
  have h12 : aTrk p t.1 1 ≠ aTrk p t.1 2 := by unfold aTrk aPrm; omega
  have h13 : aTrk p t.1 1 ≠ aTrk p t.1 3 := by unfold aTrk aPrm; omega
  have h23 : aTrk p t.1 2 ≠ aTrk p t.1 3 := by unfold aTrk aPrm; omega
  refine ⟨?_, ?_, ?_, ((d.sameWords_put _ (by simp)).trans (Dev.sameWords_put _ _ (by simp))).trans (Dev.sameWords_put _ _ (by simp))⟩
  · rw [Dev.clearTrk, Dev.w_put_ne _ _ h13, Dev.w_put_ne _ _ h12, Dev.w_put_self]
  · rw [Dev.clearTrk, Dev.w_put_ne _ _ h23, Dev.w_put_self]
  · rw [Dev.clearTrk, Dev.w_put_self]

/-- A restarted tracker shows no extremes and keeps its stored configuration. -/
theorem Dev.restartTrk_spec (d : Dev) (p : GroupIx) (t : Fin 32) :
    (d.restartTrk p t).w (aTrk p t.1 1) = 0 ∧ (d.restartTrk p t).w (aTrk p t.1 2) = 0 ∧ (d.restartTrk p t).w (aTrk p t.1 3) = 0 ∧
    (d.restartTrk p t).w (aTrk p t.1 0) = d.w (aTrk p t.1 0) ∧ ((d.restartTrk p t).prm p).trk[t] = { cfg := d.w (aTrk p t.1 0) } ∧
    (d.restartTrk p t).motors = d.motors ∧ d.SameWords (d.restartTrk p t) [aTrk p t.1 1, aTrk p t.1 2, aTrk p t.1 3] := by
  have h01 : aTrk p t.1 0 ≠ aTrk p t.1 1 := by unfold aTrk aPrm; omega
  have h02 : aTrk p t.1 0 ≠ aTrk p t.1 2 := by unfold aTrk aPrm; omega
  have h03 : aTrk p t.1 0 ≠ aTrk p t.1 3 := by unfold aTrk aPrm; omega
  obtain ⟨hmin, hmax, hstat, hsame⟩ := d.clearTrk_spec p t
  have hwords (a : Nat) : (d.restartTrk p t).w a = (d.clearTrk p t).w a := Dev.onPrm_w ..
  refine ⟨(hwords _).trans hmin, (hwords _).trans hmax, (hwords _).trans hstat,
    (hwords _).trans (hsame _ (by simp [h01, h02, h03])), ?_, ?_, fun a ha => (hwords a).trans (hsame a ha)⟩
  · rw [Dev.restartTrk_eq, Dev.onPrm_prm]
    exact upd_self ((d.clearTrk p t).prm p).trk t (fun _ => ({ cfg := d.w (aTrk p t.1 0) } : Trk))
  · rw [Dev.restartTrk_eq, Dev.onPrm_motors, Dev.clearTrk, Dev.put_motors, Dev.put_motors, Dev.put_motors]

theorem trackerRestart_spec (k : Master) (p : GroupIx) (t : Fin 32) (v : Word) (hg : s.dev.hasGrp p = true)
    (hw : s.dev.writeOk k (aTrk p t.1 0) = true) :
    ∃ d, exec (.trackerRestart k p t v) s = .next { s with dev := d } ∧ d.w (aTrk p t.1 1) = 0 ∧
      d.w (aTrk p t.1 2) = 0 ∧ d.w (aTrk p t.1 3) = 0 ∧ (d.prm p).trk[t] = { cfg := d.w (aTrk p t.1 0) } ∧
      d.bit (aTrk p t.1 0) 15 = false ∧ d.motors = s.dev.motors ∧
      s.dev.SameWords d [aTrk p t.1 0, aTrk p t.1 1, aTrk p t.1 2, aTrk p t.1 3] := by
  have hwrite := s.dev.fabWrite_trk k (withBit v 15 true) p t hw hg
  have hclear : bitOf (s.dev.merge (aTrk p t 0) (withBit v 15 true) ||| (withBit v 15 true &&& 0x8000)) 15 = true := by
    have h15 : (withBit v 15 true).getLsbD 15 = true := bitOf_withBit v 15 15 true (by decide) (by decide)
    unfold bitOf
    rw [BitVec.getLsbD_or, BitVec.getLsbD_and, h15]
    simp
  refine ⟨_, State.write_eq hwrite, ?_⟩
  generalize s.dev.merge (aTrk p t 0) (withBit v 15 true) ||| (withBit v 15 true &&& 0x8000) = mv at hclear
  rw [Dev.writeTrk_of_clear hclear]
  obtain ⟨hmin, hmax, hstat, hcfg, htrk, hmotors, hsame⟩ := (s.dev.put (aTrk p t 0) (mv &&& 0x7FFF)).restartTrk_spec p t
  refine ⟨hmin, hmax, hstat, by rw [hcfg]; exact htrk, ?_, hmotors, (s.dev.sameWords_put _ (by simp)).trans (hsame.mono (by simp))⟩
  rw [Dev.bit, hcfg, Dev.w_put_self]
  unfold bitOf
  rw [BitVec.getLsbD_and]
  simp

end

/-! ### The lock of PLL_PRISM (R245, R453) -/

/-- What the thermal system does while no array can convert: everything but its sensors stands as it stood. -/
structure Dev.ThermKept (d e : Dev) : Prop where
  arr : ∀ w : ArrWatch, e.arr w = d.arr w
  prisms : e.prisms = d.prisms
  motors : e.motors = d.motors

theorem Dev.ThermKept.trans {c d e : Dev} (h : c.ThermKept d) (h' : d.ThermKept e) : c.ThermKept e :=
  ⟨fun w => (h'.arr w).trans (h.arr w), h'.prisms.trans h.prisms, h'.motors.trans h.motors⟩

theorem Dev.thermKept_onSen (d : Dev) (s : SensorIx) (f : ThermSen → ThermSen) : d.ThermKept (d.onSen s f) :=
  ⟨fun _ => rfl, rfl, rfl⟩

theorem Dev.thermKept_missed (d : Dev) (s : SensorIx) : d.ThermKept (d.thermMissed s) :=
  ⟨fun _ => (Dev.arr_onSen _ _ _).trans (d.arr_putB _ _ _ (ArrWatch.word_aSen s (by decide))), rfl, rfl⟩

theorem Dev.thermKept_over {d : Dev} (p : GroupIx) (s : SensorIx) (h : d.power.prismLock = false) : d.ThermKept (d.thermOver p s) := by
  have hready (q : GroupIx) : (d.onSen s (fun x => { x with sent := false })).prmReady q = false := by
    unfold Dev.prmReady
    rw [Dev.onSen_power, h, Bool.and_false, Bool.false_and]
  unfold Dev.thermOver
  dsimp only
  rw [if_neg (by rw [hready, Bool.and_false]; exact Bool.false_ne_true)]
  exact d.thermKept_onSen s _

/-- An array without thermal requests. -/
def Prism.noThermal (x : Prism) : Prism :=
  { x with therm := none, inUrg := match x.inUrg with | some u => if u.thermal.isSome then none else some u | none => none }

/-- With no lock, dropping the requests of an array takes its own, and leaves all but the sensors (R453). -/
theorem Dev.thermDrop_of_unlocked {d : Dev} (p : GroupIx) (h : d.power.prismLock = false) :
    (d.onPrm p Prism.noThermal).ThermKept (d.thermDrop p) := by
  have hstep {e : Dev} (s : SensorIx) (hk : (d.onPrm p Prism.noThermal).ThermKept e) :
      (d.onPrm p Prism.noThermal).ThermKept ((e.thermMissed s).thermOver p s) := by
    have hmiss := hk.trans (e.thermKept_missed s)
    exact hmiss.trans (Dev.thermKept_over p s ((congrArg Power.prismLock (Dev.arr_power (hmiss.arr ⟨true, true⟩))).trans h))
  unfold Dev.thermDrop Dev.thermFlush
  dsimp only
  refine Dev.each_inv (P := fun e => (d.onPrm p Prism.noThermal).ThermKept e) _ _ ?_ (fun e s he => ?_)
  · exact Dev.each_inv (P := fun e => (d.onPrm p Prism.noThermal).ThermKept e) _ _ ⟨fun _ => rfl, rfl, rfl⟩
      (fun e s he => hstep s he)
  · exact (he.trans (e.thermKept_missed s)).trans (Dev.thermKept_onSen _ s _)

/-- CLOCK.STAT and the power control show whether PLL_PRISM runs and has lock (R462). -/
theorem Dev.syncPrismPll_spec (d : Dev) :
    d.syncPrismPll.power.prismLock = ((d.domOn 4 || d.domOn 5) && d.power.prismLock) ∧
    d.syncPrismPll.bit 0x810 0 = ((d.domOn 4 || d.domOn 5) && d.power.prismLock) ∧
    d.syncPrismPll.motors = d.motors ∧ d.SameWords d.syncPrismPll [0x810] := by
  unfold Dev.syncPrismPll
  dsimp only
  exact ⟨rfl, Dev.bit_putB_self _ _ _ _ (by decide), rfl,
    .trans (Dev.sameWords_put _ _ (by simp)) (Dev.sameWords_put _ _ (by simp))⟩

/-- The return of lock, or its loss, shows in CLOCK.STAT (R245, R462). -/
def Dev.withLock (d : Dev) (lock : Bool) : Dev :=
  ({ d with power := { d.power with prismLock := lock, prismLost := !lock } } : Dev).syncPrismPll

theorem Dev.withLock_spec (d : Dev) (lock : Bool) :
    (d.withLock lock).power.prismLock = ((d.domOn 4 || d.domOn 5) && lock) ∧
    (d.withLock lock).bit 0x810 0 = ((d.domOn 4 || d.domOn 5) && lock) ∧
    (d.withLock lock).motors = d.motors ∧ d.SameWords (d.withLock lock) [0x810] :=
  Dev.syncPrismPll_spec { d with power := { d.power with prismLock := lock, prismLost := !lock } }

theorem Dev.withLock_domOn (d : Dev) (lock : Bool) (n : Nat) : (d.withLock lock).domOn n = d.domOn n := by
  obtain ⟨-, -, -, hsame⟩ := d.withLock_spec lock
  exact Dev.bit_congr (hsame 0x801 (by simp)) n

theorem Dev.withLock_domRdy (d : Dev) (lock : Bool) (n : Nat) : (d.withLock lock).domRdy n = d.domRdy n := by
  obtain ⟨-, -, -, hsame⟩ := d.withLock_spec lock
  exact Dev.bit_congr (hsame 0x802 (by simp)) n

/-- An array has lost the clock of PLL_PRISM: its PLL cause, and no thermal request. -/
def Dev.ClockLost (p : GroupIx) (e : Dev) : Prop := e.bit (aPrm p 2) 5 = true ∧ (e.prm p).therm = none

theorem Dev.prismLost_step {d : Dev} (p : GroupIx) (h : d.power.prismLock = false) :
    Dev.ClockLost p ((d.cause (aPrm p 2) 0x20 (20 + p.1)).thermDrop p) ∧
    (∀ q, q ≠ p → Dev.ClockLost q d → Dev.ClockLost q ((d.cause (aPrm p 2) 0x20 (20 + p.1)).thermDrop p)) ∧
    ((d.cause (aPrm p 2) 0x20 (20 + p.1)).thermDrop p).power.prismLock = false ∧
    ((d.cause (aPrm p 2) 0x20 (20 + p.1)).thermDrop p).bit 0x810 0 = d.bit 0x810 0 ∧
    ((d.cause (aPrm p 2) 0x20 (20 + p.1)).thermDrop p).motors = d.motors := by
  have hcause : (d.cause (aPrm p 2) 0x20 (20 + p.1)).power.prismLock = false := (congrArg Power.prismLock (Dev.raise_power _ _)).trans h
  obtain ⟨harr, hprisms, hmotors⟩ := Dev.thermDrop_of_unlocked p hcause
  have harr := harr ⟨true, true⟩
  generalize (d.cause (aPrm p 2) 0x20 (20 + p.1)).thermDrop p = e at harr hprisms hmotors
  have hbit (q : GroupIx) : e.bit (aPrm q 2) 5 = (d.bit (aPrm q 2) 5 || (decide (aPrm q 2 = aPrm p 2) && (0x20 : Word).getLsbD 5)) := by
    rw [← Dev.bit_cause]
    exact Dev.bit_congr (Dev.arr_w harr (ArrWatch.word_aPrm_of_counts q (by decide) rfl)) 5
  refine ⟨⟨?_, ?_⟩, fun q hq hl => ⟨?_, ?_⟩, ?_, ?_, hmotors.trans (Dev.raise_motors _ _)⟩
  · rw [hbit]
    simp
  · rw [Dev.prm_of_prisms hprisms, Dev.onPrm_prm]
    rfl
  · rw [hbit, hl.1, Bool.true_or]
  · rw [Dev.prm_of_prisms hprisms, Dev.onPrm_prm_ne _ _ hq, Dev.prm_of_prisms (d.cause_prisms _ _ _)]
    exact hl.2
  · exact (congrArg Power.prismLock (Dev.arr_power harr)).trans hcause
  · exact (Dev.bit_congr (Dev.arr_w harr ArrWatch.word_stat) 0).trans (Dev.bit_congr (d.cause_w_ne _ _ (by unfold aPrm; omega)) 0)

theorem pllPrismLockLoss_spec {s : State} (hr : s.dev.runs = true) (hl : s.dev.power.prismLock = true) :
    ∃ d, exec .pllPrismLockLoss s = .next { s with dev := d } ∧ d.power.prismLock = false ∧ d.bit 0x810 0 = false ∧
      (∀ p, s.dev.hasGrp p = true → s.dev.prmOn p = true → d.bit (aPrm p 2) 5 = true ∧ (d.prm p).therm = none) ∧
      d.motors = s.dev.motors := by
  have hlost : s.dev.prismLost =
      (s.dev.withLock false).each ((List.finRange 4).filter (fun p => (s.dev.withLock false).hasGrp p && (s.dev.withLock false).prmOn p))
        (fun d p => (d.cause (aPrm p 2) 0x20 (20 + p.1)).thermDrop p) :=
    if_pos (by rw [Dev.resetN_of_runs hr, hl]; rfl)
  obtain ⟨hlock, hstat, hmotors, -⟩ := s.dev.withLock_spec false
  rw [Bool.and_false] at hlock hstat
  refine ⟨_, State.onDev_eq (f := Dev.prismLost) hlost, ?_⟩
  have hkeep : _ ∧ _ ∧ _ := Dev.each_inv (P := fun e => e.power.prismLock = false ∧ e.bit 0x810 0 = false ∧ e.motors = s.dev.motors)
    ((List.finRange 4).filter (fun p => (s.dev.withLock false).hasGrp p && (s.dev.withLock false).prmOn p))
    (s.dev.withLock false) (f := fun d p => (d.cause (aPrm p 2) 0x20 (20 + p.1)).thermDrop p) ⟨hlock, hstat, hmotors⟩
    (fun e p ⟨he, hb, hm⟩ => by
      obtain ⟨-, -, hlock', hstat', hmotors'⟩ := Dev.prismLost_step p he
      exact ⟨hlock', hstat'.trans hb, hmotors'.trans hm⟩)
  obtain ⟨hlock', hstat', hmotors'⟩ := hkeep
  refine ⟨hlock', hstat', fun p hg hon => ?_, hmotors'⟩
  have hmem : p ∈ (List.finRange 4).filter (fun p => (s.dev.withLock false).hasGrp p && (s.dev.withLock false).prmOn p) := by
    refine List.mem_filter.2 ⟨List.mem_finRange p, ?_⟩
    rw [Dev.prmOn, Dev.withLock_domOn]
    exact Bool.and_eq_true_iff.2 ⟨hg, hon⟩
  exact (Dev.each_once (I := fun e => e.power.prismLock = false) (P := fun e => Dev.ClockLost p e ∧ e.power.prismLock = false)
    _ ((List.nodup_finRange 4).filter _) hmem _ hlock (fun e q _ he => (Dev.prismLost_step q he).2.2.1)
    (fun e he => ⟨(Dev.prismLost_step p he).1, (Dev.prismLost_step p he).2.2.1⟩)
    (fun e q hq he => ⟨(Dev.prismLost_step q he.2).2.1 p hq.symm he.1, (Dev.prismLost_step q he.2).2.2.1⟩)).1

theorem pllPrismLockReturn_spec {s : State} (hr : s.dev.runs = true) (hl : s.dev.power.prismLock = false)
    (hstat : s.dev.bit 0x810 1 = true) (hon : s.dev.domOn 4 = true) :
    ∃ d, exec .pllPrismLockReturn s = .next { s with dev := d } ∧ d.power.prismLock = true ∧ d.bit 0x810 0 = true ∧
      (∀ m, (d.mot m).state = (s.dev.mot m).state) ∧
      ∀ p, s.dev.hasGrp p = true → s.dev.prmOn p = true → s.dev.domRdy (prismDom p) = true → (d.prm p).flight = [] := by
  have hback : s.dev.prismReturns =
      (s.dev.withLock true).each ((List.finRange 4).filter (fun p => (s.dev.withLock true).prmReady p)) Dev.prismBack :=
    if_pos (by rw [Dev.resetN_of_runs hr, hl, hstat]; rfl)
  obtain ⟨hlock, hshow, hmotors, -⟩ := s.dev.withLock_spec true
  have hboth : ((s.dev.domOn 4 || s.dev.domOn 5) && true) = true := by rw [hon]; rfl
  have hlock : (s.dev.withLock true).power.prismLock = true := hlock.trans hboth
  have hshow : (s.dev.withLock true).bit 0x810 0 = true := hshow.trans hboth
  refine ⟨_, State.onDev_eq (f := Dev.prismReturns) hback, ?_⟩
  have hstep (e : Dev) (q : GroupIx) := e.arr_prismBack (w := ⟨false, false⟩) q rfl rfl
  have hkeep : _ ∧ _ := Dev.each_inv (P := fun e => e.power.prismLock = true ∧ e.bit 0x810 0 = true)
    ((List.finRange 4).filter (fun p => (s.dev.withLock true).prmReady p)) (s.dev.withLock true) (f := Dev.prismBack) ⟨hlock, hshow⟩
    (fun e q ⟨he, hb⟩ => ⟨(congrArg Power.prismLock (Dev.arr_power (hstep e q))).trans he,
      (Dev.bit_congr (Dev.arr_w (hstep e q) ArrWatch.word_stat) 0).trans hb⟩)
  obtain ⟨hlock', hshow'⟩ := hkeep
  refine ⟨hlock', hshow', fun m => ?_, fun p hg hprm hrdy => ?_⟩
  · exact congrFun ((Dev.mst_each _ _ (fun e q => e.mst_prismBack q) _).trans (Dev.mst_of_motors hmotors)) m
  · have hmem : p ∈ (List.finRange 4).filter (fun p => (s.dev.withLock true).prmReady p) := by
      refine List.mem_filter.2 ⟨List.mem_finRange p, ?_⟩
      rw [Dev.prmReady, Dev.prmOn, Dev.withLock_domOn, Dev.withLock_domRdy, hlock, Bool.and_true]
      exact Bool.and_eq_true_iff.2 ⟨Bool.and_eq_true_iff.2 ⟨hprm, hrdy⟩, hg⟩
    refine Dev.each_once (I := fun _ => True) (P := fun e => (e.prm p).flight = []) _ ((List.nodup_finRange 4).filter _) hmem _
      trivial (fun _ _ _ _ => trivial) (fun e _ => ?_) (fun e q hq he => ?_)
    · rw [Dev.arr_flight (hstep e p), Dev.dropFlight, Dev.onPrm_prm]
    · rw [Dev.arr_flight (hstep e q), Dev.dropFlight, Dev.onPrm_prm_ne _ _ hq.symm]
      exact he

/-! ### The statement -/

/-- Settles O40: an update by what the slices move and what it shows of them; a write of CLR by the restart of its tracker;
a loss and a return of lock array by array. -/
theorem coefficientsAndPrismClock : Obligations.CoefficientsAndPrismClock := fun _ =>
  ⟨fun _ _ hc => coefficientUpdate_spec hc, trackerRestart_spec, pllPrismLockLoss_spec, pllPrismLockReturn_spec⟩

end Sys2Proof.Machine
end

section
/-! Results of conversions that enter their accumulators, and what a closed count shows (R213 to R219, R235 to R240). -/

namespace Sys2Proof.Machine

open Sys2Proof

/-! ### The corrected code and the value of a count (R218, R236) -/

theorem Dev.correct_eq (d : Dev) (p : GroupIx) (sl : Nat) {ch : Nat} (raw : Word) (hres : reservedCh ch = false) (hch : ch ≠ 39) :
    d.correct p sl ch raw =
      (if signedCh ch then clampInt (-32768) 32767
        ((16 * raw.toInt - d.sw (aPrm p (0x10 + 4 * sl))) * d.uw (aPrm p (0x11 + 4 * sl)) / 2 ^ 19)
      else clampInt 0 65535
        ((16 * (raw.toNat : Int) - d.sw (aPrm p (0x10 + 4 * sl))) * d.uw (aPrm p (0x11 + 4 * sl)) / 2 ^ 19)) := by
  unfold Dev.correct
  rw [hres, decide_eq_false hch, Bool.false_and, Bool.false_or, if_neg Bool.false_ne_true]
  dsimp only
  rw [if_neg hch]
  cases signedCh ch <;> rfl

theorem Acc.value_eq (c : Acc) :
    c.value.1 = (if bitOf c.cfg 14 then clampInt (-32768) 32767 (c.sum / 2 ^ min 8 (bits c.cfg 11 8))
      else clampInt 0 65535 (c.sum / 2 ^ min 8 (bits c.cfg 11 8))) ∧
    c.value.2 = decide (c.value.1 ≠ c.sum / 2 ^ min 8 (bits c.cfg 11 8)) :=
  ⟨rfl, Bool.eq_iff_iff.2 (bne_iff_ne.trans decide_eq_true_iff.symm)⟩

/-! ### Slots (R212, R219, R233) -/

section

variable {s : State} {p : GroupIx}

theorem exec_conversionSlot_of_unready (hr : s.dev.prmReady p = false) : exec (.conversionSlot p) s = .next s :=
  State.onDev_eq (f := fun d => if d.prmReady p then (d.slot p).thermFeed p else d) (if_neg (by rw [hr]; decide))

/-- The entry in progress samples its channel for its accumulator. -/
theorem conversionSlot_entry (hr : s.dev.prmReady p = true) (hp : (s.dev.prm p).pwr = true) (hu : (s.dev.prm p).inUrg = none)
    (hn : (s.dev.prm p).nextUrgent = none) (hph : (s.dev.prm p).phase = .entry) (hl : 0 < (s.dev.prm p).left) :
    ∃ d sl, exec (.conversionSlot p) s = .next { s with dev := d } ∧ (d.prm p).conv = (s.dev.prm p).conv + 1 ∧
      (d.prm p).flight = (s.dev.prm p).flight ++
        [{ slice := sl, ch := bits (s.dev.prm p).word 15 10, acc := bits (s.dev.prm p).word 9 4 }] ∧ sl < 4 ∧
      (∀ a, d.w a = s.dev.w a) ∧ d.motors = s.dev.motors := by
  have hslot := Dev.slot_of_entry hr hp hu hn (if_neg (by simp; omega)) hph hl
  obtain ⟨⟨sl, hsl, hf, hc⟩, hw, hm, -⟩ := Dev.slot_samples hslot rfl rfl rfl rfl
  exact ⟨_, sl, exec_conversionSlot_of_ready s p hr, hc, hf, hsl, Dev.w_of_words hw, hm⟩

/-- The first urgent request that waits samples its channel, and goes on while it has samples left. -/
theorem conversionSlot_urgent (hr : s.dev.prmReady p = true) (hp : (s.dev.prm p).pwr = true) (hu : (s.dev.prm p).inUrg = none)
    {u : Urgent} {y : Prism} (hn : (s.dev.prm p).nextUrgent = some (u, y)) :
    ∃ d sl, exec (.conversionSlot p) s = .next { s with dev := d } ∧ (d.prm p).conv = (s.dev.prm p).conv + 1 ∧
      (d.prm p).flight = (s.dev.prm p).flight ++ [{ slice := sl, ch := u.ch, acc := u.acc }] ∧ sl < 4 ∧
      (d.prm p).inUrg = (if u.left ≤ 1 then none else some { u with left := u.left - 1 }) ∧
      (∀ a, d.w a = s.dev.w a) ∧ d.motors = s.dev.motors := by
  obtain ⟨hflight, hconv⟩ := Prism.nextUrgent_keeps hn
  have hslot := Dev.slot_of_urgent hr hp hu hn
  obtain ⟨⟨sl, hsl, hf, hc⟩, -, -⟩ := (s.dev.onPrm p (fun _ => { y with inUrg := some u })).issue_spec p u.ch u.acc false 1
  rw [Dev.onPrm_prm] at hf hc
  have hfeed := (s.dev.slot p).slotKept_thermFeed p
  refine ⟨_, sl, exec_conversionSlot_of_ready s p hr, ?_, ?_, hsl, ?_, fun a => (Dev.w_of_words hfeed.words a).trans ?_,
    hfeed.motors.trans ?_⟩
  · rw [hfeed.conv, hslot, Dev.onPrm_prm]
    exact hc.trans (by rw [hconv])
  · rw [hfeed.flight, hslot, Dev.onPrm_prm]
    exact hf.trans (by rw [hflight])
  · rw [hfeed.inUrg, hslot, Dev.onPrm_prm]
  · rw [hslot]
    rfl
  · rw [hslot]
    rfl

end

/-! ### A sample enters its accumulator (R235 to R239) -/

/-- A count with one sample more. -/
def Acc.add (c : Acc) (y : Int) : Acc :=
  { c with sum := c.sum + (if bitOf c.cfg 14 then (iword y).toInt else ((iword y).toNat : Int)), n := c.n + 1 }

/-- A count takes a sample: it is neither a FRAME count that has closed nor one that has all its samples. -/
def Acc.takes (c : Acc) : Prop := c.frame = false ∨ c.closed = false ∧ c.n < c.total

/-- The accumulator takes a sample, and its trackers watch it. -/
def Dev.addSample (d : Dev) (p : GroupIx) (a : Fin 64) (y : Int) : Dev :=
  let c := d.acc p a
  (d.onAcc p a (fun c' => { c' with
      sum := c'.sum + (if bitOf c.cfg 14 then (iword y).toInt else ((iword y).toNat : Int)), n := c'.n + 1 })).watch p a
    (if bitOf c.cfg 14 then (iword y).toInt else ((iword y).toNat : Int))

/-- A sample enters its accumulator, and a count that is over closes. -/
def Dev.enterAcc (d : Dev) (p : GroupIx) (a : Fin 64) (y : Int) : Dev :=
  match d.accEnter p a y with
  | (d, .counted) => d
  | (d, .closeNow) => d.closed p a false
  | (d, .closeLate) => d.closed p a true

/-- The oldest conversion in flight has landed. -/
def Dev.land (d : Dev) (p : GroupIx) (rest : List Conv) : Dev := d.onPrm p (fun x => { x with flight := rest })

section

variable (d : Dev) (p : GroupIx) (a : Fin 64) (y : Int)

theorem Dev.addSample_acc : (d.addSample p a y).acc p a = (d.acc p a).add y := by
  unfold Dev.addSample
  rw [Dev.arr_acc (w := ⟨true, true⟩) (Dev.arr_watch _ p a _) rfl, Dev.onAcc_acc]
  rfl

/-- Taking a sample leaves all but the count and its trackers. -/
theorem Dev.arr_addSample {w : ArrWatch} (h : w.counts = false) : (d.addSample p a y).arr w = d.arr w :=
  (Dev.arr_watch _ p a _).trans (d.arr_onAcc p a _ h)

theorem Dev.addSample_w {b : Nat} (h : (ArrWatch.mk true true).word b = true) : (d.addSample p a y).w b = d.w b :=
  Dev.arr_w (Dev.arr_watch _ p a _) h

theorem Dev.watch_motors (z : Int) : (d.watch p a z).motors = d.motors := by
  refine Dev.each_inv (P := fun e => e.motors = d.motors) _ _ rfl (fun e t h => ?_)
  dsimp only
  split
  · exact h
  · exact h

theorem Dev.addSample_motors : (d.addSample p a y).motors = d.motors := Dev.watch_motors _ p a _

theorem Dev.frameTick_congr {d e : Dev} (h : e.arr ⟨false, true⟩ = d.arr ⟨false, true⟩) : e.frameTick p = d.frameTick p := by
  unfold Dev.frameTick
  rw [Dev.arr_grp h rfl, show e.cycles = d.cycles from congrArg ArrView.cycles h]

theorem Dev.closePoint_congr {d e : Dev} (h : e.arr ⟨false, true⟩ = d.arr ⟨false, true⟩) (c : Acc) :
    e.closePoint p c = d.closePoint p c := by
  unfold Dev.closePoint
  rw [Dev.arr_grp h rfl]

variable {d p a y}

/-- A sample after the close of a FRAME count shows in XS of STAT (R239). -/
theorem Dev.enterAcc_of_closed (hw : (d.acc p a).waits = false) (hf : (d.acc p a).frame = true) (hc : (d.acc p a).closed = true) :
    d.enterAcc p a y = d.putB (aAcc p a 3) 3 true := by
  unfold Dev.enterAcc Dev.accEnter
  simp [hw, hf, hc]

/-- A sample after the last one of a FRAME count that still waits for its close point shows in the XS of that close (R239). -/
theorem Dev.enterAcc_of_full (hw : (d.acc p a).waits = false) (hf : (d.acc p a).frame = true) (hc : (d.acc p a).closed = false)
    (hn : (d.acc p a).total ≤ (d.acc p a).n) : d.enterAcc p a y = d.onAcc p a (fun c => { c with xs := true }) := by
  unfold Dev.enterAcc Dev.accEnter
  simp [hw, hf, hc, hn]

/-- What becomes of a sample that its count takes. -/
theorem Dev.accEnter_of_takes (hw : (d.acc p a).waits = false) (ht : (d.acc p a).takes) :
    d.accEnter p a y =
      if (d.acc p a).n + 1 < (d.acc p a).total then (d.addSample p a y, .counted)
      else if (d.acc p a).frame then
        if d.frameTick p < d.closePoint p (d.acc p a) then (d.addSample p a y, .counted)
        else if d.frameTick p = d.closePoint p (d.acc p a) then (d.addSample p a y, .closeNow)
        else (d.addSample p a y, .closeLate)
      else (d.addSample p a y, .closeNow) := by
  have hfull : ((d.acc p a).frame && ((d.acc p a).closed || decide ((d.acc p a).total ≤ (d.acc p a).n))) = false := by
    obtain h | ⟨hc, hn⟩ := ht
    · rw [h, Bool.false_and]
    · rw [hc, decide_eq_false (Nat.not_le.2 hn), Bool.or_self, Bool.and_false]
  rw [← Dev.frameTick_congr p (d.arr_addSample p a y rfl), ← Dev.closePoint_congr p (d.arr_addSample p a y rfl)]
  unfold Dev.accEnter
  dsimp only
  rw [hw, Bool.false_and, Bool.false_and, if_neg Bool.false_ne_true, hfull, if_neg Bool.false_ne_true]
  rfl

/-- A count that is not over, or waits for its close point, takes the sample. -/
theorem Dev.enterAcc_of_waiting (hw : (d.acc p a).waits = false) (ht : (d.acc p a).takes)
    (h : (d.acc p a).n + 1 < (d.acc p a).total ∨ (d.acc p a).frame = true ∧ d.frameTick p < d.closePoint p (d.acc p a)) :
    d.enterAcc p a y = d.addSample p a y := by
  unfold Dev.enterAcc
  rw [Dev.accEnter_of_takes hw ht]
  by_cases hn : (d.acc p a).n + 1 < (d.acc p a).total
  · rw [if_pos hn]
  · obtain ⟨hf, hpt⟩ := h.resolve_left hn
    rw [if_neg hn, if_pos hf, if_pos hpt]

/-- A count that is over, and whose close point has come where it has one, takes the sample and closes. -/
theorem Dev.enterAcc_of_over (hw : (d.acc p a).waits = false) (ht : (d.acc p a).takes)
    (hn : (d.acc p a).total ≤ (d.acc p a).n + 1)
    (h : (d.acc p a).frame = false ∨ d.closePoint p (d.acc p a) ≤ d.frameTick p) :
    d.enterAcc p a y = (d.addSample p a y).closed p a ((d.acc p a).frame && decide (d.closePoint p (d.acc p a) < d.frameTick p)) := by
  unfold Dev.enterAcc
  rw [Dev.accEnter_of_takes hw ht, if_neg (Nat.not_lt.2 hn)]
  cases hf : (d.acc p a).frame
  case false => rfl
  case true =>
    have hpt := h.resolve_left (by rw [hf]; decide)
    rw [if_pos rfl, if_neg (Nat.not_lt.2 hpt), Bool.true_and]
    obtain heq | hlt := Nat.eq_or_lt_of_le hpt
    · rw [if_pos heq.symm, decide_eq_false (by omega)]
    · rw [if_neg (by omega), decide_eq_true hlt]

/-- Whatever becomes of a sample, the conversions still in flight stay. -/
theorem Dev.arr_enterAcc (hw : (d.acc p a).waits = false) : (d.enterAcc p a y).arr ⟨false, false⟩ = d.arr ⟨false, false⟩ := by
  have hadd := d.arr_addSample (w := ⟨false, false⟩) p a y rfl
  by_cases ht : (d.acc p a).takes
  · by_cases h : (d.acc p a).n + 1 < (d.acc p a).total ∨ (d.acc p a).frame = true ∧ d.frameTick p < d.closePoint p (d.acc p a)
    · rwa [Dev.enterAcc_of_waiting hw ht h]
    · obtain ⟨hn, hpt⟩ := not_or.1 h
      have hpt : (d.acc p a).frame = false ∨ d.closePoint p (d.acc p a) ≤ d.frameTick p := by
        rw [not_and_or, Bool.not_eq_true, Nat.not_lt] at hpt
        exact hpt
      rw [Dev.enterAcc_of_over hw ht (Nat.not_lt.1 hn) hpt]
      exact (Dev.arr_closed _ p a _ rfl rfl).trans hadd
  · obtain ⟨hf, hfull⟩ := not_or.1 ht
    rw [Bool.not_eq_false] at hf
    cases hc : (d.acc p a).closed
    case true =>
      rw [Dev.enterAcc_of_closed hw hf hc]
      exact d.arr_putB _ 3 true (ArrWatch.word_aPrm p (by omega) rfl)
    case false =>
      rw [Dev.enterAcc_of_full hw hf hc (Nat.not_lt.1 fun hn => hfull ⟨hc, hn⟩)]
      exact d.arr_onAcc p a _ rfl

/-- A result that is no calibration sample lands, corrected, in its accumulator (R213, R218). -/
theorem Dev.sample_eq {v : Conv} {rest : List Conv} (raw : Word) (hr : d.prmReady p = true) (hv : (d.prm p).flight = v :: rest)
    (h : v.acc < 64) (hch : v.ch ≠ 63) :
    d.sample p raw = (d.land p rest).enterAcc p ⟨v.acc, h⟩ (d.correct p v.slice v.ch raw) := by
  unfold Dev.sample
  rw [hv]
  dsimp only
  rw [if_neg (by rw [hr]; decide), if_neg hch, dif_pos h]
  rfl

end

section

variable (d : Dev) (p : GroupIx) (rest : List Conv)

theorem Dev.land_acc (a : Fin 64) : (d.land p rest).acc p a = d.acc p a := by
  unfold Dev.land Dev.acc
  rw [Dev.onPrm_prm]

theorem Dev.land_flight : ((d.land p rest).prm p).flight = rest := by
  unfold Dev.land
  rw [Dev.onPrm_prm]

end

/-! ### A count that closes (R236, R240) -/

section

variable (d : Dev) (p : GroupIx) (a : Fin 64) (late : Bool)

/-- VAL and STAT of a closed count, and the cause of a limited value. -/
theorem Dev.showClose_spec :
    (d.showClose p a late).w (aAcc p a.1 2) = iword (d.acc p a).value.1 ∧
    (d.showClose p a late).w (aAcc p a.1 3) =
      closeStat ((d.fld (aAcc p a.1 3) 15 8 + 1) % 256) (d.acc p a).xs late (d.acc p a).value.2 ∧
    ((d.acc p a).value.2 = true → bitOf (d.acc p a).cfg 13 = true → (d.showClose p a late).bit (aPrm p 2) 2 = true) := by
  have hval : aAcc p a.1 2 ≠ aPrm p 2 := by unfold aAcc aPrm; omega
  have hstat : aAcc p a.1 3 ≠ aPrm p 2 := by unfold aAcc aPrm; omega
  have h23 : aAcc p a.1 2 ≠ aAcc p a.1 3 := by unfold aAcc aPrm; omega
  unfold Dev.showClose
  dsimp only
  split
  case isTrue h =>
    refine ⟨?_, ?_, fun _ _ => ?_⟩
    · rw [Dev.cause_w_ne _ _ _ hval, Dev.w_put_ne _ _ h23, Dev.w_put_self]
    · rw [Dev.cause_w_ne _ _ _ hstat, Dev.w_put_self]
    · rw [Dev.bit_cause]
      simp
  case isFalse h =>
    refine ⟨?_, ?_, fun hs hc => absurd (by rw [hs, hc]; rfl) h⟩
    · rw [Dev.w_put_ne _ _ h23, Dev.w_put_self]
    · rw [Dev.w_put_self]

/-- The words of the arrays outside their trackers after a close are those that show it. -/
theorem Dev.closeCount_w {b : Nat} (h : (ArrWatch.mk true true).word b = true) :
    (d.closeCount p a late).w b = (d.showClose p a late).w b := by
  have hend (e : Dev) (frame : Bool) : (e.endCount p a frame).w b = e.w b := by
    unfold Dev.endCount
    split
    · rfl
    · exact Dev.w_of_words (e.newCount_words p a).1 b
  rw [Dev.closeCount_eq, hend]
  exact Dev.arr_w (d.arr_afterShow p a late) h

/-- A FRAME count stays closed; a FREE one is followed by an empty one. -/
theorem Dev.closeCount_acc :
    ((d.acc p a).frame = true → ((d.closeCount p a late).acc p a).closed = true) ∧
    ((d.acc p a).frame = false → ((d.closeCount p a late).acc p a).n = 0 ∧ ((d.closeCount p a late).acc p a).sum = 0) := by
  rw [Dev.closeCount_eq]
  refine ⟨fun hf => ?_, fun hf => ?_⟩
  · rw [hf]
    exact congrArg Acc.closed (Dev.onAcc_acc _ p a _)
  · rw [hf]
    exact Dev.newCount_empty _ p a

variable {d}

/-- While ck_core runs, a closed value is read at once. -/
theorem Dev.closed_of_runs (hr : d.runs = true) : d.closed p a late = (d.closeCount p a late).closeRead p a := by
  have hstands : (d.closeCount p a late).stands = false :=
    (Dev.arr_stands (d.arr_closeCount (w := ⟨false, false⟩) p a late rfl)).trans (Dev.stands_of_runs hr)
  unfold Dev.closed
  dsimp only
  rw [hstands, if_neg Bool.false_ne_true]

/-- What a closed count shows and leaves while ck_core runs. -/
theorem Dev.closed_spec (hr : d.runs = true) :
    (d.closed p a late).w (aAcc p a.1 2) = iword (d.acc p a).value.1 ∧
    (d.closed p a late).w (aAcc p a.1 3) =
      closeStat ((d.fld (aAcc p a.1 3) 15 8 + 1) % 256) (d.acc p a).xs late (d.acc p a).value.2 ∧
    ((d.acc p a).value.2 = true → bitOf (d.acc p a).cfg 13 = true → (d.closed p a late).bit (aPrm p 2) 2 = true) ∧
    ((d.acc p a).frame = true → ((d.closed p a late).acc p a).closed = true) ∧
    ((d.acc p a).frame = false → ((d.closed p a late).acc p a).n = 0 ∧ ((d.closed p a late).acc p a).sum = 0) := by
  have hread : (d.closed p a late).arr ⟨true, false⟩ = (d.closeCount p a late).arr ⟨true, false⟩ := by
    rw [Dev.closed_of_runs p a late hr]
    exact Dev.arr_closeRead _ p a rfl
  have hw {o : Nat} (ho : o < 0x300) : (d.closed p a late).w (aPrm p o) = (d.showClose p a late).w (aPrm p o) :=
    (Dev.arr_w hread (ArrWatch.word_aPrm_of_counts p ho rfl)).trans (d.closeCount_w p a late (ArrWatch.word_aPrm_of_counts p ho rfl))
  obtain ⟨hval, hstat, hsat⟩ := d.showClose_spec p a late
  rw [Dev.arr_acc hread rfl]
  exact ⟨(hw (by omega)).trans hval, (hw (by omega)).trans hstat, fun hs hc => (Dev.bit_congr (hw (by omega)) 2).trans (hsat hs hc),
    d.closeCount_acc p a late⟩

/-- The bits of STAT and the count of closes that a closed count shows. -/
theorem Dev.closed_stat (hr : d.runs = true) :
    (d.closed p a late).bit (aAcc p a.1 3) 0 = true ∧ (d.closed p a late).bit (aAcc p a.1 3) 1 = (d.acc p a).value.2 ∧
    (d.closed p a late).bit (aAcc p a.1 3) 2 = late ∧ (d.closed p a late).bit (aAcc p a.1 3) 3 = (d.acc p a).xs ∧
    (d.closed p a late).fld (aAcc p a.1 3) 15 8 = (d.fld (aAcc p a.1 3) 15 8 + 1) % 256 := by
  obtain ⟨-, hstat, -⟩ := Dev.closed_spec p a late hr
  obtain ⟨h0, h1, h2, h3⟩ := bitOf_closeStat (cnt := (d.fld (aAcc p a.1 3) 15 8 + 1) % 256) (d.acc p a).xs late (d.acc p a).value.2
  unfold Dev.bit
  rw [Dev.fld, hstat]
  exact ⟨h0, h1, h2, h3, bits_closeStat (Nat.mod_lt _ (by decide)) _ _ _⟩

end

end Sys2Proof.Machine
end

section
/-! The overvoltage ladder takes a closed value of the supply (R183 to R189). -/

namespace Sys2Proof.Machine

open Sys2Proof

/-! ### The ladder (R186) -/

section

variable {l v ov1 ov2 ov3 hys : Nat}

theorem ladder_le (h : l ≤ 3) : ladder l v ov1 ov2 ov3 hys ≤ 3 := by
  unfold ladder
  split_ifs <;> omega

/-- The level that the ladder takes, for thresholds in order. -/
theorem ladder_of_ordered (h12 : ov1 < ov2) (h23 : ov2 < ov3) (hhys : hys < ov1) :
    (ov3 ≤ v → ladder l v ov1 ov2 ov3 hys = 3) ∧ (l ≤ 1 → ov2 ≤ v → v < ov3 → ladder l v ov1 ov2 ov3 hys = 2) ∧
    (l = 0 → ov1 ≤ v → v < ov2 → ladder l v ov1 ov2 ov3 hys = 1) ∧ (l = 0 → v < ov1 → ladder l v ov1 ov2 ov3 hys = 0) ∧
    (l = 1 → v + hys < ov1 → ladder l v ov1 ov2 ov3 hys = 0) ∧
    (l = 1 → ov1 ≤ v + hys → v < ov2 → ladder l v ov1 ov2 ov3 hys = 1) ∧
    (2 ≤ l → v + hys < ov1 → ladder l v ov1 ov2 ov3 hys = 0) ∧
    (2 ≤ l → ov1 ≤ v + hys → v + hys < ov2 → ladder l v ov1 ov2 ov3 hys = 1) ∧
    (2 ≤ l → ov2 ≤ v + hys → v < ov3 → ladder l v ov1 ov2 ov3 hys = l) := by
  unfold ladder
  refine ⟨?_, ?_, ?_, ?_, ?_, ?_, ?_, ?_, ?_⟩ <;> intros <;> split_ifs <;> omega

/-- The level that the ladder takes with one threshold for all three. -/
theorem ladder_of_least {least : Nat} :
    (least ≤ v → ladder l v least least least hys = 3) ∧ (l = 0 → v < least → ladder l v least least least hys = 0) ∧
    (l ≤ 3 → v < least - hys → ladder l v least least least hys = 0) := by
  unfold ladder
  refine ⟨?_, ?_, ?_⟩ <;> intros <;> split_ifs <;> omega

end

variable (d : Dev) (g : GroupIx)

/-! ### The level in SSTAT -/

theorem Dev.level_le : d.level g ≤ 3 := Nat.le_of_lt_succ (Nat.mod_lt _ (by decide))

theorem Dev.level_putB {i : Nat} (b : Bool) (h : 2 ≤ i) (hi : i < 16) : (d.putB (aSup g 7) i b).level g = d.level g := by
  unfold Dev.level Dev.fld
  rw [Dev.w_putB, if_pos rfl]
  exact bits_withBits_ne _ i i _ 1 0 hi (Nat.le_refl i) (by decide) (.inl (by omega))

theorem Dev.onGrp_level (f : Group → Group) : (d.onGrp g f).level g = d.level g := Dev.onGrp_fld d g f _ 1 0

theorem Dev.bit_putB_ne (a : Nat) {i j : Nat} (b : Bool) (hi : i < 16) (hj : j < 16) (h : j ≠ i) : (d.putB a i b).bit a j = d.bit a j := by
  rw [Dev.bit_putB d a i b a j hi hj, if_neg (fun e => h e.2)]

/-- What BRKg leaves of SSTAT, and of the group's value. -/
theorem Dev.setBrk_keeps {d : Dev} (hr : d.runs = true) : (d.setBrk g).level g = d.level g ∧
    (∀ j, 2 < j → j < 16 → (d.setBrk g).bit (aSup g 7) j = d.bit (aSup g 7) j) ∧ ((d.setBrk g).grp g).v = (d.grp g).v := by
  rw [Dev.setBrk_of_runs hr, Dev.breakEpisodes, Dev.onGrp_grp]
  generalize d.brkOn g = on
  unfold Dev.showBrk
  split
  · exact ⟨rfl, fun _ _ _ => rfl, rfl⟩
  · rw [Dev.onGrp_level, Dev.onGrp_level, Dev.level_putB d g on (by decide) (by decide), Dev.onGrp_grp, Dev.putB_grp]
    refine ⟨rfl, fun j h hj => ?_, rfl⟩
    rw [Dev.onGrp_bit, Dev.onGrp_bit, Dev.bit_putB_ne d _ on (by decide) hj (by omega)]

/-! ### Causes of a level that is entered (R189) -/

/-- Where it happened, a cause of the supply shows and counts. -/
def Dev.happens (d : Dev) (g : GroupIx) (b : Bool) (m : Word) (c : Nat) : Dev :=
  if b then (d.cause (aSup g 9) m (16 + g.1)).inc (aSup g c) else d

section

variable (b : Bool) (m : Word) {c : Nat}

theorem Dev.sameWords_happens : d.SameWords (d.happens g b m c) [aSup g 9, aSup g c] := by
  unfold Dev.happens
  split
  · intro a ha
    obtain ⟨hcause, hcount⟩ : a ≠ aSup g 9 ∧ a ≠ aSup g c := by simpa using ha
    exact (Dev.addSat_w_ne _ _ _ _ hcount).trans (d.cause_w_ne _ _ hcause)
  · exact fun _ _ => rfl

theorem Dev.happens_grp : (d.happens g b m c).grp g = d.grp g := by
  unfold Dev.happens
  split
  · rw [Dev.inc_grp, Dev.cause, Dev.raise_grp, Dev.orW_grp]
  · rfl

theorem Dev.happens_runs : (d.happens g b m c).runs = d.runs := by
  unfold Dev.happens
  split
  · rw [Dev.inc_runs, Dev.cause, Dev.raise_runs, Dev.orW_runs]
  · rfl

/-- A cause that shows stays. -/
theorem Dev.happens_bit {i : Nat} (hc : c ≠ 9) (h : d.bit (aSup g 9) i = true) : (d.happens g b m c).bit (aSup g 9) i = true := by
  unfold Dev.happens
  split
  · rw [Dev.bit_inc_ne _ _ (by unfold aSup; omega), Dev.bit_cause, h, Bool.true_or]
  · exact h

theorem Dev.happens_of_true {i : Nat} (hc : c ≠ 9) (hi : m.getLsbD i = true) :
    (d.happens g true m c).bit (aSup g 9) i = true ∧
    (d.happens g true m c).fld (aSup g c) 15 0 = min 65535 (d.fld (aSup g c) 15 0 + 1) := by
  have hne : aSup g c ≠ aSup g 9 := by unfold aSup; omega
  unfold Dev.happens
  rw [if_pos rfl, Dev.bit_inc_ne _ _ hne.symm, Dev.bit_cause, hi, Dev.inc, Dev.fld_addSat_self _ _ _ (by decide) (by decide),
    Dev.fld_congr (d.cause_w_ne _ _ hne), min_comm]
  exact ⟨by simp, rfl⟩

end

/-! ### The ladder changes its level (R186, R189) -/

/-- Levels 2 and 3, and a chopper on for too long, have causes. -/
def Dev.levelCauses (d : Dev) (g : GroupIx) (enter2 enter3 chopov : Bool) : Dev :=
  ((d.happens g enter2 8 0xA).happens g enter3 16 0xB).happens g chopov (1#16 <<< 1) 0xC

/-- What the causes of a level leave, and how they show. -/
theorem Dev.levelCauses_spec (enter2 enter3 chopov : Bool) :
    d.SameWords (d.levelCauses g enter2 enter3 chopov) [aSup g 9, aSup g 0xA, aSup g 0xB, aSup g 0xC] ∧
    (d.levelCauses g enter2 enter3 chopov).grp g = d.grp g ∧ (d.levelCauses g enter2 enter3 chopov).runs = d.runs ∧
    (enter2 = true → (d.levelCauses g enter2 enter3 chopov).bit (aSup g 9) 3 = true ∧
      (d.levelCauses g enter2 enter3 chopov).fld (aSup g 0xA) 15 0 = min 65535 (d.fld (aSup g 0xA) 15 0 + 1)) ∧
    (enter3 = true → (d.levelCauses g enter2 enter3 chopov).bit (aSup g 9) 4 = true ∧
      (d.levelCauses g enter2 enter3 chopov).fld (aSup g 0xB) 15 0 = min 65535 (d.fld (aSup g 0xB) 15 0 + 1)) := by
  have hA : aSup g 0xA ∉ [aSup g 9, aSup g 0xB] := by simp [aSup]
  have hA' : aSup g 0xA ∉ [aSup g 9, aSup g 0xC] := by simp [aSup]
  have hB : aSup g 0xB ∉ [aSup g 9, aSup g 0xA] := by simp [aSup]
  have hB' : aSup g 0xB ∉ [aSup g 9, aSup g 0xC] := by simp [aSup]
  have hw2 := d.sameWords_happens g enter2 8 (c := 0xA)
  have hw3 := (d.happens g enter2 8 0xA).sameWords_happens g enter3 16 (c := 0xB)
  have hw4 := ((d.happens g enter2 8 0xA).happens g enter3 16 0xB).sameWords_happens g chopov (1#16 <<< 1) (c := 0xC)
  unfold Dev.levelCauses
  refine ⟨((hw2.mono (by simp)).trans (hw3.mono (by simp))).trans (hw4.mono (by simp)), ?_, ?_, fun h => ?_, fun h => ?_⟩
  · rw [Dev.happens_grp, Dev.happens_grp, Dev.happens_grp]
  · rw [Dev.happens_runs, Dev.happens_runs, Dev.happens_runs]
  · subst h
    obtain ⟨hbit, hcnt⟩ := d.happens_of_true g 8 (c := 0xA) (i := 3) (by decide) (by decide)
    exact ⟨Dev.happens_bit _ g _ _ (by decide) (Dev.happens_bit _ g _ _ (by decide) hbit),
      (Dev.fld_congr ((hw4 _ hA').trans (hw3 _ hA)) 15 0).trans hcnt⟩
  · subst h
    obtain ⟨hbit, hcnt⟩ := (d.happens g enter2 8 0xA).happens_of_true g 16 (c := 0xB) (i := 4) (by decide) (by decide)
    refine ⟨Dev.happens_bit _ g _ _ (by decide) hbit, (Dev.fld_congr (hw4 _ hB') 15 0).trans (hcnt.trans ?_)⟩
    rw [Dev.fld_congr (hw2 _ hB)]

/-- A change of level: SSTAT, its causes, the test pulse and BRKg. -/
theorem Dev.setLevel_of_ne {d : Dev} {g : GroupIx} {new : Nat} (h : new ≠ d.level g) : ∃ chopov f,
    (∀ x, (f x : Group).v = x.v) ∧ d.setLevel g new =
      ((((d.putF (aSup g 7) 1 0 new).levelCauses g (decide (d.level g < 2 ∧ 2 ≤ new)) (decide (d.level g < 3 ∧ new = 3)) chopov).onGrp
        g f).setBrk g).driveGroup g := by
  refine ⟨(decide (d.level g < 2 ∧ 2 ≤ new) || decide (d.level g < 3 ∧ new = 3)) && d.chopEn g && d.brkLong g,
    fun x => { x with test := if d.level g = 0 then none else x.test }, fun _ => rfl, ?_⟩
  unfold Dev.setLevel
  exact if_neg h

/-- What a new level shows, and what it leaves. -/
theorem Dev.setLevel_spec {d : Dev} (hr : d.runs = true) {new : Nat} (hnew : new ≤ 3) :
    (d.setLevel g new).level g = new ∧
    (∀ j, 2 < j → j < 16 → (d.setLevel g new).bit (aSup g 7) j = d.bit (aSup g 7) j) ∧
    ((d.setLevel g new).grp g).v = (d.grp g).v ∧
    (d.level g < 2 → 2 ≤ new → (d.setLevel g new).bit (aSup g 9) 3 = true ∧
      (d.setLevel g new).fld (aSup g 0xA) 15 0 = min 65535 (d.fld (aSup g 0xA) 15 0 + 1)) ∧
    (d.level g < 3 → new = 3 → (d.setLevel g new).bit (aSup g 9) 4 = true ∧
      (d.setLevel g new).fld (aSup g 0xB) 15 0 = min 65535 (d.fld (aSup g 0xB) 15 0 + 1)) := by
  by_cases h : new = d.level g
  · rw [show d.setLevel g new = d from if_pos h]
    exact ⟨h.symm, fun _ _ _ => rfl, rfl, fun _ _ => absurd h (by omega), fun _ _ => absurd h (by omega)⟩
  obtain ⟨chopov, f, hf, heq⟩ := Dev.setLevel_of_ne h
  obtain ⟨hwords, hgrp, hruns, henter2, henter3⟩ := (d.putF (aSup g 7) 1 0 new).levelCauses_spec g
    (decide (d.level g < 2 ∧ 2 ≤ new)) (decide (d.level g < 3 ∧ new = 3)) chopov
  rw [heq]
  generalize (d.putF (aSup g 7) 1 0 new).levelCauses g _ _ _ = e at hwords hgrp hruns henter2 henter3
  have hrf : (e.onGrp g f).runs = true := hruns.trans hr
  obtain ⟨hlevel, hbit, hv⟩ := Dev.setBrk_keeps g hrf
  obtain ⟨-, -, -, hbrk⟩ := Dev.setBrk_spec (g := g) hrf
  have hdrive := ((e.onGrp g f).setBrk g).drives_driveGroup g
  have hw {o : Nat} (ho : o ≠ 7) : (((e.onGrp g f).setBrk g).driveGroup g).w (aSup g o) = e.w (aSup g o) :=
    (hdrive.w _).trans (hbrk _ (by simp [aSup, ho]))
  have h7 : e.w (aSup g 7) = withBits (d.w (aSup g 7)) 1 0 new :=
    (hwords _ (by simp [aSup])).trans (by rw [Dev.w_putF, if_pos rfl])
  have hcount {o : Nat} (ho : o ≠ 7) : (d.putF (aSup g 7) 1 0 new).fld (aSup g o) 15 0 = d.fld (aSup g o) 15 0 :=
    Dev.fld_congr (d.w_put_ne _ (by unfold aSup; omega)) 15 0
  refine ⟨?_, fun j hj hj' => ?_, ?_, fun h2 h2' => ?_, fun h3 h3' => ?_⟩
  · have he : e.level g = new := by
      unfold Dev.level Dev.fld
      rw [h7, bits_withBits _ _ _ _ (by decide) (by decide)]
      omega
    exact (Dev.fld_congr (hdrive.w _) 1 0).trans (hlevel.trans he)
  · have he : e.bit (aSup g 7) j = d.bit (aSup g 7) j := by
      unfold Dev.bit
      rw [h7, bitOf_withBits _ _ _ _ _ (by decide) (by decide) hj', if_neg (by omega)]
    exact (hdrive.bit _ j).trans ((hbit j hj hj').trans he)
  · rw [hdrive.grp, hv, Dev.onGrp_grp, hf, hgrp]
    rfl
  · obtain ⟨hcause, hcnt⟩ := henter2 (decide_eq_true ⟨h2, h2'⟩)
    rw [hcount (by decide)] at hcnt
    exact ⟨(Dev.bit_congr (hw (by decide)) 3).trans hcause, (Dev.fld_congr (hw (by decide)) 15 0).trans hcnt⟩
  · obtain ⟨hcause, hcnt⟩ := henter3 (decide_eq_true ⟨h3, h3'⟩)
    rw [hcount (by decide)] at hcnt
    exact ⟨(Dev.bit_congr (hw (by decide)) 4).trans hcause, (Dev.fld_congr (hw (by decide)) 15 0).trans hcnt⟩

/-! ### A value of the supply is evaluated (R183 to R187) -/

/-- The thresholds of the ladder are not in order (R187). -/
def Dev.supBad (d : Dev) (g : GroupIx) : Bool :=
  !(decide (d.uw (aSup g 1) < d.uw (aSup g 2) ∧ d.uw (aSup g 2) < d.uw (aSup g 3) ∧ d.uw (aSup g 4) < d.uw (aSup g 1)))

/-- The level that a value of the supply brings. -/
def Dev.supNew (d : Dev) (g : GroupIx) (v : Nat) : Nat :=
  let least := min (d.uw (aSup g 1)) (min (d.uw (aSup g 2)) (d.uw (aSup g 3)))
  if d.supBad g then ladder (d.level g) v least least least (d.uw (aSup g 4))
  else ladder (d.level g) v (d.uw (aSup g 1)) (d.uw (aSup g 2)) (d.uw (aSup g 3)) (d.uw (aSup g 4))

/-- SSTAT shows a value of the supply, and a new undervoltage its cause. -/
def Dev.showSupply (d : Dev) (g : GroupIx) (f : Group → Group) (bad uv rise : Bool) : Dev :=
  let d := ((((d.onGrp g f).putB (aSup g 7) 8 bad).putB (aSup g 7) 7 uv).putB (aSup g 7) 6 false).putB (aSup g 7) 5 true
  if rise then d.cause (aSup g 9) 0x80 (16 + g.1) else d

/-- An evaluation shows the value, takes the level and drives the bridges. -/
theorem Dev.supEvaluate_eq (v : Nat) : ∃ f uv rise, (∀ x, (f x : Group).v = some v) ∧
    d.supEvaluate g v =
      (((d.enforce (aSup g 1) (aSup g 7)).showSupply g f (d.supBad g) uv rise).setLevel g (d.supNew g v)).driveGroup g :=
  ⟨_, _, _, fun _ => rfl, rfl⟩

/-- What SSTAT shows of a value of the supply: fresh, in force, with the order of its thresholds, at the level that stood. -/
structure Dev.ShowsSupply (d : Dev) (g : GroupIx) (x : Group) (bad : Bool) (e : Dev) : Prop where
  fresh : e.bit (aSup g 7) 5 = true
  stale : e.bit (aSup g 7) 6 = false
  cfgErr : e.bit (aSup g 7) 8 = bad
  level : e.level g = d.level g
  grp : e.grp g = x
  runs : e.runs = d.runs
  words : d.SameWords e [aSup g 7, aSup g 9]

theorem Dev.ShowsSupply.cause {d e : Dev} {g : GroupIx} {x : Group} {bad : Bool} (h : d.ShowsSupply g x bad e) (m : Word) (i : Nat) :
    d.ShowsSupply g x bad (e.cause (aSup g 9) m i) := by
  have h7 : (e.cause (aSup g 9) m i).w (aSup g 7) = e.w (aSup g 7) := e.cause_w_ne _ _ (by unfold aSup; omega)
  refine ⟨(Dev.bit_congr h7 5).trans h.fresh, (Dev.bit_congr h7 6).trans h.stale, (Dev.bit_congr h7 8).trans h.cfgErr,
    (Dev.fld_congr h7 1 0).trans h.level, ?_, ?_, h.words.trans fun a ha => e.cause_w_ne _ _ (fun h => ha (by simp [h]))⟩
  · rw [Dev.cause, Dev.raise_grp, Dev.orW_grp, h.grp]
  · rw [Dev.cause, Dev.raise_runs, Dev.orW_runs, h.runs]

theorem Dev.showsSupply_putB (f : Group → Group) (bad uv : Bool) : d.ShowsSupply g (f (d.grp g)) bad
    (((((d.onGrp g f).putB (aSup g 7) 8 bad).putB (aSup g 7) 7 uv).putB (aSup g 7) 6 false).putB (aSup g 7) 5 true) where
  fresh := Dev.bit_putB_self _ _ 5 _ (by decide)
  stale := by rw [Dev.bit_putB_ne _ _ _ (by decide) (by decide) (by decide), Dev.bit_putB_self _ _ 6 _ (by decide)]
  cfgErr := by
    rw [Dev.bit_putB_ne _ _ _ (by decide) (by decide) (by decide), Dev.bit_putB_ne _ _ _ (by decide) (by decide) (by decide),
      Dev.bit_putB_ne _ _ _ (by decide) (by decide) (by decide), Dev.bit_putB_self _ _ 8 _ (by decide)]
  level := by
    rw [Dev.level_putB _ _ _ (by decide) (by decide), Dev.level_putB _ _ _ (by decide) (by decide),
      Dev.level_putB _ _ _ (by decide) (by decide), Dev.level_putB _ _ _ (by decide) (by decide), Dev.onGrp_level]
  grp := by rw [Dev.putB_grp, Dev.putB_grp, Dev.putB_grp, Dev.putB_grp, Dev.onGrp_grp]
  runs := by rw [Dev.putB_runs, Dev.putB_runs, Dev.putB_runs, Dev.putB_runs, Dev.onGrp_runs]
  words := fun b hb => by
    have h7 : b ≠ aSup g 7 := fun h => hb (by simp [h])
    rw [Dev.w_putB, if_neg h7, Dev.w_putB, if_neg h7, Dev.w_putB, if_neg h7, Dev.w_putB, if_neg h7, Dev.onGrp_w]

theorem Dev.showsSupply (f : Group → Group) (bad uv rise : Bool) :
    d.ShowsSupply g (f (d.grp g)) bad (d.showSupply g f bad uv rise) := by
  unfold Dev.showSupply
  dsimp only
  split
  · exact (d.showsSupply_putB g f bad uv).cause _ _
  · exact d.showsSupply_putB g f bad uv

theorem Dev.supNew_le (v : Nat) : d.supNew g v ≤ 3 := by
  unfold Dev.supNew
  split
  · exact ladder_le (d.level_le g)
  · exact ladder_le (d.level_le g)

/-- What an evaluation of the supply shows while ck_core runs. -/
theorem Dev.supEvaluate_spec {d : Dev} (hr : d.runs = true) (v : Nat) :
    ((d.supEvaluate g v).grp g).v = some v ∧ (d.supEvaluate g v).bit (aSup g 7) 5 = true ∧
    (d.supEvaluate g v).bit (aSup g 7) 6 = false ∧ (d.supEvaluate g v).bit (aSup g 7) 8 = d.supBad g ∧
    (d.supEvaluate g v).level g = d.supNew g v ∧
    (d.level g < 2 → 2 ≤ d.supNew g v → (d.supEvaluate g v).bit (aSup g 9) 3 = true ∧
      (d.supEvaluate g v).fld (aSup g 0xA) 15 0 = min 65535 (d.fld (aSup g 0xA) 15 0 + 1)) ∧
    (d.level g < 3 → d.supNew g v = 3 → (d.supEvaluate g v).bit (aSup g 9) 4 = true ∧
      (d.supEvaluate g v).fld (aSup g 0xB) 15 0 = min 65535 (d.fld (aSup g 0xB) 15 0 + 1)) := by
  obtain ⟨f, uv, rise, hf, heq⟩ := d.supEvaluate_eq g v
  have hshow := (d.enforce (aSup g 1) (aSup g 7)).showsSupply g f (d.supBad g) uv rise
  rw [heq]
  generalize (d.enforce (aSup g 1) (aSup g 7)).showSupply g f (d.supBad g) uv rise = e at hshow
  obtain ⟨hlevel, hbit, hv, henter2, henter3⟩ := Dev.setLevel_spec g (hshow.runs.trans hr) (d.supNew_le g v)
  have hdrive := (e.setLevel g (d.supNew g v)).drives_driveGroup g
  have hcount {o : Nat} (ho : o ≠ 7) (ho' : o ≠ 9) : e.fld (aSup g o) 15 0 = d.fld (aSup g o) 15 0 :=
    Dev.fld_congr (hshow.words _ (by simp [aSup, ho, ho'])) 15 0
  have hold : e.level g = d.level g := hshow.level
  rw [hold, hcount (by decide) (by decide)] at henter2 henter3
  refine ⟨?_, (hdrive.bit _ 5).trans ((hbit 5 (by decide) (by decide)).trans hshow.fresh),
    (hdrive.bit _ 6).trans ((hbit 6 (by decide) (by decide)).trans hshow.stale),
    (hdrive.bit _ 8).trans ((hbit 8 (by decide) (by decide)).trans hshow.cfgErr), (Dev.fld_congr (hdrive.w _) 1 0).trans hlevel,
    fun h2 h2' => ?_, fun h3 h3' => ?_⟩
  · rw [hdrive.grp, hv, hshow.grp, hf]
  · obtain ⟨hcause, hcnt⟩ := henter2 h2 h2'
    exact ⟨(hdrive.bit _ 3).trans hcause, (Dev.fld_congr (hdrive.w _) 15 0).trans hcnt⟩
  · obtain ⟨hcause, hcnt⟩ := henter3 h3 h3'
    exact ⟨(hdrive.bit _ 4).trans hcause, (Dev.fld_congr (hdrive.w _) 15 0).trans hcnt⟩

/-! ### Thresholds in order, or the least of them (R187) -/

/-- The level that a value brings where the thresholds are in order. -/
theorem Dev.supNew_of_ordered {d : Dev} {g : GroupIx} (h12 : d.uw (aSup g 1) < d.uw (aSup g 2))
    (h23 : d.uw (aSup g 2) < d.uw (aSup g 3)) (hhys : d.uw (aSup g 4) < d.uw (aSup g 1)) (v : Nat) :
    d.supBad g = false ∧
    d.supNew g v = ladder (d.level g) v (d.uw (aSup g 1)) (d.uw (aSup g 2)) (d.uw (aSup g 3)) (d.uw (aSup g 4)) := by
  have hbad : d.supBad g = false := by
    unfold Dev.supBad
    rw [decide_eq_true ⟨h12, h23, hhys⟩]
    rfl
  refine ⟨hbad, ?_⟩
  unfold Dev.supNew
  rw [hbad]
  rfl

/-- The level that a value brings where they are not. -/
theorem Dev.supNew_of_bad {d : Dev} {g : GroupIx} (h : ¬ (d.uw (aSup g 1) < d.uw (aSup g 2) ∧ d.uw (aSup g 2) < d.uw (aSup g 3) ∧
      d.uw (aSup g 4) < d.uw (aSup g 1))) (v : Nat) :
    d.supBad g = true ∧
    d.supNew g v = ladder (d.level g) v (min (d.uw (aSup g 1)) (min (d.uw (aSup g 2)) (d.uw (aSup g 3))))
      (min (d.uw (aSup g 1)) (min (d.uw (aSup g 2)) (d.uw (aSup g 3))))
      (min (d.uw (aSup g 1)) (min (d.uw (aSup g 2)) (d.uw (aSup g 3)))) (d.uw (aSup g 4)) := by
  have hbad : d.supBad g = true := by
    unfold Dev.supBad
    rw [decide_eq_false h]
    rfl
  refine ⟨hbad, ?_⟩
  unfold Dev.supNew
  rw [hbad]
  rfl

end Sys2Proof.Machine
end

section
/-! The statement on conversions (R186 to R189, R212 to R240). -/

namespace Sys2Proof.Machine

open Sys2Proof

variable {s : State} {p : GroupIx}

/-! ### Results that land (R213 to R219, R235 to R239) -/

theorem exec_sampleEntry (raw : Word) : exec (.sampleEntry p raw) s = .next { s with dev := s.dev.sample p raw } := rfl

theorem exec_sampleEntry_of_unready (raw : Word) (hr : s.dev.prmReady p = false) : exec (.sampleEntry p raw) s = .next s := by
  refine State.onDev_eq (f := fun d => d.sample p raw) ?_
  unfold Dev.sample
  split
  · rfl
  · rw [hr]
    rfl

/-- A result of CAL is dropped. -/
theorem exec_sampleEntry_of_cal {v : Conv} {rest : List Conv} (raw : Word) (hr : s.dev.prmReady p = true)
    (hv : (s.dev.prm p).flight = v :: rest) (hch : v.ch = 63) :
    exec (.sampleEntry p raw) s = .next { s with dev := s.dev.onPrm p (fun x => { x with flight := rest }) } := by
  refine State.onDev_eq (f := fun d => d.sample p raw) ?_
  unfold Dev.sample
  rw [hv]
  dsimp only
  rw [hr, if_neg (by decide), if_pos hch]

section

variable {v : Conv} {rest : List Conv} (raw : Word) (hr : s.dev.prmReady p = true) (hv : (s.dev.prm p).flight = v :: rest)
  (h : v.acc < 64) (hch : v.ch ≠ 63) (hw : (s.dev.acc p ⟨v.acc, h⟩).waits = false)
include hr hv hch hw

/-- A result joins a count that goes on after it. -/
theorem sampleEntry_counts (hc : (s.dev.acc p ⟨v.acc, h⟩).closed = false)
    (hn : (s.dev.acc p ⟨v.acc, h⟩).n + 1 < (s.dev.acc p ⟨v.acc, h⟩).total) :
    ∃ d, exec (.sampleEntry p raw) s = .next { s with dev := d } ∧ (d.prm p).flight = rest ∧
      (d.acc p ⟨v.acc, h⟩).n = (s.dev.acc p ⟨v.acc, h⟩).n + 1 ∧
      d.w (aAcc p v.acc 2) = s.dev.w (aAcc p v.acc 2) ∧ d.motors = s.dev.motors := by
  have hland := s.dev.land_acc p rest ⟨v.acc, h⟩
  refine ⟨_, exec_sampleEntry raw, ?_⟩
  rw [Dev.sample_eq raw hr hv h hch, Dev.enterAcc_of_waiting (by rw [hland]; exact hw)
    (by rw [hland]; exact .inr ⟨hc, by omega⟩) (by rw [hland]; exact .inl hn), Dev.addSample_acc, hland]
  exact ⟨(Dev.arr_flight (Dev.arr_addSample (w := ⟨false, false⟩) _ p _ _ rfl) p).trans (s.dev.land_flight p rest), rfl,
    Dev.addSample_w _ p _ _ (ArrWatch.word_aPrm_of_counts p (by omega) rfl), Dev.addSample_motors _ p _ _⟩

/-- What becomes of a result, by the state of its count. -/
theorem sampleEntry_spec (hrun : s.dev.runs = true) :
    let c := s.dev.acc p ⟨v.acc, h⟩
    let y := iword (s.dev.correct p v.slice v.ch raw)
    let e : Acc := { c with sum := c.sum + (if bitOf c.cfg 14 then y.toInt else y.toNat), n := c.n + 1 }
    ∃ d, exec (.sampleEntry p raw) s = .next { s with dev := d } ∧ (d.prm p).flight = rest ∧
      (c.frame = true → c.closed = true → d.bit (aAcc p v.acc 3) 3 = true ∧ d.acc p ⟨v.acc, h⟩ = c ∧
        d.w (aAcc p v.acc 2) = s.dev.w (aAcc p v.acc 2)) ∧
      (c.frame = true → c.closed = false → c.total ≤ c.n → d.acc p ⟨v.acc, h⟩ = { c with xs := true }) ∧
      (c.frame = false ∨ c.closed = false ∧ c.n < c.total →
        (c.n + 1 < c.total ∨ c.frame = true ∧ s.dev.frameTick p < s.dev.closePoint p c →
          d.acc p ⟨v.acc, h⟩ = e ∧ d.w (aAcc p v.acc 2) = s.dev.w (aAcc p v.acc 2)) ∧
        (c.total ≤ c.n + 1 →
          (c.frame = false ∨ s.dev.closePoint p c ≤ s.dev.frameTick p →
            d.w (aAcc p v.acc 2) = iword e.value.1 ∧ d.bit (aAcc p v.acc 3) 0 = true ∧
            d.bit (aAcc p v.acc 3) 1 = e.value.2 ∧ d.bit (aAcc p v.acc 3) 3 = c.xs ∧
            d.bit (aAcc p v.acc 3) 2 = (c.frame && decide (s.dev.closePoint p c < s.dev.frameTick p)) ∧
            d.fld (aAcc p v.acc 3) 15 8 = (s.dev.fld (aAcc p v.acc 3) 15 8 + 1) % 256 ∧
            (e.value.2 = true → bitOf c.cfg 13 = true → d.bit (aPrm p 2) 2 = true) ∧
            (c.frame = true → (d.acc p ⟨v.acc, h⟩).closed = true) ∧
            (c.frame = false → (d.acc p ⟨v.acc, h⟩).n = 0 ∧ (d.acc p ⟨v.acc, h⟩).sum = 0)))) := by
  intro c y e
  let b := s.dev.land p rest
  have hacc : b.acc p ⟨v.acc, h⟩ = c := s.dev.land_acc p rest _
  have hwaits : (b.acc p ⟨v.acc, h⟩).waits = false := by rw [hacc]; exact hw
  refine ⟨_, exec_sampleEntry raw, ?_⟩
  rw [Dev.sample_eq raw hr hv h hch]
  refine ⟨(Dev.arr_flight (Dev.arr_enterAcc hwaits) p).trans (s.dev.land_flight p rest), fun hf hc => ?_, fun hf hc hn => ?_,
    fun ht => ⟨fun hgo => ?_, fun hn hpt => ?_⟩⟩
  · rw [Dev.enterAcc_of_closed hwaits (by rw [hacc]; exact hf) (by rw [hacc]; exact hc)]
    exact ⟨Dev.bit_putB_self _ _ 3 _ (by decide), hacc, Dev.w_put_ne _ _ (by unfold aAcc aPrm; omega)⟩
  · rw [Dev.enterAcc_of_full hwaits (by rw [hacc]; exact hf) (by rw [hacc]; exact hc) (by rw [hacc]; exact hn), Dev.onAcc_acc, hacc]
  · rw [Dev.enterAcc_of_waiting hwaits (by rw [hacc]; exact ht) (by rw [hacc]; exact hgo), Dev.addSample_acc, hacc]
    exact ⟨rfl, Dev.addSample_w _ p _ _ (ArrWatch.word_aPrm_of_counts p (by omega) rfl)⟩
  · have hruns : (b.addSample p ⟨v.acc, h⟩ (s.dev.correct p v.slice v.ch raw)).runs = true :=
      (Dev.arr_runs (b.arr_addSample (w := ⟨false, false⟩) p _ _ rfl)).trans hrun
    have hadd : (b.addSample p ⟨v.acc, h⟩ (s.dev.correct p v.slice v.ch raw)).acc p ⟨v.acc, h⟩ = e := by
      rw [Dev.addSample_acc, hacc]
      rfl
    have hcnt : (b.addSample p ⟨v.acc, h⟩ (s.dev.correct p v.slice v.ch raw)).w (aAcc p v.acc 3) = s.dev.w (aAcc p v.acc 3) :=
      Dev.addSample_w _ p _ _ (ArrWatch.word_aPrm_of_counts p (by omega) rfl)
    rw [Dev.enterAcc_of_over hwaits (by rw [hacc]; exact ht) (by rw [hacc]; exact hn) (by rw [hacc]; exact hpt), hacc]
    obtain ⟨hval, -, hsat, hclosed, hfree⟩ := Dev.closed_spec p ⟨v.acc, h⟩ (c.frame && decide (b.closePoint p c < b.frameTick p)) hruns
    obtain ⟨h0, h1, h2, h3, hclose⟩ := Dev.closed_stat p ⟨v.acc, h⟩ (c.frame && decide (b.closePoint p c < b.frameTick p)) hruns
    rw [hadd] at hval hsat hclosed hfree h1 h3
    rw [Dev.fld_congr hcnt] at hclose
    exact ⟨hval, h0, h1, h3, h2, hclose, hsat, hclosed, hfree⟩

end

/-! ### A close point that comes (R186 to R189, R236) -/

section

variable {a : Fin 64}

/-- A complete FRAME count closes at its close point. -/
theorem exec_accumulatorClose_of_due (hrun : s.dev.runs = true) (hr : s.dev.prmReady p = true)
    (hf : (s.dev.acc p a).frame = true) (hc : (s.dev.acc p a).closed = false) (hw : (s.dev.acc p a).waits = false)
    (hn : (s.dev.acc p a).total ≤ (s.dev.acc p a).n) (hpt : s.dev.closePoint p (s.dev.acc p a) ≤ s.dev.frameTick p) :
    exec (.accumulatorClose p a) s = .next { s with dev := s.dev.closed p a false } := by
  refine State.onCore_eq (f := fun d => d.closeDue p a) hrun ?_
  unfold Dev.closeDue
  dsimp only
  rw [if_pos (by simp [hrun, hr, hf, hc, hw, hn, hpt])]

end

/-- Where the accumulator is the supply's, the ladder has the closed value. -/
theorem Dev.closed_supply {d : Dev} (p : GroupIx) (a : Fin 64) (late : Bool) (hrun : d.runs = true) (hsup : d.fld (aSup p 0) 7 2 = a.1) :
    ∃ e : Dev, e.runs = true ∧ (∀ o, o < 0x40 → e.w (aSup p o) = d.w (aSup p o)) ∧
      (d.closed p a late).arr ⟨true, true⟩ = (e.supEvaluate p (iword (d.acc p a).value.1).toNat).arr ⟨true, true⟩ := by
  have hkept := d.arr_closeCount (w := ⟨false, true⟩) p a late rfl
  have hwords (o : Nat) (ho : o < 0x40) : (d.closeCount p a late).w (aSup p o) = d.w (aSup p o) :=
    Dev.arr_w hkept (ArrWatch.word_aSup_of_supply p ho rfl)
  have hval : (d.closeCount p a late).w (aAcc p a.1 2) = iword (d.acc p a).value.1 :=
    (d.closeCount_w p a late (ArrWatch.word_aPrm_of_counts p (by omega) rfl)).trans (d.showClose_spec p a late).1
  refine ⟨_, (Dev.arr_runs hkept).trans hrun, hwords, ?_⟩
  rw [Dev.closed_of_runs p a late hrun, Dev.closeRead_eq, Dev.arr_readRest,
    if_pos ((Dev.fld_congr (hwords 0 (by decide)) 7 2).trans hsup), hval]

/-- The ladder after a closed value of the supply. -/
theorem Dev.closed_ladder {d : Dev} (p : GroupIx) (a : Fin 64) (late : Bool) (hrun : d.runs = true) (hsup : d.fld (aSup p 0) 7 2 = a.1) :
    let v := (iword (d.acc p a).value.1).toNat
    ((d.closed p a late).grp p).v = some v ∧ (d.closed p a late).bit (aSup p 7) 5 = true ∧
    (d.closed p a late).bit (aSup p 7) 6 = false ∧ (d.closed p a late).bit (aSup p 7) 8 = d.supBad p ∧
    (d.closed p a late).level p = d.supNew p v ∧
    (d.level p < 2 → 2 ≤ d.supNew p v → (d.closed p a late).bit (aSup p 9) 3 = true ∧
      (d.closed p a late).fld (aSup p 0xA) 15 0 = min 65535 (d.fld (aSup p 0xA) 15 0 + 1)) ∧
    (d.level p < 3 → d.supNew p v = 3 → (d.closed p a late).bit (aSup p 9) 4 = true ∧
      (d.closed p a late).fld (aSup p 0xB) 15 0 = min 65535 (d.fld (aSup p 0xB) 15 0 + 1)) := by
  intro v
  obtain ⟨e, hr, hw, heq⟩ := Dev.closed_supply p a late hrun hsup
  have hword {o : Nat} (ho : o < 0x40) : (d.closed p a late).w (aSup p o) = (e.supEvaluate p v).w (aSup p o) :=
    Dev.arr_w heq (ArrWatch.word_aSup_of_supply p ho rfl)
  have hlevel : e.level p = d.level p := Dev.fld_congr (hw 7 (by decide)) 1 0
  have huw (o : Nat) (ho : o < 0x40) : e.uw (aSup p o) = d.uw (aSup p o) := congrArg BitVec.toNat (hw o ho)
  have hbad : e.supBad p = d.supBad p := by
    unfold Dev.supBad
    rw [huw 1 (by decide), huw 2 (by decide), huw 3 (by decide), huw 4 (by decide)]
  have hnew : e.supNew p v = d.supNew p v := by
    unfold Dev.supNew
    rw [hbad, hlevel, huw 1 (by decide), huw 2 (by decide), huw 3 (by decide), huw 4 (by decide)]
  obtain ⟨hv, h5, h6, h8, hlev, henter2, henter3⟩ := Dev.supEvaluate_spec p hr v
  rw [hlevel, hnew, Dev.fld_congr (hw 0xA (by decide))] at henter2
  rw [hlevel, hnew, Dev.fld_congr (hw 0xB (by decide))] at henter3
  have hbit7 (i : Nat) := Dev.bit_congr (hword (o := 7) (by decide)) i
  have hbit9 (i : Nat) := Dev.bit_congr (hword (o := 9) (by decide)) i
  refine ⟨?_, (hbit7 5).trans h5, (hbit7 6).trans h6, (hbit7 8).trans (h8.trans hbad),
    (Dev.fld_congr (hword (o := 7) (by decide)) 1 0).trans (hlev.trans hnew), fun h2 h2' => ?_, fun h3 h3' => ?_⟩
  · rw [Dev.arr_grp heq rfl, hv]
  · exact (henter2 h2 h2').imp (hbit9 3).trans (Dev.fld_congr (hword (o := 0xA) (by decide)) 15 0).trans
  · exact (henter3 h3 h3').imp (hbit9 4).trans (Dev.fld_congr (hword (o := 0xB) (by decide)) 15 0).trans

/-- Settles O38, from what a slot samples, the equation of each way a result can end, what a closed count shows, and the
ladder over a value of the supply. -/
theorem conversions : Obligations.Conversions := by
  intro s p hrun
  refine ⟨exec_conversionSlot_of_unready, fun hr hp hu => ⟨conversionSlot_entry hr hp hu, fun u y => conversionSlot_urgent hr hp hu⟩,
    exec_sampleEntry_of_unready, fun v rest raw hr hv => ⟨exec_sampleEntry_of_cal raw hr hv,
      fun h hch hw hc hn => sampleEntry_counts raw hr hv h hch hw hc hn⟩,
    fun sl ch raw => s.dev.correct_eq p sl raw, Acc.value_eq,
    fun v rest raw h hr hv hch hw => sampleEntry_spec raw hr hv h hch hw hrun, fun a hr hf hc hw hn hpt => ?_⟩
  obtain ⟨hval, -, -, hclosed, -⟩ := Dev.closed_spec p a false hrun
  obtain ⟨hvalid, -, -, -, hcnt⟩ := Dev.closed_stat p a false hrun
  refine ⟨_, exec_accumulatorClose_of_due hrun hr hf hc hw hn hpt, hclosed hf, hval, hvalid, hcnt,
    congrFun (s.dev.mst_closed p a false), fun hsup => ?_⟩
  obtain ⟨hv, h5, h6, h8, hlevel, henter2, henter3⟩ := Dev.closed_ladder p a false hrun hsup
  intro v l ov1 ov2 ov3 hys
  refine ⟨hv, h5, h6, fun h12 h23 hhys => ?_, fun hbad => ?_, fun hl hl' => henter2 hl (hlevel ▸ hl'),
    fun hl hl' => henter3 hl (hlevel ▸ hl')⟩
  · obtain ⟨hord, hnew⟩ := Dev.supNew_of_ordered h12 h23 hhys v
    rw [h8, hlevel, hord, hnew]
    exact ⟨rfl, ladder_of_ordered h12 h23 hhys⟩
  · obtain ⟨hbad, hnew⟩ := Dev.supNew_of_bad hbad v
    rw [h8, hlevel, hbad, hnew]
    obtain ⟨h3, h0, hdown⟩ := ladder_of_least (l := l) (v := v) (hys := hys) (least := min ov1 (min ov2 ov3))
    exact ⟨rfl, h3, h0, hdown (s.dev.level_le p)⟩

end Sys2Proof.Machine
end

section
/-! Words of the feedback channels: a two-word quantity beside writes of other words, the speed, and a count with its
cause (R255, R257, R274). -/

namespace Sys2Proof.Machine

open Sys2Proof

/-! ### Words that stay -/

theorem Dev.SameWords.w32 {d e : Dev} {l : List Nat} (h : d.SameWords e l) {a : Nat} (ha : a ∉ l) (ha' : a + 1 ∉ l) :
    e.w32 a = d.w32 a := by
  unfold Dev.w32
  rw [h a ha, h _ ha']

theorem Dev.SameWords.bit {d e : Dev} {l : List Nat} (h : d.SameWords e l) {a : Nat} (ha : a ∉ l) (i : Nat) :
    e.bit a i = d.bit a i := Dev.bit_congr (h a ha) i

theorem Dev.SameWords.ite {c : Prop} [Decidable c] {d x y : Dev} {l : List Nat} (hx : d.SameWords x l) (hy : d.SameWords y l) :
    d.SameWords (if c then x else y) l := by split <;> assumption

variable (d : Dev) (f : ChanIx)

/-- A saturating count of one. -/
theorem Dev.fld_inc_self (a : Nat) : (d.inc a).fld a 15 0 = min 65535 (d.fld a 15 0 + 1) := by
  rw [Dev.inc, Dev.fld_addSat_self _ _ _ (by decide) (by decide), min_comm]
  rfl

/-! ### SPD (R257) -/

/-- SPD as it was stored, saturated. -/
theorem Dev.putSpd_spd (v : Int) : (d.putSpd f v).spd f = clampInt (-2147483647) 2147483647 v := by
  obtain ⟨hlo, hhi⟩ := clampInt_mem (lo := -2147483647) (hi := 2147483647) (by decide) v
  unfold Dev.spd Dev.putSpd
  rw [Dev.w32_put32, BitVec.toInt_ofInt, Int.bmod_eq_of_le (by omega) (by omega)]

theorem Dev.sameWords_putSpd (v : Int) : d.SameWords (d.putSpd f v) [aFb f 6, aFb f 7] :=
  d.sameWords_put32 _ List.mem_cons_self (List.mem_cons_of_mem _ List.mem_cons_self)

/-! ### A count with its cause (R274) -/

@[simp] theorem Dev.fbCause_fb (bit : Nat) (c : ChanIx) : (d.fbCause f bit).fb c = d.fb c := by simp [Dev.fbCause, Dev.cause]

@[simp] theorem Dev.fbCause_iw (bit a : Nat) : (d.fbCause f bit).iw a = d.iw a := by simp [Dev.fbCause, Dev.cause]

theorem Dev.sameWords_fbCause (bit : Nat) : d.SameWords (d.fbCause f bit) [aFb f 9] := d.sameWords_cause _ _ _

theorem Dev.fbCause_bit_self {bit : Nat} (h : bit < 16) : (d.fbCause f bit).bit (aFb f 9) bit = true := by
  rw [Dev.fbCause, Dev.bit_cause]
  simp [h]

theorem Dev.sameWords_inc (a : Nat) : d.SameWords (d.inc a) [a] := d.sameWords_put _ List.mem_cons_self

/-- A count of the channel goes up by one and its cause is set; nothing else that is read here changes. -/
theorem Dev.countCause_spec {o bit : Nat} (ho : o ≠ 9) (hb : bit < 16) :
    ((d.inc (aFb f o)).fbCause f bit).fld (aFb f o) 15 0 = min 65535 (d.fld (aFb f o) 15 0 + 1) ∧
    ((d.inc (aFb f o)).fbCause f bit).bit (aFb f 9) bit = true ∧
    d.SameWords ((d.inc (aFb f o)).fbCause f bit) [aFb f 9, aFb f o] := by
  have hcause := (d.inc (aFb f o)).sameWords_fbCause f bit
  have ho' : aFb f o ∉ [aFb f 9] := by simpa [aFb] using ho
  exact ⟨(Dev.fld_congr (hcause _ ho') 15 0).trans (d.fld_inc_self _), Dev.fbCause_bit_self _ f hb,
    ((d.sameWords_inc _).mono (by simp)).trans (hcause.mono (by simp))⟩

end Sys2Proof.Machine
end

section
/-! The distance output: what it changes, its enable, its pulses and its gaps (R272, R273). -/

namespace Sys2Proof.Machine

open Sys2Proof

variable (d : Dev)

/-! ### What the distance output can change -/

/-- Words of the distance output: DCNT, DBACK, DLOST, DCAUSE and DLTOT. -/
def distWords : List Nat := [0xA30B, 0xA30C, 0xA30D, 0xA30E, 0xA30F, 0xA310, 0xA311]

/-- What pulses that fall due leave: TIME, the motors, the feedback channels, and every word but those of the output. -/
structure Dev.DistStep (d e : Dev) : Prop where
  cycles : e.cycles = d.cycles
  motors : e.motors = d.motors
  fbs : e.fbs = d.fbs
  words : d.SameWords e distWords

theorem Dev.DistStep.refl : d.DistStep d := ⟨rfl, rfl, rfl, fun _ _ => rfl⟩

theorem Dev.DistStep.trans {c d e : Dev} (h : c.DistStep d) (h' : d.DistStep e) : c.DistStep e :=
  ⟨h'.cycles.trans h.cycles, h'.motors.trans h.motors, h'.fbs.trans h.fbs, h.words.trans h'.words⟩

theorem Dev.DistStep.ite {c : Prop} [Decidable c] {d x y : Dev} (hx : d.DistStep x) (hy : d.DistStep y) :
    d.DistStep (if c then x else y) := by split <;> assumption

theorem Dev.distStep_put {a : Nat} (v : Word) (h : a ∈ distWords) : d.DistStep (d.put a v) :=
  ⟨rfl, rfl, rfl, d.sameWords_put v h⟩

theorem Dev.distStep_dist (x : Dist) : d.DistStep { d with dist := x } := ⟨rfl, rfl, rfl, fun _ _ => rfl⟩

theorem Dev.distStep_orW {a : Nat} (m : Word) (h : a ∈ distWords) : d.DistStep (d.orW a m) :=
  ⟨rfl, rfl, rfl, d.sameWords_put _ h⟩

theorem Dev.distStep_put32 {a : Nat} (v : BitVec 32) (h : a ∈ distWords) (h' : a + 1 ∈ distWords) : d.DistStep (d.put32 a v) :=
  (d.distStep_put _ h).trans (Dev.distStep_put _ _ h')

theorem Dev.distStep_raiseNow (i : Nat) : d.DistStep (d.raiseNow i) := by
  unfold Dev.raiseNow
  split
  · exact .ite ⟨rfl, rfl, rfl, fun _ _ => rfl⟩ (.refl d)
  · exact .refl d

theorem Dev.distStep_raiseN (i n : Nat) : d.DistStep (d.raiseN i n) := by
  unfold Dev.raiseN
  refine .ite (.refl d) (.ite ⟨rfl, rfl, rfl, fun _ _ => rfl⟩ ((d.distStep_raiseNow i).trans ?_))
  dsimp only
  split
  · exact .ite ⟨rfl, rfl, rfl, fun _ _ => rfl⟩ (.refl _)
  · exact .refl _

theorem Dev.distStep_distPulse : d.DistStep d.distPulse :=
  (d.distStep_put32 (d.w32 0xA30B + 1) (by decide) (by decide)).trans (Dev.distStep_dist _ _)

theorem Dev.distStep_distDue (n : Nat) : d.DistStep (d.distDue n) := by
  unfold Dev.distDue
  refine .ite (.refl d) ?_
  dsimp only
  refine (Dev.DistStep.ite (c := (!d.dist.high && !d.dist.gap) = true) d.distStep_distPulse (.refl d)).trans ?_
  refine (Dev.distStep_put _ (a := 0xA30D) _ (by decide)).trans (.ite (.refl _) ?_)
  exact (((Dev.distStep_put _ (a := 0xA30E) _ (by decide)).trans
    (Dev.distStep_put32 _ (a := 0xA310) _ (by decide) (by decide))).trans
    (Dev.distStep_orW _ (a := 0xA30F) _ (by decide))).trans (Dev.distStep_raiseN _ _ _)

/-- Units of a channel reach the distance output alone. -/
theorem Dev.distStep_distUnits (f : ChanIx) (n : Nat) : d.DistStep (d.distUnits f n) := by
  unfold Dev.distUnits
  dsimp only
  exact .ite ((d.distStep_dist _).trans (Dev.distStep_distDue _ _)) (.refl d)

/-! ### The enable (R272) -/

/-- EN holds what is written to it while the tables are unlocked. -/
theorem Dev.bitOf_merge_dcfg (v : Word) (hl : d.locked' = false) : bitOf (d.merge 0xA308 v) 15 = bitOf v 15 := by
  obtain ⟨r, hr, hen⟩ : ∃ r, regRow 0xA308 = some r ∧ (r.mask .rwl).testBit 15 = true :=
    (Option.any_eq_true _ _).1 (by decide +kernel : ((regRow 0xA308).any fun r => (r.mask .rwl).testBit 15) = true)
  have htakes : d.takes r 15 = true := by
    unfold Dev.takes
    rw [hen, hl, Bool.or_comm]
    rfl
  unfold Dev.merge
  rw [hr]
  dsimp only
  rw [d.bitOf_merged _ _ r (by decide) (by simp [absentBits]), if_pos htakes]

/-- DCNT, DLTOT and the backlog are cleared. -/
def Dev.clearDistWords (d : Dev) : Dev := ((d.put32 0xA30B 0).put32 0xA310 0).put 0xA30D 0

theorem Dev.clearDistWords_spec :
    d.clearDistWords.w32 0xA30B = 0 ∧ d.clearDistWords.w32 0xA310 = 0 ∧ d.clearDistWords.w 0xA30D = 0 ∧
    d.clearDistWords.motors = d.motors ∧ d.SameWords d.clearDistWords [0xA30B, 0xA30C, 0xA30D, 0xA310, 0xA311] := by
  have hcnt := d.sameWords_put32 (a := 0xA30B) (l := [0xA30B, 0xA30C]) 0 (by decide) (by decide)
  have htot := (d.put32 0xA30B 0).sameWords_put32 (a := 0xA310) (l := [0xA310, 0xA311]) 0 (by decide) (by decide)
  have hback := ((d.put32 0xA30B 0).put32 0xA310 0).sameWords_put (a := 0xA30D) (l := [0xA30D]) 0 (by decide)
  unfold Dev.clearDistWords
  exact ⟨(hback.w32 (by decide) (by decide)).trans ((htot.w32 (by decide) (by decide)).trans (d.w32_put32 0xA30B 0)),
    (hback.w32 (by decide) (by decide)).trans (Dev.w32_put32 _ 0xA310 0), Dev.w_put_self _ 0xA30D 0, by simp,
    ((hcnt.mono (by decide)).trans (htot.mono (by decide))).trans (hback.mono (by decide))⟩

/-- EN rises. -/
theorem Dev.writeDcfg_of_enable {d : Dev} {v : Word} (hv : bitOf v 15 = true) (hd : d.bit 0xA308 15 = false) :
    d.writeDcfg v = { (d.put 0xA308 v).clearDistWords with dist := {} } := by
  unfold Dev.writeDcfg
  rw [hv, hd]
  rfl

/-- What a rise of EN shows and leaves. -/
theorem Dev.writeDcfg_enable_spec {d : Dev} {v : Word} (hv : bitOf v 15 = true) (hd : d.bit 0xA308 15 = false) :
    (d.writeDcfg v).bit 0xA308 15 = true ∧ (d.writeDcfg v).dist = {} ∧ (d.writeDcfg v).w32 0xA30B = 0 ∧
    (d.writeDcfg v).w32 0xA310 = 0 ∧ (d.writeDcfg v).w 0xA30D = 0 ∧ (d.writeDcfg v).motors = d.motors ∧
    d.SameWords (d.writeDcfg v) [0xA308, 0xA30B, 0xA30C, 0xA30D, 0xA310, 0xA311] := by
  rw [Dev.writeDcfg_of_enable hv hd]
  obtain ⟨hcnt, htot, hback, hmot, hwords⟩ := (d.put 0xA308 v).clearDistWords_spec
  have hen : (d.put 0xA308 v).bit 0xA308 15 = true := (congrArg (bitOf · 15) (d.w_put_self 0xA308 v)).trans hv
  generalize (d.put 0xA308 v).clearDistWords = e at *
  exact ⟨(hwords.bit (by decide) 15).trans hen, rfl, hcnt, htot, hback, hmot,
    (d.sameWords_put v (by decide)).trans (hwords.mono (by decide))⟩

/-! ### Pulses and gaps (R273) -/

theorem Dev.distPulseEnd_of_due {d : Dev} (hh : d.dist.high = true) (ht : d.dist.dueAt ≤ d.cycles) :
    d.distPulseEnd = { d with dist := { d.dist with
      high := false, gap := true, dueAt := d.cycles + 200 * max 1 (d.fld 0xA308 7 0) } } := by
  unfold Dev.distPulseEnd
  rw [hh, decide_eq_true ht]
  rfl

theorem Dev.distGapEnd_of_due {d : Dev} (hg : d.dist.gap = true) (ht : d.dist.dueAt ≤ d.cycles) :
    d.distGapEnd = (let e := { d with dist := { d.dist with gap := false } }
      if d.fld 0xA30D 7 0 = 0 then e else (e.putF 0xA30D 7 0 (d.fld 0xA30D 7 0 - 1)).distPulse) := by
  unfold Dev.distGapEnd
  rw [hg, decide_eq_true ht]
  rfl

/-- A pulse of the backlog begins. -/
theorem Dev.backlogPulse_spec (hn : 0 < d.fld 0xA30D 7 0) :
    let e := (d.putF 0xA30D 7 0 (d.fld 0xA30D 7 0 - 1)).distPulse
    e.dist.high = true ∧ e.dist.gap = false ∧ e.w32 0xA30B = d.w32 0xA30B + 1 ∧ e.fld 0xA30D 7 0 = d.fld 0xA30D 7 0 - 1 ∧
      d.SameWords e [0xA30B, 0xA30C, 0xA30D] := by
  let b := d.putF 0xA30D 7 0 (d.fld 0xA30D 7 0 - 1)
  have hback : d.SameWords b [0xA30D] := d.sameWords_put _ (by decide)
  have hcnt := b.sameWords_put32 (a := 0xA30B) (l := [0xA30B, 0xA30C]) (b.w32 0xA30B + 1) (by decide) (by decide)
  have hlt : d.fld 0xA30D 7 0 < 2 ^ 8 := Nat.mod_lt _ (by decide)
  refine ⟨rfl, rfl, ?_, ?_, (hback.mono (by decide)).trans (hcnt.mono (by decide))⟩
  · exact (b.w32_put32 0xA30B _).trans (congrArg (· + 1) (hback.w32 (by decide) (by decide)))
  · exact (Dev.fld_congr (hcnt 0xA30D (by decide)) 7 0).trans
      ((d.fld_putF_self _ 7 0 _ (by decide) (by decide)).trans (Nat.mod_eq_of_lt (by omega)))

/-! ### The statement -/

/-- Settles O43: a rise of EN by what the write of DCFG clears; the ends of a pulse and of a gap by their equations. -/
theorem distanceOutput : Obligations.DistanceOutput := by
  intro s
  refine ⟨fun k v hw hl hd => ?_, fun hr hh ht => State.onCore_eq hr (Dev.distPulseEnd_of_due hh ht), fun hr hg ht => ?_⟩
  · have hv : bitOf (s.dev.merge 0xA308 (withBit v 15 true)) 15 = true := by
      rw [s.dev.bitOf_merge_dcfg _ hl, bitOf_withBit v 15 15 true (by decide) (by decide), if_pos rfl]
    refine ⟨_, State.write_eq (s.dev.fabWrite_dcfg k _ hw), ?_⟩
    rw [if_neg (by rw [hl]; decide)]
    exact Dev.writeDcfg_enable_spec hv hd
  · have hend := Dev.distGapEnd_of_due hg ht
    refine ⟨fun hn => State.onCore_eq hr (hend.trans (if_pos hn)), fun hn => ?_⟩
    exact ⟨_, State.onCore_eq hr (hend.trans (if_neg (Nat.ne_of_gt hn))),
      Dev.backlogPulse_spec { s.dev with dist := { s.dev.dist with gap := false } } hn⟩

end Sys2Proof.Machine
end

section
/-! The absolute word: writes of CMD, the period of ABSCHK, and the ends of a seeding transfer (R256, R263 to R271). -/

namespace Sys2Proof.Machine

open Sys2Proof

variable (d : Dev) (f : ChanIx)

/-! ### CMD (R256, R267, R271) -/

theorem Dev.sameWords_seedPos : d.SameWords (d.seedPos f) [aFb f 2, aFb f 3] :=
  d.sameWords_put32 _ List.mem_cons_self (List.mem_cons_of_mem _ List.mem_cons_self)

theorem Dev.seedPos_motors : (d.seedPos f).motors = d.motors := Dev.put32_motors _ _ _

/-- POS is the seed, with the edges that were counted in this cycle on top. -/
theorem Dev.seedPos_pos :
    (d.seedPos f).pos f = d.w32 (aFb f 0xE) + (if (d.fb f).stepAt = d.cycles then (d.fb f).step else 0) := d.w32_put32 _ _

/-- POS takes the seed where a write asks for it. -/
def Dev.maySeed (d : Dev) (f : ChanIx) (v : Word) : Dev := if bitOf v 0 then d.seedPos f else d

theorem Dev.sameWords_maySeed (v : Word) : d.SameWords (d.maySeed f v) [aFb f 2, aFb f 3] :=
  .ite (d.sameWords_seedPos f) (fun _ _ => rfl)

theorem Dev.maySeed_motors (v : Word) : (d.maySeed f v).motors = d.motors := by
  unfold Dev.maySeed
  split
  · exact d.seedPos_motors f
  · rfl

/-- A write of CMD: the seed, and what it asks of a channel that has an absolute word. -/
theorem Dev.writeFbCmd_eq (v : Word) :
    d.writeFbCmd f v = if 16 ≤ f.1 then d.maySeed f v else (d.maySeed f v).onFb f (fun x => { x with
      checkDue := x.checkDue || bitOf v 1
      leaveDue := x.leaveDue || (bitOf v 2 && d.inFallback f) }) := by
  have hback : (d.maySeed f v).inFallback f = d.inFallback f := (d.sameWords_maySeed f v).bit (by simp [aFb]) 3
  rw [← hback]
  rfl

/-- A write of CMD changes POS alone among the words, and no motor. -/
theorem Dev.writeFbCmd_frame (v : Word) :
    d.SameWords (d.writeFbCmd f v) [aFb f 2, aFb f 3] ∧ (d.writeFbCmd f v).pos f = (d.maySeed f v).pos f ∧
    (d.writeFbCmd f v).motors = d.motors := by
  have hwords := d.sameWords_maySeed f v
  have hmot := d.maySeed_motors f v
  rw [Dev.writeFbCmd_eq]
  split
  · exact ⟨hwords, rfl, hmot⟩
  · exact ⟨hwords, rfl, hmot⟩

/-- What CHECK and PULSE ask of a channel that has an absolute word. -/
theorem Dev.writeFbCmd_fb (v : Word) (h : f.1 < 16) :
    ((d.writeFbCmd f v).fb f).checkDue = (((d.maySeed f v).fb f).checkDue || bitOf v 1) ∧
    ((d.writeFbCmd f v).fb f).leaveDue = (((d.maySeed f v).fb f).leaveDue || (bitOf v 2 && d.inFallback f)) := by
  rw [Dev.writeFbCmd_eq, if_neg (Nat.not_le.2 h), Dev.onFb_fb]
  exact ⟨rfl, rfl⟩

/-! ### The period of ABSCHK (R267) -/

theorem Dev.absPeriod_of_due {d : Dev} {f : ChanIx} (hf : f.1 < 16) (hc : 0 < d.cycles) (hus : d.cycles % 200 = 0)
    (hms : 0 < d.fld (aFb f 0x12) 7 0) (ht : d.time.toNat % (1000 * d.fld (aFb f 0x12) 7 0) = 0) :
    d.absPeriod f = d.onFb f (fun x => { x with periodDue := true }) := by
  unfold Dev.absPeriod
  dsimp only
  rw [if_pos (by simp [hf, hc, hus, hms, ht])]

/-! ### The end of a transfer (R263 to R266) -/

/-- The transfer in progress is over. -/
def Dev.endTransfer (d : Dev) (f : ChanIx) : Dev :=
  (d.putB (aFb f 8) 4 false).onFb f (fun x => { x with busy := none, doneAt := some d.cycles })

theorem Dev.sameWords_endTransfer : d.SameWords (d.endTransfer f) [aFb f 8] := d.sameWords_put _ List.mem_cons_self

theorem Dev.endTransfer_bit : (d.endTransfer f).bit (aFb f 8) 4 = false := d.bit_putB_self _ 4 false (by decide)

theorem Dev.endTransfer_fb : (d.endTransfer f).fb f = { d.fb f with busy := none, doneAt := some d.cycles } := by
  rw [Dev.endTransfer, Dev.onFb_fb, Dev.putB_fb]

/-- The data bits of the word on the wire (R263). -/
def Dev.absWord (d : Dev) (f : ChanIx) (word : BitVec 32) : BitVec 32 := BitVec.ofNat 32 (word.toNat % 2 ^ d.absLen f)

/-- The transfer is over, and its word is kept in AWORD (R265). -/
def Dev.keepWord (d : Dev) (f : ChanIx) (w : BitVec 32) : Dev := (d.endTransfer f).put32 (aFb f 0x16) w

theorem Dev.keepWord_spec (w : BitVec 32) :
    (d.keepWord f w).w32 (aFb f 0x16) = w ∧ (d.keepWord f w).bit (aFb f 8) 4 = false ∧
    (d.keepWord f w).fb f = { d.fb f with busy := none, doneAt := some d.cycles } ∧ (d.keepWord f w).motors = d.motors := by
  have hwords := (d.endTransfer f).sameWords_put32 (a := aFb f 0x16) (l := [aFb f 0x16, aFb f 0x17]) w (by simp)
    (List.mem_cons_of_mem _ List.mem_cons_self)
  unfold Dev.keepWord
  exact ⟨Dev.w32_put32 _ _ w, (hwords.bit (by simp [aFb]) 4).trans (d.endTransfer_bit f),
    (Dev.put32_fb _ _ _ f).trans (d.endTransfer_fb f), by simp [Dev.endTransfer]⟩

/-- The seeding transfer sets POS, and is no longer due (R266). -/
def Dev.seedAt (d : Dev) (f : ChanIx) (p : BitVec 32) : Dev :=
  (d.put32 (aFb f 2) p).onFb f (fun x => { x with initDue := false })

theorem Dev.seedAt_spec (p : BitVec 32) :
    (d.seedAt f p).pos f = p ∧ d.SameWords (d.seedAt f p) [aFb f 2, aFb f 3] ∧
    (d.seedAt f p).fb f = { d.fb f with initDue := false } ∧ (d.seedAt f p).motors = d.motors := by
  have hwords := d.sameWords_put32 (a := aFb f 2) (l := [aFb f 2, aFb f 3]) p (by simp) (List.mem_cons_of_mem _ List.mem_cons_self)
  unfold Dev.seedAt
  rw [Dev.onFb_fb, Dev.put32_fb]
  exact ⟨d.w32_put32 (aFb f 2) p, hwords, rfl, d.put32_motors (aFb f 2) p⟩

/-- POS as a word of the channel puts it: the offset, the word, and the edges counted since its latch tick (R265). -/
def Dev.absPos (d : Dev) (f : ChanIx) (w : BitVec 32) : BitVec 32 :=
  (d.iw (aFb f 0x15) ++ d.iw (aFb f 0x14) : BitVec 32) + w + (d.fb f).moved

section

variable {d f} (hbusy : (d.fb f).busy = some .seed) (hback : d.inFallback f = false) (word : BitVec 32) (parity : Bool)
include hbusy

/-- A transfer does not end before its clocks have run. -/
theorem Dev.absComplete_of_early (ht : d.cycles < (d.fb f).latchAt + d.absTicks f) :
    d.absComplete f true word parity = d := by
  unfold Dev.absComplete
  rw [hbusy]
  simp [ht]

include hback

theorem Dev.absComplete_of_good (ht : (d.fb f).latchAt + d.absTicks f ≤ d.cycles)
    (hpar : decide ((ones (d.absWord f word) (d.absLen f) + parity.toNat) % 2 = 1) = d.ibit (aFb f 0x10) 14) :
    d.absComplete f true word parity =
      (d.keepWord f (d.absWord f word)).seedAt f (d.absPos f (d.absWord f word)) := by
  unfold Dev.absWord at hpar
  unfold Dev.absComplete
  rw [hbusy, hback]
  dsimp only
  rw [decide_eq_false (by omega), hpar]
  simp only [Bool.and_false, Bool.true_and, beq_self_eq_true]
  rw [Dev.absPos, ← congrArg Fb.moved (d.keepWord_spec f (d.absWord f word)).2.2.1]
  rfl

theorem Dev.absComplete_of_lost :
    d.absComplete f false word parity = ((d.endTransfer f).inc (aFb f 0xC)).fbCause f 3 := by
  unfold Dev.absComplete
  rw [hbusy, hback]
  rfl

end

theorem Dev.seedFromWord_spec (w : BitVec 32) :
    let e := (d.keepWord f w).seedAt f (d.absPos f w)
    e.pos f = d.absPos f w ∧ e.w32 (aFb f 0x16) = w ∧ (e.fb f).initDue = false ∧ (e.fb f).busy = none ∧
      e.bit (aFb f 8) 4 = false ∧ e.motors = d.motors := by
  intro e
  obtain ⟨hword, hrun, hfb, hmot⟩ := d.keepWord_spec f w
  obtain ⟨hpos, hwords, hfb', hmot'⟩ := (d.keepWord f w).seedAt_spec f (d.absPos f w)
  rw [hfb] at hfb'
  exact ⟨hpos, (hwords.w32 (by simp [aFb]) (by simp [aFb])).trans hword, congrArg Fb.initDue hfb', congrArg Fb.busy hfb',
    (hwords.bit (by simp [aFb]) 4).trans hrun, hmot'.trans hmot⟩

/-- A word that never came counts in ABSERRCNT with its cause, and leaves POS and a seeding transfer that is due. -/
theorem Dev.lostWord_spec :
    let e := ((d.endTransfer f).inc (aFb f 0xC)).fbCause f 3
    (e.fb f).busy = none ∧ e.fld (aFb f 0xC) 15 0 = min 65535 (d.fld (aFb f 0xC) 15 0 + 1) ∧ e.bit (aFb f 9) 3 = true ∧
      e.pos f = d.pos f ∧ (e.fb f).initDue = (d.fb f).initDue := by
  intro e
  obtain ⟨hcnt, hbit, hwords⟩ := (d.endTransfer f).countCause_spec f (o := 0xC) (bit := 3) (by decide) (by decide)
  have hend := d.sameWords_endTransfer f
  have hfb : e.fb f = { d.fb f with busy := none, doneAt := some d.cycles } := by
    rw [Dev.fbCause_fb, Dev.inc_fb, Dev.endTransfer_fb]
  rw [Dev.fld_congr (hend _ (by simp [aFb]))] at hcnt
  exact ⟨by rw [hfb], hcnt, hbit, (hwords.w32 (by simp [aFb]) (by simp [aFb])).trans (hend.w32 (by simp [aFb]) (by simp [aFb])),
    by rw [hfb]⟩

/-! ### The statement -/

/-- Settles O42: CHECK and PULSE by what a write of CMD asks for; a seeding transfer by the three ways it can end. -/
theorem absoluteWord : Obligations.AbsoluteWord := by
  intro s f hf
  refine ⟨fun k v hw => ⟨?_, fun hback => ?_⟩, fun hr hc hus hms ht =>
      State.onCore_eq (f := fun d => d.absPeriod f) hr (Dev.absPeriod_of_due hf hc hus hms ht),
    fun hr hbusy hback word parity => ⟨fun ht => ?_, ?_, ?_⟩⟩
  · refine ⟨_, State.write_eq (s.dev.fabWrite_fbCmd k _ f hw), ?_, (s.dev.writeFbCmd_frame f _).1⟩
    rw [(s.dev.writeFbCmd_fb f _ hf).1, bitOf_withBit v 1 1 true (by decide) (by decide), if_pos rfl, Bool.or_true]
  · refine ⟨_, State.write_eq (s.dev.fabWrite_fbCmd k _ f hw), ?_, (s.dev.writeFbCmd_frame f _).1⟩
    rw [(s.dev.writeFbCmd_fb f _ hf).2, bitOf_withBit v 2 2 true (by decide) (by decide), if_pos rfl, hback, Bool.and_true,
      Bool.or_true]
  · exact State.onCore_eq (f := fun d => d.absComplete f true word parity) hr (Dev.absComplete_of_early hbusy word parity ht)
  · intro ht w hpar
    exact ⟨_, State.onCore_eq (f := fun d => d.absComplete f true word parity) hr
      (Dev.absComplete_of_good hbusy hback word parity ht hpar), s.dev.seedFromWord_spec f w⟩
  · exact ⟨_, State.onCore_eq (f := fun d => d.absComplete f false word parity) hr
      (Dev.absComplete_of_lost hbusy hback word parity), s.dev.lostWord_spec f⟩

end Sys2Proof.Machine
end

section
/-! A counted edge: the count, the history of edges, and the speed from the intervals held (R253 to R260). -/

namespace Sys2Proof.Machine

open Sys2Proof

variable (d : Dev) (f : ChanIx) (neg : Bool)

/-! ### The count (R253, R255, R265) -/

/-- An edge moves POS, and leaves what a latch tick and a seed of its cycle need of it (R256, R265). -/
def Dev.moveCount (d : Dev) (f : ChanIx) (neg : Bool) : Dev :=
  let step : BitVec 32 := if neg then -1 else 1
  (d.put32 (aFb f 2) (d.pos f + step)).onFb f (fun x => { x with
    moved := if x.latchAt = d.cycles then x.moved else x.moved + step
    stepAt := d.cycles, step := (if x.stepAt = d.cycles then x.step else 0) + step })

/-- An edge that reaches the count and the distance output. -/
def Dev.edgeCounted (d : Dev) (f : ChanIx) (neg : Bool) : Dev := ((d.enforceFb f).moveCount f neg).distUnits f 1

/-- What the count of an edge shows, and what it leaves for the speed. -/
structure Dev.Counted (d e : Dev) (f : ChanIx) (neg : Bool) : Prop where
  pos : e.pos f = d.pos f + (if neg then -1 else 1)
  cycles : e.cycles = d.cycles
  hist : (e.fb f).hist = (d.fb f).hist
  edges : (e.fb f).edges = (d.fb f).edges
  lastNeg : (e.fb f).lastNeg = (d.fb f).lastNeg
  others : ∀ c, c ≠ f → e.fb c = d.fb c
  motors : e.motors = d.motors
  words : d.SameWords e ([aFb f 2, aFb f 3] ++ distWords)

theorem Dev.enforceFb_eq : ∃ st, d.enforceFb f = { d with inForce := st } := by
  unfold Dev.enforceFb Dev.when
  split
  · exact ⟨_, rfl⟩
  · exact ⟨_, rfl⟩

theorem Dev.counted_enforceFb {e : Dev} (h : (d.enforceFb f).Counted e f neg) : d.Counted e f neg := by
  obtain ⟨st, hst⟩ := d.enforceFb_eq f
  rw [hst] at h
  exact ⟨h.pos, h.cycles, h.hist, h.edges, h.lastNeg, h.others, h.motors, h.words⟩

theorem Dev.counted_moveCount : d.Counted (d.moveCount f neg) f neg := by
  have hwords := d.sameWords_put32 (a := aFb f 2) (l := [aFb f 2, aFb f 3] ++ distWords) (d.pos f + (if neg then -1 else 1))
    (by simp) (List.mem_cons_of_mem _ List.mem_cons_self)
  unfold Dev.moveCount
  constructor
  case pos => exact d.w32_put32 (aFb f 2) _
  case cycles => rw [Dev.onFb_cycles, Dev.put32_cycles]
  case hist => rw [Dev.onFb_fb, Dev.put32_fb]
  case edges => rw [Dev.onFb_fb, Dev.put32_fb]
  case lastNeg => rw [Dev.onFb_fb, Dev.put32_fb]
  case others =>
    intro c hc
    rw [Dev.onFb_fb_ne _ _ hc, Dev.put32_fb]
  case motors => rw [Dev.onFb_motors, Dev.put32_motors]
  case words => exact hwords

theorem aFb_notMem_distWords {o : Nat} (h : o < 0x20) : aFb f o ∉ distWords := by
  simp only [distWords, aFb, List.mem_cons, List.not_mem_nil, or_false]
  omega

variable {d f neg}

/-- The distance output leaves the count of an edge as it is. -/
theorem Dev.Counted.distStep {e e' : Dev} (h : d.Counted e f neg) (h' : e.DistStep e') : d.Counted e' f neg := by
  have hfb (c : ChanIx) : e'.fb c = e.fb c := congrArg (·[c]) h'.fbs
  have hpos : e'.pos f = e.pos f := h'.words.w32 (aFb_notMem_distWords f (by decide)) (aFb_notMem_distWords f (o := 3) (by decide))
  exact ⟨hpos.trans h.pos, h'.cycles.trans h.cycles, (congrArg Fb.hist (hfb f)).trans h.hist,
    (congrArg Fb.edges (hfb f)).trans h.edges, (congrArg Fb.lastNeg (hfb f)).trans h.lastNeg,
    fun c hc => (hfb c).trans (h.others c hc), h'.motors.trans h.motors,
    h.words.trans (h'.words.mono (List.subset_append_right _ _))⟩

variable (d f neg)

theorem Dev.counted_edgeCounted : d.Counted (d.edgeCounted f neg) f neg :=
  d.counted_enforceFb f neg (((d.enforceFb f).counted_moveCount f neg).distStep (Dev.distStep_distUnits _ f 1))

/-! ### The history (R257, R259) -/

/-- The edge has not the sign of the one before it. -/
def Dev.reverses (d : Dev) (f : ChanIx) (neg : Bool) : Bool := !(d.fb f).hist.isEmpty && (d.fb f).lastNeg != some neg

/-- The history with the edge in it: at most K intervals, and none after a reversal. -/
def Dev.histAfter (d : Dev) (f : ChanIx) (neg : Bool) : List Nat :=
  if d.reverses f neg then [d.cycles] else (d.cycles :: (d.fb f).hist).take (d.kavg f + 1)

/-- Direction and ZERO as the edge shows them, with its history. -/
def Dev.markEdge (d : Dev) (f : ChanIx) (neg : Bool) (hist : List Nat) : Dev :=
  ((d.putB (aFb f 8) 1 neg).putB (aFb f 8) 2 false).onFb f (fun x => { x with
    hist := hist, edges := min 2 ((d.fb f).edges + 1), lastNeg := some neg, lastAt := some d.cycles
    lastIv := match (d.fb f).hist with | t :: _ => d.cycles - t | [] => 0 })

variable {d f neg}

theorem Dev.reverses_of_counted {e : Dev} (h : d.Counted e f neg) : e.reverses f neg = d.reverses f neg := by
  unfold Dev.reverses
  rw [h.hist, h.lastNeg]

theorem Dev.histAfter_of_counted {e : Dev} (h : d.Counted e f neg) : e.histAfter f neg = d.histAfter f neg := by
  have hk : e.kavg f = d.kavg f :=
    congrArg (2 ^ ·) (Dev.fld_congr (h.words _ (List.not_mem_append (by simp [aFb]) (aFb_notMem_distWords f (by decide)))) 5 4)
  unfold Dev.histAfter
  rw [Dev.reverses_of_counted h, h.cycles, h.hist, hk]

variable (d f neg)

/-- What the marks of an edge show, and what they leave. -/
theorem Dev.markEdge_spec (hist : List Nat) :
    ((d.markEdge f neg hist).fb f).hist = hist ∧ (d.markEdge f neg hist).bit (aFb f 8) 1 = neg ∧
    (d.markEdge f neg hist).bit (aFb f 8) 2 = false ∧ (d.markEdge f neg hist).bit (aFb f 8) 0 = d.bit (aFb f 8) 0 ∧
    (∀ c, c ≠ f → (d.markEdge f neg hist).fb c = d.fb c) ∧ (d.markEdge f neg hist).motors = d.motors ∧
    d.SameWords (d.markEdge f neg hist) [aFb f 8] := by
  have hdir : d.SameWords (d.putB (aFb f 8) 1 neg) [aFb f 8] := d.sameWords_put _ List.mem_cons_self
  have hzero : (d.putB (aFb f 8) 1 neg).SameWords ((d.putB (aFb f 8) 1 neg).putB (aFb f 8) 2 false) [aFb f 8] :=
    Dev.sameWords_put _ _ List.mem_cons_self
  unfold Dev.markEdge
  simp only [Dev.onFb_bit, Dev.onFb_motors, Dev.onFb_fb, Dev.putB_motors]
  refine ⟨trivial, ?_, Dev.bit_putB_self _ _ 2 _ (by decide), ?_, fun c hc => ?_, trivial, hdir.trans hzero⟩
  · rw [Dev.bit_putB_ne _ _ _ (by decide) (by decide) (by decide), Dev.bit_putB_self _ _ 1 _ (by decide)]
  · rw [Dev.bit_putB_ne _ _ _ (by decide) (by decide) (by decide), Dev.bit_putB_ne _ _ _ (by decide) (by decide) (by decide)]
  · rw [Dev.onFb_fb_ne _ _ hc, Dev.putB_fb, Dev.putB_fb]

/-! ### The speed (R257 to R259) -/

/-- The speed from the intervals held, through the reciprocal of R258. -/
def histSpeed (now : Nat) (hist : List Nat) (neg : Bool) : Int :=
  let q : Int := recip ((hist.length - 1) * 3200000000) (max 1 (now - hist.getLastD now))
  if neg then -q else q

/-- SPD and SPDV after an edge: 0 at a reversal, as they stood at a first edge, and otherwise the speed given. -/
def Dev.followSpeed (d : Dev) (f : ChanIx) (rev : Bool) (edges : Nat) (v : Int) : Dev :=
  if rev then d.putSpd f 0 else if edges < 2 then d else (d.putSpd f v).putSpdv f true

/-- A counted edge in its steps: the count, the marks, the speed. -/
theorem Dev.countEdge_eq :
    d.countEdge f neg =
      (let e := d.edgeCounted f neg
       (e.markEdge f neg (e.histAfter f neg)).followSpeed f (e.reverses f neg) (min 2 ((e.fb f).edges + 1))
         (histSpeed e.cycles (e.histAfter f neg) neg)) := by
  unfold Dev.countEdge
  rfl

/-- What the speed of an edge leaves: the records, and every word but SPD, and SPDV of STAT. -/
theorem Dev.followSpeed_frame (rev : Bool) (edges : Nat) (v : Int) :
    (∀ c, (d.followSpeed f rev edges v).fb c = d.fb c) ∧ (d.followSpeed f rev edges v).motors = d.motors ∧
    (∀ i, i < 16 → i ≠ 0 → (d.followSpeed f rev edges v).bit (aFb f 8) i = d.bit (aFb f 8) i) ∧
    (d.followSpeed f rev edges v).pos f = d.pos f := by
  have hspd (u : Int) := d.sameWords_putSpd f u
  unfold Dev.followSpeed
  split
  · exact ⟨Dev.put32_fb _ _ _, Dev.put32_motors _ _ _, fun i _ _ => (hspd 0).bit (by simp [aFb]) i,
      (hspd 0).w32 (by simp [aFb]) (by simp [aFb])⟩
  · split
    · exact ⟨fun _ => rfl, rfl, fun _ _ _ => rfl, rfl⟩
    · have hvalid : (d.putSpd f v).SameWords ((d.putSpd f v).putSpdv f true) [aFb f 8] := Dev.sameWords_put _ _ List.mem_cons_self
      refine ⟨fun c => ?_, ?_, fun i hi h0 => ?_, ?_⟩
      · rw [Dev.putSpdv, Dev.putB_fb, Dev.putSpd, Dev.put32_fb]
      · rw [Dev.putSpdv, Dev.putB_motors, Dev.putSpd, Dev.put32_motors]
      · rw [Dev.putSpdv, Dev.bit_putB_ne _ _ _ (by decide) hi h0]
        exact (hspd v).bit (by simp [aFb]) i
      · exact (hvalid.w32 (by simp [aFb]) (by simp [aFb])).trans ((hspd v).w32 (by simp [aFb]) (by simp [aFb]))

theorem Dev.followSpeed_reversed (edges : Nat) (v : Int) :
    (d.followSpeed f true edges v).spd f = 0 ∧ (d.followSpeed f true edges v).bit (aFb f 8) 0 = d.bit (aFb f 8) 0 :=
  ⟨d.putSpd_spd f 0, (d.sameWords_putSpd f 0).bit (by simp [aFb]) 0⟩

theorem Dev.followSpeed_again {edges : Nat} (h : 2 ≤ edges) (v : Int) :
    (d.followSpeed f false edges v).spd f = clampInt (-2147483647) 2147483647 v ∧
    (d.followSpeed f false edges v).bit (aFb f 8) 0 = true := by
  have hvalid : (d.putSpd f v).SameWords ((d.putSpd f v).putSpdv f true) [aFb f 8] := Dev.sameWords_put _ _ List.mem_cons_self
  have heq : d.followSpeed f false edges v = (d.putSpd f v).putSpdv f true := if_neg (Nat.not_lt.2 h)
  rw [heq]
  exact ⟨(congrArg BitVec.toInt (hvalid.w32 (by simp [aFb]) (by simp [aFb]))).trans (d.putSpd_spd f v),
    Dev.bit_putB_self _ _ 0 true (by decide)⟩

/-! ### A counted edge -/

/-- What every counted edge shows and leaves, with its history. -/
theorem Dev.countEdge_frame :
    (d.countEdge f neg).pos f = d.pos f + (if neg then -1 else 1) ∧ (d.countEdge f neg).bit (aFb f 8) 1 = neg ∧
    (d.countEdge f neg).bit (aFb f 8) 2 = false ∧ ((d.countEdge f neg).fb f).hist = d.histAfter f neg ∧
    (∀ c, c ≠ f → (d.countEdge f neg).fb c = d.fb c) ∧ (d.countEdge f neg).motors = d.motors := by
  have hcount := d.counted_edgeCounted f neg
  rw [Dev.countEdge_eq]
  dsimp only
  generalize d.edgeCounted f neg = e at hcount
  obtain ⟨hhist, hdir, hzero, -, hothers, hmot, hwords⟩ := e.markEdge_spec f neg (e.histAfter f neg)
  generalize e.markEdge f neg (e.histAfter f neg) = m at *
  obtain ⟨hfb, hmot', hbit, hpos⟩ := m.followSpeed_frame f (e.reverses f neg) (min 2 ((e.fb f).edges + 1))
    (histSpeed e.cycles (e.histAfter f neg) neg)
  refine ⟨hpos.trans ((hwords.w32 (by simp [aFb]) (by simp [aFb])).trans hcount.pos), (hbit 1 (by decide) (by decide)).trans hdir,
    (hbit 2 (by decide) (by decide)).trans hzero, ?_, fun c hc => ?_, hmot'.trans (hmot.trans hcount.motors)⟩
  · rw [hfb, hhist, Dev.histAfter_of_counted hcount]
  · rw [hfb, hothers c hc, hcount.others c hc]

/-- An edge that reverses: SPD is 0, and SPDV stays. -/
theorem Dev.countEdge_of_reverses (h : d.reverses f neg = true) :
    (d.countEdge f neg).spd f = 0 ∧ (d.countEdge f neg).bit (aFb f 8) 0 = d.bit (aFb f 8) 0 := by
  have hcount := d.counted_edgeCounted f neg
  rw [Dev.countEdge_eq]
  dsimp only
  rw [Dev.reverses_of_counted hcount, h]
  generalize d.edgeCounted f neg = e at hcount
  obtain ⟨-, -, -, hvalid, -⟩ := e.markEdge_spec f neg (e.histAfter f neg)
  obtain ⟨hspd, hbit⟩ := (e.markEdge f neg (e.histAfter f neg)).followSpeed_reversed f (min 2 ((e.fb f).edges + 1))
    (histSpeed e.cycles (e.histAfter f neg) neg)
  exact ⟨hspd, hbit.trans (hvalid.trans
    (hcount.words.bit (List.not_mem_append (by simp [aFb]) (aFb_notMem_distWords f (by decide))) 0))⟩

/-- An edge after another of its sign: the speed of the intervals held, with SPDV. -/
theorem Dev.countEdge_of_again (h : d.reverses f neg = false) (hedges : 1 ≤ (d.fb f).edges) :
    (d.countEdge f neg).spd f = clampInt (-2147483647) 2147483647 (histSpeed d.cycles (d.histAfter f neg) neg) ∧
    (d.countEdge f neg).bit (aFb f 8) 0 = true := by
  have hcount := d.counted_edgeCounted f neg
  rw [Dev.countEdge_eq]
  dsimp only
  rw [Dev.reverses_of_counted hcount, h, hcount.edges, hcount.cycles, Dev.histAfter_of_counted hcount]
  exact Dev.followSpeed_again _ f (by omega) _

/-! ### Which edges count (R253, R254) -/

variable {d f neg}

theorem Dev.feedbackEdge_of_fallback (h : d.inFallback f = true) (ball : Ball) (bHigh : Bool) :
    d.feedbackEdge f ball bHigh = d := by
  unfold Dev.feedbackEdge
  rw [h]
  rfl

/-- The balls that count in each mode, and the sign of their edges. -/
theorem Dev.feedbackEdge_of_counts (hfb : d.inFallback f = false) {ball : Ball} {bHigh : Bool}
    (h : (d.fbMode f = 1 ∧ ball ≠ .b ∧ neg = (!bHigh != d.bit (aFb f 0) 2)) ∨
      (d.fbMode f = 2 ∧ ball = .a ∧ neg = d.bit (aFb f 0) 2) ∨
      (d.fbMode f = 2 ∧ ball = .b ∧ neg = !d.bit (aFb f 0) 2) ∨
      (d.fbMode f = 3 ∧ ball ≠ .b ∧ neg = d.bit (aFb f 0) 2)) :
    d.feedbackEdge f ball bHigh = d.countEdge f neg := by
  unfold Dev.feedbackEdge
  rw [hfb]
  obtain ⟨hm, hb, rfl⟩ | ⟨hm, rfl, rfl⟩ | ⟨hm, rfl, rfl⟩ | ⟨hm, hb, rfl⟩ := h
  · rw [hm]
    cases ball with
    | a => rfl
    | b => exact absurd rfl hb
    | both => rfl
  · rw [hm]
    rfl
  · rw [hm]
    rfl
  · rw [hm]
    cases ball with
    | a => rfl
    | b => exact absurd rfl hb
    | both => rfl

theorem Dev.feedbackEdge_of_pair (hfb : d.inFallback f = false) (hm : d.fbMode f = 2) (bHigh : Bool) :
    d.feedbackEdge f .both bHigh = (d.inc (aFb f 0xB)).fbCause f 1 := by
  unfold Dev.feedbackEdge
  rw [hfb, hm]
  rfl

end Sys2Proof.Machine
end

section
/-! The statement on counting (R253 to R262): what an edge does, glitches, the decay of SPD, ZERO, SEED, and the copies
made while the group stands. -/

namespace Sys2Proof.Machine

open Sys2Proof

/-! ### Values limited on both sides (R260) -/

theorem natAbs_clampInt (m : Nat) (x : Int) : (clampInt (-m) m x).natAbs = min m x.natAbs := by
  unfold clampInt
  split_ifs <;> omega

theorem clampInt_nonneg (m : Nat) {x : Int} (h : 0 ≤ x) : 0 ≤ clampInt (-m) m x := by
  unfold clampInt
  split_ifs <;> omega

theorem clampInt_nonpos (m : Nat) {x : Int} (h : x ≤ 0) : clampInt (-m) m x ≤ 0 := by
  unfold clampInt
  split_ifs <;> omega

/-- The reciprocal of R258 with its shifts as quotients. -/
theorem recip_eq (n x : Nat) :
    let sh := Nat.log2 x + 1 - 14
    recip n x = n * ((2 ^ 29 + x / 2 ^ sh) / (2 * (x / 2 ^ sh))) / 2 ^ (28 + sh) := by
  unfold recip
  simp only [Nat.shiftRight_eq_div_pow]
  rfl

section

variable {d : Dev} {f : ChanIx}

/-! ### An edge in the words of the statement -/

theorem Dev.histAfter_of_first {neg : Bool} (h : (d.fb f).hist = []) : d.histAfter f neg = [d.cycles] := by
  unfold Dev.histAfter Dev.reverses
  simp [h]

theorem Dev.reverses_eq_true {neg : Bool} (h : (d.fb f).hist ≠ []) (hneg : (d.fb f).lastNeg ≠ some neg) :
    d.reverses f neg = true := by
  unfold Dev.reverses
  simp [h, hneg]

theorem Dev.reverses_eq_false {neg : Bool} (hneg : (d.fb f).lastNeg = some neg) : d.reverses f neg = false := by
  unfold Dev.reverses
  simp [hneg]

/-- A counted edge, by what stands in the history. -/
theorem Dev.countEdge_spec (neg : Bool) :
    (d.countEdge f neg).pos f = d.pos f + (if neg then -1 else 1) ∧ (d.countEdge f neg).bit (aFb f 8) 1 = neg ∧
    (d.countEdge f neg).bit (aFb f 8) 2 = false ∧
    ((d.fb f).hist = [] → ((d.countEdge f neg).fb f).hist = [d.cycles]) ∧
    ((d.fb f).hist ≠ [] → (d.fb f).lastNeg ≠ some neg → (d.countEdge f neg).spd f = 0 ∧
      (d.countEdge f neg).bit (aFb f 8) 0 = d.bit (aFb f 8) 0 ∧ ((d.countEdge f neg).fb f).hist = [d.cycles]) ∧
    ((d.fb f).hist ≠ [] → (d.fb f).lastNeg = some neg → 1 ≤ (d.fb f).edges →
      let hs := (d.cycles :: (d.fb f).hist).take (2 ^ d.fld (aFb f 0) 5 4 + 1)
      let q : Int := recip ((hs.length - 1) * 3200000000) (max 1 (d.cycles - hs.getLastD d.cycles))
      (d.countEdge f neg).spd f = clampInt (-2147483647) 2147483647 (if neg then -q else q) ∧
        (d.countEdge f neg).bit (aFb f 8) 0 = true ∧ ((d.countEdge f neg).fb f).hist = hs) ∧
    (∀ c, c ≠ f → (d.countEdge f neg).fb c = d.fb c) ∧ (d.countEdge f neg).motors = d.motors := by
  obtain ⟨hpos, hdir, hzero, hhist, hothers, hmot⟩ := d.countEdge_frame f neg
  refine ⟨hpos, hdir, hzero, fun h => hhist.trans (Dev.histAfter_of_first h), fun h hneg => ?_,
    fun h hneg hedges => ?_, hothers, hmot⟩
  · have hrev := Dev.reverses_eq_true h hneg
    obtain ⟨hspd, hvalid⟩ := d.countEdge_of_reverses f neg hrev
    exact ⟨hspd, hvalid, hhist.trans (if_pos hrev)⟩
  · have hrev := Dev.reverses_eq_false hneg
    have hafter : d.histAfter f neg = (d.cycles :: (d.fb f).hist).take (2 ^ d.fld (aFb f 0) 5 4 + 1) :=
      if_neg (by rw [hrev]; decide)
    obtain ⟨hspd, hvalid⟩ := d.countEdge_of_again f neg hrev hedges
    rw [hafter] at hspd hhist
    exact ⟨hspd, hvalid, hhist⟩

/-! ### Glitches (R262) -/

/-- Glitches in the 10 ms window of TIME, with the present one. -/
def Dev.glitches (d : Dev) (f : ChanIx) : Nat :=
  if (d.fb f).glWin = d.time.toNat / 10000 then (d.fb f).glCnt + 1 else 1

/-- The channel with its glitches of the window. -/
def Dev.noteGlitch (d : Dev) (f : ChanIx) : Dev :=
  d.onFb f (fun x => { x with glWin := d.time.toNat / 10000, glCnt := d.glitches f })

/-- The glitches of the window are the most that GLMAX allows. -/
def Dev.tooMany (d : Dev) (f : ChanIx) : Prop := d.ifld (aFb f 1) 15 8 ≠ 0 ∧ d.glitches f = d.ifld (aFb f 1) 15 8

/-- A glitch that is one of few counts; it does nothing else. -/
theorem Dev.glitch_of_few (hfb : d.inFallback f = false) (h : ¬ d.tooMany f) : d.glitch f = (d.noteGlitch f).inc (aFb f 0xA) := by
  unfold Dev.glitch
  rw [hfb]
  exact if_neg h

/-- A glitch that is one too many sets its cause, where the fallback is not enabled. -/
theorem Dev.glitch_of_tooMany (hfb : d.inFallback f = false) (hen : d.fbEnabled f = false) (h : d.tooMany f) :
    d.glitch f = ((d.noteGlitch f).inc (aFb f 0xA)).fbCause f 0 := by
  have hen' : (((d.noteGlitch f).inc (aFb f 0xA)).fbCause f 0).fbEnabled f = false := by
    rw [← hen]
    unfold Dev.fbEnabled Dev.ibit
    rw [Dev.fbCause_iw, Dev.inc_iw]
    rfl
  unfold Dev.glitch
  rw [hfb]
  exact (if_pos h).trans (if_neg (by rw [Bool.not_eq_true]; exact hen'))

theorem Dev.glitch_spec (hfb : d.inFallback f = false) (hen : d.fbEnabled f = false) :
    (d.glitch f).fld (aFb f 0xA) 15 0 = min 65535 (d.fld (aFb f 0xA) 15 0 + 1) ∧
    (d.ifld (aFb f 1) 15 8 = 1 → (d.fb f).glWin ≠ d.time.toNat / 10000 → (d.glitch f).bit (aFb f 9) 0 = true) ∧
    (d.glitch f).pos f = d.pos f ∧ d.SameWords (d.glitch f) [aFb f 9, aFb f 0xA] := by
  obtain ⟨hcnt, hbit, hwords⟩ := (d.noteGlitch f).countCause_spec f (o := 0xA) (bit := 0) (by decide) (by decide)
  have hinc : d.SameWords ((d.noteGlitch f).inc (aFb f 0xA)) [aFb f 9, aFb f 0xA] :=
    ((d.noteGlitch f).sameWords_inc _).mono (by simp)
  have hpos {e : Dev} (h : d.SameWords e [aFb f 9, aFb f 0xA]) : e.pos f = d.pos f := h.w32 (by simp [aFb]) (by simp [aFb])
  by_cases h : d.tooMany f
  · rw [Dev.glitch_of_tooMany hfb hen h]
    exact ⟨hcnt, fun _ _ => hbit, hpos hwords, hwords⟩
  · rw [Dev.glitch_of_few hfb h]
    refine ⟨(d.noteGlitch f).fld_inc_self _, fun hmost hwin => absurd ?_ h, hpos hinc, hinc⟩
    unfold Dev.tooMany Dev.glitches
    rw [hmost, if_neg hwin]
    exact ⟨by decide, rfl⟩

/-! ### Decay and ZERO (R260) -/

theorem Dev.speedDecay_of_due {t : Nat} {rest : List Nat} (hh : (d.fb f).hist = t :: rest) (hfb : d.inFallback f = false)
    (hus : d.cycles % 200 = 0) (hiv : 0 < (d.fb f).lastIv) (hlong : (d.fb f).lastIv < d.cycles - t) :
    d.speedDecay f =
      d.putSpd f (clampInt (-((3200000000 / (d.cycles - t) : Nat) : Int)) (3200000000 / (d.cycles - t) : Nat) (d.spd f)) := by
  unfold Dev.speedDecay
  dsimp only
  rw [hh]
  exact if_pos (by simp [hfb, hus, hiv, hlong])

/-- SPD limited in magnitude, with its sign. -/
theorem Dev.putSpd_clamp_spec (m : Nat) :
    ((d.putSpd f (clampInt (-m) m (d.spd f))).spd f).natAbs = min 2147483647 (min (d.spd f).natAbs m) ∧
    (0 ≤ d.spd f → 0 ≤ (d.putSpd f (clampInt (-m) m (d.spd f))).spd f) ∧
    (d.spd f ≤ 0 → (d.putSpd f (clampInt (-m) m (d.spd f))).spd f ≤ 0) := by
  rw [Dev.putSpd_spd]
  refine ⟨?_, fun h => clampInt_nonneg 2147483647 (clampInt_nonneg m h),
    fun h => clampInt_nonpos 2147483647 (clampInt_nonpos m h)⟩
  exact (natAbs_clampInt 2147483647 _).trans (by rw [natAbs_clampInt, Nat.min_comm m])

/-- The channel stands. -/
def Dev.standStill (d : Dev) (f : ChanIx) : Dev := ((d.putSpd f 0).putB (aFb f 8) 2 true).onFb f Fb.lastEdgeOnly

theorem Dev.zeroSpeed_of_due {t : Nat} (ht : (d.fb f).lastAt = some t) (hfb : d.inFallback f = false)
    (hz : d.bit (aFb f 8) 2 = false) (hlong : max 1 (d.ifld (aFb f 1) 7 0) * 200000 ≤ d.cycles - t) :
    d.zeroSpeed f = d.standStill f := by
  unfold Dev.zeroSpeed
  rw [ht]
  exact if_pos (by rw [hfb, hz, decide_eq_true hlong]; rfl)

theorem Dev.standStill_spec :
    (d.standStill f).spd f = 0 ∧ (d.standStill f).bit (aFb f 8) 2 = true ∧
    ((d.standStill f).fb f).hist = (d.fb f).hist.take 1 ∧ d.SameWords (d.standStill f) [aFb f 6, aFb f 7, aFb f 8] := by
  have hspd := d.sameWords_putSpd f 0
  have hzero := (d.putSpd f 0).sameWords_put (a := aFb f 8) (l := [aFb f 8])
    (withBits ((d.putSpd f 0).w (aFb f 8)) 2 2 true.toNat) List.mem_cons_self
  have hstill : ((d.putSpd f 0).putB (aFb f 8) 2 true).spd f = 0 :=
    (congrArg BitVec.toInt (hzero.w32 (by simp [aFb]) (by simp [aFb]))).trans (d.putSpd_spd f 0)
  have hbit : ((d.putSpd f 0).putB (aFb f 8) 2 true).bit (aFb f 8) 2 = true := Dev.bit_putB_self _ _ 2 true (by decide)
  have hfb : ((d.putSpd f 0).putB (aFb f 8) 2 true).fb f = d.fb f := (Dev.putB_fb _ _ _ _ f).trans (Dev.put32_fb d _ _ f)
  have hwords : d.SameWords ((d.putSpd f 0).putB (aFb f 8) 2 true) [aFb f 6, aFb f 7, aFb f 8] :=
    (hspd.mono (by simp)).trans (hzero.mono (by simp))
  unfold Dev.standStill
  rw [Dev.onFb_fb, hfb]
  generalize (d.putSpd f 0).putB (aFb f 8) 2 true = e at *
  exact ⟨hstill, hbit, rfl, hwords⟩

/-! ### The copies of a group that stands (R261) -/

/-- POS and SPD as a copy shows them. -/
def Dev.showCopy (d : Dev) (f : ChanIx) : Dev := (d.put32 (aFb f 4) (d.pos f)).put32 (aFb f 0x19) (d.w32 (aFb f 6))

theorem Dev.showCopy_spec :
    (d.showCopy f).w32 (aFb f 4) = d.pos f ∧ (d.showCopy f).w32 (aFb f 0x19) = d.w32 (aFb f 6) ∧
    (d.showCopy f).bit (aFb f 8) 0 = d.bit (aFb f 8) 0 ∧
    d.SameWords (d.showCopy f) [aFb f 4, aFb f 5, aFb f 0x19, aFb f 0x1A] := by
  have hpos := d.sameWords_put32 (a := aFb f 4) (l := [aFb f 4, aFb f 5]) (d.pos f) (by simp)
    (List.mem_cons_of_mem _ List.mem_cons_self)
  have hspd := (d.put32 (aFb f 4) (d.pos f)).sameWords_put32 (a := aFb f 0x19) (l := [aFb f 0x19, aFb f 0x1A]) (d.w32 (aFb f 6))
    (by simp) (List.mem_cons_of_mem _ List.mem_cons_self)
  unfold Dev.showCopy
  exact ⟨(hspd.w32 (by simp [aFb]) (by simp [aFb])).trans (d.w32_put32 (aFb f 4) _), Dev.w32_put32 _ (aFb f 0x19) _,
    (hspd.bit (by simp [aFb]) 0).trans (hpos.bit (by simp [aFb]) 0), (hpos.mono (by simp)).trans (hspd.mono (by simp))⟩

theorem Dev.fbCopyStopped_eq :
    d.fbCopyStopped f = (d.showCopy f).onFb f (fun x => { x with fspdv := (d.showCopy f).bit (aFb f 8) 0 }) := rfl

theorem Dev.fbCopyStopped_spec :
    (d.fbCopyStopped f).w32 (aFb f 4) = d.pos f ∧ (d.fbCopyStopped f).w32 (aFb f 0x19) = d.w32 (aFb f 6) ∧
    ((d.fbCopyStopped f).fb f).fspdv = d.bit (aFb f 8) 0 ∧
    d.SameWords (d.fbCopyStopped f) [aFb f 4, aFb f 5, aFb f 0x19, aFb f 0x1A] := by
  obtain ⟨hpos, hspd, hvalid, hwords⟩ := d.showCopy_spec (f := f)
  rw [Dev.fbCopyStopped_eq, Dev.onFb_fb, Dev.onFb_w32, Dev.onFb_w32]
  generalize d.showCopy f = e at *
  exact ⟨hpos, hspd, hvalid, hwords⟩

end

/-! ### The statement -/

/-- Settles O41: an edge by the mode that counts it and the history that it meets; the rest by one equation for each
command. -/
theorem counting : Obligations.Counting := by
  intro s f
  refine ⟨fun hr ball bHigh => ⟨fun hfb => ?_, fun hfb neg h => ?_, fun hfb hm hball => ?_⟩, fun hr hfb hen => ?_,
    fun t rest hr hh hfb hus hiv hlong => ?_, fun n x _ => recip_eq n x, fun t hr ht hfb hz hlong => ?_, fun k v hw => ?_,
    fun hr hdue => ?_⟩
  · exact State.onCore_eq (f := fun d => d.feedbackEdge f ball bHigh) hr (Dev.feedbackEdge_of_fallback hfb ball bHigh)
  · exact ⟨_, State.onCore_eq (f := fun d => d.feedbackEdge f ball bHigh) hr (Dev.feedbackEdge_of_counts hfb h),
      Dev.countEdge_spec neg⟩
  · subst hball
    obtain ⟨hcnt, hbit, hwords⟩ := s.dev.countCause_spec f (o := 0xB) (bit := 1) (by decide) (by decide)
    exact ⟨_, State.onCore_eq (f := fun d => d.feedbackEdge f .both bHigh) hr (Dev.feedbackEdge_of_pair hfb hm bHigh),
      hcnt, hbit, hwords.w32 (by simp [aFb]) (by simp [aFb]), hwords⟩
  · exact ⟨_, State.onCore_runs s (fun d => d.glitch f) hr, Dev.glitch_spec hfb hen⟩
  · obtain ⟨hmag, hpos, hneg⟩ := s.dev.putSpd_clamp_spec (f := f) (3200000000 / (s.dev.cycles - t))
    exact ⟨_, State.onCore_eq (f := fun d => d.speedDecay f) hr (Dev.speedDecay_of_due hh hfb hus hiv hlong),
      hmag, hpos, hneg, s.dev.sameWords_putSpd f _⟩
  · exact ⟨_, State.onCore_eq (f := fun d => d.zeroSpeed f) hr (Dev.zeroSpeed_of_due ht hfb hz hlong), Dev.standStill_spec⟩
  · obtain ⟨hwords, hpos, hmot⟩ := s.dev.writeFbCmd_frame f (withBit v 0 true)
    have hseed : s.dev.maySeed f (withBit v 0 true) = s.dev.seedPos f :=
      if_pos (by rw [bitOf_withBit v 0 0 true (by decide) (by decide), if_pos rfl])
    rw [hseed, Dev.seedPos_pos] at hpos
    refine ⟨_, State.write_eq (s.dev.fabWrite_fbCmd k _ f hw), fun h => ?_, fun h => ?_, hwords, hmot⟩
    · rw [hpos, if_neg h]
      exact BitVec.add_zero _
    · rw [hpos, if_pos h]
  · exact ⟨_, State.onCore_eq (f := fun d => if d.copyDue f then d.fbCopyStopped f else d) hr (if_pos hdue),
      Dev.fbCopyStopped_spec⟩

end Sys2Proof.Machine
end

section
/-! Proofs of the statements on the machine as a whole: the state after reset, the completion of every command, the seal of
the metrology island (R300), and what no step takes back from its trail (R313, R314). -/

namespace Sys2Proof.Machine

open Sys2Proof

/-! ### Reset and completion -/

/-- Settles O2: each part of the reset state stands at its default. -/
theorem resetState : Obligations.ResetState := by
  refine ⟨rfl, rfl, rfl, fun _ => rfl, rfl, rfl, fun m => ?_, fun b => ?_, rfl, rfl, rfl, ?_, fun b => ?_⟩
  · show (Vector.replicate 16 ({} : Motor))[m].state = .idle
    simp
  · show (Vector.replicate 48 ({} : Bridge))[b].hs = false ∧ (Vector.replicate 48 ({} : Bridge))[b].ls = false
    simp
  · exact ⟨rfl, nofun, by decide, nofun, nofun, by decide, by decide, by decide, by decide, fun _ => ⟨rfl, rfl⟩⟩
  · show (Vector.replicate 48 ({} : Bridge))[b].Safe
    simp [Bridge.Safe]

/-- A command of the island, the loss of VUMB among them, answers a next state that keeps the queue. -/
theorem exec_island_next (c : Instr) (s : State) (h : forUmbra c = true) :
    ∃ t, exec c s = .next t ∧ t.pending = s.pending := by
  by_cases hl : ∃ torn set, c = .umbraSupplyLoss torn set
  · obtain ⟨torn, set, rfl⟩ := hl
    obtain ⟨e, _⟩ | ⟨e, _⟩ := exec_loss s torn set
    · exact ⟨_, e, rfl⟩
    · rw [State.withdrawn_eq] at e
      exact ⟨_, e, rfl⟩
  · obtain ⟨f, e⟩ := exec_island c s h (fun torn set hc => hl ⟨torn, set, hc⟩)
    exact ⟨_, e, rfl⟩

/-- Settles O3: a command changes the module alone, or it is a command of the island. -/
theorem everyCommandCompletes : Obligations.EveryCommandCompletes := by
  intro c s
  cases h : forUmbra c with
  | false =>
    obtain ⟨d, e⟩ := exec_module c s h
    exact ⟨_, e, rfl⟩
  | true => exact exec_island_next c s h

/-! ### The sealed island (R300) -/

/-- A loss of VUMB makes no mailbox copy. -/
theorem Umbra.out_loseSupply (u : Umbra) (torn : Bool) (set : Option Nat) : (u.loseSupply torn set).out = u.out := by
  have last : u.tearLast.out = u.out := by
    unfold Umbra.tearLast
    split
    · rfl
    · split <;> rfl
  have both : ∀ n, (u.tearSet n).out = u.out := by
    intro n
    unfold Umbra.tearSet
    split
    · exact last
    · rfl
  unfold Umbra.loseSupply
  show (if !u.up then u else _ : Umbra).out = u.out
  split
  · rfl
  · split
    · exact both _
    · split
      · exact last
      · rfl

/-- A change of the island that makes no copy leaves the module as it stands. -/
theorem State.withUmbra_nil (s : State) (u : Umbra) : (s.withUmbra u []).dev = s.dev := by
  show (if s.dev.resetN then { s.dev with mbxIn := s.dev.mbxIn ++ [] } else s.dev) = s.dev
  split
  · rw [List.append_nil]
  · rfl

/-- A loss of VUMB acts on the module by the withdrawal of a copy alone. -/
theorem State.onUmbra_loss (s : State) (torn : Bool) (set : Option Nat) :
    s.onUmbra (fun u => u.loseSupply torn set) =
      .next (s.withUmbra (({ s.umbra with out := [] } : Umbra).loseSupply torn set) []) := by
  rw [State.onUmbra_eq, Umbra.out_loseSupply]

/-- Settles O4: what a command of the island leaves in the module are the copies it pushes; a loss of VUMB pushes none, and
withdraws the last where it tears a write. -/
theorem sealedIsland : Obligations.SealedIsland := by
  intro c s t ht
  refine ⟨fun h => ?_, fun h hl => ?_, fun torn set hc => ?_⟩
  · obtain ⟨d, e⟩ := exec_module c s h
    rw [e] at ht
    cases ht
    rfl
  · obtain ⟨f, e⟩ := exec_island c s h hl
    rw [e, State.onUmbra_eq] at ht
    cases ht
    by_cases hr : s.dev.resetN = true
    · exact ⟨_, if_pos hr, fun h => absurd (hr.symm.trans h) (by decide)⟩
    · exact ⟨[], by rw [List.append_nil]; exact if_neg hr, fun _ => rfl⟩
  · subst hc
    have e : exec (.umbraSupplyLoss torn set) s = s.umbraLoss torn set := rfl
    rw [e, State.umbraLoss] at ht
    split at ht
    · next hm =>
      rw [State.onUmbra_loss] at ht
      cases ht
      rw [State.withUmbra_nil, State.withdrawn]
      split
      · exact .inr ⟨by simpa using (Bool.and_eq_true_iff.1 hm).1, rfl⟩
      · exact .inl rfl
    · rw [State.onUmbra_loss] at ht
      cases ht
      exact .inl (State.withUmbra_nil s _)

/-! ### The trail of the island (R313, R314) -/

/-- A command of the island other than the loss of VUMB is a good change of it. -/
theorem exec_island_good (c : Instr) (s : State) (h : forUmbra c = true) (hl : ∀ torn set, c ≠ .umbraSupplyLoss torn set) :
    ∃ f, Umbra.Good f ∧ exec c s = s.onUmbra f := by
  cases c
  case wheelPulse i => exact ⟨_, Umbra.good_pulse i, rfl⟩
  case umbraConversion x => exact ⟨_, Umbra.good_convert x.toNat, rfl⟩
  case still => exact ⟨_, Umbra.good_becomeStill, rfl⟩
  case distanceRecordHour => exact ⟨_, Umbra.good_hour, rfl⟩
  case umbraCouplingQualify l => exact ⟨_, Umbra.good_coupling l, rfl⟩
  case sealOpen => exact ⟨_, Umbra.good_open, rfl⟩
  case sealClose => exact ⟨_, Umbra.good_close, rfl⟩
  case utimeSecond => exact ⟨_, Umbra.good_second, rfl⟩
  case rtcStop => exact ⟨_, Umbra.good_stopRtc, rfl⟩
  case umbraStart b es => exact ⟨_, Umbra.good_start b es, rfl⟩
  case umbraSupplyLoss b n => exact absurd rfl (hl b n)
  case status x op => exact ⟨_, Umbra.good_requestByte op x Umbra.good_cmdWeigh Umbra.good_cmdDistRec, rfl⟩
  case readSlot a i x es => exact ⟨_, Umbra.good_request _ x (Umbra.good_cmdReadSlot a.toNat i.toNat es), rfl⟩
  case readParam a n x es => exact ⟨_, Umbra.good_request _ x (Umbra.good_cmdReadParam a.toNat n.toNat es), rfl⟩
  case writeParam a n ws x =>
    exact ⟨_, Umbra.good_requestWrite a n ws x fun l => Umbra.good_cmdWriteParam a.toNat l, rfl⟩
  case weigh x => exact ⟨_, Umbra.good_request _ x Umbra.good_cmdWeigh, rfl⟩
  case setTime t x => exact ⟨_, Umbra.good_request _ x (Umbra.good_cmdSetTime t), rfl⟩
  case key k i x => exact ⟨_, Umbra.good_request _ x (Umbra.good_cmdKey k i), rfl⟩
  case distRec x => exact ⟨_, Umbra.good_request _ x Umbra.good_cmdDistRec, rfl⟩
  all_goals exact Bool.noConfusion h

/-- What is settled after a command is no part of what the island keeps. -/
theorem State.withUmbra_sound {s : State} {u : Umbra} {l : List (List Word)} : (s.withUmbra u l).umbra.Sound ↔ u.Sound := Iff.rfl

theorem State.withUmbra_keepsButLast {s : State} {u v : Umbra} {l : List (List Word)} :
    v.KeepsButLast (s.withUmbra u l).umbra ↔ v.KeepsButLast u := Iff.rfl

/-- A loss of VUMB keeps the island well formed and takes back at most the last record, and nothing where the command tears
nothing. -/
theorem exec_loss_keeps {s t : State} {torn : Bool} {set : Option Nat} (hs : s.umbra.Sound)
    (ht : exec (.umbraSupplyLoss torn set) s = .next t) :
    t.umbra.Sound ∧ (torn = false ∧ set = none → s.umbra.Keeps t.umbra) ∧ s.umbra.KeepsButLast t.umbra := by
  have e : exec (.umbraSupplyLoss torn set) s = s.umbraLoss torn set := rfl
  rw [e, State.umbraLoss] at ht
  split at ht
  · next hm =>
    have hu : s.withdrawn.umbra = s.umbra := by rw [State.withdrawn_eq]
    obtain ⟨hsound, hkeep⟩ := Umbra.loseSupply_keeps { s.umbra with out := [] } torn set hs
    rw [State.onUmbra_loss, hu] at ht
    cases ht
    refine ⟨State.withUmbra_sound.2 hsound, fun ⟨h1, h2⟩ => ?_, State.withUmbra_keepsButLast.2 hkeep⟩
    subst h1 h2
    exact absurd (Bool.and_eq_true_iff.1 hm).1 (by decide)
  · obtain ⟨hsound, hkeep⟩ := State.onUmbra_good Umbra.good_loseSupply hs ht
    obtain ⟨_, hlast⟩ := Umbra.loseSupply_keeps { s.umbra with out := [] } false none hs
    rw [State.onUmbra_loss] at ht
    cases ht
    exact ⟨hsound, fun _ => hkeep, State.withUmbra_keepsButLast.2 hlast⟩

/-- A command keeps the island well formed and takes back at most the record whose write it tears. -/
theorem exec_island_keeps {c : Instr} {s t : State} (hs : s.umbra.Sound) (ht : exec c s = .next t) :
    t.umbra.Sound ∧
    ((∀ torn set, c = .umbraSupplyLoss torn set → torn = false ∧ set = none) → s.umbra.Keeps t.umbra) ∧
    (∀ torn set, c = .umbraSupplyLoss torn set → s.umbra.KeepsButLast t.umbra) := by
  cases h : forUmbra c with
  | false =>
    obtain ⟨d, e⟩ := exec_module c s h
    rw [e] at ht
    cases ht
    refine ⟨hs, fun _ => Umbra.Keeps.refl _, fun torn set hc => ?_⟩
    subst hc
    exact Bool.noConfusion h
  | true =>
    by_cases hl : ∃ torn set, c = .umbraSupplyLoss torn set
    · obtain ⟨torn, set, rfl⟩ := hl
      obtain ⟨hsound, hkeep, hlast⟩ := exec_loss_keeps hs ht
      exact ⟨hsound, fun hnone => hkeep (hnone torn set rfl), fun _ _ _ => hlast⟩
    · have hl' : ∀ torn set, c ≠ .umbraSupplyLoss torn set := fun torn set hc => hl ⟨torn, set, hc⟩
      obtain ⟨f, hf, e⟩ := exec_island_good c s h hl'
      rw [e] at ht
      obtain ⟨hsound, hkeep⟩ := State.onUmbra_good hf hs ht
      exact ⟨hsound, fun _ => hkeep, fun torn set hc => absurd hc (hl' torn set)⟩

/-- Settles O6: a cycle leaves the island alone, and a command is a good change of it or a loss of VUMB. -/
theorem soundStep : Obligations.SoundStep := by
  intro s t hs ht
  cases hp : s.pending with
  | nil =>
    rw [step, hp] at ht
    cases ht
    have hu : s.tick.umbra = s.umbra := by
      rw [State.tick]
      split <;> rfl
    rw [hu]
    exact ⟨hs, fun _ => Umbra.Keeps.refl _, fun _ _ h => nomatch h⟩
  | cons c rest =>
    rw [step, hp] at ht
    obtain ⟨hsound, hkeep, hlast⟩ := exec_island_keeps (s := { s with pending := rest }) hs ht
    exact ⟨hsound, fun h => hkeep fun torn set hc => h torn set (congrArg some hc),
      fun torn set h => hlast torn set (Option.some.inj h)⟩

end Sys2Proof.Machine
end

section
/-! Proof of the statement on the memory code (R405 to R407): the code is linear over GF(2^4), so that what a decoder finds
depends on the error alone. -/

namespace Sys2Proof.Machine

open Sys2Proof

/-! ### GF(2^4) -/

theorem gfMul_assoc : ∀ a b c : BitVec 4, gfMul (gfMul a b) c = gfMul a (gfMul b c) := by decide +kernel

theorem gfMul_comm : ∀ a b : BitVec 4, gfMul a b = gfMul b a := by decide +kernel

theorem gfMul_ne_zero : ∀ a b : BitVec 4, a ≠ 0 → b ≠ 0 → gfMul a b ≠ 0 := by decide +kernel

theorem gfMul_self_injective : ∀ a b : BitVec 4, gfMul a a = gfMul b b → a = b := by decide +kernel

theorem gfMul_left_cancel : ∀ s a b : BitVec 4, s ≠ 0 → gfMul s a = gfMul s b → a = b := by decide +kernel

theorem gfPow_injective : ∀ i j : Fin 7, gfPow i.1 = gfPow j.1 → i = j := by decide +kernel

/-- A choice between two elements adds up over the exclusive or of what chooses. -/
theorem ite_xor_bool (a b : Bool) (x : BitVec 4) :
    (if (a ^^ b) = true then x else 0) = (if a = true then x else 0) ^^^ (if b = true then x else 0) := by
  cases a <;> cases b <;> simp

theorem gfMul_xor_left (a b c : BitVec 4) : gfMul (a ^^^ b) c = gfMul a c ^^^ gfMul b c := by
  simp only [gfMul, BitVec.getLsbD_xor, ite_xor_bool]
  ac_rfl

theorem gfMul_xor_right (a b c : BitVec 4) : gfMul a (b ^^^ c) = gfMul a b ^^^ gfMul a c := by
  rw [gfMul_comm, gfMul_xor_left, gfMul_comm b, gfMul_comm c]

/-- The squares of two sums: what is left of `S₀ S₂` beside `S₁ S₁`, for two errors `e` and `f` at the places `x` and `y`. -/
theorem gf_twoErrors (e f x y : BitVec 4) :
    gfMul (e ^^^ f) (gfMul e (gfMul x x) ^^^ gfMul f (gfMul y y)) ^^^
      gfMul (gfMul e x ^^^ gfMul f y) (gfMul e x ^^^ gfMul f y) = gfMul (gfMul e f) (gfMul (x ^^^ y) (x ^^^ y)) := by
  have left : ∀ a b c : BitVec 4, gfMul a (gfMul b c) = gfMul b (gfMul a c) := fun a b c => by
    rw [← gfMul_assoc, gfMul_comm a b, gfMul_assoc]
  have drop : ∀ a b : BitVec 4, a ^^^ (a ^^^ b) = b := fun a b => by rw [← BitVec.xor_assoc, BitVec.xor_self, BitVec.zero_xor]
  have swap : ∀ a b c : BitVec 4, a ^^^ (b ^^^ c) = b ^^^ (a ^^^ c) := fun a b c => by
    rw [← BitVec.xor_assoc, BitVec.xor_comm a b, BitVec.xor_assoc]
  simp only [gfMul_xor_right, left, gfMul_comm, BitVec.xor_assoc, BitVec.xor_comm, swap, drop, BitVec.xor_self]
  exact BitVec.zero_xor

/-! ### Syndromes -/

theorem codeNibble_xor (c d : BitVec 28) (i : Nat) : codeNibble (c ^^^ d) i = codeNibble c i ^^^ codeNibble d i := by
  unfold codeNibble
  split <;> exact BitVec.extractLsb'_xor

theorem syndrome_xor (c d : BitVec 28) (j : Nat) : syndrome (c ^^^ d) j = syndrome c j ^^^ syndrome d j := by
  simp only [syndrome, List.range, List.range.loop, List.foldl, codeNibble_xor, gfMul_xor_left]
  ac_rfl

/-- The four nibbles of a word, each in its place. -/
theorem word_nibbles (w : Word) :
    w = ((w.extractLsb' 0 4).setWidth 16 <<< 0) ^^^ ((w.extractLsb' 4 4).setWidth 16 <<< 4) ^^^
      ((w.extractLsb' 8 4).setWidth 16 <<< 8) ^^^ ((w.extractLsb' 12 4).setWidth 16 <<< 12) := by
  apply BitVec.eq_of_getLsbD_eq
  intro i hi
  interval_cases i <;> simp

/-- The sum of two remainders of the division by the generator. -/
def checkSum (r s : BitVec 4 × BitVec 4 × BitVec 4) : BitVec 4 × BitVec 4 × BitVec 4 :=
  (r.1 ^^^ s.1, r.2.1 ^^^ s.2.1, r.2.2 ^^^ s.2.2)

theorem checkStep_checkSum (r s : BitVec 4 × BitVec 4 × BitVec 4) (m n : BitVec 4) :
    checkStep (checkSum r s) (m ^^^ n) = checkSum (checkStep r m) (checkStep s n) := by
  have q : r.1 ^^^ s.1 ^^^ (m ^^^ n) = (r.1 ^^^ m) ^^^ (s.1 ^^^ n) := by ac_rfl
  simp only [checkStep, checkSum, q, gfMul_xor_left, Prod.mk.injEq]
  exact ⟨by ac_rfl, by ac_rfl, trivial⟩

theorem encode28_xor (v w : Word) : encode28 (v ^^^ w) = encode28 v ^^^ encode28 w := by
  have zero : ((0, 0, 0) : BitVec 4 × BitVec 4 × BitVec 4) = checkSum (0, 0, 0) (0, 0, 0) := by decide
  simp only [encode28, List.foldl, BitVec.extractLsb'_xor]
  rw [zero]
  simp only [checkStep_checkSum]
  simp only [checkSum]
  exact (((BitVec.xor_append.trans (congrArg₂ _ (BitVec.xor_append.trans (congrArg₂ _ BitVec.xor_append rfl)) rfl))).symm)

/-- A code word has no syndrome: so for a word of one nibble, and for every word by the sum of its nibbles. -/
theorem syndrome_encode28 (w : Word) (j : Fin 3) : syndrome (encode28 w) j.1 = 0 := by
  have one : ∀ k ∈ [0, 4, 8, 12], ∀ (n : BitVec 4) (j : Fin 3), syndrome (encode28 (n.setWidth 16 <<< k)) j.1 = 0 := by
    decide +kernel
  rw [word_nibbles w]
  simp only [encode28_xor, syndrome_xor]
  rw [one 0 (by decide), one 4 (by decide), one 8 (by decide), one 12 (by decide)]
  decide

/-- The data nibbles of a code word are the word (R406). -/
theorem encode28_data (w : Word) : (encode28 w).extractLsb' 0 16 = w := by
  apply BitVec.eq_of_getLsbD_eq
  intro i hi
  rw [BitVec.getLsbD_extractLsb', encode28, BitVec.getLsbD_append, Nat.zero_add, if_pos hi, decide_eq_true hi, Bool.true_and]

/-! ### The decoder (R407) -/

/-- Where the coefficient of `x ^ i` stands among the 28 bits. -/
def codePlace (i : Nat) : Nat := if i < 3 then 16 + 4 * i else 4 * (i - 3)

/-- The coefficient that stands at nibble `k` of the 28 bits. -/
def placeOf (k : Fin 7) : Fin 7 := if h : k.1 < 4 then ⟨k.1 + 3, by omega⟩ else ⟨k.1 - 4, by omega⟩

theorem codePlace_placeOf (k : Fin 7) : codePlace (placeOf k).1 = 4 * k.1 := by
  revert k; decide

theorem placeOf_injective : ∀ k l : Fin 7, placeOf k = placeOf l → k = l := by decide

theorem find_gfPow : ∀ (s : BitVec 4) (i : Fin 7), s ≠ 0 →
    (List.range 7).find? (fun k => gfMul s (gfPow k) = gfMul s (gfPow i.1)) = some i.1 := by decide +kernel

/-- The correction of a coefficient, as the decoder makes it in the data word. -/
theorem extract_codePlace : ∀ (s : BitVec 4) (i : Fin 7), (s.setWidth 28 <<< codePlace i.1).extractLsb' 0 16 =
    if 3 ≤ i.1 then s.setWidth 16 <<< (4 * (i.1 - 3)) else 0 := by decide +kernel

/-- The syndromes of an error in one nibble. -/
theorem syndrome_nibble : ∀ (k : Fin 7) (e : BitVec 4), syndrome (e.setWidth 28 <<< (4 * k.1)) 0 = e ∧
    syndrome (e.setWidth 28 <<< (4 * k.1)) 1 = gfMul e (gfPow (placeOf k).1) ∧
    syndrome (e.setWidth 28 <<< (4 * k.1)) 2 = gfMul e (gfMul (gfPow (placeOf k).1) (gfPow (placeOf k).1)) := by
  decide +kernel

theorem gfPow_ne_zero : ∀ i : Fin 7, gfPow i.1 ≠ 0 := by decide +kernel

theorem decode28_clean {c : BitVec 28} (h0 : syndrome c 0 = 0) (h1 : syndrome c 1 = 0) (h2 : syndrome c 2 = 0) :
    decode28 c = .clean (c.extractLsb' 0 16) := if_pos ⟨h0, h1, h2⟩

theorem decode28_corrected {c : BitVec 28} {i : Fin 7} (h0 : syndrome c 0 ≠ 0) (h1 : syndrome c 1 ≠ 0)
    (h2 : syndrome c 2 ≠ 0) (hsq : gfMul (syndrome c 1) (syndrome c 1) = gfMul (syndrome c 0) (syndrome c 2))
    (hi : syndrome c 1 = gfMul (syndrome c 0) (gfPow i.1)) :
    decode28 c = .corrected ((c ^^^ ((syndrome c 0).setWidth 28 <<< codePlace i.1)).extractLsb' 0 16) := by
  have hfind : (List.range 7).find? (fun k => gfMul (syndrome c 0) (gfPow k) = syndrome c 1) = some i.1 := by
    rw [hi]
    exact find_gfPow _ i h0
  rw [decode28, if_neg fun h => h0 h.1, if_pos ⟨h0, h1, h2, hsq⟩, hfind, BitVec.extractLsb'_xor, extract_codePlace]

theorem decode28_bad {c : BitVec 28} (hz : ¬ (syndrome c 0 = 0 ∧ syndrome c 1 = 0 ∧ syndrome c 2 = 0))
    (hb : ¬ (syndrome c 0 ≠ 0 ∧ syndrome c 1 ≠ 0 ∧ syndrome c 2 ≠ 0 ∧
      gfMul (syndrome c 1) (syndrome c 1) = gfMul (syndrome c 0) (syndrome c 2) ∧
      ∃ i : Fin 7, syndrome c 1 = gfMul (syndrome c 0) (gfPow i.1))) : decode28 c = .bad := by
  simp only [decode28]
  rw [if_neg hz]
  split
  · next h =>
    obtain ⟨h0, h1, h2, hsq⟩ := h
    have hfind : (List.range 7).find? (fun k => gfMul (syndrome c 0) (gfPow k) = syndrome c 1) = none := by
      rw [List.find?_eq_none]
      intro k hk he
      exact hb ⟨h0, h1, h2, hsq, ⟨k, List.mem_range.1 hk⟩, (of_decide_eq_true he).symm⟩
    rw [hfind]
  · rfl

/-- An error shows in the syndromes as it would alone. -/
theorem syndrome_encode28_xor (w : Word) (z : BitVec 28) (j : Fin 3) : syndrome (encode28 w ^^^ z) j.1 = syndrome z j.1 := by
  rw [syndrome_xor, syndrome_encode28]
  exact BitVec.zero_xor

theorem decode28_encode28 (w : Word) : decode28 (encode28 w) = .clean w := by
  rw [decode28_clean (syndrome_encode28 w 0) (syndrome_encode28 w 1) (syndrome_encode28 w 2), encode28_data]

/-- An error in one nibble is corrected. -/
theorem decode28_oneNibble (w : Word) (k : Fin 7) (e : BitVec 4) (he : e ≠ 0) :
    decode28 (encode28 w ^^^ (e.setWidth 28 <<< (4 * k.1))) = .corrected w := by
  obtain ⟨z0, z1, z2⟩ := syndrome_nibble k e
  have s0 := (syndrome_encode28_xor w (e.setWidth 28 <<< (4 * k.1)) 0).trans z0
  have s1 := (syndrome_encode28_xor w (e.setWidth 28 <<< (4 * k.1)) 1).trans z1
  have s2 := (syndrome_encode28_xor w (e.setWidth 28 <<< (4 * k.1)) 2).trans z2
  simp only [Fin.isValue, Fin.val_zero, Fin.val_one, Fin.val_two] at s0 s1 s2
  have hx := gfPow_ne_zero (placeOf k)
  rw [decode28_corrected (i := placeOf k), s0, codePlace_placeOf, BitVec.xor_assoc, BitVec.xor_self, BitVec.xor_zero,
    encode28_data]
  · rwa [s0]
  · rw [s1]
    exact gfMul_ne_zero _ _ he hx
  · rw [s2]
    exact gfMul_ne_zero _ _ he (gfMul_ne_zero _ _ hx hx)
  · rw [s0, s1, s2, gfMul_assoc, ← gfMul_assoc _ e, gfMul_comm _ e, gfMul_assoc e]
  · rw [s0, s1]

/-- Errors in two nibbles are detected: by `gf_twoErrors` the syndromes are those of no single error. -/
theorem decode28_twoNibbles (w : Word) (k l : Fin 7) (e f : BitVec 4) (hkl : k ≠ l) (he : e ≠ 0) (hf : f ≠ 0) :
    decode28 (encode28 w ^^^ (e.setWidth 28 <<< (4 * k.1)) ^^^ (f.setWidth 28 <<< (4 * l.1))) = .bad := by
  obtain ⟨z0, z1, z2⟩ := syndrome_nibble k e
  obtain ⟨y0, y1, y2⟩ := syndrome_nibble l f
  rw [BitVec.xor_assoc]
  have sum : ∀ j : Fin 3, syndrome (encode28 w ^^^ ((e.setWidth 28 <<< (4 * k.1)) ^^^ (f.setWidth 28 <<< (4 * l.1)))) j.1 =
      syndrome (e.setWidth 28 <<< (4 * k.1)) j.1 ^^^ syndrome (f.setWidth 28 <<< (4 * l.1)) j.1 := fun j => by
    rw [syndrome_encode28_xor, syndrome_xor]
  generalize encode28 w ^^^ ((e.setWidth 28 <<< (4 * k.1)) ^^^ (f.setWidth 28 <<< (4 * l.1))) = c at sum ⊢
  have s0 := sum 0
  have s1 := sum 1
  have s2 := sum 2
  simp only [Fin.isValue, Fin.val_zero, Fin.val_one, Fin.val_two, z0, z1, z2, y0, y1, y2] at s0 s1 s2
  have hxy : gfPow (placeOf k).1 ^^^ gfPow (placeOf l).1 ≠ 0 := fun h =>
    hkl (placeOf_injective k l (gfPow_injective _ _ (BitVec.xor_eq_zero_iff.1 h)))
  have hne : gfMul (syndrome c 1) (syndrome c 1) ≠ gfMul (syndrome c 0) (syndrome c 2) := by
    rw [s0, s1, s2]
    intro h
    have hz := gf_twoErrors e f (gfPow (placeOf k).1) (gfPow (placeOf l).1)
    rw [h, BitVec.xor_self] at hz
    exact gfMul_ne_zero _ _ (gfMul_ne_zero _ _ he hf) (gfMul_ne_zero _ _ hxy hxy) hz.symm
  refine decode28_bad (fun ⟨h0, h1, h2⟩ => hne ?_) (fun ⟨_, _, _, hsq, _⟩ => hne hsq)
  rw [h0, h1, h2]

/-- Settles O24: the decoder by its three results, and an error of one nibble or two by the syndromes that it alone leaves. -/
theorem codeWords : Obligations.CodeWords :=
  ⟨fun _ h0 h1 h2 => decode28_clean h0 h1 h2, fun _ _ h0 h1 h2 hsq hi => decode28_corrected h0 h1 h2 hsq hi,
    fun _ hz hb => decode28_bad hz hb, decode28_encode28, decode28_oneNibble, decode28_twoNibbles⟩

end Sys2Proof.Machine
end

section
/-! Proofs of the statements of chapter 12: the records of the metrology island and what each of its commands makes of it. -/

namespace Sys2Proof.Machine

open Sys2Proof

/-! ### Records (R311 to R314) -/

/-- A record as it is made next: its number counted, signed under the key. -/
def Umbra.recordOf (u : Umbra) (k : BitVec 128) (ty : Nat) (p : List Word) : List Word :=
  let u := { u with recnum := u.recnum + 1 }
  u.sign k (u.recordBody ty p)

/-- W0 of a record made now. -/
def Umbra.recordHead (u : Umbra) (ty : Nat) : Word :=
  word (ty * 0x1000 + u.sealOpen.toNat * 0x800 + u.rtcx.toNat * 0x400 + 0x100)

theorem Umbra.recordOf_head (u : Umbra) (k : BitVec 128) (ty : Nat) (p : List Word) :
    (u.recordOf k ty p).take 3 = [u.recordHead ty, lo16 (u.recnum + 1), hi16 (u.recnum + 1)] := rfl

theorem Umbra.recordOf_payload (u : Umbra) (k : BitVec 128) (ty : Nat) (p : List Word) :
    ∃ mac, (u.recordOf k ty p).drop 5 = p ++ mac := ⟨_, rfl⟩

/-- The payload of a record, from its start on. -/
theorem Umbra.recordOf_take (u : Umbra) (k : BitVec 128) (ty : Nat) (p : List Word) (n : Nat) (hn : n ≤ p.length) :
    ((u.recordOf k ty p).drop 5).take n = p.take n := by
  obtain ⟨mac, h⟩ := u.recordOf_payload k ty p
  rw [h, List.take_append_of_le_length hn]

/-- What a data record leaves as it was. -/
@[simp] theorem Umbra.dataRec_keeps (u : Umbra) (ty : Nat) (p : List Word) :
    (u.dataRec ty p).up = u.up ∧ (u.dataRec ty p).utime = u.utime ∧ (u.dataRec ty p).perr = u.perr ∧
    (u.dataRec ty p).key = u.key ∧ (u.dataRec ty p).keyId = u.keyId ∧ (u.dataRec ty p).params = u.params ∧
    (u.dataRec ty p).pdig = u.pdig ∧ (u.dataRec ty p).sealOpen = u.sealOpen ∧ (u.dataRec ty p).shadow = u.shadow ∧
    (u.dataRec ty p).audit = u.audit ∧ (u.dataRec ty p).dum0 = u.dum0 ∧ (u.dataRec ty p).dum1 = u.dum1 ∧
    (u.dataRec ty p).closing = u.closing ∧ (u.dataRec ty p).weigh = u.weigh ∧ (u.dataRec ty p).trig = u.trig ∧
    (u.dataRec ty p).load = u.load ∧ (u.dataRec ty p).total = u.total ∧ (u.dataRec ty p).cpl = u.cpl ∧
    (u.dataRec ty p).cplcnt = u.cplcnt ∧ (u.dataRec ty p).discrep = u.discrep ∧
    (u.dataRec ty p).distBase = u.distBase ∧ (u.dataRec ty p).distSecBase = u.distSecBase := by
  unfold Umbra.dataRec
  split <;>
    exact ⟨rfl, rfl, rfl, rfl, rfl, rfl, rfl, rfl, rfl, rfl, rfl, rfl, rfl, rfl, rfl, rfl, rfl, rfl, rfl, rfl, rfl, rfl⟩

/-- What a data record under a key makes. -/
theorem Umbra.dataRec_made {u : Umbra} {k : BitVec 128} (ty : Nat) (p : List Word) (hk : u.key = some k) :
    (u.dataRec ty p).recnum = u.recnum + 1 ∧ (u.dataRec ty p).lastRec = u.recordOf k ty p ∧
    (u.dataRec ty p).datNext = (if u.datNext + 1 = 7424 then 0 else u.datNext + 1) ∧
    (u.dataRec ty p).out.length = u.out.length + 1 := by
  simp only [Umbra.dataRec, hk]
  exact ⟨rfl, rfl, rfl, List.length_append⟩

/-- What an audit record leaves as it was. -/
@[simp] theorem Umbra.auditRec_keeps (u : Umbra) (p : List Word) :
    (u.auditRec p).up = u.up ∧ (u.auditRec p).utime = u.utime ∧ (u.auditRec p).rtcx = u.rtcx ∧
    (u.auditRec p).rtcLost = u.rtcLost ∧ (u.auditRec p).perr = u.perr ∧ (u.auditRec p).key = u.key ∧
    (u.auditRec p).keyId = u.keyId ∧ (u.auditRec p).params = u.params ∧ (u.auditRec p).pdig = u.pdig ∧
    (u.auditRec p).sealOpen = u.sealOpen ∧ (u.auditRec p).shadow = u.shadow ∧ (u.auditRec p).closing = u.closing ∧
    (u.auditRec p).audcnt = u.audcnt ∧ (u.auditRec p).data = u.data ∧ (u.auditRec p).dum0 = u.dum0 ∧
    (u.auditRec p).dum1 = u.dum1 ∧ (u.auditRec p).weigh = u.weigh := by
  unfold Umbra.auditRec
  split
  · exact ⟨rfl, rfl, rfl, rfl, rfl, rfl, rfl, rfl, rfl, rfl, rfl, rfl, rfl, rfl, rfl, rfl, rfl⟩
  · split <;> exact ⟨rfl, rfl, rfl, rfl, rfl, rfl, rfl, rfl, rfl, rfl, rfl, rfl, rfl, rfl, rfl, rfl, rfl⟩

theorem Umbra.afull_of_lt {u : Umbra} (h : u.audit.length < 512) : u.afull = false :=
  decide_eq_false (Nat.not_le.2 h)

/-- What an audit record under a key makes while a slot is left. -/
theorem Umbra.auditRec_made {u : Umbra} {k : BitVec 128} (p : List Word) (hk : u.key = some k)
    (hl : u.audit.length < 512) :
    (u.auditRec p).recnum = u.recnum + 1 ∧ (u.auditRec p).lastRec = u.recordOf k 4 p ∧
    (u.auditRec p).audit = u.audit ++ [u.recordOf k 4 p] ∧ (u.auditRec p).out.length = u.out.length + 1 := by
  simp only [Umbra.auditRec, hk, Umbra.afull_of_lt hl]
  exact ⟨rfl, rfl, rfl, List.length_append⟩

/-! ### The opening and the closing of the seal (R314 to R320) -/

/-- AUDCNT counts an opening, and saturates. -/
theorem audcnt_next (c : Word) : (if c = 0xFFFF then 0xFFFF else c + 1 : Word).toNat = min 0xFFFF (c.toNat + 1) := by
  have hlt := c.isLt
  split
  · next h => rw [h]; rfl
  · next h =>
    have hne : c.toNat ≠ 65535 := fun e => h (BitVec.eq_of_toNat_eq e)
    rw [BitVec.toNat_add]
    show (c.toNat + 1) % 65536 = _
    omega

/-- A closing over a set that does not differ is recorded alone. -/
theorem Umbra.finishClose_same {u : Umbra} {sh : Store} (hl : u.audit.length < 512) (hn : wordsChanged sh u.params = 0) :
    u.finishClose sh = u.auditPdig 2 0 := by
  simp only [Umbra.finishClose, Umbra.afull_of_lt hl, hn]
  rfl

/-- A closing over a set that breaks R318 discards it under a record of its lowest bad address. -/
theorem Umbra.finishClose_bad {u : Umbra} {sh : Store} {a : Nat} (hl : u.audit.length < 512)
    (hn : wordsChanged sh u.params ≠ 0) (hb : firstBad sh = some a) : u.finishClose sh = u.auditPdig 4 a := by
  simp only [Umbra.finishClose, Umbra.afull_of_lt hl, if_neg hn, hb]
  rfl

/-- A closing over a sound set commits it with its digest, under a record of the words changed. -/
theorem Umbra.finishClose_commit {u : Umbra} {sh : Store} {k : BitVec 128} (hl : u.audit.length < 512)
    (hk : u.key = some k) (hn : wordsChanged sh u.params ≠ 0) (hb : firstBad sh = none) :
    u.finishClose sh = (({ u with
      params := sh, parMark := commitWord (paramWords sh), pdig := digest k sh, perr := false } : Umbra).auditPdig 3
        (wordsChanged sh u.params)).overSet u := by
  simp only [Umbra.finishClose, Umbra.afull_of_lt hl, if_neg hn, hb, hk]
  rfl

/-- What the closing of the seal over one shadow leaves, and its record. -/
theorem Umbra.finishClose_spec {u : Umbra} {k : BitVec 128} (sh : Store) (hk : u.key = some k)
    (hl : u.audit.length < 512) :
    ∃ r, (u.finishClose sh).audit = u.audit ++ [r] ∧ (u.finishClose sh).audcnt = u.audcnt ∧
      (u.finishClose sh).sealOpen = u.sealOpen ∧ (u.finishClose sh).shadow = u.shadow ∧
      (u.finishClose sh).closing = u.closing ∧ (r.drop 6).take 1 = [u.audcnt] ∧
      (wordsChanged sh u.params = 0 →
        (u.finishClose sh).params = u.params ∧ (r.drop 5).take 1 = [2] ∧ (r.drop 11).take 1 = [0]) ∧
      (∀ a, wordsChanged sh u.params ≠ 0 → firstBad sh = some a →
        (u.finishClose sh).params = u.params ∧ (u.finishClose sh).pdig = u.pdig ∧ (r.drop 5).take 1 = [4] ∧
          (r.drop 11).take 1 = [word a]) ∧
      (wordsChanged sh u.params ≠ 0 → firstBad sh = none →
        (u.finishClose sh).params = sh ∧ (u.finishClose sh).pdig = digest k sh ∧ (u.finishClose sh).perr = false ∧
          (r.drop 5).take 1 = [3] ∧ (r.drop 11).take 1 = [word (wordsChanged sh u.params)]) := by
  by_cases hn : wordsChanged sh u.params = 0
  · obtain ⟨_, _, haudit, _⟩ := Umbra.auditRec_made ([word 2, u.audcnt] ++ words64 u.pdig ++ [word 0]) hk hl
    rw [Umbra.finishClose_same hl hn, Umbra.auditPdig]
    exact ⟨_, haudit, by simp, by simp, by simp, by simp, rfl, fun _ => ⟨by simp, rfl, rfl⟩, fun _ h => absurd hn h,
      fun h => absurd hn h⟩
  · cases hb : firstBad sh with
    | some a =>
      obtain ⟨_, _, haudit, _⟩ := Umbra.auditRec_made ([word 4, u.audcnt] ++ words64 u.pdig ++ [word a]) hk hl
      rw [Umbra.finishClose_bad hl hn hb, Umbra.auditPdig]
      refine ⟨_, haudit, by simp, by simp, by simp, by simp, rfl, fun h => absurd h hn, fun b _ hb' => ?_, (fun _ h => nomatch h)⟩
      cases hb'
      exact ⟨by simp, by simp, rfl, rfl⟩
    | none =>
      rw [Umbra.finishClose_commit hl hk hn hb, Umbra.auditPdig]
      obtain ⟨_, _, haudit, _⟩ := Umbra.auditRec_made (u := { u with
        params := sh, parMark := commitWord (paramWords sh), pdig := digest k sh, perr := false })
        ([word 3, u.audcnt] ++ words64 (digest k sh) ++ [word (wordsChanged sh u.params)]) hk hl
      simp only [Umbra.overSet]
      exact ⟨_, haudit, by simp, by simp, by simp, by simp, rfl, fun h => absurd h hn, (fun _ _ h => nomatch h),
        fun _ _ => ⟨by simp, by simp, by simp, rfl, rfl⟩⟩

/-- The seal closes over its shadow, with nothing else waiting and no weighing in progress. -/
theorem Umbra.close_eq {u : Umbra} {sh : Store} (hup : u.up = true) (hs : u.sealOpen = true) (hw : u.weigh = none)
    (hsh : u.shadow = some sh) (hc : u.closing = []) :
    u.close = ({ u with sealOpen := false, shadow := none, closing := [] } : Umbra).finishClose sh := by
  simp only [Umbra.close, Umbra.closeWaiting, hup, hs, hw, hsh, hc]
  rfl

/-- What the closing of the seal leaves, and its record. -/
theorem Umbra.close_spec {u : Umbra} {k : BitVec 128} {sh : Store} (hup : u.up = true) (hs : u.sealOpen = true)
    (hw : u.weigh = none) (hsh : u.shadow = some sh) (hc : u.closing = []) (hk : u.key = some k)
    (hl : u.audit.length < 512) :
    ∃ r, u.close.sealOpen = false ∧ u.close.shadow = none ∧ u.close.closing = [] ∧ u.close.audit = u.audit ++ [r] ∧
      u.close.audcnt = u.audcnt ∧ (r.drop 6).take 1 = [u.audcnt] ∧
      (wordsChanged sh u.params = 0 →
        u.close.params = u.params ∧ (r.drop 5).take 1 = [2] ∧ (r.drop 11).take 1 = [0]) ∧
      (∀ a, wordsChanged sh u.params ≠ 0 → firstBad sh = some a →
        u.close.params = u.params ∧ u.close.pdig = u.pdig ∧ (r.drop 5).take 1 = [4] ∧ (r.drop 11).take 1 = [word a]) ∧
      (wordsChanged sh u.params ≠ 0 → firstBad sh = none →
        u.close.params = sh ∧ u.close.pdig = digest k sh ∧ u.close.perr = false ∧ (r.drop 5).take 1 = [3] ∧
          (r.drop 11).take 1 = [word (wordsChanged sh u.params)]) := by
  obtain ⟨r, hr⟩ := Umbra.finishClose_spec
    (u := { u with sealOpen := false, shadow := none, closing := [] }) sh hk hl
  dsimp only at hr
  obtain ⟨haudit, hcnt, hopen, hshadow, hclosing, hr⟩ := hr
  rw [Umbra.close_eq hup hs hw hsh hc]
  exact ⟨r, hopen, hshadow, hclosing, haudit, hcnt, hr⟩

/-- The opening of the seal. -/
theorem Umbra.open_eq {u : Umbra} (hup : u.up = true) (hs : u.sealOpen = false) :
    u.open = { ({ u with sealOpen := true, audcnt := if u.audcnt = 0xFFFF then 0xFFFF else u.audcnt + 1 } : Umbra).auditPdig 1 0 with
      shadow := some u.params } := by
  simp only [Umbra.open, hup, hs, Bool.not_false, Bool.and_self, if_true]

/-- What the opening of the seal leaves, and its record. -/
theorem Umbra.open_spec {u : Umbra} {k : BitVec 128} (hup : u.up = true) (hs : u.sealOpen = false) (hk : u.key = some k)
    (hl : u.audit.length < 512) :
    ∃ r, u.open.sealOpen = true ∧ u.open.shadow = some u.params ∧ u.open.params = u.params ∧
      u.open.audcnt.toNat = min 0xFFFF (u.audcnt.toNat + 1) ∧ u.open.audit = u.audit ++ [r] ∧
      u.open.recnum = u.recnum + 1 ∧ u.open.lastRec = r ∧ r.length = 16 ∧
      r.take 3 = [word (0x4000 + 0x800 + u.rtcx.toNat * 0x400 + 0x100), lo16 u.open.recnum, hi16 u.open.recnum] ∧
      (r.drop 5).take 7 = [1, u.open.audcnt] ++ words64 u.pdig ++ [0] ∧
      r.drop 12 = words64 (cmac64 k (bytes64 u.uid ++ bytesOf (r.take 12))) ∧
      u.open.data = u.data ∧ u.open.dum0 = u.dum0 ∧ u.open.dum1 = u.dum1 ∧ u.open.out.length = u.out.length + 1 := by
  obtain ⟨hnum, hlast, haudit, hout⟩ := Umbra.auditRec_made (u := { u with
    sealOpen := true, audcnt := if u.audcnt = 0xFFFF then 0xFFFF else u.audcnt + 1 })
    ([word 1, if u.audcnt = 0xFFFF then 0xFFFF else u.audcnt + 1] ++ words64 u.pdig ++ [word 0]) hk hl
  rw [Umbra.open_eq hup hs, Umbra.auditPdig]
  refine ⟨_, by simp, rfl, by simp, by simpa using audcnt_next u.audcnt, haudit, hnum, hlast, rfl, ?_, ?_, rfl,
    by simp, by simp, by simp, hout⟩
  · rw [Umbra.recordOf_head, hnum]
    simp [Umbra.recordHead]
  · rw [Umbra.recordOf_take _ _ _ _ _ (Nat.le_refl 7)]
    simp only [Umbra.auditRec_keeps]
    rfl

/-- What the closing of the seal leaves while a weighing is in progress (R317). -/
theorem Umbra.close_waits {u : Umbra} {w : Weigh} {sh : Store} (hup : u.up = true) (hs : u.sealOpen = true)
    (hw : u.weigh = some w) (hsh : u.shadow = some sh) :
    u.close = { u with sealOpen := false, shadow := none, closing := u.closing ++ [sh] } := by
  simp only [Umbra.close, Umbra.closeWaiting, hup, hs, hw, hsh]
  rfl

/-- A change of the island, with what holds of it and of the copies that it pushes. -/
theorem State.onUmbra_spec (s : State) (f : Umbra → Umbra) {P : Umbra → List (List Word) → Prop}
    (h : P (f { s.umbra with out := [] }) (f { s.umbra with out := [] }).out) :
    ∃ u copies, s.onUmbra f = .next (s.withUmbra u copies) ∧ P u copies := ⟨_, _, rfl, h⟩

/-- A change of the island, with the copies that it pushes. -/
theorem State.onUmbra_as {s : State} {f : Umbra → Umbra} {u : Umbra} {l : List (List Word)}
    (hf : f { s.umbra with out := [] } = { u with out := l }) : s.onUmbra f = .next (s.withUmbra u l) := by
  rw [State.onUmbra_eq, hf]
  rfl

/-- Settles O9: each outcome of a closing is that of `finishClose` on the shadow, or a closing that waits. -/
theorem sealCycle : Obligations.SealCycle := by
  refine ⟨fun s k hup hso hk hl => ?_, fun s k sh hup hso hw hsh hc hk hl => ?_, fun s w sh hup hso hw hsh => ?_⟩
  · obtain ⟨r, hr⟩ := Umbra.open_spec (u := { s.umbra with out := [] }) hup hso hk hl
    exact ⟨_, _, r, rfl, hr⟩
  · obtain ⟨r, hr⟩ := Umbra.close_spec (u := { s.umbra with out := [] }) hup hso hw hsh hc hk hl
    exact ⟨_, _, r, rfl, hr⟩
  · exact State.onUmbra_as (f := fun u => u.close) (Umbra.close_waits (u := { s.umbra with out := [] }) hup hso hw hsh)

end Sys2Proof.Machine
end

section
/-! Proofs of the statements on the Umbra port (R324 to R326): its reads, its accepted writes and its refusals. -/

namespace Sys2Proof.Machine

open Sys2Proof

/-! ### Requests -/

/-- A request with a right CRC is carried out. -/
theorem Umbra.request_right {u : Umbra} {req : List Byte} {crc : Byte} (f : Umbra → Umbra) (hup : u.up = true)
    (hc : crc = crc8 req) : u.request req crc f = f u := by
  subst hc
  simp only [Umbra.request, hup, Bool.not_true, Bool.false_eq_true, if_false, if_true]

/-- A request with a wrong CRC is answered the CRC error alone. -/
theorem Umbra.request_wrong {u : Umbra} {req : List Byte} {crc : Byte} (f : Umbra → Umbra) (hup : u.up = true)
    (hc : crc ≠ crc8 req) : u.request req crc f = u.answer (u.portStatus true false false false) [] := by
  simp only [Umbra.request, hup, Bool.not_true, Bool.false_eq_true, if_false, if_neg (Ne.symm hc)]

/-- The island as a command finds it, with no copy pushed yet. -/
def Umbra.quiet (u : Umbra) : Umbra := { u with out := [] }

/-- DIST is that of the accumulators and the parameters. -/
theorem Umbra.dist_congr {u v : Umbra} (h0 : v.dum0 = u.dum0) (h1 : v.dum1 = u.dum1) (hp : v.params = u.params) :
    v.dist = u.dist := by
  have hd : ∀ k, v.dum k = u.dum k := fun k => by rw [Umbra.dum, h0, h1, Umbra.dum]
  rw [Umbra.dist, Umbra.psel, hp, hd, Umbra.dist, Umbra.psel]

theorem Umbra.distSec_congr {u v : Umbra} (h0 : v.dum0 = u.dum0) (h1 : v.dum1 = u.dum1) (hp : v.params = u.params) :
    v.distSec = u.distSec := by
  have hd : ∀ k, v.dum k = u.dum k := fun k => by rw [Umbra.dum, h0, h1, Umbra.dum]
  rw [Umbra.distSec, Umbra.psel, hp, hd, Umbra.distSec, Umbra.psel]

@[simp] theorem Umbra.quiet_dist (u : Umbra) : u.quiet.dist = u.dist := Umbra.dist_congr rfl rfl rfl

@[simp] theorem Umbra.quiet_distSec (u : Umbra) : u.quiet.distSec = u.distSec := Umbra.distSec_congr rfl rfl rfl

/-- A request with a right CRC that makes no copy. -/
theorem State.onUmbra_request_right {s : State} {req : List Byte} {crc : Byte} {f : Umbra → Umbra} {st : Byte}
    {data : List Byte} (hup : s.umbra.up = true) (hc : crc = crc8 req) (hf : f s.umbra.quiet = s.umbra.quiet.answer st data) :
    s.onUmbra (fun u => u.request req crc f) = .next (s.withUmbra (s.umbra.answer st data) []) :=
  State.onUmbra_as ((Umbra.request_right (u := s.umbra.quiet) f hup hc).trans hf)

theorem State.onUmbra_request_wrong {s : State} {req : List Byte} {crc : Byte} {f : Umbra → Umbra}
    (hup : s.umbra.up = true) (hc : crc ≠ crc8 req) : s.onUmbra (fun u => u.request req crc f) =
      .next (s.withUmbra (s.umbra.answer (s.umbra.portStatus true false false false) []) []) :=
  State.onUmbra_as (Umbra.request_wrong (u := s.umbra.quiet) f hup hc)

/-! ### The commands of the port as changes of the island -/

section
variable (s : State) (crc : Byte)

theorem exec_status (op : Byte) : exec (.status crc op) s = s.onUmbra (fun u => u.requestByte op crc) := rfl

theorem exec_readSlot (area : Byte) (ix : Word) (errs : List (BitVec 28)) : exec (.readSlot area ix crc errs) s =
    s.onUmbra (fun u => u.request ([2, area] ++ wordBytes ix) crc (fun u => u.cmdReadSlot area.toNat ix.toNat errs)) := rfl

theorem exec_readParam (a : Word) (n : Byte) (errs : List (BitVec 28)) : exec (.readParam a n crc errs) s =
    s.onUmbra (fun u => u.request ([3] ++ wordBytes a ++ [n]) crc (fun u => u.cmdReadParam a.toNat n.toNat errs)) := rfl

theorem exec_writeParam (a : Word) (n : Byte) (ws : List Word) : exec (.writeParam a n ws crc) s =
    s.onUmbra (fun u => u.requestWrite a n ws crc (fun ws u => u.cmdWriteParam a.toNat ws)) := rfl

theorem exec_weigh : exec (.weigh crc) s = s.onUmbra (fun u => u.request [5] crc Umbra.cmdWeigh) := rfl

theorem exec_setTime (t : BitVec 32) : exec (.setTime t crc) s =
    s.onUmbra (fun u => u.request (6 :: timeBytes t) crc (fun u => u.cmdSetTime t)) := rfl

theorem exec_key (ku : BitVec 128) (id : Word) : exec (.key ku id crc) s =
    s.onUmbra (fun u => u.request (7 :: bytes128 ku ++ wordBytes id) crc (fun u => u.cmdKey ku id)) := rfl

theorem exec_distRec : exec (.distRec crc) s = s.onUmbra (fun u => u.request [8] crc Umbra.cmdDistRec) := rfl

end

/-! ### Reads -/

theorem decode28_encode28_zero (w : Word) : decode28 (encode28 w ^^^ 0) = .clean w := by
  rw [show encode28 w ^^^ 0 = encode28 w from BitVec.xor_zero, decode28_encode28]

/-- Words that are stored without an error are shown as they stand. -/
theorem slotShown_nil (ws : List Word) : slotShown ws [] = ws := by
  have hm : ws.mapIdx (fun i w => decode28 (encode28 w ^^^ ([] : List (BitVec 28)).getD i 0)) = ws.map Decoded.clean := by
    apply List.ext_getElem <;> simp [decode28_encode28]
  have hany : (ws.map Decoded.clean).any (fun x => decide (x = .bad)) = false := by simp
  rw [slotShown, hm]
  simp only [hany, Bool.false_eq_true, if_false, List.map_map]
  exact List.map_id ws

/-- One word that cannot be corrected makes the slot read as zeros. -/
theorem slotShown_bad {ws : List Word} {errs : List (BitVec 28)} {i : Nat} (hi : i < ws.length)
    (hb : decode28 (encode28 (ws.getD i 0) ^^^ errs.getD i 0) = .bad) :
    slotShown ws errs = List.replicate ws.length 0 := by
  refine if_pos (List.any_eq_true.2 ⟨.bad, List.mem_iff_getElem.2 ⟨i, by simpa using hi, ?_⟩, by decide⟩)
  rw [List.getElem_mapIdx, ← hb, List.getD_eq_getElem _ _ hi]

/-- A committed parameter is shown as its decoder delivers it, while the seal is closed. -/
theorem Umbra.paramShown_committed {u : Umbra} (a : Nat) (err : BitVec 28) (hs : u.sealOpen = false) :
    u.paramShown a err = if paramListed a then (decode28 (encode28 (param u.params a) ^^^ err)).value else 0 := by
  have hshown : u.shown = u.params := by simp only [Umbra.shown, hs]
  cases hl : paramListed a with
  | false => simp only [Umbra.paramShown, hl]; rfl
  | true =>
    by_cases he : err = 0
    · rw [he, decode28_encode28_zero]
      simp only [Umbra.paramShown, hl, hs, hshown]
      rfl
    · have ha : a < 0x180 := by
        simp only [paramListed, Bool.or_eq_true, decide_eq_true_eq] at hl
        omega
      simp only [Umbra.paramShown, Umbra.setWord, hl, hs, he, if_pos ha]
      rfl

/-- A parameter read without an error is the one shown. -/
theorem Umbra.paramShown_zero (u : Umbra) (a : Nat) :
    u.paramShown a 0 = if paramListed a then param u.shown a else 0 := by
  simp only [Umbra.paramShown, decide_true, Bool.or_true]
  cases paramListed a <;> rfl

/-- READ_PARAM of a number of words in range. -/
theorem Umbra.cmdReadParam_ok (u : Umbra) (a n : Nat) (errs : List (BitVec 28)) (h : 1 ≤ n ∧ n ≤ 64) :
    u.cmdReadParam a n errs = u.answer (u.portStatus false false false false)
      (bytesOf ((List.range n).map (fun i => u.paramShown (a + i) (errs.getD i 0)))) := if_pos h

theorem Umbra.cmdReadParam_bad (u : Umbra) (a n : Nat) (errs : List (BitVec 28)) (h : ¬ (1 ≤ n ∧ n ≤ 64)) :
    u.cmdReadParam a n errs = u.answer (u.portStatus false false true false) [] := if_neg h

theorem Umbra.cmdReadSlot_ok (u : Umbra) (area ix : Nat) (errs : List (BitVec 28))
    (h : (area = 0 ∧ ix < 512) ∨ (area = 1 ∧ ix < 7424)) :
    u.cmdReadSlot area ix errs = u.answer (u.portStatus false false false false) (bytesOf (slotShown (u.slotRec area ix) errs)) :=
  if_pos h

theorem Umbra.cmdReadSlot_bad (u : Umbra) (area ix : Nat) (errs : List (BitVec 28))
    (h : ¬ ((area = 0 ∧ ix < 512) ∨ (area = 1 ∧ ix < 7424))) :
    u.cmdReadSlot area ix errs = u.answer (u.portStatus false false true false) [] := if_neg h

/-- A request of one command byte that takes no argument. -/
theorem Umbra.requestByte_unknown (u : Umbra) (op crc : Byte) (h : op = 0 ∨ 8 < op.toNat) :
    u.requestByte op crc = u.request [op] crc (fun u => u.answer (u.portStatus false false true false) []) := by
  have hop : op ≠ 1 ∧ op ≠ 2 ∧ op ≠ 3 ∧ op ≠ 4 ∧ op ≠ 5 ∧ op ≠ 6 ∧ op ≠ 7 ∧ op ≠ 8 := by
    rcases h with rfl | h
    · decide
    · refine ⟨?_, ?_, ?_, ?_, ?_, ?_, ?_, ?_⟩ <;> rintro rfl <;> exact absurd h (by decide)
  obtain ⟨h1, h2, h3, h4, h5, h6, h7, h8⟩ := hop
  simp only [Umbra.requestByte, h1, h2, h3, h4, h5, h6, h7, h8]
  rfl

theorem Umbra.requestByte_status (u : Umbra) (crc : Byte) : u.requestByte 1 crc = u.request [1] crc Umbra.cmdStatus := rfl

/-- A slot of the two areas, by its bytes. -/
theorem slot_exists (area : Byte) (ix : Nat) :
    ((area.toNat = 0 ∧ ix < 512) ∨ (area.toNat = 1 ∧ ix < 7424)) ↔ ((area = 0 ∧ ix < 512) ∨ (area = 1 ∧ ix < 7424)) := by
  have h0 : area.toNat = 0 ↔ area = 0 := ⟨fun h => BitVec.eq_of_toNat_eq h, fun h => by rw [h]; rfl⟩
  have h1 : area.toNat = 1 ↔ area = 1 := ⟨fun h => BitVec.eq_of_toNat_eq h, fun h => by rw [h]; rfl⟩
  rw [h0, h1]

/-- Settles O10: a request by its CRC, and what the command answers. -/
theorem umbraPortReads : Obligations.UmbraPortReads := by
  intro s crc area ix hup
  simp only [exec_status, exec_readSlot, exec_readParam]
  refine ⟨fun hc => ?_, fun hc ha => ⟨?_, fun errs i hi hb => ?_⟩, fun errs hc ha => ?_, fun n hc h1 h2 => ⟨?_, fun errs hs => ?_⟩,
    fun n errs hc hn => ?_, fun op hop => ⟨fun hc => ?_, fun hc => ?_⟩, fun hc => ?_, fun errs hc => ?_, fun n hc => ?_⟩
  · exact State.onUmbra_request_right hup hc rfl
  · refine State.onUmbra_request_right hup hc ?_
    rw [Umbra.cmdReadSlot_ok _ _ _ _ ((slot_exists area _).2 ha), slotShown_nil]
    rfl
  · refine State.onUmbra_request_right hup hc ?_
    rw [Umbra.cmdReadSlot_ok _ _ _ _ ((slot_exists area _).2 ha)]
    exact congrArg _ (congrArg bytesOf (slotShown_bad hi hb))
  · exact State.onUmbra_request_right hup hc (Umbra.cmdReadSlot_bad _ _ _ _ (fun h => ha ((slot_exists area _).1 h)))
  · refine State.onUmbra_request_right hup hc ?_
    rw [Umbra.cmdReadParam_ok _ _ _ _ ⟨h1, h2⟩]
    simp only [List.getD_nil, Umbra.paramShown_zero]
    rfl
  · refine State.onUmbra_request_right hup hc ?_
    rw [Umbra.cmdReadParam_ok _ _ _ _ ⟨h1, h2⟩]
    simp only [Umbra.paramShown_committed (u := s.umbra.quiet) _ _ hs]
    rfl
  · have hn' : ¬ (1 ≤ n.toNat ∧ n.toNat ≤ 64) := by
      rcases hn with rfl | hn
      · decide
      · omega
    exact State.onUmbra_request_right hup hc (Umbra.cmdReadParam_bad _ _ _ _ hn')
  · simp only [Umbra.requestByte_unknown _ op crc hop]
    exact State.onUmbra_request_right hup hc rfl
  · simp only [Umbra.requestByte_unknown _ op crc hop]
    exact State.onUmbra_request_wrong hup hc
  · exact State.onUmbra_request_wrong hup hc
  · exact State.onUmbra_request_wrong hup hc
  · exact State.onUmbra_request_wrong hup hc

/-! ### Accepted writes -/

/-- A request with a right CRC, as the state after it. -/
theorem State.onUmbra_request {s : State} {req : List Byte} {crc : Byte} (f : Umbra → Umbra) (hup : s.umbra.up = true)
    (hc : crc = crc8 req) : s.onUmbra (fun u => u.request req crc f) =
      .next (s.withUmbra (f s.umbra.quiet) (f s.umbra.quiet).out) := by
  have e := Umbra.request_right (u := s.umbra.quiet) f hup hc
  rw [State.onUmbra_eq]
  show Host.Outcome.next (s.withUmbra (s.umbra.quiet.request req crc f) (s.umbra.quiet.request req crc f).out) = _
  rw [e]

theorem bytesOf_length (ws : List Word) : (bytesOf ws).length = 2 * ws.length := by
  induction ws with
  | nil => rfl
  | cons w t ih =>
    show (wordBytes w ++ bytesOf t).length = _
    rw [List.length_append, ih]
    simp only [wordBytes, List.length_cons, List.length_nil]
    omega

/-- A WRITE_PARAM request of as many words as its count. -/
theorem Umbra.requestWrite_complete (u : Umbra) (a : Word) {n : Byte} {ws : List Word} (crc : Byte)
    (f : List Word → Umbra → Umbra) (hn : n.toNat = ws.length) :
    u.requestWrite a n ws crc f = u.request ([4] ++ wordBytes a ++ [n] ++ bytesOf ws) crc (f ws) := by
  have hcrc : (bytesOf ws ++ [crc]).getD (2 * ws.length) crc = crc := by
    rw [← bytesOf_length]
    simp
  simp only [Umbra.requestWrite, hn, Nat.lt_irrefl, if_false, List.take_length, hcrc]

/-- A WRITE_PARAM request with fewer words than its count is never complete. -/
theorem Umbra.requestWrite_short (u : Umbra) (a : Word) {n : Byte} {ws : List Word} (crc : Byte)
    (f : List Word → Umbra → Umbra) (hn : ws.length < n.toNat) : u.requestWrite a n ws crc f = { u with resp := [] } :=
  if_pos hn

/-- The words of a set after a parameter write. -/
theorem param_putParams (ws : List Word) : ∀ (p : Store) (a b : Nat), param (putParams p a ws) b =
    if a ≤ b ∧ b < a + ws.length then ws.getD (b - a) 0 else param p b := by
  induction ws with
  | nil =>
    intro p a b
    rw [if_neg (by simp only [List.length_nil]; omega)]
    rfl
  | cons w t ih =>
    intro p a b
    rw [putParams, ih]
    by_cases hb : a + 1 ≤ b ∧ b < a + 1 + t.length
    · rw [if_pos hb, if_pos (by rw [List.length_cons]; omega), show b - a = (b - (a + 1)) + 1 by omega, List.getD_cons_succ]
    · rw [if_neg hb, param, Store.get_set]
      by_cases ha : b = a
      · subst ha
        rw [if_pos rfl, if_pos (by rw [List.length_cons]; omega), Nat.sub_self, List.getD_cons_zero]
      · rw [if_neg ha, if_neg (by rw [List.length_cons]; omega)]
        rfl

/-- The sealed commands are accepted while the seal is open and an audit slot is left. -/
theorem Umbra.sealed_false {u : Umbra} (hs : u.sealOpen = true) (hl : u.audit.length < 512) : u.sealed = false := by
  simp only [Umbra.sealed, hs, Umbra.afull_of_lt hl]
  rfl

theorem Umbra.sealed_true {u : Umbra} (h : u.sealOpen = false ∨ u.audit.length = 512) : u.sealed = true := by
  rcases h with h | h
  · simp only [Umbra.sealed, h]
    rfl
  · simp only [Umbra.sealed, Umbra.afull, h]
    simp

/-- The words of a parameter write are all of the table. -/
theorem paramWrite_sound {a : Nat} {ws : List Word} (h1 : 1 ≤ ws.length) (h2 : ws.length ≤ 64)
    (hp : ∀ i, i < ws.length → paramListed (a + i) = true) :
    (!(decide (1 ≤ ws.length ∧ ws.length ≤ 64) && (List.range ws.length).all (fun i => paramListed (a + i)))) = false := by
  rw [decide_eq_true ⟨h1, h2⟩, Bool.true_and, Bool.not_eq_false', List.all_eq_true]
  exact fun i hi => hp i (List.mem_range.1 hi)

/-- An accepted parameter write changes the shadow alone. -/
theorem Umbra.cmdWriteParam_ok {u : Umbra} {a : Nat} {ws : List Word} (hs : u.sealed = false) (h1 : 1 ≤ ws.length)
    (h2 : ws.length ≤ 64) (hp : ∀ i, i < ws.length → paramListed (a + i) = true) :
    u.cmdWriteParam a ws = u.accept (fun u => { u with shadow := some (putParams (u.shadow.getD u.params) a ws) }) := by
  simp only [Umbra.cmdWriteParam, hs, paramWrite_sound h1 h2 hp]
  rfl

theorem Umbra.cmdWriteParam_sealed {u : Umbra} {a : Nat} {ws : List Word} (hs : u.sealed = true) (h1 : 1 ≤ ws.length)
    (h2 : ws.length ≤ 64) (hp : ∀ i, i < ws.length → paramListed (a + i) = true) :
    u.cmdWriteParam a ws = u.answer (u.portStatus false true false false) [] := by
  simp only [Umbra.cmdWriteParam, hs, paramWrite_sound h1 h2 hp]
  rfl

theorem Umbra.runs_of {u : Umbra} {k : BitVec 128} (hk : u.key = some k) (hp : u.perr = false) : u.runs = true := by
  simp only [Umbra.runs, hk, hp]
  rfl

/-- A trigger is taken while the island runs and no weighing is in progress or triggered. -/
theorem Umbra.trigger_taken {u : Umbra} (t : Nat) (hr : u.runs = true) (hw : u.weigh = none) (ht : u.trig = none) :
    u.trigger t = { u with trig := some t } := by
  simp only [Umbra.trigger, hr, hw, ht]
  rfl

theorem Umbra.cmdWeigh_ok {u : Umbra} (hr : u.runs = true) (hw : u.weigh = none) (ht : u.trig = none) :
    u.cmdWeigh = u.accept (fun u => { u with trig := some 2 }) := by
  simp only [Umbra.cmdWeigh, Umbra.accept, hr, hw, Umbra.trigger_taken 2 hr hw ht]
  rfl

/-- SET_TIME under an open seal leaves a TIME record of the time that it ends. -/
theorem Umbra.cmdSetTime_spec {u : Umbra} {k : BitVec 128} (t : BitVec 32) (hk : u.key = some k) (hs : u.sealOpen = true)
    (hl : u.audit.length < 512) :
    ∃ r, (u.cmdSetTime t).utime = t ∧ (u.cmdSetTime t).rtcx = false ∧ (u.cmdSetTime t).rtcLost = u.rtcLost ∧
      (u.cmdSetTime t).audit = u.audit ++ [r] ∧
      (r.drop 5).take 4 = [5, u.audcnt, lo16 u.utime, hi16 u.utime] ∧
      (u.cmdSetTime t).params = u.params ∧ (u.cmdSetTime t).data = u.data := by
  have e : u.cmdSetTime t = u.accept (fun u =>
      ({ u with utime := t, rtcx := false } : Umbra).auditRec
        ([5, u.audcnt, lo16 u.utime, hi16 u.utime] ++ (words64 u.pdig).drop 2 ++ [0])) := by
    simp only [Umbra.cmdSetTime, Umbra.sealed_false hs hl]
    rfl
  obtain ⟨_, _, haudit, _⟩ := Umbra.auditRec_made (u := { u with utime := t, rtcx := false })
    ([5, u.audcnt, lo16 u.utime, hi16 u.utime] ++ (words64 u.pdig).drop 2 ++ [0]) hk hl
  rw [e]
  simp only [Umbra.accept, Umbra.answer, Umbra.auditRec_keeps]
  exact ⟨_, trivial, trivial, trivial, haudit, rfl, trivial, trivial⟩

/-- What an accepted request answers is all that it leaves beside what it does. -/
theorem Umbra.accept_eq (u : Umbra) (f : Umbra → Umbra) : u.accept f = { f u with resp := (u.accept f).resp } := rfl

/-- A distance record, and what it marks in the island (R309). -/
theorem Umbra.distanceRec_eq (u : Umbra) : ∃ bad w, u.distanceRec =
    ({ u with discrep := bad, distBase := u.dist.toNat, distSecBase := u.distSec.toNat } : Umbra).dataRec 2
      [lo16 u.dist, hi16 u.dist, lo16 u.distSec, hi16 u.distSec, w, u.cplcnt, 0] ∧
    (inputOn u.params 1 = false → bad = false) := by
  have hd : ∀ b x y, ({ u with discrep := b, distBase := x, distSecBase := y } : Umbra).dist = u.dist := fun _ _ _ =>
    Umbra.dist_congr rfl rfl rfl
  have hs : ∀ b x y, ({ u with discrep := b, distBase := x, distSecBase := y } : Umbra).distSec = u.distSec := fun _ _ _ =>
    Umbra.distSec_congr rfl rfl rfl
  simp only [Umbra.distanceRec, hd, hs]
  exact ⟨_, _, rfl, fun h => by rw [h, Bool.and_false, Bool.false_and]⟩

/-- A distance record under a key. -/
theorem Umbra.distanceRec_spec {u : Umbra} {k : BitVec 128} (hk : u.key = some k) :
    u.distanceRec.recnum = u.recnum + 1 ∧ u.distanceRec.distBase = u.dist.toNat ∧
      u.distanceRec.distSecBase = u.distSec.toNat ∧ u.distanceRec.audit = u.audit ∧
      u.distanceRec.lastRec.take 1 = [u.recordHead 2] ∧
      (u.distanceRec.lastRec.drop 5).take 4 = [lo16 u.dist, hi16 u.dist, lo16 u.distSec, hi16 u.distSec] ∧
      u.distanceRec.datNext = (if u.datNext + 1 = 7424 then 0 else u.datNext + 1) ∧
      (inputOn u.params 1 = false → u.distanceRec.discrep = false) := by
  obtain ⟨bad, w, e, hbad⟩ := u.distanceRec_eq
  obtain ⟨hnum, hlast, hnext, _⟩ := Umbra.dataRec_made (u := { u with
    discrep := bad, distBase := u.dist.toNat, distSecBase := u.distSec.toNat }) 2
    [lo16 u.dist, hi16 u.dist, lo16 u.distSec, hi16 u.distSec, w, u.cplcnt, 0] hk
  rw [e, hlast, hnum, hnext]
  simp only [Umbra.dataRec_keeps]
  exact ⟨trivial, trivial, trivial, trivial, rfl, rfl, trivial, hbad⟩

/-- Settles O11: each accepted command by what it does to the island as it stands. -/
theorem umbraPortWrites : Obligations.UmbraPortWrites := by
  intro s k crc hup hk
  simp only [exec_writeParam, exec_weigh, exec_setTime, exec_distRec]
  refine ⟨fun a n ws sh hc hs hl hsh hn h1 h2 hp => ?_, fun a n ws hn => ?_, fun hc hp hw ht => ?_, fun t hc hs hl => ?_,
    fun hc hp hd => ?_⟩
  · simp only [Umbra.requestWrite_complete _ a crc _ hn]
    rw [State.onUmbra_request _ hup hc, Umbra.cmdWriteParam_ok (u := s.umbra.quiet) (Umbra.sealed_false hs hl) h1 h2 hp]
    refine ⟨_, rfl, rfl, ⟨_, rfl, fun b => ?_⟩, rfl, rfl, rfl⟩
    rw [param_putParams]
    show _ = if _ then _ else param sh b
    rw [show s.umbra.quiet.shadow = some sh from hsh]
    rfl
  · exact State.onUmbra_as (Umbra.requestWrite_short s.umbra.quiet a crc _ hn)
  · rw [State.onUmbra_request _ hup hc, Umbra.cmdWeigh_ok (u := s.umbra.quiet) (Umbra.runs_of (u := s.umbra) hk hp) hw ht]
    exact ⟨_, rfl, rfl, hw, rfl, rfl, rfl⟩
  · obtain ⟨r, hr⟩ := Umbra.cmdSetTime_spec (u := s.umbra.quiet) t hk hs hl
    exact ⟨_, _, r, State.onUmbra_request _ hup hc, hr⟩
  · obtain ⟨hnum, hbase, hsec, haudit, hhead, hpay, hnext, _⟩ := Umbra.distanceRec_spec (u := s.umbra.quiet) hk
    have e : s.umbra.quiet.cmdDistRec = s.umbra.quiet.accept Umbra.distanceRec :=
      if_pos (Umbra.runs_of (u := s.umbra.quiet) hk hp)
    rw [State.onUmbra_request _ hup hc, e, Umbra.accept_eq]
    simp only [Umbra.quiet_dist, Umbra.quiet_distSec] at hbase hsec hpay
    refine ⟨_, _, rfl, hnum, hbase, hsec, haudit, ?_, hpay, hnext.trans ?_⟩
    · refine hhead.trans ?_
      simp [Umbra.recordHead, Umbra.quiet]
    · show (if s.umbra.datNext + 1 = 7424 then 0 else s.umbra.datNext + 1) = _
      split <;> omega

/-! ### The island key and the refusals -/

/-- What a power record leaves as it was. -/
@[simp] theorem Umbra.powerRec_keeps (u : Umbra) (first lost : Bool) (alive : BitVec 32) :
    (u.powerRec first lost alive).up = u.up ∧ (u.powerRec first lost alive).utime = u.utime ∧
    (u.powerRec first lost alive).perr = u.perr ∧ (u.powerRec first lost alive).key = u.key ∧
    (u.powerRec first lost alive).keyId = u.keyId ∧ (u.powerRec first lost alive).pdig = u.pdig ∧
    (u.powerRec first lost alive).params = u.params ∧ (u.powerRec first lost alive).audit = u.audit ∧
    (u.powerRec first lost alive).sealOpen = u.sealOpen ∧ (u.powerRec first lost alive).shadow = u.shadow ∧
    (u.powerRec first lost alive).dum0 = u.dum0 ∧ (u.powerRec first lost alive).dum1 = u.dum1 := by
  simp [Umbra.powerRec]

/-- What a power record under a key makes. -/
theorem Umbra.powerRec_made {u : Umbra} {k : BitVec 128} (first lost : Bool) (alive : BitVec 32) (hk : u.key = some k) :
    (u.powerRec first lost alive).recnum = u.recnum + 1 ∧
    ((u.powerRec first lost alive).lastRec.drop 5).take 3 =
      [word (u.perr.toNat * 4 + lost.toNat * 2 + first.toNat), lo16 alive, hi16 alive] ∧
    (u.powerRec first lost alive).out.length = u.out.length + 1 := by
  rw [Umbra.powerRec]
  obtain ⟨hnum, hlast, _, hout⟩ := Umbra.dataRec_made (u := u) 5 [word (u.perr.toNat * 4 + lost.toNat * 2 + first.toNat),
    lo16 alive, hi16 alive, lo16 u.dist, hi16 u.dist, 0, 0] hk
  rw [hnum, hlast, hout]
  exact ⟨rfl, rfl, rfl⟩

/-- What an audit record that carries PDIG leaves as it was. -/
@[simp] theorem Umbra.auditPdig_keeps (u : Umbra) (kind w11 : Nat) :
    (u.auditPdig kind w11).up = u.up ∧ (u.auditPdig kind w11).utime = u.utime ∧ (u.auditPdig kind w11).perr = u.perr ∧
    (u.auditPdig kind w11).key = u.key ∧ (u.auditPdig kind w11).keyId = u.keyId ∧
    (u.auditPdig kind w11).pdig = u.pdig ∧ (u.auditPdig kind w11).params = u.params := by
  simp [Umbra.auditPdig]

/-- What an audit record that carries PDIG makes under a key. -/
theorem Umbra.auditPdig_made {u : Umbra} {k : BitVec 128} (kind w11 : Nat) (hk : u.key = some k)
    (hl : u.audit.length < 512) :
    ∃ r, (u.auditPdig kind w11).recnum = u.recnum + 1 ∧ (u.auditPdig kind w11).audit = u.audit ++ [r] ∧
      (r.drop 5).take 1 = [word kind] ∧ (u.auditPdig kind w11).out.length = u.out.length + 1 := by
  obtain ⟨hnum, _, haudit, hout⟩ := Umbra.auditRec_made ([word kind, u.audcnt] ++ words64 u.pdig ++ [word w11]) hk hl
  exact ⟨_, hnum, haudit, rfl, hout⟩

/-- KEY, where no key is programmed and the seal is open: the first power record and a KEY audit record. -/
theorem Umbra.cmdKey_spec {u : Umbra} (ku : BitVec 128) (id : Word) (hk : u.key = none) (hs : u.sealOpen = true)
    (hl : u.audit.length < 512) :
    ∃ r, (u.cmdKey ku id).key = some ku ∧ (u.cmdKey ku id).keyId = id ∧ (u.cmdKey ku id).pdig = digest ku u.params ∧
      (u.cmdKey ku id).recnum = u.recnum + 2 ∧ (u.cmdKey ku id).audit = u.audit ++ [r] ∧ (r.drop 5).take 1 = [6] ∧
      (u.cmdKey ku id).params = u.params ∧ (u.cmdKey ku id).out.length = u.out.length + 2 := by
  have e : u.cmdKey ku id = u.accept (fun u =>
      (({ u with key := some ku, keyId := id, pdig := digest ku u.params } : Umbra).powerRec true false u.utime).auditPdig 6 0) := by
    simp only [Umbra.cmdKey, Umbra.sealed_false hs hl, hk]
    rfl
  obtain ⟨hnum, _, hout⟩ := Umbra.powerRec_made (u := { u with key := some ku, keyId := id, pdig := digest ku u.params })
    true false u.utime rfl
  obtain ⟨r, hnum', haudit, hkind, hout'⟩ := Umbra.auditPdig_made (u := ({ u with
    key := some ku, keyId := id, pdig := digest ku u.params } : Umbra).powerRec true false u.utime) (k := ku) 6 0 (by simp)
    (by simpa using hl)
  rw [e, Umbra.accept_eq]
  refine ⟨r, by simp, by simp, by simp, hnum'.trans ?_, haudit.trans (by simp), hkind, by simp, hout'.trans ?_⟩
  · rw [hnum, BitVec.add_assoc]
    rfl
  · rw [hout]

/-- Settles O12: KEY by its specification, and the sealed commands by what their refusal answers. -/
theorem umbraKeyAndRefusals : Obligations.UmbraKeyAndRefusals := by
  refine ⟨fun s ku id crc hup hc => ?_, fun s a n ws t ku id hup hsl hn h1 h2 hp => ?_⟩
  · simp only [exec_key]
    refine ⟨fun hk hs hl => ?_, fun hk => ?_⟩
    · obtain ⟨r, hkey, hid, hdig, hnum, haudit, hkind, hpar, hout⟩ := Umbra.cmdKey_spec (u := s.umbra.quiet) ku id hk hs hl
      exact ⟨_, _, r, State.onUmbra_request _ hup hc, hkey, hid, hdig, hnum, haudit, hkind, hpar, hout⟩
    · refine State.onUmbra_request_right hup hc (if_pos ?_)
      rw [show s.umbra.quiet.key = s.umbra.key from rfl, hk, Bool.or_true]
  · have hs : s.umbra.quiet.sealed = true := Umbra.sealed_true (u := s.umbra.quiet) hsl
    simp only [exec_writeParam, exec_setTime, exec_key, Umbra.requestWrite_complete _ a _ _ hn]
    refine ⟨?_, ?_, ?_⟩
    · exact State.onUmbra_request_right hup rfl (Umbra.cmdWriteParam_sealed hs h1 h2 hp)
    · exact State.onUmbra_request_right hup rfl (if_pos hs)
    · exact State.onUmbra_request_right hup rfl (if_pos (by rw [hs, Bool.true_or]))

end Sys2Proof.Machine
end

section
/-! Proofs of the statements on the metering of the metrology island: distance, coupling, weighing (R303 to R311), and its
supply, clock and start (R301, R302, R322, R323). -/

namespace Sys2Proof.Machine

open Sys2Proof

/-! ### Pulses, distance and coupling -/

/-- With no closing that waits, a weighing that ends carries nothing out. -/
theorem Umbra.closeWaiting_nil {u : Umbra} (hc : u.closing = []) : u.closeWaiting = u := by
  unfold Umbra.closeWaiting
  split
  · rw [hc]
    show ({ u with closing := [] } : Umbra) = u
    rw [← hc]
  · rfl

/-- A pulse on an input that counts. -/
theorem Umbra.pulse_counts {u : Umbra} {k : Fin 2} (hup : u.up = true) (hr : u.runs = true) (hc : u.closing = [])
    (hi : inputOn u.params k.1 = true) : u.pulse k = { u with
      dum0 := if k = 0 then min (2 ^ 64 - 1) (u.dum0 + paramK u.params 0) else u.dum0
      dum1 := if k = 1 then min (2 ^ 64 - 1) (u.dum1 + paramK u.params 1) else u.dum1
      still := false, weigh := none } := by
  have hcond : (u.up && inputOn u.params k.1 && u.runs) = true := by rw [hup, hi, hr]; rfl
  rw [Umbra.pulse, if_pos hcond]
  match k with
  | 0 => exact Umbra.closeWaiting_nil hc
  | 1 => exact Umbra.closeWaiting_nil hc

/-- The coupling record of a level. -/
theorem Umbra.coupled_eq (u : Umbra) (level : Bool) : u.coupled level =
    ({ u with cpl := level, cplcnt := if level then u.cplcnt + 1 else u.cplcnt, cplSince := level || u.cplSince } :
      Umbra).couplingRec (!level) := by
  cases level <;> rfl

theorem Umbra.trigger_keeps (u : Umbra) (t : Nat) : u.trigger t = { u with trig := (u.trigger t).trig } := by
  unfold Umbra.trigger
  split <;> rfl

/-- What a coupling record leaves, and makes under a key. -/
theorem Umbra.couplingRec_made {u : Umbra} {k : BitVec 128} (close : Bool) (hk : u.key = some k) :
    (u.couplingRec close).cpl = u.cpl ∧ (u.couplingRec close).cplcnt = u.cplcnt ∧ (u.couplingRec close).audit = u.audit ∧
    (u.couplingRec close).recnum = u.recnum + 1 ∧
    ((u.couplingRec close).lastRec.drop 5).take 4 = [word close.toNat, u.cplcnt, lo16 u.dist, hi16 u.dist] := by
  rw [Umbra.couplingRec]
  obtain ⟨hnum, hlast, _, _⟩ := Umbra.dataRec_made (u := u) 3
    [word close.toNat, u.cplcnt, lo16 u.dist, hi16 u.dist, 0, 0, 0] hk
  simp only [Umbra.dataRec_keeps, hnum, hlast]
  exact ⟨trivial, trivial, trivial, trivial, rfl⟩

/-- A change of the coupling, and then the trigger of a weighing that it may be. -/
theorem Umbra.coupling_eq {u : Umbra} {level : Bool} (hup : u.up = true) (hlev : level ≠ u.cpl) :
    ∃ t, u.coupling level = { u.coupled level with trig := t } := by
  have hcond : (u.up && level != u.cpl) = true := by rw [hup, Bool.true_and, bne_iff_ne]; exact hlev
  rw [Umbra.coupling, if_pos hcond]
  split
  · exact ⟨_, Umbra.trigger_keeps _ 1⟩
  · exact ⟨_, rfl⟩

/-- What a change of the coupling leaves, and its record. -/
theorem Umbra.coupling_spec {u : Umbra} {k : BitVec 128} {level : Bool} (hup : u.up = true) (hk : u.key = some k)
    (hlev : level ≠ u.cpl) :
    (u.coupling level).cpl = level ∧ (u.coupling level).cplcnt = (if level then u.cplcnt + 1 else u.cplcnt) ∧
      (u.coupling level).recnum = u.recnum + 1 ∧
      ((u.coupling level).lastRec.drop 5).take 4 =
        [if level then 0 else 1, (u.coupling level).cplcnt, lo16 u.dist, hi16 u.dist] ∧
      (u.coupling level).audit = u.audit := by
  obtain ⟨t, e⟩ := Umbra.coupling_eq hup hlev
  obtain ⟨hcpl, hcnt, haudit, hnum, hrec⟩ := Umbra.couplingRec_made (k := k) (u := { u with
    cpl := level, cplcnt := if level then u.cplcnt + 1 else u.cplcnt, cplSince := level || u.cplSince }) (!level) hk
  have hdist : ({ u with
      cpl := level, cplcnt := if level then u.cplcnt + 1 else u.cplcnt, cplSince := level || u.cplSince } : Umbra).dist =
    u.dist := Umbra.dist_congr rfl rfl rfl
  have hword : word (!level).toNat = if level then 0 else 1 := by cases level <;> rfl
  rw [hdist, hword] at hrec
  rw [e, Umbra.coupled_eq]
  exact ⟨hcpl, hcnt, hnum, hrec.trans (by rw [hcnt]), haudit⟩

/-- The hourly record is made at a whole hour with DIST advanced. -/
theorem Umbra.hour_due {u : Umbra} {k : BitVec 128} (hup : u.up = true) (hk : u.key = some k)
    (ht : u.utime.toNat % 3600 = 0) (hd : u.distBase < u.dist.toNat) : u.hour = u.distanceRec := by
  rw [Umbra.hour, hup, hk, decide_eq_true ht, decide_eq_true hd]
  rfl

theorem Umbra.hour_idle {u : Umbra} (hd : u.dist.toNat ≤ u.distBase) : u.hour = u := by
  rw [Umbra.hour, decide_eq_false (Nat.not_lt.2 hd), Bool.and_false]
  rfl

/-- Settles O13: a pulse, an hour and a level of CPL_DET by what the island makes of each. -/
theorem umbraDistance : Obligations.UmbraDistance := by
  refine ⟨fun s k hup hr hc => ⟨fun hi => ?_, fun hi => ?_⟩, fun s k level hup hk => ⟨fun ht hd => ?_, fun hd => ?_,
    fun hl => ?_, ?_⟩⟩
  · exact State.onUmbra_as (f := fun u => u.pulse k) (Umbra.pulse_counts (u := s.umbra.quiet) hup hr hc hi)
  · refine State.onUmbra_as (f := fun u => u.pulse k) (if_neg ?_)
    rw [show ({ s.umbra with out := [] } : Umbra).params = s.umbra.params from rfl, hi, Bool.and_false, Bool.false_and]
    exact Bool.false_ne_true
  · obtain ⟨hnum, hbase, _, haudit, _, hpay, _, hdis⟩ := Umbra.distanceRec_spec (u := s.umbra.quiet) hk
    have e := Umbra.hour_due (u := s.umbra.quiet) hup hk ht (by rwa [Umbra.quiet_dist])
    simp only [Umbra.quiet_dist, ← e] at hnum hbase haudit hpay hdis
    have hpay' := congrArg (List.take 2) hpay
    rw [List.take_take] at hpay'
    exact ⟨_, _, State.onUmbra_eq s (fun u => u.hour), hnum, hbase, hpay', hdis, haudit⟩
  · exact State.onUmbra_as (f := fun u => u.hour) (Umbra.hour_idle (u := s.umbra.quiet) (by rwa [Umbra.quiet_dist]))
  · obtain ⟨hcpl, hcnt, hnum, hrec, haudit⟩ := Umbra.coupling_spec (u := s.umbra.quiet) hup hk hl
    rw [Umbra.quiet_dist] at hrec
    exact ⟨_, _, State.onUmbra_eq s (fun u => u.coupling level), hcpl, hcnt, hnum, hrec, haudit⟩
  · refine State.onUmbra_as (f := fun u => u.coupling s.umbra.cpl) (if_neg ?_)
    rw [show ({ s.umbra with out := [] } : Umbra).cpl = s.umbra.cpl from rfl, bne_self_eq_false, Bool.and_false]
    exact Bool.false_ne_true

/-! ### Conversions and weighings -/

/-- One conversion of input `l`: its code enters the weighing, and after UA3 a waiting trigger is taken up. -/
theorem Umbra.convert_eq {u : Umbra} {l : Fin 4} (code : Nat) (hup : u.up = true) (hi : u.input = l.1) :
    u.convert code = (fun v : Umbra => if (decide (l = 3) && v.weigh.isNone) = true then v.takeUp else v)
      (({ u with input := (l.1 + 1) % 4 } : Umbra).weighCode l code) := by
  have hm : u.input % 4 = l.1 := by rw [hi]; exact Nat.mod_eq_of_lt l.2
  simp only [Umbra.convert, hup, Bool.not_true, Bool.false_eq_true, if_false, hm]

theorem Umbra.weighCode_none {u : Umbra} (l : Fin 4) (code : Nat) (hw : u.weigh = none) : u.weighCode l code = u := by
  simp only [Umbra.weighCode, hw]

/-- The code of an input that does not end a cycle. -/
theorem Umbra.weighCode_mid {u : Umbra} {w : Weigh} {l : Fin 4} (code : Nat) (hw : u.weigh = some w)
    (hl : l.1 ≠ lastChannel u.params) : u.weighCode l code = { u with weigh := some (w.take l code) } := by
  simp only [Umbra.weighCode, hw, if_neg hl]

/-- The code that ends the last cycle. -/
theorem Umbra.weighCode_last {u : Umbra} {w : Weigh} {l : Fin 4} (code : Nat) (hw : u.weigh = some w)
    (hl : l.1 = lastChannel u.params) (hn : u.nw ≤ w.n + 1) :
    u.weighCode l code = (u.weighed (w.take l code)).closeWaiting := by
  simp only [Umbra.weighCode, hw, if_pos hl, if_pos hn]

theorem Umbra.takeUp_none {u : Umbra} (ht : u.trig = none) : u.takeUp = u := by
  simp only [Umbra.takeUp, ht]

theorem Umbra.takeUp_some {u : Umbra} {t : Nat} (ht : u.trig = some t) (hr : u.runs = true) :
    u.takeUp = { u with weigh := some { trig := t }, trig := none } := by
  simp only [Umbra.takeUp, ht, if_pos hr]

/-- A load stored changes the loads alone. -/
theorem Umbra.putLoad_frame (u : Umbra) (l : Fin 4) (v : Option Nat) :
    u.putLoad l v = { u with load := (u.putLoad l v).load, free := (u.putLoad l v).free } := by
  unfold Umbra.putLoad
  split
  · rfl
  · split <;> rfl

/-- The load of a channel that is not valid reads 0xFFFF, and no store of another channel touches it. -/
theorem Umbra.putLoad_load (u : Umbra) (l j : Fin 4) (v : Fin 4 → Option Nat) (hj : v j = none)
    (h : l = j ∨ u.load[j] = 0xFFFF) : (u.putLoad l (v l)).load[j] = 0xFFFF := by
  by_cases hl : l = j
  · subst hl
    rw [hj]
    exact upd_self _ _ _
  · have hne : ∀ x : Word, (upd u.load l (fun _ => x))[j] = 0xFFFF := fun x => by
      rw [upd_ne _ _ _ _ (Ne.symm hl)]
      exact h.resolve_left hl
    unfold Umbra.putLoad
    split
    · exact hne _
    · split <;> exact hne _

theorem Umbra.foldl_putLoad_frame (v : Fin 4 → Option Nat) (ls : List (Fin 4)) : ∀ u : Umbra,
    ∃ ld fr, ls.foldl (fun u l => u.putLoad l (v l)) u = { u with load := ld, free := fr } := by
  induction ls with
  | nil => exact fun u => ⟨_, _, rfl⟩
  | cons l t ih =>
    intro u
    obtain ⟨ld, fr, e⟩ := ih (u.putLoad l (v l))
    rw [List.foldl_cons, e, Umbra.putLoad_frame]
    exact ⟨_, _, rfl⟩

theorem Umbra.foldl_putLoad_load (v : Fin 4 → Option Nat) (j : Fin 4) (hj : v j = none) (ls : List (Fin 4)) :
    ∀ u : Umbra, j ∈ ls ∨ u.load[j] = 0xFFFF →
      (ls.foldl (fun u l => u.putLoad l (v l)) u).load[j] = 0xFFFF := by
  induction ls with
  | nil => exact fun u h => h.resolve_left (List.not_mem_nil)
  | cons l t ih =>
    intro u h
    rw [List.foldl_cons]
    refine ih _ ?_
    by_cases hjt : j ∈ t
    · exact .inl hjt
    · refine .inr (Umbra.putLoad_load u l j v hj ?_)
      rcases h with h | h
      · exact .inl ((List.mem_cons.1 h).resolve_right hjt).symm
      · exact .inr h

/-- The loads of a weighing that ends, those of the channels that are valid. -/
def Umbra.loads (u : Umbra) (w : Weigh) (l : Fin 4) : Option Nat :=
  if loadOn u.params l.1 && !w.unst u.params l && !w.range u.params u.nw l then
    some (loadOf u.params u.nw l.1 w.sum[l])
  else none

/-- The record of a weighing that ends, and what the island shows of it (R306). -/
theorem Umbra.weighed_eq (u : Umbra) (w : Weigh) : ∃ ld fr tot fl mb,
    u.weighed w = ({ u with load := ld, free := fr, total := tot, wflags := fl, weigh := none, moveBase := mb, cplSince := false } :
      Umbra).dataRec 1 [ld[0], ld[1], ld[2], ld[3], lo16 tot, hi16 tot, fl] ∧
    ∀ j : Fin 4, loadOn u.params j.1 = false → ld[j] = 0xFFFF := by
  obtain ⟨ld, fr, e⟩ := Umbra.foldl_putLoad_frame (u.loads w) (List.finRange 4) u
  have hoff : ∀ j : Fin 4, loadOn u.params j.1 = false → ld[j] = 0xFFFF := fun j hj => by
    have h := Umbra.foldl_putLoad_load (u.loads w) j (by rw [Umbra.loads, hj]; rfl) (List.finRange 4) u
      (.inl (List.mem_finRange j))
    rwa [e] at h
  simp only [Umbra.loads] at e
  simp only [Umbra.weighed, e]
  exact ⟨ld, fr, _, _, _, rfl, hoff⟩

/-- What the end of a weighing leaves, and its record. -/
theorem Umbra.weighed_spec {u : Umbra} {k : BitVec 128} (w : Weigh) (hk : u.key = some k) :
    (u.weighed w).weigh = none ∧ (u.weighed w).trig = u.trig ∧ (u.weighed w).closing = u.closing ∧
    (u.weighed w).recnum = u.recnum + 1 ∧ (u.weighed w).lastRec.take 1 = [u.recordHead 1] ∧
    ((u.weighed w).lastRec.drop 5).take 6 = [(u.weighed w).load[0], (u.weighed w).load[1], (u.weighed w).load[2],
      (u.weighed w).load[3], lo16 (u.weighed w).total, hi16 (u.weighed w).total] ∧
    (∀ j : Fin 4, loadOn u.params j.1 = false → (u.weighed w).load[j] = 0xFFFF) ∧
    (u.weighed w).audit = u.audit ∧ (u.weighed w).dum0 = u.dum0 ∧ (u.weighed w).dum1 = u.dum1 := by
  obtain ⟨ld, fr, tot, fl, mb, e, hoff⟩ := u.weighed_eq w
  obtain ⟨hnum, hlast, _, _⟩ := Umbra.dataRec_made (k := k) (u := { u with
    load := ld, free := fr, total := tot, wflags := fl, weigh := none, moveBase := mb, cplSince := false }) 1
    [ld[0], ld[1], ld[2], ld[3], lo16 tot, hi16 tot, fl] hk
  rw [e, hnum, hlast]
  simp only [Umbra.dataRec_keeps]
  exact ⟨trivial, trivial, trivial, trivial, rfl, rfl, hoff, trivial, trivial, trivial⟩

/-- The conversion that ends a weighing, with nothing else waiting. -/
theorem Umbra.convert_last {u : Umbra} {k : BitVec 128} {w : Weigh} {l : Fin 4} (code : Nat) (hup : u.up = true)
    (hk : u.key = some k) (hi : u.input = l.1) (hc : u.closing = []) (ht : u.trig = none) (hw : u.weigh = some w)
    (hl : l.1 = lastChannel u.params) (hn : u.nw ≤ w.n + 1) :
    u.convert code = ({ u with input := (l.1 + 1) % 4 } : Umbra).weighed (w.take l code) := by
  obtain ⟨_, htrig, hclosing, _⟩ := Umbra.weighed_spec (u := { u with input := (l.1 + 1) % 4 }) (w.take l code) hk
  rw [Umbra.convert_eq code hup hi, Umbra.weighCode_last (u := { u with input := (l.1 + 1) % 4 }) code hw hl hn,
    Umbra.closeWaiting_nil (hclosing.trans hc)]
  generalize Umbra.weighed _ (w.take l code) = v at htrig
  show (if (decide (l = 3) && v.weigh.isNone) = true then v.takeUp else v) = v
  rw [Umbra.takeUp_none (htrig.trans ht), ite_self]

/-- Becoming still, with the trigger of a weighing that it is where MOVE metres have passed. -/
theorem Umbra.becomeStill_moved {u : Umbra} (hup : u.up = true) (hs : u.still = false) (hr : u.runs = true)
    (hw : u.weigh = none) (ht : u.trig = none) (hm : paramN u.params 4 ≤ u.moved) :
    u.becomeStill = { u with still := true, trig := some 0 } := by
  have hcond : (u.up && !u.still) = true := by rw [hup, hs]; rfl
  have hmoved : ({ u with still := true } : Umbra).moved = u.moved := by
    rw [Umbra.moved, Umbra.dist_congr (u := u) (v := { u with still := true }) rfl rfl rfl, Umbra.moved]
  rw [Umbra.becomeStill, if_pos hcond]
  simp only [hmoved, if_pos hm]
  exact Umbra.trigger_taken (u := { u with still := true }) 0 hr hw ht

theorem Umbra.becomeStill_near {u : Umbra} (hup : u.up = true) (hs : u.still = false)
    (hm : u.moved < paramN u.params 4) (hc : u.cplSince = false) : u.becomeStill = { u with still := true } := by
  have hcond : (u.up && !u.still) = true := by rw [hup, hs]; rfl
  have hmoved : ({ u with still := true } : Umbra).moved = u.moved := by
    rw [Umbra.moved, Umbra.dist_congr (u := u) (v := { u with still := true }) rfl rfl rfl, Umbra.moved]
  rw [Umbra.becomeStill, if_pos hcond]
  simp only [hmoved, if_neg (Nat.not_le.2 hm)]
  exact if_neg (by rw [hc]; exact Bool.false_ne_true)

/-- Settles O14: each conversion by what its code is to the weighing, and the still time by the way since the last one. -/
theorem weighing : Obligations.Weighing := by
  intro s code w k t l hup hr hk hc hi
  have hconv := Umbra.convert_eq (u := s.umbra.quiet) code.toNat hup hi
  refine ⟨fun hw ht => ?_, fun hw ht => ?_, fun hw hl => ?_, fun hw hl hn ht => ?_, fun hs hw ht hm => ?_, fun hs hm hcs => ?_⟩
  · refine State.onUmbra_as (f := fun u => u.convert code.toNat) (hconv.trans ?_)
    rw [Umbra.weighCode_none (u := { s.umbra.quiet with input := (l.1 + 1) % 4 }) l _ hw]
    beta_reduce
    split
    · exact Umbra.takeUp_none ht
    · rfl
  · refine State.onUmbra_as (f := fun u => u.convert code.toNat) (hconv.trans ?_)
    rw [Umbra.weighCode_none (u := { s.umbra.quiet with input := (l.1 + 1) % 4 }) l _ hw]
    by_cases hl : l = 3
    · subst hl
      rw [if_pos rfl]
      refine (if_pos ?_).trans (Umbra.takeUp_some (u := { s.umbra.quiet with input := 0 }) ht hr)
      rw [show ({ s.umbra.quiet with input := ((3 : Fin 4).1 + 1) % 4 } : Umbra).weigh = none from hw]
      rfl
    · rw [if_neg hl, decide_eq_false hl]
      rfl
  · refine State.onUmbra_as (f := fun u => u.convert code.toNat) (hconv.trans ?_)
    rw [Umbra.weighCode_mid (u := { s.umbra.quiet with input := (l.1 + 1) % 4 }) _ hw hl]
    exact if_neg (by simp)
  · have e := Umbra.convert_last (u := s.umbra.quiet) code.toNat hup hk hi hc ht hw hl hn
    have hx : exec (.umbraConversion code) s = .next (s.withUmbra (s.umbra.quiet.convert code.toNat)
      (s.umbra.quiet.convert code.toNat).out) := State.onUmbra_eq s (fun u => u.convert code.toNat)
    obtain ⟨hweigh, _, _, hnum, hhead, hpay, hoff, haudit, h0, h1⟩ := Umbra.weighed_spec
      (u := { s.umbra.quiet with input := (l.1 + 1) % 4 }) (w.take l code.toNat) hk
    rw [hx, e]
    generalize Umbra.weighed _ (w.take l code.toNat) = v at hweigh hnum hhead hpay hoff haudit h0 h1
    refine ⟨v, _, rfl, hweigh, hnum, hhead.trans ?_, hpay, hoff, haudit, h0, h1⟩
    simp [Umbra.recordHead, Umbra.quiet]
  · refine State.onUmbra_as (f := fun u => u.becomeStill)
      (Umbra.becomeStill_moved (u := s.umbra.quiet) hup hs hr hw ht ?_)
    rwa [Umbra.moved, Umbra.quiet_dist]
  · refine State.onUmbra_as (f := fun u => u.becomeStill) (Umbra.becomeStill_near (u := s.umbra.quiet) hup hs ?_ hcs)
    rwa [Umbra.moved, Umbra.quiet_dist]

end Sys2Proof.Machine
end

section
/-! Proof of the statement on the supply of the metrology island, its clock and its start (R298, R301, R302, R322, R323). -/

namespace Sys2Proof.Machine

open Sys2Proof

/-! ### The clock -/

/-- A mailbox copy says nothing of the copies before it. -/
theorem Umbra.quiet_mailbox (u : Umbra) : u.quiet.mailbox = u.mailbox := by
  rw [Umbra.mailbox, Umbra.quiet_dist, Umbra.quiet_distSec]
  rfl

theorem Umbra.second_up {u : Umbra} (hup : u.up = true) : u.second =
    ({ u with utime := u.utime + 1, alive := u.utime + 1 } : Umbra).push := by
  simp only [Umbra.second, hup]
  rfl

theorem Umbra.second_down {u : Umbra} (hup : u.up = false) : u.second = { u with utime := u.utime + 1 } := by
  simp only [Umbra.second, hup]
  rfl

/-! ### The loss of VUMB -/

/-- The island once VUMB is lost: what is not in ferroelectric memory is gone. -/
def Umbra.unpowered (u : Umbra) : Umbra := { u with
  up := false, bistFail := false, shadow := none, closing := [], sealOpen := false, weigh := none, trig := none
  still := false, cpl := false }

/-- A loss that tears nothing. -/
theorem Umbra.loseSupply_whole {u : Umbra} {torn : Bool} (h : torn = false ∨ u.last = none) :
    u.loseSupply torn = u.unpowered := by
  have e : (if torn then u.tearLast else u) = u := by
    rcases h with h | h
    · rw [h]; rfl
    · rw [Umbra.tearLast, h]; exact ite_self _
  simp only [Umbra.loseSupply, e, ite_self]
  rfl

theorem Umbra.loseSupply_torn {u : Umbra} (hup : u.up = true) : u.loseSupply true = u.tearLast.unpowered := by
  simp only [Umbra.loseSupply, hup]
  rfl

theorem Umbra.loseSupply_set {u : Umbra} (n : Nat) (hup : u.up = true) :
    u.loseSupply true (some n) = (u.tearSet n).unpowered := by
  simp only [Umbra.loseSupply, hup]
  rfl

/-- A loss where no copy of the last record waits, or that the command does not say to tear. -/
theorem exec_loss_whole {s : State} {torn : Bool} {set : Option Nat} (h : ((torn || set.isSome) && s.mayTear) = false) :
    exec (.umbraSupplyLoss torn set) s = s.onUmbra (fun u => u.loseSupply false) :=
  if_neg (by rw [h]; exact Bool.false_ne_true)

/-- A loss that tears what the last command wrote. -/
theorem exec_loss_torn {s : State} (set : Option Nat) (hm : s.mayTear = true) :
    exec (.umbraSupplyLoss true set) s = .next (s.withdrawn.withUmbra (s.umbra.quiet.loseSupply true set) []) := by
  have e : exec (.umbraSupplyLoss true set) s = s.withdrawn.onUmbra (fun u => u.loseSupply true set) :=
    if_pos (by rw [hm, Bool.true_or]; rfl)
  rw [e, State.onUmbra_loss]
  have hu : s.withdrawn.umbra = s.umbra := by rw [State.withdrawn_eq]
  rw [hu]
  rfl

/-- The commit word of a slot, after one was written. -/
theorem Umbra.mark_setMark (u : Umbra) (a : Nat) (v : Word) : (u.setMark a v).mark a = v := Store.get_set_self _ _ _

/-- The slot of a torn audit record reads as empty. -/
theorem Umbra.tearLast_audit {u : Umbra} {w : UWrite} (hw : u.last = some w) (ha : w.audit = true) :
    u.tearLast = ({ u with audit := u.audit.dropLast, last := none } : Umbra).setMark (auditMark (u.audit.length - 1)) 0 := by
  simp only [Umbra.tearLast, hw, ha, if_true]

theorem Umbra.tearLast_data {u : Umbra} {w : UWrite} {n : Nat} (hw : u.last = some w) (ha : w.audit = false)
    (hn : u.datNext = n + 1) : u.tearLast = ({ u with
      data := u.data.filter (fun e => e.1 ≠ n), datNext := n, dwrap := w.wrap, last := none } : Umbra).setMark (dataMark n) 0 := by
  simp only [Umbra.tearLast, hw, ha, hn]
  rfl

/-- A torn record touches no number, no parameter and no accumulator. -/
theorem Umbra.tearLast_keeps (u : Umbra) : u.tearLast.recnum = u.recnum ∧ u.tearLast.params = u.params ∧
    u.tearLast.dum0 = u.dum0 ∧ u.tearLast.dum1 = u.dum1 ∧ u.tearLast.up = u.up := by
  unfold Umbra.tearLast
  split
  · exact ⟨rfl, rfl, rfl, rfl, rfl⟩
  · split <;> exact ⟨rfl, rfl, rfl, rfl, rfl⟩

/-- A slot with no record reads as zeros. -/
theorem Umbra.slotRec_audit_none {u : Umbra} {n : Nat} (h : u.audit.length ≤ n) :
    u.slotRec 0 n = List.replicate 16 0 := by
  simp only [Umbra.slotRec, if_true, List.getElem?_eq_none h]
  rfl

theorem Umbra.slotRec_data_none {u : Umbra} {n : Nat} (h : ∀ e ∈ u.data, e.1 ≠ n) :
    u.slotRec 1 n = List.replicate 16 0 := by
  have hf : u.data.find? (fun e => e.1 = n) = none := by
    rw [List.find?_eq_none]
    exact fun e he => by simpa using h e he
  simp only [Umbra.slotRec, hf]
  rfl

/-- The words of a set of which only some were written. -/
theorem param_mixSet (new old : Store) (n a : Nat) (ha : a < 0x180) :
    param (mixSet new old n) a = if a < n then param new a else param old a := by
  have go : ∀ (l : List Nat) (p : Store), param (l.foldl (fun p b =>
      p.set (fun _ => 0) b (param (if b < n then new else old) b)) p) a =
      if a ∈ l then param (if a < n then new else old) a else param p a := by
    intro l
    induction l with
    | nil => exact fun p => (if_neg List.not_mem_nil).symm
    | cons b t ih =>
      intro p
      rw [List.foldl_cons, ih]
      by_cases ht : a ∈ t
      · rw [if_pos ht, if_pos (List.mem_cons_of_mem b ht)]
      · rw [if_neg ht, param, Store.get_set]
        by_cases hb : a = b
        · subst hb
          rw [if_pos rfl, if_pos List.mem_cons_self]
        · rw [if_neg hb, if_neg (fun h => (List.mem_cons.1 h).elim hb ht)]
          rfl
  rw [mixSet, go, if_pos (List.mem_range.2 ha)]
  split <;> rfl

theorem Umbra.tearSet_some {u : Umbra} {w : UWrite} {p : Store} {pd : BitVec 64} {pe : Bool} (n : Nat)
    (hw : u.last = some w) (hs : w.set = some (p, pd, pe)) :
    u.tearSet n = { u.tearLast with params := mixSet u.params p n, pdig := pd, perr := pe, parMark := 0 } := by
  obtain ⟨a, wr, st⟩ := w
  simp only at hs
  subst hs
  simp only [Umbra.tearSet, hw]

/-! ### The start -/

/-- The island as it starts, before it has judged its parameters. -/
def Umbra.restarted (u : Umbra) : Umbra := { u with
  up := true, utime := if u.rtcLost then u.alive else u.utime, rtcLost := false, sealOpen := false, shadow := none
  closing := [], cpl := false, still := false, weigh := none, trig := none, input := 0, updcnt := 0 }

/-- What the start finds of its parameter set. -/
def Umbra.setBad (u : Umbra) (k : BitVec 128) (errs : List (Nat × BitVec 28)) : Bool :=
  digest k u.params != u.pdig || u.parMark != commitWord (paramWords u.params) || u.setBroken errs

theorem Umbra.start_key {u : Umbra} {k : BitVec 128} (ok : Bool) (errs : List (Nat × BitVec 28)) (hup : u.up = false)
    (hb : u.bistFail = false) (hk : u.key = some k) : u.start ok errs =
      (fun v : Umbra => if u.setBad k errs then v.auditPdig 7 0 else v)
        (({ u.restarted with perr := u.setBad k errs } : Umbra).powerRec false u.rtcLost u.alive) := by
  have h1 : ¬ (u.up || u.bistFail) = true := by rw [hup, hb]; exact Bool.false_ne_true
  have h2 : ¬ (u.key.isNone && !ok) = true := by rw [hk]; exact Bool.false_ne_true
  rw [Umbra.start, if_neg h1, if_neg h2]
  dsimp only
  split
  · next h => exact nomatch h.symm.trans hk
  · next k' h =>
    obtain rfl : k' = k := Option.some.inj (h.symm.trans hk)
    rfl

theorem Umbra.setBad_false {u : Umbra} {k : BitVec 128} {errs : List (Nat × BitVec 28)} (hd : digest k u.params = u.pdig)
    (hm : u.parMark = commitWord (paramWords u.params)) (hs : u.setBroken errs = false) : u.setBad k errs = false := by
  rw [Umbra.setBad, hd, ← hm, hs, bne_self_eq_false, bne_self_eq_false]
  rfl

theorem Umbra.setBad_true {u : Umbra} {k : BitVec 128} {errs : List (Nat × BitVec 28)}
    (h : digest k u.params ≠ u.pdig ∨ u.parMark ≠ commitWord (paramWords u.params) ∨
      ∃ e ∈ errs, (u.setWord e.1 e.2).2 = .bad) : u.setBad k errs = true := by
  rw [Umbra.setBad, Bool.or_eq_true, Bool.or_eq_true, bne_iff_ne, bne_iff_ne]
  rcases h with h | h | ⟨e, he, hbad⟩
  · exact .inl (.inl h)
  · exact .inl (.inr h)
  · exact .inr (List.any_eq_true.2 ⟨e, he, by rw [hbad]; exact Bool.or_true _⟩)

/-- A start with sound parameters leaves a power record and goes on. -/
theorem Umbra.start_sound {u : Umbra} {k : BitVec 128} {ok : Bool} {errs : List (Nat × BitVec 28)} (hup : u.up = false)
    (hb : u.bistFail = false) (hk : u.key = some k) (hbad : u.setBad k errs = false) :
    (u.start ok errs).up = true ∧ (u.start ok errs).perr = false ∧
      (u.start ok errs).utime = (if u.rtcLost then u.alive else u.utime) ∧ (u.start ok errs).sealOpen = false ∧
      (u.start ok errs).shadow = none ∧ (u.start ok errs).audit = u.audit ∧ (u.start ok errs).recnum = u.recnum + 1 ∧
      (u.start ok errs).params = u.params ∧
      ((u.start ok errs).lastRec.drop 5).take 3 = [word (u.rtcLost.toNat * 2), lo16 u.alive, hi16 u.alive] ∧
      (u.start ok errs).dum0 = u.dum0 ∧ (u.start ok errs).dum1 = u.dum1 := by
  obtain ⟨hnum, hrec, _⟩ := Umbra.powerRec_made (u := { u.restarted with perr := u.setBad k errs }) false u.rtcLost u.alive hk
  rw [Umbra.start_key ok errs hup hb hk]
  simp only [hbad, Bool.false_eq_true, if_false] at hnum hrec ⊢
  rw [hnum, hrec]
  simp only [Umbra.powerRec_keeps]
  exact ⟨rfl, trivial, rfl, rfl, rfl, rfl, rfl, rfl, by simp, rfl, rfl⟩

/-- A start with parameters that are not sound sets PERR under a record of its own. -/
theorem Umbra.start_broken {u : Umbra} {k : BitVec 128} {ok : Bool} {errs : List (Nat × BitVec 28)} (hup : u.up = false)
    (hb : u.bistFail = false) (hk : u.key = some k) (hbad : u.setBad k errs = true) (hl : u.audit.length < 512) :
    ∃ r, (u.start ok errs).up = true ∧ (u.start ok errs).perr = true ∧ (u.start ok errs).runs = false ∧
      (u.start ok errs).audit = u.audit ++ [r] ∧ (r.drop 5).take 1 = [7] ∧ (u.start ok errs).params = u.params := by
  obtain ⟨r, _, haudit, hkind, _⟩ := Umbra.auditPdig_made (k := k)
    (u := ({ u.restarted with perr := true } : Umbra).powerRec false u.rtcLost u.alive) 7 0
    (by simpa [Umbra.restarted] using hk) (by simpa [Umbra.restarted] using hl)
  rw [Umbra.start_key ok errs hup hb hk]
  simp only [hbad, if_true]
  refine ⟨r, by simp [Umbra.restarted], by simp, by simp [Umbra.runs], haudit.trans ?_, hkind, by simp [Umbra.restarted]⟩
  simp [Umbra.restarted]

theorem Umbra.start_bistFail {u : Umbra} (errs : List (Nat × BitVec 28)) (hup : u.up = false)
    (hb : u.bistFail = false) (hk : u.key = none) : u.start false errs = { u with bistFail := true } := by
  have h1 : ¬ (u.up || u.bistFail) = true := by rw [hup, hb]; exact Bool.false_ne_true
  have h2 : (u.key.isNone && !false) = true := by rw [hk]; rfl
  rw [Umbra.start, if_neg h1, if_pos h2]

/-- Where the last command has made no record, no copy of one is withdrawn. -/
theorem State.withdrawn_of_none {s : State} (h : s.umbra.last = none) : s.withdrawn = s := by
  have hc : s.copyWaits = false := by
    unfold State.copyWaits
    split
    · rw [h]; rfl
    · rfl
  rw [State.withdrawn, hc]
  rfl

/-- A loss that has nothing to tear, whatever the command says. -/
theorem exec_loss_nothing (s : State) (torn : Bool) (h : torn = false ∨ s.umbra.last = none) :
    exec (.umbraSupplyLoss torn) s = .next (s.withUmbra s.umbra.unpowered []) := by
  cases hc : ((torn || (none : Option Nat).isSome) && s.mayTear) with
  | false =>
    rw [exec_loss_whole hc]
    exact State.onUmbra_as (f := fun u => u.loseSupply false) (Umbra.loseSupply_whole (u := s.umbra.quiet) (.inl rfl))
  | true =>
    obtain ⟨ht, hm⟩ := Bool.and_eq_true_iff.1 hc
    rw [Option.isSome_none, Bool.or_false] at ht
    subst ht
    have hlast := h.resolve_left (by decide)
    rw [exec_loss_torn none hm, State.withdrawn_of_none hlast, Umbra.loseSupply_whole (u := s.umbra.quiet) (.inr hlast)]
    rfl

/-- What a loss that tears the last record leaves of it. -/
theorem Umbra.loseSupply_torn_spec {u : Umbra} {w : UWrite} (hup : u.up = true) (hw : u.last = some w) :
    (u.loseSupply true).up = false ∧ (u.loseSupply true).recnum = u.recnum ∧
      (u.loseSupply true).params = u.params ∧ (u.loseSupply true).dum0 = u.dum0 ∧ (u.loseSupply true).dum1 = u.dum1 ∧
      (∀ init r, u.audit = init ++ [r] → w.audit = true →
        (u.loseSupply true).audit = init ∧ (u.loseSupply true).mark init.length = 0 ∧
        (u.loseSupply true).data = u.data ∧ (u.loseSupply true).slotRec 0 init.length = List.replicate 16 0) ∧
      (∀ n, u.datNext = n + 1 → w.audit = false →
        (u.loseSupply true).audit = u.audit ∧ (u.loseSupply true).datNext = n ∧ (u.loseSupply true).mark (512 + n) = 0 ∧
        (∀ e ∈ (u.loseSupply true).data, e.1 ≠ n) ∧ (∀ e ∈ u.data, e.1 ≠ n → e ∈ (u.loseSupply true).data) ∧
        (u.loseSupply true).slotRec 1 n = List.replicate 16 0) := by
  obtain ⟨hnum, hpar, h0, h1, _⟩ := u.tearLast_keeps
  rw [Umbra.loseSupply_torn hup]
  refine ⟨rfl, hnum, hpar, h0, h1, fun init r ha haud => ?_, fun n hn haud => ?_⟩
  · have hdrop : u.audit.dropLast = init := by rw [ha, List.dropLast_concat]
    have hlen : u.audit.length - 1 = init.length := by rw [ha, List.length_append]; rfl
    rw [Umbra.tearLast_audit hw haud, hdrop, hlen]
    exact ⟨rfl, Umbra.mark_setMark { u with audit := init, last := none } init.length 0, rfl, Umbra.slotRec_audit_none (Nat.le_refl _)⟩
  · rw [Umbra.tearLast_data hw haud hn]
    have hne : ∀ e ∈ u.data.filter (fun e => e.1 ≠ n), e.1 ≠ n := fun e he => by simpa using (List.mem_filter.1 he).2
    exact ⟨rfl, rfl, Umbra.mark_setMark { u with
      data := u.data.filter (fun e => e.1 ≠ n), datNext := n, dwrap := w.wrap, last := none } (512 + n) 0, hne, fun e he h => List.mem_filter.2 ⟨he, by simpa using h⟩,
      Umbra.slotRec_data_none hne⟩

/-- Settles O8: a second, a loss and a start of the island, each by what it leaves. -/
theorem umbraSupply : Obligations.UmbraSupply := by
  refine ⟨fun s => ⟨fun hup => ?_, fun hup => ?_, ?_, fun torn h => ?_, fun hm torn set => ?_, fun w hup hw hm => ?_,
    fun w n p pd pe hup hw hs hm => ?_⟩, fun s ok errs hup hb => ⟨fun k hk hd hmk hsb => ?_, fun k hk hbad hl => ?_,
    fun hk hok => ?_⟩⟩
  · refine State.onUmbra_as (f := fun u => u.second) ((Umbra.second_up (u := s.umbra.quiet) hup).trans ?_)
    rw [← Umbra.quiet_mailbox]
    rfl
  · exact State.onUmbra_as (f := fun u => u.second) (Umbra.second_down (u := s.umbra.quiet) hup)
  · rfl
  · exact exec_loss_nothing s torn h
  · rw [exec_loss_whole (by rw [hm, Bool.and_false]), exec_loss_whole (by simp)]
  · exact ⟨_, exec_loss_torn none hm, Umbra.loseSupply_torn_spec (u := s.umbra.quiet) hup hw⟩
  · refine ⟨_, exec_loss_torn (some n) hm, ?_⟩
    rw [Umbra.loseSupply_set (u := s.umbra.quiet) n hup, Umbra.tearSet_some (u := s.umbra.quiet) n hw hs]
    have hmix := param_mixSet s.umbra.params p n
    rw [show s.umbra.quiet.params = s.umbra.params from rfl]
    generalize mixSet s.umbra.params p n = q at hmix ⊢
    exact ⟨rfl, rfl, rfl, hmix⟩
  · obtain h := Umbra.start_sound (u := s.umbra.quiet) (ok := ok) hup hb hk (Umbra.setBad_false (errs := errs) hd hmk hsb)
    exact ⟨_, _, State.onUmbra_eq s (fun u => u.start ok errs), h⟩
  · obtain ⟨r, h⟩ := Umbra.start_broken (u := s.umbra.quiet) (ok := ok) hup hb hk (Umbra.setBad_true (errs := errs) hbad) hl
    exact ⟨_, _, r, State.onUmbra_eq s (fun u => u.start ok errs), h⟩
  · subst hok
    exact State.onUmbra_as (f := fun u => u.start false errs) (Umbra.start_bistFail (u := s.umbra.quiet) errs hup hb hk)

end Sys2Proof.Machine
end

section
/-! Proofs of the statements on the mailbox copies of the island (R327 to R329) and on the keys and the challenge (R343, R468,
R469), with the rules on raising a source that they use. -/

namespace Sys2Proof.Machine

open Sys2Proof

/-! ### Raising a source while ck_core runs (R444) -/

/-- The sources from 36 on belong to no motor, group or array, and every part has them. -/
theorem Dev.hasSrc_of_ge (d : Dev) {i : Nat} (h : 36 ≤ i) : d.hasSrc i = true := by
  unfold Dev.hasSrc
  rw [if_neg (by omega), if_neg (by omega), if_neg (by omega), if_neg (by omega)]

theorem Dev.raise_ev_self {d : Dev} (hr : d.runs = true) {i : Nat} (h : i < 64) (hs : d.hasSrc i = true) :
    (d.raise i).ev[i] = { cnt := d.ev[i].cnt + 1, ts := d.time, sub := d.sub } := by
  simp only [Dev.raise_spec d i h hs (Dev.stands_of_runs hr)]
  exact upd_self d.ev ⟨i, h⟩ _

theorem Dev.raise_ev_ne {d : Dev} (hr : d.runs = true) {i j : Nat} (hj : j < 64) (hij : j ≠ i) :
    (d.raise i).ev[j] = d.ev[j] := by
  have hne : ∀ h : i < 64, (⟨j, hj⟩ : Fin 64) ≠ ⟨i, h⟩ := fun _ e => hij (Fin.mk.inj e)
  simp only [Dev.raise, Dev.stands_of_runs hr, Dev.raiseNow]
  by_cases h : i < 64
  · by_cases hs : d.hasSrc i = true
    · simp only [h, hs, dif_pos, if_pos]
      exact upd_ne d.ev ⟨i, h⟩ ⟨j, hj⟩ _ (hne h)
    · simp [h, hs]
  · simp [h]

/-- A cause that sets while ck_core runs counts once in its source. -/
theorem Dev.cause_ev_self {d : Dev} (hr : d.runs = true) (a : Nat) (m : Word) {i : Nat} (h : i < 64) (hs : d.hasSrc i = true) :
    (d.cause a m i).ev[i] = { cnt := d.ev[i].cnt + 1, ts := d.time, sub := d.sub } := by
  have hraise := Dev.raise_ev_self (d := d.orW a m) (by rw [Dev.orW_runs, hr]) h (by simpa [Dev.hasSrc] using hs)
  simpa only [Dev.cause, Dev.orW_ev, Dev.orW_time, Dev.orW_sub] using hraise

theorem Dev.cause_ev_ne {d : Dev} (hr : d.runs = true) (a : Nat) (m : Word) {i j : Nat} (hj : j < 64) (hij : j ≠ i) :
    (d.cause a m i).ev[j] = d.ev[j] := by
  have hraise := Dev.raise_ev_ne (d := d.orW a m) (by rw [Dev.orW_runs, hr]) hj hij
  simpa only [Dev.cause, Dev.orW_ev] using hraise

/-! ### A block of words -/

/-- The words of a list from a base on, put one after another. -/
def Dev.putAll (d : Dev) (base : Nat) (l : List Nat) (f : Nat → Word) : Dev := d.each l (fun d i => d.put (base + i) (f i))

theorem Dev.putAll_eq (base : Nat) (l : List Nat) (f : Nat → Word) :
    ∀ d : Dev, ∃ ws, d.putAll base l f = { d with words := ws } := by
  induction l with
  | nil => exact fun d => ⟨d.words, rfl⟩
  | cons i l ih =>
    intro d
    obtain ⟨ws, h⟩ := ih (d.put (base + i) (f i))
    exact ⟨ws, h⟩

theorem Dev.w_putAll (base : Nat) (l : List Nat) (f : Nat → Word) (a : Nat) :
    ∀ d : Dev, (d.putAll base l f).w a = if base ≤ a ∧ a - base ∈ l then f (a - base) else d.w a := by
  induction l with
  | nil => simp [Dev.putAll, Dev.each]
  | cons i l ih =>
    intro d
    have h := ih (d.put (base + i) (f i))
    change (d.putAll base (i :: l) f).w a = _ at h
    rw [h, Dev.w_put]
    by_cases hin : base ≤ a ∧ a - base ∈ l
    · rw [if_pos hin, if_pos ⟨hin.1, List.mem_cons_of_mem _ hin.2⟩]
    · rw [if_neg hin]
      by_cases hai : a = base + i
      · rw [if_pos hai, if_pos (by subst hai; simp), hai, Nat.add_sub_cancel_left]
      · rw [if_neg hai, if_neg]
        rintro ⟨hle, hmem⟩
        obtain h | h := List.mem_cons.1 hmem
        · omega
        · exact hin ⟨hle, h⟩

/-! ### The mailbox copies (R43, R327 to R329) -/

/-- The module with the oldest copy in the mailbox words, E48 raised and CSTAT set. -/
def Dev.copied (d : Dev) (c : List Word) (rest : List (List Word)) : Dev :=
  ((((({ d with mbxIn := rest, mbxAt := d.cycles } : Dev).putAll 0xC000 (List.range 48) (fun i => c.getD i 0)).raise 48).putB
    0xC040 0 true).putB 0xC040 1 false)

/-- The copy c shows a change of the seal: its seal bit or its AUDCNT differs, or it is the first and shows the seal open. -/
def Dev.sealChg (d : Dev) (c : List Word) : Bool :=
  if d.bit 0xC040 0 then (bitOf (c.getD 0 0) 14 != d.bit 0xC000 14) || decide (c.getD 13 0 ≠ d.w 0xC00D)
  else bitOf (c.getD 0 0) 14

theorem Dev.mailbox_word (d : Dev) (c : List Word) {i : Nat} (h : i < 48) :
    (d.putAll 0xC000 (List.range 48) (fun i => c.getD i 0)).w (0xC000 + i) = c.getD i 0 := by
  rw [Dev.w_putAll, if_pos ⟨Nat.le_add_right _ _, by rw [Nat.add_sub_cancel_left]; exact List.mem_range.2 h⟩,
    Nat.add_sub_cancel_left]

theorem Dev.mailbox_other (d : Dev) (c : List Word) {a : Nat} (h : a ∉ (List.range 48).map (0xC000 + ·)) :
    (d.putAll 0xC000 (List.range 48) (fun i => c.getD i 0)).w a = d.w a := by
  rw [Dev.w_putAll, if_neg]
  rintro ⟨hle, hmem⟩
  exact h (List.mem_map.2 ⟨a - 0xC000, hmem, Nat.add_sub_cancel' hle⟩)

theorem Dev.mailboxTake_eq {d : Dev} {c : List Word} {rest : List (List Word)} (h : d.mbxIn = c :: rest) :
    d.mailboxTake = if d.sealChg c then (d.copied c rest).cause 0xC040 4 49 else d.copied c rest := by
  have hseal := Dev.mailbox_word ({ d with mbxIn := rest, mbxAt := d.cycles } : Dev) c (i := 0) (by decide)
  have haud := Dev.mailbox_word ({ d with mbxIn := rest, mbxAt := d.cycles } : Dev) c (i := 13) (by decide)
  rw [Dev.putAll] at hseal haud
  simp only [Nat.add_zero, Nat.reduceAdd] at hseal haud
  simp only [Dev.mailboxTake, h, Dev.copied, Dev.sealChg, Dev.putAll, Dev.bit, Dev.raise_w, hseal, haud]
  have hne : (c.getD 13 0 != d.w 0xC00D) = decide (c.getD 13 0 ≠ d.w 0xC00D) := by simp [bne, beq_eq_decide]
  by_cases hfull : bitOf (d.w 0xC040) 0 = true
  · simp only [hfull, hne]
    rfl
  · simp only [hfull]
    rfl

theorem Dev.w_copied (d : Dev) (c : List Word) (rest : List (List Word)) {a : Nat} (h : a ≠ 0xC040) :
    (d.copied c rest).w a = (d.putAll 0xC000 (List.range 48) (fun i => c.getD i 0)).w a := by
  rw [Dev.copied, Dev.w_putB, if_neg h, Dev.w_putB, if_neg h, Dev.raise_w, Dev.w_putAll, Dev.w_putAll]
  rfl

theorem Dev.bit_copied (d : Dev) (c : List Word) (rest : List (List Word)) {i : Nat} (h : i < 16) :
    (d.copied c rest).bit 0xC040 i = if i = 1 then false else if i = 0 then true else d.bit 0xC040 i := by
  rw [Dev.copied, Dev.bit_putB _ _ _ _ _ _ (by decide) h, Dev.bit_putB _ _ _ _ _ _ (by decide) h]
  simp only [true_and]
  refine if_congr Iff.rfl rfl (if_congr Iff.rfl rfl (Dev.bit_congr ?_ i))
  rw [Dev.raise_w]
  exact Dev.mailbox_other _ c (by simp; omega)

theorem Dev.copied_fields (d : Dev) (c : List Word) (rest : List (List Word)) :
    (d.copied c rest).mbxIn = rest ∧ (d.copied c rest).mbxAt = d.cycles ∧ (d.copied c rest).runs = d.runs := by
  obtain ⟨ws, h⟩ := Dev.putAll_eq 0xC000 (List.range 48) (fun i => c.getD i 0) { d with mbxIn := rest, mbxAt := d.cycles }
  rw [Dev.copied, h]
  simp only [Dev.putB_mbxIn, Dev.putB_mbxAt, Dev.putB_runs, Dev.raise_mbxIn, Dev.raise_mbxAt, Dev.raise_runs]
  exact ⟨trivial, trivial, rfl⟩

theorem Dev.copied_ev {d : Dev} (hr : d.runs = true) (c : List Word) (rest : List (List Word)) :
    (d.copied c rest).ev[48].cnt = d.ev[48].cnt + 1 ∧ (d.copied c rest).ev[49].cnt = d.ev[49].cnt := by
  obtain ⟨ws, h⟩ := Dev.putAll_eq 0xC000 (List.range 48) (fun i => c.getD i 0) { d with mbxIn := rest, mbxAt := d.cycles }
  rw [Dev.copied, h]
  simp only [Dev.putB_ev]
  generalize hd : ({ d with mbxIn := rest, mbxAt := d.cycles, words := ws } : Dev) = e
  have hrun : e.runs = true := by rw [← hd, ← hr]; rfl
  have hev : e.ev = d.ev := by rw [← hd]
  rw [Dev.raise_ev_self hrun (by decide) (Dev.hasSrc_of_ge _ (by decide)), Dev.raise_ev_ne hrun (by decide) (by decide)]
  simp only [hev, and_self]

/-- Settles O15: the words, CSTAT and E48 by what a copy leaves, and SEALCHG with E49 by whether it shows a change. -/
theorem mailboxCopies : Obligations.MailboxCopies := by
  intro s c rest hr hin
  obtain ⟨hmbx, hat, hruns⟩ := s.dev.copied_fields c rest
  obtain ⟨h48, h49⟩ := Dev.copied_ev hr c rest
  have hsame : s.dev.SameWords (s.dev.copied c rest) ([0xC040] ++ (List.range 48).map (0xC000 + ·)) := by
    intro a ha
    obtain ⟨h40, hmail⟩ := not_or.1 (fun h => ha (List.mem_append.2 h))
    rw [Dev.w_copied _ _ _ (by simpa using h40), Dev.mailbox_other _ _ hmail]
  have hword : ∀ i, i < 48 → (s.dev.copied c rest).w (0xC000 + i) = c.getD i 0 := fun i hi => by
    rw [Dev.w_copied _ _ _ (by omega), Dev.mailbox_word _ _ hi]
  have hfull := s.dev.bit_copied c rest (i := 0) (by decide)
  have hold := s.dev.bit_copied c rest (i := 1) (by decide)
  have hchange := s.dev.bit_copied c rest (i := 2) (by decide)
  refine ⟨⟨_, State.onCore_eq hr (Dev.mailboxTake_eq hin), ?_⟩, fun h => State.onCore_eq hr (if_pos h),
    fun h => State.onCore_eq hr (if_neg (Nat.not_le.2 h))⟩
  change _ ∧ _ ∧ _ ∧ _ ∧ _ ∧ _ ∧ (∀ chg : Bool, chg = s.dev.sealChg c → _) ∧ _
  generalize s.dev.copied c rest = e at *
  generalize s.dev.sealChg c = now
  cases now
  · rw [if_neg (by decide)]
    refine ⟨hmbx, hat, hword, hfull, hold, h48, ?_, hsame⟩
    rintro chg rfl
    rw [hchange, h49]
    simp
  · rw [if_pos rfl]
    have hrun : e.runs = true := hruns.trans hr
    refine ⟨(Dev.raise_mbxIn _ _).trans hmbx, (Dev.raise_mbxAt _ _).trans hat, fun i hi => ?_, ?_, ?_, ?_, ?_,
      hsame.trans ((Dev.sameWords_cause _ _ _ _).mono (by simp))⟩
    · rw [Dev.cause_w_ne _ _ _ (by omega), hword i hi]
    · rw [Dev.bit_cause, hfull]
      rfl
    · rw [Dev.bit_cause, hold]
      rfl
    · rw [Dev.cause_ev_ne hrun _ _ (by decide) (by decide), h48]
    · rintro chg rfl
      rw [Dev.bit_cause, hchange, Dev.cause_ev_self hrun _ _ (by decide) (Dev.hasSrc_of_ge _ (by decide)), h49]
      simp

/-! ### Keys (R468) -/

theorem Dev.writeKey_service_free {d : Dev} (v : Word) (hl : d.lcState = 1) (hf : d.fuses.keySvc = false) :
    d.writeKey .service 7 v = ({ d.put 0xFC0F v with
      fuses := { d.fuses with svcKey := (d.put 0xFC0F v).staged 0xFC08, keySvc := true } } : Dev).resetRange 0xFC08 0xFC10 := by
  have hl' : (d.put 0xFC0F v).lcState = 1 := hl
  simp only [Dev.writeKey, Nat.reduceAdd, Dev.put_fuses, hf, hl']
  rfl

theorem Dev.writeKey_service_taken {d : Dev} (v : Word) (hf : d.fuses.keySvc = true) :
    d.writeKey .service 7 v = (d.put 0xFC0F v).resetRange 0xFC08 0xFC10 := by
  simp only [Dev.writeKey, Nat.reduceAdd, Dev.put_fuses, hf]
  simp

theorem Dev.writeKey_image_free {d : Dev} (v : Word) (hl : d.lcState = 1) (hf : d.fuses.keySet = false) :
    d.writeKey .image 7 v = ({ d.put 0xFC17 v with
      fuses := { d.fuses with imageKey := (d.put 0xFC17 v).staged 0xFC10, keySet := true } } : Dev).resetRange 0xFC10 0xFC18 := by
  have hl' : (d.put 0xFC17 v).lcState = 1 := hl
  simp only [Dev.writeKey, Nat.reduceAdd, Dev.put_fuses, hf, hl']
  rfl

/-- The staged words of both keys are 0 at reset. -/
theorem resetWord_key : ∀ i : Fin 8, resetWord (0xFC08 + i.1) = 0 ∧ resetWord (0xFC10 + i.1) = 0 := by decide

theorem Dev.staged_gone (d : Dev) {base : Nat} (hz : ∀ i, i < 8 → resetWord (base + i) = 0) (i : Nat) (h : i < 8) :
    (d.resetRange base (base + 8)).w (base + i) = 0 := by
  rw [Dev.w_resetRange, if_pos (by omega), hz i h]

/-! ### The challenge (R469) -/

theorem Dev.live_chal (d : Dev) : d.live 0xF004 = d.nextChallengeLow := by
  obtain ⟨r, hr, hwo⟩ : ∃ r, regRow 0xF004 = some r ∧ r.mask .wo = 0 := ⟨_, rfl, rfl⟩
  have habs : d.absent 0xF004 = false := rfl
  have hbits : absentBits d 0xF004 = 0 := rfl
  have hlive : d.liveWord 0xF004 = some d.nextChallengeLow := rfl
  simp only [Dev.live, hr, habs, hbits, hlive, hwo]
  exact (congrArg (· &&& BitVec.allOnes 16) BitVec.and_allOnes).trans BitVec.and_allOnes

theorem Dev.fabRead_chal {d : Dev} {k : Master} (h : d.readOk k 0xF004 = true) :
    d.fabRead k 0xF004 = (d.drawChallenge k).putFab k d.nextChallengeLow := by
  have hpeek : d.peek k 0xF004 = d.nextChallengeLow :=
    (Dev.peek_live _ _ (by decide) (by decide) (by decide) (by decide)).trans d.live_chal
  have hrc : rcMask 0xF004 = 0 := by decide
  have heff (v : Word) (l : List (Nat × Word)) : d.readEffect k 0xF004 v l = d.drawChallenge k := by
    simp only [Dev.readEffect, Dev.rcTake, hrc]
    rfl
  show (if !d.readOk k 0xF004 then _ else if 0x800000 ≤ 0xF004 then _ else
    (d.readEffect k 0xF004 (d.peek k 0xF004) _).putFab k (d.peek k 0xF004)) = _
  rw [h, heff, hpeek]
  rfl

theorem exec_challengeDraw (s : State) (k : Master) :
    exec (.challengeDraw k) s = s.onDev (fun d => d.fabRead k 0xF004) := rfl

theorem Dev.drawChallenge_words (d : Dev) (k : Master) :
    (d.drawChallenge k).words = d.words ∧ (d.drawChallenge k).motors = d.motors := ⟨rfl, rfl⟩

/-- A draw latches words 1 to 3 of the challenge. -/
theorem Dev.drawChallenge_latched (d : Dev) (k : Master) :
    let c := Config.challenge d.free
    (d.drawChallenge k).latched k 0xF005 = c.extractLsb' 16 16 ∧ (d.drawChallenge k).latched k 0xF006 = c.extractLsb' 32 16 ∧
      (d.drawChallenge k).latched k 0xF007 = c.extractLsb' 48 16 := by
  have hkey : ∀ {a b : Nat}, a ≠ b → latchKey k a ≠ latchKey k b := fun h e => h (Nat.add_left_cancel e)
  intro c
  refine ⟨?_, ?_, ?_⟩
  · rw [Dev.drawChallenge, Dev.latched_latch, if_neg (hkey (by decide)), Dev.latched_latch, if_neg (hkey (by decide)),
      Dev.latched_latch, if_pos rfl]
  · rw [Dev.drawChallenge, Dev.latched_latch, if_neg (hkey (by decide)), Dev.latched_latch, if_pos rfl]
  · rw [Dev.drawChallenge, Dev.latched_latch, if_pos rfl]

theorem Dev.challengeLapse_eq {d : Dev} {c : BitVec 64} {t : Nat} (hr : d.runs = true) (hc : d.lc.chal = some (c, t))
    (ht : t + 2000000000 ≤ d.cycles) : d.challengeLapse = { d with lc := { d.lc with chal := none } } := by
  have hlive : d.liveChallenge = none := by
    simp only [Dev.liveChallenge, hc]
    exact if_neg (Nat.not_lt.2 ht)
  simp only [Dev.challengeLapse, hr, hc, hlive]
  rfl

/-- Settles O55: the last word of a key by whether it is programmed, a draw by the words it latches, and a lapse. -/
theorem keysAndChallenge : Obligations.KeysAndChallenge := by
  intro s k
  refine ⟨fun v hw => ⟨fun hl hf => ?_, fun hf => ?_⟩, fun v hw hl hf => ?_, fun hread => ?_,
    fun c t hr hc ht => State.onCore_eq hr (Dev.challengeLapse_eq hr hc ht)⟩
  · refine ⟨_, State.write_eq ((s.dev.fabWrite_skey7 k v hw).trans (Dev.writeKey_service_free v hl hf)), rfl, rfl, ?_, rfl⟩
    exact Dev.staged_gone _ (fun i hi => (resetWord_key ⟨i, hi⟩).1)
  · exact ⟨_, State.write_eq ((s.dev.fabWrite_skey7 k v hw).trans (Dev.writeKey_service_taken v hf)), rfl⟩
  · refine ⟨_, State.write_eq ((s.dev.fabWrite_ikey7 k v hw).trans (Dev.writeKey_image_free v hl hf)), rfl, rfl, ?_⟩
    exact Dev.staged_gone _ (fun i hi => (resetWord_key ⟨i, hi⟩).2)
  · obtain ⟨h5, h6, h7⟩ := s.dev.drawChallenge_latched k
    refine ⟨_, Config.challenge s.dev.free, (exec_challengeDraw s k).trans (State.onDev_eq (Dev.fabRead_chal hread)), rfl,
      Dev.putFab_fab_self _ k _, ?_⟩
    exact ⟨h5, h6, h7, Dev.w_of_words (s.dev.drawChallenge_words k).1,
      (s.dev.drawChallenge_words k).2⟩

end Sys2Proof.Machine
end

section
/-! What the operations of the memory port leave alone (R358 to R380): the port itself, the words of its block, the values of
those words in force, the words returned to masters and the count of free values are all that they change. -/

namespace Sys2Proof.Machine

open Sys2Proof

/-- The module without the memory port. -/
def Dev.sansMem (d : Dev) : Dev :=
  { d with words := [], inForce := [], fresh := [], fab := Vector.replicate 7 0, mem := {}, free := 0 }

/-- A word of MEMPORT. -/
def isMemWord (a : Nat) : Prop := 0xD000 ≤ a ∧ a < 0xE000

/-- Nothing but the memory port has changed from d to e. -/
def Dev.MemOnly (d e : Dev) : Prop := e.sansMem = d.sansMem ∧ ∀ a, ¬ isMemWord a → e.w a = d.w a

theorem Dev.MemOnly.refl (d : Dev) : d.MemOnly d := ⟨rfl, fun _ _ => rfl⟩

theorem Dev.MemOnly.trans {c d e : Dev} (h : c.MemOnly d) (h' : d.MemOnly e) : c.MemOnly e :=
  ⟨h'.1.trans h.1, fun a ha => (h'.2 a ha).trans (h.2 a ha)⟩

theorem Dev.MemOnly.ite {c : Prop} [Decidable c] {d x y : Dev} (hx : d.MemOnly x) (hy : d.MemOnly y) :
    d.MemOnly (if c then x else y) := by split <;> assumption

/-! ### What a change of the port alone leaves as it was -/

section

variable {d e : Dev} (h : d.MemOnly e)
include h

theorem Dev.MemOnly.w {a : Nat} (ha : a < 0xD000 ∨ 0xE000 ≤ a) : e.w a = d.w a := h.2 a (fun ⟨h1, h2⟩ => by omega)

theorem Dev.MemOnly.bit {a : Nat} (ha : a < 0xD000 ∨ 0xE000 ≤ a) (i : Nat) : e.bit a i = d.bit a i :=
  Dev.bit_congr (h.w ha) i

theorem Dev.MemOnly.fld {a : Nat} (ha : a < 0xD000 ∨ 0xE000 ≤ a) (hi lo : Nat) : e.fld a hi lo = d.fld a hi lo :=
  Dev.fld_congr (h.w ha) hi lo

theorem Dev.MemOnly.w32 {a : Nat} (ha : a + 1 < 0xD000 ∨ 0xE000 ≤ a) : e.w32 a = d.w32 a := by
  unfold Dev.w32
  rw [h.w (a := a) (by omega), h.w (a := a + 1) (by omega)]

theorem Dev.MemOnly.ev : e.ev = d.ev := (congrArg Dev.ev h.1 :)
theorem Dev.MemOnly.loader : e.loader = d.loader := (congrArg Dev.loader h.1 :)
theorem Dev.MemOnly.motors : e.motors = d.motors := (congrArg Dev.motors h.1 :)
theorem Dev.MemOnly.bridges : e.bridges = d.bridges := (congrArg Dev.bridges h.1 :)
theorem Dev.MemOnly.cycles : e.cycles = d.cycles := (congrArg Dev.cycles h.1 :)
theorem Dev.MemOnly.resetN : e.resetN = d.resetN := (congrArg Dev.resetN h.1 :)
theorem Dev.MemOnly.locked : e.locked = d.locked := (congrArg Dev.locked h.1 :)
theorem Dev.MemOnly.ports : e.ports = d.ports := (congrArg Dev.ports h.1 :)
theorem Dev.MemOnly.mirror : e.mirror = d.mirror := (congrArg Dev.mirror h.1 :)
theorem Dev.MemOnly.latches : e.latches = d.latches := (congrArg Dev.latches h.1 :)

theorem Dev.MemOnly.runs : e.runs = d.runs := by
  unfold Dev.runs
  rw [h.resetN, h.locked]

theorem Dev.MemOnly.cfgPhase : e.cfgPhase = d.cfgPhase := h.fld (by omega) 2 0

theorem Dev.MemOnly.loaderRuns : e.loaderRuns = d.loaderRuns := by
  unfold Dev.loaderRuns
  rw [h.cfgPhase]

end

/-! ### Updates -/

variable (d : Dev)

theorem Dev.memOnly_onMem (f : MemPort → MemPort) : d.MemOnly (d.onMem f) := ⟨rfl, fun _ _ => rfl⟩

theorem Dev.memOnly_put {a : Nat} (v : Word) (ha : isMemWord a) : d.MemOnly (d.put a v) :=
  ⟨rfl, fun _ hb => d.w_put_ne v (fun e => hb (e ▸ ha))⟩

theorem Dev.memOnly_putF {a : Nat} (hi lo v : Nat) (ha : isMemWord a) : d.MemOnly (d.putF a hi lo v) := d.memOnly_put _ ha

theorem Dev.memOnly_putB {a : Nat} (i : Nat) (b : Bool) (ha : isMemWord a) : d.MemOnly (d.putB a i b) := d.memOnly_put _ ha

theorem Dev.memOnly_setB {a : Nat} (i : Nat) (ha : isMemWord a) : d.MemOnly (d.setB a i) := d.memOnly_put (d.w a ||| _) ha

theorem Dev.memOnly_putFab (k : Master) (v : Word) : d.MemOnly (d.putFab k v) := ⟨rfl, fun _ _ => rfl⟩

theorem Dev.memOnly_enforce (lo hi : Nat) : d.MemOnly (d.enforce lo hi) := ⟨rfl, fun _ _ => rfl⟩

theorem Dev.memOnly_nextFree : d.MemOnly d.nextFree := ⟨rfl, fun _ _ => rfl⟩

theorem Dev.memOnly_each {α : Type} (l : List α) (f : Dev → α → Dev) (hf : ∀ (e : Dev) a, e.MemOnly (f e a)) :
    d.MemOnly (d.each l f) :=
  Dev.each_inv (P := d.MemOnly) l d (.refl d) (fun e a h => h.trans (hf e a))

/-! ### The operations of Machine/MemOps.lean -/

theorem Dev.memOnly_memInvalid : d.MemOnly d.memInvalid := d.memOnly_onMem _

theorem Dev.memOnly_memSync : d.MemOnly d.memSync := by
  unfold Dev.memSync
  exact .ite (.refl d) (.ite (d.memOnly_enforce _ _) ((d.memOnly_enforce _ _).trans (Dev.memOnly_memInvalid _)))

theorem Dev.memOnly_exitFirst (window : Bool) : d.MemOnly (d.exitFirst window) := by
  unfold Dev.exitFirst
  exact .ite (d.memOnly_nextFree.trans (Dev.memOnly_onMem _ _)) (d.memOnly_onMem _)

theorem Dev.memOnly_memRelease : d.MemOnly d.memRelease := by
  unfold Dev.memRelease
  exact .ite ((Dev.MemOnly.ite (d.memOnly_exitFirst _) (.refl d)).trans (Dev.memOnly_onMem _ _)) (.refl d)

theorem Dev.memOnly_memIdle : d.MemOnly d.memIdle := by
  unfold Dev.memIdle
  exact (d.memOnly_onMem _).trans (.ite (.refl _) (Dev.memOnly_memRelease _))

theorem Dev.memOnly_winServe : d.MemOnly d.winServe := by
  unfold Dev.winServe
  refine (d.memOnly_onMem _).trans (Dev.memOnly_each _ _ _ (fun e r => ?_))
  exact .ite ((e.memOnly_putFab _ _).trans (Dev.memOnly_onMem _ _)) (e.memOnly_onMem _)

theorem isMemWord_aQ {i off : Nat} (hi : i < 16) (ho : off < 8) : isMemWord (aQ i off) := by
  unfold isMemWord aQ
  omega

theorem Dev.qPos_lt : d.qPos < 16 := Nat.mod_lt _ (by decide)

theorem Dev.memOnly_qDone {i : Nat} (hi : i < 16) (res : Nat) : d.MemOnly (d.qDone i res) :=
  d.memOnly_put _ (isMemWord_aQ hi (by decide))

theorem Dev.memOnly_qOver : d.MemOnly d.qOver := d.memOnly_putB _ _ (by unfold isMemWord; omega)

theorem Dev.qRest_lt {i : Nat} (h : i ∈ d.qRest) : i < 16 := by
  obtain ⟨n, -, rfl⟩ := List.mem_map.1 h
  exact Nat.mod_lt _ (by decide)

theorem Dev.memOnly_eachEntry (l : List Nat) (hl : ∀ i ∈ l, i < 16) (f : Dev → Nat → Dev) (hf : ∀ (e : Dev) i, i < 16 → e.MemOnly (f e i)) :
    d.MemOnly (d.each l f) := by
  unfold Dev.each
  induction l generalizing d with
  | nil => exact .refl d
  | cons i t ih => exact (hf d i (hl i List.mem_cons_self)).trans (ih _ (fun j hj => hl j (List.mem_cons_of_mem _ hj)))

theorem Dev.memOnly_qEnd (res : Nat) : d.MemOnly (d.qEnd res) := by
  unfold Dev.qEnd
  exact .ite ((d.memOnly_eachEntry _ (fun _ => d.qRest_lt) _ (fun e _ hi => e.memOnly_qDone hi res)).trans (Dev.memOnly_qOver _))
    (.refl d)

theorem Dev.memOnly_qSkip (n : Nat) : d.MemOnly (Dev.qSkip n d) := by
  induction n generalizing d with
  | zero => exact .refl d
  | succ n ih =>
    have hdone : d.MemOnly (d.qDone d.qPos 4) := d.memOnly_qDone d.qPos_lt 4
    unfold Dev.qSkip
    refine .ite (.ite (hdone.trans (Dev.memOnly_qOver _)) (hdone.trans ?_)) (.refl d)
    exact (Dev.memOnly_putF _ _ _ _ (by unfold isMemWord; omega)).trans (ih _)

theorem Dev.memOnly_fillBegin (l : BitVec 32) (pre intoB : Bool) : d.MemOnly (d.fillBegin l pre intoB) :=
  (d.memOnly_exitFirst true).trans (Dev.memOnly_onMem _ _)

theorem Dev.memOnly_entryBegin : d.MemOnly d.entryBegin := by
  unfold Dev.entryBegin
  refine (Dev.MemOnly.ite (.refl d) (d.memOnly_exitFirst false)).trans (.ite ?_ (Dev.memOnly_onMem _ _))
  exact (Dev.memOnly_onMem _ _).trans (Dev.memOnly_memInvalid _)

theorem Dev.memOnly_entryAsked : d.MemOnly d.entryAsked := d.memOnly_onMem _

theorem Dev.memOnly_memNext : d.MemOnly d.memNext := by
  have hserve : d.memSync.MemOnly (Dev.qSkip 16 d.memSync).winServe := (Dev.memOnly_qSkip _ 16).trans (Dev.memOnly_winServe _)
  unfold Dev.memNext
  dsimp only
  refine d.memOnly_memSync.trans (.ite (.refl _) (hserve.trans ?_))
  split
  · refine .ite (Dev.memOnly_entryBegin _) ?_
    split
    · exact Dev.memOnly_fillBegin _ _ _ _
    · exact .refl _
  · exact .ite (Dev.memOnly_entryBegin _) (.refl _)

theorem Dev.memOnly_rawTakes : d.MemOnly d.rawTakes := by
  unfold Dev.rawTakes
  exact .ite ((d.memOnly_exitFirst false).trans (Dev.memOnly_onMem _ _)) (.refl d)

theorem Dev.memOnly_loaderReads : d.MemOnly d.loaderReads := by
  unfold Dev.loaderReads
  exact .ite ((d.memOnly_exitFirst false).trans (Dev.memOnly_onMem _ _)) (.refl d)

end Sys2Proof.Machine
end

section
/-! Proofs of the statements on the one-second event, doorbells and pending bits (R403, R442, R446, R448), on the life cycle
(R466, R467, R469, R470), and on CFGCMD (R346, R352, R358). -/

namespace Sys2Proof.Machine

open Sys2Proof

/-! ### The one-second event (R442) -/

/-- A raise of a source that every part has, while ck_core runs, sets its pending bit for every host. -/
theorem Dev.raise_pend {d : Dev} (hr : d.runs = true) {i : Nat} (h : i < 64) (hs : d.hasSrc i = true) (k : HostIx) :
    (d.raise i).pend[k] = d.pend[k] ||| (1#64 <<< i) := by
  simp only [Dev.raise_spec d i h hs (Dev.stands_of_runs hr)]
  simp

theorem Dev.secondTick_due {d : Dev} (hr : d.runs = true) (h0 : 0 < d.cycles) (h1 : d.cycles % 200 = 0)
    (h2 : d.time.toNat % 1000000 = 0) (h3 : d.secAt ≠ d.cycles) :
    d.secondTick = { d.raise 61 with secAt := d.cycles } := by
  unfold Dev.secondTick
  rw [if_pos (by simp [hr, h0, h1, h2, h3])]

theorem Dev.secondTick_idle {d : Dev} (h : d.runs = false ∨ d.cycles = 0 ∨ d.cycles % 200 ≠ 0 ∨ d.time.toNat % 1000000 ≠ 0 ∨
    d.secAt = d.cycles) : d.secondTick = d := by
  unfold Dev.secondTick
  rw [if_neg]
  obtain h | h | h | h | h := h <;> simp [h]

/-! ### Doorbells (R403) -/

/-- One of the two doorbells, where its bit is written. -/
def Dev.ringOne (d : Dev) (k : Master) (v : Word) (i : Nat) : Dev :=
  if bitOf v i then d.cause (0x81 + i) (1#16 <<< k.1) (62 + i) else d

theorem Dev.ring_eq (d : Dev) {k : Master} (hk : k.1 < 5) (v : Word) : d.ring k v = (d.ringOne k v 0).ringOne k v 1 := by
  rw [Dev.ring, if_pos hk]
  rfl

theorem Dev.ringOne_bit_self (d : Dev) {k : Master} (hk : k.1 < 5) (v : Word) (i : Nat) :
    (d.ringOne k v i).bit (0x81 + i) k.1 = (d.bit (0x81 + i) k.1 || bitOf v i) := by
  unfold Dev.ringOne
  cases bitOf v i
  · simp
  · rw [if_pos rfl, Dev.bit_cause]
    have hbit : (1#16 <<< k.1).getLsbD k.1 = true := by simp; omega
    simp [hbit]

theorem Dev.ringOne_w_ne (d : Dev) (k : Master) (v : Word) (i : Nat) {a : Nat} (ha : a ≠ 0x81 + i) :
    (d.ringOne k v i).w a = d.w a := by
  unfold Dev.ringOne
  split
  · exact Dev.cause_w_ne _ _ _ ha
  · rfl

theorem Dev.ringOne_ev_self {d : Dev} (hr : d.runs = true) (k : Master) (v : Word) {i : Nat} (hi : i < 2) :
    (d.ringOne k v i).ev[62 + i].cnt = d.ev[62 + i].cnt + (if bitOf v i then 1 else 0) := by
  unfold Dev.ringOne
  cases bitOf v i
  · simp
  · simp only [if_pos]
    rw [Dev.cause_ev_self hr _ _ (by omega) (d.hasSrc_of_ge (by omega))]

theorem Dev.ringOne_ev_ne {d : Dev} (hr : d.runs = true) (k : Master) (v : Word) {i j : Nat} (hj : j < 64) (hij : j ≠ 62 + i) :
    (d.ringOne k v i).ev[j] = d.ev[j] := by
  unfold Dev.ringOne
  split
  · exact Dev.cause_ev_ne hr _ _ hj hij
  · rfl

theorem Dev.ringOne_keeps (d : Dev) (k : Master) (v : Word) (i : Nat) :
    (d.ringOne k v i).runs = d.runs ∧ (d.ringOne k v i).motors = d.motors := by
  unfold Dev.ringOne
  split
  · exact ⟨Dev.raise_runs _ _, Dev.raise_motors _ _⟩
  · exact ⟨rfl, rfl⟩

/-! ### Pending bits (R446, R448) -/

/-- The bits that a write of PEND clears: those written 1 that are not raised in this cycle. -/
def Dev.clearMask (d : Dev) (q : Nat) (v : Word) : BitVec 64 := (v.setWidth 64 <<< (16 * q)) &&& ~~~d.freshEv

/-- The module with bits of one host's pending word cleared. -/
def Dev.unpend (d : Dev) (h : HostIx) (mask : BitVec 64) : Dev := { d with pend := upd d.pend h (fun p => p &&& ~~~mask) }

theorem Dev.clearPend_eq (d : Dev) (h : HostIx) (q : Nat) (v : Word) : d.clearPend h q v =
    if d.bit (aEvh h 12) 0 && d.irqLocal h &&& d.clearMask q v != 0 && (d.unpend h (d.clearMask q v)).irqCond h then
      (d.unpend h (d.clearMask q v)).onHp h (fun x => { x with rearm := some (d.cycles + 200) })
    else d.unpend h (d.clearMask q v) := rfl

theorem Dev.irqCond_onHp (d : Dev) (k h : HostIx) (f : HostPort → HostPort) : (d.onHp k f).irqCond h = d.irqCond h := rfl

theorem Dev.unpend_pend (d : Dev) (h : HostIx) (mask : BitVec 64) :
    (d.unpend h mask).pend[h] = d.pend[h] &&& ~~~mask ∧ ∀ j : HostIx, j ≠ h → (d.unpend h mask).pend[j] = d.pend[j] :=
  ⟨upd_self d.pend h _, fun j hj => upd_ne d.pend h j _ hj⟩

theorem Dev.rearmOver_due {d : Dev} {h : HostIx} {t : Nat} (hr : d.runs = true) (hp : (d.hp h).rearm = some t)
    (ht : t ≤ d.cycles) : d.rearmOver h = d.onHp h (fun x => { x with rearm := none }) := by
  simp only [Dev.rearmOver, hp, hr, ht]
  rfl

/-- Settles O47: the tick of a second by its conditions, a doorbell by its two bits, a write of PEND by whether it starts the
pulse, and the end of the pulse. -/
theorem eventsAndDoorbells : Obligations.EventsAndDoorbells := by
  intro s
  refine ⟨fun hr h0 h1 h2 h3 => ?_, fun h => s.onCore_same (f := Dev.secondTick) (Dev.secondTick_idle h), fun k v hk hw => ?_,
    fun k h q v hw => ?_, fun h t hr hp ht => State.onCore_eq (f := fun d => d.rearmOver h) hr (Dev.rearmOver_due hr hp ht)⟩
  · have hev := Dev.raise_ev_self (i := 61) hr (by decide) (s.dev.hasSrc_of_ge (by decide))
    refine ⟨_, State.onCore_eq hr (Dev.secondTick_due hr h0 h1 h2 h3), congrArg EvSrc.cnt hev, congrArg EvSrc.ts hev,
      fun k => Dev.raise_pend hr (by decide) (s.dev.hasSrc_of_ge (by decide)) k, rfl, s.dev.raise_w 61, s.dev.raise_motors 61⟩
  · refine ⟨_, State.write_eq ((s.dev.fabWrite_dbring k v hw).trans (s.dev.ring_eq hk v)), ?_⟩
    have hr : s.dev.runs = true := by
      unfold Dev.writeOk at hw
      cases h : s.dev.runs <;> simp [h] at hw ⊢
    obtain ⟨hruns, hmot⟩ := s.dev.ringOne_keeps k v 0
    have h0 := s.dev.ringOne_bit_self hk v 0
    have h1 := (s.dev.ringOne k v 0).ringOne_bit_self hk v 1
    refine ⟨?_, ?_, ?_, ?_, ((s.dev.ringOne k v 0).ringOne_keeps k v 1).2.trans hmot, fun a ha => ?_⟩
    · rw [Dev.bit_congr (Dev.ringOne_w_ne _ _ _ _ (by decide)), h0]
    · rw [h1, Dev.bit_congr (Dev.ringOne_w_ne _ _ _ _ (by decide))]
    · rw [Dev.ringOne_ev_ne (hruns.trans hr) _ _ (by decide) (by decide), Dev.ringOne_ev_self (i := 0) hr _ _ (by decide)]
    · rw [Dev.ringOne_ev_self (i := 1) (hruns.trans hr) _ _ (by decide), Dev.ringOne_ev_ne hr _ _ (by decide) (by decide)]
    · simp only [List.mem_cons, List.not_mem_nil, or_false, not_or] at ha
      rw [Dev.ringOne_w_ne _ _ _ _ ha.2, Dev.ringOne_w_ne _ _ _ _ ha.1]
  · refine ⟨_, State.write_eq ((s.dev.fabWrite_pend k v h q hw).trans (s.dev.clearPend_eq h q.1 v)), ?_⟩
    change _ = s.dev.pend[h] &&& ~~~s.dev.clearMask q.1 v ∧ _ ∧ _ ∧ (_ → s.dev.irqLocal h &&& s.dev.clearMask q.1 v ≠ 0 → _) ∧ _
    obtain ⟨hself, hne⟩ := s.dev.unpend_pend h (s.dev.clearMask q.1 v)
    generalize s.dev.clearMask q.1 v = mask at hself hne ⊢
    have hw' : ∀ a, (s.dev.unpend h mask).w a = s.dev.w a := fun _ => rfl
    split
    case isTrue hstart =>
      refine ⟨hself, hne, .inl ?_, fun _ _ _ => ?_, hw'⟩ <;> rw [Dev.onHp_hp]
    case isFalse hstay =>
      refine ⟨hself, hne, .inr rfl, fun hbit hclr hcond => absurd ?_ hstay, hw'⟩
      exact Bool.and_eq_true_iff.2 ⟨Bool.and_eq_true_iff.2 ⟨hbit, bne_iff_ne.2 hclr⟩, hcond⟩

/-! ### The life cycle (R466, R467, R469, R470) -/

theorem Dev.lcState_congr {d e : Dev} (hf : e.fuses = d.fuses) (hl : e.lc.service = d.lc.service) : e.lcState = d.lcState := by
  unfold Dev.lcState
  rw [hf, hl]

theorem Dev.lcActs_spec (d : Dev) : d.lcActs.lc = d.lc ∧ d.lcActs.fuses = d.fuses ∧ d.lcActs.bit 0xF002 0 = true ∧
    d.SameWords d.lcActs [0xF002] := by
  refine ⟨Dev.raise_lc _ _, Dev.raise_fuses _ _, ?_, d.sameWords_cause _ _ _⟩
  rw [Dev.lcActs, Dev.bit_cause]
  simp

theorem Dev.lcRefused_spec (d : Dev) : d.lcRefused.lc = d.lc ∧ d.lcRefused.fuses = d.fuses ∧ d.lcRefused.bit 0xF002 1 = true ∧
    d.SameWords d.lcRefused [0xF002] := by
  refine ⟨Dev.raise_lc _ _, Dev.raise_fuses _ _, ?_, d.sameWords_cause _ _ _⟩
  rw [Dev.lcRefused, Dev.bit_cause]
  simp

theorem Dev.blow_spec (d : Dev) (n : Nat) : (d.blow n).lc.fuse = some n ∧ (d.blow n).bit 0xF002 0 = true ∧
    (d.blow n).fuses = d.fuses ∧ d.SameWords (d.blow n) [0xF002] := by
  obtain ⟨hlc, hfuses, hbit, hsame⟩ := ({ d with lc := { d.lc with fuse := some n } } : Dev).lcActs_spec
  exact ⟨congrArg LifeCycle.fuse hlc, hbit, hfuses, hsame⟩

section

variable {d : Dev} (h : d.lc.fuse = none)
include h

theorem Dev.writeLccmd_manufacture : d.writeLccmd 0x4D46 = d.toManufacture := by
  rw [Dev.writeLccmd, h]
  rfl

theorem Dev.writeLccmd_field : d.writeLccmd 0x4644 = d.toField := by
  rw [Dev.writeLccmd, h]
  rfl

theorem Dev.writeLccmd_service : d.writeLccmd 0x5356 = d.toService := by
  rw [Dev.writeLccmd, h]
  rfl

theorem Dev.writeLccmd_return : d.writeLccmd 0x5254 = d.toReturn := by
  rw [Dev.writeLccmd, h]
  rfl

end

theorem Dev.writeLccmd_busy {d : Dev} (h : d.lc.fuse.isSome = true) (v : Word) : d.writeLccmd v = d := if_pos h

/-- The command of FIELD where neither of its two conditions holds. -/
theorem Dev.toField_refused {d : Dev} (h3 : d.lcState ≠ 3)
    (h1 : ¬ (d.lcState = 1 ∧ d.fuses.keySvc = true ∧ d.bit 0xC000 10 = true)) : d.toField = d.lcRefused := by
  unfold Dev.toField
  split
  next hl => rw [if_neg (fun hk => h1 ⟨hl, (Bool.and_eq_true_iff.1 hk).1, (Bool.and_eq_true_iff.1 hk).2⟩)]
  next hl => exact absurd hl h3
  next => rfl

theorem Dev.toField_manufacture {d : Dev} (h1 : d.lcState = 1) (hk : d.fuses.keySvc = true) (hu : d.bit 0xC000 10 = true) :
    d.toField = d.blow 2 := by
  unfold Dev.toField
  rw [h1, hk, hu]
  rfl

theorem Dev.toField_service {d : Dev} (h3 : d.lcState = 3) :
    d.toField = ({ d with lc := { d.lc with service := false } } : Dev).lcActs := by
  unfold Dev.toField
  rw [h3]
  rfl

/-- In SERVICE and in FIELD the fuses MFG and FLD have blown, and RET has not. -/
theorem Dev.fuses_of_lcState {d : Dev} (h : d.lcState = 2 ∨ d.lcState = 3) :
    d.fuses.mfg = true ∧ d.fuses.fld = true ∧ d.fuses.ret = false := by
  unfold Dev.lcState at h
  cases hm : d.fuses.mfg <;> cases hf : d.fuses.fld <;> cases hr : d.fuses.ret <;> simp [hm, hf, hr] at h ⊢

theorem Dev.lcState_of_fuses {d : Dev} (hm : d.fuses.mfg = true) (hf : d.fuses.fld = true) (hr : d.fuses.ret = false) :
    d.lcState = if d.lc.service then 3 else 2 := by
  unfold Dev.lcState
  rw [hm, hf, hr]
  rfl

/-- The module without a challenge. -/
def Dev.noChallenge (d : Dev) : Dev := { d with lc := { d.lc with chal := none } }

theorem Dev.toService_refused {d : Dev} (h : d.lcState ≠ 2 ∨ d.bit 0xF000 14 = true) : d.toService = d.lcRefused := by
  unfold Dev.toService
  rw [if_pos (by obtain h | h := h <;> simp [h])]

theorem Dev.toService_right {d : Dev} (h2 : d.lcState = 2) (hl : d.bit 0xF000 14 = false) (ha : d.authOk = true) :
    d.toService = ({ d.noChallenge with lc := { d.noChallenge.lc with service := true } } : Dev).lcActs := by
  unfold Dev.toService
  rw [if_neg (by simp [h2, hl]), ha]
  rfl

theorem Dev.toService_wrong {d : Dev} (h2 : d.lcState = 2) (hl : d.bit 0xF000 14 = false) (ha : d.authOk = false) :
    d.toService = d.noChallenge.authFails := by
  unfold Dev.toService
  rw [if_neg (by simp [h2, hl]), ha]
  rfl

/-- The module after the n-th failed attempt, before the refusal. -/
def Dev.countAttempt (d : Dev) (n : Nat) : Dev :=
  ((d.putF 0xF000 5 4 n).cause 0xF002 4 59).when (n = 3) (fun d => d.putB 0xF000 14 true)

theorem Dev.authFails_eq (d : Dev) : d.authFails = (d.countAttempt (min 3 (d.fld 0xF000 5 4 + 1))).lcRefused := rfl

theorem Dev.countAttempt_spec (d : Dev) {n : Nat} (hn : n < 4) :
    (d.countAttempt n).lc = d.lc ∧ (d.countAttempt n).fuses = d.fuses ∧ (d.countAttempt n).bit 0xF002 2 = true ∧
    (d.countAttempt n).fld 0xF000 5 4 = n ∧ (n = 3 → (d.countAttempt n).bit 0xF000 14 = true) ∧
    d.SameWords (d.countAttempt n) [0xF000, 0xF002] := by
  have hfails : ((d.putF 0xF000 5 4 n).cause 0xF002 4 59).fld 0xF000 5 4 = n := by
    rw [Dev.fld_congr (Dev.cause_w_ne _ _ _ (by decide)), Dev.fld_putF_self _ _ _ _ _ (by decide) (by decide)]
    exact Nat.mod_eq_of_lt hn
  have hauth : ((d.putF 0xF000 5 4 n).cause 0xF002 4 59).bit 0xF002 2 = true := by
    rw [Dev.bit_cause]
    simp
  have hkeep : d.SameWords ((d.putF 0xF000 5 4 n).cause 0xF002 4 59) [0xF000, 0xF002] :=
    (d.sameWords_put _ (by simp)).trans ((Dev.sameWords_cause _ _ _ _).mono (by simp))
  have hlc : ((d.putF 0xF000 5 4 n).cause 0xF002 4 59).lc = d.lc := Dev.raise_lc _ _
  have hfuses : ((d.putF 0xF000 5 4 n).cause 0xF002 4 59).fuses = d.fuses := Dev.raise_fuses _ _
  unfold Dev.countAttempt Dev.when
  generalize (d.putF 0xF000 5 4 n).cause 0xF002 4 59 = e at *
  split
  case isTrue h3 =>
    refine ⟨(e.putB_lc _ _ _).trans hlc, (e.putB_fuses _ _ _).trans hfuses, ?_, ?_, fun _ => Dev.bit_putB_self _ _ _ _ (by decide), hkeep.trans (e.sameWords_put _ (by simp))⟩
    · rw [Dev.bit_putB _ _ _ _ _ _ (by decide) (by decide), hauth, ite_self]
    · rw [Dev.fld, Dev.w_putB, if_pos rfl, withBit,
        bits_withBits_ne _ _ _ _ _ _ (by decide) (by decide) (by decide) (by decide)]
      exact hfails
  case isFalse h3 => exact ⟨hlc, hfuses, hauth, hfails, fun h => absurd h (by simpa using h3), hkeep⟩

/-- A failed attempt counts in FAILS, locks out at the third, and sets AUTHF (R469). -/
theorem Dev.authFails_spec (d : Dev) : d.authFails.lc = d.lc ∧ d.authFails.fuses = d.fuses ∧ d.authFails.bit 0xF002 2 = true ∧
    d.authFails.fld 0xF000 5 4 = min 3 (d.fld 0xF000 5 4 + 1) ∧ (d.fld 0xF000 5 4 = 2 → d.authFails.bit 0xF000 14 = true) ∧
    d.SameWords d.authFails [0xF000, 0xF002] := by
  rw [Dev.authFails_eq]
  obtain ⟨hlc, hfuses, hauth, hfails, hlock, hkeep⟩ := d.countAttempt_spec (n := min 3 (d.fld 0xF000 5 4 + 1)) (by omega)
  generalize d.countAttempt (min 3 (d.fld 0xF000 5 4 + 1)) = e at *
  obtain ⟨hlc', hfuses', -, hsame⟩ := e.lcRefused_spec
  refine ⟨hlc'.trans hlc, hfuses'.trans hfuses, ?_, ?_, fun h => ?_, hkeep.trans (hsame.mono (by simp))⟩
  · rw [Dev.lcRefused, Dev.bit_cause, hauth]
    rfl
  · rw [Dev.fld_congr (hsame _ (by decide)), hfails]
  · rw [Dev.bit_congr (hsame _ (by decide)), hlock (by omega)]

theorem Dev.toReturn_refused {d : Dev} (h : ¬ (d.lcState = 3 ∧ d.gatesOff = true ∧ d.allIdle = true)) :
    d.toReturn = d.lcRefused := by
  unfold Dev.toReturn
  rw [if_neg]
  rintro hc
  simp only [Bool.and_eq_true, decide_eq_true_eq] at hc
  exact h ⟨hc.1.1, hc.1.2, hc.2⟩

theorem Dev.toReturn_acts {d : Dev} (h3 : d.lcState = 3) (hg : d.gatesOff = true) (hi : d.allIdle = true) :
    d.toReturn = d.blow 3 := by
  unfold Dev.toReturn
  rw [h3, hg, hi]
  rfl

theorem Dev.eraseDone_erasing {d : Dev} (hr : d.runs = true) (h : d.lc.erasing = true) : d.eraseDone = d.erase := by
  unfold Dev.eraseDone
  rw [hr, h]
  rfl

/-- The erasure leaves no record, no log, and the pointer and SESSION at 0. -/
theorem Dev.erase_spec (d : Dev) : d.erase.store = [] ∧ d.erase.devLog = {} ∧ d.erase.fuses.erased = true ∧
    d.erase.lc.erasing = false ∧ d.erase.w 0x52 = 0 ∧ d.erase.wptr = 0 ∧ d.erase.motors = d.motors := by
  have hlow : d.erase.w 0xB486 = 0 := by
    rw [Dev.erase, Dev.w_put_ne _ _ (by decide), Dev.w_put_ne _ _ (by decide), Dev.w_resetRange, if_pos (by decide)]
    rfl
  have hhigh : d.erase.w 0xB487 = 0 := by
    rw [Dev.erase, Dev.w_put_ne _ _ (by decide), Dev.w_put_ne _ _ (by decide), Dev.w_resetRange, if_pos (by decide)]
    rfl
  refine ⟨rfl, rfl, rfl, rfl, Dev.w_put_self _ _ _, ?_, rfl⟩
  rw [Dev.wptr, Dev.w32, hlow, hhigh]
  rfl

/-- A command that is refused. -/
theorem State.lc_refused {s : State} {k : Master} {v : Word} (hw : s.dev.writeOk k 0xF001 = true)
    (h : s.dev.writeLccmd v = s.dev.lcRefused) : ∃ d, s.write k 0xF001 v = .next { s with dev := d } ∧ d.lc = s.dev.lc ∧
      d.bit 0xF002 1 = true ∧ d.fuses = s.dev.fuses ∧ s.dev.SameWords d [0xF002] := by
  obtain ⟨hlc, hfuses, hbit, hsame⟩ := s.dev.lcRefused_spec
  exact ⟨_, State.write_eq ((s.dev.fabWrite_lccmd k v hw).trans h), hlc, hbit, hfuses, hsame⟩

/-- A command that starts a fuse. -/
theorem State.lc_blow {s : State} {k : Master} {v : Word} {n : Nat} (hw : s.dev.writeOk k 0xF001 = true)
    (h : s.dev.writeLccmd v = s.dev.blow n) : ∃ d, s.write k 0xF001 v = .next { s with dev := d } ∧ d.lc.fuse = some n ∧
      d.bit 0xF002 0 = true ∧ d.fuses = s.dev.fuses ∧ s.dev.SameWords d [0xF002] := by
  obtain ⟨hfuse, hbit, hfuses, hsame⟩ := s.dev.blow_spec n
  exact ⟨_, State.write_eq ((s.dev.fabWrite_lccmd k v hw).trans h), hfuse, hbit, hfuses, hsame⟩

/-- A write of LCCMD while a fuse is programmed. -/
theorem State.lc_busy {s : State} (k : Master) (v : Word) (h : s.dev.lc.fuse.isSome = true) : s.write k 0xF001 v = .next s := by
  cases hw : s.dev.writeOk k 0xF001
  · exact s.write_refused k _ v hw
  · exact State.write_eq ((s.dev.fabWrite_lccmd k v hw).trans (Dev.writeLccmd_busy h v))

/-- The entry into SERVICE from FIELD. -/
theorem State.lc_service {s : State} {k : Master} (hw : s.dev.writeOk k 0xF001 = true) (hf : s.dev.lc.fuse = none)
    (h2 : s.dev.lcState = 2) (hl : s.dev.bit 0xF000 14 = false) :
    (s.dev.authOk = true → ∃ d, exec (.lcService k) s = .next { s with dev := d } ∧ d.lcState = 3 ∧ d.lc.chal = none ∧
      d.bit 0xF002 0 = true ∧ s.dev.SameWords d [0xF002]) ∧
    (s.dev.authOk = false → ∃ d, exec (.lcService k) s = .next { s with dev := d } ∧ d.lcState = 2 ∧ d.lc.chal = none ∧
      d.bit 0xF002 2 = true ∧ d.fld 0xF000 5 4 = min 3 (s.dev.fld 0xF000 5 4 + 1) ∧
      (s.dev.fld 0xF000 5 4 = 2 → d.bit 0xF000 14 = true) ∧ s.dev.SameWords d [0xF000, 0xF002]) := by
  obtain ⟨hm, hfld, hret⟩ := Dev.fuses_of_lcState (.inl h2)
  have hexec {d : Dev} (h : s.dev.toService = d) : exec (.lcService k) s = .next { s with dev := d } :=
    State.write_eq ((s.dev.fabWrite_lccmd k _ hw).trans ((Dev.writeLccmd_service hf).trans h))
  refine ⟨fun ha => ⟨_, hexec (Dev.toService_right h2 hl ha), ?_⟩, fun ha => ⟨_, hexec (Dev.toService_wrong h2 hl ha), ?_⟩⟩
  · obtain ⟨hlc, hfuses, hbit, hsame⟩ :=
      ({ s.dev.noChallenge with lc := { s.dev.noChallenge.lc with service := true } } : Dev).lcActs_spec
    refine ⟨?_, congrArg LifeCycle.chal hlc, hbit, hsame⟩
    rw [Dev.lcState_congr hfuses (congrArg LifeCycle.service hlc)]
    exact Dev.lcState_of_fuses hm hfld hret
  · obtain ⟨hlc, hfuses, hbit, hfails, hlock, hsame⟩ := s.dev.noChallenge.authFails_spec
    refine ⟨?_, congrArg LifeCycle.chal hlc, hbit, hfails, hlock, hsame⟩
    rw [Dev.lcState_congr hfuses (congrArg LifeCycle.service hlc)]
    exact h2

/-- Settles O54: each command by what its word makes of the state, the end of a fuse by its number, and the erasure. -/
theorem lifeCycle : Obligations.LifeCycle := by
  intro s k
  refine ⟨fun hw hf => ⟨fun h0 => ?_, fun h0 => ?_, fun h3 h1 => ?_, fun h => ?_, fun h => ?_, fun h1 hk hu => ?_, fun h3 => ?_,
    fun h2 hl => State.lc_service hw hf h2 hl, fun h3 hg hi => ?_⟩, fun hf c hc => ?_,
    fun hr => ⟨fun hf => ?_, fun hf => ?_, fun hf => ?_, fun he => ?_⟩⟩
  · exact State.lc_blow hw ((Dev.writeLccmd_manufacture hf).trans (if_pos h0))
  · exact State.lc_refused hw ((Dev.writeLccmd_manufacture hf).trans (if_neg h0))
  · exact State.lc_refused hw ((Dev.writeLccmd_field hf).trans (Dev.toField_refused h3 h1))
  · exact State.lc_refused hw ((Dev.writeLccmd_service hf).trans (Dev.toService_refused h))
  · exact State.lc_refused hw ((Dev.writeLccmd_return hf).trans (Dev.toReturn_refused h))
  · exact State.lc_blow hw ((Dev.writeLccmd_field hf).trans (Dev.toField_manufacture h1 hk hu))
  · obtain ⟨hm, hfld, hret⟩ := Dev.fuses_of_lcState (.inr h3)
    obtain ⟨hlc, hfuses, hbit, hsame⟩ := ({ s.dev with lc := { s.dev.lc with service := false } } : Dev).lcActs_spec
    refine ⟨_, State.write_eq ((s.dev.fabWrite_lccmd k _ hw).trans ((Dev.writeLccmd_field hf).trans (Dev.toField_service h3))),
      congrArg LifeCycle.service hlc, ?_, hbit, hsame⟩
    rw [Dev.lcState_congr hfuses (congrArg LifeCycle.service hlc)]
    exact Dev.lcState_of_fuses hm hfld hret
  · exact State.lc_blow hw ((Dev.writeLccmd_return hf).trans (Dev.toReturn_acts h3 hg hi))
  · simp only [List.mem_cons, List.not_mem_nil, or_false] at hc
    obtain rfl | rfl | rfl | rfl := hc <;> exact State.lc_busy k _ hf
  · refine ⟨_, State.onCore_eq (f := Dev.fuseDone) hr rfl, ?_⟩
    simp only [Dev.fuseDone, hf]
    exact ⟨trivial, trivial, trivial⟩
  · refine ⟨_, State.onCore_eq (f := Dev.fuseDone) hr rfl, ?_⟩
    simp only [Dev.fuseDone, hf]
    exact ⟨trivial, trivial, trivial⟩
  · refine ⟨_, State.onCore_eq (f := Dev.fuseDone) hr rfl, ?_⟩
    simp only [Dev.fuseDone, hf]
    exact ⟨trivial, trivial, trivial, trivial⟩
  · exact ⟨_, State.onDev_eq (f := Dev.eraseDone) (Dev.eraseDone_erasing hr he), s.dev.erase_spec⟩

/-! ### CFGCMD (R346, R352, R358) -/

theorem bits_eq_extract (w : Word) (hi lo : Nat) : bits w hi lo = (w.extractLsb' lo (hi + 1 - lo)).toNat := by
  rw [BitVec.extractLsb'_toNat]
  rfl

theorem Dev.writeCfgcmd_open {d : Dev} (hp : d.cfgPhase = 5 ∨ d.cfgPhase = 6) (hl : d.bit 0x40 14 = false) (v : Word) :
    d.writeCfgcmd v = if bitOf v 1 then d.cfgReload else if bitOf v 0 then d.cfgDone else d := by
  unfold Dev.writeCfgcmd
  rw [if_pos (by obtain h | h := hp <;> simp [h, hl])]

/-- The loads of KISS change words of the engines alone. -/
theorem Dev.each_loadKiss (l : List MotorIx) (d : Dev) : ∃ ws, d.each l Dev.loadKiss = { d with words := ws } ∧
    ∀ a, a < 0x2000 → (d.each l Dev.loadKiss).w a = d.w a := by
  refine Dev.each_inv (P := fun e => ∃ ws, e = { d with words := ws } ∧ ∀ a, a < 0x2000 → e.w a = d.w a) l d
    ⟨d.words, rfl, fun _ _ => rfl⟩ ?_
  rintro e m ⟨ws, rfl, hw⟩
  refine ⟨_, rfl, fun a ha => ?_⟩
  have hm : a ≠ aMot m 0x159 + 1 ∧ a ≠ aMot m 0x159 := by unfold aMot; omega
  rw [Dev.loadKiss, Dev.w_put32, if_neg hm.1, if_neg hm.2, hw a ha]

theorem Dev.syncRr_motors (d : Dev) : d.syncRr.motors = d.motors := by
  refine Dev.each_inv (P := fun e => e.motors = d.motors) _ d rfl (fun e g he => ?_)
  have hset (x : Dev) (on : Bool) : (x.setRr g on).motors = x.motors := by
    unfold Dev.setRr
    split <;> simp
  rw [apply_ite Dev.motors, apply_ite Dev.motors, apply_ite Dev.motors, hset, hset]
  simp [Dev.setRrClr, he]

/-- CFGSTAT at completion. -/
def Dev.cfgstatDone (d : Dev) (src : Nat) (slot macOk : Bool) : Word :=
  withBits (((d.w 0x40 &&& 0x09F8) ||| 0xC000) ||| word (src * 0x1000 + slot.toNat * 0x400 + macOk.toNat * 0x200)) 2 0 4

/-- The module at completion, before the loads of KISS. -/
def Dev.completing (d : Dev) (src : Nat) (slot macOk : Bool) : Dev :=
  { (d.put 0x40 (d.cfgstatDone src slot macOk)).stampTime 0x45 with
    cplFrom := d.cycles + 1
    loader := { d.loader with step := 5, m5 := false, defer := [] }
    mirror := { d.mirror with presEver := d.mirror.pres, alone := false, downAt := d.cycles } }

theorem Dev.completing_spec (d : Dev) (src : Nat) (slot macOk : Bool) :
    (d.completing src slot macOk).w 0x40 = d.cfgstatDone src slot macOk ∧ (d.completing src slot macOk).w32 0x45 = d.time ∧
    (d.completing src slot macOk).ev = d.ev ∧
    (d.completing src slot macOk).loader = { d.loader with step := 5, m5 := false, defer := [] } ∧
    (d.completing src slot macOk).motors = d.motors ∧ (d.completing src slot macOk).runs = d.runs := by
  have htime : (d.put 0x40 (d.cfgstatDone src slot macOk)).time = d.time := rfl
  have hev := (d.put 0x40 (d.cfgstatDone src slot macOk)).stampTime_ev 0x45
  have hmot := (d.put 0x40 (d.cfgstatDone src slot macOk)).stampTime_motors 0x45
  have hruns := (d.put 0x40 (d.cfgstatDone src slot macOk)).stampTime_runs 0x45
  rw [Dev.put_ev] at hev
  rw [Dev.put_motors] at hmot
  rw [Dev.put_runs] at hruns
  have hstat : ((d.put 0x40 (d.cfgstatDone src slot macOk)).stampTime 0x45).w 0x40 = d.cfgstatDone src slot macOk := by
    rw [Dev.stampTime, Dev.w_put32, if_neg (by decide), if_neg (by decide), Dev.w_put_self]
  have hstamp : ((d.put 0x40 (d.cfgstatDone src slot macOk)).stampTime 0x45).w32 0x45 = d.time := by
    rw [Dev.stampTime, Dev.w32_put32, htime]
  unfold Dev.completing
  generalize (d.put 0x40 (d.cfgstatDone src slot macOk)).stampTime 0x45 = e at *
  exact ⟨hstat, hstamp, hev, rfl, hmot, hruns⟩

/-- Completion, once its KISS loads are done: the event, re-rating and the memory port. -/
def Dev.completeEnd (d : Dev) : Dev := (d.raise 55).syncRr.memRelease.memNext

theorem Dev.complete_eq (d : Dev) (src : Nat) (slot macOk : Bool) : d.complete src slot macOk =
    ((d.completing src slot macOk).each ((List.finRange 16).filter (d.completing src slot macOk).hasMot) Dev.loadKiss).completeEnd :=
  rfl

theorem Dev.completeEnd_spec {d : Dev} (hr : d.runs = true) : d.completeEnd.w 0x40 = d.w 0x40 ∧
    d.completeEnd.w32 0x45 = d.w32 0x45 ∧ d.completeEnd.ev[55].cnt = d.ev[55].cnt + 1 ∧ d.completeEnd.loader = d.loader ∧
    d.completeEnd.motors = d.motors := by
  have hmem : (d.raise 55).syncRr.MemOnly d.completeEnd := (Dev.memOnly_memRelease _).trans (Dev.memOnly_memNext _)
  have hsys := Dev.sys_syncRr (d.raise 55)
  have hw (a : Nat) (ha : isSys a = true) (hlt : a < 0xD000) : d.completeEnd.w a = d.w a := by
    rw [hmem.w (.inl hlt), Dev.sys_w hsys a ha, Dev.raise_w]
  have hev := Dev.sys_ev hsys 55 (by decide)
  refine ⟨hw _ (by decide) (by decide), ?_, ?_, ?_, ?_⟩
  · rw [Dev.w32, hw _ (by decide) (by decide), hw _ (by decide) (by decide)]
    rfl
  · rw [hmem.ev]
    exact (congrArg EvSrc.cnt hev).trans (congrArg EvSrc.cnt (Dev.raise_ev_self hr (by decide) (d.hasSrc_of_ge (by decide))))
  · rw [hmem.loader]
    exact (congrArg SysView.loader hsys).trans (Dev.raise_loader _ _)
  · rw [hmem.motors, Dev.syncRr_motors, Dev.raise_motors]

/-- What completion leaves (R349, R352). -/
theorem Dev.complete_spec {d : Dev} (hr : d.runs = true) (src : Nat) (slot macOk : Bool) :
    (d.complete src slot macOk).w 0x40 = d.cfgstatDone src slot macOk ∧ (d.complete src slot macOk).w32 0x45 = d.time ∧
    (d.complete src slot macOk).ev[55].cnt = d.ev[55].cnt + 1 ∧
    (d.complete src slot macOk).loader = { d.loader with step := 5, m5 := false, defer := [] } ∧
    (d.complete src slot macOk).motors = d.motors := by
  rw [Dev.complete_eq]
  obtain ⟨hstat, htime, hev, hloader, hmot, hruns⟩ := d.completing_spec src slot macOk
  generalize d.completing src slot macOk = e at *
  obtain ⟨ws, heach, hwords⟩ := Dev.each_loadKiss ((List.finRange 16).filter e.hasMot) e
  generalize e.each ((List.finRange 16).filter e.hasMot) Dev.loadKiss = e' at *
  have hrun : e'.runs = true := by rw [heach]; exact hruns.trans hr
  obtain ⟨hstat', htime', hev', hloader', hmot'⟩ := Dev.completeEnd_spec hrun
  refine ⟨?_, ?_, ?_, ?_, ?_⟩
  · rw [hstat', hwords _ (by decide), hstat]
  · rw [htime', Dev.w32, hwords _ (by decide), hwords _ (by decide)]
    exact htime
  · rw [hev', heach, hev]
  · rw [hloader', heach, hloader]
  · rw [hmot', heach, hmot]

/-- CFGSTAT at completion by DONE: READY and LOCK set, SRC 2 and PHASE 4. -/
theorem Dev.cfgstatDone_host (d : Dev) (slot : Bool) :
    bitOf (d.cfgstatDone 2 slot false) 15 = true ∧ bitOf (d.cfgstatDone 2 slot false) 14 = true ∧
    bits (d.cfgstatDone 2 slot false) 13 12 = 2 ∧ bits (d.cfgstatDone 2 slot false) 2 0 = 4 := by
  unfold Dev.cfgstatDone
  rw [bitOf_withBits _ _ _ _ _ (by decide) (by decide) (by decide), bitOf_withBits _ _ _ _ _ (by decide) (by decide) (by decide),
    bits_withBits_ne _ _ _ _ _ _ (by decide) (by decide) (by decide) (by decide), bits_withBits _ _ _ _ (by decide) (by decide),
    bits_eq_extract]
  refine ⟨by simp [bitOf], by simp [bitOf], ?_, rfl⟩
  rw [BitVec.extractLsb'_or, BitVec.extractLsb'_or, BitVec.extractLsb'_and]
  cases slot <;> simp [word]

/-- One group's RUN becomes 0. -/
def Dev.clearRun (d : Dev) (g : GroupIx) : Dev := (d.putB (aGrp g 1) 0 false).seqStopped g

theorem Dev.seqStopped_keeps (d : Dev) (p : GroupIx) : (d.seqStopped p).words = d.words ∧ (d.seqStopped p).ev = d.ev ∧
    (d.seqStopped p).motors = d.motors := by
  unfold Dev.seqStopped
  split <;> exact ⟨rfl, rfl, rfl⟩

theorem Dev.clearRun_w (d : Dev) (g : GroupIx) (a : Nat) :
    (d.clearRun g).w a = if a = aGrp g 1 then withBit (d.w a) 0 false else d.w a := by
  rw [Dev.clearRun, Dev.w_of_words (Dev.seqStopped_keeps _ g).1, Dev.w_putB]
  split
  next h => rw [h]
  next => rfl

theorem Dev.clearRuns_bit (l : List GroupIx) (d : Dev) (g : GroupIx) (h : g ∈ l ∨ d.bit (aGrp g 1) 0 = false) :
    (d.each l Dev.clearRun).bit (aGrp g 1) 0 = false := by
  unfold Dev.each
  induction l generalizing d with
  | nil => exact h.resolve_left (by simp)
  | cons j t ih =>
    refine ih (d.clearRun j) ?_
    by_cases hj : g = j
    · subst hj
      refine .inr ?_
      rw [Dev.bit, Dev.clearRun_w, if_pos rfl, bitOf_withBit _ _ _ _ (by decide) (by decide), if_pos rfl]
    · refine h.imp (fun hm => (List.mem_cons.1 hm).resolve_left hj) (fun hb => ?_)
      have hne : aGrp g 1 ≠ aGrp j 1 := fun e => hj (Fin.ext (by unfold aGrp at e; omega))
      rw [Dev.bit, Dev.clearRun_w, if_neg hne]
      exact hb

theorem Dev.clearRuns_keeps (l : List GroupIx) (d : Dev) : (d.each l Dev.clearRun).w 0x40 = d.w 0x40 ∧
    (d.each l Dev.clearRun).ev = d.ev ∧ (d.each l Dev.clearRun).motors = d.motors := by
  refine Dev.each_inv (P := fun e => e.w 0x40 = d.w 0x40 ∧ e.ev = d.ev ∧ e.motors = d.motors) l d ⟨rfl, rfl, rfl⟩ ?_
  rintro e g ⟨hw, hev, hmot⟩
  obtain ⟨-, hev', hmot'⟩ := (e.putB (aGrp g 1) 0 false).seqStopped_keeps g
  have hne : 0x40 ≠ aGrp g 1 := by unfold aGrp; omega
  rw [Dev.clearRun_w, if_neg hne]
  exact ⟨hw, hev'.trans ((e.putB_ev _ _ _).trans hev), hmot'.trans ((e.putB_motors _ _ _).trans hmot)⟩

/-- What RELOAD leaves (R352). -/
theorem Dev.cfgReload_spec (d : Dev) : d.cfgReload.cfgPhase = 1 ∧ d.cfgReload.loader.step = 4 ∧
    (∀ g, d.cfgReload.bit (aGrp g 1) 0 = false) ∧ d.cfgReload.bit 0x40 15 = d.bit 0x40 15 ∧ d.cfgReload.ev = d.ev ∧
    d.cfgReload.motors = d.motors := by
  obtain ⟨hw, hev, hmot⟩ := Dev.clearRuns_keeps (List.finRange 4) d
  have hrun := fun g => Dev.clearRuns_bit (List.finRange 4) d g (.inl (List.mem_finRange g))
  have hmem := Dev.memOnly_loaderReads ({ (d.each (List.finRange 4) Dev.clearRun).putF 0x40 2 0 1 with
    loader := { step := 4, m5 := (d.each (List.finRange 4) Dev.clearRun).loader.m5 } } : Dev)
  change Dev.MemOnly _ d.cfgReload at hmem
  generalize d.each (List.finRange 4) Dev.clearRun = e at hw hev hmot hrun hmem
  refine ⟨?_, ?_, fun g => ?_, ?_, ?_, ?_⟩
  · rw [hmem.cfgPhase]
    exact e.fld_putF_self 0x40 2 0 1 (by decide) (by decide)
  · rw [hmem.loader]
  · have hlt : aGrp g 1 < 0xD000 ∧ aGrp g 1 ≠ 0x40 := by unfold aGrp; omega
    rw [hmem.bit (.inl hlt.1)]
    exact (Dev.bit_congr (e.w_put_ne _ hlt.2) 0).trans (hrun g)
  · rw [hmem.bit (.inl (by decide))]
    show bitOf ((e.putF 0x40 2 0 1).w 0x40) 15 = _
    rw [Dev.w_putF, if_pos rfl, bitOf_withBits _ _ _ _ _ (by decide) (by decide) (by decide), if_neg (by decide), hw]
    rfl
  · rw [hmem.ev]
    exact (e.putF_ev 0x40 2 0 1).trans hev
  · rw [hmem.motors]
    exact (e.putF_motors 0x40 2 0 1).trans hmot

/-- Settles O21: DONE by what completion leaves, RELOAD by what the way back to step 4 leaves. -/
theorem configurationCommands : Obligations.ConfigurationCommands := by
  intro s k hw hp hl
  have hr : s.dev.runs = true := by
    unfold Dev.writeOk at hw
    cases h : s.dev.runs <;> simp [h] at hw ⊢
  refine ⟨?_, fun done => ?_⟩
  · obtain ⟨hstat, htime, hev, hloader, hmot⟩ := Dev.complete_spec hr 2 (s.dev.bit 0x40 10) false
    obtain ⟨hready, hlock, hsrc, hphase⟩ := s.dev.cfgstatDone_host (s.dev.bit 0x40 10)
    have hbrg := Dev.complete_bridges s.dev 2 (s.dev.bit 0x40 10) false
    have hdone : s.dev.writeCfgcmd 1 = s.dev.complete 2 (s.dev.bit 0x40 10) false := Dev.writeCfgcmd_open hp hl 1
    refine ⟨_, State.write_eq ((s.dev.fabWrite_cfgcmd k 1 hw).trans hdone), ?_⟩
    generalize s.dev.complete 2 (s.dev.bit 0x40 10) false = e at *
    rw [Dev.cfgPhase, Dev.fld, Dev.fld, Dev.bit, Dev.bit, hstat]
    exact ⟨hready, hlock, hsrc, hphase, htime, hev, congrArg Loader.m5 hloader, hmot, hbrg⟩
  · have hv : bitOf (if done then 3 else 2 : Word) 1 = true := by cases done <;> rfl
    have hreload : s.dev.writeCfgcmd (if done then 3 else 2) = s.dev.cfgReload := by
      rw [Dev.writeCfgcmd_open hp hl, if_pos hv]
    exact ⟨_, State.write_eq ((s.dev.fabWrite_cfgcmd k _ hw).trans hreload), s.dev.cfgReload_spec⟩

end Sys2Proof.Machine
end

section
/-! Proofs of the statements on the discovery of the flash (R344, R348, R364 to R366), on pass 1 (R338 to R344, R348), and on
coupling sessions (R353 to R356). -/

namespace Sys2Proof.Machine

open Sys2Proof

/-- The module with another state of the loader. -/
def Dev.withLoader (d : Dev) (l : Loader) : Dev := { d with loader := l }

theorem Dev.withLoader_w (d : Dev) (l : Loader) (a : Nat) : (d.withLoader l).w a = d.w a := rfl

theorem Dev.withLoader_ev (d : Dev) (l : Loader) : (d.withLoader l).ev = d.ev := rfl

theorem Dev.withLoader_motors (d : Dev) (l : Loader) : (d.withLoader l).motors = d.motors := rfl

theorem Dev.withLoader_bridges (d : Dev) (l : Loader) : (d.withLoader l).bridges = d.bridges := rfl

/-! ### The wait for a host (R348) -/

/-- CFGSTAT with PHASE 5 and SRC 0. -/
theorem waitHost_word (v : Word) : bits (withBits (withBits v 2 0 5) 13 12 0) 2 0 = 5 ∧
    bits (withBits (withBits v 2 0 5) 13 12 0) 13 12 = 0 := by
  rw [bits_withBits_ne _ _ _ _ _ _ (by decide) (by decide) (by decide) (by decide), bits_withBits _ _ _ _ (by decide) (by decide),
    bits_withBits _ _ _ _ (by decide) (by decide)]
  exact ⟨rfl, rfl⟩

/-- The wait for a host: PHASE 5 and SRC 0 with E55, and step 5. -/
theorem Dev.waitHost_spec {d : Dev} (hr : d.runs = true) : d.waitHost.cfgPhase = 5 ∧ d.waitHost.fld 0x40 13 12 = 0 ∧
    d.waitHost.loader.step = 5 ∧ d.waitHost.ev[55].cnt = d.ev[55].cnt + 1 ∧
    (∀ a, a ≠ 0x40 → a < 0xD000 → d.waitHost.w a = d.w a) ∧ d.waitHost.motors = d.motors ∧
    d.waitHost.bridges = d.bridges := by
  generalize hx : ({ d.putF 0x40 2 0 5 with loader := { d.loader with step := 5 } } : Dev).putF 0x40 13 12 0 = x
  have hmem : (x.raise 55).MemOnly d.waitHost := by
    rw [← hx]
    exact (Dev.memOnly_memRelease _).trans (Dev.memOnly_memNext _)
  have hw40 : x.w 0x40 = withBits (withBits (d.w 0x40) 2 0 5) 13 12 0 := by
    rw [← hx, Dev.w_putF, if_pos rfl]
    exact congrArg (fun v => withBits v 13 12 0) (Dev.w_put_self d 0x40 _)
  have hw : ∀ a, a ≠ 0x40 → x.w a = d.w a := fun a ha => by
    rw [← hx]
    exact (Dev.w_put_ne _ _ ha).trans (d.w_put_ne _ ha)
  have hrun : x.runs = true := by rw [← hx]; exact hr
  have hstep : x.loader.step = 5 := by rw [← hx]; rfl
  have hev : x.ev = d.ev := by rw [← hx]; rfl
  have hmot : x.motors = d.motors := by rw [← hx]; rfl
  have hbrg : x.bridges = d.bridges := by rw [← hx]; rfl
  obtain ⟨hphase, hsrc⟩ := waitHost_word (d.w 0x40)
  refine ⟨?_, ?_, ?_, ?_, fun a ha hlt => ?_, ?_, ?_⟩
  · rw [hmem.cfgPhase, Dev.cfgPhase, Dev.fld, Dev.raise_w, hw40, hphase]
  · rw [hmem.fld (by decide), Dev.fld, Dev.raise_w, hw40, hsrc]
  · rw [hmem.loader, Dev.raise_loader, hstep]
  · rw [hmem.ev, Dev.raise_ev_self hrun (by decide) (x.hasSrc_of_ge (by decide)), hev]
  · rw [hmem.w (.inl hlt), Dev.raise_w, hw a ha]
  · rw [hmem.motors, Dev.raise_motors, hmot]
  · rw [hmem.bridges, Dev.raise_bridges, hbrg]

/-! ### Discovery (R344, R364 to R366) -/

theorem Dev.loaderReads_words (d : Dev) : d.loaderReads.words = d.words := by
  unfold Dev.loaderReads Dev.exitFirst
  split
  · dsimp only
    split <;> rfl
  · rfl

theorem Dev.memSync_words (d : Dev) : d.memSync.words = d.words := by
  unfold Dev.memSync
  split
  · rfl
  · dsimp only
    split <;> rfl

/-- The module with the read format, the command word and MFLASH that discovery has found, before the port goes on to slot 0. -/
def Dev.formatted (d : Dev) (fmt cmd flash : Word) : Dev :=
  (((((d.put 0xD009 fmt).put 0xD00A cmd).putF 0xD000 4 0 1).put 0xD010 flash).putF 0x40 2 0 2).withLoader
    { d.loader with sel := 0, discards := 0 }

theorem Dev.formatted_spec (d : Dev) (fmt cmd flash : Word) : (d.formatted fmt cmd flash).cfgPhase = 2 ∧
    (d.formatted fmt cmd flash).w 0xD009 = fmt ∧ (d.formatted fmt cmd flash).w 0x41 = d.w 0x41 ∧
    (d.formatted fmt cmd flash).w 0x42 = d.w 0x42 := by
  refine ⟨?_, ?_, ?_, ?_⟩
  · rw [Dev.formatted, Dev.cfgPhase, Dev.fld, Dev.withLoader_w]
    exact Dev.fld_putF_self _ 0x40 2 0 2 (by decide) (by decide)
  · rw [Dev.formatted, Dev.withLoader_w, Dev.w_putF, if_neg (by decide), Dev.w_put_ne _ _ (by decide), Dev.w_putF, if_neg (by decide),
      Dev.w_put_ne _ _ (by decide), Dev.w_put_self]
  · rw [Dev.formatted, Dev.withLoader_w, Dev.w_putF, if_neg (by decide), Dev.w_put_ne _ _ (by decide), Dev.w_putF, if_neg (by decide),
      Dev.w_put_ne _ _ (by decide), Dev.w_put_ne _ _ (by decide)]
  · rw [Dev.formatted, Dev.withLoader_w, Dev.w_putF, if_neg (by decide), Dev.w_put_ne _ _ (by decide), Dev.w_putF, if_neg (by decide),
      Dev.w_put_ne _ _ (by decide), Dev.w_put_ne _ _ (by decide)]

theorem Dev.formatted_keeps (d : Dev) (fmt cmd flash : Word) : (d.formatted fmt cmd flash).ev = d.ev ∧
    (d.formatted fmt cmd flash).motors = d.motors ∧ (d.formatted fmt cmd flash).bridges = d.bridges ∧
    (d.formatted fmt cmd flash).loader.sel = 0 := by
  unfold Dev.formatted
  refine ⟨?_, ?_, ?_, rfl⟩
  · rw [Dev.withLoader_ev, Dev.putF_ev, Dev.put_ev, Dev.putF_ev, Dev.put_ev, Dev.put_ev]
  · rw [Dev.withLoader_motors, Dev.putF_motors, Dev.put_motors, Dev.putF_motors, Dev.put_motors, Dev.put_motors]
  · rw [Dev.withLoader_bridges, Dev.putF_bridges, Dev.put_bridges, Dev.putF_bridges, Dev.put_bridges, Dev.put_bridges]

section

variable {d : Dev} {f : Sfdp} (hr : d.runs = true) (hs : d.loader.step = 4) (hp : d.cfgPhase = 1) (hm : d.memMay = true)
include hr hs hp hm

theorem Dev.discovered_found (hf : sfOk f = true) : ∃ cmd flash,
    d.discovered f = (d.formatted (sfFormat f) cmd flash).memInvalid.memSync.loaderReads := by
  unfold Dev.discovered
  rw [if_pos (by simp [hr, hs, hp, hm]), if_pos hf]
  exact ⟨_, _, rfl⟩

theorem Dev.discovered_none (hf : sfOk f = false) :
    d.discovered f = (((d.put 0x41 0x1000).put 0x42 0x1000).put 0xD010 0).waitHost := by
  unfold Dev.discovered
  rw [if_pos (by simp [hr, hs, hp, hm]), if_neg (by simp [hf])]

end

/-- Settles O18: by whether the flash can be used. -/
theorem flashDiscovery : Obligations.FlashDiscovery := by
  intro s f hr hs hp hm
  refine ⟨s.dev.discovered f, rfl, ?_⟩
  cases hf : sfOk f
  · rw [Dev.discovered_none hr hs hp hm hf]
    obtain ⟨hphase, hsrc, hstep, hev, hw, hmot, hbrg⟩ :=
      Dev.waitHost_spec (d := ((s.dev.put 0x41 0x1000).put 0x42 0x1000).put 0xD010 0) hr
    refine ⟨fun h => Bool.noConfusion h, fun _ => ⟨hphase, ?_, ?_, hsrc, hstep, hev⟩, hmot, hbrg⟩
    · rw [hw _ (by decide) (by decide), Dev.w_put_ne _ _ (by decide), Dev.w_put_ne _ _ (by decide), Dev.w_put_self]
    · rw [hw _ (by decide) (by decide), Dev.w_put_ne _ _ (by decide), Dev.w_put_self]
  · obtain ⟨cmd, flash, heq⟩ := Dev.discovered_found hr hs hp hm hf
    rw [heq]
    obtain ⟨hphase, hfmt, h41, h42⟩ := s.dev.formatted_spec (sfFormat f) cmd flash
    obtain ⟨hev, hmot, hbrg, hsel⟩ := s.dev.formatted_keeps (sfFormat f) cmd flash
    generalize s.dev.formatted (sfFormat f) cmd flash = x at *
    have hmem : x.MemOnly x.memInvalid.memSync.loaderReads :=
      (Dev.memOnly_memInvalid _).trans ((Dev.memOnly_memSync _).trans (Dev.memOnly_loaderReads _))
    have hwords := Dev.w_of_words ((Dev.loaderReads_words _).trans (Dev.memSync_words x.memInvalid))
    exact ⟨fun _ => ⟨hmem.cfgPhase.trans hphase, (hwords _).trans hfmt, (congrArg Loader.sel hmem.loader).trans hsel,
      hmem.ev.trans hev, (hwords _).trans h41, (hwords _).trans h42⟩, fun h => Bool.noConfusion h,
      hmem.motors.trans hmot, hmem.bridges.trans hbrg⟩

/-! ### Pass 1 (R338 to R344, R348) -/

/-- The word of CFGERR that judges a slot. -/
def slotErr (bad : Option (Nat × Nat)) : Word := match bad with | some (r, n) => word (r * 4096 + n % 4096) | none => 0

/-- The module with the judgement of a slot recorded. -/
def Dev.judged (d : Dev) (slot : Nat) (bad : Option (Nat × Nat)) (l : Loader) : Dev :=
  { d.put (0x41 + slot) (slotErr bad) with loader := l }

theorem Dev.pass1_first {d : Dev} (hr : d.runs = true) (hs : d.loader.step = 4) (hp : d.cfgPhase = 2)
    (hl : d.loader.sel = 0) (hm : d.memMay = true) (ws : List Word) : ∃ crcs mac,
      d.pass1 0 ws = (d.judged 0 (slotFail d.part d.fuses d.mirror.id ws) { d.loader with
        ok0 := (slotFail d.part d.fuses d.mirror.id ws).isNone, seq0 := img32 ws 4, crcs0 := crcs, mac0 := mac
        sel := 1, discards := 0 }).loaderReads := by
  unfold Dev.pass1
  rw [if_pos (by simp [hr, hs, hp, hl, hm])]
  exact ⟨_, _, rfl⟩

theorem Dev.pass1_second {d : Dev} (hr : d.runs = true) (hs : d.loader.step = 4) (hp : d.cfgPhase = 2)
    (hl : d.loader.sel = 1) (hm : d.memMay = true) (ws : List Word) : ∃ crcs mac,
      d.pass1 1 ws = (d.judged 1 (slotFail d.part d.fuses d.mirror.id ws) { d.loader with
        ok1 := (slotFail d.part d.fuses d.mirror.id ws).isNone, seq1 := img32 ws 4, crcs1 := crcs, mac1 := mac }).selectSlot := by
  unfold Dev.pass1
  rw [if_pos (by simp [hr, hs, hp, hl, hm])]
  exact ⟨_, _, rfl⟩

/-- Pass 2 begins with the slot that is good, or of two good ones with the newer, slot 0 on a tie (R344). -/
theorem Dev.selectSlot_good {d : Dev} (h : d.loader.ok0 = true ∨ d.loader.ok1 = true) : d.selectSlot.cfgPhase = 3 ∧
    (d.loader.ok1 = true → d.selectSlot.loader.sel = if d.loader.ok0 = true ∧ d.loader.seq1.toNat ≤ d.loader.seq0.toNat then 0 else 1) ∧
    (d.loader.ok1 = false → d.selectSlot.loader.sel = 0) ∧ ∀ a, a ≠ 0x40 → a < 0xD000 → d.selectSlot.w a = d.w a := by
  generalize hsel : (if d.loader.ok0 && d.loader.ok1 then (if d.loader.seq0.toNat < d.loader.seq1.toNat then 1 else 0)
    else if d.loader.ok0 then 0 else 1) = sel
  have hmem := Dev.memOnly_loaderReads ({ d.putF 0x40 2 0 3 with
    loader := { d.loader with sel := sel, sect := 0, defer := [], waitUntil := none, discards := 0 } } : Dev)
  have heq : d.selectSlot = ({ d.putF 0x40 2 0 3 with
    loader := { d.loader with sel := sel, sect := 0, defer := [], waitUntil := none, discards := 0 } } : Dev).loaderReads := by
    unfold Dev.selectSlot
    dsimp only
    rw [if_neg (by obtain h | h := h <;> simp [h]), hsel]
  rw [← heq] at hmem
  refine ⟨?_, fun h1 => ?_, fun h1 => ?_, fun a ha hlt => ?_⟩
  · rw [hmem.cfgPhase]
    exact d.fld_putF_self 0x40 2 0 3 (by decide) (by decide)
  · rw [hmem.loader]
    dsimp only
    rw [← hsel, h1, Bool.and_true]
    cases d.loader.ok0
    · rfl
    · by_cases hlt : d.loader.seq0.toNat < d.loader.seq1.toNat
      · simp [hlt]
      · simp [hlt, Nat.le_of_not_lt hlt]
  · rw [hmem.loader]
    dsimp only
    rw [← hsel, h1, h.resolve_right (by simp [h1])]
    rfl
  · rw [hmem.w (.inl hlt)]
    exact d.w_put_ne _ ha

theorem Dev.selectSlot_none {d : Dev} (h0 : d.loader.ok0 = false) (h1 : d.loader.ok1 = false) : d.selectSlot = d.waitHost := by
  unfold Dev.selectSlot
  dsimp only
  rw [if_pos (by simp [h0, h1])]

/-- Settles O19: slot 0 by its record, slot 1 by the selection that follows it. -/
theorem passOne : Obligations.PassOne := by
  intro s slot ws hr hs hp hl hm
  refine ⟨s.dev.pass1 slot ws, rfl, ?_⟩
  have herr (d : Dev) (h : d.w (0x41 + slot.1) = slotErr (slotFail s.dev.part s.dev.fuses s.dev.mirror.id ws)) :
      (∀ r n, slotFail s.dev.part s.dev.fuses s.dev.mirror.id ws = some (r, n) → d.w (0x41 + slot.1) = word (r * 4096 + n % 4096)) ∧
      (slotFail s.dev.part s.dev.fuses s.dev.mirror.id ws = none → d.w (0x41 + slot.1) = 0) :=
    ⟨fun r n hbad => by rw [h, hbad]; rfl, fun hbad => by rw [h, hbad]; rfl⟩
  obtain rfl | rfl : slot = 0 ∨ slot = 1 := by omega
  · obtain ⟨crcs, mac, heq⟩ := Dev.pass1_first hr hs hp hl hm ws
    have hmem := Dev.memOnly_loaderReads (s.dev.judged 0 (slotFail s.dev.part s.dev.fuses s.dev.mirror.id ws) { s.dev.loader with
      ok0 := (slotFail s.dev.part s.dev.fuses s.dev.mirror.id ws).isNone, seq0 := img32 ws 4, crcs0 := crcs, mac0 := mac
      sel := 1, discards := 0 })
    rw [← heq] at hmem
    obtain ⟨hbad, hgood⟩ := herr (s.dev.pass1 0 ws) ((hmem.w (.inl (by decide))).trans (s.dev.w_put_self _ _))
    refine ⟨hbad, hgood, fun _ => ⟨?_, ?_, hmem.ev⟩, fun h => absurd h (by decide), fun h => absurd h (by decide),
      fun h => absurd h (by decide)⟩
    · rw [hmem.cfgPhase, ← hp]
      exact Dev.fld_congr (s.dev.w_put_ne _ (by decide)) 2 0
    · rw [hmem.loader]
      rfl
  · obtain ⟨crcs, mac, heq⟩ := Dev.pass1_second hr hs hp hl hm ws
    rw [heq]
    have hjw := s.dev.w_put_self 0x42 (slotErr (slotFail s.dev.part s.dev.fuses s.dev.mirror.id ws))
    generalize slotFail s.dev.part s.dev.fuses s.dev.mirror.id ws = bad at *
    generalize hloader : ({ s.dev.loader with ok1 := bad.isNone, seq1 := img32 ws 4, crcs1 := crcs, mac1 := mac } : Loader) = l
    have hok0 : l.ok0 = s.dev.loader.ok0 := by rw [← hloader]
    have hseq0 : l.seq0 = s.dev.loader.seq0 := by rw [← hloader]
    have hok1 : l.ok1 = bad.isNone := by rw [← hloader]
    have hseq1 : l.seq1 = img32 ws 4 := by rw [← hloader]
    generalize hx : s.dev.judged 1 bad l = x
    have hxl : x.loader = l := by rw [← hx]; rfl
    have hxr : x.runs = true := by rw [← hx]; exact hr
    have hxw : x.w 0x42 = slotErr bad := by rw [← hx]; exact hjw
    have hxe : x.ev = s.dev.ev := by rw [← hx]; rfl
    have hpass (h : x.loader.ok0 = true ∨ x.loader.ok1 = true) := Dev.selectSlot_good h
    cases hb : bad with
    | none =>
      obtain ⟨hphase, hsel, -, hw⟩ := hpass (.inr (by rw [hxl, hok1, hb]; rfl))
      obtain ⟨hbad, hgood⟩ := herr x.selectSlot (by rw [hw _ (by decide) (by decide)]; exact hxw)
      rw [hb] at hbad hgood
      refine ⟨hbad, hgood, fun h => absurd h (by decide), fun _ _ => ⟨hphase, ?_⟩, fun _ h => absurd rfl h, fun _ h => absurd rfl h⟩
      rw [hsel (by rw [hxl, hok1, hb]; rfl), hxl, hok0, hseq0, hseq1]
    | some e =>
      have hok1' : x.loader.ok1 = false := by rw [hxl, hok1, hb]; rfl
      cases h0 : s.dev.loader.ok0 with
      | true =>
        obtain ⟨hphase, -, hsel, hw⟩ := hpass (.inl (by rw [hxl, hok0, h0]))
        obtain ⟨hbad, hgood⟩ := herr x.selectSlot (by rw [hw _ (by decide) (by decide)]; exact hxw)
        rw [hb] at hbad hgood
        exact ⟨hbad, hgood, fun h => absurd h (by decide), fun _ h => absurd h (by simp), fun _ _ _ => ⟨hphase, hsel hok1'⟩,
          fun _ _ h => Bool.noConfusion h⟩
      | false =>
        rw [Dev.selectSlot_none (by rw [hxl, hok0, h0]) hok1']
        obtain ⟨hphase, hsrc, -, hev, hw, -, -⟩ := Dev.waitHost_spec hxr
        obtain ⟨hbad, hgood⟩ := herr x.waitHost (by rw [hw _ (by decide) (by decide)]; exact hxw)
        rw [hb] at hbad hgood
        exact ⟨hbad, hgood, fun h => absurd h (by decide), fun _ h => absurd h (by simp), fun _ _ h => Bool.noConfusion h,
          fun _ _ _ => ⟨hphase, hsrc, by rw [hev, hxe]⟩⟩

/-! ### Coupling sessions (R353 to R356) -/

/-- The module after READY with a rise of CPL_DET held pending, in a cycle in which a device fault arises. -/
def State.edgeInFault : State :=
  { dev := { ({} : Dev).put 0x40 0x8004 with
      resetN := true, locked := true, everLock := true, cycles := 1000, cplEdge := some true, cplFrom := 900, faultAt := some 1000 } }

/-- Refutes O46: a pending edge whose cycle is also that of a device fault waits for the next cycle (R356), so that
PENDING_COUPLING_APPLY leaves it pending, where the last clause has it applied with no word of faults. -/
theorem not_couplingSessions : ¬ Obligations.CouplingSessions := by
  intro h
  obtain ⟨-, -, -, -, -, -, -, hpending⟩ := h State.edgeInFault rfl
  obtain ⟨d, hexec, hedge, -⟩ := (hpending (by decide +kernel) (by decide +kernel)).1 rfl
  have hstays : State.edgeInFault.dev.applyPending.cplEdge = some true := by decide +kernel
  have hdev : d = State.edgeInFault.dev.applyPending := congrArg State.dev (Host.Outcome.next.inj hexec).symm
  rw [hdev, hstays] at hedge
  exact absurd hedge (by decide)

end Sys2Proof.Machine
end

section
/-! Proof of the statement on the trace store (R289 to R294, R414). -/

namespace Sys2Proof.Machine

open Sys2Proof

/-! ### What the books and the slots leave alone -/

/-- The engines, the words that masters have read and latched, and the records that wait are the same. -/
def Dev.SameOutside (d e : Dev) : Prop :=
  e.motors = d.motors ∧ e.fab = d.fab ∧ e.latches = d.latches ∧ e.recq = d.recq

theorem Dev.SameOutside.refl (d : Dev) : d.SameOutside d := ⟨rfl, rfl, rfl, rfl⟩

theorem Dev.SameOutside.trans {c d e : Dev} (h : c.SameOutside d) (h' : d.SameOutside e) : c.SameOutside e :=
  ⟨h'.1.trans h.1, h'.2.1.trans h.2.1, h'.2.2.1.trans h.2.2.1, h'.2.2.2.trans h.2.2.2⟩

theorem Dev.SameOutside.ite {c : Prop} [Decidable c] {d x y : Dev} (hx : d.SameOutside x) (hy : d.SameOutside y) :
    d.SameOutside (if c then x else y) := by split <;> assumption

variable (d : Dev)

theorem Dev.sameOutside_put (a : Nat) (v : Word) : d.SameOutside (d.put a v) := ⟨rfl, rfl, rfl, rfl⟩

theorem Dev.sameOutside_put32 (a : Nat) (v : BitVec 32) : d.SameOutside (d.put32 a v) :=
  ⟨d.put32_motors a v, d.put32_fab a v, d.put32_latches a v, d.put32_recq a v⟩

theorem Dev.sameOutside_book (off : Nat) (v : BitVec 32) : d.SameOutside (d.book off v) := d.sameOutside_put32 _ _

theorem Dev.book_store (off : Nat) (v : BitVec 32) : (d.book off v).store = d.store := d.put32_store _ _

theorem Dev.sameOutside_cause (a : Nat) (m : Word) (i : Nat) : d.SameOutside (d.cause a m i) :=
  ⟨Dev.raise_motors _ _, Dev.raise_fab _ _, Dev.raise_latches _ _, Dev.raise_recq _ _⟩

/-- A mirror copy changes the device log alone. -/
theorem Dev.writeMirror_eq (pend old : Bool) : ∃ l u, d.writeMirror pend old = { d with devLog := l, logWrote := u } := by
  unfold Dev.writeMirror
  dsimp only
  split <;> exact ⟨_, _, rfl⟩

theorem Dev.mirrorBooks_eq : ∃ l u, d.mirrorBooks = { d with devLog := l, logWrote := u } := by
  unfold Dev.mirrorBooks
  split
  · exact d.writeMirror_eq false false
  · exact ⟨d.devLog, d.logWrote, rfl⟩

theorem Dev.writeMirror_keeps (pend old : Bool) : d.SameOutside (d.writeMirror pend old) ∧
    (d.writeMirror pend old).words = d.words ∧ (d.writeMirror pend old).store = d.store := by
  obtain ⟨l, u, h⟩ := d.writeMirror_eq pend old
  rw [h]
  exact ⟨⟨rfl, rfl, rfl, rfl⟩, rfl, rfl⟩

theorem Dev.mirrorBooks_keeps : d.SameOutside d.mirrorBooks ∧ d.mirrorBooks.words = d.words ∧ d.mirrorBooks.store = d.store := by
  obtain ⟨l, u, h⟩ := d.mirrorBooks_eq
  rw [h]
  exact ⟨⟨rfl, rfl, rfl, rfl⟩, rfl, rfl⟩

/-! ### Slots -/

theorem Dev.slotWord_putSlotWord (s j : Nat) (v : Word) (n i : Nat) :
    (d.putSlotWord s j v).slotWord n i = if 4 * n + i = 4 * s + j then v else d.slotWord n i :=
  Store.get_set d.store _ _ v

theorem Dev.prepareSlot_keeps (s : Nat) (w0 w1 w2 w3 : Word) : d.SameOutside (d.prepareSlot s w0 w1 w2 w3) ∧
    (d.prepareSlot s w0 w1 w2 w3).words = d.words := ⟨⟨rfl, rfl, rfl, rfl⟩, rfl⟩

theorem Dev.writeSlot_keeps (s : Nat) (r : Rec) : d.SameOutside (d.writeSlot s r) ∧ (d.writeSlot s r).words = d.words := by
  obtain ⟨hout, hwords⟩ := d.prepareSlot_keeps s r.w0 r.w1 r.w2 r.w3
  unfold Dev.writeSlot
  generalize d.prepareSlot s r.w0 r.w1 r.w2 r.w3 = x at *
  exact ⟨hout, hwords⟩

theorem Dev.slotWord_prepareSlot (s : Nat) (w0 w1 w2 w3 : Word) (n i : Nat) : (d.prepareSlot s w0 w1 w2 w3).slotWord n i =
    if 4 * n + i = 4 * s + 3 then w3 else if 4 * n + i = 4 * s + 2 then w2 else if 4 * n + i = 4 * s + 1 then w1
    else if 4 * n + i = 4 * s + 0 then w0 else d.slotWord n i := by
  rw [Dev.prepareSlot, Dev.slotWord_putSlotWord, Dev.slotWord_putSlotWord, Dev.slotWord_putSlotWord, Dev.slotWord_putSlotWord]
  rfl

theorem Dev.slotWord_writeSlot (s : Nat) (r : Rec) (n i : Nat) :
    (d.writeSlot s r).slotWord n i = (d.prepareSlot s r.w0 r.w1 r.w2 r.w3).slotWord n i := rfl

theorem Dev.slotWord_writeSlot_self (s : Nat) (r : Rec) : (d.writeSlot s r).slotWord s 0 = r.w0 ∧
    (d.writeSlot s r).slotWord s 1 = r.w1 ∧ (d.writeSlot s r).slotWord s 2 = r.w2 ∧ (d.writeSlot s r).slotWord s 3 = r.w3 := by
  simp [Dev.slotWord_writeSlot, Dev.slotWord_prepareSlot]

theorem Dev.slotWord_writeSlot_ne {s n i : Nat} (r : Rec) (h : n ≠ s) (hi : i < 4) :
    (d.writeSlot s r).slotWord n i = d.slotWord n i := by
  rw [Dev.slotWord_writeSlot, Dev.slotWord_prepareSlot, if_neg (by omega), if_neg (by omega), if_neg (by omega), if_neg (by omega)]

/-- A slot made empty reads as zeros. -/
theorem Dev.slotWord_clearSlot (s : Nat) {i : Nat} (hi : i < 4) : (d.clearSlot s).slotWord s i = 0 := by
  rw [Dev.clearSlot, Dev.slotWord_prepareSlot]
  obtain rfl | rfl | rfl | rfl : i = 0 ∨ i = 1 ∨ i = 2 ∨ i = 3 := by omega
  all_goals simp

theorem Dev.slotWord_congr {d e : Dev} (h : e.store = d.store) (n i : Nat) : e.slotWord n i = d.slotWord n i := by
  unfold Dev.slotWord
  rw [h]

/-! ### The books (R292) -/

theorem Dev.w32_congr {d e : Dev} (h : e.words = d.words) (a : Nat) : e.w32 a = d.w32 a := by
  unfold Dev.w32
  rw [Dev.w_of_words h, Dev.w_of_words h]

theorem Dev.w32_put32_ne {a b : Nat} (v : BitVec 32) (h : b + 1 < a ∨ a + 1 < b) : (d.put32 a v).w32 b = d.w32 b := by
  unfold Dev.w32
  rw [Dev.w_put32, Dev.w_put32, if_neg (by omega), if_neg (by omega), if_neg (by omega), if_neg (by omega)]

theorem Dev.w32_put_ne {a b : Nat} (v : Word) (h : b + 1 < a ∨ a < b) : (d.put a v).w32 b = d.w32 b := by
  unfold Dev.w32
  rw [Dev.w_put_ne _ _ (by omega), Dev.w_put_ne _ _ (by omega)]

theorem Dev.w32_book_self (off : Nat) (v : BitVec 32) : (d.book off v).w32 (0xB488 + off) = d.w32 (0xB488 + off) + v :=
  d.w32_put32 _ _

theorem Dev.w32_book_ne {off b : Nat} (v : BitVec 32) (h : b + 1 < 0xB488 + off ∨ 0xB488 + off + 1 < b) :
    (d.book off v).w32 b = d.w32 b := d.w32_put32_ne _ h

/-- The books after a record that is discarded, or that commits as the store is emptied: it counts in WRITTEN and DISC
(R292). -/
def Dev.discarded (d : Dev) : Dev := (d.book 0 1).book 6 1

theorem Dev.discarded_spec : d.discarded.w32 0xB488 = d.w32 0xB488 + 1 ∧ d.discarded.w32 0xB48E = d.w32 0xB48E + 1 ∧
    d.discarded.wptr = d.wptr ∧ d.discarded.store = d.store ∧ d.discarded.recq = d.recq := by
  unfold Dev.discarded
  refine ⟨?_, ?_, ?_, by simp [Dev.book], by simp [Dev.book]⟩
  · rw [Dev.w32_book_ne _ _ (by decide), d.w32_book_self 0]
  · rw [(d.book 0 1).w32_book_self 6, Dev.w32_book_ne _ _ (by decide)]
  · rw [Dev.wptr, Dev.w32_book_ne _ _ (by decide), Dev.w32_book_ne _ _ (by decide)]
    rfl

theorem Dev.commitEmptied_new : d.commitEmptied false = d.discarded.writeMirror false false := rfl

/-! ### The commit of a record (R290 to R292, R414, R415) -/

/-- The module with the oldest record taken from the queue. -/
def Dev.dequeued (d : Dev) (rest : List Rec) : Dev := { d with recq := rest }

section

variable {d} {r : Rec} {rest : List Rec} (hq : d.recq = r :: rest) (hrdy : d.domRdy 3 = true)
include hq hrdy

theorem Dev.commitRec_eq : d.commitRec =
    (let x := d.dequeued rest
     if x.noStore then x.discardRec
     else if (x.emptied.map Prod.fst) = some x.cycles then x.commitEmptied ((x.emptied.map Prod.snd).getD false)
     else
       (((((x.writeMirror true (x.slotHolds x.wptr)).writeSlot x.wptr r).book 0 1).book
         (if x.slotHolds x.wptr then 4 else 2) 1).advanceWptr.writeMirror false false)) := by
  unfold Dev.commitRec
  simp only [hq, hrdy, Bool.not_true, Bool.and_false]
  rw [if_neg (by decide)]
  rfl

theorem Dev.commitRec_discards (hn : d.noStore = true) : d.commitRec = (d.dequeued rest).discarded.mirrorBooks := by
  have hn' : (d.dequeued rest).noStore = true := hn
  rw [Dev.commitRec_eq hq hrdy]
  generalize d.dequeued rest = x at *
  exact if_pos hn'

theorem Dev.commitRec_emptied (hn : d.noStore = false) (he : d.emptied = some (d.cycles, false)) :
    d.commitRec = (d.dequeued rest).discarded.writeMirror false false := by
  have hn' : (d.dequeued rest).noStore = false := hn
  have he' : (d.dequeued rest).emptied = some ((d.dequeued rest).cycles, false) := he
  rw [Dev.commitRec_eq hq hrdy]
  generalize d.dequeued rest = x at *
  dsimp only
  rw [hn', he', if_neg (by decide), if_pos (by rfl), ← Dev.commitEmptied_new]
  rfl

theorem Dev.commitRec_commits (hn : d.noStore = false) (he : d.emptied.map Prod.fst ≠ some d.cycles) :
    d.commitRec = (((((d.dequeued rest).writeMirror true (d.slotHolds d.wptr)).writeSlot d.wptr r).book 0 1).book
      (if d.slotHolds d.wptr then 4 else 2) 1).advanceWptr.writeMirror false false := by
  have hn' : (d.dequeued rest).noStore = false := hn
  have he' : (d.dequeued rest).emptied.map Prod.fst ≠ some (d.dequeued rest).cycles := he
  have hp : (d.dequeued rest).wptr = d.wptr := rfl
  have hs : (d.dequeued rest).slotHolds d.wptr = d.slotHolds d.wptr := rfl
  rw [Dev.commitRec_eq hq hrdy]
  dsimp only
  rw [hn', if_neg (by decide), if_neg he', hp, hs]

end

theorem Dev.advanceWptr_step {d : Dev} (h : d.wptr + 1 < slotCount) :
    d.advanceWptr = d.put32 0xB486 (BitVec.ofNat 32 (d.wptr + 1)) := if_pos h

theorem Dev.wptr_put32 (n : Nat) (h : n < slotCount) : (d.put32 0xB486 (BitVec.ofNat 32 n)).wptr = n := by
  rw [Dev.wptr, Dev.w32_put32, BitVec.toNat_ofNat]
  exact Nat.mod_eq_of_lt (Nat.lt_trans h (by decide))

/-- A record that commits: its slot, the pointer and WRITTEN (R290 to R292). -/
theorem Dev.commitRec_spec {r : Rec} {rest : List Rec} (hq : d.recq = r :: rest) (hrdy : d.domRdy 3 = true)
    (hn : d.noStore = false) (he : d.emptied.map Prod.fst ≠ some d.cycles) (hp : d.wptr + 1 < slotCount) :
    d.commitRec.recq = rest ∧ d.commitRec.wptr = d.wptr + 1 ∧ d.commitRec.slotWord d.wptr 0 = r.w0 ∧
    d.commitRec.slotWord d.wptr 1 = r.w1 ∧ d.commitRec.slotWord d.wptr 2 = r.w2 ∧ d.commitRec.slotWord d.wptr 3 = r.w3 ∧
    d.commitRec.w32 0xB488 = d.w32 0xB488 + 1 ∧
    (∀ n i, n ≠ d.wptr → i < 4 → d.commitRec.slotWord n i = d.slotWord n i) ∧ d.commitRec.motors = d.motors := by
  rw [Dev.commitRec_commits hq hrdy hn he]
  obtain ⟨hout, hwords, hstore⟩ := (d.dequeued rest).writeMirror_keeps true (d.slotHolds d.wptr)
  generalize (d.dequeued rest).writeMirror true (d.slotHolds d.wptr) = m at *
  obtain ⟨h0, h1, h2, h3⟩ := m.slotWord_writeSlot_self d.wptr r
  have hne := fun {n i} => m.slotWord_writeSlot_ne (s := d.wptr) (n := n) (i := i) r
  obtain ⟨hout1, hwords1⟩ := m.writeSlot_keeps d.wptr r
  generalize m.writeSlot d.wptr r = x at *
  generalize hoff : (if d.slotHolds d.wptr then 4 else 2) = off
  have hoff' : off = 4 ∨ off = 2 := by rw [← hoff]; split <;> simp
  have hbooks : ((x.book 0 1).book off 1).w32 0xB488 = d.w32 0xB488 + 1 := by
    rw [Dev.w32_book_ne _ _ (by omega), x.w32_book_self 0, Dev.w32_congr (hwords1.trans hwords)]
    rfl
  have hptr : ((x.book 0 1).book off 1).wptr = d.wptr := by
    rw [Dev.wptr, Dev.w32_book_ne _ _ (by omega), Dev.w32_book_ne _ _ (by decide), Dev.w32_congr (hwords1.trans hwords)]
    rfl
  have hstore2 : ((x.book 0 1).book off 1).store = x.store := (Dev.book_store _ _ _).trans (x.book_store _ _)
  have hout2 : x.SameOutside ((x.book 0 1).book off 1) := (x.sameOutside_book _ _).trans (Dev.sameOutside_book _ _ _)
  generalize (x.book 0 1).book off 1 = y at *
  rw [Dev.advanceWptr_step (by rw [hptr]; exact hp), hptr]
  have hptr3 := y.wptr_put32 (d.wptr + 1) hp
  have hbooks3 : (y.put32 0xB486 (BitVec.ofNat 32 (d.wptr + 1))).w32 0xB488 = d.w32 0xB488 + 1 := by
    rw [Dev.w32_put32_ne _ _ (by decide), hbooks]
  have hstore3 : (y.put32 0xB486 (BitVec.ofNat 32 (d.wptr + 1))).store = x.store :=
    (y.put32_store _ _).trans hstore2
  have hout3 := ((hout.trans hout1).trans hout2).trans (y.sameOutside_put32 0xB486 (BitVec.ofNat 32 (d.wptr + 1)))
  generalize y.put32 0xB486 (BitVec.ofNat 32 (d.wptr + 1)) = z at *
  obtain ⟨hout4, hwords4, hstore4⟩ := z.writeMirror_keeps false false
  obtain ⟨hmot, -, -, hrec⟩ := hout3.trans hout4
  have hslot := Dev.slotWord_congr (hstore4.trans hstore3)
  refine ⟨hrec, ?_, (hslot _ _).trans h0, (hslot _ _).trans h1, (hslot _ _).trans h2, (hslot _ _).trans h3, ?_, fun n i hn hi => ?_,
    hmot⟩
  · rw [Dev.wptr, Dev.w32_congr hwords4]
    exact hptr3
  · rw [Dev.w32_congr hwords4, hbooks3]
  · rw [hslot, hne hn hi]
    exact Dev.slotWord_congr hstore n i

/-! ### What was found in the words of a slot (R293, R408) -/

theorem Dev.ceFound_keeps (cls addr : Nat) : d.SameOutside (d.ceFound cls addr) ∧ (d.ceFound cls addr).store = d.store := by
  unfold Dev.ceFound
  dsimp only
  split <;> simp [Dev.SameOutside, Dev.cause, Dev.putErr]

theorem Dev.ueFound_keeps (cls addr : Nat) : d.SameOutside (d.ueFound cls addr) ∧ (d.ueFound cls addr).store = d.store := by
  unfold Dev.ueFound
  obtain h | ⟨⟨t, q⟩, h⟩ := Option.eq_none_or_eq_some d.ueAt
  · simp [h, Dev.SameOutside, Dev.putErr]
  · simp only [h]
    split
    · exact ⟨.refl d, rfl⟩
    · simp [Dev.SameOutside, Dev.putErr]

/-- A slot that is lost reads as zeros. -/
theorem Dev.loseSlot_spec (s : Nat) : d.SameOutside (d.loseSlot s) ∧ ∀ i, i < 4 → (d.loseSlot s).slotWord s i = 0 := by
  have hclear := fun {i} (hi : i < 4) => d.slotWord_clearSlot s hi
  have hout := (d.prepareSlot_keeps s 0 0 0 0).1
  change d.SameOutside (d.clearSlot s) at hout
  unfold Dev.loseSlot
  generalize d.clearSlot s = x at *
  have hbooks : d.SameOutside (if d.slotHolds s then ((x.book 2 (-1)).book 6 1).mirrorBooks else x) ∧
      (if d.slotHolds s then ((x.book 2 (-1)).book 6 1).mirrorBooks else x).store = x.store := by
    split
    · obtain ⟨hmir, -, hstore⟩ := ((x.book 2 (-1)).book 6 1).mirrorBooks_keeps
      exact ⟨((hout.trans (x.sameOutside_book _ _)).trans (Dev.sameOutside_book _ _ _)).trans hmir,
        hstore.trans ((Dev.book_store _ _ _).trans (x.book_store _ _))⟩
    · exact ⟨hout, rfl⟩
  dsimp only
  generalize (if d.slotHolds s then ((x.book 2 (-1)).book 6 1).mirrorBooks else x) = y at *
  refine ⟨hbooks.1.trans (y.sameOutside_cause _ _ _), fun i hi => ?_⟩
  rw [← hclear hi]
  refine Dev.slotWord_congr (Eq.trans ?_ hbooks.2) s i
  simp [Dev.cause]

theorem Dev.each_ceFound (n : Nat) (l : List Nat) : d.SameOutside (d.each l (fun d i => d.ceFound 3 (n + i))) ∧
    (d.each l (fun d i => d.ceFound 3 (n + i))).store = d.store :=
  Dev.each_inv (P := fun e => d.SameOutside e ∧ e.store = d.store) l d ⟨.refl d, rfl⟩
    (fun e _ h => ⟨h.1.trans (e.ceFound_keeps _ _).1, (e.ceFound_keeps _ _).2.trans h.2⟩)

theorem Dev.storeFound_good (n : Nat) {ws : List Decoded} (h : .bad ∉ ws) : d.SameOutside (d.storeFound n ws) ∧
    (d.storeFound n ws).store = d.store := by
  have hnone : (List.range ws.length).filter (fun i => ws.getD i .bad = .bad) = [] := by
    refine List.filter_eq_nil_iff.2 (fun i hi hbad => h ?_)
    have hlt := List.mem_range.1 hi
    rw [decide_eq_true_eq, List.getD_eq_getElem _ _ hlt] at hbad
    exact hbad ▸ List.getElem_mem hlt
  unfold Dev.storeFound
  dsimp only
  rw [hnone]
  exact d.each_ceFound n _

theorem Dev.storeFound_clean (n : Nat) {ws : List Decoded} (h : ∀ i, i < ws.length → ∃ v, ws.getD i .bad = .clean v) :
    d.storeFound n ws = d := by
  have hbad : (List.range ws.length).filter (fun i => ws.getD i .bad = .bad) = [] := by
    refine List.filter_eq_nil_iff.2 (fun i hi => ?_)
    obtain ⟨v, hv⟩ := h i (List.mem_range.1 hi)
    rw [hv, decide_eq_true_eq]
    exact Decoded.noConfusion
  have hce : (List.range ws.length).filter (fun i => ws.getD i .bad = .corrected (ws.getD i .bad).value) = [] := by
    refine List.filter_eq_nil_iff.2 (fun i hi => ?_)
    obtain ⟨v, hv⟩ := h i (List.mem_range.1 hi)
    rw [hv, decide_eq_true_eq]
    exact Decoded.noConfusion
  unfold Dev.storeFound
  dsimp only
  rw [hbad, hce]
  rfl

theorem Dev.storeFound_bad (n : Nat) {ws : List Decoded} (h : .bad ∈ ws) : d.SameOutside (d.storeFound n ws) ∧
    ∀ i, i < 4 → (d.storeFound n ws).slotWord ((n - 0x100000) / 4) i = 0 := by
  have hsome : (List.range ws.length).filter (fun i => ws.getD i .bad = .bad) ≠ [] := by
    obtain ⟨i, hi, hbad⟩ := List.mem_iff_getElem.1 h
    refine List.ne_nil_of_mem (a := i) (List.mem_filter.2 ⟨List.mem_range.2 hi, ?_⟩)
    rw [decide_eq_true_eq, List.getD_eq_getElem _ _ hi, hbad]
  unfold Dev.storeFound
  dsimp only
  have hce := (d.each_ceFound n ((List.range ws.length).filter (fun i => ws.getD i .bad = .corrected (ws.getD i .bad).value))).1
  generalize d.each _ (fun d i => d.ceFound 3 (n + i)) = x at *
  obtain ⟨i, l, hil⟩ := List.exists_cons_of_ne_nil hsome
  rw [hil]
  obtain ⟨hout, hzero⟩ := (x.ueFound 3 (n + i)).loseSlot_spec ((n - 0x100000) / 4)
  exact ⟨(hce.trans (x.ueFound_keeps _ _).1).trans hout, hzero⟩

/-! ### A read of a word of the store (R289, R293) -/

/-- No register stands in the window of the store. -/
theorem regRow_of_inStore {n : Nat} (h : inStore n = true) : regRow n = none := by
  have hin := of_decide_eq_true h
  have hblocks : regBlocks.all (fun b => decide (b.2.1 < 0x10000)) = true := by decide
  have hnone : regBlocks.find? (fun b => b.1 ≤ n && n ≤ b.2.1) = none := by
    refine List.find?_eq_none.2 (fun b hb hle => ?_)
    have hlt := of_decide_eq_true (List.all_eq_true.1 hblocks b hb)
    simp only [Bool.and_eq_true, decide_eq_true_eq] at hle
    omega
  unfold regRow
  rw [hnone]

theorem Dev.readEffect_store {n : Nat} (h : inStore n = true) (k : Master) (v : Word) (l : List (Nat × Word)) :
    d.readEffect k n v l = d.latchAll k l := by
  have hin := of_decide_eq_true h
  have hrc : rcMask n = 0 := by
    unfold rcMask
    rw [regRow_of_inStore h]
  unfold Dev.readEffect Dev.rcTake
  dsimp only
  rw [if_pos hrc, if_neg (by omega)]
  rfl

/-- The value that a read delivers of word i: 0 where a word of the slot cannot be corrected. -/
def storeValue (ws : List Decoded) (i : Nat) : Word := if ws.contains .bad then 0 else (ws.getD i .bad).value

/-- The words that a read of the store latches behind the first. -/
def storeLatches (n : Nat) (ws : List Decoded) : List (Nat × Word) :=
  ((List.range (ws.length - 1)).map (· + 1)).map (fun i => (n + i, storeValue ws i))

theorem Dev.latched_of_latches {d e : Dev} (h : e.latches = d.latches) (k : Master) (b : Nat) : e.latched k b = d.latched k b := by
  unfold Dev.latched
  rw [h]

theorem Dev.latched_storeLatches (k : Master) (n : Nat) (ws : List Decoded) {i : Nat} (h0 : 0 < i) (h : i < ws.length) :
    (d.latchAll k (storeLatches n ws)).latched k (n + i) = storeValue ws i := by
  refine Dev.latched_latchAll _ k (fun p hp he => ?_) (.inr ⟨(n + i, storeValue ws i), ?_, rfl⟩)
  · obtain ⟨j, -, rfl⟩ := List.mem_map.1 hp
    rw [Nat.add_left_cancel he]
  · exact List.mem_map.2 ⟨i, List.mem_map.2 ⟨i - 1, List.mem_range.2 (by omega), by omega⟩, rfl⟩

section

variable {d} {k : Master} {a : Addr} (errs : List (BitVec 28)) (hin : inStore a.toNat = true)
  (hread : d.readOk k a.toNat = true) (hlog : d.logOn = true) (hbist : d.bist.run ≠ some 2)
include hin hread hlog hbist

theorem Dev.storeWords_ok : d.storeWords k a errs = (d.slotDecoded a.toNat errs).take (if a.toNat % 4 = 0 then 4 else 1) := by
  unfold Dev.storeWords
  dsimp only
  rw [if_neg (by simp [hread, hin, hlog, hbist])]

omit hin hread hlog hbist in
theorem Dev.slotDecoded_length : (d.slotDecoded a.toNat errs).length = 4 := by simp [Dev.slotDecoded]

/-- A read of a store word, by the words that its memory delivers. -/
theorem Dev.storeRead_ok : ∃ ws, ws = (d.slotDecoded a.toNat errs).take (if a.toNat % 4 = 0 then 4 else 1) ∧
    d.storeRead k a errs = ((d.latchAll k (storeLatches a.toNat ws)).storeFound a.toNat ws).putFab k
      (if a.toNat % 4 = 0 || ws.contains .bad then storeValue ws 0 else d.latched k a.toNat) := by
  refine ⟨_, rfl, ?_⟩
  have hne : ((d.slotDecoded a.toNat errs).take (if a.toNat % 4 = 0 then 4 else 1)).isEmpty = false := by
    rw [List.isEmpty_eq_false_iff, ← List.length_pos_iff, List.length_take, Dev.slotDecoded_length (d := d) (a := a) errs]
    split <;> decide
  have hpeek (h : ¬ a.toNat % 4 = 0) : d.peek k a.toNat = d.latched k a.toNat := by
    unfold Dev.peek
    rw [if_pos hin, if_neg h, if_pos (by simp [hlog, hbist])]
  unfold Dev.storeRead
  dsimp only
  rw [Dev.storeWords_ok errs hin hread hlog hbist, hne, if_neg (by decide), Dev.readEffect_store _ hin]
  generalize (d.slotDecoded a.toNat errs).take (if a.toNat % 4 = 0 then 4 else 1) = ws
  by_cases h4 : a.toNat % 4 = 0
  · simp only [h4]
    rfl
  · rw [hpeek h4]
    rfl

end

/-- A read of the first word of a slot whose words all decode. -/
theorem Dev.storeRead_first {k : Master} {a : Addr} (errs : List (BitVec 28)) (hin : inStore a.toNat = true)
    (h4 : a.toNat % 4 = 0) (hread : d.readOk k a.toNat = true) (hlog : d.logOn = true) (hbist : d.bist.run ≠ some 2)
    (hgood : .bad ∉ d.slotDecoded a.toNat errs) :
    (d.storeRead k a errs).fab[k] = ((d.slotDecoded a.toNat errs).getD 0 .bad).value ∧
    (∀ i, 0 < i → i < 4 → (d.storeRead k a errs).latched k (a.toNat + i) = ((d.slotDecoded a.toNat errs).getD i .bad).value) ∧
    (d.storeRead k a errs).store = d.store ∧
    ((∀ i, i < 4 → (d.slotDecoded a.toNat errs).getD i .bad = .clean (d.storeWord (a.toNat - 0x100000 + i))) →
      ∀ b, (d.storeRead k a errs).w b = d.w b) ∧ (d.storeRead k a errs).motors = d.motors := by
  obtain ⟨ws, hws, heq⟩ := Dev.storeRead_ok errs hin hread hlog hbist
  have hlen := Dev.slotDecoded_length (d := d) (a := a) errs
  rw [if_pos h4, List.take_of_length_le (by rw [hlen])] at hws
  rw [heq, ← hws]
  rw [← hws] at hgood hlen
  have hval (i : Nat) : storeValue ws i = (ws.getD i .bad).value := if_neg (by simpa using hgood)
  obtain ⟨st, hlatch⟩ := d.latchAll_eq k (storeLatches a.toNat ws)
  obtain ⟨⟨hmot, -, hlat, -⟩, hstore⟩ := (d.latchAll k (storeLatches a.toNat ws)).storeFound_good a.toNat hgood
  refine ⟨?_, fun i h0 hi => ?_, ?_, fun hclean b => ?_, ?_⟩
  · rw [Dev.putFab_fab_self, h4, hval]
    rfl
  · rw [← hval, ← d.latched_storeLatches k a.toNat ws h0 (by omega)]
    exact Dev.latched_of_latches hlat k _
  · exact hstore.trans (by rw [hlatch])
  · rw [Dev.storeFound_clean _ _ (fun i hi => ⟨_, hclean i (by omega)⟩), hlatch]
    rfl
  · exact hmot.trans (by rw [hlatch])

/-- A read of the first word of a slot in which a word cannot be corrected. -/
theorem Dev.storeRead_first_bad {k : Master} {a : Addr} (errs : List (BitVec 28)) (hin : inStore a.toNat = true)
    (h4 : a.toNat % 4 = 0) (hread : d.readOk k a.toNat = true) (hlog : d.logOn = true) (hbist : d.bist.run ≠ some 2)
    (hbad : .bad ∈ d.slotDecoded a.toNat errs) :
    (d.storeRead k a errs).fab[k] = 0 ∧ (∀ i, 0 < i → i < 4 → (d.storeRead k a errs).latched k (a.toNat + i) = 0) ∧
    (∀ i, i < 4 → (d.storeRead k a errs).slotWord ((a.toNat - 0x100000) / 4) i = 0) ∧ (d.storeRead k a errs).motors = d.motors := by
  obtain ⟨ws, hws, heq⟩ := Dev.storeRead_ok errs hin hread hlog hbist
  have hlen := Dev.slotDecoded_length (d := d) (a := a) errs
  rw [if_pos h4, List.take_of_length_le (by rw [hlen])] at hws
  rw [heq]
  rw [← hws] at hbad hlen
  have hval (i : Nat) : storeValue ws i = 0 := if_pos (by simpa using hbad)
  obtain ⟨st, hlatch⟩ := d.latchAll_eq k (storeLatches a.toNat ws)
  obtain ⟨⟨hmot, -, hlat, -⟩, hzero⟩ := (d.latchAll k (storeLatches a.toNat ws)).storeFound_bad a.toNat hbad
  refine ⟨?_, fun i h0 hi => ?_, hzero, hmot.trans (by rw [hlatch])⟩
  · rw [Dev.putFab_fab_self, h4, hval]
    rfl
  · rw [← hval i, ← d.latched_storeLatches k a.toNat ws h0 (by omega)]
    exact Dev.latched_of_latches hlat k _

/-- A read of another word of a slot, by whether that word decodes. -/
theorem Dev.storeRead_other {k : Master} {a : Addr} (errs : List (BitVec 28)) (hin : inStore a.toNat = true)
    (h4 : a.toNat % 4 ≠ 0) (hread : d.readOk k a.toNat = true) (hlog : d.logOn = true) (hbist : d.bist.run ≠ some 2) :
    ((d.slotDecoded a.toNat errs).getD 0 .bad ≠ .bad → (d.storeRead k a errs).fab[k] = d.latched k a.toNat ∧
      (d.storeRead k a errs).store = d.store ∧ (d.storeRead k a errs).motors = d.motors) ∧
    ((d.slotDecoded a.toNat errs).getD 0 .bad = .bad → (d.storeRead k a errs).fab[k] = 0 ∧
      (∀ i, i < 4 → (d.storeRead k a errs).slotWord ((a.toNat - 0x100000) / 4) i = 0) ∧
      (d.storeRead k a errs).motors = d.motors) := by
  obtain ⟨ws, hws, heq⟩ := Dev.storeRead_ok errs hin hread hlog hbist
  have hlen := Dev.slotDecoded_length (d := d) (a := a) errs
  have hone : ws = [(d.slotDecoded a.toNat errs).getD 0 .bad] := by
    rw [hws, if_neg h4]
    match d.slotDecoded a.toNat errs, hlen with
    | x :: l, _ => rfl
  obtain ⟨st, hlatch⟩ := d.latchAll_eq k (storeLatches a.toNat ws)
  rw [heq]
  refine ⟨fun hgood => ?_, fun hbad => ?_⟩
  · have hnot : .bad ∉ ws := by
      rw [hone, List.mem_singleton]
      exact Ne.symm hgood
    obtain ⟨⟨hmot, -, -, -⟩, hstore⟩ := (d.latchAll k (storeLatches a.toNat ws)).storeFound_good a.toNat hnot
    refine ⟨?_, hstore.trans (by rw [hlatch]), hmot.trans (by rw [hlatch])⟩
    rw [Dev.putFab_fab_self, if_neg (by simp [h4, hnot])]
  · have hmem : .bad ∈ ws := by rw [hone, hbad]; exact List.mem_singleton.2 rfl
    obtain ⟨⟨hmot, -, -, -⟩, hzero⟩ := (d.latchAll k (storeLatches a.toNat ws)).storeFound_bad a.toNat hmem
    refine ⟨?_, hzero, hmot.trans (by rw [hlatch])⟩
    rw [Dev.putFab_fab_self, if_pos (by simp [hmem]), storeValue, if_pos (by simpa using hmem)]

/-! ### CMD.EMPTY (R291, R292) -/

/-- The store and its books emptied, with n records lost. -/
def Dev.emptyBooks (d : Dev) (n : BitVec 32) : Dev := (((d.put32 0xB486 0).put 0xB499 0).put32 0xB48A 0).book 6 n

theorem Dev.emptyBooks_spec (n : BitVec 32) : (d.emptyBooks n).store = d.store ∧ (d.emptyBooks n).wptr = 0 ∧
    (d.emptyBooks n).w 0xB499 = 0 ∧ (d.emptyBooks n).w32 0xB48A = 0 ∧ (d.emptyBooks n).w32 0xB48E = d.w32 0xB48E + n ∧
    (d.emptyBooks n).motors = d.motors := by
  unfold Dev.emptyBooks
  refine ⟨by simp [Dev.book], ?_, ?_, ?_, ?_, by simp [Dev.book]⟩
  · rw [Dev.wptr, Dev.w32_book_ne _ _ (by decide), Dev.w32_put32_ne _ _ (by decide), Dev.w32_put_ne _ _ (by decide),
      Dev.w32_put32]
    rfl
  · rw [Dev.book, Dev.w_put32, if_neg (by decide), if_neg (by decide), Dev.w_put32, if_neg (by decide), if_neg (by decide),
      Dev.w_put_self]
  · rw [Dev.w32_book_ne _ _ (by decide), Dev.w32_put32]
  · rw [Dev.w32_book_self _ 6, Dev.w32_put32_ne _ _ (by decide), Dev.w32_put_ne _ _ (by decide), Dev.w32_put32_ne _ _ (by decide)]

theorem Dev.emptyStore_spec : d.emptyStore.store = [] ∧ d.emptyStore.wptr = 0 ∧ d.emptyStore.w 0xB499 = 0 ∧
    d.emptyStore.w32 0xB48A = 0 ∧ d.emptyStore.w32 0xB48E = d.w32 0xB48E + d.w32 0xB48A ∧ d.emptyStore.motors = d.motors := by
  obtain ⟨em, hem⟩ : ∃ em, d.emptyStore =
    (({ d with store := [], marks := [], emptied := em } : Dev).emptyBooks (d.w32 0xB48A)).mirrorBooks := ⟨_, rfl⟩
  rw [hem]
  generalize hx : ({ d with store := [], marks := [], emptied := em } : Dev) = x
  have hxw : x.words = d.words := by rw [← hx]
  have hxs : x.store = [] := by rw [← hx]
  have hxm : x.motors = d.motors := by rw [← hx]
  obtain ⟨hstore, hptr, hflags, hreadable, hdisc, hmot⟩ := x.emptyBooks_spec (d.w32 0xB48A)
  generalize x.emptyBooks (d.w32 0xB48A) = y at *
  obtain ⟨⟨hmot', -, -, -⟩, hwords, hstore'⟩ := y.mirrorBooks_keeps
  refine ⟨hstore'.trans (hstore.trans hxs), ?_, ?_, ?_, ?_, hmot'.trans (hmot.trans hxm)⟩
  · rw [Dev.wptr, Dev.w32_congr hwords]
    exact hptr
  · rw [Dev.w_of_words hwords, hflags]
  · rw [Dev.w32_congr hwords, hreadable]
  · rw [Dev.w32_congr hwords, hdisc, Dev.w32_congr hxw]

theorem Dev.writeTraceCmd_empties (v : Word) : ∃ t : Dev, d.writeTraceCmd (withBit v 14 true) = t.emptyStore ∧ t.words = d.words ∧
    t.motors = d.motors := by
  unfold Dev.writeTraceCmd
  dsimp only
  rw [if_pos (by rw [bitOf_withBit _ _ _ _ (by decide) (by decide), if_pos rfl])]
  split
  · exact ⟨_, rfl, rfl, rfl⟩
  · exact ⟨_, rfl, rfl, rfl⟩

/-- Settles O45: a commit by whether the store takes it, a read by its word of the slot and by what decodes, and EMPTY. -/
theorem traceStore : Obligations.TraceStore := by
  intro s
  refine ⟨fun r rest hr hq hlog hrdy => ⟨fun hn he hp => ?_, fun hn he => ?_, fun hn => ?_⟩, fun k a errs hin h4 hread hlog hbist =>
    ⟨fun hgood => ?_, fun hbad => ?_⟩, fun k a errs hin h4 hread hlog hbist => ⟨fun hgood => ?_, fun hbad => ?_⟩, fun k v hw => ?_⟩
  · exact ⟨_, State.onCore_eq hr rfl, s.dev.commitRec_spec hq hrdy hn he hp⟩
  · obtain ⟨hwritten, hdisc, hptr, hstore, hrec⟩ := (s.dev.dequeued rest).discarded_spec
    refine ⟨_, State.onCore_eq hr (Dev.commitRec_emptied hq hrdy hn he), ?_⟩
    generalize (s.dev.dequeued rest).discarded = x at *
    obtain ⟨⟨-, -, -, hrec'⟩, hwords, hstore'⟩ := x.writeMirror_keeps false false
    refine ⟨hrec'.trans hrec, hstore'.trans hstore, (Dev.w32_congr hwords _).trans hwritten, (Dev.w32_congr hwords _).trans hdisc, ?_⟩
    rw [Dev.wptr, Dev.w32_congr hwords]
    exact hptr
  · obtain ⟨hwritten, hdisc, hptr, hstore, hrec⟩ := (s.dev.dequeued rest).discarded_spec
    refine ⟨_, State.onCore_eq hr (Dev.commitRec_discards hq hrdy hn), ?_⟩
    generalize (s.dev.dequeued rest).discarded = x at *
    obtain ⟨⟨-, -, -, hrec'⟩, hwords, hstore'⟩ := x.mirrorBooks_keeps
    refine ⟨hrec'.trans hrec, hstore'.trans hstore, (Dev.w32_congr hwords _).trans hwritten, (Dev.w32_congr hwords _).trans hdisc, ?_⟩
    rw [Dev.wptr, Dev.w32_congr hwords]
    exact hptr
  · exact ⟨s.dev.storeRead k a errs, rfl, s.dev.storeRead_first errs hin h4 hread hlog hbist hgood⟩
  · exact ⟨s.dev.storeRead k a errs, rfl, s.dev.storeRead_first_bad errs hin h4 hread hlog hbist hbad⟩
  · exact ⟨s.dev.storeRead k a errs, rfl, (s.dev.storeRead_other errs hin h4 hread hlog hbist).1 hgood⟩
  · exact ⟨s.dev.storeRead k a errs, rfl, (s.dev.storeRead_other errs hin h4 hread hlog hbist).2 hbad⟩
  · obtain ⟨t, ht, hwords, hmot⟩ := s.dev.writeTraceCmd_empties v
    obtain ⟨hstore, hptr, hflags, hreadable, hdisc, hmot'⟩ := t.emptyStore_spec
    refine ⟨_, State.write_eq ((s.dev.fabWrite_traceCmd k _ hw).trans ht), hstore, hptr, hflags, hreadable, ?_, hmot'.trans hmot⟩
    rw [hdisc, Dev.w32_congr hwords, Dev.w32_congr hwords]

end Sys2Proof.Machine
end

section
/-! Proofs of the statements on device faults (R416 to R420) and on scrubbing (R408 to R412). -/

namespace Sys2Proof.Machine

open Sys2Proof

/-! ### What a device fault keeps -/

/-- The two states agree on the integrity registers up to 0x3C, on E54, on the clock, on the time of the last device fault,
and on the position of the scrub pass. -/
structure Dev.KeepsFault (d e : Dev) : Prop where
  w : ∀ a, 0x30 ≤ a → a < 0x3D → e.w a = d.w a
  ev : e.ev[54] = d.ev[54]
  scrubPos : e.scrubPos = d.scrubPos
  faultAt : e.faultAt = d.faultAt
  cycles : e.cycles = d.cycles

/-- A finding sets the one bit of DFCAUSE that names it, so its fault counts once in E54. -/
theorem bitList_dfBit (f : DfFind) : (bitList (0 ||| 1#16 <<< dfBit f)).length = 1 ∧
    bitOf (0 ||| 1#16 <<< dfBit f) (dfBit f) = true := by
  have h : ∀ n : Fin 5, (bitList (0 ||| 1#16 <<< n.1)).length = 1 ∧ bitOf (0 ||| 1#16 <<< n.1) n.1 = true := by decide
  cases f
  exacts [h 0, h 1, h 2, h 3, h 4]

namespace Dev

theorem KeepsFault.refl (d : Dev) : d.KeepsFault d := ⟨fun _ _ _ => rfl, rfl, rfl, rfl, rfl⟩

theorem KeepsFault.trans {c d e : Dev} (h : c.KeepsFault d) (h' : d.KeepsFault e) : c.KeepsFault e :=
  ⟨fun a ha ha' => (h'.w a ha ha').trans (h.w a ha ha'), h'.ev.trans h.ev, h'.scrubPos.trans h.scrubPos,
    h'.faultAt.trans h.faultAt, h'.cycles.trans h.cycles⟩

theorem KeepsFault.of_sys {d e : Dev} (h : e.sys = d.sys) : d.KeepsFault e :=
  ⟨fun a ha ha' => Dev.sys_w h a (by simp [isSys]; omega), Dev.sys_ev h 54 rfl, congrArg SysView.scrubPos h,
    congrArg SysView.faultAt h, congrArg SysView.cycles h⟩

theorem KeepsFault.ite {c : Prop} [Decidable c] {d x y : Dev} (hx : d.KeepsFault x) (hy : d.KeepsFault y) :
    d.KeepsFault (if c then x else y) := by
  split <;> assumption

theorem keepsFault_when (d : Dev) (c : Bool) (f : Dev → Dev) (h : d.KeepsFault (f d)) : d.KeepsFault (d.when c f) :=
  .ite h (.refl d)

theorem keepsFault_each {α : Type} (l : List α) (f : Dev → α → Dev) (h : ∀ (d : Dev) a, d.KeepsFault (f d a)) (d : Dev) :
    d.KeepsFault (d.each l f) := Dev.each_inv l d (.refl d) fun e a he => he.trans (h e a)

theorem keepsFault_put (d : Dev) {a : Nat} (v : Word) (h : (0x30 ≤ a → a < 0x3D → v = d.w a)) : d.KeepsFault (d.put a v) := by
  refine ⟨fun b hb hb' => ?_, rfl, rfl, rfl, rfl⟩
  by_cases hba : b = a
  · subst hba
    rw [Dev.w_put_self, h hb hb']
  · exact d.w_put_ne v hba

theorem keepsFault_putB (d : Dev) {a : Nat} (i : Nat) (b : Bool) (h : a < 0x30 ∨ 0x3D ≤ a) : d.KeepsFault (d.putB a i b) :=
  d.keepsFault_put _ (by omega)

theorem keepsFault_orW (d : Dev) {a : Nat} (m : Word) (h : a < 0x30 ∨ 0x3D ≤ a) : d.KeepsFault (d.orW a m) :=
  (d.keepsFault_put (d.w a ||| m) (by omega)).trans ⟨fun _ _ _ => rfl, rfl, rfl, rfl, rfl⟩

theorem keepsFault_raise (d : Dev) {i : Nat} (h : isSysSrc i = false) : d.KeepsFault (d.raise i) := .of_sys (Dev.sys_raise d i h)

/-! ### The host ports -/

theorem keepsFault_hostSend (d : Dev) (k : HostIx) (v : Word) : d.KeepsFault (d.hostSend k v) := .of_sys rfl

theorem keepsFault_riseFrame (d : Dev) (k : HostIx) (x : HostArgs) : d.KeepsFault (d.riseFrame k x) := by
  refine .ite (.refl d) ?_
  have hput : d.KeepsFault (d.orW (aHp k 1) (1#16 <<< 0)) := d.keepsFault_orW _ (by unfold aHp; omega)
  have hraise := hput.trans (Dev.keepsFault_raise _ (i := 28 + k.1) (isSysSrc_of_lt (by omega)))
  exact (hraise.trans (Dev.keepsFault_put _ _ (by unfold aHp; omega))).trans (.of_sys rfl)

theorem keepsFault_hostEnd (d : Dev) (k : HostIx) : d.KeepsFault (d.hostEnd k) :=
  d.keepsFault_put _ (by unfold aHp; omega)

theorem keepsFault_hostZeros (d : Dev) (k : HostIx) (n : Nat) : d.KeepsFault (d.hostZeros k n) :=
  Dev.keepsFault_each _ _ (fun e _ => e.keepsFault_hostSend k 0) d

theorem keepsFault_pageWords (d : Dev) (k : HostIx) (n : Nat) : d.KeepsFault (d.pageWords k n) :=
  Dev.keepsFault_each _ _ (fun e v => e.keepsFault_hostSend k v) d

theorem keepsFault_cutReading (d : Dev) (k : HostIx) (r : OpenRead) : d.KeepsFault (d.cutReading k r) := by
  refine KeepsFault.trans ?_ (Dev.keepsFault_hostEnd _ k)
  refine KeepsFault.trans ?_ (Dev.keepsFault_riseFrame _ k _)
  refine KeepsFault.trans ?_ (Dev.keepsFault_hostZeros _ k _)
  exact d.keepsFault_when _ _ (.of_sys rfl)

theorem keepsFault_cutParked (d : Dev) (k : HostIx) (w : HostWait) : d.KeepsFault (d.cutParked k w) := by
  refine KeepsFault.trans ?_ (Dev.keepsFault_hostEnd _ k)
  refine KeepsFault.trans ?_ (Dev.keepsFault_riseFrame _ k _)
  have hstatus : d.KeepsFault (d.statusAgain k w.bad true) := .of_sys rfl
  generalize d.statusAgain k w.bad true = e at hstatus ⊢
  split
  · exact hstatus.trans (e.keepsFault_hostZeros k _)
  · exact hstatus.trans (.ite (e.keepsFault_hostZeros k _) (e.keepsFault_pageWords k _))
  · exact hstatus

theorem keepsFault_cutPort (d : Dev) (k : HostIx) (cut : Bool) : d.KeepsFault (d.cutPort k cut) := by
  unfold Dev.cutPort
  extract_lets x e
  have he : d.KeepsFault e := .of_sys rfl
  clear_value e
  split
  · exact he.trans (e.keepsFault_cutReading k _)
  · exact he.trans (e.keepsFault_cutParked k _)
  · exact he

/-! ### The blocks at a device fault (R418) -/

theorem keepsFault_actBlocks (d : Dev) (cut : Vector Bool 4) : d.KeepsFault (d.actBlocks cut) := by
  refine KeepsFault.trans ?_ (.of_sys ((Dev.sys_rqEnd _ 3 0).trans (Dev.sys_memFault _)))
  refine KeepsFault.trans ?_ (Dev.keepsFault_each _ _ (fun e k => e.keepsFault_cutPort k _) _)
  refine KeepsFault.trans ?_ (.of_sys (Dev.sys_each _ _ (fun e t => (Dev.sys_onTrc _ t _).trans (e.sys_dropSeg t 1)) _))
  refine KeepsFault.trans ?_ (.of_sys (Dev.sys_each _ _ (fun e f => (Dev.sys_onFb _ f _).trans (e.sys_dropSpeed f)) _))
  refine KeepsFault.trans ?_ (.of_sys (Dev.sys_each _ _ Dev.sys_faultPrism _))
  refine KeepsFault.trans ?_ (.of_sys (Dev.sys_each _ _ (fun e g => (Dev.sys_onGrp _ g _).trans
    ((Dev.sys_snapshot _ g).trans ((Dev.sys_resetRR _ g).trans (e.sys_zeroGrants g)))) _))
  exact .of_sys (Dev.sys_each _ _ Dev.sys_faultMotor d)

theorem keepsFault_linkFault (d : Dev) : d.KeepsFault d.linkFault := ⟨fun _ _ _ => rfl, rfl, rfl, rfl, rfl⟩

theorem keepsFault_zeroWords (d : Dev) : d.KeepsFault d.zeroWords :=
  Dev.keepsFault_each _ _ (fun e a => e.keepsFault_put _ fun h h' => by
    have hbits : stateBits a = 0 := by unfold stateBits; rw [if_neg (by omega)]
    rw [hbits, word_and_not_zero]) d

theorem keepsFault_hinCleared (d : Dev) :
    d.KeepsFault (d.each (List.finRange 128) (fun d t => d.putB (aTr t 7) 12 false)) :=
  Dev.keepsFault_each _ _ (fun x t => x.keepsFault_putB 12 false (by unfold aTr; omega)) d

theorem keepsFault_bistState (d : Dev) : d.KeepsFault d.bistState := by
  unfold Dev.bistState
  refine KeepsFault.trans ?_ (Dev.keepsFault_putB _ 13 true (by omega))
  refine KeepsFault.trans ?_ (Dev.keepsFault_hinCleared _)
  have hdrop : d.KeepsFault (d.each (List.finRange 4) Dev.thermDrop) := .of_sys (Dev.sys_each _ _ Dev.sys_thermDrop d)
  dsimp only
  generalize d.each (List.finRange 4) Dev.thermDrop = e at hdrop ⊢
  have hzero := hdrop.trans e.keepsFault_zeroWords
  generalize e.zeroWords = z at hzero ⊢
  exact hzero.trans ⟨fun _ _ _ => rfl, rfl, rfl, rfl, rfl⟩

theorem keepsFault_bistLeave (d : Dev) (tgt : Nat) : d.KeepsFault (d.bistLeave tgt) := by
  unfold Dev.bistLeave
  split
  · exact d.keepsFault_bistState
  · refine KeepsFault.trans ?_ (Dev.keepsFault_put _ _ (by omega))
    exact Dev.keepsFault_each _ _ (fun x p => Dev.keepsFault_each _ _
      (fun y i => y.keepsFault_put _ (by unfold aPrm; omega)) x) d
  · exact .of_sys d.sys_emptyStore
  · exact .of_sys ((Dev.sys_logSession _).trans (Dev.sys_writeMirror _ false false))

theorem keepsFault_bistEnd (d : Dev) (cause : Word) : d.KeepsFault (d.bistEnd cause) := by
  unfold Dev.bistEnd
  split
  · next tgt _ =>
    have he : d.KeepsFault { d with bist := { d.bist with run := none, failed := bitOf cause 1 } } :=
      ⟨fun _ _ _ => rfl, rfl, rfl, rfl, rfl⟩
    dsimp only
    generalize ({ d with bist := _ } : Dev) = e at he ⊢
    refine he.trans (KeepsFault.trans ?_ (.of_sys (Dev.sys_domainsOff _ false)))
    refine KeepsFault.trans ?_ (.of_sys (Dev.sys_cause _ _ _ _ rfl rfl))
    exact (e.keepsFault_put _ (by omega)).trans (Dev.keepsFault_bistLeave _ _)
  · exact .refl d

theorem keepsFault_withLoader (d : Dev) (l : Loader) : d.KeepsFault (d.withLoader l) := ⟨fun _ _ _ => rfl, rfl, rfl, rfl, rfl⟩

theorem keepsFault_loadFails (d : Dev) : d.KeepsFault d.loadFails := by
  unfold Dev.loadFails
  refine .ite ?_ (.refl d)
  have hwhen : d.KeepsFault (d.when (d.cfgPhase = 3) (fun d => d.putB 0x40 11 true)) :=
    d.keepsFault_when _ _ (d.keepsFault_put _ (by omega))
  generalize d.when (d.cfgPhase = 3) (fun d => d.putB 0x40 11 true) = e at hwhen ⊢
  have hphase : e.KeepsFault (e.putF 0x40 2 0 6) := e.keepsFault_put _ (by omega)
  dsimp only
  generalize e.putF 0x40 2 0 6 = f at hphase ⊢
  refine (hwhen.trans hphase).trans (KeepsFault.trans ?_ (.of_sys ((Dev.sys_memNext _).trans (Dev.sys_memRelease _))))
  exact f.keepsFault_withLoader _

theorem keepsFault_faultBlocks (d : Dev) (cut : Vector Bool 4) : d.KeepsFault (d.faultBlocks cut) :=
  (((d.keepsFault_actBlocks cut).trans (Dev.keepsFault_linkFault _)).trans (Dev.keepsFault_bistEnd _ 4)).trans
    (Dev.keepsFault_loadFails _)

theorem keepsFault_cplAfter (d : Dev) : d.KeepsFault d.cplAfter := by
  unfold Dev.cplAfter
  split
  · refine .ite ?_ (.refl d)
    extract_lets e i
    have hwords : d.KeepsFault (d.put32 0x53 e.time) :=
      (d.keepsFault_put _ (by omega)).trans (Dev.keepsFault_put _ _ (by omega))
    have hne : (54 : Fin 64) ≠ i := by
      show 54 ≠ if _ then (56 : Fin 64) else 57
      split <;> decide
    exact ⟨hwords.w, upd_ne _ _ _ _ hne, hwords.scrubPos, hwords.faultAt, hwords.cycles⟩
  · exact .refl d

/-! ### A configuration word that is lost (R421) -/

theorem keepsFault_loseWord (d : Dev) (a : Nat) (v : Word) (h : 0x30 ≤ a → a < 0x3D → v = d.w a) :
    d.KeepsFault (d.loseWord a v) := by
  have hput := d.keepsFault_put v h
  unfold Dev.loseWord
  refine .ite (hput.trans (Dev.keepsFault_when _ _ _ (.of_sys (Dev.sys_seqStopped _ _)))) ?_
  refine .ite (.of_sys (d.sys_writeReq v)) ?_
  refine .ite (hput.trans (.ite (.of_sys (Dev.sys_toIdle _ _)) (.of_sys (Dev.sys_drive _ _)))) ?_
  refine .ite (.of_sys (d.sys_writeSupCfg _ v)) ?_
  refine .ite (hput.trans (.ite (.refl _) (.of_sys rfl))) ?_
  refine .ite (.of_sys (d.sys_writePrmCtrl _ v)) ?_
  refine .ite (.of_sys (d.sys_writeFbCfg _ v)) ?_
  refine .ite (.of_sys (d.sys_writeDcfg v)) ?_
  refine .ite ?_ hput
  extract_lets t
  split
  · exact .of_sys (d.sys_writeTraceSrc t v)
  · exact .of_sys (d.sys_writeTraceTag t v)
  · exact .of_sys (d.sys_writeTraceRate t v)
  · exact hput

/-- No bit of the integrity registers stands in configuration RAM (R424). -/
theorem cfgMask_integrity {a : Nat} (h : 0x30 ≤ a) (h' : a < 0x40) : cfgMask a = 0 := by
  unfold cfgMask
  split
  · exact if_pos ⟨h, h'⟩
  · rfl

theorem keepsFault_loseCfg (d : Dev) (a : Nat) : d.KeepsFault (d.loseCfg a) := by
  refine (d.keepsFault_loseWord a _ fun h h' => ?_).trans (Dev.keepsFault_put _ _ (by omega))
  rw [cfgMask_integrity h (by omega), word_and_not_zero]
  simp

/-! ### The causes of a fault (R409, R416) -/

theorem keepsFault_ueFound (d : Dev) (c a : Nat) : d.KeepsFault (d.ueFound c a) := by
  unfold Dev.ueFound
  extract_lets p lower
  refine .ite (.refl d) ?_
  have hput : d.KeepsFault (d.putErr 0x3D c a) := (d.keepsFault_put _ (by omega)).trans (Dev.keepsFault_put _ _ (by omega))
  exact hput.trans ⟨fun _ _ _ => rfl, rfl, rfl, rfl, rfl⟩

/-- Raises in one cycle leave the words, the blocks and the clock. -/
theorem raiseN_keeps (d : Dev) (i n : Nat) : (d.raiseN i n).words = d.words ∧ (d.raiseN i n).motors = d.motors ∧
    (d.raiseN i n).groups = d.groups ∧ (d.raiseN i n).ports = d.ports ∧ (d.raiseN i n).bist = d.bist ∧
    (d.raiseN i n).scrubPos = d.scrubPos ∧ (d.raiseN i n).faultAt = d.faultAt ∧ (d.raiseN i n).cycles = d.cycles := by
  have hraise : (d.raiseNow i).words = d.words ∧ (d.raiseNow i).motors = d.motors ∧ (d.raiseNow i).groups = d.groups ∧
      (d.raiseNow i).ports = d.ports ∧ (d.raiseNow i).bist = d.bist ∧ (d.raiseNow i).scrubPos = d.scrubPos ∧
      (d.raiseNow i).faultAt = d.faultAt ∧ (d.raiseNow i).cycles = d.cycles := by
    unfold Dev.raiseNow
    split <;> [split; skip] <;> exact ⟨rfl, rfl, rfl, rfl, rfl, rfl, rfl, rfl⟩
  unfold Dev.raiseN
  dsimp only
  generalize d.raiseNow i = e at hraise ⊢
  split
  · exact ⟨rfl, rfl, rfl, rfl, rfl, rfl, rfl, rfl⟩
  · split
    · exact ⟨rfl, rfl, rfl, rfl, rfl, rfl, rfl, rfl⟩
    · split <;> [split; skip] <;> exact hraise

/-- One raise counts once. -/
theorem raiseN_one_cnt {d : Dev} (hr : d.runs = true) {i : Nat} (h : i < 64) (hs : d.hasSrc i = true) :
    (d.raiseN i 1).ev[i].cnt = d.ev[i].cnt + 1 := by
  have hcnt : (d.raiseNow i).ev[i].cnt = d.ev[i].cnt + 1 := by
    have hraise := congrArg EvSrc.cnt (Dev.raise_ev_self hr h hs)
    rwa [Dev.raise, if_neg (by rw [Dev.stands_of_runs hr]; decide)] at hraise
  unfold Dev.raiseN
  rw [if_neg (by decide), if_neg (by rw [Dev.stands_of_runs hr]; decide)]
  dsimp only
  generalize d.raiseNow i = e at hcnt ⊢
  rw [dif_pos h]
  split
  · have hself := upd_self e.ev ⟨i, h⟩ (fun x => { x with cnt := x.cnt + BitVec.ofNat 32 (1 - 1) })
    refine (congrArg EvSrc.cnt hself).trans ?_
    rw [← hcnt]
    simp
  · exact hcnt

/-- DFCAUSE takes the bit of the finding, with E54. -/
def dfRaise (d : Dev) (f : DfFind) : Dev :=
  (d.orW 0x32 (0 ||| 1#16 <<< dfBit f)).raiseN 54 (bitList (0 ||| 1#16 <<< dfBit f)).length

theorem dfRaise_spec {d : Dev} (hr : d.runs = true) (f : DfFind) : (d.dfRaise f).bit 0x32 (dfBit f) = true ∧
    (d.dfRaise f).ev[54].cnt = d.ev[54].cnt + 1 ∧ (∀ a, a ≠ 0x32 → (d.dfRaise f).w a = d.w a) := by
  obtain ⟨hone, hset⟩ := bitList_dfBit f
  obtain ⟨hwords, -⟩ := (d.orW 0x32 (0 ||| 1#16 <<< dfBit f)).raiseN_keeps 54 (bitList (0 ||| 1#16 <<< dfBit f)).length
  refine ⟨?_, ?_, fun a ha => ?_⟩
  · unfold Dev.dfRaise
    rw [Dev.bit, Dev.w_of_words hwords]
    rw [← Dev.bit, Dev.bit_orW]
    unfold bitOf at hset
    rw [hset]
    simp
  · unfold Dev.dfRaise
    rw [hone, raiseN_one_cnt (by rw [Dev.orW_runs, hr]) (by decide) (Dev.hasSrc_of_ge _ (by decide)), Dev.orW_ev]
  · exact (Dev.w_of_words hwords a).trans (d.w_put_ne _ ha)

theorem keepsFault_faultCauses (d : Dev) (f : DfFind) : (d.dfRaise f).KeepsFault (d.faultCauses [f]) := by
  refine KeepsFault.trans ?_ (Dev.keepsFault_each _ _ Dev.keepsFault_loseCfg _)
  show (d.dfRaise f).KeepsFault (match ueOf [f] with
    | some n => (d.dfRaise f).ueFound (n / 2 ^ 24) (n % 2 ^ 24)
    | none => d.dfRaise f)
  split
  · exact Dev.keepsFault_ueFound _ _ _
  · exact .refl _

theorem ueFound_blocks (d : Dev) (c a : Nat) : (d.ueFound c a).motors = d.motors ∧ (d.ueFound c a).groups = d.groups ∧
    (d.ueFound c a).ports = d.ports ∧ (d.ueFound c a).bist = d.bist := by
  unfold Dev.ueFound
  extract_lets p lower
  split <;> exact ⟨rfl, rfl, rfl, rfl⟩

theorem dfRaise_blocks (d : Dev) (f : DfFind) : (d.dfRaise f).motors = d.motors ∧ (d.dfRaise f).groups = d.groups ∧
    (d.dfRaise f).ports = d.ports ∧ (d.dfRaise f).bist = d.bist ∧ (d.dfRaise f).faultAt = d.faultAt ∧
    (d.dfRaise f).cycles = d.cycles ∧ (d.dfRaise f).scrubPos = d.scrubPos := by
  obtain ⟨-, hmot, hgrp, hports, hbist, hpos, hat, hcyc⟩ :=
    (d.orW 0x32 (0 ||| 1#16 <<< dfBit f)).raiseN_keeps 54 (bitList (0 ||| 1#16 <<< dfBit f)).length
  exact ⟨hmot, hgrp, hports, hbist, hat, hcyc, hpos⟩

/-- A finding outside configuration RAM changes no block. -/
theorem faultCauses_blocks (d : Dev) {f : DfFind} (hf : ∀ a, f ≠ .cfgUe a) : (d.faultCauses [f]).motors = d.motors ∧
    (d.faultCauses [f]).groups = d.groups ∧ (d.faultCauses [f]).ports = d.ports ∧ (d.faultCauses [f]).bist = d.bist := by
  obtain ⟨hmot, hgrp, hports, hbist, -⟩ := d.dfRaise_blocks f
  have heq : d.faultCauses [f] = match ueOf [f] with
      | some n => (d.dfRaise f).ueFound (n / 2 ^ 24) (n % 2 ^ 24)
      | none => d.dfRaise f := by
    cases f
    case cfgUe a => exact absurd rfl (hf a)
    all_goals rfl
  rw [heq]
  split
  · obtain ⟨h1, h2, h3, h4⟩ := (d.dfRaise f).ueFound_blocks _ _
    exact ⟨h1.trans hmot, h2.trans hgrp, h3.trans hports, h4.trans hbist⟩
  · exact ⟨hmot, hgrp, hports, hbist⟩

/-! ### A device fault (R416 to R420) -/

/-- The two halves of a 32-bit quantity make it up. -/
theorem append_halves (v : BitVec 32) : hi16 v ++ lo16 v = v := by
  have h := ({} : Dev).w32_put32 0 v
  rwa [Dev.w32, Dev.w_put32, Dev.w_put32, if_pos rfl, if_neg (by decide), if_pos rfl] at h

/-- A fault of its own is counted and stamped. -/
def faultStamp (d : Dev) : Dev := { (d.inc 0x36).stamp 0x37 with faultAt := some d.cycles }

theorem faultStamp_spec (d : Dev) : d.faultStamp.faultAt = some d.cycles ∧
    d.faultStamp.fld 0x36 15 0 = min 65535 (d.fld 0x36 15 0 + 1) ∧ d.faultStamp.w32 0x37 = d.time ∧
    d.faultStamp.w 0x32 = d.w 0x32 ∧ d.faultStamp.ev = d.ev ∧ d.faultStamp.motors = d.motors ∧ d.faultStamp.bist = d.bist ∧
    d.faultStamp.scrubPos = d.scrubPos := by
  have hinc : (d.inc 0x36).time = d.time := Dev.inc_time d 0x36
  have hfld : (d.inc 0x36).fld 0x36 15 0 = min 65535 (d.fld 0x36 15 0 + 1) := d.fld_inc_self 0x36
  have hw : (d.inc 0x36).w 0x32 = d.w 0x32 := d.w_put_ne _ (by decide)
  have hkeeps : (d.inc 0x36).ev = d.ev ∧ (d.inc 0x36).motors = d.motors ∧ (d.inc 0x36).bist = d.bist ∧
    (d.inc 0x36).scrubPos = d.scrubPos := ⟨rfl, rfl, rfl, rfl⟩
  unfold Dev.faultStamp
  generalize d.inc 0x36 = e at hinc hfld hw hkeeps ⊢
  obtain ⟨hev, hmot, hbist, hpos⟩ := hkeeps
  have hlo := e.stamp_w_lo 0x37
  have hhi := e.stamp_w_hi 0x37
  have h36 : (e.stamp 0x37).w 0x36 = e.w 0x36 := e.stamp_w_ne (Or.inl (by decide))
  have h32 : (e.stamp 0x37).w 0x32 = e.w 0x32 := e.stamp_w_ne (Or.inl (by decide))
  have hfields : (e.stamp 0x37).ev = e.ev ∧ (e.stamp 0x37).motors = e.motors ∧ (e.stamp 0x37).bist = e.bist ∧
    (e.stamp 0x37).scrubPos = e.scrubPos := by simp
  generalize e.stamp 0x37 = x at hlo hhi h36 h32 hfields ⊢
  obtain ⟨h1, h2, h3, h4⟩ := hfields
  refine ⟨rfl, ?_, ?_, h32.trans hw, h1.trans hev, h2.trans hmot, h3.trans hbist, h4.trans hpos⟩
  · exact (congrArg (fun v => bits v 15 0) h36).trans hfld
  · show x.w32 0x37 = d.time
    rw [← hinc]
    rw [Dev.w32, hhi, hlo]
    exact append_halves _

theorem fault_again (d : Dev) (fs : List DfFind) (cut : Vector Bool 4) {t : Nat} (hat : d.faultAt = some t)
    (ht : d.cycles ≤ t + 64) : d.fault fs cut = d.faultCauses fs := by
  simp only [Dev.fault, hat, ht, decide_true, if_pos]

theorem fault_new (d : Dev) (fs : List DfFind) (cut : Vector Bool 4) (ht : ∀ t, d.faultAt = some t → t + 64 < d.cycles) :
    d.fault fs cut = (((d.faultCauses fs).faultStamp).faultBlocks cut).cplAfter := by
  unfold Dev.fault
  extract_lets same
  rw [if_neg]
  · rfl
  · show ¬ (match d.faultAt with | some t => decide (d.cycles ≤ t + 64) | none => false) = true
    cases h : d.faultAt with
    | none => simp
    | some t => simpa using ht t h

/-- Whatever else a fault does, it keeps what its cause has recorded. -/
theorem fault_keeps (d : Dev) (f : DfFind) (cut : Vector Bool 4) : (d.fault [f] cut).w 0x32 = (d.dfRaise f).w 0x32 ∧
    (d.fault [f] cut).ev[54] = (d.dfRaise f).ev[54] ∧ (d.fault [f] cut).scrubPos = d.scrubPos := by
  obtain ⟨-, -, -, -, -, -, hpos⟩ := d.dfRaise_blocks f
  have hcauses := d.keepsFault_faultCauses f
  obtain ⟨-, -, -, hw, hstampEv, -, -, hstampPos⟩ := (d.faultCauses [f]).faultStamp_spec
  have hnew := (Dev.keepsFault_faultBlocks (d.faultCauses [f]).faultStamp cut).trans (Dev.keepsFault_cplAfter _)
  unfold Dev.fault
  extract_lets same
  split
  · exact ⟨hcauses.w _ (by decide) (by decide), hcauses.ev, hcauses.scrubPos.trans hpos⟩
  · exact ⟨(hnew.w 0x32 (by decide) (by decide)).trans (hw.trans (hcauses.w _ (by decide) (by decide))),
      hnew.ev.trans ((congrArg (·[54]) hstampEv).trans hcauses.ev),
      hnew.scrubPos.trans (hstampPos.trans (hcauses.scrubPos.trans hpos))⟩

/-- One finding: its cause bit with E54. -/
theorem fault_cause {d : Dev} (hr : d.runs = true) (f : DfFind) (cut : Vector Bool 4) :
    (d.fault [f] cut).bit 0x32 (dfBit f) = true ∧ (d.fault [f] cut).ev[54].cnt = d.ev[54].cnt + 1 := by
  obtain ⟨hbit, hcnt, -⟩ := Dev.dfRaise_spec hr f
  obtain ⟨hw, hev, -⟩ := d.fault_keeps f cut
  exact ⟨(Dev.bit_congr hw _).trans hbit, (congrArg EvSrc.cnt hev).trans hcnt⟩

theorem cplAfter_mot (d : Dev) (m : MotorIx) : d.cplAfter.mot m = d.mot m := by
  unfold Dev.cplAfter
  split
  · split <;> rfl
  · rfl

/-- A fault within 64 ticks of an earlier one sets its cause alone. -/
theorem fault_again_spec (d : Dev) {f : DfFind} (hf : ∀ a, f ≠ .cfgUe a) (cut : Vector Bool 4) {t : Nat}
    (hat : d.faultAt = some t) (ht : d.cycles ≤ t + 64) : (d.fault [f] cut).motors = d.motors ∧
      (d.fault [f] cut).faultAt = d.faultAt ∧ (d.fault [f] cut).w 0x36 = d.w 0x36 ∧
      (d.fault [f] cut).groups = d.groups ∧ (d.fault [f] cut).ports = d.ports := by
  obtain ⟨hmot, hgrp, hports, -⟩ := d.faultCauses_blocks hf
  obtain ⟨-, -, -, -, hat', -⟩ := d.dfRaise_blocks f
  have hcauses := d.keepsFault_faultCauses f
  rw [Dev.fault_again d [f] cut hat ht]
  refine ⟨hmot, hcauses.faultAt.trans hat', (hcauses.w 0x36 (by decide) (by decide)).trans ?_, hgrp, hports⟩
  exact (d.orW 0x32 (0 ||| 1#16 <<< dfBit f)).w_of_words (Dev.raiseN_keeps _ _ _).1 0x36 |>.trans (d.w_put_ne _ (by decide))

/-- A fault of its own is counted and stamped, and sends every motor outside IDLE to FAULT. -/
theorem fault_new_spec (d : Dev) (hb : d.bist.run = none) {f : DfFind} (hf : ∀ a, f ≠ .cfgUe a) (cut : Vector Bool 4)
    (ht : ∀ t, d.faultAt = some t → t + 64 < d.cycles) : (d.fault [f] cut).faultAt = some d.cycles ∧
      (d.fault [f] cut).fld 0x36 15 0 = min 65535 (d.fld 0x36 15 0 + 1) ∧ (d.fault [f] cut).w32 0x37 = d.time ∧
      (∀ m, ((d.fault [f] cut).mot m).state = if (d.mot m).state = .idle then .idle else .fault) := by
  obtain ⟨hmot, -, -, hbist⟩ := d.faultCauses_blocks hf
  obtain ⟨-, -, -, -, -, hcyc, -⟩ := d.dfRaise_blocks f
  have hcauses := d.keepsFault_faultCauses f
  have h36 : (d.faultCauses [f]).w 0x36 = d.w 0x36 := (hcauses.w 0x36 (by decide) (by decide)).trans
    ((d.orW 0x32 (0 ||| 1#16 <<< dfBit f)).w_of_words (Dev.raiseN_keeps _ _ _).1 0x36 |>.trans (d.w_put_ne _ (by decide)))
  have hcycles : (d.faultCauses [f]).cycles = d.cycles := hcauses.cycles.trans hcyc
  rw [Dev.fault_new d [f] cut ht]
  obtain ⟨hat, hcnt, htime, -, -, hmotS, hbistS, -⟩ := (d.faultCauses [f]).faultStamp_spec
  have hnew := (Dev.keepsFault_faultBlocks (d.faultCauses [f]).faultStamp cut).trans (Dev.keepsFault_cplAfter _)
  refine ⟨hnew.faultAt.trans (hat.trans (congrArg some hcycles)), ?_, ?_, fun m => ?_⟩
  · refine (Dev.fld_congr (hnew.w 0x36 (by decide) (by decide)) 15 0).trans (hcnt.trans ?_)
    rw [Dev.fld_congr h36 15 0]
  · rw [Dev.w32, hnew.w _ (by decide) (by decide), hnew.w _ (by decide) (by decide)]
    refine htime.trans ?_
    unfold Dev.time
    rw [hcycles]
  · rw [Dev.cplAfter_mot, Dev.faultBlocks_states _ cut (by rw [hbistS, hbist, hb]) m, Dev.mot, hmotS, hmot]
    rfl

end Dev

/-- Settles O23: DFCAUSE and E54 by the causes of a fault, the rest by whether the fault is one of its own. -/
theorem deviceFaults : Obligations.DeviceFaults := by
  refine ⟨fun s f cut hr hb hf => ?_, fun s m n hr hst hdf hauto hheld => ⟨fun hn => ?_, fun hn => ?_⟩⟩
  · have hfound : s.dev.bistFound [] = s.dev := by
      unfold Dev.bistFound
      rw [hb]
    have hexec : exec (.deviceFault [f] cut) s = .next { s with dev := s.dev.fault [f] cut } :=
      State.onCore_eq (f := fun d => if [f] = [] then d else (d.bistFound []).fault [f] cut) hr
        ((if_neg (List.cons_ne_nil f [])).trans (congrArg (fun d => d.fault [f] cut) hfound))
    obtain ⟨hbit, hev⟩ := Dev.fault_cause hr f cut
    exact ⟨_, hexec, hbit, hev, fun t hat ht => s.dev.fault_again_spec hf cut hat ht, s.dev.fault_new_spec hb hf cut⟩
  · have hend : s.dev.holdEnd m = s.dev.toIdle m := by
      simp [Dev.holdEnd, hr, hst, hdf, hauto, hheld, hn]
    exact ⟨_, State.onDev_eq (f := fun d => d.holdEnd m) hend, s.dev.toIdle_state m, fun o ho => s.dev.toIdle_state_ne m ho⟩
  · have hstays : s.dev.holdEnd m = s.dev := by
      simp [Dev.holdEnd, hheld, Nat.not_le.mpr hn]
    exact State.onDev_eq (f := fun d => d.holdEnd m) hstays

/-! ### Scrubbing (R408 to R412) -/

theorem nextRead_ok (ok : Nat → Bool) : ∀ fuel a, nextRead ok fuel a < a + fuel → ok (nextRead ok fuel a) = true
  | 0, a, h => absurd h (by simp [nextRead])
  | fuel + 1, a, h => by
    unfold nextRead at h ⊢
    split at h
    · rename_i hok
      rwa [if_pos hok]
    · rename_i hno
      rw [if_neg hno]
      exact nextRead_ok ok fuel (a + 1) (by omega)

namespace Dev

/-- The next scrub read, where it is one of configuration RAM, finds a word that is kept there and not under test. -/
theorem scrubNext_ok {d : Dev} {n : Nat} (h : d.scrubNext = n) (hn : n < 0x10000) :
    cfgMask n ≠ 0 ∧ d.underTest n = false := by
  unfold Dev.scrubNext stateBase stateWords at h
  extract_lets ok m at h
  have hm : m = n := by
    split at h
    · omega
    · exact h
  have hok : ok n = true := by
    rw [← hm]
    by_cases hpos : d.scrubPos < 0x10000
    · have hread : m = nextRead ok (0x10000 - d.scrubPos) d.scrubPos := if_pos hpos
      rw [hread]
      exact nextRead_ok ok _ _ (by omega)
    · have hread : m = d.scrubPos := if_neg hpos
      omega
  simpa [ok] using hok

/-- A configuration word that is kept in RAM is none of the integrity registers (R424). -/
theorem integrity_ne {n : Nat} (h : cfgMask n ≠ 0) {a : Nat} (ha : 0x30 ≤ a) (ha' : a < 0x40) : n ≠ a :=
  fun e => h (e ▸ cfgMask_integrity ha ha')

theorem scrubPos_takeRam (d : Dev) (n : Nat) (v : Word) : (d.takeRam n v).scrubPos = d.scrubPos := by
  unfold Dev.takeRam Dev.takeCfg
  split <;> rfl

theorem scrubPos_ceFound (d : Dev) (c a : Nat) : (d.ceFound c a).scrubPos = d.scrubPos := by
  unfold Dev.ceFound
  dsimp only
  split <;> simp [Dev.cause, Dev.putErr]

theorem scrubPos_ramFound (d : Dev) (n : Nat) (err : BitVec 28) (cut : Vector Bool 4) :
    (d.ramFound n err cut).1.scrubPos = d.scrubPos := by
  unfold Dev.ramFound
  split
  · rfl
  · split
    · exact d.scrubPos_takeRam n _
    · exact (Dev.scrubPos_ceFound _ _ _).trans (d.scrubPos_takeRam n _)
    · obtain ⟨-, -, hpos⟩ := d.fault_keeps (ramFault n) cut
      exact hpos

theorem scrubPos_engineRead (d : Dev) (cut : Vector Bool 4) (f : RamFind) : (d.engineRead cut f).scrubPos = d.scrubPos := by
  unfold Dev.engineRead
  split
  · split
    · exact d.scrubPos_ramFound _ _ _
    · rfl
  · unfold Dev.ramRead
    split
    · rfl
    · exact d.scrubPos_ramFound _ _ _

/-- The pass stands behind the word that it reads. -/
def scrubbed (d : Dev) (n : Nat) : Dev := { d with scrubPos := n + 1 }

/-- A scrub read of configuration RAM is a read of the next word alone. -/
theorem scrub_cfg (d : Dev) {n : Nat} (h : d.scrubNext = n) (hn : n < 0x10000) (err : BitVec 28) (cut : Vector Bool 4) :
    d.scrub err cut = ((d.scrubbed n).ramFound n err cut).1 := by
  have hpos := (d.scrubbed n).scrubPos_ramFound n err cut
  unfold Dev.scrub
  rw [h]
  dsimp only
  rw [if_neg (by unfold stateBase stateWords; omega)]
  refine if_neg ?_
  have hpos' : ((d.scrubbed n).ramFound n err cut).1.scrubPos = n + 1 := hpos
  show ¬ stateBase + stateWords ≤ ((d.scrubbed n).ramFound n err cut).1.scrubPos
  rw [hpos']
  unfold stateBase stateWords
  omega

/-- A corrected word is counted and its address kept (R408). -/
theorem ceRecorded_spec (d : Dev) (c a : Nat) : ((d.inc 0x3A).putErr 0x3B c a).fld 0x3A 15 0 = min 65535 (d.fld 0x3A 15 0 + 1) ∧
    ((d.inc 0x3A).putErr 0x3B c a).w 0x3B = word a ∧
    ((d.inc 0x3A).putErr 0x3B c a).w 0x3C = word (c * 4096 + a / 65536 % 256) ∧
    d.SameWords ((d.inc 0x3A).putErr 0x3B c a) [0x3A, 0x3B, 0x3C] := by
  have hcnt := d.fld_inc_self 0x3A
  have hinc : d.SameWords (d.inc 0x3A) [0x3A] := d.sameWords_inc 0x3A
  generalize d.inc 0x3A = e at hcnt hinc ⊢
  refine ⟨?_, ?_, Dev.w_put_self _ _ _, ?_⟩
  · refine (Dev.fld_congr ?_ 15 0).trans hcnt
    exact (Dev.w_put_ne _ _ (by decide)).trans (e.w_put_ne _ (by decide))
  · exact (Dev.w_put_ne _ _ (by decide)).trans (e.w_put_self _ _)
  · refine (hinc.mono (by simp)).trans ?_
    exact (Dev.sameWords_put _ _ (by simp)).trans (Dev.sameWords_put _ _ (by simp))

theorem ceRecorded_keeps (d : Dev) (c a : Nat) : ((d.inc 0x3A).putErr 0x3B c a).backs = d.backs ∧
    ((d.inc 0x3A).putErr 0x3B c a).motors = d.motors := by
  simp [Dev.putErr]

/-- What a corrected word is recorded as (R408, R412). -/
theorem ceFound_spec (d : Dev) (c a : Nat) :
    (d.ceFound c a).fld 0x3A 15 0 = min 65535 (d.fld 0x3A 15 0 + 1) ∧ (d.ceFound c a).w 0x3B = word a ∧
      (d.ceFound c a).w 0x3C = word (c * 4096 + a / 65536 % 256) ∧ (d.ceFound c a).backs = d.backs ∧
      (d.ceFound c a).motors = d.motors ∧ d.SameWords (d.ceFound c a) [0x31, 0x3A, 0x3B, 0x3C] := by
  obtain ⟨hcnt, hlo, hhi, hsame⟩ := d.ceRecorded_spec c a
  obtain ⟨hbacks, hmot⟩ := d.ceRecorded_keeps c a
  unfold Dev.ceFound
  dsimp only
  generalize (d.inc 0x3A).putErr 0x3B c a = e at hcnt hlo hhi hsame hbacks hmot ⊢
  have hsame' : d.SameWords e [0x31, 0x3A, 0x3B, 0x3C] := hsame.mono (by simp)
  split
  · have hraise : e.SameWords ((({ e with scrubCe := e.scrubCe + 1 } : Dev)).cause 0x31 1 53) [0x31] := Dev.sameWords_cause _ _ _ _
    have hcause : ((({ e with scrubCe := e.scrubCe + 1 } : Dev)).cause 0x31 1 53).backs = e.backs ∧
        ((({ e with scrubCe := e.scrubCe + 1 } : Dev)).cause 0x31 1 53).motors = e.motors := by
      simp [Dev.cause]
    generalize (({ e with scrubCe := e.scrubCe + 1 } : Dev)).cause 0x31 1 53 = x at hraise hcause ⊢
    exact ⟨(Dev.fld_congr (hraise 0x3A (by decide)) 15 0).trans hcnt, (hraise 0x3B (by decide)).trans hlo,
      (hraise 0x3C (by decide)).trans hhi, hcause.1.trans hbacks, hcause.2.trans hmot, hsame'.trans (hraise.mono (by simp))⟩
  · exact ⟨hcnt, hlo, hhi, hbacks, hmot, hsame'⟩

/-- A read that is not clean has met an error. -/
theorem err_ne_zero {w : Word} {err : BitVec 28} (h : decode28 (encode28 w ^^^ err) ≠ .clean w) : err ≠ 0#28 := fun he =>
  h (by rw [he, BitVec.xor_zero, decode28_encode28])

theorem ramFound_corrected {d : Dev} {n : Nat} {err : BitVec 28} {v : Word} (hn : n < 0x10000) (ht : d.underTest n = false)
    (hv : decode28 (encode28 (d.w n) ^^^ err) = .corrected v) (cut : Vector Bool 4) :
    (d.ramFound n err cut).1 = { (d.takeCfg n v).ceFound 0 n with backs := ((d.takeCfg n v).ceFound 0 n).backs ++ [(n, v)] } := by
  have hne : err ≠ 0#28 := err_ne_zero (by rw [hv]; simp)
  have hbase : n < stateBase := hn
  unfold Dev.ramFound Dev.takeRam
  simp [hne, ht, hbase, hv]

theorem ramFound_bad {d : Dev} {n : Nat} {err : BitVec 28} (hn : n < 0x10000) (ht : d.underTest n = false)
    (hv : decode28 (encode28 (d.w n) ^^^ err) = .bad) (cut : Vector Bool 4) :
    (d.ramFound n err cut).1 = d.fault [.cfgUe (BitVec.ofNat 24 n)] cut := by
  have hne : err ≠ 0#28 := err_ne_zero (by rw [hv]; simp)
  have hbase : n < stateBase := hn
  unfold Dev.ramFound ramFault
  simp [hne, ht, hbase, hv]

/-- A word that is written back as corrected is one that no newer write has replaced, so it stays. -/
theorem writeBack_spec (d : Dev) {n : Nat} {v : Word} {rest : List (Nat × Word)} (h : d.backs = (n, v) :: rest) :
    (∀ a, d.writeBack.w a = d.w a) ∧ d.writeBack = { d with backs := rest, words := d.writeBack.words } := by
  unfold Dev.writeBack
  rw [h]
  dsimp only
  split
  · rename_i hsame
    unfold Dev.takeRam
    split
    · refine ⟨fun a => ?_, rfl⟩
      have hself : (d.w n &&& ~~~cfgMask n) ||| (v &&& cfgMask n) = d.w n := by
        rw [← show d.w n &&& cfgMask n = v &&& cfgMask n from hsame]
        ext i
        simp
        grind
      by_cases ha : a = n
      · subst ha
        exact (Dev.w_put_self _ _ _).trans hself
      · exact Dev.w_put_ne _ _ ha
    · exact ⟨fun _ => rfl, rfl⟩
  · exact ⟨fun _ => rfl, rfl⟩

/-- A scrub read that finds its word correctable: what it leaves. -/
theorem scrub_corrected (d : Dev) {n : Nat} {err : BitVec 28} {v : Word} (hlt : n < 0x10000) (hmask : cfgMask n ≠ 0)
    (htest : d.underTest n = false) (hv : decode28 (encode28 (d.w n) ^^^ err) = .corrected v) :
    let e := ((d.scrubbed n).ramFound n err noCut).1
    e.w n = (d.w n &&& ~~~cfgMask n) ||| (v &&& cfgMask n) ∧ e.fld 0x3A 15 0 = min 65535 (d.fld 0x3A 15 0 + 1) ∧
    e.w 0x3B = word n ∧ e.w 0x3C = word (n / 65536 % 256) ∧ e.backs = d.backs ++ [(n, v)] ∧ e.scrubPos = n + 1 ∧
    e.motors = d.motors ∧ d.SameWords e [n, 0x31, 0x3A, 0x3B, 0x3C] := by
  have hne : ∀ {a}, 0x30 ≤ a → a < 0x40 → a ≠ n := fun h h' => (Dev.integrity_ne hmask h h').symm
  have hwn : ((d.scrubbed n).takeCfg n v).w n = (d.w n &&& ~~~cfgMask n) ||| (v &&& cfgMask n) := Dev.w_put_self _ _ _
  have htake : d.SameWords ((d.scrubbed n).takeCfg n v) [n] := Dev.sameWords_put (d.scrubbed n) _ (by simp)
  have h3A : ((d.scrubbed n).takeCfg n v).fld 0x3A 15 0 = d.fld 0x3A 15 0 :=
    Dev.fld_congr (Dev.w_put_ne _ _ (hne (by decide) (by decide))) 15 0
  have hparts : ((d.scrubbed n).takeCfg n v).backs = d.backs ∧ ((d.scrubbed n).takeCfg n v).motors = d.motors ∧
    ((d.scrubbed n).takeCfg n v).scrubPos = n + 1 := ⟨rfl, rfl, rfl⟩
  rw [Dev.ramFound_corrected (d := d.scrubbed n) hlt htest hv noCut]
  generalize (d.scrubbed n).takeCfg n v = x at hwn htake h3A hparts
  obtain ⟨hxbacks, hxmot, hxpos⟩ := hparts
  obtain ⟨hcnt, hlo, hhi, hbacks, hmot, hsame⟩ := x.ceFound_spec 0 n
  have hpos := x.scrubPos_ceFound 0 n
  generalize x.ceFound 0 n = y at *
  refine ⟨?_, hcnt.trans (by rw [h3A]), hlo, hhi.trans (by rw [Nat.zero_mul, Nat.zero_add]), ?_, hpos.trans hxpos,
    hmot.trans hxmot, ?_⟩
  · refine (hsame n ?_).trans hwn
    simp only [List.mem_cons, List.not_mem_nil, or_false, not_or]
    exact ⟨(hne (by decide) (by decide)).symm, (hne (by decide) (by decide)).symm, (hne (by decide) (by decide)).symm,
      (hne (by decide) (by decide)).symm⟩
  · exact congrArg (· ++ [(n, v)]) (hbacks.trans hxbacks)
  · exact (htake.mono (by simp)).trans (hsame.mono (by simp))

end Dev

/-- Settles O25: each reading of the next word by what its decoder delivers, and the wait by the position that an access of
an engine keeps. -/
theorem scrubbing : Obligations.Scrubbing := by
  intro s hr
  refine ⟨fun err n hn hlt => ?_, fun err f firsts cut => ?_, fun n v rest h => ?_⟩
  · have hexec : exec (.scrubRead err) s = .next { s with dev := ((s.dev.scrubbed n).ramFound n err noCut).1 } :=
      State.onCore_eq (f := fun d => d.scrubTurn err [] noCut) hr (s.dev.scrub_cfg hn hlt err noCut)
    obtain ⟨hmask, htest⟩ := Dev.scrubNext_ok hn hlt
    refine ⟨fun herr => ?_, fun v hv => ?_, fun hv => ?_⟩
    · have hnone : ((s.dev.scrubbed n).ramFound n err noCut).1 = s.dev.scrubbed n := by
        unfold Dev.ramFound
        simp [herr]
      rw [hnone] at hexec
      exact ⟨_, hexec, fun _ => rfl, rfl⟩
    · exact ⟨_, hexec, s.dev.scrub_corrected hlt hmask htest hv⟩
    · have hfound := Dev.ramFound_bad (d := s.dev.scrubbed n) hlt htest hv noCut
      rw [hfound] at hexec
      exact ⟨_, hexec, Dev.fault_cause (d := s.dev.scrubbed n) hr _ noCut⟩
  · refine ⟨_, State.onCore_eq (f := fun d => d.scrubTurn err (f :: firsts) cut) hr rfl, ?_⟩
    exact Dev.each_inv (P := fun e => e.scrubPos = s.dev.scrubPos) (f :: firsts) s.dev rfl
      fun e a he => (e.scrubPos_engineRead cut a).trans he
  · exact ⟨_, State.onCore_eq (f := Dev.writeBack) hr rfl, s.dev.writeBack_spec h⟩

end Sys2Proof.Machine
end

section
/-! What switching a power domain leaves of the power control and of the thermal registers: one equation for each operation. -/

namespace Sys2Proof.Machine

open Sys2Proof

/-- A word of the power control or of the thermal system outside its sensors (R463 to R465). -/
def isPowWord (a : Nat) : Bool := decide (0x800 ≤ a ∧ a < 0x810) || decide (0x1000 ≤ a ∧ a < 0x1010)

/-- An event source of the thermal system or of the power domains. -/
def isPowSrc (i : Nat) : Bool := decide (24 ≤ i ∧ i ≤ 27) || i == 58

/-- The power control without the state of PLL_PRISM. -/
def Power.sansPll (p : Power) : Power := { p with prismLock := false, prismLost := false }

/-- What an argument on the power domains watches. -/
structure PowView where
  part : Part
  resetN : Bool
  locked : Bool
  cycles : Nat
  bist : Bist
  loader : Loader
  power : Power
  words : Nat → Word
  ev : Fin 64 → EvSrc
  evLate : List Nat

/-- The watched parts as they stand. -/
def Dev.pow (d : Dev) : PowView where
  part := d.part
  resetN := d.resetN
  locked := d.locked
  cycles := d.cycles
  bist := d.bist
  loader := d.loader
  power := d.power.sansPll
  words := fun a => if isPowWord a then d.w a else 0
  ev := fun i => if isPowSrc i.1 then d.ev[i] else {}
  evLate := d.evLate

/-! ### Reading the view -/

section

variable {d e : Dev} (h : e.pow = d.pow)
include h

theorem Dev.pow_w {a : Nat} (ha : isPowWord a = true) : e.w a = d.w a := by
  have hw : (if isPowWord a then e.w a else 0) = (if isPowWord a then d.w a else 0) := congrFun (congrArg PowView.words h) a
  rwa [if_pos ha, if_pos ha] at hw

theorem Dev.pow_bit {a : Nat} (ha : isPowWord a = true) (i : Nat) : e.bit a i = d.bit a i := Dev.bit_congr (Dev.pow_w h ha) i

theorem Dev.pow_ev {i : Fin 64} (hi : isPowSrc i.1 = true) : e.ev[i] = d.ev[i] := by
  have hev : (if isPowSrc i.1 then e.ev[i] else {}) = (if isPowSrc i.1 then d.ev[i] else {}) :=
    congrFun (congrArg PowView.ev h) i
  rwa [if_pos hi, if_pos hi] at hev

theorem Dev.pow_evLate : e.evLate = d.evLate := congrArg PowView.evLate h

theorem Dev.pow_resetN : e.resetN = d.resetN := congrArg PowView.resetN h

theorem Dev.pow_locked : e.locked = d.locked := congrArg PowView.locked h

theorem Dev.pow_domOn (n : Nat) : e.domOn n = d.domOn n := Dev.pow_bit h rfl n

end

/-! ### Words outside the watched ones -/

theorem isPowWord_eq_false {a : Nat} (h : 0x1010 ≤ a) : isPowWord a = false := by
  unfold isPowWord
  rw [decide_eq_false (by omega), decide_eq_false (by omega)]
  rfl

@[simp] theorem isPowWord_aSen (s : SensorIx) (o : Nat) : isPowWord (aSen s o) = false := isPowWord_eq_false (by unfold aSen; omega)
@[simp] theorem isPowWord_aMot (m : MotorIx) (o : Nat) : isPowWord (aMot m o) = false := isPowWord_eq_false (by unfold aMot; omega)
@[simp] theorem isPowWord_aMot_succ (m : MotorIx) (o : Nat) : isPowWord (aMot m o + 1) = false :=
  isPowWord_eq_false (by unfold aMot; omega)
@[simp] theorem isPowWord_aPrm (p : GroupIx) (o : Nat) : isPowWord (aPrm p o) = false := isPowWord_eq_false (by unfold aPrm; omega)
@[simp] theorem isPowWord_aAcc (p : GroupIx) (a o : Nat) : isPowWord (aAcc p a o) = false :=
  isPowWord_eq_false (by unfold aAcc aPrm; omega)
@[simp] theorem isPowWord_aTrk (p : GroupIx) (t o : Nat) : isPowWord (aTrk p t o) = false :=
  isPowWord_eq_false (by unfold aTrk aPrm; omega)
@[simp] theorem isPowWord_aCur (m : MotorIx) (o : Nat) : isPowWord (aCur m o) = false := isPowWord_eq_false (by unfold aCur; omega)
@[simp] theorem isPowWord_aBus (g : GroupIx) (o : Nat) : isPowWord (aBus g o) = false := isPowWord_eq_false (by unfold aBus; omega)
@[simp] theorem isPowWord_aSup (g : GroupIx) (o : Nat) : isPowWord (aSup g o) = false := isPowWord_eq_false (by unfold aSup; omega)
@[simp] theorem isPowWord_aTr (t : TraceIx) (o : Nat) : isPowWord (aTr t o) = false := isPowWord_eq_false (by unfold aTr; omega)
@[simp] theorem isPowWord_stat : isPowWord 0x810 = false := rfl

namespace Dev

variable (d : Dev)

/-! ### Updates -/

@[simp] theorem pow_put (a : Nat) (v : Word) (h : isPowWord a = false) : (d.put a v).pow = d.pow := by
  unfold Dev.pow
  congr 1
  funext b
  by_cases e : b = a
  · subst e; rw [h]; rfl
  · rw [d.w_put_ne v e]

@[simp] theorem pow_putB (a i : Nat) (b : Bool) (h : isPowWord a = false) : (d.putB a i b).pow = d.pow := d.pow_put a _ h
@[simp] theorem pow_putF (a hi lo v : Nat) (h : isPowWord a = false) : (d.putF a hi lo v).pow = d.pow := d.pow_put a _ h

@[simp] theorem pow_put32 (a : Nat) (v : BitVec 32) (h : isPowWord a = false) (h' : isPowWord (a + 1) = false) :
    (d.put32 a v).pow = d.pow := by
  unfold Dev.put32
  rw [Dev.pow_put _ _ _ h', Dev.pow_put _ _ _ h]

@[simp] theorem pow_onMot (m : MotorIx) (f : Motor → Motor) : (d.onMot m f).pow = d.pow := rfl
@[simp] theorem pow_onGrp (g : GroupIx) (f : Group → Group) : (d.onGrp g f).pow = d.pow := rfl
@[simp] theorem pow_onPrm (p : GroupIx) (f : Prism → Prism) : (d.onPrm p f).pow = d.pow := rfl
@[simp] theorem pow_onAcc (p : GroupIx) (a : Fin 64) (f : Acc → Acc) : (d.onAcc p a f).pow = d.pow := rfl
@[simp] theorem pow_onDie (g : GroupIx) (f : Die → Die) : (d.onDie g f).pow = d.pow := rfl
@[simp] theorem pow_onBrg (b : BridgeIx) (f : Bridge → Bridge) : (d.onBrg b f).pow = d.pow := rfl
@[simp] theorem pow_onTrc (t : TraceIx) (f : Trace → Trace) : (d.onTrc t f).pow = d.pow := rfl
@[simp] theorem pow_onSen (s : SensorIx) (f : ThermSen → ThermSen) : (d.onSen s f).pow = d.pow := rfl
@[simp] theorem pow_enforce (lo hi : Nat) : (d.enforce lo hi).pow = d.pow := rfl
@[simp] theorem pow_dropLate (p : GroupIx) : (d.dropLate p).pow = d.pow := rfl

theorem pow_drives {d e : Dev} (h : d.Drives e) : e.pow = d.pow := (congrArg Dev.pow (Dev.Drives.eq h) :)

@[simp] theorem pow_drive (m : MotorIx) : (d.drive m).pow = d.pow := Dev.pow_drives (d.drives_drive m)
@[simp] theorem pow_driveGroup (g : GroupIx) : (d.driveGroup g).pow = d.pow := Dev.pow_drives (d.drives_driveGroup g)

/-! ### Branches and repetitions -/

@[simp] theorem pow_ite (c : Prop) [Decidable c] (x y : Dev) : (if c then x else y).pow = if c then x.pow else y.pow :=
  apply_ite _ _ _ _

@[simp] theorem pow_when (c : Bool) (f : Dev → Dev) (h : (f d).pow = d.pow) : (d.when c f).pow = d.pow := by
  unfold Dev.when
  split
  · exact h
  · rfl

theorem pow_each {α : Type} (l : List α) (f : Dev → α → Dev) (h : ∀ (e : Dev) (a : α), (f e a).pow = e.pow) :
    (d.each l f).pow = d.pow :=
  Dev.each_inv (P := fun e => e.pow = d.pow) l d rfl (fun e a he => (h e a).trans he)

/-! ### Thermal requests (R453) -/

@[simp] theorem pow_thermMissed (s : SensorIx) : (d.thermMissed s).pow = d.pow := by simp [Dev.thermMissed]

@[simp] theorem pow_thermFeed (p : GroupIx) : (d.thermFeed p).pow = d.pow := by
  obtain h | ⟨s, f, u, h⟩ := d.thermFeed_cases p <;> rw [h]
  rfl

@[simp] theorem pow_thermOver (p : GroupIx) (s : SensorIx) : (d.thermOver p s).pow = d.pow := by
  simp [Dev.thermOver]

@[simp] theorem pow_thermFlush (p : GroupIx) : (d.thermFlush p).pow = d.pow :=
  (Dev.pow_each _ _ _ (fun e s => (Dev.pow_thermOver _ p s).trans (e.pow_thermMissed s))).trans (d.pow_onPrm p _)

@[simp] theorem pow_thermDrop (p : GroupIx) : (d.thermDrop p).pow = d.pow :=
  (Dev.pow_each _ _ _ (fun e s => (Dev.pow_onSen _ s _).trans (e.pow_thermMissed s))).trans (d.pow_thermFlush p)

/-! ### Arrays (R228, R240, R242) -/

@[simp] theorem pow_restartTrk (p : GroupIx) (t : Fin 32) : (d.restartTrk p t).pow = d.pow := by simp [Dev.restartTrk]

@[simp] theorem pow_initPrism (p : GroupIx) : (d.initPrism p).pow = d.pow := by
  refine (Dev.pow_each _ _ _ (fun e t => e.pow_restartTrk p t)).trans ?_
  exact Dev.pow_each _ _ _ (fun e a => by simp)

@[simp] theorem pow_powerDown (p : GroupIx) (n : Nat) : (d.powerDown p n).pow = d.pow := by simp [Dev.powerDown]

@[simp] theorem pow_resumeSeq (p : GroupIx) : (d.resumeSeq p).pow = d.pow := by
  simp [Dev.resumeSeq, Dev.startSeq, Dev.restartSeq]

/-! ### Supply groups (R180, R184) -/

@[simp] theorem pow_setBrk (g : GroupIx) : (d.setBrk g).pow = d.pow := by simp [Dev.setBrk]

/-- A supply group whose value is invalid falls to level 0, which raises nothing. -/
@[simp] theorem pow_setLevel_zero (g : GroupIx) : (d.setLevel g 0).pow = d.pow := by
  simp [Dev.setLevel]

@[simp] theorem pow_supInvalid (g : GroupIx) : (d.supInvalid g).pow = d.pow := by simp [Dev.supInvalid]

/-! ### Gate drivers (R179, R180) -/

@[simp] theorem pow_syncBsuv (m : MotorIx) : (d.syncBsuv m).pow = d.pow := rfl
@[simp] theorem pow_syncComp (m : MotorIx) : (d.syncComp m).pow = d.pow := rfl
@[simp] theorem pow_turnOff (b : BridgeIx) : (d.turnOff b).pow = d.pow := by simp [Dev.turnOff]

@[simp] theorem pow_bridgesOff (g : GroupIx) : (d.bridgesOff g).pow = d.pow :=
  (Dev.pow_each _ _ _ (fun e m => by simp)).trans (Dev.pow_each _ _ _ (fun e b => by simp))

@[simp] theorem pow_clearGlint (g : GroupIx) : (d.clearGlint g).pow = d.pow := by
  refine (Dev.pow_put _ _ _ (by simp)).trans ?_
  exact Dev.pow_each _ _ _ (fun e m => by simp)

@[simp] theorem pow_syncGduv (g : GroupIx) : (d.syncGduv g).pow = d.pow := Dev.pow_each _ _ _ (fun e m => by simp)

@[simp] theorem pow_dieStop (g : GroupIx) : (d.dieStop g).pow = d.pow := by
  refine (Dev.pow_syncGduv _ g).trans ((Dev.pow_clearGlint _ g).trans ((Dev.pow_bridgesOff _ g).trans ?_))
  rfl

@[simp] theorem pow_dieStart (g : GroupIx) : (d.dieStart g).pow = d.pow := by simp [Dev.dieStart]

@[simp] theorem pow_dieReady (g : GroupIx) : (d.dieReady g).pow = d.pow := by simp [Dev.dieReady]

/-! ### Engines (R464) -/

@[simp] theorem pow_clearInts (m : MotorIx) (st : MState) : (d.clearInts m st).pow = d.pow := by
  simp [Dev.clearInts]

@[simp] theorem pow_showChange (m : MotorIx) : (d.showChange m).pow = d.pow := by simp [Dev.showChange]

@[simp] theorem pow_toIdle (m : MotorIx) : (d.toIdle m).pow = d.pow := by simp [Dev.toIdle, Dev.enter]

@[simp] theorem pow_domainIdle (g : GroupIx) : (d.domainIdle g).pow = d.pow := by
  refine (Dev.pow_driveGroup _ g).trans ((Dev.pow_onGrp _ g _).trans ?_)
  exact Dev.pow_each _ _ _ (fun e m => e.pow_toIdle m)

/-! ### PLL_PRISM, the traces and the device log -/

@[simp] theorem pow_syncPrismPll : d.syncPrismPll.pow = d.pow :=
  (Dev.pow_putB _ _ _ _ rfl).trans ((Dev.pow_putB _ _ _ _ rfl).trans rfl)

@[simp] theorem pow_dropSeg (t : TraceIx) (code : Nat) : (d.dropSeg t code).pow = d.pow := by
  simp [Dev.dropSeg, Dev.setSeg, Dev.pendAnchor]

@[simp] theorem pow_writeMirror (pend old : Bool) : (d.writeMirror pend old).pow = d.pow := by
  unfold Dev.writeMirror
  dsimp only
  split <;> rfl

@[simp] theorem pow_logSession : d.logSession.pow = d.pow := rfl

end Dev

end Sys2Proof.Machine
end

section
/-! Proof of the statement on power domains (R461 to R463). -/

namespace Sys2Proof.Machine

open Sys2Proof

/-! ### Switching off (R461, R463) -/

/-- What the switching off of the domains of a list leaves, and what it shows. -/
structure Dev.SwitchesOff (d e : Dev) (l : List Nat) : Prop where
  on : ∀ k, k < 16 → e.domOn k = (d.domOn k && !decide (k ∈ l))
  shown : ∀ k, k ∈ l ∨ d.bit 0x804 k = true → e.bit 0x804 k = true
  count : d.stands = false → e.ev[58].cnt = d.ev[58].cnt + BitVec.ofNat 32 l.length
  w : ∀ a, isPowWord a = true → a ≠ 0x801 → a ≠ 0x802 → a ≠ 0x804 → e.w a = d.w a
  ev : ∀ i : Fin 64, isPowSrc i.1 = true → i ≠ 58 ∨ d.stands = true → e.ev[i] = d.ev[i]
  evLate : d.evLate <+: e.evLate
  resetN : e.resetN = d.resetN
  locked : e.locked = d.locked

namespace Dev

theorem SwitchesOff.stands {d e : Dev} {l : List Nat} (h : d.SwitchesOff e l) : e.stands = d.stands := by
  unfold Dev.stands
  rw [h.resetN, h.locked]

theorem SwitchesOff.nil (d : Dev) : d.SwitchesOff d [] :=
  ⟨fun k _ => by simp, fun k h => h.resolve_left (by simp), fun _ => by simp, fun _ _ _ _ _ => rfl, fun _ _ _ => rfl,
    List.prefix_rfl, rfl, rfl⟩

theorem SwitchesOff.trans {c d e : Dev} {l l' : List Nat} (h : c.SwitchesOff d l) (h' : d.SwitchesOff e l') :
    c.SwitchesOff e (l ++ l') := by
  refine ⟨fun k hk => ?_, fun k hk => ?_, fun hr => ?_, fun a ha h1 h2 h4 => ?_, fun i hi hne => ?_, h.evLate.trans h'.evLate,
    h'.resetN.trans h.resetN, h'.locked.trans h.locked⟩
  · rw [h'.on k hk, h.on k hk, Bool.and_assoc]
    simp only [List.mem_append, Bool.decide_or, Bool.not_or]
  · rw [List.mem_append] at hk
    obtain (hk | hk) | hk := hk
    · exact h'.shown k (.inr (h.shown k (.inl hk)))
    · exact h'.shown k (.inl hk)
    · exact h'.shown k (.inr (h.shown k (.inr hk)))
  · rw [h'.count (h.stands.trans hr), h.count hr, List.length_append, BitVec.ofNat_add, BitVec.add_assoc]
  · exact (h'.w a ha h1 h2 h4).trans (h.w a ha h1 h2 h4)
  · refine (h'.ev i hi ?_).trans (h.ev i hi hne)
    exact hne.imp_right h.stands.trans

theorem SwitchesOff.of_pow {d e f : Dev} {l : List Nat} (h : d.SwitchesOff e l) (h' : f.pow = e.pow) : d.SwitchesOff f l := by
  refine ⟨fun k hk => (Dev.pow_domOn h' k).trans (h.on k hk), fun k hk => (Dev.pow_bit h' rfl k).trans (h.shown k hk),
    fun hr => ?_, fun a ha h1 h2 h4 => (Dev.pow_w h' ha).trans (h.w a ha h1 h2 h4),
    fun i hi hne => (Dev.pow_ev h' hi).trans (h.ev i hi hne), ?_, (Dev.pow_resetN h').trans h.resetN,
    (Dev.pow_locked h').trans h.locked⟩
  · rw [← h.count hr]
    exact congrArg EvSrc.cnt (Dev.pow_ev h' (i := 58) rfl)
  · rw [Dev.pow_evLate h']
    exact h.evLate

/-- A cause counts in its source at once, or while ck_core stands still in its next cycle (R36). -/
theorem cause_ev (d : Dev) (a : Nat) (m : Word) {i : Fin 64} (hs : d.hasSrc i = true) :
    (d.stands = false → (d.cause a m i).ev[i].cnt = d.ev[i].cnt + 1) ∧
    (∀ j : Fin 64, j ≠ i ∨ d.stands = true → (d.cause a m i).ev[j] = d.ev[j]) ∧
    (d.cause a m i).evLate = if d.stands then d.evLate ++ [i.1] else d.evLate := by
  have hsrc : (d.orW a m).hasSrc i = true := hs
  have hstands : (d.orW a m).stands = d.stands := by simp [Dev.stands]
  have hev := d.orW_ev a m
  have hlate := d.orW_evLate a m
  unfold Dev.cause
  generalize d.orW a m = x at hsrc hstands hev hlate ⊢
  rw [← hstands, ← hev, ← hlate]
  cases h : x.stands with
  | true =>
    rw [Dev.raise_stands x _ h]
    exact ⟨fun hf => Bool.noConfusion hf, fun _ _ => rfl, rfl⟩
  | false =>
    rw [Dev.raise_spec x i.1 i.2 hsrc h]
    refine ⟨fun _ => congrArg EvSrc.cnt (upd_self x.ev i _), fun j hj => ?_, rfl⟩
    exact upd_ne x.ev i j _ (hj.resolve_right (by simp))

/-- POWER.STAT and POWER.RDY show domain n off, with its cause and E58. -/
def domShow (d : Dev) (n : Nat) (therm : Bool) : Dev := ((d.putB 0x801 n false).putB 0x802 n false).domChange n therm

/-- Bit n of the cause of a change of domain n. -/
theorem domCause_bit {n : Nat} (h : n < 10) (therm : Bool) : (word (2 ^ n + (if therm then 0x8000 else 0))).getLsbD n = true := by
  have hall : ∀ (n : Fin 10) (b : Bool), (word (2 ^ n.1 + (if b then 0x8000 else 0))).getLsbD n.1 = true := by decide
  exact hall ⟨n, h⟩ therm

/-- A change of a domain sets its bit of POWER.CAUSE, with E58. -/
theorem domChange_spec (d : Dev) {n : Nat} (hn : n < 10) (therm : Bool) : (d.domChange n therm).bit 0x804 n = true ∧
    (∀ k, d.bit 0x804 k = true → (d.domChange n therm).bit 0x804 k = true) ∧
    (∀ a, a ≠ 0x804 → (d.domChange n therm).w a = d.w a) ∧
    (d.stands = false → (d.domChange n therm).ev[58].cnt = d.ev[58].cnt + 1) ∧
    (∀ i : Fin 64, i ≠ 58 ∨ d.stands = true → (d.domChange n therm).ev[i] = d.ev[i]) ∧
    d.evLate <+: (d.domChange n therm).evLate := by
  unfold Dev.domChange
  have hev := d.cause_ev 0x804 (word (2 ^ n + (if therm then 0x8000 else 0))) (i := 58)
    (d.hasSrc_of_ge (by decide))
  obtain ⟨hcnt, hothers, hlate⟩ := hev
  refine ⟨?_, fun k hk => ?_, fun a ha => d.cause_w_ne _ _ ha, hcnt, hothers, ?_⟩
  · rw [Dev.bit_cause, domCause_bit hn]
    simp
  · rw [Dev.bit_cause, hk]
    rfl
  · show d.evLate <+: (d.cause 0x804 _ (58 : Fin 64).1).evLate
    rw [hlate]
    split
    · exact List.prefix_append _ _
    · exact List.prefix_rfl

/-- One domain that is switched off. -/
theorem domShow_spec (d : Dev) {n : Nat} (hn : n < 10) (therm : Bool) : d.SwitchesOff (d.domShow n therm) [n] := by
  have hon (k : Nat) (hk : k < 16) : ((d.putB 0x801 n false).putB 0x802 n false).domOn k = (d.domOn k && !decide (k ∈ [n])) := by
    unfold Dev.domOn
    rw [Dev.bit_putB _ _ _ _ _ _ (by omega) hk, if_neg (by simp), Dev.bit_putB _ _ _ _ _ _ (by omega) hk]
    by_cases h : k = n <;> simp [h]
  have hw (a : Nat) (h1 : a ≠ 0x801) (h2 : a ≠ 0x802) : ((d.putB 0x801 n false).putB 0x802 n false).w a = d.w a :=
    (Dev.w_put_ne _ _ h2).trans (d.w_put_ne _ h1)
  have hkeeps : ((d.putB 0x801 n false).putB 0x802 n false).ev = d.ev ∧
      ((d.putB 0x801 n false).putB 0x802 n false).evLate = d.evLate ∧
      ((d.putB 0x801 n false).putB 0x802 n false).resetN = d.resetN ∧
      ((d.putB 0x801 n false).putB 0x802 n false).locked = d.locked := by simp
  unfold Dev.domShow
  generalize (d.putB 0x801 n false).putB 0x802 n false = x at hon hw hkeeps ⊢
  obtain ⟨hev, hlate, hres, hlock⟩ := hkeeps
  have hstands : x.stands = d.stands := by unfold Dev.stands; rw [hres, hlock]
  obtain ⟨hself, hmono, hwords, hcnt, hothers, hprefix⟩ := x.domChange_spec hn therm
  refine ⟨fun k hk => ?_, fun k hk => ?_, fun hr => ?_, fun a ha h1 h2 h4 => ?_, fun i hi hne => ?_, hlate ▸ hprefix, ?_, ?_⟩
  · exact (Dev.bit_congr (hwords 0x801 (by decide)) k).trans (hon k hk)
  · obtain hk | hk := hk
    · rw [List.mem_singleton.1 hk]
      exact hself
    · exact hmono k ((Dev.bit_congr (hw 0x804 (by decide) (by decide)) k).trans hk)
  · rw [hcnt (hstands.trans hr), hev]
    rfl
  · exact (hwords a h4).trans (hw a h1 h2)
  · exact (hothers i (hne.imp_right hstands.trans)).trans (congrArg (·[i]) hev)
  · exact (by simp [Dev.domChange, Dev.cause] : (x.domChange n therm).resetN = x.resetN).trans hres
  · exact (by simp [Dev.domChange, Dev.cause] : (x.domChange n therm).locked = x.locked).trans hlock

theorem domOff_pow (d : Dev) (n : Nat) (therm : Bool) : (d.domOff n therm).pow = (d.domShow n therm).pow := by
  refine (Dev.pow_each _ _ _ (fun e g => e.pow_domainIdle g)).trans ?_
  show Dev.pow (if n = 4 ∨ n = 5 then
      ((d.domShow n therm).each (groupsOf n) (fun d p => (d.thermDrop p).initPrism p)).syncPrismPll
    else if 6 ≤ n then (d.domShow n therm).each (groupsOf n) Dev.dieStop else d.domShow n therm) = _
  split
  · refine (Dev.pow_syncPrismPll _).trans (Dev.pow_each _ _ _ (fun e p => ?_))
    exact (Dev.pow_initPrism _ p).trans (e.pow_thermDrop p)
  · split
    · exact Dev.pow_each _ _ _ Dev.pow_dieStop
    · rfl

theorem domOff_spec (d : Dev) {n : Nat} (hn : n < 10) (therm : Bool) : d.SwitchesOff (d.domOff n therm) [n] :=
  (d.domShow_spec hn therm).of_pow (d.domOff_pow n therm)

theorem each_domOff (therm : Bool) : ∀ (l : List Nat), (∀ n ∈ l, n < 10) → ∀ d : Dev,
    d.SwitchesOff (d.each l (fun d n => d.domOff n therm)) l
  | [], _, d => .nil d
  | n :: l, h, d => (d.domOff_spec (h n (by simp)) therm).trans
      (each_domOff therm l (fun k hk => h k (List.mem_cons_of_mem n hk)) (d.domOff n therm))

/-- The domains that are on and no longer to be on. -/
def offList (d : Dev) : List Nat :=
  (List.range 10).filter (fun n => 3 ≤ n && d.domOn n && !d.domWanted n && !(n = 3 && d.bist.run.isSome))

theorem domainsOff_spec (d : Dev) (therm : Bool) : d.SwitchesOff (d.domainsOff therm) d.offList :=
  Dev.each_domOff therm d.offList (fun _ hn => List.mem_range.1 (List.mem_filter.1 hn).1) d

theorem mem_offList {d : Dev} {n : Nat} : n ∈ d.offList ↔
    n < 10 ∧ 3 ≤ n ∧ d.domOn n = true ∧ d.domWanted n = false ∧ ¬ (n = 3 ∧ d.bist.run.isSome = true) := by
  unfold Dev.offList
  rw [List.mem_filter, List.mem_range]
  simp only [Bool.and_eq_true, Bool.not_eq_true', decide_eq_true_eq, Bool.and_eq_false_iff, decide_eq_false_iff_not, not_and,
    and_assoc]
  grind

/-- A domain that is not to be on is off. -/
theorem domainsOff_off (d : Dev) (therm : Bool) {n : Nat} (h3 : 3 ≤ n) (hn : n < 10) (hw : d.domWanted n = false)
    (hb : ¬ (n = 3 ∧ d.bist.run.isSome = true)) : (d.domainsOff therm).domOn n = false := by
  rw [(d.domainsOff_spec therm).on n (by omega)]
  cases hon : d.domOn n
  · rfl
  · rw [decide_eq_true (Dev.mem_offList.2 ⟨hn, h3, hon, hw, hb⟩)]
    rfl

/-! ### Switching on (R462) -/

theorem mst_initPrism (d : Dev) (p : GroupIx) : (d.initPrism p).mst = d.mst :=
  (Dev.mst_restartTrks _ p).trans ((Dev.mst_each _ _ (fun _ a => (Dev.mst_onAcc _ p a _).trans
    ((Dev.mst_put _ _ _).trans (Dev.mst_put _ _ _))) _).trans (Dev.mst_onPrm _ p _))

theorem mst_supInvalid (d : Dev) (g : GroupIx) : (d.supInvalid g).mst = d.mst := by
  unfold Dev.supInvalid
  dsimp only
  split
  · rfl
  · exact (Dev.mst_setLevel _ g 0).trans rfl

theorem mst_clearGlint (d : Dev) (g : GroupIx) : (d.clearGlint g).mst = d.mst := by
  refine (Dev.mst_put _ _ _).trans ((Dev.mst_each _ _ (fun e m => ?_) _).trans rfl)
  refine (Dev.mst_onMot _ m _ ?_).trans ((Dev.mst_put _ _ _).trans (Dev.mst_put _ _ _))
  exact fun _ => rfl

theorem mst_syncGduv (d : Dev) (g : GroupIx) : (d.syncGduv g).mst = d.mst := by
  refine Dev.mst_each _ _ (fun e m => ?_) d
  refine Dev.mst_onMot e m _ ?_
  exact fun _ => rfl

theorem mst_dieStart (d : Dev) (g : GroupIx) : (d.dieStart g).mst = d.mst :=
  (Dev.mst_syncGduv _ g).trans (Dev.mst_clearGlint _ g)

theorem mst_dieReady (d : Dev) (g : GroupIx) : (d.dieReady g).mst = d.mst := by
  unfold Dev.dieReady
  dsimp only
  split
  · exact (Dev.mst_when _ _ _ (fun e => e.mst_driveGroup g)).trans (Dev.mst_clearGlint _ g)
  · rfl

theorem mst_writeMirror (d : Dev) (pend old : Bool) : (d.writeMirror pend old).mst = d.mst := by
  unfold Dev.writeMirror
  dsimp only
  split <;> rfl

/-- The power control at the switch-on of domain n (R462, R463). -/
def startPower (d : Dev) (n : Fin 10) : Dev :=
  { d with power := { d.power with
      startAt := upd d.power.startAt n (fun _ => d.cycles), lastOn := some d.cycles
      thermRet := d.power.thermRet &&& ~~~(1#10 <<< n.1), gap := setBit10 d.power.gap n d.stands, gapOn := d.stands
      mustLock := setBit10 d.power.mustLock n (!d.power.prismLock) } }

/-- POWER.STAT and POWER.CAUSE show the switch-on of domain n. -/
def startShow (d : Dev) (n : Fin 10) : Dev := (d.putB 0x801 n.1 true).domChange n.1 (d.power.thermRet.getLsbD n.1)

theorem domStart_eq (d : Dev) (n : Fin 10) : d.domStart n =
    if n.1 = 4 ∨ n.1 = 5 then
      (((d.startShow n).startPower n).each (groupsOf n.1) (fun d p => (d.initPrism p).supInvalid p)).syncPrismPll
    else if 6 ≤ n.1 then ((d.startShow n).startPower n).each (groupsOf n.1) Dev.dieStart
    else (d.startShow n).startPower n := rfl

theorem domStart_pow (d : Dev) (n : Fin 10) : (d.domStart n).pow = ((d.startShow n).startPower n).pow := by
  rw [Dev.domStart_eq]
  split
  · refine (Dev.pow_syncPrismPll _).trans (Dev.pow_each _ _ _ (fun e p => ?_))
    exact (Dev.pow_supInvalid _ p).trans (e.pow_initPrism p)
  · split
    · exact Dev.pow_each _ _ _ Dev.pow_dieStart
    · rfl

theorem domStart_mst (d : Dev) (n : Fin 10) : (d.domStart n).mst = ((d.startShow n).startPower n).mst := by
  rw [Dev.domStart_eq]
  split
  · exact Dev.mst_each _ _ (fun e p => (Dev.mst_supInvalid _ p).trans (e.mst_initPrism p)) _
  · split
    · exact Dev.mst_each _ _ Dev.mst_dieStart _
    · rfl

theorem getLsbD_setBit10 (x : BitVec 10) (n : Fin 10) (b : Bool) : (setBit10 x n b).getLsbD n.1 = b := by
  unfold setBit10
  cases b <;> simp

theorem startShow_spec (d : Dev) (n : Fin 10) : (d.startShow n).domOn n.1 = true ∧ (d.startShow n).bit 0x804 n.1 = true ∧
    (d.stands = false → (d.startShow n).ev[58].cnt = d.ev[58].cnt + 1) ∧
    (∀ o, o ≠ n.1 → (d.startShow n).domOn o = d.domOn o) ∧ (d.startShow n).power = d.power ∧
    (d.startShow n).cycles = d.cycles ∧ (d.startShow n).motors = d.motors := by
  have hn : n.1 < 10 := n.2
  have hw (o : Nat) : (d.startShow n).domOn o = (d.putB 0x801 n.1 true).domOn o := by
    obtain ⟨-, -, hwords, -⟩ := (d.putB 0x801 n.1 true).domChange_spec hn (d.power.thermRet.getLsbD n.1)
    exact Dev.bit_congr (hwords 0x801 (by decide)) o
  obtain ⟨hself, -, -, hcnt, -⟩ := (d.putB 0x801 n.1 true).domChange_spec hn (d.power.thermRet.getLsbD n.1)
  have hkeeps : (d.startShow n).power = d.power ∧ (d.startShow n).cycles = d.cycles ∧ (d.startShow n).motors = d.motors := by
    simp [Dev.startShow, Dev.domChange, Dev.cause]
  refine ⟨(hw n.1).trans (d.bit_putB_self 0x801 n.1 true (by omega)), hself, hcnt, fun o ho => ?_, hkeeps⟩
  refine (hw o).trans ?_
  unfold Dev.domOn Dev.bit
  rw [Dev.w_putB, if_pos rfl]
  by_cases h16 : o < 16
  · rw [bitOf_withBit _ _ _ _ (by omega) h16, if_neg ho]
  · unfold bitOf
    rw [BitVec.getLsbD_of_ge _ _ (by omega), BitVec.getLsbD_of_ge _ _ (by omega)]

theorem startAt_upd (p : Power) (n : Fin 10) (c : Nat) : (upd p.startAt n (fun _ => c))[n] = c := upd_self p.startAt n _

theorem domStart_spec (d : Dev) (n : Fin 10) : (d.domStart n).domOn n.1 = true ∧ (d.domStart n).bit 0x804 n.1 = true ∧
    (d.domStart n).power.startAt[n] = d.cycles ∧ (d.domStart n).power.lastOn = some d.cycles ∧
    (d.domStart n).power.mustLock.getLsbD n.1 = !d.power.prismLock ∧
    (d.stands = false → (d.domStart n).ev[58].cnt = d.ev[58].cnt + 1) ∧
    (∀ o, o ≠ n.1 → (d.domStart n).domOn o = d.domOn o) ∧ ∀ m, ((d.domStart n).mot m).state = (d.mot m).state := by
  obtain ⟨hon, hcause, hcnt, hothers, hpower, hcyc, hmot⟩ := d.startShow_spec n
  have hpow := d.domStart_pow n
  have hmst := d.domStart_mst n
  generalize d.startShow n = x at hon hcause hcnt hothers hpower hcyc hmot hpow hmst
  have hsans : (d.domStart n).power.sansPll = (x.startPower n).power.sansPll := congrArg PowView.power hpow
  refine ⟨(Dev.pow_domOn hpow n.1).trans hon, (Dev.pow_bit hpow rfl n.1).trans hcause, ?_, ?_, ?_, fun hr => ?_,
    fun o ho => (Dev.pow_domOn hpow o).trans (hothers o ho), fun m => ?_⟩
  · rw [← hcyc]
    exact (congrArg (fun p : Power => p.startAt[n]) hsans).trans (startAt_upd x.power n x.cycles)
  · rw [← hcyc]
    exact congrArg Power.lastOn hsans
  · rw [← hpower]
    exact (congrArg (fun p : Power => p.mustLock.getLsbD n.1) hsans).trans (getLsbD_setBit10 _ n _)
  · rw [← hcnt hr]
    exact congrArg EvSrc.cnt (Dev.pow_ev hpow (i := 58) rfl)
  · refine (congrFun hmst m).trans ?_
    show (x.mot m).state = _
    unfold Dev.mot
    rw [hmot]

/-! ### The ready point (R462) -/

/-- What follows at the ready point of domain n, whose bit of POWER.RDY is set. -/
def readyWork (d : Dev) (n : Fin 10) : Dev :=
  if n.1 = 3 then
    let d := d.each ((List.finRange 128).filter (fun (t : TraceIx) => d.bit (aTr t 0) 15)) (fun d t => d.dropSeg t 2)
    if 4 ≤ d.loader.step then (d.writeMirror false false).logSession
    else d
  else if n.1 = 4 ∨ n.1 = 5 then
    let d := { d with power := { d.power with prismLock := !d.power.prismLost } }.syncPrismPll
    d.each (groupsOf n.1) (fun d p => if d.hasGrp p then d.resumeSeq p else d)
  else d.each (groupsOf n.1) Dev.dieReady

theorem domReady_eq {d : Dev} {n : Fin 10} (hon : d.domOn n.1 = true) (hr : d.domRdy n.1 = false) (hw : d.domWaited n = true) :
    d.domReady n = (d.putB 0x802 n.1 true).readyWork n := by
  unfold Dev.domReady Dev.readyWork
  rw [hon, hr, hw]
  rfl

/-! ### A write of POWER.REQ (R461) -/

/-- POWER.REQ takes a word, and only the domains that are wanted still wait for a thermal release. -/
def reqPut (d : Dev) (v : Word) : Dev :=
  { d.put 0x800 v with power := { d.power with thermRet := d.power.thermRet &&& BitVec.ofNat 10 v.toNat } }

/-- The bits of the domains that the part lacks. -/
theorem absentBits_req (d : Dev) {n : Nat} (h : d.hasDom n = true) : (absentBits d 0x800).getLsbD n = false := by
  have hfold : ∀ (l : List Nat) (m : Word), m.getLsbD n = false →
      (l.foldl (fun m n => if d.hasDom n then m else m ||| (1#16 <<< n)) m).getLsbD n = false := by
    intro l
    induction l with
    | nil => exact fun m hm => hm
    | cons k l ih =>
      refine fun m hm => ih _ ?_
      dsimp only
      by_cases hk : d.hasDom k = true
      · rw [if_pos hk]
        exact hm
      · have hne : n ≠ k := fun e => hk (e ▸ h)
        rw [if_neg hk, BitVec.getLsbD_or, hm]
        simp
        omega
  exact hfold (List.range 10) 0 (by simp)

theorem bitOf_merge_req (d : Dev) (v : Word) {n : Nat} (h3 : 3 ≤ n) (hn : n < 10) (h : d.hasDom n = true) :
    bitOf (d.merge 0x800 v) n = bitOf v n := by
  have hrow : regRow 0x800 = some ⟨"POWER.REQ (R461)", 0x800, [], [⟨9, 3, .rw, 1⟩]⟩ := by decide
  unfold Dev.merge
  rw [hrow]
  refine (d.bitOf_merged 0x800 v _ (by omega) (d.absentBits_req h)).trans (if_pos ?_)
  unfold Dev.takes
  have hmask : ∀ i : Fin 10, 3 ≤ i.1 →
      ((⟨"POWER.REQ (R461)", 0x800, [], [⟨9, 3, .rw, 1⟩]⟩ : RegRow).mask .rw).testBit i.1 = true := by decide
  rw [hmask ⟨n, hn⟩ h3]
  rfl

theorem reqWritten_spec {d : Dev} {k : Master} {v : Word} (hw : d.writeOk k 0x800 = true) :
    (∀ n, 3 ≤ n → n ≤ 9 → d.hasDom n = true → (d.fabWrite k 0x800 v).bit 0x800 n = bitOf v n) ∧
    (∀ n, 3 ≤ n → n ≤ 9 → bitOf v n = false → n ≠ 3 ∨ d.bist.run = none →
      (d.fabWrite k 0x800 v).domOn n = false ∧ (d.domOn n = true → (d.fabWrite k 0x800 v).bit 0x804 n = true)) ∧
    (d.fabWrite k 0x800 v).ev[58].cnt = d.ev[58].cnt + BitVec.ofNat 32 ((List.range 10).filter (fun n =>
      3 ≤ n && d.domOn n && !(d.fabWrite k 0x800 v).domOn n)).length ∧
    ∀ n, d.domOn n = false → (d.fabWrite k 0x800 v).domOn n = false := by
  have hstands : (d.reqPut (d.merge 0x800 v)).stands = false := by
    have hr : d.runs = true := by
      unfold Dev.writeOk at hw
      cases h : d.runs
      · simp [h] at hw
      · rfl
    exact Dev.stands_of_runs (d := d.reqPut (d.merge 0x800 v)) hr
  have heq : d.fabWrite k 0x800 v = (d.reqPut (d.merge 0x800 v)).domainsOff false := Dev.fabWrite_req _ _ _ hw
  have hreq : (d.reqPut (d.merge 0x800 v)).w 0x800 = d.merge 0x800 v := Dev.w_put_self d 0x800 _
  have hon (n : Nat) : (d.reqPut (d.merge 0x800 v)).domOn n = d.domOn n := Dev.bit_congr (d.w_put_ne _ (by decide)) n
  have hev : (d.reqPut (d.merge 0x800 v)).ev = d.ev := rfl
  have hdom (n : Nat) : (d.reqPut (d.merge 0x800 v)).hasDom n = d.hasDom n := rfl
  have hbist : (d.reqPut (d.merge 0x800 v)).bist = d.bist := rfl
  have hbit (n : Nat) (h3 : 3 ≤ n) (h9 : n ≤ 9) (h : d.hasDom n = true) :
      (d.reqPut (d.merge 0x800 v)).bit 0x800 n = bitOf v n :=
    (congrArg (bitOf · n) hreq).trans (d.bitOf_merge_req v h3 (by omega) h)
  rw [heq]
  generalize d.reqPut (d.merge 0x800 v) = x at hstands hreq hon hev hdom hbist hbit ⊢
  have hoff := x.domainsOff_spec false
  have hmem {n : Nat} (h3 : 3 ≤ n) (h9 : n ≤ 9) (hv : bitOf v n = false) (hb : n ≠ 3 ∨ d.bist.run = none)
      (ho : d.domOn n = true) : n ∈ x.offList := by
    refine Dev.mem_offList.2 ⟨by omega, h3, (hon n).trans ho, ?_, ?_⟩
    · unfold Dev.domWanted
      cases h : d.hasDom n
      · rw [hdom n, h]; simp
      · rw [hbit n h3 h9 h, hv]; simp
    · rw [hbist]
      rintro ⟨h, hs⟩
      rw [hb.resolve_left (fun hn => hn h)] at hs
      exact Bool.noConfusion hs
  have hoffOn (n : Nat) (h16 : n < 16) : (x.domainsOff false).domOn n = (d.domOn n && !decide (n ∈ x.offList)) := by
    rw [hoff.on n h16, hon]
  refine ⟨fun n h3 h9 h => ?_, fun n h3 h9 hv hb => ⟨?_, fun ho => ?_⟩, ?_, fun n h => ?_⟩
  · rw [← hbit n h3 h9 h]
    exact Dev.bit_congr (hoff.w 0x800 rfl (by decide) (by decide) (by decide)) n
  · rw [hoffOn n (by omega)]
    cases ho : d.domOn n
    · rfl
    · rw [decide_eq_true (hmem h3 h9 hv hb ho)]
      rfl
  · exact hoff.shown n (.inl (hmem h3 h9 hv hb ho))
  · have hlist : (List.range 10).filter (fun n => 3 ≤ n && d.domOn n && !(x.domainsOff false).domOn n) = x.offList := by
      refine List.filter_congr fun n hn => ?_
      have hlt := List.mem_range.1 hn
      rw [hoffOn n (by omega), ← hon n]
      by_cases hin : n ∈ x.offList
      · obtain ⟨-, h3, ho, hwant, hb⟩ := Dev.mem_offList.1 hin
        rw [decide_eq_true hin, decide_eq_true h3, ho, hwant]
        simpa using not_and_or.1 hb
      · rw [decide_eq_false hin, Bool.not_false, Bool.and_true, Bool.and_assoc, Bool.and_not_self, Bool.and_false]
        exact (Bool.eq_false_iff.2 fun h => hin (List.mem_filter.2 ⟨hn, h⟩)).symm
    rw [hlist, ← hev]
    exact hoff.count hstands
  · by_cases h16 : n < 16
    · rw [hoffOn n h16, h]
      rfl
    · exact BitVec.getLsbD_of_ge _ _ (by omega)

/-- PLL_PRISM has locked by the ready point, unless it has lost that lock (R245). -/
def prismReady (d : Dev) : Dev := { d with power := { d.power with prismLock := !d.power.prismLost } }

theorem readyWork_eq (d : Dev) (n : Fin 10) : d.readyWork n =
    if n.1 = 3 then
      let e := d.each ((List.finRange 128).filter (fun (t : TraceIx) => d.bit (aTr t 0) 15)) (fun d t => d.dropSeg t 2)
      if 4 ≤ e.loader.step then (e.writeMirror false false).logSession else e
    else if n.1 = 4 ∨ n.1 = 5 then
      d.prismReady.syncPrismPll.each (groupsOf n.1) (fun d p => if d.hasGrp p then d.resumeSeq p else d)
    else d.each (groupsOf n.1) Dev.dieReady := rfl

theorem readyWork_spec (d : Dev) (n : Fin 10) : (∀ k, (d.readyWork n).domRdy k = d.domRdy k) ∧
    (d.readyWork n).mst = d.mst ∧
    (n.1 = 4 ∨ n.1 = 5 → d.domOn n.1 = true → (d.readyWork n).power.prismLock = !d.power.prismLost) := by
  rw [Dev.readyWork_eq]
  split
  · next h3 =>
    have hpow := Dev.pow_each d ((List.finRange 128).filter (fun (t : TraceIx) => d.bit (aTr t 0) 15))
      (fun d t => d.dropSeg t 2) (fun e t => e.pow_dropSeg t 2)
    have hmst := Dev.mst_each ((List.finRange 128).filter (fun (t : TraceIx) => d.bit (aTr t 0) 15))
      (fun d t => d.dropSeg t 2) (fun e t => e.mst_dropSeg t 2) d
    dsimp only
    generalize d.each ((List.finRange 128).filter (fun (t : TraceIx) => d.bit (aTr t 0) 15))
      (fun d t => d.dropSeg t 2) = e at hpow hmst ⊢
    refine ⟨fun k => ?_, ?_, fun h => absurd h (by omega)⟩
    · split
      · exact Dev.pow_bit (((Dev.pow_logSession _).trans (e.pow_writeMirror _ _)).trans hpow) rfl k
      · exact Dev.pow_bit hpow rfl k
    · split
      · exact (e.mst_writeMirror false false).trans hmst
      · exact hmst
  · split
    · next h45 =>
      have hpow := Dev.pow_each d.prismReady.syncPrismPll (groupsOf n.1) (fun d p => if d.hasGrp p then d.resumeSeq p else d)
        (fun e p => by simp)
      have hmst := Dev.mst_each (groupsOf n.1) (fun d p => if d.hasGrp p then d.resumeSeq p else d)
        (fun e p => by split <;> [exact e.mst_resumeSeq p; rfl]) d.prismReady.syncPrismPll
      have harr := Dev.arr_each (w := ⟨false, false⟩) d.prismReady.syncPrismPll (groupsOf n.1)
        (fun d p => if d.hasGrp p then d.resumeSeq p else d) (fun e p => by split <;> [exact e.arr_resumeSeq p; rfl])
      obtain ⟨hlock, -⟩ := d.prismReady.syncPrismPll_spec
      generalize d.prismReady.syncPrismPll.each (groupsOf n.1) (fun d p => if d.hasGrp p then d.resumeSeq p else d) = e
        at hpow hmst harr ⊢
      refine ⟨Dev.pow_bit (hpow.trans (Dev.pow_syncPrismPll _)) rfl, hmst, fun _ hon => ?_⟩
      rw [Dev.arr_power harr, hlock]
      have honp : (d.prismReady.domOn 4 || d.prismReady.domOn 5) = true := by
        obtain h | h := h45
        · rw [h] at hon
          exact Bool.or_eq_true_iff.2 (.inl hon)
        · rw [h] at hon
          exact Bool.or_eq_true_iff.2 (.inr hon)
      rw [honp, Bool.true_and]
      rfl
    · refine ⟨Dev.pow_bit (Dev.pow_each d (groupsOf n.1) _ Dev.pow_dieReady) rfl,
        Dev.mst_each _ _ Dev.mst_dieReady d, fun h => ?_⟩
      contradiction

end Dev

/-- Settles O53: a domain is off after a write of REQ where the new word does not want it; the switch-on and the ready point by
what their operations show. -/
theorem powerDomains : Obligations.PowerDomains := by
  refine fun s => ⟨fun k v hw => ?_, fun n hn => ?_, fun n hn => ?_, fun n => ⟨fun hr hgap hlt => ?_, fun hon hrdy hle => ?_⟩⟩
  · exact ⟨_, State.write_eq (s := s) (k := k) (a := 0x800) (v := v) rfl, Dev.reqWritten_spec hw⟩
  · obtain ⟨hon, hcause, hat, hlast, hlock, hcnt, hothers, hmot⟩ := s.dev.domStart_spec n
    refine ⟨s.dev.domStart n, State.onDev_eq (f := fun d => if d.domMayStart n then d.domStart n else d) (if_pos hn),
      hon, hcause, hat, hlast, hlock, fun hl => hcnt ?_, hothers, hmot⟩
    unfold Dev.stands
    rw [hl]
    simp
  · exact State.onDev_eq (f := fun d => if d.domMayStart n then d.domStart n else d) (if_neg (by rw [hn]; decide))
  · refine State.onDev_eq (f := fun d => d.domReady n) (if_neg ?_)
    have hwait : s.dev.domWaited n = false := by
      unfold Dev.domWaited Dev.domReadyAfter
      rw [Dev.stands_of_runs hr, hgap]
      simpa using hlt
    rw [hwait]
    simp
  · have hwait : s.dev.domWaited n = true := by
      unfold Dev.domWaited Dev.domReadyAfter
      rw [decide_eq_true hle, Bool.or_true]
    obtain ⟨hrdy', hmst, hlock⟩ := (s.dev.putB 0x802 n.1 true).readyWork_spec n
    refine ⟨_, State.onDev_eq (f := fun d => d.domReady n) (Dev.domReady_eq hon hrdy hwait), ?_, fun h45 => ?_, fun m => ?_⟩
    · exact (hrdy' n.1).trans (s.dev.bit_putB_self 0x802 n.1 true (by omega))
    · exact hlock h45 ((Dev.bit_congr (s.dev.w_put_ne _ (by decide)) n.1).trans hon)
    · exact congrFun hmst m

end Sys2Proof.Machine
end

section
/-! What reading a closed value leaves of the thermal system before its own reading: one equation for each operation. -/

namespace Sys2Proof.Machine

open Sys2Proof

/-- A word of the thermal system (R465). -/
def isThermWord (a : Nat) : Bool := decide (0x1000 ≤ a ∧ a < 0x1040)

/-- An event source of the thermal system. -/
def isThermSrc (i : Nat) : Bool := decide (24 ≤ i ∧ i ≤ 27)

/-- The thermal system and the clock. -/
structure ThermView where
  part : Part
  resetN : Bool
  locked : Bool
  cycles : Nat
  therm : Vector ThermSen 5
  words : Nat → Word
  ev : Fin 64 → EvSrc

/-- The thermal system as it stands. -/
def Dev.thm (d : Dev) : ThermView where
  part := d.part
  resetN := d.resetN
  locked := d.locked
  cycles := d.cycles
  therm := d.therm
  words := fun a => if isThermWord a then d.w a else 0
  ev := fun i => if isThermSrc i.1 then d.ev[i] else {}

section

variable {d e : Dev} (h : e.thm = d.thm)
include h

theorem Dev.thm_w {a : Nat} (ha : isThermWord a = true) : e.w a = d.w a := by
  have hw : (if isThermWord a then e.w a else 0) = (if isThermWord a then d.w a else 0) :=
    congrFun (congrArg ThermView.words h) a
  rwa [if_pos ha, if_pos ha] at hw

theorem Dev.thm_ev {i : Fin 64} (hi : isThermSrc i.1 = true) : e.ev[i] = d.ev[i] := by
  have hev : (if isThermSrc i.1 then e.ev[i] else {}) = (if isThermSrc i.1 then d.ev[i] else {}) :=
    congrFun (congrArg ThermView.ev h) i
  rwa [if_pos hi, if_pos hi] at hev

theorem Dev.thm_sen (s : SensorIx) : e.sen s = d.sen s := congrArg (fun v : ThermView => v.therm[s]) h

theorem Dev.thm_runs : e.runs = d.runs := congrArg (fun v : ThermView => v.resetN && v.locked) h

theorem Dev.thm_micros : e.micros = d.micros := congrArg (fun v : ThermView => v.cycles / 200) h

end

theorem isThermWord_eq_false {a : Nat} (h : a < 0x1000 ∨ 0x1040 ≤ a) : isThermWord a = false := decide_eq_false (by omega)

@[simp] theorem isThermWord_aMot (m : MotorIx) (o : Nat) : isThermWord (aMot m o) = false :=
  isThermWord_eq_false (.inr (by unfold aMot; omega))
@[simp] theorem isThermWord_aPrm (p : GroupIx) (o : Nat) : isThermWord (aPrm p o) = false :=
  isThermWord_eq_false (.inr (by unfold aPrm; omega))
@[simp] theorem isThermWord_aAcc (p : GroupIx) (a o : Nat) : isThermWord (aAcc p a o) = false :=
  isThermWord_eq_false (.inr (by unfold aAcc aPrm; omega))
@[simp] theorem isThermWord_aTrk (p : GroupIx) (t o : Nat) : isThermWord (aTrk p t o) = false :=
  isThermWord_eq_false (.inr (by unfold aTrk aPrm; omega))
@[simp] theorem isThermWord_aSup (g : GroupIx) (o : Nat) : isThermWord (aSup g o) = false :=
  isThermWord_eq_false (.inr (by unfold aSup; omega))
@[simp] theorem isThermWord_aGrp (g : GroupIx) {o : Nat} (h : o < 8) : isThermWord (aGrp g o) = false :=
  isThermWord_eq_false (.inl (by unfold aGrp; omega))

namespace Dev

variable (d : Dev)

/-! ### Updates -/

@[simp] theorem thm_put (a : Nat) (v : Word) (h : isThermWord a = false) : (d.put a v).thm = d.thm := by
  unfold Dev.thm
  congr 1
  funext b
  by_cases e : b = a
  · subst e; rw [h]; rfl
  · rw [d.w_put_ne v e]

@[simp] theorem thm_putB (a i : Nat) (b : Bool) (h : isThermWord a = false) : (d.putB a i b).thm = d.thm := d.thm_put a _ h
@[simp] theorem thm_putF (a hi lo v : Nat) (h : isThermWord a = false) : (d.putF a hi lo v).thm = d.thm := d.thm_put a _ h
@[simp] theorem thm_orW (a : Nat) (m : Word) (h : isThermWord a = false) : (d.orW a m).thm = d.thm := d.thm_put a _ h
@[simp] theorem thm_setB (a i : Nat) (h : isThermWord a = false) : (d.setB a i).thm = d.thm := d.thm_put a _ h
@[simp] theorem thm_inc (a : Nat) (h : isThermWord a = false) : (d.inc a).thm = d.thm := d.thm_put a _ h

@[simp] theorem thm_raise (i : Nat) (h : isThermSrc i = false) : (d.raise i).thm = d.thm := by
  have hev : (fun j : Fin 64 => if isThermSrc j.1 then (d.raise i).ev[j] else {}) =
      (fun j : Fin 64 => if isThermSrc j.1 then d.ev[j] else ({} : EvSrc)) := by
    funext j
    by_cases hj : j.1 = i
    · rw [if_neg (by rw [hj, h]; decide), if_neg (by rw [hj, h]; decide)]
    · congr 1
      unfold Dev.raise Dev.raiseNow
      split
      · rfl
      · split
        · next hlt =>
          split
          · exact upd_ne d.ev ⟨i, hlt⟩ j _ (fun e => hj (congrArg Fin.val e))
          · rfl
        · rfl
  unfold Dev.thm
  rw [hev]
  simp

@[simp] theorem thm_cause (a : Nat) (m : Word) (i : Nat) (h : isThermWord a = false) (hi : isThermSrc i = false) :
    (d.cause a m i).thm = d.thm := by
  rw [Dev.cause, Dev.thm_raise _ _ hi, Dev.thm_orW _ _ _ h]

@[simp] theorem thm_onMot (m : MotorIx) (f : Motor → Motor) : (d.onMot m f).thm = d.thm := rfl
@[simp] theorem thm_onGrp (g : GroupIx) (f : Group → Group) : (d.onGrp g f).thm = d.thm := rfl
@[simp] theorem thm_onPrm (p : GroupIx) (f : Prism → Prism) : (d.onPrm p f).thm = d.thm := rfl
@[simp] theorem thm_onAcc (p : GroupIx) (a : Fin 64) (f : Acc → Acc) : (d.onAcc p a f).thm = d.thm := rfl
@[simp] theorem thm_enforce (lo hi : Nat) : (d.enforce lo hi).thm = d.thm := rfl
@[simp] theorem thm_nextFree : d.nextFree.thm = d.thm := rfl

theorem thm_drives {d e : Dev} (h : d.Drives e) : e.thm = d.thm := (congrArg Dev.thm (Dev.Drives.eq h) :)

@[simp] theorem thm_driveGroup (g : GroupIx) : (d.driveGroup g).thm = d.thm := Dev.thm_drives (d.drives_driveGroup g)

@[simp] theorem thm_ite (c : Prop) [Decidable c] (x y : Dev) : (if c then x else y).thm = if c then x.thm else y.thm :=
  apply_ite _ _ _ _

theorem thm_each {α : Type} (l : List α) (f : Dev → α → Dev) (h : ∀ (e : Dev) (a : α), (f e a).thm = e.thm) :
    (d.each l f).thm = d.thm :=
  Dev.each_inv (P := fun e => e.thm = d.thm) l d rfl (fun e a he => (h e a).trans he)

/-! ### The supply block and the command inputs (R75, R183) -/

theorem isThermSrc_sup (g : GroupIx) : isThermSrc (16 + g.1) = false := decide_eq_false (by omega)

@[simp] theorem thm_setBrk (g : GroupIx) : (d.setBrk g).thm = d.thm := by simp [Dev.setBrk]

@[simp] theorem thm_setLevel (g : GroupIx) (new : Nat) : (d.setLevel g new).thm = d.thm := by
  simp [Dev.setLevel, Dev.chopFault, isThermSrc_sup]

@[simp] theorem thm_supEvaluate (g : GroupIx) (v : Nat) : (d.supEvaluate g v).thm = d.thm := by
  simp [Dev.supEvaluate, isThermSrc_sup]

@[simp] theorem thm_measureCmd (m : MotorIx) (x : Nat) : (d.measureCmd m x false).thm = d.thm := by
  have hput (e : Dev) (x : Nat) : (e.putCmdx m x).thm = e.thm := by
    unfold Dev.putCmdx
    dsimp only
    split <;> simp
  unfold Dev.measureCmd Dev.judgeCmd
  dsimp only
  split <;> simp [hput]

/-! ### A count that closes (R236, R240, R242) -/

theorem isThermSrc_prm (p : GroupIx) : isThermSrc (20 + p.1) = false := decide_eq_false (by omega)

theorem thm_showClose (p : GroupIx) (a : Fin 64) (late : Bool) : (d.showClose p a late).thm = d.thm := by
  unfold Dev.showClose
  dsimp only
  split <;> simp [isThermSrc_prm]

theorem thm_closeCount (p : GroupIx) (a : Fin 64) : (d.closeCount p a false).thm = d.thm := by
  rw [Dev.closeCount_eq]
  have htrk (e : Dev) : (e.closeTrks p a).thm = e.thm := Dev.thm_each _ _ _ fun e t => by simp [Dev.showTrk]
  have hend (e : Dev) (frame : Bool) : (e.endCount p a frame).thm = e.thm := by
    unfold Dev.endCount
    split
    · rfl
    · exact Dev.thm_each _ _ _ fun e t => rfl
  rw [hend, Dev.thm_onAcc, htrk]
  exact d.thm_showClose p a false

end Dev

end Sys2Proof.Machine
end

section
/-! A thermal reading, and the two states that it judges (R452 to R456). -/

namespace Sys2Proof.Machine

open Sys2Proof

/-- What the judging of one state of a sensor leaves: every word but the state, its causes and the other causes, and the other
bits of the state; causes only set. -/
structure Dev.Judged (d e : Dev) (k : Nat) (src : Fin 64) : Prop where
  therm : e.therm = d.therm
  cycles : e.cycles = d.cycles
  runs : e.runs = d.runs
  w : ∀ b, b ≠ 0x1001 → b ≠ 0x1002 → b ≠ 0x1003 → b ≠ 0x1005 → e.w b = d.w b
  stat : ∀ j, j < 16 → j ≠ k → e.bit 0x1001 j = d.bit 0x1001 j
  mono : ∀ b j, b ≠ 0x1001 → d.bit b j = true → e.bit b j = true
  ev : ∀ j : Fin 64, j ≠ src → j ≠ 27 → e.ev[j] = d.ev[j]

namespace Dev

/-- A state of a sensor changes, with its cause and its source (R455, R456). -/
def thermChange (d : Dev) (k : Nat) (b : Bool) (a : Nat) (m : Word) (i : Nat) : Dev := (d.putB 0x1001 k b).cause a m i

theorem thermChange_bit (d : Dev) {k : Nat} (hk : k < 16) (b : Bool) {a : Nat} (ha : a ≠ 0x1001) (m : Word) (i : Nat) :
    (d.thermChange k b a m i).bit 0x1001 k = b ∧ ∀ j, m.getLsbD j = true → (d.thermChange k b a m i).bit a j = true := by
  unfold Dev.thermChange
  refine ⟨?_, fun j hj => ?_⟩
  · rw [Dev.bit_cause, decide_eq_false (Ne.symm ha), Bool.false_and, Bool.or_false]
    exact d.bit_putB_self _ _ _ hk
  · rw [Dev.bit_cause, hj]
    simp

theorem thermChange_cnt {d : Dev} (hr : d.runs = true) (k : Nat) (b : Bool) (a : Nat) (m : Word) {i : Nat} (hi : i < 64)
    (hs : d.hasSrc i = true) : (d.thermChange k b a m i).ev[i].cnt = d.ev[i].cnt + 1 :=
  congrArg EvSrc.cnt (Dev.cause_ev_self (d := d.putB 0x1001 k b) hr a m hi hs)

/-- The sources of the thermal system are there in every part. -/
theorem hasSrc_therm (d : Dev) {i : Nat} (h : 24 ≤ i) (h' : i < 32) : d.hasSrc i = true := by
  unfold Dev.hasSrc
  rw [if_neg (by omega), if_neg (by omega), if_neg (by omega), if_neg (by omega)]

theorem thermChange_judged (d : Dev) {k : Nat} (hk : k < 16) (b : Bool) {a : Nat}
    (ha : a = 0x1002 ∨ a = 0x1003 ∨ a = 0x1005) (m : Word) {i : Nat} {src : Fin 64} (hi : i = src.1 ∨ i = 27) (h24 : 24 ≤ i) (h32 : i < 32) :
    d.Judged (d.thermChange k b a m i) k src := by
  have hne : a ≠ 0x1001 := by omega
  have hsrc : (d.putB 0x1001 k b).hasSrc i = true := d.hasSrc_therm h24 h32
  obtain ⟨-, hothers, -⟩ := (d.putB 0x1001 k b).cause_ev a m (i := ⟨i, by omega⟩) hsrc
  unfold Dev.thermChange
  refine ⟨by simp [Dev.cause], by simp [Dev.cause], by simp [Dev.cause], fun c h1 h2 h3 h5 => ?_, fun j hj hjk => ?_,
    fun c j hc h => ?_, fun j hj h27 => ?_⟩
  · exact (Dev.cause_w_ne _ _ _ (by omega)).trans (d.w_put_ne _ h1)
  · rw [Dev.bit_cause, decide_eq_false (Ne.symm hne), Bool.false_and, Bool.or_false, Dev.bit_putB _ _ _ _ _ _ hk hj,
      if_neg (fun h => hjk h.2)]
  · rw [Dev.bit_cause, Dev.bit_congr (show (d.putB 0x1001 k b).w c = d.w c from d.w_put_ne _ hc) j, h]
    rfl
  · refine hothers j (.inl fun e => ?_)
    obtain h | h := hi
    · exact hj (e.trans (Fin.ext h))
    · exact h27 (e.trans (Fin.ext h))

/-- The condition for a change of a state of sensor s (R455, R456). -/
def thermMet (d : Dev) (s : SensorIx) (k : Nat) (thr : Int) : Bool :=
  if d.bit 0x1001 k then decide (d.sw (aSen s 4) < thr - d.uw (aSen s 3)) else decide (thr ≤ d.sw (aSen s 4))

section

variable (d : Dev) (s : SensorIx) (bit cause src : Nat) (thr : Int) (first : Option Nat)

theorem thermJudge_unmet (h : d.thermMet s (bit + s.1) thr = false) :
    d.thermJudge s bit cause src thr first = (d, none) := by
  unfold Dev.thermMet at h
  unfold Dev.thermJudge
  dsimp only
  rw [h]
  rfl

theorem thermJudge_waits (h : d.thermMet s (bit + s.1) thr = true) (ht : d.micros < first.getD d.micros + 1000) :
    d.thermJudge s bit cause src thr first = (d, some (first.getD d.micros)) := by
  unfold Dev.thermMet at h
  unfold Dev.thermJudge
  dsimp only
  rw [h, if_pos ht]
  rfl

theorem thermJudge_asserts (h : d.thermMet s (bit + s.1) thr = true) (ht : first.getD d.micros + 1000 ≤ d.micros)
    (hoff : d.bit 0x1001 (bit + s.1) = false) : d.thermJudge s bit cause src thr first =
      (d.thermChange (bit + s.1) true cause (1#16 <<< s.1) src, none) := by
  unfold Dev.thermMet at h
  unfold Dev.thermJudge
  dsimp only
  rw [h, Bool.not_true, if_neg Bool.false_ne_true, if_neg (by omega), hoff]
  rfl

theorem thermJudge_releases (h : d.thermMet s (bit + s.1) thr = true) (ht : first.getD d.micros + 1000 ≤ d.micros)
    (hon : d.bit 0x1001 (bit + s.1) = true) : d.thermJudge s bit cause src thr first =
      (d.thermChange (bit + s.1) false 0x1005 (1#16 <<< (bit + s.1)) 27, none) := by
  unfold Dev.thermMet at h
  unfold Dev.thermJudge
  dsimp only
  rw [h, Bool.not_true, if_neg Bool.false_ne_true, if_neg (by omega), hon]
  rfl

theorem thermJudge_judged (hbit : bit ≤ 10) (hc : cause = 0x1002 ∨ cause = 0x1003) {i : Fin 64} (hi : src = i.1)
    (h24 : 24 ≤ src) (h32 : src < 32) : d.Judged (d.thermJudge s bit cause src thr first).1 (bit + s.1) i := by
  have hrefl : d.Judged d (bit + s.1) i := ⟨rfl, rfl, rfl, fun _ _ _ _ _ => rfl, fun _ _ _ => rfl, fun _ _ _ h => h, fun _ _ _ => rfl⟩
  cases hm : d.thermMet s (bit + s.1) thr with
  | false => rw [d.thermJudge_unmet s bit cause src thr first hm]; exact hrefl
  | true =>
    by_cases ht : d.micros < first.getD d.micros + 1000
    · rw [d.thermJudge_waits s bit cause src thr first hm ht]; exact hrefl
    · cases hon : d.bit 0x1001 (bit + s.1) with
      | false =>
        rw [d.thermJudge_asserts s bit cause src thr first hm (by omega) hon]
        exact d.thermChange_judged (by omega) _ (by omega) _ (.inl hi) h24 h32
      | true =>
        rw [d.thermJudge_releases s bit cause src thr first hm (by omega) hon]
        exact d.thermChange_judged (by omega) _ (by omega) _ (.inr rfl) (by decide) (by decide)

end

/-! ### The reading (R452) -/

/-- TEMP, its stamp and its flags take a reading. -/
def thermShown (d : Dev) (s : SensorIx) (v : Word) : Dev :=
  (((d.put (aSen s 4) v).stampTime (aSen s 5)).put (aSen s 7) 1).onSen s (fun x => { x with sent := false })

/-- The warning of sensor s is judged. -/
def thermWarn (d : Dev) (s : SensorIx) : Dev × Option Nat :=
  d.thermJudge s 10 0x1002 24 (d.sw (aSen s 1)) (d.sen s).warnAt

/-- The throttle of sensor s is judged. -/
def thermThr (d : Dev) (s : SensorIx) : Dev × Option Nat :=
  d.thermJudge s 5 0x1003 25 (d.sw (aSen s 2)) (d.sen s).thrAt

/-- The sensor keeps the times of its first readings. -/
def keepTimes (d : Dev) (s : SensorIx) (w t : Option Nat) : Dev := d.onSen s (fun x => { x with warnAt := w, thrAt := t })

theorem thermReading_eq (d : Dev) (s : SensorIx) (v : Word) : d.thermReading s v =
    ((((d.thermShown s v).thermWarn s).1.thermThr s).1).keepTimes s ((d.thermShown s v).thermWarn s).2
      (((d.thermShown s v).thermWarn s).1.thermThr s).2 := rfl

theorem onSen_self (d : Dev) (s : SensorIx) (f : ThermSen → ThermSen) : (d.onSen s f).sen s = f (d.sen s) := upd_self d.therm s f

theorem onSen_ne (d : Dev) {s t : SensorIx} (f : ThermSen → ThermSen) (h : t ≠ s) : (d.onSen s f).sen t = d.sen t :=
  upd_ne d.therm s t f h

theorem thermShown_spec (d : Dev) (s : SensorIx) (v : Word) : (d.thermShown s v).w (aSen s 4) = v ∧
    (∀ b, b < aSen s 4 → (d.thermShown s v).w b = d.w b) ∧ ((d.thermShown s v).sen s) = { d.sen s with sent := false } ∧
    (d.thermShown s v).cycles = d.cycles ∧ (d.thermShown s v).runs = d.runs ∧ (d.thermShown s v).ev = d.ev := by
  have h4 : ((d.put (aSen s 4) v).stampTime (aSen s 5)).w (aSen s 4) = v := by
    unfold Dev.stampTime
    rw [Dev.w_put32, if_neg (by unfold aSen; omega), if_neg (by unfold aSen; omega), Dev.w_put_self]
  have hlt (b : Nat) (hb : b < aSen s 4) : ((d.put (aSen s 4) v).stampTime (aSen s 5)).w b = d.w b := by
    unfold Dev.stampTime
    rw [Dev.w_put32, if_neg (by unfold aSen at *; omega), if_neg (by unfold aSen at *; omega), Dev.w_put_ne _ _ (by omega)]
  have hkeeps : ((d.put (aSen s 4) v).stampTime (aSen s 5)).therm = d.therm ∧
      ((d.put (aSen s 4) v).stampTime (aSen s 5)).cycles = d.cycles ∧
      ((d.put (aSen s 4) v).stampTime (aSen s 5)).runs = d.runs ∧
      ((d.put (aSen s 4) v).stampTime (aSen s 5)).ev = d.ev := by simp
  unfold Dev.thermShown
  generalize (d.put (aSen s 4) v).stampTime (aSen s 5) = x at h4 hlt hkeeps ⊢
  obtain ⟨htherm, hcyc, hruns, hev⟩ := hkeeps
  refine ⟨(Dev.w_put_ne _ _ (by unfold aSen; omega)).trans h4, fun b hb => ?_, ?_, hcyc, hruns, hev⟩
  · exact (Dev.w_put_ne _ _ (by unfold aSen at *; omega)).trans (hlt b hb)
  · refine (Dev.onSen_self _ s _).trans ?_
    unfold Dev.sen
    rw [← htherm]
    rfl

end Dev

end Sys2Proof.Machine
end

section
/-! Proof of the statement on the thermal system (R451 to R460). -/

namespace Sys2Proof.Machine

open Sys2Proof

namespace Dev

/-- A sensor whose waiting request goes to array p. -/
def handed (p : GroupIx) (acc : Nat) (x : ThermSen) : ThermSen :=
  { x with queued := x.queued - 1, sent := true, sentArr := p, acc := acc }

theorem thermFeed_hands (d : Dev) (p : GroupIx) : d.thermFeed p = d ∨
    ∃ s acc f, d.thermFeed p = (d.onSen s (handed p acc)).onPrm p f := by
  unfold Dev.thermFeed
  refine iteInduction (motive := fun e => e = d ∨ ∃ s acc f, e = (d.onSen s (handed p acc)).onPrm p f)
    (fun _ => .inl rfl) (fun _ => ?_)
  split
  · exact .inl rfl
  · exact .inr ⟨_, _, _, rfl⟩

/-- Handing a waiting request to an array changes no word, no event and no time of a first reading, and takes nothing back. -/
theorem thermFeed_spec (d : Dev) (p : GroupIx) : (d.thermFeed p).words = d.words ∧ (d.thermFeed p).ev = d.ev ∧
    (d.thermFeed p).motors = d.motors ∧ (d.thermFeed p).part = d.part ∧ (d.thermFeed p).power = d.power ∧
    (d.thermFeed p).thermAt = d.thermAt ∧ ∀ t, ((d.thermFeed p).sen t).warnAt = (d.sen t).warnAt ∧ ((d.thermFeed p).sen t).arr = (d.sen t).arr ∧
      ((d.sen t).sent = true ∨ 0 < (d.sen t).queued →
        ((d.thermFeed p).sen t).sent = true ∨ 0 < ((d.thermFeed p).sen t).queued) := by
  obtain h | ⟨s, acc, f, h⟩ := d.thermFeed_hands p <;> rw [h]
  · exact ⟨rfl, rfl, rfl, rfl, rfl, rfl, fun t => ⟨rfl, rfl, id⟩⟩
  · refine ⟨rfl, rfl, rfl, rfl, rfl, rfl, fun t => ?_⟩
    rw [Dev.onPrm_sen]
    by_cases ht : t = s
    · subst ht
      rw [Dev.onSen_self]
      exact ⟨rfl, rfl, fun _ => .inl rfl⟩
    · rw [Dev.onSen_ne _ _ ht]
      exact ⟨rfl, rfl, id⟩

/-- The end of a request of sensor s that waits for the same array. -/
theorem thermOver_same {d : Dev} {p : GroupIx} {s : SensorIx} (h : (d.sen s).arr = p) :
    d.thermOver p s = d.onSen s (fun x => { x with sent := false }) := by
  unfold Dev.thermOver
  dsimp only
  rw [Dev.onSen_self]
  refine if_neg ?_
  simp [h]

/-- After a reading, the end of its request and the next request change no word, no event and no time of a first reading. -/
theorem readingEnds {d e : Dev} {p : GroupIx} {s : SensorIx} {w t : Option Nat}
    (he : e = ((d.keepTimes s w t).thermOver p s).thermFeed p) (harr : (d.sen s).arr = p) :
    (∀ a, e.w a = d.w a) ∧ e.ev = d.ev ∧ (e.sen s).warnAt = w := by
  have hself : (d.keepTimes s w t).sen s = { d.sen s with warnAt := w, thrAt := t } := d.onSen_self s _
  rw [Dev.thermOver_same (by rw [hself]; exact harr)] at he
  obtain ⟨hwords, hev, -, -, -, -, hsen⟩ := ((d.keepTimes s w t).onSen s (fun x => { x with sent := false })).thermFeed_spec p
  rw [he]
  refine ⟨fun a => Dev.w_of_words hwords a, hev, (hsen s).1.trans ?_⟩
  rw [Dev.onSen_self, hself]

/-- A reading of sensor s, and then the next request of its array. -/
theorem reading_spec {d : Dev} (hr : d.runs = true) {p : GroupIx} {s : SensorIx} (harr : (d.sen s).arr = p) (v : Word) {e : Dev}
    (he : e = ((d.thermReading s v).thermOver p s).thermFeed p) : e.w (aSen s 4) = v ∧
      (d.bit 0x1001 (10 + s.1) = false →
        (v.toInt < d.sw (aSen s 1) → (e.sen s).warnAt = none ∧ e.bit 0x1001 (10 + s.1) = false) ∧
        (d.sw (aSen s 1) ≤ v.toInt → (d.sen s).warnAt = none →
          (e.sen s).warnAt = some d.micros ∧ e.bit 0x1001 (10 + s.1) = false) ∧
        (∀ t, d.sw (aSen s 1) ≤ v.toInt → (d.sen s).warnAt = some t →
          (d.micros < t + 1000 → (e.sen s).warnAt = some t ∧ e.bit 0x1001 (10 + s.1) = false) ∧
          (t + 1000 ≤ d.micros → e.bit 0x1001 (10 + s.1) = true ∧ e.bit 0x1002 s.1 = true ∧
            e.ev[24].cnt = d.ev[24].cnt + 1))) ∧
      (∀ t, d.bit 0x1001 (10 + s.1) = true → (d.sen s).warnAt = some t → t + 1000 ≤ d.micros →
        v.toInt < d.sw (aSen s 1) - d.uw (aSen s 3) → e.bit 0x1001 (10 + s.1) = false ∧ e.bit 0x1005 (10 + s.1) = true) ∧
      (∀ t, d.bit 0x1001 (5 + s.1) = false → (d.sen s).thrAt = some t → t + 1000 ≤ d.micros →
        d.sw (aSen s 2) ≤ v.toInt → e.bit 0x1001 (5 + s.1) = true ∧ e.bit 0x1003 s.1 = true ∧
        e.ev[25].cnt = d.ev[25].cnt + 1) ∧
      (∀ t, d.bit 0x1001 (5 + s.1) = true → (d.sen s).thrAt = some t → t + 1000 ≤ d.micros →
        v.toInt < d.sw (aSen s 2) - d.uw (aSen s 3) → e.bit 0x1001 (5 + s.1) = false ∧ e.bit 0x1005 (5 + s.1) = true) := by
  obtain ⟨h4, hbelow, hsen, hcyc, hruns, hev⟩ := d.thermShown_spec s v
  rw [Dev.thermReading_eq] at he
  generalize d.thermShown s v = x at h4 hbelow hsen hcyc hruns hev he
  have hmic : x.micros = d.micros := congrArg (· / 200) hcyc
  have hst (i : Nat) : x.bit 0x1001 i = d.bit 0x1001 i := Dev.bit_congr (hbelow _ (by unfold aSen; omega)) i
  have hx (i : Nat) (hi : i < 4) : x.w (aSen s i) = d.w (aSen s i) := hbelow _ (by unfold aSen; omega)
  have hW : x.Judged (x.thermWarn s).1 (10 + s.1) 24 :=
    x.thermJudge_judged s 10 0x1002 24 _ _ (by decide) (.inl rfl) rfl (by decide) (by decide)
  have hT : (x.thermWarn s).1.Judged ((x.thermWarn s).1.thermThr s).1 (5 + s.1) 25 :=
    Dev.thermJudge_judged _ s 5 0x1003 25 _ _ (by decide) (.inr rfl) rfl (by decide) (by decide)
  obtain ⟨hw, hevE, hwarn⟩ := Dev.readingEnds he (by
    rw [show ((x.thermWarn s).1.thermThr s).1.sen s = x.sen s from congrArg (·[s]) (hT.therm.trans hW.therm), hsen]
    exact harr)
  have hsw4 : x.sw (aSen s 4) = v.toInt := congrArg BitVec.toInt h4
  have hsw1 : x.sw (aSen s 1) = d.sw (aSen s 1) := congrArg BitVec.toInt (hx 1 (by decide))
  have huw3 : x.uw (aSen s 3) = d.uw (aSen s 3) := congrArg BitVec.toNat (hx 3 (by decide))
  have hfirst : (x.sen s).warnAt = (d.sen s).warnAt := by rw [hsen]
  have hrx : x.runs = true := hruns.trans hr
  -- the throttle is judged after the warning, on the same reading
  have hkeepW (i : Nat) (h : i < 5) : (x.thermWarn s).1.w (aSen s i) = x.w (aSen s i) :=
    hW.w _ (by unfold aSen; omega) (by unfold aSen; omega) (by unfold aSen; omega) (by unfold aSen; omega)
  have htw4 : (x.thermWarn s).1.sw (aSen s 4) = v.toInt := (congrArg BitVec.toInt (hkeepW 4 (by decide))).trans hsw4
  have htw2 : (x.thermWarn s).1.sw (aSen s 2) = d.sw (aSen s 2) :=
    congrArg BitVec.toInt ((hkeepW 2 (by decide)).trans (hx 2 (by decide)))
  have htw3 : (x.thermWarn s).1.uw (aSen s 3) = d.uw (aSen s 3) :=
    congrArg BitVec.toNat ((hkeepW 3 (by decide)).trans (hx 3 (by decide)))
  have hmicT : (x.thermWarn s).1.micros = d.micros := (congrArg (· / 200) hW.cycles).trans hmic
  have hfirstT : ((x.thermWarn s).1.sen s).thrAt = (d.sen s).thrAt := by
    rw [show (x.thermWarn s).1.sen s = x.sen s from congrArg (·[s]) hW.therm, hsen]
  have hstT : (x.thermWarn s).1.bit 0x1001 (5 + s.1) = d.bit 0x1001 (5 + s.1) :=
    (hW.stat _ (by omega) (by omega)).trans (hst _)
  have hbit (i : Nat) : e.bit 0x1001 i = ((x.thermWarn s).1.thermThr s).1.bit 0x1001 i := Dev.bit_congr (hw _) i
  have hbitW : e.bit 0x1001 (10 + s.1) = (x.thermWarn s).1.bit 0x1001 (10 + s.1) :=
    (hbit _).trans (hT.stat _ (by omega) (by omega))
  refine ⟨(hw _).trans ((hT.w _ (by unfold aSen; omega) (by unfold aSen; omega) (by unfold aSen; omega) (by unfold aSen; omega)).trans
    ((hkeepW 4 (by decide)).trans h4)), fun hoff => ?_, fun t hon hat ht hlt => ?_, fun t hoff hat ht hle => ?_,
    fun t hon hat ht hlt => ?_⟩
  · have hoffx : x.bit 0x1001 (10 + s.1) = false := (hst _).trans hoff
    have hmet : x.thermMet s (10 + s.1) (x.sw (aSen s 1)) = decide (d.sw (aSen s 1) ≤ v.toInt) := by
      unfold Dev.thermMet
      rw [hoffx, hsw4, hsw1]
      rfl
    refine ⟨fun hlt => ?_, fun hle hnone => ?_, fun t hle hat => ⟨fun ht => ?_, fun ht => ?_⟩⟩
    · have hJ : x.thermWarn s = (x, none) :=
        x.thermJudge_unmet s 10 0x1002 24 _ _ (hmet.trans (decide_eq_false (by omega)))
      rw [hwarn, hbitW, hJ]
      exact ⟨rfl, hoffx⟩
    · have hJ : x.thermWarn s = (x, some x.micros) := by
        have := x.thermJudge_waits s 10 0x1002 24 _ (x.sen s).warnAt (hmet.trans (decide_eq_true hle))
        rw [hfirst, hnone] at this
        exact (congrArg (x.thermJudge s 10 0x1002 24 (x.sw (aSen s 1))) (hfirst.trans hnone)).trans
          (this (Nat.lt_add_of_pos_right (by decide)))
      rw [hwarn, hbitW, hJ, ← hmic]
      exact ⟨rfl, hoffx⟩
    · have hJ : x.thermWarn s = (x, some t) := by
        unfold Dev.thermWarn
        rw [hfirst, hat]
        exact x.thermJudge_waits s 10 0x1002 24 _ (some t) (hmet.trans (decide_eq_true hle)) (by rw [hmic]; exact ht)
      rw [hwarn, hbitW, hJ]
      exact ⟨rfl, hoffx⟩
    · have hJ : x.thermWarn s = (x.thermChange (10 + s.1) true 0x1002 (1#16 <<< s.1) 24, none) := by
        unfold Dev.thermWarn
        rw [hfirst, hat]
        exact x.thermJudge_asserts s 10 0x1002 24 _ (some t) (hmet.trans (decide_eq_true hle)) (by rw [hmic]; exact ht) hoffx
      obtain ⟨hon, hcause⟩ := x.thermChange_bit (k := 10 + s.1) (by omega) true (a := 0x1002) (by decide) (1#16 <<< s.1) 24
      have hcnt := Dev.thermChange_cnt hrx (10 + s.1) true 0x1002 (1#16 <<< s.1) (i := 24) (by decide) (x.hasSrc_therm (by decide) (by decide))
      have h1 : (x.thermWarn s).1 = x.thermChange (10 + s.1) true 0x1002 (1#16 <<< s.1) 24 := congrArg Prod.fst hJ
      refine ⟨?_, ?_, ?_⟩
      · rw [hbitW, h1]
        exact hon
      · rw [Dev.bit_congr (hw 0x1002) s.1]
        refine hT.mono _ _ (by decide) ?_
        rw [h1]
        exact hcause s.1 (by simp; omega)
      · rw [hevE]
        refine (congrArg EvSrc.cnt (hT.ev 24 (by decide) (by decide))).trans ?_
        rw [h1, ← hev]
        exact hcnt
  · have honx : x.bit 0x1001 (10 + s.1) = true := (hst _).trans hon
    have hmet : x.thermMet s (10 + s.1) (x.sw (aSen s 1)) = true := by
      unfold Dev.thermMet
      rw [honx, hsw4, hsw1, huw3]
      exact decide_eq_true hlt
    have hJ : x.thermWarn s = (x.thermChange (10 + s.1) false 0x1005 (1#16 <<< (10 + s.1)) 27, none) := by
      unfold Dev.thermWarn
      rw [hfirst, hat]
      exact x.thermJudge_releases s 10 0x1002 24 _ (some t) hmet (by rw [hmic]; exact ht) honx
    obtain ⟨hoff, hcause⟩ := x.thermChange_bit (k := 10 + s.1) (by omega) false (a := 0x1005) (by decide) (1#16 <<< (10 + s.1)) 27
    have h1 : (x.thermWarn s).1 = x.thermChange (10 + s.1) false 0x1005 (1#16 <<< (10 + s.1)) 27 := congrArg Prod.fst hJ
    refine ⟨?_, ?_⟩
    · rw [hbitW, h1]
      exact hoff
    · rw [Dev.bit_congr (hw 0x1005) (10 + s.1)]
      refine hT.mono _ _ (by decide) ?_
      rw [h1]
      exact hcause _ (by simp; omega)
  · generalize (x.thermWarn s).1 = y at *
    have hmet : y.thermMet s (5 + s.1) (y.sw (aSen s 2)) = true := by
      unfold Dev.thermMet
      rw [hstT, hoff, htw4, htw2]
      exact decide_eq_true hle
    have hJ : y.thermThr s = (y.thermChange (5 + s.1) true 0x1003 (1#16 <<< s.1) 25, none) := by
      unfold Dev.thermThr
      rw [hfirstT, hat]
      exact y.thermJudge_asserts s 5 0x1003 25 _ (some t) hmet (by rw [hmicT]; exact ht) (hstT.trans hoff)
    obtain ⟨hon, hcause⟩ := y.thermChange_bit (k := 5 + s.1) (by omega) true (a := 0x1003) (by decide) (1#16 <<< s.1) 25
    have hcnt := Dev.thermChange_cnt (hW.runs.trans hrx) (5 + s.1) true 0x1003 (1#16 <<< s.1) (i := 25) (by decide)
      (y.hasSrc_therm (by decide) (by decide))
    have h1 : (y.thermThr s).1 = y.thermChange (5 + s.1) true 0x1003 (1#16 <<< s.1) 25 := congrArg Prod.fst hJ
    refine ⟨?_, ?_, ?_⟩
    · rw [hbit, h1]
      exact hon
    · rw [Dev.bit_congr (hw 0x1003) s.1, h1]
      exact hcause s.1 (by simp; omega)
    · rw [hevE, h1]
      refine hcnt.trans ?_
      rw [show y.ev[25] = x.ev[25] from hW.ev 25 (by decide) (by decide), hev]
  · generalize (x.thermWarn s).1 = y at *
    have hmet : y.thermMet s (5 + s.1) (y.sw (aSen s 2)) = true := by
      unfold Dev.thermMet
      rw [hstT, hon, htw4, htw2, htw3]
      exact decide_eq_true hlt
    have hJ : y.thermThr s = (y.thermChange (5 + s.1) false 0x1005 (1#16 <<< (5 + s.1)) 27, none) := by
      unfold Dev.thermThr
      rw [hfirstT, hat]
      exact y.thermJudge_releases s 5 0x1003 25 _ (some t) hmet (by rw [hmicT]; exact ht) (hstT.trans hon)
    obtain ⟨hoff, hcause⟩ := y.thermChange_bit (k := 5 + s.1) (by omega) false (a := 0x1005) (by decide) (1#16 <<< (5 + s.1)) 27
    have h1 : (y.thermThr s).1 = y.thermChange (5 + s.1) false 0x1005 (1#16 <<< (5 + s.1)) 27 := congrArg Prod.fst hJ
    refine ⟨?_, ?_⟩
    · rw [hbit, h1]
      exact hoff
    · rw [Dev.bit_congr (hw 0x1005) (5 + s.1), h1]
      exact hcause _ (by simp; omega)

/-! ### A count that closes and is a reading (R452) -/

theorem filter_single {α : Type} [DecidableEq α] {l : List α} {p : α → Bool} {a : α} (hl : l.Nodup) (ha : a ∈ l) (hp : p a = true)
    (hother : ∀ b, b ≠ a → p b = false) : l.filter p = [a] := by
  have hcongr : l.filter p = l.filter (· = a) := List.filter_congr fun b _ => by
    by_cases h : b = a
    · simp [h, hp]
    · simp [h, hother b h]
  rw [hcongr, List.filter_eq, List.count_eq_one_of_mem hl ha]
  rfl

/-- The one request that the count serves is read, once the supply block and the engines have read it. -/
theorem closeRead_one {d : Dev} {p : GroupIx} {a : Fin 64} {s : SensorIx} (hsent : (d.sen s).sent = true)
    (hsentArr : (d.sen s).sentArr = p) (hacc : (d.sen s).acc = a.1) (hother : ∀ o, o ≠ s → (d.sen o).sent = false) :
    ∃ x : Dev, x.thm = d.thm ∧
      d.closeRead p a = ((x.thermReading s (d.w (aAcc p a 2))).thermOver p s).thermFeed p := by
  have hsup : (if d.fld (aSup p 0) 7 2 = a.1 then d.supEvaluate p (d.w (aAcc p a 2)).toNat else d).thm = d.thm := by
    split
    · exact d.thm_supEvaluate p _
    · rfl
  rw [Dev.closeRead_eq]
  generalize (if d.fld (aSup p 0) 7 2 = a.1 then d.supEvaluate p (d.w (aAcc p a 2)).toNat else d) = y at hsup ⊢
  generalize d.w (aAcc p a 2) = v
  have hcmd := Dev.thm_each y ((motsOf p).filter (fun m => y.cmdForm m = 1 && y.ifld (aMot m 0x40) 7 2 = a.1))
    (fun d m => d.measureCmd m v.toNat false) (fun e m => e.thm_measureCmd m _)
  unfold Dev.readRest
  dsimp only
  generalize y.each ((motsOf p).filter (fun m => y.cmdForm m = 1 && y.ifld (aMot m 0x40) 7 2 = a.1))
    (fun d m => d.measureCmd m v.toNat false) = x at hcmd ⊢
  have hx := hcmd.trans hsup
  have hlist : (List.finRange 5).filter (fun s => (x.sen s).sent && (x.sen s).sentArr = p && (x.sen s).acc = a.1) = [s] := by
    refine filter_single (List.nodup_finRange 5) (List.mem_finRange s) ?_ fun o ho => ?_
    · rw [Dev.thm_sen hx, hsent, hsentArr, hacc]
      simp
    · rw [Dev.thm_sen hx, hother o ho]
      rfl
  rw [hlist]
  exact ⟨x, hx, rfl⟩

theorem closeDue_one {d : Dev} {p : GroupIx} {a : Fin 64} {s : SensorIx} (hr : d.runs = true) (hready : d.prmReady p = true)
    (hframe : (d.acc p a).frame = true) (hclosed : (d.acc p a).closed = false) (hwaits : (d.acc p a).waits = false)
    (hn : (d.acc p a).total ≤ (d.acc p a).n) (hpoint : d.closePoint p (d.acc p a) ≤ d.frameTick p)
    (hsent : (d.sen s).sent = true) (hsentArr : (d.sen s).sentArr = p) (hacc : (d.sen s).acc = a.1)
    (hother : ∀ o, o ≠ s → (d.sen o).sent = false) : ∃ x : Dev, x.thm = d.thm ∧
      d.closeDue p a = ((x.thermReading s (iword (d.acc p a).value.1)).thermOver p s).thermFeed p := by
  have hcount := d.thm_closeCount p a
  have hval : (d.closeCount p a false).w (aAcc p a 2) = iword (d.acc p a).value.1 :=
    (d.closeCount_w p a false (ArrWatch.word_aPrm_of_counts p (by omega) rfl)).trans (d.showClose_spec p a false).1
  obtain ⟨x, hx, hread⟩ := Dev.closeRead_one (d := d.closeCount p a false) (p := p) (a := a) (s := s)
    (by rw [Dev.thm_sen hcount, hsent]) (by rw [Dev.thm_sen hcount, hsentArr]) (by rw [Dev.thm_sen hcount, hacc])
    (fun o ho => by rw [Dev.thm_sen hcount, hother o ho])
  refine ⟨x, hx.trans hcount, ?_⟩
  rw [← hval, ← hread, ← Dev.closed_of_runs p a false hr]
  unfold Dev.closeDue
  dsimp only
  rw [if_pos (by simp [hr, hready, hframe, hclosed, hwaits, hn, hpoint])]

/-! ### Requests (R453) -/

/-- A reading of sensor s has been asked for in the state d: an array that can convert has it, else NOREAD sets. -/
def Requested (d e : Dev) (s : SensorIx) : Prop :=
  (d.thermArray s = none → e.bit (aSen s 7) 1 = true) ∧
  ∀ p, d.thermArray s = some p → (d.prmReady p = false → e.bit (aSen s 7) 1 = true) ∧
    (d.prmReady p = true → (e.sen s).arr = p ∧ ((e.sen s).sent = true ∨ 0 < (e.sen s).queued) ∧
      e.bit (aSen s 7) 1 = d.bit (aSen s 7) 1)

/-- What a request leaves of sensor t, which it does not name. -/
structure SensorKept (d e : Dev) (t : SensorIx) : Prop where
  w : e.w (aSen t 7) = d.w (aSen t 7)
  arr : (e.sen t).arr = (d.sen t).arr
  kept : (d.sen t).sent = true ∨ 0 < (d.sen t).queued → (e.sen t).sent = true ∨ 0 < (e.sen t).queued

theorem SensorKept.trans {c d e : Dev} {t : SensorIx} (h : c.SensorKept d t) (h' : d.SensorKept e t) : c.SensorKept e t :=
  ⟨h'.w.trans h.w, h'.arr.trans h.arr, fun hk => h'.kept (h.kept hk)⟩

/-- The words NOREAD. -/
def noreadWords : List Nat := [aSen 0 7, aSen 1 7, aSen 2 7, aSen 3 7, aSen 4 7]

theorem mem_noreadWords (s : SensorIx) : aSen s 7 ∈ noreadWords := by
  revert s
  decide

/-- What every request leaves. -/
structure RequestKept (d e : Dev) : Prop where
  words : d.SameWords e noreadWords
  motors : e.motors = d.motors
  part : e.part = d.part
  power : e.power = d.power
  thermAt : e.thermAt = d.thermAt

theorem RequestKept.refl (d : Dev) : d.RequestKept d := ⟨fun _ _ => rfl, rfl, rfl, rfl, rfl⟩

theorem RequestKept.trans {c d e : Dev} (h : c.RequestKept d) (h' : d.RequestKept e) : c.RequestKept e :=
  ⟨h.words.trans h'.words, h'.motors.trans h.motors, h'.part.trans h.part, h'.power.trans h.power,
    h'.thermAt.trans h.thermAt⟩

section

variable {d e : Dev} (h : d.RequestKept e)
include h

theorem RequestKept.domOn (n : Nat) : e.domOn n = d.domOn n := h.words.bit (by decide) n

theorem RequestKept.prmReady (p : GroupIx) : e.prmReady p = d.prmReady p := by
  unfold Dev.prmReady Dev.prmOn Dev.hasGrp
  rw [h.domOn, h.power, h.part, show e.domRdy (prismDom p) = d.domRdy (prismDom p) from h.words.bit (by decide) _]

theorem RequestKept.thermArray (s : SensorIx) : e.thermArray s = d.thermArray s := by
  unfold Dev.thermArray Dev.prmOn Dev.hasGrp
  simp only [h.domOn, h.power, h.part]

theorem RequestKept.hasSen (s : SensorIx) : e.hasSen s = d.hasSen s := by
  unfold Dev.hasSen
  rw [h.part]

end

theorem thermMissed_spec (d : Dev) (s : SensorIx) : (d.thermMissed s).bit (aSen s 7) 1 = true ∧ d.RequestKept (d.thermMissed s) ∧
    ∀ t, t ≠ s → d.SensorKept (d.thermMissed s) t := by
  refine ⟨d.bit_putB_self (aSen s 7) 1 true (by decide), ⟨d.sameWords_put _ (mem_noreadWords s), rfl, rfl, rfl, rfl⟩, fun t ht => ?_⟩
  have hsen : (d.thermMissed s).sen t = d.sen t := Dev.onSen_ne (d.putB (aSen s 7) 1 true) _ ht
  have hne : t.1 ≠ s.1 := fun e => ht (Fin.ext e)
  exact ⟨d.w_put_ne _ (by unfold aSen; omega), by rw [hsen], by rw [hsen]; exact id⟩

/-- Array p accepts a request of sensor s. -/
def accepted (d : Dev) (s : SensorIx) (p : GroupIx) : Dev :=
  (d.onSen s (fun x => { x with queued := x.queued + 1, arr := p })).thermFeed p

theorem accepted_spec (d : Dev) (s : SensorIx) (p : GroupIx) : ((d.accepted s p).sen s).arr = p ∧
    (((d.accepted s p).sen s).sent = true ∨ 0 < ((d.accepted s p).sen s).queued) ∧
    (d.accepted s p).words = d.words ∧ d.RequestKept (d.accepted s p) ∧ ∀ t, t ≠ s → d.SensorKept (d.accepted s p) t := by
  obtain ⟨hwords, -, hmot, hpart, hpow, hat, hsen⟩ := (d.onSen s (fun x => { x with queued := x.queued + 1, arr := p })).thermFeed_spec p
  obtain ⟨-, harr, hkept⟩ := hsen s
  rw [Dev.onSen_self] at harr hkept
  refine ⟨harr, hkept (.inr (Nat.succ_pos _)), hwords, ⟨Dev.sameWords_of_words hwords _, hmot, hpart, hpow, hat⟩, fun t ht => ?_⟩
  obtain ⟨-, harrT, hkeptT⟩ := hsen t
  rw [Dev.onSen_ne _ _ ht] at harrT hkeptT
  exact ⟨Dev.w_of_words hwords _, harrT, hkeptT⟩

theorem thermRequest_spec (d : Dev) (s : SensorIx) : (d.hasSen s = true → d.Requested (d.thermRequest s) s) ∧
    d.RequestKept (d.thermRequest s) ∧ ∀ t, t ≠ s → d.SensorKept (d.thermRequest s) t := by
  obtain ⟨hmiss, hmissKept, hmissOther⟩ := d.thermMissed_spec s
  cases hs : d.hasSen s with
  | false =>
    have heq : d.thermRequest s = d := by
      unfold Dev.thermRequest
      rw [hs]
      rfl
    rw [heq]
    exact ⟨fun h => Bool.noConfusion h, .refl d, fun _ _ => ⟨rfl, rfl, id⟩⟩
  | true =>
    cases harr : d.thermArray s with
    | none =>
      have heq : d.thermRequest s = d.thermMissed s := by
        unfold Dev.thermRequest
        rw [hs, harr]
        rfl
      rw [heq]
      exact ⟨fun _ => ⟨fun _ => hmiss, fun p hp => (Option.some_ne_none p (hp.symm.trans harr)).elim⟩, hmissKept, hmissOther⟩
    | some q =>
      cases hready : d.prmReady q with
      | false =>
        have heq : d.thermRequest s = d.thermMissed s := by
          unfold Dev.thermRequest
          rw [hs, harr]
          simp [hready]
        rw [heq]
        refine ⟨fun _ => ⟨fun _ => hmiss, fun p hp => ?_⟩, hmissKept, hmissOther⟩
        obtain rfl : q = p := Option.some.inj (harr.symm.trans hp)
        exact ⟨fun _ => hmiss, fun hr => Bool.noConfusion (hready.symm.trans hr)⟩
      | true =>
        have heq : d.thermRequest s = d.accepted s q := by
          unfold Dev.thermRequest
          rw [hs, harr]
          simp [hready, Dev.accepted]
        obtain ⟨hq, hkept, hwords, hreq, hother⟩ := d.accepted_spec s q
        rw [heq]
        refine ⟨fun _ => ⟨fun hn => ?_, fun p hp => ?_⟩, hreq, hother⟩
        · exact (Option.some_ne_none q (harr.symm.trans hn)).elim
        · obtain rfl : q = p := Option.some.inj (harr.symm.trans hp)
          exact ⟨fun hr => Bool.noConfusion (hready.symm.trans hr), fun _ => ⟨hq, hkept, Dev.bit_congr (Dev.w_of_words hwords _) 1⟩⟩

/-- Requests of the sensors of a list. -/
theorem each_thermRequest : ∀ (l : List SensorIx), l.Nodup → ∀ d : Dev,
    d.RequestKept (d.each l Dev.thermRequest) ∧ (∀ s, s ∈ l → d.hasSen s = true → d.Requested (d.each l Dev.thermRequest) s) ∧
      ∀ t, t ∉ l → d.SensorKept (d.each l Dev.thermRequest) t
  | [], _, d => ⟨.refl d, fun _ h => absurd h List.not_mem_nil, fun _ _ => ⟨rfl, rfl, id⟩⟩
  | s :: l, hl, d => by
    obtain ⟨hs, hl⟩ := List.nodup_cons.1 hl
    obtain ⟨hreq, hkept, hother⟩ := d.thermRequest_spec s
    obtain ⟨hkeptL, hreqL, hotherL⟩ := each_thermRequest l hl (d.thermRequest s)
    show d.RequestKept ((d.thermRequest s).each l Dev.thermRequest) ∧ _
    refine ⟨hkept.trans hkeptL, fun t ht hsen => ?_, fun t ht => ?_⟩
    · by_cases hts : t = s
      · subst hts
        obtain ⟨hw, harr, hk⟩ := hotherL t hs
        obtain ⟨h1, h2⟩ := hreq hsen
        refine ⟨fun hn => (Dev.bit_congr hw 1).trans (h1 hn), fun p hp => ⟨fun hr => (Dev.bit_congr hw 1).trans ((h2 p hp).1 hr),
          fun hr => ?_⟩⟩
        obtain ⟨ha, hsq, hb⟩ := (h2 p hp).2 hr
        exact ⟨harr.trans ha, hk hsq, (Dev.bit_congr hw 1).trans hb⟩
      · have htl := (List.mem_cons.1 ht).resolve_left hts
        obtain ⟨h1, h2⟩ := hreqL t htl ((hkept.hasSen t).trans hsen)
        refine ⟨fun hn => h1 ((hkept.thermArray t).trans hn), fun p hp => ?_⟩
        obtain ⟨h3, h4⟩ := h2 p ((hkept.thermArray t).trans hp)
        refine ⟨fun hr => h3 ((hkept.prmReady p).trans hr), fun hr => ?_⟩
        obtain ⟨ha, hsq, hb⟩ := h4 ((hkept.prmReady p).trans hr)
        exact ⟨ha, hsq, hb.trans (Dev.bit_congr (hother t hts).w 1)⟩
    · rw [List.mem_cons, not_or] at ht
      exact (hother t ht.1).trans (hotherL t ht.2)

/-- A reading period has ended, and the next has begun. -/
def periodOver (d : Dev) (len : Nat) : Dev := { d with thermAt := d.thermAt + len }

/-- The end of a period leaves what a request goes by, and so does taking the length anew. -/
theorem Requested.of_periodOver {d e : Dev} {n : Nat} {s : SensorIx} (h : (d.periodOver n).Requested e s) :
    d.Requested (e.enforce 0x1000 0x1001) s := by
  have harr : (d.periodOver n).thermArray s = d.thermArray s := rfl
  have hready (p : GroupIx) : (d.periodOver n).prmReady p = d.prmReady p := rfl
  have hbit (f : Dev) : (f.enforce 0x1000 0x1001).bit (aSen s 7) 1 = f.bit (aSen s 7) 1 := rfl
  have hbitP : (d.periodOver n).bit (aSen s 7) 1 = d.bit (aSen s 7) 1 := rfl
  have hsen : (e.enforce 0x1000 0x1001).sen s = e.sen s := rfl
  unfold Dev.Requested at h ⊢
  simp only [harr, hready, hbitP] at h
  simp only [hbit, hsen]
  exact h

theorem thermPeriod_eq {d : Dev} (hr : d.runs = true) (h : d.thermAt + 1000 * max 1 (d.ifld 0x1000 7 0) ≤ d.micros) :
    d.thermPeriod =
      ((d.periodOver (1000 * max 1 (d.ifld 0x1000 7 0))).each (List.finRange 5) Dev.thermRequest).enforce 0x1000 0x1001 := by
  unfold Dev.thermPeriod
  dsimp only
  rw [hr, decide_eq_true h]
  rfl

/-! ### Shutdowns (R460) -/

/-- A shutdown shows in THERM.STAT and SCAUSE. -/
def shutShown (d : Dev) (s : SensorIx) : Dev := (d.putB 0x1001 s.1 true).cause 0x1004 (1#16 <<< s.1) 26

theorem shutShown_spec (d : Dev) (s : SensorIx) : (d.shutShown s).bit 0x1001 s.1 = true ∧ (d.shutShown s).bit 0x1004 s.1 = true ∧
    (d.stands = false → (d.shutShown s).ev[26].cnt = d.ev[26].cnt + 1) ∧
    (d.stands = true → (d.shutShown s).evLate = d.evLate ++ [26] ∧ (d.shutShown s).ev[26] = d.ev[26]) ∧
    (d.shutShown s).part = d.part ∧ (d.shutShown s).stands = d.stands := by
  obtain ⟨hcnt, hothers, hlate⟩ := (d.putB 0x1001 s.1 true).cause_ev 0x1004 (1#16 <<< s.1) (i := 26) (d.hasSrc_therm (by decide) (by decide))
  refine ⟨?_, ?_, hcnt, fun hst => ⟨?_, hothers 26 (.inr hst)⟩, by simp [Dev.shutShown, Dev.cause],
    by simp [Dev.shutShown, Dev.cause, Dev.stands]⟩
  · unfold Dev.shutShown
    rw [Dev.bit_cause, Dev.bit_putB_self _ _ _ _ (by omega)]
    rfl
  · unfold Dev.shutShown
    rw [Dev.bit_cause]
    simp
    omega
  · exact hlate.trans (if_pos hst)

theorem shutdown_spec {d : Dev} (hres : d.resetN = true) {s : SensorIx} (hs : d.hasSen s = true) (hoff : d.bit 0x1001 s.1 = false) :
    (d.shutdown s).bit 0x1001 s.1 = true ∧ (d.shutdown s).bit 0x1004 s.1 = true ∧
      (d.locked = true → (d.shutdown s).ev[26].cnt = d.ev[26].cnt + 1) ∧
      (d.locked = false → d.evLate ++ [26] <+: (d.shutdown s).evLate ∧ (d.shutdown s).ev[26] = d.ev[26]) ∧
      (∀ n, 4 ≤ n → n ≤ 9 → s.1 = 0 ∨ n = 5 + s.1 → (d.shutdown s).domOn n = false) := by
  have heq : d.shutdown s = (d.shutShown s).domainsOff true := by
    unfold Dev.shutdown
    rw [hres, hs, hoff]
    rfl
  obtain ⟨hshow, hcause, hcnt, hlate, hpart, hstands⟩ := d.shutShown_spec s
  have hoffs := (d.shutShown s).domainsOff_spec true
  have hst : d.stands = !d.locked := by
    unfold Dev.stands
    rw [hres, Bool.true_and]
  rw [heq]
  refine ⟨?_, ?_, fun hl => ?_, fun hl => ⟨?_, ?_⟩, fun n h4 h9 hn => ?_⟩
  · exact (Dev.bit_congr (hoffs.w 0x1001 rfl (by decide) (by decide) (by decide)) s.1).trans hshow
  · exact (Dev.bit_congr (hoffs.w 0x1004 rfl (by decide) (by decide) (by decide)) s.1).trans hcause
  · rw [← hcnt (by rw [hst, hl]; rfl)]
    exact congrArg EvSrc.cnt (hoffs.ev 26 rfl (.inl (by decide)))
  · rw [← (hlate (by rw [hst, hl]; rfl)).1]
    exact hoffs.evLate
  · exact (hoffs.ev 26 rfl (.inl (by decide))).trans (hlate (by rw [hst, hl]; rfl)).2
  · refine Dev.domainsOff_off _ true (by omega) (by omega) ?_ (by omega)
    have hshut : (d.shutShown s).shutOff n = true := by
      unfold Dev.hasSen at hs
      have hgrp := of_decide_eq_true hs
      unfold Dev.shutOff
      obtain h0 | h5 := hn
      · rw [h0] at hshow
        rw [hshow, decide_eq_true h4]
        rfl
      · by_cases h0 : s.1 = 0
        · rw [h0] at hshow
          rw [hshow, decide_eq_true h4]
          rfl
        · have h6 : 6 ≤ n := by omega
          have hns : n - 5 = s.1 := by omega
          rw [hns, hshow, hpart, decide_eq_true h6, decide_eq_true (by omega : n - 6 < d.part.groups)]
          simp
    unfold Dev.domWanted Dev.forcedOff
    rw [hshut]
    simp

/-- A release shows in THERM.STAT and RCAUSE. -/
def releaseShown (d : Dev) (s : SensorIx) : Dev := (d.putB 0x1001 s.1 false).cause 0x1005 (1#16 <<< s.1) 27

theorem shutdownOver_spec {d : Dev} (hres : d.resetN = true) {s : SensorIx} (hs : d.hasSen s = true) (hon : d.bit 0x1001 s.1 = true) :
    (d.shutdownOver s).bit 0x1001 s.1 = false ∧ (d.shutdownOver s).bit 0x1005 s.1 = true ∧
      (d.locked = true → (d.shutdownOver s).ev[27].cnt = d.ev[27].cnt + 1) ∧
      (d.locked = false → (d.shutdownOver s).evLate = d.evLate ++ [27] ∧ (d.shutdownOver s).ev = d.ev) ∧
      (d.shutdownOver s).motors = d.motors ∧ d.SameWords (d.shutdownOver s) [0x1001, 0x1005] := by
  obtain ⟨f, heq⟩ : ∃ f, d.shutdownOver s = { d.releaseShown s with power := f } := by
    unfold Dev.shutdownOver
    rw [hres, hs, hon]
    exact ⟨_, rfl⟩
  rw [heq]
  obtain ⟨hcnt, hothers, hlate⟩ := (d.putB 0x1001 s.1 false).cause_ev 0x1005 (1#16 <<< s.1) (i := 27) (d.hasSrc_therm (by decide) (by decide))
  have hst : (d.putB 0x1001 s.1 false).stands = !d.locked := by
    unfold Dev.stands
    rw [Dev.putB_resetN, Dev.putB_locked, hres, Bool.true_and]
  refine ⟨?_, ?_, fun hl => hcnt (by rw [hst, hl]; rfl), fun hl => ⟨hlate.trans (if_pos (by rw [hst, hl]; rfl)), ?_⟩, ?_, ?_⟩
  · show (d.releaseShown s).bit 0x1001 s.1 = false
    unfold Dev.releaseShown
    rw [Dev.bit_cause, Dev.bit_putB_self _ _ _ _ (by omega)]
    rfl
  · show (d.releaseShown s).bit 0x1005 s.1 = true
    unfold Dev.releaseShown
    rw [Dev.bit_cause]
    simp
    omega
  · show ((d.putB 0x1001 s.1 false).cause 0x1005 (1#16 <<< s.1) 27).ev = d.ev
    refine (Vector.ext fun j hj => hothers ⟨j, hj⟩ (.inr (by rw [hst, hl]; rfl))).trans ?_
    exact Dev.putB_ev _ _ _ _
  · show (d.releaseShown s).motors = d.motors
    simp [Dev.releaseShown, Dev.cause]
  · exact (d.sameWords_put _ (by simp)).trans ((Dev.sameWords_cause _ _ _ _).mono (by simp))

end Dev

/-- Settles O52: requests sensor by sensor, a reading by the one request that the closed count serves, and a shutdown by the
domains that it no longer wants. -/
theorem thermalProtection : Obligations.ThermalProtection := by
  refine fun s => ⟨fun hr hle => ?_, fun hlt => ?_, fun k v hw => ?_,
    fun sen p a hr hready hframe hclosed hwaits hn hpoint hsent hsentArr harr hacc hother => ?_,
    fun sen hres hs => ⟨fun hoff => ?_, fun hon => ⟨?_, ?_⟩⟩⟩
  · obtain ⟨hkept, hreq, -⟩ := Dev.each_thermRequest (List.finRange 5) (List.nodup_finRange 5)
      (s.dev.periodOver (1000 * max 1 (s.dev.ifld 0x1000 7 0)))
    have heq := Dev.thermPeriod_eq hr hle
    generalize (s.dev.periodOver _).each (List.finRange 5) Dev.thermRequest = e at hkept hreq heq
    exact ⟨_, State.onCore_eq (f := Dev.thermPeriod) hr heq, hkept.thermAt,
      (e.iw_enforce _ _ _ (by decide) (by decide)).trans (hkept.words 0x1000 (by decide)),
      fun sen hs => (hreq sen (List.mem_finRange sen) hs).of_periodOver, hkept.motors, hkept.words⟩
  · have hstays : s.dev.thermPeriod = s.dev := by
      unfold Dev.thermPeriod
      dsimp only
      refine if_neg ?_
      rw [decide_eq_false (by omega), Bool.and_false]
      decide
    exact s.onCore_same hstays
  · obtain ⟨hkept, hreq, hother⟩ := Dev.each_thermRequest ((List.finRange 5).filter (fun s => bitOf v s.1))
      ((List.nodup_finRange 5).filter _) s.dev
    refine ⟨_, State.write_eq (Dev.fabWrite_therm _ _ _ hw), fun sen hs hb => ?_, fun sen hb => ?_, hkept.motors, hkept.words⟩
    · exact hreq sen (List.mem_filter.2 ⟨List.mem_finRange sen, hb⟩) hs
    · exact (hother sen (fun h => Bool.noConfusion (hb.symm.trans (List.mem_filter.1 h).2))).w
  · obtain ⟨x, hx, hclose⟩ := Dev.closeDue_one hr hready hframe hclosed hwaits hn hpoint hsent hsentArr hacc hother
    have hspec := Dev.reading_spec ((Dev.thm_runs hx).trans hr) (p := p) (s := sen) (by rw [Dev.thm_sen hx, harr])
      (iword (s.dev.acc p a).value.1) rfl
    have hst (i : Nat) : x.bit 0x1001 i = s.dev.bit 0x1001 i := Dev.bit_congr (Dev.thm_w hx rfl) i
    have hsw (i : Nat) (hi : i < 8) : x.w (aSen sen i) = s.dev.w (aSen sen i) :=
      Dev.thm_w hx (decide_eq_true (by unfold aSen; omega))
    have h24 : x.ev[24] = s.dev.ev[24] := Dev.thm_ev hx (i := 24) rfl
    have h25 : x.ev[25] = s.dev.ev[25] := Dev.thm_ev hx (i := 25) rfl
    unfold Dev.sw Dev.uw at hspec
    rw [hst, hst, hsw 1 (by decide), hsw 2 (by decide), hsw 3 (by decide), Dev.thm_sen hx, Dev.thm_micros hx,
      h24, h25] at hspec
    exact ⟨_, State.onCore_eq (f := fun d => d.closeDue p a) hr hclose, hspec⟩
  · exact ⟨_, State.onDev_eq (f := fun d => d.shutdown sen) rfl, Dev.shutdown_spec hres hs hoff⟩
  · refine State.onDev_eq (f := fun d => d.shutdown sen) (if_neg ?_)
    rw [hon]
    simp
  · exact ⟨_, State.onDev_eq (f := fun d => d.shutdownOver sen) rfl, Dev.shutdownOver_spec hres hs hon⟩

end Sys2Proof.Machine
end

section
/-! The Mirror link: a frame sent brings the link's configuration in force (R434, R440). -/

namespace Sys2Proof.Machine

open Sys2Proof

/-- The link is enabled, group 0 is re-rated, and RERATE of group 0 has been written 0, which the next frame brings in force. -/
def State.rerateCleared : State :=
  { dev := (({ resetN := true, locked := true, everLock := true } : Dev).put 0xE000 0x8000).put 0xE002 0x0100 }

/-- Refutes O51: the frame that is sent brings RERATE in force, which ends the re-rating of group 0, so MIRROR.STAT does not
keep its value. -/
theorem not_mirrorLink : ¬ Obligations.MirrorLink := by
  intro h
  have hruns : State.rerateCleared.dev.runs = true := by decide +kernel
  obtain ⟨hsend, -⟩ := h State.rerateCleared
  obtain ⟨d, hexec, -, -, -, -, hwords, -⟩ := hsend hruns (by decide +kernel)
  have hsent : exec .mirrorFrameSend State.rerateCleared =
      .next { State.rerateCleared with dev := State.rerateCleared.dev.mirrorSend } :=
    State.onCore_eq (f := Dev.mirrorSend) hruns rfl
  obtain rfl : State.rerateCleared.dev.mirrorSend = d := congrArg State.dev (Host.Outcome.next.inj (hsent.symm.trans hexec))
  have hchange : State.rerateCleared.dev.mirrorSend.w 0xE002 ≠ State.rerateCleared.dev.w 0xE002 := by decide +kernel
  exact hchange (hwords 0xE002)

end Sys2Proof.Machine
end

section
/-! The memory port: RAW.EN that waits for its exit frame (R374, R375), and MCFG that comes into force when a multi-master
fault ends the frame (R377, R380). -/

namespace Sys2Proof.Machine

open Sys2Proof

/-- A frame is in progress, RAW.EN is written 1 and waits for the exit frame after it, and buffer A holds a line. -/
def State.rawEnWaits : State :=
  { dev := { (((({ resetN := true, locked := true, everLock := true, loader := { step := 5 } } : Dev).put 0x40 4).put
      0xD004 0x8000)) with mem := { frame := true, rawHold := true, lineA := some (0x40, []) } } }

/-- Refutes O48: RAW written with the EN that it already holds, while that EN still waits, keeps buffer A. -/
theorem not_memoryQueue : ¬ Obligations.MemoryQueue := by
  intro h
  have hok : State.rawEnWaits.dev.writeOk 0 0xD004 = true := by decide +kernel
  obtain ⟨-, -, hraw⟩ := h State.rawEnWaits
  obtain ⟨d, hexec, -, hlines, -⟩ := hraw 0 0x8000 hok
  have hwritten : exec (.rawSelect 0 0x8000) State.rawEnWaits =
      .next { State.rawEnWaits with dev := State.rawEnWaits.dev.fabWrite 0 0xD004 0x8000 } := State.write_eq rfl
  obtain rfl : State.rawEnWaits.dev.fabWrite 0 0xD004 0x8000 = d :=
    congrArg State.dev (Host.Outcome.next.inj (hwritten.symm.trans hexec))
  have hkept : (State.rawEnWaits.dev.fabWrite 0 0xD004 0x8000).mem.lineA.isNone = false := by decide +kernel
  rw [(hlines (by decide +kernel)).1] at hkept
  exact Bool.noConfusion hkept

/-- The port masters the flash in share mode, MCFG.SHARE has been written 0, which waits for the end of the frame, and RAW drives
the selects, CS1 at the level `high`. -/
def State.shareEnds (high : Bool) : State :=
  { dev := { ((((({ resetN := true, locked := true, everLock := true, loader := { step := 5 } } : Dev).put 0x40 4).put
      0xD000 0).put 0xD004 (if high then 0x8002 else 0x8000))) with
      mem := { frame := true, mastering := true }, inForce := (({} : Dev).put 0xD000 0x8000).words } }

/-- The device after the multi-master fault. -/
def Dev.multiMasterEnd (d : Dev) : Dev := d.multiMaster.winReturned

/-- After the multi-master fault SHARE 0 is in force, and CS1 shows what RAW drives. -/
theorem memStat_shareEnds (high : Bool) :
    (State.shareEnds high).dev.runs = true ∧ (State.shareEnds high).dev.share = true ∧
      (State.shareEnds high).dev.mem.mastering = true ∧ (State.shareEnds high).dev.loaderRuns = false ∧
      (State.shareEnds high).dev.cycles = 0 ∧ bitOf (State.shareEnds high).dev.multiMasterEnd.memStat 2 = high := by
  cases high <;> decide +kernel

/-- Two devices that the same outcome leaves in the same state are one. -/
theorem State.dev_unique {s : State} {d e : Dev} {o : Host.Outcome State Fault Refusal}
    (hd : o = .next { s with dev := d }) (he : o = .next { s with dev := e }) : d = e :=
  congrArg State.dev (Host.Outcome.next.inj (hd.symm.trans he))

/-- Refutes O49: a multi-master fault ends the frame, so MCFG.SHARE that has been written 0 comes into force with it, and CS1
shows the level that RAW drives, which need not be the partner's. -/
theorem not_memoryWindow : ¬ Obligations.MemoryWindow := by
  intro h
  have partner (high : Bool) : Config.mcs1 0 = high := by
    obtain ⟨hruns, hshare, hmaster, hloader, hcycles, hstat⟩ := memStat_shareEnds high
    obtain ⟨-, -, -, -, hfault⟩ := h (State.shareEnds high)
    generalize State.shareEnds high = s at *
    obtain ⟨d, hexec, -, -, -, -, -, hcs1, -⟩ := hfault hruns hshare hmaster hloader
    have hended : exec .multiMasterFault s = .next { s with dev := s.dev.multiMasterEnd } :=
      State.onCore_eq (f := Dev.multiMasterEnd) hruns rfl
    rw [State.dev_unique hexec hended, hcycles, hstat] at hcs1
    exact hcs1.symm
  exact Bool.noConfusion ((partner false).symm.trans (partner true))

end Sys2Proof.Machine
end

section
/-! The start sequence up to step 4 (R34, R334, R335, R461, R463). -/

namespace Sys2Proof.Machine

open Sys2Proof

/-- A commit word has its top bit set (R413). -/
theorem commitWord_ne_zero (ws : List Word) : commitWord ws ≠ 0 := by
  intro h
  have hbit : (commitWord ws).getLsbD 15 = true := by
    unfold commitWord
    rw [BitVec.getLsbD_or]
    rfl
  rw [h] at hbit
  exact Bool.noConfusion hbit

namespace Dev

/-! ### Step 1: the rise of RESET_N and the first lock (R34, R334) -/

theorem resetHigh_low {d : Dev} (h : d.resetN = false) (id : Bool) : d.resetHigh id =
    { d with resetN := true, loader := { d.loader with step := 1 }, mirror := { d.mirror with id := id } } := by
  unfold Dev.resetHigh
  rw [h]
  rfl

theorem each_fixed {α : Type} (l : List α) (f : Dev → α → Dev) (d : Dev) (h : ∀ a, f d a = d) : d.each l f = d :=
  Dev.each_inv (P := fun e => e = d) l d rfl (fun e a he => by rw [he]; exact h a)

theorem hostResume_idle {d : Dev} {k : HostIx} (hr : (d.hp k).reading = none) (hp : (d.hp k).parked = none) :
    d.hostResume k = d := by
  unfold Dev.hostResume
  simp only [hr, hp]

theorem hostsResume_idle {d : Dev} (h : d.portsIdle = true) : d.hostsResume = d := by
  refine Dev.each_fixed _ _ d (fun k => ?_)
  have hk := List.all_eq_true.1 h k (List.mem_finRange k)
  obtain ⟨hr, hp⟩ := Bool.and_eq_true_iff.1 hk
  exact Dev.hostResume_idle (Option.isNone_iff_eq_none.1 hr) (Option.isNone_iff_eq_none.1 hp)

theorem portsIdle_congr {d e : Dev} (h : e.ports = d.ports) : e.portsIdle = d.portsIdle := by
  unfold Dev.portsIdle Dev.hp
  rw [h]

/-- A raise changes the events alone. -/
theorem raiseNow_eq (d : Dev) (i : Nat) : ∃ ev p pp f, d.raiseNow i = { d with ev := ev, pend := p, ppend := pp, freshEv := f } := by
  unfold Dev.raiseNow
  split
  · split
    · exact ⟨_, _, _, _, rfl⟩
    · exact ⟨d.ev, d.pend, d.ppend, d.freshEv, rfl⟩
  · exact ⟨d.ev, d.pend, d.ppend, d.freshEv, rfl⟩

theorem raiseLate_eq (d : Dev) : ∃ ev p pp f, d.raiseLate = { d with ev := ev, pend := p, ppend := pp, freshEv := f, evLate := [] } := by
  have hall (l : List Nat) (e : Dev) : ∃ ev p pp f, l.foldl Dev.raiseNow e = { e with ev := ev, pend := p, ppend := pp, freshEv := f } := by
    induction l generalizing e with
    | nil => exact ⟨e.ev, e.pend, e.ppend, e.freshEv, rfl⟩
    | cons i l ih =>
      obtain ⟨ev, p, pp, f, h⟩ := e.raiseNow_eq i
      rw [List.foldl_cons, h]
      exact ih _
  obtain ⟨ev, p, pp, f, h⟩ := hall d.evLate d
  exact ⟨ev, p, pp, f, by unfold Dev.raiseLate; rw [h]⟩

/-- The module as the first lock finds it (R34). -/
def atLock (d : Dev) : Dev :=
  { d with locked := true, everLock := true, cycles := 0, loader := { d.loader with step := 2 }, cyc0 := d.words, fresh := [],
           freshEv := 0 }

theorem firstLock_eq {d : Dev} (hr : d.resetN = true) (hl : d.everLock = false) : d.firstLock = d.atLock.raiseLate := by
  exact if_pos (by rw [hr, hl]; rfl)

theorem firstLock_spec {d : Dev} (hr : d.resetN = true) (hl : d.everLock = false) : d.firstLock.runs = true ∧
    d.firstLock.time = 0 ∧ d.firstLock.sub = 0 ∧ d.firstLock.loader.step = 2 ∧ (∀ a, d.firstLock.w a = d.w a) ∧
    d.firstLock.motors = d.motors ∧ d.firstLock.ports = d.ports := by
  obtain ⟨ev, p, pp, f, h⟩ := d.atLock.raiseLate_eq
  rw [← Dev.firstLock_eq hr hl] at h
  have hcycles : d.firstLock.cycles = 0 := (congrArg Dev.cycles h :)
  have hlocked : d.firstLock.locked = true := (congrArg Dev.locked h :)
  have hreset : d.firstLock.resetN = d.resetN := (congrArg Dev.resetN h :)
  have hloader : d.firstLock.loader = { d.loader with step := 2 } := (congrArg Dev.loader h :)
  refine ⟨?_, ?_, ?_, by rw [hloader], fun a => ?_, (congrArg Dev.motors h :), (congrArg Dev.ports h :)⟩
  · rw [Dev.runs, hreset, hr, hlocked]
    rfl
  · rw [Dev.time, hcycles]
    rfl
  · rw [Dev.sub, hcycles]
    rfl
  · exact (congrArg (fun e : Dev => e.w a) h :)

/-! ### Step 2: the fuse read and the switch-on of D3 LOG (R222, R334, R461, R463) -/

/-- The factory coefficients are words of the arrays. -/
theorem loadCoefs_keeps (d : Dev) : d.loadCoefs.motors = d.motors ∧ d.loadCoefs.bridges = d.bridges ∧
    d.loadCoefs.pow = d.pow := by
  unfold Dev.loadCoefs
  refine Dev.each_inv (P := fun e => e.motors = d.motors ∧ e.bridges = d.bridges ∧ e.pow = d.pow) _ d ⟨rfl, rfl, rfl⟩ ?_
  rintro e ⟨p, s⟩ ⟨hm, hb, hp⟩
  dsimp only
  split
  · exact ⟨by simpa using hm, by simpa using hb, by simpa using hp⟩
  · exact ⟨hm, hb, hp⟩

theorem domMayStart_log {d : Dev} (hr : d.runs = true) (hs : 3 ≤ d.loader.step) (hreq : d.bit 0x800 3 = true)
    (hoff : d.bit 0x801 3 = false) (hlast : d.power.lastOn = none) : d.domMayStart 3 = true := by
  have hwanted : d.domWanted 3 = true := by
    unfold Dev.domWanted
    rw [Dev.resetN_of_runs hr, hreq]
    simpa [Dev.hasDom, Dev.forcedOff, Dev.shutOff] using hs
  have hlower : (List.range 3).all (fun k => !d.domWanted k || d.domOn k) = true := by
    simp [Dev.domWanted, List.range_succ]
  unfold Dev.domMayStart
  rw [hlast]
  change (d.domWanted 3 && !d.bit 0x801 3 && _ && true) = true
  rw [hwanted, hoff]
  exact (Bool.and_true _).trans hlower

theorem domStart_log_blocks (d : Dev) : (d.domStart 3).motors = d.motors ∧ (d.domStart 3).bridges = d.bridges ∧
    (d.domStart 3).loader = d.loader := by
  rw [Dev.domStart_eq, if_neg (by decide), if_neg (by decide)]
  show (d.startShow 3).motors = _ ∧ (d.startShow 3).bridges = _ ∧ (d.startShow 3).loader = _
  simp [Dev.startShow, Dev.domChange, Dev.cause]

theorem fusesRead_spec {d : Dev} (hr : d.runs = true) (hs : d.loader.step = 2) (hreq : d.bit 0x800 3 = true)
    (hoff : d.bit 0x801 3 = false) (hlast : d.power.lastOn = none) : d.fusesRead.loader.step = 3 ∧
    d.fusesRead.bit 0x801 3 = true ∧ d.fusesRead.bit 0x804 3 = true ∧ d.fusesRead.ev[58].cnt = d.ev[58].cnt + 1 ∧
    d.fusesRead.power.startAt[3] = d.cycles ∧ d.fusesRead.motors = d.motors ∧ d.fusesRead.bridges = d.bridges := by
  obtain ⟨hm, hb, hp⟩ := ({ d with loader := { d.loader with step := 3 } } : Dev).loadCoefs_keeps
  have heq : d.fusesRead = if ({ d with loader := { d.loader with step := 3 } } : Dev).loadCoefs.domMayStart 3 then
      ({ d with loader := { d.loader with step := 3 } } : Dev).loadCoefs.domStart 3 else
      ({ d with loader := { d.loader with step := 3 } } : Dev).loadCoefs := if_pos (by rw [hr, hs]; rfl)
  rw [heq]
  generalize ({ d with loader := { d.loader with step := 3 } } : Dev).loadCoefs = e at hm hb hp ⊢
  have hloader : e.loader = { d.loader with step := 3 } := congrArg PowView.loader hp
  have hpower : e.power.sansPll = d.power.sansPll := congrArg PowView.power hp
  have hruns : e.runs = true := by
    unfold Dev.runs
    rw [Dev.pow_resetN hp, Dev.pow_locked hp]
    exact hr
  have hmay : e.domMayStart 3 = true := Dev.domMayStart_log hruns (by rw [hloader])
    ((Dev.pow_bit hp rfl 3).trans hreq) ((Dev.pow_bit hp rfl 3).trans hoff)
    ((congrArg Power.lastOn hpower :).trans hlast)
  have hev : e.ev[58] = d.ev[58] := Dev.pow_ev hp (i := 58) rfl
  have hcycles : e.cycles = d.cycles := congrArg PowView.cycles hp
  obtain ⟨hon, hcause, hstart, -, -, hcnt, -⟩ := e.domStart_spec 3
  obtain ⟨hmotors, hbridges, hload⟩ := e.domStart_log_blocks
  rw [if_pos hmay]
  refine ⟨by rw [hload, hloader], hon, hcause, ?_, hstart.trans hcycles, hmotors.trans hm, hbridges.trans hb⟩
  rw [hcnt (Dev.stands_of_runs hruns), hev]

/-! ### Step 3: what the device log finds (R335, R407, R408, R413) -/

/-- What the log's load leaves alone while it reads: SESSION and its mirror, CFGSTAT, and LOGUE once it is set. -/
def LogKeeps (d e : Dev) : Prop :=
  (∀ a, a = 0x40 ∨ a = 0x52 → e.w a = d.w a) ∧ (d.bit 0x32 9 = true → e.bit 0x32 9 = true) ∧
    e.devLog.session = d.devLog.session ∧ e.devLog.sesMark = d.devLog.sesMark

theorem LogKeeps.refl (d : Dev) : d.LogKeeps d := ⟨fun _ _ => rfl, id, rfl, rfl⟩

theorem LogKeeps.trans {c d e : Dev} (h : c.LogKeeps d) (h' : d.LogKeeps e) : c.LogKeeps e :=
  ⟨fun a ha => (h'.1 a ha).trans (h.1 a ha), fun hb => h'.2.1 (h.2.1 hb), h'.2.2.1.trans h.2.2.1, h'.2.2.2.trans h.2.2.2⟩

theorem LogKeeps.of_words {d e : Dev} (h : d.SameWords e [0x3A, 0x3B, 0x3C, 0x3D, 0x3E, 0x31]) (hl : e.devLog = d.devLog) :
    d.LogKeeps e :=
  ⟨fun a ha => h a (by rcases ha with rfl | rfl <;> decide), fun hb => (h.bit (by decide) 9).trans hb, by rw [hl], by rw [hl]⟩

theorem logKeeps_put (d : Dev) {a : Nat} (v : Word) (h : 0x53 ≤ a) : d.LogKeeps (d.put a v) := by
  refine ⟨fun b hb => d.w_put_ne v ?_, fun hb => ?_, rfl, rfl⟩
  · rcases hb with rfl | rfl <;> omega
  · exact (Dev.bit_congr (d.w_put_ne v (by omega)) 9).trans hb

theorem logKeeps_put32 (d : Dev) {a : Nat} (v : BitVec 32) (h : 0x53 ≤ a) : d.LogKeeps (d.put32 a v) :=
  (d.logKeeps_put (lo16 v) h).trans (Dev.logKeeps_put _ (hi16 v) (by omega))

theorem logKeeps_book (d : Dev) (off : Nat) (v : BitVec 32) : d.LogKeeps (d.book off v) := d.logKeeps_put32 _ (by omega)

theorem logKeeps_writeMirror (d : Dev) (p o : Bool) : d.LogKeeps (d.writeMirror p o) := by
  unfold Dev.writeMirror
  dsimp only
  split <;> exact ⟨fun _ _ => rfl, id, rfl, rfl⟩

theorem logKeeps_clearSlot (d : Dev) (n : Nat) : d.LogKeeps (d.clearSlot n) := ⟨fun _ _ => rfl, id, rfl, rfl⟩

theorem logKeeps_advanceWptr (d : Dev) : d.LogKeeps d.advanceWptr := by
  unfold Dev.advanceWptr
  dsimp only
  split
  · exact d.logKeeps_put32 _ (by decide)
  · have hwrap := (d.logKeeps_put32 (a := 0xB486) 0 (by decide)).trans (Dev.logKeeps_put _ (a := 0xB499)
      (withBit ((d.put32 0xB486 0).w 0xB499) 1 true) (by decide))
    split
    · exact hwrap.trans (Dev.logKeeps_put _ _ (by decide))
    · exact hwrap

theorem ceFound_devLog (d : Dev) (c a : Nat) : (d.ceFound c a).devLog = d.devLog := by
  unfold Dev.ceFound
  dsimp only
  split <;> simp [Dev.cause, Dev.putErr]

theorem sameWords_putErr (d : Dev) (a c n : Nat) : d.SameWords (d.putErr a c n) [a, a + 1] := by
  unfold Dev.putErr
  exact (d.sameWords_put _ (by simp)).trans (Dev.sameWords_put _ _ (by simp))

theorem ueFound_same (d : Dev) (c a : Nat) : d.SameWords (d.ueFound c a) [0x3D, 0x3E] ∧ (d.ueFound c a).devLog = d.devLog ∧
    (d.ueFound c a).tested = d.tested := by
  have hput := d.sameWords_putErr 0x3D c a
  unfold Dev.ueFound
  obtain h | ⟨⟨t, q⟩, h⟩ := Option.eq_none_or_eq_some d.ueAt
  · simp only [h]
    exact ⟨hput, rfl, rfl⟩
  · simp only [h]
    split
    · exact ⟨fun _ _ => rfl, rfl, rfl⟩
    · exact ⟨hput, rfl, rfl⟩

/-- From d to e the units `us` were found with a word that cannot be corrected: they are torn, and LOGUE is set. -/
structure LogFound (d e : Dev) (us : List LogUnit) : Prop where
  words : d.SameWords e [0x32, 0x3D, 0x3E]
  logue : (us ≠ [] ∨ d.bit 0x32 9 = true) → e.bit 0x32 9 = true
  devLog : e.devLog = us.foldl DevLog.tear d.devLog
  tested : e.tested = d.tested

theorem LogFound.trans {c d e : Dev} {us vs : List LogUnit} (h : c.LogFound d us) (h' : d.LogFound e vs) :
    c.LogFound e (us ++ vs) where
  words := h.words.trans h'.words
  logue := fun hne => by
    refine h'.logue ?_
    by_cases hv : vs = []
    · rw [hv, List.append_nil] at hne
      exact .inr (h.logue hne)
    · exact .inl hv
  devLog := by rw [h'.devLog, h.devLog, List.foldl_append]
  tested := h'.tested.trans h.tested

theorem logRead_bad (d : Dev) {f : LogFind} (h : f.err = 0x11) : d.LogFound (d.logRead f) [f.unit] := by
  have heq : d.logRead f = (d.logBad f.index).tearLog f.unit := by
    unfold Dev.logRead
    rw [h, show decode28 (encode28 0 ^^^ 0x11) = .bad by decide]
  obtain ⟨hwords, hlog, htested⟩ := d.ueFound_same 4 f.index.toNat
  have hbad : d.SameWords (d.logBad f.index) [0x32, 0x3D, 0x3E] :=
    (hwords.mono (by simp)).trans ((Dev.sameWords_cause _ 0x32 0x200 54).mono (by simp))
  have hbit : (d.logBad f.index).bit 0x32 9 = true := by
    unfold Dev.logBad
    rw [Dev.bit_cause]
    exact (congrArg _ (by decide)).trans (Bool.or_true _)
  have hkeeps : (d.logBad f.index).devLog = d.devLog ∧ (d.logBad f.index).tested = d.tested := by
    simp [Dev.logBad, Dev.cause, hlog, htested]
  rw [heq]
  exact ⟨hbad, fun _ => hbit, congrArg (DevLog.tear · f.unit) hkeeps.1, hkeeps.2⟩

theorem each_logRead_bad (l : List LogFind) (h : ∀ f ∈ l, f.err = 0x11) (d : Dev) :
    d.LogFound (d.each l Dev.logRead) (l.map LogFind.unit) := by
  induction l generalizing d with
  | nil => exact ⟨fun _ _ => rfl, fun hne => hne.elim (fun hn => absurd rfl hn) id, rfl, rfl⟩
  | cons f l ih =>
    exact (d.logRead_bad (h f (by simp))).trans (ih (fun g hg => h g (by simp [hg])) _)

theorem badFinds_err (n : Nat) (bt bs br : Bool) : ∀ f ∈ badFinds n bt bs br, f.err = 0x11 := by
  unfold badFinds
  cases bt <;> cases bs <;> cases br <;> simp

/-- The units that the three truth values of a load tear. -/
def badUnits (bt bs br : Bool) : List LogUnit :=
  (if br then [.repair] else []) ++ (if bt then [.copyA, .copyB] else []) ++ (if bs then [.session] else [])

theorem badFinds_units (n : Nat) (bt bs br : Bool) : (badFinds n bt bs br).map LogFind.unit = badUnits bt bs br := by
  cases bt <;> cases bs <;> cases br <;> rfl

theorem badUnits_ne_nil {bt bs br : Bool} (h : bt = true ∨ bs = true ∨ br = true) : badUnits bt bs br ≠ [] := by
  unfold badUnits
  rcases h with rfl | rfl | rfl <;> simp

theorem filter_tear (c : Option MirrorCopy) : (c.map MirrorCopy.tear).filter MirrorCopy.committed = none := by
  cases c with
  | none => rfl
  | some c => exact if_neg (fun h => (commitWord_ne_zero c.tear.words) (of_decide_eq_true h).symm)

/-- What the torn units leave of the log that step 3 loads. -/
theorem tear_badUnits (l : DevLog) (bt bs br : Bool) : ((badUnits bt bs br).foldl DevLog.tear l).session = l.session ∧
    ((badUnits bt bs br).foldl DevLog.tear l).sesMark = (if bs then 0 else l.sesMark) ∧
    ((badUnits bt bs br).foldl DevLog.tear l).newest = if bt then none else l.newest := by
  have hnone (x : DevLog) (hA : x.copyA = l.copyA.map MirrorCopy.tear) (hB : x.copyB = l.copyB.map MirrorCopy.tear) :
      x.newest = none := by
    unfold DevLog.newest DevLog.goodA DevLog.goodB
    rw [hA, hB, filter_tear, filter_tear]
  cases bt
  · cases bs <;> cases br <;> exact ⟨rfl, rfl, rfl⟩
  · cases bs <;> cases br <;> exact ⟨rfl, rfl, hnone _ rfl rfl⟩

/-! ### Step 3: the soft-repair table, the books and SESSION (R335, R415, R478) -/

theorem loadRepair_keeps (d : Dev) : d.LogKeeps d.loadRepair ∧ d.loadRepair.devLog.newest = d.devLog.newest ∧
    d.loadRepair.tested = d.tested := by
  unfold Dev.loadRepair
  split
  · split
    · exact ⟨.refl d, rfl, rfl⟩
    · have hput : d.LogKeeps (d.putB 0xF000 11 true) := d.logKeeps_put _ (by decide)
      have hlog : (d.putB 0xF000 11 true).devLog = d.devLog := by simp
      have htested : (d.putB 0xF000 11 true).tested = d.tested := by simp
      generalize d.putB 0xF000 11 true = e at hput hlog htested ⊢
      exact ⟨hput.trans ⟨fun _ _ => rfl, id, by rw [hlog], by rw [hlog]⟩, rfl, htested⟩
  · exact ⟨.refl d, rfl, rfl⟩

theorem logKeeps_ceFound (d : Dev) (c a : Nat) : d.LogKeeps (d.ceFound c a) := by
  obtain ⟨-, -, -, -, -, hwords⟩ := d.ceFound_spec c a
  exact .of_words (hwords.mono (by simp)) (d.ceFound_devLog c a)

theorem logKeeps_ueFound (d : Dev) (c a : Nat) : d.LogKeeps (d.ueFound c a) :=
  .of_words ((d.ueFound_same c a).1.mono (by simp)) (d.ueFound_same c a).2.1

theorem logKeeps_cause (d : Dev) (m : Word) : d.LogKeeps (d.cause 0x32 m 54) := by
  refine ⟨fun a ha => d.cause_w_ne m 54 (by rcases ha with rfl | rfl <;> decide), fun hb => ?_, ?_, ?_⟩
  · rw [Dev.bit_cause, hb]
    rfl
  · simp [Dev.cause]
  · simp [Dev.cause]

theorem slotRead_keeps (d : Dev) (n : Nat) (errs : List (BitVec 28)) : d.LogKeeps (d.slotRead n errs).1 := by
  unfold Dev.slotRead
  dsimp only
  have hce (l : List Nat) (f : Nat → Nat) : d.LogKeeps (d.each l (fun d i => d.ceFound 3 (f i))) :=
    Dev.each_inv (P := d.LogKeeps) l d (.refl d) (fun e _ h => h.trans (e.logKeeps_ceFound _ _))
  split
  · exact ((hce _ _).trans (Dev.logKeeps_ueFound _ _ _)).trans (Dev.logKeeps_cause _ _)
  · exact hce _ _

theorem resolveCopy_keeps (d : Dev) (c : MirrorCopy) (errs : List (BitVec 28)) : d.LogKeeps (d.resolveCopy c errs) := by
  unfold Dev.resolveCopy
  split
  · exact .refl d
  · have hread := d.slotRead_keeps d.wptr errs
    generalize d.slotRead d.wptr errs = x at hread ⊢
    obtain ⟨e, held⟩ := x
    dsimp only
    split
    · exact ((hread.trans (e.logKeeps_book _ _)).trans (Dev.logKeeps_book _ _ _)).trans (Dev.logKeeps_advanceWptr _)
    · have hlost := ((hread.trans (e.logKeeps_clearSlot e.wptr)).trans (Dev.logKeeps_book _ 0 1)).trans (Dev.logKeeps_book _ 6 1)
      split
      · exact (hlost.trans (Dev.logKeeps_book _ _ _)).trans (Dev.logKeeps_book _ _ _)
      · exact hlost

theorem loseTested_keeps (d : Dev) : d.LogKeeps d.loseTested ∧ d.loseTested.w32 0xB486 = d.w32 0xB486 ∧
    d.loseTested.w32 0xB488 = d.w32 0xB488 ∧ (d.tested = false → d.loseTested = d) := by
  unfold Dev.loseTested
  split
  next ht =>
    have hcleared : d.LogKeeps ({ d with tested := false } : Dev) := ⟨fun _ _ => rfl, id, rfl, rfl⟩
    have hw (a : Nat) : ({ d with tested := false } : Dev).w32 a = d.w32 a := rfl
    generalize ({ d with tested := false } : Dev) = e at hcleared hw ⊢
    have hmirror := ((e.put32 0xB48A 0).book 6 (d.w32 0xB48A)).writeMirror_keeps false false
    refine ⟨((hcleared.trans (e.logKeeps_put32 _ (by decide))).trans (Dev.logKeeps_book _ _ _)).trans
      (Dev.logKeeps_writeMirror _ _ _), ?_, ?_, fun h => absurd ht (by rw [h]; exact Bool.false_ne_true)⟩
    all_goals
      refine (Dev.w32_congr hmirror.2.1 _).trans ?_
      rw [Dev.w32_book_ne _ _ (by decide), Dev.w32_put32_ne _ _ (by decide), hw]
  · exact ⟨.refl d, rfl, rfl, fun _ => rfl⟩

theorem loadCopy_keeps (d : Dev) (c : MirrorCopy) : d.LogKeeps (d.loadCopy c) :=
  (((((d.logKeeps_put32 _ (by decide)).trans (Dev.logKeeps_put32 _ _ (by decide))).trans (Dev.logKeeps_put32 _ _ (by decide))).trans
    (Dev.logKeeps_put32 _ _ (by decide))).trans (Dev.logKeeps_put32 _ _ (by decide))).trans (Dev.logKeeps_put _ _ (by decide))

theorem loadCopy_books (d : Dev) (c : MirrorCopy) : (d.loadCopy c).w32 0xB486 = BitVec.ofNat 32 c.wptr ∧
    (d.loadCopy c).w32 0xB488 = c.written ∧ (d.loadCopy c).w32 0xB48A = c.readable := by
  unfold Dev.loadCopy
  refine ⟨?_, ?_, ?_⟩
  · rw [Dev.w32_put_ne _ _ (by decide), Dev.w32_put32_ne _ _ (by decide), Dev.w32_put32_ne _ _ (by decide),
      Dev.w32_put32_ne _ _ (by decide), Dev.w32_put32_ne _ _ (by decide), Dev.w32_put32]
  · rw [Dev.w32_put_ne _ _ (by decide), Dev.w32_put32_ne _ _ (by decide), Dev.w32_put32_ne _ _ (by decide),
      Dev.w32_put32_ne _ _ (by decide), Dev.w32_put32]
  · rw [Dev.w32_put_ne _ _ (by decide), Dev.w32_put32_ne _ _ (by decide), Dev.w32_put32_ne _ _ (by decide), Dev.w32_put32]

theorem loadBooks_some {d : Dev} {c : MirrorCopy} (h : d.devLog.newest = some c) (errs : List (BitVec 28)) :
    d.LogKeeps (d.loadBooks errs) := by
  unfold Dev.loadBooks
  simp only [h]
  exact ((d.loadCopy_keeps c).trans (Dev.resolveCopy_keeps _ _ _)).trans (Dev.loseTested_keeps _).1

theorem loadBooks_none {d : Dev} (h : d.devLog.newest = none) (errs : List (BitVec 28)) : d.logX.LogKeeps (d.loadBooks errs) := by
  unfold Dev.loadBooks
  simp only [h]
  exact d.logX.loseTested_keeps.1

theorem loadBooks_committed {d : Dev} {c : MirrorCopy} (h : d.devLog.newest = some c) (hp : c.pendWr = false)
    (errs : List (BitVec 28)) : (d.loadBooks errs).w32 0xB486 = BitVec.ofNat 32 c.wptr ∧
      (d.loadBooks errs).w32 0xB488 = c.written ∧ (d.tested = false → (d.loadBooks errs).w32 0xB48A = c.readable) := by
  have heq : d.loadBooks errs = (d.loadCopy c).loseTested := by
    unfold Dev.loadBooks Dev.resolveCopy
    simp only [h, hp]
    rfl
  obtain ⟨hwptr, hwritten, hreadable⟩ := d.loadCopy_books c
  obtain ⟨-, hw, hw', hsame⟩ := (d.loadCopy c).loseTested_keeps
  rw [heq]
  refine ⟨hw.trans hwptr, hw'.trans hwritten, fun ht => ?_⟩
  have htested : (d.loadCopy c).tested = d.tested := by simp [Dev.loadCopy]
  rw [hsame (htested.trans ht)]
  exact hreadable

theorem logX_spec (d : Dev) : d.logX.bit 0x40 8 = true ∧ d.logX.w 0x52 = d.w 0x52 ∧
    (d.bit 0x32 9 = true → d.logX.bit 0x32 9 = true) ∧ d.SameWords d.logX [0x40] ∧ d.logX.devLog = d.devLog :=
  ⟨d.bit_putB_self 0x40 8 true (by decide), d.w_put_ne _ (by decide),
    fun h => (Dev.bit_congr (d.w_put_ne _ (by decide)) 9).trans h, d.sameWords_put _ (by simp), Dev.put_devLog _ _ _⟩

/-- SESSION as its mirror holds it (R335). -/
theorem loadSession_spec (d : Dev) : d.SameWords d.loadSession [0x40, 0x52] ∧
    (d.bit 0x40 8 = true → d.loadSession.bit 0x40 8 = true) ∧
    (∀ n, d.devLog.session = some n → d.devLog.sesMark = commitWord [n] → d.loadSession.w 0x52 = n) ∧
    (d.devLog.session = none ∨ d.devLog.sesMark = 0 → d.loadSession.bit 0x40 8 = true ∧ d.loadSession.w 0x52 = d.w 0x52) := by
  obtain ⟨hbit, hses, -, hwords, -⟩ := d.logX_spec
  unfold Dev.loadSession
  cases h : d.devLog.session with
  | none => exact ⟨hwords.mono (by simp), fun _ => hbit, fun _ hn => absurd hn (by simp), fun _ => ⟨hbit, hses⟩⟩
  | some n =>
    dsimp only
    split
    next hm =>
      refine ⟨d.sameWords_put _ (by simp), fun hb => (Dev.bit_congr (d.w_put_ne _ (by decide)) 8).trans hb, ?_, ?_⟩
      · rintro k hk -
        rw [← Option.some.inj hk]
        exact d.w_put_self 0x52 n
      · rintro (hn | hz)
        · exact nomatch hn
        · exact absurd (hm.symm.trans hz) (commitWord_ne_zero _)
    next hm =>
      refine ⟨hwords.mono (by simp), fun _ => hbit, fun k hk hc => ?_, fun _ => ⟨hbit, hses⟩⟩
      rw [← Option.some.inj hk] at hc
      exact absurd hc hm

/-- The log as step 3 reads it, with the soft-repair table applied. -/
def logBooks (d : Dev) (bt bs br : Bool) : Dev :=
  (({ d with free := d.free + (if (badFinds d.free bt bs br).isEmpty then 0 else 4) } : Dev).each
    (badFinds d.free bt bs br) Dev.logRead).loadRepair

theorem logBooks_spec (d : Dev) (bt bs br : Bool) : (d.logBooks bt bs br).w 0x52 = d.w 0x52 ∧
    (bt = true ∨ bs = true ∨ br = true → (d.logBooks bt bs br).bit 0x32 9 = true) ∧
    (d.logBooks bt bs br).devLog.session = d.devLog.session ∧
    (d.logBooks bt bs br).devLog.sesMark = (if bs then 0 else d.devLog.sesMark) ∧
    (d.logBooks bt bs br).devLog.newest = (if bt then none else d.devLog.newest) ∧ (d.logBooks bt bs br).tested = d.tested := by
  obtain ⟨hses, hmark, hnew⟩ := tear_badUnits d.devLog bt bs br
  unfold Dev.logBooks
  have hread := Dev.each_logRead_bad (badFinds d.free bt bs br) (badFinds_err d.free bt bs br)
    ({ d with free := d.free + (if (badFinds d.free bt bs br).isEmpty then 0 else 4) } : Dev)
  rw [badFinds_units] at hread
  generalize Dev.each _ (badFinds d.free bt bs br) Dev.logRead = e at hread ⊢
  obtain ⟨hwords, hlogue, hlog, htested⟩ := hread
  obtain ⟨⟨hw, hb, hs, hm⟩, hn, ht⟩ := e.loadRepair_keeps
  refine ⟨(hw 0x52 (.inr rfl)).trans (hwords 0x52 (by decide)), fun h => hb (hlogue (.inl (badUnits_ne_nil h))),
    hs.trans ?_, hm.trans ?_, hn.trans ?_, ht.trans htested⟩
  · rw [hlog]
    exact hses
  · rw [hlog]
    exact hmark
  · rw [hlog]
    exact hnew

/-- The books and SESSION loaded, PHASE 1 and step 4. -/
theorem logLoaded_eq {d : Dev} (hr : d.runs = true) (hs : d.loader.step = 3) (hd : d.domRdy 3 = true)
    (he : d.lcState = 4 → d.fuses.erased = true) (bt bs br : Bool) : ∃ l : Loader, l.step = 4 ∧
      d.logLoaded bt bs br [] [] = (((((d.logBooks bt bs br).loadBooks []).loadSession.putF 0x40 2 0 1).withLoader l).loaderReads) := by
  have hgo : (d.runs && d.loader.step = 3 && d.domRdy 3 && !(d.lcState = 4 && !d.fuses.erased)) = true := by
    rw [hr, hs, hd]
    by_cases h : d.lcState = 4
    · rw [he h]
      simp
    · simp [h]
  refine ⟨{ (((d.logBooks bt bs br).loadBooks []).loadSession.putF 0x40 2 0 1).loader with step := 4 }, rfl, (if_pos hgo).trans ?_⟩
  simp only [List.append_nil]
  rfl

/-- Step 3 ends (R335, R346). -/
theorem logLoaded_spec {d : Dev} (hr : d.runs = true) (hs : d.loader.step = 3) (hd : d.domRdy 3 = true)
    (he : d.lcState = 4 → d.fuses.erased = true) (bt bs br : Bool) : ∃ e, d.logLoaded bt bs br [] [] = e ∧
      e.loader.step = 4 ∧ e.cfgPhase = 1 ∧
      (∀ n, bs = false → d.devLog.session = some n → d.devLog.sesMark = commitWord [n] → e.w 0x52 = n) ∧
      (bs = true ∨ d.devLog.session = none ∨ d.devLog.sesMark = 0 → e.bit 0x40 8 = true ∧ e.w 0x52 = d.w 0x52) ∧
      (bt = true → e.bit 0x40 8 = true) ∧ (bt = true ∨ bs = true ∨ br = true → e.bit 0x32 9 = true) ∧
      ∀ c, bt = false → d.devLog.newest = some c → c.pendWr = false → e.w32 0xB486 = BitVec.ofNat 32 c.wptr ∧
        e.w32 0xB488 = c.written ∧ (d.tested = false → e.w32 0xB48A = c.readable) := by
  obtain ⟨l, hl, heq⟩ := Dev.logLoaded_eq hr hs hd he bt bs br
  refine ⟨_, heq, ?_⟩
  obtain ⟨hw, hlogue, hses, hmark, hnew, htested⟩ := d.logBooks_spec bt bs br
  generalize d.logBooks bt bs br = x at *
  have hbooks : (x.loadBooks []).w 0x52 = x.w 0x52 ∧ (x.bit 0x32 9 = true → (x.loadBooks []).bit 0x32 9 = true) ∧
      (x.loadBooks []).devLog.session = x.devLog.session ∧ (x.loadBooks []).devLog.sesMark = x.devLog.sesMark ∧
      (x.devLog.newest = none → (x.loadBooks []).bit 0x40 8 = true) := by
    cases hc : x.devLog.newest with
    | none =>
      obtain ⟨hbit, hsw, hue, -, hlog⟩ := x.logX_spec
      obtain ⟨hkw, hkb, hks, hkm⟩ := Dev.loadBooks_none hc []
      exact ⟨(hkw 0x52 (.inr rfl)).trans hsw, fun h => hkb (hue h), by rw [hks, hlog], by rw [hkm, hlog],
        fun _ => (Dev.bit_congr (hkw 0x40 (.inl rfl)) 8).trans hbit⟩
    | some c =>
      obtain ⟨hkw, hkb, hks, hkm⟩ := Dev.loadBooks_some hc []
      exact ⟨hkw 0x52 (.inr rfl), hkb, hks, hkm, fun h => nomatch h⟩
  have hcommitted := fun c hc hp => Dev.loadBooks_committed (d := x) (c := c) hc hp []
  obtain ⟨hyw, hyue, hys, hym, hyx⟩ := hbooks
  generalize x.loadBooks [] = y at *
  obtain ⟨hsame, hx8, hload, hlost⟩ := y.loadSession_spec
  generalize y.loadSession = z at *
  have hphase : (z.putF 0x40 2 0 1).cfgPhase = 1 := z.fld_putF_self 0x40 2 0 1 (by decide) (by decide)
  have hbit8 : (z.putF 0x40 2 0 1).bit 0x40 8 = z.bit 0x40 8 := by
    unfold Dev.bit
    rw [Dev.w_putF, if_pos rfl, bitOf_withBits _ 2 0 1 8 (by decide) (by decide) (by decide), if_neg (by decide)]
  have hother : z.SameWords (z.putF 0x40 2 0 1) [0x40] := z.sameWords_put _ (by simp)
  generalize z.putF 0x40 2 0 1 = f at *
  have hmem := (f.withLoader l).memOnly_loaderReads
  have hbit (a i : Nat) (ha : a < 0xD000) : (f.withLoader l).loaderReads.bit a i = f.bit a i := hmem.bit (.inl ha) i
  have hword (a : Nat) (ha : a < 0xD000) : (f.withLoader l).loaderReads.w a = f.w a := hmem.w (.inl ha)
  refine ⟨(congrArg Loader.step hmem.loader).trans hl, hmem.cfgPhase.trans hphase, fun n hbs hn hm => ?_, fun h => ?_, fun h => ?_,
    fun h => ?_, fun c hbt hc hp => ?_⟩
  · exact (hword 0x52 (by decide)).trans ((hother 0x52 (by decide)).trans (hload n (hys.trans (hses.trans hn))
      (hym.trans (hmark.trans (by rw [hbs]; exact hm)))))
  · have hno : y.devLog.session = none ∨ y.devLog.sesMark = 0 := by
      rcases h with h | h | h
      · exact .inr (hym.trans (hmark.trans (by rw [h]; rfl)))
      · exact .inl (hys.trans (hses.trans h))
      · exact .inr (hym.trans (hmark.trans (by rw [h]; exact ite_self _)))
    obtain ⟨hz8, hz52⟩ := hlost hno
    exact ⟨(hbit 0x40 8 (by decide)).trans (hbit8.trans hz8),
      (hword 0x52 (by decide)).trans ((hother 0x52 (by decide)).trans (hz52.trans (hyw.trans hw)))⟩
  · have hnone : x.devLog.newest = none := hnew.trans (by rw [h]; rfl)
    exact (hbit 0x40 8 (by decide)).trans (hbit8.trans (hx8 (hyx hnone)))
  · exact (hbit 0x32 9 (by decide)).trans ((hother.bit (by decide) 9).trans ((hsame.bit (by decide) 9).trans (hyue (hlogue h))))
  · obtain ⟨hwptr, hwritten, hreadable⟩ := hcommitted c (hnew.trans (by rw [hbt]; exact hc)) hp
    have hbooks (a : Nat) (ha : 0x53 ≤ a) (ha' : a + 1 < 0xD000) : (f.withLoader l).loaderReads.w32 a = y.w32 a :=
      (hmem.w32 (.inl ha')).trans ((hother.w32 (by simp; omega) (by simp; omega)).trans
        (hsame.w32 (by simp; omega) (by simp; omega)))
    exact ⟨(hbooks _ (by decide) (by decide)).trans hwptr, (hbooks _ (by decide) (by decide)).trans hwritten,
      fun ht => (hbooks _ (by decide) (by decide)).trans (hreadable (htested.trans ht))⟩

end Dev

/-- Settles O17: each event of the start does what its operation does, on the ports, domains and logs that the premises name. -/
theorem startSteps : Obligations.StartSteps := by
  intro s id
  refine ⟨fun h => State.onDev_eq (f := fun d => d.resetHigh id) (Dev.resetHigh_low h id), fun hr hl hp => ?_,
    fun hr hs hreq hoff hlast => ?_, fun bt bs br hr hs hd he => ?_⟩
  · obtain ⟨hruns, htime, hsub, hstep, hwords, hmotors, hports⟩ := Dev.firstLock_spec hr hl
    have hidle : s.dev.firstLock.portsIdle = true := (Dev.portsIdle_congr hports).trans hp
    exact ⟨_, State.onDev_eq (f := fun d => d.firstLock.hostsResume) (Dev.hostsResume_idle hidle), hruns, htime, hsub, hstep,
      hwords, hmotors⟩
  · exact ⟨_, State.onDev_eq (f := Dev.fusesRead) rfl, Dev.fusesRead_spec hr hs hreq hoff hlast⟩
  · obtain ⟨e, heq, hspec⟩ := Dev.logLoaded_spec hr hs hd he bt bs br
    exact ⟨e, State.onDev_eq (f := fun d => d.logLoaded bt bs br [] []) heq, hspec⟩

end Sys2Proof.Machine
end

section
/-! A low level on RESET_N: what it resets, and what ferroelectric memory and fuses keep (R331 to R333, R413). -/

namespace Sys2Proof.Machine

open Sys2Proof

namespace Dev

/-! ### What a cut write may change (R333, R413, R415) -/

/-- Nothing has changed from d to e but the copies of the books and slot s of the store. -/
structure CutOnly (s : Nat) (d e : Dev) : Prop where
  part : e.part = d.part
  bist : e.bist = d.bist
  lc : e.lc = d.lc
  fuses : e.fuses = d.fuses
  session : e.devLog.session = d.devLog.session
  sesMark : e.devLog.sesMark = d.devLog.sesMark
  repair : e.devLog.repair = d.devLog.repair
  repMark : e.devLog.repMark = d.devLog.repMark
  mark : ∀ n, n ≠ s → e.slotMark n = d.slotMark n
  slot : ∀ n i, n ≠ s → i < 4 → e.slotWord n i = d.slotWord n i

theorem CutOnly.refl (s : Nat) (d : Dev) : d.CutOnly s d :=
  ⟨rfl, rfl, rfl, rfl, rfl, rfl, rfl, rfl, fun _ _ => rfl, fun _ _ _ _ => rfl⟩

end Dev

theorem Dev.CutOnly.trans {s : Nat} {c d e : Dev} (h : Dev.CutOnly s c d) (h' : Dev.CutOnly s d e) : Dev.CutOnly s c e :=
  ⟨h'.part.trans h.part, h'.bist.trans h.bist, h'.lc.trans h.lc, h'.fuses.trans h.fuses, h'.session.trans h.session,
    h'.sesMark.trans h.sesMark, h'.repair.trans h.repair, h'.repMark.trans h.repMark,
    fun n hn => (h'.mark n hn).trans (h.mark n hn), fun n i hn hi => (h'.slot n i hn hi).trans (h.slot n i hn hi)⟩

namespace Dev

variable (d : Dev) (s : Nat)

theorem cutOnly_tearMirror : CutOnly s d d.tearMirror := by
  unfold Dev.tearMirror Dev.tearLog
  split <;> exact ⟨rfl, rfl, rfl, rfl, rfl, rfl, rfl, rfl, fun _ _ => rfl, fun _ _ _ _ => rfl⟩

theorem cutOnly_writeMirror (p o : Bool) : CutOnly s d (d.writeMirror p o) := by
  unfold Dev.writeMirror
  dsimp only
  split <;> exact ⟨rfl, rfl, rfl, rfl, rfl, rfl, rfl, rfl, fun _ _ => rfl, fun _ _ _ _ => rfl⟩

theorem slotMark_markSlot_ne {n : Nat} (v : Word) (h : n ≠ s) : (d.markSlot s v).slotMark n = d.slotMark n :=
  Store.get_set_ne _ v h

theorem cutOnly_prepareSlot (w0 w1 w2 w3 : Word) : CutOnly s d (d.prepareSlot s w0 w1 w2 w3) := by
  refine ⟨rfl, rfl, rfl, rfl, rfl, rfl, rfl, rfl, fun n hn => d.slotMark_markSlot_ne s 0 hn, fun n i hn hi => ?_⟩
  rw [Dev.slotWord_prepareSlot]
  rw [if_neg (by omega), if_neg (by omega), if_neg (by omega), if_neg (by omega)]

theorem cutOnly_writeSlot (r : Rec) : CutOnly s d (d.writeSlot s r) :=
  (d.cutOnly_prepareSlot s r.w0 r.w1 r.w2 r.w3).trans
    ⟨rfl, rfl, rfl, rfl, rfl, rfl, rfl, rfl, fun _ hn => Dev.slotMark_markSlot_ne _ s _ hn, fun _ _ _ _ => rfl⟩

/-- The commit of a record that a reset cuts short. -/
theorem cutOnly_cutRecord (cut : CommitCut) : CutOnly d.wptr d (d.cutRecord cut) := by
  unfold Dev.cutRecord
  split
  · exact .refl _ d
  · split
    · exact .refl _ d
    · have hintent := d.cutOnly_writeMirror d.wptr true (d.slotHolds d.wptr)
      cases cut with
      | intent => exact d.cutOnly_tearMirror _
      | gap => exact hintent
      | slot => exact hintent.trans (Dev.cutOnly_prepareSlot _ _ 0 0 0 0)
      | result => exact (hintent.trans (Dev.cutOnly_writeSlot _ _ _)).trans (Dev.cutOnly_tearMirror _ _)
      | none | session | repair | books => exact .refl _ d

/-- What a reset that cuts a write short leaves of ferroelectric memory. -/
structure CutEffect (cut : CommitCut) (d e : Dev) : Prop where
  part : e.part = d.part
  bist : e.bist = d.bist
  lc : e.lc = d.lc
  fuses : e.fuses = d.fuses
  whole : cut = .none → e.store = d.store ∧ e.marks = d.marks ∧ e.devLog = d.devLog
  session : e.devLog.session = d.devLog.session
  sesMark : cut ≠ .session ∨ d.writing ≠ some .session → e.devLog.sesMark = d.devLog.sesMark
  repair : cut ≠ .repair ∨ d.writing ≠ some .repair → e.devLog.repair = d.devLog.repair ∧ e.devLog.repMark = d.devLog.repMark
  sesTorn : cut = .session → d.writing = some .session → e.devLog.sesMark = 0
  repTorn : cut = .repair → d.writing = some .repair → e.devLog.repMark = 0
  slots : ∀ n, n ≠ d.wptr → e.slotMark n = d.slotMark n ∧ ∀ i, i < 4 → e.slotWord n i = d.slotWord n i

theorem CutEffect.of_cutOnly {cut : CommitCut} {e : Dev} (h : CutOnly d.wptr d e) (hn : cut = .none → e = d)
    (hs : cut ≠ .session) (hr : cut ≠ .repair) : CutEffect cut d e :=
  ⟨h.part, h.bist, h.lc, h.fuses, fun hc => by rw [hn hc]; exact ⟨rfl, rfl, rfl⟩, h.session, fun _ => h.sesMark,
    fun _ => ⟨h.repair, h.repMark⟩, fun hc => absurd hc hs, fun hc => absurd hc hr,
    fun n hne => ⟨h.mark n hne, fun i hi => h.slot n i hne hi⟩⟩

theorem cutRecord_none : d.cutRecord .none = d := by
  unfold Dev.cutRecord
  split
  · rfl
  · split <;> rfl

/-- The unit that is being written is torn where the cut names it, and else the log stays. -/
theorem cutUnit_cases (us : List LogUnit) : d.cutUnit us = d ∧ (∀ u, u ∈ us → d.writing ≠ some u) ∨
    ∃ u, u ∈ us ∧ d.writing = some u ∧ d.cutUnit us = d.tearLog u := by
  unfold Dev.cutUnit
  cases hw : d.writing with
  | none => exact .inl ⟨rfl, fun _ _ => nofun⟩
  | some u =>
    by_cases hu : u ∈ us
    · exact .inr ⟨u, hu, rfl, if_pos (List.contains_iff_mem.2 hu)⟩
    · exact .inl ⟨if_neg (fun h => hu (List.contains_iff_mem.1 h)), fun v hv he => hu (Option.some.inj he ▸ hv)⟩

theorem cutCommit_effect (cut : CommitCut) : CutEffect cut d (d.cutCommit cut) := by
  have hrecord : ∀ c : CommitCut, c ≠ .session → c ≠ .repair → CutEffect c d (d.cutRecord c) := fun c hs hr =>
    .of_cutOnly d (d.cutOnly_cutRecord c) (fun hc => by rw [hc]; exact d.cutRecord_none) hs hr
  cases cut with
  | none | intent | gap | slot | result => exact hrecord _ nofun nofun
  | session =>
    obtain ⟨he, hno⟩ | ⟨u, hu, hw, he⟩ := d.cutUnit_cases [.session]
    · have hsame : d.cutCommit .session = d := he
      rw [hsame]
      exact ⟨rfl, rfl, rfl, rfl, nofun, rfl, fun _ => rfl, fun _ => ⟨rfl, rfl⟩, fun _ hw => absurd hw (hno _ (by simp)), nofun,
        fun _ _ => ⟨rfl, fun _ _ => rfl⟩⟩
    · obtain rfl := List.mem_singleton.1 hu
      have htorn : d.cutCommit .session = d.tearLog .session := he
      rw [htorn]
      exact ⟨rfl, rfl, rfl, rfl, nofun, rfl, fun h => (h.elim (absurd rfl) (absurd hw)), fun _ => ⟨rfl, rfl⟩, fun _ _ => rfl, nofun,
        fun _ _ => ⟨rfl, fun _ _ => rfl⟩⟩
  | repair =>
    obtain ⟨he, hno⟩ | ⟨u, hu, hw, he⟩ := d.cutUnit_cases [.repair]
    · have hsame : d.cutCommit .repair = d := he
      rw [hsame]
      exact ⟨rfl, rfl, rfl, rfl, nofun, rfl, fun _ => rfl, fun _ => ⟨rfl, rfl⟩, nofun, fun _ hw => absurd hw (hno _ (by simp)),
        fun _ _ => ⟨rfl, fun _ _ => rfl⟩⟩
    · obtain rfl := List.mem_singleton.1 hu
      have htorn : d.cutCommit .repair = d.tearLog .repair := he
      rw [htorn]
      exact ⟨rfl, rfl, rfl, rfl, nofun, rfl, fun _ => rfl, fun h => (h.elim (absurd rfl) (absurd hw)), nofun, fun _ _ => rfl,
        fun _ _ => ⟨rfl, fun _ _ => rfl⟩⟩
  | books =>
    refine .of_cutOnly d ?_ nofun nofun nofun
    obtain ⟨he, -⟩ | ⟨u, hu, -, he⟩ := d.cutUnit_cases [.copyA, .copyB]
    · have hsame : d.cutCommit .books = d := he
      rw [hsame]
      exact .refl _ d
    · have htorn : d.cutCommit .books = d.tearLog u := he
      rw [htorn]
      obtain rfl | rfl : u = .copyA ∨ u = .copyB := by simpa using hu
      · exact ⟨rfl, rfl, rfl, rfl, rfl, rfl, rfl, rfl, fun _ _ => rfl, fun _ _ _ _ => rfl⟩
      · exact ⟨rfl, rfl, rfl, rfl, rfl, rfl, rfl, rfl, fun _ _ => rfl, fun _ _ _ _ => rfl⟩

/-! ### The module in reset (R332) -/

/-- A module in reset keeps its part, ferroelectric memory and fuses, but for a test and a programming that the reset cuts. -/
theorem inReset_keeps : d.inReset.part = d.part ∧
    (d.bist.run = none → d.inReset.store = d.store ∧ d.inReset.marks = d.marks ∧ d.inReset.devLog = d.devLog) ∧
    (d.lc.fuse = none → d.inReset.fuses = d.fuses) := by
  have htest : d.cutTest.part = d.part ∧ d.cutTest.lc = d.lc ∧ d.cutTest.fuses = d.fuses ∧
      (d.bist.run = none → d.cutTest = d) := by
    unfold Dev.cutTest
    split <;> exact ⟨rfl, rfl, rfl, by simp_all⟩
  have hfuse (e : Dev) : e.cutFuses.part = e.part ∧ e.cutFuses.store = e.store ∧ e.cutFuses.marks = e.marks ∧
      e.cutFuses.devLog = e.devLog ∧ (e.lc.fuse = none → e.cutFuses.fuses = e.fuses) := by
    unfold Dev.cutFuses
    split
    next h =>
      have hno : ¬ e.lc.fuse = none := fun hn => by rw [hn] at h; exact Bool.noConfusion h
      split
      · unfold Dev.fuseDone
        dsimp only
        split <;> exact ⟨rfl, rfl, rfl, rfl, fun hn => absurd hn hno⟩
      · exact ⟨rfl, rfl, rfl, rfl, fun hn => absurd hn hno⟩
    · exact ⟨rfl, rfl, rfl, rfl, fun _ => rfl⟩
  obtain ⟨hpart, hlc, hfuses, hsame⟩ := htest
  obtain ⟨hfpart, hstore, hmarks, hlog, hffuses⟩ := hfuse d.cutTest
  refine ⟨hfpart.trans hpart, fun hn => ?_, fun hn => (hffuses ((congrArg LifeCycle.fuse hlc).trans hn)).trans hfuses⟩
  rw [hsame hn] at hstore hmarks hlog
  show d.cutTest.cutFuses.store = _ ∧ d.cutTest.cutFuses.marks = _ ∧ d.cutTest.cutFuses.devLog = _
  rw [hsame hn]
  exact ⟨hstore, hmarks, hlog⟩

/-- Everything else stands at reset. -/
theorem inReset_cleared : d.inReset.resetN = false ∧ d.inReset.runs = false ∧ (∀ a, d.inReset.w a = resetWord a) ∧
    d.inReset.time = 0 ∧ d.inReset.sub = 0 ∧ (∀ m, (d.inReset.mot m).state = .idle) ∧
    (∀ b, (d.inReset.brg b).en = false ∧ (d.inReset.brg b).hs = false ∧ (d.inReset.brg b).ls = false) ∧
    (∀ n, 3 ≤ n → n ≤ 9 → d.inReset.domOn n = false) ∧ d.inReset.dist.high = false := by
  have hcycles : d.inReset.cycles = 0 := rfl
  refine ⟨rfl, rfl, fun _ => rfl, by rw [Dev.time, hcycles]; rfl, by rw [Dev.sub, hcycles]; rfl, fun m => ?_, fun b => ?_,
    fun n hlo hhi => ?_, rfl⟩
  · show (Vector.replicate 16 ({} : Motor))[m].state = .idle
    simp
  · show (Vector.replicate 48 ({} : Bridge))[b].en = false ∧ (Vector.replicate 48 ({} : Bridge))[b].hs = false ∧
      (Vector.replicate 48 ({} : Bridge))[b].ls = false
    simp
  · show bitOf (resetWord 0x801) n = false
    interval_cases n <;> decide +kernel

end Dev

/-- Settles O16: a reset builds the module anew from what ferroelectric memory and fuses hold, and a cut write touches its own
unit or slot alone. -/
theorem resetAsserted : Obligations.ResetAsserted := by
  intro s ns cut
  refine ⟨fun hns => ?_, fun hns => ?_, fun hlo hhi => ?_⟩
  · have heq : s.dev.resetLow ns cut = (s.dev.cutCommit cut).inReset := by
      unfold Dev.resetLow
      rw [if_neg (by omega), if_neg (by omega)]
    refine ⟨_, State.onDev_eq (f := fun d => d.resetLow ns cut) heq, ?_⟩
    have hcut := s.dev.cutCommit_effect cut
    generalize s.dev.cutCommit cut = e at hcut ⊢
    obtain ⟨hreset, hruns, hwords, htime, hsub, hmot, hbrg, hdom, hdist⟩ := e.inReset_cleared
    obtain ⟨hpart, hmem, hfuses⟩ := e.inReset_keeps
    have hrun : s.dev.bist.run = none → e.bist.run = none := fun h => by rw [hcut.bist, h]
    refine ⟨hreset, hruns, hwords, htime, hsub, hmot, hbrg, hdom, hdist, hpart.trans hcut.part, fun hb hc => ?_, fun hb => ?_,
      fun hf => (hfuses (by rw [hcut.lc, hf])).trans hcut.fuses⟩
    · obtain ⟨hstore, hmarks, hlog⟩ := hmem (hrun hb)
      obtain ⟨hs, hm, hl⟩ := hcut.whole hc
      exact ⟨hstore.trans hs, hmarks.trans hm, hlog.trans hl⟩
    · obtain ⟨hstore, hmarks, hlog⟩ := hmem (hrun hb)
      unfold Dev.slotMark
      rw [hstore, hmarks, hlog]
      exact ⟨hcut.session, hcut.sesMark, hcut.repair, hcut.sesTorn, hcut.repTorn, hcut.slots⟩
  · exact State.onDev_eq (f := fun d => d.resetLow ns cut) (if_pos hns)
  · have heq : s.dev.resetLow ns cut = if Config.eitherWay s.dev.free then (s.dev.nextFree.cutCommit cut).inReset else s.dev.nextFree := by
      unfold Dev.resetLow
      rw [if_neg (by omega), if_pos hhi]
    cases h : Config.eitherWay s.dev.free with
    | true =>
      refine .inr ((State.onDev_eq (f := fun d => d.resetLow ns cut) (heq.trans (if_pos h))).trans ?_)
      exact (State.onDev_eq (s := { s with dev := s.dev.nextFree }) (f := fun d => d.resetLow 10000 cut) rfl).symm
    | false => exact .inl (State.onDev_eq (f := fun d => d.resetLow ns cut) (heq.trans (if_neg (by rw [h]; exact Bool.false_ne_true))))

end Sys2Proof.Machine
end

section
/-! The registers of the self-test (0xF000 and above): no engine, group, array, supply, gate driver, trace or power domain
writes one. -/

namespace Sys2Proof.Machine

open Sys2Proof

namespace Dev

/-- The registers of life cycle, test and repair. -/
def top (d : Dev) (a : Nat) : Word := if 0xF000 ≤ a then d.w a else 0

theorem top_w {d e : Dev} (h : e.top = d.top) {a : Nat} (ha : 0xF000 ≤ a) : e.w a = d.w a := by
  have hw := congrFun h a
  unfold Dev.top at hw
  rwa [if_pos ha, if_pos ha] at hw

theorem top_bit {d e : Dev} (h : e.top = d.top) {a : Nat} (ha : 0xF000 ≤ a) (i : Nat) : e.bit a i = d.bit a i :=
  Dev.bit_congr (Dev.top_w h ha) i

variable (d : Dev)

/-! ### Updates -/

@[simp] theorem top_put {a : Nat} (v : Word) (h : a < 0xF000) : (d.put a v).top = d.top := by
  funext b
  unfold Dev.top
  split
  · exact d.w_put_ne v (by omega)
  · rfl

@[simp] theorem top_putB {a : Nat} (i : Nat) (b : Bool) (h : a < 0xF000) : (d.putB a i b).top = d.top := d.top_put _ h
@[simp] theorem top_putF {a : Nat} (hi lo v : Nat) (h : a < 0xF000) : (d.putF a hi lo v).top = d.top := d.top_put _ h

@[simp] theorem top_put32 {a : Nat} (v : BitVec 32) (h : a + 1 < 0xF000) : (d.put32 a v).top = d.top :=
  (Dev.top_put _ _ h).trans (d.top_put _ (by omega))

theorem top_of_words {d e : Dev} (h : e.words = d.words) : e.top = d.top := by
  funext b
  unfold Dev.top
  rw [Dev.w_of_words h]

@[simp] theorem top_raise (i : Nat) : (d.raise i).top = d.top := Dev.top_of_words (Dev.raise_words d i)

theorem top_cause {a : Nat} (m : Word) (i : Nat) (h : a < 0xF000) : (d.cause a m i).top = d.top :=
  (Dev.top_raise _ i).trans (d.top_put _ h)

theorem top_drives {d e : Dev} (h : d.Drives e) : e.top = d.top := Dev.top_of_words h.words

theorem top_each {α : Type} (l : List α) (f : Dev → α → Dev) (h : ∀ (e : Dev) (a : α), (f e a).top = e.top) :
    (d.each l f).top = d.top :=
  Dev.each_inv (P := fun e => e.top = d.top) l d rfl (fun e a he => (h e a).trans he)

@[simp] theorem top_onMot (m : MotorIx) (f : Motor → Motor) : (d.onMot m f).top = d.top := rfl
@[simp] theorem top_onGrp (g : GroupIx) (f : Group → Group) : (d.onGrp g f).top = d.top := rfl
@[simp] theorem top_onPrm (p : GroupIx) (f : Prism → Prism) : (d.onPrm p f).top = d.top := rfl
@[simp] theorem top_onAcc (p : GroupIx) (a : Fin 64) (f : Acc → Acc) : (d.onAcc p a f).top = d.top := rfl
@[simp] theorem top_onSen (s : SensorIx) (f : ThermSen → ThermSen) : (d.onSen s f).top = d.top := rfl

/-! ### Addresses below -/

theorem aMot_below (m : MotorIx) {o : Nat} (h : o < 0x400) : aMot m o + 1 < 0xF000 := by
  unfold aMot
  omega

theorem aPrm_below (p : GroupIx) {o : Nat} (h : o < 0x800) : aPrm p o < 0xF000 := by
  unfold aPrm
  omega

theorem aAcc_below (p : GroupIx) (a : Fin 64) {o : Nat} (h : o < 4) : aAcc p a o < 0xF000 := Dev.aPrm_below p (by omega)

theorem aTrk_below (p : GroupIx) (t : Fin 32) {o : Nat} (h : o < 4) : aTrk p t o < 0xF000 := Dev.aPrm_below p (by omega)

theorem aSen_below (s : SensorIx) {o : Nat} (h : o < 8) : aSen s o < 0xF000 := by
  unfold aSen
  omega

/-! ### Thermal requests and arrays (R228, R240, R453) -/

theorem top_thermMissed (s : SensorIx) : (d.thermMissed s).top = d.top := d.top_putB 1 true (Dev.aSen_below s (by decide))

theorem top_thermFeed (p : GroupIx) : (d.thermFeed p).top = d.top := by
  obtain h | ⟨s, f, u, h⟩ := d.thermFeed_cases p <;> rw [h]
  rfl

theorem top_thermOver (p : GroupIx) (s : SensorIx) : (d.thermOver p s).top = d.top := by
  unfold Dev.thermOver
  dsimp only
  split
  · exact Dev.top_thermFeed _ _
  · rfl

theorem top_thermDrop (p : GroupIx) : (d.thermDrop p).top = d.top :=
  (Dev.top_each _ _ _ (fun e s => (Dev.top_onSen _ s _).trans (e.top_thermMissed s))).trans
    ((Dev.top_each _ _ _ (fun e s => (Dev.top_thermOver _ p s).trans (e.top_thermMissed s))).trans (d.top_onPrm p _))

theorem top_restartTrk (p : GroupIx) (t : Fin 32) : (d.restartTrk p t).top = d.top := by
  unfold Dev.restartTrk
  dsimp only
  refine (Dev.top_onPrm _ p _).trans ((Dev.top_put _ _ ?_).trans ((Dev.top_put _ _ ?_).trans (d.top_put _ ?_)))
  all_goals exact Dev.aTrk_below p t (by decide)

theorem top_initPrism (p : GroupIx) : (d.initPrism p).top = d.top := by
  refine (Dev.top_each _ _ _ (fun e t => e.top_restartTrk p t)).trans ?_
  exact Dev.top_each _ _ _ (fun e a => (Dev.top_put _ _ (Dev.aAcc_below p a (by decide))).trans
    (e.top_put _ (Dev.aAcc_below p a (by decide))))

/-! ### Gate drivers, engines and domains (R179, R180, R461, R464) -/

theorem top_bridgesOff (g : GroupIx) : (d.bridgesOff g).top = d.top :=
  (Dev.top_each _ _ _ (fun e m => Dev.top_drives ((e.drives_syncBsuv m).trans (Dev.drives_syncComp _ m)))).trans
    (Dev.top_each _ _ _ (fun e b => Dev.top_drives ((e.drives_turnOff b).trans (Dev.drives_onBrg _ b _))))

theorem top_clearGlint (g : GroupIx) : (d.clearGlint g).top = d.top := by
  have hcur (m : MotorIx) (o : Nat) (h : o < 8) : aCur m o < 0xF000 := by
    unfold aCur
    omega
  have hbus : aBus g 1 < 0xF000 := by
    unfold aBus
    omega
  refine (Dev.top_put _ _ hbus).trans (Dev.top_each _ _ _ (fun e m => ?_))
  exact (Dev.top_put _ _ (hcur m 5 (by decide))).trans (e.top_put _ (hcur m 4 (by decide)))

theorem top_dieStop (g : GroupIx) : (d.dieStop g).top = d.top := by
  have hlevel (e : Dev) : (e.syncGduv g).top = e.top := Dev.top_each _ _ _ (fun e m => e.top_onMot m _)
  refine (hlevel _).trans ((Dev.top_clearGlint _ g).trans ((Dev.top_bridgesOff _ g).trans ?_))
  rfl

@[simp] theorem top_ite (c : Prop) [Decidable c] (x y : Dev) : (if c then x else y).top = if c then x.top else y.top :=
  apply_ite _ _ _ _

theorem top_clearInts (m : MotorIx) (st : MState) : (d.clearInts m st).top = d.top := by
  have h4 : aMot m 4 < 0xF000 := by have := Dev.aMot_below m (o := 4) (by decide); omega
  simp [Dev.clearInts, Dev.aMot_below m (o := 0x128) (by decide), h4]

theorem top_showChange (m : MotorIx) : (d.showChange m).top = d.top := by
  have hm (o : Nat) (h : o < 0x400) : aMot m o < 0xF000 := by have := Dev.aMot_below m h; omega
  have hstate := d.top_putF 3 0 (d.mot m).state.code (hm 1 (by decide))
  unfold Dev.showChange
  dsimp only
  split
  · exact hstate
  · exact (Dev.top_put _ _ (hm 0x93 (by decide))).trans ((Dev.top_put _ _ (hm 0x81 (by decide))).trans hstate)

theorem top_toIdle (m : MotorIx) : (d.toIdle m).top = d.top :=
  (Dev.top_drives (Dev.drives_drive _ m)).trans ((Dev.top_showChange _ m).trans (d.top_clearInts m .idle))

theorem top_domainIdle (g : GroupIx) : (d.domainIdle g).top = d.top :=
  (Dev.top_drives (Dev.drives_driveGroup _ g)).trans (Dev.top_each _ _ _ (fun e m => e.top_toIdle m))

theorem top_domOff (n : Nat) (therm : Bool) : (d.domOff n therm).top = d.top := by
  have hshow : ((d.putB 0x801 n false).putB 0x802 n false).top = d.top :=
    (Dev.top_putB _ n false (by decide)).trans (d.top_putB n false (by decide))
  have hchange := ((Dev.top_cause ((d.putB 0x801 n false).putB 0x802 n false)
    (word (2 ^ n + (if therm then 0x8000 else 0))) 58 (by decide : 0x804 < 0xF000))).trans hshow
  unfold Dev.domOff
  refine (Dev.top_each _ _ _ (fun e g => e.top_domainIdle g)).trans ?_
  split
  · refine (Dev.top_putB _ 0 _ (by decide)).trans ((Dev.top_putB _ 1 _ (by decide)).trans ?_)
    exact (Dev.top_each _ _ _ (fun e p => (Dev.top_initPrism _ p).trans (e.top_thermDrop p))).trans hchange
  · split
    · exact (Dev.top_each _ _ _ (fun e g => e.top_dieStop g)).trans hchange
    · exact hchange

theorem top_domainsOff (therm : Bool) : (d.domainsOff therm).top = d.top := Dev.top_each _ _ _ (fun e n => e.top_domOff n therm)

end Dev

end Sys2Proof.Machine
end

section
/-! The memory test (R471 to R475). -/

namespace Sys2Proof.Machine

open Sys2Proof

namespace Dev

/-- From d to e the test registers have kept their words, but for the bits of BSTAT other than BUSY. -/
structure TestKept (d e : Dev) : Prop where
  words : ∀ a, 0xF000 ≤ a → a ≠ 0xF401 → e.w a = d.w a
  busy : e.bit 0xF401 15 = d.bit 0xF401 15
  bist : e.bist = d.bist

theorem TestKept.trans {c d e : Dev} (h : c.TestKept d) (h' : d.TestKept e) : c.TestKept e :=
  ⟨fun a ha hne => (h'.words a ha hne).trans (h.words a ha hne), h'.busy.trans h.busy, h'.bist.trans h.bist⟩

theorem TestKept.of_top {d e : Dev} (h : e.top = d.top) (hb : e.bist = d.bist) : d.TestKept e :=
  ⟨fun _ ha _ => Dev.top_w h ha, Dev.top_bit h (by decide) 15, hb⟩

variable (d : Dev)

theorem testKept_put {a : Nat} (v : Word) (h : a < 0xF000) : d.TestKept (d.put a v) := .of_top (d.top_put v h) rfl

theorem testKept_restart : d.TestKept (d.putB 0xF401 13 true) :=
  ⟨fun a _ hne => d.w_put_ne _ hne, d.bit_putB_ne 0xF401 true (by decide) (by decide) (by decide), d.putB_bist _ _ _⟩

theorem testKept_each {α : Type} (l : List α) (f : Dev → α → Dev) (h : ∀ (e : Dev) (a : α), a ∈ l → e.TestKept (f e a)) :
    d.TestKept (d.each l f) := by
  unfold Dev.each
  induction l generalizing d with
  | nil => exact .of_top rfl rfl
  | cons a l ih => exact (h d a (by simp)).trans (ih _ (fun e b hb => h e b (by simp [hb])))

theorem stateBits_top {a : Nat} (h : 0xF000 ≤ a) : stateBits a = 0 := if_neg (by omega)

theorem testKept_zeroWords : d.TestKept d.zeroWords := by
  refine d.testKept_each _ _ (fun e a _ => ?_)
  by_cases ha : 0xF000 ≤ a
  · have hsame (b : Nat) : (e.put a (e.w a &&& ~~~(stateBits a))).w b = e.w b := by
      rw [Dev.stateBits_top ha, Dev.w_put]
      split
      next h => rw [h, show (~~~(0 : Word)) = BitVec.allOnes 16 by decide, BitVec.and_allOnes]
      next => rfl
    exact ⟨fun b _ _ => hsame b, Dev.bit_congr (hsame _) 15, rfl⟩
  · exact e.testKept_put _ (by omega)

theorem testKept_bistState : d.TestKept d.bistState := by
  have hdrop : d.TestKept (d.each (List.finRange 4) Dev.thermDrop) :=
    .of_top (Dev.top_each _ _ _ (fun e p => e.top_thermDrop p)) (Dev.bist_of_sys (Dev.sys_each _ _ Dev.sys_thermDrop d))
  unfold Dev.bistState
  dsimp only
  generalize d.each (List.finRange 4) Dev.thermDrop = e at hdrop ⊢
  have hzero := hdrop.trans e.testKept_zeroWords
  generalize e.zeroWords = z at hzero ⊢
  refine (hzero.trans (TestKept.trans ?_ (Dev.testKept_each _ _ _ (fun x t _ => x.testKept_put _ (by unfold aTr; omega))))).trans
    (Dev.testKept_restart _)
  exact ⟨fun _ _ _ => rfl, rfl, rfl⟩

theorem testKept_emptyStore : d.TestKept d.emptyStore := by
  refine .of_top ?_ (Dev.bist_of_sys d.sys_emptyStore)
  obtain ⟨em, hem⟩ : ∃ em, d.emptyStore =
    (({ d with store := [], marks := [], emptied := em } : Dev).emptyBooks (d.w32 0xB48A)).mirrorBooks := ⟨_, rfl⟩
  obtain ⟨l, u, hmirror⟩ := (({ d with store := [], marks := [], emptied := em } : Dev).emptyBooks (d.w32 0xB48A)).mirrorBooks_eq
  rw [hem, hmirror]
  refine (Dev.top_put32 _ _ (by decide)).trans ((Dev.top_put32 _ _ (by decide)).trans ((Dev.top_put _ _ (by decide)).trans
    ((Dev.top_put32 _ _ (by decide)).trans ?_)))
  rfl

theorem testKept_bistLeave (tgt : Nat) : d.TestKept (d.bistLeave tgt) := by
  unfold Dev.bistLeave
  split
  · exact d.testKept_bistState
  · refine TestKept.trans ?_ (Dev.testKept_restart _)
    refine d.testKept_each _ _ (fun x p _ => x.testKept_each _ _ (fun y i hi => y.testKept_put _ ?_))
    have := List.mem_range.1 hi
    unfold aPrm
    omega
  · exact d.testKept_emptyStore
  · have hlog (e : Dev) : e.TestKept e.logSession := .of_top rfl rfl
    have hmirror (e : Dev) : e.TestKept (e.writeMirror false false) := by
      obtain ⟨l, u, h⟩ := e.writeMirror_eq false false
      rw [h]
      exact .of_top rfl rfl
    have hunits : d.TestKept { d with devLog := { repair := d.devLog.repair, repMark := d.devLog.repMark } } := .of_top rfl rfl
    exact (hunits.trans (hmirror _)).trans (hlog _)

/-- A test that ends shows its causes and what it has recorded, and the next may begin (R474). -/
theorem bistEnd_spec {t : Nat} (h : d.bist.run = some t) (cause : Word) : (d.bistEnd cause).bist.run = none ∧
    (d.bistEnd cause).bist.failed = bitOf cause 1 ∧ (d.bistEnd cause).bit 0xF401 15 = false ∧
    (∀ i, cause.getLsbD i = true → (d.bistEnd cause).bit 0xF402 i = true) ∧
    ∀ a, 0xF403 ≤ a → (d.bistEnd cause).w a = d.w a := by
  unfold Dev.bistEnd
  rw [h]
  dsimp only
  have hended : ({ d with bist := { d.bist with run := none, failed := bitOf cause 1 } } : Dev).words = d.words := rfl
  have hbist : ({ d with bist := { d.bist with run := none, failed := bitOf cause 1 } } : Dev).bist =
    { d.bist with run := none, failed := bitOf cause 1 } := rfl
  generalize ({ d with bist := { d.bist with run := none, failed := bitOf cause 1 } } : Dev) = e at hended hbist ⊢
  have hidle : (e.putB 0xF401 15 false).bit 0xF401 15 = false := e.bit_putB_self 0xF401 15 false (by decide)
  have hother : ∀ a, a ≠ 0xF401 → (e.putB 0xF401 15 false).w a = d.w a := fun a ha =>
    (e.w_put_ne _ ha).trans (Dev.w_of_words hended a)
  have hbist' : (e.putB 0xF401 15 false).bist = e.bist := e.putB_bist _ _ _
  generalize e.putB 0xF401 15 false = f at hidle hother hbist' ⊢
  obtain ⟨hleft, hbusy, hkept⟩ := f.testKept_bistLeave t
  generalize f.bistLeave t = g at hleft hbusy hkept ⊢
  have hcause : (g.cause 0xF402 cause 60).bist = g.bist := by simp [Dev.cause]
  have hne (a : Nat) (ha : a ≠ 0xF402) := g.cause_w_ne cause 60 ha
  have hset (i : Nat) (hi : cause.getLsbD i = true) : (g.cause 0xF402 cause 60).bit 0xF402 i = true := by
    rw [Dev.bit_cause, hi]
    simp
  generalize g.cause 0xF402 cause 60 = x at hcause hne hset ⊢
  have htop := x.top_domainsOff false
  have hsys : (x.domainsOff false).bist = x.bist := Dev.bist_of_sys (x.sys_domainsOff false)
  rw [hsys, hcause, hkept, hbist', hbist]
  refine ⟨rfl, rfl, ?_, fun i hi => (Dev.top_bit htop (by decide) i).trans (hset i hi), fun a ha => ?_⟩
  · exact (Dev.top_bit htop (by decide) 15).trans ((Dev.bit_congr (hne _ (by decide)) 15).trans (hbusy.trans hidle))
  · exact (Dev.top_w htop (by omega)).trans ((hne a (by omega)).trans ((hleft a (by omega) (by omega)).trans (hother a (by omega))))

end Dev

end Sys2Proof.Machine
end

section
/-! Proof of the statement on memory tests, repair and boundary scan (R471 to R482). -/

namespace Sys2Proof.Machine

open Sys2Proof

namespace Dev

variable (d : Dev)

/-! ### The start of a test and its march (R471 to R475) -/

/-- A test that may start runs, with its results cleared (R473, R475). -/
theorem bistGo_starts {v : Word} (h : d.bistMay (bits v 3 0) = true) : (d.bistGo v).bist.run = some (bits v 3 0) ∧
    (d.bistGo v).bit 0xF401 15 = true ∧ (d.bistGo v).w 0xF403 = 0 ∧ (d.bistGo v).w 0xF410 = 0 ∧
    (d.bistGo v).motors = d.motors := by
  unfold Dev.bistGo
  dsimp only
  rw [if_pos h]
  have hw (a : Nat) : ({ d.resetRange 0xF403 0xF418 with bist := { run := some (bits v 3 0), failed := false, lastTgt := bits v 3 0 } } :
    Dev).w a = (d.resetRange 0xF403 0xF418).w a := rfl
  have hzero : resetWord 0xF403 = 0 ∧ resetWord 0xF410 = 0 := by decide +kernel
  refine ⟨rfl, ?_, ?_, ?_, rfl⟩
  · rw [Dev.bit, Dev.w_put_self]
    simp [bitOf]
  · rw [Dev.w_put_ne _ _ (by decide), hw, Dev.w_resetRange, if_pos (by decide)]
    exact hzero.1
  · rw [Dev.w_put_ne _ _ (by decide), hw, Dev.w_resetRange, if_pos (by decide)]
    exact hzero.2

/-- A test that may not start is refused. -/
theorem bistGo_refused {v : Word} (h : d.bistMay (bits v 3 0) = false) : (d.bistGo v).bist = d.bist ∧
    (d.bistGo v).bit 0xF401 14 = true ∧ (d.bistGo v).bit 0xF402 0 = true ∧ (d.bistGo v).motors = d.motors ∧
    d.SameWords (d.bistGo v) [0xF401, 0xF402] := by
  have heq : d.bistGo v = (d.putB 0xF401 14 true).cause 0xF402 1 60 := if_neg (by rw [h]; exact Bool.false_ne_true)
  have hbit : (d.putB 0xF401 14 true).bit 0xF401 14 = true := d.bit_putB_self 0xF401 14 true (by decide)
  have hsame : d.SameWords (d.putB 0xF401 14 true) [0xF401, 0xF402] := d.sameWords_put _ (by simp)
  rw [heq]
  refine ⟨by simp [Dev.cause], ?_, ?_, by simp [Dev.cause], hsame.trans ((Dev.sameWords_cause _ 0xF402 1 60).mono (by simp))⟩
  · exact (Dev.bit_congr (Dev.cause_w_ne _ 1 60 (by decide)) 14).trans hbit
  · rw [Dev.bit_cause]
    exact Bool.or_true _

theorem bistFound_nil : d.bistFound [] = d := by
  unfold Dev.bistFound
  split
  · split <;> rfl
  · rfl

/-- The march ends with what it has recorded (R474). -/
theorem bistDone_eq {t : Nat} (hr : d.runs = true) (h : d.bist.run = some t) {fails : List BistFail}
    (hok : d.marchOk t fails = true) :
    d.bistDone fails = (d.bistLog fails).bistEnd (if fails.isEmpty && d.w 0xF403 = 0 then 1 else 3) := by
  unfold Dev.bistDone
  rw [h]
  exact if_pos (by rw [hr, hok]; rfl)

theorem marchOk_nil (t : Nat) : d.marchOk t [] = true := rfl

theorem marchOk_single {t : Nat} {f : BistFail} (h : d.marchFits t f = true) : d.marchOk t [f] = true := by
  simp [Dev.marchOk, h, rising]

/-- The record of a single failure (R475). -/
theorem bistLog_single (f : BistFail) : (d.bistLog [f]).bist = d.bist ∧ (d.bistLog [f]).w 0xF403 = 1 ∧
    (d.bistLog [f]).w 0xF404 = word f.index := by
  have heq : d.bistLog [f] = ((((d.put 0xF403 1).put 0xF404 (word f.index)).put 0xF405 (word (f.index / 65536 % 16))).put 0xF406
      (word (f.bg % 8 * 4096 + f.elem % 16 * 256 + f.bit % 32))).put 0xF410 (word (0x8000 + 0 + (f.index / 64) % 16384)) := rfl
  rw [heq]
  refine ⟨by simp, ?_, ?_⟩
  · rw [Dev.w_put_ne _ _ (by decide), Dev.w_put_ne _ _ (by decide), Dev.w_put_ne _ _ (by decide), Dev.w_put_ne _ _ (by decide),
      Dev.w_put_self]
  · rw [Dev.w_put_ne _ _ (by decide), Dev.w_put_ne _ _ (by decide), Dev.w_put_ne _ _ (by decide), Dev.w_put_self]

/-! ### Repair by fuse (R476, R477) -/

/-- With one row logged and no overflow, that row alone is to be repaired. -/
theorem repairEntries_single (h0 : d.bit 0xF410 15 = true) (h : ∀ i, 0 < i → i < 8 → d.bit (0xF410 + i) 15 = false) :
    (List.range 8).filter (fun i => d.bit (0xF410 + i) 15) = [0] := by
  have h' (i : Nat) (hi : 0 < i) (hi' : i < 8) : d.bit (0xF410 + i) 15 = false := h i hi hi'
  simp [List.range_succ, h0, h' 1, h' 2, h' 3, h' 4, h' 5, h' 6, h' 7]

theorem repairGo_refused (h : d.bist.failed = false) : d.repairGo = d.putB 0xF801 15 true := by
  unfold Dev.repairGo
  simp [h]

/-- The fuse of the failing row blows, and RSTAT counts it. -/
theorem repairGo_fuse (hrun : d.bist.run = none) (hf : d.bist.failed = true) (hst : d.lcState = 1) (h0 : d.bit 0xF410 15 = true)
    (hovf : d.bit 0xF410 14 = false) (hone : ∀ i, 0 < i → i < 8 → d.bit (0xF410 + i) 15 = false)
    (hleft : d.spareLeft d.bist.lastTgt (d.fld 0xF410 13 0) = true) :
    d.repairGo.fuses.repairs = d.fuses.repairs ++ [(d.bist.lastTgt, d.fld 0xF410 13 0)] ∧ d.repairGo.fld 0xF801 11 6 = 1 ∧
      d.repairGo.bit 0xF801 15 = false ∧ d.repairGo.motors = d.motors ∧ d.SameWords d.repairGo [0xF801] := by
  have hgo : d.repairGo = (d.put 0xF801 0).repairRow d.bist.lastTgt (d.fld 0xF410 13 0) false := by
    unfold Dev.repairGo
    dsimp only
    rw [d.repairEntries_single h0 hone]
    have hno : (d.bist.run.isSome || !d.bist.failed || [0].any (fun i => d.bit (0xF410 + i) 14) ||
        !(d.lcState = 1 || (d.lcState = 3 && d.bist.lastTgt ≠ 3 && d.logOn))) = false := by
      simp [hrun, hf, hst, hovf]
    rw [if_neg (by rw [hno]; exact Bool.false_ne_true), hst]
    show (d.put 0xF801 0).repairRow d.bist.lastTgt ((d.put 0xF801 0).fld 0xF410 13 0) false = _
    rw [Dev.fld_congr (d.w_put_ne _ (by decide))]
  have hspare : (d.put 0xF801 0).spareLeft d.bist.lastTgt (d.fld 0xF410 13 0) = true := hleft
  have hzero : (d.put 0xF801 0).w 0xF801 = 0 := d.w_put_self _ _
  have hfuses : (d.put 0xF801 0).fuses = d.fuses := d.put_fuses _ _
  have hmotors : (d.put 0xF801 0).motors = d.motors := d.put_motors _ _
  have hsame : d.SameWords (d.put 0xF801 0) [0xF801] := d.sameWords_put _ (by simp)
  rw [hgo]
  generalize d.put 0xF801 0 = e at hspare hzero hfuses hmotors hsame ⊢
  have hcount : (e.addSat 0xF801 11 6 1).w 0xF801 = 0x40 := by
    rw [Dev.addSat, Dev.w_putF, if_pos rfl, Dev.fld, hzero]
    decide
  have hrow : e.repairRow d.bist.lastTgt (d.fld 0xF410 13 0) false =
      { e.addSat 0xF801 11 6 1 with fuses := { e.fuses with repairs := e.fuses.repairs ++ [(d.bist.lastTgt, d.fld 0xF410 13 0)] } } := by
    unfold Dev.repairRow
    rw [hspare]
    rfl
  have hw : (e.repairRow d.bist.lastTgt (d.fld 0xF410 13 0) false).words = (e.addSat 0xF801 11 6 1).words :=
    (congrArg Dev.words hrow :)
  have hw801 := (Dev.w_of_words hw 0xF801).trans hcount
  refine ⟨?_, ?_, ?_, ?_, hsame.trans (fun a ha => (Dev.w_of_words hw a).trans (Dev.sameWords_put e _ (by simp) a ha))⟩
  · rw [hrow, ← hfuses]
  · rw [Dev.fld, hw801]
    decide
  · rw [Dev.bit, hw801]
    decide
  · refine (congrArg Dev.motors hrow :).trans ((e.addSat_motors 0xF801 11 6 1).trans hmotors)

/-! ### Boundary scan (R480, R481) -/

/-- While EXTEST is current no half-bridge is enabled (R481). -/
theorem driveAll_extest (h : d.tap = .extest) (b : BridgeIx) : (d.driveAll.brg b).en = false := by
  have hb : b = bridgeOf (motOfBridge b) (phaseOf b) := Fin.ext (Nat.div_add_mod b.1 3).symm
  have hoff : ((d.driveAll.brg b).cmd) = (false, false) := by
    refine Dev.each_once (I := fun e => e.tap = .extest) (P := fun e => (e.brg b).cmd = (false, false)) _ (List.nodup_finRange 16)
      (List.mem_finRange (motOfBridge b)) d h (fun e m _ he => (e.drives_drive m).tap.trans he) (fun e he => ?_) (fun e m hm he => ?_)
    · have hshow := e.drive_shows (motOfBridge b) (phaseOf b)
      rw [← hb] at hshow
      rw [hshow]
      refine Dev.legOut_off ?_ _
      simp [Dev.mayDrive, he]
    · exact (congrArg Bridge.cmd (Dev.drive_brg_of_ne e (fun heq => hm heq.symm))).trans he
  generalize d.driveAll.brg b = x at hoff ⊢
  exact congrArg Prod.fst hoff

theorem tapLoad_spec (h : d.resetN = true) (i : TapInstr) : (d.tapLoad i).tap = i ∧ (∀ a, (d.tapLoad i).w a = d.w a) ∧
    (i = .extest → ∀ b, ((d.tapLoad i).brg b).en = false) ∧ ∀ m, ((d.tapLoad i).mot m).state = (d.mot m).state := by
  have heq : d.tapLoad i = ({ d with tap := i } : Dev).driveAll := if_pos h
  have hdrives := Dev.drives_driveAll ({ d with tap := i } : Dev)
  rw [heq]
  exact ⟨hdrives.tap, fun a => Dev.w_of_words hdrives.words a, fun hi b => Dev.driveAll_extest _ hi b, fun m => hdrives.mot_state m⟩

theorem loadExtest_spec (h : d.resetN = true) : d.loadExtest.tap = .extest ∧ (∀ g, d.loadExtest.bit (aGrp g 1) 0 = false) ∧
    (∀ b, (d.loadExtest.brg b).en = false) ∧ ∀ m, (d.loadExtest.mot m).state = (d.mot m).state := by
  have heq : d.loadExtest = (d.each (List.finRange 4) Dev.clearRun).tapLoad .extest := if_pos h
  have hreset : (d.each (List.finRange 4) Dev.clearRun).resetN = true :=
    Dev.each_inv (P := fun e => e.resetN = true) _ d h (fun e g he => by
      refine Eq.trans ?_ he
      unfold Dev.clearRun Dev.seqStopped
      split <;> rfl)
  obtain ⟨-, -, hmotors⟩ := Dev.clearRuns_keeps (List.finRange 4) d
  have hrun (g : GroupIx) := Dev.clearRuns_bit (List.finRange 4) d g (.inl (List.mem_finRange g))
  rw [heq]
  generalize d.each (List.finRange 4) Dev.clearRun = e at hreset hmotors hrun ⊢
  obtain ⟨htap, hwords, hoff, hstate⟩ := e.tapLoad_spec hreset .extest
  exact ⟨htap, fun g => (Dev.bit_congr (hwords _) 0).trans (hrun g), hoff rfl,
    fun m => (hstate m).trans (congrArg (fun v : Vector Motor 16 => v[m].state) hmotors)⟩

/-- The scan registers capture; the TAP and the words stand as the instruction's load left them. -/
theorem loadScan_spec (h : d.resetN = true) {c : BitVec 4} (hc : tapOf c ≠ .extest) (pins preload : List (ScanBall × Bool)) :
    (d.loadScan c pins preload).tap = tapOf c ∧ ∀ a, (d.loadScan c pins preload).w a = d.w a := by
  have hcode : d.loadCode c = d.tapLoad (tapOf c) := by
    unfold Dev.loadCode
    split
    next he => exact absurd he hc
    next => rfl
  obtain ⟨htap, hwords, -⟩ := d.tapLoad_spec h (tapOf c)
  unfold Dev.loadScan
  rw [h, Bool.not_true, if_neg Bool.false_ne_true, hcode]
  dsimp only
  split <;> exact ⟨htap, hwords⟩

theorem loadScan_extest (h : d.resetN = true) (pins preload : List (ScanBall × Bool)) : ∃ x,
    d.loadScan 0 pins preload = { d.loadExtest with scan := x } := by
  refine ⟨{ d.loadExtest.scan with boundary := d.captured pins }, ?_⟩
  unfold Dev.loadScan
  rw [h, Bool.not_true, if_neg Bool.false_ne_true]
  rfl

end Dev

/-- Settles O56: each command of the test, the repair and the TAP does what its operation does under the premises. -/
theorem testsAndScan : Obligations.TestsAndScan := by
  intro s
  refine ⟨fun k v hw => ?_, fun t hr ht => ?_, fun k v hw => ?_, fun hreset => ?_⟩
  · have htgt (c : Nat) : bits (withBits v 15 14 c) 3 0 = bits v 3 0 :=
      bits_withBits_ne v 15 14 c 3 0 (by decide) (by decide) (by decide) (by decide)
    have hgo : s.dev.fabWrite k 0xF400 (withBits v 15 14 2) = s.dev.bistGo (withBits v 15 14 2) := by
      rw [Dev.fabWrite_bcmd _ _ _ hw, bitOf_withBits _ _ _ _ _ (by decide) (by decide) (by decide),
        bitOf_withBits _ _ _ _ _ (by decide) (by decide) (by decide)]
      rfl
    refine ⟨fun hmay => ?_, fun hmay => ?_, fun t ht => ?_⟩
    · rw [← htgt 2] at hmay ⊢
      exact ⟨_, State.write_eq hgo, s.dev.bistGo_starts hmay⟩
    · rw [← htgt 2] at hmay
      exact ⟨_, State.write_eq hgo, s.dev.bistGo_refused hmay⟩
    · have hstop : (s.dev.when (s.dev.writeOk k 0xF400) (fun d => d.bistFound [])).fabWrite k 0xF400 (withBits v 15 14 1) =
          s.dev.bistEnd 4 := by
        rw [Dev.when, hw, if_pos rfl, Dev.bistFound_nil, Dev.fabWrite_bcmd _ _ _ hw,
          bitOf_withBits _ _ _ _ _ (by decide) (by decide) (by decide), ht]
        rfl
      obtain ⟨hrun, -, hbusy, hcause, -⟩ := s.dev.bistEnd_spec ht 4
      exact ⟨_, State.onDev_eq (f := fun d => (d.when (d.writeOk k 0xF400) (fun d => d.bistFound [])).fabWrite k 0xF400
        (withBits v 15 14 1)) hstop, hrun, hbusy, hcause 2 (by decide)⟩
  · have hdone (fails : List BistFail) (c : Word) (h : s.dev.bistDone fails = (s.dev.bistLog fails).bistEnd c) :
        exec (.bistComplete fails) s = .next { s with dev := (s.dev.bistLog fails).bistEnd c } :=
      State.onCore_eq (f := fun d => if true then d.bistDone fails else d.bistFound fails) hr h
    obtain ⟨hrun, hfailed, hbusy, hcause, -⟩ := s.dev.bistEnd_spec ht 1
    obtain ⟨hrun3, hfailed3, hbusy3, hcause3, -⟩ := s.dev.bistEnd_spec ht 3
    refine ⟨fun hz => ?_, fun hnz => ?_, fun f hz hfit => ?_⟩
    · exact ⟨_, hdone [] 1 ((Dev.bistDone_eq _ hr ht (Dev.marchOk_nil _ t)).trans (by rw [hz]; rfl)), hrun, hfailed, hbusy, hcause 0 (by decide)⟩
    · refine ⟨_, hdone [] 3 ((Dev.bistDone_eq _ hr ht (Dev.marchOk_nil _ t)).trans ?_), hrun3, hfailed3, hbusy3, hcause3 1 (by decide)⟩
      refine congrArg _ (if_neg (fun hc => hnz ?_))
      exact of_decide_eq_true (Bool.and_eq_true_iff.1 hc).2
    · obtain ⟨hbist, hcount, hindex⟩ := s.dev.bistLog_single f
      obtain ⟨hrunf, hfailedf, -, hcausef, hkept⟩ := (s.dev.bistLog [f]).bistEnd_spec (by rw [hbist]; exact ht) 3
      exact ⟨_, hdone [f] 3 (Dev.bistDone_eq _ hr ht (s.dev.marchOk_single hfit)), hrunf, hfailedf, hcausef 1 (by decide),
        (hkept _ (by decide)).trans hcount, (hkept _ (by decide)).trans hindex⟩
  · have hgo : s.dev.fabWrite k 0xF800 (withBit v 15 true) = s.dev.repairGo := by
      rw [Dev.fabWrite_rcmd _ _ _ hw, bitOf_withBit _ _ _ _ (by decide) (by decide)]
      rfl
    refine ⟨fun hrun hf hst h0 hovf hone hleft => ?_, fun hf => State.write_eq (hgo.trans (s.dev.repairGo_refused hf))⟩
    exact ⟨_, State.write_eq hgo, s.dev.repairGo_fuse hrun hf hst h0 hovf hone hleft⟩
  · have hload (c : BitVec 4) (hc : tapOf c ≠ .extest) := s.dev.loadScan_spec hreset hc [] []
    obtain ⟨htap, hrun, hoff, hstate⟩ := s.dev.loadExtest_spec hreset
    obtain ⟨x, hx⟩ := s.dev.loadScan_extest hreset [] []
    refine ⟨⟨_, State.onDev_eq (f := fun d => d.loadScan 2 [] []) rfl, hload 2 (by decide)⟩,
      ⟨_, State.onDev_eq (f := fun d => d.loadScan 2 [] []) rfl, hload 2 (by decide)⟩,
      ⟨_, State.onDev_eq (f := fun d => d.loadScan 1 [] []) rfl, hload 1 (by decide)⟩,
      ⟨_, State.onDev_eq (f := fun d => if tapOf 0xF = .bypass then d.loadScan 0xF [] [] else d) (if_pos rfl), hload 0xF (by decide)⟩,
      ⟨_, State.onDev_eq (f := fun d => d.loadScan 0 [] []) hx, htap, hrun, hoff, hstate⟩⟩

end Sys2Proof.Machine
end

section
/-! What the work of one trace channel leaves alone (R277 to R288, R295, R296). -/

namespace Sys2Proof.Machine

open Sys2Proof

/-! ### The frame of a channel -/

/-- From d to e nothing has changed but the values of channel t, its LAST and STAT words, the alarm causes, which only set, the
counters of the store and the records that wait, which only grow. -/
structure Dev.TraceStep (t : TraceIx) (d e : Dev) : Prop where
  motors : e.motors = d.motors
  part : e.part = d.part
  ticks : e.ticks = d.ticks
  tickAt : e.tickAt = d.tickAt
  bist : e.bist = d.bist
  words : ∀ a, a ≠ aTr t 6 → a ≠ aTr t 7 → ¬ (0xB488 ≤ a ∧ a < 0xB498) → e.w a = d.w a
  causes : ∀ a i, 0xB490 ≤ a → a < 0xB498 → d.bit a i = true → e.bit a i = true
  others : ∀ u, u ≠ t → e.trc u = d.trc u
  recq : d.noStore = false → ∃ post, e.recq = d.recq ++ post

namespace Dev

theorem aTr_range (t : TraceIx) {o : Nat} (h : o < 8) : 0xB000 ≤ aTr t o ∧ aTr t o < 0xB400 := by
  unfold aTr
  omega

theorem aTr_injective {t u : TraceIx} {o p : Nat} (ho : o < 8) (hp : p < 8) (h : aTr t o = aTr u p) : t = u ∧ o = p := by
  unfold aTr at h
  exact ⟨Fin.ext (by omega), by omega⟩

/-- Whether the store takes records does not depend on what a channel changes. -/
theorem noStore_congr {d e : Dev} (hb : e.bist = d.bist) (h801 : e.w 0x801 = d.w 0x801) (h499 : e.w 0xB499 = d.w 0xB499) :
    e.noStore = d.noStore := by
  unfold Dev.noStore Dev.logOn Dev.domOn Dev.bit
  rw [hb, h801, h499]

namespace TraceStep

variable {t : TraceIx}

theorem word {d e : Dev} (h : d.TraceStep t e) {a : Nat} (ha : a < 0xB000 ∨ 0xB400 ≤ a) (hs : ¬ (0xB488 ≤ a ∧ a < 0xB498)) :
    e.w a = d.w a :=
  h.words a (by have := Dev.aTr_range t (o := 6) (by decide); omega) (by have := Dev.aTr_range t (o := 7) (by decide); omega) hs

theorem cfg {d e : Dev} (h : d.TraceStep t e) {o : Nat} (ho : o < 6) (u : TraceIx) : e.w (aTr u o) = d.w (aTr u o) := by
  have := Dev.aTr_range u (o := o) (by omega)
  refine h.words _ (fun he => ?_) (fun he => ?_) (by omega)
  · obtain ⟨-, h6⟩ := Dev.aTr_injective (by omega) (by decide) he
    omega
  · obtain ⟨-, h7⟩ := Dev.aTr_injective (by omega) (by decide) he
    omega

theorem noStore {d e : Dev} (h : d.TraceStep t e) : e.noStore = d.noStore :=
  Dev.noStore_congr h.bist (h.word (.inl (by decide)) (by decide)) (h.word (.inr (by decide)) (by decide))

theorem refl (t : TraceIx) (d : Dev) : d.TraceStep t d :=
  ⟨rfl, rfl, rfl, rfl, rfl, fun _ _ _ _ => rfl, fun _ _ _ _ h => h, fun _ _ => rfl, fun _ => ⟨[], (List.append_nil _).symm⟩⟩

theorem trans {c d e : Dev} (h : c.TraceStep t d) (h' : d.TraceStep t e) : c.TraceStep t e := by
  refine ⟨h'.motors.trans h.motors, h'.part.trans h.part, h'.ticks.trans h.ticks, h'.tickAt.trans h.tickAt, h'.bist.trans h.bist,
    fun a h6 h7 hs => (h'.words a h6 h7 hs).trans (h.words a h6 h7 hs), fun a i ha ha' hb => h'.causes a i ha ha' (h.causes a i ha ha' hb),
    fun u hu => (h'.others u hu).trans (h.others u hu), fun hn => ?_⟩
  obtain ⟨p, hp⟩ := h.recq hn
  obtain ⟨q, hq⟩ := h'.recq (h.noStore.trans hn)
  exact ⟨p ++ q, by rw [hq, hp, List.append_assoc]⟩

/-- A change that keeps the words, and of the traces changes channel t alone. -/
theorem of_same {d e : Dev} (hm : e.motors = d.motors) (hp : e.part = d.part) (ht : e.ticks = d.ticks) (ha : e.tickAt = d.tickAt)
    (hb : e.bist = d.bist) (hw : e.words = d.words) (ho : ∀ u, u ≠ t → e.trc u = d.trc u) (hr : e.recq = d.recq) :
    d.TraceStep t e :=
  ⟨hm, hp, ht, ha, hb, fun a _ _ _ => Dev.w_of_words hw a, fun a i _ _ h => (Dev.bit_congr (Dev.w_of_words hw a) i).trans h, ho,
    fun _ => ⟨[], by rw [hr, List.append_nil]⟩⟩

end TraceStep

variable (d : Dev) (t : TraceIx)

theorem traceStep_put {a : Nat} (v : Word) (h : a = aTr t 6 ∨ a = aTr t 7) : d.TraceStep t (d.put a v) := by
  have hr := Dev.aTr_range t (o := 6) (by decide)
  have hr' := Dev.aTr_range t (o := 7) (by decide)
  refine ⟨rfl, rfl, rfl, rfl, rfl, fun b h6 h7 _ => d.w_put_ne v (by rcases h with rfl | rfl <;> assumption), fun b i _ _ hb => ?_,
    fun _ _ => rfl, fun _ => ⟨[], (List.append_nil _).symm⟩⟩
  exact (Dev.bit_congr (d.w_put_ne v (by omega)) i).trans hb

theorem traceStep_onTrc (f : Trace → Trace) : d.TraceStep t (d.onTrc t f) :=
  .of_same rfl rfl rfl rfl rfl rfl (fun _ hu => d.onTrc_trc_ne f hu) rfl

theorem traceStep_enforce (lo hi : Nat) : d.TraceStep t (d.enforce lo hi) :=
  .of_same rfl rfl rfl rfl rfl rfl (fun _ _ => rfl) rfl

theorem traces_trc {d e : Dev} (h : e.traces = d.traces) (u : TraceIx) : e.trc u = d.trc u := by
  unfold Dev.trc
  rw [h]

theorem traceStep_alarmEvent : d.TraceStep t (d.alarmEvent t) := by
  unfold Dev.alarmEvent
  have hkeeps : (d.cause (0xB490 + t.1 / 16) (1#16 <<< (t.1 % 16)) (40 + t.1 / 16)).motors = d.motors ∧
      (d.cause (0xB490 + t.1 / 16) (1#16 <<< (t.1 % 16)) (40 + t.1 / 16)).part = d.part ∧
      (d.cause (0xB490 + t.1 / 16) (1#16 <<< (t.1 % 16)) (40 + t.1 / 16)).ticks = d.ticks ∧
      (d.cause (0xB490 + t.1 / 16) (1#16 <<< (t.1 % 16)) (40 + t.1 / 16)).tickAt = d.tickAt ∧
      (d.cause (0xB490 + t.1 / 16) (1#16 <<< (t.1 % 16)) (40 + t.1 / 16)).bist = d.bist ∧
      (d.cause (0xB490 + t.1 / 16) (1#16 <<< (t.1 % 16)) (40 + t.1 / 16)).traces = d.traces ∧
      (d.cause (0xB490 + t.1 / 16) (1#16 <<< (t.1 % 16)) (40 + t.1 / 16)).recq = d.recq := by simp [Dev.cause]
  obtain ⟨hm, hp, ht, ha, hb, htr, hr⟩ := hkeeps
  refine ⟨hm, hp, ht, ha, hb, fun b _ _ hs => d.cause_w_ne _ _ (by omega), fun b i _ _ h => ?_, fun u _ => Dev.traces_trc htr u,
    fun _ => ⟨[], by rw [hr, List.append_nil]⟩⟩
  rw [Dev.bit_cause, h]
  rfl

/-! ### Records (R288, R290 to R292) -/

/-- A record is made: the channels, and the words outside the counters of the store, stand as they did. -/
structure RecordMade (d e : Dev) (r : Rec) : Prop where
  step : ∀ u, d.TraceStep u e
  trc : ∀ u, e.trc u = d.trc u
  words : ∀ a, a < 0xB488 → e.w a = d.w a
  made : d.noStore = false → e.recq = d.recq ++ [r]

theorem makeRec_spec (r : Rec) : d.RecordMade (d.makeRec r) r := by
  unfold Dev.makeRec
  split
  next hn =>
    obtain ⟨l, u, hmirror⟩ := d.discarded.mirrorBooks_eq
    have heq : d.discardRec = d.discarded.mirrorBooks := rfl
    rw [heq, hmirror]
    have hw (a : Nat) (ha : ¬ (0xB488 ≤ a ∧ a < 0xB490)) : d.discarded.w a = d.w a := by
      unfold Dev.discarded Dev.book
      rw [Dev.w_put32, if_neg (by omega), if_neg (by omega), Dev.w_put32, if_neg (by omega), if_neg (by omega)]
    have hkeeps : d.discarded.motors = d.motors ∧ d.discarded.part = d.part ∧ d.discarded.ticks = d.ticks ∧
        d.discarded.tickAt = d.tickAt ∧ d.discarded.bist = d.bist ∧ d.discarded.traces = d.traces := by
      simp [Dev.discarded, Dev.book]
    generalize d.discarded = x at hw hkeeps ⊢
    obtain ⟨hm, hp, ht, ha, hb, htr⟩ := hkeeps
    have hno {P : Prop} (h : d.noStore = false) : P := by
      rw [hn] at h
      exact Bool.noConfusion h
    exact ⟨fun u => ⟨hm, hp, ht, ha, hb, fun a _ _ hs => hw a (by omega),
        fun a i h1 h2 h => (Dev.bit_congr (hw a (by omega)) i).trans h, fun u _ => Dev.traces_trc htr u, hno⟩,
      fun u => Dev.traces_trc htr u, fun a ha => hw a (by omega), hno⟩
  · exact ⟨fun u => ⟨rfl, rfl, rfl, rfl, rfl, fun _ _ _ _ => rfl, fun _ _ _ _ h => h, fun _ _ => rfl, fun _ => ⟨[r], rfl⟩⟩,
      fun _ => rfl, fun _ _ => rfl, fun _ => rfl⟩

/-! ### The compressor's part of the frame: STAT's alarm bits and LAST stay -/

/-- A step of channel t that leaves LAST and bits 15 to 13 of STAT. -/
structure Quiet (t : TraceIx) (d e : Dev) : Prop where
  step : d.TraceStep t e
  last : e.w (aTr t 6) = d.w (aTr t 6)
  flags : ∀ i, 13 ≤ i → i < 16 → e.bit (aTr t 7) i = d.bit (aTr t 7) i

namespace Quiet

variable {t : TraceIx}

theorem trans {c d e : Dev} (h : c.Quiet t d) (h' : d.Quiet t e) : c.Quiet t e :=
  ⟨h.step.trans h'.step, h'.last.trans h.last, fun i h1 h2 => (h'.flags i h1 h2).trans (h.flags i h1 h2)⟩

theorem of_words {d e : Dev} (h : d.TraceStep t e) (hw : e.words = d.words) : d.Quiet t e :=
  ⟨h, Dev.w_of_words hw _, fun i _ _ => Dev.bit_congr (Dev.w_of_words hw _) i⟩

theorem refl (t : TraceIx) (d : Dev) : d.Quiet t d := .of_words (.refl t d) rfl

end Quiet

theorem quiet_onTrc (f : Trace → Trace) : d.Quiet t (d.onTrc t f) := .of_words (d.traceStep_onTrc t f) rfl

theorem aTr_last_ne_stat : aTr t 6 ≠ aTr t 7 := by
  unfold aTr
  omega

theorem quiet_putF (v : Nat) : d.Quiet t (d.putF (aTr t 7) 6 0 v) := by
  refine ⟨d.traceStep_put t _ (.inr rfl), d.w_put_ne _ (Dev.aTr_last_ne_stat t), fun i h1 h2 => ?_⟩
  unfold Dev.bit
  rw [Dev.w_putF, if_pos rfl, bitOf_withBits _ 6 0 _ i (by decide) (by decide) h2, if_neg (by omega)]

theorem quiet_open (b : Bool) : d.Quiet t (d.putB (aTr t 7) 12 b) :=
  ⟨d.traceStep_put t _ (.inr rfl), d.w_put_ne _ (Dev.aTr_last_ne_stat t),
    fun i h1 h2 => d.bit_putB_ne (aTr t 7) b (by decide) h2 (by omega)⟩

theorem quiet_makeRec (r : Rec) : d.Quiet t (d.makeRec r) := by
  have h := d.makeRec_spec r
  have h6 := Dev.aTr_range t (o := 6) (by decide)
  have h7 := Dev.aTr_range t (o := 7) (by decide)
  exact ⟨h.step t, h.words _ (by omega), fun i _ _ => Dev.bit_congr (h.words _ (by omega)) i⟩

/-! ### The pieces of the compressor -/

/-- A segment closes with its record (R288). -/
theorem writeSeg_spec (g : Seg) : d.Quiet t (d.writeSeg t g) ∧ (d.writeSeg t g).trc t = d.trc t ∧
    (d.noStore = false → (d.writeSeg t g).recq = d.recq ++ [d.segRec t g]) ∧ (d.writeSeg t g).w32 0xB483 = d.w32 0xB483 := by
  have hput := d.quiet_putF t ((d.fld (aTr t 7) 6 0 + 1) % 128)
  have hstore := hput.step.noStore
  have htick := hput.step.word (a := 0xB483) (.inr (by decide)) (by decide)
  have htick' := hput.step.word (a := 0xB484) (.inr (by decide)) (by decide)
  have hrec := (d.putF (aTr t 7) 6 0 ((d.fld (aTr t 7) 6 0 + 1) % 128)).makeRec_spec (d.segRec t g)
  have hquiet := (d.putF (aTr t 7) 6 0 ((d.fld (aTr t 7) 6 0 + 1) % 128)).quiet_makeRec t (d.segRec t g)
  have hq : (d.putF (aTr t 7) 6 0 ((d.fld (aTr t 7) 6 0 + 1) % 128)).recq = d.recq := Dev.putF_recq _ _ _ _ _
  have htrc := d.putF_trc (aTr t 7) 6 0 ((d.fld (aTr t 7) 6 0 + 1) % 128) t
  have heq : d.writeSeg t g = (d.putF (aTr t 7) 6 0 ((d.fld (aTr t 7) 6 0 + 1) % 128)).makeRec (d.segRec t g) := rfl
  rw [heq]
  generalize d.putF (aTr t 7) 6 0 ((d.fld (aTr t 7) 6 0 + 1) % 128) = x at *
  refine ⟨hput.trans hquiet, (hrec.trc t).trans htrc, fun hn => (hrec.made (hstore.trans hn)).trans (by rw [hq]), ?_⟩
  unfold Dev.w32
  rw [hrec.words _ (by decide), hrec.words _ (by decide), htick, htick']

/-- Only a segment with a candidate leaves a record. -/
theorem flushSeg_spec : d.Quiet t (d.flushSeg t) ∧ (d.flushSeg t).trc t = d.trc t ∧
    (d.noStore = false → ∀ g, (d.trc t).seg = some g → 0 < g.c → (d.flushSeg t).recq = d.recq ++ [d.segRec t g]) := by
  unfold Dev.flushSeg
  split
  next g hg =>
    obtain ⟨hq, htrc, hrec, -⟩ := d.writeSeg_spec t g
    split
    · exact ⟨hq, htrc, fun hn g' hg' _ => by rw [← Option.some.inj (hg.symm.trans hg')]; exact hrec hn⟩
    next hc => exact ⟨.refl t d, rfl, fun _ g' hg' hc' => absurd hc' (by rw [← Option.some.inj (hg.symm.trans hg')]; exact hc)⟩
  next hg => exact ⟨.refl t d, rfl, fun _ g' hg' => absurd (hg.symm.trans hg') (by simp)⟩

theorem setSeg_spec (s : Option Seg) : d.Quiet t (d.setSeg t s) ∧ (d.setSeg t s).trc t = { d.trc t with seg := s } ∧
    (d.setSeg t s).recq = d.recq ∧ (d.setSeg t s).w32 0xB483 = d.w32 0xB483 := by
  have hopen := d.quiet_open t s.isSome
  have htick := hopen.step.word (a := 0xB483) (.inr (by decide)) (by decide)
  have htick' := hopen.step.word (a := 0xB484) (.inr (by decide)) (by decide)
  have htrc := d.putB_trc (aTr t 7) 12 s.isSome t
  have hq : (d.putB (aTr t 7) 12 s.isSome).recq = d.recq := Dev.putB_recq _ _ _ _
  unfold Dev.setSeg
  generalize d.putB (aTr t 7) 12 s.isSome = x at *
  refine ⟨hopen.trans (x.quiet_onTrc t _), ?_, hq, ?_⟩
  · rw [Dev.onTrc_trc, htrc]
  · show x.w32 0xB483 = d.w32 0xB483
    unfold Dev.w32
    rw [htick, htick']

/-- The anchor's record, and the channel with nothing pending (R284, R288). -/
theorem writeAnchor_spec (rsn : Nat) (y : Int) (tick : BitVec 32) : d.Quiet t (d.writeAnchor t rsn y tick) ∧
    (d.writeAnchor t rsn y tick).trc t = { d.trc t with pend := 0, anchAt := d.ticks } ∧
    (d.noStore = false → (d.writeAnchor t rsn y tick).recq = d.recq ++
      [⟨word (0x8000 + t.1 * 128 + rsn * 16 + d.fld 0x52 3 0), iword y, lo16 tick, hi16 tick⟩]) := by
  have hput := d.quiet_putF t 0
  have hq : (d.putF (aTr t 7) 6 0 0).recq = d.recq := Dev.putF_recq _ _ _ _ _
  have htrc := d.putF_trc (aTr t 7) 6 0 0 t
  have hses : (d.putF (aTr t 7) 6 0 0).fld 0x52 3 0 = d.fld 0x52 3 0 :=
    Dev.fld_congr (hput.step.word (.inl (by decide)) (by decide)) 3 0
  unfold Dev.writeAnchor
  dsimp only
  generalize d.putF (aTr t 7) 6 0 0 = x at *
  have hon := x.quiet_onTrc t (fun y => { y with pend := 0, anchAt := d.ticks })
  have htrc' : (x.onTrc t (fun y => { y with pend := 0, anchAt := d.ticks })).trc t = { x.trc t with pend := 0, anchAt := d.ticks } :=
    Dev.onTrc_trc _ _ _
  have hq' : (x.onTrc t (fun y => { y with pend := 0, anchAt := d.ticks })).recq = x.recq := rfl
  have hses' : (x.onTrc t (fun y => { y with pend := 0, anchAt := d.ticks })).fld 0x52 3 0 = x.fld 0x52 3 0 := rfl
  generalize x.onTrc t (fun y => { y with pend := 0, anchAt := d.ticks }) = z at *
  rw [hses', hses]
  have hrec := z.makeRec_spec ⟨word (0x8000 + t.1 * 128 + rsn * 16 + d.fld 0x52 3 0), iword y, lo16 tick, hi16 tick⟩
  refine ⟨(hput.trans hon).trans (z.quiet_makeRec t _), ?_, fun hn => ?_⟩
  · rw [hrec.trc, htrc', htrc]
  · rw [hrec.made (hon.step.noStore.trans (hput.step.noStore.trans hn)), hq', hq]

end Dev

end Sys2Proof.Machine
end

section
/-! The alarms and the compressor of a trace channel at one sample (R281 to R288, R295, R296). -/

namespace Sys2Proof.Machine

open Sys2Proof

namespace Dev

variable (d : Dev) (t : TraceIx)

/-! ### One alarm (R295, R296) -/

/-- What one alarm at bit i leaves alone: the channel, LAST, the values in force, the rest of STAT and its sequence number. -/
structure AlarmOnly (t : TraceIx) (i : Nat) (d e : Dev) : Prop where
  step : d.TraceStep t e
  trc : e.trc t = d.trc t
  last : e.w (aTr t 6) = d.w (aTr t 6)
  flags : ∀ j, j < 16 → j ≠ i → e.bit (aTr t 7) j = d.bit (aTr t 7) j
  seq : e.fld (aTr t 7) 6 0 = d.fld (aTr t 7) 6 0
  force : e.inForce = d.inForce
  recq : e.recq = d.recq

theorem bits_withBit_ne (w : Word) {i : Nat} (b : Bool) (hi : i < 16) {hi' lo' : Nat} (h : hi' < i ∨ i < lo') (h' : hi' < 16) :
    bits (withBit w i b) hi' lo' = bits w hi' lo' := by
  apply Nat.eq_of_testBit_eq
  intro j
  unfold bits
  rw [Nat.testBit_mod_two_pow, Nat.testBit_mod_two_pow, Nat.testBit_shiftRight, Nat.testBit_shiftRight]
  by_cases hj : j < hi' + 1 - lo'
  · have hbit := bitOf_withBit w i (lo' + j) b hi (by omega)
    rw [if_neg (by omega)] at hbit
    unfold bitOf at hbit
    rw [BitVec.testBit_toNat, BitVec.testBit_toNat, hbit]
  · simp [hj]

theorem alarmOnly_putB {i : Nat} (b : Bool) (h : i < 16) (h7 : 6 < i) : AlarmOnly t i d (d.putB (aTr t 7) i b) := by
  refine ⟨d.traceStep_put t _ (.inr rfl), d.putB_trc _ _ _ t, d.w_put_ne _ (Dev.aTr_last_ne_stat t),
    fun j hj hne => d.bit_putB_ne (aTr t 7) b h hj hne, ?_, rfl, rfl⟩
  unfold Dev.fld
  rw [Dev.w_putB, if_pos rfl, Dev.bits_withBit_ne _ b h (.inl h7) (by decide)]

theorem alarmOnly_event (i : Nat) : AlarmOnly t i d (d.alarmEvent t) := by
  have h6 := Dev.aTr_range t (o := 6) (by decide)
  have h7 := Dev.aTr_range t (o := 7) (by decide)
  have hw (a : Nat) (ha : a < 0xB400) : (d.alarmEvent t).w a = d.w a := d.cause_w_ne _ _ (by omega)
  have hkeeps : (d.alarmEvent t).traces = d.traces ∧ (d.alarmEvent t).inForce = d.inForce ∧ (d.alarmEvent t).recq = d.recq := by
    simp [Dev.alarmEvent, Dev.cause]
  exact ⟨d.traceStep_alarmEvent t, Dev.traces_trc hkeeps.1 t, hw _ h6.2, fun j _ _ => Dev.bit_congr (hw _ h7.2) j,
    Dev.fld_congr (hw _ h7.2) 6 0, hkeeps.2.1, hkeeps.2.2⟩

theorem AlarmOnly.trans {t : TraceIx} {i : Nat} {c d e : Dev} (h : AlarmOnly t i c d) (h' : AlarmOnly t i d e) :
    AlarmOnly t i c e :=
  ⟨h.step.trans h'.step, h'.trc.trans h.trc, h'.last.trans h.last, fun j hj hne => (h'.flags j hj hne).trans (h.flags j hj hne),
    h'.seq.trans h.seq, h'.force.trans h.force, h'.recq.trans h.recq⟩

theorem AlarmOnly.refl (t : TraceIx) (i : Nat) (d : Dev) : AlarmOnly t i d d :=
  ⟨.refl t d, rfl, rfl, fun _ _ _ => rfl, rfl, rfl, rfl⟩

/-- One alarm, enabled or not, with its count. -/
def alarmTurn (i n : Nat) (rise fall : Bool) : Dev × Nat :=
  if d.ibit (aTr t 5) i then d.alarm t i n rise fall else (d.putB (aTr t 7) i false, 0)

theorem alarmEvent_cause : (d.alarmEvent t).bit (0xB490 + t.1 / 16) (t.1 % 16) = true := by
  have hmask : ∀ t : TraceIx, (1#16 <<< (t.1 % 16)).getLsbD (t.1 % 16) = true := by decide
  unfold Dev.alarmEvent
  rw [Dev.bit_cause, hmask t, decide_eq_true rfl]
  exact Bool.or_true _

/-- The rule of an alarm whose enable, dwell and release event in force are those written (R295, R296). -/
theorem alarmTurn_spec {i : Nat} (hi : i < 16) (h7 : 6 < i) (n : Nat) (rise fall : Bool)
    (hforce : ∀ o, o < 6 → d.iw (aTr t o) = d.w (aTr t o)) :
    AlarmOnly t i d (d.alarmTurn t i n rise fall).1 ∧
      d.AlarmStep (d.alarmTurn t i n rise fall).1 t i n (d.alarmTurn t i n rise fall).2 rise fall := by
  have hen : d.ibit (aTr t 5) i = d.bit (aTr t 5) i := by unfold Dev.ibit Dev.bit; rw [hforce 5 (by decide)]
  have hrel : d.ibit (aTr t 1) 8 = d.bit (aTr t 1) 8 := by unfold Dev.ibit Dev.bit; rw [hforce 1 (by decide)]
  have hdw : d.ifld (aTr t 5) 13 8 = d.fld (aTr t 5) 13 8 := by unfold Dev.ifld Dev.fld; rw [hforce 5 (by decide)]
  unfold Dev.alarmTurn Dev.AlarmStep
  rw [hen]
  cases hon : d.bit (aTr t 5) i with
  | false =>
    refine ⟨d.alarmOnly_putB t false hi h7, fun _ => ⟨d.bit_putB_self (aTr t 7) i false hi, rfl⟩, fun h => ?_⟩
    exact absurd h (by simp)
  | true =>
    have hput := d.alarmOnly_putB t (!d.bit (aTr t 7) i) hi h7
    have hself := d.bit_putB_self (aTr t 7) i (!d.bit (aTr t 7) i) hi
    have hrel' : (d.putB (aTr t 7) i (!d.bit (aTr t 7) i)).ibit (aTr t 1) 8 = d.bit (aTr t 1) 8 := hrel
    have hstep : d.alarm t i n rise fall = (if (alarmStep (max 1 (d.fld (aTr t 5) 13 8)) n
          (if d.bit (aTr t 7) i then fall else rise)).2 then
        (if !d.bit (aTr t 7) i || d.bit (aTr t 1) 8 then (d.putB (aTr t 7) i (!d.bit (aTr t 7) i)).alarmEvent t
          else d.putB (aTr t 7) i (!d.bit (aTr t 7) i)) else d,
        (alarmStep (max 1 (d.fld (aTr t 5) 13 8)) n (if d.bit (aTr t 7) i then fall else rise)).1) := by
      unfold Dev.alarm
      dsimp only
      rw [hdw]
      cases (alarmStep (max 1 (d.fld (aTr t 5) 13 8)) n (if d.bit (aTr t 7) i then fall else rise)).2
      · rfl
      · simp only [if_true, Bool.true_and, hrel']
    rw [if_pos rfl, hstep]
    dsimp only
    generalize d.putB (aTr t 7) i (!d.bit (aTr t 7) i) = x at hput hself hrel' ⊢
    have hev := x.alarmOnly_event t i
    have hcause := x.alarmEvent_cause t
    have hbit : (x.alarmEvent t).bit (aTr t 7) i = x.bit (aTr t 7) i := by
      have := Dev.aTr_range t (o := 7) (by decide)
      exact Dev.bit_congr (x.cause_w_ne _ _ (by omega)) i
    generalize (if d.bit (aTr t 7) i = true then fall else rise) = meets
    unfold alarmStep
    cases meets with
    | false => exact ⟨.refl t i d, fun h => absurd h (by simp), fun _ => ⟨fun _ => ⟨rfl, rfl⟩, fun h => absurd h (by simp), fun h => absurd h (by simp)⟩⟩
    | true =>
      by_cases hdwell : max 1 (d.fld (aTr t 5) 13 8) ≤ n + 1
      · simp only [if_true, if_pos hdwell]
        refine ⟨?_, fun h => absurd h (by simp), fun _ => ⟨fun h => absurd h (by simp), fun _ hlt => absurd hdwell (by omega), fun _ _ => ?_⟩⟩
        · split
          · exact hput.trans hev
          · exact hput
        · split
          · exact ⟨hbit.trans hself, trivial, fun _ => hcause⟩
          next hno => exact ⟨hself, trivial, fun h => absurd (by rcases h with h | h <;> rw [h] <;> simp) hno⟩
      · simp only [if_true, if_neg hdwell]
        exact ⟨.refl t i d, fun h => absurd h (by simp), fun _ => ⟨fun h => absurd h (by simp), fun _ _ => ⟨rfl, trivial⟩, fun _ h => absurd h hdwell⟩⟩

/-- A later state that shows the alarm's bit and keeps its cause shows the same step. -/
theorem AlarmStep.of_bits {d e f : Dev} {t : TraceIx} {i n n' : Nat} {rise fall : Bool} (h : d.AlarmStep e t i n n' rise fall)
    (hb : f.bit (aTr t 7) i = e.bit (aTr t 7) i)
    (hc : e.bit (0xB490 + t.1 / 16) (t.1 % 16) = true → f.bit (0xB490 + t.1 / 16) (t.1 % 16) = true) :
    d.AlarmStep f t i n n' rise fall := by
  unfold Dev.AlarmStep at h ⊢
  dsimp only at h ⊢
  rw [hb]
  obtain ⟨hoff, hon⟩ := h
  refine ⟨hoff, fun he => ?_⟩
  obtain ⟨h1, h2, h3⟩ := hon he
  refine ⟨h1, h2, fun hm hd => ?_⟩
  obtain ⟨hbit, hn, hcause⟩ := h3 hm hd
  exact ⟨hbit, hn, fun hw => hc (hcause hw)⟩

/-- The step begins from any state that shows the same bit under the same configuration. -/
theorem AlarmStep.of_start {c d e : Dev} {t : TraceIx} {i n n' : Nat} {rise fall : Bool} (h : d.AlarmStep e t i n n' rise fall)
    (hb : d.bit (aTr t 7) i = c.bit (aTr t 7) i) (h5 : d.w (aTr t 5) = c.w (aTr t 5)) (h1 : d.w (aTr t 1) = c.w (aTr t 1)) :
    c.AlarmStep e t i n n' rise fall := by
  unfold Dev.AlarmStep at h ⊢
  rw [hb, Dev.fld_congr h5, Dev.bit_congr h5, Dev.bit_congr h1] at h
  exact h

/-! ### Both alarms at a sample -/

/-- What the alarms leave for the compressor. -/
structure AlarmsDone (t : TraceIx) (d e : Dev) : Prop where
  step : d.TraceStep t e
  last : e.w (aTr t 6) = d.w (aTr t 6)
  absentFlag : e.bit (aTr t 7) 13 = d.bit (aTr t 7) 13
  seq : e.fld (aTr t 7) 6 0 = d.fld (aTr t 7) 6 0
  recq : e.recq = d.recq
  trc : e.trc t = { d.trc t with hiCnt := (e.trc t).hiCnt, loCnt := (e.trc t).loCnt }

theorem AlarmsDone.of_turns {t : TraceIx} {d x y : Dev} {hc lc : Nat} (h : AlarmOnly t 15 d x) (h' : AlarmOnly t 14 x y) :
    AlarmsDone t d (y.onTrc t (fun z => { z with hiCnt := hc, loCnt := lc })) := by
  have htrc : (y.onTrc t (fun z => { z with hiCnt := hc, loCnt := lc })).trc t = { d.trc t with hiCnt := hc, loCnt := lc } := by
    rw [Dev.onTrc_trc, h'.trc, h.trc]
  exact ⟨(h.step.trans h'.step).trans (y.traceStep_onTrc t _), h'.last.trans h.last,
    (h'.flags 13 (by decide) (by decide)).trans (h.flags 13 (by decide) (by decide)), h'.seq.trans h.seq, h'.recq.trans h.recq,
    by rw [htrc]⟩

theorem alarms_none : AlarmsDone t d (d.alarms t none) ∧ ((d.alarms t none).trc t).hiCnt = 0 ∧
    ((d.alarms t none).trc t).loCnt = 0 := by
  have hturn (e : Dev) (i : Nat) (hi : i < 16) (h7 : 6 < i) :
      AlarmOnly t i e (e.when (!e.ibit (aTr t 5) i) (fun d => d.putB (aTr t 7) i false)) := by
    unfold Dev.when
    split
    · exact e.alarmOnly_putB t false hi h7
    · exact .refl t i e
  have hdone := AlarmsDone.of_turns (hc := 0) (lc := 0) (hturn d 15 (by decide) (by decide)) (hturn _ 14 (by decide) (by decide))
  unfold Dev.alarms
  dsimp only
  refine ⟨hdone, ?_, ?_⟩ <;> rw [Dev.onTrc_trc]

/-- The bounds of the alarms at a sample. -/
def alarmHi : Int := signedBy (bitOf (d.w (aTr t 0)) 14) (d.w (aTr t 3))
def alarmLo : Int := signedBy (bitOf (d.w (aTr t 0)) 14) (d.w (aTr t 4))
def alarmHys : Int := d.fld (aTr t 5) 7 0

/-- Both alarms judge a present sample with the configuration that has come into force. -/
theorem alarms_some (v : Int) (hforce : ∀ o, o < 6 → d.iw (aTr t o) = d.w (aTr t o)) : AlarmsDone t d (d.alarms t (some v)) ∧
    d.AlarmStep (d.alarms t (some v)) t 15 (d.trc t).hiCnt ((d.alarms t (some v)).trc t).hiCnt (decide (d.alarmHi t < v))
      (decide (v < d.alarmHi t - d.alarmHys t)) ∧
    d.AlarmStep (d.alarms t (some v)) t 14 (d.trc t).loCnt ((d.alarms t (some v)).trc t).loCnt (decide (v < d.alarmLo t))
      (decide (d.alarmLo t + d.alarmHys t < v)) := by
  have hsign : d.ibit (aTr t 0) 14 = bitOf (d.w (aTr t 0)) 14 := by unfold Dev.ibit; rw [hforce 0 (by decide)]
  have heq : d.alarms t (some v) =
      (((d.alarmTurn t 15 (d.trc t).hiCnt (decide (d.alarmHi t < v)) (decide (v < d.alarmHi t - d.alarmHys t))).1.alarmTurn t 14
        ((d.alarmTurn t 15 (d.trc t).hiCnt (decide (d.alarmHi t < v)) (decide (v < d.alarmHi t - d.alarmHys t))).1.trc t).loCnt
        (decide (v < d.alarmLo t)) (decide (d.alarmLo t + d.alarmHys t < v))).1).onTrc t (fun x => { x with
        hiCnt := (d.alarmTurn t 15 (d.trc t).hiCnt (decide (d.alarmHi t < v)) (decide (v < d.alarmHi t - d.alarmHys t))).2
        loCnt := ((d.alarmTurn t 15 (d.trc t).hiCnt (decide (d.alarmHi t < v)) (decide (v < d.alarmHi t - d.alarmHys t))).1.alarmTurn t 14
          ((d.alarmTurn t 15 (d.trc t).hiCnt (decide (d.alarmHi t < v)) (decide (v < d.alarmHi t - d.alarmHys t))).1.trc t).loCnt
          (decide (v < d.alarmLo t)) (decide (d.alarmLo t + d.alarmHys t < v))).2 }) := by
    unfold Dev.alarms Dev.alarmHi Dev.alarmLo Dev.alarmHys Dev.fld
    rw [← hsign, ← hforce 3 (by decide), ← hforce 4 (by decide), ← hforce 5 (by decide)]
    rfl
  obtain ⟨honly, hstep⟩ := d.alarmTurn_spec t (i := 15) (by decide) (by decide) (d.trc t).hiCnt (decide (d.alarmHi t < v))
    (decide (v < d.alarmHi t - d.alarmHys t)) hforce
  generalize d.alarmTurn t 15 (d.trc t).hiCnt (decide (d.alarmHi t < v)) (decide (v < d.alarmHi t - d.alarmHys t)) = r at *
  have hcfg (o : Nat) (ho : o < 6) : r.1.w (aTr t o) = d.w (aTr t o) := honly.step.cfg ho t
  have hforce' : ∀ o, o < 6 → r.1.iw (aTr t o) = r.1.w (aTr t o) := fun o ho => by
    rw [hcfg o ho, ← hforce o ho]
    exact congrArg (fun st : Store => st.get resetWord (aTr t o)) honly.force
  obtain ⟨honly', hstep'⟩ := r.1.alarmTurn_spec t (i := 14) (by decide) (by decide) (r.1.trc t).loCnt (decide (v < d.alarmLo t))
    (decide (d.alarmLo t + d.alarmHys t < v)) hforce'
  rw [honly.trc] at heq honly' hstep'
  generalize r.1.alarmTurn t 14 (d.trc t).loCnt (decide (v < d.alarmLo t)) (decide (d.alarmLo t + d.alarmHys t < v)) = q at *
  have hdone := AlarmsDone.of_turns (hc := r.2) (lc := q.2) honly honly'
  have htrc : ((q.1.onTrc t (fun x => { x with hiCnt := r.2, loCnt := q.2 })).trc t) = { q.1.trc t with hiCnt := r.2, loCnt := q.2 } :=
    Dev.onTrc_trc _ _ _
  have h15 : (q.1.onTrc t (fun x => { x with hiCnt := r.2, loCnt := q.2 })).bit (aTr t 7) 15 = r.1.bit (aTr t 7) 15 :=
    honly'.flags 15 (by decide) (by decide)
  rw [heq, htrc]
  refine ⟨hdone, AlarmStep.of_bits hstep h15 (fun h => honly'.step.causes _ _ (by omega) (by omega) h), ?_⟩
  exact AlarmStep.of_start hstep' (honly.flags 14 (by decide) (by decide)) (hcfg 5 (by decide)) (hcfg 1 (by decide))

end Dev

end Sys2Proof.Machine
end

section
/-! The compressor of a trace channel at one sample, and the sample (R277 to R288). -/

namespace Sys2Proof.Machine

open Sys2Proof

namespace Dev

variable (d : Dev) (t : TraceIx)

/-! ### The compressor (R282 to R287) -/

/-- What the compressor leaves alone: the alarms of the channel with their counts, and LAST. -/
structure Compressed (t : TraceIx) (d e : Dev) : Prop where
  quiet : d.Quiet t e
  hi : (e.trc t).hiCnt = (d.trc t).hiCnt
  lo : (e.trc t).loCnt = (d.trc t).loCnt

theorem Compressed.trans {t : TraceIx} {c d e : Dev} (h : Compressed t c d) (h' : Compressed t d e) : Compressed t c e :=
  ⟨h.quiet.trans h'.quiet, h'.hi.trans h.hi, h'.lo.trans h.lo⟩

theorem compressed_onTrc (f : Trace → Trace) (hhi : ∀ x, (f x).hiCnt = x.hiCnt) (hlo : ∀ x, (f x).loCnt = x.loCnt) :
    Compressed t d (d.onTrc t f) :=
  ⟨d.quiet_onTrc t f, by rw [Dev.onTrc_trc, hhi], by rw [Dev.onTrc_trc, hlo]⟩

theorem compressed_pendAnchor (code : Nat) : Compressed t d (d.pendAnchor t code) :=
  d.compressed_onTrc t _ (fun _ => rfl) (fun _ => rfl)

theorem compressed_newTraceCfg : Compressed t d (d.newTraceCfg t) := d.compressed_onTrc t _ (fun _ => rfl) (fun _ => rfl)

theorem newTraceCfg_trc : (d.newTraceCfg t).trc t =
    { d.trc t with e := d.fld (aTr t 1) 7 0, div := max 1 (d.fld (aTr t 2) 15 8) } := Dev.onTrc_trc _ _ _

theorem compressed_flushSeg : Compressed t d (d.flushSeg t) := by
  obtain ⟨hq, htrc, -⟩ := d.flushSeg_spec t
  exact ⟨hq, by rw [htrc], by rw [htrc]⟩

theorem compressed_writeSeg (g : Seg) : Compressed t d (d.writeSeg t g) := by
  obtain ⟨hq, htrc, -⟩ := d.writeSeg_spec t g
  exact ⟨hq, by rw [htrc], by rw [htrc]⟩

theorem compressed_setSeg (s : Option Seg) : Compressed t d (d.setSeg t s) := by
  obtain ⟨hq, htrc, -⟩ := d.setSeg_spec t s
  exact ⟨hq, by rw [htrc], by rw [htrc]⟩

theorem compressed_writeAnchor (rsn : Nat) (y : Int) (tick : BitVec 32) : Compressed t d (d.writeAnchor t rsn y tick) := by
  obtain ⟨hq, htrc, -⟩ := d.writeAnchor_spec t rsn y tick
  exact ⟨hq, by rw [htrc], by rw [htrc]⟩

/-- The anchor record of channel t (R288). -/
def anchorRec (rsn : Nat) (y : Int) (tick : BitVec 32) : Rec :=
  ⟨word (0x8000 + t.1 * 128 + rsn * 16 + d.fld 0x52 3 0), iword y, lo16 tick, hi16 tick⟩

theorem breakAnchor_spec (rsn : Nat) (y : Int) : Compressed t d (d.breakAnchor t rsn y) ∧
    (d.breakAnchor t rsn y).trc t = { d.trc t with pend := 0, anchAt := d.ticks, seg := some (Seg.vertex y d.ttick) } ∧
    (d.noStore = false → (d.breakAnchor t rsn y).recq = d.recq ++ [d.anchorRec t rsn y d.ttick]) := by
  obtain ⟨-, htrc, hrec⟩ := d.writeAnchor_spec t rsn y d.ttick
  obtain ⟨-, htrc', hrec', -⟩ := (d.writeAnchor t rsn y d.ttick).setSeg_spec t (some (Seg.vertex y d.ttick))
  refine ⟨(d.compressed_writeAnchor t rsn y d.ttick).trans (Dev.compressed_setSeg _ t _), ?_, fun hn => ?_⟩
  · exact htrc'.trans (by rw [htrc])
  · exact hrec'.trans (hrec hn)

theorem compress_spec (g : Seg) (y : Int) : Compressed t d (d.compress t g y) ∧
    ((d.compress t g y).trc t).e = (d.trc t).e ∧ ((d.compress t g y).trc t).div = (d.trc t).div ∧
    (∀ g', g.extend (d.trc t).e (d.trc t).div y = some g' → ((d.compress t g y).trc t).seg = some g') ∧
    (g.extend (d.trc t).e (d.trc t).div y = none →
      ((d.compress t g y).trc t).seg = some (Seg.begin g.yc (g.endTick (d.trc t).div) (d.trc t).e y) ∧
      (d.noStore = false → (d.compress t g y).recq = d.recq ++ [d.segRec t g])) := by
  unfold Dev.compress
  dsimp only
  split
  next g' hg =>
    obtain ⟨-, htrc, -, -⟩ := d.setSeg_spec t (some g')
    refine ⟨d.compressed_setSeg t _, by rw [htrc], by rw [htrc], fun g'' h => ?_, fun h => absurd h (by rw [hg]; simp)⟩
    rw [htrc]
    exact hg.symm.trans h
  next hg =>
    obtain ⟨-, htrc, hrec, -⟩ := d.writeSeg_spec t g
    obtain ⟨-, htrc', hrec', -⟩ := (d.writeSeg t g).setSeg_spec t
      (some (Seg.begin g.yc (g.endTick (d.trc t).div) (d.trc t).e y))
    rw [htrc] at htrc'
    exact ⟨(d.compressed_writeSeg t g).trans (Dev.compressed_setSeg _ t _), by rw [htrc'], by rw [htrc'],
      fun g'' h => absurd h (by rw [hg]; simp), fun _ => ⟨by rw [htrc'], fun hn => hrec'.trans (hrec hn)⟩⟩

/-- An absent sample closes the segment (R285). -/
theorem compressor_none : Compressed t d (d.compressor t none) ∧ ((d.compressor t none).trc t).seg = none ∧
    ((d.compressor t none).trc t).pend.getLsbD 5 = true ∧
    (d.noStore = false → ∀ g, (d.trc t).seg = some g → 0 < g.c → (d.compressor t none).recq = d.recq ++ [d.segRec t g]) := by
  have heq : d.compressor t none = (((d.flushSeg t).setSeg t none).pendAnchor t 5).newTraceCfg t := rfl
  rw [heq]
  obtain ⟨-, -, hrec⟩ := d.flushSeg_spec t
  have hflush := d.compressed_flushSeg t
  generalize d.flushSeg t = x at hrec hflush ⊢
  obtain ⟨-, htrc, hrec', -⟩ := x.setSeg_spec t none
  have hset := hflush.trans (x.compressed_setSeg t none)
  have hseg : ((x.setSeg t none).trc t).seg = none := by rw [htrc]
  generalize x.setSeg t none = y at hrec' hset hseg ⊢
  have hanchor := hset.trans (y.compressed_pendAnchor t 5)
  have hpend : (y.pendAnchor t 5).trc t = { y.trc t with pend := (y.trc t).pend ||| (1#8 <<< 5) } := Dev.onTrc_trc _ _ _
  have hrec'' : (y.pendAnchor t 5).recq = y.recq := rfl
  generalize y.pendAnchor t 5 = z at hanchor hpend hrec'' ⊢
  have hkept : (z.newTraceCfg t).recq = z.recq := rfl
  refine ⟨hanchor.trans (z.compressed_newTraceCfg t), ?_, ?_, fun hn g hg hc => ?_⟩
  · rw [z.newTraceCfg_trc, hpend]
    exact hseg
  · rw [z.newTraceCfg_trc, hpend]
    show ((y.trc t).pend ||| (1#8 <<< 5)).getLsbD 5 = true
    rw [BitVec.getLsbD_or]
    exact Bool.or_true _
  · rw [hkept, hrec'', hrec', hrec hn g hg hc]

/-- What a present sample does to the segment (R282 to R284). -/
theorem compressor_some (y : Int) : Compressed t d (d.compressor t (some y)) ∧
    ((d.trc t).seg = none → ((d.compressor t (some y)).trc t).seg = some (Seg.vertex y d.ttick) ∧
      ((d.compressor t (some y)).trc t).pend = 0 ∧
      (d.noStore = false → (d.compressor t (some y)).recq = d.recq ++ [d.anchorRec t ((d.trc t).reason.getD 5) y d.ttick])) ∧
    (∀ g, (d.trc t).seg = some g → (d.trc t).pend = 0 → d.fld (aTr t 2) 7 0 = 0 →
      d.compressor t (some y) = (d.newTraceCfg t).compress t g y) := by
  have hpend : Compressed t d (if (d.trc t).seg.isSome && d.fld (aTr t 2) 7 0 ≠ 0 &&
      decide ((d.trc t).anchAt + d.fld (aTr t 2) 7 0 * 6000 ≤ d.ticks) then d.pendAnchor t 6 else d) := by
    split
    · exact d.compressed_pendAnchor t 6
    · exact ⟨.refl t d, rfl, rfl⟩
  refine ⟨?_, fun hseg => ?_, fun g hseg hp hanch => ?_⟩
  · unfold Dev.compressor
    dsimp only
    refine hpend.trans ?_
    generalize (if (d.trc t).seg.isSome && d.fld (aTr t 2) 7 0 ≠ 0 &&
      decide ((d.trc t).anchAt + d.fld (aTr t 2) 7 0 * 6000 ≤ d.ticks) then d.pendAnchor t 6 else d) = x
    split
    · exact (x.compressed_newTraceCfg t).trans (Dev.breakAnchor_spec _ t _ y).1
    · exact (x.compressed_newTraceCfg t).trans (Dev.compress_spec _ t _ y).1
    next g r _ _ =>
      refine (x.compressed_flushSeg t).trans ?_
      generalize x.flushSeg t = z
      split
      · exact (z.compressed_newTraceCfg t).trans (Dev.breakAnchor_spec _ t r y).1
      · exact ((z.compressed_newTraceCfg t).trans (Dev.compressed_writeAnchor _ t _ _ _)).trans (Dev.compressed_setSeg _ t _)
  · have heq : d.compressor t (some y) = (d.newTraceCfg t).breakAnchor t ((d.trc t).reason.getD 5) y := by
      unfold Dev.compressor
      simp [hseg]
    obtain ⟨-, htrc, hrec⟩ := (d.newTraceCfg t).breakAnchor_spec t ((d.trc t).reason.getD 5) y
    rw [heq, htrc]
    exact ⟨rfl, rfl, hrec⟩
  · have hreason : (d.trc t).reason = none := by
      unfold Trace.reason
      rw [hp]
      decide
    unfold Dev.compressor
    simp [hseg, hanch, hreason]

end Dev

end Sys2Proof.Machine
end

section
/-! The sample of a trace channel at a trace tick (R277 to R281), and the tick itself. -/

namespace Sys2Proof.Machine

open Sys2Proof

namespace Dev

variable (d : Dev) (t : TraceIx)

/-! ### The sample before the alarms judge it -/

/-- The sample of channel t under the tick count as it stands. -/
def sampleNow : Option Int := (d.traceSource t (d.w (aTr t 0))).map (traceSample (d.w (aTr t 0)))

/-- The configuration comes into force, ABSENT shows the sample, and a present one becomes LAST. -/
def traceFetch (y : Option Int) : Dev :=
  match y with
  | some v => ((d.enforce (aTr t 0) (aTr t 6)).putB (aTr t 7) 13 false).put (aTr t 6) (iword v)
  | none => (d.enforce (aTr t 0) (aTr t 6)).putB (aTr t 7) 13 true

theorem traceSampleNow_eq : d.traceSampleNow t = (((d.traceFetch t (d.sampleNow t)).alarms t (d.sampleNow t)).compressor t
    (d.sampleNow t)).onTrc t (fun x => { x with wait := x.div }) := by
  have hsource : (d.enforce (aTr t 0) (aTr t 6)).traceSource t (d.w (aTr t 0)) = d.traceSource t (d.w (aTr t 0)) := rfl
  unfold Dev.traceSampleNow
  have hsample : ((d.enforce (aTr t 0) (aTr t 6)).traceSource t ((d.enforce (aTr t 0) (aTr t 6)).w (aTr t 0))).map
      (traceSample ((d.enforce (aTr t 0) (aTr t 6)).w (aTr t 0))) = d.sampleNow t :=
    congrArg (fun o => o.map (traceSample (d.w (aTr t 0)))) hsource
  dsimp only
  rw [hsample]
  cases d.sampleNow t <;> rfl

/-- What the fetch leaves for the alarms. -/
structure Fetched (t : TraceIx) (d x : Dev) (y : Option Int) : Prop where
  step : d.TraceStep t x
  trc : x.trc t = d.trc t
  recq : x.recq = d.recq
  force : ∀ o, o < 6 → x.iw (aTr t o) = x.w (aTr t o)
  absent : x.bit (aTr t 7) 13 = y.isNone
  flags : ∀ i, i < 16 → i ≠ 13 → x.bit (aTr t 7) i = d.bit (aTr t 7) i
  seq : x.fld (aTr t 7) 6 0 = d.fld (aTr t 7) 6 0
  last : x.w (aTr t 6) = y.elim (d.w (aTr t 6)) iword

theorem traceFetch_spec (y : Option Int) : Fetched t d (d.traceFetch t y) y := by
  have hforce (o : Nat) (ho : o < 6) : (d.enforce (aTr t 0) (aTr t 6)).iw (aTr t o) = d.w (aTr t o) :=
    d.iw_enforce _ _ _ (by unfold aTr; omega) (by unfold aTr; omega)
  have hput (b : Bool) := (d.enforce (aTr t 0) (aTr t 6)).alarmOnly_putB t (i := 13) b (by decide) (by decide)
  have hself (b : Bool) := (d.enforce (aTr t 0) (aTr t 6)).bit_putB_self (aTr t 7) 13 b (by decide)
  have hcfg (b : Bool) (o : Nat) (ho : o < 6) : ((d.enforce (aTr t 0) (aTr t 6)).putB (aTr t 7) 13 b).iw (aTr t o) =
      ((d.enforce (aTr t 0) (aTr t 6)).putB (aTr t 7) 13 b).w (aTr t o) := by
    rw [(hput b).step.cfg ho t, show (d.enforce (aTr t 0) (aTr t 6)).w (aTr t o) = d.w (aTr t o) from rfl, ← hforce o ho]
    exact congrArg (fun st : Store => st.get resetWord (aTr t o)) (hput b).force
  have hstep (b : Bool) := (d.traceStep_enforce t (aTr t 0) (aTr t 6)).trans (hput b).step
  unfold Dev.traceFetch
  cases y with
  | none =>
    exact ⟨hstep true, (hput true).trc, (hput true).recq, hcfg true, hself true, (hput true).flags, (hput true).seq,
      (hput true).last⟩
  | some v =>
    dsimp only
    have hx := hput false
    have hforce' := hcfg false
    have habs := hself false
    have hst := hstep false
    generalize (d.enforce (aTr t 0) (aTr t 6)).putB (aTr t 7) 13 false = x at hx hforce' habs hst ⊢
    have h7 : (x.put (aTr t 6) (iword v)).w (aTr t 7) = x.w (aTr t 7) := x.w_put_ne _ (Dev.aTr_last_ne_stat t).symm
    refine ⟨hst.trans (x.traceStep_put t _ (.inl rfl)), hx.trc, hx.recq, fun o ho => ?_, (Dev.bit_congr h7 13).trans habs,
      fun i hi hne => (Dev.bit_congr h7 i).trans (hx.flags i hi hne), (Dev.fld_congr h7 6 0).trans hx.seq, x.w_put_self _ _⟩
    rw [x.w_put_ne (iword v) (by unfold aTr; omega)]
    exact hforce' o ho

/-- The configuration of the channel is what it was before the fetch. -/
theorem segRec_congr {d e : Dev} (g : Seg) (h : e.fld (aTr t 7) 6 0 = d.fld (aTr t 7) 6 0)
    (hdiv : (e.trc t).div = (d.trc t).div) (he : (e.trc t).e = (d.trc t).e) : e.segRec t g = d.segRec t g := by
  unfold Dev.segRec
  rw [h, hdiv, he]

/-! ### The sample (R281) -/

theorem sample_step : d.TraceStep t (d.traceSampleNow t) ∧
    ((d.traceSampleNow t).trc t).wait = ((d.traceSampleNow t).trc t).div := by
  have hfetch := d.traceFetch_spec t (d.sampleNow t)
  rw [Dev.traceSampleNow_eq]
  generalize hy : d.sampleNow t = y at hfetch ⊢
  generalize d.traceFetch t y = x at hfetch ⊢
  refine ⟨?_, by rw [Dev.onTrc_trc]⟩
  cases y with
  | none =>
    exact ((hfetch.step.trans (x.alarms_none t).1.step).trans (Dev.compressor_none _ t).1.quiet.step).trans
      (Dev.traceStep_onTrc _ t _)
  | some v =>
    exact ((hfetch.step.trans (x.alarms_some t v hfetch.force).1.step).trans
      (Dev.compressor_some _ t v).1.quiet.step).trans (Dev.traceStep_onTrc _ t _)

/-- An absent sample. -/
theorem sample_none (hy : d.sampleNow t = none) : (d.traceSampleNow t).bit (aTr t 7) 13 = true ∧
    (d.traceSampleNow t).w (aTr t 6) = d.w (aTr t 6) ∧ ((d.traceSampleNow t).trc t).seg = none ∧
    ((d.traceSampleNow t).trc t).pend.getLsbD 5 = true ∧ ((d.traceSampleNow t).trc t).hiCnt = 0 ∧
    ((d.traceSampleNow t).trc t).loCnt = 0 ∧
    (d.noStore = false → ∀ g, (d.trc t).seg = some g → 0 < g.c → (d.traceSampleNow t).recq = d.recq ++ [d.segRec t g]) := by
  have hfetch := d.traceFetch_spec t none
  rw [Dev.traceSampleNow_eq, hy]
  generalize d.traceFetch t none = x at hfetch ⊢
  obtain ⟨halarm, hhi, hlo⟩ := x.alarms_none t
  generalize x.alarms t none = z at halarm hhi hlo ⊢
  obtain ⟨hcomp, hseg, hpend, hrec⟩ := z.compressor_none t
  generalize z.compressor t none = c at hcomp hseg hpend hrec ⊢
  have htrc : (c.onTrc t (fun x => { x with wait := x.div })).trc t = { c.trc t with wait := (c.trc t).div } := Dev.onTrc_trc _ _ _
  have hz : z.trc t = { d.trc t with hiCnt := (z.trc t).hiCnt, loCnt := (z.trc t).loCnt } := by rw [← hfetch.trc]; exact halarm.trc
  refine ⟨?_, ?_, ?_, ?_, ?_, ?_, fun hn g hg hc => ?_⟩
  · exact (hcomp.quiet.flags 13 (by decide) (by decide)).trans (halarm.absentFlag.trans hfetch.absent)
  · exact hcomp.quiet.last.trans (halarm.last.trans hfetch.last)
  · rw [htrc]; exact hseg
  · rw [htrc]; exact hpend
  · rw [htrc]; exact hcomp.hi.trans hhi
  · rw [htrc]; exact hcomp.lo.trans hlo
  · have hmade := hrec (halarm.step.noStore.trans (hfetch.step.noStore.trans hn)) g (by rw [hz]; exact hg) hc
    have hsame : z.segRec t g = d.segRec t g :=
      Dev.segRec_congr t g (halarm.seq.trans hfetch.seq) (by rw [hz]) (by rw [hz])
    rw [hsame, halarm.recq, hfetch.recq] at hmade
    exact hmade

end Dev

/-- A present sample v of channel t on the way from d to e: its segment, its records and its alarms. -/
structure Dev.SampleStep (t : TraceIx) (v : Int) (d e : Dev) : Prop where
  present : e.bit (aTr t 7) 13 = false
  last : e.w (aTr t 6) = iword v
  vertex : (d.trc t).seg = none → (e.trc t).seg = some (Seg.vertex v d.ttick) ∧ (e.trc t).pend = 0 ∧
    (d.noStore = false → e.recq = d.recq ++ [d.anchorRec t ((d.trc t).reason.getD 5) v d.ttick])
  extend : ∀ g, (d.trc t).seg = some g → (d.trc t).pend = 0 → d.fld (aTr t 2) 7 0 = 0 →
    (∀ g', g.extend (e.trc t).e (e.trc t).div v = some g' → (e.trc t).seg = some g') ∧
    (g.extend (e.trc t).e (e.trc t).div v = none →
      (e.trc t).seg = some (Seg.begin g.yc (g.endTick (e.trc t).div) (e.trc t).e v) ∧
      ((e.trc t).div = (d.trc t).div → (e.trc t).e = (d.trc t).e → d.noStore = false → e.recq = d.recq ++ [d.segRec t g]))
  high : d.AlarmStep e t 15 (d.trc t).hiCnt (e.trc t).hiCnt (decide (d.alarmHi t < v)) (decide (v < d.alarmHi t - d.alarmHys t))
  low : d.AlarmStep e t 14 (d.trc t).loCnt (e.trc t).loCnt (decide (v < d.alarmLo t)) (decide (d.alarmLo t + d.alarmHys t < v))

namespace Dev

variable (d : Dev) (t : TraceIx)

/-- A present sample. -/
theorem sample_some (v : Int) (hy : d.sampleNow t = some v) : d.SampleStep t v (d.traceSampleNow t) := by
  have hfetch := d.traceFetch_spec t (some v)
  rw [Dev.traceSampleNow_eq, hy]
  generalize d.traceFetch t (some v) = x at hfetch ⊢
  obtain ⟨halarm, hhigh, hlow⟩ := x.alarms_some t v hfetch.force
  generalize x.alarms t (some v) = z at halarm hhigh hlow ⊢
  obtain ⟨hcomp, hvertex, hextend⟩ := z.compressor_some t v
  have hcfg : (z.newTraceCfg t).trc t = { z.trc t with e := z.fld (aTr t 1) 7 0, div := max 1 (z.fld (aTr t 2) 15 8) } :=
    z.newTraceCfg_trc t
  have hsegRec (g : Seg) := z.newTraceCfg t |>.compress_spec t g v
  have hz : z.trc t = { d.trc t with hiCnt := (z.trc t).hiCnt, loCnt := (z.trc t).loCnt } := by rw [← hfetch.trc]; exact halarm.trc
  have hstep := hfetch.step.trans halarm.step
  have hrecq := halarm.recq.trans hfetch.recq
  have htick : z.ttick = d.ttick := by
    unfold Dev.ttick Dev.w32
    rw [hstep.word (a := 0xB483) (.inr (by decide)) (by decide), hstep.word (a := 0xB483 + 1) (.inr (by decide)) (by decide)]
  have hw (o : Nat) (ho : o < 6) : x.w (aTr t o) = d.w (aTr t o) := hfetch.step.cfg ho t
  have hHi : x.alarmHi t = d.alarmHi t := by unfold Dev.alarmHi; rw [hw 0 (by decide), hw 3 (by decide)]
  have hLo : x.alarmLo t = d.alarmLo t := by unfold Dev.alarmLo; rw [hw 0 (by decide), hw 4 (by decide)]
  have hHys : x.alarmHys t = d.alarmHys t := by unfold Dev.alarmHys Dev.fld; rw [hw 5 (by decide)]
  have htrc : (((z.compressor t (some v)).onTrc t (fun x => { x with wait := x.div })).trc t) =
      { (z.compressor t (some v)).trc t with wait := ((z.compressor t (some v)).trc t).div } := Dev.onTrc_trc _ _ _
  have hbit (i : Nat) : ((z.compressor t (some v)).onTrc t (fun x => { x with wait := x.div })).bit (aTr t 7) i =
      (z.compressor t (some v)).bit (aTr t 7) i := rfl
  have hrq : ((z.compressor t (some v)).onTrc t (fun x => { x with wait := x.div })).recq = (z.compressor t (some v)).recq := rfl
  have halarmed {i n n' : Nat} {rise fall : Bool} (h13 : 13 < i) (hi : i < 16) (h : x.AlarmStep z t i n n' rise fall) :
      d.AlarmStep ((z.compressor t (some v)).onTrc t (fun x => { x with wait := x.div })) t i n n' rise fall :=
    AlarmStep.of_start (AlarmStep.of_bits h ((hbit i).trans (hcomp.quiet.flags i (by omega) hi))
      (fun hc => hcomp.quiet.step.causes _ _ (by omega) (by omega) hc)) (hfetch.flags i hi (by omega)) (hw 5 (by decide))
      (hw 1 (by decide))
  refine ⟨?_, ?_, fun hseg => ?_, fun g hseg hpend hanch => ?_, ?_, ?_⟩
  · exact (hcomp.quiet.flags 13 (by decide) (by decide)).trans (halarm.absentFlag.trans hfetch.absent)
  · exact hcomp.quiet.last.trans (halarm.last.trans hfetch.last)
  · obtain ⟨hs, hp, hr⟩ := hvertex (by rw [hz]; exact hseg)
    rw [htrc, hrq]
    refine ⟨by rw [← htick]; exact hs, hp, fun hn => ?_⟩
    have hses : z.fld 0x52 3 0 = d.fld 0x52 3 0 := Dev.fld_congr (hstep.word (.inl (by decide)) (by decide)) 3 0
    have hreason : (z.trc t).reason = (d.trc t).reason := by rw [hz]; rfl
    rw [hr (hstep.noStore.trans hn), hrecq, htick, hreason]
    unfold Dev.anchorRec
    rw [hses]
  · have heq := hextend g (by rw [hz]; exact hseg) (by rw [hz]; exact hpend)
      ((Dev.fld_congr (hstep.cfg (by decide) t) 7 0).trans hanch)
    obtain ⟨-, he, hdiv, hin, hout⟩ := hsegRec g
    rw [htrc, hrq, heq]
    dsimp only
    rw [he, hdiv]
    refine ⟨hin, fun hnone => ⟨(hout hnone).1, fun hd hE hn => ?_⟩⟩
    have hrec := (hout hnone).2 (hstep.noStore.trans hn)
    have hsame : (z.newTraceCfg t).segRec t g = d.segRec t g :=
      Dev.segRec_congr t g (halarm.seq.trans hfetch.seq) hd hE
    rw [hsame] at hrec
    exact hrec.trans (congrArg (· ++ [d.segRec t g]) hrecq)
  · rw [htrc]
    have h := halarmed (by decide) (by decide) hhigh
    rw [hHi, hHys, hfetch.trc, ← hcomp.hi] at h
    exact h
  · rw [htrc]
    have h := halarmed (by decide) (by decide) hlow
    rw [hLo, hHys, hfetch.trc, ← hcomp.lo] at h
    exact h

end Dev

end Sys2Proof.Machine
end

section
/-! The trace tick (R277, R281): each channel takes its turn, and the turns of the others leave what it shows alone. -/

namespace Sys2Proof.Machine

open Sys2Proof

/-- The words that the turns of channels other than t leave alone: all but LAST and STAT of those channels and the store's
counters and causes. -/
def keptByOthers (t : TraceIx) (a : Nat) : Prop :=
  (a < 0xB000 ∨ 0xB400 ≤ a ∨ ∃ o, o < 8 ∧ a = aTr t o) ∧ ¬ (0xB488 ≤ a ∧ a < 0xB498)

/-- From d to e only channels other than t have taken turns of a trace tick. -/
structure Dev.TickOthers (t : TraceIx) (d e : Dev) : Prop where
  motors : e.motors = d.motors
  part : e.part = d.part
  ticks : e.ticks = d.ticks
  tickAt : e.tickAt = d.tickAt
  bist : e.bist = d.bist
  words : ∀ a, keptByOthers t a → e.w a = d.w a
  causes : ∀ a i, 0xB490 ≤ a → a < 0xB498 → d.bit a i = true → e.bit a i = true
  trc : e.trc t = d.trc t
  recq : d.noStore = false → ∃ post, e.recq = d.recq ++ post

namespace Dev

variable (d : Dev) (t : TraceIx)

theorem kept_own {t : TraceIx} {o : Nat} (h : o < 8) : keptByOthers t (aTr t o) := by
  have := Dev.aTr_range t h
  exact ⟨.inr (.inr ⟨o, h, rfl⟩), by omega⟩

theorem kept_outside {t : TraceIx} {a : Nat} (h : a < 0xB000 ∨ 0xB400 ≤ a) (h' : ¬ (0xB488 ≤ a ∧ a < 0xB498)) :
    keptByOthers t a := ⟨by omega, h'⟩

namespace TickOthers

variable {t : TraceIx}

theorem noStore {d e : Dev} (h : d.TickOthers t e) : e.noStore = d.noStore :=
  Dev.noStore_congr h.bist (h.words _ (Dev.kept_outside (.inl (by decide)) (by decide)))
    (h.words _ (Dev.kept_outside (.inr (by decide)) (by decide)))

theorem refl (t : TraceIx) (d : Dev) : d.TickOthers t d :=
  ⟨rfl, rfl, rfl, rfl, rfl, fun _ _ => rfl, fun _ _ _ _ h => h, rfl, fun _ => ⟨[], (List.append_nil _).symm⟩⟩

theorem trans {c d e : Dev} (h : c.TickOthers t d) (h' : d.TickOthers t e) : c.TickOthers t e := by
  refine ⟨h'.motors.trans h.motors, h'.part.trans h.part, h'.ticks.trans h.ticks, h'.tickAt.trans h.tickAt, h'.bist.trans h.bist,
    fun a ha => (h'.words a ha).trans (h.words a ha), fun a i ha ha' hb => h'.causes a i ha ha' (h.causes a i ha ha' hb),
    h'.trc.trans h.trc, fun hn => ?_⟩
  obtain ⟨p, hp⟩ := h.recq hn
  obtain ⟨q, hq⟩ := h'.recq (h.noStore.trans hn)
  exact ⟨p ++ q, by rw [hq, hp, List.append_assoc]⟩

/-- The turn of another channel. -/
theorem of_step {u : TraceIx} {d e : Dev} (hu : u ≠ t) (h : d.TraceStep u e) : d.TickOthers t e := by
  have hne {a o : Nat} (ho : o < 8) (hk : keptByOthers t a) : a ≠ aTr u o := by
    obtain ⟨ha, -⟩ := hk
    have hr := Dev.aTr_range u ho
    rintro rfl
    obtain ha | ha | ⟨p, hp, he⟩ := ha
    · omega
    · omega
    · exact hu (Dev.aTr_injective ho hp he).1
  exact ⟨h.motors, h.part, h.ticks, h.tickAt, h.bist, fun a ha => h.words a (hne (by decide) ha) (hne (by decide) ha) ha.2,
    h.causes, h.others t (Ne.symm hu), h.recq⟩

end TickOthers

/-! ### The tick -/

/-- The count of the tick, before any channel takes its turn. -/
def tickStart : Dev := { d.put32 0xB483 (d.ttick + 1) with tickAt := d.cycles, ticks := d.ticks + 1 }

/-- The turn of one channel. -/
def tickChannel (t : TraceIx) : Dev :=
  if !(d.trc t).on then d
  else if (d.trc t).wait ≤ 1 then d.traceSampleNow t
  else d.onTrc t (fun x => { x with wait := x.wait - 1 })

theorem traceTick_eq (h : d.tickNow = true) : d.traceTick = d.tickStart.each (List.finRange 128) Dev.tickChannel := by
  unfold Dev.traceTick
  rw [h]
  rfl

theorem tickChannel_step : d.TraceStep t (d.tickChannel t) := by
  unfold Dev.tickChannel
  split
  · exact .refl t d
  · split
    · exact (d.sample_step t).1
    · exact d.traceStep_onTrc t _

/-- Channel t takes one turn, between the turns of the others. -/
theorem traceTick_turn (h : d.tickNow = true) : ∃ x, d.tickStart.TickOthers t x ∧ (x.tickChannel t).TickOthers t d.traceTick := by
  rw [d.traceTick_eq h]
  exact Dev.each_once (I := fun e => d.tickStart.TickOthers t e)
    (P := fun e => ∃ x, d.tickStart.TickOthers t x ∧ (x.tickChannel t).TickOthers t e) (List.finRange 128) (List.nodup_finRange _)
    (List.mem_finRange t) d.tickStart (.refl t _) (fun e u hu he => he.trans (.of_step hu (e.tickChannel_step u)))
    (fun e he => ⟨e, he, .refl t _⟩) (fun e u hu ⟨x, hx, hxe⟩ => ⟨x, hx, hxe.trans (.of_step hu (e.tickChannel_step u))⟩)

/-! ### What a channel sees at its turn -/

/-- The state x in which channel t takes its turn shows the channel as d, with the tick counted. -/
structure TurnOf (t : TraceIx) (d x : Dev) : Prop where
  trc : x.trc t = d.trc t
  words : ∀ a, keptByOthers t a → a ≠ 0xB483 → a ≠ 0xB484 → x.w a = d.w a
  sample : x.sampleNow t = d.sampleOf t
  ttick : x.ttick = d.ttick + 1
  ticks : x.ticks = d.ticks + 1
  tickAt : x.tickAt = d.cycles
  motors : x.motors = d.motors
  noStore : x.noStore = d.noStore
  recq : d.noStore = false → ∃ pre, x.recq = d.recq ++ pre
  causes : ∀ a i, 0xB490 ≤ a → a < 0xB498 → d.bit a i = true → x.bit a i = true

theorem tickStart_w {a : Nat} (h : a ≠ 0xB483) (h' : a ≠ 0xB484) : d.tickStart.w a = d.w a := by
  have hput : (d.put32 0xB483 (d.ttick + 1)).w a = d.w a := by
    rw [Dev.w_put32, if_neg (by omega), if_neg (by omega)]
  exact hput

/-- The source of a channel's sample. -/
theorem traceSource_congr {d e : Dev} (src : Word) (hp : e.part = d.part) (ht : e.ticks = d.ticks) (htrc : e.trc t = d.trc t)
    (hw : ∀ a, (a < 0xB000 ∨ 0xB400 ≤ a) → a ≠ 0xB483 → a ≠ 0xB484 → ¬ (0xB488 ≤ a ∧ a < 0xB498) → e.w a = d.w a) :
    e.traceSource t src = d.traceSource t src := by
  have hacc (p : GroupIx) (n : Nat) {o : Nat} (ho : o < 4) : e.w (aAcc p (n % 64) o) = d.w (aAcc p (n % 64) o) := by
    unfold aAcc aPrm
    exact hw _ (by omega) (by omega) (by omega) (by omega)
  have hgrp (p : GroupIx) : e.hasGrp p = d.hasGrp p := by unfold Dev.hasGrp; rw [hp]
  have hon (p : GroupIx) : e.prmOn p = d.prmOn p := Dev.bit_congr (hw 0x801 (by decide) (by decide) (by decide) (by decide)) _
  have hvalid (p : GroupIx) (n : Nat) : e.accValid p (n % 64) = d.accValid p (n % 64) := Dev.bit_congr (hacc p n (by decide)) 0
  have hspd (f : ChanIx) : e.spd f = d.spd f := by
    unfold Dev.spd Dev.w32 aFb
    rw [hw _ (by omega) (by omega) (by omega) (by omega), hw _ (by omega) (by omega) (by omega) (by omega)]
  have hfresh : e.fld 0xB481 7 0 = d.fld 0xB481 7 0 :=
    Dev.fld_congr (hw _ (by decide) (by decide) (by decide) (by decide)) 7 0
  have hhin : e.w (0xB400 + t.1) = d.w (0xB400 + t.1) := hw _ (by omega) (by omega) (by omega) (by omega)
  have hcopy : e.bit 0xC040 0 = d.bit 0xC040 0 := Dev.bit_congr (hw _ (by decide) (by decide) (by decide) (by decide)) 0
  have hmbx (n : Nat) : e.w (0xC000 + n % 64) = d.w (0xC000 + n % 64) := hw _ (by omega) (by omega) (by omega) (by omega)
  unfold Dev.traceSource
  simp only [hgrp, hon, hvalid, hacc _ _ (show 2 < 4 by decide), hspd, htrc, hfresh, hhin, hcopy, hmbx, ht]

theorem turnOf_of {d x : Dev} (h : d.tickStart.TickOthers t x) : TurnOf t d x := by
  have hstart : d.tickStart.noStore = d.noStore :=
    Dev.noStore_congr rfl (d.tickStart_w (by decide) (by decide)) (d.tickStart_w (by decide) (by decide))
  have hw (a : Nat) (hk : keptByOthers t a) (h1 : a ≠ 0xB483) (h2 : a ≠ 0xB484) : x.w a = d.w a :=
    (h.words a hk).trans (d.tickStart_w h1 h2)
  have hown (o : Nat) (ho : o < 8) : x.w (aTr t o) = d.w (aTr t o) := by
    have := Dev.aTr_range t ho
    exact hw _ (Dev.kept_own ho) (by omega) (by omega)
  refine ⟨h.trc, hw, ?_, ?_, h.ticks, h.tickAt, h.motors, h.noStore.trans hstart, fun hn => h.recq (hstart.trans hn),
    fun a i ha ha' hb => h.causes a i ha ha' ((Dev.bit_congr (d.tickStart_w (by omega) (by omega)) i).trans hb)⟩
  · unfold Dev.sampleNow Dev.sampleOf
    rw [hown 0 (by decide), Dev.traceSource_congr t (d := { d with ticks := d.ticks + 1 }) (e := x) _ h.part h.ticks h.trc
      (fun a ha h1 h2 h3 => hw a (Dev.kept_outside ha h3) h1 h2)]
  · have hkept : x.w32 0xB483 = d.tickStart.w32 0xB483 := by
      unfold Dev.w32
      rw [h.words 0xB483 (Dev.kept_outside (.inr (by decide)) (by decide)),
        h.words (0xB483 + 1) (Dev.kept_outside (.inr (by decide)) (by decide))]
    exact hkept.trans (Dev.w32_put32 d _ _)

end Dev

end Sys2Proof.Machine
end

section
/-! The opening of a coupling session in the cycle of a trace tick (R354). -/

namespace Sys2Proof.Machine

open Sys2Proof

/-- What the opening of a session leaves to the rest of its cycle: the clock, the tick, the pending edge and the session's word. -/
structure Dev.TurnKept (d e : Dev) : Prop where
  resetN : e.resetN = d.resetN
  locked : e.locked = d.locked
  cycles : e.cycles = d.cycles
  tickAt : e.tickAt = d.tickAt
  edge : e.cplEdge = d.cplEdge
  word : e.w 0x51 = d.w 0x51

namespace Dev

theorem TurnKept.refl (d : Dev) : d.TurnKept d := ⟨rfl, rfl, rfl, rfl, rfl, rfl⟩

theorem TurnKept.trans {c d e : Dev} (h : c.TurnKept d) (h' : d.TurnKept e) : c.TurnKept e :=
  ⟨h'.resetN.trans h.resetN, h'.locked.trans h.locked, h'.cycles.trans h.cycles, h'.tickAt.trans h.tickAt, h'.edge.trans h.edge,
    h'.word.trans h.word⟩

theorem TurnKept.runs {d e : Dev} (h : d.TurnKept e) : e.runs = d.runs := by
  unfold Dev.runs
  rw [h.resetN, h.locked]

theorem turnKept_put (d : Dev) {a : Nat} (v : Word) (h : a ≠ 0x51) : d.TurnKept (d.put a v) :=
  ⟨rfl, rfl, rfl, rfl, rfl, d.w_put_ne v h.symm⟩

theorem turnKept_each {α : Type} (d : Dev) (l : List α) {f : Dev → α → Dev} (h : ∀ (e : Dev) (a : α), e.TurnKept (f e a)) :
    d.TurnKept (d.each l f) :=
  Dev.each_inv (P := fun e => d.TurnKept e) l d (.refl d) (fun e a he => he.trans (h e a))

theorem turnKept_raise (d : Dev) (i : Nat) : d.TurnKept (d.raise i) :=
  ⟨by simp, by simp, by simp, by simp, by simp, d.raise_w i 0x51⟩

theorem turnKept_sessionMotor (d : Dev) (m : MotorIx) : d.TurnKept (d.sessionMotor m) := by
  unfold Dev.sessionMotor Dev.clrW
  refine TurnKept.trans ?_ (Dev.turnKept_put _ (a := aMot m 0x15B) _ (by unfold aMot; omega))
  exact ⟨rfl, rfl, rfl, rfl, rfl, rfl⟩

theorem turnKept_pendEnabled (d : Dev) (code : Nat) : d.TurnKept (d.pendEnabled code) := by
  unfold Dev.pendEnabled
  refine Dev.turnKept_each d _ (fun e t => ?_)
  split
  · exact ⟨rfl, rfl, rfl, rfl, rfl, rfl⟩
  · exact .refl e

theorem turnKept_stampTime (d : Dev) {a : Nat} (h : 0x51 < a) : d.TurnKept (d.stampTime a) :=
  ⟨by simp, by simp, by simp, by simp, by simp,
    (d.w_put32 a 0x51 d.time).trans (by rw [if_neg (by omega), if_neg (by omega)])⟩

theorem turnKept_openGroup (d : Dev) (g : GroupIx) :
    d.TurnKept ((if (d.grp g).running then d.onGrp g (fun x => { x with floorsOnly := true }) else d).resetRR g) := by
  refine TurnKept.trans ?_ (Dev.turnKept_put _ (a := aCba g 6) _ (by unfold aCba; omega))
  split
  · exact ⟨rfl, rfl, rfl, rfl, rfl, rfl⟩
  · exact .refl d

/-- The opening after its flag has set. -/
theorem turnKept_opened (d : Dev) : (((d.put 0x52 (d.w 0x52 + 1)).mirrorSession).putB 0x51 0 true).TurnKept d.openSession := by
  unfold Dev.openSession
  dsimp only
  generalize ((d.put 0x52 (d.w 0x52 + 1)).mirrorSession).putB 0x51 0 true = x
  have hshow := (x.turnKept_stampTime (a := 0x53) (by decide)).trans (Dev.turnKept_raise _ 56)
  have hanchors := hshow.trans (Dev.turnKept_pendEnabled _ 4)
  have hmotors := hanchors.trans (Dev.turnKept_each _ (List.finRange 16) Dev.turnKept_sessionMotor)
  have hedges := hmotors.trans (Dev.turnKept_each _ (List.finRange 24)
    (f := fun d f => d.onFb f Fb.lastEdgeOnly) (fun e f => ⟨rfl, rfl, rfl, rfl, rfl, rfl⟩))
  exact hedges.trans (Dev.turnKept_each _ (List.finRange 4) Dev.turnKept_openGroup)

/-- Where nothing waits and the session's level is the one that CPL_DET has, the receiver's turn does nothing. -/
theorem cplTurn_settled {d : Dev} (he : d.applyPending = d) (hl : d.cplLevel = d.bit 0x51 1) : d.cplTurn = d := by
  unfold Dev.cplTurn Dev.cplQualified Dev.cplHeld
  rw [he, hl, bne_self_eq_false]
  simp

/-- The mirror of SESSION keeps the clock, the tick, the pending edge, and RAW at 1. -/
theorem mirrorSession_kept (d : Dev) : d.mirrorSession.resetN = d.resetN ∧ d.mirrorSession.locked = d.locked ∧
    d.mirrorSession.cycles = d.cycles ∧ d.mirrorSession.tickAt = d.tickAt ∧ d.mirrorSession.cplEdge = d.cplEdge ∧
    (d.bit 0x51 1 = true → d.mirrorSession.bit 0x51 1 = true) := by
  unfold Dev.mirrorSession
  split
  · exact ⟨rfl, rfl, rfl, rfl, rfl, id⟩
  · exact ⟨rfl, rfl, rfl, rfl, rfl, d.bit_setB _ _ _ _⟩

/-- A qualified rise: the clock and the tick stay, and the receiver has nothing more to do in this cycle. -/
theorem cplQualified_rise {d : Dev} (he : d.cplEdge = none) (hh : d.cplHeld true = true) :
    (d.cplQualified true).runs = d.runs ∧ (d.cplQualified true).cycles = d.cycles ∧
      (d.cplQualified true).tickAt = d.tickAt ∧ (d.cplQualified true).cplTurn = d.cplQualified true := by
  have hraw : d.bit 0x51 1 = true := by
    unfold Dev.cplHeld at hh
    simp only [Bool.and_eq_true] at hh
    simpa using hh.1.1.2
  unfold Dev.cplQualified
  rw [hh, he]
  simp only [Bool.not_true, Bool.false_eq_true, if_false, Option.isSome_none]
  split
  · have hkept := d.turnKept_opened
    obtain ⟨hn, hl, hc, hat, hedge, hbit⟩ := (d.put 0x52 (d.w 0x52 + 1)).mirrorSession_kept
    have hraw' : (d.put 0x52 (d.w 0x52 + 1)).bit 0x51 1 = true := (Dev.bit_congr (d.w_put_ne _ (by decide)) 1).trans hraw
    generalize (d.put 0x52 (d.w 0x52 + 1)).mirrorSession = x at *
    have h0 : d.openSession.bit 0x51 0 = true :=
      (Dev.bit_congr hkept.word 0).trans (x.bit_putB_self 0x51 0 true (by decide))
    have h1 : d.openSession.bit 0x51 1 = true :=
      (Dev.bit_congr hkept.word 1).trans ((x.bit_putB_ne 0x51 true (by decide) (by decide) (by decide)).trans (hbit hraw'))
    have hedge' : d.openSession.cplEdge = none := hkept.edge.trans ((x.putB_cplEdge _ _ _).trans (hedge.trans he))
    unfold Dev.cplAct
    rw [if_pos rfl]
    generalize d.openSession = e at *
    refine ⟨?_, hkept.cycles.trans ((x.putB_cycles _ _ _).trans hc), hkept.tickAt.trans ((x.putB_tickAt _ _ _).trans hat),
      Dev.cplTurn_settled ?_ ?_⟩
    · show (e.resetN && e.locked) = (d.resetN && d.locked)
      rw [hkept.resetN, hkept.locked, x.putB_resetN, x.putB_locked, hn, hl]
      rfl
    · unfold Dev.applyPending
      rw [hedge']
    · show e.cplEdge.getD (e.bit 0x51 0) = e.bit 0x51 1
      rw [hedge', h1]
      exact h0
  · have h1 : (d.putB 0x51 2 true).bit 0x51 1 = true := (d.bit_putB_ne 0x51 true (by decide) (by decide) (by decide)).trans hraw
    refine ⟨d.putB_runs 0x51 2 true, d.putB_cycles 0x51 2 true, d.putB_tickAt 0x51 2 true, Dev.cplTurn_settled ?_ h1.symm⟩
    unfold Dev.applyPending
    simp

end Dev

end Sys2Proof.Machine
end

section
/-! Proof of the statement on the trace channels (R276 to R288, R295, R296, R354). -/

namespace Sys2Proof.Machine

open Sys2Proof

namespace Dev

/-! ### A channel after the tick -/

/-- A record made at the turn of a channel is made at the tick. -/
theorem TurnOf.made {t : TraceIx} {d x f : Dev} {r : Rec} (h : TurnOf t d x) (hf : (x.tickChannel t).TickOthers t f)
    (hr : x.noStore = false → (x.tickChannel t).recq = x.recq ++ [r]) : d.Made f r := by
  intro hn
  have hx := h.noStore.trans hn
  obtain ⟨pre, hpre⟩ := h.recq hn
  obtain ⟨post, hpost⟩ := hf.recq ((x.tickChannel_step t).noStore.trans hx)
  exact ⟨pre, post, by rw [hpost, hr hx, hpre, List.append_assoc, List.append_assoc]; rfl⟩

variable {d x f : Dev} {t : TraceIx}

theorem TurnOf.own (h : TurnOf t d x) {o : Nat} (ho : o < 8) : x.w (aTr t o) = d.w (aTr t o) := by
  have := Dev.aTr_range t ho
  exact h.words _ (Dev.kept_own ho) (by omega) (by omega)

theorem TurnOf.segRec (h : TurnOf t d x) (g : Seg) : x.segRec t g = d.segRec t g :=
  Dev.segRec_congr t g (Dev.fld_congr (h.own (by decide)) 6 0) (by rw [h.trc]) (by rw [h.trc])

/-- What the tick shows of an absent sample. -/
theorem absentSample (h : TurnOf t d x) (hf : (x.traceSampleNow t).TickOthers t f) (hturn : x.tickChannel t = x.traceSampleNow t)
    (hs : d.sampleOf t = none) : f.bit (aTr t 7) 13 = true ∧ f.w (aTr t 6) = d.w (aTr t 6) ∧ (f.trc t).seg = none ∧
      (f.trc t).pend.getLsbD 5 = true ∧ (f.trc t).hiCnt = 0 ∧ (f.trc t).loCnt = 0 ∧
      ∀ g, (d.trc t).seg = some g → 0 < g.c → d.Made f (d.segRec t g) := by
  obtain ⟨habs, hlast, hseg, hpend, hhi, hlo, hrec⟩ := x.sample_none t (h.sample.trans hs)
  rw [hf.trc, hf.words _ (Dev.kept_own (by decide)), Dev.bit_congr (hf.words _ (Dev.kept_own (by decide))) 13, hlast]
  refine ⟨habs, h.own (by decide), hseg, hpend, hhi, hlo, fun g hg hc => h.made (hturn ▸ hf) (fun hn => ?_)⟩
  rw [hturn, hrec hn g (by rw [h.trc]; exact hg) hc, h.segRec]

/-- What the tick shows of an alarm at a present sample. -/
theorem TurnOf.alarm (h : TurnOf t d x) (hf : (x.traceSampleNow t).TickOthers t f) {i n n' : Nat} {rise fall : Bool}
    (ha : x.AlarmStep (x.traceSampleNow t) t i n n' rise fall) : d.AlarmStep f t i n n' rise fall :=
  AlarmStep.of_start (AlarmStep.of_bits ha (Dev.bit_congr (hf.words _ (Dev.kept_own (by decide))) i)
    (fun hc => hf.causes _ _ (by omega) (by omega) hc)) (Dev.bit_congr (h.own (by decide)) i) (h.own (by decide)) (h.own (by decide))

theorem TurnOf.anchorRec (h : TurnOf t d x) (rsn : Nat) (v : Int) : x.anchorRec t rsn v (d.ttick + 1) =
    d.anchorRec t rsn v (d.ttick + 1) := by
  unfold Dev.anchorRec
  rw [Dev.fld_congr (h.words 0x52 (Dev.kept_outside (.inl (by decide)) (by decide)) (by decide) (by decide)) 3 0]

end Dev

/-- A present sample v of channel t as the tick from d to f shows it. -/
structure Dev.PresentAt (t : TraceIx) (v : Int) (d f : Dev) : Prop where
  present : f.bit (aTr t 7) 13 = false
  last : f.w (aTr t 6) = iword v
  vertex : (d.trc t).seg = none → (f.trc t).seg = some (Seg.vertex v (d.ttick + 1)) ∧ (f.trc t).pend = 0 ∧
    d.Made f (d.anchorRec t ((d.trc t).reason.getD 5) v (d.ttick + 1))
  extend : ∀ g, (d.trc t).seg = some g → (d.trc t).pend = 0 → d.fld (aTr t 2) 7 0 = 0 →
    (∀ g', g.extend (f.trc t).e (f.trc t).div v = some g' → (f.trc t).seg = some g') ∧
    (g.extend (f.trc t).e (f.trc t).div v = none →
      (f.trc t).seg = some (Seg.begin g.yc (g.endTick (f.trc t).div) (f.trc t).e v) ∧
      ((f.trc t).div = (d.trc t).div → (f.trc t).e = (d.trc t).e → d.Made f (d.segRec t g)))
  high : d.AlarmStep f t 15 (d.trc t).hiCnt (f.trc t).hiCnt (decide (d.alarmHi t < v)) (decide (v < d.alarmHi t - d.alarmHys t))
  low : d.AlarmStep f t 14 (d.trc t).loCnt (f.trc t).loCnt (decide (v < d.alarmLo t)) (decide (d.alarmLo t + d.alarmHys t < v))

namespace Dev

variable {d x f : Dev} {t : TraceIx}

theorem presentSample (h : TurnOf t d x) (hf : (x.traceSampleNow t).TickOthers t f) (hturn : x.tickChannel t = x.traceSampleNow t)
    {v : Int} (hs : d.sampleOf t = some v) : d.PresentAt t v f := by
  have hstep := x.sample_some t v (h.sample.trans hs)
  have hmade {r : Rec} (hr : x.noStore = false → (x.traceSampleNow t).recq = x.recq ++ [r]) : d.Made f r :=
    h.made (hturn ▸ hf) (by rw [hturn]; exact hr)
  have hHi : x.alarmHi t = d.alarmHi t := by unfold Dev.alarmHi; rw [h.own (by decide), h.own (by decide)]
  have hLo : x.alarmLo t = d.alarmLo t := by unfold Dev.alarmLo; rw [h.own (by decide), h.own (by decide)]
  have hHys : x.alarmHys t = d.alarmHys t := by unfold Dev.alarmHys Dev.fld; rw [h.own (by decide)]
  have htrc := hf.trc
  refine ⟨?_, ?_, fun hseg => ?_, fun g hseg hpend hanch => ?_, ?_, ?_⟩
  · exact (Dev.bit_congr (hf.words _ (Dev.kept_own (by decide))) 13).trans hstep.present
  · exact (hf.words _ (Dev.kept_own (by decide))).trans hstep.last
  · obtain ⟨hs, hp, hr⟩ := hstep.vertex (by rw [h.trc]; exact hseg)
    rw [h.ttick] at hs hr
    rw [h.anchorRec, h.trc] at hr
    rw [htrc]
    exact ⟨hs, hp, hmade hr⟩
  · obtain ⟨hin, hout⟩ := hstep.extend g (by rw [h.trc]; exact hseg) (by rw [h.trc]; exact hpend)
      ((Dev.fld_congr (h.own (by decide)) 7 0).trans hanch)
    rw [h.trc, h.segRec] at hout
    rw [htrc]
    exact ⟨hin, fun hnone => ⟨(hout hnone).1, fun hd he => hmade ((hout hnone).2 hd he)⟩⟩
  · have ha := h.alarm hf hstep.high
    rw [hHi, hHys, h.trc, ← htrc] at ha
    exact ha
  · have ha := h.alarm hf hstep.low
    rw [hLo, hHys, h.trc, ← htrc] at ha
    exact ha

/-- A channel that is enabled and due samples. -/
theorem tickChannel_due (hon : (x.trc t).on = true) (hw : (x.trc t).wait ≤ 1) : x.tickChannel t = x.traceSampleNow t := by
  unfold Dev.tickChannel
  rw [hon, Bool.not_true, if_neg Bool.false_ne_true, if_pos hw]

theorem tickChannel_wait (hon : (x.trc t).on = true) (hw : 1 < (x.trc t).wait) :
    (x.tickChannel t).trc t = { x.trc t with wait := (x.trc t).wait - 1 } := by
  unfold Dev.tickChannel
  rw [hon, Bool.not_true, if_neg Bool.false_ne_true, if_neg (by omega), Dev.onTrc_trc]

theorem tickChannel_off (hon : (x.trc t).on = false) : x.tickChannel t = x := by
  unfold Dev.tickChannel
  rw [hon]
  rfl

/-! ### Writes of the channels' words (R280, R283, R287) -/

theorem word_ext {u v : Word} (h : ∀ i, i < 16 → bitOf u i = bitOf v i) : u = v := BitVec.eq_of_getLsbD_eq h

theorem absentBits_trace (d : Dev) (t : TraceIx) {o : Nat} (h : o < 8) : absentBits d (aTr t o) = 0 := by
  have := Dev.aTr_range t h
  unfold absentBits
  rw [if_neg (by omega), if_neg (by omega), if_neg (by omega), if_neg (by omega)]

/-- TAG and RATE hold what is written to them while the tables are unlocked. -/
theorem merge_traceWord (d : Dev) (t : TraceIx) (v : Word) {o : Nat} (ho : o = 1 ∨ o = 2) (hl : d.locked' = false) :
    d.merge (aTr t o) v = v := by
  have hrow : ∀ t : TraceIx, ((regRow (aTr t 1)).any fun r => (List.range 16).all fun i => (r.mask .rwl).testBit i) = true ∧
      ((regRow (aTr t 2)).any fun r => (List.range 16).all fun i => (r.mask .rwl).testBit i) = true := by decide +kernel
  obtain ⟨r, hr, hall⟩ : ∃ r, regRow (aTr t o) = some r ∧ ((List.range 16).all fun i => (r.mask .rwl).testBit i) = true := by
    rcases ho with rfl | rfl
    · exact (Option.any_eq_true _ _).1 (hrow t).1
    · exact (Option.any_eq_true _ _).1 (hrow t).2
  unfold Dev.merge
  rw [hr]
  refine Dev.word_ext (fun i hi => ?_)
  have htakes : d.takes r i = true := by
    unfold Dev.takes
    rw [hl, List.all_eq_true.1 hall i (List.mem_range.2 hi), Bool.or_comm]
    rfl
  rw [d.bitOf_merged _ _ r hi (by rw [Dev.absentBits_trace d t (by omega)]; exact BitVec.getLsbD_zero), if_pos htakes]

/-- EN of a channel holds what is written to it, locked or not. -/
theorem bitOf_merge_src (d : Dev) (t : TraceIx) (v : Word) : bitOf (d.merge (aTr t 0) v) 15 = bitOf v 15 := by
  obtain ⟨r, hr, hen⟩ : ∃ r, regRow (aTr t 0) = some r ∧ (r.mask .rw).testBit 15 = true :=
    (Option.any_eq_true _ _).1 ((by decide +kernel :
      ∀ t : TraceIx, ((regRow (aTr t 0)).any fun r => (r.mask .rw).testBit 15) = true) t)
  unfold Dev.merge
  rw [hr]
  dsimp only
  rw [d.bitOf_merged _ _ r (by decide) (by rw [Dev.absentBits_trace d t (by decide)]; rfl),
    if_pos (by unfold Dev.takes; rw [hen, Bool.true_or])]

end Dev

end Sys2Proof.Machine
end

section
/-! Proof of the statement on the trace channels, assembled (R276 to R288, R295, R296, R354). -/

namespace Sys2Proof.Machine

open Sys2Proof

namespace Dev

variable (d : Dev) (t : TraceIx)

/-- A change of channel t's values, after its word a was written. -/
theorem put_onTrc_spec (a : Nat) (v : Word) (f : Trace → Trace) : ((d.put a v).onTrc t f).w a = v ∧
    ((d.put a v).onTrc t f).trc t = f (d.trc t) ∧ (∀ u, u ≠ t → ((d.put a v).onTrc t f).trc u = d.trc u) ∧
    d.SameWords ((d.put a v).onTrc t f) [a] :=
  ⟨d.w_put_self a v, Dev.onTrc_trc _ _ _, fun _ hu => Dev.onTrc_trc_ne _ _ hu, d.sameWords_put v List.mem_cons_self⟩

theorem pend_or (x : BitVec 8) {code : Nat} (h : code < 8) : (x ||| (1#8 <<< code)).getLsbD code = true := by
  rw [BitVec.getLsbD_or, BitVec.getLsbD_shiftLeft]
  simp [h]

/-- EN sets (R287). -/
theorem writeTraceSrc_on {v : Word} (hwas : d.bit (aTr t 0) 15 = false) (hv : bitOf v 15 = true) :
    (d.writeTraceSrc t v).bit (aTr t 0) 15 = true ∧ ((d.writeTraceSrc t v).trc t).on = true ∧
      ((d.writeTraceSrc t v).trc t).pend.getLsbD 0 = true ∧
      ((d.writeTraceSrc t v).trc t).wait = ((d.writeTraceSrc t v).trc t).div ∧
      ((d.writeTraceSrc t v).trc t).div = max 1 (d.fld (aTr t 2) 15 8) ∧
      (∀ u, u ≠ t → (d.writeTraceSrc t v).trc u = d.trc u) ∧ d.SameWords (d.writeTraceSrc t v) [aTr t 0] := by
  have heq : d.writeTraceSrc t v = (((d.put (aTr t 0) v).newTraceCfg t).pendAnchor t 0).onTrc t (fun x => { x with on := true, wait := x.div }) := by
    unfold Dev.writeTraceSrc
    rw [hwas, hv]
  have hself : (d.put (aTr t 0) v).bit (aTr t 0) 15 = true := by
    unfold Dev.bit
    rw [d.w_put_self, hv]
  have hdiv : (d.put (aTr t 0) v).fld (aTr t 2) 15 8 = d.fld (aTr t 2) 15 8 :=
    Dev.fld_congr (d.w_put_ne v (by unfold aTr; omega)) 15 8
  have hsame : d.SameWords (d.put (aTr t 0) v) [aTr t 0] := d.sameWords_put v List.mem_cons_self
  have htraces : ∀ u, (d.put (aTr t 0) v).trc u = d.trc u := fun _ => rfl
  rw [heq]
  generalize d.put (aTr t 0) v = x at *
  have hcfg := x.newTraceCfg_trc t
  have hwords : (((x.newTraceCfg t).pendAnchor t 0).onTrc t (fun x => { x with on := true, wait := x.div })).words = x.words := rfl
  have hothers (u : TraceIx) (hu : u ≠ t) : ((x.newTraceCfg t).pendAnchor t 0).trc u = x.trc u :=
    (Dev.onTrc_trc_ne _ _ hu).trans (Dev.onTrc_trc_ne _ _ hu)
  have hpend : ((x.newTraceCfg t).pendAnchor t 0).trc t = { (x.newTraceCfg t).trc t with
      pend := ((x.newTraceCfg t).trc t).pend ||| (1#8 <<< 0) } := Dev.onTrc_trc _ _ _
  rw [hcfg] at hpend
  generalize (x.newTraceCfg t).pendAnchor t 0 = y at *
  rw [Dev.onTrc_trc, hpend]
  exact ⟨(Dev.bit_congr (Dev.w_of_words hwords _) 15).trans hself, rfl, Dev.pend_or _ (by decide), rfl, by rw [hdiv],
    fun u hu => (Dev.onTrc_trc_ne _ _ hu).trans ((hothers u hu).trans (htraces u)),
    hsame.trans (Dev.sameWords_of_words hwords _)⟩

/-- EN clears (R287). -/
theorem writeTraceSrc_off {v : Word} (hwas : d.bit (aTr t 0) 15 = true) (hv : bitOf v 15 = false) :
    (d.writeTraceSrc t v).bit (aTr t 0) 15 = false ∧ ((d.writeTraceSrc t v).trc t).on = false ∧
      ((d.writeTraceSrc t v).trc t).seg = none ∧ ∀ u, u ≠ t → (d.writeTraceSrc t v).trc u = d.trc u := by
  have heq : d.writeTraceSrc t v = (((d.put (aTr t 0) v).flushSeg t).setSeg t none).onTrc t (fun x => { x with on := false }) := by
    unfold Dev.writeTraceSrc
    rw [hwas, hv]
  have hself : (d.put (aTr t 0) v).bit (aTr t 0) 15 = false := by
    unfold Dev.bit
    rw [d.w_put_self, hv]
  have htraces : ∀ u, (d.put (aTr t 0) v).trc u = d.trc u := fun _ => rfl
  rw [heq]
  generalize d.put (aTr t 0) v = x at *
  have hflush := x.compressed_flushSeg t
  obtain ⟨-, hseg, -, -⟩ := (x.flushSeg t).setSeg_spec t none
  have hstep := hflush.trans (Dev.compressed_setSeg _ t none)
  generalize (x.flushSeg t).setSeg t none = y at *
  rw [Dev.onTrc_trc, hseg]
  exact ⟨(Dev.bit_congr (hstep.quiet.step.cfg (by decide) t) 15).trans hself, rfl, rfl,
    fun u hu => (Dev.onTrc_trc_ne _ _ hu).trans ((hstep.quiet.step.others u hu).trans (htraces u))⟩

/-- A configuration word with a change that arms CFG (R287). -/
theorem cfgWrite_spec (o : Nat) (v : Word) : ((d.put (aTr t o) v).pendAnchor t 3).w (aTr t o) = v ∧
    (((d.put (aTr t o) v).pendAnchor t 3).trc t).pend.getLsbD 3 = true ∧
    (∀ u, u ≠ t → ((d.put (aTr t o) v).pendAnchor t 3).trc u = d.trc u) ∧
    d.SameWords ((d.put (aTr t o) v).pendAnchor t 3) [aTr t o] := by
  obtain ⟨hw, htrc, hothers, hsame⟩ := d.put_onTrc_spec t (aTr t o) v (fun x => { x with pend := x.pend ||| (1#8 <<< 3) })
  unfold Dev.pendAnchor
  rw [htrc]
  exact ⟨hw, Dev.pend_or _ (by decide), hothers, hsame⟩

/-- EN stays at 1: the configuration changes (R287). -/
theorem writeTraceSrc_cfg {v : Word} (hwas : d.bit (aTr t 0) 15 = true) (hv : bitOf v 15 = true) :
    ((d.writeTraceSrc t v).trc t).pend.getLsbD 3 = true ∧ (d.writeTraceSrc t v).bit (aTr t 0) 15 = true ∧
      (∀ u, u ≠ t → (d.writeTraceSrc t v).trc u = d.trc u) ∧ d.SameWords (d.writeTraceSrc t v) [aTr t 0] := by
  have heq : d.writeTraceSrc t v = (d.put (aTr t 0) v).pendAnchor t 3 := by
    unfold Dev.writeTraceSrc
    rw [hwas, hv]
  obtain ⟨hw, hpend, hothers, hsame⟩ := d.cfgWrite_spec t 0 v
  rw [heq]
  exact ⟨hpend, by unfold Dev.bit; rw [hw, hv], hothers, hsame⟩

/-- CMD.MARK without EMPTY (R283). -/
theorem writeTraceCmd_mark {v : Word} (ht : bits v 6 0 = t.1) (he : bitOf v 14 = false) :
    d.writeTraceCmd (withBit v 15 true) = d.onTrc t (fun x => { x with pend := x.pend ||| 0x80 }) := by
  have h15 : bitOf (withBit v 15 true) 15 = true := by
    rw [bitOf_withBit v 15 15 true (by decide) (by decide), if_pos rfl]
  have h14 : bitOf (withBit v 15 true) 14 = false := by
    rw [bitOf_withBit v 15 14 true (by decide) (by decide), if_neg (by decide), he]
  have hix : (⟨bits (withBit v 15 true) 6 0 % 128, Nat.mod_lt _ (by decide)⟩ : TraceIx) = t := by
    refine Fin.ext ?_
    show bits (withBit v 15 true) 6 0 % 128 = t.1
    rw [Dev.bits_withBit_ne v true (by decide) (.inl (by decide)) (by decide), ht, Nat.mod_eq_of_lt t.2]
  unfold Dev.writeTraceCmd
  rw [h15, if_pos rfl, hix, h14]
  rfl

end Dev

/-! ### Commands -/

/-- A tick of TIME in which the receiver of CPL_DET has nothing to do. -/
theorem exec_traceTick_settled {s : State} (hr : s.dev.runs = true) (hc : s.dev.tickCycle = true)
    (hat : s.dev.tickAt ≠ s.dev.cycles) (hturn : s.dev.cplTurn = s.dev) : s.dev.tickNow = true ∧
    exec .traceTick s = .next { s with dev := s.dev.traceTick } := by
  have hnow : s.dev.tickNow = true := by
    unfold Dev.tickNow
    rw [hr, hc, decide_eq_true hat]
    rfl
  exact ⟨hnow, (exec_traceTick s hr hnow).trans (by rw [hturn])⟩

/-- The opening of a session comes first in the cycle of a tick. -/
theorem exec_traceTick_opens {s : State} {d : Dev} (hr : s.dev.runs = true) (hc : s.dev.tickCycle = true)
    (hat : s.dev.tickAt ≠ s.dev.cycles) (he : s.dev.cplEdge = none) (hh : s.dev.cplHeld true = true)
    (hd : s.dev.cplQualified true = d) : exec .traceTick s = exec .traceTick { s with dev := d } := by
  obtain ⟨hruns, hcycles, htick, hturn⟩ := Dev.cplQualified_rise he hh
  have hraw : s.dev.bit 0x51 1 = true := by
    unfold Dev.cplHeld at hh
    simp only [Bool.and_eq_true] at hh
    simpa using hh.1.1.2
  have hcycle : d.tickCycle = s.dev.tickCycle := by
    unfold Dev.tickCycle Dev.time
    rw [← hd, hcycles]
  have hnow : s.dev.tickNow = true := by
    unfold Dev.tickNow
    rw [hr, hc, decide_eq_true hat]
    rfl
  have hsettled : s.dev.cplTurn = d := by
    have happly : s.dev.applyPending = s.dev := by unfold Dev.applyPending; rw [he]
    unfold Dev.cplTurn
    rw [happly, hraw, hd]
  rw [hd] at hruns hcycles htick hturn
  obtain ⟨-, hexec⟩ := exec_traceTick_settled (s := { s with dev := d }) (hruns.trans hr) (hcycle.trans hc)
    (by rw [htick, hcycles]; exact hat) hturn
  rw [exec_traceTick s hr hnow, hsettled, hexec]

/-- What a tick shows of every channel. -/
theorem Dev.traceTick_spec {d : Dev} (hnow : d.tickNow = true) : d.traceTick.ttick = d.ttick + 1 ∧
    d.traceTick.tickAt = d.cycles ∧ d.traceTick.motors = d.motors := by
  obtain ⟨x, hx, hf⟩ := d.traceTick_turn 0 hnow
  have hturn := Dev.turnOf_of 0 hx
  have hstep := x.tickChannel_step 0
  have hword (a : Nat) (ha : 0xB400 ≤ a) (hs : ¬ (0xB488 ≤ a ∧ a < 0xB498)) : d.traceTick.w a = x.w a :=
    (hf.words _ (Dev.kept_outside (.inr ha) hs)).trans (hstep.word (.inr ha) hs)
  refine ⟨?_, hf.tickAt.trans (hstep.tickAt.trans hturn.tickAt), hf.motors.trans (hstep.motors.trans hturn.motors)⟩
  rw [← hturn.ttick]
  unfold Dev.ttick Dev.w32
  rw [hword 0xB483 (by decide) (by decide), hword (0xB483 + 1) (by decide) (by decide)]

/-- Settles O44: each channel takes one turn at a tick, between turns of the others that leave what it shows alone. -/
theorem traceChannels : Obligations.TraceChannels := by
  unfold Obligations.TraceChannels
  intro s
  refine ⟨fun t hr hc hat he hh ht => ?_, fun hr hc hat hturn => ?_, fun hc => ?_, fun k t v => ⟨fun hw => ?_,
    fun hw => ⟨fun hwas => ?_, fun hwas => ⟨?_, ?_⟩⟩, fun hw hl hne => ?_, fun hw hl hne => ?_, fun hw hix hempty => ?_⟩⟩
  · obtain rfl : { s with dev := s.dev.cplQualified true } = t := Host.Outcome.next.inj ht
    exact exec_traceTick_opens hr hc hat he hh rfl
  · obtain ⟨hnow, hexec⟩ := exec_traceTick_settled hr hc hat hturn
    obtain ⟨htick, hat', hmot⟩ := Dev.traceTick_spec hnow
    refine ⟨_, hexec, htick, hat', hmot, fun t => ?_⟩
    obtain ⟨x, hx, hf⟩ := s.dev.traceTick_turn t hnow
    have hturn := Dev.turnOf_of t hx
    refine ⟨fun hon => ?_, fun hon hw => ?_, fun hon hw => ?_⟩
    · rw [Dev.tickChannel_off (by rw [hturn.trc]; exact hon)] at hf
      exact hf.trc.trans hturn.trc
    · rw [hf.trc, Dev.tickChannel_wait (by rw [hturn.trc]; exact hon) (by rw [hturn.trc]; exact hw), hturn.trc]
    · have hdue := Dev.tickChannel_due (t := t) (by rw [hturn.trc]; exact hon) (by rw [hturn.trc]; exact hw)
      rw [hdue] at hf
      refine ⟨by rw [hf.trc]; exact (x.sample_step t).2, fun hs => Dev.absentSample hturn hf hdue hs, fun v hs => ?_⟩
      obtain ⟨hpres, hlast, hvert, hext, hhigh, hlow⟩ := Dev.presentSample hturn hf hdue hs
      rw [htick]
      exact ⟨hpres, hlast, hvert, hext, hhigh, hlow⟩
  · have hnow : s.dev.tickNow = false := by
      unfold Dev.tickNow
      rw [hc, Bool.and_false]
      rfl
    show s.onCore (fun d => if d.tickNow then d.cplTurn.traceTick else d) = .next s
    unfold State.onCore
    simp only [hnow, Bool.false_eq_true, if_false, ite_self]
  · obtain ⟨hself, htrc, hothers, hsame⟩ := s.dev.put_onTrc_spec t (0xB400 + t.1) v (fun x => { x with hinAt := some s.dev.hinTick })
    exact ⟨_, State.write_eq (s.dev.fabWrite_hin k v t hw), hself, by rw [Dev.writeHin, htrc], hothers, hsame⟩
  · have hv : bitOf (s.dev.merge (aTr t 0) (withBit v 15 true)) 15 = true := by
      rw [s.dev.bitOf_merge_src, bitOf_withBit v 15 15 true (by decide) (by decide), if_pos rfl]
    exact ⟨_, State.write_eq (s.dev.fabWrite_traceSrc k _ t hw), s.dev.writeTraceSrc_on t hwas hv⟩
  · have hv : bitOf (s.dev.merge (aTr t 0) (withBit v 15 false)) 15 = false := by
      rw [s.dev.bitOf_merge_src, bitOf_withBit v 15 15 false (by decide) (by decide), if_pos rfl]
    exact ⟨_, State.write_eq (s.dev.fabWrite_traceSrc k _ t hw), s.dev.writeTraceSrc_off t hwas hv⟩
  · have hv : bitOf (s.dev.merge (aTr t 0) (withBit v 15 (s.dev.bit (aTr t 0) 15))) 15 = true := by
      rw [s.dev.bitOf_merge_src, bitOf_withBit v 15 15 _ (by decide) (by decide), if_pos rfl, hwas]
    exact ⟨_, State.write_eq (s.dev.fabWrite_traceSrc k _ t hw), s.dev.writeTraceSrc_cfg t hwas hv⟩
  · refine ⟨_, State.write_eq ((s.dev.fabWrite_traceTag k v t hw).trans ?_), s.dev.cfgWrite_spec t 1 v⟩
    rw [hl, s.dev.merge_traceWord t v (.inl rfl) hl]
    unfold Dev.writeTraceTag
    simp [hne]
  · refine ⟨_, State.write_eq ((s.dev.fabWrite_traceRate k v t hw).trans ?_), s.dev.cfgWrite_spec t 2 v⟩
    rw [hl, s.dev.merge_traceWord t v (.inr rfl) hl]
    unfold Dev.writeTraceRate
    simp [hne]
  · exact State.write_eq ((s.dev.fabWrite_traceCmd k _ hw).trans (s.dev.writeTraceCmd_mark t hix hempty))

end Sys2Proof.Machine
end

section
/-! A host port between its transactions: what the commit of a held word, and a device fault that it may find, leave of a port
that waits for nothing (R392, R396, R404). -/

namespace Sys2Proof.Machine

open Sys2Proof

/-- The port waits for no word and holds no transaction back. -/
def HostPort.AtRest (x : HostPort) : Prop := x.reading = none ∧ x.parked = none

/-- From x to y the port has begun no wait, sent nothing, and kept its page. -/
def HostPort.Kept (x y : HostPort) : Prop := y.AtRest ∧ y.sent = x.sent ∧ y.page = x.page

/-- Ports at rest stay so, with what they have sent and their pages. -/
def Dev.KeepsRest (d e : Dev) : Prop := ∀ j, (d.hp j).AtRest → (d.hp j).Kept (e.hp j)

namespace Dev

theorem KeepsRest.refl (d : Dev) : d.KeepsRest d := fun _ h => ⟨h, rfl, rfl⟩

theorem KeepsRest.trans {c d e : Dev} (h : c.KeepsRest d) (h' : d.KeepsRest e) : c.KeepsRest e := by
  intro j hj
  obtain ⟨hrest, hsent, hpage⟩ := h j hj
  obtain ⟨hrest', hsent', hpage'⟩ := h' j hrest
  exact ⟨hrest', hsent'.trans hsent, hpage'.trans hpage⟩

theorem KeepsRest.ite {c : Prop} [Decidable c] {d x y : Dev} (hx : d.KeepsRest x) (hy : d.KeepsRest y) :
    d.KeepsRest (if c then x else y) := by split <;> assumption

theorem KeepsRest.of_ports {d e : Dev} (h : e.ports = d.ports) : d.KeepsRest e := by
  intro j hj
  have hp : e.hp j = d.hp j := by unfold Dev.hp; rw [h]
  rw [hp]
  exact ⟨hj, rfl, rfl⟩

theorem SameClock.keepsRest {d e : Dev} (h : d.SameClock e) : d.KeepsRest e := .of_ports h.2

variable (d : Dev)

theorem keepsRest_each {α : Type} (l : List α) (f : Dev → α → Dev) (h : ∀ (e : Dev) (a : α), e.KeepsRest (f e a)) :
    d.KeepsRest (d.each l f) :=
  Dev.each_inv (P := fun e => d.KeepsRest e) l d (.refl d) (fun e a he => he.trans (h e a))

/-- A change of one port that begins no wait. -/
theorem keepsRest_onHp (k : HostIx) (f : HostPort → HostPort) (hf : ∀ x : HostPort, x.AtRest → x.Kept (f x)) :
    d.KeepsRest (d.onHp k f) := by
  intro j hj
  by_cases h : j = k
  · subst h
    rw [d.onHp_hp]
    exact hf _ hj
  · rw [d.onHp_hp_ne f h]
    exact ⟨hj, rfl, rfl⟩

/-! ### A write over the fabric -/

theorem keepsRest_commitEvent (a : Nat) (v mv : Word) : d.KeepsRest (d.commitEvent a v mv) := by
  have hclear (k : HostIx) (q : Nat) : d.KeepsRest (d.clearPend k q v) := by
    unfold Dev.clearPend
    dsimp only
    refine .ite (.trans ?_ (Dev.keepsRest_onHp _ k _ fun _ h => ⟨h, rfl, rfl⟩)) ?_
    all_goals exact .of_ports rfl
  unfold Dev.commitEvent
  exact .ite (hclear _ _) (.ite (.of_ports rfl) (d.clock_put a mv).keepsRest)

theorem keepsRest_fabWrite (k : Master) (a : Nat) (v : Word) : d.KeepsRest (d.fabWrite k a v) := by
  unfold Dev.fabWrite
  refine .ite ?_ (.refl d)
  unfold Dev.commit
  split
  · exact .refl d
  · dsimp only
    refine .ite (.refl d) (.ite (d.clock_commitSys k a v _).keepsRest (.ite (d.clock_writeReq _).keepsRest ?_))
    refine .ite (d.keepsRest_commitEvent a v _) (.ite (d.clock_each _ _ Dev.clock_thermRequest).keepsRest ?_)
    refine .ite (d.clock_commitMot a v _).keepsRest (.ite (d.clock_commitSup a v _).keepsRest ?_)
    refine .ite (d.clock_commitGlint a v _).keepsRest (.ite (d.clock_commitPrism a v _).keepsRest ?_)
    refine .ite (d.clock_commitFb a v _).keepsRest (.ite (d.clock_commitTrace a v _).keepsRest ?_)
    refine .ite (d.clock_commitMem a v _).keepsRest (.ite (d.clock_rqGo v).keepsRest ?_)
    exact .ite (d.clock_commitTest a v _).keepsRest (d.clock_put a _).keepsRest

/-! ### A device fault that cuts the host ports (R396) -/

/-- Of the ports only k may change. -/
def OnlyPort (k : HostIx) (d e : Dev) : Prop := ∀ j, j ≠ k → e.hp j = d.hp j

theorem OnlyPort.trans {k : HostIx} {c d e : Dev} (h : c.OnlyPort k d) (h' : d.OnlyPort k e) : c.OnlyPort k e :=
  fun j hj => (h' j hj).trans (h j hj)

theorem OnlyPort.refl (k : HostIx) (d : Dev) : d.OnlyPort k d := fun _ _ => rfl

theorem OnlyPort.of_ports {k : HostIx} {d e : Dev} (h : e.ports = d.ports) : d.OnlyPort k e :=
  fun j _ => by unfold Dev.hp; rw [h]

theorem OnlyPort.ite {c : Prop} [Decidable c] {k : HostIx} {x y : Dev} {d : Dev} (hx : d.OnlyPort k x) (hy : d.OnlyPort k y) :
    d.OnlyPort k (if c then x else y) := by split <;> assumption

theorem onlyPort_onHp (k : HostIx) (f : HostPort → HostPort) : d.OnlyPort k (d.onHp k f) :=
  fun _ hj => d.onHp_hp_ne f hj

theorem onlyPort_each {α : Type} (k : HostIx) (l : List α) (f : Dev → α → Dev) (h : ∀ (e : Dev) (a : α), e.OnlyPort k (f e a)) :
    d.OnlyPort k (d.each l f) :=
  Dev.each_inv (P := fun e => d.OnlyPort k e) l d (.refl k d) (fun e a he => he.trans (h e a))

theorem hostCause_ports (k : HostIx) (bit cnt : Nat) : (d.hostCause k bit cnt).ports = d.ports := by
  unfold Dev.hostCause
  rw [Dev.inc_ports]
  exact (d.clock_cause _ _ _).2

theorem onlyPort_tail (k : HostIx) (x : HostArgs) : d.OnlyPort k ((d.riseFrame k x).hostEnd k) := by
  refine OnlyPort.trans (d := d.riseFrame k x) (.ite (.refl k d) ?_) (.of_ports rfl)
  exact OnlyPort.trans (.of_ports (d.hostCause_ports k 0 4)) (Dev.onlyPort_onHp _ k _)

theorem onlyPort_hostZeros (k : HostIx) (n : Nat) : d.OnlyPort k (d.hostZeros k n) :=
  d.onlyPort_each k _ _ fun e _ => e.onlyPort_onHp k _

theorem onlyPort_cutReading (k : HostIx) (r : OpenRead) : d.OnlyPort k (d.cutReading k r) := by
  have hstatus : d.OnlyPort k (d.when (r.next = 0) (fun d => d.statusAgain k false true)) := .ite (d.onlyPort_onHp k _) (.refl k d)
  exact (hstatus.trans (Dev.onlyPort_hostZeros _ k _)).trans (Dev.onlyPort_tail _ k _)

theorem onlyPort_cutParked (k : HostIx) (w : HostWait) : d.OnlyPort k (d.cutParked k w) := by
  have hstatus : d.OnlyPort k (d.statusAgain k w.bad true) := d.onlyPort_onHp k _
  unfold Dev.cutParked
  refine OnlyPort.trans ?_ (Dev.onlyPort_tail _ k _)
  split
  · exact hstatus.trans (Dev.onlyPort_hostZeros _ k _)
  · exact .ite (hstatus.trans (Dev.onlyPort_hostZeros _ k _))
      (hstatus.trans (Dev.onlyPort_each _ k _ _ fun e _ => e.onlyPort_onHp k _))
  · exact hstatus

theorem keepsRest_cutPort (k : HostIx) (cut : Bool) : d.KeepsRest (d.cutPort k cut) := by
  intro j hj
  by_cases h : j = k
  · subst h
    obtain ⟨hread, hpark⟩ := hj
    unfold Dev.cutPort
    dsimp only
    rw [hread, hpark]
    dsimp only
    rw [Dev.onHp_hp]
    exact ⟨⟨rfl, rfl⟩, rfl, rfl⟩
  · have honly : d.OnlyPort k (d.cutPort k cut) := by
      unfold Dev.cutPort
      dsimp only
      split
      · exact (d.onlyPort_onHp k _).trans (Dev.onlyPort_cutReading _ k _)
      · exact (d.onlyPort_onHp k _).trans (Dev.onlyPort_cutParked _ k _)
      · exact d.onlyPort_onHp k _
    rw [honly j h]
    exact ⟨hj, rfl, rfl⟩

theorem keepsRest_faultBlocks (cut : Vector Bool 4) : d.KeepsRest (d.faultBlocks cut) := by
  unfold Dev.faultBlocks Dev.actBlocks
  refine KeepsRest.trans ?_ (Dev.clock_loadFails _).keepsRest
  refine KeepsRest.trans ?_ (Dev.clock_bistEnd _ 4).keepsRest
  refine KeepsRest.trans ?_ (Dev.clock_linkFault _).keepsRest
  refine KeepsRest.trans ?_ (Dev.clock_rqEnd _ 3 0).keepsRest
  refine KeepsRest.trans ?_ (Dev.clock_memFault _).keepsRest
  refine KeepsRest.trans ?_ (Dev.keepsRest_each _ _ _ fun e k => e.keepsRest_cutPort k _)
  refine SameClock.keepsRest ?_
  refine Dev.SameClock.trans ?_ (Dev.clock_each _ _ _ Dev.clock_faultTrace)
  refine Dev.SameClock.trans ?_ (Dev.clock_each _ _ _ Dev.clock_faultFb)
  refine Dev.SameClock.trans ?_ (Dev.clock_each _ _ _ Dev.clock_faultPrism)
  refine Dev.SameClock.trans ?_ (Dev.clock_each _ _ _ Dev.clock_faultGrants)
  exact Dev.clock_each _ _ _ Dev.clock_faultMotor

theorem keepsRest_fault (finds : List DfFind) (cut : Vector Bool 4) : d.KeepsRest (d.fault finds cut) := by
  have hcauses := (d.clock_faultCauses finds).keepsRest
  unfold Dev.fault
  dsimp only
  generalize d.faultCauses finds = e at hcauses ⊢
  refine .ite hcauses (hcauses.trans ?_)
  refine KeepsRest.trans ?_ (Dev.clock_cplAfter _).keepsRest
  exact (e.clock_faultStamp _).keepsRest.trans (Dev.keepsRest_faultBlocks _ cut)

/-! ### The commit of held words, and the fall of HCSk_N (R392, R394, R404) -/

theorem keepsRest_commitHeld (k : HostIx) : d.KeepsRest (d.commitHeld k) := by
  have hwrite (e : Dev) (h : HeldWord) : e.KeepsRest (e.hostCommit k h) := by
    have hword : e.KeepsRest (e.writeWord (hostMaster k) h.addr.toNat h.v h.err (cutOf k)) := by
      unfold Dev.writeWord
      refine .ite (e.keepsRest_fabWrite _ _ _) ?_
      split
      · exact e.keepsRest_fabWrite _ _ _
      · exact (e.keepsRest_fabWrite _ _ _).trans (Dev.clock_ceFound _ 2 _).keepsRest
      · exact e.keepsRest_fault _ _
    exact .ite (hword.trans (Dev.keepsRest_onHp _ k _ fun _ h => ⟨h, rfl, rfl⟩)) hword
  unfold Dev.commitHeld
  split
  · exact .refl d
  · refine KeepsRest.trans ?_ (hwrite _ _)
    exact d.keepsRest_onHp k _ fun _ h => ⟨h, rfl, rfl⟩

/-- After the fall of HCSk_N port k waits for nothing. -/
theorem hostStart_rest (k : HostIx) : ((d.hostStart k).hp k).AtRest := by
  have hclose : ((d.hostClose k).hp k).AtRest := by
    unfold Dev.hostClose
    dsimp only
    split
    · have hend (e : Dev) : (e.hostEnd k).hp k = e.hp k := rfl
      rw [hend, Dev.onHp_hp]
      exact ⟨rfl, rfl⟩
    next h =>
      rw [Bool.or_eq_true, not_or] at h
      exact ⟨by simpa using h.1, by simpa using h.2⟩
  have hcommit : (d.hostClose k).KeepsRest ((d.hostClose k).when (d.hostClose k).runs
      (fun d => d.each (d.hp k).held (fun d _ => d.commitHeld k))) :=
    .ite (Dev.keepsRest_each _ _ _ fun e _ => e.keepsRest_commitHeld k) (.refl _)
  unfold Dev.hostStart
  dsimp only
  generalize (d.hostClose k).when (d.hostClose k).runs (fun d => d.each (d.hp k).held (fun d _ => d.commitHeld k)) = e at *
  rw [Dev.onHp_hp]
  exact (hcommit k hclose).1

/-- CRCEN as the transaction takes it is CRCEN as it stands. -/
theorem hostStart_crcOn (k : HostIx) : ((d.hostStart k).hp k).crcOn = (d.hostStart k).crcEn k := by
  unfold Dev.hostStart
  dsimp only
  rw [Dev.onHp_hp]
  rfl

/-- The fall of HCSk_N on a port that has nothing left over. -/
theorem hostStart_idle {k : HostIx} (hr : (d.hp k).AtRest) (hh : (d.hp k).held = []) :
    d.hostStart k = d.onHp k (fun x => { x with crcOn := d.crcEn k }) := by
  obtain ⟨hread, hpark⟩ := hr
  have hclose : d.hostClose k = d := by
    unfold Dev.hostClose
    dsimp only
    rw [hread, hpark]
    rfl
  unfold Dev.hostStart
  rw [hclose]
  unfold Dev.when
  dsimp only
  rw [hh]
  split <;> rfl

end Dev

end Sys2Proof.Machine
end

section
/-! The host transactions that send no word of a memory: their status, their counts and what a wrong CRC leaves (R384 to R388,
R392 to R395, R404). -/

namespace Sys2Proof.Machine

open Sys2Proof

/-! ### Command bytes (R384) -/

theorem hostDecode_cmdByte (a : BitVec 6) : hostDecode (cmdByte 0 a) = .read a ∧ hostDecode (cmdByte 1 a) = .write a ∧
    hostDecode (cmdByte 2 a) = .page a ∧ (a ≠ 1 → a ≠ 0x3F → hostDecode (cmdByte 3 a) = .nop) ∧
    hostDecode (cmdByte 3 1) = .getpage ∧ hostDecode (cmdByte 3 0x3F) = .lanereset := by
  revert a
  decide +kernel

namespace Dev

variable (d : Dev) (k : HostIx)

/-! ### Causes and counts of a port (R393, R394) -/

/-- A fault of the transaction: its cause bit and its count. -/
theorem hostCause_spec {bit cnt : Nat} (hb : bit < 16) (hc : 1 < cnt) (hc' : cnt < 7) :
    (d.hostCause k bit cnt).bit (aHp k 1) bit = true ∧
      (d.hostCause k bit cnt).fld (aHp k cnt) 15 0 = min 65535 (d.fld (aHp k cnt) 15 0 + 1) ∧
      (d.hostCause k bit cnt).w (aHp k 7) = d.w (aHp k 7) ∧ (d.hostCause k bit cnt).motors = d.motors ∧
      d.SameWords (d.hostCause k bit cnt) [aHp k 1, aHp k cnt, aHp k 7] := by
  have hne : aHp k 1 ≠ aHp k cnt := by unfold aHp; omega
  have h7 : aHp k 7 ≠ aHp k cnt ∧ aHp k 7 ≠ aHp k 1 := by unfold aHp; omega
  have hmot : (d.cause (aHp k 1) (1#16 <<< bit) (28 + k.1)).motors = d.motors := by simp [Dev.cause]
  have hbit : (d.cause (aHp k 1) (1#16 <<< bit) (28 + k.1)).bit (aHp k 1) bit = true := by
    rw [Dev.bit_cause, decide_eq_true rfl, Bool.true_and, BitVec.getLsbD_shiftLeft]
    simp [hb]
  have hw : ∀ b, b ≠ aHp k 1 → (d.cause (aHp k 1) (1#16 <<< bit) (28 + k.1)).w b = d.w b := fun b h => d.cause_w_ne _ _ h
  unfold Dev.hostCause
  generalize d.cause (aHp k 1) (1#16 <<< bit) (28 + k.1) = e at hmot hbit hw ⊢
  have hinc := e.sameWords_inc (aHp k cnt)
  refine ⟨(Dev.bit_congr (hinc _ (by simpa using hne)) bit).trans hbit, ?_, ?_, (e.inc_motors _).trans hmot, fun b hb => ?_⟩
  · rw [e.fld_inc_self, Dev.fld_congr (hw _ hne.symm)]
  · rw [hinc _ (by simpa using h7.1), hw _ h7.2]
  · simp only [List.mem_cons, List.not_mem_nil, or_false, not_or] at hb
    rw [hinc _ (by simpa using hb.2.1), hw _ hb.1]

/-- A transaction that ends is counted (R404). -/
theorem hostEnd_spec : (d.hostEnd k).w (aHp k 7) = d.w (aHp k 7) + 1 ∧ (∀ a, a ≠ aHp k 7 → (d.hostEnd k).w a = d.w a) ∧
    (d.hostEnd k).ports = d.ports ∧ (d.hostEnd k).motors = d.motors :=
  ⟨d.w_put_self _ _, fun _ ha => d.w_put_ne _ ha, rfl, rfl⟩

/-- A fault of the transaction, counted with the transaction's end. -/
theorem hostCause_end {bit cnt : Nat} (hb : bit < 16) (hc : 1 < cnt) (hc' : cnt < 7) (f : HostPort → HostPort) :
    let e := ((d.hostCause k bit cnt).onHp k f).hostEnd k
    e.bit (aHp k 1) bit = true ∧ e.fld (aHp k cnt) 15 0 = min 65535 (d.fld (aHp k cnt) 15 0 + 1) ∧
      e.w (aHp k 7) = d.w (aHp k 7) + 1 ∧ e.motors = d.motors ∧ e.hp k = f (d.hp k) ∧
      d.SameWords e [aHp k 1, aHp k cnt, aHp k 7] := by
  obtain ⟨hbit, hcnt, h7, hmot, hsame⟩ := d.hostCause_spec k hb hc hc'
  have hports := d.hostCause_ports k bit cnt
  generalize d.hostCause k bit cnt = x at hbit hcnt h7 hmot hsame hports ⊢
  have hne1 : aHp k 1 ≠ aHp k 7 := by unfold aHp; omega
  have hnec : aHp k cnt ≠ aHp k 7 := by unfold aHp; omega
  have hx : (x.onHp k f).hp k = f (d.hp k) := by rw [x.onHp_hp]; unfold Dev.hp; rw [hports]
  have hw : ∀ a, (x.onHp k f).w a = x.w a := fun _ => rfl
  have hmot' : (x.onHp k f).motors = x.motors := rfl
  generalize x.onHp k f = y at hx hw hmot' ⊢
  obtain ⟨hend, hothers, hp, hm⟩ := y.hostEnd_spec k
  refine ⟨(Dev.bit_congr ((hothers _ hne1).trans (hw _)) bit).trans hbit,
    (Dev.fld_congr ((hothers _ hnec).trans (hw _)) 15 0).trans hcnt, ?_, hm.trans (hmot'.trans hmot), ?_, fun a ha => ?_⟩
  · rw [hend, hw, h7]
  · rw [← hx]; unfold Dev.hp; rw [hp]
  · have ha7 : a ≠ aHp k 7 := by simp only [List.mem_cons, List.not_mem_nil, or_false, not_or] at ha; exact ha.2.2
    rw [hothers a ha7, hw, hsame a ha]

/-! ### A transaction from its status byte on (R385) -/

theorem hostFinish_rest {e : Dev} (h : (e.hp k).AtRest) : e.hostFinish k = e.hostEnd k := by
  unfold Dev.hostFinish
  rw [h.1]
  rfl

variable {d k}

/-- A transaction with a right C1, or none, while ck_core runs. -/
theorem hostCmd_good {cmd c1 : Byte} {x : HostArgs} (hn : d.resetN = true) (hc : (d.hostStart k).c1Bad k cmd c1 = false)
    (hr : ((d.hostStart k).runs || hostDecode cmd = .nop) = true) :
    d.hostCmd k cmd c1 .done x = ((d.hostStart k).hostBegin k false).hostData k cmd false x := by
  have hbad : ((d.hostStart k).crcEn k && decide (c1 ≠ crc8 [cmd])) = false := hc
  have hrun : ((d.hostStart k).hostBegin k false).runs = (d.hostStart k).runs := rfl
  have hearly : ¬ HostRise.done = .early := by decide
  have hclock : ¬ HostRise.done = .clock := by decide
  unfold Dev.hostCmd Dev.hostOpen
  dsimp only
  rw [hn, Bool.not_true, if_neg Bool.false_ne_true, if_neg hclock, hbad, if_neg hearly, if_neg Bool.false_ne_true, hrun, if_pos hr]

/-- A WRITE with a wrong C1 acts on nothing (R393). -/
theorem hostCmd_wrong {a : BitVec 6} {c1 : Byte} {x : HostArgs} (hn : d.resetN = true) (hx : x.rise = .boundary)
    (hc : (d.hostStart k).c1Bad k (cmdByte 1 a) c1 = true) :
    d.hostCmd k (cmdByte 1 a) c1 .done x = (((d.hostStart k).hostBegin k true).hostCause k 1 5).hostEnd k := by
  have hbad : ((d.hostStart k).crcEn k && decide (c1 ≠ crc8 [cmdByte 1 a])) = true := hc
  have hdec := (hostDecode_cmdByte a).2.1
  have hrest : ((((d.hostStart k).hostBegin k true).hostCause k 1 5).hp k).AtRest := by
    have hbegin : (((d.hostStart k).hostBegin k true).hp k).AtRest := by
      unfold Dev.hostBegin
      dsimp only
      rw [Dev.onHp_hp]
      exact d.hostStart_rest k
    have hport : (((d.hostStart k).hostBegin k true).hostCause k 1 5).hp k = ((d.hostStart k).hostBegin k true).hp k := by
      unfold Dev.hp
      rw [Dev.hostCause_ports]
    rw [hport]
    exact hbegin
  have hearly : ¬ HostRise.done = .early := by decide
  have hclock : ¬ HostRise.done = .clock := by decide
  unfold Dev.hostCmd Dev.hostOpen
  dsimp only
  rw [hn, Bool.not_true, if_neg Bool.false_ne_true, if_neg hclock, hbad, if_neg hearly, if_pos rfl]
  generalize ((d.hostStart k).hostBegin k true).hostCause k 1 5 = e at hrest ⊢
  unfold Dev.hostData hostParks
  rw [hdec]
  have hend : e.hostFinish k x = e.hostEnd k := by
    unfold Dev.hostFinish Dev.riseFrame
    rw [hrest.1, hx]
    rfl
  dsimp only
  rw [if_pos rfl, hend]
  split <;> rfl

/-- What the first status byte leaves of the port (R388). -/
theorem hostBegin_hp (cmde : Bool) : (d.hostBegin k cmde).hp k = { d.hp k with
    status := d.hostStatus k cmde, waits := [], sent := [], crcs := [], ahead := []
    faultF := false, frameF := false, undrF := false, dcrceF := false } := Dev.onHp_hp _ _ _

theorem hostBegin_rest (cmde : Bool) : (((d.hostStart k).hostBegin k cmde).hp k).AtRest := by
  rw [Dev.hostBegin_hp]
  exact d.hostStart_rest k

/-- NOP (R384, R385). -/
theorem hostNop {a : BitVec 6} {c1 : Byte} (hn : d.resetN = true) (h1 : a ≠ 1) (h2 : a ≠ 0x3F)
    (hc : (d.hostStart k).c1Bad k (cmdByte 3 a) c1 = false) :
    d.hostSpecial k a c1 .done 0 = ((d.hostStart k).hostBegin k false).hostEnd k := by
  have hdec := (hostDecode_cmdByte a).2.2.2.1 h1 h2
  unfold Dev.hostSpecial
  rw [hdec]
  dsimp only
  rw [Dev.hostCmd_good hn hc (by rw [hdec]; simp)]
  unfold Dev.hostData
  rw [hdec]
  exact Dev.hostFinish_rest k (Dev.hostBegin_rest false)

end Dev

end Sys2Proof.Machine
end

section
/-! GETPAGE, PAGE, WRITE and LANERESET (R384, R387, R392 to R395). -/

namespace Sys2Proof.Machine

open Sys2Proof

namespace Dev

variable {d : Dev} {k : HostIx}

/-! ### GETPAGE -/

/-- The port after the two words of the page have gone out. -/
def pageSent (x : HostPort) : HostPort := (x.send (x.page.extractLsb' 0 16)).send ((x.page.extractLsb' 16 2).setWidth 16)

theorem pageWords_two (e : Dev) : (e.pageWords k 2).hp k = Dev.pageSent (e.hp k) ∧ (e.pageWords k 2).motors = e.motors ∧
    (e.pageWords k 2).words = e.words := by
  have heq : e.pageWords k 2 = (e.hostSend k ((e.hp k).page.extractLsb' 0 16)).hostSend k
      (((e.hp k).page.extractLsb' 16 2).setWidth 16) := rfl
  rw [heq]
  refine ⟨?_, rfl, rfl⟩
  unfold Dev.hostSend
  rw [Dev.onHp_hp, Dev.onHp_hp]
  rfl

theorem getpage_spec {c1 : Byte} (hn : d.resetN = true) (hc : (d.hostStart k).c1Bad k (cmdByte 3 1) c1 = false)
    (hr : (d.hostStart k).runs = true) :
    let e := d.hostGetpage k c1 .done
    let d0 := d.hostStart k
    e.hp k = Dev.pageSent ((d0.hostBegin k false).hp k) ∧ e.w (aHp k 7) = d0.w (aHp k 7) + 1 ∧ d0.SameWords e [aHp k 7] ∧
      e.motors = d0.motors := by
  have hdec := (hostDecode_cmdByte 0).2.2.2.2.1
  have heq : d.hostGetpage k c1 .done = ((((d.hostStart k).hostBegin k false).pageWords k 2).hostFinish k { n := 2 }) := by
    unfold Dev.hostGetpage
    rw [Dev.hostCmd_good hn hc (by rw [hr]; rfl)]
    unfold Dev.hostData
    rw [hdec]
    rfl
  obtain ⟨hp, hmot, hwords⟩ := Dev.pageWords_two (k := k) ((d.hostStart k).hostBegin k false)
  have hrest : ((((d.hostStart k).hostBegin k false).pageWords k 2).hp k).AtRest := by
    rw [hp]
    exact Dev.hostBegin_rest false
  dsimp only
  rw [heq]
  have hbegin : ((d.hostStart k).hostBegin k false).words = (d.hostStart k).words := rfl
  have hbeginMot : ((d.hostStart k).hostBegin k false).motors = (d.hostStart k).motors := rfl
  generalize ((d.hostStart k).hostBegin k false).pageWords k 2 = x at hp hmot hwords hrest ⊢
  have hfin : x.hostFinish k { n := 2 } = x.hostEnd k := by
    unfold Dev.hostFinish
    rw [hrest.1]
    rfl
  have hw (a : Nat) : x.w a = (d.hostStart k).w a := Dev.w_of_words (hwords.trans hbegin) a
  obtain ⟨hend, hothers, hports, hm⟩ := x.hostEnd_spec k
  rw [hfin]
  refine ⟨?_, by rw [hend, hw], fun a ha => (hothers a (by simpa using ha)).trans (hw a), hm.trans (hmot.trans hbeginMot)⟩
  rw [← hp]
  unfold Dev.hp
  rw [hports]

/-! ### PAGE -/

/-- No device fault falls into a transaction that names none. -/
theorem breakAt_none (l : List Nat) : l.findSome? (breakAt none) = none := by
  induction l with
  | nil => rfl
  | cons i l ih => exact ih

theorem pageData_good (e : Dev) {cmd : Byte} {a : BitVec 6} {w : Word} {more : List Word} {c2 : Byte}
    (h : e.crcEn k = true → more.length < 64 ∧ c2 = crc8 (cmd :: bytesOf (w :: more))) :
    e.pageData k cmd a { ws := w :: more, c2 := c2 } = e.setPage k a w := by
  unfold Dev.pageData
  dsimp only
  cases hen : e.crcEn k with
  | false =>
    have hnone : breakAt none 0 = none := rfl
    rw [if_neg Bool.false_ne_true, hnone, Dev.breakAt_none]
  | true =>
    obtain ⟨hlen, hcrc⟩ := h hen
    have hle : ¬ 64 < (w :: more).length := by rw [List.length_cons]; omega
    unfold Dev.hostProtected
    rw [if_pos rfl, if_neg (by simp), Dev.breakAt_none]
    dsimp only
    rw [List.isEmpty_cons, if_neg Bool.false_ne_true, if_neg hle, if_pos hcrc]

theorem setPage_spec (e : Dev) (a : BitVec 6) (w : Word) :
    (e.setPage k a w).hp k = { e.hp k with page := if a.extractLsb' 2 4 = 0 then a.extractLsb' 0 2 ++ w else (e.hp k).page } ∧
      (∀ j, j ≠ k → (e.setPage k a w).hp j = e.hp j) ∧ (e.setPage k a w).words = e.words ∧
      (e.setPage k a w).motors = e.motors := by
  unfold Dev.setPage
  split
  · exact ⟨Dev.onHp_hp _ _ _, fun _ hj => Dev.onHp_hp_ne _ _ hj, rfl, rfl⟩
  · exact ⟨rfl, fun _ _ => rfl, rfl, rfl⟩

theorem page_spec {a : BitVec 6} {w : Word} {more : List Word} {c1 c2 : Byte} (hn : d.resetN = true)
    (hc : (d.hostStart k).c1Bad k (cmdByte 2 a) c1 = false) (hr : (d.hostStart k).runs = true)
    (h : (d.hostStart k).crcEn k = true → more.length < 64 ∧ c2 = crc8 (cmdByte 2 a :: bytesOf (w :: more))) :
    let e := d.hostPage k a w more c1 c2 .done none
    let d0 := d.hostStart k
    (e.hp k).page = (if a.extractLsb' 2 4 = 0 then a.extractLsb' 0 2 ++ w else (d0.hp k).page) ∧
      (∀ j, j ≠ k → e.hp j = d0.hp j) ∧ d0.SameWords e [aHp k 7] ∧ e.motors = d0.motors := by
  have hdec := (hostDecode_cmdByte a).2.2.1
  have hcrc : ((d.hostStart k).hostBegin k false).crcEn k = (d.hostStart k).crcEn k := rfl
  have heq : d.hostPage k a w more c1 c2 .done none =
      ((((d.hostStart k).hostBegin k false).setPage k a w).hostFinish k { ws := w :: more, c2 := c2 }) := by
    unfold Dev.hostPage
    rw [Dev.hostCmd_good hn hc (by rw [hr]; rfl)]
    unfold Dev.hostData
    rw [hdec]
    exact congrArg (fun e => Dev.hostFinish e k { ws := w :: more, c2 := c2 }) (Dev.pageData_good _ (by rw [hcrc]; exact h))
  have hbegin : ((d.hostStart k).hostBegin k false).words = (d.hostStart k).words := rfl
  have hbeginMot : ((d.hostStart k).hostBegin k false).motors = (d.hostStart k).motors := rfl
  have hbeginHp := Dev.hostBegin_hp (d := d.hostStart k) (k := k) false
  have hbeginNe (j : HostIx) (hj : j ≠ k) : ((d.hostStart k).hostBegin k false).hp j = (d.hostStart k).hp j := Dev.onHp_hp_ne _ _ hj
  have hrest := Dev.hostBegin_rest (d := d) (k := k) false
  dsimp only
  rw [heq]
  generalize (d.hostStart k).hostBegin k false = y at *
  obtain ⟨hp, hne, hwords, hmot⟩ := Dev.setPage_spec (k := k) y a w
  generalize y.setPage k a w = x at *
  have hfin : x.hostFinish k { ws := w :: more, c2 := c2 } = x.hostEnd k := by
    unfold Dev.hostFinish
    rw [hp]
    dsimp only
    rw [hrest.1]
    rfl
  obtain ⟨-, hothers, hports, hm⟩ := x.hostEnd_spec k
  have hhp (j : HostIx) : (x.hostEnd k).hp j = x.hp j := by unfold Dev.hp; rw [hports]
  rw [hfin]
  refine ⟨by rw [hhp, hp, hbeginHp], fun j hj => by rw [hhp, hne j hj, hbeginNe j hj], fun a ha => ?_,
    hm.trans (hmot.trans hbeginMot)⟩
  exact (hothers a (by simpa using ha)).trans (Dev.w_of_words (hwords.trans hbegin) a)

/-! ### WRITE -/

/-- A word that meets no error on the fabric commits as it is. -/
theorem hostCommit_clean (e : Dev) {h : HeldWord} (he : h.err = 0) :
    e.hostCommit k h = e.fabWrite (hostMaster k) h.addr.toNat h.v := by
  have hbad : h.bad = false := by
    unfold HeldWord.bad
    rw [he]
    rfl
  unfold Dev.hostCommit Dev.writeWord
  rw [he, hbad]
  rfl

theorem hostArrive_clean (hs : List HeldWord) (h : ∀ x ∈ hs, x.err = 0) (i : Nat) (e : Dev) :
    Dev.hostArrive k none i hs e = e.each hs (fun d h => d.fabWrite (hostMaster k) h.addr.toNat h.v) := by
  induction hs generalizing i e with
  | nil => rfl
  | cons x hs ih =>
    have hx := h x List.mem_cons_self
    have hbad : x.bad = false := by
      unfold HeldWord.bad
      rw [hx]
      rfl
    have hnone : breakAt none i = none := rfl
    unfold Dev.hostArrive
    rw [hnone]
    dsimp only
    rw [hbad, if_neg Bool.false_ne_true, ih (fun y hy => h y (List.mem_cons_of_mem x hy)), Dev.hostCommit_clean e hx]
    rfl

theorem hostHeld_clean (e : Dev) (a : BitVec 6) (ws : List Word) : ∀ x ∈ e.hostHeld k a [] ws, x.err = 0 := by
  intro x hx
  unfold Dev.hostHeld at hx
  rw [List.mem_mapIdx] at hx
  obtain ⟨i, hi, rfl⟩ := hx
  rfl

theorem write_open {a : BitVec 6} {ws : List Word} {fl : List Flip} {c1 c2 : Byte} (hn : d.resetN = true)
    (hc : (d.hostStart k).c1Bad k (cmdByte 1 a) c1 = false) (hr : (d.hostStart k).runs = true) :
    d.hostWrite k a ws fl c1 c2 .done none =
      (((d.hostStart k).hostBegin k false).writeData k (cmdByte 1 a) a { ws := ws, c2 := c2, flips := fl }).hostFinish k := by
  have hdec := (hostDecode_cmdByte a).2.1
  unfold Dev.hostWrite
  rw [Dev.hostCmd_good hn hc (by rw [hr]; rfl)]
  unfold Dev.hostData
  rw [hdec]
  rfl

/-- Without CRC protection the words commit in order. -/
theorem writeData_plain (e : Dev) {cmd : Byte} {a : BitVec 6} {ws : List Word} {c2 : Byte} (hen : e.crcEn k = false) :
    e.writeData k cmd a { ws := ws, c2 := c2 } =
      e.each (e.hostHeld k a [] ws) (fun d h => d.fabWrite (hostMaster k) h.addr.toNat h.v) := by
  unfold Dev.writeData
  dsimp only
  rw [hen, Bool.not_false, if_pos rfl]
  exact Dev.hostArrive_clean _ (Dev.hostHeld_clean e a ws) 0 e

theorem writeData_protected (e : Dev) {cmd : Byte} {a : BitVec 6} {ws : List Word} {fl : List Flip} {c2 : Byte}
    (hen : e.crcEn k = true) (hne : ws ≠ []) (hlen : ws.length ≤ 64) :
    e.writeData k cmd a { ws := ws, c2 := c2, flips := fl } = (if c2 = crc8 (cmd :: bytesOf ws) then
      (e.onHp k (fun x => { x with held := e.hostHeld k a fl ws })).commitHeld k else e.hostDcrce k) := by
  have hempty : ws.isEmpty = false := by simpa using hne
  unfold Dev.writeData Dev.hostProtected
  dsimp only
  rw [hen, Bool.not_true, if_neg Bool.false_ne_true, if_neg (by simp), Dev.breakAt_none]
  dsimp only
  rw [hempty, if_neg Bool.false_ne_true, if_neg (by omega)]

/-- The first word of a protected WRITE commits, and the port holds the others. -/
theorem commitHeld_first (e : Dev) (a : BitVec 6) (v : Word) (vs : List Word) :
    (e.onHp k (fun x => { x with held := e.hostHeld k a [] (v :: vs) })).commitHeld k =
      (e.onHp k (fun x => { x with held := (e.hostHeld k a [] (v :: vs)).tail })).fabWrite (hostMaster k) (e.hostAddr k a 0).toNat v := by
  have hcons : e.hostHeld k a [] (v :: vs) = ⟨e.hostAddr k a 0, v, 0⟩ :: (e.hostHeld k a [] (v :: vs)).tail := by
    unfold Dev.hostHeld
    rw [List.mapIdx_cons]
    rfl
  generalize (e.hostHeld k a [] (v :: vs)).tail = t at hcons ⊢
  rw [hcons]
  have hheld : ((e.onHp k (fun x => { x with held := ⟨e.hostAddr k a 0, v, 0⟩ :: t })).hp k).held =
      ⟨e.hostAddr k a 0, v, 0⟩ :: t := by rw [Dev.onHp_hp]
  have htwice : (e.onHp k (fun x => { x with held := ⟨e.hostAddr k a 0, v, 0⟩ :: t })).onHp k (fun x => { x with held := t }) =
      e.onHp k (fun x => { x with held := t }) := by
    unfold Dev.onHp upd
    simp
  rw [Dev.commitHeld_held _ hheld, htwice, Dev.hostCommit_clean _ rfl]

end Dev

end Sys2Proof.Machine
end

section
/-! READ: the words that a port fetches, one after another, and those it fetches ahead (R386, R389 to R391). -/

namespace Sys2Proof.Machine

open Sys2Proof

namespace Dev

variable (d : Dev) (k : HostIx)

/-! ### Reads leave the host ports alone -/

theorem each_ports {α : Type} (l : List α) {f : Dev → α → Dev} (h : ∀ (e : Dev) (a : α), (f e a).ports = e.ports) :
    (d.each l f).ports = d.ports :=
  Dev.each_inv (P := fun e => e.ports = d.ports) l d rfl (fun e a he => (h e a).trans he)

theorem readEffect_ports (m : Master) (a : Nat) (v : Word) (l : List (Nat × Word)) : (d.readEffect m a v l).ports = d.ports := by
  have htake : (d.rcTake a v).ports = d.ports := by
    unfold Dev.rcTake
    dsimp only
    split <;> rfl
  have hdraw (e : Dev) : (e.drawChallenge m).ports = e.ports := rfl
  unfold Dev.readEffect
  dsimp only
  generalize d.rcTake a v = e at htake ⊢
  split
  · exact (hdraw e).trans htake
  · exact (e.each_ports l (f := fun d p => d.latch m p.1 p.2) fun _ _ => rfl).trans htake

theorem fabRead_ports (m : Master) (a : Addr) : (d.fabRead m a).ports = d.ports := by
  have hsync := d.clock_memSync.2
  unfold Dev.fabRead
  dsimp only
  split
  · rfl
  · split
    · unfold Dev.winRead
      dsimp only
      generalize d.memSync = e at hsync ⊢
      split
      · exact hsync
      · split
        · exact hsync
        · exact (Dev.clock_memNext _).2.trans hsync
    · exact d.readEffect_ports m _ _ _

theorem loseSlot_ports (n : Nat) : (d.loseSlot n).ports = d.ports := by
  have hbook (e : Dev) (off : Nat) (v : BitVec 32) : (e.book off v).ports = e.ports := (e.clock_book off v).2
  have hclear : (d.clearSlot n).ports = d.ports := rfl
  have hbooks : (((d.clearSlot n).book 2 (-1)).book 6 1).mirrorBooks.ports = d.ports := by
    rw [(Dev.clock_mirrorBooks _).2, hbook, hbook, hclear]
  unfold Dev.loseSlot
  dsimp only
  rw [(Dev.clock_cause _ _ _ _).2]
  split
  · exact hbooks
  · exact hclear

theorem storeFound_ports (n : Nat) (ws : List Decoded) : (d.storeFound n ws).ports = d.ports := by
  have heach := d.each_ports ((List.range ws.length).filter (fun i => ws.getD i .bad = .corrected (ws.getD i .bad).value))
    (f := fun d i => d.ceFound 3 (n + i)) (fun e i => (e.clock_ceFound 3 (n + i)).2)
  unfold Dev.storeFound
  dsimp only
  generalize d.each _ (fun d i => d.ceFound 3 (n + i)) = e at heach ⊢
  split
  next i _ _ =>
    have hue : (e.ueFound 3 (n + i)).ports = d.ports := (e.clock_ueFound 3 (n + i)).2.trans heach
    exact (Dev.loseSlot_ports _ _).trans hue
  · exact heach

theorem storeRead_ports (m : Master) (a : Addr) (errs : List (BitVec 28)) : (d.storeRead m a errs).ports = d.ports := by
  unfold Dev.storeRead
  dsimp only
  split
  · exact d.fabRead_ports m a
  · exact (Dev.storeFound_ports _ _ _).trans (d.readEffect_ports m _ _ _)

/-- A word with no error in its memory. -/
theorem ramRead_clean (n : Nat) (cut : Vector Bool 4) : d.ramRead n 0 cut = (d, false) := by
  unfold Dev.ramRead Dev.ramFound
  split <;> rfl

/-! ### A word in its turn (R389) -/

/-- A word outside the window, with no error in its memory. -/
theorem fetchWord_below (m : Master) {w : Addr} {fl : List Flip} {i : Nat} (cut : Vector Bool 4) (hw : w.toNat < 0x800000)
    (hram : flipOf fl true i = 0) : ∃ e, e.ports = d.ports ∧ (inStore w.toNat = false ∨ d.readOk m w.toNat = false → e = d.fabRead m w) ∧
      d.fetchWord m w fl i cut = (match e.takeFab m w (flipOf fl false i) cut with
        | (_, .lost) => ((d.storeFound w.toNat (d.storeWords m w (slotErrs fl w i))).fault [.fabricUe w] cut, .lost)
        | r => r) := by
  refine ⟨if inStore w.toNat then d.storeRead m w (slotErrs fl w i) else d.fabRead m w, ?_, fun h => ?_, ?_⟩
  · split
    · exact d.storeRead_ports m w _
    · exact d.fabRead_ports m w
  · split
    next hin =>
      have hdark : d.readOk m w.toNat = false := h.resolve_left (by rw [hin]; simp)
      have hnone : d.storeWords m w (slotErrs fl w i) = [] := by
        unfold Dev.storeWords
        dsimp only
        rw [hdark]
        rfl
      unfold Dev.storeRead
      rw [hnone]
      rfl
    · rfl
  · unfold Dev.fetchWord
    dsimp only
    rw [hram, ite_self, d.ramRead_clean]
    dsimp only
    rw [if_neg Bool.false_ne_true, if_neg (by omega)] <;> rfl

/-- A word outside the window with no error at all arrives. -/
theorem fetchWord_clean (m : Master) {w : Addr} {fl : List Flip} {i : Nat} (cut : Vector Bool 4) (hw : w.toNat < 0x800000)
    (h : ∀ ram, flipOf fl ram i = 0) : ∃ e, e.ports = d.ports ∧
      (inStore w.toNat = false ∨ d.readOk m w.toNat = false → e = d.fabRead m w) ∧ d.fetchWord m w fl i cut = (e, .arrived) := by
  obtain ⟨e, hports, hread, heq⟩ := d.fetchWord_below m cut hw (h true)
  refine ⟨e, hports, hread, ?_⟩
  rw [heq, h false]
  rfl

/-! ### A word ahead of its turn (R390) -/

theorem takeAhead_clean (a : Addr) (v : Word) : (d.takeAhead k a v 0).1.ports = d.ports ∧ (d.takeAhead k a v 0).2.1 = .arrived :=
  ⟨rfl, rfl⟩

theorem aheadWord_clean (a : Addr) {fl : List Flip} {i : Nat} (h : ∀ ram, flipOf fl ram i = 0) :
    (d.aheadWord k a fl i).1.ports = d.ports ∧ (d.aheadWord k a fl i).2.1 ≠ .lost := by
  unfold Dev.aheadWord
  dsimp only
  rw [h true, h false, ite_self, d.ramRead_clean]
  dsimp only
  rw [if_neg Bool.false_ne_true]
  split
  · exact ⟨(d.storeFound_ports _ _), by rw [(Dev.takeAhead_clean _ _ _ _).2]; simp⟩
  · have hread := (d.winDrop (hostMaster k)).fabRead_ports (hostMaster k) a
    have hdrop : (d.winDrop (hostMaster k)).ports = d.ports := rfl
    generalize (d.winDrop (hostMaster k)).fabRead (hostMaster k) a = e at hread ⊢
    split
    · exact ⟨hread.trans hdrop, by simp⟩
    · exact ⟨hread.trans hdrop, by rw [(Dev.takeAhead_clean _ _ _ _).2]; simp⟩

/-- What is fetched ahead is not sent, and begins no wait. -/
theorem keepsRest_fetchAhead (a : BitVec 6) (fl : List Flip) (m : Nat) : ∀ (i : Nat) (e : Dev),
    (∀ j, i ≤ j → ∀ ram, flipOf fl ram j = 0) → e.KeepsRest (Dev.fetchAhead k a fl m i e) := by
  induction m with
  | zero => exact fun _ e _ => .refl e
  | succ m ih =>
    intro i e h
    obtain ⟨hports, hlost⟩ := e.aheadWord_clean k (e.hostAddr k a i) (h i (Nat.le_refl i))
    unfold Dev.fetchAhead
    split
    next x v heq =>
      rw [heq] at hports
      refine ((KeepsRest.of_ports hports).trans ?_).trans (ih _ _ fun j hj => h j (by omega))
      exact x.keepsRest_onHp k _ fun _ hx => ⟨hx, rfl, rfl⟩
    next x heq =>
      rw [heq] at hports
      exact .of_ports hports
    next heq =>
      rw [heq] at hlost
      exact absurd rfl hlost

/-! ### The words of a READ -/

/-- A port at rest sends the words `vs`, and stays at rest on its page. -/
def Sends (vs : List Word) (d e : Dev) : Prop :=
  (d.hp k).AtRest → (e.hp k).AtRest ∧ (e.hp k).sent = (d.hp k).sent ++ vs ∧ (e.hp k).page = (d.hp k).page

variable {k}

theorem KeepsRest.sends {d e : Dev} (h : d.KeepsRest e) : Sends k [] d e := by
  intro hd
  obtain ⟨hrest, hsent, hpage⟩ := h k hd
  exact ⟨hrest, by rw [hsent, List.append_nil], hpage⟩

theorem Sends.trans {vs ws : List Word} {c d e : Dev} (h : Sends k vs c d) (h' : Sends k ws d e) : Sends k (vs ++ ws) c e := by
  intro hc
  obtain ⟨hrest, hsent, hpage⟩ := h hc
  obtain ⟨hrest', hsent', hpage'⟩ := h' hrest
  exact ⟨hrest', by rw [hsent', hsent, List.append_assoc], hpage'.trans hpage⟩

theorem sends_hostSend (v : Word) : Sends k [v] d (d.hostSend k v) := by
  intro hd
  unfold Dev.hostSend
  rw [Dev.onHp_hp]
  exact ⟨hd, rfl, rfl⟩

theorem sends_hostZeros (n : Nat) : Sends k (List.replicate n 0) d (d.hostZeros k n) := by
  unfold Dev.hostZeros
  induction n with
  | zero => exact (KeepsRest.refl d).sends
  | succ n ih =>
    rw [List.range_succ, List.replicate_succ', Dev.each, List.foldl_append]
    exact ih.trans (Dev.sends_hostSend _ 0)

/-- A word that is late goes out as 0 (R391). -/
theorem sends_hostLate : Sends k [0] d (d.hostLate k) := by
  have hundr : d.KeepsRest (d.hostUndr k) := by
    refine KeepsRest.trans (.of_ports (d.hostCause_ports k 2 6)) ?_
    exact Dev.keepsRest_onHp _ k _ fun _ h => ⟨h, rfl, rfl⟩
  exact hundr.sends.trans (Dev.sends_hostSend _ 0)

theorem hostAddr_congr {d e : Dev} (h : (e.hp k).page = (d.hp k).page) (a : BitVec 6) (i : Nat) : e.hostAddr k a i = d.hostAddr k a i := by
  unfold Dev.hostAddr
  rw [h]

/-- After the last word the port only fetches ahead. -/
theorem hostWords_zero {a : BitVec 6} {x : HostArgs} (hx : x.fault = none) (hrise : x.rise = .boundary) (i : Nat) (e : Dev)
    (h : ∀ j, i ≤ j → ∀ ram, flipOf x.flips ram j = 0) : e.KeepsRest (Dev.hostWords k a x 0 i e) := by
  have heq : Dev.hostWords k a x 0 i e = Dev.fetchAhead k a x.flips 2 i e := by
    unfold Dev.hostWords breakAt
    rw [hx, hrise]
    rfl
  rw [heq]
  exact Dev.keepsRest_fetchAhead k a x.flips 2 i e h

/-- A READ of n words from word i on sends n words, where none meets an error and none lies in the window. -/
theorem hostWords_sends {a : BitVec 6} {x : HostArgs} (hx : x.fault = none) (hrise : x.rise = .boundary) (hfl : x.flips = [])
    (n : Nat) : ∀ (i : Nat) (e : Dev), (e.hp k).AtRest → (∀ j, i ≤ j → j < i + n → (e.hostAddr k a j).toNat < 0x800000) →
      ∃ vs, vs.length = n ∧ Sends k vs e (Dev.hostWords k a x n i e) := by
  have hclean (j : Nat) (ram : Bool) : flipOf x.flips ram j = 0 := by rw [hfl]; rfl
  induction n with
  | zero => exact fun i e _ _ => ⟨[], rfl, (Dev.hostWords_zero hx hrise i e fun j _ => hclean j).sends⟩
  | succ n ih =>
    intro i e hrest haddr
    have hnone : breakAt x.fault i = none := by rw [hx]; rfl
    have hnext {v : Word} {f : Dev} (hf : Sends k [v] e f) : ∃ vs, vs.length = n + 1 ∧ Sends k vs e (Dev.hostWords k a x n (i + 1) f) := by
      obtain ⟨hfrest, -, hpage⟩ := hf hrest
      obtain ⟨vs, hlen, hsends⟩ := ih (i + 1) f hfrest (fun j hj hj' => by
        rw [Dev.hostAddr_congr hpage]
        exact haddr j (by omega) (by omega))
      exact ⟨v :: vs, by rw [List.length_cons, hlen], hf.trans hsends⟩
    unfold Dev.hostWords
    rw [hnone]
    dsimp only
    split
    · have hports := (e.aheadWord_clean k (e.hostAddr k a i) (fl := []) (i := i) (fun _ => rfl)).1
      exact hnext (v := 0) ((KeepsRest.of_ports hports).sends.trans (Dev.sends_hostLate _))
    · obtain ⟨f, hports, -, heq⟩ := e.fetchWord_clean (hostMaster k) (fl := x.flips) (i := i) (cutOf k)
        (haddr i (Nat.le_refl i) (by omega)) (hclean i)
      rw [heq]
      exact hnext (v := f.fab[hostMaster k]) ((KeepsRest.of_ports hports).sends.trans (Dev.sends_hostSend _ _))

/-- A READ of one word that arrives sends it. -/
theorem hostWords_arrived {a : BitVec 6} {x : HostArgs} (hx : x.fault = none) (hrise : x.rise = .boundary) {e f : Dev}
    (h : ∀ j, 1 ≤ j → ∀ ram, flipOf x.flips ram j = 0)
    (heq : e.fetchWord (hostMaster k) (e.hostAddr k a 0) x.flips 0 (cutOf k) = (f, .arrived)) (hf : e.KeepsRest f) :
    Sends k [f.fab[hostMaster k]] e (Dev.hostWords k a x 1 0 e) := by
  have hnone : breakAt x.fault 0 = none := by rw [hx]; rfl
  have hwords : Dev.hostWords k a x 1 0 e = Dev.hostWords k a x 0 1 (f.hostSend k f.fab[hostMaster k]) := by
    conv_lhs => unfold Dev.hostWords
    rw [hnone]
    dsimp only
    rw [if_neg (by omega), heq]
  rw [hwords]
  have hsend := hf.sends.trans (f.sends_hostSend (k := k) f.fab[hostMaster k])
  exact hsend.trans (Dev.hostWords_zero hx hrise 1 _ h).sends

/-- One that is lost on the fabric ends the READ with 0 and FAULT. -/
theorem hostWords_lost {a : BitVec 6} {x : HostArgs} (hx : x.fault = none) {e f : Dev}
    (heq : e.fetchWord (hostMaster k) (e.hostAddr k a 0) x.flips 0 (cutOf k) = (f, .lost)) :
    Dev.hostWords k a x 1 0 e = f.hostCut k 1 := by
  have hnone : breakAt x.fault 0 = none := by rw [hx]; rfl
  rw [Dev.hostWords, hnone]
  dsimp only
  rw [if_neg (by omega), heq]

end Dev

end Sys2Proof.Machine
end

section
/-! Proof of the statement on the host transactions (R384 to R395, R404). -/

namespace Sys2Proof.Machine

open Sys2Proof

namespace Dev

variable {d : Dev} {k : HostIx}

/-! ### A READ from its status byte to its end -/

theorem keepsRest_hostFinish (e : Dev) {x : HostArgs} (hx : x.rise = .boundary) : e.KeepsRest (e.hostFinish k x) := by
  unfold Dev.hostFinish Dev.riseFrame
  rw [hx, if_pos rfl]
  exact .ite (.refl e) (.of_ports rfl)

theorem read_open {a : BitVec 6} {n : Nat} {late : List Nat} {fl : List Flip} {c1 : Byte} (hn : d.resetN = true)
    (hc : (d.hostStart k).c1Bad k (cmdByte 0 a) c1 = false) (hr : (d.hostStart k).runs = true) :
    d.hostRead k a n late fl c1 .done none =
      (((d.hostStart k).hostBegin k false).readData k a { n := n, late := late, flips := fl }).hostFinish k
        { n := n, late := late, flips := fl } := by
  have hdec := (hostDecode_cmdByte a).1
  unfold Dev.hostRead
  rw [Dev.hostCmd_good hn hc (by rw [hr]; rfl)]
  unfold Dev.hostData
  rw [hdec]
  rfl

theorem readData_words (e : Dev) {a : BitVec 6} {x : HostArgs} (hn : x.n ≠ 0) : e.readData k a x = Dev.hostWords k a x x.n 0 e := by
  unfold Dev.readData
  rw [if_neg (fun h => hn h.1)]

/-- A READ of n words sends n words. -/
theorem readData_sends (e : Dev) {a : BitVec 6} {x : HostArgs} (hx : x.fault = none) (hrise : x.rise = .boundary)
    (hfl : x.flips = []) (hrest : (e.hp k).AtRest) (haddr : ∀ i, i < x.n → (e.hostAddr k a i).toNat < 0x800000) :
    ∃ vs, vs.length = x.n ∧ Sends k vs e (e.readData k a x) := by
  by_cases hn : x.n = 0
  · have hahead : e.KeepsRest (e.readData k a x) := by
      have hfetch := Dev.keepsRest_fetchAhead k a x.flips 2 0 e (fun j _ ram => by rw [hfl]; rfl)
      unfold Dev.readData
      rw [if_pos ⟨hn, by rw [hrise]; simp⟩]
      dsimp only
      refine .ite (hfetch.trans ?_) hfetch
      exact Dev.keepsRest_onHp _ k _ fun _ h => ⟨h, rfl, rfl⟩
    exact ⟨[], hn.symm, hahead.sends⟩
  · rw [e.readData_words hn]
    exact Dev.hostWords_sends hx hrise hfl x.n 0 e hrest (fun j _ hj => haddr j (by omega))

/-- A port that begins a transaction sends what the rest of the transaction sends. -/
theorem sent_of_begin {vs : List Word} {f : Dev} {x : HostArgs} (hx : x.rise = .boundary)
    (h : Sends k vs ((d.hostStart k).hostBegin k false) f) : ((f.hostFinish k x).hp k).sent = vs ∧
      ((f.hostFinish k x).hp k).page = ((d.hostStart k).hp k).page ∧ (f.hp k).AtRest := by
  obtain ⟨hrest, hsent, hpage⟩ := h (Dev.hostBegin_rest false)
  obtain ⟨-, hs, hp⟩ := f.keepsRest_hostFinish (k := k) hx k hrest
  rw [Dev.hostBegin_hp] at hsent hpage
  exact ⟨hs.trans hsent, hp.trans hpage, hrest⟩

/-! ### What a word returns (R16, R389) -/

theorem fabRead_dark (e : Dev) (m : Master) {w : Addr} (h : e.readOk m w.toNat = false) : (e.fabRead m w).fab[m] = 0 := by
  unfold Dev.fabRead
  dsimp only
  rw [h, Bool.not_false, if_pos rfl]
  exact Dev.putFab_fab_self _ _ _

theorem fabRead_peek (e : Dev) (m : Master) {w : Addr} (h : e.readOk m w.toNat = true) (hw : w.toNat < 0x800000) :
    (e.fabRead m w).fab[m] = e.peek m w.toNat := by
  unfold Dev.fabRead
  dsimp only
  rw [h, Bool.not_true, if_neg Bool.false_ne_true, if_neg (by omega)]
  exact Dev.putFab_fab_self _ _ _

theorem inStore_below {n : Nat} (h : n < 0x100000) : inStore n = false := by
  unfold inStore
  simp
  omega

theorem ceFound_fab (e : Dev) (c a : Nat) : (e.ceFound c a).fab = e.fab := by
  have hput : ((e.inc 0x3A).putErr 0x3B c a).fab = e.fab := e.inc_fab 0x3A
  unfold Dev.ceFound
  dsimp only
  generalize (e.inc 0x3A).putErr 0x3B c a = x at hput ⊢
  split
  · exact (Dev.raise_fab _ _).trans hput
  · exact hput

theorem flipOf_first (err : BitVec 28) : flipOf [{ word := 0, ram := false, err := err }] false 0 = err ∧
    flipOf [{ word := 0, ram := false, err := err }] true 0 = 0 ∧
    ∀ j, 1 ≤ j → ∀ ram, flipOf [{ word := 0, ram := false, err := err }] ram j = 0 := by
  refine ⟨rfl, rfl, fun j hj ram => ?_⟩
  unfold flipOf
  have hne : ¬ 0 = j := by omega
  simp [hne]

/-! ### READ (R389, R390, R393) -/

theorem read_words {a : BitVec 6} {n : Nat} {late : List Nat} {c1 : Byte} (hn : d.resetN = true)
    (hc : (d.hostStart k).c1Bad k (cmdByte 0 a) c1 = false) (hr : (d.hostStart k).runs = true)
    (haddr : ∀ i, i < n → ((d.hostStart k).hostAddr k a i).toNat < 0x800000) :
    let e := d.hostRead k a n late [] c1 .done none
    let d0 := d.hostStart k
    (e.hp k).sent.length = n ∧
      (n = 1 → d0.readOk (hostMaster k) (d0.hostAddr k a 0).toNat = false → (e.hp k).sent = [0]) ∧
      (n = 1 → d0.readOk (hostMaster k) (d0.hostAddr k a 0).toNat = true → (d0.hostAddr k a 0).toNat < 0x100000 →
        (e.hp k).sent = [(d0.hostBegin k false).peek (hostMaster k) (d0.hostAddr k a 0).toNat]) ∧
      (e.hp k).page = (d0.hp k).page := by
  have hpage : (((d.hostStart k).hostBegin k false).hp k).page = ((d.hostStart k).hp k).page := by rw [Dev.hostBegin_hp]
  have hsame (i : Nat) := Dev.hostAddr_congr hpage a i
  have hok (b : Nat) : ((d.hostStart k).hostBegin k false).readOk (hostMaster k) b = (d.hostStart k).readOk (hostMaster k) b := rfl
  obtain ⟨vs, hlen, hsends⟩ := ((d.hostStart k).hostBegin k false).readData_sends (k := k) (a := a)
    (x := { n := n, late := late, flips := [] }) rfl rfl rfl (Dev.hostBegin_rest false) (fun i hi => by rw [hsame]; exact haddr i hi)
  obtain ⟨hsent, hpg, -⟩ := Dev.sent_of_begin (x := { n := n, late := late, flips := [] }) rfl hsends
  have hone (h1 : n = 1) : ∃ f, (inStore ((d.hostStart k).hostAddr k a 0).toNat = false ∨
        (d.hostStart k).readOk (hostMaster k) ((d.hostStart k).hostAddr k a 0).toNat = false →
        f = ((d.hostStart k).hostBegin k false).fabRead (hostMaster k) ((d.hostStart k).hostAddr k a 0)) ∧
      ((d.hostRead k a n late [] c1 .done none).hp k).sent = [f.fab[hostMaster k]] := by
    subst h1
    obtain ⟨f, hports, hread, hfetch⟩ := ((d.hostStart k).hostBegin k false).fetchWord_clean (hostMaster k)
      (w := (d.hostStart k).hostAddr k a 0) (fl := []) (i := 0) (cutOf k) (haddr 0 (by omega)) (fun _ => rfl)
    refine ⟨f, hread, ?_⟩
    rw [← hsame 0] at hfetch
    have hwords := Dev.hostWords_arrived (x := { n := 1, late := late, flips := [] }) rfl rfl (fun _ _ _ => rfl) hfetch
      (KeepsRest.of_ports hports)
    rw [Dev.read_open hn hc hr, Dev.readData_words _ (by simp)]
    exact (Dev.sent_of_begin rfl hwords).1
  refine ⟨?_, fun h1 hdark => ?_, fun h1 hlit hlow => ?_, ?_⟩
  · rw [Dev.read_open hn hc hr, hsent]
    exact hlen
  · obtain ⟨f, hread, hsent1⟩ := hone h1
    rw [hsent1, hread (.inr hdark), Dev.fabRead_dark _ _ ((hok _).trans hdark)]
  · obtain ⟨f, hread, hsent1⟩ := hone h1
    rw [hsent1, hread (.inl (Dev.inStore_below hlow)), Dev.fabRead_peek _ _ ((hok _).trans hlit) (by omega)]
  · rw [Dev.read_open hn hc hr]
    exact hpg

/-- A refused READ of one word whose 28 bits change on the fabric: the decoder's word, or 0 with FAULT (R18, R396). -/
theorem read_flipped {a : BitVec 6} {late : List Nat} {c1 : Byte} {err : BitVec 28} (hn : d.resetN = true)
    (hc : (d.hostStart k).c1Bad k (cmdByte 0 a) c1 = false) (hr : (d.hostStart k).runs = true)
    (haddr : ((d.hostStart k).hostAddr k a 0).toNat < 0x800000)
    (hdark : (d.hostStart k).readOk (hostMaster k) ((d.hostStart k).hostAddr k a 0).toNat = false) :
    let e := d.hostRead k a 1 late [{ word := 0, ram := false, err := err }] c1 .done none
    (∀ v, decode28 (encode28 0 ^^^ err) = .corrected v → (e.hp k).sent = [v]) ∧
      (decode28 (encode28 0 ^^^ err) = .bad → (e.hp k).sent = [0] ∧ (e.hp k).faultF = true ∧ e.bit 0x32 2 = true) := by
  obtain ⟨herr, hram, hlater⟩ := Dev.flipOf_first err
  have hpage : (((d.hostStart k).hostBegin k false).hp k).page = ((d.hostStart k).hp k).page := by rw [Dev.hostBegin_hp]
  have hsame := Dev.hostAddr_congr hpage a 0
  have hdark' : ((d.hostStart k).hostBegin k false).readOk (hostMaster k) ((d.hostStart k).hostAddr k a 0).toNat = false := hdark
  have hruns : ((d.hostStart k).hostBegin k false).runs = true := hr
  obtain ⟨f, hports, hread, hfetch⟩ := ((d.hostStart k).hostBegin k false).fetchWord_below (hostMaster k)
    (w := (d.hostStart k).hostAddr k a 0) (fl := [{ word := 0, ram := false, err := err }]) (i := 0) (cutOf k) haddr hram
  have hzero : f.fab[hostMaster k] = 0 := by rw [hread (.inr hdark), Dev.fabRead_dark _ _ hdark']
  have hnone : ((d.hostStart k).hostBegin k false).storeWords (hostMaster k) ((d.hostStart k).hostAddr k a 0)
      (slotErrs [{ word := 0, ram := false, err := err }] ((d.hostStart k).hostAddr k a 0) 0) = [] := by
    unfold Dev.storeWords
    dsimp only
    rw [hdark']
    rfl
  have hne (h : decode28 (encode28 0 ^^^ err) ≠ .clean 0) : ¬ err = 0 := by
    rintro rfl
    exact h ((congrArg decode28 BitVec.xor_zero).trans (decode28_encode28 0))
  rw [herr, hnone] at hfetch
  rw [← hsame] at hfetch
  dsimp only
  rw [Dev.read_open hn hc hr, Dev.readData_words _ (by simp)]
  refine ⟨fun v hv => ?_, fun hbad => ?_⟩
  · have htake : f.takeFab (hostMaster k) (((d.hostStart k).hostBegin k false).hostAddr k a 0) err (cutOf k) =
        ((f.putFab (hostMaster k) v).ceFound 2 (((d.hostStart k).hostBegin k false).hostAddr k a 0).toNat, .arrived) := by
      unfold Dev.takeFab
      rw [if_neg (hne (by rw [hv]; simp)), hzero, hv]
    rw [htake] at hfetch
    dsimp only at hfetch
    have hkept : ((d.hostStart k).hostBegin k false).KeepsRest
        ((f.putFab (hostMaster k) v).ceFound 2 (((d.hostStart k).hostBegin k false).hostAddr k a 0).toNat) :=
      .of_ports ((Dev.clock_ceFound _ _ _).2.trans hports)
    have hwords := Dev.hostWords_arrived (x := { n := 1, late := late, flips := [{ word := 0, ram := false, err := err }] })
      rfl rfl hlater hfetch hkept
    rw [Dev.ceFound_fab, Dev.putFab_fab_self] at hwords
    exact (Dev.sent_of_begin rfl hwords).1
  · have htake : (f.takeFab (hostMaster k) (((d.hostStart k).hostBegin k false).hostAddr k a 0) err (cutOf k)).2 = .lost := by
      unfold Dev.takeFab
      rw [if_neg (hne (by rw [hbad]; simp)), hzero, hbad]
    generalize f.takeFab (hostMaster k) (((d.hostStart k).hostBegin k false).hostAddr k a 0) err (cutOf k) = p at hfetch htake
    obtain ⟨g, r⟩ := p
    obtain rfl : r = .lost := htake
    have hfound (n : Nat) : ((d.hostStart k).hostBegin k false).storeFound n [] = (d.hostStart k).hostBegin k false := rfl
    dsimp only at hfetch
    rw [hfound] at hfetch
    have hbit := (Dev.fault_cause hruns (.fabricUe (((d.hostStart k).hostBegin k false).hostAddr k a 0)) (cutOf k)).1
    have hkept := ((d.hostStart k).hostBegin k false).keepsRest_fault
      [.fabricUe (((d.hostStart k).hostBegin k false).hostAddr k a 0)] (cutOf k)
    rw [Dev.hostWords_lost rfl hfetch]
    generalize ((d.hostStart k).hostBegin k false).fault _ (cutOf k) = z at hbit hkept ⊢
    have hcut : Sends k [0] z (z.hostCut k 1) := by
      refine (z.sends_hostZeros (k := k) 1).trans (vs := [0]) (ws := []) (KeepsRest.sends ?_)
      exact Dev.keepsRest_onHp _ k _ fun _ h => ⟨h, rfl, rfl⟩
    have hfault : ((z.hostCut k 1).hp k).faultF = true := by
      unfold Dev.hostCut
      rw [Dev.onHp_hp]
    have hwords : (z.hostCut k 1).words = z.words := rfl
    obtain ⟨hsent, -, hrest⟩ := Dev.sent_of_begin (x := { n := 1, late := late, flips := [{ word := 0, ram := false, err := err }] })
      rfl (hkept.sends.trans hcut)
    refine ⟨hsent, ?_⟩
    have hend : (z.hostCut k 1).hostFinish k { n := 1, late := late, flips := [{ word := 0, ram := false, err := err }] } =
        (z.hostCut k 1).hostEnd k := by
      unfold Dev.hostFinish
      rw [hrest.1]
      rfl
    obtain ⟨-, hothers, hp, -⟩ := (z.hostCut k 1).hostEnd_spec k
    rw [hend]
    refine ⟨?_, (Dev.bit_congr ((hothers 0x32 (by unfold aHp; omega)).trans (Dev.w_of_words hwords _)) 2).trans hbit⟩
    unfold Dev.hp at hfault ⊢
    rw [hp]
    exact hfault

end Dev

/-! ### Faults of a transaction (R393, R394) -/

namespace Dev

variable {d : Dev} {k : HostIx}

theorem onHp_id (e : Dev) : e.onHp k id = e := by
  unfold Dev.onHp upd
  simp

/-- A wrong C1 (R393). -/
theorem wrongC1_spec : let e := (((d.hostStart k).hostBegin k true).hostCause k 1 5).hostEnd k
    let d0 := d.hostStart k
    e.bit (aHp k 1) 1 = true ∧ e.fld (aHp k 5) 15 0 = min 65535 (d0.fld (aHp k 5) 15 0 + 1) ∧
      (e.hp k).status = d0.hostStatus k true ∧ e.w (aHp k 7) = d0.w (aHp k 7) + 1 ∧ e.motors = d0.motors ∧
      d0.SameWords e [aHp k 1, aHp k 5, aHp k 7] := by
  have hend := ((d.hostStart k).hostBegin k true).hostCause_end k (bit := 1) (cnt := 5) (by decide) (by decide) (by decide) id
  rw [Dev.onHp_id] at hend
  obtain ⟨hbit, hcnt, h7, hmot, hp, hsame⟩ := hend
  rw [Dev.hostBegin_hp] at hp
  exact ⟨hbit, hcnt, congrArg HostPort.status hp, h7, hmot, hsame⟩

/-- A wrong C2 (R393). -/
theorem wrongC2_spec {a : BitVec 6} {ws : List Word} {fl : List Flip} {c1 c2 : Byte} (hn : d.resetN = true)
    (hc : (d.hostStart k).c1Bad k (cmdByte 1 a) c1 = false) (hr : (d.hostStart k).runs = true) (hne : ws ≠ [])
    (hen : (d.hostStart k).crcEn k = true) (hlen : ws.length ≤ 64) (hcrc : c2 ≠ crc8 (cmdByte 1 a :: bytesOf ws)) :
    let e := d.hostWrite k a ws fl c1 c2 .done none
    let d0 := d.hostStart k
    (e.hp k).dcrceF = true ∧ e.bit (aHp k 1) 1 = true ∧ e.motors = d0.motors ∧ d0.SameWords e [aHp k 1, aHp k 5, aHp k 7] := by
  have hen' : ((d.hostStart k).hostBegin k false).crcEn k = true := hen
  have hports := ((d.hostStart k).hostBegin k false).hostCause_ports k 1 5
  have hrest : (((((d.hostStart k).hostBegin k false).hostDcrce k)).hp k).AtRest := by
    unfold Dev.hostDcrce
    rw [Dev.onHp_hp]
    unfold Dev.hp
    rw [hports]
    exact Dev.hostBegin_rest false
  obtain ⟨hbit, -, -, hmot, hp, hsame⟩ := ((d.hostStart k).hostBegin k false).hostCause_end k (bit := 1) (cnt := 5) (by decide)
    (by decide) (by decide) (fun x => { x with dcrceF := true })
  dsimp only
  rw [Dev.write_open hn hc hr, Dev.writeData_protected _ hen' hne hlen, if_neg hcrc, Dev.hostFinish_rest k hrest]
  exact ⟨congrArg HostPort.dcrceF hp, hbit, hmot, hsame⟩

end Dev

/-! ### The statement -/

/-- Settles O50: a transaction begins on a port at rest, and what its data phase does with the port is what it sends. -/
theorem hostTransactions : Obligations.HostTransactions := by
  unfold Obligations.HostTransactions
  refine ⟨fun s k hn => ?_, fun s k hn => ?_⟩
  · refine ⟨fun hread hpark hheld => s.dev.hostStart_idle ⟨hread, hpark⟩ hheld, fun a c1 h1 h2 hc => ?_, fun c1 => ⟨rfl, rfl⟩,
      fun c1 hc hr => ?_, fun a w c1 c2 more hc hr hcrc => ?_, fun a n late c1 hc hr haddr => ⟨?_, fun err h1 hdark => ?_⟩,
      fun a ws c1 c2 hc hr => ⟨fun hen => ?_, fun v vs hen hws hlen hcrc => ?_⟩, ?_⟩
    · exact State.onDev_eq (f := fun d => d.hostSpecial k a c1 .done 0) (Dev.hostNop hn h1 h2 hc)
    · obtain ⟨hp, h7, hsame, hmot⟩ := Dev.getpage_spec hn hc hr
      refine ⟨_, State.onDev_eq (f := fun d => d.hostGetpage k c1 .done) rfl, ?_⟩
      rw [hp, Dev.hostBegin_hp]
      refine ⟨rfl, fun hen => ?_, rfl, rfl, h7, hsame, hmot⟩
      have hon := (s.dev.hostStart_crcOn k).trans hen
      unfold Dev.pageSent HostPort.send
      simp [hon]
    · exact ⟨_, State.onDev_eq (f := fun d => d.hostPage k a w more c1 c2 .done none) rfl, Dev.page_spec hn hc hr hcrc⟩
    · exact ⟨_, State.onDev_eq (f := fun d => d.hostRead k a n late [] c1 .done none) rfl, Dev.read_words hn hc hr haddr⟩
    · subst h1
      obtain ⟨hcorr, hbad⟩ := Dev.read_flipped (late := late) (err := err) hn hc hr (haddr 0 (by omega)) hdark
      exact ⟨fun v hv => ⟨_, State.onDev_eq (f := fun d => d.hostRead k a 1 late _ c1 .done none) rfl, hcorr v hv⟩,
        fun hb => ⟨_, State.onDev_eq (f := fun d => d.hostRead k a 1 late _ c1 .done none) rfl, hbad hb⟩⟩
    · refine State.onDev_eq (f := fun d => d.hostWrite k a ws [] c1 c2 .done none) ?_
      exact (Dev.write_open hn hc hr).trans (congrArg (fun e => Dev.hostFinish e k) (Dev.writeData_plain _ hen))
    · subst hws
      refine State.onDev_eq (f := fun d => d.hostWrite k a (v :: vs) [] c1 c2 .done none) ?_
      refine (Dev.write_open hn hc hr).trans (congrArg (fun e => Dev.hostFinish e k) ?_)
      have hen' : ((s.dev.hostStart k).hostBegin k false).crcEn k = true := hen
      rw [Dev.writeData_protected _ hen' (by simp) hlen, if_pos hcrc, Dev.commitHeld_first]
    · refine ⟨_, State.onDev_eq (f := fun d => d.hostLanes k) rfl, ?_⟩
      have heq : s.dev.hostLanes k = ((s.dev.hostStart k).put (aHp k 0) 0).hostEnd k := by
        unfold Dev.hostLanes
        rw [if_pos hn]
      rw [heq]
      have hne : aHp k 0 ≠ aHp k 7 := by unfold aHp; omega
      obtain ⟨h7, hothers, hp, -⟩ := ((s.dev.hostStart k).put (aHp k 0) 0).hostEnd_spec k
      refine ⟨(hothers _ hne).trans (Dev.w_put_self _ _ _), by rw [h7, Dev.w_put_ne _ _ hne.symm], hp, fun b hb => ?_⟩
      simp only [List.mem_cons, List.not_mem_nil, or_false, not_or] at hb
      rw [hothers b hb.2, Dev.w_put_ne _ _ hb.1]
  · refine ⟨fun a ws fl c1 c2 hc => ?_, fun a ws fl c1 c2 hc hr hne hen hlen hcrc => ?_, ?_⟩
    · refine ⟨_, State.onDev_eq (f := fun d => d.hostWrite k a ws fl c1 c2 .done none) (Dev.hostCmd_wrong hn rfl hc), ?_⟩
      exact Dev.wrongC1_spec
    · exact ⟨_, State.onDev_eq (f := fun d => d.hostWrite k a ws fl c1 c2 .done none) rfl,
        Dev.wrongC2_spec hn hc hr hne hen hlen hcrc⟩
    · have hframing : s.dev.hostFraming k .command false = ((s.dev.hostStart k).hostFrame' k).hostEnd k := by
        unfold Dev.hostFraming
        rw [hn]
        rfl
      obtain ⟨hbit, hcnt, h7, hmot, hp, hsame⟩ := (s.dev.hostStart k).hostCause_end k (bit := 0) (cnt := 4) (by decide) (by decide)
        (by decide) (fun x => { x with frameF := true })
      exact ⟨_, State.onDev_eq (f := fun d => d.hostFraming k .command false) hframing, hbit, hcnt,
        congrArg HostPort.frameF hp, h7, hmot, hsame⟩

end Sys2Proof.Machine
end

section
/-! What a loader failure leaves of the configuration load: the device fault that it is changes no word of CFGSTAT or CFGERR and
begins no start of a group (R347, R416, R418). -/

namespace Sys2Proof.Machine

open Sys2Proof

namespace Dev

/-! ### The starts of the groups -/

/-- The groups whose timebase starts with the next cycle are the same. -/
def SameStarts (d e : Dev) : Prop := ∀ g, (e.grp g).starting = (d.grp g).starting

theorem SameStarts.refl (d : Dev) : d.SameStarts d := fun _ => rfl

theorem SameStarts.trans {c d e : Dev} (h : c.SameStarts d) (h' : d.SameStarts e) : c.SameStarts e :=
  fun g => (h' g).trans (h g)

theorem SameStarts.ite {c : Prop} [Decidable c] {d x y : Dev} (hx : d.SameStarts x) (hy : d.SameStarts y) :
    d.SameStarts (if c then x else y) := by split <;> assumption

theorem SameStarts.of_groups {d e : Dev} (h : e.groups = d.groups) : d.SameStarts e := fun g => by unfold Dev.grp; rw [h]

theorem MemOnly.groups {d e : Dev} (h : d.MemOnly e) : e.groups = d.groups := (congrArg Dev.groups h.1 :)

variable (d : Dev)

theorem starts_each {α : Type} (l : List α) (f : Dev → α → Dev) (h : ∀ (e : Dev) (a : α), e.SameStarts (f e a)) :
    d.SameStarts (d.each l f) :=
  Dev.each_inv (P := fun e => d.SameStarts e) l d (.refl d) fun e a he => he.trans (h e a)

theorem starts_onGrp (g : GroupIx) (f : Group → Group) (h : ∀ x, (f x).starting = x.starting) : d.SameStarts (d.onGrp g f) := by
  intro j
  by_cases hj : j = g
  · subst hj
    rw [Dev.onGrp_grp]
    exact h _
  · rw [Dev.onGrp_grp_ne _ _ hj]

theorem enterFault_groups (m : MotorIx) (act : FaultAct) : (d.enterFault m act).groups = d.groups := by
  have hclear (st : MState) : (d.clearInts m st).groups = d.groups := by
    unfold Dev.clearInts
    simp [apply_ite Dev.groups]
  have hshow (e : Dev) : (e.showChange m).groups = e.groups := by
    unfold Dev.showChange
    simp [apply_ite Dev.groups]
  unfold Dev.enterFault
  rw [Dev.drive_groups, hshow, Dev.onMot_groups, hclear]

theorem faultMotor_groups (m : MotorIx) : (d.faultMotor m).groups = d.groups := by
  unfold Dev.faultMotor
  dsimp only
  rw [apply_ite Dev.groups, Dev.onMot_groups, apply_ite Dev.groups, Dev.enterFault_groups, ite_self, ite_self]

theorem starts_faultGrants (g : GroupIx) :
    d.SameStarts ((((d.zeroGrants g).resetRR g).snapshot g).onGrp g (fun x => { x with floorsOnly := true })) := by
  have hbooks : d.SameStarts (d.enforceGrants g {}) := by
    unfold Dev.enforceGrants
    refine (d.starts_onGrp g (fun x => { x with books := {} }) fun _ => rfl).trans (Dev.starts_each _ _ _ fun e j => ?_)
    exact .of_groups ((Dev.put_groups _ _ _).trans (e.onMot_groups _ _))
  have hzero : d.SameStarts (d.zeroGrants g) := hbooks.trans (Dev.starts_onGrp _ g _ fun _ => rfl)
  have hrr (e : Dev) : e.SameStarts (e.resetRR g) := .of_groups (e.put_groups _ _)
  have hsnap (e : Dev) : e.SameStarts (e.snapshot g) := by
    unfold Dev.snapshot
    dsimp only
    refine SameStarts.trans (.of_groups ?_) (Dev.starts_each _ _ _ fun x _ => .of_groups (x.put_groups _ _))
    simp
  have hfloors (e : Dev) : e.SameStarts (e.onGrp g (fun x => { x with floorsOnly := true })) := e.starts_onGrp g _ fun _ => rfl
  exact ((hzero.trans (hrr _)).trans (hsnap _)).trans (hfloors _)

/-- The array's part of a fault reaches no supply group. -/
theorem starts_faultPrism (p : GroupIx) : d.SameStarts (d.faultPrism p) := by
  let w : ArrWatch := ⟨false, true⟩
  have hgrp {x y : Dev} (h : y.arr w = x.arr w) : x.SameStarts y := fun g => congrArg Group.starting (Dev.arr_grp h rfl g)
  have hflush (e : Dev) : e.SameStarts (e.thermFlush p) :=
    Dev.SameStarts.trans (.of_groups rfl) (Dev.starts_each _ _ _ fun x s =>
      Dev.SameStarts.trans (.of_groups rfl) (hgrp (x := x.thermMissed s) (Dev.arr_thermOver _ p s)))
  have hcounts (e : Dev) : e.SameStarts ((e.discardPartial p).restartTrks p) :=
    (SameStarts.of_groups (e.onPrm_groups p _)).trans
      (hgrp (x := e.dropFlight p) ((Dev.arr_restartTrks _ p).trans (Dev.arr_discardPartial e p rfl)))
  have hurg : d.SameStarts (d.onPrm p (fun x => { x with urg := [], inUrg := none })) := .of_groups (d.onPrm_groups p _)
  unfold Dev.faultPrism
  dsimp only
  refine .ite ?_ (.refl d)
  refine SameStarts.trans (hurg.trans ((hflush _).trans (hcounts _))) ?_
  exact .ite (hgrp ((Dev.arr_thermFeed _ p).trans (Dev.arr_resumeSeq _ p))) (.refl _)

theorem starts_memFault : d.SameStarts d.memFault := by
  have hfab (e : Dev) (l : List (Master × Addr × Nat)) : e.SameStarts (e.each l fun x r => x.putFab r.1 0) :=
    Dev.starts_each _ _ _ fun x r => .of_groups (x.putFab_groups _ _)
  have hend : d.SameStarts ((d.qEnd 3).putB 0xD004 15 false) :=
    (SameStarts.of_groups (d.memOnly_qEnd 3).groups).trans (.of_groups (Dev.putB_groups _ _ _ _))
  unfold Dev.memFault
  dsimp only
  refine SameStarts.trans ?_ (.of_groups (Dev.memOnly_memSync _).groups)
  refine SameStarts.trans ?_ (.of_groups (Dev.onMem_groups _ _))
  exact (hend.trans (hfab _ _)).trans (.of_groups (Dev.memOnly_memInvalid _).groups)

/-! ### A device fault of the loader -/

/-- CFGSTAT and CFGERR, the loader, the memory test and the starts of the groups are the same. -/
structure KeepsLoad (d e : Dev) : Prop where
  w : ∀ a, 0x40 ≤ a → a < 0x43 → e.w a = d.w a
  loader : e.loader = d.loader
  bist : e.bist = d.bist
  starts : d.SameStarts e

theorem KeepsLoad.refl (d : Dev) : d.KeepsLoad d := ⟨fun _ _ _ => rfl, rfl, rfl, .refl d⟩

theorem KeepsLoad.trans {c d e : Dev} (h : c.KeepsLoad d) (h' : d.KeepsLoad e) : c.KeepsLoad e :=
  ⟨fun a ha ha' => (h'.w a ha ha').trans (h.w a ha ha'), h'.loader.trans h.loader, h'.bist.trans h.bist, h.starts.trans h'.starts⟩

theorem KeepsLoad.of_sys {d e : Dev} (h : e.sys = d.sys) (hs : d.SameStarts e) : d.KeepsLoad e :=
  ⟨fun a ha ha' => Dev.sys_w h a (by simp [isSys]; omega), congrArg SysView.loader h, congrArg SysView.bist h, hs⟩

theorem keepsLoad_put {a : Nat} (v : Word) (h : a < 0x40 ∨ 0x43 ≤ a) : d.KeepsLoad (d.put a v) :=
  ⟨fun _ _ _ => d.w_put_ne v (by omega), rfl, rfl, .of_groups rfl⟩

theorem KeepsLoad.ite {c : Prop} [Decidable c] {d x y : Dev} (hx : d.KeepsLoad x) (hy : d.KeepsLoad y) :
    d.KeepsLoad (if c then x else y) := by split <;> assumption

theorem keepsLoad_each {α : Type} (l : List α) (f : Dev → α → Dev) (h : ∀ (e : Dev) (a : α), e.KeepsLoad (f e a)) :
    d.KeepsLoad (d.each l f) :=
  Dev.each_inv (P := fun e => d.KeepsLoad e) l d (.refl d) fun e a he => he.trans (h e a)

theorem keepsLoad_onHp (k : HostIx) (f : HostPort → HostPort) : d.KeepsLoad (d.onHp k f) :=
  .of_sys rfl (.of_groups (d.onHp_groups k f))

theorem keepsLoad_raise {i : Nat} (h : isSysSrc i = false) : d.KeepsLoad (d.raise i) :=
  .of_sys (d.sys_raise i h) (.of_groups (d.raise_groups i))

theorem keepsLoad_orW {a : Nat} (m : Word) (h : a < 0x40 ∨ 0x43 ≤ a) : d.KeepsLoad (d.orW a m) :=
  (d.keepsLoad_put (d.w a ||| m) h).trans ⟨fun _ _ _ => rfl, rfl, rfl, .of_groups rfl⟩

theorem keepsLoad_raiseN (n : Nat) : d.KeepsLoad (d.raiseN 54 n) := by
  obtain ⟨hwords, -, hgroups, -, hbist, -⟩ := d.raiseN_keeps 54 n
  have hnow : (d.raiseNow 54).loader = d.loader := by
    unfold Dev.raiseNow
    split <;> [split; skip] <;> rfl
  have hloader : (d.raiseN 54 n).loader = d.loader := by
    unfold Dev.raiseN
    dsimp only
    generalize d.raiseNow 54 = e at hnow ⊢
    split
    · rfl
    · split
      · rfl
      · split <;> exact hnow
  exact ⟨fun a _ _ => Dev.w_of_words hwords a, hloader, hbist, .of_groups hgroups⟩

theorem keepsLoad_cutPort (k : HostIx) (cut : Bool) : d.KeepsLoad (d.cutPort k cut) := by
  have hsend (e : Dev) (v : Word) : e.KeepsLoad (e.hostSend k v) := e.keepsLoad_onHp k _
  have hzeros (e : Dev) (n : Nat) : e.KeepsLoad (e.hostZeros k n) := Dev.keepsLoad_each _ _ _ fun x _ => hsend x 0
  have hpage (e : Dev) (n : Nat) : e.KeepsLoad (e.pageWords k n) := Dev.keepsLoad_each _ _ _ hsend
  have hstatus (e : Dev) (bad : Bool) : e.KeepsLoad (e.statusAgain k bad true) := e.keepsLoad_onHp k _
  have hrise (e : Dev) (x : HostArgs) : e.KeepsLoad ((e.riseFrame k x).hostEnd k) := by
    have hcause : e.KeepsLoad (e.orW (aHp k 1) (1#16 <<< 0)) := e.keepsLoad_orW _ (by unfold aHp; omega)
    have hraise := hcause.trans (Dev.keepsLoad_raise _ (i := 28 + k.1) (isSysSrc_of_lt (by omega)))
    have hframe : e.KeepsLoad (e.hostFrame' k) :=
      (hraise.trans (Dev.keepsLoad_put _ _ (by unfold aHp; omega))).trans (Dev.keepsLoad_onHp _ k _)
    exact (KeepsLoad.ite (.refl e) hframe).trans (Dev.keepsLoad_put _ _ (by unfold aHp; omega))
  have hread (e : Dev) (r : OpenRead) : e.KeepsLoad (e.cutReading k r) :=
    (KeepsLoad.ite (hstatus e _) (.refl e)).trans ((hzeros _ _).trans (hrise _ _))
  have hparked (e : Dev) (x : HostWait) : e.KeepsLoad (e.cutParked k x) := by
    unfold Dev.cutParked
    refine KeepsLoad.trans ((hstatus e x.bad).trans ?_) (hrise _ _)
    split
    · exact hzeros _ _
    · exact .ite (hzeros _ _) (hpage _ _)
    · exact .refl _
  unfold Dev.cutPort
  extract_lets x e
  have he : d.KeepsLoad e := d.keepsLoad_onHp k _
  clear_value e
  split
  · exact he.trans (hread e _)
  · exact he.trans (hparked e _)
  · exact he

theorem keepsLoad_actBlocks (cut : Vector Bool 4) : d.KeepsLoad (d.actBlocks cut) := by
  have hspeed (e : Dev) (f : ChanIx) :
      e.SameStarts ((e.dropSpeed f).onFb f (fun x => { x with checkDue := false, leaveDue := false })) := by
    refine .of_groups ?_
    unfold Dev.dropSpeed Dev.putSpd Dev.putSpdv
    simp
  have hseg (e : Dev) (t : TraceIx) :
      e.SameStarts ((e.dropSeg t 1).onTrc t (fun x => { x with pend := x.pend &&& 0x7F })) := by
    refine .of_groups ?_
    unfold Dev.dropSeg Dev.pendAnchor Dev.setSeg
    simp
  have hrq (e : Dev) : e.SameStarts (e.rqEnd 3 0) := by
    unfold Dev.rqEnd
    exact .ite (.of_groups (by simp)) (.refl e)
  refine KeepsLoad.trans ?_ (.of_sys (Dev.sys_rqEnd _ 3 0) (hrq _))
  refine KeepsLoad.trans ?_ (.of_sys (Dev.sys_memFault _) (Dev.starts_memFault _))
  refine KeepsLoad.trans ?_ (Dev.keepsLoad_each _ _ _ fun e k => e.keepsLoad_cutPort k _)
  refine KeepsLoad.trans ?_ (Dev.keepsLoad_each _ _ _ fun e t =>
    .of_sys ((Dev.sys_onTrc _ t _).trans (e.sys_dropSeg t 1)) (hseg e t))
  refine KeepsLoad.trans ?_ (Dev.keepsLoad_each _ _ _ fun e f =>
    .of_sys ((Dev.sys_onFb _ f _).trans (e.sys_dropSpeed f)) (hspeed e f))
  refine KeepsLoad.trans ?_ (Dev.keepsLoad_each _ _ _ fun e p => .of_sys (e.sys_faultPrism p) (e.starts_faultPrism p))
  refine KeepsLoad.trans ?_ (Dev.keepsLoad_each _ _ _ fun e g => .of_sys ((Dev.sys_onGrp _ g _).trans
    ((Dev.sys_snapshot _ g).trans ((Dev.sys_resetRR _ g).trans (e.sys_zeroGrants g)))) (e.starts_faultGrants g))
  exact Dev.keepsLoad_each _ _ _ fun e m => .of_sys (e.sys_faultMotor m) (.of_groups (e.faultMotor_groups m))

theorem keepsLoad_cplAfter : d.KeepsLoad d.cplAfter := by
  unfold Dev.cplAfter
  split
  · refine .ite ?_ (.refl d)
    extract_lets e i
    have htime : d.KeepsLoad (d.put32 0x53 e.time) :=
      (d.keepsLoad_put _ (by omega)).trans (Dev.keepsLoad_put _ _ (by omega))
    exact ⟨htime.w, htime.loader, htime.bist, htime.starts⟩
  · exact .refl d

/-- A loader fault while the load has already ended and no memory test runs: it leaves the load as it stands. -/
theorem keepsLoad_fault (cut : Vector Bool 4) (hstep : d.loader.step ≠ 4) (hbist : d.bist.run = none) :
    d.KeepsLoad (d.fault [.loader] cut) := by
  have hcause : d.KeepsLoad (d.dfRaise .loader) :=
    (d.keepsLoad_orW (a := 0x32) (0 ||| 1#16 <<< dfBit .loader) (by omega)).trans (Dev.keepsLoad_raiseN _ _)
  change d.KeepsLoad (d.faultCauses [.loader]) at hcause
  have hstamp (e : Dev) : e.KeepsLoad e.faultStamp := by
    have hinc : e.KeepsLoad (e.inc 0x36) := e.keepsLoad_put _ (by omega)
    have hst : (e.inc 0x36).KeepsLoad ((e.inc 0x36).stamp 0x37) :=
      ((Dev.keepsLoad_put _ _ (by omega)).trans (Dev.keepsLoad_put _ _ (by omega))).trans (Dev.keepsLoad_put _ _ (by omega))
    unfold Dev.faultStamp
    generalize (e.inc 0x36).stamp 0x37 = x at hst
    have h := hinc.trans hst
    exact ⟨h.w, h.loader, h.bist, h.starts⟩
  have hblocks (e : Dev) (he : d.KeepsLoad e) : e.KeepsLoad (e.faultBlocks cut) := by
    have hact := e.keepsLoad_actBlocks cut
    have hend : (e.actBlocks cut).linkFault.bistEnd 4 = (e.actBlocks cut).linkFault := by
      unfold Dev.bistEnd
      rw [show (e.actBlocks cut).linkFault.bist.run = none from (congrArg Bist.run (hact.bist.trans he.bist)).trans hbist]
    have hload : (e.actBlocks cut).linkFault.loadFails = (e.actBlocks cut).linkFault := by
      unfold Dev.loadFails
      rw [if_neg]
      rwa [show (e.actBlocks cut).linkFault.loader = d.loader from hact.loader.trans he.loader]
    unfold Dev.faultBlocks
    rw [hend, hload]
    exact ⟨hact.w, hact.loader, hact.bist, hact.starts⟩
  unfold Dev.fault
  extract_lets same
  refine .ite hcause (hcause.trans ?_)
  have hall := hcause.trans (hstamp _)
  exact (hstamp _).trans ((hblocks _ hall).trans (Dev.keepsLoad_cplAfter _))

/-- CFGSTAT of a load that fails in pass 2: PARTIAL sets and PHASE reads FAILED. -/
def partialStat (d : Dev) : Word := withBits (withBit (d.w 0x40) 11 true) 2 0 6

theorem partialStat_spec (d : Dev) : bits d.partialStat 2 0 = 6 ∧ bitOf d.partialStat 11 = true ∧
    bitOf d.partialStat 15 = d.bit 0x40 15 := by
  unfold Dev.partialStat
  rw [bits_withBits _ _ _ _ (by decide) (by decide), bitOf_withBits _ _ _ _ _ (by decide) (by decide) (by decide),
    bitOf_withBits _ _ _ _ _ (by decide) (by decide) (by decide), if_neg (by decide), if_neg (by decide),
    bitOf_withBit _ _ _ _ (by decide) (by decide), bitOf_withBit _ _ _ _ (by decide) (by decide)]
  exact ⟨rfl, rfl, rfl⟩

/-- A load that fails in pass 2 ends with PARTIAL and PHASE 6, and drops what it has recorded (R347). -/
theorem loadFails_spec (h : d.loader.step = 4) (hp : d.cfgPhase = 3) : d.loadFails.w 0x40 = d.partialStat ∧
    (∀ a, a ≠ 0x40 → a < 0xD000 → d.loadFails.w a = d.w a) ∧ d.loadFails.loader = { d.loader with step := 5, defer := [] } ∧
    d.loadFails.bist = d.bist ∧ d.loadFails.runs = d.runs ∧ d.SameStarts d.loadFails := by
  let e := (d.putB 0x40 11 true).putF 0x40 2 0 6
  have hstat : e.w 0x40 = d.partialStat := by
    show ((d.putB 0x40 11 true).putF 0x40 2 0 6).w 0x40 = d.partialStat
    rw [Dev.w_putF, if_pos rfl, Dev.w_putB, if_pos rfl]
    rfl
  have hw (a : Nat) (ha : a ≠ 0x40) : e.w a = d.w a := (Dev.w_put_ne _ _ ha).trans (d.w_put_ne _ ha)
  have hparts : e.loader = d.loader ∧ e.bist = d.bist ∧ e.runs = d.runs ∧ e.groups = d.groups := by
    refine ⟨?_, ?_, ?_, ?_⟩ <;> simp [e]
  have hfails : d.loadFails = (e.withLoader { e.loader with step := 5, defer := [] }).memRelease.memNext := by
    unfold Dev.loadFails Dev.when
    rw [if_pos h, if_pos (decide_eq_true hp)]
    dsimp only [e]
    rw [← Dev.putF_loader (d.putB 0x40 11 true) 0x40 2 0 6]
    generalize (d.putB 0x40 11 true).putF 0x40 2 0 6 = y
    rfl
  have hmem : (e.withLoader { e.loader with step := 5, defer := [] }).MemOnly d.loadFails := by
    rw [hfails]
    exact (Dev.memOnly_memRelease _).trans (Dev.memOnly_memNext _)
  clear hfails
  generalize e = x at hstat hw hparts hmem
  obtain ⟨hloader, hbist, hruns, hgroups⟩ := hparts
  refine ⟨(hmem.w (by omega)).trans hstat, fun a ha hlt => (hmem.w (.inl hlt)).trans (hw a ha), ?_, ?_, ?_, ?_⟩
  · rw [hmem.loader, ← hloader]
    rfl
  · exact (congrArg Dev.bist hmem.1 :).trans hbist
  · exact hmem.runs.trans hruns
  · exact .of_groups (hmem.groups.trans hgroups)

/-- A loader failure of pass 2 with its reason: what it leaves (R347, R416). -/
theorem pass2Fails_spec {d : Dev} (hr : d.runs = true) (hstep : d.loader.step = 4) (hphase : d.cfgPhase = 3)
    (hsel : d.loader.sel ≤ 1) (hbist : d.bist.run = none) (n : Nat) :
    (d.pass2Fails n).cfgPhase = 6 ∧ (d.pass2Fails n).bit 0x40 11 = true ∧ (d.pass2Fails n).bit 0x40 15 = d.bit 0x40 15 ∧
    (d.pass2Fails n).bit 0x32 4 = true ∧ (d.pass2Fails n).loader.defer = [] ∧
    (d.pass2Fails n).w (0x41 + d.loader.sel) = word (14 * 4096 + n % 4096) ∧ d.SameStarts (d.pass2Fails n) := by
  let e := d.put (0x41 + d.loader.sel) (word (14 * 4096 + n % 4096))
  have hne : 0x40 ≠ 0x41 + d.loader.sel := by omega
  have he40 : e.w 0x40 = d.w 0x40 := d.w_put_ne _ hne
  have hself : e.w (0x41 + d.loader.sel) = word (14 * 4096 + n % 4096) := d.w_put_self _ _
  have hparts : e.loader = d.loader ∧ e.bist = d.bist ∧ e.runs = d.runs ∧ e.groups = d.groups := ⟨rfl, rfl, rfl, rfl⟩
  have hfails : d.pass2Fails n = e.loaderFault := rfl
  rw [hfails]
  generalize e = x at *
  obtain ⟨hloader, hbist', hruns, hgroups⟩ := hparts
  obtain ⟨hstat, hw, hload, hrun5, hruns5, hstarts⟩ := x.loadFails_spec (hloader ▸ hstep)
    (by rw [← hphase]; exact Dev.fld_congr he40 2 0)
  have hkeep := x.loadFails.keepsLoad_fault noCut (by rw [hload]; show 5 ≠ 4; decide) (by rw [hrun5, hbist', hbist])
  have hcause := Dev.fault_cause (d := x.loadFails) (by rw [hruns5, hruns, hr]) .loader noCut
  obtain ⟨hp6, hpartial, hready⟩ := x.partialStat_spec
  have hw40 : x.loaderFault.w 0x40 = x.partialStat := (hkeep.w 0x40 (by omega) (by omega)).trans hstat
  refine ⟨?_, ?_, ?_, hcause.1, ?_, ?_, ?_⟩
  · rw [Dev.cfgPhase, Dev.fld, hw40, hp6]
  · rw [Dev.bit, hw40, hpartial]
  · rw [Dev.bit, hw40, hready]
    exact Dev.bit_congr he40 15
  · exact (congrArg Loader.defer hkeep.loader).trans (congrArg Loader.defer hload)
  · exact (hkeep.w _ (by omega) (by omega)).trans ((hw _ (by omega) (by omega)).trans hself)
  · exact (SameStarts.of_groups hgroups).trans (hstarts.trans hkeep.starts)

end Dev

end Sys2Proof.Machine
end

section
/-! Pass 2 of the configuration load: how its sections are loaded, and what completion changes (R341, R345, R347, R349). -/

namespace Sys2Proof.Machine

open Sys2Proof

namespace Dev

/-! ### The words of a section (R345) -/

/-- A word that meets no error on the fabric is written as it stands. -/
theorem writeWord_clean (d : Dev) (k : Master) (a : Nat) (v : Word) (cut : Vector Bool 4) :
    d.writeWord k a v 0 cut = d.fabWrite k a v := by
  unfold Dev.writeWord
  rw [if_pos rfl]

/-- The loader records a word with a deferred field. -/
def recorded (d : Dev) (a : Nat) (v : Word) : Dev :=
  d.withLoader { d.loader with defer := d.loader.defer ++ [(BitVec.ofNat 24 a, v)] }

theorem loadWord_plain {d : Dev} {a : Nat} (v : Word) (h : d.loader.step = 4) (hd : deferField a = none) :
    Dev.loadWord [] d (a, v) = d.fabWrite 5 a v := by
  unfold Dev.loadWord
  dsimp only
  rw [if_neg (not_not.2 h), hd]
  exact d.writeWord_clean _ _ _ _

theorem loadWord_deferred {d : Dev} {a : Nat} {m : Word} (v : Word) (h : d.loader.step = 4) (hd : deferField a = some m)
    (h' : (d.fabWrite 5 a (v &&& ~~~m)).loader.step = 4) :
    Dev.loadWord [] d (a, v) = (d.fabWrite 5 a (v &&& ~~~m)).recorded a v := by
  unfold Dev.loadWord
  dsimp only
  rw [if_neg (not_not.2 h), hd]
  dsimp only
  rw [show errAt [] a = 0 from rfl, Dev.writeWord_clean, if_neg (not_not.2 h')]
  rfl

theorem loadSection_skipped {d : Dev} {x : Section} (errs : List (Addr × BitVec 28)) (h : x.applies d.mirror.id = false) :
    d.loadSection errs x = d := by
  unfold Dev.loadSection
  rw [h, if_neg Bool.false_ne_true]

/-- A section without a word of its own, as a WAIT is, writes nothing. -/
theorem loadSection_empty {d : Dev} {x : Section} (errs : List (Addr × BitVec 28)) (h : x.writes = []) :
    d.loadSection errs x = d := by
  unfold Dev.loadSection
  rw [h]
  exact ite_self d

theorem loadSection_one {d : Dev} {x : Section} {w : Nat × Word} (errs : List (Addr × BitVec 28))
    (h : x.applies d.mirror.id = true) (hw : x.writes = [w]) : d.loadSection errs x = Dev.loadWord errs d w := by
  unfold Dev.loadSection
  rw [if_pos h, hw]
  rfl

/-! ### The sections in order (R347) -/

/-- Section n is counted. -/
def counted (d : Dev) (n : Nat) : Dev := d.withLoader { d.loader with sect := n + 1 }

theorem counted_keeps (d : Dev) (n : Nat) : (d.counted n).loader.step = d.loader.step ∧
    (d.counted n).pass1Crcs = d.pass1Crcs ∧ (d.counted n).mirror = d.mirror := ⟨rfl, rfl, rfl⟩

variable {d e : Dev} {x : Section} {errs : List (Addr × BitVec 28)}

theorem loadSections_cons (stop : Bool) (t : List Section) : Dev.loadSections stop errs (x :: t) d =
    let f := (d.loadSection errs x).counted d.loader.sect
    if f.loader.step ≠ 4 then (f, false)
    else if f.pass1Crcs.getD d.loader.sect 0 ≠ x.crc || !x.crcOk then (f.pass2Fails (d.loader.sect + 1), false)
    else if stop && x.ty = 4 && x.applies f.mirror.id then (f, true)
    else Dev.loadSections stop errs t f := by
  rfl

theorem loadSections_good (stop : Bool) (t : List Section) (he : d.loadSection errs x = e) (hstep : e.loader.step = 4)
    (hcrc : e.pass1Crcs.getD d.loader.sect 0 = x.crc) (hok : x.crcOk = true) :
    Dev.loadSections stop errs (x :: t) d =
      if stop && x.ty = 4 && x.applies e.mirror.id then (e.counted d.loader.sect, true)
      else Dev.loadSections stop errs t (e.counted d.loader.sect) := by
  obtain ⟨hs, hc, hm⟩ := e.counted_keeps d.loader.sect
  rw [loadSections_cons, he]
  generalize e.counted d.loader.sect = f at hs hc hm
  dsimp only
  rw [if_neg (not_not.2 (hs.trans hstep)), if_neg (by rw [hc, hcrc, hok]; simp), hm]

theorem loadSections_bad (stop : Bool) (t : List Section) (he : d.loadSection errs x = e) (hstep : e.loader.step = 4)
    (hcrc : e.pass1Crcs.getD d.loader.sect 0 ≠ x.crc) :
    Dev.loadSections stop errs (x :: t) d = ((e.counted d.loader.sect).pass2Fails (d.loader.sect + 1), false) := by
  obtain ⟨hs, hc, hm⟩ := e.counted_keeps d.loader.sect
  rw [loadSections_cons, he]
  generalize e.counted d.loader.sect = f at hs hc hm
  dsimp only
  rw [if_neg (not_not.2 (hs.trans hstep)), if_pos (by rw [hc, decide_eq_true hcrc, Bool.true_or])]

/-! ### Pass 2 reads on (R341, R350) -/

/-- What follows the last section: the MAC is judged, and the load completes or fails. -/
def afterSections (d : Dev) (ws : List Word) : Dev × Bool → Dev
  | (e, false) => e
  | (e, true) =>
    match e.pass1Mac with
    | some t => if imageMac e.fuses.imageKey (ws.take (bodyLen (readSections d.pass1Crcs.length (ws.drop 16)).1)) = t
        then e.loadComplete ws [] else e.pass2Fails 0
    | none => e.loadComplete ws []

/-- What follows a WAIT that is reached: the pause of the last section loaded begins. -/
def pauseAfter (ws : List Word) : Dev × Bool → Dev
  | (e, false) => e
  | (e, true) =>
    match ((readSections e.pass1Crcs.length (ws.drop 16)).1)[e.loader.sect - 1]? with
    | some x => e.withLoader { e.loader with waitUntil := some (e.cycles + 200 * (img x.payload 0).toNat) }
    | none => e

section

variable {s : State} (hr : s.dev.runs = true) (hstep : s.dev.loader.step = 4) (hphase : s.dev.cfgPhase = 3)
include hr hstep hphase

theorem inPass2_of : s.dev.inPass2 = true := by
  unfold Dev.inPass2
  rw [hr, hstep, hphase]
  rfl

variable (ws : List Word)

theorem exec_waitOver {t : Nat} (h : s.dev.loader.waitUntil = some t) : exec (.loaderWaitEnd ws false) s =
    .next (if t ≤ s.dev.cycles then { s with dev := s.dev.withLoader { s.dev.loader with waitUntil := none } } else s) := by
  have hover : s.dev.waitOver =
      if t ≤ s.dev.cycles then s.dev.withLoader { s.dev.loader with waitUntil := none } else s.dev := by
    unfold Dev.waitOver
    rw [h]
    dsimp only
    rw [inPass2_of hr hstep hphase, Bool.true_and]
    by_cases ht : t ≤ s.dev.cycles
    · rw [if_pos (decide_eq_true ht), if_pos ht]
      rfl
    · rw [if_neg (by simpa using ht), if_neg ht]
  have hexec : exec (.loaderWaitEnd ws false) s = .next { s with dev := s.dev.waitOver } := rfl
  rw [hexec, hover]
  split <;> rfl

variable (hm : s.dev.memMay = true) (hw : s.dev.loader.waitUntil = none)
include hm hw

theorem pass2Reads_of : s.dev.pass2Reads = true := by
  unfold Dev.pass2Reads
  rw [inPass2_of hr hstep hphase, hm, hw]
  rfl

/-- Pass 2 ends: its sections are loaded, the MAC is judged, and the load completes or fails. -/
theorem exec_pass2 {l : List Section} (hl : s.dev.restSections ws = l) (hno : hasWait s.dev.mirror.id l = false) :
    exec (.pass2Complete ws) s = .next { s with dev := afterSections s.dev ws (Dev.loadSections false [] l s.dev) } := by
  have hexec : exec (.pass2Complete ws) s = .next { s with dev := s.dev.pass2 ws [] [] } := rfl
  rw [hexec]
  unfold Dev.pass2
  dsimp only
  rw [hl, pass2Reads_of hr hstep hphase hm hw, hno, if_pos (by rfl)]
  rfl

/-- A WAIT is reached: the sections before it are loaded, and its pause begins. -/
theorem exec_waitReached {l : List Section} (hl : s.dev.restSections ws = l) (hwait : hasWait s.dev.mirror.id l = true) :
    exec (.loaderWaitEnd ws true) s = .next { s with dev := pauseAfter ws (Dev.loadSections true [] l s.dev) } := by
  have hexec : exec (.loaderWaitEnd ws true) s = .next { s with dev := s.dev.waitReached ws [] } := rfl
  rw [hexec]
  unfold Dev.waitReached
  dsimp only
  rw [hl, pass2Reads_of hr hstep hphase hm hw, hwait, if_pos (by rfl)]
  rfl

end

end Dev

end Sys2Proof.Machine
end

section
/-! What the completion of a configuration load leaves (R349): the words that it changes, and that no group starts with it. -/

namespace Sys2Proof.Machine

open Sys2Proof

/-- A word that completion writes: those of CFGSTAT and the image, KISS, the link's status, and those of the memory port. -/
def isDoneWord (a : Nat) : Prop :=
  (0x40 ≤ a ∧ a < 0x4B) ∨ (∃ m : MotorIx, a = aMot m 0x159 ∨ a = aMot m 0x15A) ∨ a = 0xE002 ∨ isMemWord a

/-! ### No configuration stands in such a word -/

/-- No bit of the row keeps what is written to it. -/
def RegRow.readOnly (r : RegRow) : Bool := r.mask .rw == 0 && r.mask .rwl == 0

/-- The rows of the memory port that keep what is written to them, by their addresses. -/
theorem memRows_written : (regsMemport.filter (fun r => !r.readOnly)).map (fun r => (r.base, r.dims)) =
    [(0xD000, []), (0xD004, []), (0xD008, []), (0xD009, []), (0xD00A, []), (0xD00B, []), (0xD00C, [(2, 1)]),
      (0xD040, [(16, 8), (4, 1)]), (0xD044, [(16, 8)]), (0xD045, [(16, 8)]), (0xD100, [(256, 1)])] := by decide

/-- A word that such a row covers. -/
theorem memRow_covers {r : RegRow} {a : Nat} (h : (r.base, r.dims) ∈
    [(0xD000, ([] : List (Nat × Nat))), (0xD004, []), (0xD008, []), (0xD009, []), (0xD00A, []), (0xD00B, []),
      (0xD00C, [(2, 1)]), (0xD040, [(16, 8), (4, 1)]), (0xD044, [(16, 8)]), (0xD045, [(16, 8)]), (0xD100, [(256, 1)])])
    (hc : r.covers a = true) : a = 0xD000 ∨ a = 0xD004 ∨ (0xD008 ≤ a ∧ a ≤ 0xD00D) ∨ (0xD040 ≤ a ∧ a < 0xD0C0) ∨
      (0xD100 ≤ a ∧ a < 0xD200) := by
  unfold RegRow.covers at hc
  simp only [List.mem_cons, List.not_mem_nil, or_false, Prod.mk.injEq] at h
  obtain ⟨hbase, hdims⟩ | ⟨hbase, hdims⟩ | ⟨hbase, hdims⟩ | ⟨hbase, hdims⟩ | ⟨hbase, hdims⟩ | ⟨hbase, hdims⟩ | ⟨hbase, hdims⟩ |
    ⟨hbase, hdims⟩ | ⟨hbase, hdims⟩ | ⟨hbase, hdims⟩ | ⟨hbase, hdims⟩ := h
  all_goals
    simp only [hbase, hdims, RegRow.reaches, Bool.and_eq_true, decide_eq_true_eq, beq_iff_eq] at hc
    omega

/-- A row of the table of registers comes from the block of its address. -/
theorem regRow_memport {a : Nat} {r : RegRow} (ha : isMemWord a) (h : regRow a = some r) : r ∈ regsMemport ∧ r.covers a = true := by
  obtain ⟨hlo, hhi⟩ := ha
  have hblock : regBlocks.find? (fun b => b.1 ≤ a && a ≤ b.2.1) = some (0xD000, 0xDFFF, regsMemport) := by
    have hbelow (c : Nat) (hc : c < 0xD000) : decide (a ≤ c) = false := decide_eq_false (by omega)
    have hin : (decide (0xD000 ≤ a) && decide (a ≤ 0xDFFF)) = true := by simp; omega
    simp only [regBlocks, List.find?_cons, hin, hbelow, Nat.reduceLT, Bool.and_false]
  unfold regRow at h
  rw [hblock] at h
  exact ⟨List.mem_of_find?_eq_some h, List.find?_some (p := fun r : RegRow => r.covers a) h⟩

theorem memWord_readOnly {a : Nat} {r : RegRow} (ha : isMemWord a) (h : regRow a = some r) (hp : plainWord a = true) :
    r.readOnly = true := by
  obtain ⟨hmem, hcov⟩ := regRow_memport ha h
  by_contra hro
  have hwritten : (r.base, r.dims) ∈ (regsMemport.filter (fun r => !r.readOnly)).map (fun r => (r.base, r.dims)) :=
    List.mem_map_of_mem (List.mem_filter.2 ⟨hmem, by simpa using hro⟩)
  rw [memRows_written] at hwritten
  have hat := memRow_covers hwritten hcov
  obtain ⟨hlo, hhi⟩ := ha
  rw [plainWord, if_neg (by omega), if_neg (by omega), if_neg (by omega), if_neg (by omega), if_neg (by omega), if_neg (by omega),
    if_neg (by omega), if_neg (by omega), if_neg (by omega), if_neg (by omega), if_neg (by omega), if_neg (by omega),
    if_neg (by omega), if_pos hhi] at hp
  simp only [Bool.and_eq_true, decide_eq_true_eq, Bool.not_eq_true', decide_eq_false_iff_not] at hp
  omega

/-- No plain word that completion writes holds configuration. -/
theorem doneWord_readOnly {a : Nat} {r : RegRow} (ha : isDoneWord a) (h : regRow a = some r) (hp : plainWord a = true) :
    r.readOnly = true := by
  have hall : ∀ (b : Nat), ((regRow b).all RegRow.readOnly) = true → a = b → r.readOnly = true := by
    rintro b hb rfl
    rw [h] at hb
    exact hb
  obtain ⟨hlo, hhi⟩ | ⟨m, rfl | rfl⟩ | rfl | hmem := ha
  · obtain ⟨i, rfl⟩ : ∃ i : Fin 11, a = 0x40 + i.1 := ⟨⟨a - 0x40, by omega⟩, by simp; omega⟩
    exact hall _ ((by decide +kernel : ∀ i : Fin 11, ((regRow (0x40 + i.1)).all RegRow.readOnly) = true) i) rfl
  · exact hall _ ((by decide +kernel : ∀ m : MotorIx, ((regRow (aMot m 0x159)).all RegRow.readOnly) = true) m) rfl
  · exact hall _ ((by decide +kernel : ∀ m : MotorIx, ((regRow (aMot m 0x15A)).all RegRow.readOnly) = true) m) rfl
  · exact hall _ (by decide +kernel) rfl
  · exact memWord_readOnly hmem h hp

/-! ### What completion keeps -/

namespace Dev

/-- Completion changes no word beside its own, and starts or stops no group. -/
structure KeepsDone (d e : Dev) : Prop where
  w : ∀ a, ¬ isDoneWord a → e.w a = d.w a
  grp : ∀ g, ∃ t, e.grp g = { d.grp g with rrClr := t }

theorem KeepsDone.trans {c d e : Dev} (h : c.KeepsDone d) (h' : d.KeepsDone e) : c.KeepsDone e := by
  refine ⟨fun a ha => (h'.w a ha).trans (h.w a ha), fun g => ?_⟩
  obtain ⟨t, ht⟩ := h.grp g
  obtain ⟨t', ht'⟩ := h'.grp g
  exact ⟨t', by rw [ht', ht]⟩

theorem KeepsDone.of_groups {d e : Dev} (hw : ∀ a, ¬ isDoneWord a → e.w a = d.w a) (h : e.groups = d.groups) : d.KeepsDone e :=
  ⟨hw, fun g => ⟨(d.grp g).rrClr, by unfold Dev.grp; rw [h]⟩⟩

theorem KeepsDone.running {d e : Dev} (h : d.KeepsDone e) (g : GroupIx) : (e.grp g).running = (d.grp g).running := by
  obtain ⟨t, ht⟩ := h.grp g
  rw [ht]

theorem KeepsDone.starting {d e : Dev} (h : d.KeepsDone e) (g : GroupIx) : (e.grp g).starting = (d.grp g).starting := by
  obtain ⟨t, ht⟩ := h.grp g
  rw [ht]

variable (d : Dev)

theorem keepsDone_put {a : Nat} (v : Word) (h : isDoneWord a) : d.KeepsDone (d.put a v) :=
  .of_groups (fun _ hb => d.w_put_ne v (fun e => hb (e ▸ h))) (d.put_groups a v)

theorem keepsDone_each {α : Type} (l : List α) (f : Dev → α → Dev) (h : ∀ e, ∀ x ∈ l, Dev.KeepsDone e (f e x)) :
    d.KeepsDone (d.each l f) := by
  unfold Dev.each
  induction l generalizing d with
  | nil => exact .of_groups (fun _ _ => rfl) rfl
  | cons x t ih =>
    exact (h d x List.mem_cons_self).trans (ih (f d x) fun e y hy => h e y (List.mem_cons_of_mem x hy))

theorem keepsDone_completing (src : Nat) (slot macOk : Bool) : d.KeepsDone (d.completing src slot macOk) := by
  have hstat : d.KeepsDone (d.put 0x40 (d.cfgstatDone src slot macOk)) := d.keepsDone_put _ (.inl (by omega))
  unfold Dev.completing
  generalize d.put 0x40 (d.cfgstatDone src slot macOk) = e at hstat ⊢
  have htime : e.KeepsDone (e.stampTime 0x45) :=
    (e.keepsDone_put _ (.inl (by omega))).trans (Dev.keepsDone_put _ _ (.inl (by omega)))
  generalize e.stampTime 0x45 = f at htime ⊢
  have h := hstat.trans htime
  exact ⟨h.w, h.grp⟩

theorem keepsDone_completeEnd : d.KeepsDone d.completeEnd := by
  have hraise : d.KeepsDone (d.raise 55) := .of_groups (fun a _ => d.raise_w 55 a) (d.raise_groups 55)
  have hrr := Dev.sameDemand_syncRr (d.raise 55)
  have hmem : (d.raise 55).syncRr.MemOnly d.completeEnd := (Dev.memOnly_memRelease _).trans (Dev.memOnly_memNext _)
  have hsync : (d.raise 55).KeepsDone (d.raise 55).syncRr :=
    ⟨fun a ha => hrr.words a (fun e => ha (.inr (.inr (.inl e)))), hrr.groups⟩
  exact (hraise.trans hsync).trans (.of_groups (fun a ha => hmem.2 a fun h => ha (.inr (.inr (.inr h)))) hmem.groups)

theorem keepsDone_complete (src : Nat) (slot macOk : Bool) : d.KeepsDone (d.complete src slot macOk) := by
  rw [Dev.complete_eq]
  have hkiss (e : Dev) (l : List MotorIx) : e.KeepsDone (e.each l Dev.loadKiss) :=
    e.keepsDone_each l _ fun x m _ =>
      (x.keepsDone_put _ (.inr (.inl ⟨m, .inl rfl⟩))).trans (Dev.keepsDone_put _ _ (.inr (.inl ⟨m, .inr rfl⟩)))
  exact ((d.keepsDone_completing src slot macOk).trans (hkiss _ _)).trans (Dev.keepsDone_completeEnd _)

/-! ### Completion of a load (R349) -/

/-- The words of the image's header that CFGSTAT's block shows. -/
def imageWords (d : Dev) (ws : List Word) : Dev :=
  d.each (List.range 6) (fun d i => d.put (if i < 2 then 0x43 + i else 0x45 + i) (img ws (if i < 2 then 4 + i else 8 + i)))

theorem imageWords_seq (ws : List Word) : (d.imageWords ws).w 0x43 = img ws 4 ∧ (d.imageWords ws).w 0x44 = img ws 5 := by
  unfold Dev.imageWords Dev.each
  simp [List.range, List.range.loop, Dev.w_put]

theorem imageWords_keeps (ws : List Word) : d.KeepsDone (d.imageWords ws) ∧ (d.imageWords ws).w 0x40 = d.w 0x40 ∧
    (d.imageWords ws).ev = d.ev ∧ (d.imageWords ws).loader = d.loader ∧ (d.imageWords ws).motors = d.motors ∧
    (d.imageWords ws).runs = d.runs := by
  refine ⟨d.keepsDone_each _ _ fun e i hi => ?_, ?_⟩
  · have hlt : i < 6 := List.mem_range.1 hi
    exact e.keepsDone_put _ (.inl (by split <;> omega))
  · refine Dev.each_inv (P := fun e => e.w 0x40 = d.w 0x40 ∧ e.ev = d.ev ∧ e.loader = d.loader ∧ e.motors = d.motors ∧
      e.runs = d.runs) _ d ⟨rfl, rfl, rfl, rfl, rfl⟩ ?_
    rintro e i ⟨hw, hrest⟩
    exact ⟨(e.w_put_ne _ (by split <;> omega)).trans hw, hrest⟩

/-- Completion leaves the sequence number that the header has shown. -/
theorem complete_w_seq (src : Nat) (slot macOk : Bool) {a : Nat} (ha : a = 0x43 ∨ a = 0x44) :
    (d.complete src slot macOk).w a = d.w a := by
  have hne : a ≠ 0x45 + 1 ∧ a ≠ 0x45 ∧ a ≠ 0x40 ∧ a < 0x2000 ∧ isSys a = true := by
    obtain rfl | rfl := ha <;> decide
  obtain ⟨h46, h45, h40, hlt, hsys⟩ := hne
  have hcompleting : (d.completing src slot macOk).w a = d.w a := by
    show ((d.put 0x40 (d.cfgstatDone src slot macOk)).stampTime 0x45).w a = d.w a
    rw [Dev.stampTime, Dev.w_put32, if_neg h46, if_neg h45, Dev.w_put_ne _ _ h40]
  have hend (e : Dev) : e.completeEnd.w a = e.w a := by
    have hmem : (e.raise 55).syncRr.MemOnly e.completeEnd := (Dev.memOnly_memRelease _).trans (Dev.memOnly_memNext _)
    rw [hmem.w (.inl (by omega)), Dev.sys_w (Dev.sys_syncRr (e.raise 55)) a hsys, Dev.raise_w]
  obtain ⟨-, -, hkiss⟩ := Dev.each_loadKiss ((List.finRange 16).filter (d.completing src slot macOk).hasMot)
    (d.completing src slot macOk)
  rw [Dev.complete_eq, hend, hkiss a hlt, hcompleting]

/-- CFGSTAT at completion of a load. -/
theorem cfgstatDone_load (slot mac : Bool) :
    bitOf (d.cfgstatDone 1 slot mac) 15 = true ∧ bitOf (d.cfgstatDone 1 slot mac) 14 = true ∧
    bits (d.cfgstatDone 1 slot mac) 13 12 = 1 ∧ bits (d.cfgstatDone 1 slot mac) 2 0 = 4 ∧
    bitOf (d.cfgstatDone 1 slot mac) 9 = mac := by
  unfold Dev.cfgstatDone
  rw [bitOf_withBits _ _ _ _ _ (by decide) (by decide) (by decide), bitOf_withBits _ _ _ _ _ (by decide) (by decide) (by decide),
    bitOf_withBits _ _ _ _ _ (by decide) (by decide) (by decide),
    bits_withBits_ne _ _ _ _ _ _ (by decide) (by decide) (by decide) (by decide), bits_withBits _ _ _ _ (by decide) (by decide),
    bits_eq_extract]
  refine ⟨by simp [bitOf], by simp [bitOf], ?_, rfl, ?_⟩
  · rw [BitVec.extractLsb'_or, BitVec.extractLsb'_or, BitVec.extractLsb'_and]
    cases slot <;> cases mac <;> simp [word]
  · cases slot <;> cases mac <;> simp [bitOf, word]

/-- What the completion of a load leaves. -/
structure Loaded (d e : Dev) (ws : List Word) : Prop where
  ready : e.bit 0x40 15 = true
  lock : e.bit 0x40 14 = true
  src : e.fld 0x40 13 12 = 1
  phase : e.cfgPhase = 4
  macOk : e.bit 0x40 9 = d.pass1Mac.isSome
  seqLo : e.w 0x43 = img ws 4
  seqHi : e.w 0x44 = img ws 5
  event : e.ev[55].cnt = d.ev[55].cnt + 1
  loader : e.loader = { d.loader with step := 5, m5 := false, defer := [] }
  motors : e.motors = d.motors
  keeps : d.KeepsDone e

theorem loaded_complete {d : Dev} (hr : d.runs = true) (ws : List Word) :
    d.Loaded ((d.imageWords ws).complete 1 (d.loader.sel = 1) d.pass1Mac.isSome) ws := by
  obtain ⟨hkeeps, -, hev, hloader, hmot, hruns⟩ := d.imageWords_keeps ws
  obtain ⟨hlo, hhi⟩ := d.imageWords_seq ws
  generalize d.imageWords ws = x at *
  obtain ⟨hstat, -, hcnt, hload, hmotors⟩ := Dev.complete_spec (hruns.trans hr) 1 (d.loader.sel = 1) d.pass1Mac.isSome
  have hdone := x.keepsDone_complete 1 (d.loader.sel = 1) d.pass1Mac.isSome
  have hseq43 := x.complete_w_seq 1 (d.loader.sel = 1) d.pass1Mac.isSome (.inl rfl)
  have hseq44 := x.complete_w_seq 1 (d.loader.sel = 1) d.pass1Mac.isSome (.inr rfl)
  obtain ⟨hready, hlock, hsrc, hphase, hmac⟩ := x.cfgstatDone_load (d.loader.sel = 1) d.pass1Mac.isSome
  generalize x.complete 1 (d.loader.sel = 1) d.pass1Mac.isSome = e at *
  exact {
    ready := (congrArg (bitOf · 15) hstat).trans hready
    lock := (congrArg (bitOf · 14) hstat).trans hlock
    src := (congrArg (bits · 13 12) hstat).trans hsrc
    phase := (congrArg (bits · 2 0) hstat).trans hphase
    macOk := (congrArg (bitOf · 9) hstat).trans hmac
    seqLo := hseq43.trans hlo
    seqHi := hseq44.trans hhi
    event := by rw [hcnt, hev]
    loader := by rw [hload, hloader]
    motors := hmotors.trans hmot
    keeps := hkeeps.trans hdone }

/-- Completion follows the words that have been recorded, unless one of them ends the load. -/
theorem loaded_loadComplete {d e : Dev} (ws : List Word) (happly : d.applyDeferred [] = e) (hstep : e.loader.step = 4)
    (hr : e.runs = true) : e.Loaded (d.loadComplete ws []) ws := by
  have hcomplete : d.loadComplete ws [] = (e.imageWords ws).complete 1 (e.loader.sel = 1) e.pass1Mac.isSome := by
    obtain ⟨-, -, -, hload, -⟩ := e.imageWords_keeps ws
    unfold Dev.loadComplete
    dsimp only
    rw [happly, if_neg (not_not.2 hstep)]
    show (e.imageWords ws).complete 1 ((e.imageWords ws).loader.sel = 1) (e.imageWords ws).pass1Mac.isSome = _
    unfold Dev.pass1Mac
    rw [hload]
  rw [hcomplete]
  exact Dev.loaded_complete hr ws

theorem applyDeferred_nil {d : Dev} (h : d.loader.defer = []) : d.applyDeferred [] = d := by
  unfold Dev.applyDeferred
  rw [h]
  rfl

theorem applyDeferred_one {d : Dev} {a : Addr} {v : Word} (h : d.loader.defer = [(a, v)]) (hstep : d.loader.step = 4) :
    d.applyDeferred [] = d.fabWrite 5 a.toNat v := by
  unfold Dev.applyDeferred
  rw [h]
  show (if d.loader.step ≠ 4 then d else d.writeWord 5 a.toNat v (errAt [] a.toNat) noCut) = _
  rw [if_neg (not_not.2 hstep)]
  exact d.writeWord_clean _ _ _ _

end Dev

end Sys2Proof.Machine
end

section
/-! The writes of RUN and of GRPSTART by the loader (R33, R345): what they leave of the permissions of later writes, and of the
groups. -/

namespace Sys2Proof.Machine

open Sys2Proof

namespace Dev

/-- The two modules give the loader the same permissions: only the words of the timebases differ, and no group runs in one that
stands in the other. -/
structure SameGate (d e : Dev) : Prop where
  loader : e.loader = d.loader
  bist : e.bist = d.bist
  mirror : e.mirror = d.mirror
  part : e.part = d.part
  runs : e.runs = d.runs
  w : ∀ a, (∀ g, a ≠ aGrp g 1) → e.w a = d.w a
  running : ∀ g, (e.grp g).running = (d.grp g).running

theorem SameGate.refl (d : Dev) : d.SameGate d := ⟨rfl, rfl, rfl, rfl, rfl, fun _ _ => rfl, fun _ => rfl⟩

theorem SameGate.trans {c d e : Dev} (h : c.SameGate d) (h' : d.SameGate e) : c.SameGate e :=
  ⟨h'.loader.trans h.loader, h'.bist.trans h.bist, h'.mirror.trans h.mirror, h'.part.trans h.part, h'.runs.trans h.runs,
    fun a ha => (h'.w a ha).trans (h.w a ha), fun g => (h'.running g).trans (h.running g)⟩

section

variable {d e : Dev} (h : d.SameGate e)
include h

theorem SameGate.hasGrp (g : GroupIx) : e.hasGrp g = d.hasGrp g := by
  unfold Dev.hasGrp
  rw [h.part]

theorem SameGate.cfgPhase : e.cfgPhase = d.cfgPhase := Dev.fld_congr (h.w 0x40 fun g => by unfold aGrp; omega) 2 0

theorem SameGate.runBlocked : e.runBlocked = d.runBlocked := by
  unfold Dev.runBlocked Dev.bit
  rw [h.bist, h.w 0xF401 fun g => by unfold aGrp; omega]

/-- A write that one of them acts on, the other acts on. -/
theorem SameGate.writeOk (k : Master) (a : Nat) : e.writeOk k a = d.writeOk k a := by
  have hstat : e.w 0x40 = d.w 0x40 := h.w 0x40 fun g => by unfold aGrp; omega
  have htbl (t n : Nat) : e.w (aTbl t n) = d.w (aTbl t n) := h.w _ fun g => by unfold aTbl aGrp; omega
  have hgranted : e.granted k = d.granted k := by
    funext wr t n
    unfold Dev.granted Dev.locked' Dev.bit
    rw [hstat, htbl]
  have hmay : e.mayAccess k true a = d.mayAccess k true a := by
    unfold Dev.mayAccess Dev.isMaster
    simp only [hgranted, h.loader, h.bist]
  have hhides : e.bistHides a = d.bistHides a := by
    unfold Dev.bistHides
    rw [h.bist]
  unfold Dev.writeOk Dev.loaderRuns
  rw [hmay, hhides, h.runs, h.cfgPhase]

end

variable (d : Dev)

theorem sameGate_put (g : GroupIx) (v : Word) : d.SameGate (d.put (aGrp g 1) v) :=
  ⟨rfl, rfl, rfl, rfl, rfl, fun _ ha => d.w_put_ne v (ha g), fun _ => rfl⟩

theorem sameGate_onGrp (g : GroupIx) (f : Group → Group) (h : ∀ x, (f x).running = x.running) : d.SameGate (d.onGrp g f) := by
  refine ⟨rfl, rfl, rfl, rfl, rfl, fun _ _ => rfl, fun j => ?_⟩
  by_cases hj : j = g
  · subst hj
    rw [Dev.onGrp_grp]
    exact h _
  · rw [Dev.onGrp_grp_ne _ _ hj]

theorem sameGate_seqStopped (p : GroupIx) : d.SameGate (d.seqStopped p) := by
  unfold Dev.seqStopped
  split <;> exact ⟨rfl, rfl, rfl, rfl, rfl, fun _ _ => rfl, fun _ => rfl⟩

theorem seqStopped_groups (p : GroupIx) : (d.seqStopped p).groups = d.groups := by
  unfold Dev.seqStopped
  split <;> rfl

theorem sameGate_setRun (g : GroupIx) (run : Bool) : d.SameGate (d.setRun g run) := by
  unfold Dev.setRun
  split
  · split
    · exact .refl d
    · exact (d.sameGate_put g _).trans (Dev.sameGate_onGrp _ g _ fun _ => rfl)
  · exact (d.sameGate_put g _).trans (Dev.sameGate_seqStopped _ g)

/-- RUN as it is set or cleared; set, it starts a group that stands. -/
theorem setRun_spec {d : Dev} {g : GroupIx} (hg : d.hasGrp g = true) {run : Bool} (hb : run = true → d.runBlocked = false) :
    (d.setRun g run).bit (aGrp g 1) 0 = run ∧
    ((d.setRun g run).grp g).starting = (if run then !(d.grp g).running else (d.grp g).starting) ∧
    (∀ o, o ≠ g → ((d.setRun g run).bit (aGrp o 1) 0 = d.bit (aGrp o 1) 0 ∧
      ((d.setRun g run).grp o).starting = (d.grp o).starting)) := by
  have hother (o : GroupIx) (ho : o ≠ g) (b : Bool) : (d.putB (aGrp g 1) 0 b).bit (aGrp o 1) 0 = d.bit (aGrp o 1) 0 := by
    rw [Dev.bit_putB _ _ _ _ _ _ (by decide) (by decide), if_neg]
    exact fun e => ho (Fin.ext (by have := e.1; unfold aGrp at this; omega))
  cases run with
  | true =>
    have hset : d.setRun g true = (d.putB (aGrp g 1) 0 true).onGrp g (fun x => { x with starting := !x.running }) := by
      unfold Dev.setRun
      rw [if_pos rfl, hb rfl, hg, if_neg (by decide)]
    have hself := Dev.bit_putB_self d (aGrp g 1) 0 true (by decide)
    have hgrp (o : GroupIx) : (d.putB (aGrp g 1) 0 true).grp o = d.grp o := d.putB_grp _ _ _ o
    have hoff (o : GroupIx) (ho : o ≠ g) := hother o ho true
    rw [hset]
    generalize d.putB (aGrp g 1) 0 true = e at hself hgrp hoff
    refine ⟨hself, ?_, fun o ho => ⟨hoff o ho, ?_⟩⟩
    · rw [Dev.onGrp_grp, hgrp, if_pos rfl]
    · rw [Dev.onGrp_grp_ne _ _ ho, hgrp]
  | false =>
    have hgrp (o : GroupIx) : (d.setRun g false).grp o = d.grp o := by
      show ((d.putB (aGrp g 1) 0 false).seqStopped g).grp o = d.grp o
      unfold Dev.grp
      rw [Dev.seqStopped_groups, Dev.putB_groups]
    have hbit (a : Nat) : (d.setRun g false).bit a 0 = (d.putB (aGrp g 1) 0 false).bit a 0 :=
      Dev.bit_congr (Dev.w_of_words (Dev.seqStopped_keeps _ g).1 a) 0
    exact ⟨(hbit _).trans (Dev.bit_putB_self _ _ _ _ (by decide)), congrArg Group.starting (hgrp g),
      fun o ho => ⟨(hbit _).trans (hother o ho false), congrArg Group.starting (hgrp o)⟩⟩

/-- A write of a group's RUN by the loader. -/
theorem fabWrite_run {d : Dev} {g : GroupIx} (v : Word) (hw : d.writeOk 5 (aGrp g 1) = true) (hg : d.hasGrp g = true)
    (hb : bitOf v 0 = true → d.runBlocked = false) :
    d.SameGate (d.fabWrite 5 (aGrp g 1) v) ∧ (d.fabWrite 5 (aGrp g 1) v).bit (aGrp g 1) 0 = bitOf v 0 ∧
    ((d.fabWrite 5 (aGrp g 1) v).grp g).starting = (if bitOf v 0 then !(d.grp g).running else (d.grp g).starting) := by
  rw [d.fabWrite_grpCfg 5 v g hw hg]
  have hput := d.sameGate_put g (withBit (d.merge (aGrp g 1) v) 0 (d.bit (aGrp g 1) 0))
  have hgrp : (d.put (aGrp g 1) (withBit (d.merge (aGrp g 1) v) 0 (d.bit (aGrp g 1) 0))).grp g = d.grp g := rfl
  generalize d.put (aGrp g 1) (withBit (d.merge (aGrp g 1) v) 0 (d.bit (aGrp g 1) 0)) = e at hput hgrp
  obtain ⟨hbit, hstart, -⟩ := Dev.setRun_spec ((hput.hasGrp g).trans hg) (run := bitOf v 0)
    (fun h => hput.runBlocked.trans (hb h))
  rw [hgrp] at hstart
  exact ⟨hput.trans (Dev.sameGate_setRun e g _), hbit, hstart⟩

/-- GRPSTART starts every named group that stands. -/
theorem fabWrite_starts {d : Dev} (v : Word) (hw : d.writeOk 5 0xF = true) (hb : d.runBlocked = false) :
    d.SameGate (d.fabWrite 5 0xF v) ∧ ∀ g, d.hasGrp g = true → bitOf v g.1 = true →
      (d.fabWrite 5 0xF v).bit (aGrp g 1) 0 = true ∧ ((d.fabWrite 5 0xF v).grp g).starting = !(d.grp g).running := by
  have heach : d.fabWrite 5 0xF v = d.each (List.finRange 4) (fun d g => if bitOf v g.1 then d.setRun g true else d) :=
    d.fabWrite_grpstart 5 v hw
  have hstep (e : Dev) (g : GroupIx) : e.SameGate (if bitOf v g.1 then e.setRun g true else e) := by
    split
    · exact e.sameGate_setRun g true
    · exact .refl e
  rw [heach]
  refine ⟨Dev.each_inv (P := fun e => d.SameGate e) _ d (.refl d) fun e g he => he.trans (hstep e g), fun g hg hv => ?_⟩
  refine (Dev.each_once (I := fun e => d.SameGate e)
    (P := fun e => d.SameGate e ∧ e.bit (aGrp g 1) 0 = true ∧ (e.grp g).starting = !(d.grp g).running)
    (List.finRange 4) (List.nodup_finRange 4) (List.mem_finRange g) d (.refl d) (fun e c _ he => he.trans (hstep e c)) ?_ ?_).2
  · intro e he
    obtain ⟨hbit, hstart, -⟩ := Dev.setRun_spec ((he.hasGrp g).trans hg) (run := true) (fun _ => he.runBlocked.trans hb)
    rw [if_pos hv]
    exact ⟨he.trans (e.sameGate_setRun g true), hbit, by rw [hstart, if_pos rfl, he.running]⟩
  · rintro e c hc ⟨he, hbit, hstart⟩
    refine ⟨he.trans (hstep e c), ?_⟩
    split
    · by_cases hcg : e.hasGrp c = true
      · obtain ⟨-, -, hother⟩ := Dev.setRun_spec hcg (run := true) (fun _ => he.runBlocked.trans hb)
        obtain ⟨hbit', hstart'⟩ := hother g (Ne.symm hc)
        exact ⟨hbit'.trans hbit, hstart'.trans hstart⟩
      · have hnone : e.setRun c true = e := by
          unfold Dev.setRun
          rw [if_pos rfl, if_pos (by simp [hcg])]
        rw [hnone]
        exact ⟨hbit, hstart⟩
    · exact ⟨hbit, hstart⟩

end Dev

end Sys2Proof.Machine
end

section
/-! Proof of the statement on pass 2 of the configuration load (R341, R345 to R350). -/

namespace Sys2Proof.Machine

open Sys2Proof

/-! ### Deferred fields and empty sections -/

theorem writes_of_wait {x : Section} (h : x.ty = 4) : x.writes = [] := by
  unfold Section.writes
  rw [h]
  rfl

theorem deferField_run (g : GroupIx) : deferField (aGrp g 1) = some 1 :=
  (by decide : ∀ g : GroupIx, deferField (aGrp g 1) = some 1) g

/-- The deferred field is written 0. -/
theorem bitOf_undeferred (v : Word) : bitOf (v &&& ~~~1#16) 0 = false := by simp [bitOf]

theorem toNat_aGrp (g : GroupIx) : (BitVec.ofNat 24 (aGrp g 1)).toNat = aGrp g 1 :=
  Nat.mod_eq_of_lt (by unfold aGrp; omega)

theorem toNat_aMot (m : MotorIx) : (BitVec.ofNat 24 (aMot m 0)).toNat = aMot m 0 :=
  Nat.mod_eq_of_lt (by unfold aMot; omega)

theorem not_isDoneWord_grp (g : GroupIx) : ¬ isDoneWord (aGrp g 1) := by
  rintro (h | ⟨m, h⟩ | h | ⟨h, -⟩) <;> simp only [aGrp, aMot] at h <;> omega

theorem not_isDoneWord_ctrl (m : MotorIx) : ¬ isDoneWord (aMot m 0) := by
  rintro (h | ⟨n, h⟩ | h | ⟨h, -⟩) <;> simp only [aMot] at h <;> omega

namespace Dev

theorem sys_load {d e : Dev} (h : e.sys = d.sys) : e.loader = d.loader ∧ e.runs = d.runs := by
  have hreset : e.resetN = d.resetN := congrArg SysView.resetN h
  have hlock : e.locked = d.locked := congrArg SysView.locked h
  refine ⟨congrArg SysView.loader h, ?_⟩
  unfold Dev.runs
  rw [hreset, hlock]

/-- A write of CTRL by the loader leaves the load as it stands, and EN as it was written. -/
theorem fabWrite_enable {d : Dev} {m : MotorIx} (v : Word) (hw : d.writeOk 5 (aMot m 0) = true) (hm : d.hasMot m = true) :
    (d.fabWrite 5 (aMot m 0) v).loader = d.loader ∧ (d.fabWrite 5 (aMot m 0) v).runs = d.runs ∧
    (d.fabWrite 5 (aMot m 0) v).bit (aMot m 0) 0 = bitOf v 0 := by
  rw [d.fabWrite_motCtrl 5 v m hw hm]
  have hen : (d.put (aMot m 0) (d.merge (aMot m 0) v)).bit (aMot m 0) 0 = bitOf v 0 := by
    rw [Dev.bit, Dev.w_put_self, Dev.bitOf_merge_en]
  have hparts : (d.put (aMot m 0) (d.merge (aMot m 0) v)).loader = d.loader ∧
    (d.put (aMot m 0) (d.merge (aMot m 0) v)).runs = d.runs := ⟨rfl, rfl⟩
  dsimp only
  generalize d.put (aMot m 0) (d.merge (aMot m 0) v) = e at hen hparts
  obtain ⟨hloader, hruns⟩ := hparts
  split
  · obtain ⟨hload, hrun⟩ := Dev.sys_load (Dev.sys_toIdle e m)
    exact ⟨hload.trans hloader, hrun.trans hruns,
      (Dev.bit_congr (e.toIdle_w m (by simp [shownWords, aMot])) 0).trans hen⟩
  · exact ⟨(e.drive_loader m).trans hloader, (e.drive_runs m).trans hruns, (e.drive_bit m _ _).trans hen⟩

theorem counted_rest (d : Dev) (n : Nat) : (∀ a i, (d.counted n).bit a i = d.bit a i) ∧
    (d.counted n).loader.defer = d.loader.defer ∧ (d.counted n).loader.sect = n + 1 ∧ (d.counted n).cfgPhase = d.cfgPhase ∧
    ∀ g, (d.counted n).grp g = d.grp g := ⟨fun _ _ => rfl, rfl, rfl, rfl, fun _ => rfl⟩

/-- The pause after a WAIT changes its end alone. -/
theorem pauseAfter_keeps (ws : List Word) (d : Dev) :
    ∃ u, pauseAfter ws (d, true) = d.withLoader { d.loader with waitUntil := u } := by
  unfold Dev.pauseAfter
  dsimp only
  split
  · exact ⟨_, rfl⟩
  · exact ⟨d.loader.waitUntil, rfl⟩

/-- A section of one word with a group's RUN: it is written with RUN 0, and recorded. -/
theorem loadSection_run {s : State} {x : Section} {g : GroupIx} {v : Word} (hstep : s.dev.loader.step = 4)
    (happ : x.applies s.dev.mirror.id = true)
    (hone : x.writes = [(aGrp g 1, v)]) (hg : s.dev.hasGrp g = true) (hwr : s.dev.writeOk 5 (aGrp g 1) = true) :
    ∃ e, s.dev.loadSection [] x = e.recorded (aGrp g 1) v ∧ s.dev.SameGate e ∧ e.bit (aGrp g 1) 0 = false ∧
      (e.grp g).starting = (s.dev.grp g).starting := by
  obtain ⟨hgate, hbit, hstart⟩ := Dev.fabWrite_run (v &&& ~~~1#16) hwr hg (by rw [bitOf_undeferred]; exact nofun)
  rw [bitOf_undeferred] at hbit
  rw [bitOf_undeferred, if_neg (by decide)] at hstart
  refine ⟨_, ?_, hgate, hbit, hstart⟩
  rw [Dev.loadSection_one [] happ hone]
  exact Dev.loadWord_deferred v hstep (deferField_run g) ((congrArg Loader.step hgate.loader).trans hstep)

section

variable {s : State} {ws : List Word} (hr : s.dev.runs = true) (hstep : s.dev.loader.step = 4) (hphase : s.dev.cfgPhase = 3)
  (hm : s.dev.memMay = true) (hw : s.dev.loader.waitUntil = none)
include hr hstep hphase hm hw

/-! ### A WAIT (R341) -/

theorem exec_wait {x : Section} {t : List Section} (hl : s.dev.restSections ws = x :: t) (hty : x.ty = 4)
    (happ : x.applies s.dev.mirror.id = true) (hok : x.crcOk = true)
    (hcrc : s.dev.pass1Crcs.getD s.dev.loader.sect 0 = x.crc) :
    exec (.loaderWaitEnd ws true) s = .next { s with dev := s.dev.withLoader { s.dev.loader with
      sect := s.dev.loader.sect + 1, waitUntil := some (s.dev.cycles + 200 * (img x.payload 0).toNat) } } := by
  have hwait : hasWait s.dev.mirror.id (x :: t) = true := by simp [hasWait, hty, happ]
  have hload : Dev.loadSections true [] (x :: t) s.dev = (s.dev.counted s.dev.loader.sect, true) := by
    rw [Dev.loadSections_good true t (Dev.loadSection_empty [] (writes_of_wait hty)) hstep hcrc hok, if_pos]
    simp [hty, happ]
  have hat : ((readSections s.dev.pass1Crcs.length (ws.drop 16)).1)[s.dev.loader.sect]? = some x := by
    have hhead := congrArg (·[0]?) hl
    simpa [Dev.restSections] using hhead
  rw [exec_waitReached hr hstep hphase ws hm hw hl hwait, hload]
  have hpause : pauseAfter ws (s.dev.counted s.dev.loader.sect, true) = s.dev.withLoader { s.dev.loader with
      sect := s.dev.loader.sect + 1, waitUntil := some (s.dev.cycles + 200 * (img x.payload 0).toNat) } := by
    show (match ((readSections s.dev.pass1Crcs.length (ws.drop 16)).1)[s.dev.loader.sect]? with
      | some x => (s.dev.counted s.dev.loader.sect).withLoader { (s.dev.counted s.dev.loader.sect).loader with
          waitUntil := some ((s.dev.counted s.dev.loader.sect).cycles + 200 * (img x.payload 0).toNat) }
      | none => s.dev.counted s.dev.loader.sect) = _
    rw [hat]
    rfl
  rw [hpause]

/-! ### Completion and failure after the last section (R343, R347, R349) -/

theorem exec_complete {e : Dev} (hl : s.dev.restSections ws = []) (hmac : s.dev.pass1Mac = none)
    (happly : s.dev.applyDeferred [] = e) (hstep' : e.loader.step = 4) (hr' : e.runs = true) :
    ∃ d, exec (.pass2Complete ws) s = .next { s with dev := d } ∧ e.Loaded d ws := by
  refine ⟨_, exec_pass2 hr hstep hphase ws hm hw hl rfl, ?_⟩
  show e.Loaded (match s.dev.pass1Mac with | some _ => _ | none => s.dev.loadComplete ws []) ws
  rw [hmac]
  exact Dev.loaded_loadComplete ws happly hstep' hr'

theorem exec_differs {x : Section} (hsel : s.dev.loader.sel ≤ 1) (hbist : s.dev.bist.run = none)
    (hl : s.dev.restSections ws = [x]) (happ : x.applies s.dev.mirror.id = false)
    (hcrc : s.dev.pass1Crcs.getD s.dev.loader.sect 0 ≠ x.crc) :
    ∃ d, exec (.pass2Complete ws) s = .next { s with dev := d } ∧ d.cfgPhase = 6 ∧ d.bit 0x40 11 = true ∧
      d.bit 0x40 15 = s.dev.bit 0x40 15 ∧ d.bit 0x32 4 = true ∧
      d.w (0x41 + s.dev.loader.sel) = word (14 * 4096 + (s.dev.loader.sect + 1) % 4096) := by
  have hno : hasWait s.dev.mirror.id [x] = false := by simp [hasWait, happ]
  have hload := Dev.loadSections_bad false [] (Dev.loadSection_skipped [] happ) hstep hcrc
  refine ⟨_, exec_pass2 hr hstep hphase ws hm hw hl hno, ?_⟩
  rw [hload]
  obtain ⟨hp6, hpart, hready, hcause, -, herr, -⟩ :=
    Dev.pass2Fails_spec (d := s.dev.counted s.dev.loader.sect) hr hstep hphase hsel hbist (s.dev.loader.sect + 1)
  exact ⟨hp6, hpart, hready, hcause, herr⟩

theorem exec_mac {t : BitVec 128} (hl : s.dev.restSections ws = []) (hmac : s.dev.pass1Mac = some t) :
    let mac := imageMac s.dev.fuses.imageKey (ws.take (bodyLen (readSections s.dev.pass1Crcs.length (ws.drop 16)).1))
    (mac = t → s.dev.loader.defer = [] → ∃ d, exec (.pass2Complete ws) s = .next { s with dev := d } ∧ s.dev.Loaded d ws) ∧
    (mac ≠ t → exec (.pass2Complete ws) s = .next { s with dev := s.dev.pass2Fails 0 }) := by
  have hexec := exec_pass2 hr hstep hphase ws hm hw hl rfl
  intro mac
  have hafter : afterSections s.dev ws (Dev.loadSections false [] [] s.dev) =
      if mac = t then s.dev.loadComplete ws [] else s.dev.pass2Fails 0 := by
    show (match s.dev.pass1Mac with | some t => _ | none => _) = _
    rw [hmac]
  rw [hafter] at hexec
  refine ⟨fun heq hdefer => ?_, fun hne => ?_⟩
  · rw [if_pos heq] at hexec
    exact ⟨_, hexec, Dev.loaded_loadComplete ws (Dev.applyDeferred_nil hdefer) hstep hr⟩
  · rwa [if_neg hne] at hexec

/-! ### The last section's word (R345, R350) -/

/-- The last section is loaded, and the load completes. -/
theorem exec_lastSection {x : Section} {f e : Dev} (hl : s.dev.restSections ws = [x]) (hty : x.ty ≠ 4) (hok : x.crcOk = true)
    (hmac : s.dev.pass1Mac = none) (hcrc : s.dev.pass1Crcs.getD s.dev.loader.sect 0 = x.crc)
    (hload : s.dev.loadSection [] x = f) (hsect : f.loader.step = 4 ∧ f.pass1Crcs = s.dev.pass1Crcs ∧ f.pass1Mac = s.dev.pass1Mac)
    (happly : (f.counted s.dev.loader.sect).applyDeferred [] = e) (hstep' : e.loader.step = 4) (hr' : e.runs = true) :
    ∃ d, exec (.pass2Complete ws) s = .next { s with dev := d } ∧ e.Loaded d ws := by
  obtain ⟨hfstep, hfcrc, hfmac⟩ := hsect
  have hno : hasWait s.dev.mirror.id [x] = false := by simp [hasWait, hty]
  have hload' : Dev.loadSections false [] [x] s.dev = (f.counted s.dev.loader.sect, true) := by
    rw [Dev.loadSections_good false [] hload hfstep (by rw [hfcrc, hcrc]) hok, if_neg (by simp)]
    rfl
  refine ⟨_, exec_pass2 hr hstep hphase ws hm hw hl hno, ?_⟩
  rw [hload']
  show e.Loaded (match f.pass1Mac with | some _ => _ | none => (f.counted s.dev.loader.sect).loadComplete ws []) ws
  rw [hfmac, hmac]
  exact Dev.loaded_loadComplete ws happly hstep' hr'

theorem exec_plainWord {x : Section} {a : Nat} {v : Word} {r : RegRow} (hl : s.dev.restSections ws = [x])
    (happ : x.applies s.dev.mirror.id = true) (hty : x.ty ≠ 4) (hok : x.crcOk = true)
    (hcrc : s.dev.pass1Crcs.getD s.dev.loader.sect 0 = x.crc) (hmac : s.dev.pass1Mac = none) (hdefer : s.dev.loader.defer = [])
    (hone : x.writes = [(a, v)]) (hd : deferField a = none) (hwr : s.dev.writeOk 5 a = true) (hreg : regRow a = some r)
    (habs : s.dev.absent a = false) (hp : plainWord a = true) (hlock : s.dev.locked' = false) :
    ∃ d, exec (.pass2Complete ws) s = .next { s with dev := d } ∧ d.cfgPhase = 4 ∧ d.bit 0x40 15 = true ∧
      ∀ i, i < 16 → (absentBits s.dev a).getLsbD i = false →
        (r.mask .rw).testBit i = true ∨ (r.mask .rwl).testBit i = true → d.bit a i = bitOf v i := by
  have hload : s.dev.loadSection [] x = s.dev.commit 5 a v := by
    rw [Dev.loadSection_one [] happ hone, Dev.loadWord_plain v hstep hd, s.dev.fabWrite_ok 5 a v hwr]
  obtain ⟨hval, -, -⟩ := s.dev.commit_plain_frame 5 a v r hreg habs hp
  obtain ⟨gl, hcommit⟩ := s.dev.commit_plain 5 a v (by unfold isReg; rw [hreg]; rfl) habs hp
  have hkept : (s.dev.commit 5 a v).loader = s.dev.loader ∧ (s.dev.commit 5 a v).runs = s.dev.runs := by
    rw [hcommit]
    exact ⟨rfl, rfl⟩
  generalize s.dev.commit 5 a v = f at hload hval hkept
  obtain ⟨hloader, hruns⟩ := hkept
  have hparts : f.loader.step = 4 ∧ f.pass1Crcs = s.dev.pass1Crcs ∧ f.pass1Mac = s.dev.pass1Mac := by
    unfold Dev.pass1Crcs Dev.pass1Mac
    rw [hloader]
    exact ⟨hstep, rfl, rfl⟩
  have happly : (f.counted s.dev.loader.sect).applyDeferred [] = f.counted s.dev.loader.sect :=
    Dev.applyDeferred_nil ((congrArg Loader.defer hloader).trans hdefer)
  obtain ⟨d, hexec, hdone⟩ := exec_lastSection hr hstep hphase hm hw hl hty hok hmac hcrc hload hparts happly hparts.1 (hruns.trans hr)
  refine ⟨d, hexec, hdone.phase, hdone.ready, fun i hi hb hmask => ?_⟩
  have hkeep : d.w a = s.dev.merged r a v := by
    refine (hdone.keeps.w a fun hdw => ?_).trans hval
    have hro := doneWord_readOnly hdw hreg hp
    unfold RegRow.readOnly at hro
    simp only [Bool.and_eq_true, beq_iff_eq] at hro
    obtain ⟨hrw, hrwl⟩ := hro
    rw [hrw, hrwl] at hmask
    simp at hmask
  have htakes : s.dev.takes r i = true := by
    unfold Dev.takes
    rw [hlock]
    simpa using hmask
  rw [Dev.bit, hkeep, s.dev.bitOf_merged a v r hi hb, if_pos htakes]

theorem exec_run {x : Section} {g : GroupIx} {v : Word} (hl : s.dev.restSections ws = [x])
    (happ : x.applies s.dev.mirror.id = true) (hty : x.ty ≠ 4) (hok : x.crcOk = true)
    (hcrc : s.dev.pass1Crcs.getD s.dev.loader.sect 0 = x.crc) (hmac : s.dev.pass1Mac = none) (hdefer : s.dev.loader.defer = [])
    (hone : x.writes = [(aGrp g 1, v)]) (hg : s.dev.hasGrp g = true) (hwr : s.dev.writeOk 5 (aGrp g 1) = true)
    (hblock : s.dev.runBlocked = false) :
    ∃ d, exec (.pass2Complete ws) s = .next { s with dev := d } ∧ d.cfgPhase = 4 ∧ d.bit 0x40 15 = true ∧
      d.bit (aGrp g 1) 0 = bitOf v 0 ∧ (d.grp g).running = (s.dev.grp g).running ∧
      (d.grp g).starting = (if bitOf v 0 then !(s.dev.grp g).running else (s.dev.grp g).starting) := by
  obtain ⟨e, hload, hgate, -, hestart⟩ := loadSection_run hstep happ hone hg hwr
  -- The recorded word stands alone, and is written again in full.
  let f := (e.recorded (aGrp g 1) v).counted s.dev.loader.sect
  have hfgate : f.runs = e.runs ∧ f.loader.step = e.loader.step ∧ f.grp g = e.grp g ∧ f.hasGrp g = e.hasGrp g ∧
    f.runBlocked = e.runBlocked ∧ f.writeOk 5 (aGrp g 1) = e.writeOk 5 (aGrp g 1) := ⟨rfl, rfl, rfl, rfl, rfl, rfl⟩
  have hfdefer : f.loader.defer = [(BitVec.ofNat 24 (aGrp g 1), v)] := by
    show e.loader.defer ++ [(BitVec.ofNat 24 (aGrp g 1), v)] = _
    rw [hgate.loader, hdefer, List.nil_append]
  have hparts : (e.recorded (aGrp g 1) v).loader.step = 4 ∧ (e.recorded (aGrp g 1) v).pass1Crcs = s.dev.pass1Crcs ∧
      (e.recorded (aGrp g 1) v).pass1Mac = s.dev.pass1Mac := by
    refine ⟨(congrArg Loader.step hgate.loader).trans hstep, ?_, ?_⟩
    · show (if e.loader.sel = 0 then e.loader.crcs0 else e.loader.crcs1) = _
      rw [hgate.loader]
      rfl
    · show (if e.loader.sel = 0 then e.loader.mac0 else e.loader.mac1) = _
      rw [hgate.loader]
      rfl
  have hthen (y : Dev) := exec_lastSection (f := e.recorded (aGrp g 1) v) (e := y) hr hstep hphase hm hw hl hty hok hmac hcrc
    hload hparts
  change ∀ y, f.applyDeferred [] = y → _ at hthen
  clear_value f
  obtain ⟨hfruns, hfstep, hfgrp, hfhas, hfblock, hfwrite⟩ := hfgate
  have hfstep4 : f.loader.step = 4 := by rw [hfstep, hgate.loader, hstep]
  have happly : f.applyDeferred [] = f.fabWrite 5 (aGrp g 1) v := by
    rw [Dev.applyDeferred_one hfdefer hfstep4, toNat_aGrp]
  obtain ⟨hgate', hbit, hstart⟩ := Dev.fabWrite_run (d := f) v (by rw [hfwrite, hgate.writeOk, hwr])
    (by rw [hfhas, hgate.hasGrp, hg]) (fun _ => by rw [hfblock, hgate.runBlocked, hblock])
  obtain ⟨d, hexec, hdone⟩ := hthen _ happly ((congrArg Loader.step hgate'.loader).trans hfstep4)
    (by rw [hgate'.runs, hfruns, hgate.runs, hr])
  refine ⟨d, hexec, hdone.phase, hdone.ready, ?_, ?_, ?_⟩
  · exact (Dev.bit_congr (hdone.keeps.w _ (not_isDoneWord_grp g)) 0).trans hbit
  · rw [hdone.keeps.running, hgate'.running, hfgrp, hgate.running]
  · rw [hdone.keeps.starting, hstart, hfgrp, hgate.running, hestart]

/-- A word with RUN before a WAIT: RUN is 0, the word is recorded, and the WAIT is reached. -/
theorem exec_runThenWait {x y : Section} {t : List Section} {g : GroupIx} {v : Word} (hl : s.dev.restSections ws = x :: y :: t)
    (happ : x.applies s.dev.mirror.id = true) (hty : x.ty ≠ 4) (hok : x.crcOk = true)
    (hcrc : s.dev.pass1Crcs.getD s.dev.loader.sect 0 = x.crc) (hone : x.writes = [(aGrp g 1, v)]) (hg : s.dev.hasGrp g = true)
    (hwr : s.dev.writeOk 5 (aGrp g 1) = true) (happ' : y.applies s.dev.mirror.id = true) (hty' : y.ty = 4)
    (hok' : y.crcOk = true) (hcrc' : s.dev.pass1Crcs.getD (s.dev.loader.sect + 1) 0 = y.crc) :
    ∃ d, exec (.loaderWaitEnd ws true) s = .next { s with dev := d } ∧ d.bit (aGrp g 1) 0 = false ∧
      d.loader.defer = s.dev.loader.defer ++ [(BitVec.ofNat 24 (aGrp g 1), v)] ∧ d.loader.sect = s.dev.loader.sect + 2 ∧
      d.cfgPhase = 3 ∧ (d.grp g).running = (s.dev.grp g).running := by
  obtain ⟨e, hload, hgate, hbit, -⟩ := loadSection_run hstep happ hone hg hwr
  have hwait : hasWait s.dev.mirror.id (x :: y :: t) = true := by simp [hasWait, hty', happ']
  have hcrcs : (e.recorded (aGrp g 1) v).pass1Crcs = s.dev.pass1Crcs := by
    show (if e.loader.sel = 0 then e.loader.crcs0 else e.loader.crcs1) = _
    rw [hgate.loader]
    rfl
  have hstep' : (e.recorded (aGrp g 1) v).loader.step = 4 := (congrArg Loader.step hgate.loader).trans hstep
  have hid : (e.recorded (aGrp g 1) v).mirror.id = s.dev.mirror.id := congrArg MirrorSt.id hgate.mirror
  have hdefer : (e.recorded (aGrp g 1) v).loader.defer = s.dev.loader.defer ++ [(BitVec.ofNat 24 (aGrp g 1), v)] := by
    show e.loader.defer ++ _ = _
    rw [hgate.loader]
  have hoff : (e.recorded (aGrp g 1) v).bit (aGrp g 1) 0 = false := hbit
  have hphase' : (e.recorded (aGrp g 1) v).cfgPhase = 3 := hgate.cfgPhase.trans hphase
  have hrunning : ((e.recorded (aGrp g 1) v).grp g).running = (s.dev.grp g).running := hgate.running g
  generalize e.recorded (aGrp g 1) v = r at *
  have hcounted := r.counted_keeps s.dev.loader.sect
  have hsect : (r.counted s.dev.loader.sect).loader.sect = s.dev.loader.sect + 1 := rfl
  obtain ⟨hcstep, hccrcs, hcmirror⟩ := hcounted
  have hall : Dev.loadSections true [] (x :: y :: t) s.dev =
      ((r.counted s.dev.loader.sect).counted (s.dev.loader.sect + 1), true) := by
    rw [Dev.loadSections_good true _ hload hstep' (by rw [hcrcs, hcrc]) hok, if_neg (by simp [hty]),
      Dev.loadSections_good true t (Dev.loadSection_empty [] (writes_of_wait hty')) (hcstep.trans hstep')
        (by rw [hccrcs, hcrcs, hsect, hcrc']) hok', if_pos, hsect]
    rw [hcmirror, hid, hty', happ']
    rfl
  obtain ⟨hbits, hdefers, hsects, hphases, hgrps⟩ := r.counted_rest s.dev.loader.sect
  obtain ⟨hbits', hdefers', hsects', hphases', hgrps'⟩ := (r.counted s.dev.loader.sect).counted_rest (s.dev.loader.sect + 1)
  refine ⟨_, exec_waitReached hr hstep hphase ws hm hw hl hwait, ?_⟩
  rw [hall]
  generalize (r.counted s.dev.loader.sect).counted (s.dev.loader.sect + 1) = z at *
  obtain ⟨u, hu⟩ := pauseAfter_keeps ws z
  rw [hu]
  refine ⟨?_, ?_, hsects', ?_, ?_⟩
  · exact (hbits' _ _).trans ((hbits _ _).trans hoff)
  · exact hdefers'.trans (hdefers.trans hdefer)
  · exact hphases'.trans (hphases.trans hphase')
  · exact (congrArg Group.running ((hgrps' g).trans (hgrps g))).trans hrunning

/-! ### Recorded words at completion (R345) -/

theorem exec_grpstart {v : Word} (hl : s.dev.restSections ws = []) (hmac : s.dev.pass1Mac = none)
    (hdefer : s.dev.loader.defer = [(0xF, v)]) (hwr : s.dev.writeOk 5 0xF = true) (hblock : s.dev.runBlocked = false) :
    ∃ d, exec (.pass2Complete ws) s = .next { s with dev := d } ∧ d.cfgPhase = 4 ∧ d.loader.defer = [] ∧
      ∀ g, s.dev.hasGrp g = true → bitOf v g.1 = true →
        d.bit (aGrp g 1) 0 = true ∧ (d.grp g).starting = !(s.dev.grp g).running := by
  obtain ⟨hgate, hstarts⟩ := Dev.fabWrite_starts v hwr hblock
  obtain ⟨d, hexec, hdone⟩ := exec_complete hr hstep hphase hm hw hl hmac (Dev.applyDeferred_one hdefer hstep)
    ((congrArg Loader.step hgate.loader).trans hstep) (hgate.runs.trans hr)
  refine ⟨d, hexec, hdone.phase, congrArg Loader.defer hdone.loader, fun g hg hv => ?_⟩
  obtain ⟨hbit, hstart⟩ := hstarts g hg hv
  exact ⟨(Dev.bit_congr (hdone.keeps.w _ (not_isDoneWord_grp g)) 0).trans hbit, (hdone.keeps.starting g).trans hstart⟩

theorem exec_enable {v : Word} {m : MotorIx} (hl : s.dev.restSections ws = []) (hmac : s.dev.pass1Mac = none)
    (hdefer : s.dev.loader.defer = [(BitVec.ofNat 24 (aMot m 0), v)]) (hwr : s.dev.writeOk 5 (aMot m 0) = true)
    (hmot : s.dev.hasMot m = true) :
    ∃ d, exec (.pass2Complete ws) s = .next { s with dev := d } ∧ d.cfgPhase = 4 ∧ d.enabled m = bitOf v 0 := by
  have happly : s.dev.applyDeferred [] = s.dev.fabWrite 5 (aMot m 0) v := by
    rw [Dev.applyDeferred_one hdefer hstep, toNat_aMot]
  obtain ⟨hloader, hruns, hbit⟩ := Dev.fabWrite_enable v hwr hmot
  obtain ⟨d, hexec, hdone⟩ := exec_complete hr hstep hphase hm hw hl hmac happly
    ((congrArg Loader.step hloader).trans hstep) (hruns.trans hr)
  exact ⟨d, hexec, hdone.phase, (Dev.bit_congr (hdone.keeps.w _ (not_isDoneWord_ctrl m)) 0).trans hbit⟩

end

end Dev

/-- Settles O20: each case of the sections that are left, by what loading them and completing, or failing, leaves. -/
theorem passTwo : Obligations.PassTwo := by
  intro s ws hr hstep hphase hsel hbist
  refine ⟨?_, ?_, ?_, ?_, ?_, ?_, ?_, ?_⟩
  · intro x t hl hty happ hok hcrc hm hw
    exact Dev.exec_wait hr hstep hphase hm hw hl hty happ hok hcrc
  · intro t ht
    exact Dev.exec_waitOver hr hstep hphase ws ht
  · intro hm hw hl hmac hdefer
    obtain ⟨d, hexec, h⟩ := Dev.exec_complete hr hstep hphase hm hw hl hmac (Dev.applyDeferred_nil hdefer) hstep hr
    exact ⟨d, hexec, h.ready, h.lock, h.src, h.phase, h.seqLo, h.seqHi, h.event, congrArg Loader.m5 h.loader, h.motors⟩
  · intro x hm hw hl happ hcrc
    exact Dev.exec_differs hr hstep hphase hm hw hsel hbist hl happ hcrc
  · intro t hm hw hl hmac mac
    obtain ⟨hsame, hdiffer⟩ := Dev.exec_mac hr hstep hphase hm hw hl hmac
    refine ⟨fun heq hdefer => ?_, fun hne => ?_⟩
    · obtain ⟨d, hexec, h⟩ := hsame heq hdefer
      exact ⟨d, hexec, h.phase, h.ready, by rw [h.macOk, hmac]; rfl⟩
    · obtain ⟨hp6, hpart, hready, hcause, hnone, herr, hstarts⟩ := Dev.pass2Fails_spec hr hstep hphase hsel hbist 0
      exact ⟨_, hdiffer hne, hp6, hpart, hready, hcause, hnone, herr, hstarts⟩
  · intro x a v hm hw hl happ hty hok hcrc hmac hdefer hone
    refine ⟨fun r hd hwr hreg habs hp hlock => ?_, ?_⟩
    · exact Dev.exec_plainWord hr hstep hphase hm hw hl happ hty hok hcrc hmac hdefer hone hd hwr hreg habs hp hlock
    · rintro g rfl hg hwr hblock
      exact Dev.exec_run hr hstep hphase hm hw hl happ hty hok hcrc hmac hdefer hone hg hwr hblock
  · intro x y t v g hm hw hl happ hty hok hcrc hone hg hwr happ' hty' hok' hcrc'
    exact Dev.exec_runThenWait hr hstep hphase hm hw hl happ hty hok hcrc hone hg hwr happ' hty' hok' hcrc'
  · intro v hm hw hl hmac
    refine ⟨fun hdefer hwr hblock => ?_, fun m hdefer hwr hmot => ?_⟩
    · exact Dev.exec_grpstart hr hstep hphase hm hw hl hmac hdefer hwr hblock
    · exact Dev.exec_enable hr hstep hphase hm hw hl hmac hdefer hwr hmot

end Sys2Proof.Machine
end
